-- ==== Sys2Proof/Word.lean ====
section
/-! DEFINITION. The word types of the model and its plainest data: field descriptors, sparse stores and variables. -/

namespace Sys2Proof

/-- A byte of memory. -/
abbrev Byte := BitVec 8

/-- Access kinds of a register field (spec/00_scope.md, R14; R660). `own` is an RW or W1C field whose write is a
command of its own in the opcode table: REGISTER_WRITE leaves it to that command. -/
inductive Kind where
  | rw | rwl | rws | ro | wo | w1c | own
  deriving DecidableEq, Repr

/-- A register field: where it lies, how wide it is, how it is accessed, whether its value is kept in MRAM or OTP, and
its reset value by index (channel, entry, bank or word). It is a name, not a piece of state. -/
structure Fld where
  slot : Nat
  off : Nat
  lsb : Nat
  width : Nat
  kind : Kind
  nvm : Bool
  reset : Nat → Nat

/-- The number that identifies a field in the store. -/
def Fld.kid (f : Fld) : Nat := f.slot * 4194304 + f.off * 64 + f.lsb

/-- The active value of an RWS field (R62): the field itself names the shadow, which writes and reads use. -/
def Fld.act (f : Fld) : Fld := { f with slot := f.slot + 0x40, kind := .ro }

/-- A register of the register map: its offset, the repetitions (count, stride) of the layout, whether it is reached
through the channel window, whether it is a 64-bit pair (R61), and its fields. -/
structure Reg where
  off : Nat
  dims : List (Nat × Nat)
  chan : Bool
  pair : Bool
  fields : List Fld

/-- An internal variable of a block, which no register shows as such: a name with its value at reset.
`keep` marks what survives a module reset. -/
structure Vr where
  id : Nat
  init : Int
  keep : Bool := false

/-- A sparse store: values by (identifier, index). An absent key reads as its default. -/
abbrev Store (α : Type) := List ((Nat × Nat) × α)

/-- Initiator of an access: the bank the fabric assigns to it (R58) and whether it is privileged (R56). -/
structure Acc where
  bank : Fin 16
  priv : Bool
  deriving DecidableEq, Repr

end Sys2Proof
end

