-- ==== Sys2Proof/Syntax.lean ====
section
/-! DEFINITION. The commands that the module takes from outside: register operations by an initiator, events at the pins and on
the links, and the instants at which a block's own work comes due. What the module measures or receives at such an event is an
operand of the command. -/

namespace Sys2Proof

/-- What an AGC measures over a millisecond on one path (R115): the converter RMS in LSB and the clipped samples. -/
structure AgcIn where
  rms : Nat
  sat : Nat
  deriving DecidableEq, Repr

/-- What AGC_UPDATE brings: the measurements of the nine paths, and the frame errors that the three sample links had in the millisecond (R139). -/
structure AgcMs where
  paths : List AgcIn
  errs : BitVec 32
  deriving DecidableEq, Repr

/-- A channel whose pull-in ends, with how far the projected code phase (2^-32 ms) and Doppler (mHz) lay from the signal's (R153). -/
structure PullIn where
  ch : Fin 600
  code : Int
  dop : Int
  deriving DecidableEq, Repr

/-- Samples of an acoustic channel, oldest first, as R233 converts them. -/
structure AcuIn where
  ch : Fin 16
  x : List (BitVec 16)
  deriving DecidableEq, Repr

/-- A quantity that SOL measures on a channel: a current in mA, or a junction temperature in degrees Celsius. -/
structure SolMeas where
  ch : Fin 24
  val : BitVec 16
  deriving DecidableEq, Repr

/-- What the two lanes of Firebreak compute wrong in a cycle (R377): the groups for which lane A's and lane B's order is not the one that the group's state
gives, and whether their group states differ without a difference of the orders. -/
structure LaneIn where
  wrongA : BitVec 8
  wrongB : BitVec 8
  states : Bool
  deriving DecidableEq, Repr

/-- The low-side voltage of a channel, mV, at a sample of the end-of-travel search and at those 8 us and 16 us before it (R323). -/
structure KinkIn where
  ch : Fin 24
  now : BitVec 18
  ago8 : BitVec 18
  ago16 : BitVec 18
  deriving DecidableEq, Repr

/-- The high side of a bank: its current in mA, and whether it has failed to reach its rail (R324). -/
structure HsMeas where
  bank : Fin 6
  cur : BitVec 16
  noRail : Bool
  deriving DecidableEq, Repr

/-- The value written to EN of a CAN channel, and the frame on the bus then (R422): 0 none, 1 one that the channel receives, 2 one that it sends; and the ns since
that frame's SOF. -/
structure CanEn where
  en : Bool
  frame : Fin 3
  dur : BitVec 32
  deriving DecidableEq, Repr

/-- Who asks for a reset of a plane (R513, R522): an initiator by SYS_RSTREQ, or the plane itself by one of its eight Management slots. -/
inductive ResetBy where
  | reg (a : Acc)
  | slot (k : Fin 8)
  deriving DecidableEq, Repr

/-- What one integration of a tracking channel yields (R149, R150): the sums, as I and Q, of the tracked component at the offsets -96 to 96 in 1/64 chip from
the prompt tap, those of the noise tap and of the two halves of the prompt tap; the period in ms to which the channel is synchronised (0 none), and the
number of the primary code period within it that the channel is in at the end, which synchronisation finds; the carrier-phase jump against the FLL prediction
in 1/1024 cycle; and the values of the symbols that ended in it, the oldest first. -/
structure TrkIn where
  corr : List (Int × Int)
  nt : Int × Int
  h1 : Int × Int
  h2 : Int × Int
  sync : Nat
  epoch : Nat
  jump : Int
  syms : List Nat
  deriving DecidableEq, Repr

/-- The sum at an offset in 1/64 chip. -/
def TrkIn.tap (o : TrkIn) (off : Int) : Int × Int := o.corr.getD (off + 96).toNat (0, 0)

/-- A sample that the IMU takes on a strobe (R200, R202), in its own axes: the gyro rates in 0.001 degree/s and the accelerations in mg. -/
structure EgoIn where
  gx : Int
  gy : Int
  gz : Int
  ax : Int
  ay : Int
  az : Int
  deriving DecidableEq, Repr

/-- A CAN frame received without error (R399, R404): the identifier and format bits, the word that BUF_FMT shows, the acceptance field and
the payload. -/
structure CanIn where
  ide : Bool
  fdf : Bool
  xlf : Bool
  id : BitVec 29
  fmt : BitVec 32
  af : BitVec 32
  data : List Byte
  deriving DecidableEq, Repr

/-- What the PSC latches for a loop at its sample instant (R268, R277): the voltage at an AIN input in 156.25 uV, or the
frequency at a FREQ input in 0.01 Hz (R643), of the feedback, of each port and of the two
table indices; none where the channel reports a fault or its PSC link is down. -/
structure LoopIn where
  fb : Option (BitVec 32)
  p0 : Option (BitVec 32)
  p1 : Option (BitVec 32)
  p2 : Option (BitVec 32)
  p3 : Option (BitVec 32)
  fri : Option (BitVec 32)
  cog : Option (BitVec 32)
  deriving DecidableEq, Repr

/-- The levels that the two PSCs read from a safe-input pair at a sample (R373): high or not. -/
structure SafeIn where
  hiA : Bool
  hiB : Bool
  deriving DecidableEq, Repr

/-- A frame that has entered the switch at a port (R429): its addresses, its tag (VID and PCP) where it has one, all its bytes, the ns since it passed the
PHY boundary (R434), and on port 8 the sender's PLCA node ID (R440). -/
structure EthIn where
  port : Fin 10
  node : BitVec 8
  dur : BitVec 32
  da : BitVec 48
  sa : BitVec 48
  tag : Option (BitVec 12 × BitVec 3)
  data : List Byte
  deriving DecidableEq, Repr

/-- An IEEE 1722 raw-video packet (R435): the frame that carries it, stream ID, sequence number, avtp_timestamp, the line its data belong to, the byte of
that line at which they start, and the data. -/
structure AvtpIn where
  eth : EthIn
  sid : BitVec 64
  seq : BitVec 8
  ts : BitVec 32
  line : BitVec 16
  off : BitVec 16
  data : List Byte
  deriving DecidableEq, Repr

/-- A HELLO frame that reaches the T9 (R456, R541): the sender's member code, serial, stepping and image lengths, the rate of the link that it
is reached by in Mbit/s, the RECV flag, and where it sits: the head port, and the node and port above it (none for the T9 itself); its hop follows. -/
structure HelloIn where
  member : BitVec 8
  serial : BitVec 64
  step : BitVec 8
  outlen : Fin 65
  inlen : Fin 65
  rate : BitVec 16
  recv : Bool
  hport : Fin 4
  up : Option (Fin 32)
  upport : Fin 4
  deriving DecidableEq, Repr

/-- A BULK DATA frame on a receiving port (R537, R541): port B or A, the push it belongs to, its address, the block and the frame in it, the number of
blocks, the CRC of the whole block, BUILD and 1,024 bytes. -/
structure BulkIn where
  portB : Bool
  id : BitVec 16
  member : BitVec 16
  serial : BitVec 48
  block : BitVec 30
  frame : Fin 4
  total : BitVec 32
  crc : BitVec 32
  build : BitVec 64
  data : List Byte
  deriving DecidableEq, Repr

/-- What a sleeping CAN transceiver sees (R420): the wake-up pattern, a classical frame (rate code, IDE, identifier, DLC, data), or an overflow of its frame
error counter. -/
inductive CanWakeIn where
  | pattern
  | frame (rate : BitVec 2) (ide : Bool) (id : BitVec 29) (dlc : BitVec 4) (data : BitVec 64)
  | overflow
  deriving DecidableEq, Repr

/-- A write access to the configuration space (R44, R47): slot, offset in the slot, length in bytes, the data, least significant byte first,
and whether the initiator is in M mode (R56). With `ufs` it is an access of one word to the UFS host's register file (R470). -/
structure RegIn where
  ufs : Bool
  slot : BitVec 6
  off : BitVec 16
  len : BitVec 8
  data : BitVec 512
  m : Bool
  deriving DecidableEq, Repr

/-- What the check of a slot's image finds that needs cryptography (R515): the key whose hash the manifest's public key has, none where it is neither of
these, 0 the Kadrilvo root, 1 to 4 an OEM slot; whether the signature verifies; and whether every digest that this step compares is equal. -/
structure ImgCheck where
  key : Option (Fin 5)
  sig : Bool
  hashes : Bool
  deriving DecidableEq, Repr

/-- The commands of the module: one constructor per row of spec/opcode_table.json. An operand of type Unit carries nothing (log entry 191). -/
inductive Instr where
  /-- R72. A module reset of any cause resets every register in every slot and holds the module until the reset is released. -/
  | moduleReset (powerUp : Bool)
  /-- R510. At the release of module reset the keeper runs ROM, senses OTP, chooses and verifies a slot, loads and releases the control plane, then waits for DRAM. -/
  | keeperBoot (strap : Bool) (imgA : ImgCheck) (imgB : ImgCheck)
  /-- R503. DRAM training completes and the keeper starts copying and hashing the data-plane components. -/
  | dramTrained
  /-- R510. The data-plane components are verified, the application harts are released and SYS_BOOT.DONE is set. -/
  | dataPlaneLoadDone (img : ImgCheck)
  /-- R513. A control-plane reset turns LSW and SOL outputs off, resets control-plane slots and starts the keeper's reload. -/
  | controlPlaneReset
  /-- R513. The control-plane reload completes and the keeper releases pair A and then pair B. -/
  | controlPlaneRelease (img : ImgCheck)
  /-- R513. A data-plane reset resets data-plane slots, retrains DRAM and starts the data-plane reload. -/
  | dataPlaneReset
  /-- R513. The data-plane reload completes and the application harts are released. -/
  | dataPlaneRelease (img : ImgCheck)
  /-- R22. A keeper fault restarts the keeper alone while the other planes and the mode stay as they are. -/
  | keeperRestart
  /-- R73. A write of 1 to x_CTRL.SRST starts a soft reset of the block, clearing pending applies and shadows. -/
  | softReset (a : Acc) (slot : BitVec 6)
  /-- R73. The soft reset ends within 32 cycles with EN left at 0. -/
  | softResetEnd (slot : BitVec 6)
  /-- R74. After a soft reset of KILN or UPD the keeper writes EN to 1 again within 1 ms. -/
  | keeperReenable (upd : Bool)
  /-- R28. A write to CLR_COMMIT publishes a slot: GEN inverts, SEQ increments, LIVE sets, STALE and WDRN clear and the timers restart. -/
  | clrCommit (a : Acc) (v : BitVec 32)
  /-- R29. A write into a slot buffer is accepted or rejected by writer and published-buffer rules. -/
  | clrBufferWrite (a : Acc) (off : BitVec 16) (l : List Byte)
  /-- R37. The reader writes a slot's STALE_T and WDR_T, which are compared live with the elapsed time. -/
  | clrSlotCfgWrite (a : Acc) (v : BitVec 32)
  /-- R32. STALE_T milliseconds after the last commit, CLR sets the slot's STALE bit. -/
  | staleTimeout (ix : Fin 352)
  /-- R32. WDR_T milliseconds after the last commit, CLR sets WDRN and the slot's orders are withdrawn. -/
  | withdrawalTimeout (ix : Fin 352)
  /-- R660. A write to a register with no row of its own is taken field by field under the access, plane, privilege and lock rules. -/
  | registerWrite (a : Acc) (x : RegIn)
  /-- R45. An access to an unassigned slot gets an error response and SYS_ERR captures it with cause UNMAP. -/
  | configAccessUnmapped (a : Acc) (slot : BitVec 6) (off : BitVec 16) (wr : Bool)
  /-- R57. A write to x_CHSEL sets the channel selected in the writer's bank only. -/
  | chselWrite (a : Acc) (slot : BitVec 6) (ch : BitVec 16)
  /-- R61. A read of the low register of a 64-bit pair copies the high half into the bank's holding register. -/
  | pairLowRead (a : Acc) (slot : BitVec 6) (off : BitVec 16)
  /-- R61. A read of the high register returns the held half and clears the tag, or the present high half. -/
  | pairHighRead (a : Acc) (slot : BitVec 6) (off : BitVec 16)
  /-- R61. A write of the low register of a pair goes into the bank's holding register. -/
  | pairLowWrite (a : Acc) (slot : BitVec 6) (off : BitVec 16) (v : BitVec 32)
  /-- R61. A write of the high register commits both halves together when a low write is held. -/
  | pairHighWrite (a : Acc) (slot : BitVec 6) (off : BitVec 16) (v : BitVec 32)
  /-- R50. A write to x_CTRL.EN starts or stops the block at its next boundary. -/
  | blockEnWrite (a : Acc) (slot : BitVec 6) (en : Bool)
  /-- R50. At the block's boundary after an EN change, RUN rises or falls. -/
  | blockRunChange (slot : BitVec 6)
  /-- R63. A write of 1 to x_APPLY.GO, with or without CHONLY, sets PEND for the covered RWS fields. -/
  | applyGo (a : Acc) (slot : BitVec 6) (chonly : Bool)
  /-- R63. At each covered boundary the shadows are copied into active values; PEND falls and APPLYDONE pulses after the last copy. -/
  | applyCopy (slot : BitVec 6) (unit : Option (Fin 600))
  /-- R89. TIME issues the 1 ms tick of Grove time that drives CLR timers, RWS boundaries and millisecond work. -/
  | msTick
  /-- R81. At a commit to the steering slot TIME reads the record and accepts or rejects it, steering rate and phase. -/
  | steeringRecord
  /-- R83. With no valid record for HOLD_T in SLEW or LOCKED, TIME enters HOLDOVER. -/
  | holdoverTimeout
  /-- R103. A write of TIME_STEER_CFG.SEN enables steering, or ignores the slot and passes SLEW or LOCKED to HOLDOVER. -/
  | steerEnableWrite (a : Acc) (en : Bool)
  /-- R85. At the announced whole second TIME steps Grove time, increments STEPCNT, sets STEPDONE and enters SLEW. -/
  | timeStep
  /-- R88. A write to TIME_SETGO in UNSET loads SETV as an unannounced step and enters FREE. -/
  | timeSetgo (a : Acc)
  /-- R87. When TIME_HOLDERR rises above 10,000 ns, TIME reports a C1 error once per holdover. -/
  | holdoverBoundExceeded
  /-- R91. ETH sends a gPTP Announce with the clock quality of the present TIME state. -/
  | gptpAnnounce (p : Fin 10)
  /-- R433. ETH sends a two-step Sync and follow-up on each gPTP port every 2^-SYNCI s. -/
  | gptpSync (p : Fin 10)
  /-- R433. ETH sends Pdelay_Req every 2^-PDLYI s and updates the mean link delay. -/
  | gptpPdelayReq (p : Fin 10) (ok : Bool) (dly : BitVec 32) (ratio : BitVec 32)
  /-- R433. A received Announce or Sync is counted as FOREIGN and ignored. -/
  | gptpForeign (p : Fin 10)
  /-- R92. Every PERIOD ms a master channel sends the network time reference message from buffer 0. -/
  | canTimeReference (c : Fin 8)
  /-- R96. CFG.EN written 1 arms a trigger entry, skipping late instants. -/
  | trigArm (a : Acc) (e : Fin 16)
  /-- R95. CFG.EN written 0 disarms the entry, letting a pulse in progress complete. -/
  | trigDisarm (a : Acc) (e : Fin 16)
  /-- R95. At INST the entry fires its output, IMU strobe or interrupt, records LAST and advances INST by PERIOD. -/
  | trigFire (e : Fin 16)
  /-- R98. WIDTH after the firing the trigger output returns inactive. -/
  | trigPulseEnd (e : Fin 16)
  /-- R99. At INST − LEAD ETH queues the trigger message for target IDX. -/
  | trigMessageSend (e : Fin 16)
  /-- R109. Every 1 ms GNRF measures each antenna's bias current and updates its state. -/
  | antMeasure (ix : Fin 3) (ma : BitVec 16) (limit : Bool) (volt : Bool)
  /-- R110. One second after a short trip GNRF turns the bias on again and counts the retry. -/
  | antRetry (ix : Fin 3)
  /-- R137. A write of BIASEN turns bias on or off within 1 ms and ends SHORT or SHORTLATCH. -/
  | antBiasWrite (a : Acc) (en : Bool)
  /-- R114. An RF chip's sample link loses lock; its three paths go invalid, LINKDOWN sets and a C1 is reported. -/
  | rfLinkLoss (c : Fin 3)
  /-- R109. The sample link relocks and recalibration begins. -/
  | rfLinkRelock (c : Fin 3)
  /-- R114. Recalibration completes, the paths become valid and antenna states are re-evaluated. -/
  | rfLinkCalibrated (c : Fin 3)
  /-- R112. 200 µs after a BMODE change the retuned paths become valid again. -/
  | bmodeRetuneEnd (c : Fin 3)
  /-- R115. At each 1 ms tick all nine AGCs move their gain towards TARGET. -/
  | agcUpdate (m : AgcMs)
  /-- R116. The spectral monitor takes a 4,096-point FFT of each path and reports NF and PEAKDB. -/
  | spectralScan (p : Fin 9) (bins : List Int) (u : Unit)
  /-- R117. A line above DETTH is assigned to a free or weaker ADAPT notch at the next tick. -/
  | notchAssign (p : Fin 9) (b : Fin 4096) (u : Unit)
  /-- R117. A notch whose line stayed below DETTH − 3 dB for 100 ms is released. -/
  | notchRelease (p : Fin 9) (n : Fin 4)
  /-- R138. GNRF_PATH_CFG.EN written 0 invalidates the path's samples and ends a capture with RFCHG. -/
  | pathDisable (a : Acc) (p : Fin 9)
  /-- R133. ENG_CTRL.GO in IDLE starts the engine's search list at START. -/
  | acqGo (a : Acc)
  /-- R134. ENG_CTRL.ABORT ends the entry in service with ABORTED and returns the engine to IDLE. -/
  | acqAbort (a : Acc)
  /-- R129. The engine reads an entry's configuration and rejects it as INVALID or proceeds. -/
  | acqEntryStart (e : Fin 3)
  /-- R121. At the next 1 ms tick the engine starts capturing the snapshot into DRAM. -/
  | acqCaptureStart (e : Fin 3)
  /-- R121. The snapshot capture of TCOH × NNC ms completes, or ends with RFCHG or FAULT. -/
  | acqCaptureEnd (e : Fin 3) (l : List Byte)
  /-- R126. One window and Doppler bin step of correlation completes. -/
  | acqBinStep (e : Fin 3) (u : Unit) (v : Unit)
  /-- R127. At the end of an entry the engine writes its results and moves to the next entry or ends the list. -/
  | acqEntryEnd (e : Fin 3) (u : Unit)
  /-- R135. A write to an entry's configuration is accepted or refused; CFG0 resets STATUS and FLAGS. -/
  | acqEntryWrite (a : Acc) (e : Fin 3) (ix : Fin 128) (w : Fin 4) (v : BitVec 32)
  /-- R152. CH_CFG.EN written 1 starts the channel from INIT values into PULLIN, or refuses it into LOST. -/
  | trackStart (a : Acc)
  /-- R151. CH_CFG.EN written 0 puts the channel in IDLE at once. -/
  | trackStop (a : Acc)
  /-- R150. A channel completes one integration and updates its DLL, FLL and PLL. -/
  | trackIntegration (c : Fin 600) (o : TrkIn)
  /-- R151. After 100 ms of PULLIN with C/N0 at least LOSSTH the channel enters TRACKF. -/
  | pullinDone (x : PullIn)
  /-- R151. A PULLIN that has not reached TRACKF within 2 s enters LOST with PULLFAIL. -/
  | pullinTimeout (c : Fin 600)
  /-- R151. PLI at least 0.85 for 100 ms takes TRACKF to LOCK. -/
  | phaseLock (c : Fin 600)
  /-- R151. PLI below 0.70 for 20 ms takes LOCK to TRACKF as a slip. -/
  | lockLoss (c : Fin 600)
  /-- R151. C/N0 below LOSSTH over 200 ms puts the channel in COAST. -/
  | coastEntry (c : Fin 600)
  /-- R151. C/N0 back to LOSSTH + 3 dB over 20 ms returns COAST to PULLIN. -/
  | coastRecover (c : Fin 600)
  /-- R151. COAST lasting COAST_T puts the channel in LOST with COASTEND. -/
  | coastEnd (c : Fin 600)
  /-- R155. A CH_HC write with RESOLVE clears HCA and optionally inverts carrier and symbols. -/
  | halfCycleResolve (a : Acc) (resolve : Bool) (inv : Bool)
  /-- R156. A CH_TOW write moves the channel to AMB 2 at the next epoch, or is refused as too old. -/
  | towWrite (a : Acc) (ms : BitVec 16) (seq : BitVec 16)
  /-- R158. At each multiple of EPER all 600 channels latch their measurements in one GNS cycle. -/
  | epochLatch
  /-- R165. Header and records are written to the ring, RING_WR advances and EPOCH is set, or the epoch is dropped. -/
  | epochRecorded
  /-- R166. A channel with NAV writes a symbol record when 32 symbols are collected or it leaves tracking. -/
  | navRecord (c : Fin 600) (u : Unit) (v : Unit) (w : Unit)
  /-- R172. Every 1 ms GNTK compares each path's NF and gain with its references and sets the JAM state. -/
  | jamCheck
  /-- R172. A write of 1 to GNTK_JAM_CFG.LEARN starts averaging NF and gain of every path. -/
  | jamLearn (a : Acc)
  /-- R172. After 10 s of averaging NFREF and GREF are loaded. -/
  | jamLearnDone
  /-- R174. Software writes GNTK_PVT_SPD with speed and epoch. -/
  | pvtSpeedWrite (a : Acc) (seq : BitVec 16) (spd : BitVec 16)
  /-- R175. A GNTK_PVT_YAW write submits the pair, which is rejected or evaluated by the guard. -/
  | pvtSubmit (a : Acc) (sg : Bool) (valid : Bool) (rate : BitVec 16)
  /-- R176. A write of 1 to GNTK_GUARD_CMD.REARM lets SGV rise again when its conditions hold. -/
  | guardRearm (a : Acc)
  /-- R181. GNTP drives the TPULSE edge at T − ADV for each multiple of PERIOD, or gates it. -/
  | timePulse
  /-- R180. WIDTH after the edge TPULSE returns inactive. -/
  | timePulseEnd
  /-- R435. The 1722 listener takes an RVF packet of a stream and writes its lines through DMA. -/
  | avtpPacket (x : AvtpIn)
  /-- R435. At the end-of-frame packet the listener takes ARRIVE and posts the frame to CNPY, or drops it. -/
  | avtpFrameEnd (x : AvtpIn)
  /-- R196. A write to CNPY_SEN_POST posts a lidar scan record, which is time-checked or counted LATE. -/
  | lidarPost (a : Acc) (buf : BitVec 8)
  /-- R198. No frame posted for 3 × FPER puts the sensor in OUT with cause SILENT. -/
  | sensorSilent (ix : Fin 8)
  /-- R226. A write of CNPY_SEN_CFG.EN enters ACQ at the next post or OFF at once. -/
  | sensorEnWrite (a : Acc) (en : Bool)
  /-- R198. CNPY_SEN_CMD.RECHECK takes a sensor in CALFAIL to CHECK. -/
  | sensorRecheck (a : Acc)
  /-- R199. The projection check of a sensor in CHECK ends and the sensor enters IN or CALFAIL. -/
  | calibrationCheckDone (ix : Fin 8) (u : Unit) (v : Unit)
  /-- R199. With no usable bin within 100 bins the sensor enters CALFAIL with NOREF. -/
  | checkNoref (ix : Fin 8)
  /-- R218. A write to CNPY_SWAP requests a calibration bank swap for the named sensors. -/
  | bankSwapRequest (a : Acc) (mask : BitVec 8)
  /-- R209. At Tk CNPY scrolls, fuses, contests and sweeps the grid for bin k. -/
  | gridUpdate (u : Unit)
  /-- R209. The update publishes its header record, GSEQ turns even and GRIDDONE sets. -/
  | gridUpdateDone
  /-- R219. After NACC bins the residual estimator writes a record and sets RESDONE. -/
  | residualRecord (ix : Fin 8) (u : Unit)
  /-- R221. A CNPY_HP_CTRL.GO write queues a software projection job. -/
  | projectionGo (a : Acc) (v : BitVec 32)
  /-- R221. A projection job completes, writes its result and sets HPDONE. -/
  | projectionDone (u : Unit) (v : Unit) (w : Unit)
  /-- R227. CNPY_CLEAR.GO makes the next update clear the whole grid. -/
  | gridClear (a : Acc)
  /-- R202. At each 1 ms tick EGO takes IMU and wheel data and advances pose, speed and DIST. -/
  | egoStep (x : List EgoIn)
  /-- R203. IMUOK or WHLOK at 0 for more than 100 ms drops VALID and stops the pose. -/
  | egoInvalid
  /-- R202. Standstill for 2 s sets STILL and learns the gyro bias. -/
  | egoStill
  /-- R205. CONTRA at 1 for HOLD_T seconds zeroes SLIP and sets SLIPUNK. -/
  | egoSlipUnknown
  /-- R206. EGO_CMD.RESET zeroes pose and DIST at the next step and increments RSTCNT. -/
  | egoReset (a : Acc)
  /-- R223. A JOB_CFG.GO write puts a software job into QUEUED. -/
  | npuJobGo (a : Acc) (j : Fin 64)
  /-- R231. A JOB_CFG.EN write arms a triggered job or makes ARMED and QUEUED jobs IDLE. -/
  | npuJobEnable (a : Acc) (j : Fin 64) (en : Bool)
  /-- R223. The idle NPU starts the highest-PRIO QUEUED job. -/
  | npuJobStart
  /-- R223. A running job completes, or faults, and its slot updates. -/
  | npuJobDone (outs : List (List Byte))
  /-- R223. A job exceeding LIMIT is ABORTED. -/
  | npuJobLimit
  /-- R231. NPU_ABORT aborts the running job as a LIMIT overrun. -/
  | npuAbort (a : Acc)
  /-- R234. An armed acoustic channel's envelope rises above THR and an impact triggers. `x` are the samples up to this one, as R233 converts them. -/
  | acousticImpact (x : AcuIn)
  /-- R235. 239 samples after the trigger the impact is classed grain or other and counted. `x` are the samples up to the 256th from the trigger. -/
  | acousticClassify (c : Fin 16) (x : List (BitVec 16)) (u : Unit) (v : Unit)
  /-- R234. After DEAD, at the first sample below THR/2, the channel rearms. `x` are the samples up to this one. -/
  | acousticRearm (x : AcuIn)
  /-- R234. Each further millisecond of envelope above THR/2 beyond 2 ms is added to PILE. `x` are the samples up to the millisecond's last. -/
  | acousticPile (x : AcuIn)
  /-- R236. At each multiple of WIN the count window ends and WSEQ increments. -/
  | acousticWindowEnd (clip : BitVec 16)
  /-- R237. The window's final counts are committed to the two Telemetry slots. -/
  | acousticPublish
  /-- R239. ACU_SNAP.ARM arms a raw-sample snapshot and clears DONE. -/
  | acousticSnapArm (a : Acc) (c : Fin 16)
  /-- R239. After the next trigger's 448 samples the snapshot is stored and DONE sets. -/
  | acousticSnapDone (l : List (BitVec 16))
  /-- R243. At each 1 ms tick CROP reads the flow record, creates parcels and advances the stage. -/
  | cropTick
  /-- R243. No usable flow record for 100 ms clears FLOWOK and raises FLOWSTALE. -/
  | flowStale
  /-- R246. After GRIDDONE CROP samples the grid into the delay line cells. -/
  | samplingPass
  /-- R250. A parcel whose PROG reaches 2^24 leaves the stage into the arrival log. -/
  | parcelArrival
  /-- R252. At every PER-th tick a tap computes VALUE and commits its record, or commits nothing. -/
  | tapCommit (t : Fin 16)
  /-- R260. A TAP_CFG.EN write starts or stops a tap's commits. -/
  | tapEnable (a : Acc) (t : Fin 16) (en : Bool)
  /-- R249. CROP_CLEAR.LINE clears every line cell and sets DMAX to DIST. -/
  | lineClear (a : Acc)
  /-- R261. CROP_CLEAR.STAGE empties the stage and arrival log at the next tick. -/
  | stageClear (a : Acc)
  /-- R256. At each multiple of YPER CROP forms a yield pair and writes or drops it. -/
  | yieldPair
  /-- R268. At a loop's sample instant the PSC latches its feedback and inputs. -/
  | loopSample (k : Fin 64) (x : LoopIn)
  /-- R270. The lane evaluates the loop's law on the gated order and sends the output. -/
  | loopEvaluate (k : Fin 64)
  /-- R285. The PSC applies the loop output at the driver and OSTAMP is recorded. -/
  | outputApply (k : Fin 64)
  /-- R298. WHL_LP_CFG.EN written 1 enters RUN at the next sample with states cleared. -/
  | loopEnable (a : Acc)
  /-- R284. EN written 0 writes SAFEOUT at the next sample and releases the destination. -/
  | loopDisable (a : Acc)
  /-- R275. WHL_LP_CMD.SWAP requests a bank swap at the loop's next evaluation. -/
  | coeffSwap (a : Acc)
  /-- R275. A WHL_SWAP_HI write requests swaps for the loops in the mask. -/
  | swapMaskWrite (a : Acc) (m : BitVec 64)
  /-- R298. WHL_LP_CMD.CLRSTAT clears DMAX and the conflict and CAN counters. -/
  | loopClearStats (a : Acc)
  /-- R301. WHL_LANECLR clears QMAX of both lanes. -/
  | laneClear (a : Acc)
  /-- R273. A friction or cogging table entry write takes effect at once. -/
  | tableEntryWrite (a : Acc) (cog : Bool) (ix : Fin 1024) (v : BitVec 32)
  /-- R288. PORT_CFG.EN written 1 enables a port, or reports an invalid rank and kind. -/
  | portEnable (a : Acc) (n : Fin 4) (en : Bool)
  /-- R312. A rise of SOL_CH_CMD.ON requests an event and a fall ends it. -/
  | eventRequest (a : Acc) (on : Bool)
  /-- R313. In CURRENT mode a set-point change restarts regulation or puts the channel into DECAY. -/
  | currentSetpoint (a : Acc) (v : BitVec 16)
  /-- R320. SOL_Q_PUSH.PUSH adds an entry to the queue or rejects it. -/
  | queuePush (a : Acc)
  /-- R322. SOL_Q_PUSH.FLUSH empties the queue. -/
  | queueFlush (a : Acc)
  /-- R321. At its START the head entry is requested, or dropped as LATE. -/
  | queueEntryDue (c : Fin 24)
  /-- R314. A waiting request passes the start rules and the event starts in BOOST or PEAK. -/
  | eventStart (c : Fin 24) (rail : BitVec 8)
  /-- R316. A request waiting OVWIN for the peak right is dropped with OVLP. -/
  | overlapDrop (c : Fin 24)
  /-- R317. After 200 µs without a ready converter the event starts from the supply or aborts. -/
  | boostWaitExpiry (c : Fin 24) (rail : BitVec 8)
  /-- R310. The current reaches IPEAK and BOOST passes to PEAK. -/
  | boostPeakReached (m : SolMeas)
  /-- R311. TBMAX passes without IPEAK; NOPEAK sets and the channel continues in PEAK. -/
  | boostTimeout (c : Fin 24)
  /-- R310. TPEAK after entry PEAK passes to HOLD and the peak right is released. -/
  | peakEnd (c : Fin 24)
  /-- R312. DUR expiry or a request fall ends the event and the channel enters DECAY. -/
  | eventEnd (c : Fin 24)
  /-- R310. The current falls below 50 mA and the channel returns to OFF. -/
  | decayEnd (m : SolMeas)
  /-- R323. The decay slope changes by KTH and KINK is recorded. -/
  | kinkDetect (x : KinkIn)
  /-- R323. KWIN passes without a kink; KINK reads 0xFFFF and NOKINK sets. -/
  | kinkWindowEnd (c : Fin 24)
  /-- R324. Low-side current above 25 A turns the channel off into FLTOFF. -/
  | solShort (m : SolMeas)
  /-- R324. A bank high-side short turns the whole bank off into FLTOFF. -/
  | hsShort (m : HsMeas)
  /-- R324. Low-side junction above 175 °C turns the channel off into FLTOFF. -/
  | solOvertemp (m : SolMeas)
  /-- R324. Mean current below 25 % of target for 10 ms sets OPEN. -/
  | solOpenLoad (m : SolMeas)
  /-- R325. SOL_CH_CMD.CLRFLT clears the faults and takes FLTOFF to OFF if the cause is gone. -/
  | solClearFault (a : Acc) (cause : Option (Fin 3))
  /-- R330. SOL_CH_CFG.EN enables the channel, or written 0 enters DECAY at once. -/
  | solChannelEnable (a : Acc) (en : Bool)
  /-- R331. A boost converter EN write starts it charging or stops it. -/
  | boostEnable (a : Acc) (b : Fin 2) (en : Bool)
  /-- R331. A rail out of its window sets FLT and the banks run from the supply. -/
  | boostFault (b : Fin 2) (rail : BitVec 8)
  /-- R331. The rail inside its window for 10 ms clears FLT. -/
  | boostFaultClear (b : Fin 2) (rail : BitVec 8)
  /-- R337. A write of LSW_CH_CMD.ON commands the channel on or off, a turn-on opening the inrush window. -/
  | lswOnWrite (a : Acc) (on : Bool)
  /-- R365. LSW_CH_CFG.EN makes the channel follow its command or turns it off. -/
  | lswChannelEnable (a : Acc) (en : Bool)
  /-- R335. Each millisecond LSW forms the stud sum and updates STUD_AVG. -/
  | studBudgetStep (st : Fin 2)
  /-- R335. Every 10 ms while STUD_AVG exceeds STUDLIM, the highest sheddable channel is shed. -/
  | loadShed (st : Fin 2)
  /-- R336. With nothing left to shed for a further 1 s STUDOV sets and a C1 is reported. -/
  | studOverload (st : Fin 2)
  /-- R336. After 1 s below the limit, shed channels return one every 100 ms. -/
  | shedReturn (st : Fin 2)
  /-- R339. Each converter slot converts one channel's current. -/
  | senseConversion (slot : Fin 48) (cur : BitVec 16)
  /-- R342. Current above the trip level turns the channel off with SC into COOL or LATCH. -/
  | shortCircuitTrip (c : Fin 24) (cur : BitVec 16)
  /-- R343. TIR after a turn-on the trip level returns to 4 × nominal. -/
  | inrushEnd (c : Fin 24)
  /-- R344. Each millisecond the channel's wire temperature model advances. -/
  | wireModelStep (c : Fin 24)
  /-- R346. LSW_CH_CMD.CLRFLT clears a latched channel when TJ and θ allow, leaving a REARM mark. -/
  | lswClearFault (a : Acc)
  /-- R348. Each millisecond PSC0 reads every junction sensor and trips OT or OTABS. -/
  | junctionRead (c : Fin 24) (tj : BitVec 16)
  /-- R350. A channel in COOL meets its restart conditions and restarts, or latches with RETRYX. -/
  | autoRestart (c : Fin 24)
  /-- R351. At each 10 s multiple the restart count returns to 0. -/
  | retryWindow
  /-- R352. Every 10 ms an off channel's output is compared for OPEN and STB. -/
  | openLoadCheck (c : Fin 24) (volt : BitVec 16)
  /-- R353. A stud below 28 V refuses turn-ons on that stud. -/
  | crankHold (st : Fin 2) (mv : BitVec 17)
  /-- R353. The stud reaches 28.5 V and held turn-ons take place. -/
  | crankEnd (st : Fin 2) (mv : BitVec 17)
  /-- R354. A stud below 12 V turns its channels off into HELD. -/
  | brownOut (st : Fin 2) (mv : BitVec 17)
  /-- R354. The stud reaches 28.5 V and the brown-out hold ends. -/
  | brownOutEnd (st : Fin 2) (mv : BitVec 17)
  /-- R355. VSUP below 30 V for 20 ms turns every channel off with cause UV. -/
  | moduleUndervoltage
  /-- R355. VSUP above 33 V for 50 ms ends the UV hold. -/
  | undervoltageEnd
  /-- R356. At t0 + n ms after a hold ends channel n turns on if still commanded. -/
  | staggeredTurnOn (c : Fin 24)
  /-- R357. A PSC without a valid frame for 1 µs holds its outputs. -/
  | pscLinkLoss (p : Fin 2)
  /-- R357. After 2 ms without relock the PSC turns its outputs off with cause LINK and a C2 is reported. -/
  | pscLinkHoldEnd (p : Fin 2)
  /-- R357. The PSC link relocks. -/
  | pscLinkRelock (p : Fin 2)
  /-- R357. LSW_PSC.ACK0 or ACK1 after relock ends the LINK hold. -/
  | pscAck (a : Acc) (p : Fin 2)
  /-- R372. A test source starts its 500 µs low pulse in its slot. -/
  | testPulse (p : Fin 16) (b : Bool)
  /-- R373. Every 100 µs each safe input is sampled, filtered and checked. -/
  | safeInputSample (x : List SafeIn)
  /-- R374. A test source in current limit for 1 ms raises TPSRC. -/
  | testSourceFault (p : Fin 16)
  /-- R375. Channels differing longer than DISC_T put the pair in FAULT. -/
  | discrepancyTimeout (p : Fin 16)
  /-- R377. Each 1 ms cycle both lanes compute every group's state and order cuts. -/
  | fbrkCycle (lanes : LaneIn) (off : BitVec 8)
  /-- R379. A FBRK_RESTART mask takes named groups in WAITRST to CLOSED. -/
  | groupRestart (a : Acc) (m : BitVec 8)
  /-- R388. FBRK_CTRL.EN written 1 checks the CRC and lets RUN rise or fails. -/
  | fbrkEnable (a : Acc) (en : Bool)
  /-- R383. A cut output still high 20 ms after the cut latches all groups. -/
  | readbackFault
  /-- R384. FBRK_RST falls after a 0.2 to 2 s pulse and opens the reset window. -/
  | resetButtonPulse (err : Fin 11)
  /-- R384. The reset window closes 1 s after it opened. -/
  | resetWindowTimeout
  /-- R384. FBRK_RST high longer than 2 s sets STUCK. -/
  | resetButtonStuck
  /-- R384. A key written to FBRK_RESET clears latches whose cause has gone, or is refused. -/
  | faultResetKey (a : Acc) (key : BitVec 16) (src : BitVec 16) (rb : Bool)
  /-- R391. FBRK_CMD.CLRREACT clears MAXR. -/
  | reactClear (a : Acc)
  /-- R404. A frame received without error waits in a holding register with its SOF stamp. -/
  | canFrameReceived (c : Fin 8) (f : CanIn) (dur : BitVec 32)
  /-- R404. The filter engine stores the frame in its buffer or FIFO with NDAT, or rejects it. -/
  | canFrameStored
  /-- R405. TXREQ written 1 enters the buffer into arbitration or is refused. -/
  | transmitRequest (a : Acc) (b : Fin 256)
  /-- R405. A transmission attempt ends with success, lost arbitration or error. -/
  | transmitEnd (c : Fin 8) (b : Fin 260) (res : Fin 5) (dur : BitVec 32)
  /-- R406. BUF_CTRL.ABORT ends a pending request. -/
  | transmitAbort (a : Acc) (b : Fin 256) (tx : Bool)
  /-- R413. The channel enters bus-off and counts BOCNT. -/
  | busOff (c : Fin 8)
  /-- R413. After 128 × 11 recessive bits the channel leaves bus-off. -/
  | busOffRecovery (c : Fin 8)
  /-- R409. A W1C clear of NDAT takes effect unless a store is in progress. -/
  | ndatClear (a : Acc) (n : Fin 8) (v : BitVec 32)
  /-- R411. The channel sends the Firebreak state message every FBPER or after a change. -/
  | firebreakMessage (c : Fin 8)
  /-- R415. ISO_CFG.CLAIM sends Address Claimed and enters CLAIMING. -/
  | addressClaim (a : Acc) (n : Fin 4)
  /-- R415. 250 ms after the claim without a lost contention the NAME is CLAIMED. -/
  | claimSettled (n : Fin 4)
  /-- R416. An Address Claimed from another NAME at the same address is resolved by NAME. -/
  | claimContention (n : Fin 4) (u : Unit)
  /-- R416. After the random delay Cannot Claim is sent and the NAME enters LOST. -/
  | cannotClaim (n : Fin 4)
  /-- R417. A Request for PGN 0x00EE00 is answered with Address Claimed or Cannot Claim. -/
  | claimRequest (n : Fin 4)
  /-- R418. No frame from an address for PTO × 10 ms makes its entry GONE. -/
  | partnerTimeout (sa : Fin 254)
  /-- R422. BUS_CH_CFG.EN starts integration on the bus or leaves it. -/
  | canChannelEnable (a : Acc) (x : CanEn)
  /-- R429. An ingress frame is filtered, learned and forwarded or dropped. -/
  | ethFrameForward (x : EthIn) (occ : BitVec 20)
  /-- R429. A dynamic forwarding entry unseen for 300 s ages out. -/
  | fdbAgeing
  /-- R431. A gate control list interval ends and the next entry's gates apply. -/
  | gateListEntry (p : Fin 10)
  /-- R434. A frame to port 9 is written through an owned receive descriptor. -/
  | hostReceive (q : Fin 8) (u : Unit) (v : Unit) (w : Unit)
  /-- R434. An owned transmit descriptor is sent and optionally stamped. -/
  | hostTransmit (q : Fin 8)
  /-- R459. ETH_PORT_CFG.EN brings the port up or drops its link. -/
  | ethPortEnable (a : Acc) (en : Bool)
  /-- R462. A port's link goes up or down. -/
  | ethLinkChange (p : Fin 10) (up : Bool) (sqi : BitVec 3)
  /-- R444. At Tk the DOWN frame leaves every head port with images and Firebreak state. -/
  | rideCycleStart
  /-- R445. A node's UP frame arrives and its input image is published. -/
  | rideUpReceived (n : Fin 32) (tk : BitVec 64) (img : List Byte) (fb : BitVec 32) (astamp : BitVec 64) (u : Unit)
  /-- R447. RIDE_ND_OCMT.GO commits a node's output image for the next cycle. -/
  | rideOutputCommit (a : Acc)
  /-- R449. Every second the T9 and nodes exchange TIME frames. -/
  | rideTimeExchange
  /-- R456. A link comes up on a Ride port and HELLO frames are exchanged. -/
  | rideLinkUp (up : Option (Fin 32)) (p : Fin 4)
  /-- R456. A node's HELLO attaches it, refuses it, or detaches an old serial. -/
  | rideHello (x : HelloIn)
  /-- R457. Loss of a path detaches the nodes behind it. -/
  | rideLinkDown (up : Option (Fin 32)) (p : Fin 4)
  /-- R466. RIDE_NT_CLR empties every GONE and REFUSED entry. -/
  | rideTableClear (a : Acc)
  /-- R428. RIDE_CFG.PCEN or PDEN takes ETH port 2 or 3, or is refused. -/
  | ridePortTake (a : Acc) (d : Bool) (take_ : Bool)
  /-- R473. A correctable DRAM error is corrected, written back and counted. -/
  | eccCorrectable
  /-- R474. An uncorrectable DRAM error poisons the block and is recorded. -/
  | eccUncorrectable (blk : BitVec 35) (src : BitVec 16)
  /-- R475. The patrol scrubber reads the next block. -/
  | patrolScrub (found : Fin 3)
  /-- R482. A device transaction faults in the IOMMU and enters the fault queue. -/
  | iommuFault (dev : BitVec 12) (iova : BitVec 64) (cause : BitVec 12) (wr : Bool)
  /-- R478. The IOMMU command IOTINVAL.VMA invalidates first-stage translations. -/
  | iotinvalVma
  /-- R478. The IOMMU command IOTINVAL.GVMA invalidates second-stage translations. -/
  | iotinvalGvma
  /-- R478. The IOMMU command IODIR.INVAL_DDT invalidates cached device contexts. -/
  | iodirInvalDdt
  /-- R478. The IOMMU command IOFENCE.C orders completion of earlier commands. -/
  | iofenceC
  /-- R484. DMA_CH_CMD.GO starts a channel's descriptor chain. -/
  | dmaGo (a : Acc)
  /-- R490. At a burst boundary the engine issues for the winning channel, pre-empting lower ones. -/
  | dmaBurstIssue (e : Fin 4) (ret : List (Fin 16))
  /-- R488. A descriptor completes with its completion write and events. -/
  | dmaDescriptorDone (c : Fin 64)
  /-- R494. A faulting transaction puts the channel in PARKING. -/
  | dmaFault (c : Fin 64) (later : Bool)
  /-- R494. Earlier writes are acknowledged; the channel parks and writes its fault record. -/
  | dmaParked (c : Fin 64)
  /-- R496. RESUME continues a parked channel from its park point. -/
  | dmaResume (a : Acc)
  /-- R496. SKIP ends the descriptor as SKIPPED and continues. -/
  | dmaSkip (a : Acc)
  /-- R496. ABORT returns the channel to IDLE, through ABORTING if active. -/
  | dmaAbort (a : Acc)
  /-- R497. Issued transactions of an ABORTING channel complete and it becomes IDLE. -/
  | dmaAbortDone (c : Fin 64)
  /-- R502. DMA_ENG_CLR.CLRMAX clears MAXINF. -/
  | dmaEngineClear (a : Acc) (e : Fin 4)
  /-- R508. A pair's compare error stops it; the keeper logs C3 and starts a control-plane reset. -/
  | lockstepMismatch (b : Bool) (out : BitVec 8)
  /-- R509. SYS_LSTEP_INJ forces a mismatch in SERVICE, or is refused. -/
  | lockstepInject (a : Acc) (pa : Bool) (pb : Bool)
  /-- R514. The watchdog slot uncommitted for PERIOD starts a data-plane reset. -/
  | dataPlaneWatchdog
  /-- R522. SYS_RSTREQ.CTL requests a control-plane reset. -/
  | resetRequestCtl (x : ResetBy)
  /-- R522. SYS_RSTREQ.DATA requests a data-plane reset. -/
  | resetRequestData (x : ResetBy)
  /-- R522. SYS_RSTREQ.MOD requests a module reset. -/
  | resetRequestModule (a : Acc)
  /-- R520. LCS_CREQ.GO presents a challenge in LCS_CHAL. -/
  | challengeRequest (a : Acc) (kind : BitVec 2) (target : BitVec 3) (key : BitVec 2)
  /-- R520. LCS_RCMD.SUBMIT checks the signature and unlocks or refuses. -/
  | responseSubmit (a : Acc) (sig : Bool)
  /-- R520. A challenge expires 60 s after it was presented. -/
  | challengeExpiry
  /-- R535. The STAGE command starts writing the image into the inactive slot. -/
  | updStage
  /-- R537. The PUSH command starts sending an image along the Ride link. -/
  | updPush
  /-- R534. The ACTIVATE command makes the STORED slot TRY or is forwarded to nodes. -/
  | updActivate (ctl : Bool)
  /-- R531. The CONFIRM command makes the TRIAL slot CONFIRMED in one MRAM update. -/
  | updConfirm (ctl : Bool)
  /-- R534. The STATUS command returns the update state. -/
  | updStatus (ctl : Bool)
  /-- R539. The ABORT command ends a running transfer, leaving the slot in WRITING. -/
  | updAbort (ctl : Bool)
  /-- R534. The REBOOT command starts a module reset in SERVICE. -/
  | updReboot (ctl : Bool)
  /-- R534. The SREAD command returns 64 bytes of a settings area. -/
  | updSread (ctl : Bool)
  /-- R536. The SWRITE command writes 64 bytes of the present settings area. -/
  | updSwrite (ctl : Bool)
  /-- R533. A command record with an unlisted opcode is answered BADARG. -/
  | updBadOpcode (ctl : Bool)
  /-- R535. A 4 KiB block write to NOR completes. -/
  | norBlockWrite (ok : Bool)
  /-- R535. After the last block the slot is read back and becomes STORED. -/
  | stageDone
  /-- R530. CONFTO seconds in TRIAL start a module reset. -/
  | trialTimeout
  /-- R532. Both planes running 300 s without a failing reset returns the run-fail count to 0. -/
  | runProven
  /-- R541. A receiving port takes a BULK DATA frame and stores the block or drops it. -/
  | bulkDataReceived (x : BulkIn)
  /-- R538. An ACK advances the pusher's window. -/
  | bulkAckReceived (n : Fin 32) (hi : BitVec 30)
  /-- R538. No ACK advance for 50 ms resends from the last ACK plus 1. -/
  | pushResend
  /-- R545. UPD_BLK_GO stores the block in the window under R535. -/
  | updBlockGo (a : Acc)
  /-- R550. SEG_COMMIT.GO marks changed lines pending against the staging image. -/
  | panelCommit (a : Acc) (full : Bool)
  /-- R548. The next pending line samples its band and starts its reset phase once the rails are in window. -/
  | panelLineStart (vr : BitVec 8) (vs : BitVec 8)
  /-- R548. TR after start the line enters its select phase. -/
  | panelSelectPhase
  /-- R548. TS after select the line enters its evolve phase. -/
  | panelEvolvePhase
  /-- R553. The evolve phase ends and the journal record is written. -/
  | panelLineEnd (ok : Bool)
  /-- R549. Rails not in window within 5 ms set GENFLT and stop writing. -/
  | generatorTimeout
  /-- R551. Every 100 ms PSC0 reads the panel temperature and selects the band. -/
  | panelTempRead (t : Option (BitVec 12))
  /-- R552. SEG_CMD.STRCLR clears all stress counters in SERVICE. -/
  | stressClear (a : Acc)
  /-- R568. A block report reaches SAGR or SHRD, gets a SEQ and is placed in service or queued. -/
  | errorReport
  /-- R570. SHRD writes the next intake record to MRAM and reads it back. -/
  | recordWrite (ok1 : Bool) (ok2 : Bool)
  /-- R571. A LOG command logs a software record, raising C1 to C3 in Saggar. -/
  | shrdLog (ctl : Bool)
  /-- R571. A READ command returns one record. -/
  | shrdRead (ctl : Bool)
  /-- R571. A malformed Sherd command is answered BADARG. -/
  | shrdBadCommand (ctl : Bool)
  /-- R575. SAGR_ACK acknowledges the entry in service and the queue head enters service. -/
  | sagrAck (a : Acc) (seq : BitVec 32)
  /-- R581. SAGR_RAISE.GO raises a software error with the bank's payload. -/
  | sagrRaise (a : Acc) (cls : Fin 4) (code : BitVec 16)
  /-- R591. A KILN_RUN write requests runs of the named regions. -/
  | kilnRunRequest (a : Acc) (mask : BitVec 7)
  /-- R593. A RUN command in the Management slot requests Kiln runs. -/
  | kilnRunCommand
  /-- R589. The region halts and KILN saves its flops and applies patterns. -/
  | kilnQuiesced
  /-- R585. All P patterns are applied and the region's flops are restored. -/
  | kilnPatternDone (diff : BitVec 64) (ecc : Bool)
  /-- R594. The MISR is compared, RESULT recorded and the next region started. -/
  | kilnRunEnd
  /-- R597. Each hour of released control plane increments AGE and may set DUE. -/
  | kilnAgeHour
  /-- R603. CONE_SWEEP_GO starts a counter sweep. -/
  | coneSweepGo (a : Acc)
  /-- R603. A periodic sweep starts every PERIOD ms. -/
  | coneSweepPeriodic
  /-- R602. The sweep buffer is complete and SWEEPDONE sets. -/
  | coneSweepDone
  /-- R611. VSUP below 12 V for 100 µs announces supply loss. -/
  | supplyLoss
  /-- R612. VSUP back above 12 V within 15 ms clears SUPLOSS. -/
  | supplyReturn
  /-- R612. 15 ms after the loss PWR starts a module reset. -/
  | holdupExpiry
  /-- R613. A PWR_HB write is accepted as a heartbeat or refused. -/
  | heartbeat (a : Acc) (key : BitVec 16)
  /-- R615. A missed deadline cuts both PSCs, logs C2 and requests a control-plane reset. -/
  | deadmanExpiry
  /-- R617. After IDLET µs of idleness PWR enters L1. -/
  | idleEntry
  /-- R617. An interrupt to an application hart returns the module to L0. -/
  | idleExit
  /-- R621. A MODE request is accepted, held or refused. -/
  | modeRequest (ctl : Bool)
  /-- R620. A STATUS request returns mode and ladder state. -/
  | modeStatus (ctl : Bool)
  /-- R626. ACKSHUT from the data plane ends step 1 of the shutdown sequence. -/
  | shutdownAck (ctl : Bool)
  /-- R620. A malformed mode request is answered BADARG. -/
  | modeBadRequest (ctl : Bool)
  /-- R623. DATAUP at 0 for LIMP_T ms in ROAD or HARVEST enters LIMP. -/
  | limpEntry
  /-- R623. DATAUP at 1 for 1 s returns to the mode left. -/
  | limpExit
  /-- R624. A rising PWR_WAKE edge wakes the module to ROAD. -/
  | wakeLine
  /-- R420. A CAN wake pattern or frame wakes the module with CANACT. -/
  | canWake (c : Fin 8) (x : CanWakeIn)
  /-- R624. A Ride link-up wakes the module with RIDEACT. -/
  | rideWake (p : Fin 2)
  /-- R624. The AON time reaching ALARM wakes the module with TMRACT. -/
  | timerWake
  /-- R651. A start bit on MON_RXD in L4 or L5 wakes the keeper. -/
  | monitorWake
  /-- R624. 10 s after the last line served the module returns to its ladder state. -/
  | monitorWakeEnd
  /-- R625. PWR_WAKE low for KEYOFF_T commits a SHUTDOWN notice. -/
  | shutdownNotice
  /-- R625. The line rising before acceptance withdraws the notice. -/
  | shutdownWithdrawn
  /-- R625. SHUT_T after the notice PWR forces PARKED. -/
  | shutdownForced
  /-- R626. DPGRACE expiry ends step 1 of the shutdown sequence. -/
  | parkingGraceEnd
  /-- R626. Every block reports quiet and PWR powers the planes down. -/
  | controlPlaneQuiet
  /-- R626. T3 or T4 expiry moves PARKED to L4 or L5. -/
  | ladderDescend
  /-- R652. The HELLO command returns serial, states and steppings. -/
  | monHello
  /-- R652. The LOG command returns Sherd records. -/
  | monLog (idx : BitVec 32) (n : BitVec 8)
  /-- R652. The RD command performs one 32-bit read. -/
  | monRd (addr : BitVec 40)
  /-- R652. The WR command performs one 32-bit write. -/
  | monWr (addr : BitVec 40) (v : BitVec 32)
  /-- R652. The MODE command makes a Glade mode request. -/
  | monMode (t : BitVec 8)
  /-- R652. The KILN command requests Kiln runs. -/
  | monKiln (mask : BitVec 7)
  /-- R652. The CHAL command requests a debug or transition challenge. -/
  | monChal (kind : BitVec 2) (target : BitVec 3) (key : BitVec 2)
  /-- R652. The RESP command submits a signed response. -/
  | monResp (r : BitVec 384) (t : BitVec 384) (sig : Bool)
  /-- R655. The BLK command delivers one 4 KiB image block into UPD. -/
  | monBlk (n : BitVec 32) (total : BitVec 32) (crc : BitVec 32) (l : List Byte)
  /-- R652. The RESET command requests a module reset. -/
  | monReset
  /-- R649. A line with a bad CRC is discarded and answered ER 1. -/
  | monCrcError
  /-- R652. An unknown command word is answered ER 2. -/
  | monSyntaxError
  /-- R649. A line not complete within 1 s is discarded and answered ER 8. -/
  | monLineTimeout
  /-- R655. Block data not complete within 2 s is discarded with ER 8. -/
  | monBlockTimeout
  /-- R22. The restarted keeper comes back up, MGTUP rises again, held mode transitions and waiting commands proceed and Kiln replies are sent. -/
  | keeperReturn
  /-- R412. A channel in INTEG (after EN or a protocol exception) finds the bus idle and enters ACTIVE. -/
  | canIntegrationEnd (c : Fin 8)
  /-- R412. An error detected on a channel while it receives raises its error counters and may take it to PASSIVE. -/
  | canBusError (c : Fin 8) (big : Bool)
  /-- R424. A transceiver reports TXD dominant timeout or overtemperature, TRXFLT rises and a C1 with BCODE 0x9 is reported. -/
  | transceiverFault (c : Fin 8) (f : Bool)
  /-- R305. A boost converter's rail reaches VRDY per cent of its present target after enable or after a sag, and RDY rises. -/
  | boostRailReady (b : Fin 2) (rail : BitVec 8)
  /-- R384. FBRK_RST rises, its filtered edge starts the pulse-length measurement of the fault reset sequence. -/
  | resetButtonRise
  /-- R625. PWR_WAKE falls, LINE goes low and the KEYOFF_T count towards a SHUTDOWN notice starts. -/
  | wakeLineFall
  /-- R454. The DOWN frame copy sent on one ring port comes back to the T9 on the opposite port and proves the ring. -/
  | rideRingReturn
  deriving DecidableEq, Repr

end Sys2Proof
end

