-- ==== Sys2Proof/Config.lean ====
section
/-! DEFINITION. What one unit or one run fixes and the spec leaves open. Every constant here has no body: nothing in Lean
can evaluate it, and a claim about the model holds whatever it is (assumption log, entries 2 and 3). -/

namespace Sys2Proof.Config

/-- Free values: what the spec leaves open at the n-th use. `n` is the counter `Dev.free`, which the use advances. -/
opaque free : Nat → Nat

/-- The module base MAC address in OTP (R461). -/
opaque otpMac : Nat

/-- The serial number in OTP (R520, R537). -/
opaque otpSerial : Nat

/-- What DRAM, SRAM and the TCMs hold after an event that loses their contents or leaves them undefined (R503, R525): address and byte pairs, by the
free value's number. -/
opaque dramLost : Nat → List (Nat × Byte)

/-- CODE, INST and VER of a block, by its slot (spec/00_scope.md, after R11): CODE and VER are fixed per block and not given. -/
opaque blockId : Nat → Nat

/-- AIN_CAP, for which the spec gives no value. -/
opaque ainCap : Nat

/-- The keeper's boot ROM: by address. -/
opaque romWord : Nat → Nat

/-- The readable OTP words of LCS page 1 (R524), whose layout is not given: by offset and by the fuses burned. -/
opaque otpWord : Nat → Nat → Nat

/-- Golden signature of a Kiln region in OTP (R587, R607). -/
opaque kilnGold : Nat → Nat

/-- Seed of a Kiln region in OTP (R587, R607). -/
opaque kilnSeed : Nat → Nat

/-- The MISR that a fault-free region leaves after a number of patterns from a PRPG seed (R587): the logic of the regions is not given. By region, seed and
patterns. -/
opaque kilnMisr : Nat → Nat → Nat → Nat

/-- Cosine and sine, in units of 2^-30, of an angle in units of 2^-32 turn, as EGO computes them (R202): the spec gives no precision. -/
opaque cosT : Nat → Int

/-- As cosT, the sine. -/
opaque sinT : Nat → Int

/-- The frequency correction that the steering loop takes up, from its present one and the record's frequency error, both in 1/256 ppb (R81 to R83):
the rules give the loop no filter. -/
opaque steerFreq : Int → Int → Int

/-- How long a CAN feedback stays fresh after a frame, ms (R279 names an MSGT for it, and no register of a loop's feedback holds one). -/
opaque fbMsgt : Nat

/-- The replica with which an acquisition engine correlates (R124, R125): for the signal code, PRN, GLONASS channel and Doppler in Hz, at sample `k` of
the snapshot and code position `pos`, both in samples of the signal's rate. The rules give neither the codes nor its number format. -/
opaque replica : (sig prn glok : Nat) → (dop : Int) → (k pos : Nat) → Int × Int

/-- The magnitude of a correlator sum, as GNTK forms it (R149, R150). -/
opaque envelope : Int × Int → Nat

/-- The angle of a correlator sum in units of 2^-32 turn (R150). -/
opaque angle : Int × Int → Int

/-- What a loop of a tracking channel adds to its NCO over one integration (R150): loop (0 DLL in 2^-32 ms, 1 FLL in mHz, 2 PLL in mHz, 3 the rate of an unaided
DLL in mHz), order, bandwidth in the units of its register, integration length in ms, the discriminator's numerator and denominator, and the filter's memory.
The rules give the filters' orders and bandwidths and not their coefficients. -/
opaque loopOut : (loop order bw len : Nat) → (num den mem : Int) → Int

/-- What that filter then remembers. -/
opaque loopMem : (loop order bw len : Nat) → (num den mem : Int) → Int

/-- C/N0 in 0.1 dB-Hz from the prompt and noise-tap powers summed over the last 200 ms (R163). -/
opaque cn0 : (prompt noise : Int) → Nat

/-- The phase-lock indicator in 1/1024 of one integration's prompt sum, for a data or a pilot component (R151). -/
opaque pli : (data : Bool) → Int × Int → Nat

/-- The ideal MP tap amplitude of a signal at an offset in 1/64 chip, for a prompt amplitude (R163). -/
opaque mpIdeal : (sig : Nat) → (off : Int) → (prompt : Nat) → Int

/-- The image point that the Brown-Conrady model with these coefficients takes to the given one (R210, R217): the model has no inverse in closed form. -/
opaque undistort : (k : List ℚ) → (x y : ℚ) → ℚ × ℚ

/-- A correction that the residual estimator finds (R219) from the cells compared and their differences in 2^-24 m: 0 to 2 for roll, pitch and yaw in µrad, 3 to 5
for x, y and z in 0.1 mm, 6 for the RMS residual after correction in mm. The rules give no method. -/
opaque residual : (cells : List (Int × Int)) → (part : Nat) → Int

/-- The 8-bit luminance in which a projection's raster shows a height in m (R221): the rules give no scale. -/
opaque heightLum : ℚ → Nat

/-- The output of the high-pass filter of an acoustic channel with its corner in kHz, sample by sample (R233). The rules give the filters' corners and not their
order. -/
opaque acuHigh : (kHz : Nat) → (samples : List Int) → List Int

/-- A rectified signal smoothed with a time constant of 16 µs, at its last sample (R234). -/
opaque acuSmooth : (rectified : List Nat) → Nat

/-- The output of a band-pass filter of an acoustic channel at the last of its samples (R235), by its centre in kHz, from the signal before and after the high-pass
filter: the rules do not say which of the two it takes. -/
opaque acuBand : (kHz : Nat) → (before after : List Int) → Int

/-- The mean current, mA, in the low side of a solenoid channel over the 20 us before an instant: the spec gives how it is measured, and the valve decides it
(R327). -/
opaque solCurrent : (ch : Nat) → (uptime : Int) → Nat

end Sys2Proof.Config
end

