-- ==== Sys2Proof/Machine/Fields.lean ====
section
/-! DEFINITION. The register fields of every block, one constant a field, from the register tables of spec/.
Each constant holds the slot, the offset in the slot, the lowest bit, the width, the access kind, whether the value is kept in
non-volatile memory, and the reset value by index. A 64-bit pair is one field at the low register. The slot number 0x80 stands for the
first page that every block has (R49); its index is the block's slot. -/

namespace Sys2Proof.F

/-- R50 COM_CTRL[0], RW, reset by index. -/
def COM_CTRL_EN : Fld := ⟨0x80, 0x8, 0, 1, .own, false, fun i => if i ∈ ([0x00, 0x01, 0x02, 0x03, 0x04, 0x05, 0x07, 0x0B, 0x30, 0x31] : List Nat) then 1 else 0⟩
/-- R50 COM_CTRL[1], WO, reset 0. -/
def COM_CTRL_SRST : Fld := ⟨0x80, 0x8, 1, 1, .wo, false, fun _ => 0⟩
/-- R50 COM_CTRL[7:4], RWL, reset 0. -/
def COM_CTRL_MODE : Fld := ⟨0x80, 0x8, 4, 4, .rwl, false, fun _ => 0⟩
/-- R51 COM_STAT[0], RO, reset 0. -/
def COM_STAT_RUN : Fld := ⟨0x80, 0xC, 0, 1, .ro, false, fun _ => 0⟩
/-- R51 COM_STAT[1], RO, reset 0. -/
def COM_STAT_BUSY : Fld := ⟨0x80, 0xC, 1, 1, .ro, false, fun _ => 0⟩
/-- R51 COM_STAT[2], RO, reset 0. -/
def COM_STAT_CFGLOCK : Fld := ⟨0x80, 0xC, 2, 1, .ro, false, fun _ => 0⟩
/-- R51 COM_STAT[3], RO, reset 0, but 1 where a condition of FAULT holds at reset: no trained DRAM (R498), UV (R628). -/
def COM_STAT_FAULT : Fld := ⟨0x80, 0xC, 3, 1, .ro, false, fun i => if i = 0x01 ∨ i = 0x08 then 1 else 0⟩
/-- R52 COM_IRQ_RAW[31:0], RO, reset 0. -/
def COM_IRQ_RAW_V : Fld := ⟨0x80, 0x10, 0, 32, .ro, false, fun _ => 0⟩
/-- R52 COM_IRQ_STAT[31:0], W1C, reset 0. -/
def COM_IRQ_STAT_V : Fld := ⟨0x80, 0x14, 0, 32, .w1c, false, fun _ => 0⟩
/-- R52 COM_IRQ_EN[31:0], RW, reset 0. -/
def COM_IRQ_EN_V : Fld := ⟨0x80, 0x18, 0, 32, .rw, false, fun _ => 0⟩
/-- R53 COM_ERR[0], RO, reset 0. -/
def COM_ERR_LOCKWR : Fld := ⟨0x80, 0x1C, 0, 1, .ro, false, fun _ => 0⟩
/-- R53 COM_ERR[1], RO, reset 0. -/
def COM_ERR_CHRANGE : Fld := ⟨0x80, 0x1C, 1, 1, .ro, false, fun _ => 0⟩
/-- R53 COM_ERR[2], RO, reset 0. -/
def COM_ERR_PRIV : Fld := ⟨0x80, 0x1C, 2, 1, .ro, false, fun _ => 0⟩
/-- R53 COM_ERR[3], RO, reset 0. -/
def COM_ERR_PLANE : Fld := ⟨0x80, 0x1C, 3, 1, .ro, false, fun _ => 0⟩
/-- R53 COM_ERR[4], RO, reset 0. -/
def COM_ERR_APPLYPEND : Fld := ⟨0x80, 0x1C, 4, 1, .ro, false, fun _ => 0⟩
/-- R53 COM_ERR[5], RO, reset 0. -/
def COM_ERR_UNMAP : Fld := ⟨0x80, 0x1C, 5, 1, .ro, false, fun _ => 0⟩
/-- R53 COM_ERR[6], RO, reset 0. -/
def COM_ERR_SIZE : Fld := ⟨0x80, 0x1C, 6, 1, .ro, false, fun _ => 0⟩
/-- R53 COM_ERR[7], RO, reset 0. -/
def COM_ERR_BLK : Fld := ⟨0x80, 0x1C, 7, 1, .ro, false, fun _ => 0⟩
/-- R53 COM_ERR[11:8], RO, reset 0. -/
def COM_ERR_BCODE : Fld := ⟨0x80, 0x1C, 8, 4, .ro, false, fun _ => 0⟩
/-- R53 COM_ERR[15:12], RO, reset 0. -/
def COM_ERR_BANK : Fld := ⟨0x80, 0x1C, 12, 4, .ro, false, fun _ => 0⟩
/-- R53 COM_ERR[29:16], RO, reset 0. -/
def COM_ERR_WOFF : Fld := ⟨0x80, 0x1C, 16, 14, .ro, false, fun _ => 0⟩
/-- R53 COM_ERR[30], RO, reset 0. -/
def COM_ERR_MORE : Fld := ⟨0x80, 0x1C, 30, 1, .ro, false, fun _ => 0⟩
/-- R53 COM_ERR[31], W1C, reset 0. -/
def COM_ERR_VALID : Fld := ⟨0x80, 0x1C, 31, 1, .w1c, false, fun _ => 0⟩
/-- R54 COM_APPLY[0], WO, reset 0. -/
def COM_APPLY_GO : Fld := ⟨0x80, 0x20, 0, 1, .wo, false, fun _ => 0⟩
/-- R54 COM_APPLY[1], WO, reset 0. -/
def COM_APPLY_CHONLY : Fld := ⟨0x80, 0x20, 1, 1, .wo, false, fun _ => 0⟩
/-- R54 COM_APPLY[31], RO, reset 0. -/
def COM_APPLY_PEND : Fld := ⟨0x80, 0x20, 31, 1, .ro, false, fun _ => 0⟩
/-- R55 COM_OWNER[8], RW, reset 0. -/
def COM_OWNER_UCNT : Fld := ⟨0x80, 0x24, 8, 1, .rw, false, fun _ => 0⟩
/-- R599 COM_CONE_SEL[9:0], RW, reset 0. -/
def COM_CONE_SEL_EVT : Fld := ⟨0x80, 0x30, 0, 10, .rw, false, fun _ => 0⟩
/-- R599 COM_CONE_SEL[10], RW, reset 0. -/
def COM_CONE_SEL_EN : Fld := ⟨0x80, 0x30, 10, 1, .rw, false, fun _ => 0⟩
/-- R599 COM_CONE_SEL[13:12], RW, reset 0. -/
def COM_CONE_SEL_CMODE : Fld := ⟨0x80, 0x30, 12, 2, .rw, false, fun _ => 0⟩
/-- R599 COM_CONE_SEL[19:16], RW, reset 0. -/
def COM_CONE_SEL_OCC : Fld := ⟨0x80, 0x30, 16, 4, .rw, false, fun _ => 0⟩
/-- R599 COM_CONE_SEL[31:20], RW, reset 0. -/
def COM_CONE_SEL_THR : Fld := ⟨0x80, 0x30, 20, 12, .rw, false, fun _ => 0⟩
/-- R600 COM_CONE_CNT[47:0], RW, reset 0. -/
def COM_CONE_CNT_V : Fld := ⟨0x80, 0x40, 0, 48, .rw, false, fun _ => 0⟩
/-- R600 COM_CONE_CNT[63], W1C, reset 0. -/
def COM_CONE_CNT_WRAP : Fld := ⟨0x80, 0x40, 63, 1, .w1c, false, fun _ => 0⟩
/-- R57 COM_CHSEL[15:0], RW, reset 0. -/
def COM_CHSEL_CH : Fld := ⟨0x80, 0x80, 0, 16, .own, false, fun _ => 0⟩
/-- R522 SYS_RSTC[3:0], RO, reset 0x1. -/
def SYS_RSTC_CAUSE : Fld := ⟨0x00, 0x800, 0, 4, .ro, false, fun _ => 1⟩
/-- R522 SYS_RSTC[31:16], RO, reset kept in MRAM. -/
def SYS_RSTC_CNT : Fld := ⟨0x00, 0x800, 16, 16, .ro, true, fun _ => 0⟩
/-- R522 SYS_BOOT[0], RO, reset 0. -/
def SYS_BOOT_DONE : Fld := ⟨0x00, 0x804, 0, 1, .ro, false, fun _ => 0⟩
/-- R522 SYS_BOOT[1], RO, reset 0. -/
def SYS_BOOT_STRAP : Fld := ⟨0x00, 0x804, 1, 1, .ro, false, fun _ => 0⟩
/-- R522 SYS_BOOT[3:2], RO, reset 0b11. -/
def SYS_BOOT_SLOT : Fld := ⟨0x00, 0x804, 2, 2, .ro, false, fun _ => 3⟩
/-- R522 SYS_BOOT[15:8], RO, reset 0x00. -/
def SYS_BOOT_SVN : Fld := ⟨0x00, 0x804, 8, 8, .ro, false, fun _ => 0⟩
/-- R522 SYS_REL[0], RO, reset 0. -/
def SYS_REL_PA : Fld := ⟨0x00, 0x808, 0, 1, .ro, false, fun _ => 0⟩
/-- R522 SYS_REL[1], RO, reset 0. -/
def SYS_REL_PB : Fld := ⟨0x00, 0x808, 1, 1, .ro, false, fun _ => 0⟩
/-- R522 SYS_REL[2], RO, reset 0. -/
def SYS_REL_DP : Fld := ⟨0x00, 0x808, 2, 1, .ro, false, fun _ => 0⟩
/-- R522 SYS_RSTREQ[0], WO, reset 0. -/
def SYS_RSTREQ_CTL : Fld := ⟨0x00, 0x80C, 0, 1, .wo, false, fun _ => 0⟩
/-- R522 SYS_RSTREQ[1], WO, reset 0. -/
def SYS_RSTREQ_DATA : Fld := ⟨0x00, 0x80C, 1, 1, .wo, false, fun _ => 0⟩
/-- R522 SYS_RSTREQ[2], WO, reset 0. -/
def SYS_RSTREQ_MOD : Fld := ⟨0x00, 0x80C, 2, 1, .wo, false, fun _ => 0⟩
/-- R522 SYS_CPRST[3:0], RO, reset 0x0. -/
def SYS_CPRST_CAUSE : Fld := ⟨0x00, 0x810, 0, 4, .ro, false, fun _ => 0⟩
/-- R522 SYS_CPRST[31:16], RO, reset 0x0000. -/
def SYS_CPRST_CNT : Fld := ⟨0x00, 0x810, 16, 16, .ro, false, fun _ => 0⟩
/-- R522 SYS_DPRST[3:0], RO, reset 0x0. -/
def SYS_DPRST_CAUSE : Fld := ⟨0x00, 0x814, 0, 4, .ro, false, fun _ => 0⟩
/-- R522 SYS_DPRST[31:16], RO, reset 0x0000. -/
def SYS_DPRST_CNT : Fld := ⟨0x00, 0x814, 16, 16, .ro, false, fun _ => 0⟩
/-- R522 SYS_DPWD[8:0], RW, reset 0x158. -/
def SYS_DPWD_SLOT : Fld := ⟨0x00, 0x818, 0, 9, .rw, false, fun _ => 0x158⟩
/-- R522 SYS_DPWD[31:16], RW, reset 0x03E8. -/
def SYS_DPWD_PERIOD : Fld := ⟨0x00, 0x818, 16, 16, .rw, false, fun _ => 0x3e8⟩
/-- R522 SYS_LSTEP[7:0], RO, reset 0x00. -/
def SYS_LSTEP_CMPA : Fld := ⟨0x00, 0x820, 0, 8, .ro, false, fun _ => 0⟩
/-- R522 SYS_LSTEP[15:8], RO, reset 0x00. -/
def SYS_LSTEP_CMPB : Fld := ⟨0x00, 0x820, 8, 8, .ro, false, fun _ => 0⟩
/-- R522 SYS_LSTEP_INJ[0], WO, reset 0. -/
def SYS_LSTEP_INJ_INJA : Fld := ⟨0x00, 0x824, 0, 1, .wo, false, fun _ => 0⟩
/-- R522 SYS_LSTEP_INJ[1], WO, reset 0. -/
def SYS_LSTEP_INJ_INJB : Fld := ⟨0x00, 0x824, 1, 1, .wo, false, fun _ => 0⟩
/-- R522 SYS_BOOTT[31:0], RO, reset 0x0000_0000. -/
def SYS_BOOTT_MS : Fld := ⟨0x00, 0x828, 0, 32, .ro, false, fun _ => 0⟩
/-- R523 SYS_STEP0[7:0], RO, reset read at boot. -/
def SYS_STEP0_SOC : Fld := ⟨0x00, 0x1000, 0, 8, .ro, false, fun _ => 0xb0⟩
/-- R523 SYS_STEP0[15:8], RO, reset read at boot. -/
def SYS_STEP0_PSC0 : Fld := ⟨0x00, 0x1000, 8, 8, .ro, false, fun _ => 0xa2⟩
/-- R523 SYS_STEP0[23:16], RO, reset read at boot. -/
def SYS_STEP0_PSC1 : Fld := ⟨0x00, 0x1000, 16, 8, .ro, false, fun _ => 0xa2⟩
/-- R523 SYS_STEP1[7:0], RO, reset read at boot. -/
def SYS_STEP1_RF0 : Fld := ⟨0x00, 0x1004, 0, 8, .ro, false, fun _ => 0xa1⟩
/-- R523 SYS_STEP1[15:8], RO, reset read at boot. -/
def SYS_STEP1_RF1 : Fld := ⟨0x00, 0x1004, 8, 8, .ro, false, fun _ => 0xa1⟩
/-- R523 SYS_STEP1[23:16], RO, reset read at boot. -/
def SYS_STEP1_RF2 : Fld := ⟨0x00, 0x1004, 16, 8, .ro, false, fun _ => 0xa1⟩
/-- R523 SYS_STRAP[0], RO, reset —. -/
def SYS_STRAP_BOOT : Fld := ⟨0x00, 0x1008, 0, 1, .ro, false, fun _ => 0⟩
/-- R523 SYS_STRAP[1], RO, reset —. -/
def SYS_STRAP_NOW : Fld := ⟨0x00, 0x1008, 1, 1, .ro, false, fun _ => 0⟩
/-- R628 PWR_MODE[2:0], RO, reset 0b001. -/
def PWR_MODE_MODE : Fld := ⟨0x01, 0x800, 0, 3, .ro, false, fun _ => 1⟩
/-- R628 PWR_MODE[3], RO, reset 0. -/
def PWR_MODE_NOTICE : Fld := ⟨0x01, 0x800, 3, 1, .ro, false, fun _ => 0⟩
/-- R628 PWR_MODE[6:4], RO, reset 0b001. -/
def PWR_MODE_PREV : Fld := ⟨0x01, 0x800, 4, 3, .ro, false, fun _ => 1⟩
/-- R628 PWR_MODE[10:8], RO, reset 0b001. -/
def PWR_MODE_LADDER : Fld := ⟨0x01, 0x800, 8, 3, .ro, false, fun _ => 1⟩
/-- R628 PWR_MODE[14:12], RO, reset 0b000. -/
def PWR_MODE_PEND : Fld := ⟨0x01, 0x800, 12, 3, .ro, false, fun _ => 0⟩
/-- R628 PWR_MODE[15], RO, reset 0. -/
def PWR_MODE_PENDV : Fld := ⟨0x01, 0x800, 15, 1, .ro, false, fun _ => 0⟩
/-- R628 PWR_SUPPLY[15:0], RO, reset 0x0000. -/
def PWR_SUPPLY_VSUP : Fld := ⟨0x01, 0x804, 0, 16, .ro, false, fun _ => 0⟩
/-- R628 PWR_SUPPLY[29], RO, reset —. -/
def PWR_SUPPLY_LINE : Fld := ⟨0x01, 0x804, 29, 1, .ro, false, fun _ => 0⟩
/-- R628 PWR_SUPPLY[30], RO, reset 1. -/
def PWR_SUPPLY_UV : Fld := ⟨0x01, 0x804, 30, 1, .ro, false, fun _ => 1⟩
/-- R628 PWR_SUPPLY[31], RO, reset 0. -/
def PWR_SUPPLY_SUPLOSS : Fld := ⟨0x01, 0x804, 31, 1, .ro, false, fun _ => 0⟩
/-- R628 PWR_CFG[2:0], RW, reset 0b000. -/
def PWR_CFG_CSLOT : Fld := ⟨0x01, 0x808, 0, 3, .rw, false, fun _ => 0⟩
/-- R628 PWR_CFG[10:8], RW, reset 0b011. -/
def PWR_CFG_DSLOT : Fld := ⟨0x01, 0x808, 8, 3, .rw, false, fun _ => 3⟩
/-- R628 PWR_CFG[27:16], RW, reset 0x0C8. -/
def PWR_CFG_LIMP_T : Fld := ⟨0x01, 0x808, 16, 12, .rw, false, fun _ => 0xc8⟩
/-- R628 PWR_KEY[15:0], RW, reset 0x0005. -/
def PWR_KEY_KEYOFF_T : Fld := ⟨0x01, 0x80C, 0, 16, .rw, false, fun _ => 5⟩
/-- R628 PWR_KEY[31:16], RW, reset 0x003C. -/
def PWR_KEY_SHUT_T : Fld := ⟨0x01, 0x80C, 16, 16, .rw, false, fun _ => 0x3c⟩
/-- R628 PWR_PARK[15:0], RW, reset 0x00F0. -/
def PWR_PARK_T3 : Fld := ⟨0x01, 0x810, 0, 16, .rw, false, fun _ => 0xf0⟩
/-- R628 PWR_PARK[31:16], RW, reset 0x0000. -/
def PWR_PARK_T4 : Fld := ⟨0x01, 0x810, 16, 16, .rw, false, fun _ => 0⟩
/-- R628 PWR_TIMING[7:0], RW, reset 0x64. -/
def PWR_TIMING_IDLET : Fld := ⟨0x01, 0x814, 0, 8, .rw, false, fun _ => 0x64⟩
/-- R628 PWR_TIMING[31:16], RW, reset 0x07D0. -/
def PWR_TIMING_DPGRACE : Fld := ⟨0x01, 0x814, 16, 16, .rw, false, fun _ => 0x7d0⟩
/-- R628 PWR_WAKE_CFG[1:0], RW, reset 0b00. -/
def PWR_WAKE_CFG_CANACT : Fld := ⟨0x01, 0x818, 0, 2, .rw, false, fun _ => 0⟩
/-- R628 PWR_WAKE_CFG[3:2], RW, reset 0b00. -/
def PWR_WAKE_CFG_RIDEACT : Fld := ⟨0x01, 0x818, 2, 2, .rw, false, fun _ => 0⟩
/-- R628 PWR_WAKE_CFG[5:4], RW, reset 0b00. -/
def PWR_WAKE_CFG_TMRACT : Fld := ⟨0x01, 0x818, 4, 2, .rw, false, fun _ => 0⟩
/-- R628 PWR_WAKE_CFG[9], RW, reset 0. -/
def PWR_WAKE_CFG_CANEN : Fld := ⟨0x01, 0x818, 9, 1, .rw, false, fun _ => 0⟩
/-- R628 PWR_WAKE_CFG[10], RW, reset 0. -/
def PWR_WAKE_CFG_RIDEEN : Fld := ⟨0x01, 0x818, 10, 1, .rw, false, fun _ => 0⟩
/-- R628 PWR_WAKE_CFG[11], RW, reset 0. -/
def PWR_WAKE_CFG_TMREN : Fld := ⟨0x01, 0x818, 11, 1, .rw, false, fun _ => 0⟩
/-- R628 PWR_WAKE_STAT[2:0], RO, reset 0b101. -/
def PWR_WAKE_STAT_CAUSE : Fld := ⟨0x01, 0x81C, 0, 3, .ro, false, fun _ => 5⟩
/-- R628 PWR_ALARM[63:0], RW, reset 0. -/
def PWR_ALARM_ALARM : Fld := ⟨0x01, 0x820, 0, 64, .rw, false, fun _ => 0⟩
/-- R628 PWR_HB[15:0], WO, reset 0x0000. -/
def PWR_HB_KEY : Fld := ⟨0x01, 0x830, 0, 16, .wo, false, fun _ => 0⟩
/-- R628 PWR_DEAD[15:0], RW, reset 0x00C8. -/
def PWR_DEAD_FIRST_T : Fld := ⟨0x01, 0x834, 0, 16, .rw, false, fun _ => 0xc8⟩
/-- R628 PWR_DEAD[16], RO, reset 0. -/
def PWR_DEAD_ARMED : Fld := ⟨0x01, 0x834, 16, 1, .ro, false, fun _ => 0⟩
/-- R628 PWR_DEAD[31:24], RO, reset from MRAM. -/
def PWR_DEAD_EXPCNT : Fld := ⟨0x01, 0x834, 24, 8, .ro, true, fun _ => 0⟩
/-- R628 PWR_HBLAST[63:0], RO, reset 0. -/
def PWR_HBLAST_T : Fld := ⟨0x01, 0x838, 0, 64, .ro, false, fun _ => 0⟩
/-- R629 PWR_PERM[0], W1C, reset by index. -/
def PWR_PERM_C : Fld := ⟨0x01, 0x1000, 0, 1, .w1c, false, fun i => if i ∈ ([12, 13, 15, 19, 20, 22, 25, 27, 31] : List Nat) then 1 else 0⟩
/-- R629 PWR_PERM[1], W1C, reset by index. -/
def PWR_PERM_D : Fld := ⟨0x01, 0x1000, 1, 1, .w1c, false, fun i => if i ∈ ([27] : List Nat) then 1 else 0⟩
/-- R629 PWR_PERM[2], W1C, reset by index. -/
def PWR_PERM_G : Fld := ⟨0x01, 0x1000, 2, 1, .w1c, false, fun i => if i ∈ ([2, 6, 8] : List Nat) then 1 else 0⟩
/-- R629 PWR_PERM[3], RO, reset by index. -/
def PWR_PERM_AUTO : Fld := ⟨0x01, 0x1000, 3, 1, .ro, false, fun i => if i ∈ ([3, 8, 9, 13, 19, 23, 25, 29, 31, 33, 34] : List Nat) then 1 else 0⟩
/-- R524 LCS_STATE[6:4], RO, reset 0b000. -/
def LCS_STATE_PEND : Fld := ⟨0x02, 0x800, 4, 3, .ro, false, fun _ => 0⟩
/-- R524 LCS_STATE[7], RO, reset 0. -/
def LCS_STATE_PENDV : Fld := ⟨0x02, 0x800, 7, 1, .ro, false, fun _ => 0⟩
/-- R524 LCS_DBG[1:0], RO, reset 0b00. -/
def LCS_DBG_LEVEL : Fld := ⟨0x02, 0x80C, 0, 2, .ro, false, fun _ => 0⟩
/-- R524 LCS_DBG[9:8], RO, reset 0b00. -/
def LCS_DBG_FAILS : Fld := ⟨0x02, 0x80C, 8, 2, .ro, false, fun _ => 0⟩
/-- R524 LCS_CHAL[31:0], RO, reset 0. -/
def LCS_CHAL_W : Fld := ⟨0x02, 0x2000, 0, 32, .ro, false, fun _ => 0⟩
/-- R524 LCS_CREQ[0], WO, reset 0. -/
def LCS_CREQ_GO : Fld := ⟨0x02, 0x2080, 0, 1, .wo, false, fun _ => 0⟩
/-- R524 LCS_CREQ[5:4], WO, reset 0b00. -/
def LCS_CREQ_KIND : Fld := ⟨0x02, 0x2080, 4, 2, .wo, false, fun _ => 0⟩
/-- R524 LCS_CREQ[10:8], WO, reset 0b000. -/
def LCS_CREQ_TARGET : Fld := ⟨0x02, 0x2080, 8, 3, .wo, false, fun _ => 0⟩
/-- R524 LCS_CREQ[13:12], WO, reset 0b00. -/
def LCS_CREQ_KEY : Fld := ⟨0x02, 0x2080, 12, 2, .wo, false, fun _ => 0⟩
/-- R524 LCS_RESP[31:0], RW, reset 0. -/
def LCS_RESP_W : Fld := ⟨0x02, 0x2100, 0, 32, .rw, false, fun _ => 0⟩
/-- R524 LCS_RCMD[0], WO, reset 0. -/
def LCS_RCMD_SUBMIT : Fld := ⟨0x02, 0x2180, 0, 1, .wo, false, fun _ => 0⟩
/-- R524 LCS_RSTAT[1:0], RO, reset 0b00. -/
def LCS_RSTAT_ST : Fld := ⟨0x02, 0x2184, 0, 2, .ro, false, fun _ => 0⟩
/-- R524 LCS_RSTAT[4], RO, reset 0. -/
def LCS_RSTAT_OK : Fld := ⟨0x02, 0x2184, 4, 1, .ro, false, fun _ => 0⟩
/-- R524 LCS_RSTAT[5], RO, reset 0. -/
def LCS_RSTAT_REFUSED : Fld := ⟨0x02, 0x2184, 5, 1, .ro, false, fun _ => 0⟩
/-- R581 SAGR_STATE[4:0], RO, reset 0x00. -/
def SAGR_STATE_QLEN : Fld := ⟨0x03, 0x800, 0, 5, .ro, false, fun _ => 0⟩
/-- R581 SAGR_STATE[9:8], RO, reset 0b00. -/
def SAGR_STATE_CLS : Fld := ⟨0x03, 0x800, 8, 2, .ro, false, fun _ => 0⟩
/-- R581 SAGR_STATE[16], RO, reset 0. -/
def SAGR_STATE_BUSY : Fld := ⟨0x03, 0x800, 16, 1, .ro, false, fun _ => 0⟩
/-- R581 SAGR_STATE[29], RO, reset 0. -/
def SAGR_STATE_DEGR : Fld := ⟨0x03, 0x800, 29, 1, .ro, false, fun _ => 0⟩
/-- R581 SAGR_STATE[30], RO, reset 0. -/
def SAGR_STATE_STOP : Fld := ⟨0x03, 0x800, 30, 1, .ro, false, fun _ => 0⟩
/-- R581 SAGR_STATE[31], RO, reset 0. -/
def SAGR_STATE_SAFE : Fld := ⟨0x03, 0x800, 31, 1, .ro, false, fun _ => 0⟩
/-- R581 SAGR_CUR_SEQ[31:0], RO, reset 0xFFFF_FFFF. -/
def SAGR_CUR_SEQ_SEQ : Fld := ⟨0x03, 0x804, 0, 32, .ro, false, fun _ => 0xffffffff⟩
/-- R581 SAGR_ACK[31:0], WO, reset 0x0000_0000. -/
def SAGR_ACK_SEQ : Fld := ⟨0x03, 0x808, 0, 32, .wo, false, fun _ => 0⟩
/-- R581 SAGR_RAISE[15:0], WO, reset 0x0000. -/
def SAGR_RAISE_CODE : Fld := ⟨0x03, 0x80C, 0, 16, .wo, false, fun _ => 0⟩
/-- R581 SAGR_RAISE[25:24], WO, reset 0b00. -/
def SAGR_RAISE_CLASS : Fld := ⟨0x03, 0x80C, 24, 2, .wo, false, fun _ => 0⟩
/-- R581 SAGR_RAISE[31], WO, reset 0. -/
def SAGR_RAISE_GO : Fld := ⟨0x03, 0x80C, 31, 1, .wo, false, fun _ => 0⟩
/-- R581 SAGR_RPAY[31:0], RW, reset 0x0000_0000. -/
def SAGR_RPAY_PAY : Fld := ⟨0x03, 0x810, 0, 32, .rw, false, fun _ => 0⟩
/-- R581 SAGR_CNT0[31:0], RO, reset 0x0000_0000. -/
def SAGR_CNT0_C0 : Fld := ⟨0x03, 0x830, 0, 32, .ro, false, fun _ => 0⟩
/-- R581 SAGR_CNT[15:0], RO, reset 0. -/
def SAGR_CNT_C1 : Fld := ⟨0x03, 0x834, 0, 16, .ro, false, fun _ => 0⟩
/-- R581 SAGR_CNT[23:16], RO, reset 0. -/
def SAGR_CNT_C2 : Fld := ⟨0x03, 0x834, 16, 8, .ro, false, fun _ => 0⟩
/-- R581 SAGR_CNT[31:24], RO, reset 0. -/
def SAGR_CNT_C3 : Fld := ⟨0x03, 0x834, 24, 8, .ro, false, fun _ => 0⟩
/-- R581 SAGR_ESCCNT[15:0], RO, reset 0x0000. -/
def SAGR_ESCCNT_CNT : Fld := ⟨0x03, 0x838, 0, 16, .ro, false, fun _ => 0⟩
/-- R581 SAGR_QGEN[31:0], RO, reset 0x0000_0000. -/
def SAGR_QGEN_GEN : Fld := ⟨0x03, 0x83C, 0, 32, .ro, false, fun _ => 0⟩
/-- R583 SHRD_HEAD[14:0], RO, reset from MRAM. -/
def SHRD_HEAD_NEXT : Fld := ⟨0x04, 0x800, 0, 15, .ro, true, fun _ => 0⟩
/-- R583 SHRD_HEADSEQ[31:0], RO, reset from MRAM. -/
def SHRD_HEADSEQ_SEQ : Fld := ⟨0x04, 0x804, 0, 32, .ro, true, fun _ => 0xffffffff⟩
/-- R583 SHRD_KEEP[11:0], RO, reset from MRAM. -/
def SHRD_KEEP_COUNT : Fld := ⟨0x04, 0x808, 0, 12, .ro, true, fun _ => 0⟩
/-- R583 SHRD_KEEP[30], RO, reset from MRAM. -/
def SHRD_KEEP_FULL : Fld := ⟨0x04, 0x808, 30, 1, .ro, true, fun _ => 0⟩
/-- R583 SHRD_KEEP[31], RO, reset from MRAM. -/
def SHRD_KEEP_ON : Fld := ⟨0x04, 0x808, 31, 1, .ro, true, fun _ => 1⟩
/-- R583 SHRD_KEEPSEQ[31:0], RO, reset from MRAM. -/
def SHRD_KEEPSEQ_SEQ : Fld := ⟨0x04, 0x80C, 0, 32, .ro, true, fun _ => 0⟩
/-- R583 SHRD_LOST[31:0], RO, reset from MRAM. -/
def SHRD_LOST_CNT : Fld := ⟨0x04, 0x810, 0, 32, .ro, true, fun _ => 0⟩
/-- R583 SHRD_WIN[14:0], RW, reset 0x0000. -/
def SHRD_WIN_BASE : Fld := ⟨0x04, 0x814, 0, 15, .rw, false, fun _ => 0⟩
/-- R583 SHRD_WIN[16], RW, reset 0. -/
def SHRD_WIN_MODE : Fld := ⟨0x04, 0x814, 16, 1, .rw, false, fun _ => 0⟩
/-- R583 SHRD_CFG[2:0], RW, reset 0b010. -/
def SHRD_CFG_DSLOT : Fld := ⟨0x04, 0x818, 0, 3, .rw, false, fun _ => 2⟩
/-- R583 SHRD_CFG[10:8], RW, reset 0b010. -/
def SHRD_CFG_CSLOT : Fld := ⟨0x04, 0x818, 8, 3, .rw, false, fun _ => 2⟩
/-- R583 SHRD_FIFO[5:0], RO, reset 0x00. -/
def SHRD_FIFO_LVL : Fld := ⟨0x04, 0x81C, 0, 6, .ro, false, fun _ => 0⟩
/-- R583 SHRD_FIFO[13:8], RO, reset 0x00. -/
def SHRD_FIFO_MAXLVL : Fld := ⟨0x04, 0x81C, 8, 6, .ro, false, fun _ => 0⟩
/-- R583 SHRD_BAD[15:0], RO, reset from MRAM. -/
def SHRD_BAD_CNT : Fld := ⟨0x04, 0x820, 0, 16, .ro, true, fun _ => 0⟩
/-- R605 KILN_RG_CFG[15:0], RW, reset 0x0018. -/
def KILN_RG_CFG_DUEINT : Fld := ⟨0x05, 0x100, 0, 16, .rw, false, fun _ => 0x18⟩
/-- R605 KILN_RG_STAT[2:0], RO, reset from MRAM. -/
def KILN_RG_STAT_RESULT : Fld := ⟨0x05, 0x104, 0, 3, .ro, true, fun _ => 0⟩
/-- R605 KILN_RG_STAT[4], RO, reset from MRAM. -/
def KILN_RG_STAT_FSTICK : Fld := ⟨0x05, 0x104, 4, 1, .ro, true, fun _ => 0⟩
/-- R605 KILN_RG_STAT[5], RO, reset from MRAM. -/
def KILN_RG_STAT_DUE : Fld := ⟨0x05, 0x104, 5, 1, .ro, true, fun _ => 0⟩
/-- R605 KILN_RG_STAT[31:16], RO, reset from MRAM. -/
def KILN_RG_STAT_RUNS : Fld := ⟨0x05, 0x104, 16, 16, .ro, true, fun _ => 0⟩
/-- R605 KILN_RG_AGE[15:0], RO, reset from MRAM. -/
def KILN_RG_AGE_AGE : Fld := ⟨0x05, 0x108, 0, 16, .ro, true, fun _ => 0⟩
/-- R605 KILN_RG_TLAST[63:0], RO, reset from MRAM. -/
def KILN_RG_TLAST_T : Fld := ⟨0x05, 0x110, 0, 64, .ro, true, fun _ => 0⟩
/-- R606 KILN_RUN[6:0], WO, reset 0x00. -/
def KILN_RUN_MASK : Fld := ⟨0x05, 0x800, 0, 7, .wo, false, fun _ => 0⟩
/-- R606 KILN_RUN[31], WO, reset 0. -/
def KILN_RUN_GO : Fld := ⟨0x05, 0x800, 31, 1, .wo, false, fun _ => 0⟩
/-- R606 KILN_CFG[2:0], RW, reset 0b011. -/
def KILN_CFG_CSLOT : Fld := ⟨0x05, 0x804, 0, 3, .rw, false, fun _ => 3⟩
/-- R606 KILN_ROADSET[5:0], RW, reset from MRAM. -/
def KILN_ROADSET_MASK : Fld := ⟨0x05, 0x808, 0, 6, .rw, true, fun _ => 0⟩
/-- R606 KILN_STATE[2:0], RO, reset 0b000. -/
def KILN_STATE_ST : Fld := ⟨0x05, 0x80C, 0, 3, .ro, false, fun _ => 0⟩
/-- R606 KILN_STATE[10:8], RO, reset 0b000. -/
def KILN_STATE_REG : Fld := ⟨0x05, 0x80C, 8, 3, .ro, false, fun _ => 0⟩
/-- R606 KILN_STATE[31:16], RO, reset 0x0000. -/
def KILN_STATE_PATS : Fld := ⟨0x05, 0x80C, 16, 16, .ro, false, fun _ => 0⟩
/-- R606 KILN_REFUSE[2:0], RO, reset 0b000. -/
def KILN_REFUSE_CAUSE : Fld := ⟨0x05, 0x810, 0, 3, .ro, false, fun _ => 0⟩
/-- R607 KILN_GOLD[63:0], RO, reset from OTP. -/
def KILN_GOLD_GOLD : Fld := ⟨0x05, 0x1000, 0, 64, .ro, false, fun i => Config.kilnGold i⟩
/-- R607 KILN_MISR[63:0], RO, reset 0. -/
def KILN_MISR_MISR : Fld := ⟨0x05, 0x1008, 0, 64, .ro, false, fun _ => 0⟩
/-- R607 KILN_SEED[63:0], RW, reset from OTP. -/
def KILN_SEED_SEED : Fld := ⟨0x05, 0x1010, 0, 64, .rw, false, fun i => Config.kilnSeed i⟩
/-- R607 KILN_PATS[16:0], RW, reset As R585. -/
def KILN_PATS_P : Fld := ⟨0x05, 0x1018, 0, 17, .rw, false, fun i => ([4096, 4096, 4096, 4096, 2048, 4096, 65536] : List Nat).getD (i % 7) 0⟩
/-- R607 KILN_PCTL[0], RW, reset 0. -/
def KILN_PCTL_CHKOFF : Fld := ⟨0x05, 0x101C, 0, 1, .rw, false, fun _ => 0⟩
/-- R608 CONE_SWEEP_CFG[15:0], RW, reset 0x0000. -/
def CONE_SWEEP_CFG_PERIOD : Fld := ⟨0x06, 0x800, 0, 16, .rw, false, fun _ => 0⟩
/-- R608 CONE_SWEEP_CFG[16], RW, reset 0. -/
def CONE_SWEEP_CFG_CLR : Fld := ⟨0x06, 0x800, 16, 1, .rw, false, fun _ => 0⟩
/-- R608 CONE_SWEEP_GO[0], WO, reset 0. -/
def CONE_SWEEP_GO_GO : Fld := ⟨0x06, 0x804, 0, 1, .wo, false, fun _ => 0⟩
/-- R608 CONE_SWEEP_SEQ[31:0], RO, reset 0x0000_0000. -/
def CONE_SWEEP_SEQ_SEQ : Fld := ⟨0x06, 0x808, 0, 32, .ro, false, fun _ => 0⟩
/-- R608 CONE_SWEEP_T0[63:0], RO, reset 0. -/
def CONE_SWEEP_T0_T0 : Fld := ⟨0x06, 0x810, 0, 64, .ro, false, fun _ => 0⟩
/-- R604 CREC[7:0], RO, reset 0. -/
def CREC_SLOT : Fld := ⟨0x06, 0x1000, 0, 8, .ro, false, fun _ => 0⟩
/-- R604 CREC[8], RO, reset 0. -/
def CREC_VALID : Fld := ⟨0x06, 0x1000, 8, 1, .ro, false, fun _ => 0⟩
/-- R604 CREC[9], RO, reset 0. -/
def CREC_TEST : Fld := ⟨0x06, 0x1000, 9, 1, .ro, false, fun _ => 0⟩
/-- R604 CREC[10], RO, reset 0. -/
def CREC_DOWN : Fld := ⟨0x06, 0x1000, 10, 1, .ro, false, fun _ => 0⟩
/-- R604 CREC_STAMP[63:0], RO, reset 0. -/
def CREC_STAMP_T : Fld := ⟨0x06, 0x1008, 0, 64, .ro, false, fun _ => 0⟩
/-- R604 CREC_CNT[47:0], RO, reset 0. -/
def CREC_CNT_V : Fld := ⟨0x06, 0x1010, 0, 48, .ro, false, fun _ => 0⟩
/-- R604 CREC_CNT[63], RO, reset 0. -/
def CREC_CNT_WRAP : Fld := ⟨0x06, 0x1010, 63, 1, .ro, false, fun _ => 0⟩
/-- R103 TIME_NOW[63:0], RO, reset 0. -/
def TIME_NOW_NOW : Fld := ⟨0x07, 0x800, 0, 64, .ro, false, fun _ => 0⟩
/-- R103 TIME_NOW_FRAC[15:0], RO, reset 0x0000. -/
def TIME_NOW_FRAC_FRAC : Fld := ⟨0x07, 0x808, 0, 16, .ro, false, fun _ => 0⟩
/-- R103 TIME_STATE[2:0], RO, reset 0b000. -/
def TIME_STATE_ST : Fld := ⟨0x07, 0x810, 0, 3, .ro, false, fun _ => 0⟩
/-- R103 TIME_STATE[8], RO, reset 0. -/
def TIME_STATE_STEPPEND : Fld := ⟨0x07, 0x810, 8, 1, .ro, false, fun _ => 0⟩
/-- R103 TIME_STEER_CFG[5:0], RWS, reset 0x3F. -/
def TIME_STEER_CFG_SLOT : Fld := ⟨0x07, 0x820, 0, 6, .rws, false, fun _ => 0x3f⟩
/-- R103 TIME_STEER_CFG[8], RW, reset 0. -/
def TIME_STEER_CFG_SEN : Fld := ⟨0x07, 0x820, 8, 1, .own, false, fun _ => 0⟩
/-- R103 TIME_STEER_CFG[31:16], RWS, reset 0x05DC. -/
def TIME_STEER_CFG_HOLD_T : Fld := ⟨0x07, 0x820, 16, 16, .rws, false, fun _ => 0x5dc⟩
/-- R103 TIME_OFFSET[31:0], RO, reset 0x0000_0000. -/
def TIME_OFFSET_OFFS : Fld := ⟨0x07, 0x830, 0, 32, .ro, false, fun _ => 0⟩
/-- R103 TIME_RATE[31:0], RO, reset 0x0000_0000. -/
def TIME_RATE_RATE : Fld := ⟨0x07, 0x834, 0, 32, .ro, false, fun _ => 0⟩
/-- R103 TIME_HOLDERR[15:0], RO, reset 0xFFFF. -/
def TIME_HOLDERR_ERRB : Fld := ⟨0x07, 0x838, 0, 16, .ro, false, fun _ => 0xffff⟩
/-- R103 TIME_SET[63:0], RW, reset 0. -/
def TIME_SET_SETV : Fld := ⟨0x07, 0x840, 0, 64, .rw, false, fun _ => 0⟩
/-- R103 TIME_SETGO[0], WO, reset 0. -/
def TIME_SETGO_GO : Fld := ⟨0x07, 0x848, 0, 1, .wo, false, fun _ => 0⟩
/-- R103 TIME_STEPCNT[15:0], RO, reset 0x0000. -/
def TIME_STEPCNT_CNT : Fld := ⟨0x07, 0x850, 0, 16, .ro, false, fun _ => 0⟩
/-- R103 TIME_TRIGOUT[3:0], RW, reset 0x0. -/
def TIME_TRIGOUT_OE : Fld := ⟨0x07, 0x860, 0, 4, .rw, false, fun _ => 0⟩
/-- R103 TIME_TRIGOUT[7:4], RW, reset 0x0. -/
def TIME_TRIGOUT_POL : Fld := ⟨0x07, 0x860, 4, 4, .rw, false, fun _ => 0⟩
/-- R103 TIME_CANREF[7:0], RWS, reset 0x00. -/
def TIME_CANREF_CHMASK : Fld := ⟨0x07, 0x870, 0, 8, .rws, false, fun _ => 0⟩
/-- R103 TIME_CANREF[27:16], RWS, reset 0x3E8. -/
def TIME_CANREF_PERIOD : Fld := ⟨0x07, 0x870, 16, 12, .rws, false, fun _ => 0x3e8⟩
/-- R95 TRIG_INST[63:0], RW, reset 0. -/
def TRIG_INST_INST : Fld := ⟨0x07, 0x1000, 0, 64, .rw, false, fun _ => 0⟩
/-- R95 TRIG_PERIOD[31:0], RW, reset 0x0000_0000. -/
def TRIG_PERIOD_PERIOD : Fld := ⟨0x07, 0x1008, 0, 32, .rw, false, fun _ => 0⟩
/-- R95 TRIG_CFG[0], RW, reset 0. -/
def TRIG_CFG_EN : Fld := ⟨0x07, 0x100C, 0, 1, .own, false, fun _ => 0⟩
/-- R95 TRIG_CFG[3:2], RW, reset 0b00. -/
def TRIG_CFG_TGT : Fld := ⟨0x07, 0x100C, 2, 2, .rw, false, fun _ => 0⟩
/-- R95 TRIG_CFG[7:4], RW, reset 0x0. -/
def TRIG_CFG_IDX : Fld := ⟨0x07, 0x100C, 4, 4, .rw, false, fun _ => 0⟩
/-- R95 TRIG_CFG[8], RW, reset 0. -/
def TRIG_CFG_STEPMODE : Fld := ⟨0x07, 0x100C, 8, 1, .rw, false, fun _ => 0⟩
/-- R95 TRIG_CFG[9], RW, reset 0. -/
def TRIG_CFG_IRQ : Fld := ⟨0x07, 0x100C, 9, 1, .rw, false, fun _ => 0⟩
/-- R95 TRIG_CFG[23:12], RW, reset 0x001. -/
def TRIG_CFG_WIDTH : Fld := ⟨0x07, 0x100C, 12, 12, .rw, false, fun _ => 1⟩
/-- R95 TRIG_CFG[31:24], RW, reset 0x00. -/
def TRIG_CFG_LEAD : Fld := ⟨0x07, 0x100C, 24, 8, .rw, false, fun _ => 0⟩
/-- R95 TRIG_COUNT[15:0], RW, reset 0x0000. -/
def TRIG_COUNT_COUNT : Fld := ⟨0x07, 0x1010, 0, 16, .rw, false, fun _ => 0⟩
/-- R95 TRIG_STAT[0], RO, reset 0. -/
def TRIG_STAT_ARMED : Fld := ⟨0x07, 0x1014, 0, 1, .ro, false, fun _ => 0⟩
/-- R95 TRIG_STAT[23:8], RO, reset 0x0000. -/
def TRIG_STAT_FIRES : Fld := ⟨0x07, 0x1014, 8, 16, .ro, false, fun _ => 0⟩
/-- R95 TRIG_STAT[31], W1C, reset 0. -/
def TRIG_STAT_LATE : Fld := ⟨0x07, 0x1014, 31, 1, .w1c, false, fun _ => 0⟩
/-- R95 TRIG_LAST[63:0], RO, reset 0. -/
def TRIG_LAST_LAST : Fld := ⟨0x07, 0x1018, 0, 64, .ro, false, fun _ => 0⟩
/-- R498 MEM_DRAM[0], RO, reset 0. -/
def MEM_DRAM_TRAINED : Fld := ⟨0x08, 0x800, 0, 1, .ro, false, fun _ => 0⟩
/-- R498 MEM_DRAM[1], RO, reset 0. -/
def MEM_DRAM_SELFREF : Fld := ⟨0x08, 0x800, 1, 1, .ro, false, fun _ => 0⟩
/-- R498 MEM_DRAM[15:8], RO, reset 0x0F. -/
def MEM_DRAM_SIZE : Fld := ⟨0x08, 0x800, 8, 8, .ro, false, fun _ => 0xf⟩
/-- R498 MEM_DRAM[31:24], RO, reset 0x00. -/
def MEM_DRAM_TEMP : Fld := ⟨0x08, 0x800, 24, 8, .ro, false, fun _ => 0⟩
/-- R498 MEM_ECC_CFG[0], RW, reset 1. -/
def MEM_ECC_CFG_SCRUBEN : Fld := ⟨0x08, 0x804, 0, 1, .rw, false, fun _ => 1⟩
/-- R498 MEM_ECC_CFG[15:8], RW, reset 0x18. -/
def MEM_ECC_CFG_SCRUBP : Fld := ⟨0x08, 0x804, 8, 8, .rw, false, fun _ => 0x18⟩
/-- R498 MEM_ECC_CFG[31:16], RW, reset 0x0100. -/
def MEM_ECC_CFG_CETH : Fld := ⟨0x08, 0x804, 16, 16, .rw, false, fun _ => 0x100⟩
/-- R498 MEM_ECC_CNT[15:0], W1C, reset 0x0000. -/
def MEM_ECC_CNT_CE : Fld := ⟨0x08, 0x808, 0, 16, .w1c, false, fun _ => 0⟩
/-- R498 MEM_ECC_CNT[31:16], W1C, reset 0x0000. -/
def MEM_ECC_CNT_UE : Fld := ⟨0x08, 0x808, 16, 16, .w1c, false, fun _ => 0⟩
/-- R498 MEM_ECC_ADDR[39:0], RO, reset 0. -/
def MEM_ECC_ADDR_ADDR : Fld := ⟨0x08, 0x810, 0, 40, .ro, false, fun _ => 0⟩
/-- R498 MEM_ECC_SRC[15:0], RO, reset 0x0000. -/
def MEM_ECC_SRC_SRC : Fld := ⟨0x08, 0x818, 0, 16, .ro, false, fun _ => 0⟩
/-- R499 IOMU_TLB[15:0], RO, reset 0x0000. -/
def IOMU_TLB_HIT : Fld := ⟨0x09, 0x800, 0, 16, .ro, false, fun _ => 0⟩
/-- R499 IOMU_TLB[31:16], RO, reset 0x0000. -/
def IOMU_TLB_MISS : Fld := ⟨0x09, 0x800, 16, 16, .ro, false, fun _ => 0⟩
/-- R478 IOMU_CAPS[63:0], RO, reset 172084299280. -/
def IOMU_CAPS_V : Fld := ⟨0x09, 0x1000, 0, 64, .ro, false, fun _ => 0x2811060610⟩
/-- R478 IOMU_FCTL[31:0], RO, reset 2. -/
def IOMU_FCTL_V : Fld := ⟨0x09, 0x1008, 0, 32, .ro, false, fun _ => 2⟩
/-- R478 IOMU_DDTP[63:0], RW, reset 0. -/
def IOMU_DDTP_V : Fld := ⟨0x09, 0x1010, 0, 64, .rw, false, fun _ => 0⟩
/-- R478 IOMU_CQB[63:0], RW, reset 0. -/
def IOMU_CQB_V : Fld := ⟨0x09, 0x1018, 0, 64, .rw, false, fun _ => 0⟩
/-- R478 IOMU_CQH[31:0], RO, reset 0. -/
def IOMU_CQH_V : Fld := ⟨0x09, 0x1020, 0, 32, .ro, false, fun _ => 0⟩
/-- R478 IOMU_CQT[31:0], RW, reset 0. -/
def IOMU_CQT_V : Fld := ⟨0x09, 0x1024, 0, 32, .rw, false, fun _ => 0⟩
/-- R478 IOMU_FQB[63:0], RW, reset 0. -/
def IOMU_FQB_V : Fld := ⟨0x09, 0x1028, 0, 64, .rw, false, fun _ => 0⟩
/-- R478 IOMU_FQH[31:0], RW, reset 0. -/
def IOMU_FQH_V : Fld := ⟨0x09, 0x1030, 0, 32, .rw, false, fun _ => 0⟩
/-- R478 IOMU_FQT[31:0], RO, reset 0. -/
def IOMU_FQT_V : Fld := ⟨0x09, 0x1034, 0, 32, .ro, false, fun _ => 0⟩
/-- R478 IOMU_CQCSR[0], RW, reset 0. -/
def IOMU_CQCSR_CQEN : Fld := ⟨0x09, 0x1048, 0, 1, .rw, false, fun _ => 0⟩
/-- R478 IOMU_CQCSR[1], RW, reset 0. -/
def IOMU_CQCSR_CIE : Fld := ⟨0x09, 0x1048, 1, 1, .rw, false, fun _ => 0⟩
/-- R478 IOMU_CQCSR[8], W1C, reset 0. -/
def IOMU_CQCSR_CQMF : Fld := ⟨0x09, 0x1048, 8, 1, .w1c, false, fun _ => 0⟩
/-- R478 IOMU_CQCSR[9], W1C, reset 0. -/
def IOMU_CQCSR_CMD_TO : Fld := ⟨0x09, 0x1048, 9, 1, .w1c, false, fun _ => 0⟩
/-- R478 IOMU_CQCSR[10], W1C, reset 0. -/
def IOMU_CQCSR_CMD_ILL : Fld := ⟨0x09, 0x1048, 10, 1, .w1c, false, fun _ => 0⟩
/-- R478 IOMU_CQCSR[11], W1C, reset 0. -/
def IOMU_CQCSR_FENCE_W_IP : Fld := ⟨0x09, 0x1048, 11, 1, .w1c, false, fun _ => 0⟩
/-- R478 IOMU_CQCSR[16], RO, reset 0. -/
def IOMU_CQCSR_CQON : Fld := ⟨0x09, 0x1048, 16, 1, .ro, false, fun _ => 0⟩
/-- R478 IOMU_FQCSR[0], RW, reset 0. -/
def IOMU_FQCSR_FQEN : Fld := ⟨0x09, 0x104C, 0, 1, .rw, false, fun _ => 0⟩
/-- R478 IOMU_FQCSR[1], RW, reset 0. -/
def IOMU_FQCSR_FIE : Fld := ⟨0x09, 0x104C, 1, 1, .rw, false, fun _ => 0⟩
/-- R478 IOMU_FQCSR[8], W1C, reset 0. -/
def IOMU_FQCSR_FQMF : Fld := ⟨0x09, 0x104C, 8, 1, .w1c, false, fun _ => 0⟩
/-- R478 IOMU_FQCSR[9], W1C, reset 0. -/
def IOMU_FQCSR_FQOF : Fld := ⟨0x09, 0x104C, 9, 1, .w1c, false, fun _ => 0⟩
/-- R478 IOMU_FQCSR[16], RO, reset 0. -/
def IOMU_FQCSR_FQON : Fld := ⟨0x09, 0x104C, 16, 1, .ro, false, fun _ => 0⟩
/-- R478 IOMU_IPSR[31:0], W1C, reset 0. -/
def IOMU_IPSR_V : Fld := ⟨0x09, 0x1054, 0, 32, .w1c, false, fun _ => 0⟩
/-- R501 DMA_CH_CFG[5:4], RW, reset 0b00. -/
def DMA_CH_CFG_PRIO : Fld := ⟨0x0A, 0x100, 4, 2, .rw, false, fun _ => 0⟩
/-- R501 DMA_CH_CFG[12:8], RW, reset 0x10. -/
def DMA_CH_CFG_MAXOUT : Fld := ⟨0x0A, 0x100, 8, 5, .rw, false, fun _ => 0x10⟩
/-- R501 DMA_CH_CFG[16], RO, reset 0. -/
def DMA_CH_CFG_OWNER : Fld := ⟨0x0A, 0x100, 16, 1, .ro, false, fun _ => 0⟩
/-- R501 DMA_CH_DESC[63:0], RW, reset 0. -/
def DMA_CH_DESC_DESC : Fld := ⟨0x0A, 0x108, 0, 64, .rw, false, fun _ => 0⟩
/-- R501 DMA_CH_CMD[0], WO, reset 0. -/
def DMA_CH_CMD_GO : Fld := ⟨0x0A, 0x110, 0, 1, .wo, false, fun _ => 0⟩
/-- R501 DMA_CH_CMD[1], WO, reset 0. -/
def DMA_CH_CMD_RESUME : Fld := ⟨0x0A, 0x110, 1, 1, .wo, false, fun _ => 0⟩
/-- R501 DMA_CH_CMD[2], WO, reset 0. -/
def DMA_CH_CMD_SKIP : Fld := ⟨0x0A, 0x110, 2, 1, .wo, false, fun _ => 0⟩
/-- R501 DMA_CH_CMD[3], WO, reset 0. -/
def DMA_CH_CMD_ABORT : Fld := ⟨0x0A, 0x110, 3, 1, .wo, false, fun _ => 0⟩
/-- R501 DMA_CH_STAT[2:0], RO, reset 0b000. -/
def DMA_CH_STAT_STATE : Fld := ⟨0x0A, 0x114, 0, 3, .ro, false, fun _ => 0⟩
/-- R501 DMA_CH_STAT[4], RO, reset 0. -/
def DMA_CH_STAT_PREEMPTED : Fld := ⟨0x0A, 0x114, 4, 1, .ro, false, fun _ => 0⟩
/-- R501 DMA_CH_STAT[15:8], RO, reset 0x00. -/
def DMA_CH_STAT_REFAULT : Fld := ⟨0x0A, 0x114, 8, 8, .ro, false, fun _ => 0⟩
/-- R501 DMA_CH_STAT[31:16], RO, reset 0x0000. -/
def DMA_CH_STAT_NDESC : Fld := ⟨0x0A, 0x114, 16, 16, .ro, false, fun _ => 0⟩
/-- R501 DMA_CH_CUR[63:0], RO, reset 0. -/
def DMA_CH_CUR_CUR : Fld := ⟨0x0A, 0x118, 0, 64, .ro, false, fun _ => 0⟩
/-- R501 DMA_CH_DONE[31:0], RO, reset 0x0000_0000. -/
def DMA_CH_DONE_DONE : Fld := ⟨0x0A, 0x120, 0, 32, .ro, false, fun _ => 0⟩
/-- R501 DMA_CH_ROW[15:0], RO, reset 0x0000. -/
def DMA_CH_ROW_ROW : Fld := ⟨0x0A, 0x124, 0, 16, .ro, false, fun _ => 0⟩
/-- R501 DMA_CH_SRCN[63:0], RO, reset 0. -/
def DMA_CH_SRCN_SRC_NEXT : Fld := ⟨0x0A, 0x128, 0, 64, .ro, false, fun _ => 0⟩
/-- R501 DMA_CH_DSTN[63:0], RO, reset 0. -/
def DMA_CH_DSTN_DST_NEXT : Fld := ⟨0x0A, 0x130, 0, 64, .ro, false, fun _ => 0⟩
/-- R501 DMA_CH_HOLDN[5:0], RO, reset 0x00. -/
def DMA_CH_HOLDN_HOLDN : Fld := ⟨0x0A, 0x138, 0, 6, .ro, false, fun _ => 0⟩
/-- R501 DMA_CH_HOLD[31:0], RO, reset 0. -/
def DMA_CH_HOLD_W : Fld := ⟨0x0A, 0x140, 0, 32, .ro, false, fun _ => 0⟩
/-- R501 DMA_CH_FREC[3:0], RO, reset 0x0. -/
def DMA_CH_FREC_KIND : Fld := ⟨0x0A, 0x180, 0, 4, .ro, false, fun _ => 0⟩
/-- R501 DMA_CH_FREC[4], RO, reset 0. -/
def DMA_CH_FREC_WR : Fld := ⟨0x0A, 0x180, 4, 1, .ro, false, fun _ => 0⟩
/-- R501 DMA_CH_FREC[5], RO, reset 0. -/
def DMA_CH_FREC_MULTI : Fld := ⟨0x0A, 0x180, 5, 1, .ro, false, fun _ => 0⟩
/-- R501 DMA_CH_FREC[27:16], RO, reset 0x000. -/
def DMA_CH_FREC_CAUSE : Fld := ⟨0x0A, 0x180, 16, 12, .ro, false, fun _ => 0⟩
/-- R501 DMA_CH_FADDR[63:0], RO, reset 0. -/
def DMA_CH_FADDR_FADDR : Fld := ⟨0x0A, 0x188, 0, 64, .ro, false, fun _ => 0⟩
/-- R501 DMA_CH_FTIME[63:0], RO, reset 0. -/
def DMA_CH_FTIME_FTIME : Fld := ⟨0x0A, 0x190, 0, 64, .ro, false, fun _ => 0⟩
/-- R501 DMA_CH_FSEQ[31:0], RO, reset 0x0000_0000. -/
def DMA_CH_FSEQ_FSEQ : Fld := ⟨0x0A, 0x198, 0, 32, .ro, false, fun _ => 0⟩
/-- R502 DMA_ENG_CFG[4:0], RW, reset 0x08. -/
def DMA_ENG_CFG_RES3 : Fld := ⟨0x0A, 0x1000, 0, 5, .rw, false, fun _ => 8⟩
/-- R502 DMA_ENG_STAT[5:0], RO, reset 0x00. -/
def DMA_ENG_STAT_INFLT : Fld := ⟨0x0A, 0x1004, 0, 6, .ro, false, fun _ => 0⟩
/-- R502 DMA_ENG_STAT[13:8], RO, reset 0x00. -/
def DMA_ENG_STAT_MAXINF : Fld := ⟨0x0A, 0x1004, 8, 6, .ro, false, fun _ => 0⟩
/-- R502 DMA_ENG_FSEQ[31:0], RO, reset 0x0000_0000. -/
def DMA_ENG_FSEQ_SEQ : Fld := ⟨0x0A, 0x1008, 0, 32, .ro, false, fun _ => 0⟩
/-- R502 DMA_ENG_BYTES[63:0], RO, reset 0. -/
def DMA_ENG_BYTES_BYTES : Fld := ⟨0x0A, 0x1010, 0, 64, .ro, false, fun _ => 0⟩
/-- R502 DMA_ENG_CLR[0], WO, reset 0. -/
def DMA_ENG_CLR_CLRMAX : Fld := ⟨0x0A, 0x1018, 0, 1, .wo, false, fun _ => 0⟩
/-- R37 CLR_SLOT_CFG[11:0], RW, reset 0x032 (slots 0–319); 0x3E8 (slots 320–351). -/
def CLR_SLOT_CFG_STALE_T : Fld := ⟨0x0B, 0x100, 0, 12, .own, false, fun i => if i < 320 then 0x032 else 0x3E8⟩
/-- R37 CLR_SLOT_CFG[27:16], RW, reset 0x0C8 (slots 0–63); 0x000 (slots 64–351). -/
def CLR_SLOT_CFG_WDR_T : Fld := ⟨0x0B, 0x100, 16, 12, .own, false, fun i => if i < 64 then 0x0C8 else 0⟩
/-- R38 CLR_SLOT_STAT[15:0], RO, reset 0xFFFF. -/
def CLR_SLOT_STAT_AGE : Fld := ⟨0x0B, 0x104, 0, 16, .ro, false, fun _ => 0xffff⟩
/-- R38 CLR_SLOT_STAT[23:16], RO, reset 0x00. -/
def CLR_SLOT_STAT_STALECNT : Fld := ⟨0x0B, 0x104, 16, 8, .ro, false, fun _ => 0⟩
/-- R38 CLR_SLOT_STAT[25:24], RO, fixed: the writer plane of R24. -/
def CLR_SLOT_STAT_WRITER : Fld := ⟨0x0B, 0x104, 24, 2, .ro, false, fun i =>
  if i < 64 then 1 else if i < 320 then 0 else if i < 328 then 2 else if i < 336 then 0 else if i < 344 then 2 else 1⟩
/-- R38 CLR_SLOT_STAT[27:26], RO, fixed: the reader plane of R24. -/
def CLR_SLOT_STAT_READER : Fld := ⟨0x0B, 0x104, 26, 2, .ro, false, fun i =>
  if i < 64 then 0 else if i < 320 then 1 else if i < 328 then 0 else if i < 336 then 2 else if i < 344 then 1 else 2⟩
/-- R27 CLR_HDR[0], RO, reset 0. -/
def CLR_HDR_GEN : Fld := ⟨0x0B, 0x800, 0, 1, .ro, false, fun _ => 0⟩
/-- R27 CLR_HDR[1], RO, reset 1. -/
def CLR_HDR_STALE : Fld := ⟨0x0B, 0x800, 1, 1, .ro, false, fun _ => 1⟩
/-- R27 CLR_HDR[2], RO, reset 1. -/
def CLR_HDR_WDRN : Fld := ⟨0x0B, 0x800, 2, 1, .ro, false, fun _ => 1⟩
/-- R27 CLR_HDR[3], RO, reset 0. -/
def CLR_HDR_LIVE : Fld := ⟨0x0B, 0x800, 3, 1, .ro, false, fun _ => 0⟩
/-- R27 CLR_HDR[31:8], RO, reset 0x00_0000. -/
def CLR_HDR_SEQ : Fld := ⟨0x0B, 0x800, 8, 24, .ro, false, fun _ => 0⟩
/-- R39 CLR_COMMIT[8:0], WO, reset 0x000. -/
def CLR_COMMIT_SLOT : Fld := ⟨0x0B, 0xE00, 0, 9, .wo, false, fun _ => 0⟩
/-- R39 CLR_PLANE[0], RO, reset 0. -/
def CLR_PLANE_CTLUP : Fld := ⟨0x0B, 0xE04, 0, 1, .ro, false, fun _ => 0⟩
/-- R39 CLR_PLANE[1], RO, reset 0. -/
def CLR_PLANE_DATAUP : Fld := ⟨0x0B, 0xE04, 1, 1, .ro, false, fun _ => 0⟩
/-- R39 CLR_PLANE[2], RO, reset 0. -/
def CLR_PLANE_MGTUP : Fld := ⟨0x0B, 0xE04, 2, 1, .ro, false, fun _ => 0⟩
/-- R39 CLR_VIOL[8:0], RO, reset 0x000. -/
def CLR_VIOL_SLOT : Fld := ⟨0x0B, 0xE08, 0, 9, .ro, false, fun _ => 0⟩
/-- R39 CLR_VIOL[19:16], RO, reset 0x0. -/
def CLR_VIOL_KIND : Fld := ⟨0x0B, 0xE08, 16, 4, .ro, false, fun _ => 0⟩
/-- R39 CLR_VIOL[25:24], RO, reset 0b00. -/
def CLR_VIOL_PLANE : Fld := ⟨0x0B, 0xE08, 24, 2, .ro, false, fun _ => 0⟩
/-- R39 CLR_VIOL[31], W1C, reset 0. -/
def CLR_VIOL_VALID : Fld := ⟨0x0B, 0xE08, 31, 1, .w1c, false, fun _ => 0⟩
/-- R137 GNRF_ANT_CFG[0], RW, reset 0. -/
def GNRF_ANT_CFG_BIASEN : Fld := ⟨0x10, 0x100, 0, 1, .own, false, fun _ => 0⟩
/-- R137 GNRF_ANT_CFG[1], RWL, reset 0. -/
def GNRF_ANT_CFG_VSEL : Fld := ⟨0x10, 0x100, 1, 1, .rwl, false, fun _ => 0⟩
/-- R137 GNRF_ANT_CFG[15:8], RW, reset 0x03. -/
def GNRF_ANT_CFG_OPEN_TH : Fld := ⟨0x10, 0x100, 8, 8, .rw, false, fun _ => 3⟩
/-- R137 GNRF_ANT_CFG[16], RW, reset 1. -/
def GNRF_ANT_CFG_RETRY : Fld := ⟨0x10, 0x100, 16, 1, .rw, false, fun _ => 1⟩
/-- R137 GNRF_ANT_STAT[2:0], RO, reset 0b000. -/
def GNRF_ANT_STAT_STATE : Fld := ⟨0x10, 0x104, 0, 3, .ro, false, fun _ => 0⟩
/-- R137 GNRF_ANT_STAT[15:8], RO, reset 0x00. -/
def GNRF_ANT_STAT_IBIAS : Fld := ⟨0x10, 0x104, 8, 8, .ro, false, fun _ => 0⟩
/-- R137 GNRF_ANT_STAT[23:16], RO, reset 0x00. -/
def GNRF_ANT_STAT_RETRYCNT : Fld := ⟨0x10, 0x104, 16, 8, .ro, false, fun _ => 0⟩
/-- R139 GNRF_LINK[2:0], RO, reset 0b000. -/
def GNRF_LINK_LOCK : Fld := ⟨0x10, 0x800, 0, 3, .ro, false, fun _ => 0⟩
/-- R139 GNRF_LINK[6:4], RO, reset 0b000. -/
def GNRF_LINK_CALDONE : Fld := ⟨0x10, 0x800, 4, 3, .ro, false, fun _ => 0⟩
/-- R139 GNRF_LINKERR[31:0], W1C, reset 0x0000_0000. -/
def GNRF_LINKERR_CNT : Fld := ⟨0x10, 0x804, 0, 32, .w1c, false, fun _ => 0⟩
/-- R138 GNRF_PATH_CFG[0], RW, reset 0. -/
def GNRF_PATH_CFG_EN : Fld := ⟨0x10, 0x1000, 0, 1, .rw, false, fun _ => 0⟩
/-- R138 GNRF_PATH_CFG[1], RWS, reset 0. -/
def GNRF_PATH_CFG_BMODE : Fld := ⟨0x10, 0x1000, 1, 1, .rws, false, fun _ => 0⟩
/-- R138 GNRF_PATH_CFG[5:4], RWS, reset 0b00. -/
def GNRF_PATH_CFG_AGCMODE : Fld := ⟨0x10, 0x1000, 4, 2, .rws, false, fun _ => 0⟩
/-- R138 GNRF_AGC_CFG[11:0], RWS, reset 0x200. -/
def GNRF_AGC_CFG_TARGET : Fld := ⟨0x10, 0x1004, 0, 12, .rws, false, fun _ => 0x200⟩
/-- R138 GNRF_AGC_CFG[23:16], RWS, reset 0x50. -/
def GNRF_AGC_CFG_MANGAIN : Fld := ⟨0x10, 0x1004, 16, 8, .rws, false, fun _ => 0x50⟩
/-- R138 GNRF_AGC_STAT[7:0], RO, reset 0x00. -/
def GNRF_AGC_STAT_GAIN : Fld := ⟨0x10, 0x1008, 0, 8, .ro, false, fun _ => 0⟩
/-- R138 GNRF_AGC_STAT[15:8], RO, reset 0x00. -/
def GNRF_AGC_STAT_SATCNT : Fld := ⟨0x10, 0x1008, 8, 8, .ro, false, fun _ => 0⟩
/-- R138 GNRF_AGC_STAT[27:16], RO, reset 0x000. -/
def GNRF_AGC_STAT_RMS : Fld := ⟨0x10, 0x1008, 16, 12, .ro, false, fun _ => 0⟩
/-- R138 GNRF_SPEC_STAT[15:0], RO, reset 0x0000. -/
def GNRF_SPEC_STAT_NF : Fld := ⟨0x10, 0x100C, 0, 16, .ro, false, fun _ => 0⟩
/-- R138 GNRF_SPEC_STAT[31:16], RO, reset 0x0000. -/
def GNRF_SPEC_STAT_PEAKDB : Fld := ⟨0x10, 0x100C, 16, 16, .ro, false, fun _ => 0⟩
/-- R138 GNRF_NOTCH_CFG[1:0], RWS, reset 0b00. -/
def GNRF_NOTCH_CFG_MODE : Fld := ⟨0x10, 0x1040, 0, 2, .rws, false, fun _ => 0⟩
/-- R138 GNRF_NOTCH_CFG[10:8], RWS, reset 0b001. -/
def GNRF_NOTCH_CFG_BW : Fld := ⟨0x10, 0x1040, 8, 3, .rws, false, fun _ => 1⟩
/-- R138 GNRF_NOTCH_CFG[23:16], RWS, reset 0x1E. -/
def GNRF_NOTCH_CFG_DETTH : Fld := ⟨0x10, 0x1040, 16, 8, .rws, false, fun _ => 0x1e⟩
/-- R138 GNRF_NOTCH_FREQ[31:0], RWS, reset 0x0000_0000. -/
def GNRF_NOTCH_FREQ_FREQ : Fld := ⟨0x10, 0x1044, 0, 32, .rws, false, fun _ => 0⟩
/-- R138 GNRF_NOTCH_STAT[7:0], RO, reset 0x00. -/
def GNRF_NOTCH_STAT_ATTEN : Fld := ⟨0x10, 0x1048, 0, 8, .ro, false, fun _ => 0⟩
/-- R138 GNRF_NOTCH_STAT[31], RO, reset 0. -/
def GNRF_NOTCH_STAT_ACTIVE : Fld := ⟨0x10, 0x1048, 31, 1, .ro, false, fun _ => 0⟩
/-- R138 GNRF_NOTCH_FNOW[31:0], RO, reset 0x0000_0000. -/
def GNRF_NOTCH_FNOW_FNOW : Fld := ⟨0x10, 0x104C, 0, 32, .ro, false, fun _ => 0⟩
/-- R142 GNAQ_ENG_CTRL[0], WO, reset 0. -/
def GNAQ_ENG_CTRL_GO : Fld := ⟨0x11, 0x100, 0, 1, .wo, false, fun _ => 0⟩
/-- R142 GNAQ_ENG_CTRL[1], WO, reset 0. -/
def GNAQ_ENG_CTRL_ABORT : Fld := ⟨0x11, 0x100, 1, 1, .wo, false, fun _ => 0⟩
/-- R142 GNAQ_ENG_CTRL[14:8], RW, reset 0x00. -/
def GNAQ_ENG_CTRL_START : Fld := ⟨0x11, 0x100, 8, 7, .rw, false, fun _ => 0⟩
/-- R142 GNAQ_ENG_CTRL[16], RW, reset 0. -/
def GNAQ_ENG_CTRL_LOOP : Fld := ⟨0x11, 0x100, 16, 1, .rw, false, fun _ => 0⟩
/-- R142 GNAQ_ENG_STAT[2:0], RO, reset 0b000. -/
def GNAQ_ENG_STAT_STATE : Fld := ⟨0x11, 0x104, 0, 3, .ro, false, fun _ => 0⟩
/-- R142 GNAQ_ENG_STAT[14:8], RO, reset 0x00. -/
def GNAQ_ENG_STAT_ENTRY : Fld := ⟨0x11, 0x104, 8, 7, .ro, false, fun _ => 0⟩
/-- R142 GNAQ_ENG_STAT[25:16], RO, reset 0x000. -/
def GNAQ_ENG_STAT_BIN : Fld := ⟨0x11, 0x104, 16, 10, .ro, false, fun _ => 0⟩
/-- R142 GNAQ_ENG_STAT[30:26], RO, reset 0x00. -/
def GNAQ_ENG_STAT_WIN : Fld := ⟨0x11, 0x104, 26, 5, .ro, false, fun _ => 0⟩
/-- R142 GNAQ_ENG_CFG[0], RWS, reset 0. -/
def GNAQ_ENG_CFG_EARLY : Fld := ⟨0x11, 0x108, 0, 1, .rws, false, fun _ => 0⟩
/-- R142 GNAQ_ENG_CFG[31:16], RWS, reset 0x0800. -/
def GNAQ_ENG_CFG_DETTH : Fld := ⟨0x11, 0x108, 16, 16, .rws, false, fun _ => 0x800⟩
/-- R142 GNAQ_ENG_SNAP[63:0], RWS, reset 0. -/
def GNAQ_ENG_SNAP_BASE : Fld := ⟨0x11, 0x110, 0, 64, .rws, false, fun _ => 0⟩
/-- R142 GNAQ_ENG_SNAP_SIZE[15:0], RWS, reset 0x0000. -/
def GNAQ_ENG_SNAP_SIZE_SIZE : Fld := ⟨0x11, 0x118, 0, 16, .rws, false, fun _ => 0⟩
/-- R142 GNAQ_ENG_DONE[15:0], RO, reset 0x0000. -/
def GNAQ_ENG_DONE_CNT : Fld := ⟨0x11, 0x11C, 0, 16, .ro, false, fun _ => 0⟩
/-- R143 ENT_CFG0[7:0], RW, reset 0x00. -/
def ENT_CFG0_SIG : Fld := ⟨0x11, 0x1000, 0, 8, .own, false, fun _ => 0⟩
/-- R143 ENT_CFG0[9:8], RW, reset 0b00. -/
def ENT_CFG0_ANT : Fld := ⟨0x11, 0x1000, 8, 2, .own, false, fun _ => 0⟩
/-- R143 ENT_CFG0[23:16], RW, reset 0x00. -/
def ENT_CFG0_PRN : Fld := ⟨0x11, 0x1000, 16, 8, .own, false, fun _ => 0⟩
/-- R143 ENT_CFG0[27:24], RW, reset 0x0. -/
def ENT_CFG0_GLOK : Fld := ⟨0x11, 0x1000, 24, 4, .own, false, fun _ => 0⟩
/-- R143 ENT_CFG0[28], RW, reset 0. -/
def ENT_CFG0_REUSE : Fld := ⟨0x11, 0x1000, 28, 1, .own, false, fun _ => 0⟩
/-- R143 ENT_CFG0[29], RW, reset 0. -/
def ENT_CFG0_IRQ : Fld := ⟨0x11, 0x1000, 29, 1, .own, false, fun _ => 0⟩
/-- R143 ENT_CFG0[30], RW, reset 0. -/
def ENT_CFG0_LAST : Fld := ⟨0x11, 0x1000, 30, 1, .own, false, fun _ => 0⟩
/-- R143 ENT_CFG0[31], RW, reset 0. -/
def ENT_CFG0_EN : Fld := ⟨0x11, 0x1000, 31, 1, .own, false, fun _ => 0⟩
/-- R143 ENT_CFG1[4:0], RW, reset 0x00. -/
def ENT_CFG1_TCOH : Fld := ⟨0x11, 0x1004, 0, 5, .own, false, fun _ => 0⟩
/-- R143 ENT_CFG1[17:8], RW, reset 0x000. -/
def ENT_CFG1_NNC : Fld := ⟨0x11, 0x1004, 8, 10, .own, false, fun _ => 0⟩
/-- R143 ENT_CFG1[24:20], RW, reset 0x00. -/
def ENT_CFG1_NWIN : Fld := ⟨0x11, 0x1004, 20, 5, .own, false, fun _ => 0⟩
/-- R143 ENT_CFG1[29:25], RW, reset 0x00. -/
def ENT_CFG1_WBASE : Fld := ⟨0x11, 0x1004, 25, 5, .own, false, fun _ => 0⟩
/-- R143 ENT_FDC[31:0], RW, reset 0x0000_0000. -/
def ENT_FDC_FDC : Fld := ⟨0x11, 0x1008, 0, 32, .own, false, fun _ => 0⟩
/-- R143 ENT_DOP[15:0], RW, reset 0x0000. -/
def ENT_DOP_STEP : Fld := ⟨0x11, 0x100C, 0, 16, .own, false, fun _ => 0⟩
/-- R143 ENT_DOP[25:16], RW, reset 0x000. -/
def ENT_DOP_NBIN : Fld := ⟨0x11, 0x100C, 16, 10, .own, false, fun _ => 0⟩
/-- R143 ENT_PEAK[31:0], RO, reset 0x0000_0000. -/
def ENT_PEAK_PEAK : Fld := ⟨0x11, 0x1010, 0, 32, .ro, false, fun _ => 0⟩
/-- R143 ENT_CPH[20:0], RO, reset 0x00_0000. -/
def ENT_CPH_CPH : Fld := ⟨0x11, 0x1014, 0, 21, .ro, false, fun _ => 0⟩
/-- R143 ENT_CPH[31:22], RO, reset 0x000. -/
def ENT_CPH_BIN : Fld := ⟨0x11, 0x1014, 22, 10, .ro, false, fun _ => 0⟩
/-- R143 ENT_RES[15:0], RO, reset 0x0000. -/
def ENT_RES_RATIO : Fld := ⟨0x11, 0x1018, 0, 16, .ro, false, fun _ => 0⟩
/-- R143 ENT_RES[20:16], RO, reset 0x00. -/
def ENT_RES_FLAGS : Fld := ⟨0x11, 0x1018, 16, 5, .ro, false, fun _ => 0⟩
/-- R143 ENT_RES[31:28], RO, reset 0x0. -/
def ENT_RES_STATUS : Fld := ⟨0x11, 0x1018, 28, 4, .ro, false, fun _ => 0⟩
/-- R143 ENT_T0[31:0], RO, reset 0x0000_0000. -/
def ENT_T0_T0 : Fld := ⟨0x11, 0x101C, 0, 32, .ro, false, fun _ => 0⟩
/-- R187 GNTK_CH_CFG[0], RW, reset 0. -/
def GNTK_CH_CFG_EN : Fld := ⟨0x12, 0x100, 0, 1, .own, false, fun _ => 0⟩
/-- R187 GNTK_CH_CFG[1], RW, reset 0. -/
def GNTK_CH_CFG_NAV : Fld := ⟨0x12, 0x100, 1, 1, .rw, false, fun _ => 0⟩
/-- R187 GNTK_CH_CFG[5:4], RW, reset 0b00. -/
def GNTK_CH_CFG_ANT : Fld := ⟨0x12, 0x100, 4, 2, .rw, false, fun _ => 0⟩
/-- R187 GNTK_CH_CFG[11:8], RW, reset 0x0. -/
def GNTK_CH_CFG_GLOK : Fld := ⟨0x12, 0x100, 8, 4, .rw, false, fun _ => 0⟩
/-- R187 GNTK_CH_CFG[23:16], RW, reset 0x00. -/
def GNTK_CH_CFG_SIG : Fld := ⟨0x12, 0x100, 16, 8, .rw, false, fun _ => 0⟩
/-- R187 GNTK_CH_CFG[31:24], RW, reset 0x00. -/
def GNTK_CH_CFG_PRN : Fld := ⟨0x12, 0x100, 24, 8, .rw, false, fun _ => 0⟩
/-- R187 GNTK_CH_INIT_DOP[31:0], RW, reset 0x0000_0000. -/
def GNTK_CH_INIT_DOP_DOP : Fld := ⟨0x12, 0x104, 0, 32, .rw, false, fun _ => 0⟩
/-- R187 GNTK_CH_INIT_CPH[20:0], RW, reset 0x00_0000. -/
def GNTK_CH_INIT_CPH_CPH : Fld := ⟨0x12, 0x108, 0, 21, .rw, false, fun _ => 0⟩
/-- R187 GNTK_CH_INIT_T0[31:0], RW, reset 0x0000_0000. -/
def GNTK_CH_INIT_T0_T0 : Fld := ⟨0x12, 0x10C, 0, 32, .rw, false, fun _ => 0⟩
/-- R187 GNTK_CH_TAPS[5:0], RWS, reset 0x08. -/
def GNTK_CH_TAPS_ELSP : Fld := ⟨0x12, 0x110, 0, 6, .rws, false, fun _ => 8⟩
/-- R187 GNTK_CH_TAPS[13:8], RWS, reset 0x20. -/
def GNTK_CH_TAPS_VESP : Fld := ⟨0x12, 0x110, 8, 6, .rws, false, fun _ => 0x20⟩
/-- R187 GNTK_CH_TAPS[23:16], RWS, reset 0x20. -/
def GNTK_CH_TAPS_MPOFF : Fld := ⟨0x12, 0x110, 16, 8, .rws, false, fun _ => 0x20⟩
/-- R187 GNTK_CH_LOOP[4:0], RWS, reset 0x14. -/
def GNTK_CH_LOOP_TINT : Fld := ⟨0x12, 0x114, 0, 5, .rws, false, fun _ => 0x14⟩
/-- R187 GNTK_CH_LOOP[8], RWS, reset 0. -/
def GNTK_CH_LOOP_DLLORD : Fld := ⟨0x12, 0x114, 8, 1, .rws, false, fun _ => 0⟩
/-- R187 GNTK_CH_LOOP[9], RWS, reset 1. -/
def GNTK_CH_LOOP_PLLORD : Fld := ⟨0x12, 0x114, 9, 1, .rws, false, fun _ => 1⟩
/-- R187 GNTK_CH_LOOP[10], RWS, reset 1. -/
def GNTK_CH_LOOP_FLLORD : Fld := ⟨0x12, 0x114, 10, 1, .rws, false, fun _ => 1⟩
/-- R187 GNTK_CH_LOOP[12], RWS, reset 1. -/
def GNTK_CH_LOOP_AID : Fld := ⟨0x12, 0x114, 12, 1, .rws, false, fun _ => 1⟩
/-- R187 GNTK_CH_BW[9:0], RWS, reset 0x032. -/
def GNTK_CH_BW_DLLBW : Fld := ⟨0x12, 0x118, 0, 10, .rws, false, fun _ => 0x32⟩
/-- R187 GNTK_CH_BW[19:12], RWS, reset 0x64. -/
def GNTK_CH_BW_FLLBW : Fld := ⟨0x12, 0x118, 12, 8, .rws, false, fun _ => 0x64⟩
/-- R187 GNTK_CH_BW[29:24], RWS, reset 0x0F. -/
def GNTK_CH_BW_PLLBW : Fld := ⟨0x12, 0x118, 24, 6, .rws, false, fun _ => 0xf⟩
/-- R187 GNTK_CH_THR[7:0], RWS, reset 0x18. -/
def GNTK_CH_THR_LOSSTH : Fld := ⟨0x12, 0x11C, 0, 8, .rws, false, fun _ => 0x18⟩
/-- R187 GNTK_CH_THR[23:16], RWS, reset 0x14. -/
def GNTK_CH_THR_COAST_T : Fld := ⟨0x12, 0x11C, 16, 8, .rws, false, fun _ => 0x14⟩
/-- R187 GNTK_CH_STAT[9:0], RO, reset 0x000. -/
def GNTK_CH_STAT_PLI : Fld := ⟨0x12, 0x120, 0, 10, .ro, false, fun _ => 0⟩
/-- R187 GNTK_CH_STAT[11:10], RO, reset 0b00. -/
def GNTK_CH_STAT_AMB : Fld := ⟨0x12, 0x120, 10, 2, .ro, false, fun _ => 0⟩
/-- R187 GNTK_CH_STAT[14:12], RO, reset 0b000. -/
def GNTK_CH_STAT_STATE : Fld := ⟨0x12, 0x120, 12, 3, .ro, false, fun _ => 0⟩
/-- R187 GNTK_CH_STAT[25:16], RO, reset 0x000. -/
def GNTK_CH_STAT_CN0 : Fld := ⟨0x12, 0x120, 16, 10, .ro, false, fun _ => 0⟩
/-- R187 GNTK_CH_STAT[30:28], RO, reset 0b000. -/
def GNTK_CH_STAT_LCAUSE : Fld := ⟨0x12, 0x120, 28, 3, .ro, false, fun _ => 0⟩
/-- R187 GNTK_CH_HC[0], WO, reset 0. -/
def GNTK_CH_HC_RESOLVE : Fld := ⟨0x12, 0x124, 0, 1, .wo, false, fun _ => 0⟩
/-- R187 GNTK_CH_HC[1], WO, reset 0. -/
def GNTK_CH_HC_INV : Fld := ⟨0x12, 0x124, 1, 1, .wo, false, fun _ => 0⟩
/-- R187 GNTK_CH_TOW[15:0], WO, reset 0x0000. -/
def GNTK_CH_TOW_MS : Fld := ⟨0x12, 0x128, 0, 16, .wo, false, fun _ => 0⟩
/-- R187 GNTK_CH_TOW[31:16], WO, reset 0x0000. -/
def GNTK_CH_TOW_EPSEQ : Fld := ⟨0x12, 0x128, 16, 16, .wo, false, fun _ => 0⟩
/-- R187 GNTK_CH_SLIPS[15:0], RO, reset 0x0000. -/
def GNTK_CH_SLIPS_CNT : Fld := ⟨0x12, 0x12C, 0, 16, .ro, false, fun _ => 0⟩
/-- R188 GNTK_EPOCH_CFG[9:0], RWS, reset 0x064. -/
def GNTK_EPOCH_CFG_EPER : Fld := ⟨0x12, 0x800, 0, 10, .rws, false, fun _ => 0x64⟩
/-- R188 GNTK_EPSEQ[31:0], RO, reset 0x0000_0000. -/
def GNTK_EPSEQ_SEQ : Fld := ⟨0x12, 0x804, 0, 32, .ro, false, fun _ => 0⟩
/-- R188 GNTK_RING[63:0], RWS, reset 0. -/
def GNTK_RING_BASE : Fld := ⟨0x12, 0x808, 0, 64, .rws, false, fun _ => 0⟩
/-- R188 GNTK_RING_CFG[7:0], RWS, reset 0x00. -/
def GNTK_RING_CFG_NEP : Fld := ⟨0x12, 0x810, 0, 8, .rws, false, fun _ => 0⟩
/-- R188 GNTK_RING_WR[7:0], RO, reset 0x00. -/
def GNTK_RING_WR_WR : Fld := ⟨0x12, 0x814, 0, 8, .ro, false, fun _ => 0⟩
/-- R188 GNTK_RING_RD[7:0], RW, reset 0x00. -/
def GNTK_RING_RD_RD : Fld := ⟨0x12, 0x818, 0, 8, .rw, false, fun _ => 0⟩
/-- R188 GNTK_EPDROP[15:0], W1C, reset 0x0000. -/
def GNTK_EPDROP_CNT : Fld := ⟨0x12, 0x81C, 0, 16, .w1c, false, fun _ => 0⟩
/-- R188 GNTK_NAV[63:0], RWS, reset 0. -/
def GNTK_NAV_BASE : Fld := ⟨0x12, 0x820, 0, 64, .rws, false, fun _ => 0⟩
/-- R188 GNTK_NAV_CFG[3:0], RWS, reset 0x0. -/
def GNTK_NAV_CFG_SIZE : Fld := ⟨0x12, 0x828, 0, 4, .rws, false, fun _ => 0⟩
/-- R188 GNTK_NAV_WR[15:0], RO, reset 0x0000. -/
def GNTK_NAV_WR_IDX : Fld := ⟨0x12, 0x82C, 0, 16, .ro, false, fun _ => 0⟩
/-- R188 GNTK_NAV_RD[15:0], RW, reset 0x0000. -/
def GNTK_NAV_RD_IDX : Fld := ⟨0x12, 0x830, 0, 16, .rw, false, fun _ => 0⟩
/-- R188 GNTK_NAVDROP[15:0], W1C, reset 0x0000. -/
def GNTK_NAVDROP_CNT : Fld := ⟨0x12, 0x834, 0, 16, .w1c, false, fun _ => 0⟩
/-- R188 GNTK_COPY[9:0], RWS, reset 0x000. -/
def GNTK_COPY_CH : Fld := ⟨0x12, 0x840, 0, 10, .rws, false, fun _ => 0⟩
/-- R188 GNTK_COPY[21:16], RWS, reset 0x00. -/
def GNTK_COPY_SLOT : Fld := ⟨0x12, 0x840, 16, 6, .rws, false, fun _ => 0⟩
/-- R188 GNTK_COPY[31], RWS, reset 0. -/
def GNTK_COPY_EN : Fld := ⟨0x12, 0x840, 31, 1, .rws, false, fun _ => 0⟩
/-- R188 GNTK_XF_CFG[7:0], RW, reset 0x06. -/
def GNTK_XF_CFG_XF_TH : Fld := ⟨0x12, 0x860, 0, 8, .rw, false, fun _ => 6⟩
/-- R188 GNTK_XF_CFG[15:8], RW, reset 0x3C. -/
def GNTK_XF_CFG_XF_ABS : Fld := ⟨0x12, 0x860, 8, 8, .rw, false, fun _ => 0x3c⟩
/-- R188 GNTK_XF_CFG[23:16], RW, reset 0x05. -/
def GNTK_XF_CFG_CCD_TH : Fld := ⟨0x12, 0x860, 16, 8, .rw, false, fun _ => 5⟩
/-- R188 GNTK_XF_CFG[31:24], RW, reset 0x0A. -/
def GNTK_XF_CFG_CCD_WIN : Fld := ⟨0x12, 0x860, 24, 8, .rw, false, fun _ => 0xa⟩
/-- R188 GNTK_CJ_CFG[7:0], RW, reset 0x06. -/
def GNTK_CJ_CFG_CJ_TH : Fld := ⟨0x12, 0x864, 0, 8, .rw, false, fun _ => 6⟩
/-- R188 GNTK_CJ_CFG[15:8], RW, reset 0x0A. -/
def GNTK_CJ_CFG_SJ_TH : Fld := ⟨0x12, 0x864, 8, 8, .rw, false, fun _ => 0xa⟩
/-- R188 GNTK_CJ_CFG[19:16], RW, reset 0x6. -/
def GNTK_CJ_CFG_CJ_MIN : Fld := ⟨0x12, 0x864, 16, 4, .rw, false, fun _ => 6⟩
/-- R188 GNTK_CJ_CFG[31:24], RW, reset 0x6E. -/
def GNTK_CJ_CFG_CN0_MAX : Fld := ⟨0x12, 0x864, 24, 8, .rw, false, fun _ => 0x6e⟩
/-- R188 GNTK_FLAT_CFG[7:0], RW, reset 0x0A. -/
def GNTK_FLAT_CFG_FLAT_SD : Fld := ⟨0x12, 0x868, 0, 8, .rw, false, fun _ => 0xa⟩
/-- R188 GNTK_FLAT_CFG[15:8], RW, reset 0x08. -/
def GNTK_FLAT_CFG_FLAT_N : Fld := ⟨0x12, 0x868, 8, 8, .rw, false, fun _ => 8⟩
/-- R188 GNTK_JAM_CFG[7:0], RW, reset 0x0C. -/
def GNTK_JAM_CFG_JAM_NF : Fld := ⟨0x12, 0x86C, 0, 8, .rw, false, fun _ => 0xc⟩
/-- R188 GNTK_JAM_CFG[15:8], RW, reset 0x0C. -/
def GNTK_JAM_CFG_JAM_G : Fld := ⟨0x12, 0x86C, 8, 8, .rw, false, fun _ => 0xc⟩
/-- R188 GNTK_JAM_CFG[31], WO, reset 0. -/
def GNTK_JAM_CFG_LEARN : Fld := ⟨0x12, 0x86C, 31, 1, .wo, false, fun _ => 0⟩
/-- R188 GNTK_JAM_REF[15:0], RW, reset 0x0000. -/
def GNTK_JAM_REF_NFREF : Fld := ⟨0x12, 0x870, 0, 16, .rw, false, fun _ => 0⟩
/-- R188 GNTK_JAM_REF[23:16], RW, reset 0x00. -/
def GNTK_JAM_REF_GREF : Fld := ⟨0x12, 0x870, 16, 8, .rw, false, fun _ => 0⟩
/-- R188 GNTK_INTF[17:0], RO, reset 0x0_0000. -/
def GNTK_INTF_JAM : Fld := ⟨0x12, 0x8A0, 0, 18, .ro, false, fun _ => 0⟩
/-- R188 GNTK_INTF[24], RO, reset 0. -/
def GNTK_INTF_CJUMP : Fld := ⟨0x12, 0x8A0, 24, 1, .ro, false, fun _ => 0⟩
/-- R188 GNTK_INTF[28:26], RO, reset 0b000. -/
def GNTK_INTF_CN0FLAT : Fld := ⟨0x12, 0x8A0, 26, 3, .ro, false, fun _ => 0⟩
/-- R188 GNTK_CLKRES[31:0], RO, reset 0x0000_0000. -/
def GNTK_CLKRES_RES : Fld := ⟨0x12, 0x8A4, 0, 32, .ro, false, fun _ => 0⟩
/-- R188 GNTK_GUARD_CFG[5:0], RWS, reset 0x3E. -/
def GNTK_GUARD_CFG_SLOT : Fld := ⟨0x12, 0x8B0, 0, 6, .rws, false, fun _ => 0x3e⟩
/-- R188 GNTK_GUARD_CFG[8], RW, reset 0. -/
def GNTK_GUARD_CFG_EN : Fld := ⟨0x12, 0x8B0, 8, 1, .rw, false, fun _ => 0⟩
/-- R188 GNTK_GUARD_CFG[9], RW, reset 1. -/
def GNTK_GUARD_CFG_EGOREQ : Fld := ⟨0x12, 0x8B0, 9, 1, .rw, false, fun _ => 1⟩
/-- R188 GNTK_GUARD_CFG[19:16], RW, reset 0x3. -/
def GNTK_GUARD_CFG_CNT_BAD : Fld := ⟨0x12, 0x8B0, 16, 4, .rw, false, fun _ => 3⟩
/-- R188 GNTK_GUARD_CFG[27:20], RW, reset 0x0A. -/
def GNTK_GUARD_CFG_CNT_GOOD : Fld := ⟨0x12, 0x8B0, 20, 8, .rw, false, fun _ => 0xa⟩
/-- R188 GNTK_GUARD_TH[11:0], RW, reset 0x12C. -/
def GNTK_GUARD_TH_SPD_TH : Fld := ⟨0x12, 0x8B4, 0, 12, .rw, false, fun _ => 0x12c⟩
/-- R188 GNTK_GUARD_TH[15:12], RW, reset 0x5. -/
def GNTK_GUARD_TH_SPD_REL : Fld := ⟨0x12, 0x8B4, 12, 4, .rw, false, fun _ => 5⟩
/-- R188 GNTK_GUARD_TH[27:16], RW, reset 0x12C. -/
def GNTK_GUARD_TH_YAW_TH : Fld := ⟨0x12, 0x8B4, 16, 12, .rw, false, fun _ => 0x12c⟩
/-- R188 GNTK_PVT_SPD[15:0], WO, reset 0x0000. -/
def GNTK_PVT_SPD_SPD : Fld := ⟨0x12, 0x8B8, 0, 16, .wo, false, fun _ => 0⟩
/-- R188 GNTK_PVT_SPD[31:16], WO, reset 0x0000. -/
def GNTK_PVT_SPD_EPSEQ : Fld := ⟨0x12, 0x8B8, 16, 16, .wo, false, fun _ => 0⟩
/-- R188 GNTK_PVT_YAW[15:0], WO, reset 0x0000. -/
def GNTK_PVT_YAW_RATE : Fld := ⟨0x12, 0x8BC, 0, 16, .wo, false, fun _ => 0⟩
/-- R188 GNTK_PVT_YAW[16], WO, reset 0. -/
def GNTK_PVT_YAW_VALID : Fld := ⟨0x12, 0x8BC, 16, 1, .wo, false, fun _ => 0⟩
/-- R188 GNTK_PVT_YAW[17], WO, reset 0. -/
def GNTK_PVT_YAW_SG : Fld := ⟨0x12, 0x8BC, 17, 1, .wo, false, fun _ => 0⟩
/-- R188 GNTK_GUARD_STAT[0], RO, reset 0. -/
def GNTK_GUARD_STAT_SGV : Fld := ⟨0x12, 0x8C0, 0, 1, .ro, false, fun _ => 0⟩
/-- R188 GNTK_GUARD_STAT[1], RO, reset 0. -/
def GNTK_GUARD_STAT_CONTRA : Fld := ⟨0x12, 0x8C0, 1, 1, .ro, false, fun _ => 0⟩
/-- R188 GNTK_GUARD_STAT[2], RO, reset 0. -/
def GNTK_GUARD_STAT_PVTOK : Fld := ⟨0x12, 0x8C0, 2, 1, .ro, false, fun _ => 0⟩
/-- R188 GNTK_GUARD_STAT[3], RO, reset 0. -/
def GNTK_GUARD_STAT_EGOOK : Fld := ⟨0x12, 0x8C0, 3, 1, .ro, false, fun _ => 0⟩
/-- R188 GNTK_GUARD_STAT[31:16], RO, reset 0x0000. -/
def GNTK_GUARD_STAT_DSPD : Fld := ⟨0x12, 0x8C0, 16, 16, .ro, false, fun _ => 0⟩
/-- R188 GNTK_GUARD_CMD[0], WO, reset 0. -/
def GNTK_GUARD_CMD_REARM : Fld := ⟨0x12, 0x8C4, 0, 1, .wo, false, fun _ => 0⟩
/-- R191 GNTP_CFG[0], RWS, reset 1. -/
def GNTP_CFG_ANTCOMP : Fld := ⟨0x13, 0x800, 0, 1, .rws, false, fun _ => 1⟩
/-- R191 GNTP_CFG[2:1], RWS, reset 0b00. -/
def GNTP_CFG_REFANT : Fld := ⟨0x13, 0x800, 1, 2, .rws, false, fun _ => 0⟩
/-- R191 GNTP_CFG[4], RWS, reset 0. -/
def GNTP_CFG_POL : Fld := ⟨0x13, 0x800, 4, 1, .rws, false, fun _ => 0⟩
/-- R191 GNTP_CFG[9:8], RWS, reset 0b01. -/
def GNTP_CFG_GATE : Fld := ⟨0x13, 0x800, 8, 2, .rws, false, fun _ => 1⟩
/-- R191 GNTP_PERIOD[31:0], RWS, reset 0x3B9A_CA00. -/
def GNTP_PERIOD_PERIOD : Fld := ⟨0x13, 0x804, 0, 32, .rws, false, fun _ => 0x3b9aca00⟩
/-- R191 GNTP_WIDTH[31:0], RWS, reset 0x0001_86A0. -/
def GNTP_WIDTH_WIDTH : Fld := ⟨0x13, 0x808, 0, 32, .rws, false, fun _ => 0x186a0⟩
/-- R191 GNTP_GATEERR[15:0], RWS, reset 0x03E8. -/
def GNTP_GATEERR_ERRB : Fld := ⟨0x13, 0x80C, 0, 16, .rws, false, fun _ => 0x3e8⟩
/-- R191 GNTP_ANTDLY[18:0], RWS, reset 0x0_0000. -/
def GNTP_ANTDLY_DLY : Fld := ⟨0x13, 0x810, 0, 19, .rws, false, fun _ => 0⟩
/-- R191 GNTP_OUTDLY[18:0], RWS, reset 0x0_0000. -/
def GNTP_OUTDLY_DLY : Fld := ⟨0x13, 0x81C, 0, 19, .rws, false, fun _ => 0⟩
/-- R191 GNTP_LAST[63:0], RO, reset 0. -/
def GNTP_LAST_INST : Fld := ⟨0x13, 0x820, 0, 64, .ro, false, fun _ => 0⟩
/-- R191 GNTP_PSTAT[1], RO, reset 0. -/
def GNTP_PSTAT_LOCK : Fld := ⟨0x13, 0x828, 1, 1, .ro, false, fun _ => 0⟩
/-- R191 GNTP_PSTAT[2], RO, reset 0. -/
def GNTP_PSTAT_SLEW : Fld := ⟨0x13, 0x828, 2, 1, .ro, false, fun _ => 0⟩
/-- R191 GNTP_PSTAT[3], RO, reset 0. -/
def GNTP_PSTAT_HOLD : Fld := ⟨0x13, 0x828, 3, 1, .ro, false, fun _ => 0⟩
/-- R191 GNTP_PSTAT[4], RO, reset 0. -/
def GNTP_PSTAT_STEP : Fld := ⟨0x13, 0x828, 4, 1, .ro, false, fun _ => 0⟩
/-- R191 GNTP_PSTAT[5], RO, reset 0. -/
def GNTP_PSTAT_UNSET : Fld := ⟨0x13, 0x828, 5, 1, .ro, false, fun _ => 0⟩
/-- R191 GNTP_PSTAT[6], RO, reset 0. -/
def GNTP_PSTAT_GATED : Fld := ⟨0x13, 0x828, 6, 1, .ro, false, fun _ => 0⟩
/-- R191 GNTP_PSTAT[31:16], RO, reset 0xFFFF. -/
def GNTP_PSTAT_HOLDERR : Fld := ⟨0x13, 0x828, 16, 16, .ro, false, fun _ => 0xffff⟩
/-- R226 CNPY_SEN_CFG[0], RW, reset 0. -/
def CNPY_SEN_CFG_EN : Fld := ⟨0x18, 0x100, 0, 1, .own, false, fun _ => 0⟩
/-- R226 CNPY_SEN_CFG[1], RWS, reset 0. -/
def CNPY_SEN_CFG_FUSE : Fld := ⟨0x18, 0x100, 1, 1, .rws, false, fun _ => 0⟩
/-- R226 CNPY_SEN_CFG[3:2], RO, reset fixed. -/
def CNPY_SEN_CFG_TYPE : Fld := ⟨0x18, 0x100, 2, 2, .ro, false, fun i => if i < 6 then 0 else 1⟩
/-- R226 CNPY_SEN_CFG[5:4], RWS, reset 0b00. -/
def CNPY_SEN_CFG_PIXFMT : Fld := ⟨0x18, 0x100, 4, 2, .rws, false, fun _ => 0⟩
/-- R226 CNPY_SEN_CFG[9:8], RWS, reset 0b00. -/
def CNPY_SEN_CFG_DEPTH : Fld := ⟨0x18, 0x100, 8, 2, .rws, false, fun _ => 0⟩
/-- R226 CNPY_SEN_CFG[23:16], RWS, reset 0x40. -/
def CNPY_SEN_CFG_ALPHA : Fld := ⟨0x18, 0x100, 16, 8, .rws, false, fun _ => 0x40⟩
/-- R226 CNPY_SEN_CFG[26:24], RWS, reset 0b000. -/
def CNPY_SEN_CFG_REF : Fld := ⟨0x18, 0x100, 24, 3, .rws, false, fun _ => 0⟩
/-- R226 CNPY_SEN_TIME[9:0], RWS, reset 0x032. -/
def CNPY_SEN_TIME_FPER : Fld := ⟨0x18, 0x104, 0, 10, .rws, false, fun _ => 0x32⟩
/-- R226 CNPY_SEN_TIME[31:16], RWS, reset 0x0000. -/
def CNPY_SEN_TIME_LAT : Fld := ⟨0x18, 0x104, 16, 16, .rws, false, fun _ => 0⟩
/-- R226 CNPY_SEN_RING[63:0], RWS, reset 0. -/
def CNPY_SEN_RING_BASE : Fld := ⟨0x18, 0x108, 0, 64, .rws, false, fun _ => 0⟩
/-- R226 CNPY_SEN_RING[7:0], RWS, reset 0x00. -/
def CNPY_SEN_RING_NBUF : Fld := ⟨0x18, 0x110, 0, 8, .rws, false, fun _ => 0⟩
/-- R226 CNPY_SEN_RING[31:16], RWS, reset 0x0000. -/
def CNPY_SEN_RING_BUFSZ : Fld := ⟨0x18, 0x110, 16, 16, .rws, false, fun _ => 0⟩
/-- R226 CNPY_SEN_FMAP[11:0], RWS, reset 0x000. -/
def CNPY_SEN_FMAP_FW : Fld := ⟨0x18, 0x114, 0, 12, .rws, false, fun _ => 0⟩
/-- R226 CNPY_SEN_FMAP[23:12], RWS, reset 0x000. -/
def CNPY_SEN_FMAP_FH : Fld := ⟨0x18, 0x114, 12, 12, .rws, false, fun _ => 0⟩
/-- R226 CNPY_SEN_FMAP[29:24], RWS, reset 0x00. -/
def CNPY_SEN_FMAP_FC : Fld := ⟨0x18, 0x114, 24, 6, .rws, false, fun _ => 0⟩
/-- R226 CNPY_SEN_FMAP2[5:0], RWS, reset 0x08. -/
def CNPY_SEN_FMAP2_FSTEP : Fld := ⟨0x18, 0x118, 0, 6, .rws, false, fun _ => 8⟩
/-- R226 CNPY_SEN_FMAP2[21:16], RWS, reset 0x00. -/
def CNPY_SEN_FMAP2_CHBASE : Fld := ⟨0x18, 0x118, 16, 6, .rws, false, fun _ => 0⟩
/-- R226 CNPY_SEN_STAT[2:0], RO, reset 0b000. -/
def CNPY_SEN_STAT_STATE : Fld := ⟨0x18, 0x11C, 0, 3, .ro, false, fun _ => 0⟩
/-- R226 CNPY_SEN_STAT[6:4], RO, reset 0b000. -/
def CNPY_SEN_STAT_CAUSE : Fld := ⟨0x18, 0x11C, 4, 3, .ro, false, fun _ => 0⟩
/-- R226 CNPY_SEN_STAT[15:8], RO, reset 0x00. -/
def CNPY_SEN_STAT_INSTEP : Fld := ⟨0x18, 0x11C, 8, 8, .ro, false, fun _ => 0⟩
/-- R226 CNPY_SEN_STAT[31:24], RO, reset 0x00. -/
def CNPY_SEN_STAT_OUTCNT : Fld := ⟨0x18, 0x11C, 24, 8, .ro, false, fun _ => 0⟩
/-- R226 CNPY_SEN_OFFS[31:0], RO, reset 0x0000_0000. -/
def CNPY_SEN_OFFS_OFFS : Fld := ⟨0x18, 0x120, 0, 32, .ro, false, fun _ => 0⟩
/-- R226 CNPY_SEN_CNT[15:0], RO, reset 0x0000. -/
def CNPY_SEN_CNT_BADOFF : Fld := ⟨0x18, 0x124, 0, 16, .ro, false, fun _ => 0⟩
/-- R226 CNPY_SEN_CNT[31:16], RO, reset 0x0000. -/
def CNPY_SEN_CNT_LATE : Fld := ⟨0x18, 0x124, 16, 16, .ro, false, fun _ => 0⟩
/-- R226 CNPY_SEN_CMD[0], WO, reset 0. -/
def CNPY_SEN_CMD_RECHECK : Fld := ⟨0x18, 0x128, 0, 1, .wo, false, fun _ => 0⟩
/-- R226 CNPY_SEN_BANK[0], RO, reset 0. -/
def CNPY_SEN_BANK_ACT : Fld := ⟨0x18, 0x12C, 0, 1, .ro, false, fun _ => 0⟩
/-- R226 CNPY_SEN_BANK[1], RO, reset 0. -/
def CNPY_SEN_BANK_PEND : Fld := ⟨0x18, 0x12C, 1, 1, .ro, false, fun _ => 0⟩
/-- R226 CNPY_SEN_CHK[10:0], RO, reset 0x000. -/
def CNPY_SEN_CHK_SCORE : Fld := ⟨0x18, 0x130, 0, 11, .ro, false, fun _ => 0⟩
/-- R226 CNPY_SEN_CHK[31:16], RO, reset 0x0000. -/
def CNPY_SEN_CHK_OVL : Fld := ⟨0x18, 0x130, 16, 16, .ro, false, fun _ => 0⟩
/-- R226 CNPY_SEN_POST[7:0], WO, reset 0x00. -/
def CNPY_SEN_POST_BUF : Fld := ⟨0x18, 0x134, 0, 8, .wo, false, fun _ => 0⟩
/-- R227 CNPY_GRID_CFG[9:0], RWS, reset 0x032. -/
def CNPY_GRID_CFG_GPER : Fld := ⟨0x18, 0x800, 0, 10, .rws, false, fun _ => 0x32⟩
/-- R227 CNPY_GRID_CFG[25:16], RWS, reset 0x024. -/
def CNPY_GRID_CFG_GLAG : Fld := ⟨0x18, 0x800, 16, 10, .rws, false, fun _ => 0x24⟩
/-- R227 CNPY_GRID[63:0], RWS, reset 0. -/
def CNPY_GRID_BASE : Fld := ⟨0x18, 0x808, 0, 64, .rws, false, fun _ => 0⟩
/-- R227 CNPY_HDR[63:0], RWS, reset 0. -/
def CNPY_HDR_BASE : Fld := ⟨0x18, 0x810, 0, 64, .rws, false, fun _ => 0⟩
/-- R227 CNPY_HDR_CFG[7:0], RWS, reset 0x10. -/
def CNPY_HDR_CFG_NHDR : Fld := ⟨0x18, 0x818, 0, 8, .rws, false, fun _ => 0x10⟩
/-- R227 CNPY_GSEQ[31:0], RO, reset 0x0000_0000. -/
def CNPY_GSEQ_SEQ : Fld := ⟨0x18, 0x81C, 0, 32, .ro, false, fun _ => 0⟩
/-- R227 CNPY_ORG[8:0], RO, reset 0x000. -/
def CNPY_ORG_ORGX : Fld := ⟨0x18, 0x820, 0, 9, .ro, false, fun _ => 0⟩
/-- R227 CNPY_ORG[24:16], RO, reset 0x000. -/
def CNPY_ORG_ORGY : Fld := ⟨0x18, 0x820, 16, 9, .ro, false, fun _ => 0⟩
/-- R227 CNPY_EXCL[7:0], RO, reset 0x00. -/
def CNPY_EXCL_MASK : Fld := ⟨0x18, 0x824, 0, 8, .ro, false, fun _ => 0⟩
/-- R227 CNPY_CONT_CFG[15:0], RW, reset 0x3266. -/
def CNPY_CONT_CFG_CONT_TH : Fld := ⟨0x18, 0x830, 0, 16, .rw, false, fun _ => 0x3266⟩
/-- R227 CNPY_CONT_CFG[21:16], RW, reset 0x00. -/
def CNPY_CONT_CFG_CMPCH : Fld := ⟨0x18, 0x830, 16, 6, .rw, false, fun _ => 0⟩
/-- R227 CNPY_CONT_CFG[27:24], RW, reset 0x4. -/
def CNPY_CONT_CFG_CONF_MIN : Fld := ⟨0x18, 0x830, 24, 4, .rw, false, fun _ => 4⟩
/-- R227 CNPY_CONT_CFG[31:28], RW, reset 0x2. -/
def CNPY_CONT_CFG_CONT_CLR : Fld := ⟨0x18, 0x830, 28, 4, .rw, false, fun _ => 2⟩
/-- R227 CNPY_RES_CFG[0], RWS, reset 0. -/
def CNPY_RES_CFG_EN : Fld := ⟨0x18, 0x840, 0, 1, .rws, false, fun _ => 0⟩
/-- R227 CNPY_RES_CFG[15:8], RWS, reset 0x64. -/
def CNPY_RES_CFG_NACC : Fld := ⟨0x18, 0x840, 8, 8, .rws, false, fun _ => 0x64⟩
/-- R227 CNPY_SWAP[7:0], WO, reset 0x00. -/
def CNPY_SWAP_MASK : Fld := ⟨0x18, 0x850, 0, 8, .wo, false, fun _ => 0⟩
/-- R227 CNPY_HP_CTRL[0], WO, reset 0. -/
def CNPY_HP_CTRL_GO : Fld := ⟨0x18, 0x860, 0, 1, .wo, false, fun _ => 0⟩
/-- R227 CNPY_HP_CTRL[1], RW, reset 0. -/
def CNPY_HP_CTRL_BANK : Fld := ⟨0x18, 0x860, 1, 1, .rw, false, fun _ => 0⟩
/-- R227 CNPY_HP_CTRL[6:4], RW, reset 0b000. -/
def CNPY_HP_CTRL_DST : Fld := ⟨0x18, 0x860, 4, 3, .rw, false, fun _ => 0⟩
/-- R227 CNPY_HP_CTRL[10:8], RW, reset 0b000. -/
def CNPY_HP_CTRL_SRC : Fld := ⟨0x18, 0x860, 8, 3, .rw, false, fun _ => 0⟩
/-- R227 CNPY_HP_CTRL[23:16], RW, reset 0x00. -/
def CNPY_HP_CTRL_DBUF : Fld := ⟨0x18, 0x860, 16, 8, .rw, false, fun _ => 0⟩
/-- R227 CNPY_HP_CTRL[31:24], RW, reset 0x00. -/
def CNPY_HP_CTRL_SBUF : Fld := ⟨0x18, 0x860, 24, 8, .rw, false, fun _ => 0⟩
/-- R227 CNPY_HP_OUT[63:0], RW, reset 0. -/
def CNPY_HP_OUT_BASE : Fld := ⟨0x18, 0x868, 0, 64, .rw, false, fun _ => 0⟩
/-- R227 CNPY_HP_STAT[1:0], RO, reset 0b00. -/
def CNPY_HP_STAT_ST : Fld := ⟨0x18, 0x870, 0, 2, .ro, false, fun _ => 0⟩
/-- R227 CNPY_HP_STAT[14:4], RO, reset 0x000. -/
def CNPY_HP_STAT_SCORE : Fld := ⟨0x18, 0x870, 4, 11, .ro, false, fun _ => 0⟩
/-- R227 CNPY_HP_STAT[31:16], RO, reset 0x0000. -/
def CNPY_HP_STAT_OVL : Fld := ⟨0x18, 0x870, 16, 16, .ro, false, fun _ => 0⟩
/-- R227 CNPY_CHK_CFG[10:0], RW, reset 0x266. -/
def CNPY_CHK_CFG_CHK_TH : Fld := ⟨0x18, 0x874, 0, 11, .rw, false, fun _ => 0x266⟩
/-- R227 CNPY_CLEAR[0], WO, reset 0. -/
def CNPY_CLEAR_GO : Fld := ⟨0x18, 0x880, 0, 1, .wo, false, fun _ => 0⟩
/-- R227 CNPY_UPDSTAT[15:0], RO, reset 0x0000. -/
def CNPY_UPDSTAT_DUR : Fld := ⟨0x18, 0x884, 0, 16, .ro, false, fun _ => 0⟩
/-- R227 CNPY_UPDSTAT[31:16], RO, reset 0x0000. -/
def CNPY_UPDSTAT_OVR : Fld := ⟨0x18, 0x884, 16, 16, .ro, false, fun _ => 0⟩
/-- R217 CAL_FX[31:0], RW, reset 0. -/
def CAL_FX_V : Fld := ⟨0x18, 0x1000, 0, 32, .rw, false, fun _ => 0⟩
/-- R217 CAL_FY[31:0], RW, reset 0. -/
def CAL_FY_V : Fld := ⟨0x18, 0x1004, 0, 32, .rw, false, fun _ => 0⟩
/-- R217 CAL_CX[31:0], RW, reset 0. -/
def CAL_CX_V : Fld := ⟨0x18, 0x1008, 0, 32, .rw, false, fun _ => 0⟩
/-- R217 CAL_CY[31:0], RW, reset 0. -/
def CAL_CY_V : Fld := ⟨0x18, 0x100C, 0, 32, .rw, false, fun _ => 0⟩
/-- R217 CAL_K1[31:0], RW, reset 0. -/
def CAL_K1_V : Fld := ⟨0x18, 0x1010, 0, 32, .rw, false, fun _ => 0⟩
/-- R217 CAL_K2[31:0], RW, reset 0. -/
def CAL_K2_V : Fld := ⟨0x18, 0x1014, 0, 32, .rw, false, fun _ => 0⟩
/-- R217 CAL_K3[31:0], RW, reset 0. -/
def CAL_K3_V : Fld := ⟨0x18, 0x1018, 0, 32, .rw, false, fun _ => 0⟩
/-- R217 CAL_P1[31:0], RW, reset 0. -/
def CAL_P1_V : Fld := ⟨0x18, 0x101C, 0, 32, .rw, false, fun _ => 0⟩
/-- R217 CAL_P2[31:0], RW, reset 0. -/
def CAL_P2_V : Fld := ⟨0x18, 0x1020, 0, 32, .rw, false, fun _ => 0⟩
/-- R217 CAL_ROT[31:0], RW, reset by index. -/
def CAL_ROT_V : Fld := ⟨0x18, 0x1024, 0, 32, .rw, false, fun i => if i % 9 = 0 ∨ i % 9 = 4 ∨ i % 9 = 8 then 0x40000000 else 0⟩
/-- R217 CAL_TX[31:0], RW, reset 0. -/
def CAL_TX_V : Fld := ⟨0x18, 0x1048, 0, 32, .rw, false, fun _ => 0⟩
/-- R217 CAL_TY[31:0], RW, reset 0. -/
def CAL_TY_V : Fld := ⟨0x18, 0x104C, 0, 32, .rw, false, fun _ => 0⟩
/-- R217 CAL_TZ[31:0], RW, reset 0. -/
def CAL_TZ_V : Fld := ⟨0x18, 0x1050, 0, 32, .rw, false, fun _ => 0⟩
/-- R217 CAL_SIZE[15:0], RW, reset 0. -/
def CAL_SIZE_W : Fld := ⟨0x18, 0x1054, 0, 16, .rw, false, fun _ => 0⟩
/-- R217 CAL_SIZE[31:16], RW, reset 0. -/
def CAL_SIZE_H : Fld := ⟨0x18, 0x1054, 16, 16, .rw, false, fun _ => 0⟩
/-- R217 CAL_ZG[31:0], RW, reset 0. -/
def CAL_ZG_V : Fld := ⟨0x18, 0x1400, 0, 32, .rw, false, fun _ => 0⟩
/-- R219 CRES_SEQ[31:0], RO, reset 0. -/
def CRES_SEQ_V : Fld := ⟨0x18, 0x3000, 0, 32, .ro, false, fun _ => 0⟩
/-- R219 CRES_INFO[31:0], RO, reset 0. -/
def CRES_INFO_V : Fld := ⟨0x18, 0x3004, 0, 32, .ro, false, fun _ => 0⟩
/-- R219 CRES_DROLL[31:0], RO, reset 0. -/
def CRES_DROLL_V : Fld := ⟨0x18, 0x3008, 0, 32, .ro, false, fun _ => 0⟩
/-- R219 CRES_DPITCH[31:0], RO, reset 0. -/
def CRES_DPITCH_V : Fld := ⟨0x18, 0x300C, 0, 32, .ro, false, fun _ => 0⟩
/-- R219 CRES_DYAW[31:0], RO, reset 0. -/
def CRES_DYAW_V : Fld := ⟨0x18, 0x3010, 0, 32, .ro, false, fun _ => 0⟩
/-- R219 CRES_DX[31:0], RO, reset 0. -/
def CRES_DX_V : Fld := ⟨0x18, 0x3014, 0, 32, .ro, false, fun _ => 0⟩
/-- R219 CRES_DY[31:0], RO, reset 0. -/
def CRES_DY_V : Fld := ⟨0x18, 0x3018, 0, 32, .ro, false, fun _ => 0⟩
/-- R219 CRES_DZ[31:0], RO, reset 0. -/
def CRES_DZ_V : Fld := ⟨0x18, 0x301C, 0, 32, .ro, false, fun _ => 0⟩
/-- R219 CRES_TK[31:0], RO, reset 0. -/
def CRES_TK_V : Fld := ⟨0x18, 0x3020, 0, 32, .ro, false, fun _ => 0⟩
/-- R229 EGO_CFG[3:0], RWS, reset 0xF. -/
def EGO_CFG_WMASK : Fld := ⟨0x19, 0x800, 0, 4, .rws, false, fun _ => 0xf⟩
/-- R229 EGO_CFG[15:8], RWS, reset 0x14. -/
def EGO_CFG_MAXAGE : Fld := ⟨0x19, 0x800, 8, 8, .rws, false, fun _ => 0x14⟩
/-- R229 EGO_CFG[24:16], RWS, reset 0x040. -/
def EGO_CFG_SLOT : Fld := ⟨0x19, 0x800, 16, 9, .rws, false, fun _ => 0x40⟩
/-- R229 EGO_WSCALE[15:0], RWS, reset 0x8000. -/
def EGO_WSCALE_SCALE : Fld := ⟨0x19, 0x804, 0, 16, .rws, false, fun _ => 0x8000⟩
/-- R229 EGO_IMU_CFG[1:0], RWL, reset 0b10. -/
def EGO_IMU_CFG_ARANGE : Fld := ⟨0x19, 0x808, 0, 2, .rwl, false, fun _ => 2⟩
/-- R229 EGO_IMU_CFG[5:4], RWL, reset 0b10. -/
def EGO_IMU_CFG_GRANGE : Fld := ⟨0x19, 0x808, 4, 2, .rwl, false, fun _ => 2⟩
/-- R229 EGO_SLIP_CFG[7:0], RW, reset 0x0A. -/
def EGO_SLIP_CFG_TC : Fld := ⟨0x19, 0x80C, 0, 8, .rw, false, fun _ => 0xa⟩
/-- R229 EGO_SLIP_CFG[15:8], RW, reset 0x3C. -/
def EGO_SLIP_CFG_HOLD_T : Fld := ⟨0x19, 0x80C, 8, 8, .rw, false, fun _ => 0x3c⟩
/-- R229 EGO_CMD[0], WO, reset 0. -/
def EGO_CMD_RESET : Fld := ⟨0x19, 0x810, 0, 1, .wo, false, fun _ => 0⟩
/-- R229 EGO_STAT[0], RO, reset 0. -/
def EGO_STAT_VALID : Fld := ⟨0x19, 0x814, 0, 1, .ro, false, fun _ => 0⟩
/-- R229 EGO_STAT[1], RO, reset 0. -/
def EGO_STAT_IMUOK : Fld := ⟨0x19, 0x814, 1, 1, .ro, false, fun _ => 0⟩
/-- R229 EGO_STAT[2], RO, reset 0. -/
def EGO_STAT_WHLOK : Fld := ⟨0x19, 0x814, 2, 1, .ro, false, fun _ => 0⟩
/-- R229 EGO_STAT[3], RO, reset 0. -/
def EGO_STAT_BRIDGE : Fld := ⟨0x19, 0x814, 3, 1, .ro, false, fun _ => 0⟩
/-- R229 EGO_STAT[4], RO, reset 0. -/
def EGO_STAT_STILL : Fld := ⟨0x19, 0x814, 4, 1, .ro, false, fun _ => 0⟩
/-- R229 EGO_STAT[5], RO, reset 0. -/
def EGO_STAT_SLIPHOLD : Fld := ⟨0x19, 0x814, 5, 1, .ro, false, fun _ => 0⟩
/-- R229 EGO_STAT[6], RO, reset 0. -/
def EGO_STAT_SLIPUNK : Fld := ⟨0x19, 0x814, 6, 1, .ro, false, fun _ => 0⟩
/-- R229 EGO_STAT[15:8], RO, reset 0x00. -/
def EGO_STAT_RSTCNT : Fld := ⟨0x19, 0x814, 8, 8, .ro, false, fun _ => 0⟩
/-- R229 EGO_STEPSEQ[31:0], RO, reset 0x0000_0000. -/
def EGO_STEPSEQ_SEQ : Fld := ⟨0x19, 0x818, 0, 32, .ro, false, fun _ => 0⟩
/-- R229 EGO_X[31:0], RO, reset 0x0000_0000. -/
def EGO_X_POS : Fld := ⟨0x19, 0x820, 0, 32, .ro, false, fun _ => 0⟩
/-- R229 EGO_Y[31:0], RO, reset 0x0000_0000. -/
def EGO_Y_POS : Fld := ⟨0x19, 0x824, 0, 32, .ro, false, fun _ => 0⟩
/-- R229 EGO_YAW[31:0], RO, reset 0x0000_0000. -/
def EGO_YAW_YAW : Fld := ⟨0x19, 0x828, 0, 32, .ro, false, fun _ => 0⟩
/-- R229 EGO_ATT[15:0], RO, reset 0x0000. -/
def EGO_ATT_ROLL : Fld := ⟨0x19, 0x82C, 0, 16, .ro, false, fun _ => 0⟩
/-- R229 EGO_ATT[31:16], RO, reset 0x0000. -/
def EGO_ATT_PITCH : Fld := ⟨0x19, 0x82C, 16, 16, .ro, false, fun _ => 0⟩
/-- R229 EGO_SPEED[31:0], RO, reset 0x0000_0000. -/
def EGO_SPEED_V : Fld := ⟨0x19, 0x830, 0, 32, .ro, false, fun _ => 0⟩
/-- R229 EGO_YAWRATE[31:0], RO, reset 0x0000_0000. -/
def EGO_YAWRATE_W : Fld := ⟨0x19, 0x834, 0, 32, .ro, false, fun _ => 0⟩
/-- R229 EGO_DIST[63:0], RO, reset 0. -/
def EGO_DIST_DIST : Fld := ⟨0x19, 0x838, 0, 64, .ro, false, fun _ => 0⟩
/-- R229 EGO_SLIP[15:0], RO, reset 0x0000. -/
def EGO_SLIP_SLIP : Fld := ⟨0x19, 0x840, 0, 16, .ro, false, fun _ => 0⟩
/-- R229 EGO_GBIAS[15:0], RO, reset 0x0000. -/
def EGO_GBIAS_BIAS : Fld := ⟨0x19, 0x844, 0, 16, .ro, false, fun _ => 0⟩
/-- R229 EGO_IMU_ROT[31:0], RWS, reset Identity. -/
def EGO_IMU_ROT_ROT : Fld := ⟨0x19, 0x850, 0, 32, .rws, false, fun i => if i = 0 ∨ i = 4 ∨ i = 8 then 0x40000000 else 0⟩
/-- R229 EGO_RING[63:0], RWS, reset 0. -/
def EGO_RING_BASE : Fld := ⟨0x19, 0x880, 0, 64, .rws, false, fun _ => 0⟩
/-- R229 EGO_RING_CFG[2:0], RWS, reset 0b000. -/
def EGO_RING_CFG_SIZE : Fld := ⟨0x19, 0x888, 0, 3, .rws, false, fun _ => 0⟩
/-- R229 EGO_RING_WR[15:0], RO, reset 0x0000. -/
def EGO_RING_WR_IDX : Fld := ⟨0x19, 0x88C, 0, 16, .ro, false, fun _ => 0⟩
/-- R231 NPU_RUNJOB[5:0], RO, reset 0. -/
def NPU_RUNJOB_JOB : Fld := ⟨0x1A, 0x800, 0, 6, .ro, false, fun _ => 0⟩
/-- R231 NPU_RUNJOB[7], RO, reset 0. -/
def NPU_RUNJOB_RUNNING : Fld := ⟨0x1A, 0x800, 7, 1, .ro, false, fun _ => 0⟩
/-- R231 NPU_UTIL[9:0], RO, reset 0. -/
def NPU_UTIL_UTIL : Fld := ⟨0x1A, 0x804, 0, 10, .ro, false, fun _ => 0⟩
/-- R231 NPU_ABORT[0], WO, reset 0. -/
def NPU_ABORT_ABORT : Fld := ⟨0x1A, 0x808, 0, 1, .wo, false, fun _ => 0⟩
/-- R231 JOB_CFG[0], RW, reset 0. -/
def JOB_CFG_EN : Fld := ⟨0x1A, 0x1000, 0, 1, .own, false, fun _ => 0⟩
/-- R231 JOB_CFG[1], WO, reset 0. -/
def JOB_CFG_GO : Fld := ⟨0x1A, 0x1000, 1, 1, .wo, false, fun _ => 0⟩
/-- R231 JOB_CFG[2], RW, reset 0. -/
def JOB_CFG_IRQ : Fld := ⟨0x1A, 0x1000, 2, 1, .rw, false, fun _ => 0⟩
/-- R231 JOB_CFG[3], RW, reset 0. -/
def JOB_CFG_HAND : Fld := ⟨0x1A, 0x1000, 3, 1, .rw, false, fun _ => 0⟩
/-- R231 JOB_CFG[5:4], RW, reset 0b00. -/
def JOB_CFG_PRIO : Fld := ⟨0x1A, 0x1000, 4, 2, .rw, false, fun _ => 0⟩
/-- R231 JOB_CFG[10:8], RW, reset 0b000. -/
def JOB_CFG_TRIG : Fld := ⟨0x1A, 0x1000, 8, 3, .rw, false, fun _ => 0⟩
/-- R231 JOB_CFG[31:16], RW, reset 0x0000. -/
def JOB_CFG_LIMIT : Fld := ⟨0x1A, 0x1000, 16, 16, .rw, false, fun _ => 0⟩
/-- R231 JOB_PROG[63:0], RW, reset 0. -/
def JOB_PROG_PROG : Fld := ⟨0x1A, 0x1008, 0, 64, .rw, false, fun _ => 0⟩
/-- R231 JOB_ARGS[63:0], RW, reset 0. -/
def JOB_ARGS_ARGS : Fld := ⟨0x1A, 0x1010, 0, 64, .rw, false, fun _ => 0⟩
/-- R231 JOB_STAT[2:0], RO, reset 0b000. -/
def JOB_STAT_STATE : Fld := ⟨0x1A, 0x1018, 0, 3, .ro, false, fun _ => 0⟩
/-- R231 JOB_STAT[11:8], RO, reset 0x0. -/
def JOB_STAT_ERRC : Fld := ⟨0x1A, 0x1018, 8, 4, .ro, false, fun _ => 0⟩
/-- R231 JOB_STAT[23:16], RO, reset 0x00. -/
def JOB_STAT_SKIP : Fld := ⟨0x1A, 0x1018, 16, 8, .ro, false, fun _ => 0⟩
/-- R231 JOB_RUNS[31:0], RO, reset 0x0000_0000. -/
def JOB_RUNS_RUNS : Fld := ⟨0x1A, 0x101C, 0, 32, .ro, false, fun _ => 0⟩
/-- R231 JOB_TSTART[63:0], RO, reset 0. -/
def JOB_TSTART_T : Fld := ⟨0x1A, 0x1020, 0, 64, .ro, false, fun _ => 0⟩
/-- R231 JOB_TEND[63:0], RO, reset 0. -/
def JOB_TEND_T : Fld := ⟨0x1A, 0x1028, 0, 64, .ro, false, fun _ => 0⟩
/-- R231 JOB_STAMP[63:0], RO, reset 0. -/
def JOB_STAMP_STAMP : Fld := ⟨0x1A, 0x1030, 0, 64, .ro, false, fun _ => 0⟩
/-- R261 CROP_GEOM[11:0], RWL, reset 0x190. -/
def CROP_GEOM_CBX : Fld := ⟨0x1B, 0x800, 0, 12, .rwl, false, fun _ => 0x190⟩
/-- R261 CROP_GEOM[23:12], RWL, reset 0x4B0. -/
def CROP_GEOM_HDRW : Fld := ⟨0x1B, 0x800, 12, 12, .rwl, false, fun _ => 0x4b0⟩
/-- R261 CROP_GEOM[31:24], RWL, reset 0x00. -/
def CROP_GEOM_HDRY : Fld := ⟨0x1B, 0x800, 24, 8, .rwl, false, fun _ => 0⟩
/-- R261 CROP_SAMP[7:0], RWS, reset 0x14. -/
def CROP_SAMP_NEAR : Fld := ⟨0x1B, 0x804, 0, 8, .rws, false, fun _ => 0x14⟩
/-- R261 CROP_SAMP[18:8], RWS, reset 0x0F0. -/
def CROP_SAMP_FAR : Fld := ⟨0x1B, 0x804, 8, 11, .rws, false, fun _ => 0xf0⟩
/-- R261 CROP_SAMP[29:24], RWS, reset 0x00. -/
def CROP_SAMP_DENCH : Fld := ⟨0x1B, 0x804, 24, 6, .rws, false, fun _ => 0⟩
/-- R261 CROP_SAMP[31], RWS, reset 0. -/
def CROP_SAMP_CURVE : Fld := ⟨0x1B, 0x804, 31, 1, .rws, false, fun _ => 0⟩
/-- R261 CROP_QUAL[7:0], RW, reset 0xCC. -/
def CROP_QUAL_MINCOV : Fld := ⟨0x1B, 0x808, 0, 8, .rw, false, fun _ => 0xcc⟩
/-- R261 CROP_FEED[11:0], RWS, reset 0x4B0. -/
def CROP_FEED_TFEED : Fld := ⟨0x1B, 0x80C, 0, 12, .rws, false, fun _ => 0x4b0⟩
/-- R261 CROP_FSPD[15:0], RWS, reset 0x1194. -/
def CROP_FSPD_FSPDNOM : Fld := ⟨0x1B, 0x810, 0, 16, .rws, false, fun _ => 0x1194⟩
/-- R261 CROP_FLOW[8:0], RWS, reset 0x041. -/
def CROP_FLOW_SLOT : Fld := ⟨0x1B, 0x814, 0, 9, .rws, false, fun _ => 0x41⟩
/-- R261 CROP_FLOW[23:16], RWS, reset 0x14. -/
def CROP_FLOW_MAXAGE : Fld := ⟨0x1B, 0x814, 16, 8, .rws, false, fun _ => 0x14⟩
/-- R261 CROP_YCFG[10:0], RWS, reset 0x3E8. -/
def CROP_YCFG_YPER : Fld := ⟨0x1B, 0x818, 0, 11, .rws, false, fun _ => 0x3e8⟩
/-- R261 CROP_YCFG[31:16], RWS, reset 0x2328. -/
def CROP_YCFG_TRANS : Fld := ⟨0x1B, 0x818, 16, 16, .rws, false, fun _ => 0x2328⟩
/-- R261 CROP_YRING[63:0], RWS, reset 0. -/
def CROP_YRING_BASE : Fld := ⟨0x1B, 0x820, 0, 64, .rws, false, fun _ => 0⟩
/-- R261 CROP_YRING_CFG[2:0], RWS, reset 0b000. -/
def CROP_YRING_CFG_SIZE : Fld := ⟨0x1B, 0x828, 0, 3, .rws, false, fun _ => 0⟩
/-- R261 CROP_YRING_WR[15:0], RO, reset 0x0000. -/
def CROP_YRING_WR_IDX : Fld := ⟨0x1B, 0x82C, 0, 16, .ro, false, fun _ => 0⟩
/-- R261 CROP_YRING_RD[15:0], RW, reset 0x0000. -/
def CROP_YRING_RD_IDX : Fld := ⟨0x1B, 0x830, 0, 16, .rw, false, fun _ => 0⟩
/-- R261 CROP_YDROP[15:0], W1C, reset 0x0000. -/
def CROP_YDROP_CNT : Fld := ⟨0x1B, 0x834, 0, 16, .w1c, false, fun _ => 0⟩
/-- R261 CROP_XMAX[31:0], RO, reset 0x0000_0000. -/
def CROP_XMAX_IDX : Fld := ⟨0x1B, 0x840, 0, 32, .ro, false, fun _ => 0⟩
/-- R261 CROP_LSEQ[31:0], RO, reset 0x0000_0000. -/
def CROP_LSEQ_SEQ : Fld := ⟨0x1B, 0x844, 0, 32, .ro, false, fun _ => 0⟩
/-- R261 CROP_LWIN[10:0], RW, reset 0x000. -/
def CROP_LWIN_BASE : Fld := ⟨0x1B, 0x848, 0, 11, .rw, false, fun _ => 0⟩
/-- R261 CROP_STATE[0], RO, reset 0. -/
def CROP_STATE_EGOOK : Fld := ⟨0x1B, 0x850, 0, 1, .ro, false, fun _ => 0⟩
/-- R261 CROP_STATE[1], RO, reset 0. -/
def CROP_STATE_FLOWOK : Fld := ⟨0x1B, 0x850, 1, 1, .ro, false, fun _ => 0⟩
/-- R261 CROP_STATE[2], RO, reset 0. -/
def CROP_STATE_GRIDOK : Fld := ⟨0x1B, 0x850, 2, 1, .ro, false, fun _ => 0⟩
/-- R261 CROP_STATE[3], RO, reset 0. -/
def CROP_STATE_QFULL : Fld := ⟨0x1B, 0x850, 3, 1, .ro, false, fun _ => 0⟩
/-- R261 CROP_STATE[27:16], RO, reset 0x000. -/
def CROP_STATE_NPAR : Fld := ⟨0x1B, 0x850, 16, 12, .ro, false, fun _ => 0⟩
/-- R261 CROP_CLEAR[0], WO, reset 0. -/
def CROP_CLEAR_LINE : Fld := ⟨0x1B, 0x860, 0, 1, .wo, false, fun _ => 0⟩
/-- R261 CROP_CLEAR[1], WO, reset 0. -/
def CROP_CLEAR_STAGE : Fld := ⟨0x1B, 0x860, 1, 1, .wo, false, fun _ => 0⟩
/-- R261 CROP_YSEQ[31:0], RO, reset 0x0000_0000. -/
def CROP_YSEQ_SEQ : Fld := ⟨0x1B, 0x864, 0, 32, .ro, false, fun _ => 0⟩
/-- R260 TAP_CFG[0], RW, reset 0. -/
def TAP_CFG_EN : Fld := ⟨0x1B, 0x1000, 0, 1, .own, false, fun _ => 0⟩
/-- R260 TAP_CFG[2:1], RW, reset 0b00. -/
def TAP_CFG_KIND : Fld := ⟨0x1B, 0x1000, 1, 2, .rw, false, fun _ => 0⟩
/-- R260 TAP_CFG[15:8], RW, reset 0x0A. -/
def TAP_CFG_PER : Fld := ⟨0x1B, 0x1000, 8, 8, .rw, false, fun _ => 0xa⟩
/-- R260 TAP_CFG[21:16], RW, reset 0x00. -/
def TAP_CFG_SLOT : Fld := ⟨0x1B, 0x1000, 16, 6, .rw, false, fun _ => 0⟩
/-- R260 TAP_CFG[24], RW, reset 1. -/
def TAP_CFG_FBK : Fld := ⟨0x1B, 0x1000, 24, 1, .rw, false, fun _ => 1⟩
/-- R260 TAP_LEAD[15:0], RW, reset 0x0000. -/
def TAP_LEAD_LEAD : Fld := ⟨0x1B, 0x1004, 0, 16, .rw, false, fun _ => 0⟩
/-- R260 TAP_LEAD[31:16], RW, reset 0x0064. -/
def TAP_LEAD_WIN : Fld := ⟨0x1B, 0x1004, 16, 16, .rw, false, fun _ => 0x64⟩
/-- R260 TAP_OUT[31:0], RO, reset 0x0000_0000. -/
def TAP_OUT_VALUE : Fld := ⟨0x1B, 0x1008, 0, 32, .ro, false, fun _ => 0⟩
/-- R260 TAP_STAT[7:0], RO, reset 0x00. -/
def TAP_STAT_FLAGS : Fld := ⟨0x1B, 0x100C, 0, 8, .ro, false, fun _ => 0⟩
/-- R260 TAP_STAT[31:16], RO, reset 0x0000. -/
def TAP_STAT_COMMITS : Fld := ⟨0x1B, 0x100C, 16, 16, .ro, false, fun _ => 0⟩
/-- R245 CELL[15:0], RO, reset 0. -/
def CELL_MASS : Fld := ⟨0x1B, 0x2000, 0, 16, .ro, false, fun _ => 0⟩
/-- R245 CELL[19:16], RO, reset 0. -/
def CELL_CONF : Fld := ⟨0x1B, 0x2000, 16, 4, .ro, false, fun _ => 0⟩
/-- R245 CELL[20], RO, reset 0. -/
def CELL_NOLA : Fld := ⟨0x1B, 0x2000, 20, 1, .ro, false, fun _ => 0⟩
/-- R245 CELL[21], RO, reset 0. -/
def CELL_FROZEN : Fld := ⟨0x1B, 0x2000, 21, 1, .ro, false, fun _ => 0⟩
/-- R245 CELL[22], RO, reset 0. -/
def CELL_CONT : Fld := ⟨0x1B, 0x2000, 22, 1, .ro, false, fun _ => 0⟩
/-- R245 CELL[23], RO, reset 0. -/
def CELL_VALID : Fld := ⟨0x1B, 0x2000, 23, 1, .ro, false, fun _ => 0⟩
/-- R245 CELL[31:24], RO, reset 0. -/
def CELL_COVER : Fld := ⟨0x1B, 0x2000, 24, 8, .ro, false, fun _ => 0⟩
/-- R298 WHL_LP_CFG[0], RW, reset 0. -/
def WHL_LP_CFG_EN : Fld := ⟨0x20, 0x100, 0, 1, .own, false, fun _ => 0⟩
/-- R298 WHL_LP_CFG[2:1], RW, reset 0b00. -/
def WHL_LP_CFG_MODE : Fld := ⟨0x20, 0x100, 1, 2, .rw, false, fun _ => 0⟩
/-- R298 WHL_LP_CFG[4], RW, reset 0. -/
def WHL_LP_CFG_IDLEMODE : Fld := ⟨0x20, 0x100, 4, 1, .rw, false, fun _ => 0⟩
/-- R298 WHL_LP_CFG[5], RW, reset 0. -/
def WHL_LP_CFG_ISWAP : Fld := ⟨0x20, 0x100, 5, 1, .rw, false, fun _ => 0⟩
/-- R298 WHL_LP_CFG[8], RW, reset 0. -/
def WHL_LP_CFG_DMODE : Fld := ⟨0x20, 0x100, 8, 1, .rw, false, fun _ => 0⟩
/-- R298 WHL_LP_CFG[9], RW, reset 0. -/
def WHL_LP_CFG_FRSGN : Fld := ⟨0x20, 0x100, 9, 1, .rw, false, fun _ => 0⟩
/-- R298 WHL_LP_CFG[10], RW, reset 0. -/
def WHL_LP_CFG_FRON : Fld := ⟨0x20, 0x100, 10, 1, .rw, false, fun _ => 0⟩
/-- R298 WHL_LP_CFG[11], RW, reset 0. -/
def WHL_LP_CFG_COGON : Fld := ⟨0x20, 0x100, 11, 1, .rw, false, fun _ => 0⟩
/-- R298 WHL_LP_CFG[12], RW, reset 0. -/
def WHL_LP_CFG_ROADBAR : Fld := ⟨0x20, 0x100, 12, 1, .rw, false, fun _ => 0⟩
/-- R298 WHL_LP_CFG[31:24], RW, reset 0x00. -/
def WHL_LP_CFG_FBMASK : Fld := ⟨0x20, 0x100, 24, 8, .rw, false, fun _ => 0⟩
/-- R298 WHL_LP_PERIOD[23:0], RW, reset 0x00_61A8. -/
def WHL_LP_PERIOD_PERIOD : Fld := ⟨0x20, 0x104, 0, 24, .rw, false, fun _ => 0x61a8⟩
/-- R298 WHL_LP_PHASE[23:0], RW, reset 0x00_0000. -/
def WHL_LP_PHASE_PHASE : Fld := ⟨0x20, 0x108, 0, 24, .rw, false, fun _ => 0⟩
/-- R298 WHL_LP_SAFESP[31:0], RWS, reset 0x0000_0000. -/
def WHL_LP_SAFESP_SAFESP : Fld := ⟨0x20, 0x10C, 0, 32, .rws, false, fun _ => 0⟩
/-- R298 WHL_LP_SAFEOUT[31:0], RWS, reset 0x0000_0000. -/
def WHL_LP_SAFEOUT_SAFEOUT : Fld := ⟨0x20, 0x110, 0, 32, .rws, false, fun _ => 0⟩
/-- R298 WHL_LP_CONFTH[31:0], RWS, reset 0x0000_0000. -/
def WHL_LP_CONFTH_CONFTH : Fld := ⟨0x20, 0x114, 0, 32, .rws, false, fun _ => 0⟩
/-- R298 WHL_LP_PUB[15:0], RW, reset 0x0001. -/
def WHL_LP_PUB_DIV : Fld := ⟨0x20, 0x118, 0, 16, .rw, false, fun _ => 1⟩
/-- R298 WHL_LP_PUB[24:16], RW, reset 0x000. -/
def WHL_LP_PUB_SLOT : Fld := ⟨0x20, 0x118, 16, 9, .rw, false, fun _ => 0⟩
/-- R298 WHL_LP_PUB[31], RW, reset 0. -/
def WHL_LP_PUB_EN : Fld := ⟨0x20, 0x118, 31, 1, .rw, false, fun _ => 0⟩
/-- R298 WHL_LP_FB_CFG[10:0], RW, reset 0x000. -/
def WHL_LP_FB_CFG_BYTE : Fld := ⟨0x20, 0x120, 0, 11, .rw, false, fun _ => 0⟩
/-- R298 WHL_LP_FB_CFG[11], RW, reset 0. -/
def WHL_LP_FB_CFG_W32 : Fld := ⟨0x20, 0x120, 11, 1, .rw, false, fun _ => 0⟩
/-- R298 WHL_LP_FB_CFG[14:12], RW, reset 0b000. -/
def WHL_LP_FB_CFG_CANCH : Fld := ⟨0x20, 0x120, 12, 3, .rw, false, fun _ => 0⟩
/-- R298 WHL_LP_FB_CFG[23:16], RW, reset 0x00. -/
def WHL_LP_FB_CFG_ID : Fld := ⟨0x20, 0x120, 16, 8, .rw, false, fun _ => 0⟩
/-- R298 WHL_LP_FB_CFG[26:24], RW, reset 0b000. -/
def WHL_LP_FB_CFG_KIND : Fld := ⟨0x20, 0x120, 24, 3, .rw, false, fun _ => 0⟩
/-- R298 WHL_LP_FB_SCALE[31:0], RWS, reset 0x0001_0000. -/
def WHL_LP_FB_SCALE_SCALE : Fld := ⟨0x20, 0x124, 0, 32, .rws, false, fun _ => 0x10000⟩
/-- R298 WHL_LP_FB_OFFS[31:0], RWS, reset 0x0000_0000. -/
def WHL_LP_FB_OFFS_OFFS : Fld := ⟨0x20, 0x128, 0, 32, .rws, false, fun _ => 0⟩
/-- R298 WHL_LP_DST[10:0], RW, reset 0. -/
def WHL_LP_DST_BYTE : Fld := ⟨0x20, 0x130, 0, 11, .rw, false, fun _ => 0⟩
/-- R298 WHL_LP_DST[11], RW, reset 0. -/
def WHL_LP_DST_W32 : Fld := ⟨0x20, 0x130, 11, 1, .rw, false, fun _ => 0⟩
/-- R298 WHL_LP_DST[14:12], RW, reset 0. -/
def WHL_LP_DST_CANCH : Fld := ⟨0x20, 0x130, 12, 3, .rw, false, fun _ => 0⟩
/-- R298 WHL_LP_DST[23:16], RW, reset 0. -/
def WHL_LP_DST_ID : Fld := ⟨0x20, 0x130, 16, 8, .rw, false, fun _ => 0⟩
/-- R298 WHL_LP_DST[26:24], RW, reset 0b000. -/
def WHL_LP_DST_KIND : Fld := ⟨0x20, 0x130, 24, 3, .rw, false, fun _ => 0⟩
/-- R298 WHL_LP_DST2[15:0], RW, reset 0x0001. -/
def WHL_LP_DST2_CANDIV : Fld := ⟨0x20, 0x134, 0, 16, .rw, false, fun _ => 1⟩
/-- R298 WHL_LP_FFX[5:0], RW, reset 0x00. -/
def WHL_LP_FFX_SLOT : Fld := ⟨0x20, 0x138, 0, 6, .rw, false, fun _ => 0⟩
/-- R298 WHL_LP_FFX[31], RW, reset 0. -/
def WHL_LP_FFX_EN : Fld := ⟨0x20, 0x138, 31, 1, .rw, false, fun _ => 0⟩
/-- R298 BANK_KP[31:0], RW, reset 0. -/
def BANK_KP_V : Fld := ⟨0x20, 0x140, 0, 32, .rw, false, fun _ => 0⟩
/-- R298 BANK_KI[31:0], RW, reset 0. -/
def BANK_KI_V : Fld := ⟨0x20, 0x144, 0, 32, .rw, false, fun _ => 0⟩
/-- R298 BANK_KD[31:0], RW, reset 0. -/
def BANK_KD_V : Fld := ⟨0x20, 0x148, 0, 32, .rw, false, fun _ => 0⟩
/-- R298 BANK_KB[31:0], RW, reset 0. -/
def BANK_KB_V : Fld := ⟨0x20, 0x14C, 0, 32, .rw, false, fun _ => 0⟩
/-- R298 BANK_KFF[31:0], RW, reset 0. -/
def BANK_KFF_V : Fld := ⟨0x20, 0x150, 0, 32, .rw, false, fun _ => 0⟩
/-- R298 BANK_KX[31:0], RW, reset 0. -/
def BANK_KX_V : Fld := ⟨0x20, 0x154, 0, 32, .rw, false, fun _ => 0⟩
/-- R298 BANK_DF[15:0], RW, reset 0. -/
def BANK_DF_V : Fld := ⟨0x20, 0x158, 0, 16, .rw, false, fun _ => 0⟩
/-- R298 BANK_RLIM[31:0], RW, reset 0. -/
def BANK_RLIM_V : Fld := ⟨0x20, 0x15C, 0, 32, .rw, false, fun _ => 0⟩
/-- R298 BANK_UMIN[31:0], RW, reset 0. -/
def BANK_UMIN_V : Fld := ⟨0x20, 0x160, 0, 32, .rw, false, fun _ => 0⟩
/-- R298 BANK_UMAX[31:0], RW, reset 0. -/
def BANK_UMAX_V : Fld := ⟨0x20, 0x164, 0, 32, .rw, false, fun _ => 0⟩
/-- R298 WHL_LP_FRIX_CFG[5:0], RW, reset 0x00. -/
def WHL_LP_FRIX_CFG_CH : Fld := ⟨0x20, 0x1C0, 0, 6, .rw, false, fun _ => 0⟩
/-- R298 WHL_LP_FRIX_CFG[26:24], RW, reset 0b000. -/
def WHL_LP_FRIX_CFG_SRC : Fld := ⟨0x20, 0x1C0, 24, 3, .rw, false, fun _ => 0⟩
/-- R298 WHL_LP_FRIX_SCALE[31:0], RWS, reset 0x0001_0000. -/
def WHL_LP_FRIX_SCALE_SCALE : Fld := ⟨0x20, 0x1C4, 0, 32, .rws, false, fun _ => 0x10000⟩
/-- R298 WHL_LP_FRIX_OFFS[31:0], RWS, reset 0x0000_0000. -/
def WHL_LP_FRIX_OFFS_OFFS : Fld := ⟨0x20, 0x1C8, 0, 32, .rws, false, fun _ => 0⟩
/-- R298 WHL_LP_COGX_CFG[5:0], RW, reset 0x00. -/
def WHL_LP_COGX_CFG_CH : Fld := ⟨0x20, 0x1D0, 0, 6, .rw, false, fun _ => 0⟩
/-- R298 WHL_LP_COGX_CFG[26:24], RW, reset 0b000. -/
def WHL_LP_COGX_CFG_SRC : Fld := ⟨0x20, 0x1D0, 24, 3, .rw, false, fun _ => 0⟩
/-- R298 WHL_LP_COGX_SCALE[31:0], RWS, reset 0x0001_0000. -/
def WHL_LP_COGX_SCALE_SCALE : Fld := ⟨0x20, 0x1D4, 0, 32, .rws, false, fun _ => 0x10000⟩
/-- R298 WHL_LP_COGX_OFFS[31:0], RWS, reset 0x0000_0000. -/
def WHL_LP_COGX_OFFS_OFFS : Fld := ⟨0x20, 0x1D8, 0, 32, .rws, false, fun _ => 0⟩
/-- R299 PORT_CFG[10:0], RW, reset 0. -/
def PORT_CFG_BYTE : Fld := ⟨0x20, 0x200, 0, 11, .rw, false, fun _ => 0⟩
/-- R299 PORT_CFG[11], RW, reset 0. -/
def PORT_CFG_W32 : Fld := ⟨0x20, 0x200, 11, 1, .rw, false, fun _ => 0⟩
/-- R299 PORT_CFG[14:12], RW, reset 0. -/
def PORT_CFG_CANCH : Fld := ⟨0x20, 0x200, 12, 3, .rw, false, fun _ => 0⟩
/-- R299 PORT_CFG[23:16], RW, reset 0. -/
def PORT_CFG_ID : Fld := ⟨0x20, 0x200, 16, 8, .rw, false, fun _ => 0⟩
/-- R299 PORT_CFG[26:24], RW, reset 0b000. -/
def PORT_CFG_KIND : Fld := ⟨0x20, 0x200, 24, 3, .rw, false, fun _ => 0⟩
/-- R299 PORT_CFG[30:28], RW, reset 0b000. -/
def PORT_CFG_RANK : Fld := ⟨0x20, 0x200, 28, 3, .rw, false, fun _ => 0⟩
/-- R299 PORT_CFG[31], RW, reset 0. -/
def PORT_CFG_EN : Fld := ⟨0x20, 0x200, 31, 1, .own, false, fun _ => 0⟩
/-- R299 PORT_SCALE[31:0], RWS, reset 0x0001_0000. -/
def PORT_SCALE_SCALE : Fld := ⟨0x20, 0x204, 0, 32, .rws, false, fun _ => 0x10000⟩
/-- R299 PORT_OFFS[31:0], RWS, reset 0x0000_0000. -/
def PORT_OFFS_OFFS : Fld := ⟨0x20, 0x208, 0, 32, .rws, false, fun _ => 0⟩
/-- R299 PORT_NEUT[31:0], RWS, reset 0x0000_0000. -/
def PORT_NEUT_NEUT : Fld := ⟨0x20, 0x20C, 0, 32, .rws, false, fun _ => 0⟩
/-- R299 PORT_DB[30:0], RWS, reset 0x0000_0000. -/
def PORT_DB_DB : Fld := ⟨0x20, 0x210, 0, 31, .rws, false, fun _ => 0⟩
/-- R299 PORT_MSGT[9:0], RWS, reset 0x064. -/
def PORT_MSGT_MSGT : Fld := ⟨0x20, 0x214, 0, 10, .rws, false, fun _ => 0x64⟩
/-- R299 PORT_VAL[31:0], RW, reset 0x0000_0000. -/
def PORT_VAL_VAL : Fld := ⟨0x20, 0x218, 0, 32, .rw, false, fun _ => 0⟩
/-- R299 PORT_STAT[0], RO, reset 0. -/
def PORT_STAT_PRES : Fld := ⟨0x20, 0x21C, 0, 1, .ro, false, fun _ => 0⟩
/-- R299 PORT_STAT[1], RO, reset 0. -/
def PORT_STAT_HELD : Fld := ⟨0x20, 0x21C, 1, 1, .ro, false, fun _ => 0⟩
/-- R299 PORT_STAT[2], RO, reset 0. -/
def PORT_STAT_WDRN : Fld := ⟨0x20, 0x21C, 2, 1, .ro, false, fun _ => 0⟩
/-- R299 PORT_STAT[3], RO, reset 0. -/
def PORT_STAT_GUARDED : Fld := ⟨0x20, 0x21C, 3, 1, .ro, false, fun _ => 0⟩
/-- R299 PORT_STAT[4], RO, reset 0. -/
def PORT_STAT_LAPSED : Fld := ⟨0x20, 0x21C, 4, 1, .ro, false, fun _ => 0⟩
/-- R298 WHL_LP_STAT[2:0], RO, reset 0b000. -/
def WHL_LP_STAT_STATE : Fld := ⟨0x20, 0x300, 0, 3, .ro, false, fun _ => 0⟩
/-- R298 WHL_LP_STAT[7], RO, reset 0. -/
def WHL_LP_STAT_CONFLICT : Fld := ⟨0x20, 0x300, 7, 1, .ro, false, fun _ => 0⟩
/-- R298 WHL_LP_STAT[8], RO, reset 0. -/
def WHL_LP_STAT_SAT : Fld := ⟨0x20, 0x300, 8, 1, .ro, false, fun _ => 0⟩
/-- R298 WHL_LP_STAT[9], RO, reset 0. -/
def WHL_LP_STAT_XWDRN : Fld := ⟨0x20, 0x300, 9, 1, .ro, false, fun _ => 0⟩
/-- R298 WHL_LP_STAT[16], RO, reset 0. -/
def WHL_LP_STAT_ACT : Fld := ⟨0x20, 0x300, 16, 1, .ro, false, fun _ => 0⟩
/-- R298 WHL_LP_STAT[17], RO, reset 0. -/
def WHL_LP_STAT_PEND : Fld := ⟨0x20, 0x300, 17, 1, .ro, false, fun _ => 0⟩
/-- R298 WHL_LP_STAT[26:24], RO, reset 0b111. -/
def WHL_LP_STAT_WPORT : Fld := ⟨0x20, 0x300, 24, 3, .ro, false, fun _ => 7⟩
/-- R298 WHL_LP_STAT[30:28], RO, reset 0b000. -/
def WHL_LP_STAT_WRANK : Fld := ⟨0x20, 0x300, 28, 3, .ro, false, fun _ => 0⟩
/-- R298 WHL_LP_R[31:0], RO, reset 0. -/
def WHL_LP_R_VAL : Fld := ⟨0x20, 0x304, 0, 32, .ro, false, fun _ => 0⟩
/-- R298 WHL_LP_Y[31:0], RO, reset 0. -/
def WHL_LP_Y_VAL : Fld := ⟨0x20, 0x308, 0, 32, .ro, false, fun _ => 0⟩
/-- R298 WHL_LP_U[31:0], RO, reset 0. -/
def WHL_LP_U_VAL : Fld := ⟨0x20, 0x30C, 0, 32, .ro, false, fun _ => 0⟩
/-- R298 WHL_LP_X[31:0], RO, reset 0. -/
def WHL_LP_X_VAL : Fld := ⟨0x20, 0x310, 0, 32, .ro, false, fun _ => 0⟩
/-- R298 WHL_LP_I[63:0], RO, reset 0. -/
def WHL_LP_I_I : Fld := ⟨0x20, 0x318, 0, 64, .ro, false, fun _ => 0⟩
/-- R298 WHL_LP_LATCH[63:0], RO, reset 0. -/
def WHL_LP_LATCH_T : Fld := ⟨0x20, 0x320, 0, 64, .ro, false, fun _ => 0⟩
/-- R298 WHL_LP_OSTAMP[63:0], RO, reset 0. -/
def WHL_LP_OSTAMP_T : Fld := ⟨0x20, 0x328, 0, 64, .ro, false, fun _ => 0⟩
/-- R298 WHL_LP_DLY[15:0], RO, reset 0x0000. -/
def WHL_LP_DLY_DLY : Fld := ⟨0x20, 0x330, 0, 16, .ro, false, fun _ => 0⟩
/-- R298 WHL_LP_DLY[31:16], RO, reset 0x0000. -/
def WHL_LP_DLY_DMAX : Fld := ⟨0x20, 0x330, 16, 16, .ro, false, fun _ => 0⟩
/-- R298 WHL_LP_CONF[15:0], RO, reset 0x0000. -/
def WHL_LP_CONF_CNT : Fld := ⟨0x20, 0x334, 0, 16, .ro, false, fun _ => 0⟩
/-- R298 WHL_LP_CONF[31:16], RO, reset 0x0000. -/
def WHL_LP_CONF_SUPP : Fld := ⟨0x20, 0x334, 16, 16, .ro, false, fun _ => 0⟩
/-- R298 WHL_LP_CAN[15:0], RO, reset 0x0000. -/
def WHL_LP_CAN_CANSKIP : Fld := ⟨0x20, 0x338, 0, 16, .ro, false, fun _ => 0⟩
/-- R298 WHL_LP_CAN[31:16], RO, reset 0x0000. -/
def WHL_LP_CAN_CANFAIL : Fld := ⟨0x20, 0x338, 16, 16, .ro, false, fun _ => 0⟩
/-- R298 WHL_LP_CMD[0], WO, reset 0. -/
def WHL_LP_CMD_SWAP : Fld := ⟨0x20, 0x33C, 0, 1, .wo, false, fun _ => 0⟩
/-- R298 WHL_LP_CMD[1], WO, reset 0. -/
def WHL_LP_CMD_CLRSTAT : Fld := ⟨0x20, 0x33C, 1, 1, .wo, false, fun _ => 0⟩
/-- R301 WHL_GUARD[63:0], RW, reset 0. -/
def WHL_GUARD_MASK : Fld := ⟨0x20, 0x800, 0, 64, .rw, false, fun _ => 0⟩
/-- R301 WHL_GUARDSRC[5:0], RW, reset 0x3E. -/
def WHL_GUARDSRC_SLOT : Fld := ⟨0x20, 0x808, 0, 6, .rw, false, fun _ => 0x3e⟩
/-- R301 WHL_GUARDSRC[8], RW, reset 0. -/
def WHL_GUARDSRC_EN : Fld := ⟨0x20, 0x808, 8, 1, .rw, false, fun _ => 0⟩
/-- R301 WHL_SWAP[63:0], WO, reset 0. -/
def WHL_SWAP_MASK : Fld := ⟨0x20, 0x810, 0, 64, .wo, false, fun _ => 0⟩
/-- R301 WHL_LANE[7:0], RO, reset 0x00. -/
def WHL_LANE_LOAD0 : Fld := ⟨0x20, 0x820, 0, 8, .ro, false, fun _ => 0⟩
/-- R301 WHL_LANE[15:8], RO, reset 0x00. -/
def WHL_LANE_LOAD1 : Fld := ⟨0x20, 0x820, 8, 8, .ro, false, fun _ => 0⟩
/-- R301 WHL_LANE[23:16], RO, reset 0x00. -/
def WHL_LANE_QMAX0 : Fld := ⟨0x20, 0x820, 16, 8, .ro, false, fun _ => 0⟩
/-- R301 WHL_LANE[31:24], RO, reset 0x00. -/
def WHL_LANE_QMAX1 : Fld := ⟨0x20, 0x820, 24, 8, .ro, false, fun _ => 0⟩
/-- R301 WHL_LANECLR[0], WO, reset 0. -/
def WHL_LANECLR_CLR : Fld := ⟨0x20, 0x824, 0, 1, .wo, false, fun _ => 0⟩
/-- R301 WHL_OWN[47:0], RO, reset 0. -/
def WHL_OWN_OWN : Fld := ⟨0x20, 0x830, 0, 48, .ro, false, fun _ => 0⟩
/-- R300 WHL_FRI[31:0], RW, reset 0. -/
def WHL_FRI_VAL : Fld := ⟨0x20, 0x1000, 0, 32, .own, false, fun _ => 0⟩
/-- R300 WHL_COG[31:0], RW, reset 0. -/
def WHL_COG_VAL : Fld := ⟨0x20, 0x2000, 0, 32, .own, false, fun _ => 0⟩
/-- R330 SOL_CH_CFG[0], RW, reset 0. -/
def SOL_CH_CFG_EN : Fld := ⟨0x21, 0x100, 0, 1, .own, false, fun _ => 0⟩
/-- R330 SOL_CH_CFG[2:1], RW, reset 0b00. -/
def SOL_CH_CFG_MODE : Fld := ⟨0x21, 0x100, 1, 2, .rw, false, fun _ => 0⟩
/-- R330 SOL_CH_CFG[4], RW, reset 0. -/
def SOL_CH_CFG_EVSRC : Fld := ⟨0x21, 0x100, 4, 1, .rw, false, fun _ => 0⟩
/-- R330 SOL_CH_CFG[8], RW, reset 1. -/
def SOL_CH_CFG_BOOST : Fld := ⟨0x21, 0x100, 8, 1, .rw, false, fun _ => 1⟩
/-- R330 SOL_CH_CFG[9], RW, reset 0. -/
def SOL_CH_CFG_OFFMODE : Fld := ⟨0x21, 0x100, 9, 1, .rw, false, fun _ => 0⟩
/-- R330 SOL_CH_CFG[10], RW, reset 0. -/
def SOL_CH_CFG_BNRMODE : Fld := ⟨0x21, 0x100, 10, 1, .rw, false, fun _ => 0⟩
/-- R330 SOL_CH_CFG[11], RW, reset 0. -/
def SOL_CH_CFG_IRQ : Fld := ⟨0x21, 0x100, 11, 1, .rw, false, fun _ => 0⟩
/-- R330 SOL_CH_CFG[12], RW, reset 0. -/
def SOL_CH_CFG_KEN : Fld := ⟨0x21, 0x100, 12, 1, .rw, false, fun _ => 0⟩
/-- R330 SOL_CH_ISET[15:0], RW, reset 0x0000. -/
def SOL_CH_ISET_ISET : Fld := ⟨0x21, 0x104, 0, 16, .own, false, fun _ => 0⟩
/-- R330 SOL_CH_PEAK[15:0], RWS, reset 0x1F40. -/
def SOL_CH_PEAK_IPEAK : Fld := ⟨0x21, 0x108, 0, 16, .rws, false, fun _ => 0x1f40⟩
/-- R330 SOL_CH_PEAK[31:16], RWS, reset 0x012C. -/
def SOL_CH_PEAK_TPEAK : Fld := ⟨0x21, 0x108, 16, 16, .rws, false, fun _ => 0x12c⟩
/-- R330 SOL_CH_HOLD[7:0], RWS, reset 0x0F. -/
def SOL_CH_HOLD_IHOLD : Fld := ⟨0x21, 0x10C, 0, 8, .rws, false, fun _ => 0xf⟩
/-- R330 SOL_CH_HOLD[15:8], RWS, reset 0x14. -/
def SOL_CH_HOLD_CHOPF : Fld := ⟨0x21, 0x10C, 8, 8, .rws, false, fun _ => 0x14⟩
/-- R330 SOL_CH_HOLD[27:16], RWS, reset 0x1F4. -/
def SOL_CH_HOLD_PHYS : Fld := ⟨0x21, 0x10C, 16, 12, .rws, false, fun _ => 0x1f4⟩
/-- R330 SOL_CH_TIME[7:0], RWS, reset 0x0A. -/
def SOL_CH_TIME_TOFF : Fld := ⟨0x21, 0x110, 0, 8, .rws, false, fun _ => 0xa⟩
/-- R330 SOL_CH_TIME[15:8], RWS, reset 0x32. -/
def SOL_CH_TIME_OVWIN : Fld := ⟨0x21, 0x110, 8, 8, .rws, false, fun _ => 0x32⟩
/-- R330 SOL_CH_TIME[31:16], RWS, reset 0x03E8. -/
def SOL_CH_TIME_TBMAX : Fld := ⟨0x21, 0x110, 16, 16, .rws, false, fun _ => 0x3e8⟩
/-- R330 SOL_CH_DITH[8:0], RWS, reset 0x000. -/
def SOL_CH_DITH_DITHF : Fld := ⟨0x21, 0x114, 0, 9, .rws, false, fun _ => 0⟩
/-- R330 SOL_CH_DITH[24:16], RWS, reset 0x000. -/
def SOL_CH_DITH_DITHA : Fld := ⟨0x21, 0x114, 16, 9, .rws, false, fun _ => 0⟩
/-- R330 SOL_CH_KINK[11:0], RWS, reset 0x0C8. -/
def SOL_CH_KINK_KTH : Fld := ⟨0x21, 0x118, 0, 12, .rws, false, fun _ => 0xc8⟩
/-- R330 SOL_CH_KINK[31:16], RWS, reset 0x07D0. -/
def SOL_CH_KINK_KWIN : Fld := ⟨0x21, 0x118, 16, 16, .rws, false, fun _ => 0x7d0⟩
/-- R330 SOL_CH_CMD[0], RW, reset 0. -/
def SOL_CH_CMD_ON : Fld := ⟨0x21, 0x11C, 0, 1, .own, false, fun _ => 0⟩
/-- R330 SOL_CH_CMD[8], WO, reset 0. -/
def SOL_CH_CMD_CLRFLT : Fld := ⟨0x21, 0x11C, 8, 1, .wo, false, fun _ => 0⟩
/-- R330 SOL_Q_T[63:0], RW, reset 0. -/
def SOL_Q_T_START : Fld := ⟨0x21, 0x120, 0, 64, .rw, false, fun _ => 0⟩
/-- R330 SOL_Q_DUR[23:0], RW, reset 0x00_0000. -/
def SOL_Q_DUR_DUR : Fld := ⟨0x21, 0x128, 0, 24, .rw, false, fun _ => 0⟩
/-- R330 SOL_Q_PUSH[0], WO, reset 0. -/
def SOL_Q_PUSH_PUSH : Fld := ⟨0x21, 0x12C, 0, 1, .wo, false, fun _ => 0⟩
/-- R330 SOL_Q_PUSH[8], WO, reset 0. -/
def SOL_Q_PUSH_FLUSH : Fld := ⟨0x21, 0x12C, 8, 1, .wo, false, fun _ => 0⟩
/-- R330 SOL_Q_STAT[2:0], RO, reset 0b000. -/
def SOL_Q_STAT_COUNT : Fld := ⟨0x21, 0x130, 0, 3, .ro, false, fun _ => 0⟩
/-- R330 SOL_CH_STAT[2:0], RO, reset 0b000. -/
def SOL_CH_STAT_PHASE : Fld := ⟨0x21, 0x140, 0, 3, .ro, false, fun _ => 0⟩
/-- R330 SOL_CH_STAT[3], RO, reset 0. -/
def SOL_CH_STAT_FAULT : Fld := ⟨0x21, 0x140, 3, 1, .ro, false, fun _ => 0⟩
/-- R330 SOL_CH_IMEAS[15:0], RO, reset 0x0000. -/
def SOL_CH_IMEAS_IMEAS : Fld := ⟨0x21, 0x144, 0, 16, .ro, false, fun _ => 0⟩
/-- R330 SOL_CH_FLAGS[0], W1C, reset 0. -/
def SOL_CH_FLAGS_BSTNR : Fld := ⟨0x21, 0x148, 0, 1, .w1c, false, fun _ => 0⟩
/-- R330 SOL_CH_FLAGS[1], W1C, reset 0. -/
def SOL_CH_FLAGS_BNRABT : Fld := ⟨0x21, 0x148, 1, 1, .w1c, false, fun _ => 0⟩
/-- R330 SOL_CH_FLAGS[2], W1C, reset 0. -/
def SOL_CH_FLAGS_OVLP : Fld := ⟨0x21, 0x148, 2, 1, .w1c, false, fun _ => 0⟩
/-- R330 SOL_CH_FLAGS[3], W1C, reset 0. -/
def SOL_CH_FLAGS_DEFER : Fld := ⟨0x21, 0x148, 3, 1, .w1c, false, fun _ => 0⟩
/-- R330 SOL_CH_FLAGS[4], W1C, reset 0. -/
def SOL_CH_FLAGS_OFFDEF : Fld := ⟨0x21, 0x148, 4, 1, .w1c, false, fun _ => 0⟩
/-- R330 SOL_CH_FLAGS[5], W1C, reset 0. -/
def SOL_CH_FLAGS_OFFREJ : Fld := ⟨0x21, 0x148, 5, 1, .w1c, false, fun _ => 0⟩
/-- R330 SOL_CH_FLAGS[6], W1C, reset 0. -/
def SOL_CH_FLAGS_LATE : Fld := ⟨0x21, 0x148, 6, 1, .w1c, false, fun _ => 0⟩
/-- R330 SOL_CH_FLAGS[7], W1C, reset 0. -/
def SOL_CH_FLAGS_NOPEAK : Fld := ⟨0x21, 0x148, 7, 1, .w1c, false, fun _ => 0⟩
/-- R330 SOL_CH_FLAGS[8], W1C, reset 0. -/
def SOL_CH_FLAGS_NOKINK : Fld := ⟨0x21, 0x148, 8, 1, .w1c, false, fun _ => 0⟩
/-- R330 SOL_CH_FLAGS[9], W1C, reset 0. -/
def SOL_CH_FLAGS_UVDROP : Fld := ⟨0x21, 0x148, 9, 1, .w1c, false, fun _ => 0⟩
/-- R330 SOL_CH_FLAGS[10], W1C, reset 0. -/
def SOL_CH_FLAGS_FBCUT : Fld := ⟨0x21, 0x148, 10, 1, .w1c, false, fun _ => 0⟩
/-- R330 SOL_CH_FLAGS[16], W1C, reset 0. -/
def SOL_CH_FLAGS_SHORT : Fld := ⟨0x21, 0x148, 16, 1, .w1c, false, fun _ => 0⟩
/-- R330 SOL_CH_FLAGS[17], W1C, reset 0. -/
def SOL_CH_FLAGS_HSSHORT : Fld := ⟨0x21, 0x148, 17, 1, .w1c, false, fun _ => 0⟩
/-- R330 SOL_CH_FLAGS[18], W1C, reset 0. -/
def SOL_CH_FLAGS_OPEN : Fld := ⟨0x21, 0x148, 18, 1, .w1c, false, fun _ => 0⟩
/-- R330 SOL_CH_FLAGS[19], W1C, reset 0. -/
def SOL_CH_FLAGS_OT : Fld := ⟨0x21, 0x148, 19, 1, .w1c, false, fun _ => 0⟩
/-- R330 SOL_EV_SEQ[31:0], RO, reset 0x0000_0000. -/
def SOL_EV_SEQ_SEQ : Fld := ⟨0x21, 0x150, 0, 32, .ro, false, fun _ => 0⟩
/-- R330 SOL_EV_TSTART[63:0], RO, reset 0. -/
def SOL_EV_TSTART_T : Fld := ⟨0x21, 0x154, 0, 64, .ro, false, fun _ => 0⟩
/-- R330 SOL_EV_TIME[15:0], RO, reset 0x0000. -/
def SOL_EV_TIME_TPK : Fld := ⟨0x21, 0x15C, 0, 16, .ro, false, fun _ => 0⟩
/-- R330 SOL_EV_TIME[31:16], RO, reset 0xFFFF. -/
def SOL_EV_TIME_KINK : Fld := ⟨0x21, 0x15C, 16, 16, .ro, false, fun _ => 0xffff⟩
/-- R330 SOL_EV_FLAGS[15:0], RO, reset 0x0000. -/
def SOL_EV_FLAGS_FLAGS : Fld := ⟨0x21, 0x160, 0, 16, .ro, false, fun _ => 0⟩
/-- R331 SOL_BST_CFG[0], RW, reset 0. -/
def SOL_BST_CFG_EN : Fld := ⟨0x21, 0x800, 0, 1, .own, false, fun _ => 0⟩
/-- R331 SOL_BST_CFG[14:8], RW, reset 0x64. -/
def SOL_BST_CFG_VBST : Fld := ⟨0x21, 0x800, 8, 7, .rw, false, fun _ => 0x64⟩
/-- R331 SOL_BST_CFG[22:16], RW, reset 0x5A. -/
def SOL_BST_CFG_VRDY : Fld := ⟨0x21, 0x800, 16, 7, .rw, false, fun _ => 0x5a⟩
/-- R331 SOL_BST_STAT[6:0], RO, reset 0x00. -/
def SOL_BST_STAT_VNOW : Fld := ⟨0x21, 0x808, 0, 7, .ro, false, fun _ => 0⟩
/-- R331 SOL_BST_STAT[8], RO, reset 0. -/
def SOL_BST_STAT_RDY : Fld := ⟨0x21, 0x808, 8, 1, .ro, false, fun _ => 0⟩
/-- R331 SOL_BST_STAT[9], RO, reset 0. -/
def SOL_BST_STAT_FLT : Fld := ⟨0x21, 0x808, 9, 1, .ro, false, fun _ => 0⟩
/-- R331 SOL_BANK_STAT[23:0], RO, reset 0x00_0000. -/
def SOL_BANK_STAT_BANK : Fld := ⟨0x21, 0x810, 0, 24, .ro, false, fun _ => 0⟩
/-- R331 SOL_SUPPLY[7:0], RO, reset 0x00. -/
def SOL_SUPPLY_VSUP : Fld := ⟨0x21, 0x814, 0, 8, .ro, false, fun _ => 0⟩
/-- R331 SOL_SUPPLY[8], RO, reset 0. -/
def SOL_SUPPLY_CRANK : Fld := ⟨0x21, 0x814, 8, 1, .ro, false, fun _ => 0⟩
/-- R331 SOL_SUPPLY[9], RO, reset 0. -/
def SOL_SUPPLY_UV : Fld := ⟨0x21, 0x814, 9, 1, .ro, false, fun _ => 0⟩
/-- R331 SOL_SUPPLY[10], RO, reset 0. -/
def SOL_SUPPLY_DEAD : Fld := ⟨0x21, 0x814, 10, 1, .ro, false, fun _ => 0⟩
/-- R365 LSW_CH_CFG[0], RW, reset 0. -/
def LSW_CH_CFG_EN : Fld := ⟨0x22, 0x100, 0, 1, .own, false, fun _ => 0⟩
/-- R365 LSW_CH_CFG[2:1], RW, reset 0b00. -/
def LSW_CH_CFG_MODE : Fld := ⟨0x22, 0x100, 1, 2, .rw, false, fun _ => 0⟩
/-- R365 LSW_CH_CFG[4], RW, reset 0. -/
def LSW_CH_CFG_OLEN : Fld := ⟨0x22, 0x100, 4, 1, .rw, false, fun _ => 0⟩
/-- R365 LSW_CH_CFG[8], RW, reset 0. -/
def LSW_CH_CFG_RSTMODE : Fld := ⟨0x22, 0x100, 8, 1, .rw, false, fun _ => 0⟩
/-- R365 LSW_CH_CFG[9], RW, reset 0. -/
def LSW_CH_CFG_SCRST : Fld := ⟨0x22, 0x100, 9, 1, .rw, false, fun _ => 0⟩
/-- R365 LSW_CH_CFG[10], RW, reset 0. -/
def LSW_CH_CFG_FBRS : Fld := ⟨0x22, 0x100, 10, 1, .rw, false, fun _ => 0⟩
/-- R365 LSW_CH_CFG[11], RW, reset 0. -/
def LSW_CH_CFG_SHED : Fld := ⟨0x22, 0x100, 11, 1, .rw, false, fun _ => 0⟩
/-- R365 LSW_CH_CFG[15:12], RW, reset 0x0. -/
def LSW_CH_CFG_WCLS : Fld := ⟨0x22, 0x100, 12, 4, .rw, false, fun _ => 0⟩
/-- R365 LSW_CH_CFG[23:16], RW, reset 0x00. -/
def LSW_CH_CFG_TIR : Fld := ⟨0x22, 0x100, 16, 8, .rw, false, fun _ => 0⟩
/-- R365 LSW_CH_CFG[26:24], RW, reset 0b010. -/
def LSW_CH_CFG_IRX : Fld := ⟨0x22, 0x100, 24, 3, .rw, false, fun _ => 2⟩
/-- R365 LSW_CH_CFG[31:28], RW, reset 0x3. -/
def LSW_CH_CFG_RETRY : Fld := ⟨0x22, 0x100, 28, 4, .rw, false, fun _ => 3⟩
/-- R365 LSW_CH_CMD[0], RW, reset 0. -/
def LSW_CH_CMD_ON : Fld := ⟨0x22, 0x104, 0, 1, .own, false, fun _ => 0⟩
/-- R365 LSW_CH_CMD[8], WO, reset 0. -/
def LSW_CH_CMD_CLRFLT : Fld := ⟨0x22, 0x104, 8, 1, .wo, false, fun _ => 0⟩
/-- R365 LSW_CH_PWM[15:0], RWS, reset 0x0000. -/
def LSW_CH_PWM_DUTY : Fld := ⟨0x22, 0x108, 0, 16, .rws, false, fun _ => 0⟩
/-- R365 LSW_CH_PWM[31:16], RWS, reset 0x00C8. -/
def LSW_CH_PWM_FREQ : Fld := ⟨0x22, 0x108, 16, 16, .rws, false, fun _ => 0xc8⟩
/-- R365 LSW_CH_STAT[2:0], RO, reset 0b000. -/
def LSW_CH_STAT_STATE : Fld := ⟨0x22, 0x110, 0, 3, .ro, false, fun _ => 0⟩
/-- R365 LSW_CH_STAT[3], RO, reset 0. -/
def LSW_CH_STAT_FAULT : Fld := ⟨0x22, 0x110, 3, 1, .ro, false, fun _ => 0⟩
/-- R365 LSW_CH_STAT[11:8], RO, reset 0x0. -/
def LSW_CH_STAT_CAUSE : Fld := ⟨0x22, 0x110, 8, 4, .ro, false, fun _ => 0⟩
/-- R365 LSW_CH_STAT[15:12], RO, reset 0x0. -/
def LSW_CH_STAT_RTRN : Fld := ⟨0x22, 0x110, 12, 4, .ro, false, fun _ => 0⟩
/-- R365 LSW_CH_IMEAS[15:0], RO, reset 0x0000. -/
def LSW_CH_IMEAS_I : Fld := ⟨0x22, 0x114, 0, 16, .ro, false, fun _ => 0⟩
/-- R365 LSW_CH_IMEAS[31:16], RO, reset 0x0000. -/
def LSW_CH_IMEAS_OLV : Fld := ⟨0x22, 0x114, 16, 16, .ro, false, fun _ => 0⟩
/-- R365 LSW_CH_TEMP[15:0], RO, reset measured. -/
def LSW_CH_TEMP_TJ : Fld := ⟨0x22, 0x118, 0, 16, .ro, false, fun _ => 0⟩
/-- R365 LSW_CH_TEMP[31:16], RO, reset 0x0000. -/
def LSW_CH_TEMP_WRISE : Fld := ⟨0x22, 0x118, 16, 16, .ro, false, fun _ => 0⟩
/-- R365 LSW_CH_FLAGS[0], W1C, reset 0. -/
def LSW_CH_FLAGS_SC : Fld := ⟨0x22, 0x11C, 0, 1, .w1c, false, fun _ => 0⟩
/-- R365 LSW_CH_FLAGS[1], W1C, reset 0. -/
def LSW_CH_FLAGS_WIRE : Fld := ⟨0x22, 0x11C, 1, 1, .w1c, false, fun _ => 0⟩
/-- R365 LSW_CH_FLAGS[2], W1C, reset 0. -/
def LSW_CH_FLAGS_OT : Fld := ⟨0x22, 0x11C, 2, 1, .w1c, false, fun _ => 0⟩
/-- R365 LSW_CH_FLAGS[3], W1C, reset 0. -/
def LSW_CH_FLAGS_OTABS : Fld := ⟨0x22, 0x11C, 3, 1, .w1c, false, fun _ => 0⟩
/-- R365 LSW_CH_FLAGS[4], W1C, reset 0. -/
def LSW_CH_FLAGS_RETRYX : Fld := ⟨0x22, 0x11C, 4, 1, .w1c, false, fun _ => 0⟩
/-- R365 LSW_CH_FLAGS[5], W1C, reset 0. -/
def LSW_CH_FLAGS_OPEN : Fld := ⟨0x22, 0x11C, 5, 1, .w1c, false, fun _ => 0⟩
/-- R365 LSW_CH_FLAGS[6], W1C, reset 0. -/
def LSW_CH_FLAGS_STB : Fld := ⟨0x22, 0x11C, 6, 1, .w1c, false, fun _ => 0⟩
/-- R365 LSW_CH_FLAGS[7], W1C, reset 0. -/
def LSW_CH_FLAGS_SHED : Fld := ⟨0x22, 0x11C, 7, 1, .w1c, false, fun _ => 0⟩
/-- R365 LSW_CH_FLAGS[8], W1C, reset 0. -/
def LSW_CH_FLAGS_CRANKBLK : Fld := ⟨0x22, 0x11C, 8, 1, .w1c, false, fun _ => 0⟩
/-- R365 LSW_CH_FLAGS[9], W1C, reset 0. -/
def LSW_CH_FLAGS_BROWN : Fld := ⟨0x22, 0x11C, 9, 1, .w1c, false, fun _ => 0⟩
/-- R365 LSW_CH_FLAGS[10], W1C, reset 0. -/
def LSW_CH_FLAGS_UV : Fld := ⟨0x22, 0x11C, 10, 1, .w1c, false, fun _ => 0⟩
/-- R365 LSW_CH_FLAGS[11], W1C, reset 0. -/
def LSW_CH_FLAGS_DEAD : Fld := ⟨0x22, 0x11C, 11, 1, .w1c, false, fun _ => 0⟩
/-- R365 LSW_CH_FLAGS[12], W1C, reset 0. -/
def LSW_CH_FLAGS_FBCUT : Fld := ⟨0x22, 0x11C, 12, 1, .w1c, false, fun _ => 0⟩
/-- R365 LSW_CH_FLAGS[13], W1C, reset 0. -/
def LSW_CH_FLAGS_LINK : Fld := ⟨0x22, 0x11C, 13, 1, .w1c, false, fun _ => 0⟩
/-- R365 LSW_CH_TRIPS[15:0], RO, reset 0x0000. -/
def LSW_CH_TRIPS_TRIPS : Fld := ⟨0x22, 0x120, 0, 16, .ro, false, fun _ => 0⟩
/-- R365 LSW_CH_TRIPS[31:16], RO, reset 0x0000. -/
def LSW_CH_TRIPS_RESTARTS : Fld := ⟨0x22, 0x120, 16, 16, .ro, false, fun _ => 0⟩
/-- R367 LSW_SENSE_SEL[4:0], RW, reset 0x00. -/
def LSW_SENSE_SEL_CH : Fld := ⟨0x22, 0x800, 0, 5, .rw, false, fun _ => 0⟩
/-- R367 LSW_SENSE_SEL[8], RW, reset 0. -/
def LSW_SENSE_SEL_MODE : Fld := ⟨0x22, 0x800, 8, 1, .rw, false, fun _ => 0⟩
/-- R367 LSW_SENSE_SEL[12], RW, reset 0. -/
def LSW_SENSE_SEL_MONEN : Fld := ⟨0x22, 0x800, 12, 1, .rw, false, fun _ => 0⟩
/-- R367 LSW_SENSE_VAL[15:0], RO, reset 0x0000. -/
def LSW_SENSE_VAL_I : Fld := ⟨0x22, 0x804, 0, 16, .ro, false, fun _ => 0⟩
/-- R367 LSW_STUD[15:0], RO, reset 0x0000. -/
def LSW_STUD_AVG : Fld := ⟨0x22, 0x810, 0, 16, .ro, false, fun _ => 0⟩
/-- R367 LSW_STUD[16], RO, reset 0. -/
def LSW_STUD_STUDOV : Fld := ⟨0x22, 0x810, 16, 1, .ro, false, fun _ => 0⟩
/-- R367 LSW_STUD[31:24], RO, reset 0x00. -/
def LSW_STUD_VSTUD : Fld := ⟨0x22, 0x810, 24, 8, .ro, false, fun _ => 0⟩
/-- R367 LSW_STUD_CFG[7:0], RW, reset 0x78. -/
def LSW_STUD_CFG_LIMA : Fld := ⟨0x22, 0x818, 0, 8, .rw, false, fun _ => 0x78⟩
/-- R367 LSW_STUD_CFG[15:8], RW, reset 0x78. -/
def LSW_STUD_CFG_LIMB : Fld := ⟨0x22, 0x818, 8, 8, .rw, false, fun _ => 0x78⟩
/-- R367 LSW_SUPPLY[0], RO, reset 0. -/
def LSW_SUPPLY_CRANKA : Fld := ⟨0x22, 0x81C, 0, 1, .ro, false, fun _ => 0⟩
/-- R367 LSW_SUPPLY[1], RO, reset 0. -/
def LSW_SUPPLY_CRANKB : Fld := ⟨0x22, 0x81C, 1, 1, .ro, false, fun _ => 0⟩
/-- R367 LSW_SUPPLY[2], RO, reset 0. -/
def LSW_SUPPLY_BROWNA : Fld := ⟨0x22, 0x81C, 2, 1, .ro, false, fun _ => 0⟩
/-- R367 LSW_SUPPLY[3], RO, reset 0. -/
def LSW_SUPPLY_BROWNB : Fld := ⟨0x22, 0x81C, 3, 1, .ro, false, fun _ => 0⟩
/-- R367 LSW_SUPPLY[5], RO, reset 0. -/
def LSW_SUPPLY_UV : Fld := ⟨0x22, 0x81C, 5, 1, .ro, false, fun _ => 0⟩
/-- R367 LSW_SUPPLY[6], RO, reset 0. -/
def LSW_SUPPLY_DEAD : Fld := ⟨0x22, 0x81C, 6, 1, .ro, false, fun _ => 0⟩
/-- R367 LSW_PSC[0], RO, reset 0. -/
def LSW_PSC_LINK0 : Fld := ⟨0x22, 0x820, 0, 1, .ro, false, fun _ => 0⟩
/-- R367 LSW_PSC[1], RO, reset 0. -/
def LSW_PSC_LINK1 : Fld := ⟨0x22, 0x820, 1, 1, .ro, false, fun _ => 0⟩
/-- R367 LSW_PSC[8], RO, reset 0. -/
def LSW_PSC_OFF0 : Fld := ⟨0x22, 0x820, 8, 1, .ro, false, fun _ => 0⟩
/-- R367 LSW_PSC[9], RO, reset 0. -/
def LSW_PSC_OFF1 : Fld := ⟨0x22, 0x820, 9, 1, .ro, false, fun _ => 0⟩
/-- R367 LSW_PSC[16], WO, reset 0. -/
def LSW_PSC_ACK0 : Fld := ⟨0x22, 0x820, 16, 1, .wo, false, fun _ => 0⟩
/-- R367 LSW_PSC[17], WO, reset 0. -/
def LSW_PSC_ACK1 : Fld := ⟨0x22, 0x820, 17, 1, .wo, false, fun _ => 0⟩
/-- R366 WCLS_K[31:0], RW, reset As R345. -/
def WCLS_K_K : Fld := ⟨0x22, 0x1000, 0, 32, .rw, false, fun i => ([493827, 302457, 219479, 138408, 82645, 44444, 27701, 493827] : List Nat).getD (i % 8) 0⟩
/-- R366 WCLS_TAU[15:0], RW, reset As R345. -/
def WCLS_TAU_TAU : Fld := ⟨0x22, 0x1004, 0, 16, .rw, false, fun i => ([250, 350, 450, 600, 900, 1300, 1800, 250] : List Nat).getD (i % 8) 0⟩
/-- R366 WCLS_LIM[15:0], RW, reset 0x0FA0. -/
def WCLS_LIM_LIM : Fld := ⟨0x22, 0x1008, 0, 16, .rw, false, fun _ => 0xfa0⟩
/-- R366 WCLS_AREA[15:0], RW, reset As R345. -/
def WCLS_AREA_AREA : Fld := ⟨0x22, 0x100C, 0, 16, .rw, false, fun i => ([50, 75, 100, 150, 250, 400, 600, 50] : List Nat).getD (i % 8) 0⟩
/-- R240 ACU_CFG[0], RW, reset 0. -/
def ACU_CFG_EN : Fld := ⟨0x23, 0x1000, 0, 1, .rw, false, fun _ => 0⟩
/-- R240 ACU_CFG[6:4], RWS, reset 0b011. -/
def ACU_CFG_HPF : Fld := ⟨0x23, 0x1000, 4, 3, .rws, false, fun _ => 3⟩
/-- R240 ACU_CFG[15:8], RWS, reset 0x05. -/
def ACU_CFG_DEAD : Fld := ⟨0x23, 0x1000, 8, 8, .rws, false, fun _ => 5⟩
/-- R240 ACU_CFG[31:16], RWS, reset 0x0400. -/
def ACU_CFG_THR : Fld := ⟨0x23, 0x1000, 16, 16, .rws, false, fun _ => 0x400⟩
/-- R240 ACU_CLS[7:0], RWS, reset 0x0A. -/
def ACU_CLS_BLO : Fld := ⟨0x23, 0x1004, 0, 8, .rws, false, fun _ => 0xa⟩
/-- R240 ACU_CLS[15:8], RWS, reset 0x28. -/
def ACU_CLS_BHI : Fld := ⟨0x23, 0x1004, 8, 8, .rws, false, fun _ => 0x28⟩
/-- R240 ACU_CLS[31:16], RWS, reset 0x0200. -/
def ACU_CLS_RTH : Fld := ⟨0x23, 0x1004, 16, 16, .rws, false, fun _ => 0x200⟩
/-- R240 ACU_PK[15:0], RWS, reset 0x0800. -/
def ACU_PK_PKMIN : Fld := ⟨0x23, 0x1008, 0, 16, .rws, false, fun _ => 0x800⟩
/-- R240 ACU_CNT[15:0], RO, reset 0x0000. -/
def ACU_CNT_GRAIN : Fld := ⟨0x23, 0x100C, 0, 16, .ro, false, fun _ => 0⟩
/-- R240 ACU_CNT[31:16], RO, reset 0x0000. -/
def ACU_CNT_OTHER : Fld := ⟨0x23, 0x100C, 16, 16, .ro, false, fun _ => 0⟩
/-- R240 ACU_STAT[15:0], RO, reset 0x0000. -/
def ACU_STAT_PILE : Fld := ⟨0x23, 0x1010, 0, 16, .ro, false, fun _ => 0⟩
/-- R240 ACU_STAT[16], RO, reset 0. -/
def ACU_STAT_SAT : Fld := ⟨0x23, 0x1010, 16, 1, .ro, false, fun _ => 0⟩
/-- R240 ACU_PEAK[15:0], RO, reset 0x0000. -/
def ACU_PEAK_MEANPK : Fld := ⟨0x23, 0x1014, 0, 16, .ro, false, fun _ => 0⟩
/-- R241 ACU_WIN[9:0], RWS, reset 0x064. -/
def ACU_WIN_WIN : Fld := ⟨0x23, 0x1800, 0, 10, .rws, false, fun _ => 0x64⟩
/-- R241 ACU_PUB[8:0], RWS, reset 0x042. -/
def ACU_PUB_SLOT : Fld := ⟨0x23, 0x1804, 0, 9, .rws, false, fun _ => 0x42⟩
/-- R241 ACU_PUB[31], RWS, reset 0. -/
def ACU_PUB_EN : Fld := ⟨0x23, 0x1804, 31, 1, .rws, false, fun _ => 0⟩
/-- R241 ACU_WSEQ[31:0], RO, reset 0x0000_0000. -/
def ACU_WSEQ_SEQ : Fld := ⟨0x23, 0x1808, 0, 32, .ro, false, fun _ => 0⟩
/-- R241 ACU_SNAP[3:0], RW, reset 0x0. -/
def ACU_SNAP_CH : Fld := ⟨0x23, 0x180C, 0, 4, .rw, false, fun _ => 0⟩
/-- R241 ACU_SNAP[8], WO, reset 0. -/
def ACU_SNAP_ARM : Fld := ⟨0x23, 0x180C, 8, 1, .wo, false, fun _ => 0⟩
/-- R241 ACU_SNAP[16], RO, reset 0. -/
def ACU_SNAP_DONE : Fld := ⟨0x23, 0x180C, 16, 1, .ro, false, fun _ => 0⟩
/-- R239 ACU_SNAPD[31:0], RO, reset 0. -/
def ACU_SNAPD_W : Fld := ⟨0x23, 0x1C00, 0, 32, .ro, false, fun _ => 0⟩
/-- R389 FBRK_PR_CFG[0], RWL, reset 0. -/
def FBRK_PR_CFG_EN : Fld := ⟨0x24, 0x100, 0, 1, .rwl, false, fun _ => 0⟩
/-- R389 FBRK_PR_CFG[1], RWL, reset 0. -/
def FBRK_PR_CFG_TESTREQ : Fld := ⟨0x24, 0x100, 1, 1, .rwl, false, fun _ => 0⟩
/-- R389 FBRK_PR_CFG[5:4], RWL, reset 0b00. -/
def FBRK_PR_CFG_TYPE : Fld := ⟨0x24, 0x100, 4, 2, .rwl, false, fun _ => 0⟩
/-- R389 FBRK_PR_CFG[11:8], RWL, reset 0x2. -/
def FBRK_PR_CFG_FILT : Fld := ⟨0x24, 0x100, 8, 4, .rwl, false, fun _ => 2⟩
/-- R389 FBRK_PR_CFG[31:24], RWL, reset 0x0A. -/
def FBRK_PR_CFG_DISC_T : Fld := ⟨0x24, 0x100, 24, 8, .rwl, false, fun _ => 0xa⟩
/-- R389 FBRK_PR_STAT[2:0], RO, reset 0b000. -/
def FBRK_PR_STAT_STATE : Fld := ⟨0x24, 0x104, 0, 3, .ro, false, fun _ => 0⟩
/-- R389 FBRK_PR_STAT[4], RO, reset 0. -/
def FBRK_PR_STAT_TESTDONE : Fld := ⟨0x24, 0x104, 4, 1, .ro, false, fun _ => 0⟩
/-- R389 FBRK_PR_STAT[8], RO, reset 0. -/
def FBRK_PR_STAT_INA : Fld := ⟨0x24, 0x104, 8, 1, .ro, false, fun _ => 0⟩
/-- R389 FBRK_PR_STAT[9], RO, reset 0. -/
def FBRK_PR_STAT_INB : Fld := ⟨0x24, 0x104, 9, 1, .ro, false, fun _ => 0⟩
/-- R389 FBRK_PR_STAT[18:16], RO, reset 0b000. -/
def FBRK_PR_STAT_FCODE : Fld := ⟨0x24, 0x104, 16, 3, .ro, false, fun _ => 0⟩
/-- R389 FBRK_PR_CNT[15:0], RO, reset 0x0000. -/
def FBRK_PR_CNT_OPENS : Fld := ⟨0x24, 0x108, 0, 16, .ro, false, fun _ => 0⟩
/-- R389 FBRK_PR_CNT[31:16], RO, reset 0x0000. -/
def FBRK_PR_CNT_FAULTS : Fld := ⟨0x24, 0x108, 16, 16, .ro, false, fun _ => 0⟩
/-- R390 FBRK_GRP_CFG[0], RWL, reset 0. -/
def FBRK_GRP_CFG_EN : Fld := ⟨0x24, 0x800, 0, 1, .rwl, false, fun _ => 0⟩
/-- R390 FBRK_GRP_CFG[4], RWL, reset 0. -/
def FBRK_GRP_CFG_RSTM : Fld := ⟨0x24, 0x800, 4, 1, .rwl, false, fun _ => 0⟩
/-- R390 FBRK_GRP_CFG[13:8], RWL, reset 0b00_0000. -/
def FBRK_GRP_CFG_BANKS : Fld := ⟨0x24, 0x800, 8, 6, .rwl, false, fun _ => 0⟩
/-- R390 FBRK_GRP_CFG[31:16], RWL, reset 0x0000. -/
def FBRK_GRP_CFG_PAIRS : Fld := ⟨0x24, 0x800, 16, 16, .rwl, false, fun _ => 0⟩
/-- R390 FBRK_GRP_LSW[23:0], RWL, reset 0x00_0000. -/
def FBRK_GRP_LSW_LSW : Fld := ⟨0x24, 0x804, 0, 24, .rwl, false, fun _ => 0⟩
/-- R390 FBRK_GRP_STAT[2:0], RO, reset 0b101. -/
def FBRK_GRP_STAT_STATE : Fld := ⟨0x24, 0x808, 0, 3, .ro, false, fun _ => 5⟩
/-- R390 FBRK_GRP_STAT[8], RO, reset 0. -/
def FBRK_GRP_STAT_CUTA : Fld := ⟨0x24, 0x808, 8, 1, .ro, false, fun _ => 0⟩
/-- R390 FBRK_GRP_STAT[9], RO, reset 0. -/
def FBRK_GRP_STAT_CUTB : Fld := ⟨0x24, 0x808, 9, 1, .ro, false, fun _ => 0⟩
/-- R390 FBRK_GRP_STAT[10], RO, reset 0. -/
def FBRK_GRP_STAT_RBOK : Fld := ⟨0x24, 0x808, 10, 1, .ro, false, fun _ => 0⟩
/-- R390 FBRK_GRP_CNT[15:0], RO, reset 0x0000. -/
def FBRK_GRP_CNT_CUTS : Fld := ⟨0x24, 0x80C, 0, 16, .ro, false, fun _ => 0⟩
/-- R391 FBRK_CFGCRC[31:0], RWL, reset 0x0000_0000. -/
def FBRK_CFGCRC_CRC : Fld := ⟨0x24, 0x880, 0, 32, .rwl, false, fun _ => 0⟩
/-- R391 FBRK_RESTART[7:0], WO, reset 0x00. -/
def FBRK_RESTART_MASK : Fld := ⟨0x24, 0x884, 0, 8, .wo, false, fun _ => 0⟩
/-- R391 FBRK_RESET[15:0], WO, reset 0x0000. -/
def FBRK_RESET_KEY : Fld := ⟨0x24, 0x888, 0, 16, .wo, false, fun _ => 0⟩
/-- R391 FBRK_RSTSTAT[11:0], RO, reset 0x000. -/
def FBRK_RSTSTAT_PULSE : Fld := ⟨0x24, 0x88C, 0, 12, .ro, false, fun _ => 0⟩
/-- R391 FBRK_RSTSTAT[23:16], RO, reset 0x00. -/
def FBRK_RSTSTAT_REFUSED : Fld := ⟨0x24, 0x88C, 16, 8, .ro, false, fun _ => 0⟩
/-- R391 FBRK_RSTSTAT[30], RO, reset 0. -/
def FBRK_RSTSTAT_STUCK : Fld := ⟨0x24, 0x88C, 30, 1, .ro, false, fun _ => 0⟩
/-- R391 FBRK_RSTSTAT[31], RO, reset 0. -/
def FBRK_RSTSTAT_WINDOW : Fld := ⟨0x24, 0x88C, 31, 1, .ro, false, fun _ => 0⟩
/-- R391 FBRK_LATCH[7:0], RO, reset 0x00. -/
def FBRK_LATCH_GROUPS : Fld := ⟨0x24, 0x890, 0, 8, .ro, false, fun _ => 0⟩
/-- R391 FBRK_LATCH[19:16], RO, reset 0x0. -/
def FBRK_LATCH_LCAUSE : Fld := ⟨0x24, 0x890, 16, 4, .ro, false, fun _ => 0⟩
/-- R391 FBRK_REACT[15:0], RO, reset 0x0000. -/
def FBRK_REACT_LASTR : Fld := ⟨0x24, 0x894, 0, 16, .ro, false, fun _ => 0⟩
/-- R391 FBRK_REACT[31:16], RO, reset 0x0000. -/
def FBRK_REACT_MAXR : Fld := ⟨0x24, 0x894, 16, 16, .ro, false, fun _ => 0⟩
/-- R391 FBRK_CMD[0], WO, reset 0. -/
def FBRK_CMD_CLRREACT : Fld := ⟨0x24, 0x898, 0, 1, .wo, false, fun _ => 0⟩
/-- R391 FBRK_TEST[15:0], RO, reset 0x0000. -/
def FBRK_TEST_PEND : Fld := ⟨0x24, 0x89C, 0, 16, .ro, false, fun _ => 0⟩
/-- R391 FBRK_PUB[8:0], RWS, reset 0x000. -/
def FBRK_PUB_SLOT : Fld := ⟨0x24, 0x8A0, 0, 9, .rws, false, fun _ => 0⟩
/-- R391 FBRK_PUB[31], RWS, reset 0. -/
def FBRK_PUB_EN : Fld := ⟨0x24, 0x8A0, 31, 1, .rws, false, fun _ => 0⟩
/-- R557 SEG_LN_STAT[1:0], RO, reset 0b00. -/
def SEG_LN_STAT_ST : Fld := ⟨0x25, 0x100, 0, 2, .ro, false, fun _ => 0⟩
/-- R557 SEG_LN_STAT[6:4], RO, reset 0b000. -/
def SEG_LN_STAT_BAND : Fld := ⟨0x25, 0x100, 4, 3, .ro, false, fun _ => 0⟩
/-- R557 SEG_LN_STAT[8], RO, reset from MRAM. -/
def SEG_LN_STAT_PEND : Fld := ⟨0x25, 0x100, 8, 1, .ro, true, fun _ => 0⟩
/-- R557 SEG_LN_TLAST[63:0], RO, reset 0. -/
def SEG_LN_TLAST_T : Fld := ⟨0x25, 0x104, 0, 64, .ro, false, fun _ => 0⟩
/-- R560 SEG_CFG[7:0], RWS, reset 0x04. -/
def SEG_CFG_AGEK : Fld := ⟨0x25, 0x800, 0, 8, .rws, false, fun _ => 4⟩
/-- R560 SEG_CFG[15:8], RWS, reset 0xC0. -/
def SEG_CFG_ABASE : Fld := ⟨0x25, 0x800, 8, 8, .rws, false, fun _ => 0xc0⟩
/-- R560 SEG_CFG[18:16], RWS, reset 0b100. -/
def SEG_CFG_FBAND : Fld := ⟨0x25, 0x800, 16, 3, .rws, false, fun _ => 4⟩
/-- R560 SEG_CFG[31:24], RWS, reset 0xE2. -/
def SEG_CFG_TMINW : Fld := ⟨0x25, 0x800, 24, 8, .rws, false, fun _ => 0xe2⟩
/-- R560 SEG_COMMIT[0], WO, reset 0. -/
def SEG_COMMIT_GO : Fld := ⟨0x25, 0x804, 0, 1, .wo, false, fun _ => 0⟩
/-- R560 SEG_COMMIT[1], WO, reset 0. -/
def SEG_COMMIT_FULL : Fld := ⟨0x25, 0x804, 1, 1, .wo, false, fun _ => 0⟩
/-- R560 SEG_CMD[0], WO, reset 0. -/
def SEG_CMD_STRCLR : Fld := ⟨0x25, 0x808, 0, 1, .wo, false, fun _ => 0⟩
/-- R560 SEG_STATE[2:0], RO, reset 0b000. -/
def SEG_STATE_ST : Fld := ⟨0x25, 0x80C, 0, 3, .ro, false, fun _ => 0⟩
/-- R560 SEG_STATE[10:8], RO, reset 0b000. -/
def SEG_STATE_LINE : Fld := ⟨0x25, 0x80C, 8, 3, .ro, false, fun _ => 0⟩
/-- R560 SEG_STATE[14:12], RO, reset 0b000. -/
def SEG_STATE_BAND : Fld := ⟨0x25, 0x80C, 12, 3, .ro, false, fun _ => 0⟩
/-- R560 SEG_STATE[23:16], RO, reset from MRAM. -/
def SEG_STATE_PEND : Fld := ⟨0x25, 0x80C, 16, 8, .ro, true, fun _ => 0⟩
/-- R560 SEG_TEMP[15:0], RO, reset 0x0000. -/
def SEG_TEMP_T : Fld := ⟨0x25, 0x810, 0, 16, .ro, false, fun _ => 0⟩
/-- R560 SEG_TEMP[16], RO, reset 0. -/
def SEG_TEMP_TSFLT : Fld := ⟨0x25, 0x810, 16, 1, .ro, false, fun _ => 0⟩
/-- R560 SEG_GEN[7:0], RO, reset 0x00. -/
def SEG_GEN_VSNOW : Fld := ⟨0x25, 0x814, 0, 8, .ro, false, fun _ => 0⟩
/-- R560 SEG_GEN[15:8], RO, reset 0x00. -/
def SEG_GEN_VRNOW : Fld := ⟨0x25, 0x814, 8, 8, .ro, false, fun _ => 0⟩
/-- R560 SEG_JSEQ[31:0], RO, reset from MRAM. -/
def SEG_JSEQ_SEQ : Fld := ⟨0x25, 0x818, 0, 32, .ro, true, fun _ => 0⟩
/-- R558 SEG_CTR[23:0], RO, reset from MRAM. -/
def SEG_CTR_S : Fld := ⟨0x25, 0x1000, 0, 24, .ro, true, fun _ => 0⟩
/-- R558 SEG_STG[31:0], RW, reset 0. -/
def SEG_STG_SEG : Fld := ⟨0x25, 0x2000, 0, 32, .rw, false, fun _ => 0⟩
/-- R558 SEG_DSP[31:0], RO, reset from MRAM. -/
def SEG_DSP_SEG : Fld := ⟨0x25, 0x2100, 0, 32, .ro, true, fun _ => 0⟩
/-- R558 SEG_TGT[31:0], RO, reset from MRAM. -/
def SEG_TGT_SEG : Fld := ⟨0x25, 0x2200, 0, 32, .ro, true, fun _ => 0⟩
/-- R558 SEG_FIMG[31:0], RW, from MRAM; the default image of R556 until written. -/
def SEG_FIMG_SEG : Fld := ⟨0x25, 0x2300, 0, 32, .rw, true, fun k =>
  if k / 3 % 8 = 0 ∨ k / 3 % 8 = 7 then 0xFFFFFFFF else if k % 24 = 3 then 2 ^ (k / 24 + 1) - 1 else 0⟩
/-- R559 BAND_V[7:0], RWS, reset As R551. -/
def BAND_V_VS : Fld := ⟨0x25, 0x3000, 0, 8, .rws, false, fun i => ([88, 84, 80, 76, 72, 68, 64, 60] : List Nat).getD (i % 8) 0⟩
/-- R559 BAND_V[15:8], RWS, reset As R551. -/
def BAND_V_VR : Fld := ⟨0x25, 0x3000, 8, 8, .rws, false, fun i => ([160, 152, 144, 136, 128, 120, 112, 104] : List Nat).getD (i % 8) 0⟩
/-- R559 BAND_V[31:24], RWS, reset As R551. -/
def BAND_V_TMAX : Fld := ⟨0x25, 0x3000, 24, 8, .rws, false, fun i => ([236, 246, 0, 10, 20, 30, 45, 0] : List Nat).getD (i % 8) 0⟩
/-- R559 BAND_T[15:0], RWS, reset As R551. -/
def BAND_T_TS : Fld := ⟨0x25, 0x3004, 0, 16, .rws, false, fun i => ([400, 200, 100, 60, 40, 30, 25, 20] : List Nat).getD (i % 8) 0⟩
/-- R559 BAND_T[31:16], RWS, reset As R551. -/
def BAND_T_TR : Fld := ⟨0x25, 0x3004, 16, 16, .rws, false, fun i => ([4000, 2000, 1000, 600, 400, 300, 250, 200] : List Nat).getD (i % 8) 0⟩
/-- R559 BAND_E[15:0], RWS, reset As R551. -/
def BAND_E_TE : Fld := ⟨0x25, 0x3008, 0, 16, .rws, false, fun i => ([2000, 1000, 500, 300, 200, 150, 120, 100] : List Nat).getD (i % 8) 0⟩
/-- R422 BUS_CH_CFG[0], RW, reset 0. -/
def BUS_CH_CFG_EN : Fld := ⟨0x28, 0x100, 0, 1, .own, false, fun _ => 0⟩
/-- R422 BUS_CH_CFG[27], RW, reset 0. -/
def BUS_CH_CFG_LOOP : Fld := ⟨0x28, 0x100, 27, 1, .rw, false, fun _ => 0⟩
/-- R422 BUS_CH_CFG[28], RW, reset 0. -/
def BUS_CH_CFG_LOM : Fld := ⟨0x28, 0x100, 28, 1, .rw, false, fun _ => 0⟩
/-- R422 BUS_CH_CFG[30], RW, reset 0. -/
def BUS_CH_CFG_FDEN : Fld := ⟨0x28, 0x100, 30, 1, .rw, false, fun _ => 0⟩
/-- R422 BUS_CH_CFG[31], RW, reset 0. -/
def BUS_CH_CFG_XLEN : Fld := ⟨0x28, 0x100, 31, 1, .rw, false, fun _ => 0⟩
/-- R422 BUS_CH_NBT[6:0], RW, reset 19. -/
def BUS_CH_NBT_SJW : Fld := ⟨0x28, 0x104, 0, 7, .rw, false, fun _ => 0x13⟩
/-- R422 BUS_CH_NBT[14:8], RW, reset 19. -/
def BUS_CH_NBT_TSEG2 : Fld := ⟨0x28, 0x104, 8, 7, .rw, false, fun _ => 0x13⟩
/-- R422 BUS_CH_NBT[23:16], RW, reset 138. -/
def BUS_CH_NBT_TSEG1 : Fld := ⟨0x28, 0x104, 16, 8, .rw, false, fun _ => 0x8a⟩
/-- R422 BUS_CH_NBT[28:24], RW, reset 3. -/
def BUS_CH_NBT_BRP : Fld := ⟨0x28, 0x104, 24, 5, .rw, false, fun _ => 3⟩
/-- R422 BUS_CH_DBT[6:0], RW, reset 19. -/
def BUS_CH_DBT_SJW : Fld := ⟨0x28, 0x108, 0, 7, .rw, false, fun _ => 0x13⟩
/-- R422 BUS_CH_DBT[14:8], RW, reset 19. -/
def BUS_CH_DBT_TSEG2 : Fld := ⟨0x28, 0x108, 8, 7, .rw, false, fun _ => 0x13⟩
/-- R422 BUS_CH_DBT[23:16], RW, reset 58. -/
def BUS_CH_DBT_TSEG1 : Fld := ⟨0x28, 0x108, 16, 8, .rw, false, fun _ => 0x3a⟩
/-- R422 BUS_CH_DBT[28:24], RW, reset 0. -/
def BUS_CH_DBT_BRP : Fld := ⟨0x28, 0x108, 24, 5, .rw, false, fun _ => 0⟩
/-- R422 BUS_CH_XBT[6:0], RW, reset 3. -/
def BUS_CH_XBT_SJW : Fld := ⟨0x28, 0x10C, 0, 7, .rw, false, fun _ => 3⟩
/-- R422 BUS_CH_XBT[14:8], RW, reset 3. -/
def BUS_CH_XBT_TSEG2 : Fld := ⟨0x28, 0x10C, 8, 7, .rw, false, fun _ => 3⟩
/-- R422 BUS_CH_XBT[23:16], RW, reset 10. -/
def BUS_CH_XBT_TSEG1 : Fld := ⟨0x28, 0x10C, 16, 8, .rw, false, fun _ => 0xa⟩
/-- R422 BUS_CH_XBT[28:24], RW, reset 0. -/
def BUS_CH_XBT_BRP : Fld := ⟨0x28, 0x10C, 24, 5, .rw, false, fun _ => 0⟩
/-- R422 BUS_CH_TDC[0], RW, reset 0. -/
def BUS_CH_TDC_EN : Fld := ⟨0x28, 0x110, 0, 1, .rw, false, fun _ => 0⟩
/-- R422 BUS_CH_TDC[15:8], RW, reset 0x00. -/
def BUS_CH_TDC_TDCO : Fld := ⟨0x28, 0x110, 8, 8, .rw, false, fun _ => 0⟩
/-- R422 BUS_CH_TDC[23:16], RO, reset 0x00. -/
def BUS_CH_TDC_TDCV : Fld := ⟨0x28, 0x110, 16, 8, .ro, false, fun _ => 0⟩
/-- R422 BUS_CH_STAT[2:0], RO, reset 0b000. -/
def BUS_CH_STAT_STATE : Fld := ⟨0x28, 0x120, 0, 3, .ro, false, fun _ => 0⟩
/-- R422 BUS_CH_STAT[8], RO, reset 0. -/
def BUS_CH_STAT_HOLDOVR : Fld := ⟨0x28, 0x120, 8, 1, .ro, false, fun _ => 0⟩
/-- R422 BUS_CH_STAT[9], RO, reset 0. -/
def BUS_CH_STAT_TRXFLT : Fld := ⟨0x28, 0x120, 9, 1, .ro, false, fun _ => 0⟩
/-- R422 BUS_CH_STAT[23:16], RO, reset 0x00. -/
def BUS_CH_STAT_TEC : Fld := ⟨0x28, 0x120, 16, 8, .ro, false, fun _ => 0⟩
/-- R422 BUS_CH_STAT[31:24], RO, reset 0x00. -/
def BUS_CH_STAT_REC : Fld := ⟨0x28, 0x120, 24, 8, .ro, false, fun _ => 0⟩
/-- R422 BUS_CH_CNT[15:0], RO, reset 0x0000. -/
def BUS_CH_CNT_PEXCNT : Fld := ⟨0x28, 0x124, 0, 16, .ro, false, fun _ => 0⟩
/-- R422 BUS_CH_CNT[31:16], RO, reset 0x0000. -/
def BUS_CH_CNT_BOCNT : Fld := ⟨0x28, 0x124, 16, 16, .ro, false, fun _ => 0⟩
/-- R422 BUS_CH_EVT[9:0], W1C, reset 0x000. -/
def BUS_CH_EVT_EVT : Fld := ⟨0x28, 0x128, 0, 10, .w1c, false, fun _ => 0⟩
/-- R422 BUS_CH_FIFO[7:0], RW, reset 0x00. -/
def BUS_CH_FIFO_BASE : Fld := ⟨0x28, 0x130, 0, 8, .rw, false, fun _ => 0⟩
/-- R422 BUS_CH_FIFO[23:16], RW, reset 0x00. -/
def BUS_CH_FIFO_LEN : Fld := ⟨0x28, 0x130, 16, 8, .rw, false, fun _ => 0⟩
/-- R422 BUS_CH_FIFO[28:24], RW, reset 0x01. -/
def BUS_CH_FIFO_SPAN : Fld := ⟨0x28, 0x130, 24, 5, .rw, false, fun _ => 1⟩
/-- R422 BUS_CH_FIFO_IDX[7:0], RW, reset 0x00. -/
def BUS_CH_FIFO_IDX_RD : Fld := ⟨0x28, 0x138, 0, 8, .rw, false, fun _ => 0⟩
/-- R422 BUS_CH_FIFO_IDX[15:8], RO, reset 0x00. -/
def BUS_CH_FIFO_IDX_WR : Fld := ⟨0x28, 0x138, 8, 8, .ro, false, fun _ => 0⟩
/-- R422 BUS_CH_FIFO_IDX[23:16], RO, reset 0x00. -/
def BUS_CH_FIFO_IDX_LOST : Fld := ⟨0x28, 0x138, 16, 8, .ro, false, fun _ => 0⟩
/-- R422 BUS_CH_REFID[28:0], RW, reset 0. -/
def BUS_CH_REFID_ID : Fld := ⟨0x28, 0x140, 0, 29, .rw, false, fun _ => 0⟩
/-- R422 BUS_CH_REFID[29], RW, reset 0. -/
def BUS_CH_REFID_IDE : Fld := ⟨0x28, 0x140, 29, 1, .rw, false, fun _ => 0⟩
/-- R422 BUS_CH_FBMSG[28:0], RW, reset 0. -/
def BUS_CH_FBMSG_ID : Fld := ⟨0x28, 0x144, 0, 29, .rw, false, fun _ => 0⟩
/-- R422 BUS_CH_FBMSG[29], RW, reset 0. -/
def BUS_CH_FBMSG_IDE : Fld := ⟨0x28, 0x144, 29, 1, .rw, false, fun _ => 0⟩
/-- R422 BUS_CH_FBMSG[31], RW, reset 0. -/
def BUS_CH_FBMSG_EN : Fld := ⟨0x28, 0x144, 31, 1, .rw, false, fun _ => 0⟩
/-- R422 BUS_CH_FBPER[9:0], RW, reset 0x064. -/
def BUS_CH_FBPER_FBPER : Fld := ⟨0x28, 0x148, 0, 10, .rw, false, fun _ => 0x64⟩
/-- R422 BUS_CH_WAKE[28:0], RW, reset 0. -/
def BUS_CH_WAKE_ID : Fld := ⟨0x28, 0x150, 0, 29, .rw, false, fun _ => 0⟩
/-- R422 BUS_CH_WAKE[29], RW, reset 0. -/
def BUS_CH_WAKE_IDE : Fld := ⟨0x28, 0x150, 29, 1, .rw, false, fun _ => 0⟩
/-- R422 BUS_CH_WAKE[30], RW, reset 0. -/
def BUS_CH_WAKE_WUF : Fld := ⟨0x28, 0x150, 30, 1, .rw, false, fun _ => 0⟩
/-- R422 BUS_CH_WAKE[31], RW, reset 0. -/
def BUS_CH_WAKE_EN : Fld := ⟨0x28, 0x150, 31, 1, .rw, false, fun _ => 0⟩
/-- R422 BUS_CH_WMASK[28:0], RW, reset 0x1FFF_FFFF. -/
def BUS_CH_WMASK_MASK : Fld := ⟨0x28, 0x154, 0, 29, .rw, false, fun _ => 0x1fffffff⟩
/-- R422 BUS_CH_WDATA[63:0], RW, reset 0. -/
def BUS_CH_WDATA_WDATA : Fld := ⟨0x28, 0x158, 0, 64, .rw, false, fun _ => 0⟩
/-- R422 BUS_CH_WCFG[1:0], RW, reset 0b01. -/
def BUS_CH_WCFG_RATE : Fld := ⟨0x28, 0x160, 0, 2, .rw, false, fun _ => 1⟩
/-- R422 BUS_CH_WCFG[19:16], RW, reset 0x8. -/
def BUS_CH_WCFG_WDLC : Fld := ⟨0x28, 0x160, 16, 4, .rw, false, fun _ => 8⟩
/-- R422 BUS_CH_WSTAT[0], RO, reset 0. -/
def BUS_CH_WSTAT_WUP : Fld := ⟨0x28, 0x164, 0, 1, .ro, false, fun _ => 0⟩
/-- R422 BUS_CH_WSTAT[1], RO, reset 0. -/
def BUS_CH_WSTAT_WUF : Fld := ⟨0x28, 0x164, 1, 1, .ro, false, fun _ => 0⟩
/-- R422 BUS_CH_WSTAT[2], RO, reset 0. -/
def BUS_CH_WSTAT_FECOVF : Fld := ⟨0x28, 0x164, 2, 1, .ro, false, fun _ => 0⟩
/-- R422 BUS_CH_NDAT[31:0], W1C, reset 0x0000_0000. -/
def BUS_CH_NDAT_NDAT : Fld := ⟨0x28, 0x180, 0, 32, .own, false, fun _ => 0⟩
/-- R423 BUS_ISO_NAME[63:0], RW, reset 0. -/
def BUS_ISO_NAME_NAME : Fld := ⟨0x28, 0x800, 0, 64, .rw, false, fun _ => 0⟩
/-- R423 BUS_ISO_CFG[7:0], RW, reset 0. -/
def BUS_ISO_CFG_RLO : Fld := ⟨0x28, 0x820, 0, 8, .rw, false, fun _ => 0⟩
/-- R423 BUS_ISO_CFG[15:8], RW, reset 0. -/
def BUS_ISO_CFG_RHI : Fld := ⟨0x28, 0x820, 8, 8, .rw, false, fun _ => 0⟩
/-- R423 BUS_ISO_CFG[23:16], RW, reset 254. -/
def BUS_ISO_CFG_PREF : Fld := ⟨0x28, 0x820, 16, 8, .rw, false, fun _ => 0xfe⟩
/-- R423 BUS_ISO_CFG[26:24], RW, reset 0. -/
def BUS_ISO_CFG_CH : Fld := ⟨0x28, 0x820, 24, 3, .rw, false, fun _ => 0⟩
/-- R423 BUS_ISO_CFG[31], WO, reset 0. -/
def BUS_ISO_CFG_CLAIM : Fld := ⟨0x28, 0x820, 31, 1, .wo, false, fun _ => 0⟩
/-- R423 BUS_ISO_STAT[7:0], RO, reset 254. -/
def BUS_ISO_STAT_ADDR : Fld := ⟨0x28, 0x830, 0, 8, .ro, false, fun _ => 0xfe⟩
/-- R423 BUS_ISO_STAT[26:24], RO, reset 0. -/
def BUS_ISO_STAT_STATE : Fld := ⟨0x28, 0x830, 24, 3, .ro, false, fun _ => 0⟩
/-- R423 BUS_PT_CFG[15:0], RW, reset 0x012C. -/
def BUS_PT_CFG_PTO : Fld := ⟨0x28, 0x840, 0, 16, .rw, false, fun _ => 0x12c⟩
/-- R423 BUS_PT_CFG[26:24], RW, reset 0b000. -/
def BUS_PT_CFG_PCH : Fld := ⟨0x28, 0x840, 24, 3, .rw, false, fun _ => 0⟩
/-- R423 BUS_PT_CFG[31], RW, reset 0. -/
def BUS_PT_CFG_EN : Fld := ⟨0x28, 0x840, 31, 1, .rw, false, fun _ => 0⟩
/-- R423 BUS_PT_IDX[7:0], RW, reset 0x00. -/
def BUS_PT_IDX_ADDR : Fld := ⟨0x28, 0x844, 0, 8, .rw, false, fun _ => 0⟩
/-- R423 BUS_PT_SEQ[31:0], RO, reset 0x0000_0000. -/
def BUS_PT_SEQ_SEQ : Fld := ⟨0x28, 0x848, 0, 32, .ro, false, fun _ => 0⟩
/-- R423 BUS_PT_NAME[63:0], RO, reset 0. -/
def BUS_PT_NAME_NAME : Fld := ⟨0x28, 0x850, 0, 64, .ro, false, fun _ => 0⟩
/-- R423 BUS_PT_FIRST[63:0], RO, reset 0. -/
def BUS_PT_FIRST_FIRST : Fld := ⟨0x28, 0x858, 0, 64, .ro, false, fun _ => 0⟩
/-- R423 BUS_PT_LAST[63:0], RO, reset 0. -/
def BUS_PT_LAST_LAST : Fld := ⟨0x28, 0x860, 0, 64, .ro, false, fun _ => 0⟩
/-- R423 BUS_PT_STAT[1:0], RO, reset 0b00. -/
def BUS_PT_STAT_STATE : Fld := ⟨0x28, 0x868, 0, 2, .ro, false, fun _ => 0⟩
/-- R423 BUS_PT_STAT[4], RO, reset 0. -/
def BUS_PT_STAT_NAMED : Fld := ⟨0x28, 0x868, 4, 1, .ro, false, fun _ => 0⟩
/-- R423 BUS_PT_STAT[5], RO, reset 0. -/
def BUS_PT_STAT_OWN : Fld := ⟨0x28, 0x868, 5, 1, .ro, false, fun _ => 0⟩
/-- R423 BUS_PT_CHG[31:0], W1C, reset 0x0000_0000. -/
def BUS_PT_CHG_CHG : Fld := ⟨0x28, 0x870, 0, 32, .w1c, false, fun _ => 0⟩
/-- R399 BUF_CTRL[7:0], RO, reset 0x00. -/
def BUF_CTRL_ATT : Fld := ⟨0x28, 0x1000, 0, 8, .ro, false, fun _ => 0⟩
/-- R397 BUS_MEM[31:0], RW, reset 0. -/
def BUS_MEM_WORD : Fld := ⟨0xA8, 0x1000, 0, 32, .rw, false, fun _ => 0⟩
/-- R399 BUF_CTRL[10:8], RO, reset 0b000. -/
def BUF_CTRL_RESULT : Fld := ⟨0x28, 0x1000, 8, 3, .ro, false, fun _ => 0⟩
/-- R399 BUF_CTRL[12], W1C, reset 0. -/
def BUF_CTRL_MSGLOST : Fld := ⟨0x28, 0x1000, 12, 1, .w1c, false, fun _ => 0⟩
/-- R399 BUF_CTRL[13], RO, reset 0. -/
def BUF_CTRL_NDAT : Fld := ⟨0x28, 0x1000, 13, 1, .ro, false, fun _ => 0⟩
/-- R399 BUF_CTRL[14], WO, reset 0. -/
def BUF_CTRL_ABORT : Fld := ⟨0x28, 0x1000, 14, 1, .wo, false, fun _ => 0⟩
/-- R399 BUF_CTRL[15], RW, reset 0. -/
def BUF_CTRL_TXREQ : Fld := ⟨0x28, 0x1000, 15, 1, .own, false, fun _ => 0⟩
/-- R399 BUF_CTRL[20:16], RW, reset 0x01. -/
def BUF_CTRL_SPAN : Fld := ⟨0x28, 0x1000, 16, 5, .rw, false, fun _ => 1⟩
/-- R399 BUF_CTRL[28], RW, reset 0. -/
def BUF_CTRL_IRQ : Fld := ⟨0x28, 0x1000, 28, 1, .rw, false, fun _ => 0⟩
/-- R399 BUF_CTRL[29], RW, reset 0. -/
def BUF_CTRL_PRIV : Fld := ⟨0x28, 0x1000, 29, 1, .rw, false, fun _ => 0⟩
/-- R399 BUF_CTRL[31:30], RW, reset 0b00. -/
def BUF_CTRL_DIR : Fld := ⟨0x28, 0x1000, 30, 2, .rw, false, fun _ => 0⟩
/-- R399 BUF_ID[28:0], RW, reset 0x0000_0000. -/
def BUF_ID_ID : Fld := ⟨0x28, 0x1004, 0, 29, .rw, false, fun _ => 0⟩
/-- R399 BUF_ID[29], RW, reset 0. -/
def BUF_ID_XLF : Fld := ⟨0x28, 0x1004, 29, 1, .rw, false, fun _ => 0⟩
/-- R399 BUF_ID[30], RW, reset 0. -/
def BUF_ID_FDF : Fld := ⟨0x28, 0x1004, 30, 1, .rw, false, fun _ => 0⟩
/-- R399 BUF_ID[31], RW, reset 0. -/
def BUF_ID_IDE : Fld := ⟨0x28, 0x1004, 31, 1, .rw, false, fun _ => 0⟩
/-- R399 BUF_FMT[10:0], RW, reset 0x000. -/
def BUF_FMT_DLC : Fld := ⟨0x28, 0x1008, 0, 11, .rw, false, fun _ => 0⟩
/-- R399 BUF_FMT[19:12], RW, reset 0x00. -/
def BUF_FMT_VCID : Fld := ⟨0x28, 0x1008, 12, 8, .rw, false, fun _ => 0⟩
/-- R399 BUF_FMT[27:20], RW, reset 0x00. -/
def BUF_FMT_SDT : Fld := ⟨0x28, 0x1008, 20, 8, .rw, false, fun _ => 0⟩
/-- R399 BUF_FMT[28], RW, reset 0. -/
def BUF_FMT_SEC : Fld := ⟨0x28, 0x1008, 28, 1, .rw, false, fun _ => 0⟩
/-- R399 BUF_FMT[29], RW, reset 0. -/
def BUF_FMT_RTR : Fld := ⟨0x28, 0x1008, 29, 1, .rw, false, fun _ => 0⟩
/-- R399 BUF_FMT[30], RW, reset 0. -/
def BUF_FMT_ESI : Fld := ⟨0x28, 0x1008, 30, 1, .rw, false, fun _ => 0⟩
/-- R399 BUF_FMT[31], RW, reset 0. -/
def BUF_FMT_BRS : Fld := ⟨0x28, 0x1008, 31, 1, .rw, false, fun _ => 0⟩
/-- R399 BUF_AF[31:0], RW, reset 0x0000_0000. -/
def BUF_AF_AF : Fld := ⟨0x28, 0x100C, 0, 32, .rw, false, fun _ => 0⟩
/-- R399 BUF_SOF[63:0], RO, reset 0. -/
def BUF_SOF_SOF : Fld := ⟨0x28, 0x1010, 0, 64, .ro, false, fun _ => 0⟩
/-- R399 BUF_FILT[11:0], RO, reset 0x000. -/
def BUF_FILT_FIDX : Fld := ⟨0x28, 0x1018, 0, 12, .ro, false, fun _ => 0⟩
/-- R399 BUF_FILT[31:16], RO, reset 0x0000. -/
def BUF_FILT_RXCNT : Fld := ⟨0x28, 0x1018, 16, 16, .ro, false, fun _ => 0⟩
/-- R425 FLT_LIST[11:0], RW, reset 0x000. -/
def FLT_LIST_BASE : Fld := ⟨0x29, 0x100, 0, 12, .rw, false, fun _ => 0⟩
/-- R425 FLT_LIST[28:16], RW, reset 0x0000. -/
def FLT_LIST_LEN : Fld := ⟨0x29, 0x100, 16, 13, .rw, false, fun _ => 0⟩
/-- R425 FLT_LIST[31], RW, reset 0. -/
def FLT_LIST_NOMATCH : Fld := ⟨0x29, 0x100, 31, 1, .rw, false, fun _ => 0⟩
/-- R425 FLT_CNT[15:0], RO, reset 0x0000. -/
def FLT_CNT_HIT : Fld := ⟨0x29, 0x104, 0, 16, .ro, false, fun _ => 0⟩
/-- R425 FLT_CNT[31:16], RO, reset 0x0000. -/
def FLT_CNT_NOHIT : Fld := ⟨0x29, 0x104, 16, 16, .ro, false, fun _ => 0⟩
/-- R401 FLT_ENT[28:0], RW, reset 0. -/
def FLT_ENT_ID1 : Fld := ⟨0x29, 0x1000, 0, 29, .rw, false, fun _ => 0⟩
/-- R401 FLT_ENT[29], RW, reset 0. -/
def FLT_ENT_IDE : Fld := ⟨0x29, 0x1000, 29, 1, .rw, false, fun _ => 0⟩
/-- R401 FLT_ENT[31:30], RW, reset 0. -/
def FLT_ENT_TYPE : Fld := ⟨0x29, 0x1000, 30, 2, .rw, false, fun _ => 0⟩
/-- R401 FLT_ENT[60:32], RW, reset 0. -/
def FLT_ENT_ID2 : Fld := ⟨0x29, 0x1000, 32, 29, .rw, false, fun _ => 0⟩
/-- R401 FLT_ENT[61], RW, reset 0. -/
def FLT_ENT_XL : Fld := ⟨0x29, 0x1000, 61, 1, .rw, false, fun _ => 0⟩
/-- R401 FLT_ENT[63:62], RW, reset 0. -/
def FLT_ENT_DEST : Fld := ⟨0x29, 0x1000, 62, 2, .rw, false, fun _ => 0⟩
/-- R459 ETH_PORT_CFG[0], RW, reset 0. -/
def ETH_PORT_CFG_EN : Fld := ⟨0x2A, 0x100, 0, 1, .own, false, fun _ => 0⟩
/-- R459 ETH_PORT_CFG[1], RWL, reset 1. -/
def ETH_PORT_CFG_MS : Fld := ⟨0x2A, 0x100, 1, 1, .rwl, false, fun _ => 1⟩
/-- R459 ETH_PORT_CFG[2], RWL, reset 0. -/
def ETH_PORT_CFG_GPTP : Fld := ⟨0x2A, 0x100, 2, 1, .rwl, false, fun _ => 0⟩
/-- R459 ETH_PORT_CFG[3], RW, reset 1. -/
def ETH_PORT_CFG_LEARN : Fld := ⟨0x2A, 0x100, 3, 1, .rw, false, fun _ => 1⟩
/-- R459 ETH_PORT_CFG[27:16], RWL, reset 0x001. -/
def ETH_PORT_CFG_PVID : Fld := ⟨0x2A, 0x100, 16, 12, .rwl, false, fun _ => 1⟩
/-- R459 ETH_PORT_CFG[30:28], RW, reset 0b000. -/
def ETH_PORT_CFG_DEFPCP : Fld := ⟨0x2A, 0x100, 28, 3, .rw, false, fun _ => 0⟩
/-- R459 ETH_PORT_STAT[0], RO, reset 0. -/
def ETH_PORT_STAT_LINK : Fld := ⟨0x2A, 0x104, 0, 1, .ro, false, fun _ => 0⟩
/-- R459 ETH_PORT_STAT[1], RO, reset 0. -/
def ETH_PORT_STAT_TAKEN : Fld := ⟨0x2A, 0x104, 1, 1, .ro, false, fun _ => 0⟩
/-- R459 ETH_PORT_STAT[10:8], RO, reset 0b000. -/
def ETH_PORT_STAT_SQI : Fld := ⟨0x2A, 0x104, 8, 3, .ro, false, fun _ => 0⟩
/-- R459 ETH_PORT_GCL[6:0], RWS, reset 0x01. -/
def ETH_PORT_GCL_LEN : Fld := ⟨0x2A, 0x108, 0, 7, .rws, false, fun _ => 1⟩
/-- R459 ETH_PORT_GCL[31], RWS, reset 0. -/
def ETH_PORT_GCL_GEN : Fld := ⟨0x2A, 0x108, 31, 1, .rws, false, fun _ => 0⟩
/-- R459 ETH_PORT_GCYC[26:0], RWS, reset 0x098_9680. -/
def ETH_PORT_GCYC_CYCLE : Fld := ⟨0x2A, 0x10C, 0, 27, .rws, false, fun _ => 0x989680⟩
/-- R459 ETH_PORT_GBASE[63:0], RWS, reset 0. -/
def ETH_PORT_GBASE_BASE : Fld := ⟨0x2A, 0x110, 0, 64, .rws, false, fun _ => 0⟩
/-- R459 ETH_PORT_SYNC[3:0], RWL, reset 0x3. -/
def ETH_PORT_SYNC_SYNCI : Fld := ⟨0x2A, 0x118, 0, 4, .rwl, false, fun _ => 3⟩
/-- R459 ETH_PORT_SYNC[7:4], RWL, reset 0x0. -/
def ETH_PORT_SYNC_PDLYI : Fld := ⟨0x2A, 0x118, 4, 4, .rwl, false, fun _ => 0⟩
/-- R459 ETH_PORT_CNT[15:0], RO, reset 0x0000. -/
def ETH_PORT_CNT_RXF : Fld := ⟨0x2A, 0x120, 0, 16, .ro, false, fun _ => 0⟩
/-- R459 ETH_PORT_CNT[31:16], RO, reset 0x0000. -/
def ETH_PORT_CNT_TXF : Fld := ⟨0x2A, 0x120, 16, 16, .ro, false, fun _ => 0⟩
/-- R459 ETH_PORT_DROP[15:0], RO, reset 0x0000. -/
def ETH_PORT_DROP_FULL : Fld := ⟨0x2A, 0x124, 0, 16, .ro, false, fun _ => 0⟩
/-- R459 ETH_PORT_DROP[31:16], RO, reset 0x0000. -/
def ETH_PORT_DROP_QCI : Fld := ⟨0x2A, 0x124, 16, 16, .ro, false, fun _ => 0⟩
/-- R461 ETH_FDB_WIN[10:0], RW, reset 0x000. -/
def ETH_FDB_WIN_BASE : Fld := ⟨0x2A, 0x800, 0, 11, .rw, false, fun _ => 0⟩
/-- R461 ETH_MAC[47:0], RO, reset OTP. -/
def ETH_MAC_MAC : Fld := ⟨0x2A, 0x808, 0, 48, .ro, false, fun _ => Config.otpMac⟩
/-- R461 ETH_PLCA[0], RWL, reset 0. -/
def ETH_PLCA_EN : Fld := ⟨0x2A, 0x810, 0, 1, .rwl, false, fun _ => 0⟩
/-- R461 ETH_PLCA[11:8], RWL, reset 0x9. -/
def ETH_PLCA_NCNT : Fld := ⟨0x2A, 0x810, 8, 4, .rwl, false, fun _ => 9⟩
/-- R461 ETH_PLCA[23:16], RWL, reset 0x20. -/
def ETH_PLCA_TO : Fld := ⟨0x2A, 0x810, 16, 8, .rwl, false, fun _ => 0x20⟩
/-- R461 ETH_PLCA[31:24], RWL, reset 0x00. -/
def ETH_PLCA_BURST : Fld := ⟨0x2A, 0x810, 24, 8, .rwl, false, fun _ => 0⟩
/-- R461 ETH_TRGSTAT[15:0], RO, reset 0x0000. -/
def ETH_TRGSTAT_DROP : Fld := ⟨0x2A, 0x814, 0, 16, .ro, false, fun _ => 0⟩
/-- R461 STR_ID[63:0], RWL, reset 0. -/
def STR_ID_ID : Fld := ⟨0x2A, 0x900, 0, 64, .rwl, false, fun _ => 0⟩
/-- R461 STR_CFG[0], RW, reset 0. -/
def STR_CFG_EN : Fld := ⟨0x2A, 0x908, 0, 1, .rw, false, fun _ => 0⟩
/-- R461 STR_CFG[6:4], RWL, reset 0. -/
def STR_CFG_SEN : Fld := ⟨0x2A, 0x908, 4, 3, .rwl, false, fun _ => 0⟩
/-- R461 STR_CFG[11:8], RWL, reset 0. -/
def STR_CFG_PORT : Fld := ⟨0x2A, 0x908, 8, 4, .rwl, false, fun _ => 0⟩
/-- R461 STR_CFG[21:16], RWL, reset 0. -/
def STR_CFG_DMACH : Fld := ⟨0x2A, 0x908, 16, 6, .rwl, false, fun _ => 0⟩
/-- R461 STR_CNT[15:0], RO, reset 0. -/
def STR_CNT_DROPF : Fld := ⟨0x2A, 0x90C, 0, 16, .ro, false, fun _ => 0⟩
/-- R461 STR_CNT[31:16], RO, reset 0. -/
def STR_CNT_FRAMES : Fld := ⟨0x2A, 0x90C, 16, 16, .ro, false, fun _ => 0⟩
/-- R461 HQ_RXBASE[63:0], RWL, reset 0. -/
def HQ_RXBASE_BASE : Fld := ⟨0x2A, 0xA00, 0, 64, .rwl, false, fun _ => 0⟩
/-- R461 HQ_SIZE[3:0], RWL, reset 0. -/
def HQ_SIZE_RXSIZE : Fld := ⟨0x2A, 0xA08, 0, 4, .rwl, false, fun _ => 0⟩
/-- R461 HQ_SIZE[7:4], RWL, reset 0. -/
def HQ_SIZE_TXSIZE : Fld := ⟨0x2A, 0xA08, 4, 4, .rwl, false, fun _ => 0⟩
/-- R461 HQ_RXWR[31:0], RO, reset 0. -/
def HQ_RXWR_IDX : Fld := ⟨0x2A, 0xA0C, 0, 32, .ro, false, fun _ => 0⟩
/-- R461 HQ_TXBASE[63:0], RWL, reset 0. -/
def HQ_TXBASE_BASE : Fld := ⟨0x2A, 0xA10, 0, 64, .rwl, false, fun _ => 0⟩
/-- R461 HQ_TXRD[31:0], RO, reset 0. -/
def HQ_TXRD_IDX : Fld := ⟨0x2A, 0xA18, 0, 32, .ro, false, fun _ => 0⟩
/-- R461 HQ_RXRD[31:0], RW, reset 0. -/
def HQ_RXRD_IDX : Fld := ⟨0x2A, 0xA1C, 0, 32, .rw, false, fun _ => 0⟩
/-- R461 HQ_TXWR[31:0], RW, reset 0. -/
def HQ_TXWR_IDX : Fld := ⟨0x2A, 0xA20, 0, 32, .rw, false, fun _ => 0⟩
/-- R461 TRG_HDR[31:0], RW, reset 0. -/
def TRG_HDR_W : Fld := ⟨0x2A, 0xC00, 0, 32, .rw, false, fun _ => 0⟩
/-- R461 TRG_CFG[5:0], RW, reset 0. -/
def TRG_CFG_HLEN : Fld := ⟨0x2A, 0xC30, 0, 6, .rw, false, fun _ => 0⟩
/-- R461 TRG_CFG[10:8], RW, reset 0. -/
def TRG_CFG_TC : Fld := ⟨0x2A, 0xC30, 8, 3, .rw, false, fun _ => 0⟩
/-- R461 TRG_CFG[19:16], RW, reset 0. -/
def TRG_CFG_PORT : Fld := ⟨0x2A, 0xC30, 16, 4, .rw, false, fun _ => 0⟩
/-- R461 TRG_CFG[31], RW, reset 0. -/
def TRG_CFG_EN : Fld := ⟨0x2A, 0xC30, 31, 1, .rw, false, fun _ => 0⟩
/-- R461 TRG_SEQ[15:0], RO, reset 0. -/
def TRG_SEQ_SEQ : Fld := ⟨0x2A, 0xC34, 0, 16, .ro, false, fun _ => 0⟩
/-- R460 FDB_ENT[47:0], RW, reset 0. -/
def FDB_ENT_MAC : Fld := ⟨0x2A, 0x1000, 0, 48, .rw, false, fun _ => 0⟩
/-- R460 FDB_ENT[59:48], RW, reset 0. -/
def FDB_ENT_VID : Fld := ⟨0x2A, 0x1000, 48, 12, .rw, false, fun _ => 0⟩
/-- R460 FDB_ENT[62], RW, reset 0. -/
def FDB_ENT_STATIC : Fld := ⟨0x2A, 0x1000, 62, 1, .rw, false, fun _ => 0⟩
/-- R460 FDB_ENT[63], RW, reset 0. -/
def FDB_ENT_VALID : Fld := ⟨0x2A, 0x1000, 63, 1, .rw, false, fun _ => 0⟩
/-- R460 FDB_PORTS[9:0], RW, reset 0. -/
def FDB_PORTS_PORTS : Fld := ⟨0x2A, 0x1008, 0, 10, .rw, false, fun _ => 0⟩
/-- R460 FDB_AGE[15:0], RO, reset 0. -/
def FDB_AGE_AGE : Fld := ⟨0x2A, 0x100C, 0, 16, .ro, false, fun _ => 0⟩
/-- R460 GCL[23:0], RWS, reset 10000000. -/
def GCL_INTERVAL : Fld := ⟨0x2A, 0x2000, 0, 24, .rws, false, fun _ => 0x989680⟩
/-- R460 GCL[31:24], RWS, reset 255. -/
def GCL_GATES : Fld := ⟨0x2A, 0x2000, 24, 8, .rws, false, fun _ => 0xff⟩
/-- R460 SFLT_DA[47:0], RW, reset 0. -/
def SFLT_DA_DA : Fld := ⟨0x2A, 0x3000, 0, 48, .rw, false, fun _ => 0⟩
/-- R460 SFLT_DA[59:48], RW, reset 0. -/
def SFLT_DA_VID : Fld := ⟨0x2A, 0x3000, 48, 12, .rw, false, fun _ => 0⟩
/-- R460 SFLT_DA[63], RW, reset 0. -/
def SFLT_DA_EN : Fld := ⟨0x2A, 0x3000, 63, 1, .rw, false, fun _ => 0⟩
/-- R460 SFLT_MATCH[9:0], RW, reset 0. -/
def SFLT_MATCH_PORTS : Fld := ⟨0x2A, 0x3008, 0, 10, .rw, false, fun _ => 0⟩
/-- R460 SFLT_MATCH[14:12], RW, reset 0. -/
def SFLT_MATCH_PCP : Fld := ⟨0x2A, 0x3008, 12, 3, .rw, false, fun _ => 0⟩
/-- R460 SFLT_MATCH[15], RW, reset 0. -/
def SFLT_MATCH_PCPANY : Fld := ⟨0x2A, 0x3008, 15, 1, .rw, false, fun _ => 0⟩
/-- R460 SFLT_MATCH[31:16], RW, reset 2048. -/
def SFLT_MATCH_MAXSDU : Fld := ⟨0x2A, 0x3008, 16, 16, .rw, false, fun _ => 0x800⟩
/-- R460 SFLT_ACT[5:0], RW, reset 0. -/
def SFLT_ACT_METER : Fld := ⟨0x2A, 0x300C, 0, 6, .rw, false, fun _ => 0⟩
/-- R460 SFLT_ACT[6], RW, reset 0. -/
def SFLT_ACT_MEN : Fld := ⟨0x2A, 0x300C, 6, 1, .rw, false, fun _ => 0⟩
/-- R460 SFLT_ACT[7], RW, reset 1. -/
def SFLT_ACT_GATE : Fld := ⟨0x2A, 0x300C, 7, 1, .rw, false, fun _ => 1⟩
/-- R460 MTR_CIR[31:0], RW, reset 0. -/
def MTR_CIR_V : Fld := ⟨0x2A, 0x3800, 0, 32, .rw, false, fun _ => 0⟩
/-- R460 MTR_CBS[31:0], RW, reset 0. -/
def MTR_CBS_V : Fld := ⟨0x2A, 0x3804, 0, 32, .rw, false, fun _ => 0⟩
/-- R460 MTR_PASS[31:0], RO, reset 0. -/
def MTR_PASS_V : Fld := ⟨0x2A, 0x3808, 0, 32, .ro, false, fun _ => 0⟩
/-- R460 MTR_DROP[31:0], RO, reset 0. -/
def MTR_DROP_V : Fld := ⟨0x2A, 0x380C, 0, 32, .ro, false, fun _ => 0⟩
/-- R460 GPTP_ASCAP[0], RO, reset 0. -/
def GPTP_ASCAP_ASCAP : Fld := ⟨0x2A, 0x4000, 0, 1, .ro, false, fun _ => 0⟩
/-- R460 GPTP_MEANDLY[31:0], RO, reset 0. -/
def GPTP_MEANDLY_V : Fld := ⟨0x2A, 0x4004, 0, 32, .ro, false, fun _ => 0⟩
/-- R460 GPTP_RATIO[31:0], RO, reset 0. -/
def GPTP_RATIO_V : Fld := ⟨0x2A, 0x4008, 0, 32, .ro, false, fun _ => 0⟩
/-- R460 GPTP_SYNCS[31:0], RO, reset 0. -/
def GPTP_SYNCS_V : Fld := ⟨0x2A, 0x400C, 0, 32, .ro, false, fun _ => 0⟩
/-- R460 GPTP_FOREIGN[31:0], RO, reset 0. -/
def GPTP_FOREIGN_V : Fld := ⟨0x2A, 0x4010, 0, 32, .ro, false, fun _ => 0⟩
/-- R464 RIDE_ND_STAT[2:0], RO, reset 0b000. -/
def RIDE_ND_STAT_STATE : Fld := ⟨0x2B, 0x100, 0, 3, .ro, false, fun _ => 0⟩
/-- R464 RIDE_ND_STAT[6:4], RO, reset 0b000. -/
def RIDE_ND_STAT_CAUSE : Fld := ⟨0x2B, 0x100, 4, 3, .ro, false, fun _ => 0⟩
/-- R464 RIDE_ND_STAT[12:8], RO, reset 0x00. -/
def RIDE_ND_STAT_HOP : Fld := ⟨0x2B, 0x100, 8, 5, .ro, false, fun _ => 0⟩
/-- R464 RIDE_ND_STAT[17:16], RO, reset 0b00. -/
def RIDE_ND_STAT_HPORT : Fld := ⟨0x2B, 0x100, 16, 2, .ro, false, fun _ => 0⟩
/-- R464 RIDE_ND_STAT[20], RO, reset 0. -/
def RIDE_ND_STAT_STALE : Fld := ⟨0x2B, 0x100, 20, 1, .ro, false, fun _ => 0⟩
/-- R464 RIDE_ND_MISS[7:0], RO, reset 0. -/
def RIDE_ND_MISS_CONS : Fld := ⟨0x2B, 0x104, 0, 8, .ro, false, fun _ => 0⟩
/-- R464 RIDE_ND_MISS[31:16], RO, reset 0. -/
def RIDE_ND_MISS_TOTAL : Fld := ⟨0x2B, 0x104, 16, 16, .ro, false, fun _ => 0⟩
/-- R464 RIDE_ND_OCMT[0], WO, reset 0. -/
def RIDE_ND_OCMT_GO : Fld := ⟨0x2B, 0x108, 0, 1, .wo, false, fun _ => 0⟩
/-- R464 RIDE_ND_ISEQ[31:0], RO, reset 0x0000_0000. -/
def RIDE_ND_ISEQ_SEQ : Fld := ⟨0x2B, 0x10C, 0, 32, .ro, false, fun _ => 0⟩
/-- R464 RIDE_ND_ISTAMP[63:0], RO, reset 0. -/
def RIDE_ND_ISTAMP_T : Fld := ⟨0x2B, 0x110, 0, 64, .ro, false, fun _ => 0⟩
/-- R464 RIDE_ND_ASTAMP[63:0], RO, reset 0. -/
def RIDE_ND_ASTAMP_T : Fld := ⟨0x2B, 0x118, 0, 64, .ro, false, fun _ => 0⟩
/-- R464 RIDE_ND_FB[31:0], RO, reset 0x0000_0000. -/
def RIDE_ND_FB_FB : Fld := ⟨0x2B, 0x120, 0, 32, .ro, false, fun _ => 0⟩
/-- R464 RIDE_ND_OUT[31:0], RW, reset 0. -/
def RIDE_ND_OUT_W : Fld := ⟨0x2B, 0x140, 0, 32, .rw, false, fun _ => 0⟩
/-- R464 RIDE_ND_IN[31:0], RO, reset 0. -/
def RIDE_ND_IN_W : Fld := ⟨0x2B, 0x180, 0, 32, .ro, false, fun _ => 0⟩
/-- R466 RIDE_CFG[0], RWL, reset 1. -/
def RIDE_CFG_PAEN : Fld := ⟨0x2B, 0x800, 0, 1, .rwl, false, fun _ => 1⟩
/-- R466 RIDE_CFG[1], RWL, reset 1. -/
def RIDE_CFG_PBEN : Fld := ⟨0x2B, 0x800, 1, 1, .rwl, false, fun _ => 1⟩
/-- R466 RIDE_CFG[2], RWL, reset 0. -/
def RIDE_CFG_PCEN : Fld := ⟨0x2B, 0x800, 2, 1, .own, false, fun _ => 0⟩
/-- R466 RIDE_CFG[3], RWL, reset 0. -/
def RIDE_CFG_PDEN : Fld := ⟨0x2B, 0x800, 3, 1, .own, false, fun _ => 0⟩
/-- R466 RIDE_CYC[13:0], RWL, reset 0x03E8. -/
def RIDE_CYC_RCYC : Fld := ⟨0x2B, 0x804, 0, 14, .rwl, false, fun _ => 0x3e8⟩
/-- R466 RIDE_TOPO[1:0], RO, reset 0. -/
def RIDE_TOPO_KIND : Fld := ⟨0x2B, 0x808, 0, 2, .ro, false, fun _ => 0⟩
/-- R466 RIDE_TOPO[4], RO, reset 0. -/
def RIDE_TOPO_RINGBRK : Fld := ⟨0x2B, 0x808, 4, 1, .ro, false, fun _ => 0⟩
/-- R466 RIDE_TOPO[13:8], RO, reset 0. -/
def RIDE_TOPO_NNODE : Fld := ⟨0x2B, 0x808, 8, 6, .ro, false, fun _ => 0⟩
/-- R466 RIDE_TOPO[20:16], RO, reset 0. -/
def RIDE_TOPO_HMAX : Fld := ⟨0x2B, 0x808, 16, 5, .ro, false, fun _ => 0⟩
/-- R466 RIDE_RTT[15:0], RO, reset 0x0000. -/
def RIDE_RTT_LAST : Fld := ⟨0x2B, 0x80C, 0, 16, .ro, false, fun _ => 0⟩
/-- R466 RIDE_RTT[31:16], RO, reset 0x0000. -/
def RIDE_RTT_CALC : Fld := ⟨0x2B, 0x80C, 16, 16, .ro, false, fun _ => 0⟩
/-- R466 RIDE_NT_CLR[0], WO, reset 0. -/
def RIDE_NT_CLR_CLR : Fld := ⟨0x2B, 0x810, 0, 1, .wo, false, fun _ => 0⟩
/-- R466 RIDE_CYCNT[31:0], RO, reset 0x0000_0000. -/
def RIDE_CYCNT_CNT : Fld := ⟨0x2B, 0x814, 0, 32, .ro, false, fun _ => 0⟩
/-- R465 NT_SEQ[31:0], RO, reset 0. -/
def NT_SEQ_SEQ : Fld := ⟨0x2B, 0x1000, 0, 32, .ro, false, fun _ => 0⟩
/-- R465 NT_ID[2:0], RO, reset 0. -/
def NT_ID_STATE : Fld := ⟨0x2B, 0x1004, 0, 3, .ro, false, fun _ => 0⟩
/-- R465 NT_ID[15:8], RO, reset 0. -/
def NT_ID_MEMBER : Fld := ⟨0x2B, 0x1004, 8, 8, .ro, false, fun _ => 0⟩
/-- R465 NT_ID[23:16], RO, reset 0. -/
def NT_ID_STEP : Fld := ⟨0x2B, 0x1004, 16, 8, .ro, false, fun _ => 0⟩
/-- R465 NT_SERIAL[63:0], RO, reset 0. -/
def NT_SERIAL_SERIAL : Fld := ⟨0x2B, 0x1008, 0, 64, .ro, false, fun _ => 0⟩
/-- R465 NT_PATH[7:0], RO, reset 0. -/
def NT_PATH_UPNODE : Fld := ⟨0x2B, 0x1010, 0, 8, .ro, false, fun _ => 0⟩
/-- R465 NT_PATH[9:8], RO, reset 0. -/
def NT_PATH_UPPORT : Fld := ⟨0x2B, 0x1010, 8, 2, .ro, false, fun _ => 0⟩
/-- R465 NT_PATH[20:16], RO, reset 0. -/
def NT_PATH_HOP : Fld := ⟨0x2B, 0x1010, 16, 5, .ro, false, fun _ => 0⟩
/-- R465 NT_PATH[25:24], RO, reset 0. -/
def NT_PATH_HPORT : Fld := ⟨0x2B, 0x1010, 24, 2, .ro, false, fun _ => 0⟩
/-- R465 NT_LEN[7:0], RO, reset 0. -/
def NT_LEN_OUTLEN : Fld := ⟨0x2B, 0x1014, 0, 8, .ro, false, fun _ => 0⟩
/-- R465 NT_LEN[15:8], RO, reset 0. -/
def NT_LEN_INLEN : Fld := ⟨0x2B, 0x1014, 8, 8, .ro, false, fun _ => 0⟩
/-- R465 NT_FIRST[63:0], RO, reset 0. -/
def NT_FIRST_T : Fld := ⟨0x2B, 0x1018, 0, 64, .ro, false, fun _ => 0⟩
/-- R465 NT_LAST[63:0], RO, reset 0. -/
def NT_LAST_T : Fld := ⟨0x2B, 0x1020, 0, 64, .ro, false, fun _ => 0⟩
/-- R465 NT_ATT[15:0], RO, reset 0. -/
def NT_ATT_ATTCNT : Fld := ⟨0x2B, 0x1028, 0, 16, .ro, false, fun _ => 0⟩
/-- R544 UPD_SL_STAT[2:0], RO, reset from MRAM. -/
def UPD_SL_STAT_ST : Fld := ⟨0x30, 0x100, 0, 3, .ro, true, fun _ => 0⟩
/-- R544 UPD_SL_STAT[6:4], RO, reset from MRAM. -/
def UPD_SL_STAT_REASON : Fld := ⟨0x30, 0x100, 4, 3, .ro, true, fun _ => 0⟩
/-- R544 UPD_SL_STAT[23:8], RO, reset from MRAM. -/
def UPD_SL_STAT_SFMT : Fld := ⟨0x30, 0x100, 8, 16, .ro, true, fun _ => 0⟩
/-- R544 UPD_SL_STAT[31:24], RO, reset from MRAM. -/
def UPD_SL_STAT_SVN : Fld := ⟨0x30, 0x100, 24, 8, .ro, true, fun _ => 0⟩
/-- R544 UPD_SL_BUILD[63:0], RO, reset from MRAM. -/
def UPD_SL_BUILD_BUILD : Fld := ⟨0x30, 0x104, 0, 64, .ro, true, fun _ => 0⟩
/-- R544 UPD_SL_BLKS[15:0], RO, reset from MRAM. -/
def UPD_SL_BLKS_DONE : Fld := ⟨0x30, 0x10C, 0, 16, .ro, true, fun _ => 0⟩
/-- R544 UPD_SL_BLKS[31:16], RO, reset from MRAM. -/
def UPD_SL_BLKS_TOTAL : Fld := ⟨0x30, 0x10C, 16, 16, .ro, true, fun _ => 0⟩
/-- R545 UPD_CFG[0], RW, reset 0. -/
def UPD_CFG_RXEN : Fld := ⟨0x30, 0x800, 0, 1, .rw, false, fun _ => 0⟩
/-- R545 UPD_CFG[8:6], RW, reset 0b001. -/
def UPD_CFG_CSLOT : Fld := ⟨0x30, 0x800, 6, 3, .rw, false, fun _ => 1⟩
/-- R545 UPD_CFG[11:9], RW, reset 0b001. -/
def UPD_CFG_DSLOT : Fld := ⟨0x30, 0x800, 9, 3, .rw, false, fun _ => 1⟩
/-- R545 UPD_CFG[15:12], RW, reset 0x5. -/
def UPD_CFG_RUNFAIL : Fld := ⟨0x30, 0x800, 12, 4, .rw, false, fun _ => 5⟩
/-- R545 UPD_CFG[31:16], RW, reset 0x0000. -/
def UPD_CFG_CONFTO : Fld := ⟨0x30, 0x800, 16, 16, .rw, false, fun _ => 0⟩
/-- R545 UPD_STATE[0], RO, reset 0. -/
def UPD_STATE_BOOTED : Fld := ⟨0x30, 0x804, 0, 1, .ro, false, fun _ => 0⟩
/-- R545 UPD_STATE[1], RO, reset 0. -/
def UPD_STATE_TRIAL : Fld := ⟨0x30, 0x804, 1, 1, .ro, false, fun _ => 0⟩
/-- R545 UPD_STATE[6:4], RO, reset 0b000. -/
def UPD_STATE_REASON : Fld := ⟨0x30, 0x804, 4, 3, .ro, false, fun _ => 0⟩
/-- R545 UPD_STATE[8], RO, reset 0. -/
def UPD_STATE_FALLEN : Fld := ⟨0x30, 0x804, 8, 1, .ro, false, fun _ => 0⟩
/-- R545 UPD_CONFIRM[0], WO, reset 0. -/
def UPD_CONFIRM_GO : Fld := ⟨0x30, 0x808, 0, 1, .wo, false, fun _ => 0⟩
/-- R545 UPD_XFER[1:0], RO, reset 0b00. -/
def UPD_XFER_ST : Fld := ⟨0x30, 0x80C, 0, 2, .ro, false, fun _ => 0⟩
/-- R545 UPD_XFER[7:4], RO, reset 0x0. -/
def UPD_XFER_OP : Fld := ⟨0x30, 0x80C, 4, 4, .ro, false, fun _ => 0⟩
/-- R545 UPD_XFER[31:16], RO, reset 0x0000. -/
def UPD_XFER_RXDROP : Fld := ⟨0x30, 0x80C, 16, 16, .ro, false, fun _ => 0⟩
/-- R545 UPD_RUNCNT[3:0], RO, reset from MRAM. -/
def UPD_RUNCNT_CNT : Fld := ⟨0x30, 0x810, 0, 4, .ro, true, fun _ => 0⟩
/-- R545 UPD_BLK_IDX0[31:0], RW, reset 0x0000_0000. -/
def UPD_BLK_IDX0_BLOCK : Fld := ⟨0x30, 0x820, 0, 32, .rw, false, fun _ => 0⟩
/-- R545 UPD_BLK_IDX1[31:0], RW, reset 0x0000_0000. -/
def UPD_BLK_IDX1_TOTAL : Fld := ⟨0x30, 0x824, 0, 32, .rw, false, fun _ => 0⟩
/-- R545 UPD_BLK_IDX2[31:0], RW, reset 0x0000_0000. -/
def UPD_BLK_IDX2_CRC : Fld := ⟨0x30, 0x828, 0, 32, .rw, false, fun _ => 0⟩
/-- R545 UPD_BLK_GO[0], WO, reset 0. -/
def UPD_BLK_GO_GO : Fld := ⟨0x30, 0x830, 0, 1, .wo, false, fun _ => 0⟩
/-- R545 UPD_BWIN[31:0], RW, reset 0. -/
def UPD_BWIN_W : Fld := ⟨0x30, 0x1000, 0, 32, .rw, false, fun _ => 0⟩
/-- R657 MON_STAT[15:0], RO, reset 0x0000. -/
def MON_STAT_LINES : Fld := ⟨0x31, 0x800, 0, 16, .ro, false, fun _ => 0⟩
/-- R657 MON_STAT[31:16], RO, reset 0x0000. -/
def MON_STAT_ERRS : Fld := ⟨0x31, 0x800, 16, 16, .ro, false, fun _ => 0⟩
/-- R657 MON_LAST[7:0], RO, reset 0x00. -/
def MON_LAST_CMD : Fld := ⟨0x31, 0x804, 0, 8, .ro, false, fun _ => 0⟩
/-- R657 MON_LAST[31:24], RO, reset 0x00. -/
def MON_LAST_CODE : Fld := ⟨0x31, 0x804, 24, 8, .ro, false, fun _ => 0⟩
/-- R657 MON_TLAST[63:0], RO, reset 0. -/
def MON_TLAST_T : Fld := ⟨0x31, 0x808, 0, 64, .ro, false, fun _ => 0⟩

end Sys2Proof.F
end

