-- ==== Sys2Proof/Machine/RegMap.lean ====
section
/-! DEFINITION. The register map: for every slot its registers, at their offsets, with their fields (R48, R49 and the register
tables of the chapters). The generic register write (R660) and the pair accesses (R61) look registers up here. -/

namespace Sys2Proof

/-- Registers of the common first page, part 0. -/
def regsCOM0 : List Reg := [
  ⟨0x8, [], false, false, [F.COM_CTRL_EN, F.COM_CTRL_SRST, F.COM_CTRL_MODE]⟩,
  ⟨0xC, [], false, false, [F.COM_STAT_RUN, F.COM_STAT_BUSY, F.COM_STAT_CFGLOCK, F.COM_STAT_FAULT]⟩,
  ⟨0x10, [], false, false, [F.COM_IRQ_RAW_V]⟩,
  ⟨0x14, [], false, false, [F.COM_IRQ_STAT_V]⟩,
  ⟨0x18, [], false, false, [F.COM_IRQ_EN_V]⟩,
  ⟨0x1C, [], false, false, [F.COM_ERR_LOCKWR, F.COM_ERR_CHRANGE, F.COM_ERR_PRIV, F.COM_ERR_PLANE, F.COM_ERR_APPLYPEND, F.COM_ERR_UNMAP, F.COM_ERR_SIZE, F.COM_ERR_BLK, F.COM_ERR_BCODE, F.COM_ERR_BANK, F.COM_ERR_WOFF, F.COM_ERR_MORE, F.COM_ERR_VALID]⟩,
  ⟨0x20, [], false, false, [F.COM_APPLY_GO, F.COM_APPLY_CHONLY, F.COM_APPLY_PEND]⟩,
  ⟨0x24, [], false, false, [F.COM_OWNER_UCNT]⟩,
  ⟨0x30, [(4, 0x4)], false, false, [F.COM_CONE_SEL_EVT, F.COM_CONE_SEL_EN, F.COM_CONE_SEL_CMODE, F.COM_CONE_SEL_OCC, F.COM_CONE_SEL_THR]⟩,
  ⟨0x40, [(4, 0x8)], false, true, [F.COM_CONE_CNT_V, F.COM_CONE_CNT_WRAP]⟩,
  ⟨0x80, [], false, false, [F.COM_CHSEL_CH]⟩]

/-- Every register of the common first page. -/
def regsCOM : List Reg := regsCOM0

/-- Registers of SYS, part 0. -/
def regsSYS0 : List Reg := [
  ⟨0x800, [], false, false, [F.SYS_RSTC_CAUSE, F.SYS_RSTC_CNT]⟩,
  ⟨0x804, [], false, false, [F.SYS_BOOT_DONE, F.SYS_BOOT_STRAP, F.SYS_BOOT_SLOT, F.SYS_BOOT_SVN]⟩,
  ⟨0x808, [], false, false, [F.SYS_REL_PA, F.SYS_REL_PB, F.SYS_REL_DP]⟩,
  ⟨0x80C, [], false, false, [F.SYS_RSTREQ_CTL, F.SYS_RSTREQ_DATA, F.SYS_RSTREQ_MOD]⟩,
  ⟨0x810, [], false, false, [F.SYS_CPRST_CAUSE, F.SYS_CPRST_CNT]⟩,
  ⟨0x814, [], false, false, [F.SYS_DPRST_CAUSE, F.SYS_DPRST_CNT]⟩,
  ⟨0x818, [], false, false, [F.SYS_DPWD_SLOT, F.SYS_DPWD_PERIOD]⟩,
  ⟨0x820, [], false, false, [F.SYS_LSTEP_CMPA, F.SYS_LSTEP_CMPB]⟩,
  ⟨0x824, [], false, false, [F.SYS_LSTEP_INJ_INJA, F.SYS_LSTEP_INJ_INJB]⟩,
  ⟨0x828, [], false, false, [F.SYS_BOOTT_MS]⟩,
  ⟨0x1000, [], false, false, [F.SYS_STEP0_SOC, F.SYS_STEP0_PSC0, F.SYS_STEP0_PSC1]⟩,
  ⟨0x1004, [], false, false, [F.SYS_STEP1_RF0, F.SYS_STEP1_RF1, F.SYS_STEP1_RF2]⟩,
  ⟨0x1008, [], false, false, [F.SYS_STRAP_BOOT, F.SYS_STRAP_NOW]⟩]

/-- Every register of SYS. -/
def regsSYS : List Reg := regsSYS0

/-- Registers of PWR, part 0. -/
def regsPWR0 : List Reg := [
  ⟨0x800, [], false, false, [F.PWR_MODE_MODE, F.PWR_MODE_NOTICE, F.PWR_MODE_PREV, F.PWR_MODE_LADDER, F.PWR_MODE_PEND, F.PWR_MODE_PENDV]⟩,
  ⟨0x804, [], false, false, [F.PWR_SUPPLY_VSUP, F.PWR_SUPPLY_LINE, F.PWR_SUPPLY_UV, F.PWR_SUPPLY_SUPLOSS]⟩,
  ⟨0x808, [], false, false, [F.PWR_CFG_CSLOT, F.PWR_CFG_DSLOT, F.PWR_CFG_LIMP_T]⟩,
  ⟨0x80C, [], false, false, [F.PWR_KEY_KEYOFF_T, F.PWR_KEY_SHUT_T]⟩,
  ⟨0x810, [], false, false, [F.PWR_PARK_T3, F.PWR_PARK_T4]⟩,
  ⟨0x814, [], false, false, [F.PWR_TIMING_IDLET, F.PWR_TIMING_DPGRACE]⟩,
  ⟨0x818, [], false, false, [F.PWR_WAKE_CFG_CANACT, F.PWR_WAKE_CFG_RIDEACT, F.PWR_WAKE_CFG_TMRACT, F.PWR_WAKE_CFG_CANEN, F.PWR_WAKE_CFG_RIDEEN, F.PWR_WAKE_CFG_TMREN]⟩,
  ⟨0x81C, [], false, false, [F.PWR_WAKE_STAT_CAUSE]⟩,
  ⟨0x820, [], false, true, [F.PWR_ALARM_ALARM]⟩,
  ⟨0x830, [], false, false, [F.PWR_HB_KEY]⟩,
  ⟨0x834, [], false, false, [F.PWR_DEAD_FIRST_T, F.PWR_DEAD_ARMED, F.PWR_DEAD_EXPCNT]⟩,
  ⟨0x838, [], false, true, [F.PWR_HBLAST_T]⟩,
  ⟨0x1000, [(6, 0x20), (6, 0x4)], false, false, [F.PWR_PERM_C, F.PWR_PERM_D, F.PWR_PERM_G, F.PWR_PERM_AUTO]⟩]

/-- Every register of PWR. -/
def regsPWR : List Reg := regsPWR0

/-- Registers of LCS, part 0. -/
def regsLCS0 : List Reg := [
  ⟨0x800, [], false, false, [F.LCS_STATE_PEND, F.LCS_STATE_PENDV]⟩,
  ⟨0x80C, [], false, false, [F.LCS_DBG_LEVEL, F.LCS_DBG_FAILS]⟩,
  ⟨0x2000, [(12, 0x4)], false, false, [F.LCS_CHAL_W]⟩,
  ⟨0x2080, [], false, false, [F.LCS_CREQ_GO, F.LCS_CREQ_KIND, F.LCS_CREQ_TARGET, F.LCS_CREQ_KEY]⟩,
  ⟨0x2100, [(24, 0x4)], false, false, [F.LCS_RESP_W]⟩,
  ⟨0x2180, [], false, false, [F.LCS_RCMD_SUBMIT]⟩,
  ⟨0x2184, [], false, false, [F.LCS_RSTAT_ST, F.LCS_RSTAT_OK, F.LCS_RSTAT_REFUSED]⟩]

/-- Every register of LCS. -/
def regsLCS : List Reg := regsLCS0

/-- Registers of SAGR, part 0. -/
def regsSAGR0 : List Reg := [
  ⟨0x800, [], false, false, [F.SAGR_STATE_QLEN, F.SAGR_STATE_CLS, F.SAGR_STATE_BUSY, F.SAGR_STATE_DEGR, F.SAGR_STATE_STOP, F.SAGR_STATE_SAFE]⟩,
  ⟨0x804, [], false, false, [F.SAGR_CUR_SEQ_SEQ]⟩,
  ⟨0x808, [], false, false, [F.SAGR_ACK_SEQ]⟩,
  ⟨0x80C, [], false, false, [F.SAGR_RAISE_CODE, F.SAGR_RAISE_CLASS, F.SAGR_RAISE_GO]⟩,
  ⟨0x810, [(8, 0x4)], false, false, [F.SAGR_RPAY_PAY]⟩,
  ⟨0x830, [], false, false, [F.SAGR_CNT0_C0]⟩,
  ⟨0x834, [], false, false, [F.SAGR_CNT_C1, F.SAGR_CNT_C2, F.SAGR_CNT_C3]⟩,
  ⟨0x838, [], false, false, [F.SAGR_ESCCNT_CNT]⟩,
  ⟨0x83C, [], false, false, [F.SAGR_QGEN_GEN]⟩]

/-- Every register of SAGR. -/
def regsSAGR : List Reg := regsSAGR0

/-- Registers of SHRD, part 0. -/
def regsSHRD0 : List Reg := [
  ⟨0x800, [], false, false, [F.SHRD_HEAD_NEXT]⟩,
  ⟨0x804, [], false, false, [F.SHRD_HEADSEQ_SEQ]⟩,
  ⟨0x808, [], false, false, [F.SHRD_KEEP_COUNT, F.SHRD_KEEP_FULL, F.SHRD_KEEP_ON]⟩,
  ⟨0x80C, [], false, false, [F.SHRD_KEEPSEQ_SEQ]⟩,
  ⟨0x810, [], false, false, [F.SHRD_LOST_CNT]⟩,
  ⟨0x814, [], false, false, [F.SHRD_WIN_BASE, F.SHRD_WIN_MODE]⟩,
  ⟨0x818, [], false, false, [F.SHRD_CFG_DSLOT, F.SHRD_CFG_CSLOT]⟩,
  ⟨0x81C, [], false, false, [F.SHRD_FIFO_LVL, F.SHRD_FIFO_MAXLVL]⟩,
  ⟨0x820, [], false, false, [F.SHRD_BAD_CNT]⟩]

/-- Every register of SHRD. -/
def regsSHRD : List Reg := regsSHRD0

/-- Registers of KILN, part 0. -/
def regsKILN0 : List Reg := [
  ⟨0x100, [], true, false, [F.KILN_RG_CFG_DUEINT]⟩,
  ⟨0x104, [], true, false, [F.KILN_RG_STAT_RESULT, F.KILN_RG_STAT_FSTICK, F.KILN_RG_STAT_DUE, F.KILN_RG_STAT_RUNS]⟩,
  ⟨0x108, [], true, false, [F.KILN_RG_AGE_AGE]⟩,
  ⟨0x110, [], true, true, [F.KILN_RG_TLAST_T]⟩,
  ⟨0x800, [], false, false, [F.KILN_RUN_MASK, F.KILN_RUN_GO]⟩,
  ⟨0x804, [], false, false, [F.KILN_CFG_CSLOT]⟩,
  ⟨0x808, [], false, false, [F.KILN_ROADSET_MASK]⟩,
  ⟨0x80C, [], false, false, [F.KILN_STATE_ST, F.KILN_STATE_REG, F.KILN_STATE_PATS]⟩,
  ⟨0x810, [], false, false, [F.KILN_REFUSE_CAUSE]⟩,
  ⟨0x1000, [(7, 0x20)], false, true, [F.KILN_GOLD_GOLD]⟩,
  ⟨0x1008, [(7, 0x20)], false, true, [F.KILN_MISR_MISR]⟩,
  ⟨0x1010, [(7, 0x20)], false, true, [F.KILN_SEED_SEED]⟩,
  ⟨0x1018, [(7, 0x20)], false, false, [F.KILN_PATS_P]⟩,
  ⟨0x101C, [(7, 0x20)], false, false, [F.KILN_PCTL_CHKOFF]⟩]

/-- Every register of KILN. -/
def regsKILN : List Reg := regsKILN0

/-- Registers of CONE, part 0. -/
def regsCONE0 : List Reg := [
  ⟨0x800, [], false, false, [F.CONE_SWEEP_CFG_PERIOD, F.CONE_SWEEP_CFG_CLR]⟩,
  ⟨0x804, [], false, false, [F.CONE_SWEEP_GO_GO]⟩,
  ⟨0x808, [], false, false, [F.CONE_SWEEP_SEQ_SEQ]⟩,
  ⟨0x810, [], false, true, [F.CONE_SWEEP_T0_T0]⟩,
  ⟨0x1000, [(32, 0x40)], false, false, [F.CREC_SLOT, F.CREC_VALID, F.CREC_TEST, F.CREC_DOWN]⟩,
  ⟨0x1008, [(32, 0x40)], false, true, [F.CREC_STAMP_T]⟩,
  ⟨0x1010, [(32, 0x40), (4, 0x8)], false, true, [F.CREC_CNT_V, F.CREC_CNT_WRAP]⟩]

/-- Every register of CONE. -/
def regsCONE : List Reg := regsCONE0

/-- Registers of TIME, part 0. -/
def regsTIME0 : List Reg := [
  ⟨0x800, [], false, true, [F.TIME_NOW_NOW]⟩,
  ⟨0x808, [], false, false, [F.TIME_NOW_FRAC_FRAC]⟩,
  ⟨0x810, [], false, false, [F.TIME_STATE_ST, F.TIME_STATE_STEPPEND]⟩,
  ⟨0x820, [], false, false, [F.TIME_STEER_CFG_SLOT, F.TIME_STEER_CFG_SEN, F.TIME_STEER_CFG_HOLD_T]⟩,
  ⟨0x830, [], false, false, [F.TIME_OFFSET_OFFS]⟩,
  ⟨0x834, [], false, false, [F.TIME_RATE_RATE]⟩,
  ⟨0x838, [], false, false, [F.TIME_HOLDERR_ERRB]⟩,
  ⟨0x840, [], false, true, [F.TIME_SET_SETV]⟩,
  ⟨0x848, [], false, false, [F.TIME_SETGO_GO]⟩,
  ⟨0x850, [], false, false, [F.TIME_STEPCNT_CNT]⟩,
  ⟨0x860, [], false, false, [F.TIME_TRIGOUT_OE, F.TIME_TRIGOUT_POL]⟩,
  ⟨0x870, [], false, false, [F.TIME_CANREF_CHMASK, F.TIME_CANREF_PERIOD]⟩,
  ⟨0x1000, [(16, 0x20)], false, true, [F.TRIG_INST_INST]⟩,
  ⟨0x1008, [(16, 0x20)], false, false, [F.TRIG_PERIOD_PERIOD]⟩,
  ⟨0x100C, [(16, 0x20)], false, false, [F.TRIG_CFG_EN, F.TRIG_CFG_TGT, F.TRIG_CFG_IDX, F.TRIG_CFG_STEPMODE, F.TRIG_CFG_IRQ, F.TRIG_CFG_WIDTH, F.TRIG_CFG_LEAD]⟩,
  ⟨0x1010, [(16, 0x20)], false, false, [F.TRIG_COUNT_COUNT]⟩,
  ⟨0x1014, [(16, 0x20)], false, false, [F.TRIG_STAT_ARMED, F.TRIG_STAT_FIRES, F.TRIG_STAT_LATE]⟩,
  ⟨0x1018, [(16, 0x20)], false, true, [F.TRIG_LAST_LAST]⟩]

/-- Every register of TIME. -/
def regsTIME : List Reg := regsTIME0

/-- Registers of MEM, part 0. -/
def regsMEM0 : List Reg := [
  ⟨0x800, [], false, false, [F.MEM_DRAM_TRAINED, F.MEM_DRAM_SELFREF, F.MEM_DRAM_SIZE, F.MEM_DRAM_TEMP]⟩,
  ⟨0x804, [], false, false, [F.MEM_ECC_CFG_SCRUBEN, F.MEM_ECC_CFG_SCRUBP, F.MEM_ECC_CFG_CETH]⟩,
  ⟨0x808, [], false, false, [F.MEM_ECC_CNT_CE, F.MEM_ECC_CNT_UE]⟩,
  ⟨0x810, [], false, true, [F.MEM_ECC_ADDR_ADDR]⟩,
  ⟨0x818, [], false, false, [F.MEM_ECC_SRC_SRC]⟩]

/-- Every register of MEM. -/
def regsMEM : List Reg := regsMEM0

/-- Registers of IOMU, part 0. -/
def regsIOMU0 : List Reg := [
  ⟨0x800, [], false, false, [F.IOMU_TLB_HIT, F.IOMU_TLB_MISS]⟩,
  ⟨0x1000, [], false, true, [F.IOMU_CAPS_V]⟩,
  ⟨0x1008, [], false, false, [F.IOMU_FCTL_V]⟩,
  ⟨0x1010, [], false, true, [F.IOMU_DDTP_V]⟩,
  ⟨0x1018, [], false, true, [F.IOMU_CQB_V]⟩,
  ⟨0x1020, [], false, false, [F.IOMU_CQH_V]⟩,
  ⟨0x1024, [], false, false, [F.IOMU_CQT_V]⟩,
  ⟨0x1028, [], false, true, [F.IOMU_FQB_V]⟩,
  ⟨0x1030, [], false, false, [F.IOMU_FQH_V]⟩,
  ⟨0x1034, [], false, false, [F.IOMU_FQT_V]⟩,
  ⟨0x1048, [], false, false, [F.IOMU_CQCSR_CQEN, F.IOMU_CQCSR_CIE, F.IOMU_CQCSR_CQMF, F.IOMU_CQCSR_CMD_TO, F.IOMU_CQCSR_CMD_ILL, F.IOMU_CQCSR_FENCE_W_IP, F.IOMU_CQCSR_CQON]⟩,
  ⟨0x104C, [], false, false, [F.IOMU_FQCSR_FQEN, F.IOMU_FQCSR_FIE, F.IOMU_FQCSR_FQMF, F.IOMU_FQCSR_FQOF, F.IOMU_FQCSR_FQON]⟩,
  ⟨0x1054, [], false, false, [F.IOMU_IPSR_V]⟩]

/-- Every register of IOMU. -/
def regsIOMU : List Reg := regsIOMU0

/-- Registers of DMA, part 0. -/
def regsDMA0 : List Reg := [
  ⟨0x100, [], true, false, [F.DMA_CH_CFG_PRIO, F.DMA_CH_CFG_MAXOUT, F.DMA_CH_CFG_OWNER]⟩,
  ⟨0x108, [], true, true, [F.DMA_CH_DESC_DESC]⟩,
  ⟨0x110, [], true, false, [F.DMA_CH_CMD_GO, F.DMA_CH_CMD_RESUME, F.DMA_CH_CMD_SKIP, F.DMA_CH_CMD_ABORT]⟩,
  ⟨0x114, [], true, false, [F.DMA_CH_STAT_STATE, F.DMA_CH_STAT_PREEMPTED, F.DMA_CH_STAT_REFAULT, F.DMA_CH_STAT_NDESC]⟩,
  ⟨0x118, [], true, true, [F.DMA_CH_CUR_CUR]⟩,
  ⟨0x120, [], true, false, [F.DMA_CH_DONE_DONE]⟩,
  ⟨0x124, [], true, false, [F.DMA_CH_ROW_ROW]⟩,
  ⟨0x128, [], true, true, [F.DMA_CH_SRCN_SRC_NEXT]⟩,
  ⟨0x130, [], true, true, [F.DMA_CH_DSTN_DST_NEXT]⟩,
  ⟨0x138, [], true, false, [F.DMA_CH_HOLDN_HOLDN]⟩,
  ⟨0x140, [(16, 0x4)], true, false, [F.DMA_CH_HOLD_W]⟩,
  ⟨0x180, [], true, false, [F.DMA_CH_FREC_KIND, F.DMA_CH_FREC_WR, F.DMA_CH_FREC_MULTI, F.DMA_CH_FREC_CAUSE]⟩,
  ⟨0x188, [], true, true, [F.DMA_CH_FADDR_FADDR]⟩,
  ⟨0x190, [], true, true, [F.DMA_CH_FTIME_FTIME]⟩,
  ⟨0x198, [], true, false, [F.DMA_CH_FSEQ_FSEQ]⟩,
  ⟨0x1000, [(4, 0x1000)], false, false, [F.DMA_ENG_CFG_RES3]⟩,
  ⟨0x1004, [(4, 0x1000)], false, false, [F.DMA_ENG_STAT_INFLT, F.DMA_ENG_STAT_MAXINF]⟩,
  ⟨0x1008, [(4, 0x1000)], false, false, [F.DMA_ENG_FSEQ_SEQ]⟩,
  ⟨0x1010, [(4, 0x1000)], false, true, [F.DMA_ENG_BYTES_BYTES]⟩,
  ⟨0x1018, [(4, 0x1000)], false, false, [F.DMA_ENG_CLR_CLRMAX]⟩]

/-- Every register of DMA. -/
def regsDMA : List Reg := regsDMA0

/-- Registers of CLR, part 0. -/
def regsCLR0 : List Reg := [
  ⟨0x100, [], true, false, [F.CLR_SLOT_CFG_STALE_T, F.CLR_SLOT_CFG_WDR_T]⟩,
  ⟨0x104, [], true, false, [F.CLR_SLOT_STAT_AGE, F.CLR_SLOT_STAT_STALECNT, F.CLR_SLOT_STAT_WRITER, F.CLR_SLOT_STAT_READER]⟩,
  ⟨0x800, [(352, 0x4)], false, false, [F.CLR_HDR_GEN, F.CLR_HDR_STALE, F.CLR_HDR_WDRN, F.CLR_HDR_LIVE, F.CLR_HDR_SEQ]⟩,
  ⟨0xE00, [], false, false, [F.CLR_COMMIT_SLOT]⟩,
  ⟨0xE04, [], false, false, [F.CLR_PLANE_CTLUP, F.CLR_PLANE_DATAUP, F.CLR_PLANE_MGTUP]⟩,
  ⟨0xE08, [], false, false, [F.CLR_VIOL_SLOT, F.CLR_VIOL_KIND, F.CLR_VIOL_PLANE, F.CLR_VIOL_VALID]⟩]

/-- Every register of CLR. -/
def regsCLR : List Reg := regsCLR0

/-- Registers of GNRF, part 0. -/
def regsGNRF0 : List Reg := [
  ⟨0x100, [], true, false, [F.GNRF_ANT_CFG_BIASEN, F.GNRF_ANT_CFG_VSEL, F.GNRF_ANT_CFG_OPEN_TH, F.GNRF_ANT_CFG_RETRY]⟩,
  ⟨0x104, [], true, false, [F.GNRF_ANT_STAT_STATE, F.GNRF_ANT_STAT_IBIAS, F.GNRF_ANT_STAT_RETRYCNT]⟩,
  ⟨0x800, [], false, false, [F.GNRF_LINK_LOCK, F.GNRF_LINK_CALDONE]⟩,
  ⟨0x804, [], false, false, [F.GNRF_LINKERR_CNT]⟩,
  ⟨0x1000, [(9, 0x80)], false, false, [F.GNRF_PATH_CFG_EN, F.GNRF_PATH_CFG_BMODE, F.GNRF_PATH_CFG_AGCMODE]⟩,
  ⟨0x1004, [(9, 0x80)], false, false, [F.GNRF_AGC_CFG_TARGET, F.GNRF_AGC_CFG_MANGAIN]⟩,
  ⟨0x1008, [(9, 0x80)], false, false, [F.GNRF_AGC_STAT_GAIN, F.GNRF_AGC_STAT_SATCNT, F.GNRF_AGC_STAT_RMS]⟩,
  ⟨0x100C, [(9, 0x80)], false, false, [F.GNRF_SPEC_STAT_NF, F.GNRF_SPEC_STAT_PEAKDB]⟩,
  ⟨0x1040, [(9, 0x80), (4, 0x10)], false, false, [F.GNRF_NOTCH_CFG_MODE, F.GNRF_NOTCH_CFG_BW, F.GNRF_NOTCH_CFG_DETTH]⟩,
  ⟨0x1044, [(9, 0x80), (4, 0x10)], false, false, [F.GNRF_NOTCH_FREQ_FREQ]⟩,
  ⟨0x1048, [(9, 0x80), (4, 0x10)], false, false, [F.GNRF_NOTCH_STAT_ATTEN, F.GNRF_NOTCH_STAT_ACTIVE]⟩,
  ⟨0x104C, [(9, 0x80), (4, 0x10)], false, false, [F.GNRF_NOTCH_FNOW_FNOW]⟩]

/-- Every register of GNRF. -/
def regsGNRF : List Reg := regsGNRF0

/-- Registers of GNAQ, part 0. -/
def regsGNAQ0 : List Reg := [
  ⟨0x100, [], true, false, [F.GNAQ_ENG_CTRL_GO, F.GNAQ_ENG_CTRL_ABORT, F.GNAQ_ENG_CTRL_START, F.GNAQ_ENG_CTRL_LOOP]⟩,
  ⟨0x104, [], true, false, [F.GNAQ_ENG_STAT_STATE, F.GNAQ_ENG_STAT_ENTRY, F.GNAQ_ENG_STAT_BIN, F.GNAQ_ENG_STAT_WIN]⟩,
  ⟨0x108, [], true, false, [F.GNAQ_ENG_CFG_EARLY, F.GNAQ_ENG_CFG_DETTH]⟩,
  ⟨0x110, [], true, true, [F.GNAQ_ENG_SNAP_BASE]⟩,
  ⟨0x118, [], true, false, [F.GNAQ_ENG_SNAP_SIZE_SIZE]⟩,
  ⟨0x11C, [], true, false, [F.GNAQ_ENG_DONE_CNT]⟩,
  ⟨0x1000, [(3, 0x1000), (128, 0x20)], false, false, [F.ENT_CFG0_SIG, F.ENT_CFG0_ANT, F.ENT_CFG0_PRN, F.ENT_CFG0_GLOK, F.ENT_CFG0_REUSE, F.ENT_CFG0_IRQ, F.ENT_CFG0_LAST, F.ENT_CFG0_EN]⟩,
  ⟨0x1004, [(3, 0x1000), (128, 0x20)], false, false, [F.ENT_CFG1_TCOH, F.ENT_CFG1_NNC, F.ENT_CFG1_NWIN, F.ENT_CFG1_WBASE]⟩,
  ⟨0x1008, [(3, 0x1000), (128, 0x20)], false, false, [F.ENT_FDC_FDC]⟩,
  ⟨0x100C, [(3, 0x1000), (128, 0x20)], false, false, [F.ENT_DOP_STEP, F.ENT_DOP_NBIN]⟩,
  ⟨0x1010, [(3, 0x1000), (128, 0x20)], false, false, [F.ENT_PEAK_PEAK]⟩,
  ⟨0x1014, [(3, 0x1000), (128, 0x20)], false, false, [F.ENT_CPH_CPH, F.ENT_CPH_BIN]⟩,
  ⟨0x1018, [(3, 0x1000), (128, 0x20)], false, false, [F.ENT_RES_RATIO, F.ENT_RES_FLAGS, F.ENT_RES_STATUS]⟩,
  ⟨0x101C, [(3, 0x1000), (128, 0x20)], false, false, [F.ENT_T0_T0]⟩]

/-- Every register of GNAQ. -/
def regsGNAQ : List Reg := regsGNAQ0

/-- Registers of GNTK, part 0. -/
def regsGNTK0 : List Reg := [
  ⟨0x100, [], true, false, [F.GNTK_CH_CFG_EN, F.GNTK_CH_CFG_NAV, F.GNTK_CH_CFG_ANT, F.GNTK_CH_CFG_GLOK, F.GNTK_CH_CFG_SIG, F.GNTK_CH_CFG_PRN]⟩,
  ⟨0x104, [], true, false, [F.GNTK_CH_INIT_DOP_DOP]⟩,
  ⟨0x108, [], true, false, [F.GNTK_CH_INIT_CPH_CPH]⟩,
  ⟨0x10C, [], true, false, [F.GNTK_CH_INIT_T0_T0]⟩,
  ⟨0x110, [], true, false, [F.GNTK_CH_TAPS_ELSP, F.GNTK_CH_TAPS_VESP, F.GNTK_CH_TAPS_MPOFF]⟩,
  ⟨0x114, [], true, false, [F.GNTK_CH_LOOP_TINT, F.GNTK_CH_LOOP_DLLORD, F.GNTK_CH_LOOP_PLLORD, F.GNTK_CH_LOOP_FLLORD, F.GNTK_CH_LOOP_AID]⟩,
  ⟨0x118, [], true, false, [F.GNTK_CH_BW_DLLBW, F.GNTK_CH_BW_FLLBW, F.GNTK_CH_BW_PLLBW]⟩,
  ⟨0x11C, [], true, false, [F.GNTK_CH_THR_LOSSTH, F.GNTK_CH_THR_COAST_T]⟩,
  ⟨0x120, [], true, false, [F.GNTK_CH_STAT_PLI, F.GNTK_CH_STAT_AMB, F.GNTK_CH_STAT_STATE, F.GNTK_CH_STAT_CN0, F.GNTK_CH_STAT_LCAUSE]⟩,
  ⟨0x124, [], true, false, [F.GNTK_CH_HC_RESOLVE, F.GNTK_CH_HC_INV]⟩,
  ⟨0x128, [], true, false, [F.GNTK_CH_TOW_MS, F.GNTK_CH_TOW_EPSEQ]⟩,
  ⟨0x12C, [], true, false, [F.GNTK_CH_SLIPS_CNT]⟩,
  ⟨0x800, [], false, false, [F.GNTK_EPOCH_CFG_EPER]⟩,
  ⟨0x804, [], false, false, [F.GNTK_EPSEQ_SEQ]⟩,
  ⟨0x808, [], false, true, [F.GNTK_RING_BASE]⟩,
  ⟨0x810, [], false, false, [F.GNTK_RING_CFG_NEP]⟩,
  ⟨0x814, [], false, false, [F.GNTK_RING_WR_WR]⟩,
  ⟨0x818, [], false, false, [F.GNTK_RING_RD_RD]⟩,
  ⟨0x81C, [], false, false, [F.GNTK_EPDROP_CNT]⟩,
  ⟨0x820, [], false, true, [F.GNTK_NAV_BASE]⟩]

/-- Registers of GNTK, part 1. -/
def regsGNTK1 : List Reg := [
  ⟨0x828, [], false, false, [F.GNTK_NAV_CFG_SIZE]⟩,
  ⟨0x82C, [], false, false, [F.GNTK_NAV_WR_IDX]⟩,
  ⟨0x830, [], false, false, [F.GNTK_NAV_RD_IDX]⟩,
  ⟨0x834, [], false, false, [F.GNTK_NAVDROP_CNT]⟩,
  ⟨0x840, [(8, 0x4)], false, false, [F.GNTK_COPY_CH, F.GNTK_COPY_SLOT, F.GNTK_COPY_EN]⟩,
  ⟨0x860, [], false, false, [F.GNTK_XF_CFG_XF_TH, F.GNTK_XF_CFG_XF_ABS, F.GNTK_XF_CFG_CCD_TH, F.GNTK_XF_CFG_CCD_WIN]⟩,
  ⟨0x864, [], false, false, [F.GNTK_CJ_CFG_CJ_TH, F.GNTK_CJ_CFG_SJ_TH, F.GNTK_CJ_CFG_CJ_MIN, F.GNTK_CJ_CFG_CN0_MAX]⟩,
  ⟨0x868, [], false, false, [F.GNTK_FLAT_CFG_FLAT_SD, F.GNTK_FLAT_CFG_FLAT_N]⟩,
  ⟨0x86C, [], false, false, [F.GNTK_JAM_CFG_JAM_NF, F.GNTK_JAM_CFG_JAM_G, F.GNTK_JAM_CFG_LEARN]⟩,
  ⟨0x870, [(9, 0x4)], false, false, [F.GNTK_JAM_REF_NFREF, F.GNTK_JAM_REF_GREF]⟩,
  ⟨0x8A0, [], false, false, [F.GNTK_INTF_JAM, F.GNTK_INTF_CJUMP, F.GNTK_INTF_CN0FLAT]⟩,
  ⟨0x8A4, [], false, false, [F.GNTK_CLKRES_RES]⟩,
  ⟨0x8B0, [], false, false, [F.GNTK_GUARD_CFG_SLOT, F.GNTK_GUARD_CFG_EN, F.GNTK_GUARD_CFG_EGOREQ, F.GNTK_GUARD_CFG_CNT_BAD, F.GNTK_GUARD_CFG_CNT_GOOD]⟩,
  ⟨0x8B4, [], false, false, [F.GNTK_GUARD_TH_SPD_TH, F.GNTK_GUARD_TH_SPD_REL, F.GNTK_GUARD_TH_YAW_TH]⟩,
  ⟨0x8B8, [], false, false, [F.GNTK_PVT_SPD_SPD, F.GNTK_PVT_SPD_EPSEQ]⟩,
  ⟨0x8BC, [], false, false, [F.GNTK_PVT_YAW_RATE, F.GNTK_PVT_YAW_VALID, F.GNTK_PVT_YAW_SG]⟩,
  ⟨0x8C0, [], false, false, [F.GNTK_GUARD_STAT_SGV, F.GNTK_GUARD_STAT_CONTRA, F.GNTK_GUARD_STAT_PVTOK, F.GNTK_GUARD_STAT_EGOOK, F.GNTK_GUARD_STAT_DSPD]⟩,
  ⟨0x8C4, [], false, false, [F.GNTK_GUARD_CMD_REARM]⟩]

/-- Every register of GNTK. -/
def regsGNTK : List Reg := regsGNTK0 ++ regsGNTK1

/-- Registers of GNTP, part 0. -/
def regsGNTP0 : List Reg := [
  ⟨0x800, [], false, false, [F.GNTP_CFG_ANTCOMP, F.GNTP_CFG_REFANT, F.GNTP_CFG_POL, F.GNTP_CFG_GATE]⟩,
  ⟨0x804, [], false, false, [F.GNTP_PERIOD_PERIOD]⟩,
  ⟨0x808, [], false, false, [F.GNTP_WIDTH_WIDTH]⟩,
  ⟨0x80C, [], false, false, [F.GNTP_GATEERR_ERRB]⟩,
  ⟨0x810, [(3, 0x4)], false, false, [F.GNTP_ANTDLY_DLY]⟩,
  ⟨0x81C, [], false, false, [F.GNTP_OUTDLY_DLY]⟩,
  ⟨0x820, [], false, true, [F.GNTP_LAST_INST]⟩,
  ⟨0x828, [], false, false, [F.GNTP_PSTAT_LOCK, F.GNTP_PSTAT_SLEW, F.GNTP_PSTAT_HOLD, F.GNTP_PSTAT_STEP, F.GNTP_PSTAT_UNSET, F.GNTP_PSTAT_GATED, F.GNTP_PSTAT_HOLDERR]⟩]

/-- Every register of GNTP. -/
def regsGNTP : List Reg := regsGNTP0

/-- Registers of CNPY, part 0. -/
def regsCNPY0 : List Reg := [
  ⟨0x100, [], true, false, [F.CNPY_SEN_CFG_EN, F.CNPY_SEN_CFG_FUSE, F.CNPY_SEN_CFG_TYPE, F.CNPY_SEN_CFG_PIXFMT, F.CNPY_SEN_CFG_DEPTH, F.CNPY_SEN_CFG_ALPHA, F.CNPY_SEN_CFG_REF]⟩,
  ⟨0x104, [], true, false, [F.CNPY_SEN_TIME_FPER, F.CNPY_SEN_TIME_LAT]⟩,
  ⟨0x108, [], true, true, [F.CNPY_SEN_RING_BASE]⟩,
  ⟨0x110, [], true, false, [F.CNPY_SEN_RING_NBUF, F.CNPY_SEN_RING_BUFSZ]⟩,
  ⟨0x114, [], true, false, [F.CNPY_SEN_FMAP_FW, F.CNPY_SEN_FMAP_FH, F.CNPY_SEN_FMAP_FC]⟩,
  ⟨0x118, [], true, false, [F.CNPY_SEN_FMAP2_FSTEP, F.CNPY_SEN_FMAP2_CHBASE]⟩,
  ⟨0x11C, [], true, false, [F.CNPY_SEN_STAT_STATE, F.CNPY_SEN_STAT_CAUSE, F.CNPY_SEN_STAT_INSTEP, F.CNPY_SEN_STAT_OUTCNT]⟩,
  ⟨0x120, [], true, false, [F.CNPY_SEN_OFFS_OFFS]⟩,
  ⟨0x124, [], true, false, [F.CNPY_SEN_CNT_BADOFF, F.CNPY_SEN_CNT_LATE]⟩,
  ⟨0x128, [], true, false, [F.CNPY_SEN_CMD_RECHECK]⟩,
  ⟨0x12C, [], true, false, [F.CNPY_SEN_BANK_ACT, F.CNPY_SEN_BANK_PEND]⟩,
  ⟨0x130, [], true, false, [F.CNPY_SEN_CHK_SCORE, F.CNPY_SEN_CHK_OVL]⟩,
  ⟨0x134, [], true, false, [F.CNPY_SEN_POST_BUF]⟩,
  ⟨0x800, [], false, false, [F.CNPY_GRID_CFG_GPER, F.CNPY_GRID_CFG_GLAG]⟩,
  ⟨0x808, [], false, true, [F.CNPY_GRID_BASE]⟩,
  ⟨0x810, [], false, true, [F.CNPY_HDR_BASE]⟩,
  ⟨0x818, [], false, false, [F.CNPY_HDR_CFG_NHDR]⟩,
  ⟨0x81C, [], false, false, [F.CNPY_GSEQ_SEQ]⟩,
  ⟨0x820, [], false, false, [F.CNPY_ORG_ORGX, F.CNPY_ORG_ORGY]⟩,
  ⟨0x824, [], false, false, [F.CNPY_EXCL_MASK]⟩]

/-- Registers of CNPY, part 1. -/
def regsCNPY1 : List Reg := [
  ⟨0x830, [], false, false, [F.CNPY_CONT_CFG_CONT_TH, F.CNPY_CONT_CFG_CMPCH, F.CNPY_CONT_CFG_CONF_MIN, F.CNPY_CONT_CFG_CONT_CLR]⟩,
  ⟨0x840, [], false, false, [F.CNPY_RES_CFG_EN, F.CNPY_RES_CFG_NACC]⟩,
  ⟨0x850, [], false, false, [F.CNPY_SWAP_MASK]⟩,
  ⟨0x860, [], false, false, [F.CNPY_HP_CTRL_GO, F.CNPY_HP_CTRL_BANK, F.CNPY_HP_CTRL_DST, F.CNPY_HP_CTRL_SRC, F.CNPY_HP_CTRL_DBUF, F.CNPY_HP_CTRL_SBUF]⟩,
  ⟨0x868, [], false, true, [F.CNPY_HP_OUT_BASE]⟩,
  ⟨0x870, [], false, false, [F.CNPY_HP_STAT_ST, F.CNPY_HP_STAT_SCORE, F.CNPY_HP_STAT_OVL]⟩,
  ⟨0x874, [], false, false, [F.CNPY_CHK_CFG_CHK_TH]⟩,
  ⟨0x880, [], false, false, [F.CNPY_CLEAR_GO]⟩,
  ⟨0x884, [], false, false, [F.CNPY_UPDSTAT_DUR, F.CNPY_UPDSTAT_OVR]⟩,
  ⟨0x1000, [(2, 0x1000), (8, 0x80)], false, false, [F.CAL_FX_V]⟩,
  ⟨0x1004, [(2, 0x1000), (8, 0x80)], false, false, [F.CAL_FY_V]⟩,
  ⟨0x1008, [(2, 0x1000), (8, 0x80)], false, false, [F.CAL_CX_V]⟩,
  ⟨0x100C, [(2, 0x1000), (8, 0x80)], false, false, [F.CAL_CY_V]⟩,
  ⟨0x1010, [(2, 0x1000), (8, 0x80)], false, false, [F.CAL_K1_V]⟩,
  ⟨0x1014, [(2, 0x1000), (8, 0x80)], false, false, [F.CAL_K2_V]⟩,
  ⟨0x1018, [(2, 0x1000), (8, 0x80)], false, false, [F.CAL_K3_V]⟩,
  ⟨0x101C, [(2, 0x1000), (8, 0x80)], false, false, [F.CAL_P1_V]⟩,
  ⟨0x1020, [(2, 0x1000), (8, 0x80)], false, false, [F.CAL_P2_V]⟩,
  ⟨0x1024, [(2, 0x1000), (8, 0x80), (9, 0x4)], false, false, [F.CAL_ROT_V]⟩,
  ⟨0x1048, [(2, 0x1000), (8, 0x80)], false, false, [F.CAL_TX_V]⟩]

/-- Registers of CNPY, part 2. -/
def regsCNPY2 : List Reg := [
  ⟨0x104C, [(2, 0x1000), (8, 0x80)], false, false, [F.CAL_TY_V]⟩,
  ⟨0x1050, [(2, 0x1000), (8, 0x80)], false, false, [F.CAL_TZ_V]⟩,
  ⟨0x1054, [(2, 0x1000), (8, 0x80)], false, false, [F.CAL_SIZE_W, F.CAL_SIZE_H]⟩,
  ⟨0x1400, [(2, 0x1000)], false, false, [F.CAL_ZG_V]⟩,
  ⟨0x3000, [(8, 0x40)], false, false, [F.CRES_SEQ_V]⟩,
  ⟨0x3004, [(8, 0x40)], false, false, [F.CRES_INFO_V]⟩,
  ⟨0x3008, [(8, 0x40)], false, false, [F.CRES_DROLL_V]⟩,
  ⟨0x300C, [(8, 0x40)], false, false, [F.CRES_DPITCH_V]⟩,
  ⟨0x3010, [(8, 0x40)], false, false, [F.CRES_DYAW_V]⟩,
  ⟨0x3014, [(8, 0x40)], false, false, [F.CRES_DX_V]⟩,
  ⟨0x3018, [(8, 0x40)], false, false, [F.CRES_DY_V]⟩,
  ⟨0x301C, [(8, 0x40)], false, false, [F.CRES_DZ_V]⟩,
  ⟨0x3020, [(8, 0x40)], false, false, [F.CRES_TK_V]⟩]

/-- Every register of CNPY. -/
def regsCNPY : List Reg := regsCNPY0 ++ regsCNPY1 ++ regsCNPY2

/-- Registers of EGO, part 0. -/
def regsEGO0 : List Reg := [
  ⟨0x800, [], false, false, [F.EGO_CFG_WMASK, F.EGO_CFG_MAXAGE, F.EGO_CFG_SLOT]⟩,
  ⟨0x804, [], false, false, [F.EGO_WSCALE_SCALE]⟩,
  ⟨0x808, [], false, false, [F.EGO_IMU_CFG_ARANGE, F.EGO_IMU_CFG_GRANGE]⟩,
  ⟨0x80C, [], false, false, [F.EGO_SLIP_CFG_TC, F.EGO_SLIP_CFG_HOLD_T]⟩,
  ⟨0x810, [], false, false, [F.EGO_CMD_RESET]⟩,
  ⟨0x814, [], false, false, [F.EGO_STAT_VALID, F.EGO_STAT_IMUOK, F.EGO_STAT_WHLOK, F.EGO_STAT_BRIDGE, F.EGO_STAT_STILL, F.EGO_STAT_SLIPHOLD, F.EGO_STAT_SLIPUNK, F.EGO_STAT_RSTCNT]⟩,
  ⟨0x818, [], false, false, [F.EGO_STEPSEQ_SEQ]⟩,
  ⟨0x820, [], false, false, [F.EGO_X_POS]⟩,
  ⟨0x824, [], false, false, [F.EGO_Y_POS]⟩,
  ⟨0x828, [], false, false, [F.EGO_YAW_YAW]⟩,
  ⟨0x82C, [], false, false, [F.EGO_ATT_ROLL, F.EGO_ATT_PITCH]⟩,
  ⟨0x830, [], false, false, [F.EGO_SPEED_V]⟩,
  ⟨0x834, [], false, false, [F.EGO_YAWRATE_W]⟩,
  ⟨0x838, [], false, true, [F.EGO_DIST_DIST]⟩,
  ⟨0x840, [], false, false, [F.EGO_SLIP_SLIP]⟩,
  ⟨0x844, [], false, false, [F.EGO_GBIAS_BIAS]⟩,
  ⟨0x850, [(9, 0x4)], false, false, [F.EGO_IMU_ROT_ROT]⟩,
  ⟨0x880, [], false, true, [F.EGO_RING_BASE]⟩,
  ⟨0x888, [], false, false, [F.EGO_RING_CFG_SIZE]⟩,
  ⟨0x88C, [], false, false, [F.EGO_RING_WR_IDX]⟩]

/-- Every register of EGO. -/
def regsEGO : List Reg := regsEGO0

/-- Registers of NPU, part 0. -/
def regsNPU0 : List Reg := [
  ⟨0x800, [], false, false, [F.NPU_RUNJOB_JOB, F.NPU_RUNJOB_RUNNING]⟩,
  ⟨0x804, [], false, false, [F.NPU_UTIL_UTIL]⟩,
  ⟨0x808, [], false, false, [F.NPU_ABORT_ABORT]⟩,
  ⟨0x1000, [(64, 0x40)], false, false, [F.JOB_CFG_EN, F.JOB_CFG_GO, F.JOB_CFG_IRQ, F.JOB_CFG_HAND, F.JOB_CFG_PRIO, F.JOB_CFG_TRIG, F.JOB_CFG_LIMIT]⟩,
  ⟨0x1008, [(64, 0x40)], false, true, [F.JOB_PROG_PROG]⟩,
  ⟨0x1010, [(64, 0x40)], false, true, [F.JOB_ARGS_ARGS]⟩,
  ⟨0x1018, [(64, 0x40)], false, false, [F.JOB_STAT_STATE, F.JOB_STAT_ERRC, F.JOB_STAT_SKIP]⟩,
  ⟨0x101C, [(64, 0x40)], false, false, [F.JOB_RUNS_RUNS]⟩,
  ⟨0x1020, [(64, 0x40)], false, true, [F.JOB_TSTART_T]⟩,
  ⟨0x1028, [(64, 0x40)], false, true, [F.JOB_TEND_T]⟩,
  ⟨0x1030, [(64, 0x40)], false, true, [F.JOB_STAMP_STAMP]⟩]

/-- Every register of NPU. -/
def regsNPU : List Reg := regsNPU0

/-- Registers of CROP, part 0. -/
def regsCROP0 : List Reg := [
  ⟨0x800, [], false, false, [F.CROP_GEOM_CBX, F.CROP_GEOM_HDRW, F.CROP_GEOM_HDRY]⟩,
  ⟨0x804, [], false, false, [F.CROP_SAMP_NEAR, F.CROP_SAMP_FAR, F.CROP_SAMP_DENCH, F.CROP_SAMP_CURVE]⟩,
  ⟨0x808, [], false, false, [F.CROP_QUAL_MINCOV]⟩,
  ⟨0x80C, [], false, false, [F.CROP_FEED_TFEED]⟩,
  ⟨0x810, [], false, false, [F.CROP_FSPD_FSPDNOM]⟩,
  ⟨0x814, [], false, false, [F.CROP_FLOW_SLOT, F.CROP_FLOW_MAXAGE]⟩,
  ⟨0x818, [], false, false, [F.CROP_YCFG_YPER, F.CROP_YCFG_TRANS]⟩,
  ⟨0x820, [], false, true, [F.CROP_YRING_BASE]⟩,
  ⟨0x828, [], false, false, [F.CROP_YRING_CFG_SIZE]⟩,
  ⟨0x82C, [], false, false, [F.CROP_YRING_WR_IDX]⟩,
  ⟨0x830, [], false, false, [F.CROP_YRING_RD_IDX]⟩,
  ⟨0x834, [], false, false, [F.CROP_YDROP_CNT]⟩,
  ⟨0x840, [], false, false, [F.CROP_XMAX_IDX]⟩,
  ⟨0x844, [], false, false, [F.CROP_LSEQ_SEQ]⟩,
  ⟨0x848, [], false, false, [F.CROP_LWIN_BASE]⟩,
  ⟨0x850, [], false, false, [F.CROP_STATE_EGOOK, F.CROP_STATE_FLOWOK, F.CROP_STATE_GRIDOK, F.CROP_STATE_QFULL, F.CROP_STATE_NPAR]⟩,
  ⟨0x860, [], false, false, [F.CROP_CLEAR_LINE, F.CROP_CLEAR_STAGE]⟩,
  ⟨0x864, [], false, false, [F.CROP_YSEQ_SEQ]⟩,
  ⟨0x1000, [(16, 0x20)], false, false, [F.TAP_CFG_EN, F.TAP_CFG_KIND, F.TAP_CFG_PER, F.TAP_CFG_SLOT, F.TAP_CFG_FBK]⟩,
  ⟨0x1004, [(16, 0x20)], false, false, [F.TAP_LEAD_LEAD, F.TAP_LEAD_WIN]⟩]

/-- Registers of CROP, part 1. -/
def regsCROP1 : List Reg := [
  ⟨0x1008, [(16, 0x20)], false, false, [F.TAP_OUT_VALUE]⟩,
  ⟨0x100C, [(16, 0x20)], false, false, [F.TAP_STAT_FLAGS, F.TAP_STAT_COMMITS]⟩,
  ⟨0x2000, [(1024, 0x4)], false, false, [F.CELL_MASS, F.CELL_CONF, F.CELL_NOLA, F.CELL_FROZEN, F.CELL_CONT, F.CELL_VALID, F.CELL_COVER]⟩]

/-- Every register of CROP. -/
def regsCROP : List Reg := regsCROP0 ++ regsCROP1

/-- Registers of WHL, part 0. -/
def regsWHL0 : List Reg := [
  ⟨0x100, [], true, false, [F.WHL_LP_CFG_EN, F.WHL_LP_CFG_MODE, F.WHL_LP_CFG_IDLEMODE, F.WHL_LP_CFG_ISWAP, F.WHL_LP_CFG_DMODE, F.WHL_LP_CFG_FRSGN, F.WHL_LP_CFG_FRON, F.WHL_LP_CFG_COGON, F.WHL_LP_CFG_ROADBAR, F.WHL_LP_CFG_FBMASK]⟩,
  ⟨0x104, [], true, false, [F.WHL_LP_PERIOD_PERIOD]⟩,
  ⟨0x108, [], true, false, [F.WHL_LP_PHASE_PHASE]⟩,
  ⟨0x10C, [], true, false, [F.WHL_LP_SAFESP_SAFESP]⟩,
  ⟨0x110, [], true, false, [F.WHL_LP_SAFEOUT_SAFEOUT]⟩,
  ⟨0x114, [], true, false, [F.WHL_LP_CONFTH_CONFTH]⟩,
  ⟨0x118, [], true, false, [F.WHL_LP_PUB_DIV, F.WHL_LP_PUB_SLOT, F.WHL_LP_PUB_EN]⟩,
  ⟨0x120, [], true, false, [F.WHL_LP_FB_CFG_BYTE, F.WHL_LP_FB_CFG_W32, F.WHL_LP_FB_CFG_CANCH, F.WHL_LP_FB_CFG_ID, F.WHL_LP_FB_CFG_KIND]⟩,
  ⟨0x124, [], true, false, [F.WHL_LP_FB_SCALE_SCALE]⟩,
  ⟨0x128, [], true, false, [F.WHL_LP_FB_OFFS_OFFS]⟩,
  ⟨0x130, [], true, false, [F.WHL_LP_DST_BYTE, F.WHL_LP_DST_W32, F.WHL_LP_DST_CANCH, F.WHL_LP_DST_ID, F.WHL_LP_DST_KIND]⟩,
  ⟨0x134, [], true, false, [F.WHL_LP_DST2_CANDIV]⟩,
  ⟨0x138, [], true, false, [F.WHL_LP_FFX_SLOT, F.WHL_LP_FFX_EN]⟩,
  ⟨0x140, [(2, 0x40)], true, false, [F.BANK_KP_V]⟩,
  ⟨0x144, [(2, 0x40)], true, false, [F.BANK_KI_V]⟩,
  ⟨0x148, [(2, 0x40)], true, false, [F.BANK_KD_V]⟩,
  ⟨0x14C, [(2, 0x40)], true, false, [F.BANK_KB_V]⟩,
  ⟨0x150, [(2, 0x40)], true, false, [F.BANK_KFF_V]⟩,
  ⟨0x154, [(2, 0x40)], true, false, [F.BANK_KX_V]⟩,
  ⟨0x158, [(2, 0x40)], true, false, [F.BANK_DF_V]⟩]

/-- Registers of WHL, part 1. -/
def regsWHL1 : List Reg := [
  ⟨0x15C, [(2, 0x40)], true, false, [F.BANK_RLIM_V]⟩,
  ⟨0x160, [(2, 0x40)], true, false, [F.BANK_UMIN_V]⟩,
  ⟨0x164, [(2, 0x40)], true, false, [F.BANK_UMAX_V]⟩,
  ⟨0x1C0, [], true, false, [F.WHL_LP_FRIX_CFG_CH, F.WHL_LP_FRIX_CFG_SRC]⟩,
  ⟨0x1C4, [], true, false, [F.WHL_LP_FRIX_SCALE_SCALE]⟩,
  ⟨0x1C8, [], true, false, [F.WHL_LP_FRIX_OFFS_OFFS]⟩,
  ⟨0x1D0, [], true, false, [F.WHL_LP_COGX_CFG_CH, F.WHL_LP_COGX_CFG_SRC]⟩,
  ⟨0x1D4, [], true, false, [F.WHL_LP_COGX_SCALE_SCALE]⟩,
  ⟨0x1D8, [], true, false, [F.WHL_LP_COGX_OFFS_OFFS]⟩,
  ⟨0x200, [(4, 0x20)], true, false, [F.PORT_CFG_BYTE, F.PORT_CFG_W32, F.PORT_CFG_CANCH, F.PORT_CFG_ID, F.PORT_CFG_KIND, F.PORT_CFG_RANK, F.PORT_CFG_EN]⟩,
  ⟨0x204, [(4, 0x20)], true, false, [F.PORT_SCALE_SCALE]⟩,
  ⟨0x208, [(4, 0x20)], true, false, [F.PORT_OFFS_OFFS]⟩,
  ⟨0x20C, [(4, 0x20)], true, false, [F.PORT_NEUT_NEUT]⟩,
  ⟨0x210, [(4, 0x20)], true, false, [F.PORT_DB_DB]⟩,
  ⟨0x214, [(4, 0x20)], true, false, [F.PORT_MSGT_MSGT]⟩,
  ⟨0x218, [(4, 0x20)], true, false, [F.PORT_VAL_VAL]⟩,
  ⟨0x21C, [(4, 0x20)], true, false, [F.PORT_STAT_PRES, F.PORT_STAT_HELD, F.PORT_STAT_WDRN, F.PORT_STAT_GUARDED, F.PORT_STAT_LAPSED]⟩,
  ⟨0x300, [], true, false, [F.WHL_LP_STAT_STATE, F.WHL_LP_STAT_CONFLICT, F.WHL_LP_STAT_SAT, F.WHL_LP_STAT_XWDRN, F.WHL_LP_STAT_ACT, F.WHL_LP_STAT_PEND, F.WHL_LP_STAT_WPORT, F.WHL_LP_STAT_WRANK]⟩,
  ⟨0x304, [], true, false, [F.WHL_LP_R_VAL]⟩,
  ⟨0x308, [], true, false, [F.WHL_LP_Y_VAL]⟩]

/-- Registers of WHL, part 2. -/
def regsWHL2 : List Reg := [
  ⟨0x30C, [], true, false, [F.WHL_LP_U_VAL]⟩,
  ⟨0x310, [], true, false, [F.WHL_LP_X_VAL]⟩,
  ⟨0x318, [], true, true, [F.WHL_LP_I_I]⟩,
  ⟨0x320, [], true, true, [F.WHL_LP_LATCH_T]⟩,
  ⟨0x328, [], true, true, [F.WHL_LP_OSTAMP_T]⟩,
  ⟨0x330, [], true, false, [F.WHL_LP_DLY_DLY, F.WHL_LP_DLY_DMAX]⟩,
  ⟨0x334, [], true, false, [F.WHL_LP_CONF_CNT, F.WHL_LP_CONF_SUPP]⟩,
  ⟨0x338, [], true, false, [F.WHL_LP_CAN_CANSKIP, F.WHL_LP_CAN_CANFAIL]⟩,
  ⟨0x33C, [], true, false, [F.WHL_LP_CMD_SWAP, F.WHL_LP_CMD_CLRSTAT]⟩,
  ⟨0x800, [], false, true, [F.WHL_GUARD_MASK]⟩,
  ⟨0x808, [], false, false, [F.WHL_GUARDSRC_SLOT, F.WHL_GUARDSRC_EN]⟩,
  ⟨0x810, [], false, true, [F.WHL_SWAP_MASK]⟩,
  ⟨0x820, [], false, false, [F.WHL_LANE_LOAD0, F.WHL_LANE_LOAD1, F.WHL_LANE_QMAX0, F.WHL_LANE_QMAX1]⟩,
  ⟨0x824, [], false, false, [F.WHL_LANECLR_CLR]⟩,
  ⟨0x830, [], false, true, [F.WHL_OWN_OWN]⟩,
  ⟨0x1000, [(1024, 0x4)], true, false, [F.WHL_FRI_VAL]⟩,
  ⟨0x2000, [(1024, 0x4)], true, false, [F.WHL_COG_VAL]⟩]

/-- Every register of WHL. -/
def regsWHL : List Reg := regsWHL0 ++ regsWHL1 ++ regsWHL2

/-- Registers of SOL, part 0. -/
def regsSOL0 : List Reg := [
  ⟨0x100, [], true, false, [F.SOL_CH_CFG_EN, F.SOL_CH_CFG_MODE, F.SOL_CH_CFG_EVSRC, F.SOL_CH_CFG_BOOST, F.SOL_CH_CFG_OFFMODE, F.SOL_CH_CFG_BNRMODE, F.SOL_CH_CFG_IRQ, F.SOL_CH_CFG_KEN]⟩,
  ⟨0x104, [], true, false, [F.SOL_CH_ISET_ISET]⟩,
  ⟨0x108, [], true, false, [F.SOL_CH_PEAK_IPEAK, F.SOL_CH_PEAK_TPEAK]⟩,
  ⟨0x10C, [], true, false, [F.SOL_CH_HOLD_IHOLD, F.SOL_CH_HOLD_CHOPF, F.SOL_CH_HOLD_PHYS]⟩,
  ⟨0x110, [], true, false, [F.SOL_CH_TIME_TOFF, F.SOL_CH_TIME_OVWIN, F.SOL_CH_TIME_TBMAX]⟩,
  ⟨0x114, [], true, false, [F.SOL_CH_DITH_DITHF, F.SOL_CH_DITH_DITHA]⟩,
  ⟨0x118, [], true, false, [F.SOL_CH_KINK_KTH, F.SOL_CH_KINK_KWIN]⟩,
  ⟨0x11C, [], true, false, [F.SOL_CH_CMD_ON, F.SOL_CH_CMD_CLRFLT]⟩,
  ⟨0x120, [], true, true, [F.SOL_Q_T_START]⟩,
  ⟨0x128, [], true, false, [F.SOL_Q_DUR_DUR]⟩,
  ⟨0x12C, [], true, false, [F.SOL_Q_PUSH_PUSH, F.SOL_Q_PUSH_FLUSH]⟩,
  ⟨0x130, [], true, false, [F.SOL_Q_STAT_COUNT]⟩,
  ⟨0x140, [], true, false, [F.SOL_CH_STAT_PHASE, F.SOL_CH_STAT_FAULT]⟩,
  ⟨0x144, [], true, false, [F.SOL_CH_IMEAS_IMEAS]⟩,
  ⟨0x148, [], true, false, [F.SOL_CH_FLAGS_BSTNR, F.SOL_CH_FLAGS_BNRABT, F.SOL_CH_FLAGS_OVLP, F.SOL_CH_FLAGS_DEFER, F.SOL_CH_FLAGS_OFFDEF, F.SOL_CH_FLAGS_OFFREJ, F.SOL_CH_FLAGS_LATE, F.SOL_CH_FLAGS_NOPEAK, F.SOL_CH_FLAGS_NOKINK, F.SOL_CH_FLAGS_UVDROP, F.SOL_CH_FLAGS_FBCUT, F.SOL_CH_FLAGS_SHORT, F.SOL_CH_FLAGS_HSSHORT, F.SOL_CH_FLAGS_OPEN, F.SOL_CH_FLAGS_OT]⟩,
  ⟨0x150, [], true, false, [F.SOL_EV_SEQ_SEQ]⟩,
  ⟨0x154, [], true, true, [F.SOL_EV_TSTART_T]⟩,
  ⟨0x15C, [], true, false, [F.SOL_EV_TIME_TPK, F.SOL_EV_TIME_KINK]⟩,
  ⟨0x160, [], true, false, [F.SOL_EV_FLAGS_FLAGS]⟩,
  ⟨0x800, [(2, 0x4)], false, false, [F.SOL_BST_CFG_EN, F.SOL_BST_CFG_VBST, F.SOL_BST_CFG_VRDY]⟩]

/-- Registers of SOL, part 1. -/
def regsSOL1 : List Reg := [
  ⟨0x808, [(2, 0x4)], false, false, [F.SOL_BST_STAT_VNOW, F.SOL_BST_STAT_RDY, F.SOL_BST_STAT_FLT]⟩,
  ⟨0x810, [], false, false, [F.SOL_BANK_STAT_BANK]⟩,
  ⟨0x814, [], false, false, [F.SOL_SUPPLY_VSUP, F.SOL_SUPPLY_CRANK, F.SOL_SUPPLY_UV, F.SOL_SUPPLY_DEAD]⟩]

/-- Every register of SOL. -/
def regsSOL : List Reg := regsSOL0 ++ regsSOL1

/-- Registers of LSW, part 0. -/
def regsLSW0 : List Reg := [
  ⟨0x100, [], true, false, [F.LSW_CH_CFG_EN, F.LSW_CH_CFG_MODE, F.LSW_CH_CFG_OLEN, F.LSW_CH_CFG_RSTMODE, F.LSW_CH_CFG_SCRST, F.LSW_CH_CFG_FBRS, F.LSW_CH_CFG_SHED, F.LSW_CH_CFG_WCLS, F.LSW_CH_CFG_TIR, F.LSW_CH_CFG_IRX, F.LSW_CH_CFG_RETRY]⟩,
  ⟨0x104, [], true, false, [F.LSW_CH_CMD_ON, F.LSW_CH_CMD_CLRFLT]⟩,
  ⟨0x108, [], true, false, [F.LSW_CH_PWM_DUTY, F.LSW_CH_PWM_FREQ]⟩,
  ⟨0x110, [], true, false, [F.LSW_CH_STAT_STATE, F.LSW_CH_STAT_FAULT, F.LSW_CH_STAT_CAUSE, F.LSW_CH_STAT_RTRN]⟩,
  ⟨0x114, [], true, false, [F.LSW_CH_IMEAS_I, F.LSW_CH_IMEAS_OLV]⟩,
  ⟨0x118, [], true, false, [F.LSW_CH_TEMP_TJ, F.LSW_CH_TEMP_WRISE]⟩,
  ⟨0x11C, [], true, false, [F.LSW_CH_FLAGS_SC, F.LSW_CH_FLAGS_WIRE, F.LSW_CH_FLAGS_OT, F.LSW_CH_FLAGS_OTABS, F.LSW_CH_FLAGS_RETRYX, F.LSW_CH_FLAGS_OPEN, F.LSW_CH_FLAGS_STB, F.LSW_CH_FLAGS_SHED, F.LSW_CH_FLAGS_CRANKBLK, F.LSW_CH_FLAGS_BROWN, F.LSW_CH_FLAGS_UV, F.LSW_CH_FLAGS_DEAD, F.LSW_CH_FLAGS_FBCUT, F.LSW_CH_FLAGS_LINK]⟩,
  ⟨0x120, [], true, false, [F.LSW_CH_TRIPS_TRIPS, F.LSW_CH_TRIPS_RESTARTS]⟩,
  ⟨0x800, [], false, false, [F.LSW_SENSE_SEL_CH, F.LSW_SENSE_SEL_MODE, F.LSW_SENSE_SEL_MONEN]⟩,
  ⟨0x804, [], false, false, [F.LSW_SENSE_VAL_I]⟩,
  ⟨0x810, [(2, 0x4)], false, false, [F.LSW_STUD_AVG, F.LSW_STUD_STUDOV, F.LSW_STUD_VSTUD]⟩,
  ⟨0x818, [], false, false, [F.LSW_STUD_CFG_LIMA, F.LSW_STUD_CFG_LIMB]⟩,
  ⟨0x81C, [], false, false, [F.LSW_SUPPLY_CRANKA, F.LSW_SUPPLY_CRANKB, F.LSW_SUPPLY_BROWNA, F.LSW_SUPPLY_BROWNB, F.LSW_SUPPLY_UV, F.LSW_SUPPLY_DEAD]⟩,
  ⟨0x820, [], false, false, [F.LSW_PSC_LINK0, F.LSW_PSC_LINK1, F.LSW_PSC_OFF0, F.LSW_PSC_OFF1, F.LSW_PSC_ACK0, F.LSW_PSC_ACK1]⟩,
  ⟨0x1000, [(8, 0x10)], false, false, [F.WCLS_K_K]⟩,
  ⟨0x1004, [(8, 0x10)], false, false, [F.WCLS_TAU_TAU]⟩,
  ⟨0x1008, [(8, 0x10)], false, false, [F.WCLS_LIM_LIM]⟩,
  ⟨0x100C, [(8, 0x10)], false, false, [F.WCLS_AREA_AREA]⟩]

/-- Every register of LSW. -/
def regsLSW : List Reg := regsLSW0

/-- Registers of AIN, part 0. -/
def regsAIN0 : List Reg := [
  ⟨0x1000, [(16, 0x40)], false, false, [F.ACU_CFG_EN, F.ACU_CFG_HPF, F.ACU_CFG_DEAD, F.ACU_CFG_THR]⟩,
  ⟨0x1004, [(16, 0x40)], false, false, [F.ACU_CLS_BLO, F.ACU_CLS_BHI, F.ACU_CLS_RTH]⟩,
  ⟨0x1008, [(16, 0x40)], false, false, [F.ACU_PK_PKMIN]⟩,
  ⟨0x100C, [(16, 0x40)], false, false, [F.ACU_CNT_GRAIN, F.ACU_CNT_OTHER]⟩,
  ⟨0x1010, [(16, 0x40)], false, false, [F.ACU_STAT_PILE, F.ACU_STAT_SAT]⟩,
  ⟨0x1014, [(16, 0x40)], false, false, [F.ACU_PEAK_MEANPK]⟩,
  ⟨0x1800, [], false, false, [F.ACU_WIN_WIN]⟩,
  ⟨0x1804, [], false, false, [F.ACU_PUB_SLOT, F.ACU_PUB_EN]⟩,
  ⟨0x1808, [], false, false, [F.ACU_WSEQ_SEQ]⟩,
  ⟨0x180C, [], false, false, [F.ACU_SNAP_CH, F.ACU_SNAP_ARM, F.ACU_SNAP_DONE]⟩,
  ⟨0x1C00, [(256, 0x4)], false, false, [F.ACU_SNAPD_W]⟩]

/-- Every register of AIN. -/
def regsAIN : List Reg := regsAIN0

/-- Registers of FBRK, part 0. -/
def regsFBRK0 : List Reg := [
  ⟨0x100, [], true, false, [F.FBRK_PR_CFG_EN, F.FBRK_PR_CFG_TESTREQ, F.FBRK_PR_CFG_TYPE, F.FBRK_PR_CFG_FILT, F.FBRK_PR_CFG_DISC_T]⟩,
  ⟨0x104, [], true, false, [F.FBRK_PR_STAT_STATE, F.FBRK_PR_STAT_TESTDONE, F.FBRK_PR_STAT_INA, F.FBRK_PR_STAT_INB, F.FBRK_PR_STAT_FCODE]⟩,
  ⟨0x108, [], true, false, [F.FBRK_PR_CNT_OPENS, F.FBRK_PR_CNT_FAULTS]⟩,
  ⟨0x800, [(8, 0x10)], false, false, [F.FBRK_GRP_CFG_EN, F.FBRK_GRP_CFG_RSTM, F.FBRK_GRP_CFG_BANKS, F.FBRK_GRP_CFG_PAIRS]⟩,
  ⟨0x804, [(8, 0x10)], false, false, [F.FBRK_GRP_LSW_LSW]⟩,
  ⟨0x808, [(8, 0x10)], false, false, [F.FBRK_GRP_STAT_STATE, F.FBRK_GRP_STAT_CUTA, F.FBRK_GRP_STAT_CUTB, F.FBRK_GRP_STAT_RBOK]⟩,
  ⟨0x80C, [(8, 0x10)], false, false, [F.FBRK_GRP_CNT_CUTS]⟩,
  ⟨0x880, [], false, false, [F.FBRK_CFGCRC_CRC]⟩,
  ⟨0x884, [], false, false, [F.FBRK_RESTART_MASK]⟩,
  ⟨0x888, [], false, false, [F.FBRK_RESET_KEY]⟩,
  ⟨0x88C, [], false, false, [F.FBRK_RSTSTAT_PULSE, F.FBRK_RSTSTAT_REFUSED, F.FBRK_RSTSTAT_STUCK, F.FBRK_RSTSTAT_WINDOW]⟩,
  ⟨0x890, [], false, false, [F.FBRK_LATCH_GROUPS, F.FBRK_LATCH_LCAUSE]⟩,
  ⟨0x894, [], false, false, [F.FBRK_REACT_LASTR, F.FBRK_REACT_MAXR]⟩,
  ⟨0x898, [], false, false, [F.FBRK_CMD_CLRREACT]⟩,
  ⟨0x89C, [], false, false, [F.FBRK_TEST_PEND]⟩,
  ⟨0x8A0, [], false, false, [F.FBRK_PUB_SLOT, F.FBRK_PUB_EN]⟩]

/-- Every register of FBRK. -/
def regsFBRK : List Reg := regsFBRK0

/-- Registers of SEG, part 0. -/
def regsSEG0 : List Reg := [
  ⟨0x100, [], true, false, [F.SEG_LN_STAT_ST, F.SEG_LN_STAT_BAND, F.SEG_LN_STAT_PEND]⟩,
  ⟨0x104, [], true, true, [F.SEG_LN_TLAST_T]⟩,
  ⟨0x800, [], false, false, [F.SEG_CFG_AGEK, F.SEG_CFG_ABASE, F.SEG_CFG_FBAND, F.SEG_CFG_TMINW]⟩,
  ⟨0x804, [], false, false, [F.SEG_COMMIT_GO, F.SEG_COMMIT_FULL]⟩,
  ⟨0x808, [], false, false, [F.SEG_CMD_STRCLR]⟩,
  ⟨0x80C, [], false, false, [F.SEG_STATE_ST, F.SEG_STATE_LINE, F.SEG_STATE_BAND, F.SEG_STATE_PEND]⟩,
  ⟨0x810, [], false, false, [F.SEG_TEMP_T, F.SEG_TEMP_TSFLT]⟩,
  ⟨0x814, [], false, false, [F.SEG_GEN_VSNOW, F.SEG_GEN_VRNOW]⟩,
  ⟨0x818, [], false, false, [F.SEG_JSEQ_SEQ]⟩,
  ⟨0x1000, [(8, 0x180), (96, 0x4)], false, false, [F.SEG_CTR_S]⟩,
  ⟨0x2000, [(8, 0x10), (3, 0x4)], false, false, [F.SEG_STG_SEG]⟩,
  ⟨0x2100, [(8, 0x10), (3, 0x4)], false, false, [F.SEG_DSP_SEG]⟩,
  ⟨0x2200, [(8, 0x10), (3, 0x4)], false, false, [F.SEG_TGT_SEG]⟩,
  ⟨0x2300, [(3, 0x80), (8, 0x10), (3, 0x4)], false, false, [F.SEG_FIMG_SEG]⟩,
  ⟨0x3000, [(8, 0x10)], false, false, [F.BAND_V_VS, F.BAND_V_VR, F.BAND_V_TMAX]⟩,
  ⟨0x3004, [(8, 0x10)], false, false, [F.BAND_T_TS, F.BAND_T_TR]⟩,
  ⟨0x3008, [(8, 0x10)], false, false, [F.BAND_E_TE]⟩]

/-- Every register of SEG. -/
def regsSEG : List Reg := regsSEG0

/-- Registers of BUS, part 0. -/
def regsBUS0 : List Reg := [
  ⟨0x100, [], true, false, [F.BUS_CH_CFG_EN, F.BUS_CH_CFG_LOOP, F.BUS_CH_CFG_LOM, F.BUS_CH_CFG_FDEN, F.BUS_CH_CFG_XLEN]⟩,
  ⟨0x104, [], true, false, [F.BUS_CH_NBT_SJW, F.BUS_CH_NBT_TSEG2, F.BUS_CH_NBT_TSEG1, F.BUS_CH_NBT_BRP]⟩,
  ⟨0x108, [], true, false, [F.BUS_CH_DBT_SJW, F.BUS_CH_DBT_TSEG2, F.BUS_CH_DBT_TSEG1, F.BUS_CH_DBT_BRP]⟩,
  ⟨0x10C, [], true, false, [F.BUS_CH_XBT_SJW, F.BUS_CH_XBT_TSEG2, F.BUS_CH_XBT_TSEG1, F.BUS_CH_XBT_BRP]⟩,
  ⟨0x110, [], true, false, [F.BUS_CH_TDC_EN, F.BUS_CH_TDC_TDCO, F.BUS_CH_TDC_TDCV]⟩,
  ⟨0x120, [], true, false, [F.BUS_CH_STAT_STATE, F.BUS_CH_STAT_HOLDOVR, F.BUS_CH_STAT_TRXFLT, F.BUS_CH_STAT_TEC, F.BUS_CH_STAT_REC]⟩,
  ⟨0x124, [], true, false, [F.BUS_CH_CNT_PEXCNT, F.BUS_CH_CNT_BOCNT]⟩,
  ⟨0x128, [], true, false, [F.BUS_CH_EVT_EVT]⟩,
  ⟨0x130, [(2, 0x4)], true, false, [F.BUS_CH_FIFO_BASE, F.BUS_CH_FIFO_LEN, F.BUS_CH_FIFO_SPAN]⟩,
  ⟨0x138, [(2, 0x4)], true, false, [F.BUS_CH_FIFO_IDX_RD, F.BUS_CH_FIFO_IDX_WR, F.BUS_CH_FIFO_IDX_LOST]⟩,
  ⟨0x140, [], true, false, [F.BUS_CH_REFID_ID, F.BUS_CH_REFID_IDE]⟩,
  ⟨0x144, [], true, false, [F.BUS_CH_FBMSG_ID, F.BUS_CH_FBMSG_IDE, F.BUS_CH_FBMSG_EN]⟩,
  ⟨0x148, [], true, false, [F.BUS_CH_FBPER_FBPER]⟩,
  ⟨0x150, [], true, false, [F.BUS_CH_WAKE_ID, F.BUS_CH_WAKE_IDE, F.BUS_CH_WAKE_WUF, F.BUS_CH_WAKE_EN]⟩,
  ⟨0x154, [], true, false, [F.BUS_CH_WMASK_MASK]⟩,
  ⟨0x158, [], true, true, [F.BUS_CH_WDATA_WDATA]⟩,
  ⟨0x160, [], true, false, [F.BUS_CH_WCFG_RATE, F.BUS_CH_WCFG_WDLC]⟩,
  ⟨0x164, [], true, false, [F.BUS_CH_WSTAT_WUP, F.BUS_CH_WSTAT_WUF, F.BUS_CH_WSTAT_FECOVF]⟩,
  ⟨0x180, [(8, 0x4)], true, false, [F.BUS_CH_NDAT_NDAT]⟩,
  ⟨0x800, [(4, 0x8)], false, true, [F.BUS_ISO_NAME_NAME]⟩]

/-- Registers of BUS, part 1. -/
def regsBUS1 : List Reg := [
  ⟨0x820, [(4, 0x4)], false, false, [F.BUS_ISO_CFG_RLO, F.BUS_ISO_CFG_RHI, F.BUS_ISO_CFG_PREF, F.BUS_ISO_CFG_CH, F.BUS_ISO_CFG_CLAIM]⟩,
  ⟨0x830, [(4, 0x4)], false, false, [F.BUS_ISO_STAT_ADDR, F.BUS_ISO_STAT_STATE]⟩,
  ⟨0x840, [], false, false, [F.BUS_PT_CFG_PTO, F.BUS_PT_CFG_PCH, F.BUS_PT_CFG_EN]⟩,
  ⟨0x844, [], false, false, [F.BUS_PT_IDX_ADDR]⟩,
  ⟨0x848, [], false, false, [F.BUS_PT_SEQ_SEQ]⟩,
  ⟨0x850, [], false, true, [F.BUS_PT_NAME_NAME]⟩,
  ⟨0x858, [], false, true, [F.BUS_PT_FIRST_FIRST]⟩,
  ⟨0x860, [], false, true, [F.BUS_PT_LAST_LAST]⟩,
  ⟨0x868, [], false, false, [F.BUS_PT_STAT_STATE, F.BUS_PT_STAT_NAMED, F.BUS_PT_STAT_OWN]⟩,
  ⟨0x870, [(8, 0x4)], false, false, [F.BUS_PT_CHG_CHG]⟩,
  ⟨0x1000, [(256, 0x80)], true, false, [F.BUF_CTRL_ATT, F.BUF_CTRL_RESULT, F.BUF_CTRL_MSGLOST, F.BUF_CTRL_NDAT, F.BUF_CTRL_ABORT, F.BUF_CTRL_TXREQ, F.BUF_CTRL_SPAN, F.BUF_CTRL_IRQ, F.BUF_CTRL_PRIV, F.BUF_CTRL_DIR]⟩,
  ⟨0x1004, [(256, 0x80)], true, false, [F.BUF_ID_ID, F.BUF_ID_XLF, F.BUF_ID_FDF, F.BUF_ID_IDE]⟩,
  ⟨0x1008, [(256, 0x80)], true, false, [F.BUF_FMT_DLC, F.BUF_FMT_VCID, F.BUF_FMT_SDT, F.BUF_FMT_SEC, F.BUF_FMT_RTR, F.BUF_FMT_ESI, F.BUF_FMT_BRS]⟩,
  ⟨0x100C, [(256, 0x80)], true, false, [F.BUF_AF_AF]⟩,
  ⟨0x1010, [(256, 0x80)], true, true, [F.BUF_SOF_SOF]⟩,
  ⟨0x1018, [(256, 0x80)], true, false, [F.BUF_FILT_FIDX, F.BUF_FILT_RXCNT]⟩,
  ⟨0x1000, [(8192, 0x4)], true, false, [F.BUS_MEM_WORD]⟩]

/-- Every register of BUS. -/
def regsBUS : List Reg := regsBUS0 ++ regsBUS1

/-- Registers of FLT, part 0. -/
def regsFLT0 : List Reg := [
  ⟨0x100, [], true, false, [F.FLT_LIST_BASE, F.FLT_LIST_LEN, F.FLT_LIST_NOMATCH]⟩,
  ⟨0x104, [], true, false, [F.FLT_CNT_HIT, F.FLT_CNT_NOHIT]⟩,
  ⟨0x1000, [(4096, 0x8)], false, true, [F.FLT_ENT_ID1, F.FLT_ENT_IDE, F.FLT_ENT_TYPE, F.FLT_ENT_ID2, F.FLT_ENT_XL, F.FLT_ENT_DEST]⟩]

/-- Every register of FLT. -/
def regsFLT : List Reg := regsFLT0

/-- Registers of ETH, part 0. -/
def regsETH0 : List Reg := [
  ⟨0x100, [], true, false, [F.ETH_PORT_CFG_EN, F.ETH_PORT_CFG_MS, F.ETH_PORT_CFG_GPTP, F.ETH_PORT_CFG_LEARN, F.ETH_PORT_CFG_PVID, F.ETH_PORT_CFG_DEFPCP]⟩,
  ⟨0x104, [], true, false, [F.ETH_PORT_STAT_LINK, F.ETH_PORT_STAT_TAKEN, F.ETH_PORT_STAT_SQI]⟩,
  ⟨0x108, [], true, false, [F.ETH_PORT_GCL_LEN, F.ETH_PORT_GCL_GEN]⟩,
  ⟨0x10C, [], true, false, [F.ETH_PORT_GCYC_CYCLE]⟩,
  ⟨0x110, [], true, true, [F.ETH_PORT_GBASE_BASE]⟩,
  ⟨0x118, [], true, false, [F.ETH_PORT_SYNC_SYNCI, F.ETH_PORT_SYNC_PDLYI]⟩,
  ⟨0x120, [], true, false, [F.ETH_PORT_CNT_RXF, F.ETH_PORT_CNT_TXF]⟩,
  ⟨0x124, [], true, false, [F.ETH_PORT_DROP_FULL, F.ETH_PORT_DROP_QCI]⟩,
  ⟨0x800, [], false, false, [F.ETH_FDB_WIN_BASE]⟩,
  ⟨0x808, [], false, true, [F.ETH_MAC_MAC]⟩,
  ⟨0x810, [], false, false, [F.ETH_PLCA_EN, F.ETH_PLCA_NCNT, F.ETH_PLCA_TO, F.ETH_PLCA_BURST]⟩,
  ⟨0x814, [], false, false, [F.ETH_TRGSTAT_DROP]⟩,
  ⟨0x900, [(6, 0x20)], false, true, [F.STR_ID_ID]⟩,
  ⟨0x908, [(6, 0x20)], false, false, [F.STR_CFG_EN, F.STR_CFG_SEN, F.STR_CFG_PORT, F.STR_CFG_DMACH]⟩,
  ⟨0x90C, [(6, 0x20)], false, false, [F.STR_CNT_DROPF, F.STR_CNT_FRAMES]⟩,
  ⟨0xA00, [(8, 0x40)], false, true, [F.HQ_RXBASE_BASE]⟩,
  ⟨0xA08, [(8, 0x40)], false, false, [F.HQ_SIZE_RXSIZE, F.HQ_SIZE_TXSIZE]⟩,
  ⟨0xA0C, [(8, 0x40)], false, false, [F.HQ_RXWR_IDX]⟩,
  ⟨0xA10, [(8, 0x40)], false, true, [F.HQ_TXBASE_BASE]⟩,
  ⟨0xA18, [(8, 0x40)], false, false, [F.HQ_TXRD_IDX]⟩]

/-- Registers of ETH, part 1. -/
def regsETH1 : List Reg := [
  ⟨0xA1C, [(8, 0x40)], false, false, [F.HQ_RXRD_IDX]⟩,
  ⟨0xA20, [(8, 0x40)], false, false, [F.HQ_TXWR_IDX]⟩,
  ⟨0xC00, [(16, 0x40), (12, 0x4)], false, false, [F.TRG_HDR_W]⟩,
  ⟨0xC30, [(16, 0x40)], false, false, [F.TRG_CFG_HLEN, F.TRG_CFG_TC, F.TRG_CFG_PORT, F.TRG_CFG_EN]⟩,
  ⟨0xC34, [(16, 0x40)], false, false, [F.TRG_SEQ_SEQ]⟩,
  ⟨0x1000, [(256, 0x10)], false, true, [F.FDB_ENT_MAC, F.FDB_ENT_VID, F.FDB_ENT_STATIC, F.FDB_ENT_VALID]⟩,
  ⟨0x1008, [(256, 0x10)], false, false, [F.FDB_PORTS_PORTS]⟩,
  ⟨0x100C, [(256, 0x10)], false, false, [F.FDB_AGE_AGE]⟩,
  ⟨0x2000, [(10, 0x100), (64, 0x4)], false, false, [F.GCL_INTERVAL, F.GCL_GATES]⟩,
  ⟨0x3000, [(128, 0x10)], false, true, [F.SFLT_DA_DA, F.SFLT_DA_VID, F.SFLT_DA_EN]⟩,
  ⟨0x3008, [(128, 0x10)], false, false, [F.SFLT_MATCH_PORTS, F.SFLT_MATCH_PCP, F.SFLT_MATCH_PCPANY, F.SFLT_MATCH_MAXSDU]⟩,
  ⟨0x300C, [(128, 0x10)], false, false, [F.SFLT_ACT_METER, F.SFLT_ACT_MEN, F.SFLT_ACT_GATE]⟩,
  ⟨0x3800, [(64, 0x10)], false, false, [F.MTR_CIR_V]⟩,
  ⟨0x3804, [(64, 0x10)], false, false, [F.MTR_CBS_V]⟩,
  ⟨0x3808, [(64, 0x10)], false, false, [F.MTR_PASS_V]⟩,
  ⟨0x380C, [(64, 0x10)], false, false, [F.MTR_DROP_V]⟩,
  ⟨0x4000, [(10, 0x20)], false, false, [F.GPTP_ASCAP_ASCAP]⟩,
  ⟨0x4004, [(10, 0x20)], false, false, [F.GPTP_MEANDLY_V]⟩,
  ⟨0x4008, [(10, 0x20)], false, false, [F.GPTP_RATIO_V]⟩,
  ⟨0x400C, [(10, 0x20)], false, false, [F.GPTP_SYNCS_V]⟩]

/-- Registers of ETH, part 2. -/
def regsETH2 : List Reg := [
  ⟨0x4010, [(10, 0x20)], false, false, [F.GPTP_FOREIGN_V]⟩]

/-- Every register of ETH. -/
def regsETH : List Reg := regsETH0 ++ regsETH1 ++ regsETH2

/-- Registers of RIDE, part 0. -/
def regsRIDE0 : List Reg := [
  ⟨0x100, [], true, false, [F.RIDE_ND_STAT_STATE, F.RIDE_ND_STAT_CAUSE, F.RIDE_ND_STAT_HOP, F.RIDE_ND_STAT_HPORT, F.RIDE_ND_STAT_STALE]⟩,
  ⟨0x104, [], true, false, [F.RIDE_ND_MISS_CONS, F.RIDE_ND_MISS_TOTAL]⟩,
  ⟨0x108, [], true, false, [F.RIDE_ND_OCMT_GO]⟩,
  ⟨0x10C, [], true, false, [F.RIDE_ND_ISEQ_SEQ]⟩,
  ⟨0x110, [], true, true, [F.RIDE_ND_ISTAMP_T]⟩,
  ⟨0x118, [], true, true, [F.RIDE_ND_ASTAMP_T]⟩,
  ⟨0x120, [], true, false, [F.RIDE_ND_FB_FB]⟩,
  ⟨0x140, [(16, 0x4)], true, false, [F.RIDE_ND_OUT_W]⟩,
  ⟨0x180, [(16, 0x4)], true, false, [F.RIDE_ND_IN_W]⟩,
  ⟨0x800, [], false, false, [F.RIDE_CFG_PAEN, F.RIDE_CFG_PBEN, F.RIDE_CFG_PCEN, F.RIDE_CFG_PDEN]⟩,
  ⟨0x804, [], false, false, [F.RIDE_CYC_RCYC]⟩,
  ⟨0x808, [], false, false, [F.RIDE_TOPO_KIND, F.RIDE_TOPO_RINGBRK, F.RIDE_TOPO_NNODE, F.RIDE_TOPO_HMAX]⟩,
  ⟨0x80C, [], false, false, [F.RIDE_RTT_LAST, F.RIDE_RTT_CALC]⟩,
  ⟨0x810, [], false, false, [F.RIDE_NT_CLR_CLR]⟩,
  ⟨0x814, [], false, false, [F.RIDE_CYCNT_CNT]⟩,
  ⟨0x1000, [(32, 0x40)], false, false, [F.NT_SEQ_SEQ]⟩,
  ⟨0x1004, [(32, 0x40)], false, false, [F.NT_ID_STATE, F.NT_ID_MEMBER, F.NT_ID_STEP]⟩,
  ⟨0x1008, [(32, 0x40)], false, true, [F.NT_SERIAL_SERIAL]⟩,
  ⟨0x1010, [(32, 0x40)], false, false, [F.NT_PATH_UPNODE, F.NT_PATH_UPPORT, F.NT_PATH_HOP, F.NT_PATH_HPORT]⟩,
  ⟨0x1014, [(32, 0x40)], false, false, [F.NT_LEN_OUTLEN, F.NT_LEN_INLEN]⟩]

/-- Registers of RIDE, part 1. -/
def regsRIDE1 : List Reg := [
  ⟨0x1018, [(32, 0x40)], false, true, [F.NT_FIRST_T]⟩,
  ⟨0x1020, [(32, 0x40)], false, true, [F.NT_LAST_T]⟩,
  ⟨0x1028, [(32, 0x40)], false, false, [F.NT_ATT_ATTCNT]⟩]

/-- Every register of RIDE. -/
def regsRIDE : List Reg := regsRIDE0 ++ regsRIDE1

/-- Registers of UPD, part 0. -/
def regsUPD0 : List Reg := [
  ⟨0x100, [], true, false, [F.UPD_SL_STAT_ST, F.UPD_SL_STAT_REASON, F.UPD_SL_STAT_SFMT, F.UPD_SL_STAT_SVN]⟩,
  ⟨0x104, [], true, true, [F.UPD_SL_BUILD_BUILD]⟩,
  ⟨0x10C, [], true, false, [F.UPD_SL_BLKS_DONE, F.UPD_SL_BLKS_TOTAL]⟩,
  ⟨0x800, [], false, false, [F.UPD_CFG_RXEN, F.UPD_CFG_CSLOT, F.UPD_CFG_DSLOT, F.UPD_CFG_RUNFAIL, F.UPD_CFG_CONFTO]⟩,
  ⟨0x804, [], false, false, [F.UPD_STATE_BOOTED, F.UPD_STATE_TRIAL, F.UPD_STATE_REASON, F.UPD_STATE_FALLEN]⟩,
  ⟨0x808, [], false, false, [F.UPD_CONFIRM_GO]⟩,
  ⟨0x80C, [], false, false, [F.UPD_XFER_ST, F.UPD_XFER_OP, F.UPD_XFER_RXDROP]⟩,
  ⟨0x810, [], false, false, [F.UPD_RUNCNT_CNT]⟩,
  ⟨0x820, [], false, false, [F.UPD_BLK_IDX0_BLOCK]⟩,
  ⟨0x824, [], false, false, [F.UPD_BLK_IDX1_TOTAL]⟩,
  ⟨0x828, [], false, false, [F.UPD_BLK_IDX2_CRC]⟩,
  ⟨0x830, [], false, false, [F.UPD_BLK_GO_GO]⟩,
  ⟨0x1000, [(1024, 0x4)], false, false, [F.UPD_BWIN_W]⟩]

/-- Every register of UPD. -/
def regsUPD : List Reg := regsUPD0

/-- Registers of MON, part 0. -/
def regsMON0 : List Reg := [
  ⟨0x800, [], false, false, [F.MON_STAT_LINES, F.MON_STAT_ERRS]⟩,
  ⟨0x804, [], false, false, [F.MON_LAST_CMD, F.MON_LAST_CODE]⟩,
  ⟨0x808, [], false, true, [F.MON_TLAST_T]⟩]

/-- Every register of MON. -/
def regsMON : List Reg := regsMON0

/-- The registers of a slot beside the common first page; none for a slot that R48 does not assign. -/
def regsOf (slot : Nat) : List Reg :=
  match slot with
  | 0x00 => regsSYS
  | 0x01 => regsPWR
  | 0x02 => regsLCS
  | 0x03 => regsSAGR
  | 0x04 => regsSHRD
  | 0x05 => regsKILN
  | 0x06 => regsCONE
  | 0x07 => regsTIME
  | 0x08 => regsMEM
  | 0x09 => regsIOMU
  | 0x0A => regsDMA
  | 0x0B => regsCLR
  | 0x10 => regsGNRF
  | 0x11 => regsGNAQ
  | 0x12 => regsGNTK
  | 0x13 => regsGNTP
  | 0x18 => regsCNPY
  | 0x19 => regsEGO
  | 0x1A => regsNPU
  | 0x1B => regsCROP
  | 0x20 => regsWHL
  | 0x21 => regsSOL
  | 0x22 => regsLSW
  | 0x23 => regsAIN
  | 0x24 => regsFBRK
  | 0x25 => regsSEG
  | 0x28 => regsBUS
  | 0x29 => regsFLT
  | 0x2A => regsETH
  | 0x2B => regsRIDE
  | 0x30 => regsUPD
  | 0x31 => regsMON
  | _ => []

end Sys2Proof
end

