-- ==== Sys2Proof/Machine/State.lean ====
section
/-! DEFINITION. The state of the T9: register fields, internal variables, the queues and records of the blocks, the Sherd
log, OTP, DRAM and the queue of waiting commands; the reasons a step can stop; the state right after reset. -/

namespace Sys2Proof.Machine

/-- A report on its way from a block to SAGR or SHRD (R68, R568): source, class, CODE, the block's ERR as it stood after the
report, the PAYLOAD bytes, and the Grove time at which it was raised. -/
structure Report where
  src : Nat
  cls : Nat
  code : Nat
  errw : Nat
  pay : List Nat
  time : Int
  deriving DecidableEq, Repr

/-- A Sherd record without its CRC, which is computed from the other bytes (R563). -/
structure Record where
  seq : Nat
  time : Int
  src : Nat
  flags : Nat
  code : Nat
  pay : List Nat
  boot : Nat
  errw : Nat
  deriving DecidableEq, Repr

/-- What one index of the log holds: a record, or what a doubly failed write left there (R570). -/
inductive LogCell where
  | held (r : Record)
  | left (r : Record)
  deriving DecidableEq, Repr

/-- An entry in service or queued in Saggar (R575, R576, R582): its SEQ (none where the report was dropped, R569), source, class,
CODE, PAYLOAD, time, ERRW, REPEAT and whether it was pre-empted. -/
structure SagrEntry where
  seq : Option Nat
  src : Nat
  cls : Nat
  code : Nat
  pay : List Nat
  time : Int
  errw : Nat
  rep : Nat
  pre : Bool
  deriving DecidableEq, Repr

/-- A frame of a sensor (R196, R197, R218, R232): its buffer, both times, the bank it uses, whether it is in step, and whether Grove time has been stepped
since its STAMP. -/
structure Frame where
  buf : Nat
  stamp : Nat
  arr : Nat
  bank : Nat
  ok : Bool
  old : Bool
  deriving DecidableEq, Repr

/-- A hand-off waiting for its grid update (R209 to R212, R222, R224): for a camera also where its features and its depths lie, and their row strides. -/
structure Hand where
  sen : Nat
  fr : Frame
  feat : Nat
  featStr : Nat
  depth : Nat
  depthStr : Nat
  deriving DecidableEq, Repr

/-- An entry of a solenoid queue (R320): START in whole ns and DUR in µs. -/
structure SolEntry where
  start : Nat
  dur : Nat
  deriving DecidableEq, Repr

/-- A parcel of crop in the time stage (R250): the crossing instant (whole ns, and in elapsed time), DIST at crossing (um), its mass (ug), its
flags, and its progress in units of 2^-48. -/
structure Parcel where
  born : Int
  bornU : Int
  dist : Int
  mass : Nat
  hdrup : Bool
  nola : Bool
  feedspd : Bool
  prog : Nat
  deriving DecidableEq, Repr

/-- A 10 ms bin of the arrival log (R250): its number, the mass (ug), the sum of mass times crossing instant, the parcels and the sum of their
crossing instants, the least and greatest DIST at crossing, the earliest crossing in elapsed time, and the flags. -/
structure Arrival where
  bin : Int
  mass : Nat
  wsum : Int
  n : Nat
  bsum : Int
  dmin : Int
  dmax : Int
  bornU : Int
  hdrup : Bool
  nola : Bool
  feedspd : Bool
  deriving DecidableEq, Repr

/-- A CAN frame waiting in a holding register (R404). -/
structure CanFrame where
  ch : Nat
  ide : Bool
  fdf : Bool
  xlf : Bool
  id : Nat
  fmt : Nat
  af : Nat
  data : List Nat
  sof : Nat
  deriving DecidableEq, Repr

/-- A translation that the IOTLB caches (R478): the address space (second stage on, GSCID, PSCID), the page of the IOVA, the physical page
and whether a write needs no further walk. -/
structure TlbEntry where
  gv : Bool
  gscid : Nat
  pscid : Nat
  page : Nat
  phys : Nat
  w : Bool
  deriving DecidableEq, Repr

/-- Where a DMA channel stands in its descriptor (R484 to R487, R493): the descriptor's fields, the rows completed, the bytes of the present
row written and read, the bytes read and not yet written, and whether the descriptor is fetched and its data all written. -/
structure DmaChan where
  ctrl : Nat
  len : Nat
  src : Nat
  dst : Nat
  rows : Nat
  sstr : Int
  dstr : Int
  pat : List Nat
  nextD : Nat
  row : Nat
  done : Nat
  read : Nat
  held : List Nat
  fetched : Bool
  ended : Bool
  parks : Nat
  deriving DecidableEq, Repr

/-- A faulting transaction of a DMA channel (R492, R493): what FREC and FADDR will show and the point at which the channel parks. -/
structure DmaPoint where
  kind : Nat
  cause : Nat
  wrote : Bool
  addr : Nat
  point : DmaChan
  deriving DecidableEq, Repr

/-- Everything of the module but the non-volatile log, OTP, DRAM and the command queue. `free` counts the free values used; `acc` is the bank
of the initiator while its access is carried out, else 0 (R53). `resp` is how the last access ended: 0 none yet, 1 normally, 2 with an
error response; `rdata` is what the last read returned. -/
structure Dev where
  regs : Store Nat
  vars : Store Int
  clrBuf : Store Nat
  reports : List Report
  intake : List Record
  sagrCur : Option SagrEntry
  sagrQ : List SagrEntry
  solQ : List (Nat × SolEntry)
  parcels : List Parcel
  arrivals : List Arrival
  canHold : List CanFrame
  frames : Store Frame
  hands : List Hand
  bytes : Store (List Nat)
  tlb : List TlbEntry
  ddc : List (Nat × List Nat)
  dmaCh : Store DmaChan
  dmaBad : List (Nat × DmaPoint)
  hist : Store (List (Int × Int))
  free : Nat
  acc : Nat
  resp : Nat
  rdata : Nat
  deriving DecidableEq, Repr

/-- The fuses in OTP (R517, R518, R524): the life-cycle state (0 BLANK, 1 FACTORY, 2 FIELD, 3 RETURNED, 4 SCRAP), the security version,
and which keys are programmed or revoked. -/
structure Otp where
  st : Nat
  svn : Nat
  dbgK : Bool
  dbgO : Bool
  oemRev : Nat
  oemProg : Nat
  deriving DecidableEq, Repr

/-- The whole machine. `log` is the Sherd log in MRAM by index (R565); an index not listed is erased. `mem` is DRAM in canonical
form. `pending` is the queue of commands that wait, first in, first out. -/
structure State where
  dev : Dev
  log : List (Nat × LogCell)
  otp : Otp
  mem : List Host.Cell
  pending : List Instr
  deriving DecidableEq, Repr

/-- Reasons for which the machine stops with a fault. No command of this hardware stops the machine: the spec gives every refused
access and every failing unit an effect of its own. The one constructor stands for a device access outside the address space of
the module; no meaning raises it. Safe. -/
inductive Fault where
  /-- Raised by no meaning. Safe. -/
  | noAddress (addr : Nat)
  deriving DecidableEq, Repr

/-- Reasons for which a command is refused. -/
inductive Refusal where
  /-- Raised by an arm of exec whose command has no meaning yet. Safe: the machine stops. -/
  | notModelled (mnemonic : String)
  deriving DecidableEq, Repr

/-- The device part at the release of module reset: every register field at its reset value, so nothing is listed (R72, R74). -/
def Dev.reset : Dev :=
  { regs := [], vars := [], clrBuf := [], reports := [], intake := [], sagrCur := none, sagrQ := [], solQ := [],
    parcels := [], arrivals := [], canHold := [], frames := [], hands := [], bytes := [], tlb := [], ddc := [],
    dmaCh := [], dmaBad := [], hist := [], free := 0, acc := 0, resp := 0, rdata := 0 }

/-- OTP as the model takes it (log entry 5): FIELD, security version 0, both debug keys and OEM slot 0 programmed. -/
def Otp.reset : Otp := { st := 2, svn := 0, dbgK := true, dbgO := true, oemRev := 0, oemProg := 1 }

/-- The machine right after reset. -/
def State.reset : State := { dev := Dev.reset, log := [], otp := Otp.reset, mem := [], pending := [] }

end Sys2Proof.Machine
end

