-- ==== Sys2Proof/Machine/Vars.lean ====
section
/-! DEFINITION. The internal variables of the blocks: what a rule keeps from one event to the next and no register shows as such.
Each constant names the rule, and starts at its `init`. Times are counts of 2^-16 ns of `uptime` unless they say otherwise. -/

namespace Sys2Proof

namespace V
/-- R75: Grove time in units of 2^-16 ns, 80 bits. -/
def grove : Vr := { id := 7001, init := 0 }
/-- R42: units of 2^-16 ns that have passed since the release of reset, whatever Grove time does; the block clocks count from it. -/
def uptime : Vr := { id := 7002, init := 0 }
/-- R41: the agent of a slot's last commit since module reset, -1 before the first; by slot. -/
def clrAgent : Vr := { id := 11001, init := -1 }
/-- R32: 1 ms ticks since a slot's last commit; by slot. -/
def clrTicks : Vr := { id := 11002, init := 0 }
/-- R567: the last SEQ that SHRD assigned; -1 before the first. Kept in MRAM. -/
def shrdSeq : Vr := { id := 4001, init := -1, keep := true }
/-- R569: LOSS is due in the next record written. -/
def shrdLoss : Vr := { id := 4002, init := 0 }
/-- R61: tag of the pair high half held for reads by a slot's bank, offset plus 1, 0 none; by slot * 16 + bank. -/
def rdTag : Vr := { id := 12001, init := 0 }
/-- R61: the held high half; by slot * 16 + bank. -/
def rdHold : Vr := { id := 12002, init := 0 }
/-- R61: tag of the pair low half held for writes; by slot * 16 + bank. -/
def wrTag : Vr := { id := 12003, init := 0 }
/-- R61: the held low half; by slot * 16 + bank. -/
def wrHold : Vr := { id := 12004, init := 0 }
/-- R63: what a pending apply covers: 0 nothing, 1 everything, 2 + ch only channel ch; by slot. -/
def applyCov : Vr := { id := 12005, init := 0 }
/-- R73: a soft reset of the slot runs; by slot. -/
def softRst : Vr := { id := 12006, init := 0 }
/-- R285, R268: the last queue length of a lane; by lane. -/
def laneQ : Vr := { id := 32001, init := 0 }
/-- R430: bytes of the shared packet buffer that frames on their way held last. -/
def ethBuf : Vr := { id := 42001, init := 0 }
/-- R500: IOMMU walks in progress. -/
def iommuWalks : Vr := { id := 9001, init := 0 }
/-- R22: the keeper runs. -/
def keeperUp : Vr := { id := 1001, init := 0 }

/-! ### TIME -/
/-- R86: time spent in LOCKED since HOLDOVER, FREE or UNSET was last entered, up to the last change of state, 2^-16 ns. -/
def lockedSum : Vr := { id := 7010, init := 0 }
/-- R86: instant at which HOLDOVER was last entered. -/
def holdAt : Vr := { id := 7011, init := 0 }
/-- R86: 1 where the bound of the present HOLDOVER is known. -/
def holdGood : Vr := { id := 7012, init := 0 }
/-- R87: 1 once the bound's excess has been reported in this HOLDOVER. -/
def holdRep : Vr := { id := 7013, init := 0 }
/-- R83: instant of the last valid steering record. -/
def recAt : Vr := { id := 7014, init := 0 }
/-- R83: consecutive valid records with an offset of at most 20 ns in SLEW. -/
def lockRun : Vr := { id := 7015, init := 0 }
/-- R83: frequency correction, 1/256 ppb. -/
def freqCorr : Vr := { id := 7016, init := 0 }
/-- R84: slew rate offset, 1/256 ppb. -/
def slew : Vr := { id := 7017, init := 0 }
/-- R84: phase error still to be slewed out, 2^-16 ns. -/
def slewRem : Vr := { id := 7018, init := 0 }
/-- R77: remainders of the rate correction and of the slew below 2^-16 ns. -/
def rateAcc : Vr := { id := 7019, init := 0 }
/-- R77: as rateAcc, for the slew. -/
def slewAcc : Vr := { id := 7020, init := 0 }
/-- R85: offset that the pending step will use, 2^-16 ns. -/
def stepOffs : Vr := { id := 7021, init := 0 }
/-- R85: the Grove instant, whole ns, of the pending step. -/
def stepAt : Vr := { id := 7022, init := 0 }
/-- R89: Grove instant, whole ns, of the next 1 ms tick. -/
def nextTick : Vr := { id := 7023, init := 1000000 }
/-- R89: instant of the last tick. -/
def lastTick : Vr := { id := 7024, init := 0 }
/-- R89: ticks issued. -/
def ticks : Vr := { id := 7025, init := 0 }
/-- R91: remaining error in SLEW, ns. -/
def remErr : Vr := { id := 7026, init := 0 }
/-- R98: 1 while an entry's pulse is in progress; by entry. -/
def pulse : Vr := { id := 7027, init := 0 }
/-- R98: instant at which the entry's pulse ends; by entry. -/
def pulseEnd : Vr := { id := 7028, init := 0 }
/-- R101: instant of the last IMU strobe. -/
def imuLast : Vr := { id := 7029, init := -1000000000000 }
/-- R103: fraction captured by the last read of TIME_NOW_LO; by bank. -/
def nowFrac : Vr := { id := 7032, init := 0 }

/-! ### What a step of Grove time changes in other blocks -/
/-- R159: Grove instant, whole ns, of the next epoch; -1 before the first. -/
def nextEpoch : Vr := { id := 18001, init := -1 }
/-- R159: instant of the last epoch latch. -/
def lastEpoch : Vr := { id := 18002, init := 0 }
/-- R159: a step lies since the last epoch. -/
def epochStep : Vr := { id := 18003, init := 0 }
/-- R184: Grove instant, whole ns, of the next time pulse; -1 before the first. -/
def nextPulse : Vr := { id := 19001, init := -1 }
/-- R184: instant of the last time-pulse edge. -/
def lastPulse : Vr := { id := 19002, init := 0 }
/-- R236: Grove instant, whole ns, of the next window end; -1 before the first. -/
def nextWin : Vr := { id := 35001, init := -1 }
/-- R236: instant of the last window end. -/
def lastWin : Vr := { id := 35002, init := 0 }
/-- R132: FLAGS gathered during the present capture; by engine. -/
def acqFlags : Vr := { id := 17001, init := 0 }
/-- R322: entries whose START a forward step has passed are due at once; by channel. -/
def solStepped : Vr := { id := 33001, init := 0 }
/-- R267, R455: amount by which steps have moved the grids of WHL and RIDE, 2^-16 ns; by slot. -/
def gridMove : Vr := { id := 32002, init := 0 }

/-! ### Memory -/
/-- R474: 1 where a 32-byte block of DRAM is poisoned; by block number. -/
def poison : Vr := { id := 8001, init := 0 }

/-! ### GNRF and GNAQ -/
/-- R109: 1 while the bias of an antenna input is on; by antenna. -/
def antBias : Vr := { id := 16001, init := 0 }
/-- R109: consecutive measurements between OPEN_TH and the limit; by antenna. -/
def antOk : Vr := { id := 16002, init := 0 }
/-- R109: consecutive measurements below OPEN_TH; by antenna. -/
def antOpen : Vr := { id := 16003, init := 0 }
/-- R110: instant of the last short trip; by antenna. -/
def antTripAt : Vr := { id := 16004, init := 0 }
/-- R110: 1 while a retry is judged; by antenna. -/
def antTry : Vr := { id := 16005, init := 0 }
/-- R109: state that LINKDOWN overrides; by antenna. -/
def antPrev : Vr := { id := 16006, init := 0 }
/-- R112, R114: 1 while a path's samples are valid, its EN apart; by path. -/
def pathValid : Vr := { id := 16007, init := 0 }
/-- R112: 1 while a BMODE change retunes; by antenna. -/
def retuneOn : Vr := { id := 16008, init := 0 }
/-- R112: start of the retune; by antenna. -/
def retuneAt : Vr := { id := 16009, init := 0 }
/-- R117: level of the line an ADAPT notch holds, 0.1 dB above NF; by 4 * path + notch. -/
def notchLvl : Vr := { id := 16010, init := 0 }
/-- R133: phase of an engine: 0 idle, 1 entry due, 2 waiting for the tick, 3 capturing, 4 searching, 5 all steps done. -/
def acqPhase : Vr := { id := 17002, init := 0 }
/-- R130: 1 while an engine holds a snapshot. -/
def heldOk : Vr := { id := 17003, init := 0 }
/-- R130: path of the held snapshot. -/
def heldPath : Vr := { id := 17004, init := 0 }
/-- R130: carrier of the held snapshot, kHz. -/
def heldCar : Vr := { id := 17005, init := 0 }
/-- R130: GLOK of the held snapshot. -/
def heldGlok : Vr := { id := 17006, init := 0 }
/-- R130: 1 where the held snapshot has the WINDOW rate. -/
def heldWin : Vr := { id := 17007, init := 0 }
/-- R130: milliseconds of the held snapshot. -/
def heldMs : Vr := { id := 17008, init := 0 }
/-- R127: start instant of the snapshot, whole ms. -/
def acqT0 : Vr := { id := 17009, init := 0 }
/-- R121: instant at which the capture began. -/
def acqCapAt : Vr := { id := 17010, init := 0 }
/-- R132: samples clipped during the capture. -/
def acqClip : Vr := { id := 17011, init := 0 }

/-! ### GNTK -/
/-- R151: instant PULLIN was entered; by channel. -/
def pullAt : Vr := { id := 18010, init := 0 }
/-- R151: instant COAST was entered; by channel. -/
def coastAt : Vr := { id := 18011, init := 0 }
/-- R163: instant from which LOCK has lasted without a slip; by channel. -/
def lockAt : Vr := { id := 18012, init := 0 }
/-- R151: start of the run of PLI at or above 0.85, -1 none; by channel. -/
def pliHi : Vr := { id := 18013, init := -1 }
/-- R151: start of the run of PLI below 0.70; by channel. -/
def pliLo : Vr := { id := 18014, init := -1 }
/-- R151: start of the run of C/N0 below LOSSTH; by channel. -/
def cnLo : Vr := { id := 18015, init := -1 }
/-- R151: start of the run of C/N0 at or above LOSSTH + 3 dB; by channel. -/
def cnHi : Vr := { id := 18016, init := -1 }
/-- R163: accumulated carrier phase, 1/64,000,000,000,000 of 1/1024 cycle; by channel. -/
def carrS : Vr := { id := 18017, init := 0 }
/-- R163: instant of that phase; by channel. -/
def carrU : Vr := { id := 18018, init := 0 }
/-- R156: transmit time at an instant, 2^-32 ms; by channel. -/
def codeV : Vr := { id := 18019, init := 0 }
/-- R156: that instant; by channel. -/
def codeU : Vr := { id := 18020, init := 0 }
/-- R163: Doppler, mHz; by channel. -/
def dopV : Vr := { id := 18021, init := 0 }
/-- R155: half-cycle ambiguity unresolved; by channel. -/
def hca : Vr := { id := 18022, init := 0 }
/-- R155: half a cycle is due at the next epoch; by channel. -/
def halfAdd : Vr := { id := 18023, init := 0 }
/-- R155: symbols are inverted; by channel. -/
def symInv : Vr := { id := 18024, init := 0 }
/-- R164: a slip since the previous epoch; by channel. -/
def slipF : Vr := { id := 18025, init := 0 }
/-- R166: a slip inside the present symbol record; by channel. -/
def slipNav : Vr := { id := 18026, init := 0 }
/-- R156: period in ms to which the channel is synchronised, 0 none; by channel. -/
def syncP : Vr := { id := 18027, init := 0 }
/-- R156: a CH_TOW write due at the next epoch, -1 none; by channel. -/
def towMs : Vr := { id := 18028, init := -1 }
/-- R156: the epoch that write names; by channel. -/
def towSeq : Vr := { id := 18029, init := 0 }
/-- R163: multipath metric; by channel. -/
def mpmV : Vr := { id := 18030, init := 0 }
/-- R164: a notch of the path changed since the previous epoch; by path. -/
def pfNotch : Vr := { id := 18031, init := 0 }
/-- R164: samples of the path clipped since the previous epoch; by path. -/
def pfSat : Vr := { id := 18032, init := 0 }
/-- R164: antenna state other than OK or EXTV since the previous epoch; by antenna. -/
def pfAnt : Vr := { id := 18033, init := 0 }
/-- R164: path samples were invalid since the previous epoch; by path. -/
def pfInv : Vr := { id := 18034, init := 0 }
/-- R164: AGC updates since the previous epoch. -/
def pfMs : Vr := { id := 18035, init := 0 }
/-- R165: an epoch is latched and not yet recorded. -/
def epochPend : Vr := { id := 18036, init := 0 }
/-- R162: instant of the latched epoch, whole ns. -/
def epochInst : Vr := { id := 18037, init := 0 }
/-- R162: byte 14 of the header of the latched epoch. -/
def epochSt : Vr := { id := 18038, init := 0 }
/-- R162: the previous epoch was dropped. -/
def epochDropped : Vr := { id := 18039, init := 0 }
/-- R163: latched CODE; by channel. -/
def latCode : Vr := { id := 18040, init := 0 }
/-- R163: latched CARR; by channel. -/
def latCarr : Vr := { id := 18041, init := 0 }
/-- R163: latched DOP; by channel. -/
def latDop : Vr := { id := 18042, init := 0 }
/-- R163: latched LOCKT; by channel. -/
def latLock : Vr := { id := 18043, init := 0 }
/-- R163: latched bytes 18 and 19; by channel. -/
def latBits : Vr := { id := 18044, init := 0 }
/-- R164: latched FLAGS; by channel. -/
def latFlags : Vr := { id := 18045, init := 0 }
/-- R163: latched MPM; by channel. -/
def latMpm : Vr := { id := 18046, init := 0 }
/-- R163: latched CCD; by channel. -/
def latCcd : Vr := { id := 18047, init := 0 }
/-- R162: latched header byte of a path; by path. -/
def latPath : Vr := { id := 18048, init := 0 }
/-- R174: EGO's speed at an epoch; by EPSEQ modulo 8. -/
def egoSpd : Vr := { id := 18050, init := 0 }
/-- R174: EGO's yaw rate at an epoch; by EPSEQ modulo 8. -/
def egoYaw : Vr := { id := 18051, init := 0 }
/-- R174: EGO's VALID at an epoch; by EPSEQ modulo 8. -/
def egoVal : Vr := { id := 18052, init := 0 }
/-- R174: the EPSEQ these belong to; by EPSEQ modulo 8. -/
def egoSeq : Vr := { id := 18053, init := -1 }
/-- R174: speed of the last GNTK_PVT_SPD write. -/
def pvtSpd : Vr := { id := 18054, init := 0 }
/-- R174: epoch of the last GNTK_PVT_SPD write, -1 none unmatched. -/
def pvtSeq : Vr := { id := 18055, init := -1 }
/-- R175: consecutive disagreeing pairs. -/
def pvtBad : Vr := { id := 18056, init := 0 }
/-- R175: consecutive agreeing pairs. -/
def pvtGood : Vr := { id := 18057, init := 0 }
/-- R176: EPSEQ of the last accepted pair, -1 none. -/
def pvtLast : Vr := { id := 18058, init := -1 }
/-- R176: the last accepted pair had VALID and SG. -/
def pvtOkSg : Vr := { id := 18059, init := 0 }
/-- R176: EGO was valid at that pair's epoch. -/
def pvtEgo : Vr := { id := 18061, init := 0 }
/-- R176: a REARM has been written since SGV last fell. -/
def rearmed : Vr := { id := 18062, init := 0 }
/-- R177: last course rate minus yaw rate. -/
def dYaw : Vr := { id := 18063, init := 0 }
/-- R172: ms for which one criterion has held; by path. -/
def jamOne : Vr := { id := 18064, init := 0 }
/-- R172: ms for which JAMMED's condition has held; by path. -/
def jamTwo : Vr := { id := 18065, init := 0 }
/-- R172: ms for which neither criterion has held; by path. -/
def jamNone : Vr := { id := 18066, init := 0 }
/-- R172: an averaging runs. -/
def learnOn : Vr := { id := 18067, init := 0 }
/-- R172: its start. -/
def learnAt : Vr := { id := 18068, init := 0 }
/-- R172: its samples. -/
def learnN : Vr := { id := 18069, init := 0 }
/-- R172: sum of NF; by path. -/
def learnNf : Vr := { id := 18070, init := 0 }
/-- R172: sum of gain; by path. -/
def learnG : Vr := { id := 18071, init := 0 }
/-- R170: epochs since the last check epoch. -/
def chkCount : Vr := { id := 18072, init := 0 }
/-- R170: TIME_RATE at the last check epoch. -/
def rateH1 : Vr := { id := 18073, init := 0 }
/-- R162: CJUMP of the latched epoch. -/
def cjump : Vr := { id := 18075, init := 0 }
/-- R180: TPULSE is active. -/
def tpulse : Vr := { id := 19003, init := 0 }
/-- R180: instant at which its active level ends. -/
def tpulseEnd : Vr := { id := 19004, init := 0 }

/-! ### EGO -/
/-- R202: x in units of 2^-30 um. -/
def egoXa : Vr := { id := 25001, init := 0 }
/-- R202: y in units of 2^-30 um. -/
def egoYa : Vr := { id := 25002, init := 0 }
/-- R202: yaw in units of 2^-32 turn over 360,000,000. -/
def egoPsi : Vr := { id := 25003, init := 0 }
/-- R202: last speed, mm/s. -/
def egoVl : Vr := { id := 25004, init := 0 }
/-- R202: last yaw rate, 0.001 degree/s. -/
def egoWl : Vr := { id := 25005, init := 0 }
/-- R203: for each of the last 10 steps whether it had an IMU sample, one bit each. -/
def imuHist : Vr := { id := 25006, init := 0 }
/-- R203: steps for which IMUOK has been 0. -/
def imuBad : Vr := { id := 25008, init := 0 }
/-- R203: steps for which WHLOK has been 0. -/
def whlBad : Vr := { id := 25009, init := 0 }
/-- R202: steps of standstill. -/
def stillRun : Vr := { id := 25010, init := 0 }
/-- R206: a reset is due at the next step. -/
def egoRst : Vr := { id := 25011, init := 0 }
/-- R230: the pose ring has stopped after a fault. -/
def egoRingStop : Vr := { id := 25012, init := 0 }
/-- R205: SLIP in units of 2^-16 of 0.01 per cent. -/
def slipA : Vr := { id := 25013, init := 0 }
/-- R205: instant at which CONTRA rose. -/
def contraAt : Vr := { id := 25014, init := 0 }
/-- R206, R209, R227: the next update clears the whole grid. -/
def gridClr : Vr := { id := 24001, init := 0 }

/-! ### CNPY and NPU -/
/-- R209: Grove instant, whole ns, of the next grid update; -1 before the first. -/
def nextTk : Vr := { id := 24002, init := -1 }
/-- R209: instant of the last update started, -1 none. -/
def gridTk : Vr := { id := 24003, init := -1 }
/-- R209: centre x of the anchor cell, 0.1 mm. -/
def gridXA : Vr := { id := 24004, init := 0 }
/-- R209: centre y of the anchor cell, 0.1 mm. -/
def gridYA : Vr := { id := 24005, init := 0 }
/-- R209: the update in progress cleared every cell. -/
def gridCleared : Vr := { id := 24006, init := 0 }
/-- R209: EGO was not valid at the update in progress. -/
def gridInv : Vr := { id := 24007, init := 0 }
/-- R214: sensors fused in the update in progress, one bit each. -/
def gridFused : Vr := { id := 24008, init := 0 }
/-- R209: sx of the update in progress. -/
def gridSx : Vr := { id := 24009, init := 0 }
/-- R209: sy of the update in progress. -/
def gridSy : Vr := { id := 24010, init := 0 }
/-- R214: pose x at Tk. -/
def gridPx : Vr := { id := 24011, init := 0 }
/-- R214: pose y at Tk. -/
def gridPy : Vr := { id := 24012, init := 0 }
/-- R214: yaw at Tk. -/
def gridPsi : Vr := { id := 24013, init := 0 }
/-- R214: CNPY_EXCL at Tk. -/
def gridExcl : Vr := { id := 24014, init := 0 }
/-- R214: instant at which the update in progress started. -/
def gridAt : Vr := { id := 24015, init := 0 }
/-- R209: group of 25 storage rows that the next expiry sweep visits. -/
def gridSweep : Vr := { id := 24016, init := 0 }
/-- R225: a grid or header write of the update in progress has faulted. -/
def gridFlt : Vr := { id := 24017, init := 0 }
/-- R214: next record of the header ring. -/
def hdrWr : Vr := { id := 24018, init := 0 }
/-- R228: the header ring has stopped after a fault. -/
def hdrStop : Vr := { id := 24019, init := 0 }
/-- R198: consecutive frames not in step; by sensor. -/
def senBad : Vr := { id := 24021, init := 0 }
/-- R198: instant of the last post, or of the entry to ACQ; by sensor. -/
def senPost : Vr := { id := 24022, init := 0 }
/-- R199: a projection check of the sensor runs; by sensor. -/
def chkOn : Vr := { id := 24024, init := 0 }
/-- R199: bins since the sensor entered CHECK; by sensor. -/
def chkBins : Vr := { id := 24025, init := 0 }
/-- R219: bins gathered for the next residual record; by sensor. -/
def resBins : Vr := { id := 24026, init := 0 }
/-- R219: last bin instant, whole ns. -/
def resLast : Vr := { id := 24027, init := 0 }
/-- R232: Grove time, whole ns, right after the last step. -/
def stepTo : Vr := { id := 7033, init := -1208925819614629174706176 }
/-- R223: job that runs, -1 none. -/
def npuJob : Vr := { id := 26001, init := -1 }
/-- R223: instant at which it started. -/
def npuAt : Vr := { id := 26002, init := 0 }
/-- R223: a frame posted during the run is kept; by job. -/
def jobNextOk : Vr := { id := 26003, init := 0 }

/-! ### CROP and the acoustic front end -/
/-- R246: DIST at Tk, um. -/
def gridDist : Vr := { id := 24028, init := 0 }
/-- R246: EGO's speed at Tk, mm/s. -/
def gridV : Vr := { id := 24029, init := 0 }
/-- R246: EGO's yaw rate at Tk, 0.01 degree/s. -/
def gridW : Vr := { id := 24030, init := 0 }
/-- R246: a GRIDDONE waits for its sampling pass. -/
def gridNew : Vr := { id := 24031, init := 0 }
/-- R261: instant of the last GRIDDONE. -/
def gridDoneAt : Vr := { id := 24032, init := -100000000000000000 }
/-- R257: instant of the last step of Grove time, -1 none. -/
def stepU : Vr := { id := 7034, init := -1 }
/-- R234: 1 while an acoustic channel is armed; by channel. -/
def acuArm : Vr := { id := 35010, init := 0 }
/-- R234: instant of the last trigger; by channel. -/
def acuTrig : Vr := { id := 35011, init := 0 }
/-- R236: grain impacts; by channel, + 16 for the window that ended. -/
def acuG : Vr := { id := 35013, init := 0 }
/-- R236: other impacts; by channel, + 16 for the window that ended. -/
def acuO : Vr := { id := 35014, init := 0 }
/-- R234: pile-up milliseconds; by channel, + 16 for the window that ended. -/
def acuP : Vr := { id := 35015, init := 0 }
/-- R240: sum of peaks; by channel, + 16 for the window that ended. -/
def acuPk : Vr := { id := 35016, init := 0 }
/-- R234: pile-up milliseconds of the present stretch; by channel. -/
def acuPn : Vr := { id := 35017, init := 0 }
/-- R237: channels that clipped in the window that ended. -/
def acuSat : Vr := { id := 35018, init := 0 }
/-- R236: a window has ended and is not yet published. -/
def acuClosed : Vr := { id := 35019, init := 0 }
/-- R237: instant of that window's end, whole ns. -/
def acuEnd : Vr := { id := 35020, init := 0 }
/-- R238: an apply took effect in the open window; index 1 for the window that ended. -/
def acuApplied : Vr := { id := 35021, init := 0 }
/-- R239: a snapshot is armed (1) or taking its samples (2). -/
def snapArm : Vr := { id := 35022, init := 0 }
/-- R239: instant of its trigger. -/
def snapAt : Vr := { id := 35023, init := 0 }
/-- R243: Grove instant, whole ns, of the last tick. -/
def cropTick : Vr := { id := 27001, init := 0 }
/-- R243: the last tick had a flow record. -/
def flowRec : Vr := { id := 27002, init := 0 }
/-- R242: mass flow, g/s. -/
def flowMass : Vr := { id := 27003, init := 0 }
/-- R242: moisture, 0.01 %. -/
def flowMoist : Vr := { id := 27004, init := 0 }
/-- R242, R250: last valid feeder speed, 0.1 rpm. -/
def flowFspd : Vr := { id := 27005, init := 0 }
/-- R242: measured feed rate, g/s. -/
def flowFeed : Vr := { id := 27006, init := 0 }
/-- R242: byte 20 of the record. -/
def flowBits : Vr := { id := 27007, init := 0 }
/-- R243: ticks without a usable record. -/
def flowMiss : Vr := { id := 27008, init := 0 }
/-- R243: FLOWSTALE has been raised since the last usable record. -/
def flowStaled : Vr := { id := 27009, init := 0 }
/-- R249: DMAX, um. -/
def dmax : Vr := { id := 27010, init := 0 }
/-- R249: RSTCNT at the last tick. -/
def cropRst : Vr := { id := 27011, init := 0 }
/-- R249: EGO's VALID at the last tick. -/
def cropVal : Vr := { id := 27012, init := 0 }
/-- R261: the stage and the arrival log are emptied at the next tick. -/
def stageClr : Vr := { id := 27013, init := 0 }
/-- R252: ticks since a tap's last PER-th tick; by tap. -/
def tapCnt : Vr := { id := 27014, init := 0 }
/-- R263: the tap's last result was NOLA; by tap. -/
def tapNola : Vr := { id := 27015, init := 0 }
/-- R256: Grove instant, whole ns, of the next pair; -1 before the first. -/
def nextY : Vr := { id := 27016, init := -1 }
/-- R258: the pair ring has stopped after a fault. -/
def yStop : Vr := { id := 27020, init := 0 }

/-! ### CAN channels and ISOBUS -/
/-- R412: transmit error counter, above 0xFF too; by channel. -/
def canTec : Vr := { id := 28001, init := 0 }
/-- R412: receive error counter; by channel. -/
def canRec : Vr := { id := 28002, init := 0 }
/-- R279, R289: instant of the last frame stored in a buffer; by 256 * channel + buffer. -/
def canRx : Vr := { id := 28003, init := -1000000000000000000 }
/-- R282: loop that drives a mailbox, plus 1; by 256 * channel + buffer. -/
def canLoop : Vr := { id := 28004, init := 0 }
/-- R405: instant of the pending request; by 256 * channel + buffer, and 2048 + NAME for the claim frames. -/
def txAt : Vr := { id := 28005, init := 0 }
/-- R406: ABORT came while the buffer was transmitting; by 256 * channel + buffer. -/
def txStop : Vr := { id := 28006, init := 0 }
/-- R413: instant of the channel's last bus-off report. -/
def boRep : Vr := { id := 28007, init := -1000000000000000000 }
/-- R400: the FIFO is full; by 2 * channel + FIFO. -/
def fifoFull : Vr := { id := 28008, init := 0 }
/-- R411: instant of the channel's last Firebreak state message. -/
def fbLast : Vr := { id := 28009, init := -1000000000000000000 }
/-- R411: a group's state has changed since that message; by channel. -/
def fbChg : Vr := { id := 28010, init := 0 }
/-- R411: sequence of the next Firebreak state message; by channel. -/
def fbSeq : Vr := { id := 28011, init := 0 }
/-- R92: instant of the channel's last reference message. -/
def refLast : Vr := { id := 28012, init := -1000000000000000000 }
/-- R92: sequence number of the next reference message; by channel. BUS holds it, and a control-plane reset clears it (log entry 203). -/
def refSeq : Vr := { id := 28013, init := 0 }
/-- R92: sequence number of the last message sent successfully; by channel. -/
def refSent : Vr := { id := 28014, init := 0 }
/-- R92: SOF of that message, whole ns; by channel. -/
def refSof : Vr := { id := 28015, init := 0 }
/-- R415: what the internal buffer of a NAME waits to send: 0 nothing, 1 Address Claimed, 2 Cannot Claim; by NAME. -/
def isoPend : Vr := { id := 28016, init := 0 }
/-- R415: the present claim has been sent; by NAME. -/
def isoSent : Vr := { id := 28017, init := 0 }
/-- R415: instant at which it was sent; by NAME. -/
def isoAt : Vr := { id := 28018, init := 0 }
/-- R418: its SOF, whole ns; by NAME. -/
def isoSof : Vr := { id := 28019, init := 0 }
/-- R416: addresses tried since CLAIM was written, one bit each; by NAME. -/
def isoTried : Vr := { id := 28020, init := 0 }
/-- R416: a Cannot Claim waits for its delay: 0 no, 1 after a lost claim, 2 as an answer; by NAME. -/
def isoWait : Vr := { id := 28021, init := 0 }
/-- R416: start of the delay; by NAME. -/
def isoFrom : Vr := { id := 28022, init := 0 }
/-- R416: the delay in units of 0.6 ms; by NAME. -/
def isoDelay : Vr := { id := 28023, init := 0 }
/-- R418: state of a partner entry: 0 EMPTY, 1 PRESENT, 2 GONE; by address. -/
def ptState : Vr := { id := 28030, init := 0 }
/-- R418: NAMED; by address. -/
def ptNamed : Vr := { id := 28031, init := 0 }
/-- R418: OWN; by address. -/
def ptOwn : Vr := { id := 28032, init := 0 }
/-- R418: NAME; by address. -/
def ptName : Vr := { id := 28033, init := 0 }
/-- R418: FIRST, whole ns; by address. -/
def ptFirst : Vr := { id := 28034, init := 0 }
/-- R418: LAST, whole ns; by address. -/
def ptLast : Vr := { id := 28035, init := 0 }
/-- R419: SEQ; by address. -/
def ptSeq : Vr := { id := 28036, init := 0 }
/-- R418: instant of the last frame; by address. -/
def ptSeen : Vr := { id := 28037, init := 0 }

/-! ### WHL -/
/-- R266: the next sample instant of a loop on its own grid, whole ns; -1 none; by loop. -/
def lpNext : Vr := { id := 32010, init := -1 }
/-- R267: what steps had moved the grids by when the loop was enabled; by loop. -/
def lpGrid : Vr := { id := 32011, init := 0 }
/-- R268: the sample instant of the last sample, 2^-16 ns on the Grove scale; by loop. -/
def lpLatch : Vr := { id := 32012, init := 0 }
/-- R285: the same instant without steps of Grove time; by loop. -/
def lpLatchT : Vr := { id := 32013, init := 0 }
/-- R265: a sample waits for its evaluation; by loop. -/
def lpDue : Vr := { id := 32014, init := 0 }
/-- R284: the loop ends at its next sample instant; by loop. -/
def lpRel : Vr := { id := 32015, init := 0 }
/-- R282: the loop has taken, or failed to take, its destination; by loop. -/
def lpTook : Vr := { id := 32016, init := 0 }
/-- R282: kind of the destination owned, 0 none; by loop. -/
def lpOwnK : Vr := { id := 32017, init := 0 }
/-- R282: SOL or LSW channel, or 256 * CAN channel + buffer; by loop. -/
def lpOwnI : Vr := { id := 32018, init := 0 }
/-- R290: no sample has run since the loop was enabled; by loop. -/
def lpFresh : Vr := { id := 32019, init := 0 }
/-- R290: the rate limiter's state rl, Q.16; by loop. -/
def lpRl : Vr := { id := 32020, init := 0 }
/-- R270: D, Q32.16; by loop. -/
def lpD : Vr := { id := 32021, init := 0 }
/-- R270: e_prev; by loop. -/
def lpE : Vr := { id := 32022, init := 0 }
/-- R270: y_prev; by loop. -/
def lpY : Vr := { id := 32023, init := 0 }
/-- R292: the last winning order; by loop. -/
def lpV : Vr := { id := 32024, init := 0 }
/-- R292: there has been one; by loop. -/
def lpVok : Vr := { id := 32025, init := 0 }
/-- R268: a latched input: 0 feedback, 1 to 4 ports, 5 friction, 6 cogging index; by 8 * loop + input. -/
def lpLat : Vr := { id := 32026, init := 0 }
/-- R268: its source reports no fault; by 8 * loop + input. -/
def lpLatOk : Vr := { id := 32027, init := 0 }
/-- R287: byte 34 of the record of the last sample; by loop. -/
def lpFlags : Vr := { id := 32028, init := 0 }
/-- R286: q of the last sample; by loop. -/
def lpQ : Vr := { id := 32029, init := 0 }
/-- R283, R287: samples since the loop was enabled; by loop. -/
def lpCnt : Vr := { id := 32030, init := 0 }
/-- R285: an output waits to be applied; by loop. -/
def lpOut : Vr := { id := 32031, init := 0 }
/-- R285: the instant at which it is applied, 2^-16 ns without steps; by loop. -/
def lpOutT : Vr := { id := 32032, init := 0 }
/-- R265: the instant at which a lane's last evaluation ends, 2^-16 ns without steps; by lane. -/
def laneFree : Vr := { id := 32033, init := 0 }
/-- R289: the last value accepted from a Command slot; by 4 * loop + port. -/
def cmdV : Vr := { id := 32037, init := 0 }
/-- R294, R302: the guard fails. -/
def whlGuard : Vr := { id := 32039, init := 0 }
/-- R293: winner and highest-ranked loser of the present conflict, -1 none; by loop. -/
def confKey : Vr := { id := 32040, init := -1 }
/-- R293: instant of the loop's last conflict report. -/
def confAt : Vr := { id := 32041, init := -1000000000000000000 }
/-- R293: reports suppressed since that report; by loop. -/
def confSup : Vr := { id := 32042, init := 0 }
/-- R281: the loop that owns a SOL channel, plus 1; by channel. -/
def solOwn : Vr := { id := 33002, init := 0 }
/-- R281: the WHL current set-point of a SOL channel, mA; by channel. -/
def solWhl : Vr := { id := 33003, init := 0 }
/-- R281: the loop that owns an LSW channel, plus 1; by channel. -/
def lswOwn : Vr := { id := 34001, init := 0 }
/-- R281: the WHL duty of an LSW channel, 0.01 %; by channel. -/
def lswWhl : Vr := { id := 34002, init := 0 }
/-- R279, R360: a PSC link is down; by PSC. -/
def pscDown : Vr := { id := 34003, init := 0 }
/-- R380: FBRK has reached RUN since module reset. -/
def fbrkRan : Vr := { id := 36001, init := 0 }
/-- R291, R380: groups enabled in the configuration that the PSCs keep. -/
def fbrkKept : Vr := { id := 36002, init := 0 }
/-- R291, R378: a Kiln run of K5 is in progress. -/
def kilnK5 : Vr := { id := 5001, init := 0 }

/-! ### SOL -/
/-- R314: a request waits for its start: 1 of a register or a loop, 2 of the queue; by channel. -/
def solReq : Vr := { id := 33010, init := 0 }
/-- R314: the check at which it waits; by channel. -/
def solStage : Vr := { id := 33011, init := 0 }
/-- R316: instant at which check 1 allowed the request; by channel. -/
def solChk : Vr := { id := 33012, init := 0 }
/-- R317: instant at which the wait for the converter began; by channel. -/
def solBstAt : Vr := { id := 33013, init := 0 }
/-- R312: an event runs: 1 of a register or a loop, 2 of the queue; by channel. -/
def solRun : Vr := { id := 33014, init := 0 }
/-- R312: DUR of the queued event that runs, us; by channel. -/
def solDur : Vr := { id := 33015, init := 0 }
/-- R315: the request level must return to 0 before it asks again; by channel. -/
def solNeed : Vr := { id := 33016, init := 0 }
/-- R314: instant of the last event's actual start; by channel. -/
def solStartAt : Vr := { id := 33017, init := -1000000000000000000 }
/-- R314: instant at which the last DECAY ended; by channel. -/
def solDecEnd : Vr := { id := 33018, init := -1000000000000000000 }
/-- R310: instant at which the present phase was entered; by channel. -/
def solPhAt : Vr := { id := 33019, init := -1000000000000000000 }
/-- R311: the current has reached IPEAK, or TBMAX has passed, in the event that runs; by channel. -/
def solPk : Vr := { id := 33020, init := 0 }
/-- R323: the search for a kink runs; by channel. -/
def solKink : Vr := { id := 33021, init := 0 }
/-- R323: instant at which the last DECAY began; by channel. -/
def solDecAt : Vr := { id := 33022, init := 0 }
/-- R330: flags raised during the last event; by channel. -/
def solEvF : Vr := { id := 33023, init := 0 }
/-- R316: the channel that holds a bank's peak right, plus 1; by bank. -/
def solRight : Vr := { id := 33024, init := 0 }
/-- R328, R380: banks that Firebreak cuts, one bit each; all until FBRK first runs. -/
def solFb : Vr := { id := 33025, init := 63 }
/-- R305: a converter's target at the mark below, mV; by converter. -/
def bstTgt : Vr := { id := 33027, init := 100000 }
/-- R305: instant of that mark; by converter. -/
def bstAt : Vr := { id := 33028, init := 0 }
/-- R331: instant of EN or of the last event start on a converter. -/
def bstEv : Vr := { id := 33029, init := 0 }

/-! ### LSW -/
/-- R338: instant of the last turn-on; by channel. -/
def lswAt : Vr := { id := 34010, init := 0 }
/-- R352: instant at which the channel last stopped conducting; by channel. -/
def lswOffAt : Vr := { id := 34011, init := 0 }
/-- R344: theta, uK with 16 fraction bits; LIM/2 at a start without a record (R347); by channel. -/
def lswTheta : Vr := { id := 34012, init := 1310720000000 }
/-- R361: a REARM mark; by channel. -/
def lswRearm : Vr := { id := 34013, init := 0 }
/-- R350: instant of the last trip; by channel. -/
def lswTripAt : Vr := { id := 34014, init := 0 }
/-- R350: the last trip was SC; by channel. -/
def lswScTrip : Vr := { id := 34015, init := 0 }
/-- R356: instant of the staggered turn-on, -1 none; by channel. -/
def lswDue : Vr := { id := 34016, init := -1 }
/-- R353: a turn-on waits for the end of crank-hold; by channel. -/
def lswCw : Vr := { id := 34017, init := 0 }
/-- R357: the command, 0.01 %, that PSC0 keeps while it holds its outputs after a link loss; by channel. -/
def lswKept : Vr := { id := 34041, init := 0 }
/-- R359, R380: channels that Firebreak cuts, one bit each; all until FBRK first runs. -/
def lswFb : Vr := { id := 34018, init := 16777215 }
/-- R344: 1 ms ticks at the channel's last model step; by channel. -/
def wireTick : Vr := { id := 34019, init := 0 }
/-- R335: 1 ms ticks at the last stud step; by stud. -/
def studTick : Vr := { id := 34020, init := 0 }
/-- R335: sum of S over the history, uA; by stud. -/
def studSum : Vr := { id := 34021, init := 0 }
/-- R336: milliseconds for which STUD_AVG has been at or below STUDLIM - 20 A; by stud. -/
def studLow : Vr := { id := 34022, init := 0 }
/-- R336: milliseconds for which STUD_AVG has exceeded STUDLIM with nothing left to shed; by stud. -/
def studHi : Vr := { id := 34023, init := 0 }
/-- R335: instant of the last shedding step; by stud. -/
def shedAt : Vr := { id := 34024, init := -1000000000000000000 }
/-- R336: instant of the last return; by stud. -/
def shedRet : Vr := { id := 34025, init := -1000000000000000000 }
/-- R352: consecutive checks above 8.0 V, negative for consecutive checks not above; by channel. -/
def olHi : Vr := { id := 34026, init := 0 }
/-- R352: consecutive checks in the OPEN range, negative for checks outside it; by channel. -/
def olMid : Vr := { id := 34027, init := 0 }
/-- R351: number of the present 10 s window. -/
def retryWin : Vr := { id := 34028, init := 0 }
/-- R357: instant of the link loss; by PSC. -/
def pscAt : Vr := { id := 34029, init := 0 }
/-- R347: stored theta; by channel. In MRAM. -/
def thStore : Vr := { id := 34030, init := 0, keep := true }
/-- R347: AON time of the store. In MRAM. -/
def thTime : Vr := { id := 34031, init := 0, keep := true }
/-- R347: the record is valid. In MRAM. -/
def thValid : Vr := { id := 34032, init := 0, keep := true }
/-- R383, R384: logic causes present: bit 1 LINK, 2 LANE, 3 READBACK, 4 DEAD, 5 KILN. -/
def fbCause : Vr := { id := 36003, init := 0 }

/-! ### FBRK -/
/-- R380: LSW channels that the PSCs keep cut; by the configuration that last ran. -/
def fbKeepLsw : Vr := { id := 36004, init := 0 }
/-- R380: solenoid banks that the PSCs keep cut. -/
def fbKeepBank : Vr := { id := 36005, init := 0 }
/-- R372: instant at which a test source last began its pulse; by 2 * pair + channel. -/
def tpAt : Vr := { id := 36010, init := -1000000000000000000 }
/-- R372: the source whose pulse is the last begun, -1 none. -/
def tpCur : Vr := { id := 36011, init := -1 }
/-- R374: that pulse is not yet judged. -/
def tpOpen : Vr := { id := 36012, init := 0 }
/-- R374: the source's own input has read low within 300 us of the pulse's start; by 2 * pair + channel. -/
def tpLow : Vr := { id := 36013, init := 0 }
/-- R374: own pulses failed in a row; by 2 * pair + channel. -/
def tpCnt : Vr := { id := 36014, init := 0 }
/-- R374: the input read high before the pulse; by 2 * pair + channel. -/
def xsPre : Vr := { id := 36015, init := 0 }
/-- R374: the input has read low during the pulse; by 2 * pair + channel. -/
def xsLow : Vr := { id := 36016, init := 0 }
/-- R374: cross-shorted pulses in a row; by 32 * input + source. -/
def xsCnt : Vr := { id := 36017, init := 0 }
/-- R373: last level of an input; by 2 * pair + channel. -/
def inLvl : Vr := { id := 36018, init := 0 }
/-- R373: what the run of samples shows, 1 closed; by 2 * pair + channel. -/
def runV : Vr := { id := 36019, init := 0 }
/-- R373: unblanked samples in the run; by 2 * pair + channel. -/
def runN : Vr := { id := 36020, init := 0 }
/-- R391: instant of the run's first sample; by 2 * pair + channel. -/
def runAt : Vr := { id := 36021, init := 0 }
/-- R375: instant at which DISC was entered; by pair. -/
def discAt : Vr := { id := 36022, init := 0 }
/-- R381: the pair has been OPEN since its test was demanded; by pair. -/
def tstOpen : Vr := { id := 36023, init := 0 }
/-- R378: the group has cut since it was last CLOSED and no restart was accepted; by group. -/
def grpCut : Vr := { id := 36024, init := 0 }
/-- R391: instant of the first open sample of the group's cut; by group. -/
def grpOpen : Vr := { id := 36025, init := 0 }
/-- R391: the reaction of the group's cut is not yet recorded; by group. -/
def grpReact : Vr := { id := 36026, init := 0 }
/-- R377: consecutive cycles in which the lanes' group states differed. -/
def laneDiff : Vr := { id := 36027, init := 0 }
/-- R377: instant of the last cycle. -/
def fbCyc : Vr := { id := 36028, init := -1000000000000000000 }
/-- R384: FBRK_RST is high. -/
def rbHigh : Vr := { id := 36029, init := 0 }
/-- R384: instant at which it rose. -/
def rbAt : Vr := { id := 36030, init := 0 }
/-- R384: instant at which it fell. -/
def rbLow : Vr := { id := 36031, init := -1000000000000000000 }
/-- R384: instant at which the reset window opened. -/
def rwAt : Vr := { id := 36032, init := 0 }

/-! ### FBRK and the Kiln -/
/-- R383, R384: the last Kiln run of K5 failed. -/
def fbKiln : Vr := { id := 36033, init := 0 }

/-! ### IOMMU and DMA -/
/-- R499: IOTLB hits in the present millisecond. -/
def tlbHit : Vr := { id := 9002, init := 0 }
/-- R499: IOTLB misses in the present millisecond. -/
def tlbMiss : Vr := { id := 9003, init := 0 }
/-- R483: transactions of a channel in flight; by channel. -/
def dmaFly : Vr := { id := 10001, init := 0 }
/-- R490: the local number after the channel that an engine served last; by 4 * engine + PRIO. -/
def dmaRr : Vr := { id := 10002, init := 0 }
/-- R497: progress at the channel's last park; by 4 * channel: the descriptor, 1 ROW, 2 DONE. -/
def dmaLast : Vr := { id := 10003, init := -1 }
/-- R497: an earlier fault has moved the park point; by channel. -/
def dmaMulti : Vr := { id := 10004, init := 0 }
/-- R475: the block that the patrol scrubber reads next. -/
def scrubAt : Vr := { id := 8002, init := 0 }

/-! ### DMA faults -/
/-- R501: Grove time of the channel's fault, whole ns; by channel. -/
def dmaAt : Vr := { id := 10005, init := 0 }

/-! ### ETH and RIDE -/
/-- R433: instant of the port's last Sync; by port. -/
def gpSync : Vr := { id := 42010, init := -1000000000000000000 }
/-- R433: instant of the port's last Pdelay_Req; by port. -/
def gpPdly : Vr := { id := 42011, init := -1000000000000000000 }
/-- R438: the INST for which the entry's message has been dealt with; by trigger entry. -/
def trgSent : Vr := { id := 42012, init := -1 }
/-- R435: a frame of the stream is in progress; by stream. -/
def strOpen : Vr := { id := 42013, init := 0 }
/-- R436: sequence number of the stream's last packet; by stream. -/
def strSeq : Vr := { id := 42014, init := 0 }
/-- R436: highest line of the present frame; by stream. -/
def strLine : Vr := { id := 42015, init := -1 }
/-- R436: the present frame has a gap, a missing line, data beyond BUFSZ or a DMA fault; by stream. -/
def strBad : Vr := { id := 42016, init := 0 }
/-- R435: STAMP of the present frame; by stream. -/
def strTs : Vr := { id := 42017, init := 0 }
/-- R435: the buffer that the present frame fills; by stream. -/
def strBuf : Vr := { id := 42018, init := 0 }
/-- R429: instant of the last whole second of ageing. -/
def fdbAt : Vr := { id := 42019, init := 0 }
/-- R431: the gates that apply; by port. -/
def gates : Vr := { id := 42020, init := 255 }
/-- R432: what a meter's bucket holds, in 2^-16 ns at one byte a ns; -1 full; by meter. -/
def mtrTok : Vr := { id := 42021, init := -1 }
/-- R432: instant of the meter's last frame; by meter. -/
def mtrAt : Vr := { id := 42022, init := 0 }
/-- R450: FB frames sent; by head port. -/
def rideFbN : Vr := { id := 43001, init := 0 }
/-- R444: the next Tk on the grid before any step, whole ns; -1 none. -/
def rideNext : Vr := { id := 43002, init := -1 }
/-- R444: the present Tk, whole ns. -/
def rideTk : Vr := { id := 43003, init := 0 }
/-- R446: the node takes part in the present cycle; by node. -/
def rideExp : Vr := { id := 43004, init := 0 }
/-- R446: the node's UP frame of the present cycle is in; by node. -/
def rideGot : Vr := { id := 43005, init := 0 }
/-- R447: a committed image waits for the next DOWN frame; by node. -/
def rideCom : Vr := { id := 43006, init := 0 }
/-- R456: the node is a receiving node; by node. -/
def rideRecv : Vr := { id := 43007, init := 0 }
/-- R456: the link is up; by head port, and 4 + 4 * node + port for a node's port. -/
def rideUp : Vr := { id := 43008, init := 0 }
/-- R454: the ring is proved. -/
def rideRing : Vr := { id := 43009, init := 0 }
/-- R454: the copy of the present cycle's DOWN frame has come back. -/
def rideRet : Vr := { id := 43010, init := 1 }
/-- R449: instant of the last TIME exchange. -/
def rideTime : Vr := { id := 43011, init := -1000000000000000000 }
/-- R449: TIME exchanges made. -/
def rideTimeN : Vr := { id := 43012, init := 0 }
/-- R456: HELLO frames sent; by head port. -/
def rideHello : Vr := { id := 43013, init := 0 }

/-! ### Command slots -/
/-- R571, R593, R620: SEQ plus 1 of the commit of a command slot that has been dealt with; by slot. -/
def cmdSeen : Vr := { id := 11003, init := 0 }
/-- R623: instant at which a CLR_PLANE bit last changed; by plane. -/
def planeAt : Vr := { id := 11004, init := 0 }
/-- R600: the block is under a Kiln run; by slot. -/
def underKiln : Vr := { id := 5002, init := 0 }

/-! ### SHRD and SAGR -/
/-- R566: the next index of the keep area. -/
def keepNext : Vr := { id := 4010, init := 0, keep := true }
/-- R565: the next index of the spill area. -/
def spillNext : Vr := { id := 4011, init := 2048, keep := true }
/-- R578: the control-plane heartbeat is blocked at the deadman input. -/
def hbBlock : Vr := { id := 3001, init := 0 }

/-! ### SEG -/
/-- R548: phase of the line in progress: 0 none, 1 rails slewing, 2 reset, 3 select, 4 evolve. -/
def segPh : Vr := { id := 37001, init := 0 }
/-- R548, R549: instant at which that phase started. -/
def segAt : Vr := { id := 37002, init := 0 }
/-- R551: the band sampled for the line in progress. -/
def segBand : Vr := { id := 37003, init := 0 }
/-- R550: the content sampled for the line in progress; by word. -/
def segWord : Vr := { id := 37004, init := 0 }
/-- R552: select fraction of the line in progress; by segment. -/
def segAmp : Vr := { id := 37005, init := 0 }
/-- R555: the journal is replayed. -/
def segReplay : Vr := { id := 37006, init := 0 }
/-- R555: a commit waits for the end of replay: 1, or 2 with FULL. -/
def segWait : Vr := { id := 37007, init := 0 }
/-- R549: writing has stopped on a generator fault. -/
def segStop : Vr := { id := 37008, init := 0 }
/-- R551: the panel is too cold to write. -/
def segCold : Vr := { id := 37009, init := 0 }
/-- R556: REASON of the Fallen image to be committed after replay. -/
def segFallen : Vr := { id := 37011, init := 0 }

/-! ### SYS requests -/
/-- R513: a control-plane reset is requested, with its SYS_CPRST.CAUSE; 0 none. -/
def cpReq : Vr := { id := 1010, init := 0 }
/-- R513: a data-plane reset is requested, with its SYS_DPRST.CAUSE; 0 none. -/
def dpReq : Vr := { id := 1011, init := 0 }
/-- R522: a module reset is requested, with its SYS_RSTC.CAUSE; 0 none. -/
def modReq : Vr := { id := 1012, init := 0 }
/-- R514, R532: instant of the last release; by plane, 0 control, 1 data. -/
def relAt : Vr := { id := 1013, init := 0 }
/-- R519: the life-cycle state that governs. -/
def lcSt : Vr := { id := 1014, init := 2 }
/-- R513: the keeper loads the control plane: 1. -/
def cpLoad : Vr := { id := 1015, init := 0 }
/-- R513: the keeper loads the data plane: 1. -/
def dpLoad : Vr := { id := 1016, init := 0 }
/-- R503: DRAM is trained next. -/
def dramWait : Vr := { id := 1017, init := 1 }
/-- R510: the keeper has run since module reset. -/
def booted : Vr := { id := 1018, init := 0 }
/-- R624: filtered level of PWR_WAKE. -/
def line : Vr := { id := 1022, init := 0, keep := true }
/-- R523: present level of the strap pin. -/
def strapNow : Vr := { id := 1023, init := 0, keep := true }

/-! ### UPD -/
/-- R539: blocks written; by slot. -/
def slDone : Vr := { id := 48001, init := 0, keep := true }
/-- R544: blocks in the image; by slot. -/
def slTotal : Vr := { id := 48002, init := 0, keep := true }
/-- R539: image length, bytes; by slot. -/
def slLen : Vr := { id := 48003, init := 0, keep := true }
/-- R536: the settings area that is present. -/
def setPres : Vr := { id := 48004, init := 0, keep := true }
/-- R536: the other area is kept. -/
def setOther : Vr := { id := 48005, init := 0, keep := true }
/-- R536: SFMT of an area; by area. -/
def setFmt : Vr := { id := 48006, init := 0, keep := true }
/-- R534: DRAM address of the image. -/
def xfAddr : Vr := { id := 48007, init := 0 }
/-- R534: image length. -/
def xfLen : Vr := { id := 48008, init := 0 }
/-- R533: tag of the STAGE or PUSH command. -/
def xfTag : Vr := { id := 48009, init := 0 }
/-- R530: instant at which the slot entered TRIAL. -/
def trialAt : Vr := { id := 48010, init := 0 }
/-- R537: targets of the push, by bit. -/
def pushTgt : Vr := { id := 48011, init := 0 }
/-- R539: targets that have detached, by bit. -/
def pushDet : Vr := { id := 48012, init := 0 }
/-- R538: highest block confirmed; by target. -/
def pushAck : Vr := { id := 48013, init := -1 }
/-- R538: the next block to send. -/
def pushNext : Vr := { id := 48014, init := 0 }
/-- R538: blocks sent, again or for the first time. -/
def pushSent : Vr := { id := 48015, init := 0 }
/-- R538: instant at which an ACK last advanced. -/
def pushAt : Vr := { id := 48016, init := 0 }
/-- R537: identifier of the push. -/
def pushId : Vr := { id := 48017, init := 0 }
/-- R541: identifier of the push received. -/
def rxId : Vr := { id := 48018, init := 0 }
/-- R538: the next block in order. -/
def rxNext : Vr := { id := 48019, init := 0 }
/-- R537: block being put together from its frames. -/
def rxAsm : Vr := { id := 48020, init := -1 }
/-- R541: port of the push received. -/
def rxPort : Vr := { id := 48021, init := 0 }
/-- R545: the block in the window is being written. -/
def norWin : Vr := { id := 48023, init := 0 }
/-- R655: result of the last window block: 1 stored, 2 refused. -/
def blkRes : Vr := { id := 48024, init := 0 }

/-! ### PWR -/
/-- R626: step of the shutdown sequence: 0 none, 1 waiting for ACKSHUT, 2 waiting for the control plane to be quiet. -/
def pwrStep : Vr := { id := 1100, init := 0 }
/-- R626: instant at which that step began. -/
def pwrAt : Vr := { id := 1101, init := 0 }
/-- R626: DPGRACE as read at step 1, ms. -/
def pwrGrace : Vr := { id := 1102, init := 0 }
/-- R592, R595: an accepted transition waits for a Kiln run to end. -/
def pwrHeld : Vr := { id := 1103, init := 0 }
/-- R620: who asked for the transition: 0 PWR itself, 1 control plane, 2 data plane, 3 Glade monitor. -/
def pwrSrc : Vr := { id := 1104, init := 0 }
/-- R620: tag of that request. -/
def pwrTag : Vr := { id := 1105, init := 0 }
/-- R624, R626: mode to which a latched wake goes, 0 none. -/
def wakePend : Vr := { id := 1106, init := 0 }
/-- R618, R626: instant at which the present ladder state was entered. -/
def ladAt : Vr := { id := 1107, init := 0 }
/-- R624: ladder state to which the module returns after a monitor wake, 0 none. -/
def monLad : Vr := { id := 1108, init := 0 }
/-- R624: instant of the last line served. -/
def monAt : Vr := { id := 1109, init := 0 }
/-- R625: instant of the SHUTDOWN notice. -/
def noticeAt : Vr := { id := 1110, init := 0 }
/-- R625: PWR_WAKE has fallen and no notice has followed. -/
def keyOff : Vr := { id := 1111, init := 0 }
/-- R625: instant of that fall. -/
def lineAt : Vr := { id := 1112, init := 0 }
/-- R624, R628: the wake settings as read at entry to L2: CANACT, RIDEACT, TMRACT, CANEN, RIDEEN, TMREN by index 0 to 5. -/
def wakeSnap : Vr := { id := 1113, init := 0 }
/-- R613: instant of the deadman's deadline. -/
def hbDue : Vr := { id := 1114, init := 0 }
/-- R613: the heartbeat accepted last. -/
def hbLast : Vr := { id := 1115, init := 0 }
/-- R503, R525: bit 0, DRAM has lost its contents; bit 1, SRAM and the TCMs have. -/
def dramGone : Vr := { id := 1116, init := 0 }
/-- R612: instant at which supply loss was announced. -/
def supAt : Vr := { id := 1117, init := 0 }
/-- R590: ladder state to which the module returns after a Kiln run in PARKED, plus 1, 0 none. -/
def ladWas : Vr := { id := 1118, init := 0 }
/-- R525, R626: the planes are powered down. -/
def planesOff : Vr := { id := 1119, init := 0 }

/-! ### KILN and CONE -/
/-- R591: regions of the request that are still to run, one bit each. -/
def kilnQ : Vr := { id := 5010, init := 0 }
/-- R591: regions that the request names. -/
def kilnAll : Vr := { id := 5011, init := 0 }
/-- R591, R592, R594: who asked: 0 KILN_RUN, 1 a Management slot, 2 ROAD entry, 3 the keeper before a release. -/
def kilnSrc : Vr := { id := 5012, init := 0 }
/-- R593: tag of the command. -/
def kilnTag : Vr := { id := 5013, init := 0 }
/-- R591: a request is in progress. -/
def kilnOn : Vr := { id := 5014, init := 0 }
/-- R593: STATUS of the reply so far. -/
def kilnSt : Vr := { id := 5015, init := 0 }
/-- R590: the run in progress saves and restores the region's flops. -/
def kilnSave : Vr := { id := 5016, init := 0 }
/-- R597: released time at the region's last pass, 2^-16 ns; by region. -/
def kilnMark : Vr := { id := 5017, init := 0, keep := true }
/-- R595: a reply waits for the keeper. -/
def kilnRep : Vr := { id := 5018, init := 0 }
/-- R593: bytes 12 to 15 of that reply. -/
def kilnWord : Vr := { id := 5019, init := 0 }
/-- R597: time for which the control plane has been released before its present release, 2^-16 ns. -/
def ctlSum : Vr := { id := 5020, init := 0, keep := true }
/-- R602: a sweep runs. -/
def coneOn : Vr := { id := 6001, init := 0 }
/-- R603: instant of the last start. -/
def coneAt : Vr := { id := 6002, init := 0 }
/-- R589: a Kiln run of K3 overlaps the open window. -/
def acuBad : Vr := { id := 35030, init := 0 }

/-! ### CAN wake -/
/-- R420: the wake settings in a transceiver: EN, WUF, IDE, ID, MASK, WDATA, WDLC, RATE; by 8 * channel + number. -/
def canSnap : Vr := { id := 28040, init := 0 }
/-- R420: what woke the module: bit 0 WUP, 1 WUF, 2 FECOVF; by channel. -/
def canWoke : Vr := { id := 28041, init := 0 }

/-! ### PWR alarm -/
/-- R624: the ALARM that has been reached, so that it wakes once. -/
def alarmHit : Vr := { id := 1120, init := 0 }

/-! ### Studs -/
/-- R609: last measured voltage of a stud, mV; by stud. -/
def studMv : Vr := { id := 34040, init := 0, keep := true }

/-! ### Reset, boot and life cycle -/
/-- R514: instant of the watchdog slot's last commit, or of the release of the data plane. -/
def wdAt : Vr := { id := 1024, init := 0 }
/-- R514: the watchdog's present deadline after that instant, ms. -/
def wdPer : Vr := { id := 1025, init := 10000 }
/-- R520: instant at which the challenge was presented. -/
def chalAt : Vr := { id := 2001, init := 0 }

/-! ### Registers -/
/-- R63: the copies that a pending apply still waits for, a bit for each unit (a channel, a GNRF path, or bit 1023 for the fields that belong to no channel); by slot. -/
def applyDue : Vr := { id := 12007, init := 0 }
/-- R74: the block was left with EN 0 by a soft reset; by slot. -/
def softWas : Vr := { id := 12008, init := 0 }

/-! ### Monitor -/
/-- R650: the command whose answer follows when its action ends, 0 none. -/
def monWait : Vr := { id := 49001, init := 0 }
/-- R650: the word of the last ER answer. -/
def monWord : Vr := { id := 49002, init := 0 }
/-- R657: elapsed time of the last line served. -/
def monLast : Vr := { id := 49003, init := -655360000000000 }

/-! ### Boundaries, steps and pulses -/
/-- R64: instant of the last boundary of a unit of a block since the apply in progress was taken up, -1 none; by slot * 1024 + unit. -/
def boundAt : Vr := { id := 12009, init := -1 }
/-- R63: instant at which the apply in progress was taken up, -1 before the first; by slot. -/
def applyAt : Vr := { id := 12010, init := -1 }
/-- R86: instant of the last change of TIME_STATE.ST. -/
def lockedAt : Vr := { id := 7035, init := 0 }
/-- R85: instant at which the pending step was announced. -/
def stepAnn : Vr := { id := 7036, init := 0 }
/-- R95, R98: what the pulse in progress drives: 1 + n for TRIG_OUTn, 100 for the IMU strobe; by entry. -/
def pulseOut : Vr := { id := 7037, init := 0 }
/-- R92: sequence number of the reference message that waits in buffer 0, -1 none; by channel. -/
def refMsg : Vr := { id := 28090, init := -1 }

/-! ### Apply, continued -/
/-- R63, R431: Grove time, 2^-16 ns, at which the apply in progress was taken up; by slot. -/
def applyG : Vr := { id := 12011, init := 0 }

/-! ### Deadman -/
/-- R615: the deadline has passed since the last release of pair A. -/
def deadOut : Vr := { id := 1090, init := 0 }

/-! ### Front ends, acquisition, tracking and the time pulse -/
/-- R110: consecutive measurements below the current limit since the bias last went on; by antenna. -/
def antBelow : Vr := { id := 16011, init := 0 }
/-- R117: the line of an assigned notch lies below DETTH - 3 dB; by 4 * path + notch. -/
def notchLow : Vr := { id := 16012, init := 0 }
/-- R117: instant from which it has lain there; by 4 * path + notch. -/
def notchLowAt : Vr := { id := 16013, init := 0 }
/-- R133, R142: START as GO read it; by engine. -/
def acqStart : Vr := { id := 17012, init := 0 }
/-- R126: instant at which the present bin step began; by engine. -/
def acqStepAt : Vr := { id := 17013, init := 0 }
/-- R166: the channel has left TRACKF or LOCK, and the symbols it holds are to be recorded; by channel. -/
def navDue : Vr := { id := 18076, init := 0 }
/-- R163: latched transmit time, not reduced, 2^-32 ms; by channel. -/
def latFull : Vr := { id := 18077, init := 0 }
/-- R188: EGOREQ as the last epoch took it. -/
def egoReqE : Vr := { id := 18078, init := 1 }
/-- R188: CNT_BAD as the last pair took it. -/
def cntBadV : Vr := { id := 18079, init := 3 }
/-- R188: CNT_GOOD as the last pair took it. -/
def cntGoodV : Vr := { id := 18080, init := 10 }
/-- R177: newest EPSEQ of an accepted pair with VALID, -1 none. -/
def pvtOkLast : Vr := { id := 18081, init := -1 }
/-- R150: rate of the code NCO as a carrier Doppler, mHz; by channel. -/
def codeDop : Vr := { id := 18082, init := 0 }
/-- R150: memory of the DLL's loop filter; by channel. -/
def dllMem : Vr := { id := 18083, init := 0 }
/-- R150: memory of the FLL's loop filter; by channel. -/
def fllMem : Vr := { id := 18084, init := 0 }
/-- R150: memory of the PLL's loop filter; by channel. -/
def pllMem : Vr := { id := 18085, init := 0 }
/-- R181, R184: instant T of the last pulse, -1 none since RUN rose or Grove time stepped. -/
def pulseT : Vr := { id := 19005, init := -1 }

/-! ### Integrations -/
/-- R150: transmit time at which the last integration of a channel ended, 2^-32 ms; by channel. -/
def intC : Vr := { id := 18086, init := 0 }

/-! ### Ego and the grid -/
/-- R202: pitch, 2^-48 turn. -/
def pitchA : Vr := { id := 25015, init := 0 }
/-- R202: roll, 2^-48 turn. -/
def rollA : Vr := { id := 25016, init := 0 }
/-- R205, R229: HOLD_T as the last pair took it, s. -/
def holdTV : Vr := { id := 25017, init := 60 }
/-- R208: ORGX of the grid as it is stored now. -/
def gridOx : Vr := { id := 24033, init := 0 }
/-- R208: ORGY of the grid as it is stored now. -/
def gridOy : Vr := { id := 24034, init := 0 }
/-- R199: CHK_TH as it stood when a sensor's check began; by sensor. -/
def chkThV : Vr := { id := 24035, init := 0 }
/-- R219: cells compared since the last record; by sensor. -/
def resCells : Vr := { id := 24036, init := 0 }

/-! ### Acoustic snapshot -/
/-- R239: the channel on which the snapshot was armed (R241). -/
def snapCh : Vr := { id := 35031, init := 0 }

/-! ### Wheel: the order last applied -/
/-- R35, R289: the Command slot, plus 1, from which the gate has accepted and applied the value held in cmdV; by 4 * loop + port. -/
def cmdSlot : Vr := { id := 32060, init := 0 }

/-! ### SOL: currents and rails -/
/-- R330: flags raised by the waiting request; they count for its event. -/
def solEvN : Vr := { id := 33030, init := 0 }
/-- R331: the rail lies inside its window; by converter. -/
def bstIn : Vr := { id := 33031, init := 0 }
/-- R331: since when. -/
def bstInAt : Vr := { id := 33032, init := 0 }
/-- R309: instant at which the dither last started. -/
def solDithAt : Vr := { id := 33033, init := 0 }
/-- R309: the set-point then in force, mA. -/
def solDithRef : Vr := { id := 33034, init := 0 }
/-- R325: 1 while a high-side fault waits for this channel's CLRFLT. -/
def solHs : Vr := { id := 33035, init := 0 }

/-! ### LSW: sense output and supply -/
/-- R341: the voltage on ISENSE_MON, mV. -/
def isenseMon : Vr := { id := 34050, init := 0 }
/-- R341: the channel that ISENSE_MON shows. -/
def isenseCh : Vr := { id := 34051, init := 0 }
/-- R352: instant of the last open-load check; by channel. -/
def olAt : Vr := { id := 34052, init := -1000000000000000000 }
/-- R355, R609 to R611: VSUP lies below 30 V (0), above 33 V (1), above 16 V (2), or below 12 V (3). -/
def supOn : Vr := { id := 34053, init := 0, keep := true }
/-- R355, R609 to R611: since when. -/
def supOnAt : Vr := { id := 34054, init := 0, keep := true }

/-! ### Firebreak: samples and cuts -/
/-- R373: instant of the last sample of the safe inputs. -/
def safeAt : Vr := { id := 36100, init := -1000000000000000000 }
/-- R383: instant at which the cuts last changed. -/
def fbCutAt : Vr := { id := 36101, init := 0 }

/-! ### BUS, from the reception of frames on (R413, R416, R417, R422) -/
/-- R422: 1 where a channel leaves the bus at the end of the present frame; by channel. -/
def canLeave : Vr := { id := 28050, init := 0 }
/-- R413: entry to bus-off; by channel. -/
def boAt : Vr := { id := 28051, init := 0 }
/-- R416: the lowest NAME that has contended a NAME's address and is not yet dealt with, plus 1; 0 none; by NAME. -/
def isoHeard : Vr := { id := 28052, init := 0 }
/-- R417: 1 where a Request waits for its answer; by NAME. -/
def isoAsked : Vr := { id := 28053, init := 0 }

/-! ### ETH and RIDE, from the host port on (R434, R453, R466) -/
/-- R434: bytes of the frames that wait for the host; by class. -/
def hostBytes : Vr := { id := 42030, init := 0 }
/-- R466: start of the present cycle. -/
def rideTkAt : Vr := { id := 43040, init := 0 }
/-- R453: 1 where a push waits for the next Ride cycle. -/
def pushHold : Vr := { id := 48060, init := 0 }

/-! ### Receiving ports (R541) -/
/-- R541: HELLO frames with the RECV flag that a receiving port has sent; by port. -/
def rxHello : Vr := { id := 48061, init := 0 }

/-! ### UFS host and the scrubber's period (R475, R477) -/
/-- R477: words of the UFS host's register file; by offset / 4. -/
def ufsReg : Vr := { id := 8003, init := 0 }
/-- R475: start of the present pass of the scrubber. -/
def scrubFrom : Vr := { id := 8004, init := -1000000000000000000 }
/-- R475: period of that pass, h. -/
def scrubPer : Vr := { id := 8005, init := 1 }

/-! ### SEG, continued -/
/-- R549: instant at which the generator's rails were last seen. -/
def segGenAt : Vr := { id := 37012, init := 0 }
/-- R557: the line has been aborted since its last completed write; by common. -/
def segTorn : Vr := { id := 37013, init := 0 }
/-- R550, R555: commits made during the replay. -/
def segWaitN : Vr := { id := 37014, init := 0 }
/-- R551: instant of the last reading of the panel sensor. -/
def segTempAt : Vr := { id := 37015, init := 0 }

/-! ### KILN, continued -/
/-- R585, R594: instant at which the region had halted, or at which its patterns were done. -/
def kilnAt : Vr := { id := 5040, init := 0 }

/-! ### GNTK, the steps -/
/-- R159: what steps of Grove time have moved CODE of a channel by, 2^-32 ms; by channel. -/
def codeMove : Vr := { id := 18090, init := 0 }

/-! ### CNPY, the checks -/
/-- R199: REF as it stood when a sensor's check began; by sensor. -/
def chkRef : Vr := { id := 24050, init := 0 }

/-! ### CROP, the line -/
/-- R254, R261: COVER of a cell lay below MINCOV at its sample; by line slot. -/
def cellLow : Vr := { id := 27090, init := 0 }

/-! ### WHL, the order of enabling -/
/-- R282: a loop's place in the order in which the loops were enabled; by loop. -/
def lpEnSeq : Vr := { id := 32180, init := 0 }
/-- R282: loops enabled so far. -/
def enSeq : Vr := { id := 32181, init := 0 }

/-! ### SOL, as read -/
/-- R305: the rail of a converter as last measured, V; by converter. -/
def bstRail : Vr := { id := 33036, init := 0 }
/-- R327: instant of the last current measured on a channel's low side; by channel. -/
def solMeasAt : Vr := { id := 33037, init := -1 }

/-! ### LSW, mirrors and limits -/
/-- R341: the mirror current of a channel as last seen while it conducted, 10 mA; by channel. -/
def lswMirr : Vr := { id := 34060, init := 0 }
/-- R367: STUDLIM of the last 10 ms step, A; by stud. -/
def studLimit : Vr := { id := 34061, init := 120 }

/-! ### FBRK, held in the PSCs -/
/-- R375, R383: the cause of a pair's fault that no fault reset has cleared, as FCODE; 0 none; by pair. -/
def prCode : Vr := { id := 36110, init := 0 }

/-! ### WHL, CAN copies -/
/-- R410: when the frame that WHL last read from a CAN buffer was received; by buffer. -/
def canCopyAt : Vr := { id := 32182, init := -1000000000000000000 }

/-! ### Ride frames and rings -/
/-- R453: frames of the next block that a push has sent already. -/
def pushPart : Vr := { id := 48062, init := 0 }
/-- R453: Grove time at which the last BULK frame sent has left, whole ns. -/
def pushFree : Vr := { id := 48063, init := -1000000000000000000 }
/-- R454: a second path to the node is known; by node. -/
def rideAlt : Vr := { id := 43015, init := 0 }

/-! ### Lines of streams -/
/-- R435: Grove time of the channel's last write burst, whole ns; by channel. -/
def strWroteAt : Vr := { id := 10006, init := 0 }
/-- R461: the stream has been enabled within a frame and waits for the start of the next; by stream. -/
def strSkip : Vr := { id := 42031, init := 0 }

/-! ### Life cycle, the device-unique key (R519) -/
/-- R519: the device-unique key has been destroyed, and data encrypted under it are unreadable; it survives every reset. -/
def dukGone : Vr := { id := 2002, init := 0 }
end V

end Sys2Proof
end

