-- ==== Sys2Proof/Machine/Ops.lean ====
section
/-! DEFINITION. The named operations that the meanings share: the stores, register fields and variables, interrupts, errors and
reports, accesses by an initiator, the Clearing slots, the Sherd intake, DRAM and the performance counters. -/

namespace Sys2Proof

/-- The value stored under a key, if any. -/
def Store.find {α : Type} (s : Store α) (k : Nat × Nat) : Option α :=
  match s with
  | [] => none
  | (k', v) :: t => if k' = k then some v else Store.find t k

/-- The store with the key's value replaced. -/
def Store.put {α : Type} (s : Store α) (k : Nat × Nat) (v : α) : Store α :=
  match s with
  | [] => [(k, v)]
  | (k', v') :: t => if k' = k then (k, v) :: t else (k', v') :: Store.put t k v

/-- 1 for true, 0 for false. -/
def bit (b : Bool) : Nat := if b then 1 else 0

/-- Two's complement of an integer in `w` bits. -/
def toBits (w : Nat) (v : Int) : Nat := (v % (2 ^ w : Nat)).toNat

/-- The signed value of `w` bits. -/
def ofBits (w : Nat) (n : Nat) : Int := if n < 2 ^ (w - 1) then (n : Int) else (n : Int) - (2 ^ w : Nat)

/-- An integer limited to a range. -/
def clamp (lo hi v : Int) : Int := if v < lo then lo else if hi < v then hi else v

/-- Bit `i` of a number. -/
def tbit (n i : Nat) : Bool := n / 2 ^ i % 2 == 1

/-- The little-endian bytes of a number. -/
def leBytes (n v : Nat) : List Nat :=
  match n with
  | 0 => []
  | k + 1 => v % 256 :: leBytes k (v / 256)

/-- The number that little-endian bytes hold. -/
def ofLe (l : List Nat) : Nat :=
  match l with
  | [] => 0
  | b :: t => b % 256 + 256 * ofLe t

/-- The field of `n` bytes at offset `off` of a byte list, little-endian. -/
def leAt (l : List Nat) (off n : Nat) : Nat := ofLe ((l.drop off).take n)

/-- A byte list cut or filled with zeros to `n` bytes. -/
def padTo (n : Nat) (l : List Nat) : List Nat := (l ++ List.replicate n 0).take n

/-- A signed 64-bit payload (R563). -/
def pay64 (v : Int) : List Nat := leBytes 8 (toBits 64 v)

/-- One step of the reflected CRC-32C. -/
def crcBit (n c : Nat) : Nat :=
  match n with
  | 0 => c
  | k + 1 => crcBit k (if c % 2 = 1 then (c / 2) ^^^ 0x82F63B78 else c / 2)

/-- CRC-32C of a byte list: initial value and final XOR 0xFFFF_FFFF (R563). -/
def crc32c (l : List Nat) : Nat := (l.foldl (fun c b => crcBit 8 (c ^^^ (b % 256))) 0xFFFFFFFF) ^^^ 0xFFFFFFFF

/-- Division rounded to the nearest integer with halves away from zero, for a positive divisor. -/
def roundAway (n : Int) (k : Nat) : Int :=
  if 0 ≤ n then (2 * n + k) / (2 * k) else -((2 * (-n) + k) / (2 * k))

/-- The slots that R48 assigns, in ascending order. -/
def slots : List Nat := [0x00, 0x01, 0x02, 0x03, 0x04, 0x05, 0x06, 0x07, 0x08, 0x09, 0x0A, 0x0B, 0x10, 0x11, 0x12, 0x13,
  0x18, 0x19, 0x1A, 0x1B, 0x20, 0x21, 0x22, 0x23, 0x24, 0x25, 0x28, 0x29, 0x2A, 0x2B, 0x30, 0x31]

/-- Owning plane of a slot (R48): 0 control, 1 data, 2 management. -/
def planeOfSlot (slot : Nat) : Nat :=
  if slot ∈ ([0x00, 0x01, 0x02, 0x04, 0x05, 0x30, 0x31] : List Nat) then 2
  else if slot ∈ ([0x06, 0x08, 0x09, 0x0A, 0x10, 0x11, 0x12, 0x13, 0x18, 0x19, 0x1A, 0x1B, 0x2A] : List Nat) then 1
  else 0

/-- Plane of the initiator of a bank (R58). -/
def planeOfBank (b : Nat) : Nat := if b < 8 then 1 else if b < 10 then 0 else if b = 10 then 2 else if b < 15 then 1 else 2

/-- Number of channels of a block (R57 and the CHCNT of each chapter). -/
def chCnt (slot : Nat) : Nat :=
  match slot with
  | 0x0B => 352 | 0x10 => 3 | 0x11 => 3 | 0x12 => 600 | 0x18 => 8 | 0x20 => 64 | 0x21 => 24 | 0x22 => 24 | 0x24 => 16
  | 0x25 => 8 | 0x28 => 8 | 0x29 => 8 | 0x2A => 10 | 0x2B => 32 | 0x0A => 64 | 0x30 => 2 | 0x05 => 7
  | _ => 0

end Sys2Proof

namespace Sys2Proof.Machine

/-- The value of a register field at an index. -/
def Dev.get (d : Dev) (f : Fld) (i : Nat) : Nat := (d.regs.find (f.kid, i)).getD (f.reset i)

/-- Writes a register field; the value is cut to the field's width. -/
def Dev.set (d : Dev) (f : Fld) (i v : Nat) : Dev := { d with regs := d.regs.put (f.kid, i) (v % 2 ^ f.width) }

/-- Writes an integer in two's complement. -/
def Dev.setI (d : Dev) (f : Fld) (i : Nat) (v : Int) : Dev := d.set f i (toBits f.width v)

/-- Reads a field as a signed number. -/
def Dev.getI (d : Dev) (f : Fld) (i : Nat) : Int := ofBits f.width (d.get f i)

/-- Reads a one-bit field as a truth value. -/
def Dev.on (d : Dev) (f : Fld) (i : Nat) : Bool := d.get f i == 1

/-- Reads a variable. -/
def Dev.var (d : Dev) (x : Vr) (i : Nat) : Int := (d.vars.find (x.id, i)).getD x.init

/-- Writes a variable. -/
def Dev.setVar (d : Dev) (x : Vr) (i : Nat) (v : Int) : Dev := { d with vars := d.vars.put (x.id, i) v }

/-- Applies a change only where a condition holds. -/
def Dev.when (d : Dev) (c : Bool) (k : Dev → Dev) : Dev := if c then k d else d

/-- Adds to a field, saturating at all ones. -/
def Dev.incSat (d : Dev) (f : Fld) (i : Nat) (n : Nat := 1) : Dev := d.set f i (min (d.get f i + n) (2 ^ f.width - 1))

/-- Adds to a field, wrapping. -/
def Dev.incWrap (d : Dev) (f : Fld) (i : Nat) (n : Nat := 1) : Dev := d.set f i (d.get f i + n)

/-- Does the same for every index of a list. -/
def Dev.each (d : Dev) (l : List Nat) (k : Nat → Dev → Dev) : Dev := l.foldl (fun a i => k i a) d

/-- The next free value (Config.free). -/
def Dev.freeVal (d : Dev) : Nat := Config.free d.free

/-- Advances the counter of free values. -/
def Dev.useFree (d : Dev) : Dev := { d with free := d.free + 1 }

/-- A history kept by a rule: pairs of an instant and a value, the newest first; by a list number and an index. -/
def Dev.past (d : Dev) (n i : Nat) : List (Int × Int) := (d.hist.find (n, i)).getD []

/-- Replaces a history. -/
def Dev.setPast (d : Dev) (n i : Nat) (l : List (Int × Int)) : Dev := { d with hist := d.hist.put (n, i) l }

/-- A byte string kept by a rule, by a list number and an index: 1 blocks of NOR, 2 trigger message last sent by target, 3 quality last announced by
port, 4 origin time last sent in a Sync by port, 5 committed output image by node, 6 output image carried by the last DOWN frame by node, 7 Firebreak
bytes of the last DOWN or FB frame by head port, 8 frame last sent by a transmit ring, 9 lengths of the frames that wait at a port for the gate of their
class, and others that their chapters name. -/
def Dev.blob (d : Dev) (n i : Nat) : List Nat := (d.bytes.find (n, i)).getD []

/-- Replaces a byte string. -/
def Dev.setBlob (d : Dev) (n i : Nat) (l : List Nat) : Dev := { d with bytes := d.bytes.put (n, i) l }

/-- Grove time in whole ns (R75). Every replica is taken to equal the master, and a capture to add nothing, within the bounds of R78 (log entry 157). -/
def Dev.now (d : Dev) : Int := d.var V.grove 0 / 65536

/-- The present instant is that of the last 1 ms tick (R89). -/
def Dev.atTick (d : Dev) : Bool := d.var V.uptime 0 == d.var V.lastTick 0

/-! ### Performance counters (R599 to R601) -/

/-- Bytes of the frames that wait at the ports and for the host (R430). -/
def Dev.ethWaiting (d : Dev) : Nat :=
  ((List.range 80).map (fun k => (d.blob 9 k).sum)).sum + ((List.range 8).map (fun q => (d.var V.hostBytes q).toNat)).sum

/-- The occupancy a source of a block shows now (R601). -/
def Dev.occ (d : Dev) (slot src : Nat) : Nat :=
  match slot, src with
  | 0x09, 0 => (d.var V.iommuWalks 0).toNat
  | 0x0A, 4 => d.get F.DMA_ENG_STAT_INFLT 0 + d.get F.DMA_ENG_STAT_INFLT 1 + d.get F.DMA_ENG_STAT_INFLT 2 + d.get F.DMA_ENG_STAT_INFLT 3
  | 0x0A, e => if e < 4 then d.get F.DMA_ENG_STAT_INFLT e else 0
  | 0x20, l => if l < 2 then (d.var V.laneQ l).toNat else 0
  | 0x21, 0 => (List.range 24).countP (fun c => d.get F.SOL_CH_STAT_PHASE c == 2)
  | 0x28, 0 => d.canHold.length
  | 0x2A, 0 => ((d.var V.ethBuf 0).toNat + d.ethWaiting) / 1024
  | 0x12, 0 => (List.range 600).countP (fun c => d.get F.GNTK_CH_STAT_STATE c == 3)
  | 0x1A, 0 => (List.range 64).countP (fun j => d.get F.JOB_STAT_STATE j == 2)
  | 0x04, 0 => d.intake.length
  | _, _ => 0

/-- Adds to counter `k` (4 * slot + n), setting WRAP when it passes its end (R600). -/
def Dev.coneAdd (d : Dev) (k n : Nat) : Dev :=
  let v := d.get F.COM_CONE_CNT_V k + n
  let d := d.set F.COM_CONE_CNT_V k v
  if 2 ^ 48 ≤ v then d.set F.COM_CONE_CNT_WRAP k 1 else d

/-- Whether counter `k` of a slot counts event `ev` now (R599). -/
def Dev.coneSel (d : Dev) (slot k ev : Nat) : Bool :=
  d.on F.COM_CONE_SEL_EN k && d.get F.COM_CONE_SEL_EVT k == ev && d.var V.underKiln slot == 0 && d.var V.softRst slot == 0 &&
    (match d.get F.COM_CONE_SEL_CMODE k with
     | 1 => false
     | 2 => decide (d.get F.COM_CONE_SEL_THR k < d.occ slot (d.get F.COM_CONE_SEL_OCC k))
     | _ => true)

/-- An event of a block occurs `n` times: the counters that select it count (R599, R601). -/
def Dev.cone (d : Dev) (slot ev : Nat) (n : Nat := 1) : Dev :=
  d.each [0, 1, 2, 3] (fun j a => if a.coneSel slot (4 * slot + j) ev then a.coneAdd (4 * slot + j) n else a)

/-! ### Interrupts (R52, R70) -/

/-- An event condition of a block: its bit in IRQ_STAT sets. RAW shows an event for one cycle only. -/
def Dev.irq (d : Dev) (slot b : Nat) : Dev :=
  let old := d.get F.COM_IRQ_STAT_V slot
  if tbit old b then d else (d.set F.COM_IRQ_STAT_V slot (old + 2 ^ b)).cone slot 5

/-- A level condition of a block takes a value: RAW shows it, and a rise sets the bit in IRQ_STAT. -/
def Dev.level (d : Dev) (slot b : Nat) (v : Bool) : Dev :=
  let raw := d.get F.COM_IRQ_RAW_V slot
  if tbit raw b == v then d
  else if v then (d.set F.COM_IRQ_RAW_V slot (raw + 2 ^ b)).irq slot b
  else d.set F.COM_IRQ_RAW_V slot (raw - 2 ^ b)

/-- The block's interrupt line (R70). -/
def Dev.irqLine (d : Dev) (slot : Nat) : Bool := (d.get F.COM_IRQ_STAT_V slot &&& d.get F.COM_IRQ_EN_V slot) != 0

/-- The bits of CLR_IRQ_STAT and CLR_IRQ_EN that a plane owns, and that its line carries (R71). -/
def clrIrqMask (p : Nat) : Nat := if p = 0 then 0xC0000011 else if p = 1 then 0x22 else 0x44

/-- Level of interrupt source `n` in the APLIC of a plane (R69, R71): source slot + 1 is the line of a block of that plane, source 12 the plane's own
line of CLR; source 0 and every other one are unused. The APLIC sends it on to the IMSICs of the plane's harts, which lie outside the model. -/
def Dev.aplicSource (d : Dev) (p n : Nat) : Bool :=
  if n = 12 then (d.get F.COM_IRQ_STAT_V 0x0B &&& d.get F.COM_IRQ_EN_V 0x0B &&& clrIrqMask p) != 0
  else decide (1 ≤ n) && slots.contains (n - 1) && planeOfSlot (n - 1) == p && d.irqLine (n - 1)

/-! ### Errors and reports (R53, R68) -/

/-- The word x_ERR of a block. -/
def Dev.errWord (d : Dev) (slot : Nat) : Nat :=
  d.get F.COM_ERR_VALID slot * 2 ^ 31 + d.get F.COM_ERR_MORE slot * 2 ^ 30 + d.get F.COM_ERR_WOFF slot * 2 ^ 16 +
  d.get F.COM_ERR_BANK slot * 2 ^ 12 + d.get F.COM_ERR_BCODE slot * 2 ^ 8 + d.get F.COM_ERR_BLK slot * 2 ^ 7 +
  d.get F.COM_ERR_SIZE slot * 2 ^ 6 + d.get F.COM_ERR_UNMAP slot * 2 ^ 5 + d.get F.COM_ERR_APPLYPEND slot * 2 ^ 4 +
  d.get F.COM_ERR_PLANE slot * 2 ^ 3 + d.get F.COM_ERR_PRIV slot * 2 ^ 2 + d.get F.COM_ERR_CHRANGE slot * 2 +
  d.get F.COM_ERR_LOCKWR slot

/-- A report leaves a block for SAGR or SHRD. -/
def Dev.report (d : Dev) (src cls code errw : Nat) (pay : List Nat) : Dev :=
  { d with reports := d.reports ++ [⟨src, cls, code, errw, pay, d.var V.grove 0⟩] }

/-- Captures an error with cause bit `c` (0 to 6, or 7 for a block-specific error), or sets MORE (R53). -/
def Dev.errCapture (d : Dev) (slot c woff bank bcode : Nat) : Dev :=
  if d.on F.COM_ERR_VALID slot then
    if d.on F.COM_ERR_MORE slot then d else (d.set F.COM_ERR_MORE slot 1).cone slot 4
  else
    let d := ((((d.set F.COM_ERR_VALID slot 1).set F.COM_ERR_MORE slot 0).set F.COM_ERR_WOFF slot woff).set F.COM_ERR_BANK slot bank).set
      F.COM_ERR_BCODE slot bcode
    let d := (((d.set F.COM_ERR_BLK slot (bit (c == 7))).set F.COM_ERR_SIZE slot (bit (c == 6))).set F.COM_ERR_UNMAP slot
      (bit (c == 5))).set F.COM_ERR_APPLYPEND slot (bit (c == 4))
    let d := (((d.set F.COM_ERR_PLANE slot (bit (c == 3))).set F.COM_ERR_PRIV slot (bit (c == 2))).set F.COM_ERR_CHRANGE slot
      (bit (c == 1))).set F.COM_ERR_LOCKWR slot (bit (c == 0))
    (d.level slot 31 true).cone slot 4

/-- An error of an access, cause bit `c` of 0 to 6 at offset `off` by `bank`: captured and reported as class C0, or MORE (R68). -/
def Dev.errAcc (d : Dev) (slot c off bank : Nat) : Dev :=
  if d.on F.COM_ERR_VALID slot then d.errCapture slot c (off / 4) bank 0
  else
    let d := d.errCapture slot c (off / 4) bank 0
    d.report slot 0 (0x0100 + c) (d.errWord slot) []

/-- A block-specific error: captured or MORE, and reported with its class every time (R53, R68). BANK is the bank of the access that
causes it, 0 without one. -/
def Dev.errBlk (d : Dev) (slot bcode cls : Nat) (pay : List Nat := []) : Dev :=
  let d := d.errCapture slot 7 0 d.acc bcode
  d.report slot cls (0x0200 + bcode) (d.errWord slot) pay

/-! ### Accesses by an initiator (R46, R56, R57, R59) -/

/-- The error cause with which an access is turned away, if any (R56): 2 PRIV, 3 PLANE. -/
def accCause (slot off : Nat) (a : Acc) (wr : Bool) : Option Nat :=
  if !a.priv then some 2
  else if 11 ≤ a.bank.val ∧ a.bank.val ≤ 14 ∧ (off < 0x1000 ∨ planeOfSlot slot ≠ 1) then some 3
  else if wr ∧ slot ≠ 0x0B ∧ planeOfBank a.bank.val ≠ planeOfSlot slot ∧ a.bank.val ≠ 10 then some 3
  else none

/-- The channel that an initiator has selected in a block (R57). -/
def Dev.chSel (d : Dev) (slot : Nat) (a : Acc) : Nat := d.get F.COM_CHSEL_CH (slot * 16 + a.bank.val)

/-- A change while an access of bank `b` is carried out. -/
def Dev.asBank (d : Dev) (b : Nat) (k : Dev → Dev) : Dev := { k { d with acc := b } with acc := 0 }

/-- The access ends with an error response. -/
def Dev.fail (d : Dev) : Dev := { d with resp := 2 }

/-- An access that no block answers (R45): an error response, and SYS_ERR captures it with cause UNMAP. -/
def Dev.slotNone (d : Dev) (off bank : Nat) : Dev := (d.errAcc 0x00 5 off bank).fail

/-- The access completes normally. -/
def Dev.good (d : Dev) : Dev := { d with resp := 1 }

/-- A write access to a block: where R56 accepts it, `k` is its effect; else the error is captured. BUS and FLT ignore writes while Kiln tests
them (R589). -/
def Dev.wrAny (d : Dev) (slot off : Nat) (a : Acc) (k : Dev → Dev) : Dev :=
  match accCause slot off a true with
  | some c => ((d.cone slot 3).errAcc slot c off a.bank.val).fail
  | none => if d.var V.underKiln slot = 1 ∧ (slot = 0x28 ∨ slot = 0x29) then d.good else ((d.cone slot 2).asBank a.bank.val k).good

/-- A write access that would change a field or is an action (`act`): while a soft reset of the block runs it is ignored, completes normally and sets
LOCKWR (R67, R660). -/
def Dev.wr (d : Dev) (slot off : Nat) (a : Acc) (k : Dev → Dev) (act : Bool := true) : Dev :=
  d.wrAny slot off a (fun d => if d.var V.softRst slot = 0 then k d else if act then d.errAcc slot 0 off a.bank.val else d)

/-- A value differs from the one that a field holds (R660). -/
def Dev.changes (d : Dev) (f : Fld) (i v : Nat) : Bool := d.get f i != v % 2 ^ f.width

/-- A write access through the channel window: `k` takes the channel selected in the initiator's bank (R57, R59). `act` says for the channel whether the
write is an action or would change a field (R660). -/
def Dev.wrCh (d : Dev) (slot off : Nat) (a : Acc) (k : Nat → Dev → Dev) (act : Nat → Dev → Bool := fun _ _ => true) : Dev :=
  d.wr slot off a (fun d =>
    let ch := d.chSel slot a
    if ch < chCnt slot then k ch (d.cone slot 7) else (d.cone slot 7).errAcc slot 1 off a.bank.val)
    (decide (chCnt slot ≤ d.chSel slot a) || act (d.chSel slot a) d)

/-- Whether a block runs (R51). -/
def Dev.running (d : Dev) (slot : Nat) : Bool := d.on F.COM_STAT_RUN slot && d.var V.underKiln slot == 0

/-! ### Clearing slots (R24 to R41) -/

/-- Writer plane of a slot (R24). -/
def clrWriter (i : Nat) : Nat := if i < 64 then 1 else if i < 320 then 0 else if i < 328 then 2 else if i < 336 then 0 else if i < 344 then 2 else 1

/-- Reader plane of a slot (R24). -/
def clrReader (i : Nat) : Nat := if i < 64 then 0 else if i < 320 then 1 else if i < 328 then 0 else if i < 336 then 2 else if i < 344 then 1 else 2

/-- Bytes of a slot's buffer (R24). -/
def clrSize (i : Nat) : Nat := if i < 320 then 64 else 128

/-- The CLR_PLANE bit of a plane (R39). -/
def Dev.planeUp (d : Dev) (p : Nat) : Bool :=
  if p = 0 then d.on F.CLR_PLANE_CTLUP 0 else if p = 1 then d.on F.CLR_PLANE_DATAUP 0 else d.on F.CLR_PLANE_MGTUP 0

/-- Records a violation, the first only (R40). -/
def Dev.clrViol (d : Dev) (slot plane kind : Nat) : Dev :=
  if d.on F.CLR_VIOL_VALID 0 then d
  else ((((d.set F.CLR_VIOL_VALID 0 1).set F.CLR_VIOL_PLANE 0 plane).set F.CLR_VIOL_KIND 0 kind).set F.CLR_VIOL_SLOT 0 slot).cone 0x0B 0x103

/-- The bytes of buffer `g` of a slot. After a module reset every byte reads 0: the spec gives the buffers no contents there, and this is the model's
choice (log entry 153). -/
def Dev.clrBuffer (d : Dev) (i g : Nat) : List Nat := (List.range (clrSize i)).map (fun b => (d.clrBuf.find (2 * i + g, b)).getD 0)

/-- The bytes of the buffer published to the reader. -/
def Dev.clrPub (d : Dev) (i : Nat) : List Nat := d.clrBuffer i (d.get F.CLR_HDR_GEN i)

/-- The WHL guard fails (R294). -/
def Dev.whlGuardFails (d : Dev) : Bool :=
  let g := d.get F.WHL_GUARDSRC_SLOT 0
  d.on F.WHL_GUARDSRC_EN 0 && (d.on F.CLR_HDR_STALE g || d.on F.CLR_HDR_WDRN g || !tbit ((d.clrPub g).getD 8 0) 0)

/-- The guard as WHL has it follows its slot; a change between failing and passing sets GUARD (R294, R302). -/
def Dev.whlGuardStep (d : Dev) : Dev :=
  if !d.on F.COM_STAT_RUN 0x20 || (d.var V.whlGuard 0 == 1) == d.whlGuardFails then d else (d.setVar V.whlGuard 0 (bit d.whlGuardFails)).irq 0x20 7

/-- Writes bytes into buffer `g` of a slot from byte `b` on. -/
def Dev.clrFill (d : Dev) (i g b : Nat) (l : List Nat) : Dev :=
  match l with
  | [] => d
  | x :: t => Dev.clrFill { d with clrBuf := d.clrBuf.put (2 * i + g, b) (x % 256) } i g (b + 1) t

/-- The Management slot that the data-plane watchdog watches (R514, R522). -/
def Dev.wdSlot (d : Dev) : Nat :=
  let n := d.get F.SYS_DPWD_SLOT 0
  if 344 ≤ n ∧ n < 352 then n else 344

/-- The commit itself (R28): GEN inverts, SEQ counts, LIVE sets, STALE and WDRN clear and both timers restart. The reader's
interrupt bit sets (R71), a commit of the watchdog slot moves the data plane's deadline (R514), and one of the guard's slot may change the guard (R294). -/
def Dev.clrPublish (d : Dev) (i : Nat) (agent : Int) : Dev :=
  let d := if d.var V.clrAgent i ≠ -1 ∧ d.var V.clrAgent i ≠ agent then d.clrViol i (clrWriter i) 7 else d
  let d := d.setVar V.clrAgent i agent
  let d := ((((d.set F.CLR_HDR_GEN i (1 - d.get F.CLR_HDR_GEN i)).incWrap F.CLR_HDR_SEQ i).set F.CLR_HDR_LIVE i 1).set F.CLR_HDR_STALE i
    0).set F.CLR_HDR_WDRN i 0
  let d := (d.set F.CLR_SLOT_STAT_AGE i 0).setVar V.clrTicks i (if d.var V.uptime 0 = d.var V.lastTick 0 then 0 else -1)
  let d := if i = d.wdSlot then (d.setVar V.wdAt 0 (d.var V.uptime 0)).setVar V.wdPer 0 (max 100 (d.get F.SYS_DPWD_PERIOD 0) : Nat) else d
  ((d.irq 0x0B (clrReader i)).cone 0x0B 0x100).whlGuardStep

/-- A commit by an agent of plane `p`, with the rejections of R29. -/
def Dev.clrCommit (d : Dev) (i p : Nat) (agent : Int) : Dev :=
  if 351 < i then d.clrViol i p 5
  else if p ≠ clrWriter i then d.clrViol i p 1
  else if !d.planeUp p then d.clrViol i p 6
  else d.clrPublish i agent

/-- A hardware publisher fills the free buffer and commits it (R41). `agent` is its block slot. -/
def Dev.clrPost (d : Dev) (i agent : Nat) (l : List Nat) : Dev :=
  (d.clrFill i (1 - d.get F.CLR_HDR_GEN i) 0 (padTo (clrSize i) l)).clrCommit i (clrWriter i) agent

/-- STALE sets; STALECNT counts a rise, and the reader's interrupt bit sets (R32, R33, R38, R71). -/
def Dev.clrStale (d : Dev) (i : Nat) : Dev :=
  if d.on F.CLR_HDR_STALE i then d
  else ((((d.set F.CLR_HDR_STALE i 1).incSat F.CLR_SLOT_STAT_STALECNT i).irq 0x0B (4 + clrReader i)).cone 0x0B 0x101).whlGuardStep

/-- A CLR_PLANE bit takes a value; at a fall STALE sets in every slot that plane writes (R33). -/
def Dev.setPlane (d : Dev) (p : Nat) (v : Bool) : Dev :=
  let f := if p = 0 then F.CLR_PLANE_CTLUP else if p = 1 then F.CLR_PLANE_DATAUP else F.CLR_PLANE_MGTUP
  let fall := d.on f 0 && !v
  let d := if d.on f 0 == v then d else d.setVar V.planeAt p (d.var V.uptime 0)
  let d := d.set f 0 (bit v)
  if fall then d.each ((List.range 352).filter (fun i => clrWriter i == p)) (fun i a => a.clrStale i) else d

/-! ### Command slots -/

/-- The commands of a Clearing slot are new: the slot is live and its present commit has not been dealt with (R26, R571, R593, R620). -/
def Dev.cmdNew (d : Dev) (slot : Nat) : Bool := d.on F.CLR_HDR_LIVE slot && d.var V.cmdSeen slot != (d.get F.CLR_HDR_SEQ slot : Int) + 1

/-- The present commit of a command slot is dealt with. -/
def Dev.cmdTake (d : Dev) (slot : Nat) : Dev := d.setVar V.cmdSeen slot ((d.get F.CLR_HDR_SEQ slot : Int) + 1)

/-! ### Sherd intake (R563, R568, R569) -/

/-- The SEQ that the next accepted report takes (R567). -/
def Dev.nextSeq (d : Dev) : Nat := ((d.var V.shrdSeq 0 + 1) % 0xFFFFFFFF).toNat

/-- SHRD takes a report into its intake of 32 entries, or drops it (R568, R569). -/
def Dev.shrdIntake (d : Dev) (time : Int) (src flags code : Nat) (pay : List Nat) (errw : Nat) : Dev :=
  if d.intake.length < 32 then
    let r : Record := ⟨d.nextSeq, time, src, flags, code, padTo 32 pay, 0, errw⟩
    let d := ({ d with intake := d.intake ++ [r] } : Dev).setVar V.shrdSeq 0 r.seq
    let n := d.intake.length
    let d := d.set F.SHRD_FIFO_LVL 0 n
    if d.get F.SHRD_FIFO_MAXLVL 0 < n then d.set F.SHRD_FIFO_MAXLVL 0 n else d
  else ((((d.incSat F.SHRD_LOST_CNT 0).setVar V.shrdLoss 0 1).irq 0x04 1)).cone 0x04 0x101

/-- A record that the keeper writes itself: SRC 0x40, NOSVC and TAON set, stamped on the AON replica (R568, R579). -/
def Dev.keeperRec (d : Dev) (cls code : Nat) (pay : List Nat) : Dev :=
  d.shrdIntake (d.now) 0x40 (cls + 4 + 64) code pay 0

/-! ### Answers of the Glade monitor (R650, R657) -/

/-- The monitor answers a line: code (0 OK), word, and the values of the answer as bytes (byte string 30). -/
def Dev.monSay (d : Dev) (cmd code word : Nat) (vals : List Nat) : Dev :=
  ((((d.set F.MON_LAST_CMD 0 cmd).set F.MON_LAST_CODE 0 code).setVar V.monWord 0 word).setVar V.monWait 0 0).setBlob 30 0 vals

/-- A line is served and answered: LINES counts, and LINE and, after 10 s without one, SESSION set. -/
def Dev.monAnswer (d : Dev) (cmd code word : Nat) (vals : List Nat) : Dev :=
  let far := decide (10000000000 * 65536 < d.var V.uptime 0 - d.var V.monLast 0)
  let d := ((d.monSay cmd code word vals).incSat F.MON_STAT_LINES 0).set F.MON_TLAST_T 0 (toBits 64 d.now)
  let d := ((d.setVar V.monLast 0 (d.var V.uptime 0)).setVar V.monAt 0 (d.var V.uptime 0)).irq 0x31 0
  if far then d.irq 0x31 2 else d

/-- A line is discarded and answered with a code: ERRS counts. -/
def Dev.monDiscard (d : Dev) (code : Nat) : Dev := (d.monSay 0 code 0 []).incSat F.MON_STAT_ERRS 0

/-- The answer to BLK, once the window's block is stored or given up (R655). -/
def Dev.monBlkEnd (d : Dev) : Dev :=
  if d.var V.monWait 0 ≠ 9 then d
  else if d.var V.blkRes 0 = 1 then d.monAnswer 9 0 0 (leBytes 4 (d.get F.UPD_BLK_IDX0_BLOCK 0)) else d.monAnswer 9 6 (d.errWord 0x30) []

/-- The answer to KILN, once the request is done (R652): each region's RESULT. -/
def Dev.monKilnEnd (d : Dev) : Dev :=
  if d.var V.monWait 0 ≠ 6 then d else d.monAnswer 6 0 0 ((List.range 7).map (fun r => d.get F.KILN_RG_STAT_RESULT r))

end Sys2Proof.Machine
end

