-- ==== Sys2Proof/Machine/Time.lean ====
section
/-! DEFINITION. TIME: Grove time, its steering, its steps, the 1 ms tick and the trigger scheduler (spec/03_grove_time.md). -/

namespace Sys2Proof.Machine

/-- A change of the device part only. -/
def State.upd (s : State) (f : Dev → Dev) : Host.Outcome State Fault Refusal := .next { s with dev := f s.dev }

/-- Elapsed time since an instant kept in a variable, in 2^-16 ns. -/
def Dev.since (d : Dev) (x : Vr) (i : Nat) : Int := d.var V.uptime 0 - d.var x i

/-- Marks the present instant in a variable. -/
def Dev.mark (d : Dev) (x : Vr) (i : Nat) : Dev := d.setVar x i (d.var V.uptime 0)

/-- Whether at least `ns` nanoseconds have passed since the instant kept in a variable. -/
def Dev.passed (d : Dev) (x : Vr) (i : Nat) (ns : Int) : Bool := decide (ns * 65536 ≤ d.since x i)

/-! ### Boundaries (R64) -/

/-- The unit of the fields that belong to no channel. -/
def wideUnit : Nat := 1023

/-- The boundary of a unit of a block is at this instant: a channel's, or that of the whole block. -/
def Dev.boundary (d : Dev) (slot u : Nat) : Dev := d.mark V.boundAt (slot * 1024 + u)

/-! ### The clock -/

/-- Frequency of a block's clock in units of 100 kHz (R42). -/
def clockOf (slot : Nat) : Nat :=
  if slot ∈ ([0x00, 0x01, 0x02, 0x04, 0x05, 0x30, 0x31] : List Nat) then 160
  else if slot ∈ ([0x06, 0x08, 0x09, 0x0A, 0x18, 0x19, 0x1B] : List Nat) then 10000
  else if slot = 0x1A then 12000
  else if slot ∈ ([0x10, 0x11, 0x12, 0x13] : List Nat) then 4092
  else if slot ∈ ([0x2A, 0x2B] : List Nat) then 3125
  else if slot ∈ ([0x28, 0x29] : List Nat) then 1600
  else if slot ∈ ([0x21, 0x22, 0x23, 0x25] : List Nat) then 1000
  else 8000

/-- Cycles of a block's clock up to an instant (2^-16 ns). -/
def cyclesAt (slot : Nat) (u : Int) : Int := u * clockOf slot / 655360000

/-- The ladder state is L2 or deeper, so that only AON runs (R106). -/
def Dev.deep (d : Dev) : Bool := decide (2 ≤ d.get F.PWR_MODE_LADDER 0)

/-- Counters that count clock cycles advance between two instants (R599, R601 event 0). -/
def Dev.coneCycles (d : Dev) (u0 u1 : Int) : Dev :=
  d.each (if d.deep then slots.filter (fun s => clockOf s == 160) else slots) (fun s a =>
    a.each [0, 1, 2, 3] (fun j b =>
      let k := 4 * s + j
      let n := (cyclesAt s u1 - cyclesAt s u0).toNat
      if b.on F.COM_CONE_SEL_EN k && b.var V.underKiln s == 0 && b.var V.softRst s == 0 then
        if b.get F.COM_CONE_SEL_CMODE k = 1 then
          (if b.get F.COM_CONE_SEL_THR k < b.occ s (b.get F.COM_CONE_SEL_OCC k) then b.coneAdd k n else b)
        else if b.coneSel s k 0 then b.coneAdd k n else b
      else b))

/-- TIME_RATE shows the applied correction: the frequency correction and the slew together. -/
def Dev.showRate (d : Dev) : Dev := d.setI F.TIME_RATE_RATE 0 (d.var V.freqCorr 0 + d.var V.slew 0)

/-- `du` units of 2^-16 ns pass. Grove time advances with its rate correction (R77); a slew stops when its phase error is gone
(R84). In L2 and deeper AON counts unsteered (R106). -/
def Dev.advance (d : Dev) (du : Int) : Dev :=
  let u0 := d.var V.uptime 0
  let d1 := (d.setVar V.uptime 0 (u0 + du)).coneCycles u0 (u0 + du)
  if d.deep then d1.setVar V.grove 0 ((d.var V.grove 0 + du) % 2 ^ 80)
  else
    let fa := d.var V.rateAcc 0 + du * d.var V.freqCorr 0
    let sl := d.var V.slew 0
    let sa := d.var V.slewAcc 0 + du * |sl|
    let mv := min (sa / 256000000000) (d.var V.slewRem 0)
    let done := decide (sl ≠ 0) && decide (d.var V.slewRem 0 ≤ sa / 256000000000)
    let g := d.var V.grove 0 + du + fa / 256000000000 + (if sl < 0 then -mv else mv)
    let d2 := ((((d1.setVar V.grove 0 (g % 2 ^ 80)).setVar V.rateAcc 0 (fa % 256000000000)).setVar V.slewAcc 0
      (sa % 256000000000)).setVar V.slewRem 0 (d.var V.slewRem 0 - mv))
    if done then (d2.setVar V.slew 0 0).showRate else d2

/-- Time passes until Grove time, at its corrected rate, has reached an instant of its whole ns (R77). `n` limits the parts: a slew that ends on the
way, and what rounding leaves, take one more each. -/
def Dev.runTo (d : Dev) (n : Nat) (at_ : Int) : Dev :=
  match n with
  | 0 => d
  | k + 1 =>
    let gap := at_ * 65536 - d.var V.grove 0
    if gap ≤ 0 then d
    else
      let r : Int := 256000000000 + d.var V.freqCorr 0 + d.var V.slew 0
      Dev.runTo (d.advance (max 1 ((gap * 256000000000 + r - 1) / r))) k at_

/-- One cycle of the module with no command: 1.25 ns of CTL, or 62.5 ns of AON in L2 and deeper. -/
def Dev.idle (d : Dev) : Dev := d.advance (if d.deep then 4096000 else 81920)

/-! ### State of TIME -/

/-- Time in LOCKED since HOLDOVER, FREE or UNSET was last entered, 2^-16 ns (R86). -/
def Dev.lockedFor (d : Dev) : Int := d.var V.lockedSum 0 + (if d.get F.TIME_STATE_ST 0 = 3 then d.since V.lockedAt 0 else 0)

/-- The state changes; STATECHG sets (R83, R104). The time in LOCKED is summed until HOLDOVER, FREE or UNSET is entered (R86). -/
def Dev.timeState (d : Dev) (st : Nat) : Dev :=
  if d.get F.TIME_STATE_ST 0 = st then d
  else
    let d := d.setVar V.lockedSum 0 (if st = 2 ∨ st = 3 then d.lockedFor else 0)
    ((d.mark V.lockedAt 0).set F.TIME_STATE_ST 0 st).irq 0x07 0

/-- TIME enters HOLDOVER: the frequency correction stays, a slew stops, and the bound starts where LOCKED lasted 30 min (R83, R86). -/
def Dev.enterHoldover (d : Dev) : Dev :=
  let good := decide (1800000000000 * 65536 ≤ d.lockedFor)
  let d := ((((d.setVar V.slew 0 0).setVar V.slewRem 0 0).showRate).mark V.holdAt 0).setVar V.holdGood 0 (bit good)
  let d := (d.setVar V.holdRep 0 0).set F.TIME_HOLDERR_ERRB 0 (if good then 0 else 0xFFFF)
  d.timeState 4

/-- TIME is in SLEW or LOCKED. -/
def Dev.steered (d : Dev) : Bool := d.get F.TIME_STATE_ST 0 == 2 || d.get F.TIME_STATE_ST 0 == 3

/-- SLEW and LOCKED pass to HOLDOVER where the steering slot is ignored or shows WDRN (R83, R103). -/
def Dev.steerCheck (d : Dev) : Dev :=
  if d.steered && (!d.on F.TIME_STEER_CFG_SEN 0 || d.on F.CLR_HDR_WDRN (d.get F.TIME_STEER_CFG_SLOT.act 0)) then d.enterHoldover else d

/-- A slew against a phase error (R84). Its rate is a free value of at most 100 ppb (log entry 8). -/
def Dev.startSlew (d : Dev) (offs : Int) : Dev :=
  if offs = 0 then ((d.setVar V.slew 0 0).setVar V.slewRem 0 0).showRate
  else
    let m : Int := 1 + d.freeVal % 25600
    (((d.useFree.setVar V.slew 0 (if 0 < offs then -m else m)).setVar V.slewRem 0 |offs|).setVar V.slewAcc 0 0).showRate

/-- HOLDOVER's error bound after `t` ms (R86): 500 ns at 600 s, 10,000 ns at 14,400 s, and on with that slope; whole ns. -/
def holdBound (t : Int) : Int := if t ≤ 600000 then 500 * t / 600000 else 500 + 9500 * (t - 600000) / 13800000

/-! ### The trigger entries -/

/-- Whether the instant of an entry is late now (R96). -/
def Dev.trigIsLate (d : Dev) (e : Nat) : Bool :=
  let left := (d.get F.TRIG_INST_INST e : Int) * 65536 - d.var V.grove 0
  decide (left < 2000 * 65536) ||
    (d.get F.TRIG_CFG_TGT e == 1 && decide (left < (d.get F.TRIG_CFG_LEAD e : Int) * 100000 * 65536))

/-- The lead that an instant needs not to be late, in 2^-16 ns (R96). -/
def Dev.trigNeed (d : Dev) (e : Nat) : Int :=
  max (2000 * 65536) (if d.get F.TRIG_CFG_TGT e = 1 then (d.get F.TRIG_CFG_LEAD e : Int) * 100000 * 65536 else 0)

/-- A late instant is skipped: LATE and TRIGLATE set, a periodic entry advances by whole periods, a one-shot entry clears EN (R96). -/
def Dev.trigSkip (d : Dev) (e : Nat) : Dev :=
  if d.trigIsLate e then
    let d1 := (d.set F.TRIG_STAT_LATE e 1).irq 0x07 4
    let p : Int := d.get F.TRIG_PERIOD_PERIOD e
    if p = 0 then (d1.set F.TRIG_CFG_EN e 0).set F.TRIG_STAT_ARMED e 0
    else
      let lack := d.trigNeed e - ((d.get F.TRIG_INST_INST e : Int) * 65536 - d.var V.grove 0)
      let k := (lack + p * 65536 - 1) / (p * 65536)
      d1.set F.TRIG_INST_INST e (d.get F.TRIG_INST_INST e + (k * p).toNat)
  else d

/-- What a firing entry drives: 1 + n for TRIG_OUTn, 100 for the IMU strobe. -/
def Dev.trigDest (d : Dev) (e : Nat) : Nat := if d.get F.TRIG_CFG_TGT e = 2 then 100 else d.get F.TRIG_CFG_IDX e + 1

/-- A pulse of an entry is in progress on a destination: the last one, or one that was in progress when it started (history 26: end and destination). -/
def Dev.trigDrives (d : Dev) (e : Nat) (dest : Int) : Bool :=
  (d.var V.pulse e == 1 && d.var V.pulseOut e == dest) || (d.past 26 e).any (fun p => p.2 == dest && decide (d.var V.uptime 0 < p.1))

/-- Another entry's pulse is in progress on what this entry drives (R100). -/
def Dev.trigOverlap (d : Dev) (e : Nat) : Bool := (List.range 16).any (fun x => x != e && d.trigDrives x (d.trigDest e))

/-- Level of TRIG_OUT pin `n`: the OR of its pulses where OE is 1, in the polarity of TRIGOUT.POL (R98, R100, R103). -/
def Dev.trigPin (d : Dev) (n : Nat) : Bool :=
  let act := tbit (d.get F.TIME_TRIGOUT_OE 0) n &&
    (List.range 16).any (fun x => d.trigDrives x ((n : Int) + 1))
  act != tbit (d.get F.TIME_TRIGOUT_POL 0) n

/-- The pulse of an entry starts on what the entry drives then; a later write of its configuration does not move it, and one in progress goes on (R95, R98). -/
def Dev.trigPulse (d : Dev) (e : Nat) : Dev :=
  let d := d.when (d.trigOverlap e) (fun a => a.irq 0x07 5)
  let d := d.when (d.var V.pulse e == 1) (fun a => a.setPast 26 e ((a.var V.pulseEnd e, a.var V.pulseOut e) :: a.past 26 e))
  let d := d.setVar V.pulseOut e (d.trigDest e)
  (d.setVar V.pulse e 1).setVar V.pulseEnd e (d.var V.uptime 0 + (max (d.get F.TRIG_CFG_WIDTH e) 1 : Int) * 100 * 65536)

/-- An IMU strobe, whose instant the sample bears (R200; history 18), dropped with OVLP where the last lies less than 500 µs back (R101). -/
def Dev.trigStrobe (d : Dev) (e : Nat) : Dev :=
  if d.passed V.imuLast 0 500000 then ((d.mark V.imuLast 0).setPast 18 0 ((d.now, 1) :: d.past 18 0)).trigPulse e
  else d.irq 0x07 5

/-- ADV in units of 2^-16 ns (R181). -/
def Dev.pulseAdv (d : Dev) : Int :=
  let r := d.get F.GNTP_CFG_REFANT.act 0
  (min (d.get F.GNTP_OUTDLY_DLY.act 0) 320000 +
    (if d.on F.GNTP_CFG_ANTCOMP.act 0 then min (d.get F.GNTP_ANTDLY_DLY.act (if r = 3 then 0 else r)) 320000 else 0) : Nat) * 4096

/-! ### Steps -/

/-- Frames of a sensor count as LATE (R212). -/
def Dev.senLate (d : Dev) (i : Nat) (n : Nat := 1) : Dev := if n = 0 then d else (d.incSat F.CNPY_SEN_CNT_LATE i n).irq 0x18 7

/-- First multiple of `m` ns on the new scale at least `gap` units of 2^-16 ns after the present Grove time. -/
def multipleAfter (grove m gap : Int) : Int := -((-(grove + gap)) / (m * 65536)) * m

/-- First multiple of `m` ns on the new scale at least `gap` ns after the present Grove time. -/
def nextMultiple (grove m gap : Int) : Int := multipleAfter grove m (gap * 65536)

/-- First multiple of `m` ns at least half of `m` of elapsed time after the instant that a variable keeps, on the new scale (R89, R159, R184, R236). `lead` is how
far the event comes before its multiple. -/
def Dev.halfAfter (d : Dev) (x : Vr) (m lead : Int) : Int := multipleAfter (d.var V.grove 0 + lead) m (max 0 (m * 32768 - d.since x 0))

/-- What a step changes in the grids of CROP and CNPY: the acoustic window (R236), the grid updates and the pairs on the new scale (R209, R256), and the
frames and hand-offs that wait and lie across the step, which count as LATE (R232). -/
def Dev.stepGrids (d : Dev) : Dev :=
  let win : Int := clamp 10 1000 (d.get F.ACU_WIN_WIN.act 0) * 1000000
  let d := if d.var V.nextWin 0 < 0 then d else
    d.setVar V.nextWin 0 (d.halfAfter V.lastWin win 0)
  let gper : Int := max 1 (d.get F.CNPY_GRID_CFG_GPER.act 0) * 1000000
  let d := if d.var V.nextTk 0 < 0 then d else d.setVar V.nextTk 0 (nextMultiple (d.var V.grove 0) gper 0)
  let d : Dev := { d with frames := d.frames.map (fun e => (e.1, { e.2 with old := true })) }
  let d : Dev := d.hands.foldl (fun a h => a.senLate h.sen) { d with hands := [] }
  let yper : Int := max 1 (d.get F.CROP_YCFG_YPER.act 0) * 1000000
  if d.var V.nextY 0 < 0 then d else d.setVar V.nextY 0 (nextMultiple (d.var V.grove 0) yper 0)

/-- What a step of `delta` units of 2^-16 ns changes in the rest of the module: the next tick (R89), the instant of a step still to come (R85, R88), the
trigger entries (R96, R97: INST, in whole ns, moves by the step rounded to the nearest ns, halves away from zero, for the spec does not say how it takes a
fraction, log entry 160; the message of an instant that lies ahead again is sent again, R99),
the acquisition flags (R132), the epoch (R159), the time pulse, whose edge it is that lies half a period after the last (R184), the grids of CROP and CNPY, the WHL
and RIDE grids (R267, R455)
and the solenoid queues (R322). CODE moves with the next latch (log entry 212). -/
def Dev.stepOthers (d : Dev) (delta : Int) : Dev :=
  let d := d.setVar V.nextTick 0 (d.halfAfter V.lastTick 1000000 0)
  let d := if d.on F.TIME_STATE_STEPPEND 0 then
    d.setVar V.stepAt 0 (multipleAfter (d.var V.grove 0) 1000000000 (max 0 (65536000000000 - d.since V.stepAnn 0))) else d
  let d := d.each (List.range 16) (fun e a =>
    if a.on F.TRIG_CFG_EN e then
      let a := a.setVar V.trgSent e V.trgSent.init
      (if a.on F.TRIG_CFG_STEPMODE e then a.setI F.TRIG_INST_INST e ((a.get F.TRIG_INST_INST e : Int) + roundAway delta 65536) else a).trigSkip e
    else a)
  let d := d.each [0, 1, 2] (fun e a => if a.var V.acqPhase e = 3 then a.setVar V.acqFlags e (if tbit (a.var V.acqFlags e).toNat 2
    then a.var V.acqFlags e else a.var V.acqFlags e + 4) else a)
  let d := d.each ((List.range 600).filter (fun c => d.get F.GNTK_CH_STAT_STATE c != 0)) (fun c a =>
    a.setVar V.codeMove c (a.var V.codeMove c + delta * 65536 / 1000000))
  let eper : Int := max 1 (d.get F.GNTK_EPOCH_CFG_EPER.act 0) * 1000000
  let d := if d.var V.nextEpoch 0 < 0 then d else
    (d.setVar V.nextEpoch 0 (d.halfAfter V.lastEpoch eper 0)).setVar V.epochStep 0 1
  let pper : Int := max 1 (d.get F.GNTP_PERIOD_PERIOD.act 0)
  let d := if d.var V.nextPulse 0 < 0 then d else
    (d.setVar V.nextPulse 0 (d.halfAfter V.lastPulse pper d.pulseAdv)).setVar V.pulseT 0 (-1)
  let d := d.stepGrids
  let d := d.setVar V.retryWin 0 (d.now / 10000000000)
  let d := (d.setVar V.gridMove 0x20 (d.var V.gridMove 0x20 + delta)).setVar V.gridMove 0x2B (d.var V.gridMove 0x2B + delta)
  if 0 < delta then d.each (List.range 24) (fun c a => a.setVar V.solStepped c 1) else d

/-- A step of Grove time executes: STEPCNT, STEPDONE, the report with the step's size, and every rule that refers to a step (R85, R88). -/
def Dev.doStep (d : Dev) (delta : Int) : Dev :=
  let d := d.setVar V.grove 0 ((d.var V.grove 0 + delta) % 2 ^ 80)
  let d := (d.setVar V.stepTo 0 d.now).mark V.stepU 0
  let d := ((d.incSat F.TIME_STEPCNT_CNT 0).irq 0x07 2).errBlk 0x07 4 0 (pay64 (roundAway delta 65536))
  (d.stepOthers delta).setVar V.remErr 0 0

/-! ### Meanings -/

/-- MS_TICK (R89). Time comes up to the next millisecond boundary, and the timers that count ticks count it: AGE of every slot ever
committed (R32, R38) and the holdover bound (R86). No tick is issued in L2 and deeper. Ticks go on with the EN of TIME at 0 (log entry 204). -/
def Dev.msTick (d : Dev) : Dev :=
  if d.deep then d
  else
    let d := d.runTo 4 (d.var V.nextTick 0)
    let d := ((d.mark V.lastTick 0).setVar V.nextTick 0 (d.var V.nextTick 0 + 1000000)).setVar V.ticks 0 (d.var V.ticks 0 + 1)
    let d := d.each ((List.range 352).filter (fun i => d.on F.CLR_HDR_LIVE i)) (fun i a =>
      let n := a.var V.clrTicks i + 1
      (a.setVar V.clrTicks i n).set F.CLR_SLOT_STAT_AGE i (min n.toNat 0xFFFF))
    let d := ((d.set F.IOMU_TLB_HIT 0 (min (d.var V.tlbHit 0).toNat 0xFFFF)).set F.IOMU_TLB_MISS 0 (min (d.var V.tlbMiss 0).toNat 0xFFFF))
    let d := ((d.setVar V.tlbHit 0 0).setVar V.tlbMiss 0 0).boundary 0x07 wideUnit |>.boundary 0x1B wideUnit
    d.when (d.get F.TIME_STATE_ST 0 == 4 && d.var V.holdGood 0 == 1) (fun a =>
      a.set F.TIME_HOLDERR_ERRB 0 (min (holdBound (a.since V.holdAt 0 / 65536000000)).toNat 0xFFFE))

def execMsTick (s : State) : Host.Outcome State Fault Refusal := s.upd Dev.msTick

/-- An accepted steering record acts on the state (R83 to R85). `offs` is in 2^-16 ns, and `ferr` the frequency error in 1/256 ppb where FREQVALID is
1. While a step is announced, and in the record that announces it, the frequency error is not used: the spec does not say whether it is, and this is the
model's choice (log entry 159). -/
def Dev.steer (d : Dev) (offs : Int) (ferr : Option Int) : Dev :=
  let d := (d.setI F.TIME_OFFSET_OFFS 0 (clamp (-2147483648) 2147483647 (roundAway offs 65536))).mark V.recAt 0
  let d := d.setVar V.remErr 0 |roundAway offs 65536|
  let st := d.get F.TIME_STATE_ST 0
  let freq := fun (a : Dev) => match ferr with
    | some f => (a.setVar V.freqCorr 0 (ofBits 32 (toBits 32 (Config.steerFreq (a.var V.freqCorr 0) f)))).showRate
    | none => a
  let small := decide (|offs| ≤ 20 * 65536)
  if d.on F.TIME_STATE_STEPPEND 0 then d.setVar V.stepOffs 0 offs
  else if st = 0 ∨ 10000 * 65536 < |offs| then
    ((((d.setVar V.stepOffs 0 offs).mark V.stepAnn 0).set F.TIME_STATE_STEPPEND 0 1).setVar V.stepAt 0
      (nextMultiple (d.var V.grove 0) 1000000000 1000000000)).irq 0x07 1
  else if st = 2 then
    let n := if small then d.var V.lockRun 0 + 1 else 0
    if 10 ≤ n then ((freq d).setVar V.lockRun 0 0 |>.startSlew 0).timeState 3
    else ((freq d).setVar V.lockRun 0 n).startSlew offs
  else if st = 3 then
    if small then freq d else (((freq d).setVar V.lockRun 0 0).startSlew offs).timeState 2
  else ((((freq d).setVar V.lockRun 0 0).startSlew offs).set F.TIME_HOLDERR_ERRB 0 0).timeState 2

/-- STEERING_RECORD (R81, R82). At each new commit to the steering slot TIME reads the record once; a record without VALID, or more than 2 s from the
present Grove time, is rejected with STEERBAD. With SEN at 0 the slot is ignored (R103). -/
def Dev.steeringRecord (d : Dev) : Dev :=
  let i := d.get F.TIME_STEER_CFG_SLOT.act 0
  if d.on F.TIME_STEER_CFG_SEN 0 && d.cmdNew i && !d.deep then
    let d := d.cmdTake i
    let b := d.clrPub i
    let t : Int := leAt b 0 8
    if tbit (leAt b 20 1) 0 && decide (|t * 65536 - d.var V.grove 0| ≤ 2000000000 * 65536) then
      d.steer (ofBits 64 (leAt b 8 8)) (if tbit (leAt b 20 1) 1 then some (ofBits 32 (leAt b 16 4)) else none)
    else d.irq 0x07 3
  else d

def execSteeringRecord (s : State) : Host.Outcome State Fault Refusal := s.upd Dev.steeringRecord

/-- HOLDOVER_TIMEOUT (R83): no valid record for HOLD_T in SLEW or LOCKED. A HOLD_T below 100 acts as 100. -/
def Dev.holdoverTimeout (d : Dev) : Dev :=
  if d.steered && d.passed V.recAt 0 ((max (d.get F.TIME_STEER_CFG_HOLD_T.act 0) 100 : Int) * 1000000) then d.enterHoldover else d

def execHoldoverTimeout (s : State) : Host.Outcome State Fault Refusal := s.upd Dev.holdoverTimeout

/-- The steering slot is another one, or is heeded from now on: TIME reads it at its next commit (R81), and HOLDOVER follows where it shows WDRN (R83). -/
def Dev.steerSlot (d : Dev) : Dev := (d.cmdTake (d.get F.TIME_STEER_CFG_SLOT.act 0)).steerCheck

/-- STEER_ENABLE_WRITE (R103): SEN takes the value; 0 passes SLEW and LOCKED to HOLDOVER at once. -/
def execSteerEnableWrite (a : Acc) (en : Bool) (s : State) : Host.Outcome State Fault Refusal :=
  s.upd (fun d => d.wr 0x07 0x820 a (fun d =>
    if d.on F.TIME_STEER_CFG_SEN 0 == en then d else (d.set F.TIME_STEER_CFG_SEN 0 (bit en)).steerSlot) (d.changes F.TIME_STEER_CFG_SEN 0 (bit en)))

/-- TIME_STEP (R85): at its instant the pending step adds the negated offset, and TIME enters SLEW, or passes on to HOLDOVER (R83, R103). -/
def Dev.timeStep (d : Dev) : Dev :=
  if d.on F.TIME_STATE_STEPPEND 0 && decide (d.var V.stepAt 0 * 65536 ≤ d.var V.grove 0) then
    let d := d.set F.TIME_STATE_STEPPEND 0 0
    let d := (((d.setVar V.slew 0 0).setVar V.slewRem 0 0).setVar V.lockRun 0 0).showRate
    let d := d.when (d.get F.TIME_STATE_ST 0 != 2 && d.get F.TIME_STATE_ST 0 != 3) (fun a => a.set F.TIME_HOLDERR_ERRB 0 0)
    ((d.doStep (-(d.var V.stepOffs 0))).timeState 2).steerCheck
  else d

def execTimeStep (s : State) : Host.Outcome State Fault Refusal := s.upd Dev.timeStep

/-- TIME_SETGO (R88): in UNSET, Grove time takes SETV as an unannounced step, and TIME enters FREE; elsewhere BCODE 0x3. -/
def execTimeSetgo (a : Acc) (s : State) : Host.Outcome State Fault Refusal :=
  s.upd (fun d => d.wr 0x07 0x848 a (fun d =>
    if d.get F.TIME_STATE_ST 0 = 0 then
      (d.doStep ((d.get F.TIME_SET_SETV 0 : Int) * 65536 - d.var V.grove 0)).timeState 1
    else d.errBlk 0x07 3 0))

/-- HOLDOVER_BOUND_EXCEEDED (R87): a known bound above 10,000 ns is reported once per HOLDOVER. -/
def Dev.holdoverBoundExceeded (d : Dev) : Dev :=
  if d.get F.TIME_STATE_ST 0 == 4 && d.var V.holdGood 0 == 1 && decide (10000 < d.get F.TIME_HOLDERR_ERRB 0) && d.var V.holdRep 0 == 0 then
    (d.setVar V.holdRep 0 1).errBlk 0x07 5 1
  else d

def execHoldoverBoundExceeded (s : State) : Host.Outcome State Fault Refusal := s.upd Dev.holdoverBoundExceeded

/-- TRIG_ARM (R95, R96): EN goes from 0 to 1, FIRES restarts, and a late instant is skipped. -/
def execTrigArm (a : Acc) (e : Fin 16) (s : State) : Host.Outcome State Fault Refusal :=
  s.upd (fun d => d.wr 0x07 (0x100C + 0x20 * e.val) a (fun d =>
    if d.on F.TRIG_CFG_EN e then d
    else ((((d.set F.TRIG_CFG_EN e 1).set F.TRIG_STAT_ARMED e 1).set F.TRIG_STAT_FIRES e 0).setVar V.trgSent e V.trgSent.init).trigSkip e)
    (d.changes F.TRIG_CFG_EN e 1))

/-- TRIG_DISARM (R95): EN goes to 0; a pulse in progress completes. -/
def execTrigDisarm (a : Acc) (e : Fin 16) (s : State) : Host.Outcome State Fault Refusal :=
  s.upd (fun d => d.wr 0x07 (0x100C + 0x20 * e.val) a (fun d =>
    (d.set F.TRIG_CFG_EN e 0).set F.TRIG_STAT_ARMED e 0) (d.changes F.TRIG_CFG_EN e 0))

/-- TRIG_FIRE (R95, R98 to R101): at INST the armed entry fires its target, counts, and advances or ends. -/
def Dev.trigFire (d : Dev) (e : Nat) : Dev :=
  if d.on F.TRIG_CFG_EN e && decide ((d.get F.TRIG_INST_INST e : Int) * 65536 ≤ d.var V.grove 0) then
    let tgt := d.get F.TRIG_CFG_TGT e
    let d := (d.set F.TRIG_LAST_LAST e (d.get F.TRIG_INST_INST e)).incWrap F.TRIG_STAT_FIRES e
    let d := d.when (d.on F.TRIG_CFG_IRQ e && decide (e < 14)) (fun a => a.irq 0x07 (16 + e))
    let d := if tgt = 0 ∧ d.get F.TRIG_CFG_IDX e < 4 then d.trigPulse e else if tgt = 2 then d.trigStrobe e else d
    let c := d.get F.TRIG_COUNT_COUNT e
    let d := d.when (c != 0) (fun a => a.set F.TRIG_COUNT_COUNT e (c - 1))
    let d := d.set F.TRIG_INST_INST e (d.get F.TRIG_INST_INST e + d.get F.TRIG_PERIOD_PERIOD e)
    if c = 1 ∨ d.get F.TRIG_PERIOD_PERIOD e = 0 then (d.set F.TRIG_CFG_EN e 0).set F.TRIG_STAT_ARMED e 0 else d
  else d

def execTrigFire (e : Fin 16) (s : State) : Host.Outcome State Fault Refusal := s.upd (fun d => d.trigFire e)

/-- TRIG_PULSE_END (R98): WIDTH after its start a pulse of the entry ends. -/
def Dev.trigPulseEnd (d : Dev) (e : Nat) : Dev :=
  let d := d.setPast 26 e ((d.past 26 e).filter (fun p => decide (d.var V.uptime 0 < p.1)))
  if d.var V.pulse e == 1 && decide (d.var V.pulseEnd e ≤ d.var V.uptime 0) then d.setVar V.pulse e 0 else d

def execTrigPulseEnd (e : Fin 16) (s : State) : Host.Outcome State Fault Refusal := s.upd (fun d => d.trigPulseEnd e)

end Sys2Proof.Machine
end

