-- ==== Sys2Proof/Machine/Acoustic.lean ====
section
/-! DEFINITION. The acoustic loss front end of AIN (spec/07_crop_flow_yield.md, R233 to R241). -/

namespace Sys2Proof.Machine

/-- Detection runs on an acoustic channel; a Kiln run of K3 stops it (R589). -/
def Dev.acuOn (d : Dev) (c : Nat) : Bool := d.running 0x23 && d.on F.ACU_CFG_EN c && d.var V.underKiln 0x23 == 0

/-- DEAD of a channel in ns: 1 to 50 tenths of a millisecond (R240). -/
def Dev.acuDead (d : Dev) (c : Nat) : Int := (min 50 (max 1 (d.get F.ACU_CFG_DEAD.act c)) : Nat) * 100000

/-- Corner of the high-pass filter in kHz by its code, 0 where it is off (R233): codes 5 to 7 act as 4. -/
def acuCorner (code : Nat) : Nat := match code with | 0 => 0 | 1 => 2 | 2 => 5 | 3 => 10 | _ => 20

/-- The output of a channel's high-pass filter (R233): with code 0 the samples themselves. -/
def Dev.acuHigh (d : Dev) (c : Nat) (x : List Int) : List Int :=
  let f := acuCorner (d.get F.ACU_CFG_HPF.act c)
  if f = 0 then x else Config.acuHigh f x

/-- The samples without the last `k`. -/
def acuBack (x : List (BitVec 16)) (k : Nat) : List Int := (x.take (x.length - k)).map (fun v => v.toInt)

/-- The envelope of a channel at the last `n` of its samples, the latest first (R234): the high-pass filter's output rectified and smoothed (Config.acuSmooth, log
entry 177). -/
def Dev.acuEnvs (d : Dev) (c : Nat) (x : List (BitVec 16)) (n : Nat) : List Nat :=
  (List.range n).map (fun k => Config.acuSmooth ((d.acuHigh c (acuBack x k)).map (·.natAbs)))

/-- The largest envelope in the last `n` samples. -/
def Dev.acuPeak (d : Dev) (c : Nat) (x : List (BitVec 16)) (n : Nat) : Nat := (d.acuEnvs c x n).foldl max 0

/-- The energy of a band output over 256 samples, of which the last lies 16 before the end of `x` (R235). A centre outside 1 to 100 kHz acts as the nearer limit. -/
def Dev.acuEnergy (d : Dev) (c kHz : Nat) (x : List (BitVec 16)) : Nat :=
  ((List.range 256).map (fun k => (Config.acuBand (min 100 (max 1 kHz)) (acuBack x (k + 16)) (d.acuHigh c (acuBack x (k + 16)))).natAbs ^ 2)).sum

/-- ACOUSTIC_IMPACT (R234): the envelope of an armed channel rises above THR; the channel is disarmed, the impact waits for its class (history 21, with 1 for
the open window and 2 for the ended one), and a snapshot armed on the channel begins. -/
def Dev.acuImpact (d : Dev) (c : Nat) (x : List (BitVec 16)) : Dev :=
  if d.acuOn c && d.var V.acuArm c == 1 && decide (d.get F.ACU_CFG_THR.act c < d.acuPeak c x 1) then
    let d := (((d.setVar V.acuArm c 0).mark V.acuTrig c).setVar V.acuPn c 0).setPast 21 c (d.past 21 c ++ [(d.var V.uptime 0, 1)])
    if d.var V.snapArm 0 = 1 ∧ d.var V.snapCh 0 = c then (d.setVar V.snapArm 0 2).mark V.snapAt 0 else d
  else d

def execAcousticImpact (x : AcuIn) (s : State) : Host.Outcome State Fault Refusal := s.upd (fun d => d.acuImpact x.ch x.x)

/-- An impact of a channel is grain (R235). -/
def Dev.acuGrain (d : Dev) (c : Nat) (x : List (BitVec 16)) : Bool :=
  decide (d.get F.ACU_PK_PKMIN.act c ≤ d.acuPeak c x 256) &&
    decide (d.get F.ACU_CLS_RTH.act c * d.acuEnergy c (d.get F.ACU_CLS_BLO.act c) x ≤ 256 * d.acuEnergy c (d.get F.ACU_CLS_BHI.act c) x)

/-- ACOUSTIC_CLASSIFY (R234 to R236): once the 256 samples of the oldest waiting impact have been taken it is classed by its peak and its band energies; it counts
in the window that holds its trigger. -/
def Dev.acuClassify (d : Dev) (c : Nat) (x : List (BitVec 16)) : Dev :=
  match d.past 21 c with
  | [] => d
  | e :: t =>
    if d.var V.uptime 0 < e.1 + 1024000 * 65536 then d
    else
      let k := if e.2 = 2 then c + 16 else c
      let n := if d.acuGrain c x then V.acuG else V.acuO
      ((d.setPast 21 c t).setVar V.acuPk k (d.var V.acuPk k + d.acuPeak c x 256)).setVar n k (d.var n k + 1)

def execAcousticClassify (c : Fin 16) (x : List (BitVec 16)) (_ _ : Unit) (s : State) : Host.Outcome State Fault Refusal := s.upd (fun d => d.acuClassify c x)

/-- ACOUSTIC_REARM (R234): after DEAD, at the first sample with the envelope below THR/2. -/
def Dev.acuRearm (d : Dev) (c : Nat) (x : List (BitVec 16)) : Dev :=
  if d.acuOn c && d.var V.acuArm c == 0 && d.passed V.acuTrig c (d.acuDead c) && decide (2 * d.acuPeak c x 1 < d.get F.ACU_CFG_THR.act c) then
    d.setVar V.acuArm c 1
  else d

def execAcousticRearm (x : AcuIn) (s : State) : Host.Outcome State Fault Refusal := s.upd (fun d => d.acuRearm x.ch x.x)

/-- ACOUSTIC_PILE (R234): one more millisecond above THR/2 beyond 2 ms after DEAD. -/
def Dev.acuPile (d : Dev) (c : Nat) (x : List (BitVec 16)) : Dev :=
  if d.acuOn c && d.var V.acuArm c == 0 && d.passed V.acuTrig c (d.acuDead c + 2000000 + (d.var V.acuPn c + 1) * 1000000) &&
      (d.acuEnvs c x 250).all (fun e => decide (d.get F.ACU_CFG_THR.act c < 2 * e)) then
    (d.setVar V.acuPn c (d.var V.acuPn c + 1)).setVar V.acuP c (d.var V.acuP c + 1)
  else d

def execAcousticPile (x : AcuIn) (s : State) : Host.Outcome State Fault Refusal := s.upd (fun d => d.acuPile x.ch x.x)

/-- WIN in ns: 10 to 1,000 ms. -/
def Dev.acuWin (d : Dev) : Int := clamp 10 1000 (d.get F.ACU_WIN_WIN.act 0) * 1000000

/-- A running count passes from the open window of a channel to the one that ended. -/
def Dev.acuShift (d : Dev) (x : Vr) (c : Nat) : Dev := (d.setVar x (c + 16) (d.var x c)).setVar x c 0

/-- ACOUSTIC_WINDOW_END (R236): at a multiple of WIN the count window ends and WSEQ counts. `clip` names the channels that clipped in it. A window
that overlaps a Kiln run of K3 is not published (R589). -/
def Dev.acuWindow (d : Dev) (clip : Nat) : Dev :=
  let t := d.var V.nextWin 0
  if !d.running 0x23 || decide (t < 0) || decide (d.var V.grove 0 < t * 65536) then d
  else
    let d := d.each (List.range 16) (fun c a =>
      let a := (((a.acuShift V.acuG c).acuShift V.acuO c).acuShift V.acuP c).acuShift V.acuPk c
      a.setPast 21 c ((a.past 21 c).map (fun e => (e.1, 2))))
    let d := (((d.setVar V.acuSat 0 clip).setVar V.acuClosed 0 (1 - d.var V.acuBad 0)).setVar V.acuEnd 0 t).acuShift V.acuApplied 0
    let d := d.setVar V.acuBad 0 (d.var V.underKiln 0x23)
    let d := (d.setVar V.nextWin 0 (t + d.acuWin)).mark V.lastWin 0
    (d.incWrap F.ACU_WSEQ_SEQ 0).irq 0x23 20

def execAcousticWindowEnd (clip : BitVec 16) (s : State) : Host.Outcome State Fault Refusal := s.upd (fun d => d.acuWindow clip.toNat)

/-- The front end starts anew when RUN rises: enabled channels are armed, and nothing counts yet in the window that opens (R236, R238, R240). -/
def Dev.acuFresh (d : Dev) : Dev :=
  (d.each (List.range 16) (fun c a =>
    (((((a.setVar V.acuArm c (a.get F.ACU_CFG_EN c)).setVar V.acuG c 0).setVar V.acuO c 0).setVar V.acuP c 0).setVar V.acuPk c 0).setPast 21 c
      ((a.past 21 c).filter (fun e => e.2 == 2)))).setVar V.acuApplied 0 0

/-- A count as a window shows it: saturating at 0xFFFF (R236). -/
def sat16 (v : Int) : Nat := min v.toNat 0xFFFF

/-- The counts of the window that ended, in the registers of a channel (R240). -/
def Dev.acuShow (d : Dev) (c : Nat) : Dev :=
  let g := d.var V.acuG (c + 16)
  let o := d.var V.acuO (c + 16)
  let d := ((d.set F.ACU_CNT_GRAIN c (sat16 g)).set F.ACU_CNT_OTHER c (sat16 o)).set F.ACU_STAT_PILE c (sat16 (d.var V.acuP (c + 16)))
  (d.set F.ACU_STAT_SAT c (bit (tbit (d.var V.acuSat 0).toNat c))).set F.ACU_PEAK_MEANPK c
    (if g + o = 0 then 0 else (d.var V.acuPk (c + 16) / (g + o)).toNat)

/-- The two Telemetry records of a window (R237). -/
def Dev.acuRecord (d : Dev) : List Nat :=
  leBytes 8 (d.var V.acuEnd 0).toNat ++ (List.range 16).flatMap (fun c => leBytes 2 (d.get F.ACU_CNT_GRAIN c)) ++
  leBytes 2 (d.var V.acuSat 0).toNat ++
  leBytes 2 ((List.range 16).foldl (fun a c => a + bit (decide (0 < d.get F.ACU_STAT_PILE c)) * 2 ^ c) 0) ++
  leBytes 4 (d.get F.ACU_WSEQ_SEQ 0) ++ [(d.var V.acuApplied 16).toNat]

def Dev.acuRecord2 (d : Dev) : List Nat :=
  leBytes 8 (d.var V.acuEnd 0).toNat ++ (List.range 16).flatMap (fun c => leBytes 2 (d.get F.ACU_CNT_OTHER c))

/-- ACOUSTIC_PUBLISH (R236, R237, R241): once every impact of the ended window has its class, its counts are final; with EN they are committed
to slots SLOT and SLOT + 1. A SLOT outside 64 to 318 publishes nothing and sets BCODE 0x9. -/
def Dev.acuPublish (d : Dev) : Dev :=
  if d.var V.acuClosed 0 = 0 ∨ (List.range 16).any (fun c => (d.past 21 c).any (fun e => e.2 == 2)) then d
  else
    let d := (d.each (List.range 16) (fun c a => a.acuShow c)).setVar V.acuClosed 0 0
    let d := d.when (d.var V.acuSat 0 != 0) (fun a => a.irq 0x23 21)
    let d := d.when ((List.range 16).any (fun c => d.get F.ACU_STAT_PILE c != 0)) (fun a => a.irq 0x23 22)
    if !d.on F.ACU_PUB_EN.act 0 then d
    else
      let i := d.get F.ACU_PUB_SLOT.act 0
      if i < 64 ∨ 318 < i then d.errBlk 0x23 9 0 else (d.clrPost i 0x23 d.acuRecord).clrPost (i + 1) 0x23 d.acuRecord2

def execAcousticPublish (s : State) : Host.Outcome State Fault Refusal := s.upd Dev.acuPublish

/-- ACOUSTIC_SNAP_ARM (R239, R241): a snapshot is armed on channel CH as it stands at ARM, and DONE clears. -/
def execAcousticSnapArm (a : Acc) (c : Fin 16) (s : State) : Host.Outcome State Fault Refusal :=
  s.upd (fun d => d.wr 0x23 0x180C a (fun d => ((d.set F.ACU_SNAP_CH 0 c.val).set F.ACU_SNAP_DONE 0 0).setVar V.snapArm 0 1 |>.setVar V.snapCh 0 c.val))

/-- ACOUSTIC_SNAP_DONE (R239): 448 samples from the trigger on have been taken; the 512 samples are stored, two a word, and DONE sets. -/
def Dev.snapDone (d : Dev) (l : List (BitVec 16)) : Dev :=
  if d.var V.snapArm 0 = 2 ∧ d.passed V.snapAt 0 1792000 then
    let d := d.each (List.range 256) (fun w a =>
      a.set F.ACU_SNAPD_W w ((l.getD (2 * w) 0).toNat + (l.getD (2 * w + 1) 0).toNat * 65536))
    ((d.set F.ACU_SNAP_DONE 0 1).setVar V.snapArm 0 0).irq 0x23 23
  else d

def execAcousticSnapDone (l : List (BitVec 16)) (s : State) : Host.Outcome State Fault Refusal := s.upd (fun d => d.snapDone l)

end Sys2Proof.Machine
end

