-- ==== Sys2Proof/Machine/Groups.lean ====
section
/-! DEFINITION. Firebreak's groups: their state, the cut orders of the two lanes, the reaction time, and the latch of all groups
(spec/11_firebreak.md, R376 to R383, R387). -/

namespace Sys2Proof.Machine

/-! ### The message of the groups, on CAN and on the Ride link (R411, R443, R450) -/

/-- CRC-8 with polynomial 0x1D over bytes, most significant bit first (R411). -/
def crc8Bit (n c : Nat) : Nat :=
  match n with
  | 0 => c
  | k + 1 => crc8Bit k (if c / 128 % 2 = 1 then (c * 2 % 256) ^^^ 0x1D else c * 2 % 256)

def crc8 (l : List Nat) : Nat := (l.foldl (fun c b => crc8Bit 8 (c ^^^ (b % 256))) 0xFF) ^^^ 0xFF

/-- The eight bytes of the Firebreak state message (R411). -/
def Dev.fbMessage (d : Dev) (c : Nat) : List Nat :=
  let g := (List.range 8).foldl (fun a k => a + d.get F.FBRK_GRP_STAT_STATE k * 8 ^ k) 0
  let p := (List.range 16).foldl (fun a k => a + bit (d.get F.FBRK_PR_STAT_STATE k != 1) * 2 ^ k) 0
  let l := leBytes 3 g ++ [d.get F.FBRK_LATCH_GROUPS 0] ++ leBytes 2 p ++ [(d.var V.fbSeq c).toNat % 16]
  l ++ [crc8 l]

/-- The head ports that RIDE uses: A and B where they are enabled, C and D where they are taken (R428, R466). -/
def Dev.headPorts (d : Dev) : List Nat :=
  (if d.on F.RIDE_CFG_PAEN 0 then [0] else []) ++ (if d.on F.RIDE_CFG_PBEN 0 then [1] else []) ++
  (if d.on F.RIDE_CFG_PCEN 0 then [2] else []) ++ (if d.on F.RIDE_CFG_PDEN 0 then [3] else [])

/-- A Ride frame of `len` bytes from its EtherType 0x88B5 up to its FCS (R443): 12 bytes of addresses lie before it and 4 bytes of FCS behind it. The payload begins with
the kind; what follows its contents is padding (log entry 199). -/
def rideFrame (kind len : Nat) (l : List Nat) : List Nat := [0x88, 0xB5] ++ padTo (len - 18) (kind :: l)

/-- After a change of a group's state RIDE sends an FB frame of 64 bytes, with bytes 0 to 3 of the Firebreak message, on every head port (R443, R450). -/
def Dev.rideFb (d : Dev) : Dev :=
  if d.running 0x2B && d.var V.fbChg 8 == 1 then
    let l := rideFrame 3 64 ((d.fbMessage 0).take 4)
    d.each d.headPorts (fun h a => (a.setBlob 7 h l).setVar V.rideFbN h (a.var V.rideFbN h + 1))
  else d

/-- As `Dev.rideFb`, and the change is dealt with. -/
def Dev.rideFbSend (d : Dev) : Dev := d.rideFb.setVar V.fbChg 8 0

/-! ### The groups -/

/-- STAT.FAULT of FBRK: a group is LATCHED (R387). -/
def Dev.fbStat (d : Dev) : Dev := d.set F.COM_STAT_FAULT 0x24 (bit ((List.range 8).any (fun g => d.get F.FBRK_GRP_STAT_STATE g == 4)))

/-- The state of a group (R378). -/
def Dev.groupState (d : Dev) (g : Nat) : Nat :=
  let mem := fun (p : Nat) => tbit (d.get F.FBRK_GRP_CFG_PAIRS g) p
  if tbit (d.get F.FBRK_LATCH_GROUPS 0) g then 4
  else if !d.running 0x24 || d.var V.kilnK5 0 == 1 then 5
  else if (List.range 16).any (fun p => mem p && d.on F.FBRK_PR_CFG_TESTREQ p && tbit (d.get F.FBRK_TEST_PEND 0) p) then 3
  else if (List.range 16).any (fun p => mem p && d.get F.FBRK_PR_STAT_STATE p != 1) then 1
  else if d.on F.FBRK_GRP_CFG_RSTM g && d.var V.grpCut g == 1 then 2
  else 0

/-- The first open sample among the channels of a group's pairs (R391); without one the cut itself, which the spec leaves open (log entry 196). -/
def Dev.groupOpenAt (d : Dev) (g : Nat) : Int :=
  (List.range 32).foldl (fun a i =>
    if tbit (d.get F.FBRK_GRP_CFG_PAIRS g) (i / 2) && d.var V.runV i == 0 && d.var V.runN i != 0 then min a (d.var V.runAt i) else a) (d.var V.uptime 0)

/-- The group's state changes to `new`: every departure from CLOSED counts and is timed (R382, R390 to R392), and the Firebreak messages follow (R411, R450). -/
def Dev.groupTo (d : Dev) (g new : Nat) : Dev :=
  let old := d.get F.FBRK_GRP_STAT_STATE g
  let d := (d.set F.FBRK_GRP_STAT_STATE g new).setVar V.grpCut g (bit (new != 0))
  let d := if old = new then d else d.each (List.range 9) (fun c a => a.setVar V.fbChg c 1)
  if old = 0 ∧ new ≠ 0 then
    (((d.incSat F.FBRK_GRP_CNT_CUTS g).irq 0x24 0).setVar V.grpOpen g (d.groupOpenAt g)).setVar V.grpReact g (bit (d.running 0x24))
  else if old ≠ 0 ∧ new = 0 then d.irq 0x24 1 else d

/-- A group is evaluated (R377, R378, R390, R391): `wa` and `wb`, lane A's and lane B's order is the wrong one; `off`, readback shows every cut output off. A
disabled group is not evaluated, cuts nothing and shows the reset state. -/
def Dev.groupStep (d : Dev) (g : Nat) (wa wb off : Bool) : Dev :=
  if !d.on F.FBRK_GRP_CFG_EN g then
    (((d.set F.FBRK_GRP_STAT_STATE g 5).set F.FBRK_GRP_STAT_CUTA g 0).set F.FBRK_GRP_STAT_CUTB g 0).set F.FBRK_GRP_STAT_RBOK g 0
  else
    let new := d.groupState g
    let ca := (new != 0) != wa
    let cb := (new != 0) != wb
    let done := (ca || cb) && off
    let d := ((d.groupTo g new).set F.FBRK_GRP_STAT_CUTA g (bit ca)).set F.FBRK_GRP_STAT_CUTB g (bit cb)
    let d := d.set F.FBRK_GRP_STAT_RBOK g (bit done)
    if done && d.var V.grpReact g == 1 then
      let r := min 65535 ((d.var V.uptime 0 - d.var V.grpOpen g) / (10000 * 65536)).toNat
      ((d.setVar V.grpReact g 0).set F.FBRK_REACT_LASTR 0 r).set F.FBRK_REACT_MAXR 0 (max r (d.get F.FBRK_REACT_MAXR 0))
    else d

/-- Every group takes its state outside a cycle, both lanes sound; RIDE tells of a change (R450). -/
def Dev.groupsNow (d : Dev) : Dev := (d.each (List.range 8) (fun g a => a.groupStep g false false false)).fbStat.rideFbSend

/-- While FBRK is not running no cycle comes, and the groups follow at once (R378, R387). -/
def Dev.fbIdle (d : Dev) : Dev := if d.running 0x24 then d else d.groupsNow

/-- A logic fault latches all groups and is reported as class C3 with BCODE 0x4 (R383): 1 LINK, 2 LANE, 3 READBACK, 4 DEAD, 5 KILN. -/
def Dev.fbLatchAll (d : Dev) (cause : Nat) : Dev :=
  let m := (d.var V.fbCause 0).toNat
  let d := (d.set F.FBRK_LATCH_GROUPS 0 255).set F.FBRK_LATCH_LCAUSE 0 cause
  let d := (d.setVar V.fbCause 0 (((if tbit m cause then m else m + 2 ^ cause) : Nat) : Int)).set F.FBRK_RSTSTAT_WINDOW 0 0
  ((d.irq 0x24 3).errBlk 0x24 4 3).fbIdle

end Sys2Proof.Machine
end

