-- ==== Sys2Proof/Machine/Memory.lean ====
section
/-! DEFINITION. DRAM in canonical form, poisoned blocks, and accesses of devices through the IOMMU (spec/14_memory_dma_iommu.md, R469 to
R482). -/

namespace Sys2Proof.Machine

/-- What an address that memory does not list reads as (log entry 4). -/
def memUnlisted : Byte := 0

/-- Reads one byte. -/
def memGet (m : List Host.Cell) (a : Nat) : Byte :=
  match m with
  | [] => memUnlisted
  | (x, b) :: t => if x = a then b else memGet t a

/-- Writes one byte, keeping the canonical form. -/
def memPut (m : List Host.Cell) (a : Nat) (b : Byte) : List Host.Cell :=
  match m with
  | [] => if b = memUnlisted then [] else [(a, b)]
  | (x, c) :: t =>
    if x < a then (x, c) :: memPut t a b
    else if x = a then (if b = memUnlisted then t else (a, b) :: t)
    else if b = memUnlisted then (x, c) :: t else (a, b) :: (x, c) :: t

/-- The canonical form: addresses strictly rising, no entry equal to what an unlisted address reads as. -/
def Memory.wf (m : List Host.Cell) : Bool :=
  match m with
  | [] => true
  | (x, b) :: t => b != memUnlisted && t.all (fun e => decide (x < e.1)) && Memory.wf t

/-- Bytes of DRAM from an address on. -/
def memRead (m : List Host.Cell) (a n : Nat) : List Nat := (List.range n).map (fun k => (memGet m (a + k)).toNat)

/-- Writes bytes from an address on. -/
def memWrite (m : List Host.Cell) (a : Nat) (l : List Nat) : List Host.Cell :=
  match l with
  | [] => m
  | x :: t => memWrite (memPut m a (BitVec.ofNat 8 x)) (a + 1) t

/-- An address in the DRAM region of the physical map (R470). -/
def inDram (a : Nat) : Bool := decide (0x100000000 ≤ a) && decide (a ≤ 0x4BFFFFFFF)

/-- Memories of the control plane: ECC SRAM and the TCMs (R470). -/
def ctlMem (a : Nat) : Bool :=
  (decide (0xC0000000 ≤ a) && decide (a < 0xC0400000)) || (decide (0xC8000000 ≤ a) && decide (a < 0xC8080000)) ||
    (decide (0xC8100000 ≤ a) && decide (a < 0xC8180000))

/-- Whether a 32-byte block is poisoned (R474). -/
def Dev.poisoned (d : Dev) (a : Nat) : Bool := d.var V.poison (a / 32) == 1

/-- Why a device access failed: the IOMMU's cause and whether an access or permission fault gave it (R492), an error response (R471), or a
poisoned block (R474). -/
inductive AccessFail where
  | iommu (cause : Nat) (perm : Bool)
  | resp (addr : Nat)
  | ecc (addr : Nat)
  deriving DecidableEq, Repr

/-! ### The IOMMU (R478 to R481). The walk follows the RISC-V IOMMU Architecture Specification 1.0 with the options of R478 (log entry 20). -/

/-- Eight bytes that the IOMMU itself reads at a physical address; none where the access fails. -/
def State.walkRead (s : State) (a : Nat) : Option Nat :=
  if inDram a && !s.dev.poisoned a then some (ofLe (memRead s.mem a 8)) else none

/-- A page table entry that every stage refuses: not valid, writable without readable, a reserved bit set, or a pointer with A, D or U set. -/
def pteBad (e : Nat) : Bool :=
  !tbit e 0 || (!tbit e 1 && tbit e 2) || e / 2 ^ 54 != 0 || (!tbit e 1 && !tbit e 3 && (tbit e 4 || tbit e 6 || tbit e 7))

/-- A pointer to the next table. -/
def pteNext (e : Nat) : Bool := !tbit e 1 && !tbit e 3

/-- The table that an entry points to, or the page that a leaf at level `l` gives for page number bits `v`. -/
def ptePage (e l v : Nat) : Nat := e / 1024 % 2 ^ 44 / 512 ^ l * 512 ^ l + v % 512 ^ l

/-- What a walk gives: the page and whether a write needs no update of the entry. -/
abbrev Walk := State × Except (Nat × Bool) (Nat × Bool)

/-- Uses a leaf (R478: page sizes to 1 GiB, hardware A and D update). `pf` is the page-fault cause; `upd` allows the update. -/
def State.leaf (s : State) (at_ e l v pf : Nat) (wr upd : Bool) : Walk :=
  if 2 < l ∨ e / 1024 % 2 ^ 44 % 512 ^ l ≠ 0 then (s, .error (pf, false))
  else if !tbit e 4 || (wr && !tbit e 2) || (!wr && !tbit e 1) then (s, .error (pf, true))
  else if tbit e 6 && (tbit e 7 || !wr) then (s, .ok (ptePage e l v, tbit e 2 && tbit e 7))
  else if !upd then (s, .error (pf, false))
  else
    let e2 := (e ||| 64) ||| (if wr then 128 else 0)
    ({ s with mem := memWrite s.mem at_ (leBytes 8 e2) }, .ok (ptePage e l v, tbit e2 2 && tbit e2 7))

/-- Second stage (Sv39x4, Sv48x4): a guest page from table `tbl` at level `l`; `gpf` is the guest-page-fault cause. -/
def State.walkG (s : State) (l tbl page : Nat) (root wr upd : Bool) : Walk :=
  let gpf := if wr then 23 else 21
  let at_ := tbl * 4096 + 8 * (if root then page / 512 ^ l else page / 512 ^ l % 512)
  match s.walkRead at_ with
  | none => (s, .error (if wr then 7 else 5, true))
  | some e =>
    if pteBad e then (s, .error (gpf, false))
    else if !pteNext e then s.leaf at_ e l page gpf wr upd
    else match l with
      | 0 => (s, .error (gpf, false))
      | k + 1 => State.walkG s k (e / 1024 % 2 ^ 44) page false wr upd

/-- A guest page becomes a physical page: by the second stage, or itself where that is Bare. `g` is the word iohgatp. -/
def State.stage2 (s : State) (g page : Nat) (wr upd : Bool) : Walk :=
  match g / 2 ^ 60 with
  | 0 => (s, .ok (page, true))
  | m =>
    let l := if m = 8 then 2 else 3
    if 512 ^ l * 2048 ≤ page then (s, .error (if wr then 23 else 21, false)) else s.walkG l (g % 2 ^ 44) page true wr upd

/-- First stage (Sv39, Sv48): a page of the IOVA from the table at guest page `tbl`, level `l`. -/
def State.walkS (s : State) (l tbl page g : Nat) (wr upd updG : Bool) : Walk :=
  let pf := if wr then 15 else 13
  match s.stage2 g tbl false updG with
  | (s, .error (c, p)) => (s, .error (if wr ∧ c = 21 then 23 else if wr ∧ c = 5 then 7 else c, p))
  | (s, .ok (t, _)) =>
    let at_ := t * 4096 + 8 * (page / 512 ^ l % 512)
    match s.walkRead at_ with
    | none => (s, .error (if wr then 7 else 5, true))
    | some e =>
      if pteBad e then (s, .error (pf, false))
      else if !pteNext e then s.leaf at_ e l page pf wr upd
      else match l with
        | 0 => (s, .error (pf, false))
        | k + 1 => State.walkS s k (e / 1024 % 2 ^ 44) page g wr upd updG

/-- A device context that R478 does not allow: an option it lacks, a reserved bit, or a mode outside its list. -/
def dcBad (w : List Nat) : Bool :=
  let tc := w.getD 0 0
  let g := w.getD 1 0
  let f := w.getD 3 0
  tbit tc 1 || tbit tc 2 || tbit tc 3 || tbit tc 5 || tbit tc 6 || tbit tc 9 || tbit tc 10 || tbit tc 11 || tc / 4096 != 0 ||
    !((([0, 8, 9] : List Nat)).contains (g / 2 ^ 60)) || (g / 2 ^ 60 != 0 && g % 4 != 0) ||
    !((([0, 8, 9] : List Nat)).contains (f / 2 ^ 60)) || w.getD 4 0 / 2 ^ 60 != 0

/-- The device context of a device (extended format): from the cache of 64 entries, or from the directory in DRAM. -/
def State.devCtx (s : State) (dev : Nat) : State × Except Nat (List Nat) :=
  match s.dev.ddc.find? (fun e => e.1 == dev) with
  | some e => (s, .ok e.2)
  | none =>
    let t := s.dev.get F.IOMU_DDTP_V 0
    let root := t / 1024 % 2 ^ 44 * 4096
    let leafAt : Except Nat Nat :=
      if t % 16 = 2 then (if 64 ≤ dev then .error 260 else .ok root)
      else match s.walkRead (root + 8 * (dev / 64)) with
        | none => .error 257
        | some e => if !tbit e 0 then .error 258 else if e / 2 % 512 ≠ 0 ∨ e / 2 ^ 54 ≠ 0 then .error 259 else .ok (e / 1024 % 2 ^ 44 * 4096)
    match leafAt with
    | .error c => (s, .error c)
    | .ok b =>
      let a := b + 64 * (dev % 64)
      if (s.walkRead a).isNone then (s, .error 257)
      else
        let w := (List.range 8).map (fun k => ofLe (memRead s.mem (a + 8 * k) 8))
        if !tbit (w.getD 0 0) 0 then (s, .error 258)
        else if dcBad w then (s, .error 259)
        else ({ s with dev := { s.dev with ddc := (dev, w) :: s.dev.ddc.take 63 } }, .ok w)

/-- An IOVA outside the range of the first stage. -/
def iovaBad (fsc page : Nat) : Bool :=
  match fsc / 2 ^ 60 with
  | 0 => false
  | m =>
    let n := if m = 8 then 26 else 35
    !(page / 2 ^ n == 0 || page / 2 ^ n == 2 ^ (52 - n) - 1)

/-- Translation of one page for a device (R478, R480, R481): Off faults with cause 256, Bare passes the address through. A translation that
succeeds enters the IOTLB of 1,024 entries, and the oldest leaves (log entry 20); one that faults does not. -/
def State.xlate (s : State) (dev page : Nat) (wr : Bool) : State × Except (Nat × Bool) Nat :=
  let mode := s.dev.get F.IOMU_DDTP_V 0 % 16
  if mode = 1 then (s, .ok page)
  else if mode ≠ 2 ∧ mode ≠ 3 then (s, .error (256, false))
  else match s.devCtx dev with
    | (s, .error c) => (s, .error (c, c == 260))
    | (s, .ok w) =>
      let g := w.getD 1 0
      let f := w.getD 3 0
      let gv := g / 2 ^ 60 != 0
      let ps := if f / 2 ^ 60 = 0 then 0 else w.getD 2 0 / 4096 % 2 ^ 20
      let gs := if gv then g / 2 ^ 44 % 2 ^ 16 else 0
      if !gv && f / 2 ^ 60 == 0 then (s, .ok page)
      else match s.dev.tlb.find? (fun e => e.gv == gv && e.gscid == gs && e.pscid == ps && e.page == page && (e.w || !wr)) with
        | some e => ({ s with dev := (s.dev.setVar V.tlbHit 0 (s.dev.var V.tlbHit 0 + 1)).cone 0x09 0x100 }, .ok e.phys)
        | none =>
          let s : State := { s with dev := (s.dev.setVar V.tlbMiss 0 (s.dev.var V.tlbMiss 0 + 1)).cone 0x09 0x101 }
          if iovaBad f page then (s, .error (if wr then 15 else 13, false))
          else
            let first : Walk := if f / 2 ^ 60 = 0 then (s, .ok (page, true))
              else s.walkS (if f / 2 ^ 60 = 8 then 2 else 3) (f % 2 ^ 44) page g wr (tbit (w.getD 0 0) 8) (tbit (w.getD 0 0) 7)
            match first with
            | (s, .error c) => (s, .error c)
            | (s, .ok (gp, w1)) =>
              match s.stage2 g gp wr (tbit (w.getD 0 0) 7) with
              | (s, .error c) => (s, .error c)
              | (s, .ok (p, w2)) =>
                ({ s with dev := { s.dev with tlb := ⟨gv, gs, ps, page, p, w1 && w2⟩ :: s.dev.tlb.take 1023 } }, .ok p)

/-- Translation of the pages that an access touches, in order. -/
def State.xlateAll (s : State) (dev page n : Nat) (wr : Bool) : State × Except (Nat × Bool) (List Nat) :=
  match n with
  | 0 => (s, .ok [])
  | k + 1 => match s.xlate dev page wr with
    | (s, .error c) => (s, .error c)
    | (s, .ok p) => match State.xlateAll s dev (page + 1) k wr with
      | (s, .error c) => (s, .error c)
      | (s, .ok l) => (s, .ok (p :: l))

/-- Pages that an access touches. -/
def pagesOf (a n : Nat) : Nat := if n = 0 then 0 else (a + n - 1) / 4096 - a / 4096 + 1

/-- Physical address of a byte of an access whose pages are translated. -/
def physOf (iova : Nat) (pages : List Nat) (k : Nat) : Nat := pages.getD ((iova + k) / 4096 - iova / 4096) 0 * 4096 + (iova + k) % 4096

/-- SYS captures an access that the physical map refuses (R471): cause UNMAP outside the map, PLANE inside it. BANK names a DMA engine; for
another device, which has no bank, it is free. -/
def Dev.sysRefused (d : Dev) (dev p : Nat) : Dev :=
  let inMap := decide (p < 0x10000) || (decide (0x80000000 ≤ p) && decide (p < 0xC0400000)) || (decide (0xC8000000 ≤ p) && decide (p < 0xC8080000)) ||
    (decide (0xC8100000 ≤ p) && decide (p < 0xC8180000)) || (decide (0xE0000000 ≤ p) && decide (p < 0xE0400000)) ||
    (decide (0xF0000000 ≤ p) && decide (p < 0xF0400000)) || (decide (0xF1000000 ≤ p) && decide (p < 0xF1001000)) || inDram p
  if 0x200 ≤ dev ∧ dev < 0x240 then d.errAcc 0 (if inMap then 3 else 5) (p % 65536) (11 + (dev - 0x200) / 16)
  else d.useFree.errAcc 0 (if inMap then 3 else 5) (p % 65536) (d.freeVal % 16)

/-- A device transaction faults: it enters the fault queue where that is on and has room, no overflow or memory fault of the queue stands, and the
device's context does not turn the record off (DTF) (R478, R482). A record holds the cause in bits 11:0 and the device in bits 63:40 of its first
word, the address in its third, and after a guest-page fault the guest address, which the walk does not keep, as a free value in its fourth. -/
def State.iommuFault (s : State) (dev iova cause : Nat) (wr : Bool) : State :=
  let d := s.dev.cone 0x09 0x102
  let dtf := decide (cause < 256) && (match d.ddc.find? (fun e => e.1 == dev) with | some e => tbit (e.2.getD 0 0) 4 | none => false)
  if !d.on F.IOMU_FQCSR_FQON 0 || d.on F.IOMU_FQCSR_FQOF 0 || d.on F.IOMU_FQCSR_FQMF 0 || dtf then { s with dev := d }
  else
    let size := 2 ^ (d.get F.IOMU_FQB_V 0 % 32 + 1)
    let t := d.get F.IOMU_FQT_V 0
    if (t + 1) % size = d.get F.IOMU_FQH_V 0 % size then
      let d := ((d.set F.IOMU_FQCSR_FQOF 0 1).set F.COM_STAT_FAULT 0x09 1).errBlk 0x09 1 1
      let d := if d.on F.IOMU_FQCSR_FIE 0 then (d.set F.IOMU_IPSR_V 0 (d.get F.IOMU_IPSR_V 0 ||| 2)).level 0x09 1 true else d
      { s with dev := d }
    else
      let base := d.get F.IOMU_FQB_V 0 / 1024 % 2 ^ 44 * 4096
      let gp := decide (cause = 21 ∨ cause = 23)
      let rec32 := leBytes 8 (cause % 4096 + (if wr then 3 else 2) * 2 ^ 34 + dev * 2 ^ 40) ++ leBytes 8 0 ++ leBytes 8 iova ++
        leBytes 8 (if gp then d.freeVal else 0)
      let d := (if gp then d.useFree else d).set F.IOMU_FQT_V 0 ((t + 1) % size)
      let d := if d.on F.IOMU_FQCSR_FIE 0 then (d.set F.IOMU_IPSR_V 0 (d.get F.IOMU_IPSR_V 0 ||| 2)).level 0x09 1 true else d
      if inDram (base + t * 32) then
        { s with dev := d.when (d.poisoned (base + t * 32)) (fun a => a.setVar V.poison ((base + t * 32) / 32) 0), mem := memWrite s.mem (base + t * 32) rec32 }
      else { s with dev := d.set F.IOMU_FQCSR_FQMF 0 1 }

/-- The failure of the access proper, its pages translated: a byte outside DRAM, or a poisoned block that is read or written in part. A device that is no DMA engine
has no bank, and the configuration pages answer it with an error (log entry 201). -/
def Dev.accessBad (d : Dev) (iova n : Nat) (pages : List Nat) (wr : Bool) : Option AccessFail :=
  (List.range n).findSome? (fun k =>
    let p := physOf iova pages k
    if !inDram p then some (.resp p)
    else if d.poisoned p && !(wr && decide (iova ≤ (iova + k) / 32 * 32) && decide ((iova + k) / 32 * 32 + 32 ≤ iova + n)) then some (.ecc p)
    else none)

/-- Writes the bytes of an access that does not fail; a block written whole loses its poison (R474). -/
def State.devStore (s : State) (iova : Nat) (pages : List Nat) (k : Nat) (l : List Nat) : State :=
  match l with
  | [] => s
  | x :: t =>
    let p := physOf iova pages k
    State.devStore { s with dev := if s.dev.poisoned p then s.dev.setVar V.poison (p / 32) 0 else s.dev, mem := memPut s.mem p (BitVec.ofNat 8 x) }
      iova pages (k + 1) t

/-- 32-byte blocks that an access touches. -/
def blocksOf (a n : Nat) : Nat := if n = 0 then 0 else (a + n - 1) / 32 - a / 32 + 1

/-- The address that a fault of an access names: its own, or the start of the first of its pages that does not translate. -/
def State.faultAt (s : State) (dev iova n : Nat) (wr : Bool) : Nat :=
  match (List.range (pagesOf iova n)).find? (fun k => match (s.xlate dev (iova / 4096 + k) wr).2 with | .error _ => true | .ok _ => false) with
  | some (k + 1) => (iova / 4096 + (k + 1)) * 4096
  | _ => iova

/-- The pages of an access, or why it fails; a translation fault enters the fault queue and a refused address is captured by SYS. -/
def State.devOpen (s : State) (dev iova n : Nat) (wr : Bool) : State × Except AccessFail (List Nat) :=
  match s.xlateAll dev (iova / 4096) (pagesOf iova n) wr with
  | (t, .error (c, p)) => (t.iommuFault dev (s.faultAt dev iova n wr) c wr, .error (.iommu c p))
  | (s, .ok pages) =>
    match s.dev.accessBad iova n pages wr with
    | some (.resp p) => ({ s with dev := s.dev.sysRefused dev p }, .error (.resp p))
    | some f => (s, .error f)
    | none => (s, .ok pages)

/-- A device writes bytes through the IOMMU. The answer says whether it failed. -/
def State.devWrite (s : State) (dev iova : Nat) (l : List Nat) : State × Option AccessFail :=
  match s.devOpen dev iova l.length true with
  | (s, .error f) => (s, some f)
  | (s, .ok pages) => (State.devStore { s with dev := s.dev.cone 0x08 0x101 (blocksOf iova l.length) } iova pages 0 l, none)

/-- Bytes that a device reads through the IOMMU, or why it fails. -/
def State.devRead (s : State) (dev iova n : Nat) : State × Except AccessFail (List Nat) :=
  match s.devOpen dev iova n false with
  | (s, .error f) => (s, .error f)
  | (s, .ok pages) => ({ s with dev := s.dev.cone 0x08 0x100 (blocksOf iova n) },
      .ok ((List.range n).map (fun k => (memGet s.mem (physOf iova pages k)).toNat)))

/-- The bytes a device would read now, if it could. -/
def State.devLook (s : State) (dev iova n : Nat) : Option (List Nat) :=
  match s.xlateAll dev (iova / 4096) (pagesOf iova n) false with
  | (_, .error _) => none
  | (s, .ok pages) => if (s.dev.accessBad iova n pages false).isSome then none
    else some ((List.range n).map (fun k => (memGet s.mem (physOf iova pages k)).toNat))

/-- As `State.devLook`, zeros where the read fails. -/
def State.devPeek (s : State) (dev iova n : Nat) : List Nat := (s.devLook dev iova n).getD (List.replicate n 0)

end Sys2Proof.Machine
end

