-- ==== Sys2Proof/Machine/Operands.lean ====
section
/-! DEFINITION. The operands of an access to the configuration space: which register an offset names, at which index of its layout, and
which half of a pair (spec/02_register_conventions.md, R44 to R49, R57, R61). -/

namespace Sys2Proof.Machine

/-- Number of repetitions of a layout. -/
def dimProd (l : List (Nat × Nat)) : Nat := l.foldl (fun n e => n * e.1) 1

/-- The index that a remainder of an offset names in a layout of repetitions (count, stride), the outermost first. -/
def dimIndex (l : List (Nat × Nat)) (r : Nat) : Option Nat :=
  match l with
  | [] => if r = 0 then some 0 else none
  | (n, s) :: t => if r / s < n then (dimIndex t (r % s)).map (fun k => r / s * dimProd t + k) else none

/-- A register found at an offset: its repetition, and whether the offset is the high half of a pair (R61). -/
structure RegAt where
  reg : Reg
  rep : Nat
  high : Bool

/-- The register of a list at an offset; the first that fits. -/
def regFind (l : List Reg) (off : Nat) : Option RegAt :=
  l.findSome? (fun r =>
    if off < r.off then none
    else match dimIndex r.dims (off - r.off) with
      | some k => some ⟨r, k, false⟩
      | none =>
        if r.pair && decide (r.off + 4 ≤ off) then (dimIndex r.dims (off - r.off - 4)).map (fun k => ⟨r, k, true⟩) else none)

/-- The register of a slot at an offset: on the common first page below 0x100, or in the block's own map (R49). -/
def regAt (slot off : Nat) : Option RegAt := regFind (if off < 0x100 then regsCOM else regsOf slot) off

/-- Offsets that R48 assigns and that hold no register field: ID, CAP and CHCNT; the OTP window of LCS; the Clearing buffers;
the windows on the log and on the queue of Saggar. A write there changes nothing. -/
def fixedOff (slot off : Nat) : Bool :=
  (off == 0 || off == 4 || off == 0x84) ||
  (slot == 0x02 && (off == 0x804 || off == 0x808 || off / 0x1000 == 1)) ||
  (slot == 0x0B && decide (0x1000 ≤ off) && decide (off < 0xD000)) ||
  (slot == 0x04 && off / 0x1000 == 1) || (slot == 0x03 && decide (0x1000 ≤ off) && decide (off < 0x1440))

/-- Whether an offset of a slot is assigned (R46). -/
def offMapped (slot off : Nat) : Bool := fixedOff slot (off / 4 * 4) || (regAt slot (off / 4 * 4)).isSome

/-- An access of `n` bytes that R47 allows: aligned 32-bit on page 0, and on pages 1 to 15 also aligned 64-bit and bursts of words of up to
64 bytes inside a page. -/
def sizeOk (off n : Nat) : Bool :=
  n % 4 == 0 && decide (0 < n) && decide (n ≤ 64) && off % 4 == 0 && !(n == 8 && off % 8 != 0) && decide (off % 0x1000 + n ≤ 0x1000) &&
    (decide (0x1000 ≤ off) || n == 4)

/-- Whether a register lies under the channel of the accessing bank: the channel window, and pages that show the selected channel. -/
def chanReg (r : RegAt) : Bool := r.reg.chan

/-- The index of a register's fields: the repetition within the slot for the first page, within the channel for a channel register (`ch`); ETH shows
entries of the forwarding table from FDB_WIN.BASE on, CROP the line slots from LWIN.BASE on (R262), BUS the partner index of the bank and the partner it names, SAGR
the payload words
of the bank, TIME the fraction held for the bank. -/
def fieldIndex (d : Dev) (slot off bank ch : Nat) (r : RegAt) : Nat :=
  if off < 0x100 then (if r.reg.off = 0x80 then slot * 16 + bank else slot * dimProd r.reg.dims + r.rep)
  else if slot = 0x03 ∧ r.reg.off = 0x810 then 8 * bank + r.rep
  else if slot = 0x28 ∧ r.reg.off = 0x844 then bank
  else if slot = 0x28 ∧ 0x848 ≤ r.reg.off ∧ r.reg.off ≤ 0x868 then d.get F.BUS_PT_IDX_ADDR bank
  else if slot = 0x07 ∧ r.reg.off = 0x808 then bank
  else if slot = 0x2A ∧ (r.reg.off = 0x1000 ∨ r.reg.off = 0x1008 ∨ r.reg.off = 0x100C) then (r.rep + d.get F.ETH_FDB_WIN_BASE 0 / 256 * 256) % 2048
  else if slot = 0x1B ∧ r.reg.off = 0x2000 then (r.rep + d.get F.CROP_LWIN_BASE 0) % 2048
  else if r.reg.chan then ch * dimProd r.reg.dims + r.rep
  else r.rep

/-- An operation of a block is in progress (R51). The spec names no operation for most blocks; the model takes those whose start and end the rules give
(log entry 165): loads and releases, a mode transition, records to be written, a Kiln request, a sweep, DRAM training, walks, DMA channels at work, a
retune, an acquisition, a grid update, a projection, a check, a job, an event of a channel, a panel line, a transfer or a write of an image, and a line
whose answer is due. -/
def Dev.opBusy (d : Dev) (slot : Nat) : Bool :=
  match slot with
  | 0x00 => d.var V.cpLoad 0 == 1 || d.var V.dpLoad 0 == 1
  | 0x01 => d.on F.PWR_MODE_PENDV 0
  | 0x04 => !d.intake.isEmpty
  | 0x05 => d.var V.kilnOn 0 == 1
  | 0x06 => d.var V.coneOn 0 == 1
  | 0x08 => d.var V.dramWait 0 != 0
  | 0x09 => d.var V.iommuWalks 0 != 0
  | 0x0A => (List.range 64).any (fun c => d.get F.DMA_CH_STAT_STATE c == 1 || d.get F.DMA_CH_STAT_STATE c == 2)
  | 0x10 => [0, 1, 2].any (fun i => d.var V.retuneOn i == 1)
  | 0x11 => [0, 1, 2].any (fun e => d.var V.acqPhase e != 0)
  | 0x18 => d.get F.CNPY_GSEQ_SEQ 0 % 2 == 1 || d.get F.CNPY_HP_STAT_ST 0 == 1 || d.get F.CNPY_HP_STAT_ST 0 == 2 || (List.range 8).any (fun i => d.var V.chkOn i == 1)
  | 0x1A => decide (0 ≤ d.var V.npuJob 0)
  | 0x21 => (List.range 24).any (fun c => d.get F.SOL_CH_STAT_PHASE c != 0)
  | 0x25 => d.var V.segPh 0 != 0
  | 0x30 => d.get F.UPD_XFER_OP 0 != 0 || d.var V.norWin 0 == 1
  | 0x31 => d.var V.monWait 0 != 0
  | _ => false

/-- The NPU's busy time over the last second in 1/1,000 (R231): the runs that have ended in it (history 4) and the one in progress. -/
def Dev.npuUtil (d : Dev) : Nat :=
  let u := d.var V.uptime 0
  let t0 := u - 65536000000000
  let l := (if 0 ≤ d.var V.npuJob 0 then [(d.var V.npuAt 0, u)] else []) ++ d.past 4 0
  ((l.filter (fun e => decide (t0 < e.2))).foldl (fun a e => a + (e.2 - max e.1 t0)) 0 / 65536000000).toNat

/-- A lane's busy time over the last millisecond in 1/256 (R301), from its evaluations (history 25). -/
def Dev.laneLoad (d : Dev) (l : Nat) : Nat :=
  let u := d.var V.grove 0 - d.var V.gridMove 0x20
  let t0 := u - 65536000000
  min 255 (((d.past 25 l).filter (fun e => decide (t0 < e.2))).foldl (fun a e => a + max 0 (min e.2 u - max e.1 t0)) 0 * 256 / 65536000000).toNat

/-- Pattern control is allowed (R588). -/
def Dev.kilnFree (d : Dev) : Bool := d.var V.lcSt 0 == 0 || d.var V.lcSt 0 == 1 || d.var V.lcSt 0 == 3

/-- Patterns of a region (R585). -/
def kilnP (r : Nat) : Nat := if r = 4 then 2048 else if r = 6 then 65536 else 4096

/-- Patterns of a run (R587, R607): 0 acts as R585, and so does every value where pattern control is not allowed. -/
def Dev.kilnPats (d : Dev) (r : Nat) : Nat :=
  let p := d.get F.KILN_PATS_P r
  if d.kilnFree && p != 0 then min 65536 p else kilnP r

/-- PRPG seed of a run (R587, R607): 0 acts as the OTP seed, and so does every value where pattern control is not allowed. -/
def Dev.kilnSeedOf (d : Dev) (r : Nat) : Nat :=
  let p := d.get F.KILN_SEED_SEED r
  if d.kilnFree && p != 0 then p else Config.kilnSeed r

/-- Chain length L of a region (R585). -/
def kilnChain (r : Nat) : Nat :=
  match r with
  | 0 => 1536 | 1 => 1536 | 2 => 2048 | 3 => 1024 | 4 => 768 | 5 => 256 | _ => 46875

/-- Time of L + 1 shifts at 100 MHz: of one pattern, of a save and of a restore; in 2^-16 ns (R585). -/
def kilnShift (r : Nat) : Int := ((kilnChain r + 1 : Nat) : Int) * 655360

/-- Time that a save or a restore of the run in progress takes (R585, R590). -/
def Dev.kilnSaveTime (d : Dev) : Int := if d.var V.kilnSave 0 = 1 then kilnShift (d.get F.KILN_STATE_REG 0) else 0

/-- KILN_STATE.ST and PATS as they read (R606): SAVE, PATTERN and RESTORE by the shifts made. -/
def Dev.kilnShown (d : Dev) : Nat × Nat :=
  let r := d.get F.KILN_STATE_REG 0
  let t := d.var V.uptime 0 - d.var V.kilnAt 0
  match d.get F.KILN_STATE_ST 0 with
  | 3 => if t < d.kilnSaveTime then (2, 0) else (3, min 65535 (min (d.kilnPats r) ((t - d.kilnSaveTime) / kilnShift r).toNat))
  | 5 => (if t < d.kilnSaveTime then 4 else 5, d.get F.KILN_STATE_PATS 0)
  | st => (st, d.get F.KILN_STATE_PATS 0)

/-! ### CAN buffers and their spans (R397 to R399) -/

/-- Index of a buffer of a channel. -/
def bufIx (c b : Nat) : Nat := 256 * c + b

/-- Effective SPAN (R399): 0 acts as 1, above 17 as 17; a span ends at buffer 255 (R397). -/
def Dev.bufSpan (d : Dev) (c b : Nat) : Nat := min (min 17 (max 1 (d.get F.BUF_CTRL_SPAN (bufIx c b)))) (256 - b)

/-- First buffer from `b` on that lies in no other buffer's span, walking up from buffer `b` with `n` buffers left. -/
def Dev.headWalk (d : Dev) (c b t n : Nat) : Bool :=
  match n with
  | 0 => b == t
  | k + 1 => if t ≤ b then b == t else Dev.headWalk d c (b + d.bufSpan c b) t k

/-- A buffer that lies inside no other buffer's span (R397, R398). -/
def Dev.isHead (d : Dev) (c b : Nat) : Bool := d.headWalk c 0 b 256

/-- What a header word of a buffer inside another's span reads (R397, R398): the data of the other buffer run on through it, and DIR reads 0. `k` is the
buffer's index. The other bits of a header follow the data (log entry 197). -/
def Dev.innerWord (d : Dev) (r : Reg) (k : Nat) : Nat :=
  let w := 32 * k + (r.off - 0x1000) / 4
  let v := d.get F.BUS_MEM_WORD w
  if r.off = 0x1000 then v % 2 ^ 30 else if r.pair then v + d.get F.BUS_MEM_WORD (w + 1) * 2 ^ 32 else v

/-! ### SOL's converters and currents (R305, R327, R331) -/

/-- VBST in V, 60 to 120. -/
def Dev.bstSet (d : Dev) (b : Nat) : Nat := min 120 (max 60 (d.get F.SOL_BST_CFG_VBST b))

/-- The present target, mV: it moves towards VBST by at most 1 V per ms. -/
def Dev.bstTarget (d : Dev) (b : Nat) : Int :=
  let t := d.var V.bstTgt b
  let room := d.since V.bstAt b / (1000 * 65536)
  t + clamp (-room) room (d.bstSet b * 1000 - t)

/-- VRDY, 50 to 100 per cent. -/
def Dev.bstVrdy (d : Dev) (b : Nat) : Nat := min 100 (max 50 (d.get F.SOL_BST_CFG_VRDY b))

/-- A rail voltage, V, is at or above VRDY per cent of the present target. -/
def Dev.bstAbove (d : Dev) (b v : Nat) : Bool := decide ((d.bstVrdy b : Int) * d.bstTarget b ≤ (v : Int) * 100000)

/-- The deadman or the LINK hold has stopped both converters (R328, R357), or the supply is lost (R611). -/
def Dev.bstHalted (d : Dev) : Bool := d.on F.SOL_SUPPLY_DEAD 0 || d.on F.LSW_PSC_OFF1 0 || d.on F.PWR_SUPPLY_SUPLOSS 0

/-- RDY of a converter at this instant (R305): the rail as last measured against VRDY of the present target. -/
def Dev.bstRdy (d : Dev) (b : Nat) : Bool := d.on F.SOL_BST_CFG_EN b && !d.bstHalted && d.bstAbove b (d.var V.bstRail b).toNat

/-- IMEAS of a channel as it reads (R327): a current measured at this instant; 0 where both switches have been off for the 20 us; else what flows, which the
channel's valve decides. What flows is a constant of Config (log entry 179). -/
def Dev.solImeas (d : Dev) (c : Nat) : Nat :=
  let p := d.get F.SOL_CH_STAT_PHASE c
  if d.var V.solMeasAt c = d.var V.uptime 0 then d.get F.SOL_CH_IMEAS_IMEAS c
  else if (p = 0 ∨ p = 1 ∨ p = 7) ∧ d.passed V.solPhAt c 20000 then 0
  else min 65535 (Config.solCurrent c (d.var V.uptime 0))

/-- A register whose reads show its reset value while a soft reset of its block runs (R73): all but STAT, whose BUSY and CFGLOCK are 1 then, and what a soft
reset leaves, ERR, OWNER and the CONE registers (R72). CTRL already holds what the reset has left. -/
def softHides (off : Nat) : Bool := off != 0x08 && off != 0x0C && off != 0x1C && off != 0x24 && !(decide (0x30 ≤ off) && decide (off < 0x60))

/-- What a read of a register's fields shows: one word, or the 64 bits of a pair. TIME_NOW is the time itself, and the
records of a sweep are the bytes it left (R604). While a soft reset runs, reads show reset values (R73). -/
def Dev.regValue (d : Dev) (slot : Nat) (r : RegAt) (k : Nat) : Nat :=
  if d.var V.softRst slot ≠ 0 ∧ r.reg.off = 0x0C then r.reg.fields.foldl (fun n f =>
    n + (if f.kid = F.COM_STAT_BUSY.kid ∨ f.kid = F.COM_STAT_CFGLOCK.kid then 1 else f.reset k) * 2 ^ f.lsb) 0
  else if d.var V.softRst slot ≠ 0 ∧ softHides r.reg.off then r.reg.fields.foldl (fun n f => n + (if f.kind == .wo then 0 else f.reset k * 2 ^ f.lsb)) 0
  else if r.reg.off = 0x0C then r.reg.fields.foldl (fun n f =>
    n + (if f.kid = F.COM_STAT_BUSY.kid then bit (d.on f k || d.opBusy slot) else d.get f k) * 2 ^ f.lsb) 0
  else if slot = 0x07 ∧ r.reg.off = 0x800 then toBits 64 d.now
  else if slot = 0x1A ∧ r.reg.off = 0x804 then d.npuUtil
  else if slot = 0x24 ∧ r.reg.off = 0x88C then r.reg.fields.foldl (fun n f =>
    n + (if f.kid = F.FBRK_RSTSTAT_STUCK.kid ∧ d.var V.rbHigh 0 = 0 ∧ d.var V.rbLow 0 + 65536000000000 ≤ d.var V.uptime 0 then 0 else d.get f k * 2 ^ f.lsb)) 0
  else if slot = 0x20 ∧ r.reg.off = 0x820 then
    d.laneLoad 0 + d.laneLoad 1 * 256 + d.get F.WHL_LANE_QMAX0 0 * 65536 + d.get F.WHL_LANE_QMAX1 0 * 16777216
  else if slot = 0x05 ∧ r.reg.off = 0x80C then d.kilnShown.2 * 65536 + d.get F.KILN_STATE_REG 0 * 256 + d.kilnShown.1
  else if slot = 0x28 ∧ 0x1000 ≤ r.reg.off ∧ dimProd r.reg.dims = 256 ∧ d.isHead (k / 256) (k % 256) = false then d.innerWord r.reg k
  else if slot = 0x21 ∧ r.reg.off = 0x144 then d.solImeas k
  else if slot = 0x21 ∧ r.reg.off = 0x808 then
    d.get F.SOL_BST_STAT_VNOW k + bit (d.bstRdy k) * 256 + d.get F.SOL_BST_STAT_FLT k * 512
  else if slot = 0x06 ∧ r.reg.off = 0x1000 then leAt (d.blob 20 k) 0 2
  else if slot = 0x06 ∧ r.reg.off = 0x1008 then leAt (d.blob 20 k) 8 8
  else if slot = 0x06 ∧ r.reg.off = 0x1010 then leAt (d.blob 20 (k / 4)) (16 + 8 * (k % 4)) 8
  else if slot = 0x07 ∧ r.reg.off = 0x808 then (d.var V.nowFrac k).toNat
  else if slot = 0x28 ∧ 0x848 ≤ r.reg.off ∧ r.reg.off ≤ 0x868 then
    (if 253 < k then 0
     else match r.reg.off with
       | 0x848 => (d.var V.ptSeq k).toNat
       | 0x850 => (d.var V.ptName k).toNat
       | 0x858 => (d.var V.ptFirst k).toNat
       | 0x860 => (d.var V.ptLast k).toNat
       | _ => (d.var V.ptState k).toNat + 16 * (d.var V.ptNamed k).toNat + 32 * (d.var V.ptOwn k).toNat)
  else r.reg.fields.foldl (fun n f => n + (if f.kind == .wo then 0 else d.get f k * 2 ^ f.lsb)) 0

end Sys2Proof.Machine
end

