-- ==== Sys2Proof/Machine/Bus.lean ====
section
/-! DEFINITION. BUS and FLT: CAN channels, message buffers, acceptance filters, transmission, the fixed messages, ISOBUS address claims and
the partner table (spec/12_can_isobus.md, R394 to R426; R92 to R94 for the reference message). -/

namespace Sys2Proof.Machine

/-- Whether a channel takes part in bus traffic: ACTIVE or PASSIVE (R412). -/
def Dev.canUp (d : Dev) (c : Nat) : Bool := d.get F.BUS_CH_STAT_STATE c == 2 || d.get F.BUS_CH_STAT_STATE c == 3

/-- A channel that is on a bus: in LOOP it runs off the bus (R422). -/
def Dev.canWired (d : Dev) (c : Nat) : Bool := d.canUp c && !d.on F.BUS_CH_CFG_LOOP c

/-- CAN cycles of a bit by its timing fields, which hold the values minus 1 (R396, R422). -/
def bitCycles (brp tseg1 tseg2 : Nat) : Nat := (brp + 1) * (1 + (tseg1 + 1) + (tseg2 + 1))

/-- CAN cycles from a bit's start to its sample point (R396). -/
def sampleCycles (brp tseg1 : Nat) : Nat := (brp + 1) * (1 + (tseg1 + 1))

/-- CAN cycles of a nominal bit of a channel (R396). -/
def Dev.nominalBit (d : Dev) (c : Nat) : Nat := bitCycles (d.get F.BUS_CH_NBT_BRP c) (d.get F.BUS_CH_NBT_TSEG1 c) (d.get F.BUS_CH_NBT_TSEG2 c)

/-- CAN cycles from a data bit's start to its secondary sample point: TDCO after the measured delay (R396). -/
def Dev.secondarySample (d : Dev) (c : Nat) : Nat := d.get F.BUS_CH_TDC_TDCV c + d.get F.BUS_CH_TDC_TDCO c

/-- A channel event: its bit of BUS_CH_EVT, whose OR over the channels is the bit of BUS_IRQ_RAW (R424). -/
def Dev.canEvt (d : Dev) (c b : Nat) : Dev :=
  let v := d.get F.BUS_CH_EVT_EVT c
  (if tbit v b then d else d.set F.BUS_CH_EVT_EVT c (v + 2 ^ b)).level 0x28 b true

/-- BUS_STAT.FAULT: a channel is in BUSOFF or has TRXFLT (R421). -/
def Dev.canFault (d : Dev) : Dev :=
  d.set F.COM_STAT_FAULT 0x28 (bit ((List.range 8).any (fun c => d.get F.BUS_CH_STAT_STATE c == 4 || d.on F.BUS_CH_STAT_TRXFLT c)))

/-- A channel's error counters take values: TEC and REC show them, saturating, and ACTIVE and PASSIVE follow (R412, ISO 11898-1). -/
def Dev.canCounters (d : Dev) (c : Nat) (tec rec_ : Int) : Dev :=
  let d := (((d.setVar V.canTec c tec).setVar V.canRec c rec_).set F.BUS_CH_STAT_TEC c (min tec.toNat 255)).set F.BUS_CH_STAT_REC c
    (min rec_.toNat 255)
  if d.canUp c then
    let passive := decide (127 < tec) || decide (127 < rec_)
    let was := d.get F.BUS_CH_STAT_STATE c == 3
    let d := d.set F.BUS_CH_STAT_STATE c (if passive then 3 else 2)
    if passive && !was then d.canEvt c 7 else d
  else d

/-! ### Buffers -/

/-- Payload capacity of a buffer in bytes (R397). -/
def Dev.bufCap (d : Dev) (c b : Nat) : Nat := 128 * d.bufSpan c b - 32

/-- Direction that a buffer shows: 0 inside another buffer's span (R398), 3 acts as 0 (R399). -/
def Dev.bufDir (d : Dev) (c b : Nat) : Nat :=
  if !d.isHead c b then 0 else if d.get F.BUF_CTRL_DIR (bufIx c b) = 3 then 0 else d.get F.BUF_CTRL_DIR (bufIx c b)

/-- TIME or BUS uses buffer 0 or 1 of the channel (R408). -/
def Dev.bufTaken (d : Dev) (c b : Nat) : Bool :=
  (b == 0 && tbit (d.get F.TIME_CANREF_CHMASK.act 0) c) || (b == 1 && d.on F.BUS_CH_FBMSG_EN c)

/-- A privileged one-shot mailbox (R405, R408). -/
def Dev.bufPriv (d : Dev) (c b : Nat) : Bool :=
  d.bufTaken c b || (decide (b < 8) && d.bufDir c b == 2 && d.on F.BUF_CTRL_PRIV (bufIx c b))

/-- An identifier with its IDE bit: bits 10:0 where IDE is 0 (R399). -/
def canId (ide : Bool) (id : Nat) : Bool × Nat := (ide, if ide then id else id % 2048)

/-- Identifier of a buffer with its IDE bit (R399, R408): an XL frame has the 11-bit priority ID. -/
def Dev.bufId (d : Dev) (c b : Nat) : Bool × Nat :=
  if d.bufTaken c b then
    (if b = 0 then canId (d.on F.BUS_CH_REFID_IDE c) (d.get F.BUS_CH_REFID_ID c) else canId (d.on F.BUS_CH_FBMSG_IDE c) (d.get F.BUS_CH_FBMSG_ID c))
  else canId (d.on F.BUF_ID_IDE (bufIx c b) && !d.on F.BUF_ID_XLF (bufIx c b)) (d.get F.BUF_ID_ID (bufIx c b))

/-- Data bytes of a classical or FD frame by its DLC. -/
def dlcBytes (fdf : Bool) (dlc : Nat) : Nat :=
  let k := dlc % 16
  if k ≤ 8 then k else if !fdf then 8 else [12, 16, 20, 24, 32, 48, 64].getD (k - 9) 64

/-- Payload length of the frame in a buffer. -/
def Dev.bufLen (d : Dev) (c b : Nat) : Nat :=
  let i := bufIx c b
  if d.bufTaken c b then 8
  else if d.on F.BUF_ID_XLF i then d.get F.BUF_FMT_DLC i + 1
  else if d.on F.BUF_FMT_RTR i && !d.on F.BUF_ID_FDF i then 0
  else dlcBytes (d.on F.BUF_ID_FDF i) (d.get F.BUF_FMT_DLC i)

/-- A byte of a buffer's data, which starts 32 bytes into the buffer (R399). -/
def Dev.bufByte (d : Dev) (c b j : Nat) : Nat := d.get F.BUS_MEM_WORD (8192 * c + 32 * b + 8 + j / 4) / 256 ^ (j % 4) % 256

/-- Bytes of a buffer's data. -/
def Dev.bufData (d : Dev) (c b n : Nat) : List Nat := (List.range n).map (fun j => d.bufByte c b j)

/-- Writes bytes of a buffer's data from byte `j` on. -/
def Dev.bufPut (d : Dev) (c b j : Nat) (l : List Nat) : Dev :=
  match l with
  | [] => d
  | x :: t =>
    let w := 8192 * c + 32 * b + 8 + j / 4
    let old := d.get F.BUS_MEM_WORD w
    let p := 256 ^ (j % 4)
    Dev.bufPut (d.set F.BUS_MEM_WORD w (old - old / p % 256 * p + x % 256 * p)) c b (j + 1) t

/-- The NDAT bit of a buffer and its mirror (R409). -/
def Dev.setNdat (d : Dev) (c b : Nat) (v : Bool) : Dev :=
  let i := 8 * c + b / 32
  let w := d.get F.BUS_CH_NDAT_NDAT i
  let o := tbit w (b % 32)
  let w := if o == v then w else if v then w + 2 ^ (b % 32) else w - 2 ^ (b % 32)
  (d.set F.BUS_CH_NDAT_NDAT i w).set F.BUF_CTRL_NDAT (bufIx c b) (bit v)

/-! ### Partner table (R418, R419) -/

/-- The CHG bit of an address sets. -/
def Dev.ptChg (d : Dev) (sa : Nat) : Dev :=
  let w := d.get F.BUS_PT_CHG_CHG (sa / 32)
  if tbit w (sa % 32) then d else d.set F.BUS_PT_CHG_CHG (sa / 32) (w + 2 ^ (sa % 32))

/-- SEQ of an entry passes through odd to the next even value. -/
def Dev.ptBump (d : Dev) (sa : Nat) : Dev := d.setVar V.ptSeq sa ((d.var V.ptSeq sa + 2) % 2 ^ 32)

/-- An entry becomes GONE. -/
def Dev.ptGone (d : Dev) (sa : Nat) : Dev := ((((d.setVar V.ptState sa 2).setVar V.ptOwn sa 0).ptChg sa).ptBump sa).irq 0x28 12

/-- The module no longer holds an address that it had claimed on a channel: its entry counts as another node's, last heard when it was entered (R417, R418). -/
def Dev.ptDisown (d : Dev) (c sa : Nat) : Dev :=
  if d.get F.BUS_PT_CFG_PCH 0 = c ∧ d.var V.ptOwn sa = 1 then (d.setVar V.ptOwn sa 0).ptBump sa else d

/-- A frame from an address, with the NAME of an Address Claimed (R418). -/
def Dev.ptTouch (d : Dev) (sa stamp : Nat) (name : Option Nat) (own : Bool) : Dev :=
  if !d.on F.BUS_PT_CFG_EN 0 || decide (253 < sa) then d
  else
    let present := d.var V.ptState sa == 1
    let d := ((d.setVar V.ptLast sa stamp).mark V.ptSeen sa).ptBump sa
    let d := if present then d else ((((d.setVar V.ptState sa 1).setVar V.ptFirst sa stamp).ptChg sa)).irq 0x28 11
    match name with
    | none => d
    | some n =>
      let d := if present && d.var V.ptNamed sa == 1 && d.var V.ptName sa != n then (d.setVar V.ptFirst sa stamp).irq 0x28 13 else d
      let d := ((d.setVar V.ptNamed sa 1).setVar V.ptName sa n).setVar V.ptOwn sa (bit own)
      d.each ((List.range 254).filter (fun k => k != sa && d.var V.ptState k == 1 && d.var V.ptNamed k == 1 && d.var V.ptName k == n))
        (fun k a => a.ptGone k)

/-! ### Reception -/

/-- An Address Claimed frame carries the NAME in its eight bytes (PGN 0x00EE00). -/
def claimedName (id : Nat) (data : List Nat) : Option Nat :=
  if id / 65536 % 1024 = 0xEE ∧ data.length = 8 then some (ofLe data) else none

/-- The frame waits in a holding register (R404). -/
def Dev.canHoldIn (d : Dev) (f : CanFrame) : Dev :=
  if d.canHold.countP (fun x => x.ch == f.ch) < 2 then { d with canHold := d.canHold ++ [f] }
  else (d.set F.BUS_CH_STAT_HOLDOVR f.ch 1).errBlk 0x28 8 1

/-- A frame that a channel's formats do not allow makes it integrate until the bus is idle (R395; log entry 16 for an FD frame). -/
def Dev.canFormatOk (d : Dev) (c : Nat) (xlf fdf : Bool) : Bool :=
  if xlf then decide (c < 4) && d.on F.BUS_CH_CFG_XLEN c else !fdf || d.on F.BUS_CH_CFG_FDEN c

/-- REC after a frame received without error (ISO 11898-1): one less, and from above 127 a value of 119 to 127. -/
def Dev.canRecOk (d : Dev) (c : Nat) : Dev :=
  let r := d.var V.canRec c
  if 127 < r then (d.canCounters c (d.var V.canTec c) (119 + (d.freeVal % 9 : Nat))).useFree
  else d.canCounters c (d.var V.canTec c) (max 0 (r - 1))

/-- A channel has left the bus (R412, R422). -/
def Dev.canOff (d : Dev) (c : Nat) : Dev := ((d.setVar V.canLeave c 0).set F.BUS_CH_STAT_STATE c 0).canFault

/-- A frame on the bus has ended: a channel whose EN has gone to 0 leaves (R422). -/
def Dev.canFrameEnd (d : Dev) (c : Nat) : Dev := if d.var V.canLeave c = 1 then d.canOff c else d

/-- What a received frame tells the claim assistants of its channel (R416, R417): an Address Claimed from the source address of a NAME in CLAIMING or
CLAIMED is a contention, and waits with the lowest NAME heard; a Request for PGN 0x00EE00 to its address or to 255 waits for its answer. `skip` is the NAME
whose own frame comes back in LOOP, 4 for none. -/
def Dev.isoHear (d : Dev) (c skip id : Nat) (data : List Nat) : Dev :=
  d.each ((List.range 4).filter (fun n => n != skip && d.get F.BUS_ISO_CFG_CH n == c && d.get F.BUS_ISO_STAT_STATE n != 0)) (fun n a =>
    let lost := a.get F.BUS_ISO_STAT_STATE n == 3
    let own := if lost then 254 else a.get F.BUS_ISO_STAT_ADDR n
    match claimedName id data with
    | some x =>
      if lost || id % 256 != own then a
      else if a.var V.isoHeard n = 0 ∨ (x : Int) < a.var V.isoHeard n - 1 then a.setVar V.isoHeard n (x + 1) else a
    | none =>
      if id / 65536 % 1024 = 0xEA ∧ (id / 256 % 256 = 255 ∨ id / 256 % 256 = own) ∧ data.take 3 = [0x00, 0xEE, 0x00] then a.setVar V.isoAsked n 1 else a)

/-- A frame received without error on a channel, its own in LOOP: the partner table, the claim assistants and a holding register take it (R403, R404,
R416 to R418). `skip` is as in `Dev.isoHear`. -/
def Dev.canAccept (d : Dev) (skip : Nat) (f : CanFrame) : Dev :=
  let d := if f.ide && d.get F.BUS_PT_CFG_PCH 0 == f.ch then d.ptTouch (f.id % 256) f.sof (claimedName f.id f.data) false else d
  (if f.ide then d.isoHear f.ch skip f.id f.data else d).canHoldIn f

/-- CAN_FRAME_RECEIVED (R94, R395, R404, R418). `dur` ns have passed since the frame's SOF, whose Grove time is its stamp. -/
def Dev.canReceived (d : Dev) (c : Nat) (f : CanIn) (dur : Nat) : Dev :=
  if !d.canWired c then d
  else if !d.canFormatOk c f.xlf f.fdf then
    (((d.set F.BUS_CH_STAT_STATE c 1).incSat F.BUS_CH_CNT_PEXCNT c).canEvt c 9).canFrameEnd c
  else
    let sof := (d.now - dur).toNat
    let data := f.data.map (fun x => x.toNat)
    let ide := f.ide && !f.xlf
    let id := if ide then f.id.toNat else f.id.toNat % 2048
    let d := (d.canRecOk c).cone 0x28 0x100
    (d.canAccept 4 ⟨c, ide, f.fdf, f.xlf, id, f.fmt.toNat, f.af.toNat, data, sof⟩).canFrameEnd c

def execCanFrameReceived (c : Fin 8) (f : CanIn) (dur : BitVec 32) (s : State) : Host.Outcome State Fault Refusal :=
  s.upd (fun d => d.canReceived c f dur.toNat)

/-- Whether a filter entry matches a frame (R401). -/
def Dev.filtHit (d : Dev) (e : Nat) (f : CanFrame) : Bool :=
  let id1 := d.get F.FLT_ENT_ID1 e
  let id2 := d.get F.FLT_ENT_ID2 e
  d.on F.FLT_ENT_IDE e == f.ide && d.on F.FLT_ENT_XL e == f.xlf &&
    (match d.get F.FLT_ENT_TYPE e with
     | 1 => (f.id ^^^ id1) &&& id2 == 0
     | 2 => decide (id1 ≤ f.id) && decide (f.id ≤ id2)
     | 3 => f.id == id1 || f.id == id2
     | _ => false)

/-- The first entry of the channel's list that matches (R402). -/
def Dev.filtFind (d : Dev) (f : CanFrame) : Option Nat :=
  let b := d.get F.FLT_LIST_BASE f.ch
  (List.range (min (d.get F.FLT_LIST_LEN f.ch) (4096 - b))).findSome? (fun k => if d.filtHit (b + k) f then some (b + k) else none)

/-- A frame is written into a buffer: header, data, counters, and NDAT (R399, R404, R409). `cap` is the room for its data. -/
def Dev.bufStore (d : Dev) (b cap fidx : Nat) (f : CanFrame) : Dev :=
  let i := bufIx f.ch b
  let d := if d.on F.BUF_CTRL_NDAT i then (d.set F.BUF_CTRL_MSGLOST i 1).canEvt f.ch 8 else d
  let d := d.setNdat f.ch b true
  let d := ((((d.set F.BUF_ID_IDE i (bit f.ide)).set F.BUF_ID_FDF i (bit f.fdf)).set F.BUF_ID_XLF i (bit f.xlf)).set F.BUF_ID_ID i f.id)
  let d := (((d.set F.BUF_FMT_BRS i (f.fmt / 2 ^ 31)).set F.BUF_FMT_ESI i (f.fmt / 2 ^ 30)).set F.BUF_FMT_RTR i (f.fmt / 2 ^ 29)).set
    F.BUF_FMT_SEC i (f.fmt / 2 ^ 28)
  let d := ((d.set F.BUF_FMT_SDT i (f.fmt / 2 ^ 20)).set F.BUF_FMT_VCID i (f.fmt / 2 ^ 12)).set F.BUF_FMT_DLC i f.fmt
  let d := (((d.set F.BUF_AF_AF i f.af).set F.BUF_SOF_SOF i f.sof).set F.BUF_FILT_FIDX i fidx).incSat F.BUF_FILT_RXCNT i
  (d.bufPut f.ch b 0 (f.data.take cap)).mark V.canRx i

/-- A frame goes to a FIFO of its channel (R400). It is full where WR has met RD in a store and RD has not been written since (log entry 198). An element is never
fresh for WHL (R410). -/
def Dev.fifoStore (d : Dev) (q fidx : Nat) (f : CanFrame) : Dev :=
  let k := 2 * f.ch + q
  let len := d.get F.BUS_CH_FIFO_LEN k
  if len = 0 ∨ (d.var V.fifoFull k = 1 ∧ d.get F.BUS_CH_FIFO_IDX_WR k % len = d.get F.BUS_CH_FIFO_IDX_RD k) then (d.incSat F.BUS_CH_FIFO_IDX_LOST k).canEvt f.ch 8
  else
    let w := d.get F.BUS_CH_FIFO_IDX_WR k % len
    let span := min 17 (max 1 (d.get F.BUS_CH_FIFO_SPAN k))
    let b := d.get F.BUS_CH_FIFO_BASE k + w * span
    let d := if b < 256 then (d.bufStore b (128 * min span (256 - b) - 32) fidx f).setVar V.canRx (bufIx f.ch b) V.canRx.init else d
    let d := d.set F.BUS_CH_FIFO_IDX_WR k ((w + 1) % len)
    (d.setVar V.fifoFull k (bit ((w + 1) % len == d.get F.BUS_CH_FIFO_IDX_RD k))).canEvt f.ch (1 + q)

/-- The receive buffer that takes a frame with DEST 0: the lowest with DIR 1 and the same identifier and family (R403), other than one that TIME or BUS uses as a
transmit buffer (R408). -/
def Dev.rxBuffer (d : Dev) (f : CanFrame) : Option Nat :=
  (List.range 256).find? (fun b =>
    let i := bufIx f.ch b
    d.get F.BUF_CTRL_DIR i == 1 && !d.bufTaken f.ch b && d.bufId f.ch b == (f.ide, f.id) && d.on F.BUF_ID_XLF i == f.xlf && d.isHead f.ch b)

/-- CAN_FRAME_STORED (R400 to R404): the frame that ended first is filtered, and stored or rejected. The filter engine is FLT's: while FLT does not run,
frames wait (log entry 181). -/
def Dev.canStored (d : Dev) : Dev :=
  if !d.running 0x29 then d else
  match d.canHold with
  | [] => d
  | f :: t =>
    let d := { d with canHold := t }
    match d.filtFind f with
    | none =>
      let d := d.incSat F.FLT_CNT_NOHIT f.ch
      if d.on F.FLT_LIST_NOMATCH f.ch && d.get F.FLT_LIST_LEN f.ch != 0 then d.fifoStore 1 0 f else d
    | some e =>
      let d := d.incSat F.FLT_CNT_HIT f.ch
      match d.get F.FLT_ENT_DEST e with
      | 0 => match d.rxBuffer f with
        | some b =>
          let d := d.bufStore b (d.bufCap f.ch b) e f
          if d.on F.BUF_CTRL_IRQ (bufIx f.ch b) then d.canEvt f.ch 0 else d
        | none => d.fifoStore 0 e f
      | 1 => d.fifoStore 0 e f
      | 2 => d.fifoStore 1 e f
      | _ => d

def execCanFrameStored (s : State) : Host.Outcome State Fault Refusal := s.upd Dev.canStored

/-- NDAT_CLEAR (R409). Storing a frame is one step here, so no write is in progress at a clear. -/
def execNdatClear (a : Acc) (n : Fin 8) (v : BitVec 32) (s : State) : Host.Outcome State Fault Refusal :=
  s.upd (fun d => d.wrCh 0x28 (0x180 + 4 * n.val) a (fun c d =>
    d.each ((List.range 32).filter (fun b => tbit v.toNat b)) (fun b e => e.setNdat c (32 * n.val + b) false))
    (fun c d => (d.get F.BUS_CH_NDAT_NDAT (8 * c + n)) &&& v.toNat != 0))

/-! ### Transmission -/

/-- A privileged request fails (R405): TXFAIL, BCODE 0x4, and CANFAIL of the loop that drives the mailbox (R283). -/
def Dev.privFail (d : Dev) (c b res : Nat) : Dev :=
  let i := bufIx c b
  let d := (((d.set F.BUF_CTRL_TXREQ i 0).set F.BUF_CTRL_RESULT i res).canEvt c 4).errBlk 0x28 4 0
  let k := d.var V.canLoop i
  if 0 < k then ((d.incSat F.WHL_LP_CAN_CANFAIL (k - 1).toNat).errBlk 0x20 7 0).irq 0x20 6 else d

/-- A request for transmission of a buffer (R405, R407). -/
def Dev.txRequest (d : Dev) (c b : Nat) : Dev :=
  let i := bufIx c b
  let fmtOk := d.bufTaken c b || d.canFormatOk c (d.on F.BUF_ID_XLF i) (d.on F.BUF_ID_FDF i)
  if d.on F.BUF_CTRL_TXREQ i || !d.on F.BUS_CH_CFG_EN c || d.on F.BUS_CH_CFG_LOM c || !fmtOk || decide (d.bufCap c b < d.bufLen c b) then
    (d.set F.BUF_CTRL_RESULT i 6).errBlk 0x28 3 0
  else
    let d := ((d.set F.BUF_CTRL_RESULT i 0).set F.BUF_CTRL_ATT i 0).setVar V.txStop i 0
    if d.bufPriv c b && d.get F.BUS_CH_STAT_STATE c == 4 then d.privFail c b 4
    else (d.set F.BUF_CTRL_TXREQ i 1).mark V.txAt i

/-- TRANSMIT_REQUEST (R398, R405, R407, R408). -/
def execTransmitRequest (a : Acc) (b : Fin 256) (s : State) : Host.Outcome State Fault Refusal :=
  s.upd (fun d => d.wrCh 0x28 (0x1000 + 0x80 * b.val) a (fun c d =>
    if !d.isHead c b || d.bufTaken c b then d.errBlk 0x28 2 0
    else if d.bufDir c b ≠ 2 then d
    else if 0 < d.var V.canLoop (bufIx c b) then (d.set F.BUF_CTRL_RESULT (bufIx c b) 6).errBlk 0x28 3 0
    else d.txRequest c b))

/-- Order in which an identifier wins arbitration: base identifier, RTR or SRR, IDE, the rest of the identifier, RTR. -/
def arbKey (ide rtr : Bool) (id : Nat) : Nat :=
  if ide then (id / 2 ^ 18 % 2048) * 2 ^ 21 + 2 ^ 20 + 2 ^ 19 + id % 2 ^ 18 * 2 + bit rtr
  else id % 2048 * 2 ^ 21 + bit rtr * 2 ^ 20

/-- Identifier of a NAME's claim frame (R415, R416): priority 6, PGN 0x00EE00, destination 255, source ADDR or 254. -/
def Dev.isoId (d : Dev) (n : Nat) : Nat :=
  6 * 2 ^ 26 + 0xEE * 65536 + 0xFF * 256 + (if d.var V.isoPend n = 2 then 254 else d.get F.BUS_ISO_STAT_ADDR n)

/-- A transmit job of a channel: a buffer below 256, or 256 and the NAME. Whether it is pending, its arbitration key and its instant. -/
def Dev.txPending (d : Dev) (c k : Nat) : Bool :=
  if k < 256 then d.on F.BUF_CTRL_TXREQ (bufIx c k) else d.var V.isoPend (k - 256) != 0 && d.get F.BUS_ISO_CFG_CH (k - 256) == c

def Dev.txKey (d : Dev) (c k : Nat) : Nat :=
  if k < 256 then
    let (ide, id) := d.bufId c k
    let xlf := !d.bufTaken c k && d.on F.BUF_ID_XLF (bufIx c k)
    arbKey (ide && !xlf) (!d.bufTaken c k && !xlf && !d.on F.BUF_ID_FDF (bufIx c k) && d.on F.BUF_FMT_RTR (bufIx c k)) id
  else arbKey true false (d.isoId (k - 256))

def Dev.txSince (d : Dev) (c k : Nat) : Int := if k < 256 then d.var V.txAt (bufIx c k) else d.var V.txAt (2048 + (k - 256))

/-- A job may have been on the bus in the frame that began at an instant: it was pending, and no other pending job of the channel beats it
(R405: the identifier, then the buffer number). -/
def Dev.txMay (d : Dev) (c k : Nat) (at_ : Int) : Bool :=
  d.txPending c k && decide (d.txSince c k ≤ at_) &&
    (List.range 260).all (fun j => !(d.txPending c j && decide (d.txSince c j ≤ at_)) || decide (d.txKey c k < d.txKey c j) ||
      (d.txKey c k == d.txKey c j && decide (k ≤ j)))

/-- The attempt of a buffer succeeded: DONE, the SOF stamp, and in LOOP the frame is received (R403, R405, R407). With compensation on, TDCV
shows the delay measured in the data phase, a free value (R396, R422; log entry 150). -/
def Dev.txDone (d : Dev) (c b sof : Nat) : Dev :=
  let i := bufIx c b
  let (ide, id) := d.bufId c b
  let d := (((d.set F.BUF_CTRL_TXREQ i 0).set F.BUF_CTRL_RESULT i 1).incSat F.BUF_CTRL_ATT i).set F.BUF_SOF_SOF i sof
  let d := if d.on F.BUF_CTRL_IRQ i then d.canEvt c 3 else d
  let fast := !d.bufTaken c b && (d.on F.BUF_ID_XLF i || (d.on F.BUF_ID_FDF i && d.on F.BUF_FMT_BRS i))
  let d := if fast && d.on F.BUS_CH_TDC_EN c then (d.set F.BUS_CH_TDC_TDCV c d.freeVal).useFree else d
  let d := if b == 0 && d.bufTaken c 0 then (d.setVar V.refSent c (d.var V.refMsg c)).setVar V.refSof c sof else d
  if d.on F.BUS_CH_CFG_LOOP c then
    let taken := d.bufTaken c b
    let fmt := if taken then 8 else d.get F.BUF_FMT_BRS i * 2 ^ 31 + d.get F.BUF_FMT_RTR i * 2 ^ 29 + d.get F.BUF_FMT_SEC i * 2 ^ 28 +
      d.get F.BUF_FMT_SDT i * 2 ^ 20 + d.get F.BUF_FMT_VCID i * 2 ^ 12 + d.get F.BUF_FMT_DLC i
    d.canAccept 4 ⟨c, ide, !taken && d.on F.BUF_ID_FDF i, !taken && d.on F.BUF_ID_XLF i, id, fmt, if taken then 0 else d.get F.BUF_AF_AF i,
      d.bufData c b (d.bufLen c b), sof⟩
  else d

/-- The attempt of a buffer failed: lost arbitration (1) or an error (2 and above) (R405, R406). -/
def Dev.txFailed (d : Dev) (c b res : Nat) : Dev :=
  let i := bufIx c b
  let d := d.incSat F.BUF_CTRL_ATT i
  if d.var V.txStop i = 1 then (d.set F.BUF_CTRL_TXREQ i 0).set F.BUF_CTRL_RESULT i 5
  else if d.bufPriv c b then d.privFail c b (if res = 1 then 2 else 3)
  else d

/-- The frame in the internal buffer of a NAME (R415): a classical data frame whose eight bytes are the NAME, least significant first. -/
def Dev.isoFrame (d : Dev) (n sof : Nat) : CanFrame := ⟨d.get F.BUS_ISO_CFG_CH n, true, false, false, d.isoId n, 8, 0, d.blob 42 n, sof⟩

/-- A claim frame of a NAME was sent, and in LOOP it is received (R403, R415 to R418). -/
def Dev.isoDone (d : Dev) (n sof : Nat) : Dev :=
  let d := if d.on F.BUS_CH_CFG_LOOP (d.get F.BUS_ISO_CFG_CH n) then d.canAccept n (d.isoFrame n sof) else d
  let d := if d.var V.isoPend n = 1 ∧ d.var V.isoSent n = 0 then ((d.setVar V.isoSent n 1).mark V.isoAt n).setVar V.isoSof n sof else d
  d.setVar V.isoPend n 0

/-- TEC after an error in a frame sent (R412, ISO 11898-1): 8 more, except where an error-passive transmitter finds no acknowledgement and no dominant bit during
its passive error flag (`res` 3), and where it found a stuff error during arbitration in a recessive stuff bit that reads dominant (4). -/
def Dev.txTec (d : Dev) (c res : Nat) : Int :=
  if (res = 3 ∧ d.get F.BUS_CH_STAT_STATE c = 3) ∨ res = 4 then d.var V.canTec c else d.var V.canTec c + 8

/-- TRANSMIT_END (R93, R94, R405, R406, R412): the attempt on a channel ends with success (0), lost arbitration (1) or an error (2 to 4, `Dev.txTec`), `dur` ns
after its SOF. Indices from 256 on are the claim frames of the NAMEs. In LOOP no other node is there to lose to, and no error arises. -/
def Dev.txEnd (d : Dev) (c k res dur : Nat) : Dev :=
  if !(d.canUp c && d.txMay c k (d.var V.uptime 0 - (dur : Int) * 65536)) || (res != 0 && d.on F.BUS_CH_CFG_LOOP c) then d
  else Dev.canFrameEnd (
    let sof := (d.now - dur).toNat
    if res = 0 then
      let d := (d.cone 0x28 0x101).canCounters c (max 0 (d.var V.canTec c - 1)) (d.var V.canRec c)
      if k < 256 then d.txDone c k sof else d.isoDone (k - 256) sof
    else
      let d := if res = 1 then d.cone 0x28 0x102 else (d.cone 0x28 0x103).canCounters c (d.txTec c res) (d.var V.canRec c)
      if k < 256 then d.txFailed c k res else d) c

def execTransmitEnd (c : Fin 8) (b : Fin 260) (res : Fin 5) (dur : BitVec 32) (s : State) : Host.Outcome State Fault Refusal :=
  s.upd (fun d => d.txEnd c b res dur.toNat)

/-- TRANSMIT_ABORT (R406). `tx`: the buffer is transmitting, and its frame runs to its end. -/
def execTransmitAbort (a : Acc) (b : Fin 256) (tx : Bool) (s : State) : Host.Outcome State Fault Refusal :=
  s.upd (fun d => d.wrCh 0x28 (0x1000 + 0x80 * b.val) a (fun c d =>
    let i := bufIx c b
    if !d.isHead c b || d.bufTaken c b then d.errBlk 0x28 2 0
    else if !d.on F.BUF_CTRL_TXREQ i then d
    else if tx && d.canUp c then d.setVar V.txStop i 1
    else (d.set F.BUF_CTRL_TXREQ i 0).set F.BUF_CTRL_RESULT i 5))

/-! ### Channel states -/

/-- EN of a channel from 1 to 0 (R422): the channel leaves the bus at the end of the present frame (`frame`: 0 none, 1 one that it receives, 2 one that it
sends, whose SOF lies `dur` ns back), and requests become ABORTED, that of the frame being sent where the frame fails. Privileged requests that wait end in the
same way (log entry 182). -/
def Dev.canDisable (d : Dev) (c frame dur : Nat) : Dev :=
  let d := d.set F.BUS_CH_CFG_EN c 0
  let sent := if frame = 2 then (List.range 256).find? (fun b => d.txMay c b (d.var V.uptime 0 - (dur : Int) * 65536)) else none
  let d := d.each ((List.range 256).filter (fun b => d.on F.BUF_CTRL_TXREQ (bufIx c b))) (fun b e =>
    if some b == sent then (if e.bufPriv c b then e else e.setVar V.txStop (bufIx c b) 1)
    else (e.set F.BUF_CTRL_TXREQ (bufIx c b) 0).set F.BUF_CTRL_RESULT (bufIx c b) 5)
  if frame = 0 ∨ !d.canWired c then d.canOff c else d.setVar V.canLeave c 1

/-- EN of a channel from 0 to 1: it integrates on the bus while BUS runs (R422, log entry 181). -/
def Dev.canEnable (d : Dev) (c : Nat) : Dev :=
  (((d.set F.BUS_CH_CFG_EN c 1).setVar V.canLeave c 0).set F.BUS_CH_STAT_STATE c (bit (d.running 0x28))).canCounters c 0 0

/-- CAN_CHANNEL_ENABLE (R422). -/
def execCanChannelEnable (a : Acc) (x : CanEn) (s : State) : Host.Outcome State Fault Refusal :=
  s.upd (fun d => d.wrCh 0x28 0x100 a (fun c d =>
    if x.en == d.on F.BUS_CH_CFG_EN c then d else if x.en then d.canEnable c else d.canDisable c x.frame.val x.dur.toNat)
    (fun c d => d.changes F.BUS_CH_CFG_EN c (bit x.en)))

/-- BUS starts: the enabled channels integrate; and it stops: they leave the bus (R50, log entry 181). -/
def Dev.busRun (d : Dev) (run : Bool) : Dev :=
  (d.each ((List.range 8).filter (fun c => d.on F.BUS_CH_CFG_EN c || !run)) (fun c a =>
    (a.setVar V.canLeave c 0).set F.BUS_CH_STAT_STATE c (bit run))).canFault

/-- CAN_INTEGRATION_END (R395, R412): the bus is idle, and the channel takes part again. -/
def Dev.canIntegrated (d : Dev) (c : Nat) : Dev :=
  if d.get F.BUS_CH_STAT_STATE c = 1 ∧ d.running 0x28 then
    d.set F.BUS_CH_STAT_STATE c (if 127 < d.var V.canTec c ∨ 127 < d.var V.canRec c then 3 else 2)
  else d

def execCanIntegrationEnd (c : Fin 8) (s : State) : Host.Outcome State Fault Refusal := s.upd (fun d => d.canIntegrated c)

/-- CAN_BUS_ERROR (R412): an error found while receiving adds 1 to REC, or 8 (`big`) where ISO 11898-1 has it so. -/
def execCanBusError (c : Fin 8) (big : Bool) (s : State) : Host.Outcome State Fault Refusal :=
  s.upd (fun d =>
    if d.canWired c then
      ((d.cone 0x28 0x103).canCounters c (d.var V.canTec c) (min 256 (d.var V.canRec c + if big then 8 else 1))).canFrameEnd c
    else d)

/-- BUS_OFF (R405, R413): TEC has passed 255. Privileged requests end with BUSOFF, normal ones stay pending, and a class C1 error with BCODE
0x5 is reported at most once per second. -/
def Dev.busOff (d : Dev) (c : Nat) : Dev :=
  if d.canUp c && decide (255 < d.var V.canTec c) then
    let d := ((((d.mark V.boAt c).set F.BUS_CH_STAT_STATE c 4).incSat F.BUS_CH_CNT_BOCNT c).canEvt c 5).canFault
    let d := if d.passed V.boRep c 1000000000 then (d.mark V.boRep c).errBlk 0x28 5 1 else d
    d.each ((List.range 8).filter (fun b => d.on F.BUF_CTRL_TXREQ (bufIx c b) && d.bufPriv c b)) (fun b e => e.privFail c b 4)
  else d

def execBusOff (c : Fin 8) (s : State) : Host.Outcome State Fault Refusal := s.upd (fun d => d.busOff c)

/-- BUS_OFF_RECOVERY (R413): at the soonest 128 times 11 nominal bits after the entry, at 6.25 ns a cycle. -/
def Dev.busOffEnd (d : Dev) (c : Nat) : Dev :=
  if d.get F.BUS_CH_STAT_STATE c = 4 ∧ d.passed V.boAt c (d.nominalBit c * 8800 : Nat) then (((d.set F.BUS_CH_STAT_STATE c 2).canCounters c 0 0).canEvt c 6).canFault else d

def execBusOffRecovery (c : Fin 8) (s : State) : Host.Outcome State Fault Refusal := s.upd (fun d => d.busOffEnd c)

/-- TRANSCEIVER_FAULT (R422, R424): TRXFLT follows the transceiver; a rise is reported as class C1 with BCODE 0x9. -/
def Dev.trxFault (d : Dev) (c : Nat) (f : Bool) : Dev :=
  let rise := f && !d.on F.BUS_CH_STAT_TRXFLT c
  let d := (d.set F.BUS_CH_STAT_TRXFLT c (bit f)).canFault
  if rise then (d.irq 0x28 15).errBlk 0x28 9 1 else d

def execTransceiverFault (c : Fin 8) (f : Bool) (s : State) : Host.Outcome State Fault Refusal := s.upd (fun d => d.trxFault c f)

/-! ### Fixed messages -/

/-- FIREBREAK_MESSAGE (R411): every FBPER ms, or 2 ms after the previous one once a group's state has changed. -/
def Dev.fbMessageSend (d : Dev) (c : Nat) : Dev :=
  let per : Int := min 1000 (max 10 (d.get F.BUS_CH_FBPER_FBPER c))
  if d.on F.BUS_CH_FBMSG_EN c && d.running 0x28 &&
      (d.passed V.fbLast c (per * 1000000) || (d.var V.fbChg c == 1 && d.passed V.fbLast c 2000000)) then
    let l := d.fbMessage c
    let d := ((d.mark V.fbLast c).setVar V.fbChg c 0).setVar V.fbSeq c ((d.var V.fbSeq c + 1) % 16)
    if d.on F.BUF_CTRL_TXREQ (bufIx c 1) then d.txRequest c 1 else (d.bufPut c 1 0 l).txRequest c 1
  else d

def execFirebreakMessage (c : Fin 8) (s : State) : Host.Outcome State Fault Refusal := s.upd (fun d => d.fbMessageSend c)

/-- The eight bytes of the reference message (R92). Before a channel has sent any reference message successfully, bits 3:0 of byte 0 and bytes 2 to 7 are 0:
the spec does not say what they hold, and this is the model's choice (log entry 158). -/
def Dev.refMessage (d : Dev) (c : Nat) : List Nat :=
  let st := d.get F.TIME_STATE_ST 0
  [(d.var V.refSeq c).toNat % 16 * 16 + (d.var V.refSent c).toNat % 16,
   bit (st == 0 || st == 1) + 2 * bit (st == 4) + 4 * bit (d.on F.TIME_STATE_STEPPEND 0) + 8 * bit (st == 3)] ++
    leBytes 6 (d.var V.refSof c).toNat

/-- CAN_TIME_REFERENCE (R92, R93): every PERIOD ms a master channel sends the reference message from buffer 0; its sequence number is spent where the
message is laid there. -/
def Dev.canTimeRef (d : Dev) (c : Nat) : Dev :=
  let per : Int := max 10 (d.get F.TIME_CANREF_PERIOD.act 0)
  if tbit (d.get F.TIME_CANREF_CHMASK.act 0) c && d.passed V.refLast c (per * 1000000) && d.running 0x28 then
    let l := d.refMessage c
    let d := d.mark V.refLast c
    if d.on F.BUF_CTRL_TXREQ (bufIx c 0) then d.txRequest c 0
    else ((((d.bufPut c 0 0 l).setVar V.refMsg c (d.var V.refSeq c)).setVar V.refSeq c ((d.var V.refSeq c + 1) % 16)).txRequest c 0)
  else d

def execCanTimeReference (c : Fin 8) (s : State) : Host.Outcome State Fault Refusal := s.upd (fun d => d.canTimeRef c)

/-! ### ISOBUS address claim (R415 to R417) -/

/-- STATE of a NAME takes a value; a change raises CLAIM. -/
def Dev.isoState (d : Dev) (n v : Nat) : Dev :=
  if d.get F.BUS_ISO_STAT_STATE n = v then d else (d.set F.BUS_ISO_STAT_STATE n v).irq 0x28 10

/-- The internal buffer of a NAME takes its frame and waits to send it: 1 Address Claimed, 2 Cannot Claim; the NAME is its data (R415, R416). -/
def Dev.isoSend (d : Dev) (n : Nat) (v : Int) : Dev :=
  ((d.setVar V.isoPend n v).setBlob 42 n (leBytes 8 (d.get F.BUS_ISO_NAME_NAME n))).mark V.txAt (2048 + n)

/-- The address that a NAME has held is given up (R417, R418). -/
def Dev.isoLeave (d : Dev) (n : Nat) : Dev :=
  if d.get F.BUS_ISO_STAT_STATE n = 2 then d.ptDisown (d.get F.BUS_ISO_CFG_CH n) (d.get F.BUS_ISO_STAT_ADDR n) else d

/-- A NAME claims an address (R415). -/
def Dev.isoClaim (d : Dev) (n addr : Nat) : Dev :=
  let t := (d.var V.isoTried n).toNat
  let d := d.isoLeave n
  let d := ((d.set F.BUS_ISO_STAT_ADDR n addr).setVar V.isoSent n 0).setVar V.isoTried n ((t ||| 2 ^ addr : Nat) : Int)
  ((((d.setVar V.isoWait n 0).setVar V.isoHeard n 0).isoState n 1)).isoSend n 1

/-- ADDRESS_CLAIM (R415, R417, R423): PREF 254 and 255 refuse CLAIM with BCODE 0x3. -/
def execAddressClaim (a : Acc) (n : Fin 4) (s : State) : Host.Outcome State Fault Refusal :=
  s.upd (fun d => d.wr 0x28 (0x820 + 4 * n.val) a (fun d =>
    if 253 < d.get F.BUS_ISO_CFG_PREF n then d.errBlk 0x28 3 0
    else (d.setVar V.isoTried n 0).isoClaim n (d.get F.BUS_ISO_CFG_PREF n)))

/-- CLAIM_SETTLED (R415, R418): 250 ms after the claim was sent the NAME is CLAIMED, and its address enters the partner table with OWN. -/
def Dev.claimSettled (d : Dev) (n : Nat) : Dev :=
  if d.get F.BUS_ISO_STAT_STATE n == 1 && d.var V.isoSent n == 1 && d.var V.isoHeard n == 0 && d.var V.isoWait n == 0 && d.passed V.isoAt n 250000000 then
    let d := d.isoState n 2
    if d.get F.BUS_PT_CFG_PCH 0 = d.get F.BUS_ISO_CFG_CH n then
      d.ptTouch (d.get F.BUS_ISO_STAT_ADDR n) (d.var V.isoSof n).toNat (some (d.get F.BUS_ISO_NAME_NAME n)) true
    else d
  else d

/-- The table is turned on: the addresses that the module holds on PCH are entered with OWN set (R418). -/
def Dev.ptOwnAll (d : Dev) : Dev :=
  d.each ((List.range 4).filter (fun n => d.get F.BUS_ISO_STAT_STATE n == 2 && d.get F.BUS_ISO_CFG_CH n == d.get F.BUS_PT_CFG_PCH 0)) (fun n a =>
    a.ptTouch (a.get F.BUS_ISO_STAT_ADDR n) (a.var V.isoSof n).toNat (some (a.get F.BUS_ISO_NAME_NAME n)) true)

def execClaimSettled (n : Fin 4) (s : State) : Host.Outcome State Fault Refusal := s.upd (fun d => d.claimSettled n)

/-- The next address for a self-configurable NAME: ascending and wrapping within RLO to RHI, not PRESENT on the same channel, not tried. -/
def Dev.isoNext (d : Dev) (n : Nat) : Option Nat :=
  let lo := d.get F.BUS_ISO_CFG_RLO n
  let hi := d.get F.BUS_ISO_CFG_RHI n
  let len := hi + 1 - lo
  let cur := d.get F.BUS_ISO_STAT_ADDR n
  let from_ := if lo ≤ cur ∧ cur ≤ hi then cur - lo + 1 else 0
  let same := d.on F.BUS_PT_CFG_EN 0 && d.get F.BUS_PT_CFG_PCH 0 == d.get F.BUS_ISO_CFG_CH n
  ((List.range len).map (fun k => lo + (from_ + k) % len)).find? (fun a =>
    decide (a < 254) && !(same && d.var V.ptState a == 1) && !tbit (d.var V.isoTried n).toNat a)

/-- CLAIM_CONTENTION (R416): the contention that the channel has heard is dealt with; the lower NAME wins. -/
def Dev.claimContention (d : Dev) (n : Nat) : Dev :=
  let st := d.get F.BUS_ISO_STAT_STATE n
  let heard := d.var V.isoHeard n
  let d := d.setVar V.isoHeard n 0
  if heard = 0 || !((st == 1 || st == 2) && d.var V.isoWait n != 1) then d
  else
    let own := d.get F.BUS_ISO_NAME_NAME n
    if (own : Int) < heard - 1 then d.isoSend n 1
    else
      let next := if tbit own 63 then d.isoNext n else none
      match next with
      | some a => d.isoClaim n a
      | none => (((((d.isoLeave n).setVar V.isoPend n 0).setVar V.isoWait n 1).mark V.isoFrom n).setVar V.isoDelay n ((d.freeVal % 256 : Nat) : Int)).useFree

def execClaimContention (n : Fin 4) (_ : Unit) (s : State) : Host.Outcome State Fault Refusal := s.upd (fun d => d.claimContention n)

/-- CANNOT_CLAIM (R416, R417): after the pseudo-random delay Cannot Claim is sent; a NAME that lost enters LOST with BCODE 0x6. -/
def Dev.cannotClaim (d : Dev) (n : Nat) : Dev :=
  if d.var V.isoWait n != 0 && d.passed V.isoFrom n (d.var V.isoDelay n * 600000) then
    let lost := d.var V.isoWait n == 1
    let d := (d.setVar V.isoWait n 0).isoSend n 2
    if lost then (d.isoState n 3).errBlk 0x28 6 1 else d
  else d

def execCannotClaim (n : Fin 4) (s : State) : Host.Outcome State Fault Refusal := s.upd (fun d => d.cannotClaim n)

/-- CLAIM_REQUEST (R417): the request that the channel has heard is answered: Address Claimed in CLAIMING or CLAIMED, Cannot Claim after the delay in LOST. -/
def Dev.claimRequest (d : Dev) (n : Nat) : Dev :=
  if d.var V.isoAsked n ≠ 1 ∨ d.var V.isoWait n = 1 then d else
  let d := d.setVar V.isoAsked n 0
  match d.get F.BUS_ISO_STAT_STATE n with
  | 1 => d.isoSend n 1
  | 2 => d.isoSend n 1
  | 3 => if d.var V.isoWait n = 0 then
      (((d.setVar V.isoWait n 2).mark V.isoFrom n).setVar V.isoDelay n ((d.freeVal % 256 : Nat) : Int)).useFree else d
  | _ => d

def execClaimRequest (n : Fin 4) (s : State) : Host.Outcome State Fault Refusal := s.upd (fun d => d.claimRequest n)

/-- PARTNER_TIMEOUT (R418). An entry that shows the module's own address does not time out (log entry 17). -/
def Dev.partnerTimeout (d : Dev) (sa : Nat) : Dev :=
  if d.on F.BUS_PT_CFG_EN 0 && d.var V.ptState sa == 1 && d.var V.ptOwn sa == 0 &&
      d.passed V.ptSeen sa ((max 1 (d.get F.BUS_PT_CFG_PTO 0) : Nat) * 10000000) then d.ptGone sa
  else d

def execPartnerTimeout (sa : Fin 254) (s : State) : Host.Outcome State Fault Refusal := s.upd (fun d => d.partnerTimeout sa)

end Sys2Proof.Machine
end

