-- ==== Sys2Proof/Machine/Ego.lean ====
section
/-! DEFINITION. EGO: the machine's own motion (spec/06_canopy_fusion.md, R200 to R206, R229, R230). -/

namespace Sys2Proof.Machine

/-- EGO_STAT bits 7:0 as a pose record carries them (R229, R230). -/
def Dev.egoStat (d : Dev) : Nat :=
  d.get F.EGO_STAT_VALID 0 + 2 * d.get F.EGO_STAT_IMUOK 0 + 4 * d.get F.EGO_STAT_WHLOK 0 + 8 * d.get F.EGO_STAT_BRIDGE 0 +
  16 * d.get F.EGO_STAT_STILL 0 + 32 * d.get F.EGO_STAT_SLIPHOLD 0 + 64 * d.get F.EGO_STAT_SLIPUNK 0

/-- EGO_STAT.FAULT follows NOT VALID while EN is 1 (R229). -/
def Dev.egoFault (d : Dev) : Dev := d.set F.COM_STAT_FAULT 0x19 (bit (d.on F.COM_CTRL_EN 0x19 && !d.on F.EGO_STAT_VALID 0))

/-- VALID takes a value; a change sets VALIDCHG, and a return makes the next grid update clear (R206). -/
def Dev.egoValid (d : Dev) (v : Bool) : Dev :=
  let old := d.on F.EGO_STAT_VALID 0
  let d := (d.set F.EGO_STAT_VALID 0 (bit v)).egoFault
  if old == v then d else (d.irq 0x19 0).when v (fun a => a.setVar V.gridClr 0 1)

/-- The newest usable wheel record (R201, R202): live, not stale, within MAXAGE, in a Telemetry slot. -/
def Dev.wheelRecord (d : Dev) : Option (List Nat) :=
  let i := d.get F.EGO_CFG_SLOT.act 0
  if 64 ≤ i ∧ i ≤ 319 ∧ d.on F.CLR_HDR_LIVE i ∧ ¬ d.on F.CLR_HDR_STALE i ∧
      d.var V.grove 0 - (leAt (d.clrPub i) 0 8 : Int) * 65536 ≤ (d.get F.EGO_CFG_MAXAGE.act 0 : Int) * 1000000 * 65536
  then some (d.clrPub i) else none

/-- The valid wheels of a record in WMASK: their count and the sum of their speeds. -/
def Dev.wheelSum (d : Dev) (b : List Nat) : Nat × Int :=
  ((List.range 4).filter (fun n => tbit (leAt b 18 1) n && tbit (d.get F.EGO_CFG_WMASK.act 0) n)).foldl
    (fun x n => (x.1 + 1, x.2 + ofBits 16 (leAt b (8 + 2 * n) 2))) (0, 0)

/-- A sample within the IMU's ranges (R229), rotated into the machine frame (R200). -/
def Dev.imuRot (d : Dev) (x : EgoIn) : EgoIn :=
  let g : Int := 125000 * 2 ^ d.get F.EGO_IMU_CFG_GRANGE 0
  let a : Int := 2000 * 2 ^ d.get F.EGO_IMU_CFG_ARANGE 0
  let m := fun (k : Nat) => ofBits 32 (d.get F.EGO_IMU_ROT_ROT.act k)
  let gx := clamp (-g) g x.gx
  let gy := clamp (-g) g x.gy
  let gz := clamp (-g) g x.gz
  let ax := clamp (-a) a x.ax
  let ay := clamp (-a) a x.ay
  let az := clamp (-a) a x.az
  let row := fun (r : Nat) (u v w : Int) => (m (3 * r) * u + m (3 * r + 1) * v + m (3 * r + 2) * w) / 1073741824
  ⟨row 0 gx gy gz, row 1 gx gy gz, row 2 gx gy gz, row 0 ax ay az, row 1 ax ay az, row 2 ax ay az⟩

/-- The samples that a step takes, rotated: one for each strobe stamped in the last millisecond (R200, R202; history 18). -/
def Dev.imuTaken (d : Dev) (x : List EgoIn) : List EgoIn :=
  (x.take ((d.past 18 0).countP (fun e => decide (d.now - 1000000 ≤ e.1) && decide (e.1 ≤ d.now)))).map d.imuRot

/-- Mean of one component of samples. -/
def imuMean (l : List EgoIn) (f : EgoIn → Int) : Int := (l.map f).foldl (· + ·) 0 / max 1 l.length

/-- The number of set bits among the low `n`. -/
def bitsSet (n v : Nat) : Nat := (List.range n).countP (fun i => tbit v i)

/-- Pose registers show the pose. -/
def Dev.egoShow (d : Dev) : Dev :=
  ((((d.setI F.EGO_X_POS 0 (d.var V.egoXa 0 / 107374182400)).setI F.EGO_Y_POS 0 (d.var V.egoYa 0 / 107374182400)).setI F.EGO_YAW_YAW 0
    (d.var V.egoPsi 0 / 360000000)).setI F.EGO_SPEED_V 0 (d.var V.egoVl 0)).setI F.EGO_YAWRATE_W 0 (d.var V.egoWl 0 / 10)

/-- The pose, DIST and yaw advance by one millisecond (R202). -/
def Dev.egoMove (d : Dev) : Dev :=
  let v := d.var V.egoVl 0
  let d := d.setVar V.egoPsi 0 (d.var V.egoPsi 0 + d.var V.egoWl 0 * 4294967296)
  let th := toBits 32 (d.var V.egoPsi 0 / 360000000)
  let d := (d.setVar V.egoXa 0 (d.var V.egoXa 0 + v * Config.cosT th)).setVar V.egoYa 0 (d.var V.egoYa 0 + v * Config.sinT th)
  d.setI F.EGO_DIST_DIST 0 (d.getI F.EGO_DIST_DIST 0 + v)

/-- Pitch and roll by a complementary filter of 2 s (R202), in 2^-48 turn: each moves with its gyro rate and is drawn to the angle that the acceleration shows. The
filter's form, its order and its signs are the model's choice (log entry 139): right-handed about y and x, the angles from the vector of the acceleration. -/
def Dev.egoTilt (d : Dev) (l : List EgoIn) : Dev :=
  if l.isEmpty then d
  else
    let ax := imuMean l (·.ax)
    let ay := imuMean l (·.ay)
    let az := imuMean l (·.az)
    let turn := fun (w : Int) => w * 2 ^ 48 / 360000000
    let step := fun (old w acc : Int) => (2000 * (old + turn w) + acc * 65536) / 2001
    let d := (d.setVar V.pitchA 0 (step (d.var V.pitchA 0) (imuMean l (·.gy)) (Config.angle (Config.envelope (ay, az), -ax)))).setVar V.rollA 0
      (step (d.var V.rollA 0) (imuMean l (·.gx)) (Config.angle (az, ay)))
    (d.setI F.EGO_ATT_PITCH 0 (d.var V.pitchA 0 * 36000 / 2 ^ 48)).setI F.EGO_ATT_ROLL 0 (d.var V.rollA 0 * 36000 / 2 ^ 48)

/-- The poses of the last 1,024 ms, by the Grove instant of their step (R212; histories 13 to 17). -/
def Dev.egoPast (d : Dev) : Dev :=
  ([(13, d.getI F.EGO_X_POS 0), (14, d.getI F.EGO_Y_POS 0), (15, (d.get F.EGO_YAW_YAW 0 : Int)), (16, d.getI F.EGO_ATT_PITCH 0),
    (17, d.getI F.EGO_ATT_ROLL 0)] : List (Nat × Int)).foldl (fun a e => a.setPast e.1 0 (((a.now, e.2) :: a.past e.1 0).take 1100)) d

/-- The device part of EGO_STEP (R202, R203, R206). It is the boundary of EGO's RWS fields (R64). -/
def Dev.egoStep (d : Dev) (x : List EgoIn) : Dev :=
  let d := if d.var V.egoRst 0 = 1 then
      (((((d.setVar V.egoRst 0 0).setVar V.egoXa 0 0).setVar V.egoYa 0 0).setVar V.egoPsi 0 0).set F.EGO_DIST_DIST 0 0).setVar V.gridClr 0 1
    else d
  let l := d.imuTaken x
  let got := !l.isEmpty
  let d := d.setPast 18 0 []
  let d := d.setVar V.imuHist 0 ((d.var V.imuHist 0 * 2 + bit got) % 1024)
  let d := d.when (!got) (fun a => a.irq 0x19 1)
  let imuOk := decide (8 ≤ bitsSet 10 (d.var V.imuHist 0).toNat)
  let w := match d.wheelRecord with | some b => d.wheelSum b | none => (0, 0)
  let whlOk := decide (1 ≤ w.1)
  let d := (((d.set F.EGO_STAT_IMUOK 0 (bit imuOk)).set F.EGO_STAT_WHLOK 0 (bit whlOk)).set F.EGO_STAT_BRIDGE 0 (bit !(imuOk && whlOk))).setVar
    V.imuBad 0 (if imuOk then 0 else d.var V.imuBad 0 + 1)
  let d := d.setVar V.whlBad 0 (if whlOk then 0 else d.var V.whlBad 0 + 1)
  let d := if imuOk && whlOk then
      let d := d.setVar V.egoVl 0 (w.2 * d.get F.EGO_WSCALE_SCALE.act 0 / (32768 * (max w.1 1 : Nat)))
      if got then d.setVar V.egoWl 0 (imuMean l (·.gz) - d.getI F.EGO_GBIAS_BIAS 0) else d
    else d
  let d := d.when (imuOk && whlOk) (fun a => a.egoValid true)
  let d := if d.on F.EGO_STAT_VALID 0 then d.egoMove else d
  let d := d.egoTilt l
  let still := decide (|d.var V.egoVl 0| < 50) && decide (|d.var V.egoWl 0| < 500)
  let d := if still then d.setVar V.stillRun 0 (d.var V.stillRun 0 + 1) else (d.setVar V.stillRun 0 0).set F.EGO_STAT_STILL 0 0
  ((d.incWrap F.EGO_STEPSEQ_SEQ 0).egoShow.egoPast).boundary 0x19 wideUnit

/-- The pose record of a step (R230). -/
def Dev.poseRecord (d : Dev) : List Nat :=
  leBytes 8 d.now.toNat ++ leBytes 4 (d.get F.EGO_X_POS 0) ++ leBytes 4 (d.get F.EGO_Y_POS 0) ++ leBytes 4 (d.get F.EGO_YAW_YAW 0) ++
  leBytes 2 (d.get F.EGO_ATT_PITCH 0) ++ leBytes 2 (d.get F.EGO_ATT_ROLL 0) ++ leBytes 4 (d.get F.EGO_SPEED_V 0) ++
  leBytes 2 (d.get F.EGO_YAWRATE_W 0) ++ [d.egoStat, d.get F.EGO_STEPSEQ_SEQ 0 % 256]

/-- EGO_STEP (R202, R203, R230): the step, and its pose record in the ring. A fault of the ring stops it (RINGFLT). -/
def State.egoStep (s : State) (x : List EgoIn) : State :=
  if !s.dev.running 0x19 then s
  else
    let s : State := { s with dev := s.dev.egoStep x }
    let base := s.dev.get F.EGO_RING_BASE.act 0
    if base = 0 ∨ s.dev.var V.egoRingStop 0 = 1 ∨ ¬ s.dev.on F.EGO_STAT_VALID 0 then s
    else
      let size := 256 * 2 ^ min (s.dev.get F.EGO_RING_CFG_SIZE.act 0) 6
      let k := s.dev.get F.EGO_RING_WR_IDX 0 % size
      match s.devWrite 0x0190 (base + 32 * k) s.dev.poseRecord with
      | (s, none) => { s with dev := s.dev.set F.EGO_RING_WR_IDX 0 ((k + 1) % size) }
      | (s, some _) => { s with dev := ((s.dev.setVar V.egoRingStop 0 1).irq 0x19 3).errBlk 0x19 1 0 }

def execEgoStep (x : List EgoIn) (s : State) : Host.Outcome State Fault Refusal := .next (s.egoStep x)

/-- EGO_INVALID (R203): IMUOK or WHLOK has stayed 0 for more than 100 ms; VALID falls and the pose stops. -/
def Dev.egoInvalid (d : Dev) : Dev :=
  if d.running 0x19 && (decide (100 < d.var V.imuBad 0) || decide (100 < d.var V.whlBad 0)) then d.egoValid false else d

def execEgoInvalid (s : State) : Host.Outcome State Fault Refusal := s.upd Dev.egoInvalid

/-- EGO_STILL (R202): 2 s of standstill set STILL, and the gyro z bias is learnt; its value is a free value (log entry 12). -/
def Dev.egoStill (d : Dev) : Dev :=
  if d.running 0x19 && decide (2000 ≤ d.var V.stillRun 0) && !d.on F.EGO_STAT_STILL 0 then
    ((d.set F.EGO_STAT_STILL 0 1).set F.EGO_GBIAS_BIAS 0 d.freeVal).useFree
  else d

def execEgoStill (s : State) : Host.Outcome State Fault Refusal := s.upd Dev.egoStill

/-- A change of SLIPHOLD or SLIPUNK sets SLIPCHG. -/
def Dev.slipBits (d : Dev) (hold unk : Bool) : Dev :=
  let chg := d.on F.EGO_STAT_SLIPHOLD 0 != hold || d.on F.EGO_STAT_SLIPUNK 0 != unk
  ((d.set F.EGO_STAT_SLIPHOLD 0 (bit hold)).set F.EGO_STAT_SLIPUNK 0 (bit unk)).when chg (fun a => a.irq 0x19 2)

/-- The slip estimate at a pair accepted with VALID (R205): `vg` and `v` are GNSS's and EGO's speeds at the epoch, mm/s. -/
def Dev.slipUpdate (d : Dev) (vg v : Int) : Dev :=
  if d.on F.GNTK_GUARD_STAT_CONTRA 0 then d
  else if 1000 < vg ∧ 1000 < v then
    let sl := 655360000 - 655360000 * vg / v
    let a := d.var V.slipA 0
    let a := a + (sl - a) * d.get F.GNTK_EPOCH_CFG_EPER.act 0 / (1000 * max (d.get F.EGO_SLIP_CFG_TC 0) 1 : Nat)
    ((d.setVar V.slipA 0 a).setI F.EGO_SLIP_SLIP 0 (a / 65536)).slipBits false false
  else d

/-- EGO_SLIP_UNKNOWN (R205, R229): CONTRA has been 1 for HOLD_T seconds, as the last pair took HOLD_T; SLIP becomes 0 and SLIPUNK 1. -/
def Dev.slipUnknown (d : Dev) : Dev :=
  if d.on F.GNTK_GUARD_STAT_CONTRA 0 && d.passed V.contraAt 0 (d.var V.holdTV 0 * 1000000000) then
    ((d.setVar V.slipA 0 0).set F.EGO_SLIP_SLIP 0 0).slipBits (d.on F.EGO_STAT_SLIPHOLD 0) true
  else d

def execEgoSlipUnknown (s : State) : Host.Outcome State Fault Refusal := s.upd Dev.slipUnknown

/-- EGO_RESET (R206): the pose and DIST become 0 at the next step; RSTCNT counts. -/
def execEgoReset (a : Acc) (s : State) : Host.Outcome State Fault Refusal :=
  s.upd (fun d => d.wr 0x19 0x810 a (fun d => (d.setVar V.egoRst 0 1).incWrap F.EGO_STAT_RSTCNT 0))

end Sys2Proof.Machine
end

