-- ==== Sys2Proof/Machine/Geometry.lean ====
section
/-! DEFINITION. FP16 numbers, EGO's past poses, and how CNPY brings camera pixels and lidar points into the machine frame, the grid and another sensor's view
(spec/06_canopy_fusion.md, R195, R196, R207 to R212, R217, R220). Numbers here are exact; the spec gives no precision for them (log entry 14). -/

namespace Sys2Proof.Machine

/-! ### FP16 -/

/-- A finite FP16 number in units of 2^-24; none for an infinity or a NaN. -/
def f16 (h : Nat) : Option Int :=
  let e := h / 1024 % 32
  let m := h % 1024
  if e = 31 then none
  else
    let a : Int := if e = 0 then m else (1024 + m) * 2 ^ (e - 1)
    some (if h / 32768 % 2 = 1 then -a else a)

/-- Division of naturals rounded to the nearest, ties to even. -/
def divEven (n k : Nat) : Nat :=
  let q := n / k
  if 2 * (n % k) < k then q else if k < 2 * (n % k) then q + 1 else q + q % 2

/-- The FP16 magnitude nearest to n / k units of 2^-24, from exponent `e` on. -/
def f16Mag (fuel e n k : Nat) : Nat :=
  match fuel with
  | 0 => 0x7C00
  | f + 1 => let m := divEven n (k * 2 ^ e); if m < 2048 then e * 1024 + m else f16Mag f (e + 1) n k

/-- The FP16 number nearest to n / k units of 2^-24 (log entry 14: ties to even). -/
def toF16 (n : Int) (k : Nat) : Nat := min 0x7C00 (f16Mag 30 0 n.natAbs k) + (if n < 0 then 32768 else 0)

/-- A finite FP16 number. -/
def f16q (h : Nat) : Option ℚ := (f16 h).map (fun v => (v : ℚ) / 16777216)

/-- The FP16 number nearest to a number. -/
def toF16q (q : ℚ) : Nat := toF16 (q.num * 16777216) q.den

/-- Square root, to 40 binary places. -/
def sqrtQ (q : ℚ) : ℚ := (Nat.sqrt (q.num.toNat * 2 ^ 80 / q.den) : ℚ) / 2 ^ 40

/-- Sum of a list of numbers. -/
def sumQ (l : List ℚ) : ℚ := l.foldl (· + ·) 0

/-- A number rounded to the nearest integer, halves up. -/
def nearest (q : ℚ) : Int := (q + 1 / 2).floor

/-! ### Frames of reference -/

/-- A point or a direction. -/
structure V3 where
  x : ℚ
  y : ℚ
  z : ℚ

/-- A vector by a row-major matrix. -/
def V3.by (p : V3) (m : Nat → ℚ) : V3 :=
  ⟨m 0 * p.x + m 1 * p.y + m 2 * p.z, m 3 * p.x + m 4 * p.y + m 5 * p.z, m 6 * p.x + m 7 * p.y + m 8 * p.z⟩

/-- A vector by the transposed matrix. -/
def V3.back (p : V3) (m : Nat → ℚ) : V3 := p.by (fun k => m (k % 3 * 3 + k / 3))

def V3.add (p q : V3) : V3 := ⟨p.x + q.x, p.y + q.y, p.z + q.z⟩

def V3.sub (p q : V3) : V3 := ⟨p.x - q.x, p.y - q.y, p.z - q.z⟩

def V3.scale (p : V3) (k : ℚ) : V3 := ⟨p.x * k, p.y * k, p.z * k⟩

/-- A calibration of a sensor (R217): focal lengths and centre in pixels, the distortion, the rotation and the origin in 0.1 mm, the image size and the
plane of its bank. -/
structure Cam where
  fx : ℚ
  fy : ℚ
  cx : ℚ
  cy : ℚ
  k : List ℚ
  rot : Nat → ℚ
  t : V3
  w : Nat
  h : Nat
  zg : ℚ

/-- The calibration of a sensor in a bank. -/
def Dev.cam (d : Dev) (bank s : Nat) : Cam :=
  let n := 8 * bank + s
  let u := fun (f : Fld) => (d.get f n : ℚ) / 65536
  let q := fun (f : Fld) => (d.getI f n : ℚ)
  { fx := u F.CAL_FX_V, fy := u F.CAL_FY_V, cx := u F.CAL_CX_V, cy := u F.CAL_CY_V,
    k := ([F.CAL_K1_V, F.CAL_K2_V, F.CAL_K3_V, F.CAL_P1_V, F.CAL_P2_V] : List Fld).map (fun f => q f / 268435456),
    rot := fun i => (d.getI F.CAL_ROT_V (9 * n + i) : ℚ) / 1073741824,
    t := ⟨q F.CAL_TX_V, q F.CAL_TY_V, q F.CAL_TZ_V⟩, w := d.get F.CAL_SIZE_W n, h := d.get F.CAL_SIZE_H n, zg := (d.getI F.CAL_ZG_V bank : ℚ) }

/-- The Brown-Conrady model (R217): where an undistorted image point falls. -/
def distort (k : List ℚ) (x y : ℚ) : ℚ × ℚ :=
  let c := fun (i : Nat) => k.getD i 0
  let r := x * x + y * y
  let a := 1 + c 0 * r + c 1 * r * r + c 2 * r * r * r
  (x * a + 2 * c 3 * x * y + c 4 * (r + 2 * x * x), y * a + c 3 * (r + 2 * y * y) + 2 * c 4 * x * y)

/-- The direction in the machine frame that an image point of a camera looks along, undistorted; its component along the optical axis is 1 (R210). -/
def Cam.ray (c : Cam) (u v : ℚ) : V3 :=
  let p := Config.undistort c.k ((u - c.cx) / c.fx) ((v - c.cy) / c.fy)
  V3.by ⟨p.1, p.2, 1⟩ c.rot

/-- The point of the machine frame at a depth in 0.1 mm along a camera's optical axis. -/
def Cam.atDepth (c : Cam) (u v depth : ℚ) : V3 := ((c.ray u v).scale depth).add c.t

/-- The point in which the ray of an image point cuts the plane z = ZG of the machine frame, in front of the camera. -/
def Cam.onPlane (c : Cam) (u v : ℚ) : Option V3 :=
  let r := c.ray u v
  if r.z = 0 then none
  else
    let k := (c.zg - c.t.z) / r.z
    if k ≤ 0 then none else some ((r.scale k).add c.t)

/-- The pixel of a camera that a point of the machine frame falls on, if it lies in front and inside the image. -/
def Cam.pixel (c : Cam) (p : V3) : Option (Nat × Nat) :=
  let q := (p.sub c.t).back c.rot
  if q.z ≤ 0 then none
  else
    let e := distort c.k (q.x / q.z) (q.y / q.z)
    let u := nearest (c.fx * e.1 + c.cx)
    let v := nearest (c.fy * e.2 + c.cy)
    if 0 ≤ u ∧ u < c.w ∧ 0 ≤ v ∧ v < c.h then some (u.toNat, v.toNat) else none

/-- EGO's pose at a step: x and y in 0.1 mm, yaw in 2^-32 turn, pitch and roll in 0.01 degree. -/
structure Pose where
  x : Int
  y : Int
  psi : Int
  pitch : Int
  roll : Int

/-- EGO's pose at a Grove instant, whole ns (R210 to R212; histories 13 to 17, the newest first): that of the newest step at or before it, for the spec does
not say how it is interpolated (log entry 171). None outside the history of 1,024 ms. -/
def Dev.poseAt (d : Dev) (inst : Int) : Option Pose :=
  let at_ := fun (n : Nat) => ((d.past n 0).find? (fun e => decide (e.1 ≤ inst))).map (·.2)
  match at_ 13, at_ 14, at_ 15, at_ 16, at_ 17 with
  | some x, some y, some psi, some p, some r => some ⟨x, y, psi, p, r⟩
  | _, _, _, _, _ => none

/-- Cosine and sine of an angle in 2^-32 turn. -/
def cosQ (a : Int) : ℚ := (Config.cosT (toBits 32 a) : ℚ) / 1073741824

def sinQ (a : Int) : ℚ := (Config.sinT (toBits 32 a) : ℚ) / 1073741824

/-- An angle of 0.01 degree in 2^-32 turn. -/
def hundredths (a : Int) : Int := a * 4294967296 / 36000

/-- A point of the machine frame turned level by roll about x and then pitch about y, both right-handed (log entry 171). -/
def Pose.level (q : Pose) (p : V3) : V3 :=
  let cr := cosQ (hundredths q.roll)
  let sr := sinQ (hundredths q.roll)
  let cp := cosQ (hundredths q.pitch)
  let sp := sinQ (hundredths q.pitch)
  let y := p.y * cr - p.z * sr
  let z := p.y * sr + p.z * cr
  ⟨p.x * cp + z * sp, y, z * cp - p.x * sp⟩

/-- A point of the machine frame in the odometric frame, its height above the level plane through the reference point. -/
def Pose.place (q : Pose) (p : V3) : V3 :=
  let l := q.level p
  let c := cosQ q.psi
  let s := sinQ q.psi
  ⟨(q.x : ℚ) + l.x * c - l.y * s, (q.y : ℚ) + l.x * s + l.y * c, l.z⟩

/-- The grid cell of a point of the odometric frame, if it lies in the grid (R207). -/
def Dev.cellOf (d : Dev) (p : V3) : Option (Nat × Nat) :=
  let i := 200 + ((p.x - (d.var V.gridXA 0 : ℚ) + 500) / 1000).floor
  let j := 200 + ((p.y - (d.var V.gridYA 0 : ℚ) + 500) / 1000).floor
  if 0 ≤ i ∧ i < 400 ∧ 0 ≤ j ∧ j < 400 then some (i.toNat, j.toNat) else none

/-! ### A sensor's data -/

/-- A valid point of a scan record (R196): its place in the lidar frame, 0.1 mm, its instant from STAMP in ns, and its intensity. -/
structure LidarPoint where
  p : V3
  t : Int
  i : Nat

/-- The valid points of a scan record. -/
def lidarPoints (b : List Nat) : List LidarPoint :=
  (List.range (leAt b 16 4)).filterMap (fun k =>
    let o := 32 + 16 * k
    if tbit (leAt b (o + 15) 1) 0 then
      some ⟨⟨(ofBits 32 (leAt b o 4) : ℚ), (ofBits 32 (leAt b (o + 4) 4) : ℚ), (ofBits 32 (leAt b (o + 8) 4) : ℚ)⟩,
        ofBits 16 (leAt b (o + 12) 2) * 4000, leAt b (o + 14) 1⟩
    else none)

/-- What one source shows in one grid cell in one bin (R210 to R212): the cell, the sensor, its contributing pixels or points, and its value of each channel
that it observes; none where one of its pixels is not finite. -/
structure CellObs where
  i : Nat
  j : Nat
  sen : Nat
  n : Nat
  chans : List (Nat × Option ℚ)

/-- A scan's points in the grid, motion-compensated (R211): the cell, the height in m and the intensity. -/
def Dev.lidarHits (d : Dev) (c : Cam) (stamp : Int) (b : List Nat) : List ((Nat × Nat) × ℚ × Nat) :=
  (lidarPoints b).filterMap (fun e =>
    match d.poseAt (stamp + e.t) with
    | none => none
    | some q =>
      let p := q.place ((e.p.by c.rot).add c.t)
      (d.cellOf p).map (fun x => (x, p.z / 10000, e.i)))

/-- Channels 48 to 53 of the points in one cell (R207). -/
def lidarChans (l : List (ℚ × Nat)) : List (Nat × Option ℚ) :=
  let n : ℚ := l.length
  let hs := l.map (·.1)
  let m := sumQ hs / n
  [(48, some n), (49, some (hs.foldl min (hs.headD 0))), (50, some (hs.foldl max (hs.headD 0))), (51, some m),
   (52, some (sqrtQ (sumQ (hs.map (fun h => (h - m) * (h - m))) / n))), (53, some (sumQ (l.map (fun e => (e.2 : ℚ) / 255)) / n))]

/-- A lidar's observations of the cells it has points in (R211). -/
def Dev.lidarObs (d : Dev) (sen bank : Nat) (stamp : Int) (b : List Nat) : List CellObs :=
  let hits := d.lidarHits (d.cam bank sen) stamp b
  (hits.map (·.1)).dedup.map (fun x =>
    let l := (hits.filter (fun e => e.1 == x)).map (·.2)
    ⟨x.1, x.2, sen, l.length, lidarChans l⟩)

/-- FC as it acts: at most 48 (R226; log entry 172). -/
def Dev.fmapFc (d : Dev) (s : Nat) : Nat := min (d.get F.CNPY_SEN_FMAP_FC.act s) 48

/-- CHBASE as it acts (R226). -/
def Dev.fmapBase (d : Dev) (s : Nat) : Nat := min (d.get F.CNPY_SEN_FMAP2_CHBASE.act s) (48 - d.fmapFc s)

/-- FSTEP as it acts: 1 to 32 (R226; log entry 172). -/
def Dev.fmapStep (d : Dev) (s : Nat) : Nat := min (max 1 (d.get F.CNPY_SEN_FMAP2_FSTEP.act s)) 32

/-- A camera's feature pixels in the grid (R210). `feat` and `depth` give the FP16 words of a tensor by row, column and channel. -/
def Dev.cameraHits (d : Dev) (sen : Nat) (c : Cam) (q : Pose) (feat depth : Nat → Nat → Nat → Nat) : List ((Nat × Nat) × List Nat) :=
  let fs : ℚ := d.fmapStep sen
  (List.range (d.get F.CNPY_SEN_FMAP_FH.act sen)).flatMap (fun v => (List.range (d.get F.CNPY_SEN_FMAP_FW.act sen)).filterMap (fun u =>
    let p := if d.get F.CNPY_SEN_CFG_DEPTH.act sen = 1 then
        (match f16q (depth v u 0) with | some z => if 0 < z then some (c.atDepth (fs * u) (fs * v) (z * 10000)) else none | none => none)
      else c.onPlane (fs * u) (fs * v)
    match p with
    | none => none
    | some p => (d.cellOf (q.place p)).map (fun x => (x, (List.range (d.fmapFc sen)).map (fun k => feat v u k)))))

/-- A camera's observations of the cells it has pixels in (R210, R212). -/
def Dev.cameraObs (d : Dev) (sen bank : Nat) (stamp : Int) (feat depth : Nat → Nat → Nat → Nat) : List CellObs :=
  match d.poseAt stamp with
  | none => []
  | some q =>
    let hits := d.cameraHits sen (d.cam bank sen) q feat depth
    (hits.map (·.1)).dedup.map (fun x =>
      let l := (hits.filter (fun e => e.1 == x)).map (·.2)
      ⟨x.1, x.2, sen, l.length, (List.range (d.fmapFc sen)).map (fun k =>
        let vs := l.map (fun f => f16q (f.getD k 0))
        (d.fmapBase sen + k, if vs.any (·.isNone) then none else some (sumQ (vs.map (·.getD 0)) / (l.length : ℚ))))⟩)

/-! ### Projection from one sensor to another (R220) -/

/-- Bytes of an image of `n` pixels (R195). -/
def imgBytes (fmt n : Nat) : Nat := if fmt = 0 then n else if fmt = 1 then 2 * n else if fmt = 2 then 3 * n else (3 * n + 1) / 2

/-- A 12-bit sample of a packed Bayer image: two samples in three bytes, the low bits first (log entry 173). -/
def bayer (b : List Nat) (k : Nat) : Nat :=
  let o := 3 * (k / 2)
  if k % 2 = 0 then b.getD o 0 + b.getD (o + 1) 0 % 16 * 256 else b.getD (o + 1) 0 / 16 + b.getD (o + 2) 0 * 16

/-- Luminance of a pixel, 0 to 255 (R195, R220): Y, the mean of R, G and B, or the average of the two G of the pixel's Bayer square. Rows follow one another
without a gap (log entry 173). -/
def lumAt (fmt w : Nat) (b : List Nat) (u v : Nat) : ℚ :=
  let k := v * w + u
  match fmt with
  | 0 => b.getD k 0
  | 1 => b.getD (2 * k) 0
  | 2 => ((b.getD (3 * k) 0 + b.getD (3 * k + 1) 0 + b.getD (3 * k + 2) 0 : Nat) : ℚ) / 3
  | _ =>
    let o := v / 2 * 2 * w + u / 2 * 2
    ((bayer b (o + 1) + bayer b (o + w) : Nat) : ℚ) / 32

/-- A place of the target and what source and target show there. -/
abbrev Match := Nat × ℚ × ℚ

/-- Camera to camera: the source's luminance warped through the plane z = ZG. -/
def matchCams (cs ct : Cam) (fs ft : Nat) (bs bt : List Nat) : List Match :=
  (List.range (ct.w * ct.h)).filterMap (fun k =>
    match (ct.onPlane ((k % ct.w : Nat) : ℚ) ((k / ct.w : Nat) : ℚ)).bind cs.pixel with
    | some x => some (k, lumAt fs cs.w bs x.1 x.2, lumAt ft ct.w bt (k % ct.w) (k / ct.w))
    | none => none)

/-- Lidar to camera: the points' intensity at the pixels they hit. -/
def matchHits (cs ct : Cam) (ft : Nat) (bs bt : List Nat) : List Match :=
  (lidarPoints bs).filterMap (fun e =>
    (ct.pixel ((e.p.by cs.rot).add cs.t)).map (fun x => (x.2 * ct.w + x.1, (e.i : ℚ), lumAt ft ct.w bt x.1 x.2)))

/-- Mean height of a scan by grid cell. -/
def Dev.raster (d : Dev) (c : Cam) (stamp : Int) (b : List Nat) : List (Nat × ℚ) :=
  let hits := d.lidarHits c stamp b
  (hits.map (·.1)).dedup.map (fun x =>
    let l := hits.filter (fun e => e.1 == x)
    (x.2 * 400 + x.1, sumQ (l.map (fun e => e.2.1)) / (l.length : ℚ)))

/-- Lidar to lidar: the heights of shared cells. -/
def matchRasters (a b : List (Nat × ℚ)) : List Match := a.filterMap (fun x => (b.find? (fun y => y.1 == x.1)).map (fun y => (x.1, x.2, y.2)))

/-- Normalised cross-correlation in units of 1/1024; none where one side does not vary. -/
def ncc (l : List Match) : Option Int :=
  let n : ℚ := l.length
  let sa := sumQ (l.map (fun m => m.2.1))
  let sb := sumQ (l.map (fun m => m.2.2))
  let va := n * sumQ (l.map (fun m => m.2.1 * m.2.1)) - sa * sa
  let vb := n * sumQ (l.map (fun m => m.2.2 * m.2.2)) - sb * sb
  let r := sqrtQ (va * vb)
  if r = 0 then none else some (clamp (-1024) 1023 (nearest (1024 * (n * sumQ (l.map (fun m => m.2.1 * m.2.2)) - sa * sb) / r)))

end Sys2Proof.Machine
end

