-- ==== Sys2Proof/Machine/Canopy.lean ====
section
/-! DEFINITION. CNPY and NPU: sensors, checks, the fused grid, hardware projection and network jobs (spec/06_canopy_fusion.md, R194 to R199,
R207 to R228, R231). -/

namespace Sys2Proof.Machine

/-! ### Sensor states -/

/-- A software projection that waited for a check goes on (R221). -/
def Dev.projGo (d : Dev) : Dev :=
  if d.get F.CNPY_HP_STAT_ST 0 = 1 ∧ ¬ (List.range 8).any (fun i => d.var V.chkOn i == 1) then d.set F.CNPY_HP_STAT_ST 0 2 else d

/-- A sensor's state changes (R198): SENSTATE; a check of it ends; OUT and CALFAIL set its bit in CNPY_EXCL and report. -/
def Dev.senState (d : Dev) (i st cause : Nat) : Dev :=
  if d.get F.CNPY_SEN_STAT_STATE i = st then d
  else
    let d := ((d.set F.CNPY_SEN_STAT_STATE i st).irq 0x18 1).setVar V.chkBins i 0
    let d := (d.setVar V.chkOn i 0).projGo
    let old := d.get F.CNPY_EXCL_MASK 0
    let d := d.set F.CNPY_EXCL_MASK 0 (old - bit (tbit old i) * 2 ^ i + bit (decide (4 ≤ st)) * 2 ^ i)
    if st = 4 then
      (((((d.set F.CNPY_SEN_STAT_CAUSE i cause).incSat F.CNPY_SEN_STAT_OUTCNT i).set F.CNPY_SEN_STAT_INSTEP i 0).setVar V.senBad i 0).irq 0x18
        2).errBlk 0x18 5 1
    else if st = 5 then ((d.set F.CNPY_SEN_STAT_CAUSE i cause).irq 0x18 3).errBlk 0x18 6 1
    else d

/-- FPER of a sensor in ns; 0 acts as 1 ms. -/
def Dev.senPer (d : Dev) (i : Nat) : Int := (max 1 (d.get F.CNPY_SEN_TIME_FPER.act i) : Nat) * 1000000

/-- GPER in ns. -/
def Dev.gper (d : Dev) : Int := (max 1 (d.get F.CNPY_GRID_CFG_GPER.act 0) : Nat) * 1000000

/-- Bin instant of the update at `tk` (R209, R227): GLAG out of 1 to GPER - 1 acts as GPER / 2. -/
def Dev.binAt (d : Dev) (tk : Int) : Int :=
  let l : Int := d.get F.CNPY_GRID_CFG_GLAG.act 0 * 1000000
  tk - (if l = 0 ∨ d.gper ≤ l then d.gper / 2 else l)

/-- A STAMP belongs to the bin of the update at `tk` (R209). -/
def Dev.inBin (d : Dev) (tk stamp : Int) : Bool :=
  decide (2 * d.binAt tk - d.gper ≤ 2 * stamp) && decide (2 * stamp < 2 * d.binAt tk + d.gper)

/-- The STAMP of a frame lies across a step of Grove time: before the instant that the step led to, or in time that is still to come (R232; log entry 194). -/
def Dev.stampAcross (d : Dev) (stamp : Int) : Bool := decide (stamp < d.var V.stepTo 0) || (decide (0 ≤ d.var V.stepU 0) && decide (d.now < stamp))

/-- A hand-off arrives (R209, R212, R232): one for a bin whose instant Tk has passed, for a bin beyond the next one, or across a step counts as LATE; one that
is not in step is not used. The next bin is the one of the update that comes next. `o` gives the places and row strides of a camera's features and depths. -/
def Dev.handPost (d : Dev) (i : Nat) (fr : Frame) (o : Nat × Nat × Nat × Nat) : Dev :=
  let tk := d.var V.nextTk 0
  let st : Int := fr.stamp
  if !fr.ok || !d.running 0x18 || decide (tk < 0) then d
  else if fr.old || d.stampAcross st || decide (2 * st < 2 * d.binAt tk - d.gper) || decide (2 * d.binAt tk + d.gper ≤ 2 * st) then d.senLate i
  else { d with hands := d.hands ++ [⟨i, fr, o.1, o.2.1, o.2.2.1, o.2.2.2⟩] }

/-! ### NPU jobs -/

/-- A camera's frame reaches its triggered jobs (R223). -/
def Dev.jobFrame (d : Dev) (cam : Nat) (fr : Frame) : Dev :=
  d.each ((List.range 64).filter (fun j => d.get F.JOB_CFG_TRIG j == cam + 1 && d.on F.JOB_CFG_EN j)) (fun j a =>
    match a.get F.JOB_STAT_STATE j with
    | 2 => ({ a with frames := a.frames.put (1, j) fr }.incSat F.JOB_STAT_SKIP j).irq 0x1A 2 |>.cone 0x1A 0x101
    | 3 =>
      let a := if a.var V.jobNextOk j = 1 then ((a.incSat F.JOB_STAT_SKIP j).irq 0x1A 2).cone 0x1A 0x101 else a
      { a with frames := a.frames.put (2, j) fr }.setVar V.jobNextOk j 1
    | _ => { a with frames := a.frames.put (1, j) fr }.set F.JOB_STAT_STATE j 2)

/-! ### Frames -/

/-- A frame is posted (R197, R198, R218): its offset is checked, a pending bank swap takes effect (history 19 keeps the STAMP), and the sensor's state follows. -/
def Dev.framePost (d : Dev) (i buf stamp arr : Nat) : Dev :=
  if !(d.running 0x18 && d.on F.CNPY_SEN_CFG_EN i && decide (2 ≤ d.get F.CNPY_SEN_RING_NBUF.act i)) then d
  else
    let d := d.mark V.senPost i
    let d : Dev := if d.get F.CNPY_SEN_STAT_STATE i = 0 then (d.senState i 1 0).set F.CNPY_SEN_STAT_INSTEP i 0 else d
    let d := if d.on F.CNPY_SEN_BANK_PEND i then
        let d := (((d.set F.CNPY_SEN_BANK_PEND i 0).set F.CNPY_SEN_BANK_ACT i (1 - d.get F.CNPY_SEN_BANK_ACT i)).irq 0x18 9).setPast 19 0
          (((stamp : Int), (i : Int)) :: d.past 19 0)
        if d.get F.CNPY_SEN_STAT_STATE i = 5 then d.senState i 2 0 else d
      else d
    let off : Int := (arr : Int) - stamp - d.get F.CNPY_SEN_TIME_LAT.act i * 100000
    let ok := decide (|off| ≤ d.senPer i)
    let d := d.setI F.CNPY_SEN_OFFS_OFFS i (clamp (-2147483648) 2147483647 (off / 1000))
    let fr : Frame := ⟨buf, stamp, arr, d.get F.CNPY_SEN_BANK_ACT i, ok, d.stampAcross stamp⟩
    let d := { d with frames := d.frames.put (0, 256 * i + buf) fr }
    let st := d.get F.CNPY_SEN_STAT_STATE i
    let d : Dev :=
      if ok then
        let d := (d.incSat F.CNPY_SEN_STAT_INSTEP i).setVar V.senBad i 0
        if (st = 1 ∨ st = 4) ∧ 20 ≤ d.get F.CNPY_SEN_STAT_INSTEP i then d.senState i (if d.on F.CNPY_SEN_CFG_FUSE.act i then 2 else 3) 0 else d
      else
        let d := ((d.incSat F.CNPY_SEN_CNT_BADOFF i).set F.CNPY_SEN_STAT_INSTEP i 0).setVar V.senBad i (d.var V.senBad i + 1)
        if (st = 1 ∨ st = 2 ∨ st = 3) ∧ 3 ≤ d.var V.senBad i then d.senState i 4 1 else d
    let st := d.get F.CNPY_SEN_STAT_STATE i
    if 6 ≤ i then d.handPost i fr (0, 0, 0, 0)
    else if st = 1 ∨ st = 2 ∨ st = 3 then d.jobFrame i fr else d

/-- IOVA of a frame buffer (R226). -/
def Dev.bufAt (d : Dev) (i buf : Nat) : Nat :=
  d.get F.CNPY_SEN_RING_BASE.act i / 4096 * 4096 + buf * (d.get F.CNPY_SEN_RING_BUFSZ.act i * 65536)

/-- LIDAR_POST (R196, R197): a scan record is posted from its buffer; one that is larger than the buffer, has more than 300,000 points or
cannot be read is not used and counts as LATE, the first two with BCODE 0x7. A camera's CNPY_SEN_POST is ignored. -/
def State.lidarPost (s : State) (i buf : Nat) : State :=
  if i < 6 ∨ !(s.dev.running 0x18 && s.dev.on F.CNPY_SEN_CFG_EN i && decide (2 ≤ s.dev.get F.CNPY_SEN_RING_NBUF.act i)) then s
  else
    let (s, r) := s.devRead 0x0180 (s.dev.bufAt i buf) 32
    match r with
    | .error _ => { s with dev := s.dev.senLate i }
    | .ok b =>
      let n := leAt b 16 4
      if 300000 < n ∨ s.dev.get F.CNPY_SEN_RING_BUFSZ.act i * 65536 < 32 + 16 * n then { s with dev := (s.dev.senLate i).errBlk 0x18 7 0 }
      else { s with dev := s.dev.framePost i buf (leAt b 0 8) (leAt b 8 8) }

/-- A change while an access of bank `b` is carried out. -/
def State.asBank (s : State) (b : Nat) (k : State → State) : State :=
  let s := k { s with dev := { s.dev with acc := b } }
  { s with dev := { s.dev with acc := 0 } }

/-- A command whose effect needs memory behind a write access of the channel window. -/
def State.wrCh (s : State) (slot off : Nat) (a : Acc) (k : Nat → State → State) : State :=
  let d := s.dev.wrCh slot off a (fun _ d => d)
  if accCause slot off a true = none ∧ s.dev.var V.softRst slot = 0 ∧ s.dev.chSel slot a < chCnt slot then State.asBank { s with dev := d } a.bank.val (k (s.dev.chSel slot a))
  else { s with dev := d }

/-- As `State.wrCh`, without a channel. -/
def State.wr (s : State) (slot off : Nat) (a : Acc) (k : State → State) : State :=
  let d := s.dev.wr slot off a (fun d => d)
  if accCause slot off a true = none ∧ s.dev.var V.softRst slot = 0 then State.asBank { s with dev := d } a.bank.val k else { s with dev := d }

def execLidarPost (a : Acc) (buf : BitVec 8) (s : State) : Host.Outcome State Fault Refusal :=
  .next (s.wrCh 0x18 0x134 a (fun i s => s.lidarPost i buf.toNat))

/-- SENSOR_SILENT (R198): no frame posted for 3 FPER. -/
def Dev.senSilent (d : Dev) (i : Nat) : Dev :=
  let st := d.get F.CNPY_SEN_STAT_STATE i
  if d.running 0x18 && (st == 1 || st == 2 || st == 3) && d.passed V.senPost i (3 * d.senPer i) then d.senState i 4 2 else d

def execSensorSilent (i : Fin 8) (s : State) : Host.Outcome State Fault Refusal := s.upd (fun d => d.senSilent i)

/-- SENSOR_EN_WRITE (R226): 1 enters ACQ at the next post; 0 enters OFF at once, and queued hand-offs count as LATE. -/
def execSensorEnWrite (a : Acc) (en : Bool) (s : State) : Host.Outcome State Fault Refusal :=
  s.upd (fun d => d.wrCh 0x18 0x100 a (fun i d =>
    let d := d.set F.CNPY_SEN_CFG_EN i (bit en)
    if en then d
    else
      let n := d.hands.countP (fun h => h.sen == i)
      ({ d.senState i 0 0 with hands := d.hands.filter (fun h => h.sen != i),
                               frames := d.frames.filter (fun e => !(e.1.1 == 0 && e.1.2 / 256 == i)) } : Dev).senLate i n)
    (fun i d => d.changes F.CNPY_SEN_CFG_EN i (bit en)))

/-- SENSOR_RECHECK (R198, R226): in CALFAIL the sensor enters CHECK; elsewhere the write is ignored. -/
def execSensorRecheck (a : Acc) (s : State) : Host.Outcome State Fault Refusal :=
  s.upd (fun d => d.wrCh 0x18 0x128 a (fun i d => if d.get F.CNPY_SEN_STAT_STATE i = 5 then d.senState i 2 0 else d))

/-- The bytes of a posted frame as the projection engine reads them (R195, R196); none where the read fails. -/
def State.senData (s : State) (i bank : Nat) (fr : Frame) : State × List Nat :=
  let a := s.dev.bufAt i fr.buf
  let all := fun (s : State) (n : Nat) => (match s.devRead 0x0180 a n with | (s, .ok b) => (s, b) | (s, .error _) => (s, []) : State × List Nat)
  if i < 6 then
    let c := s.dev.cam bank i
    all s (imgBytes (s.dev.get F.CNPY_SEN_CFG_PIXFMT.act i) (c.w * c.h))
  else
    match all s 32 with
    | (s, b) => all s (32 + 16 * min (leAt b 16 4) 300000)

/-- The projection of one sensor's frame onto another's view (R220), each in its bank: what source and target show at every place of the overlap. None for a
camera onto a lidar, for which the rule has no method. -/
def State.project (s : State) (i : Nat) (bi : Nat) (fi : Frame) (k : Nat) (bk : Nat) (fk : Frame) : State × Option (List Match) :=
  let (s, x) := s.senData i bi fi
  let (s, y) := s.senData k bk fk
  let ci := s.dev.cam bi i
  let ck := s.dev.cam bk k
  let fmt := fun (n : Nat) => s.dev.get F.CNPY_SEN_CFG_PIXFMT.act n
  let ok := !x.isEmpty && !y.isEmpty
  (s, if i < 6 ∧ 6 ≤ k then none
    else if !ok then some []
    else if k < 6 then some (if i < 6 then matchCams ci ck (fmt i) (fmt k) x y else matchHits ci ck (fmt k) x y)
    else some (matchRasters (s.dev.raster ci fi.stamp x) (s.dev.raster ck fk.stamp y)))

/-- SCORE of a projection: a free value where the correlation is not defined or the rule gives no method (log entry 174). -/
def Dev.projScore (d : Dev) (l : Option (List Match)) : Int := (l.bind ncc).getD (ofBits 11 (d.freeVal % 2048))

/-- Overlap samples of a projection, saturating at 16 bits; a free value where the rule gives no method. -/
def Dev.projOvl (d : Dev) (l : Option (List Match)) : Nat := match l with | some l => min l.length 65535 | none => Config.free (d.free + 1) % 65536

/-- CALIBRATION_CHECK_DONE (R199, R218, R220): the sensor's frame is projected onto its REF's, each in the bank that was active when the frame was posted. REF,
the frames and CHK_TH are those that stood when the check began. The check passes with SCORE of at least CHK_TH and 10,000 overlap samples. -/
def State.checkDone (s : State) (i : Nat) : State :=
  if s.dev.get F.CNPY_SEN_STAT_STATE i ≠ 2 ∨ s.dev.var V.chkOn i ≠ 1 then s
  else
    let r := (s.dev.var V.chkRef i).toNat
    let fr := fun (n : Nat) => (s.dev.frames.find (n, i)).getD ⟨0, 0, 0, 0, false, false⟩
    let (s, l) := s.project i (fr 3).bank (fr 3) r (fr 4).bank (fr 4)
    let score := s.dev.projScore l
    let ovl := s.dev.projOvl l
    let d := (((({ s.dev with free := s.dev.free + 2 } : Dev).setI F.CNPY_SEN_CHK_SCORE i score).set F.CNPY_SEN_CHK_OVL i ovl).irq 0x18 4).setVar V.chkOn i 0
    { s with dev := (if ovl < 10000 then d.senState i 5 4 else if score < d.var V.chkThV i then d.senState i 5 3 else d.senState i 3 0).projGo }

def execCalibrationCheckDone (i : Fin 8) (_ _ : Unit) (s : State) : Host.Outcome State Fault Refusal := .next (s.checkDone i)

/-- CHECK_NOREF (R199): no usable bin within 100 bins. -/
def Dev.checkNoref (d : Dev) (i : Nat) : Dev :=
  if d.get F.CNPY_SEN_STAT_STATE i == 2 && d.var V.chkOn i != 1 && decide (100 ≤ d.var V.chkBins i) then d.senState i 5 5 else d

def execCheckNoref (i : Fin 8) (s : State) : Host.Outcome State Fault Refusal := s.upd (fun d => d.checkNoref i)

/-- BANK_SWAP_REQUEST (R218): PEND sets for each named sensor; a sensor whose PEND is already 1 is left as it is. -/
def execBankSwapRequest (a : Acc) (mask : BitVec 8) (s : State) : Host.Outcome State Fault Refusal :=
  s.upd (fun d => d.wr 0x18 0x850 a (fun d => d.each ((List.range 8).filter (fun i => tbit mask.toNat i)) (fun i d => d.set F.CNPY_SEN_BANK_PEND i 1)))

/-! ### The grid -/

/-- IOVA of a cell's storage (R208). -/
def Dev.cellAt (d : Dev) (row col : Nat) : Nat := d.get F.CNPY_GRID_BASE.act 0 / 4096 * 4096 + (row * 400 + col) * 128

/-- Storage row and column of cell (i, j) (R208). -/
def Dev.cellRow (d : Dev) (j : Nat) : Nat := (j + (d.var V.gridOy 0).toNat) % 400

def Dev.cellCol (d : Dev) (i : Nat) : Nat := (i + (d.var V.gridOx 0).toNat) % 400

/-- A channel of a stored cell. -/
def State.cellGet (s : State) (row col ch : Nat) : Nat := ofLe (s.devPeek 0x0180 (s.dev.cellAt row col + 2 * ch) 2)

/-- CNPY writes to the grid or the header ring. The first failure of an update sets FAULT, is reported and stops the header ring (R225, R228). -/
def State.gridPut (s : State) (addr : Nat) (l : List Nat) : State :=
  match s.devWrite 0x0180 addr l with
  | (s, none) => s
  | (s, some _) =>
    if s.dev.var V.gridFlt 0 = 1 then s
    else { s with dev := (((s.dev.setVar V.gridFlt 0 1).set F.COM_STAT_FAULT 0x18 1).setVar V.hdrStop 0 1).errBlk 0x18 9 1 }

/-- A stored cell is cleared: every channel 0, STATUS NEW (R209). -/
def State.cellClear (s : State) (row col : Nat) : State :=
  s.gridPut (s.dev.cellAt row col) (List.replicate 126 0 ++ leBytes 2 0x0800)

/-- Does something for every element of a list. -/
def State.each {α : Type} (s : State) (l : List α) (k : α → State → State) : State := l.foldl (fun a x => k x a) s

/-- Step 1 of an update (R209): the scroll by whole cells, or the clear. SUBX and SUBY stay within half a cell. -/
def State.gridScroll (s : State) : State :=
  let d := s.dev
  let x := d.getI F.EGO_X_POS 0
  let y := d.getI F.EGO_Y_POS 0
  let sx := (x - d.var V.gridXA 0 + 500) / 1000
  let sy := (y - d.var V.gridYA 0 + 500) / 1000
  let all := d.var V.gridClr 0 == 1 || decide (40 < |sx|) || decide (40 < |sy|)
  let d := ((d.setVar V.gridXA 0 (d.var V.gridXA 0 + 1000 * sx)).setVar V.gridYA 0 (d.var V.gridYA 0 + 1000 * sy)).setVar V.gridOx 0
    ((d.var V.gridOx 0 + sx) % 400)
  let d := d.setVar V.gridOy 0 ((d.var V.gridOy 0 + sy) % 400)
  let d := ((((d.setVar V.gridSx 0 sx).setVar V.gridSy 0 sy).setVar V.gridCleared 0 (bit all)).setVar V.gridClr 0 0).setVar V.gridInv 0 0
  let s : State := { s with dev := d }
  if all then s.each (List.range 400) (fun r s => s.each (List.range 400) (fun c s => s.cellClear r c))
  else
    let cols := if 0 ≤ sx then (List.range sx.toNat).map (fun k => 399 - k) else List.range (-sx).toNat
    let rows := if 0 ≤ sy then (List.range sy.toNat).map (fun k => 399 - k) else List.range (-sy).toNat
    let s := s.each cols (fun i s => s.each (List.range 400) (fun j s => s.cellClear (s.dev.cellRow j) (s.dev.cellCol i)))
    s.each rows (fun j s => s.each (List.range 400) (fun i s => s.cellClear (s.dev.cellRow j) (s.dev.cellCol i)))

/-- Rows of a tensor in DRAM; none where a read fails. -/
def State.rows (s : State) (base str len n : Nat) : State × Option (List (List Nat)) :=
  match n with
  | 0 => (s, some [])
  | k + 1 => match s.devRead 0x0180 base len with
    | (s, .error _) => (s, none)
    | (s, .ok b) => match State.rows s (base + str) str len k with
      | (s, some l) => (s, some (b :: l))
      | (s, none) => (s, none)

/-- The observations of a hand-off (R210, R211); none where its data cannot be read: then it is not fused and counts as LATE (log entry 174). -/
def State.handObs (s : State) (h : Hand) : State × Option (List CellObs) :=
  let i := h.sen
  if 6 ≤ i then
    match s.senData i h.fr.bank h.fr with
    | (s, b) => if b.isEmpty then ({ s with dev := s.dev.senLate i }, none) else (s, some (s.dev.lidarObs i h.fr.bank h.fr.stamp b))
  else
    let w := s.dev.get F.CNPY_SEN_FMAP_FW.act i
    let fh := s.dev.get F.CNPY_SEN_FMAP_FH.act i
    let fc := s.dev.get F.CNPY_SEN_FMAP_FC.act i
    let deep := s.dev.get F.CNPY_SEN_CFG_DEPTH.act i == 1
    match s.rows h.feat h.featStr (2 * w * fc) fh with
    | (s, none) => ({ s with dev := s.dev.senLate i }, none)
    | (s, some f) =>
      match s.rows h.depth h.depthStr (2 * w) (if deep then fh else 0) with
      | (s, none) => ({ s with dev := s.dev.senLate i }, none)
      | (s, some z) =>
        (s, some (s.dev.cameraObs i h.fr.bank h.fr.stamp (fun v u k => leAt (f.getD v []) (2 * (u * fc + k)) 2)
          (fun v u _ => leAt (z.getD v []) (2 * u) 2)))

/-- The sensors whose hand-offs of a bin could be read, and their observations, in the order of the hand-offs. -/
def State.binObs (s : State) (l : List Hand) : State × List Nat × List CellObs :=
  match l with
  | [] => (s, [], [])
  | h :: t => match s.handObs h with
    | (s, none) => State.binObs s t
    | (s, some o) => match State.binObs s t with
      | (s, fs, r) => (s, h.sen :: fs, o ++ r)

/-- The observations that one sensor has made of one cell in a bin, as one source's: their pixels or points together, and their weighted mean in each channel
(R212, R213). -/
def CellObs.join (o : CellObs) (l : List CellObs) : CellObs :=
  let n := (l.map (·.n)).sum
  ⟨o.i, o.j, o.sen, n, o.chans.map (fun c =>
    let vs := l.map (fun x => (((x.chans.find? (fun y => y.1 == c.1)).map (·.2)).getD none).map (fun v => (x.n : ℚ) * v))
    (c.1, if vs.any (·.isNone) then none else some (sumQ (vs.map (·.getD 0)) / (n : ℚ))))⟩

/-- Observations of a bin with one source a sensor and cell, in the order of their first. -/
def joinObs (l : List CellObs) : List CellObs :=
  match l with
  | [] => []
  | o :: t =>
    let r := joinObs t
    let same := fun (x : CellObs) => x.sen == o.sen && x.i == o.i && x.j == o.j
    if r.any same then o.join (o :: r.filter same) :: r.filter (fun x => !same x) else o :: r

/-- Pixels of the cameras and points of the lidars among observations. -/
def obsPixels (l : List CellObs) : Nat := (l.filter (fun o => o.sen < 6)).foldl (fun n o => n + o.n) 0

def obsPoints (l : List CellObs) : Nat := (l.filter (fun o => 6 ≤ o.sen)).foldl (fun n o => n + o.n) 0

/-- A source's value of a channel in a cell: none where it does not observe it. -/
def CellObs.val (o : CellObs) (ch : Nat) : Option (Option ℚ) := (o.chans.find? (fun c => c.1 == ch)).map (·.2)

/-- The value of a channel of a cell after the bin (R212), from its value before: the sources' average, weighted by their pixels or points, taken at once by a
NEW cell and for channel 48, the count in the last observation (R207), and approached by ALPHA else. What is not finite gives a NaN (log entry 14). -/
def Dev.fuseChannel (d : Dev) (l : List CellObs) (fresh : Bool) (ch old : Nat) : Nat :=
  let xs := l.filterMap (fun o => (o.val ch).map (fun v => (o, v)))
  if xs.isEmpty then old
  else if xs.any (fun x => x.2.isNone) then 0x7E00
  else
    let n : ℚ := sumQ (xs.map (fun x => (x.1.n : ℚ)))
    let avg := sumQ (xs.map (fun x => (x.1.n : ℚ) * x.2.getD 0)) / n
    if fresh ∨ ch = 48 then toF16q avg
    else match f16q old with
      | none => 0x7E00
      | some f =>
        let tot : ℚ := sumQ (l.map (fun o => (o.n : ℚ)))
        let a := sumQ (l.map (fun o => ((o.n * d.get F.CNPY_SEN_CFG_ALPHA.act o.sen : Nat) : ℚ))) / (256 * tot)
        toF16q (f + a * (avg - f))

/-- Confidence of one source in a cell (R212, R213). -/
def obsConf (o : CellObs) : Nat := min 15 (if o.sen < 6 then o.n else o.n / 4)

/-- The channel that is compared for a sensor (R213, R219): CMPCH of a camera, 51 of a lidar. -/
def Dev.cmpCh (d : Dev) (sen : Nat) : Nat := if sen < 6 then d.get F.CNPY_CONT_CFG_CMPCH 0 else 51

/-- The quantity that R213 compares, where the source's CONF reaches CONF_MIN. -/
def Dev.obsCmp (d : Dev) (o : CellObs) : Option ℚ :=
  if obsConf o < d.get F.CNPY_CONT_CFG_CONF_MIN 0 then none else (o.val (d.cmpCh o.sen)).getD none

/-- CONTESTED and CONTCLR of a cell after the bin (R213). -/
def Dev.contest (d : Dev) (l : List CellObs) (was : Bool) (clr : Nat) : Bool × Nat :=
  let xs := l.filterMap d.obsCmp
  match xs with
  | a :: b :: t =>
    let mx := (b :: t).foldl max a
    let mn := (b :: t).foldl min a
    if (f16q (d.get F.CNPY_CONT_CFG_CONT_TH 0)).getD 0 < mx - mn then (true, 0)
    else
      let k := min 15 (clr + 1)
      (was && decide (k < max 1 (d.get F.CNPY_CONT_CFG_CONT_CLR 0)), k)
  | _ => (was, clr)

/-- A cell takes the observations of the bin (R212, R213). -/
def State.fuseCell (s : State) (i j : Nat) (l : List CellObs) : State :=
  let r := s.dev.cellRow j
  let c := s.dev.cellCol i
  let st := s.cellGet r c 63
  let src := s.cellGet r c 62
  let s := s.each (List.range 54) (fun ch s =>
    if l.any (fun o => o.chans.any (fun x => x.1 == ch)) then
      s.gridPut (s.dev.cellAt r c + 2 * ch) (leBytes 2 (s.dev.fuseChannel l (tbit st 11) ch (s.cellGet r c ch)))
    else s)
  let k := s.dev.contest l (tbit st 10) (src / 256 % 16)
  let sens := (List.range 8).foldl (fun a x => a + bit (l.any (fun o => o.sen == x)) * 2 ^ x) 0
  let conf := min 15 (max (obsPixels l) (obsPoints l / 4))
  let s := s.gridPut (s.dev.cellAt r c + 124) (leBytes 2 (sens + 256 * k.2))
  s.gridPut (s.dev.cellAt r c + 126) (leBytes 2 (s.dev.get F.CNPY_GSEQ_SEQ 0 / 2 % 1024 + 1024 * bit k.1 + 4096 * conf))

/-- The sensors whose hand-offs of the bin are fused: IN, with FUSE at 1, and for a camera with feature channels (R209, R226). -/
def Dev.fusedSens (d : Dev) (tk : Int) : List Nat :=
  (List.range 8).filter (fun i => d.get F.CNPY_SEN_STAT_STATE i == 3 && d.on F.CNPY_SEN_CFG_FUSE.act i &&
    (decide (6 ≤ i) || d.get F.CNPY_SEN_FMAP_FC.act i != 0) && d.hands.any (fun h => h.sen == i && d.inBin tk h.fr.stamp))

/-- What the residual estimator compares for one observation (R219): with the grid before the bin is fused, and with the observation of the sensor's REF in the
same cell, where both sides have CONF of at least CONF_MIN. Differences in 2^-24 m. -/
def State.residuals (s : State) (obs : List CellObs) (o : CellObs) : List (Int × Int) :=
  let d := s.dev
  match d.obsCmp o with
  | none => []
  | some v =>
    let key : Int := o.i * 400 + o.j
    let diff := fun (w : ℚ) => (key, nearest ((v - w) * 16777216))
    let st := s.cellGet (d.cellRow o.j) (d.cellCol o.i) 63
    let grid := if tbit st 11 ∨ st / 4096 < d.get F.CNPY_CONT_CFG_CONF_MIN 0 then none
      else f16q (s.cellGet (d.cellRow o.j) (d.cellCol o.i) (d.cmpCh o.sen))
    let ref := obs.filter (fun x => x.sen == d.get F.CNPY_SEN_CFG_REF.act o.sen && x.sen != o.sen && x.i == o.i && x.j == o.j)
    (match grid with | some w => [diff w] | none => []) ++ (ref.filterMap d.obsCmp).map diff

/-- The bin's comparisons of a sensor enter its sums (R219; history 20). -/
def State.residualBin (s : State) (obs : List CellObs) (i : Nat) : State :=
  let ls := ((obs.filter (fun o => o.sen == i)).map (s.residuals obs)).filter (fun l => !l.isEmpty)
  let d := (s.dev.setVar V.resBins i (s.dev.var V.resBins i + 1)).setVar V.resCells i (s.dev.var V.resCells i + ls.length)
  { s with dev := d.setPast 20 i (d.past 20 i ++ ls.flatten) }

/-- Step 2 and 3 (R210 to R213), with the residual estimator on the grid as step 1 has left it (R219). A sensor is fused where one of its hand-offs could be
read (R214). -/
def State.gridFuse (s : State) (tk : Int) : State :=
  let fs := s.dev.fusedSens tk
  let hs := s.dev.hands.filter (fun h => fs.contains h.sen && s.dev.inBin tk h.fr.stamp)
  match s.binObs hs with
  | (s, ok, obs) =>
    let fs := fs.filter (fun i => ok.contains i)
    let obs := if ok.Nodup then obs else joinObs obs
    let s : State := { s with dev := s.dev.each fs (fun i a => a.setVar V.gridFused 0 (a.var V.gridFused 0 + (2 ^ i : Nat))) }
    let s := s.each (if s.dev.on F.CNPY_RES_CFG_EN.act 0 then fs else []) (fun i s => s.residualBin obs i)
    s.each (obs.map (fun o => (o.i, o.j))).dedup (fun x s => s.fuseCell x.1 x.2 (obs.filter (fun o => o.i == x.1 && o.j == x.2)))

/-- Step 4, the expiry sweep (R209). -/
def State.gridSweep (s : State) : State :=
  let g := (s.dev.var V.gridSweep 0).toNat
  let q := s.dev.get F.CNPY_GSEQ_SEQ 0 / 2
  let s := s.each (List.range 25) (fun r s => s.each (List.range 400) (fun c s =>
    let st := s.cellGet (25 * g + r) c 63
    if 512 ≤ (q + 1024 - st % 1024) % 1024 then
      (s.gridPut (s.dev.cellAt (25 * g + r) c) (List.replicate 112 0)).gridPut (s.dev.cellAt (25 * g + r) c + 126)
        (leBytes 2 (if tbit st 11 then st else st + 0x0800))
    else s))
  { s with dev := s.dev.setVar V.gridSweep 0 (((g + 1) % 16 : Nat) : Int) }

/-- An in-step frame of a sensor that stands posted and whose STAMP lies in the bin. -/
def Dev.stepFrame (d : Dev) (tk : Int) (i : Nat) : Option Frame :=
  (d.frames.find? (fun e => e.1.1 == 0 && e.1.2 / 256 == i && e.2.ok && !e.2.old && d.inBin tk e.2.stamp)).map (·.2)

/-- The checks of R199 at a bin: a check starts on the first bin in which both sensors have an in-step posted frame, REF in ACQ, CHECK or IN. It takes REF,
those two frames and CHK_TH as they stand. -/
def Dev.gridChecks (d : Dev) (tk : Int) : Dev :=
  d.each ((List.range 8).filter (fun i => d.get F.CNPY_SEN_STAT_STATE i == 2 && d.var V.chkOn i == 0)) (fun i a =>
    let r := a.get F.CNPY_SEN_CFG_REF.act i
    let rs := a.get F.CNPY_SEN_STAT_STATE r
    match a.stepFrame tk i, a.stepFrame tk r with
    | some x, some y =>
      if r ≠ i ∧ 1 ≤ rs ∧ rs ≤ 3 then
        ((({ a with frames := (a.frames.put (3, i) x).put (4, i) y } : Dev).setVar V.chkOn i 1).setVar V.chkRef i r).setVar V.chkThV i
          (a.get F.CNPY_CHK_CFG_CHK_TH 0)
      else a.setVar V.chkBins i (a.var V.chkBins i + 1)
    | _, _ => a.setVar V.chkBins i (a.var V.chkBins i + 1))

/-- After the update at `tk` only hand-offs of later bins wait. -/
def Dev.handsLeft (d : Dev) (tk : Int) : Dev := { d with hands := d.hands.filter (fun h => decide (2 * d.binAt tk + d.gper ≤ 2 * h.fr.stamp)) }

/-- Hand-offs of the bin whose STAMP lies more than 1,024 ms before Tk are not fused and count as LATE (R212). -/
def Dev.handsOld (d : Dev) (tk : Int) : Dev :=
  let late := d.hands.filter (fun h => d.inBin tk h.fr.stamp && decide ((h.fr.stamp : Int) < tk - 1024000000))
  late.foldl (fun a h => a.senLate h.sen)
    { d with hands := d.hands.filter (fun h => !(d.inBin tk h.fr.stamp && decide ((h.fr.stamp : Int) < tk - 1024000000))) }

/-- GRID_UPDATE (R209, R216, R219, R221): at Tk the update of the bin starts; where the last one has not completed it is skipped and its
hand-offs count as LATE. With CHECKONLY only the checks run. CROP's time to sample after the last GRIDDONE ends here (R215), and this is the boundary of
CNPY's RWS fields (R64). -/
def State.gridUpdate (s : State) : State :=
  let tk := s.dev.var V.nextTk 0
  if !s.dev.running 0x18 || decide (tk < 0) || decide (s.dev.var V.grove 0 < tk * 65536) then s
  else
    let d := (((s.dev.setVar V.nextTk 0 (tk + s.dev.gper)).setVar V.gridNew 0 0).gridChecks tk).boundary 0x18 wideUnit
    if d.get F.COM_CTRL_MODE 0x18 = 1 then { s with dev := (d.setVar V.gridTk 0 tk).handsLeft tk }
    else if d.get F.CNPY_GSEQ_SEQ 0 % 2 = 1 then
      let late := d.hands.filter (fun h => d.inBin tk h.fr.stamp)
      let d := d.handsLeft tk
      let d := late.foldl (fun a h => a.senLate h.sen) d
      { s with dev := ((d.incSat F.CNPY_UPDSTAT_OVR 0).irq 0x18 8).errBlk 0x18 4 1 }
    else
      let d := ((((d.handsOld tk).setVar V.gridTk 0 tk).incWrap F.CNPY_GSEQ_SEQ 0).mark V.gridAt 0).setVar V.resLast 0 (d.binAt tk)
      let d := (((d.setVar V.gridFused 0 0).setVar V.gridFlt 0 0).setVar V.gridCleared 0 0).setVar V.gridExcl 0 (d.get F.CNPY_EXCL_MASK 0)
      let d := ((d.setVar V.gridDist 0 (d.getI F.EGO_DIST_DIST 0)).setVar V.gridV 0 (d.getI F.EGO_SPEED_V 0)).setVar V.gridW 0 (d.getI F.EGO_YAWRATE_W 0)
      let d := ((d.setVar V.gridPx 0 (d.getI F.EGO_X_POS 0)).setVar V.gridPy 0 (d.getI F.EGO_Y_POS 0)).setVar V.gridPsi 0 (d.get F.EGO_YAW_YAW 0)
      let s : State := { s with dev := d }
      let s : State := (if d.on F.EGO_STAT_VALID 0 then s.gridScroll.gridFuse tk
        else { s with dev := ((d.setVar V.gridInv 0 1).setVar V.gridSx 0 0).setVar V.gridSy 0 0 }).gridSweep
      { s with dev := s.dev.handsLeft tk }

def execGridUpdate (_ : Unit) (s : State) : Host.Outcome State Fault Refusal := .next s.gridUpdate

/-- Contested cells of the grid. -/
def State.contested (s : State) : Nat :=
  (List.range 400).foldl (fun n r => n + (List.range 400).countP (fun c => tbit (s.cellGet r c 63) 10)) 0

/-- The header record of an update (R214). -/
def State.gridHeader (s : State) (dur : Nat) : List Nat :=
  let d := s.dev
  leBytes 8 (d.var V.gridTk 0).toNat ++ leBytes 4 (d.get F.CNPY_GSEQ_SEQ 0 + 1) ++ leBytes 2 (d.var V.gridOx 0).toNat ++
  leBytes 2 (d.var V.gridOy 0).toNat ++ leBytes 4 (toBits 32 (d.var V.gridPx 0)) ++ leBytes 4 (toBits 32 (d.var V.gridPy 0)) ++
  leBytes 4 (toBits 32 (d.var V.gridPsi 0)) ++ leBytes 2 (toBits 16 (d.var V.gridPx 0 - d.var V.gridXA 0)) ++
  leBytes 2 (toBits 16 (d.var V.gridPy 0 - d.var V.gridYA 0)) ++
  [(d.var V.gridFused 0).toNat, (d.var V.gridExcl 0).toNat,
    (d.var V.gridCleared 0 + 2 * d.var V.gridInv 0 + 4 * bit ((d.past 19 0).any (fun e => d.inBin (d.var V.gridTk 0) e.1))).toNat, 0] ++
  leBytes 4 s.contested ++ leBytes 2 (toBits 16 (d.var V.gridSx 0)) ++ leBytes 2 (toBits 16 (d.var V.gridSy 0)) ++ leBytes 4 dur ++
  List.replicate 16 0

/-- GRID_UPDATE_DONE (R209, R214, R225, R227, R228): unless a fault has stopped the header ring, the header record is written and CNPY_ORG shows its origin; GSEQ
turns even and GRIDDONE sets. FAULT clears where the update has completed whole. -/
def State.gridDone (s : State) : State :=
  if s.dev.get F.CNPY_GSEQ_SEQ 0 % 2 = 0 then s
  else
    let dur := (s.dev.since V.gridAt 0 / 65536000).toNat
    let n := max 2 (s.dev.get F.CNPY_HDR_CFG_NHDR.act 0)
    let k := (s.dev.var V.hdrWr 0).toNat % n
    let s := if s.dev.var V.hdrStop 0 = 1 then s
      else
        let d := s.dev
        let s : State := { s with dev := (d.set F.CNPY_ORG_ORGX 0 (d.var V.gridOx 0).toNat).set F.CNPY_ORG_ORGY 0 (d.var V.gridOy 0).toNat }
        let s := s.gridPut (s.dev.get F.CNPY_HDR_BASE.act 0 / 4096 * 4096 + 64 * k) (s.gridHeader dur)
        { s with dev := s.dev.setVar V.hdrWr 0 (((k + 1) % n : Nat) : Int) }
    let d := (((s.dev.incWrap F.CNPY_GSEQ_SEQ 0).set F.CNPY_UPDSTAT_DUR 0 (min dur 65535)).setPast 19 0
      ((s.dev.past 19 0).filter (fun e => decide (2 * s.dev.binAt (s.dev.var V.gridTk 0) + s.dev.gper ≤ 2 * e.1)))).irq 0x18 0
    let d := (d.setVar V.gridNew 0 1).mark V.gridDoneAt 0
    { s with dev := if d.var V.gridFlt 0 = 1 then d else d.set F.COM_STAT_FAULT 0x18 0 }

def execGridUpdateDone (s : State) : Host.Outcome State Fault Refusal := .next s.gridDone

/-- RESIDUAL_RECORD (R219): after NACC bins the estimator writes a sensor's record. How it finds the corrections from the differences the spec does not say
(Config.residual, log entry 175). -/
def Dev.residual (d : Dev) (i : Nat) : Dev :=
  let n := max 1 (d.get F.CNPY_RES_CFG_NACC.act 0)
  let b := (d.var V.resBins i).toNat
  if !(d.running 0x18 && d.on F.CNPY_RES_CFG_EN.act 0) || decide (b < n) then d
  else
    let r := Config.residual (d.past 20 i)
    let d := (d.incWrap F.CRES_SEQ_V i).set F.CRES_INFO_V i (bit (decide ((2000 : Int) * b ≤ d.var V.resCells i)) + min b 255 * 256 +
      min (r 6).toNat 65535 * 65536)
    let d := (((d.setI F.CRES_DROLL_V i (r 0)).setI F.CRES_DPITCH_V i (r 1)).setI F.CRES_DYAW_V i (r 2)).setI F.CRES_DX_V i (r 3)
    let d := ((d.setI F.CRES_DY_V i (r 4)).setI F.CRES_DZ_V i (r 5)).setI F.CRES_TK_V i (d.var V.resLast 0 / 1000000)
    (((d.setVar V.resBins i 0).setVar V.resCells i 0).setPast 20 i []).irq 0x18 6

def execResidualRecord (i : Fin 8) (_ : Unit) (s : State) : Host.Outcome State Fault Refusal := s.upd (fun d => d.residual i)

/-- PROJECTION_GO (R221): a GO queues a software job; while one is pending it is ignored with BCODE 0x2. -/
def execProjectionGo (a : Acc) (v : BitVec 32) (s : State) : Host.Outcome State Fault Refusal :=
  s.upd (fun d => d.wr 0x18 0x860 a (fun d =>
    if d.get F.CNPY_HP_STAT_ST 0 = 1 ∨ d.get F.CNPY_HP_STAT_ST 0 = 2 then d.errBlk 0x18 2 0
    else
      let d := (((d.set F.CNPY_HP_CTRL_SBUF 0 (v.toNat / 2 ^ 24)).set F.CNPY_HP_CTRL_DBUF 0 (v.toNat / 2 ^ 16)).set F.CNPY_HP_CTRL_SRC 0
        (v.toNat / 2 ^ 8)).set F.CNPY_HP_CTRL_DST 0 (v.toNat / 16)
      ((d.set F.CNPY_HP_CTRL_BANK 0 (v.toNat / 2)).set F.CNPY_HP_STAT_ST 0 1).projGo))

/-- The image of a projection (R221): at each place of the target what the source shows there, as 8-bit luminance. A place that the source does not reach takes
a free value (log entry 174). -/
def Dev.projImage (d : Dev) (src dst n : Nat) (l : List Match) : List Nat :=
  (List.range n).map (fun k => match l.find? (fun m => m.1 == k) with
    | some m => if 6 ≤ src ∧ 6 ≤ dst then Config.heightLum m.2.1 % 256 else (clamp 0 255 (nearest m.2.1)).toNat
    | none => Config.free (d.free + 2 + k) % 256)

/-- PROJECTION_DONE (R220, R221): the job projects the named frames in the named bank and writes its result, and its image where HP_OUT is not 0. -/
def State.projDone (s : State) : State :=
  if s.dev.get F.CNPY_HP_STAT_ST 0 ≠ 2 then s
  else
    let src := s.dev.get F.CNPY_HP_CTRL_SRC 0
    let dst := s.dev.get F.CNPY_HP_CTRL_DST 0
    let bank := s.dev.get F.CNPY_HP_CTRL_BANK 0
    let fr := fun (i buf : Nat) => (s.dev.frames.find (0, 256 * i + buf)).getD ⟨buf, 0, 0, bank, false, false⟩
    let (s, l) := s.project src bank (fr src (s.dev.get F.CNPY_HP_CTRL_SBUF 0)) dst bank (fr dst (s.dev.get F.CNPY_HP_CTRL_DBUF 0))
    let score := s.dev.projScore l
    let ovl := s.dev.projOvl l
    let c := s.dev.cam bank dst
    let n := if 6 ≤ dst then 160000 else c.w * c.h
    let s := if s.dev.get F.CNPY_HP_OUT_BASE 0 = 0 then s
      else (s.devWrite 0x0180 (s.dev.get F.CNPY_HP_OUT_BASE 0) (s.dev.projImage src dst n (l.getD []))).1
    { s with dev := (((({ s.dev with free := s.dev.free + 2 + n } : Dev).set F.CNPY_HP_STAT_ST 0 3).setI F.CNPY_HP_STAT_SCORE 0 score).set
        F.CNPY_HP_STAT_OVL 0 ovl).irq 0x18 5 }

def execProjectionDone (_ _ _ : Unit) (s : State) : Host.Outcome State Fault Refusal := .next s.projDone

/-- GRID_CLEAR (R209, R227, R228): the next update clears the whole grid, and a stopped header ring goes on. -/
def execGridClear (a : Acc) (s : State) : Host.Outcome State Fault Refusal :=
  s.upd (fun d => d.wr 0x18 0x880 a (fun d => (d.setVar V.gridClr 0 1).setVar V.hdrStop 0 0))

/-! ### NPU -/

/-- NPU_JOB_GO (R223, R231): a software job in IDLE or DONE is queued; in QUEUED or RUN the write is refused with BCODE 0x1. -/
def execNpuJobGo (a : Acc) (j : Fin 64) (s : State) : Host.Outcome State Fault Refusal :=
  s.upd (fun d => d.wr 0x1A (0x1000 + 0x40 * j.val) a (fun d =>
    let st := d.get F.JOB_STAT_STATE j
    let t := d.get F.JOB_CFG_TRIG j
    if st = 2 ∨ st = 3 then d.errBlk 0x1A 1 0
    else if (t = 0 ∨ t = 7) ∧ (st = 0 ∨ st = 4) then d.set F.JOB_STAT_STATE j 2 else d))

/-- NPU_JOB_ENABLE (R223, R231): EN arms a triggered job; 0 makes an ARMED or QUEUED job IDLE. -/
def execNpuJobEnable (a : Acc) (j : Fin 64) (en : Bool) (s : State) : Host.Outcome State Fault Refusal :=
  s.upd (fun d => d.wr 0x1A (0x1000 + 0x40 * j.val) a (fun d =>
    let d := d.set F.JOB_CFG_EN j (bit en)
    let st := d.get F.JOB_STAT_STATE j
    let t := d.get F.JOB_CFG_TRIG j
    if en then (if 1 ≤ t ∧ t ≤ 6 ∧ st ≠ 2 ∧ st ≠ 3 then d.set F.JOB_STAT_STATE j 1 else d)
    else if st = 1 ∨ st = 2 then d.set F.JOB_STAT_STATE j 0 else d) (d.changes F.JOB_CFG_EN j (bit en)))

/-- The queued job that runs next (R223): the highest PRIO, ties by the lowest slot. -/
def Dev.jobNext (d : Dev) : Option Nat :=
  (List.range 64).foldl (fun b j =>
    if d.get F.JOB_STAT_STATE j ≠ 2 then b
    else match b with
      | none => some j
      | some x => if d.get F.JOB_CFG_PRIO x < d.get F.JOB_CFG_PRIO j then some j else some x) none

/-- The running job ends with a state and an ERRC. Its busy time stays known for a second (R231). -/
def Dev.jobEnd (d : Dev) (j st errc : Nat) : Dev :=
  let d := (((d.set F.JOB_STAT_STATE j st).set F.JOB_STAT_ERRC j errc).set F.JOB_TEND_T j d.now.toNat).setVar V.npuJob 0 (-1)
  let d := (d.set F.NPU_RUNJOB_RUNNING 0 0).setPast 4 0 ((d.var V.npuAt 0, d.var V.uptime 0) :: d.past 4 0)
  let t0 := d.var V.uptime 0 - 65536000000000
  let d := (d.setPast 4 0 ((d.past 4 0).filter (fun e => decide (t0 < e.2)))).when (st != 4) (fun a => a.irq 0x1A 1)
  if d.var V.jobNextOk j = 1 ∧ d.on F.JOB_CFG_EN j then
    let fr := (d.frames.find (2, j)).getD ⟨0, 0, 0, 0, false, false⟩
    ({ d with frames := d.frames.put (1, j) fr }.setVar V.jobNextOk j 0).set F.JOB_STAT_STATE j 2
  else d.setVar V.jobNextOk j 0

/-- What is wrong with a job's program image and argument block (R222, R231), by ERRC. -/
def State.jobCheck (s : State) (j : Nat) : State × Option Nat :=
  match s.devRead 0x01A0 (s.dev.get F.JOB_PROG_PROG j) 64 with
  | (s, .error _) => (s, some 5)
  | (s, .ok h) =>
    if leAt h 0 4 ≠ 0x55504E4B then (s, some 1)
    else if leAt h 4 2 ≠ 3 then (s, some 2)
    else if 25165824 < leAt h 12 4 then (s, some 4)
    else match s.devRead 0x01A0 (s.dev.get F.JOB_PROG_PROG j) (leAt h 8 4) with
      | (s, .error _) => (s, some 5)
      | (s, .ok p) =>
        if crc32c (p.drop 64) ≠ leAt h 60 4 then (s, some 3)
        else match s.devRead 0x01A0 (s.dev.get F.JOB_ARGS_ARGS j) 8 with
          | (s, .error _) => (s, some 5)
          | (s, .ok a) =>
            let ni := leAt a 0 1
            let no := leAt a 1 1
            if ni ≠ leAt h 16 1 ∨ no ≠ leAt h 17 1 ∨ ni = 0 ∨ 8 < ni ∨ no = 0 ∨ 8 < no then (s, some 6) else (s, none)

/-- Rows of a tensor and the bytes of each (R222): H rows of W * C elements in HWC, C * H rows of W in CHW. -/
def tensorRows (b : List Nat) : Nat × Nat :=
  let e := match leAt b 14 1 with | 0 => 1 | 1 => 1 | 2 => 2 | _ => 4
  if leAt b 15 1 = 0 then (leAt b 10 2, leAt b 8 2 * leAt b 12 2 * e) else (leAt b 12 2 * leAt b 10 2, leAt b 8 2 * e)

/-- The NPU reads the rows of a tensor; whether it can. -/
def State.tensorRead (s : State) (base str len n : Nat) : State × Bool :=
  match n with
  | 0 => (s, true)
  | k + 1 => match s.devRead 0x01A0 base len with
    | (s, .error _) => (s, false)
    | (s, .ok _) => State.tensorRead s (base + str) str len k

/-- The NPU writes the rows of a tensor, row after row at its stride; whether it can. -/
def State.tensorWrite (s : State) (base str len n : Nat) (l : List Nat) : State × Bool :=
  match n with
  | 0 => (s, true)
  | k + 1 => match s.devWrite 0x01A0 base (padTo len l) with
    | (s, some _) => (s, false)
    | (s, none) => State.tensorWrite s (base + str) str len k (l.drop len)

/-- The inputs of a job are read (R222, R223): descriptors `k` on of `n`; a triggered job's input 0 lies in its frame's buffer. What the network makes of
them is an operand of NPU_JOB_DONE (log entry 176). -/
def State.jobInputs (s : State) (j k n : Nat) : State × Bool :=
  match n with
  | 0 => (s, true)
  | m + 1 => match s.devRead 0x01A0 (s.dev.get F.JOB_ARGS_ARGS j + 8 + 32 * k) 32 with
    | (s, .error _) => (s, false)
    | (s, .ok b) =>
      let t := s.dev.get F.JOB_CFG_TRIG j
      let fr := (s.dev.frames.find (1, j)).getD ⟨0, 0, 0, 0, false, false⟩
      let a := if k = 0 ∧ 1 ≤ t ∧ t ≤ 6 then s.dev.bufAt (t - 1) fr.buf else leAt b 0 8
      match s.tensorRead a (leAt b 16 4) (tensorRows b).2 (tensorRows b).1 with
      | (s, false) => (s, false)
      | (s, true) => State.jobInputs s j (k + 1) m

/-- A queued job becomes the running one; a triggered one shows the STAMP of its frame (R223). -/
def Dev.jobBegin (d : Dev) (j : Nat) : Dev :=
  let fr := (d.frames.find (1, j)).getD ⟨0, 0, 0, 0, false, false⟩
  let t := d.get F.JOB_CFG_TRIG j
  let e := ((((d.set F.JOB_STAT_STATE j 3).set F.JOB_STAT_ERRC j 0).set F.JOB_TSTART_T j d.now.toNat).setVar V.npuJob 0 j).mark V.npuAt 0
  let e := (e.set F.NPU_RUNJOB_RUNNING 0 1).set F.NPU_RUNJOB_JOB 0 j
  if 1 ≤ t ∧ t ≤ 6 then e.set F.JOB_STAMP_STAMP j fr.stamp else e

/-- NPU_JOB_START (R222, R223): the idle NPU starts the next queued job and reads its inputs; an image or argument block that is wrong, or an access that fails,
ends it in FAULT. -/
def State.jobStart (s : State) : State :=
  if !s.dev.running 0x1A || decide (0 ≤ s.dev.var V.npuJob 0) then s
  else match s.dev.jobNext with
    | none => s
    | some j =>
      match State.jobCheck { s with dev := s.dev.jobBegin j } j with
      | (s, none) =>
        (match s.jobInputs j 0 (leAt (s.devPeek 0x01A0 (s.dev.get F.JOB_ARGS_ARGS j) 8) 0 1) with
         | (s, true) => s
         | (s, false) => { s with dev := s.dev.jobEnd j 5 5 })
      | (s, some e) => { s with dev := s.dev.jobEnd j 5 e }

def execNpuJobStart (s : State) : Host.Outcome State Fault Refusal := .next s.jobStart

/-- The tensor descriptor of output `k` of a job (R222). -/
def State.outDesc (s : State) (j k : Nat) : State × Except AccessFail (List Nat) :=
  match s.devRead 0x01A0 (s.dev.get F.JOB_ARGS_ARGS j) 1 with
  | (s, .error e) => (s, .error e)
  | (s, .ok a) => s.devRead 0x01A0 (s.dev.get F.JOB_ARGS_ARGS j + 8 + 32 * (leAt a 0 1 + k)) 32

/-- An output tensor agrees with what CNPY expects (R224). -/
def descOk (b : List Nat) (w h c : Nat) : Bool :=
  leAt b 8 2 == w && leAt b 10 2 == h && leAt b 12 2 == c && leAt b 14 1 == 2 && leAt b 15 1 == 0

/-- The hand-off of a job's outputs to CNPY (R224). -/
def State.handOff (s : State) (j cam : Nat) (fr : Frame) : State :=
  let (s, r0) := s.outDesc j 0
  let (s, r1) := if s.dev.get F.CNPY_SEN_CFG_DEPTH.act cam = 1 then s.outDesc j 1 else (s, r0)
  let d := s.dev
  let w := d.get F.CNPY_SEN_FMAP_FW.act cam
  let h := d.get F.CNPY_SEN_FMAP_FH.act cam
  let ok := (match r0 with | .ok b => descOk b w h (d.get F.CNPY_SEN_FMAP_FC.act cam) | .error _ => false) &&
    (d.get F.CNPY_SEN_CFG_DEPTH.act cam != 1 || (match r1 with | .ok b => descOk b w h 1 | .error _ => false))
  let place := fun (r : Except AccessFail (List Nat)) => (match r with | .ok b => (leAt b 0 8, leAt b 16 4) | .error _ => (0, 0) : Nat × Nat)
  { s with dev := if ok then d.handPost cam fr ((place r0).1, (place r0).2, (place r1).1, (place r1).2) else (d.senLate cam).errBlk 0x18 3 0 }

/-- The outputs of a job are written through its argument block. -/
def State.jobOutputs (s : State) (j k : Nat) (outs : List (List Byte)) : State × Bool :=
  match outs with
  | [] => (s, true)
  | o :: t =>
    match s.outDesc j k with
    | (s, .error _) => (s, false)
    | (s, .ok b) =>
      match s.tensorWrite (leAt b 0 8) (leAt b 16 4) (tensorRows b).2 (tensorRows b).1 (o.map (·.toNat)) with
      | (s, false) => (s, false)
      | (s, true) => s.jobOutputs j (k + 1) t

/-- NPU_JOB_DONE (R223, R224): the running job writes its outputs and completes, or ends in FAULT where an access failed. -/
def State.jobDone (s : State) (outs : List (List Byte)) : State :=
  if s.dev.var V.npuJob 0 < 0 then s
  else
    let j := (s.dev.var V.npuJob 0).toNat
    let t := s.dev.get F.JOB_CFG_TRIG j
    let fr := (s.dev.frames.find (1, j)).getD ⟨0, 0, 0, 0, false, false⟩
    match s.jobOutputs j 0 outs with
    | (s, false) => { s with dev := s.dev.jobEnd j 5 5 }
    | (s, true) =>
      let d := ((s.dev.incWrap F.JOB_RUNS_RUNS j).cone 0x1A 0x100).when (s.dev.on F.JOB_CFG_IRQ j) (fun a => a.irq 0x1A 0)
      let s : State := { s with dev := d.jobEnd j 4 0 }
      if d.on F.JOB_CFG_HAND j ∧ 1 ≤ t ∧ t ≤ 6 then s.handOff j (t - 1) fr else s

def execNpuJobDone (outs : List (List Byte)) (s : State) : Host.Outcome State Fault Refusal := .next (s.jobDone outs)

/-- NPU_JOB_LIMIT (R223): a job that exceeds LIMIT is ABORTED. -/
def Dev.jobLimit (d : Dev) : Dev :=
  let j := (d.var V.npuJob 0).toNat
  if decide (0 ≤ d.var V.npuJob 0) && d.get F.JOB_CFG_LIMIT j != 0 &&
      decide ((d.get F.JOB_CFG_LIMIT j : Int) * 100000 * 65536 < d.since V.npuAt 0) then d.jobEnd j 6 7 else d

def execNpuJobLimit (s : State) : Host.Outcome State Fault Refusal := s.upd Dev.jobLimit

/-- NPU_ABORT (R231): the running job is aborted as a LIMIT overrun. -/
def execNpuAbort (a : Acc) (s : State) : Host.Outcome State Fault Refusal :=
  s.upd (fun d => d.wr 0x1A 0x808 a (fun d => if 0 ≤ d.var V.npuJob 0 then d.jobEnd (d.var V.npuJob 0).toNat 6 7 else d))

end Sys2Proof.Machine
end

