-- ==== Sys2Proof/Machine/Clearing.lean ====
section
/-! DEFINITION. CLR: commits, buffer writes, slot timers (spec/01_architecture.md, R24 to R41). -/

namespace Sys2Proof.Machine

/-- The agent number of a software initiator (R41). -/
def agentOf (a : Acc) : Int := 256 + a.bank.val

/-- CLR_COMMIT (R28, R29, R39, R41). `v` is the word written; bits 8:0 name the slot. -/
def execClrCommit (a : Acc) (v : BitVec 32) (s : State) : Host.Outcome State Fault Refusal :=
  s.upd (fun d => d.wr 0x0B 0xE00 a (fun d => d.clrCommit (v.toNat % 512) (planeOfBank a.bank.val) (agentOf a)))

/-- Where a byte of the buffer area lies (R25): slot, buffer and byte. -/
def clrPlace (off : Nat) : Nat × Nat × Nat :=
  if off < 0xB000 then
    let x := off - 0x1000
    (x / 0x80, x % 0x80 / 0x40, x % 0x40)
  else
    let x := off - 0xB000
    (320 + x / 0x100, x % 0x100 / 0x80, x % 0x80)

/-- One byte of a buffer write (R29): refused with a violation for a plane that is not the writer, and for the published buffer. -/
def Dev.clrByte (d : Dev) (p off : Nat) (v : Nat) : Dev :=
  let (i, g, b) := clrPlace off
  if p ≠ clrWriter i then d.clrViol i p 2
  else if g = d.get F.CLR_HDR_GEN i then d.clrViol i p 3
  else { d with clrBuf := d.clrBuf.put (2 * i + g, b) (v % 256) }

/-- Bytes of a buffer write, from an offset on, each judged by itself: of a burst that reaches into two buffers the allowed part is stored. The spec does
not say whether such a burst is rejected whole; this is the model's choice (log entry 154). -/
def Dev.clrBytes (d : Dev) (p off : Nat) (l : List Byte) : Dev :=
  match l with
  | [] => d
  | x :: t => (d.clrByte p off x.toNat).clrBytes p (off + 1) t

/-- A size and alignment that R47 allows on pages 1 to 15: 4 or 8 bytes aligned, or a burst of whole words up to 64 bytes in one page. -/
def burstOk (off n : Nat) : Bool :=
  (n == 4 && off % 4 == 0) || (n == 8 && off % 8 == 0) ||
    (decide (8 < n) && decide (n ≤ 64) && n % 4 == 0 && off % 4 == 0 && (off / 0x1000 == (off + n - 1) / 0x1000))

/-- CLR_BUFFER_WRITE (R25, R29, R47). -/
def execClrBufferWrite (a : Acc) (off : BitVec 16) (l : List Byte) (s : State) : Host.Outcome State Fault Refusal :=
  s.upd (fun d => if !burstOk off.toNat l.length then ((d.cone 0x0B 3).errAcc 0x0B 6 off.toNat a.bank.val).fail else d.wr 0x0B off.toNat a (fun d =>
    if off.toNat < 0x1000 ∨ 0xD000 < off.toNat + l.length then d.errAcc 0x0B 5 off.toNat a.bank.val
    else d.clrBytes (planeOfBank a.bank.val) off.toNat l))

/-- CLR_SLOT_CFG_WRITE (R37). Only the slot's reader may write it; a STALE_T of 0, and a WDR_T of 0 on slots 0 to 63, are ignored. -/
def execClrSlotCfgWrite (a : Acc) (v : BitVec 32) (s : State) : Host.Outcome State Fault Refusal :=
  s.upd (fun d => d.wrCh 0x0B 0x100 a (fun i d =>
    if planeOfBank a.bank.val ≠ clrReader i then d.clrViol i (planeOfBank a.bank.val) 4
    else
      let w := v.toNat / 65536 % 4096
      let t := v.toNat % 4096
      let d := if w = 0 ∧ i < 64 then d else d.set F.CLR_SLOT_CFG_WDR_T i w
      if t = 0 then d else d.set F.CLR_SLOT_CFG_STALE_T i t))

/-- STALE_TIMEOUT (R32, R37): at a tick at which STALE_T whole milliseconds have passed since the last commit, STALE sets. -/
def Dev.staleTimeout (d : Dev) (i : Nat) : Dev :=
  if d.atTick && d.on F.CLR_HDR_LIVE i && decide (d.get F.CLR_SLOT_CFG_STALE_T i ≤ d.get F.CLR_SLOT_STAT_AGE i) then d.clrStale i else d

def execStaleTimeout (i : Fin 352) (s : State) : Host.Outcome State Fault Refusal := s.upd (fun d => d.staleTimeout i)

/-- WITHDRAWAL_TIMEOUT (R32, R37): at a tick WDR_T milliseconds or more after the last commit WDRN sets; a WDR_T below STALE_T acts as STALE_T and 0 never
expires. Where the slot is the steering slot, TIME in SLEW or LOCKED enters HOLDOVER (R83). -/
def Dev.withdrawalTimeout (d : Dev) (i : Nat) : Dev :=
  if d.atTick && d.on F.CLR_HDR_LIVE i && !d.on F.CLR_HDR_WDRN i && d.get F.CLR_SLOT_CFG_WDR_T i != 0 &&
      decide (max (d.get F.CLR_SLOT_CFG_WDR_T i) (d.get F.CLR_SLOT_CFG_STALE_T i) ≤ d.get F.CLR_SLOT_STAT_AGE i) then
    let d := ((d.set F.CLR_HDR_WDRN i 1).cone 0x0B 0x102).whlGuardStep
    if d.on F.TIME_STEER_CFG_SEN 0 then d.steerCheck else d
  else d

def execWithdrawalTimeout (i : Fin 352) (s : State) : Host.Outcome State Fault Refusal := s.upd (fun d => d.withdrawalTimeout i)

end Sys2Proof.Machine
end

