-- ==== Sys2Proof/Machine/Crop.lean ====
section
/-! DEFINITION. CROP: the delay line, the time stage, the taps and the yield pairs (spec/07_crop_flow_yield.md, R242 to R263). -/

namespace Sys2Proof.Machine

/-- XMAX: the index at the cutter bar at the largest DIST reached (R243, R249). A cell is 50,000 um long. -/
def Dev.xmax (d : Dev) : Int := d.var V.dmax 0 / 50000

/-- Line slot of cell index `n` (R244). -/
def lineSlot (n : Int) : Nat := (n % 2048).toNat

/-- A line slot is cleared. -/
def Dev.cellZero (d : Dev) (k : Nat) : Dev :=
  (((((((d.setVar V.cellLow k 0).set F.CELL_MASS k 0).set F.CELL_CONF k 0).set F.CELL_NOLA k 0).set F.CELL_FROZEN k 0).set F.CELL_CONT k 0).set F.CELL_VALID k 0).set
    F.CELL_COVER k 0

/-- What a reader finds at index `n`: mass, NOLA, CONT, VALID, and whether COVER lay below MINCOV at its sample. A crossed cell is MASS 0 with NOLA 0 (R248); beyond
the line nothing is
valid. NOLA holds where VALID is 0 (R245). -/
def Dev.cellRead (d : Dev) (n : Int) : Nat × Bool × Bool × Bool × Bool :=
  let k := lineSlot n
  if n ≤ d.xmax then (0, false, false, true, false)
  else if d.xmax + 400 < n then (0, true, false, false, false)
  else (d.get F.CELL_MASS k, d.on F.CELL_NOLA k || !d.on F.CELL_VALID k, d.on F.CELL_CONT k, d.on F.CELL_VALID k, d.var V.cellLow k == 1)

/-- DMAX takes a new value: every slot that passes to a new index is cleared (R244), and XMAX shows. -/
def Dev.lineAdvance (d : Dev) (dist : Int) : Dev :=
  let x0 := d.xmax
  let x1 := dist / 50000
  let k := min (x1 - x0).toNat 2048
  let d := d.each (List.range k) (fun j a => a.cellZero (lineSlot (x1 + 400 - j)))
  (((d.setVar V.dmax 0 dist).setI F.CROP_XMAX_IDX 0 x1)).incWrap F.CROP_LSEQ_SEQ 0 2

/-- The line is cleared and DMAX is the present DIST (R249): EGOCLR. -/
def Dev.lineClear (d : Dev) : Dev :=
  let d := d.each (List.range 2048) (fun k a => a.cellZero k)
  let x := d.getI F.EGO_DIST_DIST 0
  (((d.setVar V.dmax 0 x).setI F.CROP_XMAX_IDX 0 (x / 50000)).incWrap F.CROP_LSEQ_SEQ 0 2).irq 0x1B 7

/-- LINE_CLEAR (R249). -/
def execLineClear (a : Acc) (s : State) : Host.Outcome State Fault Refusal := s.upd (fun d => d.wr 0x1B 0x860 a (fun d => d.lineClear))

/-- STAGE_CLEAR (R261): the stage and the arrival log are emptied at the next tick. -/
def execStageClear (a : Acc) (s : State) : Host.Outcome State Fault Refusal :=
  s.upd (fun d => d.wr 0x1B 0x860 a (fun d => d.setVar V.stageClr 0 1))

/-! ### The tick -/

/-- The flow record of a tick (R242, R243). -/
def Dev.flowRead (d : Dev) : Dev :=
  let i := d.get F.CROP_FLOW_SLOT.act 0
  let b := d.clrPub i
  let usable := decide (64 ≤ i) && decide (i ≤ 319) && d.on F.CLR_HDR_LIVE i && !d.on F.CLR_HDR_STALE i &&
    decide (|d.now - leAt b 0 8| ≤ (d.get F.CROP_FLOW_MAXAGE.act 0 : Int) * 1000000)
  if usable then
    let fl := leAt b 20 1
    let d := (((d.setVar V.flowRec 0 1).setVar V.flowMass 0 (leAt b 8 4)).setVar V.flowMoist 0 (leAt b 12 2)).setVar V.flowFeed 0 (leAt b 16 4)
    let d := if tbit fl 4 then d.setVar V.flowFspd 0 (leAt b 14 2) else d
    (((d.setVar V.flowBits 0 fl).setVar V.flowMiss 0 0).setVar V.flowStaled 0 0).set F.CROP_STATE_FLOWOK 0 1
  else ((d.setVar V.flowRec 0 0).setVar V.flowBits 0 0).setVar V.flowMiss 0 (d.var V.flowMiss 0 + 1)

/-- FLOW_STALE (R243): no usable record for 100 ms. -/
def Dev.flowStale (d : Dev) : Dev :=
  if d.running 0x1B && decide (100 ≤ d.var V.flowMiss 0) && d.var V.flowStaled 0 == 0 then
    ((d.set F.CROP_STATE_FLOWOK 0 0).setVar V.flowStaled 0 1).irq 0x1B 6
  else d

def execFlowStale (s : State) : Host.Outcome State Fault Refusal := s.upd Dev.flowStale

/-- A bit of the flow record's byte 20 at the last tick. -/
def Dev.flowBit (d : Dev) (b : Nat) : Bool := d.var V.flowRec 0 == 1 && tbit (d.var V.flowBits 0).toNat b

/-- TFEED, 1 to 4,000 ms, and FSPDNOM, at least 1 (R261). -/
def Dev.tfeed (d : Dev) : Nat := min 4000 (max 1 (d.get F.CROP_FEED_TFEED.act 0))

def Dev.fspdNom (d : Dev) : Nat := max 1 (d.get F.CROP_FSPD_FSPDNOM.act 0)

/-- Parcels advance by one tick (R250). PROG is kept to 2^-48 and the step is rounded up (log entry 15). -/
def Dev.stageAdvance (d : Dev) : Dev :=
  let den := d.fspdNom * d.tfeed
  let step := ((d.var V.flowFspd 0).toNat * 2 ^ 48 + den - 1) / den
  let slow := !d.flowBit 4
  { d with parcels := d.parcels.map (fun p => { p with prog := p.prog + step, feedspd := p.feedspd || slow }) }

/-- The stretch of a cell between two distances, um. -/
def overlap (n lo hi : Int) : Int := max 0 (min hi ((n + 1) * 50000) - max lo (n * 50000))

/-- Cell indices that a stretch touches, at most the length of the line. -/
def cellsOf (lo hi : Int) : List Int := (List.range (min (hi / 50000 - lo / 50000 + 1).toNat 2049)).map (fun k => lo / 50000 + (k : Int))

/-- A new parcel enters the stage, or joins the newest where the stage is full (R251). -/
def Dev.parcelIn (d : Dev) (p : Parcel) : Dev :=
  if d.parcels.length < 4096 then { d with parcels := d.parcels ++ [p] }
  else
    let l := d.parcels.dropLast
    let q := d.parcels.getLast?.getD p
    ({ d with parcels := l ++ [{ q with mass := q.mass + p.mass, hdrup := q.hdrup || p.hdrup, nola := q.nola || p.nola }] }.set
      F.CROP_STATE_QFULL 0 1).irq 0x1B 5

/-- The cutter bar crosses the stretch from DMAX to DIST: one parcel (R249). Beyond the line nothing was sampled (R244). -/
def Dev.cross (d : Dev) : Dev :=
  let lo := d.var V.dmax 0
  let hi := d.getI F.EGO_DIST_DIST 0
  if hi ≤ lo then d
  else
    let cs := (cellsOf lo hi).filter (fun n => decide (0 < overlap n lo hi))
    let up := !d.flowBit 0
    let held := cs.filter (fun n => decide (n ≤ d.xmax + 400))
    let mass := if up then 0 else held.foldl (fun a n => a + d.get F.CELL_MASS (lineSlot n) * (overlap n lo hi).toNat) 0
    let nola := decide (held.length < cs.length) || held.any (fun n => d.on F.CELL_NOLA (lineSlot n) || !d.on F.CELL_VALID (lineSlot n))
    (d.parcelIn ⟨d.var V.cropTick 0, d.var V.uptime 0, hi, mass, up, nola, false, 0⟩).lineAdvance hi

/-- The histories of DIST and of GNTK's epochs, per 10 ms tick for 81.92 s (R256). List 5: tick and DIST; list 6: tick and EPER. -/
def Dev.cropHist (d : Dev) : Dev :=
  let t := d.var V.cropTick 0
  if t / 1000000 % 10 ≠ 0 then d
  else (d.setPast 5 0 (((t, d.getI F.EGO_DIST_DIST 0) :: d.past 5 0).take 8192)).setPast 6 0
    (((t, if d.running 0x12 then (d.get F.GNTK_EPOCH_CFG_EPER.act 0 : Int) else -1) :: d.past 6 0).take 8192)

/-- What the pairs need of a tick (R256, R257), by its instant: list 22 the mass flow of a record with MFV, list 23 the moisture of one with MOV, list 24 the
flags FLOWGAP, MOISTGAP, EGOINV, FEEDSTOP and QFULL. A period has at most 1,000 ticks. -/
def Dev.yieldGather (d : Dev) : Dev :=
  let t := d.var V.cropTick 0
  let n : Nat := 4 * bit (!d.flowBit 1) + 8 * bit (!d.flowBit 2) + 16 * bit (!d.on F.EGO_STAT_VALID 0) +
    256 * bit (d.flowBit 4 && d.var V.flowFspd 0 == 0) + 512 * bit (d.on F.CROP_STATE_QFULL 0)
  let d := if d.flowBit 1 then d.setPast 22 0 (((t, d.var V.flowMass 0) :: d.past 22 0).take 2048) else d
  let d := if d.flowBit 2 then d.setPast 23 0 (((t, d.var V.flowMoist 0) :: d.past 23 0).take 2048) else d
  d.setPast 24 0 (((t, (n : Int)) :: d.past 24 0).take 2048)

/-- CROP_TICK (R243, R249 to R251): at each tick CROP reads the flow record, advances the stage and creates the parcel of the stretch that
crossed the cutter bar. -/
def Dev.cropTickDo (d : Dev) : Dev :=
  if !d.running 0x1B then d
  else
    let d := (d.setVar V.cropTick 0 d.now).flowRead
    let valid := d.on F.EGO_STAT_VALID 0
    let back := valid && d.var V.cropVal 0 == 0
    let rst := d.var V.cropRst 0 != (d.get F.EGO_STAT_RSTCNT 0 : Int)
    let d := (d.setVar V.cropVal 0 (bit valid)).setVar V.cropRst 0 (d.get F.EGO_STAT_RSTCNT 0)
    let d := if back || rst then d.lineClear else d
    let d := if rst then (d.setPast 5 0 []).setPast 6 0 [] else d
    let d := if d.var V.stageClr 0 = 1 then { d with parcels := [], arrivals := [] }.setVar V.stageClr 0 0 else d
    let d := d.stageAdvance
    let d := if valid then d.cross else d
    let d := if d.parcels.length < 4000 then d.set F.CROP_STATE_QFULL 0 0 else d
    let d := ((d.set F.CROP_STATE_NPAR 0 (min d.parcels.length 4095)).set F.CROP_STATE_EGOOK 0 (bit valid)).set F.CROP_STATE_GRIDOK 0
      (bit (!d.passed V.gridDoneAt 0 (3 * d.gper + 1)))
    let d := d.each (List.range 16) (fun t a => if a.on F.TAP_CFG_EN t then a.setVar V.tapCnt t (a.var V.tapCnt t + 1) else a)
    d.cropHist.yieldGather

def execCropTick (s : State) : Host.Outcome State Fault Refusal := s.upd Dev.cropTickDo

/-- An arrival bin takes a parcel (R250). -/
def Arrival.add (b : Arrival) (p : Parcel) : Arrival :=
  { b with mass := b.mass + p.mass, wsum := b.wsum + p.mass * p.born, n := b.n + 1, bsum := b.bsum + p.born, dmin := min b.dmin p.dist,
           dmax := max b.dmax p.dist, bornU := min b.bornU p.bornU, hdrup := b.hdrup || p.hdrup, nola := b.nola || p.nola,
           feedspd := b.feedspd || p.feedspd }

/-- PARCEL_ARRIVAL (R250): the oldest parcel whose PROG has reached the end of the feeder leaves the stage into the bin of the tick. -/
def Dev.parcelArrival (d : Dev) : Dev :=
  match d.parcels.find? (fun p => decide (2 ^ 48 ≤ p.prog)) with
  | none => d
  | some p =>
    let k := d.var V.cropTick 0 / 10000000
    let l := d.arrivals.filter (fun b => decide (k - b.bin < 4096))
    let l := if l.any (fun b => b.bin == k) then l.map (fun b => if b.bin = k then b.add p else b)
      else l ++ [⟨k, p.mass, p.mass * p.born, 1, p.born, p.dist, p.dist, p.bornU, p.hdrup, p.nola, p.feedspd⟩]
    let d := { d with parcels := d.parcels.erase p, arrivals := l }
    (if d.parcels.length < 4000 then d.set F.CROP_STATE_QFULL 0 0 else d).set F.CROP_STATE_NPAR 0 (min d.parcels.length 4095)

def execParcelArrival (s : State) : Host.Outcome State Fault Refusal := s.upd Dev.parcelArrival

/-! ### The sampling pass -/

/-- Points of a cross line: round(HDRW / 0.1 m), HDRW in cm with 0 acting as 10 (R246, R261). -/
def Dev.linePoints (d : Dev) : Nat :=
  let w := d.get F.CROP_GEOM_HDRW 0
  ((if w = 0 then 10 else w) + 5) / 10

/-- Radius of the path in 0.1 mm (R246): v over the yaw rate, at least 10 m, with pi = 3.141592653589793; none for a straight path. -/
def Dev.pathRadius (d : Dev) : Option Int :=
  let v := d.var V.gridV 0
  let w := d.var V.gridW 0
  if !d.on F.CROP_SAMP_CURVE.act 0 ∨ v = 0 ∨ w = 0 then none
  else
    let r := v * 180000000000000000000 / (3141592653589793 * w)
    some (if |r| < 100000 then (if r < 0 then -100000 else 100000) else r)

/-- The grid cell nearest to the point `lat` (0.1 mm left) of the cross line at path distance `s` (0.1 mm) from the reference point: (i, j). -/
def Dev.linePoint (d : Dev) (s lat : Int) : Int × Int :=
  let psi := d.var V.gridPsi 0
  let (fx, fy, th) := match d.pathRadius with
    | none => (s * 1073741824, (0 : Int), (0 : Int))
    | some r =>
      let th := s * 4294967296 * 1000000000000000 / (6283185307179586 * r)
      (r * Config.sinT (toBits 32 th), r * (1073741824 - Config.cosT (toBits 32 th)), th)
  let h := toBits 32 (psi + th)
  let c0 := Config.cosT (toBits 32 psi)
  let s0 := Config.sinT (toBits 32 psi)
  let x := d.var V.gridPx 0 * 1073741824 + (fx * c0 - fy * s0) / 1073741824 - lat * Config.sinT h
  let y := d.var V.gridPy 0 * 1073741824 + (fx * s0 + fy * c0) / 1073741824 + lat * Config.cosT h
  (200 + (x - d.var V.gridXA 0 * 1073741824 + 536870912000) / 1073741824000,
   200 + (y - d.var V.gridYA 0 * 1073741824 + 536870912000) / 1073741824000)

/-- Grid channel that holds the density (R261). -/
def Dev.denCh (d : Dev) : Nat :=
  let c := d.get F.CROP_SAMP_DENCH.act 0
  if c ≤ 47 ∨ (56 ≤ c ∧ c ≤ 61) then c else 0

/-- A point's grid cell as CROP reads it: density (2^-24 kg/m2) and CONF where it is observed, and CONTESTED; none where no cell can be read
(R245 to R247). -/
def State.densityAt (s : State) (p : Int × Int) : Option (Option (Int × Nat) × Bool) :=
  if p.1 < 0 ∨ 399 < p.1 ∨ p.2 < 0 ∨ 399 < p.2 then none
  else
    let a := s.dev.cellAt (s.dev.cellRow p.2.toNat) (s.dev.cellCol p.1.toNat)
    if (s.devLook 0x01B0 a 128).isNone then none
    else
      let st := ofLe (s.devPeek 0x01B0 (a + 126) 2)
      some (if tbit st 11 then none else some (max 0 ((f16 (ofLe (s.devPeek 0x01B0 (a + 2 * s.dev.denCh) 2))).getD 0), st / 4096), tbit st 10)

/-- A cell of the line takes its sample (R245, R247), with MINCOV as it stands at this pass (R261). -/
def State.sampleCell (s : State) (n : Int) : State :=
  let d := s.dev
  let np := d.linePoints
  let dist := d.get F.CROP_GEOM_CBX 0 * 100 + (n * 100000 + 50000 - 2 * d.var V.gridDist 0) / 200
  let y0 := ofBits 8 (d.get F.CROP_GEOM_HDRY 0) * 100
  let hit := (List.range np).filterMap (fun k => s.densityAt (d.linePoint dist (y0 + (2 * (k : Int) - (np - 1 : Int)) * 500)))
  let obs := hit.filterMap (·.1)
  let no := obs.length
  let sum := obs.foldl (fun a o => a + o.1) 0
  let mass := if no = 0 then 0 else min 65535 (roundAway (sum * 100 * np) (no * 16777216)).toNat
  let cover := if np = 0 then 0 else (roundAway (255 * no : Nat) np).toNat
  let cont := hit.any (·.2)
  let conf := obs.foldl (fun a o => min a o.2) 15
  let low := decide (cover < d.get F.CROP_QUAL_MINCOV 0)
  let k := lineSlot n
  let d := ((((d.set F.CELL_MASS k mass).set F.CELL_COVER k cover).set F.CELL_CONT k (bit cont)).set F.CELL_CONF k (if no = 0 then 0 else conf)).set
    F.CELL_VALID k 1
  { s with dev := (d.setVar V.cellLow k (bit low)).set F.CELL_NOLA k (bit (no == 0 || cont || low)) }

/-- SAMPLING_PASS (R246 to R248): after a GRIDDONE, cells of the line below XMAX + NEAR are frozen, and the others up to XMAX + FAR sampled. -/
def State.samplingPass (s : State) : State :=
  if !s.dev.running 0x1B ∨ s.dev.var V.gridNew 0 = 0 then s
  else
    let d := s.dev.setVar V.gridNew 0 0
    if d.var V.gridInv 0 = 1 ∨ d.var V.gridCleared 0 = 1 ∨ ¬ d.on F.EGO_STAT_VALID 0 then { s with dev := d }
    else
      let near := min (d.get F.CROP_SAMP_NEAR.act 0) 400
      let far := d.get F.CROP_SAMP_FAR.act 0
      let far := if far ≤ near ∨ 400 < far then 400 else far
      let x := d.xmax
      let d := d.each ((List.range (near + 1647)).filter (fun k => !d.on F.CELL_FROZEN (lineSlot (x + near - 1 - k)))) (fun k a =>
        a.set F.CELL_FROZEN (lineSlot (x + near - 1 - k)) 1)
      let s : State := { s with dev := d }
      let s := s.each ((List.range (far + 1)).filter (fun k => decide (near ≤ k) && decide (0 < k) &&
        !d.on F.CELL_FROZEN (lineSlot (x + k)))) (fun k s => s.sampleCell (x + k))
      { s with dev := (s.dev.incWrap F.CROP_LSEQ_SEQ 0 2).irq 0x1B 0 }

def execSamplingPass (s : State) : Host.Outcome State Fault Refusal := .next s.samplingPass

/-! ### Taps -/

/-- Another enabled tap has the same SLOT (R255). -/
def Dev.tapClash (d : Dev) (t : Nat) : Bool :=
  (List.range 16).any (fun x => x != t && d.on F.TAP_CFG_EN x && d.get F.TAP_CFG_SLOT x == d.get F.TAP_CFG_SLOT t)

/-- TAP_ENABLE (R255, R260). -/
def execTapEnable (a : Acc) (t : Fin 16) (en : Bool) (s : State) : Host.Outcome State Fault Refusal :=
  s.upd (fun d => d.wr 0x1B (0x1000 + 0x20 * t.val) a (fun d =>
    if !en then d.set F.TAP_CFG_EN t 0
    else if d.on F.TAP_CFG_EN t then d
    else
      let d := ((d.set F.TAP_CFG_EN t 1).setVar V.tapCnt t 0).set F.TAP_STAT_COMMITS t 0
      if d.tapClash t then d.errBlk 0x1B 4 0 else d) (d.changes F.TAP_CFG_EN t (bit en)))

/-- What a tap computes: VALUE in g/s, and the flags NOLA, CONT, LOWCOV, INVALID, FEEDSPD, REV, SPILL. -/
structure TapOut where
  value : Nat
  nola : Bool
  cont : Bool
  lowcov : Bool
  invalid : Bool
  feedspd : Bool
  rev : Bool
  spill : Bool
  deriving DecidableEq, Repr

/-- The flags of cells that a tap reads. -/
def Dev.tapCells (d : Dev) (l : List Int) (o : TapOut) : TapOut :=
  let xs := l.map (fun n => d.cellRead n)
  { o with nola := o.nola || xs.any (fun c => c.2.1), cont := o.cont || xs.any (fun c => c.2.2.1),
           lowcov := o.lowcov || xs.any (fun c => c.2.2.2.1 && c.2.2.2.2),
           invalid := o.invalid || xs.any (fun c => !c.2.2.2.1) }

/-- VALUE of KIND 0 and 1 (R252): the mean MASS of `w` cells from `k` cells ahead of XMAX on, times v. -/
def Dev.tapMean (d : Dev) (k w : Nat) (v : Int) : TapOut :=
  let l := (List.range w).map (fun x => d.xmax + k + x)
  let o := d.tapCells l ⟨0, false, false, false, false, false, false, false⟩
  let sum := l.foldl (fun a n => a + (d.cellRead n).1) 0
  { o with value := if v ≤ 0 then 0 else sum * v.toNat / (w * 1000), rev := decide (v < 0) }

/-- VALUE of KIND 2 (R251, R252). -/
def Dev.tapRotor (d : Dev) (lead win : Nat) (v : Int) : TapOut :=
  let f := (d.var V.flowFspd 0).toNat
  let o : TapOut := ⟨0, !d.flowBit 4 || f == 0, false, false, false, false, false, false⟩
  if f = 0 then o
  else
    let a := d.tfeed * d.fspdNom
    let ps := d.parcels.filter (fun p =>
      decide (p.prog < 2 ^ 48) && decide (lead * (2 ^ 48 * f) ≤ (2 ^ 48 - p.prog) * a) && decide ((2 ^ 48 - p.prog) * a < (lead + win) * (2 ^ 48 * f)))
    let m1 := ps.foldl (fun x p => x + p.mass) 0
    let o := { o with nola := o.nola || ps.any (fun p => p.nola || p.feedspd), feedspd := ps.any (fun p => p.feedspd) }
    if (lead + win) * f ≤ a then { o with value := m1 / win / 1000 }
    else
      let x0 := d.xmax * 50000
      let lo := x0 + ((max (lead * f) a - a : Nat) : Int) * v / f
      let hi := x0 + (((lead + win) * f - a : Nat) : Int) * v / f
      let cs := if hi ≤ lo then [] else (cellsOf lo hi).filter (fun n => decide (0 < overlap n lo hi))
      let m2 := cs.foldl (fun x n => x + (d.cellRead n).1 * (overlap n lo hi).toNat) 0
      let o := d.tapCells cs o
      { o with value := (m1 + m2) / win / 1000, spill := true }

/-- The computation of a tap (R252, R253). -/
def Dev.tapCompute (d : Dev) (t : Nat) : TapOut :=
  let v := d.getI F.EGO_SPEED_V 0
  let lead := d.get F.TAP_LEAD_LEAD t
  let win := max 1 (d.get F.TAP_LEAD_WIN t)
  let w := max 1 (roundAway (v * win) 50000).toNat
  let o := match d.get F.TAP_CFG_KIND t with
    | 1 => d.tapMean (roundAway (v * lead) 50000).toNat w v
    | 2 => d.tapRotor lead win v
    | _ => d.tapMean lead w v
  { o with nola := o.nola || !d.on F.EGO_STAT_VALID 0 }

/-- Byte 12 of a tap's record (R254). -/
def Dev.tapFlags (d : Dev) (o : TapOut) : Nat :=
  bit o.nola + 2 * bit o.cont + 4 * bit o.lowcov + 8 * bit (!d.on F.EGO_STAT_VALID 0) + 16 * bit o.invalid + 32 * bit o.feedspd + 64 * bit o.rev +
    128 * bit o.spill

/-- TAP_COMMIT (R252 to R255): at a PER-th tick the tap commits its record; with NOLA the measured feed rate, or nothing. -/
def Dev.tapCommit (d : Dev) (t : Nat) : Dev :=
  if !d.running 0x1B || !d.on F.TAP_CFG_EN t || d.tapClash t || decide (d.var V.tapCnt t < max 1 (d.get F.TAP_CFG_PER t)) then d
  else
    let o := d.tapCompute t
    let fl := d.tapFlags o
    let d := (d.setVar V.tapCnt t 0).set F.TAP_STAT_FLAGS t fl
    let d := if o.nola && d.var V.tapNola t == 0 then d.irq 0x1B 3 else if !o.nola && d.var V.tapNola t == 1 then d.irq 0x1B 4 else d
    let d := d.setVar V.tapNola t (bit o.nola)
    let feed := if d.flowBit 3 then (d.var V.flowFeed 0).toNat else 0
    if o.nola && !(d.on F.TAP_CFG_FBK t && d.flowBit 3) then d
    else
      let v := if o.nola then feed else min o.value 0xFFFFFFFF
      let d := (d.set F.TAP_OUT_VALUE t v).incWrap F.TAP_STAT_COMMITS t
      d.clrPost (d.get F.TAP_CFG_SLOT t) 0x1B (leBytes 8 (d.var V.cropTick 0).toNat ++ leBytes 4 v ++ [fl, t, 0, 0] ++ leBytes 4 feed)

def execTapCommit (t : Fin 16) (s : State) : Host.Outcome State Fault Refusal := s.upd (fun d => d.tapCommit t)

/-! ### Yield pairs -/

/-- DIST at an instant, between the entries of the history (R256); none outside it. -/
def interp (l : List (Int × Int)) (t : Int) : Option Int :=
  match l with
  | b :: a :: r =>
    if b.1 = t then some b.2
    else if a.1 ≤ t ∧ t < b.1 then some (a.2 + (b.2 - a.2) * (t - a.1) / (b.1 - a.1)) else interp (a :: r) t
  | [b] => if b.1 = t then some b.2 else none
  | [] => none

/-- YPER in ns. -/
def Dev.yper (d : Dev) : Int := (max 1 (d.get F.CROP_YCFG_YPER.act 0) : Nat) * 1000000

/-- The matched arrivals of the pair at `tp` (R256). -/
def Dev.matched (d : Dev) (tp : Int) : List Arrival :=
  let tr : Int := (min (d.get F.CROP_YCFG_TRANS.act 0) 39000 : Nat) * 1000000
  d.arrivals.filter (fun b => decide (tp - d.yper - tr ≤ b.bin * 10000000) && decide (b.bin * 10000000 < tp - tr))

/-- Tc of a pair (R256). Without parcels it is the interval's midpoint less T_F at the last feeder speed; with the feeder at 0 T_F has no
value, and Tc is a free value. -/
def Dev.pairTc (d : Dev) (tp : Int) : Int :=
  let l := d.matched tp
  let m : Nat := l.foldl (fun a b => a + b.mass) 0
  let n : Nat := l.foldl (fun a b => a + b.n) 0
  if m ≠ 0 then l.foldl (fun a b => a + b.wsum) 0 / m
  else if n ≠ 0 then l.foldl (fun a b => a + b.bsum) 0 / n
  else if d.var V.flowFspd 0 = 0 then d.freeVal
  else tp - d.yper / 2 - (min (d.get F.CROP_YCFG_TRANS.act 0) 39000 : Nat) * 1000000 - (d.tfeed * d.fspdNom * 1000000 : Nat) / d.var V.flowFspd 0

/-- The multiple of EPER nearest to an instant, ties to the earlier (R256). -/
def nearestEpoch (t eper : Int) : Int := (t * 2 + eper - 1) / (2 * eper) * eper

/-- What a list of the ticks holds for the period that ends at `tp` (R256). -/
def Dev.yieldTicks (d : Dev) (list : Nat) (tp : Int) : List Int :=
  ((d.past list 0).filter (fun e => decide (tp - d.yper ≤ e.1) && decide (e.1 < tp))).map (·.2)

/-- The mean of a period's values; 0 without any. -/
def meanInt (l : List Int) : Nat := if l.isEmpty then 0 else (l.sum / l.length).toNat

/-- The flags of a period's ticks (R257); with no tick at all there is neither flow nor moisture. -/
def Dev.yieldFlags (d : Dev) (tp : Int) : Nat :=
  let l := d.yieldTicks 24 tp
  if l.isEmpty then 12 else l.foldl (fun a f => a ||| f.toNat) 0

/-- The record of the pair at `tp` (R256, R257). -/
def Dev.pairRecord (d : Dev) (tp : Int) : List Nat :=
  let l := d.matched tp
  let tc := d.pairTc tp
  let eper : Int := (max 1 (d.get F.GNTK_EPOCH_CFG_EPER.act 0) : Nat) * 1000000
  let noEp := !d.running 0x12 || decide (d.var V.nextEpoch 0 < 0) ||
    (d.past 6 0).any (fun e => e.2 != (d.get F.GNTK_EPOCH_CFG_EPER.act 0 : Int))
  let te := nearestEpoch tc eper
  let seq := if noEp then 0xFFFFFFFF else toBits 32 ((d.get F.GNTK_EPSEQ_SEQ 0 : Int) - (d.var V.nextEpoch 0 - eper - te) / eper)
  let dc := interp (d.past 5 0) tc
  let de := interp (d.past 5 0) te
  let gap := dc.isNone || de.isNone
  let doff := if gap then 0 else dc.getD 0 - de.getD 0
  let flow := meanInt (d.yieldTicks 22 tp)
  let moist := meanInt (d.yieldTicks 23 tp)
  let len := if l = [] then 0 else min 65535 ((l.foldl (fun a b => max a b.dmax) (l.head?.map (·.dmax) |>.getD 0) -
    l.foldl (fun a b => min a b.dmin) (l.head?.map (·.dmin) |>.getD 0)) / 1000).toNat
  let pred := l.foldl (fun a b => a + b.mass) 0 / 1000000
  let stp := l.any (fun b => decide (b.bornU ≤ d.var V.stepU 0))
  let fl := d.yieldFlags tp ||| (bit (l.any (·.hdrup)) + 2 * bit (l == []) + 32 * bit gap + 64 * bit stp + 128 * bit noEp +
    1024 * bit (l.any (·.nola)))
  leBytes 8 tc.toNat ++ leBytes 4 seq ++ leBytes 4 (toBits 32 doff) ++ leBytes 4 flow ++ leBytes 2 moist ++ leBytes 2 len ++ leBytes 4 pred ++
    leBytes 2 (d.get F.CROP_YSEQ_SEQ 0) ++ leBytes 2 fl

/-- A pair is formed: YSEQ counts and YIELD sets (R256, R263). -/
def Dev.yieldOpen (d : Dev) : Dev := (d.incWrap F.CROP_YSEQ_SEQ 0).irq 0x1B 1

/-- The next pair is formed one YPER later (R256). -/
def Dev.yieldNext (d : Dev) (tp : Int) : Dev := d.useFree.setVar V.nextY 0 (tp + d.yper)

/-- YIELD_PAIR (R256 to R258): at a multiple of YPER the pair is formed and written to the ring, or dropped. -/
def State.yieldPair (s : State) : State :=
  let tp := s.dev.var V.nextY 0
  if !s.dev.running 0x1B || decide (tp < 0) || decide (s.dev.var V.grove 0 < tp * 65536) then s
  else
    let base := s.dev.get F.CROP_YRING_BASE.act 0 / 4096 * 4096
    let rcd := s.dev.yieldOpen.pairRecord tp
    let d := s.dev.yieldOpen.yieldNext tp
    let size := 256 * 2 ^ min (d.get F.CROP_YRING_CFG_SIZE.act 0) 6
    let w := d.get F.CROP_YRING_WR_IDX 0 % size
    if base = 0 then { s with dev := s.dev.yieldNext tp }
    else if d.var V.yStop 0 = 1 then { s with dev := d }
    else if (w + 1) % size = d.get F.CROP_YRING_RD_IDX 0 % size then { s with dev := (d.incSat F.CROP_YDROP_CNT 0).irq 0x1B 2 }
    else match State.devWrite { s with dev := d } 0x01B0 (base + 32 * w) rcd with
      | (s, none) => { s with dev := s.dev.set F.CROP_YRING_WR_IDX 0 ((w + 1) % size) }
      | (s, some _) => { s with dev := (((s.dev.incSat F.CROP_YDROP_CNT 0).irq 0x1B 2).setVar V.yStop 0 1 |>.set F.COM_STAT_FAULT 0x1B 1).errBlk 0x1B 3 1 }

def execYieldPair (s : State) : Host.Outcome State Fault Refusal := .next s.yieldPair

end Sys2Proof.Machine
end

