-- ==== Sys2Proof/Machine/DmaChannel.lean ====
section
/-! DEFINITION. DMA channels: their commands, the end of a descriptor, faults and parking (spec/14_memory_dma_iommu.md, R483 to R502). -/

namespace Sys2Proof.Machine

/-- A channel with no descriptor. -/
def DmaChan.none_ : DmaChan := ⟨0, 0, 0, 0, 0, 0, 0, [], 0, 0, 0, 0, [], false, false, 0⟩

/-- Where a channel stands. -/
def Dev.chan (d : Dev) (c : Nat) : DmaChan := (d.dmaCh.find (0, c)).getD DmaChan.none_

/-- Replaces it. -/
def Dev.setChan (d : Dev) (c : Nat) (x : DmaChan) : Dev := { d with dmaCh := d.dmaCh.put (0, c) x }

/-- The point at which a channel is parking or parked. -/
def Dev.parkAt (d : Dev) (c : Nat) : Option DmaPoint := (d.dmaBad.find? (fun e => e.1 == 64 + c)).map (·.2)

/-- Faulting transactions of a channel that have not shown their fault yet, in the channel's order. -/
def Dev.dmaOut (d : Dev) (c : Nat) : List DmaPoint := (d.dmaBad.filter (fun e => e.1 == c)).map (·.2)

/-- A transaction of a channel is issued and faults. -/
def Dev.dmaFail (d : Dev) (c : Nat) (p : DmaPoint) : Dev := { d with dmaBad := d.dmaBad ++ [(c, p)] }

/-- KIND and CAUSE of a failed access (R492): CAUSE is 0 for kinds 3 and 4. -/
def failKind (f : AccessFail) : Nat × Nat :=
  match f with
  | .iommu c perm => (if perm then 2 else 1, c)
  | .resp _ => (3, 0)
  | .ecc _ => (4, 0)

/-- KIND and CAUSE of a failed write: a write that covers part of a poisoned block receives an error response (R474). -/
def writeFail (f : AccessFail) : Nat × Nat :=
  match f with
  | .ecc _ => (3, 0)
  | f => failKind f

/-- Transactions of a channel in flight. -/
def Dev.fly (d : Dev) (c : Nat) : Nat := (d.var V.dmaFly c).toNat

/-- `n` transactions of a channel complete. -/
def Dev.flyDown (d : Dev) (c n : Nat) : Dev :=
  let k := min n (d.fly c)
  (d.setVar V.dmaFly c (d.fly c - k : Nat)).set F.DMA_ENG_STAT_INFLT (c / 16) (d.get F.DMA_ENG_STAT_INFLT (c / 16) - k)

/-- The park fields read 0 outside PARKED (R501). -/
def Dev.parkClear (d : Dev) (c : Nat) : Dev :=
  let d := ((((d.set F.DMA_CH_DONE_DONE c 0).set F.DMA_CH_ROW_ROW c 0).set F.DMA_CH_SRCN_SRC_NEXT c 0).set F.DMA_CH_DSTN_DST_NEXT c 0).set
    F.DMA_CH_HOLDN_HOLDN c 0
  let d := d.each (List.range 16) (fun k a => a.set F.DMA_CH_HOLD_W (16 * c + k) 0)
  let d := (((d.set F.DMA_CH_FREC_KIND c 0).set F.DMA_CH_FREC_WR c 0).set F.DMA_CH_FREC_MULTI c 0).set F.DMA_CH_FREC_CAUSE c 0
  let d := ((d.set F.DMA_CH_FADDR_FADDR c 0).set F.DMA_CH_FTIME_FTIME c 0).set F.DMA_CH_FSEQ_FSEQ c 0
  { d with dmaBad := d.dmaBad.filter (fun e => e.1 != 64 + c) }

/-- DMA_STAT.FAULT is 1 while any channel is PARKED, and ETH_STAT.FAULT while a stream's channel is (R458, R500). -/
def Dev.dmaFaults (d : Dev) : Dev :=
  let d := d.set F.COM_STAT_FAULT 0x0A (bit ((List.range 64).any (fun c => d.get F.DMA_CH_STAT_STATE c == 3)))
  d.set F.COM_STAT_FAULT 0x2A (bit ((List.range 64).any (fun c => d.get F.DMA_CH_STAT_STATE c == 3 && d.on F.DMA_CH_CFG_OWNER c)))

/-! ### The lines of ETH's streams (R435, R436, R489): a stream's channel takes them one after the other as internal descriptors -/

/-- A line that waits for its channel: the stream, the destination, the length and the bytes. -/
def lineEntry (k at_ : Nat) (l : List Nat) : List Nat := k :: leBytes 8 at_ ++ leBytes 4 l.length ++ l

/-- The end of a frame, behind its lines: 128 and the stream, STAMP and the buffer. -/
def markEntry (k stamp buf : Nat) : List Nat := (128 + k) :: leBytes 8 stamp ++ leBytes 4 buf

/-- The frames whose ends wait among the entries of a list: stream and buffer; `n` bounds their number. -/
def marksOf (n : Nat) (b : List Nat) : List (Nat × Nat) :=
  match n with
  | 0 => []
  | n + 1 =>
    if b = [] then []
    else if 128 ≤ b.headD 0 then (b.headD 0 - 128, leAt b 9 4) :: marksOf n (b.drop 13)
    else marksOf n (b.drop (13 + leAt b 9 4))

/-- Frames that a channel cannot write are not posted (R436): those whose end waits count in DROPF and give their buffers back, and the present one of each of the channel's streams
is bad. -/
def Dev.lineDrop (d : Dev) (c : Nat) : Dev :=
  let l := marksOf (d.blob 43 c).length (d.blob 43 c)
  let d := l.foldr (fun e a => ((a.incSat F.STR_CNT_DROPF e.1).irq 0x2A 3).setVar V.strBuf e.1 e.2) (d.setBlob 43 c [])
  d.each ((List.range 6).filter (fun k => d.get F.STR_CFG_DMACH k == c && d.var V.strOpen k == 1)) (fun k a => (a.setVar V.strBad k 1).setBlob 44 k [])

/-- OWNER of a channel (R435, R489): a stream that is on or has a frame in progress names it, or lines of a stream wait in it. -/
def Dev.dmaOwner (d : Dev) (c : Nat) : Dev :=
  d.set F.DMA_CH_CFG_OWNER c (bit ((List.range 6).any (fun n => (d.on F.STR_CFG_EN n || d.var V.strOpen n == 1) && d.get F.STR_CFG_DMACH n == c) ||
    d.blob 43 c != [] || (d.on F.DMA_CH_CFG_OWNER c && d.get F.DMA_CH_STAT_STATE c != 0)))

/-- A channel takes a state; leaving PARKED clears the park fields. -/
def Dev.dmaState (d : Dev) (c st : Nat) : Dev :=
  let was := d.get F.DMA_CH_STAT_STATE c
  let d := (d.set F.DMA_CH_STAT_STATE c st).when (st != 1) (fun a => a.set F.DMA_CH_STAT_PREEMPTED c 0)
  (d.when (was == 3) (fun a => a.parkClear c)).dmaFaults

/-- Source and destination bytes at which a channel stands. -/
def DmaChan.srcAt (x : DmaChan) : Nat := toBits 64 ((x.src : Int) + x.row * x.sstr + x.read)

/-- The next byte to write. -/
def DmaChan.dstAt (x : DmaChan) : Nat := toBits 64 ((x.dst : Int) + x.row * x.dstr + x.done)

/-- What an IDLE channel of a stream does next (R435, R489): the line that waits first becomes its internal descriptor, with its data present. Where the lines of a frame are
all written, the frame is posted, and ARRIVE is the Grove time of the last byte's write. `n` bounds the entries looked at. -/
def Dev.lineNext (d : Dev) (c n : Nat) : Dev :=
  match n with
  | 0 => d
  | n + 1 =>
    let b := d.blob 43 c
    if b = [] ∨ d.get F.DMA_CH_STAT_STATE c ≠ 0 then d
    else if 128 ≤ b.headD 0 then
      let k := b.headD 0 - 128
      let d := (d.setBlob 43 c (b.drop 13)).incSat F.STR_CNT_FRAMES k
      Dev.lineNext (d.framePost (d.get F.STR_CFG_SEN k) (leAt b 9 4) (leAt b 1 8) (d.var V.strWroteAt c).toNat) c n
    else
      let m := leAt b 9 4
      let x : DmaChan := { DmaChan.none_ with len := m, dst := leAt b 1 8, rows := 1, read := m, held := (b.drop 13).take m, fetched := true }
      (((d.setBlob 43 c (b.drop (13 + m))).setVar V.dmaLast (4 * c) (-1)).setChan c x).dmaState c 1

/-- The channel of a stream is IDLE and goes on with what waits. -/
def Dev.lineGo (d : Dev) (c : Nat) : Dev := ((d.lineNext c (d.blob 43 c).length).dmaOwner c).dmaFaults

/-- DMA_GO (R484, R489, R501): an IDLE channel of software starts its chain; elsewhere the command is ignored with BCODE 0x1. -/
def Dev.dmaGo (d : Dev) (c : Nat) : Dev :=
  if d.get F.DMA_CH_STAT_STATE c ≠ 0 ∨ d.on F.DMA_CH_CFG_OWNER c then d.errBlk 0x0A 1 0
  else
    let d := ((d.set F.DMA_CH_STAT_NDESC c 0).set F.DMA_CH_STAT_REFAULT c 0).set F.DMA_CH_CUR_CUR c (d.get F.DMA_CH_DESC_DESC c / 64 * 64)
    (((d.setVar V.dmaLast (4 * c) (-1)).setVar V.dmaFly c 0).setChan c DmaChan.none_).dmaState c 1

def execDmaGo (a : Acc) (s : State) : Host.Outcome State Fault Refusal := s.upd (fun d => d.wrCh 0x0A 0x110 a (fun c d => d.dmaGo c))

/-- DMA_FAULT (R494, R497): one of the channel's faulting transactions shows its fault; `later` picks the last of them. The channel enters PARKING and
what came after that point is discarded. In PARKING an earlier fault moves the point back and sets MULTI. A stream loses its
frame, and ETH reports it (R436, R462). -/
def Dev.dmaFault (d : Dev) (c : Nat) (later : Bool) : Dev :=
  let out := d.dmaOut c
  let st := d.get F.DMA_CH_STAT_STATE c
  match out with
  | [] => d
  | p :: t =>
    if st ≠ 1 ∧ st ≠ 2 then d
    else
      let keep := if later then out.dropLast else []
      let pt := if later then (p :: t).getLastD p else p
      let rest := d.dmaBad.filter (fun e => e.1 != c && e.1 != 64 + c)
      let d : Dev := { d with dmaBad := rest ++ keep.map (fun q => (c, q)) ++ [(64 + c, pt)] }
      let d := ((d.setVar V.dmaMulti c (bit (st == 2))).setVar V.dmaAt c d.now).dmaState c 2
      if d.on F.DMA_CH_CFG_OWNER c ∧ st = 1 then (d.lineDrop c).errBlk 0x2A 2 1 else d

def execDmaFault (c : Fin 64) (later : Bool) (s : State) : Host.Outcome State Fault Refusal := s.upd (fun d => d.dmaFault c later)

/-- The channel parks at a point (R493, R494): the fault record and the park state. -/
def Dev.dmaPark (d : Dev) (c : Nat) (p : DmaPoint) : Dev :=
  let x := { p.point with parks := min 255 (p.point.parks + 1) }
  let e := c / 16
  let seq := (d.get F.DMA_ENG_FSEQ_SEQ e + 1) % 2 ^ 32
  let same := d.var V.dmaLast (4 * c) == d.get F.DMA_CH_CUR_CUR c && d.var V.dmaLast (4 * c + 1) == x.row && d.var V.dmaLast (4 * c + 2) == x.done
  let d := (d.when same (fun a => a.incSat F.DMA_CH_STAT_REFAULT c)).setVar V.dmaLast (4 * c) (d.get F.DMA_CH_CUR_CUR c)
  let d := ((d.setVar V.dmaLast (4 * c + 1) x.row).setVar V.dmaLast (4 * c + 2) x.done).setChan c x
  let d := (d.flyDown c 64).dmaState c 3
  let d := (((d.set F.DMA_CH_FREC_KIND c p.kind).set F.DMA_CH_FREC_WR c (bit p.wrote)).set F.DMA_CH_FREC_MULTI c (d.var V.dmaMulti c).toNat).set
    F.DMA_CH_FREC_CAUSE c p.cause
  let d := ((d.set F.DMA_CH_FADDR_FADDR c p.addr).set F.DMA_CH_FTIME_FTIME c (d.var V.dmaAt c).toNat).set F.DMA_CH_FSEQ_FSEQ c seq
  let d := d.set F.DMA_ENG_FSEQ_SEQ e seq
  let d := ((d.set F.DMA_CH_DONE_DONE c x.done).set F.DMA_CH_ROW_ROW c x.row).set F.DMA_CH_HOLDN_HOLDN c x.held.length
  let d := if p.kind = 5 then (d.useFree.useFree.set F.DMA_CH_SRCN_SRC_NEXT c d.freeVal).set F.DMA_CH_DSTN_DST_NEXT c d.useFree.freeVal
    else (d.set F.DMA_CH_SRCN_SRC_NEXT c x.srcAt).set F.DMA_CH_DSTN_DST_NEXT c x.dstAt
  let d := d.each (List.range 16) (fun k a => a.set F.DMA_CH_HOLD_W (16 * c + k) (leAt x.held (4 * k) 4))
  ((d.irq 0x0A 2).cone 0x0A 0x101).errBlk 0x0A (if p.kind = 4 then 4 else 3) (if p.kind = 4 then 1 else 0)

/-- DMA_PARKED (R494): every earlier transaction has completed without a fault, and the channel parks. -/
def Dev.dmaParked (d : Dev) (c : Nat) : Dev :=
  match d.parkAt c with
  | some p => if d.get F.DMA_CH_STAT_STATE c = 2 ∧ d.dmaOut c = [] then d.dmaPark c p else d
  | none => d

def execDmaParked (c : Fin 64) (s : State) : Host.Outcome State Fault Refusal := s.upd (fun d => d.dmaParked c)

/-- After a descriptor: the next one in chain order (R487), or IDLE with CHAINEND after LAST (R488, R496); after a line of a stream what waits next (R489). -/
def Dev.dmaNext (d : Dev) (c : Nat) : Dev :=
  let x := d.chan c
  if d.on F.DMA_CH_CFG_OWNER c then ((d.setChan c DmaChan.none_).dmaState c 0).lineGo c
  else if tbit x.ctrl 9 then ((d.setChan c DmaChan.none_).dmaState c 0).irq 0x0A 1
  else ((d.set F.DMA_CH_CUR_CUR c (x.nextD / 64 * 64)).setChan c DmaChan.none_).dmaState c 1

/-- The end of a descriptor (R484, R487, R488, R496), once its writes are acknowledged: with CMPL its STATUS and CSTAMP are written in one write, whole or not at
all; a completion write that fails is a faulting write. -/
def State.dmaEnd (s : State) (c : Nat) (skipped : Bool) : State :=
  let x := s.dev.chan c
  let cur := s.dev.get F.DMA_CH_CUR_CUR c
  let status := (if skipped then 2 else 1) + 256 * x.parks
  let fail := fun (s : State) (f : AccessFail) (at_ : Nat) =>
    ({ s with dev := s.dev.dmaFail c ⟨(writeFail f).1, (writeFail f).2, true, at_, { x with read := x.done, held := [], ended := true }⟩ } : State)
  let ended := fun (s : State) =>
    let d := s.dev.when (tbit x.ctrl 8) (fun a => a.irq 0x0A 0)
    ({ s with dev := (d.when (!skipped) (fun a => a.incWrap F.DMA_CH_STAT_NDESC c)).dmaNext c } : State)
  if tbit x.ctrl 11 && !s.dev.on F.DMA_CH_CFG_OWNER c then
    match s.devOpen (0x200 + c) (cur + 28) 4 true with
    | (s, .error f) => fail s f (cur + 28)
    | (s, .ok pages) =>
      match s.dev.accessBad (cur + 56) 8 pages true with
      | some f => fail s f (cur + 56)
      | none => ended ((State.devStore { s with dev := s.dev.cone 0x08 0x101 2 } (cur + 28) pages 0 (leBytes 4 status)).devStore (cur + 56) pages 0
          (leBytes 8 s.dev.now.toNat))
  else ended s

/-- DMA_DESCRIPTOR_DONE (R487, R488): every write of the descriptor is acknowledged. -/
def State.dmaDone (s : State) (c : Nat) : State :=
  if s.dev.get F.DMA_CH_STAT_STATE c = 1 ∧ (s.dev.chan c).ended = true ∧ s.dev.dmaOut c = [] then
    State.dmaEnd { s with dev := s.dev.flyDown c 64 } c false
  else s

def execDmaDescriptorDone (c : Fin 64) (s : State) : Host.Outcome State Fault Refusal := .next (s.dmaDone c)

/-- A command that does not fit the channel's state (R496). -/
def Dev.dmaUnfit (d : Dev) : Dev := d.errBlk 0x0A 2 0

/-- DMA_SKIP (R496). After KIND DESCFETCH the descriptor is not known, and the command does not fit (log entry 21). -/
def State.dmaSkip (s : State) (c : Nat) : State :=
  if s.dev.get F.DMA_CH_STAT_STATE c ≠ 3 ∨ s.dev.get F.DMA_CH_FREC_KIND c = 5 then { s with dev := s.dev.dmaUnfit }
  else State.dmaEnd { s with dev := s.dev.dmaState c 1 } c true

def execDmaSkip (a : Acc) (s : State) : Host.Outcome State Fault Refusal := .next (s.wrCh 0x0A 0x110 a (fun c s => s.dmaSkip c))

/-- DMA_RESUME (R495, R496): the channel continues from its park point, and fetches its descriptor again after kinds 5 and 6. For a stream's channel it
acts as SKIP. -/
def State.dmaResume (s : State) (c : Nat) : State :=
  if s.dev.get F.DMA_CH_STAT_STATE c ≠ 3 then { s with dev := s.dev.dmaUnfit }
  else if s.dev.on F.DMA_CH_CFG_OWNER c then s.dmaSkip c
  else
    let k := s.dev.get F.DMA_CH_FREC_KIND c
    let x := s.dev.chan c
    let d := if k = 5 ∨ k = 6 then s.dev.setChan c { DmaChan.none_ with parks := x.parks } else s.dev
    { s with dev := d.dmaState c 1 }

def execDmaResume (a : Acc) (s : State) : Host.Outcome State Fault Refusal := .next (s.wrCh 0x0A 0x110 a (fun c s => s.dmaResume c))

/-- DMA_ABORT (R496, R497): a PARKED channel returns to IDLE; an ACTIVE or PREEMPTED one goes through ABORTING. -/
def Dev.dmaAbort (d : Dev) (c : Nat) : Dev :=
  match d.get F.DMA_CH_STAT_STATE c with
  | 3 => (((d.setChan c DmaChan.none_).dmaState c 0).irq 0x0A 3).when (d.on F.DMA_CH_CFG_OWNER c) (fun a => a.lineGo c)
  | 1 => (d.dmaState c 4).when (d.on F.DMA_CH_CFG_OWNER c) (fun a => a.lineDrop c)
  | _ => d.dmaUnfit

def execDmaAbort (a : Acc) (s : State) : Host.Outcome State Fault Refusal := s.upd (fun d => d.wrCh 0x0A 0x110 a (fun c d => d.dmaAbort c))

/-- DMA_ABORT_DONE (R497): the issued transactions of an ABORTING channel are complete. -/
def Dev.dmaAbortDone (d : Dev) (c : Nat) : Dev :=
  if d.get F.DMA_CH_STAT_STATE c = 4 then
    let d := ({ d with dmaBad := d.dmaBad.filter (fun e => e.1 != c) } : Dev).flyDown c 64
    (((d.setChan c DmaChan.none_).dmaState c 0).irq 0x0A 3).when (d.on F.DMA_CH_CFG_OWNER c) (fun a => a.lineGo c)
  else d

def execDmaAbortDone (c : Fin 64) (s : State) : Host.Outcome State Fault Refusal := s.upd (fun d => d.dmaAbortDone c)

/-- DMA_ENGINE_CLEAR (R502). -/
def execDmaEngineClear (a : Acc) (e : Fin 4) (s : State) : Host.Outcome State Fault Refusal :=
  s.upd (fun d => d.wr 0x0A (0x1018 + 0x1000 * e.val) a (fun d => d.set F.DMA_ENG_STAT_MAXINF e 0))

/-- A line of a stream goes to its channel as an internal descriptor, behind those that wait (R489); a channel that parks takes none, and the frame is lost (R436).
Lines wait without bound (log entry 214). -/
def Dev.lineGive (d : Dev) (k at_ : Nat) (l : List Nat) : Dev :=
  let c := d.get F.STR_CFG_DMACH k
  let st := d.get F.DMA_CH_STAT_STATE c
  if l = [] then d
  else if 2 ≤ st ∨ (st = 1 ∧ !d.on F.DMA_CH_CFG_OWNER c) then d.setVar V.strBad k 1
  else ((d.set F.DMA_CH_CFG_OWNER c 1).setBlob 43 c (d.blob 43 c ++ lineEntry k at_ l)).lineGo c

end Sys2Proof.Machine
end

