-- ==== Sys2Proof/Machine/Signals.lean ====
section
/-! DEFINITION. The supported GNSS signals, and what GNRF, GNAQ and GNTK share: when a path's samples turn invalid, channels coast and
captures end (spec/04_gnss_front_end_acquisition.md, spec/05_gnss_tracking_measurements.md). -/

namespace Sys2Proof.Machine

/-- A row of the signal tables (R118, R148): code, carrier in kHz, chip rate in chips per second, primary code period in ms, group, whether band modes LOW
and HIGH carry it, WINDOW acquisition, first and last PRN (0, 0 for GLONASS), whether a data component is tracked by phase, the component that is acquired
and tracked, and the symbols delivered per second. -/
structure Sig where
  code : Nat
  khz : Nat
  cps : Nat
  per : Nat
  grp : Nat
  low : Bool
  high : Bool
  win : Bool
  lo : Nat
  hi : Nat
  data : Bool
  comp : String
  sps : Nat

/-- The signal table. -/
def sigTable : List Sig := [
  ⟨0x01, 1575420, 1023000, 1, 0, true, true, false, 1, 32, true, "C/A", 50⟩,
  ⟨0x02, 1575420, 1023000, 10, 0, true, true, true, 1, 63, false, "L1Cp", 100⟩,
  ⟨0x03, 1227600, 511500, 20, 1, true, true, true, 1, 32, true, "CM", 50⟩,
  ⟨0x04, 1176450, 10230000, 1, 1, true, false, false, 1, 32, false, "Q5", 100⟩,
  ⟨0x11, 1575420, 1023000, 4, 0, true, true, true, 1, 50, false, "E1-C", 250⟩,
  ⟨0x12, 1176450, 10230000, 1, 1, true, false, false, 1, 50, false, "E5a-Q", 50⟩,
  ⟨0x13, 1207140, 10230000, 1, 1, true, true, false, 1, 50, false, "E5b-Q", 250⟩,
  ⟨0x14, 1278750, 5115000, 1, 2, true, true, false, 1, 50, false, "E6-C", 1000⟩,
  ⟨0x21, 1561098, 2046000, 1, 0, true, true, false, 1, 63, true, "B1I", 50⟩,
  ⟨0x22, 1575420, 1023000, 10, 0, true, true, true, 1, 63, false, "pilot", 100⟩,
  ⟨0x23, 1176450, 10230000, 1, 1, true, false, false, 1, 63, false, "pilot", 200⟩,
  ⟨0x24, 1268520, 10230000, 1, 2, true, true, false, 1, 63, true, "B3I", 50⟩,
  ⟨0x31, 1602000, 511000, 1, 0, true, true, false, 0, 0, true, "data", 100⟩,
  ⟨0x32, 1246000, 511000, 1, 1, false, true, false, 0, 0, true, "data", 100⟩,
  ⟨0x41, 1575420, 1023000, 1, 0, true, true, false, 193, 202, true, "data", 50⟩,
  ⟨0x42, 1227600, 511500, 20, 1, true, true, true, 193, 202, true, "CM", 50⟩,
  ⟨0x43, 1176450, 10230000, 1, 1, true, false, false, 193, 202, false, "Q5", 100⟩,
  ⟨0x44, 1278750, 2557500, 4, 2, true, true, true, 193, 202, false, "L6D", 250⟩,
  ⟨0x51, 1176450, 1023000, 1, 1, true, false, false, 1, 14, true, "data", 50⟩,
  ⟨0x61, 1575420, 1023000, 1, 0, true, true, false, 120, 158, true, "data", 500⟩]

/-- Symbols per second of a satellite's signal (R148): B1I and B3I of PRN 1 to 5 and 59 to 63 carry 500. -/
def Sig.rate (g : Sig) (prn : Nat) : Nat :=
  if (g.code = 0x21 ∨ g.code = 0x24) ∧ ((1 ≤ prn ∧ prn ≤ 5) ∨ 59 ≤ prn) then 500 else g.sps

/-- The signal of a code, if the module supports it. -/
def sigOf (code : Nat) : Option Sig := sigTable.find? (fun g => g.code == code)

/-- PRN and GLOK are in range for the signal (R129). -/
def sigSatOk (g : Sig) (prn glok : Nat) : Bool :=
  if g.lo = 0 then glok != 8 && glok != 7 else decide (g.lo ≤ prn) && decide (prn ≤ g.hi)

/-- Carrier in kHz, the GLONASS channel included in units that keep it whole (R118): 1 kHz times 2. -/
def carrier2 (g : Sig) (glok : Nat) : Int :=
  2 * g.khz + (if g.code = 0x31 then 1125 * ofBits 4 glok else if g.code = 0x32 then 875 * ofBits 4 glok else 0)

/-- The path is enabled and its samples are valid. -/
def Dev.pathOk (d : Dev) (p : Nat) : Bool := d.on F.GNRF_PATH_CFG_EN p && d.var V.pathValid p == 1

/-- The band mode of the antenna carries the signal (R112, R118). -/
def Dev.bandOk (d : Dev) (ant : Nat) (g : Sig) : Bool :=
  if g.grp ≠ 1 then true else if d.on F.GNRF_PATH_CFG_BMODE.act (3 * ant + 1) then g.high else g.low

/-- The path that a tracking channel uses. -/
def Dev.trkPath (d : Dev) (c : Nat) : Nat :=
  3 * d.get F.GNTK_CH_CFG_ANT c + (match sigOf (d.get F.GNTK_CH_CFG_SIG c) with | some g => g.grp | none => 0)

/-- A channel is in PULLIN, TRACKF or LOCK. -/
def Dev.trkLive (d : Dev) (c : Nat) : Bool := decide (1 ≤ d.get F.GNTK_CH_STAT_STATE c) && decide (d.get F.GNTK_CH_STAT_STATE c ≤ 3)

/-- A channel that tracks a data component (R148). -/
def Dev.trkData (d : Dev) (c : Nat) : Bool := match sigOf (d.get F.GNTK_CH_CFG_SIG c) with | some g => g.data | none => false

/-- A channel that leaves TRACKF or LOCK, other than for the other of the two, owes a record of the symbols it has collected (R166). -/
def Dev.navLeave (d : Dev) (c : Nat) : Dev :=
  if (d.get F.GNTK_CH_STAT_STATE c = 2 ∨ d.get F.GNTK_CH_STAT_STATE c = 3) ∧ d.past 9 c ≠ [] then d.setVar V.navDue c 1 else d

/-- A channel enters COAST: its NCOs run on, and AMB returns to 0 (R151, R156). Sync is kept (log entry 209). -/
def Dev.trkCoast (d : Dev) (c : Nat) : Dev :=
  ((((d.navLeave c).set F.GNTK_CH_STAT_STATE c 4).set F.GNTK_CH_STAT_AMB c 0).setVar V.cnHi c (-1)).mark V.coastAt c

/-- A channel enters LOST with a cause (R151). -/
def Dev.trkLost (d : Dev) (c cause : Nat) : Dev :=
  (((d.navLeave c).set F.GNTK_CH_STAT_STATE c 5).set F.GNTK_CH_STAT_LCAUSE c cause).irq 0x12 2

/-- A cycle slip (R151, R155, R156, R163). -/
def Dev.trkSlip (d : Dev) (c : Nat) : Dev :=
  let d := (((d.incSat F.GNTK_CH_SLIPS_CNT c).setVar V.slipF c 1).setVar V.slipNav c 1).cone 0x12 0x101
  let d := (d.mark V.lockAt c).set F.GNTK_CH_STAT_AMB c 0
  if d.trkData c then d.setVar V.hca c 1 else d

/-- Path of the entry in service of an engine. -/
def Dev.acqEnt (d : Dev) (e : Nat) : Nat := e * 128 + d.get F.GNAQ_ENG_STAT_ENTRY e

/-- Path that an acquisition entry names. -/
def Dev.acqPath (d : Dev) (k : Nat) : Nat :=
  3 * d.get F.ENT_CFG0_ANT k + (match sigOf (d.get F.ENT_CFG0_SIG k) with | some g => g.grp | none => 0)

/-- The list of an engine goes on at the first enabled entry from `i` on. Past entry 127 it ends with LISTDONE, or with LOOP at 1 goes on from the START that
GO read (R133, R142). Where no entry is enabled the list ends all the same: with LOOP the spec has it run on without serving anything (log entry 163). -/
def Dev.acqSeek (d : Dev) (e i : Nat) : Dev :=
  let from_ := fun (n : Nat) => (List.range 128).find? (fun j => decide (n ≤ j) && d.on F.ENT_CFG0_EN (e * 128 + j))
  let next := match from_ i with
    | some j => some j
    | none => if d.on F.GNAQ_ENG_CTRL_LOOP e then from_ (d.var V.acqStart e).toNat else none
  match next with
  | some j => ((((d.set F.GNAQ_ENG_STAT_ENTRY e j).set F.GNAQ_ENG_STAT_STATE e 1).setVar V.acqPhase e 1).setVar V.acqFlags e 0).setVar V.acqClip e 0
  | none => ((d.set F.GNAQ_ENG_STAT_STATE e 0).setVar V.acqPhase e 0).irq 0x11 (4 + e)

/-- SAT: more than 1 % of the path's converter samples since the start of the capture have clipped (R132); 204,600 samples a millisecond. -/
def Dev.acqSat (d : Dev) (e : Nat) : Dev :=
  if d.var V.acqPhase e = 3 ∧ 204600 * d.since V.acqCapAt e < 6553600000000 * d.var V.acqClip e ∧ tbit (d.var V.acqFlags e).toNat 1 = false then
    d.setVar V.acqFlags e (d.var V.acqFlags e + 2) else d

/-- The results of an entry (R127): PEAK, RATIO, code phase and bin of the winning cell. -/
structure AcqRes where
  peak : Nat
  ratio : Nat
  cph : Nat
  bin : Nat

/-- The entry in service ends with a status and its results; the list goes on, loops or ends (R127, R128, R133). The flags of the capture count whatever
the status (R132). -/
def Dev.acqEnd (d : Dev) (e status : Nat) (r : AcqRes) (t0 : Nat) (goOn : Bool) : Dev :=
  let k := d.acqEnt e
  let d := d.acqSat e
  let d := ((((d.set F.ENT_RES_STATUS k status).set F.ENT_RES_FLAGS k (d.var V.acqFlags e).toNat).set F.ENT_PEAK_PEAK k r.peak).set
    F.ENT_RES_RATIO k r.ratio).set F.ENT_CPH_CPH k r.cph
  let d := (d.set F.ENT_CPH_BIN k r.bin).set F.ENT_T0_T0 k t0
  let d := (d.incWrap F.GNAQ_ENG_DONE_CNT e).when (d.on F.ENT_CFG0_IRQ k) (fun a => a.irq 0x11 e)
  if !goOn then (d.set F.GNAQ_ENG_STAT_STATE e 0).setVar V.acqPhase e 0
  else if d.on F.ENT_CFG0_LAST k then d.acqSeek e 128
  else d.acqSeek e (d.get F.GNAQ_ENG_STAT_ENTRY e + 1)

/-- An entry ends with a status for which the spec gives no result words: they are free values (log entry 9). -/
def Dev.acqEndFree (d : Dev) (e status : Nat) (goOn : Bool) : Dev :=
  let n := d.free
  ({ d with free := n + 5 } : Dev).acqEnd e status ⟨Config.free n, Config.free (n + 1), Config.free (n + 2), Config.free (n + 3)⟩
    (Config.free (n + 4)) goOn

/-- A path's samples turn invalid: its channels coast (R154) and a capture on it ends with RFCHG (R128). -/
def Dev.pathDown (d : Dev) (p : Nat) : Dev :=
  let d := (d.setVar V.pathValid p 0).setVar V.pfInv p 1
  let d := d.each ((List.range 600).filter (fun c => d.trkLive c && d.trkPath c == p)) (fun c a => a.trkCoast c)
  d.each [0, 1, 2] (fun e a =>
    if a.var V.acqPhase e = 3 ∧ a.acqPath (a.acqEnt e) = p then (a.setVar V.heldOk e 0).acqEnd e 4 ⟨0, 0, 0, 0⟩ 0 true else a)

/-- A notch of a path is assigned or released (R132, R164, R140). -/
def Dev.notchChange (d : Dev) (p : Nat) : Dev :=
  let d := (d.setVar V.pfNotch p 1).irq 0x10 (4 + p)
  d.each [0, 1, 2] (fun e a =>
    if a.var V.acqPhase e = 3 ∧ a.acqPath (a.acqEnt e) = p ∧ tbit (a.var V.acqFlags e).toNat 0 = false
    then a.setVar V.acqFlags e (a.var V.acqFlags e + 1) else a)

/-- A state of an antenna that the flags ANTFLT name (R132, R164). -/
def antBad (st : Nat) : Bool := st != 1 && st != 5

/-! ### Medians and correlation cells -/

/-- Inserts in ascending order. -/
def insertAsc (x : Int) (l : List Int) : List Int :=
  match l with
  | [] => [x]
  | y :: t => if x ≤ y then x :: y :: t else y :: insertAsc x t

/-- Median of a list; of an even count the mean of the two in the middle (log entry 13). -/
def median (l : List Int) : Int :=
  let s := l.foldr insertAsc []
  if s.length % 2 = 1 then s.getD (s.length / 2) 0 else (s.getD (s.length / 2 - 1) 0 + s.getD (s.length / 2) 0) / 2

/-- A sample of a snapshot (R122): I in bits 3:0, Q in bits 7:4. -/
def snapSample (l : List Nat) (k : Nat) : Int × Int := (ofBits 4 (l.getD k 0 % 16), ofBits 4 (l.getD k 0 / 16 % 16))

/-- A sample times the conjugate of a replica's, added to a sum. -/
def mulAcc (a x r : Int × Int) : Int × Int := (a.1 + x.1 * r.1 + x.2 * r.2, a.2 + x.2 * r.1 - x.1 * r.2)

/-- Samples per millisecond of a snapshot (R121). -/
def Sig.samples (g : Sig) : Nat := if g.win then 32768 else 65536

/-- The non-coherent sum of one cell (R124, R125): `n` sums of `t` ms each, coherent within, for code phase `tau` in samples: from the start of the code in
FULL mode, of window `w` in WINDOW mode. FULL mode correlates circularly with each millisecond of the replica; in WINDOW mode the replica runs on into the
next millisecond. -/
def Sig.cell (g : Sig) (prn glok : Nat) (dop : Int) (t n w tau : Nat) (l : List Nat) : Int :=
  let m := g.samples
  (List.range n).foldl (fun s b =>
    let c := (List.range (t * m)).foldl (fun a i =>
      let k := b * (t * m) + i
      let pos := if g.win then w * m + tau + k else k / m * m + (k + tau) % m
      mulAcc a (snapSample l k) (Config.replica g.code prn glok dop k pos)) (0, 0)
    s + (c.1 * c.1 + c.2 * c.2)) 0

/-- A cell of a search: its bin and its code phase in 2^-16 ms as one number, and its sum. -/
abbrev Cell := Int × Int

/-- The key of a cell. -/
def cellKey (bin cph : Nat) : Int := bin * 2097152 + cph

/-- Code phase of a cell, 2^-16 ms. -/
def Cell.cph (c : Cell) : Nat := (c.1 % 2097152).toNat

/-- Bin of a cell. -/
def Cell.bin (c : Cell) : Nat := (c.1 / 2097152).toNat

/-- The first cell with the largest sum. -/
def bestCell (l : List Cell) : Cell := l.foldl (fun b c => if b.2 < c.2 then c else b) (0, -1)

/-- Two cells lie within `h` half chips of each other in code phase, around the code. -/
def Sig.near (g : Sig) (h : Nat) (x y : Cell) : Bool :=
  let p : Int := g.per * 65536
  let e := ((x.cph : Int) - y.cph) % p
  decide (2 * min e (p - e) * g.cps ≤ (h : Int) * 65536000)

/-- PEAK of a cell in its bin step (R127): its sum over the mean of the cells more than 2 chips away, in 1/256; none where that mean is 0. -/
def Sig.peak (g : Sig) (w : Cell) (l : List Cell) : Option Nat :=
  let o := l.filter (fun c => !g.near 4 w c)
  let t := (o.map (·.2)).foldl (· + ·) 0
  if t ≤ 0 then none else some (min (256 * w.2 * o.length / t).toNat 0xFFFFFFFF)

/-- RATIO of the winner (R127): its sum over the largest one of the entry more than 1.5 chips away, in 1/256; none where that is 0. -/
def Sig.ratio (g : Sig) (w : Cell) (l : List Cell) : Option Nat :=
  let o := bestCell (l.filter (fun c => !g.near 3 w c))
  if o.2 ≤ 0 then none else some (min (256 * w.2 / o.2).toNat 0xFFFF)

end Sys2Proof.Machine
end

