-- ==== Sys2Proof/Machine/Track.lean ====
section
/-! DEFINITION. GNTK: the tracking channels (spec/05_gnss_tracking_measurements.md, R147 to R156, R166). -/

namespace Sys2Proof.Machine

/-- The present instant of a channel's carrier phase, in 1/64,000,000,000,000 of 1/1024 cycle (R163: it rises by DOP times elapsed time). -/
def Dev.carrAt (d : Dev) (c : Nat) (u : Int) : Int := d.var V.carrS c + d.var V.dopV c * (u - d.var V.carrU c)

/-- The transmit time of a channel at an instant, 2^-32 ms, extrapolated by the rate of its code NCO (R152, R158). -/
def Dev.codeAt (d : Dev) (c : Nat) (u : Int) : Int :=
  let f : Int := match sigOf (d.get F.GNTK_CH_CFG_SIG c) with | some g => carrier2 g (d.get F.GNTK_CH_CFG_GLOK c) * 500000 | none => 1
  d.var V.codeV c + (u - d.var V.codeU c) * 65536 * (f + d.var V.codeDop c) / (1000000 * f)

/-- Primary code period of a channel's signal, ms. -/
def Dev.trkPer (d : Dev) (c : Nat) : Nat := match sigOf (d.get F.GNTK_CH_CFG_SIG c) with | some g => g.per | none => 1

/-- The period, ms, modulo which CODE is given (R156). -/
def Dev.ambMs (d : Dev) (c : Nat) : Nat :=
  match d.get F.GNTK_CH_STAT_AMB c with
  | 1 => max 1 (d.var V.syncP c).toNat
  | 2 => 65536
  | _ => d.trkPer c

/-- The channel enters IDLE. -/
def Dev.trkIdle (d : Dev) (c : Nat) : Dev :=
  (((((d.navLeave c).set F.GNTK_CH_STAT_STATE c 0).set F.GNTK_CH_STAT_AMB c 0).set F.GNTK_CH_STAT_CN0 c 0).set F.GNTK_CH_STAT_PLI c 0).setVar V.syncP c 0

/-- The channel enters PULLIN (R151, R155): its run timers start anew, and HCA sets. -/
def Dev.trkPullin (d : Dev) (c : Nat) : Dev :=
  let d := ((d.set F.GNTK_CH_STAT_STATE c 1).mark V.pullAt c).setVar V.hca c 1
  (((d.setVar V.pliHi c (-1)).setVar V.pliLo c (-1)).setVar V.cnLo c (-1)).setVar V.cnHi c (-1)

/-- BADCFG: SIG, PRN, GLOK or ANT is invalid, or the path's band mode does not carry SIG (R152, R187). -/
def Dev.trkBad (d : Dev) (c : Nat) : Bool :=
  match sigOf (d.get F.GNTK_CH_CFG_SIG c) with
  | none => true
  | some g => !sigSatOk g (d.get F.GNTK_CH_CFG_PRN c) (d.get F.GNTK_CH_CFG_GLOK c) || d.get F.GNTK_CH_CFG_ANT c == 3 ||
      !d.bandOk (d.get F.GNTK_CH_CFG_ANT c) g

/-- Grove instant of INIT_T0, 2^-16 ns: of the instants whose whole ms end in the register's 32 bits, the one nearest to the present. -/
def Dev.initAt (d : Dev) (c : Nat) : Int :=
  (d.now / 1000000 - ofBits 32 (toBits 32 (d.now / 1000000 - d.get F.GNTK_CH_INIT_T0_T0 c))) * 65536000000

/-- A start of a channel (R152): refused into LOST with OLDINIT or BADCFG; else the code phase is projected from INIT_T0 to the present by
the code rate that INIT_DOP implies, and the channel enters PULLIN. A path whose samples are invalid puts it in COAST at once (R154). OLDINIT goes before BADCFG (log entry 208). -/
def Dev.trkStart (d : Dev) (c : Nat) : Dev :=
  let d := (((((d.set F.GNTK_CH_CFG_EN c 1).set F.GNTK_CH_SLIPS_CNT c 0).setVar V.codeMove c 0).set F.GNTK_CH_STAT_AMB c
    0).setVar V.syncP c 0).setVar V.towMs c (-1)
  if 1000 * 65536000000 < d.var V.grove 0 - d.initAt c then d.trkLost c 1
  else if d.trkBad c then d.trkLost c 2
  else
    let u := d.var V.uptime 0
    let t0 := u - (d.var V.grove 0 - d.initAt c)
    let d := (d.setVar V.codeDop c (d.getI F.GNTK_CH_INIT_DOP_DOP c)).setPast 9 c []
    let d := (((((d.setPast 11 c []).setPast 12 c []).setVar V.navDue c 0).setVar V.dllMem c 0).setVar V.fllMem c 0).setVar V.pllMem c 0
    let d := ((d.setVar V.dopV c (d.getI F.GNTK_CH_INIT_DOP_DOP c)).setVar V.codeV c (d.get F.GNTK_CH_INIT_CPH_CPH c * 65536)).setVar V.codeU c t0
    let d := (((((d.setVar V.codeV c (d.codeAt c u)).setVar V.codeU c u).setVar V.carrS c 0).setVar V.carrU c u).setVar V.symInv c 0).setVar
      V.halfAdd c 0
    let d := d.setVar V.intC c (d.var V.codeV c)
    let d := (((d.setVar V.slipF c 0).setVar V.slipNav c 0).setVar V.mpmV c 0).trkPullin c
    if d.pathOk (d.trkPath c) then d else d.trkCoast c

/-- TRACK_START (R152): EN goes from 0 to 1. -/
def execTrackStart (a : Acc) (s : State) : Host.Outcome State Fault Refusal :=
  s.upd (fun d => d.wrCh 0x12 0x100 a (fun c d => if d.on F.GNTK_CH_CFG_EN c then d else d.trkStart c) (fun c d => d.changes F.GNTK_CH_CFG_EN c 1))

/-- TRACK_STOP (R151, R187): EN goes to 0, and the channel enters IDLE at once. -/
def execTrackStop (a : Acc) (s : State) : Host.Outcome State Fault Refusal :=
  s.upd (fun d => d.wrCh 0x12 0x100 a (fun c d => if d.on F.GNTK_CH_CFG_EN c then (d.set F.GNTK_CH_CFG_EN c 0).trkIdle c else d) (fun c d => d.changes F.GNTK_CH_CFG_EN c 0))

/-- Start of a run: kept while the condition holds, -1 where it does not. -/
def Dev.run (d : Dev) (x : Vr) (i : Nat) (c : Bool) : Dev :=
  if !c then d.setVar x i (-1) else if d.var x i < 0 then d.mark x i else d

/-- A run has lasted at least `ms` milliseconds. -/
def Dev.runFor (d : Dev) (x : Vr) (i : Nat) (ms : Int) : Bool := decide (0 ≤ d.var x i) && d.passed x i (ms * 1000000)

/-- ELSP, VESP and MPOFF as they act (R149): a value out of range acts as the nearest in range. -/
def Dev.taps (d : Dev) (c : Nat) : Int × Int × Int :=
  let e := clamp 1 64 (d.get F.GNTK_CH_TAPS_ELSP.act c)
  (e, clamp e 64 (d.get F.GNTK_CH_TAPS_VESP.act c), clamp (-96) 96 (ofBits 8 (d.get F.GNTK_CH_TAPS_MPOFF.act c)))

/-- Milliseconds of a symbol of a data-tracked channel (R148). -/
def Dev.symMs (d : Dev) (c : Nat) : Nat :=
  match sigOf (d.get F.GNTK_CH_CFG_SIG c) with | some g => max g.per (1000 / g.rate (d.get F.GNTK_CH_CFG_PRN c)) | none => 1

/-- Integration length in ms (R150): TINT, 1 to 20, in whole primary code periods; one period until SYNC; at most one symbol on a data-tracked channel. -/
def Dev.trkLen (d : Dev) (c : Nat) : Nat :=
  let p := d.trkPer c
  let t := (min (max 1 (d.get F.GNTK_CH_LOOP_TINT.act c)) 20 + p - 1) / p * p
  if d.var V.syncP c = 0 then p else if d.trkData c then min t (d.symMs c) else t

/-- Number of the integration that a transmit time lies in: they follow one another, and after SYNC a data-tracked channel starts one at every symbol edge. -/
def Dev.trkBlock (d : Dev) (c : Nat) (code : Int) : Int :=
  let n : Int := d.trkLen c * 4294967296
  let s : Int := if d.var V.syncP c ≠ 0 ∧ d.trkData c then d.symMs c * 4294967296 else n
  code / s * (s / n + 1) + code % s / n

/-- Squared magnitude of a correlator sum. -/
def power (x : Int × Int) : Int := x.1 * x.1 + x.2 * x.2

/-- The powers of a tap over the last 200 ms, the newest first (R163). -/
def Dev.powers (d : Dev) (l c : Nat) (x : Int × Int) : List (Int × Int) :=
  let u := d.var V.uptime 0
  (u, power x) :: (d.past l c).filter (fun e => decide (u - e.1 ≤ 13107200000000))

/-- C/N0 from the prompt and noise-tap powers (R163), and the runs that the states follow (R151). -/
def Dev.trkCn0 (d : Dev) (c : Nat) (o : TrkIn) : Dev :=
  let d := (d.setPast 11 c (d.powers 11 c (o.tap 0))).setPast 12 c (d.powers 12 c o.nt)
  let sum := fun (l : Nat) => ((d.past l c).map (·.2)).foldl (· + ·) 0
  let cn := min (Config.cn0 (sum 11) (sum 12)) 1023
  let th := d.get F.GNTK_CH_THR_LOSSTH.act c * 10
  ((d.set F.GNTK_CH_STAT_CN0 c cn).run V.cnLo c (decide (cn < th))).run V.cnHi c (decide (th + 30 ≤ cn))

/-- One loop's filter over an integration (R150): its output and its new memory. -/
def Dev.trkLoop (d : Dev) (loop order bw len : Nat) (num den : Int) (x : Vr) (c : Nat) : Int × Dev :=
  (Config.loopOut loop order bw len num den (d.var x c), d.setVar x c (Config.loopMem loop order bw len num den (d.var x c)))

/-- The DLL (R149, R150): the normalised early-minus-late envelope, of VE and VL in PULLIN; the code NCO follows the carrier with AID at 1 and the DLL alone
without. Answers the correction of the code phase. -/
def Dev.trkDll (d : Dev) (c : Nat) (o : TrkIn) : Int × Dev :=
  let k := d.taps c
  let x := if d.get F.GNTK_CH_STAT_STATE c = 1 then k.2.1 else k.1
  let e : Int := Config.envelope (o.tap (-x))
  let l : Int := Config.envelope (o.tap x)
  let ord := d.get F.GNTK_CH_LOOP_DLLORD.act c + 1
  let bw := min (max 1 (d.get F.GNTK_CH_BW_DLLBW.act c)) 1000
  let d := if d.on F.GNTK_CH_LOOP_AID.act c then d.setVar V.codeDop c (d.var V.dopV c)
    else d.setVar V.codeDop c (d.var V.codeDop c + Config.loopOut 3 ord bw (d.trkLen c) (e - l) (e + l) (d.var V.dllMem c))
  d.trkLoop 0 ord bw (d.trkLen c) (e - l) (e + l) V.dllMem c

/-- FLL and PLL (R150, R151): the FLL alone in PULLIN, both in TRACKF, the PLL alone in LOCK. The FLL takes the cross product over the halves of the
integration, the PLL the two-quadrant arctangent of a data component and the four-quadrant one of a pilot. -/
def Dev.trkCarrier (d : Dev) (c : Nat) (o : TrkIn) : Dev :=
  let st := d.get F.GNTK_CH_STAT_STATE c
  let n := d.trkLen c
  let f := d.trkLoop 1 (d.get F.GNTK_CH_LOOP_FLLORD.act c + 1) (max 1 (d.get F.GNTK_CH_BW_FLLBW.act c)) n
    (o.h1.1 * o.h2.2 - o.h1.2 * o.h2.1) (o.h1.1 * o.h2.1 + o.h1.2 * o.h2.2) V.fllMem c
  let d := if st = 3 then d else f.2.setVar V.dopV c (d.var V.dopV c + f.1)
  let a := Config.angle (o.tap 0)
  let q := if d.trkData c then (a + 1073741824) % 2147483648 - 1073741824 else a
  let p := d.trkLoop 2 (d.get F.GNTK_CH_LOOP_PLLORD.act c + 2) (max 1 (d.get F.GNTK_CH_BW_PLLBW.act c)) n q 4294967296 V.pllMem c
  if st = 1 then d else p.2.setVar V.dopV c (d.var V.dopV c + p.1)

/-- MPM (R163): the MP tap's amplitude minus its ideal value, over the prompt amplitude, rounded to the nearest 1/1024; a free value where that is 0 (log
entry 169). -/
def Dev.trkMpm (d : Dev) (c : Nat) (o : TrkIn) : Dev :=
  let k := (d.taps c).2.2
  let p := Config.envelope (o.tap 0)
  if p = 0 then (d.setVar V.mpmV c (ofBits 16 (d.freeVal % 65536))).useFree
  else d.setVar V.mpmV c (clamp (-32768) 32767
    (roundAway (1024 * ((Config.envelope (o.tap k) : Int) - Config.mpIdeal (d.get F.GNTK_CH_CFG_SIG c) k p)) p))

/-- Length of a symbol that a channel delivers, 2^-32 ms (R148). -/
def Dev.symLen (d : Dev) (c : Nat) : Int :=
  match sigOf (d.get F.GNTK_CH_CFG_SIG c) with | some g => 4294967296000 / g.rate (d.get F.GNTK_CH_CFG_PRN c) | none => 4294967296000

/-- Whether NAV was 1 at an instant of `uptime` (R187): history 27 holds its changes, the newest first. -/
def Dev.navAt (d : Dev) (c : Nat) (u : Int) : Bool :=
  match (d.past 27 c).find? (fun e => decide (e.1 ≤ u)) with
  | some e => e.2 == 1
  | none => match (d.past 27 c).getLast? with
    | some e => e.2 != 1
    | none => d.on F.GNTK_CH_CFG_NAV c

/-- Time since the code NCO stood at a transmit time, 2^-16 ns: `code` is where it stands now. -/
def Dev.codeAgo (d : Dev) (c : Nat) (code x : Int) : Int :=
  let f : Int := match sigOf (d.get F.GNTK_CH_CFG_SIG c) with | some g => carrier2 g (d.get F.GNTK_CH_CFG_GLOK c) * 500000 | none => 1
  (code - x) * (1000000 * f) / (65536 * (f + d.var V.codeDop c))

/-- Symbols collected by a channel in TRACKF or LOCK that is synchronised (R148, R155, R166, R187; history 9): those that ended since the last integration,
as the code NCO passed their trailing edges, and in whose leading edge NAV was 1. Each goes with the Grove time of that edge in whole ns; binary ones are
inverted where INV says so. Until a record that is due is written no symbol is added. -/
def Dev.trkSyms (d : Dev) (c : Nat) (last code : Int) (o : TrkIn) : Dev :=
  let st := d.get F.GNTK_CH_STAT_STATE c
  let n := d.symLen c
  if d.var V.syncP c = 0 ∨ o.sync = 0 ∨ d.var V.navDue c = 1 ∨ ¬(st = 2 ∨ st = 3) then d
  else
    let v := fun (x : Nat) => if d.get F.GNTK_CH_CFG_SIG c = 0x44 then x % 256 else if d.var V.symInv c = 1 then 1 - x % 2 else x % 2
    let l := (List.range (code / n - last / n).toNat).filterMap (fun (k : Nat) =>
      let ago := d.codeAgo c code ((last / n + k) * n)
      if d.navAt c (d.var V.uptime 0 - ago) then some ((d.var V.grove 0 - ago) / 65536, (v (o.syms.getD k 0) : Int)) else none)
    d.setPast 9 c (d.past 9 c ++ l)

/-- The channel is synchronised (R150, R156): the transmit time takes the number of the primary code period within the period that it has synchronised to, and
AMB is 1. -/
def Dev.trkSync (d : Dev) (c epoch : Nat) : Dev :=
  let p : Int := d.trkPer c * 4294967296
  let new := d.var V.codeV c % p + epoch * p
  ((d.setVar V.intC c (d.var V.intC c + new - d.var V.codeV c)).setVar V.codeV c new).set F.GNTK_CH_STAT_AMB c 1

/-- TRACK_INTEGRATION (R148 to R151, R155, R156): an integration ends when the code NCO has run through its length. It updates C/N0, the loops, the NCOs, the
phase-lock indicator, the multipath metric and the synchronisation, and collects symbols; a carrier-phase jump of more than 1/4 cycle is a slip. In COAST
only C/N0 is taken, since the NCOs run on. Where the channel comes to another synchronisation its transmit time is numbered anew. -/
def Dev.trkStep (d : Dev) (c : Nat) (o : TrkIn) : Dev :=
  let st := d.get F.GNTK_CH_STAT_STATE c
  let u := d.var V.uptime 0
  let code := d.codeAt c u
  if st = 0 ∨ st = 5 ∨ ¬ d.running 0x12 ∨ d.trkBlock c code ≤ d.trkBlock c (d.var V.intC c) then d
  else
    let last := d.var V.intC c
    let d := (d.setVar V.intC c code).trkCn0 c o
    if st = 4 then d
    else
      let d := ((d.setVar V.carrS c (d.carrAt c u)).setVar V.carrU c u).trkCarrier c o
      let x := d.trkDll c o
      let d := ((x.2.setVar V.codeV c (code + x.1)).setVar V.codeU c u).trkMpm c o
      let d := d.trkSyms c last code o
      let d := if o.sync ≠ 0 ∧ (d.get F.GNTK_CH_STAT_AMB c = 0 ∨ d.get F.GNTK_CH_STAT_AMB c = 1 ∧ d.var V.syncP c ≠ o.sync) then d.trkSync c o.epoch else d
      let d := d.setVar V.syncP c o.sync
      let d := if ¬ d.trkData c ∧ o.sync ≠ 0 ∧ d.get F.GNTK_CH_CFG_SIG c ≠ 0x44 then d.setVar V.hca c 0 else d
      let pli := min (Config.pli (d.trkData c) (o.tap 0)) 1023
      let d := ((d.set F.GNTK_CH_STAT_PLI c pli).run V.pliHi c (decide (87040 ≤ pli * 100))).run V.pliLo c (decide (pli * 100 < 71680))
      if (st = 2 ∨ st = 3) ∧ 256 < |o.jump| then d.trkSlip c else d

def execTrackIntegration (c : Fin 600) (o : TrkIn) (s : State) : Host.Outcome State Fault Refusal := s.upd (fun d => d.trkStep c o)

/-- One chip of a channel's signal, 2^-32 ms (R118). -/
def Dev.chipLen (d : Dev) (c : Nat) : Int := match sigOf (d.get F.GNTK_CH_CFG_SIG c) with | some g => 4294967296000 / g.cps | none => 0

/-- PULLIN_DONE (R151, R153): after 100 ms of PULLIN with C/N0 at least LOSSTH the channel enters TRACKF. Pull-in succeeds where the projected code phase lay
within 1 chip of the signal (`cerr`, 2^-32 ms) and the Doppler within 500 Hz (`derr`, mHz); beyond them it does not (log entry 170). -/
def Dev.pullinDone (d : Dev) (c : Nat) (cerr derr : Int) : Dev :=
  if d.get F.GNTK_CH_STAT_STATE c == 1 && d.passed V.pullAt c 100000000 && decide (|cerr| ≤ d.chipLen c) && decide (|derr| ≤ 500000) &&
      decide (d.get F.GNTK_CH_THR_LOSSTH.act c * 10 ≤ d.get F.GNTK_CH_STAT_CN0 c)
  then (d.set F.GNTK_CH_STAT_STATE c 2).setVar V.pliHi c (-1) else d

def execPullinDone (x : PullIn) (s : State) : Host.Outcome State Fault Refusal := s.upd (fun d => d.pullinDone x.ch x.code x.dop)

/-- PULLIN_TIMEOUT (R151): a PULLIN of 2 s enters LOST with PULLFAIL. -/
def Dev.pullinTimeout (d : Dev) (c : Nat) : Dev :=
  if d.get F.GNTK_CH_STAT_STATE c == 1 && d.passed V.pullAt c 2000000000 then d.trkLost c 3 else d

def execPullinTimeout (c : Fin 600) (s : State) : Host.Outcome State Fault Refusal := s.upd (fun d => d.pullinTimeout c)

/-- PHASE_LOCK (R151): PLI of at least 0.85 for 100 ms takes TRACKF to LOCK. L6D is free of the half-cycle ambiguity from here on (R148). -/
def Dev.phaseLock (d : Dev) (c : Nat) : Dev :=
  if d.get F.GNTK_CH_STAT_STATE c == 2 && d.runFor V.pliHi c 100 then
    let d := ((d.set F.GNTK_CH_STAT_STATE c 3).mark V.lockAt c).setVar V.pliLo c (-1)
    if d.get F.GNTK_CH_CFG_SIG c = 0x44 then d.setVar V.hca c 0 else d
  else d

def execPhaseLock (c : Fin 600) (s : State) : Host.Outcome State Fault Refusal := s.upd (fun d => d.phaseLock c)

/-- LOCK_LOSS (R151): PLI below 0.70 for 20 ms takes LOCK to TRACKF, as a slip. -/
def Dev.lockLoss (d : Dev) (c : Nat) : Dev :=
  if d.get F.GNTK_CH_STAT_STATE c == 3 && d.runFor V.pliLo c 20 then
    ((d.trkSlip c).set F.GNTK_CH_STAT_STATE c 2).setVar V.pliHi c (-1)
  else d

def execLockLoss (c : Fin 600) (s : State) : Host.Outcome State Fault Refusal := s.upd (fun d => d.lockLoss c)

/-- COAST_ENTRY (R151): C/N0 below LOSSTH over 200 ms. -/
def Dev.coastEntry (d : Dev) (c : Nat) : Dev := if d.trkLive c && d.runFor V.cnLo c 200 then d.trkCoast c else d

def execCoastEntry (c : Fin 600) (s : State) : Host.Outcome State Fault Refusal := s.upd (fun d => d.coastEntry c)

/-- COAST_RECOVER (R151, R154): C/N0 of at least LOSSTH + 3 dB over 20 ms, on valid samples, returns COAST to PULLIN. -/
def Dev.coastRecover (d : Dev) (c : Nat) : Dev :=
  if d.get F.GNTK_CH_STAT_STATE c == 4 && d.runFor V.cnHi c 20 && d.pathOk (d.trkPath c) then d.trkPullin c else d

def execCoastRecover (c : Fin 600) (s : State) : Host.Outcome State Fault Refusal := s.upd (fun d => d.coastRecover c)

/-- COAST_END (R151, R187): COAST has lasted COAST_T, at most 10 s. -/
def Dev.coastEnd (d : Dev) (c : Nat) : Dev :=
  if d.get F.GNTK_CH_STAT_STATE c == 4 && d.passed V.coastAt c ((min (d.get F.GNTK_CH_THR_COAST_T.act c) 100 : Nat) * 100000000) then d.trkLost c 4
  else d

def execCoastEnd (c : Fin 600) (s : State) : Host.Outcome State Fault Refusal := s.upd (fun d => d.coastEnd c)

/-- HALF_CYCLE_RESOLVE (R155): a CH_HC write with RESOLVE clears HCA of a data-tracked channel; INV adds half a cycle to CARR from the next
epoch and inverts the symbols. A pilot-tracked channel ignores it. -/
def execHalfCycleResolve (a : Acc) (resolve inv : Bool) (s : State) : Host.Outcome State Fault Refusal :=
  s.upd (fun d => d.wrCh 0x12 0x124 a (fun c d =>
    if resolve && d.trkData c then
      let d := d.setVar V.hca c 0
      if inv then (d.setVar V.halfAdd c (d.var V.halfAdd c + 1)).setVar V.symInv c (1 - d.var V.symInv c) else d
    else d))

/-- Epochs by which a named epoch lies behind the last latched one; negative for one to come. -/
def Dev.epochAge (d : Dev) (seq16 : Nat) : Int := ofBits 16 (toBits 16 ((d.get F.GNTK_EPSEQ_SEQ 0 : Int) - seq16))

/-- TOW_WRITE (R156): the write waits for the next epoch; one that names an epoch more than 16 epochs old is ignored with BCODE 0x3. -/
def execTowWrite (a : Acc) (ms seq : BitVec 16) (s : State) : Host.Outcome State Fault Refusal :=
  s.upd (fun d => d.wrCh 0x12 0x128 a (fun c d =>
    if 16 < d.epochAge seq.toNat then d.errBlk 0x12 3 0
    else (d.setVar V.towMs c ms.toNat).setVar V.towSeq c seq.toNat))

/-- Symbols that fill a record: 4 code-shift symbols or 32 binary ones (R166). -/
def Dev.navFull (d : Dev) (c : Nat) : Nat := if d.get F.GNTK_CH_CFG_SIG c = 0x44 then 4 else 32

/-- The 16 bytes of a symbol record (R166): the first edge, the channel, the count, the flags and the symbols, the first in bit 0. -/
def Dev.navBytes (d : Dev) (c : Nat) (l : List (Int × Int)) : List Nat :=
  let cs := d.get F.GNTK_CH_CFG_SIG c == 0x44
  let v := l.foldr (fun e n => e.2.toNat + n * (if cs then 256 else 2)) 0
  leBytes 8 (match l.head? with | some e => e.1.toNat | none => 0) ++ leBytes 2 c ++
    [l.length, (d.var V.hca c).toNat + 2 * (d.var V.slipNav c).toNat + 4 * bit cs] ++ leBytes 4 v

/-- The symbols of the record that a channel is to write now, if any: a full record, or what it holds where it has left TRACKF and LOCK. -/
def Dev.navReady (d : Dev) (c : Nat) : Option (List (Int × Int)) :=
  let l := d.past 9 c
  if d.navFull c ≤ l.length then some (l.take (d.navFull c)) else if d.var V.navDue c = 1 ∧ l ≠ [] then some l else none

/-- NAV_RECORD (R166): a channel writes the symbols of a record into the symbol ring; a full ring, or a write that fails, drops the record. -/
def State.navRecord (s : State) (c : Nat) : State :=
  let d := s.dev
  match d.navReady c with
  | none => s
  | some l =>
    let size := 256 * 2 ^ min (d.get F.GNTK_NAV_CFG_SIZE.act 0) 8
    let w := d.get F.GNTK_NAV_WR_IDX 0 % size
    let b := d.navBytes c l
    let rest := (d.past 9 c).drop l.length
    let s : State := { s with dev := ((d.setVar V.slipNav c 0).setPast 9 c rest).when rest.isEmpty (fun a => a.setVar V.navDue c 0) }
    let drop := fun (s : State) => ({ s with dev := (s.dev.incSat F.GNTK_NAVDROP_CNT 0).irq 0x12 7 } : State)
    if (w + 1) % size = d.get F.GNTK_NAV_RD_IDX 0 % size then drop s
    else match s.devWrite 0x0120 (d.get F.GNTK_NAV_BASE.act 0 / 4096 * 4096 + 16 * w) b with
      | (s, none) => { s with dev := s.dev.set F.GNTK_NAV_WR_IDX 0 ((w + 1) % size) }
      | (s, some _) => drop s

def execNavRecord (c : Fin 600) (_ _ _ : Unit) (s : State) : Host.Outcome State Fault Refusal := .next (s.navRecord c)

end Sys2Proof.Machine
end

