-- ==== Sys2Proof/Machine/Epoch.lean ====
section
/-! DEFINITION. GNTK's epochs and their checks, the jamming detector, the guard, and the time pulse of GNTP
(spec/05_gnss_tracking_measurements.md, R157 to R192). -/

namespace Sys2Proof.Machine

/-! ### The guard -/

/-- SGV and CONTRA take values; a change sets GUARD (R189). A fall of SGV asks for a new REARM (R176). -/
def Dev.guardShow (d : Dev) (sgv contra : Bool) : Dev :=
  let o1 := d.on F.GNTK_GUARD_STAT_SGV 0
  let o2 := d.on F.GNTK_GUARD_STAT_CONTRA 0
  let d := (d.set F.GNTK_GUARD_STAT_SGV 0 (bit sgv)).set F.GNTK_GUARD_STAT_CONTRA 0 (bit contra)
  let d := if o1 && !sgv then d.setVar V.rearmed 0 0 else d
  if o1 != sgv || o2 != contra then d.irq 0x12 5 else d

/-- An epoch is one of the last CNT_BAD epochs, by the CNT_BAD that the last pair took (R176, R177, R188). -/
def Dev.pvtFresh (d : Dev) (q : Int) : Bool := decide (0 ≤ q) && decide ((d.get F.GNTK_EPSEQ_SEQ 0 : Int) - q < d.var V.cntBadV 0)

/-- The conditions of SGV but for the REARM (R176); EGOREQ as the last epoch took it (R188). -/
def Dev.guardOk (d : Dev) : Bool :=
  d.on F.GNTK_GUARD_CFG_EN 0 && !d.on F.GNTK_GUARD_STAT_CONTRA 0 && d.var V.pvtOkSg 0 == 1 && d.pvtFresh (d.var V.pvtLast 0) &&
    (d.var V.egoReqE 0 == 0 || d.var V.pvtEgo 0 == 1)

/-- SGV follows its conditions, and PVTOK and EGOOK theirs: a valid pair within CNT_BAD epochs, whatever pairs came after it (R176, R177). -/
def Dev.guardEval (d : Dev) : Dev :=
  let d := (d.set F.GNTK_GUARD_STAT_PVTOK 0 (bit (d.pvtFresh (d.var V.pvtOkLast 0)))).set F.GNTK_GUARD_STAT_EGOOK 0
    (bit (d.var V.egoVal (d.get F.GNTK_EPSEQ_SEQ 0 % 8) == 1))
  d.guardShow (d.guardOk && d.var V.rearmed 0 == 1) (d.on F.GNTK_GUARD_STAT_CONTRA 0)

/-- GUARD_REARM (R176): REARM counts only while the other conditions hold. -/
def execGuardRearm (a : Acc) (s : State) : Host.Outcome State Fault Refusal :=
  s.upd (fun d => d.wr 0x12 0x8C4 a (fun d => if d.guardOk then (d.setVar V.rearmed 0 1).guardEval else d))

/-- PVT_SPEED_WRITE (R174). -/
def execPvtSpeedWrite (a : Acc) (seq spd : BitVec 16) (s : State) : Host.Outcome State Fault Refusal :=
  s.upd (fun d => d.wr 0x12 0x8B8 a (fun d => (d.setVar V.pvtSpd 0 spd.toNat).setVar V.pvtSeq 0 seq.toNat))

/-- An accepted pair with VALID (R175): whether it disagrees, CONTRA's counts, and EGO's slip estimate (R205). The difference takes the sign of EGO's speed (log entry 210). -/
def Dev.pvtJudge (d : Dev) (k : Nat) (rate : Int) : Dev :=
  let v := d.var V.egoSpd k
  let ds := d.var V.pvtSpd 0 - v
  let dy := rate - d.var V.egoYaw k
  let bad := decide ((d.get F.GNTK_GUARD_TH_SPD_TH 0 : Int) * 100 + d.get F.GNTK_GUARD_TH_SPD_REL 0 * |v| < 100 * |ds|) ||
    (decide (1000 < d.var V.pvtSpd 0) && decide (1000 < v) && decide ((d.get F.GNTK_GUARD_TH_YAW_TH 0 : Int) < |dy|))
  let d := (d.setI F.GNTK_GUARD_STAT_DSPD 0 (clamp (-32768) 32767 ds)).setVar V.dYaw 0 dy
  let d := (d.setVar V.pvtBad 0 (if bad then d.var V.pvtBad 0 + 1 else 0)).setVar V.pvtGood 0 (if bad then 0 else d.var V.pvtGood 0 + 1)
  let was := d.on F.GNTK_GUARD_STAT_CONTRA 0
  let now := if was then decide (d.var V.pvtGood 0 < d.var V.cntGoodV 0) else decide (d.var V.cntBadV 0 ≤ d.var V.pvtBad 0)
  let d := d.guardShow (d.on F.GNTK_GUARD_STAT_SGV 0) now
  let d := if now && !was then ((d.errBlk 0x12 5 1).mark V.contraAt 0).slipBits true (d.on F.EGO_STAT_SLIPUNK 0) else d
  let d := if was && !now then d.slipBits false (d.on F.EGO_STAT_SLIPUNK 0) else d
  d.slipUpdate (d.var V.pvtSpd 0) v

/-- PVT_SUBMIT (R174 to R176): a GNTK_PVT_YAW write submits the pair; without a matching GNTK_PVT_SPD, or for an epoch that is not among the
last 8, it is rejected with PVTREJ. -/
def execPvtSubmit (a : Acc) (sg valid : Bool) (rate : BitVec 16) (s : State) : Host.Outcome State Fault Refusal :=
  s.upd (fun d => d.wr 0x12 0x8BC a (fun d =>
    let q := d.var V.pvtSeq 0
    let d := d.setVar V.pvtSeq 0 (-1)
    match (List.range 8).find? (fun k => decide (0 ≤ q) && decide (0 ≤ d.var V.egoSeq k) && d.var V.egoSeq k % 65536 == q) with
    | none => d.irq 0x12 6
    | some k =>
      let d := ((d.setVar V.pvtLast 0 (d.var V.egoSeq k)).setVar V.pvtOkSg 0 (bit (valid && sg))).setVar V.pvtEgo 0 (d.var V.egoVal k)
      let d := d.when valid (fun a => a.setVar V.pvtOkLast 0 (max (a.var V.pvtOkLast 0) (a.var V.egoSeq k)))
      let d := (d.setVar V.cntBadV 0 (max 1 (d.get F.GNTK_GUARD_CFG_CNT_BAD 0))).setVar V.cntGoodV 0 (max 1 (d.get F.GNTK_GUARD_CFG_CNT_GOOD 0))
      let d := d.setVar V.holdTV 0 (d.get F.EGO_SLIP_CFG_HOLD_T 0)
      (if valid then d.pvtJudge k rate.toInt else d).guardEval))

/-! ### The latch -/

/-- The TOW write of a channel acts (R156): the channel keeps its fraction and takes the multiple of its period nearest to MS. -/
def Dev.towApply (d : Dev) (c : Nat) (u : Int) : Dev :=
  if d.var V.towMs c < 0 then d
  else
    let p : Int := (if d.var V.syncP c = 0 then (d.trkPer c : Int) else d.var V.syncP c) * 4294967296
    let want := (d.var V.towMs c + d.epochAge (d.var V.towSeq c).toNat * (d.get F.GNTK_EPOCH_CFG_EPER.act 0 : Int)) * 4294967296
    let code := d.codeAt c u
    let err := (code + d.var V.codeMove c - want + p / 2) % p - p / 2
    let new := want + err - d.var V.codeMove c
    let d := d.setVar V.intC c (d.var V.intC c + (new - code))
    (((d.setVar V.codeV c new).setVar V.codeU c u).set F.GNTK_CH_STAT_AMB c 2).setVar V.towMs c (-1)

/-- Milliseconds of LOCK without a slip (R163). -/
def Dev.lockMs (d : Dev) (c : Nat) : Nat :=
  if d.get F.GNTK_CH_STAT_STATE c = 3 then min (d.since V.lockAt c / 65536000000).toNat 0xFFFFFF else 0

/-- The channel's latched measurements, at an exact instant (R158, R163). CODE has moved with the steps of Grove time (R159). The tracked code phase stays (log entry 212). -/
def Dev.latchCh (d : Dev) (c : Nat) (u : Int) : Dev :=
  if d.get F.GNTK_CH_STAT_STATE c = 0 then d
  else
    let d := d.towApply c u
    let d := (d.setVar V.carrS c (d.var V.carrS c + d.var V.halfAdd c * 512 * 64000000000000)).setVar V.halfAdd c 0
    let d := d.setVar V.latFull c (d.codeAt c u + d.var V.codeMove c)
    let d := ((d.setVar V.latCode c (d.var V.latFull c % (d.ambMs c * 4294967296))).setVar V.latCarr c (d.carrAt c u / 64000000000000)).setVar V.latDop c
      (d.var V.dopV c)
    ((d.setVar V.latLock c (d.lockMs c)).setVar V.latMpm c (d.var V.mpmV c)).setVar V.latBits c
      (d.get F.GNTK_CH_STAT_CN0 c + d.get F.GNTK_CH_STAT_AMB c * 1024 + d.get F.GNTK_CH_STAT_STATE c * 4096 + d.var V.hca c * 32768)

/-- Channels in TRACKF or LOCK. -/
def Dev.trkGood (d : Dev) : List Nat :=
  (List.range 600).filter (fun c => d.get F.GNTK_CH_STAT_STATE c == 2 || d.get F.GNTK_CH_STAT_STATE c == 3)

/-- Sets a flag of a latched record. -/
def Dev.latFlag (d : Dev) (c b : Nat) : Dev :=
  if tbit (d.var V.latFlags c).toNat b then d else d.setVar V.latFlags c (d.var V.latFlags c + (2 ^ b : Nat))

/-- Cross-frequency check of two channels (R168). Differences are in 2^-32 ms; light travels 299,792,458 m in 1,000 ms. -/
def Dev.crossFreq (d : Dev) (u : Int) (x y : Nat) : Dev :=
  let same := d.get F.GNTK_CH_CFG_ANT x == d.get F.GNTK_CH_CFG_ANT y && d.get F.GNTK_CH_CFG_SIG x / 16 == d.get F.GNTK_CH_CFG_SIG y / 16 &&
    d.get F.GNTK_CH_CFG_PRN x == d.get F.GNTK_CH_CFG_PRN y && d.get F.GNTK_CH_CFG_SIG x != d.get F.GNTK_CH_CFG_SIG y
  if !same then d.setPast 2 (600 * x + y) []
  else
    let p : Int := min (d.trkPer x) (d.trkPer y) * 4294967296
    let df := (d.var V.latFull x - d.var V.latFull y + p / 2) % p - p / 2
    let old := (d.past 2 (600 * x + y)).filter (fun e => decide (u - e.1 ≤ 65536000000000))
    let th : Int := d.get F.GNTK_XF_CFG_XF_TH 0
    let bad := decide ((d.get F.GNTK_XF_CFG_XF_ABS 0 : Int) * 1000 * 4294967296 < |df| * 299792458) ||
      old.any (fun e => decide (th * 500 * 4294967296 < |df - e.2| * 299792458))
    let d := d.setPast 2 (600 * x + y) ((u, df) :: old)
    if bad then (d.latFlag x 1).latFlag y 1 else d

/-- Code minus carrier of a channel, 2^-32 ms (R169): both grow as the range grows. -/
def Dev.codeCarrier (d : Dev) (c : Nat) (inst : Int) : Int :=
  let f : Int := match sigOf (d.get F.GNTK_CH_CFG_SIG c) with | some g => carrier2 g (d.get F.GNTK_CH_CFG_GLOK c) * 500 | none => 1
  inst * 4294967296 / 1000000 - d.var V.latFull c + d.var V.latCarr c * 4294967296 * 1000 / (1024 * f)

/-- Code-carrier divergence of a channel (R169). The change is taken modulo the primary code period, by whole multiples of which alone a change of AMB moves
the transmit time. -/
def Dev.divergence (d : Dev) (u inst : Int) (c : Nat) : Dev :=
  if d.get F.GNTK_CH_STAT_STATE c ≠ 3 then (d.setPast 1 c []).setVar V.latCcd c 0
  else
    let q := d.codeCarrier c inst
    let win : Int := max 1 (d.get F.GNTK_XF_CFG_CCD_WIN 0) * 65536000000000
    let l := (u, q) :: (if d.var V.slipF c = 1 then [] else (d.past 1 c).filter (fun e => decide (u - e.1 ≤ win)))
    let p : Int := d.trkPer c * 4294967296
    let q0 := match l.getLast? with | some e => e.2 | none => q
    let ch := (q - q0 + p / 2) % p - p / 2
    let cm := ch * 29979245800 / (1000 * 4294967296)
    let d := (d.setPast 1 c l).setVar V.latCcd c (clamp (-32768) 32767 cm)
    if (d.get F.GNTK_XF_CFG_CCD_TH 0 : Int) * 10 < |cm| then d.latFlag c 2 else d

/-- Epochs from one check epoch to the next (R170). -/
def checkEvery (eper : Nat) : Nat := if 20 ≤ eper then 1 else if eper = 10 then 2 else if eper = 8 then 3 else 4

/-- The second difference of a channel's code range over three consecutive check epochs, without what changes of TIME_RATE explain (R170),
2^-32 ms; none where fewer are known. -/
def Dev.secondDiff (d : Dev) (c : Nat) (per : Int) : Option Int :=
  match d.past 3 c with
  | r0 :: r1 :: r2 :: _ =>
    let p : Int := d.trkPer c * 4294967296
    let raw := r0.2 - 2 * r1.2 + r2.2 - per * 4294967296 * (d.getI F.TIME_RATE_RATE 0 - d.var V.rateH1 0) / 256000000000
    some ((raw + p / 2) % p - p / 2)
  | _ => none

/-- The checks against the clock model at a check epoch (R170). -/
def Dev.jumpCheck (d : Dev) (inst : Int) (per : Int) : Dev :=
  let good := d.trkGood
  let d := d.each ((List.range 600).filter (fun c => !good.contains c && (d.past 3 c) != [])) (fun c a => a.setPast 3 c [])
  let d := d.each good (fun c a => a.setPast 3 c (((inst, inst * 4294967296 / 1000000 - a.var V.latFull c) :: a.past 3 c).take 3))
  let res := good.filterMap (fun c => (d.secondDiff c per).map (fun r => (c, r)))
  let m := median (res.map (·.2))
  let cj := decide (d.get F.GNTK_CJ_CFG_CJ_MIN 0 ≤ res.length) && decide (res ≠ []) &&
    decide ((d.get F.GNTK_CJ_CFG_CJ_TH 0 : Int) * 500 * 4294967296 < |m| * 299792458)
  let d := ((d.setI F.GNTK_CLKRES_RES 0 (m * 29979245800 / (1000 * 4294967296))).set F.GNTK_INTF_CJUMP 0 (bit cj)).setVar V.cjump 0 (bit cj)
  let d := if cj then (d.each (res.map (·.1)) (fun c a => a.latFlag c 4)).irq 0x12 4 else d
  let d := res.foldl (fun a e => if (a.get F.GNTK_CJ_CFG_SJ_TH 0 : Int) * 500 * 4294967296 < |e.2 - m| * 299792458 then a.latFlag e.1 3 else a) d
  d.setVar V.rateH1 0 (d.getI F.TIME_RATE_RATE 0)

/-- C/N0 plausibility of one antenna (R171): the deviation is that of its channels in LOCK, the flag goes to all its channels. -/
def Dev.flatCheck (d : Dev) (ant : Nat) : Dev :=
  let l := (List.range 600).filter (fun c => d.get F.GNTK_CH_STAT_STATE c == 3 && d.get F.GNTK_CH_CFG_ANT c == ant)
  let xs := l.map (fun c => d.get F.GNTK_CH_STAT_CN0 c)
  let n := l.length
  let sum := xs.foldl (· + ·) 0
  let sq := (xs.map (fun x => x * x)).foldl (· + ·) 0
  let flat := decide (0 < n) && decide (d.get F.GNTK_FLAT_CFG_FLAT_N 0 ≤ n) &&
    decide (n * sq < sum * sum + d.get F.GNTK_FLAT_CFG_FLAT_SD 0 * d.get F.GNTK_FLAT_CFG_FLAT_SD 0 * n * n)
  let old := d.get F.GNTK_INTF_CN0FLAT 0
  let d := d.set F.GNTK_INTF_CN0FLAT 0 (old - bit (tbit old ant) * 2 ^ ant + bit flat * 2 ^ ant)
  if flat then d.each ((List.range 600).filter (fun c => d.get F.GNTK_CH_STAT_STATE c != 0 && d.get F.GNTK_CH_CFG_ANT c == ant)) (fun c a => a.latFlag c 6)
  else d

/-- FLAGS of a channel but those of the checks (R164). -/
def Dev.plainFlags (d : Dev) (c : Nat) : Nat :=
  let p := d.trkPath c
  bit (d.var V.slipF c == 1) + 32 * bit (decide (5 * d.get F.GNTK_CJ_CFG_CN0_MAX 0 < d.get F.GNTK_CH_STAT_CN0 c)) +
  128 * bit (d.get F.GNTK_INTF_JAM 0 / 4 ^ p % 4 != 0) + 256 * bit (d.var V.pfNotch p == 1) +
  512 * bit (decide (204600 * d.var V.pfMs 0 < 100 * d.var V.pfSat p)) + 1024 * bit (d.var V.pfAnt (d.get F.GNTK_CH_CFG_ANT c) == 1 || antBad (d.get F.GNRF_ANT_STAT_STATE (d.get F.GNTK_CH_CFG_ANT c))) +
  2048 * bit (d.var V.pfInv p == 1 || !d.pathOk p) + 4096 * bit (d.var V.epochStep 0 == 1) + 8192 * bit (d.var V.syncP c != 0) +
  16384 * bit (d.get F.GNTK_CH_STAT_STATE c == 3 && decide (300 ≤ d.get F.GNTK_CH_STAT_CN0 c))

/-- Header byte of a path (R162). -/
def Dev.pathByte (d : Dev) (p : Nat) : Nat :=
  d.get F.GNTK_INTF_JAM 0 / 4 ^ p % 4 + 4 * bit ((List.range 4).any (fun n => d.on F.GNRF_NOTCH_STAT_ACTIVE (4 * p + n))) +
    8 * bit (decide (204600 * d.var V.pfMs 0 < 100 * d.var V.pfSat p))

/-- All pairs of a list, the earlier first. -/
def pairsOf (l : List Nat) : List (Nat × Nat) :=
  match l with
  | [] => []
  | x :: t => t.map (fun y => (x, y)) ++ pairsOf t

/-- EGO as latched at the epoch (R174, R204). -/
def Dev.egoLatch (d : Dev) : Dev :=
  let k := d.get F.GNTK_EPSEQ_SEQ 0 % 8
  (((d.setVar V.egoSpd k (d.getI F.EGO_SPEED_V 0)).setVar V.egoYaw k (d.getI F.EGO_YAWRATE_W 0)).setVar V.egoVal k
    (d.get F.EGO_STAT_VALID 0)).setVar V.egoSeq k (d.get F.GNTK_EPSEQ_SEQ 0)

/-- The 32-byte record of a channel, as latched (R160, R163). -/
def Dev.chRecord (d : Dev) (c : Nat) : List Nat :=
  if d.get F.GNTK_CH_STAT_STATE c = 0 then List.replicate 32 0
  else
    leBytes 6 (d.var V.latCode c).toNat ++ leBytes 5 (toBits 40 (d.var V.latCarr c)) ++ leBytes 4 (toBits 32 (d.var V.latDop c)) ++
    leBytes 3 (d.var V.latLock c).toNat ++ leBytes 2 (d.var V.latBits c).toNat ++
    leBytes 2 (c + d.get F.GNTK_CH_CFG_ANT c * 1024 + (if d.get F.GNTK_CH_CFG_SIG c / 16 = 3 then d.get F.GNTK_CH_CFG_GLOK c else 0) * 4096) ++
    [d.get F.GNTK_CH_CFG_SIG c, d.get F.GNTK_CH_CFG_PRN c] ++ leBytes 2 (d.var V.latFlags c).toNat ++ leBytes 2 (toBits 16 (d.var V.latMpm c)) ++
    leBytes 2 (toBits 16 (d.var V.latCcd c)) ++ leBytes 2 (d.get F.GNTK_EPSEQ_SEQ 0)

/-- The 64-byte header of an epoch, as latched (R162). -/
def Dev.epochHeader (d : Dev) : List Nat :=
  leBytes 8 (d.var V.epochInst 0).toNat ++ leBytes 4 (d.get F.GNTK_EPSEQ_SEQ 0) ++
  leBytes 2 ((List.range 600).countP (fun c => (d.var V.latBits c).toNat / 4096 % 8 == 3 && d.get F.GNTK_CH_STAT_STATE c != 0)) ++
  [(d.var V.epochSt 0).toNat, (d.var V.cjump 0).toNat + 2 * (d.var V.epochDropped 0).toNat + 4 * d.get F.GNTK_GUARD_STAT_SGV 0 +
    8 * d.get F.GNTK_GUARD_STAT_CONTRA 0] ++
  (List.range 9).map (fun p => (d.var V.latPath p).toNat) ++ [d.get F.GNTK_INTF_CN0FLAT 0, 0, 0] ++
  leBytes 4 (d.get F.GNTK_CLKRES_RES 0) ++ (List.range 9).map (fun p => d.get F.GNRF_AGC_STAT_GAIN p) ++
  (List.range 9).flatMap (fun p => leBytes 2 (d.get F.GNRF_SPEC_STAT_NF p)) ++ List.replicate 5 0

/-- EPOCH_LATCH (R157 to R159, R162 to R164, R168 to R171, R174): at the epoch's instant all channels latch, the checks run, and header and records are formed
(byte strings 50 and 51), so that every value in them is of this instant. It is the boundary of GNTK's RWS fields (R64). -/
def Dev.epochLatch (d : Dev) : Dev :=
  if !d.running 0x12 || decide (d.var V.nextEpoch 0 < 0) || decide (d.var V.grove 0 < d.var V.nextEpoch 0 * 65536) then d
  else
    let inst := d.var V.nextEpoch 0
    let u := d.var V.uptime 0 - (d.var V.grove 0 - inst * 65536)
    let eper := max 1 (d.get F.GNTK_EPOCH_CFG_EPER.act 0)
    let d := (d.incWrap F.GNTK_EPSEQ_SEQ 0).egoLatch
    let d := d.each (List.range 600) (fun c a => (a.latchCh c u).setVar V.latFlags c (a.plainFlags c))
    let d := (pairsOf d.trkGood).foldl (fun a e => a.crossFreq u e.1 e.2) d
    let d := d.each ((List.range 600).filter (fun c => d.get F.GNTK_CH_STAT_STATE c != 0)) (fun c a => a.divergence u inst c)
    let n := d.var V.chkCount 0 + 1
    let ce := checkEvery eper
    let d := if (ce : Int) ≤ n then (d.setVar V.chkCount 0 0).jumpCheck inst (ce * eper)
      else ((d.setVar V.chkCount 0 n).setVar V.cjump 0 0).set F.GNTK_INTF_CJUMP 0 0
    let d := d.each [0, 1, 2] (fun i a => a.flatCheck i)
    let d := d.each (List.range 9) (fun p a => (((a.setVar V.latPath p (a.pathByte p)).setVar V.pfNotch p 0).setVar V.pfSat p 0).setVar V.pfInv p
      (bit (!a.pathOk p)))
    let d := d.each [0, 1, 2] (fun i a => a.setVar V.pfAnt i 0)
    let d := d.each (List.range 600) (fun c a => a.setVar V.slipF c 0)
    let d := (d.setVar V.pfMs 0 0).setVar V.epochSt 0 (d.get F.TIME_STATE_ST 0 + 8 * d.get F.TIME_STATE_STEPPEND 0 + 16 * d.var V.epochStep 0)
    let d := (((d.setVar V.epochStep 0 0).setVar V.epochInst 0 inst).setVar V.lastEpoch 0 u).setVar V.nextEpoch 0 (inst + eper * 1000000)
    let d := ((d.setVar V.egoReqE 0 (d.get F.GNTK_GUARD_CFG_EGOREQ 0)).setVar V.epochPend 0 1).guardEval
    let d := (d.setBlob 50 0 d.epochHeader).setBlob 51 0 ((List.range 600).flatMap (fun c => d.chRecord c))
    d.boundary 0x12 wideUnit

def execEpochLatch (s : State) : Host.Outcome State Fault Refusal := s.upd Dev.epochLatch

/-! ### The records -/

/-- The copies to Command slots (R167) and the guard record (R177). The guard record is committed at every epoch while GNTK runs, whatever GUARD_CFG.EN:
R177 says at every epoch, while R41 speaks of publishers once enabled, and this is the model's choice (log entry 155). -/
def Dev.epochCopies (d : Dev) : Dev :=
  let d := d.each ((List.range 8).filter (fun n => d.on F.GNTK_COPY_EN.act n)) (fun n a =>
    a.clrPost (a.get F.GNTK_COPY_SLOT.act n) 0x12 (leBytes 8 (a.var V.epochInst 0).toNat ++
      (padTo 32 ((a.blob 51 0).drop (32 * a.get F.GNTK_COPY_CH.act n)))))
  d.clrPost (d.get F.GNTK_GUARD_CFG_SLOT.act 0) 0x12 (leBytes 8 (d.var V.epochInst 0).toNat ++
    [d.get F.GNTK_GUARD_STAT_SGV 0 + 2 * d.get F.GNTK_GUARD_STAT_CONTRA 0 + 4 * d.get F.GNTK_GUARD_STAT_PVTOK 0 + 8 * d.get F.GNTK_GUARD_STAT_EGOOK 0,
      0] ++ leBytes 2 (d.get F.GNTK_GUARD_STAT_DSPD 0) ++ leBytes 2 (toBits 16 (d.var V.dYaw 0)))

/-- The latched epoch is dropped (R161). -/
def Dev.epochDrop (d : Dev) : Dev := ((d.incSat F.GNTK_EPDROP_CNT 0).irq 0x12 1).setVar V.epochDropped 0 1

/-- EPOCH_RECORDED (R160 to R167, R177): header and records are written to the ring, or the epoch is dropped; the copy slots and the guard slot
are committed. With NEP below 2 no epoch is written. -/
def State.epochRecorded (s : State) : State :=
  if s.dev.var V.epochPend 0 = 0 then s
  else
    let d := s.dev.setVar V.epochPend 0 0
    let nep := d.get F.GNTK_RING_CFG_NEP.act 0
    let w := d.get F.GNTK_RING_WR_WR 0
    let s : State :=
      if nep < 2 then { s with dev := d }
      else if (w + 1) % nep = d.get F.GNTK_RING_RD_RD 0 then { s with dev := d.epochDrop }
      else match State.devWrite { s with dev := d } 0x0120 (d.get F.GNTK_RING_BASE.act 0 / 4096 * 4096 + 20480 * w)
          (d.blob 50 0 ++ d.blob 51 0) with
        | (s, none) => { s with dev := ((((s.dev.set F.GNTK_RING_WR_WR 0 ((w + 1) % nep)).irq 0x12 0).set F.COM_STAT_FAULT 0x12 0).setVar
            V.epochDropped 0 0).cone 0x12 0x100 }
        | (s, some _) => { s with dev := (s.dev.epochDrop.set F.COM_STAT_FAULT 0x12 1).errBlk 0x12 4 1 }
    { s with dev := s.dev.epochCopies }

def execEpochRecorded (s : State) : Host.Outcome State Fault Refusal := .next s.epochRecorded

/-! ### Jamming -/

/-- One path's jamming state over one more millisecond (R172). -/
def Dev.jamPath (d : Dev) (p : Nat) : Dev :=
  let nf := ofBits 16 (d.get F.GNRF_SPEC_STAT_NF p) - ofBits 16 (d.get F.GNTK_JAM_REF_NFREF p)
  let g : Int := (d.get F.GNTK_JAM_REF_GREF p : Int) - d.get F.GNRF_AGC_STAT_GAIN p
  let tn : Int := 5 * d.get F.GNTK_JAM_CFG_JAM_NF 0
  let tg : Int := d.get F.GNTK_JAM_CFG_JAM_G 0
  let c1 := decide (tn < nf)
  let c2 := decide (tg < g)
  let two := (c1 && c2) || decide (2 * tn < nf) || decide (2 * tg < g)
  let d := (d.setVar V.jamOne p (if c1 || c2 then d.var V.jamOne p + 1 else 0)).setVar V.jamTwo p (if two then d.var V.jamTwo p + 1 else 0)
  let d := d.setVar V.jamNone p (if c1 || c2 then 0 else d.var V.jamNone p + 1)
  let old := d.get F.GNTK_INTF_JAM 0 / 4 ^ p % 4
  let st := if 100 ≤ d.var V.jamTwo p then 2 else if 100 ≤ d.var V.jamOne p then 1 else if 1000 ≤ d.var V.jamNone p then 0 else old
  if st = old then d else (d.set F.GNTK_INTF_JAM 0 (d.get F.GNTK_INTF_JAM 0 - old * 4 ^ p + st * 4 ^ p)).irq 0x12 3

/-- JAM_CHECK (R172): every 1 ms each path is compared with its references; an averaging takes its samples. -/
def Dev.jamCheck (d : Dev) : Dev :=
  if !d.running 0x12 then d
  else
    let d := d.each (List.range 9) (fun p a => a.jamPath p)
    if d.var V.learnOn 0 = 1 then
      (d.each (List.range 9) (fun p a => (a.setVar V.learnNf p (a.var V.learnNf p + ofBits 16 (a.get F.GNRF_SPEC_STAT_NF p))).setVar V.learnG p
        (a.var V.learnG p + a.get F.GNRF_AGC_STAT_GAIN p))).setVar V.learnN 0 (d.var V.learnN 0 + 1)
    else d

def execJamCheck (s : State) : Host.Outcome State Fault Refusal := s.upd Dev.jamCheck

/-- JAM_LEARN (R172): the averaging of NF and gain over the following 10 s starts. -/
def execJamLearn (a : Acc) (s : State) : Host.Outcome State Fault Refusal :=
  s.upd (fun d => d.wr 0x12 0x86C a (fun d =>
    (((d.setVar V.learnOn 0 1).mark V.learnAt 0).setVar V.learnN 0 0).each (List.range 9) (fun p a => (a.setVar V.learnNf p 0).setVar V.learnG p 0)))

/-- JAM_LEARN_DONE (R172): the averages are loaded, rounded to the nearest unit. -/
def Dev.jamLearnDone (d : Dev) : Dev :=
  if d.var V.learnOn 0 == 1 && d.passed V.learnAt 0 10000000000 && decide (0 < d.var V.learnN 0) then
    (d.setVar V.learnOn 0 0).each (List.range 9) (fun p a =>
      (a.setI F.GNTK_JAM_REF_NFREF p (roundAway (a.var V.learnNf p) (a.var V.learnN 0).toNat)).setI F.GNTK_JAM_REF_GREF p
        (roundAway (a.var V.learnG p) (a.var V.learnN 0).toNat))
  else d

def execJamLearnDone (s : State) : Host.Outcome State Fault Refusal := s.upd Dev.jamLearnDone

/-! ### The time pulse -/

/-- The next pulse is the first multiple of PERIOD whose advanced time has not passed (R181), after the instant that the last pulse marked. -/
def Dev.pulseSeek (d : Dev) : Dev :=
  let p : Int := max 1 (d.get F.GNTP_PERIOD_PERIOD.act 0)
  d.setVar V.nextPulse 0 (max (nextMultiple (d.var V.grove 0 + d.pulseAdv) p 0) ((d.var V.pulseT 0 / p + 1) * p))

/-- GATE suppresses a pulse now (R185). -/
def Dev.pulseGated (d : Dev) : Bool :=
  let st := d.get F.TIME_STATE_ST 0
  match d.get F.GNTP_CFG_GATE.act 0 with
  | 0 => false
  | 2 => !(st == 2 || st == 3 || (st == 4 && decide (d.get F.TIME_HOLDERR_ERRB 0 ≤ d.get F.GNTP_GATEERR_ERRB.act 0)))
  | _ => st == 0 || st == 1

/-- TIME_PULSE (R180 to R185): the edge for instant T leaves at T - ADV, unless gated; the pulse is the boundary of GNTP's RWS fields (R190). The last edge
before an announced step carries STEP. -/
def Dev.timePulse (d : Dev) : Dev :=
  let t := d.var V.nextPulse 0
  if !d.running 0x13 || decide (t < 0) || decide (d.var V.grove 0 < t * 65536 - d.pulseAdv) then d
  else
    let p : Int := max 1 (d.get F.GNTP_PERIOD_PERIOD.act 0)
    let st := d.get F.TIME_STATE_ST 0
    let gated := d.pulseGated
    let stp := d.on F.TIME_STATE_STEPPEND 0 && decide (t * 65536 - d.pulseAdv < d.var V.stepAt 0 * 65536) &&
      decide (d.var V.stepAt 0 * 65536 ≤ (t + p) * 65536 - d.pulseAdv)
    let chg := d.on F.GNTP_PSTAT_GATED 0 != gated
    let d := (((d.set F.GNTP_LAST_INST 0 t.toNat).set F.GNTP_PSTAT_LOCK 0 (bit (st == 3))).set F.GNTP_PSTAT_SLEW 0 (bit (st == 2))).set
      F.GNTP_PSTAT_HOLD 0 (bit (st == 4))
    let d := (((d.set F.GNTP_PSTAT_UNSET 0 (bit (st == 0 || st == 1))).set F.GNTP_PSTAT_STEP 0 (bit stp)).set F.GNTP_PSTAT_GATED 0 (bit gated)).set
      F.GNTP_PSTAT_HOLDERR 0 (d.get F.TIME_HOLDERR_ERRB 0)
    let d := (d.irq 0x13 0).when chg (fun a => a.irq 0x13 2)
    let d := ((d.setVar V.nextPulse 0 (t + p)).setVar V.pulseT 0 t).boundary 0x13 wideUnit
    if gated then d
    else
      let d := ((d.setVar V.tpulse 0 1).setVar V.tpulseEnd 0 (d.var V.uptime 0 + d.get F.GNTP_WIDTH_WIDTH.act 0 * 65536)).mark V.lastPulse 0
      d.when stp (fun a => a.irq 0x13 1)

def execTimePulse (s : State) : Host.Outcome State Fault Refusal := s.upd Dev.timePulse

/-- TIME_PULSE_END (R180): WIDTH after the edge TPULSE returns inactive. -/
def Dev.timePulseEnd (d : Dev) : Dev :=
  if d.var V.tpulse 0 == 1 && decide (d.var V.tpulseEnd 0 ≤ d.var V.uptime 0) then d.setVar V.tpulse 0 0 else d

def execTimePulseEnd (s : State) : Host.Outcome State Fault Refusal := s.upd Dev.timePulseEnd

/-- Level of the TPULSE pin (R180, R191). -/
def Dev.tpulsePin (d : Dev) : Bool := (d.var V.tpulse 0 == 1) != d.on F.GNTP_CFG_POL.act 0

end Sys2Proof.Machine
end

