-- ==== Sys2Proof/Machine/Eth.lean ====
section
/-! DEFINITION. ETH: ports, switching, stream filters, gate lists, gPTP, the host port, the 1722 listener and trigger messages
(spec/13_ethernet_ride_link.md, R427 to R440, R458 to R462; spec/03_grove_time.md, R90, R91, R99). -/

namespace Sys2Proof.Machine

/-- A switch port sends and receives: ETH runs, the port is enabled, not taken, and its link is up, which the internal port 9 does not need; ports 4 and 5
are RIDE's (R427, R428). -/
def Dev.ethUp (d : Dev) (p : Nat) : Bool :=
  d.running 0x2A && d.on F.ETH_PORT_CFG_EN p && (d.on F.ETH_PORT_STAT_LINK p || p == 9) && !d.on F.ETH_PORT_STAT_TAKEN p && p != 4 && p != 5

/-- A port sends `n` frames. -/
def Dev.ethTx (d : Dev) (p : Nat) (n : Nat := 1) : Dev := d.incWrap F.ETH_PORT_CNT_TXF p n

/-! ### gPTP (R90, R91, R433) -/

/-- The port runs gPTP: ports 0 to 3, 6 and 7 with GPTP at 1. -/
def Dev.gptpUp (d : Dev) (p : Nat) : Bool := d.ethUp p && d.on F.ETH_PORT_CFG_GPTP p && p != 8 && p != 9

/-- Clock class and accuracy of the present TIME state, and the source GNSS (R91). -/
def Dev.gptpQuality (d : Dev) : List Nat :=
  match d.get F.TIME_STATE_ST 0 with
  | 3 => [6, 0x21, 0x20]
  | 2 => if d.var V.remErr 0 ≤ 1000 then [6, 0x23, 0x20] else [6, 0x25, 0x20]
  | 4 => if d.get F.TIME_HOLDERR_ERRB 0 ≤ 1000 then [7, 0x23, 0x20]
         else if d.get F.TIME_HOLDERR_ERRB 0 ≤ 10000 then [7, 0x25, 0x20] else [248, 0xFE, 0x20]
  | _ => [248, 0xFE, 0x20]

/-- GPTP_ANNOUNCE (R91): the port announces the present quality. -/
def Dev.gptpAnnounce (d : Dev) (p : Nat) : Dev := if d.gptpUp p then (d.setBlob 3 p d.gptpQuality).ethTx p else d

def execGptpAnnounce (p : Fin 10) (s : State) : Host.Outcome State Fault Refusal := s.upd (fun d => d.gptpAnnounce p)

/-- A period of 2^-n s, n at most 5, in ns. -/
def gptpPeriod (n : Nat) : Int := 1000000000 / 2 ^ min n 5

/-- GPTP_SYNC (R433): a Sync and its follow-up with the Grove time at which the Sync left, every 2^-SYNCI s. -/
def Dev.gptpSync (d : Dev) (p : Nat) : Dev :=
  if d.gptpUp p && d.passed V.gpSync p (gptpPeriod (d.get F.ETH_PORT_SYNC_SYNCI p)) then
    (((d.mark V.gpSync p).setBlob 4 p (leBytes 8 d.now.toNat)).incWrap F.GPTP_SYNCS_V p).ethTx p 2
  else d

def execGptpSync (p : Fin 10) (s : State) : Host.Outcome State Fault Refusal := s.upd (fun d => d.gptpSync p)

/-- GPTP_PDELAY_REQ (R433): the exchange gives the mean link delay, the neighbour's rate ratio and whether the link is asCapable. -/
def Dev.gptpPdelay (d : Dev) (p : Nat) (ok : Bool) (dly ratio : Nat) : Dev :=
  if d.gptpUp p && d.passed V.gpPdly p (gptpPeriod (d.get F.ETH_PORT_SYNC_PDLYI p)) then
    let d := ((d.mark V.gpPdly p).ethTx p).set F.GPTP_ASCAP_ASCAP p (bit ok)
    if ok then (d.set F.GPTP_MEANDLY_V p dly).set F.GPTP_RATIO_V p ratio else d
  else d

def execGptpPdelayReq (p : Fin 10) (ok : Bool) (dly ratio : BitVec 32) (s : State) : Host.Outcome State Fault Refusal :=
  s.upd (fun d => d.gptpPdelay p ok dly.toNat ratio.toNat)

/-- GPTP_FOREIGN (R433): a received Announce or Sync is counted and ignored. -/
def Dev.gptpForeign (d : Dev) (p : Nat) : Dev :=
  if d.gptpUp p then ((d.incWrap F.ETH_PORT_CNT_RXF p).incWrap F.GPTP_FOREIGN_V p).irq 0x2A 5 else d

def execGptpForeign (p : Fin 10) (s : State) : Host.Outcome State Fault Refusal := s.upd (fun d => d.gptpForeign p)

/-! ### Gate lists (R431) -/

/-- Intervals of a port's gate list: start and end in ns after the start of its cycle, and the open gates. The list is cut off at the end of the
cycle, and the last entry holds until then. -/
def Dev.gateSpans (d : Dev) (p cyc : Nat) : List (Nat × Nat × Nat) :=
  let len := max 1 (min 64 (d.get F.ETH_PORT_GCL_LEN.act p))
  ((List.range len).foldl (fun (a : Nat × List (Nat × Nat × Nat)) i =>
    let e := if i + 1 = len then cyc else min cyc (a.1 + d.get F.GCL_INTERVAL.act (64 * p + i))
    (e, a.2 ++ [(a.1, e, d.get F.GCL_GATES.act (64 * p + i))])) (0, [])).2

/-- The intervals once around from the present one on: how many ns each lasts, and its open gates. -/
def Dev.gateRun (d : Dev) (p : Nat) : List (Nat × Nat) :=
  let cyc : Nat := max 10000 (min 100000000 (d.get F.ETH_PORT_GCYC_CYCLE.act p))
  let t := ((d.now - d.get F.ETH_PORT_GBASE_BASE.act p) % (cyc : Int)).toNat
  let l := d.gateSpans p cyc
  (l.filter (fun x => decide (t < x.2.1))).map (fun x => (x.2.1 - max t x.1, x.2.2)) ++
    (l.filter (fun x => decide (x.2.1 ≤ t))).map (fun x => (x.2.1 - x.1, x.2.2))

/-- Gates of a port at the present Grove time (R431); with GEN at 0 every gate is open. -/
def Dev.gatesNow (d : Dev) (p : Nat) : Nat := if !d.on F.ETH_PORT_GCL_GEN.act p then 255 else ((d.gateRun p).headD (0, 255)).2

/-- How many ns the gate of class `tc` stays open from now on; none where no interval of the list closes it. -/
def gateOpen (tc : Nat) : List (Nat × Nat) → Option Nat
  | [] => none
  | x :: l => if tbit x.2 tc then (gateOpen tc l).map (fun n => n + x.1) else if x.1 = 0 then gateOpen tc l else some 0

/-- ns that `n` bytes take at the rate of a port (R427). -/
def ethNs (p n : Nat) : Nat :=
  if p < 4 then (n * 16 + 4) / 5 else if p < 6 then n * 8 else if p < 8 then n * 80 else if p = 8 then n * 800 else 0

/-- Frames of `n` bytes altogether may start in class `tc` of a port: its gate is open, and their last bit leaves before it closes (R431). -/
def Dev.gateFits (d : Dev) (p tc n : Nat) : Bool :=
  !d.on F.ETH_PORT_GCL_GEN.act p ||
    (tbit (d.var V.gates p).toNat tc && (match gateOpen tc (d.gateRun p) with | none => true | some l => decide (ethNs p n ≤ l)))

/-- A frame of `n` bytes may leave a port in class `tc` at once. -/
def Dev.mayStart (d : Dev) (p tc n : Nat) : Bool := d.blob 9 (8 * p + tc) == [] && d.gateFits p tc n

/-- A frame of `n` bytes leaves a port in class `tc` at once, or waits behind the gate and the frames of its class that wait already (R429, R431). -/
def Dev.ethSend (d : Dev) (p tc n : Nat) : Dev :=
  if d.mayStart p tc n then d.ethTx p
  else d.setBlob 9 (8 * p + tc) (d.blob 9 (8 * p + tc) ++ [n])

/-- The waiting frames of class `tc` that may start now leave the port, after the `used` bytes of higher classes. A port that is down loses them. -/
def Dev.gateClass (d : Dev) (p tc used : Nat) : Dev × Nat :=
  let l := d.blob 9 (8 * p + tc)
  let l := if d.ethUp p then l else []
  if d.blob 9 (8 * p + tc) = [] then (d, used) else
  let k := (List.range l.length).countP (fun k => d.gateFits p tc (used + (l.take (k + 1)).sum))
  (((if k = 0 then d else d.ethTx p k)).setBlob 9 (8 * p + tc) (l.drop k), used + (l.take k).sum)

/-- GATE_LIST_ENTRY (R431): an interval ends and the next entry's gates apply; the frames that waited for them leave, the highest class first. -/
def Dev.gateEntry (d : Dev) (p : Nat) : Dev :=
  if d.running 0x2A then
    ([7, 6, 5, 4, 3, 2, 1, 0].foldl (fun (a : Dev × Nat) tc => a.1.gateClass p tc a.2) (d.setVar V.gates p (d.gatesNow p), 0)).1
  else d

def execGateListEntry (p : Fin 10) (s : State) : Host.Outcome State Fault Refusal := s.upd (fun d => d.gateEntry p)

/-! ### Trigger messages (R99, R438, R439) -/

/-- The message of an entry: the target's template, then the payload of 32 bytes (R438). -/
def Dev.trigBytes (d : Dev) (e t seq : Nat) : List Nat :=
  let hdr := (List.range 12).flatMap (fun w => leBytes 4 (d.get F.TRG_HDR_W (12 * t + w)))
  hdr.take (min 48 (max 14 (d.get F.TRG_CFG_HLEN t))) ++ [0x4B, 0x54, 0x52, 0x47, 1, t] ++ leBytes 2 seq ++
    leBytes 8 (d.get F.TRIG_INST_INST e) ++ leBytes 4 (d.get F.TRIG_PERIOD_PERIOD e) ++
    [d.get F.TIME_STATE_ST 0 + 8 * d.get F.TIME_STATE_STEPPEND 0] ++ List.replicate 11 0

/-- TRIG_MESSAGE_SEND: at INST - LEAD the message of an armed entry with TGT 0b01 is queued, once for each INST. With PERIOD below LEAD the next message goes late
(log entry 202). -/
def Dev.trigMessage (d : Dev) (e : Nat) : Dev :=
  let inst : Int := d.get F.TRIG_INST_INST e
  if d.on F.TRIG_CFG_EN e && d.get F.TRIG_CFG_TGT e == 1 && d.running 0x2A && d.var V.trgSent e != inst &&
      decide (inst - d.get F.TRIG_CFG_LEAD e * 100000 ≤ d.now) then
    let d := d.setVar V.trgSent e inst
    let t := d.get F.TRIG_CFG_IDX e
    let p := d.get F.TRG_CFG_PORT t
    if d.on F.TRG_CFG_EN t && decide (p < 10) && d.ethUp p then
      let seq := (d.get F.TRG_SEQ_SEQ t + 1) % 65536
      ((d.setBlob 2 t (d.trigBytes e t seq)).set F.TRG_SEQ_SEQ t seq).ethSend p (d.get F.TRG_CFG_TC t) (d.trigBytes e t seq).length
    else (d.incSat F.ETH_TRGSTAT_DROP 0).irq 0x2A 4
  else d

def execTrigMessageSend (e : Fin 16) (s : State) : Host.Outcome State Fault Refusal := s.upd (fun d => d.trigMessage e)

/-! ### Switching (R429 to R432) -/

/-- The first stream filter that matches a frame. -/
def Dev.filterOf (d : Dev) (p da vid pcp : Nat) : Option Nat :=
  (List.range 128).find? (fun f => d.on F.SFLT_DA_EN f && d.get F.SFLT_DA_DA f == da && d.get F.SFLT_DA_VID f == vid &&
    tbit (d.get F.SFLT_MATCH_PORTS f) p && (d.on F.SFLT_MATCH_PCPANY f || d.get F.SFLT_MATCH_PCP f == pcp))

/-- A meter (R432) takes a frame of `n` bytes: it passes where the bucket, filled at CIR up to CBS, holds it. -/
def Dev.meter (d : Dev) (m n : Nat) : Dev × Bool :=
  let unit : Int := 1000000000 * 65536
  let cap : Int := d.get F.MTR_CBS_V m * unit
  let tok : Int := if d.var V.mtrTok m < 0 then cap else min cap (d.var V.mtrTok m + d.since V.mtrAt m * (d.get F.MTR_CIR_V m * 125))
  let d := d.mark V.mtrAt m
  if n * unit ≤ tok then ((d.setVar V.mtrTok m (tok - n * unit)).incWrap F.MTR_PASS_V m, true)
  else ((d.setVar V.mtrTok m tok).incWrap F.MTR_DROP_V m, false)

/-- STREAM_FILTER (R432): the first matching filter passes or drops the frame by its gate, its MAXSDU and its meter. -/
def Dev.streamFilter (d : Dev) (p da vid pcp n : Nat) : Dev × Bool :=
  match d.filterOf p da vid pcp with
  | none => (d, true)
  | some f =>
    if !d.on F.SFLT_ACT_GATE f || decide (d.get F.SFLT_MATCH_MAXSDU f < n) then (d, false)
    else if d.on F.SFLT_ACT_MEN f then d.meter (d.get F.SFLT_ACT_METER f) n else (d, true)

/-- The forwarding entry of an address in a VLAN. -/
def Dev.fdbOf (d : Dev) (mac vid : Nat) : Option Nat :=
  (List.range 2048).find? (fun i => d.on F.FDB_ENT_VALID i && d.get F.FDB_ENT_MAC i == mac && d.get F.FDB_ENT_VID i == vid)

/-- The source address is learned (R429): a known dynamic entry moves to the port, an unknown address takes a free entry (log entry 22). -/
def Dev.learn (d : Dev) (p sa vid : Nat) : Dev :=
  if !d.on F.ETH_PORT_CFG_LEARN p || tbit sa 40 then d
  else match d.fdbOf sa vid with
    | some i => (if d.on F.FDB_ENT_STATIC i then d else d.set F.FDB_PORTS_PORTS i (2 ^ p)).set F.FDB_AGE_AGE i 0
    | none => match (List.range 2048).find? (fun i => !d.on F.FDB_ENT_VALID i) with
      | none => d
      | some i => (((((d.set F.FDB_ENT_MAC i sa).set F.FDB_ENT_VID i vid).set F.FDB_ENT_STATIC i 0).set F.FDB_ENT_VALID i 1).set
          F.FDB_PORTS_PORTS i (2 ^ p)).set F.FDB_AGE_AGE i 0

/-- The egress ports of a frame: by the table, or flooded within its VLAN. A port whose PVID is the VLAN belongs to it; whether another does is free
(log entry 22). -/
def Dev.egress (d : Dev) (p da vid : Nat) : Dev × List Nat :=
  let up := (List.range 10).filter (fun q => q != p && d.ethUp q)
  match d.fdbOf da vid with
  | some i => (d, up.filter (fun q => tbit (d.get F.FDB_PORTS_PORTS i) q))
  | none => (d.useFree, up.filter (fun q => d.get F.ETH_PORT_CFG_PVID q == vid || tbit d.freeVal q))

/-- A frame for port 9 waits for a receive descriptor of its class: its ingress port, stamp and length, and its bytes (R434). -/
def Dev.hostQueue (d : Dev) (q p stamp : Nat) (l : List Nat) : Dev :=
  (d.setBlob 40 q (d.blob 40 q ++ ([p] ++ leBytes 8 stamp ++ leBytes 2 l.length ++ l))).setVar V.hostBytes q (d.var V.hostBytes q + l.length)

/-- A node of the 10BASE-T1S segment gets a transmit opportunity: with PLCA on, an ID from 1 to NCNT - 1; the T9 is node 0 (R440). -/
def Dev.plcaTurn (d : Dev) (node : Nat) : Bool :=
  !d.on F.ETH_PLCA_EN 0 || (decide (1 ≤ node) && decide (node < d.get F.ETH_PLCA_NCNT 0))

/-- A frame of `n` bytes enters the switch at a port (R429, R432): one that is too long, finds the shared buffer of 512 KiB full or does not pass its stream filter is dropped
and counted; of any other the source address is learned, and its egress ports are known. The buffer holds the frames that wait and those that are being received and sent. -/
def Dev.ethEnter (d : Dev) (p da sa vid pcp n : Nat) : Dev × Option (List Nat) :=
  let d := d.incWrap F.ETH_PORT_CNT_RXF p
  if 2048 < n ∨ 524288 < (d.var V.ethBuf 0).toNat + d.ethWaiting + n then (((d.incSat F.ETH_PORT_DROP_FULL p).irq 0x2A 6).cone 0x2A 0x101, none)
  else
    let r := d.streamFilter p da vid pcp n
    if !r.2 then ((r.1.incSat F.ETH_PORT_DROP_QCI p).cone 0x2A 0x101, none)
    else let e := (r.1.learn p sa vid).egress p da vid; (e.1, some e.2)

/-- VID and PCP of a frame: of its tag, or PVID and DEFPCP of the port it enters (R429). -/
def Dev.vidPcp (d : Dev) (p : Nat) (tag : Option (BitVec 12 × BitVec 3)) : Nat × Nat :=
  match tag with
  | some t => (t.1.toNat, t.2.toNat)
  | none => (d.get F.ETH_PORT_CFG_PVID p, d.get F.ETH_PORT_CFG_DEFPCP p)

/-- A frame passes the switch (R429, R431, R432, R440); `host`, a copy for port 9 waits there for HOST_RECEIVE. The answer says whether the frame was dropped. -/
def Dev.ethPass (d : Dev) (x : EthIn) (host : Bool) : Dev × Bool :=
  let p := x.port.val
  let n := x.data.length
  let v := d.vidPcp p x.tag
  match d.ethEnter p x.da.toNat x.sa.toNat v.1 v.2 n with
  | (d, none) => (d, true)
  | (d, some l) =>
    ((d.each (l.filter (fun q => host || q != 9)) (fun q a =>
      if q = 9 then a.hostQueue v.2 p (a.now - x.dur.toNat).toNat (x.data.map (·.toNat)) else a.ethSend q v.2 n)).cone 0x2A 0x100, false)

/-- A port takes the frame that arrives at it; port 8 only in a transmit opportunity of its sender (R440). -/
def Dev.ethTakes (d : Dev) (x : EthIn) : Bool := d.ethUp x.port && !(x.port.val == 8 && !d.plcaTurn x.node.toNat)

/-- ETH_FRAME_FORWARD (R429 to R432, R440): `rxTx` bytes of the shared buffer hold frames that are being received and sent. -/
def Dev.ethForward (d : Dev) (x : EthIn) (rxTx : Nat) : Dev :=
  if d.ethTakes x then ((d.setVar V.ethBuf 0 rxTx).ethPass x true).1 else d

def execEthFrameForward (x : EthIn) (occ : BitVec 20) (s : State) : Host.Outcome State Fault Refusal := s.upd (fun d => d.ethForward x occ.toNat)

/-- FDB_AGEING (R429): every second each valid entry's AGE counts, and a dynamic entry unseen for 300 s ages out. -/
def Dev.fdbAgeing (d : Dev) : Dev :=
  if d.running 0x2A && d.passed V.fdbAt 0 1000000000 then
    (d.mark V.fdbAt 0).each ((List.range 2048).filter (fun i => d.on F.FDB_ENT_VALID i)) (fun i a =>
      let a := a.incSat F.FDB_AGE_AGE i
      if 300 ≤ a.get F.FDB_AGE_AGE i && !a.on F.FDB_ENT_STATIC i then a.set F.FDB_ENT_VALID i 0 else a)
  else d

def execFdbAgeing (s : State) : Host.Outcome State Fault Refusal := s.upd Dev.fdbAgeing

/-! ### The 1722 listener (R435, R436) -/

/-- The stream that takes a packet: ID and port match, and it is enabled or has a frame in progress. -/
def Dev.strOf (d : Dev) (x : AvtpIn) : Option Nat :=
  (List.range 6).find? (fun s => (d.on F.STR_CFG_EN s || d.var V.strOpen s == 1) && d.get F.STR_ID_ID s == x.sid.toNat &&
    d.get F.STR_CFG_PORT s == x.eth.port.val)

/-- A stream that has been enabled waits for the start of a frame: the packet with the first byte of line 0, or one after a packet that ends a frame (R461). Log entry 215. -/
def Dev.strWaits (d : Dev) (k : Nat) (x : AvtpIn) : Bool := d.var V.strSkip k == 1 && !(x.line.toNat == 0 && x.off.toNat == 0)

/-- The 64-bit Grove time nearest to the present with the given low 32 bits. -/
def Dev.nearest (d : Dev) (ts : Nat) : Int := d.now + ofBits 32 ((ts + 2 ^ 32 - d.now.toNat % 2 ^ 32) % 2 ^ 32)

/-- Bytes of a line: W of the sensor's active bank in its pixel format (R195, R217). -/
def Dev.lineBytes (d : Dev) (i : Nat) : Nat :=
  let w := d.get F.CAL_SIZE_W (8 * d.get F.CNPY_SEN_BANK_ACT i + i)
  match d.get F.CNPY_SEN_CFG_PIXFMT.act i with
  | 0 => w | 1 => 2 * w | 2 => 3 * w | _ => (3 * w + 1) / 2

/-- The line that a stream puts together goes to its channel (R489). -/
def Dev.lineFlush (d : Dev) (k : Nat) : Dev :=
  let b := d.blob 44 k
  (d.setBlob 44 k []).lineGive k (leAt b 0 8) (b.drop 8)

/-- Data of a line: they join those that they follow, and a line whose last byte has come goes to the channel. `at_` is their place, `last` says that they end the
line. Log entry 214. -/
def Dev.lineJoin (d : Dev) (k at_ : Nat) (l : List Nat) (last : Bool) : Dev :=
  let b := d.blob 44 k
  let d := if b != [] && leAt b 0 8 + (b.length - 8) == at_ then d.setBlob 44 k (b ++ l) else (d.lineFlush k).setBlob 44 k (leBytes 8 at_ ++ l)
  if last then d.lineFlush k else d

/-- The data of a packet go to their place in the buffer, through the entry's DMA channel (R435, R436). -/
def Dev.avtpData (d : Dev) (k : Nat) (x : AvtpIn) : Dev :=
  let i := d.get F.STR_CFG_SEN k
  let first := d.var V.strOpen k == 0
  let d := if first then ((((d.setVar V.strOpen k 1).setVar V.strBad k 0).setVar V.strLine k (-1)).setVar V.strTs k (d.nearest x.ts.toNat)).setVar V.strSkip k 0 else d
  let gap := !first && decide (x.seq.toNat ≠ ((d.var V.strSeq k).toNat + 1) % 256)
  let lost := decide (d.var V.strLine k + 1 < x.line.toNat)
  let place := x.line.toNat * d.lineBytes i + x.off.toNat
  let beyond := decide (d.get F.CNPY_SEN_RING_BUFSZ.act i * 65536 < place + x.data.length)
  let d := (d.setVar V.strSeq k x.seq.toNat).setVar V.strLine k (max (d.var V.strLine k) x.line.toNat)
  let d := if gap || lost || beyond then d.setVar V.strBad k 1 else d
  if beyond then d
  else d.lineJoin k (d.bufAt i (d.var V.strBuf k).toNat + place) (x.data.map (·.toNat)) (decide (d.lineBytes i ≤ x.off.toNat + x.data.length))

/-- A packet passes the switch as the frame that it is, and the listener takes it where the stream filter lets it pass; port 9 gets no packet of a stream's entry (R429, R432,
R435). `f` is what the listener does with it. -/
def Dev.avtpIn (d : Dev) (x : AvtpIn) (f : Nat → Dev → Dev) : Dev :=
  if !d.ethTakes x.eth then d
  else match d.strOf x with
    | none => (d.ethPass x.eth true).1
    | some k => match d.ethPass x.eth false with
      | (d, true) => d
      | (d, false) => f k d

/-- AVTP_PACKET (R435, R436). -/
def Dev.avtpPacket (d : Dev) (x : AvtpIn) : Dev := d.avtpIn x (fun k d => if d.strWaits k x then d else d.avtpData k x)

def execAvtpPacket (x : AvtpIn) (s : State) : Host.Outcome State Fault Refusal := s.upd (fun d => d.avtpPacket x)

/-- The frame ends: its end follows its lines to the channel, where it is posted once they are written, or it is counted in DROPF and its buffer is used again (R435, R436). -/
def Dev.avtpEnd (d : Dev) (k : Nat) : Dev :=
  let d := d.lineFlush k
  let i := d.get F.STR_CFG_SEN k
  let c := d.get F.STR_CFG_DMACH k
  let h := d.get F.CAL_SIZE_H (8 * d.get F.CNPY_SEN_BANK_ACT i + i)
  let bad := d.var V.strBad k == 1 || decide (d.var V.strLine k + 1 < h) || decide (2 ≤ d.get F.DMA_CH_STAT_STATE c)
  let d := d.setVar V.strOpen k 0
  if bad then (((d.incSat F.STR_CNT_DROPF k).irq 0x2A 3).dmaOwner c).dmaFaults
  else
    let b := (d.var V.strBuf k).toNat
    let d := d.setVar V.strBuf k ((b + 1) % max 1 (d.get F.CNPY_SEN_RING_NBUF.act i) : Nat)
    (d.setBlob 43 c (d.blob 43 c ++ markEntry k (d.var V.strTs k).toNat b)).lineGo c

/-- AVTP_FRAME_END (R435, R436, R461): the packet that marks end of frame; a stream that waits for the start of a frame takes the next one. -/
def Dev.avtpFrameEnd (d : Dev) (x : AvtpIn) : Dev :=
  d.avtpIn x (fun k d => if d.strWaits k x then d.setVar V.strSkip k 0 else (d.avtpData k x).avtpEnd k)

def execAvtpFrameEnd (x : AvtpIn) (s : State) : Host.Outcome State Fault Refusal := s.upd (fun d => d.avtpFrameEnd x)

/-! ### The host port (R434) -/

/-- Descriptors of a ring: 64 times 2^n, n at most 6. -/
def hqSize (n : Nat) : Nat := 64 * 2 ^ min n 6

/-- HOST_RECEIVE: the first frame of class `q` that waits for port 9, once its gate is open, is written through the next receive descriptor, where software owns none
of the frames before it and
has set OWN; without one the frame is dropped and counted. A buffer that cannot be written sets ERR. -/
def State.hostReceive (s : State) (q : Nat) : State :=
  let b := s.dev.blob 40 q
  let n := leAt b 9 2
  if !s.dev.ethUp 9 || b == [] || !s.dev.gateFits 9 q n then s
  else
    let p := b.headD 0
    let stamp := leAt b 1 8
    let l := (b.drop 11).take n
    let s : State := { s with dev := (s.dev.setBlob 40 q (b.drop (11 + n))).setVar V.hostBytes q (s.dev.var V.hostBytes q - n) }
    let size := hqSize (s.dev.get F.HQ_SIZE_RXSIZE q)
    let wr := s.dev.get F.HQ_RXWR_IDX q
    let drop := fun (s : State) => ({ s with dev := ((s.dev.incSat F.ETH_PORT_DROP_FULL 9).irq 0x2A 6).cone 0x2A 0x101 } : State)
    if size ≤ (wr + 2 ^ 32 - s.dev.get F.HQ_RXRD_IDX q) % 2 ^ 32 then drop s
    else
      let at_ := s.dev.get F.HQ_RXBASE_BASE q + 32 * (wr % size)
      match s.devRead 0x02A0 at_ 32 with
      | (s, .error _) => drop s
      | (s, .ok b) =>
        if !tbit (leAt b 10 1) 0 || decide (2048 < l.length) then drop s
        else
          let r := s.devWrite 0x02A0 (leAt b 0 8) l
          let err := r.2.isSome
          let nb := leBytes 8 (leAt b 0 8) ++ leBytes 2 l.length ++ [(leAt b 10 1 &&& 2) + (if err then 4 else 0), p] ++ leBytes 4 0 ++
            leBytes 8 stamp ++ leBytes 8 0
          let s := (r.1.devWrite 0x02A0 at_ nb).1
          { s with dev := ((s.dev.set F.HQ_RXWR_IDX q (wr + 1)).ethTx 9).irq 0x2A 1 }

def execHostReceive (q : Fin 8) (_ _ _ : Unit) (s : State) : Host.Outcome State Fault Refusal := .next (s.hostReceive q)

/-- The tag of a frame that software sends, where it carries one. -/
def tagOf (l : List Nat) : Option (BitVec 12 × BitVec 3) :=
  if l.getD 12 0 = 0x81 ∧ l.getD 13 0 = 0 then some (BitVec.ofNat 12 (l.getD 14 0 * 256 + l.getD 15 0), BitVec.ofNat 3 (l.getD 14 0 / 32)) else none

/-- A big-endian address of six bytes. -/
def macAt (l : List Nat) (off : Nat) : Nat := ((l.drop off).take 6).foldl (fun a b => a * 256 + b) 0

/-- HOST_TRANSMIT: the frame of the next owned transmit descriptor enters the switch at port 9 as any other (R429, R432) and is sent by the table in the ring's
class. It is stamped where it
asks and leaves by a port that stamps at egress, which port 8 does not (R433); a buffer that cannot be read sets ERR. The frame stays in its ring until it may leave
every egress port at once, so that one stamp serves (log entry 183). -/
def State.hostTransmit (s : State) (q : Nat) : State :=
  let size := hqSize (s.dev.get F.HQ_SIZE_TXSIZE q)
  let rd := s.dev.get F.HQ_TXRD_IDX q
  if !s.dev.ethUp 9 || rd == s.dev.get F.HQ_TXWR_IDX q then s
  else
    let at_ := s.dev.get F.HQ_TXBASE_BASE q + 32 * (rd % size)
    match s.devRead 0x02A0 at_ 32 with
    | (s, .error _) => s
    | (s, .ok b) =>
      if !tbit (leAt b 10 1) 0 then s
      else
        let r := s.devRead 0x02A0 (leAt b 0 8) (min 2048 (leAt b 8 2))
        let err := match r.2 with | .ok _ => false | .error _ => true
        let l := match r.2 with | .ok l => l | .error _ => []
        let s := r.1
        let v := s.dev.vidPcp 9 (tagOf l)
        let e := (s.dev.setBlob 8 q l).ethEnter 9 (macAt l 0) (macAt l 6) v.1 v.2 l.length
        let out := e.2.getD []
        if !err && !out.all (fun p => s.dev.mayStart p q l.length) then s else
        let d := if err then s.dev else (e.1.each out (fun p a => a.ethSend p q l.length)).cone 0x2A 0x100
        let stamp := if tbit (leAt b 10 1) 1 && !err && out.any (fun p => p != 8) then d.now.toNat else leAt b 16 8
        let nb := b.take 10 ++ [(leAt b 10 1 &&& 2) + (if err then 4 else 0)] ++ (b.drop 11).take 5 ++ leBytes 8 stamp ++ b.drop 24
        let s := (State.devWrite { s with dev := d } 0x02A0 at_ nb).1
        { s with dev := (s.dev.set F.HQ_TXRD_IDX q (rd + 1)).irq 0x2A 2 }

def execHostTransmit (q : Fin 8) (s : State) : Host.Outcome State Fault Refusal := .next (s.hostTransmit q)

/-! ### Ports -/

/-- LINK of a port changes (R462). -/
def Dev.ethLink (d : Dev) (p : Nat) (up : Bool) : Dev :=
  if d.on F.ETH_PORT_STAT_LINK p = up then d else (d.set F.ETH_PORT_STAT_LINK p (bit up)).irq 0x2A 0

/-- ETH_PORT_ENABLE (R428, R459): EN takes the value, and 0 drops the link; a taken port ignores the write. -/
def Dev.ethEnable (d : Dev) (p : Nat) (en : Bool) : Dev :=
  if d.on F.ETH_PORT_STAT_TAKEN p then d
  else
    let d := d.set F.ETH_PORT_CFG_EN p (bit en)
    if en then d else d.ethLink p false

def execEthPortEnable (a : Acc) (en : Bool) (s : State) : Host.Outcome State Fault Refusal :=
  s.upd (fun d => d.wrCh 0x2A 0x100 a (fun p d => d.ethEnable p en) (fun p d => d.changes F.ETH_PORT_CFG_EN p (bit en)))

/-- ETH_LINK_CHANGE (R462): a port's link goes up, where it is enabled, or down. -/
def Dev.ethLinkChange (d : Dev) (p : Nat) (up : Bool) (sqi : Nat) : Dev :=
  if d.on F.ETH_PORT_STAT_TAKEN p || (up && !(d.running 0x2A && d.on F.ETH_PORT_CFG_EN p)) then d
  else (d.set F.ETH_PORT_STAT_SQI p sqi).ethLink p up

def execEthLinkChange (p : Fin 10) (up : Bool) (sqi : BitVec 3) (s : State) : Host.Outcome State Fault Refusal :=
  s.upd (fun d => d.ethLinkChange p up sqi.toNat)

end Sys2Proof.Machine
end

