-- ==== Sys2Proof/Machine/Seg.lean ====
section
/-! DEFINITION. SEG: the segment panel, its lines, temperature bands, stress counters and journal (spec/17_segment_panel.md, R548 to
R562). -/

namespace Sys2Proof.Machine

/-- Lines that are pending. -/
def Dev.segPend (d : Dev) : List Nat := (List.range 8).filter (fun c => d.on F.SEG_LN_STAT_PEND c)

/-- SEG_STATE and SEG_STAT follow the lines, the rails, the sensor and the temperature (R557, R560). GENFLT goes before COLD, and COLD, which is set
while the panel is too cold, before REPLAY and WRITING (log entry 187). -/
def Dev.segShow (d : Dev) : Dev :=
  let d := d.set F.SEG_STATE_PEND 0 (d.segPend.foldl (fun a c => a + 2 ^ c) 0)
  let st := if d.var V.segStop 0 = 1 then 4 else if d.var V.segCold 0 = 1 then 3 else if d.var V.segReplay 0 = 1 then 1
    else if d.var V.segPh 0 ≠ 0 ∨ d.segPend ≠ [] then 2 else 0
  (d.set F.SEG_STATE_ST 0 st).set F.COM_STAT_FAULT 0x25 (bit (d.var V.segStop 0 == 1 || d.on F.SEG_TEMP_TSFLT 0))

/-- Words of a line are equal in two images. -/
def Dev.segSame (d : Dev) (f g : Fld) (c : Nat) : Bool := (List.range 3).all (fun w => d.get f (3 * c + w) == d.get g (3 * c + w))

/-- A commit (R550): every line takes the staging image as its target and is pending where that differs from what it shows, or always with FULL. The
line in progress is compared when it ends. -/
def Dev.segCommit (d : Dev) (full : Bool) : Dev :=
  let d := d.each (List.range 8) (fun c a =>
    let a := a.each (List.range 3) (fun w b => b.set F.SEG_TGT_SEG (3 * c + w) (b.get F.SEG_STG_SEG (3 * c + w)))
    if a.var V.segPh 0 ≠ 0 ∧ a.get F.SEG_STATE_LINE 0 = c then a
    else a.set F.SEG_LN_STAT_PEND c (bit (full || !a.segSame F.SEG_TGT_SEG F.SEG_DSP_SEG c)))
  ((d.incWrap F.SEG_JSEQ_SEQ 0).setVar V.segStop 0 0).segShow

/-- The image of a Fallen unit goes into staging: as stored, or the default, which an image that was never written reads as (R556). -/
def Dev.segFallenImage (d : Dev) (r : Nat) : Dev :=
  d.each (List.range 24) (fun k a => a.set F.SEG_STG_SEG k (a.get F.SEG_FIMG_SEG (24 * (r - 1) + k)))

/-- Replay ends: the commits made during it are compared as one and counted each, and a Fallen unit's image is committed (R550, R555, R556). -/
def Dev.segReplayEnd (d : Dev) : Dev :=
  let w := d.var V.segWait 0
  let n := (d.var V.segWaitN 0).toNat
  let r := (d.var V.segFallen 0).toNat
  let d := (((d.setVar V.segReplay 0 0).setVar V.segWait 0 0).setVar V.segWaitN 0 0).irq 0x25 6
  let d := if w = 0 then d else (d.each (List.range (n - 1)) (fun _ a => a.incWrap F.SEG_JSEQ_SEQ 0)).segCommit (w == 2)
  if r = 0 then d.segShow else ((d.setVar V.segFallen 0 0).segFallenImage r).segCommit false

/-- RUN rises: the journal is replayed before anything else (R555). -/
def Dev.segRise (d : Dev) : Dev :=
  let d := (d.setVar V.segReplay 0 1).setVar V.segStop 0 0
  if d.segPend = [] then d.segReplayEnd else d.segShow

/-- PANEL_COMMIT (R550, R555); the write also lets a panel that had stopped with GENFLT write again (R549). -/
def execPanelCommit (a : Acc) (full : Bool) (s : State) : Host.Outcome State Fault Refusal :=
  s.upd (fun d => d.wr 0x25 0x804 a (fun d =>
    if !d.running 0x25 then d
    else if d.var V.segReplay 0 = 1 then
      (((d.setVar V.segWait 0 (if full || d.var V.segWait 0 == 2 then 2 else 1)).setVar V.segWaitN 0 (d.var V.segWaitN 0 + 1)).setVar V.segStop 0 0).segShow
    else d.segCommit full))

/-- The line in progress is aborted (R554): it stays pending, and its counters do not count. -/
def Dev.segAbort (d : Dev) : Dev :=
  if d.var V.segPh 0 = 0 then d
  else
    let c := d.get F.SEG_STATE_LINE 0
    ((((d.setVar V.segPh 0 0).setVar V.segTorn c 1).set F.SEG_LN_STAT_ST c 2).irq 0x25 7).segShow

/-- A line that stops short of its record: idle, or as it was where an abort has torn it since its last completed write (R557). -/
def Dev.segLeave (d : Dev) (c : Nat) : Dev := (d.setVar V.segPh 0 0).set F.SEG_LN_STAT_ST c (if d.var V.segTorn c = 1 then 2 else 0)

/-- A rail lies within 0.5 V of a band's value; both in 0.25 V, the value limited to 40 V (R549, R559). -/
def railIn (now want : Nat) : Bool := decide (now ≤ min 160 want + 2) && decide (min 160 want ≤ now + 2)

/-- Select fraction of a segment (R552). -/
def Dev.segFraction (d : Dev) (c s : Nat) : Nat :=
  min 255 (d.get F.SEG_CFG_ABASE.act 0 + d.get F.SEG_CTR_S (96 * c + s) / 65536 * d.get F.SEG_CFG_AGEK.act 0 / 16)

/-- A rail that has moved towards where it is seen, by 10 V in a millisecond at most: 0.25 V in 25 us (R549). -/
def Dev.railAt (d : Dev) (f : Fld) (seen : Nat) : Nat :=
  let n := (d.since V.segGenAt 0 / 1638400000).toNat
  let was := d.get f 0
  min (was + n) (max (was - n) (min 160 seen))

/-- A line may start: none is in progress, one is pending, and nothing holds writing back (R549 to R551). At this instant RWS fields take effect, before
the line samples anything (R557). -/
def Dev.segMayStart (d : Dev) : Bool :=
  d.running 0x25 && d.var V.segStop 0 != 1 && d.var V.pscDown 0 != 1 && d.var V.segPh 0 == 0 && d.var V.segCold 0 != 1 && !d.segPend.isEmpty

/-- PANEL_LINE_START (R548 to R551): the lowest pending line samples its content and its band; its reset phase starts once both rails are within
0.5 V of the band's values. The operands say where the rails are seen, in 0.25 V; they move no faster than R549 allows. -/
def Dev.segStart (d : Dev) (seenR seenS : Nat) : Dev :=
  let vr := d.railAt F.SEG_GEN_VRNOW seenR
  let vs := d.railAt F.SEG_GEN_VSNOW seenS
  let d := ((d.set F.SEG_GEN_VRNOW 0 vr).set F.SEG_GEN_VSNOW 0 vs).mark V.segGenAt 0
  let go := fun (d : Dev) =>
    let b := (d.var V.segBand 0).toNat
    if railIn vr (d.get F.BAND_V_VR.act b) && railIn vs (d.get F.BAND_V_VS.act b) then (d.setVar V.segPh 0 2).mark V.segAt 0 else d
  if !d.running 0x25 || d.var V.segStop 0 == 1 || d.var V.pscDown 0 == 1 then d
  else if d.var V.segPh 0 = 1 then go d
  else if !d.segMayStart then d
  else match d.segPend with
    | [] => d
    | c :: _ =>
      let d := ((d.set F.SEG_STATE_LINE 0 c).set F.SEG_LN_STAT_ST c 1).setVar V.segBand 0 (d.get F.SEG_STATE_BAND 0)
      let d := d.each (List.range 3) (fun w a => a.setVar V.segWord w (a.get F.SEG_TGT_SEG (3 * c + w)))
      let d := d.each (List.range 96) (fun s a => a.setVar V.segAmp s (a.segFraction c s))
      (go ((d.setVar V.segPh 0 1).mark V.segAt 0)).segShow

def execPanelLineStart (vr vs : BitVec 8) (s : State) : Host.Outcome State Fault Refusal := s.upd (fun d => d.segStart vr.toNat vs.toNat)

/-- The phase in progress has lasted `t` units of 0.1 ms; 0 acts as 1 (R559). -/
def Dev.segPassed (d : Dev) (ph t : Nat) : Bool := d.var V.segPh 0 == ph && d.passed V.segAt 0 ((max 1 t : Nat) * 100000)

/-- Level of a common line, in 0.25 V from the mid level (R548): in reset VR, its polarity reversed at TR/2; in select VS; else the mid level. -/
def Dev.segCommon (d : Dev) (c : Nat) : Int :=
  let b := (d.var V.segBand 0).toNat
  if c ≠ d.get F.SEG_STATE_LINE 0 then 0
  else if d.var V.segPh 0 = 2 then
    (let v : Int := (min 160 (d.get F.BAND_V_VR.act b) : Nat)
     if 2 * d.since V.segAt 0 < (max 1 (d.get F.BAND_T_TR.act b) : Nat) * 6553600000 then v else -v)
  else if d.var V.segPh 0 = 3 then (min 160 (d.get F.BAND_V_VS.act b) : Nat)
  else 0

/-- Level of a segment electrode, in 0.25 V from the mid level (R548, R552): in select, for the fraction AMP/256 of TS, the level that cancels the
common for an ON segment, and the one that doubles it for an OFF segment; else the mid level, which no rule states for the rest of TS (log entry 187). -/
def Dev.segLevel (d : Dev) (s : Nat) : Int :=
  let b := (d.var V.segBand 0).toNat
  let v : Int := (min 160 (d.get F.BAND_V_VS.act b) : Nat)
  if d.var V.segPh 0 = 3 ∧ 256 * d.since V.segAt 0 < d.var V.segAmp s * ((max 1 (d.get F.BAND_T_TS.act b) : Nat) * 6553600000) then
    (if tbit (d.var V.segWord (s / 32)).toNat (s % 32) then v else -v)
  else 0

/-- PANEL_SELECT_PHASE (R548). -/
def Dev.segSelect (d : Dev) : Dev :=
  if d.segPassed 2 (d.get F.BAND_T_TR.act (d.var V.segBand 0).toNat) then (d.setVar V.segPh 0 3).mark V.segAt 0 else d

def execPanelSelectPhase (s : State) : Host.Outcome State Fault Refusal := s.upd Dev.segSelect

/-- PANEL_EVOLVE_PHASE (R548). -/
def Dev.segEvolve (d : Dev) : Dev :=
  if d.segPassed 3 (d.get F.BAND_T_TS.act (d.var V.segBand 0).toNat) then (d.setVar V.segPh 0 4).mark V.segAt 0 else d

def execPanelEvolvePhase (s : State) : Host.Outcome State Fault Refusal := s.upd Dev.segEvolve

/-- PANEL_LINE_END (R550, R552, R553, R561): one journal record holds what the line shows, its pending bit and its counters. Where its MRAM write fails
the line stays pending. -/
def Dev.segEnd (d : Dev) (ok : Bool) : Dev :=
  if !d.segPassed 4 (d.get F.BAND_E_TE.act (d.var V.segBand 0).toNat) then d
  else
    let c := d.get F.SEG_STATE_LINE 0
    if !ok then ((d.segLeave c).errBlk 0x25 4 1).segShow
    else
      let d := ((d.setVar V.segTorn c 0).setVar V.segPh 0 0).set F.SEG_LN_STAT_ST c 0
      let d := d.each (List.range 3) (fun w a => a.set F.SEG_DSP_SEG (3 * c + w) (a.var V.segWord w).toNat)
      let d := d.each (List.range 96) (fun s a => a.incSat F.SEG_CTR_S (96 * c + s))
      let d := d.set F.SEG_LN_STAT_PEND c (bit (!d.segSame F.SEG_TGT_SEG F.SEG_DSP_SEG c))
      let d := ((d.set F.SEG_LN_STAT_BAND c (d.var V.segBand 0).toNat).set F.SEG_LN_TLAST_T c d.now.toNat).irq 0x25 0
      let d := d.when (d.segPend == []) (fun a => a.irq 0x25 1)
      if d.segPend = [] ∧ d.var V.segReplay 0 = 1 then d.segReplayEnd else d.segShow

def execPanelLineEnd (ok : Bool) (s : State) : Host.Outcome State Fault Refusal := s.upd (fun d => d.segEnd ok)

/-- GENERATOR_TIMEOUT (R549): a rail is not in its window within 5 ms. -/
def Dev.segTimeout (d : Dev) : Dev :=
  if d.var V.segPh 0 = 1 ∧ d.passed V.segAt 0 5000000 then
    ((((d.segLeave (d.get F.SEG_STATE_LINE 0)).setVar V.segStop 0 1).irq 0x25 4).errBlk 0x25 2 1).segShow
  else d

def execGeneratorTimeout (s : State) : Host.Outcome State Fault Refusal := s.upd Dev.segTimeout

/-- TMAX of a band, in 0.1 degree. -/
def Dev.segTmax (d : Dev) (b : Nat) : Int := d.getI F.BAND_V_TMAX.act b * 10

/-- The band for a temperature from the present one (R551): the lowest whose TMAX is not below it, and upwards only 1 degree above TMAX. -/
def Dev.segBandFor (d : Dev) (t : Int) : Nat :=
  let p := d.get F.SEG_STATE_BAND 0
  let b := ((List.range 7).find? (fun k => decide (t ≤ d.segTmax k))).getD 7
  if p < b ∧ t ≤ d.segTmax p + 10 then p else b

/-- The band changes. -/
def Dev.segSetBand (d : Dev) (b : Nat) : Dev := if d.get F.SEG_STATE_BAND 0 = b then d else (d.set F.SEG_STATE_BAND 0 b).irq 0x25 2

/-- What a reading of the panel sensor does (R551): a temperature in 0.1 degree, or none where the sensor reads open or shorted. -/
def Dev.segTempTake (d : Dev) (t : Option Int) : Dev :=
  match t with
  | none =>
    let d := if d.on F.SEG_TEMP_TSFLT 0 then d else ((d.set F.SEG_TEMP_TSFLT 0 1).irq 0x25 5).errBlk 0x25 3 1
    ((d.setVar V.segCold 0 0).segSetBand (d.get F.SEG_CFG_FBAND.act 0)).segShow
  | some t =>
    let low := d.getI F.SEG_CFG_TMINW.act 0 * 10
    let d := (d.set F.SEG_TEMP_TSFLT 0 0).setI F.SEG_TEMP_T 0 (clamp (-32768) 32767 t)
    let d := if d.var V.segCold 0 = 0 ∧ t < low then (d.setVar V.segCold 0 1).irq 0x25 3
      else if low + 20 ≤ t then d.setVar V.segCold 0 0 else d
    (d.segSetBand (d.segBandFor t)).segShow

/-- PANEL_TEMP_READ (R551): PSC0 reads the sensor 100 ms after the reading before. -/
def Dev.segTemp (d : Dev) (t : Option Int) : Dev :=
  if !d.running 0x25 || d.var V.pscDown 0 == 1 || !d.passed V.segTempAt 0 100000000 then d else (d.mark V.segTempAt 0).segTempTake t

def execPanelTempRead (t : Option (BitVec 12)) (s : State) : Host.Outcome State Fault Refusal := s.upd (fun d => d.segTemp (t.map (·.toInt)))

/-- STRESS_CLEAR (R552): accepted in SERVICE only. -/
def execStressClear (a : Acc) (s : State) : Host.Outcome State Fault Refusal :=
  s.upd (fun d => d.wr 0x25 0x808 a (fun d =>
    if d.get F.PWR_MODE_MODE 0 = 2 then d.each (List.range 768) (fun k b => b.set F.SEG_CTR_S k 0) else d.errBlk 0x25 1 0))

end Sys2Proof.Machine
end

