-- ==== Sys2Proof/Machine/Sol.lean ====
section
/-! DEFINITION. SOL: solenoid channels, start rules, the event queue, end of travel, faults and the boost converters
(spec/09_solenoid_drive.md, R304 to R333). -/

namespace Sys2Proof.Machine

/-! ### Outside agents and faults -/

/-- PSC1 holds its outputs for the 2 ms after a link loss: phases stand and no event starts (R357). -/
def Dev.solFrozen (d : Dev) : Bool := d.var V.pscDown 1 == 1 && !d.on F.LSW_PSC_OFF1 0

/-- Module under-voltage, supply loss, the deadman, or the LINK hold keeps every channel off (R328, R357, R611). -/
def Dev.solAgent (d : Dev) : Bool := d.on F.PWR_SUPPLY_UV 0 || d.on F.PWR_SUPPLY_SUPLOSS 0 || d.on F.SOL_SUPPLY_DEAD 0 || d.on F.LSW_PSC_OFF1 0

/-- Firebreak cuts the channel's bank. -/
def Dev.solCutCh (d : Dev) (c : Nat) : Bool := tbit (d.var V.solFb 0).toNat (c / 4)

/-- SOL_STAT.FAULT: a channel has FAULT or a converter FLT (R329). -/
def Dev.solStatFault (d : Dev) : Dev :=
  d.set F.COM_STAT_FAULT 0x21 (bit ((List.range 24).any (fun c => d.on F.SOL_CH_STAT_FAULT c) || d.on F.SOL_BST_STAT_FLT 0 ||
    d.on F.SOL_BST_STAT_FLT 1))

/-- FAULT of a channel (R326): FLTOFF, OPEN or the PSC1 link down; a rise is reported. -/
def Dev.solFaultEval (d : Dev) (c : Nat) : Dev :=
  let f := d.get F.SOL_CH_STAT_PHASE c == 7 || d.on F.SOL_CH_FLAGS_OPEN c || d.var V.pscDown 1 == 1
  let was := d.on F.SOL_CH_STAT_FAULT c
  let d := (d.set F.SOL_CH_STAT_FAULT c (bit f)).solStatFault
  if f && !was then (d.irq 0x21 1).errBlk 0x21 (if d.on F.SOL_CH_FLAGS_HSSHORT c then 7 else 5) 1 else d

/-- A flag of SOL_CH_FLAGS is raised, and counts as raised during the last event (R330). -/
def Dev.solFlag (d : Dev) (c : Nat) (f : Fld) : Dev :=
  let v := (d.var V.solEvF c).toNat
  (d.set f c 1).setVar V.solEvF c (((if tbit v f.lsb then v else v + 2 ^ f.lsb) : Nat) : Int)

/-- As `solFlag`, for a request that has not started: the flag counts for its event. -/
def Dev.solFlagW (d : Dev) (c : Nat) (f : Fld) : Dev :=
  let v := (d.var V.solEvN c).toNat
  (d.set f c 1).setVar V.solEvN c (((if tbit v f.lsb then v else v + 2 ^ f.lsb) : Nat) : Int)

/-- SOL_BANK_STAT for a channel's bank (R306, R331). -/
def Dev.solBank (d : Dev) (c : Nat) : Dev :=
  let b := c / 4
  let ph := fun (p : Nat) => (List.range 4).any (fun j => d.get F.SOL_CH_STAT_PHASE (4 * b + j) == p)
  let cut := tbit (d.var V.solFb 0).toNat b
  let v := bit (ph 2 && !cut) + 2 * bit (!ph 2 && (ph 3 || ph 4 || ph 6) && !cut) + 4 * bit (d.var V.solRight b != 0) + 8 * bit cut
  let w := d.get F.SOL_BANK_STAT_BANK 0
  d.set F.SOL_BANK_STAT_BANK 0 (w - w / 16 ^ b % 16 * 16 ^ b + v * 16 ^ b)

/-- A channel enters a phase. -/
def Dev.solPhase (d : Dev) (c p : Nat) : Dev := (((d.set F.SOL_CH_STAT_PHASE c p).mark V.solPhAt c).solBank c).solFaultEval c

/-- The channel gives up its bank's peak right. -/
def Dev.solRelease (d : Dev) (c : Nat) : Dev := if d.var V.solRight (c / 4) = c + 1 then (d.setVar V.solRight (c / 4) 0).solBank c else d

/-- SOL_Q_STAT.COUNT follows the queue. -/
def Dev.solCount (d : Dev) (c : Nat) : Dev := d.set F.SOL_Q_STAT_COUNT c (d.solQ.countP (fun e => e.1 == c))

/-- The head entry of a channel's queue. -/
def Dev.solHead (d : Dev) (c : Nat) : Option SolEntry := (d.solQ.find? (fun e => e.1 == c)).map (fun e => e.2)

/-- The head entry leaves the queue. -/
def Dev.solPop (d : Dev) (c : Nat) : Dev := ({ d with solQ := d.solQ.eraseP (fun e => e.1 == c) } : Dev).solCount c

/-! ### Converters (R305, R331) -/

/-- The rail is between VRDY of the target and the target plus 10 V. -/
def Dev.bstInside (d : Dev) (b v : Nat) : Bool := d.bstAbove b v && decide ((v : Int) * 1000 ≤ d.bstTarget b + 10000)

/-- The rail of a converter is measured, in V: VNOW, whose 7 bits saturate, what RDY is formed from (R305), and since when it lies inside its window (R331). -/
def Dev.bstMeasure (d : Dev) (b v : Nat) : Dev :=
  let d := (d.set F.SOL_BST_STAT_VNOW b (min v 127)).setVar V.bstRail b v
  if !d.bstInside b v then d.setVar V.bstIn b 0 else if d.var V.bstIn b = 1 then d else (d.setVar V.bstIn b 1).mark V.bstInAt b

/-- The converter of a channel is ready; one with FLT is not used (R332). -/
def Dev.bstReady (d : Dev) (b : Nat) : Bool := d.bstRdy b && !d.on F.SOL_BST_STAT_FLT b

/-- Both converters stop, and their rails discharge to the supply (R328, R331, R333, R357): neither is ready before its rail has been measured again. -/
def Dev.bstStop (d : Dev) : Dev := (d.setVar V.bstRail 0 0).setVar V.bstRail 1 0

/-! ### Levels, limits -/

/-- Effective MODE: 3 acts as 0 (R330). -/
def Dev.solMode (d : Dev) (c : Nat) : Nat := if d.get F.SOL_CH_CFG_MODE c = 3 then 0 else d.get F.SOL_CH_CFG_MODE c

/-- The channel is in use: enabled, and SOL runs. -/
def Dev.solOn (d : Dev) (c : Nat) : Bool := d.on F.SOL_CH_CFG_EN c && d.running 0x21

/-- The CURRENT set-point, mA (R307, R308). -/
def Dev.solSet (d : Dev) (c : Nat) : Int := min 5000 (if d.var V.solOwn c ≠ 0 then d.var V.solWhl c else (d.get F.SOL_CH_ISET_ISET c : Int))

/-- DITHF in Hz, 50 to 400; 0 is off (R330). -/
def Dev.solDithF (d : Dev) (c : Nat) : Nat :=
  let f := d.get F.SOL_CH_DITH_DITHF.act c
  if f = 0 then 0 else min 400 (max 50 f)

/-- The dither of a CURRENT channel, mA (R309): a triangle of amplitude DITHA at DITHF, from its start at 0. -/
def Dev.solDither (d : Dev) (c : Nat) : Int :=
  let a : Int := min 500 (d.get F.SOL_CH_DITH_DITHA.act c)
  let q := 4 * a * (d.since V.solDithAt c * d.solDithF c % 65536000000000) / 65536000000000
  if q < a then q else if q < 3 * a then 2 * a - q else q - 4 * a

/-- IHOLD in mA, 500 to 5,000 (R330). -/
def Dev.solIhold (d : Dev) (c : Nat) : Nat := min 50 (max 5 (d.get F.SOL_CH_HOLD_IHOLD.act c)) * 100

/-- IPEAK in mA (R330). -/
def Dev.solIpeak (d : Dev) (c : Nat) : Nat := min 20000 (max 1000 (d.get F.SOL_CH_PEAK_IPEAK.act c))

/-- PHYS in mA, 100 to 2,000 (R330). -/
def Dev.solPhys (d : Dev) (c : Nat) : Nat := min 2000 (max 100 (d.get F.SOL_CH_HOLD_PHYS.act c))

/-- The band of current, mA, in which a channel's low side regulates in its phase (R309, R310): a mean in HOLD and CURRENT, the chop band in PEAK; BOOST rises to
IPEAK. -/
def Dev.solTarget (d : Dev) (c : Nat) : Int × Int :=
  match d.get F.SOL_CH_STAT_PHASE c with
  | 2 => (d.solIpeak c, d.solIpeak c)
  | 3 => (d.solIpeak c - d.solPhys c, d.solIpeak c)
  | 4 => (d.solIhold c, d.solIhold c)
  | 6 => (d.solSet c + d.solDither c, d.solSet c + d.solDither c)
  | _ => (0, 0)

/-- Chop periods of a channel that have started by an instant (R309); CHOPF is 5 to 40 kHz. Their phase is the model's choice (log entry 166). -/
def Dev.solChops (d : Dev) (c : Nat) (at_ : Int) : Int := at_ * clamp 5 40 (d.get F.SOL_CH_HOLD_CHOPF.act c) / 65536000000

/-- A current measured now on a channel's low side, mA (R327). -/
def Dev.solMeas (d : Dev) (c : Nat) (i : Nat) : Dev := (d.set F.SOL_CH_IMEAS_IMEAS c i).mark V.solMeasAt c

/-- A channel of the bank has yet to take the CLRFLT that a high-side fault needs (R325): the bank's high side is not used. -/
def Dev.solHsHeld (d : Dev) (c : Nat) : Bool := (List.range 4).any (fun j => d.var V.solHs (4 * (c / 4) + j) == 1)

/-- The request level of an EVENT channel that the queue does not drive (R308). -/
def Dev.solLevel (d : Dev) (c : Nat) : Bool := if d.var V.solOwn c ≠ 0 then decide (0 < d.var V.solWhl c) else d.on F.SOL_CH_CMD_ON c

/-- The channel takes queued events (R321). -/
def Dev.solTakesQ (d : Dev) (c : Nat) : Bool :=
  d.solOn c && d.solMode c == 2 && d.on F.SOL_CH_CFG_EVSRC c && d.var V.solOwn c == 0 && d.get F.SOL_CH_STAT_PHASE c != 7

/-- The earliest start by check 1 (R314), in 2^-16 ns. TOFF is 2 to 200, in 0.1 ms. -/
def Dev.solEarliest (d : Dev) (c : Nat) : Int :=
  max (d.var V.solDecEnd c + (min 200 (max 2 (d.get F.SOL_CH_TIME_TOFF.act c)) : Nat) * (100000 * 65536)) (d.var V.solStartAt c + 5000000 * 65536)

/-- TBMAX, us, 50 to 5,000. -/
def Dev.solTbmax (d : Dev) (c : Nat) : Nat := min 5000 (max 50 (d.get F.SOL_CH_TIME_TBMAX.act c))

/-- KWIN, us, 100 to 10,000. -/
def Dev.solKwin (d : Dev) (c : Nat) : Nat := min 10000 (max 100 (d.get F.SOL_CH_KINK_KWIN.act c))

/-! ### Requests and starts (R314 to R319) -/

/-- A waiting request is dropped or rejected: a queued entry leaves the queue, a level needs a new rise (R315, R316). -/
def Dev.solDrop (d : Dev) (c : Nat) (f : Fld) : Dev :=
  let q := d.var V.solReq c
  let d := ((((d.solFlag c f).solRelease c).setVar V.solReq c 0).setVar V.solStage c 0)
  let d := if q = 2 then d.solPop c else if q = 1 then d.setVar V.solNeed c 1 else d
  if d.get F.SOL_CH_STAT_PHASE c = 1 then d.solPhase c 0 else d

/-- A drop that counts as an event dropped (R601). -/
def Dev.solLose (d : Dev) (c : Nat) (f : Fld) : Dev := (d.solDrop c f).cone 0x21 0x102

/-- The event starts in BOOST or PEAK (R310, R319). -/
def Dev.solStart (d : Dev) (c : Nat) (boost : Bool) : Dev :=
  let q := d.var V.solReq c
  let dur : Int := if q = 2 then ((d.solHead c).map (fun e => (e.dur : Int))).getD 0 else 0
  let d := if q = 2 then d.solPop c else d
  let d := (((d.setVar V.solRun c q).setVar V.solDur c dur).setVar V.solReq c 0).setVar V.solStage c 0
  let d := (((d.mark V.solStartAt c).setVar V.solEvF c (d.var V.solEvN c)).setVar V.solPk c 0).setI F.SOL_EV_TSTART_T c d.now
  ((d.mark V.bstEv (c / 12)).cone 0x21 0x100).solPhase c (if boost then 2 else 3)

/-- Check 3 (R317): with BOOST 1 the start waits for the converter. -/
def Dev.solCheck3 (d : Dev) (c : Nat) : Dev :=
  if !d.on F.SOL_CH_CFG_BOOST c then d.solStart c false
  else if d.bstReady (c / 12) then d.solStart c true
  else if d.var V.solStage c = 3 then d else (d.setVar V.solStage c 3).mark V.solBstAt c

/-- A bank-mate with a lower number asks for the peak right as well (R316). -/
def Dev.solLower (d : Dev) (c : Nat) : Bool :=
  (List.range (c % 4)).any (fun j =>
    let m := 4 * (c / 4) + j
    d.var V.solReq m != 0 && d.get F.SOL_CH_STAT_PHASE m == 1 && decide (d.solEarliest m ≤ d.var V.uptime 0))

/-- A waiting request goes as far through the checks as it can now (R314 to R317, R328). -/
def Dev.solTry (d : Dev) (c : Nat) : Dev :=
  if d.var V.solReq c = 0 || d.solFrozen || d.solAgent || d.solHsHeld c then d
  else if d.solCutCh c then d.solLose c F.SOL_CH_FLAGS_UVDROP
  else
    let ph := d.get F.SOL_CH_STAT_PHASE c
    if 1 < ph then d
    else
      let d := if ph = 0 then d.solPhase c 1 else d
      if d.var V.uptime 0 < d.solEarliest c then d
      else if d.on F.SOL_SUPPLY_CRANK 0 then d.solLose c F.SOL_CH_FLAGS_UVDROP
      else if d.var V.solRight (c / 4) = c + 1 then d.solCheck3 c
      else
        let d := if d.var V.solStage c = 2 then d else (d.setVar V.solStage c 2).setVar V.solChk c (max (d.var V.solChk c) (d.solEarliest c))
        if d.var V.solRight (c / 4) ≠ 0 || d.solLower c then d.solFlagW c F.SOL_CH_FLAGS_DEFER
        else ((d.setVar V.solRight (c / 4) (c + 1)).solBank c).solCheck3 c

/-- The search for a kink ends without one (R323). -/
def Dev.solNoKink (d : Dev) (c : Nat) : Dev :=
  let d := ((d.setVar V.solKink c 0).set F.SOL_EV_TIME_KINK c 0xFFFF).solFlag c F.SOL_CH_FLAGS_NOKINK
  (d.set F.SOL_EV_FLAGS_FLAGS c (d.var V.solEvF c).toNat).irq 0x21 8

/-- An event is requested (R315, R323, R328): `q` 1 by a level, 2 by the queue; `late` for an entry that a forward step has passed (R322). -/
def Dev.solRequest (d : Dev) (c : Nat) (q : Int) (late : Bool) : Dev :=
  let d := if d.var V.solKink c = 1 then d.solNoKink c else d
  if d.solAgent then (if q = 2 then (d.setVar V.solReq c 2).solLose c F.SOL_CH_FLAGS_UVDROP else d)
  else
    let d := (((d.setVar V.solReq c q).setVar V.solStage c 1).mark V.solChk c).setVar V.solEvN c 0
    if d.solCutCh c then d.solLose c F.SOL_CH_FLAGS_UVDROP
    else
      let delayed := decide (1 < d.get F.SOL_CH_STAT_PHASE c) || decide (d.var V.uptime 0 < d.solEarliest c)
      if late then ((d.solFlagW c F.SOL_CH_FLAGS_OFFDEF).cone 0x21 0x101).solTry c
      else if !delayed then d.solTry c
      else if d.on F.SOL_CH_CFG_OFFMODE c then (d.solDrop c F.SOL_CH_FLAGS_OFFREJ).irq 0x21 6
      else ((d.solFlagW c F.SOL_CH_FLAGS_OFFDEF).cone 0x21 0x101).solTry c

/-- The channel enters DECAY (R310, R312, R323); `ev`: an event ends with it. -/
def Dev.solDecay (d : Dev) (c : Nat) (ev : Bool) : Dev :=
  let d := (d.solRelease c).setVar V.solRun c 0
  let d := if ev then
      let d := (d.incWrap F.SOL_EV_SEQ_SEQ c).set F.SOL_EV_FLAGS_FLAGS c (d.var V.solEvF c).toNat
      if d.on F.SOL_CH_CFG_IRQ c then d.irq 0x21 0 else d
    else d
  ((d.mark V.solDecAt c).setVar V.solKink c (bit (d.on F.SOL_CH_CFG_KEN c))).solPhase c 5

/-- A conducting channel enters DECAY, by an outside agent or the end of its request. -/
def Dev.solStop (d : Dev) (c : Nat) : Dev :=
  let p := d.get F.SOL_CH_STAT_PHASE c
  if p = 2 ∨ p = 3 ∨ p = 4 then d.solDecay c true else if p = 6 then d.solDecay c false else d

/-- A waiting level request is withdrawn; a queued entry stays in the queue. -/
def Dev.solWithdraw (d : Dev) (c : Nat) : Dev :=
  let d := ((d.solRelease c).setVar V.solReq c 0).setVar V.solStage c 0
  if d.get F.SOL_CH_STAT_PHASE c = 1 then d.solPhase c 0 else d

/-- The dither restarts at a set-point change of more than 10 % (R309). -/
def Dev.solDithSync (d : Dev) (c : Nat) : Dev :=
  let o := d.var V.solDithRef c
  let n := d.solSet c
  if n = o then d else (d.when (decide (|o| < 10 * |n - o|)) (fun a => a.mark V.solDithAt c)).setVar V.solDithRef c n

/-- A channel follows its set-point (R307, R308, R312, R313, R328). -/
def Dev.solSync (d : Dev) (c : Nat) : Dev :=
  let p := d.get F.SOL_CH_STAT_PHASE c
  if p = 7 || d.solFrozen then d
  else if !d.solOn c || d.solMode c == 0 then (d.solStop c).solWithdraw c
  else if d.solMode c = 1 then
    let d := d.solDithSync c
    if d.solSet c ≤ 0 then (if p = 6 then d.solDecay c false else d)
    else if (p = 0 ∨ p = 5) ∧ !d.solAgent ∧ !d.solCutCh c ∧ !d.solHsHeld c ∧ !d.on F.SOL_SUPPLY_CRANK 0 then d.solPhase c 6
    else d
  else if d.var V.solOwn c = 0 ∧ d.on F.SOL_CH_CFG_EVSRC c then d
  else if !d.solLevel c then
    let d := d.setVar V.solNeed c 0
    let d := if d.var V.solRun c = 1 then d.solStop c else d
    if d.var V.solReq c = 1 then d.solWithdraw c else d
  else if d.var V.solNeed c = 0 ∧ d.var V.solReq c = 0 ∧ d.var V.solRun c = 0 then d.solRequest c 1 false
  else d

/-- What SOL's registers show of the channels, of the PSC1 link and of the Firebreak cuts is formed anew after a reset of the registers (R326, R331); the link's
loss was reported when it came. -/
def Dev.solShow (d : Dev) : Dev :=
  let d := d.each (List.range 24) (fun c a =>
    a.set F.SOL_CH_STAT_FAULT c (bit (a.get F.SOL_CH_STAT_PHASE c == 7 || a.on F.SOL_CH_FLAGS_OPEN c || a.var V.pscDown 1 == 1)))
  (d.each (List.range 6) (fun b a => a.solBank (4 * b))).solStatFault

/-! ### Agents as seen by SOL -/

/-- A bit of SOL_SUPPLY changed (R332). -/
def Dev.solSupply (d : Dev) (f : Fld) (v : Bool) : Dev := if d.on f 0 == v then d else (d.set f 0 (bit v)).irq 0x21 7

/-- Every channel enters DECAY; waiting queued entries are dropped with UVDROP (R328). -/
def Dev.solAllOff (d : Dev) : Dev :=
  d.each (List.range 24) (fun c a =>
    let a := a.solStop c
    if a.var V.solReq c = 2 then a.solLose c F.SOL_CH_FLAGS_UVDROP else if a.var V.solReq c = 1 then a.solWithdraw c else a)

/-- Every channel follows its set-point again when a hold ends (R328, R357). -/
def Dev.solAllSync (d : Dev) : Dev := d.each (List.range 24) (fun c a => a.solSync c)

/-- Under-voltage ends (R328): CURRENT channels resume, and EVENT channels whose level is non-zero start a new event, whatever dropped their last request. -/
def Dev.solRestart (d : Dev) : Dev := d.each (List.range 24) (fun c a => (a.setVar V.solNeed c 0).solSync c)

/-- Firebreak cuts the banks of a mask (R328). -/
def Dev.solSetCut (d : Dev) (m : Nat) : Dev :=
  let old := (d.var V.solFb 0).toNat
  let d := d.setVar V.solFb 0 m
  d.each (List.range 24) (fun c a =>
    let was := tbit old (c / 4)
    let cut := tbit m (c / 4)
    if cut && !was then
      let a := (a.solStop c).solFlag c F.SOL_CH_FLAGS_FBCUT
      let a := if a.var V.solReq c ≠ 0 then a.solLose c F.SOL_CH_FLAGS_UVDROP else a
      (if a.solMode c == 2 && a.solLevel c then a.setVar V.solNeed c 1 else a).solBank c
    else if was && !cut then (a.solBank c).solSync c
    else a)

/-! ### Meanings -/

/-- EVENT_REQUEST (R308, R312): SOL_CH_CMD.ON takes the value. -/
def execEventRequest (a : Acc) (on : Bool) (s : State) : Host.Outcome State Fault Refusal :=
  s.upd (fun d => d.wrCh 0x21 0x11C a (fun c d => (d.set F.SOL_CH_CMD_ON c (bit on)).solSync c) (fun c d => d.changes F.SOL_CH_CMD_ON c (bit on)))

/-- CURRENT_SETPOINT (R308, R313). -/
def execCurrentSetpoint (a : Acc) (v : BitVec 16) (s : State) : Host.Outcome State Fault Refusal :=
  s.upd (fun d => d.wrCh 0x21 0x104 a (fun c d => (d.set F.SOL_CH_ISET_ISET c v.toNat).solSync c) (fun c d => d.changes F.SOL_CH_ISET_ISET c v.toNat))

/-- QUEUE_PUSH (R320, R321). -/
def Dev.queuePush (d : Dev) (c : Nat) : Dev :=
  let start := d.get F.SOL_Q_T_START c
  let dur := d.get F.SOL_Q_DUR_DUR c
  let q := (d.solQ.filter (fun e => e.1 == c)).map (fun e => e.2)
  let early := match q.getLast? with
    | some e => decide (start < e.start + e.dur * 1000)
    | none => false
  if 4 ≤ q.length || early || decide (dur < 50) then d.errBlk 0x21 2 0
  else if (start : Int) < d.now + 10000 then ((d.solFlag c F.SOL_CH_FLAGS_LATE).irq 0x21 4).cone 0x21 0x102
  else ({ d with solQ := d.solQ ++ [(c, (⟨start, dur⟩ : SolEntry))] } : Dev).solCount c

def execQueuePush (a : Acc) (s : State) : Host.Outcome State Fault Refusal := s.upd (fun d => d.wrCh 0x21 0x12C a (fun c d => d.queuePush c))

/-- QUEUE_FLUSH (R322): the queue empties; an event already started runs to its end. -/
def execQueueFlush (a : Acc) (s : State) : Host.Outcome State Fault Refusal :=
  s.upd (fun d => d.wrCh 0x21 0x12C a (fun c d =>
    let d := if d.var V.solReq c = 2 then d.solWithdraw c else d
    ({ d with solQ := d.solQ.filter (fun e => e.1 != c) } : Dev).solCount c))

/-- QUEUE_ENTRY_DUE (R321, R322, R328): the head entry's START has come. -/
def Dev.queueDue (d : Dev) (c : Nat) : Dev :=
  match d.solHead c with
  | none => d
  | some e =>
    if d.var V.solReq c = 2 || decide (d.now < e.start) then d
    else
      let late := d.var V.solStepped c == 1 && decide ((e.start : Int) ≤ d.var V.stepTo 0)
      let d := if late then d else d.setVar V.solStepped c 0
      if d.solAgent then (d.setVar V.solReq c 2).solLose c F.SOL_CH_FLAGS_UVDROP
      else if !d.solTakesQ c then (((d.solFlag c F.SOL_CH_FLAGS_LATE).solPop c).irq 0x21 4).cone 0x21 0x102
      else d.solRequest c 2 late

def execQueueEntryDue (c : Fin 24) (s : State) : Host.Outcome State Fault Refusal := s.upd (fun d => d.queueDue c)

/-- EVENT_START (R314): the waiting request meets the start rules, with the rail of its converter as measured now. -/
def execEventStart (c : Fin 24) (rail : BitVec 8) (s : State) : Host.Outcome State Fault Refusal :=
  s.upd (fun d => (d.bstMeasure (c / 12) rail.toNat).solTry c)

/-- OVERLAP_DROP (R316). -/
def Dev.overlapDrop (d : Dev) (c : Nat) : Dev :=
  if d.var V.solReq c != 0 && d.var V.solStage c == 2 && !d.solFrozen &&
      d.passed V.solChk c ((d.get F.SOL_CH_TIME_OVWIN.act c : Int) * 10000) then
    ((d.solLose c F.SOL_CH_FLAGS_OVLP).irq 0x21 2).errBlk 0x21 4 0
  else d

def execOverlapDrop (c : Fin 24) (s : State) : Host.Outcome State Fault Refusal := s.upd (fun d => d.overlapDrop c)

/-- BOOST_WAIT_EXPIRY (R317): 200 us without a ready converter. -/
def Dev.boostWait (d : Dev) (c : Nat) : Dev :=
  if d.var V.solReq c != 0 && d.var V.solStage c == 3 && !d.solFrozen && d.passed V.solBstAt c 200000 then
    if d.on F.SOL_SUPPLY_CRANK 0 then d.solLose c F.SOL_CH_FLAGS_UVDROP
    else if d.bstReady (c / 12) then d.solStart c true
    else if d.on F.SOL_CH_CFG_BNRMODE c then d.solDrop c F.SOL_CH_FLAGS_BNRABT
    else ((d.solStart c false).solFlag c F.SOL_CH_FLAGS_BSTNR).irq 0x21 3
  else d

def execBoostWaitExpiry (c : Fin 24) (rail : BitVec 8) (s : State) : Host.Outcome State Fault Refusal :=
  s.upd (fun d => (d.bstMeasure (c / 12) rail.toNat).boostWait c)

/-- BOOST leaves for PEAK, where it is left (R310, R311). -/
def Dev.solToPeak (d : Dev) (c : Nat) : Dev := if d.get F.SOL_CH_STAT_PHASE c = 2 then d.solPhase c 3 else d

/-- The event rises towards IPEAK: BOOST, or PEAK before it has reached IPEAK. -/
def Dev.solRising (d : Dev) (c : Nat) : Bool :=
  !d.solFrozen && d.var V.solPk c == 0 && (d.get F.SOL_CH_STAT_PHASE c == 2 || d.get F.SOL_CH_STAT_PHASE c == 3)

/-- BOOST_PEAK_REACHED (R310, R330): the current has reached IPEAK; TPK is the time from the start in us. -/
def Dev.peakReached (d : Dev) (c i : Nat) : Dev :=
  let d := d.solMeas c i
  if d.solRising c && decide (d.solIpeak c ≤ i) then
    ((d.setVar V.solPk c 1).set F.SOL_EV_TIME_TPK c (min 65535 (d.since V.solStartAt c / (1000 * 65536)).toNat)).solToPeak c
  else d

def execBoostPeakReached (m : SolMeas) (s : State) : Host.Outcome State Fault Refusal := s.upd (fun d => d.peakReached m.ch m.val.toNat)

/-- The event runs and has not reached IPEAK: in HOLD too, where a channel with BOOST 0 has left PEAK before TBMAX (R311). -/
def Dev.solUnpeaked (d : Dev) (c : Nat) : Bool :=
  d.solRising c || (!d.solFrozen && d.var V.solPk c == 0 && d.get F.SOL_CH_STAT_PHASE c == 4)

/-- BOOST_TIMEOUT (R311): TBMAX without IPEAK. -/
def Dev.boostTimeout (d : Dev) (c : Nat) : Dev :=
  if d.solUnpeaked c && d.passed V.solStartAt c ((d.solTbmax c : Int) * 1000) then
    (((d.setVar V.solPk c 1).set F.SOL_EV_TIME_TPK c (d.solTbmax c)).solFlag c F.SOL_CH_FLAGS_NOPEAK).solToPeak c
  else d

def execBoostTimeout (c : Fin 24) (s : State) : Host.Outcome State Fault Refusal := s.upd (fun d => d.boostTimeout c)

/-- PEAK_END (R310): TPEAK after the entry to PEAK; the peak right is released (R314). -/
def Dev.peakEnd (d : Dev) (c : Nat) : Dev :=
  if d.get F.SOL_CH_STAT_PHASE c == 3 && !d.solFrozen && d.passed V.solPhAt c ((min 20000 (d.get F.SOL_CH_PEAK_TPEAK.act c) : Nat) * 1000) then
    (d.solRelease c).solPhase c 4
  else d

def execPeakEnd (c : Fin 24) (s : State) : Host.Outcome State Fault Refusal := s.upd (fun d => d.peakEnd c)

/-- EVENT_END (R312): DUR after the actual start of a queued event, or the fall of the level that runs the event. -/
def Dev.eventEnd (d : Dev) (c : Nat) : Dev :=
  if d.solFrozen then d
  else if d.var V.solRun c == 2 && d.passed V.solStartAt c (d.var V.solDur c * 1000) then d.solStop c
  else if d.var V.solRun c == 1 && !d.solLevel c then d.solSync c
  else d

def execEventEnd (c : Fin 24) (s : State) : Host.Outcome State Fault Refusal := s.upd (fun d => d.eventEnd c)

/-- DECAY_END (R310): the current is below 50 mA. -/
def Dev.decayEnd (d : Dev) (c i : Nat) : Dev :=
  let d := d.solMeas c i
  if d.get F.SOL_CH_STAT_PHASE c == 5 && !d.solFrozen && decide (i < 50) then (((d.solPhase c 0).mark V.solDecEnd c).solSync c).solTry c else d

def execDecayEnd (m : SolMeas) (s : State) : Host.Outcome State Fault Refusal := s.upd (fun d => d.decayEnd m.ch m.val.toNat)

/-- The slope over the last 8 us, in 1/8 mV/us, less the slope 8 us earlier (R323), from the newest sample and those 8 and 16 us before it. -/
def kinkBend (x : KinkIn) : Int := ((x.now.toNat : Int) - x.ago8.toNat) - ((x.ago8.toNat : Int) - x.ago16.toNat)

/-- KINK_DETECT (R323): at a sample, from 16 us after the start of DECAY and within KWIN, the slope differs from that 8 us earlier by at least KTH mV/us in
either direction. The first such sample ends the search. -/
def Dev.kinkDetect (d : Dev) (x : KinkIn) : Dev :=
  let c := x.ch.val
  let us := (d.since V.solDecAt c / (1000 * 65536)).toNat
  if d.var V.solKink c == 1 && decide (16 ≤ us) && decide (us ≤ d.solKwin c) && decide (8 * (d.get F.SOL_CH_KINK_KTH.act c : Int) ≤ |kinkBend x|) then
    (d.setVar V.solKink c 0).set F.SOL_EV_TIME_KINK c us else d

def execKinkDetect (x : KinkIn) (s : State) : Host.Outcome State Fault Refusal := s.upd (fun d => d.kinkDetect x)

/-- KINK_WINDOW_END (R323). -/
def Dev.kinkEnd (d : Dev) (c : Nat) : Dev :=
  if d.var V.solKink c == 1 && d.passed V.solDecAt c ((d.solKwin c : Int) * 1000) then d.solNoKink c else d

def execKinkWindowEnd (c : Fin 24) (s : State) : Host.Outcome State Fault Refusal := s.upd (fun d => d.kinkEnd c)

/-- A latched fault takes the channel off into FLTOFF (R324). -/
def Dev.solTrip (d : Dev) (c : Nat) (f : Fld) : Dev :=
  let d := d.set f c 1
  if d.get F.SOL_CH_STAT_PHASE c = 7 then d
  else
    let d := ((d.solRelease c).setVar V.solRun c 0).setVar V.solStage c 0
    (if d.var V.solReq c = 1 then d.setVar V.solReq c 0 else if d.var V.solReq c = 2 then d.setVar V.solReq c 0 else d).solPhase c 7

/-- SOL_SHORT (R324): the low-side current, in mA, is above 25 A. -/
def execSolShort (m : SolMeas) (s : State) : Host.Outcome State Fault Refusal :=
  s.upd (fun d => (d.solMeas m.ch m.val.toNat).when (decide (25000 < m.val.toNat)) (fun a => a.solTrip m.ch F.SOL_CH_FLAGS_SHORT))

/-- HS_SHORT (R324): the bank's high-side current, in mA, is above 40 A, or the high side has failed to reach its rail; all four channels of the bank. -/
def execHsShort (m : HsMeas) (s : State) : Host.Outcome State Fault Refusal :=
  s.upd (fun d => if m.noRail || decide (40000 < m.cur.toNat) then
    d.each [0, 1, 2, 3] (fun j a => (a.setVar V.solHs (4 * m.bank + j) 1).solTrip (4 * m.bank + j) F.SOL_CH_FLAGS_HSSHORT) else d)

/-- SOL_OVERTEMP (R324): the low-side junction, in degrees Celsius, is above 175. -/
def execSolOvertemp (m : SolMeas) (s : State) : Host.Outcome State Fault Refusal :=
  s.upd (fun d => if 175 < m.val.toInt then d.solTrip m.ch F.SOL_CH_FLAGS_OT else d)

/-- SOL_OPEN_LOAD (R324): in HOLD or CURRENT with a target of at least 200 mA, the mean current of the last 10 ms at full duty is below 25 % of the target. -/
def Dev.solOpenLoad (d : Dev) (c i : Nat) : Dev :=
  let p := d.get F.SOL_CH_STAT_PHASE c
  let t : Int := if p = 4 then d.solIhold c else d.solSet c
  let d := d.solMeas c i
  if (p = 4 ∨ p = 6) ∧ 200 ≤ t ∧ 4 * (i : Int) < t ∧ d.passed V.solPhAt c 10000000 then (d.solFlag c F.SOL_CH_FLAGS_OPEN).solFaultEval c else d

def execSolOpenLoad (m : SolMeas) (s : State) : Host.Outcome State Fault Refusal := s.upd (fun d => d.solOpenLoad m.ch m.val.toNat)

/-- SOL_CLEAR_FAULT (R325). `cause`: the fault that is still present (0 SHORT, 1 HSSHORT, 2 OT), which sets again at once. -/
def Dev.solClear (d : Dev) (c : Nat) (cause : Option (Fin 3)) : Dev :=
  let d := (((d.set F.SOL_CH_FLAGS_SHORT c 0).set F.SOL_CH_FLAGS_HSSHORT c 0).set F.SOL_CH_FLAGS_OT c 0).set F.SOL_CH_FLAGS_OPEN c 0
  let d := if cause = some 1 then d else d.setVar V.solHs c 0
  if d.get F.SOL_CH_STAT_PHASE c ≠ 7 then d.solFaultEval c
  else match cause with
    | none => (d.solPhase c 0).each [0, 1, 2, 3] (fun j a => (a.solSync (4 * (c / 4) + j)).solTry (4 * (c / 4) + j))
    | some 0 => d.set F.SOL_CH_FLAGS_SHORT c 1
    | some 1 => d.set F.SOL_CH_FLAGS_HSSHORT c 1
    | some _ => d.set F.SOL_CH_FLAGS_OT c 1

def execSolClearFault (a : Acc) (cause : Option (Fin 3)) (s : State) : Host.Outcome State Fault Refusal :=
  s.upd (fun d => d.wrCh 0x21 0x11C a (fun c d => d.solClear c cause))

/-- SOL_CHANNEL_ENABLE (R330). -/
def execSolChannelEnable (a : Acc) (en : Bool) (s : State) : Host.Outcome State Fault Refusal :=
  s.upd (fun d => d.wrCh 0x21 0x100 a (fun c d => (d.set F.SOL_CH_CFG_EN c (bit en)).solSync c) (fun c d => d.changes F.SOL_CH_CFG_EN c (bit en)))

/-- BOOST_ENABLE (R305, R331): at enable the target is VBST at once; 0 stops the converter and clears FLT. -/
def execBoostEnable (a : Acc) (b : Fin 2) (en : Bool) (s : State) : Host.Outcome State Fault Refusal :=
  s.upd (fun d => d.wr 0x21 (0x800 + 4 * b.val) a (fun d =>
    if en then
      if d.on F.SOL_BST_CFG_EN b then d
      else (((d.set F.SOL_BST_CFG_EN b 1).setVar V.bstTgt b ((d.bstSet b : Int) * 1000)).mark V.bstAt b).mark V.bstEv b
    else (((d.set F.SOL_BST_CFG_EN b 0).setVar V.bstRail b 0).set F.SOL_BST_STAT_FLT b 0).solStatFault)
    (d.changes F.SOL_BST_CFG_EN b (bit en)))

/-- BOOST_FAULT (R331, R332): the rail is above its target plus 10 V, or below VRDY 50 ms after EN or the last event start. -/
def Dev.boostFault (d : Dev) (b v : Nat) : Dev :=
  let d := d.bstMeasure b v
  let above := decide (d.bstTarget b + 10000 < (v : Int) * 1000)
  let below := !d.bstAbove b v && d.passed V.bstEv b 50000000
  if d.on F.SOL_BST_CFG_EN b && !d.on F.SOL_BST_STAT_FLT b && (above || below) then
    (((d.set F.SOL_BST_STAT_FLT b 1).solStatFault).irq 0x21 5).errBlk 0x21 6 1
  else d

def execBoostFault (b : Fin 2) (rail : BitVec 8) (s : State) : Host.Outcome State Fault Refusal := s.upd (fun d => d.boostFault b rail.toNat)

/-- BOOST_FAULT_CLEAR (R331): the rail has been inside its window for 10 ms. -/
def Dev.boostClear (d : Dev) (b v : Nat) : Dev :=
  let d := d.bstMeasure b v
  if d.var V.bstIn b == 1 && d.passed V.bstInAt b 10000000 then (d.set F.SOL_BST_STAT_FLT b 0).solStatFault else d

def execBoostFaultClear (b : Fin 2) (rail : BitVec 8) (s : State) : Host.Outcome State Fault Refusal := s.upd (fun d => d.boostClear b rail.toNat)

/-- BOOST_RAIL_READY (R305, R317): the rail reaches VRDY, and channels that waited for it start. -/
def Dev.railReady (d : Dev) (b v : Nat) : Dev :=
  let d := d.bstMeasure b v
  if d.bstReady b then
    d.each ((List.range 12).filter (fun j => d.var V.solStage (12 * b + j) == 3 && d.var V.solReq (12 * b + j) != 0)) (fun j a => a.solTry (12 * b + j))
  else d

def execBoostRailReady (b : Fin 2) (rail : BitVec 8) (s : State) : Host.Outcome State Fault Refusal := s.upd (fun d => d.railReady b rail.toNat)

end Sys2Proof.Machine
end

