-- ==== Sys2Proof/Machine/Lsw.lean ====
section
/-! DEFINITION. LSW: load switches, stud budget, current sense, protection, supply holds and the PSC links
(spec/10_load_switches_supply.md, R334 to R369). -/

namespace Sys2Proof.Machine

/-- PWR_STAT.FAULT is 1 while SUPLOSS or UV is 1 (R628). -/
def Dev.pwrFault (d : Dev) : Dev := d.set F.COM_STAT_FAULT 0x01 (bit (d.on F.PWR_SUPPLY_SUPLOSS 0 || d.on F.PWR_SUPPLY_UV 0))

/-! ### Commands and conduction -/

/-- Heavy channels (R334). -/
def lswHeavy (c : Nat) : Bool := decide (c < 4) || (decide (12 ≤ c) && decide (c < 16))

/-- Nominal current, A (R334). -/
def lswNom (c : Nat) : Nat := if lswHeavy c then 25 else 10

/-- Supply stud of a channel: 0 B+A, 1 B+B. -/
def lswStud (c : Nat) : Nat := if c < 12 then 0 else 1

/-- PSC0 holds its outputs for the 2 ms after a link loss: channels keep their command and duty (R357). -/
def Dev.lswFrozen (d : Dev) : Bool := d.var V.pscDown 0 == 1 && !d.on F.LSW_PSC_OFF0 0

/-- The command that ON, DUTY or the owning loop's us give, 0.01 %, whatever EN is (R337, R359): 10,000 conducts without switching. -/
def Dev.lswWant (d : Dev) (c : Nat) : Nat :=
  if d.var V.lswOwn c ≠ 0 then (clamp 0 10000 (d.var V.lswWhl c)).toNat
  else if !d.on F.LSW_CH_CMD_ON c then 0
  else if d.get F.LSW_CH_CFG_MODE c = 1 then min 10000 (d.get F.LSW_CH_PWM_DUTY.act c)
  else 10000

/-- The duty asked of the channel: that of its command while its EN and LSW's RUN are 1 (R365). -/
def Dev.lswAsk (d : Dev) (c : Nat) : Nat := if d.on F.LSW_CH_CFG_EN c && d.running 0x22 then d.lswWant c else 0

/-- The command that PSC0 follows, 0.01 % (R337, R357). -/
def Dev.lswCmd (d : Dev) (c : Nat) : Nat := if d.lswFrozen then (d.var V.lswKept c).toNat else d.lswAsk c

/-- FREQ, Hz, 100 to 2,000. -/
def Dev.lswFreq (d : Dev) (c : Nat) : Nat := min 2000 (max 100 (d.get F.LSW_CH_PWM_FREQ.act c))

/-- The channel conducts (R361): ON or INRUSH. -/
def Dev.lswLive (d : Dev) (c : Nat) : Bool := d.get F.LSW_CH_STAT_STATE c == 1 || d.get F.LSW_CH_STAT_STATE c == 2

/-- The conducting fraction, 1/10,000 (R344): phases shorter than 20 us are not produced (R337). -/
def Dev.lswFrac (d : Dev) (c : Nat) : Nat :=
  if !d.lswLive c then 0
  else
    let u := d.lswCmd c
    if u * 5 < d.lswFreq c then 0 else if (10000 - u) * 5 < d.lswFreq c then 10000 else u

/-! ### States -/

/-- FAULT of a channel and of LSW (R364, R365). -/
def Dev.lswFault (d : Dev) (c : Nat) : Dev :=
  let d := d.set F.LSW_CH_STAT_FAULT c (bit (d.get F.LSW_CH_STAT_STATE c == 4 || d.on F.LSW_CH_FLAGS_OPEN c || d.on F.LSW_CH_FLAGS_STB c))
  d.set F.COM_STAT_FAULT 0x22 (bit ((List.range 24).any (fun k => d.get F.LSW_CH_STAT_STATE k == 4) || d.on F.LSW_PSC_OFF0 0 || d.on F.LSW_PSC_OFF1 0))

/-- The output conducts at this instant: in PWM, within the on-phase of its period (R337). The on-phase comes first in the period, whose place in time is the
model's choice (log entry 166). -/
def Dev.lswOnPhase (d : Dev) (c : Nat) : Bool :=
  decide (d.var V.uptime 0 * d.lswFreq c % 65536000000000 * 10000 < (d.lswFrac c : Int) * 65536000000000)

/-- The voltage on ISENSE_MON in mV (R341): 100 mV per A of the channel shown, that is 1 mV per 10 mA, clipped at 5.0 V; 0 V with MONEN at 0. It is the
channel's mirror, ahead of the track-and-hold: whatever slot the current was last seen in, and nothing in an off-phase. -/
def Dev.isenseShow (d : Dev) : Dev :=
  let c := (d.var V.isenseCh 0).toNat
  d.setVar V.isenseMon 0 (if d.on F.LSW_SENSE_SEL_MONEN 0 && d.lswOnPhase c then min 5000 (d.var V.lswMirr c) else 0)

/-- A channel enters a state with a cause. Its scan current is 0 while it does not conduct (R340). -/
def Dev.lswState (d : Dev) (c st cause : Nat) : Dev :=
  let live := d.lswLive c
  let d := (d.set F.LSW_CH_STAT_STATE c st).set F.LSW_CH_STAT_CAUSE c cause
  (if live && !d.lswLive c then (((d.mark V.lswOffAt c).set F.LSW_CH_IMEAS_I c 0).setVar V.lswMirr c 0).isenseShow else d).lswFault c

/-- The outside agent that holds a channel off, by its CAUSE; 0 none (R361; log entry 19 for the order in which they show). -/
def Dev.lswHold (d : Dev) (c : Nat) : Nat :=
  if d.on F.LSW_SUPPLY_DEAD 0 then 9
  else if tbit (d.var V.lswFb 0).toNat c then 10
  else if d.on F.LSW_PSC_OFF0 0 then 11
  else if d.on F.PWR_SUPPLY_UV 0 then 8
  else if (if lswStud c = 0 then d.on F.LSW_SUPPLY_BROWNA 0 else d.on F.LSW_SUPPLY_BROWNB 0) then 7
  else 0

/-- Crank-hold is active on the channel's stud. -/
def Dev.lswCrank (d : Dev) (c : Nat) : Bool := if lswStud c = 0 then d.on F.LSW_SUPPLY_CRANKA 0 else d.on F.LSW_SUPPLY_CRANKB 0

/-- A turn-on (R338, R343, R353). -/
def Dev.lswTurnOn (d : Dev) (c : Nat) : Dev :=
  if d.lswCrank c then ((d.lswState c 6 6).set F.LSW_CH_FLAGS_CRANKBLK c 1).setVar V.lswCw c 1
  else (((d.lswState c (if d.get F.LSW_CH_CFG_TIR c = 0 then 1 else 2) 0).mark V.lswAt c).setVar V.lswCw c 0).setVar V.lswDue c (-1)

/-- The channel goes off. -/
def Dev.lswOff (d : Dev) (c cause : Nat) : Dev := ((d.lswState c 0 cause).setVar V.lswCw c 0).setVar V.lswDue c (-1)

/-- A channel follows its command and its holds (R337, R359, R361). A REARM mark ends where ON, DUTY or the loop's us go to 0, and stays where EN or RUN takes
the channel off. In the 2 ms after a link loss nothing turns on (R357); agents still hold the channel off, as R361 has no exception (log entry 195). -/
def Dev.lswSync (d : Dev) (c : Nat) : Dev :=
  let st := d.get F.LSW_CH_STAT_STATE c
  let cmd := d.lswCmd c != 0
  let d := if d.lswFrozen || d.lswWant c != 0 then d else d.setVar V.lswRearm c 0
  let rearm := if d.var V.lswRearm c = 1 then 12 else 0
  if st = 3 ∨ st = 4 then d
  else
    let h := d.lswHold c
    if h ≠ 0 then
      if st = 5 ∧ cmd then d else ((d.lswState c 6 h).setVar V.lswCw c 0).setVar V.lswDue c (-1)
    else if d.lswFrozen then d
    else if !cmd then (if st = 0 ∧ d.get F.LSW_CH_STAT_CAUSE c = rearm then d else d.lswOff c rearm)
    else if rearm = 12 then d.lswOff c 12
    else if st = 0 then d.lswTurnOn c
    else if st = 6 ∧ d.var V.lswDue c < 0 ∧ d.var V.lswCw c = 0 then d.lswTurnOn c
    else d

/-- Channels of a list follow the start of a hold; each shows its flag. -/
def Dev.lswHoldOn (d : Dev) (l : List Nat) (f : Fld) : Dev := d.each l (fun c a => (a.set f c 1).lswSync c)

/-- A hold ends: each channel of a list that nothing else holds turns on after its number of milliseconds (R356). -/
def Dev.lswHoldOff (d : Dev) (l : List Nat) : Dev :=
  d.each l (fun c a =>
    if a.get F.LSW_CH_STAT_STATE c = 6 ∧ a.lswHold c = 0 ∧ a.lswCmd c ≠ 0 ∧ a.var V.lswRearm c = 0 then
      (a.setVar V.lswCw c 0).setVar V.lswDue c (a.var V.uptime 0 + (c : Int) * 1000000 * 65536)
    else a.lswSync c)

/-- A bit of LSW_SUPPLY changes (R368). -/
def Dev.lswSupply (d : Dev) (f : Fld) (v : Bool) : Dev := if d.on f 0 == v then d else (d.set f 0 (bit v)).irq 0x22 4

/-- The channels of a stud. -/
def studChans (st : Nat) : List Nat := (List.range 12).map (fun k => 12 * st + k)

/-- Firebreak cuts the channels of a mask; FBRS decides at the end of the cut (R359). -/
def Dev.lswSetCut (d : Dev) (m : Nat) : Dev :=
  let old := (d.var V.lswFb 0).toNat
  let d := d.setVar V.lswFb 0 m
  d.each (List.range 24) (fun c a =>
    if tbit m c && !tbit old c then (a.set F.LSW_CH_FLAGS_FBCUT c 1).lswSync c
    else if tbit old c && !tbit m c then
      (if a.on F.LSW_CH_CFG_FBRS c then a else a.setVar V.lswRearm c 1).lswSync c
    else a)

/-! ### Trips -/

/-- The wire class of a channel (R345, R366): K, TAU, LIM. -/
def Dev.lswClass (d : Dev) (c : Nat) : Nat × Nat × Nat :=
  let w := d.get F.LSW_CH_CFG_WCLS c
  let w := if 7 < w then 0 else w
  if d.get F.WCLS_K_K w = 0 ∨ d.get F.WCLS_LIM_LIM w = 0 then (493827, 250, 4000)
  else (d.get F.WCLS_K_K w, max 10 (d.get F.WCLS_TAU_TAU w), d.get F.WCLS_LIM_LIM w)

/-- A trip (R342, R344, R348, R349, R368): flag, cause, BCODE; LATCH or COOL. -/
def Dev.lswTrip (d : Dev) (c : Nat) (f : Fld) (cause bcode : Nat) (latch : Bool) : Dev :=
  let d := ((((d.set f c 1).incSat F.LSW_CH_TRIPS_TRIPS c).mark V.lswTripAt c).setVar V.lswScTrip c (bit (cause == 1))).irq 0x22 0
  let d := ((d.setVar V.lswCw c 0).setVar V.lswDue c (-1)).lswState c (if latch then 4 else 3) cause
  (if latch then d.irq 0x22 1 else d).errBlk 0x22 bcode 1

/-- LSW_ON_WRITE (R337, R365). -/
def execLswOnWrite (a : Acc) (on : Bool) (s : State) : Host.Outcome State Fault Refusal :=
  s.upd (fun d => d.wrCh 0x22 0x104 a (fun c d => (d.set F.LSW_CH_CMD_ON c (bit on)).lswSync c) (fun c d => d.changes F.LSW_CH_CMD_ON c (bit on)))

/-- LSW_CHANNEL_ENABLE (R365). -/
def execLswChannelEnable (a : Acc) (en : Bool) (s : State) : Host.Outcome State Fault Refusal :=
  s.upd (fun d => d.wrCh 0x22 0x100 a (fun c d => (d.set F.LSW_CH_CFG_EN c (bit en)).lswSync c) (fun c d => d.changes F.LSW_CH_CFG_EN c (bit en)))

/-! ### Stud budget (R335, R336) -/

/-- STUDLIM of STUD_CFG, A: at most 120. -/
def Dev.studSet (d : Dev) (st : Nat) : Nat := min 120 (if st = 0 then d.get F.LSW_STUD_CFG_LIMA 0 else d.get F.LSW_STUD_CFG_LIMB 0)

/-- STUDLIM in force, A: that of the last 10 ms step (R367). -/
def Dev.studLim (d : Dev) (st : Nat) : Nat := (d.var V.studLimit st).toNat

/-- STUD_AVG exceeds STUDLIM. The sum over 1,000 ms is in uA. -/
def Dev.studOver (d : Dev) (st : Nat) : Bool := decide ((d.studLim st : Int) * 1000000000 < d.var V.studSum st)

/-- The highest-numbered conducting channel of the stud with SHED 1. -/
def Dev.studShed (d : Dev) (st : Nat) : Option Nat := (studChans st).reverse.find? (fun c => d.lswLive c && d.on F.LSW_CH_CFG_SHED c)

/-- The history of the studs starts at 0 A (R335): PSC0 has been powered up. -/
def Dev.studClear (d : Dev) : Dev := d.each [0, 1] (fun st a => (a.setPast 7 st []).setVar V.studSum st 0)

/-- STUD_BUDGET_STEP (R335, R336): the stud sum of a new millisecond. List 7 holds the last 1,000 sums. -/
def Dev.studStep (d : Dev) (st : Nat) : Dev :=
  if d.var V.ticks 0 ≤ d.var V.studTick st then d
  else
    let d := d.setVar V.studTick st (d.var V.ticks 0)
    let d := d.when (decide (d.var V.ticks 0 % 10 = 0)) (fun a => a.setVar V.studLimit st (a.studSet st : Nat))
    let s : Int := (((studChans st).map (fun c => d.get F.LSW_CH_IMEAS_I c * d.lswFrac c)).sum : Nat)
    let l := d.past 7 st
    let out := if l.length < 1000 then 0 else ((l.getLast?).map (fun e => e.1)).getD 0
    let d := (d.setPast 7 st (((s, 0) :: l).take 1000)).setVar V.studSum st (d.var V.studSum st + s - out)
    let d := d.set F.LSW_STUD_AVG st (d.var V.studSum st / 100000000).toNat
    let low := decide (d.var V.studSum st ≤ ((d.studLim st : Int) - 20) * 1000000000)
    let d := d.setVar V.studLow st (if low then d.var V.studLow st + 1 else 0)
    let d := d.setVar V.studHi st (if d.studOver st && (d.studShed st).isNone then d.var V.studHi st + 1 else 0)
    if 1000 ≤ d.var V.studLow st then d.set F.LSW_STUD_STUDOV st 0 else d

def execStudBudgetStep (st : Fin 2) (s : State) : Host.Outcome State Fault Refusal := s.upd (fun d => d.studStep st)

/-- LOAD_SHED (R335): every 10 ms while STUD_AVG exceeds STUDLIM. -/
def Dev.loadShed (d : Dev) (st : Nat) : Dev :=
  if d.studOver st && d.passed V.shedAt st 10000000 && !d.lswFrozen then
    match d.studShed st with
    | some c => ((((d.mark V.shedAt st).lswState c 5 0).set F.LSW_CH_FLAGS_SHED c 1).irq 0x22 3).errBlk 0x22 9 0
    | none => d.mark V.shedAt st
  else d

def execLoadShed (st : Fin 2) (s : State) : Host.Outcome State Fault Refusal := s.upd (fun d => d.loadShed st)

/-- STUD_OVERLOAD (R336). -/
def Dev.studOverload (d : Dev) (st : Nat) : Dev :=
  if 1000 ≤ d.var V.studHi st ∧ d.get F.LSW_STUD_STUDOV st = 0 then ((d.set F.LSW_STUD_STUDOV st 1).irq 0x22 7).errBlk 0x22 6 1 else d

def execStudOverload (st : Fin 2) (s : State) : Host.Outcome State Fault Refusal := s.upd (fun d => d.studOverload st)

/-- SHED_RETURN (R336): one channel every 100 ms, lowest-numbered first. -/
def Dev.shedReturn (d : Dev) (st : Nat) : Dev :=
  if decide (1000 ≤ d.var V.studLow st) && d.passed V.shedRet st 100000000 && !d.lswFrozen then
    match (studChans st).find? (fun c => d.get F.LSW_CH_STAT_STATE c == 5) with
    | some c =>
      let d := d.mark V.shedRet st
      if d.lswHold c ≠ 0 then d.lswState c 6 (d.lswHold c) else (d.lswState c 0 0).lswSync c
    | none => d
  else d

def execShedReturn (st : Fin 2) (s : State) : Host.Outcome State Fault Refusal := s.upd (fun d => d.shedReturn st)

/-! ### Sense and protection -/

/-- The converter slot of the present instant: 48 in each Grove millisecond (R339). -/
def Dev.senseSlot (d : Dev) : Nat := (d.var V.grove 0 % 65536000000 * 48 / 65536000000).toNat

/-- SENSE_CONVERSION (R339 to R341, R367): the present converter slot converts its channel, `cur` in 10 mA; ISENSE_MON shows the selected channel, or in SCAN that of
the slot. -/
def Dev.senseConv (d : Dev) (slot cur : Nat) : Dev :=
  if slot ≠ d.senseSlot then d else
  let sel := if 23 < d.get F.LSW_SENSE_SEL_CH 0 then 0 else d.get F.LSW_SENSE_SEL_CH 0
  let c := if slot % 2 = 0 ∨ d.on F.LSW_SENSE_SEL_MODE 0 then slot / 2 else sel
  let v := if d.lswLive c then cur else 0
  let d := d.when (!d.lswLive c || d.lswOnPhase c) (fun a => a.setVar V.lswMirr c v)
  let d := if slot % 2 = 0 then d.set F.LSW_CH_IMEAS_I c v else d
  let d := (d.setVar V.isenseCh 0 (if d.on F.LSW_SENSE_SEL_MODE 0 then slot / 2 else sel : Nat)).isenseShow
  if c = sel then d.set F.LSW_SENSE_VAL_I 0 v else d

def execSenseConversion (slot : Fin 48) (cur : BitVec 16) (s : State) : Host.Outcome State Fault Refusal :=
  s.upd (fun d => d.senseConv slot cur.toNat)

/-- Trip level, 10 mA (R342, R343, R365): 4 times nominal, in the inrush window 4 + IRX times, at most 8. -/
def Dev.lswLevel (d : Dev) (c : Nat) : Nat :=
  (if d.get F.LSW_CH_STAT_STATE c = 2 then 4 + min 4 (d.get F.LSW_CH_CFG_IRX c) else 4) * lswNom c * 100

/-- SHORT_CIRCUIT_TRIP (R342, R349). -/
def Dev.shortTrip (d : Dev) (c cur : Nat) : Dev :=
  if d.lswLive c && decide (d.lswLevel c < cur) then d.lswTrip c F.LSW_CH_FLAGS_SC 1 4 (!d.on F.LSW_CH_CFG_SCRST c) else d

def execShortCircuitTrip (c : Fin 24) (cur : BitVec 16) (s : State) : Host.Outcome State Fault Refusal := s.upd (fun d => d.shortTrip c cur.toNat)

/-- INRUSH_END (R343): TIR ms after the turn-on. -/
def Dev.inrushEnd (d : Dev) (c : Nat) : Dev :=
  if d.get F.LSW_CH_STAT_STATE c == 2 && d.passed V.lswAt c ((d.get F.LSW_CH_CFG_TIR c : Int) * 1000000) then d.lswState c 1 0 else d

def execInrushEnd (c : Fin 24) (s : State) : Host.Outcome State Fault Refusal := s.upd (fun d => d.inrushEnd c)

/-- The next theta (R344), uK with 16 fraction bits, rounded down: `n` is the scan current in 10 mA, `fr` the fraction in 1/10,000. -/
def thetaNext (k tau n fr : Nat) (th : Int) : Int := th + ((k * n * n * fr * 65536 : Nat) - th * 100000000) / (100000000 * 100 * tau : Nat)

/-- WIRE_MODEL_STEP (R344): one step each millisecond; at LIM a WIRE trip. -/
def Dev.wireStep (d : Dev) (c : Nat) : Dev :=
  if d.var V.ticks 0 ≤ d.var V.wireTick c then d
  else
    let (k, tau, lim) := d.lswClass c
    let th := thetaNext k tau (d.get F.LSW_CH_IMEAS_I c) (d.lswFrac c) (d.var V.lswTheta c)
    let d := (d.setVar V.wireTick c (d.var V.ticks 0)).setVar V.lswTheta c th
    let d := d.set F.LSW_CH_TEMP_WRISE c (min 65535 (th / (65536 * 10000)).toNat)
    if (lim : Int) * 10000 * 65536 ≤ th ∧ d.get F.LSW_CH_STAT_STATE c ≠ 4 then d.lswTrip c F.LSW_CH_FLAGS_WIRE 2 3 true else d

def execWireModelStep (c : Fin 24) (s : State) : Host.Outcome State Fault Refusal := s.upd (fun d => d.wireStep c)

/-- LSW_CLEAR_FAULT (R346): only on a channel in LATCH whose junction and wire have cooled; a REARM mark stays. -/
def Dev.lswClear (d : Dev) (c : Nat) : Dev :=
  let (_, _, lim) := d.lswClass c
  if d.get F.LSW_CH_STAT_STATE c = 4 ∧ d.getI F.LSW_CH_TEMP_TJ c ≤ 1500 ∧ d.var V.lswTheta c * 2 ≤ (lim : Int) * 10000 * 65536 then
    let d := (((((d.set F.LSW_CH_FLAGS_SC c 0).set F.LSW_CH_FLAGS_WIRE c 0).set F.LSW_CH_FLAGS_OT c 0).set F.LSW_CH_FLAGS_OTABS c 0).set
      F.LSW_CH_FLAGS_RETRYX c 0).setVar V.lswRearm c 1
    (d.lswState c 0 12).lswSync c
  else d.errBlk 0x22 2 0

def execLswClearFault (a : Acc) (s : State) : Host.Outcome State Fault Refusal := s.upd (fun d => d.wrCh 0x22 0x104 a (fun c d => d.lswClear c))

/-- JUNCTION_READ (R348): TJ in signed 0.1 degree C; OT at 175, OTABS at 190. -/
def Dev.junction (d : Dev) (c tj : Nat) : Dev :=
  let d := d.set F.LSW_CH_TEMP_TJ c tj
  let v := d.getI F.LSW_CH_TEMP_TJ c
  if 1900 ≤ v ∧ d.get F.LSW_CH_STAT_STATE c ≠ 4 then d.lswTrip c F.LSW_CH_FLAGS_OTABS 4 5 true
  else if 1750 ≤ v ∧ d.lswLive c then d.lswTrip c F.LSW_CH_FLAGS_OT 3 5 (d.on F.LSW_CH_CFG_RSTMODE c)
  else d

def execJunctionRead (c : Fin 24) (tj : BitVec 16) (s : State) : Host.Outcome State Fault Refusal := s.upd (fun d => d.junction c tj.toNat)

/-- AUTO_RESTART (R350). A channel with a REARM mark goes off and uses no restart (R361). -/
def Dev.autoRestart (d : Dev) (c : Nat) : Dev :=
  let (_, _, lim) := d.lswClass c
  if d.get F.LSW_CH_STAT_STATE c == 3 && decide (d.getI F.LSW_CH_TEMP_TJ c ≤ 1500) && (d.var V.lswScTrip c == 0 || d.passed V.lswTripAt c 100000000) &&
      decide (d.var V.lswTheta c < (lim : Int) * 10000 * 65536) && d.lswHold c == 0 then
    if d.var V.lswRearm c = 1 then d.lswOff c 12
    else if d.lswCmd c = 0 then d.lswOff c 0
    else if d.get F.LSW_CH_STAT_RTRN c < max 1 (d.get F.LSW_CH_CFG_RETRY c) then
      (((d.set F.LSW_CH_STAT_RTRN c (d.get F.LSW_CH_STAT_RTRN c + 1)).incSat F.LSW_CH_TRIPS_RESTARTS c).irq 0x22 6).lswTurnOn c
    else (((d.set F.LSW_CH_FLAGS_RETRYX c 1).lswState c 4 5).irq 0x22 1).errBlk 0x22 5 1
  else d

def execAutoRestart (c : Fin 24) (s : State) : Host.Outcome State Fault Refusal := s.upd (fun d => d.autoRestart c)

/-- RETRY_WINDOW (R351): at a whole multiple of 10 s of Grove time. -/
def Dev.retryWindow (d : Dev) : Dev :=
  let w := d.now / 10000000000
  if d.var V.retryWin 0 = w then d else d.each (List.range 24) (fun c a => a.set F.LSW_CH_STAT_RTRN c 0) |>.setVar V.retryWin 0 w

def execRetryWindow (s : State) : Host.Outcome State Fault Refusal := s.upd Dev.retryWindow

/-- A run counter: upwards while a condition holds, downwards while it does not. -/
def runCount (n : Int) (c : Bool) : Int := if c then max 0 n + 1 else min 0 n - 1

/-- A flag follows its run counter after three checks; a rise is reported with BCODE 0x8. -/
def Dev.olFlag (d : Dev) (c : Nat) (f : Fld) (n : Int) : Dev :=
  if 3 ≤ n ∧ d.get f c = 0 then (((d.set f c 1).irq 0x22 2).lswFault c).errBlk 0x22 8 0
  else if n ≤ -3 then (d.set f c 0).lswFault c else d

/-- OPEN_LOAD_CHECK (R352): the output voltage, in 0.01 V, every 10 ms. -/
def Dev.openLoad (d : Dev) (c v : Nat) : Dev :=
  if d.on F.LSW_CH_CFG_OLEN c && !d.lswLive c && d.passed V.lswOffAt c 2000000 && d.passed V.olAt c 10000000 then
    let d := (d.set F.LSW_CH_IMEAS_OLV c v).mark V.olAt c
    let d := d.setVar V.olHi c (runCount (d.var V.olHi c) (decide (800 < v)))
    let d := d.setVar V.olMid c (runCount (d.var V.olMid c) (decide (400 < v) && decide (v ≤ 800)))
    (d.olFlag c F.LSW_CH_FLAGS_STB (d.var V.olHi c)).olFlag c F.LSW_CH_FLAGS_OPEN (d.var V.olMid c)
  else d

def execOpenLoadCheck (c : Fin 24) (volt : BitVec 16) (s : State) : Host.Outcome State Fault Refusal := s.upd (fun d => d.openLoad c volt.toNat)

/-! ### Supply holds (R353 to R356) -/

/-- A condition on VSUP (0 below 30 V, 1 above 33 V, 2 above 16 V, 3 below 12 V) holds or not: since when it has held without a break (R355, R609 to
R611). A module reset restarts none of these counts (R610). -/
def Dev.supFollow (d : Dev) (k : Nat) (v : Bool) : Dev :=
  if !v then d.setVar V.supOn k 0 else if d.var V.supOn k = 1 then d else (d.setVar V.supOn k 1).mark V.supOnAt k

/-- A stud is measured: VSTUD in V, and VSUP, the higher of the two, in SOL's V and PWR's 0.1 V (R331, R355, R609, R628). -/
def Dev.studMeasure (d : Dev) (st mv : Nat) : Dev :=
  let d := (d.set F.LSW_STUD_VSTUD st (min 255 (mv / 1000))).setVar V.studMv st mv
  let v := max (d.var V.studMv 0) (d.var V.studMv 1)
  let d := (((d.supFollow 0 (decide (v < 30000))).supFollow 1 (decide (33000 < v))).supFollow 2 (decide (16000 < v))).supFollow 3 (decide (v < 12000))
  let d := d.set F.PWR_SUPPLY_VSUP 0 (v / 100).toNat
  d.set F.SOL_SUPPLY_VSUP 0 (max (d.get F.LSW_STUD_VSTUD 0) (d.get F.LSW_STUD_VSTUD 1))

/-- Crank-hold of SOL (R328): while the supply, the higher stud, is below 28 V. -/
def Dev.solCrankEval (d : Dev) : Dev :=
  let v := decide (max (d.var V.studMv 0) (d.var V.studMv 1) < 28000)
  let was := d.on F.SOL_SUPPLY_CRANK 0
  let d := d.solSupply F.SOL_SUPPLY_CRANK v
  if was && !v then d.solAllSync else d

/-- CRANK_HOLD (R353): the stud is below 28 V. -/
def Dev.crankHold (d : Dev) (st mv : Nat) : Dev :=
  let d := d.studMeasure st mv
  (d.when (decide (mv < 28000)) (fun a => a.lswSupply (if st = 0 then F.LSW_SUPPLY_CRANKA else F.LSW_SUPPLY_CRANKB) true)).solCrankEval

def execCrankHold (st : Fin 2) (mv : BitVec 17) (s : State) : Host.Outcome State Fault Refusal := s.upd (fun d => d.crankHold st mv.toNat)

/-- CRANK_END (R353, R356): the stud is at 28.5 V, and refused turn-ons take place in order. -/
def Dev.crankEnd (d : Dev) (st mv : Nat) : Dev :=
  let d := d.studMeasure st mv
  if 28500 ≤ mv then
    let d := d.lswSupply (if st = 0 then F.LSW_SUPPLY_CRANKA else F.LSW_SUPPLY_CRANKB) false
    (d.lswHoldOff ((studChans st).filter (fun c => d.var V.lswCw c == 1))).solCrankEval
  else d.solCrankEval

def execCrankEnd (st : Fin 2) (mv : BitVec 17) (s : State) : Host.Outcome State Fault Refusal := s.upd (fun d => d.crankEnd st mv.toNat)

/-- BROWN_OUT (R354): the stud is below 12 V. -/
def Dev.brownOut (d : Dev) (st mv : Nat) : Dev :=
  let d := d.studMeasure st mv
  if mv < 12000 then
    ((d.lswSupply (if st = 0 then F.LSW_SUPPLY_BROWNA else F.LSW_SUPPLY_BROWNB) true).lswHoldOn (studChans st) F.LSW_CH_FLAGS_BROWN).solCrankEval
  else d.solCrankEval

def execBrownOut (st : Fin 2) (mv : BitVec 17) (s : State) : Host.Outcome State Fault Refusal := s.upd (fun d => d.brownOut st mv.toNat)

/-- BROWN_OUT_END (R354, R356): the stud is at 28.5 V. -/
def Dev.brownEnd (d : Dev) (st mv : Nat) : Dev :=
  let d := d.studMeasure st mv
  (d.when (decide (28500 ≤ mv)) (fun a =>
    (a.lswSupply (if st = 0 then F.LSW_SUPPLY_BROWNA else F.LSW_SUPPLY_BROWNB) false).lswHoldOff (studChans st))).solCrankEval

def execBrownOutEnd (st : Fin 2) (mv : BitVec 17) (s : State) : Host.Outcome State Fault Refusal := s.upd (fun d => d.brownEnd st mv.toNat)

/-- MODULE_UNDERVOLTAGE (R328, R355): VSUP has been below 30 V for 20 ms. -/
def Dev.undervolt (d : Dev) : Dev :=
  if d.on F.PWR_SUPPLY_UV 0 || d.var V.supOn 0 != 1 || !d.passed V.supOnAt 0 20000000 then d
  else
    let d := ((d.lswSupply F.LSW_SUPPLY_UV true).set F.PWR_SUPPLY_UV 0 1).pwrFault
    let d := (d.irq 0x01 4).errBlk 0x01 6 1
    ((d.lswHoldOn (List.range 24) F.LSW_CH_FLAGS_UV).solSupply F.SOL_SUPPLY_UV true).solAllOff

def execModuleUndervoltage (s : State) : Host.Outcome State Fault Refusal := s.upd Dev.undervolt

/-- UNDERVOLTAGE_END (R328, R355, R356): VSUP has been above 33 V for 50 ms. -/
def Dev.undervoltEnd (d : Dev) : Dev :=
  if d.on F.PWR_SUPPLY_UV 0 && d.var V.supOn 1 == 1 && d.passed V.supOnAt 1 50000000 then
    let d := (((d.lswSupply F.LSW_SUPPLY_UV false).set F.PWR_SUPPLY_UV 0 0).pwrFault).irq 0x01 4
    ((d.lswHoldOff (List.range 24)).solSupply F.SOL_SUPPLY_UV false).solRestart
  else d

def execUndervoltageEnd (s : State) : Host.Outcome State Fault Refusal := s.upd Dev.undervoltEnd

/-- STAGGERED_TURN_ON (R356): the channel's instant has come. -/
def Dev.staggered (d : Dev) (c : Nat) : Dev :=
  if 0 ≤ d.var V.lswDue c ∧ d.var V.lswDue c ≤ d.var V.uptime 0 ∧ d.lswFrozen = false then (d.setVar V.lswDue c (-1)).lswSync c else d

def execStaggeredTurnOn (c : Fin 24) (s : State) : Host.Outcome State Fault Refusal := s.upd (fun d => d.staggered c)

/-! ### PSC links (R357) -/

/-- The registers of a PSC: link, outputs held. -/
def pscLink (p : Nat) : Fld := if p = 0 then F.LSW_PSC_LINK0 else F.LSW_PSC_LINK1

def pscOff (p : Nat) : Fld := if p = 0 then F.LSW_PSC_OFF0 else F.LSW_PSC_OFF1

/-- FAULT of every solenoid channel is judged again. -/
def Dev.solFaultAll (d : Dev) : Dev := d.each (List.range 24) (fun c a => a.solFaultEval c)

/-- PSC_LINK_LOSS (R357): no valid frame for 1 us. -/
def Dev.pscLoss (d : Dev) (p : Nat) : Dev :=
  if d.var V.pscDown p = 1 then d
  else
    let d0 := d
    let d := (((d.set (pscLink p) 0 0).setVar V.pscDown p 1).mark V.pscAt p).irq 0x22 5
    if p = 1 then d.solFaultAll
    else if d.on F.LSW_PSC_OFF0 0 then d
    else d.each (List.range 24) (fun c a => a.setVar V.lswKept c (d0.lswAsk c : Nat))

def execPscLinkLoss (p : Fin 2) (s : State) : Host.Outcome State Fault Refusal := s.upd (fun d => d.pscLoss p)

/-- PSC_LINK_HOLD_END (R357, R383): 2 ms without relock; the outputs go off with cause LINK, a class C2 error is reported, and FBRK latches. -/
def Dev.pscHoldEnd (d : Dev) (p : Nat) : Dev :=
  if d.var V.pscDown p == 1 && !d.on (pscOff p) 0 && d.passed V.pscAt p 2000000 then
    let d := d.set (pscOff p) 0 1
    let d := if p = 0 then (d.lswHoldOn (List.range 24) F.LSW_CH_FLAGS_LINK).segAbort else d.solAllOff.bstStop
    ((d.lswFault 0).errBlk 0x22 (if p = 0 then 7 else 0xA) 2).fbLatchAll 1
  else d

def execPscLinkHoldEnd (p : Fin 2) (s : State) : Host.Outcome State Fault Refusal := s.upd (fun d => d.pscHoldEnd p)

/-- PSC_LINK_RELOCK (R357): within the 2 ms operation continues. -/
def Dev.pscRelock (d : Dev) (p : Nat) : Dev :=
  let d := ((d.set (pscLink p) 0 1).setVar V.pscDown p 0).irq 0x22 5
  if p = 1 then d.solFaultAll.solAllSync else d.each (List.range 24) (fun c a => a.lswSync c)

def execPscLinkRelock (p : Fin 2) (s : State) : Host.Outcome State Fault Refusal := s.upd (fun d => d.pscRelock p)

/-- PSC_ACK (R357, R367): ignored while the link is down. LSW channels return in order, SOL channels as at the end of module under-voltage. -/
def Dev.pscAck (d : Dev) (p : Nat) : Dev :=
  if d.var V.pscDown p = 1 ∨ !d.on (pscOff p) 0 then d
  else
    let d := (d.set (pscOff p) 0 0).lswFault 0
    if p = 0 then d.lswHoldOff (List.range 24) else d.solRestart

def execPscAck (a : Acc) (p : Fin 2) (s : State) : Host.Outcome State Fault Refusal := s.upd (fun d => d.wr 0x22 0x820 a (fun d => d.pscAck p))

/-! ### Keeping theta across a power-down (R347) -/

/-- The keeper stores theta of every channel with the AON time, and marks the record valid. -/
def Dev.thetaStore (d : Dev) : Dev :=
  ((d.each (List.range 24) (fun c a => a.setVar V.thStore c (a.var V.lswTheta c))).mark V.thTime 0).setVar V.thValid 0 1

/-- A power of a fraction in 2^-48, by squaring, with `n` bits of the exponent left. -/
def fracPow (n : Nat) (b e : Nat) : Nat :=
  match n with
  | 0 => 2 ^ 48
  | k + 1 =>
    let h := fracPow k (b * b / 2 ^ 48) (e / 2)
    if e % 2 = 1 then h * b / 2 ^ 48 else h

/-- Theta of every channel at a power-up of PSC0: from the record, cooled over the AON time where AON kept it, or LIM/2. -/
def Dev.thetaRestore (d : Dev) (kept : Bool) : Dev :=
  let valid := d.var V.thValid 0 == 1
  let ms := if kept then (d.since V.thTime 0 / (1000000 * 65536)).toNat else 0
  (d.each (List.range 24) (fun c a =>
    let (_, tau, lim) := a.lswClass c
    let th := if valid then a.var V.thStore c * fracPow 40 (2 ^ 48 - 2 ^ 48 / (100 * tau)) ms / 2 ^ 48 else (lim : Int) * 5000 * 65536
    a.setVar V.lswTheta c th)).setVar V.thValid 0 0

end Sys2Proof.Machine
end

