-- ==== Sys2Proof/Machine/Fbrk.lean ====
section
/-! DEFINITION. FBRK: safe inputs, groups, cuts, latches and the fault reset (spec/11_firebreak.md, R370 to R393, R661). -/

namespace Sys2Proof.Machine

/-! ### Pairs -/

/-- TYPE of a pair: 3 acts as 0 (R389). -/
def Dev.fbType (d : Dev) (p : Nat) : Nat := if d.get F.FBRK_PR_CFG_TYPE p = 3 then 0 else d.get F.FBRK_PR_CFG_TYPE p

/-- FILT in ms, 1 to 8. -/
def Dev.fbFilt (d : Dev) (p : Nat) : Nat := min 8 (max 1 (d.get F.FBRK_PR_CFG_FILT p))

/-- A pair enters FAULT (R375, R383): its groups latch and the fault is reported, LINK (5) excepted. The PSCs hold the cause, which a control-plane reset does not
clear. -/
def Dev.pairFault (d : Dev) (p code : Nat) : Dev :=
  if d.get F.FBRK_PR_STAT_STATE p = 4 then d
  else
    let d := (((d.set F.FBRK_PR_STAT_STATE p 4).set F.FBRK_PR_STAT_FCODE p code).incSat F.FBRK_PR_CNT_FAULTS p).irq 0x24 2
    let d := d.setVar V.prCode p code
    if code = 5 then d
    else
      let m := (List.range 8).foldl (fun a g => if tbit (d.get F.FBRK_GRP_CFG_PAIRS g) p then a ||| 2 ^ g else a) (d.get F.FBRK_LATCH_GROUPS 0)
      let d := if m = d.get F.FBRK_LATCH_GROUPS 0 then d else ((d.set F.FBRK_LATCH_GROUPS 0 m).set F.FBRK_RSTSTAT_WINDOW 0 0).irq 0x24 3
      d.errBlk 0x24 3 2

/-- The start-up test of a pair with TESTREQ is demanded (R381); a pair that is already OPEN counts as opened. A pair without TESTREQ has no test. -/
def Dev.fbDemand (d : Dev) (p : Nat) : Dev :=
  let w := d.get F.FBRK_TEST_PEND 0
  if !d.on F.FBRK_PR_CFG_TESTREQ p then (if tbit w p then d.set F.FBRK_TEST_PEND 0 (w - 2 ^ p) else d)
  else
    let d := (if tbit w p then d else d.set F.FBRK_TEST_PEND 0 (w + 2 ^ p)).set F.FBRK_PR_STAT_TESTDONE p 0
    (d.setVar V.tstOpen p (bit (d.get F.FBRK_PR_STAT_STATE p == 2))).irq 0x24 4

/-- Tests of all pairs are demanded. -/
def Dev.fbDemandAll (d : Dev) : Dev := d.each (List.range 16) (fun p a => a.fbDemand p)

/-- The pair reaches OPEN or CLOSED: its test (R381) and its counter. -/
def Dev.pairReach (d : Dev) (p st : Nat) : Dev :=
  let d := d.set F.FBRK_PR_STAT_STATE p st
  let w := d.get F.FBRK_TEST_PEND 0
  if st = 2 then (d.incSat F.FBRK_PR_CNT_OPENS p).when (tbit w p) (fun a => a.setVar V.tstOpen p 1)
  else if st = 1 ∧ tbit w p ∧ d.var V.tstOpen p = 1 then (d.set F.FBRK_TEST_PEND 0 (w - 2 ^ p)).set F.FBRK_PR_STAT_TESTDONE p 1
  else if st = 3 then d.mark V.discAt p
  else d

/-- The state of a pair from its confirmed channels (R375). A fault that no fault reset has cleared comes back when FBRK runs again. -/
def Dev.pairEval (d : Dev) (p : Nat) : Dev :=
  let st := d.get F.FBRK_PR_STAT_STATE p
  if !(d.on F.FBRK_PR_CFG_EN p && d.running 0x24) then (if st = 0 then d else d.set F.FBRK_PR_STAT_STATE p 0)
  else if st = 4 then d
  else if d.var V.prCode p ≠ 0 then (d.set F.FBRK_PR_STAT_STATE p 4).set F.FBRK_PR_STAT_FCODE p (d.var V.prCode p).toNat
  else if d.var V.pscDown 0 = 1 ∨ d.var V.pscDown 1 = 1 then d.pairFault p 5
  else
    let a := d.on F.FBRK_PR_STAT_INA p
    let b := d.on F.FBRK_PR_STAT_INB p
    let new := if a && b then 1 else if !a && !b then 2 else 3
    if new = st then d else d.pairReach p new

/-- The present instant in the 20 ms period, which follows the link frames and no step (R372). -/
def Dev.pulsePhase (d : Dev) : Int := (d.var V.grove 0 - d.var V.gridMove 0x20) % (20000000 * 65536)

/-- Start of a channel's pulse in the period (R372): n x 0.625 ms for the A channels, 10 ms later for the B channels. -/
def pulseStart (i : Nat) : Int := ((i / 2 + 16 * (i % 2) : Nat) : Int) * (625000 * 65536)

/-- TEST_PULSE (R372): in the link frame of 40 ns at which its pulse starts, once a period, the source of a channel goes low for 500 us. -/
def Dev.testPulse (d : Dev) (i : Nat) : Dev :=
  if d.pulsePhase < pulseStart i ∨ pulseStart i + 40 * 65536 ≤ d.pulsePhase ∨ !d.passed V.tpAt i 10000000 then d else
  let d := (((d.mark V.tpAt i).setVar V.tpCur 0 i).setVar V.tpOpen 0 1).setVar V.tpLow i 0
  d.each (List.range 32) (fun k a => (a.setVar V.xsPre k (a.var V.inLvl k)).setVar V.xsLow k 0)

def execTestPulse (p : Fin 16) (b : Bool) (s : State) : Host.Outcome State Fault Refusal := s.upd (fun d => d.testPulse (2 * p + bit b))

/-- The confirmed state of a channel, 1 closed. -/
def fbIn (i : Nat) : Fld := if i % 2 = 0 then F.FBRK_PR_STAT_INA else F.FBRK_PR_STAT_INB

/-- What a level shows (R371): closed or not. -/
def Dev.fbClosed (d : Dev) (i : Nat) (hi : Bool) : Bool := if d.fbType (i / 2) = 1 ∧ i % 2 = 1 then !hi else hi

/-- One sample of one channel (R373): blanked during its own pulse and for 100 us after it; otherwise the run is counted. -/
def Dev.fbSample (d : Dev) (i : Nat) (hi : Bool) : Dev :=
  let p := i / 2
  let ty := d.fbType p
  let d := d.setVar V.inLvl i (bit hi)
  if ty ≠ 2 ∧ !d.passed V.tpAt i 600000 then d
  else
    let c := d.fbClosed i hi
    let same := d.var V.runV i == bit c && d.var V.runN i != 0
    let d := if same then d.setVar V.runN i (d.var V.runN i + 1) else ((d.setVar V.runV i (bit c)).setVar V.runN i 1).mark V.runAt i
    let need := if ty = 2 ∧ !c then max 11 (10 * d.fbFilt p) else 10 * d.fbFilt p
    if (need : Int) ≤ d.var V.runN i then d.set (fbIn i) p (bit c) else d

/-- The pulse that has ended is judged (R374): the source's own input, and every other input. -/
def Dev.pulseJudge (d : Dev) (lv : Nat → Bool) : Dev :=
  let j := (d.var V.tpCur 0).toNat
  let d := d.setVar V.tpOpen 0 0
  let live := fun (a : Dev) (p : Nat) => a.on F.FBRK_PR_CFG_EN p && a.running 0x24 && a.fbType p != 2
  let bad := d.on (fbIn j) (j / 2) && d.var V.tpLow j == 0
  let d := d.setVar V.tpCnt j (if bad then d.var V.tpCnt j + 1 else 0)
  let d := if live d (j / 2) && decide (2 ≤ d.var V.tpCnt j) then d.pairFault (j / 2) 2 else d
  d.each ((List.range 32).filter (fun k => k != j)) (fun k a =>
    let hit := a.var V.xsPre k == 1 && a.var V.xsLow k == 1 && lv k
    let a := a.setVar V.xsCnt (32 * k + j) (if hit then a.var V.xsCnt (32 * k + j) + 1 else 0)
    if live a (k / 2) && decide (2 ≤ a.var V.xsCnt (32 * k + j)) then a.pairFault (k / 2) 3 else a)

/-- Level of input `i` in a list of samples by pair. -/
def safeLevel (x : List SafeIn) (i : Nat) : Bool :=
  match x[i / 2]? with
  | some v => if i % 2 = 0 then v.hiA else v.hiB
  | none => false

/-- SAFE_INPUT_SAMPLE (R373 to R375, R661): every 100 us each input is sampled, filtered and checked. -/
def Dev.safeSample (d : Dev) (x : List SafeIn) : Dev :=
  if !d.passed V.safeAt 0 100000 then d else
  let d := d.mark V.safeAt 0
  let lv := safeLevel x
  let j := (d.var V.tpCur 0).toNat
  let d :=
    if d.var V.tpOpen 0 ≠ 1 then d
    else if d.passed V.tpAt j 500000 then d.pulseJudge lv
    else
      let d := if !d.passed V.tpAt j 300001 && !lv j then d.setVar V.tpLow j 1 else d
      d.each ((List.range 32).filter (fun k => !lv k)) (fun k a => a.setVar V.xsLow k 1)
  let d := d.each (List.range 32) (fun i a => a.fbSample i (lv i))
  d.each (List.range 16) (fun p a => a.pairEval p)

def execSafeInputSample (x : List SafeIn) (s : State) : Host.Outcome State Fault Refusal := s.upd (fun d => d.safeSample x)

/-- TEST_SOURCE_FAULT (R374). -/
def Dev.testSource (d : Dev) (p : Nat) : Dev :=
  if d.on F.FBRK_PR_CFG_EN p && d.running 0x24 && d.fbType p != 2 then d.pairFault p 4 else d

def execTestSourceFault (p : Fin 16) (s : State) : Host.Outcome State Fault Refusal := s.upd (fun d => d.testSource p)

/-- DISCREPANCY_TIMEOUT (R375): the channels have differed for longer than DISC_T. -/
def Dev.discTimeout (d : Dev) (p : Nat) : Dev :=
  if d.get F.FBRK_PR_STAT_STATE p == 3 && d.passed V.discAt p ((max 1 (d.get F.FBRK_PR_CFG_DISC_T p) : Nat) * 10000000) then d.pairFault p 1 else d

def execDiscrepancyTimeout (p : Fin 16) (s : State) : Host.Outcome State Fault Refusal := s.upd (fun d => d.discTimeout p)

/-! ### Groups -/

/-- The masks that the enabled groups cut, LSW channels and banks, over groups for which `c` holds. -/
def Dev.fbMasks (d : Dev) (c : Nat → Bool) : Nat × Nat :=
  (List.range 8).foldl (fun (a : Nat × Nat) g =>
    if d.on F.FBRK_GRP_CFG_EN g && c g then (a.1 ||| d.get F.FBRK_GRP_LSW_LSW g, a.2 ||| d.get F.FBRK_GRP_CFG_BANKS g) else a) (0, 0)

/-- The cuts take effect at the switches, while either lane orders them (R376, R377, R380); a Kiln run of K3 cuts all (R589). -/
def Dev.fbCuts (d : Dev) : Dev :=
  let (l, b) :=
    if d.var V.fbrkRan 0 = 0 ∨ d.var V.underKiln 0x22 = 1 then (0xFFFFFF, 63)
    else if !d.running 0x24 then ((d.var V.fbKeepLsw 0).toNat, (d.var V.fbKeepBank 0).toNat)
    else d.fbMasks (fun g => d.on F.FBRK_GRP_STAT_CUTA g || d.on F.FBRK_GRP_STAT_CUTB g)
  let d := if d.var V.lswFb 0 = l ∧ d.var V.solFb 0 = b then d else d.mark V.fbCutAt 0
  (d.lswSetCut l).solSetCut b

/-- The record of a cycle (R391). -/
def Dev.fbRecord (d : Dev) : List Nat :=
  leBytes 8 (toBits 64 d.now) ++ leBytes 6 ((List.range 16).foldl (fun a p => a + d.get F.FBRK_PR_STAT_STATE p * 8 ^ p) 0) ++
    leBytes 3 ((List.range 8).foldl (fun a g => a + d.get F.FBRK_GRP_STAT_STATE g * 8 ^ g) 0) ++ leBytes 2 (d.get F.FBRK_TEST_PEND 0) ++
    [d.get F.FBRK_LATCH_GROUPS 0]

/-- The lanes' group states differ: in a group's order, or otherwise (R377). -/
def lanesDiffer (x : LaneIn) : Bool := x.states || x.wrongA != x.wrongB

/-- FBRK_CYCLE (R377): a cycle, whose start is the boundary of FBRK's RWS fields (R64). `x`, what the lanes compute wrong; `off`, the groups for which readback
confirms every cut output off. -/
def Dev.fbCycle (d : Dev) (x : LaneIn) (off : Nat) : Dev :=
  if !(d.running 0x24 && d.passed V.fbCyc 0 1000000) then d
  else
    let d := ((d.mark V.fbCyc 0).boundary 0x24 wideUnit).setVar V.laneDiff 0 (if lanesDiffer x then d.var V.laneDiff 0 + 1 else 0)
    let d := if d.var V.laneDiff 0 = 2 then d.fbLatchAll 2 else d
    let d := d.each (List.range 16) (fun p a => a.pairEval p)
    let d := (d.each (List.range 8) (fun g a => a.groupStep g (tbit x.wrongA.toNat g) (tbit x.wrongB.toNat g) (tbit off g))).fbStat
    let d := d.rideFbSend.fbCuts
    let slot := d.get F.FBRK_PUB_SLOT.act 0
    if d.on F.FBRK_PUB_EN.act 0 && decide (64 ≤ slot) && decide (slot ≤ 319) then d.clrPost slot 0x24 d.fbRecord else d

def execFbrkCycle (x : LaneIn) (off : BitVec 8) (s : State) : Host.Outcome State Fault Refusal := s.upd (fun d => d.fbCycle x off.toNat)

/-- GROUP_RESTART (R379): each named group in WAITRST goes to CLOSED at the next cycle. -/
def execGroupRestart (a : Acc) (m : BitVec 8) (s : State) : Host.Outcome State Fault Refusal :=
  s.upd (fun d => d.wr 0x24 0x884 a (fun d =>
    d.each ((List.range 8).filter (fun g => tbit m.toNat g && d.get F.FBRK_GRP_STAT_STATE g == 2)) (fun g e => e.setVar V.grpCut g 0)))

/-! ### Configuration and RUN -/

/-- FBRK_PR_CFG of a pair as a word (R389). -/
def Dev.prWord (d : Dev) (p : Nat) : Nat :=
  d.get F.FBRK_PR_CFG_DISC_T p * 2 ^ 24 + d.get F.FBRK_PR_CFG_FILT p * 2 ^ 8 + d.get F.FBRK_PR_CFG_TYPE p * 16 + d.get F.FBRK_PR_CFG_TESTREQ p * 2 +
    d.get F.FBRK_PR_CFG_EN p

/-- FBRK_GRP_CFG of a group as a word (R390). -/
def Dev.grpWord (d : Dev) (g : Nat) : Nat :=
  d.get F.FBRK_GRP_CFG_PAIRS g * 65536 + d.get F.FBRK_GRP_CFG_BANKS g * 256 + d.get F.FBRK_GRP_CFG_RSTM g * 16 + d.get F.FBRK_GRP_CFG_EN g

/-- The 32 words of the configuration check (R388). -/
def Dev.fbWords (d : Dev) : List Nat :=
  (List.range 16).map (fun p => d.prWord p) ++ (List.range 8).flatMap (fun g => [d.grpWord g, d.get F.FBRK_GRP_LSW_LSW g])

/-- The configuration check passes (R388). -/
def Dev.fbCheck (d : Dev) : Bool :=
  crc32c (d.fbWords.flatMap (fun w => leBytes 4 w)) == d.get F.FBRK_CFGCRC_CRC 0 &&
    (List.range 8).all (fun g => !d.on F.FBRK_GRP_CFG_EN g ||
      (List.range 16).all (fun p => !tbit (d.get F.FBRK_GRP_CFG_PAIRS g) p || d.on F.FBRK_PR_CFG_EN p))

/-- FBRK reaches RUN (R380): the PSCs take the configuration. -/
def Dev.fbRise (d : Dev) : Dev :=
  let (l, b) := d.fbMasks (fun _ => true)
  let en := (List.range 8).foldl (fun a g => a + d.get F.FBRK_GRP_CFG_EN g * 2 ^ g) 0
  let d := (((d.setVar V.fbrkRan 0 1).setVar V.fbKeepLsw 0 l).setVar V.fbKeepBank 0 b).setVar V.fbrkKept 0 en
  let d := d.each (List.range 16) (fun p a => a.pairEval p)
  let d := d.each ((List.range 8).filter (fun g => d.on F.FBRK_GRP_CFG_EN g)) (fun g a => (a.setVar V.grpCut g 1).setVar V.grpReact g 0)
  d.fbCuts

/-- RUN falls (R375, R378, R380): pairs and groups are OFF, and the PSCs cut the kept groups. -/
def Dev.fbFall (d : Dev) : Dev :=
  let d := d.each (List.range 16) (fun p a => a.set F.FBRK_PR_STAT_STATE p 0)
  d.groupsNow.fbCuts

/-- FBRK_CTRL.EN is written (R388): 1 checks the configuration, and a failure leaves EN 0 with BCODE 0x1 of class C2. EN rising demands the start-up tests, whether
or not RUN has fallen since (R381). -/
def Dev.fbEnable (d : Dev) (en : Bool) : Dev :=
  if !en then d.set F.COM_CTRL_EN 0x24 0
  else if d.fbCheck then (d.set F.COM_CTRL_EN 0x24 1).when (!d.on F.COM_CTRL_EN 0x24) Dev.fbDemandAll
  else (d.set F.COM_CTRL_EN 0x24 0).errBlk 0x24 1 2

/-- FBRK_ENABLE (R388). -/
def execFbrkEnable (a : Acc) (en : Bool) (s : State) : Host.Outcome State Fault Refusal := s.upd (fun d => d.wr 0x24 0x008 a (fun d => d.fbEnable en) (d.changes F.COM_CTRL_EN 0x24 (bit en)))

/-- READBACK_FAULT (R383): a cut output is still read back above 8.0 V 20 ms after the cut. -/
def execReadbackFault (s : State) : Host.Outcome State Fault Refusal :=
  s.upd (fun d => if (d.var V.lswFb 0 != 0 || d.var V.solFb 0 != 0) && d.passed V.fbCutAt 0 20000000 then
    d.fbLatchAll 3 else d)

/-! ### The fault reset (R384) -/

/-- RESET_BUTTON_RISE: FBRK_RST rises; a stuck button that has been low for 1 s is no longer stuck. -/
def Dev.buttonRise (d : Dev) : Dev :=
  let d := if d.on F.FBRK_RSTSTAT_STUCK 0 && d.passed V.rbLow 0 1000000000 then d.set F.FBRK_RSTSTAT_STUCK 0 0 else d
  (d.setVar V.rbHigh 0 1).mark V.rbAt 0

def execResetButtonRise (s : State) : Host.Outcome State Fault Refusal := s.upd Dev.buttonRise

/-- RESET_BUTTON_PULSE: FBRK_RST falls; its length is measured to 5 ms (`err` is 5 for an exact measurement), and a pulse of 0.2 to 2 s opens the reset window. -/
def Dev.buttonPulse (d : Dev) (err : Nat) : Dev :=
  if d.var V.rbHigh 0 ≠ 1 then d
  else
    let ms := (d.since V.rbAt 0 / 65536000000).toNat + err - 5
    let d := ((d.setVar V.rbHigh 0 0).mark V.rbLow 0).set F.FBRK_RSTSTAT_PULSE 0 (min 4095 ms)
    if !d.on F.FBRK_RSTSTAT_STUCK 0 && decide (200 ≤ ms) && decide (ms ≤ 2000) then
      ((d.set F.FBRK_RSTSTAT_WINDOW 0 1).mark V.rwAt 0).irq 0x24 5
    else d

def execResetButtonPulse (err : Fin 11) (s : State) : Host.Outcome State Fault Refusal := s.upd (fun d => d.buttonPulse err)

/-- RESET_WINDOW_TIMEOUT: 1 s after the window opened. -/
def Dev.windowTimeout (d : Dev) : Dev :=
  if d.on F.FBRK_RSTSTAT_WINDOW 0 && d.passed V.rwAt 0 1000000000 then d.set F.FBRK_RSTSTAT_WINDOW 0 0 else d

def execResetWindowTimeout (s : State) : Host.Outcome State Fault Refusal := s.upd Dev.windowTimeout

/-- RESET_BUTTON_STUCK: high for longer than 2 s. -/
def Dev.buttonStuck (d : Dev) : Dev :=
  if d.var V.rbHigh 0 == 1 && d.passed V.rbAt 0 2000000000 then d.set F.FBRK_RSTSTAT_STUCK 0 1 else d

def execResetButtonStuck (s : State) : Host.Outcome State Fault Refusal := s.upd Dev.buttonStuck

/-- A pair's fault is still present: `src`, its test source is in current limit. -/
def Dev.pairCause (d : Dev) (p : Nat) (src : Bool) : Bool :=
  match (d.var V.prCode p).toNat with
  | 1 => d.get F.FBRK_PR_STAT_INA p != d.get F.FBRK_PR_STAT_INB p
  | 2 => d.var V.tpCnt (2 * p) != 0 || d.var V.tpCnt (2 * p + 1) != 0
  | 3 => (List.range 32).any (fun j => d.var V.xsCnt (64 * p + j) != 0 || d.var V.xsCnt (64 * p + 32 + j) != 0)
  | 4 => src
  | _ => d.var V.pscDown 0 == 1 || d.var V.pscDown 1 == 1

/-- A logic cause is still present (R383, R384): `rb`, a cut output is still high. -/
def Dev.logicCause (d : Dev) (c : Nat) (rb : Bool) : Bool :=
  match c with
  | 1 => d.var V.pscDown 0 == 1 || d.var V.pscDown 1 == 1
  | 2 => d.var V.laneDiff 0 != 0
  | 3 => rb
  | 4 => d.on F.LSW_SUPPLY_DEAD 0
  | _ => d.var V.fbKiln 0 == 1

/-- The accepted key: every latch whose cause has gone clears, and those groups take their state at the next cycle, at once where none comes (R375, R378, R381,
R384). -/
def Dev.faultReset (d : Dev) (src : Nat) (rb : Bool) : Dev :=
  let m := (d.var V.fbCause 0).toNat
  let left := [1, 2, 3, 4, 5].filter (fun c => tbit m c && d.logicCause c rb)
  let d := d.setVar V.fbCause 0 (((left.map (fun c => 2 ^ c)).sum : Nat) : Int)
  let faulted := (List.range 16).filter (fun p => d.var V.prCode p != 0)
  let stuck := faulted.filter (fun p => d.pairCause p (tbit src p))
  let d := d.each (faulted.filter (fun p => !stuck.contains p)) (fun p a =>
    (((a.set F.FBRK_PR_STAT_STATE p 0).set F.FBRK_PR_STAT_FCODE p 0).setVar V.prCode p 0).pairEval p)
  let was := d.get F.FBRK_LATCH_GROUPS 0
  let hold := fun (g : Nat) => left != [] || stuck.any (fun p => d.var V.prCode p != 5 && tbit (d.get F.FBRK_GRP_CFG_PAIRS g) p)
  let now := (List.range 8).foldl (fun a g => if tbit was g && hold g then a + 2 ^ g else a) 0
  let d := d.set F.FBRK_LATCH_GROUPS 0 now
  let d := d.each ((List.range 16).filter (fun p => (List.range 8).any (fun g => tbit was g && !tbit now g && tbit (d.get F.FBRK_GRP_CFG_PAIRS g) p)))
    (fun p a => a.fbDemand p)
  let d := (d.irq 0x24 7).fbIdle
  if left ≠ [] ∨ stuck ≠ [] then (d.irq 0x24 6).errBlk 0x24 5 0 else d

/-- A key is refused: REFUSED counts, BCODE 0x2. -/
def Dev.keyRefused (d : Dev) : Dev := (d.incSat F.FBRK_RSTSTAT_REFUSED 0).errBlk 0x24 2 0

/-- FAULT_RESET_KEY (R384, R391): accepted from banks 8 and 9 only, within the window, which any such key closes. `src` and `rb`: the pairs
whose test source is still in current limit, and whether a cut output is still high. -/
def execFaultResetKey (a : Acc) (key : BitVec 16) (src : BitVec 16) (rb : Bool) (s : State) : Host.Outcome State Fault Refusal :=
  s.upd (fun d => d.wr 0x24 0x888 a (fun d =>
    if a.bank.val = 10 then (d.errAcc 0x24 3 0x888 10).keyRefused
    else if !d.on F.FBRK_RSTSTAT_WINDOW 0 then d.keyRefused
    else
      let d := d.set F.FBRK_RSTSTAT_WINDOW 0 0
      if key.toNat = 0xC3A5 then d.faultReset src.toNat rb else d.keyRefused))

/-- REACT_CLEAR (R391). -/
def execReactClear (a : Acc) (s : State) : Host.Outcome State Fault Refusal :=
  s.upd (fun d => d.wr 0x24 0x898 a (fun d => d.set F.FBRK_REACT_MAXR 0 0))

end Sys2Proof.Machine
end

