-- ==== Sys2Proof/Machine/Upd.lean ====
section
/-! DEFINITION. UPD: image slots, staging, pushes, settings areas and the block window (spec/16_coppice_update.md, R526 to R547). -/

namespace Sys2Proof.Machine

/-! ### Slots and images -/

/-- The inactive slot (R528). -/
def Dev.idleSlot (d : Dev) : Nat := 1 - d.get F.UPD_STATE_BOOTED 0

/-- Key of block `n` of a slot in NOR. -/
def norIx (slot n : Nat) : Nat := 131072 * slot + n

/-- The first block of a slot, which holds the manifest (R526). -/
def Dev.manifest (d : Dev) (slot : Nat) : List Nat := padTo 4096 (d.blob 1 (norIx slot 0))

/-- A slot takes a state; SLOTCHG sets, and UPD_STATE.TRIAL follows (R528, R545, R546). -/
def Dev.slotState (d : Dev) (slot st reason : Nat) : Dev :=
  let d := ((d.set F.UPD_SL_STAT_ST slot st).set F.UPD_SL_STAT_REASON slot reason).irq 0x30 2
  d.set F.UPD_STATE_TRIAL 0 (bit (d.get F.UPD_SL_STAT_ST (d.get F.UPD_STATE_BOOTED 0) == 4 && decide (d.get F.SYS_BOOT_SLOT 0 < 2)))

/-- UPD_SL_BLKS follows the counts. -/
def Dev.slotShow (d : Dev) (slot : Nat) : Dev :=
  (d.set F.UPD_SL_BLKS_DONE slot (d.var V.slDone slot).toNat).set F.UPD_SL_BLKS_TOTAL slot (d.var V.slTotal slot).toNat

/-- A transfer into a slot begins: it resumes where the slot is in WRITING with the same BUILD and length, and starts from block 0 otherwise (R539). -/
def Dev.slotOpen (d : Dev) (slot build len total : Nat) : Dev :=
  if d.get F.UPD_SL_STAT_ST slot = 1 ∧ d.get F.UPD_SL_BUILD_BUILD slot = build ∧ d.var V.slLen slot = (len : Int) then d
  else
    let d := (((d.setVar V.slDone slot 0).setVar V.slTotal slot total).setVar V.slLen slot len).set F.UPD_SL_BUILD_BUILD slot build
    d.slotShow slot

/-- Block `n` is written (R535): at the first block the slot enters WRITING with what the manifest says. -/
def Dev.slotBlock (d : Dev) (slot n : Nat) (l : List Nat) : Dev :=
  let d := d.setBlob 1 (norIx slot n) l
  let d := if n = 0 then
      ((d.set F.UPD_SL_STAT_SVN slot (leAt l 16 1)).set F.UPD_SL_STAT_SFMT slot (leAt l 18 2)).set F.UPD_SL_BUILD_BUILD slot (leAt l 24 8)
    else d
  let d := if d.get F.UPD_SL_STAT_ST slot = 1 then d else d.slotState slot 1 0
  (d.setVar V.slDone slot (n + 1 : Nat)).slotShow slot

/-- Blocks of an image of `len` bytes. -/
def blocksIn (len : Nat) : Nat := (len + 4095) / 4096

/-- Block `n` of the image that lies in DRAM, padded with zeros after its end; none where DRAM cannot give it. -/
def State.imgBlock (s : State) (addr len n : Nat) : Option (List Nat) :=
  let k := min 4096 (len - 4096 * n)
  let a := addr + 4096 * n
  if inDram a && inDram (a + k - 1) && (List.range (blocksOf a k)).all (fun j => !s.dev.poisoned (a / 32 * 32 + 32 * j)) then
    some (padTo 4096 (memRead s.mem a k))
  else none

/-! ### Commands and replies (R533, R534) -/

/-- The command slot. -/
def Dev.updSlot (d : Dev) (ctl : Bool) : Nat := if ctl then 328 + d.get F.UPD_CFG_CSLOT 0 else 344 + d.get F.UPD_CFG_DSLOT 0

/-- A new command with an opcode waits and the keeper is there to take it. -/
def Dev.updReady (d : Dev) (ctl : Bool) (op : Nat) : Bool :=
  d.cmdNew (d.updSlot ctl) && d.var V.keeperUp 0 == 1 && leAt (d.clrPub (d.updSlot ctl)) 8 1 == op

/-- UPD's reply, in the slot 8 lower: opcode, tag, STATUS, slot, blocks done, blocks in the transfer, detached targets, data. -/
def Dev.updReply (d : Dev) (ctl : Bool) (op tag st : Nat) (data : List Nat) : Dev :=
  let i := d.idleSlot
  let push := d.get F.UPD_XFER_OP 0 == 2 || op == 2
  let done := if push then (d.var V.pushNext 0).toNat else (d.var V.slDone i).toNat
  let total := if push then blocksIn (d.var V.xfLen 0).toNat else (d.var V.slTotal i).toNat
  d.clrPost (d.updSlot ctl - 8) 0x30
    (leBytes 8 d.now.toNat ++ [op, tag, st, i] ++ leBytes 4 done ++ leBytes 8 total ++ leBytes 8 (d.var V.pushDet 0).toNat ++ data)

/-- The command is taken and answered; a refused one reports BCODE 0x2, class C0 (R546). -/
def Dev.updAnswer (d : Dev) (ctl : Bool) (st : Nat) (data : List Nat) : Dev :=
  let b := d.clrPub (d.updSlot ctl)
  let d := ((d.cmdTake (d.updSlot ctl)).irq 0x30 0).updReply ctl (leAt b 8 1) (leAt b 9 1) st data
  if st = 0 then d else d.errBlk 0x30 2 0

/-- Command argument fields. -/
def Dev.updArg (d : Dev) (ctl : Bool) (off n : Nat) : Nat := leAt (d.clrPub (d.updSlot ctl)) off n

/-- A transfer ends: OP and ST read 0 and XFERDONE sets. -/
def Dev.xferEnd (d : Dev) : Dev := ((d.set F.UPD_XFER_OP 0 0).set F.UPD_XFER_ST 0 0).irq 0x30 1

/-- The booted slot is in TRIAL. -/
def Dev.inTrial (d : Dev) : Bool := d.get F.UPD_SL_STAT_ST (d.get F.UPD_STATE_BOOTED 0) == 4

/-- Length and address of an image in DRAM that a command may name. -/
def imageOk (len addr : Nat) : Bool := decide (0 < len) && decide (len ≤ 536870912) && inDram addr && inDram (addr + len - 1)

/-- UPD_STAGE (R534, R535, R539). -/
def State.updStage (s : State) : State :=
  let d := s.dev
  let len := d.updArg false 12 4
  let addr := d.updArg false 16 8
  if !d.updReady false 1 then s
  else if d.get F.UPD_XFER_OP 0 ≠ 0 then { s with dev := d.updAnswer false 1 [] }
  else if d.inTrial || d.get F.PWR_MODE_MODE 0 == 5 then { s with dev := d.updAnswer false 3 [] }
  else if !imageOk len addr then { s with dev := d.updAnswer false 2 [] }
  else match s.imgBlock addr len 0 with
    | none => { s with dev := (d.updAnswer false 4 []).errBlk 0x30 1 1 }
    | some b =>
      let d := ((d.setVar V.xfAddr 0 addr).setVar V.xfLen 0 len).setVar V.xfTag 0 (d.updArg false 9 1)
      let d := (d.slotOpen d.idleSlot (leAt b 24 8) len (blocksIn len)).updAnswer false 0 []
      { s with dev := (d.set F.UPD_XFER_OP 0 1).set F.UPD_XFER_ST 0 1 }

def execUpdStage (s : State) : Host.Outcome State Fault Refusal := .next s.updStage

/-- Attached nodes of a member code and, where it is not 0, of a serial (R534, R537). -/
def Dev.updTargets (d : Dev) (member serial : Nat) : List Nat :=
  (List.range 32).filter (fun n => d.get F.NT_ID_STATE n == 1 && d.get F.NT_ID_MEMBER n == member &&
    (serial == 0 || d.get F.NT_SERIAL_SERIAL n % 2 ^ 48 == serial))

/-- Numbers of the bits that are set in 32. -/
def bitsOf (m : Nat) : List Nat := (List.range 32).filter (fun n => tbit m n)

/-- The lowest ACK among the targets; a block below it plus 8 may be sent (R538). -/
def Dev.lowAck (d : Dev) : Int := (bitsOf (d.var V.pushTgt 0).toNat).foldl (fun a n => min a (d.var V.pushAck n)) (2 ^ 40 : Nat)

/-- ns that a BULK frame of 1,056 bytes takes at a head port, with the 20 bytes that pass beside it on the wire (R427, R453). -/
def bulkNs (h : Nat) : Nat := if h < 2 then 1076 * 8 else 1076 * 16 / 5 + 1

/-- ns that a BULK frame takes at the slowest head port that a push goes through. -/
def Dev.pushNs (d : Dev) : Nat := ((bitsOf (d.var V.pushTgt 0).toNat).map (fun n => bulkNs (d.get F.NT_PATH_HPORT n))).foldl max 1

/-- The instant from which the next BULK frame may start: the frames sent before it have left. -/
def Dev.pushFrom (d : Dev) : Int := max d.now (d.var V.pushFree 0)

/-- How many of `n` BULK frames, one after the other, may start now: each ends at least 2 us before the next cycle (R453). -/
def Dev.bulkFits (d : Dev) (n : Nat) : Nat :=
  if !d.running 0x2B || d.var V.rideNext 0 < 0 then n
  else min n ((d.var V.rideNext 0 + d.var V.gridMove 0x2B / 65536 - 2000 - d.pushFrom) / d.pushNs).toNat

/-- The pusher sends frame by frame what its window allows (R538); what does not end in time waits for the next cycle (R453). -/
def Dev.pushGo (d : Dev) : Dev :=
  let total : Int := blocksIn (d.var V.xfLen 0).toNat
  let from_ := max (d.var V.pushNext 0) (min total (d.lowAck + 1))
  let n := max from_ (min total (d.lowAck + 8))
  let part := if from_ = d.var V.pushNext 0 then (d.var V.pushPart 0).toNat else 0
  let want := (4 * (n - from_)).toNat - part
  let k := d.bulkFits want
  let d := (d.setVar V.pushFree 0 (d.pushFrom + k * d.pushNs)).setVar V.pushHold 0 (bit (decide (k < want)))
  let d := (d.setVar V.pushSent 0 (d.var V.pushSent 0 + (part + k) / 4)).setVar V.pushPart 0 (((part + k) % 4 : Nat) : Int)
  (d.setVar V.pushNext 0 (from_ + (((part + k) / 4 : Nat) : Int))).set F.UPD_XFER_ST 0 2

/-- The 32-byte Coppice header of a BULK frame after the EtherType (R443, R537): kind 6, DATA or ACK, push, member, serial, block, blocks in the image, CRC or highest
block confirmed, BUILD. -/
def bulkHead (op id member serial block total crc : Nat) (build : List Nat) : List Nat :=
  [0x88, 0xB5, 6, op] ++ leBytes 2 id ++ leBytes 2 member ++ leBytes 6 serial ++ leBytes 4 block ++ leBytes 4 total ++ leBytes 4 crc ++ build

/-- The ACK that a receiving port keeps sending (R538, R541): the highest block that the T9 has written. The block's number stands in bytes 12 to 15 too (log entry 199). -/
def Dev.rxAck (d : Dev) (n : Nat) : Dev :=
  let i := d.idleSlot
  d.setBlob 14 (d.var V.rxPort 0).toNat
    (padTo 48 (bulkHead 2 (d.var V.rxId 0).toNat 9 (Config.otpSerial % 2 ^ 48) n (d.var V.slTotal i).toNat n (leBytes 8 (d.get F.UPD_SL_BUILD_BUILD i))))

/-- Frame `f` of block `n` of a push to a member and serial: the Coppice header and 1,024 bytes of the block (R537). -/
def State.bulkFrame (s : State) (member serial n f : Nat) : List Nat :=
  let len := (s.dev.var V.xfLen 0).toNat
  let b := (s.imgBlock (s.dev.var V.xfAddr 0).toNat len n).getD []
  let m := (s.imgBlock (s.dev.var V.xfAddr 0).toNat len 0).getD []
  bulkHead 1 (s.dev.var V.pushId 0).toNat member serial (n + f * 2 ^ 30) (blocksIn len) (crc32c b) ((m.drop 24).take 8) ++ (b.drop (1024 * f)).take 1024

/-- PUSH_DONE (R533, R539): the push ends and the DONE reply names the detached targets. -/
def Dev.pushDone (d : Dev) : Dev := (d.updReply false 2 (d.var V.xfTag 0).toNat 6 []).xferEnd

/-- UPD_PUSH (R534, R537, R538). -/
def State.updPush (s : State) : State :=
  let d := s.dev
  let len := d.updArg false 12 4
  let addr := d.updArg false 16 8
  if !d.updReady false 2 then s
  else if d.get F.UPD_XFER_OP 0 ≠ 0 then { s with dev := d.updAnswer false 1 [] }
  else if d.get F.PWR_MODE_MODE 0 = 5 then { s with dev := d.updAnswer false 3 [] }
  else if !imageOk len addr then { s with dev := d.updAnswer false 2 [] }
  else
    let t := d.updTargets (d.updArg false 24 2) (d.updArg false 26 6)
    if t = [] then { s with dev := d.updAnswer false 5 [] }
    else
      let d := ((d.setVar V.xfAddr 0 addr).setVar V.xfLen 0 len).setVar V.xfTag 0 (d.updArg false 9 1)
      let d := ((d.setVar V.pushTgt 0 (t.foldl (fun a n => a + 2 ^ n) 0 : Nat)).setVar V.pushDet 0 0).setVar V.pushNext 0 0 |>.setVar V.pushPart 0 0
      let d := ((d.each t (fun n a => a.setVar V.pushAck n (-1))).setVar V.pushId 0 ((d.var V.pushId 0 + 1) % 65536)).mark V.pushAt 0
      { s with dev := ((d.updAnswer false 0 []).set F.UPD_XFER_OP 0 2).pushGo }

def execUpdPush (s : State) : Host.Outcome State Fault Refusal := .next s.updPush

/-- The command's target is the T9 itself. -/
def Dev.updSelf (d : Dev) (ctl : Bool) : Bool :=
  d.updArg ctl 24 2 == 9 && (d.updArg ctl 26 6 == 0 || d.updArg ctl 26 6 == Config.otpSerial % 2 ^ 48)

/-- A command for nodes goes out over the Ride link, or finds no target (R534). -/
def Dev.updForward (d : Dev) (ctl : Bool) : Dev :=
  if d.updTargets (d.updArg ctl 24 2) (d.updArg ctl 26 6) = [] then d.updAnswer ctl 5 []
  else (d.setBlob 15 0 (leBytes 1 (d.updArg ctl 8 1) ++ leBytes 8 (d.updArg ctl 24 8))).updAnswer ctl 0 []

/-- UPD_ACTIVATE (R534, R535). -/
def Dev.updActivate (d : Dev) (ctl : Bool) : Dev :=
  if !d.updReady ctl 3 then d
  else if !d.updSelf ctl then d.updForward ctl
  else if d.get F.UPD_SL_STAT_ST d.idleSlot ≠ 2 then d.updAnswer ctl 3 []
  else (d.slotState d.idleSlot 3 0).updAnswer ctl 0 []

def execUpdActivate (ctl : Bool) (s : State) : Host.Outcome State Fault Refusal := s.upd (fun d => d.updActivate ctl)

/-- Erases a settings area of 768 KiB (R536). -/
def Dev.eraseArea (d : Dev) (a : Nat) : Dev := { d with bytes := d.bytes.filter (fun e => e.1.1 != 10 + a) }

/-- The confirmation as one MRAM update (R531): the booted slot CONFIRMED, a CONFIRMED inactive slot SUPERSEDED, the other settings area erased, the security
version advanced where the manifest asks. -/
def State.confirm (s : State) : State :=
  let b := s.dev.get F.UPD_STATE_BOOTED 0
  let d := s.dev.slotState b 5 0
  let d := if d.get F.UPD_SL_STAT_ST (1 - b) = 5 then d.slotState (1 - b) 6 0 else d
  let d := if d.var V.setOther 0 = 1 then (d.eraseArea (1 - (d.var V.setPres 0).toNat)).setVar V.setOther 0 0 else d
  let svn := d.get F.UPD_SL_STAT_SVN b
  let otp := if tbit (leAt (d.manifest b) 17 1) 0 && decide (s.otp.svn < svn) then { s.otp with svn := min 64 svn } else s.otp
  { s with dev := d, otp := otp }

/-- UPD_CONFIRM (R531, R534). -/
def State.updConfirm (s : State) (ctl : Bool) : State :=
  if !s.dev.updReady ctl 4 then s
  else if !s.dev.updSelf ctl then { s with dev := s.dev.updForward ctl }
  else if !s.dev.inTrial then { s with dev := s.dev.updAnswer ctl 3 [] }
  else let s := s.confirm; { s with dev := s.dev.updAnswer ctl 0 [] }

def execUpdConfirm (ctl : Bool) (s : State) : Host.Outcome State Fault Refusal := .next (s.updConfirm ctl)

/-- UPD_STATUS (R534). -/
def execUpdStatus (ctl : Bool) (s : State) : Host.Outcome State Fault Refusal :=
  s.upd (fun d => if d.updReady ctl 5 then d.updAnswer ctl 0 [] else d)

/-- UPD_ABORT (R534, R539): the transfer ends, its slot stays in WRITING, and a STAGE or PUSH gets its DONE reply. -/
def Dev.updAbort (d : Dev) (ctl : Bool) : Dev :=
  if !d.updReady ctl 6 then d
  else
    let op := d.get F.UPD_XFER_OP 0
    if op = 0 then d.updAnswer ctl 3 []
    else
      let d := d.updAnswer ctl 0 []
      if op = 3 then d.xferEnd else (d.updReply false op (d.var V.xfTag 0).toNat 6 []).xferEnd

def execUpdAbort (ctl : Bool) (s : State) : Host.Outcome State Fault Refusal := s.upd (fun d => d.updAbort ctl)

/-- UPD_REBOOT (R534): a module reset in SERVICE. -/
def Dev.updReboot (d : Dev) (ctl : Bool) : Dev :=
  if !d.updReady ctl 7 then d
  else if d.get F.PWR_MODE_MODE 0 ≠ 2 then d.updAnswer ctl 3 []
  else (d.updAnswer ctl 0 []).setVar V.modReq 0 3

def execUpdReboot (ctl : Bool) (s : State) : Host.Outcome State Fault Refusal := s.upd (fun d => d.updReboot ctl)

/-! ### Settings (R536) -/

/-- 64 bytes of a settings area; what has not been written reads as erased. -/
def Dev.settings (d : Dev) (a off : Nat) : List Nat :=
  match d.bytes.find (10 + a, off / 64) with
  | some l => padTo 64 l
  | none => List.replicate 64 0xFF

/-- UPD_SREAD (R534): 64 bytes of the present or the other area. -/
def Dev.updSread (d : Dev) (ctl : Bool) : Dev :=
  let off := d.updArg ctl 12 4
  let other := tbit (d.updArg ctl 16 1) 0
  let pres := (d.var V.setPres 0).toNat
  if !d.updReady ctl 0x10 then d
  else if off % 64 ≠ 0 then d.updAnswer ctl 2 []
  else if 786432 ≤ off ∨ (other = true ∧ d.var V.setOther 0 = 0) then d.updAnswer ctl 3 []
  else d.updAnswer ctl 0 (d.settings (if other then 1 - pres else pres) off)

def execUpdSread (ctl : Bool) (s : State) : Host.Outcome State Fault Refusal := s.upd (fun d => d.updSread ctl)

/-- UPD_SWRITE (R534, R536): 64 bytes of the present area; the other area is frozen. -/
def Dev.updSwrite (d : Dev) (ctl : Bool) : Dev :=
  let off := d.updArg ctl 12 4
  if !d.updReady ctl 0x11 then d
  else if off % 64 ≠ 0 then d.updAnswer ctl 2 []
  else if 786432 ≤ off ∨ tbit (d.updArg ctl 16 1) 0 = true then d.updAnswer ctl 3 []
  else
    let l := ((d.clrPub (d.updSlot ctl)).drop 32).take 64
    (d.setBlob (10 + (d.var V.setPres 0).toNat) (off / 64) l).updAnswer ctl 0 []

def execUpdSwrite (ctl : Bool) (s : State) : Host.Outcome State Fault Refusal := s.upd (fun d => d.updSwrite ctl)

/-- The opcodes that a slot may carry: STAGE and PUSH come from the data plane only (R534). -/
def updOpcodes (ctl : Bool) : List Nat := (if ctl then [] else [1, 2]) ++ [3, 4, 5, 6, 7, 0x10, 0x11]

/-- UPD_BAD_OPCODE (R533). -/
def Dev.updBad (d : Dev) (ctl : Bool) : Dev :=
  let op := d.updArg ctl 8 1
  if d.updReady ctl op && !(updOpcodes ctl).contains op then d.updAnswer ctl 2 [] else d

def execUpdBadOpcode (ctl : Bool) (s : State) : Host.Outcome State Fault Refusal := s.upd (fun d => d.updBad ctl)

/-! ### Blocks into NOR -/

/-- An image is whole in a slot: STORED; while Fallen TRY and a module reset (FALLEN_EXIT, R543), after a strap boot TRY (R656). -/
def Dev.imageWhole (d : Dev) (slot : Nat) : Dev :=
  if d.on F.UPD_STATE_FALLEN 0 then (d.slotState slot 3 0).setVar V.modReq 0 3
  else if d.on F.SYS_BOOT_STRAP 0 then d.slotState slot 3 0
  else d.slotState slot 2 0

/-- The bytes in the window. -/
def Dev.winBytes (d : Dev) : List Nat := (List.range 1024).flatMap (fun w => leBytes 4 (d.get F.UPD_BWIN_W w))

/-- A slot in WRITING whose image the block in the window belongs to: TOTAL is equal, and so is BUILD of a block 0 (R535, R545). -/
def Dev.winFits (d : Dev) (i : Nat) : Bool :=
  d.get F.UPD_SL_STAT_ST i == 1 && d.var V.slTotal i == (d.get F.UPD_BLK_IDX1_TOTAL 0 : Int) &&
    (d.get F.UPD_BLK_IDX0_BLOCK 0 != 0 || d.get F.UPD_SL_BUILD_BUILD i == leAt d.winBytes 24 8)

/-- The slot that a block from the window goes to (R545, R656). -/
def Dev.winSlot (d : Dev) : Nat :=
  if d.on F.UPD_STATE_FALLEN 0 || d.on F.SYS_BOOT_STRAP 0 then
    (if !d.winFits 0 && d.winFits 1 then 1 else 0)
  else d.idleSlot

/-- A NOR write fails: IOERR (R546). A STAGE ends with that reply. -/
def Dev.norFail (d : Dev) : Dev :=
  let d := d.errBlk 0x30 1 1
  if d.get F.UPD_XFER_OP 0 = 1 then (d.updReply false 1 (d.var V.xfTag 0).toNat 4 []).xferEnd else ((d.setVar V.norWin 0 0).setVar V.blkRes 0 2).monBlkEnd

/-- NOR_BLOCK_WRITE (R535, R538, R543): the write of the next block completes, from DRAM, from a received push, or from the window. -/
def State.norWrite (s : State) (ok : Bool) : State :=
  let d := s.dev
  let op := d.get F.UPD_XFER_OP 0
  if op = 1 then
    let i := d.idleSlot
    let n := (d.var V.slDone i).toNat
    if d.var V.slTotal i ≤ (n : Int) then s
    else match s.imgBlock (d.var V.xfAddr 0).toNat (d.var V.xfLen 0).toNat n with
      | some b => { s with dev := if ok then d.slotBlock i n b else d.norFail }
      | none => { s with dev := d.norFail }
  else if op = 3 then
    let i := d.idleSlot
    let n := (d.var V.slDone i).toNat
    match d.bytes.find (12, n) with
    | none => s
    | some b =>
      if !ok then { s with dev := d.errBlk 0x30 1 1 }
      else
        let d := (({ d with bytes := d.bytes.filter (fun e => e.1 != (12, n)) } : Dev).slotBlock i n b).rxAck n
        { s with dev := if d.var V.slTotal i ≤ d.var V.slDone i then (d.imageWhole i).xferEnd else d }
  else if d.var V.norWin 0 = 1 then
    let i := d.winSlot
    if !ok then { s with dev := d.norFail }
    else
      let d := ((d.slotBlock i (d.get F.UPD_BLK_IDX0_BLOCK 0) d.winBytes).setVar V.norWin 0 0).setVar V.blkRes 0 1 |>.monBlkEnd
      { s with dev := if d.var V.slTotal i ≤ d.var V.slDone i then d.imageWhole i else d }
  else s

def execNorBlockWrite (ok : Bool) (s : State) : Host.Outcome State Fault Refusal := .next (s.norWrite ok)

/-- STAGE_DONE (R535): after the last block the slot is read back and compared with DRAM. -/
def State.stageDone (s : State) : State :=
  let d := s.dev
  let i := d.idleSlot
  if d.get F.UPD_XFER_OP 0 ≠ 1 ∨ d.var V.slDone i < d.var V.slTotal i then s
  else
    let same := (List.range (d.var V.slTotal i).toNat).all (fun n =>
      s.imgBlock (d.var V.xfAddr 0).toNat (d.var V.xfLen 0).toNat n == some (padTo 4096 (d.blob 1 (norIx i n))))
    if same then { s with dev := ((d.slotState i 2 0).updReply false 1 (d.var V.xfTag 0).toNat 6 []).xferEnd }
    else { s with dev := d.norFail }

def execStageDone (s : State) : Host.Outcome State Fault Refusal := .next s.stageDone

/-- UPD_BLOCK_GO (R539, R545): the block in the window is stored where its CRC holds and it is the next one; a busy window refuses. -/
def Dev.blockGo (d : Dev) : Dev :=
  if d.var V.norWin 0 = 1 then d.errBlk 0x30 2 0
  else
    let i := d.winSlot
    let n := d.get F.UPD_BLK_IDX0_BLOCK 0
    let total := d.get F.UPD_BLK_IDX1_TOTAL 0
    let b := d.winBytes
    if d.get F.UPD_XFER_OP 0 ≠ 0 ∨ crc32c b ≠ d.get F.UPD_BLK_IDX2_CRC 0 ∨ total ≤ n ∨ 131072 < total ∨ d.var V.lcSt 0 = 4 then d.setVar V.blkRes 0 2
    else
      let open_ := d.get F.UPD_SL_STAT_ST i == 1 && d.var V.slTotal i == (total : Int)
      let same := open_ && d.get F.UPD_SL_BUILD_BUILD i == leAt b 24 8
      let d := if n = 0 ∧ same = false then d.slotOpen i (leAt b 24 8) (4096 * total) total else d
      let d := if n = 0 ∧ same = false then (d.setVar V.slDone i 0).slotShow i else d
      if d.var V.slDone i = (n : Int) ∧ d.var V.slTotal i = (total : Int) then (d.setVar V.norWin 0 1).setVar V.blkRes 0 0 else d.setVar V.blkRes 0 2

def execUpdBlockGo (a : Acc) (s : State) : Host.Outcome State Fault Refusal := s.upd (fun d => d.wr 0x30 0x830 a (fun d => d.blockGo))

/-! ### Trial and runs (R530, R532) -/

/-- TRIAL_TIMEOUT (R530). -/
def Dev.trialTimeout (d : Dev) : Dev :=
  let t := d.get F.UPD_CFG_CONFTO 0
  if d.inTrial && t != 0 && d.passed V.trialAt 0 (t * 1000000000) then d.setVar V.modReq 0 3 else d

def execTrialTimeout (s : State) : Host.Outcome State Fault Refusal := s.upd Dev.trialTimeout

/-- RUN_PROVEN (R532): both planes have run for 300 s without a failing reset. -/
def Dev.runProven (d : Dev) : Dev :=
  if d.on F.SYS_REL_PA 0 && d.on F.SYS_REL_DP 0 && d.passed V.relAt 0 300000000000 && d.passed V.relAt 1 300000000000 then
    d.set F.UPD_RUNCNT_CNT 0 0
  else d

def execRunProven (s : State) : Host.Outcome State Fault Refusal := s.upd Dev.runProven

/-- The unit is Fallen (R542): the record, FALLEN and REASON, and the image on the panel (R556). -/
def Dev.fall (d : Dev) (reason : Nat) : Dev :=
  let d := ((d.set F.UPD_STATE_FALLEN 0 1).set F.UPD_STATE_REASON 0 reason).set F.COM_STAT_FAULT 0x30 1
  (((d.irq 0x30 3).keeperRec 3 0x1004 [reason]).setVar V.segFallen 0 reason).set F.COM_CTRL_EN 0x25 1

/-- A plane's reset counts against the run of a CONFIRMED slot (R532): within 300 s of the release, with a cause that R532 names. At RUNFAIL failed runs the slot
is FAILED and the unit Fallen, by a module reset. -/
def Dev.runFailed (d : Dev) (plane : Nat) : Dev :=
  let b := d.get F.UPD_STATE_BOOTED 0
  if d.get F.UPD_SL_STAT_ST b = 5 ∧ !d.passed V.relAt plane 300000000001 then
    let n := d.get F.UPD_RUNCNT_CNT 0 + 1
    let d := d.set F.UPD_RUNCNT_CNT 0 (min n 15)
    if max 1 (d.get F.UPD_CFG_RUNFAIL 0) ≤ n then (d.slotState b 7 3).fall 3 else d
  else d

/-! ### Receiving a push (R538, R540, R541) -/

/-- The T9 may store a push: while Fallen, and in SERVICE with RXEN at 1 and RIDE off. -/
def Dev.mayReceive (d : Dev) : Bool :=
  d.on F.UPD_STATE_FALLEN 0 || (d.get F.PWR_MODE_MODE 0 == 2 && d.on F.UPD_CFG_RXEN 0 && !d.on F.COM_CTRL_EN 0x2B)

/-- A frame is dropped and counted. -/
def Dev.rxDrop (d : Dev) : Dev := d.incSat F.UPD_XFER_RXDROP 0

/-- An incoming transfer ends where the T9 may no longer store a push (R540). Log entry 217. -/
def Dev.rxStop (d : Dev) : Dev := if d.get F.UPD_XFER_OP 0 = 3 ∧ d.mayReceive = false then d.xferEnd else d

/-- BULK_DATA_RECEIVED: a frame addressed to the T9 is put together with the others of its block; a block in order whose CRC holds waits for its NOR write. A transfer that
resumes answers at once with the highest block written (R538, R539). -/
def Dev.bulkData (d : Dev) (x : BulkIn) : Dev :=
  let op := d.get F.UPD_XFER_OP 0
  if !d.mayReceive || (op != 0 && op != 3) || d.var V.norWin 0 == 1 then d.rxStop.rxDrop
  else if x.member.toNat ≠ 9 ∨ (x.serial.toNat ≠ 0 ∧ x.serial.toNat ≠ Config.otpSerial % 2 ^ 48) then d.rxDrop
  else if op = 3 ∧ d.var V.rxId 0 ≠ (x.id.toNat : Int) then d.rxDrop
  else
    let i := d.idleSlot
    let d := if op = 3 then d else
      let d := (((d.set F.UPD_XFER_OP 0 3).set F.UPD_XFER_ST 0 1).setVar V.rxId 0 x.id.toNat).setVar V.rxPort 0 (bit x.portB)
      let d := d.slotOpen i x.build.toNat (4096 * x.total.toNat) x.total.toNat
      let d := (d.setVar V.rxNext 0 (d.var V.slDone i)).setVar V.rxAsm 0 (-1)
      if 0 < d.var V.slDone i then d.rxAck (d.var V.slDone i - 1).toNat else d
    if (x.block.toNat : Int) ≠ d.var V.rxNext 0 then d
    else
      let d := if d.var V.rxAsm 0 = (x.block.toNat : Int) then d else
        (d.each [0, 1, 2, 3] (fun f a => a.setBlob 13 f [])).setVar V.rxAsm 0 x.block.toNat
      let d := d.setBlob 13 x.frame.val (padTo 1024 (x.data.map (·.toNat)))
      if [0, 1, 2, 3].any (fun f => d.blob 13 f == []) then d
      else
        let b := d.blob 13 0 ++ d.blob 13 1 ++ d.blob 13 2 ++ d.blob 13 3
        let d := d.setVar V.rxAsm 0 (-1)
        if crc32c b = x.crc.toNat then (d.setBlob 12 x.block.toNat b).setVar V.rxNext 0 (x.block.toNat + 1 : Nat) else d

def execBulkDataReceived (x : BulkIn) (s : State) : Host.Outcome State Fault Refusal := s.upd (fun d => d.bulkData x)

/-! ### Pushing (R538, R539) -/

/-- BULK_ACK_RECEIVED: a target names the highest block that it and every target behind it has written. -/
def Dev.bulkAck (d : Dev) (n hi : Nat) : Dev :=
  if d.get F.UPD_XFER_OP 0 ≠ 2 ∨ !tbit (d.var V.pushTgt 0).toNat n then d
  else if (hi : Int) ≤ d.var V.pushAck n then d
  else
    let d := (d.setVar V.pushAck n hi).mark V.pushAt 0
    if (blocksIn (d.var V.xfLen 0).toNat : Int) ≤ d.lowAck + 1 then d.pushDone else d.pushGo

def execBulkAckReceived (n : Fin 32) (hi : BitVec 30) (s : State) : Host.Outcome State Fault Refusal := s.upd (fun d => d.bulkAck n hi.toNat)

/-- PUSH_RESEND (R538): no ACK has advanced for 50 ms. -/
def Dev.pushResend (d : Dev) : Dev :=
  if d.get F.UPD_XFER_OP 0 = 2 ∧ d.passed V.pushAt 0 50000000 then (((d.setVar V.pushNext 0 (d.lowAck + 1)).setVar V.pushPart 0 0).mark V.pushAt 0).pushGo else d

def execPushResend (s : State) : Host.Outcome State Fault Refusal := s.upd Dev.pushResend

/-- A target has detached (R539): it is dropped from the push, which goes on to the others. -/
def Dev.pushDetach (d : Dev) (n : Nat) : Dev :=
  if d.get F.UPD_XFER_OP 0 ≠ 2 ∨ !tbit (d.var V.pushTgt 0).toNat n then d
  else
    let d := (d.setVar V.pushTgt 0 (d.var V.pushTgt 0 - (2 ^ n : Nat))).setVar V.pushDet 0 (d.var V.pushDet 0 + (2 ^ n : Nat))
    if d.var V.pushTgt 0 = 0 ∨ (blocksIn (d.var V.xfLen 0).toNat : Int) ≤ d.lowAck + 1 then d.pushDone else d.pushGo

/-- A reset of a plane ends a transfer whose source lies in DRAM (R547). -/
def Dev.updPlaneReset (d : Dev) : Dev := if d.get F.UPD_XFER_OP 0 = 1 ∨ d.get F.UPD_XFER_OP 0 = 2 then d.xferEnd else d

end Sys2Proof.Machine
end

