-- ==== Sys2Proof/Machine/Ride.lean ====
section
/-! DEFINITION. RIDE: cycles, images, discovery, attach and detach, the ring and the taken ports
(spec/13_ethernet_ride_link.md, R428, R441 to R457, R463 to R468). -/

namespace Sys2Proof.Machine

/-- The node numbers. -/
def rideNodes : List Nat := List.range 32

/-- The node is ATTACHED. -/
def Dev.attached (d : Dev) (n : Nat) : Bool := d.get F.NT_ID_STATE n == 1

/-- The node takes part in cycles: ATTACHED and no receiving node (R456). -/
def Dev.rideCycles (d : Dev) (n : Nat) : Bool := d.attached n && d.var V.rideRecv n == 0

/-- RIDE_STAT.FAULT: an ATTACHED node is STALE (R463). -/
def Dev.rideStat (d : Dev) : Dev :=
  d.set F.COM_STAT_FAULT 0x2B (bit (rideNodes.any (fun n => d.attached n && d.on F.RIDE_ND_STAT_STALE n)))

/-- An update of a table entry is over: its SEQ is even again (R465). -/
def Dev.ntSeq (d : Dev) (n : Nat) : Dev := d.incWrap F.NT_SEQ_SEQ n 2

/-- STATE and CAUSE of an entry, in the table and in the channel window. -/
def Dev.ntState (d : Dev) (n st cause : Nat) : Dev :=
  ((d.set F.NT_ID_STATE n st).set F.RIDE_ND_STAT_STATE n st).set F.RIDE_ND_STAT_CAUSE n cause

/-- The path of an entry: the head port, the hop, and the node and port above. -/
def Dev.ntPath (d : Dev) (n hport hop upnode upport : Nat) : Dev :=
  let d := (((d.set F.NT_PATH_HPORT n hport).set F.NT_PATH_HOP n hop).set F.NT_PATH_UPNODE n upnode).set F.NT_PATH_UPPORT n upport
  (d.set F.RIDE_ND_STAT_HPORT n hport).set F.RIDE_ND_STAT_HOP n hop

/-! ### Topology (R445, R463, R466) -/

/-- Length of the DOWN frame (R443). -/
def Dev.downLen (d : Dev) : Nat := 64 + ((rideNodes.filter d.rideCycles).map (fun n => 8 + d.get F.NT_LEN_OUTLEN n)).sum

/-- T_RT of a head port, in units of 0.1 ns (R445). -/
def Dev.rideRtt (d : Dev) (h : Nat) : Nat :=
  let b := if h < 2 then 80 else 32
  let l := rideNodes.filter (fun n => d.rideCycles n && d.get F.NT_PATH_HPORT n == h)
  let hops := (l.map (fun n => d.get F.NT_PATH_HOP n)).foldl max 0
  10000 + 2 * hops * 12000 + b * (d.downLen + 20) + b * (l.map (fun n => max 64 (40 + d.get F.NT_LEN_INLEN n) + 20)).sum

/-- RCYC in us, within its limits (R466). -/
def Dev.rideCyc (d : Dev) : Nat := min 10000 (max 20 (d.get F.RIDE_CYC_RCYC 0))

/-- KIND of the network (R466): 0 none, 1 chain, 2 ring, 3 tree. -/
def Dev.rideKind (d : Dev) : Nat :=
  let l := rideNodes.filter d.attached
  if l = [] then 0
  else if d.var V.rideRing 0 = 1 then 2
  else if l.any (fun n => 2 ≤ l.countP (fun m => d.get F.NT_PATH_UPNODE m == n)) then 3 else 1

/-- A topology change: RIDE_TOPO, the largest T_RT and CYCOVR (R445, R466). -/
def Dev.rideTopo (d : Dev) : Dev :=
  let l := rideNodes.filter d.attached
  let d := ((d.set F.RIDE_TOPO_NNODE 0 l.length).set F.RIDE_TOPO_HMAX 0 ((l.map (fun n => d.get F.NT_PATH_HOP n)).foldl max 0)).set
    F.RIDE_TOPO_KIND 0 d.rideKind
  let t := (d.headPorts.map d.rideRtt).foldl max 0
  let d := (d.set F.RIDE_RTT_CALC 0 (min 65535 ((t + 99) / 100))).irq 0x2B 4
  if d.rideCyc * 10000 < t then (d.irq 0x2B 7).errBlk 0x2B 5 1 else d

/-! ### Attach and detach (R456, R457) -/

/-- A node is detached with a cause: 1 LINK, 2 MISS, 3 HELLO (R457); a push to it goes on without it (R539). -/
def Dev.rideDrop (d : Dev) (n cause : Nat) : Dev :=
  let d := ((d.ntState n 2 cause).set F.NT_LAST_T n (toBits 64 d.now)).ntSeq n
  let d := ((d.setVar V.rideExp n 0).setVar V.rideAlt n 0).irq 0x2B 1
  (d.errBlk 0x2B 3 1).pushDetach n

/-- The nodes of a list and all ATTACHED nodes behind them. -/
def Dev.rideBehind (d : Dev) (l : List Nat) : List Nat :=
  (List.range 32).foldl (fun a _ => rideNodes.filter (fun n => a.contains n || (d.attached n && a.contains (d.get F.NT_PATH_UPNODE n)))) l

/-- The ring opens: RINGBRK sets and BCODE 0x4 is reported (R454). -/
def Dev.ringBreak (d : Dev) : Dev :=
  if d.on F.RIDE_TOPO_RINGBRK 0 then d else ((d.set F.RIDE_TOPO_RINGBRK 0 1).irq 0x2B 5).errBlk 0x2B 4 1

/-- A node lies on the ring: on port A or B, alone in its chain, or with a second path to it or to a node behind it (R441, R454); the others hang on a spur (log entry 200). -/
def Dev.onRing (d : Dev) (n : Nat) : Bool :=
  let h := d.get F.NT_PATH_HPORT n
  decide (h < 2) && ((d.rideBehind [n]).any (fun m => d.var V.rideAlt m == 1) ||
    rideNodes.all (fun m => !(d.attached m && d.get F.NT_PATH_HPORT m == h) ||
      decide (rideNodes.countP (fun q => d.attached q && d.get F.NT_PATH_UPNODE q == m) ≤ 1)))

/-- The nearest node at or above `m`, within `k` nodes, that a list holds. -/
def Dev.rideAbove (d : Dev) (l : List Nat) (k m : Nat) : Nat :=
  match k with
  | 0 => m
  | k + 1 => if l.contains m then m else Dev.rideAbove d l k (d.get F.NT_PATH_UPNODE m)

/-- The nodes of a list, which lie on the ring, answer on its other side: the farthest of them is now the nearest (R454). The port by which each is reached
is not given. -/
def Dev.rideTurn (d : Dev) (l : List Nat) : Dev :=
  match l with
  | [] => d
  | n0 :: _ =>
    let side := 1 - d.get F.NT_PATH_HPORT n0
    let far := rideNodes.filter (fun n => d.attached n && !l.contains n && d.get F.NT_PATH_HPORT n == side && d.onRing n)
    let hb := (far.map (fun n => d.get F.NT_PATH_HOP n)).foldl max 0
    let last := match far.filter (fun n => d.get F.NT_PATH_HOP n == hb) with
      | n :: _ => n
      | [] => 0xFF
    d.each l (fun n a =>
      let up := match l.filter (fun m => d.get F.NT_PATH_HOP m == d.get F.NT_PATH_HOP n + 1) with
        | m :: _ => m
        | [] => last
      let port := if up = 0xFF then side else a.freeVal
      let a := if up = 0xFF then a else a.useFree
      (a.ntPath n side (hb + 1 + l.countP (fun m => d.get F.NT_PATH_HOP n < d.get F.NT_PATH_HOP m)) up port).ntSeq n)

/-- Nodes on spurs of turned nodes follow them: their hop moves with that of the node of the ring `b` that they hang on; `l` are the turned nodes and `t` the nodes on
their spurs. -/
def Dev.rideFollow (d b : Dev) (l t : List Nat) : Dev :=
  d.each t (fun m a =>
    let r := b.rideAbove l 32 m
    (a.ntPath m (d.get F.NT_PATH_HPORT r) (d.get F.NT_PATH_HOP r + (b.get F.NT_PATH_HOP m - b.get F.NT_PATH_HOP r)) (b.get F.NT_PATH_UPNODE m)
      (b.get F.NT_PATH_UPPORT m)).ntSeq m)

/-- The path to the nodes of a list is lost (R454, R457): where they lie on a proved ring they turn to its other side with what hangs on them; the others are detached
with cause LINK, and so is every node behind them. -/
def Dev.rideLose (d : Dev) (l : List Nat) : Dev :=
  let ring := if d.var V.rideRing 0 = 0 then [] else l.filter d.onRing
  let turn := d.rideBehind ring
  let gone := (d.rideBehind l).filter (fun n => !turn.contains n)
  if l = [] then d
  else
    let e := if ring = [] then d else
      let r := turn.filter d.onRing
      (((d.ringBreak.setVar V.rideRing 0 0).rideTurn r).rideFollow d r (turn.filter (fun n => !r.contains n))).each rideNodes (fun n a => a.setVar V.rideAlt n 0)
    (e.each gone (fun n a => a.rideDrop n 1)).rideTopo.rideStat

/-- One node is detached with a cause, and the nodes behind it lose their path (R457). -/
def Dev.rideDetach (d : Dev) (n cause : Nat) : Dev :=
  let l := rideNodes.filter (fun m => d.attached m && d.get F.NT_PATH_UPNODE m == n)
  ((d.rideDrop n cause).rideTopo.rideStat).rideLose l

/-- A link that no stored path uses may be the one that closes a proved ring: it lies at port A or B, or at a node on one of them (R454). Log entry 200. -/
def Dev.ringLink (d : Dev) (up p : Nat) : Bool :=
  d.var V.rideRing 0 != 0 && (if up = 0xFF then decide (p < 2) else d.attached up && d.onRing up)

/-- RIDE_LINK_DOWN (R454, R457): the link at a head port, or at a port of a node, is lost. An incoming push at that port ends (log entry 217). -/
def Dev.rideDown (d : Dev) (up p : Nat) : Dev :=
  let d := d.setVar V.rideUp (if up = 0xFF then p else 4 + 4 * up + p) 0
  let l := rideNodes.filter (fun n => d.attached n && d.get F.NT_PATH_UPNODE n == up && d.get F.NT_PATH_UPPORT n == p)
  if !d.running 0x2B then (if up = 0xFF ∧ (p : Int) = d.var V.rxPort 0 ∧ d.get F.UPD_XFER_OP 0 = 3 then d.xferEnd else d)
  else if l = [] ∧ d.ringLink up p then ((d.ringBreak.setVar V.rideRing 0 0).each rideNodes (fun n a => a.setVar V.rideAlt n 0)).rideTopo
  else d.rideLose l

/-- The number of the node above, 0xFF for the T9. -/
def upNode (up : Option (Fin 32)) : Nat :=
  match up with
  | none => 0xFF
  | some n => n.val

def execRideLinkDown (up : Option (Fin 32)) (p : Fin 4) (s : State) : Host.Outcome State Fault Refusal := s.upd (fun d => d.rideDown (upNode up) p)

/-- The rate of a head port, and of every link on a path from it, in Mbit/s (R427, R441). -/
def rideRate (h : Nat) : Nat := if h < 2 then 1000 else 2500

/-- A TIME exchange at a head port (R443, R449). The bytes' places are the model's (log entry 199). -/
def Dev.rideTimeEx (d : Dev) (p : Nat) : Dev :=
  ((d.mark V.rideTime p).setVar V.rideTimeN p (d.var V.rideTimeN p + 1)).setBlob 47 p (rideFrame 5 64 (leBytes 8 (toBits 64 d.now)))

/-- The HELLO that the T9 sends at a port (R443, R456, R541): member 0x0009, serial, stepping, port rate, no images, and the RECV flag. The bytes' places are the
model's (log entry 199). -/
def Dev.helloOut (d : Dev) (p : Nat) (recv : Bool) : List Nat :=
  rideFrame 4 64 (leBytes 2 9 ++ leBytes 8 Config.otpSerial ++ [d.get F.SYS_STEP0_SOC 0] ++ leBytes 2 (rideRate p) ++ [0, 0, bit recv])

/-- Ride port A or B receives under UPD while the T9 may store a push and RIDE does not run it: it sends a HELLO with the RECV flag (R541). -/
def Dev.recvHello (d : Dev) (up p : Nat) : Dev :=
  if up == 0xFF && decide (p < 2) && d.mayReceive && !d.running 0x2B then (d.setVar V.rxHello p (d.var V.rxHello p + 1)).setBlob 46 p (d.helloOut p true) else d

/-- RIDE_LINK_UP (R449, R456, R541): the two ends exchange HELLO frames, and TIME frames; the T9 is an end only at a head port that RIDE uses, or at a
receiving port. -/
def Dev.rideLinkUp (d : Dev) (up p : Nat) : Dev :=
  let d := d.setVar V.rideUp (if up = 0xFF then p else 4 + 4 * up + p) 1
  if d.running 0x2B && up == 0xFF && d.headPorts.contains p then
    ((d.setVar V.rideHello p (d.var V.rideHello p + 1)).setBlob 46 p (d.helloOut p false)).rideTimeEx p
  else d.recvHello up p

def execRideLinkUp (up : Option (Fin 32)) (p : Fin 4) (s : State) : Host.Outcome State Fault Refusal := s.upd (fun d => d.rideLinkUp (upNode up) p)

/-- RIDE_TIME_EXCHANGE (R449): every second at each head port. -/
def Dev.rideSecond (d : Dev) : Dev :=
  if d.running 0x2B then d.each (d.headPorts.filter (fun p => d.passed V.rideTime p 1000000000)) (fun p a => a.rideTimeEx p) else d

def execRideTimeExchange (s : State) : Host.Outcome State Fault Refusal := s.upd Dev.rideSecond

/-- What a HELLO says of its sender goes into entry `n` (R456, R465). -/
def Dev.ntFill (d : Dev) (n : Nat) (x : HelloIn) (hop up port : Nat) : Dev :=
  let d := ((d.set F.NT_ID_MEMBER n x.member.toNat).set F.NT_ID_STEP n x.step.toNat).set F.NT_SERIAL_SERIAL n x.serial.toNat
  let d := (d.set F.NT_LEN_OUTLEN n x.outlen).set F.NT_LEN_INLEN n x.inlen
  d.ntPath n x.hport hop up port

/-- Entry `n` becomes ATTACHED (R456). -/
def Dev.rideAttach (d : Dev) (n : Nat) (x : HelloIn) (hop up port : Nat) : Dev :=
  let d := ((d.ntFill n x hop up port).ntState n 1 0).set F.NT_FIRST_T n (toBits 64 d.now)
  let d := ((d.incSat F.NT_ATT_ATTCNT n).set F.RIDE_ND_MISS_CONS n 0).ntSeq n
  let d := ((d.setVar V.rideRecv n (bit x.recv)).setVar V.rideExp n 0).irq 0x2B 0
  d.rideTopo.rideStat

/-- The entry is REFUSED with a cause (R441, R456). -/
def Dev.rideRefuse (d : Dev) (n cause : Nat) (x : HelloIn) (hop up port : Nat) : Dev :=
  (((d.ntFill n x hop up port).ntState n 3 cause).ntSeq n).irq 0x2B 6

/-- The entry that a HELLO takes (R456): the one whose SERIAL matches, else the lowest EMPTY one. -/
def Dev.rideEntry (d : Dev) (serial : Nat) : Option Nat :=
  match rideNodes.filter (fun n => d.get F.NT_ID_STATE n != 0 && d.get F.NT_SERIAL_SERIAL n == serial) with
  | n :: _ => some n
  | [] => (rideNodes.filter (fun n => d.get F.NT_ID_STATE n == 0)).head?

/-- RIDE_HELLO (R441, R456, R457): an older serial on the same port is detached; the sender is attached, or refused. A second path to a node
that is attached already closes the ring, and it is taken where it is shorter (R454). -/
def Dev.rideHelloIn (d : Dev) (x : HelloIn) : Dev :=
  let up := upNode x.up
  let hop := if up = 0xFF then 1 else d.get F.NT_PATH_HOP up + 1
  let port := if up = 0xFF then x.hport.val else x.upport.val
  let speed := decide (x.rate.toNat = rideRate x.hport)
  if !(d.running 0x2B && d.headPorts.contains x.hport.val && (up == 0xFF || (d.attached up && d.get F.NT_PATH_HPORT up == x.hport.val)) &&
      decide (hop ≤ 31)) then d.recvHello up x.hport
  else
    let old := rideNodes.filter (fun n => d.attached n && d.get F.NT_PATH_UPNODE n == up && d.get F.NT_PATH_UPPORT n == port &&
      d.get F.NT_SERIAL_SERIAL n != x.serial.toNat)
    let d := d.each old (fun n a => a.rideDetach n 3)
    match d.rideEntry x.serial.toNat with
    | none => (d.irq 0x2B 6).errBlk 0x2B 2 1
    | some n =>
      if d.attached n then
        let d := if d.get F.NT_PATH_UPNODE n = up ∧ d.get F.NT_PATH_UPPORT n = port then d else d.setVar V.rideAlt n 1
        if speed && decide (hop < d.get F.NT_PATH_HOP n) then ((d.ntPath n x.hport hop up port).ntSeq n).rideTopo else d
      else if !speed then d.rideRefuse n 5 x hop up port
      else d.rideAttach n x hop up port

def execRideHello (x : HelloIn) (s : State) : Host.Outcome State Fault Refusal := s.upd (fun d => d.rideHelloIn x)

/-- RIDE_TABLE_CLEAR (R457, R466): every GONE and REFUSED entry is emptied. -/
def Dev.rideEmpty (d : Dev) (n : Nat) : Dev :=
  let d := (d.ntState n 0 0).ntPath n 0 0 0 0
  let d := ((d.set F.NT_ID_MEMBER n 0).set F.NT_ID_STEP n 0).set F.NT_SERIAL_SERIAL n 0
  let d := ((d.set F.NT_LEN_OUTLEN n 0).set F.NT_LEN_INLEN n 0).set F.NT_FIRST_T n 0
  let d := ((d.set F.NT_LAST_T n 0).set F.NT_ATT_ATTCNT n 0).ntSeq n
  let d := ((d.set F.RIDE_ND_STAT_STALE n 0).set F.RIDE_ND_MISS_CONS n 0).set F.RIDE_ND_MISS_TOTAL n 0
  let d := ((d.set F.RIDE_ND_ISTAMP_T n 0).set F.RIDE_ND_ASTAMP_T n 0).set F.RIDE_ND_FB_FB n 0
  let d := (d.each (List.range 16) (fun w a => a.set F.RIDE_ND_IN_W (16 * n + w) 0)).incWrap F.RIDE_ND_ISEQ_SEQ n 2
  ((d.setVar V.rideCom n 0).setBlob 5 n []).setBlob 6 n []

def execRideTableClear (a : Acc) (s : State) : Host.Outcome State Fault Refusal :=
  s.upd (fun d => d.wr 0x2B 0x810 a (fun d =>
    d.each (rideNodes.filter (fun n => d.get F.NT_ID_STATE n == 2 || d.get F.NT_ID_STATE n == 3)) (fun n e => e.rideEmpty n)))

/-! ### Cycles (R444 to R448) -/

/-- A node has missed its cycle (R446). -/
def Dev.rideMiss (d : Dev) (n : Nat) : Dev :=
  let d := (((d.set F.RIDE_ND_STAT_STALE n 1).incSat F.RIDE_ND_MISS_CONS n).incSat F.RIDE_ND_MISS_TOTAL n).irq 0x2B 3
  if 3 ≤ d.get F.RIDE_ND_MISS_CONS n then d.rideDetach n 2 else d

/-- The DOWN frame takes a node's part: a committed image goes out from this cycle on (R447). -/
def Dev.rideCarry (d : Dev) (n : Nat) : Dev :=
  let d := (d.setVar V.rideExp n 1).setVar V.rideGot n 0
  let d := if d.var V.rideCom n = 1 then (d.setBlob 6 n (d.blob 5 n)).setVar V.rideCom n 0 else d
  d.setBlob 6 n (padTo (d.get F.NT_LEN_OUTLEN n) (d.blob 6 n))

/-- TIME_STATE as a word (R103). -/
def Dev.timeWord (d : Dev) : Nat := d.get F.TIME_STATE_ST 0 + 256 * d.get F.TIME_STATE_STEPPEND 0

/-- What each DOWN frame begins with (R444): bytes 0 to 3 of the Firebreak message, Tk, the mode and TIME_STATE. -/
def Dev.downHead (d : Dev) (tk : Int) : List Nat :=
  (d.fbMessage 0).take 4 ++ leBytes 8 (toBits 64 tk) ++ [d.get F.PWR_MODE_MODE 0] ++ leBytes 4 d.timeWord

/-- The DOWN frame (R443, R444): its head, filled to the 64 bytes of a frame without images, then for each node in the cycle 8 bytes, which name it and its OUTLEN, and
its image (log entry 199). -/
def Dev.downFrame (d : Dev) (tk : Int) : List Nat :=
  rideFrame 1 d.downLen (padTo 45 (d.downHead tk) ++ (rideNodes.filter d.rideCycles).flatMap (fun n => padTo 8 [n, d.get F.NT_LEN_OUTLEN n] ++ d.blob 6 n))

/-- RIDE_CYCLE_START (R444, R446, R447, R454): at Tk the nodes that have not answered have missed the cycle, and a DOWN frame leaves on every
head port. -/
def Dev.rideCycle (d : Dev) : Dev :=
  let tk := d.var V.rideNext 0 + d.var V.gridMove 0x2B / 65536
  if !(d.running 0x2B && decide (0 ≤ d.var V.rideNext 0) && decide (tk ≤ d.now)) then d
  else
    let d := if d.var V.rideRing 0 = 1 ∧ d.var V.rideRet 0 = 0 then ((d.setVar V.rideRing 0 2).ringBreak).rideTopo else d
    let d := d.each (rideNodes.filter (fun n => d.attached n && d.var V.rideExp n == 1 && d.var V.rideGot n == 0)) (fun n a =>
      if a.attached n then a.rideMiss n else a)
    let d := ((d.setVar V.rideTk 0 tk).mark V.rideTkAt 0).setVar V.rideNext 0 (d.var V.rideNext 0 + d.rideCyc * 1000)
    let d := (d.incWrap F.RIDE_CYCNT_CNT 0).setVar V.rideRet 0 0
    let d := d.each (rideNodes.filter d.rideCycles) (fun n a => a.rideCarry n)
    let l := d.downFrame tk
    let d := (d.each d.headPorts (fun h a => a.setBlob 7 h l)).rideStat
    if d.var V.pushHold 0 = 1 ∧ d.get F.UPD_XFER_OP 0 = 2 then d.pushGo else d

def execRideCycleStart (s : State) : Host.Outcome State Fault Refusal := s.upd Dev.rideCycle

/-- A complete UP frame of the present cycle (R445, R446, R448, R451): the time since the cycle's start is the last measured T_RT, in 10 ns (R466). -/
def Dev.rideUpIn (d : Dev) (n tk : Nat) (img : List Nat) (fb astamp : Nat) : Dev :=
  if !(d.running 0x2B && d.attached n && d.var V.rideExp n == 1 && d.var V.rideGot n == 0 && toBits 64 (d.var V.rideTk 0) == tk) then d
  else
    let b := padTo 64 (padTo (d.get F.NT_LEN_INLEN n) img)
    let d := d.each (List.range 16) (fun w a => a.set F.RIDE_ND_IN_W (16 * n + w) (leAt b (4 * w) 4))
    let d := ((d.set F.RIDE_ND_ISTAMP_T n tk).set F.RIDE_ND_ASTAMP_T n astamp).set F.RIDE_ND_FB_FB n fb
    let d := ((d.incWrap F.RIDE_ND_ISEQ_SEQ n 2).set F.RIDE_ND_STAT_STALE n 0).set F.RIDE_ND_MISS_CONS n 0
    let d := ((d.setVar V.rideGot n 1).set F.RIDE_RTT_LAST 0 (min 65535 (d.since V.rideTkAt 0 / 655360).toNat)).rideStat
    if rideNodes.all (fun m => d.var V.rideExp m != 1 || d.var V.rideGot m == 1) then d.irq 0x2B 2 else d

def execRideUpReceived (n : Fin 32) (tk : BitVec 64) (img : List Byte) (fb : BitVec 32) (astamp : BitVec 64) (_ : Unit) (s : State) :
    Host.Outcome State Fault Refusal :=
  s.upd (fun d => d.rideUpIn n tk.toNat (img.map (fun b => b.toNat)) fb.toNat astamp.toNat)

/-- RIDE_OUTPUT_COMMIT (R447): the staged image waits for the next DOWN frame. -/
def Dev.rideCommit (d : Dev) (n : Nat) : Dev :=
  (d.setBlob 5 n ((List.range 16).flatMap (fun w => leBytes 4 (d.get F.RIDE_ND_OUT_W (16 * n + w))))).setVar V.rideCom n 1

def execRideOutputCommit (a : Acc) (s : State) : Host.Outcome State Fault Refusal := s.upd (fun d => d.wrCh 0x2B 0x108 a (fun n d => d.rideCommit n))

/-- RIDE_RING_RETURN (R454): the copy of the present cycle's DOWN frame comes back on the opposite port and proves the ring. -/
def Dev.ringReturn (d : Dev) : Dev :=
  if d.running 0x2B && d.on F.RIDE_CFG_PAEN 0 && d.on F.RIDE_CFG_PBEN 0 && d.get F.RIDE_CYCNT_CNT 0 != 0 then
    let d := d.setVar V.rideRet 0 1
    if d.var V.rideRing 0 = 1 then d else ((d.setVar V.rideRing 0 1).set F.RIDE_TOPO_RINGBRK 0 0).rideTopo
  else d

def execRideRingReturn (s : State) : Host.Outcome State Fault Refusal := s.upd Dev.ringReturn

/-! ### Ports (R428) -/

/-- RIDE_PORT_TAKE (R428, R466): PCEN or PDEN is written; refused while RIDE runs (a change of an RWL field), and a take while the ETH port is
enabled. -/
def Dev.ridePort (d : Dev) (p : Bool) (take_ : Bool) (bank : Nat) : Dev :=
  let f := if p then F.RIDE_CFG_PDEN else F.RIDE_CFG_PCEN
  let e := if p then 3 else 2
  if d.on f 0 == take_ then d
  else if d.running 0x2B then d.errAcc 0x2B 0 0x800 bank
  else if take_ && d.on F.ETH_PORT_CFG_EN e then d.errBlk 0x2B 1 0
  else (d.set f 0 (bit take_)).set F.ETH_PORT_STAT_TAKEN e (bit take_)

def execRidePortTake (a : Acc) (p take_ : Bool) (s : State) : Host.Outcome State Fault Refusal :=
  s.upd (fun d => d.wr 0x2B 0x800 a (fun d => d.ridePort p take_ a.bank.val)
    (d.changes (if p then F.RIDE_CFG_PDEN else F.RIDE_CFG_PCEN) 0 (bit take_)))

/-- RUN of RIDE rises (R444, R455): the grid starts anew on the next multiple of RCYC. -/
def Dev.rideRise (d : Dev) : Dev :=
  let per : Int := d.rideCyc * 1000
  (((d.setVar V.gridMove 0x2B 0).setVar V.rideNext 0 ((d.now / per + 1) * per)).set F.RIDE_CYCNT_CNT 0 0).setVar V.rideRet 0 1

end Sys2Proof.Machine
end

