-- ==== Sys2Proof/Machine/Sherd.lean ====
section
/-! DEFINITION. SHRD and SAGR: records, the log in MRAM, the intake, the queue of errors in service (spec/18_sherd_log_saggar.md, R563 to
R584). -/

namespace Sys2Proof.Machine

/-! ### Records (R563) -/

/-- The first 60 bytes of a record. -/
def Record.body (r : Record) : List Nat :=
  leBytes 4 r.seq ++ leBytes 8 (toBits 64 r.time) ++ [r.src % 256, r.flags % 256] ++ leBytes 2 r.code ++ padTo 32 (r.pay.map (· % 256)) ++
    leBytes 2 r.boot ++ [0, 0] ++ leBytes 4 r.errw ++ [0, 0, 0, 0]

/-- The 64 bytes of a record. -/
def Record.bytes (r : Record) : List Nat := r.body ++ leBytes 4 (crc32c r.body)

/-- The bytes at an index: a record, what a doubly failed write left (some CRC that fails the check, R570), or 0xFF. -/
def logBytes (log : List (Nat × LogCell)) (i : Nat) : List Nat :=
  match log.find? (fun e => e.1 == i) with
  | some (_, LogCell.held r) => r.bytes
  | some (_, LogCell.left r) => r.body ++ leBytes 4 ((crc32c r.body + 1 + Config.free (2 ^ 64 + i) % 0xFFFFFFFE) % 2 ^ 32)
  | none => List.replicate 64 0xFF

/-- The control plane is released (R568). -/
def Dev.ctlUp (d : Dev) : Bool := d.on F.SYS_REL_PA 0 || d.on F.SYS_REL_PB 0

/-! ### Saggar (R574 to R578) -/

/-- SAGR_STATE, CUR_SEQ and FAULT follow the entries; SAFE's rise sets its interrupt. Page 1 changes with them (R581, R582). -/
def Dev.sagrShow (d : Dev) : Dev :=
  let all := (match d.sagrCur with | some e => [e] | none => []) ++ d.sagrQ
  let has := fun (k : Nat) => bit (all.any (fun e => e.cls == k))
  let rise := has 3 == 1 && !d.on F.SAGR_STATE_SAFE 0
  let d := (((d.set F.SAGR_STATE_DEGR 0 (has 1)).set F.SAGR_STATE_STOP 0 (has 2)).set F.SAGR_STATE_SAFE 0 (has 3)).set F.SAGR_STATE_QLEN 0 d.sagrQ.length
  let d := ((d.set F.SAGR_STATE_BUSY 0 (bit d.sagrCur.isSome)).set F.SAGR_STATE_CLS 0 ((d.sagrCur.map (·.cls)).getD 0)).set F.SAGR_CUR_SEQ_SEQ 0
    (((d.sagrCur.map (·.seq)).getD none).getD 0xFFFFFFFF)
  ((d.set F.COM_STAT_FAULT 0x03 (bit (has 2 == 1 || has 3 == 1))).incWrap F.SAGR_QGEN_GEN 0 2).when rise (fun a => a.irq 0x03 5)

/-- An entry enters service; a class C3 entry blocks the heartbeat (R578). -/
def Dev.sagrServe (d : Dev) (e : SagrEntry) : Dev :=
  (({ d with sagrCur := some e } : Dev).irq 0x03 0).when (e.cls == 3) (fun a => a.setVar V.hbBlock 0 1)

/-- Puts an entry in its place in the queue: after those of its class, or ahead of them for an entry that was pre-empted (R575). -/
def sagrInsert (q : List SagrEntry) (e : SagrEntry) (ahead : Bool) : List SagrEntry :=
  q.takeWhile (fun x => if ahead then e.cls < x.cls else e.cls ≤ x.cls) ++ [e] ++
    q.dropWhile (fun x => if ahead then e.cls < x.cls else e.cls ≤ x.cls)

/-- An entry of the same source and code is in service or queued (R576). -/
def Dev.sagrHas (d : Dev) (src code : Nat) : Bool :=
  (d.sagrCur.any (fun e => e.src == src && e.code == code)) || d.sagrQ.any (fun e => e.src == src && e.code == code)

/-- That entry's REPEAT counts. -/
def Dev.sagrMerge (d : Dev) (src code : Nat) : Dev :=
  let up := fun (e : SagrEntry) => if e.src = src ∧ e.code = code then { e with rep := min 0xFFFF (e.rep + 1) } else e
  ({ d with sagrCur := d.sagrCur.map up, sagrQ := d.sagrQ.map up } : Dev).irq 0x03 3

/-- Payload of a 0x1005 record: the entry lost (R577). -/
def SagrEntry.lost (e : SagrEntry) : List Nat :=
  leBytes 4 (e.seq.getD 0xFFFFFFFF) ++ [e.src, e.cls] ++ leBytes 2 e.code ++ leBytes 2 e.rep

/-- SEQ of the report just taken into the intake, or none where it was dropped. -/
def Dev.lastSeq (before after : Dev) : Option Nat := if before.intake.length < after.intake.length then some before.nextSeq else none

/-- An entry does not fit the queue: a class C3 error 0x1005 of SAGR (R577). `n` bounds the losses that one loss can cause. -/
def Dev.sagrLost (n : Nat) (d : Dev) (e : SagrEntry) : Dev :=
  match n with
  | 0 => d
  | k + 1 =>
    let d := ((d.incSat F.SAGR_ESCCNT_CNT 0).incSat F.SAGR_CNT_C3 0).irq 0x03 4
    let merged := d.sagrHas 3 0x1005
    let d1 := d.shrdIntake d.now 3 (3 + (if merged then 32 else 0)) 0x1005 e.lost 0
    if merged then d1.sagrMerge 3 0x1005
    else
      let x : SagrEntry := ⟨Dev.lastSeq d d1, 3, 3, 0x1005, e.lost, d.now, 0, 0, false⟩
      match d1.sagrCur with
      | none => d1.sagrServe x
      | some c =>
        if c.cls < 3 then
          let d2 := (d1.irq 0x03 1).sagrServe x
          if d2.sagrQ.length < 16 then { d2 with sagrQ := sagrInsert d2.sagrQ { c with pre := true } true }
          else Dev.sagrLost k d2 { c with pre := true }
        else if d1.sagrQ.length < 16 then ({ d1 with sagrQ := sagrInsert d1.sagrQ x false } : Dev).irq 0x03 2
        else match d1.sagrQ.getLast? with
          | some l => Dev.sagrLost k (({ d1 with sagrQ := sagrInsert d1.sagrQ.dropLast x false } : Dev).irq 0x03 2) l
          | none => d1

/-- A class C1 to C3 report takes its place (R575, R577). -/
def Dev.sagrPlace (d : Dev) (e : SagrEntry) : Dev :=
  match d.sagrCur with
  | none => d.sagrServe e
  | some c =>
    if c.cls < e.cls then
      let d := (d.irq 0x03 1).sagrServe e
      if d.sagrQ.length < 16 then { d with sagrQ := sagrInsert d.sagrQ { c with pre := true } true } else Dev.sagrLost 3 d { c with pre := true }
    else if d.sagrQ.length < 16 then ({ d with sagrQ := sagrInsert d.sagrQ e false } : Dev).irq 0x03 2
    else Dev.sagrLost 3 d e

/-- A report that finds room neither in service nor in the queue (R577). -/
def Dev.sagrFull (d : Dev) (cls : Nat) : Bool :=
  match d.sagrCur with
  | none => false
  | some c => !decide (c.cls < cls) && decide (16 ≤ d.sagrQ.length)

/-- A report that passes through SAGR (R568, R574 to R577): counted, recorded, and for C1 to C3 merged or placed. -/
def Dev.sagrReport (d : Dev) (time : Int) (src cls code errw : Nat) (pay : List Nat) : Dev :=
  if cls = 0 then (d.incSat F.SAGR_CNT0_C0 0).shrdIntake time src 4 code pay errw
  else
    let d := d.incSat (if cls = 1 then F.SAGR_CNT_C1 else if cls = 2 then F.SAGR_CNT_C2 else F.SAGR_CNT_C3) 0
    let merged := d.sagrHas src code
    let esc := !merged && d.sagrFull cls
    let d1 := d.shrdIntake time src (cls + (if esc then 8 else 0) + (if merged then 32 else 0)) code pay errw
    (if merged then d1.sagrMerge src code
     else d1.sagrPlace ⟨Dev.lastSeq d d1, src, cls, code, padTo 32 pay, time, errw, 0, false⟩).sagrShow

/-- A report of a block reaches SAGR while the control plane is released, and SHRD directly otherwise (R568, R579). -/
def Dev.takeReport (d : Dev) (r : Report) : Dev :=
  if d.ctlUp then d.sagrReport d.now r.src r.cls r.code r.errw r.pay
  else d.shrdIntake d.now r.src (r.cls + 4 + 64) r.code r.pay r.errw

/-- ERROR_REPORT (R568): the oldest report on its way arrives. -/
def Dev.errorReport (d : Dev) : Dev :=
  match d.reports with
  | [] => d
  | r :: t => ({ d with reports := t } : Dev).takeReport r

def execErrorReport (s : State) : Host.Outcome State Fault Refusal := s.upd Dev.errorReport

/-- SAGR_ACK (R575): the entry in service is acknowledged by its SEQ and the head of the queue enters service; any other write is refused. -/
def Dev.sagrAck (d : Dev) (seq : Nat) : Dev :=
  match d.sagrCur with
  | none => d.errBlk 0x03 1 0
  | some e =>
    if seq ≠ e.seq.getD 0xFFFFFFFF then d.errBlk 0x03 1 0
    else
      let d := ({ d with sagrCur := none } : Dev).irq 0x03 6
      (match d.sagrQ with
       | [] => d
       | h :: t => ({ d with sagrQ := t } : Dev).sagrServe h).sagrShow

def execSagrAck (a : Acc) (seq : BitVec 32) (s : State) : Host.Outcome State Fault Refusal :=
  s.upd (fun d => d.wr 0x03 0x808 a (fun d => d.sagrAck seq.toNat))

/-- SAGR_RAISE (R572, R581): a software error with the payload of the writer's bank, recorded with SRC 0x41. -/
def execSagrRaise (a : Acc) (cls : Fin 4) (code : BitVec 16) (s : State) : Host.Outcome State Fault Refusal :=
  s.upd (fun d => d.wr 0x03 0x80C a (fun d =>
    if code.toNat < 0x8000 then d.errBlk 0x03 2 0
    else d.sagrReport d.now 0x41 cls code.toNat 0 ((List.range 8).flatMap (fun n => leBytes 4 (d.get F.SAGR_RPAY_PAY (8 * a.bank.val + n))))))

/-! ### The log (R565 to R570) -/

/-- The index that the next record takes: of the keep area while it is started and not full, else of the spill area. -/
def Dev.logIndex (d : Dev) : Nat :=
  if d.on F.SHRD_KEEP_ON 0 && !d.on F.SHRD_KEEP_FULL 0 then (d.var V.keepNext 0).toNat else (d.var V.spillNext 0).toNat

/-- An index is used: the next one follows; the keep area fills, the spill area wraps to 2,048. -/
def Dev.logNext (d : Dev) (rec_ : Bool) (seq : Nat) : Dev :=
  let d :=
    if d.on F.SHRD_KEEP_ON 0 && !d.on F.SHRD_KEEP_FULL 0 then
      let n := (d.var V.keepNext 0).toNat
      let d := if rec_ then (d.incSat F.SHRD_KEEP_COUNT 0).when (d.get F.SHRD_KEEP_COUNT 0 == 0) (fun a => a.set F.SHRD_KEEPSEQ_SEQ 0 seq) else d
      let d := d.setVar V.keepNext 0 (n + 1 : Nat)
      if n + 1 = 2048 then (d.set F.SHRD_KEEP_FULL 0 1).irq 0x04 2 else d
    else
      let n := (d.var V.spillNext 0).toNat
      d.setVar V.spillNext 0 (if n + 1 = 32768 then 2048 else (n + 1 : Nat))
  d.set F.SHRD_HEAD_NEXT 0 d.logIndex

/-- Writes a cell of the log. -/
def logPut (log : List (Nat × LogCell)) (i : Nat) (c : LogCell) : List (Nat × LogCell) :=
  match log with
  | [] => [(i, c)]
  | (j, x) :: t => if j = i then (i, c) :: t else (j, x) :: logPut t i c

/-- The record as it is written: with BOOT, and LOSS where records were lost before it. -/
def Dev.finish (d : Dev) (r : Record) : Record :=
  let f := if d.var V.shrdLoss 0 = 1 ∧ r.flags / 16 % 2 = 0 then r.flags + 16 else r.flags
  { r with boot := d.get F.SYS_RSTC_CNT 0, flags := f }

/-- RECORD_WRITE (R570): the oldest record of the intake is written at the next index and read back, with a second attempt. Where both fail the index is
left and the record waits for the next one. -/
def State.recordWrite (s : State) (ok1 ok2 : Bool) : State :=
  match s.dev.intake with
  | [] => s
  | r :: t =>
    let i := s.dev.logIndex
    let r := s.dev.finish r
    if ok1 || ok2 then
      let d := ({ s.dev with intake := t } : Dev).setVar V.shrdLoss 0 0
      let d := ((d.set F.SHRD_FIFO_LVL 0 t.length).set F.SHRD_HEADSEQ_SEQ 0 r.seq).logNext true r.seq
      { s with log := logPut s.log i (.held r), dev := (d.irq 0x04 0).cone 0x04 0x100 }
    else
      let d := ((s.dev.logNext false r.seq).incSat F.SHRD_BAD_CNT 0).set F.COM_STAT_FAULT 0x04 1
      { s with log := logPut s.log i (.left r), dev := (d.irq 0x04 3).errBlk 0x04 1 1 }

def execRecordWrite (ok1 ok2 : Bool) (s : State) : Host.Outcome State Fault Refusal := .next (s.recordWrite ok1 ok2)

/-! ### Commands in Management slots (R571, R572) -/

/-- The command slot: of the control plane, or of the data plane. -/
def Dev.shrdSlot (d : Dev) (ctl : Bool) : Nat := if ctl then 328 + d.get F.SHRD_CFG_CSLOT 0 else 344 + d.get F.SHRD_CFG_DSLOT 0

/-- What a command record is: 1 a well-formed LOG, 2 a well-formed READ, 0 neither. -/
def shrdKind (b : List Nat) : Nat :=
  if leAt b 8 1 = 1 ∧ leAt b 10 1 ≤ 3 ∧ leAt b 11 1 = 0 ∧ 0x8000 ≤ leAt b 12 2 ∧ leAt b 14 2 = 0 ∧ (b.drop 48).all (· == 0) then 1
  else if leAt b 8 1 = 2 ∧ leAt b 12 4 ≤ 32767 then 2
  else 0

/-- SHRD's reply, in the slot 8 lower. -/
def Dev.shrdReply (d : Dev) (ctl : Bool) (op tag st word : Nat) (rec_ : List Nat) : Dev :=
  d.clrPost (d.shrdSlot ctl - 8) 0x04 (leBytes 8 d.now.toNat ++ [op, tag, st, 0] ++ leBytes 4 word ++ rec_)

/-- A new command waits in the slot and the keeper is there to take it (R584). -/
def Dev.shrdReady (d : Dev) (ctl : Bool) : Bool := d.cmdNew (d.shrdSlot ctl) && d.var V.keeperUp 0 == 1

/-- SHRD_LOG (R571, R572): BUSY with a full intake; else the record takes the software's own time, and C1 to C3 enter Saggar. Class 3 from the data plane
is taken as 2. -/
def Dev.shrdLog (d : Dev) (ctl : Bool) : Dev :=
  let i := d.shrdSlot ctl
  let b := d.clrPub i
  if !d.shrdReady ctl || shrdKind b != 1 then d
  else
    let d := d.cmdTake i
    if 32 ≤ d.intake.length then d.shrdReply ctl 1 (leAt b 9 1) 1 0 []
    else
      let cls := if ctl then leAt b 10 1 else min 2 (leAt b 10 1)
      let src := if ctl then 0x41 else 0x42
      let pay := (b.drop 16).take 32
      let seq := d.nextSeq
      let d := if cls = 0 ∨ !d.ctlUp then d.shrdIntake (ofBits 64 (leAt b 0 8)) src (cls + 4) (leAt b 12 2) pay 0
        else d.sagrReport (ofBits 64 (leAt b 0 8)) src cls (leAt b 12 2) 0 pay
      d.shrdReply ctl 1 (leAt b 9 1) 0 seq []

def execShrdLog (ctl : Bool) (s : State) : Host.Outcome State Fault Refusal := s.upd (fun d => d.shrdLog ctl)

/-- SHRD_READ (R571): one record by its index. -/
def State.shrdRead (s : State) (ctl : Bool) : State :=
  let i := s.dev.shrdSlot ctl
  let b := s.dev.clrPub i
  if !s.dev.shrdReady ctl || shrdKind b != 2 then s
  else { s with dev := (s.dev.cmdTake i).shrdReply ctl 2 (leAt b 9 1) 0 (leAt b 12 4) (logBytes s.log (leAt b 12 4)) }

def execShrdRead (ctl : Bool) (s : State) : Host.Outcome State Fault Refusal := .next (s.shrdRead ctl)

/-- SHRD_BAD_COMMAND (R571): BADARG and BCODE 0x2. -/
def Dev.shrdBad (d : Dev) (ctl : Bool) : Dev :=
  let i := d.shrdSlot ctl
  let b := d.clrPub i
  if !d.shrdReady ctl || shrdKind b != 0 then d
  else ((d.cmdTake i).shrdReply ctl (leAt b 8 1) (leAt b 9 1) 2 (leAt b 12 4) []).errBlk 0x04 2 0

def execShrdBadCommand (ctl : Bool) (s : State) : Host.Outcome State Fault Refusal := s.upd (fun d => d.shrdBad ctl)

end Sys2Proof.Machine
end

