-- ==== Sys2Proof/Machine/Wheel.lean ====
section
/-! DEFINITION. WHL: sample instants, the order gate, the control law, outputs and stamps (spec/08_wheel_control_engine.md, R265 to R303). -/

namespace Sys2Proof.Machine

/-! ### Arithmetic (R270) -/

def sat32 (v : Int) : Int := clamp (-2147483648) 2147483647 v

def sat48 (v : Int) : Int := clamp (-(2 ^ 47 : Nat)) ((2 ^ 47 : Nat) - 1) v

def rnd16 (z : Int) : Int := (z + 32768) / 65536

/-- The value used of a raw value (R277). It needs up to 33 bits; a 32-bit register or record shows it saturated (log entry 18). -/
def puValue (raw scale offs : Int) : Int := sat32 (rnd16 (raw * scale)) + offs

/-! ### Loops, instants and destinations -/

/-- Grove time without steps (R267), 2^-16 ns: the count that link frames and sample instants follow. -/
def Dev.ctlTime (d : Dev) : Int := d.var V.grove 0 - d.var V.gridMove 0x20

/-- Effective PERIOD, in frames of 40 ns (R298). -/
def Dev.lpPeriod (d : Dev) (k : Nat) : Nat := max 500 (d.get F.WHL_LP_PERIOD_PERIOD k)

/-- A loop's EN takes effect: its next sample instant on its grid, and its states cleared (R266, R267, R298). The grid is the one of its own EN: it has moved
with the steps since that was written 1. -/
def Dev.lpStart (d : Dev) (k : Nat) : Dev :=
  let per : Int := d.lpPeriod k
  let f := (d.var V.grove 0 - (d.var V.gridMove 0x20 - d.var V.lpGrid k)) / (40 * 65536) + 1
  let next := f + (d.get F.WHL_LP_PHASE_PHASE k - f) % per
  let d := (d.setVar V.lpNext k (next * 40)).setVar V.lpFresh k 1
  let d := ((d.setI F.WHL_LP_I_I k 0).setVar V.lpD k 0).setVar V.lpRl k 0
  let d := d.each (List.range 4) (fun n a => a.setVar V.cmdSlot (4 * k + n) 0)
  ((((d.setVar V.lpTook k 0).setVar V.lpCnt k 0).setVar V.lpVok k 0).setVar V.confKey k (-1)).setVar V.lpDue k 0

/-- WHL_STAT.FAULT: a loop is in FBLOSS or DSTCONF (R296). -/
def Dev.whlFault (d : Dev) : Dev :=
  d.set F.COM_STAT_FAULT 0x20 (bit ((List.range 64).any (fun k => d.get F.WHL_LP_STAT_STATE k == 4 || d.get F.WHL_LP_STAT_STATE k == 5)))

/-- A loop leaves every state for OFF, and ends at its next sample instant (R284). -/
def Dev.lpStop (d : Dev) (k : Nat) : Dev :=
  (((d.set F.WHL_LP_STAT_STATE k 0).setVar V.lpDue k 0).setVar V.lpRel k (bit (decide (0 ≤ d.var V.lpNext k)))).whlFault

/-- A bit of WHL_OWN (R301): SOL channels from bit 0, LSW channels from bit 24. -/
def Dev.setOwn (d : Dev) (b : Nat) (v : Bool) : Dev :=
  let w := d.get F.WHL_OWN_OWN 0
  if tbit w b == v then d else d.set F.WHL_OWN_OWN 0 (if v then w + 2 ^ b else w - 2 ^ b)

/-- The loop's output reaches its SOL or LSW channel (R281). -/
def Dev.lpDrive (d : Dev) (k : Nat) (us : Int) : Dev :=
  let i := (d.var V.lpOwnI k).toNat
  match d.var V.lpOwnK k with
  | 1 => (d.setVar V.solWhl i (clamp 0 20000 us)).solSync i
  | 2 => (d.setVar V.lswWhl i (clamp 0 10000 us)).lswSync i
  | _ => d

/-- The loop writes its field into the mailbox and requests it, or counts CANSKIP (R281, R283, R408). -/
def Dev.lpMail (d : Dev) (k : Nat) (us : Int) : Dev :=
  let i := (d.var V.lpOwnI k).toNat
  let c := i / 256
  let b := i % 256
  if d.on F.BUF_CTRL_TXREQ i then d.incSat F.WHL_LP_CAN_CANSKIP k
  else
    let l := if d.on F.WHL_LP_DST_W32 k then leBytes 4 (toBits 32 us) else leBytes 2 (toBits 16 (clamp (-32768) 32767 us))
    (d.bufPut c b (d.get F.WHL_LP_DST_BYTE k) l).txRequest c b

/-- The loop releases its destination (R284). -/
def Dev.lpRelease (d : Dev) (k : Nat) : Dev :=
  let i := (d.var V.lpOwnI k).toNat
  let d := match d.var V.lpOwnK k with
    | 1 => ((d.setVar V.solOwn i 0).setOwn i false).solSync i
    | 2 => ((d.setVar V.lswOwn i 0).setOwn (24 + i) false).lswSync i
    | 3 => d.setVar V.canLoop i 0
    | _ => d
  d.setVar V.lpOwnK k 0

/-- SAFEOUT, signed. -/
def Dev.lpSafe (d : Dev) (k : Nat) : Int := d.getI F.WHL_LP_SAFEOUT_SAFEOUT.act k

/-- The end of a loop at its sample instant (R284). -/
def Dev.lpEnd (d : Dev) (k : Nat) : Dev :=
  if d.var V.lpRel k ≠ 1 then d else
  let d := if d.var V.lpOwnK k = 3 then d.lpMail k (d.lpSafe k) else d.lpDrive k (d.lpSafe k)
  (d.lpRelease k).setVar V.lpRel k 0

/-- The instant of a loop's next sample on the present scale (R267). -/
def Dev.lpAt (d : Dev) (k : Nat) : Int := d.var V.lpNext k * 65536 + (d.var V.gridMove 0x20 - d.var V.lpGrid k)

/-- The channel or mailbox that a loop's configuration names, as (KIND, number); none where it drives nothing (R281). A SOL or LSW channel above 23 drives
nothing (log entry 18). -/
def Dev.lpDst (d : Dev) (k : Nat) : Option (Nat × Nat) :=
  let id := d.get F.WHL_LP_DST_ID k
  match d.get F.WHL_LP_DST_KIND k with
  | 1 => if 23 < id then none else some (1, id)
  | 2 => if 23 < id then none else some (2, id)
  | 3 => some (3, bufIx (d.get F.WHL_LP_DST_CANCH k) id)
  | _ => none

/-- The loop that owns a destination, plus 1; 0 none. -/
def Dev.lpOwner (d : Dev) (x : Nat × Nat) : Nat :=
  (match x.1 with | 1 => d.var V.solOwn x.2 | 2 => d.var V.lswOwn x.2 | _ => d.var V.canLoop x.2).toNat

/-- Another loop that was enabled before this one and whose sample instant has come as well takes the destination first (R282). -/
def Dev.lpBefore (d : Dev) (k : Nat) (x : Nat × Nat) : Bool :=
  (List.range 64).any (fun j => j != k && d.on F.WHL_LP_CFG_EN j && d.var V.lpTook j == 0 && decide (0 ≤ d.var V.lpNext j) &&
    decide (d.lpAt j ≤ d.lpAt k) && decide (d.var V.lpEnSeq j < d.var V.lpEnSeq k) && d.lpDst j == some x)

/-- The loop takes its destination, or enters DSTCONF: where another enabled loop owns the destination, was enabled earlier and takes it at the same instant, or
where the CAN buffer is no privileged mailbox (R281, R282). A loop that is no longer enabled and has yet to release it ends here (log entry 57). -/
def Dev.lpTake (d : Dev) (k : Nat) : Dev :=
  let d := d.setVar V.lpTook k 1
  match d.lpDst k with
  | none => d
  | some x =>
    let o := d.lpOwner x
    let d := if o = 0 ∨ d.on F.WHL_LP_CFG_EN (o - 1) then d else d.lpEnd (o - 1)
    if d.lpOwner x ≠ 0 ∨ d.lpBefore k x ∨ (x.1 = 3 ∧ (!d.bufPriv (x.2 / 256) (x.2 % 256) || d.bufTaken (x.2 / 256) (x.2 % 256)) = true) then
      (((d.set F.WHL_LP_STAT_STATE k 5).irq 0x20 5).errBlk 0x20 3 1).whlFault
    else
      let d := (d.setVar V.lpOwnK k x.1).setVar V.lpOwnI k x.2
      match x.1 with
      | 1 => (d.setVar V.solOwn x.2 (k + 1)).setOwn x.2 true
      | 2 => (d.setVar V.lswOwn x.2 (k + 1)).setOwn (24 + x.2) true
      | _ => d.setVar V.canLoop x.2 (k + 1)

/-- What a frequency input reads, in 0.01 Hz (R643): 0 below 0.5 Hz, where no edge comes within 2 s, and 20 kHz above that. -/
def freqRead (v : Nat) : Nat := if v < 50 then 0 else min 2000000 v

/-- A latched input: an AIN or FREQ value from outside, or the measured current of a SOL channel without a fault (R277, R279). All of them lie on PSC1, and with its
link down none is valid. -/
def Dev.lpLatchIn (d : Dev) (k j kind id : Nat) (x : Option (BitVec 32)) : Dev :=
  let set := fun (v : Nat) (ok : Bool) => (d.setVar V.lpLat (8 * k + j) v).setVar V.lpLatOk (8 * k + j) (bit (ok && d.var V.pscDown 1 != 1))
  match kind with
  | 1 => match x with
    | some v => set (min 65535 v.toNat) (decide (id < 48))
    | none => set 0 false
  | 2 => match x with
    | some v => set (freqRead v.toNat) (decide (id < 48))
    | none => set 0 false
  | 3 => match x with
    | some v => (set (v.toNat % 65536) (decide (id < 24) && !d.on F.SOL_CH_STAT_FAULT id)).when (decide (id < 24)) (fun a =>
        a.solMeas id (min 65535 v.toNat))
    | none => set 0 false
  | _ => set 0 false

/-- The sample instant of a loop, once it has come (R266 to R268). In DSTCONF the loop has no evaluation, and its sample is its boundary (R64). -/
def Dev.lpSample (d : Dev) (k : Nat) (x : LoopIn) : Dev :=
  let t := d.var V.lpNext k
  let at_ := d.lpAt k
  if t < 0 ∨ d.var V.grove 0 < at_ then d
  else
    let d := d.lpEnd k
    if !(d.on F.WHL_LP_CFG_EN k && d.running 0x20) then d.setVar V.lpNext k (-1)
    else
      let d := d.setVar V.lpNext k (t + 40 * d.lpPeriod k)
      let d := if d.var V.lpTook k = 0 then d.lpTake k else d
      if d.get F.WHL_LP_STAT_STATE k = 5 then d.boundary 0x20 k
      else
        let d := d.lpLatchIn k 0 (d.get F.WHL_LP_FB_CFG_KIND k) (d.get F.WHL_LP_FB_CFG_ID k) x.fb
        let pk := fun (a : Dev) (n : Nat) => let c := a.get F.PORT_CFG_KIND (4 * k + n); if c = 1 ∨ c = 2 then c else 0
        let d := d.lpLatchIn k 1 (pk d 0) (d.get F.PORT_CFG_ID (4 * k)) x.p0
        let d := d.lpLatchIn k 2 (pk d 1) (d.get F.PORT_CFG_ID (4 * k + 1)) x.p1
        let d := d.lpLatchIn k 3 (pk d 2) (d.get F.PORT_CFG_ID (4 * k + 2)) x.p2
        let d := d.lpLatchIn k 4 (pk d 3) (d.get F.PORT_CFG_ID (4 * k + 3)) x.p3
        let ix := fun (c : Nat) => if c = 1 ∨ c = 2 then c else 0
        let d := d.lpLatchIn k 5 (ix (d.get F.WHL_LP_FRIX_CFG_SRC k)) (d.get F.WHL_LP_FRIX_CFG_CH k) x.fri
        let d := d.lpLatchIn k 6 (ix (d.get F.WHL_LP_COGX_CFG_SRC k)) (d.get F.WHL_LP_COGX_CFG_CH k) x.cog
        let d := ((d.setVar V.lpLatch k at_).setVar V.lpLatchT k (at_ - d.var V.gridMove 0x20)).setVar V.lpDue k 1
        let l := k / 32
        d.setVar V.laneQ l (((List.range 32).countP (fun j => d.var V.lpDue (32 * l + j) == 1) : Nat) : Int)

/-- LOOP_SAMPLE (R266 to R268, R282, R284). -/
def execLoopSample (k : Fin 64) (x : LoopIn) (s : State) : Host.Outcome State Fault Refusal := s.upd (fun d => d.lpSample k x)

/-! ### Sources -/

/-- WHL reads a CAN receive buffer by the NDAT rule (R410): with NDAT 0 there is nothing to read; else NDAT is cleared, and WHL's copy is the payload with the
instant of its reception. No frame is stored during the copy, which is one step here. -/
def Dev.canRead (d : Dev) (c b : Nat) : Dev :=
  let i := bufIx c b
  if d.on F.BUF_CTRL_NDAT i then
    ((d.setNdat c b false).setBlob 41 i (d.bufData c b (d.bufLen c b))).setVar V.canCopyAt i (d.var V.canRx i)
  else d

/-- The field of the latest frame that WHL has read from a CAN receive buffer (R277, R410): none where it extends past the payload, or the source is not
fresh. -/
def Dev.canField (d : Dev) (c b byte : Nat) (w32 : Bool) (msgt : Nat) : Dev × Option Int :=
  let n := if w32 then 4 else 2
  if d.bufDir c b ≠ 1 then (d, none)
  else
    let d := d.canRead c b
    let l := d.blob 41 (bufIx c b)
    (d, if d.passed V.canCopyAt (bufIx c b) (msgt * 1000000) ∨ l.length < byte + n then none
        else some (ofBits (8 * n) (ofLe ((l.drop byte).take n))))

/-- A Command slot is withdrawn by the guard. -/
def Dev.cmdGuarded (d : Dev) (slot : Nat) : Bool := d.var V.whlGuard 0 == 1 && tbit (d.get F.WHL_GUARD_MASK 0) slot

/-- The value at bytes 8 to 11 of a Command slot. -/
def Dev.cmdWord (d : Dev) (slot : Nat) : Int := ofBits 32 (leAt (d.clrPub slot) 8 4)

/-- The order that a port presents at a sample. `cmd`: it is the present value of this Command slot, plus 1. -/
structure Order where
  rank : Nat
  port : Nat
  v : Int
  held : Bool
  cmd : Nat
  deriving DecidableEq, Repr

/-- Rank and kind that a port may combine (R288). Port kinds: 0 REG, 1 AIN, 2 FREQ, 4 CMD, 5 CAN. -/
def portOk (rank kind : Nat) : Bool :=
  match rank with
  | 1 => kind == 0 || kind == 1 || kind == 2 || kind == 4 || kind == 5
  | 3 => kind == 0
  | 4 => kind == 4
  | 5 => kind == 4 || kind == 5
  | 6 => kind == 4
  | _ => false

/-- Raw value of a port at a sample, with HELD, WDRN and GUARDED (R277, R289). A stale Command slot has one only where the gate has accepted and applied an order of
that slot on this port since the loop started (R35). -/
def Dev.portRaw (d : Dev) (k n : Nat) : Dev × Option Int × Bool × Bool × Bool :=
  let p := 4 * k + n
  let id := d.get F.PORT_CFG_ID p
  match d.get F.PORT_CFG_KIND p with
  | 0 => (d, some (d.getI F.PORT_VAL_VAL p), false, false, false)
  | 4 =>
    if 63 < id then (d, none, false, false, false)
    else if d.on F.CLR_HDR_WDRN id then (d, none, false, true, false)
    else if d.cmdGuarded id then (d, none, false, false, true)
    else if d.on F.CLR_HDR_STALE id then (d, if d.var V.cmdSlot p = id + 1 then some (d.cmdWord id) else none, true, false, false)
    else (d, some (d.cmdWord id), false, false, false)
  | 5 =>
    let (d, v) := d.canField (d.get F.PORT_CFG_CANCH p) id (d.get F.PORT_CFG_BYTE p) (d.on F.PORT_CFG_W32 p)
      (max 1 (min 1000 (d.get F.PORT_MSGT_MSGT.act p)))
    (d, v, false, false, false)
  | _ => (d, if d.var V.lpLatOk (8 * k + 1 + n) = 1 then some (d.var V.lpLat (8 * k + 1 + n)) else none, false, false, false)

/-- A port at a sample: its order, PORT_STAT, and the last value of a port of another kind than REG (R289, R299). -/
def Dev.portEval (d : Dev) (k n : Nat) : Dev × Option Order :=
  let p := 4 * k + n
  let rank := d.get F.PORT_CFG_RANK p
  let stat := fun (a : Dev) (pres held wdrn guarded lapsed : Bool) =>
    ((((a.set F.PORT_STAT_PRES p (bit pres)).set F.PORT_STAT_HELD p (bit held)).set F.PORT_STAT_WDRN p (bit wdrn)).set F.PORT_STAT_GUARDED p
      (bit guarded)).set F.PORT_STAT_LAPSED p (bit lapsed)
  if !(d.on F.PORT_CFG_EN p && portOk rank (d.get F.PORT_CFG_KIND p)) then (stat d false false false false false, none)
  else
    let (d, raw, held, wdrn, guarded) := d.portRaw k n
    match raw with
    | none => (stat d false false wdrn guarded true, none)
    | some r =>
      let v := if held then d.var V.cmdV p else puValue r (d.getI F.PORT_SCALE_SCALE.act p) (d.getI F.PORT_OFFS_OFFS.act p)
      let d := if d.get F.PORT_CFG_KIND p = 0 then d else d.setI F.PORT_VAL_VAL p (sat32 v)
      let pres := d.get F.PORT_DB_DB.act p = 0 ∨ (d.get F.PORT_DB_DB.act p : Int) < |v - d.getI F.PORT_NEUT_NEUT.act p|
      (stat d (decide pres) held false false false, if pres then some ⟨rank, n, v, held, if d.get F.PORT_CFG_KIND p = 4 ∧ !held then d.get F.PORT_CFG_ID p + 1 else 0⟩ else none)

/-- Whether a Firebreak group demands its safe state (R291). A group with EN 0 is not evaluated and demands nothing while FBRK runs. -/
def Dev.groupDemands (d : Dev) (g : Nat) : Bool :=
  if d.var V.kilnK5 0 = 1 then true
  else if d.running 0x24 then d.on F.FBRK_GRP_CFG_EN g && d.get F.FBRK_GRP_STAT_STATE g != 0
  else if d.var V.fbrkRan 0 = 0 then true
  else tbit (d.var V.fbrkKept 0).toNat g

/-- The better of two orders (R290): higher rank, nearer SAFESP, lower port. -/
def orderBefore (safesp : Int) (a b : Order) : Bool :=
  if a.rank ≠ b.rank then decide (a.rank < b.rank)
  else if |a.v - safesp| ≠ |b.v - safesp| then decide (|a.v - safesp| < |b.v - safesp|)
  else decide (a.port < b.port)

/-- The winner among the candidates (R290). -/
def orderWin (safesp : Int) (l : List Order) : Option Order :=
  l.foldl (fun w o => match w with
    | none => some o
    | some x => if orderBefore safesp o x then some o else some x) none

/-- External feed-forward: its value and XWDRN (R280). It is read at each commit, so its last accepted value is that of the last commit, which the slot's published
buffer holds while it is stale. -/
def Dev.ffxRead (d : Dev) (k : Nat) : Int × Bool :=
  let slot := d.get F.WHL_LP_FFX_SLOT k
  if !d.on F.WHL_LP_FFX_EN k then (0, false)
  else if d.on F.CLR_HDR_WDRN slot || d.cmdGuarded slot then (0, true)
  else (d.cmdWord slot, false)

/-- The feedback: validity and y (R277, R279). -/
def Dev.feedback (d : Dev) (k : Nat) : Dev × Option Int :=
  let sc := fun (a : Dev) (raw : Int) => puValue raw (a.getI F.WHL_LP_FB_SCALE_SCALE.act k) (a.getI F.WHL_LP_FB_OFFS_OFFS.act k)
  let kind := d.get F.WHL_LP_FB_CFG_KIND k
  if kind = 0 then (d, some 0)
  else if kind ≤ 3 then (d, if d.var V.lpLatOk (8 * k) = 1 then some (sc d (d.var V.lpLat (8 * k))) else none)
  else if kind = 4 then
    let (d, v) := d.canField (d.get F.WHL_LP_FB_CFG_CANCH k) (d.get F.WHL_LP_FB_CFG_ID k) (d.get F.WHL_LP_FB_CFG_BYTE k)
      (d.on F.WHL_LP_FB_CFG_W32 k) Config.fbMsgt
    (d, v.map (fun r => sc d r))
  else (d, none)

/-! ### The law -/

/-- The coefficients of a bank (R269, R298). -/
structure Coef where
  kp : Int
  ki : Int
  kd : Int
  kb : Int
  kff : Int
  kx : Int
  df : Int
  rlim : Int
  umin : Int
  umax : Int
  deriving DecidableEq, Repr

def Dev.coef (d : Dev) (k b : Nat) : Coef :=
  let i := 2 * k + b
  ⟨d.getI F.BANK_KP_V i, d.getI F.BANK_KI_V i, d.getI F.BANK_KD_V i, d.getI F.BANK_KB_V i, d.getI F.BANK_KFF_V i, d.getI F.BANK_KX_V i,
   d.get F.BANK_DF_V i, d.get F.BANK_RLIM_V i, d.getI F.BANK_UMIN_V i, d.getI F.BANK_UMAX_V i⟩

/-- us: u limited by UMAX, then by UMIN (R270). -/
def Coef.limit (c : Coef) (u : Int) : Int := max (min u c.umax) c.umin

/-- A table term (R272): `p` is the source value. Table 5 is friction, 6 cogging. -/
def Dev.tableTerm (d : Dev) (k : Nat) (cog : Bool) (p : Int) : Int :=
  let offs := if cog then d.getI F.WHL_LP_COGX_OFFS_OFFS.act k else d.getI F.WHL_LP_FRIX_OFFS_OFFS.act k
  let scale := if cog then d.getI F.WHL_LP_COGX_SCALE_SCALE.act k else d.getI F.WHL_LP_FRIX_SCALE_SCALE.act k
  let tab := fun (i : Nat) => if cog then d.getI F.WHL_COG_VAL (1024 * k + i) else d.getI F.WHL_FRI_VAL (1024 * k + i)
  let idx := (p - offs) * scale
  let n := idx / 65536
  let f := idx % 65536
  let blend := fun (a b : Int) => a + rnd16 ((b - a) * f)
  if cog then blend (tab (n % 1024).toNat) (tab ((n + 1) % 1024).toNat)
  else if idx < 0 then tab 0
  else if 1023 ≤ n then tab 1023
  else blend (tab n.toNat) (tab (n.toNat + 1))

/-- Source value of a table index (R272, R298); a latched source with a fault gives none. -/
def Dev.tableSrc (d : Dev) (k j src : Nat) (y : Int) : Option Int :=
  if src = 1 ∨ src = 2 then (if d.var V.lpLatOk (8 * k + j) = 1 then some (d.var V.lpLat (8 * k + j)) else none) else some y

/-- The friction term and the cogging term of a sample (R272). `dr`: the change of r since the previous sample, 0 at a fresh start. -/
def Dev.fricCog (d : Dev) (k : Nat) (y dr : Int) : Int × Int :=
  let term := fun (cog : Bool) (j src : Nat) => match d.tableSrc k j src y with
    | some p => d.tableTerm k cog p
    | none => 0
  let fr := if d.on F.WHL_LP_CFG_FRON k then term false 5 (d.get F.WHL_LP_FRIX_CFG_SRC k) else 0
  let fr := if d.on F.WHL_LP_CFG_FRSGN k then fr * Int.sign dr else fr
  (fr, if d.on F.WHL_LP_CFG_COGON k then term true 6 (d.get F.WHL_LP_COGX_CFG_SRC k) else 0)

/-- Sums of the law before rounding (R270): P, I1, D and F. -/
def lawSums (c : Coef) (i dd e dx r x fr cog : Int) : Int × Int × Int × Int :=
  (c.kp * e, sat48 (i + c.ki * e), sat48 (dd + rnd16 (c.df * (c.kd * dx - dd))), c.kff * r + c.kx * x + fr + cog)

/-- A sample of the law (R270, R276): u, us, and the new I and D. `old`: the bank left by a bumpless swap. -/
def lawStep (c : Coef) (old : Option Coef) (i dd e dx r x fr cog : Int) : Int × Int × Int × Int :=
  let i := match old with
    | none => i
    | some o =>
      let (p0, i0, d0, f0) := lawSums o i dd e dx r x fr cog
      let (p1, i1, d1, f1) := lawSums c i dd e dx r x fr cog
      sat48 (i + (p0 + i0 + d0 + f0) - (p1 + i1 + d1 + f1))
  let (p, i1, d1, f) := lawSums c i dd e dx r x fr cog
  let u := sat32 (rnd16 (p + i1 + d1 + f))
  let us := c.limit u
  (u, us, sat48 (i1 + c.kb * (us - u)), d1)

/-! ### Conflicts (R293) -/

/-- The candidates that conflict with the winner, best first. -/
def conflictsOf (safesp confth : Int) (w : Order) (l : List Order) : List Order :=
  (l.filter (fun o => o != w && decide (confth < |o.v - w.v|))).mergeSort (fun a b => orderBefore safesp a b)

/-- The conflict of a sample is reported, suppressed, or as before. -/
def Dev.conflict (d : Dev) (k : Nat) (w : Order) (l : List Order) : Dev :=
  let cs := conflictsOf (d.getI F.WHL_LP_SAFESP_SAFESP.act k) (d.getI F.WHL_LP_CONFTH_CONFTH.act k) w l
  match cs with
  | [] => d.setVar V.confKey k (-1)
  | x :: t =>
    let wb := w.port % 8 + w.rank * 16
    let xb := x.port % 8 + x.rank * 16
    let key : Int := (wb * 256 + xb : Nat)
    if d.var V.confKey k = key then d
    else
      let d := d.setVar V.confKey k key
      if !d.passed V.confAt k 10000000 then (d.incSat F.WHL_LP_CONF_SUPP k).setVar V.confSup k (d.var V.confSup k + 1)
      else
        let pay := [k, wb, xb, min 255 t.length] ++ leBytes 4 (toBits 32 (sat32 w.v)) ++ leBytes 4 (toBits 32 (sat32 x.v)) ++
          leBytes 8 (toBits 64 (d.var V.lpLatch k / 65536)) ++ leBytes 4 (d.var V.confSup k).toNat
        let d := (d.report 0x20 0 0x0208 (d.errWord 0x20) (padTo 32 pay)).irq 0x20 0
        (((d.mark V.confAt k).setVar V.confSup k 0).incSat F.WHL_LP_CONF_CNT k).cone 0x20 0x102

/-! ### Evaluation -/

/-- STATE of a loop takes a value, with the events of an entry (R279, R302). -/
def Dev.lpState (d : Dev) (k st : Nat) : Dev :=
  if d.get F.WHL_LP_STAT_STATE k = st then d
  else
    let d := (d.set F.WHL_LP_STAT_STATE k st).whlFault
    match st with
    | 2 => d.irq 0x20 3
    | 3 => d.irq 0x20 2
    | 4 => (d.irq 0x20 1).errBlk 0x20 6 1
    | 6 => d.irq 0x20 8
    | _ => d

/-- Stamps, the largest delay, and the publication of a sample (R287). `o`: the instant without steps at which the output took effect. -/
def Dev.lpStamp (d : Dev) (k : Nat) (o : Int) : Dev :=
  let latch := d.var V.lpLatch k / 65536
  let dly := (o - d.var V.lpLatchT k) / 65536
  let os := latch + dly
  let d := (d.setI F.WHL_LP_LATCH_T k latch).setI F.WHL_LP_OSTAMP_T k os
  let d := (d.set F.WHL_LP_DLY_DLY k (min dly.toNat 65535)).set F.WHL_LP_DLY_DMAX k (max (d.get F.WHL_LP_DLY_DMAX k) (min dly.toNat 65535))
  let div := max 1 (d.get F.WHL_LP_PUB_DIV k)
  let slot := d.get F.WHL_LP_PUB_SLOT k
  if d.on F.WHL_LP_PUB_EN k && decide (64 ≤ slot) && decide (slot ≤ 319) && d.var V.lpCnt k % div == 0 then
    let l := leBytes 8 (toBits 64 latch) ++ leBytes 8 (toBits 64 os) ++ leBytes 4 (d.get F.WHL_LP_R_VAL k) ++
      leBytes 4 (d.get F.WHL_LP_Y_VAL k) ++ leBytes 4 (d.get F.WHL_LP_U_VAL k) ++ leBytes 4 (d.get F.WHL_LP_X_VAL k) ++
      [d.get F.WHL_LP_STAT_WPORT k + 16 * d.get F.WHL_LP_STAT_WRANK k, d.get F.WHL_LP_STAT_STATE k, (d.var V.lpFlags k).toNat,
       min 255 (d.var V.lpQ k).toNat]
    d.clrPost slot 0x20 l
  else d

/-- Lane time of an evaluation (R265, R285, R286): it starts 40 ns after the sample or when the lane is free. -/
def Dev.laneServe (d : Dev) (k cost : Nat) : Dev × Int :=
  let l := k / 32
  let arrive := d.var V.lpLatchT k + 40 * 65536
  let start := max arrive (d.var V.laneFree l)
  let q := (start - arrive + 60 * 65536 - 1) / (60 * 65536)
  let fin := start + (60 * cost : Nat) * 65536
  let d := ((d.setVar V.laneFree l fin).setVar V.lpQ k q).setVar V.lpDue k 0
  let d := d.setVar V.laneQ l (d.var V.laneQ l - 1)
  let qm := if l = 0 then F.WHL_LANE_QMAX0 else F.WHL_LANE_QMAX1
  let d := d.set qm 0 (max (d.get qm 0) (min 255 q.toNat))
  let d := d.setPast 25 l ((start, fin) :: (d.past 25 l).filter (fun e => decide (start - 65536000000 < e.2)))
  (d.cone 0x20 (0x100 + l) cost, fin)

/-- The CTL cycle of 1.25 ns in which a sample of an instant without steps reaches its lane, 40 ns after it (R265, R285). -/
def arriveCycle (latch : Int) : Int := (latch + 40 * 65536) / 81920

/-- The sample of a loop that its lane has yet to serve, by its instant without steps: one that is latched, or the next. -/
def Dev.laneAt (d : Dev) (m : Nat) : Option Int :=
  if d.var V.lpDue m = 1 then some (d.var V.lpLatchT m)
  else if 0 ≤ d.var V.lpNext m ∧ d.on F.WHL_LP_CFG_EN m ∧ d.running 0x20 ∧ d.get F.WHL_LP_STAT_STATE m ≠ 5 then
    some (d.lpAt m - d.var V.gridMove 0x20)
  else none

/-- Whether a loop is the next that its lane serves (R265): the sample of the earliest CTL cycle, then of the lowest loop; it has reached the lane, and
the lane is free. -/
def Dev.laneNext (d : Dev) (k : Nat) : Bool :=
  let c := arriveCycle (d.var V.lpLatchT k)
  d.var V.lpDue k == 1 && decide (d.var V.lpLatchT k + 40 * 65536 ≤ d.ctlTime) && decide (d.var V.laneFree (k / 32) ≤ d.ctlTime) &&
    (List.range 32).all (fun j =>
      let m := 32 * (k / 32) + j
      match d.laneAt m with
      | none => true
      | some t => decide (c < arriveCycle t) || (c == arriveCycle t && decide (k ≤ m)))

/-- The state that a sample puts a loop into (R279, R290 to R292, R303). -/
def Dev.lpNew (d : Dev) (k : Nat) (y : Option Int) (w : Option Order) : Nat :=
  if d.get F.PWR_MODE_MODE 0 == 3 && d.on F.WHL_LP_CFG_ROADBAR k then 6
  else match w with
    | none => 2
    | some o => if o.port = 4 then 3 else if y.isNone then 4 else 1

/-- A winning CMD order is accepted and applied (R35, R289): its port holds the value for the time when its slot is stale. -/
def Dev.cmdKeep (d : Dev) (k : Nat) (w : Option Order) : Dev :=
  match w with
  | some o => if o.cmd = 0 then d else (d.setVar V.cmdV (4 * k + o.port) o.v).setVar V.cmdSlot (4 * k + o.port) o.cmd
  | none => d

/-- A pending apply that covers a loop copies its shadows at the evaluation's start, before the evaluation (R64, R297). -/
def Dev.lpApplyDue (d : Dev) (k : Nat) : Bool := d.on F.COM_APPLY_PEND 0x20 && tbit (d.var V.applyDue 0x20).toNat k

/-- One evaluation (R270 to R293). In IDLE with IDLEMODE 1 the law runs while the feedback is valid; without it the loop puts out SAFEOUT as in IDLEMODE 0, for the
law has no y (log entry 18). -/
def Dev.lpEval (d : Dev) (k : Nat) : Dev :=
  if !d.laneNext k || d.lpApplyDue k then d
  else
    let d := d.whlGuardStep
    let prev := d.get F.WHL_LP_STAT_STATE k
    let (d, yo) := d.feedback k
    let y := yo.getD 0
    let (x, xw) := d.ffxRead k
    let (d, o0) := d.portEval k 0
    let (d, o1) := d.portEval k 1
    let (d, o2) := d.portEval k 2
    let (d, o3) := d.portEval k 3
    let safesp := d.getI F.WHL_LP_SAFESP_SAFESP.act k
    let fb := (List.range 8).any (fun j => tbit (d.get F.WHL_LP_CFG_FBMASK k) j && d.groupDemands j)
    let cands := o0.toList ++ o1.toList ++ o2.toList ++ o3.toList ++ (if fb then [⟨2, 4, safesp, false, 0⟩] else [])
    let w := orderWin safesp cands
    let st := d.lpNew k yo w
    let swap := d.on F.WHL_LP_STAT_PEND k
    let bOld := d.get F.WHL_LP_STAT_ACT k
    let d := if swap then (((d.set F.WHL_LP_STAT_ACT k (1 - bOld)).set F.WHL_LP_STAT_PEND k 0).irq 0x20 4).cone 0x20 0x103 else d
    let c := d.coef k (d.get F.WHL_LP_STAT_ACT k)
    let direct := d.get F.WHL_LP_CFG_MODE k == 1
    let idles := st == 2 && d.on F.WHL_LP_CFG_IDLEMODE k && d.var V.lpVok k == 1
    let runs := st == 1 || (idles && yo.isSome)
    let bump := swap && d.on F.WHL_LP_CFG_ISWAP k && runs && !direct
    let (d, fin) := d.laneServe k (if bump then 2 else 1)
    let (d, u, us) :=
      if runs then
        let v := if st = 1 then (w.map (fun o => o.v)).getD 0 else d.var V.lpV k
        let d := (d.setVar V.lpV k v).setVar V.lpVok k 1
        let restart := d.var V.lpFresh k == 1 || (prev != 1 && !(prev == 2 && st == 2))
        let first := d.var V.lpFresh k == 1 || (prev != 1 && (st == 1 || prev != 2))
        let rl := if restart then (if d.get F.WHL_LP_FB_CFG_KIND k = 0 then v else y) * 65536 else d.var V.lpRl k
        let rl := if c.rlim = 0 then v * 65536 else rl + clamp (-c.rlim) c.rlim (v * 65536 - rl)
        let r := rnd16 rl
        let dr := if restart then 0 else r - rnd16 (d.var V.lpRl k)
        let d := (((d.setVar V.lpRl k rl).setI F.WHL_LP_R_VAL k (sat32 r)).setVar V.lpFresh k 0).cmdKeep k w
        if direct then (d, r, c.limit r)
        else
          let e := sat32 (r - y)
          let ep := if first then 0 else d.var V.lpE k
          let yp := if first then y else d.var V.lpY k
          let dx := if d.on F.WHL_LP_CFG_DMODE k then sat32 (yp - y) else sat32 (e - ep)
          let (fr, cog) := d.fricCog k y dr
          let (u, us, i, dd) := lawStep c (if bump then some (d.coef k bOld) else none) (d.getI F.WHL_LP_I_I k) (d.var V.lpD k) e dx r x fr cog
          ((((d.setI F.WHL_LP_I_I k i).setVar V.lpD k dd).setVar V.lpE k e).setVar V.lpY k y, u, us)
      else (((d.setI F.WHL_LP_I_I k 0).setVar V.lpD k 0).when idles (fun a => a.setVar V.lpFresh k 1), d.lpSafe k, d.lpSafe k)
    let d := d.lpState k st
    let d := match w with
      | some o => d.conflict k o cands
      | none => d.setVar V.confKey k (-1)
    let conf := d.var V.confKey k != -1
    let d := (d.set F.WHL_LP_STAT_WPORT k ((w.map (fun o => o.port)).getD 7)).set F.WHL_LP_STAT_WRANK k ((w.map (fun o => o.rank)).getD 0)
    let held := (w.map (fun o => o.held)).getD false
    let fl := bit (us != u) + 2 * bit conf + 4 * bit held + 8 * bit xw + 16 * d.get F.WHL_LP_STAT_ACT k
    let d := (((d.set F.WHL_LP_STAT_SAT k (bit (us != u))).set F.WHL_LP_STAT_CONFLICT k (bit conf)).set F.WHL_LP_STAT_XWDRN k (bit xw)).setVar
      V.lpFlags k fl
    let d := ((d.setI F.WHL_LP_U_VAL k us).setI F.WHL_LP_X_VAL k x).setVar V.lpCnt k (d.var V.lpCnt k + 1)
    let d := if yo.isSome then d.setI F.WHL_LP_Y_VAL k (sat32 y) else d
    if d.var V.lpOwnK k == (3 : Int) then
      let d := if d.var V.lpCnt k % ((max 1 (d.get F.WHL_LP_DST2_CANDIV k) : Nat) : Int) == (0 : Int) then d.lpMail k us else d
      (d.lpStamp k (fin + (d.freeVal % 31 : Nat) * 65536)).useFree
    else
      -- the next downstream frame at or after the end; an end on a frame's start makes it or misses it (R285, R286)
      let rel := fin - d.var V.lpLatchT k - 20 * 65536
      let up := -((-rel) / (40 * 65536))
      let late := if rel % (40 * 65536) = 0 then d.freeVal % 2 else 0
      ((d.setVar V.lpOut k 1).setVar V.lpOutT k (d.var V.lpLatchT k + (80 + 40 * (up + (late : Int))) * 65536)).useFree

/-- LOOP_EVALUATE (R265, R270). -/
def execLoopEvaluate (k : Fin 64) (s : State) : Host.Outcome State Fault Refusal := s.upd (fun d => d.lpEval k)

/-- OUTPUT_APPLY (R281, R285, R287): the PSC applies the output and the sample is stamped. -/
def Dev.lpApply (d : Dev) (k : Nat) : Dev :=
  if d.var V.lpOut k == 1 && decide (d.var V.lpOutT k ≤ d.ctlTime) then
    let d := d.setVar V.lpOut k 0
    (d.lpDrive k (d.getI F.WHL_LP_U_VAL k)).lpStamp k (d.var V.lpOutT k)
  else d

def execOutputApply (k : Fin 64) (s : State) : Host.Outcome State Fault Refusal := s.upd (fun d => d.lpApply k)

/-! ### Register commands -/

/-- LOOP_ENABLE (R267, R282, R284, R298): the loop's grid is fixed, and its place in the order of enabling. A release that still waits comes at the loop's next
sample instant, before it takes its destination anew. -/
def execLoopEnable (a : Acc) (s : State) : Host.Outcome State Fault Refusal :=
  s.upd (fun d => d.wrCh 0x20 0x100 a (fun k d =>
    if d.on F.WHL_LP_CFG_EN k then d
    else
      let d := ((((d.set F.WHL_LP_CFG_EN k 1).setVar V.lpGrid k (d.var V.gridMove 0x20)).setVar V.lpEnSeq k (d.var V.enSeq 0)).setVar V.enSeq 0
        (d.var V.enSeq 0 + 1))
      if d.running 0x20 then d.lpStart k else d) (fun k d => d.changes F.WHL_LP_CFG_EN k 1))

/-- LOOP_DISABLE (R284). -/
def execLoopDisable (a : Acc) (s : State) : Host.Outcome State Fault Refusal :=
  s.upd (fun d => d.wrCh 0x20 0x100 a (fun k d => if d.on F.WHL_LP_CFG_EN k then (d.set F.WHL_LP_CFG_EN k 0).lpStop k else d) (fun k d => d.changes F.WHL_LP_CFG_EN k 0))

/-- COEFF_SWAP (R275). -/
def execCoeffSwap (a : Acc) (s : State) : Host.Outcome State Fault Refusal :=
  s.upd (fun d => d.wrCh 0x20 0x33C a (fun k d => d.set F.WHL_LP_STAT_PEND k 1))

/-- SWAP_MASK_WRITE (R275, R301): a request for every loop of the mask. -/
def execSwapMaskWrite (a : Acc) (m : BitVec 64) (s : State) : Host.Outcome State Fault Refusal :=
  s.upd (fun d => d.wr 0x20 0x814 a (fun d => d.each ((List.range 64).filter (fun k => tbit m.toNat k)) (fun k e => e.set F.WHL_LP_STAT_PEND k 1)))

/-- LOOP_CLEAR_STATS (R298). -/
def execLoopClearStats (a : Acc) (s : State) : Host.Outcome State Fault Refusal :=
  s.upd (fun d => d.wrCh 0x20 0x33C a (fun k d =>
    ((((d.set F.WHL_LP_DLY_DMAX k 0).set F.WHL_LP_CONF_SUPP k 0).set F.WHL_LP_CONF_CNT k 0).set F.WHL_LP_CAN_CANFAIL k 0).set
      F.WHL_LP_CAN_CANSKIP k 0))

/-- LANE_CLEAR (R301). -/
def execLaneClear (a : Acc) (s : State) : Host.Outcome State Fault Refusal :=
  s.upd (fun d => d.wr 0x20 0x824 a (fun d => (d.set F.WHL_LANE_QMAX0 0 0).set F.WHL_LANE_QMAX1 0 0))

/-- TABLE_ENTRY_WRITE (R273, R300): an entry of the selected loop's friction or cogging table. -/
def execTableEntryWrite (a : Acc) (cog : Bool) (i : Fin 1024) (v : BitVec 32) (s : State) : Host.Outcome State Fault Refusal :=
  s.upd (fun d => d.wrCh 0x20 ((if cog then 0x2000 else 0x1000) + 4 * i.val) a (fun k d =>
    d.set (if cog then F.WHL_COG_VAL else F.WHL_FRI_VAL) (1024 * k + i) v.toNat)
    (fun k d => d.changes (if cog then F.WHL_COG_VAL else F.WHL_FRI_VAL) (1024 * k + i) v.toNat))

/-- PORT_ENABLE (R288, R299): EN of a port takes the value; a rank and kind that do not go together are reported with BCODE 0x4. -/
def execPortEnable (a : Acc) (n : Fin 4) (en : Bool) (s : State) : Host.Outcome State Fault Refusal :=
  s.upd (fun d => d.wrCh 0x20 (0x200 + 0x20 * n.val) a (fun k d =>
    let p := 4 * k + n
    let d := d.set F.PORT_CFG_EN p (bit en)
    if en && !portOk (d.get F.PORT_CFG_RANK p) (d.get F.PORT_CFG_KIND p) then d.errBlk 0x20 4 0 else d)
    (fun k d => d.changes F.PORT_CFG_EN (4 * k + n) (bit en)))

end Sys2Proof.Machine
end

