-- ==== Sys2Proof/Machine/Resets.lean ====
section
/-! DEFINITION. What a reset of a plane or of a block takes away and what it leaves (spec/02_register_conventions.md, R72, R73, and the tables
"Resets and modes" of the chapters). -/

namespace Sys2Proof.Machine

/-! ### Which block an entry of the stores belongs to -/

/-- The block of a register field's entry. -/
def regSlot (k : Nat × Nat) : Nat :=
  let s := k.1 / 4194304
  let off := k.1 % 4194304 / 64
  if s = 0xA8 then 0x28
  else if s = 0x80 then (if off = 0x80 then k.2 / 16 else if 0x30 ≤ off ∧ off < 0x80 then k.2 / 4 else k.2)
  else if 0x40 ≤ s then s - 0x40 else s

/-- The block of a variable's entry. -/
def varSlot (k : Nat × Nat) : Nat :=
  let s := k.1 / 1000
  if s = 28 then 0x28 else if s = 12 then (if k.1 < 12005 then k.2 / 16 else if k.1 = 12009 then k.2 / 1024 else k.2) else s

/-- The block of a byte string: 2 to 4, 8, 9, 40 and 44 belong to ETH, 5 to 7, 46 and 47 to RIDE, 20 to CONE, 30 to MON, 41 to WHL, 42 to BUS, 43 to DMA, 50 and 51 to GNTK, 45
to the UFS device, the others to UPD. -/
def blobSlot (n : Nat) : Nat := if n = 20 then 0x06 else if n = 30 then 0x31 else if 5 ≤ n ∧ n ≤ 7 then 0x2B else if n = 41 then 0x20 else if n = 42 then 0x28 else if n = 46 ∨ n = 47 then 0x2B else if n = 43 then 0x0A else if n = 8 ∨ n = 9 ∨ n = 40 ∨ n = 44 ∨ (2 ≤ n ∧ n ≤ 4) then 0x2A else if n = 50 ∨ n = 51 then 0x12 else 0x30

/-- The block of a history. -/
def pastSlot (n : Nat) : Nat :=
  if n < 4 ∨ n = 9 ∨ n = 11 ∨ n = 12 ∨ n = 27 then 0x12 else if n = 4 then 0x1A else if n < 7 then 0x1B else if n = 8 then 0x11 else if n = 10 then 0x10
  else if 13 ≤ n ∧ n ≤ 18 then 0x19 else if n = 19 ∨ n = 20 then 0x18 else if n = 21 then 0x23 else if 22 ≤ n ∧ n ≤ 24 then 0x1B else if n = 25 then 0x20 else if n = 26 then 0x07 else 0x22

/-- A field that the register tables mark as kept in MRAM. -/
def nvmKid (slot kid : Nat) : Bool := (regsOf slot).any (fun r => r.fields.any (fun f => f.nvm && f.kid == kid))

/-- The variables that survive a module reset. -/
def keptVars : List Nat :=
  [V.shrdSeq.id, V.keepNext.id, V.spillNext.id, V.thStore.id, V.thTime.id, V.thValid.id, V.line.id, V.strapNow.id, V.slDone.id,
   V.slTotal.id, V.slLen.id, V.setPres.id, V.setOther.id, V.setFmt.id, V.kilnMark.id, V.ctlSum.id, V.dukGone.id]

/-- The blocks for which `sel` holds lose their registers, variables and lists; `keepR` and `keepV` name entries that stay, and so do those kept in MRAM. -/
def Dev.drop (d : Dev) (sel : Nat → Bool) (keepR keepV : Nat × Nat → Bool) : Dev :=
  { d with
    regs := d.regs.filter (fun e => !sel (regSlot e.1) || keepR e.1 || nvmKid (regSlot e.1) e.1.1)
    vars := d.vars.filter (fun e => !sel (varSlot e.1) || keepV e.1 || keptVars.contains e.1.1)
    bytes := d.bytes.filter (fun e => !sel (blobSlot e.1.1) || e.1.1 == 1 || e.1.1 == 10 || e.1.1 == 11 || e.1.1 == 45)
    hist := d.hist.filter (fun e => !sel (pastSlot e.1.1))
    sagrCur := if sel 0x03 then none else d.sagrCur
    sagrQ := if sel 0x03 then [] else d.sagrQ
    intake := if sel 0x04 then [] else d.intake
    solQ := if sel 0x21 then [] else d.solQ
    parcels := if sel 0x1B then [] else d.parcels
    arrivals := if sel 0x1B then [] else d.arrivals
    canHold := if sel 0x28 then [] else d.canHold
    frames := d.frames.filter (fun e => !sel (if e.1.1 = 0 ∨ 3 ≤ e.1.1 then 0x18 else 0x1A))
    hands := if sel 0x18 then [] else d.hands
    tlb := if sel 0x09 then [] else d.tlb
    ddc := if sel 0x09 then [] else d.ddc
    dmaCh := if sel 0x0A then [] else d.dmaCh
    dmaBad := if sel 0x0A then [] else d.dmaBad }

/-! ### Control plane -/

/-- A control-plane reset takes this block's registers: the control plane's blocks but CLR and TIME (R72). -/
def ctlReset (slot : Nat) : Bool := planeOfSlot slot == 0 && slot != 0x0B && slot != 0x07 && slots.contains slot

/-- A field of a list, whatever the index. -/
def isFld (l : List Fld) (k : Nat × Nat) : Bool := l.any (fun f => f.kid == k.1)

/-- What the registers show of the power stage and of counters since module reset, which a control-plane reset leaves (R72, R360, R393). -/
def ctlKeptFlds : List Fld := [F.LSW_CH_TRIPS_TRIPS, F.LSW_CH_TRIPS_RESTARTS, F.LSW_CH_TEMP_TJ, F.LSW_CH_TEMP_WRISE, F.LSW_CH_STAT_RTRN,
  F.LSW_SUPPLY_CRANKA, F.LSW_SUPPLY_CRANKB, F.LSW_SUPPLY_BROWNA, F.LSW_SUPPLY_BROWNB, F.LSW_SUPPLY_UV, F.LSW_SUPPLY_DEAD, F.SOL_SUPPLY_DEAD, F.SOL_SUPPLY_CRANK, F.SOL_SUPPLY_UV,
  F.SOL_SUPPLY_VSUP, F.LSW_PSC_LINK0, F.LSW_PSC_LINK1, F.LSW_PSC_OFF0, F.LSW_PSC_OFF1, F.FBRK_PR_CNT_OPENS, F.FBRK_PR_CNT_FAULTS,
  F.FBRK_GRP_CNT_CUTS, F.FBRK_RSTSTAT_REFUSED, F.FBRK_LATCH_GROUPS, F.FBRK_LATCH_LCAUSE]

/-- The state and flags of an LSW channel, which survive where it is latched (R360). -/
def lswLatchFlds : List Fld := [F.LSW_CH_STAT_STATE, F.LSW_CH_STAT_FAULT, F.LSW_CH_STAT_CAUSE, F.LSW_CH_FLAGS_SC, F.LSW_CH_FLAGS_WIRE,
  F.LSW_CH_FLAGS_OT, F.LSW_CH_FLAGS_OTABS, F.LSW_CH_FLAGS_RETRYX, F.LSW_CH_FLAGS_OPEN, F.LSW_CH_FLAGS_STB, F.LSW_CH_FLAGS_SHED,
  F.LSW_CH_FLAGS_CRANKBLK, F.LSW_CH_FLAGS_BROWN, F.LSW_CH_FLAGS_UV, F.LSW_CH_FLAGS_DEAD, F.LSW_CH_FLAGS_FBCUT, F.LSW_CH_FLAGS_LINK]

/-- The variables of PSC0, PSC1, the supervisor and the transceivers that a control-plane reset leaves (R335, R355, R360, R372, R380, R383, R426). -/
def ctlKeptVars : List Nat := [V.lswTheta.id, V.lswTripAt.id, V.lswScTrip.id, V.wireTick.id, V.retryWin.id, V.pscAt.id, V.pscDown.id, V.lswFb.id,
  V.solFb.id, V.fbrkRan.id, V.fbrkKept.id, V.fbCause.id, V.fbKeepLsw.id, V.fbKeepBank.id, V.fbKiln.id, V.segFallen.id, V.canSnap.id, V.canWoke.id, V.studMv.id, V.studTick.id, V.studSum.id, V.supOn.id, V.supOnAt.id, V.gridMove.id,
  V.prCode.id, V.tpAt.id, V.tpCur.id, V.tpOpen.id, V.tpLow.id, V.tpCnt.id, V.xsPre.id, V.xsLow.id, V.xsCnt.id, V.inLvl.id, V.runV.id, V.runN.id, V.runAt.id,
  V.safeAt.id, V.fbCutAt.id]

/-- The ports that RIDE held return to the switch. -/
def Dev.untake (d : Dev) : Dev := (d.set F.ETH_PORT_STAT_TAKEN 2 0).set F.ETH_PORT_STAT_TAKEN 3 0

/-- The registers of the control-plane blocks take their reset values, with the exceptions of R72 and of the chapters (R333, R360, R369, R393, R426,
R468, R562, R584). BUS stays in soft reset where a Kiln run of K4 has failed (R594). -/
def Dev.resetCtl (d : Dev) : Dev :=
  let held := d.var V.softRst 0x28 == 2
  let d := d.segAbort
  let latched := (List.range 24).filter (fun c => d.get F.LSW_CH_STAT_STATE c == 4)
  let past := d.hist.filter (fun e => !ctlReset (pastSlot e.1.1) || e.1.1 == 7)
  let d := d.drop ctlReset (fun k => isFld ctlKeptFlds k || (isFld lswLatchFlds k && latched.contains k.2)) (fun k => ctlKeptVars.contains k.1)
  let d : Dev := { d with hist := past }
  let d := if held then d.setVar V.softRst 0x28 2 else d
  ((((d.untake.lswFault 0).fbStat).fbCuts).segShow).solShow

/-! ### Data plane -/

/-- A data-plane reset takes this block's registers. -/
def dataReset (slot : Nat) : Bool := planeOfSlot slot == 1 && slots.contains slot

/-- MEM_DRAM and MEM_STAT.FAULT follow the DRAM: trained, in self-refresh in L2 and L3, or not trained (R498, R503). -/
def Dev.memShow (d : Dev) : Dev :=
  let up := d.var V.dramWait 0 == 0
  let l := d.get F.PWR_MODE_LADDER 0
  ((d.set F.MEM_DRAM_TRAINED 0 (bit up)).set F.MEM_DRAM_SELFREF 0 (bit (up && (l == 2 || l == 3)))).set F.COM_STAT_FAULT 0x08 (bit !up)

/-- The registers of the data-plane blocks take their reset values (R72); a port that RIDE has taken keeps running (R468), and the DRAM keeps its
contents, poisoned blocks among them, until it loses them (R474, R503). -/
def Dev.resetData (d : Dev) : Dev :=
  let c := d.get F.RIDE_CFG_PCEN 0
  let e := d.get F.RIDE_CFG_PDEN 0
  let d := d.drop dataReset (fun k => c = 1 && isFld [F.ETH_PORT_STAT_LINK, F.ETH_PORT_STAT_SQI] k && k.2 == 2 ||
    e = 1 && isFld [F.ETH_PORT_STAT_LINK, F.ETH_PORT_STAT_SQI] k && k.2 == 3) (fun k => k.1 == V.poison.id)
  let d := (d.set F.ETH_PORT_STAT_TAKEN 2 c).set F.ETH_PORT_STAT_TAKEN 3 e
  d.updPlaneReset.memShow

/-- DRAM loses its contents, or they become undefined (R503): no block is poisoned any more, and training comes next. -/
def Dev.dramLose (d : Dev) : Dev :=
  ((({ d with vars := d.vars.filter (fun e => e.1.1 != V.poison.id) } : Dev).setVar V.dramGone 0 ((d.var V.dramGone 0).toNat ||| 1 : Nat)).setVar V.dramWait 0 1).memShow

/-- SRAM and the TCMs lose their contents (R525). -/
def Dev.sramLose (d : Dev) : Dev := d.setVar V.dramGone 0 ((d.var V.dramGone 0).toNat ||| 2 : Nat)

/-- An address whose contents are lost: bit 0 of `g` for DRAM, bit 1 for SRAM and the TCMs. -/
def lostAt (g a : Nat) : Bool := (tbit g 0 && inDram a) || (tbit g 1 && ctlMem a)

/-- What memory holds where contents are lost: free values there, in the canonical form of memory, and the other bytes as before. -/
def lostMem (g n : Nat) (m : List Host.Cell) : List Host.Cell :=
  (Config.dramLost n).foldl (fun m e => if lostAt g e.1 then memPut m e.1 e.2 else m) (m.filter (fun e => !lostAt g e.1))

/-- A change of the device part that may lose contents of memory. -/
def State.updMem (s : State) (f : Dev → Dev) : State :=
  let d := f s.dev
  let g := d.var V.dramGone 0
  if g = 0 then { s with dev := d }
  else { s with dev := (d.setVar V.dramGone 0 0).useFree, mem := lostMem g.toNat d.free s.mem }

end Sys2Proof.Machine
end

