-- ==== Sys2Proof/Machine/Mode.lean ====
section
/-! DEFINITION. The power ladder, the modes and the course of Kiln requests, which hold each other
(spec/20_power_modes_startup.md, R616 to R627; spec/19_kiln_cones.md, R585 to R598; spec/03_grove_time.md, R106). -/

namespace Sys2Proof.Machine

/-! ### Records and reports -/

/-- A block's error that is recorded directly, not through Saggar (R568, R611, R615): captured in ERR, NOSVC and TAON set. -/
def Dev.errDirect (d : Dev) (slot bcode cls : Nat) : Dev :=
  let d := d.errCapture slot 7 0 0 bcode
  d.shrdIntake d.now slot (cls + 4 + 64) (0x0200 + bcode) [] (d.errWord slot)

/-- The command slot of PWR (R620). -/
def Dev.pwrSlot (d : Dev) (ctl : Bool) : Nat := if ctl then 328 + d.get F.PWR_CFG_CSLOT 0 else 344 + d.get F.PWR_CFG_DSLOT 0

/-- A reply or a notice of PWR, in the slot 8 lower (R620). -/
def Dev.pwrReply (d : Dev) (ctl : Bool) (op tag st cause : Nat) : Dev :=
  d.clrPost (d.pwrSlot ctl - 8) 0x01
    (leBytes 8 d.now.toNat ++ [op, tag, st, d.get F.PWR_MODE_MODE 0, d.get F.PWR_MODE_LADDER 0, cause])

/-- A notice: 1 SHUTDOWN, 2 PARKING, 3 WITHDRAWN. -/
def Dev.pwrNotice (d : Dev) (ctl : Bool) (st : Nat) : Dev := (d.pwrReply ctl 0x80 0 st 0).irq 0x01 8

/-! ### The ladder (R106, R616, R618) -/

/-- The wake settings of a CAN transceiver as its registers give them (R420). -/
def Dev.canSettings (d : Dev) (c : Nat) : List Nat :=
  [d.get F.BUS_CH_WAKE_EN c, d.get F.BUS_CH_WAKE_WUF c, d.get F.BUS_CH_WAKE_IDE c, d.get F.BUS_CH_WAKE_ID c, d.get F.BUS_CH_WMASK_MASK c,
   d.get F.BUS_CH_WDATA_WDATA c, d.get F.BUS_CH_WCFG_WDLC c, d.get F.BUS_CH_WCFG_RATE c]

/-- Entry to L2 or deeper: every trigger entry clears EN, an announced step is cancelled (R106); the wake settings are read and copied (R420, R628).
A TRIG_OUT pulse in progress runs on in elapsed time: the spec does not say what becomes of it (log entry 161). -/
def Dev.deepEnter (d : Dev) : Dev :=
  let d := d.each (List.range 16) (fun e a => (a.set F.TRIG_CFG_EN e 0).set F.TRIG_STAT_ARMED e 0)
  let d := d.set F.TIME_STATE_STEPPEND 0 0
  let d := d.each (List.range 8) (fun c a => a.each (List.range 8) (fun n b => b.setVar V.canSnap (8 * c + n) ((a.canSettings c).getD n 0)))
  let l := [F.PWR_WAKE_CFG_CANACT, F.PWR_WAKE_CFG_RIDEACT, F.PWR_WAKE_CFG_TMRACT, F.PWR_WAKE_CFG_CANEN, F.PWR_WAKE_CFG_RIDEEN, F.PWR_WAKE_CFG_TMREN]
  d.each (List.range 6) (fun n a => a.setVar V.wakeSnap n ((l.map (fun f => a.get f 0)).getD n 0))

/-- Return to L1: the master reloads from AON and TIME enters FREE (R106). The next tick lies on the first millisecond boundary at least 0.5 ms later
(R89). -/
def Dev.deepLeave (d : Dev) : Dev :=
  let d := ((d.setVar V.slew 0 0).setVar V.slewRem 0 0).setVar V.freqCorr 0 0
  let d := (d.showRate.set F.TIME_HOLDERR_ERRB 0 0xFFFF).setVar V.nextTick 0 (nextMultiple (d.var V.grove 0) 1000000 500000)
  d.timeState 1

/-- The module moves to a ladder state. -/
def Dev.setLadder (d : Dev) (l : Nat) : Dev :=
  let old := d.get F.PWR_MODE_LADDER 0
  if old = l then d
  else
    let d := ((d.set F.PWR_MODE_LADDER 0 l).irq 0x01 1).mark V.ladAt 0
    let d := (if old < 2 ∧ 2 ≤ l then d.deepEnter else if 2 ≤ old ∧ l < 2 then d.deepLeave else d).memShow
    if old < 4 ∧ 4 ≤ l then d.dramLose else d

/-! ### Modes (R619, R621) -/

/-- The mode changes: PREV, MODECHG. An entry to HARVEST demands the start-up tests, a return from LIMP does not (R381, R623). -/
def Dev.setMode (d : Dev) (m : Nat) : Dev :=
  let old := d.get F.PWR_MODE_MODE 0
  if old = m then d
  else
    let d := ((d.set F.PWR_MODE_PREV 0 old).set F.PWR_MODE_MODE 0 m).irq 0x01 0
    if m = 4 ∧ old ≠ 5 then d.fbDemandAll else d

/-- No transition is running or held any more. -/
def Dev.pwrClear (d : Dev) : Dev :=
  (((d.set F.PWR_MODE_PENDV 0 0).set F.PWR_MODE_PEND 0 0).setVar V.pwrHeld 0 0).setVar V.pwrStep 0 0

/-- A transition to a mode is running or held. -/
def Dev.pwrPend (d : Dev) (t : Nat) : Dev := (d.set F.PWR_MODE_PENDV 0 1).set F.PWR_MODE_PEND 0 t

/-- The planes are brought up from a power-down: the module is at L1, the blocks of both planes read as after their resets, and the keeper loads both
(R513, R525). PSC0 cools theta over the AON time (R347). The wake details show, and BUS raises WAKE (R420, R424). -/
def Dev.planesUp (d : Dev) : Dev :=
  let d := d.setLadder 1
  if d.var V.planesOff 0 = 0 then d
  else
    let d := ((d.resetCtl.resetData).studClear.thetaRestore true).setVar V.planesOff 0 0
    let d := d.each (List.range 8) (fun c a =>
      let w := (a.var V.canWoke c).toNat
      (((a.set F.BUS_CH_WSTAT_WUP c (bit (tbit w 0))).set F.BUS_CH_WSTAT_WUF c (bit (tbit w 1))).set F.BUS_CH_WSTAT_FECOVF c (bit (tbit w 2))).setVar
        V.canWoke c 0)
    let d := d.when ((List.range 8).any (fun c => d.on F.BUS_CH_WSTAT_WUP c || d.on F.BUS_CH_WSTAT_WUF c || d.on F.BUS_CH_WSTAT_FECOVF c)) (fun a =>
      a.irq 0x28 14)
    (d.setVar V.cpLoad 0 1).setVar V.dpLoad 0 1

/-- Entry to ROAD, nothing holding it any more. -/
def Dev.roadGo (d : Dev) : Dev := (d.pwrClear.planesUp).setMode 3

/-! ### The course of a Kiln request (R588 to R594) -/

/-- Time for which the control plane has been released, 2^-16 ns (R597). -/
def Dev.ctlReleased (d : Dev) : Int := d.var V.ctlSum 0 + (if d.on F.SYS_REL_PA 0 then d.since V.relAt 0 else 0)

/-- Why a region may not run now: 0 it may, 1 LCS, 2 MODE (R588, R608). A run that the keeper makes before a release has no such limit but SCRAP (R594). -/
def Dev.kilnLimit (d : Dev) (r : Nat) : Nat :=
  let lc := d.var V.lcSt 0
  let m := d.get F.PWR_MODE_MODE 0
  if lc = 4 then 1
  else if d.var V.kilnSrc 0 = 3 then 0
  else if r = 6 then (if lc = 2 then 1 else if m = 2 || d.on F.SYS_BOOT_STRAP 0 then 0 else 2)
  else if m = 0 ∧ d.var V.kilnSrc 0 ≠ 2 then 2
  else if lc = 2 then (if d.var V.kilnSrc 0 = 2 ∨ m = 1 ∨ m = 2 then 0 else 2)
  else if m = 4 then 2 else 0

/-- The region's precondition (R589). -/
def Dev.kilnReady (d : Dev) (r : Nat) : Bool :=
  match r with
  | 2 => (List.range 64).all (fun k => d.get F.WHL_LP_STAT_STATE k == 0)
  | 3 => (List.range 24).all (fun c => !d.on F.LSW_CH_CFG_EN c && !d.on F.SOL_CH_CFG_EN c) && !d.on F.SOL_BST_CFG_EN 0 &&
      !d.on F.SOL_BST_CFG_EN 1 && !d.on F.COM_CTRL_EN 0x24 && d.get F.SEG_STATE_ST 0 == 0
  | 4 => (List.range 8).all (fun c => !d.on F.BUS_CH_CFG_EN c)
  | 6 => !d.on F.SYS_REL_PA 0 && !d.on F.SYS_REL_PB 0 && !d.on F.SYS_REL_DP 0
  | _ => true

/-- The blocks that a region holds. -/
def kilnSlots (r : Nat) : List Nat :=
  match r with
  | 2 => [0x20]
  | 3 => [0x21, 0x22, 0x23, 0x25]
  | 4 => [0x28, 0x29]
  | 5 => [0x24]
  | 6 => slots.filter (fun s => planeOfSlot s != 2)
  | _ => []

/-- KILN_STAT.FAULT is 1 while any region has FSTICK at 1 (R605). -/
def Dev.kilnStat (d : Dev) : Dev := d.set F.COM_STAT_FAULT 0x05 (bit ((List.range 7).any (fun r => d.on F.KILN_RG_STAT_FSTICK r)))

/-- A refusal with its cause (R606). -/
def Dev.kilnRefuse (d : Dev) (cause : Nat) : Dev := (d.set F.KILN_REFUSE_CAUSE 0 cause).irq 0x05 3

/-- The Firebreak groups follow the start or the end of a run: OFF during K5; the PSCs cut all during K3 (R378, R589). -/
def Dev.kilnCuts (d : Dev) : Dev :=
  let d := if d.var V.kilnK5 0 = 1 then
      d.groupsNow else d
  d.fbCuts

/-- A region's run begins (R589, R590): in PARKED the domain is powered at L1. -/
def Dev.kilnBegin (d : Dev) (r : Nat) : Dev :=
  let d := if 2 ≤ d.get F.PWR_MODE_LADDER 0 then
      (if d.var V.ladWas 0 = 0 then d.setVar V.ladWas 0 (d.get F.PWR_MODE_LADDER 0 + 1) else d).setLadder 1 else d
  let d := ((d.set F.KILN_STATE_ST 0 1).set F.KILN_STATE_REG 0 r).set F.KILN_STATE_PATS 0 0
  let d := d.setVar V.kilnSave 0 (bit (r != 6 && d.on F.SYS_REL_PA 0))
  let d := d.each (kilnSlots r) (fun s a => a.setVar V.underKiln s 1)
  let d := if r = 3 then d.setVar V.acuBad 0 1 else d
  let d := if r = 5 then d.setVar V.kilnK5 0 1 else d
  if r = 3 ∨ r = 5 then d.kilnCuts else d

/-- One region of the request, where none runs: it is refused, or its run begins. -/
def Dev.kilnTry (d : Dev) (r : Nat) : Dev :=
  let q := (d.var V.kilnQ 0).toNat
  if d.get F.KILN_STATE_ST 0 ≠ 0 ∨ !tbit q r then d
  else
    let d := d.setVar V.kilnQ 0 (q - 2 ^ r : Nat)
    let why := if d.kilnLimit r ≠ 0 then d.kilnLimit r else if d.kilnReady r then 0 else 3
    if why = 0 then d.kilnBegin r
    else
      let d := (d.set F.KILN_RG_STAT_RESULT r 4).kilnRefuse why
      if d.var V.kilnSt 0 = 0 then d.setVar V.kilnSt 0 (if why = 3 then 1 else 3) else d

/-- The request goes on, in ascending region order (R591). -/
def Dev.kilnScan (d : Dev) : Dev := (List.range 7).foldl (fun a r => a.kilnTry r) d

/-- The request has nothing left to run. -/
def Dev.kilnOver (d : Dev) : Bool := d.var V.kilnOn 0 == 1 && d.get F.KILN_STATE_ST 0 == 0 && d.var V.kilnQ 0 == 0

/-- A request is taken: `src` 0 KILN_RUN, 1 a slot, 2 ROAD entry, 3 the keeper. -/
def Dev.kilnLaunch (d : Dev) (mask src tag : Nat) : Dev :=
  let d := ((((d.setVar V.kilnOn 0 1).setVar V.kilnQ 0 mask).setVar V.kilnAll 0 mask).setVar V.kilnSrc 0 src).setVar V.kilnTag 0 tag
  (d.setVar V.kilnSt 0 0).kilnScan

/-- KILN's reply to a command (R593). -/
def Dev.kilnReply (d : Dev) (tag st word : Nat) : Dev :=
  d.clrPost (320 + d.get F.KILN_CFG_CSLOT 0) 0x05 (leBytes 8 d.now.toNat ++ [1, tag, st, 0] ++ leBytes 4 word)

/-- The results of the regions that the request names. -/
def Dev.kilnWord (d : Dev) : Nat :=
  ((List.range 7).map (fun r => if tbit (d.var V.kilnAll 0).toNat r then d.get F.KILN_RG_STAT_RESULT r * 2 ^ (4 * r) else 0)).sum

/-- The reply is sent, or waits for the keeper (R593, R595). -/
def Dev.kilnAnswer (d : Dev) : Dev :=
  let w := d.kilnWord
  if d.var V.keeperUp 0 = 1 then d.kilnReply (d.var V.kilnTag 0).toNat (d.var V.kilnSt 0).toNat w
  else (d.setVar V.kilnRep 0 1).setVar V.kilnWord 0 w

/-! ### Transitions that PWR runs (R621, R626) -/

/-- The entry to ROAD is held until the regions of ROADSET have run once (R592). -/
def Dev.roadEnter (d : Dev) : Dev :=
  let m := d.get F.KILN_ROADSET_MASK 0
  if m = 0 ∨ !d.on F.COM_CTRL_EN 0x05 then d.roadGo
  else
    let d := ((d.pwrPend 3).setVar V.pwrHeld 0 1).kilnLaunch m 2 0
    if d.kilnOver then (d.setVar V.kilnOn 0 0).roadGo else d

/-- A block of the control plane stops. -/
def Dev.blockOff (d : Dev) (slot : Nat) : Dev :=
  ((d.set F.COM_CTRL_EN slot 0).set F.COM_STAT_RUN slot 0).set F.COM_STAT_CFGLOCK slot 0

/-- Step 2 of the shutdown sequence: the control plane ends its outputs (R303, R333, R369, R393, R562, R626). Each loop ends at its next sample instant (R284),
and BUS carries what they send then; it is quiet before the plane goes down (`busQuiet`). -/
def Dev.ctlQuiet (d : Dev) : Dev :=
  let d := d.each ((List.range 64).filter (fun k => d.on F.WHL_LP_CFG_EN k)) (fun k a => a.lpStop k)
  let d := d.blockOff 0x20
  let d := ({ (d.solAllOff.bstStop) with solQ := [] } : Dev)
  let d := (d.each (List.range 24) (fun c a => a.solCount c)).blockOff 0x21
  let d := d.blockOff 0x22
  let d := d.each (List.range 24) (fun c a => a.lswSync c)
  let d := (d.blockOff 0x24).fbFall
  (((d.blockOff 0x2B).blockOff 0x25).blockOff 0x23).segShow

/-- BUS leaves the buses before the control plane leaves L1 (R426): a loop that has not come to its sample instant ends now, privileged requests end, and each
channel leaves. -/
def Dev.busQuiet (d : Dev) : Dev :=
  let d := d.each (List.range 64) (fun k a => a.lpEnd k)
  let d := d.each (List.range 8) (fun c a => a.each ((List.range 8).filter (fun b => a.on F.BUF_CTRL_TXREQ (bufIx c b) && a.bufPriv c b)) (fun b e =>
    (e.set F.BUF_CTRL_TXREQ (bufIx c b) 0).set F.BUF_CTRL_RESULT (bufIx c b) 5))
  { (d.blockOff 0x28).busRun false with canHold := [] }

/-- Step 2 begins. -/
def Dev.pwrStop (d : Dev) : Dev := ((d.ctlQuiet).setVar V.pwrStep 0 2).mark V.pwrAt 0

/-- The control plane is not released any more; the released time is kept for AGE (R597). -/
def Dev.ctlDown (d : Dev) : Dev :=
  let d := d.setVar V.ctlSum 0 d.ctlReleased
  let d := ((d.set F.SYS_REL_PA 0 0).set F.SYS_REL_PB 0 0).set F.PWR_DEAD_ARMED 0 0
  (d.setPlane 0 false).setVar V.cpLoad 0 0

/-- The data plane is not released any more. -/
def Dev.dataDown (d : Dev) : Dev := ((d.set F.SYS_REL_DP 0 0).setPlane 1 false).setVar V.dpLoad 0 0

/-- Step 3: the planes are powered down, theta is stored, and the module rests in the ladder state of its mode (R347, R525, R626). -/
def Dev.pwrDown (d : Dev) (t : Nat) : Dev :=
  let d := (d.busQuiet.thetaStore.ctlDown.dataDown.resetData.sramLose).setVar V.planesOff 0 1
  (d.pwrClear.setMode t).setLadder (if t = 0 then 5 else 3)

/-- The shutdown sequence begins (R626): a PARKING notice to the data plane, or step 2 at once from LIMP (R623). -/
def Dev.pwrShut (d : Dev) (t : Nat) : Dev :=
  let lad := d.get F.PWR_MODE_MODE 0
  let d := (d.pwrPend t).set F.PWR_MODE_NOTICE 0 0
  if lad = 5 then d.pwrStop
  else (((d.setVar V.pwrStep 0 1).mark V.pwrAt 0).setVar V.pwrGrace 0 (d.get F.PWR_TIMING_DPGRACE 0)).pwrNotice false 2

/-- A transition that nothing holds. -/
def Dev.pwrGo (d : Dev) (t : Nat) : Dev :=
  let m := d.get F.PWR_MODE_MODE 0
  if t = 3 then (if m = 4 then d.pwrClear.setMode 3 else d.roadEnter)
  else if t < 2 then (if m < 2 then (d.pwrClear.setMode t).setLadder (if t = 0 then 5 else 3) else (d.setVar V.pwrHeld 0 0).pwrShut t)
  else if t = 2 ∧ m < 2 then d.pwrClear.planesUp.setMode 2
  else d.pwrClear.setMode t

/-- The second reply, at the entry (R620). -/
def Dev.pwrEntered (d : Dev) : Dev :=
  let s := d.var V.pwrSrc 0
  if s = 1 ∨ s = 2 then d.pwrReply (s == 1) 1 (d.var V.pwrTag 0).toNat 0 0 else d

/-- The keeper is down after its boot, so that the mode does not change (R22). -/
def Dev.keeperAway (d : Dev) : Bool := d.var V.booted 0 == 1 && d.var V.keeperUp 0 != 1

/-- What PWR held for a Kiln request goes on; `road` where the request was that of the entry to ROAD (R592, R595). -/
def Dev.heldGo (d : Dev) (road : Bool) : Dev :=
  if road then d.roadGo.pwrEntered
  else
    let d := (d.setVar V.pwrHeld 0 0).pwrGo (d.get F.PWR_MODE_PEND 0)
    if d.var V.pwrHeld 0 = 1 then d else d.pwrEntered

/-- A Kiln request is over (R592, R593, R595): KILN answers, the ladder returns, and what PWR held goes on, once the keeper runs (R22). -/
def Dev.kilnFinish (d : Dev) : Dev :=
  if !d.kilnOver then d
  else
    let d := (d.setVar V.kilnOn 0 0).monKilnEnd
    let src := d.var V.kilnSrc 0
    let was := (d.var V.ladWas 0).toNat
    let d := if src = 1 then d.kilnAnswer else d
    let d := d.setVar V.ladWas 0 0
    if d.var V.pwrHeld 0 = 1 then
      (if d.keeperAway then d else d.heldGo (src == 2))
    else if 0 < was ∧ d.get F.PWR_MODE_MODE 0 < 2 then d.setLadder (was - 1) else d

/-- The end of one region's run: 1 PASS, 2 FAIL, 3 ABORT (R594, R597). -/
def Dev.kilnClose (d : Dev) (r res : Nat) : Dev :=
  let d := (d.set F.KILN_STATE_ST 0 0).setVar V.kilnSave 0 0
  let d := ((d.set F.KILN_RG_STAT_RESULT r res).incSat F.KILN_RG_STAT_RUNS r).set F.KILN_RG_TLAST_T r (toBits 64 d.now)
  let d := if res = 1 then
      (((d.set F.KILN_RG_STAT_FSTICK r 0).set F.KILN_RG_STAT_DUE r 0).set F.KILN_RG_AGE_AGE r 0).setVar V.kilnMark r d.ctlReleased
    else if res = 2 then d.set F.KILN_RG_STAT_FSTICK r 1 else d
  let d := d.each (kilnSlots r) (fun s a => a.setVar V.underKiln s 0)
  let d := if r = 2 then d.each ((List.range 64).filter (fun k => d.on F.WHL_LP_CFG_EN k)) (fun k a => a.lpStart k) else d
  let d := if r = 5 then (d.setVar V.kilnK5 0 0).setVar V.fbKiln 0 (if res = 1 then 0 else if res = 2 then 1 else d.var V.fbKiln 0) else d
  let d := if r = 3 then d.kilnCuts else d
  (d.kilnStat).irq 0x05 0

/-- What follows a FAIL (R383, R594). -/
def Dev.kilnFail (d : Dev) (r : Nat) : Dev :=
  let d := d.irq 0x05 1
  if r < 4 then d.errBlk 0x05 3 3
  else if r = 4 then ((d.errBlk 0x05 4 2).blockOff 0x28).setVar V.softRst 0x28 2
  else if r = 5 then (d.errBlk 0x05 5 0).fbLatchAll 5
  else d.errBlk 0x05 6 0

/-- A run in progress ends with ABORT, and the rest of its request is given up (R595). -/
def Dev.kilnAbort (d : Dev) : Dev :=
  if d.var V.kilnOn 0 ≠ 1 then d
  else
    let d := if d.get F.KILN_STATE_ST 0 = 0 then d else d.kilnClose (d.get F.KILN_STATE_REG 0) 3
    let d := if d.var V.kilnSt 0 = 0 then d.setVar V.kilnSt 0 3 else d
    (d.setVar V.kilnQ 0 0).kilnFinish

/-! ### Requests (R620 to R622) -/

/-- The index of the permission word of a transition (R629). -/
def permIx (f t : Nat) : Nat := 6 * f + t

/-- Why a mode request is refused: STATUS and refusal cause; none where it is accepted. `src` 1 control plane, 2 data plane, 3 monitor. -/
def Dev.pwrRefusal (d : Dev) (src t : Nat) : Option (Nat × Nat) :=
  let m := d.get F.PWR_MODE_MODE 0
  let perm := if src = 1 then F.PWR_PERM_C else if src = 2 then F.PWR_PERM_D else F.PWR_PERM_G
  if d.var V.keeperUp 0 ≠ 1 then some (3, 5)
  else if d.on F.PWR_MODE_PENDV 0 then some (1, 0)
  else if !d.on perm (permIx m t) then some (3, 1)
  else if d.on F.PWR_SUPPLY_SUPLOSS 0 then some (3, d.freeVal % 256)
  else if 2 ≤ d.get F.LCS_DBG_LEVEL 0 ∧ (t = 4 ∨ (t = 3 ∧ m ≠ 4)) then some (3, 2)
  else if t = 4 ∧ (d.on F.SAGR_STATE_STOP 0 ∨ d.on F.SAGR_STATE_SAFE 0) then some (3, 3)
  else if t = 4 ∧ !d.on F.SYS_BOOT_DONE 0 then some (3, 4)
  else none

/-- A mode request: the new state, STATUS and cause. STATUS 4 HELD, where a Kiln run holds the entry. -/
def Dev.pwrAsk (d : Dev) (src tag t : Nat) : Dev × Nat × Nat :=
  match d.pwrRefusal src t with
  | some (st, c) => ((if d.on F.PWR_SUPPLY_SUPLOSS 0 then d.useFree else d).irq 0x01 7, st, c)
  | none =>
    let d := (d.setVar V.pwrSrc 0 src).setVar V.pwrTag 0 tag
    if d.var V.kilnOn 0 = 1 then ((d.pwrPend t).setVar V.pwrHeld 0 1, 4, 0)
    else
      let d := d.pwrGo t
      (d, if d.var V.pwrHeld 0 = 1 then 4 else 0, 0)

/-- PWR moves by itself, unless the keeper is down, the supply is lost or a transition runs (R611, R622). -/
def Dev.pwrFree (d : Dev) : Bool := d.var V.keeperUp 0 == 1 && !d.on F.PWR_MODE_PENDV 0 && !d.on F.PWR_SUPPLY_SUPLOSS 0

/-- An automatic transition, which a Kiln run in progress holds (R595). -/
def Dev.pwrAuto (d : Dev) (t : Nat) : Dev :=
  let d := d.setVar V.pwrSrc 0 0
  if d.var V.kilnOn 0 = 1 then (d.pwrPend t).setVar V.pwrHeld 0 1 else d.pwrGo t

/-- A latched wake is acted on (R626). -/
def Dev.wakeGo (d : Dev) : Dev :=
  let t := (d.var V.wakePend 0).toNat
  if t = 0 ∨ !d.pwrFree ∨ 2 ≤ d.get F.PWR_MODE_MODE 0 then d else (d.setVar V.wakePend 0 0).pwrAuto t

/-- A wake event with its cause and action (R624): 0 the keeper alone, 1 SERVICE, 2 ROAD. -/
def Dev.pwrWake (d : Dev) (cause act : Nat) : Dev :=
  let d := (d.set F.PWR_WAKE_STAT_CAUSE 0 cause).irq 0x01 6
  if act = 1 ∨ act = 2 then (d.setVar V.wakePend 0 (act + 1 : Nat)).wakeGo
  else if 4 ≤ d.get F.PWR_MODE_LADDER 0 then d.setLadder 3 else d

end Sys2Proof.Machine
end

