-- ==== Sys2Proof/Machine/Flags.lean ====
section
/-! DEFINITION. What a written value does to one field: the access kinds and the locks by which a rule ignores or refuses a write
(spec/02_register_conventions.md, R14, R62, R65, R67, R660, and the rules of the chapters that each lock names). -/

namespace Sys2Proof.Machine

/-- How a field takes a written value: it takes it, it ignores it, it refuses it with a block-specific error, or with a cause of ERR bits 6:0. -/
inductive Turn where
  | take
  | ignore
  | blk (bcode : Nat)
  | err (cause : Nat)
  deriving DecidableEq, Repr

/-- A register write at one register of a block: its offset, the fields' index, the channel, the value written to the whole register, and the repetitions of its layout. -/
structure WriteAt where
  off : Nat
  k : Nat
  ch : Nat
  value : Nat
  reps : Nat

/-- Divides. -/
def divides (k n : Nat) : Bool := k != 0 && n % k == 0

/-- A field of a list, by its place. -/
def oneOf (f : Fld) (l : List Fld) : Bool := l.any (fun g => g.kid == f.kid)

/-- A buffer that lies inside the span of a buffer that takes messages still to go: its TXREQ is 1 (R407). -/
def Dev.bufBusy (d : Dev) (c b : Nat) : Bool :=
  (List.range 17).any (fun j => decide (j ≤ b) && d.isHead c (b - j) && d.on F.BUF_CTRL_TXREQ (bufIx c (b - j)) && decide (j < d.bufSpan c (b - j)))

/-- A buffer header or a word of message memory (R398, R399, R407, R408). A word at offset below 32 of a buffer lies in its header, which
its own registers show; the data follow. A header place inside another buffer takes no write (log entry 197). -/
def Dev.lockBuf (d : Dev) (f : Fld) (w : WriteAt) (new : Nat) : Turn :=
  if f.kid = F.BUS_MEM_WORD.kid then
    let b := w.k % 8192 / 32
    if w.k % 32 < 8 then (if d.isHead w.ch b then .ignore else .blk 2)
    else if d.bufTaken w.ch b then .blk 2
    else if d.bufBusy w.ch b then .blk 3 else .take
  else
    let b := w.k % 256
    if !d.isHead w.ch b || d.bufTaken w.ch b then .blk 2
    else if d.bufBusy w.ch b then .blk 3
    else if f.kid = F.BUF_CTRL_PRIV.kid ∧ new = 1 ∧ ¬(b < 8 ∧ w.value / 2 ^ 30 % 4 = 2) then .blk 2
    else .take

/-- The locks of TIME (R95), GNTK (R157, R187) and GNTP (R180). A PERIOD write leaves WIDTH as it is (log entry 211). -/
def Dev.lockTime (d : Dev) (slot : Nat) (f : Fld) (w : WriteAt) (new : Nat) : Turn :=
  if slot = 0x07 then
    if oneOf f [F.TRIG_INST_INST, F.TRIG_PERIOD_PERIOD, F.TRIG_CFG_TGT, F.TRIG_CFG_IDX, F.TRIG_CFG_STEPMODE, F.TRIG_CFG_IRQ, F.TRIG_CFG_WIDTH,
      F.TRIG_CFG_LEAD, F.TRIG_COUNT_COUNT] && d.on F.TRIG_CFG_EN w.k then .blk 1
    else if f.kid = F.TRIG_PERIOD_PERIOD.kid ∧ 1 ≤ new ∧ new ≤ 1999 then .blk 2 else .take
  else if slot = 0x12 then
    if oneOf f [F.GNTK_CH_CFG_ANT, F.GNTK_CH_CFG_GLOK, F.GNTK_CH_CFG_SIG, F.GNTK_CH_CFG_PRN, F.GNTK_CH_INIT_DOP_DOP, F.GNTK_CH_INIT_CPH_CPH,
      F.GNTK_CH_INIT_T0_T0] && d.on F.GNTK_CH_CFG_EN w.k then .blk 1
    else if f.kid = F.GNTK_EPOCH_CFG_EPER.kid ∧ ¬(5 ≤ new ∧ divides new 1000) then .blk 2 else .take
  else if slot = 0x13 then
    if f.kid = F.GNTP_PERIOD_PERIOD.kid ∧ ¬(100 ≤ new ∧ divides new 1000000000) then .blk 1
    else if f.kid = F.GNTP_WIDTH_WIDTH.kid ∧ ¬(10 ≤ new ∧ new + 10 ≤ d.get F.GNTP_PERIOD_PERIOD 0) then .blk 2 else .take
  else .take

/-- The locks of CNPY (R218, R227), NPU (R231) and CROP (R260, R261). -/
def Dev.lockCanopy (d : Dev) (slot : Nat) (f : Fld) (w : WriteAt) (new : Nat) : Turn :=
  if slot = 0x18 then
    if 0x1000 ≤ f.off ∧ f.off < 0x1400 then
      let rot := f.kid == F.CAL_ROT_V.kid
      let b := if rot then w.k / 72 else w.k / 8
      let s := if rot then w.k / 9 % 8 else w.k % 8
      if b = d.get F.CNPY_SEN_BANK_ACT s ∨ d.on F.CNPY_SEN_BANK_PEND s then .blk 1 else .take
    else if f.kid = F.CNPY_GRID_CFG_GPER.kid ∧ ¬ new ∈ ([50, 100, 125, 200, 250, 500, 1000] : List Nat) then .blk 8 else .take
  else if slot = 0x1A then
    if 0x1000 ≤ f.off ∧ (d.get F.JOB_STAT_STATE w.k = 2 ∨ d.get F.JOB_STAT_STATE w.k = 3) then .blk 1 else .take
  else if slot = 0x1B then
    if 0x1000 ≤ f.off ∧ d.on F.TAP_CFG_EN w.k then .blk 1
    else if f.kid = F.CROP_YCFG_YPER.kid ∧ ¬ new ∈ ([100, 200, 250, 500, 1000] : List Nat) then .blk 2 else .take
  else .take

/-- A WHL register that holds while its loop is enabled (R297). -/
def whlHeld (f : Fld) : Bool :=
  decide (f.off = 0x100 ∨ f.off = 0x104 ∨ f.off = 0x108 ∨ f.off = 0x120 ∨ f.off = 0x130 ∨ f.off = 0x134 ∨ f.off = 0x1C0 ∨ f.off = 0x1D0 ∨
    f.off = 0x200) || f.kid == F.WHL_LP_FFX_SLOT.kid

/-- The locks of WHL (R274, R297, R299), SOL (R330) and LSW (R365). -/
def Dev.lockLoops (d : Dev) (slot : Nat) (f : Fld) (w : WriteAt) : Turn :=
  if slot = 0x20 then
    if 0x140 ≤ f.off ∧ f.off < 0x180 then
      (if d.on F.WHL_LP_STAT_PEND w.ch || w.k % 2 == d.get F.WHL_LP_STAT_ACT w.ch then .blk 1 else .take)
    else if whlHeld f && d.on F.WHL_LP_CFG_EN w.ch then .blk 2
    else if f.kid = F.PORT_VAL_VAL.kid ∧ d.get F.PORT_CFG_KIND w.k ≠ 0 then .ignore else .take
  else if slot = 0x21 then (if f.off = 0x100 ∧ d.on F.SOL_CH_CFG_EN w.k then .blk 1 else .take)
  else if slot = 0x22 then (if f.off = 0x100 ∧ d.on F.LSW_CH_CFG_EN w.k then .blk 1 else .take)
  else .take

/-- The locks of BUS (R398, R399, R407, R408, R422, R423) and FLT (R425). -/
def Dev.lockBus (d : Dev) (slot : Nat) (f : Fld) (w : WriteAt) (new : Nat) : Turn :=
  if slot = 0x29 then (if f.off = 0x100 ∧ d.on F.BUS_CH_CFG_EN w.k then .blk 1 else .take)
  else if 0x1000 ≤ f.off then d.lockBuf f w new
  else if f.off = 0x100 ∨ f.off = 0x104 ∨ f.off = 0x108 ∨ f.off = 0x10C ∨ f.off = 0x110 ∨ f.off = 0x130 then
    (if d.on F.BUS_CH_CFG_EN w.ch then .blk 1 else .take)
  else if f.off = 0x800 ∨ (f.off = 0x820 ∧ f.kid ≠ F.BUS_ISO_CFG_PREF.kid) then
    (if d.get F.BUS_ISO_STAT_STATE w.k = 0 ∨ d.get F.BUS_ISO_STAT_STATE w.k = 3 then .take else .blk 1)
  else if oneOf f [F.BUS_PT_CFG_PTO, F.BUS_PT_CFG_PCH] && d.on F.BUS_PT_CFG_EN 0 then .blk 1
  else .take

/-- The locks by the state of a block, a channel, an entry or a bank (R660). -/
def Dev.lockOf (d : Dev) (slot : Nat) (f : Fld) (w : WriteAt) (new : Nat) : Turn :=
  if f.slot = 0x80 then .take
  else if slot = 0x07 ∨ slot = 0x12 ∨ slot = 0x13 then d.lockTime slot f w new
  else if slot = 0x18 ∨ slot = 0x1A ∨ slot = 0x1B then d.lockCanopy slot f w new
  else if slot = 0x20 ∨ slot = 0x21 ∨ slot = 0x22 then d.lockLoops slot f w
  else if slot = 0x28 ∨ slot = 0x29 then d.lockBus slot f w new
  else if slot = 0x0A then
    (if oneOf f [F.DMA_CH_CFG_MAXOUT, F.DMA_CH_DESC_DESC] && d.get F.DMA_CH_STAT_STATE w.k != 0 then .blk 1 else .take)
  else if slot = 0x05 then (if 0x1000 ≤ f.off ∧ ¬ d.kilnFree then .blk 1 else .take)
  else if slot = 0x30 then
    (if oneOf f [F.UPD_BWIN_W, F.UPD_BLK_IDX0_BLOCK, F.UPD_BLK_IDX1_TOTAL, F.UPD_BLK_IDX2_CRC] && d.var V.norWin 0 == 1 then .blk 2 else .take)
  else .take

/-- The blocks that have RWS fields (R64). -/
def hasRws (slot : Nat) : Bool :=
  ([0x07, 0x10, 0x11, 0x12, 0x13, 0x18, 0x19, 0x1B, 0x20, 0x21, 0x22, 0x23, 0x24, 0x25, 0x2A] : List Nat).contains slot

/-- The units of a block that hold RWS fields: its channels (for GNRF the band paths) and the fields that belong to none. -/
def applyUnits (slot : Nat) : List Nat :=
  match slot with
  | 0x10 => List.range 9
  | 0x11 => List.range 3
  | 0x12 => List.range 600 ++ [wideUnit]
  | 0x18 => List.range 8 ++ [wideUnit]
  | 0x20 => List.range 64
  | 0x21 => List.range 24
  | 0x22 => List.range 24
  | 0x2A => List.range 10
  | _ => if hasRws slot then [wideUnit] else []

/-- The units that an apply of one channel covers: the channel, or the three paths of a GNRF antenna (R136). A channel of FBRK or SEG holds no RWS field, so its
copy is an empty one at the block's boundary, which ends the apply (R63). See log entry 213. -/
def chanUnits (slot ch : Nat) : List Nat := if slot = 0x10 then [3 * ch, 3 * ch + 1, 3 * ch + 2] else [ch]

/-- The unit that the fields of a register at an index belong to: the channel, the band path of a GNRF table, the port of an ETH gate list, or none. -/
def unitOf (slot : Nat) (chan : Bool) (w : WriteAt) : Nat :=
  if chan then w.ch
  else if slot = 0x10 ∧ 0x1000 ≤ w.off then w.k / (w.reps / 9)
  else if slot = 0x2A ∧ w.off = 0x2000 then w.k / 64
  else wideUnit

/-- Whether a pending apply of a block covers the fields of a register (R63, R65, R136); the coverage stays whole until PEND falls. -/
def Dev.applyCovers (d : Dev) (slot : Nat) (chan : Bool) (w : WriteAt) : Bool :=
  d.on F.COM_APPLY_PEND slot && (d.var V.applyCov slot == 1 ||
    (chanUnits slot (d.var V.applyCov slot - 2).toNat).contains (unitOf slot chan w))

/-- A field that is reserved, or read-only, at an index (R12): BMODE on the band paths of groups 0 and 2 (R138), GPTP on ports 4, 5, 8 and 9 (R459), XLEN
on channels 4 to 7 (R422), ESI of a buffer (R399). -/
def reservedAt (f : Fld) (i : Nat) : Bool :=
  (f.kid == F.GNRF_PATH_CFG_BMODE.kid && i % 3 != 1) || (f.kid == F.ETH_PORT_CFG_GPTP.kid && [4, 5, 8, 9].contains i) ||
    (f.kid == F.BUS_CH_CFG_XLEN.kid && decide (4 ≤ i)) || f.kid == F.BUF_FMT_ESI.kid

/-- How an RW, RWL or RWS field takes the value `new` (R65, R67, R660); a soft reset that runs refuses every change. A write to a reserved bit is ignored without
an error (R12): `fieldWrite` leaves it. -/
def Dev.turnOf (d : Dev) (slot : Nat) (chan : Bool) (f : Fld) (w : WriteAt) (new : Nat) : Turn :=
  if d.get f w.k = new ∨ reservedAt f w.k = true then .take
  else if d.var V.softRst slot ≠ 0 ∨ (f.kind = .rwl ∧ d.on F.COM_STAT_RUN slot) then .err 0
  else if f.kind = .rws ∧ d.applyCovers slot chan w then .err 4
  else d.lockOf slot f w new

/-- Counters that a write of all ones clears; any other W1C field clears bit by bit. -/
def countClear (f : Fld) : Bool :=
  oneOf f [F.GNRF_LINKERR_CNT, F.GNTK_EPDROP_CNT, F.GNTK_NAVDROP_CNT, F.CROP_YDROP_CNT, F.MEM_ECC_CNT_CE, F.MEM_ECC_CNT_UE]

/-- What a W1C field keeps after a write of `new`. -/
def w1cKeep (f : Fld) (old new : Nat) : Nat :=
  if countClear f then (if new = 2 ^ f.width - 1 then 0 else old) else old &&& (new ^^^ (2 ^ f.width - 1))

/-- An LSW flag that a latched channel keeps (R366). -/
def lswKept (f : Fld) : Bool :=
  oneOf f [F.LSW_CH_FLAGS_SC, F.LSW_CH_FLAGS_WIRE, F.LSW_CH_FLAGS_OT, F.LSW_CH_FLAGS_OTABS, F.LSW_CH_FLAGS_RETRYX]

/-- Clearing ERR.VALID clears every other field of ERR, and IRQ_RAW.ERR follows (R52, R53). -/
def Dev.errClear (d : Dev) (slot : Nat) : Dev :=
  let d := ([F.COM_ERR_LOCKWR, F.COM_ERR_CHRANGE, F.COM_ERR_PRIV, F.COM_ERR_PLANE, F.COM_ERR_APPLYPEND, F.COM_ERR_UNMAP, F.COM_ERR_SIZE,
    F.COM_ERR_BLK, F.COM_ERR_BCODE, F.COM_ERR_BANK, F.COM_ERR_WOFF, F.COM_ERR_MORE, F.COM_ERR_VALID] : List Fld).foldl (fun a f => a.set f slot 0) d
  d.level slot 31 false

/-- One field takes the value `new` of a write by an initiator of plane `p` (R14, R39, R52, R62, R71). -/
def Dev.fieldWrite (d : Dev) (slot p : Nat) (f : Fld) (w : WriteAt) (new : Nat) : Dev :=
  let i := w.k
  let old := d.get f i
  match f.kind with
  | .ro | .wo | .own => d
  | .rw | .rwl | .rws =>
    if slot = 0x0B ∧ f.kid = F.COM_IRQ_EN_V.kid then d.set f i ((new &&& clrIrqMask p) ||| (old &&& (clrIrqMask p ^^^ 0xFFFFFFFF)))
    else if f.kid = F.GNRF_PATH_CFG_EN.kid then (if new = 1 then d.set f i 1 else d)
    else if reservedAt f i then d
    else d.set f i new
  | .w1c =>
    if f.kid = F.COM_ERR_VALID.kid then (if new = 1 then d.errClear slot else d)
    else if f.kid = F.CLR_VIOL_VALID.kid then
      (if new = 1 then (((d.set F.CLR_VIOL_VALID 0 0).set F.CLR_VIOL_PLANE 0 0).set F.CLR_VIOL_KIND 0 0).set F.CLR_VIOL_SLOT 0 0 else d)
    else if slot = 0x0B ∧ f.kid = F.COM_IRQ_STAT_V.kid then d.set f i (w1cKeep f old (new &&& clrIrqMask p))
    else if lswKept f && d.get F.LSW_CH_STAT_STATE i == 4 then d
    else d.set f i (w1cKeep f old new)

/-- How any field takes a value: an RW, RWL or RWS field as `turnOf` says; during a soft reset an action bit, and a W1C field that would change, are refused
too (R67), and so is MSGLOST of a buffer header that takes no write (R398, R407, R408). -/
def Dev.turnAny (d : Dev) (slot : Nat) (chan : Bool) (p : Nat) (f : Fld) (w : WriteAt) (new : Nat) : Turn :=
  let clears := decide (f.kind = .w1c) && decide ((d.fieldWrite slot p f w new).get f w.k ≠ d.get f w.k)
  if f.kind = .rw ∨ f.kind = .rwl ∨ f.kind = .rws then d.turnOf slot chan f w new
  else if d.var V.softRst slot ≠ 0 ∧ ((f.kind = .wo ∧ new ≠ 0) ∨ clears = true) then .err 0
  else if clears && f.kid == F.BUF_CTRL_MSGLOST.kid then d.lockBuf f w 0
  else .take

end Sys2Proof.Machine
end

