-- ==== Sys2Proof/Machine/Gnss.lean ====
section
/-! DEFINITION. GNRF and GNAQ: antenna bias, sample links, AGC, monitor and notches; acquisition engines
(spec/04_gnss_front_end_acquisition.md). -/

namespace Sys2Proof.Machine

/-! ### Antennas -/

/-- GNRF_STAT.FAULT follows the antenna states (R140). -/
def Dev.gnrfFault (d : Dev) : Dev :=
  d.set F.COM_STAT_FAULT 0x10 (bit ([0, 1, 2].any (fun i =>
    d.get F.GNRF_ANT_STAT_STATE i == 3 || d.get F.GNRF_ANT_STAT_STATE i == 4 || d.get F.GNRF_ANT_STAT_STATE i == 7)))

/-- An antenna's state changes; ANTCHG sets (R109, R140), and ANTFLT of the present epoch notes a state other than OK and EXTV (R164). -/
def Dev.antState (d : Dev) (i st : Nat) : Dev :=
  if d.get F.GNRF_ANT_STAT_STATE i = st then d
  else
    let d := d.when (antBad st || antBad (d.get F.GNRF_ANT_STAT_STATE i)) (fun a => a.setVar V.pfAnt i 1)
    ((d.set F.GNRF_ANT_STAT_STATE i st).irq 0x10 i).gnrfFault

/-- A short trip: the bias goes off; RETRY at 0 latches, and so does the eighth consecutive failed retry (R109, R110). -/
def Dev.antShort (d : Dev) (i : Nat) : Dev :=
  let again := d.var V.antTry i == 1
  let d := if again then d.incSat F.GNRF_ANT_STAT_RETRYCNT i else d
  let d := ((((d.setVar V.antBias i 0).setVar V.antTry i 0).setVar V.antOk i 0).setVar V.antOpen i 0).setVar V.antBelow i 0
  if !d.on F.GNRF_ANT_CFG_RETRY i || (again && decide (8 ≤ d.get F.GNRF_ANT_STAT_RETRYCNT i)) then d.antState i 4
  else (d.mark V.antTripAt i).antState i 3

/-- The open threshold in mA: 1 to 50, other values act as 3 (R137). -/
def openTh (v : Nat) : Nat := if 1 ≤ v ∧ v ≤ 50 then v else 3

/-- The antenna is judged to be in a state. While LINKDOWN shows, the state is the one that shows after it (R109). -/
def Dev.antTo (d : Dev) (i st : Nat) : Dev := if d.get F.GNRF_ANT_STAT_STATE i = 7 then d.setVar V.antPrev i st else d.antState i st

/-- ANT_MEASURE (R108 to R110): the 1 ms measurement of an antenna: its current in mA, whether the limit has been active for 1 ms, and
whether the centre conductor is above 2.0 V with bias off. Ten measurements below the limit make a retry a success, whatever the current. In LINKDOWN the
bias stays as it is, and measurements count again from the relock on, so that the state is judged anew within 10 ms of it. -/
def Dev.antMeasure (d : Dev) (i ma : Nat) (limit volt : Bool) : Dev :=
  if !d.running 0x10 then d
  else
    let d := d.set F.GNRF_ANT_STAT_IBIAS i (min ma 255)
    let st := d.get F.GNRF_ANT_STAT_STATE i
    let d :=
      if st = 7 ∧ tbit (d.get F.GNRF_LINK_LOCK 0) i = false then d
      else if !d.on F.GNRF_ANT_CFG_BIASEN i then d.antTo i (if volt then 5 else 0)
      else if d.var V.antBias i = 0 then d
      else if limit then (if st = 7 then ((d.setVar V.antOk i 0).setVar V.antOpen i 0).setVar V.antBelow i 0 else d.antShort i)
      else
        let low := decide (ma < openTh (d.get F.GNRF_ANT_CFG_OPEN_TH i))
        let d := d.setVar V.antBelow i (d.var V.antBelow i + 1)
        let d := d.when (decide (10 ≤ d.var V.antBelow i)) (fun a => a.setVar V.antTry i 0)
        let d := (d.setVar V.antOk i (if low then 0 else d.var V.antOk i + 1)).setVar V.antOpen i (if low then d.var V.antOpen i + 1 else 0)
        if 10 ≤ d.var V.antOk i then (d.set F.GNRF_ANT_STAT_RETRYCNT i 0).antTo i 1
        else if 10 ≤ d.var V.antOpen i then d.antTo i 2
        else d
    if !antBad (d.get F.GNRF_ANT_STAT_STATE i) then d
    else
      d.each [0, 1, 2] (fun e a =>
        if a.var V.acqPhase e = 3 ∧ a.get F.ENT_CFG0_ANT (a.acqEnt e) = i ∧ tbit (a.var V.acqFlags e).toNat 3 = false
        then a.setVar V.acqFlags e (a.var V.acqFlags e + 8) else a)

def execAntMeasure (i : Fin 3) (ma : BitVec 16) (limit volt : Bool) (s : State) : Host.Outcome State Fault Refusal :=
  s.upd (fun d => d.antMeasure i ma.toNat limit volt)

/-- ANT_RETRY (R110): 1 s after the trip the bias of an input in SHORT goes on again, and the retry is judged. -/
def Dev.antRetry (d : Dev) (i : Nat) : Dev :=
  if d.get F.GNRF_ANT_STAT_STATE i == 3 && d.on F.GNRF_ANT_CFG_RETRY i && d.var V.antBias i == 0 && d.passed V.antTripAt i 1000000000 then
    ((d.setVar V.antBias i 1).setVar V.antTry i 1).setVar V.antBelow i 0
  else d

def execAntRetry (i : Fin 3) (s : State) : Host.Outcome State Fault Refusal := s.upd (fun d => d.antRetry i)

/-- ANT_BIAS_WRITE (R109, R137): BIASEN takes the value; 1 turns the bias on, 0 turns it off and ends SHORT and SHORTLATCH. RETRYCNT is left as it is: the
spec clears it at OK and says nothing of BIASEN (log entry 162). -/
def execAntBiasWrite (a : Acc) (en : Bool) (s : State) : Host.Outcome State Fault Refusal :=
  s.upd (fun d => d.wrCh 0x10 0x100 a (fun i d =>
    if d.on F.GNRF_ANT_CFG_BIASEN i == en then d
    else
      let d := ((d.set F.GNRF_ANT_CFG_BIASEN i (bit en)).setVar V.antBias i (bit en)).setVar V.antTry i 0
      let d := ((d.setVar V.antOk i 0).setVar V.antOpen i 0).setVar V.antBelow i 0
      if en then d
      else if d.get F.GNRF_ANT_STAT_STATE i = 7 then d.setVar V.antPrev i 0 else d.antState i 0)
    (fun i d => d.changes F.GNRF_ANT_CFG_BIASEN i (bit en)))

/-! ### Sample links and band paths -/

/-- RF_LINK_LOSS (R109, R114): the three paths of the chip turn invalid, LINKDOWN overrides the antenna's state, and a C1 is reported. -/
def Dev.rfLinkLoss (d : Dev) (c : Nat) : Dev :=
  if !tbit (d.get F.GNRF_LINK_LOCK 0) c then d
  else
    let d := d.set F.GNRF_LINK_LOCK 0 (d.get F.GNRF_LINK_LOCK 0 - 2 ^ c)
    let d := if tbit (d.get F.GNRF_LINK_CALDONE 0) c then d.set F.GNRF_LINK_CALDONE 0 (d.get F.GNRF_LINK_CALDONE 0 - 2 ^ c) else d
    let d := ((d.setVar V.antPrev c (d.get F.GNRF_ANT_STAT_STATE c)).antState c 7).irq 0x10 (16 + c)
    (((d.pathDown (3 * c)).pathDown (3 * c + 1)).pathDown (3 * c + 2)).errBlk 0x10 1 1

def execRfLinkLoss (c : Fin 3) (s : State) : Host.Outcome State Fault Refusal := s.upd (fun d => d.rfLinkLoss c)

/-- RF_LINK_RELOCK (R109, R114): the link locks, its calibration begins, and the antenna is judged anew from here on. -/
def Dev.rfLinkRelock (d : Dev) (c : Nat) : Dev :=
  if d.running 0x10 && !tbit (d.get F.GNRF_LINK_LOCK 0) c then
    (((d.set F.GNRF_LINK_LOCK 0 (d.get F.GNRF_LINK_LOCK 0 + 2 ^ c)).setVar V.antOk c 0).setVar V.antOpen c 0).setVar V.antBelow c 0
  else d

def execRfLinkRelock (c : Fin 3) (s : State) : Host.Outcome State Fault Refusal := s.upd (fun d => d.rfLinkRelock c)

/-- RF_LINK_CALIBRATED (R109, R114): the paths turn valid, but for those that retune, and LINKDOWN ends. -/
def Dev.rfLinkCalibrated (d : Dev) (c : Nat) : Dev :=
  if tbit (d.get F.GNRF_LINK_LOCK 0) c && !tbit (d.get F.GNRF_LINK_CALDONE 0) c then
    let d := (d.set F.GNRF_LINK_CALDONE 0 (d.get F.GNRF_LINK_CALDONE 0 + 2 ^ c)).setVar V.pathValid (3 * c) 1
    let d := if d.var V.retuneOn c = 1 then d else (d.setVar V.pathValid (3 * c + 1) 1).setVar V.pathValid (3 * c + 2) 1
    if d.get F.GNRF_ANT_STAT_STATE c = 7 then d.antState c (d.var V.antPrev c).toNat else d
  else d

def execRfLinkCalibrated (c : Fin 3) (s : State) : Host.Outcome State Fault Refusal := s.upd (fun d => d.rfLinkCalibrated c)

/-- BMODE_RETUNE_END (R112, R113): 200 µs after a BMODE change groups 1 and 2 of the chip turn valid again. -/
def Dev.retuneEnd (d : Dev) (c : Nat) : Dev :=
  if d.var V.retuneOn c == 1 && d.passed V.retuneAt c 200000 then
    let d := d.setVar V.retuneOn c 0
    if tbit (d.get F.GNRF_LINK_CALDONE 0) c then (d.setVar V.pathValid (3 * c + 1) 1).setVar V.pathValid (3 * c + 2) 1 else d
  else d

def execBmodeRetuneEnd (c : Fin 3) (s : State) : Host.Outcome State Fault Refusal := s.upd (fun d => d.retuneEnd c)

/-- Steps of 0.5 dB, at most two, by which 20 log10 of `hi` over `lo` calls for a change of gain, rounded to the nearest step (log entry 193): one from
0.25 dB on, where the ratio to the 80th power is 10, two from 0.75 dB on, where it is 1,000. -/
def agcSteps (lo hi : Nat) : Nat := if hi ≤ lo then 0 else if 1000 * lo ^ 80 ≤ hi ^ 80 then 2 else if 10 * lo ^ 80 ≤ hi ^ 80 then 1 else 0

/-- The AGC of one path moves (R115, R138): at most 1.0 dB towards the gain that puts the RMS at TARGET, 0 to 60 dB; FREEZE holds, MANUAL
takes MANGAIN. -/
def agcGain (mode man gain target rms : Nat) : Nat :=
  match mode with
  | 0 => min (gain + agcSteps rms target - agcSteps target rms) 120
  | 2 => min man 120
  | _ => gain

/-- AGC_UPDATE (R115, R139): at a 1 ms tick all nine AGCs update, and this is the boundary of every RWS field of GNRF (R136). `m` holds what each of the nine paths measured
over the millisecond, `errs` the frame errors that the three sample links had in it. -/
def Dev.agcUpdate (d : Dev) (m : List AgcIn) (errs : Nat) : Dev :=
  if !d.running 0x10 || !d.atTick then d
  else
    let d := ((d.setVar V.pfMs 0 (d.var V.pfMs 0 + 1)).incSat F.GNRF_LINKERR_CNT 0 errs).boundary 0x10 wideUnit
    d.each (List.range 9) (fun p a =>
      let x := m.getD p ⟨0, 0⟩
      let a := ((a.set F.GNRF_AGC_STAT_RMS p (min x.rms 4095)).set F.GNRF_AGC_STAT_SATCNT p (min (x.sat / 1024) 255)).set
        F.GNRF_AGC_STAT_GAIN p (agcGain (a.get F.GNRF_PATH_CFG_AGCMODE.act p) (a.get F.GNRF_AGC_CFG_MANGAIN.act p)
          (a.get F.GNRF_AGC_STAT_GAIN p) (a.get F.GNRF_AGC_CFG_TARGET.act p) (min x.rms 4095))
      let a := a.setVar V.pfSat p (a.var V.pfSat p + x.sat)
      a.each [0, 1, 2] (fun e b =>
        if b.var V.acqPhase e = 3 ∧ b.acqPath (b.acqEnt e) = p ∧ 0 < b.since V.acqCapAt e then b.setVar V.acqClip e (b.var V.acqClip e + x.sat) else b))

def execAgcUpdate (m : AgcMs) (s : State) : Host.Outcome State Fault Refusal := s.upd (fun d => d.agcUpdate m.paths m.errs.toNat)

/-- Offset of a bin of the monitor from the centre of its path, Hz (R116): 4,096 bins over 204.6 MHz, the middle one at the centre. -/
def binHz (k : Nat) : Int := ((k : Int) - 2048) * 204600000 / 4096

/-- The strongest bin within 1 MHz of a frequency, the lowest of equal ones: its number and level. -/
def lineNear (bins : List Int) (f : Int) : Option (Nat × Int) :=
  (List.range 4096).foldl (fun b k =>
    if |binHz k - f| ≤ 1000000 then
      (match b with
       | some x => if x.2 < bins.getD k 0 then some (k, bins.getD k 0) else b
       | none => some (k, bins.getD k 0))
    else b) none

/-- A held ADAPT notch over one more scan (R117): it follows its line, by at most 1 MHz, and the time for which the line has lain below DETTH - 3 dB
starts or ends. Its line is the strongest bin within 1 MHz of its centre: the spec does not say how the monitor tells one line from another, and this is
the model's choice (log entry 180). -/
def Dev.notchTrack (d : Dev) (p n : Nat) (bins : List Int) (nf : Int) : Dev :=
  let k := 4 * p + n
  if d.get F.GNRF_NOTCH_CFG_MODE.act k != 2 || !d.on F.GNRF_NOTCH_STAT_ACTIVE k then d
  else match lineNear bins (d.getI F.GNRF_NOTCH_FNOW_FNOW k) with
    | none => d
    | some x =>
      let lvl := x.2 - nf
      let d := (d.setI F.GNRF_NOTCH_FNOW_FNOW k (binHz x.1)).setVar V.notchLvl k lvl
      if lvl < 5 * (d.get F.GNRF_NOTCH_CFG_DETTH.act k : Int) - 30 then
        (if d.var V.notchLow k = 1 then d else (d.setVar V.notchLow k 1).mark V.notchLowAt k)
      else d.setVar V.notchLow k 0

/-- SPECTRAL_SCAN (R116): once per millisecond the monitor takes the 4,096 bins of each path, in 0.1 dBFS per MHz; it reports their median as the noise
floor and the strongest one above it, and the held notches track their lines. Bins and levels are kept for NOTCH_ASSIGN (history 10). -/
def Dev.spectralScan (d : Dev) (p : Nat) (bins : List Int) : Dev :=
  if !d.running 0x10 then d
  else
    let nf := median bins
    let top := bins.foldl max nf
    let d := ((d.setI F.GNRF_SPEC_STAT_NF p (clamp (-32768) 32767 nf)).set F.GNRF_SPEC_STAT_PEAKDB p (min (top - nf).toNat 0xFFFF)).setPast 10 p
      (bins.map (fun x => (nf, x)))
    d.each (List.range 4) (fun n a => a.notchTrack p n bins nf)

def execSpectralScan (p : Fin 9) (bins : List Int) (_ : Unit) (s : State) : Host.Outcome State Fault Refusal := s.upd (fun d => d.spectralScan p bins)

/-- A notch takes a line (R117). Its attenuation is at least 40 dB; how much more is a free value (log entry 10). -/
def Dev.notchTake (d : Dev) (p n : Nat) (freq lvl : Int) : Dev :=
  let k := 4 * p + n
  ((((((d.set F.GNRF_NOTCH_STAT_ACTIVE k 1).set F.GNRF_NOTCH_STAT_ATTEN k (80 + d.freeVal % 176)).useFree).setI F.GNRF_NOTCH_FNOW_FNOW k
    freq).setVar V.notchLvl k lvl).setVar V.notchLow k 0).notchChange p

/-- The notch is in the ADAPT pool and free, and the line rises above its DETTH. -/
def Dev.notchFree (d : Dev) (p : Nat) (lvl : Int) (n : Nat) : Bool :=
  d.get F.GNRF_NOTCH_CFG_MODE.act (4 * p + n) == 2 && !d.on F.GNRF_NOTCH_STAT_ACTIVE (4 * p + n) &&
    decide (5 * (d.get F.GNRF_NOTCH_CFG_DETTH.act (4 * p + n) : Int) < lvl)

/-- The ADAPT notches of a path that hold a line. -/
def Dev.notchHeld (d : Dev) (p : Nat) : List Nat :=
  (List.range 4).filter (fun n => d.get F.GNRF_NOTCH_CFG_MODE.act (4 * p + n) == 2 && d.on F.GNRF_NOTCH_STAT_ACTIVE (4 * p + n))

/-- The ADAPT notch that holds the weakest line, the lowest of equally weak ones (log entry 163). -/
def Dev.notchWeakest (d : Dev) (p : Nat) : Option Nat :=
  (d.notchHeld p).foldl
    (fun b n => match b with
      | none => some n
      | some x => if d.var V.notchLvl (4 * p + n) < d.var V.notchLvl (4 * p + x) then some n else some x) none

/-- A bin within 1 MHz of a held notch: it belongs to that notch's line (R117). -/
def Dev.notchOwned (d : Dev) (p b : Nat) : Bool :=
  (d.notchHeld p).any (fun n => decide (|binHz b - d.getI F.GNRF_NOTCH_FNOW_FNOW (4 * p + n)| ≤ 1000000))

/-- Of the bins of the last scan that belong to no held line, none is stronger than a level: the pool takes the strongest lines (R117). -/
def Dev.notchTop (d : Dev) (p : Nat) (lv : Int) : Bool := (d.past 10 p).zipIdx.all (fun e => d.notchOwned p e.2 || decide (e.1.2 ≤ lv))

/-- NOTCH_ASSIGN (R117): at a tick the line at a bin of the last scan is assigned to a free ADAPT notch, the lowest of several (log entry 163), or takes the
notch of the weakest held line if it is at least 3 dB stronger. Of several lines to assign the strongest goes first. -/
def Dev.notchAssign (d : Dev) (p b : Nat) : Dev :=
  match (d.past 10 p)[b]? with
  | none => d
  | some x =>
    let lvl := x.2 - x.1
    if !d.running 0x10 || !d.atTick || d.notchOwned p b || !d.notchTop p x.2 then d
    else match (List.range 4).find? (d.notchFree p lvl) with
      | some n => d.notchTake p n (binHz b) lvl
      | none => match d.notchWeakest p with
        | some n =>
          if 5 * (d.get F.GNRF_NOTCH_CFG_DETTH.act (4 * p + n) : Int) < lvl ∧ d.var V.notchLvl (4 * p + n) + 30 ≤ lvl then
            d.notchTake p n (binHz b) lvl else d
        | none => d

def execNotchAssign (p : Fin 9) (b : Fin 4096) (_ : Unit) (s : State) : Host.Outcome State Fault Refusal := s.upd (fun d => d.notchAssign p b)

/-- NOTCH_RELEASE (R117): the line of an assigned ADAPT notch has stayed below DETTH - 3 dB for 100 ms. -/
def Dev.notchRelease (d : Dev) (p n : Nat) : Dev :=
  let k := 4 * p + n
  if d.get F.GNRF_NOTCH_CFG_MODE.act k == 2 && d.on F.GNRF_NOTCH_STAT_ACTIVE k && d.var V.notchLow k == 1 && d.passed V.notchLowAt k 100000000 then
    ((((d.set F.GNRF_NOTCH_STAT_ACTIVE k 0).set F.GNRF_NOTCH_STAT_ATTEN k 0).setVar V.notchLvl k 0).setVar V.notchLow k 0).notchChange p
  else d

def execNotchRelease (p : Fin 9) (n : Fin 4) (s : State) : Host.Outcome State Fault Refusal := s.upd (fun d => d.notchRelease p n)

/-- PATH_DISABLE (R138, R154): EN goes to 0, the samples turn invalid and a capture on the path ends with RFCHG. -/
def execPathDisable (a : Acc) (p : Fin 9) (s : State) : Host.Outcome State Fault Refusal :=
  s.upd (fun d => d.wr 0x10 (0x1000 + 0x80 * p.val) a (fun d =>
    let v := d.var V.pathValid p
    ((d.set F.GNRF_PATH_CFG_EN p 0).pathDown p).setVar V.pathValid p v) (d.on F.GNRF_PATH_CFG_EN p))

/-! ### Acquisition -/

/-- ACQ_GO (R133): in IDLE the list starts at START; elsewhere BCODE 0x1. With RUN 0 it is ignored (log entry 205). -/
def execAcqGo (a : Acc) (s : State) : Host.Outcome State Fault Refusal :=
  s.upd (fun d => d.wrCh 0x11 0x100 a (fun e d =>
    if d.get F.GNAQ_ENG_STAT_STATE e = 0 then
      if d.running 0x11 then
        ((d.set F.GNAQ_ENG_DONE_CNT e 0).setVar V.acqStart e (d.get F.GNAQ_ENG_CTRL_START e)).acqSeek e (d.get F.GNAQ_ENG_CTRL_START e)
      else d
    else d.errBlk 0x11 1 0))

/-- ACQ_ABORT (R134): the entry in service ends with ABORTED, the engine turns IDLE and the held snapshot is lost. One in IDLE does nothing, and
a held snapshot stays (log entry 32). -/
def execAcqAbort (a : Acc) (s : State) : Host.Outcome State Fault Refusal :=
  s.upd (fun d => d.wrCh 0x11 0x100 a (fun e d =>
    if d.get F.GNAQ_ENG_STAT_STATE e = 0 then d else (d.setVar V.heldOk e 0).acqEndFree e 3 false))

/-- Milliseconds of snapshot an entry takes (R121). -/
def Dev.acqMs (d : Dev) (k : Nat) : Nat := d.get F.ENT_CFG1_TCOH k * d.get F.ENT_CFG1_NNC k

/-- The entry is rejected as INVALID (R129). -/
def Dev.acqInvalid (d : Dev) (e k : Nat) : Bool :=
  match sigOf (d.get F.ENT_CFG0_SIG k) with
  | none => true
  | some g =>
    let t := d.get F.ENT_CFG1_TCOH k
    let n := d.get F.ENT_CFG1_NNC k
    let w := d.get F.ENT_CFG1_NWIN k
    let size := g.samples * (t * n)
    !sigSatOk g (d.get F.ENT_CFG0_PRN k) (d.get F.ENT_CFG0_GLOK k) ||
    decide (t = 0 ∨ 20 < t ∨ n = 0 ∨ 1000 < n ∨ 1000 < t * n) ||
    decide (d.get F.ENT_DOP_NBIN k = 0 ∨ 100000 < |d.getI F.ENT_FDC_FDC k|) ||
    (g.win && decide (w = 0 ∨ g.per < d.get F.ENT_CFG1_WBASE k + w)) ||
    decide (d.get F.ENT_CFG0_ANT k = 3) || !d.on F.GNRF_PATH_CFG_EN (d.acqPath k) || !d.bandOk (d.get F.ENT_CFG0_ANT k) g ||
    decide (min (d.get F.GNAQ_ENG_SNAP_SIZE_SIZE.act e) 1000 * 65536 < size)

/-- The held snapshot serves the entry (R130). -/
def Dev.acqReuse (d : Dev) (e k : Nat) : Bool :=
  match sigOf (d.get F.ENT_CFG0_SIG k) with
  | none => false
  | some g => d.var V.heldOk e == 1 && d.var V.heldPath e == d.acqPath k && d.var V.heldCar e == (g.khz : Int) &&
      d.var V.heldGlok e == d.get F.ENT_CFG0_GLOK k && d.var V.heldWin e == (bit g.win : Int) && decide ((d.acqMs k : Int) ≤ d.var V.heldMs e)

/-- ACQ_ENTRY_START (R129, R130): the engine reads the entry in service; it rejects it as INVALID, searches the held snapshot, or waits for a
tick to capture. -/
def Dev.acqEntryStart (d : Dev) (e : Nat) : Dev :=
  if d.var V.acqPhase e ≠ 1 then d
  else
    let k := d.acqEnt e
    let d := (d.setVar V.acqFlags e 0).setVar V.acqClip e 0
    if d.acqInvalid e k then d.acqEndFree e 6 true
    else
      let d := ((d.set F.ENT_RES_STATUS k 7).set F.GNAQ_ENG_STAT_BIN e 0).set F.GNAQ_ENG_STAT_WIN e 0
      if d.on F.ENT_CFG0_REUSE k && d.acqReuse e k then ((d.set F.GNAQ_ENG_STAT_STATE e 2).setVar V.acqPhase e 4).mark V.acqStepAt e
      else
        ((d.setVar V.acqFlags e (if d.on F.ENT_CFG0_REUSE k then 16 else 0)).set F.GNAQ_ENG_STAT_STATE e 1).setVar V.acqPhase e 2

def execAcqEntryStart (e : Fin 3) (s : State) : Host.Outcome State Fault Refusal := s.upd (fun d => d.acqEntryStart e)

/-- ACQ_CAPTURE_START (R121, R130): at the tick the capture begins and the held snapshot is lost. A path that is already invalid then ends the entry with
RFCHG, as one that turns invalid during the capture does: the spec speaks of the capture only, and this is the model's choice (log entry 164). -/
def Dev.acqCaptureStart (d : Dev) (e : Nat) : Dev :=
  if d.var V.acqPhase e ≠ 2 ∨ d.atTick = false then d
  else
    let d := (d.setVar V.heldOk e 0).setVar V.acqT0 e (d.now / 1000000)
    if d.pathOk (d.acqPath (d.acqEnt e)) then (d.setVar V.acqPhase e 3).mark V.acqCapAt e
    else d.acqEnd e 4 ⟨0, 0, 0, 0⟩ 0 true

def execAcqCaptureStart (e : Fin 3) (s : State) : Host.Outcome State Fault Refusal := s.upd (fun d => d.acqCaptureStart e)

/-- The signal of the entry in service. -/
def Dev.acqSig (d : Dev) (e : Nat) : Option Sig := sigOf (d.get F.ENT_CFG0_SIG (d.acqEnt e))

/-- Bytes of the snapshot that the entry in service takes (R121). -/
def Dev.acqBytes (d : Dev) (e : Nat) : Nat := (match d.acqSig e with | some g => g.samples | none => 0) * d.acqMs (d.acqEnt e)

/-- An access to the snapshot fails: the entry ends with FAULT (R128, R144). -/
def Dev.acqFault (d : Dev) (e : Nat) : Dev := (d.irq 0x11 (12 + e)).acqEnd e 5 ⟨0, 0, 0, 0⟩ 0 true

/-- ACQ_CAPTURE_END (R121 to R123, R128, R132): after TCOH * NNC ms the snapshot's samples stand in the buffer and the search begins, or the
entry ends with FAULT where an access failed. The bytes go to memory here, all at once; a capture that ends early has written none (log entry 168). -/
def State.acqCaptureEnd (s : State) (e : Nat) (l : List Byte) : State :=
  let k := s.dev.acqEnt e
  if s.dev.var V.acqPhase e ≠ 3 ∨ ¬ s.dev.passed V.acqCapAt e (s.dev.acqMs k * 1000000) then s
  else
    match State.devWrite { s with dev := s.dev.acqSat e } (0x0110 + e) (s.dev.get F.GNAQ_ENG_SNAP_BASE.act e / 4096 * 4096)
        (padTo (s.dev.acqBytes e) (l.map (·.toNat))) with
    | (s, some _) => { s with dev := s.dev.acqFault e }
    | (s, none) =>
      let g := s.dev.acqSig e
      let d := ((s.dev.setVar V.heldOk e 1).setVar V.heldPath e (s.dev.acqPath k)).setVar V.heldCar e (match g with | some g => (g.khz : Int) | none => 0)
      let d := (d.setVar V.heldGlok e (d.get F.ENT_CFG0_GLOK k)).setVar V.heldWin e (match g with | some g => (bit g.win : Int) | none => 0)
      { s with dev := (((d.setVar V.heldMs e (d.acqMs k)).set F.GNAQ_ENG_STAT_STATE e 2).setVar V.acqPhase e 4).mark V.acqStepAt e }

def execAcqCaptureEnd (e : Fin 3) (l : List Byte) (s : State) : Host.Outcome State Fault Refusal := .next (s.acqCaptureEnd e l)

/-- Doppler of a bin, Hz (R125). -/
def Dev.binDop (d : Dev) (k j : Nat) : Int :=
  d.getI F.ENT_FDC_FDC k + ((j : Int) - ((d.get F.ENT_DOP_NBIN k - 1) / 2 : Nat)) * d.get F.ENT_DOP_STEP k

/-- Windows of an entry (R126). -/
def Dev.acqWins (d : Dev) (e : Nat) : Nat :=
  match d.acqSig e with | some g => if g.win then d.get F.ENT_CFG1_NWIN (d.acqEnt e) else 1 | none => 1

/-- Time of the bin step in service, ns (R126): 16 us for each millisecond, with 20 us of set-up before the first step and 16 us * TCOH of replica
transforms before each window in WINDOW mode. -/
def Dev.acqStepNs (d : Dev) (e : Nat) : Nat :=
  let k := d.acqEnt e
  let b := d.get F.GNAQ_ENG_STAT_BIN e
  16000 * d.acqMs k + (if b = 0 ∧ d.get F.GNAQ_ENG_STAT_WIN e = 0 then 20000 else 0) +
    (if b == 0 && (match d.acqSig e with | some g => g.win | none => false) then 16000 * d.get F.ENT_CFG1_TCOH k else 0)

/-- The cells of the bin step in service, from the snapshot's bytes (R124, R125). -/
def Dev.acqCells (d : Dev) (e : Nat) (l : List Nat) : List Cell :=
  match d.acqSig e with
  | none => []
  | some g =>
    let k := d.acqEnt e
    let j := d.get F.GNAQ_ENG_STAT_BIN e
    let w := if g.win then d.get F.ENT_CFG1_WBASE k + d.get F.GNAQ_ENG_STAT_WIN e else 0
    (List.range g.samples).map (fun tau =>
      (cellKey j (if g.win then 65536 * w + 2 * tau else tau),
        g.cell (d.get F.ENT_CFG0_PRN k) (d.get F.ENT_CFG0_GLOK k) (d.binDop k j) (d.get F.ENT_CFG1_TCOH k) (d.get F.ENT_CFG1_NNC k) w tau l))

/-- The results over the bin steps searched so far (R127; history 8). PEAK and RATIO are free values where their divisor is 0 (log entry 167). -/
def Dev.acqResult (d : Dev) (e : Nat) : AcqRes :=
  let l := d.past 8 e
  let w := bestCell l
  match d.acqSig e with
  | none => ⟨0, 0, 0, 0⟩
  | some g =>
    let step := l.filter (fun c => Cell.bin c == Cell.bin w && (!g.win || Cell.cph c / 65536 == Cell.cph w / 65536))
    ⟨(g.peak w step).getD (Config.free d.free), (g.ratio w l).getD (Config.free (d.free + 1)), Cell.cph w, Cell.bin w⟩

/-- The entry in service ends with the results so far (R127). -/
def Dev.acqDone (d : Dev) (e status : Nat) : Dev :=
  ({ d with free := d.free + 2 } : Dev).acqEnd e status (d.acqResult e) (d.var V.acqT0 e).toNat true

/-- ACQ_BIN_STEP (R124 to R126, R128, R131): one window and bin pair is searched, windows in the outer order. The engine reads the snapshot, and an access
that fails ends the entry with FAULT. With EARLY a step whose best cell reaches DETTH ends the entry. After a copy of ENG_SNAP the steps that remain read from the
new BASE (log entry 206). -/
def State.acqBinStep (s : State) (e : Nat) : State :=
  if s.dev.var V.acqPhase e ≠ 4 ∨ ¬ s.dev.passed V.acqStepAt e (s.dev.acqStepNs e) then s
  else
    match State.devRead s (0x0110 + e) (s.dev.get F.GNAQ_ENG_SNAP_BASE.act e / 4096 * 4096) (s.dev.acqBytes e) with
    | (s, .error _) => { s with dev := s.dev.acqFault e }
    | (s, .ok l) =>
      let k := s.dev.acqEnt e
      let b := s.dev.get F.GNAQ_ENG_STAT_BIN e
      let w := s.dev.get F.GNAQ_ENG_STAT_WIN e
      let cells := s.dev.acqCells e l
      let top := (match s.dev.acqSig e with | some g => g.peak (bestCell cells) cells | none => none).getD s.dev.freeVal
      let d := ((s.dev.setPast 8 e ((if b = 0 ∧ w = 0 then [] else s.dev.past 8 e) ++ cells)).boundary 0x11 e).mark V.acqStepAt e
      let d :=
        if d.on F.GNAQ_ENG_CFG_EARLY.act e && decide (d.get F.GNAQ_ENG_CFG_DETTH.act e ≤ top) then (d.irq 0x11 (8 + e)).acqDone e 2
        else if b + 1 < d.get F.ENT_DOP_NBIN k then d.set F.GNAQ_ENG_STAT_BIN e (b + 1)
        else if w + 1 < d.acqWins e then (d.set F.GNAQ_ENG_STAT_BIN e 0).set F.GNAQ_ENG_STAT_WIN e (w + 1)
        else d.setVar V.acqPhase e 5
      { s with dev := d.useFree }

def execAcqBinStep (e : Fin 3) (_ _ : Unit) (s : State) : Host.Outcome State Fault Refusal := .next (s.acqBinStep e)

/-- ACQ_ENTRY_END (R127, R128): all bin steps are searched; the results are written with DONE. -/
def Dev.acqEntryEnd (d : Dev) (e : Nat) : Dev := if d.var V.acqPhase e ≠ 5 then d else d.acqDone e 1

def execAcqEntryEnd (e : Fin 3) (_ : Unit) (s : State) : Host.Outcome State Fault Refusal := s.upd (fun d => d.acqEntryEnd e)

/-- Writes a configuration word of a search-list entry. -/
def Dev.acqWord (d : Dev) (k w v : Nat) : Dev :=
  match w with
  | 0 => (((((((d.set F.ENT_CFG0_EN k (v / 2 ^ 31)).set F.ENT_CFG0_LAST k (v / 2 ^ 30)).set F.ENT_CFG0_IRQ k (v / 2 ^ 29)).set F.ENT_CFG0_REUSE k
      (v / 2 ^ 28)).set F.ENT_CFG0_GLOK k (v / 2 ^ 24)).set F.ENT_CFG0_PRN k (v / 2 ^ 16)).set F.ENT_CFG0_ANT k (v / 2 ^ 8)).set F.ENT_CFG0_SIG k v
  | 1 => (((d.set F.ENT_CFG1_WBASE k (v / 2 ^ 25)).set F.ENT_CFG1_NWIN k (v / 2 ^ 20)).set F.ENT_CFG1_NNC k (v / 2 ^ 8)).set F.ENT_CFG1_TCOH k v
  | 2 => d.set F.ENT_FDC_FDC k v
  | _ => (d.set F.ENT_DOP_NBIN k (v / 2 ^ 16)).set F.ENT_DOP_STEP k v

/-- Whether the word written differs from the configuration word held (R660). -/
def Dev.acqDiffers (d : Dev) (k w v : Nat) : Bool :=
  let e := d.acqWord k w v
  ([F.ENT_CFG0_EN, F.ENT_CFG0_LAST, F.ENT_CFG0_IRQ, F.ENT_CFG0_REUSE, F.ENT_CFG0_GLOK, F.ENT_CFG0_PRN, F.ENT_CFG0_ANT, F.ENT_CFG0_SIG,
    F.ENT_CFG1_WBASE, F.ENT_CFG1_NWIN, F.ENT_CFG1_NNC, F.ENT_CFG1_TCOH, F.ENT_FDC_FDC, F.ENT_DOP_NBIN, F.ENT_DOP_STEP] : List Fld).any
    (fun f => e.get f k != d.get f k)

/-- ACQ_ENTRY_WRITE (R135, R660): the configuration words of the entry in service are refused with BCODE 0x2; a write of CFG0 of another entry
sets its STATUS to NONE and clears its FLAGS. -/
def execAcqEntryWrite (a : Acc) (e : Fin 3) (i : Fin 128) (w : Fin 4) (v : BitVec 32) (s : State) : Host.Outcome State Fault Refusal :=
  s.upd (fun d => d.wr 0x11 (0x1000 + 0x1000 * e.val + 0x20 * i.val + 4 * w.val) a (fun d =>
    let k := e.val * 128 + i.val
    if d.get F.GNAQ_ENG_STAT_STATE e ≠ 0 ∧ d.get F.GNAQ_ENG_STAT_ENTRY e = i.val then
      (if d.acqDiffers k w v.toNat then d.errBlk 0x11 2 0 else d)
    else
      let d := d.acqWord k w v.toNat
      if w.val = 0 then (d.set F.ENT_RES_STATUS k 0).set F.ENT_RES_FLAGS k 0 else d)
    (d.acqDiffers (e.val * 128 + i.val) w v.toNat))

end Sys2Proof.Machine
end

