-- ==== Sys2Proof/Machine/Kiln.lean ====
section
/-! DEFINITION. The Kiln commands and the Cones sweep (spec/19_kiln_cones.md, R585 to R608). -/

namespace Sys2Proof.Machine

/-- KILN_RUN_REQUEST (R591, R606): the regions of MASK are requested; while a request is in progress it is refused whole. -/
def Dev.kilnRequest (d : Dev) (mask : Nat) : Dev :=
  if !d.on F.COM_CTRL_EN 0x05 || mask == 0 then d
  else if d.var V.kilnOn 0 = 1 then d.kilnRefuse 4
  else (d.kilnLaunch mask 0 0).kilnFinish

def execKilnRunRequest (a : Acc) (mask : BitVec 7) (s : State) : Host.Outcome State Fault Refusal :=
  .next (s.updMem (fun d => d.wr 0x05 0x800 a (fun d => d.kilnRequest mask.toNat)))

/-- KILN_RUN_COMMAND (R591, R593): a RUN record in the command slot, which waits while the keeper is down. -/
def Dev.kilnCommand (d : Dev) : Dev :=
  let i := 328 + d.get F.KILN_CFG_CSLOT 0
  let b := d.clrPub i
  let mask := leAt b 12 4
  if !(d.on F.COM_CTRL_EN 0x05 && d.cmdNew i && d.var V.keeperUp 0 == 1) then d
  else
    let d := d.cmdTake i
    if leAt b 8 1 ≠ 1 ∨ leAt b 10 2 ≠ 0 ∨ mask = 0 ∨ 128 ≤ mask ∨ (b.drop 16).any (· != 0) then d.kilnReply (leAt b 9 1) 2 0
    else if d.var V.kilnOn 0 = 1 then (d.kilnRefuse 4).kilnReply (leAt b 9 1) 1 0
    else (d.kilnLaunch mask 1 (leAt b 9 1)).kilnFinish

def execKilnRunCommand (s : State) : Host.Outcome State Fault Refusal := .next (s.updMem Dev.kilnCommand)

/-- KILN_QUIESCED (R589, R594): the region has halted, its flops are saved, and patterns are applied. -/
def execKilnQuiesced (s : State) : Host.Outcome State Fault Refusal :=
  s.upd (fun d => if d.get F.KILN_STATE_ST 0 = 1 then (d.set F.KILN_STATE_ST 0 3).mark V.kilnAt 0 else d)

/-- The MISR that the run in progress leaves where the region is without a fault (R587): with the OTP seed and the patterns of R585 the golden signature,
else what no rule gives. -/
def Dev.kilnSound (d : Dev) (r : Nat) : Nat :=
  if d.kilnSeedOf r = Config.kilnSeed r ∧ d.kilnPats r = kilnP r then Config.kilnGold r % 2 ^ 64
  else Config.kilnMisr r (d.kilnSeedOf r) (d.kilnPats r) % 2 ^ 64

/-- KILN_PATTERN_DONE (R585, R595): all patterns are applied and the flops restored, or the save memory has an uncorrectable error: no restore, ABORT,
and the keeper requests a control-plane reset. `diff` is what the faults of the region change in the MISR, which is linear: 0 where it has none. -/
def Dev.kilnPattern (d : Dev) (diff : Nat) (ecc : Bool) : Dev :=
  let r := d.get F.KILN_STATE_REG 0
  if d.get F.KILN_STATE_ST 0 ≠ 3 ∨ d.since V.kilnAt 0 < d.kilnSaveTime + d.kilnPats r * kilnShift r then d
  else
    let d := ((d.mark V.kilnAt 0).set F.KILN_MISR_MISR r (d.kilnSound r ^^^ diff)).set F.KILN_STATE_PATS 0 (min 65535 (d.kilnPats r))
    if ecc && d.var V.kilnSave 0 == 1 then
      (let d := d.kilnAbort
       if d.var V.cpReq 0 = 0 then d.setVar V.cpReq 0 5 else d)
    else d.set F.KILN_STATE_ST 0 5

def execKilnPatternDone (diff : BitVec 64) (ecc : Bool) (s : State) : Host.Outcome State Fault Refusal :=
  .next (s.updMem (fun d => d.kilnPattern diff.toNat ecc))

/-- The MISR passes (R587, R594, R607): it equals the golden signature, or pattern control takes it without comparing. -/
def Dev.kilnPass (d : Dev) (r : Nat) : Bool :=
  (d.kilnFree && d.on F.KILN_PCTL_CHKOFF r) || d.get F.KILN_MISR_MISR r == Config.kilnGold r % 2 ^ 64

/-- KILN_RUN_END (R586, R594, R597): the result is recorded, the next region starts, and after K6 a module reset follows. -/
def Dev.kilnEnd (d : Dev) : Dev :=
  if d.get F.KILN_STATE_ST 0 ≠ 5 ∨ d.since V.kilnAt 0 < d.kilnSaveTime then d
  else
    let r := d.get F.KILN_STATE_REG 0
    let ok := d.kilnPass r
    let d := d.kilnClose r (if ok then 1 else 2)
    let d := if ok then d else d.kilnFail r
    let d := if r = 6 then d.setVar V.modReq 0 3 else d
    d.kilnScan.kilnFinish

def execKilnRunEnd (s : State) : Host.Outcome State Fault Refusal := .next (s.updMem Dev.kilnEnd)

/-- DUEINT in hours; 0 acts as 24 (R605). -/
def Dev.dueInt (d : Dev) (r : Nat) : Nat := if d.get F.KILN_RG_CFG_DUEINT r = 0 then 24 else d.get F.KILN_RG_CFG_DUEINT r

/-- KILN_AGE_HOUR (R597, R598): a region for which another hour of released control plane has passed counts it; at DUEINT DUE sets. -/
def Dev.ageHour (d : Dev) (r : Nat) : Dev :=
  let n := d.get F.KILN_RG_AGE_AGE r + 1
  if d.ctlReleased - d.var V.kilnMark r < (n : Int) * 3600000000000 * 65536 then d
  else
    let d := d.set F.KILN_RG_AGE_AGE r (min 65535 n)
    if d.dueInt r ≤ n ∧ !d.on F.KILN_RG_STAT_DUE r then ((d.set F.KILN_RG_STAT_DUE r 1).irq 0x05 2).errBlk 0x05 2 1 else d

def execKilnAgeHour (s : State) : Host.Outcome State Fault Refusal := s.upd (fun d => d.each (List.range 7) (fun r a => a.ageHour r))

/-! ### Cones -/

/-- A block that a sweep does not read (R603): it is in soft reset, or the domains of the planes are powered down and it is not of AON. -/
def Dev.coneDown (d : Dev) (slot : Nat) : Bool := d.var V.softRst slot != 0 || (d.var V.planesOff 0 == 1 && clockOf slot != 160)

/-- The record of a position (R604): SLOT, VALID, TEST or DOWN, STAMP and the counters. The stamp lies within one period of the block's clock of the
capture's instant (R602). -/
def Dev.coneRecord (d : Dev) (t0 i slot : Nat) : Dev :=
  let test := d.var V.underKiln slot == 1
  let down := d.coneDown slot && !test
  let flags := if test then 2 else if down then 4 else 1
  let stamp := t0 + 8 * i + d.freeVal % (10000 / clockOf slot + 1)
  let cnt := (List.range 4).flatMap (fun n =>
    leBytes 8 (d.get F.COM_CONE_CNT_V (4 * slot + n) + d.get F.COM_CONE_CNT_WRAP (4 * slot + n) * 2 ^ 63))
  if flags = 1 then
    let d := d.useFree.setBlob 20 i ([slot, 1] ++ List.replicate 6 0 ++ leBytes 8 stamp ++ cnt)
    if d.on F.CONE_SWEEP_CFG_CLR 0 then d.each (List.range 4) (fun n a => a.set F.COM_CONE_CNT_V (4 * slot + n) 0) else d
  else d.setBlob 20 i ([slot, flags] ++ List.replicate 46 0)

/-- A sweep starts and captures the counters (R602, R603). -/
def Dev.coneStart (d : Dev) : Dev :=
  let t0 := toBits 64 d.now
  let d := (((d.incWrap F.CONE_SWEEP_SEQ_SEQ 0).set F.CONE_SWEEP_T0_T0 0 t0).setVar V.coneOn 0 1).mark V.coneAt 0
  (slots.zipIdx).foldl (fun a e => a.coneRecord t0 e.2 e.1) d

/-- CONE_SWEEP_GO (R603): ignored while a sweep runs. -/
def execConeSweepGo (a : Acc) (s : State) : Host.Outcome State Fault Refusal :=
  s.upd (fun d => d.wr 0x06 0x804 a (fun d =>
    if !d.running 0x06 then d else if d.var V.coneOn 0 = 1 then d.errBlk 0x06 1 0 else d.coneStart))

/-- CONE_SWEEP_PERIODIC (R603): PERIOD ms after the last start; skipped while a sweep runs. -/
def Dev.conePeriodic (d : Dev) : Dev :=
  let p := d.get F.CONE_SWEEP_CFG_PERIOD 0
  if !(d.running 0x06 && p != 0 && d.passed V.coneAt 0 (p * 1000000)) then d
  else if d.var V.coneOn 0 = 1 then d.setVar V.coneAt 0 (d.var V.coneAt 0 + p * 1000000 * 65536) else d.coneStart

def execConeSweepPeriodic (s : State) : Host.Outcome State Fault Refusal := s.upd Dev.conePeriodic

/-- CONE_SWEEP_DONE (R602): SEQ turns even. -/
def execConeSweepDone (s : State) : Host.Outcome State Fault Refusal :=
  s.upd (fun d => if d.var V.coneOn 0 = 1 then ((d.incWrap F.CONE_SWEEP_SEQ_SEQ 0).setVar V.coneOn 0 0).irq 0x06 0 else d)

end Sys2Proof.Machine
end

