-- ==== Sys2Proof/Machine/Pwr.lean ====
section
/-! DEFINITION. PWR: supply, deadman, idle, mode requests, LIMP, wake and shutdown (spec/20_power_modes_startup.md, R609 to R631). -/

namespace Sys2Proof.Machine

/-! ### Supply (R611, R612) -/

/-- SUPPLY_LOSS (R611): VSUP has been below 12 V for 100 us. SUPLOSS and its record; SOL decays and the converters stop; theta is stored; a panel line and a Kiln run
end; a transition in
progress stops. -/
def Dev.supplyLoss (d : Dev) : Dev :=
  if d.on F.PWR_SUPPLY_SUPLOSS 0 || d.var V.supOn 3 != 1 || !d.passed V.supOnAt 3 100000 then d
  else
    let d := (((d.set F.PWR_SUPPLY_SUPLOSS 0 1).pwrFault.mark V.supAt 0).irq 0x01 2).errDirect 0x01 3 1
    let d := (d.solAllOff.bstStop.when (d.var V.planesOff 0 == 0) Dev.thetaStore).segAbort
    ((d.pwrClear).setVar V.wakePend 0 0).kilnAbort

def execSupplyLoss (s : State) : Host.Outcome State Fault Refusal := .next (s.updMem Dev.supplyLoss)

/-- SUPPLY_RETURN (R347, R612): VSUP has risen above 12 V within the 15 ms, and SUPLOSS clears; SOL channels return as at the end of module under-voltage. A PSC0 that has run on
makes the stored wire models used. -/
def Dev.supplyReturn (d : Dev) : Dev :=
  if d.on F.PWR_SUPPLY_SUPLOSS 0 && d.var V.modReq 0 == 0 && d.var V.supOn 3 == 0 && !d.passed V.supAt 0 14900000 then
    (((d.set F.PWR_SUPPLY_SUPLOSS 0 0).pwrFault.irq 0x01 3).when (d.var V.planesOff 0 == 0) (fun a => a.setVar V.thValid 0 0)).solRestart
  else d

def execSupplyReturn (s : State) : Host.Outcome State Fault Refusal := s.upd Dev.supplyReturn

/-- HOLDUP_EXPIRY (R612): 15 ms after VSUP fell, so 14.9 ms after the announcement, PWR starts a module reset with cause 2. -/
def Dev.holdupExpiry (d : Dev) : Dev :=
  if d.on F.PWR_SUPPLY_SUPLOSS 0 && d.passed V.supAt 0 14900000 then d.setVar V.modReq 0 2 else d

def execHoldupExpiry (s : State) : Host.Outcome State Fault Refusal := s.upd Dev.holdupExpiry

/-! ### The deadman (R613 to R615) -/

/-- An accepted heartbeat moves the deadline; one that SAGR blocks at the deadman's input counts as missed (R578). -/
def Dev.heartbeat (d : Dev) (key : Nat) : Dev :=
  if key ≠ 0x5AC3 ∧ key ≠ 0xA53C ∨ (key : Int) = d.var V.hbLast 0 then d.errBlk 0x01 7 0
  else if d.var V.hbBlock 0 = 1 then d
  else ((d.setVar V.hbLast 0 key).set F.PWR_HBLAST_T 0 (toBits 64 d.now)).setVar V.hbDue 0 (d.var V.uptime 0 + 10000000 * 65536)

/-- The pair of a bank is halted by a Kiln run of its region, so that it gives no heartbeat (R589, R596). -/
def Dev.pairHalted (d : Dev) (bank : Nat) : Bool :=
  decide (2 ≤ d.get F.KILN_STATE_ST 0) && ((bank == 8 && d.get F.KILN_STATE_REG 0 == 0) || (bank == 9 && d.get F.KILN_STATE_REG 0 == 1))

/-- HEARTBEAT (R596, R613, R614): from banks 8 and 9 and from the keeper only, and from no pair that a Kiln run halts. -/
def execHeartbeat (a : Acc) (key : BitVec 16) (s : State) : Host.Outcome State Fault Refusal :=
  s.upd (fun d =>
    if !a.priv then ((d.cone 0x01 3).errAcc 0x01 2 0x830 a.bank.val).fail
    else if a.bank.val < 8 ∨ 10 < a.bank.val then ((d.cone 0x01 3).errAcc 0x01 3 0x830 a.bank.val).fail
    else if d.pairHalted a.bank.val then d
    else ((d.cone 0x01 2).asBank a.bank.val (fun d => d.heartbeat key.toNat)).good)

/-- DEADMAN_EXPIRY (R39, R358, R383, R615): CTLUP falls, both PSCs turn every output off, FBRK latches, the record and EXPCNT are written, and a control-plane reset with cause
DEAD is requested. -/
def Dev.deadExpiry (d : Dev) : Dev :=
  if !(d.on F.PWR_DEAD_ARMED 0 && decide (d.var V.hbDue 0 ≤ d.var V.uptime 0) && d.var V.deadOut 0 == 0) then d
  else
    let d := (((((d.setVar V.deadOut 0 1).setPlane 0 false).irq 0x01 5).errDirect 0x01 2 2).incSat F.PWR_DEAD_EXPCNT 0)
    let d := (d.lswSupply F.LSW_SUPPLY_DEAD true).lswHoldOn (List.range 24) F.LSW_CH_FLAGS_DEAD
    let d := (d.solSupply F.SOL_SUPPLY_DEAD true).solAllOff.bstStop.segAbort
    let d := d.fbLatchAll 4
    if d.var V.cpReq 0 = 0 then d.setVar V.cpReq 0 4 else d

def execDeadmanExpiry (s : State) : Host.Outcome State Fault Refusal := s.upd Dev.deadExpiry

/-! ### Idle (R617) -/

/-- No job and no DMA channel is at work. -/
def Dev.fabIdle (d : Dev) : Bool :=
  (List.range 64).all (fun j => d.get F.JOB_STAT_STATE j != 2 && d.get F.JOB_STAT_STATE j != 3) &&
    (List.range 64).all (fun c => d.get F.DMA_CH_STAT_STATE c != 1 && d.get F.DMA_CH_STAT_STATE c != 2)

/-- IDLE_ENTRY (R617): every application hart has been in WFI for IDLET us. -/
def Dev.idleEntry (d : Dev) : Dev :=
  if decide (2 ≤ d.get F.PWR_MODE_MODE 0) && d.get F.PWR_MODE_LADDER 0 == 0 && d.get F.PWR_TIMING_IDLET 0 != 0 && d.fabIdle then d.setLadder 1 else d

def execIdleEntry (s : State) : Host.Outcome State Fault Refusal := s.upd Dev.idleEntry

/-- IDLE_EXIT (R617): an interrupt to an application hart; the module stays in L1 while the data plane is not released. -/
def Dev.idleExit (d : Dev) : Dev :=
  if decide (2 ≤ d.get F.PWR_MODE_MODE 0) && d.get F.PWR_MODE_MODE 0 != 5 && d.get F.PWR_MODE_LADDER 0 == 1 && d.on F.SYS_REL_DP 0 then d.setLadder 0 else d

def execIdleExit (s : State) : Host.Outcome State Fault Refusal := s.upd Dev.idleExit

/-! ### Mode requests (R620 to R622) -/

/-- A request record that is malformed (R620): an unknown opcode, non-zero reserved bytes, or a mode code above 5. -/
def pwrBad (b : List Nat) : Bool :=
  let op := leAt b 8 1
  !(op == 1 || op == 2 || op == 3) || (b.drop 11).any (· != 0) || (op == 1 && decide (5 < leAt b 10 1))

/-- A new, well-formed request with an opcode. -/
def Dev.pwrReady (d : Dev) (ctl : Bool) (op : Nat) : Bool :=
  d.cmdNew (d.pwrSlot ctl) && !pwrBad (d.clrPub (d.pwrSlot ctl)) && leAt (d.clrPub (d.pwrSlot ctl)) 8 1 == op

/-- MODE_REQUEST (R620 to R622, R626). -/
def Dev.modeRequest (d : Dev) (ctl : Bool) : Dev :=
  if !d.pwrReady ctl 1 then d
  else
    let b := d.clrPub (d.pwrSlot ctl)
    let (d, st, c) := (d.cmdTake (d.pwrSlot ctl)).pwrAsk (if ctl then 1 else 2) (leAt b 9 1) (leAt b 10 1)
    d.pwrReply ctl 1 (leAt b 9 1) st c

def execModeRequest (ctl : Bool) (s : State) : Host.Outcome State Fault Refusal := .next (s.updMem (fun d => d.modeRequest ctl))

/-- MODE_STATUS (R620). -/
def Dev.modeStatus (d : Dev) (ctl : Bool) : Dev :=
  if !d.pwrReady ctl 2 then d
  else (d.cmdTake (d.pwrSlot ctl)).pwrReply ctl 2 (leAt (d.clrPub (d.pwrSlot ctl)) 9 1) 0 0

def execModeStatus (ctl : Bool) (s : State) : Host.Outcome State Fault Refusal := s.upd (fun d => d.modeStatus ctl)

/-- MODE_BAD_REQUEST (R620). -/
def Dev.modeBad (d : Dev) (ctl : Bool) : Dev :=
  let b := d.clrPub (d.pwrSlot ctl)
  if !(d.cmdNew (d.pwrSlot ctl) && pwrBad b) then d
  else (((d.cmdTake (d.pwrSlot ctl)).pwrReply ctl (leAt b 8 1) (leAt b 9 1) 2 0).irq 0x01 7).errBlk 0x01 1 0

def execModeBadRequest (ctl : Bool) (s : State) : Host.Outcome State Fault Refusal := s.upd (fun d => d.modeBad ctl)

/-- SHUTDOWN_ACK (R620, R626): ACKSHUT of the data plane ends step 1; where no PARKING notice stands it is answered STATE, with a cause that the spec does not
give. -/
def Dev.shutAck (d : Dev) (ctl : Bool) : Dev :=
  if !d.pwrReady ctl 3 then d
  else
    let tag := leAt (d.clrPub (d.pwrSlot ctl)) 9 1
    let d := d.cmdTake (d.pwrSlot ctl)
    if !ctl && d.var V.pwrStep 0 == 1 then d.pwrStop.pwrReply ctl 3 tag 0 0
    else (d.useFree.pwrReply ctl 3 tag 3 (d.freeVal % 256)).irq 0x01 7

def execShutdownAck (ctl : Bool) (s : State) : Host.Outcome State Fault Refusal := s.upd (fun d => d.shutAck ctl)

/-! ### LIMP (R623) -/

/-- LIMP_T in ms, 20 to 4,095. -/
def Dev.limpT (d : Dev) : Nat := max 20 (d.get F.PWR_CFG_LIMP_T 0)

/-- LIMP_ENTRY (R623): in ROAD or HARVEST, DATAUP has been 0 for LIMP_T ms. -/
def Dev.limpEntry (d : Dev) : Dev :=
  let m := d.get F.PWR_MODE_MODE 0
  if (m == 3 || m == 4) && !d.on F.CLR_PLANE_DATAUP 0 && d.passed V.planeAt 1 (d.limpT * 1000000) && d.pwrFree then
    (((d.setMode 5).setLadder 1).errBlk 0x01 5 1)
  else d

def execLimpEntry (s : State) : Host.Outcome State Fault Refusal := s.upd Dev.limpEntry

/-- LIMP_EXIT (R623): DATAUP has been 1 for 1 s; the mode left comes back, and that is no entry. -/
def Dev.limpExit (d : Dev) : Dev :=
  if d.get F.PWR_MODE_MODE 0 == 5 && d.on F.CLR_PLANE_DATAUP 0 && d.passed V.planeAt 1 1000000000 && d.pwrFree then
    d.setMode (d.get F.PWR_MODE_PREV 0)
  else d

def execLimpExit (s : State) : Host.Outcome State Fault Refusal := s.upd Dev.limpExit

/-! ### Wake (R420, R624) -/

/-- The module sleeps, or is on its way there (R626). -/
def Dev.sleeping (d : Dev) : Bool := decide (d.get F.PWR_MODE_MODE 0 < 2) || d.var V.pwrStep 0 != 0

/-- WAKE_LINE (R624, R626): PWR_WAKE rises. -/
def Dev.wakeLine (d : Dev) : Dev :=
  if d.var V.line 0 = 1 then d
  else
    let d := ((d.setVar V.line 0 1).set F.PWR_SUPPLY_LINE 0 1).setVar V.keyOff 0 0
    if d.sleeping then d.pwrWake 1 2 else d

def execWakeLine (s : State) : Host.Outcome State Fault Refusal := .next (s.updMem Dev.wakeLine)

/-- WAKE_LINE_FALL (R625): the count towards a SHUTDOWN notice starts. -/
def Dev.wakeLineFall (d : Dev) : Dev :=
  if d.var V.line 0 = 0 then d
  else (((d.setVar V.line 0 0).set F.PWR_SUPPLY_LINE 0 0).setVar V.keyOff 0 1).mark V.lineAt 0

def execWakeLineFall (s : State) : Host.Outcome State Fault Refusal := s.upd Dev.wakeLineFall

/-- PARKED at L3 or L4. -/
def Dev.napping (d : Dev) : Bool :=
  d.get F.PWR_MODE_MODE 0 == 1 && (d.get F.PWR_MODE_LADDER 0 == 3 || d.get F.PWR_MODE_LADDER 0 == 4)

/-- What a transceiver answers to (R420): the bit that BUS_CH_WSTAT will show, if it wakes. -/
def Dev.canMatch (d : Dev) (c : Nat) (x : CanWakeIn) : Option Nat :=
  let g := fun n => (d.var V.canSnap (8 * c + n)).toNat
  if g 0 ≠ 1 then none
  else match x with
    | .pattern => some 1
    | .overflow => if g 1 = 1 then some 4 else none
    | .frame rate ide id dlc data =>
      if g 1 = 1 ∧ rate.toNat = g 7 ∧ bit ide = g 2 ∧ (id.toNat ^^^ g 3) &&& g 4 = 0 ∧ dlc.toNat = g 6 ∧ data.toNat &&& g 5 ≠ 0 then some 2 else none

/-- CAN_WAKE (R420, R624). -/
def Dev.canWake (d : Dev) (c : Nat) (x : CanWakeIn) : Dev :=
  if !(d.napping && d.var V.wakeSnap 3 == 1) then d
  else match d.canMatch c x with
    | some w => (d.setVar V.canWoke c w).pwrWake 2 (d.var V.wakeSnap 0).toNat
    | none => d

def execCanWake (c : Fin 8) (x : CanWakeIn) (s : State) : Host.Outcome State Fault Refusal := .next (s.updMem (fun d => d.canWake c x))

/-- RIDE_WAKE (R624): link-up on Ride port A or B. -/
def Dev.rideWake (d : Dev) (p : Nat) : Dev :=
  if d.napping && d.var V.wakeSnap 4 == 1 then (d.setVar V.rideUp p 1).pwrWake 3 (d.var V.wakeSnap 1).toNat else d

def execRideWake (p : Fin 2) (s : State) : Host.Outcome State Fault Refusal := .next (s.updMem (fun d => d.rideWake p))

/-- TIMER_WAKE (R624): the AON replica of Grove time has reached ALARM. -/
def Dev.timerWake (d : Dev) : Dev :=
  let t := d.get F.PWR_ALARM_ALARM 0
  if d.get F.PWR_MODE_MODE 0 == 1 && d.deep && d.var V.wakeSnap 5 == 1 && t != 0 && decide ((t : Int) ≤ d.now) && d.var V.alarmHit 0 != (t : Int) then
    (d.setVar V.alarmHit 0 t).pwrWake 4 (d.var V.wakeSnap 2).toNat
  else d

def execTimerWake (s : State) : Host.Outcome State Fault Refusal := .next (s.updMem Dev.timerWake)

/-- MONITOR_WAKE (R624, R651): a start bit in L4 or L5 takes the module to L3; its line is discarded and answered ER 7. -/
def Dev.monitorWake (d : Dev) : Dev :=
  let l := d.get F.PWR_MODE_LADDER 0
  if decide (d.get F.PWR_MODE_MODE 0 < 2) && decide (4 ≤ l) then (((d.setVar V.monLad 0 l).mark V.monAt 0).monDiscard 7).pwrWake 6 0 else d

def execMonitorWake (s : State) : Host.Outcome State Fault Refusal := s.upd Dev.monitorWake

/-- MONITOR_WAKE_END (R624): 10 s after the last line served, where no mode has been requested. -/
def Dev.monitorWakeEnd (d : Dev) : Dev :=
  let l := (d.var V.monLad 0).toNat
  if l ≠ 0 ∧ d.passed V.monAt 0 10000000000 ∧ d.get F.PWR_MODE_LADDER 0 = 3 ∧ d.var V.kilnOn 0 = 0 ∧ !d.on F.PWR_MODE_PENDV 0 then
    (d.setVar V.monLad 0 0).setLadder l
  else d

def execMonitorWakeEnd (s : State) : Host.Outcome State Fault Refusal := .next (s.updMem Dev.monitorWakeEnd)

/-! ### Shutdown (R625, R626) -/

/-- SHUTDOWN_NOTICE (R625): PWR_WAKE has been low for KEYOFF_T s. -/
def Dev.shutNotice (d : Dev) : Dev :=
  let t := d.get F.PWR_KEY_KEYOFF_T 0
  if d.var V.keyOff 0 == 1 && t != 0 && d.passed V.lineAt 0 (t * 1000000000) && decide (2 ≤ d.get F.PWR_MODE_MODE 0) && d.var V.pwrStep 0 == 0 then
    let d := ((d.set F.PWR_MODE_NOTICE 0 1).setVar V.keyOff 0 0).mark V.noticeAt 0
    (d.pwrNotice true 1).pwrNotice false 1
  else d

def execShutdownNotice (s : State) : Host.Outcome State Fault Refusal := s.upd Dev.shutNotice

/-- SHUTDOWN_WITHDRAWN (R625): the line has risen before a request for PARKED or SHELF has been accepted. -/
def Dev.shutWithdraw (d : Dev) : Dev :=
  if d.on F.PWR_MODE_NOTICE 0 && d.var V.line 0 == 1 then ((d.set F.PWR_MODE_NOTICE 0 0).pwrNotice true 3).pwrNotice false 3 else d

def execShutdownWithdrawn (s : State) : Host.Outcome State Fault Refusal := s.upd Dev.shutWithdraw

/-- SHUTDOWN_FORCED (R625): SHUT_T s after the notice PWR forces PARKED. -/
def Dev.shutForce (d : Dev) : Dev :=
  let t := d.get F.PWR_KEY_SHUT_T 0
  if d.on F.PWR_MODE_NOTICE 0 && t != 0 && d.passed V.noticeAt 0 (t * 1000000000) && d.pwrFree && decide (2 ≤ d.get F.PWR_MODE_MODE 0) then
    ((d.set F.PWR_MODE_NOTICE 0 0).errBlk 0x01 4 1).pwrAuto 1
  else d

def execShutdownForced (s : State) : Host.Outcome State Fault Refusal := s.upd Dev.shutForce

/-- PARKING_GRACE_END (R626): DPGRACE ms after the PARKING notice. -/
def Dev.graceEnd (d : Dev) : Dev :=
  if d.var V.pwrStep 0 == 1 && d.passed V.pwrAt 0 (d.var V.pwrGrace 0 * 1000000) then d.pwrStop else d

def execParkingGraceEnd (s : State) : Host.Outcome State Fault Refusal := s.upd Dev.graceEnd

/-- CONTROL_PLANE_QUIET (R626): 100 ms have passed and no panel line is in progress; the planes are powered down, and a latched wake is acted on. The mode does not change while
the keeper is down (R22). -/
def Dev.ctlIsQuiet (d : Dev) : Dev :=
  if d.var V.pwrStep 0 == 2 && d.passed V.pwrAt 0 100000000 && d.var V.segPh 0 == 0 && !d.keeperAway then (d.pwrDown (d.get F.PWR_MODE_PEND 0)).wakeGo else d

def execControlPlaneQuiet (s : State) : Host.Outcome State Fault Refusal := .next (s.updMem Dev.ctlIsQuiet)

/-- LADDER_DESCEND (R626): in PARKED, L4 after T3 minutes in L3, and L5 after T4 minutes in L4. -/
def Dev.descend (d : Dev) : Dev :=
  let l := d.get F.PWR_MODE_LADDER 0
  let t3 := d.get F.PWR_PARK_T3 0
  let t4 := d.get F.PWR_PARK_T4 0
  if d.get F.PWR_MODE_MODE 0 ≠ 1 ∨ d.on F.PWR_MODE_PENDV 0 ∨ d.var V.kilnOn 0 = 1 ∨ d.var V.monLad 0 ≠ 0 then d
  else if l = 3 ∧ d.passed V.ladAt 0 (t3 * 60000000000) then d.setLadder 4
  else if l = 4 ∧ t4 ≠ 0 ∧ d.passed V.ladAt 0 (t4 * 60000000000) then d.setLadder 5
  else d

def execLadderDescend (s : State) : Host.Outcome State Fault Refusal := .next (s.updMem Dev.descend)

end Sys2Proof.Machine
end

