-- ==== Sys2Proof/Machine/Sys.lean ====
section
/-! DEFINITION. Module reset, the keeper's boot, resets and releases of the planes, lockstep and the life cycle
(spec/15_processors_boot_lifecycle.md, R504 to R525; spec/02_register_conventions.md, R72; spec/16_coppice_update.md, R526 to R532, R536, R542). -/

namespace Sys2Proof.Machine

/-! ### Module reset -/

/-- Entry to a life-cycle state (R519): RETURNED erases both settings areas, SCRAP destroys the device-unique key, and FIELD starts the keep area (R567). -/
def Dev.lifeEnter (d : Dev) (old new : Nat) : Dev :=
  let d := if new = 3 ∧ old ≠ 3 then (((d.eraseArea 0).eraseArea 1).setVar V.setOther 0 0) else d
  let d := d.when (new == 4) (fun a => a.setVar V.dukGone 0 1)
  d.when (new == 2) (fun a => (a.set F.SHRD_KEEP_ON 0 1).when (!a.on F.SHRD_KEEP_FULL 0) (fun b => b.set F.SHRD_HEAD_NEXT 0 (b.var V.keepNext 0).toNat))

/-- What a module reset with a cause leaves (R72, R347, R503, R519, R547, R553, R584, R627, R631). Every register takes its reset value (R72); the monitor runs on, its
session ended (R658). PWR starts in PARKED at L1, and with
PWR_WAKE high it asks for ROAD by itself. -/
def Dev.moduleReset (d : Dev) (cause st : Nat) : Dev :=
  let old := (d.var V.lcSt 0).toNat
  let run := cause != 1 && d.on F.COM_STAT_RUN 0x31
  let d := d.drop (fun _ => true) (fun _ => false) (fun _ => false)
  let d := d.when run (fun a => (a.set F.COM_STAT_RUN 0x31 1).set F.COM_STAT_CFGLOCK 0x31 1)
  let d := ({ d with reports := [], clrBuf := [] } : Dev).setVar V.lcSt 0 st
  let d := ((d.lifeEnter old st).set F.SYS_RSTC_CAUSE 0 cause).incSat F.SYS_RSTC_CNT 0
  let d := (d.keeperRec 0 0x1006 [cause]).thetaRestore false
  let d := d.dramLose.sramLose.set F.PWR_SUPPLY_LINE 0 (d.var V.line 0).toNat
  if d.var V.line 0 = 1 then ((d.set F.PWR_WAKE_STAT_CAUSE 0 5).setVar V.pwrSrc 0 0).roadEnter else d

/-- SYS_RSTC.CAUSE of the reset that takes place (R522): a requested reset at which a transition takes effect shows 4 (log entry 23). -/
def State.resetCause (s : State) (powerUp : Bool) : Nat :=
  let q := (s.dev.var V.modReq 0).toNat
  if powerUp then 1 else if q = 3 ∧ (s.otp.st : Int) ≠ s.dev.var V.lcSt 0 then 4 else q

/-- MODULE_RESET (R72): at power-up, or where one has been requested. -/
def execModuleReset (powerUp : Bool) (s : State) : Host.Outcome State Fault Refusal :=
  .next (if powerUp || s.dev.var V.modReq 0 != 0 then s.updMem (fun d => d.moduleReset (s.resetCause powerUp) s.otp.st) else s)

/-! ### Manifests (R515, R526, R527) -/

/-- The region that a component's KIND names (R527, R470). -/
def kindRange (k : Nat) : Nat × Nat :=
  match k with
  | 1 => (0xC8000000, 0xC807FFFF)
  | 2 => (0xC8100000, 0xC817FFFF)
  | 3 => (0xC0000000, 0xC03FFFFF)
  | 4 => (0x100000000, 0x4BFFFFFFF)
  | _ => (1, 0)

/-- A component entry that lies in the image and loads into its region. -/
def compOk (e : List Nat) (len : Nat) : Bool :=
  let r := kindRange (leAt e 0 4)
  let a := leAt e 8 8
  let n := leAt e 16 4
  decide (leAt e 20 4 + n ≤ len) && decide (r.1 ≤ a) && decide (a + n ≤ r.2 + 1)

/-- A stepping that a manifest requires: 0 accepts any. -/
def stepOk (want have_ : Nat) : Bool := want == 0 || want == have_

/-- The checks of R515, R526 and R527 that need no cryptography. -/
def manifestOk (m : List Nat) (svn : Nat) (d : Dev) : Bool :=
  let n := leAt m 32 4
  let len := leAt m 12 4
  let comps := (List.range n).map (fun k => (m.drop (160 + 80 * k)).take 80)
  m.take 4 == [0x4B, 0x43, 0x50, 0x4D] && leAt m 4 2 == 1 && leAt m 6 2 == 9 && decide (1 ≤ n) && decide (n ≤ 16) &&
    leAt m 8 4 == 256 + 80 * n && decide (len ≤ 536870912) && decide (svn ≤ leAt m 16 1) && decide (leAt m 16 1 ≤ 64) &&
    stepOk (leAt m 20 1) (d.get F.SYS_STEP0_SOC 0) && stepOk (leAt m 21 1) (d.get F.SYS_STEP0_PSC0 0) &&
    stepOk (leAt m 22 1) (d.get F.SYS_STEP0_PSC1 0) &&
    [F.SYS_STEP1_RF0, F.SYS_STEP1_RF1, F.SYS_STEP1_RF2].all (fun f => stepOk (leAt m 23 1) (d.get f 0)) &&
    comps.all (fun e => compOk e len) && comps.any (fun e => leAt e 0 4 == 4)

/-- The present life-cycle state accepts images under a key (R518), whose OEM slot is programmed and not revoked (R515, R516). -/
def Dev.keyOk (d : Dev) (o : Otp) (key : Option (Fin 5)) : Bool :=
  let st := d.var V.lcSt 0
  match key with
  | none => false
  | some k =>
    if k.val = 0 then st == 0 || st == 1 || st == 3
    else (st == 1 || st == 2) && o.oemProg.testBit (k.val - 1) && !o.oemRev.testBit (k.val - 1)

/-- The image in a slot passes the whole check of R515, R526 and R527. -/
def Dev.imgOk (d : Dev) (o : Otp) (slot : Nat) (c : ImgCheck) : Bool :=
  d.keyOk o c.key && c.sig && c.hashes && manifestOk (d.manifest slot) o.svn d

/-- The image in the slot that the last module reset booted passes its check (R513). -/
def State.bootOk (s : State) (c : ImgCheck) : Bool := s.dev.imgOk s.otp (s.dev.get F.SYS_BOOT_SLOT 0) c

/-! ### The choice of a slot (R529, R536) -/

/-- Step 1: a slot in TRIAL fails, and its own settings area is erased. -/
def Dev.trialEnds (d : Dev) (slot : Nat) : Dev :=
  if d.get F.UPD_SL_STAT_ST slot ≠ 4 then d
  else
    let d := d.slotState slot 7 2
    let p := (d.var V.setPres 0).toNat
    if d.var V.setOther 0 = 1 then ((d.eraseArea p).setVar V.setPres 0 (1 - p : Nat)).setVar V.setOther 0 0 else d

/-- A TRY slot becomes TRIAL: where its SFMT differs from that of the CONFIRMED slot, it gets an empty present area and the old one is kept. -/
def Dev.trialStarts (d : Dev) (slot : Nat) : Dev :=
  let d := (d.slotState slot 4 0).mark V.trialAt 0
  let f := d.get F.UPD_SL_STAT_SFMT slot
  let p := (d.var V.setPres 0).toNat
  if d.get F.UPD_SL_STAT_ST (1 - slot) = 5 ∧ d.get F.UPD_SL_STAT_SFMT (1 - slot) ≠ f then
    (((d.eraseArea (1 - p)).setVar V.setPres 0 (1 - p : Nat)).setVar V.setOther 0 1).setVar V.setFmt (1 - p) f
  else d.setVar V.setFmt p f

/-- A slot of the given state is checked: it boots, or it is FAILED with REASON CHECK. -/
def Dev.trySlot (d : Dev) (st slot : Nat) (ok : Bool) : Dev :=
  if d.get F.SYS_BOOT_SLOT 0 ≠ 3 ∨ d.get F.UPD_SL_STAT_ST slot ≠ st then d
  else if !ok then d.slotState slot 7 1
  else
    let d := ((d.set F.UPD_STATE_BOOTED 0 slot).set F.SYS_BOOT_SLOT 0 slot).set F.SYS_BOOT_SVN 0 (d.get F.UPD_SL_STAT_SVN slot)
    if st = 3 then d.trialStarts slot else d

/-- REASON of a unit that has booted nothing (R542): CHECK where a slot failed its check, else RUNFAIL where one failed its run, else NOSLOT. -/
def Dev.fallReason (d : Dev) : Nat :=
  let r := fun k => [0, 1].any (fun i => d.get F.UPD_SL_STAT_ST i == 7 && d.get F.UPD_SL_STAT_REASON i == k)
  if r 1 then 2 else if r 3 then 3 else 1

/-- The keeper chooses the slot (R529); `ok` says which slots pass their whole check. -/
def Dev.chooseSlot (d : Dev) (ok : Nat → Bool) : Dev :=
  let d := (d.trialEnds 0).trialEnds 1
  let d := (d.trySlot 3 0 (ok 0)).trySlot 3 1 (ok 1)
  let d := (d.trySlot 5 0 (ok 0)).trySlot 5 1 (ok 1)
  if d.get F.SYS_BOOT_SLOT 0 = 3 then d.fall d.fallReason else (d.setVar V.cpLoad 0 1).setVar V.dpLoad 0 1

/-! ### Releases -/

/-- A load has failed (R510): its plane stays in reset, the slot fails its check and a module reset follows. -/
def Dev.loadFail (d : Dev) : Dev :=
  ((d.set F.COM_STAT_FAULT 0x00 1).slotState (d.get F.UPD_STATE_BOOTED 0) 7 1).setVar V.modReq 0 3

/-- The keeper may release a plane: it runs, a slot is booted, the unit is not Fallen, and a mode with planes governs. -/
def Dev.mayRelease (d : Dev) : Bool :=
  d.var V.keeperUp 0 == 1 && decide (d.get F.SYS_BOOT_SLOT 0 < 2) && !d.on F.UPD_STATE_FALLEN 0 && decide (2 ≤ d.get F.PWR_MODE_MODE 0) &&
    d.var V.kilnOn 0 == 0 && d.var V.modReq 0 == 0 && d.var V.planesOff 0 == 0

/-- Regions K0 to K3 that failed last (R594). -/
def Dev.failedRegions (d : Dev) : Nat := ((List.range 4).map (fun r => if d.on F.KILN_RG_STAT_FSTICK r then 2 ^ r else 0)).sum

/-- Pair A is released, and 10 us later pair B (R510): the deadman arms with FIRST_T (R613). -/
def Dev.ctlStart (d : Dev) : Dev :=
  let d := (((d.set F.SYS_REL_PA 0 1).set F.SYS_REL_PB 0 1).setVar V.cpLoad 0 0).mark V.relAt 0
  let d := (((d.setPlane 0 true).set F.PWR_DEAD_ARMED 0 1).setVar V.hbLast 0 0).setVar V.deadOut 0 0
  let d := (d.setVar V.hbBlock 0 0).setVar V.hbDue 0 (d.var V.uptime 0 + (max 20 (d.get F.PWR_DEAD_FIRST_T 0) : Nat) * 1000000 * 65536)
  (d.lswSupply F.LSW_SUPPLY_DEAD false).solSupply F.SOL_SUPPLY_DEAD false

/-- The control-plane load ends (R510, R513, R594): a region of K0 to K3 that has failed runs first. -/
def Dev.ctlRelease (d : Dev) (ok : Bool) : Dev :=
  if !(d.mayRelease && d.var V.cpLoad 0 == 1) then d
  else if !ok then d.loadFail
  else if d.failedRegions ≠ 0 then (d.kilnLaunch d.failedRegions 3 0).kilnFinish
  else d.ctlStart

/-- The data-plane load ends (R510, R513, R514): the harts are released, the watchdog arms, and at the first release DONE sets. -/
def Dev.dataRelease (d : Dev) (ok : Bool) : Dev :=
  if !(d.mayRelease && d.var V.dpLoad 0 == 1 && d.var V.dramWait 0 == 0 && d.on F.SYS_REL_PA 0) then d
  else if !ok then d.loadFail
  else
    let d := ((d.set F.SYS_REL_DP 0 1).setVar V.dpLoad 0 0).mark V.relAt 1
    let d := ((d.setPlane 1 true).mark V.wdAt 0).setVar V.wdPer 0 (10 * max 100 (d.get F.SYS_DPWD_PERIOD 0) : Nat)
    let d := if d.on F.SYS_BOOT_DONE 0 then d
      else ((d.set F.SYS_BOOT_DONE 0 1).set F.SYS_BOOTT_MS 0 (d.var V.uptime 0 / 65536 / 1000000).toNat).irq 0x00 3
    if d.get F.PWR_MODE_MODE 0 = 5 then d else d.setLadder 0

/-- Bytes of the image in a slot of NOR. -/
def Dev.imgBytes (d : Dev) (slot off n : Nat) : List Nat :=
  (List.range n).map (fun k => (padTo 4096 (d.blob 1 (norIx slot ((off + k) / 4096)))).getD ((off + k) % 4096) 0)

/-- A component is copied into the memory it will run from (R510, R526). A DRAM block that is written whole loses its poison (R474). -/
def State.loadComp (s : State) (slot : Nat) (e : List Nat) : State :=
  let a := leAt e 8 8
  let n := leAt e 16 4
  let d := s.dev
  let vars := d.vars.filter (fun x => !(x.1.1 == V.poison.id && decide (a ≤ 32 * x.1.2) && decide (32 * x.1.2 + 32 ≤ a + n)))
  { s with dev := { d with vars := vars }, mem := memWrite s.mem a (d.imgBytes slot (leAt e 20 4) n) }

/-- The components of a plane in the manifest of the booted slot: KIND 4 for the data plane, 1 to 3 for the control plane (R526). -/
def Dev.planeComps (d : Dev) (data : Bool) : List (List Nat) :=
  let m := d.manifest (d.get F.SYS_BOOT_SLOT 0)
  ((List.range (leAt m 32 4)).map (fun k => (m.drop (160 + 80 * k)).take 80)).filter (fun e => if data then leAt e 0 4 == 4 else leAt e 0 4 != 4)

/-- A plane that a command has released runs from the components that the keeper has copied (R510, R513). -/
def State.loaded (s : State) (f : Fld) (data : Bool) (t : State) : State :=
  if !s.dev.on f 0 && t.dev.on f 0 then (t.dev.planeComps data).foldl (fun a e => a.loadComp (t.dev.get F.SYS_BOOT_SLOT 0) e) t else t

/-- CONTROL_PLANE_RELEASE. -/
def execControlPlaneRelease (img : ImgCheck) (s : State) : Host.Outcome State Fault Refusal :=
  .next (s.loaded F.SYS_REL_PA false (s.updMem (fun d => d.ctlRelease (s.bootOk img))))

/-- DATA_PLANE_LOAD_DONE: the first release since module reset. -/
def execDataPlaneLoadDone (img : ImgCheck) (s : State) : Host.Outcome State Fault Refusal :=
  .next (s.loaded F.SYS_REL_DP true { s with dev := if s.dev.on F.SYS_BOOT_DONE 0 then s.dev else s.dev.dataRelease (s.bootOk img) })

/-- DATA_PLANE_RELEASE: a later one. -/
def execDataPlaneRelease (img : ImgCheck) (s : State) : Host.Outcome State Fault Refusal :=
  .next (s.loaded F.SYS_REL_DP true { s with dev := if s.dev.on F.SYS_BOOT_DONE 0 then s.dev.dataRelease (s.bootOk img) else s.dev })

/-- DRAM_TRAINED (R498, R503): in L0 or L1; TRAINED and TRAINDONE set. TEMP is a measurement that no rule gives: a free value (log entry 148). -/
def Dev.dramTrained (d : Dev) : Dev :=
  if d.get F.PWR_MODE_LADDER 0 < 2 ∧ d.var V.dramWait 0 ≠ 0 then
    (((d.setVar V.dramWait 0 0).memShow.set F.MEM_DRAM_TEMP 0 d.freeVal).useFree).irq 0x08 3
  else d

def execDramTrained (s : State) : Host.Outcome State Fault Refusal := s.upd Dev.dramTrained

/-! ### The keeper's boot (R510, R511, R627) -/

/-- The keeper runs and has read the steppings (R3, R510). -/
def Dev.keeperStart (d : Dev) (strap : Bool) : Dev :=
  let d := ((d.setVar V.keeperUp 0 1).setPlane 2 true).setVar V.booted 0 1
  let d := ((d.setVar V.strapNow 0 (bit strap)).set F.SYS_STRAP_NOW 0 (bit strap)).set F.SYS_STRAP_BOOT 0 (bit strap)
  d.keeperRec 0 0x1001 ([F.SYS_STEP0_SOC, F.SYS_STEP0_PSC0, F.SYS_STEP0_PSC1, F.SYS_STEP1_RF0, F.SYS_STEP1_RF1, F.SYS_STEP1_RF2].map (fun f => d.get f 0))

/-- The end of the boot: a latched wake is acted on, and a module that stays in PARKED goes to rest (R627). -/
def Dev.bootEnd (d : Dev) (ok : Bool) : Dev :=
  let d := d.wakeGo
  if d.get F.PWR_MODE_MODE 0 < 2 ∧ !d.on F.PWR_MODE_PENDV 0 then d.pwrDown 1 else d.ctlRelease ok

/-- KEEPER_BOOT: `imgA` and `imgB` are what the checks of slot A and slot B find. It comes after the Kiln runs of ROAD entry,
and not before VSUP has been above 16 V for 10 ms (R609). -/
def Dev.keeperBoot (d : Dev) (o : Otp) (strap : Bool) (imgA imgB : ImgCheck) : Dev :=
  if d.var V.booted 0 = 1 ∨ d.var V.kilnOn 0 = 1 ∨ d.var V.supOn 2 ≠ 1 ∨ !d.passed V.supOnAt 2 10000000 then d
  else
    let d := d.keeperStart strap
    if strap || d.var V.lcSt 0 == 4 then (d.set F.SYS_BOOT_STRAP 0 1).bootEnd true
    else
      (d.chooseSlot (fun i => d.imgOk o i (if i = 0 then imgA else imgB))).bootEnd true

def execKeeperBoot (strap : Bool) (imgA imgB : ImgCheck) (s : State) : Host.Outcome State Fault Refusal :=
  .next (s.loaded F.SYS_REL_PA false (s.updMem (fun d => d.keeperBoot s.otp strap imgA imgB)))

/-! ### Resets of a plane (R508, R513, R514, R530, R532) -/

/-- Both planes stay down in a unit that has just fallen, their blocks reset (R532, R542): ETH is powered down, and RIDE gives ports A and B to UPD (R468). The panel
goes on with the Fallen code (R556). -/
def Dev.fallenDown (d : Dev) : Dev :=
  if d.on F.UPD_STATE_FALLEN 0 then ((d.ctlDown.dataDown.resetCtl).resetData).set F.COM_CTRL_EN 0x25 1 else d

/-- CONTROL_PLANE_RESET: the run counts as failed where R532 says so, a Kiln run ends, the control-plane blocks reset, and the keeper loads again. -/
def Dev.ctlPlaneReset (d : Dev) : Dev :=
  let c := (d.var V.cpReq 0).toNat
  if c = 0 then d
  else if d.inTrial && decide (d.get F.SYS_BOOT_SLOT 0 < 2) then (d.setVar V.cpReq 0 0).setVar V.modReq 0 3
  else
    let d := if d.get F.KILN_STATE_REG 0 = 6 then d else d.kilnAbort
    let d := if d.on F.SYS_REL_PA 0 && (c == 1 || c == 2 || c == 4 || c == 6) then d.runFailed 0 else d
    let d := ((d.ctlDown.resetCtl).updPlaneReset).setVar V.hbBlock 0 0
    let d := (((d.set F.SYS_CPRST_CAUSE 0 c).incSat F.SYS_CPRST_CNT 0).irq 0x00 0).setVar V.cpReq 0 0
    (if d.var V.planesOff 0 = 1 then d else d.setVar V.cpLoad 0 1).fallenDown

def execControlPlaneReset (s : State) : Host.Outcome State Fault Refusal := .next (s.updMem Dev.ctlPlaneReset)

/-- DATA_PLANE_RESET: DRAM is trained again and its contents are undefined (R503). -/
def Dev.dataPlaneReset (d : Dev) : Dev :=
  let c := (d.var V.dpReq 0).toNat
  if c = 0 then d
  else if d.inTrial && decide (d.get F.SYS_BOOT_SLOT 0 < 2) then (d.setVar V.dpReq 0 0).setVar V.modReq 0 3
  else
    let d := if d.on F.SYS_REL_DP 0 && c == 1 then d.runFailed 1 else d
    let d := (d.dataDown.resetData).dramLose
    let d := (((d.set F.SYS_DPRST_CAUSE 0 c).incSat F.SYS_DPRST_CNT 0).irq 0x00 1).setVar V.dpReq 0 0
    let d := if d.get F.PWR_MODE_LADDER 0 = 0 then d.setLadder 1 else d
    (if d.var V.planesOff 0 = 1 then d else d.setVar V.dpLoad 0 1).fallenDown

def execDataPlaneReset (s : State) : Host.Outcome State Fault Refusal := .next (s.updMem Dev.dataPlaneReset)

/-- DATA_PLANE_WATCHDOG (R514): the slot has not been committed in time. -/
def Dev.watchdog (d : Dev) : Dev :=
  if d.on F.SYS_REL_DP 0 && d.var V.dpReq 0 == 0 && d.passed V.wdAt 0 (d.var V.wdPer 0 * 1000000) then
    ((d.setPlane 1 false).irq 0x00 4).setVar V.dpReq 0 1
  else d

def execDataPlaneWatchdog (s : State) : Host.Outcome State Fault Refusal := s.upd Dev.watchdog

/-- KEEPER_RESTART (R22, R584, R622, R658): the keeper is down, MGTUP falls, and MON resets. -/
def Dev.keeperDown (d : Dev) : Dev :=
  if d.var V.keeperUp 0 ≠ 1 then d
  else ((d.setVar V.keeperUp 0 0).setPlane 2 false).drop (fun slot => slot == 0x31) (fun _ => false) (fun _ => false)

def execKeeperRestart (s : State) : Host.Outcome State Fault Refusal := s.upd Dev.keeperDown

/-- KEEPER_RETURN (R22, R595, R622): a waiting Kiln reply is sent, and a transition that the keeper's absence held and held wakes proceed. -/
def Dev.keeperBack (d : Dev) : Dev :=
  if d.var V.keeperUp 0 = 1 ∨ d.var V.booted 0 ≠ 1 then d
  else
    let d := (d.setVar V.keeperUp 0 1).setPlane 2 true
    let d := if d.var V.kilnRep 0 = 1 then
        (d.setVar V.kilnRep 0 0).kilnReply (d.var V.kilnTag 0).toNat (d.var V.kilnSt 0).toNat (d.var V.kilnWord 0).toNat else d
    let d := if d.var V.pwrHeld 0 = 1 ∧ d.var V.kilnOn 0 ≠ 1 then d.heldGo (d.var V.kilnSrc 0 == 2) else d
    d.wakeGo

def execKeeperReturn (s : State) : Host.Outcome State Fault Refusal := .next (s.updMem Dev.keeperBack)

/-! ### Lockstep (R507 to R509) -/

/-- A pair's compare error, with the mismatching output and SYS_CPRST.CAUSE. The pair must be released. -/
def Dev.mismatch (d : Dev) (b : Bool) (out : Nat) (cause : Nat) : Dev :=
  if !d.on (if b then F.SYS_REL_PB else F.SYS_REL_PA) 0 then d
  else
    let d := (d.incSat (if b then F.SYS_LSTEP_CMPB else F.SYS_LSTEP_CMPA) 0).irq 0x00 2
    let d := d.keeperRec 3 (if b then 0x1003 else 0x1002) (pay64 out)
    if d.var V.cpReq 0 = 0 then d.setVar V.cpReq 0 cause else d

/-- LOCKSTEP_MISMATCH (R508). -/
def execLockstepMismatch (b : Bool) (out : BitVec 8) (s : State) : Host.Outcome State Fault Refusal :=
  s.upd (fun d => d.mismatch b out.toNat (if b then 2 else 1))

/-- LOCKSTEP_INJECT (R509): in SERVICE; else BCODE 0x2. Which output the forced mismatch names is free. -/
def Dev.inject (d : Dev) (a b : Bool) : Dev :=
  if !a && !b then d
  else if d.get F.PWR_MODE_MODE 0 ≠ 2 then d.errBlk 0x00 2 0
  else
    let d := if a then d.useFree.mismatch false (d.freeVal % 256) 3 else d
    if b then d.useFree.mismatch true (d.freeVal % 256) 3 else d

def execLockstepInject (a : Acc) (pa pb : Bool) (s : State) : Host.Outcome State Fault Refusal :=
  s.upd (fun d => d.wr 0x00 0x824 a (fun d => d.inject pa pb))

/-! ### Reset requests (R522) -/

/-- The unlocked debug level (R518): in BLANK 3, with no challenge. -/
def Dev.dbgLevel (d : Dev) : Nat := if d.var V.lcSt 0 = 0 then 3 else d.get F.LCS_DBG_LEVEL 0

/-- A request through SYS_RSTREQ; the debug module needs level 3. -/
def Dev.rstReq (d : Dev) (a : Acc) (x : Vr) (cause : Int) : Dev :=
  d.wr 0x00 0x80C a (fun d =>
    if a.bank.val = 15 ∧ d.dbgLevel < 3 then d.errBlk 0x00 1 0 else if d.var x 0 = 0 then d.setVar x 0 cause else d)

/-- A request in a Management slot of the plane itself (R513): a new commit of the slot is taken, and the reset is due. No rule gives the layout of the
record or names the slot, so that the command says which commit asks for it (log entry 185). -/
def Dev.ownReq (d : Dev) (slot : Nat) (x : Vr) (cause : Int) : Dev :=
  if !(d.cmdNew slot && d.var V.keeperUp 0 == 1) then d
  else
    let d := d.cmdTake slot
    if d.var x 0 = 0 then d.setVar x 0 cause else d

/-- RESET_REQUEST_CTL: SYS_RSTREQ.CTL, cause REQ; or a request in the control-plane Management slot 328 + k, cause SELF. -/
def Dev.ctlReq (d : Dev) (x : ResetBy) : Dev :=
  match x with
  | .reg a => d.rstReq a V.cpReq 5
  | .slot k => d.ownReq (328 + k.val) V.cpReq 6

/-- RESET_REQUEST_DATA: SYS_RSTREQ.DATA, or a request in the data-plane Management slot 344 + k; cause REQ. -/
def Dev.dataReq (d : Dev) (x : ResetBy) : Dev :=
  match x with
  | .reg a => d.rstReq a V.dpReq 2
  | .slot k => d.ownReq (344 + k.val) V.dpReq 2

def execResetRequestCtl (x : ResetBy) (s : State) : Host.Outcome State Fault Refusal := s.upd (fun d => d.ctlReq x)

def execResetRequestData (x : ResetBy) (s : State) : Host.Outcome State Fault Refusal := s.upd (fun d => d.dataReq x)

def execResetRequestModule (a : Acc) (s : State) : Host.Outcome State Fault Refusal := s.upd (fun d => d.rstReq a V.modReq 3)

/-! ### Challenge and response (R518 to R521) -/

/-- Whether the present state and mode allow a request of a kind, target and key (R518, R521): a debug level, or a transition. -/
def State.lcsAllows (s : State) (kind target key : Nat) : Bool :=
  let st := s.dev.var V.lcSt 0
  let m := s.dev.get F.PWR_MODE_MODE 0
  let keyOk := (key == 0 && s.otp.dbgK) || (key == 1 && s.otp.dbgO)
  if kind = 0 then
    decide (1 ≤ target) && decide (target ≤ 3) && keyOk && (if target = 1 then decide (2 ≤ m) else m == 2) &&
      (st == 1 || (st == 2 && key == 1 && decide (target ≤ 2)) || (st == 3 && key == 0))
  else if kind = 1 then
    (st == 0 && target == 1 && key == 0) ||
      (st == 1 && ((target == 2 && key == 1 && s.otp.oemProg != 0) || (target == 4 && decide (key < 2)))) ||
      (st == 2 && (target == 3 || target == 4) && key == 1) || (st == 3 && target == 4 && key == 0)
  else false

/-- LCS_CREQ is locked (R520). -/
def Dev.lcsLocked (d : Dev) : Bool := d.get F.LCS_DBG_FAILS 0 == 3

/-- The 48 bytes of a challenge, as words; the nonce is free. -/
def Dev.challenge (d : Dev) (kind target key : Nat) : Dev :=
  let n := d.free
  let w := (List.range 8).map (fun k => Config.free (n + k)) ++ [Config.otpSerial % 2 ^ 32, Config.otpSerial / 2 ^ 32,
    (d.var V.lcSt 0).toNat + 256 * kind + 65536 * target + 16777216 * key, 0]
  let d := ({ d with free := n + 8 } : Dev).each (List.range 12) (fun k a => a.set F.LCS_CHAL_W k (w.getD k 0))
  ((d.set F.LCS_RSTAT_ST 0 1).mark V.chalAt 0).irq 0x02 0

/-- CHALLENGE_REQUEST by an initiator. A request that the state or mode does not allow is refused: no challenge is presented (log entry 24). -/
def State.challengeReq (s : State) (a : Acc) (kind target key : Nat) : State :=
  { s with dev := s.dev.wr 0x02 0x2080 a (fun d => if d.lcsLocked || !s.lcsAllows kind target key then d else d.challenge kind target key) }

def execChallengeRequest (a : Acc) (kind : BitVec 2) (target : BitVec 3) (key : BitVec 2) (s : State) : Host.Outcome State Fault Refusal :=
  .next (s.challengeReq a kind.toNat target.toNat key.toNat)

/-- A submit is refused: FAILS counts, and the third locks LCS_CREQ. -/
def Dev.lcsRefuse (d : Dev) : Dev :=
  let was := d.lcsLocked
  let d := ((d.incSat F.LCS_DBG_FAILS 0).set F.LCS_RSTAT_OK 0 0).set F.LCS_RSTAT_REFUSED 0 1
  let d := d.errBlk 0x02 1 1
  if d.lcsLocked && !was then (d.irq 0x02 2).set F.COM_STAT_FAULT 0x02 1 else d

/-- A submit is accepted: the level rises, or the transition awaits the next module reset. -/
def Dev.lcsAccept (d : Dev) (kind target : Nat) : Dev :=
  let d := (d.set F.LCS_RSTAT_OK 0 1).set F.LCS_RSTAT_REFUSED 0 0
  if kind = 0 then d.set F.LCS_DBG_LEVEL 0 (max target (d.get F.LCS_DBG_LEVEL 0))
  else (d.set F.LCS_STATE_PENDV 0 1).set F.LCS_STATE_PEND 0 target

/-- What a submit does once the access is accepted (R517, R519, R520): a challenge serves one submit; an accepted transition burns both fuses of
its target state. LCS_RSTAT.ST passes from 1 to 3 (log entry 216). `sig` says that the signature verifies under the key that the challenge names. -/
def State.submit (s : State) (sig : Bool) : State :=
  let w := s.dev.get F.LCS_CHAL_W 10
  let kind := w / 256 % 256
  let target := w / 65536 % 256
  let ok := s.dev.get F.LCS_RSTAT_ST 0 == 1 && !s.dev.passed V.chalAt 0 60000000000 && sig && s.lcsAllows kind target (w / 16777216)
  let d := (s.dev.set F.LCS_RSTAT_ST 0 3).irq 0x02 1
  if ok then
    { s with dev := d.lcsAccept kind target, otp := if kind = 1 then { s.otp with st := max s.otp.st target } else s.otp }
  else { s with dev := d.lcsRefuse }

/-- RESPONSE_SUBMIT by an initiator. -/
def State.responseSubmit (s : State) (a : Acc) (sig : Bool) : State := s.wr 0x02 0x2180 a (fun s => s.submit sig)

def execResponseSubmit (a : Acc) (sig : Bool) (s : State) : Host.Outcome State Fault Refusal := .next (s.responseSubmit a sig)

/-- CHALLENGE_EXPIRY (R520). -/
def execChallengeExpiry (s : State) : Host.Outcome State Fault Refusal :=
  s.upd (fun d => if d.get F.LCS_RSTAT_ST 0 = 1 ∧ d.passed V.chalAt 0 60000000000 then d.set F.LCS_RSTAT_ST 0 0 else d)

end Sys2Proof.Machine
end

