-- ==== Sys2Proof/Machine/Ufs.lean ====
section
/-! DEFINITION. The UFS host: its register file, its transfer request list of 32 slots and its interrupt (spec/14_memory_dma_iommu.md, R470, R471, R477).
The layouts are those of UFSHCI 3.0, which R477 names and does not repeat; what the UFS device answers beside the data that it holds is free (log
entry 184). -/

namespace Sys2Proof.Machine

/-- A word of the register file. -/
def Dev.ufsGet (d : Dev) (off : Nat) : Nat := (d.var V.ufsReg (off / 4)).toNat

/-- A word of the register file takes a value. -/
def Dev.ufsSet (d : Dev) (off v : Nat) : Dev := d.setVar V.ufsReg (off / 4) (v % 2 ^ 32 : Nat)

/-- The host's interrupt, MEM_IRQ_RAW.UFS (R477, R498): a bit of IS (0x20) that IE (0x24) enables. -/
def Dev.ufsLine (d : Dev) : Dev := d.level 0x08 2 ((d.ufsGet 0x20 &&& d.ufsGet 0x24) != 0)

/-- A bit of IS sets. -/
def Dev.ufsStat (d : Dev) (b : Nat) : Dev := (d.ufsSet 0x20 (d.ufsGet 0x20 ||| 2 ^ b)).ufsLine

/-- `n` free bytes. -/
def Dev.freeBytes (d : Dev) (n : Nat) : Dev × List Nat :=
  ({ d with free := d.free + n }, (List.range n).map (fun k => Config.free (d.free + k) % 256))

/-- The device writes bytes at an IOVA. The answer says whether it failed. -/
def State.ufsPut (s : State) (iova : Nat) (l : List Nat) : State × Bool :=
  match s.devWrite 0x0240 iova l with
  | (s, none) => (s, false)
  | (s, some _) => (s, true)

/-- The device writes `n` free bytes at an IOVA. -/
def State.ufsFree (s : State) (iova n : Nat) : State × Bool :=
  let (d, l) := s.dev.freeBytes n
  State.ufsPut { s with dev := d } iova l

/-! ### What the device holds (R469): blocks of 4,096 bytes by unit and address, which reads and writes of a command name (log entry 184) -/

/-- Bytes in big-endian order. -/
def beAt (l : List Nat) (off n : Nat) : Nat := ((l.drop off).take n).foldl (fun a b => a * 256 + b) 0

/-- A command that reads (true) or writes blocks: the first block and their number; none for any other command. `u` is the request that the host hands to the device. -/
def ufsCmd (u : List Nat) : Option (Bool × Nat × Nat) :=
  let c := u.drop 16
  if u.headD 0 % 64 ≠ 1 then none
  else match c.headD 0 with
    | 0x08 => some (true, beAt c 1 3 % 2 ^ 21, if beAt c 4 1 = 0 then 256 else beAt c 4 1)
    | 0x0A => some (false, beAt c 1 3 % 2 ^ 21, if beAt c 4 1 = 0 then 256 else beAt c 4 1)
    | 0x28 => some (true, beAt c 2 4, beAt c 7 2)
    | 0x2A => some (false, beAt c 2 4, beAt c 7 2)
    | 0x88 => some (true, beAt c 2 8, beAt c 10 4)
    | 0x8A => some (false, beAt c 2 8, beAt c 10 4)
    | _ => none

/-- Key of a block of a unit. -/
def ufsIx (unit b : Nat) : Nat := unit * 2 ^ 64 + b

/-- `n` blocks from `b` on: what has been written, and free bytes where nothing has. -/
def Dev.ufsRead (d : Dev) (unit b n : Nat) : Dev × List Nat :=
  (List.range n).foldl (fun (a : Dev × List Nat) k =>
    match a.1.bytes.find (45, ufsIx unit (b + k)) with
    | some l => (a.1, a.2 ++ l)
    | none => let r := a.1.freeBytes 4096; (r.1, a.2 ++ r.2)) (d, [])

/-- Data are written to the blocks from `b` on; whole blocks are held. -/
def Dev.ufsStore (d : Dev) (unit b n : Nat) (l : List Nat) : Dev :=
  d.each ((List.range n).filter (fun k => decide (4096 * (k + 1) ≤ l.length))) (fun k a => a.setBlob 45 (ufsIx unit (b + k)) ((l.drop (4096 * k)).take 4096))

/-- Data go into memory, buffer by buffer of the region table of `n` entries at `at_`; where the command's data are not known (`none`), free bytes. -/
def State.ufsIn (s : State) (at_ n : Nat) (l : Option (List Nat)) : State × Bool :=
  match n with
  | 0 => (s, false)
  | k + 1 => match s.devRead 0x0240 at_ 16 with
    | (s, .error _) => (s, true)
    | (s, .ok b) =>
      let len := leAt b 12 4 % 2 ^ 18 + 1
      let r := match l with
        | some l => s.ufsPut (leAt b 0 8) (l.take len)
        | none => s.ufsFree (leAt b 0 8) len
      if r.2 then r else State.ufsIn r.1 (at_ + 16) k (l.map (fun l => l.drop len))

/-- Data are read from memory, buffer by buffer; none where a read fails. -/
def State.ufsOut (s : State) (at_ n : Nat) : State × Option (List Nat) :=
  match n with
  | 0 => (s, some [])
  | k + 1 => match s.devRead 0x0240 at_ 16 with
    | (s, .error _) => (s, none)
    | (s, .ok b) => match s.devRead 0x0240 (leAt b 0 8) (leAt b 12 4 % 2 ^ 18 + 1) with
      | (s, .error _) => (s, none)
      | (s, .ok l) => match State.ufsOut s (at_ + 16) k with
        | (s, none) => (s, none)
        | (s, some m) => (s, some (l ++ m))

/-- The data of a request `u` move: `dd` 1 out of memory, 2 into it, else none. -/
def State.ufsData (s : State) (u : List Nat) (dd at_ n : Nat) : State × Bool :=
  let unit := u.getD 2 0
  if dd = 2 then
    match ufsCmd u with
    | some (true, b, k) => let r := s.dev.ufsRead unit b k; State.ufsIn { s with dev := r.1 } at_ n (some r.2)
    | _ => s.ufsIn at_ n none
  else if dd = 1 then
    match s.ufsOut at_ n with
    | (s, none) => (s, true)
    | (s, some l) => match ufsCmd u with
      | some (false, b, k) => ({ s with dev := s.dev.ufsStore unit b k l }, false)
      | _ => (s, false)
  else (s, false)

/-- The request of a slot: its descriptor of 32 bytes is read, its data move, and its response and status are written. -/
def State.ufsRequest (s : State) (n : Nat) : State × Bool × Bool :=
  let at_ := s.dev.ufsGet 0x54 * 2 ^ 32 + s.dev.ufsGet 0x50 / 1024 * 1024 + 32 * n
  match s.devRead 0x0240 at_ 32 with
  | (s, .error _) => (s, true, false)
  | (s, .ok b) =>
    let ucd := leAt b 16 8 / 128 * 128
    let dd := leAt b 0 4 / 2 ^ 25 % 4
    let r : State × Bool := match s.devRead 0x0240 ucd 32 with
      | (s, .error _) => (s, true)
      | (s, .ok u) => s.ufsData u dd (ucd + 4 * leAt b 30 2) (leAt b 28 2)
    let r := if r.2 then r else r.1.ufsFree (ucd + 4 * leAt b 26 2) (4 * leAt b 24 2)
    let r := if r.2 then r else r.1.ufsFree (at_ + 8) 1
    (r.1, r.2, tbit (leAt b 0 4) 24)

/-- A slot whose doorbell rings: the request completes, its doorbell bit clears, and UTRCS sets where it asks for an interrupt; an access that fails is a
fatal error of the system bus, and the doorbell stays. -/
def State.ufsSlot (s : State) (n : Nat) : State :=
  let (s, bad, irq) := s.ufsRequest n
  if bad then { s with dev := s.dev.ufsStat 17 }
  else
    let d := s.dev.ufsSet 0x58 (s.dev.ufsGet 0x58 &&& (2 ^ 32 - 1 - 2 ^ n))
    { s with dev := if irq then d.ufsStat 0 else d }

/-- A write of a word of the register file: IS clears by ones, IE gates the interrupt, HCE 0 resets the host, and the doorbell starts the slots whose bit is
new while the host is enabled and the list runs. -/
def State.ufsWrite (s : State) (off v : Nat) : State :=
  let d := s.dev
  match off with
  | 0x20 => { s with dev := (d.ufsSet 0x20 (d.ufsGet 0x20 &&& (v ^^^ (2 ^ 32 - 1)))).ufsLine }
  | 0x24 => { s with dev := (d.ufsSet 0x24 v).ufsLine }
  | 0x34 =>
    let d := if v % 2 = 1 then d else ({ d with vars := d.vars.filter (fun e => e.1.1 != V.ufsReg.id) } : Dev)
    { s with dev := (d.ufsSet 0x34 (v % 2)).ufsLine }
  | 0x58 =>
    if d.ufsGet 0x34 = 0 ∨ d.ufsGet 0x60 % 2 = 0 then s
    else
      let new := (List.range 32).filter (fun n => tbit v n && !tbit (d.ufsGet 0x58) n)
      new.foldl (fun s n => s.ufsSlot n) { s with dev := d.ufsSet 0x58 (d.ufsGet 0x58 ||| v) }
  | 0x5C => { s with dev := d.ufsSet 0x58 (d.ufsGet 0x58 &&& v) }
  | _ => { s with dev := d.ufsSet off v }

/-- A write access of the UFS host's register file: only the application harts reach it, and the refused access of another initiator is captured by SYS with
cause PLANE (R470, R471). -/
def State.ufsAccess (s : State) (a : Acc) (off v : Nat) : State :=
  if 8 ≤ a.bank.val then { s with dev := (s.dev.errAcc 0 3 off a.bank.val).fail }
  else if 0x1000 ≤ off then { s with dev := s.dev.slotNone off a.bank.val }
  else let s := s.ufsWrite (off / 4 * 4) v; { s with dev := s.dev.good }

end Sys2Proof.Machine
end

