-- ==== Sys2Proof/Machine/Registers.lean ====
section
/-! DEFINITION. The configuration space: accesses, register writes, channel select, 64-bit pairs, enable and run, apply, and soft reset
(spec/02_register_conventions.md, R44 to R74 and R660). -/

namespace Sys2Proof.Machine

/-! ### What a write sets in motion -/

/-- Interrupt bits 0 to 9 of BUS follow the channels' events (R424). -/
def Dev.evtLevels (d : Dev) : Dev :=
  d.each (List.range 10) (fun b a => a.level 0x28 b ((List.range 8).any (fun c => tbit (a.get F.BUS_CH_EVT_EVT c) b)))

/-- The partner table is emptied (R423): the change of state of each entry shows in CHG and in SEQ, which goes on (R419). -/
def Dev.ptEmpty (d : Dev) : Dev :=
  let d := d.each ((List.range 254).filter (fun sa => d.var V.ptState sa != 0)) (fun sa a => (a.ptChg sa).ptBump sa)
  let ids := [V.ptState.id, V.ptNamed.id, V.ptOwn.id, V.ptName.id, V.ptFirst.id, V.ptLast.id, V.ptSeen.id]
  { d with vars := d.vars.filter (fun e => !ids.contains e.1.1) }

/-- OWNER of every DMA channel, and what ETH shows of the streams' channels (R435, R458, R489). -/
def Dev.dmaOwners (d : Dev) : Dev := (d.each (List.range 64) (fun c a => a.dmaOwner c)).dmaFaults

/-- The command queue of the IOMMU follows CQEN, and a rise clears its head and its error bits (R478, log entry 20). -/
def Dev.cqFollow (d : Dev) : Dev :=
  let e := d.get F.IOMU_CQCSR_CQEN 0
  if d.get F.IOMU_CQCSR_CQON 0 = e then d
  else
    let d := d.set F.IOMU_CQCSR_CQON 0 e
    if e = 1 then ((((d.set F.IOMU_CQH_V 0 0).set F.IOMU_CQCSR_CQMF 0 0).set F.IOMU_CQCSR_CMD_TO 0 0).set F.IOMU_CQCSR_CMD_ILL 0 0).set
      F.IOMU_CQCSR_FENCE_W_IP 0 0 else d

/-- The fault queue follows FQEN; IOMU_STAT.FAULT falls with FQOF (R482). -/
def Dev.fqFollow (d : Dev) : Dev :=
  let e := d.get F.IOMU_FQCSR_FQEN 0
  let d := if d.get F.IOMU_FQCSR_FQON 0 = e then d
    else
      let d := d.set F.IOMU_FQCSR_FQON 0 e
      if e = 1 then ((d.set F.IOMU_FQT_V 0 0).set F.IOMU_FQCSR_FQMF 0 0).set F.IOMU_FQCSR_FQOF 0 0 else d
  if d.on F.IOMU_FQCSR_FQOF 0 then d else d.set F.COM_STAT_FAULT 0x09 0

/-- What follows a write of one register. `b` is the block before the write. -/
def Dev.afterWrite (d b : Dev) (slot off k : Nat) : Dev :=
  if slot = 0x10 ∧ off = 0x100 then
    (if d.on F.GNRF_ANT_CFG_RETRY k then d
     else if d.get F.GNRF_ANT_STAT_STATE k = 3 then ((d.setVar V.antBias k 0).setVar V.antTry k 0).antState k 4
     else if d.get F.GNRF_ANT_STAT_STATE k = 7 ∧ d.var V.antPrev k = 3 then ((d.setVar V.antBias k 0).setVar V.antTry k 0).setVar V.antPrev k 4
     else d)
  else if slot = 0x12 ∧ off = 0x100 then
    (if d.get F.GNTK_CH_CFG_NAV k = b.get F.GNTK_CH_CFG_NAV k then d else d.setPast 27 k ((d.var V.uptime 0, d.get F.GNTK_CH_CFG_NAV k) :: d.past 27 k))
  else if slot = 0x12 ∧ (off = 0x8B0 ∨ off = 0x8B4) then d.guardEval
  else if slot = 0x20 ∧ off = 0x808 then d.whlGuardStep
  else if slot = 0x21 ∧ off = 0x800 then
    (if b.bstSet k = d.bstSet k then d else (d.setVar V.bstTgt k (b.bstTarget k)).mark V.bstAt k)
  else if slot = 0x21 ∧ off = 0x148 then d.solFaultEval k
  else if slot = 0x22 ∧ off = 0x800 then d.isenseShow
  else if slot = 0x22 ∧ off = 0x11C then
    (let d := if b.on F.LSW_CH_FLAGS_STB k && !d.on F.LSW_CH_FLAGS_STB k then d.setVar V.olHi k 0 else d
     let d := if b.on F.LSW_CH_FLAGS_OPEN k && !d.on F.LSW_CH_FLAGS_OPEN k then d.setVar V.olMid k 0 else d
     d.lswFault k)
  else if slot = 0x23 ∧ off = 0x1000 then
    (if d.get F.ACU_CFG_EN k = b.get F.ACU_CFG_EN k then d else d.setVar V.acuArm k (d.get F.ACU_CFG_EN k))
  else if slot = 0x24 ∧ off = 0x100 then
    (if d.on F.FBRK_PR_CFG_TESTREQ k ∨ tbit (d.get F.FBRK_TEST_PEND 0) k = false then d else d.set F.FBRK_TEST_PEND 0 (d.get F.FBRK_TEST_PEND 0 - 2 ^ k))
  else if slot = 0x24 ∧ off = 0x800 then (if d.running 0x24 then d else (d.groupStep k false false false).fbStat.rideFbSend)
  else if slot = 0x28 ∧ off = 0x128 then d.evtLevels
  else if slot = 0x28 ∧ off = 0x138 then
    d.setVar V.fifoFull k 0
  else if slot = 0x28 ∧ off = 0x840 then
    (if !d.on F.BUS_PT_CFG_EN 0 then d.ptEmpty else if b.on F.BUS_PT_CFG_EN 0 then d else d.ptOwnAll)
  else if slot = 0x2A ∧ off = 0x908 then (d.when (d.on F.STR_CFG_EN k && !b.on F.STR_CFG_EN k && d.var V.strOpen k != 1) (fun a => a.setVar V.strSkip k 1)).dmaOwners
  else if slot = 0x09 ∧ off = 0x1048 then d.cqFollow
  else if slot = 0x09 ∧ off = 0x104C then d.fqFollow
  else if slot = 0x09 ∧ off = 0x1054 then
    (d.level 0x09 0 (tbit (d.get F.IOMU_IPSR_V 0) 0)).level 0x09 1 (tbit (d.get F.IOMU_IPSR_V 0) 1)
  else d

/-! ### Register writes (R46, R59, R61, R660) -/

/-- The bits of a value that a field takes. -/
def fieldOf (f : Fld) (v : Nat) : Nat := v / 2 ^ f.lsb % 2 ^ f.width

/-- A register takes a value, field by field (R660): the fields in `part` that no rule refuses take theirs, and each error that a rule names
is set once. -/
def Dev.regPut (d : Dev) (slot bank off : Nat) (r : RegAt) (v : Nat) (part : Fld → Bool) : Dev :=
  let ch := d.get F.COM_CHSEL_CH (slot * 16 + bank)
  let k := fieldIndex d slot off bank ch r
  let w : WriteAt := ⟨r.reg.off, k, ch, v, dimProd r.reg.dims⟩
  let turns := (r.reg.fields.filter part).map (fun f =>
    (f, d.turnAny slot r.reg.chan (planeOfBank bank) f w (fieldOf f v)))
  let e := turns.foldl (fun a t => if t.2 = .take then a.fieldWrite slot (planeOfBank bank) t.1 w (fieldOf t.1 v) else a) d
  let e := if r.reg.off < 0x100 then e else e.afterWrite d slot r.reg.off k
  ((turns.map (fun t => t.2)).dedup).foldl (fun a t => match t with
    | .err c => a.errAcc slot c off bank
    | .blk b => a.errBlk slot b 0
    | _ => a) e

/-- Index of an initiator's holding registers in a block. -/
def holdIx (slot bank : Nat) : Nat := slot * 16 + bank

/-- A write of one word (R46, R59, R61): the low half of a pair is held, the high half commits both where the low half of the same pair is held. While a soft
reset runs a half is taken as the field by field rule takes it, and no half is held (R67, R660). At an unassigned offset of the channel window R46 goes before R59:
one cause can be captured, and the spec does not say which (log entry 192). -/
def Dev.wordWrite (d : Dev) (slot bank off v : Nat) : Dev :=
  match regAt slot off with
  | none => if fixedOff slot off then d else d.errAcc slot 5 off bank
  | some r =>
    if r.reg.chan && decide (chCnt slot ≤ d.get F.COM_CHSEL_CH (slot * 16 + bank)) then (d.cone slot 7).errAcc slot 1 off bank
    else
      let d := if r.reg.chan then d.cone slot 7 else d
      let h := holdIx slot bank
      if !r.reg.pair then d.regPut slot bank off r v (fun _ => true)
      else if !r.high && d.var V.softRst slot != 0 then
        let k := fieldIndex d slot off bank (d.get F.COM_CHSEL_CH (slot * 16 + bank)) r
        d.regPut slot bank off r (v + d.regValue slot r k / 2 ^ 32 * 2 ^ 32) (fun f => decide (f.lsb < 32))
      else if !r.high then (d.setVar V.wrTag h (off + 1)).setVar V.wrHold h v
      else if d.var V.wrTag h = ((off - 4 + 1 : Nat) : Int) then
        (d.setVar V.wrTag h 0).regPut slot bank off r ((d.var V.wrHold h).toNat + v * 2 ^ 32) (fun _ => true)
      else
        let k := fieldIndex d slot off bank (d.get F.COM_CHSEL_CH (slot * 16 + bank)) r
        d.regPut slot bank off r (d.regValue slot r k % 2 ^ 32 + v * 2 ^ 32) (fun f => decide (32 < f.lsb + f.width))

/-- The words of one access, from `off` up. A pair that lies whole in the access commits at once. -/
def Dev.wordsWrite (d : Dev) (slot bank off : Nat) (l : List Nat) : Dev :=
  match l with
  | [] => d
  | v :: t => match t with
    | [] => d.wordWrite slot bank off v
    | v2 :: t2 => match regAt slot off with
      | some r =>
        if r.reg.pair && !r.high && !(r.reg.chan && decide (chCnt slot ≤ d.get F.COM_CHSEL_CH (slot * 16 + bank))) then
          Dev.wordsWrite ((if r.reg.chan then d.cone slot 7 2 else d).regPut slot bank off r (v + v2 * 2 ^ 32) (fun _ => true)) slot bank (off + 8) t2
        else Dev.wordsWrite (d.wordWrite slot bank off v) slot bank (off + 4) (v2 :: t2)
      | none => Dev.wordsWrite (d.wordWrite slot bank off v) slot bank (off + 4) (v2 :: t2)

/-- Why a write access is turned away: the rules of R56, and for x_OWNER the keeper or M mode of the owning plane. -/
def writeCause (slot off : Nat) (a : Acc) (m : Bool) : Option Nat :=
  match accCause slot off a true with
  | some c => some c
  | none =>
    if off = 0x24 ∧ a.bank.val ≠ 10 then
      (if planeOfBank a.bank.val ≠ planeOfSlot slot then some 3 else if !m then some 2 else none)
    else none

/-- A write access of `n` bytes whose words are `l` (R45 to R47, R56). -/
def Dev.confWrite (d : Dev) (a : Acc) (m : Bool) (slot off n : Nat) (l : List Nat) : Dev :=
  if !slots.contains slot then d.slotNone off a.bank.val
  else if !sizeOk off n then ((d.cone slot 3).errAcc slot 6 off a.bank.val).fail
  else match writeCause slot off a m with
    | some c => ((d.cone slot 3).errAcc slot c off a.bank.val).fail
    | none => d.wrAny slot off a (fun d => d.wordsWrite slot a.bank.val off l)

/-- The words of an access. -/
def accWords (n v : Nat) : List Nat := (List.range (n / 4)).map (fun i => v / 2 ^ (32 * i) % 2 ^ 32)

/-- REGISTER_WRITE (R660, R46, R47, R56, R59, R61). A field whose write is a command of its own is left to that command. The keeper's GO in
UPD_CONFIRM confirms the image on trial (R531). A write to the UFS host's register file is carried out by the host (R477). -/
def State.registerWrite (s : State) (a : Acc) (x : RegIn) : State :=
  let slot := x.slot.toNat
  let off := x.off.toNat
  if x.ufs then s.ufsAccess a off (x.data.toNat % 2 ^ 32) else
  let d := s.dev.confWrite a x.m slot off x.len.toNat (accWords x.len.toNat x.data.toNat)
  if slot = 0x30 ∧ off = 0x808 ∧ x.len = 4 ∧ a.bank.val = 10 ∧ a.priv ∧ x.data.toNat % 2 = 1 ∧ d.inTrial ∧ s.dev.var V.softRst 0x30 = 0 then State.confirm { s with dev := d }
  else { s with dev := d }

def execRegisterWrite (a : Acc) (x : RegIn) (s : State) : Host.Outcome State Fault Refusal := .next (s.registerWrite a x)

/-- CONFIG_ACCESS_UNMAPPED (R45, R46): an access to an unassigned slot, or to an unassigned offset of an assigned one, whose read returns 0. -/
def Dev.unmapped (d : Dev) (a : Acc) (slot off : Nat) (wr : Bool) : Dev :=
  if !slots.contains slot then d.slotNone off a.bank.val
  else if offMapped slot off then d
  else if off % 4 != 0 then ((d.cone slot 3).errAcc slot 6 off a.bank.val).fail
  else match accCause slot off a wr with
    | some c => ((d.cone slot 3).errAcc slot c off a.bank.val).fail
    | none => { ((d.cone slot (if wr then 2 else 1)).errAcc slot 5 off a.bank.val).good with rdata := if wr then d.rdata else 0 }

def execConfigAccessUnmapped (a : Acc) (slot : BitVec 6) (off : BitVec 16) (wr : Bool) (s : State) : Host.Outcome State Fault Refusal :=
  s.upd (fun d => d.unmapped a slot.toNat off.toNat wr)

/-- CHSEL_WRITE (R57, R59): the value of the writer's bank, any value. -/
def execChselWrite (a : Acc) (slot : BitVec 6) (ch : BitVec 16) (s : State) : Host.Outcome State Fault Refusal :=
  s.upd (fun d =>
    if !slots.contains slot.toNat then d.slotNone 0x80 a.bank.val
    else d.wr slot.toNat 0x080 a (fun d => d.set F.COM_CHSEL_CH (slot.toNat * 16 + a.bank.val) ch.toNat)
      (d.get F.COM_CHSEL_CH (slot.toNat * 16 + a.bank.val) != ch.toNat))

/-! ### Reads of pairs (R61) -/

/-- Why a read is turned away (R56); the counters of Cones may be read without privilege while OWNER.UCNT is 1. -/
def Dev.readCause (d : Dev) (slot off : Nat) (a : Acc) : Option Nat :=
  if !a.priv && decide (0x40 ≤ off) && decide (off < 0x60) && d.on F.COM_OWNER_UCNT slot then accCause slot off { a with priv := true } false
  else accCause slot off a false

/-- A read of one half of a pair: `k` gives the answer from the pair's present value. -/
def Dev.pairRead (d : Dev) (a : Acc) (slot off : Nat) (high : Bool) (k : Nat → Dev → Dev) : Dev :=
  if !slots.contains slot then d.slotNone off a.bank.val
  else match regAt slot off with
    | none => d
    | some r =>
      if !r.reg.pair || r.high != high then d
      else match d.readCause slot off a with
        | some c => ((d.cone slot 3).errAcc slot c off a.bank.val).fail
        | none =>
          let d := d.cone slot 1
          let d := if r.reg.chan then d.cone slot 7 else d
          let ch := d.get F.COM_CHSEL_CH (slot * 16 + a.bank.val)
          if r.reg.chan && decide (chCnt slot ≤ ch) then ({ d.errAcc slot 1 off a.bank.val with rdata := 0 } : Dev).good
          else (k (d.regValue slot r (fieldIndex d slot off a.bank.val ch r)) d).good

/-- PAIR_LOW_READ: the high half of the same cycle is held, tagged with the offset. A read of TIME_NOW also latches the fraction (R103). -/
def Dev.pairLowRead (d : Dev) (a : Acc) (slot off : Nat) : Dev :=
  d.pairRead a slot off false (fun v d =>
    let h := holdIx slot a.bank.val
    let d := if slot = 0x07 ∧ off = 0x800 then d.setVar V.nowFrac a.bank.val (d.var V.grove 0 % 65536) else d
    ({ d with rdata := v % 2 ^ 32 } : Dev).setVar V.rdTag h (off + 1) |>.setVar V.rdHold h (v / 2 ^ 32 : Nat))

def execPairLowRead (a : Acc) (slot : BitVec 6) (off : BitVec 16) (s : State) : Host.Outcome State Fault Refusal :=
  s.upd (fun d => d.pairLowRead a slot.toNat off.toNat)

/-- PAIR_HIGH_READ: with the pair's tag the held half, which clears the tag; else the present high half. -/
def Dev.pairHighRead (d : Dev) (a : Acc) (slot off : Nat) : Dev :=
  d.pairRead a slot off true (fun v d =>
    let h := holdIx slot a.bank.val
    if d.var V.rdTag h = ((off - 4 + 1 : Nat) : Int) then ({ d with rdata := (d.var V.rdHold h).toNat } : Dev).setVar V.rdTag h 0
    else { d with rdata := v / 2 ^ 32 })

def execPairHighRead (a : Acc) (slot : BitVec 6) (off : BitVec 16) (s : State) : Host.Outcome State Fault Refusal :=
  s.upd (fun d => d.pairHighRead a slot.toNat off.toNat)

/-- Whether an offset is the low or the high half of a pair. -/
def pairHalf (slot off : Nat) (high : Bool) : Bool :=
  match regAt slot off with
  | some r => r.reg.pair && r.high == high
  | none => false

/-- PAIR_LOW_WRITE: the half waits in the writing bank's holding register. -/
def execPairLowWrite (a : Acc) (slot : BitVec 6) (off : BitVec 16) (v : BitVec 32) (s : State) : Host.Outcome State Fault Refusal :=
  s.upd (fun d =>
    if !slots.contains slot.toNat then d.slotNone off.toNat a.bank.val
    else if pairHalf slot.toNat off.toNat false then
      d.wrAny slot.toNat off.toNat a (fun d => d.wordWrite slot.toNat a.bank.val off.toNat v.toNat)
    else d)

/-- PAIR_HIGH_WRITE: both halves commit together where the low half is held; else the high half alone. -/
def execPairHighWrite (a : Acc) (slot : BitVec 6) (off : BitVec 16) (v : BitVec 32) (s : State) : Host.Outcome State Fault Refusal :=
  s.upd (fun d =>
    if !slots.contains slot.toNat then d.slotNone off.toNat a.bank.val
    else if pairHalf slot.toNat off.toNat true then
      d.wrAny slot.toNat off.toNat a (fun d => d.wordWrite slot.toNat a.bank.val off.toNat v.toNat)
    else d)

/-! ### Reads of one word (R46, R49, R57, R59, R61), which the Glade monitor and the DMA engines make -/

/-- x_CAP (R49): the values that the chapters give. -/
def capWord (slot : Nat) : Nat :=
  match slot with
  | 0x00 => 0 | 0x01 => 0x566 | 0x02 => 4 | 0x03 => 0x410 | 0x04 => 0x78000800 | 0x05 => 7 | 0x06 => 0x300420 | 0x07 => 0x40010
  | 0x08 => 0x10F | 0x09 => 0x400400 | 0x0A => 0x201004 | 0x10 => 0x433 | 0x11 => 0x8003 | 0x12 => 0x8070258 | 0x13 => 1
  | 0x18 => 0x400268 | 0x19 => 0x14 | 0x1A => 0x440 | 0x1B => 0x80010 | 0x20 => 0x4004240 | 0x21 => 0x2618 | 0x22 => 0x280818
  | 0x23 => Config.ainCap % 2 ^ 32 | 0x24 => 0x810 | 0x25 => 0x86008 | 0x28 => 0x4810048 | 0x29 => 0x81000 | 0x2A => 0x800106A
  | 0x2B => 0x402004 | 0x30 => 0x1002 | 0x31 => 1 | _ => 0

/-- x_ID (R11): CODE, INST and VER. Each block has one instance (R48), so INST is 0; in SYS, VER is the SoC stepping 0xB0 (R2). -/
def idWord (slot : Nat) : Nat :=
  let v := Config.blockId slot % 2 ^ 32
  v / 65536 * 65536 + (if slot = 0 then 0xB0 else v % 256)

/-- The record that a slot of the SHRD window shows (R573). -/
def State.shrdWindow (s : State) (j : Nat) : List Nat :=
  if s.dev.on F.SHRD_WIN_MODE 0 then logBytes s.log ((s.dev.get F.SHRD_WIN_BASE 0 + j) % 32768)
  else
    let h := s.dev.get F.SHRD_HEADSEQ_SEQ 0
    if h = 0xFFFFFFFF then List.replicate 64 0xFF
    else
      let n := (h + 0xFFFFFFFF - 63 + j) % 0xFFFFFFFF
      match s.log.find? (fun e => match e.2 with | LogCell.held r => r.seq == n | LogCell.left _ => false) with
      | some e => logBytes s.log e.1
      | none => List.replicate 64 0xFF

/-- The copy of an entry that SAGR page 1 shows (R582). -/
def Dev.sagrBytes (d : Dev) (e : SagrEntry) : List Nat :=
  let b := Record.bytes ⟨e.seq.getD 0xFFFFFFFF, e.time, e.src, e.cls, e.code, e.pay, d.get F.SYS_RSTC_CNT 0, e.errw⟩
  b.take 56 ++ leBytes 2 e.rep ++ [bit e.pre] ++ b.drop 59

/-- The fuses as one number. -/
def Otp.code (o : Otp) : Nat := o.st + 8 * o.svn + 1024 * bit o.dbgK + 2048 * bit o.dbgO + 4096 * (o.oemRev % 16) + 65536 * o.oemProg

/-- A word of a window or a constant that holds no register field. -/
def State.fixedWord (s : State) (slot off : Nat) : Nat :=
  let p := off - 0x1000
  if off = 0 then idWord slot
  else if off = 4 then capWord slot
  else if off = 0x84 then chCnt slot
  else if slot = 0x02 ∧ off = 0x804 then s.otp.svn
  else if slot = 0x02 ∧ off = 0x808 then s.otp.oemProg % 16 + s.otp.oemRev % 16 * 16 + bit s.otp.dbgK * 256 + bit s.otp.dbgO * 512
  else if slot = 0x02 then Config.otpWord off s.otp.code % 2 ^ 32
  else if slot = 0x04 then leAt (s.shrdWindow (p / 64)) (p % 64) 4
  else if slot = 0x03 then
    (match (if p < 64 then s.dev.sagrCur else s.dev.sagrQ[p / 64 - 1]?) with
     | some e => leAt (s.dev.sagrBytes e) (p % 64) 4
     | none => 0)
  else if p < 0xA000 then leAt (s.dev.clrBuffer (p / 128) (p / 64 % 2)) (p % 64) 4
  else leAt (s.dev.clrBuffer (320 + (p - 0xA000) / 256) (p / 128 % 2)) (p % 128) 4

/-- The word at an offset of an assigned slot, and what reading it does (R46, R59, R61). -/
def State.wordRead (s : State) (slot bank off : Nat) : Dev × Nat :=
  let d := s.dev.cone slot 1
  let ch := d.get F.COM_CHSEL_CH (slot * 16 + bank)
  match regAt slot off with
  | none => if fixedOff slot off then (d, s.fixedWord slot off) else (d.errAcc slot 5 off bank, 0)
  | some r =>
    if r.reg.chan && decide (chCnt slot ≤ ch) then ((d.cone slot 7).errAcc slot 1 off bank, 0)
    else
      let d := if r.reg.chan then d.cone slot 7 else d
      let v := d.regValue slot r (fieldIndex d slot off bank ch r)
      let h := holdIx slot bank
      if !r.reg.pair then
        (d, v + (if off = 0x24 then planeOfSlot slot * 65536 else if slot = 0x02 ∧ off = 0x800 then (d.var V.lcSt 0).toNat else 0))
      else if !r.high then
        let d := if slot = 0x07 ∧ off = 0x800 then d.setVar V.nowFrac bank (d.var V.grove 0 % 65536) else d
        ((d.setVar V.rdTag h (off + 1)).setVar V.rdHold h (v / 2 ^ 32 : Nat), v % 2 ^ 32)
      else if d.var V.rdTag h = ((off - 4 + 1 : Nat) : Int) then (d.setVar V.rdTag h 0, (d.var V.rdHold h).toNat)
      else (d, v / 2 ^ 32)

/-- A read access of one word by an initiator: the word, or an error response. -/
def State.confRead (s : State) (a : Acc) (slot off : Nat) : Dev × Option Nat :=
  if !slots.contains slot then (s.dev.slotNone off a.bank.val, none)
  else if off % 4 ≠ 0 then (((s.dev.cone slot 3).errAcc slot 6 off a.bank.val).fail, none)
  else match s.dev.readCause slot off a with
    | some c => (((s.dev.cone slot 3).errAcc slot c off a.bank.val).fail, none)
    | none =>
      let r := s.wordRead slot a.bank.val off
      (({ r.1 with rdata := r.2 } : Dev).good, some r.2)

/-! ### Enable and run (R50, R51, R74) -/

/-- EN of a block takes a value; FBRK checks its configuration (R388), and a rise clears what a fault has stopped in EGO and CROP, and EGO_STEPSEQ (R229, R230, R258). -/
def Dev.blockEn (d : Dev) (slot : Nat) (en : Bool) : Dev :=
  if slot = 0x24 then d.fbEnable en
  else
    let rise := en && !d.on F.COM_CTRL_EN slot
    let d := (d.set F.COM_CTRL_EN slot (bit en)).setVar V.softWas slot 0
    if slot = 0x19 then (d.when rise (fun a => (a.setVar V.egoRingStop 0 0).set F.EGO_STEPSEQ_SEQ 0 0)).egoFault
    else if rise && slot == 0x1B then (d.setVar V.yStop 0 0).set F.COM_STAT_FAULT 0x1B 0
    else d

def execBlockEnWrite (a : Acc) (slot : BitVec 6) (en : Bool) (s : State) : Host.Outcome State Fault Refusal :=
  s.upd (fun d =>
    if !slots.contains slot.toNat then d.slotNone 0x008 a.bank.val
    else d.wr slot.toNat 0x008 a (fun d => d.blockEn slot.toNat en) (d.on F.COM_CTRL_EN slot.toNat != en))

/-- The first multiple of `m` ns after the present Grove time. -/
def Dev.nextAfter (d : Dev) (m : Int) : Int := nextMultiple (d.var V.grove 0 + 1) m 0

/-- What starts in a block when RUN rises. -/
def Dev.runRise (d : Dev) (slot : Nat) : Dev :=
  match slot with
  | 0x06 => d.mark V.coneAt 0
  | 0x12 => d.setVar V.nextEpoch 0 (d.nextAfter (max 1 (d.get F.GNTK_EPOCH_CFG_EPER.act 0) * 1000000 : Nat))
  | 0x13 => (d.setVar V.pulseT 0 (-1)).pulseSeek
  | 0x18 => (d.setVar V.gridClr 0 1).setVar V.nextTk 0 (d.nextAfter d.gper)
  | 0x1B => d.setVar V.nextY 0 (d.nextAfter d.yper)
  | 0x20 => d.whlGuardStep.each ((List.range 64).filter (fun k => d.on F.WHL_LP_CFG_EN k)) (fun k a => a.lpStart k)
  | 0x21 => d.solAllSync
  | 0x22 => d.each (List.range 24) (fun c a => a.lswSync c)
  | 0x23 => (d.acuFresh.setVar V.nextWin 0 (d.nextAfter d.acuWin)).mark V.lastWin 0
  | 0x24 => d.fbRise
  | 0x25 => d.segRise
  | 0x28 => d.busRun true
  | 0x2B => d.rideRise
  | _ => d

/-- What ends in a block when RUN falls. -/
def Dev.runFall (d : Dev) (slot : Nat) : Dev :=
  match slot with
  | 0x20 => d.each ((List.range 64).filter (fun k => d.on F.WHL_LP_CFG_EN k)) (fun k a => a.lpStop k)
  | 0x21 => d.solAllSync
  | 0x22 => d.each (List.range 24) (fun c a => a.lswSync c)
  | 0x24 => d.fbFall
  | 0x28 => d.busRun false
  | _ => d

/-- BLOCK_RUN_CHANGE (R50, R51): at the block's boundary RUN follows EN, and CFGLOCK follows RUN. -/
def Dev.runChange (d : Dev) (slot : Nat) : Dev :=
  let en := d.get F.COM_CTRL_EN slot
  if !slots.contains slot || d.var V.softRst slot != 0 || d.get F.COM_STAT_RUN slot == en then d
  else
    let d := (d.set F.COM_STAT_RUN slot en).set F.COM_STAT_CFGLOCK slot en
    if en = 1 then d.runRise slot else d.runFall slot

def execBlockRunChange (slot : BitVec 6) (s : State) : Host.Outcome State Fault Refusal := s.upd (fun d => d.runChange slot.toNat)

/-! ### Apply (R62 to R66) -/

/-- A mask with the bits of a list. -/
def maskOf (l : List Nat) : Nat := l.foldl (fun a i => a + 2 ^ i) 0

/-- What a pending apply waits for begins anew: the boundaries that the block has had are forgotten, and the present instant is kept (R63). -/
def Dev.applyMark (d : Dev) (slot : Nat) : Dev :=
  let d := ({ d with vars := d.vars.filter (fun e => !(e.1.1 == V.boundAt.id && e.1.2 / 1024 == slot)) } : Dev).mark V.applyAt slot
  d.setVar V.applyG slot (d.var V.grove 0)

/-- APPLY_GO (R63, R65). Where an apply is pending, APPLYPEND is set whatever CHONLY selects: only one cause can be captured, and the spec does not say which
of R63 and R65 comes first (log entry 156). -/
def Dev.applyGo (d : Dev) (slot bank : Nat) (chonly : Bool) : Dev :=
  if !hasRws slot then d
  else if d.on F.COM_APPLY_PEND slot then d.errAcc slot 4 0x20 bank
  else
    let ch := d.get F.COM_CHSEL_CH (slot * 16 + bank)
    if chonly && decide (chCnt slot ≤ ch) then d.errAcc slot 1 0x20 bank
    else
      let us := if chonly then chanUnits slot ch else applyUnits slot
      (((d.set F.COM_APPLY_PEND slot 1).setVar V.applyCov slot (if chonly then ch + 2 else 1)).setVar V.applyDue slot (maskOf us)).applyMark slot

def execApplyGo (a : Acc) (slot : BitVec 6) (chonly : Bool) (s : State) : Host.Outcome State Fault Refusal :=
  s.upd (fun d =>
    if !slots.contains slot.toNat then d.slotNone 0x020 a.bank.val
    else d.wr slot.toNat 0x020 a (fun d => d.applyGo slot.toNat a.bank.val chonly))

/-- The indices of a register's fields that belong to a unit. -/
def unitIndices (slot : Nat) (r : Reg) (u : Nat) : List Nat :=
  let n := dimProd r.dims
  if r.chan then (if u = wideUnit then [] else (List.range n).map (fun k => u * n + k))
  else if slot = 0x10 ∧ 0x1000 ≤ r.off then (if u = wideUnit then [] else (List.range (n / 9)).map (fun k => u * (n / 9) + k))
  else if slot = 0x2A ∧ r.off = 0x2000 then (if u = wideUnit then [] else (List.range 64).map (fun k => u * 64 + k))
  else if u = wideUnit then List.range n else []

/-- The shadows of a unit become active (R62, R63). -/
def Dev.copyUnit (d : Dev) (slot u : Nat) : Dev :=
  (regsOf slot).foldl (fun a r =>
    (r.fields.filter (fun f => f.kind == .rws)).foldl (fun b f =>
      b.each (unitIndices slot r u) (fun k e => e.set f.act k (e.get f k))) a) d

/-- A notch whose mode has been copied (R117): FIXED filters at FREQ, OFF and a change to ADAPT leave it free. -/
def Dev.notchApply (d b : Dev) (k : Nat) : Dev :=
  let m := d.get F.GNRF_NOTCH_CFG_MODE.act k
  if m = 1 then
    (((d.set F.GNRF_NOTCH_STAT_ACTIVE k 1).set F.GNRF_NOTCH_STAT_ATTEN k (80 + d.freeVal % 176)).useFree).set F.GNRF_NOTCH_FNOW_FNOW k
      (d.get F.GNRF_NOTCH_FREQ_FREQ.act k)
  else if b.get F.GNRF_NOTCH_CFG_MODE.act k = m then d
  else (((d.set F.GNRF_NOTCH_STAT_ACTIVE k 0).set F.GNRF_NOTCH_STAT_ATTEN k 0).setVar V.notchLvl k 0).setVar V.notchLow k 0

/-- A band path whose fields have been copied: a change of BMODE retunes groups 1 and 2 of the chip (R112, R113), and channels whose signal the new
mode does not carry are lost (R154). -/
def Dev.pathApply (d b : Dev) (p : Nat) : Dev :=
  let d := d.each (List.range 4) (fun n a => a.notchApply b (4 * p + n))
  if p % 3 ≠ 1 ∨ d.get F.GNRF_PATH_CFG_BMODE.act p = b.get F.GNRF_PATH_CFG_BMODE.act p then d
  else
    let i := p / 3
    let d := (d.setVar V.retuneOn i 1).mark V.retuneAt i
    let d := (d.pathDown p).pathDown (p + 1)
    let gone := (List.range 600).filter (fun c => decide (1 ≤ d.get F.GNTK_CH_STAT_STATE c) && decide (d.get F.GNTK_CH_STAT_STATE c ≤ 4) &&
      d.get F.GNTK_CH_CFG_ANT c == i &&
      (match sigOf (d.get F.GNTK_CH_CFG_SIG c) with | some g => !d.bandOk i g | none => false))
    d.each gone (fun c a => a.trkLost c 5)

/-- What follows the copy of a unit. `b` is the block before it. -/
def Dev.afterCopy (d b : Dev) (slot u : Nat) : Dev :=
  if slot = 0x07 then (if d.get F.TIME_STEER_CFG_SLOT.act 0 = b.get F.TIME_STEER_CFG_SLOT.act 0 then d else d.steerSlot)
  else if slot = 0x10 then d.pathApply b u
  else if slot = 0x11 then
    d.setVar V.heldOk u 0
  else if slot = 0x12 then
    (if u = wideUnit ∧ 0 ≤ d.var V.nextEpoch 0 ∧ d.get F.GNTK_EPOCH_CFG_EPER.act 0 ≠ b.get F.GNTK_EPOCH_CFG_EPER.act 0 then
      d.setVar V.nextEpoch 0 (d.nextAfter (max 1 (d.get F.GNTK_EPOCH_CFG_EPER.act 0) * 1000000 : Nat)) else d)
  else if slot = 0x13 then (if d.running 0x13 then d.pulseSeek else d)
  else if slot = 0x18 then
    (if u = wideUnit ∧ 0 ≤ d.var V.nextTk 0 ∧ d.gper ≠ b.gper then d.setVar V.nextTk 0 (d.nextAfter d.gper) else d)
  else if slot = 0x1B then
    (if 0 ≤ d.var V.nextY 0 ∧ d.yper ≠ b.yper then d.setVar V.nextY 0 (d.nextAfter d.yper) else d)
  else if slot = 0x22 then d.lswSync u
  else if slot = 0x23 then
    (let d := d.when (d.running 0x23) (fun a => a.setVar V.acuApplied 0 1)
     if 0 ≤ d.var V.nextWin 0 ∧ d.acuWin ≠ b.acuWin then d.setVar V.nextWin 0 (d.nextAfter d.acuWin) else d)
  else d

/-- A covered unit that waits for no boundary (R63): its block does not run, or its channel is disabled. An engine of GNAQ with no entry has no bin to end. The
channel of GNRF is a band path here (log entry 207). -/
def Dev.unitOff (d : Dev) (slot u : Nat) : Bool :=
  !d.running slot ||
    (match slot with
     | 0x10 => !d.on F.GNRF_PATH_CFG_EN u
     | 0x11 => d.var V.acqPhase u == 0
     | 0x12 => u != wideUnit && !d.on F.GNTK_CH_CFG_EN u
     | 0x18 => u != wideUnit && !d.on F.CNPY_SEN_CFG_EN u
     | 0x20 => !d.on F.WHL_LP_CFG_EN u
     | 0x21 => !d.on F.SOL_CH_CFG_EN u
     | 0x22 => !d.on F.LSW_CH_CFG_EN u
     | 0x2A => !d.on F.ETH_PORT_CFG_EN u || !d.on F.ETH_PORT_GCL_GEN.act u
     | _ => false)

/-- The block's own boundary, which all its units share, or the unit's (R64). -/
def boundUnit (slot u : Nat) : Nat := if slot = 0x11 ∨ slot = 0x20 then u else wideUnit

/-- PWM periods of an LSW channel that have started by an instant; FREQ lies from 100 to 2,000 Hz (R364). Their phase is the model's choice (log entry
166). -/
def Dev.pwmPeriods (d : Dev) (c : Nat) (at_ : Int) : Int := at_ * clamp 100 2000 (d.get F.LSW_CH_PWM_FREQ.act c) / 65536000000000

/-- Gate cycles of a port that have started by an instant of Grove time (R431). -/
def Dev.gateCycles (d : Dev) (p : Nat) (at_ : Int) : Int :=
  (at_ - (d.get F.ETH_PORT_GBASE_BASE.act p : Int) * 65536) / (clamp 10000 100000000 (d.get F.ETH_PORT_GCYC_CYCLE.act p) * 65536)

/-- The boundary of a covered unit is now (R63, R64). For WHL it is the start of the loop's evaluation, which the copy precedes (R297), and for
SEG the start of the next line (R557). For SOL it is at once where no event of the channel runs, and in CURRENT the next chop period (R309). A PWM period and a gate
cycle are looked up by the
time that has passed since GO; the scan of AIN has no length in the spec, so its end is the command itself. -/
def Dev.atBoundary (d : Dev) (slot u : Nat) : Bool :=
  d.unitOff slot u ||
    (match slot with
     | 0x20 => d.laneNext u || d.var V.boundAt (slot * 1024 + u) == d.var V.uptime 0
     | 0x21 =>
       let p := d.get F.SOL_CH_STAT_PHASE u
       !(p == 2 || p == 3 || p == 4 || p == 6) || (p == 6 && decide (d.solChops u (d.var V.applyAt slot) < d.solChops u (d.var V.uptime 0)))
     | 0x22 => decide (d.pwmPeriods u (d.var V.applyAt slot) < d.pwmPeriods u (d.var V.uptime 0))
     | 0x23 => true
     | 0x25 => d.segMayStart
     | 0x2A => d.gateCycles u (d.var V.applyG slot) != d.gateCycles u (d.var V.grove 0)
     | _ => d.var V.boundAt (slot * 1024 + boundUnit slot u) == d.var V.uptime 0)

/-- APPLY_COPY (R63, R64): the boundary of a covered unit comes (none: the block's), and its shadows are copied; the last copy ends the apply. Without a
boundary at this instant nothing is copied. -/
def Dev.applyCopy (d : Dev) (slot : Nat) (unit : Option Nat) : Dev :=
  let u := unit.getD wideUnit
  let due := (d.var V.applyDue slot).toNat
  if !d.on F.COM_APPLY_PEND slot || !tbit due u || !d.atBoundary slot u then d
  else
    let e := ((d.copyUnit slot u).afterCopy d slot u).setVar V.applyDue slot ((due - 2 ^ u : Nat) : Int)
    if due = 2 ^ u then (((e.set F.COM_APPLY_PEND slot 0).setVar V.applyCov slot 0).irq slot 30).cone slot 6 else e

def execApplyCopy (slot : BitVec 6) (unit : Option (Fin 600)) (s : State) : Host.Outcome State Fault Refusal :=
  s.upd (fun d => d.applyCopy slot.toNat (unit.map (fun u => u.val)))

/-! ### Soft reset (R66, R72 to R74) -/

/-- What a soft reset leaves: x_OWNER, the CONE registers and x_ERR (R72); what PSC0 and PSC1 hold and show; the facts about the running image; and
the state of the DRAM. -/
def softKept : List Fld := [F.COM_OWNER_UCNT, F.COM_CONE_SEL_EVT, F.COM_CONE_SEL_EN, F.COM_CONE_SEL_CMODE, F.COM_CONE_SEL_OCC, F.COM_CONE_SEL_THR,
  F.COM_CONE_CNT_V, F.COM_CONE_CNT_WRAP, F.COM_ERR_LOCKWR, F.COM_ERR_CHRANGE, F.COM_ERR_PRIV, F.COM_ERR_PLANE, F.COM_ERR_APPLYPEND,
  F.COM_ERR_UNMAP, F.COM_ERR_SIZE, F.COM_ERR_BLK, F.COM_ERR_BCODE, F.COM_ERR_BANK, F.COM_ERR_WOFF, F.COM_ERR_MORE, F.COM_ERR_VALID,
  F.LSW_CH_TEMP_TJ, F.LSW_CH_TEMP_WRISE, F.LSW_CH_STAT_RTRN, F.LSW_SUPPLY_CRANKA, F.LSW_SUPPLY_CRANKB, F.LSW_SUPPLY_BROWNA,
  F.LSW_SUPPLY_BROWNB, F.LSW_SUPPLY_UV, F.LSW_SUPPLY_DEAD, F.SOL_SUPPLY_DEAD, F.SOL_SUPPLY_CRANK, F.SOL_SUPPLY_UV, F.SOL_SUPPLY_VSUP, F.LSW_PSC_LINK0, F.LSW_PSC_LINK1, F.LSW_PSC_OFF0,
  F.LSW_PSC_OFF1, F.FBRK_LATCH_GROUPS, F.FBRK_LATCH_LCAUSE, F.UPD_STATE_BOOTED, F.UPD_STATE_TRIAL, F.UPD_STATE_REASON, F.UPD_STATE_FALLEN,
  F.MEM_DRAM_TRAINED, F.MEM_DRAM_SELFREF, F.MEM_DRAM_SIZE, F.MEM_DRAM_TEMP]

/-- The blocks that ignore SRST (R73). -/
def softIgnored (slot : Nat) : Bool := ([0x00, 0x01, 0x02, 0x07, 0x0B] : List Nat).contains slot

/-- What a block does at once when its soft reset starts. -/
def Dev.softEnd (d : Dev) (slot : Nat) : Dev :=
  match slot with
  | 0x05 => d.kilnAbort
  | 0x0A => d.each (List.range 64) (fun c a => a.lineDrop c)
  | 0x10 => d.each (List.range 9) (fun p a => a.pathDown p)
  | 0x20 => d.each (List.range 64) (fun k a => (if a.on F.WHL_LP_CFG_EN k then a.lpStop k else a).lpEnd k)
  | 0x25 => d.segAbort
  | 0x2B => d.untake
  | _ => d

/-- The state that other registers show of a block is formed anew. -/
def Dev.softShow (d : Dev) (slot : Nat) : Dev :=
  match slot with
  | 0x08 => d.memShow
  | 0x0A => d.dmaOwners
  | 0x12 => d.slipBits false (d.on F.EGO_STAT_SLIPUNK 0)
  | 0x19 => d.slipBits (d.on F.GNTK_GUARD_STAT_CONTRA 0) (d.on F.EGO_STAT_SLIPUNK 0)
  | 0x21 => d.solShow
  | 0x22 => d.lswFault 0
  | 0x24 => d.fbIdle.fbCuts
  | 0x25 => d.segShow
  | 0x2A => ((d.set F.ETH_PORT_STAT_TAKEN 2 (d.get F.RIDE_CFG_PCEN 0)).set F.ETH_PORT_STAT_TAKEN 3 (d.get F.RIDE_CFG_PDEN 0)).dmaOwners
  | _ => d

/-- SOFT_RESET (R66, R72, R73): the block's slot takes its reset values with the exceptions of R72, EN is left at 0, and BUSY and CFGLOCK are 1. -/
def Dev.softStart (d : Dev) (slot : Nat) : Dev :=
  if softIgnored slot || d.var V.softRst slot == 2 then d
  else
    let d := d.softEnd slot
    let latched := (List.range 24).filter (fun c => d.get F.LSW_CH_STAT_STATE c == 4)
    let past := d.hist.filter (fun e => !(pastSlot e.1.1 == slot) || e.1.1 == 7)
    let d := { d.drop (fun n => n == slot) (fun k => isFld softKept k || (isFld lswLatchFlds k && latched.contains k.2))
      (fun k => ctlKeptVars.contains k.1 || k.1 == V.poison.id || k.1 == V.ufsReg.id) with hist := past }
    let d := ((d.set F.COM_CTRL_EN slot 0).setVar V.softRst slot 1).setVar V.softWas slot 1
    ((d.set F.COM_STAT_BUSY slot 1).set F.COM_STAT_CFGLOCK slot 1).softShow slot

def execSoftReset (a : Acc) (slot : BitVec 6) (s : State) : Host.Outcome State Fault Refusal :=
  s.upd (fun d =>
    if !slots.contains slot.toNat then d.slotNone 0x008 a.bank.val
    else d.wr slot.toNat 0x008 a (fun d => d.softStart slot.toNat))

/-- SOFT_RESET_END (R73). The ERR condition of the interrupt registers follows the capture, which the reset has left. -/
def Dev.softDone (d : Dev) (slot : Nat) : Dev :=
  if d.var V.softRst slot ≠ 1 then d
  else
    let d := ((d.setVar V.softRst slot 0).set F.COM_STAT_BUSY slot 0).set F.COM_STAT_CFGLOCK slot 0
    d.level slot 31 (d.on F.COM_ERR_VALID slot)

def execSoftResetEnd (slot : BitVec 6) (s : State) : Host.Outcome State Fault Refusal := s.upd (fun d => d.softDone slot.toNat)

/-- KEEPER_REENABLE (R74): the keeper writes EN of KILN or UPD to 1 again after a soft reset. -/
def Dev.reenable (d : Dev) (slot : Nat) : Dev :=
  if d.var V.softWas slot = 1 ∧ d.var V.softRst slot = 0 ∧ d.var V.keeperUp 0 = 1 then (d.set F.COM_CTRL_EN slot 1).setVar V.softWas slot 0 else d

def execKeeperReenable (upd : Bool) (s : State) : Host.Outcome State Fault Refusal := s.upd (fun d => d.reenable (if upd then 0x30 else 0x05))

end Sys2Proof.Machine
end

