-- ==== Sys2Proof/Machine/Poke.lean ====
section
/-! DEFINITION. What a plain write access of one word, by a DMA channel or by the Glade monitor, does beside the fields that it writes: each field whose
write is a command of its own carries that command out (R56, R482, R652). -/

namespace Sys2Proof.Machine

/-- A command, as a function of the state. -/
abbrev Cmd := State → Host.Outcome State Fault Refusal

/-- The state after a command that answers one. -/
def State.did (s : State) (c : Cmd) : State :=
  match c s with
  | .next t => t
  | _ => s

/-- The commands of a list whose condition holds. -/
def cmdsOf (l : List (Bool × Cmd)) : List Cmd := (l.filter (fun x => x.1)).map (fun x => x.2)

/-- Commands of the first page (R50, R54, R57, R66). -/
def pokeFirst (a : Acc) (slot off v : Nat) : List Cmd :=
  let sl := BitVec.ofNat 6 slot
  if off = 0x008 then
    [if slot = 0x24 then execFbrkEnable a (tbit v 0) else execBlockEnWrite a sl (tbit v 0)] ++ cmdsOf [(tbit v 1, execSoftReset a sl)]
  else if off = 0x020 then cmdsOf [(tbit v 0, execApplyGo a sl (tbit v 1))]
  else if off = 0x080 then [execChselWrite a sl (BitVec.ofNat 16 v)]
  else []

/-- SUBMIT by a write of a word: no rule says whether the signature that LCS_RESP then holds verifies, a free value. -/
def pokeSubmit (a : Acc) : Cmd := fun s => execResponseSubmit a (s.dev.freeVal % 2 == 1) { s with dev := s.dev.useFree }

/-- Commands of the management plane's blocks. -/
def pokeMgt (a : Acc) (slot off v : Nat) : List Cmd :=
  match slot, off with
  | 0x00, 0x80C => cmdsOf [(tbit v 0, execResetRequestCtl (.reg a)), (tbit v 1, execResetRequestData (.reg a)), (tbit v 2, execResetRequestModule a)]
  | 0x00, 0x824 => [execLockstepInject a (tbit v 0) (tbit v 1)]
  | 0x01, 0x830 => [execHeartbeat a (BitVec.ofNat 16 v)]
  | 0x02, 0x2080 => cmdsOf [(tbit v 0, execChallengeRequest a (BitVec.ofNat 2 (v / 16)) (BitVec.ofNat 3 (v / 256)) (BitVec.ofNat 2 (v / 4096)))]
  | 0x02, 0x2180 => cmdsOf [(tbit v 0, pokeSubmit a)]
  | 0x05, 0x800 => cmdsOf [(tbit v 31, execKilnRunRequest a (BitVec.ofNat 7 v))]
  | 0x30, 0x808 => cmdsOf [(tbit v 0 && a.bank.val == 10, fun s => .next (if s.dev.inTrial && s.dev.var V.softRst 0x30 == 0 then State.confirm s else s))]
  | 0x30, 0x830 => cmdsOf [(tbit v 0, execUpdBlockGo a)]
  | _, _ => []

/-- Commands of CLR, SAGR, TIME and the PSCs' blocks. -/
def pokeCtl (a : Acc) (slot off v low : Nat) : List Cmd :=
  match slot, off with
  | 0x03, 0x808 => [execSagrAck a (BitVec.ofNat 32 v)]
  | 0x03, 0x80C => cmdsOf [(tbit v 31, execSagrRaise a (Fin.ofNat 4 (v / 2 ^ 24)) (BitVec.ofNat 16 v))]
  | 0x07, 0x820 => [execSteerEnableWrite a (tbit v 8)]
  | 0x07, 0x848 => cmdsOf [(tbit v 0, execTimeSetgo a)]
  | 0x0B, 0x100 => [execClrSlotCfgWrite a (BitVec.ofNat 32 v)]
  | 0x0B, 0xE00 => [execClrCommit a (BitVec.ofNat 32 v)]
  | 0x20, 0x100 => [if tbit v 0 then execLoopEnable a else execLoopDisable a]
  | 0x20, 0x33C => cmdsOf [(tbit v 0, execCoeffSwap a), (tbit v 1, execLoopClearStats a)]
  | 0x20, 0x814 => [execSwapMaskWrite a (BitVec.ofNat 64 (low + v * 2 ^ 32))]
  | 0x20, 0x824 => cmdsOf [(tbit v 0, execLaneClear a)]
  | 0x21, 0x100 => [execSolChannelEnable a (tbit v 0)]
  | 0x21, 0x104 => [execCurrentSetpoint a (BitVec.ofNat 16 v)]
  | 0x21, 0x11C => [execEventRequest a (tbit v 0)] ++ cmdsOf [(tbit v 8, execSolClearFault a none)]
  | 0x21, 0x12C => cmdsOf [(tbit v 0, execQueuePush a), (tbit v 8, execQueueFlush a)]
  | 0x21, 0x800 => [execBoostEnable a 0 (tbit v 0)]
  | 0x21, 0x804 => [execBoostEnable a 1 (tbit v 0)]
  | 0x22, 0x100 => [execLswChannelEnable a (tbit v 0)]
  | 0x22, 0x104 => [execLswOnWrite a (tbit v 0)] ++ cmdsOf [(tbit v 8, execLswClearFault a)]
  | 0x22, 0x820 => cmdsOf [(tbit v 16, execPscAck a 0), (tbit v 17, execPscAck a 1)]
  | 0x23, 0x180C => cmdsOf [(tbit v 8, execAcousticSnapArm a (Fin.ofNat 16 v))]
  | 0x24, 0x884 => [execGroupRestart a (BitVec.ofNat 8 v)]
  | 0x24, 0x888 => [execFaultResetKey a (BitVec.ofNat 16 v) 0 false]
  | 0x24, 0x898 => cmdsOf [(tbit v 0, execReactClear a)]
  | 0x25, 0x804 => cmdsOf [(tbit v 0, execPanelCommit a (tbit v 1))]
  | 0x25, 0x808 => cmdsOf [(tbit v 0, execStressClear a)]
  | 0x28, 0x100 => [execCanChannelEnable a ⟨tbit v 0, 0, 0⟩]
  | 0x2B, 0x108 => cmdsOf [(tbit v 0, execRideOutputCommit a)]
  | 0x2B, 0x800 => [execRidePortTake a false (tbit v 2), execRidePortTake a true (tbit v 3)]
  | 0x2B, 0x810 => cmdsOf [(tbit v 0, execRideTableClear a)]
  | _, _ => []

/-- Commands of the arrays of the control plane's blocks: trigger entries, ports, tables, NDAT, claims, buffers. -/
def pokeCtlArr (a : Acc) (slot off v : Nat) : List Cmd :=
  match slot with
  | 0x07 =>
    let e := Fin.ofNat 16 ((off - 0x1000) / 0x20)
    if 0x1000 ≤ off ∧ off < 0x1200 ∧ off % 0x20 = 0x0C then [if tbit v 0 then execTrigArm a e else execTrigDisarm a e] else []
  | 0x0B => if 0x1000 ≤ off then [execClrBufferWrite a (BitVec.ofNat 16 off) ((leBytes 4 v).map (BitVec.ofNat 8))] else []
  | 0x20 =>
    if 0x200 ≤ off ∧ off < 0x280 ∧ off % 0x20 = 0 then [execPortEnable a (Fin.ofNat 4 ((off - 0x200) / 0x20)) (tbit v 31)]
    else if 0x1000 ≤ off ∧ off < 0x3000 then
      [execTableEntryWrite a (decide (0x2000 ≤ off)) (Fin.ofNat 1024 (off % 0x1000 / 4)) (BitVec.ofNat 32 v)]
    else []
  | 0x28 =>
    if 0x180 ≤ off ∧ off < 0x1A0 then [execNdatClear a (Fin.ofNat 8 ((off - 0x180) / 4)) (BitVec.ofNat 32 v)]
    else if 0x820 ≤ off ∧ off < 0x830 then cmdsOf [(tbit v 31, execAddressClaim a (Fin.ofNat 4 ((off - 0x820) / 4)))]
    else if 0x1000 ≤ off ∧ off < 0x9000 ∧ off % 0x80 = 0 then
      (let b := Fin.ofNat 256 ((off - 0x1000) / 0x80)
       cmdsOf [(tbit v 14, execTransmitAbort a b false), (tbit v 15, execTransmitRequest a b)])
    else []
  | _ => []

/-- Commands of the data plane's blocks. -/
def pokeData (a : Acc) (slot off v : Nat) : List Cmd :=
  match slot, off with
  | 0x06, 0x804 => cmdsOf [(tbit v 0, execConeSweepGo a)]
  | 0x0A, 0x110 => cmdsOf [(tbit v 0, execDmaGo a), (tbit v 1, execDmaResume a), (tbit v 2, execDmaSkip a), (tbit v 3, execDmaAbort a)]
  | 0x10, 0x100 => [execAntBiasWrite a (tbit v 0)]
  | 0x11, 0x100 => cmdsOf [(tbit v 0, execAcqGo a), (tbit v 1, execAcqAbort a)]
  | 0x12, 0x100 => [if tbit v 0 then execTrackStart a else execTrackStop a]
  | 0x12, 0x124 => cmdsOf [(tbit v 0 || tbit v 1, execHalfCycleResolve a (tbit v 0) (tbit v 1))]
  | 0x12, 0x128 => [execTowWrite a (BitVec.ofNat 16 v) (BitVec.ofNat 16 (v / 65536))]
  | 0x12, 0x86C => cmdsOf [(tbit v 31, execJamLearn a)]
  | 0x12, 0x8B8 => [execPvtSpeedWrite a (BitVec.ofNat 16 (v / 65536)) (BitVec.ofNat 16 v)]
  | 0x12, 0x8BC => [execPvtSubmit a (tbit v 17) (tbit v 16) (BitVec.ofNat 16 v)]
  | 0x12, 0x8C4 => cmdsOf [(tbit v 0, execGuardRearm a)]
  | 0x18, 0x100 => [execSensorEnWrite a (tbit v 0)]
  | 0x18, 0x128 => cmdsOf [(tbit v 0, execSensorRecheck a)]
  | 0x18, 0x134 => [execLidarPost a (BitVec.ofNat 8 v)]
  | 0x18, 0x850 => [execBankSwapRequest a (BitVec.ofNat 8 v)]
  | 0x18, 0x860 => cmdsOf [(tbit v 0, execProjectionGo a (BitVec.ofNat 32 v))]
  | 0x18, 0x880 => cmdsOf [(tbit v 0, execGridClear a)]
  | 0x19, 0x810 => cmdsOf [(tbit v 0, execEgoReset a)]
  | 0x1A, 0x808 => cmdsOf [(tbit v 0, execNpuAbort a)]
  | 0x1B, 0x860 => cmdsOf [(tbit v 0, execLineClear a), (tbit v 1, execStageClear a)]
  | 0x2A, 0x100 => [execEthPortEnable a (tbit v 0)]
  | _, _ => []

/-- Commands of the arrays of the data plane's blocks: engines, entries, band paths, jobs, taps. -/
def pokeDataArr (a : Acc) (slot off v : Nat) : List Cmd :=
  match slot with
  | 0x0A =>
    if 0x1000 ≤ off ∧ off < 0x5000 ∧ off % 0x1000 = 0x18 then cmdsOf [(tbit v 0, execDmaEngineClear a (Fin.ofNat 4 (off / 0x1000 - 1)))] else []
  | 0x10 =>
    if 0x1000 ≤ off ∧ off < 0x1480 ∧ off % 0x80 = 0 then cmdsOf [(!tbit v 0, execPathDisable a (Fin.ofNat 9 ((off - 0x1000) / 0x80)))] else []
  | 0x11 =>
    if 0x1000 ≤ off ∧ off < 0x4000 ∧ off % 0x20 < 0x10 then
      [execAcqEntryWrite a (Fin.ofNat 3 (off / 0x1000 - 1)) (Fin.ofNat 128 (off % 0x1000 / 0x20)) (Fin.ofNat 4 (off % 0x20 / 4)) (BitVec.ofNat 32 v)]
    else []
  | 0x1A =>
    let j := Fin.ofNat 64 ((off - 0x1000) / 0x40)
    if 0x1000 ≤ off ∧ off < 0x2000 ∧ off % 0x40 = 0 then [execNpuJobEnable a j (tbit v 0)] ++ cmdsOf [(tbit v 1, execNpuJobGo a j)] else []
  | 0x1B =>
    if 0x1000 ≤ off ∧ off < 0x1200 ∧ off % 0x20 = 0 then [execTapEnable a (Fin.ofNat 16 ((off - 0x1000) / 0x20)) (tbit v 0)] else []
  | _ => []

/-- The commands that a write of `v` to a word carries out; `low` is the low half that the initiator's holding register had for it. -/
def pokeCmds (a : Acc) (slot off v low : Nat) : List Cmd :=
  if off < 0x100 then pokeFirst a slot off v
  else if planeOfSlot slot = 1 then pokeData a slot off v ++ pokeDataArr a slot off v
  else pokeMgt a slot off v ++ pokeCtl a slot off v low ++ pokeCtlArr a slot off v

/-- Counters of a block that count register writes or channel-window accesses (R601): the access has been counted already. -/
def Dev.hushed (d : Dev) (slot : Nat) : List Nat :=
  ([0, 1, 2, 3].map (fun n => 4 * slot + n)).filter (fun k =>
    d.on F.COM_CONE_SEL_EN k && (d.get F.COM_CONE_SEL_EVT k == 2 || d.get F.COM_CONE_SEL_EVT k == 7))

/-- Commands that belong to an access which is counted already are carried out. -/
def State.pokeDo (s : State) (slot : Nat) (l : List Cmd) : State :=
  let ks := s.dev.hushed slot
  let s : State := { s with dev := s.dev.each ks (fun k d => d.set F.COM_CONE_SEL_EN k 0) }
  let s := l.foldl State.did s
  { s with dev := s.dev.each ks (fun k d => d.set F.COM_CONE_SEL_EN k 1) }

/-- Whether the plain fields of a word have been turned away whole: an unassigned offset, or a channel register without a channel (R46, R59). Its commands are then not
carried out, so that one access raises one error (R53). -/
def Dev.wordAway (d : Dev) (slot bank off : Nat) : Bool :=
  match regAt slot off with
  | some r => r.reg.chan && decide (chCnt slot ≤ d.get F.COM_CHSEL_CH (slot * 16 + bank))
  | none => !fixedOff slot off

/-- An error that a command raises with the same cause as the plain fields of its word is one error with theirs (R53): `b` is the block before the access, `m`
after the plain fields. -/
def Dev.errOnce (d b m : Dev) (slot : Nat) : Dev :=
  let own := (m.reports.drop b.reports.length).filter (fun r => r.src == slot)
  let dup := fun (r : Report) => own.any (fun o => o.src == r.src && o.code == r.code)
  let new := d.reports.drop m.reports.length
  if !new.any dup then d
  else
    let d : Dev := { d with reports := m.reports ++ new.filter (fun r => !dup r) }
    if new.all (fun r => dup r || r.src != slot) then d.set F.COM_ERR_MORE slot (m.get F.COM_ERR_MORE slot) else d

/-- The words of an access carry out their commands, one after the other. -/
def State.pokeWords (s : State) (a : Acc) (slot off low : Nat) (l : List Nat) : State :=
  match l with
  | [] => s
  | v :: t => (if s.dev.wordAway slot a.bank.val off then s else s.pokeDo slot (pokeCmds a slot off v low)).pokeWords a slot (off + 4) v t

/-- A write access to the configuration space by an initiator that writes words (R45 to R47, R56): the plain fields, then the commands of the others. A
part of CLR that is no register, its buffers, is written by its command. Where a soft reset of the block has turned the plain fields away, the access has its
error already (R53, R67). -/
def State.pokeWrite (s : State) (a : Acc) (m : Bool) (slot off n : Nat) (l : List Nat) : State :=
  let h := holdIx slot a.bank.val
  let low := if s.dev.var V.wrTag h = ((off - 4 + 1 : Nat) : Int) then (s.dev.var V.wrHold h).toNat else 0
  let d := s.dev.confWrite a m slot off n l
  if d.resp = 2 then { s with dev := d }
  else
    let refused := s.dev.var V.softRst slot != 0 && (d.reports != s.dev.reports || d.get F.COM_ERR_MORE slot != s.dev.get F.COM_ERR_MORE slot)
    let t := if refused then { s with dev := d } else State.pokeWords { s with dev := d } a slot off low l
    { t with dev := (t.dev.errOnce s.dev d slot).good }

end Sys2Proof.Machine
end

