-- ==== Sys2Proof/Machine/DmaBurst.lean ====
section
/-! DEFINITION. DMA engines: arbitration, pre-emption and the transactions of a channel (spec/14_memory_dma_iommu.md, R483 to R497). -/

namespace Sys2Proof.Machine

/-! ### Accesses of a channel: DRAM through the IOMMU, and pages 1 to 15 of data-plane blocks (R56, R470) -/

/-- Whether an access lies in the configuration space. -/
def inConf (p n : Nat) : Bool := decide (0xF0000000 ≤ p) && decide (p + n ≤ 0xF0400000)

/-- The engine as an initiator of configuration accesses (R58). -/
def dmaAcc (c : Fin 64) : Acc := ⟨⟨11 + c.val / 16, by omega⟩, true⟩

/-- The bytes of a burst in the configuration space, word by word (R47). -/
def State.confWords (s : State) (a : Acc) (slot off n : Nat) : State × Option (List Nat) :=
  match n with
  | 0 => (s, some [])
  | k + 1 => match s.confRead a slot off with
    | (d, none) => ({ s with dev := d }, none)
    | (d, some v) => match State.confWords { s with dev := d } a slot (off + 4) k with
      | (s, none) => (s, none)
      | (s, some l) => (s, some (leBytes 4 v ++ l))

/-- A channel reads a burst. -/
def State.dmaRead (s : State) (c : Fin 64) (iova n : Nat) : State × Except AccessFail (List Nat) :=
  match s.xlateAll (0x200 + c.val) (iova / 4096) (pagesOf iova n) false with
  | (s, .error (e, p)) => (s.iommuFault (0x200 + c.val) iova e false, .error (.iommu e p))
  | (s, .ok pages) =>
    let p := physOf iova pages 0
    if inConf p n then
      let slot := (p - 0xF0000000) / 65536
      let off := p % 65536
      if !slots.contains slot then ({ s with dev := s.dev.slotNone off (dmaAcc c).bank.val }, .error (.resp p))
      else if !sizeOk off n then
        ({ s with dev := ((s.dev.cone slot 3).errAcc slot 6 off (dmaAcc c).bank.val).fail }, .error (.resp p))
      else match s.confWords (dmaAcc c) slot off (n / 4) with
        | (s, none) => (s, .error (.resp p))
        | (s, some l) => (s, .ok l)
    else match s.dev.accessBad iova n pages false with
      | some (.resp q) => ({ s with dev := s.dev.sysRefused (0x200 + c.val) q }, .error (.resp q))
      | some f => (s, .error f)
      | none => ({ s with dev := s.dev.cone 0x08 0x100 (blocksOf iova n) },
          .ok ((List.range n).map (fun k => (memGet s.mem (physOf iova pages k)).toNat)))

/-- The words of a byte string. -/
def wordsOf (n : Nat) (l : List Nat) : List Nat := (List.range n).map (fun k => leAt l (4 * k) 4)

/-- A channel writes a burst. -/
def State.dmaWrite (s : State) (c : Fin 64) (iova : Nat) (l : List Nat) : State × Option AccessFail :=
  let n := l.length
  match s.xlateAll (0x200 + c.val) (iova / 4096) (pagesOf iova n) true with
  | (s, .error (e, p)) => (s.iommuFault (0x200 + c.val) iova e true, some (.iommu e p))
  | (s, .ok pages) =>
    let p := physOf iova pages 0
    if inConf p n then
      let s := s.pokeWrite (dmaAcc c) false ((p - 0xF0000000) / 65536) (p % 65536) n (wordsOf (n / 4) l)
      (s, if s.dev.resp = 2 then some (.resp p) else none)
    else match s.dev.accessBad iova n pages true with
      | some (.resp q) => ({ s with dev := s.dev.sysRefused (0x200 + c.val) q }, some (.resp q))
      | some f => (s, some f)
      | none => (State.devStore { s with dev := s.dev.cone 0x08 0x101 (blocksOf iova n) } iova pages 0 l, none)

/-! ### Arbitration (R483, R490) -/

/-- A channel that has faulted on a read or a fetch has nothing more to issue. -/
def Dev.dmaStuck (d : Dev) (c : Nat) : Bool := (d.dmaOut c).any (fun p => !p.wrote)

/-- A channel has a transaction to issue: it is ACTIVE, and its descriptor is not fetched yet or has bytes left. A stream's channel has a line to write (R489, R490). -/
def Dev.dmaWork (d : Dev) (c : Nat) : Bool := d.get F.DMA_CH_STAT_STATE c == 1 && !(d.chan c).ended && !d.dmaStuck c

/-- Transactions that a channel may have in flight (R501). -/
def Dev.maxOut (d : Dev) (c : Nat) : Nat := max 1 (d.get F.DMA_CH_CFG_MAXOUT c)

/-- Channels of an engine. -/
def chansOf (e : Nat) : List Nat := (List.range 16).map (fun n => 16 * e + n)

/-- A channel has a free slot that it may use: its own limit, the engine's 32, and for PRIO 0 to 2 the slots not reserved for PRIO 3 (R483). -/
def Dev.dmaSlot (d : Dev) (c : Nat) : Bool :=
  let e := c / 16
  let low := ((chansOf e).filter (fun k => decide (d.get F.DMA_CH_CFG_PRIO k < 3))).foldl (fun a k => a + d.fly k) 0
  decide (d.fly c < d.maxOut c) && decide (d.get F.DMA_ENG_STAT_INFLT e < 32) &&
    (d.get F.DMA_CH_CFG_PRIO c == 3 || decide (low < 32 - min 16 (d.get F.DMA_ENG_CFG_RES3 e)))

/-- The first of a list that follows local number `after`, round robin. -/
def roundRobin (l : List Nat) (after : Int) : Option Nat :=
  match l.find? (fun c => decide (after < ((c % 16 : Nat) : Int))) with
  | some c => some c
  | none => l.head?

/-- The winner at a burst boundary: the highest PRIO first, and round robin among equals (R490). -/
def Dev.dmaWinner (d : Dev) (e : Nat) : Option Nat :=
  let l := (chansOf e).filter (fun c => d.dmaWork c && d.dmaSlot c)
  [3, 2, 1, 0].findSome? (fun p => roundRobin (l.filter (fun c => d.get F.DMA_CH_CFG_PRIO c == p)) (d.var V.dmaRr (4 * e + p) - 1))

/-- The channels that have work and lose are PREEMPTED; the winner is not. -/
def Dev.dmaLose (d : Dev) (e w : Nat) : Dev :=
  d.each (chansOf e) (fun c a =>
    if c = w then a.set F.DMA_CH_STAT_PREEMPTED c 0
    else if a.dmaWork c && !a.on F.DMA_CH_STAT_PREEMPTED c then (a.set F.DMA_CH_STAT_PREEMPTED c 1).cone 0x0A 0x102
    else a)

/-! ### Transactions (R484 to R487) -/

/-- A descriptor that R485 calls invalid. -/
def descBad (b : List Nat) : Bool :=
  let ctrl := leAt b 0 4
  decide (2 < ctrl % 8) || leAt b 4 4 == 0 || (ctrl % 8 == 1 && (leAt b 24 4 == 0 || decide (65535 < leAt b 24 4))) ||
    (!tbit ctrl 9 && leAt b 48 8 % 64 != 0) || ctrl / 8 % 32 != 0 || ctrl / 4096 != 0

/-- A descriptor as the channel holds it (R484). -/
def descOf (b : List Nat) (parks : Nat) : DmaChan :=
  let ctrl := leAt b 0 4
  { ctrl := ctrl, len := leAt b 4 4, src := leAt b 8 8, dst := leAt b 16 8, rows := if ctrl % 8 = 1 then leAt b 24 4 else 1,
    sstr := ofBits 32 (leAt b 32 4), dstr := ofBits 32 (leAt b 36 4), pat := (b.drop 40).take 8, nextD := leAt b 48 8, row := 0, done := 0,
    read := 0, held := [], fetched := true, ended := false, parks := parks }

/-- One more transaction of a channel is in flight. -/
def Dev.flyUp (d : Dev) (c : Nat) : Dev :=
  let e := c / 16
  let n := d.get F.DMA_ENG_STAT_INFLT e + 1
  let d := (d.setVar V.dmaFly c (d.fly c + 1 : Nat)).set F.DMA_ENG_STAT_INFLT e n
  d.when (decide (d.get F.DMA_ENG_STAT_MAXINF e < n)) (fun a => a.set F.DMA_ENG_STAT_MAXINF e n)

/-- The fetch of a descriptor. A failed fetch has KIND 5, an invalid descriptor KIND 6 (R485, R492). -/
def State.dmaFetch (s : State) (c : Fin 64) : State :=
  let x := s.dev.chan c
  let cur := s.dev.get F.DMA_CH_CUR_CUR c
  let at0 : DmaChan := { DmaChan.none_ with parks := x.parks }
  match s.dmaRead c cur 64 with
  | (s, .error f) => { s with dev := s.dev.dmaFail c ⟨5, (failKind f).2, false, cur, at0⟩ }
  | (s, .ok b) =>
    if descBad b then { s with dev := s.dev.dmaFail c ⟨6, 0, false, cur, { descOf b x.parks with fetched := false }⟩ }
    else { s with dev := s.dev.setChan c (descOf b x.parks) }

/-- Bytes that the channel can write now in one burst (R486): whole destination lines, and the partial last line of the row, up to the next
256-byte boundary. -/
def DmaChan.ready (x : DmaChan) : Nat :=
  let p := x.dstAt
  let rem := x.len - x.done
  let n := if x.ctrl % 8 = 2 then rem else x.held.length
  min (if n = rem then rem else (p + n) / 64 * 64 - p) (256 - p % 256)

/-- The bytes of a write burst. -/
def DmaChan.burst (x : DmaChan) (n : Nat) : List Nat :=
  if x.ctrl % 8 = 2 then (List.range n).map (fun k => x.pat.getD ((x.done + k) % 8) 0) else x.held.take n

/-- The channel after a write burst of `n` bytes: the row's end leads to the next row or ends the data of the descriptor. -/
def DmaChan.wrote (x : DmaChan) (n : Nat) : DmaChan :=
  let x := { x with done := x.done + n, held := x.held.drop n }
  if x.done < x.len then x
  else if x.row + 1 < x.rows then { x with row := x.row + 1, done := 0, read := 0, held := [] }
  else { x with ended := true }

/-- A write burst. At the park point of a write fault HOLD is empty and SRC_NEXT is the byte for DST_NEXT (R493). -/
def State.dmaPut (s : State) (c : Fin 64) (n : Nat) : State :=
  let x := s.dev.chan c
  let p := x.dstAt
  match s.dmaWrite c p (x.burst n) with
  | (s, some f) => { s with dev := (s.dev.dmaFail c ⟨(writeFail f).1, (writeFail f).2, true, p, { x with read := x.done, held := [] }⟩).setChan c (x.wrote n) }
  | (s, none) =>
    let e := c.val / 16
    { s with dev := ((s.dev.setVar V.strWroteAt c s.dev.now).set F.DMA_ENG_BYTES_BYTES e (s.dev.get F.DMA_ENG_BYTES_BYTES e + n)).setChan c (x.wrote n) }

/-- A read burst, up to the next 256-byte boundary of the source or the end of the row (R486). -/
def State.dmaGet (s : State) (c : Fin 64) : State :=
  let x := s.dev.chan c
  let p := x.srcAt
  let n := min (256 - p % 256) (x.len - x.read)
  match s.dmaRead c p n with
  | (s, .error f) => { s with dev := s.dev.dmaFail c ⟨(failKind f).1, (failKind f).2, false, p, x⟩ }
  | (s, .ok l) => { s with dev := s.dev.setChan c { x with read := x.read + n, held := x.held ++ l } }

/-- The transaction that a channel issues: the fetch, else a write whose data are present, else a read. -/
def State.dmaIssue (s : State) (c : Fin 64) : State :=
  let x := s.dev.chan c
  if !x.fetched then s.dmaFetch c
  else if 0 < x.ready then s.dmaPut c x.ready
  else s.dmaGet c

/-- The winner of an engine's burst boundary has its turn: the losers are PREEMPTED, and one more of its transactions is in flight. -/
def State.dmaWin (s : State) (e w : Nat) : State :=
  let p := s.dev.get F.DMA_CH_CFG_PRIO w
  { s with dev := (((s.dev.dmaLose e w).setVar V.dmaRr (4 * e + p) ((w % 16 : Nat) + 1)).flyUp w).cone 0x0A 0x100 }

/-- A burst boundary of an engine: the winner issues one transaction. -/
def State.dmaBoundary (s : State) (e : Fin 4) : State :=
  if !s.dev.running 0x0A then s
  else match s.dev.dmaWinner e with
    | some w => if h : w < 64 then (s.dmaWin e w).dmaIssue ⟨w, h⟩ else s
    | none => s

/-- DMA_BURST_ISSUE (R490): first the transactions in `ret`, by local channel, complete; then comes the boundary. -/
def execDmaBurstIssue (e : Fin 4) (ret : List (Fin 16)) (s : State) : Host.Outcome State Fault Refusal :=
  .next (State.dmaBoundary { s with dev := s.dev.each (ret.map (fun k => k.val)) (fun k a => a.flyDown (16 * e + k) 1) } e)

end Sys2Proof.Machine
end

