-- ==== Sys2Proof/Machine/Mem.lean ====
section
/-! DEFINITION. MEM: DRAM errors and the patrol scrubber. IOMU: faults of device transactions and the command queue
(spec/14_memory_dma_iommu.md, R472 to R482, R498, R499). -/

namespace Sys2Proof.Machine

/-- A correctable error (R473): counted, and reported at each multiple of CETH. MEM_CTRL.EN enables the reporting alone (R498, log entry 78). -/
def Dev.eccCe (d : Dev) : Dev :=
  let n := d.get F.MEM_ECC_CNT_CE 0 + 1
  let d := (d.cone 0x08 0x102).incSat F.MEM_ECC_CNT_CE 0
  d.when (d.running 0x08) (fun a => (a.irq 0x08 0).when (decide (n % max 1 (d.get F.MEM_ECC_CFG_CETH 0) = 0 ∧ n < 0x10000)) (fun a => a.errBlk 0x08 1 0))

/-- ECC_CORRECTABLE (R473). -/
def execEccCorrectable (s : State) : Host.Outcome State Fault Refusal := s.upd Dev.eccCe

/-- An uncorrectable error (R474): the block is poisoned; a newly poisoned block is recorded with its initiator and counted, and
reported while MEM_CTRL.EN enables the reporting (R498). Log entry 78. -/
def Dev.eccUe (d : Dev) (blk src : Nat) : Dev :=
  if !inDram (blk * 32) || d.poisoned (blk * 32) then d
  else
    let d := (((d.setVar V.poison blk 1).set F.MEM_ECC_ADDR_ADDR 0 (blk * 32)).set F.MEM_ECC_SRC_SRC 0 src).incSat F.MEM_ECC_CNT_UE 0
    d.when (d.running 0x08) (fun a => (a.irq 0x08 1).errBlk 0x08 2 1)

/-- ECC_UNCORRECTABLE (R474). -/
def execEccUncorrectable (blk : BitVec 35) (src : BitVec 16) (s : State) : Host.Outcome State Fault Refusal :=
  s.upd (fun d => d.eccUe blk.toNat src.toNat)

/-- A pass of the scrubber may begin: the period of the pass before is over; its own is SCRUBP as it stands now (R475, R498). -/
def Dev.scrubDue (d : Dev) : Bool := d.var V.scrubAt 0 != 0 || d.passed V.scrubFrom 0 (d.var V.scrubPer 0 * 3600000000000)

/-- PATROL_SCRUB (R475): the scrubber reads the next block of DRAM, each once in a period; what it finds there is 0 no error, 1 a correctable or 2 an
uncorrectable one. -/
def Dev.patrolScrub (d : Dev) (found : Nat) : Dev :=
  if d.running 0x08 && d.on F.MEM_ECC_CFG_SCRUBEN 0 && d.on F.MEM_DRAM_TRAINED 0 && !d.on F.MEM_DRAM_SELFREF 0 && d.scrubDue then
    let b := (d.var V.scrubAt 0).toNat
    let d := if b = 0 then (d.mark V.scrubFrom 0).setVar V.scrubPer 0 (max 1 (d.get F.MEM_ECC_CFG_SCRUBP 0) : Nat) else d
    let d := (d.setVar V.scrubAt 0 ((b + 1) % 503316480 : Nat)).cone 0x08 0x100
    if found = 1 then d.eccCe else if found = 2 then d.eccUe (0x8000000 + b) 0xFFFF else d
  else d

def execPatrolScrub (found : Fin 3) (s : State) : Host.Outcome State Fault Refusal := s.upd (fun d => d.patrolScrub found)

/-- IOMMU_FAULT (R482): a device's transaction faults in the IOMMU. -/
def execIommuFault (dev : BitVec 12) (iova : BitVec 64) (cause : BitVec 12) (wr : Bool) (s : State) : Host.Outcome State Fault Refusal :=
  .next (s.iommuFault dev.toNat iova.toNat cause.toNat wr)

/-- The command interrupt: ipsr.cip sets where cqcsr.cie is 1 (R482). -/
def Dev.iommuCip (d : Dev) : Dev :=
  if d.on F.IOMU_CQCSR_CIE 0 then (d.set F.IOMU_IPSR_V 0 (d.get F.IOMU_IPSR_V 0 ||| 1)).level 0x09 0 true else d

/-- The commands of R478, by opcode and function: 0 IOTINVAL.VMA, 1 IOTINVAL.GVMA, 2 IODIR.INVAL_DDT, 3 IOFENCE.C; none where the word is none of
them or sets PSCV in IOTINVAL.GVMA. -/
def iommuCmdOf (w0 : Nat) : Option Nat :=
  match w0 % 128, w0 / 128 % 8 with
  | 1, 0 => some 0
  | 1, 1 => if tbit w0 32 then none else some 1
  | 2, 0 => some 3
  | 3, 0 => some 2
  | _, _ => none

/-- The entries that an IOTINVAL removes: of its address space where GV is 1, of a page where AV is 1, of a PSCID where PSCV is 1. -/
def tlbKeep (vma : Bool) (w0 w1 : Nat) (e : TlbEntry) : Bool :=
  let space := if tbit w0 33 then e.gv && e.gscid == w0 / 2 ^ 40 % 2 ^ 16 else (!vma || !e.gv)
  let pscid := !(vma && tbit w0 32) || e.pscid == w0 / 4096 % 2 ^ 20
  let page := !(vma && tbit w0 10) || e.page % 2 ^ 52 == w1 / 1024 % 2 ^ 52
  !(space && pscid && page)

/-- The effect of a command. IOFENCE.C writes its data and sets fence_w_ip where it asks for them; earlier commands are complete. -/
def State.iommuDo (s : State) (k w0 w1 : Nat) : State :=
  match k with
  | 0 => { s with dev := { s.dev with tlb := s.dev.tlb.filter (tlbKeep true w0 w1) } }
  | 1 => { s with dev := { s.dev with tlb := s.dev.tlb.filter (tlbKeep false w0 w1) } }
  | 2 => { s with dev := { s.dev with ddc := s.dev.ddc.filter (fun e => tbit w0 33 && e.1 != w0 / 2 ^ 40 % 2 ^ 24) } }
  | _ =>
    let a := w1 % 2 ^ 62 * 4
    let s : State := if tbit w0 10 then
        (if inDram a && !s.dev.poisoned a then { s with mem := memWrite s.mem a (leBytes 4 (w0 / 2 ^ 32)) }
         else { s with dev := (s.dev.set F.IOMU_CQCSR_CQMF 0 1).iommuCip })
      else s
    if tbit w0 11 then { s with dev := (s.dev.set F.IOMU_CQCSR_FENCE_W_IP 0 1).iommuCip } else s

/-- The command at the head of the queue executes, where it is command `k` (R478); an illegal command sets cmd_ill and a queue that cannot be read sets
cqmf, and either holds the queue. -/
def State.iommuCmd (s : State) (k : Nat) : State :=
  let d := s.dev
  let h := d.get F.IOMU_CQH_V 0
  if !d.on F.IOMU_CQCSR_CQON 0 || d.on F.IOMU_CQCSR_CMD_ILL 0 || d.on F.IOMU_CQCSR_CQMF 0 || h == d.get F.IOMU_CQT_V 0 then s
  else
    let a := d.get F.IOMU_CQB_V 0 / 1024 % 2 ^ 44 * 4096 + 16 * h
    match s.walkRead a, s.walkRead (a + 8) with
    | some w0, some w1 =>
      match iommuCmdOf w0 with
      | none => { s with dev := (d.set F.IOMU_CQCSR_CMD_ILL 0 1).iommuCip }
      | some c =>
        if c = k then
          let s := s.iommuDo k w0 w1
          if s.dev.on F.IOMU_CQCSR_CQMF 0 then s
          else { s with dev := s.dev.set F.IOMU_CQH_V 0 ((h + 1) % 2 ^ (d.get F.IOMU_CQB_V 0 % 32 + 1)) }
        else s
    | _, _ => { s with dev := (d.set F.IOMU_CQCSR_CQMF 0 1).iommuCip }

/-- IOTINVAL_VMA (R478). -/
def execIotinvalVma (s : State) : Host.Outcome State Fault Refusal := .next (s.iommuCmd 0)

/-- IOTINVAL_GVMA (R478). -/
def execIotinvalGvma (s : State) : Host.Outcome State Fault Refusal := .next (s.iommuCmd 1)

/-- IODIR_INVAL_DDT (R478). -/
def execIodirInvalDdt (s : State) : Host.Outcome State Fault Refusal := .next (s.iommuCmd 2)

/-- IOFENCE_C (R478). -/
def execIofenceC (s : State) : Host.Outcome State Fault Refusal := .next (s.iommuCmd 3)

end Sys2Proof.Machine
end

