-- ==== Sys2Proof/Machine/Mon.lean ====
section
/-! DEFINITION. The Glade monitor (spec/22_glade_monitor.md, R648 to R658). -/

namespace Sys2Proof.Machine

/-- The access that the monitor makes: the keeper's (R56, R58). -/
def monAcc : Acc := ⟨10, true⟩

/-- The monitor can take a line: MON is enabled, the keeper runs, and the module is above L4 (R651, R658). -/
def Dev.monReady (d : Dev) : Bool :=
  d.on F.COM_CTRL_EN 0x31 && d.var V.keeperUp 0 == 1 && !(decide (d.get F.PWR_MODE_MODE 0 < 2) && decide (4 ≤ d.get F.PWR_MODE_LADDER 0))

/-- A command's refusal by the life-cycle state (R652, code 3) or by the mode (R653, code 4). `lvl` says that the command's own condition
in FIELD holds, `mgt` that it touches management-plane slots only. Commands: 1 HELLO, 2 LOG, 3 RD, 4 WR, 5 MODE, 6 KILN, 7 CHAL, 8 RESP,
9 BLK, 10 RESET. -/
def Dev.monRefusal (d : Dev) (cmd : Nat) (lvl mgt : Bool) : Nat :=
  let st := d.var V.lcSt 0
  if st = 4 ∧ 2 < cmd then 3
  else if st = 2 ∧ cmd = 4 ∧ !lvl then 3
  else
    let ok : Bool :=
      if d.on F.UPD_STATE_FALLEN 0 then ([1, 2, 3, 9, 10] : List Nat).contains cmd
      else if d.on F.SYS_BOOT_STRAP 0 then ([1, 2, 3, 4, 7, 8, 9, 10] : List Nat).contains cmd
      else match d.get F.PWR_MODE_MODE 0 with
        | 0 => ([1, 2, 5] : List Nat).contains cmd || (cmd == 3 && mgt)
        | 1 => ([1, 2, 5, 6] : List Nat).contains cmd || (cmd == 3 && mgt)
        | 2 => true
        | _ => decide (cmd ≤ 3)
    if ok then 0 else 4

/-- A line with a good CRC arrives: it is lost while an answer is due, refused with a code, or served by `k` (R650, R652, R653). -/
def State.monLine (s : State) (cmd : Nat) (lvl mgt : Bool) (k : State → State) : State :=
  let d := s.dev
  if !d.monReady then s
  else if d.var V.monWait 0 ≠ 0 then { s with dev := d.incSat F.MON_STAT_ERRS 0 }
  else
    let c := d.monRefusal cmd lvl mgt
    if c = 0 then k s else { s with dev := d.monAnswer cmd c 0 [] }

/-- The record of an accepted command (R654): BCODE 0x2 of MON, class C0, with the word's characters and the arguments. -/
def Dev.monRecord (d : Dev) (word : List Nat) (a1 a2 : Nat) : Dev :=
  d.errBlk 0x31 2 0 (padTo 8 word ++ leBytes 8 a1 ++ leBytes 8 a2)

/-- The word of a register, low and high halves together for a pair, as HELLO reports it. -/
def State.monWord (s : State) (slot off ch : Nat) : Nat :=
  match regAt slot off with
  | some r => s.dev.regValue slot r (fieldIndex s.dev slot off 10 ch r) + (if slot = 0x02 ∧ off = 0x800 then (s.dev.var V.lcSt 0).toNat else 0)
  | none => 0

/-- HELLO (R652): serial, LCS_STATE, SYS_STEP0, SYS_STEP1, PWR_MODE, UPD_STATE and both UPD_SL_STAT words. -/
def State.monHello (s : State) : State :=
  s.monLine 1 true true (fun s =>
    { s with dev := s.dev.monAnswer 1 0 0 (leBytes 8 Config.otpSerial ++ leBytes 4 (s.monWord 0x02 0x800 0) ++ leBytes 4 (s.monWord 0x00 0x1000 0) ++
      leBytes 4 (s.monWord 0x00 0x1004 0) ++ leBytes 4 (s.monWord 0x01 0x800 0) ++ leBytes 4 (s.monWord 0x30 0x804 0) ++
      leBytes 4 (s.monWord 0x30 0x100 0) ++ leBytes 4 (s.monWord 0x30 0x100 1)) })

def execMonHello (s : State) : Host.Outcome State Fault Refusal := .next s.monHello

/-! ### The line that the answer is (R649, R650) -/

/-- CRC-16 of R649: polynomial 0x1021, initial value 0xFFFF, the most significant bit first, no final XOR. -/
def crc16 (l : List Nat) : Nat :=
  l.foldl (fun c b => (List.range 8).foldl (fun x i => (x * 2 % 65536) ^^^ (if (tbit x 15) = (tbit b (7 - i)) then 0 else 0x1021)) c) 0xFFFF

/-- A number as upper-case hexadecimal digits, as characters. -/
def hexDigits (n v : Nat) : List Nat :=
  (List.range n).map (fun i => let x := v / 16 ^ (n - 1 - i) % 16; if x < 10 then 48 + x else 55 + x)

/-- A line: its characters, `*`, the four digits of their CRC, and CR LF. -/
def monFrame (l : List Nat) : List Nat := l ++ [42] ++ hexDigits 4 (crc16 l) ++ [13, 10]

/-- `OK` and values, one space before each. -/
def monOk (vals : List (List Nat)) : List Nat := monFrame ([79, 75] ++ vals.flatMap (fun v => 32 :: v))

/-- The values of an answer as numbers of eight digits, from its bytes. -/
def monWords (b : List Nat) : List (List Nat) := (List.range (b.length / 4)).map (fun k => hexDigits 8 (leAt b (4 * k) 4))

/-- The characters of the last answer (R649, R650, R652): ER with its code and word, or OK with its values. HELLO gives the serial as sixteen digits, LOG
one line of 128 digits for each record; how many digits other values have is the model's choice (log entry 188). -/
def Dev.monText (d : Dev) : List Nat :=
  let b := d.blob 30 0
  let code := d.get F.MON_LAST_CODE 0
  if code ≠ 0 then monFrame ([69, 82, 32] ++ hexDigits 1 code ++ [32] ++ hexDigits 8 (d.var V.monWord 0).toNat)
  else match d.get F.MON_LAST_CMD 0 with
    | 1 => monOk (hexDigits 16 (leAt b 0 8) :: monWords (b.drop 8))
    | 2 => (List.range (b.length / 64)).flatMap (fun k => monOk [((b.drop (64 * k)).take 64).flatMap (hexDigits 2)])
    | 5 => monOk (b.map (hexDigits 1))
    | 6 => monOk (b.map (hexDigits 1))
    | _ => monOk (monWords b)

/-- LOG (R652, R573): records from an index on. A count outside 1 to 64 or an index above 32,767 is a line of a wrong form. -/
def State.monLog (s : State) (i n : Nat) : State :=
  s.monLine 2 true true (fun s =>
    if n = 0 ∨ 64 < n ∨ 32767 < i then { s with dev := s.dev.monAnswer 2 2 0 [] }
    else { s with dev := s.dev.monAnswer 2 0 0 ((List.range n).flatMap (fun k => logBytes s.log ((i + k) % 32768))) })

def execMonLog (idx : BitVec 32) (n : BitVec 8) (s : State) : Host.Outcome State Fault Refusal := .next (s.monLog idx.toNat n.toNat)

/-! ### Single accesses -/

/-- An address of the configuration space (R44). -/
def confAddr (a : Nat) : Bool := decide (0xF0000000 ≤ a) && decide (a < 0xF0400000)

/-- The MRAM window (R470). -/
def mramAddr (a : Nat) : Bool := decide (0xE0000000 ≤ a) && decide (a < 0xE0400000)

/-- A read window of a NOR (R470). -/
def norAddr (a : Nat) : Bool := decide (0x80000000 ≤ a) && decide (a < 0xC0000000)

/-- What a word of a NOR read window shows: a block that a slot holds, or erased flash. -/
def Dev.norWord (d : Dev) (a : Nat) : Nat :=
  let p := a - 0x80000000
  match d.blob 1 (norIx (p / 0x20000000) (p % 0x20000000 / 4096)) with
  | [] => 0xFFFFFFFF
  | l => leAt (padTo 4096 l) (p % 4096) 4

/-- RD (R652): one 32-bit read as the keeper; ER 6 where it gets an error response. -/
def State.monRd (s : State) (a : Nat) : State :=
  s.monLine 3 true (confAddr a && planeOfSlot (a / 65536 % 64) == 2 && slots.contains (a / 65536 % 64)) (fun s =>
    let say := fun (v : Nat) => ({ s with dev := s.dev.monAnswer 3 0 0 (leBytes 4 v) } : State)
    if confAddr a then
      match s.confRead monAcc (a / 65536 % 64) (a % 65536) with
      | (d, some v) => { s with dev := d.monAnswer 3 0 0 (leBytes 4 v) }
      | (d, none) => { s with dev := d.monAnswer 3 6 (d.errWord (if slots.contains (a / 65536 % 64) then a / 65536 % 64 else 0)) [] }
    else if (inDram a && !s.dev.poisoned a) || ctlMem a || mramAddr a then say (ofLe (memRead s.mem a 4))
    else if norAddr a then say (s.dev.norWord a)
    else if a < 0x10000 then say (Config.romWord a % 2 ^ 32)
    else if inDram a then { s with dev := s.dev.monAnswer 3 6 (s.dev.errWord 0x08) [] }
    else
      let d := s.dev.errAcc 0x00 (if decide (0xF1000000 ≤ a) && decide (a < 0xF1001000) then 3 else 5) (a % 65536) 10
      { s with dev := d.monAnswer 3 6 (d.errWord 0) [] })

def execMonRd (addr : BitVec 40) (s : State) : Host.Outcome State Fault Refusal := .next (s.monRd addr.toNat)

/-- In FIELD a WR needs debug level 1 or 2 and an address that the level reaches, never a management-plane slot or MRAM (R521, R652). -/
def Dev.monReach (d : Dev) (a : Nat) : Bool :=
  let l := d.get F.LCS_DBG_LEVEL 0
  let p := planeOfSlot (a / 65536 % 64)
  let data := inDram a || (confAddr a && slots.contains (a / 65536 % 64) && p == 1)
  let ctl := ctlMem a || (confAddr a && slots.contains (a / 65536 % 64) && p == 0)
  (decide (1 ≤ l) && decide (l ≤ 2) && data) || (l == 2 && ctl)

/-- The monitor's write of a register: the keeper's, with the commands that it carries out (R56). -/
def State.monPut (s : State) (slot off v : Nat) : State := s.pokeWrite monAcc true slot off 4 [v]

/-- Whether a write by the monitor is refused: an error response, or an error that the block would capture. -/
def State.monRefused (s : State) (slot off v : Nat) : Bool :=
  let e := State.monPut { s with dev := s.dev.errClear slot } slot off v
  e.dev.resp == 2 || e.dev.on F.COM_ERR_VALID slot

/-- WR (R652): one 32-bit write as the keeper; a refused one, and any key in FBRK_RESET, is answered ER 6 (R384). -/
def State.monWr (s : State) (a v : Nat) : State :=
  s.monLine 4 (s.dev.monReach a) false (fun s =>
    let slot := a / 65536 % 64
    let off := a % 65536
    let b := s.dev.monRecord [0x57, 0x52] a v
    if confAddr a then
      let r : State := { s with dev := b }
      let u := r.monPut slot off v
      let k := if slots.contains slot then slot else 0
      { u with dev := if r.monRefused slot off v then u.dev.monAnswer 4 6 (u.dev.errWord k) [] else u.dev.monAnswer 4 0 0 [] }
    else if inDram a && s.dev.poisoned a then { s with dev := b.monAnswer 4 6 (b.errWord 0x08) [] }
    else if inDram a || ctlMem a || mramAddr a then { s with dev := b.monAnswer 4 0 0 [], mem := memWrite s.mem a (leBytes 4 v) }
    else
      let d := b.errAcc 0x00 (if norAddr a || decide (a < 0x10000) || (decide (0xF1000000 ≤ a) && decide (a < 0xF1001000)) then 3 else 5) (a % 65536) 10
      { s with dev := d.monAnswer 4 6 (d.errWord 0) [] })

def execMonWr (addr : BitVec 40) (v : BitVec 32) (s : State) : Host.Outcome State Fault Refusal := .next (s.monWr addr.toNat v.toNat)

/-! ### Requests -/

/-- MODE (R620, R621, R652): a request as Glade; BUSY is answered ER 5, another refusal ER 6. -/
def Dev.monMode (d : Dev) (t : Nat) : Dev :=
  let d := d.monRecord [0x4D, 0x4F, 0x44, 0x45] t 0
  if 5 < t then d.monAnswer 5 6 (d.errWord 0x01) []
  else match d.pwrAsk 3 0 t with
    | (d, 1, _) => d.monAnswer 5 5 0 []
    | (d, 0, _) => d.monAnswer 5 0 0 [0]
    | (d, 4, _) => d.monAnswer 5 0 0 [4]
    | (d, _, c) => d.monAnswer 5 6 (d.errWord 0x01) [c]

def execMonMode (t : BitVec 8) (s : State) : Host.Outcome State Fault Refusal :=
  .next (s.monLine 5 true true (fun s => s.updMem (fun d => d.monMode t.toNat)))

/-- KILN (R591, R652): a write to KILN_RUN; the answer follows when the action ends. -/
def Dev.monKiln (d : Dev) (m : Nat) : Dev :=
  let d := d.monRecord [0x4B, 0x49, 0x4C, 0x4E] m 0
  if d.var V.kilnOn 0 = 1 then (let d := d.kilnRequest m; d.monAnswer 6 6 (d.errWord 0x05) [])
  else
    let d := (d.setVar V.monWait 0 6).kilnRequest m
    if d.var V.monWait 0 = 6 ∧ d.var V.kilnOn 0 = 0 then d.monKilnEnd else d

def execMonKiln (mask : BitVec 7) (s : State) : Host.Outcome State Fault Refusal :=
  .next (s.monLine 6 true true (fun s => s.updMem (fun d => d.monKiln mask.toNat)))

/-- CHAL (R520, R652): the answer is LCS_CHAL; a request that is not allowed is refused. -/
def State.monChal (s : State) (kind target key : Nat) : State :=
  let ok := !s.dev.lcsLocked && s.lcsAllows kind target key
  let s := s.challengeReq monAcc kind target key
  { s with dev := if ok then s.dev.monAnswer 7 0 0 ((List.range 12).flatMap (fun n => leBytes 4 (s.dev.get F.LCS_CHAL_W n)))
      else s.dev.monAnswer 7 6 (s.dev.errWord 0x02) [] }

def execMonChal (kind : BitVec 2) (target : BitVec 3) (key : BitVec 2) (s : State) : Host.Outcome State Fault Refusal :=
  .next (s.monLine 7 true false (fun s => s.monChal kind.toNat target.toNat key.toNat))

/-- The words of LCS_RESP for a signature: r then s, 48 bytes each, the most significant byte first (R520). -/
def respWords (r s : Nat) : List Nat :=
  let be := fun (x : Nat) => (leBytes 48 x).reverse
  (List.range 24).map (fun n => leAt (be r ++ be s) (4 * n) 4)

/-- RESP (R520, R652): LCS_RESP and SUBMIT; the answer is LCS_RSTAT. -/
def State.monResp (s : State) (r t : Nat) (sig : Bool) : State :=
  let d := s.dev.monRecord [0x52, 0x45, 0x53, 0x50] r t
  let d := ((respWords r t).zipIdx).foldl (fun a e => a.set F.LCS_RESP_W e.2 e.1) d
  let s := State.responseSubmit { s with dev := d } monAcc sig
  { s with dev := s.dev.monAnswer 8 0 0 (leBytes 4 (s.monWord 0x02 0x2184 0)) }

def execMonResp (r t : BitVec 384) (sig : Bool) (s : State) : Host.Outcome State Fault Refusal :=
  .next (s.monLine 8 true false (fun s => s.monResp r.toNat t.toNat sig))

/-- BLK (R655, R656): the block goes into the window of UPD, with its number, count and CRC, and GO; while a transfer runs ER 5. -/
def Dev.monBlk (d : Dev) (n total crc : Nat) (l : List Nat) : Dev :=
  if d.get F.UPD_XFER_OP 0 ≠ 0 then d.monAnswer 9 5 0 []
  else
    let d := if n = 0 ∨ n + 1 = total then d.monRecord [0x42, 0x4C, 0x4B] n total else d
    if d.var V.norWin 0 = 1 then (let d := d.asBank 10 (fun d => d.blockGo); d.monAnswer 9 6 (d.errWord 0x30) [])
    else
      let d := d.each (List.range 1024) (fun w a => a.set F.UPD_BWIN_W w (leAt l (4 * w) 4))
      let d := ((d.set F.UPD_BLK_IDX0_BLOCK 0 n).set F.UPD_BLK_IDX1_TOTAL 0 total).set F.UPD_BLK_IDX2_CRC 0 crc
      let d := d.asBank 10 (fun d => d.blockGo)
      if d.var V.norWin 0 = 1 then d.setVar V.monWait 0 9 else d.monAnswer 9 6 (d.errWord 0x30) []

def execMonBlk (n total crc : BitVec 32) (l : List Byte) (s : State) : Host.Outcome State Fault Refusal :=
  .next (s.monLine 9 true false (fun s => { s with dev := s.dev.monBlk n.toNat total.toNat crc.toNat (padTo 4096 (l.map (fun b => b.toNat))) }))

/-- RESET (R652): a write of 1 to SYS_RSTREQ.MOD. -/
def Dev.monReset (d : Dev) : Dev := ((d.monRecord [0x52, 0x45, 0x53, 0x45] 0 0).rstReq monAcc V.modReq 3).monAnswer 10 0 0 []

def execMonReset (s : State) : Host.Outcome State Fault Refusal :=
  .next (s.monLine 10 true false (fun s => { s with dev := s.dev.monReset }))

/-! ### Lines that are not served -/

/-- MON_CRC_ERROR (R649): the line is discarded, counted and answered ER 1. -/
def Dev.monCrc (d : Dev) : Dev :=
  if !d.monReady then d
  else if d.var V.monWait 0 ≠ 0 then d.incSat F.MON_STAT_ERRS 0
  else (d.monDiscard 1).irq 0x31 1

def execMonCrcError (s : State) : Host.Outcome State Fault Refusal := s.upd Dev.monCrc

/-- MON_SYNTAX_ERROR (R652): an unknown word is answered ER 2. -/
def Dev.monSyntax (d : Dev) : Dev :=
  if !d.monReady then d
  else if d.var V.monWait 0 ≠ 0 then d.incSat F.MON_STAT_ERRS 0
  else d.monAnswer 0 2 0 []

def execMonSyntaxError (s : State) : Host.Outcome State Fault Refusal := s.upd Dev.monSyntax

/-- MON_LINE_TIMEOUT (R649): a line not complete within 1 s is discarded and answered ER 8. -/
def Dev.monTimeout (d : Dev) : Dev :=
  if !d.monReady then d
  else if d.var V.monWait 0 ≠ 0 then d.incSat F.MON_STAT_ERRS 0
  else d.monDiscard 8

def execMonLineTimeout (s : State) : Host.Outcome State Fault Refusal := s.upd Dev.monTimeout

/-- MON_BLOCK_TIMEOUT (R655): the data of a BLK are not complete within 2 s; the block is discarded and answered ER 8. -/
def execMonBlockTimeout (s : State) : Host.Outcome State Fault Refusal :=
  .next (s.monLine 9 true false (fun s => { s with dev := s.dev.monAnswer 9 8 0 [] }))

end Sys2Proof.Machine
end

