-- ==== Sys2Proof/Machine/Dispatch.lean ====
section
/-! DEFINITION. The meaning of every command, one arm each. -/

namespace Sys2Proof.Machine

def exec (i : Instr) (s : State) : Host.Outcome State Fault Refusal :=
  match i with
  | .moduleReset powerUp => Sys2Proof.Machine.execModuleReset powerUp s
  | .keeperBoot strap okA okB => Sys2Proof.Machine.execKeeperBoot strap okA okB s
  | .dramTrained => Sys2Proof.Machine.execDramTrained s
  | .dataPlaneLoadDone ok => Sys2Proof.Machine.execDataPlaneLoadDone ok s
  | .controlPlaneReset => Sys2Proof.Machine.execControlPlaneReset s
  | .controlPlaneRelease ok => Sys2Proof.Machine.execControlPlaneRelease ok s
  | .dataPlaneReset => Sys2Proof.Machine.execDataPlaneReset s
  | .dataPlaneRelease ok => Sys2Proof.Machine.execDataPlaneRelease ok s
  | .keeperRestart => Sys2Proof.Machine.execKeeperRestart s
  | .softReset a slot => Sys2Proof.Machine.execSoftReset a slot s
  | .softResetEnd slot => Sys2Proof.Machine.execSoftResetEnd slot s
  | .keeperReenable upd => Sys2Proof.Machine.execKeeperReenable upd s
  | .clrCommit a v => Sys2Proof.Machine.execClrCommit a v s
  | .clrBufferWrite a off l => Sys2Proof.Machine.execClrBufferWrite a off l s
  | .clrSlotCfgWrite a v => Sys2Proof.Machine.execClrSlotCfgWrite a v s
  | .staleTimeout ix => Sys2Proof.Machine.execStaleTimeout ix s
  | .withdrawalTimeout ix => Sys2Proof.Machine.execWithdrawalTimeout ix s
  | .registerWrite a x => Sys2Proof.Machine.execRegisterWrite a x s
  | .configAccessUnmapped a slot off wr => Sys2Proof.Machine.execConfigAccessUnmapped a slot off wr s
  | .chselWrite a slot ch => Sys2Proof.Machine.execChselWrite a slot ch s
  | .pairLowRead a slot off => Sys2Proof.Machine.execPairLowRead a slot off s
  | .pairHighRead a slot off => Sys2Proof.Machine.execPairHighRead a slot off s
  | .pairLowWrite a slot off v => Sys2Proof.Machine.execPairLowWrite a slot off v s
  | .pairHighWrite a slot off v => Sys2Proof.Machine.execPairHighWrite a slot off v s
  | .blockEnWrite a slot en => Sys2Proof.Machine.execBlockEnWrite a slot en s
  | .blockRunChange slot => Sys2Proof.Machine.execBlockRunChange slot s
  | .applyGo a slot chonly => Sys2Proof.Machine.execApplyGo a slot chonly s
  | .applyCopy slot unit => Sys2Proof.Machine.execApplyCopy slot unit s
  | .msTick => Sys2Proof.Machine.execMsTick s
  | .steeringRecord => Sys2Proof.Machine.execSteeringRecord s
  | .holdoverTimeout => Sys2Proof.Machine.execHoldoverTimeout s
  | .steerEnableWrite a en => Sys2Proof.Machine.execSteerEnableWrite a en s
  | .timeStep => Sys2Proof.Machine.execTimeStep s
  | .timeSetgo a => Sys2Proof.Machine.execTimeSetgo a s
  | .holdoverBoundExceeded => Sys2Proof.Machine.execHoldoverBoundExceeded s
  | .gptpAnnounce p => Sys2Proof.Machine.execGptpAnnounce p s
  | .gptpSync p => Sys2Proof.Machine.execGptpSync p s
  | .gptpPdelayReq p ok dly ratio => Sys2Proof.Machine.execGptpPdelayReq p ok dly ratio s
  | .gptpForeign p => Sys2Proof.Machine.execGptpForeign p s
  | .canTimeReference c => Sys2Proof.Machine.execCanTimeReference c s
  | .trigArm a e => Sys2Proof.Machine.execTrigArm a e s
  | .trigDisarm a e => Sys2Proof.Machine.execTrigDisarm a e s
  | .trigFire e => Sys2Proof.Machine.execTrigFire e s
  | .trigPulseEnd e => Sys2Proof.Machine.execTrigPulseEnd e s
  | .trigMessageSend e => Sys2Proof.Machine.execTrigMessageSend e s
  | .antMeasure ix ma limit volt => Sys2Proof.Machine.execAntMeasure ix ma limit volt s
  | .antRetry ix => Sys2Proof.Machine.execAntRetry ix s
  | .antBiasWrite a en => Sys2Proof.Machine.execAntBiasWrite a en s
  | .rfLinkLoss c => Sys2Proof.Machine.execRfLinkLoss c s
  | .rfLinkRelock c => Sys2Proof.Machine.execRfLinkRelock c s
  | .rfLinkCalibrated c => Sys2Proof.Machine.execRfLinkCalibrated c s
  | .bmodeRetuneEnd c => Sys2Proof.Machine.execBmodeRetuneEnd c s
  | .agcUpdate m => Sys2Proof.Machine.execAgcUpdate m s
  | .spectralScan p bins u => Sys2Proof.Machine.execSpectralScan p bins u s
  | .notchAssign p b u => Sys2Proof.Machine.execNotchAssign p b u s
  | .notchRelease p n => Sys2Proof.Machine.execNotchRelease p n s
  | .pathDisable a p => Sys2Proof.Machine.execPathDisable a p s
  | .acqGo a => Sys2Proof.Machine.execAcqGo a s
  | .acqAbort a => Sys2Proof.Machine.execAcqAbort a s
  | .acqEntryStart e => Sys2Proof.Machine.execAcqEntryStart e s
  | .acqCaptureStart e => Sys2Proof.Machine.execAcqCaptureStart e s
  | .acqCaptureEnd e l => Sys2Proof.Machine.execAcqCaptureEnd e l s
  | .acqBinStep e u v => Sys2Proof.Machine.execAcqBinStep e u v s
  | .acqEntryEnd e u => Sys2Proof.Machine.execAcqEntryEnd e u s
  | .acqEntryWrite a e ix w v => Sys2Proof.Machine.execAcqEntryWrite a e ix w v s
  | .trackStart a => Sys2Proof.Machine.execTrackStart a s
  | .trackStop a => Sys2Proof.Machine.execTrackStop a s
  | .trackIntegration c o => Sys2Proof.Machine.execTrackIntegration c o s
  | .pullinDone x => Sys2Proof.Machine.execPullinDone x s
  | .pullinTimeout c => Sys2Proof.Machine.execPullinTimeout c s
  | .phaseLock c => Sys2Proof.Machine.execPhaseLock c s
  | .lockLoss c => Sys2Proof.Machine.execLockLoss c s
  | .coastEntry c => Sys2Proof.Machine.execCoastEntry c s
  | .coastRecover c => Sys2Proof.Machine.execCoastRecover c s
  | .coastEnd c => Sys2Proof.Machine.execCoastEnd c s
  | .halfCycleResolve a resolve inv => Sys2Proof.Machine.execHalfCycleResolve a resolve inv s
  | .towWrite a ms seq => Sys2Proof.Machine.execTowWrite a ms seq s
  | .epochLatch => Sys2Proof.Machine.execEpochLatch s
  | .epochRecorded => Sys2Proof.Machine.execEpochRecorded s
  | .navRecord c u v w => Sys2Proof.Machine.execNavRecord c u v w s
  | .jamCheck => Sys2Proof.Machine.execJamCheck s
  | .jamLearn a => Sys2Proof.Machine.execJamLearn a s
  | .jamLearnDone => Sys2Proof.Machine.execJamLearnDone s
  | .pvtSpeedWrite a seq spd => Sys2Proof.Machine.execPvtSpeedWrite a seq spd s
  | .pvtSubmit a sg valid rate => Sys2Proof.Machine.execPvtSubmit a sg valid rate s
  | .guardRearm a => Sys2Proof.Machine.execGuardRearm a s
  | .timePulse => Sys2Proof.Machine.execTimePulse s
  | .timePulseEnd => Sys2Proof.Machine.execTimePulseEnd s
  | .avtpPacket x => Sys2Proof.Machine.execAvtpPacket x s
  | .avtpFrameEnd x => Sys2Proof.Machine.execAvtpFrameEnd x s
  | .lidarPost a buf => Sys2Proof.Machine.execLidarPost a buf s
  | .sensorSilent ix => Sys2Proof.Machine.execSensorSilent ix s
  | .sensorEnWrite a en => Sys2Proof.Machine.execSensorEnWrite a en s
  | .sensorRecheck a => Sys2Proof.Machine.execSensorRecheck a s
  | .calibrationCheckDone ix u v => Sys2Proof.Machine.execCalibrationCheckDone ix u v s
  | .checkNoref ix => Sys2Proof.Machine.execCheckNoref ix s
  | .bankSwapRequest a mask => Sys2Proof.Machine.execBankSwapRequest a mask s
  | .gridUpdate u => Sys2Proof.Machine.execGridUpdate u s
  | .gridUpdateDone => Sys2Proof.Machine.execGridUpdateDone s
  | .residualRecord ix u => Sys2Proof.Machine.execResidualRecord ix u s
  | .projectionGo a v => Sys2Proof.Machine.execProjectionGo a v s
  | .projectionDone u v w => Sys2Proof.Machine.execProjectionDone u v w s
  | .gridClear a => Sys2Proof.Machine.execGridClear a s
  | .egoStep x => Sys2Proof.Machine.execEgoStep x s
  | .egoInvalid => Sys2Proof.Machine.execEgoInvalid s
  | .egoStill => Sys2Proof.Machine.execEgoStill s
  | .egoSlipUnknown => Sys2Proof.Machine.execEgoSlipUnknown s
  | .egoReset a => Sys2Proof.Machine.execEgoReset a s
  | .npuJobGo a j => Sys2Proof.Machine.execNpuJobGo a j s
  | .npuJobEnable a j en => Sys2Proof.Machine.execNpuJobEnable a j en s
  | .npuJobStart => Sys2Proof.Machine.execNpuJobStart s
  | .npuJobDone outs => Sys2Proof.Machine.execNpuJobDone outs s
  | .npuJobLimit => Sys2Proof.Machine.execNpuJobLimit s
  | .npuAbort a => Sys2Proof.Machine.execNpuAbort a s
  | .acousticImpact x => Sys2Proof.Machine.execAcousticImpact x s
  | .acousticClassify c x u v => Sys2Proof.Machine.execAcousticClassify c x u v s
  | .acousticRearm x => Sys2Proof.Machine.execAcousticRearm x s
  | .acousticPile x => Sys2Proof.Machine.execAcousticPile x s
  | .acousticWindowEnd clip => Sys2Proof.Machine.execAcousticWindowEnd clip s
  | .acousticPublish => Sys2Proof.Machine.execAcousticPublish s
  | .acousticSnapArm a c => Sys2Proof.Machine.execAcousticSnapArm a c s
  | .acousticSnapDone l => Sys2Proof.Machine.execAcousticSnapDone l s
  | .cropTick => Sys2Proof.Machine.execCropTick s
  | .flowStale => Sys2Proof.Machine.execFlowStale s
  | .samplingPass => Sys2Proof.Machine.execSamplingPass s
  | .parcelArrival => Sys2Proof.Machine.execParcelArrival s
  | .tapCommit t => Sys2Proof.Machine.execTapCommit t s
  | .tapEnable a t en => Sys2Proof.Machine.execTapEnable a t en s
  | .lineClear a => Sys2Proof.Machine.execLineClear a s
  | .stageClear a => Sys2Proof.Machine.execStageClear a s
  | .yieldPair => Sys2Proof.Machine.execYieldPair s
  | .loopSample k x => Sys2Proof.Machine.execLoopSample k x s
  | .loopEvaluate k => Sys2Proof.Machine.execLoopEvaluate k s
  | .outputApply k => Sys2Proof.Machine.execOutputApply k s
  | .loopEnable a => Sys2Proof.Machine.execLoopEnable a s
  | .loopDisable a => Sys2Proof.Machine.execLoopDisable a s
  | .coeffSwap a => Sys2Proof.Machine.execCoeffSwap a s
  | .swapMaskWrite a m => Sys2Proof.Machine.execSwapMaskWrite a m s
  | .loopClearStats a => Sys2Proof.Machine.execLoopClearStats a s
  | .laneClear a => Sys2Proof.Machine.execLaneClear a s
  | .tableEntryWrite a cog ix v => Sys2Proof.Machine.execTableEntryWrite a cog ix v s
  | .portEnable a n en => Sys2Proof.Machine.execPortEnable a n en s
  | .eventRequest a on => Sys2Proof.Machine.execEventRequest a on s
  | .currentSetpoint a v => Sys2Proof.Machine.execCurrentSetpoint a v s
  | .queuePush a => Sys2Proof.Machine.execQueuePush a s
  | .queueFlush a => Sys2Proof.Machine.execQueueFlush a s
  | .queueEntryDue c => Sys2Proof.Machine.execQueueEntryDue c s
  | .eventStart c rail => Sys2Proof.Machine.execEventStart c rail s
  | .overlapDrop c => Sys2Proof.Machine.execOverlapDrop c s
  | .boostWaitExpiry c rail => Sys2Proof.Machine.execBoostWaitExpiry c rail s
  | .boostPeakReached m => Sys2Proof.Machine.execBoostPeakReached m s
  | .boostTimeout c => Sys2Proof.Machine.execBoostTimeout c s
  | .peakEnd c => Sys2Proof.Machine.execPeakEnd c s
  | .eventEnd c => Sys2Proof.Machine.execEventEnd c s
  | .decayEnd m => Sys2Proof.Machine.execDecayEnd m s
  | .kinkDetect m => Sys2Proof.Machine.execKinkDetect m s
  | .kinkWindowEnd c => Sys2Proof.Machine.execKinkWindowEnd c s
  | .solShort m => Sys2Proof.Machine.execSolShort m s
  | .hsShort m => Sys2Proof.Machine.execHsShort m s
  | .solOvertemp m => Sys2Proof.Machine.execSolOvertemp m s
  | .solOpenLoad m => Sys2Proof.Machine.execSolOpenLoad m s
  | .solClearFault a cause => Sys2Proof.Machine.execSolClearFault a cause s
  | .solChannelEnable a en => Sys2Proof.Machine.execSolChannelEnable a en s
  | .boostEnable a b en => Sys2Proof.Machine.execBoostEnable a b en s
  | .boostFault b rail => Sys2Proof.Machine.execBoostFault b rail s
  | .boostFaultClear b rail => Sys2Proof.Machine.execBoostFaultClear b rail s
  | .lswOnWrite a on => Sys2Proof.Machine.execLswOnWrite a on s
  | .lswChannelEnable a en => Sys2Proof.Machine.execLswChannelEnable a en s
  | .studBudgetStep st => Sys2Proof.Machine.execStudBudgetStep st s
  | .loadShed st => Sys2Proof.Machine.execLoadShed st s
  | .studOverload st => Sys2Proof.Machine.execStudOverload st s
  | .shedReturn st => Sys2Proof.Machine.execShedReturn st s
  | .senseConversion slot cur => Sys2Proof.Machine.execSenseConversion slot cur s
  | .shortCircuitTrip c cur => Sys2Proof.Machine.execShortCircuitTrip c cur s
  | .inrushEnd c => Sys2Proof.Machine.execInrushEnd c s
  | .wireModelStep c => Sys2Proof.Machine.execWireModelStep c s
  | .lswClearFault a => Sys2Proof.Machine.execLswClearFault a s
  | .junctionRead c tj => Sys2Proof.Machine.execJunctionRead c tj s
  | .autoRestart c => Sys2Proof.Machine.execAutoRestart c s
  | .retryWindow => Sys2Proof.Machine.execRetryWindow s
  | .openLoadCheck c volt => Sys2Proof.Machine.execOpenLoadCheck c volt s
  | .crankHold st mv => Sys2Proof.Machine.execCrankHold st mv s
  | .crankEnd st mv => Sys2Proof.Machine.execCrankEnd st mv s
  | .brownOut st mv => Sys2Proof.Machine.execBrownOut st mv s
  | .brownOutEnd st mv => Sys2Proof.Machine.execBrownOutEnd st mv s
  | .moduleUndervoltage => Sys2Proof.Machine.execModuleUndervoltage s
  | .undervoltageEnd => Sys2Proof.Machine.execUndervoltageEnd s
  | .staggeredTurnOn c => Sys2Proof.Machine.execStaggeredTurnOn c s
  | .pscLinkLoss p => Sys2Proof.Machine.execPscLinkLoss p s
  | .pscLinkHoldEnd p => Sys2Proof.Machine.execPscLinkHoldEnd p s
  | .pscLinkRelock p => Sys2Proof.Machine.execPscLinkRelock p s
  | .pscAck a p => Sys2Proof.Machine.execPscAck a p s
  | .testPulse p b => Sys2Proof.Machine.execTestPulse p b s
  | .safeInputSample x => Sys2Proof.Machine.execSafeInputSample x s
  | .testSourceFault p => Sys2Proof.Machine.execTestSourceFault p s
  | .discrepancyTimeout p => Sys2Proof.Machine.execDiscrepancyTimeout p s
  | .fbrkCycle lanes off => Sys2Proof.Machine.execFbrkCycle lanes off s
  | .groupRestart a m => Sys2Proof.Machine.execGroupRestart a m s
  | .fbrkEnable a en => Sys2Proof.Machine.execFbrkEnable a en s
  | .readbackFault => Sys2Proof.Machine.execReadbackFault s
  | .resetButtonPulse ms => Sys2Proof.Machine.execResetButtonPulse ms s
  | .resetWindowTimeout => Sys2Proof.Machine.execResetWindowTimeout s
  | .resetButtonStuck => Sys2Proof.Machine.execResetButtonStuck s
  | .faultResetKey a key src rb => Sys2Proof.Machine.execFaultResetKey a key src rb s
  | .reactClear a => Sys2Proof.Machine.execReactClear a s
  | .canFrameReceived c f dur => Sys2Proof.Machine.execCanFrameReceived c f dur s
  | .canFrameStored => Sys2Proof.Machine.execCanFrameStored s
  | .transmitRequest a b => Sys2Proof.Machine.execTransmitRequest a b s
  | .transmitEnd c b res dur => Sys2Proof.Machine.execTransmitEnd c b res dur s
  | .transmitAbort a b tx => Sys2Proof.Machine.execTransmitAbort a b tx s
  | .busOff c => Sys2Proof.Machine.execBusOff c s
  | .busOffRecovery c => Sys2Proof.Machine.execBusOffRecovery c s
  | .ndatClear a n v => Sys2Proof.Machine.execNdatClear a n v s
  | .firebreakMessage c => Sys2Proof.Machine.execFirebreakMessage c s
  | .addressClaim a n => Sys2Proof.Machine.execAddressClaim a n s
  | .claimSettled n => Sys2Proof.Machine.execClaimSettled n s
  | .claimContention n u => Sys2Proof.Machine.execClaimContention n u s
  | .cannotClaim n => Sys2Proof.Machine.execCannotClaim n s
  | .claimRequest n => Sys2Proof.Machine.execClaimRequest n s
  | .partnerTimeout sa => Sys2Proof.Machine.execPartnerTimeout sa s
  | .canChannelEnable a x => Sys2Proof.Machine.execCanChannelEnable a x s
  | .ethFrameForward x occ => Sys2Proof.Machine.execEthFrameForward x occ s
  | .fdbAgeing => Sys2Proof.Machine.execFdbAgeing s
  | .gateListEntry p => Sys2Proof.Machine.execGateListEntry p s
  | .hostReceive q u v w => Sys2Proof.Machine.execHostReceive q u v w s
  | .hostTransmit q => Sys2Proof.Machine.execHostTransmit q s
  | .ethPortEnable a en => Sys2Proof.Machine.execEthPortEnable a en s
  | .ethLinkChange p up sqi => Sys2Proof.Machine.execEthLinkChange p up sqi s
  | .rideCycleStart => Sys2Proof.Machine.execRideCycleStart s
  | .rideUpReceived n tk img fb astamp u => Sys2Proof.Machine.execRideUpReceived n tk img fb astamp u s
  | .rideOutputCommit a => Sys2Proof.Machine.execRideOutputCommit a s
  | .rideTimeExchange => Sys2Proof.Machine.execRideTimeExchange s
  | .rideLinkUp up p => Sys2Proof.Machine.execRideLinkUp up p s
  | .rideHello x => Sys2Proof.Machine.execRideHello x s
  | .rideLinkDown up p => Sys2Proof.Machine.execRideLinkDown up p s
  | .rideTableClear a => Sys2Proof.Machine.execRideTableClear a s
  | .ridePortTake a d take_ => Sys2Proof.Machine.execRidePortTake a d take_ s
  | .eccCorrectable => Sys2Proof.Machine.execEccCorrectable s
  | .eccUncorrectable blk src => Sys2Proof.Machine.execEccUncorrectable blk src s
  | .patrolScrub found => Sys2Proof.Machine.execPatrolScrub found s
  | .iommuFault dev iova cause wr => Sys2Proof.Machine.execIommuFault dev iova cause wr s
  | .iotinvalVma => Sys2Proof.Machine.execIotinvalVma s
  | .iotinvalGvma => Sys2Proof.Machine.execIotinvalGvma s
  | .iodirInvalDdt => Sys2Proof.Machine.execIodirInvalDdt s
  | .iofenceC => Sys2Proof.Machine.execIofenceC s
  | .dmaGo a => Sys2Proof.Machine.execDmaGo a s
  | .dmaBurstIssue e ret => Sys2Proof.Machine.execDmaBurstIssue e ret s
  | .dmaDescriptorDone c => Sys2Proof.Machine.execDmaDescriptorDone c s
  | .dmaFault c later => Sys2Proof.Machine.execDmaFault c later s
  | .dmaParked c => Sys2Proof.Machine.execDmaParked c s
  | .dmaResume a => Sys2Proof.Machine.execDmaResume a s
  | .dmaSkip a => Sys2Proof.Machine.execDmaSkip a s
  | .dmaAbort a => Sys2Proof.Machine.execDmaAbort a s
  | .dmaAbortDone c => Sys2Proof.Machine.execDmaAbortDone c s
  | .dmaEngineClear a e => Sys2Proof.Machine.execDmaEngineClear a e s
  | .lockstepMismatch b out => Sys2Proof.Machine.execLockstepMismatch b out s
  | .lockstepInject a pa pb => Sys2Proof.Machine.execLockstepInject a pa pb s
  | .dataPlaneWatchdog => Sys2Proof.Machine.execDataPlaneWatchdog s
  | .resetRequestCtl x => Sys2Proof.Machine.execResetRequestCtl x s
  | .resetRequestData x => Sys2Proof.Machine.execResetRequestData x s
  | .resetRequestModule a => Sys2Proof.Machine.execResetRequestModule a s
  | .challengeRequest a kind target key => Sys2Proof.Machine.execChallengeRequest a kind target key s
  | .responseSubmit a sig => Sys2Proof.Machine.execResponseSubmit a sig s
  | .challengeExpiry => Sys2Proof.Machine.execChallengeExpiry s
  | .updStage => Sys2Proof.Machine.execUpdStage s
  | .updPush => Sys2Proof.Machine.execUpdPush s
  | .updActivate ctl => Sys2Proof.Machine.execUpdActivate ctl s
  | .updConfirm ctl => Sys2Proof.Machine.execUpdConfirm ctl s
  | .updStatus ctl => Sys2Proof.Machine.execUpdStatus ctl s
  | .updAbort ctl => Sys2Proof.Machine.execUpdAbort ctl s
  | .updReboot ctl => Sys2Proof.Machine.execUpdReboot ctl s
  | .updSread ctl => Sys2Proof.Machine.execUpdSread ctl s
  | .updSwrite ctl => Sys2Proof.Machine.execUpdSwrite ctl s
  | .updBadOpcode ctl => Sys2Proof.Machine.execUpdBadOpcode ctl s
  | .norBlockWrite ok => Sys2Proof.Machine.execNorBlockWrite ok s
  | .stageDone => Sys2Proof.Machine.execStageDone s
  | .trialTimeout => Sys2Proof.Machine.execTrialTimeout s
  | .runProven => Sys2Proof.Machine.execRunProven s
  | .bulkDataReceived x => Sys2Proof.Machine.execBulkDataReceived x s
  | .bulkAckReceived n hi => Sys2Proof.Machine.execBulkAckReceived n hi s
  | .pushResend => Sys2Proof.Machine.execPushResend s
  | .updBlockGo a => Sys2Proof.Machine.execUpdBlockGo a s
  | .panelCommit a full => Sys2Proof.Machine.execPanelCommit a full s
  | .panelLineStart vr vs => Sys2Proof.Machine.execPanelLineStart vr vs s
  | .panelSelectPhase => Sys2Proof.Machine.execPanelSelectPhase s
  | .panelEvolvePhase => Sys2Proof.Machine.execPanelEvolvePhase s
  | .panelLineEnd ok => Sys2Proof.Machine.execPanelLineEnd ok s
  | .generatorTimeout => Sys2Proof.Machine.execGeneratorTimeout s
  | .panelTempRead t => Sys2Proof.Machine.execPanelTempRead t s
  | .stressClear a => Sys2Proof.Machine.execStressClear a s
  | .errorReport => Sys2Proof.Machine.execErrorReport s
  | .recordWrite ok1 ok2 => Sys2Proof.Machine.execRecordWrite ok1 ok2 s
  | .shrdLog ctl => Sys2Proof.Machine.execShrdLog ctl s
  | .shrdRead ctl => Sys2Proof.Machine.execShrdRead ctl s
  | .shrdBadCommand ctl => Sys2Proof.Machine.execShrdBadCommand ctl s
  | .sagrAck a seq => Sys2Proof.Machine.execSagrAck a seq s
  | .sagrRaise a cls code => Sys2Proof.Machine.execSagrRaise a cls code s
  | .kilnRunRequest a mask => Sys2Proof.Machine.execKilnRunRequest a mask s
  | .kilnRunCommand => Sys2Proof.Machine.execKilnRunCommand s
  | .kilnQuiesced => Sys2Proof.Machine.execKilnQuiesced s
  | .kilnPatternDone misr ecc => Sys2Proof.Machine.execKilnPatternDone misr ecc s
  | .kilnRunEnd => Sys2Proof.Machine.execKilnRunEnd s
  | .kilnAgeHour => Sys2Proof.Machine.execKilnAgeHour s
  | .coneSweepGo a => Sys2Proof.Machine.execConeSweepGo a s
  | .coneSweepPeriodic => Sys2Proof.Machine.execConeSweepPeriodic s
  | .coneSweepDone => Sys2Proof.Machine.execConeSweepDone s
  | .supplyLoss => Sys2Proof.Machine.execSupplyLoss s
  | .supplyReturn => Sys2Proof.Machine.execSupplyReturn s
  | .holdupExpiry => Sys2Proof.Machine.execHoldupExpiry s
  | .heartbeat a key => Sys2Proof.Machine.execHeartbeat a key s
  | .deadmanExpiry => Sys2Proof.Machine.execDeadmanExpiry s
  | .idleEntry => Sys2Proof.Machine.execIdleEntry s
  | .idleExit => Sys2Proof.Machine.execIdleExit s
  | .modeRequest ctl => Sys2Proof.Machine.execModeRequest ctl s
  | .modeStatus ctl => Sys2Proof.Machine.execModeStatus ctl s
  | .shutdownAck ctl => Sys2Proof.Machine.execShutdownAck ctl s
  | .modeBadRequest ctl => Sys2Proof.Machine.execModeBadRequest ctl s
  | .limpEntry => Sys2Proof.Machine.execLimpEntry s
  | .limpExit => Sys2Proof.Machine.execLimpExit s
  | .wakeLine => Sys2Proof.Machine.execWakeLine s
  | .canWake c x => Sys2Proof.Machine.execCanWake c x s
  | .rideWake p => Sys2Proof.Machine.execRideWake p s
  | .timerWake => Sys2Proof.Machine.execTimerWake s
  | .monitorWake => Sys2Proof.Machine.execMonitorWake s
  | .monitorWakeEnd => Sys2Proof.Machine.execMonitorWakeEnd s
  | .shutdownNotice => Sys2Proof.Machine.execShutdownNotice s
  | .shutdownWithdrawn => Sys2Proof.Machine.execShutdownWithdrawn s
  | .shutdownForced => Sys2Proof.Machine.execShutdownForced s
  | .parkingGraceEnd => Sys2Proof.Machine.execParkingGraceEnd s
  | .controlPlaneQuiet => Sys2Proof.Machine.execControlPlaneQuiet s
  | .ladderDescend => Sys2Proof.Machine.execLadderDescend s
  | .monHello => Sys2Proof.Machine.execMonHello s
  | .monLog idx n => Sys2Proof.Machine.execMonLog idx n s
  | .monRd addr => Sys2Proof.Machine.execMonRd addr s
  | .monWr addr v => Sys2Proof.Machine.execMonWr addr v s
  | .monMode t => Sys2Proof.Machine.execMonMode t s
  | .monKiln mask => Sys2Proof.Machine.execMonKiln mask s
  | .monChal kind target key => Sys2Proof.Machine.execMonChal kind target key s
  | .monResp r t sig => Sys2Proof.Machine.execMonResp r t sig s
  | .monBlk n total crc l => Sys2Proof.Machine.execMonBlk n total crc l s
  | .monReset => Sys2Proof.Machine.execMonReset s
  | .monCrcError => Sys2Proof.Machine.execMonCrcError s
  | .monSyntaxError => Sys2Proof.Machine.execMonSyntaxError s
  | .monLineTimeout => Sys2Proof.Machine.execMonLineTimeout s
  | .monBlockTimeout => Sys2Proof.Machine.execMonBlockTimeout s
  | .keeperReturn => Sys2Proof.Machine.execKeeperReturn s
  | .canIntegrationEnd c => Sys2Proof.Machine.execCanIntegrationEnd c s
  | .canBusError c big => Sys2Proof.Machine.execCanBusError c big s
  | .transceiverFault c f => Sys2Proof.Machine.execTransceiverFault c f s
  | .boostRailReady b rail => Sys2Proof.Machine.execBoostRailReady b rail s
  | .resetButtonRise => Sys2Proof.Machine.execResetButtonRise s
  | .wakeLineFall => Sys2Proof.Machine.execWakeLineFall s
  | .rideRingReturn => Sys2Proof.Machine.execRideRingReturn s

end Sys2Proof.Machine
end

