-- ==== Sys2Proof/Safety.lean ====
section
/-! DEFINITION. What claims call a sound state and a safe step. -/

namespace Sys2Proof.Machine

/-- OTP holds a life-cycle state that the spec names (R517: 0 BLANK to 4 SCRAP). -/
def Otp.wf (o : Otp) : Bool := decide (o.st ≤ 4)

/-- A sound state: DRAM in canonical form, and a life-cycle state that the spec names. -/
def State.wf (s : State) : Bool := Memory.wf s.mem && s.otp.wf

/-- A step that goes on: neither a fault nor a refusal. -/
def StepGoesOn (s : State) : Prop := ∃ t, step s = .next t

end Sys2Proof.Machine
end

