-- ==== Sys2Proof/Certificates/Slice0/Obligations.lean ====
section
/-! DEFINITION. The statements for the provers. `Answers i s P` says that the command `i` completes from `s` and that `P` holds of the state it answers;
`Allowed` is the access that R56 accepts as a write. -/

namespace Sys2Proof.Machine

/-- The command answers a next state of which `P` holds. -/
def Answers (i : Instr) (s : State) (P : State → Prop) : Prop := ∃ t, exec i s = .next t ∧ P t

/-- A write access to a block that R56 accepts: privileged, from the owning plane or the keeper, and not from a DMA engine (banks 11 to 14,
which R56 confines further). -/
abbrev Allowed (slot : Nat) (a : Acc) : Prop :=
  a.priv = true ∧ ¬ (11 ≤ a.bank.val ∧ a.bank.val ≤ 14) ∧ (planeOfBank a.bank.val = planeOfSlot slot ∨ a.bank.val = 10)

/-- Such a write access that the block takes: no soft reset of it runs (R67), and Kiln does not hold it from BUS and FLT (R589). -/
abbrev Taken (s : State) (slot : Nat) (a : Acc) : Prop :=
  Allowed slot a ∧ s.dev.var V.softRst slot = 0 ∧ ¬ (s.dev.var V.underKiln slot = 1 ∧ (slot = 0x28 ∨ slot = 0x29))

/-- A report of a source, class and CODE left the block between two states. -/
def Reported (s t : State) (src cls code : Nat) : Prop :=
  ∃ r ∈ t.dev.reports.drop s.dev.reports.length, r.src = src ∧ r.cls = cls ∧ r.code = code

/-- Everything but the device part and its blocks' registers stays. -/
def OutsideKept (s t : State) : Prop := t.mem = s.mem ∧ t.log = s.log ∧ t.otp = s.otp

/-- What any event or error of a block may write: the counters of Cones, x_ERR, and the raw and the held interrupt bits (R52, R53, R599). -/
def frameEvents : List Fld := [F.COM_CONE_CNT_V, F.COM_CONE_CNT_WRAP, F.COM_ERR_LOCKWR, F.COM_ERR_CHRANGE, F.COM_ERR_PRIV, F.COM_ERR_PLANE,
  F.COM_ERR_APPLYPEND, F.COM_ERR_UNMAP, F.COM_ERR_SIZE, F.COM_ERR_BLK, F.COM_ERR_BCODE, F.COM_ERR_BANK, F.COM_ERR_WOFF, F.COM_ERR_MORE,
  F.COM_ERR_VALID, F.COM_IRQ_RAW_V, F.COM_IRQ_STAT_V]

/-- Every register field of every block, shadow and active value alike, but those listed and those of `frameEvents`, holds the value it held. -/
def FieldsKept (s t : State) (l : List Fld) : Prop :=
  ∀ f : Fld, (∀ g ∈ frameEvents ++ l, f.kid ≠ g.kid ∧ f.kid ≠ g.act.kid) → ∀ i, t.dev.get f i = s.dev.get f i

/-- The fields listed may change, and no other; Grove time stands. -/
def RegFrame (s t : State) (l : List Fld) : Prop := FieldsKept s t l ∧ t.dev.var V.grove 0 = s.dev.var V.grove 0

/-- A write at an offset of a block that R56 turns away has no effect but its error response and the capture. -/
def RefusedAt (c : Instr) (s : State) (slot off : Nat) (a : Acc) : Prop :=
  ∀ k, accCause slot off a true = some k → Answers c s (fun t =>
    t.dev.resp = 2 ∧ t.dev.get F.COM_ERR_VALID slot = 1 ∧
    (s.dev.get F.COM_ERR_VALID slot = 0 → t.dev.get F.COM_ERR_PRIV slot = bit (k == 2) ∧ t.dev.get F.COM_ERR_PLANE slot = bit (k == 3) ∧
      t.dev.get F.COM_ERR_WOFF slot = off / 4 % 2 ^ F.COM_ERR_WOFF.width ∧ t.dev.get F.COM_ERR_BANK slot = a.bank.val) ∧
    RegFrame s t [] ∧ t.log = s.log ∧ t.otp = s.otp)

/-- An entry after a report: REPEAT counts where source and code are the report's (R576). -/
def mergedEntry (r : Report) (e : SagrEntry) : SagrEntry :=
  if e.src = r.src ∧ e.code = r.code then { e with rep := min 0xFFFF (e.rep + 1) } else e

/-- A sample of R270 with the set-point `v`, a measurement of 0, and neither feed-forward nor table terms: u, us, I and D. -/
def plainSample (d : Dev) (k : Nat) (v : Int) : Int × Int × Int × Int :=
  let e := sat32 (v - 0)
  let dx := if d.on F.WHL_LP_CFG_DMODE k then sat32 (d.var V.lpY k - 0) else sat32 (e - d.var V.lpE k)
  lawStep (d.coef k (d.get F.WHL_LP_STAT_ACT k)) none (d.getI F.WHL_LP_I_I k) (d.var V.lpD k) e dx v 0 0 0

/-- The projection of a sensor's check (R199): its frame onto that of the REF with which the check began, each in the bank that was active when it was posted. -/
def checkOf (s : State) (i : Nat) : State × Option (List Match) :=
  let fr := fun (n : Nat) => (s.dev.frames.find (n, i)).getD ⟨0, 0, 0, 0, false, false⟩
  s.project i (fr 3).bank (fr 3) (s.dev.var V.chkRef i).toNat (fr 4).bank (fr 4)

/-- The frame in a buffer of a sensor, as a software projection takes it (R221). -/
def projFrame (s : State) (i buf : Nat) : Frame := (s.dev.frames.find (0, 256 * i + buf)).getD ⟨buf, 0, 0, s.dev.get F.CNPY_HP_CTRL_BANK 0, false, false⟩

/-- The software projection that CNPY_HP_CTRL names (R221). -/
def projOf (s : State) : State × Option (List Match) :=
  s.project (s.dev.get F.CNPY_HP_CTRL_SRC 0) (s.dev.get F.CNPY_HP_CTRL_BANK 0) (projFrame s (s.dev.get F.CNPY_HP_CTRL_SRC 0) (s.dev.get F.CNPY_HP_CTRL_SBUF 0))
    (s.dev.get F.CNPY_HP_CTRL_DST 0) (s.dev.get F.CNPY_HP_CTRL_BANK 0) (projFrame s (s.dev.get F.CNPY_HP_CTRL_DST 0) (s.dev.get F.CNPY_HP_CTRL_DBUF 0))

/-- Pixels of a projection's image: those of the target camera, or the cells of a raster (R221). -/
def projPlaces (s : State) : Nat :=
  if 6 ≤ s.dev.get F.CNPY_HP_CTRL_DST 0 then 160000
  else (s.dev.cam (s.dev.get F.CNPY_HP_CTRL_BANK 0) (s.dev.get F.CNPY_HP_CTRL_DST 0)).w * (s.dev.cam (s.dev.get F.CNPY_HP_CTRL_BANK 0) (s.dev.get F.CNPY_HP_CTRL_DST 0)).h

end Sys2Proof.Machine

open Sys2Proof Sys2Proof.Machine

/-- CLR: effects of the commit, buffer, slot and timeout commands where their conditions hold (R24, R25, R28, R32, R37, R39). -/
def Obligations.ClearingCommitsAndTimers : Prop :=
  (∀ (s : State) (a : Acc) (v : BitVec 32), a.priv = true → (¬ (11 ≤ a.bank.val ∧ a.bank.val ≤ 14)) → v.toNat % 512 ≤ 351 → planeOfBank a.bank.val = clrWriter (v.toNat % 512) → s.dev.planeUp (planeOfBank a.bank.val) = true →
      Answers (.clrCommit a v) s (fun t => t.dev.get F.CLR_HDR_GEN (v.toNat % 512) = 1 - s.dev.get F.CLR_HDR_GEN (v.toNat % 512) ∧ t.dev.get F.CLR_HDR_LIVE (v.toNat % 512) = 1 ∧ t.dev.get F.CLR_HDR_STALE (v.toNat % 512) = 0 ∧ t.dev.get F.CLR_HDR_WDRN (v.toNat % 512) = 0 ∧ t.dev.get F.CLR_SLOT_STAT_AGE (v.toNat % 512) = 0 ∧   t.dev.get F.CLR_HDR_SEQ (v.toNat % 512) = (s.dev.get F.CLR_HDR_SEQ (v.toNat % 512) + 1) % 2 ^ F.CLR_HDR_SEQ.width ∧ t.dev.clrPub (v.toNat % 512) = s.dev.clrBuffer (v.toNat % 512) (1 - s.dev.get F.CLR_HDR_GEN (v.toNat % 512)))) ∧
  (∀ (s : State) (a : Acc) (off : BitVec 16) (b0 b1 b2 b3 : Byte), a.priv = true → (¬ (11 ≤ a.bank.val ∧ a.bank.val ≤ 14)) → off.toNat % 4 = 0 → 0x1000 ≤ off.toNat → off.toNat + 4 ≤ 0xD000 → planeOfBank a.bank.val = clrWriter (clrPlace off.toNat).1 → (clrPlace off.toNat).2.1 ≠ s.dev.get F.CLR_HDR_GEN (clrPlace off.toNat).1 →
      Answers (.clrBufferWrite a off [b0, b1, b2, b3]) s (fun t => ((List.range 4).map (fun k => (t.dev.clrBuffer (clrPlace off.toNat).1 (clrPlace off.toNat).2.1).getD ((clrPlace off.toNat).2.2 + k) 0)) = [b0.toNat, b1.toNat, b2.toNat, b3.toNat] ∧ t.dev.clrPub (clrPlace off.toNat).1 = s.dev.clrPub (clrPlace off.toNat).1)) ∧
  (∀ (s : State) (a : Acc) (v : BitVec 32), a.priv = true → (¬ (11 ≤ a.bank.val ∧ a.bank.val ≤ 14)) → s.dev.get F.COM_CHSEL_CH (0x0B * 16 + a.bank.val) < 352 → planeOfBank a.bank.val = clrReader (s.dev.get F.COM_CHSEL_CH (0x0B * 16 + a.bank.val)) → v.toNat % 4096 ≠ 0 →
      Answers (.clrSlotCfgWrite a v) s (fun t => t.dev.get F.CLR_SLOT_CFG_STALE_T (s.dev.get F.COM_CHSEL_CH (0x0B * 16 + a.bank.val)) = v.toNat % 4096 ∧   (v.toNat / 65536 % 4096 ≠ 0 ∨ 64 ≤ s.dev.get F.COM_CHSEL_CH (0x0B * 16 + a.bank.val) → t.dev.get F.CLR_SLOT_CFG_WDR_T (s.dev.get F.COM_CHSEL_CH (0x0B * 16 + a.bank.val)) = v.toNat / 65536 % 4096))) ∧
  (∀ (s : State) (ix : Fin 352), s.dev.var V.uptime 0 = s.dev.var V.lastTick 0 → s.dev.get F.CLR_HDR_LIVE ix = 1 → s.dev.get F.CLR_SLOT_CFG_STALE_T ix ≤ s.dev.get F.CLR_SLOT_STAT_AGE ix →
      Answers (.staleTimeout ix) s (fun t => t.dev.get F.CLR_HDR_STALE ix = 1)) ∧
  (∀ (s : State) (ix : Fin 352), s.dev.var V.uptime 0 = s.dev.var V.lastTick 0 → s.dev.get F.CLR_HDR_LIVE ix = 1 → s.dev.get F.CLR_HDR_WDRN ix ≠ 1 → s.dev.get F.CLR_SLOT_CFG_WDR_T ix ≠ 0 → max (s.dev.get F.CLR_SLOT_CFG_WDR_T ix) (s.dev.get F.CLR_SLOT_CFG_STALE_T ix) ≤ s.dev.get F.CLR_SLOT_STAT_AGE ix →
      Answers (.withdrawalTimeout ix) s (fun t => t.dev.get F.CLR_HDR_WDRN ix = 1))

/-- TIME: effects of the trigger commands where their conditions hold (R95, R96, R98, R99, R100). -/
def Obligations.TriggerSchedulerFires : Prop :=
  (∀ (s : State) (a : Acc) (e : Fin 16), Taken s 0x07 a → s.dev.get F.TRIG_CFG_EN e ≠ 1 → s.dev.var V.grove 0 + 2000 * 65536 ≤ (s.dev.get F.TRIG_INST_INST e : Int) * 65536 → (s.dev.get F.TRIG_CFG_TGT e = 1 → s.dev.var V.grove 0 + (s.dev.get F.TRIG_CFG_LEAD e : Int) * 100000 * 65536 ≤ (s.dev.get F.TRIG_INST_INST e : Int) * 65536) →
      Answers (.trigArm a e) s (fun t => t.dev.get F.TRIG_CFG_EN e = 1 ∧ t.dev.get F.TRIG_STAT_ARMED e = 1 ∧ t.dev.get F.TRIG_STAT_FIRES e = 0 ∧ t.dev.get F.TRIG_INST_INST e = s.dev.get F.TRIG_INST_INST e)) ∧
  (∀ (s : State) (a : Acc) (e : Fin 16), Taken s 0x07 a →
      Answers (.trigDisarm a e) s (fun t => t.dev.get F.TRIG_CFG_EN e = 0 ∧ t.dev.get F.TRIG_STAT_ARMED e = 0 ∧ t.dev.var V.pulse e = s.dev.var V.pulse e)) ∧
  (∀ (s : State) (e : Fin 16), s.dev.get F.TRIG_CFG_EN e = 1 → (s.dev.get F.TRIG_INST_INST e : Int) * 65536 ≤ s.dev.var V.grove 0 →
      Answers (.trigFire e) s (fun t => t.dev.get F.TRIG_LAST_LAST e = s.dev.get F.TRIG_INST_INST e % 2 ^ 64 ∧ t.dev.get F.TRIG_STAT_FIRES e = (s.dev.get F.TRIG_STAT_FIRES e + 1) % 2 ^ F.TRIG_STAT_FIRES.width ∧ t.dev.get F.TRIG_INST_INST e = (s.dev.get F.TRIG_INST_INST e + s.dev.get F.TRIG_PERIOD_PERIOD e) % 2 ^ 64 ∧   (s.dev.get F.TRIG_COUNT_COUNT e = 1 ∨ s.dev.get F.TRIG_PERIOD_PERIOD e = 0 → t.dev.get F.TRIG_CFG_EN e = 0 ∧ t.dev.get F.TRIG_STAT_ARMED e = 0))) ∧
  (∀ (s : State) (e : Fin 16), s.dev.var V.pulse e = 1 → s.dev.var V.pulseEnd e ≤ s.dev.var V.uptime 0 →
      Answers (.trigPulseEnd e) s (fun t => t.dev.var V.pulse e = 0))

/-- TIME: effects of the tick, steering, holdover, step and SETGO commands where their conditions hold (R81, R82, R83, R85, R87, R88, R89, R103). -/
def Obligations.TimeTicksSteeringAndSteps : Prop :=
  (∀ (s : State), s.dev.get F.PWR_MODE_LADDER 0 < 2 → 0 ≤ s.dev.var V.grove 0 → s.dev.var V.nextTick 0 * 65536 < 2 ^ 80 →
      Answers .msTick s (fun t => t.dev.var V.nextTick 0 = s.dev.var V.nextTick 0 + 1000000 ∧ t.dev.var V.ticks 0 = s.dev.var V.ticks 0 + 1 ∧ (s.dev.var V.freqCorr 0 = 0 → s.dev.var V.slew 0 = 0 → 0 ≤ s.dev.var V.rateAcc 0 → s.dev.var V.rateAcc 0 < 256000000000 → s.dev.var V.slewRem 0 = 0 → 0 ≤ s.dev.var V.slewAcc 0 → s.dev.var V.grove 0 ≤ s.dev.var V.nextTick 0 * 65536 → t.dev.var V.grove 0 = s.dev.var V.nextTick 0 * 65536) ∧ (s.dev.var V.nextTick 0 * 65536 ≤ s.dev.var V.grove 0 → t.dev.var V.grove 0 = s.dev.var V.grove 0))) ∧
  (∀ (s : State), s.dev.get F.PWR_MODE_LADDER 0 < 2 → s.dev.get F.TIME_STEER_CFG_SEN 0 = 1 → s.dev.get F.CLR_HDR_LIVE (s.dev.get F.TIME_STEER_CFG_SLOT.act 0) = 1 → tbit (leAt (s.dev.clrPub (s.dev.get F.TIME_STEER_CFG_SLOT.act 0)) 20 1) 0 = true → s.dev.var V.cmdSeen (s.dev.get F.TIME_STEER_CFG_SLOT.act 0) ≠ (s.dev.get F.CLR_HDR_SEQ (s.dev.get F.TIME_STEER_CFG_SLOT.act 0) : Int) + 1 → |(leAt (s.dev.clrPub (s.dev.get F.TIME_STEER_CFG_SLOT.act 0)) 0 8 : Int) * 65536 - s.dev.var V.grove 0| ≤ 2000000000 * 65536 →
      Answers .steeringRecord s (fun t => t.dev.var V.recAt 0 = s.dev.var V.uptime 0 ∧ t.dev.get F.TIME_OFFSET_OFFS 0 = toBits 32 (clamp (-2147483648) 2147483647 (roundAway (ofBits 64 (leAt (s.dev.clrPub (s.dev.get F.TIME_STEER_CFG_SLOT.act 0)) 8 8)) 65536)))) ∧
  (∀ (s : State), (s.dev.get F.TIME_STATE_ST 0 = 2 ∨ s.dev.get F.TIME_STATE_ST 0 = 3) → s.dev.passed V.recAt 0 ((max (s.dev.get F.TIME_STEER_CFG_HOLD_T.act 0) 100 : Int) * 1000000) = true →
      Answers .holdoverTimeout s (fun t => t.dev.get F.TIME_STATE_ST 0 = 4 ∧ t.dev.var V.slew 0 = 0 ∧ t.dev.var V.slewRem 0 = 0)) ∧
  (∀ (s : State) (a : Acc) (en : Bool), Taken s 0x07 a →
      Answers (.steerEnableWrite a en) s (fun t => t.dev.get F.TIME_STEER_CFG_SEN 0 = bit en ∧ (s.dev.get F.TIME_STEER_CFG_SEN 0 ≠ bit en → s.dev.get F.TIME_STATE_ST 0 = 2 ∨ s.dev.get F.TIME_STATE_ST 0 = 3 → en = false ∨ s.dev.get F.CLR_HDR_WDRN (s.dev.get F.TIME_STEER_CFG_SLOT.act 0) = 1 → t.dev.get F.TIME_STATE_ST 0 = 4))) ∧
  (∀ (s : State), s.dev.get F.TIME_STATE_STEPPEND 0 = 1 → s.dev.var V.stepAt 0 * 65536 ≤ s.dev.var V.grove 0 →
      Answers .timeStep s (fun t => t.dev.get F.TIME_STATE_STEPPEND 0 = 0 ∧ t.dev.get F.TIME_STATE_ST 0 = (if s.dev.get F.TIME_STEER_CFG_SEN 0 = 1 ∧ s.dev.get F.CLR_HDR_WDRN (s.dev.get F.TIME_STEER_CFG_SLOT.act 0) ≠ 1 then 2 else 4) ∧ t.dev.var V.grove 0 = (s.dev.var V.grove 0 - s.dev.var V.stepOffs 0) % 2 ^ 80)) ∧
  (∀ (s : State) (a : Acc), Taken s 0x07 a → s.dev.get F.TIME_STATE_ST 0 = 0 →
      Answers (.timeSetgo a) s (fun t => t.dev.get F.TIME_STATE_ST 0 = 1 ∧ t.dev.var V.grove 0 = (s.dev.get F.TIME_SET_SETV 0 : Int) * 65536 % 2 ^ 80)) ∧
  (∀ (s : State), s.dev.get F.TIME_STATE_ST 0 = 4 → s.dev.var V.holdGood 0 = 1 → 10000 < s.dev.get F.TIME_HOLDERR_ERRB 0 → s.dev.var V.holdRep 0 = 0 →
      Answers .holdoverBoundExceeded s (fun t => t.dev.var V.holdRep 0 = 1 ∧ Reported s t 0x07 1 0x0205))

/-- GNRF: effects of the antenna and sample-link commands where their conditions hold (R108, R109, R110, R112, R113, R114, R137). -/
def Obligations.AntennaBiasAndSampleLinks : Prop :=
  (∀ (s : State) (ix : Fin 3) (ma : BitVec 16) (volt : Bool), s.dev.running 0x10 = true → s.dev.get F.GNRF_ANT_CFG_BIASEN ix = 1 → s.dev.var V.antBias ix ≠ 0 → s.dev.get F.GNRF_ANT_STAT_STATE ix ≠ 7 → openTh (s.dev.get F.GNRF_ANT_CFG_OPEN_TH ix) ≤ ma.toNat → 9 ≤ s.dev.var V.antOk ix →
      Answers (.antMeasure ix ma false volt) s (fun t => t.dev.get F.GNRF_ANT_STAT_STATE ix = 1 ∧ t.dev.get F.GNRF_ANT_STAT_IBIAS ix = min ma.toNat 255 ∧ t.dev.get F.GNRF_ANT_STAT_RETRYCNT ix = 0)) ∧
  (∀ (s : State) (ix : Fin 3) (ma : BitVec 16) (volt : Bool), s.dev.running 0x10 = true → s.dev.get F.GNRF_ANT_CFG_BIASEN ix = 1 → s.dev.var V.antBias ix ≠ 0 → s.dev.get F.GNRF_ANT_STAT_STATE ix ≠ 7 → s.dev.get F.GNRF_ANT_CFG_RETRY ix ≠ 1 →
      Answers (.antMeasure ix ma true volt) s (fun t => t.dev.get F.GNRF_ANT_STAT_STATE ix = 4 ∧ t.dev.var V.antBias ix = 0)) ∧
  (∀ (s : State) (ix : Fin 3), s.dev.get F.GNRF_ANT_STAT_STATE ix = 3 → s.dev.get F.GNRF_ANT_CFG_RETRY ix = 1 → s.dev.var V.antBias ix = 0 → s.dev.passed V.antTripAt ix 1000000000 = true →
      Answers (.antRetry ix) s (fun t => t.dev.var V.antBias ix = 1 ∧ t.dev.var V.antTry ix = 1)) ∧
  (∀ (s : State) (a : Acc) (en : Bool), Taken s 0x10 a → s.dev.chSel 0x10 a < 3 →
      Answers (.antBiasWrite a en) s (fun t => t.dev.on F.GNRF_ANT_CFG_BIASEN (s.dev.chSel 0x10 a) = en ∧ (s.dev.on F.GNRF_ANT_CFG_BIASEN (s.dev.chSel 0x10 a) = false → en = true → t.dev.var V.antBias (s.dev.chSel 0x10 a) = 1) ∧   (s.dev.on F.GNRF_ANT_CFG_BIASEN (s.dev.chSel 0x10 a) = true → en = false → t.dev.var V.antBias (s.dev.chSel 0x10 a) = 0))) ∧
  (∀ (s : State) (c : Fin 3), tbit (s.dev.get F.GNRF_LINK_LOCK 0) c = true →
      Answers (.rfLinkLoss c) s (fun t => tbit (t.dev.get F.GNRF_LINK_LOCK 0) c = false ∧ t.dev.get F.GNRF_ANT_STAT_STATE c = 7 ∧ t.dev.var V.pathValid (3 * c.val) = 0 ∧ t.dev.var V.pathValid (3 * c.val + 1) = 0 ∧ t.dev.var V.pathValid (3 * c.val + 2) = 0 ∧ Reported s t 0x10 1 0x0201)) ∧
  (∀ (s : State) (c : Fin 3), s.dev.running 0x10 = true → tbit (s.dev.get F.GNRF_LINK_LOCK 0) c = false →
      Answers (.rfLinkRelock c) s (fun t => tbit (t.dev.get F.GNRF_LINK_LOCK 0) c = true)) ∧
  (∀ (s : State) (c : Fin 3), tbit (s.dev.get F.GNRF_LINK_LOCK 0) c = true → tbit (s.dev.get F.GNRF_LINK_CALDONE 0) c = false →
      Answers (.rfLinkCalibrated c) s (fun t => tbit (t.dev.get F.GNRF_LINK_CALDONE 0) c = true ∧ t.dev.var V.pathValid (3 * c.val) = 1 ∧ (s.dev.var V.retuneOn c ≠ 1 → t.dev.var V.pathValid (3 * c.val + 1) = 1 ∧ t.dev.var V.pathValid (3 * c.val + 2) = 1))) ∧
  (∀ (s : State) (c : Fin 3), s.dev.var V.retuneOn c = 1 → s.dev.passed V.retuneAt c 200000 = true → tbit (s.dev.get F.GNRF_LINK_CALDONE 0) c = true →
      Answers (.bmodeRetuneEnd c) s (fun t => t.dev.var V.retuneOn c = 0 ∧ t.dev.var V.pathValid (3 * c.val + 1) = 1 ∧ t.dev.var V.pathValid (3 * c.val + 2) = 1))

/-- GNRF: effects of AGC_UPDATE, SPECTRAL_SCAN, NOTCH_ASSIGN, NOTCH_RELEASE and PATH_DISABLE where their conditions hold (R115, R116, R117, R138, R139). -/
def Obligations.AgcSpectrumAndNotches : Prop :=
  (∀ (s : State) (m : List AgcIn) (errs : BitVec 32) (p : Fin 9), s.dev.running 0x10 = true → s.dev.var V.uptime 0 = s.dev.var V.lastTick 0 →
      Answers (.agcUpdate ⟨m, errs⟩) s (fun t => t.dev.get F.GNRF_AGC_STAT_RMS p = min (m.getD p ⟨0, 0⟩).rms 4095 ∧ t.dev.get F.GNRF_AGC_STAT_SATCNT p = min ((m.getD p ⟨0, 0⟩).sat / 1024) 255 ∧   t.dev.get F.GNRF_AGC_STAT_GAIN p = agcGain (s.dev.get F.GNRF_PATH_CFG_AGCMODE.act p) (s.dev.get F.GNRF_AGC_CFG_MANGAIN.act p) (s.dev.get F.GNRF_AGC_STAT_GAIN p) (s.dev.get F.GNRF_AGC_CFG_TARGET.act p) (min (m.getD p ⟨0, 0⟩).rms 4095) % 2 ^ F.GNRF_AGC_STAT_GAIN.width ∧   t.dev.get F.GNRF_LINKERR_CNT 0 = min (s.dev.get F.GNRF_LINKERR_CNT 0 + errs.toNat) (2 ^ F.GNRF_LINKERR_CNT.width - 1))) ∧
  (∀ (s : State) (p : Fin 9) (n : Fin 4) (bins : List Int), s.dev.running 0x10 = true →
      Answers (.spectralScan p bins ()) s (fun t => t.dev.getI F.GNRF_SPEC_STAT_NF p = clamp (-32768) 32767 (median bins) ∧ t.dev.get F.GNRF_SPEC_STAT_PEAKDB p = min (bins.foldl max (median bins) - median bins).toNat 65535 ∧   (s.dev.get F.GNRF_NOTCH_CFG_MODE.act (4 * p.val + n.val) = 2 → s.dev.get F.GNRF_NOTCH_STAT_ACTIVE (4 * p.val + n.val) = 1 → (lineNear bins (s.dev.getI F.GNRF_NOTCH_FNOW_FNOW (4 * p.val + n.val))).all (fun x => t.dev.getI F.GNRF_NOTCH_FNOW_FNOW (4 * p.val + n.val) == binHz x.1) = true))) ∧
  (∀ (s : State) (p : Fin 9) (n : Fin 4) (b : Fin 4096) (nf lv : Int), s.dev.running 0x10 = true → (s.dev.past 10 p)[b.val]? = some (nf, lv) → s.dev.var V.uptime 0 = s.dev.var V.lastTick 0 → s.dev.notchOwned p b = false → s.dev.notchTop p lv = true → s.dev.notchFree p (lv - nf) n = true → (∀ m < n.val, s.dev.notchFree p (lv - nf) m = false) →
      Answers (.notchAssign p b ()) s (fun t => t.dev.get F.GNRF_NOTCH_STAT_ACTIVE (4 * p.val + n.val) = 1 ∧ t.dev.getI F.GNRF_NOTCH_FNOW_FNOW (4 * p.val + n.val) = binHz b.val ∧ 80 ≤ t.dev.get F.GNRF_NOTCH_STAT_ATTEN (4 * p.val + n.val))) ∧
  (∀ (s : State) (p : Fin 9) (n : Fin 4) (b : Fin 4096) (nf lv : Int), s.dev.running 0x10 = true → (s.dev.past 10 p)[b.val]? = some (nf, lv) → s.dev.var V.uptime 0 = s.dev.var V.lastTick 0 → s.dev.notchOwned p b = false → s.dev.notchTop p lv = true → (∀ m < 4, s.dev.notchFree p (lv - nf) m = false) → s.dev.notchWeakest p = some n.val → 5 * (s.dev.get F.GNRF_NOTCH_CFG_DETTH.act (4 * p.val + n.val) : Int) < lv - nf → s.dev.var V.notchLvl (4 * p.val + n.val) + 30 ≤ lv - nf →
      Answers (.notchAssign p b ()) s (fun t => t.dev.get F.GNRF_NOTCH_STAT_ACTIVE (4 * p.val + n.val) = 1 ∧ t.dev.getI F.GNRF_NOTCH_FNOW_FNOW (4 * p.val + n.val) = binHz b.val ∧ t.dev.var V.notchLvl (4 * p.val + n.val) = lv - nf)) ∧
  (∀ (s : State) (p : Fin 9) (n : Fin 4), s.dev.get F.GNRF_NOTCH_CFG_MODE.act (4 * p.val + n.val) = 2 → s.dev.get F.GNRF_NOTCH_STAT_ACTIVE (4 * p.val + n.val) = 1 → s.dev.var V.notchLow (4 * p.val + n.val) = 1 → s.dev.passed V.notchLowAt (4 * p.val + n.val) 100000000 = true →
      Answers (.notchRelease p n) s (fun t => t.dev.get F.GNRF_NOTCH_STAT_ACTIVE (4 * p.val + n.val) = 0 ∧ t.dev.get F.GNRF_NOTCH_STAT_ATTEN (4 * p.val + n.val) = 0)) ∧
  (∀ (s : State) (a : Acc) (p : Fin 9), Taken s 0x10 a →
      Answers (.pathDisable a p) s (fun t => t.dev.get F.GNRF_PATH_CFG_EN p = 0 ∧ t.dev.pathOk p = false))

/-- GNAQ: effects of its commands on lists, captures, searches and entries where their conditions hold (R121, R126, R127, R128, R129, R130, R131, R133, R134, R135). -/
def Obligations.AcquisitionListsAndEntries : Prop :=
  (∀ (s : State) (a : Acc) (j : Fin 128), Taken s 0x11 a → s.dev.chSel 0x11 a < 3 → s.dev.running 0x11 = true → s.dev.get F.GNAQ_ENG_STAT_STATE (s.dev.chSel 0x11 a) = 0 → s.dev.get F.GNAQ_ENG_CTRL_START (s.dev.chSel 0x11 a) ≤ j.val → s.dev.get F.ENT_CFG0_EN (s.dev.chSel 0x11 a * 128 + j.val) = 1 → (∀ i < j.val, s.dev.get F.GNAQ_ENG_CTRL_START (s.dev.chSel 0x11 a) ≤ i → s.dev.get F.ENT_CFG0_EN (s.dev.chSel 0x11 a * 128 + i) ≠ 1) →
      Answers (.acqGo a) s (fun t => t.dev.get F.GNAQ_ENG_STAT_ENTRY (s.dev.chSel 0x11 a) = j.val ∧ t.dev.get F.GNAQ_ENG_STAT_STATE (s.dev.chSel 0x11 a) = 1 ∧ t.dev.get F.GNAQ_ENG_DONE_CNT (s.dev.chSel 0x11 a) = 0)) ∧
  (∀ (s : State) (a : Acc), Taken s 0x11 a → s.dev.chSel 0x11 a < 3 → s.dev.get F.GNAQ_ENG_STAT_STATE (s.dev.chSel 0x11 a) ≠ 0 →
      Answers (.acqAbort a) s (fun t => t.dev.get F.GNAQ_ENG_STAT_STATE (s.dev.chSel 0x11 a) = 0 ∧ t.dev.get F.ENT_RES_STATUS (s.dev.acqEnt (s.dev.chSel 0x11 a)) = 3 ∧ t.dev.var V.heldOk (s.dev.chSel 0x11 a) = 0)) ∧
  (∀ (s : State) (e : Fin 3), s.dev.var V.acqPhase e = 1 → s.dev.acqInvalid e (s.dev.acqEnt e) = true →
      Answers (.acqEntryStart e) s (fun t => t.dev.get F.ENT_RES_STATUS (s.dev.acqEnt e) = 6)) ∧
  (∀ (s : State) (e : Fin 3), s.dev.var V.acqPhase e = 1 → s.dev.acqInvalid e (s.dev.acqEnt e) = false → (s.dev.get F.ENT_CFG0_REUSE (s.dev.acqEnt e) = 0 ∨ s.dev.acqReuse e (s.dev.acqEnt e) = false) →
      Answers (.acqEntryStart e) s (fun t => t.dev.get F.ENT_RES_STATUS (s.dev.acqEnt e) = 7 ∧ t.dev.get F.GNAQ_ENG_STAT_STATE e = 1 ∧ t.dev.var V.acqPhase e = 2)) ∧
  (∀ (s : State) (e : Fin 3), s.dev.var V.acqPhase e = 1 → s.dev.acqInvalid e (s.dev.acqEnt e) = false → s.dev.get F.ENT_CFG0_REUSE (s.dev.acqEnt e) = 1 → s.dev.acqReuse e (s.dev.acqEnt e) = true →
      Answers (.acqEntryStart e) s (fun t => t.dev.get F.ENT_RES_STATUS (s.dev.acqEnt e) = 7 ∧ t.dev.get F.GNAQ_ENG_STAT_STATE e = 2 ∧ t.dev.var V.acqPhase e = 4)) ∧
  (∀ (s : State) (e : Fin 3), s.dev.var V.acqPhase e = 2 → s.dev.var V.uptime 0 = s.dev.var V.lastTick 0 → s.dev.pathOk (s.dev.acqPath (s.dev.acqEnt e)) = true →
      Answers (.acqCaptureStart e) s (fun t => t.dev.var V.acqPhase e = 3 ∧ t.dev.var V.heldOk e = 0 ∧ t.dev.var V.acqT0 e = s.dev.now / 1000000)) ∧
  (∀ (s : State) (e : Fin 3), s.dev.var V.acqPhase e = 2 → s.dev.var V.uptime 0 = s.dev.var V.lastTick 0 → s.dev.pathOk (s.dev.acqPath (s.dev.acqEnt e)) = false →
      Answers (.acqCaptureStart e) s (fun t => t.dev.get F.ENT_RES_STATUS (s.dev.acqEnt e) = 4 ∧ t.dev.var V.heldOk e = 0)) ∧
  (∀ (s : State) (e : Fin 3) (l : List Byte), s.dev.var V.acqPhase e = 3 → s.dev.passed V.acqCapAt e (s.dev.acqMs (s.dev.acqEnt e) * 1000000) = true → (State.devWrite { s with dev := s.dev.acqSat e } (0x0110 + e.val) (s.dev.get F.GNAQ_ENG_SNAP_BASE.act e / 4096 * 4096) (padTo (s.dev.acqBytes e) (l.map (·.toNat)))).2 = none →
      Answers (.acqCaptureEnd e l) s (fun t => t.dev.get F.GNAQ_ENG_STAT_STATE e = 2 ∧ t.dev.var V.acqPhase e = 4 ∧ t.dev.var V.heldOk e = 1 ∧ t.mem = (State.devWrite { s with dev := s.dev.acqSat e } (0x0110 + e.val) (s.dev.get F.GNAQ_ENG_SNAP_BASE.act e / 4096 * 4096) (padTo (s.dev.acqBytes e) (l.map (·.toNat)))).1.mem)) ∧
  (∀ (s : State) (e : Fin 3), s.dev.var V.acqPhase e = 4 → s.dev.passed V.acqStepAt e (s.dev.acqStepNs e) = true → (s.devRead (0x0110 + e.val) (s.dev.get F.GNAQ_ENG_SNAP_BASE.act e / 4096 * 4096) (s.dev.acqBytes e)).2.toOption = none →
      Answers (.acqBinStep e () ()) s (fun t => t.dev.get F.ENT_RES_STATUS (s.dev.acqEnt e) = 5)) ∧
  (∀ (s : State) (e : Fin 3) (l : List Nat), s.dev.var V.acqPhase e = 4 → s.dev.passed V.acqStepAt e (s.dev.acqStepNs e) = true → (s.devRead (0x0110 + e.val) (s.dev.get F.GNAQ_ENG_SNAP_BASE.act e / 4096 * 4096) (s.dev.acqBytes e)).2.toOption = some l → s.dev.get F.GNAQ_ENG_CFG_EARLY.act e ≠ 1 →
      Answers (.acqBinStep e () ()) s (fun t => t.dev.past 8 e = (if s.dev.get F.GNAQ_ENG_STAT_BIN e = 0 ∧ s.dev.get F.GNAQ_ENG_STAT_WIN e = 0 then [] else s.dev.past 8 e) ++ s.dev.acqCells e l ∧ (if s.dev.get F.GNAQ_ENG_STAT_BIN e + 1 < s.dev.get F.ENT_DOP_NBIN (s.dev.acqEnt e) then t.dev.get F.GNAQ_ENG_STAT_BIN e = (s.dev.get F.GNAQ_ENG_STAT_BIN e + 1) % 2 ^ F.GNAQ_ENG_STAT_BIN.width ∧ t.dev.get F.GNAQ_ENG_STAT_WIN e = s.dev.get F.GNAQ_ENG_STAT_WIN e else if s.dev.get F.GNAQ_ENG_STAT_WIN e + 1 < s.dev.acqWins e then t.dev.get F.GNAQ_ENG_STAT_BIN e = 0 ∧ t.dev.get F.GNAQ_ENG_STAT_WIN e = (s.dev.get F.GNAQ_ENG_STAT_WIN e + 1) % 2 ^ F.GNAQ_ENG_STAT_WIN.width else t.dev.var V.acqPhase e = 5))) ∧
  (∀ (s : State) (e : Fin 3) (l : List Nat), s.dev.var V.acqPhase e = 4 → s.dev.passed V.acqStepAt e (s.dev.acqStepNs e) = true → (s.devRead (0x0110 + e.val) (s.dev.get F.GNAQ_ENG_SNAP_BASE.act e / 4096 * 4096) (s.dev.acqBytes e)).2.toOption = some l → s.dev.get F.GNAQ_ENG_CFG_EARLY.act e = 1 →
      Answers (.acqBinStep e () ()) s (fun t => if s.dev.get F.GNAQ_ENG_CFG_DETTH.act e ≤ (((s.dev.acqSig e).bind (fun g => g.peak (bestCell (s.dev.acqCells e l)) (s.dev.acqCells e l))).getD (s.devRead (0x0110 + e.val) (s.dev.get F.GNAQ_ENG_SNAP_BASE.act e / 4096 * 4096) (s.dev.acqBytes e)).1.dev.freeVal) then t.dev.get F.ENT_RES_STATUS (s.dev.acqEnt e) = 2 else (if s.dev.get F.GNAQ_ENG_STAT_BIN e + 1 < s.dev.get F.ENT_DOP_NBIN (s.dev.acqEnt e) then t.dev.get F.GNAQ_ENG_STAT_BIN e = (s.dev.get F.GNAQ_ENG_STAT_BIN e + 1) % 2 ^ F.GNAQ_ENG_STAT_BIN.width ∧ t.dev.get F.GNAQ_ENG_STAT_WIN e = s.dev.get F.GNAQ_ENG_STAT_WIN e else if s.dev.get F.GNAQ_ENG_STAT_WIN e + 1 < s.dev.acqWins e then t.dev.get F.GNAQ_ENG_STAT_BIN e = 0 ∧ t.dev.get F.GNAQ_ENG_STAT_WIN e = (s.dev.get F.GNAQ_ENG_STAT_WIN e + 1) % 2 ^ F.GNAQ_ENG_STAT_WIN.width else t.dev.var V.acqPhase e = 5))) ∧
  (∀ (s : State) (e : Fin 3), s.dev.var V.acqPhase e = 5 →
      Answers (.acqEntryEnd e ()) s (fun t => t.dev.get F.ENT_RES_STATUS (s.dev.acqEnt e) = 1 ∧ t.dev.get F.ENT_PEAK_PEAK (s.dev.acqEnt e) = (s.dev.acqResult e).peak % 2 ^ F.ENT_PEAK_PEAK.width ∧ t.dev.get F.ENT_RES_RATIO (s.dev.acqEnt e) = (s.dev.acqResult e).ratio % 2 ^ F.ENT_RES_RATIO.width ∧ t.dev.get F.ENT_CPH_CPH (s.dev.acqEnt e) = (s.dev.acqResult e).cph % 2 ^ F.ENT_CPH_CPH.width ∧ t.dev.get F.ENT_CPH_BIN (s.dev.acqEnt e) = (s.dev.acqResult e).bin % 2 ^ F.ENT_CPH_BIN.width)) ∧
  (∀ (s : State) (a : Acc) (e : Fin 3) (ix : Fin 128) (v : BitVec 32), Taken s 0x11 a → (s.dev.get F.GNAQ_ENG_STAT_STATE e = 0 ∨ s.dev.get F.GNAQ_ENG_STAT_ENTRY e ≠ ix.val) →
      Answers (.acqEntryWrite a e ix 0 v) s (fun t => t.dev.get F.ENT_CFG0_EN (e.val * 128 + ix.val) = v.toNat / 2 ^ 31 ∧ t.dev.get F.ENT_CFG0_SIG (e.val * 128 + ix.val) = v.toNat % 256 ∧ t.dev.get F.ENT_RES_STATUS (e.val * 128 + ix.val) = 0 ∧ t.dev.get F.ENT_RES_FLAGS (e.val * 128 + ix.val) = 0))

/-- GNTK: effects of the channel commands where their conditions hold (R148, R150, R151, R152, R154, R155, R187). -/
def Obligations.TrackingChannelStates : Prop :=
  (∀ (s : State) (a : Acc), Taken s 0x12 a → s.dev.chSel 0x12 a < 600 → s.dev.get F.GNTK_CH_CFG_EN (s.dev.chSel 0x12 a) ≠ 1 → s.dev.var V.grove 0 - s.dev.initAt (s.dev.chSel 0x12 a) ≤ 65536000000000 → s.dev.trkBad (s.dev.chSel 0x12 a) = false →
      Answers (.trackStart a) s (fun t => t.dev.get F.GNTK_CH_CFG_EN (s.dev.chSel 0x12 a) = 1 ∧ t.dev.get F.GNTK_CH_STAT_STATE (s.dev.chSel 0x12 a) = (if s.dev.pathOk (s.dev.trkPath (s.dev.chSel 0x12 a)) = true then 1 else 4) ∧ t.dev.get F.GNTK_CH_SLIPS_CNT (s.dev.chSel 0x12 a) = 0)) ∧
  (∀ (s : State) (a : Acc), Taken s 0x12 a → s.dev.chSel 0x12 a < 600 → s.dev.get F.GNTK_CH_CFG_EN (s.dev.chSel 0x12 a) ≠ 1 → s.dev.var V.grove 0 - s.dev.initAt (s.dev.chSel 0x12 a) ≤ 65536000000000 → s.dev.trkBad (s.dev.chSel 0x12 a) = true →
      Answers (.trackStart a) s (fun t => t.dev.get F.GNTK_CH_STAT_STATE (s.dev.chSel 0x12 a) = 5 ∧ t.dev.get F.GNTK_CH_STAT_LCAUSE (s.dev.chSel 0x12 a) = 2)) ∧
  (∀ (s : State) (a : Acc), Taken s 0x12 a → s.dev.chSel 0x12 a < 600 → s.dev.get F.GNTK_CH_CFG_EN (s.dev.chSel 0x12 a) ≠ 1 → 65536000000000 < s.dev.var V.grove 0 - s.dev.initAt (s.dev.chSel 0x12 a) →
      Answers (.trackStart a) s (fun t => t.dev.get F.GNTK_CH_STAT_STATE (s.dev.chSel 0x12 a) = 5 ∧ t.dev.get F.GNTK_CH_STAT_LCAUSE (s.dev.chSel 0x12 a) = 1)) ∧
  (∀ (s : State) (a : Acc), Taken s 0x12 a → s.dev.chSel 0x12 a < 600 →
      Answers (.trackStop a) s (fun t => t.dev.get F.GNTK_CH_CFG_EN (s.dev.chSel 0x12 a) = 0 ∧ t.dev.get F.GNTK_CH_STAT_STATE (s.dev.chSel 0x12 a) = (if s.dev.get F.GNTK_CH_CFG_EN (s.dev.chSel 0x12 a) = 1 then 0 else s.dev.get F.GNTK_CH_STAT_STATE (s.dev.chSel 0x12 a)))) ∧
  (∀ (s : State) (c : Fin 600) (o : TrkIn), s.dev.running 0x12 = true → s.dev.get F.GNTK_CH_STAT_STATE c ≠ 0 → s.dev.get F.GNTK_CH_STAT_STATE c ≠ 5 → s.dev.trkBlock c (s.dev.var V.intC c) < s.dev.trkBlock c (s.dev.codeAt c (s.dev.var V.uptime 0)) →
      Answers (.trackIntegration c o) s (fun t => t.dev.get F.GNTK_CH_STAT_CN0 c = min (Config.cn0 (((s.dev.powers 11 c (o.tap 0)).map (·.2)).foldl (· + ·) 0) (((s.dev.powers 12 c o.nt).map (·.2)).foldl (· + ·) 0)) 1023 ∧   (s.dev.get F.GNTK_CH_STAT_STATE c ≠ 4 → t.dev.get F.GNTK_CH_STAT_PLI c = min (Config.pli (s.dev.trkData c) (o.tap 0)) 1023 ∧ t.dev.var V.codeU c = s.dev.var V.uptime 0 ∧ t.dev.var V.carrU c = s.dev.var V.uptime 0) ∧   (s.dev.get F.GNTK_CH_STAT_STATE c = 1 → t.dev.var V.dopV c = s.dev.var V.dopV c + Config.loopOut 1 (s.dev.get F.GNTK_CH_LOOP_FLLORD.act c + 1) (max 1 (s.dev.get F.GNTK_CH_BW_FLLBW.act c)) (s.dev.trkLen c) (o.h1.1 * o.h2.2 - o.h1.2 * o.h2.1) (o.h1.1 * o.h2.1 + o.h1.2 * o.h2.2) (s.dev.var V.fllMem c)))) ∧
  (∀ (s : State) (c : Fin 600) (cerr derr : Int), s.dev.get F.GNTK_CH_STAT_STATE c = 1 → s.dev.passed V.pullAt c 100000000 = true → |cerr| ≤ s.dev.chipLen c → |derr| ≤ 500000 → s.dev.get F.GNTK_CH_THR_LOSSTH.act c * 10 ≤ s.dev.get F.GNTK_CH_STAT_CN0 c →
      Answers (.pullinDone ⟨c, cerr, derr⟩) s (fun t => t.dev.get F.GNTK_CH_STAT_STATE c = 2)) ∧
  (∀ (s : State) (c : Fin 600), s.dev.get F.GNTK_CH_STAT_STATE c = 1 → s.dev.passed V.pullAt c 2000000000 = true →
      Answers (.pullinTimeout c) s (fun t => t.dev.get F.GNTK_CH_STAT_STATE c = 5 ∧ t.dev.get F.GNTK_CH_STAT_LCAUSE c = 3)) ∧
  (∀ (s : State) (c : Fin 600), s.dev.get F.GNTK_CH_STAT_STATE c = 2 → s.dev.runFor V.pliHi c 100 = true →
      Answers (.phaseLock c) s (fun t => t.dev.get F.GNTK_CH_STAT_STATE c = 3 ∧ t.dev.var V.lockAt c = s.dev.var V.uptime 0)) ∧
  (∀ (s : State) (c : Fin 600), s.dev.get F.GNTK_CH_STAT_STATE c = 3 → s.dev.runFor V.pliLo c 20 = true →
      Answers (.lockLoss c) s (fun t => t.dev.get F.GNTK_CH_STAT_STATE c = 2 ∧ t.dev.get F.GNTK_CH_SLIPS_CNT c = min (s.dev.get F.GNTK_CH_SLIPS_CNT c + 1) (2 ^ F.GNTK_CH_SLIPS_CNT.width - 1))) ∧
  (∀ (s : State) (c : Fin 600), 1 ≤ s.dev.get F.GNTK_CH_STAT_STATE c → s.dev.get F.GNTK_CH_STAT_STATE c ≤ 3 → s.dev.runFor V.cnLo c 200 = true →
      Answers (.coastEntry c) s (fun t => t.dev.get F.GNTK_CH_STAT_STATE c = 4 ∧ t.dev.get F.GNTK_CH_STAT_AMB c = 0)) ∧
  (∀ (s : State) (c : Fin 600), s.dev.get F.GNTK_CH_STAT_STATE c = 4 → s.dev.runFor V.cnHi c 20 = true → s.dev.pathOk (s.dev.trkPath c) = true →
      Answers (.coastRecover c) s (fun t => t.dev.get F.GNTK_CH_STAT_STATE c = 1 ∧ t.dev.var V.hca c = 1)) ∧
  (∀ (s : State) (c : Fin 600), s.dev.get F.GNTK_CH_STAT_STATE c = 4 → s.dev.passed V.coastAt c ((min (s.dev.get F.GNTK_CH_THR_COAST_T.act c) 100 : Nat) * 100000000) = true →
      Answers (.coastEnd c) s (fun t => t.dev.get F.GNTK_CH_STAT_STATE c = 5 ∧ t.dev.get F.GNTK_CH_STAT_LCAUSE c = 4))

/-- GNTK: effects of the epoch, record, symbol and TOW commands where their conditions hold (R155, R156, R157, R158, R159, R160, R161, R166, R167). -/
def Obligations.TrackingEpochsAndRecords : Prop :=
  (∀ (s : State) (a : Acc) (inv : Bool), Taken s 0x12 a → s.dev.chSel 0x12 a < 600 → s.dev.trkData (s.dev.chSel 0x12 a) = true →
      Answers (.halfCycleResolve a true inv) s (fun t => t.dev.var V.hca (s.dev.chSel 0x12 a) = 0 ∧ t.dev.var V.halfAdd (s.dev.chSel 0x12 a) = s.dev.var V.halfAdd (s.dev.chSel 0x12 a) + ((bit inv : Nat) : Int))) ∧
  (∀ (s : State) (a : Acc) (ms seq : BitVec 16), Taken s 0x12 a → s.dev.chSel 0x12 a < 600 → s.dev.epochAge seq.toNat ≤ 16 →
      Answers (.towWrite a ms seq) s (fun t => t.dev.var V.towMs (s.dev.chSel 0x12 a) = ms.toNat ∧ t.dev.var V.towSeq (s.dev.chSel 0x12 a) = seq.toNat)) ∧
  (∀ (s : State), s.dev.running 0x12 = true → 0 ≤ s.dev.var V.nextEpoch 0 → s.dev.var V.nextEpoch 0 * 65536 ≤ s.dev.var V.grove 0 →
      Answers .epochLatch s (fun t => t.dev.get F.GNTK_EPSEQ_SEQ 0 = (s.dev.get F.GNTK_EPSEQ_SEQ 0 + 1) % 2 ^ F.GNTK_EPSEQ_SEQ.width ∧ t.dev.var V.epochPend 0 = 1 ∧ t.dev.var V.epochInst 0 = s.dev.var V.nextEpoch 0 ∧ t.dev.var V.nextEpoch 0 = s.dev.var V.nextEpoch 0 + (max 1 (s.dev.get F.GNTK_EPOCH_CFG_EPER.act 0) : Nat) * 1000000)) ∧
  (∀ (s : State), s.dev.var V.epochPend 0 ≠ 0 → 2 ≤ s.dev.get F.GNTK_RING_CFG_NEP.act 0 → (s.dev.get F.GNTK_RING_WR_WR 0 + 1) % s.dev.get F.GNTK_RING_CFG_NEP.act 0 ≠ s.dev.get F.GNTK_RING_RD_RD 0 → (State.devWrite { s with dev := s.dev.setVar V.epochPend 0 0 } 0x0120 (s.dev.get F.GNTK_RING_BASE.act 0 / 4096 * 4096 + 20480 * s.dev.get F.GNTK_RING_WR_WR 0) (s.dev.blob 50 0 ++ s.dev.blob 51 0)).2 = none →
      Answers .epochRecorded s (fun t => t.dev.get F.GNTK_RING_WR_WR 0 = (s.dev.get F.GNTK_RING_WR_WR 0 + 1) % s.dev.get F.GNTK_RING_CFG_NEP.act 0 % 2 ^ F.GNTK_RING_WR_WR.width ∧ t.dev.var V.epochPend 0 = 0 ∧ t.mem = (State.devWrite { s with dev := s.dev.setVar V.epochPend 0 0 } 0x0120 (s.dev.get F.GNTK_RING_BASE.act 0 / 4096 * 4096 + 20480 * s.dev.get F.GNTK_RING_WR_WR 0) (s.dev.blob 50 0 ++ s.dev.blob 51 0)).1.mem)) ∧
  (∀ (s : State) (c : Fin 600) (l : List (Int × Int)), s.dev.navReady c = some l → (s.dev.get F.GNTK_NAV_WR_IDX 0 % (256 * 2 ^ min (s.dev.get F.GNTK_NAV_CFG_SIZE.act 0) 8) + 1) % (256 * 2 ^ min (s.dev.get F.GNTK_NAV_CFG_SIZE.act 0) 8) ≠ s.dev.get F.GNTK_NAV_RD_IDX 0 % (256 * 2 ^ min (s.dev.get F.GNTK_NAV_CFG_SIZE.act 0) 8) → (State.devWrite ({ s with dev := ((s.dev.setVar V.slipNav c 0).setPast 9 c ((s.dev.past 9 c).drop l.length)).when ((s.dev.past 9 c).drop l.length).isEmpty (fun a => a.setVar V.navDue c 0) } : State) 0x0120 (s.dev.get F.GNTK_NAV_BASE.act 0 / 4096 * 4096 + 16 * (s.dev.get F.GNTK_NAV_WR_IDX 0 % (256 * 2 ^ min (s.dev.get F.GNTK_NAV_CFG_SIZE.act 0) 8))) (s.dev.navBytes c l)).2 = none →
      Answers (.navRecord c () () ()) s (fun t => t.dev.get F.GNTK_NAV_WR_IDX 0 = (s.dev.get F.GNTK_NAV_WR_IDX 0 % (256 * 2 ^ min (s.dev.get F.GNTK_NAV_CFG_SIZE.act 0) 8) + 1) % (256 * 2 ^ min (s.dev.get F.GNTK_NAV_CFG_SIZE.act 0) 8) % 2 ^ F.GNTK_NAV_WR_IDX.width ∧ t.dev.var V.slipNav c = 0 ∧ t.dev.past 9 c = (s.dev.past 9 c).drop l.length ∧ t.mem = (State.devWrite ({ s with dev := ((s.dev.setVar V.slipNav c 0).setPast 9 c ((s.dev.past 9 c).drop l.length)).when ((s.dev.past 9 c).drop l.length).isEmpty (fun a => a.setVar V.navDue c 0) } : State) 0x0120 (s.dev.get F.GNTK_NAV_BASE.act 0 / 4096 * 4096 + 16 * (s.dev.get F.GNTK_NAV_WR_IDX 0 % (256 * 2 ^ min (s.dev.get F.GNTK_NAV_CFG_SIZE.act 0) 8))) (s.dev.navBytes c l)).1.mem))

/-- GNTK and GNTP: effects of the jamming, guard and time-pulse commands where their conditions hold (R172, R174, R175, R176, R180, R181, R183, R185). -/
def Obligations.JammingGuardAndTimePulse : Prop :=
  (∀ (s : State) (p : Fin 9), s.dev.running 0x12 = true → (5 * s.dev.get F.GNTK_JAM_CFG_JAM_NF 0 : Int) < ofBits 16 (s.dev.get F.GNRF_SPEC_STAT_NF p) - ofBits 16 (s.dev.get F.GNTK_JAM_REF_NFREF p) →
      Answers .jamCheck s (fun t => t.dev.var V.jamOne p = s.dev.var V.jamOne p + 1 ∧ t.dev.var V.jamNone p = 0)) ∧
  (∀ (s : State) (a : Acc), Taken s 0x12 a →
      Answers (.jamLearn a) s (fun t => t.dev.var V.learnOn 0 = 1 ∧ t.dev.var V.learnN 0 = 0 ∧ t.dev.var V.learnAt 0 = s.dev.var V.uptime 0)) ∧
  (∀ (s : State) (p : Fin 9), s.dev.var V.learnOn 0 = 1 → s.dev.passed V.learnAt 0 10000000000 = true → 0 < s.dev.var V.learnN 0 →
      Answers .jamLearnDone s (fun t => t.dev.var V.learnOn 0 = 0 ∧ t.dev.get F.GNTK_JAM_REF_NFREF p = toBits 16 (roundAway (s.dev.var V.learnNf p) (s.dev.var V.learnN 0).toNat))) ∧
  (∀ (s : State) (a : Acc) (seq spd : BitVec 16), Taken s 0x12 a →
      Answers (.pvtSpeedWrite a seq spd) s (fun t => t.dev.var V.pvtSpd 0 = spd.toNat ∧ t.dev.var V.pvtSeq 0 = seq.toNat)) ∧
  (∀ (s : State) (a : Acc) (sg valid : Bool) (rate : BitVec 16) (k : Fin 8), Taken s 0x12 a → 0 ≤ s.dev.var V.pvtSeq 0 → 0 ≤ s.dev.var V.egoSeq k → s.dev.var V.egoSeq k % 65536 = s.dev.var V.pvtSeq 0 → (∀ i < k.val, s.dev.var V.egoSeq i < 0 ∨ s.dev.var V.egoSeq i % 65536 ≠ s.dev.var V.pvtSeq 0) →
      Answers (.pvtSubmit a sg valid rate) s (fun t => t.dev.var V.pvtLast 0 = s.dev.var V.egoSeq k ∧ t.dev.var V.pvtSeq 0 = -1 ∧ (valid = true → t.dev.var V.pvtOkLast 0 = max (s.dev.var V.pvtOkLast 0) (s.dev.var V.egoSeq k)) ∧ t.dev.var V.pvtOkSg 0 = bit (valid && sg))) ∧
  (∀ (s : State) (a : Acc), Taken s 0x12 a → s.dev.guardOk = true →
      Answers (.guardRearm a) s (fun t => t.dev.var V.rearmed 0 = 1 ∧ t.dev.get F.GNTK_GUARD_STAT_SGV 0 = 1)) ∧
  (∀ (s : State), s.dev.running 0x13 = true → 0 ≤ s.dev.var V.nextPulse 0 → s.dev.var V.nextPulse 0 * 65536 - s.dev.pulseAdv ≤ s.dev.var V.grove 0 →
      Answers .timePulse s (fun t => t.dev.get F.GNTP_LAST_INST 0 = (s.dev.var V.nextPulse 0).toNat % 2 ^ 64 ∧ t.dev.var V.nextPulse 0 = s.dev.var V.nextPulse 0 + (max 1 (s.dev.get F.GNTP_PERIOD_PERIOD.act 0) : Nat) ∧ t.dev.get F.GNTP_PSTAT_GATED 0 = bit s.dev.pulseGated ∧ (s.dev.pulseGated = false → t.dev.var V.tpulse 0 = 1))) ∧
  (∀ (s : State), s.dev.var V.tpulse 0 = 1 → s.dev.var V.tpulseEnd 0 ≤ s.dev.var V.uptime 0 →
      Answers .timePulseEnd s (fun t => t.dev.var V.tpulse 0 = 0))

/-- CNPY: effects of the sensor, check and bank commands where their conditions hold (R196, R197, R198, R199, R218, R226). -/
def Obligations.SensorsChecksAndBanks : Prop :=
  (∀ (s : State) (a : Acc) (buf : BitVec 8), Taken s 0x18 a → (s.dev.chSel 0x18 a = 6 ∨ s.dev.chSel 0x18 a = 7) → s.dev.running 0x18 = true → s.dev.get F.CNPY_SEN_CFG_EN (s.dev.chSel 0x18 a) = 1 → 2 ≤ s.dev.get F.CNPY_SEN_RING_NBUF.act (s.dev.chSel 0x18 a) → s.dev.get F.IOMU_DDTP_V 0 % 16 = 1 → (∀ k < 32, inDram (s.dev.bufAt (s.dev.chSel 0x18 a) buf.toNat + k) = true ∧ s.dev.poisoned (s.dev.bufAt (s.dev.chSel 0x18 a) buf.toNat + k) = false) → ofLe (memRead s.mem (s.dev.bufAt (s.dev.chSel 0x18 a) buf.toNat + 16) 4) ≤ 300000 → 32 + 16 * ofLe (memRead s.mem (s.dev.bufAt (s.dev.chSel 0x18 a) buf.toNat + 16) 4) ≤ s.dev.get F.CNPY_SEN_RING_BUFSZ.act (s.dev.chSel 0x18 a) * 65536 →
      Answers (.lidarPost a buf) s (fun t => t.dev.var V.senPost (s.dev.chSel 0x18 a) = s.dev.var V.uptime 0 ∧ (t.dev.frames.find (0, 256 * s.dev.chSel 0x18 a + buf.toNat)).map (·.stamp) = some (ofLe (memRead s.mem (s.dev.bufAt (s.dev.chSel 0x18 a) buf.toNat) 8)))) ∧
  (∀ (s : State) (ix : Fin 8), s.dev.running 0x18 = true → 1 ≤ s.dev.get F.CNPY_SEN_STAT_STATE ix → s.dev.get F.CNPY_SEN_STAT_STATE ix ≤ 3 → s.dev.passed V.senPost ix (3 * s.dev.senPer ix) = true →
      Answers (.sensorSilent ix) s (fun t => t.dev.get F.CNPY_SEN_STAT_STATE ix = 4 ∧ t.dev.get F.CNPY_SEN_STAT_CAUSE ix = 2 ∧ Reported s t 0x18 1 0x0205)) ∧
  (∀ (s : State) (a : Acc) (en : Bool), Taken s 0x18 a → s.dev.chSel 0x18 a < 8 →
      Answers (.sensorEnWrite a en) s (fun t => t.dev.get F.CNPY_SEN_CFG_EN (s.dev.chSel 0x18 a) = bit en ∧ (en = false → t.dev.get F.CNPY_SEN_STAT_STATE (s.dev.chSel 0x18 a) = 0 ∧ ∀ h ∈ t.dev.hands, h.sen ≠ s.dev.chSel 0x18 a))) ∧
  (∀ (s : State) (a : Acc), Taken s 0x18 a → s.dev.chSel 0x18 a < 8 → s.dev.get F.CNPY_SEN_STAT_STATE (s.dev.chSel 0x18 a) = 5 →
      Answers (.sensorRecheck a) s (fun t => t.dev.get F.CNPY_SEN_STAT_STATE (s.dev.chSel 0x18 a) = 2)) ∧
  (∀ (s : State) (ix : Fin 8), s.dev.get F.CNPY_SEN_STAT_STATE ix = 2 → s.dev.var V.chkOn ix = 1 →
      Answers (.calibrationCheckDone ix () ()) s (fun t => t.dev.get F.CNPY_SEN_CHK_OVL ix = ((checkOf s ix).1.dev.projOvl (checkOf s ix).2) ∧ t.dev.get F.CNPY_SEN_STAT_STATE ix = (if ((checkOf s ix).1.dev.projOvl (checkOf s ix).2) < 10000 then 5 else if ((checkOf s ix).1.dev.projScore (checkOf s ix).2) < s.dev.var V.chkThV ix then 5 else 3) ∧   (((checkOf s ix).1.dev.projOvl (checkOf s ix).2) < 10000 → t.dev.get F.CNPY_SEN_STAT_CAUSE ix = 4) ∧ (10000 ≤ ((checkOf s ix).1.dev.projOvl (checkOf s ix).2) → ((checkOf s ix).1.dev.projScore (checkOf s ix).2) < s.dev.var V.chkThV ix → t.dev.get F.CNPY_SEN_STAT_CAUSE ix = 3))) ∧
  (∀ (s : State) (ix : Fin 8), s.dev.get F.CNPY_SEN_STAT_STATE ix = 2 → s.dev.var V.chkOn ix ≠ 1 → 100 ≤ s.dev.var V.chkBins ix →
      Answers (.checkNoref ix) s (fun t => t.dev.get F.CNPY_SEN_STAT_STATE ix = 5 ∧ t.dev.get F.CNPY_SEN_STAT_CAUSE ix = 5)) ∧
  (∀ (s : State) (a : Acc) (mask : BitVec 8) (i : Fin 8), Taken s 0x18 a →
      Answers (.bankSwapRequest a mask) s (fun t => (tbit mask.toNat i = true → t.dev.get F.CNPY_SEN_BANK_PEND i = 1) ∧ (tbit mask.toNat i = false → t.dev.get F.CNPY_SEN_BANK_PEND i = s.dev.get F.CNPY_SEN_BANK_PEND i)))

/-- CNPY: effects of the grid, residual and projection commands where their conditions hold (R209, R214, R216, R219, R220, R221, R227, R228). -/
def Obligations.FusedGridAndProjection : Prop :=
  (∀ (s : State), s.dev.running 0x18 = true → 0 ≤ s.dev.var V.nextTk 0 → s.dev.var V.nextTk 0 * 65536 ≤ s.dev.var V.grove 0 → s.dev.get F.COM_CTRL_MODE 0x18 ≠ 1 → s.dev.get F.CNPY_GSEQ_SEQ 0 % 2 = 0 →
      Answers (.gridUpdate ()) s (fun t => t.dev.get F.CNPY_GSEQ_SEQ 0 = (s.dev.get F.CNPY_GSEQ_SEQ 0 + 1) % 2 ^ F.CNPY_GSEQ_SEQ.width ∧ t.dev.var V.gridTk 0 = s.dev.var V.nextTk 0 ∧ t.dev.var V.nextTk 0 = s.dev.var V.nextTk 0 + s.dev.gper ∧ t.dev.var V.gridNew 0 = 0)) ∧
  (∀ (s : State), s.dev.running 0x18 = true → 0 ≤ s.dev.var V.nextTk 0 → s.dev.var V.nextTk 0 * 65536 ≤ s.dev.var V.grove 0 → s.dev.get F.COM_CTRL_MODE 0x18 ≠ 1 → s.dev.get F.CNPY_GSEQ_SEQ 0 % 2 = 1 →
      Answers (.gridUpdate ()) s (fun t => t.dev.get F.CNPY_GSEQ_SEQ 0 = s.dev.get F.CNPY_GSEQ_SEQ 0 ∧ t.dev.var V.nextTk 0 = s.dev.var V.nextTk 0 + s.dev.gper ∧ t.dev.get F.CNPY_UPDSTAT_OVR 0 = min (s.dev.get F.CNPY_UPDSTAT_OVR 0 + 1) (2 ^ F.CNPY_UPDSTAT_OVR.width - 1))) ∧
  (∀ (s : State), s.dev.running 0x18 = true → 0 ≤ s.dev.var V.nextTk 0 → s.dev.var V.nextTk 0 * 65536 ≤ s.dev.var V.grove 0 → s.dev.get F.COM_CTRL_MODE 0x18 = 1 →
      Answers (.gridUpdate ()) s (fun t => t.dev.get F.CNPY_GSEQ_SEQ 0 = s.dev.get F.CNPY_GSEQ_SEQ 0 ∧ t.dev.var V.nextTk 0 = s.dev.var V.nextTk 0 + s.dev.gper ∧ t.mem = s.mem)) ∧
  (∀ (s : State), s.dev.get F.CNPY_GSEQ_SEQ 0 % 2 = 1 →
      Answers .gridUpdateDone s (fun t => t.dev.get F.CNPY_GSEQ_SEQ 0 = (s.dev.get F.CNPY_GSEQ_SEQ 0 + 1) % 2 ^ F.CNPY_GSEQ_SEQ.width ∧ t.dev.var V.gridNew 0 = 1 ∧ (s.dev.var V.hdrStop 0 ≠ 1 → t.dev.get F.CNPY_ORG_ORGX 0 = (s.dev.var V.gridOx 0).toNat % 2 ^ F.CNPY_ORG_ORGX.width))) ∧
  (∀ (s : State) (ix : Fin 8), s.dev.running 0x18 = true → s.dev.get F.CNPY_RES_CFG_EN.act 0 = 1 → ((max 1 (s.dev.get F.CNPY_RES_CFG_NACC.act 0) : Nat) : Int) ≤ s.dev.var V.resBins ix →
      Answers (.residualRecord ix ()) s (fun t => t.dev.get F.CRES_SEQ_V ix = (s.dev.get F.CRES_SEQ_V ix + 1) % 2 ^ F.CRES_SEQ_V.width ∧ t.dev.var V.resBins ix = 0 ∧ t.dev.get F.CRES_DX_V ix = toBits 32 (Config.residual (s.dev.past 20 ix) 3) ∧ t.dev.get F.CRES_DYAW_V ix = toBits 32 (Config.residual (s.dev.past 20 ix) 2))) ∧
  (∀ (s : State) (a : Acc) (v : BitVec 32), Taken s 0x18 a → s.dev.get F.CNPY_HP_STAT_ST 0 ≠ 1 → s.dev.get F.CNPY_HP_STAT_ST 0 ≠ 2 →
      Answers (.projectionGo a v) s (fun t => t.dev.get F.CNPY_HP_STAT_ST 0 = (if (List.range 8).any (fun i => s.dev.var V.chkOn i == 1) = true then 1 else 2) ∧ t.dev.get F.CNPY_HP_CTRL_SBUF 0 = v.toNat / 2 ^ 24)) ∧
  (∀ (s : State), s.dev.get F.CNPY_HP_STAT_ST 0 = 2 →
      Answers (.projectionDone () () ()) s (fun t => t.dev.get F.CNPY_HP_STAT_ST 0 = 3 ∧ t.dev.get F.CNPY_HP_STAT_OVL 0 = (projOf s).1.dev.projOvl (projOf s).2 ∧ t.dev.get F.CNPY_HP_STAT_SCORE 0 = toBits F.CNPY_HP_STAT_SCORE.width ((projOf s).1.dev.projScore (projOf s).2) ∧   (s.dev.get F.CNPY_HP_OUT_BASE 0 ≠ 0 → t.mem = ((projOf s).1.devWrite 0x0180 (s.dev.get F.CNPY_HP_OUT_BASE 0) ((projOf s).1.dev.projImage (s.dev.get F.CNPY_HP_CTRL_SRC 0) (s.dev.get F.CNPY_HP_CTRL_DST 0) (projPlaces s) ((projOf s).2.getD []))).1.mem) ∧ (s.dev.get F.CNPY_HP_OUT_BASE 0 = 0 → t.mem = (projOf s).1.mem))) ∧
  (∀ (s : State) (a : Acc), Taken s 0x18 a →
      Answers (.gridClear a) s (fun t => t.dev.var V.gridClr 0 = 1 ∧ t.dev.var V.hdrStop 0 = 0))

/-- NPU: effects of the job commands where their conditions hold (R222, R223, R231). -/
def Obligations.NetworkJobsQueueRunAndEnd : Prop :=
  (∀ (s : State) (a : Acc) (j : Fin 64), Taken s 0x1A a → (s.dev.get F.JOB_CFG_TRIG j = 0 ∨ s.dev.get F.JOB_CFG_TRIG j = 7) → (s.dev.get F.JOB_STAT_STATE j = 0 ∨ s.dev.get F.JOB_STAT_STATE j = 4) →
      Answers (.npuJobGo a j) s (fun t => t.dev.get F.JOB_STAT_STATE j = 2)) ∧
  (∀ (s : State) (a : Acc) (j : Fin 64) (en : Bool), Taken s 0x1A a →
      Answers (.npuJobEnable a j en) s (fun t => t.dev.get F.JOB_CFG_EN j = bit en ∧ (en = true → 1 ≤ s.dev.get F.JOB_CFG_TRIG j → s.dev.get F.JOB_CFG_TRIG j ≤ 6 → s.dev.get F.JOB_STAT_STATE j ≠ 2 → s.dev.get F.JOB_STAT_STATE j ≠ 3 → t.dev.get F.JOB_STAT_STATE j = 1) ∧   (en = false → s.dev.get F.JOB_STAT_STATE j = 1 ∨ s.dev.get F.JOB_STAT_STATE j = 2 → t.dev.get F.JOB_STAT_STATE j = 0))) ∧
  (∀ (s : State) (j : Fin 64), s.dev.running 0x1A = true → s.dev.var V.npuJob 0 < 0 → s.dev.jobNext = some j.val → (State.jobCheck { s with dev := s.dev.jobBegin j } j).2 = none → ((State.jobCheck { s with dev := s.dev.jobBegin j } j).1.jobInputs j 0 (leAt ((State.jobCheck { s with dev := s.dev.jobBegin j } j).1.devPeek 0x01A0 ((State.jobCheck { s with dev := s.dev.jobBegin j } j).1.dev.get F.JOB_ARGS_ARGS j) 8) 0 1)).2 = true →
      Answers .npuJobStart s (fun t => t.dev.get F.JOB_STAT_STATE j = 3 ∧ t.dev.get F.NPU_RUNJOB_RUNNING 0 = 1 ∧ t.dev.get F.NPU_RUNJOB_JOB 0 = j.val ∧ t.dev.var V.npuJob 0 = (j.val : Int))) ∧
  (∀ (s : State) (j : Fin 64), s.dev.running 0x1A = true → s.dev.var V.npuJob 0 < 0 → s.dev.jobNext = some j.val → (State.jobCheck { s with dev := s.dev.jobBegin j } j).2.isSome = true →
      Answers .npuJobStart s (fun t => t.dev.get F.JOB_STAT_STATE j = (if s.dev.var V.jobNextOk j = 1 ∧ s.dev.get F.JOB_CFG_EN j = 1 then 2 else 5) ∧ t.dev.var V.npuJob 0 = -1)) ∧
  (∀ (s : State) (outs : List (List Byte)), 0 ≤ s.dev.var V.npuJob 0 → (s.jobOutputs (s.dev.var V.npuJob 0).toNat 0 outs).2 = true →
      Answers (.npuJobDone outs) s (fun t => t.dev.get F.JOB_STAT_STATE ((s.dev.var V.npuJob 0).toNat) = (if s.dev.var V.jobNextOk ((s.dev.var V.npuJob 0).toNat) = 1 ∧ s.dev.get F.JOB_CFG_EN ((s.dev.var V.npuJob 0).toNat) = 1 then 2 else 4) ∧ t.dev.get F.JOB_STAT_ERRC ((s.dev.var V.npuJob 0).toNat) = 0 ∧ t.dev.var V.npuJob 0 = -1 ∧   t.dev.get F.JOB_RUNS_RUNS ((s.dev.var V.npuJob 0).toNat) = (s.dev.get F.JOB_RUNS_RUNS ((s.dev.var V.npuJob 0).toNat) + 1) % 2 ^ F.JOB_RUNS_RUNS.width ∧ (s.dev.get F.JOB_CFG_HAND ((s.dev.var V.npuJob 0).toNat) ≠ 1 → t.mem = (s.jobOutputs (s.dev.var V.npuJob 0).toNat 0 outs).1.mem))) ∧
  (∀ (s : State), 0 ≤ s.dev.var V.npuJob 0 → s.dev.get F.JOB_CFG_LIMIT ((s.dev.var V.npuJob 0).toNat) ≠ 0 → (s.dev.get F.JOB_CFG_LIMIT ((s.dev.var V.npuJob 0).toNat) : Int) * 100000 * 65536 < s.dev.since V.npuAt 0 →
      Answers .npuJobLimit s (fun t => t.dev.get F.JOB_STAT_STATE ((s.dev.var V.npuJob 0).toNat) = (if s.dev.var V.jobNextOk ((s.dev.var V.npuJob 0).toNat) = 1 ∧ s.dev.get F.JOB_CFG_EN ((s.dev.var V.npuJob 0).toNat) = 1 then 2 else 6) ∧ t.dev.get F.JOB_STAT_ERRC ((s.dev.var V.npuJob 0).toNat) = 7 ∧ t.dev.var V.npuJob 0 = -1)) ∧
  (∀ (s : State) (a : Acc), Taken s 0x1A a → 0 ≤ s.dev.var V.npuJob 0 →
      Answers (.npuAbort a) s (fun t => t.dev.get F.JOB_STAT_STATE ((s.dev.var V.npuJob 0).toNat) = (if s.dev.var V.jobNextOk ((s.dev.var V.npuJob 0).toNat) = 1 ∧ s.dev.get F.JOB_CFG_EN ((s.dev.var V.npuJob 0).toNat) = 1 then 2 else 6) ∧ t.dev.get F.JOB_STAT_ERRC ((s.dev.var V.npuJob 0).toNat) = 7 ∧ t.dev.var V.npuJob 0 = -1))

/-- EGO: effects of its commands on their counters and flags where their conditions hold (R202, R203, R205, R206, R230). -/
def Obligations.EgoMotionSteps : Prop :=
  (∀ (s : State) (x : List EgoIn), s.dev.running 0x19 = true →
      Answers (.egoStep x) s (fun t => t.dev.get F.EGO_STEPSEQ_SEQ 0 = (s.dev.get F.EGO_STEPSEQ_SEQ 0 + 1) % 2 ^ F.EGO_STEPSEQ_SEQ.width ∧ t.dev.var V.egoRst 0 = (if s.dev.var V.egoRst 0 = 1 then 0 else s.dev.var V.egoRst 0) ∧ t.dev.past 18 0 = [] ∧   t.dev.var V.imuHist 0 = (s.dev.var V.imuHist 0 * 2 + bit !(s.dev.imuTaken x).isEmpty) % 1024)) ∧
  (∀ (s : State), s.dev.running 0x19 = true → s.dev.get F.COM_CTRL_EN 0x19 = 1 → (100 < s.dev.var V.imuBad 0 ∨ 100 < s.dev.var V.whlBad 0) →
      Answers .egoInvalid s (fun t => t.dev.get F.EGO_STAT_VALID 0 = 0 ∧ t.dev.get F.COM_STAT_FAULT 0x19 = 1)) ∧
  (∀ (s : State), s.dev.running 0x19 = true → 2000 ≤ s.dev.var V.stillRun 0 → s.dev.get F.EGO_STAT_STILL 0 ≠ 1 →
      Answers .egoStill s (fun t => t.dev.get F.EGO_STAT_STILL 0 = 1)) ∧
  (∀ (s : State), s.dev.get F.GNTK_GUARD_STAT_CONTRA 0 = 1 → s.dev.passed V.contraAt 0 (s.dev.var V.holdTV 0 * 1000000000) = true →
      Answers .egoSlipUnknown s (fun t => t.dev.get F.EGO_SLIP_SLIP 0 = 0 ∧ t.dev.get F.EGO_STAT_SLIPUNK 0 = 1 ∧ t.dev.var V.slipA 0 = 0)) ∧
  (∀ (s : State) (a : Acc), Taken s 0x19 a →
      Answers (.egoReset a) s (fun t => t.dev.var V.egoRst 0 = 1 ∧ t.dev.get F.EGO_STAT_RSTCNT 0 = (s.dev.get F.EGO_STAT_RSTCNT 0 + 1) % 2 ^ F.EGO_STAT_RSTCNT.width))

/-- AIN: effects of the acoustic commands where their conditions hold (R234, R235, R236, R239, R240). -/
def Obligations.AcousticImpactCounts : Prop :=
  (∀ (s : State) (c : Fin 16) (x : List (BitVec 16)), s.dev.acuOn c = true → s.dev.var V.acuArm c = 1 →
      Answers (.acousticImpact ⟨c, x⟩) s (fun t => if s.dev.get F.ACU_CFG_THR.act c < s.dev.acuPeak c x 1 then t.dev.var V.acuArm c = 0 ∧ t.dev.var V.acuTrig c = s.dev.var V.uptime 0 ∧ t.dev.past 21 c = s.dev.past 21 c ++ [(s.dev.var V.uptime 0, 1)] else t.dev = s.dev)) ∧
  (∀ (s : State) (c : Fin 16) (x : List (BitVec 16)) (e : Int × Int) (l : List (Int × Int)), s.dev.past 21 c = e :: l → e.1 + 1024000 * 65536 ≤ s.dev.var V.uptime 0 →
      Answers (.acousticClassify c x () ()) s (fun t => t.dev.past 21 c = l ∧   (if s.dev.acuGrain c x then t.dev.var V.acuG (if e.2 = 2 then c.val + 16 else c.val) = s.dev.var V.acuG (if e.2 = 2 then c.val + 16 else c.val) + 1 else t.dev.var V.acuO (if e.2 = 2 then c.val + 16 else c.val) = s.dev.var V.acuO (if e.2 = 2 then c.val + 16 else c.val) + 1))) ∧
  (∀ (s : State) (c : Fin 16) (x : List (BitVec 16)), s.dev.acuOn c = true → s.dev.var V.acuArm c = 0 → s.dev.passed V.acuTrig c (s.dev.acuDead c) = true →
      Answers (.acousticRearm ⟨c, x⟩) s (fun t => t.dev.var V.acuArm c = bit (decide (2 * s.dev.acuPeak c x 1 < s.dev.get F.ACU_CFG_THR.act c)))) ∧
  (∀ (s : State) (c : Fin 16) (x : List (BitVec 16)), s.dev.acuOn c = true → s.dev.var V.acuArm c = 0 → s.dev.passed V.acuTrig c (s.dev.acuDead c + 2000000 + (s.dev.var V.acuPn c + 1) * 1000000) = true →
      Answers (.acousticPile ⟨c, x⟩) s (fun t => if (s.dev.acuEnvs c x 250).all (fun e => decide (s.dev.get F.ACU_CFG_THR.act c < 2 * e)) then t.dev.var V.acuP c = s.dev.var V.acuP c + 1 ∧ t.dev.var V.acuPn c = s.dev.var V.acuPn c + 1 else t.dev = s.dev)) ∧
  (∀ (s : State) (clip : BitVec 16) (c : Fin 16), s.dev.running 0x23 = true → 0 ≤ s.dev.var V.nextWin 0 → s.dev.var V.nextWin 0 * 65536 ≤ s.dev.var V.grove 0 →
      Answers (.acousticWindowEnd clip) s (fun t => t.dev.get F.ACU_WSEQ_SEQ 0 = (s.dev.get F.ACU_WSEQ_SEQ 0 + 1) % 2 ^ F.ACU_WSEQ_SEQ.width ∧ t.dev.var V.acuG (c.val + 16) = s.dev.var V.acuG c ∧ t.dev.var V.acuG c = 0 ∧ t.dev.past 21 c = (s.dev.past 21 c).map (fun e => (e.1, 2)) ∧ t.dev.var V.nextWin 0 = s.dev.var V.nextWin 0 + s.dev.acuWin)) ∧
  (∀ (s : State) (c : Fin 16), s.dev.var V.acuClosed 0 ≠ 0 → (∀ i < 16, ∀ e ∈ s.dev.past 21 i, e.2 ≠ 2) →
      Answers .acousticPublish s (fun t => t.dev.var V.acuClosed 0 = 0 ∧ t.dev.get F.ACU_CNT_GRAIN c = min (s.dev.var V.acuG (c.val + 16)).toNat 0xFFFF ∧ t.dev.get F.ACU_CNT_OTHER c = min (s.dev.var V.acuO (c.val + 16)).toNat 0xFFFF)) ∧
  (∀ (s : State) (a : Acc) (c : Fin 16), Taken s 0x23 a →
      Answers (.acousticSnapArm a c) s (fun t => t.dev.get F.ACU_SNAP_CH 0 = c.val ∧ t.dev.get F.ACU_SNAP_DONE 0 = 0 ∧ t.dev.var V.snapArm 0 = 1 ∧ t.dev.var V.snapCh 0 = c.val)) ∧
  (∀ (s : State) (l : List (BitVec 16)) (w : Fin 256), s.dev.var V.snapArm 0 = 2 → s.dev.passed V.snapAt 0 1792000 = true →
      Answers (.acousticSnapDone l) s (fun t => t.dev.get F.ACU_SNAP_DONE 0 = 1 ∧ t.dev.var V.snapArm 0 = 0 ∧ t.dev.get F.ACU_SNAPD_W w = (l.getD (2 * w.val) 0).toNat + (l.getD (2 * w.val + 1) 0).toNat * 65536))

/-- CROP: effects of the tick, line, stage, tap and pair commands where their conditions hold (R243, R244, R246, R248, R249, R250, R252, R254, R255, R256, R258, R261). -/
def Obligations.CropLineStageTapsAndPairs : Prop :=
  (∀ (s : State) (k : Fin 16), s.dev.running 0x1B = true → s.dev.get F.TAP_CFG_EN k = 1 →
      Answers .cropTick s (fun t => t.dev.var V.cropTick 0 = s.dev.now ∧ t.dev.get F.CROP_STATE_EGOOK 0 = bit (s.dev.on F.EGO_STAT_VALID 0) ∧ t.dev.var V.tapCnt k = s.dev.var V.tapCnt k + 1)) ∧
  (∀ (s : State), s.dev.running 0x1B = true → 100 ≤ s.dev.var V.flowMiss 0 → s.dev.var V.flowStaled 0 = 0 →
      Answers .flowStale s (fun t => t.dev.get F.CROP_STATE_FLOWOK 0 = 0 ∧ t.dev.var V.flowStaled 0 = 1)) ∧
  (∀ (s : State) (k : Nat), s.dev.running 0x1B = true → s.dev.var V.gridNew 0 ≠ 0 → s.dev.var V.gridInv 0 ≠ 1 → s.dev.var V.gridCleared 0 ≠ 1 → s.dev.get F.EGO_STAT_VALID 0 = 1 → 0 < k → k < min (s.dev.get F.CROP_SAMP_NEAR.act 0) 400 →
      Answers .samplingPass s (fun t => t.dev.get F.CELL_FROZEN (lineSlot (s.dev.xmax + (k : Int))) = 1 ∧ t.dev.var V.gridNew 0 = 0 ∧ t.dev.get F.CROP_LSEQ_SEQ 0 = (s.dev.get F.CROP_LSEQ_SEQ 0 + 2) % 2 ^ F.CROP_LSEQ_SEQ.width)) ∧
  (∀ (s : State) (p : Parcel) (l : List Parcel), s.dev.parcels = p :: l → 2 ^ 48 ≤ p.prog →
      Answers .parcelArrival s (fun t => t.dev.parcels = l ∧ (∃ b ∈ t.dev.arrivals, b.bin = s.dev.var V.cropTick 0 / 10000000 ∧ p.mass ≤ b.mass) ∧ t.dev.get F.CROP_STATE_NPAR 0 = min l.length 4095)) ∧
  (∀ (s : State) (k : Fin 16), s.dev.running 0x1B = true → s.dev.get F.TAP_CFG_EN k = 1 → s.dev.tapClash k = false → ((max 1 (s.dev.get F.TAP_CFG_PER k) : Nat) : Int) ≤ s.dev.var V.tapCnt k →
      Answers (.tapCommit k) s (fun t => t.dev.var V.tapCnt k = 0 ∧ t.dev.get F.TAP_STAT_FLAGS k = s.dev.tapFlags (s.dev.tapCompute k) % 2 ^ F.TAP_STAT_FLAGS.width ∧   ((s.dev.tapCompute k).nola = false → t.dev.get F.TAP_OUT_VALUE k = min (s.dev.tapCompute k).value 0xFFFFFFFF) ∧ ((s.dev.tapCompute k).nola = true → s.dev.get F.TAP_CFG_FBK k = 1 → s.dev.flowBit 3 = true → t.dev.get F.TAP_OUT_VALUE k = (s.dev.var V.flowFeed 0).toNat % 2 ^ F.TAP_OUT_VALUE.width) ∧   t.dev.get F.TAP_STAT_COMMITS k = (if (s.dev.tapCompute k).nola && !(s.dev.on F.TAP_CFG_FBK k && s.dev.flowBit 3) then s.dev.get F.TAP_STAT_COMMITS k else (s.dev.get F.TAP_STAT_COMMITS k + 1) % 2 ^ F.TAP_STAT_COMMITS.width))) ∧
  (∀ (s : State) (a : Acc) (k : Fin 16) (en : Bool), Taken s 0x1B a →
      Answers (.tapEnable a k en) s (fun t => t.dev.on F.TAP_CFG_EN k = en ∧ (en = true → s.dev.on F.TAP_CFG_EN k = false → t.dev.get F.TAP_STAT_COMMITS k = 0 ∧ t.dev.var V.tapCnt k = 0))) ∧
  (∀ (s : State) (a : Acc) (k : Fin 2048), Taken s 0x1B a →
      Answers (.lineClear a) s (fun t => t.dev.get F.CELL_MASS k = 0 ∧ t.dev.get F.CELL_VALID k = 0 ∧ t.dev.var V.dmax 0 = s.dev.getI F.EGO_DIST_DIST 0 ∧ t.dev.get F.CROP_LSEQ_SEQ 0 = (s.dev.get F.CROP_LSEQ_SEQ 0 + 2) % 2 ^ F.CROP_LSEQ_SEQ.width)) ∧
  (∀ (s : State) (a : Acc), Taken s 0x1B a →
      Answers (.stageClear a) s (fun t => t.dev.var V.stageClr 0 = 1)) ∧
  (∀ (s : State), s.dev.running 0x1B = true → 0 ≤ s.dev.var V.nextY 0 → s.dev.var V.nextY 0 * 65536 ≤ s.dev.var V.grove 0 → s.dev.get F.CROP_YRING_BASE.act 0 / 4096 * 4096 ≠ 0 → s.dev.var V.yStop 0 ≠ 1 → (s.dev.get F.CROP_YRING_WR_IDX 0 % (256 * 2 ^ min (s.dev.get F.CROP_YRING_CFG_SIZE.act 0) 6) + 1) % (256 * 2 ^ min (s.dev.get F.CROP_YRING_CFG_SIZE.act 0) 6) ≠ s.dev.get F.CROP_YRING_RD_IDX 0 % (256 * 2 ^ min (s.dev.get F.CROP_YRING_CFG_SIZE.act 0) 6) → (State.devWrite { s with dev := s.dev.yieldOpen.yieldNext (s.dev.var V.nextY 0) } 0x01B0 (s.dev.get F.CROP_YRING_BASE.act 0 / 4096 * 4096 + 32 * (s.dev.get F.CROP_YRING_WR_IDX 0 % (256 * 2 ^ min (s.dev.get F.CROP_YRING_CFG_SIZE.act 0) 6))) (s.dev.yieldOpen.pairRecord (s.dev.var V.nextY 0))).2 = none →
      Answers .yieldPair s (fun t => t.dev.get F.CROP_YSEQ_SEQ 0 = (s.dev.get F.CROP_YSEQ_SEQ 0 + 1) % 2 ^ F.CROP_YSEQ_SEQ.width ∧ t.dev.var V.nextY 0 = s.dev.var V.nextY 0 + s.dev.yper ∧ t.dev.get F.CROP_YRING_WR_IDX 0 = (s.dev.get F.CROP_YRING_WR_IDX 0 % (256 * 2 ^ min (s.dev.get F.CROP_YRING_CFG_SIZE.act 0) 6) + 1) % (256 * 2 ^ min (s.dev.get F.CROP_YRING_CFG_SIZE.act 0) 6) % 2 ^ F.CROP_YRING_WR_IDX.width ∧   t.mem = (State.devWrite { s with dev := s.dev.yieldOpen.yieldNext (s.dev.var V.nextY 0) } 0x01B0 (s.dev.get F.CROP_YRING_BASE.act 0 / 4096 * 4096 + 32 * (s.dev.get F.CROP_YRING_WR_IDX 0 % (256 * 2 ^ min (s.dev.get F.CROP_YRING_CFG_SIZE.act 0) 6))) (s.dev.yieldOpen.pairRecord (s.dev.var V.nextY 0))).1.mem))

/-- WHL: effects of the sample, evaluation, output and register commands where their conditions hold (R265, R266, R267, R268, R270, R275, R281, R284, R287, R288, R298, R301). -/
def Obligations.ControlLoopsSampleEvaluateAndDrive : Prop :=
  (∀ (s : State) (k : Fin 64) (x : LoopIn), s.dev.running 0x20 = true → s.dev.get F.WHL_LP_CFG_EN k = 1 → 0 ≤ s.dev.var V.lpNext k → s.dev.var V.lpNext k * 65536 + (s.dev.var V.gridMove 0x20 - s.dev.var V.lpGrid k) ≤ s.dev.var V.grove 0 → s.dev.var V.lpRel k ≠ 1 → s.dev.var V.lpTook k ≠ 0 → s.dev.get F.WHL_LP_STAT_STATE k ≠ 5 →
      Answers (.loopSample k x) s (fun t => t.dev.var V.lpDue k = 1 ∧ t.dev.var V.lpNext k = s.dev.var V.lpNext k + 40 * (s.dev.lpPeriod k : Int) ∧ t.dev.var V.lpLatch k = s.dev.var V.lpNext k * 65536 + (s.dev.var V.gridMove 0x20 - s.dev.var V.lpGrid k))) ∧
  (∀ (s : State) (k : Fin 64), s.dev.laneNext k = true → s.dev.lpApplyDue k = false →
      Answers (.loopEvaluate k) s (fun t => t.dev.var V.lpDue k = 0 ∧ t.dev.var V.lpCnt k = s.dev.var V.lpCnt k + 1)) ∧
  (∀ (s : State) (k : Fin 64), s.dev.laneNext k = true → s.dev.lpApplyDue k = false → s.dev.get F.WHL_LP_CFG_MODE k = 1 → s.dev.get F.WHL_LP_STAT_PEND k ≠ 1 → s.dev.get F.WHL_LP_FB_CFG_KIND k = 0 → s.dev.get F.WHL_LP_CFG_ROADBAR k ≠ 1 → s.dev.get F.WHL_LP_CFG_FBMASK k = 0 → s.dev.get F.WHL_LP_FFX_EN k ≠ 1 → s.dev.get F.PORT_CFG_EN (4 * k.val) = 1 → s.dev.get F.PORT_CFG_RANK (4 * k.val) = 3 → s.dev.get F.PORT_CFG_KIND (4 * k.val) = 0 → s.dev.get F.PORT_DB_DB.act (4 * k.val) = 0 → s.dev.get F.PORT_CFG_EN (4 * k.val + 1) ≠ 1 → s.dev.get F.PORT_CFG_EN (4 * k.val + 2) ≠ 1 → s.dev.get F.PORT_CFG_EN (4 * k.val + 3) ≠ 1 → s.dev.get F.BANK_RLIM_V (2 * k.val + s.dev.get F.WHL_LP_STAT_ACT k) = 0 →
      Answers (.loopEvaluate k) s (fun t => t.dev.get F.WHL_LP_STAT_STATE k = 1 ∧ t.dev.get F.WHL_LP_STAT_WPORT k = 0 ∧ t.dev.get F.WHL_LP_U_VAL k = toBits 32 ((s.dev.coef k (s.dev.get F.WHL_LP_STAT_ACT k)).limit (puValue (s.dev.getI F.PORT_VAL_VAL (4 * k.val)) (s.dev.getI F.PORT_SCALE_SCALE.act (4 * k.val)) (s.dev.getI F.PORT_OFFS_OFFS.act (4 * k.val)))))) ∧
  (∀ (s : State) (k : Fin 64) (v : Int), s.dev.laneNext k = true → s.dev.lpApplyDue k = false → s.dev.get F.WHL_LP_CFG_MODE k ≠ 1 → s.dev.get F.WHL_LP_STAT_PEND k ≠ 1 → s.dev.get F.WHL_LP_STAT_STATE k = 1 → s.dev.var V.lpFresh k ≠ 1 → s.dev.get F.WHL_LP_FB_CFG_KIND k = 0 → s.dev.get F.WHL_LP_CFG_ROADBAR k ≠ 1 → s.dev.get F.WHL_LP_CFG_FRON k ≠ 1 → s.dev.get F.WHL_LP_CFG_COGON k ≠ 1 → s.dev.get F.WHL_LP_CFG_FBMASK k = 0 → s.dev.get F.WHL_LP_FFX_EN k ≠ 1 → s.dev.get F.PORT_CFG_EN (4 * k.val) = 1 → s.dev.get F.PORT_CFG_RANK (4 * k.val) = 3 → s.dev.get F.PORT_CFG_KIND (4 * k.val) = 0 → s.dev.get F.PORT_DB_DB.act (4 * k.val) = 0 → s.dev.get F.PORT_CFG_EN (4 * k.val + 1) ≠ 1 → s.dev.get F.PORT_CFG_EN (4 * k.val + 2) ≠ 1 → s.dev.get F.PORT_CFG_EN (4 * k.val + 3) ≠ 1 → s.dev.get F.BANK_RLIM_V (2 * k.val + s.dev.get F.WHL_LP_STAT_ACT k) = 0 → v = puValue (s.dev.getI F.PORT_VAL_VAL (4 * k.val)) (s.dev.getI F.PORT_SCALE_SCALE.act (4 * k.val)) (s.dev.getI F.PORT_OFFS_OFFS.act (4 * k.val)) →
      Answers (.loopEvaluate k) s (fun t => t.dev.get F.WHL_LP_STAT_STATE k = 1 ∧ t.dev.get F.WHL_LP_R_VAL k = toBits 32 (sat32 v) ∧ t.dev.get F.WHL_LP_U_VAL k = toBits 32 (plainSample s.dev k v).2.1 ∧ t.dev.get F.WHL_LP_STAT_SAT k = bit ((plainSample s.dev k v).2.1 != (plainSample s.dev k v).1) ∧ t.dev.getI F.WHL_LP_I_I k = (plainSample s.dev k v).2.2.1 ∧ t.dev.var V.lpD k = (plainSample s.dev k v).2.2.2 ∧ t.dev.var V.lpE k = v)) ∧
  (∀ (s : State) (k : Fin 64), s.dev.var V.lpOut k = 1 → s.dev.var V.lpOutT k ≤ s.dev.ctlTime →
      Answers (.outputApply k) s (fun t => t.dev.var V.lpOut k = 0 ∧ t.dev.get F.WHL_LP_LATCH_T k = toBits 64 (s.dev.var V.lpLatch k / 65536) ∧ (s.dev.var V.lpOwnK k = 1 → t.dev.var V.solWhl ((s.dev.var V.lpOwnI k).toNat) = clamp 0 20000 (s.dev.getI F.WHL_LP_U_VAL k)) ∧   (s.dev.var V.lpOwnK k = 2 → t.dev.var V.lswWhl ((s.dev.var V.lpOwnI k).toNat) = clamp 0 10000 (s.dev.getI F.WHL_LP_U_VAL k)))) ∧
  (∀ (s : State) (a : Acc), Taken s 0x20 a → (s.dev.chSel 0x20 a) < 64 → s.dev.get F.WHL_LP_CFG_EN (s.dev.chSel 0x20 a) ≠ 1 →
      Answers (.loopEnable a) s (fun t => t.dev.get F.WHL_LP_CFG_EN (s.dev.chSel 0x20 a) = 1 ∧ (s.dev.running 0x20 = true → t.dev.get F.WHL_LP_I_I (s.dev.chSel 0x20 a) = 0 ∧ t.dev.var V.lpFresh (s.dev.chSel 0x20 a) = 1 ∧ t.dev.var V.lpDue (s.dev.chSel 0x20 a) = 0))) ∧
  (∀ (s : State) (a : Acc), Taken s 0x20 a → (s.dev.chSel 0x20 a) < 64 → s.dev.get F.WHL_LP_CFG_EN (s.dev.chSel 0x20 a) = 1 →
      Answers (.loopDisable a) s (fun t => t.dev.get F.WHL_LP_CFG_EN (s.dev.chSel 0x20 a) = 0 ∧ t.dev.get F.WHL_LP_STAT_STATE (s.dev.chSel 0x20 a) = 0 ∧ t.dev.var V.lpDue (s.dev.chSel 0x20 a) = 0)) ∧
  (∀ (s : State) (a : Acc), Taken s 0x20 a → (s.dev.chSel 0x20 a) < 64 →
      Answers (.coeffSwap a) s (fun t => t.dev.get F.WHL_LP_STAT_PEND (s.dev.chSel 0x20 a) = 1)) ∧
  (∀ (s : State) (a : Acc) (m : BitVec 64) (k : Fin 64), Taken s 0x20 a →
      Answers (.swapMaskWrite a m) s (fun t => (tbit m.toNat k = true → t.dev.get F.WHL_LP_STAT_PEND k = 1) ∧ (tbit m.toNat k = false → t.dev.get F.WHL_LP_STAT_PEND k = s.dev.get F.WHL_LP_STAT_PEND k))) ∧
  (∀ (s : State) (a : Acc), Taken s 0x20 a → (s.dev.chSel 0x20 a) < 64 →
      Answers (.loopClearStats a) s (fun t => t.dev.get F.WHL_LP_DLY_DMAX (s.dev.chSel 0x20 a) = 0 ∧ t.dev.get F.WHL_LP_CONF_CNT (s.dev.chSel 0x20 a) = 0 ∧ t.dev.get F.WHL_LP_CONF_SUPP (s.dev.chSel 0x20 a) = 0 ∧ t.dev.get F.WHL_LP_CAN_CANFAIL (s.dev.chSel 0x20 a) = 0 ∧ t.dev.get F.WHL_LP_CAN_CANSKIP (s.dev.chSel 0x20 a) = 0)) ∧
  (∀ (s : State) (a : Acc), Taken s 0x20 a →
      Answers (.laneClear a) s (fun t => t.dev.get F.WHL_LANE_QMAX0 0 = 0 ∧ t.dev.get F.WHL_LANE_QMAX1 0 = 0)) ∧
  (∀ (s : State) (a : Acc) (cog : Bool) (ix : Fin 1024) (v : BitVec 32), Taken s 0x20 a → (s.dev.chSel 0x20 a) < 64 →
      Answers (.tableEntryWrite a cog ix v) s (fun t => t.dev.get (if cog then F.WHL_COG_VAL else F.WHL_FRI_VAL) (1024 * (s.dev.chSel 0x20 a) + ix.val) = v.toNat)) ∧
  (∀ (s : State) (a : Acc) (n : Fin 4) (en : Bool), Taken s 0x20 a → (s.dev.chSel 0x20 a) < 64 →
      Answers (.portEnable a n en) s (fun t => t.dev.get F.PORT_CFG_EN (4 * (s.dev.chSel 0x20 a) + n.val) = bit en ∧ (en = true → portOk (s.dev.get F.PORT_CFG_RANK (4 * (s.dev.chSel 0x20 a) + n.val)) (s.dev.get F.PORT_CFG_KIND (4 * (s.dev.chSel 0x20 a) + n.val)) = false → Reported s t 0x20 0 0x0204)))

/-- SOL: effects of the request, set-point, queue and start commands where their conditions hold (R305, R308, R312, R314, R315, R316, R317, R320, R321, R322, R330). -/
def Obligations.SolenoidRequestsAndStarts : Prop :=
  (∀ (s : State) (a : Acc) (on : Bool), Taken s 0x21 a → (s.dev.chSel 0x21 a) < 24 →
      Answers (.eventRequest a on) s (fun t => t.dev.get F.SOL_CH_CMD_ON (s.dev.chSel 0x21 a) = bit on)) ∧
  (∀ (s : State) (a : Acc), Taken s 0x21 a → (s.dev.chSel 0x21 a) < 24 → s.dev.solOn (s.dev.chSel 0x21 a) = true → s.dev.get F.SOL_CH_CFG_MODE (s.dev.chSel 0x21 a) = 2 → s.dev.get F.SOL_CH_CFG_EVSRC (s.dev.chSel 0x21 a) ≠ 1 → s.dev.var V.solOwn (s.dev.chSel 0x21 a) = 0 → s.dev.get F.SOL_CH_STAT_PHASE (s.dev.chSel 0x21 a) = 0 → s.dev.var V.solNeed (s.dev.chSel 0x21 a) = 0 → s.dev.var V.solReq (s.dev.chSel 0x21 a) = 0 → s.dev.var V.solRun (s.dev.chSel 0x21 a) = 0 → s.dev.var V.solKink (s.dev.chSel 0x21 a) ≠ 1 → s.dev.solFrozen = false → s.dev.solAgent = false → s.dev.solCutCh (s.dev.chSel 0x21 a) = false → s.dev.solHsHeld (s.dev.chSel 0x21 a) = false → s.dev.get F.SOL_SUPPLY_CRANK 0 ≠ 1 → s.dev.solEarliest (s.dev.chSel 0x21 a) ≤ s.dev.var V.uptime 0 → s.dev.var V.solRight ((s.dev.chSel 0x21 a) / 4) = 0 → s.dev.solLower (s.dev.chSel 0x21 a) = false → s.dev.get F.SOL_CH_CFG_BOOST (s.dev.chSel 0x21 a) ≠ 1 →
      Answers (.eventRequest a true) s (fun t => t.dev.get F.SOL_CH_STAT_PHASE (s.dev.chSel 0x21 a) = 3 ∧ t.dev.var V.solRun (s.dev.chSel 0x21 a) = 1 ∧ t.dev.var V.solRight ((s.dev.chSel 0x21 a) / 4) = ((s.dev.chSel 0x21 a) : Int) + 1 ∧ t.dev.var V.solStartAt (s.dev.chSel 0x21 a) = s.dev.var V.uptime 0)) ∧
  (∀ (s : State) (a : Acc) (v : BitVec 16), Taken s 0x21 a → (s.dev.chSel 0x21 a) < 24 →
      Answers (.currentSetpoint a v) s (fun t => t.dev.get F.SOL_CH_ISET_ISET (s.dev.chSel 0x21 a) = v.toNat % 2 ^ F.SOL_CH_ISET_ISET.width)) ∧
  (∀ (s : State) (a : Acc) (v : BitVec 16), Taken s 0x21 a → (s.dev.chSel 0x21 a) < 24 → s.dev.solOn (s.dev.chSel 0x21 a) = true → s.dev.get F.SOL_CH_CFG_MODE (s.dev.chSel 0x21 a) = 1 → s.dev.var V.solOwn (s.dev.chSel 0x21 a) = 0 → v.toNat % 2 ^ F.SOL_CH_ISET_ISET.width ≠ 0 → (s.dev.get F.SOL_CH_STAT_PHASE (s.dev.chSel 0x21 a) = 0 ∨ s.dev.get F.SOL_CH_STAT_PHASE (s.dev.chSel 0x21 a) = 5) → s.dev.solFrozen = false → s.dev.solAgent = false → s.dev.solCutCh (s.dev.chSel 0x21 a) = false → s.dev.solHsHeld (s.dev.chSel 0x21 a) = false → s.dev.get F.SOL_SUPPLY_CRANK 0 ≠ 1 →
      Answers (.currentSetpoint a v) s (fun t => t.dev.get F.SOL_CH_STAT_PHASE (s.dev.chSel 0x21 a) = 6)) ∧
  (∀ (s : State) (a : Acc), Taken s 0x21 a → (s.dev.chSel 0x21 a) < 24 →
      Answers (.queuePush a) s (fun t => if 4 ≤ s.dev.solQ.countP (fun e => e.1 == (s.dev.chSel 0x21 a)) ∨ s.dev.get F.SOL_Q_DUR_DUR (s.dev.chSel 0x21 a) < 50 ∨ (((s.dev.solQ.filter (fun e => e.1 == (s.dev.chSel 0x21 a))).map (fun e => e.2)).getLast?).any (fun e => decide (s.dev.get F.SOL_Q_T_START (s.dev.chSel 0x21 a) < e.start + e.dur * 1000)) = true then t.dev.solQ = s.dev.solQ ∧ Reported s t 0x21 0 0x0202   else if (s.dev.get F.SOL_Q_T_START (s.dev.chSel 0x21 a) : Int) < s.dev.now + 10000 then t.dev.solQ = s.dev.solQ ∧ t.dev.get F.SOL_CH_FLAGS_LATE (s.dev.chSel 0x21 a) = 1 else t.dev.solQ = s.dev.solQ ++ [((s.dev.chSel 0x21 a), ⟨s.dev.get F.SOL_Q_T_START (s.dev.chSel 0x21 a), s.dev.get F.SOL_Q_DUR_DUR (s.dev.chSel 0x21 a)⟩)])) ∧
  (∀ (s : State) (a : Acc), Taken s 0x21 a → (s.dev.chSel 0x21 a) < 24 →
      Answers (.queueFlush a) s (fun t => (∀ e ∈ t.dev.solQ, e.1 ≠ (s.dev.chSel 0x21 a)) ∧ t.dev.get F.SOL_Q_STAT_COUNT (s.dev.chSel 0x21 a) = 0)) ∧
  (∀ (s : State) (c : Fin 24) (e : SolEntry), s.dev.solHead c = some e → (e.start : Int) ≤ s.dev.now → s.dev.var V.solReq c = 0 → s.dev.var V.solStepped c ≠ 1 → s.dev.solTakesQ c = true → s.dev.get F.SOL_CH_STAT_PHASE c = 0 → s.dev.var V.solKink c ≠ 1 → s.dev.solFrozen = false → s.dev.solAgent = false → s.dev.solCutCh c = false → s.dev.solHsHeld c = false → s.dev.get F.SOL_SUPPLY_CRANK 0 ≠ 1 → s.dev.solEarliest c ≤ s.dev.var V.uptime 0 → s.dev.var V.solRight (c.val / 4) = 0 → s.dev.solLower c = false → s.dev.get F.SOL_CH_CFG_BOOST c ≠ 1 →
      Answers (.queueEntryDue c) s (fun t => t.dev.get F.SOL_CH_STAT_PHASE c = 3 ∧ t.dev.var V.solRun c = 2 ∧ t.dev.var V.solDur c = (e.dur : Int) ∧ t.dev.var V.solStartAt c = s.dev.var V.uptime 0)) ∧
  (∀ (s : State) (c : Fin 24) (rail : BitVec 8), s.dev.var V.solReq c ≠ 0 → s.dev.get F.SOL_CH_STAT_PHASE c = 1 → s.dev.solFrozen = false → s.dev.solAgent = false → s.dev.solCutCh c = false → s.dev.solHsHeld c = false → s.dev.get F.SOL_SUPPLY_CRANK 0 ≠ 1 → s.dev.solEarliest c ≤ s.dev.var V.uptime 0 → s.dev.var V.solRight (c.val / 4) = 0 → s.dev.solLower c = false → s.dev.get F.SOL_CH_CFG_BOOST c ≠ 1 →
      Answers (.eventStart c rail) s (fun t => t.dev.get F.SOL_CH_STAT_PHASE c = 3 ∧ t.dev.var V.solStartAt c = s.dev.var V.uptime 0 ∧ t.dev.get F.SOL_BST_STAT_VNOW (c.val / 12) = min rail.toNat 127)) ∧
  (∀ (s : State) (c : Fin 24), s.dev.var V.solReq c ≠ 0 → s.dev.var V.solStage c = 2 → s.dev.solFrozen = false → s.dev.passed V.solChk c ((s.dev.get F.SOL_CH_TIME_OVWIN.act c : Int) * 10000) = true →
      Answers (.overlapDrop c) s (fun t => t.dev.var V.solReq c = 0 ∧ t.dev.get F.SOL_CH_FLAGS_OVLP c = 1 ∧ Reported s t 0x21 0 0x0204)) ∧
  (∀ (s : State) (c : Fin 24) (rail : BitVec 8), s.dev.var V.solReq c ≠ 0 → s.dev.var V.solStage c = 3 → s.dev.solFrozen = false → s.dev.passed V.solBstAt c 200000 = true → s.dev.bstAbove (c.val / 12) rail.toNat = false →
      Answers (.boostWaitExpiry c rail) s (fun t => if s.dev.get F.SOL_SUPPLY_CRANK 0 = 1 then t.dev.var V.solReq c = 0 ∧ t.dev.get F.SOL_CH_FLAGS_UVDROP c = 1 else if s.dev.get F.SOL_CH_CFG_BNRMODE c = 1 then t.dev.var V.solReq c = 0 ∧ t.dev.get F.SOL_CH_FLAGS_BNRABT c = 1 else t.dev.get F.SOL_CH_STAT_PHASE c = 3 ∧ t.dev.get F.SOL_CH_FLAGS_BSTNR c = 1)) ∧
  (∀ (s : State) (b : Fin 2) (rail : BitVec 8) (j : Fin 12), s.dev.get F.SOL_BST_CFG_EN b = 1 → s.dev.get F.SOL_BST_STAT_FLT b ≠ 1 → s.dev.bstAbove b rail.toNat = true → s.dev.var V.solStage (12 * b.val + j.val) = 3 → s.dev.var V.solReq (12 * b.val + j.val) ≠ 0 → s.dev.get F.SOL_CH_STAT_PHASE (12 * b.val + j.val) = 1 → s.dev.solFrozen = false → s.dev.solAgent = false → s.dev.solCutCh (12 * b.val + j.val) = false → s.dev.solHsHeld (12 * b.val + j.val) = false → s.dev.get F.SOL_SUPPLY_CRANK 0 ≠ 1 → s.dev.solEarliest (12 * b.val + j.val) ≤ s.dev.var V.uptime 0 → s.dev.var V.solRight ((12 * b.val + j.val) / 4) = ((12 * b.val + j.val : Nat) : Int) + 1 → s.dev.get F.SOL_CH_CFG_BOOST (12 * b.val + j.val) = 1 →
      Answers (.boostRailReady b rail) s (fun t => t.dev.get F.SOL_CH_STAT_PHASE (12 * b.val + j.val) = 2 ∧ t.dev.get F.SOL_BST_STAT_VNOW b = min rail.toNat 127))

/-- SOL: effects of the event, fault and converter commands where their conditions hold (R305, R310, R311, R312, R323, R324, R325, R330, R331). -/
def Obligations.SolenoidEventsFaultsAndBoost : Prop :=
  (∀ (s : State) (c : Fin 24) (i : BitVec 16), s.dev.solRising c = true →
      Answers (.boostPeakReached ⟨c, i⟩) s (fun t => t.dev.get F.SOL_CH_IMEAS_IMEAS c = i.toNat % 2 ^ F.SOL_CH_IMEAS_IMEAS.width ∧ (if s.dev.solIpeak c ≤ i.toNat then t.dev.get F.SOL_CH_STAT_PHASE c = 3 ∧ t.dev.var V.solPk c = 1 ∧ t.dev.get F.SOL_EV_TIME_TPK c = min 65535 (s.dev.since V.solStartAt c / (1000 * 65536)).toNat else t.dev.get F.SOL_CH_STAT_PHASE c = s.dev.get F.SOL_CH_STAT_PHASE c ∧ t.dev.var V.solPk c = 0))) ∧
  (∀ (s : State) (c : Fin 24), s.dev.solUnpeaked c = true → s.dev.passed V.solStartAt c ((s.dev.solTbmax c : Int) * 1000) = true →
      Answers (.boostTimeout c) s (fun t => t.dev.get F.SOL_CH_STAT_PHASE c = (if s.dev.get F.SOL_CH_STAT_PHASE c = 2 then 3 else s.dev.get F.SOL_CH_STAT_PHASE c) ∧ t.dev.get F.SOL_CH_FLAGS_NOPEAK c = 1 ∧ t.dev.get F.SOL_EV_TIME_TPK c = s.dev.solTbmax c)) ∧
  (∀ (s : State) (c : Fin 24), s.dev.get F.SOL_CH_STAT_PHASE c = 3 → s.dev.solFrozen = false → s.dev.passed V.solPhAt c ((min 20000 (s.dev.get F.SOL_CH_PEAK_TPEAK.act c) : Nat) * 1000) = true →
      Answers (.peakEnd c) s (fun t => t.dev.get F.SOL_CH_STAT_PHASE c = 4 ∧ (s.dev.var V.solRight (c.val / 4) = (c.val : Int) + 1 → t.dev.var V.solRight (c.val / 4) = 0))) ∧
  (∀ (s : State) (c : Fin 24), s.dev.solFrozen = false → s.dev.var V.solRun c = 2 → s.dev.passed V.solStartAt c (s.dev.var V.solDur c * 1000) = true → 2 ≤ s.dev.get F.SOL_CH_STAT_PHASE c → s.dev.get F.SOL_CH_STAT_PHASE c ≤ 4 →
      Answers (.eventEnd c) s (fun t => t.dev.get F.SOL_CH_STAT_PHASE c = 5 ∧ t.dev.var V.solRun c = 0 ∧ t.dev.get F.SOL_EV_SEQ_SEQ c = (s.dev.get F.SOL_EV_SEQ_SEQ c + 1) % 2 ^ F.SOL_EV_SEQ_SEQ.width)) ∧
  (∀ (s : State) (c : Fin 24) (i : BitVec 16), s.dev.get F.SOL_CH_STAT_PHASE c = 5 → s.dev.solFrozen = false →
      Answers (.decayEnd ⟨c, i⟩) s (fun t => t.dev.get F.SOL_CH_IMEAS_IMEAS c = i.toNat % 2 ^ F.SOL_CH_IMEAS_IMEAS.width ∧ (i.toNat < 50 → t.dev.var V.solDecEnd c = s.dev.var V.uptime 0 ∧ (s.dev.get F.SOL_CH_CFG_EN c ≠ 1 → t.dev.get F.SOL_CH_STAT_PHASE c = 0)) ∧ (50 ≤ i.toNat → t.dev.get F.SOL_CH_STAT_PHASE c = 5))) ∧
  (∀ (s : State) (c : Fin 24) (v0 v8 v16 : BitVec 18), s.dev.var V.solKink c = 1 → 16 ≤ (s.dev.since V.solDecAt c / (1000 * 65536)).toNat → (s.dev.since V.solDecAt c / (1000 * 65536)).toNat ≤ s.dev.solKwin c →
      Answers (.kinkDetect ⟨c, v0, v8, v16⟩) s (fun t => if 8 * (s.dev.get F.SOL_CH_KINK_KTH.act c : Int) ≤ |((v0.toNat : Int) - v8.toNat) - ((v8.toNat : Int) - v16.toNat)| then t.dev.var V.solKink c = 0 ∧ t.dev.get F.SOL_EV_TIME_KINK c = (s.dev.since V.solDecAt c / (1000 * 65536)).toNat else t.dev = s.dev)) ∧
  (∀ (s : State) (c : Fin 24), s.dev.var V.solKink c = 1 → s.dev.passed V.solDecAt c ((s.dev.solKwin c : Int) * 1000) = true →
      Answers (.kinkWindowEnd c) s (fun t => t.dev.var V.solKink c = 0 ∧ t.dev.get F.SOL_EV_TIME_KINK c = 0xFFFF ∧ t.dev.get F.SOL_CH_FLAGS_NOKINK c = 1)) ∧
  (∀ (s : State) (c : Fin 24) (i : BitVec 16),
      Answers (.solShort ⟨c, i⟩) s (fun t => t.dev.get F.SOL_CH_IMEAS_IMEAS c = i.toNat % 2 ^ F.SOL_CH_IMEAS_IMEAS.width ∧ (if 25000 < i.toNat then t.dev.get F.SOL_CH_FLAGS_SHORT c = 1 ∧ t.dev.get F.SOL_CH_STAT_PHASE c = 7 else t.dev.get F.SOL_CH_STAT_PHASE c = s.dev.get F.SOL_CH_STAT_PHASE c))) ∧
  (∀ (s : State) (b : Fin 6) (i : BitVec 16) (noRail : Bool) (j : Fin 4),
      Answers (.hsShort ⟨b, i, noRail⟩) s (fun t => if noRail = true ∨ 40000 < i.toNat then t.dev.get F.SOL_CH_FLAGS_HSSHORT (4 * b.val + j.val) = 1 ∧ t.dev.get F.SOL_CH_STAT_PHASE (4 * b.val + j.val) = 7 ∧ t.dev.var V.solHs (4 * b.val + j.val) = 1 else t.dev = s.dev)) ∧
  (∀ (s : State) (c : Fin 24) (tj : BitVec 16),
      Answers (.solOvertemp ⟨c, tj⟩) s (fun t => if 175 < tj.toInt then t.dev.get F.SOL_CH_FLAGS_OT c = 1 ∧ t.dev.get F.SOL_CH_STAT_PHASE c = 7 else t.dev = s.dev)) ∧
  (∀ (s : State) (c : Fin 24) (i : BitVec 16) (w : Int), (s.dev.get F.SOL_CH_STAT_PHASE c = 4 ∨ s.dev.get F.SOL_CH_STAT_PHASE c = 6) → w = (if s.dev.get F.SOL_CH_STAT_PHASE c = 4 then (s.dev.solIhold c : Int) else s.dev.solSet c) →
      Answers (.solOpenLoad ⟨c, i⟩) s (fun t => t.dev.get F.SOL_CH_IMEAS_IMEAS c = i.toNat % 2 ^ F.SOL_CH_IMEAS_IMEAS.width ∧ (if 200 ≤ w ∧ 4 * (i.toNat : Int) < w ∧ s.dev.passed V.solPhAt c 10000000 = true then t.dev.get F.SOL_CH_FLAGS_OPEN c = 1 ∧ t.dev.get F.SOL_CH_STAT_FAULT c = 1 else t.dev.get F.SOL_CH_FLAGS_OPEN c = s.dev.get F.SOL_CH_FLAGS_OPEN c))) ∧
  (∀ (s : State) (a : Acc) (x : Option (Fin 3)), Taken s 0x21 a → (s.dev.chSel 0x21 a) < 24 →
      Answers (.solClearFault a x) s (fun t => t.dev.get F.SOL_CH_FLAGS_OPEN (s.dev.chSel 0x21 a) = 0 ∧ (x = none → t.dev.get F.SOL_CH_FLAGS_SHORT (s.dev.chSel 0x21 a) = 0 ∧ t.dev.get F.SOL_CH_FLAGS_HSSHORT (s.dev.chSel 0x21 a) = 0 ∧ t.dev.get F.SOL_CH_FLAGS_OT (s.dev.chSel 0x21 a) = 0 ∧ t.dev.get F.SOL_CH_STAT_PHASE (s.dev.chSel 0x21 a) ≠ 7) ∧ (s.dev.get F.SOL_CH_STAT_PHASE (s.dev.chSel 0x21 a) = 7 → x ≠ none → t.dev.get F.SOL_CH_STAT_PHASE (s.dev.chSel 0x21 a) = 7 ∧ t.dev.get F.SOL_CH_FLAGS_SHORT (s.dev.chSel 0x21 a) = bit (x == some 0) ∧ t.dev.get F.SOL_CH_FLAGS_HSSHORT (s.dev.chSel 0x21 a) = bit (x == some 1) ∧ t.dev.get F.SOL_CH_FLAGS_OT (s.dev.chSel 0x21 a) = bit (x == some 2)))) ∧
  (∀ (s : State) (a : Acc) (en : Bool), Taken s 0x21 a → (s.dev.chSel 0x21 a) < 24 →
      Answers (.solChannelEnable a en) s (fun t => t.dev.get F.SOL_CH_CFG_EN (s.dev.chSel 0x21 a) = bit en ∧ (en = false → s.dev.solFrozen = false → 2 ≤ s.dev.get F.SOL_CH_STAT_PHASE (s.dev.chSel 0x21 a) → s.dev.get F.SOL_CH_STAT_PHASE (s.dev.chSel 0x21 a) ≤ 4 → t.dev.get F.SOL_CH_STAT_PHASE (s.dev.chSel 0x21 a) = 5))) ∧
  (∀ (s : State) (a : Acc) (b : Fin 2) (en : Bool), Taken s 0x21 a →
      Answers (.boostEnable a b en) s (fun t => t.dev.on F.SOL_BST_CFG_EN b = en ∧ (en = true → s.dev.on F.SOL_BST_CFG_EN b = false → t.dev.var V.bstTgt b = (s.dev.bstSet b : Int) * 1000) ∧ (en = false → t.dev.bstRdy b = false ∧ t.dev.var V.bstRail b = 0 ∧ t.dev.get F.SOL_BST_STAT_FLT b = 0))) ∧
  (∀ (s : State) (b : Fin 2) (rail : BitVec 8), s.dev.get F.SOL_BST_CFG_EN b = 1 → s.dev.get F.SOL_BST_STAT_FLT b ≠ 1 →
      Answers (.boostFault b rail) s (fun t => t.dev.get F.SOL_BST_STAT_VNOW b = min rail.toNat 127 ∧ (if s.dev.bstTarget b + 10000 < (rail.toNat : Int) * 1000 ∨ (s.dev.bstAbove b rail.toNat = false ∧ s.dev.passed V.bstEv b 50000000 = true) then t.dev.get F.SOL_BST_STAT_FLT b = 1 ∧ Reported s t 0x21 1 0x0206 else t.dev.get F.SOL_BST_STAT_FLT b = s.dev.get F.SOL_BST_STAT_FLT b))) ∧
  (∀ (s : State) (b : Fin 2) (rail : BitVec 8), s.dev.bstInside b rail.toNat = true → s.dev.var V.bstIn b = 1 → s.dev.passed V.bstInAt b 10000000 = true →
      Answers (.boostFaultClear b rail) s (fun t => t.dev.get F.SOL_BST_STAT_FLT b = 0 ∧ t.dev.get F.SOL_BST_STAT_VNOW b = min rail.toNat 127))

/-- LSW: effects of the channel commands, conversions, trips and checks where their conditions hold (R337, R342, R343, R344, R346, R348, R350, R351, R352, R361, R365, R367). -/
def Obligations.LoadSwitchesProtectThemselves : Prop :=
  (∀ (s : State) (a : Acc) (on : Bool), Taken s 0x22 a → (s.dev.chSel 0x22 a) < 24 →
      Answers (.lswOnWrite a on) s (fun t => t.dev.get F.LSW_CH_CMD_ON (s.dev.chSel 0x22 a) = bit on)) ∧
  (∀ (s : State) (a : Acc), Taken s 0x22 a → (s.dev.chSel 0x22 a) < 24 → s.dev.get F.LSW_CH_CFG_EN (s.dev.chSel 0x22 a) = 1 → s.dev.running 0x22 = true → s.dev.var V.lswOwn (s.dev.chSel 0x22 a) = 0 → s.dev.get F.LSW_CH_CFG_MODE (s.dev.chSel 0x22 a) = 0 → s.dev.get F.LSW_CH_STAT_STATE (s.dev.chSel 0x22 a) = 0 → s.dev.lswFrozen = false → s.dev.var V.lswRearm (s.dev.chSel 0x22 a) = 0 → s.dev.lswHold (s.dev.chSel 0x22 a) = 0 → s.dev.lswCrank (s.dev.chSel 0x22 a) = false →
      Answers (.lswOnWrite a true) s (fun t => t.dev.get F.LSW_CH_STAT_STATE (s.dev.chSel 0x22 a) = (if s.dev.get F.LSW_CH_CFG_TIR (s.dev.chSel 0x22 a) = 0 then 1 else 2) ∧ t.dev.var V.lswAt (s.dev.chSel 0x22 a) = s.dev.var V.uptime 0)) ∧
  (∀ (s : State) (a : Acc) (en : Bool), Taken s 0x22 a → (s.dev.chSel 0x22 a) < 24 →
      Answers (.lswChannelEnable a en) s (fun t => t.dev.get F.LSW_CH_CFG_EN (s.dev.chSel 0x22 a) = bit en ∧ (en = false → s.dev.lswFrozen = false → s.dev.get F.LSW_CH_STAT_STATE (s.dev.chSel 0x22 a) = 1 → t.dev.get F.LSW_CH_STAT_STATE (s.dev.chSel 0x22 a) = 0 ∨ t.dev.get F.LSW_CH_STAT_STATE (s.dev.chSel 0x22 a) = 6))) ∧
  (∀ (s : State) (slot : Fin 48) (cur : BitVec 16), slot.val = s.dev.senseSlot → slot.val % 2 = 0 →
      Answers (.senseConversion slot cur) s (fun t => t.dev.get F.LSW_CH_IMEAS_I (slot.val / 2) = (if s.dev.lswLive (slot.val / 2) then cur.toNat else 0) % 2 ^ F.LSW_CH_IMEAS_I.width)) ∧
  (∀ (s : State) (slot : Fin 48) (cur : BitVec 16) (m c : Nat), slot.val = s.dev.senseSlot → m = (if 23 < s.dev.get F.LSW_SENSE_SEL_CH 0 then 0 else s.dev.get F.LSW_SENSE_SEL_CH 0) → (c = (if slot.val % 2 = 0 ∨ s.dev.get F.LSW_SENSE_SEL_MODE 0 = 1 then slot.val / 2 else m)) →
      Answers (.senseConversion slot cur) s (fun t => (c = m → t.dev.get F.LSW_SENSE_VAL_I 0 = (if s.dev.lswLive c then cur.toNat else 0) % 2 ^ F.LSW_SENSE_VAL_I.width) ∧ (slot.val % 2 = 1 → t.dev.get F.LSW_CH_IMEAS_I (slot.val / 2) = s.dev.get F.LSW_CH_IMEAS_I (slot.val / 2)) ∧   t.dev.var V.isenseMon 0 = (if s.dev.get F.LSW_SENSE_SEL_MONEN 0 = 1 ∧ s.dev.lswOnPhase (if s.dev.get F.LSW_SENSE_SEL_MODE 0 = 1 then slot.val / 2 else m) = true then min 5000 (if c = (if s.dev.get F.LSW_SENSE_SEL_MODE 0 = 1 then slot.val / 2 else m) then (if s.dev.lswLive c then (cur.toNat : Int) else 0) else s.dev.var V.lswMirr (if s.dev.get F.LSW_SENSE_SEL_MODE 0 = 1 then slot.val / 2 else m)) else 0))) ∧
  (∀ (s : State) (c : Fin 24) (cur : BitVec 16), s.dev.lswLive c = true → s.dev.lswLevel c < cur.toNat →
      Answers (.shortCircuitTrip c cur) s (fun t => t.dev.get F.LSW_CH_FLAGS_SC c = 1 ∧ t.dev.get F.LSW_CH_STAT_STATE c = (if s.dev.get F.LSW_CH_CFG_SCRST c = 1 then 3 else 4) ∧ t.dev.get F.LSW_CH_STAT_CAUSE c = 1 ∧ Reported s t 0x22 1 0x0204)) ∧
  (∀ (s : State) (c : Fin 24), s.dev.get F.LSW_CH_STAT_STATE c = 2 → s.dev.passed V.lswAt c ((s.dev.get F.LSW_CH_CFG_TIR c : Int) * 1000000) = true →
      Answers (.inrushEnd c) s (fun t => t.dev.get F.LSW_CH_STAT_STATE c = 1)) ∧
  (∀ (s : State) (c : Fin 24), s.dev.var V.wireTick c < s.dev.var V.ticks 0 →
      Answers (.wireModelStep c) s (fun t => t.dev.var V.lswTheta c = thetaNext (s.dev.lswClass c).1 (s.dev.lswClass c).2.1 (s.dev.get F.LSW_CH_IMEAS_I c) (s.dev.lswFrac c) (s.dev.var V.lswTheta c) ∧ (((s.dev.lswClass c).2.2 : Int) * 10000 * 65536 ≤ t.dev.var V.lswTheta c → t.dev.get F.LSW_CH_STAT_STATE c = 4 ∧ (s.dev.get F.LSW_CH_STAT_STATE c ≠ 4 → t.dev.get F.LSW_CH_FLAGS_WIRE c = 1 ∧ Reported s t 0x22 1 0x0203)))) ∧
  (∀ (s : State) (a : Acc), Taken s 0x22 a → (s.dev.chSel 0x22 a) < 24 →
      Answers (.lswClearFault a) s (fun t => if s.dev.get F.LSW_CH_STAT_STATE (s.dev.chSel 0x22 a) = 4 ∧ s.dev.getI F.LSW_CH_TEMP_TJ (s.dev.chSel 0x22 a) ≤ 1500 ∧ s.dev.var V.lswTheta (s.dev.chSel 0x22 a) * 2 ≤ ((s.dev.lswClass (s.dev.chSel 0x22 a)).2.2 : Int) * 10000 * 65536 then t.dev.var V.lswRearm (s.dev.chSel 0x22 a) = (if s.dev.lswFrozen || decide (s.dev.lswWant (s.dev.chSel 0x22 a) ≠ 0) then 1 else 0) ∧ t.dev.get F.LSW_CH_FLAGS_SC (s.dev.chSel 0x22 a) = 0 ∧ t.dev.get F.LSW_CH_FLAGS_WIRE (s.dev.chSel 0x22 a) = 0 ∧ t.dev.get F.LSW_CH_FLAGS_OT (s.dev.chSel 0x22 a) = 0 ∧ t.dev.get F.LSW_CH_FLAGS_OTABS (s.dev.chSel 0x22 a) = 0 ∧ t.dev.get F.LSW_CH_FLAGS_RETRYX (s.dev.chSel 0x22 a) = 0 ∧ (t.dev.get F.LSW_CH_STAT_STATE (s.dev.chSel 0x22 a) = 0 ∨ t.dev.get F.LSW_CH_STAT_STATE (s.dev.chSel 0x22 a) = 6)   else t.dev.get F.LSW_CH_STAT_STATE (s.dev.chSel 0x22 a) = s.dev.get F.LSW_CH_STAT_STATE (s.dev.chSel 0x22 a) ∧ Reported s t 0x22 0 0x0202)) ∧
  (∀ (s : State) (c : Fin 24) (tj : BitVec 16), tj.toInt < 1750 →
      Answers (.junctionRead c tj) s (fun t => t.dev.get F.LSW_CH_TEMP_TJ c = tj.toNat % 2 ^ F.LSW_CH_TEMP_TJ.width ∧ t.dev.get F.LSW_CH_STAT_STATE c = s.dev.get F.LSW_CH_STAT_STATE c)) ∧
  (∀ (s : State) (c : Fin 24) (tj : BitVec 16), 1750 ≤ tj.toInt → tj.toInt < 1900 → s.dev.lswLive c = true →
      Answers (.junctionRead c tj) s (fun t => t.dev.get F.LSW_CH_STAT_STATE c = (if s.dev.get F.LSW_CH_CFG_RSTMODE c = 1 then 4 else 3) ∧ t.dev.get F.LSW_CH_FLAGS_OT c = 1 ∧ Reported s t 0x22 1 0x0205)) ∧
  (∀ (s : State) (c : Fin 24) (tj : BitVec 16), 1900 ≤ tj.toInt → s.dev.get F.LSW_CH_STAT_STATE c ≠ 4 →
      Answers (.junctionRead c tj) s (fun t => t.dev.get F.LSW_CH_STAT_STATE c = 4 ∧ t.dev.get F.LSW_CH_FLAGS_OTABS c = 1 ∧ Reported s t 0x22 1 0x0205)) ∧
  (∀ (s : State) (c : Fin 24), s.dev.get F.LSW_CH_STAT_STATE c = 3 → s.dev.getI F.LSW_CH_TEMP_TJ c ≤ 1500 → (s.dev.var V.lswScTrip c = 0 ∨ s.dev.passed V.lswTripAt c 100000000 = true) → s.dev.var V.lswTheta c < ((s.dev.lswClass c).2.2 : Int) * 10000 * 65536 → s.dev.lswHold c = 0 → s.dev.lswCmd c ≠ 0 → s.dev.var V.lswRearm c ≠ 1 →
      Answers (.autoRestart c) s (fun t => if s.dev.get F.LSW_CH_STAT_RTRN c < max 1 (s.dev.get F.LSW_CH_CFG_RETRY c) then (t.dev.get F.LSW_CH_STAT_RTRN c = (s.dev.get F.LSW_CH_STAT_RTRN c + 1) % 2 ^ F.LSW_CH_STAT_RTRN.width ∧ (s.dev.lswCrank c = false → t.dev.get F.LSW_CH_STAT_STATE c = (if s.dev.get F.LSW_CH_CFG_TIR c = 0 then 1 else 2))) else (t.dev.get F.LSW_CH_STAT_STATE c = 4 ∧ t.dev.get F.LSW_CH_FLAGS_RETRYX c = 1))) ∧
  (∀ (s : State), s.dev.var V.retryWin 0 ≠ s.dev.now / 10000000000 →
      Answers .retryWindow s (fun t => (∀ c < 24, t.dev.get F.LSW_CH_STAT_RTRN c = 0) ∧ t.dev.var V.retryWin 0 = s.dev.now / 10000000000)) ∧
  (∀ (s : State) (c : Fin 24) (volt : BitVec 16), s.dev.get F.LSW_CH_CFG_OLEN c = 1 → s.dev.lswLive c = false → s.dev.passed V.lswOffAt c 2000000 = true → s.dev.passed V.olAt c 10000000 = true →
      Answers (.openLoadCheck c volt) s (fun t => t.dev.get F.LSW_CH_IMEAS_OLV c = volt.toNat % 2 ^ F.LSW_CH_IMEAS_OLV.width ∧ (800 < volt.toNat → 2 ≤ s.dev.var V.olHi c → t.dev.get F.LSW_CH_FLAGS_STB c = 1 ∧ (s.dev.get F.LSW_CH_FLAGS_STB c = 0 → t.dev.get F.LSW_CH_STAT_FAULT c = 1)) ∧ (400 < volt.toNat → volt.toNat ≤ 800 → 2 ≤ s.dev.var V.olMid c → t.dev.get F.LSW_CH_FLAGS_OPEN c = 1 ∧ (s.dev.get F.LSW_CH_FLAGS_OPEN c = 0 → t.dev.get F.LSW_CH_STAT_FAULT c = 1))))

/-- LSW: effects of the stud, supply-hold and link commands where their conditions hold (R331, R335, R336, R353, R354, R355, R356, R357, R366, R367, R368, R383). -/
def Obligations.LoadSwitchesStudsHoldsAndLinks : Prop :=
  (∀ (s : State) (st : Fin 2), s.dev.var V.studTick st < s.dev.var V.ticks 0 → (s.dev.past 7 st).length < 1000 →
      Answers (.studBudgetStep st) s (fun t => t.dev.var V.studTick st = s.dev.var V.ticks 0 ∧ t.dev.var V.studLimit st = (if s.dev.var V.ticks 0 % 10 = 0 then (s.dev.studSet st : Int) else s.dev.var V.studLimit st) ∧ t.dev.var V.studSum st = s.dev.var V.studSum st + (((studChans st).map (fun c => s.dev.get F.LSW_CH_IMEAS_I c * s.dev.lswFrac c)).sum : Nat) ∧ t.dev.get F.LSW_STUD_AVG st = (t.dev.var V.studSum st / 100000000).toNat % 2 ^ F.LSW_STUD_AVG.width)) ∧
  (∀ (s : State) (st : Fin 2) (c : Fin 24), s.dev.studOver st = true → s.dev.passed V.shedAt st 10000000 = true → s.dev.studShed st = some c.val → s.dev.lswFrozen = false →
      Answers (.loadShed st) s (fun t => t.dev.get F.LSW_CH_STAT_STATE c = 5 ∧ t.dev.get F.LSW_CH_FLAGS_SHED c = 1 ∧ Reported s t 0x22 0 0x0209)) ∧
  (∀ (s : State) (st : Fin 2), 1000 ≤ s.dev.var V.studHi st → s.dev.get F.LSW_STUD_STUDOV st = 0 →
      Answers (.studOverload st) s (fun t => t.dev.get F.LSW_STUD_STUDOV st = 1 ∧ Reported s t 0x22 1 0x0206)) ∧
  (∀ (s : State) (st : Fin 2) (c : Fin 24), 1000 ≤ s.dev.var V.studLow st → s.dev.passed V.shedRet st 100000000 = true → (studChans st).find? (fun k => s.dev.get F.LSW_CH_STAT_STATE k == 5) = some c.val → s.dev.lswFrozen = false → s.dev.var V.lswRearm c = 0 → s.dev.lswHold c = 0 → s.dev.lswCrank c = false → s.dev.lswCmd c ≠ 0 →
      Answers (.shedReturn st) s (fun t => t.dev.get F.LSW_CH_STAT_STATE c = (if s.dev.get F.LSW_CH_CFG_TIR c = 0 then 1 else 2) ∧ t.dev.var V.shedRet st = s.dev.var V.uptime 0)) ∧
  (∀ (s : State) (st : Fin 2) (mv : BitVec 17), mv.toNat < 28000 →
      Answers (.crankHold st mv) s (fun t => (if st = 0 then t.dev.get F.LSW_SUPPLY_CRANKA 0 else t.dev.get F.LSW_SUPPLY_CRANKB 0) = 1 ∧ t.dev.get F.LSW_STUD_VSTUD st = mv.toNat / 1000)) ∧
  (∀ (s : State) (st : Fin 2) (mv : BitVec 17), 28500 ≤ mv.toNat →
      Answers (.crankEnd st mv) s (fun t => (if st = 0 then t.dev.get F.LSW_SUPPLY_CRANKA 0 else t.dev.get F.LSW_SUPPLY_CRANKB 0) = 0)) ∧
  (∀ (s : State) (st : Fin 2) (mv : BitVec 17) (c : Fin 24), mv.toNat < 12000 → c.val ∈ studChans st → s.dev.get F.LSW_CH_STAT_STATE c ≠ 3 → s.dev.get F.LSW_CH_STAT_STATE c ≠ 4 → s.dev.get F.LSW_CH_STAT_STATE c ≠ 5 →
      Answers (.brownOut st mv) s (fun t => (if st = 0 then t.dev.get F.LSW_SUPPLY_BROWNA 0 else t.dev.get F.LSW_SUPPLY_BROWNB 0) = 1 ∧ t.dev.get F.LSW_CH_FLAGS_BROWN c = 1 ∧ t.dev.get F.LSW_CH_STAT_STATE c = 6)) ∧
  (∀ (s : State) (st : Fin 2) (mv : BitVec 17), 28500 ≤ mv.toNat →
      Answers (.brownOutEnd st mv) s (fun t => (if st = 0 then t.dev.get F.LSW_SUPPLY_BROWNA 0 else t.dev.get F.LSW_SUPPLY_BROWNB 0) = 0)) ∧
  (∀ (s : State) (c : Fin 24), s.dev.get F.PWR_SUPPLY_UV 0 = 0 → s.dev.var V.supOn 0 = 1 → s.dev.passed V.supOnAt 0 20000000 = true → s.dev.get F.LSW_CH_STAT_STATE c ≠ 3 → s.dev.get F.LSW_CH_STAT_STATE c ≠ 4 → s.dev.get F.LSW_CH_STAT_STATE c ≠ 5 →
      Answers .moduleUndervoltage s (fun t => t.dev.get F.PWR_SUPPLY_UV 0 = 1 ∧ t.dev.get F.LSW_SUPPLY_UV 0 = 1 ∧ t.dev.get F.SOL_SUPPLY_UV 0 = 1 ∧ t.dev.get F.LSW_CH_FLAGS_UV c = 1 ∧ t.dev.get F.LSW_CH_STAT_STATE c = 6 ∧ Reported s t 0x01 1 0x0206)) ∧
  (∀ (s : State), s.dev.get F.PWR_SUPPLY_UV 0 = 1 → s.dev.var V.supOn 1 = 1 → s.dev.passed V.supOnAt 1 50000000 = true →
      Answers .undervoltageEnd s (fun t => t.dev.get F.PWR_SUPPLY_UV 0 = 0 ∧ t.dev.get F.LSW_SUPPLY_UV 0 = 0 ∧ t.dev.get F.SOL_SUPPLY_UV 0 = 0)) ∧
  (∀ (s : State) (c : Fin 24), 0 ≤ s.dev.var V.lswDue c → s.dev.var V.lswDue c ≤ s.dev.var V.uptime 0 → s.dev.get F.LSW_CH_STAT_STATE c = 6 → s.dev.lswFrozen = false → s.dev.var V.lswRearm c = 0 → s.dev.var V.lswCw c = 0 → s.dev.lswHold c = 0 → s.dev.lswCrank c = false → s.dev.lswCmd c ≠ 0 →
      Answers (.staggeredTurnOn c) s (fun t => t.dev.get F.LSW_CH_STAT_STATE c = (if s.dev.get F.LSW_CH_CFG_TIR c = 0 then 1 else 2) ∧ t.dev.var V.lswDue c = -1)) ∧
  (∀ (s : State) (p : Fin 2), s.dev.var V.pscDown p ≠ 1 →
      Answers (.pscLinkLoss p) s (fun t => t.dev.get (pscLink p) 0 = 0 ∧ t.dev.var V.pscDown p = 1 ∧ t.dev.var V.pscAt p = s.dev.var V.uptime 0 ∧ t.dev.get (pscOff p) 0 = s.dev.get (pscOff p) 0)) ∧
  (∀ (s : State) (p : Fin 2), s.dev.var V.pscDown p = 1 → s.dev.get (pscOff p) 0 = 0 → s.dev.passed V.pscAt p 2000000 = true →
      Answers (.pscLinkHoldEnd p) s (fun t => t.dev.get (pscOff p) 0 = 1 ∧ Reported s t 0x22 2 (if p = 0 then 0x0207 else 0x020A) ∧ t.dev.get F.FBRK_LATCH_GROUPS 0 = 255)) ∧
  (∀ (s : State) (p : Fin 2),
      Answers (.pscLinkRelock p) s (fun t => t.dev.get (pscLink p) 0 = 1 ∧ t.dev.var V.pscDown p = 0 ∧ t.dev.get (pscOff p) 0 = s.dev.get (pscOff p) 0)) ∧
  (∀ (s : State) (a : Acc) (p : Fin 2), Taken s 0x22 a → s.dev.var V.pscDown p ≠ 1 →
      Answers (.pscAck a p) s (fun t => t.dev.get (pscOff p) 0 = 0))

/-- FBRK: effects of its commands on pairs, groups, latches and the reset where their conditions hold (R372, R373, R374, R375, R377, R379, R381, R383, R384, R388, R391). -/
def Obligations.FirebreakInputsGroupsAndLatches : Prop :=
  (∀ (s : State) (p : Fin 16) (b : Bool), pulseStart (2 * p.val + bit b) ≤ s.dev.pulsePhase → s.dev.pulsePhase < pulseStart (2 * p.val + bit b) + 40 * 65536 → s.dev.passed V.tpAt (2 * p.val + bit b) 10000000 = true →
      Answers (.testPulse p b) s (fun t => t.dev.var V.tpAt (2 * p.val + bit b) = s.dev.var V.uptime 0 ∧ t.dev.var V.tpOpen 0 = 1 ∧ t.dev.var V.tpCur 0 = ((2 * p.val + bit b : Nat) : Int) ∧ (∀ k < 32, t.dev.var V.xsPre k = s.dev.var V.inLvl k))) ∧
  (∀ (s : State) (x : List SafeIn) (i : Fin 32), s.dev.var V.tpOpen 0 ≠ 1 → s.dev.passed V.safeAt 0 100000 = true → s.dev.passed V.tpAt i 600000 = true → s.dev.var V.runN i ≠ 0 → s.dev.var V.runV i = bit (s.dev.fbClosed i (safeLevel x i)) → ((10 * s.dev.fbFilt (i.val / 2) + 1 : Nat) : Int) ≤ s.dev.var V.runN i + 1 → s.dev.fbType (i.val / 2) ≠ 2 →
      Answers (.safeInputSample x) s (fun t => t.dev.get (fbIn i) (i.val / 2) = bit (s.dev.fbClosed i (safeLevel x i)) ∧ t.dev.var V.runN i = s.dev.var V.runN i + 1)) ∧
  (∀ (s : State) (p : Fin 16), s.dev.get F.FBRK_PR_CFG_EN p = 1 → s.dev.running 0x24 = true → s.dev.fbType p ≠ 2 → s.dev.get F.FBRK_PR_STAT_STATE p ≠ 4 →
      Answers (.testSourceFault p) s (fun t => t.dev.get F.FBRK_PR_STAT_STATE p = 4 ∧ t.dev.get F.FBRK_PR_STAT_FCODE p = 4 ∧ Reported s t 0x24 2 0x0203)) ∧
  (∀ (s : State) (p : Fin 16), s.dev.get F.FBRK_PR_STAT_STATE p = 3 → s.dev.passed V.discAt p ((max 1 (s.dev.get F.FBRK_PR_CFG_DISC_T p) : Nat) * 10000000) = true →
      Answers (.discrepancyTimeout p) s (fun t => t.dev.get F.FBRK_PR_STAT_STATE p = 4 ∧ t.dev.get F.FBRK_PR_STAT_FCODE p = 1 ∧ (∀ g < 8, tbit (s.dev.get F.FBRK_GRP_CFG_PAIRS g) p = true → tbit (t.dev.get F.FBRK_LATCH_GROUPS 0) g = true))) ∧
  (∀ (s : State) (wa wb : BitVec 8) (df : Bool) (off : BitVec 8) (g : Fin 8), s.dev.running 0x24 = true → s.dev.passed V.fbCyc 0 1000000 = true → s.dev.get F.FBRK_GRP_CFG_EN g = 1 → tbit (s.dev.get F.FBRK_LATCH_GROUPS 0) g = true →
      Answers (.fbrkCycle ⟨wa, wb, df⟩ off) s (fun t => t.dev.get F.FBRK_GRP_STAT_STATE g = 4 ∧ t.dev.get F.FBRK_GRP_STAT_CUTA g = bit (!tbit wa.toNat g) ∧ t.dev.get F.FBRK_GRP_STAT_CUTB g = bit (!tbit wb.toNat g) ∧ (s.dev.get F.FBRK_GRP_STAT_STATE g = 0 → t.dev.get F.FBRK_GRP_CNT_CUTS g = min (s.dev.get F.FBRK_GRP_CNT_CUTS g + 1) (2 ^ F.FBRK_GRP_CNT_CUTS.width - 1)) ∧ t.dev.var V.fbCyc 0 = s.dev.var V.uptime 0)) ∧
  (∀ (s : State) (wa wb : BitVec 8) (df : Bool) (off : BitVec 8) (g : Fin 8), s.dev.running 0x24 = true → s.dev.passed V.fbCyc 0 1000000 = true → s.dev.get F.FBRK_GRP_CFG_EN g = 0 →
      Answers (.fbrkCycle ⟨wa, wb, df⟩ off) s (fun t => t.dev.get F.FBRK_GRP_STAT_STATE g = 5 ∧ t.dev.get F.FBRK_GRP_STAT_CUTA g = 0 ∧ t.dev.get F.FBRK_GRP_STAT_CUTB g = 0)) ∧
  (∀ (s : State) (a : Acc) (m : BitVec 8) (g : Fin 8), Taken s 0x24 a → tbit m.toNat g = true → s.dev.get F.FBRK_GRP_STAT_STATE g = 2 →
      Answers (.groupRestart a m) s (fun t => t.dev.var V.grpCut g = 0)) ∧
  (∀ (s : State) (a : Acc) (en : Bool), Taken s 0x24 a →
      Answers (.fbrkEnable a en) s (fun t => t.dev.get F.COM_CTRL_EN 0x24 = bit (en && s.dev.fbCheck) ∧ (en = true → s.dev.fbCheck = false → Reported s t 0x24 2 0x0201) ∧ (en = true → s.dev.fbCheck = true → s.dev.get F.COM_CTRL_EN 0x24 = 0 → ∀ p < 16, tbit (t.dev.get F.FBRK_TEST_PEND 0) p = decide (s.dev.get F.FBRK_PR_CFG_TESTREQ p = 1)))) ∧
  (∀ (s : State), (s.dev.var V.lswFb 0 ≠ 0 ∨ s.dev.var V.solFb 0 ≠ 0) → s.dev.passed V.fbCutAt 0 20000000 = true →
      Answers .readbackFault s (fun t => t.dev.get F.FBRK_LATCH_GROUPS 0 = 255 ∧ t.dev.get F.FBRK_LATCH_LCAUSE 0 = 3 ∧ Reported s t 0x24 3 0x0204)) ∧
  (∀ (s : State),
      Answers .resetButtonRise s (fun t => t.dev.var V.rbHigh 0 = 1 ∧ t.dev.var V.rbAt 0 = s.dev.var V.uptime 0)) ∧
  (∀ (s : State) (e : Fin 11) (ms : Nat), s.dev.var V.rbHigh 0 = 1 → ms = (s.dev.since V.rbAt 0 / 65536000000).toNat + e.val - 5 →
      Answers (.resetButtonPulse e) s (fun t => t.dev.get F.FBRK_RSTSTAT_PULSE 0 = min 4095 ms ∧ t.dev.var V.rbHigh 0 = 0 ∧ t.dev.get F.FBRK_RSTSTAT_WINDOW 0 = (if s.dev.get F.FBRK_RSTSTAT_STUCK 0 ≠ 1 ∧ 200 ≤ ms ∧ ms ≤ 2000 then 1 else s.dev.get F.FBRK_RSTSTAT_WINDOW 0))) ∧
  (∀ (s : State), s.dev.get F.FBRK_RSTSTAT_WINDOW 0 = 1 → s.dev.passed V.rwAt 0 1000000000 = true →
      Answers .resetWindowTimeout s (fun t => t.dev.get F.FBRK_RSTSTAT_WINDOW 0 = 0)) ∧
  (∀ (s : State), s.dev.var V.rbHigh 0 = 1 → s.dev.passed V.rbAt 0 2000000000 = true →
      Answers .resetButtonStuck s (fun t => t.dev.get F.FBRK_RSTSTAT_STUCK 0 = 1)) ∧
  (∀ (s : State) (a : Acc) (key src : BitVec 16) (rb : Bool), Taken s 0x24 a → a.bank.val ≠ 10 → s.dev.get F.FBRK_RSTSTAT_WINDOW 0 = 1 → key = 0xC3A5#16 → (∀ p < 16, s.dev.var V.prCode p = 0) → s.dev.var V.fbCause 0 = 0 →
      Answers (.faultResetKey a key src rb) s (fun t => t.dev.get F.FBRK_RSTSTAT_WINDOW 0 = 0 ∧ t.dev.get F.FBRK_LATCH_GROUPS 0 = 0)) ∧
  (∀ (s : State) (a : Acc) (key src : BitVec 16) (rb : Bool), Taken s 0x24 a → a.bank.val ≠ 10 → s.dev.get F.FBRK_RSTSTAT_WINDOW 0 = 1 → key ≠ 0xC3A5#16 →
      Answers (.faultResetKey a key src rb) s (fun t => t.dev.get F.FBRK_RSTSTAT_WINDOW 0 = 0 ∧ t.dev.get F.FBRK_LATCH_GROUPS 0 = s.dev.get F.FBRK_LATCH_GROUPS 0 ∧ t.dev.get F.FBRK_RSTSTAT_REFUSED 0 = min (s.dev.get F.FBRK_RSTSTAT_REFUSED 0 + 1) (2 ^ F.FBRK_RSTSTAT_REFUSED.width - 1) ∧ Reported s t 0x24 0 0x0202)) ∧
  (∀ (s : State) (a : Acc) (key src : BitVec 16) (rb : Bool), Taken s 0x24 a → (a.bank.val = 10 ∨ s.dev.get F.FBRK_RSTSTAT_WINDOW 0 ≠ 1) →
      Answers (.faultResetKey a key src rb) s (fun t => t.dev.get F.FBRK_RSTSTAT_WINDOW 0 = s.dev.get F.FBRK_RSTSTAT_WINDOW 0 ∧ t.dev.get F.FBRK_LATCH_GROUPS 0 = s.dev.get F.FBRK_LATCH_GROUPS 0 ∧ t.dev.get F.FBRK_RSTSTAT_REFUSED 0 = min (s.dev.get F.FBRK_RSTSTAT_REFUSED 0 + 1) (2 ^ F.FBRK_RSTSTAT_REFUSED.width - 1) ∧ Reported s t 0x24 0 0x0202)) ∧
  (∀ (s : State) (a : Acc), Taken s 0x24 a →
      Answers (.reactClear a) s (fun t => t.dev.get F.FBRK_REACT_MAXR 0 = 0))

/-- BUS: effects of the frame, request, error and channel commands where their conditions hold (R395, R400, R402, R404, R405, R406, R407, R409, R412, R413, R422). -/
def Obligations.CanFramesReceivedSentAndCounted : Prop :=
  (∀ (s : State) (a : Acc) (n : Fin 3) (u : BitVec 32), Taken s 0x28 a → (s.dev.chSel 0x28 a) < 8 → s.dev.get F.BUS_CH_CFG_EN (s.dev.chSel 0x28 a) = 0 →
      Answers (.canChannelEnable a ⟨true, n, u⟩) s (fun t => t.dev.get F.BUS_CH_CFG_EN (s.dev.chSel 0x28 a) = 1 ∧ t.dev.get F.BUS_CH_STAT_STATE (s.dev.chSel 0x28 a) = bit (s.dev.running 0x28) ∧ t.dev.get F.BUS_CH_STAT_TEC (s.dev.chSel 0x28 a) = 0 ∧ t.dev.get F.BUS_CH_STAT_REC (s.dev.chSel 0x28 a) = 0)) ∧
  (∀ (s : State) (a : Acc) (n : Fin 3) (u : BitVec 32), Taken s 0x28 a → (s.dev.chSel 0x28 a) < 8 → s.dev.get F.BUS_CH_CFG_EN (s.dev.chSel 0x28 a) = 1 →
      Answers (.canChannelEnable a ⟨false, n, u⟩) s (fun t => t.dev.get F.BUS_CH_CFG_EN (s.dev.chSel 0x28 a) = 0 ∧ (if n = 0 ∨ s.dev.canWired (s.dev.chSel 0x28 a) = false then t.dev.get F.BUS_CH_STAT_STATE (s.dev.chSel 0x28 a) = 0 else t.dev.get F.BUS_CH_STAT_STATE (s.dev.chSel 0x28 a) = s.dev.get F.BUS_CH_STAT_STATE (s.dev.chSel 0x28 a) ∧ t.dev.var V.canLeave (s.dev.chSel 0x28 a) = 1) ∧ (n ≠ 2 → ∀ b < 256, s.dev.get F.BUF_CTRL_TXREQ (bufIx (s.dev.chSel 0x28 a) b) = 1 → t.dev.get F.BUF_CTRL_TXREQ (bufIx (s.dev.chSel 0x28 a) b) = 0 ∧ t.dev.get F.BUF_CTRL_RESULT (bufIx (s.dev.chSel 0x28 a) b) = 5))) ∧
  (∀ (s : State) (c : Fin 8) (f : CanIn) (dur : BitVec 32), s.dev.canWired c = true →
      Answers (.canFrameReceived c f dur) s (fun t => if s.dev.canFormatOk c f.xlf f.fdf = false then t.dev.get F.BUS_CH_STAT_STATE c = (if s.dev.var V.canLeave c = 1 then 0 else 1) ∧ t.dev.canHold = s.dev.canHold   else if s.dev.canHold.countP (fun x => x.ch == c.val) < 2 then t.dev.canHold = s.dev.canHold ++ [⟨c, f.ide && !f.xlf, f.fdf, f.xlf, if (f.ide && !f.xlf) = true then f.id.toNat else f.id.toNat % 2048, f.fmt.toNat, f.af.toNat, f.data.map (fun x => x.toNat), (s.dev.now - dur.toNat).toNat⟩] else t.dev.canHold = s.dev.canHold ∧ t.dev.get F.BUS_CH_STAT_HOLDOVR c = 1)) ∧
  (∀ (s : State) (f : CanFrame) (l : List CanFrame), s.dev.running 0x29 = true → s.dev.canHold = f :: l → f.ch < 8 →
      Answers .canFrameStored s (fun t => t.dev.canHold = l ∧ (s.dev.filtFind f = none → t.dev.get F.FLT_CNT_NOHIT (f.ch) = min (s.dev.get F.FLT_CNT_NOHIT (f.ch) + 1) (2 ^ F.FLT_CNT_NOHIT.width - 1)) ∧   (∀ e, s.dev.filtFind f = some e → t.dev.get F.FLT_CNT_HIT (f.ch) = min (s.dev.get F.FLT_CNT_HIT (f.ch) + 1) (2 ^ F.FLT_CNT_HIT.width - 1) ∧ (s.dev.get F.FLT_ENT_DEST e = 0 → ∀ b, s.dev.rxBuffer f = some b → t.dev.get F.BUF_CTRL_NDAT (bufIx f.ch b) = 1 ∧ t.dev.get F.BUF_ID_ID (bufIx f.ch b) = f.id % 2 ^ F.BUF_ID_ID.width ∧ t.dev.get F.BUF_SOF_SOF (bufIx f.ch b) = f.sof % 2 ^ F.BUF_SOF_SOF.width)))) ∧
  (∀ (s : State) (a : Acc) (n : Fin 8) (v : BitVec 32), Taken s 0x28 a → (s.dev.chSel 0x28 a) < 8 →
      Answers (.ndatClear a n v) s (fun t => ∀ b < 32, tbit v.toNat b = true → t.dev.get F.BUF_CTRL_NDAT (bufIx (s.dev.chSel 0x28 a) (32 * n.val + b)) = 0)) ∧
  (∀ (s : State) (a : Acc) (b : Fin 256) (k : Nat), Taken s 0x28 a → (s.dev.chSel 0x28 a) < 8 → k = bufIx (s.dev.chSel 0x28 a) b → s.dev.isHead (s.dev.chSel 0x28 a) b = true → s.dev.bufTaken (s.dev.chSel 0x28 a) b = false → s.dev.bufDir (s.dev.chSel 0x28 a) b = 2 →
      Answers (.transmitRequest a b) s (fun t => if 0 < s.dev.var V.canLoop k ∨ s.dev.get F.BUF_CTRL_TXREQ k = 1 ∨ s.dev.get F.BUS_CH_CFG_EN (s.dev.chSel 0x28 a) = 0 ∨ s.dev.get F.BUS_CH_CFG_LOM (s.dev.chSel 0x28 a) = 1 ∨ s.dev.canFormatOk (s.dev.chSel 0x28 a) (s.dev.on F.BUF_ID_XLF k) (s.dev.on F.BUF_ID_FDF k) = false ∨ s.dev.bufCap (s.dev.chSel 0x28 a) b < s.dev.bufLen (s.dev.chSel 0x28 a) b then t.dev.get F.BUF_CTRL_TXREQ k = s.dev.get F.BUF_CTRL_TXREQ k ∧ t.dev.get F.BUF_CTRL_RESULT k = 6 ∧ Reported s t 0x28 0 0x0203   else if s.dev.bufPriv (s.dev.chSel 0x28 a) b = true ∧ s.dev.get F.BUS_CH_STAT_STATE (s.dev.chSel 0x28 a) = 4 then t.dev.get F.BUF_CTRL_TXREQ k = 0 ∧ t.dev.get F.BUF_CTRL_RESULT k = 4 else t.dev.get F.BUF_CTRL_TXREQ k = 1 ∧ t.dev.get F.BUF_CTRL_RESULT k = 0)) ∧
  (∀ (s : State) (a : Acc) (b : Fin 256) (x : Bool) (k : Nat), Taken s 0x28 a → (s.dev.chSel 0x28 a) < 8 → k = bufIx (s.dev.chSel 0x28 a) b → s.dev.isHead (s.dev.chSel 0x28 a) b = true → s.dev.bufTaken (s.dev.chSel 0x28 a) b = false → s.dev.get F.BUF_CTRL_TXREQ k = 1 →
      Answers (.transmitAbort a b x) s (fun t => if x = true ∧ s.dev.canUp (s.dev.chSel 0x28 a) = true then t.dev.get F.BUF_CTRL_TXREQ k = 1 ∧ t.dev.var V.txStop k = 1 else t.dev.get F.BUF_CTRL_TXREQ k = 0 ∧ t.dev.get F.BUF_CTRL_RESULT k = 5)) ∧
  (∀ (s : State) (c : Fin 8) (b : Fin 256) (dur : BitVec 32), s.dev.canUp c = true → s.dev.txMay c b (s.dev.var V.uptime 0 - (dur.toNat : Int) * 65536) = true →
      Answers (.transmitEnd c ⟨b.val, by omega⟩ 0 dur) s (fun t => t.dev.get F.BUF_CTRL_TXREQ (bufIx c b) = 0 ∧ t.dev.get F.BUF_CTRL_RESULT (bufIx c b) = 1 ∧ t.dev.var V.canTec c = max 0 (s.dev.var V.canTec c - 1))) ∧
  (∀ (s : State) (c : Fin 8) (b : Fin 256) (r : Fin 5) (dur : BitVec 32), r ≠ 0 → s.dev.canWired c = true → s.dev.txMay c b (s.dev.var V.uptime 0 - (dur.toNat : Int) * 65536) = true →
      Answers (.transmitEnd c ⟨b.val, by omega⟩ r dur) s (fun t => t.dev.var V.canTec c = (if r = 1 ∨ r = 4 ∨ (r = 3 ∧ s.dev.get F.BUS_CH_STAT_STATE c = 3) then s.dev.var V.canTec c else s.dev.var V.canTec c + 8) ∧ (if s.dev.var V.txStop (bufIx c b) = 1 then t.dev.get F.BUF_CTRL_TXREQ (bufIx c b) = 0 ∧ t.dev.get F.BUF_CTRL_RESULT (bufIx c b) = 5 else if s.dev.bufPriv c b = true then t.dev.get F.BUF_CTRL_TXREQ (bufIx c b) = 0 ∧ t.dev.get F.BUF_CTRL_RESULT (bufIx c b) = (if r = 1 then 2 else 3) else t.dev.get F.BUF_CTRL_TXREQ (bufIx c b) = s.dev.get F.BUF_CTRL_TXREQ (bufIx c b)))) ∧
  (∀ (s : State) (c : Fin 8), s.dev.get F.BUS_CH_STAT_STATE c = 1 → s.dev.running 0x28 = true →
      Answers (.canIntegrationEnd c) s (fun t => t.dev.get F.BUS_CH_STAT_STATE c = (if 127 < s.dev.var V.canTec c ∨ 127 < s.dev.var V.canRec c then 3 else 2))) ∧
  (∀ (s : State) (c : Fin 8) (big : Bool), s.dev.canWired c = true →
      Answers (.canBusError c big) s (fun t => t.dev.var V.canRec c = min 256 (s.dev.var V.canRec c + if big then 8 else 1))) ∧
  (∀ (s : State) (c : Fin 8), s.dev.canUp c = true → 255 < s.dev.var V.canTec c →
      Answers (.busOff c) s (fun t => t.dev.get F.BUS_CH_STAT_STATE c = 4 ∧ t.dev.get F.BUS_CH_CNT_BOCNT c = min (s.dev.get F.BUS_CH_CNT_BOCNT c + 1) (2 ^ F.BUS_CH_CNT_BOCNT.width - 1) ∧ t.dev.get F.COM_STAT_FAULT 0x28 = 1)) ∧
  (∀ (s : State) (c : Fin 8), s.dev.get F.BUS_CH_STAT_STATE c = 4 → s.dev.passed V.boAt c (s.dev.nominalBit c * 8800 : Nat) = true →
      Answers (.busOffRecovery c) s (fun t => t.dev.get F.BUS_CH_STAT_STATE c = 2 ∧ t.dev.var V.canTec c = 0 ∧ t.dev.var V.canRec c = 0)) ∧
  (∀ (s : State) (c : Fin 8) (f : Bool),
      Answers (.transceiverFault c f) s (fun t => t.dev.get F.BUS_CH_STAT_TRXFLT c = bit f ∧ (f = true → s.dev.get F.BUS_CH_STAT_TRXFLT c = 0 → Reported s t 0x28 1 0x0209)))

/-- BUS: effects of the fixed-message, claim and partner commands where their conditions hold (R92, R408, R411, R415, R416, R417, R418, R423). -/
def Obligations.CanMessagesClaimsAndPartners : Prop :=
  (∀ (s : State) (c : Fin 8), s.dev.get F.BUS_CH_FBMSG_EN c = 1 → s.dev.running 0x28 = true → (s.dev.passed V.fbLast c ((min 1000 (max 10 (s.dev.get F.BUS_CH_FBPER_FBPER c : Int))) * 1000000) = true ∨ (s.dev.var V.fbChg c = 1 ∧ s.dev.passed V.fbLast c 2000000 = true)) →
      Answers (.firebreakMessage c) s (fun t => t.dev.var V.fbSeq c = (s.dev.var V.fbSeq c + 1) % 16 ∧ (if s.dev.get F.BUF_CTRL_TXREQ (bufIx c 1) = 1 ∨ s.dev.get F.BUS_CH_CFG_EN c = 0 ∨ s.dev.get F.BUS_CH_CFG_LOM c = 1 then t.dev.get F.BUF_CTRL_RESULT (bufIx c 1) = 6 else if s.dev.get F.BUS_CH_STAT_STATE c = 4 then t.dev.get F.BUF_CTRL_RESULT (bufIx c 1) = 4 else t.dev.get F.BUF_CTRL_TXREQ (bufIx c 1) = 1 ∧ t.dev.bufData c 1 8 = (s.dev.fbMessage c).map (· % 256)))) ∧
  (∀ (s : State) (c : Fin 8), tbit (s.dev.get F.TIME_CANREF_CHMASK.act 0) c = true → s.dev.running 0x28 = true → s.dev.passed V.refLast c ((max 10 (s.dev.get F.TIME_CANREF_PERIOD.act 0 : Int)) * 1000000) = true →
      Answers (.canTimeReference c) s (fun t => if s.dev.get F.BUF_CTRL_TXREQ (bufIx c 0) = 1 then t.dev.get F.BUF_CTRL_RESULT (bufIx c 0) = 6 ∧ t.dev.var V.refSeq c = s.dev.var V.refSeq c else t.dev.var V.refSeq c = (s.dev.var V.refSeq c + 1) % 16 ∧ t.dev.bufData c 0 8 = (s.dev.refMessage c).map (· % 256) ∧ (if s.dev.get F.BUS_CH_CFG_EN c = 0 ∨ s.dev.get F.BUS_CH_CFG_LOM c = 1 then t.dev.get F.BUF_CTRL_RESULT (bufIx c 0) = 6 else if s.dev.get F.BUS_CH_STAT_STATE c = 4 then t.dev.get F.BUF_CTRL_RESULT (bufIx c 0) = 4 else t.dev.get F.BUF_CTRL_TXREQ (bufIx c 0) = 1))) ∧
  (∀ (s : State) (a : Acc) (n : Fin 4), Taken s 0x28 a → s.dev.get F.BUS_ISO_CFG_PREF n ≤ 253 →
      Answers (.addressClaim a n) s (fun t => t.dev.get F.BUS_ISO_STAT_STATE n = 1 ∧ t.dev.get F.BUS_ISO_STAT_ADDR n = s.dev.get F.BUS_ISO_CFG_PREF n % 2 ^ F.BUS_ISO_STAT_ADDR.width ∧ t.dev.var V.isoPend n = 1 ∧ t.dev.blob 42 n = leBytes 8 (s.dev.get F.BUS_ISO_NAME_NAME n))) ∧
  (∀ (s : State) (a : Acc) (n : Fin 4), Taken s 0x28 a → 253 < s.dev.get F.BUS_ISO_CFG_PREF n →
      Answers (.addressClaim a n) s (fun t => t.dev.get F.BUS_ISO_STAT_STATE n = s.dev.get F.BUS_ISO_STAT_STATE n ∧ Reported s t 0x28 0 0x0203)) ∧
  (∀ (s : State) (n : Fin 4), s.dev.get F.BUS_ISO_STAT_STATE n = 1 → s.dev.var V.isoSent n = 1 → s.dev.var V.isoHeard n = 0 → s.dev.var V.isoWait n = 0 → s.dev.passed V.isoAt n 250000000 = true →
      Answers (.claimSettled n) s (fun t => t.dev.get F.BUS_ISO_STAT_STATE n = 2)) ∧
  (∀ (s : State) (n : Fin 4), (s.dev.get F.BUS_ISO_STAT_STATE n = 1 ∨ s.dev.get F.BUS_ISO_STAT_STATE n = 2) → s.dev.var V.isoWait n ≠ 1 → s.dev.var V.isoHeard n ≠ 0 →
      Answers (.claimContention n ()) s (fun t => t.dev.var V.isoHeard n = 0 ∧ (if (s.dev.get F.BUS_ISO_NAME_NAME n : Int) < s.dev.var V.isoHeard n - 1 then t.dev.var V.isoPend n = 1 ∧ t.dev.get F.BUS_ISO_STAT_STATE n = s.dev.get F.BUS_ISO_STAT_STATE n else if tbit (s.dev.get F.BUS_ISO_NAME_NAME n) 63 = false ∨ s.dev.isoNext n = none then t.dev.var V.isoPend n = 0 ∧ t.dev.var V.isoWait n = 1 ∧ t.dev.var V.isoDelay n = ((s.dev.freeVal % 256 : Nat) : Int) else t.dev.get F.BUS_ISO_STAT_STATE n = 1 ∧ t.dev.var V.isoPend n = 1 ∧ (∀ x, s.dev.isoNext n = some x → t.dev.get F.BUS_ISO_STAT_ADDR n = x % 2 ^ F.BUS_ISO_STAT_ADDR.width)))) ∧
  (∀ (s : State) (n : Fin 4), s.dev.var V.isoWait n = 1 → s.dev.passed V.isoFrom n (s.dev.var V.isoDelay n * 600000) = true →
      Answers (.cannotClaim n) s (fun t => t.dev.var V.isoPend n = 2 ∧ t.dev.var V.isoWait n = 0 ∧ t.dev.get F.BUS_ISO_STAT_STATE n = 3 ∧ Reported s t 0x28 1 0x0206)) ∧
  (∀ (s : State) (n : Fin 4), s.dev.var V.isoAsked n = 1 → s.dev.var V.isoWait n ≠ 1 →
      Answers (.claimRequest n) s (fun t => t.dev.var V.isoAsked n = 0 ∧ (s.dev.get F.BUS_ISO_STAT_STATE n = 1 ∨ s.dev.get F.BUS_ISO_STAT_STATE n = 2 → t.dev.var V.isoPend n = 1) ∧ (s.dev.get F.BUS_ISO_STAT_STATE n = 3 → s.dev.var V.isoWait n = 0 → t.dev.var V.isoWait n = 2 ∧ t.dev.var V.isoFrom n = s.dev.var V.uptime 0))) ∧
  (∀ (s : State) (sa : Fin 254), s.dev.get F.BUS_PT_CFG_EN 0 = 1 → s.dev.var V.ptState sa = 1 → s.dev.var V.ptOwn sa = 0 → s.dev.passed V.ptSeen sa ((max 1 (s.dev.get F.BUS_PT_CFG_PTO 0) : Nat) * 10000000) = true →
      Answers (.partnerTimeout sa) s (fun t => t.dev.var V.ptState sa = 2 ∧ tbit (t.dev.get F.BUS_PT_CHG_CHG (sa.val / 32)) (sa.val % 32) = true))

/-- ETH: effects of the port, forwarding, ageing, gate, gPTP and trigger-message commands where their conditions hold (R91, R99, R428, R429, R431, R433, R438, R439, R462). -/
def Obligations.EthernetPortsTimeAndTriggers : Prop :=
  (∀ (s : State) (a : Acc) (en : Bool), Taken s 0x2A a → (s.dev.chSel 0x2A a) < 10 → s.dev.get F.ETH_PORT_STAT_TAKEN (s.dev.chSel 0x2A a) = 0 →
      Answers (.ethPortEnable a en) s (fun t => t.dev.get F.ETH_PORT_CFG_EN (s.dev.chSel 0x2A a) = bit en ∧ (en = false → s.dev.get F.ETH_PORT_STAT_LINK (s.dev.chSel 0x2A a) = 1 → t.dev.get F.ETH_PORT_STAT_LINK (s.dev.chSel 0x2A a) = 0))) ∧
  (∀ (s : State) (p : Fin 10) (up : Bool) (sqi : BitVec 3), s.dev.get F.ETH_PORT_STAT_TAKEN p = 0 → (up = false ∨ (s.dev.running 0x2A = true ∧ s.dev.get F.ETH_PORT_CFG_EN p = 1)) → s.dev.get F.ETH_PORT_STAT_LINK p ≤ 1 →
      Answers (.ethLinkChange p up sqi) s (fun t => t.dev.get F.ETH_PORT_STAT_LINK p = bit up ∧ t.dev.get F.ETH_PORT_STAT_SQI p = sqi.toNat)) ∧
  (∀ (s : State) (x : EthIn) (occ : BitVec 20), s.dev.ethUp x.port = true → (x.port.val = 8 → s.dev.plcaTurn x.node.toNat = true) → (2048 < x.data.length ∨ 524288 < occ.toNat + s.dev.ethWaiting + x.data.length) →
      Answers (.ethFrameForward x occ) s (fun t => t.dev.get F.ETH_PORT_DROP_FULL (x.port) = min (s.dev.get F.ETH_PORT_DROP_FULL (x.port) + 1) (2 ^ F.ETH_PORT_DROP_FULL.width - 1) ∧ t.dev.get F.ETH_PORT_CNT_RXF (x.port) = (s.dev.get F.ETH_PORT_CNT_RXF (x.port) + 1) % 2 ^ F.ETH_PORT_CNT_RXF.width)) ∧
  (∀ (s : State) (x : EthIn) (occ : BitVec 20) (vid pcp : Nat) (q : Fin 9) (l : List Nat), s.dev.ethUp x.port = true → (x.port.val = 8 → s.dev.plcaTurn x.node.toNat = true) → x.data.length ≤ 2048 → occ.toNat + s.dev.ethWaiting + x.data.length ≤ 524288 → (vid, pcp) = (match x.tag with | some z => (z.1.toNat, z.2.toNat) | none => (s.dev.get F.ETH_PORT_CFG_PVID (x.port), s.dev.get F.ETH_PORT_CFG_DEFPCP (x.port))) → pcp < 8 → l = (((s.dev.streamFilter x.port x.da.toNat vid pcp x.data.length).1.learn x.port x.sa.toNat vid).egress x.port x.da.toNat vid).2 →
      Answers (.ethFrameForward x occ) s (fun t => t.dev.get F.ETH_PORT_CNT_RXF (x.port) = (s.dev.get F.ETH_PORT_CNT_RXF (x.port) + 1) % 2 ^ F.ETH_PORT_CNT_RXF.width ∧ (if (s.dev.streamFilter x.port x.da.toNat vid pcp x.data.length).2 = false then t.dev.get F.ETH_PORT_DROP_QCI (x.port) = min (s.dev.get F.ETH_PORT_DROP_QCI (x.port) + 1) (2 ^ F.ETH_PORT_DROP_QCI.width - 1) ∧ t.dev.get F.ETH_PORT_CNT_TXF q = s.dev.get F.ETH_PORT_CNT_TXF q   else t.dev.get F.ETH_PORT_CNT_TXF q = (if q.val ∈ l ∧ s.dev.mayStart q pcp x.data.length = true then (s.dev.get F.ETH_PORT_CNT_TXF q + 1) % 2 ^ F.ETH_PORT_CNT_TXF.width else s.dev.get F.ETH_PORT_CNT_TXF q) ∧ t.dev.blob 9 (8 * q + pcp) = (if q.val ∈ l ∧ s.dev.mayStart q pcp x.data.length = false then s.dev.blob 9 (8 * q + pcp) ++ [x.data.length] else s.dev.blob 9 (8 * q + pcp))))) ∧
  (∀ (s : State) (i : Fin 2048), s.dev.running 0x2A = true → s.dev.passed V.fdbAt 0 1000000000 = true → s.dev.get F.FDB_ENT_VALID i = 1 →
      Answers .fdbAgeing s (fun t => t.dev.get F.FDB_AGE_AGE i = min (s.dev.get F.FDB_AGE_AGE i + 1) (2 ^ F.FDB_AGE_AGE.width - 1) ∧ (300 ≤ s.dev.get F.FDB_AGE_AGE i → s.dev.get F.FDB_ENT_STATIC i = 0 → t.dev.get F.FDB_ENT_VALID i = 0) ∧ (s.dev.get F.FDB_ENT_STATIC i = 1 → t.dev.get F.FDB_ENT_VALID i = 1))) ∧
  (∀ (s : State) (p : Fin 10), s.dev.running 0x2A = true →
      Answers (.gateListEntry p) s (fun t => t.dev.var V.gates p = ((s.dev.gatesNow p : Nat) : Int))) ∧
  (∀ (s : State) (p : Fin 10) (tc : Fin 8), s.dev.ethUp p = true → s.dev.get F.ETH_PORT_GCL_GEN.act p = 0 →
      Answers (.gateListEntry p) s (fun t => t.dev.blob 9 (8 * p + tc) = [])) ∧
  (∀ (s : State) (p : Fin 10), s.dev.gptpUp p = true →
      Answers (.gptpAnnounce p) s (fun t => t.dev.blob 3 p = s.dev.gptpQuality ∧ t.dev.get F.ETH_PORT_CNT_TXF p = (s.dev.get F.ETH_PORT_CNT_TXF p + 1) % 2 ^ F.ETH_PORT_CNT_TXF.width)) ∧
  (∀ (s : State) (p : Fin 10), s.dev.gptpUp p = true → s.dev.passed V.gpSync p (gptpPeriod (s.dev.get F.ETH_PORT_SYNC_SYNCI p)) = true →
      Answers (.gptpSync p) s (fun t => t.dev.blob 4 p = leBytes 8 s.dev.now.toNat ∧ t.dev.get F.ETH_PORT_CNT_TXF p = (s.dev.get F.ETH_PORT_CNT_TXF p + 2) % 2 ^ F.ETH_PORT_CNT_TXF.width ∧ t.dev.get F.GPTP_SYNCS_V p = (s.dev.get F.GPTP_SYNCS_V p + 1) % 2 ^ F.GPTP_SYNCS_V.width)) ∧
  (∀ (s : State) (p : Fin 10) (dly ratio : BitVec 32), s.dev.gptpUp p = true → s.dev.passed V.gpPdly p (gptpPeriod (s.dev.get F.ETH_PORT_SYNC_PDLYI p)) = true →
      Answers (.gptpPdelayReq p true dly ratio) s (fun t => t.dev.get F.GPTP_ASCAP_ASCAP p = 1 ∧ t.dev.get F.GPTP_MEANDLY_V p = dly.toNat ∧ t.dev.get F.GPTP_RATIO_V p = ratio.toNat)) ∧
  (∀ (s : State) (p : Fin 10), s.dev.gptpUp p = true →
      Answers (.gptpForeign p) s (fun t => t.dev.get F.GPTP_FOREIGN_V p = (s.dev.get F.GPTP_FOREIGN_V p + 1) % 2 ^ F.GPTP_FOREIGN_V.width ∧ t.dev.now = s.dev.now)) ∧
  (∀ (s : State) (e : Fin 16), s.dev.get F.TRIG_CFG_EN e = 1 → s.dev.get F.TRIG_CFG_TGT e = 1 → s.dev.running 0x2A = true → s.dev.var V.trgSent e ≠ s.dev.get F.TRIG_INST_INST e → (s.dev.get F.TRIG_INST_INST e : Int) - s.dev.get F.TRIG_CFG_LEAD e * 100000 ≤ s.dev.now → s.dev.get F.TRG_CFG_EN (s.dev.get F.TRIG_CFG_IDX e) = 1 → s.dev.get F.TRG_CFG_PORT (s.dev.get F.TRIG_CFG_IDX e) < 10 → s.dev.ethUp (s.dev.get F.TRG_CFG_PORT (s.dev.get F.TRIG_CFG_IDX e)) = true →
      Answers (.trigMessageSend e) s (fun t => t.dev.get F.TRG_SEQ_SEQ (s.dev.get F.TRIG_CFG_IDX e) = (s.dev.get F.TRG_SEQ_SEQ (s.dev.get F.TRIG_CFG_IDX e) + 1) % 65536 ∧ t.dev.blob 2 (s.dev.get F.TRIG_CFG_IDX e) = s.dev.trigBytes e (s.dev.get F.TRIG_CFG_IDX e) ((s.dev.get F.TRG_SEQ_SEQ (s.dev.get F.TRIG_CFG_IDX e) + 1) % 65536) ∧ t.dev.var V.trgSent e = s.dev.get F.TRIG_INST_INST e))

/-- ETH and RIDE: effects of the listener, host-ring and cycle commands where their conditions hold (R434, R435, R436, R444, R447, R448). -/
def Obligations.EthernetListenerHostAndRideCycle : Prop :=
  (∀ (s : State) (x : AvtpIn) (k : Nat), s.dev.ethTakes x.eth = true → s.dev.strOf x = some k → s.dev.strWaits k x = false → (s.dev.ethPass x.eth false).2 = false → s.dev.var V.strOpen k = 1 → s.dev.get F.CNPY_SEN_RING_BUFSZ.act (s.dev.get F.STR_CFG_SEN k) * 65536 < x.line.toNat * s.dev.lineBytes (s.dev.get F.STR_CFG_SEN k) + x.off.toNat + x.data.length →
      Answers (.avtpPacket x) s (fun t => t.dev.var V.strBad k = 1 ∧ t.dev.var V.strSeq k = (x.seq.toNat : Int) ∧ t.dev.blob 44 k = s.dev.blob 44 k ∧ t.mem = s.mem)) ∧
  (∀ (s : State) (x : AvtpIn) (k : Nat), s.dev.ethTakes x.eth = true → s.dev.strOf x = some k → s.dev.strWaits k x = false → (s.dev.ethPass x.eth false).2 = false → s.dev.var V.strOpen k = 0 →
      Answers (.avtpPacket x) s (fun t => t.dev.var V.strOpen k = 1 ∧ t.dev.var V.strTs k = s.dev.nearest x.ts.toNat ∧ t.dev.var V.strSeq k = (x.seq.toNat : Int) ∧ t.dev.var V.strSkip k = 0)) ∧
  (∀ (s : State) (x : AvtpIn) (k i at_ : Nat), s.dev.ethTakes x.eth = true → s.dev.strOf x = some k → s.dev.strWaits k x = false → (s.dev.ethPass x.eth false).2 = false → s.dev.var V.strOpen k = 1 → x.seq.toNat = ((s.dev.var V.strSeq k).toNat + 1) % 256 → (x.line.toNat : Int) ≤ s.dev.var V.strLine k + 1 → i = s.dev.get F.STR_CFG_SEN k → x.line.toNat * s.dev.lineBytes i + x.off.toNat + x.data.length ≤ s.dev.get F.CNPY_SEN_RING_BUFSZ.act i * 65536 → at_ = s.dev.bufAt i (s.dev.var V.strBuf k).toNat + (x.line.toNat * s.dev.lineBytes i + x.off.toNat) → s.dev.blob 44 k ≠ [] → leAt (s.dev.blob 44 k) 0 8 + ((s.dev.blob 44 k).length - 8) = at_ → x.off.toNat + x.data.length < s.dev.lineBytes i →
      Answers (.avtpPacket x) s (fun t => t.dev.blob 44 k = s.dev.blob 44 k ++ x.data.map (·.toNat) ∧ t.dev.var V.strBad k = s.dev.var V.strBad k ∧ t.dev.var V.strSeq k = (x.seq.toNat : Int) ∧ t.mem = s.mem)) ∧
  (∀ (s : State) (x : AvtpIn) (k i c : Nat) (at_ : Nat), s.dev.ethTakes x.eth = true → s.dev.strOf x = some k → s.dev.strWaits k x = false → (s.dev.ethPass x.eth false).2 = false → s.dev.var V.strOpen k = 1 → x.seq.toNat = ((s.dev.var V.strSeq k).toNat + 1) % 256 → (x.line.toNat : Int) ≤ s.dev.var V.strLine k + 1 → i = s.dev.get F.STR_CFG_SEN k → c = s.dev.get F.STR_CFG_DMACH k → x.line.toNat * s.dev.lineBytes i + x.off.toNat + x.data.length ≤ s.dev.get F.CNPY_SEN_RING_BUFSZ.act i * 65536 → at_ = s.dev.bufAt i (s.dev.var V.strBuf k).toNat + (x.line.toNat * s.dev.lineBytes i + x.off.toNat) → at_ < 2 ^ 64 → x.data ≠ [] → x.data.length < 2 ^ 32 → s.dev.blob 44 k = [] → s.dev.lineBytes i ≤ x.off.toNat + x.data.length → s.dev.get F.DMA_CH_STAT_STATE c = 0 → s.dev.blob 43 c = [] →
      Answers (.avtpPacket x) s (fun t => t.dev.get F.DMA_CH_STAT_STATE c = 1 ∧ t.dev.get F.DMA_CH_CFG_OWNER c = 1 ∧ t.dev.blob 44 k = [] ∧ t.dev.chan c = { DmaChan.none_ with len := x.data.length, dst := at_, rows := 1, read := x.data.length, held := x.data.map (·.toNat), fetched := true } ∧ t.dev.var V.strBad k = s.dev.var V.strBad k ∧ t.mem = s.mem)) ∧
  (∀ (s : State) (x : AvtpIn) (k : Nat), s.dev.ethTakes x.eth = true → s.dev.strOf x = some k → s.dev.strWaits k x = false → (s.dev.ethPass x.eth false).2 = false → s.dev.var V.strOpen k = 1 → s.dev.get F.CNPY_SEN_RING_BUFSZ.act (s.dev.get F.STR_CFG_SEN k) * 65536 < x.line.toNat * s.dev.lineBytes (s.dev.get F.STR_CFG_SEN k) + x.off.toNat + x.data.length →
      Answers (.avtpFrameEnd x) s (fun t => t.dev.var V.strOpen k = 0 ∧ t.dev.get F.STR_CNT_DROPF k = min (s.dev.get F.STR_CNT_DROPF k + 1) (2 ^ F.STR_CNT_DROPF.width - 1) ∧ t.dev.var V.strBuf k = s.dev.var V.strBuf k)) ∧
  (∀ (s : State) (x : AvtpIn) (k c : Nat), s.dev.ethTakes x.eth = true → s.dev.strOf x = some k → s.dev.strWaits k x = false → (s.dev.ethPass x.eth false).2 = false → c = s.dev.get F.STR_CFG_DMACH k → (((s.dev.ethPass x.eth false).1.avtpData k x).lineFlush k).var V.strBad k ≠ 1 → (s.dev.get F.CAL_SIZE_H (8 * s.dev.get F.CNPY_SEN_BANK_ACT (s.dev.get F.STR_CFG_SEN k) + s.dev.get F.STR_CFG_SEN k) : Int) ≤ (((s.dev.ethPass x.eth false).1.avtpData k x).lineFlush k).var V.strLine k + 1 → (((s.dev.ethPass x.eth false).1.avtpData k x).lineFlush k).get F.DMA_CH_STAT_STATE c < 2 →
      Answers (.avtpFrameEnd x) s (fun t => t.dev.var V.strOpen k = 0 ∧ t.dev.var V.strBuf k = (((s.dev.var V.strBuf k).toNat + 1) % max 1 (s.dev.get F.CNPY_SEN_RING_NBUF.act (s.dev.get F.STR_CFG_SEN k)) : Nat) ∧ (if (((s.dev.ethPass x.eth false).1.avtpData k x).lineFlush k).get F.DMA_CH_STAT_STATE c = 0 ∧ (((s.dev.ethPass x.eth false).1.avtpData k x).lineFlush k).blob 43 c = [] then t.dev.blob 43 c = [] ∧ t.dev.get F.STR_CNT_FRAMES k = min ((((s.dev.ethPass x.eth false).1.avtpData k x).lineFlush k).get F.STR_CNT_FRAMES k + 1) (2 ^ F.STR_CNT_FRAMES.width - 1) else (((s.dev.ethPass x.eth false).1.avtpData k x).lineFlush k).get F.DMA_CH_STAT_STATE c = 1 → t.dev.blob 43 c = (((s.dev.ethPass x.eth false).1.avtpData k x).lineFlush k).blob 43 c ++ markEntry k ((((s.dev.ethPass x.eth false).1.avtpData k x).lineFlush k).var V.strTs k).toNat (s.dev.var V.strBuf k).toNat))) ∧
  (∀ (s : State) (x : AvtpIn) (k : Nat), s.dev.ethTakes x.eth = true → s.dev.strOf x = some k → s.dev.strWaits k x = true → (s.dev.ethPass x.eth false).2 = false →
      Answers (.avtpFrameEnd x) s (fun t => t.dev.var V.strSkip k = 0 ∧ t.dev.var V.strOpen k = s.dev.var V.strOpen k ∧ t.dev.get F.STR_CNT_FRAMES k = s.dev.get F.STR_CNT_FRAMES k ∧ t.dev.get F.STR_CNT_DROPF k = s.dev.get F.STR_CNT_DROPF k)) ∧
  (∀ (s : State) (q : Fin 8) (l : List Nat), s.dev.ethUp 9 = true → s.dev.blob 40 q = l → l ≠ [] → s.dev.gateFits 9 q (leAt l 9 2) = true → hqSize (s.dev.get F.HQ_SIZE_RXSIZE q) ≤ (s.dev.get F.HQ_RXWR_IDX q + 2 ^ 32 - s.dev.get F.HQ_RXRD_IDX q) % 2 ^ 32 →
      Answers (.hostReceive q () () ()) s (fun t => t.dev.get F.ETH_PORT_DROP_FULL 9 = min (s.dev.get F.ETH_PORT_DROP_FULL 9 + 1) (2 ^ F.ETH_PORT_DROP_FULL.width - 1) ∧ t.dev.get F.HQ_RXWR_IDX q = s.dev.get F.HQ_RXWR_IDX q ∧ t.dev.blob 40 q = l.drop (11 + leAt l 9 2) ∧ t.mem = s.mem)) ∧
  (∀ (s : State) (q : Fin 8) (l b : List Nat), s.dev.ethUp 9 = true → s.dev.blob 40 q = l → l ≠ [] → s.dev.gateFits 9 q (leAt l 9 2) = true → leAt l 9 2 ≤ 2048 → (s.dev.get F.HQ_RXWR_IDX q + 2 ^ 32 - s.dev.get F.HQ_RXRD_IDX q) % 2 ^ 32 < hqSize (s.dev.get F.HQ_SIZE_RXSIZE q) → (s.devRead 0x02A0 (s.dev.get F.HQ_RXBASE_BASE q + 32 * (s.dev.get F.HQ_RXWR_IDX q % hqSize (s.dev.get F.HQ_SIZE_RXSIZE q))) 32).2 = .ok b →
      Answers (.hostReceive q () () ()) s (fun t => t.dev.blob 40 q = l.drop (11 + leAt l 9 2) ∧ t.dev.get F.HQ_RXWR_IDX q = (if tbit (leAt b 10 1) 0 = true then (s.dev.get F.HQ_RXWR_IDX q + 1) % 2 ^ F.HQ_RXWR_IDX.width else s.dev.get F.HQ_RXWR_IDX q))) ∧
  (∀ (s : State) (q : Fin 8) (b : List Nat), s.dev.ethUp 9 = true → s.dev.get F.HQ_TXRD_IDX q ≠ s.dev.get F.HQ_TXWR_IDX q → (s.devRead 0x02A0 (s.dev.get F.HQ_TXBASE_BASE q + 32 * (s.dev.get F.HQ_TXRD_IDX q % hqSize (s.dev.get F.HQ_SIZE_TXSIZE q))) 32).2 = .ok b → (∀ p < 10, ∀ n ≤ 2048, s.dev.mayStart p q n = true) →
      Answers (.hostTransmit q) s (fun t => t.dev.get F.HQ_TXRD_IDX q = (if tbit (leAt b 10 1) 0 = true then (s.dev.get F.HQ_TXRD_IDX q + 1) % 2 ^ F.HQ_TXRD_IDX.width else s.dev.get F.HQ_TXRD_IDX q))) ∧
  (∀ (s : State), s.dev.running 0x2B = true → 0 ≤ s.dev.var V.rideNext 0 → s.dev.var V.rideNext 0 + s.dev.var V.gridMove 0x2B / 65536 ≤ s.dev.now →
      Answers .rideCycleStart s (fun t => t.dev.get F.RIDE_CYCNT_CNT 0 = (s.dev.get F.RIDE_CYCNT_CNT 0 + 1) % 2 ^ F.RIDE_CYCNT_CNT.width ∧ t.dev.var V.rideTk 0 = s.dev.var V.rideNext 0 + s.dev.var V.gridMove 0x2B / 65536 ∧ t.dev.var V.rideNext 0 = s.dev.var V.rideNext 0 + (s.dev.rideCyc * 1000 : Nat) ∧ (s.dev.var V.pushHold 0 ≠ 1 → ∀ h ∈ t.dev.headPorts, t.dev.blob 7 h = t.dev.downFrame (t.dev.var V.rideTk 0)))) ∧
  (∀ (s : State) (n : Fin 32) (tk : BitVec 64) (img : List Byte) (fb : BitVec 32) (astamp : BitVec 64), s.dev.running 0x2B = true → s.dev.get F.NT_ID_STATE n = 1 → s.dev.var V.rideExp n = 1 → s.dev.var V.rideGot n = 0 → toBits 64 (s.dev.var V.rideTk 0) = tk.toNat →
      Answers (.rideUpReceived n tk img fb astamp ()) s (fun t => t.dev.var V.rideGot n = 1 ∧ t.dev.get F.RIDE_RTT_LAST 0 = min 65535 (s.dev.since V.rideTkAt 0 / 655360).toNat ∧ t.dev.get F.RIDE_ND_ISTAMP_T n = tk.toNat ∧ t.dev.get F.RIDE_ND_ASTAMP_T n = astamp.toNat ∧ t.dev.get F.RIDE_ND_FB_FB n = fb.toNat ∧ t.dev.get F.RIDE_ND_STAT_STALE n = 0 ∧ t.dev.get F.RIDE_ND_MISS_CONS n = 0 ∧ (∀ w < 16, t.dev.get F.RIDE_ND_IN_W (16 * n.val + w) = leAt (padTo 64 (padTo (s.dev.get F.NT_LEN_INLEN n) (img.map (·.toNat)))) (4 * w) 4))) ∧
  (∀ (s : State) (a : Acc), Taken s 0x2B a → (s.dev.chSel 0x2B a) < 32 →
      Answers (.rideOutputCommit a) s (fun t => t.dev.var V.rideCom (s.dev.chSel 0x2B a) = 1 ∧ t.dev.blob 5 (s.dev.chSel 0x2B a) = (List.range 16).flatMap (fun w => leBytes 4 (s.dev.get F.RIDE_ND_OUT_W (16 * s.dev.chSel 0x2B a + w))))) ∧
  (∀ (s : State), s.dev.running 0x2B = true → s.dev.get F.RIDE_CFG_PAEN 0 = 1 → s.dev.get F.RIDE_CFG_PBEN 0 = 1 → s.dev.get F.RIDE_CYCNT_CNT 0 ≠ 0 →
      Answers .rideRingReturn s (fun t => t.dev.var V.rideRing 0 = 1 ∧ t.dev.var V.rideRet 0 = 1 ∧ (s.dev.var V.rideRing 0 ≠ 1 → t.dev.get F.RIDE_TOPO_RINGBRK 0 = 0))) ∧
  (∀ (s : State) (h : Fin 4), s.dev.running 0x2B = true → h.val ∈ s.dev.headPorts → s.dev.passed V.rideTime h 1000000000 = true →
      Answers .rideTimeExchange s (fun t => t.dev.var V.rideTime h = s.dev.var V.uptime 0 ∧ t.dev.var V.rideTimeN h = s.dev.var V.rideTimeN h + 1 ∧ t.dev.blob 47 h = rideFrame 5 64 (leBytes 8 (toBits 64 s.dev.now))))

/-- RIDE: effects of the node, link, port and table commands where their conditions hold (R428, R449, R456, R457, R465, R466). -/
def Obligations.RideNodesLinksAndTable : Prop :=
  (∀ (s : State) (x : HelloIn), s.dev.running 0x2B = true → s.dev.headPorts.contains x.hport.val = true → x.up = none → (∀ m < 32, s.dev.attached m = true → s.dev.get F.NT_PATH_UPNODE m ≠ 255 ∨ s.dev.get F.NT_PATH_UPPORT m ≠ x.hport.val ∨ s.dev.get F.NT_SERIAL_SERIAL m = x.serial.toNat) → (∀ m < 32, s.dev.attached m = true → s.dev.get F.NT_SERIAL_SERIAL m ≠ x.serial.toNat) →
      Answers (.rideHello x) s (fun t => (s.dev.rideEntry x.serial.toNat = none → Reported s t 0x2B 1 0x0202) ∧ (∀ n, s.dev.rideEntry x.serial.toNat = some n → (if x.rate.toNat = rideRate x.hport then t.dev.get F.NT_ID_STATE n = 1 ∧ t.dev.get F.RIDE_ND_STAT_CAUSE n = 0 else t.dev.get F.NT_ID_STATE n = 3 ∧ t.dev.get F.RIDE_ND_STAT_CAUSE n = 5) ∧   t.dev.get F.NT_SERIAL_SERIAL n = x.serial.toNat ∧ t.dev.get F.NT_ID_MEMBER n = x.member.toNat ∧ t.dev.get F.NT_LEN_OUTLEN n = x.outlen.val ∧ t.dev.get F.NT_LEN_INLEN n = x.inlen.val ∧ t.dev.get F.NT_PATH_HOP n = 1 ∧ t.dev.get F.NT_PATH_HPORT n = x.hport.val))) ∧
  (∀ (s : State) (n : Fin 32) (up : Option (Fin 32)) (p : Fin 4), s.dev.running 0x2B = true → s.dev.var V.rideRing 0 = 0 → s.dev.get F.NT_ID_STATE n = 1 → s.dev.get F.NT_PATH_UPNODE n = upNode up → s.dev.get F.NT_PATH_UPPORT n = p.val →
      Answers (.rideLinkDown up p) s (fun t => t.dev.get F.NT_ID_STATE n = 2 ∧ t.dev.get F.RIDE_ND_STAT_CAUSE n = 1 ∧ Reported s t 0x2B 1 0x0203)) ∧
  (∀ (s : State) (p : Fin 4), s.dev.running 0x2B = true → s.dev.headPorts.contains p.val = true →
      Answers (.rideLinkUp none p) s (fun t => t.dev.var V.rideUp p = 1 ∧ t.dev.var V.rideHello p = s.dev.var V.rideHello p + 1 ∧ t.dev.var V.rideTimeN p = s.dev.var V.rideTimeN p + 1 ∧ t.dev.blob 46 p = s.dev.helloOut p false)) ∧
  (∀ (s : State) (m : Fin 32) (p : Fin 4) (k : Fin 4),
      Answers (.rideLinkUp (some m) p) s (fun t => t.dev.var V.rideUp (4 + 4 * m.val + p) = 1 ∧ t.dev.var V.rideHello k = s.dev.var V.rideHello k ∧ t.dev.var V.rideTimeN k = s.dev.var V.rideTimeN k)) ∧
  (∀ (s : State) (a : Acc) (p x : Bool) (y : Bool), Taken s 0x2B a → s.dev.running 0x2B = false → y = s.dev.on (if p then F.RIDE_CFG_PDEN else F.RIDE_CFG_PCEN) 0 →
      Answers (.ridePortTake a p x) s (fun t => if y = x then t.dev.on (if p then F.RIDE_CFG_PDEN else F.RIDE_CFG_PCEN) 0 = y else if x = true ∧ s.dev.get F.ETH_PORT_CFG_EN (if p then 3 else 2) = 1 then t.dev.on (if p then F.RIDE_CFG_PDEN else F.RIDE_CFG_PCEN) 0 = y ∧ Reported s t 0x2B 0 0x0201   else t.dev.on (if p then F.RIDE_CFG_PDEN else F.RIDE_CFG_PCEN) 0 = x ∧ t.dev.get F.ETH_PORT_STAT_TAKEN (if p then 3 else 2) = bit x)) ∧
  (∀ (s : State) (a : Acc) (p x : Bool), Taken s 0x2B a → s.dev.running 0x2B = true → s.dev.on (if p then F.RIDE_CFG_PDEN else F.RIDE_CFG_PCEN) 0 ≠ x →
      Answers (.ridePortTake a p x) s (fun t => t.dev.on (if p then F.RIDE_CFG_PDEN else F.RIDE_CFG_PCEN) 0 ≠ x ∧ t.dev.get F.COM_ERR_VALID 0x2B = 1 ∧ (s.dev.get F.COM_ERR_VALID 0x2B = 0 → t.dev.get F.COM_ERR_LOCKWR 0x2B = 1))) ∧
  (∀ (s : State) (a : Acc) (n : Fin 32), Taken s 0x2B a → (s.dev.get F.NT_ID_STATE n = 2 ∨ s.dev.get F.NT_ID_STATE n = 3) →
      Answers (.rideTableClear a) s (fun t => t.dev.get F.NT_ID_STATE n = 0 ∧ t.dev.get F.NT_SERIAL_SERIAL n = 0 ∧ t.dev.get F.NT_ATT_ATTCNT n = 0))

/-- PWR: effects of the supply, deadman, idle and LIMP commands where their conditions hold (R358, R383, R611, R612, R613, R614, R615, R617, R623). -/
def Obligations.SupplyDeadmanIdleAndLimp : Prop :=
  (∀ (s : State), s.dev.get F.PWR_SUPPLY_SUPLOSS 0 = 0 → s.dev.var V.supOn 3 = 1 → s.dev.passed V.supOnAt 3 100000 = true → s.dev.var V.dramGone 0 = 0 → s.dev.var V.kilnOn 0 ≠ 1 → s.dev.var V.segPh 0 = 0 →
      Answers .supplyLoss s (fun t => t.dev.get F.PWR_SUPPLY_SUPLOSS 0 = 1 ∧ t.dev.get F.COM_STAT_FAULT 0x01 = 1 ∧ (s.dev.var V.planesOff 0 = 0 → t.dev.var V.thValid 0 = 1 ∧ ∀ c < 24, t.dev.var V.thStore c = s.dev.var V.lswTheta c) ∧ t.dev.get F.PWR_MODE_PENDV 0 = 0 ∧ t.dev.var V.supAt 0 = s.dev.var V.uptime 0)) ∧
  (∀ (s : State), s.dev.get F.PWR_SUPPLY_SUPLOSS 0 = 1 → s.dev.var V.modReq 0 = 0 → s.dev.var V.supOn 3 = 0 → s.dev.passed V.supAt 0 14900000 = false →
      Answers .supplyReturn s (fun t => t.dev.get F.PWR_SUPPLY_SUPLOSS 0 = 0)) ∧
  (∀ (s : State), s.dev.get F.PWR_SUPPLY_SUPLOSS 0 = 1 → s.dev.passed V.supAt 0 14900000 = true →
      Answers .holdupExpiry s (fun t => t.dev.var V.modReq 0 = 2)) ∧
  (∀ (s : State) (a : Acc) (key : BitVec 16), a.priv = true → 8 ≤ a.bank.val → a.bank.val ≤ 10 →
      Answers (.heartbeat a key) s (fun t => if s.dev.pairHalted a.bank.val = true then t.dev.var V.hbDue 0 = s.dev.var V.hbDue 0 ∧ t.dev.var V.hbLast 0 = s.dev.var V.hbLast 0 else if (key ≠ 0x5AC3#16 ∧ key ≠ 0xA53C#16) ∨ s.dev.var V.hbLast 0 = key.toNat then t.dev.var V.hbDue 0 = s.dev.var V.hbDue 0 ∧ t.dev.var V.hbLast 0 = s.dev.var V.hbLast 0 ∧ Reported s t 0x01 0 0x0207   else if s.dev.var V.hbBlock 0 = 1 then t.dev.var V.hbDue 0 = s.dev.var V.hbDue 0 ∧ t.dev.var V.hbLast 0 = s.dev.var V.hbLast 0 else t.dev.var V.hbLast 0 = (key.toNat : Int) ∧ t.dev.var V.hbDue 0 = s.dev.var V.uptime 0 + 10000000 * 65536 ∧ t.dev.get F.PWR_HBLAST_T 0 = toBits 64 s.dev.now)) ∧
  (∀ (s : State) (a : Acc) (key : BitVec 16), (a.priv = false ∨ a.bank.val < 8 ∨ 10 < a.bank.val) →
      Answers (.heartbeat a key) s (fun t => t.dev.resp = 2 ∧ t.dev.var V.hbDue 0 = s.dev.var V.hbDue 0 ∧ t.dev.var V.hbLast 0 = s.dev.var V.hbLast 0 ∧ t.dev.get F.COM_ERR_VALID 0x01 = 1)) ∧
  (∀ (s : State), s.dev.get F.PWR_DEAD_ARMED 0 = 1 → s.dev.var V.hbDue 0 ≤ s.dev.var V.uptime 0 → s.dev.var V.deadOut 0 = 0 →
      Answers .deadmanExpiry s (fun t => t.dev.var V.deadOut 0 = 1 ∧ t.dev.get F.CLR_PLANE_CTLUP 0 = 0 ∧ t.dev.var V.cpReq 0 = (if s.dev.var V.cpReq 0 = 0 then 4 else s.dev.var V.cpReq 0) ∧ t.dev.get F.PWR_DEAD_EXPCNT 0 = min (s.dev.get F.PWR_DEAD_EXPCNT 0 + 1) (2 ^ F.PWR_DEAD_EXPCNT.width - 1) ∧ t.dev.get F.LSW_SUPPLY_DEAD 0 = 1 ∧ t.dev.get F.SOL_SUPPLY_DEAD 0 = 1 ∧ t.dev.get F.FBRK_LATCH_GROUPS 0 = 255)) ∧
  (∀ (s : State), 2 ≤ s.dev.get F.PWR_MODE_MODE 0 → s.dev.get F.PWR_MODE_LADDER 0 = 0 → s.dev.get F.PWR_TIMING_IDLET 0 ≠ 0 → s.dev.fabIdle = true →
      Answers .idleEntry s (fun t => t.dev.get F.PWR_MODE_LADDER 0 = 1 ∧ t.dev.var V.ladAt 0 = s.dev.var V.uptime 0)) ∧
  (∀ (s : State), 2 ≤ s.dev.get F.PWR_MODE_MODE 0 → s.dev.get F.PWR_MODE_MODE 0 ≠ 5 → s.dev.get F.PWR_MODE_LADDER 0 = 1 → s.dev.get F.SYS_REL_DP 0 = 1 →
      Answers .idleExit s (fun t => t.dev.get F.PWR_MODE_LADDER 0 = 0)) ∧
  (∀ (s : State), (s.dev.get F.PWR_MODE_MODE 0 = 3 ∨ s.dev.get F.PWR_MODE_MODE 0 = 4) → s.dev.get F.CLR_PLANE_DATAUP 0 = 0 → s.dev.passed V.planeAt 1 (s.dev.limpT * 1000000) = true → s.dev.pwrFree = true →
      Answers .limpEntry s (fun t => t.dev.get F.PWR_MODE_MODE 0 = 5 ∧ t.dev.get F.PWR_MODE_PREV 0 = s.dev.get F.PWR_MODE_MODE 0 ∧ Reported s t 0x01 1 0x0205)) ∧
  (∀ (s : State), s.dev.get F.PWR_MODE_MODE 0 = 5 → s.dev.get F.CLR_PLANE_DATAUP 0 = 1 → s.dev.passed V.planeAt 1 1000000000 = true → s.dev.pwrFree = true → s.dev.get F.PWR_MODE_PREV 0 < 5 →
      Answers .limpExit s (fun t => t.dev.get F.PWR_MODE_MODE 0 = s.dev.get F.PWR_MODE_PREV 0))

/-- PWR: effects of the request, wake, shutdown and ladder commands where their conditions hold (R420, R594, R620, R622, R624, R625, R626). -/
def Obligations.ModesWakesAndShutdown : Prop :=
  (∀ (s : State) (ctl : Bool), s.dev.pwrReady ctl 2 = true → s.dev.get F.CLR_PLANE_MGTUP 0 = 1 → s.dev.get F.PWR_CFG_CSLOT 0 < 8 → s.dev.get F.PWR_CFG_DSLOT 0 < 8 →
      Answers (.modeStatus ctl) s (fun t => t.dev.get F.CLR_HDR_SEQ (s.dev.pwrSlot ctl - 8) = (s.dev.get F.CLR_HDR_SEQ (s.dev.pwrSlot ctl - 8) + 1) % 2 ^ F.CLR_HDR_SEQ.width ∧ leAt (t.dev.clrPub (s.dev.pwrSlot ctl - 8)) 8 1 = 2 ∧ leAt (t.dev.clrPub (s.dev.pwrSlot ctl - 8)) 11 1 = s.dev.get F.PWR_MODE_MODE 0 % 256 ∧ t.dev.get F.PWR_MODE_MODE 0 = s.dev.get F.PWR_MODE_MODE 0)) ∧
  (∀ (s : State) (ctl : Bool), s.dev.cmdNew (s.dev.pwrSlot ctl) = true → pwrBad (s.dev.clrPub (s.dev.pwrSlot ctl)) = true →
      Answers (.modeBadRequest ctl) s (fun t => t.dev.get F.PWR_MODE_MODE 0 = s.dev.get F.PWR_MODE_MODE 0 ∧ t.dev.cmdNew (s.dev.pwrSlot ctl) = false ∧ Reported s t 0x01 0 0x0201)) ∧
  (∀ (s : State) (ctl : Bool), s.dev.pwrReady ctl 1 = true → s.dev.get F.PWR_MODE_PENDV 0 = 0 → s.dev.var V.keeperUp 0 = 1 → s.dev.var V.dramGone 0 = 0 → s.dev.var V.kilnOn 0 = 0 → s.dev.get F.PWR_SUPPLY_SUPLOSS 0 = 0 → leAt (s.dev.clrPub (s.dev.pwrSlot ctl)) 10 1 = 2 → s.dev.get F.PWR_MODE_MODE 0 = 3 → s.dev.get F.LCS_DBG_LEVEL 0 = 0 → s.dev.get (if ctl then F.PWR_PERM_C else F.PWR_PERM_D) (permIx 3 2) = 1 →
      Answers (.modeRequest ctl) s (fun t => t.dev.get F.PWR_MODE_MODE 0 = 2 ∧ t.dev.get F.PWR_MODE_PREV 0 = 3 ∧ t.dev.get F.PWR_MODE_PENDV 0 = 0)) ∧
  (∀ (s : State), s.dev.pwrReady false 3 = true → s.dev.var V.pwrStep 0 = 1 →
      Answers (.shutdownAck false) s (fun t => t.dev.var V.pwrStep 0 = 2 ∧ t.dev.var V.pwrAt 0 = s.dev.var V.uptime 0)) ∧
  (∀ (s : State), s.dev.var V.line 0 ≠ 1 → s.dev.sleeping = false → s.dev.var V.dramGone 0 = 0 →
      Answers .wakeLine s (fun t => t.dev.var V.line 0 = 1 ∧ t.dev.get F.PWR_SUPPLY_LINE 0 = 1 ∧ t.dev.var V.keyOff 0 = 0)) ∧
  (∀ (s : State), s.dev.var V.line 0 = 1 →
      Answers .wakeLineFall s (fun t => t.dev.var V.line 0 = 0 ∧ t.dev.get F.PWR_SUPPLY_LINE 0 = 0 ∧ t.dev.var V.keyOff 0 = 1 ∧ t.dev.var V.lineAt 0 = s.dev.var V.uptime 0)) ∧
  (∀ (s : State) (c : Fin 8) (x : CanWakeIn) (w : Nat), s.dev.napping = true → s.dev.var V.wakeSnap 3 = 1 → s.dev.var V.wakeSnap 0 = 0 → s.dev.canMatch c x = some w → s.dev.var V.dramGone 0 = 0 →
      Answers (.canWake c x) s (fun t => t.dev.get F.PWR_WAKE_STAT_CAUSE 0 = 2 ∧ t.dev.var V.canWoke c = (w : Int) ∧ t.dev.get F.PWR_MODE_LADDER 0 = 3)) ∧
  (∀ (s : State) (p : Fin 2), s.dev.napping = true → s.dev.var V.wakeSnap 4 = 1 → s.dev.var V.wakeSnap 1 = 0 → s.dev.var V.dramGone 0 = 0 →
      Answers (.rideWake p) s (fun t => t.dev.get F.PWR_WAKE_STAT_CAUSE 0 = 3 ∧ t.dev.var V.rideUp p = 1 ∧ t.dev.get F.PWR_MODE_LADDER 0 = 3)) ∧
  (∀ (s : State), s.dev.get F.PWR_MODE_MODE 0 = 1 → s.dev.deep = true → s.dev.var V.wakeSnap 5 = 1 → s.dev.var V.wakeSnap 2 = 0 → s.dev.get F.PWR_ALARM_ALARM 0 ≠ 0 → (s.dev.get F.PWR_ALARM_ALARM 0 : Int) ≤ s.dev.now → s.dev.var V.alarmHit 0 ≠ s.dev.get F.PWR_ALARM_ALARM 0 → s.dev.var V.dramGone 0 = 0 →
      Answers .timerWake s (fun t => t.dev.get F.PWR_WAKE_STAT_CAUSE 0 = 4 ∧ t.dev.var V.alarmHit 0 = s.dev.get F.PWR_ALARM_ALARM 0)) ∧
  (∀ (s : State), s.dev.get F.PWR_MODE_MODE 0 < 2 → 4 ≤ s.dev.get F.PWR_MODE_LADDER 0 →
      Answers .monitorWake s (fun t => t.dev.get F.PWR_MODE_LADDER 0 = 3 ∧ t.dev.get F.PWR_WAKE_STAT_CAUSE 0 = 6 ∧ t.dev.get F.MON_LAST_CODE 0 = 7 ∧ t.dev.var V.monLad 0 = s.dev.get F.PWR_MODE_LADDER 0)) ∧
  (∀ (s : State), s.dev.var V.monLad 0 = 4 → s.dev.passed V.monAt 0 10000000000 = true → s.dev.get F.PWR_MODE_LADDER 0 = 3 → s.dev.var V.kilnOn 0 = 0 → s.dev.get F.PWR_MODE_PENDV 0 = 0 →
      Answers .monitorWakeEnd s (fun t => t.dev.get F.PWR_MODE_LADDER 0 = 4 ∧ t.dev.var V.monLad 0 = 0)) ∧
  (∀ (s : State), s.dev.var V.keyOff 0 = 1 → s.dev.get F.PWR_KEY_KEYOFF_T 0 ≠ 0 → s.dev.passed V.lineAt 0 (s.dev.get F.PWR_KEY_KEYOFF_T 0 * 1000000000) = true → 2 ≤ s.dev.get F.PWR_MODE_MODE 0 → s.dev.var V.pwrStep 0 = 0 →
      Answers .shutdownNotice s (fun t => t.dev.get F.PWR_MODE_NOTICE 0 = 1 ∧ t.dev.var V.keyOff 0 = 0 ∧ t.dev.var V.noticeAt 0 = s.dev.var V.uptime 0)) ∧
  (∀ (s : State), s.dev.get F.PWR_MODE_NOTICE 0 = 1 → s.dev.var V.line 0 = 1 →
      Answers .shutdownWithdrawn s (fun t => t.dev.get F.PWR_MODE_NOTICE 0 = 0)) ∧
  (∀ (s : State), s.dev.get F.PWR_MODE_NOTICE 0 = 1 → s.dev.get F.PWR_KEY_SHUT_T 0 ≠ 0 → s.dev.passed V.noticeAt 0 (s.dev.get F.PWR_KEY_SHUT_T 0 * 1000000000) = true → s.dev.pwrFree = true → s.dev.get F.PWR_MODE_MODE 0 = 3 → s.dev.var V.kilnOn 0 = 0 →
      Answers .shutdownForced s (fun t => t.dev.get F.PWR_MODE_NOTICE 0 = 0 ∧ t.dev.get F.PWR_MODE_PENDV 0 = 1 ∧ t.dev.get F.PWR_MODE_PEND 0 = 1 ∧ t.dev.var V.pwrStep 0 = 1 ∧ Reported s t 0x01 1 0x0204)) ∧
  (∀ (s : State), s.dev.var V.pwrStep 0 = 1 → s.dev.passed V.pwrAt 0 (s.dev.var V.pwrGrace 0 * 1000000) = true →
      Answers .parkingGraceEnd s (fun t => t.dev.var V.pwrStep 0 = 2 ∧ t.dev.var V.pwrAt 0 = s.dev.var V.uptime 0)) ∧
  (∀ (s : State), s.dev.var V.pwrStep 0 = 2 → s.dev.passed V.pwrAt 0 100000000 = true → s.dev.var V.segPh 0 = 0 → s.dev.var V.wakePend 0 = 0 → s.dev.get F.PWR_MODE_PEND 0 = 1 → s.dev.keeperAway = false → s.dev.var V.dramGone 0 = 0 → s.dev.get F.PWR_MODE_LADDER 0 < 3 →
      Answers .controlPlaneQuiet s (fun t => t.dev.get F.PWR_MODE_MODE 0 = 1 ∧ t.dev.get F.PWR_MODE_LADDER 0 = 3 ∧ t.dev.get F.SYS_REL_PA 0 = 0 ∧ t.dev.get F.SYS_REL_DP 0 = 0 ∧ t.dev.var V.pwrStep 0 = 0)) ∧
  (∀ (s : State), s.dev.get F.PWR_MODE_MODE 0 = 1 → s.dev.get F.PWR_MODE_PENDV 0 = 0 → s.dev.var V.kilnOn 0 = 0 → s.dev.var V.monLad 0 = 0 → s.dev.get F.PWR_MODE_LADDER 0 = 3 → s.dev.passed V.ladAt 0 (s.dev.get F.PWR_PARK_T3 0 * 60000000000) = true →
      Answers .ladderDescend s (fun t => t.dev.get F.PWR_MODE_LADDER 0 = 4)) ∧
  (∀ (s : State), s.dev.get F.PWR_MODE_MODE 0 = 1 → s.dev.get F.PWR_MODE_PENDV 0 = 0 → s.dev.var V.kilnOn 0 = 0 → s.dev.var V.monLad 0 = 0 → s.dev.get F.PWR_MODE_LADDER 0 = 4 → s.dev.get F.PWR_PARK_T4 0 ≠ 0 → s.dev.passed V.ladAt 0 (s.dev.get F.PWR_PARK_T4 0 * 60000000000) = true →
      Answers .ladderDescend s (fun t => t.dev.get F.PWR_MODE_LADDER 0 = 5))

/-- MEM and IOMU: effects of the ECC, scrubber, training, fault and queue commands where their conditions hold (R473, R474, R475, R478, R482, R503). -/
def Obligations.DramErrorsAndIommuCommands : Prop :=
  (∀ (s : State),
      Answers .eccCorrectable s (fun t => t.dev.get F.MEM_ECC_CNT_CE 0 = min (s.dev.get F.MEM_ECC_CNT_CE 0 + 1) (2 ^ F.MEM_ECC_CNT_CE.width - 1) ∧ t.mem = s.mem)) ∧
  (∀ (s : State) (blk : BitVec 35) (src : BitVec 16), inDram (blk.toNat * 32) = true → s.dev.poisoned (blk.toNat * 32) = false →
      Answers (.eccUncorrectable blk src) s (fun t => t.dev.poisoned (blk.toNat * 32) = true ∧ t.dev.get F.MEM_ECC_ADDR_ADDR 0 = blk.toNat * 32 % 2 ^ F.MEM_ECC_ADDR_ADDR.width ∧ t.dev.get F.MEM_ECC_SRC_SRC 0 = src.toNat % 2 ^ F.MEM_ECC_SRC_SRC.width ∧ t.dev.get F.MEM_ECC_CNT_UE 0 = min (s.dev.get F.MEM_ECC_CNT_UE 0 + 1) (2 ^ F.MEM_ECC_CNT_UE.width - 1) ∧ (s.dev.running 0x08 = true → Reported s t 0x08 1 0x0202))) ∧
  (∀ (s : State) (found : Fin 3), s.dev.running 0x08 = true → s.dev.get F.MEM_ECC_CFG_SCRUBEN 0 = 1 → s.dev.get F.MEM_DRAM_TRAINED 0 = 1 → s.dev.get F.MEM_DRAM_SELFREF 0 = 0 → s.dev.scrubDue = true →
      Answers (.patrolScrub found) s (fun t => t.dev.var V.scrubAt 0 = (((s.dev.var V.scrubAt 0).toNat + 1) % 503316480 : Nat) ∧ t.dev.get F.MEM_ECC_CNT_CE 0 = (if found.val = 1 then min (s.dev.get F.MEM_ECC_CNT_CE 0 + 1) (2 ^ F.MEM_ECC_CNT_CE.width - 1) else s.dev.get F.MEM_ECC_CNT_CE 0) ∧ t.mem = s.mem)) ∧
  (∀ (s : State), s.dev.get F.PWR_MODE_LADDER 0 < 2 → s.dev.var V.dramWait 0 ≠ 0 →
      Answers .dramTrained s (fun t => t.dev.var V.dramWait 0 = 0 ∧ t.dev.get F.MEM_DRAM_TRAINED 0 = 1)) ∧
  (∀ (s : State) (dev : BitVec 12) (iova : BitVec 64) (cause : BitVec 12) (wr : Bool), s.dev.get F.IOMU_FQCSR_FQON 0 = 1 → s.dev.get F.IOMU_FQCSR_FQOF 0 = 0 → s.dev.get F.IOMU_FQCSR_FQMF 0 = 0 → (256 ≤ cause.toNat ∨ s.dev.ddc.all (fun e => !tbit (e.2.getD 0 0) 4) = true) → (s.dev.get F.IOMU_FQT_V 0 + 1) % 2 ^ (s.dev.get F.IOMU_FQB_V 0 % 32 + 1) ≠ s.dev.get F.IOMU_FQH_V 0 % 2 ^ (s.dev.get F.IOMU_FQB_V 0 % 32 + 1) → inDram (s.dev.get F.IOMU_FQB_V 0 / 1024 % 2 ^ 44 * 4096 + s.dev.get F.IOMU_FQT_V 0 * 32) = true →
      Answers (.iommuFault dev iova cause wr) s (fun t => t.dev.get F.IOMU_FQT_V 0 = (s.dev.get F.IOMU_FQT_V 0 + 1) % 2 ^ (s.dev.get F.IOMU_FQB_V 0 % 32 + 1) % 2 ^ F.IOMU_FQT_V.width ∧ t.mem = memWrite s.mem (s.dev.get F.IOMU_FQB_V 0 / 1024 % 2 ^ 44 * 4096 + s.dev.get F.IOMU_FQT_V 0 * 32) (leBytes 8 (cause.toNat + (if wr then 3 else 2) * 2 ^ 34 + dev.toNat * 2 ^ 40) ++ leBytes 8 0 ++ leBytes 8 iova.toNat ++ leBytes 8 (if cause.toNat = 21 ∨ cause.toNat = 23 then Config.free s.dev.free else 0)) ∧ t.dev.poisoned (s.dev.get F.IOMU_FQB_V 0 / 1024 % 2 ^ 44 * 4096 + s.dev.get F.IOMU_FQT_V 0 * 32) = false)) ∧
  (∀ (s : State) (dev : BitVec 12) (iova : BitVec 64) (cause : BitVec 12) (wr : Bool) (ctx : Nat × List Nat), cause.toNat < 256 → s.dev.ddc.find? (fun e => e.1 == dev.toNat) = some ctx → tbit (ctx.2.getD 0 0) 4 = true →
      Answers (.iommuFault dev iova cause wr) s (fun t => t.dev.get F.IOMU_FQT_V 0 = s.dev.get F.IOMU_FQT_V 0 ∧ t.mem = s.mem)) ∧
  (∀ (s : State) (w0 w1 : Nat), s.dev.get F.IOMU_CQCSR_CQON 0 = 1 → s.dev.get F.IOMU_CQCSR_CMD_ILL 0 = 0 → s.dev.get F.IOMU_CQCSR_CQMF 0 = 0 → s.dev.get F.IOMU_CQH_V 0 ≠ s.dev.get F.IOMU_CQT_V 0 → s.walkRead (s.dev.get F.IOMU_CQB_V 0 / 1024 % 2 ^ 44 * 4096 + 16 * s.dev.get F.IOMU_CQH_V 0) = some w0 → s.walkRead (s.dev.get F.IOMU_CQB_V 0 / 1024 % 2 ^ 44 * 4096 + 16 * s.dev.get F.IOMU_CQH_V 0 + 8) = some w1 → iommuCmdOf w0 = some 0 →
      Answers .iotinvalVma s (fun t => t.dev.tlb = s.dev.tlb.filter (tlbKeep true w0 w1) ∧ t.dev.get F.IOMU_CQH_V 0 = (s.dev.get F.IOMU_CQH_V 0 + 1) % 2 ^ (s.dev.get F.IOMU_CQB_V 0 % 32 + 1) % 2 ^ F.IOMU_CQH_V.width ∧ t.mem = s.mem)) ∧
  (∀ (s : State) (w0 w1 : Nat), s.dev.get F.IOMU_CQCSR_CQON 0 = 1 → s.dev.get F.IOMU_CQCSR_CMD_ILL 0 = 0 → s.dev.get F.IOMU_CQCSR_CQMF 0 = 0 → s.dev.get F.IOMU_CQH_V 0 ≠ s.dev.get F.IOMU_CQT_V 0 → s.walkRead (s.dev.get F.IOMU_CQB_V 0 / 1024 % 2 ^ 44 * 4096 + 16 * s.dev.get F.IOMU_CQH_V 0) = some w0 → s.walkRead (s.dev.get F.IOMU_CQB_V 0 / 1024 % 2 ^ 44 * 4096 + 16 * s.dev.get F.IOMU_CQH_V 0 + 8) = some w1 → iommuCmdOf w0 = some 1 →
      Answers .iotinvalGvma s (fun t => t.dev.tlb = s.dev.tlb.filter (tlbKeep false w0 w1) ∧ t.mem = s.mem)) ∧
  (∀ (s : State) (w0 w1 : Nat), s.dev.get F.IOMU_CQCSR_CQON 0 = 1 → s.dev.get F.IOMU_CQCSR_CMD_ILL 0 = 0 → s.dev.get F.IOMU_CQCSR_CQMF 0 = 0 → s.dev.get F.IOMU_CQH_V 0 ≠ s.dev.get F.IOMU_CQT_V 0 → s.walkRead (s.dev.get F.IOMU_CQB_V 0 / 1024 % 2 ^ 44 * 4096 + 16 * s.dev.get F.IOMU_CQH_V 0) = some w0 → s.walkRead (s.dev.get F.IOMU_CQB_V 0 / 1024 % 2 ^ 44 * 4096 + 16 * s.dev.get F.IOMU_CQH_V 0 + 8) = some w1 → iommuCmdOf w0 = some 2 →
      Answers .iodirInvalDdt s (fun t => t.dev.ddc = s.dev.ddc.filter (fun e => tbit w0 33 && e.1 != w0 / 2 ^ 40 % 2 ^ 24) ∧ t.mem = s.mem)) ∧
  (∀ (s : State) (w0 w1 : Nat), s.dev.get F.IOMU_CQCSR_CQON 0 = 1 → s.dev.get F.IOMU_CQCSR_CMD_ILL 0 = 0 → s.dev.get F.IOMU_CQCSR_CQMF 0 = 0 → s.dev.get F.IOMU_CQH_V 0 ≠ s.dev.get F.IOMU_CQT_V 0 → s.walkRead (s.dev.get F.IOMU_CQB_V 0 / 1024 % 2 ^ 44 * 4096 + 16 * s.dev.get F.IOMU_CQH_V 0) = some w0 → s.walkRead (s.dev.get F.IOMU_CQB_V 0 / 1024 % 2 ^ 44 * 4096 + 16 * s.dev.get F.IOMU_CQH_V 0 + 8) = some w1 → iommuCmdOf w0 = some 3 → tbit w0 10 = true → inDram (w1 % 2 ^ 62 * 4) = true → s.dev.poisoned (w1 % 2 ^ 62 * 4) = false →
      Answers .iofenceC s (fun t => t.mem = memWrite s.mem (w1 % 2 ^ 62 * 4) (leBytes 4 (w0 / 2 ^ 32)) ∧ (tbit w0 11 = true → t.dev.get F.IOMU_CQCSR_FENCE_W_IP 0 = 1)))

/-- DMA: effects of the channel, burst, fault and park commands where their conditions hold (R484, R485, R488, R489, R490, R492, R493, R494, R495, R496, R497, R501). -/
def Obligations.DmaChannelsRunParkAndEnd : Prop :=
  (∀ (s : State) (a : Acc), Taken s 0x0A a → (s.dev.chSel 0x0A a) < 64 → s.dev.get F.DMA_CH_STAT_STATE (s.dev.chSel 0x0A a) = 0 → s.dev.get F.DMA_CH_CFG_OWNER (s.dev.chSel 0x0A a) = 0 →
      Answers (.dmaGo a) s (fun t => t.dev.get F.DMA_CH_STAT_STATE (s.dev.chSel 0x0A a) = 1 ∧ t.dev.get F.DMA_CH_CUR_CUR (s.dev.chSel 0x0A a) = s.dev.get F.DMA_CH_DESC_DESC (s.dev.chSel 0x0A a) / 64 * 64 % 2 ^ F.DMA_CH_CUR_CUR.width ∧ t.dev.get F.DMA_CH_STAT_NDESC (s.dev.chSel 0x0A a) = 0 ∧ t.dev.chan (s.dev.chSel 0x0A a) = DmaChan.none_)) ∧
  (∀ (s : State) (e : Fin 4) (w : Fin 64) (b : List Nat), s.dev.running 0x0A = true → s.dev.dmaWinner e = some w.val → ((s.dmaWin e w).dev.chan w).fetched = false → ((s.dmaWin e w).dmaRead w ((s.dmaWin e w).dev.get F.DMA_CH_CUR_CUR w) 64).2 = .ok b → descBad b = false →
      Answers (.dmaBurstIssue e []) s (fun t => t.mem = ((s.dmaWin e w).dmaRead w ((s.dmaWin e w).dev.get F.DMA_CH_CUR_CUR w) 64).1.mem ∧ (t.dev.chan w).fetched = true ∧ (t.dev.chan w).len = leAt b 4 4 ∧ (t.dev.chan w).src = leAt b 8 8 ∧ (t.dev.chan w).dst = leAt b 16 8)) ∧
  (∀ (s : State) (e : Fin 4) (w : Fin 64), s.dev.running 0x0A = true → s.dev.dmaWinner e = some w.val → (s.dev.chan w).fetched = true → 0 < (s.dev.chan w).ready → ((s.dmaWin e w).dmaWrite w (s.dev.chan w).dstAt ((s.dev.chan w).burst (s.dev.chan w).ready)).2 = none →
      Answers (.dmaBurstIssue e []) s (fun t => t.mem = ((s.dmaWin e w).dmaWrite w (s.dev.chan w).dstAt ((s.dev.chan w).burst (s.dev.chan w).ready)).1.mem ∧ t.dev.chan w = (s.dev.chan w).wrote (s.dev.chan w).ready ∧ t.dev.var V.dmaFly w = (s.dev.fly w + 1 : Nat))) ∧
  (∀ (s : State) (e : Fin 4) (w : Fin 64) (b : List Nat), s.dev.running 0x0A = true → s.dev.dmaWinner e = some w.val → (s.dev.chan w).fetched = true → (s.dev.chan w).ready = 0 → ((s.dmaWin e w).dmaRead w (s.dev.chan w).srcAt (min (256 - (s.dev.chan w).srcAt % 256) ((s.dev.chan w).len - (s.dev.chan w).read))).2 = .ok b →
      Answers (.dmaBurstIssue e []) s (fun t => t.dev.chan w = { s.dev.chan w with read := (s.dev.chan w).read + min (256 - (s.dev.chan w).srcAt % 256) ((s.dev.chan w).len - (s.dev.chan w).read), held := (s.dev.chan w).held ++ b })) ∧
  (∀ (s : State) (c : Fin 64) (p : DmaPoint), s.dev.dmaOut c = [p] → s.dev.get F.DMA_CH_STAT_STATE c = 1 →
      Answers (.dmaFault c false) s (fun t => t.dev.get F.DMA_CH_STAT_STATE c = 2 ∧ t.dev.parkAt c = some p ∧ t.dev.dmaOut c = [] ∧ t.dev.var V.dmaAt c = s.dev.now)) ∧
  (∀ (s : State) (c : Fin 64) (p : DmaPoint), s.dev.parkAt c = some p → s.dev.get F.DMA_CH_STAT_STATE c = 2 → s.dev.dmaOut c = [] →
      Answers (.dmaParked c) s (fun t => t.dev.get F.DMA_CH_STAT_STATE c = 3 ∧ t.dev.get F.DMA_CH_FREC_KIND c = p.kind % 2 ^ F.DMA_CH_FREC_KIND.width ∧ t.dev.get F.DMA_CH_FREC_CAUSE c = p.cause % 2 ^ F.DMA_CH_FREC_CAUSE.width ∧ t.dev.get F.DMA_CH_FADDR_FADDR c = p.addr % 2 ^ F.DMA_CH_FADDR_FADDR.width ∧ t.dev.get F.DMA_CH_DONE_DONE c = p.point.done % 2 ^ F.DMA_CH_DONE_DONE.width ∧ t.dev.get F.COM_STAT_FAULT 0x0A = 1 ∧ t.dev.get F.DMA_ENG_FSEQ_SEQ (c.val / 16) = (s.dev.get F.DMA_ENG_FSEQ_SEQ (c.val / 16) + 1) % 2 ^ 32)) ∧
  (∀ (s : State) (c : Fin 64), s.dev.get F.DMA_CH_STAT_STATE c = 1 → (s.dev.chan c).ended = true → s.dev.dmaOut c = [] → tbit (s.dev.chan c).ctrl 11 = false → s.dev.get F.DMA_CH_CFG_OWNER c = 0 → tbit (s.dev.chan c).ctrl 9 = false →
      Answers (.dmaDescriptorDone c) s (fun t => t.dev.get F.DMA_CH_STAT_STATE c = 1 ∧ t.dev.get F.DMA_CH_CUR_CUR c = (s.dev.chan c).nextD / 64 * 64 % 2 ^ F.DMA_CH_CUR_CUR.width ∧ t.dev.get F.DMA_CH_STAT_NDESC c = (s.dev.get F.DMA_CH_STAT_NDESC c + 1) % 2 ^ F.DMA_CH_STAT_NDESC.width ∧ t.mem = s.mem)) ∧
  (∀ (s : State) (c : Fin 64) (k : Fin 6) (at_ : Nat) (l r : List Nat), s.dev.get F.DMA_CH_STAT_STATE c = 1 → (s.dev.chan c).ended = true → s.dev.dmaOut c = [] → s.dev.on F.DMA_CH_CFG_OWNER c = true → s.dev.blob 43 c = lineEntry k at_ l ++ r → at_ < 2 ^ 64 → l.length < 2 ^ 32 →
      Answers (.dmaDescriptorDone c) s (fun t => t.dev.get F.DMA_CH_STAT_STATE c = 1 ∧ t.dev.chan c = { DmaChan.none_ with len := l.length, dst := at_, rows := 1, read := l.length, held := l, fetched := true } ∧ t.dev.blob 43 c = r ∧ t.mem = s.mem)) ∧
  (∀ (s : State) (a : Acc), Taken s 0x0A a → (s.dev.chSel 0x0A a) < 64 → s.dev.get F.DMA_CH_STAT_STATE (s.dev.chSel 0x0A a) = 3 → s.dev.get F.DMA_CH_FREC_KIND (s.dev.chSel 0x0A a) ≠ 5 → ((s.dev.on F.DMA_CH_CFG_OWNER (s.dev.chSel 0x0A a) = false ∧ tbit (s.dev.chan (s.dev.chSel 0x0A a)).ctrl 11 = false ∧ tbit (s.dev.chan (s.dev.chSel 0x0A a)).ctrl 9 = true) ∨ (s.dev.on F.DMA_CH_CFG_OWNER (s.dev.chSel 0x0A a) = true ∧ s.dev.blob 43 (s.dev.chSel 0x0A a) = [])) →
      Answers (.dmaSkip a) s (fun t => t.dev.get F.DMA_CH_STAT_STATE (s.dev.chSel 0x0A a) = 0 ∧ t.dev.get F.DMA_CH_STAT_NDESC (s.dev.chSel 0x0A a) = s.dev.get F.DMA_CH_STAT_NDESC (s.dev.chSel 0x0A a) ∧ t.dev.get F.DMA_CH_FREC_KIND (s.dev.chSel 0x0A a) = 0 ∧ t.mem = s.mem)) ∧
  (∀ (s : State) (a : Acc), Taken s 0x0A a → (s.dev.chSel 0x0A a) < 64 → s.dev.get F.DMA_CH_STAT_STATE (s.dev.chSel 0x0A a) = 3 → s.dev.get F.DMA_CH_CFG_OWNER (s.dev.chSel 0x0A a) = 0 → s.dev.get F.DMA_CH_FREC_KIND (s.dev.chSel 0x0A a) ≠ 5 → s.dev.get F.DMA_CH_FREC_KIND (s.dev.chSel 0x0A a) ≠ 6 →
      Answers (.dmaResume a) s (fun t => t.dev.get F.DMA_CH_STAT_STATE (s.dev.chSel 0x0A a) = 1 ∧ t.dev.chan (s.dev.chSel 0x0A a) = s.dev.chan (s.dev.chSel 0x0A a))) ∧
  (∀ (s : State) (a : Acc), Taken s 0x0A a → (s.dev.chSel 0x0A a) < 64 → (s.dev.get F.DMA_CH_STAT_STATE (s.dev.chSel 0x0A a) = 3 ∨ s.dev.get F.DMA_CH_STAT_STATE (s.dev.chSel 0x0A a) = 1) → (s.dev.on F.DMA_CH_CFG_OWNER (s.dev.chSel 0x0A a) = false ∨ s.dev.blob 43 (s.dev.chSel 0x0A a) = []) →
      Answers (.dmaAbort a) s (fun t => t.dev.get F.DMA_CH_STAT_STATE (s.dev.chSel 0x0A a) = (if s.dev.get F.DMA_CH_STAT_STATE (s.dev.chSel 0x0A a) = 3 then 0 else 4))) ∧
  (∀ (s : State) (c : Fin 64), s.dev.get F.DMA_CH_STAT_STATE c = 4 → (s.dev.on F.DMA_CH_CFG_OWNER c = false ∨ s.dev.blob 43 c = []) →
      Answers (.dmaAbortDone c) s (fun t => t.dev.get F.DMA_CH_STAT_STATE c = 0 ∧ t.dev.chan c = DmaChan.none_ ∧ t.dev.var V.dmaFly c = max 0 (s.dev.var V.dmaFly c - 64))) ∧
  (∀ (s : State) (a : Acc) (e : Fin 4), Taken s 0x0A a →
      Answers (.dmaEngineClear a e) s (fun t => t.dev.get F.DMA_ENG_STAT_MAXINF e = 0 ∧ t.dev.get F.DMA_ENG_STAT_INFLT e = s.dev.get F.DMA_ENG_STAT_INFLT e))

/-- SYS: effects of the reset, boot, release, watchdog and keeper commands where their conditions hold (R22, R72, R503, R510, R513, R514, R522, R542, R613, R627). -/
def Obligations.ModuleResetBootAndReleases : Prop :=
  (∀ (s : State) (p : Bool), (p = true ∨ s.dev.var V.modReq 0 ≠ 0) → s.dev.var V.line 0 = 0 →
      Answers (.moduleReset p) s (fun t => t.dev.get F.SYS_RSTC_CAUSE 0 = (s.resetCause p) % 2 ^ F.SYS_RSTC_CAUSE.width ∧ t.dev.get F.PWR_MODE_MODE 0 = 1 ∧ t.dev.get F.PWR_MODE_LADDER 0 = 1 ∧ t.dev.get F.SYS_REL_PA 0 = 0 ∧ t.dev.get F.SYS_REL_DP 0 = 0 ∧ t.dev.var V.keeperUp 0 = 0 ∧ t.dev.var V.modReq 0 = 0 ∧ t.dev.reports = [] ∧ t.log = s.log ∧ t.otp = s.otp ∧ t.mem = lostMem 3 s.dev.free s.mem)) ∧
  (∀ (s : State) (x y : ImgCheck), s.dev.var V.booted 0 ≠ 1 → s.dev.var V.kilnOn 0 ≠ 1 → s.dev.var V.supOn 2 = 1 → s.dev.passed V.supOnAt 2 10000000 = true → s.dev.var V.dramGone 0 = 0 → s.dev.get F.PWR_MODE_MODE 0 = 1 → s.dev.var V.wakePend 0 = 0 → s.dev.get F.PWR_MODE_PENDV 0 = 0 → s.dev.get F.PWR_MODE_LADDER 0 < 3 →
      Answers (.keeperBoot true x y) s (fun t => t.dev.var V.keeperUp 0 = 1 ∧ t.dev.var V.booted 0 = 1 ∧ t.dev.get F.CLR_PLANE_MGTUP 0 = 1 ∧ t.dev.get F.SYS_STRAP_NOW 0 = 1 ∧ t.dev.get F.SYS_BOOT_STRAP 0 = 1 ∧ t.dev.get F.PWR_MODE_LADDER 0 = 3)) ∧
  (∀ (s : State) (x y : ImgCheck), s.dev.var V.booted 0 ≠ 1 → s.dev.var V.kilnOn 0 ≠ 1 → s.dev.var V.supOn 2 = 1 → s.dev.passed V.supOnAt 2 10000000 = true → s.dev.var V.dramGone 0 = 0 → s.dev.var V.lcSt 0 = 2 → s.dev.get F.SYS_BOOT_SLOT 0 = 3 → s.dev.get F.UPD_SL_STAT_ST 0 < 3 → s.dev.get F.UPD_SL_STAT_ST 1 < 3 → s.dev.var V.wakePend 0 = 0 → s.dev.get F.PWR_MODE_MODE 0 = 1 → s.dev.get F.PWR_MODE_PENDV 0 = 0 → s.dev.get F.PWR_MODE_LADDER 0 < 3 →
      Answers (.keeperBoot false x y) s (fun t => t.dev.get F.UPD_STATE_FALLEN 0 = 1 ∧ t.dev.get F.UPD_STATE_REASON 0 = 1 ∧ t.dev.var V.keeperUp 0 = 1)) ∧
  (∀ (s : State) (x y : ImgCheck), s.dev.var V.booted 0 ≠ 1 → s.dev.var V.kilnOn 0 = 0 → s.dev.var V.supOn 2 = 1 → s.dev.passed V.supOnAt 2 10000000 = true → s.dev.var V.dramGone 0 = 0 → s.dev.var V.lcSt 0 ≠ 4 → s.dev.get F.SYS_BOOT_SLOT 0 = 3 → s.dev.get F.UPD_SL_STAT_ST 0 = 5 → s.dev.get F.UPD_SL_STAT_ST 1 < 3 → s.dev.imgOk s.otp 0 x = true → s.dev.get F.UPD_STATE_FALLEN 0 = 0 → 2 ≤ s.dev.get F.PWR_MODE_MODE 0 → s.dev.var V.modReq 0 = 0 → s.dev.var V.planesOff 0 = 0 → s.dev.failedRegions = 0 →
      Answers (.keeperBoot false x y) s (fun t => t.dev.var V.keeperUp 0 = 1 ∧ t.dev.get F.SYS_BOOT_SLOT 0 = 0 ∧ t.dev.get F.UPD_STATE_BOOTED 0 = 0 ∧ t.dev.get F.SYS_BOOT_SVN 0 = s.dev.get F.UPD_SL_STAT_SVN 0 % 2 ^ F.SYS_BOOT_SVN.width ∧ t.dev.get F.SYS_REL_PA 0 = 1 ∧ t.dev.get F.SYS_REL_PB 0 = 1 ∧ t.dev.get F.CLR_PLANE_CTLUP 0 = 1 ∧ t.dev.get F.PWR_DEAD_ARMED 0 = 1 ∧ t.dev.var V.dpLoad 0 = 1)) ∧
  (∀ (s : State) (img : ImgCheck), s.bootOk img = true → s.dev.mayRelease = true → s.dev.var V.cpLoad 0 = 1 → s.dev.failedRegions = 0 → s.dev.var V.dramGone 0 = 0 →
      Answers (.controlPlaneRelease img) s (fun t => t.dev.get F.SYS_REL_PA 0 = 1 ∧ t.dev.get F.SYS_REL_PB 0 = 1 ∧ t.dev.get F.CLR_PLANE_CTLUP 0 = 1 ∧ t.dev.get F.PWR_DEAD_ARMED 0 = 1 ∧ t.dev.var V.cpLoad 0 = 0 ∧ t.dev.var V.hbDue 0 = s.dev.var V.uptime 0 + (max 20 (s.dev.get F.PWR_DEAD_FIRST_T 0) : Nat) * 1000000 * 65536)) ∧
  (∀ (s : State) (img : ImgCheck), s.bootOk img = true → s.dev.mayRelease = true → s.dev.var V.dpLoad 0 = 1 → s.dev.var V.dramWait 0 = 0 → s.dev.get F.SYS_REL_PA 0 = 1 → s.dev.get F.SYS_BOOT_DONE 0 = 0 →
      Answers (.dataPlaneLoadDone img) s (fun t => t.dev.get F.SYS_REL_DP 0 = 1 ∧ t.dev.get F.CLR_PLANE_DATAUP 0 = 1 ∧ t.dev.get F.SYS_BOOT_DONE 0 = 1 ∧ t.dev.var V.dpLoad 0 = 0 ∧ t.dev.var V.wdPer 0 = (10 * max 100 (s.dev.get F.SYS_DPWD_PERIOD 0) : Nat))) ∧
  (∀ (s : State) (img : ImgCheck), s.bootOk img = true → s.dev.mayRelease = true → s.dev.var V.dpLoad 0 = 1 → s.dev.var V.dramWait 0 = 0 → s.dev.get F.SYS_REL_PA 0 = 1 → s.dev.get F.SYS_BOOT_DONE 0 = 1 →
      Answers (.dataPlaneRelease img) s (fun t => t.dev.get F.SYS_REL_DP 0 = 1 ∧ t.dev.get F.CLR_PLANE_DATAUP 0 = 1 ∧ t.dev.var V.dpLoad 0 = 0)) ∧
  (∀ (s : State) (img : ImgCheck), s.bootOk img = false → s.dev.mayRelease = true → s.dev.var V.cpLoad 0 = 1 →
      Answers (.controlPlaneRelease img) s (fun t => t.dev.get F.SYS_REL_PA 0 = s.dev.get F.SYS_REL_PA 0 ∧ t.dev.get F.COM_STAT_FAULT 0x00 = 1 ∧ t.dev.var V.modReq 0 = 3 ∧ t.dev.get F.UPD_SL_STAT_ST (s.dev.get F.UPD_STATE_BOOTED 0) = 7)) ∧
  (∀ (s : State) (e : List Nat) (img : ImgCheck), s.bootOk img = true → s.dev.mayRelease = true → s.dev.var V.dpLoad 0 = 1 → s.dev.var V.dramWait 0 = 0 → s.dev.get F.SYS_REL_PA 0 = 1 → s.dev.get F.SYS_REL_DP 0 = 0 → s.dev.get F.SYS_BOOT_DONE 0 = 0 → s.dev.planeComps true = [e] →
      Answers (.dataPlaneLoadDone img) s (fun t => t.mem = memWrite s.mem (leAt e 8 8) (s.dev.imgBytes (t.dev.get F.SYS_BOOT_SLOT 0) (leAt e 20 4) (leAt e 16 4)))) ∧
  (∀ (s : State), s.dev.var V.cpReq 0 = 5 → s.dev.inTrial = false → s.dev.var V.kilnOn 0 = 0 → s.dev.var V.segPh 0 = 0 → s.dev.var V.dramGone 0 = 0 → s.dev.get F.UPD_STATE_FALLEN 0 = 0 →
      Answers .controlPlaneReset s (fun t => t.dev.get F.SYS_CPRST_CAUSE 0 = 5 ∧ t.dev.get F.SYS_REL_PA 0 = 0 ∧ t.dev.get F.SYS_REL_PB 0 = 0 ∧ t.dev.get F.CLR_PLANE_CTLUP 0 = 0 ∧ t.dev.var V.cpReq 0 = 0 ∧ (∀ c < 24, t.dev.get F.LSW_CH_CFG_EN c = 0) ∧ t.dev.var V.cpLoad 0 = (if s.dev.var V.planesOff 0 = 1 then 0 else 1))) ∧
  (∀ (s : State), s.dev.var V.dpReq 0 = 2 → s.dev.inTrial = false → s.dev.var V.dramGone 0 = 0 → s.dev.get F.UPD_STATE_FALLEN 0 = 0 →
      Answers .dataPlaneReset s (fun t => t.dev.get F.SYS_DPRST_CAUSE 0 = 2 ∧ t.dev.get F.SYS_REL_DP 0 = 0 ∧ t.dev.get F.CLR_PLANE_DATAUP 0 = 0 ∧ t.dev.var V.dpReq 0 = 0 ∧ t.dev.var V.dramWait 0 = 1 ∧ t.mem = lostMem 1 s.dev.free s.mem)) ∧
  (∀ (s : State), s.dev.get F.SYS_REL_DP 0 = 1 → s.dev.var V.dpReq 0 = 0 → s.dev.passed V.wdAt 0 (s.dev.var V.wdPer 0 * 1000000) = true →
      Answers .dataPlaneWatchdog s (fun t => t.dev.var V.dpReq 0 = 1 ∧ t.dev.get F.CLR_PLANE_DATAUP 0 = 0)) ∧
  (∀ (s : State), s.dev.var V.keeperUp 0 = 1 →
      Answers .keeperRestart s (fun t => t.dev.var V.keeperUp 0 = 0 ∧ t.dev.get F.CLR_PLANE_MGTUP 0 = 0)) ∧
  (∀ (s : State), s.dev.var V.keeperUp 0 = 0 → s.dev.var V.booted 0 = 1 → s.dev.var V.kilnRep 0 = 0 → s.dev.var V.wakePend 0 = 0 → s.dev.var V.dramGone 0 = 0 →
      Answers .keeperReturn s (fun t => t.dev.var V.keeperUp 0 = 1 ∧ t.dev.get F.CLR_PLANE_MGTUP 0 = 1))

/-- SYS and LCS: effects of the lockstep, reset-request, challenge and response commands where their conditions hold (R508, R509, R518, R519, R520, R522). -/
def Obligations.LockstepRequestsAndLifeCycle : Prop :=
  (∀ (s : State) (b : Bool) (out : BitVec 8), s.dev.on (if b then F.SYS_REL_PB else F.SYS_REL_PA) 0 = true →
      Answers (.lockstepMismatch b out) s (fun t => t.dev.get (if b then F.SYS_LSTEP_CMPB else F.SYS_LSTEP_CMPA) 0 = min (s.dev.get (if b then F.SYS_LSTEP_CMPB else F.SYS_LSTEP_CMPA) 0 + 1) (2 ^ (if b then F.SYS_LSTEP_CMPB else F.SYS_LSTEP_CMPA).width - 1) ∧ t.dev.var V.cpReq 0 = (if s.dev.var V.cpReq 0 = 0 then (if b then 2 else 1) else s.dev.var V.cpReq 0))) ∧
  (∀ (s : State) (a : Acc) (pb : Bool), Taken s 0x00 a → s.dev.get F.PWR_MODE_MODE 0 = 2 → s.dev.get F.SYS_REL_PA 0 = 1 → s.dev.var V.cpReq 0 = 0 →
      Answers (.lockstepInject a true pb) s (fun t => t.dev.var V.cpReq 0 = 3 ∧ t.dev.get F.SYS_LSTEP_CMPA 0 = min (s.dev.get F.SYS_LSTEP_CMPA 0 + 1) (2 ^ F.SYS_LSTEP_CMPA.width - 1))) ∧
  (∀ (s : State) (a : Acc), Taken s 0x00 a →
      Answers (.resetRequestCtl (.reg a)) s (fun t => t.dev.var V.cpReq 0 = (if s.dev.var V.cpReq 0 = 0 then 5 else s.dev.var V.cpReq 0))) ∧
  (∀ (s : State) (k : Fin 8), s.dev.cmdNew (328 + k.val) = true → s.dev.var V.keeperUp 0 = 1 →
      Answers (.resetRequestCtl (.slot k)) s (fun t => t.dev.var V.cpReq 0 = (if s.dev.var V.cpReq 0 = 0 then 6 else s.dev.var V.cpReq 0))) ∧
  (∀ (s : State) (a : Acc), Taken s 0x00 a →
      Answers (.resetRequestData (.reg a)) s (fun t => t.dev.var V.dpReq 0 = (if s.dev.var V.dpReq 0 = 0 then 2 else s.dev.var V.dpReq 0))) ∧
  (∀ (s : State) (k : Fin 8), s.dev.cmdNew (344 + k.val) = true → s.dev.var V.keeperUp 0 = 1 →
      Answers (.resetRequestData (.slot k)) s (fun t => t.dev.var V.dpReq 0 = (if s.dev.var V.dpReq 0 = 0 then 2 else s.dev.var V.dpReq 0))) ∧
  (∀ (s : State) (a : Acc), Taken s 0x00 a →
      Answers (.resetRequestModule a) s (fun t => t.dev.var V.modReq 0 = (if s.dev.var V.modReq 0 = 0 then 3 else s.dev.var V.modReq 0))) ∧
  (∀ (s : State) (a : Acc) (kind : BitVec 2) (target : BitVec 3) (key : BitVec 2), Taken s 0x02 a → s.dev.lcsLocked = false → s.lcsAllows kind.toNat target.toNat key.toNat = true →
      Answers (.challengeRequest a kind target key) s (fun t => t.dev.get F.LCS_RSTAT_ST 0 = 1 ∧ (∀ k < 8, t.dev.get F.LCS_CHAL_W k = Config.free (s.dev.free + k) % 2 ^ 32) ∧ t.dev.get F.LCS_CHAL_W 10 = ((s.dev.var V.lcSt 0).toNat + 256 * kind.toNat + 65536 * target.toNat + 16777216 * key.toNat) % 2 ^ 32 ∧ t.dev.var V.chalAt 0 = s.dev.var V.uptime 0)) ∧
  (∀ (s : State) (a : Acc), Taken s 0x02 a → s.dev.get F.LCS_RSTAT_ST 0 = 1 → s.dev.passed V.chalAt 0 60000000000 = false → s.lcsAllows (s.dev.get F.LCS_CHAL_W 10 / 256 % 256) (s.dev.get F.LCS_CHAL_W 10 / 65536 % 256) (s.dev.get F.LCS_CHAL_W 10 / 16777216) = true → s.dev.get F.LCS_CHAL_W 10 / 256 % 256 = 1 →
      Answers (.responseSubmit a true) s (fun t => t.dev.get F.LCS_RSTAT_ST 0 = 3 ∧ t.dev.get F.LCS_RSTAT_OK 0 = 1 ∧ t.dev.get F.LCS_STATE_PENDV 0 = 1 ∧ t.otp = { s.otp with st := max s.otp.st (s.dev.get F.LCS_CHAL_W 10 / 65536 % 256) })) ∧
  (∀ (s : State) (a : Acc), Taken s 0x02 a →
      Answers (.responseSubmit a false) s (fun t => t.dev.get F.LCS_RSTAT_ST 0 = 3 ∧ t.dev.get F.LCS_RSTAT_OK 0 = 0 ∧ t.dev.get F.LCS_RSTAT_REFUSED 0 = 1 ∧ t.dev.get F.LCS_DBG_FAILS 0 = min (s.dev.get F.LCS_DBG_FAILS 0 + 1) (2 ^ F.LCS_DBG_FAILS.width - 1) ∧ t.otp = s.otp)) ∧
  (∀ (s : State), s.dev.get F.LCS_RSTAT_ST 0 = 1 → s.dev.passed V.chalAt 0 60000000000 = true →
      Answers .challengeExpiry s (fun t => t.dev.get F.LCS_RSTAT_ST 0 = 0))

/-- UPD: effects of the commands of a Management slot where their conditions hold (R528, R531, R533, R534, R535, R536, R539). -/
def Obligations.UpdateCommandsAreTaken : Prop :=
  (∀ (s : State), s.dev.updReady false 1 = true → s.dev.get F.UPD_XFER_OP 0 = 0 → s.dev.inTrial = false → s.dev.get F.PWR_MODE_MODE 0 ≠ 5 → imageOk (s.dev.updArg false 12 4) (s.dev.updArg false 16 8) = true → (s.imgBlock (s.dev.updArg false 16 8) (s.dev.updArg false 12 4) 0).isSome = true →
      Answers .updStage s (fun t => t.dev.get F.UPD_XFER_OP 0 = 1 ∧ t.dev.get F.UPD_XFER_ST 0 = 1 ∧ t.dev.var V.xfAddr 0 = (s.dev.updArg false 16 8 : Int) ∧ t.dev.var V.xfLen 0 = (s.dev.updArg false 12 4 : Int) ∧ t.mem = s.mem)) ∧
  (∀ (s : State), s.dev.updReady false 2 = true → s.dev.get F.UPD_XFER_OP 0 = 0 → s.dev.get F.PWR_MODE_MODE 0 ≠ 5 → imageOk (s.dev.updArg false 12 4) (s.dev.updArg false 16 8) = true → s.dev.updTargets (s.dev.updArg false 24 2) (s.dev.updArg false 26 6) ≠ [] →
      Answers .updPush s (fun t => t.dev.get F.UPD_XFER_OP 0 = 2 ∧ t.dev.var V.pushId 0 = (s.dev.var V.pushId 0 + 1) % 65536 ∧ t.dev.var V.xfLen 0 = (s.dev.updArg false 12 4 : Int) ∧ t.dev.var V.pushDet 0 = 0)) ∧
  (∀ (s : State) (ctl : Bool), s.dev.updReady ctl 3 = true → s.dev.updSelf ctl = true → s.dev.get F.UPD_SL_STAT_ST (s.dev.idleSlot) = 2 →
      Answers (.updActivate ctl) s (fun t => t.dev.get F.UPD_SL_STAT_ST (s.dev.idleSlot) = 3)) ∧
  (∀ (s : State) (ctl : Bool), s.dev.updReady ctl 4 = true → s.dev.updSelf ctl = true → s.dev.inTrial = true → s.dev.get F.UPD_STATE_BOOTED 0 ≤ 1 →
      Answers (.updConfirm ctl) s (fun t => t.dev.get F.UPD_SL_STAT_ST (s.dev.get F.UPD_STATE_BOOTED 0) = 5 ∧ (s.dev.get F.UPD_SL_STAT_ST (s.dev.idleSlot) = 5 → t.dev.get F.UPD_SL_STAT_ST (s.dev.idleSlot) = 6) ∧ t.dev.var V.setOther 0 ≠ 1 ∧ s.otp.svn ≤ t.otp.svn ∧ t.otp.st = s.otp.st)) ∧
  (∀ (s : State) (ctl : Bool), s.dev.updReady ctl 5 = true →
      Answers (.updStatus ctl) s (fun t => t.dev.cmdNew (s.dev.updSlot ctl) = false ∧ t.dev.get F.UPD_XFER_OP 0 = s.dev.get F.UPD_XFER_OP 0 ∧ t.dev.get F.UPD_SL_STAT_ST 0 = s.dev.get F.UPD_SL_STAT_ST 0)) ∧
  (∀ (s : State) (ctl : Bool), s.dev.updReady ctl 6 = true → s.dev.get F.UPD_XFER_OP 0 ≠ 0 →
      Answers (.updAbort ctl) s (fun t => t.dev.get F.UPD_XFER_OP 0 = 0 ∧ t.dev.get F.UPD_XFER_ST 0 = 0)) ∧
  (∀ (s : State) (ctl : Bool), s.dev.updReady ctl 7 = true → s.dev.get F.PWR_MODE_MODE 0 = 2 →
      Answers (.updReboot ctl) s (fun t => t.dev.var V.modReq 0 = 3)) ∧
  (∀ (s : State) (ctl : Bool), s.dev.updReady ctl 0x10 = true → s.dev.updArg ctl 12 4 % 64 = 0 → s.dev.updArg ctl 12 4 < 786432 → tbit (s.dev.updArg ctl 16 1) 0 = false → s.dev.get F.CLR_PLANE_MGTUP 0 = 1 → s.dev.get F.UPD_CFG_CSLOT 0 < 8 → s.dev.get F.UPD_CFG_DSLOT 0 < 8 →
      Answers (.updSread ctl) s (fun t => ((t.dev.clrPub (s.dev.updSlot ctl - 8)).drop 32).take 64 = (s.dev.settings (s.dev.var V.setPres 0).toNat (s.dev.updArg ctl 12 4)).map (· % 256))) ∧
  (∀ (s : State) (ctl : Bool), s.dev.updReady ctl 0x11 = true → s.dev.updArg ctl 12 4 % 64 = 0 → s.dev.updArg ctl 12 4 < 786432 → tbit (s.dev.updArg ctl 16 1) 0 = false →
      Answers (.updSwrite ctl) s (fun t => t.dev.settings (s.dev.var V.setPres 0).toNat (s.dev.updArg ctl 12 4) = ((s.dev.clrPub (s.dev.updSlot ctl)).drop 32).take 64)) ∧
  (∀ (s : State) (ctl : Bool), s.dev.updReady ctl (s.dev.updArg ctl 8 1) = true → (updOpcodes ctl).contains (s.dev.updArg ctl 8 1) = false →
      Answers (.updBadOpcode ctl) s (fun t => t.dev.cmdNew (s.dev.updSlot ctl) = false ∧ t.dev.get F.UPD_XFER_OP 0 = s.dev.get F.UPD_XFER_OP 0 ∧ Reported s t 0x30 0 0x0202))

/-- UPD: effects of the block, push, trial and run commands where their conditions hold (R530, R532, R535, R538, R539, R540, R541, R545). -/
def Obligations.BlocksPushesAndTrials : Prop :=
  (∀ (s : State), s.dev.get F.UPD_XFER_OP 0 = 1 → s.dev.var V.slDone (s.dev.idleSlot) < s.dev.var V.slTotal (s.dev.idleSlot) → (s.imgBlock (s.dev.var V.xfAddr 0).toNat (s.dev.var V.xfLen 0).toNat (s.dev.var V.slDone (s.dev.idleSlot)).toNat).isSome = true →
      Answers (.norBlockWrite true) s (fun t => s.imgBlock (s.dev.var V.xfAddr 0).toNat (s.dev.var V.xfLen 0).toNat (s.dev.var V.slDone (s.dev.idleSlot)).toNat = some (t.dev.blob 1 (norIx s.dev.idleSlot (s.dev.var V.slDone (s.dev.idleSlot)).toNat)) ∧ t.dev.var V.slDone (s.dev.idleSlot) = ((s.dev.var V.slDone (s.dev.idleSlot)).toNat + 1 : Nat) ∧ t.dev.get F.UPD_SL_STAT_ST (s.dev.idleSlot) = 1)) ∧
  (∀ (s : State), s.dev.get F.UPD_XFER_OP 0 = 1 → s.dev.var V.slTotal (s.dev.idleSlot) = 1 → 1 ≤ s.dev.var V.slDone (s.dev.idleSlot) → s.imgBlock (s.dev.var V.xfAddr 0).toNat (s.dev.var V.xfLen 0).toNat 0 = some (padTo 4096 (s.dev.blob 1 (norIx s.dev.idleSlot 0))) →
      Answers .stageDone s (fun t => t.dev.get F.UPD_SL_STAT_ST (s.dev.idleSlot) = 2 ∧ t.dev.get F.UPD_XFER_OP 0 = 0)) ∧
  (∀ (s : State) (a : Acc), Taken s 0x30 a → s.dev.var V.norWin 0 = 0 → s.dev.get F.UPD_XFER_OP 0 = 0 → crc32c s.dev.winBytes = s.dev.get F.UPD_BLK_IDX2_CRC 0 → s.dev.get F.UPD_BLK_IDX0_BLOCK 0 ≠ 0 → s.dev.get F.UPD_BLK_IDX0_BLOCK 0 < s.dev.get F.UPD_BLK_IDX1_TOTAL 0 → s.dev.get F.UPD_BLK_IDX1_TOTAL 0 ≤ 131072 → s.dev.var V.slDone (s.dev.winSlot) = s.dev.get F.UPD_BLK_IDX0_BLOCK 0 → s.dev.var V.slTotal (s.dev.winSlot) = s.dev.get F.UPD_BLK_IDX1_TOTAL 0 →
      Answers (.updBlockGo a) s (fun t => t.dev.var V.norWin 0 = 1 ∧ t.dev.var V.blkRes 0 = 0)) ∧
  (∀ (s : State), s.dev.inTrial = true → s.dev.get F.UPD_CFG_CONFTO 0 ≠ 0 → s.dev.passed V.trialAt 0 (s.dev.get F.UPD_CFG_CONFTO 0 * 1000000000) = true →
      Answers .trialTimeout s (fun t => t.dev.var V.modReq 0 = 3)) ∧
  (∀ (s : State), s.dev.get F.SYS_REL_PA 0 = 1 → s.dev.get F.SYS_REL_DP 0 = 1 → s.dev.passed V.relAt 0 300000000000 = true → s.dev.passed V.relAt 1 300000000000 = true →
      Answers .runProven s (fun t => t.dev.get F.UPD_RUNCNT_CNT 0 = 0)) ∧
  (∀ (s : State) (x : BulkIn), s.dev.mayReceive = true → s.dev.get F.UPD_XFER_OP 0 = 3 → s.dev.var V.norWin 0 = 0 → x.member = 9#16 → x.serial = 0#48 → s.dev.var V.rxId 0 = x.id.toNat → s.dev.var V.rxNext 0 = x.block.toNat → s.dev.var V.rxAsm 0 = x.block.toNat → [0, 1, 2, 3].any (fun f => f != x.frame.val && s.dev.blob 13 f == []) = true →
      Answers (.bulkDataReceived x) s (fun t => t.dev.blob 13 x.frame.val = padTo 1024 (x.data.map (·.toNat)) ∧ t.dev.var V.rxNext 0 = s.dev.var V.rxNext 0 ∧ t.dev.get F.UPD_XFER_RXDROP 0 = s.dev.get F.UPD_XFER_RXDROP 0)) ∧
  (∀ (s : State) (n : Fin 32) (hi : BitVec 30), s.dev.get F.UPD_XFER_OP 0 = 2 → tbit (s.dev.var V.pushTgt 0).toNat n = true → s.dev.var V.pushAck n < hi.toNat →
      Answers (.bulkAckReceived n hi) s (fun t => t.dev.var V.pushAck n = (hi.toNat : Int) ∧ t.dev.var V.pushAt 0 = s.dev.var V.uptime 0)) ∧
  (∀ (s : State), s.dev.get F.UPD_XFER_OP 0 = 2 → s.dev.passed V.pushAt 0 50000000 = true →
      Answers .pushResend s (fun t => t.dev.var V.pushAt 0 = s.dev.var V.uptime 0 ∧ t.dev.var V.pushNext 0 = s.dev.lowAck + 1 + ((s.dev.bulkFits (4 * (max (s.dev.lowAck + 1) (min (blocksIn (s.dev.var V.xfLen 0).toNat : Int) (s.dev.lowAck + 8)) - (s.dev.lowAck + 1))).toNat / 4 : Nat) : Int)))

/-- SHRD, SAGR and SEG: effects of the report, record, panel and counter commands where their conditions hold (R548, R549, R550, R551, R552, R568, R570, R571, R572, R575). -/
def Obligations.SherdSaggarAndSegmentPanel : Prop :=
  (∀ (s : State) (r : Report) (l : List Report), s.dev.reports = r :: l → s.dev.ctlUp = false → s.dev.intake.length < 32 →
      Answers .errorReport s (fun t => t.dev.reports = l ∧ t.dev.intake = s.dev.intake ++ [⟨s.dev.nextSeq, s.dev.now, r.src, r.cls + 4 + 64, r.code, padTo 32 r.pay, 0, r.errw⟩])) ∧
  (∀ (s : State) (r : Report) (l : List Report), s.dev.reports = r :: l → s.dev.ctlUp = true → 1 ≤ r.cls → r.cls ≤ 3 → s.dev.sagrCur = none → s.dev.sagrQ = [] → s.dev.intake.length < 32 →
      Answers .errorReport s (fun t => t.dev.reports = l ∧ t.dev.sagrCur = some ⟨some s.dev.nextSeq, r.src, r.cls, r.code, padTo 32 r.pay, s.dev.now, r.errw, 0, false⟩ ∧ t.dev.intake = s.dev.intake ++ [⟨s.dev.nextSeq, s.dev.now, r.src, r.cls, r.code, padTo 32 r.pay, 0, r.errw⟩] ∧ t.dev.get F.SAGR_STATE_BUSY 0 = 1 ∧ t.dev.get F.SAGR_STATE_CLS 0 = r.cls ∧ t.dev.get F.SAGR_CUR_SEQ_SEQ 0 = s.dev.nextSeq % 2 ^ 32 ∧ (r.cls = 3 → t.dev.var V.hbBlock 0 = 1))) ∧
  (∀ (s : State) (a : Acc) (code : BitVec 16), Taken s 0x03 a → 0x8000 ≤ code.toNat → s.dev.intake.length < 32 →
      Answers (.sagrRaise a 0 code) s (fun t => t.dev.intake.length = s.dev.intake.length + 1 ∧ t.dev.get F.SAGR_CNT0_C0 0 = min (s.dev.get F.SAGR_CNT0_C0 0 + 1) (2 ^ F.SAGR_CNT0_C0.width - 1) ∧ t.dev.sagrCur = s.dev.sagrCur)) ∧
  (∀ (s : State) (a : Acc) (e : SagrEntry) (q : BitVec 32), Taken s 0x03 a → s.dev.sagrCur = some e → e.seq = some q.toNat → s.dev.sagrQ = [] →
      Answers (.sagrAck a q) s (fun t => t.dev.sagrCur = none ∧ t.dev.get F.SAGR_STATE_BUSY 0 = 0 ∧ t.dev.get F.SAGR_CUR_SEQ_SEQ 0 = 0xFFFFFFFF)) ∧
  (∀ (s : State) (r : Record) (l : List Record) (ok2 : Bool), s.dev.intake = r :: l →
      Answers (.recordWrite true ok2) s (fun t => t.dev.intake = l ∧ t.log = logPut s.log s.dev.logIndex (.held (s.dev.finish r)) ∧ t.dev.get F.SHRD_HEADSEQ_SEQ 0 = r.seq % 2 ^ F.SHRD_HEADSEQ_SEQ.width)) ∧
  (∀ (s : State) (ctl : Bool), s.dev.shrdReady ctl = true → shrdKind (s.dev.clrPub (s.dev.shrdSlot ctl)) = 1 → s.dev.intake.length < 32 → leAt (s.dev.clrPub (s.dev.shrdSlot ctl)) 10 1 = 0 →
      Answers (.shrdLog ctl) s (fun t => t.dev.intake.length = s.dev.intake.length + 1 ∧ t.dev.cmdNew (s.dev.shrdSlot ctl) = false)) ∧
  (∀ (s : State) (ctl : Bool), s.dev.shrdReady ctl = true → shrdKind (s.dev.clrPub (s.dev.shrdSlot ctl)) = 2 → s.dev.get F.CLR_PLANE_MGTUP 0 = 1 → s.dev.get F.SHRD_CFG_CSLOT 0 < 8 → s.dev.get F.SHRD_CFG_DSLOT 0 < 8 →
      Answers (.shrdRead ctl) s (fun t => ((t.dev.clrPub (s.dev.shrdSlot ctl - 8)).drop 16).take 64 = (logBytes s.log (leAt (s.dev.clrPub (s.dev.shrdSlot ctl)) 12 4)).map (· % 256) ∧ t.log = s.log)) ∧
  (∀ (s : State) (ctl : Bool), s.dev.shrdReady ctl = true → shrdKind (s.dev.clrPub (s.dev.shrdSlot ctl)) = 0 →
      Answers (.shrdBadCommand ctl) s (fun t => t.dev.cmdNew (s.dev.shrdSlot ctl) = false ∧ t.dev.intake = s.dev.intake ∧ Reported s t 0x04 0 0x0202)) ∧
  (∀ (s : State) (a : Acc) (full : Bool) (k : Fin 24), Taken s 0x25 a → s.dev.running 0x25 = true → s.dev.var V.segReplay 0 = 0 →
      Answers (.panelCommit a full) s (fun t => t.dev.get F.SEG_TGT_SEG k = s.dev.get F.SEG_STG_SEG k % 2 ^ F.SEG_TGT_SEG.width ∧ t.dev.var V.segStop 0 = 0)) ∧
  (∀ (s : State) (vr vs : BitVec 8) (c : Nat), s.dev.segMayStart = true → s.dev.segPend.head? = some c → s.dev.get F.SEG_STATE_BAND 0 < 8 →
      Answers (.panelLineStart vr vs) s (fun t => t.dev.get F.SEG_STATE_LINE 0 = c ∧ t.dev.get F.SEG_LN_STAT_ST c = 1 ∧ (∀ w < 3, t.dev.var V.segWord w = (s.dev.get F.SEG_TGT_SEG (3 * c + w) : Int)) ∧ (t.dev.var V.segPh 0 = 1 ∨ t.dev.var V.segPh 0 = 2))) ∧
  (∀ (s : State), s.dev.segPassed 2 (s.dev.get F.BAND_T_TR.act ((s.dev.var V.segBand 0).toNat)) = true →
      Answers .panelSelectPhase s (fun t => t.dev.var V.segPh 0 = 3 ∧ t.dev.var V.segAt 0 = s.dev.var V.uptime 0)) ∧
  (∀ (s : State), s.dev.segPassed 3 (s.dev.get F.BAND_T_TS.act ((s.dev.var V.segBand 0).toNat)) = true →
      Answers .panelEvolvePhase s (fun t => t.dev.var V.segPh 0 = 4 ∧ t.dev.var V.segAt 0 = s.dev.var V.uptime 0)) ∧
  (∀ (s : State), s.dev.segPassed 4 (s.dev.get F.BAND_E_TE.act ((s.dev.var V.segBand 0).toNat)) = true → s.dev.var V.segReplay 0 = 0 → s.dev.get F.SEG_STATE_LINE 0 < 8 →
      Answers (.panelLineEnd true) s (fun t => t.dev.var V.segPh 0 = 0 ∧ (∀ w < 3, t.dev.get F.SEG_DSP_SEG (3 * s.dev.get F.SEG_STATE_LINE 0 + w) = (s.dev.var V.segWord w).toNat % 2 ^ F.SEG_DSP_SEG.width) ∧ (∀ k < 96, t.dev.get F.SEG_CTR_S (96 * s.dev.get F.SEG_STATE_LINE 0 + k) = min (s.dev.get F.SEG_CTR_S (96 * s.dev.get F.SEG_STATE_LINE 0 + k) + 1) (2 ^ F.SEG_CTR_S.width - 1)))) ∧
  (∀ (s : State), s.dev.var V.segPh 0 = 1 → s.dev.passed V.segAt 0 5000000 = true →
      Answers .generatorTimeout s (fun t => t.dev.var V.segPh 0 = 0 ∧ t.dev.var V.segStop 0 = 1 ∧ t.dev.get F.SEG_STATE_ST 0 = 4 ∧ Reported s t 0x25 1 0x0202)) ∧
  (∀ (s : State), s.dev.running 0x25 = true → s.dev.var V.pscDown 0 ≠ 1 → s.dev.passed V.segTempAt 0 100000000 = true →
      Answers (.panelTempRead none) s (fun t => t.dev.get F.SEG_TEMP_TSFLT 0 = 1 ∧ t.dev.get F.SEG_STATE_BAND 0 = s.dev.get F.SEG_CFG_FBAND.act 0 % 2 ^ F.SEG_STATE_BAND.width ∧ t.dev.var V.segCold 0 = 0)) ∧
  (∀ (s : State) (a : Acc), Taken s 0x25 a → s.dev.get F.PWR_MODE_MODE 0 = 2 →
      Answers (.stressClear a) s (fun t => ∀ k < 768, t.dev.get F.SEG_CTR_S k = 0))

/-- KILN and CONE: effects of the request, run, age and sweep commands where their conditions hold (R585, R589, R591, R593, R594, R597, R598, R602, R603, R605). -/
def Obligations.KilnRunsAndConeSweeps : Prop :=
  (∀ (s : State) (a : Acc) (mask : BitVec 7), Taken s 0x05 a → s.dev.get F.COM_CTRL_EN 0x05 = 1 → mask ≠ 0#7 → s.dev.var V.kilnOn 0 = 1 → s.dev.var V.dramGone 0 = 0 →
      Answers (.kilnRunRequest a mask) s (fun t => t.dev.get F.KILN_REFUSE_CAUSE 0 = 4 ∧ t.dev.var V.kilnQ 0 = s.dev.var V.kilnQ 0 ∧ t.dev.get F.KILN_STATE_ST 0 = s.dev.get F.KILN_STATE_ST 0)) ∧
  (∀ (s : State) (a : Acc), Taken s 0x05 a → s.dev.get F.COM_CTRL_EN 0x05 = 1 → s.dev.var V.kilnOn 0 = 0 → s.dev.var V.dramGone 0 = 0 → s.dev.get F.KILN_STATE_ST 0 = 0 → s.dev.var V.lcSt 0 = 2 → s.dev.get F.PWR_MODE_MODE 0 = 2 → s.dev.get F.PWR_MODE_LADDER 0 < 2 → s.dev.kilnReady 2 = true →
      Answers (.kilnRunRequest a 4#7) s (fun t => t.dev.get F.KILN_STATE_ST 0 = 1 ∧ t.dev.get F.KILN_STATE_REG 0 = 2 ∧ t.dev.var V.kilnOn 0 = 1 ∧ t.dev.var V.underKiln 0x20 = 1)) ∧
  (∀ (s : State), s.dev.get F.COM_CTRL_EN 0x05 = 1 → s.dev.cmdNew (328 + s.dev.get F.KILN_CFG_CSLOT 0) = true → s.dev.var V.keeperUp 0 = 1 → leAt (s.dev.clrPub (328 + s.dev.get F.KILN_CFG_CSLOT 0)) 8 1 = 1 → leAt (s.dev.clrPub (328 + s.dev.get F.KILN_CFG_CSLOT 0)) 10 2 = 0 → leAt (s.dev.clrPub (328 + s.dev.get F.KILN_CFG_CSLOT 0)) 12 4 = 4 → ((s.dev.clrPub (328 + s.dev.get F.KILN_CFG_CSLOT 0)).drop 16).any (· != 0) = false → s.dev.var V.kilnOn 0 = 0 → s.dev.var V.dramGone 0 = 0 → s.dev.get F.KILN_STATE_ST 0 = 0 → s.dev.var V.lcSt 0 = 2 → s.dev.get F.PWR_MODE_MODE 0 = 2 → s.dev.get F.PWR_MODE_LADDER 0 < 2 → s.dev.kilnReady 2 = true →
      Answers .kilnRunCommand s (fun t => t.dev.get F.KILN_STATE_ST 0 = 1 ∧ t.dev.get F.KILN_STATE_REG 0 = 2 ∧ t.dev.var V.kilnOn 0 = 1 ∧ t.dev.var V.kilnSrc 0 = 1)) ∧
  (∀ (s : State), s.dev.get F.KILN_STATE_ST 0 = 1 →
      Answers .kilnQuiesced s (fun t => t.dev.get F.KILN_STATE_ST 0 = 3)) ∧
  (∀ (s : State) (x : BitVec 64), s.dev.get F.KILN_STATE_ST 0 = 3 → s.dev.var V.dramGone 0 = 0 → s.dev.kilnSaveTime + s.dev.kilnPats (s.dev.get F.KILN_STATE_REG 0) * kilnShift (s.dev.get F.KILN_STATE_REG 0) ≤ s.dev.since V.kilnAt 0 →
      Answers (.kilnPatternDone x false) s (fun t => t.dev.get F.KILN_STATE_ST 0 = 5 ∧ t.dev.get F.KILN_MISR_MISR (s.dev.get F.KILN_STATE_REG 0) = (s.dev.kilnSound (t.dev.get F.KILN_STATE_REG 0) ^^^ x.toNat) % 2 ^ F.KILN_MISR_MISR.width)) ∧
  (∀ (s : State), s.dev.get F.KILN_STATE_ST 0 = 5 → s.dev.kilnSaveTime ≤ s.dev.since V.kilnAt 0 → s.dev.get F.KILN_STATE_REG 0 = 2 → s.dev.kilnPass 2 = true → s.dev.var V.kilnQ 0 = 0 → s.dev.var V.kilnOn 0 = 1 → s.dev.var V.kilnSrc 0 = 0 → s.dev.var V.pwrHeld 0 = 0 → s.dev.var V.ladWas 0 = 0 → s.dev.var V.dramGone 0 = 0 → (∀ k < 64, s.dev.get F.WHL_LP_CFG_EN k = 0) →
      Answers .kilnRunEnd s (fun t => t.dev.get F.KILN_RG_STAT_RESULT 2 = 1 ∧ t.dev.get F.KILN_RG_STAT_FSTICK 2 = 0 ∧ t.dev.get F.KILN_RG_AGE_AGE 2 = 0 ∧ t.dev.get F.KILN_STATE_ST 0 = 0 ∧ t.dev.var V.kilnOn 0 = 0 ∧ t.dev.var V.underKiln 0x20 = 0)) ∧
  (∀ (s : State) (r : Fin 7), (s.dev.get F.KILN_RG_AGE_AGE r + 1 : Int) * 3600000000000 * 65536 ≤ s.dev.ctlReleased - s.dev.var V.kilnMark r →
      Answers .kilnAgeHour s (fun t => t.dev.get F.KILN_RG_AGE_AGE r = min 65535 (s.dev.get F.KILN_RG_AGE_AGE r + 1) ∧ (s.dev.dueInt r ≤ s.dev.get F.KILN_RG_AGE_AGE r + 1 → t.dev.get F.KILN_RG_STAT_DUE r = 1))) ∧
  (∀ (s : State) (a : Acc), Taken s 0x06 a → s.dev.running 0x06 = true → s.dev.var V.coneOn 0 ≠ 1 →
      Answers (.coneSweepGo a) s (fun t => t.dev.var V.coneOn 0 = 1 ∧ t.dev.get F.CONE_SWEEP_SEQ_SEQ 0 = (s.dev.get F.CONE_SWEEP_SEQ_SEQ 0 + 1) % 2 ^ F.CONE_SWEEP_SEQ_SEQ.width ∧ t.dev.get F.CONE_SWEEP_T0_T0 0 = toBits 64 s.dev.now)) ∧
  (∀ (s : State), s.dev.running 0x06 = true → s.dev.get F.CONE_SWEEP_CFG_PERIOD 0 ≠ 0 → s.dev.passed V.coneAt 0 (s.dev.get F.CONE_SWEEP_CFG_PERIOD 0 * 1000000) = true → s.dev.var V.coneOn 0 ≠ 1 →
      Answers .coneSweepPeriodic s (fun t => t.dev.var V.coneOn 0 = 1 ∧ t.dev.var V.coneAt 0 = s.dev.var V.uptime 0 ∧ t.dev.get F.CONE_SWEEP_SEQ_SEQ 0 = (s.dev.get F.CONE_SWEEP_SEQ_SEQ 0 + 1) % 2 ^ F.CONE_SWEEP_SEQ_SEQ.width)) ∧
  (∀ (s : State), s.dev.var V.coneOn 0 = 1 →
      Answers .coneSweepDone s (fun t => t.dev.var V.coneOn 0 = 0 ∧ t.dev.get F.CONE_SWEEP_SEQ_SEQ 0 = (s.dev.get F.CONE_SWEEP_SEQ_SEQ 0 + 1) % 2 ^ F.CONE_SWEEP_SEQ_SEQ.width))

/-- The Glade monitor: effects of its served commands where their conditions hold (R573, R591, R620, R650, R652, R653, R654). -/
def Obligations.MonitorServesLines : Prop :=
  (∀ (s : State), s.dev.monReady = true → s.dev.var V.monWait 0 = 0 → s.dev.monRefusal 1 true true = 0 →
      Answers .monHello s (fun t => t.dev.get F.MON_LAST_CMD 0 = 1 ∧ t.dev.get F.MON_LAST_CODE 0 = 0 ∧ (t.dev.blob 30 0).take 8 = leBytes 8 Config.otpSerial ∧ (t.dev.blob 30 0).length = 36 ∧ t.dev.get F.MON_STAT_LINES 0 = min (s.dev.get F.MON_STAT_LINES 0 + 1) (2 ^ F.MON_STAT_LINES.width - 1) ∧ OutsideKept s t)) ∧
  (∀ (s : State) (i : BitVec 32) (n : BitVec 8), s.dev.monReady = true → s.dev.var V.monWait 0 = 0 → s.dev.monRefusal 2 true true = 0 → 0 < n.toNat → n.toNat ≤ 64 → i.toNat ≤ 32767 →
      Answers (.monLog i n) s (fun t => t.dev.get F.MON_LAST_CMD 0 = 2 ∧ t.dev.get F.MON_LAST_CODE 0 = 0 ∧ t.dev.blob 30 0 = (List.range n.toNat).flatMap (fun k => logBytes s.log ((i.toNat + k) % 32768)) ∧ OutsideKept s t)) ∧
  (∀ (s : State) (x : BitVec 40), s.dev.monReady = true → s.dev.var V.monWait 0 = 0 → s.dev.monRefusal 3 true false = 0 → inDram x.toNat = true → s.dev.poisoned x.toNat = false →
      Answers (.monRd x) s (fun t => t.dev.get F.MON_LAST_CMD 0 = 3 ∧ t.dev.get F.MON_LAST_CODE 0 = 0 ∧ t.dev.blob 30 0 = leBytes 4 (ofLe (memRead s.mem x.toNat 4)) ∧ OutsideKept s t)) ∧
  (∀ (s : State) (x : BitVec 40), s.dev.monReady = true → s.dev.var V.monWait 0 = 0 → s.dev.monRefusal 3 true false = 0 → inDram x.toNat = true → s.dev.poisoned x.toNat = true →
      Answers (.monRd x) s (fun t => t.dev.get F.MON_LAST_CMD 0 = 3 ∧ t.dev.get F.MON_LAST_CODE 0 = 6 ∧ t.dev.blob 30 0 = [] ∧ OutsideKept s t)) ∧
  (∀ (s : State) (x : BitVec 40) (v : BitVec 32), s.dev.monReady = true → s.dev.var V.monWait 0 = 0 → s.dev.monRefusal 4 (s.dev.monReach x.toNat) false = 0 → inDram x.toNat = true → s.dev.poisoned x.toNat = false →
      Answers (.monWr x v) s (fun t => t.dev.get F.MON_LAST_CMD 0 = 4 ∧ t.dev.get F.MON_LAST_CODE 0 = 0 ∧ t.mem = memWrite s.mem x.toNat (leBytes 4 v.toNat) ∧ t.log = s.log ∧ t.otp = s.otp ∧ Reported s t 0x31 0 0x0202)) ∧
  (∀ (s : State) (m : BitVec 8), s.dev.monReady = true → s.dev.var V.monWait 0 = 0 → s.dev.monRefusal 5 true true = 0 → (m = 4#8 ∨ m = 5#8) → s.dev.get F.PWR_MODE_MODE 0 = 2 → s.dev.var V.kilnOn 0 = 0 → s.dev.var V.pwrHeld 0 = 0 → s.dev.pwrRefusal 3 m.toNat = none →
      Answers (.monMode m) s (fun t => t.dev.get F.PWR_MODE_MODE 0 = m.toNat ∧ t.dev.get F.MON_LAST_CMD 0 = 5 ∧ t.dev.get F.MON_LAST_CODE 0 = 0 ∧ t.dev.blob 30 0 = [0] ∧ Reported s t 0x31 0 0x0202)) ∧
  (∀ (s : State) (k : BitVec 7), s.dev.monReady = true → s.dev.var V.monWait 0 = 0 → s.dev.monRefusal 6 true true = 0 → s.dev.var V.kilnOn 0 = 1 →
      Answers (.monKiln k) s (fun t => t.dev.get F.MON_LAST_CMD 0 = 6 ∧ t.dev.get F.MON_LAST_CODE 0 = 6 ∧ t.dev.var V.kilnQ 0 = s.dev.var V.kilnQ 0 ∧ t.dev.var V.monWait 0 = 0)) ∧
  (∀ (s : State), s.dev.monReady = true → s.dev.var V.monWait 0 = 0 → s.dev.monRefusal 6 true true = 0 → s.dev.get F.COM_CTRL_EN 0x05 = 1 → s.dev.var V.kilnOn 0 = 0 → s.dev.var V.dramGone 0 = 0 → s.dev.get F.KILN_STATE_ST 0 = 0 → s.dev.var V.lcSt 0 = 2 → s.dev.get F.PWR_MODE_MODE 0 = 2 → s.dev.get F.PWR_MODE_LADDER 0 < 2 → s.dev.kilnReady 2 = true →
      Answers (.monKiln 4#7) s (fun t => t.dev.get F.KILN_STATE_ST 0 = 1 ∧ t.dev.get F.KILN_STATE_REG 0 = 2 ∧ t.dev.var V.kilnOn 0 = 1 ∧ t.dev.var V.monWait 0 = 6 ∧ Reported s t 0x31 0 0x0202)) ∧
  (∀ (s : State), s.dev.monReady = true → s.dev.var V.monWait 0 = 0 → s.dev.monRefusal 10 true false = 0 → s.dev.var V.modReq 0 = 0 →
      Answers .monReset s (fun t => t.dev.var V.modReq 0 = 3 ∧ t.dev.get F.MON_LAST_CMD 0 = 10 ∧ t.dev.get F.MON_LAST_CODE 0 = 0 ∧ Reported s t 0x31 0 0x0202))

/-- The Glade monitor: effects of the challenge, block and error commands where their conditions hold (R517, R520, R534, R535, R649, R650, R652, R655, R656). -/
def Obligations.MonitorChallengesBlocksAndErrors : Prop :=
  (∀ (s : State) (kind : BitVec 2) (target : BitVec 3) (key : BitVec 2), s.dev.monReady = true → s.dev.var V.monWait 0 = 0 → s.dev.monRefusal 7 true false = 0 → s.dev.lcsLocked = false → s.lcsAllows kind.toNat target.toNat key.toNat = true →
      Answers (.monChal kind target key) s (fun t => t.dev.get F.LCS_RSTAT_ST 0 = 1 ∧ t.dev.get F.LCS_CHAL_W 10 = ((s.dev.var V.lcSt 0).toNat + 256 * kind.toNat + 65536 * target.toNat + 16777216 * key.toNat) % 2 ^ 32 ∧ (t.dev.blob 30 0).length = 48 ∧ t.dev.get F.MON_LAST_CMD 0 = 7 ∧ t.dev.get F.MON_LAST_CODE 0 = 0)) ∧
  (∀ (s : State) (r v : BitVec 384), s.dev.monReady = true → s.dev.var V.monWait 0 = 0 → s.dev.monRefusal 8 true false = 0 → s.dev.get F.LCS_RSTAT_ST 0 = 1 → s.dev.passed V.chalAt 0 60000000000 = false → s.lcsAllows (s.dev.get F.LCS_CHAL_W 10 / 256 % 256) (s.dev.get F.LCS_CHAL_W 10 / 65536 % 256) (s.dev.get F.LCS_CHAL_W 10 / 16777216) = true → s.dev.get F.LCS_CHAL_W 10 / 256 % 256 = 1 →
      Answers (.monResp r v true) s (fun t => t.dev.get F.LCS_RSTAT_ST 0 = 3 ∧ t.dev.get F.LCS_RSTAT_OK 0 = 1 ∧ t.dev.get F.LCS_STATE_PENDV 0 = 1 ∧ t.otp = { s.otp with st := max s.otp.st (s.dev.get F.LCS_CHAL_W 10 / 65536 % 256) } ∧ t.dev.get F.MON_LAST_CMD 0 = 8 ∧ t.dev.get F.MON_LAST_CODE 0 = 0)) ∧
  (∀ (s : State) (r v : BitVec 384), s.dev.monReady = true → s.dev.var V.monWait 0 = 0 → s.dev.monRefusal 8 true false = 0 →
      Answers (.monResp r v false) s (fun t => t.dev.get F.LCS_RSTAT_ST 0 = 3 ∧ t.dev.get F.LCS_RSTAT_OK 0 = 0 ∧ t.dev.get F.LCS_RSTAT_REFUSED 0 = 1 ∧ t.otp = s.otp)) ∧
  (∀ (s : State) (n k c : BitVec 32) (l : List Byte), s.dev.monReady = true → s.dev.var V.monWait 0 = 0 → s.dev.monRefusal 9 true false = 0 → s.dev.get F.UPD_XFER_OP 0 ≠ 0 →
      Answers (.monBlk n k c l) s (fun t => t.dev.get F.MON_LAST_CMD 0 = 9 ∧ t.dev.get F.MON_LAST_CODE 0 = 5 ∧ t.dev.var V.norWin 0 = s.dev.var V.norWin 0)) ∧
  (∀ (s : State) (n k c : BitVec 32) (l : List Byte), s.dev.monReady = true → s.dev.var V.monWait 0 = 0 → s.dev.monRefusal 9 true false = 0 → s.dev.get F.UPD_XFER_OP 0 = 0 → s.dev.var V.norWin 0 = 0 → crc32c (padTo 4096 (l.map (fun b => b.toNat))) = c.toNat → n.toNat ≠ 0 → n.toNat < k.toNat → k.toNat ≤ 131072 → s.dev.var V.slDone (s.dev.winSlot) = n.toNat → s.dev.var V.slTotal (s.dev.winSlot) = k.toNat →
      Answers (.monBlk n k c l) s (fun t => t.dev.var V.norWin 0 = 1 ∧ t.dev.var V.monWait 0 = 9 ∧ t.dev.get F.UPD_BLK_IDX0_BLOCK 0 = n.toNat ∧ t.dev.get F.UPD_BLK_IDX2_CRC 0 = c.toNat)) ∧
  (∀ (s : State), s.dev.monReady = true → s.dev.var V.monWait 0 = 0 →
      Answers .monCrcError s (fun t => t.dev.get F.MON_LAST_CODE 0 = 1 ∧ t.dev.get F.MON_STAT_ERRS 0 = min (s.dev.get F.MON_STAT_ERRS 0 + 1) (2 ^ F.MON_STAT_ERRS.width - 1) ∧ t.dev.get F.MON_STAT_LINES 0 = s.dev.get F.MON_STAT_LINES 0 ∧ tbit (t.dev.get F.COM_IRQ_STAT_V 0x31) 1 = true)) ∧
  (∀ (s : State), s.dev.monReady = true → s.dev.var V.monWait 0 = 0 →
      Answers .monLineTimeout s (fun t => t.dev.get F.MON_LAST_CODE 0 = 8 ∧ t.dev.get F.MON_STAT_LINES 0 = s.dev.get F.MON_STAT_LINES 0)) ∧
  (∀ (s : State), s.dev.monReady = true → s.dev.var V.monWait 0 = 0 →
      Answers .monSyntaxError s (fun t => t.dev.get F.MON_LAST_CODE 0 = 2 ∧ t.dev.blob 30 0 = [])) ∧
  (∀ (s : State), s.dev.monReady = true → s.dev.var V.monWait 0 = 0 → s.dev.monRefusal 9 true false = 0 →
      Answers .monBlockTimeout s (fun t => t.dev.get F.MON_LAST_CMD 0 = 9 ∧ t.dev.get F.MON_LAST_CODE 0 = 8 ∧ t.dev.var V.norWin 0 = s.dev.var V.norWin 0))

/-- REG: effects of register writes, pair accesses, CHSEL writes and unmapped accesses where their conditions hold (R45, R46, R47, R52, R56, R57, R58, R61, R67, R71, R660). -/
def Obligations.RegisterWritesAndReads : Prop :=
  (∀ (s : State) (a : Acc) (x : RegIn), x.ufs = false → x.slot.toNat = 0x12 → Taken s 0x12 a → x.off.toNat = 0x810 → x.len.toNat = 4 → s.dev.get F.COM_APPLY_PEND 0x12 = 0 → s.dev.var V.underKiln 0x12 ≠ 1 →
      Answers (.registerWrite a x) s (fun t => t.dev.get F.GNTK_RING_CFG_NEP 0 = x.data.toNat % 256 ∧ t.dev.get F.GNTK_RING_CFG_NEP.act 0 = s.dev.get F.GNTK_RING_CFG_NEP.act 0 ∧ t.dev.resp = 1)) ∧
  (∀ (s : State) (a : Acc) (x : RegIn) (i : Nat), x.ufs = false → slots.contains x.slot.toNat = true → Taken s x.slot.toNat a → x.slot.toNat ≠ 0x0B → x.off.toNat = 0x18 → x.len.toNat = 4 →
      Answers (.registerWrite a x) s (fun t => t.dev.get F.COM_IRQ_EN_V (x.slot.toNat) = x.data.toNat % 2 ^ 32 ∧ t.dev.resp = 1 ∧ (i ≠ x.slot.toNat → t.dev.get F.COM_IRQ_EN_V i = s.dev.get F.COM_IRQ_EN_V i))) ∧
  (∀ (s : State) (a : Acc) (x : RegIn), x.ufs = false → slots.contains x.slot.toNat = true → Taken s x.slot.toNat a → x.slot.toNat ≠ 0x0B → x.off.toNat = 0x14 → x.len.toNat = 4 → s.dev.get F.COM_IRQ_STAT_V (x.slot.toNat) < 2 ^ 32 →
      Answers (.registerWrite a x) s (fun t => t.dev.get F.COM_IRQ_STAT_V (x.slot.toNat) = s.dev.get F.COM_IRQ_STAT_V (x.slot.toNat) &&& (x.data.toNat % 2 ^ 32 ^^^ (2 ^ 32 - 1)) ∧ t.dev.resp = 1)) ∧
  (∀ (s : State) (a : Acc) (x : RegIn), x.ufs = false → x.slot.toNat = 0x2B → Taken s 0x2B a → x.off.toNat = 0x804 → x.len.toNat = 4 → s.dev.running 0x2B = true → s.dev.get F.RIDE_CYC_RCYC 0 ≠ x.data.toNat % 2 ^ 14 →
      Answers (.registerWrite a x) s (fun t => t.dev.get F.RIDE_CYC_RCYC 0 = s.dev.get F.RIDE_CYC_RCYC 0 ∧ t.dev.resp = 1 ∧ t.dev.get F.COM_ERR_VALID 0x2B = 1 ∧ (s.dev.get F.COM_ERR_VALID 0x2B = 0 → t.dev.get F.COM_ERR_LOCKWR 0x2B = 1 ∧ Reported s t 0x2B 0 0x0100))) ∧
  (∀ (s : State) (a : Acc) (x : RegIn), x.ufs = false → x.slot.toNat = 0x09 → Taken s 0x09 a → x.off.toNat = 0x1010 → x.len.toNat = 8 →
      Answers (.registerWrite a x) s (fun t => t.dev.get F.IOMU_DDTP_V 0 = x.data.toNat % 2 ^ 64 ∧ t.dev.resp = 1)) ∧
  (∀ (s : State) (a : Acc) (x : RegIn) (i : Nat), x.ufs = false → slots.contains x.slot.toNat = true → sizeOk x.off.toNat x.len.toNat = false →
      Answers (.registerWrite a x) s (fun t => t.dev.resp = 2 ∧ t.dev.get F.COM_ERR_VALID (x.slot.toNat) = 1 ∧ (s.dev.get F.COM_ERR_VALID (x.slot.toNat) = 0 → t.dev.get F.COM_ERR_SIZE (x.slot.toNat) = 1) ∧ (∀ f ∈ [F.PWR_ALARM_ALARM, F.GNTK_EPOCH_CFG_EPER, F.IOMU_DDTP_V, F.COM_IRQ_EN_V], t.dev.get f i = s.dev.get f i))) ∧
  (∀ (s : State) (a : Acc) (n : BitVec 6) (off : BitVec 16) (w : Bool), slots.contains n.toNat = false →
      Answers (.configAccessUnmapped a n off w) s (fun t => t.dev.resp = 2 ∧ t.dev.get F.COM_ERR_VALID 0 = 1 ∧ (s.dev.get F.COM_ERR_VALID 0 = 0 → t.dev.get F.COM_ERR_UNMAP 0 = 1 ∧ t.dev.get F.COM_ERR_WOFF 0 = off.toNat / 4 ∧ t.dev.get F.COM_ERR_BANK 0 = a.bank.val ∧ Reported s t 0 0 0x0105))) ∧
  (∀ (s : State) (a : Acc) (n : BitVec 6) (ch : BitVec 16) (i : Nat), slots.contains n.toNat = true → Taken s n.toNat a →
      Answers (.chselWrite a n ch) s (fun t => t.dev.get F.COM_CHSEL_CH (n.toNat * 16 + a.bank.val) = ch.toNat ∧ (i ≠ n.toNat * 16 + a.bank.val → t.dev.get F.COM_CHSEL_CH i = s.dev.get F.COM_CHSEL_CH i))) ∧
  (∀ (s : State) (a : Acc) (n : BitVec 6) (off : BitVec 16), slots.contains n.toNat = true → 0x100 ≤ off.toNat → pairHalf n.toNat off.toNat false = true → s.dev.readCause n.toNat off.toNat a = none → (∀ r ∈ (regAt n.toNat off.toNat).toList, r.reg.chan = true → s.dev.get F.COM_CHSEL_CH (n.toNat * 16 + a.bank.val) < chCnt n.toNat) →
      Answers (.pairLowRead a n off) s (fun t => ∀ r ∈ (regAt n.toNat off.toNat).toList, t.dev.rdata = s.dev.regValue n.toNat r (fieldIndex s.dev n.toNat off.toNat a.bank.val (t.dev.get F.COM_CHSEL_CH (n.toNat * 16 + a.bank.val)) r) % 2 ^ 32 ∧ t.dev.var V.rdTag (n.toNat * 16 + a.bank.val) = off.toNat + 1 ∧ t.dev.var V.rdHold (n.toNat * 16 + a.bank.val) = (s.dev.regValue n.toNat r (fieldIndex s.dev n.toNat off.toNat a.bank.val (t.dev.get F.COM_CHSEL_CH (n.toNat * 16 + a.bank.val)) r) / 2 ^ 32 : Nat))) ∧
  (∀ (s : State) (a : Acc) (n : BitVec 6) (off : BitVec 16), slots.contains n.toNat = true → 0x100 ≤ off.toNat → pairHalf n.toNat off.toNat true = true → s.dev.readCause n.toNat off.toNat a = none → (∀ r ∈ (regAt n.toNat off.toNat).toList, r.reg.chan = true → s.dev.get F.COM_CHSEL_CH (n.toNat * 16 + a.bank.val) < chCnt n.toNat) → s.dev.var V.rdTag (n.toNat * 16 + a.bank.val) = (off.toNat - 4 + 1 : Nat) →
      Answers (.pairHighRead a n off) s (fun t => t.dev.rdata = (s.dev.var V.rdHold (n.toNat * 16 + a.bank.val)).toNat ∧ t.dev.var V.rdTag (n.toNat * 16 + a.bank.val) = 0)) ∧
  (∀ (s : State) (a : Acc) (n : BitVec 6) (off : BitVec 16) (v : BitVec 32) (i : Nat), slots.contains n.toNat = true → Taken s n.toNat a → pairHalf n.toNat off.toNat false = true → (∀ r ∈ (regAt n.toNat off.toNat).toList, r.reg.chan = true → s.dev.get F.COM_CHSEL_CH (n.toNat * 16 + a.bank.val) < chCnt n.toNat) →
      Answers (.pairLowWrite a n off v) s (fun t => t.dev.var V.wrTag (n.toNat * 16 + a.bank.val) = off.toNat + 1 ∧ t.dev.var V.wrHold (n.toNat * 16 + a.bank.val) = v.toNat ∧ (∀ r ∈ regsOf n.toNat, ∀ f ∈ r.fields, t.dev.get f i = s.dev.get f i))) ∧
  (∀ (s : State) (a : Acc) (v : BitVec 32), Taken s 0x01 a → s.dev.var V.wrTag (16 + a.bank.val) = 0x821 → 0 ≤ s.dev.var V.wrHold (16 + a.bank.val) → s.dev.var V.wrHold (16 + a.bank.val) < 2 ^ 32 →
      Answers (.pairHighWrite a 0x01#6 0x824#16 v) s (fun t => t.dev.get F.PWR_ALARM_ALARM 0 = (s.dev.var V.wrHold (16 + a.bank.val)).toNat + v.toNat * 2 ^ 32 ∧ t.dev.var V.wrTag (16 + a.bank.val) = 0)) ∧
  (∀ (s : State) (a : Acc) (v : BitVec 32), Taken s 0x01 a → s.dev.var V.wrTag (16 + a.bank.val) ≠ 0x821 →
      Answers (.pairHighWrite a 0x01#6 0x824#16 v) s (fun t => t.dev.get F.PWR_ALARM_ALARM 0 = s.dev.get F.PWR_ALARM_ALARM 0 % 2 ^ 32 + v.toNat * 2 ^ 32))

/-- COM: effects of the enable, run, apply, copy and soft-reset commands where their conditions hold (R50, R51, R62, R63, R65, R66, R72, R73, R74, R136). -/
def Obligations.EnableRunApplyAndSoftReset : Prop :=
  (∀ (s : State) (a : Acc) (n : BitVec 6) (en : Bool), slots.contains n.toNat = true → Taken s n.toNat a → (n.toNat = 0x24 → en = false) →
      Answers (.blockEnWrite a n en) s (fun t => t.dev.get F.COM_CTRL_EN (n.toNat) = bit en ∧ t.dev.get F.COM_STAT_RUN (n.toNat) = s.dev.get F.COM_STAT_RUN (n.toNat))) ∧
  (∀ (s : State) (n : BitVec 6), slots.contains n.toNat = true → s.dev.var V.softRst (n.toNat) = 0 → s.dev.get F.COM_CTRL_EN (n.toNat) ≤ 1 → s.dev.get F.COM_STAT_RUN (n.toNat) ≠ s.dev.get F.COM_CTRL_EN (n.toNat) →
      Answers (.blockRunChange n) s (fun t => t.dev.get F.COM_STAT_RUN (n.toNat) = s.dev.get F.COM_CTRL_EN (n.toNat) ∧ t.dev.get F.COM_STAT_CFGLOCK (n.toNat) = s.dev.get F.COM_CTRL_EN (n.toNat))) ∧
  (∀ (s : State) (a : Acc) (n : BitVec 6), hasRws n.toNat = true → Taken s n.toNat a → s.dev.get F.COM_APPLY_PEND (n.toNat) = 0 →
      Answers (.applyGo a n false) s (fun t => t.dev.get F.COM_APPLY_PEND (n.toNat) = 1 ∧ t.dev.var V.applyCov (n.toNat) = 1 ∧ t.dev.var V.applyDue (n.toNat) = (maskOf (applyUnits n.toNat) : Nat))) ∧
  (∀ (s : State) (a : Acc) (n : BitVec 6), hasRws n.toNat = true → Taken s n.toNat a → s.dev.get F.COM_APPLY_PEND (n.toNat) = 0 → chCnt n.toNat ≤ s.dev.get F.COM_CHSEL_CH (n.toNat * 16 + a.bank.val) →
      Answers (.applyGo a n true) s (fun t => t.dev.get F.COM_APPLY_PEND (n.toNat) = 0 ∧ t.dev.var V.applyDue (n.toNat) = s.dev.var V.applyDue (n.toNat) ∧ t.dev.get F.COM_ERR_VALID (n.toNat) = 1 ∧ (s.dev.get F.COM_ERR_VALID (n.toNat) = 0 → t.dev.get F.COM_ERR_CHRANGE (n.toNat) = 1))) ∧
  (∀ (s : State) (n : BitVec 6) (u : Option (Fin 600)), s.dev.get F.COM_APPLY_PEND (n.toNat) = 1 → s.dev.atBoundary n.toNat ((u.map (·.val)).getD wideUnit) = true → tbit (s.dev.var V.applyDue (n.toNat)).toNat ((u.map (·.val)).getD wideUnit) = true →
      Answers (.applyCopy n u) s (fun t => ∀ r ∈ regsOf n.toNat, ∀ f ∈ r.fields, f.kind = .rws → ∀ k ∈ unitIndices n.toNat r ((u.map (·.val)).getD wideUnit), t.dev.get f.act k = s.dev.get f k % 2 ^ f.width ∧ t.dev.get f k = s.dev.get f k)) ∧
  (∀ (s : State) (n : BitVec 6) (u : Option (Fin 600)), s.dev.get F.COM_APPLY_PEND (n.toNat) = 1 → s.dev.atBoundary n.toNat ((u.map (·.val)).getD wideUnit) = true → s.dev.var V.applyDue (n.toNat) = (2 ^ ((u.map (·.val)).getD wideUnit) : Nat) →
      Answers (.applyCopy n u) s (fun t => t.dev.get F.COM_APPLY_PEND (n.toNat) = 0 ∧ t.dev.var V.applyDue (n.toNat) = 0 ∧ tbit (t.dev.get F.COM_IRQ_STAT_V (n.toNat)) 30 = true)) ∧
  (∀ (s : State) (a : Acc) (n : BitVec 6) (i : Nat), slots.contains n.toNat = true → Taken s n.toNat a → softIgnored n.toNat = false → s.dev.var V.softRst (n.toNat) ≠ 2 →
      Answers (.softReset a n) s (fun t => t.dev.get F.COM_CTRL_EN (n.toNat) = 0 ∧ t.dev.get F.COM_STAT_RUN (n.toNat) = 0 ∧ t.dev.get F.COM_STAT_BUSY (n.toNat) = 1 ∧ t.dev.get F.COM_STAT_CFGLOCK (n.toNat) = 1 ∧ t.dev.get F.COM_APPLY_PEND (n.toNat) = 0 ∧ t.dev.var V.softRst (n.toNat) = 1 ∧ (∀ r ∈ regsOf n.toNat, ∀ f ∈ r.fields, (f.kind = .rw ∨ f.kind = .rws ∨ f.kind = .rwl) → f.nvm = false → t.dev.get f i = f.reset i ∧ t.dev.get f.act i = f.act.reset i))) ∧
  (∀ (s : State) (n : BitVec 6) (u : Option (Fin 600)), s.dev.atBoundary n.toNat ((u.map (·.val)).getD wideUnit) = false →
      Answers (.applyCopy n u) s (fun t => t.dev = s.dev)) ∧
  (∀ (s : State) (a : Acc) (n : BitVec 6) (ch : BitVec 16), slots.contains n.toNat = true → Allowed n.toNat a → s.dev.var V.softRst (n.toNat) ≠ 0 → s.dev.get F.COM_CHSEL_CH (n.toNat * 16 + a.bank.val) ≠ ch.toNat → n.toNat ≠ 0x28 → n.toNat ≠ 0x29 →
      Answers (.chselWrite a n ch) s (fun t => t.dev.get F.COM_CHSEL_CH (n.toNat * 16 + a.bank.val) = s.dev.get F.COM_CHSEL_CH (n.toNat * 16 + a.bank.val) ∧ t.dev.resp = 1 ∧ t.dev.get F.COM_ERR_VALID (n.toNat) = 1 ∧ (s.dev.get F.COM_ERR_VALID (n.toNat) = 0 → t.dev.get F.COM_ERR_LOCKWR (n.toNat) = 1))) ∧
  (∀ (s : State) (n : BitVec 6), s.dev.var V.softRst (n.toNat) = 1 →
      Answers (.softResetEnd n) s (fun t => t.dev.var V.softRst (n.toNat) = 0 ∧ t.dev.get F.COM_STAT_BUSY (n.toNat) = 0 ∧ t.dev.get F.COM_STAT_CFGLOCK (n.toNat) = 0)) ∧
  (∀ (s : State) (u : Bool), s.dev.var V.softWas (if u then 0x30 else 0x05) = 1 → s.dev.var V.softRst (if u then 0x30 else 0x05) = 0 → s.dev.var V.keeperUp 0 = 1 →
      Answers (.keeperReenable u) s (fun t => t.dev.get F.COM_CTRL_EN (if u then 0x30 else 0x05) = 1))

/-- One step runs the command at the front of the queue;an empty queue lets time pass (95_what_each_step_holds). -/
def Obligations.StepTakesTheCommandAtTheFront : Prop :=
  (∀ (s : State) (c : Instr) (rest : List Instr), step { s with pending := c :: rest } = exec c { s with pending := rest }) ∧
  (∀ (s : State), s.pending = [] → ∃ t, step s = .next t ∧ t.pending = [] ∧ OutsideKept s t ∧
    t.dev.var V.uptime 0 = s.dev.var V.uptime 0 + (if s.dev.deep then 4096000 else 81920))

/-- Every command, in every state, answers a next state: the block never faults and refuses nothing (95_what_each_step_holds). -/
def Obligations.EveryCommandCompletes : Prop :=
  (∀ (c : Instr) (s : State), ∃ t, exec c s = .next t) ∧ (∀ s : State, StepGoesOn s)

/-- After reset every field holds its table's reset value, EN is as R74 gives it, and the state is sound (R74, R480, R517, R565). -/
def Obligations.ResetLeavesTheSpecsValues : Prop :=
  (∀ (f : Fld) (i : Nat), State.reset.dev.get f i = f.reset i) ∧
  (∀ n ∈ slots, State.reset.dev.get F.COM_CTRL_EN n = if n ∈ [0x00, 0x01, 0x02, 0x03, 0x04, 0x05, 0x07, 0x0B, 0x30, 0x31] then 1 else 0) ∧
  State.reset.dev.get F.IOMU_DDTP_V 0 % 16 = 0 ∧ State.reset.pending = [] ∧ State.reset.log = [] ∧ State.reset.mem = [] ∧ State.reset.wf = true

/-- Every step from a sound state gives a sound state: DRAM stays canonical, OTP a life-cycle state of the spec (R470, R517). -/
def Obligations.StateStaysSound : Prop :=
  ∀ s t : State, s.wf = true → step s = .next t → t.wf = true

/-- No step takes the life-cycle state or the security version back, and nothing else in OTP changes (R517, R519, R531). -/
def Obligations.LifeCycleAndSecurityVersionOnlyRise : Prop :=
  ∀ s t : State, s.otp.svn ≤ 64 → step s = .next t →
    s.otp.st ≤ t.otp.st ∧ s.otp.svn ≤ t.otp.svn ∧ t.otp.svn ≤ 64 ∧ { t.otp with st := s.otp.st, svn := s.otp.svn } = s.otp

/-- The log, OTP, DRAM and the queue change only by the commands that have to do with them (R470, R517, R531, R566, R570). -/
def Obligations.LogOtpMemoryAndQueueChangeByTheirCommands : Prop :=
  ∀ (c : Instr) (s t : State), exec c s = .next t → t.pending = s.pending ∧
    (match c with | .recordWrite _ _ => True | _ => t.log = s.log) ∧
    (match c with | .monResp _ _ _ | .monWr _ _ | .dmaBurstIssue _ _ | .responseSubmit _ _ | .updConfirm _ | .registerWrite _ _ => True | _ => t.otp = s.otp) ∧
    (match c with
        | .moduleReset _ | .keeperBoot _ _ _ | .dataPlaneLoadDone _ | .controlPlaneReset | .controlPlaneRelease _ | .dataPlaneReset
        | .dataPlaneRelease _ | .registerWrite _ _ | .acqCaptureEnd _ _ | .acqBinStep _ _ _ | .epochRecorded | .navRecord _ _ _ _
        | .lidarPost _ _ | .calibrationCheckDone _ _ _ | .gridUpdate _ | .gridUpdateDone | .projectionDone _ _ _ | .egoStep _
        | .npuJobStart | .npuJobDone _ | .samplingPass | .yieldPair | .hostReceive _ _ _ _ | .hostTransmit _
        | .iommuFault _ _ _ _ | .iotinvalVma | .iotinvalGvma | .iodirInvalDdt | .iofenceC | .dmaBurstIssue _ _
        | .dmaDescriptorDone _ | .dmaResume _ | .dmaSkip _ | .kilnRunRequest _ _ | .kilnRunCommand | .kilnPatternDone _ _
        | .kilnRunEnd | .supplyLoss | .modeRequest _ | .wakeLine | .canWake _ _ | .rideWake _
        | .timerWake | .monitorWakeEnd | .controlPlaneQuiet | .ladderDescend | .monWr _ _ | .monMode _
        | .monKiln _ | .keeperReturn
        => True
        | _ => t.mem = s.mem)

/-- RECORD_WRITE writes one index: the next of the keep area while it runs, else the next of the spill area (R565, R566, R570). -/
def Obligations.KeepAreaIsFilledInOrder : Prop :=
  (∀ (s : State) (a b : Bool) (r : Record) (l : List Record) (i : Nat), s.dev.intake = r :: l → 2048 ≤ s.dev.var V.spillNext 0 → s.dev.var V.spillNext 0 ≤ 32767 → 0 ≤ s.dev.var V.keepNext 0 → s.dev.get F.SHRD_KEEP_ON 0 = 1 → s.dev.get F.SHRD_KEEP_FULL 0 = 0 →
      Answers (.recordWrite a b) s (fun t => t.dev.var V.keepNext 0 = s.dev.var V.keepNext 0 + 1 ∧ t.dev.var V.spillNext 0 = s.dev.var V.spillNext 0 ∧ (i ≠ (s.dev.var V.keepNext 0).toNat → logBytes t.log i = logBytes s.log i) ∧ ((a || b) = true → logBytes t.log (s.dev.var V.keepNext 0).toNat = (s.dev.finish r).bytes) ∧ (s.dev.var V.keepNext 0 = 2047 → t.dev.get F.SHRD_KEEP_FULL 0 = 1))) ∧
  (∀ (s : State) (a b : Bool) (r : Record) (l : List Record) (i : Nat), s.dev.intake = r :: l → 2048 ≤ s.dev.var V.spillNext 0 → s.dev.var V.spillNext 0 ≤ 32767 → (s.dev.get F.SHRD_KEEP_ON 0 = 0 ∨ s.dev.get F.SHRD_KEEP_FULL 0 = 1) →
      Answers (.recordWrite a b) s (fun t => t.dev.var V.keepNext 0 = s.dev.var V.keepNext 0 ∧ t.dev.var V.spillNext 0 = (if s.dev.var V.spillNext 0 = 32767 then 2048 else s.dev.var V.spillNext 0 + 1) ∧ (i ≠ (s.dev.var V.spillNext 0).toNat → logBytes t.log i = logBytes s.log i) ∧ ((a || b) = true → logBytes t.log (s.dev.var V.spillNext 0).toNat = (s.dev.finish r).bytes)))

/-- A report equal in source and code to an entry in service or queued merges with it (R576). -/
def Obligations.ReportsMergeWithTheirEntry : Prop :=
  (∀ (s : State) (r : Report) (l : List Report), s.dev.reports = r :: l → s.dev.ctlUp = true → r.cls ≠ 0 → s.dev.sagrHas r.src r.code = true → s.dev.intake.length < 32 →
      Answers .errorReport s (fun t => t.dev.sagrQ = s.dev.sagrQ.map (mergedEntry r) ∧ t.dev.sagrCur = s.dev.sagrCur.map (mergedEntry r) ∧ t.dev.intake = s.dev.intake ++ [⟨s.dev.nextSeq, s.dev.now, r.src, r.cls + 32, r.code, padTo 32 r.pay, 0, r.errw⟩]))

/-- An access to an unassigned offset reads 0 or is ignored, completes, and sets ERR.UNMAP (R46). -/
def Obligations.UnassignedOffsetsReadZero : Prop :=
  (∀ (s : State) (a : Acc) (n : BitVec 6) (off : BitVec 16) (w : Bool), slots.contains n.toNat = true → offMapped n.toNat off.toNat = false → off.toNat % 4 = 0 → accCause n.toNat off.toNat a w = none →
      Answers (.configAccessUnmapped a n off w) s (fun t => t.dev.resp = 1 ∧ (w = false → t.dev.rdata = 0) ∧ RegFrame s t [] ∧ OutsideKept s t ∧ t.dev.get F.COM_ERR_VALID (n.toNat) = 1 ∧ (s.dev.get F.COM_ERR_VALID (n.toNat) = 0 → t.dev.get F.COM_ERR_UNMAP (n.toNat) = 1 ∧ t.dev.get F.COM_ERR_WOFF (n.toNat) = off.toNat / 4)))

/-- A channel-window access with a channel at or above CHCNT reads 0, ignores a write and sets ERR.CHRANGE (R59). -/
def Obligations.ChannelsBeyondTheBlockAreNotThere : Prop :=
  (∀ (s : State) (a : Acc) (n off : Nat), slots.contains n = true → off % 4 = 0 → s.dev.readCause n off a = none →
    ((regAt n off).any fun r => r.reg.chan) = true → chCnt n ≤ s.dev.get F.COM_CHSEL_CH (n * 16 + a.bank.val) →
    (s.confRead a n off).2 = some 0 ∧ (s.confRead a n off).1.resp = 1 ∧ (s.confRead a n off).1.get F.COM_ERR_VALID n = 1 ∧
    (s.dev.get F.COM_ERR_VALID n = 0 → (s.confRead a n off).1.get F.COM_ERR_CHRANGE n = 1)) ∧
  (∀ (s : State) (a : Acc) (x : RegIn), x.ufs = false → slots.contains x.slot.toNat = true → Taken s x.slot.toNat a → x.len.toNat = 4 → x.off.toNat % 4 = 0 → ((regAt x.slot.toNat x.off.toNat).any fun r => r.reg.chan) = true → chCnt x.slot.toNat ≤ s.dev.get F.COM_CHSEL_CH (x.slot.toNat * 16 + a.bank.val) →
      Answers (.registerWrite a x) s (fun t => t.dev.resp = 1 ∧ RegFrame s t [] ∧ OutsideKept s t ∧ t.dev.get F.COM_ERR_VALID (x.slot.toNat) = 1 ∧ (s.dev.get F.COM_ERR_VALID (x.slot.toNat) = 0 → t.dev.get F.COM_ERR_CHRANGE (x.slot.toNat) = 1))) ∧
  (∀ (s : State) (a : Acc) (n : BitVec 6) (ch : BitVec 16), slots.contains n.toNat = true → Taken s n.toNat a → chCnt n.toNat ≤ ch.toNat →
      Answers (.chselWrite a n ch) s (fun t => t.dev.resp = 1 ∧ t.dev.get F.COM_CHSEL_CH (n.toNat * 16 + a.bank.val) = ch.toNat ∧ t.dev.get F.COM_ERR_VALID (n.toNat) = s.dev.get F.COM_ERR_VALID (n.toNat)))

/-- A soft reset clears PEND and discards every shadow that has not been applied (R66). -/
def Obligations.SoftResetDiscardsShadows : Prop :=
  (∀ (s : State) (a : Acc) (n : BitVec 6) (i : Nat), slots.contains n.toNat = true → Taken s n.toNat a → softIgnored n.toNat = false → s.dev.var V.softRst (n.toNat) ≠ 2 →
      Answers (.softReset a n) s (fun t => t.dev.get F.COM_APPLY_PEND (n.toNat) = 0 ∧ (∀ r ∈ regsOf n.toNat, ∀ f ∈ r.fields, f.kind = .rws → t.dev.get f i = f.reset i) ∧ (∀ j < 64, j ≠ n.toNat → t.dev.get F.COM_APPLY_PEND j = s.dev.get F.COM_APPLY_PEND j)))

/-- A write that R56 does not accept has no effect: an error response, and PRIV or PLANE is captured (R53, R56, R58, R68). -/
def Obligations.AccessesThatAreNotAllowedAreRefused : Prop :=
  (∀ (s : State) (a : Acc) (x1 : BitVec 6), slots.contains x1.toNat = true → RefusedAt (.softReset a x1) s (x1.toNat) 0x008 a) ∧
  (∀ (s : State) (a : Acc) (x1 : BitVec 32), RefusedAt (.clrCommit a x1) s 0x0B 0xE00 a) ∧
  (∀ (s : State) (a : Acc) (x1 : BitVec 32), RefusedAt (.clrSlotCfgWrite a x1) s 0x0B 0x100 a) ∧
  (∀ (s : State) (a : Acc) (x1 : BitVec 6) (x2 : BitVec 16), slots.contains x1.toNat = true → RefusedAt (.chselWrite a x1 x2) s (x1.toNat) 0x080 a) ∧
  (∀ (s : State) (a : Acc) (x1 : BitVec 6) (x2 : Bool), slots.contains x1.toNat = true → RefusedAt (.blockEnWrite a x1 x2) s (x1.toNat) 0x008 a) ∧
  (∀ (s : State) (a : Acc) (x1 : BitVec 6) (x2 : Bool), slots.contains x1.toNat = true → RefusedAt (.applyGo a x1 x2) s (x1.toNat) 0x020 a) ∧
  (∀ (s : State) (a : Acc) (x1 : Bool), RefusedAt (.steerEnableWrite a x1) s 0x07 0x820 a) ∧
  (∀ (s : State) (a : Acc), RefusedAt (.timeSetgo a) s 0x07 0x848 a) ∧
  (∀ (s : State) (a : Acc) (x1 : Fin 16), RefusedAt (.trigArm a x1) s 0x07 (0x100C + 0x20 * x1.val) a) ∧
  (∀ (s : State) (a : Acc) (x1 : Fin 16), RefusedAt (.trigDisarm a x1) s 0x07 (0x100C + 0x20 * x1.val) a) ∧
  (∀ (s : State) (a : Acc) (x1 : Bool), RefusedAt (.antBiasWrite a x1) s 0x10 0x100 a) ∧
  (∀ (s : State) (a : Acc) (x1 : Fin 9), RefusedAt (.pathDisable a x1) s 0x10 (0x1000 + 0x80 * x1.val) a) ∧
  (∀ (s : State) (a : Acc), RefusedAt (.acqGo a) s 0x11 0x100 a) ∧
  (∀ (s : State) (a : Acc), RefusedAt (.acqAbort a) s 0x11 0x100 a) ∧
  (∀ (s : State) (a : Acc) (x1 : Fin 3) (x2 : Fin 128) (x3 : Fin 4) (x4 : BitVec 32), RefusedAt (.acqEntryWrite a x1 x2 x3 x4) s 0x11 (0x1000 + 0x1000 * x1.val + 0x20 * x2.val + 4 * x3.val) a) ∧
  (∀ (s : State) (a : Acc), RefusedAt (.trackStart a) s 0x12 0x100 a) ∧
  (∀ (s : State) (a : Acc), RefusedAt (.trackStop a) s 0x12 0x100 a) ∧
  (∀ (s : State) (a : Acc) (x1 : Bool) (x2 : Bool), RefusedAt (.halfCycleResolve a x1 x2) s 0x12 0x124 a) ∧
  (∀ (s : State) (a : Acc) (x1 : BitVec 16) (x2 : BitVec 16), RefusedAt (.towWrite a x1 x2) s 0x12 0x128 a) ∧
  (∀ (s : State) (a : Acc), RefusedAt (.jamLearn a) s 0x12 0x86C a) ∧
  (∀ (s : State) (a : Acc) (x1 : BitVec 16) (x2 : BitVec 16), RefusedAt (.pvtSpeedWrite a x1 x2) s 0x12 0x8B8 a) ∧
  (∀ (s : State) (a : Acc) (x1 : Bool) (x2 : Bool) (x3 : BitVec 16), RefusedAt (.pvtSubmit a x1 x2 x3) s 0x12 0x8BC a) ∧
  (∀ (s : State) (a : Acc), RefusedAt (.guardRearm a) s 0x12 0x8C4 a) ∧
  (∀ (s : State) (a : Acc) (x1 : BitVec 8), RefusedAt (.lidarPost a x1) s 0x18 0x134 a) ∧
  (∀ (s : State) (a : Acc) (x1 : Bool), RefusedAt (.sensorEnWrite a x1) s 0x18 0x100 a) ∧
  (∀ (s : State) (a : Acc), RefusedAt (.sensorRecheck a) s 0x18 0x128 a) ∧
  (∀ (s : State) (a : Acc) (x1 : BitVec 8), RefusedAt (.bankSwapRequest a x1) s 0x18 0x850 a) ∧
  (∀ (s : State) (a : Acc) (x1 : BitVec 32), RefusedAt (.projectionGo a x1) s 0x18 0x860 a) ∧
  (∀ (s : State) (a : Acc), RefusedAt (.gridClear a) s 0x18 0x880 a) ∧
  (∀ (s : State) (a : Acc), RefusedAt (.egoReset a) s 0x19 0x810 a) ∧
  (∀ (s : State) (a : Acc) (x1 : Fin 64), RefusedAt (.npuJobGo a x1) s 0x1A (0x1000 + 0x40 * x1.val) a) ∧
  (∀ (s : State) (a : Acc) (x1 : Fin 64) (x2 : Bool), RefusedAt (.npuJobEnable a x1 x2) s 0x1A (0x1000 + 0x40 * x1.val) a) ∧
  (∀ (s : State) (a : Acc), RefusedAt (.npuAbort a) s 0x1A 0x808 a) ∧
  (∀ (s : State) (a : Acc) (x1 : Fin 16), RefusedAt (.acousticSnapArm a x1) s 0x23 0x180C a) ∧
  (∀ (s : State) (a : Acc) (x1 : Fin 16) (x2 : Bool), RefusedAt (.tapEnable a x1 x2) s 0x1B (0x1000 + 0x20 * x1.val) a) ∧
  (∀ (s : State) (a : Acc), RefusedAt (.lineClear a) s 0x1B 0x860 a) ∧
  (∀ (s : State) (a : Acc), RefusedAt (.stageClear a) s 0x1B 0x860 a) ∧
  (∀ (s : State) (a : Acc), RefusedAt (.loopEnable a) s 0x20 0x100 a) ∧
  (∀ (s : State) (a : Acc), RefusedAt (.loopDisable a) s 0x20 0x100 a) ∧
  (∀ (s : State) (a : Acc), RefusedAt (.coeffSwap a) s 0x20 0x33C a) ∧
  (∀ (s : State) (a : Acc) (x1 : BitVec 64), RefusedAt (.swapMaskWrite a x1) s 0x20 0x814 a) ∧
  (∀ (s : State) (a : Acc), RefusedAt (.loopClearStats a) s 0x20 0x33C a) ∧
  (∀ (s : State) (a : Acc), RefusedAt (.laneClear a) s 0x20 0x824 a) ∧
  (∀ (s : State) (a : Acc) (x1 : Bool) (x2 : Fin 1024) (x3 : BitVec 32), RefusedAt (.tableEntryWrite a x1 x2 x3) s 0x20 ((if x1 then 0x2000 else 0x1000) + 4 * x2.val) a) ∧
  (∀ (s : State) (a : Acc) (x1 : Fin 4) (x2 : Bool), RefusedAt (.portEnable a x1 x2) s 0x20 (0x200 + 0x20 * x1.val) a) ∧
  (∀ (s : State) (a : Acc) (x1 : Bool), RefusedAt (.eventRequest a x1) s 0x21 0x11C a) ∧
  (∀ (s : State) (a : Acc) (x1 : BitVec 16), RefusedAt (.currentSetpoint a x1) s 0x21 0x104 a) ∧
  (∀ (s : State) (a : Acc), RefusedAt (.queuePush a) s 0x21 0x12C a) ∧
  (∀ (s : State) (a : Acc), RefusedAt (.queueFlush a) s 0x21 0x12C a) ∧
  (∀ (s : State) (a : Acc) (x1 : Option (Fin 3)), RefusedAt (.solClearFault a x1) s 0x21 0x11C a) ∧
  (∀ (s : State) (a : Acc) (x1 : Bool), RefusedAt (.solChannelEnable a x1) s 0x21 0x100 a) ∧
  (∀ (s : State) (a : Acc) (x1 : Fin 2) (x2 : Bool), RefusedAt (.boostEnable a x1 x2) s 0x21 (0x800 + 4 * x1.val) a) ∧
  (∀ (s : State) (a : Acc) (x1 : Bool), RefusedAt (.lswOnWrite a x1) s 0x22 0x104 a) ∧
  (∀ (s : State) (a : Acc) (x1 : Bool), RefusedAt (.lswChannelEnable a x1) s 0x22 0x100 a) ∧
  (∀ (s : State) (a : Acc), RefusedAt (.lswClearFault a) s 0x22 0x104 a) ∧
  (∀ (s : State) (a : Acc) (x1 : Fin 2), RefusedAt (.pscAck a x1) s 0x22 0x820 a) ∧
  (∀ (s : State) (a : Acc) (x1 : BitVec 8), RefusedAt (.groupRestart a x1) s 0x24 0x884 a) ∧
  (∀ (s : State) (a : Acc) (x1 : Bool), RefusedAt (.fbrkEnable a x1) s 0x24 0x008 a) ∧
  (∀ (s : State) (a : Acc) (x1 : BitVec 16) (x2 : BitVec 16) (x3 : Bool), RefusedAt (.faultResetKey a x1 x2 x3) s 0x24 0x888 a) ∧
  (∀ (s : State) (a : Acc), RefusedAt (.reactClear a) s 0x24 0x898 a) ∧
  (∀ (s : State) (a : Acc) (x1 : Fin 256), RefusedAt (.transmitRequest a x1) s 0x28 (0x1000 + 0x80 * x1.val) a) ∧
  (∀ (s : State) (a : Acc) (x1 : Fin 256) (x2 : Bool), RefusedAt (.transmitAbort a x1 x2) s 0x28 (0x1000 + 0x80 * x1.val) a) ∧
  (∀ (s : State) (a : Acc) (x1 : Fin 8) (x2 : BitVec 32), RefusedAt (.ndatClear a x1 x2) s 0x28 (0x180 + 4 * x1.val) a) ∧
  (∀ (s : State) (a : Acc) (x1 : Fin 4), RefusedAt (.addressClaim a x1) s 0x28 (0x820 + 4 * x1.val) a) ∧
  (∀ (s : State) (a : Acc) (x1 : CanEn), RefusedAt (.canChannelEnable a x1) s 0x28 0x100 a) ∧
  (∀ (s : State) (a : Acc) (x1 : Bool), RefusedAt (.ethPortEnable a x1) s 0x2A 0x100 a) ∧
  (∀ (s : State) (a : Acc), RefusedAt (.rideOutputCommit a) s 0x2B 0x108 a) ∧
  (∀ (s : State) (a : Acc), RefusedAt (.rideTableClear a) s 0x2B 0x810 a) ∧
  (∀ (s : State) (a : Acc) (x1 : Bool) (x2 : Bool), RefusedAt (.ridePortTake a x1 x2) s 0x2B 0x800 a) ∧
  (∀ (s : State) (a : Acc), RefusedAt (.dmaGo a) s 0x0A 0x110 a) ∧
  (∀ (s : State) (a : Acc), RefusedAt (.dmaResume a) s 0x0A 0x110 a) ∧
  (∀ (s : State) (a : Acc), RefusedAt (.dmaSkip a) s 0x0A 0x110 a) ∧
  (∀ (s : State) (a : Acc), RefusedAt (.dmaAbort a) s 0x0A 0x110 a) ∧
  (∀ (s : State) (a : Acc) (x1 : Fin 4), RefusedAt (.dmaEngineClear a x1) s 0x0A (0x1018 + 0x1000 * x1.val) a) ∧
  (∀ (s : State) (a : Acc) (x1 : Bool) (x2 : Bool), RefusedAt (.lockstepInject a x1 x2) s 0x00 0x824 a) ∧
  (∀ (s : State) (a : Acc), RefusedAt (.resetRequestCtl (.reg a)) s 0x00 0x80C a) ∧
  (∀ (s : State) (a : Acc), RefusedAt (.resetRequestData (.reg a)) s 0x00 0x80C a) ∧
  (∀ (s : State) (a : Acc), RefusedAt (.resetRequestModule a) s 0x00 0x80C a) ∧
  (∀ (s : State) (a : Acc) (x1 : BitVec 2) (x2 : BitVec 3) (x3 : BitVec 2), RefusedAt (.challengeRequest a x1 x2 x3) s 0x02 0x2080 a) ∧
  (∀ (s : State) (a : Acc) (x1 : Bool), RefusedAt (.responseSubmit a x1) s 0x02 0x2180 a) ∧
  (∀ (s : State) (a : Acc), RefusedAt (.updBlockGo a) s 0x30 0x830 a) ∧
  (∀ (s : State) (a : Acc) (x1 : Bool), RefusedAt (.panelCommit a x1) s 0x25 0x804 a) ∧
  (∀ (s : State) (a : Acc), RefusedAt (.stressClear a) s 0x25 0x808 a) ∧
  (∀ (s : State) (a : Acc) (x1 : BitVec 32), RefusedAt (.sagrAck a x1) s 0x03 0x808 a) ∧
  (∀ (s : State) (a : Acc) (x1 : Fin 4) (x2 : BitVec 16), RefusedAt (.sagrRaise a x1 x2) s 0x03 0x80C a) ∧
  (∀ (s : State) (a : Acc) (x1 : BitVec 7), RefusedAt (.kilnRunRequest a x1) s 0x05 0x800 a) ∧
  (∀ (s : State) (a : Acc), RefusedAt (.coneSweepGo a) s 0x06 0x804 a)

/-- A device's write stores its bytes and no other;each writing block reaches its own window alone (R160, R166, R221, R222, R230, R258, R470, R474, R480, R488). -/
def Obligations.DeviceWritesReachTheirBytesAlone : Prop :=
  (∀ (s : State) (dev iova : Nat) (l : List Nat), Memory.wf s.mem = true → s.dev.get F.IOMU_DDTP_V 0 % 16 = 1 →
    (∀ x, x < iova ∨ iova + l.length ≤ x → memGet (s.devWrite dev iova l).1.mem x = memGet s.mem x) ∧
    ((∀ k < l.length, inDram (iova + k) = true ∧ s.dev.poisoned (iova + k) = false) →
      (s.devWrite dev iova l).2 = none ∧ ∀ k, (h : k < l.length) → memGet (s.devWrite dev iova l).1.mem (iova + k) = BitVec.ofNat 8 l[k])) ∧
  (∀ (s : State) (x : List EgoIn) (p : Nat), Memory.wf s.mem = true → s.dev.get F.IOMU_DDTP_V 0 % 16 = 1 → (p < s.dev.get F.EGO_RING_BASE.act 0 ∨ s.dev.get F.EGO_RING_BASE.act 0 + 32 * 16384 ≤ p) →
      Answers (.egoStep x) s (fun t => memGet t.mem p = memGet s.mem p)) ∧
  (∀ (s : State) (p : Nat), Memory.wf s.mem = true → (s.dev.blob 50 0 ++ s.dev.blob 51 0).length ≤ 20480 → s.dev.get F.IOMU_DDTP_V 0 % 16 = 1 → (p < s.dev.get F.GNTK_RING_BASE.act 0 / 4096 * 4096 + 20480 * s.dev.get F.GNTK_RING_WR_WR 0 ∨ s.dev.get F.GNTK_RING_BASE.act 0 / 4096 * 4096 + 20480 * s.dev.get F.GNTK_RING_WR_WR 0 + 20480 ≤ p) →
      Answers .epochRecorded s (fun t => memGet t.mem p = memGet s.mem p)) ∧
  (∀ (s : State) (c : Fin 600) (p : Nat), Memory.wf s.mem = true → s.dev.get F.IOMU_DDTP_V 0 % 16 = 1 → (p < s.dev.get F.GNTK_NAV_BASE.act 0 / 4096 * 4096 + 16 * (s.dev.get F.GNTK_NAV_WR_IDX 0 % (256 * 2 ^ min (s.dev.get F.GNTK_NAV_CFG_SIZE.act 0) 8)) ∨ s.dev.get F.GNTK_NAV_BASE.act 0 / 4096 * 4096 + 16 * (s.dev.get F.GNTK_NAV_WR_IDX 0 % (256 * 2 ^ min (s.dev.get F.GNTK_NAV_CFG_SIZE.act 0) 8)) + 16 ≤ p) →
      Answers (.navRecord c () () ()) s (fun t => memGet t.mem p = memGet s.mem p)) ∧
  (∀ (s : State) (e : Fin 3) (l : List Byte) (p : Nat), Memory.wf s.mem = true → s.dev.get F.IOMU_DDTP_V 0 % 16 = 1 → (p < s.dev.get F.GNAQ_ENG_SNAP_BASE.act e / 4096 * 4096 ∨ s.dev.get F.GNAQ_ENG_SNAP_BASE.act e / 4096 * 4096 + s.dev.acqBytes e ≤ p) →
      Answers (.acqCaptureEnd e l) s (fun t => memGet t.mem p = memGet s.mem p)) ∧
  (∀ (s : State) (p : Nat), Memory.wf s.mem = true → s.dev.get F.IOMU_DDTP_V 0 % 16 = 1 → (p < s.dev.get F.CROP_YRING_BASE.act 0 / 4096 * 4096 ∨ s.dev.get F.CROP_YRING_BASE.act 0 / 4096 * 4096 + 32 * 16384 ≤ p) →
      Answers .yieldPair s (fun t => memGet t.mem p = memGet s.mem p)) ∧
  (∀ (s : State) (p : Nat), Memory.wf s.mem = true → s.dev.get F.IOMU_DDTP_V 0 % 16 = 1 → (p < s.dev.get F.CNPY_HP_OUT_BASE 0 ∨ s.dev.get F.CNPY_HP_OUT_BASE 0 + projPlaces s ≤ p) →
      Answers (.projectionDone () () ()) s (fun t => memGet t.mem p = memGet s.mem p)) ∧
  (∀ (s : State) (c : Fin 64) (p : Nat), Memory.wf s.mem = true → s.dev.get F.IOMU_DDTP_V 0 % 16 = 1 → (p < s.dev.get F.DMA_CH_CUR_CUR c + 28 ∨ s.dev.get F.DMA_CH_CUR_CUR c + 32 ≤ p) → (p < s.dev.get F.DMA_CH_CUR_CUR c + 56 ∨ s.dev.get F.DMA_CH_CUR_CUR c + 64 ≤ p) →
      Answers (.dmaDescriptorDone c) s (fun t => memGet t.mem p = memGet s.mem p)) ∧
  (∀ (s : State) (q : Fin 8) (p : Nat), Memory.wf s.mem = true → s.dev.get F.IOMU_DDTP_V 0 % 16 = 1 → (p < s.dev.get F.HQ_TXBASE_BASE q + 32 * (s.dev.get F.HQ_TXRD_IDX q % hqSize (s.dev.get F.HQ_SIZE_TXSIZE q)) ∨ s.dev.get F.HQ_TXBASE_BASE q + 32 * (s.dev.get F.HQ_TXRD_IDX q % hqSize (s.dev.get F.HQ_SIZE_TXSIZE q)) + 32 ≤ p) →
      Answers (.hostTransmit q) s (fun t => memGet t.mem p = memGet s.mem p)) ∧
  (∀ (s : State) (q : Fin 8) (b : List Nat) (p : Nat), Memory.wf s.mem = true → s.dev.get F.IOMU_DDTP_V 0 % 16 = 1 → (s.devRead 0x02A0 (s.dev.get F.HQ_RXBASE_BASE q + 32 * (s.dev.get F.HQ_RXWR_IDX q % hqSize (s.dev.get F.HQ_SIZE_RXSIZE q))) 32).2 = .ok b → (p < leAt b 0 8 ∨ leAt b 0 8 + leAt (s.dev.blob 40 q) 9 2 ≤ p) → (p < s.dev.get F.HQ_RXBASE_BASE q + 32 * (s.dev.get F.HQ_RXWR_IDX q % hqSize (s.dev.get F.HQ_SIZE_RXSIZE q)) ∨ s.dev.get F.HQ_RXBASE_BASE q + 32 * (s.dev.get F.HQ_RXWR_IDX q % hqSize (s.dev.get F.HQ_SIZE_RXSIZE q)) + 32 ≤ p) →
      Answers (.hostReceive q () () ()) s (fun t => memGet t.mem p = memGet s.mem p)) ∧
  (∀ (s : State) (p : Nat), Memory.wf s.mem = true → s.dev.get F.IOMU_DDTP_V 0 % 16 = 1 → 0 ≤ s.dev.var V.gridSweep 0 → s.dev.var V.gridSweep 0 < 16 → (p < s.dev.get F.CNPY_GRID_BASE.act 0 / 4096 * 4096 ∨ s.dev.get F.CNPY_GRID_BASE.act 0 / 4096 * 4096 + 20480000 ≤ p) →
      Answers (.gridUpdate ()) s (fun t => memGet t.mem p = memGet s.mem p)) ∧
  (∀ (s : State) (p : Nat), Memory.wf s.mem = true → s.dev.get F.IOMU_DDTP_V 0 % 16 = 1 → (p < s.dev.get F.CNPY_HDR_BASE.act 0 / 4096 * 4096 + 64 * ((s.dev.var V.hdrWr 0).toNat % max 2 (s.dev.get F.CNPY_HDR_CFG_NHDR.act 0)) ∨ s.dev.get F.CNPY_HDR_BASE.act 0 / 4096 * 4096 + 64 * ((s.dev.var V.hdrWr 0).toNat % max 2 (s.dev.get F.CNPY_HDR_CFG_NHDR.act 0)) + 64 ≤ p) →
      Answers .gridUpdateDone s (fun t => memGet t.mem p = memGet s.mem p)) ∧
  (∀ (s : State) (e : Fin 4) (p : Nat), Memory.wf s.mem = true → s.dev.get F.IOMU_DDTP_V 0 % 16 = 1 → (∀ w < 64, s.dev.dmaWinner e = some w → 0x100000000 ≤ (s.dev.chan w).dstAt) → (∀ w < 64, s.dev.dmaWinner e = some w → p < (s.dev.chan w).dstAt ∨ (s.dev.chan w).dstAt + (s.dev.chan w).ready ≤ p) →
      Answers (.dmaBurstIssue e []) s (fun t => memGet t.mem p = memGet s.mem p))

/-- A command of one channel, entry or block leaves the others as they were (R31, R57, R95, R136, R183, R297, R330, R365, R422, R429, R496). -/
def Obligations.CommandsOfOneChannelLeaveTheOthers : Prop :=
  (∀ (s : State) (a : Acc) (j : Nat), j ≠ s.dev.chSel 0x0A a →
      Answers (.dmaGo a) s (fun t => t.dev.get F.DMA_CH_STAT_STATE j = s.dev.get F.DMA_CH_STAT_STATE j ∧ t.dev.get F.DMA_CH_CUR_CUR j = s.dev.get F.DMA_CH_CUR_CUR j ∧ t.dev.get F.DMA_CH_STAT_NDESC j = s.dev.get F.DMA_CH_STAT_NDESC j)) ∧
  (∀ (s : State) (a : Acc) (j : Nat), j ≠ s.dev.chSel 0x0A a →
      Answers (.dmaAbort a) s (fun t => t.dev.get F.DMA_CH_STAT_STATE j = s.dev.get F.DMA_CH_STAT_STATE j ∧ t.dev.get F.DMA_CH_CUR_CUR j = s.dev.get F.DMA_CH_CUR_CUR j ∧ t.dev.get F.DMA_CH_FREC_KIND j = s.dev.get F.DMA_CH_FREC_KIND j)) ∧
  (∀ (s : State) (a : Acc) (j : Nat), j ≠ s.dev.chSel 0x12 a →
      Answers (.trackStart a) s (fun t => t.dev.get F.GNTK_CH_STAT_STATE j = s.dev.get F.GNTK_CH_STAT_STATE j)) ∧
  (∀ (s : State) (a : Acc) (j : Nat), j ≠ s.dev.chSel 0x12 a →
      Answers (.trackStop a) s (fun t => t.dev.get F.GNTK_CH_STAT_STATE j = s.dev.get F.GNTK_CH_STAT_STATE j)) ∧
  (∀ (s : State) (a : Acc) (j : Nat), j ≠ s.dev.chSel 0x11 a →
      Answers (.acqGo a) s (fun t => t.dev.get F.GNAQ_ENG_STAT_STATE j = s.dev.get F.GNAQ_ENG_STAT_STATE j)) ∧
  (∀ (s : State) (a : Acc) (x : Bool) (j : Nat), j ≠ s.dev.chSel 0x18 a →
      Answers (.sensorEnWrite a x) s (fun t => t.dev.get F.CNPY_SEN_STAT_STATE j = s.dev.get F.CNPY_SEN_STAT_STATE j)) ∧
  (∀ (s : State) (a : Acc) (j : Nat), j ≠ s.dev.chSel 0x20 a →
      Answers (.loopEnable a) s (fun t => t.dev.get F.WHL_LP_CFG_EN j = s.dev.get F.WHL_LP_CFG_EN j ∧ t.dev.get F.WHL_LP_STAT_STATE j = s.dev.get F.WHL_LP_STAT_STATE j)) ∧
  (∀ (s : State) (a : Acc) (x : Bool) (j : Nat), j ≠ s.dev.chSel 0x21 a →
      Answers (.solChannelEnable a x) s (fun t => t.dev.get F.SOL_CH_CFG_EN j = s.dev.get F.SOL_CH_CFG_EN j)) ∧
  (∀ (s : State) (a : Acc) (v : BitVec 16) (j : Nat), j ≠ s.dev.chSel 0x21 a →
      Answers (.currentSetpoint a v) s (fun t => t.dev.get F.SOL_CH_STAT_PHASE j = s.dev.get F.SOL_CH_STAT_PHASE j)) ∧
  (∀ (s : State) (a : Acc) (x : Bool) (j : Nat), j ≠ s.dev.chSel 0x22 a →
      Answers (.lswChannelEnable a x) s (fun t => t.dev.get F.LSW_CH_CFG_EN j = s.dev.get F.LSW_CH_CFG_EN j ∧ t.dev.get F.LSW_CH_STAT_STATE j = s.dev.get F.LSW_CH_STAT_STATE j)) ∧
  (∀ (s : State) (a : Acc) (j : Nat), j ≠ s.dev.chSel 0x22 a →
      Answers (.lswClearFault a) s (fun t => t.dev.get F.LSW_CH_STAT_STATE j = s.dev.get F.LSW_CH_STAT_STATE j)) ∧
  (∀ (s : State) (a : Acc) (x : CanEn) (j : Nat), j ≠ s.dev.chSel 0x28 a →
      Answers (.canChannelEnable a x) s (fun t => t.dev.get F.BUS_CH_CFG_EN j = s.dev.get F.BUS_CH_CFG_EN j ∧ t.dev.get F.BUS_CH_STAT_STATE j = s.dev.get F.BUS_CH_STAT_STATE j)) ∧
  (∀ (s : State) (a : Acc) (x : Bool) (j : Nat), j ≠ s.dev.chSel 0x2A a →
      Answers (.ethPortEnable a x) s (fun t => t.dev.get F.ETH_PORT_CFG_EN j = s.dev.get F.ETH_PORT_CFG_EN j ∧ t.dev.get F.ETH_PORT_STAT_LINK j = s.dev.get F.ETH_PORT_STAT_LINK j)) ∧
  (∀ (s : State) (a : Acc) (j : Nat), j ≠ s.dev.chSel 0x2B a →
      Answers (.rideOutputCommit a) s (fun t => t.dev.var V.rideCom j = s.dev.var V.rideCom j)) ∧
  (∀ (s : State) (a : Acc) (e : Fin 16) (j : Nat), j ≠ e.val →
      Answers (.trigArm a e) s (fun t => t.dev.get F.TRIG_CFG_EN j = s.dev.get F.TRIG_CFG_EN j ∧ t.dev.get F.TRIG_STAT_ARMED j = s.dev.get F.TRIG_STAT_ARMED j ∧ t.dev.get F.TRIG_STAT_FIRES j = s.dev.get F.TRIG_STAT_FIRES j ∧ t.dev.get F.TRIG_INST_INST j = s.dev.get F.TRIG_INST_INST j)) ∧
  (∀ (s : State) (e : Fin 16) (j : Nat), j ≠ e.val →
      Answers (.trigFire e) s (fun t => t.dev.get F.TRIG_CFG_EN j = s.dev.get F.TRIG_CFG_EN j ∧ t.dev.get F.TRIG_STAT_ARMED j = s.dev.get F.TRIG_STAT_ARMED j ∧ t.dev.get F.TRIG_STAT_FIRES j = s.dev.get F.TRIG_STAT_FIRES j ∧ t.dev.get F.TRIG_LAST_LAST j = s.dev.get F.TRIG_LAST_LAST j)) ∧
  (∀ (s : State) (a : Acc) (v : BitVec 32) (j : Nat), j ≠ v.toNat % 512 →
      Answers (.clrCommit a v) s (fun t => t.dev.get F.CLR_HDR_GEN j = s.dev.get F.CLR_HDR_GEN j ∧ t.dev.get F.CLR_HDR_LIVE j = s.dev.get F.CLR_HDR_LIVE j ∧ t.dev.get F.CLR_HDR_SEQ j = s.dev.get F.CLR_HDR_SEQ j ∧ t.dev.get F.CLR_HDR_STALE j = s.dev.get F.CLR_HDR_STALE j)) ∧
  (∀ (s : State) (a : Acc) (n : BitVec 6) (j : Nat), j ≠ n.toNat →
      Answers (.softReset a n) s (fun t => t.dev.get F.COM_CTRL_EN j = s.dev.get F.COM_CTRL_EN j ∧ t.dev.get F.COM_STAT_CFGLOCK j = s.dev.get F.COM_STAT_CFGLOCK j ∧ t.dev.get F.COM_STAT_BUSY j = s.dev.get F.COM_STAT_BUSY j ∧ t.dev.get F.COM_CTRL_MODE j = s.dev.get F.COM_CTRL_MODE j)) ∧
  (∀ (s : State) (a : Acc) (n : BitVec 6) (x : Bool) (j : Nat), j ≠ n.toNat →
      Answers (.blockEnWrite a n x) s (fun t => t.dev.get F.COM_CTRL_EN j = s.dev.get F.COM_CTRL_EN j ∧ t.dev.get F.COM_STAT_RUN j = s.dev.get F.COM_STAT_RUN j)) ∧
  (∀ (s : State) (a : Acc) (n : BitVec 6) (x : Bool) (j : Nat), j ≠ n.toNat →
      Answers (.applyGo a n x) s (fun t => t.dev.get F.COM_APPLY_PEND j = s.dev.get F.COM_APPLY_PEND j ∧ t.dev.var V.applyDue j = s.dev.var V.applyDue j))

/-- What the commands of registers and blocks, Clearing, TIME, SYS, LCS, MEM, IOMMU, KILN, Cones, SHRD and SAGR leave unchanged (R14, R28, R77, R503, R517, R570, R599). -/
def Obligations.RegistersClearingTimeAndLogFrames : Prop :=
  (∀ (s : State), Answers .dramTrained s (fun t => RegFrame s t [F.COM_STAT_FAULT, F.MEM_DRAM_SELFREF, F.MEM_DRAM_TEMP, F.MEM_DRAM_TRAINED] ∧ OutsideKept s t)) ∧
  (∀ (s : State) (x0 : ImgCheck), Answers (.dataPlaneLoadDone x0) s (fun t => RegFrame s t [F.CLR_HDR_STALE, F.CLR_PLANE_CTLUP, F.CLR_PLANE_DATAUP, F.CLR_PLANE_MGTUP, F.CLR_SLOT_STAT_STALECNT, F.COM_STAT_FAULT, F.MEM_DRAM_SELFREF, F.MEM_DRAM_TRAINED, F.PWR_MODE_LADDER, F.PWR_WAKE_CFG_CANACT, F.PWR_WAKE_CFG_CANEN, F.PWR_WAKE_CFG_RIDEACT, F.PWR_WAKE_CFG_RIDEEN, F.PWR_WAKE_CFG_TMRACT, F.PWR_WAKE_CFG_TMREN, F.SYS_BOOTT_MS, F.SYS_BOOT_DONE, F.SYS_REL_DP, F.SYS_STEP1_RF0, F.SYS_STEP1_RF1, F.SYS_STEP1_RF2, F.TIME_HOLDERR_ERRB, F.TIME_RATE_RATE, F.TIME_STATE_ST, F.TIME_STATE_STEPPEND, F.TRIG_CFG_EN, F.TRIG_STAT_ARMED, F.UPD_SL_STAT_REASON, F.UPD_SL_STAT_ST, F.UPD_STATE_TRIAL] ∧ t.log = s.log ∧ t.otp = s.otp)) ∧
  (∀ (s : State) (x0 : ImgCheck), Answers (.dataPlaneRelease x0) s (fun t => RegFrame s t [F.CLR_HDR_STALE, F.CLR_PLANE_CTLUP, F.CLR_PLANE_DATAUP, F.CLR_PLANE_MGTUP, F.CLR_SLOT_STAT_STALECNT, F.COM_STAT_FAULT, F.MEM_DRAM_SELFREF, F.MEM_DRAM_TRAINED, F.PWR_MODE_LADDER, F.PWR_WAKE_CFG_CANACT, F.PWR_WAKE_CFG_CANEN, F.PWR_WAKE_CFG_RIDEACT, F.PWR_WAKE_CFG_RIDEEN, F.PWR_WAKE_CFG_TMRACT, F.PWR_WAKE_CFG_TMREN, F.SYS_BOOTT_MS, F.SYS_BOOT_DONE, F.SYS_REL_DP, F.SYS_STEP1_RF0, F.SYS_STEP1_RF1, F.SYS_STEP1_RF2, F.TIME_HOLDERR_ERRB, F.TIME_RATE_RATE, F.TIME_STATE_ST, F.TIME_STATE_STEPPEND, F.TRIG_CFG_EN, F.TRIG_STAT_ARMED, F.UPD_SL_STAT_REASON, F.UPD_SL_STAT_ST, F.UPD_STATE_TRIAL] ∧ t.log = s.log ∧ t.otp = s.otp)) ∧
  (∀ (s : State) (x0 : BitVec 6), Answers (.softResetEnd x0) s (fun t => RegFrame s t [F.COM_STAT_BUSY, F.COM_STAT_CFGLOCK] ∧ OutsideKept s t)) ∧
  (∀ (s : State) (x0 : Bool), Answers (.keeperReenable x0) s (fun t => RegFrame s t [F.COM_CTRL_EN] ∧ OutsideKept s t)) ∧
  (∀ (s : State) (x0 : Acc) (x1 : BitVec 32), Answers (.clrCommit x0 x1) s (fun t => RegFrame s t [F.CLR_HDR_GEN, F.CLR_HDR_LIVE, F.CLR_HDR_SEQ, F.CLR_HDR_STALE, F.CLR_HDR_WDRN, F.CLR_SLOT_STAT_AGE, F.CLR_VIOL_KIND, F.CLR_VIOL_PLANE, F.CLR_VIOL_SLOT, F.CLR_VIOL_VALID] ∧ OutsideKept s t)) ∧
  (∀ (s : State) (x0 : Acc) (x1 : BitVec 16) (x2 : List Byte), Answers (.clrBufferWrite x0 x1 x2) s (fun t => RegFrame s t [F.CLR_VIOL_KIND, F.CLR_VIOL_PLANE, F.CLR_VIOL_SLOT, F.CLR_VIOL_VALID] ∧ OutsideKept s t)) ∧
  (∀ (s : State) (x0 : Acc) (x1 : BitVec 32), Answers (.clrSlotCfgWrite x0 x1) s (fun t => RegFrame s t [F.CLR_SLOT_CFG_STALE_T, F.CLR_SLOT_CFG_WDR_T, F.CLR_VIOL_KIND, F.CLR_VIOL_PLANE, F.CLR_VIOL_SLOT, F.CLR_VIOL_VALID] ∧ OutsideKept s t)) ∧
  (∀ (s : State) (x0 : Fin 352), Answers (.staleTimeout x0) s (fun t => RegFrame s t [F.CLR_HDR_STALE, F.CLR_SLOT_STAT_STALECNT] ∧ OutsideKept s t)) ∧
  (∀ (s : State) (x0 : Fin 352), Answers (.withdrawalTimeout x0) s (fun t => RegFrame s t [F.CLR_HDR_WDRN, F.TIME_HOLDERR_ERRB, F.TIME_RATE_RATE, F.TIME_STATE_ST] ∧ OutsideKept s t)) ∧
  (∀ (s : State) (x0 : Acc) (x1 : BitVec 6) (x2 : BitVec 16) (x3 : Bool), Answers (.configAccessUnmapped x0 x1 x2 x3) s (fun t => RegFrame s t [] ∧ OutsideKept s t)) ∧
  (∀ (s : State) (x0 : Acc) (x1 : BitVec 6) (x2 : BitVec 16), Answers (.chselWrite x0 x1 x2) s (fun t => RegFrame s t [F.COM_CHSEL_CH] ∧ OutsideKept s t)) ∧
  (∀ (s : State) (x0 : Acc) (x1 : BitVec 6) (x2 : BitVec 16), Answers (.pairLowRead x0 x1 x2) s (fun t => RegFrame s t [] ∧ OutsideKept s t)) ∧
  (∀ (s : State) (x0 : Acc) (x1 : BitVec 6) (x2 : BitVec 16), Answers (.pairHighRead x0 x1 x2) s (fun t => RegFrame s t [] ∧ OutsideKept s t)) ∧
  (∀ (s : State) (x0 : Acc) (x1 : BitVec 6) (x2 : Bool), Answers (.blockEnWrite x0 x1 x2) s (fun t => RegFrame s t [F.COM_CTRL_EN, F.COM_STAT_FAULT, F.EGO_STEPSEQ_SEQ, F.FBRK_PR_STAT_TESTDONE, F.FBRK_TEST_PEND] ∧ OutsideKept s t)) ∧
  (∀ (s : State) (x0 : BitVec 6), Answers (.blockRunChange x0) s (fun t => RegFrame s t [F.BUS_CH_STAT_STATE, F.COM_STAT_CFGLOCK, F.COM_STAT_FAULT, F.COM_STAT_RUN, F.FBRK_GRP_CNT_CUTS, F.FBRK_GRP_STAT_CUTA, F.FBRK_GRP_STAT_CUTB, F.FBRK_GRP_STAT_RBOK, F.FBRK_GRP_STAT_STATE, F.FBRK_LATCH_GROUPS, F.FBRK_PR_CNT_FAULTS, F.FBRK_PR_CNT_OPENS, F.FBRK_PR_STAT_FCODE, F.FBRK_PR_STAT_STATE, F.FBRK_PR_STAT_TESTDONE, F.FBRK_REACT_LASTR, F.FBRK_REACT_MAXR, F.FBRK_RSTSTAT_WINDOW, F.FBRK_TEST_PEND, F.LSW_CH_FLAGS_CRANKBLK, F.LSW_CH_FLAGS_FBCUT, F.LSW_CH_IMEAS_I, F.LSW_CH_STAT_CAUSE, F.LSW_CH_STAT_FAULT, F.LSW_CH_STAT_STATE, F.RIDE_CYCNT_CNT, F.SEG_DSP_SEG, F.SEG_JSEQ_SEQ, F.SEG_LN_STAT_PEND, F.SEG_STATE_PEND, F.SEG_STATE_ST, F.SEG_STG_SEG, F.SEG_TGT_SEG, F.SOL_BANK_STAT_BANK, F.SOL_CH_FLAGS_DEFER, F.SOL_CH_FLAGS_FBCUT, F.SOL_CH_FLAGS_NOKINK, F.SOL_CH_FLAGS_OFFDEF, F.SOL_CH_FLAGS_OFFREJ, F.SOL_CH_FLAGS_UVDROP, F.SOL_CH_STAT_FAULT, F.SOL_CH_STAT_PHASE, F.SOL_EV_FLAGS_FLAGS, F.SOL_EV_SEQ_SEQ, F.SOL_EV_TIME_KINK, F.SOL_EV_TSTART_T, F.SOL_Q_STAT_COUNT, F.WHL_LP_I_I, F.WHL_LP_STAT_STATE] ∧ OutsideKept s t)) ∧
  (∀ (s : State) (x0 : Acc) (x1 : BitVec 6) (x2 : Bool), Answers (.applyGo x0 x1 x2) s (fun t => RegFrame s t [F.COM_APPLY_PEND] ∧ OutsideKept s t)) ∧
  (∀ (s : State), Answers .msTick s (fun t => FieldsKept s t [F.CLR_SLOT_STAT_AGE, F.IOMU_TLB_HIT, F.IOMU_TLB_MISS, F.TIME_HOLDERR_ERRB, F.TIME_RATE_RATE] ∧ OutsideKept s t)) ∧
  (∀ (s : State), Answers .steeringRecord s (fun t => RegFrame s t [F.TIME_HOLDERR_ERRB, F.TIME_OFFSET_OFFS, F.TIME_RATE_RATE, F.TIME_STATE_ST, F.TIME_STATE_STEPPEND] ∧ OutsideKept s t)) ∧
  (∀ (s : State), Answers .holdoverTimeout s (fun t => RegFrame s t [F.TIME_HOLDERR_ERRB, F.TIME_RATE_RATE, F.TIME_STATE_ST] ∧ OutsideKept s t)) ∧
  (∀ (s : State) (x0 : Acc) (x1 : Bool), Answers (.steerEnableWrite x0 x1) s (fun t => RegFrame s t [F.TIME_HOLDERR_ERRB, F.TIME_RATE_RATE, F.TIME_STATE_ST, F.TIME_STEER_CFG_SEN] ∧ OutsideKept s t)) ∧
  (∀ (s : State), Answers .timeStep s (fun t => FieldsKept s t [F.CNPY_SEN_CNT_LATE, F.TIME_HOLDERR_ERRB, F.TIME_RATE_RATE, F.TIME_STATE_ST, F.TIME_STATE_STEPPEND, F.TIME_STEPCNT_CNT, F.TRIG_CFG_EN, F.TRIG_INST_INST, F.TRIG_STAT_ARMED, F.TRIG_STAT_LATE] ∧ OutsideKept s t)) ∧
  (∀ (s : State) (x0 : Acc), Answers (.timeSetgo x0) s (fun t => FieldsKept s t [F.CNPY_SEN_CNT_LATE, F.TIME_STATE_ST, F.TIME_STEPCNT_CNT, F.TRIG_CFG_EN, F.TRIG_INST_INST, F.TRIG_STAT_ARMED, F.TRIG_STAT_LATE] ∧ OutsideKept s t)) ∧
  (∀ (s : State), Answers .holdoverBoundExceeded s (fun t => RegFrame s t [] ∧ OutsideKept s t)) ∧
  (∀ (s : State) (x0 : Acc) (x1 : Fin 16), Answers (.trigArm x0 x1) s (fun t => RegFrame s t [F.TRIG_CFG_EN, F.TRIG_INST_INST, F.TRIG_STAT_ARMED, F.TRIG_STAT_FIRES, F.TRIG_STAT_LATE] ∧ OutsideKept s t)) ∧
  (∀ (s : State) (x0 : Acc) (x1 : Fin 16), Answers (.trigDisarm x0 x1) s (fun t => RegFrame s t [F.TRIG_CFG_EN, F.TRIG_STAT_ARMED] ∧ OutsideKept s t)) ∧
  (∀ (s : State) (x0 : Fin 16), Answers (.trigFire x0) s (fun t => RegFrame s t [F.TRIG_CFG_EN, F.TRIG_COUNT_COUNT, F.TRIG_INST_INST, F.TRIG_LAST_LAST, F.TRIG_STAT_ARMED, F.TRIG_STAT_FIRES] ∧ OutsideKept s t)) ∧
  (∀ (s : State) (x0 : Fin 16), Answers (.trigPulseEnd x0) s (fun t => RegFrame s t [] ∧ OutsideKept s t)) ∧
  (∀ (s : State), Answers .eccCorrectable s (fun t => RegFrame s t [F.MEM_ECC_CNT_CE] ∧ OutsideKept s t)) ∧
  (∀ (s : State) (x0 : BitVec 35) (x1 : BitVec 16), Answers (.eccUncorrectable x0 x1) s (fun t => RegFrame s t [F.MEM_ECC_ADDR_ADDR, F.MEM_ECC_CNT_UE, F.MEM_ECC_SRC_SRC] ∧ OutsideKept s t)) ∧
  (∀ (s : State) (x0 : Fin 3), Answers (.patrolScrub x0) s (fun t => RegFrame s t [F.MEM_ECC_ADDR_ADDR, F.MEM_ECC_CNT_CE, F.MEM_ECC_CNT_UE, F.MEM_ECC_SRC_SRC] ∧ OutsideKept s t)) ∧
  (∀ (s : State) (x0 : BitVec 12) (x1 : BitVec 64) (x2 : BitVec 12) (x3 : Bool), Answers (.iommuFault x0 x1 x2 x3) s (fun t => RegFrame s t [F.COM_STAT_FAULT, F.IOMU_FQCSR_FQMF, F.IOMU_FQCSR_FQOF, F.IOMU_FQT_V, F.IOMU_IPSR_V] ∧ t.log = s.log ∧ t.otp = s.otp)) ∧
  (∀ (s : State), Answers .iotinvalVma s (fun t => RegFrame s t [F.IOMU_CQCSR_CMD_ILL, F.IOMU_CQCSR_CQMF, F.IOMU_CQCSR_FENCE_W_IP, F.IOMU_CQH_V, F.IOMU_IPSR_V] ∧ t.log = s.log ∧ t.otp = s.otp)) ∧
  (∀ (s : State), Answers .iotinvalGvma s (fun t => RegFrame s t [F.IOMU_CQCSR_CMD_ILL, F.IOMU_CQCSR_CQMF, F.IOMU_CQCSR_FENCE_W_IP, F.IOMU_CQH_V, F.IOMU_IPSR_V] ∧ t.log = s.log ∧ t.otp = s.otp)) ∧
  (∀ (s : State), Answers .iodirInvalDdt s (fun t => RegFrame s t [F.IOMU_CQCSR_CMD_ILL, F.IOMU_CQCSR_CQMF, F.IOMU_CQCSR_FENCE_W_IP, F.IOMU_CQH_V, F.IOMU_IPSR_V] ∧ t.log = s.log ∧ t.otp = s.otp)) ∧
  (∀ (s : State), Answers .iofenceC s (fun t => RegFrame s t [F.IOMU_CQCSR_CMD_ILL, F.IOMU_CQCSR_CQMF, F.IOMU_CQCSR_FENCE_W_IP, F.IOMU_CQH_V, F.IOMU_IPSR_V] ∧ t.log = s.log ∧ t.otp = s.otp)) ∧
  (∀ (s : State) (x0 : Bool) (x1 : BitVec 8), Answers (.lockstepMismatch x0 x1) s (fun t => RegFrame s t [F.SHRD_FIFO_LVL, F.SHRD_FIFO_MAXLVL, F.SHRD_LOST_CNT, F.SYS_LSTEP_CMPA, F.SYS_LSTEP_CMPB, F.SYS_REL_PA, F.SYS_REL_PB] ∧ OutsideKept s t)) ∧
  (∀ (s : State) (x0 : Acc) (x1 : Bool) (x2 : Bool), Answers (.lockstepInject x0 x1 x2) s (fun t => RegFrame s t [F.SHRD_FIFO_LVL, F.SHRD_FIFO_MAXLVL, F.SHRD_LOST_CNT, F.SYS_LSTEP_CMPA, F.SYS_LSTEP_CMPB, F.SYS_REL_PA, F.SYS_REL_PB] ∧ OutsideKept s t)) ∧
  (∀ (s : State), Answers .dataPlaneWatchdog s (fun t => RegFrame s t [F.CLR_HDR_STALE, F.CLR_PLANE_CTLUP, F.CLR_PLANE_DATAUP, F.CLR_PLANE_MGTUP, F.CLR_SLOT_STAT_STALECNT] ∧ OutsideKept s t)) ∧
  (∀ (s : State) (x0 : ResetBy), Answers (.resetRequestCtl x0) s (fun t => RegFrame s t [] ∧ OutsideKept s t)) ∧
  (∀ (s : State) (x0 : ResetBy), Answers (.resetRequestData x0) s (fun t => RegFrame s t [] ∧ OutsideKept s t)) ∧
  (∀ (s : State) (x0 : Acc), Answers (.resetRequestModule x0) s (fun t => RegFrame s t [] ∧ OutsideKept s t)) ∧
  (∀ (s : State) (x0 : Acc) (x1 : BitVec 2) (x2 : BitVec 3) (x3 : BitVec 2), Answers (.challengeRequest x0 x1 x2 x3) s (fun t => RegFrame s t [F.LCS_CHAL_W, F.LCS_RSTAT_ST] ∧ OutsideKept s t)) ∧
  (∀ (s : State) (x0 : Acc) (x1 : Bool), Answers (.responseSubmit x0 x1) s (fun t => RegFrame s t [F.COM_STAT_FAULT, F.LCS_DBG_FAILS, F.LCS_DBG_LEVEL, F.LCS_RSTAT_OK, F.LCS_RSTAT_REFUSED, F.LCS_RSTAT_ST, F.LCS_STATE_PEND, F.LCS_STATE_PENDV] ∧ t.mem = s.mem ∧ t.log = s.log)) ∧
  (∀ (s : State), Answers .challengeExpiry s (fun t => RegFrame s t [F.LCS_RSTAT_ST] ∧ OutsideKept s t)) ∧
  (∀ (s : State), Answers .errorReport s (fun t => RegFrame s t [F.COM_STAT_FAULT, F.SAGR_CNT0_C0, F.SAGR_CNT_C1, F.SAGR_CNT_C2, F.SAGR_CNT_C3, F.SAGR_CUR_SEQ_SEQ, F.SAGR_ESCCNT_CNT, F.SAGR_QGEN_GEN, F.SAGR_STATE_BUSY, F.SAGR_STATE_CLS, F.SAGR_STATE_DEGR, F.SAGR_STATE_QLEN, F.SAGR_STATE_SAFE, F.SAGR_STATE_STOP, F.SHRD_FIFO_LVL, F.SHRD_FIFO_MAXLVL, F.SHRD_LOST_CNT] ∧ OutsideKept s t)) ∧
  (∀ (s : State) (x0 : Bool) (x1 : Bool), Answers (.recordWrite x0 x1) s (fun t => RegFrame s t [F.COM_STAT_FAULT, F.SHRD_BAD_CNT, F.SHRD_FIFO_LVL, F.SHRD_HEADSEQ_SEQ, F.SHRD_HEAD_NEXT, F.SHRD_KEEPSEQ_SEQ, F.SHRD_KEEP_COUNT, F.SHRD_KEEP_FULL] ∧ t.mem = s.mem ∧ t.otp = s.otp)) ∧
  (∀ (s : State) (x0 : Bool), Answers (.shrdLog x0) s (fun t => RegFrame s t [F.CLR_HDR_GEN, F.CLR_HDR_LIVE, F.CLR_HDR_SEQ, F.CLR_HDR_STALE, F.CLR_HDR_WDRN, F.CLR_SLOT_STAT_AGE, F.CLR_VIOL_KIND, F.CLR_VIOL_PLANE, F.CLR_VIOL_SLOT, F.CLR_VIOL_VALID, F.COM_STAT_FAULT, F.SAGR_CNT0_C0, F.SAGR_CNT_C1, F.SAGR_CNT_C2, F.SAGR_CNT_C3, F.SAGR_CUR_SEQ_SEQ, F.SAGR_ESCCNT_CNT, F.SAGR_QGEN_GEN, F.SAGR_STATE_BUSY, F.SAGR_STATE_CLS, F.SAGR_STATE_DEGR, F.SAGR_STATE_QLEN, F.SAGR_STATE_SAFE, F.SAGR_STATE_STOP, F.SHRD_FIFO_LVL, F.SHRD_FIFO_MAXLVL, F.SHRD_LOST_CNT] ∧ OutsideKept s t)) ∧
  (∀ (s : State) (x0 : Bool), Answers (.shrdRead x0) s (fun t => RegFrame s t [F.CLR_HDR_GEN, F.CLR_HDR_LIVE, F.CLR_HDR_SEQ, F.CLR_HDR_STALE, F.CLR_HDR_WDRN, F.CLR_SLOT_STAT_AGE, F.CLR_VIOL_KIND, F.CLR_VIOL_PLANE, F.CLR_VIOL_SLOT, F.CLR_VIOL_VALID] ∧ OutsideKept s t)) ∧
  (∀ (s : State) (x0 : Bool), Answers (.shrdBadCommand x0) s (fun t => RegFrame s t [F.CLR_HDR_GEN, F.CLR_HDR_LIVE, F.CLR_HDR_SEQ, F.CLR_HDR_STALE, F.CLR_HDR_WDRN, F.CLR_SLOT_STAT_AGE, F.CLR_VIOL_KIND, F.CLR_VIOL_PLANE, F.CLR_VIOL_SLOT, F.CLR_VIOL_VALID] ∧ OutsideKept s t)) ∧
  (∀ (s : State) (x0 : Acc) (x1 : BitVec 32), Answers (.sagrAck x0 x1) s (fun t => RegFrame s t [F.COM_STAT_FAULT, F.SAGR_CUR_SEQ_SEQ, F.SAGR_QGEN_GEN, F.SAGR_STATE_BUSY, F.SAGR_STATE_CLS, F.SAGR_STATE_DEGR, F.SAGR_STATE_QLEN, F.SAGR_STATE_SAFE, F.SAGR_STATE_STOP] ∧ OutsideKept s t)) ∧
  (∀ (s : State) (x0 : Acc) (x1 : Fin 4) (x2 : BitVec 16), Answers (.sagrRaise x0 x1 x2) s (fun t => RegFrame s t [F.COM_STAT_FAULT, F.SAGR_CNT0_C0, F.SAGR_CNT_C1, F.SAGR_CNT_C2, F.SAGR_CNT_C3, F.SAGR_CUR_SEQ_SEQ, F.SAGR_ESCCNT_CNT, F.SAGR_QGEN_GEN, F.SAGR_STATE_BUSY, F.SAGR_STATE_CLS, F.SAGR_STATE_DEGR, F.SAGR_STATE_QLEN, F.SAGR_STATE_SAFE, F.SAGR_STATE_STOP, F.SHRD_FIFO_LVL, F.SHRD_FIFO_MAXLVL, F.SHRD_LOST_CNT] ∧ OutsideKept s t)) ∧
  (∀ (s : State), Answers .kilnQuiesced s (fun t => RegFrame s t [F.KILN_STATE_ST] ∧ OutsideKept s t)) ∧
  (∀ (s : State), Answers .kilnAgeHour s (fun t => RegFrame s t [F.KILN_RG_AGE_AGE, F.KILN_RG_STAT_DUE] ∧ OutsideKept s t)) ∧
  (∀ (s : State) (x0 : Acc), Answers (.coneSweepGo x0) s (fun t => RegFrame s t [F.CONE_SWEEP_SEQ_SEQ, F.CONE_SWEEP_T0_T0] ∧ OutsideKept s t)) ∧
  (∀ (s : State), Answers .coneSweepPeriodic s (fun t => RegFrame s t [F.CONE_SWEEP_SEQ_SEQ, F.CONE_SWEEP_T0_T0] ∧ OutsideKept s t)) ∧
  (∀ (s : State), Answers .coneSweepDone s (fun t => RegFrame s t [F.CONE_SWEEP_SEQ_SEQ] ∧ OutsideKept s t))

/-- What the commands of GNRF, GNAQ, GNTK and GNTP leave unchanged (R14, R113, R126, R154, R160). -/
def Obligations.GnssFrames : Prop :=
  (∀ (s : State) (x0 : Fin 3) (x1 : BitVec 16) (x2 : Bool) (x3 : Bool), Answers (.antMeasure x0 x1 x2 x3) s (fun t => RegFrame s t [F.COM_STAT_FAULT, F.GNRF_ANT_STAT_IBIAS, F.GNRF_ANT_STAT_RETRYCNT, F.GNRF_ANT_STAT_STATE] ∧ OutsideKept s t)) ∧
  (∀ (s : State) (x0 : Fin 3), Answers (.antRetry x0) s (fun t => RegFrame s t [] ∧ OutsideKept s t)) ∧
  (∀ (s : State) (x0 : Acc) (x1 : Bool), Answers (.antBiasWrite x0 x1) s (fun t => RegFrame s t [F.COM_STAT_FAULT, F.GNRF_ANT_CFG_BIASEN, F.GNRF_ANT_STAT_STATE] ∧ OutsideKept s t)) ∧
  (∀ (s : State) (x0 : Fin 3), Answers (.rfLinkLoss x0) s (fun t => RegFrame s t [F.COM_STAT_FAULT, F.ENT_CPH_BIN, F.ENT_CPH_CPH, F.ENT_PEAK_PEAK, F.ENT_RES_FLAGS, F.ENT_RES_RATIO, F.ENT_RES_STATUS, F.ENT_T0_T0, F.GNAQ_ENG_DONE_CNT, F.GNAQ_ENG_STAT_ENTRY, F.GNAQ_ENG_STAT_STATE, F.GNRF_ANT_STAT_STATE, F.GNRF_LINK_CALDONE, F.GNRF_LINK_LOCK, F.GNTK_CH_STAT_AMB, F.GNTK_CH_STAT_STATE] ∧ OutsideKept s t)) ∧
  (∀ (s : State) (x0 : Fin 3), Answers (.rfLinkRelock x0) s (fun t => RegFrame s t [F.GNRF_LINK_LOCK] ∧ OutsideKept s t)) ∧
  (∀ (s : State) (x0 : Fin 3), Answers (.rfLinkCalibrated x0) s (fun t => RegFrame s t [F.COM_STAT_FAULT, F.GNRF_ANT_STAT_STATE, F.GNRF_LINK_CALDONE] ∧ OutsideKept s t)) ∧
  (∀ (s : State) (x0 : Fin 3), Answers (.bmodeRetuneEnd x0) s (fun t => RegFrame s t [] ∧ OutsideKept s t)) ∧
  (∀ (s : State) (x0 : AgcMs), Answers (.agcUpdate x0) s (fun t => RegFrame s t [F.GNRF_AGC_STAT_GAIN, F.GNRF_AGC_STAT_RMS, F.GNRF_AGC_STAT_SATCNT, F.GNRF_LINKERR_CNT] ∧ OutsideKept s t)) ∧
  (∀ (s : State) (x0 : Fin 9) (x1 : List Int) (x2 : Unit), Answers (.spectralScan x0 x1 x2) s (fun t => RegFrame s t [F.GNRF_NOTCH_FNOW_FNOW, F.GNRF_SPEC_STAT_NF, F.GNRF_SPEC_STAT_PEAKDB] ∧ OutsideKept s t)) ∧
  (∀ (s : State) (x0 : Fin 9) (x1 : Fin 4096) (x2 : Unit), Answers (.notchAssign x0 x1 x2) s (fun t => RegFrame s t [F.GNRF_NOTCH_FNOW_FNOW, F.GNRF_NOTCH_STAT_ACTIVE, F.GNRF_NOTCH_STAT_ATTEN] ∧ OutsideKept s t)) ∧
  (∀ (s : State) (x0 : Fin 9) (x1 : Fin 4), Answers (.notchRelease x0 x1) s (fun t => RegFrame s t [F.GNRF_NOTCH_STAT_ACTIVE, F.GNRF_NOTCH_STAT_ATTEN] ∧ OutsideKept s t)) ∧
  (∀ (s : State) (x0 : Acc) (x1 : Fin 9), Answers (.pathDisable x0 x1) s (fun t => RegFrame s t [F.ENT_CPH_BIN, F.ENT_CPH_CPH, F.ENT_PEAK_PEAK, F.ENT_RES_FLAGS, F.ENT_RES_RATIO, F.ENT_RES_STATUS, F.ENT_T0_T0, F.GNAQ_ENG_DONE_CNT, F.GNAQ_ENG_STAT_ENTRY, F.GNAQ_ENG_STAT_STATE, F.GNRF_PATH_CFG_EN, F.GNTK_CH_STAT_AMB, F.GNTK_CH_STAT_STATE] ∧ OutsideKept s t)) ∧
  (∀ (s : State) (x0 : Acc), Answers (.acqGo x0) s (fun t => RegFrame s t [F.GNAQ_ENG_DONE_CNT, F.GNAQ_ENG_STAT_ENTRY, F.GNAQ_ENG_STAT_STATE] ∧ OutsideKept s t)) ∧
  (∀ (s : State) (x0 : Acc), Answers (.acqAbort x0) s (fun t => RegFrame s t [F.ENT_CPH_BIN, F.ENT_CPH_CPH, F.ENT_PEAK_PEAK, F.ENT_RES_FLAGS, F.ENT_RES_RATIO, F.ENT_RES_STATUS, F.ENT_T0_T0, F.GNAQ_ENG_DONE_CNT, F.GNAQ_ENG_STAT_ENTRY, F.GNAQ_ENG_STAT_STATE] ∧ OutsideKept s t)) ∧
  (∀ (s : State) (x0 : Fin 3), Answers (.acqEntryStart x0) s (fun t => RegFrame s t [F.ENT_CPH_BIN, F.ENT_CPH_CPH, F.ENT_PEAK_PEAK, F.ENT_RES_FLAGS, F.ENT_RES_RATIO, F.ENT_RES_STATUS, F.ENT_T0_T0, F.GNAQ_ENG_DONE_CNT, F.GNAQ_ENG_STAT_BIN, F.GNAQ_ENG_STAT_ENTRY, F.GNAQ_ENG_STAT_STATE, F.GNAQ_ENG_STAT_WIN] ∧ OutsideKept s t)) ∧
  (∀ (s : State) (x0 : Fin 3), Answers (.acqCaptureStart x0) s (fun t => RegFrame s t [F.ENT_CPH_BIN, F.ENT_CPH_CPH, F.ENT_PEAK_PEAK, F.ENT_RES_FLAGS, F.ENT_RES_RATIO, F.ENT_RES_STATUS, F.ENT_T0_T0, F.GNAQ_ENG_DONE_CNT, F.GNAQ_ENG_STAT_ENTRY, F.GNAQ_ENG_STAT_STATE] ∧ OutsideKept s t)) ∧
  (∀ (s : State) (x0 : Fin 3) (x1 : List Byte), Answers (.acqCaptureEnd x0 x1) s (fun t => RegFrame s t [F.COM_STAT_FAULT, F.ENT_CPH_BIN, F.ENT_CPH_CPH, F.ENT_PEAK_PEAK, F.ENT_RES_FLAGS, F.ENT_RES_RATIO, F.ENT_RES_STATUS, F.ENT_T0_T0, F.GNAQ_ENG_DONE_CNT, F.GNAQ_ENG_STAT_ENTRY, F.GNAQ_ENG_STAT_STATE, F.IOMU_FQCSR_FQMF, F.IOMU_FQCSR_FQOF, F.IOMU_FQT_V, F.IOMU_IPSR_V] ∧ t.log = s.log ∧ t.otp = s.otp)) ∧
  (∀ (s : State) (x0 : Fin 3) (x1 : Unit) (x2 : Unit), Answers (.acqBinStep x0 x1 x2) s (fun t => RegFrame s t [F.COM_STAT_FAULT, F.ENT_CPH_BIN, F.ENT_CPH_CPH, F.ENT_PEAK_PEAK, F.ENT_RES_FLAGS, F.ENT_RES_RATIO, F.ENT_RES_STATUS, F.ENT_T0_T0, F.GNAQ_ENG_DONE_CNT, F.GNAQ_ENG_STAT_BIN, F.GNAQ_ENG_STAT_ENTRY, F.GNAQ_ENG_STAT_STATE, F.GNAQ_ENG_STAT_WIN, F.IOMU_FQCSR_FQMF, F.IOMU_FQCSR_FQOF, F.IOMU_FQT_V, F.IOMU_IPSR_V] ∧ t.log = s.log ∧ t.otp = s.otp)) ∧
  (∀ (s : State) (x0 : Fin 3) (x1 : Unit), Answers (.acqEntryEnd x0 x1) s (fun t => RegFrame s t [F.ENT_CPH_BIN, F.ENT_CPH_CPH, F.ENT_PEAK_PEAK, F.ENT_RES_FLAGS, F.ENT_RES_RATIO, F.ENT_RES_STATUS, F.ENT_T0_T0, F.GNAQ_ENG_DONE_CNT, F.GNAQ_ENG_STAT_ENTRY, F.GNAQ_ENG_STAT_STATE] ∧ OutsideKept s t)) ∧
  (∀ (s : State) (x0 : Acc) (x1 : Fin 3) (x2 : Fin 128) (x3 : Fin 4) (x4 : BitVec 32), Answers (.acqEntryWrite x0 x1 x2 x3 x4) s (fun t => RegFrame s t [F.ENT_CFG0_ANT, F.ENT_CFG0_EN, F.ENT_CFG0_GLOK, F.ENT_CFG0_IRQ, F.ENT_CFG0_LAST, F.ENT_CFG0_PRN, F.ENT_CFG0_REUSE, F.ENT_CFG0_SIG, F.ENT_CFG1_NNC, F.ENT_CFG1_NWIN, F.ENT_CFG1_TCOH, F.ENT_CFG1_WBASE, F.ENT_DOP_NBIN, F.ENT_DOP_STEP, F.ENT_FDC_FDC, F.ENT_RES_FLAGS, F.ENT_RES_STATUS] ∧ OutsideKept s t)) ∧
  (∀ (s : State) (x0 : Acc), Answers (.trackStart x0) s (fun t => RegFrame s t [F.GNTK_CH_CFG_EN, F.GNTK_CH_SLIPS_CNT, F.GNTK_CH_STAT_AMB, F.GNTK_CH_STAT_LCAUSE, F.GNTK_CH_STAT_STATE] ∧ OutsideKept s t)) ∧
  (∀ (s : State) (x0 : Acc), Answers (.trackStop x0) s (fun t => RegFrame s t [F.GNTK_CH_CFG_EN, F.GNTK_CH_STAT_AMB, F.GNTK_CH_STAT_CN0, F.GNTK_CH_STAT_PLI, F.GNTK_CH_STAT_STATE] ∧ OutsideKept s t)) ∧
  (∀ (s : State) (x0 : Fin 600) (x1 : TrkIn), Answers (.trackIntegration x0 x1) s (fun t => RegFrame s t [F.GNTK_CH_SLIPS_CNT, F.GNTK_CH_STAT_AMB, F.GNTK_CH_STAT_CN0, F.GNTK_CH_STAT_PLI] ∧ OutsideKept s t)) ∧
  (∀ (s : State) (x0 : PullIn), Answers (.pullinDone x0) s (fun t => RegFrame s t [F.GNTK_CH_STAT_STATE] ∧ OutsideKept s t)) ∧
  (∀ (s : State) (x0 : Fin 600), Answers (.pullinTimeout x0) s (fun t => RegFrame s t [F.GNTK_CH_STAT_LCAUSE, F.GNTK_CH_STAT_STATE] ∧ OutsideKept s t)) ∧
  (∀ (s : State) (x0 : Fin 600), Answers (.phaseLock x0) s (fun t => RegFrame s t [F.GNTK_CH_STAT_STATE] ∧ OutsideKept s t)) ∧
  (∀ (s : State) (x0 : Fin 600), Answers (.lockLoss x0) s (fun t => RegFrame s t [F.GNTK_CH_SLIPS_CNT, F.GNTK_CH_STAT_AMB, F.GNTK_CH_STAT_STATE] ∧ OutsideKept s t)) ∧
  (∀ (s : State) (x0 : Fin 600), Answers (.coastEntry x0) s (fun t => RegFrame s t [F.GNTK_CH_STAT_AMB, F.GNTK_CH_STAT_STATE] ∧ OutsideKept s t)) ∧
  (∀ (s : State) (x0 : Fin 600), Answers (.coastRecover x0) s (fun t => RegFrame s t [F.GNTK_CH_STAT_STATE] ∧ OutsideKept s t)) ∧
  (∀ (s : State) (x0 : Fin 600), Answers (.coastEnd x0) s (fun t => RegFrame s t [F.GNTK_CH_STAT_LCAUSE, F.GNTK_CH_STAT_STATE] ∧ OutsideKept s t)) ∧
  (∀ (s : State) (x0 : Acc) (x1 : Bool) (x2 : Bool), Answers (.halfCycleResolve x0 x1 x2) s (fun t => RegFrame s t [] ∧ OutsideKept s t)) ∧
  (∀ (s : State) (x0 : Acc) (x1 : BitVec 16) (x2 : BitVec 16), Answers (.towWrite x0 x1 x2) s (fun t => RegFrame s t [] ∧ OutsideKept s t)) ∧
  (∀ (s : State), Answers .epochLatch s (fun t => RegFrame s t [F.GNTK_CH_STAT_AMB, F.GNTK_CLKRES_RES, F.GNTK_EPSEQ_SEQ, F.GNTK_GUARD_STAT_CONTRA, F.GNTK_GUARD_STAT_EGOOK, F.GNTK_GUARD_STAT_PVTOK, F.GNTK_GUARD_STAT_SGV, F.GNTK_INTF_CJUMP, F.GNTK_INTF_CN0FLAT] ∧ OutsideKept s t)) ∧
  (∀ (s : State), Answers .epochRecorded s (fun t => RegFrame s t [F.CLR_HDR_GEN, F.CLR_HDR_LIVE, F.CLR_HDR_SEQ, F.CLR_HDR_STALE, F.CLR_HDR_WDRN, F.CLR_SLOT_STAT_AGE, F.CLR_VIOL_KIND, F.CLR_VIOL_PLANE, F.CLR_VIOL_SLOT, F.CLR_VIOL_VALID, F.COM_STAT_FAULT, F.GNTK_EPDROP_CNT, F.GNTK_RING_WR_WR, F.IOMU_FQCSR_FQMF, F.IOMU_FQCSR_FQOF, F.IOMU_FQT_V, F.IOMU_IPSR_V] ∧ t.log = s.log ∧ t.otp = s.otp)) ∧
  (∀ (s : State) (x0 : Fin 600) (x1 : Unit) (x2 : Unit) (x3 : Unit), Answers (.navRecord x0 x1 x2 x3) s (fun t => RegFrame s t [F.COM_STAT_FAULT, F.GNTK_NAVDROP_CNT, F.GNTK_NAV_WR_IDX, F.IOMU_FQCSR_FQMF, F.IOMU_FQCSR_FQOF, F.IOMU_FQT_V, F.IOMU_IPSR_V] ∧ t.log = s.log ∧ t.otp = s.otp)) ∧
  (∀ (s : State), Answers .jamCheck s (fun t => RegFrame s t [F.GNTK_INTF_JAM] ∧ OutsideKept s t)) ∧
  (∀ (s : State) (x0 : Acc), Answers (.jamLearn x0) s (fun t => RegFrame s t [] ∧ OutsideKept s t)) ∧
  (∀ (s : State), Answers .jamLearnDone s (fun t => RegFrame s t [F.GNTK_JAM_REF_GREF, F.GNTK_JAM_REF_NFREF] ∧ OutsideKept s t)) ∧
  (∀ (s : State) (x0 : Acc) (x1 : BitVec 16) (x2 : BitVec 16), Answers (.pvtSpeedWrite x0 x1 x2) s (fun t => RegFrame s t [] ∧ OutsideKept s t)) ∧
  (∀ (s : State) (x0 : Acc) (x1 : Bool) (x2 : Bool) (x3 : BitVec 16), Answers (.pvtSubmit x0 x1 x2 x3) s (fun t => RegFrame s t [F.EGO_SLIP_SLIP, F.EGO_STAT_SLIPHOLD, F.EGO_STAT_SLIPUNK, F.GNTK_GUARD_STAT_CONTRA, F.GNTK_GUARD_STAT_DSPD, F.GNTK_GUARD_STAT_EGOOK, F.GNTK_GUARD_STAT_PVTOK, F.GNTK_GUARD_STAT_SGV] ∧ OutsideKept s t)) ∧
  (∀ (s : State) (x0 : Acc), Answers (.guardRearm x0) s (fun t => RegFrame s t [F.GNTK_GUARD_STAT_CONTRA, F.GNTK_GUARD_STAT_EGOOK, F.GNTK_GUARD_STAT_PVTOK, F.GNTK_GUARD_STAT_SGV] ∧ OutsideKept s t)) ∧
  (∀ (s : State), Answers .timePulse s (fun t => RegFrame s t [F.GNTP_LAST_INST, F.GNTP_PSTAT_GATED, F.GNTP_PSTAT_HOLD, F.GNTP_PSTAT_HOLDERR, F.GNTP_PSTAT_LOCK, F.GNTP_PSTAT_SLEW, F.GNTP_PSTAT_STEP, F.GNTP_PSTAT_UNSET] ∧ OutsideKept s t)) ∧
  (∀ (s : State), Answers .timePulseEnd s (fun t => RegFrame s t [] ∧ OutsideKept s t))

/-- What the commands of CNPY, EGO, NPU, CROP, AIN and SEG leave unchanged (R14, R209, R202, R223, R245, R552). -/
def Obligations.CanopyCropAcousticAndPanelFrames : Prop :=
  (∀ (s : State) (x0 : Acc) (x1 : BitVec 8), Answers (.lidarPost x0 x1) s (fun t => RegFrame s t [F.CNPY_EXCL_MASK, F.CNPY_HP_STAT_ST, F.CNPY_SEN_BANK_ACT, F.CNPY_SEN_BANK_PEND, F.CNPY_SEN_CNT_BADOFF, F.CNPY_SEN_CNT_LATE, F.CNPY_SEN_OFFS_OFFS, F.CNPY_SEN_STAT_CAUSE, F.CNPY_SEN_STAT_INSTEP, F.CNPY_SEN_STAT_OUTCNT, F.CNPY_SEN_STAT_STATE, F.COM_STAT_FAULT, F.IOMU_FQCSR_FQMF, F.IOMU_FQCSR_FQOF, F.IOMU_FQT_V, F.IOMU_IPSR_V, F.JOB_STAT_SKIP, F.JOB_STAT_STATE] ∧ t.log = s.log ∧ t.otp = s.otp)) ∧
  (∀ (s : State) (x0 : Fin 8), Answers (.sensorSilent x0) s (fun t => RegFrame s t [F.CNPY_EXCL_MASK, F.CNPY_HP_STAT_ST, F.CNPY_SEN_STAT_CAUSE, F.CNPY_SEN_STAT_INSTEP, F.CNPY_SEN_STAT_OUTCNT, F.CNPY_SEN_STAT_STATE] ∧ OutsideKept s t)) ∧
  (∀ (s : State) (x0 : Acc) (x1 : Bool), Answers (.sensorEnWrite x0 x1) s (fun t => RegFrame s t [F.CNPY_EXCL_MASK, F.CNPY_HP_STAT_ST, F.CNPY_SEN_CFG_EN, F.CNPY_SEN_CNT_LATE, F.CNPY_SEN_STAT_CAUSE, F.CNPY_SEN_STAT_INSTEP, F.CNPY_SEN_STAT_OUTCNT, F.CNPY_SEN_STAT_STATE] ∧ OutsideKept s t)) ∧
  (∀ (s : State) (x0 : Acc), Answers (.sensorRecheck x0) s (fun t => RegFrame s t [F.CNPY_EXCL_MASK, F.CNPY_HP_STAT_ST, F.CNPY_SEN_STAT_CAUSE, F.CNPY_SEN_STAT_INSTEP, F.CNPY_SEN_STAT_OUTCNT, F.CNPY_SEN_STAT_STATE] ∧ OutsideKept s t)) ∧
  (∀ (s : State) (x0 : Fin 8) (x1 : Unit) (x2 : Unit), Answers (.calibrationCheckDone x0 x1 x2) s (fun t => RegFrame s t [F.CAL_CX_V, F.CAL_CY_V, F.CAL_FX_V, F.CAL_FY_V, F.CAL_K1_V, F.CAL_K2_V, F.CAL_K3_V, F.CAL_P1_V, F.CAL_P2_V, F.CAL_TX_V, F.CAL_TY_V, F.CAL_TZ_V, F.CNPY_EXCL_MASK, F.CNPY_HP_STAT_ST, F.CNPY_SEN_CHK_OVL, F.CNPY_SEN_CHK_SCORE, F.CNPY_SEN_STAT_CAUSE, F.CNPY_SEN_STAT_INSTEP, F.CNPY_SEN_STAT_OUTCNT, F.CNPY_SEN_STAT_STATE, F.COM_STAT_FAULT, F.IOMU_FQCSR_FQMF, F.IOMU_FQCSR_FQOF, F.IOMU_FQT_V, F.IOMU_IPSR_V] ∧ t.log = s.log ∧ t.otp = s.otp)) ∧
  (∀ (s : State) (x0 : Fin 8), Answers (.checkNoref x0) s (fun t => RegFrame s t [F.CNPY_EXCL_MASK, F.CNPY_HP_STAT_ST, F.CNPY_SEN_STAT_CAUSE, F.CNPY_SEN_STAT_INSTEP, F.CNPY_SEN_STAT_OUTCNT, F.CNPY_SEN_STAT_STATE] ∧ OutsideKept s t)) ∧
  (∀ (s : State) (x0 : Acc) (x1 : BitVec 8), Answers (.bankSwapRequest x0 x1) s (fun t => RegFrame s t [F.CNPY_SEN_BANK_PEND] ∧ OutsideKept s t)) ∧
  (∀ (s : State) (x0 : Unit), Answers (.gridUpdate x0) s (fun t => RegFrame s t [F.CAL_CX_V, F.CAL_CY_V, F.CAL_FX_V, F.CAL_FY_V, F.CAL_K1_V, F.CAL_K2_V, F.CAL_K3_V, F.CAL_P1_V, F.CAL_P2_V, F.CAL_TX_V, F.CAL_TY_V, F.CAL_TZ_V, F.CNPY_GSEQ_SEQ, F.CNPY_SEN_CNT_LATE, F.CNPY_UPDSTAT_OVR, F.COM_STAT_FAULT, F.IOMU_FQCSR_FQMF, F.IOMU_FQCSR_FQOF, F.IOMU_FQT_V, F.IOMU_IPSR_V] ∧ t.log = s.log ∧ t.otp = s.otp)) ∧
  (∀ (s : State), Answers .gridUpdateDone s (fun t => RegFrame s t [F.CNPY_GSEQ_SEQ, F.CNPY_ORG_ORGX, F.CNPY_ORG_ORGY, F.CNPY_UPDSTAT_DUR, F.COM_STAT_FAULT, F.IOMU_FQCSR_FQMF, F.IOMU_FQCSR_FQOF, F.IOMU_FQT_V, F.IOMU_IPSR_V] ∧ t.log = s.log ∧ t.otp = s.otp)) ∧
  (∀ (s : State) (x0 : Fin 8) (x1 : Unit), Answers (.residualRecord x0 x1) s (fun t => RegFrame s t [F.CRES_DPITCH_V, F.CRES_DROLL_V, F.CRES_DX_V, F.CRES_DYAW_V, F.CRES_DY_V, F.CRES_DZ_V, F.CRES_INFO_V, F.CRES_SEQ_V, F.CRES_TK_V] ∧ OutsideKept s t)) ∧
  (∀ (s : State) (x0 : Acc) (x1 : BitVec 32), Answers (.projectionGo x0 x1) s (fun t => RegFrame s t [F.CNPY_HP_CTRL_BANK, F.CNPY_HP_CTRL_DBUF, F.CNPY_HP_CTRL_DST, F.CNPY_HP_CTRL_SBUF, F.CNPY_HP_CTRL_SRC, F.CNPY_HP_STAT_ST] ∧ OutsideKept s t)) ∧
  (∀ (s : State) (x0 : Unit) (x1 : Unit) (x2 : Unit), Answers (.projectionDone x0 x1 x2) s (fun t => RegFrame s t [F.CAL_CX_V, F.CAL_CY_V, F.CAL_FX_V, F.CAL_FY_V, F.CAL_K1_V, F.CAL_K2_V, F.CAL_K3_V, F.CAL_P1_V, F.CAL_P2_V, F.CAL_TX_V, F.CAL_TY_V, F.CAL_TZ_V, F.CNPY_HP_STAT_OVL, F.CNPY_HP_STAT_SCORE, F.CNPY_HP_STAT_ST, F.COM_STAT_FAULT, F.IOMU_FQCSR_FQMF, F.IOMU_FQCSR_FQOF, F.IOMU_FQT_V, F.IOMU_IPSR_V] ∧ t.log = s.log ∧ t.otp = s.otp)) ∧
  (∀ (s : State) (x0 : Acc), Answers (.gridClear x0) s (fun t => RegFrame s t [] ∧ OutsideKept s t)) ∧
  (∀ (s : State) (x0 : List EgoIn), Answers (.egoStep x0) s (fun t => RegFrame s t [F.COM_STAT_FAULT, F.EGO_ATT_PITCH, F.EGO_ATT_ROLL, F.EGO_DIST_DIST, F.EGO_RING_WR_IDX, F.EGO_SPEED_V, F.EGO_STAT_BRIDGE, F.EGO_STAT_IMUOK, F.EGO_STAT_STILL, F.EGO_STAT_VALID, F.EGO_STAT_WHLOK, F.EGO_STEPSEQ_SEQ, F.EGO_X_POS, F.EGO_YAWRATE_W, F.EGO_YAW_YAW, F.EGO_Y_POS, F.IOMU_FQCSR_FQMF, F.IOMU_FQCSR_FQOF, F.IOMU_FQT_V, F.IOMU_IPSR_V] ∧ t.log = s.log ∧ t.otp = s.otp)) ∧
  (∀ (s : State), Answers .egoInvalid s (fun t => RegFrame s t [F.COM_STAT_FAULT, F.EGO_STAT_VALID] ∧ OutsideKept s t)) ∧
  (∀ (s : State), Answers .egoStill s (fun t => RegFrame s t [F.EGO_GBIAS_BIAS, F.EGO_STAT_STILL] ∧ OutsideKept s t)) ∧
  (∀ (s : State), Answers .egoSlipUnknown s (fun t => RegFrame s t [F.EGO_SLIP_SLIP, F.EGO_STAT_SLIPHOLD, F.EGO_STAT_SLIPUNK] ∧ OutsideKept s t)) ∧
  (∀ (s : State) (x0 : Acc), Answers (.egoReset x0) s (fun t => RegFrame s t [F.EGO_STAT_RSTCNT] ∧ OutsideKept s t)) ∧
  (∀ (s : State) (x0 : Acc) (x1 : Fin 64), Answers (.npuJobGo x0 x1) s (fun t => RegFrame s t [F.JOB_STAT_STATE] ∧ OutsideKept s t)) ∧
  (∀ (s : State) (x0 : Acc) (x1 : Fin 64) (x2 : Bool), Answers (.npuJobEnable x0 x1 x2) s (fun t => RegFrame s t [F.JOB_CFG_EN, F.JOB_STAT_STATE] ∧ OutsideKept s t)) ∧
  (∀ (s : State), Answers .npuJobStart s (fun t => RegFrame s t [F.COM_STAT_FAULT, F.IOMU_FQCSR_FQMF, F.IOMU_FQCSR_FQOF, F.IOMU_FQT_V, F.IOMU_IPSR_V, F.JOB_STAMP_STAMP, F.JOB_STAT_ERRC, F.JOB_STAT_STATE, F.JOB_TEND_T, F.JOB_TSTART_T, F.NPU_RUNJOB_JOB, F.NPU_RUNJOB_RUNNING] ∧ t.log = s.log ∧ t.otp = s.otp)) ∧
  (∀ (s : State) (x0 : List (List Byte)), Answers (.npuJobDone x0) s (fun t => RegFrame s t [F.CNPY_SEN_CNT_LATE, F.COM_STAT_FAULT, F.IOMU_FQCSR_FQMF, F.IOMU_FQCSR_FQOF, F.IOMU_FQT_V, F.IOMU_IPSR_V, F.JOB_RUNS_RUNS, F.JOB_STAT_ERRC, F.JOB_STAT_STATE, F.JOB_TEND_T, F.NPU_RUNJOB_RUNNING] ∧ t.log = s.log ∧ t.otp = s.otp)) ∧
  (∀ (s : State), Answers .npuJobLimit s (fun t => RegFrame s t [F.JOB_STAT_ERRC, F.JOB_STAT_STATE, F.JOB_TEND_T, F.NPU_RUNJOB_RUNNING] ∧ OutsideKept s t)) ∧
  (∀ (s : State) (x0 : Acc), Answers (.npuAbort x0) s (fun t => RegFrame s t [F.JOB_STAT_ERRC, F.JOB_STAT_STATE, F.JOB_TEND_T, F.NPU_RUNJOB_RUNNING] ∧ OutsideKept s t)) ∧
  (∀ (s : State) (x0 : AcuIn), Answers (.acousticImpact x0) s (fun t => RegFrame s t [] ∧ OutsideKept s t)) ∧
  (∀ (s : State) (x0 : Fin 16) (x1 : List (BitVec 16)) (x2 : Unit) (x3 : Unit), Answers (.acousticClassify x0 x1 x2 x3) s (fun t => RegFrame s t [] ∧ OutsideKept s t)) ∧
  (∀ (s : State) (x0 : AcuIn), Answers (.acousticRearm x0) s (fun t => RegFrame s t [] ∧ OutsideKept s t)) ∧
  (∀ (s : State) (x0 : AcuIn), Answers (.acousticPile x0) s (fun t => RegFrame s t [] ∧ OutsideKept s t)) ∧
  (∀ (s : State) (x0 : BitVec 16), Answers (.acousticWindowEnd x0) s (fun t => RegFrame s t [F.ACU_WSEQ_SEQ] ∧ OutsideKept s t)) ∧
  (∀ (s : State), Answers .acousticPublish s (fun t => RegFrame s t [F.ACU_CNT_GRAIN, F.ACU_CNT_OTHER, F.ACU_PEAK_MEANPK, F.ACU_STAT_PILE, F.ACU_STAT_SAT, F.CLR_HDR_GEN, F.CLR_HDR_LIVE, F.CLR_HDR_SEQ, F.CLR_HDR_STALE, F.CLR_HDR_WDRN, F.CLR_SLOT_STAT_AGE, F.CLR_VIOL_KIND, F.CLR_VIOL_PLANE, F.CLR_VIOL_SLOT, F.CLR_VIOL_VALID] ∧ OutsideKept s t)) ∧
  (∀ (s : State) (x0 : Acc) (x1 : Fin 16), Answers (.acousticSnapArm x0 x1) s (fun t => RegFrame s t [F.ACU_SNAP_CH, F.ACU_SNAP_DONE] ∧ OutsideKept s t)) ∧
  (∀ (s : State) (x0 : List (BitVec 16)), Answers (.acousticSnapDone x0) s (fun t => RegFrame s t [F.ACU_SNAPD_W, F.ACU_SNAP_DONE] ∧ OutsideKept s t)) ∧
  (∀ (s : State), Answers .cropTick s (fun t => RegFrame s t [F.CELL_CONF, F.CELL_CONT, F.CELL_COVER, F.CELL_FROZEN, F.CELL_MASS, F.CELL_NOLA, F.CELL_VALID, F.CROP_LSEQ_SEQ, F.CROP_STATE_EGOOK, F.CROP_STATE_FLOWOK, F.CROP_STATE_GRIDOK, F.CROP_STATE_NPAR, F.CROP_STATE_QFULL, F.CROP_XMAX_IDX] ∧ OutsideKept s t)) ∧
  (∀ (s : State), Answers .flowStale s (fun t => RegFrame s t [F.CROP_STATE_FLOWOK] ∧ OutsideKept s t)) ∧
  (∀ (s : State), Answers .samplingPass s (fun t => RegFrame s t [F.CELL_CONF, F.CELL_CONT, F.CELL_COVER, F.CELL_FROZEN, F.CELL_MASS, F.CELL_NOLA, F.CELL_VALID, F.CROP_LSEQ_SEQ] ∧ t.log = s.log ∧ t.otp = s.otp)) ∧
  (∀ (s : State), Answers .parcelArrival s (fun t => RegFrame s t [F.CROP_STATE_NPAR, F.CROP_STATE_QFULL] ∧ OutsideKept s t)) ∧
  (∀ (s : State) (x0 : Fin 16), Answers (.tapCommit x0) s (fun t => RegFrame s t [F.CLR_HDR_GEN, F.CLR_HDR_LIVE, F.CLR_HDR_SEQ, F.CLR_HDR_STALE, F.CLR_HDR_WDRN, F.CLR_SLOT_STAT_AGE, F.CLR_VIOL_KIND, F.CLR_VIOL_PLANE, F.CLR_VIOL_SLOT, F.CLR_VIOL_VALID, F.TAP_OUT_VALUE, F.TAP_STAT_COMMITS, F.TAP_STAT_FLAGS] ∧ OutsideKept s t)) ∧
  (∀ (s : State) (x0 : Acc) (x1 : Fin 16) (x2 : Bool), Answers (.tapEnable x0 x1 x2) s (fun t => RegFrame s t [F.TAP_CFG_EN, F.TAP_STAT_COMMITS] ∧ OutsideKept s t)) ∧
  (∀ (s : State) (x0 : Acc), Answers (.lineClear x0) s (fun t => RegFrame s t [F.CELL_CONF, F.CELL_CONT, F.CELL_COVER, F.CELL_FROZEN, F.CELL_MASS, F.CELL_NOLA, F.CELL_VALID, F.CROP_LSEQ_SEQ, F.CROP_XMAX_IDX] ∧ OutsideKept s t)) ∧
  (∀ (s : State) (x0 : Acc), Answers (.stageClear x0) s (fun t => RegFrame s t [] ∧ OutsideKept s t)) ∧
  (∀ (s : State), Answers .yieldPair s (fun t => RegFrame s t [F.COM_STAT_FAULT, F.CROP_YDROP_CNT, F.CROP_YRING_WR_IDX, F.CROP_YSEQ_SEQ, F.IOMU_FQCSR_FQMF, F.IOMU_FQCSR_FQOF, F.IOMU_FQT_V, F.IOMU_IPSR_V] ∧ t.log = s.log ∧ t.otp = s.otp)) ∧
  (∀ (s : State) (x0 : Acc) (x1 : Bool), Answers (.panelCommit x0 x1) s (fun t => RegFrame s t [F.COM_STAT_FAULT, F.SEG_DSP_SEG, F.SEG_JSEQ_SEQ, F.SEG_LN_STAT_PEND, F.SEG_STATE_PEND, F.SEG_STATE_ST, F.SEG_TGT_SEG] ∧ OutsideKept s t)) ∧
  (∀ (s : State) (x0 : BitVec 8) (x1 : BitVec 8), Answers (.panelLineStart x0 x1) s (fun t => RegFrame s t [F.COM_STAT_FAULT, F.SEG_GEN_VRNOW, F.SEG_GEN_VSNOW, F.SEG_LN_STAT_ST, F.SEG_STATE_LINE, F.SEG_STATE_PEND, F.SEG_STATE_ST] ∧ OutsideKept s t)) ∧
  (∀ (s : State), Answers .panelSelectPhase s (fun t => RegFrame s t [] ∧ OutsideKept s t)) ∧
  (∀ (s : State), Answers .panelEvolvePhase s (fun t => RegFrame s t [] ∧ OutsideKept s t)) ∧
  (∀ (s : State) (x0 : Bool), Answers (.panelLineEnd x0) s (fun t => RegFrame s t [F.COM_STAT_FAULT, F.SEG_CTR_S, F.SEG_DSP_SEG, F.SEG_JSEQ_SEQ, F.SEG_LN_STAT_BAND, F.SEG_LN_STAT_PEND, F.SEG_LN_STAT_ST, F.SEG_LN_TLAST_T, F.SEG_STATE_PEND, F.SEG_STATE_ST, F.SEG_STG_SEG, F.SEG_TGT_SEG] ∧ OutsideKept s t)) ∧
  (∀ (s : State), Answers .generatorTimeout s (fun t => RegFrame s t [F.COM_STAT_FAULT, F.SEG_LN_STAT_ST, F.SEG_STATE_PEND, F.SEG_STATE_ST] ∧ OutsideKept s t)) ∧
  (∀ (s : State) (x0 : Option (BitVec 12)), Answers (.panelTempRead x0) s (fun t => RegFrame s t [F.COM_STAT_FAULT, F.SEG_STATE_BAND, F.SEG_STATE_PEND, F.SEG_STATE_ST, F.SEG_TEMP_T, F.SEG_TEMP_TSFLT] ∧ OutsideKept s t)) ∧
  (∀ (s : State) (x0 : Acc), Answers (.stressClear x0) s (fun t => RegFrame s t [F.SEG_CTR_S] ∧ OutsideKept s t))

/-- What the commands of WHL, SOL and LSW leave unchanged (R14, R297, R330, R365). -/
def Obligations.WheelSolAndLoadSwitchFrames : Prop :=
  (∀ (s : State) (x0 : Fin 64) (x1 : LoopIn), Answers (.loopSample x0 x1) s (fun t => RegFrame s t [F.BUF_CTRL_ATT, F.BUF_CTRL_RESULT, F.BUF_CTRL_TXREQ, F.BUS_CH_EVT_EVT, F.BUS_MEM_WORD, F.COM_STAT_FAULT, F.LSW_CH_FLAGS_CRANKBLK, F.LSW_CH_IMEAS_I, F.LSW_CH_STAT_CAUSE, F.LSW_CH_STAT_FAULT, F.LSW_CH_STAT_STATE, F.SOL_BANK_STAT_BANK, F.SOL_CH_FLAGS_DEFER, F.SOL_CH_FLAGS_NOKINK, F.SOL_CH_FLAGS_OFFDEF, F.SOL_CH_FLAGS_OFFREJ, F.SOL_CH_FLAGS_UVDROP, F.SOL_CH_IMEAS_IMEAS, F.SOL_CH_STAT_FAULT, F.SOL_CH_STAT_PHASE, F.SOL_EV_FLAGS_FLAGS, F.SOL_EV_SEQ_SEQ, F.SOL_EV_TIME_KINK, F.SOL_EV_TSTART_T, F.SOL_Q_STAT_COUNT, F.WHL_LP_CAN_CANFAIL, F.WHL_LP_CAN_CANSKIP, F.WHL_LP_STAT_STATE, F.WHL_OWN_OWN] ∧ OutsideKept s t)) ∧
  (∀ (s : State) (x0 : Fin 64), Answers (.loopEvaluate x0) s (fun t => RegFrame s t [F.BUF_CTRL_ATT, F.BUF_CTRL_NDAT, F.BUF_CTRL_RESULT, F.BUF_CTRL_TXREQ, F.BUS_CH_EVT_EVT, F.BUS_CH_NDAT_NDAT, F.BUS_MEM_WORD, F.CLR_HDR_GEN, F.CLR_HDR_LIVE, F.CLR_HDR_SEQ, F.CLR_HDR_STALE, F.CLR_HDR_WDRN, F.CLR_SLOT_STAT_AGE, F.CLR_VIOL_KIND, F.CLR_VIOL_PLANE, F.CLR_VIOL_SLOT, F.CLR_VIOL_VALID, F.COM_STAT_FAULT, F.PORT_STAT_GUARDED, F.PORT_STAT_HELD, F.PORT_STAT_LAPSED, F.PORT_STAT_PRES, F.PORT_STAT_WDRN, F.PORT_VAL_VAL, F.WHL_LANE_QMAX0, F.WHL_LANE_QMAX1, F.WHL_LP_CAN_CANFAIL, F.WHL_LP_CAN_CANSKIP, F.WHL_LP_CONF_CNT, F.WHL_LP_CONF_SUPP, F.WHL_LP_DLY_DLY, F.WHL_LP_DLY_DMAX, F.WHL_LP_I_I, F.WHL_LP_LATCH_T, F.WHL_LP_OSTAMP_T, F.WHL_LP_R_VAL, F.WHL_LP_STAT_ACT, F.WHL_LP_STAT_CONFLICT, F.WHL_LP_STAT_PEND, F.WHL_LP_STAT_SAT, F.WHL_LP_STAT_STATE, F.WHL_LP_STAT_WPORT, F.WHL_LP_STAT_WRANK, F.WHL_LP_STAT_XWDRN, F.WHL_LP_U_VAL, F.WHL_LP_X_VAL, F.WHL_LP_Y_VAL] ∧ OutsideKept s t)) ∧
  (∀ (s : State) (x0 : Fin 64), Answers (.outputApply x0) s (fun t => RegFrame s t [F.CLR_HDR_GEN, F.CLR_HDR_LIVE, F.CLR_HDR_SEQ, F.CLR_HDR_STALE, F.CLR_HDR_WDRN, F.CLR_SLOT_STAT_AGE, F.CLR_VIOL_KIND, F.CLR_VIOL_PLANE, F.CLR_VIOL_SLOT, F.CLR_VIOL_VALID, F.COM_STAT_FAULT, F.LSW_CH_FLAGS_CRANKBLK, F.LSW_CH_IMEAS_I, F.LSW_CH_STAT_CAUSE, F.LSW_CH_STAT_FAULT, F.LSW_CH_STAT_STATE, F.SOL_BANK_STAT_BANK, F.SOL_CH_FLAGS_DEFER, F.SOL_CH_FLAGS_NOKINK, F.SOL_CH_FLAGS_OFFDEF, F.SOL_CH_FLAGS_OFFREJ, F.SOL_CH_FLAGS_UVDROP, F.SOL_CH_STAT_FAULT, F.SOL_CH_STAT_PHASE, F.SOL_EV_FLAGS_FLAGS, F.SOL_EV_SEQ_SEQ, F.SOL_EV_TIME_KINK, F.SOL_EV_TSTART_T, F.SOL_Q_STAT_COUNT, F.WHL_LP_DLY_DLY, F.WHL_LP_DLY_DMAX, F.WHL_LP_LATCH_T, F.WHL_LP_OSTAMP_T] ∧ OutsideKept s t)) ∧
  (∀ (s : State) (x0 : Acc), Answers (.loopEnable x0) s (fun t => RegFrame s t [F.WHL_LP_CFG_EN, F.WHL_LP_I_I] ∧ OutsideKept s t)) ∧
  (∀ (s : State) (x0 : Acc), Answers (.loopDisable x0) s (fun t => RegFrame s t [F.COM_STAT_FAULT, F.WHL_LP_CFG_EN, F.WHL_LP_STAT_STATE] ∧ OutsideKept s t)) ∧
  (∀ (s : State) (x0 : Acc), Answers (.coeffSwap x0) s (fun t => RegFrame s t [F.WHL_LP_STAT_PEND] ∧ OutsideKept s t)) ∧
  (∀ (s : State) (x0 : Acc) (x1 : BitVec 64), Answers (.swapMaskWrite x0 x1) s (fun t => RegFrame s t [F.WHL_LP_STAT_PEND] ∧ OutsideKept s t)) ∧
  (∀ (s : State) (x0 : Acc), Answers (.loopClearStats x0) s (fun t => RegFrame s t [F.WHL_LP_CAN_CANFAIL, F.WHL_LP_CAN_CANSKIP, F.WHL_LP_CONF_CNT, F.WHL_LP_CONF_SUPP, F.WHL_LP_DLY_DMAX] ∧ OutsideKept s t)) ∧
  (∀ (s : State) (x0 : Acc), Answers (.laneClear x0) s (fun t => RegFrame s t [F.WHL_LANE_QMAX0, F.WHL_LANE_QMAX1] ∧ OutsideKept s t)) ∧
  (∀ (s : State) (x0 : Acc) (x1 : Bool) (x2 : Fin 1024) (x3 : BitVec 32), Answers (.tableEntryWrite x0 x1 x2 x3) s (fun t => RegFrame s t [F.WHL_COG_VAL, F.WHL_FRI_VAL] ∧ OutsideKept s t)) ∧
  (∀ (s : State) (x0 : Acc) (x1 : Fin 4) (x2 : Bool), Answers (.portEnable x0 x1 x2) s (fun t => RegFrame s t [F.PORT_CFG_EN] ∧ OutsideKept s t)) ∧
  (∀ (s : State) (x0 : Acc) (x1 : Bool), Answers (.eventRequest x0 x1) s (fun t => RegFrame s t [F.COM_STAT_FAULT, F.SOL_BANK_STAT_BANK, F.SOL_CH_CMD_ON, F.SOL_CH_FLAGS_DEFER, F.SOL_CH_FLAGS_NOKINK, F.SOL_CH_FLAGS_OFFDEF, F.SOL_CH_FLAGS_OFFREJ, F.SOL_CH_FLAGS_UVDROP, F.SOL_CH_STAT_FAULT, F.SOL_CH_STAT_PHASE, F.SOL_EV_FLAGS_FLAGS, F.SOL_EV_SEQ_SEQ, F.SOL_EV_TIME_KINK, F.SOL_EV_TSTART_T, F.SOL_Q_STAT_COUNT] ∧ OutsideKept s t)) ∧
  (∀ (s : State) (x0 : Acc) (x1 : BitVec 16), Answers (.currentSetpoint x0 x1) s (fun t => RegFrame s t [F.COM_STAT_FAULT, F.SOL_BANK_STAT_BANK, F.SOL_CH_FLAGS_DEFER, F.SOL_CH_FLAGS_NOKINK, F.SOL_CH_FLAGS_OFFDEF, F.SOL_CH_FLAGS_OFFREJ, F.SOL_CH_FLAGS_UVDROP, F.SOL_CH_ISET_ISET, F.SOL_CH_STAT_FAULT, F.SOL_CH_STAT_PHASE, F.SOL_EV_FLAGS_FLAGS, F.SOL_EV_SEQ_SEQ, F.SOL_EV_TIME_KINK, F.SOL_EV_TSTART_T, F.SOL_Q_STAT_COUNT] ∧ OutsideKept s t)) ∧
  (∀ (s : State) (x0 : Acc), Answers (.queuePush x0) s (fun t => RegFrame s t [F.SOL_CH_FLAGS_LATE, F.SOL_Q_STAT_COUNT] ∧ OutsideKept s t)) ∧
  (∀ (s : State) (x0 : Acc), Answers (.queueFlush x0) s (fun t => RegFrame s t [F.COM_STAT_FAULT, F.SOL_BANK_STAT_BANK, F.SOL_CH_STAT_FAULT, F.SOL_CH_STAT_PHASE, F.SOL_Q_STAT_COUNT] ∧ OutsideKept s t)) ∧
  (∀ (s : State) (x0 : Fin 24), Answers (.queueEntryDue x0) s (fun t => RegFrame s t [F.COM_STAT_FAULT, F.SOL_BANK_STAT_BANK, F.SOL_CH_FLAGS_DEFER, F.SOL_CH_FLAGS_LATE, F.SOL_CH_FLAGS_NOKINK, F.SOL_CH_FLAGS_OFFDEF, F.SOL_CH_FLAGS_OFFREJ, F.SOL_CH_FLAGS_UVDROP, F.SOL_CH_STAT_FAULT, F.SOL_CH_STAT_PHASE, F.SOL_EV_FLAGS_FLAGS, F.SOL_EV_TIME_KINK, F.SOL_EV_TSTART_T, F.SOL_Q_STAT_COUNT] ∧ OutsideKept s t)) ∧
  (∀ (s : State) (x0 : Fin 24) (x1 : BitVec 8), Answers (.eventStart x0 x1) s (fun t => RegFrame s t [F.COM_STAT_FAULT, F.SOL_BANK_STAT_BANK, F.SOL_BST_STAT_VNOW, F.SOL_CH_FLAGS_DEFER, F.SOL_CH_FLAGS_UVDROP, F.SOL_CH_STAT_FAULT, F.SOL_CH_STAT_PHASE, F.SOL_EV_TSTART_T, F.SOL_Q_STAT_COUNT] ∧ OutsideKept s t)) ∧
  (∀ (s : State) (x0 : Fin 24), Answers (.overlapDrop x0) s (fun t => RegFrame s t [F.COM_STAT_FAULT, F.SOL_BANK_STAT_BANK, F.SOL_CH_FLAGS_OVLP, F.SOL_CH_STAT_FAULT, F.SOL_CH_STAT_PHASE, F.SOL_Q_STAT_COUNT] ∧ OutsideKept s t)) ∧
  (∀ (s : State) (x0 : Fin 24) (x1 : BitVec 8), Answers (.boostWaitExpiry x0 x1) s (fun t => RegFrame s t [F.COM_STAT_FAULT, F.SOL_BANK_STAT_BANK, F.SOL_BST_STAT_VNOW, F.SOL_CH_FLAGS_BNRABT, F.SOL_CH_FLAGS_BSTNR, F.SOL_CH_FLAGS_UVDROP, F.SOL_CH_STAT_FAULT, F.SOL_CH_STAT_PHASE, F.SOL_EV_TSTART_T, F.SOL_Q_STAT_COUNT] ∧ OutsideKept s t)) ∧
  (∀ (s : State) (x0 : SolMeas), Answers (.boostPeakReached x0) s (fun t => RegFrame s t [F.COM_STAT_FAULT, F.SOL_BANK_STAT_BANK, F.SOL_CH_IMEAS_IMEAS, F.SOL_CH_STAT_FAULT, F.SOL_CH_STAT_PHASE, F.SOL_EV_TIME_TPK] ∧ OutsideKept s t)) ∧
  (∀ (s : State) (x0 : Fin 24), Answers (.boostTimeout x0) s (fun t => RegFrame s t [F.COM_STAT_FAULT, F.SOL_BANK_STAT_BANK, F.SOL_CH_FLAGS_NOPEAK, F.SOL_CH_STAT_FAULT, F.SOL_CH_STAT_PHASE, F.SOL_EV_TIME_TPK] ∧ OutsideKept s t)) ∧
  (∀ (s : State) (x0 : Fin 24), Answers (.peakEnd x0) s (fun t => RegFrame s t [F.COM_STAT_FAULT, F.SOL_BANK_STAT_BANK, F.SOL_CH_STAT_FAULT, F.SOL_CH_STAT_PHASE] ∧ OutsideKept s t)) ∧
  (∀ (s : State) (x0 : Fin 24), Answers (.eventEnd x0) s (fun t => RegFrame s t [F.COM_STAT_FAULT, F.SOL_BANK_STAT_BANK, F.SOL_CH_FLAGS_DEFER, F.SOL_CH_FLAGS_NOKINK, F.SOL_CH_FLAGS_OFFDEF, F.SOL_CH_FLAGS_OFFREJ, F.SOL_CH_FLAGS_UVDROP, F.SOL_CH_STAT_FAULT, F.SOL_CH_STAT_PHASE, F.SOL_EV_FLAGS_FLAGS, F.SOL_EV_SEQ_SEQ, F.SOL_EV_TIME_KINK, F.SOL_EV_TSTART_T, F.SOL_Q_STAT_COUNT] ∧ OutsideKept s t)) ∧
  (∀ (s : State) (x0 : SolMeas), Answers (.decayEnd x0) s (fun t => RegFrame s t [F.COM_STAT_FAULT, F.SOL_BANK_STAT_BANK, F.SOL_CH_FLAGS_DEFER, F.SOL_CH_FLAGS_NOKINK, F.SOL_CH_FLAGS_OFFDEF, F.SOL_CH_FLAGS_OFFREJ, F.SOL_CH_FLAGS_UVDROP, F.SOL_CH_IMEAS_IMEAS, F.SOL_CH_STAT_FAULT, F.SOL_CH_STAT_PHASE, F.SOL_EV_FLAGS_FLAGS, F.SOL_EV_SEQ_SEQ, F.SOL_EV_TIME_KINK, F.SOL_EV_TSTART_T, F.SOL_Q_STAT_COUNT] ∧ OutsideKept s t)) ∧
  (∀ (s : State) (x0 : KinkIn), Answers (.kinkDetect x0) s (fun t => RegFrame s t [F.SOL_EV_TIME_KINK] ∧ OutsideKept s t)) ∧
  (∀ (s : State) (x0 : Fin 24), Answers (.kinkWindowEnd x0) s (fun t => RegFrame s t [F.SOL_CH_FLAGS_NOKINK, F.SOL_EV_FLAGS_FLAGS, F.SOL_EV_TIME_KINK] ∧ OutsideKept s t)) ∧
  (∀ (s : State) (x0 : SolMeas), Answers (.solShort x0) s (fun t => RegFrame s t [F.COM_STAT_FAULT, F.SOL_BANK_STAT_BANK, F.SOL_CH_FLAGS_SHORT, F.SOL_CH_IMEAS_IMEAS, F.SOL_CH_STAT_FAULT, F.SOL_CH_STAT_PHASE] ∧ OutsideKept s t)) ∧
  (∀ (s : State) (x0 : HsMeas), Answers (.hsShort x0) s (fun t => RegFrame s t [F.COM_STAT_FAULT, F.SOL_BANK_STAT_BANK, F.SOL_CH_FLAGS_HSSHORT, F.SOL_CH_STAT_FAULT, F.SOL_CH_STAT_PHASE] ∧ OutsideKept s t)) ∧
  (∀ (s : State) (x0 : SolMeas), Answers (.solOvertemp x0) s (fun t => RegFrame s t [F.COM_STAT_FAULT, F.SOL_BANK_STAT_BANK, F.SOL_CH_FLAGS_OT, F.SOL_CH_STAT_FAULT, F.SOL_CH_STAT_PHASE] ∧ OutsideKept s t)) ∧
  (∀ (s : State) (x0 : SolMeas), Answers (.solOpenLoad x0) s (fun t => RegFrame s t [F.COM_STAT_FAULT, F.SOL_CH_FLAGS_OPEN, F.SOL_CH_IMEAS_IMEAS, F.SOL_CH_STAT_FAULT] ∧ OutsideKept s t)) ∧
  (∀ (s : State) (x0 : Acc) (x1 : Option (Fin 3)), Answers (.solClearFault x0 x1) s (fun t => RegFrame s t [F.COM_STAT_FAULT, F.SOL_BANK_STAT_BANK, F.SOL_CH_FLAGS_DEFER, F.SOL_CH_FLAGS_HSSHORT, F.SOL_CH_FLAGS_NOKINK, F.SOL_CH_FLAGS_OFFDEF, F.SOL_CH_FLAGS_OFFREJ, F.SOL_CH_FLAGS_OPEN, F.SOL_CH_FLAGS_OT, F.SOL_CH_FLAGS_SHORT, F.SOL_CH_FLAGS_UVDROP, F.SOL_CH_STAT_FAULT, F.SOL_CH_STAT_PHASE, F.SOL_EV_FLAGS_FLAGS, F.SOL_EV_SEQ_SEQ, F.SOL_EV_TIME_KINK, F.SOL_EV_TSTART_T, F.SOL_Q_STAT_COUNT] ∧ OutsideKept s t)) ∧
  (∀ (s : State) (x0 : Acc) (x1 : Bool), Answers (.solChannelEnable x0 x1) s (fun t => RegFrame s t [F.COM_STAT_FAULT, F.SOL_BANK_STAT_BANK, F.SOL_CH_CFG_EN, F.SOL_CH_FLAGS_DEFER, F.SOL_CH_FLAGS_NOKINK, F.SOL_CH_FLAGS_OFFDEF, F.SOL_CH_FLAGS_OFFREJ, F.SOL_CH_FLAGS_UVDROP, F.SOL_CH_STAT_FAULT, F.SOL_CH_STAT_PHASE, F.SOL_EV_FLAGS_FLAGS, F.SOL_EV_SEQ_SEQ, F.SOL_EV_TIME_KINK, F.SOL_EV_TSTART_T, F.SOL_Q_STAT_COUNT] ∧ OutsideKept s t)) ∧
  (∀ (s : State) (x0 : Acc) (x1 : Fin 2) (x2 : Bool), Answers (.boostEnable x0 x1 x2) s (fun t => RegFrame s t [F.COM_STAT_FAULT, F.SOL_BST_CFG_EN, F.SOL_BST_STAT_FLT] ∧ OutsideKept s t)) ∧
  (∀ (s : State) (x0 : Fin 2) (x1 : BitVec 8), Answers (.boostFault x0 x1) s (fun t => RegFrame s t [F.COM_STAT_FAULT, F.SOL_BST_STAT_FLT, F.SOL_BST_STAT_VNOW] ∧ OutsideKept s t)) ∧
  (∀ (s : State) (x0 : Fin 2) (x1 : BitVec 8), Answers (.boostFaultClear x0 x1) s (fun t => RegFrame s t [F.COM_STAT_FAULT, F.SOL_BST_STAT_FLT, F.SOL_BST_STAT_VNOW] ∧ OutsideKept s t)) ∧
  (∀ (s : State) (x0 : Acc) (x1 : Bool), Answers (.lswOnWrite x0 x1) s (fun t => RegFrame s t [F.COM_STAT_FAULT, F.LSW_CH_CMD_ON, F.LSW_CH_FLAGS_CRANKBLK, F.LSW_CH_IMEAS_I, F.LSW_CH_STAT_CAUSE, F.LSW_CH_STAT_FAULT, F.LSW_CH_STAT_STATE] ∧ OutsideKept s t)) ∧
  (∀ (s : State) (x0 : Acc) (x1 : Bool), Answers (.lswChannelEnable x0 x1) s (fun t => RegFrame s t [F.COM_STAT_FAULT, F.LSW_CH_CFG_EN, F.LSW_CH_FLAGS_CRANKBLK, F.LSW_CH_IMEAS_I, F.LSW_CH_STAT_CAUSE, F.LSW_CH_STAT_FAULT, F.LSW_CH_STAT_STATE] ∧ OutsideKept s t)) ∧
  (∀ (s : State) (x0 : Fin 2), Answers (.studBudgetStep x0) s (fun t => RegFrame s t [F.LSW_STUD_AVG, F.LSW_STUD_STUDOV] ∧ OutsideKept s t)) ∧
  (∀ (s : State) (x0 : Fin 2), Answers (.loadShed x0) s (fun t => RegFrame s t [F.COM_STAT_FAULT, F.LSW_CH_FLAGS_SHED, F.LSW_CH_IMEAS_I, F.LSW_CH_STAT_CAUSE, F.LSW_CH_STAT_FAULT, F.LSW_CH_STAT_STATE] ∧ OutsideKept s t)) ∧
  (∀ (s : State) (x0 : Fin 2), Answers (.studOverload x0) s (fun t => RegFrame s t [F.LSW_STUD_STUDOV] ∧ OutsideKept s t)) ∧
  (∀ (s : State) (x0 : Fin 2), Answers (.shedReturn x0) s (fun t => RegFrame s t [F.COM_STAT_FAULT, F.LSW_CH_FLAGS_CRANKBLK, F.LSW_CH_IMEAS_I, F.LSW_CH_STAT_CAUSE, F.LSW_CH_STAT_FAULT, F.LSW_CH_STAT_STATE] ∧ OutsideKept s t)) ∧
  (∀ (s : State) (x0 : Fin 48) (x1 : BitVec 16), Answers (.senseConversion x0 x1) s (fun t => RegFrame s t [F.LSW_CH_IMEAS_I, F.LSW_SENSE_VAL_I] ∧ OutsideKept s t)) ∧
  (∀ (s : State) (x0 : Fin 24) (x1 : BitVec 16), Answers (.shortCircuitTrip x0 x1) s (fun t => RegFrame s t [F.COM_STAT_FAULT, F.LSW_CH_FLAGS_SC, F.LSW_CH_IMEAS_I, F.LSW_CH_STAT_CAUSE, F.LSW_CH_STAT_FAULT, F.LSW_CH_STAT_STATE, F.LSW_CH_TRIPS_TRIPS] ∧ OutsideKept s t)) ∧
  (∀ (s : State) (x0 : Fin 24), Answers (.inrushEnd x0) s (fun t => RegFrame s t [F.COM_STAT_FAULT, F.LSW_CH_IMEAS_I, F.LSW_CH_STAT_CAUSE, F.LSW_CH_STAT_FAULT, F.LSW_CH_STAT_STATE] ∧ OutsideKept s t)) ∧
  (∀ (s : State) (x0 : Fin 24), Answers (.wireModelStep x0) s (fun t => RegFrame s t [F.COM_STAT_FAULT, F.LSW_CH_FLAGS_WIRE, F.LSW_CH_IMEAS_I, F.LSW_CH_STAT_CAUSE, F.LSW_CH_STAT_FAULT, F.LSW_CH_STAT_STATE, F.LSW_CH_TEMP_WRISE, F.LSW_CH_TRIPS_TRIPS] ∧ OutsideKept s t)) ∧
  (∀ (s : State) (x0 : Acc), Answers (.lswClearFault x0) s (fun t => RegFrame s t [F.COM_STAT_FAULT, F.LSW_CH_FLAGS_CRANKBLK, F.LSW_CH_FLAGS_OT, F.LSW_CH_FLAGS_OTABS, F.LSW_CH_FLAGS_RETRYX, F.LSW_CH_FLAGS_SC, F.LSW_CH_FLAGS_WIRE, F.LSW_CH_IMEAS_I, F.LSW_CH_STAT_CAUSE, F.LSW_CH_STAT_FAULT, F.LSW_CH_STAT_STATE] ∧ OutsideKept s t)) ∧
  (∀ (s : State) (x0 : Fin 24) (x1 : BitVec 16), Answers (.junctionRead x0 x1) s (fun t => RegFrame s t [F.COM_STAT_FAULT, F.LSW_CH_FLAGS_OT, F.LSW_CH_FLAGS_OTABS, F.LSW_CH_IMEAS_I, F.LSW_CH_STAT_CAUSE, F.LSW_CH_STAT_FAULT, F.LSW_CH_STAT_STATE, F.LSW_CH_TEMP_TJ, F.LSW_CH_TRIPS_TRIPS] ∧ OutsideKept s t)) ∧
  (∀ (s : State) (x0 : Fin 24), Answers (.autoRestart x0) s (fun t => RegFrame s t [F.COM_STAT_FAULT, F.LSW_CH_FLAGS_CRANKBLK, F.LSW_CH_FLAGS_RETRYX, F.LSW_CH_IMEAS_I, F.LSW_CH_STAT_CAUSE, F.LSW_CH_STAT_FAULT, F.LSW_CH_STAT_RTRN, F.LSW_CH_STAT_STATE, F.LSW_CH_TRIPS_RESTARTS] ∧ OutsideKept s t)) ∧
  (∀ (s : State), Answers .retryWindow s (fun t => RegFrame s t [F.LSW_CH_STAT_RTRN] ∧ OutsideKept s t)) ∧
  (∀ (s : State) (x0 : Fin 24) (x1 : BitVec 16), Answers (.openLoadCheck x0 x1) s (fun t => RegFrame s t [F.COM_STAT_FAULT, F.LSW_CH_FLAGS_OPEN, F.LSW_CH_FLAGS_STB, F.LSW_CH_IMEAS_OLV, F.LSW_CH_STAT_FAULT] ∧ OutsideKept s t)) ∧
  (∀ (s : State) (x0 : Fin 2) (x1 : BitVec 17), Answers (.crankHold x0 x1) s (fun t => RegFrame s t [F.COM_STAT_FAULT, F.LSW_STUD_VSTUD, F.LSW_SUPPLY_CRANKA, F.LSW_SUPPLY_CRANKB, F.PWR_SUPPLY_VSUP, F.SOL_BANK_STAT_BANK, F.SOL_CH_FLAGS_DEFER, F.SOL_CH_FLAGS_NOKINK, F.SOL_CH_FLAGS_OFFDEF, F.SOL_CH_FLAGS_OFFREJ, F.SOL_CH_FLAGS_UVDROP, F.SOL_CH_STAT_FAULT, F.SOL_CH_STAT_PHASE, F.SOL_EV_FLAGS_FLAGS, F.SOL_EV_SEQ_SEQ, F.SOL_EV_TIME_KINK, F.SOL_EV_TSTART_T, F.SOL_Q_STAT_COUNT, F.SOL_SUPPLY_CRANK, F.SOL_SUPPLY_VSUP] ∧ OutsideKept s t)) ∧
  (∀ (s : State) (x0 : Fin 2) (x1 : BitVec 17), Answers (.crankEnd x0 x1) s (fun t => RegFrame s t [F.COM_STAT_FAULT, F.LSW_CH_FLAGS_CRANKBLK, F.LSW_CH_IMEAS_I, F.LSW_CH_STAT_CAUSE, F.LSW_CH_STAT_FAULT, F.LSW_CH_STAT_STATE, F.LSW_STUD_VSTUD, F.LSW_SUPPLY_CRANKA, F.LSW_SUPPLY_CRANKB, F.PWR_SUPPLY_VSUP, F.SOL_BANK_STAT_BANK, F.SOL_CH_FLAGS_DEFER, F.SOL_CH_FLAGS_NOKINK, F.SOL_CH_FLAGS_OFFDEF, F.SOL_CH_FLAGS_OFFREJ, F.SOL_CH_FLAGS_UVDROP, F.SOL_CH_STAT_FAULT, F.SOL_CH_STAT_PHASE, F.SOL_EV_FLAGS_FLAGS, F.SOL_EV_SEQ_SEQ, F.SOL_EV_TIME_KINK, F.SOL_EV_TSTART_T, F.SOL_Q_STAT_COUNT, F.SOL_SUPPLY_CRANK, F.SOL_SUPPLY_VSUP] ∧ OutsideKept s t)) ∧
  (∀ (s : State) (x0 : Fin 2) (x1 : BitVec 17), Answers (.brownOut x0 x1) s (fun t => RegFrame s t [F.COM_STAT_FAULT, F.LSW_CH_FLAGS_BROWN, F.LSW_CH_FLAGS_CRANKBLK, F.LSW_CH_IMEAS_I, F.LSW_CH_STAT_CAUSE, F.LSW_CH_STAT_FAULT, F.LSW_CH_STAT_STATE, F.LSW_STUD_VSTUD, F.LSW_SUPPLY_BROWNA, F.LSW_SUPPLY_BROWNB, F.PWR_SUPPLY_VSUP, F.SOL_BANK_STAT_BANK, F.SOL_CH_FLAGS_DEFER, F.SOL_CH_FLAGS_NOKINK, F.SOL_CH_FLAGS_OFFDEF, F.SOL_CH_FLAGS_OFFREJ, F.SOL_CH_FLAGS_UVDROP, F.SOL_CH_STAT_FAULT, F.SOL_CH_STAT_PHASE, F.SOL_EV_FLAGS_FLAGS, F.SOL_EV_SEQ_SEQ, F.SOL_EV_TIME_KINK, F.SOL_EV_TSTART_T, F.SOL_Q_STAT_COUNT, F.SOL_SUPPLY_CRANK, F.SOL_SUPPLY_VSUP] ∧ OutsideKept s t)) ∧
  (∀ (s : State) (x0 : Fin 2) (x1 : BitVec 17), Answers (.brownOutEnd x0 x1) s (fun t => RegFrame s t [F.COM_STAT_FAULT, F.LSW_CH_FLAGS_CRANKBLK, F.LSW_CH_IMEAS_I, F.LSW_CH_STAT_CAUSE, F.LSW_CH_STAT_FAULT, F.LSW_CH_STAT_STATE, F.LSW_STUD_VSTUD, F.LSW_SUPPLY_BROWNA, F.LSW_SUPPLY_BROWNB, F.PWR_SUPPLY_VSUP, F.SOL_BANK_STAT_BANK, F.SOL_CH_FLAGS_DEFER, F.SOL_CH_FLAGS_NOKINK, F.SOL_CH_FLAGS_OFFDEF, F.SOL_CH_FLAGS_OFFREJ, F.SOL_CH_FLAGS_UVDROP, F.SOL_CH_STAT_FAULT, F.SOL_CH_STAT_PHASE, F.SOL_EV_FLAGS_FLAGS, F.SOL_EV_SEQ_SEQ, F.SOL_EV_TIME_KINK, F.SOL_EV_TSTART_T, F.SOL_Q_STAT_COUNT, F.SOL_SUPPLY_CRANK, F.SOL_SUPPLY_VSUP] ∧ OutsideKept s t)) ∧
  (∀ (s : State), Answers .moduleUndervoltage s (fun t => RegFrame s t [F.COM_STAT_FAULT, F.LSW_CH_FLAGS_CRANKBLK, F.LSW_CH_FLAGS_UV, F.LSW_CH_IMEAS_I, F.LSW_CH_STAT_CAUSE, F.LSW_CH_STAT_FAULT, F.LSW_CH_STAT_STATE, F.LSW_SUPPLY_UV, F.PWR_SUPPLY_UV, F.SOL_BANK_STAT_BANK, F.SOL_CH_FLAGS_UVDROP, F.SOL_CH_STAT_FAULT, F.SOL_CH_STAT_PHASE, F.SOL_EV_FLAGS_FLAGS, F.SOL_EV_SEQ_SEQ, F.SOL_Q_STAT_COUNT, F.SOL_SUPPLY_UV] ∧ OutsideKept s t)) ∧
  (∀ (s : State), Answers .undervoltageEnd s (fun t => RegFrame s t [F.COM_STAT_FAULT, F.LSW_CH_FLAGS_CRANKBLK, F.LSW_CH_IMEAS_I, F.LSW_CH_STAT_CAUSE, F.LSW_CH_STAT_FAULT, F.LSW_CH_STAT_STATE, F.LSW_SUPPLY_UV, F.PWR_SUPPLY_UV, F.SOL_BANK_STAT_BANK, F.SOL_CH_FLAGS_DEFER, F.SOL_CH_FLAGS_NOKINK, F.SOL_CH_FLAGS_OFFDEF, F.SOL_CH_FLAGS_OFFREJ, F.SOL_CH_FLAGS_UVDROP, F.SOL_CH_STAT_FAULT, F.SOL_CH_STAT_PHASE, F.SOL_EV_FLAGS_FLAGS, F.SOL_EV_SEQ_SEQ, F.SOL_EV_TIME_KINK, F.SOL_EV_TSTART_T, F.SOL_Q_STAT_COUNT, F.SOL_SUPPLY_UV] ∧ OutsideKept s t)) ∧
  (∀ (s : State) (x0 : Fin 24), Answers (.staggeredTurnOn x0) s (fun t => RegFrame s t [F.COM_STAT_FAULT, F.LSW_CH_FLAGS_CRANKBLK, F.LSW_CH_IMEAS_I, F.LSW_CH_STAT_CAUSE, F.LSW_CH_STAT_FAULT, F.LSW_CH_STAT_STATE] ∧ OutsideKept s t)) ∧
  (∀ (s : State) (x0 : Fin 2), Answers (.pscLinkLoss x0) s (fun t => RegFrame s t [F.COM_STAT_FAULT, F.LSW_PSC_LINK0, F.LSW_PSC_LINK1, F.SOL_CH_STAT_FAULT] ∧ OutsideKept s t)) ∧
  (∀ (s : State) (x0 : Fin 2), Answers (.pscLinkHoldEnd x0) s (fun t => RegFrame s t [F.COM_STAT_FAULT, F.FBRK_GRP_CNT_CUTS, F.FBRK_GRP_STAT_CUTA, F.FBRK_GRP_STAT_CUTB, F.FBRK_GRP_STAT_RBOK, F.FBRK_GRP_STAT_STATE, F.FBRK_LATCH_GROUPS, F.FBRK_LATCH_LCAUSE, F.FBRK_REACT_LASTR, F.FBRK_REACT_MAXR, F.FBRK_RSTSTAT_WINDOW, F.LSW_CH_FLAGS_CRANKBLK, F.LSW_CH_FLAGS_LINK, F.LSW_CH_IMEAS_I, F.LSW_CH_STAT_CAUSE, F.LSW_CH_STAT_FAULT, F.LSW_CH_STAT_STATE, F.LSW_PSC_OFF0, F.LSW_PSC_OFF1, F.SEG_LN_STAT_ST, F.SEG_STATE_PEND, F.SEG_STATE_ST, F.SOL_BANK_STAT_BANK, F.SOL_CH_FLAGS_UVDROP, F.SOL_CH_STAT_FAULT, F.SOL_CH_STAT_PHASE, F.SOL_EV_FLAGS_FLAGS, F.SOL_EV_SEQ_SEQ, F.SOL_Q_STAT_COUNT] ∧ OutsideKept s t)) ∧
  (∀ (s : State) (x0 : Fin 2), Answers (.pscLinkRelock x0) s (fun t => RegFrame s t [F.COM_STAT_FAULT, F.LSW_CH_FLAGS_CRANKBLK, F.LSW_CH_IMEAS_I, F.LSW_CH_STAT_CAUSE, F.LSW_CH_STAT_FAULT, F.LSW_CH_STAT_STATE, F.LSW_PSC_LINK0, F.LSW_PSC_LINK1, F.SOL_BANK_STAT_BANK, F.SOL_CH_FLAGS_DEFER, F.SOL_CH_FLAGS_NOKINK, F.SOL_CH_FLAGS_OFFDEF, F.SOL_CH_FLAGS_OFFREJ, F.SOL_CH_FLAGS_UVDROP, F.SOL_CH_STAT_FAULT, F.SOL_CH_STAT_PHASE, F.SOL_EV_FLAGS_FLAGS, F.SOL_EV_SEQ_SEQ, F.SOL_EV_TIME_KINK, F.SOL_EV_TSTART_T, F.SOL_Q_STAT_COUNT] ∧ OutsideKept s t)) ∧
  (∀ (s : State) (x0 : Acc) (x1 : Fin 2), Answers (.pscAck x0 x1) s (fun t => RegFrame s t [F.COM_STAT_FAULT, F.LSW_CH_FLAGS_CRANKBLK, F.LSW_CH_IMEAS_I, F.LSW_CH_STAT_CAUSE, F.LSW_CH_STAT_FAULT, F.LSW_CH_STAT_STATE, F.LSW_PSC_OFF0, F.LSW_PSC_OFF1, F.SOL_BANK_STAT_BANK, F.SOL_CH_FLAGS_DEFER, F.SOL_CH_FLAGS_NOKINK, F.SOL_CH_FLAGS_OFFDEF, F.SOL_CH_FLAGS_OFFREJ, F.SOL_CH_FLAGS_UVDROP, F.SOL_CH_STAT_FAULT, F.SOL_CH_STAT_PHASE, F.SOL_EV_FLAGS_FLAGS, F.SOL_EV_SEQ_SEQ, F.SOL_EV_TIME_KINK, F.SOL_EV_TSTART_T, F.SOL_Q_STAT_COUNT] ∧ OutsideKept s t)) ∧
  (∀ (s : State) (x0 : Fin 2) (x1 : BitVec 8), Answers (.boostRailReady x0 x1) s (fun t => RegFrame s t [F.COM_STAT_FAULT, F.SOL_BANK_STAT_BANK, F.SOL_BST_STAT_VNOW, F.SOL_CH_FLAGS_DEFER, F.SOL_CH_FLAGS_UVDROP, F.SOL_CH_STAT_FAULT, F.SOL_CH_STAT_PHASE, F.SOL_EV_TSTART_T, F.SOL_Q_STAT_COUNT] ∧ OutsideKept s t))

/-- What the commands of FBRK, BUS, FLT, ETH, RIDE and DMA leave unchanged (R14, R384, R422, R444, R488). -/
def Obligations.FirebreakBusAndLinkFrames : Prop :=
  (∀ (s : State) (x0 : Fin 10), Answers (.gptpAnnounce x0) s (fun t => RegFrame s t [F.ETH_PORT_CNT_TXF] ∧ OutsideKept s t)) ∧
  (∀ (s : State) (x0 : Fin 10), Answers (.gptpSync x0) s (fun t => RegFrame s t [F.ETH_PORT_CNT_TXF, F.GPTP_SYNCS_V] ∧ OutsideKept s t)) ∧
  (∀ (s : State) (x0 : Fin 10) (x1 : Bool) (x2 : BitVec 32) (x3 : BitVec 32), Answers (.gptpPdelayReq x0 x1 x2 x3) s (fun t => RegFrame s t [F.ETH_PORT_CNT_TXF, F.GPTP_ASCAP_ASCAP, F.GPTP_MEANDLY_V, F.GPTP_RATIO_V] ∧ OutsideKept s t)) ∧
  (∀ (s : State) (x0 : Fin 10), Answers (.gptpForeign x0) s (fun t => RegFrame s t [F.ETH_PORT_CNT_RXF, F.GPTP_FOREIGN_V] ∧ OutsideKept s t)) ∧
  (∀ (s : State) (x0 : Fin 8), Answers (.canTimeReference x0) s (fun t => RegFrame s t [F.BUF_CTRL_ATT, F.BUF_CTRL_RESULT, F.BUF_CTRL_TXREQ, F.BUS_CH_EVT_EVT, F.BUS_MEM_WORD, F.WHL_LP_CAN_CANFAIL] ∧ OutsideKept s t)) ∧
  (∀ (s : State) (x0 : Fin 16), Answers (.trigMessageSend x0) s (fun t => RegFrame s t [F.ETH_PORT_CNT_TXF, F.ETH_TRGSTAT_DROP, F.TRG_SEQ_SEQ] ∧ OutsideKept s t)) ∧
  (∀ (s : State) (x0 : AvtpIn), Answers (.avtpPacket x0) s (fun t => RegFrame s t [F.CNPY_EXCL_MASK, F.CNPY_HP_STAT_ST, F.CNPY_SEN_BANK_ACT, F.CNPY_SEN_BANK_PEND, F.CNPY_SEN_CNT_BADOFF, F.CNPY_SEN_CNT_LATE, F.CNPY_SEN_OFFS_OFFS, F.CNPY_SEN_STAT_CAUSE, F.CNPY_SEN_STAT_INSTEP, F.CNPY_SEN_STAT_OUTCNT, F.CNPY_SEN_STAT_STATE, F.COM_STAT_FAULT, F.DMA_CH_CFG_OWNER, F.DMA_CH_DONE_DONE, F.DMA_CH_DSTN_DST_NEXT, F.DMA_CH_FADDR_FADDR, F.DMA_CH_FREC_CAUSE, F.DMA_CH_FREC_KIND, F.DMA_CH_FREC_MULTI, F.DMA_CH_FREC_WR, F.DMA_CH_FSEQ_FSEQ, F.DMA_CH_FTIME_FTIME, F.DMA_CH_HOLDN_HOLDN, F.DMA_CH_HOLD_W, F.DMA_CH_ROW_ROW, F.DMA_CH_SRCN_SRC_NEXT, F.DMA_CH_STAT_PREEMPTED, F.DMA_CH_STAT_STATE, F.ETH_PORT_CNT_RXF, F.ETH_PORT_CNT_TXF, F.ETH_PORT_DROP_FULL, F.ETH_PORT_DROP_QCI, F.FDB_AGE_AGE, F.FDB_ENT_MAC, F.FDB_ENT_STATIC, F.FDB_ENT_VALID, F.FDB_ENT_VID, F.FDB_PORTS_PORTS, F.JOB_STAT_SKIP, F.JOB_STAT_STATE, F.MTR_DROP_V, F.MTR_PASS_V, F.STR_CNT_FRAMES] ∧ OutsideKept s t)) ∧
  (∀ (s : State) (x0 : AvtpIn), Answers (.avtpFrameEnd x0) s (fun t => RegFrame s t [F.CNPY_EXCL_MASK, F.CNPY_HP_STAT_ST, F.CNPY_SEN_BANK_ACT, F.CNPY_SEN_BANK_PEND, F.CNPY_SEN_CNT_BADOFF, F.CNPY_SEN_CNT_LATE, F.CNPY_SEN_OFFS_OFFS, F.CNPY_SEN_STAT_CAUSE, F.CNPY_SEN_STAT_INSTEP, F.CNPY_SEN_STAT_OUTCNT, F.CNPY_SEN_STAT_STATE, F.COM_STAT_FAULT, F.DMA_CH_CFG_OWNER, F.DMA_CH_DONE_DONE, F.DMA_CH_DSTN_DST_NEXT, F.DMA_CH_FADDR_FADDR, F.DMA_CH_FREC_CAUSE, F.DMA_CH_FREC_KIND, F.DMA_CH_FREC_MULTI, F.DMA_CH_FREC_WR, F.DMA_CH_FSEQ_FSEQ, F.DMA_CH_FTIME_FTIME, F.DMA_CH_HOLDN_HOLDN, F.DMA_CH_HOLD_W, F.DMA_CH_ROW_ROW, F.DMA_CH_SRCN_SRC_NEXT, F.DMA_CH_STAT_PREEMPTED, F.DMA_CH_STAT_STATE, F.ETH_PORT_CNT_RXF, F.ETH_PORT_CNT_TXF, F.ETH_PORT_DROP_FULL, F.ETH_PORT_DROP_QCI, F.FDB_AGE_AGE, F.FDB_ENT_MAC, F.FDB_ENT_STATIC, F.FDB_ENT_VALID, F.FDB_ENT_VID, F.FDB_PORTS_PORTS, F.JOB_STAT_SKIP, F.JOB_STAT_STATE, F.MTR_DROP_V, F.MTR_PASS_V, F.STR_CNT_DROPF, F.STR_CNT_FRAMES] ∧ OutsideKept s t)) ∧
  (∀ (s : State) (x0 : Fin 16) (x1 : Bool), Answers (.testPulse x0 x1) s (fun t => RegFrame s t [] ∧ OutsideKept s t)) ∧
  (∀ (s : State) (x0 : List SafeIn), Answers (.safeInputSample x0) s (fun t => RegFrame s t [F.FBRK_LATCH_GROUPS, F.FBRK_PR_CNT_FAULTS, F.FBRK_PR_CNT_OPENS, F.FBRK_PR_STAT_FCODE, F.FBRK_PR_STAT_INA, F.FBRK_PR_STAT_INB, F.FBRK_PR_STAT_STATE, F.FBRK_PR_STAT_TESTDONE, F.FBRK_RSTSTAT_WINDOW, F.FBRK_TEST_PEND] ∧ OutsideKept s t)) ∧
  (∀ (s : State) (x0 : Fin 16), Answers (.testSourceFault x0) s (fun t => RegFrame s t [F.FBRK_LATCH_GROUPS, F.FBRK_PR_CNT_FAULTS, F.FBRK_PR_STAT_FCODE, F.FBRK_PR_STAT_STATE, F.FBRK_RSTSTAT_WINDOW] ∧ OutsideKept s t)) ∧
  (∀ (s : State) (x0 : Fin 16), Answers (.discrepancyTimeout x0) s (fun t => RegFrame s t [F.FBRK_LATCH_GROUPS, F.FBRK_PR_CNT_FAULTS, F.FBRK_PR_STAT_FCODE, F.FBRK_PR_STAT_STATE, F.FBRK_RSTSTAT_WINDOW] ∧ OutsideKept s t)) ∧
  (∀ (s : State) (x0 : LaneIn) (x1 : BitVec 8), Answers (.fbrkCycle x0 x1) s (fun t => RegFrame s t [F.CLR_HDR_GEN, F.CLR_HDR_LIVE, F.CLR_HDR_SEQ, F.CLR_HDR_STALE, F.CLR_HDR_WDRN, F.CLR_SLOT_STAT_AGE, F.CLR_VIOL_KIND, F.CLR_VIOL_PLANE, F.CLR_VIOL_SLOT, F.CLR_VIOL_VALID, F.COM_STAT_FAULT, F.FBRK_GRP_CNT_CUTS, F.FBRK_GRP_STAT_CUTA, F.FBRK_GRP_STAT_CUTB, F.FBRK_GRP_STAT_RBOK, F.FBRK_GRP_STAT_STATE, F.FBRK_LATCH_GROUPS, F.FBRK_LATCH_LCAUSE, F.FBRK_PR_CNT_FAULTS, F.FBRK_PR_CNT_OPENS, F.FBRK_PR_STAT_FCODE, F.FBRK_PR_STAT_STATE, F.FBRK_PR_STAT_TESTDONE, F.FBRK_REACT_LASTR, F.FBRK_REACT_MAXR, F.FBRK_RSTSTAT_WINDOW, F.FBRK_TEST_PEND, F.LSW_CH_FLAGS_CRANKBLK, F.LSW_CH_FLAGS_FBCUT, F.LSW_CH_IMEAS_I, F.LSW_CH_STAT_CAUSE, F.LSW_CH_STAT_FAULT, F.LSW_CH_STAT_STATE, F.SOL_BANK_STAT_BANK, F.SOL_CH_FLAGS_DEFER, F.SOL_CH_FLAGS_FBCUT, F.SOL_CH_FLAGS_NOKINK, F.SOL_CH_FLAGS_OFFDEF, F.SOL_CH_FLAGS_OFFREJ, F.SOL_CH_FLAGS_UVDROP, F.SOL_CH_STAT_FAULT, F.SOL_CH_STAT_PHASE, F.SOL_EV_FLAGS_FLAGS, F.SOL_EV_SEQ_SEQ, F.SOL_EV_TIME_KINK, F.SOL_EV_TSTART_T, F.SOL_Q_STAT_COUNT] ∧ OutsideKept s t)) ∧
  (∀ (s : State) (x0 : Acc) (x1 : BitVec 8), Answers (.groupRestart x0 x1) s (fun t => RegFrame s t [] ∧ OutsideKept s t)) ∧
  (∀ (s : State) (x0 : Acc) (x1 : Bool), Answers (.fbrkEnable x0 x1) s (fun t => RegFrame s t [F.COM_CTRL_EN, F.FBRK_PR_STAT_TESTDONE, F.FBRK_TEST_PEND] ∧ OutsideKept s t)) ∧
  (∀ (s : State), Answers .readbackFault s (fun t => RegFrame s t [F.COM_STAT_FAULT, F.FBRK_GRP_CNT_CUTS, F.FBRK_GRP_STAT_CUTA, F.FBRK_GRP_STAT_CUTB, F.FBRK_GRP_STAT_RBOK, F.FBRK_GRP_STAT_STATE, F.FBRK_LATCH_GROUPS, F.FBRK_LATCH_LCAUSE, F.FBRK_REACT_LASTR, F.FBRK_REACT_MAXR, F.FBRK_RSTSTAT_WINDOW] ∧ OutsideKept s t)) ∧
  (∀ (s : State) (x0 : Fin 11), Answers (.resetButtonPulse x0) s (fun t => RegFrame s t [F.FBRK_RSTSTAT_PULSE, F.FBRK_RSTSTAT_WINDOW] ∧ OutsideKept s t)) ∧
  (∀ (s : State), Answers .resetWindowTimeout s (fun t => RegFrame s t [F.FBRK_RSTSTAT_WINDOW] ∧ OutsideKept s t)) ∧
  (∀ (s : State), Answers .resetButtonStuck s (fun t => RegFrame s t [F.FBRK_RSTSTAT_STUCK] ∧ OutsideKept s t)) ∧
  (∀ (s : State) (x0 : Acc) (x1 : BitVec 16) (x2 : BitVec 16) (x3 : Bool), Answers (.faultResetKey x0 x1 x2 x3) s (fun t => RegFrame s t [F.COM_STAT_FAULT, F.FBRK_GRP_CNT_CUTS, F.FBRK_GRP_STAT_CUTA, F.FBRK_GRP_STAT_CUTB, F.FBRK_GRP_STAT_RBOK, F.FBRK_GRP_STAT_STATE, F.FBRK_LATCH_GROUPS, F.FBRK_PR_CNT_FAULTS, F.FBRK_PR_CNT_OPENS, F.FBRK_PR_STAT_FCODE, F.FBRK_PR_STAT_STATE, F.FBRK_PR_STAT_TESTDONE, F.FBRK_REACT_LASTR, F.FBRK_REACT_MAXR, F.FBRK_RSTSTAT_REFUSED, F.FBRK_RSTSTAT_WINDOW, F.FBRK_TEST_PEND] ∧ OutsideKept s t)) ∧
  (∀ (s : State) (x0 : Acc), Answers (.reactClear x0) s (fun t => RegFrame s t [F.FBRK_REACT_MAXR] ∧ OutsideKept s t)) ∧
  (∀ (s : State) (x0 : Fin 8) (x1 : CanIn) (x2 : BitVec 32), Answers (.canFrameReceived x0 x1 x2) s (fun t => RegFrame s t [F.BUS_CH_CNT_PEXCNT, F.BUS_CH_EVT_EVT, F.BUS_CH_STAT_HOLDOVR, F.BUS_CH_STAT_REC, F.BUS_CH_STAT_STATE, F.BUS_CH_STAT_TEC, F.BUS_PT_CHG_CHG, F.COM_STAT_FAULT] ∧ OutsideKept s t)) ∧
  (∀ (s : State), Answers .canFrameStored s (fun t => RegFrame s t [F.BUF_AF_AF, F.BUF_CTRL_MSGLOST, F.BUF_CTRL_NDAT, F.BUF_FILT_FIDX, F.BUF_FILT_RXCNT, F.BUF_FMT_BRS, F.BUF_FMT_DLC, F.BUF_FMT_ESI, F.BUF_FMT_RTR, F.BUF_FMT_SDT, F.BUF_FMT_SEC, F.BUF_FMT_VCID, F.BUF_ID_FDF, F.BUF_ID_ID, F.BUF_ID_IDE, F.BUF_ID_XLF, F.BUF_SOF_SOF, F.BUS_CH_EVT_EVT, F.BUS_CH_FIFO_IDX_LOST, F.BUS_CH_FIFO_IDX_WR, F.BUS_CH_NDAT_NDAT, F.BUS_MEM_WORD, F.FLT_CNT_HIT, F.FLT_CNT_NOHIT] ∧ OutsideKept s t)) ∧
  (∀ (s : State) (x0 : Acc) (x1 : Fin 256), Answers (.transmitRequest x0 x1) s (fun t => RegFrame s t [F.BUF_CTRL_ATT, F.BUF_CTRL_RESULT, F.BUF_CTRL_TXREQ, F.BUS_CH_EVT_EVT, F.WHL_LP_CAN_CANFAIL] ∧ OutsideKept s t)) ∧
  (∀ (s : State) (x0 : Fin 8) (x1 : Fin 260) (x2 : Fin 5) (x3 : BitVec 32), Answers (.transmitEnd x0 x1 x2 x3) s (fun t => RegFrame s t [F.BUF_CTRL_ATT, F.BUF_CTRL_RESULT, F.BUF_CTRL_TXREQ, F.BUF_SOF_SOF, F.BUS_CH_EVT_EVT, F.BUS_CH_STAT_HOLDOVR, F.BUS_CH_STAT_REC, F.BUS_CH_STAT_STATE, F.BUS_CH_STAT_TEC, F.BUS_CH_TDC_TDCV, F.BUS_PT_CHG_CHG, F.COM_STAT_FAULT, F.WHL_LP_CAN_CANFAIL] ∧ OutsideKept s t)) ∧
  (∀ (s : State) (x0 : Acc) (x1 : Fin 256) (x2 : Bool), Answers (.transmitAbort x0 x1 x2) s (fun t => RegFrame s t [F.BUF_CTRL_RESULT, F.BUF_CTRL_TXREQ] ∧ OutsideKept s t)) ∧
  (∀ (s : State) (x0 : Fin 8), Answers (.busOff x0) s (fun t => RegFrame s t [F.BUF_CTRL_RESULT, F.BUF_CTRL_TXREQ, F.BUS_CH_CNT_BOCNT, F.BUS_CH_EVT_EVT, F.BUS_CH_STAT_STATE, F.COM_STAT_FAULT, F.WHL_LP_CAN_CANFAIL] ∧ OutsideKept s t)) ∧
  (∀ (s : State) (x0 : Fin 8), Answers (.busOffRecovery x0) s (fun t => RegFrame s t [F.BUS_CH_EVT_EVT, F.BUS_CH_STAT_REC, F.BUS_CH_STAT_STATE, F.BUS_CH_STAT_TEC, F.COM_STAT_FAULT] ∧ OutsideKept s t)) ∧
  (∀ (s : State) (x0 : Acc) (x1 : Fin 8) (x2 : BitVec 32), Answers (.ndatClear x0 x1 x2) s (fun t => RegFrame s t [F.BUF_CTRL_NDAT, F.BUS_CH_NDAT_NDAT] ∧ OutsideKept s t)) ∧
  (∀ (s : State) (x0 : Fin 8), Answers (.firebreakMessage x0) s (fun t => RegFrame s t [F.BUF_CTRL_ATT, F.BUF_CTRL_RESULT, F.BUF_CTRL_TXREQ, F.BUS_CH_EVT_EVT, F.BUS_MEM_WORD, F.WHL_LP_CAN_CANFAIL] ∧ OutsideKept s t)) ∧
  (∀ (s : State) (x0 : Acc) (x1 : Fin 4), Answers (.addressClaim x0 x1) s (fun t => RegFrame s t [F.BUS_ISO_STAT_ADDR, F.BUS_ISO_STAT_STATE] ∧ OutsideKept s t)) ∧
  (∀ (s : State) (x0 : Fin 4), Answers (.claimSettled x0) s (fun t => RegFrame s t [F.BUS_ISO_STAT_STATE, F.BUS_PT_CHG_CHG] ∧ OutsideKept s t)) ∧
  (∀ (s : State) (x0 : Fin 4) (x1 : Unit), Answers (.claimContention x0 x1) s (fun t => RegFrame s t [F.BUS_ISO_STAT_ADDR, F.BUS_ISO_STAT_STATE] ∧ OutsideKept s t)) ∧
  (∀ (s : State) (x0 : Fin 4), Answers (.cannotClaim x0) s (fun t => RegFrame s t [F.BUS_ISO_STAT_STATE] ∧ OutsideKept s t)) ∧
  (∀ (s : State) (x0 : Fin 4), Answers (.claimRequest x0) s (fun t => RegFrame s t [] ∧ OutsideKept s t)) ∧
  (∀ (s : State) (x0 : Fin 254), Answers (.partnerTimeout x0) s (fun t => RegFrame s t [F.BUS_PT_CHG_CHG] ∧ OutsideKept s t)) ∧
  (∀ (s : State) (x0 : Acc) (x1 : CanEn), Answers (.canChannelEnable x0 x1) s (fun t => RegFrame s t [F.BUF_CTRL_RESULT, F.BUF_CTRL_TXREQ, F.BUS_CH_CFG_EN, F.BUS_CH_EVT_EVT, F.BUS_CH_STAT_REC, F.BUS_CH_STAT_STATE, F.BUS_CH_STAT_TEC, F.COM_STAT_FAULT] ∧ OutsideKept s t)) ∧
  (∀ (s : State) (x0 : EthIn) (x1 : BitVec 20), Answers (.ethFrameForward x0 x1) s (fun t => RegFrame s t [F.ETH_PORT_CNT_RXF, F.ETH_PORT_CNT_TXF, F.ETH_PORT_DROP_FULL, F.ETH_PORT_DROP_QCI, F.FDB_AGE_AGE, F.FDB_ENT_MAC, F.FDB_ENT_STATIC, F.FDB_ENT_VALID, F.FDB_ENT_VID, F.FDB_PORTS_PORTS, F.MTR_DROP_V, F.MTR_PASS_V] ∧ OutsideKept s t)) ∧
  (∀ (s : State), Answers .fdbAgeing s (fun t => RegFrame s t [F.FDB_AGE_AGE, F.FDB_ENT_VALID] ∧ OutsideKept s t)) ∧
  (∀ (s : State) (x0 : Fin 10), Answers (.gateListEntry x0) s (fun t => RegFrame s t [F.ETH_PORT_CNT_TXF] ∧ OutsideKept s t)) ∧
  (∀ (s : State) (x0 : Fin 8) (x1 : Unit) (x2 : Unit) (x3 : Unit), Answers (.hostReceive x0 x1 x2 x3) s (fun t => RegFrame s t [F.COM_STAT_FAULT, F.ETH_PORT_CNT_TXF, F.ETH_PORT_DROP_FULL, F.HQ_RXWR_IDX, F.IOMU_FQCSR_FQMF, F.IOMU_FQCSR_FQOF, F.IOMU_FQT_V, F.IOMU_IPSR_V] ∧ t.log = s.log ∧ t.otp = s.otp)) ∧
  (∀ (s : State) (x0 : Fin 8), Answers (.hostTransmit x0) s (fun t => RegFrame s t [F.COM_STAT_FAULT, F.ETH_PORT_CNT_RXF, F.ETH_PORT_CNT_TXF, F.ETH_PORT_DROP_FULL, F.ETH_PORT_DROP_QCI, F.FDB_AGE_AGE, F.FDB_ENT_MAC, F.FDB_ENT_STATIC, F.FDB_ENT_VALID, F.FDB_ENT_VID, F.FDB_PORTS_PORTS, F.HQ_TXRD_IDX, F.IOMU_FQCSR_FQMF, F.IOMU_FQCSR_FQOF, F.IOMU_FQT_V, F.IOMU_IPSR_V, F.MTR_DROP_V, F.MTR_PASS_V] ∧ t.log = s.log ∧ t.otp = s.otp)) ∧
  (∀ (s : State) (x0 : Acc) (x1 : Bool), Answers (.ethPortEnable x0 x1) s (fun t => RegFrame s t [F.ETH_PORT_CFG_EN, F.ETH_PORT_STAT_LINK] ∧ OutsideKept s t)) ∧
  (∀ (s : State) (x0 : Fin 10) (x1 : Bool) (x2 : BitVec 3), Answers (.ethLinkChange x0 x1 x2) s (fun t => RegFrame s t [F.ETH_PORT_STAT_LINK, F.ETH_PORT_STAT_SQI] ∧ OutsideKept s t)) ∧
  (∀ (s : State), Answers .rideCycleStart s (fun t => RegFrame s t [F.CLR_HDR_GEN, F.CLR_HDR_LIVE, F.CLR_HDR_SEQ, F.CLR_HDR_STALE, F.CLR_HDR_WDRN, F.CLR_SLOT_STAT_AGE, F.CLR_VIOL_KIND, F.CLR_VIOL_PLANE, F.CLR_VIOL_SLOT, F.CLR_VIOL_VALID, F.COM_STAT_FAULT, F.NT_ID_STATE, F.NT_LAST_T, F.NT_PATH_HOP, F.NT_PATH_HPORT, F.NT_PATH_UPNODE, F.NT_PATH_UPPORT, F.NT_SEQ_SEQ, F.RIDE_CYCNT_CNT, F.RIDE_ND_MISS_CONS, F.RIDE_ND_MISS_TOTAL, F.RIDE_ND_STAT_CAUSE, F.RIDE_ND_STAT_HOP, F.RIDE_ND_STAT_HPORT, F.RIDE_ND_STAT_STALE, F.RIDE_ND_STAT_STATE, F.RIDE_RTT_CALC, F.RIDE_TOPO_HMAX, F.RIDE_TOPO_KIND, F.RIDE_TOPO_NNODE, F.RIDE_TOPO_RINGBRK, F.UPD_XFER_OP, F.UPD_XFER_ST] ∧ OutsideKept s t)) ∧
  (∀ (s : State) (x0 : Fin 32) (x1 : BitVec 64) (x2 : List Byte) (x3 : BitVec 32) (x4 : BitVec 64) (x5 : Unit), Answers (.rideUpReceived x0 x1 x2 x3 x4 x5) s (fun t => RegFrame s t [F.COM_STAT_FAULT, F.RIDE_ND_ASTAMP_T, F.RIDE_ND_FB_FB, F.RIDE_ND_IN_W, F.RIDE_ND_ISEQ_SEQ, F.RIDE_ND_ISTAMP_T, F.RIDE_ND_MISS_CONS, F.RIDE_ND_STAT_STALE, F.RIDE_RTT_LAST] ∧ OutsideKept s t)) ∧
  (∀ (s : State) (x0 : Acc), Answers (.rideOutputCommit x0) s (fun t => RegFrame s t [] ∧ OutsideKept s t)) ∧
  (∀ (s : State), Answers .rideTimeExchange s (fun t => RegFrame s t [] ∧ OutsideKept s t)) ∧
  (∀ (s : State) (x0 : Option (Fin 32)) (x1 : Fin 4), Answers (.rideLinkUp x0 x1) s (fun t => RegFrame s t [] ∧ OutsideKept s t)) ∧
  (∀ (s : State) (x0 : HelloIn), Answers (.rideHello x0) s (fun t => RegFrame s t [F.CLR_HDR_GEN, F.CLR_HDR_LIVE, F.CLR_HDR_SEQ, F.CLR_HDR_STALE, F.CLR_HDR_WDRN, F.CLR_SLOT_STAT_AGE, F.CLR_VIOL_KIND, F.CLR_VIOL_PLANE, F.CLR_VIOL_SLOT, F.CLR_VIOL_VALID, F.COM_STAT_FAULT, F.NT_ATT_ATTCNT, F.NT_FIRST_T, F.NT_ID_MEMBER, F.NT_ID_STATE, F.NT_ID_STEP, F.NT_LAST_T, F.NT_LEN_INLEN, F.NT_LEN_OUTLEN, F.NT_PATH_HOP, F.NT_PATH_HPORT, F.NT_PATH_UPNODE, F.NT_PATH_UPPORT, F.NT_SEQ_SEQ, F.NT_SERIAL_SERIAL, F.RIDE_ND_MISS_CONS, F.RIDE_ND_STAT_CAUSE, F.RIDE_ND_STAT_HOP, F.RIDE_ND_STAT_HPORT, F.RIDE_ND_STAT_STATE, F.RIDE_RTT_CALC, F.RIDE_TOPO_HMAX, F.RIDE_TOPO_KIND, F.RIDE_TOPO_NNODE, F.RIDE_TOPO_RINGBRK, F.UPD_XFER_OP, F.UPD_XFER_ST] ∧ OutsideKept s t)) ∧
  (∀ (s : State) (x0 : Option (Fin 32)) (x1 : Fin 4), Answers (.rideLinkDown x0 x1) s (fun t => RegFrame s t [F.CLR_HDR_GEN, F.CLR_HDR_LIVE, F.CLR_HDR_SEQ, F.CLR_HDR_STALE, F.CLR_HDR_WDRN, F.CLR_SLOT_STAT_AGE, F.CLR_VIOL_KIND, F.CLR_VIOL_PLANE, F.CLR_VIOL_SLOT, F.CLR_VIOL_VALID, F.COM_STAT_FAULT, F.NT_ID_STATE, F.NT_LAST_T, F.NT_PATH_HOP, F.NT_PATH_HPORT, F.NT_PATH_UPNODE, F.NT_PATH_UPPORT, F.NT_SEQ_SEQ, F.RIDE_ND_STAT_CAUSE, F.RIDE_ND_STAT_HOP, F.RIDE_ND_STAT_HPORT, F.RIDE_ND_STAT_STATE, F.RIDE_RTT_CALC, F.RIDE_TOPO_HMAX, F.RIDE_TOPO_KIND, F.RIDE_TOPO_NNODE, F.RIDE_TOPO_RINGBRK, F.UPD_XFER_OP, F.UPD_XFER_ST] ∧ OutsideKept s t)) ∧
  (∀ (s : State) (x0 : Acc), Answers (.rideTableClear x0) s (fun t => RegFrame s t [F.NT_ATT_ATTCNT, F.NT_FIRST_T, F.NT_ID_MEMBER, F.NT_ID_STATE, F.NT_ID_STEP, F.NT_LAST_T, F.NT_LEN_INLEN, F.NT_LEN_OUTLEN, F.NT_PATH_HOP, F.NT_PATH_HPORT, F.NT_PATH_UPNODE, F.NT_PATH_UPPORT, F.NT_SEQ_SEQ, F.NT_SERIAL_SERIAL, F.RIDE_ND_ASTAMP_T, F.RIDE_ND_FB_FB, F.RIDE_ND_IN_W, F.RIDE_ND_ISEQ_SEQ, F.RIDE_ND_ISTAMP_T, F.RIDE_ND_MISS_CONS, F.RIDE_ND_MISS_TOTAL, F.RIDE_ND_STAT_CAUSE, F.RIDE_ND_STAT_HOP, F.RIDE_ND_STAT_HPORT, F.RIDE_ND_STAT_STALE, F.RIDE_ND_STAT_STATE] ∧ OutsideKept s t)) ∧
  (∀ (s : State) (x0 : Acc) (x1 : Bool) (x2 : Bool), Answers (.ridePortTake x0 x1 x2) s (fun t => RegFrame s t [F.ETH_PORT_STAT_TAKEN, F.RIDE_CFG_PCEN, F.RIDE_CFG_PDEN] ∧ OutsideKept s t)) ∧
  (∀ (s : State) (x0 : Acc), Answers (.dmaGo x0) s (fun t => RegFrame s t [F.COM_STAT_FAULT, F.DMA_CH_CUR_CUR, F.DMA_CH_DONE_DONE, F.DMA_CH_DSTN_DST_NEXT, F.DMA_CH_FADDR_FADDR, F.DMA_CH_FREC_CAUSE, F.DMA_CH_FREC_KIND, F.DMA_CH_FREC_MULTI, F.DMA_CH_FREC_WR, F.DMA_CH_FSEQ_FSEQ, F.DMA_CH_FTIME_FTIME, F.DMA_CH_HOLDN_HOLDN, F.DMA_CH_HOLD_W, F.DMA_CH_ROW_ROW, F.DMA_CH_SRCN_SRC_NEXT, F.DMA_CH_STAT_NDESC, F.DMA_CH_STAT_PREEMPTED, F.DMA_CH_STAT_REFAULT, F.DMA_CH_STAT_STATE] ∧ OutsideKept s t)) ∧
  (∀ (s : State) (x0 : Fin 64), Answers (.dmaDescriptorDone x0) s (fun t => RegFrame s t [F.CNPY_EXCL_MASK, F.CNPY_HP_STAT_ST, F.CNPY_SEN_BANK_ACT, F.CNPY_SEN_BANK_PEND, F.CNPY_SEN_CNT_BADOFF, F.CNPY_SEN_CNT_LATE, F.CNPY_SEN_OFFS_OFFS, F.CNPY_SEN_STAT_CAUSE, F.CNPY_SEN_STAT_INSTEP, F.CNPY_SEN_STAT_OUTCNT, F.CNPY_SEN_STAT_STATE, F.COM_STAT_FAULT, F.DMA_CH_CFG_OWNER, F.DMA_CH_CUR_CUR, F.DMA_CH_DONE_DONE, F.DMA_CH_DSTN_DST_NEXT, F.DMA_CH_FADDR_FADDR, F.DMA_CH_FREC_CAUSE, F.DMA_CH_FREC_KIND, F.DMA_CH_FREC_MULTI, F.DMA_CH_FREC_WR, F.DMA_CH_FSEQ_FSEQ, F.DMA_CH_FTIME_FTIME, F.DMA_CH_HOLDN_HOLDN, F.DMA_CH_HOLD_W, F.DMA_CH_ROW_ROW, F.DMA_CH_SRCN_SRC_NEXT, F.DMA_CH_STAT_NDESC, F.DMA_CH_STAT_PREEMPTED, F.DMA_CH_STAT_STATE, F.DMA_ENG_STAT_INFLT, F.IOMU_FQCSR_FQMF, F.IOMU_FQCSR_FQOF, F.IOMU_FQT_V, F.IOMU_IPSR_V, F.JOB_STAT_SKIP, F.JOB_STAT_STATE, F.STR_CNT_FRAMES] ∧ t.log = s.log ∧ t.otp = s.otp)) ∧
  (∀ (s : State) (x0 : Fin 64) (x1 : Bool), Answers (.dmaFault x0 x1) s (fun t => RegFrame s t [F.COM_STAT_FAULT, F.DMA_CH_DONE_DONE, F.DMA_CH_DSTN_DST_NEXT, F.DMA_CH_FADDR_FADDR, F.DMA_CH_FREC_CAUSE, F.DMA_CH_FREC_KIND, F.DMA_CH_FREC_MULTI, F.DMA_CH_FREC_WR, F.DMA_CH_FSEQ_FSEQ, F.DMA_CH_FTIME_FTIME, F.DMA_CH_HOLDN_HOLDN, F.DMA_CH_HOLD_W, F.DMA_CH_ROW_ROW, F.DMA_CH_SRCN_SRC_NEXT, F.DMA_CH_STAT_PREEMPTED, F.DMA_CH_STAT_STATE, F.STR_CNT_DROPF] ∧ OutsideKept s t)) ∧
  (∀ (s : State) (x0 : Fin 64), Answers (.dmaParked x0) s (fun t => RegFrame s t [F.COM_STAT_FAULT, F.DMA_CH_DONE_DONE, F.DMA_CH_DSTN_DST_NEXT, F.DMA_CH_FADDR_FADDR, F.DMA_CH_FREC_CAUSE, F.DMA_CH_FREC_KIND, F.DMA_CH_FREC_MULTI, F.DMA_CH_FREC_WR, F.DMA_CH_FSEQ_FSEQ, F.DMA_CH_FTIME_FTIME, F.DMA_CH_HOLDN_HOLDN, F.DMA_CH_HOLD_W, F.DMA_CH_ROW_ROW, F.DMA_CH_SRCN_SRC_NEXT, F.DMA_CH_STAT_PREEMPTED, F.DMA_CH_STAT_REFAULT, F.DMA_CH_STAT_STATE, F.DMA_ENG_FSEQ_SEQ, F.DMA_ENG_STAT_INFLT] ∧ OutsideKept s t)) ∧
  (∀ (s : State) (x0 : Acc), Answers (.dmaResume x0) s (fun t => RegFrame s t [F.CNPY_EXCL_MASK, F.CNPY_HP_STAT_ST, F.CNPY_SEN_BANK_ACT, F.CNPY_SEN_BANK_PEND, F.CNPY_SEN_CNT_BADOFF, F.CNPY_SEN_CNT_LATE, F.CNPY_SEN_OFFS_OFFS, F.CNPY_SEN_STAT_CAUSE, F.CNPY_SEN_STAT_INSTEP, F.CNPY_SEN_STAT_OUTCNT, F.CNPY_SEN_STAT_STATE, F.COM_STAT_FAULT, F.DMA_CH_CFG_OWNER, F.DMA_CH_CUR_CUR, F.DMA_CH_DONE_DONE, F.DMA_CH_DSTN_DST_NEXT, F.DMA_CH_FADDR_FADDR, F.DMA_CH_FREC_CAUSE, F.DMA_CH_FREC_KIND, F.DMA_CH_FREC_MULTI, F.DMA_CH_FREC_WR, F.DMA_CH_FSEQ_FSEQ, F.DMA_CH_FTIME_FTIME, F.DMA_CH_HOLDN_HOLDN, F.DMA_CH_HOLD_W, F.DMA_CH_ROW_ROW, F.DMA_CH_SRCN_SRC_NEXT, F.DMA_CH_STAT_NDESC, F.DMA_CH_STAT_PREEMPTED, F.DMA_CH_STAT_STATE, F.IOMU_FQCSR_FQMF, F.IOMU_FQCSR_FQOF, F.IOMU_FQT_V, F.IOMU_IPSR_V, F.JOB_STAT_SKIP, F.JOB_STAT_STATE, F.STR_CNT_FRAMES] ∧ t.log = s.log ∧ t.otp = s.otp)) ∧
  (∀ (s : State) (x0 : Acc), Answers (.dmaSkip x0) s (fun t => RegFrame s t [F.CNPY_EXCL_MASK, F.CNPY_HP_STAT_ST, F.CNPY_SEN_BANK_ACT, F.CNPY_SEN_BANK_PEND, F.CNPY_SEN_CNT_BADOFF, F.CNPY_SEN_CNT_LATE, F.CNPY_SEN_OFFS_OFFS, F.CNPY_SEN_STAT_CAUSE, F.CNPY_SEN_STAT_INSTEP, F.CNPY_SEN_STAT_OUTCNT, F.CNPY_SEN_STAT_STATE, F.COM_STAT_FAULT, F.DMA_CH_CFG_OWNER, F.DMA_CH_CUR_CUR, F.DMA_CH_DONE_DONE, F.DMA_CH_DSTN_DST_NEXT, F.DMA_CH_FADDR_FADDR, F.DMA_CH_FREC_CAUSE, F.DMA_CH_FREC_KIND, F.DMA_CH_FREC_MULTI, F.DMA_CH_FREC_WR, F.DMA_CH_FSEQ_FSEQ, F.DMA_CH_FTIME_FTIME, F.DMA_CH_HOLDN_HOLDN, F.DMA_CH_HOLD_W, F.DMA_CH_ROW_ROW, F.DMA_CH_SRCN_SRC_NEXT, F.DMA_CH_STAT_NDESC, F.DMA_CH_STAT_PREEMPTED, F.DMA_CH_STAT_STATE, F.IOMU_FQCSR_FQMF, F.IOMU_FQCSR_FQOF, F.IOMU_FQT_V, F.IOMU_IPSR_V, F.JOB_STAT_SKIP, F.JOB_STAT_STATE, F.STR_CNT_FRAMES] ∧ t.log = s.log ∧ t.otp = s.otp)) ∧
  (∀ (s : State) (x0 : Acc), Answers (.dmaAbort x0) s (fun t => RegFrame s t [F.CNPY_EXCL_MASK, F.CNPY_HP_STAT_ST, F.CNPY_SEN_BANK_ACT, F.CNPY_SEN_BANK_PEND, F.CNPY_SEN_CNT_BADOFF, F.CNPY_SEN_CNT_LATE, F.CNPY_SEN_OFFS_OFFS, F.CNPY_SEN_STAT_CAUSE, F.CNPY_SEN_STAT_INSTEP, F.CNPY_SEN_STAT_OUTCNT, F.CNPY_SEN_STAT_STATE, F.COM_STAT_FAULT, F.DMA_CH_CFG_OWNER, F.DMA_CH_DONE_DONE, F.DMA_CH_DSTN_DST_NEXT, F.DMA_CH_FADDR_FADDR, F.DMA_CH_FREC_CAUSE, F.DMA_CH_FREC_KIND, F.DMA_CH_FREC_MULTI, F.DMA_CH_FREC_WR, F.DMA_CH_FSEQ_FSEQ, F.DMA_CH_FTIME_FTIME, F.DMA_CH_HOLDN_HOLDN, F.DMA_CH_HOLD_W, F.DMA_CH_ROW_ROW, F.DMA_CH_SRCN_SRC_NEXT, F.DMA_CH_STAT_PREEMPTED, F.DMA_CH_STAT_STATE, F.JOB_STAT_SKIP, F.JOB_STAT_STATE, F.STR_CNT_DROPF, F.STR_CNT_FRAMES] ∧ OutsideKept s t)) ∧
  (∀ (s : State) (x0 : Fin 64), Answers (.dmaAbortDone x0) s (fun t => RegFrame s t [F.CNPY_EXCL_MASK, F.CNPY_HP_STAT_ST, F.CNPY_SEN_BANK_ACT, F.CNPY_SEN_BANK_PEND, F.CNPY_SEN_CNT_BADOFF, F.CNPY_SEN_CNT_LATE, F.CNPY_SEN_OFFS_OFFS, F.CNPY_SEN_STAT_CAUSE, F.CNPY_SEN_STAT_INSTEP, F.CNPY_SEN_STAT_OUTCNT, F.CNPY_SEN_STAT_STATE, F.COM_STAT_FAULT, F.DMA_CH_CFG_OWNER, F.DMA_CH_DONE_DONE, F.DMA_CH_DSTN_DST_NEXT, F.DMA_CH_FADDR_FADDR, F.DMA_CH_FREC_CAUSE, F.DMA_CH_FREC_KIND, F.DMA_CH_FREC_MULTI, F.DMA_CH_FREC_WR, F.DMA_CH_FSEQ_FSEQ, F.DMA_CH_FTIME_FTIME, F.DMA_CH_HOLDN_HOLDN, F.DMA_CH_HOLD_W, F.DMA_CH_ROW_ROW, F.DMA_CH_SRCN_SRC_NEXT, F.DMA_CH_STAT_PREEMPTED, F.DMA_CH_STAT_STATE, F.DMA_ENG_STAT_INFLT, F.JOB_STAT_SKIP, F.JOB_STAT_STATE, F.STR_CNT_FRAMES] ∧ OutsideKept s t)) ∧
  (∀ (s : State) (x0 : Acc) (x1 : Fin 4), Answers (.dmaEngineClear x0 x1) s (fun t => RegFrame s t [F.DMA_ENG_STAT_MAXINF] ∧ OutsideKept s t)) ∧
  (∀ (s : State) (x0 : Fin 8), Answers (.canIntegrationEnd x0) s (fun t => RegFrame s t [F.BUS_CH_STAT_STATE] ∧ OutsideKept s t)) ∧
  (∀ (s : State) (x0 : Fin 8) (x1 : Bool), Answers (.canBusError x0 x1) s (fun t => RegFrame s t [F.BUS_CH_EVT_EVT, F.BUS_CH_STAT_REC, F.BUS_CH_STAT_STATE, F.BUS_CH_STAT_TEC, F.COM_STAT_FAULT] ∧ OutsideKept s t)) ∧
  (∀ (s : State) (x0 : Fin 8) (x1 : Bool), Answers (.transceiverFault x0 x1) s (fun t => RegFrame s t [F.BUS_CH_STAT_TRXFLT, F.COM_STAT_FAULT] ∧ OutsideKept s t)) ∧
  (∀ (s : State), Answers .resetButtonRise s (fun t => RegFrame s t [F.FBRK_RSTSTAT_STUCK] ∧ OutsideKept s t)) ∧
  (∀ (s : State), Answers .rideRingReturn s (fun t => RegFrame s t [F.RIDE_RTT_CALC, F.RIDE_TOPO_HMAX, F.RIDE_TOPO_KIND, F.RIDE_TOPO_NNODE, F.RIDE_TOPO_RINGBRK] ∧ OutsideKept s t))

/-- What the commands of PWR, UPD and MON leave unchanged (R14, R531, R621, R652). -/
def Obligations.PowerUpdateAndMonitorFrames : Prop :=
  (∀ (s : State), Answers .updStage s (fun t => RegFrame s t [F.CLR_HDR_GEN, F.CLR_HDR_LIVE, F.CLR_HDR_SEQ, F.CLR_HDR_STALE, F.CLR_HDR_WDRN, F.CLR_SLOT_STAT_AGE, F.CLR_VIOL_KIND, F.CLR_VIOL_PLANE, F.CLR_VIOL_SLOT, F.CLR_VIOL_VALID, F.UPD_SL_BLKS_DONE, F.UPD_SL_BLKS_TOTAL, F.UPD_SL_BUILD_BUILD, F.UPD_XFER_OP, F.UPD_XFER_ST] ∧ OutsideKept s t)) ∧
  (∀ (s : State), Answers .updPush s (fun t => RegFrame s t [F.CLR_HDR_GEN, F.CLR_HDR_LIVE, F.CLR_HDR_SEQ, F.CLR_HDR_STALE, F.CLR_HDR_WDRN, F.CLR_SLOT_STAT_AGE, F.CLR_VIOL_KIND, F.CLR_VIOL_PLANE, F.CLR_VIOL_SLOT, F.CLR_VIOL_VALID, F.UPD_XFER_OP, F.UPD_XFER_ST] ∧ OutsideKept s t)) ∧
  (∀ (s : State) (x0 : Bool), Answers (.updActivate x0) s (fun t => RegFrame s t [F.CLR_HDR_GEN, F.CLR_HDR_LIVE, F.CLR_HDR_SEQ, F.CLR_HDR_STALE, F.CLR_HDR_WDRN, F.CLR_SLOT_STAT_AGE, F.CLR_VIOL_KIND, F.CLR_VIOL_PLANE, F.CLR_VIOL_SLOT, F.CLR_VIOL_VALID, F.UPD_SL_STAT_REASON, F.UPD_SL_STAT_ST, F.UPD_STATE_TRIAL] ∧ OutsideKept s t)) ∧
  (∀ (s : State) (x0 : Bool), Answers (.updConfirm x0) s (fun t => RegFrame s t [F.CLR_HDR_GEN, F.CLR_HDR_LIVE, F.CLR_HDR_SEQ, F.CLR_HDR_STALE, F.CLR_HDR_WDRN, F.CLR_SLOT_STAT_AGE, F.CLR_VIOL_KIND, F.CLR_VIOL_PLANE, F.CLR_VIOL_SLOT, F.CLR_VIOL_VALID, F.UPD_SL_STAT_REASON, F.UPD_SL_STAT_ST, F.UPD_STATE_TRIAL] ∧ t.mem = s.mem ∧ t.log = s.log)) ∧
  (∀ (s : State) (x0 : Bool), Answers (.updStatus x0) s (fun t => RegFrame s t [F.CLR_HDR_GEN, F.CLR_HDR_LIVE, F.CLR_HDR_SEQ, F.CLR_HDR_STALE, F.CLR_HDR_WDRN, F.CLR_SLOT_STAT_AGE, F.CLR_VIOL_KIND, F.CLR_VIOL_PLANE, F.CLR_VIOL_SLOT, F.CLR_VIOL_VALID] ∧ OutsideKept s t)) ∧
  (∀ (s : State) (x0 : Bool), Answers (.updAbort x0) s (fun t => RegFrame s t [F.CLR_HDR_GEN, F.CLR_HDR_LIVE, F.CLR_HDR_SEQ, F.CLR_HDR_STALE, F.CLR_HDR_WDRN, F.CLR_SLOT_STAT_AGE, F.CLR_VIOL_KIND, F.CLR_VIOL_PLANE, F.CLR_VIOL_SLOT, F.CLR_VIOL_VALID, F.UPD_XFER_OP, F.UPD_XFER_ST] ∧ OutsideKept s t)) ∧
  (∀ (s : State) (x0 : Bool), Answers (.updReboot x0) s (fun t => RegFrame s t [F.CLR_HDR_GEN, F.CLR_HDR_LIVE, F.CLR_HDR_SEQ, F.CLR_HDR_STALE, F.CLR_HDR_WDRN, F.CLR_SLOT_STAT_AGE, F.CLR_VIOL_KIND, F.CLR_VIOL_PLANE, F.CLR_VIOL_SLOT, F.CLR_VIOL_VALID] ∧ OutsideKept s t)) ∧
  (∀ (s : State) (x0 : Bool), Answers (.updSread x0) s (fun t => RegFrame s t [F.CLR_HDR_GEN, F.CLR_HDR_LIVE, F.CLR_HDR_SEQ, F.CLR_HDR_STALE, F.CLR_HDR_WDRN, F.CLR_SLOT_STAT_AGE, F.CLR_VIOL_KIND, F.CLR_VIOL_PLANE, F.CLR_VIOL_SLOT, F.CLR_VIOL_VALID] ∧ OutsideKept s t)) ∧
  (∀ (s : State) (x0 : Bool), Answers (.updSwrite x0) s (fun t => RegFrame s t [F.CLR_HDR_GEN, F.CLR_HDR_LIVE, F.CLR_HDR_SEQ, F.CLR_HDR_STALE, F.CLR_HDR_WDRN, F.CLR_SLOT_STAT_AGE, F.CLR_VIOL_KIND, F.CLR_VIOL_PLANE, F.CLR_VIOL_SLOT, F.CLR_VIOL_VALID] ∧ OutsideKept s t)) ∧
  (∀ (s : State) (x0 : Bool), Answers (.updBadOpcode x0) s (fun t => RegFrame s t [F.CLR_HDR_GEN, F.CLR_HDR_LIVE, F.CLR_HDR_SEQ, F.CLR_HDR_STALE, F.CLR_HDR_WDRN, F.CLR_SLOT_STAT_AGE, F.CLR_VIOL_KIND, F.CLR_VIOL_PLANE, F.CLR_VIOL_SLOT, F.CLR_VIOL_VALID] ∧ OutsideKept s t)) ∧
  (∀ (s : State) (x0 : Bool), Answers (.norBlockWrite x0) s (fun t => RegFrame s t [F.CLR_HDR_GEN, F.CLR_HDR_LIVE, F.CLR_HDR_SEQ, F.CLR_HDR_STALE, F.CLR_HDR_WDRN, F.CLR_SLOT_STAT_AGE, F.CLR_VIOL_KIND, F.CLR_VIOL_PLANE, F.CLR_VIOL_SLOT, F.CLR_VIOL_VALID, F.MON_LAST_CMD, F.MON_LAST_CODE, F.MON_STAT_LINES, F.MON_TLAST_T, F.UPD_SL_BLKS_DONE, F.UPD_SL_BLKS_TOTAL, F.UPD_SL_BUILD_BUILD, F.UPD_SL_STAT_REASON, F.UPD_SL_STAT_SFMT, F.UPD_SL_STAT_ST, F.UPD_SL_STAT_SVN, F.UPD_STATE_TRIAL, F.UPD_XFER_OP, F.UPD_XFER_ST] ∧ OutsideKept s t)) ∧
  (∀ (s : State), Answers .stageDone s (fun t => RegFrame s t [F.CLR_HDR_GEN, F.CLR_HDR_LIVE, F.CLR_HDR_SEQ, F.CLR_HDR_STALE, F.CLR_HDR_WDRN, F.CLR_SLOT_STAT_AGE, F.CLR_VIOL_KIND, F.CLR_VIOL_PLANE, F.CLR_VIOL_SLOT, F.CLR_VIOL_VALID, F.MON_LAST_CMD, F.MON_LAST_CODE, F.MON_STAT_LINES, F.MON_TLAST_T, F.UPD_SL_STAT_REASON, F.UPD_SL_STAT_ST, F.UPD_STATE_TRIAL, F.UPD_XFER_OP, F.UPD_XFER_ST] ∧ OutsideKept s t)) ∧
  (∀ (s : State), Answers .trialTimeout s (fun t => RegFrame s t [] ∧ OutsideKept s t)) ∧
  (∀ (s : State), Answers .runProven s (fun t => RegFrame s t [F.UPD_RUNCNT_CNT] ∧ OutsideKept s t)) ∧
  (∀ (s : State) (x0 : BulkIn), Answers (.bulkDataReceived x0) s (fun t => RegFrame s t [F.UPD_SL_BLKS_DONE, F.UPD_SL_BLKS_TOTAL, F.UPD_SL_BUILD_BUILD, F.UPD_XFER_OP, F.UPD_XFER_RXDROP, F.UPD_XFER_ST] ∧ OutsideKept s t)) ∧
  (∀ (s : State) (x0 : Fin 32) (x1 : BitVec 30), Answers (.bulkAckReceived x0 x1) s (fun t => RegFrame s t [F.CLR_HDR_GEN, F.CLR_HDR_LIVE, F.CLR_HDR_SEQ, F.CLR_HDR_STALE, F.CLR_HDR_WDRN, F.CLR_SLOT_STAT_AGE, F.CLR_VIOL_KIND, F.CLR_VIOL_PLANE, F.CLR_VIOL_SLOT, F.CLR_VIOL_VALID, F.UPD_XFER_OP, F.UPD_XFER_ST] ∧ OutsideKept s t)) ∧
  (∀ (s : State), Answers .pushResend s (fun t => RegFrame s t [F.UPD_XFER_ST] ∧ OutsideKept s t)) ∧
  (∀ (s : State) (x0 : Acc), Answers (.updBlockGo x0) s (fun t => RegFrame s t [F.UPD_SL_BLKS_DONE, F.UPD_SL_BLKS_TOTAL, F.UPD_SL_BUILD_BUILD] ∧ OutsideKept s t)) ∧
  (∀ (s : State), Answers .supplyReturn s (fun t => RegFrame s t [F.COM_STAT_FAULT, F.PWR_SUPPLY_SUPLOSS, F.SOL_BANK_STAT_BANK, F.SOL_CH_FLAGS_DEFER, F.SOL_CH_FLAGS_NOKINK, F.SOL_CH_FLAGS_OFFDEF, F.SOL_CH_FLAGS_OFFREJ, F.SOL_CH_FLAGS_UVDROP, F.SOL_CH_STAT_FAULT, F.SOL_CH_STAT_PHASE, F.SOL_EV_FLAGS_FLAGS, F.SOL_EV_SEQ_SEQ, F.SOL_EV_TIME_KINK, F.SOL_EV_TSTART_T, F.SOL_Q_STAT_COUNT] ∧ OutsideKept s t)) ∧
  (∀ (s : State), Answers .holdupExpiry s (fun t => RegFrame s t [] ∧ OutsideKept s t)) ∧
  (∀ (s : State) (x0 : Acc) (x1 : BitVec 16), Answers (.heartbeat x0 x1) s (fun t => RegFrame s t [F.PWR_HBLAST_T] ∧ OutsideKept s t)) ∧
  (∀ (s : State), Answers .deadmanExpiry s (fun t => RegFrame s t [F.CLR_HDR_STALE, F.CLR_PLANE_CTLUP, F.CLR_PLANE_DATAUP, F.CLR_PLANE_MGTUP, F.CLR_SLOT_STAT_STALECNT, F.COM_STAT_FAULT, F.FBRK_GRP_CNT_CUTS, F.FBRK_GRP_STAT_CUTA, F.FBRK_GRP_STAT_CUTB, F.FBRK_GRP_STAT_RBOK, F.FBRK_GRP_STAT_STATE, F.FBRK_LATCH_GROUPS, F.FBRK_LATCH_LCAUSE, F.FBRK_REACT_LASTR, F.FBRK_REACT_MAXR, F.FBRK_RSTSTAT_WINDOW, F.LSW_CH_FLAGS_CRANKBLK, F.LSW_CH_FLAGS_DEAD, F.LSW_CH_IMEAS_I, F.LSW_CH_STAT_CAUSE, F.LSW_CH_STAT_FAULT, F.LSW_CH_STAT_STATE, F.LSW_SUPPLY_DEAD, F.PWR_DEAD_EXPCNT, F.SEG_LN_STAT_ST, F.SEG_STATE_PEND, F.SEG_STATE_ST, F.SHRD_FIFO_LVL, F.SHRD_FIFO_MAXLVL, F.SHRD_LOST_CNT, F.SOL_BANK_STAT_BANK, F.SOL_CH_FLAGS_UVDROP, F.SOL_CH_STAT_FAULT, F.SOL_CH_STAT_PHASE, F.SOL_EV_FLAGS_FLAGS, F.SOL_EV_SEQ_SEQ, F.SOL_Q_STAT_COUNT, F.SOL_SUPPLY_DEAD] ∧ OutsideKept s t)) ∧
  (∀ (s : State), Answers .idleEntry s (fun t => RegFrame s t [F.COM_STAT_FAULT, F.MEM_DRAM_SELFREF, F.MEM_DRAM_TRAINED, F.PWR_MODE_LADDER, F.PWR_WAKE_CFG_CANACT, F.PWR_WAKE_CFG_CANEN, F.PWR_WAKE_CFG_RIDEACT, F.PWR_WAKE_CFG_RIDEEN, F.PWR_WAKE_CFG_TMRACT, F.PWR_WAKE_CFG_TMREN, F.TIME_HOLDERR_ERRB, F.TIME_RATE_RATE, F.TIME_STATE_ST, F.TIME_STATE_STEPPEND, F.TRIG_CFG_EN, F.TRIG_STAT_ARMED] ∧ OutsideKept s t)) ∧
  (∀ (s : State), Answers .idleExit s (fun t => RegFrame s t [F.COM_STAT_FAULT, F.MEM_DRAM_SELFREF, F.MEM_DRAM_TRAINED, F.PWR_MODE_LADDER, F.PWR_WAKE_CFG_CANACT, F.PWR_WAKE_CFG_CANEN, F.PWR_WAKE_CFG_RIDEACT, F.PWR_WAKE_CFG_RIDEEN, F.PWR_WAKE_CFG_TMRACT, F.PWR_WAKE_CFG_TMREN, F.TIME_HOLDERR_ERRB, F.TIME_RATE_RATE, F.TIME_STATE_ST, F.TIME_STATE_STEPPEND, F.TRIG_CFG_EN, F.TRIG_STAT_ARMED] ∧ OutsideKept s t)) ∧
  (∀ (s : State) (x0 : Bool), Answers (.modeStatus x0) s (fun t => RegFrame s t [F.CLR_HDR_GEN, F.CLR_HDR_LIVE, F.CLR_HDR_SEQ, F.CLR_HDR_STALE, F.CLR_HDR_WDRN, F.CLR_SLOT_STAT_AGE, F.CLR_VIOL_KIND, F.CLR_VIOL_PLANE, F.CLR_VIOL_SLOT, F.CLR_VIOL_VALID] ∧ OutsideKept s t)) ∧
  (∀ (s : State) (x0 : Bool), Answers (.shutdownAck x0) s (fun t => RegFrame s t [F.CLR_HDR_GEN, F.CLR_HDR_LIVE, F.CLR_HDR_SEQ, F.CLR_HDR_STALE, F.CLR_HDR_WDRN, F.CLR_SLOT_STAT_AGE, F.CLR_VIOL_KIND, F.CLR_VIOL_PLANE, F.CLR_VIOL_SLOT, F.CLR_VIOL_VALID, F.COM_CTRL_EN, F.COM_STAT_CFGLOCK, F.COM_STAT_FAULT, F.COM_STAT_RUN, F.FBRK_GRP_CNT_CUTS, F.FBRK_GRP_STAT_CUTA, F.FBRK_GRP_STAT_CUTB, F.FBRK_GRP_STAT_RBOK, F.FBRK_GRP_STAT_STATE, F.FBRK_PR_STAT_STATE, F.FBRK_REACT_LASTR, F.FBRK_REACT_MAXR, F.LSW_CH_FLAGS_CRANKBLK, F.LSW_CH_FLAGS_FBCUT, F.LSW_CH_IMEAS_I, F.LSW_CH_STAT_CAUSE, F.LSW_CH_STAT_FAULT, F.LSW_CH_STAT_STATE, F.SEG_STATE_PEND, F.SEG_STATE_ST, F.SOL_BANK_STAT_BANK, F.SOL_CH_FLAGS_DEFER, F.SOL_CH_FLAGS_FBCUT, F.SOL_CH_FLAGS_NOKINK, F.SOL_CH_FLAGS_OFFDEF, F.SOL_CH_FLAGS_OFFREJ, F.SOL_CH_FLAGS_UVDROP, F.SOL_CH_STAT_FAULT, F.SOL_CH_STAT_PHASE, F.SOL_EV_FLAGS_FLAGS, F.SOL_EV_SEQ_SEQ, F.SOL_EV_TIME_KINK, F.SOL_EV_TSTART_T, F.SOL_Q_STAT_COUNT, F.WHL_LP_STAT_STATE] ∧ OutsideKept s t)) ∧
  (∀ (s : State) (x0 : Bool), Answers (.modeBadRequest x0) s (fun t => RegFrame s t [F.CLR_HDR_GEN, F.CLR_HDR_LIVE, F.CLR_HDR_SEQ, F.CLR_HDR_STALE, F.CLR_HDR_WDRN, F.CLR_SLOT_STAT_AGE, F.CLR_VIOL_KIND, F.CLR_VIOL_PLANE, F.CLR_VIOL_SLOT, F.CLR_VIOL_VALID] ∧ OutsideKept s t)) ∧
  (∀ (s : State), Answers .limpEntry s (fun t => RegFrame s t [F.COM_STAT_FAULT, F.FBRK_PR_STAT_TESTDONE, F.FBRK_TEST_PEND, F.MEM_DRAM_SELFREF, F.MEM_DRAM_TRAINED, F.PWR_MODE_LADDER, F.PWR_MODE_MODE, F.PWR_MODE_PREV, F.PWR_WAKE_CFG_CANACT, F.PWR_WAKE_CFG_CANEN, F.PWR_WAKE_CFG_RIDEACT, F.PWR_WAKE_CFG_RIDEEN, F.PWR_WAKE_CFG_TMRACT, F.PWR_WAKE_CFG_TMREN, F.TIME_HOLDERR_ERRB, F.TIME_RATE_RATE, F.TIME_STATE_ST, F.TIME_STATE_STEPPEND, F.TRIG_CFG_EN, F.TRIG_STAT_ARMED] ∧ OutsideKept s t)) ∧
  (∀ (s : State), Answers .limpExit s (fun t => RegFrame s t [F.FBRK_PR_STAT_TESTDONE, F.FBRK_TEST_PEND, F.PWR_MODE_MODE, F.PWR_MODE_PREV] ∧ OutsideKept s t)) ∧
  (∀ (s : State), Answers .monitorWakeEnd s (fun t => RegFrame s t [F.COM_STAT_FAULT, F.MEM_DRAM_SELFREF, F.MEM_DRAM_TRAINED, F.PWR_MODE_LADDER, F.PWR_WAKE_CFG_CANACT, F.PWR_WAKE_CFG_CANEN, F.PWR_WAKE_CFG_RIDEACT, F.PWR_WAKE_CFG_RIDEEN, F.PWR_WAKE_CFG_TMRACT, F.PWR_WAKE_CFG_TMREN, F.TIME_HOLDERR_ERRB, F.TIME_RATE_RATE, F.TIME_STATE_ST, F.TIME_STATE_STEPPEND, F.TRIG_CFG_EN, F.TRIG_STAT_ARMED] ∧ t.log = s.log ∧ t.otp = s.otp)) ∧
  (∀ (s : State), Answers .shutdownNotice s (fun t => RegFrame s t [F.CLR_HDR_GEN, F.CLR_HDR_LIVE, F.CLR_HDR_SEQ, F.CLR_HDR_STALE, F.CLR_HDR_WDRN, F.CLR_SLOT_STAT_AGE, F.CLR_VIOL_KIND, F.CLR_VIOL_PLANE, F.CLR_VIOL_SLOT, F.CLR_VIOL_VALID, F.PWR_MODE_NOTICE] ∧ OutsideKept s t)) ∧
  (∀ (s : State), Answers .shutdownWithdrawn s (fun t => RegFrame s t [F.CLR_HDR_GEN, F.CLR_HDR_LIVE, F.CLR_HDR_SEQ, F.CLR_HDR_STALE, F.CLR_HDR_WDRN, F.CLR_SLOT_STAT_AGE, F.CLR_VIOL_KIND, F.CLR_VIOL_PLANE, F.CLR_VIOL_SLOT, F.CLR_VIOL_VALID, F.PWR_MODE_NOTICE] ∧ OutsideKept s t)) ∧
  (∀ (s : State), Answers .parkingGraceEnd s (fun t => RegFrame s t [F.COM_CTRL_EN, F.COM_STAT_CFGLOCK, F.COM_STAT_FAULT, F.COM_STAT_RUN, F.FBRK_GRP_CNT_CUTS, F.FBRK_GRP_STAT_CUTA, F.FBRK_GRP_STAT_CUTB, F.FBRK_GRP_STAT_RBOK, F.FBRK_GRP_STAT_STATE, F.FBRK_PR_STAT_STATE, F.FBRK_REACT_LASTR, F.FBRK_REACT_MAXR, F.LSW_CH_FLAGS_CRANKBLK, F.LSW_CH_FLAGS_FBCUT, F.LSW_CH_IMEAS_I, F.LSW_CH_STAT_CAUSE, F.LSW_CH_STAT_FAULT, F.LSW_CH_STAT_STATE, F.SEG_STATE_PEND, F.SEG_STATE_ST, F.SOL_BANK_STAT_BANK, F.SOL_CH_FLAGS_DEFER, F.SOL_CH_FLAGS_FBCUT, F.SOL_CH_FLAGS_NOKINK, F.SOL_CH_FLAGS_OFFDEF, F.SOL_CH_FLAGS_OFFREJ, F.SOL_CH_FLAGS_UVDROP, F.SOL_CH_STAT_FAULT, F.SOL_CH_STAT_PHASE, F.SOL_EV_FLAGS_FLAGS, F.SOL_EV_SEQ_SEQ, F.SOL_EV_TIME_KINK, F.SOL_EV_TSTART_T, F.SOL_Q_STAT_COUNT, F.WHL_LP_STAT_STATE] ∧ OutsideKept s t)) ∧
  (∀ (s : State), Answers .ladderDescend s (fun t => RegFrame s t [F.COM_STAT_FAULT, F.MEM_DRAM_SELFREF, F.MEM_DRAM_TRAINED, F.PWR_MODE_LADDER, F.PWR_WAKE_CFG_CANACT, F.PWR_WAKE_CFG_CANEN, F.PWR_WAKE_CFG_RIDEACT, F.PWR_WAKE_CFG_RIDEEN, F.PWR_WAKE_CFG_TMRACT, F.PWR_WAKE_CFG_TMREN, F.TIME_HOLDERR_ERRB, F.TIME_RATE_RATE, F.TIME_STATE_ST, F.TIME_STATE_STEPPEND, F.TRIG_CFG_EN, F.TRIG_STAT_ARMED] ∧ t.log = s.log ∧ t.otp = s.otp)) ∧
  (∀ (s : State), Answers .monHello s (fun t => RegFrame s t [F.MON_LAST_CMD, F.MON_LAST_CODE, F.MON_STAT_ERRS, F.MON_STAT_LINES, F.MON_TLAST_T] ∧ OutsideKept s t)) ∧
  (∀ (s : State) (x0 : BitVec 32) (x1 : BitVec 8), Answers (.monLog x0 x1) s (fun t => RegFrame s t [F.MON_LAST_CMD, F.MON_LAST_CODE, F.MON_STAT_ERRS, F.MON_STAT_LINES, F.MON_TLAST_T] ∧ OutsideKept s t)) ∧
  (∀ (s : State) (x0 : BitVec 40), Answers (.monRd x0) s (fun t => RegFrame s t [F.MON_LAST_CMD, F.MON_LAST_CODE, F.MON_STAT_ERRS, F.MON_STAT_LINES, F.MON_TLAST_T] ∧ OutsideKept s t)) ∧
  (∀ (s : State) (x0 : BitVec 2) (x1 : BitVec 3) (x2 : BitVec 2), Answers (.monChal x0 x1 x2) s (fun t => RegFrame s t [F.LCS_CHAL_W, F.LCS_RSTAT_ST, F.MON_LAST_CMD, F.MON_LAST_CODE, F.MON_STAT_ERRS, F.MON_STAT_LINES, F.MON_TLAST_T] ∧ OutsideKept s t)) ∧
  (∀ (s : State) (x0 : BitVec 384) (x1 : BitVec 384) (x2 : Bool), Answers (.monResp x0 x1 x2) s (fun t => RegFrame s t [F.COM_STAT_FAULT, F.LCS_DBG_FAILS, F.LCS_DBG_LEVEL, F.LCS_RESP_W, F.LCS_RSTAT_OK, F.LCS_RSTAT_REFUSED, F.LCS_RSTAT_ST, F.LCS_STATE_PEND, F.LCS_STATE_PENDV, F.MON_LAST_CMD, F.MON_LAST_CODE, F.MON_STAT_ERRS, F.MON_STAT_LINES, F.MON_TLAST_T] ∧ t.mem = s.mem ∧ t.log = s.log)) ∧
  (∀ (s : State) (x0 : BitVec 32) (x1 : BitVec 32) (x2 : BitVec 32) (x3 : List Byte), Answers (.monBlk x0 x1 x2 x3) s (fun t => RegFrame s t [F.MON_LAST_CMD, F.MON_LAST_CODE, F.MON_STAT_ERRS, F.MON_STAT_LINES, F.MON_TLAST_T, F.UPD_BLK_IDX0_BLOCK, F.UPD_BLK_IDX1_TOTAL, F.UPD_BLK_IDX2_CRC, F.UPD_BWIN_W, F.UPD_SL_BLKS_DONE, F.UPD_SL_BLKS_TOTAL, F.UPD_SL_BUILD_BUILD] ∧ OutsideKept s t)) ∧
  (∀ (s : State), Answers .monReset s (fun t => RegFrame s t [F.MON_LAST_CMD, F.MON_LAST_CODE, F.MON_STAT_ERRS, F.MON_STAT_LINES, F.MON_TLAST_T] ∧ OutsideKept s t)) ∧
  (∀ (s : State), Answers .monCrcError s (fun t => RegFrame s t [F.MON_LAST_CMD, F.MON_LAST_CODE, F.MON_STAT_ERRS] ∧ OutsideKept s t)) ∧
  (∀ (s : State), Answers .monSyntaxError s (fun t => RegFrame s t [F.MON_LAST_CMD, F.MON_LAST_CODE, F.MON_STAT_ERRS, F.MON_STAT_LINES, F.MON_TLAST_T] ∧ OutsideKept s t)) ∧
  (∀ (s : State), Answers .monLineTimeout s (fun t => RegFrame s t [F.MON_LAST_CMD, F.MON_LAST_CODE, F.MON_STAT_ERRS] ∧ OutsideKept s t)) ∧
  (∀ (s : State), Answers .monBlockTimeout s (fun t => RegFrame s t [F.MON_LAST_CMD, F.MON_LAST_CODE, F.MON_STAT_ERRS, F.MON_STAT_LINES, F.MON_TLAST_T] ∧ OutsideKept s t)) ∧
  (∀ (s : State), Answers .wakeLineFall s (fun t => RegFrame s t [F.PWR_SUPPLY_LINE] ∧ OutsideKept s t))
end

