-- ==== Sys2Proof/Laws/State.lean ====
section
/-! SUPPORT. What the stores and the updates of State do: one lemma a field and update, so that no proof unfolds a record. -/

namespace Sys2Proof

/-- Reading a store after a write. -/
theorem Store.find_put {α : Type} (s : Store α) (k k' : Nat × Nat) (v : α) :
    (s.put k v).find k' = if k' = k then some v else s.find k' := by
  induction s with
  | nil =>
    by_cases h : k' = k
    · simp [Store.put, Store.find, h]
    · simp [Store.put, Store.find, h, Ne.symm h]
  | cons e t ih =>
    obtain ⟨k₀, v₀⟩ := e
    by_cases h₀ : k₀ = k
    · subst h₀
      by_cases h : k' = k₀
      · subst h; simp [Store.put, Store.find]
      · have h' : ¬ k₀ = k' := fun e => h e.symm
        simp [Store.put, Store.find, h, h']
    · by_cases h : k' = k
      · subst h; simp [Store.put, Store.find, h₀, ih]
      · simp [Store.put, Store.find, h₀, h, ih]

theorem Store.find_put_same {α : Type} (s : Store α) (k : Nat × Nat) (v : α) : (s.put k v).find k = some v := by
  simp [Store.find_put]

theorem Store.find_put_ne {α : Type} (s : Store α) {k k' : Nat × Nat} (v : α) (h : k' ≠ k) : (s.put k v).find k' = s.find k' := by
  simp [Store.find_put, h]

end Sys2Proof

namespace Sys2Proof.Machine

/-! ### Register fields and variables -/

/-- A field after a write of a field: the value written, cut to the width, where it is the same field and index. -/
theorem Dev.get_set (d : Dev) (f g : Fld) (i j v : Nat) :
    (d.set f i v).get g j = if g.kid = f.kid ∧ j = i then v % 2 ^ f.width else d.get g j := by
  by_cases h : g.kid = f.kid ∧ j = i <;> simp [Dev.get, Dev.set, Store.find_put, h]

@[simp] theorem Dev.get_set_same (d : Dev) (f : Fld) (i v : Nat) : (d.set f i v).get f i = v % 2 ^ f.width := by
  simp [Dev.get_set]

theorem Dev.get_set_kid (d : Dev) {f g : Fld} (i j v : Nat) (h : g.kid ≠ f.kid) : (d.set f i v).get g j = d.get g j := by
  simp [Dev.get_set, h]

theorem Dev.get_set_ix (d : Dev) {f g : Fld} {i j : Nat} (v : Nat) (h : j ≠ i) : (d.set f i v).get g j = d.get g j := by
  simp [Dev.get_set, h]

/-- A variable after a write of a variable. -/
theorem Dev.var_setVar (d : Dev) (x y : Vr) (i j : Nat) (v : Int) :
    (d.setVar x i v).var y j = if y.id = x.id ∧ j = i then v else d.var y j := by
  by_cases h : y.id = x.id ∧ j = i <;> simp [Dev.var, Dev.setVar, Store.find_put, h]

@[simp] theorem Dev.var_setVar_same (d : Dev) (x : Vr) (i : Nat) (v : Int) : (d.setVar x i v).var x i = v := by
  simp [Dev.var_setVar]

theorem Dev.var_setVar_id (d : Dev) {x y : Vr} (i j : Nat) (v : Int) (h : y.id ≠ x.id) : (d.setVar x i v).var y j = d.var y j := by
  simp [Dev.var_setVar, h]

@[simp] theorem Dev.get_setVar (d : Dev) (x : Vr) (i : Nat) (v : Int) (g : Fld) (j : Nat) : (d.setVar x i v).get g j = d.get g j := rfl
@[simp] theorem Dev.var_set (d : Dev) (f : Fld) (i v : Nat) (x : Vr) (j : Nat) : (d.set f i v).var x j = d.var x j := rfl
@[simp] theorem Dev.mark_get (d : Dev) (x : Vr) (i : Nat) (g : Fld) (j : Nat) : (d.mark x i).get g j = d.get g j := rfl

/-! ### What a write of a field or a variable leaves -/

@[simp] theorem Dev.set_vars (d : Dev) (f : Fld) (i v : Nat) : (d.set f i v).vars = d.vars := rfl
@[simp] theorem Dev.set_clrBuf (d : Dev) (f : Fld) (i v : Nat) : (d.set f i v).clrBuf = d.clrBuf := rfl
@[simp] theorem Dev.set_reports (d : Dev) (f : Fld) (i v : Nat) : (d.set f i v).reports = d.reports := rfl
@[simp] theorem Dev.set_intake (d : Dev) (f : Fld) (i v : Nat) : (d.set f i v).intake = d.intake := rfl
@[simp] theorem Dev.set_sagrCur (d : Dev) (f : Fld) (i v : Nat) : (d.set f i v).sagrCur = d.sagrCur := rfl
@[simp] theorem Dev.set_sagrQ (d : Dev) (f : Fld) (i v : Nat) : (d.set f i v).sagrQ = d.sagrQ := rfl
@[simp] theorem Dev.set_solQ (d : Dev) (f : Fld) (i v : Nat) : (d.set f i v).solQ = d.solQ := rfl
@[simp] theorem Dev.set_parcels (d : Dev) (f : Fld) (i v : Nat) : (d.set f i v).parcels = d.parcels := rfl
@[simp] theorem Dev.set_arrivals (d : Dev) (f : Fld) (i v : Nat) : (d.set f i v).arrivals = d.arrivals := rfl
@[simp] theorem Dev.set_canHold (d : Dev) (f : Fld) (i v : Nat) : (d.set f i v).canHold = d.canHold := rfl
@[simp] theorem Dev.set_frames (d : Dev) (f : Fld) (i v : Nat) : (d.set f i v).frames = d.frames := rfl
@[simp] theorem Dev.set_hands (d : Dev) (f : Fld) (i v : Nat) : (d.set f i v).hands = d.hands := rfl
@[simp] theorem Dev.set_bytes (d : Dev) (f : Fld) (i v : Nat) : (d.set f i v).bytes = d.bytes := rfl
@[simp] theorem Dev.set_tlb (d : Dev) (f : Fld) (i v : Nat) : (d.set f i v).tlb = d.tlb := rfl
@[simp] theorem Dev.set_ddc (d : Dev) (f : Fld) (i v : Nat) : (d.set f i v).ddc = d.ddc := rfl
@[simp] theorem Dev.set_dmaCh (d : Dev) (f : Fld) (i v : Nat) : (d.set f i v).dmaCh = d.dmaCh := rfl
@[simp] theorem Dev.set_dmaBad (d : Dev) (f : Fld) (i v : Nat) : (d.set f i v).dmaBad = d.dmaBad := rfl
@[simp] theorem Dev.set_hist (d : Dev) (f : Fld) (i v : Nat) : (d.set f i v).hist = d.hist := rfl
@[simp] theorem Dev.set_free (d : Dev) (f : Fld) (i v : Nat) : (d.set f i v).free = d.free := rfl
@[simp] theorem Dev.set_acc (d : Dev) (f : Fld) (i v : Nat) : (d.set f i v).acc = d.acc := rfl
@[simp] theorem Dev.set_resp (d : Dev) (f : Fld) (i v : Nat) : (d.set f i v).resp = d.resp := rfl
@[simp] theorem Dev.set_rdata (d : Dev) (f : Fld) (i v : Nat) : (d.set f i v).rdata = d.rdata := rfl

@[simp] theorem Dev.setVar_regs (d : Dev) (x : Vr) (i : Nat) (v : Int) : (d.setVar x i v).regs = d.regs := rfl
@[simp] theorem Dev.setVar_clrBuf (d : Dev) (x : Vr) (i : Nat) (v : Int) : (d.setVar x i v).clrBuf = d.clrBuf := rfl
@[simp] theorem Dev.setVar_reports (d : Dev) (x : Vr) (i : Nat) (v : Int) : (d.setVar x i v).reports = d.reports := rfl
@[simp] theorem Dev.setVar_intake (d : Dev) (x : Vr) (i : Nat) (v : Int) : (d.setVar x i v).intake = d.intake := rfl
@[simp] theorem Dev.setVar_sagrCur (d : Dev) (x : Vr) (i : Nat) (v : Int) : (d.setVar x i v).sagrCur = d.sagrCur := rfl
@[simp] theorem Dev.setVar_sagrQ (d : Dev) (x : Vr) (i : Nat) (v : Int) : (d.setVar x i v).sagrQ = d.sagrQ := rfl
@[simp] theorem Dev.setVar_solQ (d : Dev) (x : Vr) (i : Nat) (v : Int) : (d.setVar x i v).solQ = d.solQ := rfl
@[simp] theorem Dev.setVar_parcels (d : Dev) (x : Vr) (i : Nat) (v : Int) : (d.setVar x i v).parcels = d.parcels := rfl
@[simp] theorem Dev.setVar_canHold (d : Dev) (x : Vr) (i : Nat) (v : Int) : (d.setVar x i v).canHold = d.canHold := rfl
@[simp] theorem Dev.setVar_bytes (d : Dev) (x : Vr) (i : Nat) (v : Int) : (d.setVar x i v).bytes = d.bytes := rfl
@[simp] theorem Dev.setVar_tlb (d : Dev) (x : Vr) (i : Nat) (v : Int) : (d.setVar x i v).tlb = d.tlb := rfl
@[simp] theorem Dev.setVar_dmaCh (d : Dev) (x : Vr) (i : Nat) (v : Int) : (d.setVar x i v).dmaCh = d.dmaCh := rfl
@[simp] theorem Dev.setVar_dmaBad (d : Dev) (x : Vr) (i : Nat) (v : Int) : (d.setVar x i v).dmaBad = d.dmaBad := rfl
@[simp] theorem Dev.setVar_hist (d : Dev) (x : Vr) (i : Nat) (v : Int) : (d.setVar x i v).hist = d.hist := rfl
@[simp] theorem Dev.setVar_free (d : Dev) (x : Vr) (i : Nat) (v : Int) : (d.setVar x i v).free = d.free := rfl
@[simp] theorem Dev.setVar_acc (d : Dev) (x : Vr) (i : Nat) (v : Int) : (d.setVar x i v).acc = d.acc := rfl
@[simp] theorem Dev.setVar_resp (d : Dev) (x : Vr) (i : Nat) (v : Int) : (d.setVar x i v).resp = d.resp := rfl
@[simp] theorem Dev.setVar_rdata (d : Dev) (x : Vr) (i : Nat) (v : Int) : (d.setVar x i v).rdata = d.rdata := rfl

/-! ### Small operations -/

@[simp] theorem Dev.when_true (d : Dev) (k : Dev → Dev) : d.when true k = k d := rfl
@[simp] theorem Dev.when_false (d : Dev) (k : Dev → Dev) : d.when false k = d := rfl
@[simp] theorem Dev.each_nil (d : Dev) (k : Nat → Dev → Dev) : d.each [] k = d := rfl
@[simp] theorem Dev.each_cons (d : Dev) (x : Nat) (l : List Nat) (k : Nat → Dev → Dev) : d.each (x :: l) k = (k x d).each l k := rfl
@[simp] theorem Dev.useFree_get (d : Dev) (g : Fld) (j : Nat) : d.useFree.get g j = d.get g j := rfl
@[simp] theorem Dev.useFree_var (d : Dev) (x : Vr) (j : Nat) : d.useFree.var x j = d.var x j := rfl
@[simp] theorem Dev.good_get (d : Dev) (g : Fld) (j : Nat) : d.good.get g j = d.get g j := rfl
@[simp] theorem Dev.good_var (d : Dev) (x : Vr) (j : Nat) : d.good.var x j = d.var x j := rfl
@[simp] theorem Dev.good_resp (d : Dev) : d.good.resp = 1 := rfl
@[simp] theorem Dev.fail_get (d : Dev) (g : Fld) (j : Nat) : d.fail.get g j = d.get g j := rfl
@[simp] theorem Dev.fail_var (d : Dev) (x : Vr) (j : Nat) : d.fail.var x j = d.var x j := rfl
@[simp] theorem Dev.fail_resp (d : Dev) : d.fail.resp = 2 := rfl
@[simp] theorem Dev.asBank_get (d : Dev) (b : Nat) (k : Dev → Dev) (g : Fld) (j : Nat) :
    (d.asBank b k).get g j = (k { d with acc := b }).get g j := rfl
@[simp] theorem Dev.asBank_var (d : Dev) (b : Nat) (k : Dev → Dev) (x : Vr) (j : Nat) :
    (d.asBank b k).var x j = (k { d with acc := b }).var x j := rfl
@[simp] theorem Dev.acc_get (d : Dev) (b : Nat) (g : Fld) (j : Nat) : ({ d with acc := b } : Dev).get g j = d.get g j := rfl
@[simp] theorem Dev.acc_var (d : Dev) (b : Nat) (x : Vr) (j : Nat) : ({ d with acc := b } : Dev).var x j = d.var x j := rfl
@[simp] theorem Dev.acc_on (d : Dev) (b : Nat) (g : Fld) (j : Nat) : ({ d with acc := b } : Dev).on g j = d.on g j := rfl
@[simp] theorem Dev.report_get (d : Dev) (a b c e : Nat) (l : List Nat) (g : Fld) (j : Nat) : (d.report a b c e l).get g j = d.get g j := rfl
@[simp] theorem Dev.report_var (d : Dev) (a b c e : Nat) (l : List Nat) (x : Vr) (j : Nat) : (d.report a b c e l).var x j = d.var x j := rfl

/-- A list of updates keeps what every one of them keeps. -/
theorem Dev.each_keeps {α : Type} (p : Dev → α) (k : Nat → Dev → Dev) (l : List Nat) (d : Dev) (h : ∀ i ∈ l, ∀ a, p (k i a) = p a) :
    p (d.each l k) = p d := by
  induction l generalizing d with
  | nil => rfl
  | cons x t ih =>
    rw [Dev.each_cons, ih (k x d) (fun i hi a => h i (List.mem_cons_of_mem _ hi) a), h x List.mem_cons_self]

/-- A list of updates keeps an invariant that every one of them keeps. -/
theorem Dev.each_inv (P : Dev → Prop) (k : Nat → Dev → Dev) (l : List Nat) (d : Dev) (h0 : P d) (h : ∀ i ∈ l, ∀ a, P a → P (k i a)) :
    P (d.each l k) := by
  induction l generalizing d with
  | nil => exact h0
  | cons x t ih => exact ih (k x d) (h x List.mem_cons_self d h0) (fun i hi a ha => h i (List.mem_cons_of_mem _ hi) a ha)

/-! ### State -/

@[simp] theorem State.upd_eq (s : State) (f : Dev → Dev) : s.upd f = .next { s with dev := f s.dev } := rfl

end Sys2Proof.Machine
end

