-- ==== Sys2Proof/Laws/Common.lean ====
section
/-! SUPPORT. The shared operations of the common first page: an event counted, an interrupt, an error, an access. Each changes fields of the
common page alone, so a field of any other page reads as before. -/

namespace Sys2Proof

/-- A field that does not lie on the common first page (R49). -/
def Fld.own (f : Fld) : Bool := decide (f.kid < 0x80 * 4194304 ∨ 0x81 * 4194304 ≤ f.kid)

end Sys2Proof

namespace Sys2Proof.Machine

/-- A field off the common page is none of the fields on it. -/
theorem own_ne {g f : Fld} (h : g.own = true) (hf : f.own = false) : g.kid ≠ f.kid := by
  intro e; simp [Fld.own, e] at h hf; omega

/-- A write of a field on the common page leaves every other page alone. -/
theorem Dev.set_common (d : Dev) {f g : Fld} (i v j : Nat) (hf : f.own = false) (h : g.own = true) : (d.set f i v).get g j = d.get g j :=
  Dev.get_set_kid d i j v (own_ne h hf)

/-! ### Counters of Cones -/

theorem Dev.coneAdd_get (d : Dev) (k n : Nat) (g : Fld) (j : Nat) (h : g.own = true) : (d.coneAdd k n).get g j = d.get g j := by
  unfold Dev.coneAdd
  dsimp only
  split
  · rw [Dev.set_common _ _ _ _ (by decide) h, Dev.set_common _ _ _ _ (by decide) h]
  · rw [Dev.set_common _ _ _ _ (by decide) h]

/-- Counting changes CNT and WRAP of the counters alone. -/
theorem Dev.coneAdd_get_ne (d : Dev) (k n : Nat) {g : Fld} (j : Nat) (h : g.kid ≠ F.COM_CONE_CNT_V.kid) (h' : g.kid ≠ F.COM_CONE_CNT_WRAP.kid) :
    (d.coneAdd k n).get g j = d.get g j := by
  unfold Dev.coneAdd
  dsimp only
  split
  · rw [Dev.get_set_kid _ _ _ _ h', Dev.get_set_kid _ _ _ _ h]
  · rw [Dev.get_set_kid _ _ _ _ h]

theorem Dev.coneAdd_rest (d : Dev) (k n : Nat) : { d.coneAdd k n with regs := d.regs } = d := by
  unfold Dev.coneAdd; dsimp only; split <;> rfl

/-- Counting an event changes counters alone. -/
theorem Dev.cone_get (d : Dev) (slot ev n : Nat) (g : Fld) (j : Nat) (h : g.own = true) : (d.cone slot ev n).get g j = d.get g j :=
  Dev.each_keeps (fun a => a.get g j) _ _ d (fun i _ a => by
    by_cases hc : a.coneSel slot (4 * slot + i) ev = true
    · rw [if_pos hc]; exact a.coneAdd_get _ _ g j h
    · rw [if_neg hc])

theorem Dev.cone_get_ne (d : Dev) (slot ev n : Nat) {g : Fld} (j : Nat) (h : g.kid ≠ F.COM_CONE_CNT_V.kid) (h' : g.kid ≠ F.COM_CONE_CNT_WRAP.kid) :
    (d.cone slot ev n).get g j = d.get g j :=
  Dev.each_keeps (fun a => a.get g j) _ _ d (fun i _ a => by
    by_cases hc : a.coneSel slot (4 * slot + i) ev = true
    · rw [if_pos hc]; exact a.coneAdd_get_ne _ _ j h h'
    · rw [if_neg hc])

theorem Dev.cone_rest (d : Dev) (slot ev n : Nat) : { d.cone slot ev n with regs := d.regs } = d := by
  have key : ∀ (l : List Nat) (a : Dev), { a.each l (fun j b => if b.coneSel slot (4 * slot + j) ev then b.coneAdd (4 * slot + j) n else b) with
      regs := d.regs } = { a with regs := d.regs } := by
    intro l
    induction l with
    | nil => intro a; rfl
    | cons x t ih =>
      intro a
      rw [Dev.each_cons, ih]
      split
      · have := a.coneAdd_rest (4 * slot + x) n
        have e : { a.coneAdd (4 * slot + x) n with regs := d.regs } = { ({ a.coneAdd (4 * slot + x) n with regs := a.regs } : Dev) with regs := d.regs } := rfl
        rw [e, this]
      · rfl
  exact key [0, 1, 2, 3] d

/-! ### Everything but the registers -/

/-- A state of the device with its registers put aside. -/
def Dev.rest (d : Dev) : Dev := { d with regs := [] }

@[simp] theorem Dev.set_rest (d : Dev) (f : Fld) (i v : Nat) : (d.set f i v).rest = d.rest := rfl

@[simp] theorem Dev.cone_rest_eq (d : Dev) (slot ev n : Nat) : (d.cone slot ev n).rest = d.rest := by
  have h := d.cone_rest slot ev n
  calc (d.cone slot ev n).rest = ({ d.cone slot ev n with regs := d.regs } : Dev).rest := rfl
    _ = d.rest := by rw [h]

/-- What the rest of a device says of its variables. -/
theorem Dev.var_of_rest {d e : Dev} (h : d.rest = e.rest) (x : Vr) (j : Nat) : d.var x j = e.var x j := by
  have hv : d.vars = e.vars := congrArg (fun a => a.vars) h
  simp [Dev.var, hv]

@[simp] theorem Dev.cone_var (d : Dev) (slot ev n : Nat) (x : Vr) (j : Nat) : (d.cone slot ev n).var x j = d.var x j :=
  Dev.var_of_rest (by simp) x j

/-! ### Interrupts -/

theorem Dev.irq_get (d : Dev) (slot b : Nat) (g : Fld) (j : Nat) (h : g.own = true) : (d.irq slot b).get g j = d.get g j := by
  unfold Dev.irq
  dsimp only
  split
  · rfl
  · rw [Dev.cone_get _ _ _ _ _ _ h, Dev.set_common _ _ _ _ (by decide) h]

@[simp] theorem Dev.irq_rest (d : Dev) (slot b : Nat) : (d.irq slot b).rest = d.rest := by
  unfold Dev.irq
  dsimp only
  split
  · rfl
  · rw [Dev.cone_rest_eq, Dev.set_rest]

theorem Dev.level_get (d : Dev) (slot b : Nat) (v : Bool) (g : Fld) (j : Nat) (h : g.own = true) : (d.level slot b v).get g j = d.get g j := by
  unfold Dev.level
  dsimp only
  split
  · rfl
  · split
    · rw [Dev.irq_get _ _ _ _ _ h, Dev.set_common _ _ _ _ (by decide) h]
    · rw [Dev.set_common _ _ _ _ (by decide) h]

@[simp] theorem Dev.level_rest (d : Dev) (slot b : Nat) (v : Bool) : (d.level slot b v).rest = d.rest := by
  unfold Dev.level
  dsimp only
  split
  · rfl
  · split
    · rw [Dev.irq_rest, Dev.set_rest]
    · rfl

@[simp] theorem Dev.irq_var (d : Dev) (slot b : Nat) (x : Vr) (j : Nat) : (d.irq slot b).var x j = d.var x j := Dev.var_of_rest (by simp) x j
@[simp] theorem Dev.level_var (d : Dev) (slot b : Nat) (v : Bool) (x : Vr) (j : Nat) : (d.level slot b v).var x j = d.var x j :=
  Dev.var_of_rest (by simp) x j

/-! ### Errors -/

theorem Dev.errCapture_get (d : Dev) (slot c woff bank bcode : Nat) (g : Fld) (j : Nat) (h : g.own = true) :
    (d.errCapture slot c woff bank bcode).get g j = d.get g j := by
  unfold Dev.errCapture
  dsimp only
  split
  · split
    · rfl
    · rw [Dev.cone_get _ _ _ _ _ _ h, Dev.set_common _ _ _ _ (by decide) h]
  · rw [Dev.cone_get _ _ _ _ _ _ h, Dev.level_get _ _ _ _ _ _ h]
    iterate 13 rw [Dev.set_common _ _ _ _ (by decide) h]

@[simp] theorem Dev.errCapture_rest (d : Dev) (slot c woff bank bcode : Nat) : (d.errCapture slot c woff bank bcode).rest = d.rest := by
  unfold Dev.errCapture
  dsimp only
  split
  · split
    · rfl
    · rw [Dev.cone_rest_eq, Dev.set_rest]
  · simp only [Dev.cone_rest_eq, Dev.level_rest, Dev.set_rest]

theorem Dev.errAcc_get (d : Dev) (slot c off bank : Nat) (g : Fld) (j : Nat) (h : g.own = true) :
    (d.errAcc slot c off bank).get g j = d.get g j := by
  unfold Dev.errAcc
  split
  · exact d.errCapture_get _ _ _ _ _ g j h
  · exact d.errCapture_get _ _ _ _ _ g j h

theorem Dev.errBlk_get (d : Dev) (slot bcode cls : Nat) (pay : List Nat) (g : Fld) (j : Nat) (h : g.own = true) :
    (d.errBlk slot bcode cls pay).get g j = d.get g j := d.errCapture_get _ _ _ _ _ g j h

@[simp] theorem Dev.errBlk_var (d : Dev) (slot bcode cls : Nat) (pay : List Nat) (x : Vr) (j : Nat) :
    (d.errBlk slot bcode cls pay).var x j = d.var x j := by
  have h : (d.errCapture slot 7 0 d.acc bcode).var x j = d.var x j := Dev.var_of_rest (by simp) x j
  exact h

@[simp] theorem Dev.errAcc_var (d : Dev) (slot c off bank : Nat) (x : Vr) (j : Nat) : (d.errAcc slot c off bank).var x j = d.var x j := by
  have h : (d.errCapture slot c (off / 4) bank 0).var x j = d.var x j := Dev.var_of_rest (by simp) x j
  unfold Dev.errAcc
  split
  · exact h
  · exact h

/-- A block-specific error is reported (R68), whether or not it is captured. -/
theorem Dev.errBlk_reports (d : Dev) (slot bcode cls : Nat) (pay : List Nat) :
    ∃ w, (d.errBlk slot bcode cls pay).reports = d.reports ++ [⟨slot, cls, 0x0200 + bcode, w, pay, d.var V.grove 0⟩] := by
  have hr : (d.errCapture slot 7 0 d.acc bcode).reports = d.reports :=
    congrArg (fun a => a.reports) (d.errCapture_rest slot 7 0 d.acc bcode)
  have hv : (d.errCapture slot 7 0 d.acc bcode).var V.grove 0 = d.var V.grove 0 := Dev.var_of_rest (by simp) _ _
  exact ⟨(d.errCapture slot 7 0 d.acc bcode).errWord slot, by simp only [Dev.errBlk, Dev.report, hr, hv]⟩

/-! ### Accesses (R56) -/

/-- An access that R56 accepts as a write: privileged, from the owning plane or the keeper, and no DMA engine. -/
theorem accCause_none {slot off : Nat} {a : Acc} (hp : a.priv = true) (hd : ¬ (11 ≤ a.bank.val ∧ a.bank.val ≤ 14))
    (hb : planeOfBank a.bank.val = planeOfSlot slot ∨ a.bank.val = 10) : accCause slot off a true = none := by
  unfold accCause
  rw [if_neg (by simp [hp]), if_neg (fun h => hd ⟨h.1, h.2.1⟩), if_neg]
  rintro ⟨-, -, h, h'⟩
  exact hb.elim h h'

/-- Two changes that agree on the device as the access finds it. -/
theorem Dev.asBank_congr (d : Dev) (b : Nat) {k k' : Dev → Dev} (h : k { d with acc := b } = k' { d with acc := b }) :
    d.asBank b k = d.asBank b k' := by
  unfold Dev.asBank; rw [h]

/-- What R56 accepts reaches the block, but for BUS and FLT under Kiln (R589). -/
theorem Dev.wrAny_taken (d : Dev) {slot off : Nat} {a : Acc} (k : Dev → Dev) (h : accCause slot off a true = none)
    (hk : ¬ (d.var V.underKiln slot = 1 ∧ (slot = 0x28 ∨ slot = 0x29))) : d.wrAny slot off a k = ((d.cone slot 2).asBank a.bank.val k).good := by
  simp only [Dev.wrAny, h]; rw [if_neg hk]

/-- An accepted write with no soft reset of the block under way: its effect, with the access counted and the bank known to the errors it raises. -/
theorem Dev.wr_taken (d : Dev) {slot off : Nat} {a : Acc} {act : Bool} (k : Dev → Dev) (h : accCause slot off a true = none)
    (hk : ¬ (d.var V.underKiln slot = 1 ∧ (slot = 0x28 ∨ slot = 0x29))) (hs : d.var V.softRst slot = 0) :
    d.wr slot off a k act = ((d.cone slot 2).asBank a.bank.val k).good := by
  unfold Dev.wr
  rw [Dev.wrAny_taken d _ h hk]
  exact congrArg Dev.good (Dev.asBank_congr _ _ (by simp [hs]))

/-- During a soft reset of the block an accepted action has no effect but LOCKWR (R67). -/
theorem Dev.wr_locked (d : Dev) {slot off : Nat} {a : Acc} (k : Dev → Dev) (h : accCause slot off a true = none)
    (hk : ¬ (d.var V.underKiln slot = 1 ∧ (slot = 0x28 ∨ slot = 0x29))) (hs : d.var V.softRst slot ≠ 0) :
    d.wr slot off a k = ((d.cone slot 2).asBank a.bank.val (fun e => e.errAcc slot 0 off a.bank.val)).good := by
  unfold Dev.wr
  rw [Dev.wrAny_taken d _ h hk]
  exact congrArg Dev.good (Dev.asBank_congr _ _ (by simp [hs]))

/-- A refused write changes no field but the common page's: its error response, the capture and the report (R56, R53). -/
theorem Dev.wr_refused (d : Dev) {slot off c : Nat} {a : Acc} {act : Bool} (k : Dev → Dev) (h : accCause slot off a true = some c) :
    d.wr slot off a k act = ((d.cone slot 3).errAcc slot c off a.bank.val).fail := by
  simp only [Dev.wr, Dev.wrAny, h]

@[simp] theorem Dev.acc_chSel (d : Dev) (b slot : Nat) (a : Acc) : ({ d with acc := b } : Dev).chSel slot a = d.chSel slot a := rfl

@[simp] theorem Dev.cone_chSel (d : Dev) (s ev n slot : Nat) (a : Acc) : (d.cone s ev n).chSel slot a = d.chSel slot a :=
  d.cone_get_ne _ _ _ _ (by decide) (by decide)

/-- A write through the channel window to a channel that exists (R57, R59). -/
theorem Dev.wrCh_taken (d : Dev) {slot off : Nat} {a : Acc} (k : Nat → Dev → Dev) (h : accCause slot off a true = none)
    (hk : ¬ (d.var V.underKiln slot = 1 ∧ (slot = 0x28 ∨ slot = 0x29))) (hs : d.var V.softRst slot = 0)
    (hc : d.chSel slot a < chCnt slot) :
    d.wrCh slot off a k = ((d.cone slot 2).asBank a.bank.val (fun e => k (d.chSel slot a) (e.cone slot 7))).good := by
  unfold Dev.wrCh
  rw [Dev.wr_taken d _ h hk hs]
  exact congrArg Dev.good (Dev.asBank_congr _ _ (by simp only [Dev.acc_chSel, Dev.cone_chSel, if_pos hc]))

end Sys2Proof.Machine
end

