-- ==== Sys2Proof/Laws/Memory.lean ====
section
/-! SUPPORT. DRAM: a read after a write, and every memory operation keeps the canonical form. -/

namespace Sys2Proof.Machine

@[simp] theorem memGet_nil (a : Nat) : memGet [] a = memUnlisted := rfl

theorem memGet_cons (x : Nat) (b : Byte) (t : List Host.Cell) (a : Nat) :
    memGet ((x, b) :: t) a = if x = a then b else memGet t a := rfl

/-- Below the lowest listed address everything reads as unlisted. -/
theorem memGet_below (m : List Host.Cell) (a : Nat) (h : ∀ e ∈ m, a < e.1) : memGet m a = memUnlisted := by
  induction m with
  | nil => rfl
  | cons e t ih =>
    obtain ⟨x, b⟩ := e
    have hx : a < x := h (x, b) List.mem_cons_self
    rw [memGet_cons, if_neg (by omega)]
    exact ih (fun e he => h e (List.mem_cons_of_mem _ he))

/-- The canonical form as a property. -/
theorem Memory.wf_cons (x : Nat) (b : Byte) (t : List Host.Cell) :
    Memory.wf ((x, b) :: t) = true ↔ b ≠ memUnlisted ∧ (∀ e ∈ t, x < e.1) ∧ Memory.wf t = true := by
  simp [Memory.wf, and_assoc]

/-- The addresses after a write are the old ones and the address written. -/
theorem memPut_addr (m : List Host.Cell) (a : Nat) (b : Byte) (e : Host.Cell) (h : e ∈ memPut m a b) : e.1 = a ∨ e ∈ m := by
  induction m with
  | nil =>
    unfold memPut at h
    split at h
    · cases h
    · simp at h; exact Or.inl (by rw [h])
  | cons c t ih =>
    obtain ⟨x, v⟩ := c
    unfold memPut at h
    split at h
    · rcases List.mem_cons.mp h with h | h
      · exact Or.inr (by rw [h]; exact List.mem_cons_self)
      · exact (ih h).imp id (List.mem_cons_of_mem _)
    · split at h
      · split at h
        · exact Or.inr (List.mem_cons_of_mem _ h)
        · rcases List.mem_cons.mp h with h | h
          · exact Or.inl (by rw [h])
          · exact Or.inr (List.mem_cons_of_mem _ h)
      · split at h
        · exact Or.inr h
        · rcases List.mem_cons.mp h with h | h
          · exact Or.inl (by rw [h])
          · exact Or.inr h

/-- A write keeps the canonical form. -/
theorem memPut_wf (m : List Host.Cell) (a : Nat) (b : Byte) (h : Memory.wf m = true) : Memory.wf (memPut m a b) = true := by
  induction m with
  | nil =>
    unfold memPut
    split
    · rfl
    · rename_i hb; exact (Memory.wf_cons _ _ _).mpr ⟨hb, by simp, rfl⟩
  | cons c t ih =>
    obtain ⟨x, v⟩ := c
    obtain ⟨hv, hlt, ht⟩ := (Memory.wf_cons _ _ _).mp h
    unfold memPut
    split
    · rename_i hx
      refine (Memory.wf_cons _ _ _).mpr ⟨hv, fun e he => ?_, ih ht⟩
      rcases memPut_addr t a b e he with h' | h'
      · omega
      · exact hlt e h'
    · rename_i hx
      split
      · rename_i hxa
        split
        · exact ht
        · rename_i hb
          exact (Memory.wf_cons _ _ _).mpr ⟨hb, fun e he => by have := hlt e he; omega, ht⟩
      · rename_i hxa
        split
        · exact h
        · rename_i hb
          refine (Memory.wf_cons _ _ _).mpr ⟨hb, fun e he => ?_, h⟩
          rcases List.mem_cons.mp he with h' | h'
          · rw [h']; show a < x; omega
          · have := hlt e h'; omega

/-- A byte after a write, of memory in canonical form. -/
theorem memGet_memPut (m : List Host.Cell) (a k : Nat) (b : Byte) (h : Memory.wf m = true) :
    memGet (memPut m a b) k = if k = a then b else memGet m k := by
  induction m with
  | nil =>
    unfold memPut
    split
    · rename_i hb; split <;> simp [hb]
    · rw [memGet_cons]
      by_cases hk : k = a
      · simp [hk]
      · have hk' : ¬ a = k := fun e => hk e.symm
        rw [if_neg hk', if_neg hk]
  | cons c t ih =>
    obtain ⟨x, v⟩ := c
    obtain ⟨hv, hlt, ht⟩ := (Memory.wf_cons _ _ _).mp h
    unfold memPut
    split
    · rename_i hx
      rw [memGet_cons, memGet_cons, ih ht]
      by_cases hk : k = a
      · subst hk; rw [if_neg (by omega)]; simp
      · by_cases hxk : x = k
        · simp [hxk, hk]
        · simp [hxk, hk]
    · rename_i hx
      split
      · rename_i hxa
        subst hxa
        split
        · rename_i hb
          rw [memGet_cons]
          by_cases hk : k = x
          · subst hk; rw [memGet_below t k hlt, if_pos rfl, hb]
          · rw [if_neg hk, if_neg (fun e => hk e.symm)]
        · rw [memGet_cons, memGet_cons]
          by_cases hk : k = x
          · subst hk; simp
          · have hk' : ¬ x = k := fun e => hk e.symm
            rw [if_neg hk', if_neg hk, if_neg hk']
      · rename_i hxa
        split
        · rename_i hb
          by_cases hk : k = a
          · subst hk
            rw [if_pos rfl, hb]
            exact memGet_below _ _ (fun e he => by
              rcases List.mem_cons.mp he with h' | h'
              · rw [h']; show k < x; omega
              · have := hlt e h'; omega)
          · rw [if_neg hk]
        · rw [memGet_cons a]
          by_cases hk : k = a
          · subst hk; simp
          · rw [if_neg (fun e => hk e.symm), if_neg hk]

theorem memGet_memPut_same (m : List Host.Cell) (a : Nat) (b : Byte) (h : Memory.wf m = true) : memGet (memPut m a b) a = b := by
  rw [memGet_memPut m a a b h, if_pos rfl]

theorem memGet_memPut_ne (m : List Host.Cell) {a k : Nat} (b : Byte) (h : Memory.wf m = true) (hk : k ≠ a) :
    memGet (memPut m a b) k = memGet m k := by
  rw [memGet_memPut m a k b h, if_neg hk]

/-- Writing a list of bytes keeps the canonical form. -/
theorem memWrite_wf (l : List Nat) (m : List Host.Cell) (a : Nat) (h : Memory.wf m = true) : Memory.wf (memWrite m a l) = true := by
  induction l generalizing m a with
  | nil => exact h
  | cons x t ih => exact ih _ _ (memPut_wf m a _ h)

/-- Bytes outside the list are as before. -/
theorem memWrite_frame (l : List Nat) (m : List Host.Cell) (a k : Nat) (h : Memory.wf m = true) (hk : k < a ∨ a + l.length ≤ k) :
    memGet (memWrite m a l) k = memGet m k := by
  induction l generalizing m a with
  | nil => rfl
  | cons x t ih =>
    simp only [List.length_cons] at hk
    show memGet (memWrite (memPut m a _) (a + 1) t) k = _
    rw [ih _ _ (memPut_wf m a _ h) (by omega), memGet_memPut_ne m _ h (by omega)]

/-- The store of a device access keeps the canonical form. -/
theorem State.devStore_wf (l : List Nat) (s : State) (iova k : Nat) (pages : List Nat) (h : Memory.wf s.mem = true) :
    Memory.wf (s.devStore iova pages k l).mem = true := by
  induction l generalizing s k with
  | nil => exact h
  | cons x t ih => exact ih _ _ (memPut_wf s.mem _ _ h)

/-- Leaving out entries keeps the canonical form. -/
theorem Memory.wf_filter (m : List Host.Cell) (p : Host.Cell → Bool) (h : Memory.wf m = true) : Memory.wf (m.filter p) = true := by
  induction m with
  | nil => rfl
  | cons e t ih =>
    obtain ⟨x, b⟩ := e
    simp only [Memory.wf, Bool.and_eq_true, List.all_eq_true] at h
    rw [List.filter_cons]
    split
    · simp only [Memory.wf, Bool.and_eq_true, List.all_eq_true]
      exact ⟨⟨h.1.1, fun e he => h.1.2 e (List.mem_filter.mp he).1⟩, ih h.2⟩
    · exact ih h.2

/-- Memory that has lost contents is in canonical form. -/
theorem lostMem_wf (g n : Nat) (m : List Host.Cell) (hm : Memory.wf m = true) : Memory.wf (lostMem g n m) = true := by
  have key : ∀ (l : List (Nat × Byte)) (m : List Host.Cell), Memory.wf m = true →
      Memory.wf (l.foldl (fun m e => if lostAt g e.1 then memPut m e.1 e.2 else m) m) = true := by
    intro l
    induction l with
    | nil => intro m h; exact h
    | cons e t ih =>
      intro m h
      rw [List.foldl_cons]
      refine ih _ ?_
      split
      · exact memPut_wf m _ _ h
      · exact h
  exact key _ _ (Memory.wf_filter m _ hm)

end Sys2Proof.Machine
end

