-- ==== Sys2Proof/Laws/Ops.lean ====
section
/-! SUPPORT. The CRC of records and images stays a word, and an access of a device with the IOMMU in Bare mode reaches its own bytes (R470, R478, R563). -/

namespace Sys2Proof

theorem crcBit_lt (n c : Nat) (h : c < 2 ^ 32) : crcBit n c < 2 ^ 32 := by
  induction n generalizing c with
  | zero => exact h
  | succ k ih =>
    unfold crcBit
    refine ih _ ?_
    split
    · exact Nat.xor_lt_two_pow (by omega) (by decide)
    · omega

/-- The CRC is a word. -/
theorem crc32c_lt (l : List Nat) : crc32c l < 2 ^ 32 := by
  unfold crc32c
  refine Nat.xor_lt_two_pow ?_ (by decide)
  have key : ∀ (l : List Nat) (c : Nat), c < 2 ^ 32 → l.foldl (fun c b => crcBit 8 (c ^^^ (b % 256))) c < 2 ^ 32 := by
    intro l
    induction l with
    | nil => intro c h; exact h
    | cons x t ih => intro c h; exact ih _ (crcBit_lt _ _ (Nat.xor_lt_two_pow h (by omega)))
  exact key l _ (by decide)

theorem padTo_length (n : Nat) (l : List Nat) : (padTo n l).length = n := by simp [padTo]

theorem leBytes_length (n v : Nat) : (leBytes n v).length = n := by
  induction n generalizing v with
  | zero => rfl
  | succ k ih => simp [leBytes, ih]

end Sys2Proof

namespace Sys2Proof.Machine

/-! ### Device accesses in Bare mode -/

theorem State.xlate_bare (s : State) (dev page : Nat) (wr : Bool) (h : s.dev.get F.IOMU_DDTP_V 0 % 16 = 1) :
    s.xlate dev page wr = (s, .ok page) := by
  simp [State.xlate, h]

/-- In Bare mode a page is its own translation, and nothing changes. -/
theorem State.xlateAll_bare (s : State) (dev page n : Nat) (wr : Bool) (h : s.dev.get F.IOMU_DDTP_V 0 % 16 = 1) :
    s.xlateAll dev page n wr = (s, .ok ((List.range n).map (fun k => page + k))) := by
  induction n generalizing page with
  | zero => rfl
  | succ k ih =>
    simp only [State.xlateAll, State.xlate_bare s dev page wr h, ih (page + 1)]
    congr 2
    rw [List.range_succ_eq_map]
    simp only [List.map_cons, List.map_map, Nat.add_zero, List.cons.injEq, true_and]
    exact List.map_congr_left (fun a _ => by simp only [Function.comp_apply]; omega)

/-- In Bare mode a byte of an access lies at its own address. -/
theorem physOf_bare (iova n k : Nat) (h : k < n) :
    physOf iova ((List.range (pagesOf iova n)).map (fun j => iova / 4096 + j)) k = iova + k := by
  have hp : (iova + k) / 4096 - iova / 4096 < pagesOf iova n := by
    unfold pagesOf
    rw [if_neg (by omega)]
    have := Nat.div_le_div_right (c := 4096) (show iova + k ≤ iova + n - 1 by omega)
    omega
  have hle := Nat.div_le_div_right (c := 4096) (show iova ≤ iova + k by omega)
  unfold physOf
  rw [List.getD_eq_getElem?_getD, List.getElem?_map, List.getElem?_range hp]
  simp only [Option.map_some, Option.getD_some]
  omega

/-- In Bare mode an access opens unless a byte of it lies outside DRAM or in a poisoned block. -/
theorem State.devOpen_bare (s : State) (dev iova n : Nat) (wr : Bool) (h : s.dev.get F.IOMU_DDTP_V 0 % 16 = 1)
    (ha : s.dev.accessBad iova n ((List.range (pagesOf iova n)).map (fun j => iova / 4096 + j)) wr = none) :
    s.devOpen dev iova n wr = (s, .ok ((List.range (pagesOf iova n)).map (fun j => iova / 4096 + j))) := by
  simp only [State.devOpen, State.xlateAll_bare s dev _ _ wr h, ha]

/-- An access whose bytes all lie in DRAM, in blocks that are not poisoned, does not fail. -/
theorem Dev.accessBad_none (d : Dev) (iova n : Nat) (wr : Bool) (h : ∀ k < n, inDram (iova + k) = true ∧ d.poisoned (iova + k) = false) :
    d.accessBad iova n ((List.range (pagesOf iova n)).map (fun j => iova / 4096 + j)) wr = none := by
  unfold Dev.accessBad
  rw [List.findSome?_eq_none_iff]
  intro k hk
  have hk' : k < n := List.mem_range.mp hk
  obtain ⟨h1, h2⟩ := h k hk'
  simp only [physOf_bare iova n k hk', h1, h2]
  simp

end Sys2Proof.Machine
end

