-- ==== Sys2Proof/WellFormed.lean ====
section
/-! DEFINITION. What the outside world can send: the sizes that the spec gives the lists in a command's operands. Everything else is fixed
by the operands' types. An access that the register conventions refuse is well formed: its refusal is its effect. -/

namespace Sys2Proof

/-- A CAN frame (R399): at most 8, 64 or 2,048 bytes for classical CAN, CAN FD and CAN XL, and 11 identifier bits without IDE. -/
def CanIn.wf (f : CanIn) : Bool :=
  decide (f.data.length ≤ (if f.xlf then 2048 else if f.fdf then 64 else 8)) && (f.ide || decide (f.id.toNat < 2048))

/-- The sizes of a command's lists: the nine AGCs (R115), the 4,096 bins of the spectral monitor (R116), the 193 offsets at which a channel correlates (R149), the sixteen pairs of safe inputs (R373), the 272 samples that an impact's class needs and the 250 of a millisecond (R233 to R235), the 512 samples of a snapshot (R239), a Ride
input image of at most 64 bytes (R443), an Ethernet frame with its header (R429), the 1,024 bytes of a BULK frame (R537) and the 4,096 of a
block of the monitor (R655). -/
def Instr.wf (i : Instr) : Bool :=
  match i with
  | .agcUpdate m => m.paths.length == 9
  | .spectralScan _ bins _ => bins.length == 4096
  | .trackIntegration _ o => o.corr.length == 193
  | .safeInputSample x => x.length == 16
  | .acousticClassify _ x _ _ => decide (272 ≤ x.length)
  | .acousticPile x => decide (250 ≤ x.x.length)
  | .acousticSnapDone l => l.length == 512
  | .canFrameReceived _ f _ => f.wf
  | .rideUpReceived _ _ img _ _ _ => decide (img.length ≤ 64)
  | .ethFrameForward x _ => decide (14 ≤ x.data.length)
  | .bulkDataReceived x => x.data.length == 1024
  | .monBlk _ _ _ l => l.length == 4096
  | _ => true

end Sys2Proof
end

