-- ==== Sys2Proof/Tests/Slice0.lean ====
section
/-! SUPPORT. Tests of the model: ill-formed commands that WellFormed refuses, values that the spec works out, and a state for the hypotheses of every
statement. -/

namespace Sys2Proof.Machine

set_option linter.unusedVariables false
set_option Elab.async false
set_option synthInstance.maxSize 5000
set_option synthInstance.maxHeartbeats 400000

/-! ### Small states -/

/-- The state after reset with some fields and variables set. -/
def st (l : List (Fld × Nat × Nat)) (v : List (Vr × Nat × Int)) : State :=
  { State.reset with dev := v.foldl (fun d e => d.setVar e.1 e.2.1 e.2.2) (l.foldl (fun d e => d.set e.1 e.2.1 e.2.2) Dev.reset) }

/-- A state whose block window of UPD holds its own CRC. -/
def withCrc (s : State) : State := { s with dev := s.dev.set F.UPD_BLK_IDX2_CRC 0 (crc32c s.dev.winBytes) }

theorem withCrc_crc (s : State) : crc32c (withCrc s).dev.winBytes = (withCrc s).dev.get F.UPD_BLK_IDX2_CRC 0 := by
  have hw : (withCrc s).dev.winBytes = s.dev.winBytes := by
    have h : ∀ k, (withCrc s).dev.get F.UPD_BWIN_W k = s.dev.get F.UPD_BWIN_W k := fun k => Dev.get_set_kid _ _ _ _ (by decide)
    simp only [Dev.winBytes, h]
  rw [hw]
  exact ((Dev.get_set_same _ _ _ _).trans (Nat.mod_eq_of_lt (crc32c_lt _))).symm

/-! ### WellFormed -/

theorem test_wf_agc : Instr.wf (.agcUpdate ⟨[], 0⟩) = false := by decide
theorem test_wf_safe_inputs : Instr.wf (.safeInputSample []) = false := by decide
theorem test_wf_snapshot : Instr.wf (.acousticSnapDone [0]) = false := by decide
theorem test_wf_can_length : Instr.wf (.canFrameReceived 0 ⟨false, false, false, 5, 0, 0, List.replicate 9 0⟩ 0) = false := by decide
theorem test_wf_can_id : Instr.wf (.canFrameReceived 0 ⟨false, false, false, 2048, 0, 0, []⟩ 0) = false := by decide
theorem test_wf_ride_image : Instr.wf (.rideUpReceived 0 0 (List.replicate 65 0) 0 0 ()) = false := by decide
theorem test_wf_eth_frame : Instr.wf (.ethFrameForward ⟨0, 0, 0, 0, 0, none, []⟩ 0) = false := by decide
theorem test_wf_bulk : Instr.wf (.bulkDataReceived (⟨true, 5, 9, 0, 7, 2, 9, 0, 0, [1]⟩ : BulkIn)) = false := by decide
theorem test_wf_block : Instr.wf (.monBlk 0 1 0 []) = false := by decide
theorem test_wf_tick : Instr.wf .msTick = true := by decide

/-! ### Values that the spec works out -/

/-- The example after R48: the CLR header of slot 70 lies at offset 0x918. -/
theorem test_clr_header_70 : (regAt 0x0B 0x918).map (fun r => (r.reg.off, r.rep)) = some (0x800, 70) := by decide +kernel

/-- The same example: buffer 1 of slot 70 lies at offset 0x3340. -/
theorem test_clr_buffer_70 : clrPlace 0x3340 = (70, 1, 0) := by decide +kernel

/-- R510: EN resets to 1 in KILN and to 0 in WHL (R74). -/
theorem test_reset_en : (State.reset.dev.get F.COM_CTRL_EN 0x05, State.reset.dev.get F.COM_CTRL_EN 0x20) = (1, 0) := by decide +kernel

/-- The check value of CRC-32C, of the nine characters 1 to 9. -/
theorem test_crc32c : crc32c [0x31, 0x32, 0x33, 0x34, 0x35, 0x36, 0x37, 0x38, 0x39] = 0xE3069283 := by decide +kernel

/-- R80, R103: a millisecond passes in Grove time. -/
theorem test_ms_tick : (match execMsTick State.reset with | .next t => t.dev.var V.ticks 0 | _ => 0) = 1 := by decide +kernel

/-- R56: the data plane's write to LSW is refused with PLANE. -/
theorem test_plane : (match execLswOnWrite ⟨0, true⟩ true State.reset with
    | .next t => (t.dev.resp, t.dev.get F.COM_ERR_PLANE 0x22, t.dev.get F.COM_ERR_BANK 0x22) | _ => (0, 0, 0)) = (2, 1, 0) := by decide +kernel

/-- R45: an access to an unassigned slot. -/
theorem test_unassigned : (match execConfigAccessUnmapped ⟨3, true⟩ 0x3F 0x104 false State.reset with
    | .next t => (t.dev.resp, t.dev.get F.COM_ERR_UNMAP 0, t.dev.get F.COM_ERR_WOFF 0) | _ => (0, 0, 0)) = (2, 1, 0x41) := by decide +kernel

/-- R61: the high half is written with the low half that waits. -/
theorem test_pair : (match execPairHighWrite ⟨10, true⟩ 0x01 0x824 5 (st [] [(V.wrTag, 26, 0x821), (V.wrHold, 26, 7)]) with
    | .next t => t.dev.get F.PWR_ALARM_ALARM 0 | _ => 0) = 0x500000007 := by decide +kernel

/-! ### A state for the hypotheses of every statement -/

theorem toNat_of_lt {n : Nat} (h : n < 2 ^ 32) : n = (BitVec.ofNat 32 n).toNat := (Nat.mod_eq_of_lt h).symm

theorem imgBlock_of (s : State) (addr len n : Nat) (b : List Nat)
    (h : (inDram (addr + 4096 * n) && inDram (addr + 4096 * n + min 4096 (len - 4096 * n) - 1) &&
      (List.range (blocksOf (addr + 4096 * n) (min 4096 (len - 4096 * n)))).all (fun j => !s.dev.poisoned ((addr + 4096 * n) / 32 * 32 + 32 * j))) = true)
    (hb : memRead s.mem (addr + 4096 * n) (min 4096 (len - 4096 * n)) = b) : s.imgBlock addr len n = some (padTo 4096 b) := by
  unfold State.imgBlock
  rw [← hb]
  exact if_pos h

/-- One byte of erased DRAM is the image that a slot already holds. -/
theorem imgBlock_witness : ({ st [(F.UPD_XFER_OP, 0, 1), (F.UPD_STATE_BOOTED, 0, 0)] [(V.slTotal, 1, 1), (V.slDone, 1, 1), (V.xfAddr, 0, 0x100000000), (V.xfLen, 0, 1)] with dev := { (st [(F.UPD_XFER_OP, 0, 1), (F.UPD_STATE_BOOTED, 0, 0)] [(V.slTotal, 1, 1), (V.slDone, 1, 1), (V.xfAddr, 0, 0x100000000), (V.xfLen, 0, 1)]).dev with bytes := [((1, 131072), [0])] } } : State).imgBlock (({ st [(F.UPD_XFER_OP, 0, 1), (F.UPD_STATE_BOOTED, 0, 0)] [(V.slTotal, 1, 1), (V.slDone, 1, 1), (V.xfAddr, 0, 0x100000000), (V.xfLen, 0, 1)] with dev := { (st [(F.UPD_XFER_OP, 0, 1), (F.UPD_STATE_BOOTED, 0, 0)] [(V.slTotal, 1, 1), (V.slDone, 1, 1), (V.xfAddr, 0, 0x100000000), (V.xfLen, 0, 1)]).dev with bytes := [((1, 131072), [0])] } } : State).dev.var V.xfAddr 0).toNat (({ st [(F.UPD_XFER_OP, 0, 1), (F.UPD_STATE_BOOTED, 0, 0)] [(V.slTotal, 1, 1), (V.slDone, 1, 1), (V.xfAddr, 0, 0x100000000), (V.xfLen, 0, 1)] with dev := { (st [(F.UPD_XFER_OP, 0, 1), (F.UPD_STATE_BOOTED, 0, 0)] [(V.slTotal, 1, 1), (V.slDone, 1, 1), (V.xfAddr, 0, 0x100000000), (V.xfLen, 0, 1)]).dev with bytes := [((1, 131072), [0])] } } : State).dev.var V.xfLen 0).toNat 0 = some (padTo 4096 (({ st [(F.UPD_XFER_OP, 0, 1), (F.UPD_STATE_BOOTED, 0, 0)] [(V.slTotal, 1, 1), (V.slDone, 1, 1), (V.xfAddr, 0, 0x100000000), (V.xfLen, 0, 1)] with dev := { (st [(F.UPD_XFER_OP, 0, 1), (F.UPD_STATE_BOOTED, 0, 0)] [(V.slTotal, 1, 1), (V.slDone, 1, 1), (V.xfAddr, 0, 0x100000000), (V.xfLen, 0, 1)]).dev with bytes := [((1, 131072), [0])] } } : State).dev.blob 1 (norIx ({ st [(F.UPD_XFER_OP, 0, 1), (F.UPD_STATE_BOOTED, 0, 0)] [(V.slTotal, 1, 1), (V.slDone, 1, 1), (V.xfAddr, 0, 0x100000000), (V.xfLen, 0, 1)] with dev := { (st [(F.UPD_XFER_OP, 0, 1), (F.UPD_STATE_BOOTED, 0, 0)] [(V.slTotal, 1, 1), (V.slDone, 1, 1), (V.xfAddr, 0, 0x100000000), (V.xfLen, 0, 1)]).dev with bytes := [((1, 131072), [0])] } } : State).dev.idleSlot 0))) :=
  imgBlock_of _ _ _ _ _ (by decide +kernel) (by decide +kernel)

/-- A state for clause 1 of ClearingCommitsAndTimers. -/
abbrev wClearingCommitsAndTimers0 : State := st [(F.CLR_PLANE_CTLUP, 0, 1)] []
/-- A state for clause 2 of ClearingCommitsAndTimers. -/
abbrev wClearingCommitsAndTimers1 : State := st [] []
/-- A state for clause 3 of ClearingCommitsAndTimers. -/
abbrev wClearingCommitsAndTimers2 : State := st [] []
/-- A state for clause 4 of ClearingCommitsAndTimers. -/
abbrev wClearingCommitsAndTimers3 : State := st [(F.CLR_HDR_LIVE, 5, 1), (F.CLR_HDR_STALE, 5, 0), (F.CLR_SLOT_STAT_AGE, 5, 4000)] [(V.uptime, 0, 9000), (V.lastTick, 0, 9000)]
/-- A state for clause 5 of ClearingCommitsAndTimers. -/
abbrev wClearingCommitsAndTimers4 : State := st [(F.CLR_HDR_LIVE, 5, 1), (F.CLR_SLOT_CFG_WDR_T, 5, 4000), (F.CLR_SLOT_CFG_STALE_T, 5, 10), (F.CLR_HDR_WDRN, 5, 0), (F.CLR_SLOT_STAT_AGE, 5, 4095)] [(V.uptime, 0, 9000), (V.lastTick, 0, 9000)]

/-- The hypotheses of the clauses of ClearingCommitsAndTimers are met. -/
theorem wit_ClearingCommitsAndTimers :
    (((⟨8, true⟩ : Acc).priv = true) ∧ (¬ (11 ≤ (⟨8, true⟩ : Acc).bank.val ∧ (⟨8, true⟩ : Acc).bank.val ≤ 14)) ∧ ((64 : BitVec 32).toNat % 512 ≤ 351) ∧ (planeOfBank (⟨8, true⟩ : Acc).bank.val = clrWriter ((64 : BitVec 32).toNat % 512)) ∧ (wClearingCommitsAndTimers0.dev.planeUp (planeOfBank (⟨8, true⟩ : Acc).bank.val) = true)) ∧
    (((⟨8, true⟩ : Acc).priv = true) ∧ (¬ (11 ≤ (⟨8, true⟩ : Acc).bank.val ∧ (⟨8, true⟩ : Acc).bank.val ≤ 14)) ∧ ((0x3048 : BitVec 16).toNat % 4 = 0) ∧ (0x1000 ≤ (0x3048 : BitVec 16).toNat) ∧ ((0x3048 : BitVec 16).toNat + 4 ≤ 0xD000) ∧ (planeOfBank (⟨8, true⟩ : Acc).bank.val = clrWriter (clrPlace (0x3048 : BitVec 16).toNat).1) ∧ ((clrPlace (0x3048 : BitVec 16).toNat).2.1 ≠ wClearingCommitsAndTimers1.dev.get F.CLR_HDR_GEN (clrPlace (0x3048 : BitVec 16).toNat).1)) ∧
    (((⟨8, true⟩ : Acc).priv = true) ∧ (¬ (11 ≤ (⟨8, true⟩ : Acc).bank.val ∧ (⟨8, true⟩ : Acc).bank.val ≤ 14)) ∧ (wClearingCommitsAndTimers2.dev.get F.COM_CHSEL_CH (0x0B * 16 + (⟨8, true⟩ : Acc).bank.val) < 352) ∧ (planeOfBank (⟨8, true⟩ : Acc).bank.val = clrReader (wClearingCommitsAndTimers2.dev.get F.COM_CHSEL_CH (0x0B * 16 + (⟨8, true⟩ : Acc).bank.val))) ∧ ((0x00200010 : BitVec 32).toNat % 4096 ≠ 0)) ∧
    ((wClearingCommitsAndTimers3.dev.var V.uptime 0 = wClearingCommitsAndTimers3.dev.var V.lastTick 0) ∧ (wClearingCommitsAndTimers3.dev.get F.CLR_HDR_LIVE (5 : Fin 352) = 1) ∧ (wClearingCommitsAndTimers3.dev.get F.CLR_SLOT_CFG_STALE_T (5 : Fin 352) ≤ wClearingCommitsAndTimers3.dev.get F.CLR_SLOT_STAT_AGE (5 : Fin 352))) ∧
    ((wClearingCommitsAndTimers4.dev.var V.uptime 0 = wClearingCommitsAndTimers4.dev.var V.lastTick 0) ∧ (wClearingCommitsAndTimers4.dev.get F.CLR_HDR_LIVE (5 : Fin 352) = 1) ∧ (wClearingCommitsAndTimers4.dev.get F.CLR_HDR_WDRN (5 : Fin 352) ≠ 1) ∧ (wClearingCommitsAndTimers4.dev.get F.CLR_SLOT_CFG_WDR_T (5 : Fin 352) ≠ 0) ∧ (max (wClearingCommitsAndTimers4.dev.get F.CLR_SLOT_CFG_WDR_T (5 : Fin 352)) (wClearingCommitsAndTimers4.dev.get F.CLR_SLOT_CFG_STALE_T (5 : Fin 352)) ≤ wClearingCommitsAndTimers4.dev.get F.CLR_SLOT_STAT_AGE (5 : Fin 352))) := by
  and_intros <;> decide +kernel

/-- A state for clause 1 of TriggerSchedulerFires. -/
abbrev wTriggerSchedulerFires0 : State := st [(F.TRIG_INST_INST, 3, 5000)] []
/-- A state for clause 2 of TriggerSchedulerFires. -/
abbrev wTriggerSchedulerFires1 : State := st [(F.TRIG_CFG_EN, 3, 1)] []
/-- A state for clause 3 of TriggerSchedulerFires. -/
abbrev wTriggerSchedulerFires2 : State := st [(F.TRIG_CFG_EN, 2, 1), (F.TRIG_INST_INST, 2, 9000), (F.TRIG_PERIOD_PERIOD, 2, 4000)] [(V.grove, 0, 9000000000)]
/-- A state for clause 4 of TriggerSchedulerFires. -/
abbrev wTriggerSchedulerFires3 : State := st [] [(V.pulse, 2, 1)]

/-- The hypotheses of the clauses of TriggerSchedulerFires are met. -/
theorem wit_TriggerSchedulerFires :
    ((Taken wTriggerSchedulerFires0 0x07 (⟨8, true⟩ : Acc)) ∧ (wTriggerSchedulerFires0.dev.get F.TRIG_CFG_EN (3 : Fin 16) ≠ 1) ∧ (wTriggerSchedulerFires0.dev.var V.grove 0 + 2000 * 65536 ≤ (wTriggerSchedulerFires0.dev.get F.TRIG_INST_INST (3 : Fin 16) : Int) * 65536) ∧ (wTriggerSchedulerFires0.dev.get F.TRIG_CFG_TGT (3 : Fin 16) = 1 → wTriggerSchedulerFires0.dev.var V.grove 0 + (wTriggerSchedulerFires0.dev.get F.TRIG_CFG_LEAD (3 : Fin 16) : Int) * 100000 * 65536 ≤ (wTriggerSchedulerFires0.dev.get F.TRIG_INST_INST (3 : Fin 16) : Int) * 65536)) ∧
    ((Taken wTriggerSchedulerFires1 0x07 (⟨8, true⟩ : Acc))) ∧
    ((wTriggerSchedulerFires2.dev.get F.TRIG_CFG_EN (2 : Fin 16) = 1) ∧ ((wTriggerSchedulerFires2.dev.get F.TRIG_INST_INST (2 : Fin 16) : Int) * 65536 ≤ wTriggerSchedulerFires2.dev.var V.grove 0)) ∧
    ((wTriggerSchedulerFires3.dev.var V.pulse (2 : Fin 16) = 1) ∧ (wTriggerSchedulerFires3.dev.var V.pulseEnd (2 : Fin 16) ≤ wTriggerSchedulerFires3.dev.var V.uptime 0)) := by
  and_intros <;> decide +kernel

/-- A state for clause 1 of TimeTicksSteeringAndSteps. -/
abbrev wTimeTicksSteeringAndSteps0 : State := st [] [(V.grove, 0, 500), (V.nextTick, 0, 1000000)]
/-- A state for clause 2 of TimeTicksSteeringAndSteps. -/
abbrev wTimeTicksSteeringAndSteps1 : State := { st [(F.TIME_STEER_CFG_SEN, 0, 1), (F.CLR_HDR_LIVE, 335, 1), (F.CLR_HDR_LIVE, 0, 1), (F.TIME_STEER_CFG_SLOT.act, 0, 0)] [] with dev := { (st [(F.TIME_STEER_CFG_SEN, 0, 1), (F.CLR_HDR_LIVE, 335, 1), (F.CLR_HDR_LIVE, 0, 1), (F.TIME_STEER_CFG_SLOT.act, 0, 0)] []).dev with clrBuf := [((0, 20), 1), ((0, 9), 7)] } }
/-- A state for clause 3 of TimeTicksSteeringAndSteps. -/
abbrev wTimeTicksSteeringAndSteps2 : State := st [(F.TIME_STATE_ST, 0, 3), (F.TIME_STEER_CFG_HOLD_T.act, 0, 1000)] [(V.uptime, 0, 65536000000000)]
/-- A state for clause 4 of TimeTicksSteeringAndSteps. -/
abbrev wTimeTicksSteeringAndSteps3 : State := st [(F.TIME_STATE_ST, 0, 2), (F.TIME_STEER_CFG_SEN, 0, 1)] []
/-- A state for clause 5 of TimeTicksSteeringAndSteps. -/
abbrev wTimeTicksSteeringAndSteps4 : State := st [(F.TIME_STATE_STEPPEND, 0, 1)] [(V.stepAt, 0, 0), (V.grove, 0, 9000000), (V.stepOffs, 0, 70000)]
/-- A state for clause 6 of TimeTicksSteeringAndSteps. -/
abbrev wTimeTicksSteeringAndSteps5 : State := st [(F.TIME_SET_SETV, 0, 123456789)] []
/-- A state for clause 7 of TimeTicksSteeringAndSteps. -/
abbrev wTimeTicksSteeringAndSteps6 : State := st [(F.TIME_STATE_ST, 0, 4), (F.TIME_HOLDERR_ERRB, 0, 10001)] [(V.holdGood, 0, 1)]

/-- The hypotheses of the clauses of TimeTicksSteeringAndSteps are met. -/
theorem wit_TimeTicksSteeringAndSteps :
    ((wTimeTicksSteeringAndSteps0.dev.get F.PWR_MODE_LADDER 0 < 2) ∧ (0 ≤ wTimeTicksSteeringAndSteps0.dev.var V.grove 0) ∧ (wTimeTicksSteeringAndSteps0.dev.var V.nextTick 0 * 65536 < 2 ^ 80)) ∧
    ((wTimeTicksSteeringAndSteps1.dev.get F.PWR_MODE_LADDER 0 < 2) ∧ (wTimeTicksSteeringAndSteps1.dev.get F.TIME_STEER_CFG_SEN 0 = 1) ∧ (wTimeTicksSteeringAndSteps1.dev.get F.CLR_HDR_LIVE (wTimeTicksSteeringAndSteps1.dev.get F.TIME_STEER_CFG_SLOT.act 0) = 1) ∧ (tbit (leAt (wTimeTicksSteeringAndSteps1.dev.clrPub (wTimeTicksSteeringAndSteps1.dev.get F.TIME_STEER_CFG_SLOT.act 0)) 20 1) 0 = true) ∧ (wTimeTicksSteeringAndSteps1.dev.var V.cmdSeen (wTimeTicksSteeringAndSteps1.dev.get F.TIME_STEER_CFG_SLOT.act 0) ≠ (wTimeTicksSteeringAndSteps1.dev.get F.CLR_HDR_SEQ (wTimeTicksSteeringAndSteps1.dev.get F.TIME_STEER_CFG_SLOT.act 0) : Int) + 1) ∧ (|(leAt (wTimeTicksSteeringAndSteps1.dev.clrPub (wTimeTicksSteeringAndSteps1.dev.get F.TIME_STEER_CFG_SLOT.act 0)) 0 8 : Int) * 65536 - wTimeTicksSteeringAndSteps1.dev.var V.grove 0| ≤ 2000000000 * 65536)) ∧
    ((wTimeTicksSteeringAndSteps2.dev.get F.TIME_STATE_ST 0 = 2 ∨ wTimeTicksSteeringAndSteps2.dev.get F.TIME_STATE_ST 0 = 3) ∧ (wTimeTicksSteeringAndSteps2.dev.passed V.recAt 0 ((max (wTimeTicksSteeringAndSteps2.dev.get F.TIME_STEER_CFG_HOLD_T.act 0) 100 : Int) * 1000000) = true)) ∧
    ((Taken wTimeTicksSteeringAndSteps3 0x07 (⟨8, true⟩ : Acc))) ∧
    ((wTimeTicksSteeringAndSteps4.dev.get F.TIME_STATE_STEPPEND 0 = 1) ∧ (wTimeTicksSteeringAndSteps4.dev.var V.stepAt 0 * 65536 ≤ wTimeTicksSteeringAndSteps4.dev.var V.grove 0)) ∧
    ((Taken wTimeTicksSteeringAndSteps5 0x07 (⟨8, true⟩ : Acc)) ∧ (wTimeTicksSteeringAndSteps5.dev.get F.TIME_STATE_ST 0 = 0)) ∧
    ((wTimeTicksSteeringAndSteps6.dev.get F.TIME_STATE_ST 0 = 4) ∧ (wTimeTicksSteeringAndSteps6.dev.var V.holdGood 0 = 1) ∧ (10000 < wTimeTicksSteeringAndSteps6.dev.get F.TIME_HOLDERR_ERRB 0) ∧ (wTimeTicksSteeringAndSteps6.dev.var V.holdRep 0 = 0)) := by
  and_intros <;> decide +kernel

/-- A state for clause 1 of AntennaBiasAndSampleLinks. -/
abbrev wAntennaBiasAndSampleLinks0 : State := st [(F.COM_STAT_RUN, 0x10, 1), (F.GNRF_ANT_CFG_BIASEN, 1, 1)] [(V.antBias, 1, 1), (V.antOk, 1, 9)]
/-- A state for clause 2 of AntennaBiasAndSampleLinks. -/
abbrev wAntennaBiasAndSampleLinks1 : State := st [(F.COM_STAT_RUN, 0x10, 1), (F.GNRF_ANT_CFG_BIASEN, 1, 1), (F.GNRF_ANT_CFG_RETRY, 1, 0)] [(V.antBias, 1, 1)]
/-- A state for clause 3 of AntennaBiasAndSampleLinks. -/
abbrev wAntennaBiasAndSampleLinks2 : State := st [(F.GNRF_ANT_STAT_STATE, 2, 3), (F.GNRF_ANT_CFG_RETRY, 2, 1)] [(V.uptime, 0, 65536000000000)]
/-- A state for clause 4 of AntennaBiasAndSampleLinks. -/
abbrev wAntennaBiasAndSampleLinks3 : State := st [(F.GNRF_ANT_CFG_BIASEN, 0, 1)] []
/-- A state for clause 5 of AntennaBiasAndSampleLinks. -/
abbrev wAntennaBiasAndSampleLinks4 : State := st [(F.GNRF_LINK_LOCK, 0, 7), (F.GNRF_LINK_CALDONE, 0, 7)] []
/-- A state for clause 6 of AntennaBiasAndSampleLinks. -/
abbrev wAntennaBiasAndSampleLinks5 : State := st [(F.COM_STAT_RUN, 0x10, 1), (F.GNRF_LINK_LOCK, 0, 0)] []
/-- A state for clause 7 of AntennaBiasAndSampleLinks. -/
abbrev wAntennaBiasAndSampleLinks6 : State := st [(F.GNRF_LINK_LOCK, 0, 2), (F.GNRF_LINK_CALDONE, 0, 0)] []
/-- A state for clause 8 of AntennaBiasAndSampleLinks. -/
abbrev wAntennaBiasAndSampleLinks7 : State := st [(F.GNRF_LINK_CALDONE, 0, 2)] [(V.retuneOn, 1, 1), (V.uptime, 0, 13107200000)]

/-- The hypotheses of the clauses of AntennaBiasAndSampleLinks are met. -/
theorem wit_AntennaBiasAndSampleLinks :
    ((wAntennaBiasAndSampleLinks0.dev.running 0x10 = true) ∧ (wAntennaBiasAndSampleLinks0.dev.get F.GNRF_ANT_CFG_BIASEN (1 : Fin 3) = 1) ∧ (wAntennaBiasAndSampleLinks0.dev.var V.antBias (1 : Fin 3) ≠ 0) ∧ (wAntennaBiasAndSampleLinks0.dev.get F.GNRF_ANT_STAT_STATE (1 : Fin 3) ≠ 7) ∧ (openTh (wAntennaBiasAndSampleLinks0.dev.get F.GNRF_ANT_CFG_OPEN_TH (1 : Fin 3)) ≤ (30 : BitVec 16).toNat) ∧ (9 ≤ wAntennaBiasAndSampleLinks0.dev.var V.antOk (1 : Fin 3))) ∧
    ((wAntennaBiasAndSampleLinks1.dev.running 0x10 = true) ∧ (wAntennaBiasAndSampleLinks1.dev.get F.GNRF_ANT_CFG_BIASEN (1 : Fin 3) = 1) ∧ (wAntennaBiasAndSampleLinks1.dev.var V.antBias (1 : Fin 3) ≠ 0) ∧ (wAntennaBiasAndSampleLinks1.dev.get F.GNRF_ANT_STAT_STATE (1 : Fin 3) ≠ 7) ∧ (wAntennaBiasAndSampleLinks1.dev.get F.GNRF_ANT_CFG_RETRY (1 : Fin 3) ≠ 1)) ∧
    ((wAntennaBiasAndSampleLinks2.dev.get F.GNRF_ANT_STAT_STATE (2 : Fin 3) = 3) ∧ (wAntennaBiasAndSampleLinks2.dev.get F.GNRF_ANT_CFG_RETRY (2 : Fin 3) = 1) ∧ (wAntennaBiasAndSampleLinks2.dev.var V.antBias (2 : Fin 3) = 0) ∧ (wAntennaBiasAndSampleLinks2.dev.passed V.antTripAt (2 : Fin 3) 1000000000 = true)) ∧
    ((Taken wAntennaBiasAndSampleLinks3 0x10 (⟨0, true⟩ : Acc)) ∧ (wAntennaBiasAndSampleLinks3.dev.chSel 0x10 (⟨0, true⟩ : Acc) < 3)) ∧
    ((tbit (wAntennaBiasAndSampleLinks4.dev.get F.GNRF_LINK_LOCK 0) (1 : Fin 3) = true)) ∧
    ((wAntennaBiasAndSampleLinks5.dev.running 0x10 = true) ∧ (tbit (wAntennaBiasAndSampleLinks5.dev.get F.GNRF_LINK_LOCK 0) (1 : Fin 3) = false)) ∧
    ((tbit (wAntennaBiasAndSampleLinks6.dev.get F.GNRF_LINK_LOCK 0) (1 : Fin 3) = true) ∧ (tbit (wAntennaBiasAndSampleLinks6.dev.get F.GNRF_LINK_CALDONE 0) (1 : Fin 3) = false)) ∧
    ((wAntennaBiasAndSampleLinks7.dev.var V.retuneOn (1 : Fin 3) = 1) ∧ (wAntennaBiasAndSampleLinks7.dev.passed V.retuneAt (1 : Fin 3) 200000 = true) ∧ (tbit (wAntennaBiasAndSampleLinks7.dev.get F.GNRF_LINK_CALDONE 0) (1 : Fin 3) = true)) := by
  and_intros <;> decide +kernel

/-- A state for clause 1 of AgcSpectrumAndNotches. -/
abbrev wAgcSpectrumAndNotches0 : State := st [(F.COM_STAT_RUN, 0x10, 1)] []
/-- A state for clause 2 of AgcSpectrumAndNotches. -/
abbrev wAgcSpectrumAndNotches1 : State := st [(F.COM_STAT_RUN, 0x10, 1)] []
/-- A state for clause 3 of AgcSpectrumAndNotches. -/
abbrev wAgcSpectrumAndNotches2 : State := { st [(F.COM_STAT_RUN, 0x10, 1), (F.GNRF_NOTCH_CFG_MODE.act, 5, 2)] [] with dev := { (st [(F.COM_STAT_RUN, 0x10, 1), (F.GNRF_NOTCH_CFG_MODE.act, 5, 2)] []).dev with hist := [((10, 1), [(-900, -900), (-900, -900), (-900, -300)])] } }
/-- A state for clause 4 of AgcSpectrumAndNotches. -/
abbrev wAgcSpectrumAndNotches3 : State := { st [(F.COM_STAT_RUN, 0x10, 1), (F.GNRF_NOTCH_CFG_MODE.act, 5, 2), (F.GNRF_NOTCH_STAT_ACTIVE, 5, 1)] [(V.notchLvl, 5, 100)] with dev := { (st [(F.COM_STAT_RUN, 0x10, 1), (F.GNRF_NOTCH_CFG_MODE.act, 5, 2), (F.GNRF_NOTCH_STAT_ACTIVE, 5, 1)] [(V.notchLvl, 5, 100)]).dev with hist := [((10, 1), [(-900, -900), (-900, -900), (-900, -300)])] } }
/-- A state for clause 5 of AgcSpectrumAndNotches. -/
abbrev wAgcSpectrumAndNotches4 : State := st [(F.GNRF_NOTCH_CFG_MODE.act, 5, 2), (F.GNRF_NOTCH_STAT_ACTIVE, 5, 1)] [(V.notchLow, 5, 1), (V.uptime, 0, 6553600000000)]
/-- A state for clause 6 of AgcSpectrumAndNotches. -/
abbrev wAgcSpectrumAndNotches5 : State := st [(F.GNRF_PATH_CFG_EN, 3, 1)] []

/-- The hypotheses of the clauses of AgcSpectrumAndNotches are met. -/
theorem wit_AgcSpectrumAndNotches :
    ((wAgcSpectrumAndNotches0.dev.running 0x10 = true) ∧ (wAgcSpectrumAndNotches0.dev.var V.uptime 0 = wAgcSpectrumAndNotches0.dev.var V.lastTick 0)) ∧
    ((wAgcSpectrumAndNotches1.dev.running 0x10 = true)) ∧
    ((wAgcSpectrumAndNotches2.dev.running 0x10 = true) ∧ ((wAgcSpectrumAndNotches2.dev.past 10 (1 : Fin 9))[(2 : Fin 4096).val]? = some ((-900 : Int), (-300 : Int))) ∧ (wAgcSpectrumAndNotches2.dev.var V.uptime 0 = wAgcSpectrumAndNotches2.dev.var V.lastTick 0) ∧ (wAgcSpectrumAndNotches2.dev.notchOwned (1 : Fin 9) (2 : Fin 4096) = false) ∧ (wAgcSpectrumAndNotches2.dev.notchTop (1 : Fin 9) (-300 : Int) = true) ∧ (wAgcSpectrumAndNotches2.dev.notchFree (1 : Fin 9) ((-300 : Int) - (-900 : Int)) (1 : Fin 4) = true) ∧ (∀ m < (1 : Fin 4).val, wAgcSpectrumAndNotches2.dev.notchFree (1 : Fin 9) ((-300 : Int) - (-900 : Int)) m = false)) ∧
    ((wAgcSpectrumAndNotches3.dev.running 0x10 = true) ∧ ((wAgcSpectrumAndNotches3.dev.past 10 (1 : Fin 9))[(2 : Fin 4096).val]? = some ((-900 : Int), (-300 : Int))) ∧ (wAgcSpectrumAndNotches3.dev.var V.uptime 0 = wAgcSpectrumAndNotches3.dev.var V.lastTick 0) ∧ (wAgcSpectrumAndNotches3.dev.notchOwned (1 : Fin 9) (2 : Fin 4096) = false) ∧ (wAgcSpectrumAndNotches3.dev.notchTop (1 : Fin 9) (-300 : Int) = true) ∧ (∀ m < 4, wAgcSpectrumAndNotches3.dev.notchFree (1 : Fin 9) ((-300 : Int) - (-900 : Int)) m = false) ∧ (wAgcSpectrumAndNotches3.dev.notchWeakest (1 : Fin 9) = some (1 : Fin 4).val) ∧ (5 * (wAgcSpectrumAndNotches3.dev.get F.GNRF_NOTCH_CFG_DETTH.act (4 * (1 : Fin 9).val + (1 : Fin 4).val) : Int) < (-300 : Int) - (-900 : Int)) ∧ (wAgcSpectrumAndNotches3.dev.var V.notchLvl (4 * (1 : Fin 9).val + (1 : Fin 4).val) + 30 ≤ (-300 : Int) - (-900 : Int))) ∧
    ((wAgcSpectrumAndNotches4.dev.get F.GNRF_NOTCH_CFG_MODE.act (4 * (1 : Fin 9).val + (1 : Fin 4).val) = 2) ∧ (wAgcSpectrumAndNotches4.dev.get F.GNRF_NOTCH_STAT_ACTIVE (4 * (1 : Fin 9).val + (1 : Fin 4).val) = 1) ∧ (wAgcSpectrumAndNotches4.dev.var V.notchLow (4 * (1 : Fin 9).val + (1 : Fin 4).val) = 1) ∧ (wAgcSpectrumAndNotches4.dev.passed V.notchLowAt (4 * (1 : Fin 9).val + (1 : Fin 4).val) 100000000 = true)) ∧
    ((Taken wAgcSpectrumAndNotches5 0x10 (⟨0, true⟩ : Acc))) := by
  and_intros <;> decide +kernel

/-- A state for clause 1 of AcquisitionListsAndEntries. -/
abbrev wAcquisitionListsAndEntries0 : State := st [(F.COM_STAT_RUN, 0x11, 1), (F.ENT_CFG0_EN, 5, 1)] []
/-- A state for clause 2 of AcquisitionListsAndEntries. -/
abbrev wAcquisitionListsAndEntries1 : State := st [(F.GNAQ_ENG_STAT_STATE, 0, 2)] [(V.heldOk, 0, 1)]
/-- A state for clause 3 of AcquisitionListsAndEntries. -/
abbrev wAcquisitionListsAndEntries2 : State := st [] [(V.acqPhase, 1, 1)]
/-- A state for clause 4 of AcquisitionListsAndEntries. -/
abbrev wAcquisitionListsAndEntries3 : State := st [(F.ENT_CFG0_SIG, 0, 1), (F.ENT_CFG0_PRN, 0, 3), (F.ENT_CFG1_TCOH, 0, 1), (F.ENT_CFG1_NNC, 0, 1), (F.ENT_DOP_NBIN, 0, 3), (F.GNRF_PATH_CFG_EN, 0, 1), (F.GNAQ_ENG_SNAP_SIZE_SIZE.act, 0, 10)] [(V.acqPhase, 0, 1)]
/-- A state for clause 5 of AcquisitionListsAndEntries. -/
abbrev wAcquisitionListsAndEntries4 : State := st [(F.ENT_CFG0_SIG, 0, 1), (F.ENT_CFG0_PRN, 0, 3), (F.ENT_CFG0_REUSE, 0, 1), (F.ENT_CFG1_TCOH, 0, 1), (F.ENT_CFG1_NNC, 0, 1), (F.ENT_DOP_NBIN, 0, 3), (F.GNRF_PATH_CFG_EN, 0, 1), (F.GNAQ_ENG_SNAP_SIZE_SIZE.act, 0, 10)] [(V.acqPhase, 0, 1), (V.heldOk, 0, 1), (V.heldCar, 0, 1575420), (V.heldMs, 0, 1)]
/-- A state for clause 6 of AcquisitionListsAndEntries. -/
abbrev wAcquisitionListsAndEntries5 : State := st [(F.GNRF_PATH_CFG_EN, 0, 1)] [(V.acqPhase, 0, 2), (V.pathValid, 0, 1)]
/-- A state for clause 7 of AcquisitionListsAndEntries. -/
abbrev wAcquisitionListsAndEntries6 : State := st [] [(V.acqPhase, 0, 2)]
/-- A state for clause 8 of AcquisitionListsAndEntries. -/
abbrev wAcquisitionListsAndEntries7 : State := st [] [(V.acqPhase, 0, 3)]
/-- A state for clause 9 of AcquisitionListsAndEntries. -/
abbrev wAcquisitionListsAndEntries8 : State := st [(F.ENT_CFG0_SIG, 128, 1), (F.ENT_CFG1_TCOH, 128, 1), (F.ENT_CFG1_NNC, 128, 1)] [(V.acqPhase, 1, 4), (V.uptime, 0, 65536000000)]
/-- A state for clause 10 of AcquisitionListsAndEntries. -/
abbrev wAcquisitionListsAndEntries9 : State := st [(F.ENT_DOP_NBIN, 128, 4)] [(V.acqPhase, 1, 4), (V.uptime, 0, 65536000000)]
/-- A state for clause 11 of AcquisitionListsAndEntries. -/
abbrev wAcquisitionListsAndEntries10 : State := st [(F.GNAQ_ENG_CFG_EARLY.act, 1, 1)] [(V.acqPhase, 1, 4), (V.uptime, 0, 65536000000)]
/-- A state for clause 12 of AcquisitionListsAndEntries. -/
abbrev wAcquisitionListsAndEntries11 : State := st [] [(V.acqPhase, 1, 5)]
/-- A state for clause 13 of AcquisitionListsAndEntries. -/
abbrev wAcquisitionListsAndEntries12 : State := st [(F.ENT_RES_STATUS, 135, 1)] []

/-- The hypotheses of the clauses of AcquisitionListsAndEntries are met. -/
theorem wit_AcquisitionListsAndEntries :
    ((Taken wAcquisitionListsAndEntries0 0x11 (⟨0, true⟩ : Acc)) ∧ (wAcquisitionListsAndEntries0.dev.chSel 0x11 (⟨0, true⟩ : Acc) < 3) ∧ (wAcquisitionListsAndEntries0.dev.running 0x11 = true) ∧ (wAcquisitionListsAndEntries0.dev.get F.GNAQ_ENG_STAT_STATE (wAcquisitionListsAndEntries0.dev.chSel 0x11 (⟨0, true⟩ : Acc)) = 0) ∧ (wAcquisitionListsAndEntries0.dev.get F.GNAQ_ENG_CTRL_START (wAcquisitionListsAndEntries0.dev.chSel 0x11 (⟨0, true⟩ : Acc)) ≤ (5 : Fin 128).val) ∧ (wAcquisitionListsAndEntries0.dev.get F.ENT_CFG0_EN (wAcquisitionListsAndEntries0.dev.chSel 0x11 (⟨0, true⟩ : Acc) * 128 + (5 : Fin 128).val) = 1) ∧ (∀ i < (5 : Fin 128).val, wAcquisitionListsAndEntries0.dev.get F.GNAQ_ENG_CTRL_START (wAcquisitionListsAndEntries0.dev.chSel 0x11 (⟨0, true⟩ : Acc)) ≤ i → wAcquisitionListsAndEntries0.dev.get F.ENT_CFG0_EN (wAcquisitionListsAndEntries0.dev.chSel 0x11 (⟨0, true⟩ : Acc) * 128 + i) ≠ 1)) ∧
    ((Taken wAcquisitionListsAndEntries1 0x11 (⟨0, true⟩ : Acc)) ∧ (wAcquisitionListsAndEntries1.dev.chSel 0x11 (⟨0, true⟩ : Acc) < 3) ∧ (wAcquisitionListsAndEntries1.dev.get F.GNAQ_ENG_STAT_STATE (wAcquisitionListsAndEntries1.dev.chSel 0x11 (⟨0, true⟩ : Acc)) ≠ 0)) ∧
    ((wAcquisitionListsAndEntries2.dev.var V.acqPhase (1 : Fin 3) = 1) ∧ (wAcquisitionListsAndEntries2.dev.acqInvalid (1 : Fin 3) (wAcquisitionListsAndEntries2.dev.acqEnt (1 : Fin 3)) = true)) ∧
    ((wAcquisitionListsAndEntries3.dev.var V.acqPhase (0 : Fin 3) = 1) ∧ (wAcquisitionListsAndEntries3.dev.acqInvalid (0 : Fin 3) (wAcquisitionListsAndEntries3.dev.acqEnt (0 : Fin 3)) = false) ∧ (wAcquisitionListsAndEntries3.dev.get F.ENT_CFG0_REUSE (wAcquisitionListsAndEntries3.dev.acqEnt (0 : Fin 3)) = 0 ∨ wAcquisitionListsAndEntries3.dev.acqReuse (0 : Fin 3) (wAcquisitionListsAndEntries3.dev.acqEnt (0 : Fin 3)) = false)) ∧
    ((wAcquisitionListsAndEntries4.dev.var V.acqPhase (0 : Fin 3) = 1) ∧ (wAcquisitionListsAndEntries4.dev.acqInvalid (0 : Fin 3) (wAcquisitionListsAndEntries4.dev.acqEnt (0 : Fin 3)) = false) ∧ (wAcquisitionListsAndEntries4.dev.get F.ENT_CFG0_REUSE (wAcquisitionListsAndEntries4.dev.acqEnt (0 : Fin 3)) = 1) ∧ (wAcquisitionListsAndEntries4.dev.acqReuse (0 : Fin 3) (wAcquisitionListsAndEntries4.dev.acqEnt (0 : Fin 3)) = true)) ∧
    ((wAcquisitionListsAndEntries5.dev.var V.acqPhase (0 : Fin 3) = 2) ∧ (wAcquisitionListsAndEntries5.dev.var V.uptime 0 = wAcquisitionListsAndEntries5.dev.var V.lastTick 0) ∧ (wAcquisitionListsAndEntries5.dev.pathOk (wAcquisitionListsAndEntries5.dev.acqPath (wAcquisitionListsAndEntries5.dev.acqEnt (0 : Fin 3))) = true)) ∧
    ((wAcquisitionListsAndEntries6.dev.var V.acqPhase (0 : Fin 3) = 2) ∧ (wAcquisitionListsAndEntries6.dev.var V.uptime 0 = wAcquisitionListsAndEntries6.dev.var V.lastTick 0) ∧ (wAcquisitionListsAndEntries6.dev.pathOk (wAcquisitionListsAndEntries6.dev.acqPath (wAcquisitionListsAndEntries6.dev.acqEnt (0 : Fin 3))) = false)) ∧
    ((wAcquisitionListsAndEntries7.dev.var V.acqPhase (0 : Fin 3) = 3) ∧ (wAcquisitionListsAndEntries7.dev.passed V.acqCapAt (0 : Fin 3) (wAcquisitionListsAndEntries7.dev.acqMs (wAcquisitionListsAndEntries7.dev.acqEnt (0 : Fin 3)) * 1000000) = true) ∧ ((State.devWrite { wAcquisitionListsAndEntries7 with dev := wAcquisitionListsAndEntries7.dev.acqSat (0 : Fin 3) } (0x0110 + (0 : Fin 3).val) (wAcquisitionListsAndEntries7.dev.get F.GNAQ_ENG_SNAP_BASE.act (0 : Fin 3) / 4096 * 4096) (padTo (wAcquisitionListsAndEntries7.dev.acqBytes (0 : Fin 3)) (([] : List Byte).map (·.toNat)))).2 = none)) ∧
    ((wAcquisitionListsAndEntries8.dev.var V.acqPhase (1 : Fin 3) = 4) ∧ (wAcquisitionListsAndEntries8.dev.passed V.acqStepAt (1 : Fin 3) (wAcquisitionListsAndEntries8.dev.acqStepNs (1 : Fin 3)) = true) ∧ ((wAcquisitionListsAndEntries8.devRead (0x0110 + (1 : Fin 3).val) (wAcquisitionListsAndEntries8.dev.get F.GNAQ_ENG_SNAP_BASE.act (1 : Fin 3) / 4096 * 4096) (wAcquisitionListsAndEntries8.dev.acqBytes (1 : Fin 3))).2.toOption = none)) ∧
    ((wAcquisitionListsAndEntries9.dev.var V.acqPhase (1 : Fin 3) = 4) ∧ (wAcquisitionListsAndEntries9.dev.passed V.acqStepAt (1 : Fin 3) (wAcquisitionListsAndEntries9.dev.acqStepNs (1 : Fin 3)) = true) ∧ ((wAcquisitionListsAndEntries9.devRead (0x0110 + (1 : Fin 3).val) (wAcquisitionListsAndEntries9.dev.get F.GNAQ_ENG_SNAP_BASE.act (1 : Fin 3) / 4096 * 4096) (wAcquisitionListsAndEntries9.dev.acqBytes (1 : Fin 3))).2.toOption = some ([] : List Nat)) ∧ (wAcquisitionListsAndEntries9.dev.get F.GNAQ_ENG_CFG_EARLY.act (1 : Fin 3) ≠ 1)) ∧
    ((wAcquisitionListsAndEntries10.dev.var V.acqPhase (1 : Fin 3) = 4) ∧ (wAcquisitionListsAndEntries10.dev.passed V.acqStepAt (1 : Fin 3) (wAcquisitionListsAndEntries10.dev.acqStepNs (1 : Fin 3)) = true) ∧ ((wAcquisitionListsAndEntries10.devRead (0x0110 + (1 : Fin 3).val) (wAcquisitionListsAndEntries10.dev.get F.GNAQ_ENG_SNAP_BASE.act (1 : Fin 3) / 4096 * 4096) (wAcquisitionListsAndEntries10.dev.acqBytes (1 : Fin 3))).2.toOption = some ([] : List Nat)) ∧ (wAcquisitionListsAndEntries10.dev.get F.GNAQ_ENG_CFG_EARLY.act (1 : Fin 3) = 1)) ∧
    ((wAcquisitionListsAndEntries11.dev.var V.acqPhase (1 : Fin 3) = 5)) ∧
    ((Taken wAcquisitionListsAndEntries12 0x11 (⟨0, true⟩ : Acc)) ∧ (wAcquisitionListsAndEntries12.dev.get F.GNAQ_ENG_STAT_STATE (1 : Fin 3) = 0 ∨ wAcquisitionListsAndEntries12.dev.get F.GNAQ_ENG_STAT_ENTRY (1 : Fin 3) ≠ (7 : Fin 128).val)) := by
  and_intros <;> decide +kernel

/-- A state for clause 1 of TrackingChannelStates. -/
abbrev wTrackingChannelStates0 : State := st [(F.GNTK_CH_CFG_SIG, 0, 1), (F.GNTK_CH_CFG_PRN, 0, 3), (F.GNRF_PATH_CFG_EN, 0, 1)] [(V.pathValid, 0, 1)]
/-- A state for clause 2 of TrackingChannelStates. -/
abbrev wTrackingChannelStates1 : State := st [(F.GNTK_CH_CFG_ANT, 0, 3)] []
/-- A state for clause 3 of TrackingChannelStates. -/
abbrev wTrackingChannelStates2 : State := st [] [(V.grove, 0, 196608000000000)]
/-- A state for clause 4 of TrackingChannelStates. -/
abbrev wTrackingChannelStates3 : State := st [(F.GNTK_CH_CFG_EN, 0, 1), (F.GNTK_CH_STAT_STATE, 0, 3)] []
/-- A state for clause 5 of TrackingChannelStates. -/
abbrev wTrackingChannelStates4 : State := st [(F.COM_STAT_RUN, 0x12, 1), (F.GNTK_CH_STAT_STATE, 7, 3), (F.GNTK_CH_CFG_SIG, 7, 1)] [(V.uptime, 0, 65536000000000)]
/-- A state for clause 6 of TrackingChannelStates. -/
abbrev wTrackingChannelStates5 : State := st [(F.GNTK_CH_STAT_STATE, 7, 1), (F.GNTK_CH_STAT_CN0, 7, 1000), (F.GNTK_CH_THR_LOSSTH.act, 7, 20), (F.GNTK_CH_CFG_SIG, 7, 1)] [(V.uptime, 0, 6553600000000)]
/-- A state for clause 7 of TrackingChannelStates. -/
abbrev wTrackingChannelStates6 : State := st [(F.GNTK_CH_STAT_STATE, 7, 1)] [(V.uptime, 0, 131072000000000)]
/-- A state for clause 8 of TrackingChannelStates. -/
abbrev wTrackingChannelStates7 : State := st [(F.GNTK_CH_STAT_STATE, 7, 2)] [(V.pliHi, 7, 0), (V.uptime, 0, 6553600000000)]
/-- A state for clause 9 of TrackingChannelStates. -/
abbrev wTrackingChannelStates8 : State := st [(F.GNTK_CH_STAT_STATE, 7, 3)] [(V.pliLo, 7, 0), (V.uptime, 0, 6553600000000)]
/-- A state for clause 10 of TrackingChannelStates. -/
abbrev wTrackingChannelStates9 : State := st [(F.GNTK_CH_STAT_STATE, 7, 3)] [(V.cnLo, 7, 0), (V.uptime, 0, 65536000000000)]
/-- A state for clause 11 of TrackingChannelStates. -/
abbrev wTrackingChannelStates10 : State := st [(F.GNTK_CH_STAT_STATE, 7, 4), (F.GNTK_CH_CFG_SIG, 7, 1), (F.GNRF_PATH_CFG_EN, 0, 1)] [(V.cnHi, 7, 0), (V.uptime, 0, 65536000000000), (V.pathValid, 0, 1)]
/-- A state for clause 12 of TrackingChannelStates. -/
abbrev wTrackingChannelStates11 : State := st [(F.GNTK_CH_STAT_STATE, 7, 4)] [(V.uptime, 0, 655360000000000)]

/-- The hypotheses of the clauses of TrackingChannelStates are met. -/
theorem wit_TrackingChannelStates :
    ((Taken wTrackingChannelStates0 0x12 (⟨0, true⟩ : Acc)) ∧ (wTrackingChannelStates0.dev.chSel 0x12 (⟨0, true⟩ : Acc) < 600) ∧ (wTrackingChannelStates0.dev.get F.GNTK_CH_CFG_EN (wTrackingChannelStates0.dev.chSel 0x12 (⟨0, true⟩ : Acc)) ≠ 1) ∧ (wTrackingChannelStates0.dev.var V.grove 0 - wTrackingChannelStates0.dev.initAt (wTrackingChannelStates0.dev.chSel 0x12 (⟨0, true⟩ : Acc)) ≤ 65536000000000) ∧ (wTrackingChannelStates0.dev.trkBad (wTrackingChannelStates0.dev.chSel 0x12 (⟨0, true⟩ : Acc)) = false)) ∧
    ((Taken wTrackingChannelStates1 0x12 (⟨0, true⟩ : Acc)) ∧ (wTrackingChannelStates1.dev.chSel 0x12 (⟨0, true⟩ : Acc) < 600) ∧ (wTrackingChannelStates1.dev.get F.GNTK_CH_CFG_EN (wTrackingChannelStates1.dev.chSel 0x12 (⟨0, true⟩ : Acc)) ≠ 1) ∧ (wTrackingChannelStates1.dev.var V.grove 0 - wTrackingChannelStates1.dev.initAt (wTrackingChannelStates1.dev.chSel 0x12 (⟨0, true⟩ : Acc)) ≤ 65536000000000) ∧ (wTrackingChannelStates1.dev.trkBad (wTrackingChannelStates1.dev.chSel 0x12 (⟨0, true⟩ : Acc)) = true)) ∧
    ((Taken wTrackingChannelStates2 0x12 (⟨0, true⟩ : Acc)) ∧ (wTrackingChannelStates2.dev.chSel 0x12 (⟨0, true⟩ : Acc) < 600) ∧ (wTrackingChannelStates2.dev.get F.GNTK_CH_CFG_EN (wTrackingChannelStates2.dev.chSel 0x12 (⟨0, true⟩ : Acc)) ≠ 1) ∧ (65536000000000 < wTrackingChannelStates2.dev.var V.grove 0 - wTrackingChannelStates2.dev.initAt (wTrackingChannelStates2.dev.chSel 0x12 (⟨0, true⟩ : Acc)))) ∧
    ((Taken wTrackingChannelStates3 0x12 (⟨0, true⟩ : Acc)) ∧ (wTrackingChannelStates3.dev.chSel 0x12 (⟨0, true⟩ : Acc) < 600)) ∧
    ((wTrackingChannelStates4.dev.running 0x12 = true) ∧ (wTrackingChannelStates4.dev.get F.GNTK_CH_STAT_STATE (7 : Fin 600) ≠ 0) ∧ (wTrackingChannelStates4.dev.get F.GNTK_CH_STAT_STATE (7 : Fin 600) ≠ 5) ∧ (wTrackingChannelStates4.dev.trkBlock (7 : Fin 600) (wTrackingChannelStates4.dev.var V.intC (7 : Fin 600)) < wTrackingChannelStates4.dev.trkBlock (7 : Fin 600) (wTrackingChannelStates4.dev.codeAt (7 : Fin 600) (wTrackingChannelStates4.dev.var V.uptime 0)))) ∧
    ((wTrackingChannelStates5.dev.get F.GNTK_CH_STAT_STATE (7 : Fin 600) = 1) ∧ (wTrackingChannelStates5.dev.passed V.pullAt (7 : Fin 600) 100000000 = true) ∧ (|(4198000 : Int)| ≤ wTrackingChannelStates5.dev.chipLen (7 : Fin 600)) ∧ (|(-500000 : Int)| ≤ 500000) ∧ (wTrackingChannelStates5.dev.get F.GNTK_CH_THR_LOSSTH.act (7 : Fin 600) * 10 ≤ wTrackingChannelStates5.dev.get F.GNTK_CH_STAT_CN0 (7 : Fin 600))) ∧
    ((wTrackingChannelStates6.dev.get F.GNTK_CH_STAT_STATE (7 : Fin 600) = 1) ∧ (wTrackingChannelStates6.dev.passed V.pullAt (7 : Fin 600) 2000000000 = true)) ∧
    ((wTrackingChannelStates7.dev.get F.GNTK_CH_STAT_STATE (7 : Fin 600) = 2) ∧ (wTrackingChannelStates7.dev.runFor V.pliHi (7 : Fin 600) 100 = true)) ∧
    ((wTrackingChannelStates8.dev.get F.GNTK_CH_STAT_STATE (7 : Fin 600) = 3) ∧ (wTrackingChannelStates8.dev.runFor V.pliLo (7 : Fin 600) 20 = true)) ∧
    ((1 ≤ wTrackingChannelStates9.dev.get F.GNTK_CH_STAT_STATE (7 : Fin 600)) ∧ (wTrackingChannelStates9.dev.get F.GNTK_CH_STAT_STATE (7 : Fin 600) ≤ 3) ∧ (wTrackingChannelStates9.dev.runFor V.cnLo (7 : Fin 600) 200 = true)) ∧
    ((wTrackingChannelStates10.dev.get F.GNTK_CH_STAT_STATE (7 : Fin 600) = 4) ∧ (wTrackingChannelStates10.dev.runFor V.cnHi (7 : Fin 600) 20 = true) ∧ (wTrackingChannelStates10.dev.pathOk (wTrackingChannelStates10.dev.trkPath (7 : Fin 600)) = true)) ∧
    ((wTrackingChannelStates11.dev.get F.GNTK_CH_STAT_STATE (7 : Fin 600) = 4) ∧ (wTrackingChannelStates11.dev.passed V.coastAt (7 : Fin 600) ((min (wTrackingChannelStates11.dev.get F.GNTK_CH_THR_COAST_T.act (7 : Fin 600)) 100 : Nat) * 100000000) = true)) := by
  and_intros <;> decide +kernel

/-- A state for clause 1 of TrackingEpochsAndRecords. -/
abbrev wTrackingEpochsAndRecords0 : State := st [(F.GNTK_CH_CFG_SIG, 0, 1)] [(V.hca, 0, 1)]
/-- A state for clause 2 of TrackingEpochsAndRecords. -/
abbrev wTrackingEpochsAndRecords1 : State := st [] []
/-- A state for clause 3 of TrackingEpochsAndRecords. -/
abbrev wTrackingEpochsAndRecords2 : State := st [(F.COM_STAT_RUN, 0x12, 1)] [(V.nextEpoch, 0, 5), (V.grove, 0, 655360)]
/-- A state for clause 4 of TrackingEpochsAndRecords. -/
abbrev wTrackingEpochsAndRecords3 : State := { st [(F.GNTK_RING_CFG_NEP.act, 0, 4), (F.GNTK_RING_BASE.act, 0, 0x100000000), (F.IOMU_DDTP_V, 0, 1)] [(V.epochPend, 0, 1)] with dev := { (st [(F.GNTK_RING_CFG_NEP.act, 0, 4), (F.GNTK_RING_BASE.act, 0, 0x100000000), (F.IOMU_DDTP_V, 0, 1)] [(V.epochPend, 0, 1)]).dev with bytes := [((50, 0), [1, 2])] } }
/-- A state for clause 5 of TrackingEpochsAndRecords. -/
abbrev wTrackingEpochsAndRecords4 : State := { st [(F.GNTK_NAV_BASE.act, 0, 0x100000000), (F.IOMU_DDTP_V, 0, 1)] [(V.navDue, 3, 1)] with dev := { (st [(F.GNTK_NAV_BASE.act, 0, 0x100000000), (F.IOMU_DDTP_V, 0, 1)] [(V.navDue, 3, 1)]).dev with hist := [((9, 3), [(7, 1)])] } }

/-- The hypotheses of the clauses of TrackingEpochsAndRecords are met. -/
theorem wit_TrackingEpochsAndRecords :
    ((Taken wTrackingEpochsAndRecords0 0x12 (⟨0, true⟩ : Acc)) ∧ (wTrackingEpochsAndRecords0.dev.chSel 0x12 (⟨0, true⟩ : Acc) < 600) ∧ (wTrackingEpochsAndRecords0.dev.trkData (wTrackingEpochsAndRecords0.dev.chSel 0x12 (⟨0, true⟩ : Acc)) = true)) ∧
    ((Taken wTrackingEpochsAndRecords1 0x12 (⟨0, true⟩ : Acc)) ∧ (wTrackingEpochsAndRecords1.dev.chSel 0x12 (⟨0, true⟩ : Acc) < 600) ∧ (wTrackingEpochsAndRecords1.dev.epochAge (1 : BitVec 16).toNat ≤ 16)) ∧
    ((wTrackingEpochsAndRecords2.dev.running 0x12 = true) ∧ (0 ≤ wTrackingEpochsAndRecords2.dev.var V.nextEpoch 0) ∧ (wTrackingEpochsAndRecords2.dev.var V.nextEpoch 0 * 65536 ≤ wTrackingEpochsAndRecords2.dev.var V.grove 0)) ∧
    ((wTrackingEpochsAndRecords3.dev.var V.epochPend 0 ≠ 0) ∧ (2 ≤ wTrackingEpochsAndRecords3.dev.get F.GNTK_RING_CFG_NEP.act 0) ∧ ((wTrackingEpochsAndRecords3.dev.get F.GNTK_RING_WR_WR 0 + 1) % wTrackingEpochsAndRecords3.dev.get F.GNTK_RING_CFG_NEP.act 0 ≠ wTrackingEpochsAndRecords3.dev.get F.GNTK_RING_RD_RD 0) ∧ ((State.devWrite { wTrackingEpochsAndRecords3 with dev := wTrackingEpochsAndRecords3.dev.setVar V.epochPend 0 0 } 0x0120 (wTrackingEpochsAndRecords3.dev.get F.GNTK_RING_BASE.act 0 / 4096 * 4096 + 20480 * wTrackingEpochsAndRecords3.dev.get F.GNTK_RING_WR_WR 0) (wTrackingEpochsAndRecords3.dev.blob 50 0 ++ wTrackingEpochsAndRecords3.dev.blob 51 0)).2 = none)) ∧
    ((wTrackingEpochsAndRecords4.dev.navReady (3 : Fin 600) = some ([(7, 1)] : List (Int × Int))) ∧ ((wTrackingEpochsAndRecords4.dev.get F.GNTK_NAV_WR_IDX 0 % (256 * 2 ^ min (wTrackingEpochsAndRecords4.dev.get F.GNTK_NAV_CFG_SIZE.act 0) 8) + 1) % (256 * 2 ^ min (wTrackingEpochsAndRecords4.dev.get F.GNTK_NAV_CFG_SIZE.act 0) 8) ≠ wTrackingEpochsAndRecords4.dev.get F.GNTK_NAV_RD_IDX 0 % (256 * 2 ^ min (wTrackingEpochsAndRecords4.dev.get F.GNTK_NAV_CFG_SIZE.act 0) 8)) ∧ ((State.devWrite ({ wTrackingEpochsAndRecords4 with dev := ((wTrackingEpochsAndRecords4.dev.setVar V.slipNav (3 : Fin 600) 0).setPast 9 (3 : Fin 600) ((wTrackingEpochsAndRecords4.dev.past 9 (3 : Fin 600)).drop ([(7, 1)] : List (Int × Int)).length)).when ((wTrackingEpochsAndRecords4.dev.past 9 (3 : Fin 600)).drop ([(7, 1)] : List (Int × Int)).length).isEmpty (fun a => a.setVar V.navDue (3 : Fin 600) 0) } : State) 0x0120 (wTrackingEpochsAndRecords4.dev.get F.GNTK_NAV_BASE.act 0 / 4096 * 4096 + 16 * (wTrackingEpochsAndRecords4.dev.get F.GNTK_NAV_WR_IDX 0 % (256 * 2 ^ min (wTrackingEpochsAndRecords4.dev.get F.GNTK_NAV_CFG_SIZE.act 0) 8))) (wTrackingEpochsAndRecords4.dev.navBytes (3 : Fin 600) ([(7, 1)] : List (Int × Int)))).2 = none)) := by
  and_intros <;> decide +kernel

/-- A state for clause 1 of JammingGuardAndTimePulse. -/
abbrev wJammingGuardAndTimePulse0 : State := st [(F.COM_STAT_RUN, 0x12, 1), (F.GNTK_JAM_CFG_JAM_NF, 0, 3), (F.GNRF_SPEC_STAT_NF, 4, 500)] []
/-- A state for clause 2 of JammingGuardAndTimePulse. -/
abbrev wJammingGuardAndTimePulse1 : State := st [] [(V.uptime, 0, 99)]
/-- A state for clause 3 of JammingGuardAndTimePulse. -/
abbrev wJammingGuardAndTimePulse2 : State := st [] [(V.learnOn, 0, 1), (V.learnN, 0, 9), (V.learnNf, 4, -77), (V.uptime, 0, 655360000000000)]
/-- A state for clause 4 of JammingGuardAndTimePulse. -/
abbrev wJammingGuardAndTimePulse3 : State := st [] []
/-- A state for clause 5 of JammingGuardAndTimePulse. -/
abbrev wJammingGuardAndTimePulse4 : State := st [] [(V.pvtSeq, 0, 4), (V.egoSeq, 2, 4), (V.egoSeq, 0, -1), (V.egoSeq, 1, -1)]
/-- A state for clause 6 of JammingGuardAndTimePulse. -/
abbrev wJammingGuardAndTimePulse5 : State := st [(F.GNTK_GUARD_CFG_EN, 0, 1), (F.GNTK_EPSEQ_SEQ, 0, 0)] [(V.pvtOkSg, 0, 1), (V.pvtLast, 0, 0), (V.pvtEgo, 0, 1), (V.cntBadV, 0, 3)]
/-- A state for clause 7 of JammingGuardAndTimePulse. -/
abbrev wJammingGuardAndTimePulse6 : State := st [(F.COM_STAT_RUN, 0x13, 1), (F.TIME_STATE_ST, 0, 3)] [(V.nextPulse, 0, 50), (V.grove, 0, 6553600)]
/-- A state for clause 8 of JammingGuardAndTimePulse. -/
abbrev wJammingGuardAndTimePulse7 : State := st [] [(V.tpulse, 0, 1)]

/-- The hypotheses of the clauses of JammingGuardAndTimePulse are met. -/
theorem wit_JammingGuardAndTimePulse :
    ((wJammingGuardAndTimePulse0.dev.running 0x12 = true) ∧ ((5 * wJammingGuardAndTimePulse0.dev.get F.GNTK_JAM_CFG_JAM_NF 0 : Int) < ofBits 16 (wJammingGuardAndTimePulse0.dev.get F.GNRF_SPEC_STAT_NF (4 : Fin 9)) - ofBits 16 (wJammingGuardAndTimePulse0.dev.get F.GNTK_JAM_REF_NFREF (4 : Fin 9)))) ∧
    ((Taken wJammingGuardAndTimePulse1 0x12 (⟨0, true⟩ : Acc))) ∧
    ((wJammingGuardAndTimePulse2.dev.var V.learnOn 0 = 1) ∧ (wJammingGuardAndTimePulse2.dev.passed V.learnAt 0 10000000000 = true) ∧ (0 < wJammingGuardAndTimePulse2.dev.var V.learnN 0)) ∧
    ((Taken wJammingGuardAndTimePulse3 0x12 (⟨0, true⟩ : Acc))) ∧
    ((Taken wJammingGuardAndTimePulse4 0x12 (⟨0, true⟩ : Acc)) ∧ (0 ≤ wJammingGuardAndTimePulse4.dev.var V.pvtSeq 0) ∧ (0 ≤ wJammingGuardAndTimePulse4.dev.var V.egoSeq (2 : Fin 8)) ∧ (wJammingGuardAndTimePulse4.dev.var V.egoSeq (2 : Fin 8) % 65536 = wJammingGuardAndTimePulse4.dev.var V.pvtSeq 0) ∧ (∀ i < (2 : Fin 8).val, wJammingGuardAndTimePulse4.dev.var V.egoSeq i < 0 ∨ wJammingGuardAndTimePulse4.dev.var V.egoSeq i % 65536 ≠ wJammingGuardAndTimePulse4.dev.var V.pvtSeq 0)) ∧
    ((Taken wJammingGuardAndTimePulse5 0x12 (⟨0, true⟩ : Acc)) ∧ (wJammingGuardAndTimePulse5.dev.guardOk = true)) ∧
    ((wJammingGuardAndTimePulse6.dev.running 0x13 = true) ∧ (0 ≤ wJammingGuardAndTimePulse6.dev.var V.nextPulse 0) ∧ (wJammingGuardAndTimePulse6.dev.var V.nextPulse 0 * 65536 - wJammingGuardAndTimePulse6.dev.pulseAdv ≤ wJammingGuardAndTimePulse6.dev.var V.grove 0)) ∧
    ((wJammingGuardAndTimePulse7.dev.var V.tpulse 0 = 1) ∧ (wJammingGuardAndTimePulse7.dev.var V.tpulseEnd 0 ≤ wJammingGuardAndTimePulse7.dev.var V.uptime 0)) := by
  and_intros <;> decide +kernel

/-- A state for clause 1 of SensorsChecksAndBanks. -/
abbrev wSensorsChecksAndBanks0 : State := st [(F.COM_CHSEL_CH, 384, 6), (F.COM_STAT_RUN, 0x18, 1), (F.CNPY_SEN_CFG_EN, 6, 1), (F.CNPY_SEN_RING_NBUF.act, 6, 2), (F.CNPY_SEN_RING_BASE.act, 6, 0x100000000), (F.CNPY_SEN_RING_BUFSZ.act, 6, 1), (F.IOMU_DDTP_V, 0, 1)] []
/-- A state for clause 2 of SensorsChecksAndBanks. -/
abbrev wSensorsChecksAndBanks1 : State := st [(F.COM_STAT_RUN, 0x18, 1), (F.CNPY_SEN_STAT_STATE, 2, 3), (F.CNPY_SEN_TIME_FPER.act, 2, 50)] [(V.uptime, 0, 65536000000000)]
/-- A state for clause 3 of SensorsChecksAndBanks. -/
abbrev wSensorsChecksAndBanks2 : State := st [(F.CNPY_SEN_STAT_STATE, 0, 3)] []
/-- A state for clause 4 of SensorsChecksAndBanks. -/
abbrev wSensorsChecksAndBanks3 : State := st [(F.CNPY_SEN_STAT_STATE, 0, 5)] []
/-- A state for clause 5 of SensorsChecksAndBanks. -/
abbrev wSensorsChecksAndBanks4 : State := st [(F.CNPY_SEN_STAT_STATE, 2, 2)] [(V.chkOn, 2, 1)]
/-- A state for clause 6 of SensorsChecksAndBanks. -/
abbrev wSensorsChecksAndBanks5 : State := st [(F.CNPY_SEN_STAT_STATE, 2, 2)] [(V.chkBins, 2, 100)]
/-- A state for clause 7 of SensorsChecksAndBanks. -/
abbrev wSensorsChecksAndBanks6 : State := st [] []

/-- The hypotheses of the clauses of SensorsChecksAndBanks are met. -/
theorem wit_SensorsChecksAndBanks :
    ((Taken wSensorsChecksAndBanks0 0x18 (⟨0, true⟩ : Acc)) ∧ (wSensorsChecksAndBanks0.dev.chSel 0x18 (⟨0, true⟩ : Acc) = 6 ∨ wSensorsChecksAndBanks0.dev.chSel 0x18 (⟨0, true⟩ : Acc) = 7) ∧ (wSensorsChecksAndBanks0.dev.running 0x18 = true) ∧ (wSensorsChecksAndBanks0.dev.get F.CNPY_SEN_CFG_EN (wSensorsChecksAndBanks0.dev.chSel 0x18 (⟨0, true⟩ : Acc)) = 1) ∧ (2 ≤ wSensorsChecksAndBanks0.dev.get F.CNPY_SEN_RING_NBUF.act (wSensorsChecksAndBanks0.dev.chSel 0x18 (⟨0, true⟩ : Acc))) ∧ (wSensorsChecksAndBanks0.dev.get F.IOMU_DDTP_V 0 % 16 = 1) ∧ (∀ k < 32, inDram (wSensorsChecksAndBanks0.dev.bufAt (wSensorsChecksAndBanks0.dev.chSel 0x18 (⟨0, true⟩ : Acc)) (3 : BitVec 8).toNat + k) = true ∧ wSensorsChecksAndBanks0.dev.poisoned (wSensorsChecksAndBanks0.dev.bufAt (wSensorsChecksAndBanks0.dev.chSel 0x18 (⟨0, true⟩ : Acc)) (3 : BitVec 8).toNat + k) = false) ∧ (ofLe (memRead wSensorsChecksAndBanks0.mem (wSensorsChecksAndBanks0.dev.bufAt (wSensorsChecksAndBanks0.dev.chSel 0x18 (⟨0, true⟩ : Acc)) (3 : BitVec 8).toNat + 16) 4) ≤ 300000) ∧ (32 + 16 * ofLe (memRead wSensorsChecksAndBanks0.mem (wSensorsChecksAndBanks0.dev.bufAt (wSensorsChecksAndBanks0.dev.chSel 0x18 (⟨0, true⟩ : Acc)) (3 : BitVec 8).toNat + 16) 4) ≤ wSensorsChecksAndBanks0.dev.get F.CNPY_SEN_RING_BUFSZ.act (wSensorsChecksAndBanks0.dev.chSel 0x18 (⟨0, true⟩ : Acc)) * 65536)) ∧
    ((wSensorsChecksAndBanks1.dev.running 0x18 = true) ∧ (1 ≤ wSensorsChecksAndBanks1.dev.get F.CNPY_SEN_STAT_STATE (2 : Fin 8)) ∧ (wSensorsChecksAndBanks1.dev.get F.CNPY_SEN_STAT_STATE (2 : Fin 8) ≤ 3) ∧ (wSensorsChecksAndBanks1.dev.passed V.senPost (2 : Fin 8) (3 * wSensorsChecksAndBanks1.dev.senPer (2 : Fin 8)) = true)) ∧
    ((Taken wSensorsChecksAndBanks2 0x18 (⟨0, true⟩ : Acc)) ∧ (wSensorsChecksAndBanks2.dev.chSel 0x18 (⟨0, true⟩ : Acc) < 8)) ∧
    ((Taken wSensorsChecksAndBanks3 0x18 (⟨0, true⟩ : Acc)) ∧ (wSensorsChecksAndBanks3.dev.chSel 0x18 (⟨0, true⟩ : Acc) < 8) ∧ (wSensorsChecksAndBanks3.dev.get F.CNPY_SEN_STAT_STATE (wSensorsChecksAndBanks3.dev.chSel 0x18 (⟨0, true⟩ : Acc)) = 5)) ∧
    ((wSensorsChecksAndBanks4.dev.get F.CNPY_SEN_STAT_STATE (2 : Fin 8) = 2) ∧ (wSensorsChecksAndBanks4.dev.var V.chkOn (2 : Fin 8) = 1)) ∧
    ((wSensorsChecksAndBanks5.dev.get F.CNPY_SEN_STAT_STATE (2 : Fin 8) = 2) ∧ (wSensorsChecksAndBanks5.dev.var V.chkOn (2 : Fin 8) ≠ 1) ∧ (100 ≤ wSensorsChecksAndBanks5.dev.var V.chkBins (2 : Fin 8))) ∧
    ((Taken wSensorsChecksAndBanks6 0x18 (⟨0, true⟩ : Acc))) := by
  and_intros <;> decide +kernel

/-- A state for clause 1 of FusedGridAndProjection. -/
abbrev wFusedGridAndProjection0 : State := st [(F.COM_STAT_RUN, 0x18, 1)] [(V.nextTk, 0, 0)]
/-- A state for clause 2 of FusedGridAndProjection. -/
abbrev wFusedGridAndProjection1 : State := st [(F.COM_STAT_RUN, 0x18, 1), (F.CNPY_GSEQ_SEQ, 0, 1)] [(V.nextTk, 0, 0)]
/-- A state for clause 3 of FusedGridAndProjection. -/
abbrev wFusedGridAndProjection2 : State := st [(F.COM_STAT_RUN, 0x18, 1), (F.COM_CTRL_MODE, 0x18, 1)] [(V.nextTk, 0, 0)]
/-- A state for clause 4 of FusedGridAndProjection. -/
abbrev wFusedGridAndProjection3 : State := st [(F.CNPY_GSEQ_SEQ, 0, 7)] [(V.hdrStop, 0, 1)]
/-- A state for clause 5 of FusedGridAndProjection. -/
abbrev wFusedGridAndProjection4 : State := st [(F.COM_STAT_RUN, 0x18, 1), (F.CNPY_RES_CFG_EN.act, 0, 1)] [(V.resBins, 2, 300)]
/-- A state for clause 6 of FusedGridAndProjection. -/
abbrev wFusedGridAndProjection5 : State := st [] []
/-- A state for clause 7 of FusedGridAndProjection. -/
abbrev wFusedGridAndProjection6 : State := st [(F.CNPY_HP_STAT_ST, 0, 2)] []
/-- A state for clause 8 of FusedGridAndProjection. -/
abbrev wFusedGridAndProjection7 : State := st [] [(V.hdrStop, 0, 1)]

/-- The hypotheses of the clauses of FusedGridAndProjection are met. -/
theorem wit_FusedGridAndProjection :
    ((wFusedGridAndProjection0.dev.running 0x18 = true) ∧ (0 ≤ wFusedGridAndProjection0.dev.var V.nextTk 0) ∧ (wFusedGridAndProjection0.dev.var V.nextTk 0 * 65536 ≤ wFusedGridAndProjection0.dev.var V.grove 0) ∧ (wFusedGridAndProjection0.dev.get F.COM_CTRL_MODE 0x18 ≠ 1) ∧ (wFusedGridAndProjection0.dev.get F.CNPY_GSEQ_SEQ 0 % 2 = 0)) ∧
    ((wFusedGridAndProjection1.dev.running 0x18 = true) ∧ (0 ≤ wFusedGridAndProjection1.dev.var V.nextTk 0) ∧ (wFusedGridAndProjection1.dev.var V.nextTk 0 * 65536 ≤ wFusedGridAndProjection1.dev.var V.grove 0) ∧ (wFusedGridAndProjection1.dev.get F.COM_CTRL_MODE 0x18 ≠ 1) ∧ (wFusedGridAndProjection1.dev.get F.CNPY_GSEQ_SEQ 0 % 2 = 1)) ∧
    ((wFusedGridAndProjection2.dev.running 0x18 = true) ∧ (0 ≤ wFusedGridAndProjection2.dev.var V.nextTk 0) ∧ (wFusedGridAndProjection2.dev.var V.nextTk 0 * 65536 ≤ wFusedGridAndProjection2.dev.var V.grove 0) ∧ (wFusedGridAndProjection2.dev.get F.COM_CTRL_MODE 0x18 = 1)) ∧
    ((wFusedGridAndProjection3.dev.get F.CNPY_GSEQ_SEQ 0 % 2 = 1)) ∧
    ((wFusedGridAndProjection4.dev.running 0x18 = true) ∧ (wFusedGridAndProjection4.dev.get F.CNPY_RES_CFG_EN.act 0 = 1) ∧ (((max 1 (wFusedGridAndProjection4.dev.get F.CNPY_RES_CFG_NACC.act 0) : Nat) : Int) ≤ wFusedGridAndProjection4.dev.var V.resBins (2 : Fin 8))) ∧
    ((Taken wFusedGridAndProjection5 0x18 (⟨0, true⟩ : Acc)) ∧ (wFusedGridAndProjection5.dev.get F.CNPY_HP_STAT_ST 0 ≠ 1) ∧ (wFusedGridAndProjection5.dev.get F.CNPY_HP_STAT_ST 0 ≠ 2)) ∧
    ((wFusedGridAndProjection6.dev.get F.CNPY_HP_STAT_ST 0 = 2)) ∧
    ((Taken wFusedGridAndProjection7 0x18 (⟨0, true⟩ : Acc))) := by
  and_intros <;> decide +kernel

/-- A state for clause 1 of NetworkJobsQueueRunAndEnd. -/
abbrev wNetworkJobsQueueRunAndEnd0 : State := st [] []
/-- A state for clause 2 of NetworkJobsQueueRunAndEnd. -/
abbrev wNetworkJobsQueueRunAndEnd1 : State := st [(F.JOB_CFG_TRIG, 5, 3)] []
/-- A state for clause 3 of NetworkJobsQueueRunAndEnd. -/
abbrev wNetworkJobsQueueRunAndEnd2 : State := { st [(F.COM_STAT_RUN, 0x1A, 1), (F.JOB_STAT_STATE, 0, 2), (F.IOMU_DDTP_V, 0, 1), (F.JOB_PROG_PROG, 0, 0x100000000), (F.JOB_ARGS_ARGS, 0, 0x100001000)] [(V.npuJob, 0, -1)] with mem := [(0x100000000, 0x4B), (0x100000001, 0x4E), (0x100000002, 0x50), (0x100000003, 0x55), (0x100000004, 3), (0x100000008, 64), (0x100000010, 1), (0x100000011, 1), (0x100001000, 1), (0x100001001, 1)] }
/-- A state for clause 4 of NetworkJobsQueueRunAndEnd. -/
abbrev wNetworkJobsQueueRunAndEnd3 : State := st [(F.COM_STAT_RUN, 0x1A, 1), (F.JOB_STAT_STATE, 0, 2)] [(V.npuJob, 0, -1)]
/-- A state for clause 5 of NetworkJobsQueueRunAndEnd. -/
abbrev wNetworkJobsQueueRunAndEnd4 : State := st [(F.JOB_STAT_STATE, 1, 3)] [(V.npuJob, 0, 1)]
/-- A state for clause 6 of NetworkJobsQueueRunAndEnd. -/
abbrev wNetworkJobsQueueRunAndEnd5 : State := st [(F.JOB_STAT_STATE, 1, 3), (F.JOB_CFG_LIMIT, 1, 2)] [(V.npuJob, 0, 1), (V.uptime, 0, 65536000000000)]
/-- A state for clause 7 of NetworkJobsQueueRunAndEnd. -/
abbrev wNetworkJobsQueueRunAndEnd6 : State := st [(F.JOB_STAT_STATE, 1, 3)] [(V.npuJob, 0, 1)]

/-- The hypotheses of the clauses of NetworkJobsQueueRunAndEnd are met. -/
theorem wit_NetworkJobsQueueRunAndEnd :
    ((Taken wNetworkJobsQueueRunAndEnd0 0x1A (⟨0, true⟩ : Acc)) ∧ (wNetworkJobsQueueRunAndEnd0.dev.get F.JOB_CFG_TRIG (5 : Fin 64) = 0 ∨ wNetworkJobsQueueRunAndEnd0.dev.get F.JOB_CFG_TRIG (5 : Fin 64) = 7) ∧ (wNetworkJobsQueueRunAndEnd0.dev.get F.JOB_STAT_STATE (5 : Fin 64) = 0 ∨ wNetworkJobsQueueRunAndEnd0.dev.get F.JOB_STAT_STATE (5 : Fin 64) = 4)) ∧
    ((Taken wNetworkJobsQueueRunAndEnd1 0x1A (⟨0, true⟩ : Acc))) ∧
    ((wNetworkJobsQueueRunAndEnd2.dev.running 0x1A = true) ∧ (wNetworkJobsQueueRunAndEnd2.dev.var V.npuJob 0 < 0) ∧ (wNetworkJobsQueueRunAndEnd2.dev.jobNext = some (0 : Fin 64).val) ∧ ((State.jobCheck { wNetworkJobsQueueRunAndEnd2 with dev := wNetworkJobsQueueRunAndEnd2.dev.jobBegin (0 : Fin 64) } (0 : Fin 64)).2 = none) ∧ (((State.jobCheck { wNetworkJobsQueueRunAndEnd2 with dev := wNetworkJobsQueueRunAndEnd2.dev.jobBegin (0 : Fin 64) } (0 : Fin 64)).1.jobInputs (0 : Fin 64) 0 (leAt ((State.jobCheck { wNetworkJobsQueueRunAndEnd2 with dev := wNetworkJobsQueueRunAndEnd2.dev.jobBegin (0 : Fin 64) } (0 : Fin 64)).1.devPeek 0x01A0 ((State.jobCheck { wNetworkJobsQueueRunAndEnd2 with dev := wNetworkJobsQueueRunAndEnd2.dev.jobBegin (0 : Fin 64) } (0 : Fin 64)).1.dev.get F.JOB_ARGS_ARGS (0 : Fin 64)) 8) 0 1)).2 = true)) ∧
    ((wNetworkJobsQueueRunAndEnd3.dev.running 0x1A = true) ∧ (wNetworkJobsQueueRunAndEnd3.dev.var V.npuJob 0 < 0) ∧ (wNetworkJobsQueueRunAndEnd3.dev.jobNext = some (0 : Fin 64).val) ∧ ((State.jobCheck { wNetworkJobsQueueRunAndEnd3 with dev := wNetworkJobsQueueRunAndEnd3.dev.jobBegin (0 : Fin 64) } (0 : Fin 64)).2.isSome = true)) ∧
    ((0 ≤ wNetworkJobsQueueRunAndEnd4.dev.var V.npuJob 0) ∧ ((wNetworkJobsQueueRunAndEnd4.jobOutputs (wNetworkJobsQueueRunAndEnd4.dev.var V.npuJob 0).toNat 0 ([] : List (List Byte))).2 = true)) ∧
    ((0 ≤ wNetworkJobsQueueRunAndEnd5.dev.var V.npuJob 0) ∧ (wNetworkJobsQueueRunAndEnd5.dev.get F.JOB_CFG_LIMIT ((wNetworkJobsQueueRunAndEnd5.dev.var V.npuJob 0).toNat) ≠ 0) ∧ ((wNetworkJobsQueueRunAndEnd5.dev.get F.JOB_CFG_LIMIT ((wNetworkJobsQueueRunAndEnd5.dev.var V.npuJob 0).toNat) : Int) * 100000 * 65536 < wNetworkJobsQueueRunAndEnd5.dev.since V.npuAt 0)) ∧
    ((Taken wNetworkJobsQueueRunAndEnd6 0x1A (⟨0, true⟩ : Acc)) ∧ (0 ≤ wNetworkJobsQueueRunAndEnd6.dev.var V.npuJob 0)) := by
  and_intros <;> decide +kernel

/-- A state for clause 1 of EgoMotionSteps. -/
abbrev wEgoMotionSteps0 : State := { st [(F.COM_STAT_RUN, 0x19, 1)] [] with dev := { (st [(F.COM_STAT_RUN, 0x19, 1)] []).dev with hist := [((18, 0), [(0, 0)])] } }
/-- A state for clause 2 of EgoMotionSteps. -/
abbrev wEgoMotionSteps1 : State := st [(F.COM_STAT_RUN, 0x19, 1), (F.COM_CTRL_EN, 0x19, 1), (F.EGO_STAT_VALID, 0, 1)] [(V.imuBad, 0, 101)]
/-- A state for clause 3 of EgoMotionSteps. -/
abbrev wEgoMotionSteps2 : State := st [(F.COM_STAT_RUN, 0x19, 1)] [(V.stillRun, 0, 2000)]
/-- A state for clause 4 of EgoMotionSteps. -/
abbrev wEgoMotionSteps3 : State := st [(F.GNTK_GUARD_STAT_CONTRA, 0, 1), (F.EGO_SLIP_SLIP, 0, 9)] [(V.uptime, 0, 6553600000000000000)]
/-- A state for clause 5 of EgoMotionSteps. -/
abbrev wEgoMotionSteps4 : State := st [(F.EGO_STAT_RSTCNT, 0, 3)] []

/-- The hypotheses of the clauses of EgoMotionSteps are met. -/
theorem wit_EgoMotionSteps :
    ((wEgoMotionSteps0.dev.running 0x19 = true)) ∧
    ((wEgoMotionSteps1.dev.running 0x19 = true) ∧ (wEgoMotionSteps1.dev.get F.COM_CTRL_EN 0x19 = 1) ∧ (100 < wEgoMotionSteps1.dev.var V.imuBad 0 ∨ 100 < wEgoMotionSteps1.dev.var V.whlBad 0)) ∧
    ((wEgoMotionSteps2.dev.running 0x19 = true) ∧ (2000 ≤ wEgoMotionSteps2.dev.var V.stillRun 0) ∧ (wEgoMotionSteps2.dev.get F.EGO_STAT_STILL 0 ≠ 1)) ∧
    ((wEgoMotionSteps3.dev.get F.GNTK_GUARD_STAT_CONTRA 0 = 1) ∧ (wEgoMotionSteps3.dev.passed V.contraAt 0 (wEgoMotionSteps3.dev.var V.holdTV 0 * 1000000000) = true)) ∧
    ((Taken wEgoMotionSteps4 0x19 (⟨0, true⟩ : Acc))) := by
  and_intros <;> decide +kernel

/-- A state for clause 1 of AcousticImpactCounts. -/
abbrev wAcousticImpactCounts0 : State := st [(F.COM_STAT_RUN, 0x23, 1), (F.ACU_CFG_EN, 3, 1)] [(V.acuArm, 3, 1), (V.uptime, 0, 77)]
/-- A state for clause 2 of AcousticImpactCounts. -/
abbrev wAcousticImpactCounts1 : State := { st [] [(V.uptime, 0, 67108864000)] with dev := { (st [] [(V.uptime, 0, 67108864000)]).dev with hist := [((21, 3), [(0, 2)])] } }
/-- A state for clause 3 of AcousticImpactCounts. -/
abbrev wAcousticImpactCounts2 : State := st [(F.COM_STAT_RUN, 0x23, 1), (F.ACU_CFG_EN, 3, 1)] [(V.acuArm, 3, 0), (V.uptime, 0, 6553600000000)]
/-- A state for clause 4 of AcousticImpactCounts. -/
abbrev wAcousticImpactCounts3 : State := st [(F.COM_STAT_RUN, 0x23, 1), (F.ACU_CFG_EN, 3, 1)] [(V.acuArm, 3, 0), (V.uptime, 0, 6553600000000)]
/-- A state for clause 5 of AcousticImpactCounts. -/
abbrev wAcousticImpactCounts4 : State := st [(F.COM_STAT_RUN, 0x23, 1)] [(V.nextWin, 0, 0), (V.acuG, 3, 9)]
/-- A state for clause 6 of AcousticImpactCounts. -/
abbrev wAcousticImpactCounts5 : State := st [] [(V.acuClosed, 0, 1), (V.acuG, 19, 70000)]
/-- A state for clause 7 of AcousticImpactCounts. -/
abbrev wAcousticImpactCounts6 : State := st [] []
/-- A state for clause 8 of AcousticImpactCounts. -/
abbrev wAcousticImpactCounts7 : State := st [] [(V.snapArm, 0, 2), (V.uptime, 0, 6553600000000)]

/-- The hypotheses of the clauses of AcousticImpactCounts are met. -/
theorem wit_AcousticImpactCounts :
    ((wAcousticImpactCounts0.dev.acuOn (3 : Fin 16) = true) ∧ (wAcousticImpactCounts0.dev.var V.acuArm (3 : Fin 16) = 1)) ∧
    ((wAcousticImpactCounts1.dev.past 21 (3 : Fin 16) = ((0, 2) : Int × Int) :: ([] : List (Int × Int))) ∧ (((0, 2) : Int × Int).1 + 1024000 * 65536 ≤ wAcousticImpactCounts1.dev.var V.uptime 0)) ∧
    ((wAcousticImpactCounts2.dev.acuOn (3 : Fin 16) = true) ∧ (wAcousticImpactCounts2.dev.var V.acuArm (3 : Fin 16) = 0) ∧ (wAcousticImpactCounts2.dev.passed V.acuTrig (3 : Fin 16) (wAcousticImpactCounts2.dev.acuDead (3 : Fin 16)) = true)) ∧
    ((wAcousticImpactCounts3.dev.acuOn (3 : Fin 16) = true) ∧ (wAcousticImpactCounts3.dev.var V.acuArm (3 : Fin 16) = 0) ∧ (wAcousticImpactCounts3.dev.passed V.acuTrig (3 : Fin 16) (wAcousticImpactCounts3.dev.acuDead (3 : Fin 16) + 2000000 + (wAcousticImpactCounts3.dev.var V.acuPn (3 : Fin 16) + 1) * 1000000) = true)) ∧
    ((wAcousticImpactCounts4.dev.running 0x23 = true) ∧ (0 ≤ wAcousticImpactCounts4.dev.var V.nextWin 0) ∧ (wAcousticImpactCounts4.dev.var V.nextWin 0 * 65536 ≤ wAcousticImpactCounts4.dev.var V.grove 0)) ∧
    ((wAcousticImpactCounts5.dev.var V.acuClosed 0 ≠ 0) ∧ (∀ i < 16, ∀ e ∈ wAcousticImpactCounts5.dev.past 21 i, e.2 ≠ 2)) ∧
    ((Taken wAcousticImpactCounts6 0x23 (⟨8, true⟩ : Acc))) ∧
    ((wAcousticImpactCounts7.dev.var V.snapArm 0 = 2) ∧ (wAcousticImpactCounts7.dev.passed V.snapAt 0 1792000 = true)) := by
  and_intros <;> decide +kernel

/-- A state for clause 1 of CropLineStageTapsAndPairs. -/
abbrev wCropLineStageTapsAndPairs0 : State := st [(F.COM_STAT_RUN, 0x1B, 1), (F.TAP_CFG_EN, 3, 1)] []
/-- A state for clause 2 of CropLineStageTapsAndPairs. -/
abbrev wCropLineStageTapsAndPairs1 : State := st [(F.COM_STAT_RUN, 0x1B, 1), (F.CROP_STATE_FLOWOK, 0, 1)] [(V.flowMiss, 0, 100)]
/-- A state for clause 3 of CropLineStageTapsAndPairs. -/
abbrev wCropLineStageTapsAndPairs2 : State := st [(F.COM_STAT_RUN, 0x1B, 1), (F.EGO_STAT_VALID, 0, 1), (F.CROP_SAMP_NEAR.act, 0, 8), (F.CROP_SAMP_FAR.act, 0, 10)] [(V.gridNew, 0, 1)]
/-- A state for clause 4 of CropLineStageTapsAndPairs. -/
abbrev wCropLineStageTapsAndPairs3 : State := { st [] [] with dev := { (st [] []).dev with parcels := [⟨1,2,3,4,false,false,false,2^48⟩] } }
/-- A state for clause 5 of CropLineStageTapsAndPairs. -/
abbrev wCropLineStageTapsAndPairs4 : State := st [(F.COM_STAT_RUN, 0x1B, 1), (F.TAP_CFG_EN, 3, 1), (F.TAP_CFG_SLOT, 3, 70), (F.TAP_CFG_PER, 3, 10), (F.EGO_STAT_VALID, 0, 1), (F.TAP_CFG_KIND, 3, 2), (F.CELL_VALID, 1, 1)] [(V.tapCnt, 3, 20), (V.flowRec, 0, 1), (V.flowBits, 0, 16), (V.flowFspd, 0, 300)]
/-- A state for clause 6 of CropLineStageTapsAndPairs. -/
abbrev wCropLineStageTapsAndPairs5 : State := st [] []
/-- A state for clause 7 of CropLineStageTapsAndPairs. -/
abbrev wCropLineStageTapsAndPairs6 : State := st [(F.CELL_MASS, 9, 5)] []
/-- A state for clause 8 of CropLineStageTapsAndPairs. -/
abbrev wCropLineStageTapsAndPairs7 : State := st [] [(V.stageClr, 0, 0)]
/-- A state for clause 9 of CropLineStageTapsAndPairs. -/
abbrev wCropLineStageTapsAndPairs8 : State := st [(F.COM_STAT_RUN, 0x1B, 1), (F.CROP_YRING_BASE.act, 0, 0x100000000), (F.IOMU_DDTP_V, 0, 1)] [(V.nextY, 0, 0)]

/-- The hypotheses of the clauses of CropLineStageTapsAndPairs are met. -/
theorem wit_CropLineStageTapsAndPairs :
    ((wCropLineStageTapsAndPairs0.dev.running 0x1B = true) ∧ (wCropLineStageTapsAndPairs0.dev.get F.TAP_CFG_EN (3 : Fin 16) = 1)) ∧
    ((wCropLineStageTapsAndPairs1.dev.running 0x1B = true) ∧ (100 ≤ wCropLineStageTapsAndPairs1.dev.var V.flowMiss 0) ∧ (wCropLineStageTapsAndPairs1.dev.var V.flowStaled 0 = 0)) ∧
    ((wCropLineStageTapsAndPairs2.dev.running 0x1B = true) ∧ (wCropLineStageTapsAndPairs2.dev.var V.gridNew 0 ≠ 0) ∧ (wCropLineStageTapsAndPairs2.dev.var V.gridInv 0 ≠ 1) ∧ (wCropLineStageTapsAndPairs2.dev.var V.gridCleared 0 ≠ 1) ∧ (wCropLineStageTapsAndPairs2.dev.get F.EGO_STAT_VALID 0 = 1) ∧ (0 < (2 : Nat)) ∧ ((2 : Nat) < min (wCropLineStageTapsAndPairs2.dev.get F.CROP_SAMP_NEAR.act 0) 400)) ∧
    ((wCropLineStageTapsAndPairs3.dev.parcels = (⟨1,2,3,4,false,false,false,2^48⟩ : Parcel) :: ([] : List Parcel)) ∧ (2 ^ 48 ≤ (⟨1,2,3,4,false,false,false,2^48⟩ : Parcel).prog)) ∧
    ((wCropLineStageTapsAndPairs4.dev.running 0x1B = true) ∧ (wCropLineStageTapsAndPairs4.dev.get F.TAP_CFG_EN (3 : Fin 16) = 1) ∧ (wCropLineStageTapsAndPairs4.dev.tapClash (3 : Fin 16) = false) ∧ (((max 1 (wCropLineStageTapsAndPairs4.dev.get F.TAP_CFG_PER (3 : Fin 16)) : Nat) : Int) ≤ wCropLineStageTapsAndPairs4.dev.var V.tapCnt (3 : Fin 16))) ∧
    ((Taken wCropLineStageTapsAndPairs5 0x1B (⟨0, true⟩ : Acc))) ∧
    ((Taken wCropLineStageTapsAndPairs6 0x1B (⟨0, true⟩ : Acc))) ∧
    ((Taken wCropLineStageTapsAndPairs7 0x1B (⟨0, true⟩ : Acc))) ∧
    ((wCropLineStageTapsAndPairs8.dev.running 0x1B = true) ∧ (0 ≤ wCropLineStageTapsAndPairs8.dev.var V.nextY 0) ∧ (wCropLineStageTapsAndPairs8.dev.var V.nextY 0 * 65536 ≤ wCropLineStageTapsAndPairs8.dev.var V.grove 0) ∧ (wCropLineStageTapsAndPairs8.dev.get F.CROP_YRING_BASE.act 0 / 4096 * 4096 ≠ 0) ∧ (wCropLineStageTapsAndPairs8.dev.var V.yStop 0 ≠ 1) ∧ ((wCropLineStageTapsAndPairs8.dev.get F.CROP_YRING_WR_IDX 0 % (256 * 2 ^ min (wCropLineStageTapsAndPairs8.dev.get F.CROP_YRING_CFG_SIZE.act 0) 6) + 1) % (256 * 2 ^ min (wCropLineStageTapsAndPairs8.dev.get F.CROP_YRING_CFG_SIZE.act 0) 6) ≠ wCropLineStageTapsAndPairs8.dev.get F.CROP_YRING_RD_IDX 0 % (256 * 2 ^ min (wCropLineStageTapsAndPairs8.dev.get F.CROP_YRING_CFG_SIZE.act 0) 6)) ∧ ((State.devWrite { wCropLineStageTapsAndPairs8 with dev := wCropLineStageTapsAndPairs8.dev.yieldOpen.yieldNext (wCropLineStageTapsAndPairs8.dev.var V.nextY 0) } 0x01B0 (wCropLineStageTapsAndPairs8.dev.get F.CROP_YRING_BASE.act 0 / 4096 * 4096 + 32 * (wCropLineStageTapsAndPairs8.dev.get F.CROP_YRING_WR_IDX 0 % (256 * 2 ^ min (wCropLineStageTapsAndPairs8.dev.get F.CROP_YRING_CFG_SIZE.act 0) 6))) (wCropLineStageTapsAndPairs8.dev.yieldOpen.pairRecord (wCropLineStageTapsAndPairs8.dev.var V.nextY 0))).2 = none)) := by
  and_intros <;> decide +kernel

/-- A state for clause 1 of ControlLoopsSampleEvaluateAndDrive. -/
abbrev wControlLoopsSampleEvaluateAndDrive0 : State := st [(F.COM_STAT_RUN, 0x20, 1), (F.WHL_LP_CFG_EN, 3, 1)] [(V.lpNext, 3, 0), (V.lpTook, 3, 1)]
/-- A state for clause 2 of ControlLoopsSampleEvaluateAndDrive. -/
abbrev wControlLoopsSampleEvaluateAndDrive1 : State := st [] [(V.lpDue, 3, 1), (V.grove, 0, 2621440)]
/-- A state for clause 3 of ControlLoopsSampleEvaluateAndDrive. -/
abbrev wControlLoopsSampleEvaluateAndDrive2 : State := st [(F.WHL_LP_CFG_MODE, 3, 1), (F.PORT_CFG_EN, 12, 1), (F.PORT_CFG_RANK, 12, 3), (F.PORT_VAL_VAL, 12, 700), (F.PORT_SCALE_SCALE.act, 12, 65536), (F.BANK_UMAX_V, 6, 9000)] [(V.lpDue, 3, 1), (V.grove, 0, 2621440)]
/-- A state for clause 4 of ControlLoopsSampleEvaluateAndDrive. -/
abbrev wControlLoopsSampleEvaluateAndDrive3 : State := st [(F.WHL_LP_STAT_STATE, 3, 1), (F.PORT_CFG_EN, 12, 1), (F.PORT_CFG_RANK, 12, 3), (F.PORT_VAL_VAL, 12, 700), (F.PORT_SCALE_SCALE.act, 12, 65536), (F.BANK_UMAX_V, 6, 9000), (F.BANK_KP_V, 6, 131072), (F.BANK_KI_V, 6, 3000), (F.BANK_DF_V, 6, 9000), (F.BANK_KD_V, 6, 7000)] [(V.lpDue, 3, 1), (V.grove, 0, 2621440), (V.lpFresh, 3, 0)]
/-- A state for clause 5 of ControlLoopsSampleEvaluateAndDrive. -/
abbrev wControlLoopsSampleEvaluateAndDrive4 : State := st [(F.WHL_LP_U_VAL, 3, 30000)] [(V.lpOut, 3, 1), (V.lpOwnK, 3, 1)]
/-- A state for clause 6 of ControlLoopsSampleEvaluateAndDrive. -/
abbrev wControlLoopsSampleEvaluateAndDrive5 : State := st [(F.COM_STAT_RUN, 0x20, 1)] []
/-- A state for clause 7 of ControlLoopsSampleEvaluateAndDrive. -/
abbrev wControlLoopsSampleEvaluateAndDrive6 : State := st [(F.WHL_LP_CFG_EN, 0, 1)] []
/-- A state for clause 8 of ControlLoopsSampleEvaluateAndDrive. -/
abbrev wControlLoopsSampleEvaluateAndDrive7 : State := st [(F.WHL_LP_STAT_PEND, 0, 0)] []
/-- A state for clause 9 of ControlLoopsSampleEvaluateAndDrive. -/
abbrev wControlLoopsSampleEvaluateAndDrive8 : State := st [] []
/-- A state for clause 10 of ControlLoopsSampleEvaluateAndDrive. -/
abbrev wControlLoopsSampleEvaluateAndDrive9 : State := st [(F.WHL_LP_CONF_CNT, 0, 7)] []
/-- A state for clause 11 of ControlLoopsSampleEvaluateAndDrive. -/
abbrev wControlLoopsSampleEvaluateAndDrive10 : State := st [(F.WHL_LANE_QMAX0, 0, 7)] []
/-- A state for clause 12 of ControlLoopsSampleEvaluateAndDrive. -/
abbrev wControlLoopsSampleEvaluateAndDrive11 : State := st [] []
/-- A state for clause 13 of ControlLoopsSampleEvaluateAndDrive. -/
abbrev wControlLoopsSampleEvaluateAndDrive12 : State := st [] []

/-- The hypotheses of the clauses of ControlLoopsSampleEvaluateAndDrive are met. -/
theorem wit_ControlLoopsSampleEvaluateAndDrive :
    ((wControlLoopsSampleEvaluateAndDrive0.dev.running 0x20 = true) ∧ (wControlLoopsSampleEvaluateAndDrive0.dev.get F.WHL_LP_CFG_EN (3 : Fin 64) = 1) ∧ (0 ≤ wControlLoopsSampleEvaluateAndDrive0.dev.var V.lpNext (3 : Fin 64)) ∧ (wControlLoopsSampleEvaluateAndDrive0.dev.var V.lpNext (3 : Fin 64) * 65536 + (wControlLoopsSampleEvaluateAndDrive0.dev.var V.gridMove 0x20 - wControlLoopsSampleEvaluateAndDrive0.dev.var V.lpGrid (3 : Fin 64)) ≤ wControlLoopsSampleEvaluateAndDrive0.dev.var V.grove 0) ∧ (wControlLoopsSampleEvaluateAndDrive0.dev.var V.lpRel (3 : Fin 64) ≠ 1) ∧ (wControlLoopsSampleEvaluateAndDrive0.dev.var V.lpTook (3 : Fin 64) ≠ 0) ∧ (wControlLoopsSampleEvaluateAndDrive0.dev.get F.WHL_LP_STAT_STATE (3 : Fin 64) ≠ 5)) ∧
    ((wControlLoopsSampleEvaluateAndDrive1.dev.laneNext (3 : Fin 64) = true) ∧ (wControlLoopsSampleEvaluateAndDrive1.dev.lpApplyDue (3 : Fin 64) = false)) ∧
    ((wControlLoopsSampleEvaluateAndDrive2.dev.laneNext (3 : Fin 64) = true) ∧ (wControlLoopsSampleEvaluateAndDrive2.dev.lpApplyDue (3 : Fin 64) = false) ∧ (wControlLoopsSampleEvaluateAndDrive2.dev.get F.WHL_LP_CFG_MODE (3 : Fin 64) = 1) ∧ (wControlLoopsSampleEvaluateAndDrive2.dev.get F.WHL_LP_STAT_PEND (3 : Fin 64) ≠ 1) ∧ (wControlLoopsSampleEvaluateAndDrive2.dev.get F.WHL_LP_FB_CFG_KIND (3 : Fin 64) = 0) ∧ (wControlLoopsSampleEvaluateAndDrive2.dev.get F.WHL_LP_CFG_ROADBAR (3 : Fin 64) ≠ 1) ∧ (wControlLoopsSampleEvaluateAndDrive2.dev.get F.WHL_LP_CFG_FBMASK (3 : Fin 64) = 0) ∧ (wControlLoopsSampleEvaluateAndDrive2.dev.get F.WHL_LP_FFX_EN (3 : Fin 64) ≠ 1) ∧ (wControlLoopsSampleEvaluateAndDrive2.dev.get F.PORT_CFG_EN (4 * (3 : Fin 64).val) = 1) ∧ (wControlLoopsSampleEvaluateAndDrive2.dev.get F.PORT_CFG_RANK (4 * (3 : Fin 64).val) = 3) ∧ (wControlLoopsSampleEvaluateAndDrive2.dev.get F.PORT_CFG_KIND (4 * (3 : Fin 64).val) = 0) ∧ (wControlLoopsSampleEvaluateAndDrive2.dev.get F.PORT_DB_DB.act (4 * (3 : Fin 64).val) = 0) ∧ (wControlLoopsSampleEvaluateAndDrive2.dev.get F.PORT_CFG_EN (4 * (3 : Fin 64).val + 1) ≠ 1) ∧ (wControlLoopsSampleEvaluateAndDrive2.dev.get F.PORT_CFG_EN (4 * (3 : Fin 64).val + 2) ≠ 1) ∧ (wControlLoopsSampleEvaluateAndDrive2.dev.get F.PORT_CFG_EN (4 * (3 : Fin 64).val + 3) ≠ 1) ∧ (wControlLoopsSampleEvaluateAndDrive2.dev.get F.BANK_RLIM_V (2 * (3 : Fin 64).val + wControlLoopsSampleEvaluateAndDrive2.dev.get F.WHL_LP_STAT_ACT (3 : Fin 64)) = 0)) ∧
    ((wControlLoopsSampleEvaluateAndDrive3.dev.laneNext (3 : Fin 64) = true) ∧ (wControlLoopsSampleEvaluateAndDrive3.dev.lpApplyDue (3 : Fin 64) = false) ∧ (wControlLoopsSampleEvaluateAndDrive3.dev.get F.WHL_LP_CFG_MODE (3 : Fin 64) ≠ 1) ∧ (wControlLoopsSampleEvaluateAndDrive3.dev.get F.WHL_LP_STAT_PEND (3 : Fin 64) ≠ 1) ∧ (wControlLoopsSampleEvaluateAndDrive3.dev.get F.WHL_LP_STAT_STATE (3 : Fin 64) = 1) ∧ (wControlLoopsSampleEvaluateAndDrive3.dev.var V.lpFresh (3 : Fin 64) ≠ 1) ∧ (wControlLoopsSampleEvaluateAndDrive3.dev.get F.WHL_LP_FB_CFG_KIND (3 : Fin 64) = 0) ∧ (wControlLoopsSampleEvaluateAndDrive3.dev.get F.WHL_LP_CFG_ROADBAR (3 : Fin 64) ≠ 1) ∧ (wControlLoopsSampleEvaluateAndDrive3.dev.get F.WHL_LP_CFG_FRON (3 : Fin 64) ≠ 1) ∧ (wControlLoopsSampleEvaluateAndDrive3.dev.get F.WHL_LP_CFG_COGON (3 : Fin 64) ≠ 1) ∧ (wControlLoopsSampleEvaluateAndDrive3.dev.get F.WHL_LP_CFG_FBMASK (3 : Fin 64) = 0) ∧ (wControlLoopsSampleEvaluateAndDrive3.dev.get F.WHL_LP_FFX_EN (3 : Fin 64) ≠ 1) ∧ (wControlLoopsSampleEvaluateAndDrive3.dev.get F.PORT_CFG_EN (4 * (3 : Fin 64).val) = 1) ∧ (wControlLoopsSampleEvaluateAndDrive3.dev.get F.PORT_CFG_RANK (4 * (3 : Fin 64).val) = 3) ∧ (wControlLoopsSampleEvaluateAndDrive3.dev.get F.PORT_CFG_KIND (4 * (3 : Fin 64).val) = 0) ∧ (wControlLoopsSampleEvaluateAndDrive3.dev.get F.PORT_DB_DB.act (4 * (3 : Fin 64).val) = 0) ∧ (wControlLoopsSampleEvaluateAndDrive3.dev.get F.PORT_CFG_EN (4 * (3 : Fin 64).val + 1) ≠ 1) ∧ (wControlLoopsSampleEvaluateAndDrive3.dev.get F.PORT_CFG_EN (4 * (3 : Fin 64).val + 2) ≠ 1) ∧ (wControlLoopsSampleEvaluateAndDrive3.dev.get F.PORT_CFG_EN (4 * (3 : Fin 64).val + 3) ≠ 1) ∧ (wControlLoopsSampleEvaluateAndDrive3.dev.get F.BANK_RLIM_V (2 * (3 : Fin 64).val + wControlLoopsSampleEvaluateAndDrive3.dev.get F.WHL_LP_STAT_ACT (3 : Fin 64)) = 0) ∧ ((700 : Int) = puValue (wControlLoopsSampleEvaluateAndDrive3.dev.getI F.PORT_VAL_VAL (4 * (3 : Fin 64).val)) (wControlLoopsSampleEvaluateAndDrive3.dev.getI F.PORT_SCALE_SCALE.act (4 * (3 : Fin 64).val)) (wControlLoopsSampleEvaluateAndDrive3.dev.getI F.PORT_OFFS_OFFS.act (4 * (3 : Fin 64).val)))) ∧
    ((wControlLoopsSampleEvaluateAndDrive4.dev.var V.lpOut (3 : Fin 64) = 1) ∧ (wControlLoopsSampleEvaluateAndDrive4.dev.var V.lpOutT (3 : Fin 64) ≤ wControlLoopsSampleEvaluateAndDrive4.dev.ctlTime)) ∧
    ((Taken wControlLoopsSampleEvaluateAndDrive5 0x20 (⟨8, true⟩ : Acc)) ∧ ((wControlLoopsSampleEvaluateAndDrive5.dev.chSel 0x20 (⟨8, true⟩ : Acc)) < 64) ∧ (wControlLoopsSampleEvaluateAndDrive5.dev.get F.WHL_LP_CFG_EN (wControlLoopsSampleEvaluateAndDrive5.dev.chSel 0x20 (⟨8, true⟩ : Acc)) ≠ 1)) ∧
    ((Taken wControlLoopsSampleEvaluateAndDrive6 0x20 (⟨8, true⟩ : Acc)) ∧ ((wControlLoopsSampleEvaluateAndDrive6.dev.chSel 0x20 (⟨8, true⟩ : Acc)) < 64) ∧ (wControlLoopsSampleEvaluateAndDrive6.dev.get F.WHL_LP_CFG_EN (wControlLoopsSampleEvaluateAndDrive6.dev.chSel 0x20 (⟨8, true⟩ : Acc)) = 1)) ∧
    ((Taken wControlLoopsSampleEvaluateAndDrive7 0x20 (⟨8, true⟩ : Acc)) ∧ ((wControlLoopsSampleEvaluateAndDrive7.dev.chSel 0x20 (⟨8, true⟩ : Acc)) < 64)) ∧
    ((Taken wControlLoopsSampleEvaluateAndDrive8 0x20 (⟨8, true⟩ : Acc))) ∧
    ((Taken wControlLoopsSampleEvaluateAndDrive9 0x20 (⟨8, true⟩ : Acc)) ∧ ((wControlLoopsSampleEvaluateAndDrive9.dev.chSel 0x20 (⟨8, true⟩ : Acc)) < 64)) ∧
    ((Taken wControlLoopsSampleEvaluateAndDrive10 0x20 (⟨8, true⟩ : Acc))) ∧
    ((Taken wControlLoopsSampleEvaluateAndDrive11 0x20 (⟨8, true⟩ : Acc)) ∧ ((wControlLoopsSampleEvaluateAndDrive11.dev.chSel 0x20 (⟨8, true⟩ : Acc)) < 64)) ∧
    ((Taken wControlLoopsSampleEvaluateAndDrive12 0x20 (⟨8, true⟩ : Acc)) ∧ ((wControlLoopsSampleEvaluateAndDrive12.dev.chSel 0x20 (⟨8, true⟩ : Acc)) < 64)) := by
  and_intros <;> decide +kernel

/-- A state for clause 1 of SolenoidRequestsAndStarts. -/
abbrev wSolenoidRequestsAndStarts0 : State := st [] []
/-- A state for clause 2 of SolenoidRequestsAndStarts. -/
abbrev wSolenoidRequestsAndStarts1 : State := st [(F.PWR_SUPPLY_UV, 0, 0), (F.SOL_CH_CFG_BOOST, 0, 0), (F.SOL_CH_CFG_EN, 0, 1), (F.COM_STAT_RUN, 0x21, 1), (F.SOL_CH_CFG_MODE, 0, 2)] [(V.solFb, 0, 0), (V.uptime, 0, 65536000000000)]
/-- A state for clause 3 of SolenoidRequestsAndStarts. -/
abbrev wSolenoidRequestsAndStarts2 : State := st [] []
/-- A state for clause 4 of SolenoidRequestsAndStarts. -/
abbrev wSolenoidRequestsAndStarts3 : State := st [(F.PWR_SUPPLY_UV, 0, 0), (F.SOL_CH_CFG_EN, 0, 1), (F.COM_STAT_RUN, 0x21, 1), (F.SOL_CH_CFG_MODE, 0, 1)] [(V.solFb, 0, 0)]
/-- A state for clause 5 of SolenoidRequestsAndStarts. -/
abbrev wSolenoidRequestsAndStarts4 : State := st [(F.SOL_Q_DUR_DUR, 0, 60), (F.SOL_Q_T_START, 0, 20000)] []
/-- A state for clause 6 of SolenoidRequestsAndStarts. -/
abbrev wSolenoidRequestsAndStarts5 : State := { st [] [] with dev := { (st [] []).dev with solQ := [(0, ⟨1, 2⟩), (1, ⟨3, 4⟩)] } }
/-- A state for clause 7 of SolenoidRequestsAndStarts. -/
abbrev wSolenoidRequestsAndStarts6 : State := { st [(F.PWR_SUPPLY_UV, 0, 0), (F.SOL_CH_CFG_BOOST, 5, 0), (F.SOL_CH_CFG_EN, 5, 1), (F.COM_STAT_RUN, 0x21, 1), (F.SOL_CH_CFG_MODE, 5, 2), (F.SOL_CH_CFG_EVSRC, 5, 1)] [(V.solFb, 0, 0), (V.uptime, 0, 65536000000000)] with dev := { (st [(F.PWR_SUPPLY_UV, 0, 0), (F.SOL_CH_CFG_BOOST, 5, 0), (F.SOL_CH_CFG_EN, 5, 1), (F.COM_STAT_RUN, 0x21, 1), (F.SOL_CH_CFG_MODE, 5, 2), (F.SOL_CH_CFG_EVSRC, 5, 1)] [(V.solFb, 0, 0), (V.uptime, 0, 65536000000000)]).dev with solQ := [(5, ⟨0, 60⟩)] } }
/-- A state for clause 8 of SolenoidRequestsAndStarts. -/
abbrev wSolenoidRequestsAndStarts7 : State := st [(F.PWR_SUPPLY_UV, 0, 0), (F.SOL_CH_CFG_BOOST, 5, 0), (F.SOL_CH_STAT_PHASE, 5, 1)] [(V.solFb, 0, 0), (V.solReq, 5, 1), (V.uptime, 0, 65536000000000)]
/-- A state for clause 9 of SolenoidRequestsAndStarts. -/
abbrev wSolenoidRequestsAndStarts8 : State := st [] [(V.solReq, 5, 1), (V.solStage, 5, 2), (V.uptime, 0, 65536000000000)]
/-- A state for clause 10 of SolenoidRequestsAndStarts. -/
abbrev wSolenoidRequestsAndStarts9 : State := st [(F.SOL_BST_CFG_VBST, 0, 65), (F.SOL_BST_CFG_VRDY, 0, 80)] [(V.solReq, 5, 1), (V.solStage, 5, 3), (V.uptime, 0, 65536000000000), (V.bstTgt, 0, 65000)]
/-- A state for clause 11 of SolenoidRequestsAndStarts. -/
abbrev wSolenoidRequestsAndStarts10 : State := st [(F.PWR_SUPPLY_UV, 0, 0), (F.SOL_BST_CFG_EN, 1, 1), (F.SOL_BST_CFG_VBST, 1, 65), (F.SOL_CH_STAT_PHASE, 17, 1), (F.SOL_CH_CFG_BOOST, 17, 1)] [(V.solFb, 0, 0), (V.bstTgt, 1, 65000), (V.solStage, 17, 3), (V.solReq, 17, 1), (V.uptime, 0, 65536000000000), (V.solRight, 4, 18)]

/-- The hypotheses of the clauses of SolenoidRequestsAndStarts are met. -/
theorem wit_SolenoidRequestsAndStarts :
    ((Taken wSolenoidRequestsAndStarts0 0x21 (⟨8, true⟩ : Acc)) ∧ ((wSolenoidRequestsAndStarts0.dev.chSel 0x21 (⟨8, true⟩ : Acc)) < 24)) ∧
    ((Taken wSolenoidRequestsAndStarts1 0x21 (⟨8, true⟩ : Acc)) ∧ ((wSolenoidRequestsAndStarts1.dev.chSel 0x21 (⟨8, true⟩ : Acc)) < 24) ∧ (wSolenoidRequestsAndStarts1.dev.solOn (wSolenoidRequestsAndStarts1.dev.chSel 0x21 (⟨8, true⟩ : Acc)) = true) ∧ (wSolenoidRequestsAndStarts1.dev.get F.SOL_CH_CFG_MODE (wSolenoidRequestsAndStarts1.dev.chSel 0x21 (⟨8, true⟩ : Acc)) = 2) ∧ (wSolenoidRequestsAndStarts1.dev.get F.SOL_CH_CFG_EVSRC (wSolenoidRequestsAndStarts1.dev.chSel 0x21 (⟨8, true⟩ : Acc)) ≠ 1) ∧ (wSolenoidRequestsAndStarts1.dev.var V.solOwn (wSolenoidRequestsAndStarts1.dev.chSel 0x21 (⟨8, true⟩ : Acc)) = 0) ∧ (wSolenoidRequestsAndStarts1.dev.get F.SOL_CH_STAT_PHASE (wSolenoidRequestsAndStarts1.dev.chSel 0x21 (⟨8, true⟩ : Acc)) = 0) ∧ (wSolenoidRequestsAndStarts1.dev.var V.solNeed (wSolenoidRequestsAndStarts1.dev.chSel 0x21 (⟨8, true⟩ : Acc)) = 0) ∧ (wSolenoidRequestsAndStarts1.dev.var V.solReq (wSolenoidRequestsAndStarts1.dev.chSel 0x21 (⟨8, true⟩ : Acc)) = 0) ∧ (wSolenoidRequestsAndStarts1.dev.var V.solRun (wSolenoidRequestsAndStarts1.dev.chSel 0x21 (⟨8, true⟩ : Acc)) = 0) ∧ (wSolenoidRequestsAndStarts1.dev.var V.solKink (wSolenoidRequestsAndStarts1.dev.chSel 0x21 (⟨8, true⟩ : Acc)) ≠ 1) ∧ (wSolenoidRequestsAndStarts1.dev.solFrozen = false) ∧ (wSolenoidRequestsAndStarts1.dev.solAgent = false) ∧ (wSolenoidRequestsAndStarts1.dev.solCutCh (wSolenoidRequestsAndStarts1.dev.chSel 0x21 (⟨8, true⟩ : Acc)) = false) ∧ (wSolenoidRequestsAndStarts1.dev.solHsHeld (wSolenoidRequestsAndStarts1.dev.chSel 0x21 (⟨8, true⟩ : Acc)) = false) ∧ (wSolenoidRequestsAndStarts1.dev.get F.SOL_SUPPLY_CRANK 0 ≠ 1) ∧ (wSolenoidRequestsAndStarts1.dev.solEarliest (wSolenoidRequestsAndStarts1.dev.chSel 0x21 (⟨8, true⟩ : Acc)) ≤ wSolenoidRequestsAndStarts1.dev.var V.uptime 0) ∧ (wSolenoidRequestsAndStarts1.dev.var V.solRight ((wSolenoidRequestsAndStarts1.dev.chSel 0x21 (⟨8, true⟩ : Acc)) / 4) = 0) ∧ (wSolenoidRequestsAndStarts1.dev.solLower (wSolenoidRequestsAndStarts1.dev.chSel 0x21 (⟨8, true⟩ : Acc)) = false) ∧ (wSolenoidRequestsAndStarts1.dev.get F.SOL_CH_CFG_BOOST (wSolenoidRequestsAndStarts1.dev.chSel 0x21 (⟨8, true⟩ : Acc)) ≠ 1)) ∧
    ((Taken wSolenoidRequestsAndStarts2 0x21 (⟨8, true⟩ : Acc)) ∧ ((wSolenoidRequestsAndStarts2.dev.chSel 0x21 (⟨8, true⟩ : Acc)) < 24)) ∧
    ((Taken wSolenoidRequestsAndStarts3 0x21 (⟨8, true⟩ : Acc)) ∧ ((wSolenoidRequestsAndStarts3.dev.chSel 0x21 (⟨8, true⟩ : Acc)) < 24) ∧ (wSolenoidRequestsAndStarts3.dev.solOn (wSolenoidRequestsAndStarts3.dev.chSel 0x21 (⟨8, true⟩ : Acc)) = true) ∧ (wSolenoidRequestsAndStarts3.dev.get F.SOL_CH_CFG_MODE (wSolenoidRequestsAndStarts3.dev.chSel 0x21 (⟨8, true⟩ : Acc)) = 1) ∧ (wSolenoidRequestsAndStarts3.dev.var V.solOwn (wSolenoidRequestsAndStarts3.dev.chSel 0x21 (⟨8, true⟩ : Acc)) = 0) ∧ ((900 : BitVec 16).toNat % 2 ^ F.SOL_CH_ISET_ISET.width ≠ 0) ∧ (wSolenoidRequestsAndStarts3.dev.get F.SOL_CH_STAT_PHASE (wSolenoidRequestsAndStarts3.dev.chSel 0x21 (⟨8, true⟩ : Acc)) = 0 ∨ wSolenoidRequestsAndStarts3.dev.get F.SOL_CH_STAT_PHASE (wSolenoidRequestsAndStarts3.dev.chSel 0x21 (⟨8, true⟩ : Acc)) = 5) ∧ (wSolenoidRequestsAndStarts3.dev.solFrozen = false) ∧ (wSolenoidRequestsAndStarts3.dev.solAgent = false) ∧ (wSolenoidRequestsAndStarts3.dev.solCutCh (wSolenoidRequestsAndStarts3.dev.chSel 0x21 (⟨8, true⟩ : Acc)) = false) ∧ (wSolenoidRequestsAndStarts3.dev.solHsHeld (wSolenoidRequestsAndStarts3.dev.chSel 0x21 (⟨8, true⟩ : Acc)) = false) ∧ (wSolenoidRequestsAndStarts3.dev.get F.SOL_SUPPLY_CRANK 0 ≠ 1)) ∧
    ((Taken wSolenoidRequestsAndStarts4 0x21 (⟨8, true⟩ : Acc)) ∧ ((wSolenoidRequestsAndStarts4.dev.chSel 0x21 (⟨8, true⟩ : Acc)) < 24)) ∧
    ((Taken wSolenoidRequestsAndStarts5 0x21 (⟨8, true⟩ : Acc)) ∧ ((wSolenoidRequestsAndStarts5.dev.chSel 0x21 (⟨8, true⟩ : Acc)) < 24)) ∧
    ((wSolenoidRequestsAndStarts6.dev.solHead (5 : Fin 24) = some (⟨0, 60⟩ : SolEntry)) ∧ (((⟨0, 60⟩ : SolEntry).start : Int) ≤ wSolenoidRequestsAndStarts6.dev.now) ∧ (wSolenoidRequestsAndStarts6.dev.var V.solReq (5 : Fin 24) = 0) ∧ (wSolenoidRequestsAndStarts6.dev.var V.solStepped (5 : Fin 24) ≠ 1) ∧ (wSolenoidRequestsAndStarts6.dev.solTakesQ (5 : Fin 24) = true) ∧ (wSolenoidRequestsAndStarts6.dev.get F.SOL_CH_STAT_PHASE (5 : Fin 24) = 0) ∧ (wSolenoidRequestsAndStarts6.dev.var V.solKink (5 : Fin 24) ≠ 1) ∧ (wSolenoidRequestsAndStarts6.dev.solFrozen = false) ∧ (wSolenoidRequestsAndStarts6.dev.solAgent = false) ∧ (wSolenoidRequestsAndStarts6.dev.solCutCh (5 : Fin 24) = false) ∧ (wSolenoidRequestsAndStarts6.dev.solHsHeld (5 : Fin 24) = false) ∧ (wSolenoidRequestsAndStarts6.dev.get F.SOL_SUPPLY_CRANK 0 ≠ 1) ∧ (wSolenoidRequestsAndStarts6.dev.solEarliest (5 : Fin 24) ≤ wSolenoidRequestsAndStarts6.dev.var V.uptime 0) ∧ (wSolenoidRequestsAndStarts6.dev.var V.solRight ((5 : Fin 24).val / 4) = 0) ∧ (wSolenoidRequestsAndStarts6.dev.solLower (5 : Fin 24) = false) ∧ (wSolenoidRequestsAndStarts6.dev.get F.SOL_CH_CFG_BOOST (5 : Fin 24) ≠ 1)) ∧
    ((wSolenoidRequestsAndStarts7.dev.var V.solReq (5 : Fin 24) ≠ 0) ∧ (wSolenoidRequestsAndStarts7.dev.get F.SOL_CH_STAT_PHASE (5 : Fin 24) = 1) ∧ (wSolenoidRequestsAndStarts7.dev.solFrozen = false) ∧ (wSolenoidRequestsAndStarts7.dev.solAgent = false) ∧ (wSolenoidRequestsAndStarts7.dev.solCutCh (5 : Fin 24) = false) ∧ (wSolenoidRequestsAndStarts7.dev.solHsHeld (5 : Fin 24) = false) ∧ (wSolenoidRequestsAndStarts7.dev.get F.SOL_SUPPLY_CRANK 0 ≠ 1) ∧ (wSolenoidRequestsAndStarts7.dev.solEarliest (5 : Fin 24) ≤ wSolenoidRequestsAndStarts7.dev.var V.uptime 0) ∧ (wSolenoidRequestsAndStarts7.dev.var V.solRight ((5 : Fin 24).val / 4) = 0) ∧ (wSolenoidRequestsAndStarts7.dev.solLower (5 : Fin 24) = false) ∧ (wSolenoidRequestsAndStarts7.dev.get F.SOL_CH_CFG_BOOST (5 : Fin 24) ≠ 1)) ∧
    ((wSolenoidRequestsAndStarts8.dev.var V.solReq (5 : Fin 24) ≠ 0) ∧ (wSolenoidRequestsAndStarts8.dev.var V.solStage (5 : Fin 24) = 2) ∧ (wSolenoidRequestsAndStarts8.dev.solFrozen = false) ∧ (wSolenoidRequestsAndStarts8.dev.passed V.solChk (5 : Fin 24) ((wSolenoidRequestsAndStarts8.dev.get F.SOL_CH_TIME_OVWIN.act (5 : Fin 24) : Int) * 10000) = true)) ∧
    ((wSolenoidRequestsAndStarts9.dev.var V.solReq (5 : Fin 24) ≠ 0) ∧ (wSolenoidRequestsAndStarts9.dev.var V.solStage (5 : Fin 24) = 3) ∧ (wSolenoidRequestsAndStarts9.dev.solFrozen = false) ∧ (wSolenoidRequestsAndStarts9.dev.passed V.solBstAt (5 : Fin 24) 200000 = true) ∧ (wSolenoidRequestsAndStarts9.dev.bstAbove ((5 : Fin 24).val / 12) (0 : BitVec 8).toNat = false)) ∧
    ((wSolenoidRequestsAndStarts10.dev.get F.SOL_BST_CFG_EN (1 : Fin 2) = 1) ∧ (wSolenoidRequestsAndStarts10.dev.get F.SOL_BST_STAT_FLT (1 : Fin 2) ≠ 1) ∧ (wSolenoidRequestsAndStarts10.dev.bstAbove (1 : Fin 2) (90 : BitVec 8).toNat = true) ∧ (wSolenoidRequestsAndStarts10.dev.var V.solStage (12 * (1 : Fin 2).val + (5 : Fin 12).val) = 3) ∧ (wSolenoidRequestsAndStarts10.dev.var V.solReq (12 * (1 : Fin 2).val + (5 : Fin 12).val) ≠ 0) ∧ (wSolenoidRequestsAndStarts10.dev.get F.SOL_CH_STAT_PHASE (12 * (1 : Fin 2).val + (5 : Fin 12).val) = 1) ∧ (wSolenoidRequestsAndStarts10.dev.solFrozen = false) ∧ (wSolenoidRequestsAndStarts10.dev.solAgent = false) ∧ (wSolenoidRequestsAndStarts10.dev.solCutCh (12 * (1 : Fin 2).val + (5 : Fin 12).val) = false) ∧ (wSolenoidRequestsAndStarts10.dev.solHsHeld (12 * (1 : Fin 2).val + (5 : Fin 12).val) = false) ∧ (wSolenoidRequestsAndStarts10.dev.get F.SOL_SUPPLY_CRANK 0 ≠ 1) ∧ (wSolenoidRequestsAndStarts10.dev.solEarliest (12 * (1 : Fin 2).val + (5 : Fin 12).val) ≤ wSolenoidRequestsAndStarts10.dev.var V.uptime 0) ∧ (wSolenoidRequestsAndStarts10.dev.var V.solRight ((12 * (1 : Fin 2).val + (5 : Fin 12).val) / 4) = ((12 * (1 : Fin 2).val + (5 : Fin 12).val : Nat) : Int) + 1) ∧ (wSolenoidRequestsAndStarts10.dev.get F.SOL_CH_CFG_BOOST (12 * (1 : Fin 2).val + (5 : Fin 12).val) = 1)) := by
  and_intros <;> decide +kernel

/-- A state for clause 1 of SolenoidEventsFaultsAndBoost. -/
abbrev wSolenoidEventsFaultsAndBoost0 : State := st [(F.SOL_CH_STAT_PHASE, 5, 2)] [(V.uptime, 0, 65536000)]
/-- A state for clause 2 of SolenoidEventsFaultsAndBoost. -/
abbrev wSolenoidEventsFaultsAndBoost1 : State := st [(F.SOL_CH_STAT_PHASE, 5, 2)] [(V.uptime, 0, 65536000000000)]
/-- A state for clause 3 of SolenoidEventsFaultsAndBoost. -/
abbrev wSolenoidEventsFaultsAndBoost2 : State := st [(F.SOL_CH_STAT_PHASE, 5, 3)] [(V.solRight, 1, 6), (V.uptime, 0, 65536000000000)]
/-- A state for clause 4 of SolenoidEventsFaultsAndBoost. -/
abbrev wSolenoidEventsFaultsAndBoost3 : State := st [(F.SOL_CH_STAT_PHASE, 5, 4)] [(V.solRun, 5, 2)]
/-- A state for clause 5 of SolenoidEventsFaultsAndBoost. -/
abbrev wSolenoidEventsFaultsAndBoost4 : State := st [(F.SOL_CH_STAT_PHASE, 5, 5)] [(V.uptime, 0, 65536000)]
/-- A state for clause 6 of SolenoidEventsFaultsAndBoost. -/
abbrev wSolenoidEventsFaultsAndBoost5 : State := st [] [(V.solKink, 5, 1), (V.uptime, 0, 3276800000)]
/-- A state for clause 7 of SolenoidEventsFaultsAndBoost. -/
abbrev wSolenoidEventsFaultsAndBoost6 : State := st [] [(V.solKink, 5, 1), (V.uptime, 0, 6553600000000)]
/-- A state for clause 11 of SolenoidEventsFaultsAndBoost. -/
abbrev wSolenoidEventsFaultsAndBoost10 : State := st [(F.SOL_CH_STAT_PHASE, 5, 4), (F.SOL_CH_HOLD_IHOLD.act, 5, 5)] [(V.uptime, 0, 655360000000)]
/-- A state for clause 12 of SolenoidEventsFaultsAndBoost. -/
abbrev wSolenoidEventsFaultsAndBoost11 : State := st [(F.SOL_CH_STAT_PHASE, 0, 7), (F.SOL_CH_FLAGS_SHORT, 0, 1)] []
/-- A state for clause 13 of SolenoidEventsFaultsAndBoost. -/
abbrev wSolenoidEventsFaultsAndBoost12 : State := st [(F.SOL_CH_STAT_PHASE, 0, 3)] []
/-- A state for clause 14 of SolenoidEventsFaultsAndBoost. -/
abbrev wSolenoidEventsFaultsAndBoost13 : State := st [] []
/-- A state for clause 15 of SolenoidEventsFaultsAndBoost. -/
abbrev wSolenoidEventsFaultsAndBoost14 : State := st [(F.SOL_BST_CFG_EN, 1, 1), (F.SOL_BST_CFG_VBST, 1, 65)] [(V.bstTgt, 1, 65000)]
/-- A state for clause 16 of SolenoidEventsFaultsAndBoost. -/
abbrev wSolenoidEventsFaultsAndBoost15 : State := st [(F.SOL_BST_STAT_FLT, 1, 1), (F.SOL_BST_CFG_VBST, 1, 65)] [(V.bstTgt, 1, 65000), (V.bstIn, 1, 1), (V.uptime, 0, 655360000000)]

/-- The hypotheses of the clauses of SolenoidEventsFaultsAndBoost are met. -/
theorem wit_SolenoidEventsFaultsAndBoost :
    ((wSolenoidEventsFaultsAndBoost0.dev.solRising (5 : Fin 24) = true)) ∧
    ((wSolenoidEventsFaultsAndBoost1.dev.solUnpeaked (5 : Fin 24) = true) ∧ (wSolenoidEventsFaultsAndBoost1.dev.passed V.solStartAt (5 : Fin 24) ((wSolenoidEventsFaultsAndBoost1.dev.solTbmax (5 : Fin 24) : Int) * 1000) = true)) ∧
    ((wSolenoidEventsFaultsAndBoost2.dev.get F.SOL_CH_STAT_PHASE (5 : Fin 24) = 3) ∧ (wSolenoidEventsFaultsAndBoost2.dev.solFrozen = false) ∧ (wSolenoidEventsFaultsAndBoost2.dev.passed V.solPhAt (5 : Fin 24) ((min 20000 (wSolenoidEventsFaultsAndBoost2.dev.get F.SOL_CH_PEAK_TPEAK.act (5 : Fin 24)) : Nat) * 1000) = true)) ∧
    ((wSolenoidEventsFaultsAndBoost3.dev.solFrozen = false) ∧ (wSolenoidEventsFaultsAndBoost3.dev.var V.solRun (5 : Fin 24) = 2) ∧ (wSolenoidEventsFaultsAndBoost3.dev.passed V.solStartAt (5 : Fin 24) (wSolenoidEventsFaultsAndBoost3.dev.var V.solDur (5 : Fin 24) * 1000) = true) ∧ (2 ≤ wSolenoidEventsFaultsAndBoost3.dev.get F.SOL_CH_STAT_PHASE (5 : Fin 24)) ∧ (wSolenoidEventsFaultsAndBoost3.dev.get F.SOL_CH_STAT_PHASE (5 : Fin 24) ≤ 4)) ∧
    ((wSolenoidEventsFaultsAndBoost4.dev.get F.SOL_CH_STAT_PHASE (5 : Fin 24) = 5) ∧ (wSolenoidEventsFaultsAndBoost4.dev.solFrozen = false)) ∧
    ((wSolenoidEventsFaultsAndBoost5.dev.var V.solKink (5 : Fin 24) = 1) ∧ (16 ≤ (wSolenoidEventsFaultsAndBoost5.dev.since V.solDecAt (5 : Fin 24) / (1000 * 65536)).toNat) ∧ ((wSolenoidEventsFaultsAndBoost5.dev.since V.solDecAt (5 : Fin 24) / (1000 * 65536)).toNat ≤ wSolenoidEventsFaultsAndBoost5.dev.solKwin (5 : Fin 24))) ∧
    ((wSolenoidEventsFaultsAndBoost6.dev.var V.solKink (5 : Fin 24) = 1) ∧ (wSolenoidEventsFaultsAndBoost6.dev.passed V.solDecAt (5 : Fin 24) ((wSolenoidEventsFaultsAndBoost6.dev.solKwin (5 : Fin 24) : Int) * 1000) = true)) ∧
    ((wSolenoidEventsFaultsAndBoost10.dev.get F.SOL_CH_STAT_PHASE (5 : Fin 24) = 4 ∨ wSolenoidEventsFaultsAndBoost10.dev.get F.SOL_CH_STAT_PHASE (5 : Fin 24) = 6) ∧ ((500 : Int) = (if wSolenoidEventsFaultsAndBoost10.dev.get F.SOL_CH_STAT_PHASE (5 : Fin 24) = 4 then (wSolenoidEventsFaultsAndBoost10.dev.solIhold (5 : Fin 24) : Int) else wSolenoidEventsFaultsAndBoost10.dev.solSet (5 : Fin 24)))) ∧
    ((Taken wSolenoidEventsFaultsAndBoost11 0x21 (⟨8, true⟩ : Acc)) ∧ ((wSolenoidEventsFaultsAndBoost11.dev.chSel 0x21 (⟨8, true⟩ : Acc)) < 24)) ∧
    ((Taken wSolenoidEventsFaultsAndBoost12 0x21 (⟨8, true⟩ : Acc)) ∧ ((wSolenoidEventsFaultsAndBoost12.dev.chSel 0x21 (⟨8, true⟩ : Acc)) < 24)) ∧
    ((Taken wSolenoidEventsFaultsAndBoost13 0x21 (⟨8, true⟩ : Acc))) ∧
    ((wSolenoidEventsFaultsAndBoost14.dev.get F.SOL_BST_CFG_EN (1 : Fin 2) = 1) ∧ (wSolenoidEventsFaultsAndBoost14.dev.get F.SOL_BST_STAT_FLT (1 : Fin 2) ≠ 1)) ∧
    ((wSolenoidEventsFaultsAndBoost15.dev.bstInside (1 : Fin 2) (66 : BitVec 8).toNat = true) ∧ (wSolenoidEventsFaultsAndBoost15.dev.var V.bstIn (1 : Fin 2) = 1) ∧ (wSolenoidEventsFaultsAndBoost15.dev.passed V.bstInAt (1 : Fin 2) 10000000 = true)) := by
  and_intros <;> decide +kernel

/-- A state for clause 1 of LoadSwitchesProtectThemselves. -/
abbrev wLoadSwitchesProtectThemselves0 : State := st [] []
/-- A state for clause 2 of LoadSwitchesProtectThemselves. -/
abbrev wLoadSwitchesProtectThemselves1 : State := st [(F.LSW_CH_CFG_EN, 0, 1), (F.COM_STAT_RUN, 0x22, 1), (F.PWR_SUPPLY_UV, 0, 0), (F.LSW_SUPPLY_CRANKA, 0, 0), (F.LSW_SUPPLY_BROWNA, 0, 0)] [(V.lswFb, 0, 0), (V.uptime, 0, 655)]
/-- A state for clause 3 of LoadSwitchesProtectThemselves. -/
abbrev wLoadSwitchesProtectThemselves2 : State := st [(F.LSW_CH_STAT_STATE, 0, 1), (F.COM_STAT_RUN, 0x22, 1)] []
/-- A state for clause 4 of LoadSwitchesProtectThemselves. -/
abbrev wLoadSwitchesProtectThemselves3 : State := st [(F.LSW_CH_STAT_STATE, 5, 1)] [(V.grove, 0, 14336000000)]
/-- A state for clause 5 of LoadSwitchesProtectThemselves. -/
abbrev wLoadSwitchesProtectThemselves4 : State := st [(F.LSW_CH_STAT_STATE, 7, 1), (F.LSW_CH_CFG_EN, 7, 1), (F.LSW_CH_CMD_ON, 7, 1), (F.COM_STAT_RUN, 0x22, 1), (F.LSW_SENSE_SEL_CH, 0, 7), (F.LSW_SENSE_SEL_MONEN, 0, 1)] [(V.grove, 0, 15701333333)]
/-- A state for clause 6 of LoadSwitchesProtectThemselves. -/
abbrev wLoadSwitchesProtectThemselves5 : State := st [(F.LSW_CH_STAT_STATE, 5, 1)] []
/-- A state for clause 7 of LoadSwitchesProtectThemselves. -/
abbrev wLoadSwitchesProtectThemselves6 : State := st [(F.LSW_CH_STAT_STATE, 5, 2)] [(V.uptime, 0, 655360000000000)]
/-- A state for clause 8 of LoadSwitchesProtectThemselves. -/
abbrev wLoadSwitchesProtectThemselves7 : State := st [(F.LSW_CH_STAT_STATE, 5, 1)] [(V.ticks, 0, 7), (V.lswTheta, 5, 3000000000000)]
/-- A state for clause 9 of LoadSwitchesProtectThemselves. -/
abbrev wLoadSwitchesProtectThemselves8 : State := st [(F.LSW_CH_STAT_STATE, 0, 4), (F.LSW_CH_FLAGS_SC, 0, 1)] []
/-- A state for clause 10 of LoadSwitchesProtectThemselves. -/
abbrev wLoadSwitchesProtectThemselves9 : State := st [] []
/-- A state for clause 11 of LoadSwitchesProtectThemselves. -/
abbrev wLoadSwitchesProtectThemselves10 : State := st [(F.LSW_CH_STAT_STATE, 5, 1)] []
/-- A state for clause 12 of LoadSwitchesProtectThemselves. -/
abbrev wLoadSwitchesProtectThemselves11 : State := st [(F.LSW_CH_STAT_STATE, 5, 3)] []
/-- A state for clause 13 of LoadSwitchesProtectThemselves. -/
abbrev wLoadSwitchesProtectThemselves12 : State := st [(F.LSW_CH_STAT_STATE, 5, 3), (F.LSW_CH_CFG_EN, 5, 1), (F.LSW_CH_CMD_ON, 5, 1), (F.COM_STAT_RUN, 0x22, 1), (F.PWR_SUPPLY_UV, 0, 0), (F.LSW_SUPPLY_CRANKA, 0, 0), (F.LSW_SUPPLY_BROWNA, 0, 0), (F.LSW_CH_CFG_RETRY, 5, 3)] [(V.lswFb, 0, 0)]
/-- A state for clause 14 of LoadSwitchesProtectThemselves. -/
abbrev wLoadSwitchesProtectThemselves13 : State := st [(F.LSW_CH_STAT_RTRN, 5, 2)] [(V.grove, 0, 65536000000000000), (V.retryWin, 0, 0)]
/-- A state for clause 15 of LoadSwitchesProtectThemselves. -/
abbrev wLoadSwitchesProtectThemselves14 : State := st [(F.LSW_CH_CFG_OLEN, 5, 1)] [(V.uptime, 0, 655360000000000), (V.olHi, 5, 2)]

/-- The hypotheses of the clauses of LoadSwitchesProtectThemselves are met. -/
theorem wit_LoadSwitchesProtectThemselves :
    ((Taken wLoadSwitchesProtectThemselves0 0x22 (⟨8, true⟩ : Acc)) ∧ ((wLoadSwitchesProtectThemselves0.dev.chSel 0x22 (⟨8, true⟩ : Acc)) < 24)) ∧
    ((Taken wLoadSwitchesProtectThemselves1 0x22 (⟨8, true⟩ : Acc)) ∧ ((wLoadSwitchesProtectThemselves1.dev.chSel 0x22 (⟨8, true⟩ : Acc)) < 24) ∧ (wLoadSwitchesProtectThemselves1.dev.get F.LSW_CH_CFG_EN (wLoadSwitchesProtectThemselves1.dev.chSel 0x22 (⟨8, true⟩ : Acc)) = 1) ∧ (wLoadSwitchesProtectThemselves1.dev.running 0x22 = true) ∧ (wLoadSwitchesProtectThemselves1.dev.var V.lswOwn (wLoadSwitchesProtectThemselves1.dev.chSel 0x22 (⟨8, true⟩ : Acc)) = 0) ∧ (wLoadSwitchesProtectThemselves1.dev.get F.LSW_CH_CFG_MODE (wLoadSwitchesProtectThemselves1.dev.chSel 0x22 (⟨8, true⟩ : Acc)) = 0) ∧ (wLoadSwitchesProtectThemselves1.dev.get F.LSW_CH_STAT_STATE (wLoadSwitchesProtectThemselves1.dev.chSel 0x22 (⟨8, true⟩ : Acc)) = 0) ∧ (wLoadSwitchesProtectThemselves1.dev.lswFrozen = false) ∧ (wLoadSwitchesProtectThemselves1.dev.var V.lswRearm (wLoadSwitchesProtectThemselves1.dev.chSel 0x22 (⟨8, true⟩ : Acc)) = 0) ∧ (wLoadSwitchesProtectThemselves1.dev.lswHold (wLoadSwitchesProtectThemselves1.dev.chSel 0x22 (⟨8, true⟩ : Acc)) = 0) ∧ (wLoadSwitchesProtectThemselves1.dev.lswCrank (wLoadSwitchesProtectThemselves1.dev.chSel 0x22 (⟨8, true⟩ : Acc)) = false)) ∧
    ((Taken wLoadSwitchesProtectThemselves2 0x22 (⟨8, true⟩ : Acc)) ∧ ((wLoadSwitchesProtectThemselves2.dev.chSel 0x22 (⟨8, true⟩ : Acc)) < 24)) ∧
    (((10 : Fin 48).val = wLoadSwitchesProtectThemselves3.dev.senseSlot) ∧ ((10 : Fin 48).val % 2 = 0)) ∧
    (((11 : Fin 48).val = wLoadSwitchesProtectThemselves4.dev.senseSlot) ∧ ((7 : Nat) = (if 23 < wLoadSwitchesProtectThemselves4.dev.get F.LSW_SENSE_SEL_CH 0 then 0 else wLoadSwitchesProtectThemselves4.dev.get F.LSW_SENSE_SEL_CH 0)) ∧ ((7 : Nat) = (if (11 : Fin 48).val % 2 = 0 ∨ wLoadSwitchesProtectThemselves4.dev.get F.LSW_SENSE_SEL_MODE 0 = 1 then (11 : Fin 48).val / 2 else (7 : Nat)))) ∧
    ((wLoadSwitchesProtectThemselves5.dev.lswLive (5 : Fin 24) = true) ∧ (wLoadSwitchesProtectThemselves5.dev.lswLevel (5 : Fin 24) < (5000 : BitVec 16).toNat)) ∧
    ((wLoadSwitchesProtectThemselves6.dev.get F.LSW_CH_STAT_STATE (5 : Fin 24) = 2) ∧ (wLoadSwitchesProtectThemselves6.dev.passed V.lswAt (5 : Fin 24) ((wLoadSwitchesProtectThemselves6.dev.get F.LSW_CH_CFG_TIR (5 : Fin 24) : Int) * 1000000) = true)) ∧
    ((wLoadSwitchesProtectThemselves7.dev.var V.wireTick (5 : Fin 24) < wLoadSwitchesProtectThemselves7.dev.var V.ticks 0)) ∧
    ((Taken wLoadSwitchesProtectThemselves8 0x22 (⟨8, true⟩ : Acc)) ∧ ((wLoadSwitchesProtectThemselves8.dev.chSel 0x22 (⟨8, true⟩ : Acc)) < 24)) ∧
    (((1200 : BitVec 16).toInt < 1750)) ∧
    ((1750 ≤ (1750 : BitVec 16).toInt) ∧ ((1750 : BitVec 16).toInt < 1900) ∧ (wLoadSwitchesProtectThemselves10.dev.lswLive (5 : Fin 24) = true)) ∧
    ((1900 ≤ (1900 : BitVec 16).toInt) ∧ (wLoadSwitchesProtectThemselves11.dev.get F.LSW_CH_STAT_STATE (5 : Fin 24) ≠ 4)) ∧
    ((wLoadSwitchesProtectThemselves12.dev.get F.LSW_CH_STAT_STATE (5 : Fin 24) = 3) ∧ (wLoadSwitchesProtectThemselves12.dev.getI F.LSW_CH_TEMP_TJ (5 : Fin 24) ≤ 1500) ∧ (wLoadSwitchesProtectThemselves12.dev.var V.lswScTrip (5 : Fin 24) = 0 ∨ wLoadSwitchesProtectThemselves12.dev.passed V.lswTripAt (5 : Fin 24) 100000000 = true) ∧ (wLoadSwitchesProtectThemselves12.dev.var V.lswTheta (5 : Fin 24) < ((wLoadSwitchesProtectThemselves12.dev.lswClass (5 : Fin 24)).2.2 : Int) * 10000 * 65536) ∧ (wLoadSwitchesProtectThemselves12.dev.lswHold (5 : Fin 24) = 0) ∧ (wLoadSwitchesProtectThemselves12.dev.lswCmd (5 : Fin 24) ≠ 0) ∧ (wLoadSwitchesProtectThemselves12.dev.var V.lswRearm (5 : Fin 24) ≠ 1)) ∧
    ((wLoadSwitchesProtectThemselves13.dev.var V.retryWin 0 ≠ wLoadSwitchesProtectThemselves13.dev.now / 10000000000)) ∧
    ((wLoadSwitchesProtectThemselves14.dev.get F.LSW_CH_CFG_OLEN (5 : Fin 24) = 1) ∧ (wLoadSwitchesProtectThemselves14.dev.lswLive (5 : Fin 24) = false) ∧ (wLoadSwitchesProtectThemselves14.dev.passed V.lswOffAt (5 : Fin 24) 2000000 = true) ∧ (wLoadSwitchesProtectThemselves14.dev.passed V.olAt (5 : Fin 24) 10000000 = true)) := by
  and_intros <;> decide +kernel

/-- A state for clause 1 of LoadSwitchesStudsHoldsAndLinks. -/
abbrev wLoadSwitchesStudsHoldsAndLinks0 : State := st [(F.LSW_CH_STAT_STATE, 14, 1), (F.LSW_CH_IMEAS_I, 14, 900)] [(V.ticks, 0, 3)]
/-- A state for clause 2 of LoadSwitchesStudsHoldsAndLinks. -/
abbrev wLoadSwitchesStudsHoldsAndLinks1 : State := st [(F.LSW_CH_STAT_STATE, 14, 1), (F.LSW_CH_CFG_SHED, 14, 1)] [(V.studLimit, 1, 10), (V.studSum, 1, 20000000000), (V.uptime, 0, 655360000000000)]
/-- A state for clause 3 of LoadSwitchesStudsHoldsAndLinks. -/
abbrev wLoadSwitchesStudsHoldsAndLinks2 : State := st [] [(V.studHi, 1, 1000)]
/-- A state for clause 4 of LoadSwitchesStudsHoldsAndLinks. -/
abbrev wLoadSwitchesStudsHoldsAndLinks3 : State := st [(F.LSW_CH_STAT_STATE, 14, 5), (F.LSW_CH_CFG_EN, 14, 1), (F.LSW_CH_CMD_ON, 14, 1), (F.COM_STAT_RUN, 0x22, 1), (F.PWR_SUPPLY_UV, 0, 0), (F.LSW_SUPPLY_CRANKB, 0, 0), (F.LSW_SUPPLY_BROWNB, 0, 0)] [(V.studLow, 1, 1000), (V.uptime, 0, 65536000000000), (V.lswFb, 0, 0)]
/-- A state for clause 5 of LoadSwitchesStudsHoldsAndLinks. -/
abbrev wLoadSwitchesStudsHoldsAndLinks4 : State := st [(F.LSW_SUPPLY_CRANKB, 0, 0)] []
/-- A state for clause 6 of LoadSwitchesStudsHoldsAndLinks. -/
abbrev wLoadSwitchesStudsHoldsAndLinks5 : State := st [] []
/-- A state for clause 7 of LoadSwitchesStudsHoldsAndLinks. -/
abbrev wLoadSwitchesStudsHoldsAndLinks6 : State := st [(F.LSW_CH_STAT_STATE, 14, 1), (F.LSW_SUPPLY_BROWNB, 0, 0)] []
/-- A state for clause 8 of LoadSwitchesStudsHoldsAndLinks. -/
abbrev wLoadSwitchesStudsHoldsAndLinks7 : State := st [] []
/-- A state for clause 9 of LoadSwitchesStudsHoldsAndLinks. -/
abbrev wLoadSwitchesStudsHoldsAndLinks8 : State := st [(F.LSW_CH_STAT_STATE, 5, 1), (F.PWR_SUPPLY_UV, 0, 0)] [(V.supOn, 0, 1), (V.uptime, 0, 6553600000000)]
/-- A state for clause 10 of LoadSwitchesStudsHoldsAndLinks. -/
abbrev wLoadSwitchesStudsHoldsAndLinks9 : State := st [(F.PWR_SUPPLY_UV, 0, 1)] [(V.supOn, 1, 1), (V.uptime, 0, 6553600000000)]
/-- A state for clause 11 of LoadSwitchesStudsHoldsAndLinks. -/
abbrev wLoadSwitchesStudsHoldsAndLinks10 : State := st [(F.LSW_CH_STAT_STATE, 5, 6), (F.LSW_CH_CFG_EN, 5, 1), (F.LSW_CH_CMD_ON, 5, 1), (F.COM_STAT_RUN, 0x22, 1), (F.PWR_SUPPLY_UV, 0, 0), (F.LSW_SUPPLY_CRANKA, 0, 0), (F.LSW_SUPPLY_BROWNA, 0, 0)] [(V.lswDue, 5, 10), (V.uptime, 0, 65536), (V.lswFb, 0, 0)]
/-- A state for clause 12 of LoadSwitchesStudsHoldsAndLinks. -/
abbrev wLoadSwitchesStudsHoldsAndLinks11 : State := st [] [(V.pscDown, 1, 0), (V.uptime, 0, 65536)]
/-- A state for clause 13 of LoadSwitchesStudsHoldsAndLinks. -/
abbrev wLoadSwitchesStudsHoldsAndLinks12 : State := st [(F.LSW_PSC_OFF0, 0, 0)] [(V.pscDown, 0, 1), (V.uptime, 0, 65536000000000)]
/-- A state for clause 15 of LoadSwitchesStudsHoldsAndLinks. -/
abbrev wLoadSwitchesStudsHoldsAndLinks14 : State := st [(F.LSW_PSC_OFF1, 0, 1)] [(V.pscDown, 1, 0)]

/-- The hypotheses of the clauses of LoadSwitchesStudsHoldsAndLinks are met. -/
theorem wit_LoadSwitchesStudsHoldsAndLinks :
    ((wLoadSwitchesStudsHoldsAndLinks0.dev.var V.studTick (1 : Fin 2) < wLoadSwitchesStudsHoldsAndLinks0.dev.var V.ticks 0) ∧ ((wLoadSwitchesStudsHoldsAndLinks0.dev.past 7 (1 : Fin 2)).length < 1000)) ∧
    ((wLoadSwitchesStudsHoldsAndLinks1.dev.studOver (1 : Fin 2) = true) ∧ (wLoadSwitchesStudsHoldsAndLinks1.dev.passed V.shedAt (1 : Fin 2) 10000000 = true) ∧ (wLoadSwitchesStudsHoldsAndLinks1.dev.studShed (1 : Fin 2) = some (14 : Fin 24).val) ∧ (wLoadSwitchesStudsHoldsAndLinks1.dev.lswFrozen = false)) ∧
    ((1000 ≤ wLoadSwitchesStudsHoldsAndLinks2.dev.var V.studHi (1 : Fin 2)) ∧ (wLoadSwitchesStudsHoldsAndLinks2.dev.get F.LSW_STUD_STUDOV (1 : Fin 2) = 0)) ∧
    ((1000 ≤ wLoadSwitchesStudsHoldsAndLinks3.dev.var V.studLow (1 : Fin 2)) ∧ (wLoadSwitchesStudsHoldsAndLinks3.dev.passed V.shedRet (1 : Fin 2) 100000000 = true) ∧ ((studChans (1 : Fin 2)).find? (fun k => wLoadSwitchesStudsHoldsAndLinks3.dev.get F.LSW_CH_STAT_STATE k == 5) = some (14 : Fin 24).val) ∧ (wLoadSwitchesStudsHoldsAndLinks3.dev.lswFrozen = false) ∧ (wLoadSwitchesStudsHoldsAndLinks3.dev.var V.lswRearm (14 : Fin 24) = 0) ∧ (wLoadSwitchesStudsHoldsAndLinks3.dev.lswHold (14 : Fin 24) = 0) ∧ (wLoadSwitchesStudsHoldsAndLinks3.dev.lswCrank (14 : Fin 24) = false) ∧ (wLoadSwitchesStudsHoldsAndLinks3.dev.lswCmd (14 : Fin 24) ≠ 0)) ∧
    (((27000 : BitVec 17).toNat < 28000)) ∧
    ((28500 ≤ (28500 : BitVec 17).toNat)) ∧
    (((11000 : BitVec 17).toNat < 12000) ∧ ((14 : Fin 24).val ∈ studChans (1 : Fin 2)) ∧ (wLoadSwitchesStudsHoldsAndLinks6.dev.get F.LSW_CH_STAT_STATE (14 : Fin 24) ≠ 3) ∧ (wLoadSwitchesStudsHoldsAndLinks6.dev.get F.LSW_CH_STAT_STATE (14 : Fin 24) ≠ 4) ∧ (wLoadSwitchesStudsHoldsAndLinks6.dev.get F.LSW_CH_STAT_STATE (14 : Fin 24) ≠ 5)) ∧
    ((28500 ≤ (28500 : BitVec 17).toNat)) ∧
    ((wLoadSwitchesStudsHoldsAndLinks8.dev.get F.PWR_SUPPLY_UV 0 = 0) ∧ (wLoadSwitchesStudsHoldsAndLinks8.dev.var V.supOn 0 = 1) ∧ (wLoadSwitchesStudsHoldsAndLinks8.dev.passed V.supOnAt 0 20000000 = true) ∧ (wLoadSwitchesStudsHoldsAndLinks8.dev.get F.LSW_CH_STAT_STATE (5 : Fin 24) ≠ 3) ∧ (wLoadSwitchesStudsHoldsAndLinks8.dev.get F.LSW_CH_STAT_STATE (5 : Fin 24) ≠ 4) ∧ (wLoadSwitchesStudsHoldsAndLinks8.dev.get F.LSW_CH_STAT_STATE (5 : Fin 24) ≠ 5)) ∧
    ((wLoadSwitchesStudsHoldsAndLinks9.dev.get F.PWR_SUPPLY_UV 0 = 1) ∧ (wLoadSwitchesStudsHoldsAndLinks9.dev.var V.supOn 1 = 1) ∧ (wLoadSwitchesStudsHoldsAndLinks9.dev.passed V.supOnAt 1 50000000 = true)) ∧
    ((0 ≤ wLoadSwitchesStudsHoldsAndLinks10.dev.var V.lswDue (5 : Fin 24)) ∧ (wLoadSwitchesStudsHoldsAndLinks10.dev.var V.lswDue (5 : Fin 24) ≤ wLoadSwitchesStudsHoldsAndLinks10.dev.var V.uptime 0) ∧ (wLoadSwitchesStudsHoldsAndLinks10.dev.get F.LSW_CH_STAT_STATE (5 : Fin 24) = 6) ∧ (wLoadSwitchesStudsHoldsAndLinks10.dev.lswFrozen = false) ∧ (wLoadSwitchesStudsHoldsAndLinks10.dev.var V.lswRearm (5 : Fin 24) = 0) ∧ (wLoadSwitchesStudsHoldsAndLinks10.dev.var V.lswCw (5 : Fin 24) = 0) ∧ (wLoadSwitchesStudsHoldsAndLinks10.dev.lswHold (5 : Fin 24) = 0) ∧ (wLoadSwitchesStudsHoldsAndLinks10.dev.lswCrank (5 : Fin 24) = false) ∧ (wLoadSwitchesStudsHoldsAndLinks10.dev.lswCmd (5 : Fin 24) ≠ 0)) ∧
    ((wLoadSwitchesStudsHoldsAndLinks11.dev.var V.pscDown (1 : Fin 2) ≠ 1)) ∧
    ((wLoadSwitchesStudsHoldsAndLinks12.dev.var V.pscDown (0 : Fin 2) = 1) ∧ (wLoadSwitchesStudsHoldsAndLinks12.dev.get (pscOff (0 : Fin 2)) 0 = 0) ∧ (wLoadSwitchesStudsHoldsAndLinks12.dev.passed V.pscAt (0 : Fin 2) 2000000 = true)) ∧
    ((Taken wLoadSwitchesStudsHoldsAndLinks14 0x22 (⟨8, true⟩ : Acc)) ∧ (wLoadSwitchesStudsHoldsAndLinks14.dev.var V.pscDown (1 : Fin 2) ≠ 1)) := by
  and_intros <;> decide +kernel

/-- A state for clause 1 of FirebreakInputsGroupsAndLatches. -/
abbrev wFirebreakInputsGroupsAndLatches0 : State := st [] [(V.grove, 0, 778240001000), (V.uptime, 0, 799539200000)]
/-- A state for clause 2 of FirebreakInputsGroupsAndLatches. -/
abbrev wFirebreakInputsGroupsAndLatches1 : State := st [(F.FBRK_PR_CFG_FILT, 0, 3)] [(V.uptime, 0, 65536000000000), (V.runN, 1, 30), (V.runV, 1, 1), (V.tpOpen, 0, 0)]
/-- A state for clause 3 of FirebreakInputsGroupsAndLatches. -/
abbrev wFirebreakInputsGroupsAndLatches2 : State := st [(F.FBRK_PR_CFG_EN, 3, 1), (F.COM_STAT_RUN, 0x24, 1)] []
/-- A state for clause 4 of FirebreakInputsGroupsAndLatches. -/
abbrev wFirebreakInputsGroupsAndLatches3 : State := st [(F.FBRK_PR_STAT_STATE, 3, 3), (F.FBRK_GRP_CFG_PAIRS, 2, 8)] [(V.uptime, 0, 655360000000000000)]
/-- A state for clause 5 of FirebreakInputsGroupsAndLatches. -/
abbrev wFirebreakInputsGroupsAndLatches4 : State := st [(F.COM_STAT_RUN, 0x24, 1), (F.FBRK_GRP_CFG_EN, 2, 1), (F.FBRK_LATCH_GROUPS, 0, 4)] [(V.uptime, 0, 65536000000000)]
/-- A state for clause 6 of FirebreakInputsGroupsAndLatches. -/
abbrev wFirebreakInputsGroupsAndLatches5 : State := st [(F.COM_STAT_RUN, 0x24, 1), (F.FBRK_GRP_STAT_CUTA, 2, 1)] [(V.uptime, 0, 65536000000000)]
/-- A state for clause 7 of FirebreakInputsGroupsAndLatches. -/
abbrev wFirebreakInputsGroupsAndLatches6 : State := st [(F.FBRK_GRP_STAT_STATE, 2, 2)] [(V.grpCut, 2, 1)]
/-- A state for clause 8 of FirebreakInputsGroupsAndLatches. -/
abbrev wFirebreakInputsGroupsAndLatches7 : State := st [(F.FBRK_CFGCRC_CRC, 0, 1)] []
/-- A state for clause 9 of FirebreakInputsGroupsAndLatches. -/
abbrev wFirebreakInputsGroupsAndLatches8 : State := st [] [(V.lswFb, 0, 5), (V.uptime, 0, 6553600000000)]
/-- A state for clause 11 of FirebreakInputsGroupsAndLatches. -/
abbrev wFirebreakInputsGroupsAndLatches10 : State := st [] [(V.rbHigh, 0, 1), (V.uptime, 0, 32768000000000)]
/-- A state for clause 12 of FirebreakInputsGroupsAndLatches. -/
abbrev wFirebreakInputsGroupsAndLatches11 : State := st [(F.FBRK_RSTSTAT_WINDOW, 0, 1)] [(V.uptime, 0, 65536000000000000)]
/-- A state for clause 13 of FirebreakInputsGroupsAndLatches. -/
abbrev wFirebreakInputsGroupsAndLatches12 : State := st [] [(V.rbHigh, 0, 1), (V.uptime, 0, 655360000000000000)]
/-- A state for clause 14 of FirebreakInputsGroupsAndLatches. -/
abbrev wFirebreakInputsGroupsAndLatches13 : State := st [(F.FBRK_RSTSTAT_WINDOW, 0, 1), (F.FBRK_LATCH_GROUPS, 0, 7)] []
/-- A state for clause 15 of FirebreakInputsGroupsAndLatches. -/
abbrev wFirebreakInputsGroupsAndLatches14 : State := st [(F.FBRK_RSTSTAT_WINDOW, 0, 1), (F.FBRK_LATCH_GROUPS, 0, 7)] []
/-- A state for clause 16 of FirebreakInputsGroupsAndLatches. -/
abbrev wFirebreakInputsGroupsAndLatches15 : State := st [(F.FBRK_RSTSTAT_WINDOW, 0, 0), (F.FBRK_LATCH_GROUPS, 0, 7)] []
/-- A state for clause 17 of FirebreakInputsGroupsAndLatches. -/
abbrev wFirebreakInputsGroupsAndLatches16 : State := st [(F.FBRK_REACT_MAXR, 0, 9)] []

/-- The hypotheses of the clauses of FirebreakInputsGroupsAndLatches are met. -/
theorem wit_FirebreakInputsGroupsAndLatches :
    ((pulseStart (2 * (3 : Fin 16).val + bit (true : Bool)) ≤ wFirebreakInputsGroupsAndLatches0.dev.pulsePhase) ∧ (wFirebreakInputsGroupsAndLatches0.dev.pulsePhase < pulseStart (2 * (3 : Fin 16).val + bit (true : Bool)) + 40 * 65536) ∧ (wFirebreakInputsGroupsAndLatches0.dev.passed V.tpAt (2 * (3 : Fin 16).val + bit (true : Bool)) 10000000 = true)) ∧
    ((wFirebreakInputsGroupsAndLatches1.dev.var V.tpOpen 0 ≠ 1) ∧ (wFirebreakInputsGroupsAndLatches1.dev.passed V.safeAt 0 100000 = true) ∧ (wFirebreakInputsGroupsAndLatches1.dev.passed V.tpAt (1 : Fin 32) 600000 = true) ∧ (wFirebreakInputsGroupsAndLatches1.dev.var V.runN (1 : Fin 32) ≠ 0) ∧ (wFirebreakInputsGroupsAndLatches1.dev.var V.runV (1 : Fin 32) = bit (wFirebreakInputsGroupsAndLatches1.dev.fbClosed (1 : Fin 32) (safeLevel ([⟨true, true⟩] : List SafeIn) (1 : Fin 32)))) ∧ (((10 * wFirebreakInputsGroupsAndLatches1.dev.fbFilt ((1 : Fin 32).val / 2) + 1 : Nat) : Int) ≤ wFirebreakInputsGroupsAndLatches1.dev.var V.runN (1 : Fin 32) + 1) ∧ (wFirebreakInputsGroupsAndLatches1.dev.fbType ((1 : Fin 32).val / 2) ≠ 2)) ∧
    ((wFirebreakInputsGroupsAndLatches2.dev.get F.FBRK_PR_CFG_EN (3 : Fin 16) = 1) ∧ (wFirebreakInputsGroupsAndLatches2.dev.running 0x24 = true) ∧ (wFirebreakInputsGroupsAndLatches2.dev.fbType (3 : Fin 16) ≠ 2) ∧ (wFirebreakInputsGroupsAndLatches2.dev.get F.FBRK_PR_STAT_STATE (3 : Fin 16) ≠ 4)) ∧
    ((wFirebreakInputsGroupsAndLatches3.dev.get F.FBRK_PR_STAT_STATE (3 : Fin 16) = 3) ∧ (wFirebreakInputsGroupsAndLatches3.dev.passed V.discAt (3 : Fin 16) ((max 1 (wFirebreakInputsGroupsAndLatches3.dev.get F.FBRK_PR_CFG_DISC_T (3 : Fin 16)) : Nat) * 10000000) = true)) ∧
    ((wFirebreakInputsGroupsAndLatches4.dev.running 0x24 = true) ∧ (wFirebreakInputsGroupsAndLatches4.dev.passed V.fbCyc 0 1000000 = true) ∧ (wFirebreakInputsGroupsAndLatches4.dev.get F.FBRK_GRP_CFG_EN (2 : Fin 8) = 1) ∧ (tbit (wFirebreakInputsGroupsAndLatches4.dev.get F.FBRK_LATCH_GROUPS 0) (2 : Fin 8) = true)) ∧
    ((wFirebreakInputsGroupsAndLatches5.dev.running 0x24 = true) ∧ (wFirebreakInputsGroupsAndLatches5.dev.passed V.fbCyc 0 1000000 = true) ∧ (wFirebreakInputsGroupsAndLatches5.dev.get F.FBRK_GRP_CFG_EN (2 : Fin 8) = 0)) ∧
    ((Taken wFirebreakInputsGroupsAndLatches6 0x24 (⟨8, true⟩ : Acc)) ∧ (tbit (4 : BitVec 8).toNat (2 : Fin 8) = true) ∧ (wFirebreakInputsGroupsAndLatches6.dev.get F.FBRK_GRP_STAT_STATE (2 : Fin 8) = 2)) ∧
    ((Taken wFirebreakInputsGroupsAndLatches7 0x24 (⟨8, true⟩ : Acc))) ∧
    ((wFirebreakInputsGroupsAndLatches8.dev.var V.lswFb 0 ≠ 0 ∨ wFirebreakInputsGroupsAndLatches8.dev.var V.solFb 0 ≠ 0) ∧ (wFirebreakInputsGroupsAndLatches8.dev.passed V.fbCutAt 0 20000000 = true)) ∧
    ((wFirebreakInputsGroupsAndLatches10.dev.var V.rbHigh 0 = 1) ∧ ((499 : Nat) = (wFirebreakInputsGroupsAndLatches10.dev.since V.rbAt 0 / 65536000000).toNat + (4 : Fin 11).val - 5)) ∧
    ((wFirebreakInputsGroupsAndLatches11.dev.get F.FBRK_RSTSTAT_WINDOW 0 = 1) ∧ (wFirebreakInputsGroupsAndLatches11.dev.passed V.rwAt 0 1000000000 = true)) ∧
    ((wFirebreakInputsGroupsAndLatches12.dev.var V.rbHigh 0 = 1) ∧ (wFirebreakInputsGroupsAndLatches12.dev.passed V.rbAt 0 2000000000 = true)) ∧
    ((Taken wFirebreakInputsGroupsAndLatches13 0x24 (⟨8, true⟩ : Acc)) ∧ ((⟨8, true⟩ : Acc).bank.val ≠ 10) ∧ (wFirebreakInputsGroupsAndLatches13.dev.get F.FBRK_RSTSTAT_WINDOW 0 = 1) ∧ ((0xC3A5 : BitVec 16) = 0xC3A5#16) ∧ (∀ p < 16, wFirebreakInputsGroupsAndLatches13.dev.var V.prCode p = 0) ∧ (wFirebreakInputsGroupsAndLatches13.dev.var V.fbCause 0 = 0)) ∧
    ((Taken wFirebreakInputsGroupsAndLatches14 0x24 (⟨8, true⟩ : Acc)) ∧ ((⟨8, true⟩ : Acc).bank.val ≠ 10) ∧ (wFirebreakInputsGroupsAndLatches14.dev.get F.FBRK_RSTSTAT_WINDOW 0 = 1) ∧ ((0xC3A4 : BitVec 16) ≠ 0xC3A5#16)) ∧
    ((Taken wFirebreakInputsGroupsAndLatches15 0x24 (⟨8, true⟩ : Acc)) ∧ ((⟨8, true⟩ : Acc).bank.val = 10 ∨ wFirebreakInputsGroupsAndLatches15.dev.get F.FBRK_RSTSTAT_WINDOW 0 ≠ 1)) ∧
    ((Taken wFirebreakInputsGroupsAndLatches16 0x24 (⟨8, true⟩ : Acc))) := by
  and_intros <;> decide +kernel

/-- A state for clause 1 of CanFramesReceivedSentAndCounted. -/
abbrev wCanFramesReceivedSentAndCounted0 : State := st [(F.COM_STAT_RUN, 0x28, 1)] []
/-- A state for clause 2 of CanFramesReceivedSentAndCounted. -/
abbrev wCanFramesReceivedSentAndCounted1 : State := st [(F.BUF_CTRL_TXREQ, 7, 1), (F.BUS_CH_CFG_EN, 0, 1), (F.BUS_CH_STAT_STATE, 0, 2)] []
/-- A state for clause 3 of CanFramesReceivedSentAndCounted. -/
abbrev wCanFramesReceivedSentAndCounted2 : State := st [(F.BUS_CH_STAT_STATE, 2, 2)] []
/-- A state for clause 4 of CanFramesReceivedSentAndCounted. -/
abbrev wCanFramesReceivedSentAndCounted3 : State := { st [(F.COM_STAT_RUN, 0x29, 1), (F.FLT_LIST_LEN, 0, 1), (F.FLT_ENT_TYPE, 0, 3), (F.FLT_ENT_ID1, 0, 5), (F.BUF_CTRL_DIR, 3, 1), (F.BUF_ID_ID, 3, 5)] [] with dev := { (st [(F.COM_STAT_RUN, 0x29, 1), (F.FLT_LIST_LEN, 0, 1), (F.FLT_ENT_TYPE, 0, 3), (F.FLT_ENT_ID1, 0, 5), (F.BUF_CTRL_DIR, 3, 1), (F.BUF_ID_ID, 3, 5)] []).dev with canHold := [⟨0, false, false, false, 5, 0, 0, [1], 9⟩] } }
/-- A state for clause 5 of CanFramesReceivedSentAndCounted. -/
abbrev wCanFramesReceivedSentAndCounted4 : State := st [(F.BUF_CTRL_NDAT, 34, 1)] []
/-- A state for clause 6 of CanFramesReceivedSentAndCounted. -/
abbrev wCanFramesReceivedSentAndCounted5 : State := st [(F.BUF_CTRL_DIR, 9, 2), (F.BUS_CH_CFG_EN, 0, 1), (F.BUF_CTRL_RESULT, 9, 1)] []
/-- A state for clause 7 of CanFramesReceivedSentAndCounted. -/
abbrev wCanFramesReceivedSentAndCounted6 : State := st [(F.BUF_CTRL_TXREQ, 9, 1)] []
/-- A state for clause 8 of CanFramesReceivedSentAndCounted. -/
abbrev wCanFramesReceivedSentAndCounted7 : State := st [(F.BUS_CH_STAT_STATE, 1, 2), (F.BUF_CTRL_TXREQ, 265, 1)] []
/-- A state for clause 9 of CanFramesReceivedSentAndCounted. -/
abbrev wCanFramesReceivedSentAndCounted8 : State := st [(F.BUS_CH_STAT_STATE, 1, 2), (F.BUF_CTRL_TXREQ, 265, 1)] []
/-- A state for clause 10 of CanFramesReceivedSentAndCounted. -/
abbrev wCanFramesReceivedSentAndCounted9 : State := st [(F.BUS_CH_STAT_STATE, 1, 1), (F.COM_STAT_RUN, 0x28, 1)] []
/-- A state for clause 11 of CanFramesReceivedSentAndCounted. -/
abbrev wCanFramesReceivedSentAndCounted10 : State := st [(F.BUS_CH_STAT_STATE, 1, 2)] []
/-- A state for clause 12 of CanFramesReceivedSentAndCounted. -/
abbrev wCanFramesReceivedSentAndCounted11 : State := st [(F.BUS_CH_STAT_STATE, 1, 3)] [(V.canTec, 1, 256)]
/-- A state for clause 13 of CanFramesReceivedSentAndCounted. -/
abbrev wCanFramesReceivedSentAndCounted12 : State := st [(F.BUS_CH_STAT_STATE, 1, 4)] [(V.canTec, 1, 256), (V.uptime, 0, 65536000000000000)]

/-- The hypotheses of the clauses of CanFramesReceivedSentAndCounted are met. -/
theorem wit_CanFramesReceivedSentAndCounted :
    ((Taken wCanFramesReceivedSentAndCounted0 0x28 (⟨8, true⟩ : Acc)) ∧ ((wCanFramesReceivedSentAndCounted0.dev.chSel 0x28 (⟨8, true⟩ : Acc)) < 8) ∧ (wCanFramesReceivedSentAndCounted0.dev.get F.BUS_CH_CFG_EN (wCanFramesReceivedSentAndCounted0.dev.chSel 0x28 (⟨8, true⟩ : Acc)) = 0)) ∧
    ((Taken wCanFramesReceivedSentAndCounted1 0x28 (⟨8, true⟩ : Acc)) ∧ ((wCanFramesReceivedSentAndCounted1.dev.chSel 0x28 (⟨8, true⟩ : Acc)) < 8) ∧ (wCanFramesReceivedSentAndCounted1.dev.get F.BUS_CH_CFG_EN (wCanFramesReceivedSentAndCounted1.dev.chSel 0x28 (⟨8, true⟩ : Acc)) = 1)) ∧
    ((wCanFramesReceivedSentAndCounted2.dev.canWired (2 : Fin 8) = true)) ∧
    ((wCanFramesReceivedSentAndCounted3.dev.running 0x29 = true) ∧ (wCanFramesReceivedSentAndCounted3.dev.canHold = (⟨0, false, false, false, 5, 0, 0, [1], 9⟩ : CanFrame) :: ([] : List CanFrame)) ∧ ((⟨0, false, false, false, 5, 0, 0, [1], 9⟩ : CanFrame).ch < 8)) ∧
    ((Taken wCanFramesReceivedSentAndCounted4 0x28 (⟨8, true⟩ : Acc)) ∧ ((wCanFramesReceivedSentAndCounted4.dev.chSel 0x28 (⟨8, true⟩ : Acc)) < 8)) ∧
    ((Taken wCanFramesReceivedSentAndCounted5 0x28 (⟨8, true⟩ : Acc)) ∧ ((wCanFramesReceivedSentAndCounted5.dev.chSel 0x28 (⟨8, true⟩ : Acc)) < 8) ∧ ((9 : Nat) = bufIx (wCanFramesReceivedSentAndCounted5.dev.chSel 0x28 (⟨8, true⟩ : Acc)) (9 : Fin 256)) ∧ (wCanFramesReceivedSentAndCounted5.dev.isHead (wCanFramesReceivedSentAndCounted5.dev.chSel 0x28 (⟨8, true⟩ : Acc)) (9 : Fin 256) = true) ∧ (wCanFramesReceivedSentAndCounted5.dev.bufTaken (wCanFramesReceivedSentAndCounted5.dev.chSel 0x28 (⟨8, true⟩ : Acc)) (9 : Fin 256) = false) ∧ (wCanFramesReceivedSentAndCounted5.dev.bufDir (wCanFramesReceivedSentAndCounted5.dev.chSel 0x28 (⟨8, true⟩ : Acc)) (9 : Fin 256) = 2)) ∧
    ((Taken wCanFramesReceivedSentAndCounted6 0x28 (⟨8, true⟩ : Acc)) ∧ ((wCanFramesReceivedSentAndCounted6.dev.chSel 0x28 (⟨8, true⟩ : Acc)) < 8) ∧ ((9 : Nat) = bufIx (wCanFramesReceivedSentAndCounted6.dev.chSel 0x28 (⟨8, true⟩ : Acc)) (9 : Fin 256)) ∧ (wCanFramesReceivedSentAndCounted6.dev.isHead (wCanFramesReceivedSentAndCounted6.dev.chSel 0x28 (⟨8, true⟩ : Acc)) (9 : Fin 256) = true) ∧ (wCanFramesReceivedSentAndCounted6.dev.bufTaken (wCanFramesReceivedSentAndCounted6.dev.chSel 0x28 (⟨8, true⟩ : Acc)) (9 : Fin 256) = false) ∧ (wCanFramesReceivedSentAndCounted6.dev.get F.BUF_CTRL_TXREQ (9 : Nat) = 1)) ∧
    ((wCanFramesReceivedSentAndCounted7.dev.canUp (1 : Fin 8) = true) ∧ (wCanFramesReceivedSentAndCounted7.dev.txMay (1 : Fin 8) (9 : Fin 256) (wCanFramesReceivedSentAndCounted7.dev.var V.uptime 0 - ((0 : BitVec 32).toNat : Int) * 65536) = true)) ∧
    (((2 : Fin 5) ≠ 0) ∧ (wCanFramesReceivedSentAndCounted8.dev.canWired (1 : Fin 8) = true) ∧ (wCanFramesReceivedSentAndCounted8.dev.txMay (1 : Fin 8) (9 : Fin 256) (wCanFramesReceivedSentAndCounted8.dev.var V.uptime 0 - ((0 : BitVec 32).toNat : Int) * 65536) = true)) ∧
    ((wCanFramesReceivedSentAndCounted9.dev.get F.BUS_CH_STAT_STATE (1 : Fin 8) = 1) ∧ (wCanFramesReceivedSentAndCounted9.dev.running 0x28 = true)) ∧
    ((wCanFramesReceivedSentAndCounted10.dev.canWired (1 : Fin 8) = true)) ∧
    ((wCanFramesReceivedSentAndCounted11.dev.canUp (1 : Fin 8) = true) ∧ (255 < wCanFramesReceivedSentAndCounted11.dev.var V.canTec (1 : Fin 8))) ∧
    ((wCanFramesReceivedSentAndCounted12.dev.get F.BUS_CH_STAT_STATE (1 : Fin 8) = 4) ∧ (wCanFramesReceivedSentAndCounted12.dev.passed V.boAt (1 : Fin 8) (wCanFramesReceivedSentAndCounted12.dev.nominalBit (1 : Fin 8) * 8800 : Nat) = true)) := by
  and_intros <;> decide +kernel

/-- A state for clause 1 of CanMessagesClaimsAndPartners. -/
abbrev wCanMessagesClaimsAndPartners0 : State := st [(F.BUS_CH_FBMSG_EN, 1, 1), (F.COM_STAT_RUN, 0x28, 1), (F.BUS_CH_CFG_EN, 1, 1)] [(V.uptime, 0, 655360000000000000)]
/-- A state for clause 2 of CanMessagesClaimsAndPartners. -/
abbrev wCanMessagesClaimsAndPartners1 : State := st [(F.TIME_CANREF_CHMASK.act, 0, 2), (F.COM_STAT_RUN, 0x28, 1), (F.BUS_CH_CFG_EN, 1, 1)] [(V.uptime, 0, 655360000000000000)]
/-- A state for clause 3 of CanMessagesClaimsAndPartners. -/
abbrev wCanMessagesClaimsAndPartners2 : State := st [(F.BUS_ISO_CFG_PREF, 2, 0x26)] []
/-- A state for clause 4 of CanMessagesClaimsAndPartners. -/
abbrev wCanMessagesClaimsAndPartners3 : State := st [(F.BUS_ISO_CFG_PREF, 2, 254)] []
/-- A state for clause 5 of CanMessagesClaimsAndPartners. -/
abbrev wCanMessagesClaimsAndPartners4 : State := st [(F.BUS_ISO_STAT_STATE, 2, 1)] [(V.isoSent, 2, 1), (V.uptime, 0, 65536000000000000)]
/-- A state for clause 6 of CanMessagesClaimsAndPartners. -/
abbrev wCanMessagesClaimsAndPartners5 : State := st [(F.BUS_ISO_STAT_STATE, 2, 2)] [(V.isoHeard, 2, 6)]
/-- A state for clause 7 of CanMessagesClaimsAndPartners. -/
abbrev wCanMessagesClaimsAndPartners6 : State := st [] [(V.isoWait, 2, 1)]
/-- A state for clause 8 of CanMessagesClaimsAndPartners. -/
abbrev wCanMessagesClaimsAndPartners7 : State := st [(F.BUS_ISO_STAT_STATE, 2, 2)] [(V.isoAsked, 2, 1)]
/-- A state for clause 9 of CanMessagesClaimsAndPartners. -/
abbrev wCanMessagesClaimsAndPartners8 : State := st [(F.BUS_PT_CFG_EN, 0, 1)] [(V.ptState, 40, 1), (V.uptime, 0, 655360000000000000)]

/-- The hypotheses of the clauses of CanMessagesClaimsAndPartners are met. -/
theorem wit_CanMessagesClaimsAndPartners :
    ((wCanMessagesClaimsAndPartners0.dev.get F.BUS_CH_FBMSG_EN (1 : Fin 8) = 1) ∧ (wCanMessagesClaimsAndPartners0.dev.running 0x28 = true) ∧ (wCanMessagesClaimsAndPartners0.dev.passed V.fbLast (1 : Fin 8) ((min 1000 (max 10 (wCanMessagesClaimsAndPartners0.dev.get F.BUS_CH_FBPER_FBPER (1 : Fin 8) : Int))) * 1000000) = true ∨ (wCanMessagesClaimsAndPartners0.dev.var V.fbChg (1 : Fin 8) = 1 ∧ wCanMessagesClaimsAndPartners0.dev.passed V.fbLast (1 : Fin 8) 2000000 = true))) ∧
    ((tbit (wCanMessagesClaimsAndPartners1.dev.get F.TIME_CANREF_CHMASK.act 0) (1 : Fin 8) = true) ∧ (wCanMessagesClaimsAndPartners1.dev.running 0x28 = true) ∧ (wCanMessagesClaimsAndPartners1.dev.passed V.refLast (1 : Fin 8) ((max 10 (wCanMessagesClaimsAndPartners1.dev.get F.TIME_CANREF_PERIOD.act 0 : Int)) * 1000000) = true)) ∧
    ((Taken wCanMessagesClaimsAndPartners2 0x28 (⟨8, true⟩ : Acc)) ∧ (wCanMessagesClaimsAndPartners2.dev.get F.BUS_ISO_CFG_PREF (2 : Fin 4) ≤ 253)) ∧
    ((Taken wCanMessagesClaimsAndPartners3 0x28 (⟨8, true⟩ : Acc)) ∧ (253 < wCanMessagesClaimsAndPartners3.dev.get F.BUS_ISO_CFG_PREF (2 : Fin 4))) ∧
    ((wCanMessagesClaimsAndPartners4.dev.get F.BUS_ISO_STAT_STATE (2 : Fin 4) = 1) ∧ (wCanMessagesClaimsAndPartners4.dev.var V.isoSent (2 : Fin 4) = 1) ∧ (wCanMessagesClaimsAndPartners4.dev.var V.isoHeard (2 : Fin 4) = 0) ∧ (wCanMessagesClaimsAndPartners4.dev.var V.isoWait (2 : Fin 4) = 0) ∧ (wCanMessagesClaimsAndPartners4.dev.passed V.isoAt (2 : Fin 4) 250000000 = true)) ∧
    ((wCanMessagesClaimsAndPartners5.dev.get F.BUS_ISO_STAT_STATE (2 : Fin 4) = 1 ∨ wCanMessagesClaimsAndPartners5.dev.get F.BUS_ISO_STAT_STATE (2 : Fin 4) = 2) ∧ (wCanMessagesClaimsAndPartners5.dev.var V.isoWait (2 : Fin 4) ≠ 1) ∧ (wCanMessagesClaimsAndPartners5.dev.var V.isoHeard (2 : Fin 4) ≠ 0)) ∧
    ((wCanMessagesClaimsAndPartners6.dev.var V.isoWait (2 : Fin 4) = 1) ∧ (wCanMessagesClaimsAndPartners6.dev.passed V.isoFrom (2 : Fin 4) (wCanMessagesClaimsAndPartners6.dev.var V.isoDelay (2 : Fin 4) * 600000) = true)) ∧
    ((wCanMessagesClaimsAndPartners7.dev.var V.isoAsked (2 : Fin 4) = 1) ∧ (wCanMessagesClaimsAndPartners7.dev.var V.isoWait (2 : Fin 4) ≠ 1)) ∧
    ((wCanMessagesClaimsAndPartners8.dev.get F.BUS_PT_CFG_EN 0 = 1) ∧ (wCanMessagesClaimsAndPartners8.dev.var V.ptState (40 : Fin 254) = 1) ∧ (wCanMessagesClaimsAndPartners8.dev.var V.ptOwn (40 : Fin 254) = 0) ∧ (wCanMessagesClaimsAndPartners8.dev.passed V.ptSeen (40 : Fin 254) ((max 1 (wCanMessagesClaimsAndPartners8.dev.get F.BUS_PT_CFG_PTO 0) : Nat) * 10000000) = true)) := by
  and_intros <;> decide +kernel

/-- A state for clause 1 of EthernetPortsTimeAndTriggers. -/
abbrev wEthernetPortsTimeAndTriggers0 : State := st [(F.ETH_PORT_STAT_LINK, 0, 1)] []
/-- A state for clause 2 of EthernetPortsTimeAndTriggers. -/
abbrev wEthernetPortsTimeAndTriggers1 : State := st [(F.COM_STAT_RUN, 0x2A, 1), (F.ETH_PORT_CFG_EN, 2, 1)] []
/-- A state for clause 3 of EthernetPortsTimeAndTriggers. -/
abbrev wEthernetPortsTimeAndTriggers2 : State := st [(F.COM_STAT_RUN, 0x2A, 1), (F.ETH_PORT_CFG_EN, 1, 1), (F.ETH_PORT_STAT_LINK, 1, 1)] []
/-- A state for clause 4 of EthernetPortsTimeAndTriggers. -/
abbrev wEthernetPortsTimeAndTriggers3 : State := st [(F.COM_STAT_RUN, 0x2A, 1), (F.ETH_PORT_CFG_EN, 1, 1), (F.ETH_PORT_STAT_LINK, 1, 1), (F.ETH_PORT_CFG_EN, 2, 1), (F.ETH_PORT_STAT_LINK, 2, 1), (F.ETH_PORT_CFG_LEARN, 1, 0), (F.ETH_PORT_CFG_PVID, 1, 1), (F.FDB_ENT_VALID, 0, 1), (F.FDB_ENT_MAC, 0, 5), (F.FDB_ENT_VID, 0, 1), (F.FDB_PORTS_PORTS, 0, 4)] []
/-- A state for clause 5 of EthernetPortsTimeAndTriggers. -/
abbrev wEthernetPortsTimeAndTriggers4 : State := st [(F.COM_STAT_RUN, 0x2A, 1), (F.FDB_ENT_VALID, 3, 1), (F.FDB_AGE_AGE, 3, 300)] [(V.uptime, 0, 65536000000000000)]
/-- A state for clause 6 of EthernetPortsTimeAndTriggers. -/
abbrev wEthernetPortsTimeAndTriggers5 : State := st [(F.COM_STAT_RUN, 0x2A, 1)] []
/-- A state for clause 7 of EthernetPortsTimeAndTriggers. -/
abbrev wEthernetPortsTimeAndTriggers6 : State := { st [(F.COM_STAT_RUN, 0x2A, 1), (F.ETH_PORT_CFG_EN, 3, 1), (F.ETH_PORT_STAT_LINK, 3, 1)] [] with dev := { (st [(F.COM_STAT_RUN, 0x2A, 1), (F.ETH_PORT_CFG_EN, 3, 1), (F.ETH_PORT_STAT_LINK, 3, 1)] []).dev with bytes := [((9, 29), [64])] } }
/-- A state for clause 8 of EthernetPortsTimeAndTriggers. -/
abbrev wEthernetPortsTimeAndTriggers7 : State := st [(F.COM_STAT_RUN, 0x2A, 1), (F.ETH_PORT_CFG_EN, 3, 1), (F.ETH_PORT_STAT_LINK, 3, 1), (F.ETH_PORT_CFG_GPTP, 3, 1)] []
/-- A state for clause 9 of EthernetPortsTimeAndTriggers. -/
abbrev wEthernetPortsTimeAndTriggers8 : State := st [(F.COM_STAT_RUN, 0x2A, 1), (F.ETH_PORT_CFG_EN, 3, 1), (F.ETH_PORT_STAT_LINK, 3, 1), (F.ETH_PORT_CFG_GPTP, 3, 1)] [(V.uptime, 0, 65536000000000000)]
/-- A state for clause 10 of EthernetPortsTimeAndTriggers. -/
abbrev wEthernetPortsTimeAndTriggers9 : State := st [(F.COM_STAT_RUN, 0x2A, 1), (F.ETH_PORT_CFG_EN, 3, 1), (F.ETH_PORT_STAT_LINK, 3, 1), (F.ETH_PORT_CFG_GPTP, 3, 1)] [(V.uptime, 0, 65536000000000000)]
/-- A state for clause 11 of EthernetPortsTimeAndTriggers. -/
abbrev wEthernetPortsTimeAndTriggers10 : State := st [(F.COM_STAT_RUN, 0x2A, 1), (F.ETH_PORT_CFG_EN, 3, 1), (F.ETH_PORT_STAT_LINK, 3, 1), (F.ETH_PORT_CFG_GPTP, 3, 1)] []
/-- A state for clause 12 of EthernetPortsTimeAndTriggers. -/
abbrev wEthernetPortsTimeAndTriggers11 : State := st [(F.TRIG_CFG_EN, 3, 1), (F.TRIG_CFG_TGT, 3, 1), (F.TRIG_INST_INST, 3, 7), (F.COM_STAT_RUN, 0x2A, 1), (F.TRG_CFG_EN, 0, 1), (F.TRG_CFG_PORT, 0, 1), (F.ETH_PORT_CFG_EN, 1, 1), (F.ETH_PORT_STAT_LINK, 1, 1)] [(V.grove, 0, 6553600)]

/-- The hypotheses of the clauses of EthernetPortsTimeAndTriggers are met. -/
theorem wit_EthernetPortsTimeAndTriggers :
    ((Taken wEthernetPortsTimeAndTriggers0 0x2A (⟨0, true⟩ : Acc)) ∧ ((wEthernetPortsTimeAndTriggers0.dev.chSel 0x2A (⟨0, true⟩ : Acc)) < 10) ∧ (wEthernetPortsTimeAndTriggers0.dev.get F.ETH_PORT_STAT_TAKEN (wEthernetPortsTimeAndTriggers0.dev.chSel 0x2A (⟨0, true⟩ : Acc)) = 0)) ∧
    ((wEthernetPortsTimeAndTriggers1.dev.get F.ETH_PORT_STAT_TAKEN (2 : Fin 10) = 0) ∧ ((true : Bool) = false ∨ (wEthernetPortsTimeAndTriggers1.dev.running 0x2A = true ∧ wEthernetPortsTimeAndTriggers1.dev.get F.ETH_PORT_CFG_EN (2 : Fin 10) = 1)) ∧ (wEthernetPortsTimeAndTriggers1.dev.get F.ETH_PORT_STAT_LINK (2 : Fin 10) ≤ 1)) ∧
    ((wEthernetPortsTimeAndTriggers2.dev.ethUp (⟨1, 0, 0, 5, 6, none, [1]⟩ : EthIn).port = true) ∧ ((⟨1, 0, 0, 5, 6, none, [1]⟩ : EthIn).port.val = 8 → wEthernetPortsTimeAndTriggers2.dev.plcaTurn (⟨1, 0, 0, 5, 6, none, [1]⟩ : EthIn).node.toNat = true) ∧ (2048 < (⟨1, 0, 0, 5, 6, none, [1]⟩ : EthIn).data.length ∨ 524288 < (524288 : BitVec 20).toNat + wEthernetPortsTimeAndTriggers2.dev.ethWaiting + (⟨1, 0, 0, 5, 6, none, [1]⟩ : EthIn).data.length)) ∧
    ((wEthernetPortsTimeAndTriggers3.dev.ethUp (⟨1, 0, 0, 5, 6, none, []⟩ : EthIn).port = true) ∧ ((⟨1, 0, 0, 5, 6, none, []⟩ : EthIn).port.val = 8 → wEthernetPortsTimeAndTriggers3.dev.plcaTurn (⟨1, 0, 0, 5, 6, none, []⟩ : EthIn).node.toNat = true) ∧ ((⟨1, 0, 0, 5, 6, none, []⟩ : EthIn).data.length ≤ 2048) ∧ ((0 : BitVec 20).toNat + wEthernetPortsTimeAndTriggers3.dev.ethWaiting + (⟨1, 0, 0, 5, 6, none, []⟩ : EthIn).data.length ≤ 524288) ∧ (((1 : Nat), (0 : Nat)) = (match (⟨1, 0, 0, 5, 6, none, []⟩ : EthIn).tag with | some z => (z.1.toNat, z.2.toNat) | none => (wEthernetPortsTimeAndTriggers3.dev.get F.ETH_PORT_CFG_PVID ((⟨1, 0, 0, 5, 6, none, []⟩ : EthIn).port), wEthernetPortsTimeAndTriggers3.dev.get F.ETH_PORT_CFG_DEFPCP ((⟨1, 0, 0, 5, 6, none, []⟩ : EthIn).port)))) ∧ ((0 : Nat) < 8) ∧ (([2] : List Nat) = (((wEthernetPortsTimeAndTriggers3.dev.streamFilter (⟨1, 0, 0, 5, 6, none, []⟩ : EthIn).port (⟨1, 0, 0, 5, 6, none, []⟩ : EthIn).da.toNat (1 : Nat) (0 : Nat) (⟨1, 0, 0, 5, 6, none, []⟩ : EthIn).data.length).1.learn (⟨1, 0, 0, 5, 6, none, []⟩ : EthIn).port (⟨1, 0, 0, 5, 6, none, []⟩ : EthIn).sa.toNat (1 : Nat)).egress (⟨1, 0, 0, 5, 6, none, []⟩ : EthIn).port (⟨1, 0, 0, 5, 6, none, []⟩ : EthIn).da.toNat (1 : Nat)).2)) ∧
    ((wEthernetPortsTimeAndTriggers4.dev.running 0x2A = true) ∧ (wEthernetPortsTimeAndTriggers4.dev.passed V.fdbAt 0 1000000000 = true) ∧ (wEthernetPortsTimeAndTriggers4.dev.get F.FDB_ENT_VALID (3 : Fin 2048) = 1)) ∧
    ((wEthernetPortsTimeAndTriggers5.dev.running 0x2A = true)) ∧
    ((wEthernetPortsTimeAndTriggers6.dev.ethUp (3 : Fin 10) = true) ∧ (wEthernetPortsTimeAndTriggers6.dev.get F.ETH_PORT_GCL_GEN.act (3 : Fin 10) = 0)) ∧
    ((wEthernetPortsTimeAndTriggers7.dev.gptpUp (3 : Fin 10) = true)) ∧
    ((wEthernetPortsTimeAndTriggers8.dev.gptpUp (3 : Fin 10) = true) ∧ (wEthernetPortsTimeAndTriggers8.dev.passed V.gpSync (3 : Fin 10) (gptpPeriod (wEthernetPortsTimeAndTriggers8.dev.get F.ETH_PORT_SYNC_SYNCI (3 : Fin 10))) = true)) ∧
    ((wEthernetPortsTimeAndTriggers9.dev.gptpUp (3 : Fin 10) = true) ∧ (wEthernetPortsTimeAndTriggers9.dev.passed V.gpPdly (3 : Fin 10) (gptpPeriod (wEthernetPortsTimeAndTriggers9.dev.get F.ETH_PORT_SYNC_PDLYI (3 : Fin 10))) = true)) ∧
    ((wEthernetPortsTimeAndTriggers10.dev.gptpUp (3 : Fin 10) = true)) ∧
    ((wEthernetPortsTimeAndTriggers11.dev.get F.TRIG_CFG_EN (3 : Fin 16) = 1) ∧ (wEthernetPortsTimeAndTriggers11.dev.get F.TRIG_CFG_TGT (3 : Fin 16) = 1) ∧ (wEthernetPortsTimeAndTriggers11.dev.running 0x2A = true) ∧ (wEthernetPortsTimeAndTriggers11.dev.var V.trgSent (3 : Fin 16) ≠ wEthernetPortsTimeAndTriggers11.dev.get F.TRIG_INST_INST (3 : Fin 16)) ∧ ((wEthernetPortsTimeAndTriggers11.dev.get F.TRIG_INST_INST (3 : Fin 16) : Int) - wEthernetPortsTimeAndTriggers11.dev.get F.TRIG_CFG_LEAD (3 : Fin 16) * 100000 ≤ wEthernetPortsTimeAndTriggers11.dev.now) ∧ (wEthernetPortsTimeAndTriggers11.dev.get F.TRG_CFG_EN (wEthernetPortsTimeAndTriggers11.dev.get F.TRIG_CFG_IDX (3 : Fin 16)) = 1) ∧ (wEthernetPortsTimeAndTriggers11.dev.get F.TRG_CFG_PORT (wEthernetPortsTimeAndTriggers11.dev.get F.TRIG_CFG_IDX (3 : Fin 16)) < 10) ∧ (wEthernetPortsTimeAndTriggers11.dev.ethUp (wEthernetPortsTimeAndTriggers11.dev.get F.TRG_CFG_PORT (wEthernetPortsTimeAndTriggers11.dev.get F.TRIG_CFG_IDX (3 : Fin 16))) = true)) := by
  and_intros <;> decide +kernel

/-- A state for clause 1 of EthernetListenerHostAndRideCycle. -/
abbrev wEthernetListenerHostAndRideCycle0 : State := st [(F.COM_STAT_RUN, 0x2A, 1), (F.ETH_PORT_CFG_EN, 1, 1), (F.ETH_PORT_STAT_LINK, 1, 1), (F.STR_CFG_PORT, 2, 1), (F.STR_ID_ID, 2, 77), (F.STR_CFG_EN, 2, 1), (F.ETH_PORT_CFG_LEARN, 1, 0)] [(V.strOpen, 2, 1)]
/-- A state for clause 2 of EthernetListenerHostAndRideCycle. -/
abbrev wEthernetListenerHostAndRideCycle1 : State := st [(F.COM_STAT_RUN, 0x2A, 1), (F.ETH_PORT_CFG_EN, 1, 1), (F.ETH_PORT_STAT_LINK, 1, 1), (F.STR_CFG_PORT, 2, 1), (F.STR_ID_ID, 2, 77), (F.STR_CFG_EN, 2, 1), (F.ETH_PORT_CFG_LEARN, 1, 0), (F.DMA_CH_STAT_STATE, 0, 1)] [(V.strOpen, 2, 0)]
/-- A state for clause 3 of EthernetListenerHostAndRideCycle. -/
abbrev wEthernetListenerHostAndRideCycle2 : State := { st [(F.COM_STAT_RUN, 0x2A, 1), (F.ETH_PORT_CFG_EN, 1, 1), (F.ETH_PORT_STAT_LINK, 1, 1), (F.STR_CFG_PORT, 2, 1), (F.STR_ID_ID, 2, 77), (F.STR_CFG_EN, 2, 1), (F.ETH_PORT_CFG_LEARN, 1, 0), (F.CNPY_SEN_RING_BASE.act, 0, 0x100000000), (F.CNPY_SEN_RING_BUFSZ.act, 0, 1), (F.CAL_SIZE_W, 0, 64)] [(V.strOpen, 2, 1), (V.strSeq, 2, 4)] with dev := { (st [(F.COM_STAT_RUN, 0x2A, 1), (F.ETH_PORT_CFG_EN, 1, 1), (F.ETH_PORT_STAT_LINK, 1, 1), (F.STR_CFG_PORT, 2, 1), (F.STR_ID_ID, 2, 77), (F.STR_CFG_EN, 2, 1), (F.ETH_PORT_CFG_LEARN, 1, 0), (F.CNPY_SEN_RING_BASE.act, 0, 0x100000000), (F.CNPY_SEN_RING_BUFSZ.act, 0, 1), (F.CAL_SIZE_W, 0, 64)] [(V.strOpen, 2, 1), (V.strSeq, 2, 4)]).dev with bytes := [((44, 2), [0,0,0,0,1,0,0,0,9])] } }
/-- A state for clause 4 of EthernetListenerHostAndRideCycle. -/
abbrev wEthernetListenerHostAndRideCycle3 : State := st [(F.COM_STAT_RUN, 0x2A, 1), (F.ETH_PORT_CFG_EN, 1, 1), (F.ETH_PORT_STAT_LINK, 1, 1), (F.STR_CFG_PORT, 2, 1), (F.STR_ID_ID, 2, 77), (F.STR_CFG_EN, 2, 1), (F.ETH_PORT_CFG_LEARN, 1, 0), (F.CNPY_SEN_RING_BASE.act, 0, 0x100000000), (F.CNPY_SEN_RING_BUFSZ.act, 0, 1), (F.CAL_SIZE_W, 0, 2)] [(V.strOpen, 2, 1), (V.strSeq, 2, 4)]
/-- A state for clause 5 of EthernetListenerHostAndRideCycle. -/
abbrev wEthernetListenerHostAndRideCycle4 : State := st [(F.COM_STAT_RUN, 0x2A, 1), (F.ETH_PORT_CFG_EN, 1, 1), (F.ETH_PORT_STAT_LINK, 1, 1), (F.STR_CFG_PORT, 2, 1), (F.STR_ID_ID, 2, 77), (F.STR_CFG_EN, 2, 1), (F.ETH_PORT_CFG_LEARN, 1, 0)] [(V.strOpen, 2, 1)]
/-- A state for clause 6 of EthernetListenerHostAndRideCycle. -/
abbrev wEthernetListenerHostAndRideCycle5 : State := st [(F.COM_STAT_RUN, 0x2A, 1), (F.ETH_PORT_CFG_EN, 1, 1), (F.ETH_PORT_STAT_LINK, 1, 1), (F.STR_CFG_PORT, 2, 1), (F.STR_ID_ID, 2, 77), (F.STR_CFG_EN, 2, 1), (F.ETH_PORT_CFG_LEARN, 1, 0), (F.CNPY_SEN_RING_BASE.act, 0, 0x100000000), (F.CNPY_SEN_RING_BUFSZ.act, 0, 1), (F.CAL_SIZE_W, 0, 2)] [(V.strOpen, 2, 1), (V.strSeq, 2, 4)]
/-- A state for clause 7 of EthernetListenerHostAndRideCycle. -/
abbrev wEthernetListenerHostAndRideCycle6 : State := st [(F.COM_STAT_RUN, 0x2A, 1), (F.ETH_PORT_CFG_EN, 1, 1), (F.ETH_PORT_STAT_LINK, 1, 1), (F.STR_CFG_PORT, 2, 1), (F.STR_ID_ID, 2, 77), (F.STR_CFG_EN, 2, 1), (F.ETH_PORT_CFG_LEARN, 1, 0)] [(V.strSkip, 2, 1)]
/-- A state for clause 8 of EthernetListenerHostAndRideCycle. -/
abbrev wEthernetListenerHostAndRideCycle7 : State := { st [(F.COM_STAT_RUN, 0x2A, 1), (F.ETH_PORT_CFG_EN, 9, 1), (F.ETH_PORT_STAT_LINK, 9, 1), (F.HQ_RXWR_IDX, 3, 64)] [] with dev := { (st [(F.COM_STAT_RUN, 0x2A, 1), (F.ETH_PORT_CFG_EN, 9, 1), (F.ETH_PORT_STAT_LINK, 9, 1), (F.HQ_RXWR_IDX, 3, 64)] []).dev with bytes := [((40, 3), [1,0,0,0,0,0,0,0,0,1,0,7])] } }
/-- A state for clause 9 of EthernetListenerHostAndRideCycle. -/
abbrev wEthernetListenerHostAndRideCycle8 : State := { st [(F.IOMU_DDTP_V, 0, 1), (F.COM_STAT_RUN, 0x2A, 1), (F.ETH_PORT_CFG_EN, 9, 1), (F.ETH_PORT_STAT_LINK, 9, 1), (F.HQ_RXBASE_BASE, 3, 0x100000000)] [] with mem := [(0x10000000A, 1)], dev.bytes := [((40, 3), [1,0,0,0,0,0,0,0,0,1,0,7])] }
/-- A state for clause 10 of EthernetListenerHostAndRideCycle. -/
abbrev wEthernetListenerHostAndRideCycle9 : State := { st [(F.IOMU_DDTP_V, 0, 1), (F.COM_STAT_RUN, 0x2A, 1), (F.ETH_PORT_CFG_EN, 9, 1), (F.ETH_PORT_STAT_LINK, 9, 1), (F.HQ_TXBASE_BASE, 3, 0x100000000), (F.HQ_TXWR_IDX, 3, 5)] [] with mem := [(0x10000000A, 1)] }
/-- A state for clause 11 of EthernetListenerHostAndRideCycle. -/
abbrev wEthernetListenerHostAndRideCycle10 : State := st [(F.RIDE_CFG_PAEN, 0, 1), (F.COM_STAT_RUN, 0x2B, 1)] [(V.grove, 0, 6553600000), (V.rideNext, 0, 0)]
/-- A state for clause 12 of EthernetListenerHostAndRideCycle. -/
abbrev wEthernetListenerHostAndRideCycle11 : State := st [(F.COM_STAT_RUN, 0x2B, 1), (F.NT_ID_STATE, 3, 1)] [(V.rideExp, 3, 1), (V.rideTk, 0, 5)]
/-- A state for clause 13 of EthernetListenerHostAndRideCycle. -/
abbrev wEthernetListenerHostAndRideCycle12 : State := st [(F.RIDE_ND_OUT_W, 1, 7)] []
/-- A state for clause 14 of EthernetListenerHostAndRideCycle. -/
abbrev wEthernetListenerHostAndRideCycle13 : State := st [(F.COM_STAT_RUN, 0x2B, 1), (F.RIDE_CYCNT_CNT, 0, 2), (F.RIDE_CFG_PAEN, 0, 1), (F.RIDE_CFG_PBEN, 0, 1)] []
/-- A state for clause 15 of EthernetListenerHostAndRideCycle. -/
abbrev wEthernetListenerHostAndRideCycle14 : State := st [(F.RIDE_CFG_PBEN, 0, 1), (F.COM_STAT_RUN, 0x2B, 1)] [(V.uptime, 0, 65536000000000000)]

/-- The hypotheses of the clauses of EthernetListenerHostAndRideCycle are met. -/
theorem wit_EthernetListenerHostAndRideCycle :
    ((wEthernetListenerHostAndRideCycle0.dev.ethTakes (⟨⟨1, 0, 0, 5, 6, none, [1]⟩, 77, 5, 9, 3, 0, [1]⟩ : AvtpIn).eth = true) ∧ (wEthernetListenerHostAndRideCycle0.dev.strOf (⟨⟨1, 0, 0, 5, 6, none, [1]⟩, 77, 5, 9, 3, 0, [1]⟩ : AvtpIn) = some (2 : Nat)) ∧ (wEthernetListenerHostAndRideCycle0.dev.strWaits (2 : Nat) (⟨⟨1, 0, 0, 5, 6, none, [1]⟩, 77, 5, 9, 3, 0, [1]⟩ : AvtpIn) = false) ∧ ((wEthernetListenerHostAndRideCycle0.dev.ethPass (⟨⟨1, 0, 0, 5, 6, none, [1]⟩, 77, 5, 9, 3, 0, [1]⟩ : AvtpIn).eth false).2 = false) ∧ (wEthernetListenerHostAndRideCycle0.dev.var V.strOpen (2 : Nat) = 1) ∧ (wEthernetListenerHostAndRideCycle0.dev.get F.CNPY_SEN_RING_BUFSZ.act (wEthernetListenerHostAndRideCycle0.dev.get F.STR_CFG_SEN (2 : Nat)) * 65536 < (⟨⟨1, 0, 0, 5, 6, none, [1]⟩, 77, 5, 9, 3, 0, [1]⟩ : AvtpIn).line.toNat * wEthernetListenerHostAndRideCycle0.dev.lineBytes (wEthernetListenerHostAndRideCycle0.dev.get F.STR_CFG_SEN (2 : Nat)) + (⟨⟨1, 0, 0, 5, 6, none, [1]⟩, 77, 5, 9, 3, 0, [1]⟩ : AvtpIn).off.toNat + (⟨⟨1, 0, 0, 5, 6, none, [1]⟩, 77, 5, 9, 3, 0, [1]⟩ : AvtpIn).data.length)) ∧
    ((wEthernetListenerHostAndRideCycle1.dev.ethTakes (⟨⟨1, 0, 0, 5, 6, none, [1]⟩, 77, 5, 9, 0, 0, []⟩ : AvtpIn).eth = true) ∧ (wEthernetListenerHostAndRideCycle1.dev.strOf (⟨⟨1, 0, 0, 5, 6, none, [1]⟩, 77, 5, 9, 0, 0, []⟩ : AvtpIn) = some (2 : Nat)) ∧ (wEthernetListenerHostAndRideCycle1.dev.strWaits (2 : Nat) (⟨⟨1, 0, 0, 5, 6, none, [1]⟩, 77, 5, 9, 0, 0, []⟩ : AvtpIn) = false) ∧ ((wEthernetListenerHostAndRideCycle1.dev.ethPass (⟨⟨1, 0, 0, 5, 6, none, [1]⟩, 77, 5, 9, 0, 0, []⟩ : AvtpIn).eth false).2 = false) ∧ (wEthernetListenerHostAndRideCycle1.dev.var V.strOpen (2 : Nat) = 0)) ∧
    ((wEthernetListenerHostAndRideCycle2.dev.ethTakes (⟨⟨1, 0, 0, 5, 6, none, [1]⟩, 77, 5, 9, 0, 1, [3, 4]⟩ : AvtpIn).eth = true) ∧ (wEthernetListenerHostAndRideCycle2.dev.strOf (⟨⟨1, 0, 0, 5, 6, none, [1]⟩, 77, 5, 9, 0, 1, [3, 4]⟩ : AvtpIn) = some (2 : Nat)) ∧ (wEthernetListenerHostAndRideCycle2.dev.strWaits (2 : Nat) (⟨⟨1, 0, 0, 5, 6, none, [1]⟩, 77, 5, 9, 0, 1, [3, 4]⟩ : AvtpIn) = false) ∧ ((wEthernetListenerHostAndRideCycle2.dev.ethPass (⟨⟨1, 0, 0, 5, 6, none, [1]⟩, 77, 5, 9, 0, 1, [3, 4]⟩ : AvtpIn).eth false).2 = false) ∧ (wEthernetListenerHostAndRideCycle2.dev.var V.strOpen (2 : Nat) = 1) ∧ ((⟨⟨1, 0, 0, 5, 6, none, [1]⟩, 77, 5, 9, 0, 1, [3, 4]⟩ : AvtpIn).seq.toNat = ((wEthernetListenerHostAndRideCycle2.dev.var V.strSeq (2 : Nat)).toNat + 1) % 256) ∧ (((⟨⟨1, 0, 0, 5, 6, none, [1]⟩, 77, 5, 9, 0, 1, [3, 4]⟩ : AvtpIn).line.toNat : Int) ≤ wEthernetListenerHostAndRideCycle2.dev.var V.strLine (2 : Nat) + 1) ∧ ((0 : Nat) = wEthernetListenerHostAndRideCycle2.dev.get F.STR_CFG_SEN (2 : Nat)) ∧ ((⟨⟨1, 0, 0, 5, 6, none, [1]⟩, 77, 5, 9, 0, 1, [3, 4]⟩ : AvtpIn).line.toNat * wEthernetListenerHostAndRideCycle2.dev.lineBytes (0 : Nat) + (⟨⟨1, 0, 0, 5, 6, none, [1]⟩, 77, 5, 9, 0, 1, [3, 4]⟩ : AvtpIn).off.toNat + (⟨⟨1, 0, 0, 5, 6, none, [1]⟩, 77, 5, 9, 0, 1, [3, 4]⟩ : AvtpIn).data.length ≤ wEthernetListenerHostAndRideCycle2.dev.get F.CNPY_SEN_RING_BUFSZ.act (0 : Nat) * 65536) ∧ ((0x100000001 : Nat) = wEthernetListenerHostAndRideCycle2.dev.bufAt (0 : Nat) (wEthernetListenerHostAndRideCycle2.dev.var V.strBuf (2 : Nat)).toNat + ((⟨⟨1, 0, 0, 5, 6, none, [1]⟩, 77, 5, 9, 0, 1, [3, 4]⟩ : AvtpIn).line.toNat * wEthernetListenerHostAndRideCycle2.dev.lineBytes (0 : Nat) + (⟨⟨1, 0, 0, 5, 6, none, [1]⟩, 77, 5, 9, 0, 1, [3, 4]⟩ : AvtpIn).off.toNat)) ∧ (wEthernetListenerHostAndRideCycle2.dev.blob 44 (2 : Nat) ≠ []) ∧ (leAt (wEthernetListenerHostAndRideCycle2.dev.blob 44 (2 : Nat)) 0 8 + ((wEthernetListenerHostAndRideCycle2.dev.blob 44 (2 : Nat)).length - 8) = (0x100000001 : Nat)) ∧ ((⟨⟨1, 0, 0, 5, 6, none, [1]⟩, 77, 5, 9, 0, 1, [3, 4]⟩ : AvtpIn).off.toNat + (⟨⟨1, 0, 0, 5, 6, none, [1]⟩, 77, 5, 9, 0, 1, [3, 4]⟩ : AvtpIn).data.length < wEthernetListenerHostAndRideCycle2.dev.lineBytes (0 : Nat))) ∧
    ((wEthernetListenerHostAndRideCycle3.dev.ethTakes (⟨⟨1, 0, 0, 5, 6, none, [1]⟩, 77, 5, 9, 0, 0, [3, 4]⟩ : AvtpIn).eth = true) ∧ (wEthernetListenerHostAndRideCycle3.dev.strOf (⟨⟨1, 0, 0, 5, 6, none, [1]⟩, 77, 5, 9, 0, 0, [3, 4]⟩ : AvtpIn) = some (2 : Nat)) ∧ (wEthernetListenerHostAndRideCycle3.dev.strWaits (2 : Nat) (⟨⟨1, 0, 0, 5, 6, none, [1]⟩, 77, 5, 9, 0, 0, [3, 4]⟩ : AvtpIn) = false) ∧ ((wEthernetListenerHostAndRideCycle3.dev.ethPass (⟨⟨1, 0, 0, 5, 6, none, [1]⟩, 77, 5, 9, 0, 0, [3, 4]⟩ : AvtpIn).eth false).2 = false) ∧ (wEthernetListenerHostAndRideCycle3.dev.var V.strOpen (2 : Nat) = 1) ∧ ((⟨⟨1, 0, 0, 5, 6, none, [1]⟩, 77, 5, 9, 0, 0, [3, 4]⟩ : AvtpIn).seq.toNat = ((wEthernetListenerHostAndRideCycle3.dev.var V.strSeq (2 : Nat)).toNat + 1) % 256) ∧ (((⟨⟨1, 0, 0, 5, 6, none, [1]⟩, 77, 5, 9, 0, 0, [3, 4]⟩ : AvtpIn).line.toNat : Int) ≤ wEthernetListenerHostAndRideCycle3.dev.var V.strLine (2 : Nat) + 1) ∧ ((0 : Nat) = wEthernetListenerHostAndRideCycle3.dev.get F.STR_CFG_SEN (2 : Nat)) ∧ ((0 : Nat) = wEthernetListenerHostAndRideCycle3.dev.get F.STR_CFG_DMACH (2 : Nat)) ∧ ((⟨⟨1, 0, 0, 5, 6, none, [1]⟩, 77, 5, 9, 0, 0, [3, 4]⟩ : AvtpIn).line.toNat * wEthernetListenerHostAndRideCycle3.dev.lineBytes (0 : Nat) + (⟨⟨1, 0, 0, 5, 6, none, [1]⟩, 77, 5, 9, 0, 0, [3, 4]⟩ : AvtpIn).off.toNat + (⟨⟨1, 0, 0, 5, 6, none, [1]⟩, 77, 5, 9, 0, 0, [3, 4]⟩ : AvtpIn).data.length ≤ wEthernetListenerHostAndRideCycle3.dev.get F.CNPY_SEN_RING_BUFSZ.act (0 : Nat) * 65536) ∧ ((0x100000000 : Nat) = wEthernetListenerHostAndRideCycle3.dev.bufAt (0 : Nat) (wEthernetListenerHostAndRideCycle3.dev.var V.strBuf (2 : Nat)).toNat + ((⟨⟨1, 0, 0, 5, 6, none, [1]⟩, 77, 5, 9, 0, 0, [3, 4]⟩ : AvtpIn).line.toNat * wEthernetListenerHostAndRideCycle3.dev.lineBytes (0 : Nat) + (⟨⟨1, 0, 0, 5, 6, none, [1]⟩, 77, 5, 9, 0, 0, [3, 4]⟩ : AvtpIn).off.toNat)) ∧ ((0x100000000 : Nat) < 2 ^ 64) ∧ ((⟨⟨1, 0, 0, 5, 6, none, [1]⟩, 77, 5, 9, 0, 0, [3, 4]⟩ : AvtpIn).data ≠ []) ∧ ((⟨⟨1, 0, 0, 5, 6, none, [1]⟩, 77, 5, 9, 0, 0, [3, 4]⟩ : AvtpIn).data.length < 2 ^ 32) ∧ (wEthernetListenerHostAndRideCycle3.dev.blob 44 (2 : Nat) = []) ∧ (wEthernetListenerHostAndRideCycle3.dev.lineBytes (0 : Nat) ≤ (⟨⟨1, 0, 0, 5, 6, none, [1]⟩, 77, 5, 9, 0, 0, [3, 4]⟩ : AvtpIn).off.toNat + (⟨⟨1, 0, 0, 5, 6, none, [1]⟩, 77, 5, 9, 0, 0, [3, 4]⟩ : AvtpIn).data.length) ∧ (wEthernetListenerHostAndRideCycle3.dev.get F.DMA_CH_STAT_STATE (0 : Nat) = 0) ∧ (wEthernetListenerHostAndRideCycle3.dev.blob 43 (0 : Nat) = [])) ∧
    ((wEthernetListenerHostAndRideCycle4.dev.ethTakes (⟨⟨1, 0, 0, 5, 6, none, [1]⟩, 77, 5, 9, 3, 0, [1]⟩ : AvtpIn).eth = true) ∧ (wEthernetListenerHostAndRideCycle4.dev.strOf (⟨⟨1, 0, 0, 5, 6, none, [1]⟩, 77, 5, 9, 3, 0, [1]⟩ : AvtpIn) = some (2 : Nat)) ∧ (wEthernetListenerHostAndRideCycle4.dev.strWaits (2 : Nat) (⟨⟨1, 0, 0, 5, 6, none, [1]⟩, 77, 5, 9, 3, 0, [1]⟩ : AvtpIn) = false) ∧ ((wEthernetListenerHostAndRideCycle4.dev.ethPass (⟨⟨1, 0, 0, 5, 6, none, [1]⟩, 77, 5, 9, 3, 0, [1]⟩ : AvtpIn).eth false).2 = false) ∧ (wEthernetListenerHostAndRideCycle4.dev.var V.strOpen (2 : Nat) = 1) ∧ (wEthernetListenerHostAndRideCycle4.dev.get F.CNPY_SEN_RING_BUFSZ.act (wEthernetListenerHostAndRideCycle4.dev.get F.STR_CFG_SEN (2 : Nat)) * 65536 < (⟨⟨1, 0, 0, 5, 6, none, [1]⟩, 77, 5, 9, 3, 0, [1]⟩ : AvtpIn).line.toNat * wEthernetListenerHostAndRideCycle4.dev.lineBytes (wEthernetListenerHostAndRideCycle4.dev.get F.STR_CFG_SEN (2 : Nat)) + (⟨⟨1, 0, 0, 5, 6, none, [1]⟩, 77, 5, 9, 3, 0, [1]⟩ : AvtpIn).off.toNat + (⟨⟨1, 0, 0, 5, 6, none, [1]⟩, 77, 5, 9, 3, 0, [1]⟩ : AvtpIn).data.length)) ∧
    ((wEthernetListenerHostAndRideCycle5.dev.ethTakes (⟨⟨1, 0, 0, 5, 6, none, [1]⟩, 77, 5, 9, 0, 0, [3, 4]⟩ : AvtpIn).eth = true) ∧ (wEthernetListenerHostAndRideCycle5.dev.strOf (⟨⟨1, 0, 0, 5, 6, none, [1]⟩, 77, 5, 9, 0, 0, [3, 4]⟩ : AvtpIn) = some (2 : Nat)) ∧ (wEthernetListenerHostAndRideCycle5.dev.strWaits (2 : Nat) (⟨⟨1, 0, 0, 5, 6, none, [1]⟩, 77, 5, 9, 0, 0, [3, 4]⟩ : AvtpIn) = false) ∧ ((wEthernetListenerHostAndRideCycle5.dev.ethPass (⟨⟨1, 0, 0, 5, 6, none, [1]⟩, 77, 5, 9, 0, 0, [3, 4]⟩ : AvtpIn).eth false).2 = false) ∧ ((0 : Nat) = wEthernetListenerHostAndRideCycle5.dev.get F.STR_CFG_DMACH (2 : Nat)) ∧ ((((wEthernetListenerHostAndRideCycle5.dev.ethPass (⟨⟨1, 0, 0, 5, 6, none, [1]⟩, 77, 5, 9, 0, 0, [3, 4]⟩ : AvtpIn).eth false).1.avtpData (2 : Nat) (⟨⟨1, 0, 0, 5, 6, none, [1]⟩, 77, 5, 9, 0, 0, [3, 4]⟩ : AvtpIn)).lineFlush (2 : Nat)).var V.strBad (2 : Nat) ≠ 1) ∧ ((wEthernetListenerHostAndRideCycle5.dev.get F.CAL_SIZE_H (8 * wEthernetListenerHostAndRideCycle5.dev.get F.CNPY_SEN_BANK_ACT (wEthernetListenerHostAndRideCycle5.dev.get F.STR_CFG_SEN (2 : Nat)) + wEthernetListenerHostAndRideCycle5.dev.get F.STR_CFG_SEN (2 : Nat)) : Int) ≤ (((wEthernetListenerHostAndRideCycle5.dev.ethPass (⟨⟨1, 0, 0, 5, 6, none, [1]⟩, 77, 5, 9, 0, 0, [3, 4]⟩ : AvtpIn).eth false).1.avtpData (2 : Nat) (⟨⟨1, 0, 0, 5, 6, none, [1]⟩, 77, 5, 9, 0, 0, [3, 4]⟩ : AvtpIn)).lineFlush (2 : Nat)).var V.strLine (2 : Nat) + 1) ∧ ((((wEthernetListenerHostAndRideCycle5.dev.ethPass (⟨⟨1, 0, 0, 5, 6, none, [1]⟩, 77, 5, 9, 0, 0, [3, 4]⟩ : AvtpIn).eth false).1.avtpData (2 : Nat) (⟨⟨1, 0, 0, 5, 6, none, [1]⟩, 77, 5, 9, 0, 0, [3, 4]⟩ : AvtpIn)).lineFlush (2 : Nat)).get F.DMA_CH_STAT_STATE (0 : Nat) < 2)) ∧
    ((wEthernetListenerHostAndRideCycle6.dev.ethTakes (⟨⟨1, 0, 0, 5, 6, none, [1]⟩, 77, 5, 9, 3, 0, [1]⟩ : AvtpIn).eth = true) ∧ (wEthernetListenerHostAndRideCycle6.dev.strOf (⟨⟨1, 0, 0, 5, 6, none, [1]⟩, 77, 5, 9, 3, 0, [1]⟩ : AvtpIn) = some (2 : Nat)) ∧ (wEthernetListenerHostAndRideCycle6.dev.strWaits (2 : Nat) (⟨⟨1, 0, 0, 5, 6, none, [1]⟩, 77, 5, 9, 3, 0, [1]⟩ : AvtpIn) = true) ∧ ((wEthernetListenerHostAndRideCycle6.dev.ethPass (⟨⟨1, 0, 0, 5, 6, none, [1]⟩, 77, 5, 9, 3, 0, [1]⟩ : AvtpIn).eth false).2 = false)) ∧
    ((wEthernetListenerHostAndRideCycle7.dev.ethUp 9 = true) ∧ (wEthernetListenerHostAndRideCycle7.dev.blob 40 (3 : Fin 8) = ([1,0,0,0,0,0,0,0,0,1,0,7] : List Nat)) ∧ (([1,0,0,0,0,0,0,0,0,1,0,7] : List Nat) ≠ []) ∧ (wEthernetListenerHostAndRideCycle7.dev.gateFits 9 (3 : Fin 8) (leAt ([1,0,0,0,0,0,0,0,0,1,0,7] : List Nat) 9 2) = true) ∧ (hqSize (wEthernetListenerHostAndRideCycle7.dev.get F.HQ_SIZE_RXSIZE (3 : Fin 8)) ≤ (wEthernetListenerHostAndRideCycle7.dev.get F.HQ_RXWR_IDX (3 : Fin 8) + 2 ^ 32 - wEthernetListenerHostAndRideCycle7.dev.get F.HQ_RXRD_IDX (3 : Fin 8)) % 2 ^ 32)) ∧
    ((wEthernetListenerHostAndRideCycle10.dev.running 0x2B = true) ∧ (0 ≤ wEthernetListenerHostAndRideCycle10.dev.var V.rideNext 0) ∧ (wEthernetListenerHostAndRideCycle10.dev.var V.rideNext 0 + wEthernetListenerHostAndRideCycle10.dev.var V.gridMove 0x2B / 65536 ≤ wEthernetListenerHostAndRideCycle10.dev.now)) ∧
    ((wEthernetListenerHostAndRideCycle11.dev.running 0x2B = true) ∧ (wEthernetListenerHostAndRideCycle11.dev.get F.NT_ID_STATE (3 : Fin 32) = 1) ∧ (wEthernetListenerHostAndRideCycle11.dev.var V.rideExp (3 : Fin 32) = 1) ∧ (wEthernetListenerHostAndRideCycle11.dev.var V.rideGot (3 : Fin 32) = 0) ∧ (toBits 64 (wEthernetListenerHostAndRideCycle11.dev.var V.rideTk 0) = (5 : BitVec 64).toNat)) ∧
    ((Taken wEthernetListenerHostAndRideCycle12 0x2B (⟨8, true⟩ : Acc)) ∧ ((wEthernetListenerHostAndRideCycle12.dev.chSel 0x2B (⟨8, true⟩ : Acc)) < 32)) ∧
    ((wEthernetListenerHostAndRideCycle13.dev.running 0x2B = true) ∧ (wEthernetListenerHostAndRideCycle13.dev.get F.RIDE_CFG_PAEN 0 = 1) ∧ (wEthernetListenerHostAndRideCycle13.dev.get F.RIDE_CFG_PBEN 0 = 1) ∧ (wEthernetListenerHostAndRideCycle13.dev.get F.RIDE_CYCNT_CNT 0 ≠ 0)) ∧
    ((wEthernetListenerHostAndRideCycle14.dev.running 0x2B = true) ∧ ((1 : Fin 4).val ∈ wEthernetListenerHostAndRideCycle14.dev.headPorts) ∧ (wEthernetListenerHostAndRideCycle14.dev.passed V.rideTime (1 : Fin 4) 1000000000 = true)) := by
  and_intros <;> decide +kernel

/-- The hypotheses of clause 9 of EthernetListenerHostAndRideCycle are met. -/
theorem wit_EthernetListenerHostAndRideCycle_9 :
    (wEthernetListenerHostAndRideCycle8.dev.ethUp 9 = true) ∧ (wEthernetListenerHostAndRideCycle8.dev.blob 40 (3 : Fin 8) = ([1,0,0,0,0,0,0,0,0,1,0,7] : List Nat)) ∧ (([1,0,0,0,0,0,0,0,0,1,0,7] : List Nat) ≠ []) ∧ (wEthernetListenerHostAndRideCycle8.dev.gateFits 9 (3 : Fin 8) (leAt ([1,0,0,0,0,0,0,0,0,1,0,7] : List Nat) 9 2) = true) ∧ (leAt ([1,0,0,0,0,0,0,0,0,1,0,7] : List Nat) 9 2 ≤ 2048) ∧ ((wEthernetListenerHostAndRideCycle8.dev.get F.HQ_RXWR_IDX (3 : Fin 8) + 2 ^ 32 - wEthernetListenerHostAndRideCycle8.dev.get F.HQ_RXRD_IDX (3 : Fin 8)) % 2 ^ 32 < hqSize (wEthernetListenerHostAndRideCycle8.dev.get F.HQ_SIZE_RXSIZE (3 : Fin 8))) ∧ ((wEthernetListenerHostAndRideCycle8.devRead 0x02A0 (wEthernetListenerHostAndRideCycle8.dev.get F.HQ_RXBASE_BASE (3 : Fin 8) + 32 * (wEthernetListenerHostAndRideCycle8.dev.get F.HQ_RXWR_IDX (3 : Fin 8) % hqSize (wEthernetListenerHostAndRideCycle8.dev.get F.HQ_SIZE_RXSIZE (3 : Fin 8)))) 32).2 = .ok ([0,0,0,0,0,0,0,0,0,0,1,0,0,0,0,0,0,0,0,0,0,0,0,0,0,0,0,0,0,0,0,0] : List Nat)) := by
  refine ⟨?_, ?_, ?_, ?_, ?_, ?_, rfl⟩ <;> decide +kernel

/-- The hypotheses of clause 10 of EthernetListenerHostAndRideCycle are met. -/
theorem wit_EthernetListenerHostAndRideCycle_10 :
    (wEthernetListenerHostAndRideCycle9.dev.ethUp 9 = true) ∧ (wEthernetListenerHostAndRideCycle9.dev.get F.HQ_TXRD_IDX (3 : Fin 8) ≠ wEthernetListenerHostAndRideCycle9.dev.get F.HQ_TXWR_IDX (3 : Fin 8)) ∧ ((wEthernetListenerHostAndRideCycle9.devRead 0x02A0 (wEthernetListenerHostAndRideCycle9.dev.get F.HQ_TXBASE_BASE (3 : Fin 8) + 32 * (wEthernetListenerHostAndRideCycle9.dev.get F.HQ_TXRD_IDX (3 : Fin 8) % hqSize (wEthernetListenerHostAndRideCycle9.dev.get F.HQ_SIZE_TXSIZE (3 : Fin 8)))) 32).2 = .ok ([0,0,0,0,0,0,0,0,0,0,1,0,0,0,0,0,0,0,0,0,0,0,0,0,0,0,0,0,0,0,0,0] : List Nat)) ∧ (∀ p < 10, ∀ n ≤ 2048, wEthernetListenerHostAndRideCycle9.dev.mayStart p (3 : Fin 8) n = true) := by
  refine ⟨?_, ?_, rfl, fun p _ n _ => by rfl⟩ <;> decide +kernel

/-- A state for clause 1 of RideNodesLinksAndTable. -/
abbrev wRideNodesLinksAndTable0 : State := st [(F.COM_STAT_RUN, 0x2B, 1), (F.RIDE_CFG_PBEN, 0, 1)] []
/-- A state for clause 2 of RideNodesLinksAndTable. -/
abbrev wRideNodesLinksAndTable1 : State := st [(F.COM_STAT_RUN, 0x2B, 1), (F.NT_ID_STATE, 5, 1), (F.NT_PATH_UPNODE, 5, 255), (F.NT_PATH_UPPORT, 5, 1)] []
/-- A state for clause 3 of RideNodesLinksAndTable. -/
abbrev wRideNodesLinksAndTable2 : State := st [(F.COM_STAT_RUN, 0x2B, 1), (F.RIDE_CFG_PBEN, 0, 1)] []
/-- A state for clause 5 of RideNodesLinksAndTable. -/
abbrev wRideNodesLinksAndTable4 : State := st [] []
/-- A state for clause 6 of RideNodesLinksAndTable. -/
abbrev wRideNodesLinksAndTable5 : State := st [(F.COM_STAT_RUN, 0x2B, 1)] []
/-- A state for clause 7 of RideNodesLinksAndTable. -/
abbrev wRideNodesLinksAndTable6 : State := st [(F.NT_ID_STATE, 5, 2), (F.NT_SERIAL_SERIAL, 5, 8)] []

/-- The hypotheses of the clauses of RideNodesLinksAndTable are met. -/
theorem wit_RideNodesLinksAndTable :
    ((wRideNodesLinksAndTable0.dev.running 0x2B = true) ∧ (wRideNodesLinksAndTable0.dev.headPorts.contains (⟨3, 99, 1, 8, 16, 1000, false, 1, none, 0⟩ : HelloIn).hport.val = true) ∧ ((⟨3, 99, 1, 8, 16, 1000, false, 1, none, 0⟩ : HelloIn).up = none) ∧ (∀ m < 32, wRideNodesLinksAndTable0.dev.attached m = true → wRideNodesLinksAndTable0.dev.get F.NT_PATH_UPNODE m ≠ 255 ∨ wRideNodesLinksAndTable0.dev.get F.NT_PATH_UPPORT m ≠ (⟨3, 99, 1, 8, 16, 1000, false, 1, none, 0⟩ : HelloIn).hport.val ∨ wRideNodesLinksAndTable0.dev.get F.NT_SERIAL_SERIAL m = (⟨3, 99, 1, 8, 16, 1000, false, 1, none, 0⟩ : HelloIn).serial.toNat) ∧ (∀ m < 32, wRideNodesLinksAndTable0.dev.attached m = true → wRideNodesLinksAndTable0.dev.get F.NT_SERIAL_SERIAL m ≠ (⟨3, 99, 1, 8, 16, 1000, false, 1, none, 0⟩ : HelloIn).serial.toNat)) ∧
    ((wRideNodesLinksAndTable1.dev.running 0x2B = true) ∧ (wRideNodesLinksAndTable1.dev.var V.rideRing 0 = 0) ∧ (wRideNodesLinksAndTable1.dev.get F.NT_ID_STATE (5 : Fin 32) = 1) ∧ (wRideNodesLinksAndTable1.dev.get F.NT_PATH_UPNODE (5 : Fin 32) = upNode (none : Option (Fin 32))) ∧ (wRideNodesLinksAndTable1.dev.get F.NT_PATH_UPPORT (5 : Fin 32) = (1 : Fin 4).val)) ∧
    ((wRideNodesLinksAndTable2.dev.running 0x2B = true) ∧ (wRideNodesLinksAndTable2.dev.headPorts.contains (1 : Fin 4).val = true)) ∧
    ((Taken wRideNodesLinksAndTable4 0x2B (⟨8, true⟩ : Acc)) ∧ (wRideNodesLinksAndTable4.dev.running 0x2B = false) ∧ ((false : Bool) = wRideNodesLinksAndTable4.dev.on (if (true : Bool) then F.RIDE_CFG_PDEN else F.RIDE_CFG_PCEN) 0)) ∧
    ((Taken wRideNodesLinksAndTable5 0x2B (⟨8, true⟩ : Acc)) ∧ (wRideNodesLinksAndTable5.dev.running 0x2B = true) ∧ (wRideNodesLinksAndTable5.dev.on (if (true : Bool) then F.RIDE_CFG_PDEN else F.RIDE_CFG_PCEN) 0 ≠ (true : Bool))) ∧
    ((Taken wRideNodesLinksAndTable6 0x2B (⟨8, true⟩ : Acc)) ∧ (wRideNodesLinksAndTable6.dev.get F.NT_ID_STATE (5 : Fin 32) = 2 ∨ wRideNodesLinksAndTable6.dev.get F.NT_ID_STATE (5 : Fin 32) = 3)) := by
  and_intros <;> decide +kernel

/-- A state for clause 1 of SupplyDeadmanIdleAndLimp. -/
abbrev wSupplyDeadmanIdleAndLimp0 : State := st [] [(V.lswTheta, 5, 77), (V.supOn, 3, 1), (V.uptime, 0, 65536000000)]
/-- A state for clause 2 of SupplyDeadmanIdleAndLimp. -/
abbrev wSupplyDeadmanIdleAndLimp1 : State := st [(F.PWR_SUPPLY_SUPLOSS, 0, 1)] []
/-- A state for clause 3 of SupplyDeadmanIdleAndLimp. -/
abbrev wSupplyDeadmanIdleAndLimp2 : State := st [(F.PWR_SUPPLY_SUPLOSS, 0, 1)] [(V.uptime, 0, 65536000000000)]
/-- A state for clause 4 of SupplyDeadmanIdleAndLimp. -/
abbrev wSupplyDeadmanIdleAndLimp3 : State := st [] []
/-- A state for clause 5 of SupplyDeadmanIdleAndLimp. -/
abbrev wSupplyDeadmanIdleAndLimp4 : State := st [] []
/-- A state for clause 6 of SupplyDeadmanIdleAndLimp. -/
abbrev wSupplyDeadmanIdleAndLimp5 : State := st [(F.PWR_DEAD_ARMED, 0, 1)] []
/-- A state for clause 7 of SupplyDeadmanIdleAndLimp. -/
abbrev wSupplyDeadmanIdleAndLimp6 : State := st [(F.PWR_MODE_MODE, 0, 3), (F.PWR_MODE_LADDER, 0, 0), (F.PWR_TIMING_IDLET, 0, 100)] []
/-- A state for clause 8 of SupplyDeadmanIdleAndLimp. -/
abbrev wSupplyDeadmanIdleAndLimp7 : State := st [(F.PWR_MODE_MODE, 0, 3), (F.PWR_MODE_LADDER, 0, 1), (F.SYS_REL_DP, 0, 1)] []
/-- A state for clause 9 of SupplyDeadmanIdleAndLimp. -/
abbrev wSupplyDeadmanIdleAndLimp8 : State := st [(F.PWR_MODE_MODE, 0, 4)] [(V.keeperUp, 0, 1), (V.uptime, 0, 655360000000000)]
/-- A state for clause 10 of SupplyDeadmanIdleAndLimp. -/
abbrev wSupplyDeadmanIdleAndLimp9 : State := st [(F.PWR_MODE_MODE, 0, 5), (F.PWR_MODE_PREV, 0, 4), (F.CLR_PLANE_DATAUP, 0, 1)] [(V.keeperUp, 0, 1), (V.uptime, 0, 65536000000000000)]

/-- The hypotheses of the clauses of SupplyDeadmanIdleAndLimp are met. -/
theorem wit_SupplyDeadmanIdleAndLimp :
    ((wSupplyDeadmanIdleAndLimp0.dev.get F.PWR_SUPPLY_SUPLOSS 0 = 0) ∧ (wSupplyDeadmanIdleAndLimp0.dev.var V.supOn 3 = 1) ∧ (wSupplyDeadmanIdleAndLimp0.dev.passed V.supOnAt 3 100000 = true) ∧ (wSupplyDeadmanIdleAndLimp0.dev.var V.dramGone 0 = 0) ∧ (wSupplyDeadmanIdleAndLimp0.dev.var V.kilnOn 0 ≠ 1) ∧ (wSupplyDeadmanIdleAndLimp0.dev.var V.segPh 0 = 0)) ∧
    ((wSupplyDeadmanIdleAndLimp1.dev.get F.PWR_SUPPLY_SUPLOSS 0 = 1) ∧ (wSupplyDeadmanIdleAndLimp1.dev.var V.modReq 0 = 0) ∧ (wSupplyDeadmanIdleAndLimp1.dev.var V.supOn 3 = 0) ∧ (wSupplyDeadmanIdleAndLimp1.dev.passed V.supAt 0 14900000 = false)) ∧
    ((wSupplyDeadmanIdleAndLimp2.dev.get F.PWR_SUPPLY_SUPLOSS 0 = 1) ∧ (wSupplyDeadmanIdleAndLimp2.dev.passed V.supAt 0 14900000 = true)) ∧
    (((⟨8, true⟩ : Acc).priv = true) ∧ (8 ≤ (⟨8, true⟩ : Acc).bank.val) ∧ ((⟨8, true⟩ : Acc).bank.val ≤ 10)) ∧
    (((⟨7, true⟩ : Acc).priv = false ∨ (⟨7, true⟩ : Acc).bank.val < 8 ∨ 10 < (⟨7, true⟩ : Acc).bank.val)) ∧
    ((wSupplyDeadmanIdleAndLimp5.dev.get F.PWR_DEAD_ARMED 0 = 1) ∧ (wSupplyDeadmanIdleAndLimp5.dev.var V.hbDue 0 ≤ wSupplyDeadmanIdleAndLimp5.dev.var V.uptime 0) ∧ (wSupplyDeadmanIdleAndLimp5.dev.var V.deadOut 0 = 0)) ∧
    ((2 ≤ wSupplyDeadmanIdleAndLimp6.dev.get F.PWR_MODE_MODE 0) ∧ (wSupplyDeadmanIdleAndLimp6.dev.get F.PWR_MODE_LADDER 0 = 0) ∧ (wSupplyDeadmanIdleAndLimp6.dev.get F.PWR_TIMING_IDLET 0 ≠ 0) ∧ (wSupplyDeadmanIdleAndLimp6.dev.fabIdle = true)) ∧
    ((2 ≤ wSupplyDeadmanIdleAndLimp7.dev.get F.PWR_MODE_MODE 0) ∧ (wSupplyDeadmanIdleAndLimp7.dev.get F.PWR_MODE_MODE 0 ≠ 5) ∧ (wSupplyDeadmanIdleAndLimp7.dev.get F.PWR_MODE_LADDER 0 = 1) ∧ (wSupplyDeadmanIdleAndLimp7.dev.get F.SYS_REL_DP 0 = 1)) ∧
    ((wSupplyDeadmanIdleAndLimp8.dev.get F.PWR_MODE_MODE 0 = 3 ∨ wSupplyDeadmanIdleAndLimp8.dev.get F.PWR_MODE_MODE 0 = 4) ∧ (wSupplyDeadmanIdleAndLimp8.dev.get F.CLR_PLANE_DATAUP 0 = 0) ∧ (wSupplyDeadmanIdleAndLimp8.dev.passed V.planeAt 1 (wSupplyDeadmanIdleAndLimp8.dev.limpT * 1000000) = true) ∧ (wSupplyDeadmanIdleAndLimp8.dev.pwrFree = true)) ∧
    ((wSupplyDeadmanIdleAndLimp9.dev.get F.PWR_MODE_MODE 0 = 5) ∧ (wSupplyDeadmanIdleAndLimp9.dev.get F.CLR_PLANE_DATAUP 0 = 1) ∧ (wSupplyDeadmanIdleAndLimp9.dev.passed V.planeAt 1 1000000000 = true) ∧ (wSupplyDeadmanIdleAndLimp9.dev.pwrFree = true) ∧ (wSupplyDeadmanIdleAndLimp9.dev.get F.PWR_MODE_PREV 0 < 5)) := by
  and_intros <;> decide +kernel

/-- A state for clause 1 of ModesWakesAndShutdown. -/
abbrev wModesWakesAndShutdown0 : State := { st [(F.CLR_HDR_LIVE, 328, 1), (F.CLR_PLANE_MGTUP, 0, 1)] [] with dev := { (st [(F.CLR_HDR_LIVE, 328, 1), (F.CLR_PLANE_MGTUP, 0, 1)] []).dev with clrBuf := [((656, 8), 2)] } }
/-- A state for clause 2 of ModesWakesAndShutdown. -/
abbrev wModesWakesAndShutdown1 : State := st [(F.CLR_HDR_LIVE, 328, 1)] []
/-- A state for clause 3 of ModesWakesAndShutdown. -/
abbrev wModesWakesAndShutdown2 : State := { st [(F.CLR_HDR_LIVE, 328, 1), (F.PWR_MODE_MODE, 0, 3), (F.PWR_PERM_C, 20, 1)] [(V.keeperUp, 0, 1)] with dev := { (st [(F.CLR_HDR_LIVE, 328, 1), (F.PWR_MODE_MODE, 0, 3), (F.PWR_PERM_C, 20, 1)] [(V.keeperUp, 0, 1)]).dev with clrBuf := [((656, 8), 1), ((656, 10), 2)] } }
/-- A state for clause 4 of ModesWakesAndShutdown. -/
abbrev wModesWakesAndShutdown3 : State := { st [(F.PWR_CFG_DSLOT, 0, 0), (F.CLR_HDR_LIVE, 344, 1)] [(V.pwrStep, 0, 1)] with dev := { (st [(F.PWR_CFG_DSLOT, 0, 0), (F.CLR_HDR_LIVE, 344, 1)] [(V.pwrStep, 0, 1)]).dev with clrBuf := [((688, 8), 3)] } }
/-- A state for clause 5 of ModesWakesAndShutdown. -/
abbrev wModesWakesAndShutdown4 : State := st [(F.PWR_MODE_MODE, 0, 2)] []
/-- A state for clause 6 of ModesWakesAndShutdown. -/
abbrev wModesWakesAndShutdown5 : State := st [] [(V.line, 0, 1), (V.uptime, 0, 5)]
/-- A state for clause 7 of ModesWakesAndShutdown. -/
abbrev wModesWakesAndShutdown6 : State := st [(F.PWR_MODE_MODE, 0, 1), (F.PWR_MODE_LADDER, 0, 4)] [(V.wakeSnap, 3, 1), (V.canSnap, 16, 1)]
/-- A state for clause 8 of ModesWakesAndShutdown. -/
abbrev wModesWakesAndShutdown7 : State := st [(F.PWR_MODE_MODE, 0, 1), (F.PWR_MODE_LADDER, 0, 4)] [(V.wakeSnap, 4, 1), (V.wakeSnap, 1, 0)]
/-- A state for clause 9 of ModesWakesAndShutdown. -/
abbrev wModesWakesAndShutdown8 : State := st [(F.PWR_MODE_MODE, 0, 1), (F.PWR_MODE_LADDER, 0, 4), (F.PWR_ALARM_ALARM, 0, 5)] [(V.wakeSnap, 5, 1), (V.wakeSnap, 2, 0), (V.grove, 0, 655360)]
/-- A state for clause 10 of ModesWakesAndShutdown. -/
abbrev wModesWakesAndShutdown9 : State := st [(F.PWR_MODE_MODE, 0, 1), (F.PWR_MODE_LADDER, 0, 5)] []
/-- A state for clause 11 of ModesWakesAndShutdown. -/
abbrev wModesWakesAndShutdown10 : State := st [(F.PWR_MODE_LADDER, 0, 3)] [(V.monLad, 0, 4), (V.uptime, 0, 655360000000000000)]
/-- A state for clause 12 of ModesWakesAndShutdown. -/
abbrev wModesWakesAndShutdown11 : State := st [(F.PWR_KEY_KEYOFF_T, 0, 2), (F.PWR_MODE_MODE, 0, 3)] [(V.keyOff, 0, 1), (V.uptime, 0, 655360000000000000)]
/-- A state for clause 13 of ModesWakesAndShutdown. -/
abbrev wModesWakesAndShutdown12 : State := st [(F.PWR_MODE_NOTICE, 0, 1)] [(V.line, 0, 1)]
/-- A state for clause 14 of ModesWakesAndShutdown. -/
abbrev wModesWakesAndShutdown13 : State := st [(F.PWR_MODE_NOTICE, 0, 1), (F.PWR_KEY_SHUT_T, 0, 2), (F.PWR_MODE_MODE, 0, 3)] [(V.keeperUp, 0, 1), (V.uptime, 0, 6553600000000000000)]
/-- A state for clause 15 of ModesWakesAndShutdown. -/
abbrev wModesWakesAndShutdown14 : State := st [] [(V.pwrStep, 0, 1)]
/-- A state for clause 16 of ModesWakesAndShutdown. -/
abbrev wModesWakesAndShutdown15 : State := st [(F.PWR_MODE_PEND, 0, 1), (F.PWR_MODE_MODE, 0, 2), (F.PWR_MODE_LADDER, 0, 1)] [(V.pwrStep, 0, 2), (V.uptime, 0, 655360000000000)]
/-- A state for clause 17 of ModesWakesAndShutdown. -/
abbrev wModesWakesAndShutdown16 : State := st [(F.PWR_MODE_MODE, 0, 1), (F.PWR_MODE_LADDER, 0, 3), (F.PWR_PARK_T3, 0, 1)] [(V.uptime, 0, 6553600000000000000)]
/-- A state for clause 18 of ModesWakesAndShutdown. -/
abbrev wModesWakesAndShutdown17 : State := st [(F.PWR_MODE_MODE, 0, 1), (F.PWR_MODE_LADDER, 0, 4), (F.PWR_PARK_T4, 0, 1)] [(V.uptime, 0, 6553600000000000000)]

/-- The hypotheses of the clauses of ModesWakesAndShutdown are met. -/
theorem wit_ModesWakesAndShutdown :
    ((wModesWakesAndShutdown0.dev.pwrReady (true : Bool) 2 = true) ∧ (wModesWakesAndShutdown0.dev.get F.CLR_PLANE_MGTUP 0 = 1) ∧ (wModesWakesAndShutdown0.dev.get F.PWR_CFG_CSLOT 0 < 8) ∧ (wModesWakesAndShutdown0.dev.get F.PWR_CFG_DSLOT 0 < 8)) ∧
    ((wModesWakesAndShutdown1.dev.cmdNew (wModesWakesAndShutdown1.dev.pwrSlot (true : Bool)) = true) ∧ (pwrBad (wModesWakesAndShutdown1.dev.clrPub (wModesWakesAndShutdown1.dev.pwrSlot (true : Bool))) = true)) ∧
    ((wModesWakesAndShutdown2.dev.pwrReady (true : Bool) 1 = true) ∧ (wModesWakesAndShutdown2.dev.get F.PWR_MODE_PENDV 0 = 0) ∧ (wModesWakesAndShutdown2.dev.var V.keeperUp 0 = 1) ∧ (wModesWakesAndShutdown2.dev.var V.dramGone 0 = 0) ∧ (wModesWakesAndShutdown2.dev.var V.kilnOn 0 = 0) ∧ (wModesWakesAndShutdown2.dev.get F.PWR_SUPPLY_SUPLOSS 0 = 0) ∧ (leAt (wModesWakesAndShutdown2.dev.clrPub (wModesWakesAndShutdown2.dev.pwrSlot (true : Bool))) 10 1 = 2) ∧ (wModesWakesAndShutdown2.dev.get F.PWR_MODE_MODE 0 = 3) ∧ (wModesWakesAndShutdown2.dev.get F.LCS_DBG_LEVEL 0 = 0) ∧ (wModesWakesAndShutdown2.dev.get (if (true : Bool) then F.PWR_PERM_C else F.PWR_PERM_D) (permIx 3 2) = 1)) ∧
    ((wModesWakesAndShutdown3.dev.pwrReady false 3 = true) ∧ (wModesWakesAndShutdown3.dev.var V.pwrStep 0 = 1)) ∧
    ((wModesWakesAndShutdown4.dev.var V.line 0 ≠ 1) ∧ (wModesWakesAndShutdown4.dev.sleeping = false) ∧ (wModesWakesAndShutdown4.dev.var V.dramGone 0 = 0)) ∧
    ((wModesWakesAndShutdown5.dev.var V.line 0 = 1)) ∧
    ((wModesWakesAndShutdown6.dev.napping = true) ∧ (wModesWakesAndShutdown6.dev.var V.wakeSnap 3 = 1) ∧ (wModesWakesAndShutdown6.dev.var V.wakeSnap 0 = 0) ∧ (wModesWakesAndShutdown6.dev.canMatch (2 : Fin 8) (.pattern : CanWakeIn) = some (1 : Nat)) ∧ (wModesWakesAndShutdown6.dev.var V.dramGone 0 = 0)) ∧
    ((wModesWakesAndShutdown7.dev.napping = true) ∧ (wModesWakesAndShutdown7.dev.var V.wakeSnap 4 = 1) ∧ (wModesWakesAndShutdown7.dev.var V.wakeSnap 1 = 0) ∧ (wModesWakesAndShutdown7.dev.var V.dramGone 0 = 0)) ∧
    ((wModesWakesAndShutdown8.dev.get F.PWR_MODE_MODE 0 = 1) ∧ (wModesWakesAndShutdown8.dev.deep = true) ∧ (wModesWakesAndShutdown8.dev.var V.wakeSnap 5 = 1) ∧ (wModesWakesAndShutdown8.dev.var V.wakeSnap 2 = 0) ∧ (wModesWakesAndShutdown8.dev.get F.PWR_ALARM_ALARM 0 ≠ 0) ∧ ((wModesWakesAndShutdown8.dev.get F.PWR_ALARM_ALARM 0 : Int) ≤ wModesWakesAndShutdown8.dev.now) ∧ (wModesWakesAndShutdown8.dev.var V.alarmHit 0 ≠ wModesWakesAndShutdown8.dev.get F.PWR_ALARM_ALARM 0) ∧ (wModesWakesAndShutdown8.dev.var V.dramGone 0 = 0)) ∧
    ((wModesWakesAndShutdown9.dev.get F.PWR_MODE_MODE 0 < 2) ∧ (4 ≤ wModesWakesAndShutdown9.dev.get F.PWR_MODE_LADDER 0)) ∧
    ((wModesWakesAndShutdown10.dev.var V.monLad 0 = 4) ∧ (wModesWakesAndShutdown10.dev.passed V.monAt 0 10000000000 = true) ∧ (wModesWakesAndShutdown10.dev.get F.PWR_MODE_LADDER 0 = 3) ∧ (wModesWakesAndShutdown10.dev.var V.kilnOn 0 = 0) ∧ (wModesWakesAndShutdown10.dev.get F.PWR_MODE_PENDV 0 = 0)) ∧
    ((wModesWakesAndShutdown11.dev.var V.keyOff 0 = 1) ∧ (wModesWakesAndShutdown11.dev.get F.PWR_KEY_KEYOFF_T 0 ≠ 0) ∧ (wModesWakesAndShutdown11.dev.passed V.lineAt 0 (wModesWakesAndShutdown11.dev.get F.PWR_KEY_KEYOFF_T 0 * 1000000000) = true) ∧ (2 ≤ wModesWakesAndShutdown11.dev.get F.PWR_MODE_MODE 0) ∧ (wModesWakesAndShutdown11.dev.var V.pwrStep 0 = 0)) ∧
    ((wModesWakesAndShutdown12.dev.get F.PWR_MODE_NOTICE 0 = 1) ∧ (wModesWakesAndShutdown12.dev.var V.line 0 = 1)) ∧
    ((wModesWakesAndShutdown13.dev.get F.PWR_MODE_NOTICE 0 = 1) ∧ (wModesWakesAndShutdown13.dev.get F.PWR_KEY_SHUT_T 0 ≠ 0) ∧ (wModesWakesAndShutdown13.dev.passed V.noticeAt 0 (wModesWakesAndShutdown13.dev.get F.PWR_KEY_SHUT_T 0 * 1000000000) = true) ∧ (wModesWakesAndShutdown13.dev.pwrFree = true) ∧ (wModesWakesAndShutdown13.dev.get F.PWR_MODE_MODE 0 = 3) ∧ (wModesWakesAndShutdown13.dev.var V.kilnOn 0 = 0)) ∧
    ((wModesWakesAndShutdown14.dev.var V.pwrStep 0 = 1) ∧ (wModesWakesAndShutdown14.dev.passed V.pwrAt 0 (wModesWakesAndShutdown14.dev.var V.pwrGrace 0 * 1000000) = true)) ∧
    ((wModesWakesAndShutdown15.dev.var V.pwrStep 0 = 2) ∧ (wModesWakesAndShutdown15.dev.passed V.pwrAt 0 100000000 = true) ∧ (wModesWakesAndShutdown15.dev.var V.segPh 0 = 0) ∧ (wModesWakesAndShutdown15.dev.var V.wakePend 0 = 0) ∧ (wModesWakesAndShutdown15.dev.get F.PWR_MODE_PEND 0 = 1) ∧ (wModesWakesAndShutdown15.dev.keeperAway = false) ∧ (wModesWakesAndShutdown15.dev.var V.dramGone 0 = 0) ∧ (wModesWakesAndShutdown15.dev.get F.PWR_MODE_LADDER 0 < 3)) ∧
    ((wModesWakesAndShutdown16.dev.get F.PWR_MODE_MODE 0 = 1) ∧ (wModesWakesAndShutdown16.dev.get F.PWR_MODE_PENDV 0 = 0) ∧ (wModesWakesAndShutdown16.dev.var V.kilnOn 0 = 0) ∧ (wModesWakesAndShutdown16.dev.var V.monLad 0 = 0) ∧ (wModesWakesAndShutdown16.dev.get F.PWR_MODE_LADDER 0 = 3) ∧ (wModesWakesAndShutdown16.dev.passed V.ladAt 0 (wModesWakesAndShutdown16.dev.get F.PWR_PARK_T3 0 * 60000000000) = true)) ∧
    ((wModesWakesAndShutdown17.dev.get F.PWR_MODE_MODE 0 = 1) ∧ (wModesWakesAndShutdown17.dev.get F.PWR_MODE_PENDV 0 = 0) ∧ (wModesWakesAndShutdown17.dev.var V.kilnOn 0 = 0) ∧ (wModesWakesAndShutdown17.dev.var V.monLad 0 = 0) ∧ (wModesWakesAndShutdown17.dev.get F.PWR_MODE_LADDER 0 = 4) ∧ (wModesWakesAndShutdown17.dev.get F.PWR_PARK_T4 0 ≠ 0) ∧ (wModesWakesAndShutdown17.dev.passed V.ladAt 0 (wModesWakesAndShutdown17.dev.get F.PWR_PARK_T4 0 * 60000000000) = true)) := by
  and_intros <;> decide +kernel

/-- A state for clause 2 of DramErrorsAndIommuCommands. -/
abbrev wDramErrorsAndIommuCommands1 : State := st [(F.COM_STAT_RUN, 0x08, 1)] []
/-- A state for clause 3 of DramErrorsAndIommuCommands. -/
abbrev wDramErrorsAndIommuCommands2 : State := st [(F.COM_STAT_RUN, 0x08, 1), (F.MEM_ECC_CFG_SCRUBEN, 0, 1), (F.MEM_DRAM_TRAINED, 0, 1)] [(V.scrubAt, 0, 5)]
/-- A state for clause 4 of DramErrorsAndIommuCommands. -/
abbrev wDramErrorsAndIommuCommands3 : State := st [(F.PWR_MODE_LADDER, 0, 1)] [(V.dramWait, 0, 1)]
/-- A state for clause 5 of DramErrorsAndIommuCommands. -/
abbrev wDramErrorsAndIommuCommands4 : State := st [(F.IOMU_FQCSR_FQON, 0, 1), (F.IOMU_FQB_V, 0, 0x40000004)] []
/-- A state for clause 6 of DramErrorsAndIommuCommands. -/
abbrev wDramErrorsAndIommuCommands5 : State := { st [(F.IOMU_FQCSR_FQON, 0, 1)] [] with dev := { (st [(F.IOMU_FQCSR_FQON, 0, 1)] []).dev with ddc := [(7, [16])] } }
/-- A state for clause 7 of DramErrorsAndIommuCommands. -/
abbrev wDramErrorsAndIommuCommands6 : State := { st [(F.IOMU_CQCSR_CQON, 0, 1), (F.IOMU_CQB_V, 0, 0x40000004), (F.IOMU_CQT_V, 0, 1)] [] with mem := [(0x100000000, 1)] }
/-- A state for clause 8 of DramErrorsAndIommuCommands. -/
abbrev wDramErrorsAndIommuCommands7 : State := { st [(F.IOMU_CQCSR_CQON, 0, 1), (F.IOMU_CQB_V, 0, 0x40000004), (F.IOMU_CQT_V, 0, 1)] [] with mem := [(0x100000000, 129)] }
/-- A state for clause 9 of DramErrorsAndIommuCommands. -/
abbrev wDramErrorsAndIommuCommands8 : State := { st [(F.IOMU_CQCSR_CQON, 0, 1), (F.IOMU_CQB_V, 0, 0x40000004), (F.IOMU_CQT_V, 0, 1)] [] with mem := [(0x100000000, 3)] }
/-- A state for clause 10 of DramErrorsAndIommuCommands. -/
abbrev wDramErrorsAndIommuCommands9 : State := { st [(F.IOMU_CQCSR_CQON, 0, 1), (F.IOMU_CQB_V, 0, 0x40000004), (F.IOMU_CQT_V, 0, 1)] [] with mem := [(0x100000000, 2), (0x100000001, 4), (0x100000004, 5), (0x100000008, 0x10), (0x10000000B, 0x40)] }

/-- The hypotheses of the clauses of DramErrorsAndIommuCommands are met. -/
theorem wit_DramErrorsAndIommuCommands :
    ((inDram ((0x8000005 : BitVec 35).toNat * 32) = true) ∧ (wDramErrorsAndIommuCommands1.dev.poisoned ((0x8000005 : BitVec 35).toNat * 32) = false)) ∧
    ((wDramErrorsAndIommuCommands2.dev.running 0x08 = true) ∧ (wDramErrorsAndIommuCommands2.dev.get F.MEM_ECC_CFG_SCRUBEN 0 = 1) ∧ (wDramErrorsAndIommuCommands2.dev.get F.MEM_DRAM_TRAINED 0 = 1) ∧ (wDramErrorsAndIommuCommands2.dev.get F.MEM_DRAM_SELFREF 0 = 0) ∧ (wDramErrorsAndIommuCommands2.dev.scrubDue = true)) ∧
    ((wDramErrorsAndIommuCommands3.dev.get F.PWR_MODE_LADDER 0 < 2) ∧ (wDramErrorsAndIommuCommands3.dev.var V.dramWait 0 ≠ 0)) ∧
    ((wDramErrorsAndIommuCommands4.dev.get F.IOMU_FQCSR_FQON 0 = 1) ∧ (wDramErrorsAndIommuCommands4.dev.get F.IOMU_FQCSR_FQOF 0 = 0) ∧ (wDramErrorsAndIommuCommands4.dev.get F.IOMU_FQCSR_FQMF 0 = 0) ∧ (256 ≤ (0 : BitVec 12).toNat ∨ wDramErrorsAndIommuCommands4.dev.ddc.all (fun e => !tbit (e.2.getD 0 0) 4) = true) ∧ ((wDramErrorsAndIommuCommands4.dev.get F.IOMU_FQT_V 0 + 1) % 2 ^ (wDramErrorsAndIommuCommands4.dev.get F.IOMU_FQB_V 0 % 32 + 1) ≠ wDramErrorsAndIommuCommands4.dev.get F.IOMU_FQH_V 0 % 2 ^ (wDramErrorsAndIommuCommands4.dev.get F.IOMU_FQB_V 0 % 32 + 1)) ∧ (inDram (wDramErrorsAndIommuCommands4.dev.get F.IOMU_FQB_V 0 / 1024 % 2 ^ 44 * 4096 + wDramErrorsAndIommuCommands4.dev.get F.IOMU_FQT_V 0 * 32) = true)) ∧
    (((13 : BitVec 12).toNat < 256) ∧ (wDramErrorsAndIommuCommands5.dev.ddc.find? (fun e => e.1 == (7 : BitVec 12).toNat) = some ((7, [16]) : Nat × List Nat)) ∧ (tbit (((7, [16]) : Nat × List Nat).2.getD 0 0) 4 = true)) ∧
    ((wDramErrorsAndIommuCommands6.dev.get F.IOMU_CQCSR_CQON 0 = 1) ∧ (wDramErrorsAndIommuCommands6.dev.get F.IOMU_CQCSR_CMD_ILL 0 = 0) ∧ (wDramErrorsAndIommuCommands6.dev.get F.IOMU_CQCSR_CQMF 0 = 0) ∧ (wDramErrorsAndIommuCommands6.dev.get F.IOMU_CQH_V 0 ≠ wDramErrorsAndIommuCommands6.dev.get F.IOMU_CQT_V 0) ∧ (wDramErrorsAndIommuCommands6.walkRead (wDramErrorsAndIommuCommands6.dev.get F.IOMU_CQB_V 0 / 1024 % 2 ^ 44 * 4096 + 16 * wDramErrorsAndIommuCommands6.dev.get F.IOMU_CQH_V 0) = some (1 : Nat)) ∧ (wDramErrorsAndIommuCommands6.walkRead (wDramErrorsAndIommuCommands6.dev.get F.IOMU_CQB_V 0 / 1024 % 2 ^ 44 * 4096 + 16 * wDramErrorsAndIommuCommands6.dev.get F.IOMU_CQH_V 0 + 8) = some (0 : Nat)) ∧ (iommuCmdOf (1 : Nat) = some 0)) ∧
    ((wDramErrorsAndIommuCommands7.dev.get F.IOMU_CQCSR_CQON 0 = 1) ∧ (wDramErrorsAndIommuCommands7.dev.get F.IOMU_CQCSR_CMD_ILL 0 = 0) ∧ (wDramErrorsAndIommuCommands7.dev.get F.IOMU_CQCSR_CQMF 0 = 0) ∧ (wDramErrorsAndIommuCommands7.dev.get F.IOMU_CQH_V 0 ≠ wDramErrorsAndIommuCommands7.dev.get F.IOMU_CQT_V 0) ∧ (wDramErrorsAndIommuCommands7.walkRead (wDramErrorsAndIommuCommands7.dev.get F.IOMU_CQB_V 0 / 1024 % 2 ^ 44 * 4096 + 16 * wDramErrorsAndIommuCommands7.dev.get F.IOMU_CQH_V 0) = some (129 : Nat)) ∧ (wDramErrorsAndIommuCommands7.walkRead (wDramErrorsAndIommuCommands7.dev.get F.IOMU_CQB_V 0 / 1024 % 2 ^ 44 * 4096 + 16 * wDramErrorsAndIommuCommands7.dev.get F.IOMU_CQH_V 0 + 8) = some (0 : Nat)) ∧ (iommuCmdOf (129 : Nat) = some 1)) ∧
    ((wDramErrorsAndIommuCommands8.dev.get F.IOMU_CQCSR_CQON 0 = 1) ∧ (wDramErrorsAndIommuCommands8.dev.get F.IOMU_CQCSR_CMD_ILL 0 = 0) ∧ (wDramErrorsAndIommuCommands8.dev.get F.IOMU_CQCSR_CQMF 0 = 0) ∧ (wDramErrorsAndIommuCommands8.dev.get F.IOMU_CQH_V 0 ≠ wDramErrorsAndIommuCommands8.dev.get F.IOMU_CQT_V 0) ∧ (wDramErrorsAndIommuCommands8.walkRead (wDramErrorsAndIommuCommands8.dev.get F.IOMU_CQB_V 0 / 1024 % 2 ^ 44 * 4096 + 16 * wDramErrorsAndIommuCommands8.dev.get F.IOMU_CQH_V 0) = some (3 : Nat)) ∧ (wDramErrorsAndIommuCommands8.walkRead (wDramErrorsAndIommuCommands8.dev.get F.IOMU_CQB_V 0 / 1024 % 2 ^ 44 * 4096 + 16 * wDramErrorsAndIommuCommands8.dev.get F.IOMU_CQH_V 0 + 8) = some (0 : Nat)) ∧ (iommuCmdOf (3 : Nat) = some 2)) ∧
    ((wDramErrorsAndIommuCommands9.dev.get F.IOMU_CQCSR_CQON 0 = 1) ∧ (wDramErrorsAndIommuCommands9.dev.get F.IOMU_CQCSR_CMD_ILL 0 = 0) ∧ (wDramErrorsAndIommuCommands9.dev.get F.IOMU_CQCSR_CQMF 0 = 0) ∧ (wDramErrorsAndIommuCommands9.dev.get F.IOMU_CQH_V 0 ≠ wDramErrorsAndIommuCommands9.dev.get F.IOMU_CQT_V 0) ∧ (wDramErrorsAndIommuCommands9.walkRead (wDramErrorsAndIommuCommands9.dev.get F.IOMU_CQB_V 0 / 1024 % 2 ^ 44 * 4096 + 16 * wDramErrorsAndIommuCommands9.dev.get F.IOMU_CQH_V 0) = some (0x500000402 : Nat)) ∧ (wDramErrorsAndIommuCommands9.walkRead (wDramErrorsAndIommuCommands9.dev.get F.IOMU_CQB_V 0 / 1024 % 2 ^ 44 * 4096 + 16 * wDramErrorsAndIommuCommands9.dev.get F.IOMU_CQH_V 0 + 8) = some (0x40000010 : Nat)) ∧ (iommuCmdOf (0x500000402 : Nat) = some 3) ∧ (tbit (0x500000402 : Nat) 10 = true) ∧ (inDram ((0x40000010 : Nat) % 2 ^ 62 * 4) = true) ∧ (wDramErrorsAndIommuCommands9.dev.poisoned ((0x40000010 : Nat) % 2 ^ 62 * 4) = false)) := by
  and_intros <;> decide +kernel

/-- A state for clause 1 of DmaChannelsRunParkAndEnd. -/
abbrev wDmaChannelsRunParkAndEnd0 : State := st [(F.DMA_CH_DESC_DESC, 0, 0x100000040)] []
/-- A state for clause 2 of DmaChannelsRunParkAndEnd. -/
abbrev wDmaChannelsRunParkAndEnd1 : State := { st [(F.COM_STAT_RUN, 0x0A, 1), (F.DMA_CH_STAT_STATE, 2, 1), (F.DMA_CH_CUR_CUR, 2, 0x100000000), (F.IOMU_DDTP_V, 0, 1)] [] with mem := [(0x100000004, 4)] }
/-- A state for clause 3 of DmaChannelsRunParkAndEnd. -/
abbrev wDmaChannelsRunParkAndEnd2 : State := { st [(F.COM_STAT_RUN, 0x0A, 1), (F.DMA_CH_STAT_STATE, 2, 1), (F.IOMU_DDTP_V, 0, 1)] [] with dev := { (st [(F.COM_STAT_RUN, 0x0A, 1), (F.DMA_CH_STAT_STATE, 2, 1), (F.IOMU_DDTP_V, 0, 1)] []).dev with dmaCh := [((0, 2), { DmaChan.none_ with fetched := true, len := 4, rows := 1, dst := 0x100000000, held := [1, 2, 3, 4], read := 4 })] } }
/-- A state for clause 4 of DmaChannelsRunParkAndEnd. -/
abbrev wDmaChannelsRunParkAndEnd3 : State := { st [(F.COM_STAT_RUN, 0x0A, 1), (F.DMA_CH_STAT_STATE, 2, 1), (F.IOMU_DDTP_V, 0, 1)] [] with mem := [(0x100000000, 7)], dev.dmaCh := [((0, 2), { DmaChan.none_ with fetched := true, len := 4, rows := 1, src := 0x100000000, dst := 0x100001000 })] }
/-- A state for clause 5 of DmaChannelsRunParkAndEnd. -/
abbrev wDmaChannelsRunParkAndEnd4 : State := { st [(F.DMA_CH_STAT_STATE, 5, 1)] [] with dev := { (st [(F.DMA_CH_STAT_STATE, 5, 1)] []).dev with dmaBad := [(5, ⟨3, 0, true, 9, DmaChan.none_⟩)] } }
/-- A state for clause 6 of DmaChannelsRunParkAndEnd. -/
abbrev wDmaChannelsRunParkAndEnd5 : State := { st [(F.DMA_CH_STAT_STATE, 5, 2)] [] with dev := { (st [(F.DMA_CH_STAT_STATE, 5, 2)] []).dev with dmaBad := [(69, ⟨3, 0, true, 9, DmaChan.none_⟩)] } }
/-- A state for clause 7 of DmaChannelsRunParkAndEnd. -/
abbrev wDmaChannelsRunParkAndEnd6 : State := { st [(F.DMA_CH_STAT_STATE, 5, 1)] [] with dev := { (st [(F.DMA_CH_STAT_STATE, 5, 1)] []).dev with dmaCh := [((0, 5), { DmaChan.none_ with ended := true, nextD := 128 })] } }
/-- A state for clause 8 of DmaChannelsRunParkAndEnd. -/
abbrev wDmaChannelsRunParkAndEnd7 : State := { st [(F.DMA_CH_STAT_STATE, 5, 1), (F.DMA_CH_CFG_OWNER, 5, 1)] [] with dev := { (st [(F.DMA_CH_STAT_STATE, 5, 1), (F.DMA_CH_CFG_OWNER, 5, 1)] []).dev with bytes := [((43, 5), lineEntry 2 0x100000000 [7,8] ++ [1])], dmaCh := [((0, 5), { DmaChan.none_ with ended := true })] } }
/-- A state for clause 9 of DmaChannelsRunParkAndEnd. -/
abbrev wDmaChannelsRunParkAndEnd8 : State := { st [(F.DMA_CH_STAT_STATE, 0, 3), (F.DMA_CH_FREC_KIND, 0, 1)] [] with dev := { (st [(F.DMA_CH_STAT_STATE, 0, 3), (F.DMA_CH_FREC_KIND, 0, 1)] []).dev with dmaCh := [((0, 0), { DmaChan.none_ with ctrl := 512 })] } }
/-- A state for clause 10 of DmaChannelsRunParkAndEnd. -/
abbrev wDmaChannelsRunParkAndEnd9 : State := st [(F.DMA_CH_STAT_STATE, 0, 3)] []
/-- A state for clause 11 of DmaChannelsRunParkAndEnd. -/
abbrev wDmaChannelsRunParkAndEnd10 : State := st [(F.DMA_CH_STAT_STATE, 0, 3)] []
/-- A state for clause 12 of DmaChannelsRunParkAndEnd. -/
abbrev wDmaChannelsRunParkAndEnd11 : State := st [(F.DMA_CH_STAT_STATE, 5, 4)] []
/-- A state for clause 13 of DmaChannelsRunParkAndEnd. -/
abbrev wDmaChannelsRunParkAndEnd12 : State := st [(F.DMA_ENG_STAT_MAXINF, 2, 9)] []

/-- The hypotheses of the clauses of DmaChannelsRunParkAndEnd are met. -/
theorem wit_DmaChannelsRunParkAndEnd :
    ((Taken wDmaChannelsRunParkAndEnd0 0x0A (⟨0, true⟩ : Acc)) ∧ ((wDmaChannelsRunParkAndEnd0.dev.chSel 0x0A (⟨0, true⟩ : Acc)) < 64) ∧ (wDmaChannelsRunParkAndEnd0.dev.get F.DMA_CH_STAT_STATE (wDmaChannelsRunParkAndEnd0.dev.chSel 0x0A (⟨0, true⟩ : Acc)) = 0) ∧ (wDmaChannelsRunParkAndEnd0.dev.get F.DMA_CH_CFG_OWNER (wDmaChannelsRunParkAndEnd0.dev.chSel 0x0A (⟨0, true⟩ : Acc)) = 0)) ∧
    ((wDmaChannelsRunParkAndEnd1.dev.running 0x0A = true) ∧ (wDmaChannelsRunParkAndEnd1.dev.dmaWinner (0 : Fin 4) = some (2 : Fin 64).val) ∧ (((wDmaChannelsRunParkAndEnd1.dmaWin (0 : Fin 4) (2 : Fin 64)).dev.chan (2 : Fin 64)).fetched = false) ∧ (((wDmaChannelsRunParkAndEnd1.dmaWin (0 : Fin 4) (2 : Fin 64)).dmaRead (2 : Fin 64) ((wDmaChannelsRunParkAndEnd1.dmaWin (0 : Fin 4) (2 : Fin 64)).dev.get F.DMA_CH_CUR_CUR (2 : Fin 64)) 64).2 = .ok ([0,0,0,0,4]++List.replicate 59 0 : List Nat)) ∧ (descBad ([0,0,0,0,4]++List.replicate 59 0 : List Nat) = false)) ∧
    ((wDmaChannelsRunParkAndEnd2.dev.running 0x0A = true) ∧ (wDmaChannelsRunParkAndEnd2.dev.dmaWinner (0 : Fin 4) = some (2 : Fin 64).val) ∧ ((wDmaChannelsRunParkAndEnd2.dev.chan (2 : Fin 64)).fetched = true) ∧ (0 < (wDmaChannelsRunParkAndEnd2.dev.chan (2 : Fin 64)).ready) ∧ (((wDmaChannelsRunParkAndEnd2.dmaWin (0 : Fin 4) (2 : Fin 64)).dmaWrite (2 : Fin 64) (wDmaChannelsRunParkAndEnd2.dev.chan (2 : Fin 64)).dstAt ((wDmaChannelsRunParkAndEnd2.dev.chan (2 : Fin 64)).burst (wDmaChannelsRunParkAndEnd2.dev.chan (2 : Fin 64)).ready)).2 = none)) ∧
    ((wDmaChannelsRunParkAndEnd3.dev.running 0x0A = true) ∧ (wDmaChannelsRunParkAndEnd3.dev.dmaWinner (0 : Fin 4) = some (2 : Fin 64).val) ∧ ((wDmaChannelsRunParkAndEnd3.dev.chan (2 : Fin 64)).fetched = true) ∧ ((wDmaChannelsRunParkAndEnd3.dev.chan (2 : Fin 64)).ready = 0) ∧ (((wDmaChannelsRunParkAndEnd3.dmaWin (0 : Fin 4) (2 : Fin 64)).dmaRead (2 : Fin 64) (wDmaChannelsRunParkAndEnd3.dev.chan (2 : Fin 64)).srcAt (min (256 - (wDmaChannelsRunParkAndEnd3.dev.chan (2 : Fin 64)).srcAt % 256) ((wDmaChannelsRunParkAndEnd3.dev.chan (2 : Fin 64)).len - (wDmaChannelsRunParkAndEnd3.dev.chan (2 : Fin 64)).read))).2 = .ok ([7, 0, 0, 0] : List Nat))) ∧
    ((wDmaChannelsRunParkAndEnd4.dev.dmaOut (5 : Fin 64) = [(⟨3, 0, true, 9, DmaChan.none_⟩ : DmaPoint)]) ∧ (wDmaChannelsRunParkAndEnd4.dev.get F.DMA_CH_STAT_STATE (5 : Fin 64) = 1)) ∧
    ((wDmaChannelsRunParkAndEnd5.dev.parkAt (5 : Fin 64) = some (⟨3, 0, true, 9, DmaChan.none_⟩ : DmaPoint)) ∧ (wDmaChannelsRunParkAndEnd5.dev.get F.DMA_CH_STAT_STATE (5 : Fin 64) = 2) ∧ (wDmaChannelsRunParkAndEnd5.dev.dmaOut (5 : Fin 64) = [])) ∧
    ((wDmaChannelsRunParkAndEnd6.dev.get F.DMA_CH_STAT_STATE (5 : Fin 64) = 1) ∧ ((wDmaChannelsRunParkAndEnd6.dev.chan (5 : Fin 64)).ended = true) ∧ (wDmaChannelsRunParkAndEnd6.dev.dmaOut (5 : Fin 64) = []) ∧ (tbit (wDmaChannelsRunParkAndEnd6.dev.chan (5 : Fin 64)).ctrl 11 = false) ∧ (wDmaChannelsRunParkAndEnd6.dev.get F.DMA_CH_CFG_OWNER (5 : Fin 64) = 0) ∧ (tbit (wDmaChannelsRunParkAndEnd6.dev.chan (5 : Fin 64)).ctrl 9 = false)) ∧
    ((wDmaChannelsRunParkAndEnd7.dev.get F.DMA_CH_STAT_STATE (5 : Fin 64) = 1) ∧ ((wDmaChannelsRunParkAndEnd7.dev.chan (5 : Fin 64)).ended = true) ∧ (wDmaChannelsRunParkAndEnd7.dev.dmaOut (5 : Fin 64) = []) ∧ (wDmaChannelsRunParkAndEnd7.dev.on F.DMA_CH_CFG_OWNER (5 : Fin 64) = true) ∧ (wDmaChannelsRunParkAndEnd7.dev.blob 43 (5 : Fin 64) = lineEntry (2 : Fin 6) (0x100000000 : Nat) ([7,8] : List Nat) ++ ([1] : List Nat)) ∧ ((0x100000000 : Nat) < 2 ^ 64) ∧ (([7,8] : List Nat).length < 2 ^ 32)) ∧
    ((Taken wDmaChannelsRunParkAndEnd8 0x0A (⟨0, true⟩ : Acc)) ∧ ((wDmaChannelsRunParkAndEnd8.dev.chSel 0x0A (⟨0, true⟩ : Acc)) < 64) ∧ (wDmaChannelsRunParkAndEnd8.dev.get F.DMA_CH_STAT_STATE (wDmaChannelsRunParkAndEnd8.dev.chSel 0x0A (⟨0, true⟩ : Acc)) = 3) ∧ (wDmaChannelsRunParkAndEnd8.dev.get F.DMA_CH_FREC_KIND (wDmaChannelsRunParkAndEnd8.dev.chSel 0x0A (⟨0, true⟩ : Acc)) ≠ 5) ∧ ((wDmaChannelsRunParkAndEnd8.dev.on F.DMA_CH_CFG_OWNER (wDmaChannelsRunParkAndEnd8.dev.chSel 0x0A (⟨0, true⟩ : Acc)) = false ∧ tbit (wDmaChannelsRunParkAndEnd8.dev.chan (wDmaChannelsRunParkAndEnd8.dev.chSel 0x0A (⟨0, true⟩ : Acc))).ctrl 11 = false ∧ tbit (wDmaChannelsRunParkAndEnd8.dev.chan (wDmaChannelsRunParkAndEnd8.dev.chSel 0x0A (⟨0, true⟩ : Acc))).ctrl 9 = true) ∨ (wDmaChannelsRunParkAndEnd8.dev.on F.DMA_CH_CFG_OWNER (wDmaChannelsRunParkAndEnd8.dev.chSel 0x0A (⟨0, true⟩ : Acc)) = true ∧ wDmaChannelsRunParkAndEnd8.dev.blob 43 (wDmaChannelsRunParkAndEnd8.dev.chSel 0x0A (⟨0, true⟩ : Acc)) = []))) ∧
    ((Taken wDmaChannelsRunParkAndEnd9 0x0A (⟨0, true⟩ : Acc)) ∧ ((wDmaChannelsRunParkAndEnd9.dev.chSel 0x0A (⟨0, true⟩ : Acc)) < 64) ∧ (wDmaChannelsRunParkAndEnd9.dev.get F.DMA_CH_STAT_STATE (wDmaChannelsRunParkAndEnd9.dev.chSel 0x0A (⟨0, true⟩ : Acc)) = 3) ∧ (wDmaChannelsRunParkAndEnd9.dev.get F.DMA_CH_CFG_OWNER (wDmaChannelsRunParkAndEnd9.dev.chSel 0x0A (⟨0, true⟩ : Acc)) = 0) ∧ (wDmaChannelsRunParkAndEnd9.dev.get F.DMA_CH_FREC_KIND (wDmaChannelsRunParkAndEnd9.dev.chSel 0x0A (⟨0, true⟩ : Acc)) ≠ 5) ∧ (wDmaChannelsRunParkAndEnd9.dev.get F.DMA_CH_FREC_KIND (wDmaChannelsRunParkAndEnd9.dev.chSel 0x0A (⟨0, true⟩ : Acc)) ≠ 6)) ∧
    ((Taken wDmaChannelsRunParkAndEnd10 0x0A (⟨0, true⟩ : Acc)) ∧ ((wDmaChannelsRunParkAndEnd10.dev.chSel 0x0A (⟨0, true⟩ : Acc)) < 64) ∧ (wDmaChannelsRunParkAndEnd10.dev.get F.DMA_CH_STAT_STATE (wDmaChannelsRunParkAndEnd10.dev.chSel 0x0A (⟨0, true⟩ : Acc)) = 3 ∨ wDmaChannelsRunParkAndEnd10.dev.get F.DMA_CH_STAT_STATE (wDmaChannelsRunParkAndEnd10.dev.chSel 0x0A (⟨0, true⟩ : Acc)) = 1) ∧ (wDmaChannelsRunParkAndEnd10.dev.on F.DMA_CH_CFG_OWNER (wDmaChannelsRunParkAndEnd10.dev.chSel 0x0A (⟨0, true⟩ : Acc)) = false ∨ wDmaChannelsRunParkAndEnd10.dev.blob 43 (wDmaChannelsRunParkAndEnd10.dev.chSel 0x0A (⟨0, true⟩ : Acc)) = [])) ∧
    ((wDmaChannelsRunParkAndEnd11.dev.get F.DMA_CH_STAT_STATE (5 : Fin 64) = 4) ∧ (wDmaChannelsRunParkAndEnd11.dev.on F.DMA_CH_CFG_OWNER (5 : Fin 64) = false ∨ wDmaChannelsRunParkAndEnd11.dev.blob 43 (5 : Fin 64) = [])) ∧
    ((Taken wDmaChannelsRunParkAndEnd12 0x0A (⟨0, true⟩ : Acc))) := by
  and_intros <;> decide +kernel

/-- A state for clause 1 of ModuleResetBootAndReleases. -/
abbrev wModuleResetBootAndReleases0 : State := st [(F.SYS_REL_PA, 0, 1), (F.PWR_MODE_MODE, 0, 3)] [(V.keeperUp, 0, 1)]
/-- A state for clause 2 of ModuleResetBootAndReleases. -/
abbrev wModuleResetBootAndReleases1 : State := st [] [(V.supOn, 2, 1), (V.uptime, 0, 655360000000000)]
/-- A state for clause 3 of ModuleResetBootAndReleases. -/
abbrev wModuleResetBootAndReleases2 : State := st [] [(V.lcSt, 0, 2), (V.supOn, 2, 1), (V.uptime, 0, 655360000000000)]
/-- A state for clause 4 of ModuleResetBootAndReleases. -/
abbrev wModuleResetBootAndReleases3 : State := { st [(F.PWR_MODE_MODE, 0, 2), (F.SYS_BOOT_SLOT, 0, 3), (F.UPD_SL_STAT_ST, 0, 5)] [(V.lcSt, 0, 2), (V.supOn, 2, 1), (V.uptime, 0, 655360000000000)] with otp.oemProg := 1, dev.bytes := [((1, norIx 0 0), [0x4B, 0x43, 0x50, 0x4D, 1, 0, 9, 0, 0x50, 1, 0, 0] ++ List.replicate 20 0 ++ [1] ++ List.replicate 127 0 ++ [4] ++ List.replicate 11 0 ++ [1])] }
/-- A state for clause 5 of ModuleResetBootAndReleases. -/
abbrev wModuleResetBootAndReleases4 : State := { st [(F.SYS_BOOT_SLOT, 0, 0), (F.PWR_MODE_MODE, 0, 2)] [(V.keeperUp, 0, 1), (V.cpLoad, 0, 1), (V.lcSt, 0, 2)] with otp.oemProg := 1, dev.bytes := [((1, norIx 0 0), [0x4B, 0x43, 0x50, 0x4D, 1, 0, 9, 0, 0x50, 1, 0, 0] ++ List.replicate 20 0 ++ [1] ++ List.replicate 127 0 ++ [4] ++ List.replicate 11 0 ++ [1])] }
/-- A state for clause 6 of ModuleResetBootAndReleases. -/
abbrev wModuleResetBootAndReleases5 : State := { st [(F.SYS_BOOT_SLOT, 0, 0), (F.PWR_MODE_MODE, 0, 2), (F.SYS_REL_PA, 0, 1)] [(V.keeperUp, 0, 1), (V.dpLoad, 0, 1), (V.dramWait, 0, 0), (V.lcSt, 0, 2)] with otp.oemProg := 1, dev.bytes := [((1, norIx 0 0), [0x4B, 0x43, 0x50, 0x4D, 1, 0, 9, 0, 0x50, 1, 0, 0] ++ List.replicate 20 0 ++ [1] ++ List.replicate 127 0 ++ [4] ++ List.replicate 11 0 ++ [1])] }
/-- A state for clause 7 of ModuleResetBootAndReleases. -/
abbrev wModuleResetBootAndReleases6 : State := { st [(F.SYS_BOOT_SLOT, 0, 0), (F.SYS_BOOT_DONE, 0, 1), (F.PWR_MODE_MODE, 0, 2), (F.SYS_REL_PA, 0, 1)] [(V.keeperUp, 0, 1), (V.dpLoad, 0, 1), (V.dramWait, 0, 0), (V.lcSt, 0, 2)] with otp.oemProg := 1, dev.bytes := [((1, norIx 0 0), [0x4B, 0x43, 0x50, 0x4D, 1, 0, 9, 0, 0x50, 1, 0, 0] ++ List.replicate 20 0 ++ [1] ++ List.replicate 127 0 ++ [4] ++ List.replicate 11 0 ++ [1])] }
/-- A state for clause 8 of ModuleResetBootAndReleases. -/
abbrev wModuleResetBootAndReleases7 : State := st [(F.SYS_BOOT_SLOT, 0, 0), (F.PWR_MODE_MODE, 0, 2)] [(V.keeperUp, 0, 1), (V.cpLoad, 0, 1)]
/-- A state for clause 9 of ModuleResetBootAndReleases. -/
abbrev wModuleResetBootAndReleases8 : State := { st [(F.SYS_BOOT_SLOT, 0, 0), (F.PWR_MODE_MODE, 0, 2), (F.SYS_REL_PA, 0, 1)] [(V.keeperUp, 0, 1), (V.dpLoad, 0, 1), (V.dramWait, 0, 0), (V.lcSt, 0, 2)] with otp.oemProg := 1, dev.bytes := [((1, norIx 0 0), [0x4B, 0x43, 0x50, 0x4D, 1, 0, 9, 0, 0x50, 1, 0, 0, 2] ++ List.replicate 19 0 ++ [1] ++ List.replicate 127 0 ++ [4] ++ List.replicate 11 0 ++ [1, 0, 0, 0, 2])] }
/-- A state for clause 10 of ModuleResetBootAndReleases. -/
abbrev wModuleResetBootAndReleases9 : State := st [(F.SYS_REL_PA, 0, 1), (F.LSW_CH_CFG_EN, 3, 1)] [(V.cpReq, 0, 5)]
/-- A state for clause 11 of ModuleResetBootAndReleases. -/
abbrev wModuleResetBootAndReleases10 : State := st [(F.SYS_REL_DP, 0, 1), (F.PWR_MODE_LADDER, 0, 1)] [(V.dpReq, 0, 2)]
/-- A state for clause 12 of ModuleResetBootAndReleases. -/
abbrev wModuleResetBootAndReleases11 : State := st [(F.SYS_REL_DP, 0, 1)] [(V.wdPer, 0, 1), (V.uptime, 0, 6553600000000)]
/-- A state for clause 13 of ModuleResetBootAndReleases. -/
abbrev wModuleResetBootAndReleases12 : State := st [(F.CLR_PLANE_MGTUP, 0, 1)] [(V.keeperUp, 0, 1)]
/-- A state for clause 14 of ModuleResetBootAndReleases. -/
abbrev wModuleResetBootAndReleases13 : State := st [] [(V.booted, 0, 1)]

/-- The hypotheses of the clauses of ModuleResetBootAndReleases are met. -/
theorem wit_ModuleResetBootAndReleases :
    (((true : Bool) = true ∨ wModuleResetBootAndReleases0.dev.var V.modReq 0 ≠ 0) ∧ (wModuleResetBootAndReleases0.dev.var V.line 0 = 0)) ∧
    ((wModuleResetBootAndReleases1.dev.var V.booted 0 ≠ 1) ∧ (wModuleResetBootAndReleases1.dev.var V.kilnOn 0 ≠ 1) ∧ (wModuleResetBootAndReleases1.dev.var V.supOn 2 = 1) ∧ (wModuleResetBootAndReleases1.dev.passed V.supOnAt 2 10000000 = true) ∧ (wModuleResetBootAndReleases1.dev.var V.dramGone 0 = 0) ∧ (wModuleResetBootAndReleases1.dev.get F.PWR_MODE_MODE 0 = 1) ∧ (wModuleResetBootAndReleases1.dev.var V.wakePend 0 = 0) ∧ (wModuleResetBootAndReleases1.dev.get F.PWR_MODE_PENDV 0 = 0) ∧ (wModuleResetBootAndReleases1.dev.get F.PWR_MODE_LADDER 0 < 3)) ∧
    ((wModuleResetBootAndReleases2.dev.var V.booted 0 ≠ 1) ∧ (wModuleResetBootAndReleases2.dev.var V.kilnOn 0 ≠ 1) ∧ (wModuleResetBootAndReleases2.dev.var V.supOn 2 = 1) ∧ (wModuleResetBootAndReleases2.dev.passed V.supOnAt 2 10000000 = true) ∧ (wModuleResetBootAndReleases2.dev.var V.dramGone 0 = 0) ∧ (wModuleResetBootAndReleases2.dev.var V.lcSt 0 = 2) ∧ (wModuleResetBootAndReleases2.dev.get F.SYS_BOOT_SLOT 0 = 3) ∧ (wModuleResetBootAndReleases2.dev.get F.UPD_SL_STAT_ST 0 < 3) ∧ (wModuleResetBootAndReleases2.dev.get F.UPD_SL_STAT_ST 1 < 3) ∧ (wModuleResetBootAndReleases2.dev.var V.wakePend 0 = 0) ∧ (wModuleResetBootAndReleases2.dev.get F.PWR_MODE_MODE 0 = 1) ∧ (wModuleResetBootAndReleases2.dev.get F.PWR_MODE_PENDV 0 = 0) ∧ (wModuleResetBootAndReleases2.dev.get F.PWR_MODE_LADDER 0 < 3)) ∧
    ((wModuleResetBootAndReleases3.dev.var V.booted 0 ≠ 1) ∧ (wModuleResetBootAndReleases3.dev.var V.kilnOn 0 = 0) ∧ (wModuleResetBootAndReleases3.dev.var V.supOn 2 = 1) ∧ (wModuleResetBootAndReleases3.dev.passed V.supOnAt 2 10000000 = true) ∧ (wModuleResetBootAndReleases3.dev.var V.dramGone 0 = 0) ∧ (wModuleResetBootAndReleases3.dev.var V.lcSt 0 ≠ 4) ∧ (wModuleResetBootAndReleases3.dev.get F.SYS_BOOT_SLOT 0 = 3) ∧ (wModuleResetBootAndReleases3.dev.get F.UPD_SL_STAT_ST 0 = 5) ∧ (wModuleResetBootAndReleases3.dev.get F.UPD_SL_STAT_ST 1 < 3) ∧ (wModuleResetBootAndReleases3.dev.imgOk wModuleResetBootAndReleases3.otp 0 (⟨some 1, true, true⟩ : ImgCheck) = true) ∧ (wModuleResetBootAndReleases3.dev.get F.UPD_STATE_FALLEN 0 = 0) ∧ (2 ≤ wModuleResetBootAndReleases3.dev.get F.PWR_MODE_MODE 0) ∧ (wModuleResetBootAndReleases3.dev.var V.modReq 0 = 0) ∧ (wModuleResetBootAndReleases3.dev.var V.planesOff 0 = 0) ∧ (wModuleResetBootAndReleases3.dev.failedRegions = 0)) ∧
    ((wModuleResetBootAndReleases4.bootOk (⟨some 1, true, true⟩ : ImgCheck) = true) ∧ (wModuleResetBootAndReleases4.dev.mayRelease = true) ∧ (wModuleResetBootAndReleases4.dev.var V.cpLoad 0 = 1) ∧ (wModuleResetBootAndReleases4.dev.failedRegions = 0) ∧ (wModuleResetBootAndReleases4.dev.var V.dramGone 0 = 0)) ∧
    ((wModuleResetBootAndReleases5.bootOk (⟨some 1, true, true⟩ : ImgCheck) = true) ∧ (wModuleResetBootAndReleases5.dev.mayRelease = true) ∧ (wModuleResetBootAndReleases5.dev.var V.dpLoad 0 = 1) ∧ (wModuleResetBootAndReleases5.dev.var V.dramWait 0 = 0) ∧ (wModuleResetBootAndReleases5.dev.get F.SYS_REL_PA 0 = 1) ∧ (wModuleResetBootAndReleases5.dev.get F.SYS_BOOT_DONE 0 = 0)) ∧
    ((wModuleResetBootAndReleases6.bootOk (⟨some 1, true, true⟩ : ImgCheck) = true) ∧ (wModuleResetBootAndReleases6.dev.mayRelease = true) ∧ (wModuleResetBootAndReleases6.dev.var V.dpLoad 0 = 1) ∧ (wModuleResetBootAndReleases6.dev.var V.dramWait 0 = 0) ∧ (wModuleResetBootAndReleases6.dev.get F.SYS_REL_PA 0 = 1) ∧ (wModuleResetBootAndReleases6.dev.get F.SYS_BOOT_DONE 0 = 1)) ∧
    ((wModuleResetBootAndReleases7.bootOk (⟨none, true, true⟩ : ImgCheck) = false) ∧ (wModuleResetBootAndReleases7.dev.mayRelease = true) ∧ (wModuleResetBootAndReleases7.dev.var V.cpLoad 0 = 1)) ∧
    ((wModuleResetBootAndReleases8.bootOk (⟨some 1, true, true⟩ : ImgCheck) = true) ∧ (wModuleResetBootAndReleases8.dev.mayRelease = true) ∧ (wModuleResetBootAndReleases8.dev.var V.dpLoad 0 = 1) ∧ (wModuleResetBootAndReleases8.dev.var V.dramWait 0 = 0) ∧ (wModuleResetBootAndReleases8.dev.get F.SYS_REL_PA 0 = 1) ∧ (wModuleResetBootAndReleases8.dev.get F.SYS_REL_DP 0 = 0) ∧ (wModuleResetBootAndReleases8.dev.get F.SYS_BOOT_DONE 0 = 0) ∧ (wModuleResetBootAndReleases8.dev.planeComps true = [(([4] ++ List.replicate 11 0 ++ [1, 0, 0, 0, 2] ++ List.replicate 63 0) : List Nat)])) ∧
    ((wModuleResetBootAndReleases9.dev.var V.cpReq 0 = 5) ∧ (wModuleResetBootAndReleases9.dev.inTrial = false) ∧ (wModuleResetBootAndReleases9.dev.var V.kilnOn 0 = 0) ∧ (wModuleResetBootAndReleases9.dev.var V.segPh 0 = 0) ∧ (wModuleResetBootAndReleases9.dev.var V.dramGone 0 = 0) ∧ (wModuleResetBootAndReleases9.dev.get F.UPD_STATE_FALLEN 0 = 0)) ∧
    ((wModuleResetBootAndReleases10.dev.var V.dpReq 0 = 2) ∧ (wModuleResetBootAndReleases10.dev.inTrial = false) ∧ (wModuleResetBootAndReleases10.dev.var V.dramGone 0 = 0) ∧ (wModuleResetBootAndReleases10.dev.get F.UPD_STATE_FALLEN 0 = 0)) ∧
    ((wModuleResetBootAndReleases11.dev.get F.SYS_REL_DP 0 = 1) ∧ (wModuleResetBootAndReleases11.dev.var V.dpReq 0 = 0) ∧ (wModuleResetBootAndReleases11.dev.passed V.wdAt 0 (wModuleResetBootAndReleases11.dev.var V.wdPer 0 * 1000000) = true)) ∧
    ((wModuleResetBootAndReleases12.dev.var V.keeperUp 0 = 1)) ∧
    ((wModuleResetBootAndReleases13.dev.var V.keeperUp 0 = 0) ∧ (wModuleResetBootAndReleases13.dev.var V.booted 0 = 1) ∧ (wModuleResetBootAndReleases13.dev.var V.kilnRep 0 = 0) ∧ (wModuleResetBootAndReleases13.dev.var V.wakePend 0 = 0) ∧ (wModuleResetBootAndReleases13.dev.var V.dramGone 0 = 0)) := by
  and_intros <;> decide +kernel

/-- A state for clause 1 of LockstepRequestsAndLifeCycle. -/
abbrev wLockstepRequestsAndLifeCycle0 : State := st [(F.SYS_REL_PB, 0, 1)] []
/-- A state for clause 2 of LockstepRequestsAndLifeCycle. -/
abbrev wLockstepRequestsAndLifeCycle1 : State := st [(F.PWR_MODE_MODE, 0, 2), (F.SYS_REL_PA, 0, 1)] []
/-- A state for clause 3 of LockstepRequestsAndLifeCycle. -/
abbrev wLockstepRequestsAndLifeCycle2 : State := st [] []
/-- A state for clause 4 of LockstepRequestsAndLifeCycle. -/
abbrev wLockstepRequestsAndLifeCycle3 : State := st [(F.CLR_HDR_LIVE, 331, 1)] [(V.keeperUp, 0, 1)]
/-- A state for clause 5 of LockstepRequestsAndLifeCycle. -/
abbrev wLockstepRequestsAndLifeCycle4 : State := st [] []
/-- A state for clause 6 of LockstepRequestsAndLifeCycle. -/
abbrev wLockstepRequestsAndLifeCycle5 : State := st [(F.CLR_HDR_LIVE, 347, 1)] [(V.keeperUp, 0, 1)]
/-- A state for clause 7 of LockstepRequestsAndLifeCycle. -/
abbrev wLockstepRequestsAndLifeCycle6 : State := st [] []
/-- A state for clause 8 of LockstepRequestsAndLifeCycle. -/
abbrev wLockstepRequestsAndLifeCycle7 : State := st [] [(V.lcSt, 0, 2)]
/-- A state for clause 9 of LockstepRequestsAndLifeCycle. -/
abbrev wLockstepRequestsAndLifeCycle8 : State := st [(F.LCS_RSTAT_ST, 0, 1), (F.LCS_CHAL_W, 10, 0x01030102)] [(V.lcSt, 0, 2)]
/-- A state for clause 10 of LockstepRequestsAndLifeCycle. -/
abbrev wLockstepRequestsAndLifeCycle9 : State := st [] []
/-- A state for clause 11 of LockstepRequestsAndLifeCycle. -/
abbrev wLockstepRequestsAndLifeCycle10 : State := st [(F.LCS_RSTAT_ST, 0, 1)] [(V.uptime, 0, 6553600000000000000)]

/-- The hypotheses of the clauses of LockstepRequestsAndLifeCycle are met. -/
theorem wit_LockstepRequestsAndLifeCycle :
    ((wLockstepRequestsAndLifeCycle0.dev.on (if (true : Bool) then F.SYS_REL_PB else F.SYS_REL_PA) 0 = true)) ∧
    ((Taken wLockstepRequestsAndLifeCycle1 0x00 (⟨10, true⟩ : Acc)) ∧ (wLockstepRequestsAndLifeCycle1.dev.get F.PWR_MODE_MODE 0 = 2) ∧ (wLockstepRequestsAndLifeCycle1.dev.get F.SYS_REL_PA 0 = 1) ∧ (wLockstepRequestsAndLifeCycle1.dev.var V.cpReq 0 = 0)) ∧
    ((Taken wLockstepRequestsAndLifeCycle2 0x00 (⟨10, true⟩ : Acc))) ∧
    ((wLockstepRequestsAndLifeCycle3.dev.cmdNew (328 + (3 : Fin 8).val) = true) ∧ (wLockstepRequestsAndLifeCycle3.dev.var V.keeperUp 0 = 1)) ∧
    ((Taken wLockstepRequestsAndLifeCycle4 0x00 (⟨10, true⟩ : Acc))) ∧
    ((wLockstepRequestsAndLifeCycle5.dev.cmdNew (344 + (3 : Fin 8).val) = true) ∧ (wLockstepRequestsAndLifeCycle5.dev.var V.keeperUp 0 = 1)) ∧
    ((Taken wLockstepRequestsAndLifeCycle6 0x00 (⟨10, true⟩ : Acc))) ∧
    ((Taken wLockstepRequestsAndLifeCycle7 0x02 (⟨10, true⟩ : Acc)) ∧ (wLockstepRequestsAndLifeCycle7.dev.lcsLocked = false) ∧ (wLockstepRequestsAndLifeCycle7.lcsAllows (1 : BitVec 2).toNat (3 : BitVec 3).toNat (1 : BitVec 2).toNat = true)) ∧
    ((Taken wLockstepRequestsAndLifeCycle8 0x02 (⟨10, true⟩ : Acc)) ∧ (wLockstepRequestsAndLifeCycle8.dev.get F.LCS_RSTAT_ST 0 = 1) ∧ (wLockstepRequestsAndLifeCycle8.dev.passed V.chalAt 0 60000000000 = false) ∧ (wLockstepRequestsAndLifeCycle8.lcsAllows (wLockstepRequestsAndLifeCycle8.dev.get F.LCS_CHAL_W 10 / 256 % 256) (wLockstepRequestsAndLifeCycle8.dev.get F.LCS_CHAL_W 10 / 65536 % 256) (wLockstepRequestsAndLifeCycle8.dev.get F.LCS_CHAL_W 10 / 16777216) = true) ∧ (wLockstepRequestsAndLifeCycle8.dev.get F.LCS_CHAL_W 10 / 256 % 256 = 1)) ∧
    ((Taken wLockstepRequestsAndLifeCycle9 0x02 (⟨10, true⟩ : Acc))) ∧
    ((wLockstepRequestsAndLifeCycle10.dev.get F.LCS_RSTAT_ST 0 = 1) ∧ (wLockstepRequestsAndLifeCycle10.dev.passed V.chalAt 0 60000000000 = true)) := by
  and_intros <;> decide +kernel

/-- A state for clause 1 of UpdateCommandsAreTaken. -/
abbrev wUpdateCommandsAreTaken0 : State := { st [(F.CLR_HDR_LIVE, 345, 1), (F.UPD_STATE_BOOTED, 0, 0)] [(V.keeperUp, 0, 1)] with dev := { (st [(F.CLR_HDR_LIVE, 345, 1), (F.UPD_STATE_BOOTED, 0, 0)] [(V.keeperUp, 0, 1)]).dev with clrBuf := [((690, 8), 1), ((690, 13), 16), ((690, 20), 1)] } }
/-- A state for clause 2 of UpdateCommandsAreTaken. -/
abbrev wUpdateCommandsAreTaken1 : State := { st [(F.CLR_HDR_LIVE, 345, 1), (F.NT_ID_STATE, 4, 1), (F.NT_ID_MEMBER, 4, 3)] [(V.keeperUp, 0, 1)] with dev := { (st [(F.CLR_HDR_LIVE, 345, 1), (F.NT_ID_STATE, 4, 1), (F.NT_ID_MEMBER, 4, 3)] [(V.keeperUp, 0, 1)]).dev with clrBuf := [((690, 8), 2), ((690, 13), 16), ((690, 20), 1), ((690, 24), 3)] } }
/-- A state for clause 3 of UpdateCommandsAreTaken. -/
abbrev wUpdateCommandsAreTaken2 : State := { st [(F.CLR_HDR_LIVE, 329, 1), (F.UPD_SL_STAT_ST, 1, 2), (F.UPD_STATE_BOOTED, 0, 0)] [(V.keeperUp, 0, 1)] with dev := { (st [(F.CLR_HDR_LIVE, 329, 1), (F.UPD_SL_STAT_ST, 1, 2), (F.UPD_STATE_BOOTED, 0, 0)] [(V.keeperUp, 0, 1)]).dev with clrBuf := [((658, 8), 3), ((658, 24), 9)] } }
/-- A state for clause 4 of UpdateCommandsAreTaken. -/
abbrev wUpdateCommandsAreTaken3 : State := { st [(F.CLR_HDR_LIVE, 329, 1), (F.UPD_SL_STAT_ST, 0, 4), (F.UPD_SL_STAT_ST, 1, 5), (F.UPD_STATE_BOOTED, 0, 0)] [(V.keeperUp, 0, 1)] with dev := { (st [(F.CLR_HDR_LIVE, 329, 1), (F.UPD_SL_STAT_ST, 0, 4), (F.UPD_SL_STAT_ST, 1, 5), (F.UPD_STATE_BOOTED, 0, 0)] [(V.keeperUp, 0, 1)]).dev with clrBuf := [((658, 8), 4), ((658, 24), 9)] } }
/-- A state for clause 5 of UpdateCommandsAreTaken. -/
abbrev wUpdateCommandsAreTaken4 : State := { st [(F.CLR_HDR_LIVE, 329, 1)] [(V.keeperUp, 0, 1)] with dev := { (st [(F.CLR_HDR_LIVE, 329, 1)] [(V.keeperUp, 0, 1)]).dev with clrBuf := [((658, 8), 5)] } }
/-- A state for clause 6 of UpdateCommandsAreTaken. -/
abbrev wUpdateCommandsAreTaken5 : State := { st [(F.CLR_HDR_LIVE, 329, 1), (F.UPD_XFER_OP, 0, 2)] [(V.keeperUp, 0, 1)] with dev := { (st [(F.CLR_HDR_LIVE, 329, 1), (F.UPD_XFER_OP, 0, 2)] [(V.keeperUp, 0, 1)]).dev with clrBuf := [((658, 8), 6)] } }
/-- A state for clause 7 of UpdateCommandsAreTaken. -/
abbrev wUpdateCommandsAreTaken6 : State := { st [(F.CLR_HDR_LIVE, 329, 1), (F.PWR_MODE_MODE, 0, 2)] [(V.keeperUp, 0, 1)] with dev := { (st [(F.CLR_HDR_LIVE, 329, 1), (F.PWR_MODE_MODE, 0, 2)] [(V.keeperUp, 0, 1)]).dev with clrBuf := [((658, 8), 7)] } }
/-- A state for clause 8 of UpdateCommandsAreTaken. -/
abbrev wUpdateCommandsAreTaken7 : State := { st [(F.CLR_HDR_LIVE, 329, 1), (F.CLR_PLANE_MGTUP, 0, 1)] [(V.keeperUp, 0, 1)] with dev := { (st [(F.CLR_HDR_LIVE, 329, 1), (F.CLR_PLANE_MGTUP, 0, 1)] [(V.keeperUp, 0, 1)]).dev with clrBuf := [((658, 8), 16)] } }
/-- A state for clause 9 of UpdateCommandsAreTaken. -/
abbrev wUpdateCommandsAreTaken8 : State := { st [(F.CLR_HDR_LIVE, 329, 1)] [(V.keeperUp, 0, 1)] with dev := { (st [(F.CLR_HDR_LIVE, 329, 1)] [(V.keeperUp, 0, 1)]).dev with clrBuf := [((658, 8), 17), ((658, 40), 7)] } }
/-- A state for clause 10 of UpdateCommandsAreTaken. -/
abbrev wUpdateCommandsAreTaken9 : State := { st [(F.CLR_HDR_LIVE, 329, 1)] [(V.keeperUp, 0, 1)] with dev := { (st [(F.CLR_HDR_LIVE, 329, 1)] [(V.keeperUp, 0, 1)]).dev with clrBuf := [((658, 8), 1)] } }

/-- The hypotheses of the clauses of UpdateCommandsAreTaken are met. -/
theorem wit_UpdateCommandsAreTaken :
    ((wUpdateCommandsAreTaken0.dev.updReady false 1 = true) ∧ (wUpdateCommandsAreTaken0.dev.get F.UPD_XFER_OP 0 = 0) ∧ (wUpdateCommandsAreTaken0.dev.inTrial = false) ∧ (wUpdateCommandsAreTaken0.dev.get F.PWR_MODE_MODE 0 ≠ 5) ∧ (imageOk (wUpdateCommandsAreTaken0.dev.updArg false 12 4) (wUpdateCommandsAreTaken0.dev.updArg false 16 8) = true) ∧ ((wUpdateCommandsAreTaken0.imgBlock (wUpdateCommandsAreTaken0.dev.updArg false 16 8) (wUpdateCommandsAreTaken0.dev.updArg false 12 4) 0).isSome = true)) ∧
    ((wUpdateCommandsAreTaken1.dev.updReady false 2 = true) ∧ (wUpdateCommandsAreTaken1.dev.get F.UPD_XFER_OP 0 = 0) ∧ (wUpdateCommandsAreTaken1.dev.get F.PWR_MODE_MODE 0 ≠ 5) ∧ (imageOk (wUpdateCommandsAreTaken1.dev.updArg false 12 4) (wUpdateCommandsAreTaken1.dev.updArg false 16 8) = true) ∧ (wUpdateCommandsAreTaken1.dev.updTargets (wUpdateCommandsAreTaken1.dev.updArg false 24 2) (wUpdateCommandsAreTaken1.dev.updArg false 26 6) ≠ [])) ∧
    ((wUpdateCommandsAreTaken2.dev.updReady (true : Bool) 3 = true) ∧ (wUpdateCommandsAreTaken2.dev.updSelf (true : Bool) = true) ∧ (wUpdateCommandsAreTaken2.dev.get F.UPD_SL_STAT_ST (wUpdateCommandsAreTaken2.dev.idleSlot) = 2)) ∧
    ((wUpdateCommandsAreTaken3.dev.updReady (true : Bool) 4 = true) ∧ (wUpdateCommandsAreTaken3.dev.updSelf (true : Bool) = true) ∧ (wUpdateCommandsAreTaken3.dev.inTrial = true) ∧ (wUpdateCommandsAreTaken3.dev.get F.UPD_STATE_BOOTED 0 ≤ 1)) ∧
    ((wUpdateCommandsAreTaken4.dev.updReady (true : Bool) 5 = true)) ∧
    ((wUpdateCommandsAreTaken5.dev.updReady (true : Bool) 6 = true) ∧ (wUpdateCommandsAreTaken5.dev.get F.UPD_XFER_OP 0 ≠ 0)) ∧
    ((wUpdateCommandsAreTaken6.dev.updReady (true : Bool) 7 = true) ∧ (wUpdateCommandsAreTaken6.dev.get F.PWR_MODE_MODE 0 = 2)) ∧
    ((wUpdateCommandsAreTaken7.dev.updReady (true : Bool) 0x10 = true) ∧ (wUpdateCommandsAreTaken7.dev.updArg (true : Bool) 12 4 % 64 = 0) ∧ (wUpdateCommandsAreTaken7.dev.updArg (true : Bool) 12 4 < 786432) ∧ (tbit (wUpdateCommandsAreTaken7.dev.updArg (true : Bool) 16 1) 0 = false) ∧ (wUpdateCommandsAreTaken7.dev.get F.CLR_PLANE_MGTUP 0 = 1) ∧ (wUpdateCommandsAreTaken7.dev.get F.UPD_CFG_CSLOT 0 < 8) ∧ (wUpdateCommandsAreTaken7.dev.get F.UPD_CFG_DSLOT 0 < 8)) ∧
    ((wUpdateCommandsAreTaken8.dev.updReady (true : Bool) 0x11 = true) ∧ (wUpdateCommandsAreTaken8.dev.updArg (true : Bool) 12 4 % 64 = 0) ∧ (wUpdateCommandsAreTaken8.dev.updArg (true : Bool) 12 4 < 786432) ∧ (tbit (wUpdateCommandsAreTaken8.dev.updArg (true : Bool) 16 1) 0 = false)) ∧
    ((wUpdateCommandsAreTaken9.dev.updReady (true : Bool) (wUpdateCommandsAreTaken9.dev.updArg (true : Bool) 8 1) = true) ∧ ((updOpcodes (true : Bool)).contains (wUpdateCommandsAreTaken9.dev.updArg (true : Bool) 8 1) = false)) := by
  and_intros <;> decide +kernel

/-- A state for clause 1 of BlocksPushesAndTrials. -/
abbrev wBlocksPushesAndTrials0 : State := st [(F.UPD_XFER_OP, 0, 1), (F.UPD_STATE_BOOTED, 0, 0)] [(V.slTotal, 1, 3), (V.xfAddr, 0, 0x100000000), (V.xfLen, 0, 12288)]
/-- A state for clause 2 of BlocksPushesAndTrials. -/
abbrev wBlocksPushesAndTrials1 : State := { st [(F.UPD_XFER_OP, 0, 1), (F.UPD_STATE_BOOTED, 0, 0)] [(V.slTotal, 1, 1), (V.slDone, 1, 1), (V.xfAddr, 0, 0x100000000), (V.xfLen, 0, 1)] with dev := { (st [(F.UPD_XFER_OP, 0, 1), (F.UPD_STATE_BOOTED, 0, 0)] [(V.slTotal, 1, 1), (V.slDone, 1, 1), (V.xfAddr, 0, 0x100000000), (V.xfLen, 0, 1)]).dev with bytes := [((1, 131072), [0])] } }
/-- A state for clause 3 of BlocksPushesAndTrials. -/
abbrev wBlocksPushesAndTrials2 : State := withCrc (st [(F.UPD_BLK_IDX0_BLOCK, 0, 2), (F.UPD_BLK_IDX1_TOTAL, 0, 3), (F.UPD_STATE_BOOTED, 0, 0)] [(V.slDone, 1, 2), (V.slTotal, 1, 3)])
/-- A state for clause 4 of BlocksPushesAndTrials. -/
abbrev wBlocksPushesAndTrials3 : State := st [(F.UPD_SL_STAT_ST, 0, 4), (F.UPD_STATE_BOOTED, 0, 0), (F.UPD_CFG_CONFTO, 0, 5)] [(V.uptime, 0, 6553600000000000000)]
/-- A state for clause 5 of BlocksPushesAndTrials. -/
abbrev wBlocksPushesAndTrials4 : State := st [(F.SYS_REL_PA, 0, 1), (F.SYS_REL_DP, 0, 1), (F.UPD_RUNCNT_CNT, 0, 2)] [(V.uptime, 0, 6553600000000000000)]
/-- A state for clause 6 of BlocksPushesAndTrials. -/
abbrev wBlocksPushesAndTrials5 : State := st [(F.UPD_STATE_FALLEN, 0, 1), (F.UPD_XFER_OP, 0, 3)] [(V.rxId, 0, 5), (V.rxNext, 0, 7), (V.rxAsm, 0, 7)]
/-- A state for clause 7 of BlocksPushesAndTrials. -/
abbrev wBlocksPushesAndTrials6 : State := st [(F.UPD_XFER_OP, 0, 2)] [(V.pushTgt, 0, 16), (V.xfLen, 0, 409600)]
/-- A state for clause 8 of BlocksPushesAndTrials. -/
abbrev wBlocksPushesAndTrials7 : State := st [(F.UPD_XFER_OP, 0, 2)] [(V.uptime, 0, 65536000000000), (V.pushTgt, 0, 16), (V.xfLen, 0, 409600)]

/-- The hypotheses of the clauses of BlocksPushesAndTrials are met. -/
theorem wit_BlocksPushesAndTrials :
    ((wBlocksPushesAndTrials0.dev.get F.UPD_XFER_OP 0 = 1) ∧ (wBlocksPushesAndTrials0.dev.var V.slDone (wBlocksPushesAndTrials0.dev.idleSlot) < wBlocksPushesAndTrials0.dev.var V.slTotal (wBlocksPushesAndTrials0.dev.idleSlot)) ∧ ((wBlocksPushesAndTrials0.imgBlock (wBlocksPushesAndTrials0.dev.var V.xfAddr 0).toNat (wBlocksPushesAndTrials0.dev.var V.xfLen 0).toNat (wBlocksPushesAndTrials0.dev.var V.slDone (wBlocksPushesAndTrials0.dev.idleSlot)).toNat).isSome = true)) ∧
    ((wBlocksPushesAndTrials3.dev.inTrial = true) ∧ (wBlocksPushesAndTrials3.dev.get F.UPD_CFG_CONFTO 0 ≠ 0) ∧ (wBlocksPushesAndTrials3.dev.passed V.trialAt 0 (wBlocksPushesAndTrials3.dev.get F.UPD_CFG_CONFTO 0 * 1000000000) = true)) ∧
    ((wBlocksPushesAndTrials4.dev.get F.SYS_REL_PA 0 = 1) ∧ (wBlocksPushesAndTrials4.dev.get F.SYS_REL_DP 0 = 1) ∧ (wBlocksPushesAndTrials4.dev.passed V.relAt 0 300000000000 = true) ∧ (wBlocksPushesAndTrials4.dev.passed V.relAt 1 300000000000 = true)) ∧
    ((wBlocksPushesAndTrials5.dev.mayReceive = true) ∧ (wBlocksPushesAndTrials5.dev.get F.UPD_XFER_OP 0 = 3) ∧ (wBlocksPushesAndTrials5.dev.var V.norWin 0 = 0) ∧ ((⟨true, 5, 9, 0, 7, 2, 9, 0, 0, [1]⟩ : BulkIn).member = 9#16) ∧ ((⟨true, 5, 9, 0, 7, 2, 9, 0, 0, [1]⟩ : BulkIn).serial = 0#48) ∧ (wBlocksPushesAndTrials5.dev.var V.rxId 0 = (⟨true, 5, 9, 0, 7, 2, 9, 0, 0, [1]⟩ : BulkIn).id.toNat) ∧ (wBlocksPushesAndTrials5.dev.var V.rxNext 0 = (⟨true, 5, 9, 0, 7, 2, 9, 0, 0, [1]⟩ : BulkIn).block.toNat) ∧ (wBlocksPushesAndTrials5.dev.var V.rxAsm 0 = (⟨true, 5, 9, 0, 7, 2, 9, 0, 0, [1]⟩ : BulkIn).block.toNat) ∧ ([0, 1, 2, 3].any (fun f => f != (⟨true, 5, 9, 0, 7, 2, 9, 0, 0, [1]⟩ : BulkIn).frame.val && wBlocksPushesAndTrials5.dev.blob 13 f == []) = true)) ∧
    ((wBlocksPushesAndTrials6.dev.get F.UPD_XFER_OP 0 = 2) ∧ (tbit (wBlocksPushesAndTrials6.dev.var V.pushTgt 0).toNat (4 : Fin 32) = true) ∧ (wBlocksPushesAndTrials6.dev.var V.pushAck (4 : Fin 32) < (3 : BitVec 30).toNat)) ∧
    ((wBlocksPushesAndTrials7.dev.get F.UPD_XFER_OP 0 = 2) ∧ (wBlocksPushesAndTrials7.dev.passed V.pushAt 0 50000000 = true)) := by
  and_intros <;> decide +kernel

/-- The hypotheses of clause 2 of BlocksPushesAndTrials are met. -/
theorem wit_BlocksPushesAndTrials_2 :
    (wBlocksPushesAndTrials1.dev.get F.UPD_XFER_OP 0 = 1) ∧ (wBlocksPushesAndTrials1.dev.var V.slTotal (wBlocksPushesAndTrials1.dev.idleSlot) = 1) ∧ (1 ≤ wBlocksPushesAndTrials1.dev.var V.slDone (wBlocksPushesAndTrials1.dev.idleSlot)) ∧ (wBlocksPushesAndTrials1.imgBlock (wBlocksPushesAndTrials1.dev.var V.xfAddr 0).toNat (wBlocksPushesAndTrials1.dev.var V.xfLen 0).toNat 0 = some (padTo 4096 (wBlocksPushesAndTrials1.dev.blob 1 (norIx wBlocksPushesAndTrials1.dev.idleSlot 0)))) := by
  refine ⟨?_, ?_, ?_, imgBlock_witness⟩ <;> decide +kernel

/-- The hypotheses of clause 3 of BlocksPushesAndTrials are met. -/
theorem wit_BlocksPushesAndTrials_3 :
    (Taken wBlocksPushesAndTrials2 0x30 (⟨10, true⟩ : Acc)) ∧ (wBlocksPushesAndTrials2.dev.var V.norWin 0 = 0) ∧ (wBlocksPushesAndTrials2.dev.get F.UPD_XFER_OP 0 = 0) ∧ (crc32c wBlocksPushesAndTrials2.dev.winBytes = wBlocksPushesAndTrials2.dev.get F.UPD_BLK_IDX2_CRC 0) ∧ (wBlocksPushesAndTrials2.dev.get F.UPD_BLK_IDX0_BLOCK 0 ≠ 0) ∧ (wBlocksPushesAndTrials2.dev.get F.UPD_BLK_IDX0_BLOCK 0 < wBlocksPushesAndTrials2.dev.get F.UPD_BLK_IDX1_TOTAL 0) ∧ (wBlocksPushesAndTrials2.dev.get F.UPD_BLK_IDX1_TOTAL 0 ≤ 131072) ∧ (wBlocksPushesAndTrials2.dev.var V.slDone (wBlocksPushesAndTrials2.dev.winSlot) = wBlocksPushesAndTrials2.dev.get F.UPD_BLK_IDX0_BLOCK 0) ∧ (wBlocksPushesAndTrials2.dev.var V.slTotal (wBlocksPushesAndTrials2.dev.winSlot) = wBlocksPushesAndTrials2.dev.get F.UPD_BLK_IDX1_TOTAL 0) := by
  refine ⟨?_, ?_, ?_, withCrc_crc _, ?_, ?_, ?_, ?_, ?_⟩ <;> decide +kernel

/-- A state for clause 1 of SherdSaggarAndSegmentPanel. -/
abbrev wSherdSaggarAndSegmentPanel0 : State := { st [] [] with dev := { (st [] []).dev with reports := [⟨0x22, 1, 0x0204, 5, [], 9⟩] } }
/-- A state for clause 2 of SherdSaggarAndSegmentPanel. -/
abbrev wSherdSaggarAndSegmentPanel1 : State := { st [(F.CLR_PLANE_CTLUP, 0, 1), (F.SYS_REL_PA, 0, 1), (F.SYS_REL_PB, 0, 1)] [] with dev := { (st [(F.CLR_PLANE_CTLUP, 0, 1), (F.SYS_REL_PA, 0, 1), (F.SYS_REL_PB, 0, 1)] []).dev with reports := [⟨0x22, 1, 0x0204, 5, [], 9⟩] } }
/-- A state for clause 3 of SherdSaggarAndSegmentPanel. -/
abbrev wSherdSaggarAndSegmentPanel2 : State := st [] []
/-- A state for clause 4 of SherdSaggarAndSegmentPanel. -/
abbrev wSherdSaggarAndSegmentPanel3 : State := { st [] [] with dev := { (st [] []).dev with sagrCur := some ⟨some 7, 0x22, 1, 0x0204, [], 0, 0, 0, false⟩ } }
/-- A state for clause 5 of SherdSaggarAndSegmentPanel. -/
abbrev wSherdSaggarAndSegmentPanel4 : State := { st [] [] with dev := { (st [] []).dev with intake := [⟨7, 5, 0x22, 5, 0x0204, [], 0, 0⟩] } }
/-- A state for clause 6 of SherdSaggarAndSegmentPanel. -/
abbrev wSherdSaggarAndSegmentPanel5 : State := { st [(F.CLR_HDR_LIVE, 330, 1)] [(V.keeperUp, 0, 1)] with dev := { (st [(F.CLR_HDR_LIVE, 330, 1)] [(V.keeperUp, 0, 1)]).dev with clrBuf := [((660, 8), 1), ((660, 13), 0x80)] } }
/-- A state for clause 7 of SherdSaggarAndSegmentPanel. -/
abbrev wSherdSaggarAndSegmentPanel6 : State := { st [(F.CLR_HDR_LIVE, 330, 1), (F.CLR_PLANE_MGTUP, 0, 1)] [(V.keeperUp, 0, 1)] with dev := { (st [(F.CLR_HDR_LIVE, 330, 1), (F.CLR_PLANE_MGTUP, 0, 1)] [(V.keeperUp, 0, 1)]).dev with clrBuf := [((660, 8), 2)] } }
/-- A state for clause 8 of SherdSaggarAndSegmentPanel. -/
abbrev wSherdSaggarAndSegmentPanel7 : State := st [(F.CLR_HDR_LIVE, 330, 1)] [(V.keeperUp, 0, 1)]
/-- A state for clause 9 of SherdSaggarAndSegmentPanel. -/
abbrev wSherdSaggarAndSegmentPanel8 : State := st [(F.COM_STAT_RUN, 0x25, 1), (F.SEG_STG_SEG, 4, 9)] []
/-- A state for clause 10 of SherdSaggarAndSegmentPanel. -/
abbrev wSherdSaggarAndSegmentPanel9 : State := st [(F.COM_STAT_RUN, 0x25, 1), (F.SEG_LN_STAT_PEND, 5, 1)] []
/-- A state for clause 11 of SherdSaggarAndSegmentPanel. -/
abbrev wSherdSaggarAndSegmentPanel10 : State := st [] [(V.segPh, 0, 2), (V.uptime, 0, 655360000000000000)]
/-- A state for clause 12 of SherdSaggarAndSegmentPanel. -/
abbrev wSherdSaggarAndSegmentPanel11 : State := st [] [(V.segPh, 0, 3), (V.uptime, 0, 655360000000000000)]
/-- A state for clause 13 of SherdSaggarAndSegmentPanel. -/
abbrev wSherdSaggarAndSegmentPanel12 : State := st [] [(V.segPh, 0, 4), (V.segWord, 1, 8), (V.uptime, 0, 655360000000000000)]
/-- A state for clause 14 of SherdSaggarAndSegmentPanel. -/
abbrev wSherdSaggarAndSegmentPanel13 : State := st [] [(V.segPh, 0, 1), (V.uptime, 0, 655360000000000000)]
/-- A state for clause 15 of SherdSaggarAndSegmentPanel. -/
abbrev wSherdSaggarAndSegmentPanel14 : State := st [(F.COM_STAT_RUN, 0x25, 1), (F.SEG_CFG_FBAND.act, 0, 3)] [(V.uptime, 0, 655360000000000000)]
/-- A state for clause 16 of SherdSaggarAndSegmentPanel. -/
abbrev wSherdSaggarAndSegmentPanel15 : State := st [(F.PWR_MODE_MODE, 0, 2), (F.SEG_CTR_S, 7, 9)] []

/-- The hypotheses of the clauses of SherdSaggarAndSegmentPanel are met. -/
theorem wit_SherdSaggarAndSegmentPanel :
    ((wSherdSaggarAndSegmentPanel0.dev.reports = (⟨0x22, 1, 0x0204, 5, [], 9⟩ : Report) :: ([] : List Report)) ∧ (wSherdSaggarAndSegmentPanel0.dev.ctlUp = false) ∧ (wSherdSaggarAndSegmentPanel0.dev.intake.length < 32)) ∧
    ((wSherdSaggarAndSegmentPanel1.dev.reports = (⟨0x22, 1, 0x0204, 5, [], 9⟩ : Report) :: ([] : List Report)) ∧ (wSherdSaggarAndSegmentPanel1.dev.ctlUp = true) ∧ (1 ≤ (⟨0x22, 1, 0x0204, 5, [], 9⟩ : Report).cls) ∧ ((⟨0x22, 1, 0x0204, 5, [], 9⟩ : Report).cls ≤ 3) ∧ (wSherdSaggarAndSegmentPanel1.dev.sagrCur = none) ∧ (wSherdSaggarAndSegmentPanel1.dev.sagrQ = []) ∧ (wSherdSaggarAndSegmentPanel1.dev.intake.length < 32)) ∧
    ((Taken wSherdSaggarAndSegmentPanel2 0x03 (⟨8, true⟩ : Acc)) ∧ (0x8000 ≤ (0x8001 : BitVec 16).toNat) ∧ (wSherdSaggarAndSegmentPanel2.dev.intake.length < 32)) ∧
    ((Taken wSherdSaggarAndSegmentPanel3 0x03 (⟨8, true⟩ : Acc)) ∧ (wSherdSaggarAndSegmentPanel3.dev.sagrCur = some (⟨some 7, 0x22, 1, 0x0204, [], 0, 0, 0, false⟩ : SagrEntry)) ∧ ((⟨some 7, 0x22, 1, 0x0204, [], 0, 0, 0, false⟩ : SagrEntry).seq = some (7 : BitVec 32).toNat) ∧ (wSherdSaggarAndSegmentPanel3.dev.sagrQ = [])) ∧
    ((wSherdSaggarAndSegmentPanel4.dev.intake = (⟨7, 5, 0x22, 5, 0x0204, [], 0, 0⟩ : Record) :: ([] : List Record))) ∧
    ((wSherdSaggarAndSegmentPanel5.dev.shrdReady (true : Bool) = true) ∧ (shrdKind (wSherdSaggarAndSegmentPanel5.dev.clrPub (wSherdSaggarAndSegmentPanel5.dev.shrdSlot (true : Bool))) = 1) ∧ (wSherdSaggarAndSegmentPanel5.dev.intake.length < 32) ∧ (leAt (wSherdSaggarAndSegmentPanel5.dev.clrPub (wSherdSaggarAndSegmentPanel5.dev.shrdSlot (true : Bool))) 10 1 = 0)) ∧
    ((wSherdSaggarAndSegmentPanel6.dev.shrdReady (true : Bool) = true) ∧ (shrdKind (wSherdSaggarAndSegmentPanel6.dev.clrPub (wSherdSaggarAndSegmentPanel6.dev.shrdSlot (true : Bool))) = 2) ∧ (wSherdSaggarAndSegmentPanel6.dev.get F.CLR_PLANE_MGTUP 0 = 1) ∧ (wSherdSaggarAndSegmentPanel6.dev.get F.SHRD_CFG_CSLOT 0 < 8) ∧ (wSherdSaggarAndSegmentPanel6.dev.get F.SHRD_CFG_DSLOT 0 < 8)) ∧
    ((wSherdSaggarAndSegmentPanel7.dev.shrdReady (true : Bool) = true) ∧ (shrdKind (wSherdSaggarAndSegmentPanel7.dev.clrPub (wSherdSaggarAndSegmentPanel7.dev.shrdSlot (true : Bool))) = 0)) ∧
    ((Taken wSherdSaggarAndSegmentPanel8 0x25 (⟨8, true⟩ : Acc)) ∧ (wSherdSaggarAndSegmentPanel8.dev.running 0x25 = true) ∧ (wSherdSaggarAndSegmentPanel8.dev.var V.segReplay 0 = 0)) ∧
    ((wSherdSaggarAndSegmentPanel9.dev.segMayStart = true) ∧ (wSherdSaggarAndSegmentPanel9.dev.segPend.head? = some (5 : Nat)) ∧ (wSherdSaggarAndSegmentPanel9.dev.get F.SEG_STATE_BAND 0 < 8)) ∧
    ((wSherdSaggarAndSegmentPanel10.dev.segPassed 2 (wSherdSaggarAndSegmentPanel10.dev.get F.BAND_T_TR.act ((wSherdSaggarAndSegmentPanel10.dev.var V.segBand 0).toNat)) = true)) ∧
    ((wSherdSaggarAndSegmentPanel11.dev.segPassed 3 (wSherdSaggarAndSegmentPanel11.dev.get F.BAND_T_TS.act ((wSherdSaggarAndSegmentPanel11.dev.var V.segBand 0).toNat)) = true)) ∧
    ((wSherdSaggarAndSegmentPanel12.dev.segPassed 4 (wSherdSaggarAndSegmentPanel12.dev.get F.BAND_E_TE.act ((wSherdSaggarAndSegmentPanel12.dev.var V.segBand 0).toNat)) = true) ∧ (wSherdSaggarAndSegmentPanel12.dev.var V.segReplay 0 = 0) ∧ (wSherdSaggarAndSegmentPanel12.dev.get F.SEG_STATE_LINE 0 < 8)) ∧
    ((wSherdSaggarAndSegmentPanel13.dev.var V.segPh 0 = 1) ∧ (wSherdSaggarAndSegmentPanel13.dev.passed V.segAt 0 5000000 = true)) ∧
    ((wSherdSaggarAndSegmentPanel14.dev.running 0x25 = true) ∧ (wSherdSaggarAndSegmentPanel14.dev.var V.pscDown 0 ≠ 1) ∧ (wSherdSaggarAndSegmentPanel14.dev.passed V.segTempAt 0 100000000 = true)) ∧
    ((Taken wSherdSaggarAndSegmentPanel15 0x25 (⟨8, true⟩ : Acc)) ∧ (wSherdSaggarAndSegmentPanel15.dev.get F.PWR_MODE_MODE 0 = 2)) := by
  and_intros <;> decide +kernel

/-- A state for clause 1 of KilnRunsAndConeSweeps. -/
abbrev wKilnRunsAndConeSweeps0 : State := st [(F.COM_CTRL_EN, 0x05, 1), (F.PWR_MODE_MODE, 0, 2)] [(V.kilnOn, 0, 1)]
/-- A state for clause 2 of KilnRunsAndConeSweeps. -/
abbrev wKilnRunsAndConeSweeps1 : State := st [(F.COM_CTRL_EN, 0x05, 1), (F.PWR_MODE_MODE, 0, 2), (F.PWR_MODE_LADDER, 0, 1)] [(V.lcSt, 0, 2)]
/-- A state for clause 3 of KilnRunsAndConeSweeps. -/
abbrev wKilnRunsAndConeSweeps2 : State := { st [(F.COM_CTRL_EN, 0x05, 1), (F.KILN_CFG_CSLOT, 0, 0), (F.CLR_HDR_LIVE, 328, 1), (F.PWR_MODE_MODE, 0, 2), (F.PWR_MODE_LADDER, 0, 1)] [(V.keeperUp, 0, 1), (V.lcSt, 0, 2)] with dev := { (st [(F.COM_CTRL_EN, 0x05, 1), (F.KILN_CFG_CSLOT, 0, 0), (F.CLR_HDR_LIVE, 328, 1), (F.PWR_MODE_MODE, 0, 2), (F.PWR_MODE_LADDER, 0, 1)] [(V.keeperUp, 0, 1), (V.lcSt, 0, 2)]).dev with clrBuf := [((656, 8), 1), ((656, 12), 4)] } }
/-- A state for clause 4 of KilnRunsAndConeSweeps. -/
abbrev wKilnRunsAndConeSweeps3 : State := st [(F.KILN_STATE_ST, 0, 1)] []
/-- A state for clause 5 of KilnRunsAndConeSweeps. -/
abbrev wKilnRunsAndConeSweeps4 : State := st [(F.KILN_STATE_ST, 0, 3)] [(V.uptime, 0, 6553600000000000)]
/-- A state for clause 6 of KilnRunsAndConeSweeps. -/
abbrev wKilnRunsAndConeSweeps5 : State := st [(F.KILN_STATE_ST, 0, 5), (F.KILN_STATE_REG, 0, 2), (F.KILN_PCTL_CHKOFF, 2, 1), (F.KILN_RG_AGE_AGE, 2, 9)] [(V.kilnOn, 0, 1), (V.lcSt, 0, 0)]
/-- A state for clause 7 of KilnRunsAndConeSweeps. -/
abbrev wKilnRunsAndConeSweeps6 : State := st [(F.KILN_RG_AGE_AGE, 3, 40)] [(V.ctlSum, 0, 36000000000000000000000)]
/-- A state for clause 8 of KilnRunsAndConeSweeps. -/
abbrev wKilnRunsAndConeSweeps7 : State := st [(F.COM_STAT_RUN, 0x06, 1)] [(V.grove, 0, 655360)]
/-- A state for clause 9 of KilnRunsAndConeSweeps. -/
abbrev wKilnRunsAndConeSweeps8 : State := st [(F.COM_STAT_RUN, 0x06, 1), (F.CONE_SWEEP_CFG_PERIOD, 0, 2)] [(V.uptime, 0, 65536000000000)]
/-- A state for clause 10 of KilnRunsAndConeSweeps. -/
abbrev wKilnRunsAndConeSweeps9 : State := st [] [(V.coneOn, 0, 1)]

/-- The hypotheses of the clauses of KilnRunsAndConeSweeps are met. -/
theorem wit_KilnRunsAndConeSweeps :
    ((Taken wKilnRunsAndConeSweeps0 0x05 (⟨10, true⟩ : Acc)) ∧ (wKilnRunsAndConeSweeps0.dev.get F.COM_CTRL_EN 0x05 = 1) ∧ ((4 : BitVec 7) ≠ 0#7) ∧ (wKilnRunsAndConeSweeps0.dev.var V.kilnOn 0 = 1) ∧ (wKilnRunsAndConeSweeps0.dev.var V.dramGone 0 = 0)) ∧
    ((Taken wKilnRunsAndConeSweeps1 0x05 (⟨10, true⟩ : Acc)) ∧ (wKilnRunsAndConeSweeps1.dev.get F.COM_CTRL_EN 0x05 = 1) ∧ (wKilnRunsAndConeSweeps1.dev.var V.kilnOn 0 = 0) ∧ (wKilnRunsAndConeSweeps1.dev.var V.dramGone 0 = 0) ∧ (wKilnRunsAndConeSweeps1.dev.get F.KILN_STATE_ST 0 = 0) ∧ (wKilnRunsAndConeSweeps1.dev.var V.lcSt 0 = 2) ∧ (wKilnRunsAndConeSweeps1.dev.get F.PWR_MODE_MODE 0 = 2) ∧ (wKilnRunsAndConeSweeps1.dev.get F.PWR_MODE_LADDER 0 < 2) ∧ (wKilnRunsAndConeSweeps1.dev.kilnReady 2 = true)) ∧
    ((wKilnRunsAndConeSweeps2.dev.get F.COM_CTRL_EN 0x05 = 1) ∧ (wKilnRunsAndConeSweeps2.dev.cmdNew (328 + wKilnRunsAndConeSweeps2.dev.get F.KILN_CFG_CSLOT 0) = true) ∧ (wKilnRunsAndConeSweeps2.dev.var V.keeperUp 0 = 1) ∧ (leAt (wKilnRunsAndConeSweeps2.dev.clrPub (328 + wKilnRunsAndConeSweeps2.dev.get F.KILN_CFG_CSLOT 0)) 8 1 = 1) ∧ (leAt (wKilnRunsAndConeSweeps2.dev.clrPub (328 + wKilnRunsAndConeSweeps2.dev.get F.KILN_CFG_CSLOT 0)) 10 2 = 0) ∧ (leAt (wKilnRunsAndConeSweeps2.dev.clrPub (328 + wKilnRunsAndConeSweeps2.dev.get F.KILN_CFG_CSLOT 0)) 12 4 = 4) ∧ (((wKilnRunsAndConeSweeps2.dev.clrPub (328 + wKilnRunsAndConeSweeps2.dev.get F.KILN_CFG_CSLOT 0)).drop 16).any (· != 0) = false) ∧ (wKilnRunsAndConeSweeps2.dev.var V.kilnOn 0 = 0) ∧ (wKilnRunsAndConeSweeps2.dev.var V.dramGone 0 = 0) ∧ (wKilnRunsAndConeSweeps2.dev.get F.KILN_STATE_ST 0 = 0) ∧ (wKilnRunsAndConeSweeps2.dev.var V.lcSt 0 = 2) ∧ (wKilnRunsAndConeSweeps2.dev.get F.PWR_MODE_MODE 0 = 2) ∧ (wKilnRunsAndConeSweeps2.dev.get F.PWR_MODE_LADDER 0 < 2) ∧ (wKilnRunsAndConeSweeps2.dev.kilnReady 2 = true)) ∧
    ((wKilnRunsAndConeSweeps3.dev.get F.KILN_STATE_ST 0 = 1)) ∧
    ((wKilnRunsAndConeSweeps4.dev.get F.KILN_STATE_ST 0 = 3) ∧ (wKilnRunsAndConeSweeps4.dev.var V.dramGone 0 = 0) ∧ (wKilnRunsAndConeSweeps4.dev.kilnSaveTime + wKilnRunsAndConeSweeps4.dev.kilnPats (wKilnRunsAndConeSweeps4.dev.get F.KILN_STATE_REG 0) * kilnShift (wKilnRunsAndConeSweeps4.dev.get F.KILN_STATE_REG 0) ≤ wKilnRunsAndConeSweeps4.dev.since V.kilnAt 0)) ∧
    ((wKilnRunsAndConeSweeps5.dev.get F.KILN_STATE_ST 0 = 5) ∧ (wKilnRunsAndConeSweeps5.dev.kilnSaveTime ≤ wKilnRunsAndConeSweeps5.dev.since V.kilnAt 0) ∧ (wKilnRunsAndConeSweeps5.dev.get F.KILN_STATE_REG 0 = 2) ∧ (wKilnRunsAndConeSweeps5.dev.kilnPass 2 = true) ∧ (wKilnRunsAndConeSweeps5.dev.var V.kilnQ 0 = 0) ∧ (wKilnRunsAndConeSweeps5.dev.var V.kilnOn 0 = 1) ∧ (wKilnRunsAndConeSweeps5.dev.var V.kilnSrc 0 = 0) ∧ (wKilnRunsAndConeSweeps5.dev.var V.pwrHeld 0 = 0) ∧ (wKilnRunsAndConeSweeps5.dev.var V.ladWas 0 = 0) ∧ (wKilnRunsAndConeSweeps5.dev.var V.dramGone 0 = 0) ∧ (∀ k < 64, wKilnRunsAndConeSweeps5.dev.get F.WHL_LP_CFG_EN k = 0)) ∧
    (((wKilnRunsAndConeSweeps6.dev.get F.KILN_RG_AGE_AGE (3 : Fin 7) + 1 : Int) * 3600000000000 * 65536 ≤ wKilnRunsAndConeSweeps6.dev.ctlReleased - wKilnRunsAndConeSweeps6.dev.var V.kilnMark (3 : Fin 7))) ∧
    ((Taken wKilnRunsAndConeSweeps7 0x06 (⟨0, true⟩ : Acc)) ∧ (wKilnRunsAndConeSweeps7.dev.running 0x06 = true) ∧ (wKilnRunsAndConeSweeps7.dev.var V.coneOn 0 ≠ 1)) ∧
    ((wKilnRunsAndConeSweeps8.dev.running 0x06 = true) ∧ (wKilnRunsAndConeSweeps8.dev.get F.CONE_SWEEP_CFG_PERIOD 0 ≠ 0) ∧ (wKilnRunsAndConeSweeps8.dev.passed V.coneAt 0 (wKilnRunsAndConeSweeps8.dev.get F.CONE_SWEEP_CFG_PERIOD 0 * 1000000) = true) ∧ (wKilnRunsAndConeSweeps8.dev.var V.coneOn 0 ≠ 1)) ∧
    ((wKilnRunsAndConeSweeps9.dev.var V.coneOn 0 = 1)) := by
  and_intros <;> decide +kernel

/-- A state for clause 1 of MonitorServesLines. -/
abbrev wMonitorServesLines0 : State := st [(F.COM_CTRL_EN, 0x31, 1), (F.PWR_MODE_MODE, 0, 2)] [(V.keeperUp, 0, 1)]
/-- A state for clause 2 of MonitorServesLines. -/
abbrev wMonitorServesLines1 : State := st [(F.COM_CTRL_EN, 0x31, 1), (F.PWR_MODE_MODE, 0, 2)] [(V.keeperUp, 0, 1)]
/-- A state for clause 3 of MonitorServesLines. -/
abbrev wMonitorServesLines2 : State := st [(F.COM_CTRL_EN, 0x31, 1), (F.PWR_MODE_MODE, 0, 2)] [(V.keeperUp, 0, 1)]
/-- A state for clause 4 of MonitorServesLines. -/
abbrev wMonitorServesLines3 : State := st [(F.COM_CTRL_EN, 0x31, 1), (F.PWR_MODE_MODE, 0, 2)] [(V.keeperUp, 0, 1), (V.poison, 0x8000000, 1)]
/-- A state for clause 5 of MonitorServesLines. -/
abbrev wMonitorServesLines4 : State := st [(F.COM_CTRL_EN, 0x31, 1), (F.PWR_MODE_MODE, 0, 2)] [(V.keeperUp, 0, 1), (V.lcSt, 0, 1)]
/-- A state for clause 6 of MonitorServesLines. -/
abbrev wMonitorServesLines5 : State := st [(F.COM_CTRL_EN, 0x31, 1), (F.PWR_MODE_MODE, 0, 2), (F.PWR_PERM_G, 17, 1)] [(V.keeperUp, 0, 1)]
/-- A state for clause 7 of MonitorServesLines. -/
abbrev wMonitorServesLines6 : State := st [(F.COM_CTRL_EN, 0x31, 1), (F.PWR_MODE_MODE, 0, 2)] [(V.keeperUp, 0, 1), (V.kilnOn, 0, 1)]
/-- A state for clause 8 of MonitorServesLines. -/
abbrev wMonitorServesLines7 : State := st [(F.COM_CTRL_EN, 0x31, 1), (F.COM_CTRL_EN, 0x05, 1), (F.PWR_MODE_MODE, 0, 2), (F.PWR_MODE_LADDER, 0, 1)] [(V.keeperUp, 0, 1), (V.lcSt, 0, 2)]
/-- A state for clause 9 of MonitorServesLines. -/
abbrev wMonitorServesLines8 : State := st [(F.COM_CTRL_EN, 0x31, 1), (F.PWR_MODE_MODE, 0, 2)] [(V.keeperUp, 0, 1)]

/-- The hypotheses of the clauses of MonitorServesLines are met. -/
theorem wit_MonitorServesLines :
    ((wMonitorServesLines0.dev.monReady = true) ∧ (wMonitorServesLines0.dev.var V.monWait 0 = 0) ∧ (wMonitorServesLines0.dev.monRefusal 1 true true = 0)) ∧
    ((wMonitorServesLines1.dev.monReady = true) ∧ (wMonitorServesLines1.dev.var V.monWait 0 = 0) ∧ (wMonitorServesLines1.dev.monRefusal 2 true true = 0) ∧ (0 < (2 : BitVec 8).toNat) ∧ ((2 : BitVec 8).toNat ≤ 64) ∧ ((7 : BitVec 32).toNat ≤ 32767)) ∧
    ((wMonitorServesLines2.dev.monReady = true) ∧ (wMonitorServesLines2.dev.var V.monWait 0 = 0) ∧ (wMonitorServesLines2.dev.monRefusal 3 true false = 0) ∧ (inDram (0x100000008 : BitVec 40).toNat = true) ∧ (wMonitorServesLines2.dev.poisoned (0x100000008 : BitVec 40).toNat = false)) ∧
    ((wMonitorServesLines3.dev.monReady = true) ∧ (wMonitorServesLines3.dev.var V.monWait 0 = 0) ∧ (wMonitorServesLines3.dev.monRefusal 3 true false = 0) ∧ (inDram (0x100000008 : BitVec 40).toNat = true) ∧ (wMonitorServesLines3.dev.poisoned (0x100000008 : BitVec 40).toNat = true)) ∧
    ((wMonitorServesLines4.dev.monReady = true) ∧ (wMonitorServesLines4.dev.var V.monWait 0 = 0) ∧ (wMonitorServesLines4.dev.monRefusal 4 (wMonitorServesLines4.dev.monReach (0x100000008 : BitVec 40).toNat) false = 0) ∧ (inDram (0x100000008 : BitVec 40).toNat = true) ∧ (wMonitorServesLines4.dev.poisoned (0x100000008 : BitVec 40).toNat = false)) ∧
    ((wMonitorServesLines5.dev.monReady = true) ∧ (wMonitorServesLines5.dev.var V.monWait 0 = 0) ∧ (wMonitorServesLines5.dev.monRefusal 5 true true = 0) ∧ ((5 : BitVec 8) = 4#8 ∨ (5 : BitVec 8) = 5#8) ∧ (wMonitorServesLines5.dev.get F.PWR_MODE_MODE 0 = 2) ∧ (wMonitorServesLines5.dev.var V.kilnOn 0 = 0) ∧ (wMonitorServesLines5.dev.var V.pwrHeld 0 = 0) ∧ (wMonitorServesLines5.dev.pwrRefusal 3 (5 : BitVec 8).toNat = none)) ∧
    ((wMonitorServesLines6.dev.monReady = true) ∧ (wMonitorServesLines6.dev.var V.monWait 0 = 0) ∧ (wMonitorServesLines6.dev.monRefusal 6 true true = 0) ∧ (wMonitorServesLines6.dev.var V.kilnOn 0 = 1)) ∧
    ((wMonitorServesLines7.dev.monReady = true) ∧ (wMonitorServesLines7.dev.var V.monWait 0 = 0) ∧ (wMonitorServesLines7.dev.monRefusal 6 true true = 0) ∧ (wMonitorServesLines7.dev.get F.COM_CTRL_EN 0x05 = 1) ∧ (wMonitorServesLines7.dev.var V.kilnOn 0 = 0) ∧ (wMonitorServesLines7.dev.var V.dramGone 0 = 0) ∧ (wMonitorServesLines7.dev.get F.KILN_STATE_ST 0 = 0) ∧ (wMonitorServesLines7.dev.var V.lcSt 0 = 2) ∧ (wMonitorServesLines7.dev.get F.PWR_MODE_MODE 0 = 2) ∧ (wMonitorServesLines7.dev.get F.PWR_MODE_LADDER 0 < 2) ∧ (wMonitorServesLines7.dev.kilnReady 2 = true)) ∧
    ((wMonitorServesLines8.dev.monReady = true) ∧ (wMonitorServesLines8.dev.var V.monWait 0 = 0) ∧ (wMonitorServesLines8.dev.monRefusal 10 true false = 0) ∧ (wMonitorServesLines8.dev.var V.modReq 0 = 0)) := by
  and_intros <;> decide +kernel

/-- A state for clause 1 of MonitorChallengesBlocksAndErrors. -/
abbrev wMonitorChallengesBlocksAndErrors0 : State := st [(F.COM_CTRL_EN, 0x31, 1), (F.PWR_MODE_MODE, 0, 2)] [(V.lcSt, 0, 2), (V.keeperUp, 0, 1)]
/-- A state for clause 2 of MonitorChallengesBlocksAndErrors. -/
abbrev wMonitorChallengesBlocksAndErrors1 : State := st [(F.LCS_RSTAT_ST, 0, 1), (F.LCS_CHAL_W, 10, 0x01030102), (F.COM_CTRL_EN, 0x31, 1), (F.PWR_MODE_MODE, 0, 2)] [(V.lcSt, 0, 2), (V.keeperUp, 0, 1)]
/-- A state for clause 3 of MonitorChallengesBlocksAndErrors. -/
abbrev wMonitorChallengesBlocksAndErrors2 : State := st [(F.COM_CTRL_EN, 0x31, 1), (F.PWR_MODE_MODE, 0, 2)] [(V.keeperUp, 0, 1)]
/-- A state for clause 4 of MonitorChallengesBlocksAndErrors. -/
abbrev wMonitorChallengesBlocksAndErrors3 : State := st [(F.UPD_XFER_OP, 0, 1), (F.COM_CTRL_EN, 0x31, 1), (F.PWR_MODE_MODE, 0, 2)] [(V.keeperUp, 0, 1)]
/-- A state for clause 5 of MonitorChallengesBlocksAndErrors. -/
abbrev wMonitorChallengesBlocksAndErrors4 : State := st [(F.COM_CTRL_EN, 0x31, 1), (F.PWR_MODE_MODE, 0, 2)] [(V.slDone, 1, 2), (V.slTotal, 1, 3), (V.keeperUp, 0, 1)]
/-- A state for clause 6 of MonitorChallengesBlocksAndErrors. -/
abbrev wMonitorChallengesBlocksAndErrors5 : State := st [(F.COM_CTRL_EN, 0x31, 1)] [(V.keeperUp, 0, 1)]
/-- A state for clause 7 of MonitorChallengesBlocksAndErrors. -/
abbrev wMonitorChallengesBlocksAndErrors6 : State := st [(F.COM_CTRL_EN, 0x31, 1)] [(V.keeperUp, 0, 1)]
/-- A state for clause 8 of MonitorChallengesBlocksAndErrors. -/
abbrev wMonitorChallengesBlocksAndErrors7 : State := st [(F.COM_CTRL_EN, 0x31, 1)] [(V.keeperUp, 0, 1)]
/-- A state for clause 9 of MonitorChallengesBlocksAndErrors. -/
abbrev wMonitorChallengesBlocksAndErrors8 : State := st [(F.COM_CTRL_EN, 0x31, 1), (F.PWR_MODE_MODE, 0, 2)] [(V.keeperUp, 0, 1)]

/-- The hypotheses of the clauses of MonitorChallengesBlocksAndErrors are met. -/
theorem wit_MonitorChallengesBlocksAndErrors :
    ((wMonitorChallengesBlocksAndErrors0.dev.monReady = true) ∧ (wMonitorChallengesBlocksAndErrors0.dev.var V.monWait 0 = 0) ∧ (wMonitorChallengesBlocksAndErrors0.dev.monRefusal 7 true false = 0) ∧ (wMonitorChallengesBlocksAndErrors0.dev.lcsLocked = false) ∧ (wMonitorChallengesBlocksAndErrors0.lcsAllows (1 : BitVec 2).toNat (3 : BitVec 3).toNat (1 : BitVec 2).toNat = true)) ∧
    ((wMonitorChallengesBlocksAndErrors1.dev.monReady = true) ∧ (wMonitorChallengesBlocksAndErrors1.dev.var V.monWait 0 = 0) ∧ (wMonitorChallengesBlocksAndErrors1.dev.monRefusal 8 true false = 0) ∧ (wMonitorChallengesBlocksAndErrors1.dev.get F.LCS_RSTAT_ST 0 = 1) ∧ (wMonitorChallengesBlocksAndErrors1.dev.passed V.chalAt 0 60000000000 = false) ∧ (wMonitorChallengesBlocksAndErrors1.lcsAllows (wMonitorChallengesBlocksAndErrors1.dev.get F.LCS_CHAL_W 10 / 256 % 256) (wMonitorChallengesBlocksAndErrors1.dev.get F.LCS_CHAL_W 10 / 65536 % 256) (wMonitorChallengesBlocksAndErrors1.dev.get F.LCS_CHAL_W 10 / 16777216) = true) ∧ (wMonitorChallengesBlocksAndErrors1.dev.get F.LCS_CHAL_W 10 / 256 % 256 = 1)) ∧
    ((wMonitorChallengesBlocksAndErrors2.dev.monReady = true) ∧ (wMonitorChallengesBlocksAndErrors2.dev.var V.monWait 0 = 0) ∧ (wMonitorChallengesBlocksAndErrors2.dev.monRefusal 8 true false = 0)) ∧
    ((wMonitorChallengesBlocksAndErrors3.dev.monReady = true) ∧ (wMonitorChallengesBlocksAndErrors3.dev.var V.monWait 0 = 0) ∧ (wMonitorChallengesBlocksAndErrors3.dev.monRefusal 9 true false = 0) ∧ (wMonitorChallengesBlocksAndErrors3.dev.get F.UPD_XFER_OP 0 ≠ 0)) ∧
    ((wMonitorChallengesBlocksAndErrors5.dev.monReady = true) ∧ (wMonitorChallengesBlocksAndErrors5.dev.var V.monWait 0 = 0)) ∧
    ((wMonitorChallengesBlocksAndErrors6.dev.monReady = true) ∧ (wMonitorChallengesBlocksAndErrors6.dev.var V.monWait 0 = 0)) ∧
    ((wMonitorChallengesBlocksAndErrors7.dev.monReady = true) ∧ (wMonitorChallengesBlocksAndErrors7.dev.var V.monWait 0 = 0)) ∧
    ((wMonitorChallengesBlocksAndErrors8.dev.monReady = true) ∧ (wMonitorChallengesBlocksAndErrors8.dev.var V.monWait 0 = 0) ∧ (wMonitorChallengesBlocksAndErrors8.dev.monRefusal 9 true false = 0)) := by
  and_intros <;> decide +kernel

/-- The hypotheses of clause 5 of MonitorChallengesBlocksAndErrors are met. -/
theorem wit_MonitorChallengesBlocksAndErrors_5 :
    (wMonitorChallengesBlocksAndErrors4.dev.monReady = true) ∧ (wMonitorChallengesBlocksAndErrors4.dev.var V.monWait 0 = 0) ∧ (wMonitorChallengesBlocksAndErrors4.dev.monRefusal 9 true false = 0) ∧ (wMonitorChallengesBlocksAndErrors4.dev.get F.UPD_XFER_OP 0 = 0) ∧ (wMonitorChallengesBlocksAndErrors4.dev.var V.norWin 0 = 0) ∧ (crc32c (padTo 4096 (([] : List Byte).map (fun b => b.toNat))) = (BitVec.ofNat 32 (crc32c (padTo 4096 (([] : List Byte).map (fun b => b.toNat)))) : BitVec 32).toNat) ∧ ((2 : BitVec 32).toNat ≠ 0) ∧ ((2 : BitVec 32).toNat < (3 : BitVec 32).toNat) ∧ ((3 : BitVec 32).toNat ≤ 131072) ∧ (wMonitorChallengesBlocksAndErrors4.dev.var V.slDone (wMonitorChallengesBlocksAndErrors4.dev.winSlot) = (2 : BitVec 32).toNat) ∧ (wMonitorChallengesBlocksAndErrors4.dev.var V.slTotal (wMonitorChallengesBlocksAndErrors4.dev.winSlot) = (3 : BitVec 32).toNat) := by
  refine ⟨?_, ?_, ?_, ?_, ?_, toNat_of_lt (crc32c_lt _), ?_, ?_, ?_, ?_, ?_⟩ <;> decide +kernel

/-- A state for clause 1 of RegisterWritesAndReads. -/
abbrev wRegisterWritesAndReads0 : State := st [(F.GNTK_RING_CFG_NEP.act, 0, 4)] []
/-- A state for clause 2 of RegisterWritesAndReads. -/
abbrev wRegisterWritesAndReads1 : State := st [] []
/-- A state for clause 3 of RegisterWritesAndReads. -/
abbrev wRegisterWritesAndReads2 : State := st [(F.COM_IRQ_STAT_V, 0x12, 11)] []
/-- A state for clause 4 of RegisterWritesAndReads. -/
abbrev wRegisterWritesAndReads3 : State := st [(F.COM_STAT_RUN, 0x2B, 1)] []
/-- A state for clause 5 of RegisterWritesAndReads. -/
abbrev wRegisterWritesAndReads4 : State := st [] []
/-- A state for clause 6 of RegisterWritesAndReads. -/
abbrev wRegisterWritesAndReads5 : State := st [] []
/-- A state for clause 7 of RegisterWritesAndReads. -/
abbrev wRegisterWritesAndReads6 : State := st [] []
/-- A state for clause 8 of RegisterWritesAndReads. -/
abbrev wRegisterWritesAndReads7 : State := st [] []
/-- A state for clause 9 of RegisterWritesAndReads. -/
abbrev wRegisterWritesAndReads8 : State := st [(F.PWR_ALARM_ALARM, 0, 0x500000007)] []
/-- A state for clause 10 of RegisterWritesAndReads. -/
abbrev wRegisterWritesAndReads9 : State := st [] [(V.rdTag, 26, 0x821), (V.rdHold, 26, 5)]
/-- A state for clause 11 of RegisterWritesAndReads. -/
abbrev wRegisterWritesAndReads10 : State := st [] []
/-- A state for clause 12 of RegisterWritesAndReads. -/
abbrev wRegisterWritesAndReads11 : State := st [] [(V.wrTag, 24, 0x821), (V.wrTag, 26, 0x821), (V.wrHold, 26, 7)]
/-- A state for clause 13 of RegisterWritesAndReads. -/
abbrev wRegisterWritesAndReads12 : State := st [(F.PWR_ALARM_ALARM, 0, 7)] []

/-- The hypotheses of the clauses of RegisterWritesAndReads are met. -/
theorem wit_RegisterWritesAndReads :
    (((⟨false, 0x12, 0x810, 4, 9, false⟩ : RegIn).ufs = false) ∧ ((⟨false, 0x12, 0x810, 4, 9, false⟩ : RegIn).slot.toNat = 0x12) ∧ (Taken wRegisterWritesAndReads0 0x12 (⟨0, true⟩ : Acc)) ∧ ((⟨false, 0x12, 0x810, 4, 9, false⟩ : RegIn).off.toNat = 0x810) ∧ ((⟨false, 0x12, 0x810, 4, 9, false⟩ : RegIn).len.toNat = 4) ∧ (wRegisterWritesAndReads0.dev.get F.COM_APPLY_PEND 0x12 = 0) ∧ (wRegisterWritesAndReads0.dev.var V.underKiln 0x12 ≠ 1)) ∧
    (((⟨false, 0x12, 0x18, 4, 9, false⟩ : RegIn).ufs = false) ∧ (slots.contains (⟨false, 0x12, 0x18, 4, 9, false⟩ : RegIn).slot.toNat = true) ∧ (Taken wRegisterWritesAndReads1 (⟨false, 0x12, 0x18, 4, 9, false⟩ : RegIn).slot.toNat (⟨0, true⟩ : Acc)) ∧ ((⟨false, 0x12, 0x18, 4, 9, false⟩ : RegIn).slot.toNat ≠ 0x0B) ∧ ((⟨false, 0x12, 0x18, 4, 9, false⟩ : RegIn).off.toNat = 0x18) ∧ ((⟨false, 0x12, 0x18, 4, 9, false⟩ : RegIn).len.toNat = 4)) ∧
    (((⟨false, 0x12, 0x14, 4, 9, false⟩ : RegIn).ufs = false) ∧ (slots.contains (⟨false, 0x12, 0x14, 4, 9, false⟩ : RegIn).slot.toNat = true) ∧ (Taken wRegisterWritesAndReads2 (⟨false, 0x12, 0x14, 4, 9, false⟩ : RegIn).slot.toNat (⟨0, true⟩ : Acc)) ∧ ((⟨false, 0x12, 0x14, 4, 9, false⟩ : RegIn).slot.toNat ≠ 0x0B) ∧ ((⟨false, 0x12, 0x14, 4, 9, false⟩ : RegIn).off.toNat = 0x14) ∧ ((⟨false, 0x12, 0x14, 4, 9, false⟩ : RegIn).len.toNat = 4) ∧ (wRegisterWritesAndReads2.dev.get F.COM_IRQ_STAT_V ((⟨false, 0x12, 0x14, 4, 9, false⟩ : RegIn).slot.toNat) < 2 ^ 32)) ∧
    (((⟨false, 0x2B, 0x804, 4, 9, false⟩ : RegIn).ufs = false) ∧ ((⟨false, 0x2B, 0x804, 4, 9, false⟩ : RegIn).slot.toNat = 0x2B) ∧ (Taken wRegisterWritesAndReads3 0x2B (⟨8, true⟩ : Acc)) ∧ ((⟨false, 0x2B, 0x804, 4, 9, false⟩ : RegIn).off.toNat = 0x804) ∧ ((⟨false, 0x2B, 0x804, 4, 9, false⟩ : RegIn).len.toNat = 4) ∧ (wRegisterWritesAndReads3.dev.running 0x2B = true) ∧ (wRegisterWritesAndReads3.dev.get F.RIDE_CYC_RCYC 0 ≠ (⟨false, 0x2B, 0x804, 4, 9, false⟩ : RegIn).data.toNat % 2 ^ 14)) ∧
    (((⟨false, 0x09, 0x1010, 8, 0x500000001, false⟩ : RegIn).ufs = false) ∧ ((⟨false, 0x09, 0x1010, 8, 0x500000001, false⟩ : RegIn).slot.toNat = 0x09) ∧ (Taken wRegisterWritesAndReads4 0x09 (⟨0, true⟩ : Acc)) ∧ ((⟨false, 0x09, 0x1010, 8, 0x500000001, false⟩ : RegIn).off.toNat = 0x1010) ∧ ((⟨false, 0x09, 0x1010, 8, 0x500000001, false⟩ : RegIn).len.toNat = 8)) ∧
    (((⟨false, 0x12, 0x18, 8, 9, false⟩ : RegIn).ufs = false) ∧ (slots.contains (⟨false, 0x12, 0x18, 8, 9, false⟩ : RegIn).slot.toNat = true) ∧ (sizeOk (⟨false, 0x12, 0x18, 8, 9, false⟩ : RegIn).off.toNat (⟨false, 0x12, 0x18, 8, 9, false⟩ : RegIn).len.toNat = false)) ∧
    ((slots.contains (0x3F : BitVec 6).toNat = false)) ∧
    ((slots.contains (0x12 : BitVec 6).toNat = true) ∧ (Taken wRegisterWritesAndReads7 (0x12 : BitVec 6).toNat (⟨0, true⟩ : Acc))) ∧
    ((slots.contains (0x01 : BitVec 6).toNat = true) ∧ (0x100 ≤ (0x820 : BitVec 16).toNat) ∧ (pairHalf (0x01 : BitVec 6).toNat (0x820 : BitVec 16).toNat false = true) ∧ (wRegisterWritesAndReads8.dev.readCause (0x01 : BitVec 6).toNat (0x820 : BitVec 16).toNat (⟨10, true⟩ : Acc) = none) ∧ (∀ r ∈ (regAt (0x01 : BitVec 6).toNat (0x820 : BitVec 16).toNat).toList, r.reg.chan = true → wRegisterWritesAndReads8.dev.get F.COM_CHSEL_CH ((0x01 : BitVec 6).toNat * 16 + (⟨10, true⟩ : Acc).bank.val) < chCnt (0x01 : BitVec 6).toNat)) ∧
    ((slots.contains (0x01 : BitVec 6).toNat = true) ∧ (0x100 ≤ (0x824 : BitVec 16).toNat) ∧ (pairHalf (0x01 : BitVec 6).toNat (0x824 : BitVec 16).toNat true = true) ∧ (wRegisterWritesAndReads9.dev.readCause (0x01 : BitVec 6).toNat (0x824 : BitVec 16).toNat (⟨10, true⟩ : Acc) = none) ∧ (∀ r ∈ (regAt (0x01 : BitVec 6).toNat (0x824 : BitVec 16).toNat).toList, r.reg.chan = true → wRegisterWritesAndReads9.dev.get F.COM_CHSEL_CH ((0x01 : BitVec 6).toNat * 16 + (⟨10, true⟩ : Acc).bank.val) < chCnt (0x01 : BitVec 6).toNat) ∧ (wRegisterWritesAndReads9.dev.var V.rdTag ((0x01 : BitVec 6).toNat * 16 + (⟨10, true⟩ : Acc).bank.val) = ((0x824 : BitVec 16).toNat - 4 + 1 : Nat))) ∧
    ((slots.contains (0x01 : BitVec 6).toNat = true) ∧ (Taken wRegisterWritesAndReads10 (0x01 : BitVec 6).toNat (⟨10, true⟩ : Acc)) ∧ (pairHalf (0x01 : BitVec 6).toNat (0x820 : BitVec 16).toNat false = true) ∧ (∀ r ∈ (regAt (0x01 : BitVec 6).toNat (0x820 : BitVec 16).toNat).toList, r.reg.chan = true → wRegisterWritesAndReads10.dev.get F.COM_CHSEL_CH ((0x01 : BitVec 6).toNat * 16 + (⟨10, true⟩ : Acc).bank.val) < chCnt (0x01 : BitVec 6).toNat)) ∧
    ((Taken wRegisterWritesAndReads11 0x01 (⟨10, true⟩ : Acc)) ∧ (wRegisterWritesAndReads11.dev.var V.wrTag (16 + (⟨10, true⟩ : Acc).bank.val) = 0x821) ∧ (0 ≤ wRegisterWritesAndReads11.dev.var V.wrHold (16 + (⟨10, true⟩ : Acc).bank.val)) ∧ (wRegisterWritesAndReads11.dev.var V.wrHold (16 + (⟨10, true⟩ : Acc).bank.val) < 2 ^ 32)) ∧
    ((Taken wRegisterWritesAndReads12 0x01 (⟨10, true⟩ : Acc)) ∧ (wRegisterWritesAndReads12.dev.var V.wrTag (16 + (⟨10, true⟩ : Acc).bank.val) ≠ 0x821)) := by
  and_intros <;> decide +kernel

/-- A state for clause 1 of EnableRunApplyAndSoftReset. -/
abbrev wEnableRunApplyAndSoftReset0 : State := st [] []
/-- A state for clause 2 of EnableRunApplyAndSoftReset. -/
abbrev wEnableRunApplyAndSoftReset1 : State := st [(F.COM_CTRL_EN, 0x12, 1)] []
/-- A state for clause 3 of EnableRunApplyAndSoftReset. -/
abbrev wEnableRunApplyAndSoftReset2 : State := st [] []
/-- A state for clause 4 of EnableRunApplyAndSoftReset. -/
abbrev wEnableRunApplyAndSoftReset3 : State := st [] []
/-- A state for clause 5 of EnableRunApplyAndSoftReset. -/
abbrev wEnableRunApplyAndSoftReset4 : State := st [(F.COM_APPLY_PEND, 0x12, 1), (F.GNTK_EPOCH_CFG_EPER, 0, 7)] [(V.applyDue, 0x12, 2^1023)]
/-- A state for clause 6 of EnableRunApplyAndSoftReset. -/
abbrev wEnableRunApplyAndSoftReset5 : State := st [(F.COM_APPLY_PEND, 0x12, 1)] [(V.applyDue, 0x12, 128)]
/-- A state for clause 7 of EnableRunApplyAndSoftReset. -/
abbrev wEnableRunApplyAndSoftReset6 : State := st [(F.GNTK_EPOCH_CFG_EPER, 0, 7), (F.COM_CTRL_EN, 0x12, 1)] []
/-- A state for clause 8 of EnableRunApplyAndSoftReset. -/
abbrev wEnableRunApplyAndSoftReset7 : State := st [(F.COM_STAT_RUN, 0x12, 1), (F.GNTK_CH_CFG_EN, 7, 1)] [(V.uptime, 0, 5)]
/-- A state for clause 9 of EnableRunApplyAndSoftReset. -/
abbrev wEnableRunApplyAndSoftReset8 : State := st [] [(V.softRst, 0x12, 1)]
/-- A state for clause 10 of EnableRunApplyAndSoftReset. -/
abbrev wEnableRunApplyAndSoftReset9 : State := st [] [(V.softRst, 0x12, 1)]
/-- A state for clause 11 of EnableRunApplyAndSoftReset. -/
abbrev wEnableRunApplyAndSoftReset10 : State := st [] [(V.softWas, 0x30, 1), (V.softRst, 0x30, 0), (V.keeperUp, 0, 1)]

/-- The hypotheses of the clauses of EnableRunApplyAndSoftReset are met. -/
theorem wit_EnableRunApplyAndSoftReset :
    ((slots.contains (0x12 : BitVec 6).toNat = true) ∧ (Taken wEnableRunApplyAndSoftReset0 (0x12 : BitVec 6).toNat (⟨0, true⟩ : Acc)) ∧ ((0x12 : BitVec 6).toNat = 0x24 → (true : Bool) = false)) ∧
    ((slots.contains (0x12 : BitVec 6).toNat = true) ∧ (wEnableRunApplyAndSoftReset1.dev.var V.softRst ((0x12 : BitVec 6).toNat) = 0) ∧ (wEnableRunApplyAndSoftReset1.dev.get F.COM_CTRL_EN ((0x12 : BitVec 6).toNat) ≤ 1) ∧ (wEnableRunApplyAndSoftReset1.dev.get F.COM_STAT_RUN ((0x12 : BitVec 6).toNat) ≠ wEnableRunApplyAndSoftReset1.dev.get F.COM_CTRL_EN ((0x12 : BitVec 6).toNat))) ∧
    ((hasRws (0x12 : BitVec 6).toNat = true) ∧ (Taken wEnableRunApplyAndSoftReset2 (0x12 : BitVec 6).toNat (⟨0, true⟩ : Acc)) ∧ (wEnableRunApplyAndSoftReset2.dev.get F.COM_APPLY_PEND ((0x12 : BitVec 6).toNat) = 0)) ∧
    ((hasRws (0x13 : BitVec 6).toNat = true) ∧ (Taken wEnableRunApplyAndSoftReset3 (0x13 : BitVec 6).toNat (⟨0, true⟩ : Acc)) ∧ (wEnableRunApplyAndSoftReset3.dev.get F.COM_APPLY_PEND ((0x13 : BitVec 6).toNat) = 0) ∧ (chCnt (0x13 : BitVec 6).toNat ≤ wEnableRunApplyAndSoftReset3.dev.get F.COM_CHSEL_CH ((0x13 : BitVec 6).toNat * 16 + (⟨0, true⟩ : Acc).bank.val))) ∧
    ((wEnableRunApplyAndSoftReset4.dev.get F.COM_APPLY_PEND ((0x12 : BitVec 6).toNat) = 1) ∧ (wEnableRunApplyAndSoftReset4.dev.atBoundary (0x12 : BitVec 6).toNat (((none : Option (Fin 600)).map (·.val)).getD wideUnit) = true) ∧ (tbit (wEnableRunApplyAndSoftReset4.dev.var V.applyDue ((0x12 : BitVec 6).toNat)).toNat (((none : Option (Fin 600)).map (·.val)).getD wideUnit) = true)) ∧
    ((wEnableRunApplyAndSoftReset5.dev.get F.COM_APPLY_PEND ((0x12 : BitVec 6).toNat) = 1) ∧ (wEnableRunApplyAndSoftReset5.dev.atBoundary (0x12 : BitVec 6).toNat (((some 7 : Option (Fin 600)).map (·.val)).getD wideUnit) = true) ∧ (wEnableRunApplyAndSoftReset5.dev.var V.applyDue ((0x12 : BitVec 6).toNat) = (2 ^ (((some 7 : Option (Fin 600)).map (·.val)).getD wideUnit) : Nat))) ∧
    ((slots.contains (0x12 : BitVec 6).toNat = true) ∧ (Taken wEnableRunApplyAndSoftReset6 (0x12 : BitVec 6).toNat (⟨0, true⟩ : Acc)) ∧ (softIgnored (0x12 : BitVec 6).toNat = false) ∧ (wEnableRunApplyAndSoftReset6.dev.var V.softRst ((0x12 : BitVec 6).toNat) ≠ 2)) ∧
    ((wEnableRunApplyAndSoftReset7.dev.atBoundary (0x12 : BitVec 6).toNat (((some 7 : Option (Fin 600)).map (·.val)).getD wideUnit) = false)) ∧
    ((slots.contains (0x12 : BitVec 6).toNat = true) ∧ (Allowed (0x12 : BitVec 6).toNat (⟨0, true⟩ : Acc)) ∧ (wEnableRunApplyAndSoftReset8.dev.var V.softRst ((0x12 : BitVec 6).toNat) ≠ 0) ∧ (wEnableRunApplyAndSoftReset8.dev.get F.COM_CHSEL_CH ((0x12 : BitVec 6).toNat * 16 + (⟨0, true⟩ : Acc).bank.val) ≠ (7 : BitVec 16).toNat) ∧ ((0x12 : BitVec 6).toNat ≠ 0x28) ∧ ((0x12 : BitVec 6).toNat ≠ 0x29)) ∧
    ((wEnableRunApplyAndSoftReset9.dev.var V.softRst ((0x12 : BitVec 6).toNat) = 1)) ∧
    ((wEnableRunApplyAndSoftReset10.dev.var V.softWas (if (true : Bool) then 0x30 else 0x05) = 1) ∧ (wEnableRunApplyAndSoftReset10.dev.var V.softRst (if (true : Bool) then 0x30 else 0x05) = 0) ∧ (wEnableRunApplyAndSoftReset10.dev.var V.keeperUp 0 = 1)) := by
  and_intros <;> decide +kernel

/-- A state with an empty queue. -/
theorem wit_StepTakesTheCommandAtTheFront : State.reset.pending = [] := rfl




/-- A sound state that steps. -/
theorem wit_StateStaysSound : State.reset.wf = true ∧ StepGoesOn State.reset := ⟨by decide +kernel, _, rfl⟩


/-- A state with a security version of at most 64 that steps. -/
theorem wit_LifeCycleAndSecurityVersionOnlyRise : State.reset.otp.svn ≤ 64 ∧ StepGoesOn State.reset := ⟨by decide +kernel, _, rfl⟩


/-- A command that completes. -/
theorem wit_LogOtpMemoryAndQueueChangeByTheirCommands : ∃ t, exec .msTick State.reset = .next t := ⟨_, rfl⟩


/-- A state for clause 1 of KeepAreaIsFilledInOrder. -/
abbrev wKeepAreaIsFilledInOrder0 : State := { st [(F.SHRD_KEEP_ON, 0, 1)] [(V.spillNext, 0, 2048), (V.keepNext, 0, 2047)] with dev := { (st [(F.SHRD_KEEP_ON, 0, 1)] [(V.spillNext, 0, 2048), (V.keepNext, 0, 2047)]).dev with intake := [⟨5, 0, 3, 1, 2, [], 0, 0⟩] } }
/-- A state for clause 2 of KeepAreaIsFilledInOrder. -/
abbrev wKeepAreaIsFilledInOrder1 : State := { st [(F.SHRD_KEEP_ON, 0, 1), (F.SHRD_KEEP_FULL, 0, 1)] [(V.spillNext, 0, 32767)] with dev := { (st [(F.SHRD_KEEP_ON, 0, 1), (F.SHRD_KEEP_FULL, 0, 1)] [(V.spillNext, 0, 32767)]).dev with intake := [⟨5, 0, 3, 1, 2, [], 0, 0⟩] } }

/-- The hypotheses of the clauses of KeepAreaIsFilledInOrder are met. -/
theorem wit_KeepAreaIsFilledInOrder :
    ((wKeepAreaIsFilledInOrder0.dev.intake = (⟨5, 0, 3, 1, 2, [], 0, 0⟩ : Record) :: ([] : List Record)) ∧ (2048 ≤ wKeepAreaIsFilledInOrder0.dev.var V.spillNext 0) ∧ (wKeepAreaIsFilledInOrder0.dev.var V.spillNext 0 ≤ 32767) ∧ (0 ≤ wKeepAreaIsFilledInOrder0.dev.var V.keepNext 0) ∧ (wKeepAreaIsFilledInOrder0.dev.get F.SHRD_KEEP_ON 0 = 1) ∧ (wKeepAreaIsFilledInOrder0.dev.get F.SHRD_KEEP_FULL 0 = 0)) ∧
    ((wKeepAreaIsFilledInOrder1.dev.intake = (⟨5, 0, 3, 1, 2, [], 0, 0⟩ : Record) :: ([] : List Record)) ∧ (2048 ≤ wKeepAreaIsFilledInOrder1.dev.var V.spillNext 0) ∧ (wKeepAreaIsFilledInOrder1.dev.var V.spillNext 0 ≤ 32767) ∧ (wKeepAreaIsFilledInOrder1.dev.get F.SHRD_KEEP_ON 0 = 0 ∨ wKeepAreaIsFilledInOrder1.dev.get F.SHRD_KEEP_FULL 0 = 1)) := by
  and_intros <;> decide +kernel

/-- A state for clause 1 of ReportsMergeWithTheirEntry. -/
abbrev wReportsMergeWithTheirEntry0 : State := { st [(F.SYS_REL_PA, 0, 1)] [] with dev := { (st [(F.SYS_REL_PA, 0, 1)] []).dev with reports := [⟨0x22, 1, 0x0204, 5, [], 9⟩], sagrQ := [⟨some 4, 0x22, 1, 0x0204, [], 0, 0, 3, false⟩] } }

/-- The hypotheses of the clauses of ReportsMergeWithTheirEntry are met. -/
theorem wit_ReportsMergeWithTheirEntry :
    ((wReportsMergeWithTheirEntry0.dev.reports = (⟨0x22, 1, 0x0204, 5, [], 9⟩ : Report) :: ([] : List Report)) ∧ (wReportsMergeWithTheirEntry0.dev.ctlUp = true) ∧ ((⟨0x22, 1, 0x0204, 5, [], 9⟩ : Report).cls ≠ 0) ∧ (wReportsMergeWithTheirEntry0.dev.sagrHas (⟨0x22, 1, 0x0204, 5, [], 9⟩ : Report).src (⟨0x22, 1, 0x0204, 5, [], 9⟩ : Report).code = true) ∧ (wReportsMergeWithTheirEntry0.dev.intake.length < 32)) := by
  and_intros <;> decide +kernel

/-- A state for clause 1 of UnassignedOffsetsReadZero. -/
abbrev wUnassignedOffsetsReadZero0 : State := st [] []

/-- The hypotheses of the clauses of UnassignedOffsetsReadZero are met. -/
theorem wit_UnassignedOffsetsReadZero :
    ((slots.contains (0x12 : BitVec 6).toNat = true) ∧ (offMapped (0x12 : BitVec 6).toNat (0x7FC : BitVec 16).toNat = false) ∧ ((0x7FC : BitVec 16).toNat % 4 = 0) ∧ (accCause (0x12 : BitVec 6).toNat (0x7FC : BitVec 16).toNat (⟨0, true⟩ : Acc) (false : Bool) = none)) := by
  and_intros <;> decide +kernel

/-- The hypotheses on a read are met: LSW has 24 channels, and bank 8 selects channel 24. -/
theorem wit_ChannelsBeyondTheBlockAreNotThere_read :
    slots.contains 0x22 = true ∧ 0x100 % 4 = 0 ∧ (st [(F.COM_CHSEL_CH, 552, 24)] []).dev.readCause 0x22 0x100 ⟨8, true⟩ = none ∧
    ((regAt 0x22 0x100).any fun r => r.reg.chan) = true ∧ chCnt 0x22 ≤ (st [(F.COM_CHSEL_CH, 552, 24)] []).dev.get F.COM_CHSEL_CH (0x22 * 16 + 8) := by
  decide +kernel

/-- A state for clause 1 of ChannelsBeyondTheBlockAreNotThere. -/
abbrev wChannelsBeyondTheBlockAreNotThere0 : State := st [(F.COM_CHSEL_CH, 288, 600)] []
/-- A state for clause 2 of ChannelsBeyondTheBlockAreNotThere. -/
abbrev wChannelsBeyondTheBlockAreNotThere1 : State := st [] []

/-- The hypotheses of the clauses of ChannelsBeyondTheBlockAreNotThere are met. -/
theorem wit_ChannelsBeyondTheBlockAreNotThere :
    (((⟨false, 0x12, 0x100, 4, 9, false⟩ : RegIn).ufs = false) ∧ (slots.contains (⟨false, 0x12, 0x100, 4, 9, false⟩ : RegIn).slot.toNat = true) ∧ (Taken wChannelsBeyondTheBlockAreNotThere0 (⟨false, 0x12, 0x100, 4, 9, false⟩ : RegIn).slot.toNat (⟨0, true⟩ : Acc)) ∧ ((⟨false, 0x12, 0x100, 4, 9, false⟩ : RegIn).len.toNat = 4) ∧ ((⟨false, 0x12, 0x100, 4, 9, false⟩ : RegIn).off.toNat % 4 = 0) ∧ (((regAt (⟨false, 0x12, 0x100, 4, 9, false⟩ : RegIn).slot.toNat (⟨false, 0x12, 0x100, 4, 9, false⟩ : RegIn).off.toNat).any fun r => r.reg.chan) = true) ∧ (chCnt (⟨false, 0x12, 0x100, 4, 9, false⟩ : RegIn).slot.toNat ≤ wChannelsBeyondTheBlockAreNotThere0.dev.get F.COM_CHSEL_CH ((⟨false, 0x12, 0x100, 4, 9, false⟩ : RegIn).slot.toNat * 16 + (⟨0, true⟩ : Acc).bank.val))) ∧
    ((slots.contains (0x12 : BitVec 6).toNat = true) ∧ (Taken wChannelsBeyondTheBlockAreNotThere1 (0x12 : BitVec 6).toNat (⟨0, true⟩ : Acc)) ∧ (chCnt (0x12 : BitVec 6).toNat ≤ (700 : BitVec 16).toNat)) := by
  and_intros <;> decide +kernel

/-- A state for clause 1 of SoftResetDiscardsShadows. -/
abbrev wSoftResetDiscardsShadows0 : State := st [(F.GNTK_EPOCH_CFG_EPER, 0, 7), (F.COM_APPLY_PEND, 0x12, 1)] []

/-- The hypotheses of the clauses of SoftResetDiscardsShadows are met. -/
theorem wit_SoftResetDiscardsShadows :
    ((slots.contains (0x12 : BitVec 6).toNat = true) ∧ (Taken wSoftResetDiscardsShadows0 (0x12 : BitVec 6).toNat (⟨0, true⟩ : Acc)) ∧ (softIgnored (0x12 : BitVec 6).toNat = false) ∧ (wSoftResetDiscardsShadows0.dev.var V.softRst ((0x12 : BitVec 6).toNat) ≠ 2)) := by
  and_intros <;> decide +kernel

/-- Accesses that are turned away: without privilege, and from another plane. -/
theorem wit_AccessesThatAreNotAllowedAreRefused : accCause 0x07 0x820 ⟨0, false⟩ true = some 2 ∧ accCause 0x22 0x104 ⟨0, true⟩ true = some 3 := by
  decide +kernel


/-- The hypotheses of the shared write: canonical DRAM, the IOMMU in Bare mode, one byte of good DRAM. -/
theorem wit_DeviceWritesReachTheirBytesAlone_write :
    Memory.wf (st [(F.IOMU_DDTP_V, 0, 1)] []).mem = true ∧ (st [(F.IOMU_DDTP_V, 0, 1)] []).dev.get F.IOMU_DDTP_V 0 % 16 = 1 ∧
    inDram (0x100000000 + 0) = true ∧ (st [(F.IOMU_DDTP_V, 0, 1)] []).dev.poisoned (0x100000000 + 0) = false := by
  decide +kernel

/-- A state for clause 1 of DeviceWritesReachTheirBytesAlone. -/
abbrev wDeviceWritesReachTheirBytesAlone0 : State := st [(F.EGO_STAT_VALID, 0, 1), (F.IOMU_DDTP_V, 0, 1), (F.EGO_RING_BASE.act, 0, 0x100000000), (F.COM_STAT_RUN, 0x19, 1)] []
/-- A state for clause 2 of DeviceWritesReachTheirBytesAlone. -/
abbrev wDeviceWritesReachTheirBytesAlone1 : State := st [(F.IOMU_DDTP_V, 0, 1), (F.GNTK_RING_BASE.act, 0, 0x100000000), (F.GNTK_RING_CFG_NEP.act, 0, 3)] [(V.epochPend, 0, 1)]
/-- A state for clause 3 of DeviceWritesReachTheirBytesAlone. -/
abbrev wDeviceWritesReachTheirBytesAlone2 : State := st [(F.IOMU_DDTP_V, 0, 1), (F.GNTK_NAV_BASE.act, 0, 0x100000000), (F.COM_STAT_RUN, 0x12, 1), (F.GNTK_CH_CFG_NAV, 0, 1), (F.GNTK_CH_STAT_STATE, 0, 4)] []
/-- A state for clause 4 of DeviceWritesReachTheirBytesAlone. -/
abbrev wDeviceWritesReachTheirBytesAlone3 : State := st [(F.IOMU_DDTP_V, 0, 1), (F.GNAQ_ENG_SNAP_BASE.act, 0, 0x100000000)] [(V.acqPhase, 0, 3)]
/-- A state for clause 5 of DeviceWritesReachTheirBytesAlone. -/
abbrev wDeviceWritesReachTheirBytesAlone4 : State := st [(F.IOMU_DDTP_V, 0, 1), (F.COM_STAT_RUN, 0x1B, 1), (F.CROP_YRING_BASE.act, 0, 0x100000000)] []
/-- A state for clause 6 of DeviceWritesReachTheirBytesAlone. -/
abbrev wDeviceWritesReachTheirBytesAlone5 : State := st [(F.IOMU_DDTP_V, 0, 1), (F.CNPY_HP_STAT_ST, 0, 2), (F.CNPY_HP_OUT_BASE, 0, 0x100000000)] []
/-- A state for clause 7 of DeviceWritesReachTheirBytesAlone. -/
abbrev wDeviceWritesReachTheirBytesAlone6 : State := { st [(F.IOMU_DDTP_V, 0, 1), (F.DMA_CH_STAT_STATE, 0, 1), (F.DMA_CH_CUR_CUR, 0, 0x100000000)] [] with dev := { (st [(F.IOMU_DDTP_V, 0, 1), (F.DMA_CH_STAT_STATE, 0, 1), (F.DMA_CH_CUR_CUR, 0, 0x100000000)] []).dev with dmaCh := [((0, 0), { DmaChan.none_ with ctrl := 2048, ended := true })] } }
/-- A state for clause 8 of DeviceWritesReachTheirBytesAlone. -/
abbrev wDeviceWritesReachTheirBytesAlone7 : State := { st [(F.IOMU_DDTP_V, 0, 1), (F.COM_STAT_RUN, 0x2A, 1), (F.ETH_PORT_CFG_EN, 9, 1), (F.ETH_PORT_STAT_LINK, 9, 1), (F.HQ_TXBASE_BASE, 0, 0x100000000), (F.HQ_TXWR_IDX, 0, 5)] [] with mem := [(0x10000000A, 1)] }
/-- A state for clause 9 of DeviceWritesReachTheirBytesAlone. -/
abbrev wDeviceWritesReachTheirBytesAlone8 : State := { st [(F.IOMU_DDTP_V, 0, 1), (F.COM_STAT_RUN, 0x2A, 1), (F.ETH_PORT_CFG_EN, 9, 1), (F.ETH_PORT_STAT_LINK, 9, 1), (F.HQ_RXBASE_BASE, 3, 0x100000000)] [] with mem := [(0x100000004, 1), (0x10000000A, 1)], dev.bytes := [((40, 3), [1, 0, 0, 0, 0, 0, 0, 0, 0, 1, 0, 7])] }
/-- A state for clause 10 of DeviceWritesReachTheirBytesAlone. -/
abbrev wDeviceWritesReachTheirBytesAlone9 : State := st [(F.IOMU_DDTP_V, 0, 1), (F.CNPY_GRID_BASE.act, 0, 0x100000000)] []
/-- A state for clause 11 of DeviceWritesReachTheirBytesAlone. -/
abbrev wDeviceWritesReachTheirBytesAlone10 : State := st [(F.IOMU_DDTP_V, 0, 1), (F.CNPY_HDR_BASE.act, 0, 0x100000000), (F.CNPY_GSEQ_SEQ, 0, 1)] []
/-- A state for clause 12 of DeviceWritesReachTheirBytesAlone. -/
abbrev wDeviceWritesReachTheirBytesAlone11 : State := { st [(F.COM_STAT_RUN, 0x0A, 1), (F.DMA_CH_STAT_STATE, 2, 1), (F.IOMU_DDTP_V, 0, 1)] [] with dev := { (st [(F.COM_STAT_RUN, 0x0A, 1), (F.DMA_CH_STAT_STATE, 2, 1), (F.IOMU_DDTP_V, 0, 1)] []).dev with dmaCh := [((0, 2), { DmaChan.none_ with fetched := true, len := 4, rows := 1, dst := 0x100000000, held := [1, 2, 3, 4], read := 4 })] } }

/-- The hypotheses of the clauses of DeviceWritesReachTheirBytesAlone are met. -/
theorem wit_DeviceWritesReachTheirBytesAlone :
    ((Memory.wf wDeviceWritesReachTheirBytesAlone0.mem = true) ∧ (wDeviceWritesReachTheirBytesAlone0.dev.get F.IOMU_DDTP_V 0 % 16 = 1) ∧ ((5 : Nat) < wDeviceWritesReachTheirBytesAlone0.dev.get F.EGO_RING_BASE.act 0 ∨ wDeviceWritesReachTheirBytesAlone0.dev.get F.EGO_RING_BASE.act 0 + 32 * 16384 ≤ (5 : Nat))) ∧
    ((Memory.wf wDeviceWritesReachTheirBytesAlone1.mem = true) ∧ ((wDeviceWritesReachTheirBytesAlone1.dev.blob 50 0 ++ wDeviceWritesReachTheirBytesAlone1.dev.blob 51 0).length ≤ 20480) ∧ (wDeviceWritesReachTheirBytesAlone1.dev.get F.IOMU_DDTP_V 0 % 16 = 1) ∧ ((5 : Nat) < wDeviceWritesReachTheirBytesAlone1.dev.get F.GNTK_RING_BASE.act 0 / 4096 * 4096 + 20480 * wDeviceWritesReachTheirBytesAlone1.dev.get F.GNTK_RING_WR_WR 0 ∨ wDeviceWritesReachTheirBytesAlone1.dev.get F.GNTK_RING_BASE.act 0 / 4096 * 4096 + 20480 * wDeviceWritesReachTheirBytesAlone1.dev.get F.GNTK_RING_WR_WR 0 + 20480 ≤ (5 : Nat))) ∧
    ((Memory.wf wDeviceWritesReachTheirBytesAlone2.mem = true) ∧ (wDeviceWritesReachTheirBytesAlone2.dev.get F.IOMU_DDTP_V 0 % 16 = 1) ∧ ((5 : Nat) < wDeviceWritesReachTheirBytesAlone2.dev.get F.GNTK_NAV_BASE.act 0 / 4096 * 4096 + 16 * (wDeviceWritesReachTheirBytesAlone2.dev.get F.GNTK_NAV_WR_IDX 0 % (256 * 2 ^ min (wDeviceWritesReachTheirBytesAlone2.dev.get F.GNTK_NAV_CFG_SIZE.act 0) 8)) ∨ wDeviceWritesReachTheirBytesAlone2.dev.get F.GNTK_NAV_BASE.act 0 / 4096 * 4096 + 16 * (wDeviceWritesReachTheirBytesAlone2.dev.get F.GNTK_NAV_WR_IDX 0 % (256 * 2 ^ min (wDeviceWritesReachTheirBytesAlone2.dev.get F.GNTK_NAV_CFG_SIZE.act 0) 8)) + 16 ≤ (5 : Nat))) ∧
    ((Memory.wf wDeviceWritesReachTheirBytesAlone3.mem = true) ∧ (wDeviceWritesReachTheirBytesAlone3.dev.get F.IOMU_DDTP_V 0 % 16 = 1) ∧ ((5 : Nat) < wDeviceWritesReachTheirBytesAlone3.dev.get F.GNAQ_ENG_SNAP_BASE.act (0 : Fin 3) / 4096 * 4096 ∨ wDeviceWritesReachTheirBytesAlone3.dev.get F.GNAQ_ENG_SNAP_BASE.act (0 : Fin 3) / 4096 * 4096 + wDeviceWritesReachTheirBytesAlone3.dev.acqBytes (0 : Fin 3) ≤ (5 : Nat))) ∧
    ((Memory.wf wDeviceWritesReachTheirBytesAlone4.mem = true) ∧ (wDeviceWritesReachTheirBytesAlone4.dev.get F.IOMU_DDTP_V 0 % 16 = 1) ∧ ((5 : Nat) < wDeviceWritesReachTheirBytesAlone4.dev.get F.CROP_YRING_BASE.act 0 / 4096 * 4096 ∨ wDeviceWritesReachTheirBytesAlone4.dev.get F.CROP_YRING_BASE.act 0 / 4096 * 4096 + 32 * 16384 ≤ (5 : Nat))) ∧
    ((Memory.wf wDeviceWritesReachTheirBytesAlone5.mem = true) ∧ (wDeviceWritesReachTheirBytesAlone5.dev.get F.IOMU_DDTP_V 0 % 16 = 1) ∧ ((5 : Nat) < wDeviceWritesReachTheirBytesAlone5.dev.get F.CNPY_HP_OUT_BASE 0 ∨ wDeviceWritesReachTheirBytesAlone5.dev.get F.CNPY_HP_OUT_BASE 0 + projPlaces wDeviceWritesReachTheirBytesAlone5 ≤ (5 : Nat))) ∧
    ((Memory.wf wDeviceWritesReachTheirBytesAlone6.mem = true) ∧ (wDeviceWritesReachTheirBytesAlone6.dev.get F.IOMU_DDTP_V 0 % 16 = 1) ∧ ((5 : Nat) < wDeviceWritesReachTheirBytesAlone6.dev.get F.DMA_CH_CUR_CUR (0 : Fin 64) + 28 ∨ wDeviceWritesReachTheirBytesAlone6.dev.get F.DMA_CH_CUR_CUR (0 : Fin 64) + 32 ≤ (5 : Nat)) ∧ ((5 : Nat) < wDeviceWritesReachTheirBytesAlone6.dev.get F.DMA_CH_CUR_CUR (0 : Fin 64) + 56 ∨ wDeviceWritesReachTheirBytesAlone6.dev.get F.DMA_CH_CUR_CUR (0 : Fin 64) + 64 ≤ (5 : Nat))) ∧
    ((Memory.wf wDeviceWritesReachTheirBytesAlone7.mem = true) ∧ (wDeviceWritesReachTheirBytesAlone7.dev.get F.IOMU_DDTP_V 0 % 16 = 1) ∧ ((5 : Nat) < wDeviceWritesReachTheirBytesAlone7.dev.get F.HQ_TXBASE_BASE (0 : Fin 8) + 32 * (wDeviceWritesReachTheirBytesAlone7.dev.get F.HQ_TXRD_IDX (0 : Fin 8) % hqSize (wDeviceWritesReachTheirBytesAlone7.dev.get F.HQ_SIZE_TXSIZE (0 : Fin 8))) ∨ wDeviceWritesReachTheirBytesAlone7.dev.get F.HQ_TXBASE_BASE (0 : Fin 8) + 32 * (wDeviceWritesReachTheirBytesAlone7.dev.get F.HQ_TXRD_IDX (0 : Fin 8) % hqSize (wDeviceWritesReachTheirBytesAlone7.dev.get F.HQ_SIZE_TXSIZE (0 : Fin 8))) + 32 ≤ (5 : Nat))) ∧
    ((Memory.wf wDeviceWritesReachTheirBytesAlone8.mem = true) ∧ (wDeviceWritesReachTheirBytesAlone8.dev.get F.IOMU_DDTP_V 0 % 16 = 1) ∧ ((wDeviceWritesReachTheirBytesAlone8.devRead 0x02A0 (wDeviceWritesReachTheirBytesAlone8.dev.get F.HQ_RXBASE_BASE (3 : Fin 8) + 32 * (wDeviceWritesReachTheirBytesAlone8.dev.get F.HQ_RXWR_IDX (3 : Fin 8) % hqSize (wDeviceWritesReachTheirBytesAlone8.dev.get F.HQ_SIZE_RXSIZE (3 : Fin 8)))) 32).2 = .ok ([0,0,0,0,1,0,0,0,0,0,1,0,0,0,0,0,0,0,0,0,0,0,0,0,0,0,0,0,0,0,0,0] : List Nat)) ∧ ((5 : Nat) < leAt ([0,0,0,0,1,0,0,0,0,0,1,0,0,0,0,0,0,0,0,0,0,0,0,0,0,0,0,0,0,0,0,0] : List Nat) 0 8 ∨ leAt ([0,0,0,0,1,0,0,0,0,0,1,0,0,0,0,0,0,0,0,0,0,0,0,0,0,0,0,0,0,0,0,0] : List Nat) 0 8 + leAt (wDeviceWritesReachTheirBytesAlone8.dev.blob 40 (3 : Fin 8)) 9 2 ≤ (5 : Nat)) ∧ ((5 : Nat) < wDeviceWritesReachTheirBytesAlone8.dev.get F.HQ_RXBASE_BASE (3 : Fin 8) + 32 * (wDeviceWritesReachTheirBytesAlone8.dev.get F.HQ_RXWR_IDX (3 : Fin 8) % hqSize (wDeviceWritesReachTheirBytesAlone8.dev.get F.HQ_SIZE_RXSIZE (3 : Fin 8))) ∨ wDeviceWritesReachTheirBytesAlone8.dev.get F.HQ_RXBASE_BASE (3 : Fin 8) + 32 * (wDeviceWritesReachTheirBytesAlone8.dev.get F.HQ_RXWR_IDX (3 : Fin 8) % hqSize (wDeviceWritesReachTheirBytesAlone8.dev.get F.HQ_SIZE_RXSIZE (3 : Fin 8))) + 32 ≤ (5 : Nat))) ∧
    ((Memory.wf wDeviceWritesReachTheirBytesAlone9.mem = true) ∧ (wDeviceWritesReachTheirBytesAlone9.dev.get F.IOMU_DDTP_V 0 % 16 = 1) ∧ (0 ≤ wDeviceWritesReachTheirBytesAlone9.dev.var V.gridSweep 0) ∧ (wDeviceWritesReachTheirBytesAlone9.dev.var V.gridSweep 0 < 16) ∧ ((5 : Nat) < wDeviceWritesReachTheirBytesAlone9.dev.get F.CNPY_GRID_BASE.act 0 / 4096 * 4096 ∨ wDeviceWritesReachTheirBytesAlone9.dev.get F.CNPY_GRID_BASE.act 0 / 4096 * 4096 + 20480000 ≤ (5 : Nat))) ∧
    ((Memory.wf wDeviceWritesReachTheirBytesAlone10.mem = true) ∧ (wDeviceWritesReachTheirBytesAlone10.dev.get F.IOMU_DDTP_V 0 % 16 = 1) ∧ ((5 : Nat) < wDeviceWritesReachTheirBytesAlone10.dev.get F.CNPY_HDR_BASE.act 0 / 4096 * 4096 + 64 * ((wDeviceWritesReachTheirBytesAlone10.dev.var V.hdrWr 0).toNat % max 2 (wDeviceWritesReachTheirBytesAlone10.dev.get F.CNPY_HDR_CFG_NHDR.act 0)) ∨ wDeviceWritesReachTheirBytesAlone10.dev.get F.CNPY_HDR_BASE.act 0 / 4096 * 4096 + 64 * ((wDeviceWritesReachTheirBytesAlone10.dev.var V.hdrWr 0).toNat % max 2 (wDeviceWritesReachTheirBytesAlone10.dev.get F.CNPY_HDR_CFG_NHDR.act 0)) + 64 ≤ (5 : Nat))) ∧
    ((Memory.wf wDeviceWritesReachTheirBytesAlone11.mem = true) ∧ (wDeviceWritesReachTheirBytesAlone11.dev.get F.IOMU_DDTP_V 0 % 16 = 1) ∧ (∀ w < 64, wDeviceWritesReachTheirBytesAlone11.dev.dmaWinner (0 : Fin 4) = some w → 0x100000000 ≤ (wDeviceWritesReachTheirBytesAlone11.dev.chan w).dstAt) ∧ (∀ w < 64, wDeviceWritesReachTheirBytesAlone11.dev.dmaWinner (0 : Fin 4) = some w → (5 : Nat) < (wDeviceWritesReachTheirBytesAlone11.dev.chan w).dstAt ∨ (wDeviceWritesReachTheirBytesAlone11.dev.chan w).dstAt + (wDeviceWritesReachTheirBytesAlone11.dev.chan w).ready ≤ (5 : Nat))) := by
  and_intros <;> decide +kernel

/-- A state for clause 1 of CommandsOfOneChannelLeaveTheOthers. -/
abbrev wCommandsOfOneChannelLeaveTheOthers0 : State := st [] []
/-- A state for clause 2 of CommandsOfOneChannelLeaveTheOthers. -/
abbrev wCommandsOfOneChannelLeaveTheOthers1 : State := st [] []
/-- A state for clause 3 of CommandsOfOneChannelLeaveTheOthers. -/
abbrev wCommandsOfOneChannelLeaveTheOthers2 : State := st [(F.COM_STAT_RUN, 0x12, 1)] []
/-- A state for clause 4 of CommandsOfOneChannelLeaveTheOthers. -/
abbrev wCommandsOfOneChannelLeaveTheOthers3 : State := st [] []
/-- A state for clause 5 of CommandsOfOneChannelLeaveTheOthers. -/
abbrev wCommandsOfOneChannelLeaveTheOthers4 : State := st [] []
/-- A state for clause 6 of CommandsOfOneChannelLeaveTheOthers. -/
abbrev wCommandsOfOneChannelLeaveTheOthers5 : State := st [] []
/-- A state for clause 7 of CommandsOfOneChannelLeaveTheOthers. -/
abbrev wCommandsOfOneChannelLeaveTheOthers6 : State := st [] []
/-- A state for clause 8 of CommandsOfOneChannelLeaveTheOthers. -/
abbrev wCommandsOfOneChannelLeaveTheOthers7 : State := st [] []
/-- A state for clause 9 of CommandsOfOneChannelLeaveTheOthers. -/
abbrev wCommandsOfOneChannelLeaveTheOthers8 : State := st [] []
/-- A state for clause 10 of CommandsOfOneChannelLeaveTheOthers. -/
abbrev wCommandsOfOneChannelLeaveTheOthers9 : State := st [] []
/-- A state for clause 11 of CommandsOfOneChannelLeaveTheOthers. -/
abbrev wCommandsOfOneChannelLeaveTheOthers10 : State := st [(F.LSW_CH_STAT_STATE, 0, 4)] []
/-- A state for clause 12 of CommandsOfOneChannelLeaveTheOthers. -/
abbrev wCommandsOfOneChannelLeaveTheOthers11 : State := st [] []
/-- A state for clause 13 of CommandsOfOneChannelLeaveTheOthers. -/
abbrev wCommandsOfOneChannelLeaveTheOthers12 : State := st [] []
/-- A state for clause 14 of CommandsOfOneChannelLeaveTheOthers. -/
abbrev wCommandsOfOneChannelLeaveTheOthers13 : State := st [] []
/-- A state for clause 15 of CommandsOfOneChannelLeaveTheOthers. -/
abbrev wCommandsOfOneChannelLeaveTheOthers14 : State := st [] []
/-- A state for clause 16 of CommandsOfOneChannelLeaveTheOthers. -/
abbrev wCommandsOfOneChannelLeaveTheOthers15 : State := st [(F.TRIG_CFG_EN, 0, 1)] []
/-- A state for clause 17 of CommandsOfOneChannelLeaveTheOthers. -/
abbrev wCommandsOfOneChannelLeaveTheOthers16 : State := st [] []
/-- A state for clause 18 of CommandsOfOneChannelLeaveTheOthers. -/
abbrev wCommandsOfOneChannelLeaveTheOthers17 : State := st [] []
/-- A state for clause 19 of CommandsOfOneChannelLeaveTheOthers. -/
abbrev wCommandsOfOneChannelLeaveTheOthers18 : State := st [] []
/-- A state for clause 20 of CommandsOfOneChannelLeaveTheOthers. -/
abbrev wCommandsOfOneChannelLeaveTheOthers19 : State := st [] []

/-- The hypotheses of the clauses of CommandsOfOneChannelLeaveTheOthers are met. -/
theorem wit_CommandsOfOneChannelLeaveTheOthers :
    (((50 : Nat) ≠ wCommandsOfOneChannelLeaveTheOthers0.dev.chSel 0x0A (⟨0, true⟩ : Acc))) ∧
    (((50 : Nat) ≠ wCommandsOfOneChannelLeaveTheOthers1.dev.chSel 0x0A (⟨0, true⟩ : Acc))) ∧
    (((50 : Nat) ≠ wCommandsOfOneChannelLeaveTheOthers2.dev.chSel 0x12 (⟨0, true⟩ : Acc))) ∧
    (((50 : Nat) ≠ wCommandsOfOneChannelLeaveTheOthers3.dev.chSel 0x12 (⟨0, true⟩ : Acc))) ∧
    (((50 : Nat) ≠ wCommandsOfOneChannelLeaveTheOthers4.dev.chSel 0x11 (⟨0, true⟩ : Acc))) ∧
    (((50 : Nat) ≠ wCommandsOfOneChannelLeaveTheOthers5.dev.chSel 0x18 (⟨0, true⟩ : Acc))) ∧
    (((50 : Nat) ≠ wCommandsOfOneChannelLeaveTheOthers6.dev.chSel 0x20 (⟨8, true⟩ : Acc))) ∧
    (((50 : Nat) ≠ wCommandsOfOneChannelLeaveTheOthers7.dev.chSel 0x21 (⟨8, true⟩ : Acc))) ∧
    (((50 : Nat) ≠ wCommandsOfOneChannelLeaveTheOthers8.dev.chSel 0x21 (⟨8, true⟩ : Acc))) ∧
    (((50 : Nat) ≠ wCommandsOfOneChannelLeaveTheOthers9.dev.chSel 0x22 (⟨8, true⟩ : Acc))) ∧
    (((50 : Nat) ≠ wCommandsOfOneChannelLeaveTheOthers10.dev.chSel 0x22 (⟨8, true⟩ : Acc))) ∧
    (((50 : Nat) ≠ wCommandsOfOneChannelLeaveTheOthers11.dev.chSel 0x28 (⟨8, true⟩ : Acc))) ∧
    (((50 : Nat) ≠ wCommandsOfOneChannelLeaveTheOthers12.dev.chSel 0x2A (⟨0, true⟩ : Acc))) ∧
    (((50 : Nat) ≠ wCommandsOfOneChannelLeaveTheOthers13.dev.chSel 0x2B (⟨8, true⟩ : Acc))) ∧
    (((50 : Nat) ≠ (0 : Fin 16).val)) ∧
    (((50 : Nat) ≠ (0 : Fin 16).val)) ∧
    (((50 : Nat) ≠ (70 : BitVec 32).toNat % 512)) ∧
    (((50 : Nat) ≠ (0x12 : BitVec 6).toNat)) ∧
    (((50 : Nat) ≠ (0x12 : BitVec 6).toNat)) ∧
    (((50 : Nat) ≠ (0x12 : BitVec 6).toNat)) := by
  and_intros <;> decide +kernel







end Sys2Proof.Machine
end

section
/-! ## Frames of commands: what a change keeps

A scope lists what a command may change. The view of a state under a scope is what is left of the state when that is taken away. A lemma `view_f` says
that the function `f` of the model keeps the view under every scope that allows the fields `f` writes: its hypothesis is the footprint of `f`. These
lemmas follow the model's call structure, each from those of the functions it calls, up to the meanings of the commands (`kept_exec…`). -/

namespace Sys2Proof

/-- Entries of other keys may leave a store: the value under a key stays. -/
theorem Store.find_filter {α : Type} (s : Store α) (p : (Nat × Nat) × α → Bool) (k : Nat × Nat) (h : ∀ v, p (k, v) = true) :
    Store.find (s.filter p) k = s.find k := by
  induction s with
  | nil => rfl
  | cons e t ih =>
    obtain ⟨k', v⟩ := e
    by_cases hk : k' = k
    · subst hk; simp [Store.find, h]
    · cases hp : p (k', v) <;> simp [Store.find, hp, hk, ih]

end Sys2Proof

namespace Sys2Proof.Machine

/-- What a command may change beside what any event of a block writes: the fields listed and, where marked, Grove time, memory, the log and OTP. -/
structure Scope where
  flds : List Fld
  grove : Bool := false
  mem : Bool := false
  log : Bool := false
  otp : Bool := false

/-- The field is outside the scope: neither a field of it nor the active value of one, and none that an event writes. -/
def Scope.Keeps (κ : Scope) (f : Fld) : Prop := ∀ g ∈ frameEvents ++ κ.flds, f.kid ≠ g.kid ∧ f.kid ≠ g.act.kid

/-- What a device shows outside a scope: the value of every field the scope keeps, at every index, and Grove time. -/
def Dev.view (κ : Scope) (d : Dev) : ({f : Fld // κ.Keeps f} → Nat → Nat) × Option Int :=
  (fun f i => d.get f i, if κ.grove then none else some (d.var V.grove 0))

variable {κ : Scope}

/-! ### The device's operations -/

theorem Dev.view_eq {d e : Dev} (hr : ∀ f, κ.Keeps f → ∀ i, d.get f i = e.get f i) (hv : d.var V.grove 0 = e.var V.grove 0) :
    d.view κ = e.view κ := by
  simp only [Dev.view, hv, Prod.mk.injEq, and_true]
  exact funext fun f => funext fun i => hr f f.2 i

/-- A device that comes with a result: its view is that of the pair's device. -/
theorem Dev.view_of_eq {α : Type} {p : Dev × α} {e : Dev} {x : α} (h : p = (e, x)) : e.view κ = p.1.view κ := by rw [h]

theorem Dev.view_set_of_mem {f : Fld} (h : f ∈ frameEvents ++ κ.flds) (d : Dev) (i v : Nat) : (d.set f i v).view κ = d.view κ :=
  Dev.view_eq (fun _ hg _ => d.get_set_kid _ _ _ (hg f h).1) rfl

@[simp] theorem Dev.view_set {f : Fld} (h : f ∈ κ.flds) (d : Dev) (i v : Nat) : (d.set f i v).view κ = d.view κ :=
  Dev.view_set_of_mem (List.mem_append_right _ h) d i v

theorem Dev.view_set_event {f : Fld} (h : f ∈ frameEvents) (d : Dev) (i v : Nat) : (d.set f i v).view κ = d.view κ :=
  Dev.view_set_of_mem (List.mem_append_left _ h) d i v

@[simp] theorem Dev.view_setI {f : Fld} (h : f ∈ κ.flds) (d : Dev) (i : Nat) (v : Int) : (d.setI f i v).view κ = d.view κ :=
  Dev.view_set h d i _

@[simp] theorem Dev.view_incSat {f : Fld} (h : f ∈ κ.flds) (d : Dev) (i n : Nat) : (d.incSat f i n).view κ = d.view κ :=
  Dev.view_set h d i _

@[simp] theorem Dev.view_incWrap {f : Fld} (h : f ∈ κ.flds) (d : Dev) (i n : Nat) : (d.incWrap f i n).view κ = d.view κ :=
  Dev.view_set h d i _

@[simp] theorem Dev.view_setVar {x : Vr} (h : V.grove.id ≠ x.id) (d : Dev) (i : Nat) (v : Int) : (d.setVar x i v).view κ = d.view κ :=
  Dev.view_eq (fun _ _ _ => rfl) (d.var_setVar_id _ _ _ h)

@[simp] theorem Dev.view_mark {x : Vr} (h : V.grove.id ≠ x.id) (d : Dev) (i : Nat) : (d.mark x i).view κ = d.view κ :=
  Dev.view_setVar h d i _

@[simp] theorem Dev.view_setVar_grove (h : κ.grove = true) (d : Dev) (i : Nat) (v : Int) : (d.setVar V.grove i v).view κ = d.view κ := by
  simp [Dev.view, h]

/-- An update that keeps the registers and the variables keeps every view. -/
@[simp] theorem Dev.view_mk (d : Dev) (a b e f g h i j k l m n o p q r s t u v w) :
    Dev.view κ ⟨d.regs, d.vars, a, b, e, f, g, h, i, j, k, l, m, n, o, p, q, r, s, t, u, v, w⟩ = d.view κ :=
  Dev.view_eq (fun _ _ _ => rfl) rfl

/-- Variables other than Grove time may be dropped. -/
theorem Dev.view_filter (d : Dev) (c : (Nat × Nat) × Int → Bool) (hc : ∀ v, c ((V.grove.id, 0), v) = true) (a b e f g h i j k l m n o p q r s t u v w) :
    Dev.view κ ⟨d.regs, d.vars.filter c, a, b, e, f, g, h, i, j, k, l, m, n, o, p, q, r, s, t, u, v, w⟩ = d.view κ :=
  Dev.view_eq (fun _ _ _ => rfl) (by simp only [Dev.var, Store.find_filter _ _ _ hc])

@[simp] theorem Dev.view_setPast (d : Dev) (n i : Nat) (l) : (d.setPast n i l).view κ = d.view κ := Dev.view_mk d ..
@[simp] theorem Dev.view_setBlob (d : Dev) (n i : Nat) (l) : (d.setBlob n i l).view κ = d.view κ := Dev.view_mk d ..
@[simp] theorem Dev.view_useFree (d : Dev) : d.useFree.view κ = d.view κ := Dev.view_mk d ..
@[simp] theorem Dev.view_report (d : Dev) (a b e f : Nat) (l) : (d.report a b e f l).view κ = d.view κ := Dev.view_mk d ..
@[simp] theorem Dev.view_good (d : Dev) : d.good.view κ = d.view κ := Dev.view_mk d ..
@[simp] theorem Dev.view_fail (d : Dev) : d.fail.view κ = d.view κ := Dev.view_mk d ..

@[simp] theorem Dev.view_ite (p : Prop) [Decidable p] (d e : Dev) : (if p then d else e).view κ = if p then d.view κ else e.view κ :=
  apply_ite _ _ _ _

@[simp] theorem Dev.view_when (d : Dev) (b : Bool) (k : Dev → Dev) : (d.when b k).view κ = if b then (k d).view κ else d.view κ := by
  cases b <;> rfl

@[simp] theorem Dev.view_each (d : Dev) (l : List Nat) (k : Nat → Dev → Dev) (h : ∀ i a, (k i a).view κ = a.view κ) :
    (d.each l k).view κ = d.view κ :=
  Dev.each_keeps (Dev.view κ) k l d fun i _ a => h i a

@[simp] theorem Dev.view_foldl {α : Type} (d : Dev) (l : List α) (k : Dev → α → Dev) (h : ∀ a i, (k a i).view κ = a.view κ) :
    (l.foldl k d).view κ = d.view κ := by
  induction l generalizing d with
  | nil => rfl
  | cons x t ih => exact (ih (k d x)).trans (h d x)

@[simp] theorem Dev.view_asBank (d : Dev) (b : Nat) (k : Dev → Dev) : (d.asBank b k).view κ = (k { d with acc := b }).view κ :=
  Dev.view_mk _ ..

/-! ### Events, errors and write accesses -/

@[simp] theorem Dev.view_coneAdd (d : Dev) (k n : Nat) : (d.coneAdd k n).view κ = d.view κ := by
  simp only [Dev.coneAdd, Dev.view_ite, Dev.view_set_event (f := F.COM_CONE_CNT_V) (by simp [frameEvents]),
    Dev.view_set_event (f := F.COM_CONE_CNT_WRAP) (by simp [frameEvents]), ite_self]

@[simp] theorem Dev.view_cone (d : Dev) (slot ev n : Nat) : (d.cone slot ev n).view κ = d.view κ := by
  simp [Dev.cone]

@[simp] theorem Dev.view_irq (d : Dev) (slot b : Nat) : (d.irq slot b).view κ = d.view κ := by
  simp [Dev.irq, Dev.view_set_event (f := F.COM_IRQ_STAT_V) (by simp [frameEvents])]

@[simp] theorem Dev.view_level (d : Dev) (slot b : Nat) (v : Bool) : (d.level slot b v).view κ = d.view κ := by
  simp [Dev.level, Dev.view_set_event (f := F.COM_IRQ_RAW_V) (by simp [frameEvents])]

@[simp] theorem Dev.view_errCapture (d : Dev) (slot k woff bank bcode : Nat) : (d.errCapture slot k woff bank bcode).view κ = d.view κ := by
  have e : ∀ f ∈ frameEvents, ∀ (d : Dev) i v, (d.set f i v).view κ = d.view κ := fun f hf d i v => d.view_set_event hf i v
  simp only [frameEvents, List.forall_mem_cons] at e
  simp [Dev.errCapture, e]

@[simp] theorem Dev.view_errAcc (d : Dev) (slot k off bank : Nat) : (d.errAcc slot k off bank).view κ = d.view κ := by
  simp [Dev.errAcc]

@[simp] theorem Dev.view_errBlk (d : Dev) (slot bcode cls : Nat) (pay : List Nat) : (d.errBlk slot bcode cls pay).view κ = d.view κ := by
  simp [Dev.errBlk]

@[simp] theorem Dev.view_slotNone (d : Dev) (off bank : Nat) : (d.slotNone off bank).view κ = d.view κ := by
  simp [Dev.slotNone]

/-- A write access keeps what its effect on the block keeps, whether the block takes it or turns it away. -/
@[simp] theorem Dev.view_wrAny (d : Dev) (slot off : Nat) (a : Acc) (k : Dev → Dev) (h : ∀ e, (k e).view κ = e.view κ) :
    (d.wrAny slot off a k).view κ = d.view κ := by
  unfold Dev.wrAny
  split
  · simp
  · simp [h]

@[simp] theorem Dev.view_wr (d : Dev) (slot off : Nat) (a : Acc) (k : Dev → Dev) (act : Bool) (h : ∀ e, (k e).view κ = e.view κ) :
    (d.wr slot off a k act).view κ = d.view κ := by
  simp [Dev.wr, h]

@[simp] theorem Dev.view_wrCh (d : Dev) (slot off : Nat) (a : Acc) (k : Nat → Dev → Dev) (act : Nat → Dev → Bool)
    (h : ∀ i e, (k i e).view κ = e.view κ) : (d.wrCh slot off a k act).view κ = d.view κ := by
  simp [Dev.wrCh, h]

/-! ### The state -/

/-- What memory, the log and OTP show outside a scope. -/
def Scope.rest (κ : Scope) (m : List Host.Cell) (l : List (Nat × LogCell)) (o : Otp) :
    Option (List Host.Cell) × Option (List (Nat × LogCell)) × Option Otp :=
  (if κ.mem then none else some m, if κ.log then none else some l, if κ.otp then none else some o)

/-- What a state shows outside a scope. -/
def State.view (κ : Scope) (s : State) := (s.dev.view κ, κ.rest s.mem s.log s.otp)

@[simp] theorem State.view_mk (d : Dev) (l o m p) : State.view κ ⟨d, l, o, m, p⟩ = (d.view κ, κ.rest m l o) := rfl

/-- A state that comes with a result: its view is that of the pair's state. -/
theorem State.view_of_eq {α : Type} {p : State × α} {t : State} {x : α} (h : p = (t, x)) : t.view κ = p.1.view κ := by rw [h]

@[simp] theorem State.view_eta (s : State) : (s.dev.view κ, κ.rest s.mem s.log s.otp) = s.view κ := by
  rw [State.view]

@[simp] theorem Scope.rest_mem (h : κ.mem = true) (s : State) (m) : κ.rest m s.log s.otp = κ.rest s.mem s.log s.otp := by simp [Scope.rest, h]
@[simp] theorem Scope.rest_log (h : κ.log = true) (s : State) (l) : κ.rest s.mem l s.otp = κ.rest s.mem s.log s.otp := by simp [Scope.rest, h]
@[simp] theorem Scope.rest_otp (h : κ.otp = true) (s : State) (o) : κ.rest s.mem s.log o = κ.rest s.mem s.log s.otp := by simp [Scope.rest, h]

@[simp] theorem State.view_ite (p : Prop) [Decidable p] (s t : State) : (if p then s else t).view κ = if p then s.view κ else t.view κ :=
  apply_ite _ _ _ _

@[simp] theorem State.view_foldl {α : Type} (s : State) (l : List α) (k : State → α → State) (h : ∀ a i, (k a i).view κ = a.view κ) :
    (l.foldl k s).view κ = s.view κ := by
  induction l generalizing s with
  | nil => rfl
  | cons x t ih => exact (ih (k s x)).trans (h s x)

@[simp] theorem State.view_each {α : Type} (s : State) (l : List α) (k : α → State → State) (h : ∀ i a, (k i a).view κ = a.view κ) :
    (s.each l k).view κ = s.view κ :=
  State.view_foldl s l _ fun a i => h i a

/-- The outcome is a next state, and it shows what the state showed outside the scope. -/
def Kept (κ : Scope) (s : State) (o : Host.Outcome State Fault Refusal) : Prop := ∃ t, o = .next t ∧ t.view κ = s.view κ

@[simp] theorem kept_next (s t : State) : Kept κ s (.next t) ↔ t.view κ = s.view κ := by simp [Kept]

@[simp] theorem kept_upd (s : State) (k : Dev → Dev) : Kept κ s (s.upd k) ↔ (k s.dev).view κ = s.dev.view κ := by
  simp only [State.upd_eq, kept_next, State.view, Prod.mk.injEq, and_true]

end Sys2Proof.Machine
end

section
/-! ### The named operations that the meanings share: the stores, register fields and variables, interrupts, errors and reports, accesses by an initiator, the
Clearing slots, the Sherd intake, DRAM and the performance counters -/

namespace Sys2Proof.Machine

variable {κ : Scope}

/-- What a violation of a Clearing slot writes. -/
def clrViolFlds : List Fld := [F.CLR_VIOL_KIND, F.CLR_VIOL_PLANE, F.CLR_VIOL_SLOT, F.CLR_VIOL_VALID]

theorem clrViolFlds_subset {l : List Fld} : clrViolFlds ⊆ l ↔ [F.CLR_VIOL_KIND, F.CLR_VIOL_PLANE, F.CLR_VIOL_SLOT, F.CLR_VIOL_VALID] ⊆ l := by
  rw [clrViolFlds]

@[simp] theorem Dev.view_clrViol (d : Dev) (slot plane kind : Nat) (h : clrViolFlds ⊆ κ.flds) : (d.clrViol slot plane kind).view κ = d.view κ := by
  simp only [clrViolFlds_subset, List.cons_subset] at h
  simp [Dev.clrViol, h]

@[simp] theorem Dev.view_whlGuardStep (d : Dev) : d.whlGuardStep.view κ = d.view κ := by
  simp +decide [Dev.whlGuardStep]

@[simp] theorem Dev.view_clrFill (d : Dev) (i g b : Nat) (l : List Nat) : (d.clrFill i g b l).view κ = d.view κ := by
  induction l generalizing d b with
  | nil => rfl
  | cons x t ih => exact ih _ _

/-- What a publication in a Clearing slot writes. -/
def clrFlds : List Fld := [F.CLR_HDR_GEN, F.CLR_HDR_LIVE, F.CLR_HDR_SEQ, F.CLR_HDR_STALE, F.CLR_HDR_WDRN, F.CLR_SLOT_STAT_AGE, F.CLR_VIOL_KIND,
  F.CLR_VIOL_PLANE, F.CLR_VIOL_SLOT, F.CLR_VIOL_VALID]

theorem clrFlds_subset {l : List Fld} : clrFlds ⊆ l ↔ [F.CLR_HDR_GEN, F.CLR_HDR_LIVE, F.CLR_HDR_SEQ, F.CLR_HDR_STALE, F.CLR_HDR_WDRN, F.CLR_SLOT_STAT_AGE,
    F.CLR_VIOL_KIND, F.CLR_VIOL_PLANE, F.CLR_VIOL_SLOT, F.CLR_VIOL_VALID] ⊆ l := by
  rw [clrFlds]

@[simp] theorem Dev.view_clrPublish (d : Dev) (i : Nat) (agent : Int) (h : clrFlds ⊆ κ.flds) : (d.clrPublish i agent).view κ = d.view κ := by
  simp only [clrFlds_subset, List.cons_subset] at h
  simp +decide [Dev.clrPublish, h, clrViolFlds_subset]

@[simp] theorem Dev.view_clrCommit (d : Dev) (i p : Nat) (agent : Int) (h : clrFlds ⊆ κ.flds) : (d.clrCommit i p agent).view κ = d.view κ := by
  simp only [clrFlds_subset, List.cons_subset] at h
  simp [Dev.clrCommit, h, clrViolFlds_subset, clrFlds_subset]

@[simp] theorem Dev.view_clrPost (d : Dev) (i agent : Nat) (l : List Nat) (h : clrFlds ⊆ κ.flds) : (d.clrPost i agent l).view κ = d.view κ := by
  simp [Dev.clrPost, h]

@[simp] theorem Dev.view_clrStale (d : Dev) (i : Nat) (h : [F.CLR_HDR_STALE, F.CLR_SLOT_STAT_STALECNT] ⊆ κ.flds) : (d.clrStale i).view κ = d.view κ := by
  simp only [List.cons_subset] at h
  simp [Dev.clrStale, h]

@[simp] theorem Dev.view_setPlane (d : Dev) (p : Nat) (v : Bool) (h : [F.CLR_HDR_STALE, F.CLR_PLANE_CTLUP, F.CLR_PLANE_DATAUP, F.CLR_PLANE_MGTUP,
      F.CLR_SLOT_STAT_STALECNT] ⊆ κ.flds) :
    (d.setPlane p v).view κ = d.view κ := by
  simp only [List.cons_subset] at h
  unfold Dev.setPlane
  repeat' split
  all_goals simp +decide [h]

@[simp] theorem Dev.view_cmdTake (d : Dev) (slot : Nat) : (d.cmdTake slot).view κ = d.view κ := by
  simp +decide [Dev.cmdTake]

/-- What the Sherd intake writes. -/
def intakeFlds : List Fld := [F.SHRD_FIFO_LVL, F.SHRD_FIFO_MAXLVL, F.SHRD_LOST_CNT]

theorem intakeFlds_subset {l : List Fld} : intakeFlds ⊆ l ↔ [F.SHRD_FIFO_LVL, F.SHRD_FIFO_MAXLVL, F.SHRD_LOST_CNT] ⊆ l := by
  rw [intakeFlds]

@[simp] theorem Dev.view_shrdIntake (d : Dev) (time : Int) (src flags code : Nat) (pay : List Nat) (errw : Nat) (h : intakeFlds ⊆ κ.flds) :
    (d.shrdIntake time src flags code pay errw).view κ = d.view κ := by
  simp only [intakeFlds_subset, List.cons_subset] at h
  simp +decide [Dev.shrdIntake, h]

@[simp] theorem Dev.view_keeperRec (d : Dev) (cls code : Nat) (pay : List Nat) (h : intakeFlds ⊆ κ.flds) : (d.keeperRec cls code pay).view κ = d.view κ := by
  simp [Dev.keeperRec, h]

@[simp] theorem Dev.view_monSay (d : Dev) (cmd code word : Nat) (vals : List Nat) (h : [F.MON_LAST_CMD, F.MON_LAST_CODE] ⊆ κ.flds) :
    (d.monSay cmd code word vals).view κ = d.view κ := by
  simp only [List.cons_subset] at h
  simp +decide [Dev.monSay, h]

/-- What an answer of the Glade monitor writes. -/
def monAnswerFlds : List Fld := [F.MON_LAST_CMD, F.MON_LAST_CODE, F.MON_STAT_LINES, F.MON_TLAST_T]

theorem monAnswerFlds_subset {l : List Fld} : monAnswerFlds ⊆ l ↔ [F.MON_LAST_CMD, F.MON_LAST_CODE, F.MON_STAT_LINES, F.MON_TLAST_T] ⊆ l := by
  rw [monAnswerFlds]

@[simp] theorem Dev.view_monAnswer (d : Dev) (cmd code word : Nat) (vals : List Nat) (h : monAnswerFlds ⊆ κ.flds) :
    (d.monAnswer cmd code word vals).view κ = d.view κ := by
  simp only [monAnswerFlds_subset, List.cons_subset] at h
  simp +decide [Dev.monAnswer, h]

@[simp] theorem Dev.view_monDiscard (d : Dev) (code : Nat) (h : [F.MON_LAST_CMD, F.MON_LAST_CODE, F.MON_STAT_ERRS] ⊆ κ.flds) :
    (d.monDiscard code).view κ = d.view κ := by
  simp only [List.cons_subset] at h
  simp [Dev.monDiscard, h]

@[simp] theorem Dev.view_monBlkEnd (d : Dev) (h : monAnswerFlds ⊆ κ.flds) : d.monBlkEnd.view κ = d.view κ := by
  simp [Dev.monBlkEnd, h]

end Sys2Proof.Machine
end

section
/-! ### TIME: Grove time, its steering, its steps, the 1 ms tick and the trigger scheduler -/

namespace Sys2Proof.Machine

variable {κ : Scope}

@[simp] theorem Dev.view_boundary (d : Dev) (slot u : Nat) : (d.boundary slot u).view κ = d.view κ := by
  simp +decide [Dev.boundary]

@[simp] theorem Dev.view_coneCycles (d : Dev) (u0 u1 : Int) : (d.coneCycles u0 u1).view κ = d.view κ := by
  simp [Dev.coneCycles]

@[simp] theorem Dev.view_showRate (d : Dev) (h : F.TIME_RATE_RATE ∈ κ.flds) : d.showRate.view κ = d.view κ := by
  simp [Dev.showRate, h]

@[simp] theorem Dev.view_advance (d : Dev) (du : Int) (h : F.TIME_RATE_RATE ∈ κ.flds) (hg : κ.grove = true) : (d.advance du).view κ = d.view κ := by
  simp +decide [Dev.advance, h, hg]

@[simp] theorem Dev.view_runTo (d : Dev) (n : Nat) (at_ : Int) (h : F.TIME_RATE_RATE ∈ κ.flds) (hg : κ.grove = true) : (d.runTo n at_).view κ = d.view κ := by
  induction n generalizing d with
  | zero => rfl
  | succ k ih =>
    simp only [Dev.runTo]
    split
    · rfl
    · simp [h, hg, ih]

@[simp] theorem Dev.view_timeState (d : Dev) (st : Nat) (h : F.TIME_STATE_ST ∈ κ.flds) : (d.timeState st).view κ = d.view κ := by
  simp +decide [Dev.timeState, h]

/-- What the entry into holdover writes. -/
def holdoverFlds : List Fld := [F.TIME_HOLDERR_ERRB, F.TIME_RATE_RATE, F.TIME_STATE_ST]

theorem holdoverFlds_subset {l : List Fld} : holdoverFlds ⊆ l ↔ [F.TIME_HOLDERR_ERRB, F.TIME_RATE_RATE, F.TIME_STATE_ST] ⊆ l := by
  rw [holdoverFlds]

@[simp] theorem Dev.view_enterHoldover (d : Dev) (h : holdoverFlds ⊆ κ.flds) : d.enterHoldover.view κ = d.view κ := by
  simp only [holdoverFlds_subset, List.cons_subset] at h
  simp +decide [Dev.enterHoldover, h]

@[simp] theorem Dev.view_steerCheck (d : Dev) (h : holdoverFlds ⊆ κ.flds) : d.steerCheck.view κ = d.view κ := by
  simp [Dev.steerCheck, h]

@[simp] theorem Dev.view_startSlew (d : Dev) (offs : Int) (h : F.TIME_RATE_RATE ∈ κ.flds) : (d.startSlew offs).view κ = d.view κ := by
  simp +decide [Dev.startSlew, h]

@[simp] theorem Dev.view_trigSkip (d : Dev) (e : Nat) (h : [F.TRIG_CFG_EN, F.TRIG_INST_INST, F.TRIG_STAT_ARMED, F.TRIG_STAT_LATE] ⊆ κ.flds) :
    (d.trigSkip e).view κ = d.view κ := by
  simp only [List.cons_subset] at h
  simp [Dev.trigSkip, h]

@[simp] theorem Dev.view_trigPulse (d : Dev) (e : Nat) : (d.trigPulse e).view κ = d.view κ := by
  simp +decide [Dev.trigPulse]

@[simp] theorem Dev.view_trigStrobe (d : Dev) (e : Nat) : (d.trigStrobe e).view κ = d.view κ := by
  simp +decide [Dev.trigStrobe]

@[simp] theorem Dev.view_senLate (d : Dev) (i : Nat) (n : Nat) (h : F.CNPY_SEN_CNT_LATE ∈ κ.flds) : (d.senLate i n).view κ = d.view κ := by
  simp [Dev.senLate, h]

@[simp] theorem Dev.view_stepGrids (d : Dev) (h : F.CNPY_SEN_CNT_LATE ∈ κ.flds) : d.stepGrids.view κ = d.view κ := by
  simp +decide [Dev.stepGrids, h]

@[simp] theorem Dev.view_stepOthers (d : Dev) (delta : Int) (h : [F.CNPY_SEN_CNT_LATE, F.TRIG_CFG_EN, F.TRIG_INST_INST, F.TRIG_STAT_ARMED, F.TRIG_STAT_LATE] ⊆
      κ.flds) :
    (d.stepOthers delta).view κ = d.view κ := by
  simp only [List.cons_subset] at h
  unfold Dev.stepOthers
  extract_lets d1 d2 d3 d4 d5 eper d6 pper d7 d8 d9 d10
  have h1 : d1.view κ = d.view κ := by simp +decide [d1]
  have h2 : d2.view κ = d1.view κ := by simp +decide [d2]
  have h3 : d3.view κ = d2.view κ := by simp +decide [h, d3]
  have h4 : d4.view κ = d3.view κ := by simp +decide [d4]
  have h5 : d5.view κ = d4.view κ := by simp +decide [d5]
  have h6 : d6.view κ = d5.view κ := by simp +decide [d6]
  have h7 : d7.view κ = d6.view κ := by simp +decide [d7]
  have h8 : d8.view κ = d7.view κ := by simp +decide [h, d8]
  have h9 : d9.view κ = d8.view κ := by simp +decide [d9]
  have h10 : d10.view κ = d9.view κ := by simp +decide [d10]
  simp +decide [h1, h2, h3, h4, h5, h6, h7, h8, h9, h10]

@[simp] theorem Dev.view_doStep (d : Dev) (delta : Int) (h : [F.CNPY_SEN_CNT_LATE, F.TIME_STEPCNT_CNT, F.TRIG_CFG_EN, F.TRIG_INST_INST, F.TRIG_STAT_ARMED,
      F.TRIG_STAT_LATE] ⊆ κ.flds) (hg : κ.grove = true) :
    (d.doStep delta).view κ = d.view κ := by
  simp only [List.cons_subset] at h
  simp +decide [Dev.doStep, h, hg]

@[simp] theorem Dev.view_msTick (d : Dev) (h : [F.CLR_SLOT_STAT_AGE, F.IOMU_TLB_HIT, F.IOMU_TLB_MISS, F.TIME_HOLDERR_ERRB, F.TIME_RATE_RATE] ⊆ κ.flds) (hg :
      κ.grove = true) :
    d.msTick.view κ = d.view κ := by
  simp only [List.cons_subset] at h
  simp +decide [Dev.msTick, h, hg]

@[simp] theorem kept_execMsTick (s : State) (h : [F.CLR_SLOT_STAT_AGE, F.IOMU_TLB_HIT, F.IOMU_TLB_MISS, F.TIME_HOLDERR_ERRB, F.TIME_RATE_RATE] ⊆ κ.flds) (hg :
      κ.grove = true) :
    Kept κ s (execMsTick s) := by
  simp only [List.cons_subset] at h
  simp [execMsTick, h, hg]

@[simp] theorem Dev.view_steer (d : Dev) (offs : Int) (ferr : Option Int) (h : holdoverFlds ++ [F.TIME_OFFSET_OFFS, F.TIME_STATE_STEPPEND] ⊆ κ.flds) :
    (d.steer offs ferr).view κ = d.view κ := by
  simp only [holdoverFlds_subset, List.append_subset, List.cons_subset] at h
  unfold Dev.steer
  split <;> simp +decide [h]

@[simp] theorem Dev.view_steeringRecord (d : Dev) (h : [F.TIME_HOLDERR_ERRB, F.TIME_OFFSET_OFFS, F.TIME_RATE_RATE, F.TIME_STATE_ST, F.TIME_STATE_STEPPEND] ⊆
      κ.flds) :
    d.steeringRecord.view κ = d.view κ := by
  simp only [List.cons_subset] at h
  simp [Dev.steeringRecord, h, holdoverFlds_subset]

@[simp] theorem Dev.view_holdoverTimeout (d : Dev) (h : holdoverFlds ⊆ κ.flds) : d.holdoverTimeout.view κ = d.view κ := by
  simp [Dev.holdoverTimeout, h]

@[simp] theorem Dev.view_steerSlot (d : Dev) (h : holdoverFlds ⊆ κ.flds) : d.steerSlot.view κ = d.view κ := by
  simp [Dev.steerSlot, h]

@[simp] theorem kept_execSteerEnableWrite (a : Acc) (en : Bool) (s : State) (h : [F.TIME_HOLDERR_ERRB, F.TIME_RATE_RATE, F.TIME_STATE_ST,
      F.TIME_STEER_CFG_SEN] ⊆ κ.flds) :
    Kept κ s (execSteerEnableWrite a en s) := by
  simp only [List.cons_subset] at h
  simp [execSteerEnableWrite, h, holdoverFlds_subset]

@[simp] theorem Dev.view_timeStep (d : Dev) (h : holdoverFlds ++ [F.CNPY_SEN_CNT_LATE, F.TIME_STATE_STEPPEND, F.TIME_STEPCNT_CNT, F.TRIG_CFG_EN,
      F.TRIG_INST_INST, F.TRIG_STAT_ARMED, F.TRIG_STAT_LATE] ⊆ κ.flds) (hg : κ.grove = true) :
    d.timeStep.view κ = d.view κ := by
  simp only [holdoverFlds_subset, List.append_subset, List.cons_subset] at h
  simp +decide [Dev.timeStep, h, hg, holdoverFlds_subset]

@[simp] theorem kept_execTimeStep (s : State) (h : [F.CNPY_SEN_CNT_LATE, F.TIME_HOLDERR_ERRB, F.TIME_RATE_RATE, F.TIME_STATE_ST, F.TIME_STATE_STEPPEND,
      F.TIME_STEPCNT_CNT, F.TRIG_CFG_EN, F.TRIG_INST_INST, F.TRIG_STAT_ARMED, F.TRIG_STAT_LATE] ⊆ κ.flds) (hg : κ.grove = true) :
    Kept κ s (execTimeStep s) := by
  simp only [List.cons_subset] at h
  simp [execTimeStep, h, hg, holdoverFlds_subset]

@[simp] theorem kept_execTimeSetgo (a : Acc) (s : State) (h : [F.CNPY_SEN_CNT_LATE, F.TIME_STATE_ST, F.TIME_STEPCNT_CNT, F.TRIG_CFG_EN, F.TRIG_INST_INST,
      F.TRIG_STAT_ARMED, F.TRIG_STAT_LATE] ⊆ κ.flds) (hg : κ.grove = true) :
    Kept κ s (execTimeSetgo a s) := by
  simp only [List.cons_subset] at h
  simp [execTimeSetgo, h, hg]

@[simp] theorem Dev.view_holdoverBoundExceeded (d : Dev) : d.holdoverBoundExceeded.view κ = d.view κ := by
  simp +decide [Dev.holdoverBoundExceeded]

@[simp] theorem kept_execTrigArm (a : Acc) (e : Fin 16) (s : State) (h : [F.TRIG_CFG_EN, F.TRIG_INST_INST, F.TRIG_STAT_ARMED, F.TRIG_STAT_FIRES,
      F.TRIG_STAT_LATE] ⊆ κ.flds) :
    Kept κ s (execTrigArm a e s) := by
  simp only [List.cons_subset] at h
  simp +decide [execTrigArm, h]

@[simp] theorem kept_execTrigDisarm (a : Acc) (e : Fin 16) (s : State) (h : [F.TRIG_CFG_EN, F.TRIG_STAT_ARMED] ⊆ κ.flds) :
    Kept κ s (execTrigDisarm a e s) := by
  simp only [List.cons_subset] at h
  simp [execTrigDisarm, h]

@[simp] theorem Dev.view_trigFire (d : Dev) (e : Nat) (h : [F.TRIG_CFG_EN, F.TRIG_COUNT_COUNT, F.TRIG_INST_INST, F.TRIG_LAST_LAST, F.TRIG_STAT_ARMED,
      F.TRIG_STAT_FIRES] ⊆ κ.flds) :
    (d.trigFire e).view κ = d.view κ := by
  simp only [List.cons_subset] at h
  simp [Dev.trigFire, h]

@[simp] theorem Dev.view_trigPulseEnd (d : Dev) (e : Nat) : (d.trigPulseEnd e).view κ = d.view κ := by
  simp +decide [Dev.trigPulseEnd]

end Sys2Proof.Machine
end

section
/-! ### The acoustic loss front end of AIN -/

namespace Sys2Proof.Machine

variable {κ : Scope}

@[simp] theorem Dev.view_acuImpact (d : Dev) (c : Nat) (x : List (BitVec 16)) : (d.acuImpact c x).view κ = d.view κ := by
  simp +decide [Dev.acuImpact]

@[simp] theorem Dev.view_acuClassify (d : Dev) (c : Nat) (x : List (BitVec 16)) : (d.acuClassify c x).view κ = d.view κ := by
  unfold Dev.acuClassify
  split
  · rfl
  split
  · rfl
  · have hn : V.grove.id ≠ (if d.acuGrain c x then V.acuG else V.acuO).id := by split <;> decide
    exact (Dev.view_setVar hn _ _ _).trans (Dev.view_setVar (by decide) _ _ _)

@[simp] theorem Dev.view_acuRearm (d : Dev) (c : Nat) (x : List (BitVec 16)) : (d.acuRearm c x).view κ = d.view κ := by
  simp +decide [Dev.acuRearm]

@[simp] theorem Dev.view_acuPile (d : Dev) (c : Nat) (x : List (BitVec 16)) : (d.acuPile c x).view κ = d.view κ := by
  simp +decide [Dev.acuPile]

@[simp] theorem Dev.view_acuShift (d : Dev) (x : Vr) (c : Nat) (hx : V.grove.id ≠ x.id) : (d.acuShift x c).view κ = d.view κ := by
  simp [Dev.acuShift, hx]

@[simp] theorem Dev.view_acuWindow (d : Dev) (clip : Nat) (h : F.ACU_WSEQ_SEQ ∈ κ.flds) : (d.acuWindow clip).view κ = d.view κ := by
  simp +decide [Dev.acuWindow, h]

@[simp] theorem Dev.view_acuFresh (d : Dev) : d.acuFresh.view κ = d.view κ := by
  simp +decide [Dev.acuFresh]

@[simp] theorem Dev.view_acuShow (d : Dev) (c : Nat) (h : [F.ACU_CNT_GRAIN, F.ACU_CNT_OTHER, F.ACU_PEAK_MEANPK, F.ACU_STAT_PILE, F.ACU_STAT_SAT] ⊆ κ.flds) :
    (d.acuShow c).view κ = d.view κ := by
  simp only [List.cons_subset] at h
  simp [Dev.acuShow, h]

@[simp] theorem Dev.view_acuPublish (d : Dev) (h : [F.ACU_CNT_GRAIN, F.ACU_CNT_OTHER, F.ACU_PEAK_MEANPK, F.ACU_STAT_PILE, F.ACU_STAT_SAT, F.CLR_HDR_GEN,
      F.CLR_HDR_LIVE, F.CLR_HDR_SEQ, F.CLR_HDR_STALE, F.CLR_HDR_WDRN, F.CLR_SLOT_STAT_AGE, F.CLR_VIOL_KIND, F.CLR_VIOL_PLANE, F.CLR_VIOL_SLOT,
      F.CLR_VIOL_VALID] ⊆ κ.flds) :
    d.acuPublish.view κ = d.view κ := by
  simp only [List.cons_subset] at h
  simp +decide [Dev.acuPublish, h, clrFlds_subset]

@[simp] theorem kept_execAcousticSnapArm (a : Acc) (c : Fin 16) (s : State) (h : [F.ACU_SNAP_CH, F.ACU_SNAP_DONE] ⊆ κ.flds) :
    Kept κ s (execAcousticSnapArm a c s) := by
  simp only [List.cons_subset] at h
  simp +decide [execAcousticSnapArm, h]

@[simp] theorem Dev.view_snapDone (d : Dev) (l : List (BitVec 16)) (h : [F.ACU_SNAPD_W, F.ACU_SNAP_DONE] ⊆ κ.flds) : (d.snapDone l).view κ = d.view κ := by
  simp only [List.cons_subset] at h
  simp +decide [Dev.snapDone, h]

end Sys2Proof.Machine
end

section
/-! ### Firebreak's groups: their state, the cut orders of the two lanes, the reaction time, and the latch of all groups -/

namespace Sys2Proof.Machine

variable {κ : Scope}

@[simp] theorem Dev.view_rideFb (d : Dev) : d.rideFb.view κ = d.view κ := by
  simp +decide [Dev.rideFb]

@[simp] theorem Dev.view_rideFbSend (d : Dev) : d.rideFbSend.view κ = d.view κ := by
  simp +decide [Dev.rideFbSend]

@[simp] theorem Dev.view_fbStat (d : Dev) (h : F.COM_STAT_FAULT ∈ κ.flds) : d.fbStat.view κ = d.view κ := by
  simp [Dev.fbStat, h]

@[simp] theorem Dev.view_groupTo (d : Dev) (g new : Nat) (h : [F.FBRK_GRP_CNT_CUTS, F.FBRK_GRP_STAT_STATE] ⊆ κ.flds) :
    (d.groupTo g new).view κ = d.view κ := by
  simp only [List.cons_subset] at h
  simp +decide [Dev.groupTo, h]

@[simp] theorem Dev.view_groupStep (d : Dev) (g : Nat) (wa wb off : Bool) (h : [F.FBRK_GRP_CNT_CUTS, F.FBRK_GRP_STAT_CUTA, F.FBRK_GRP_STAT_CUTB,
      F.FBRK_GRP_STAT_RBOK, F.FBRK_GRP_STAT_STATE, F.FBRK_REACT_LASTR, F.FBRK_REACT_MAXR] ⊆ κ.flds) :
    (d.groupStep g wa wb off).view κ = d.view κ := by
  simp only [List.cons_subset] at h
  simp +decide [Dev.groupStep, h]

@[simp] theorem Dev.view_groupsNow (d : Dev) (h : [F.COM_STAT_FAULT, F.FBRK_GRP_CNT_CUTS, F.FBRK_GRP_STAT_CUTA, F.FBRK_GRP_STAT_CUTB, F.FBRK_GRP_STAT_RBOK,
      F.FBRK_GRP_STAT_STATE, F.FBRK_REACT_LASTR, F.FBRK_REACT_MAXR] ⊆ κ.flds) :
    d.groupsNow.view κ = d.view κ := by
  simp only [List.cons_subset] at h
  simp [Dev.groupsNow, h]

@[simp] theorem Dev.view_fbIdle (d : Dev) (h : [F.COM_STAT_FAULT, F.FBRK_GRP_CNT_CUTS, F.FBRK_GRP_STAT_CUTA, F.FBRK_GRP_STAT_CUTB, F.FBRK_GRP_STAT_RBOK,
      F.FBRK_GRP_STAT_STATE, F.FBRK_REACT_LASTR, F.FBRK_REACT_MAXR] ⊆ κ.flds) :
    d.fbIdle.view κ = d.view κ := by
  simp only [List.cons_subset] at h
  simp [Dev.fbIdle, h]

@[simp] theorem Dev.view_fbLatchAll (d : Dev) (cause : Nat) (h : [F.COM_STAT_FAULT, F.FBRK_GRP_CNT_CUTS, F.FBRK_GRP_STAT_CUTA, F.FBRK_GRP_STAT_CUTB,
      F.FBRK_GRP_STAT_RBOK, F.FBRK_GRP_STAT_STATE, F.FBRK_LATCH_GROUPS, F.FBRK_LATCH_LCAUSE, F.FBRK_REACT_LASTR, F.FBRK_REACT_MAXR, F.FBRK_RSTSTAT_WINDOW] ⊆
      κ.flds) :
    (d.fbLatchAll cause).view κ = d.view κ := by
  simp only [List.cons_subset] at h
  simp +decide [Dev.fbLatchAll, h]

end Sys2Proof.Machine
end

section
/-! ### DRAM in canonical form, poisoned blocks, and accesses of devices through the IOMMU -/

namespace Sys2Proof.Machine

variable {κ : Scope}

@[simp] theorem State.view_leaf (s : State) (at_ e l v pf : Nat) (wr upd : Bool) (hm : κ.mem = true) : (s.leaf at_ e l v pf wr upd).1.view κ = s.view κ := by
  unfold State.leaf
  repeat' split
  all_goals simp [hm]

@[simp] theorem State.view_walkG (s : State) (l tbl page : Nat) (root wr upd : Bool) (hm : κ.mem = true) :
    (s.walkG l tbl page root wr upd).1.view κ = s.view κ := by
  induction l generalizing tbl root
  all_goals
    unfold State.walkG
    extract_lets gpf at_
    split
    · rfl
    split
    · rfl
    split <;> simp [*]

@[simp] theorem State.view_stage2 (s : State) (g page : Nat) (wr upd : Bool) (hm : κ.mem = true) : (s.stage2 g page wr upd).1.view κ = s.view κ := by
  simp only [State.stage2]
  repeat' split
  all_goals simp [hm]

@[simp] theorem State.view_walkS (s : State) (l tbl page g : Nat) (wr upd updG : Bool) (hm : κ.mem = true) :
    (s.walkS l tbl page g wr upd updG).1.view κ = s.view κ := by
  induction l generalizing s tbl with
  | zero =>
    unfold State.walkS
    extract_lets pf
    split
    · next he => simp +decide [hm, State.view_of_eq he]
    next he =>
    extract_lets at_
    split
    · simp +decide [hm, State.view_of_eq he]
    split
    · simp +decide [hm, State.view_of_eq he]
    split <;> simp +decide [hm, State.view_of_eq he]
  | succ k ih =>
    unfold State.walkS
    extract_lets pf
    split
    · next he => simp +decide [hm, State.view_of_eq he]
    next he =>
    extract_lets at_
    split
    · simp +decide [hm, State.view_of_eq he]
    split
    · simp +decide [hm, State.view_of_eq he]
    split <;> simp +decide [hm, State.view_of_eq he, ih]

@[simp] theorem State.view_devCtx (s : State) (dev : Nat) : (s.devCtx dev).1.view κ = s.view κ := by
  simp only [State.devCtx]
  repeat' split
  all_goals simp

@[simp] theorem State.view_xlate (s : State) (dev page : Nat) (wr : Bool) (hm : κ.mem = true) : (s.xlate dev page wr).1.view κ = s.view κ := by
  simp only [State.xlate]
  split
  · rfl
  split
  · rfl
  split
  · next he => simp +decide [State.view_of_eq he]
  next he =>
  split
  · simp +decide [State.view_of_eq he]
  split
  · simp +decide [hm, State.view_of_eq he]
  split
  · simp +decide [hm, State.view_of_eq he]
  split
  · next hw => rw [State.view_of_eq hw]; split <;> simp +decide [hm, State.view_of_eq he]
  next t gp w1 hw =>
  have hv : t.view κ = s.view κ := by rw [State.view_of_eq hw]; split <;> simp +decide [hm, State.view_of_eq he]
  split
  all_goals next hg => simp +decide [hm, State.view_of_eq hg, hv]

@[simp] theorem State.view_xlateAll (s : State) (dev page n : Nat) (wr : Bool) (hm : κ.mem = true) : (s.xlateAll dev page n wr).1.view κ = s.view κ := by
  induction n generalizing s page with
  | zero => rfl
  | succ k ih =>
    unfold State.xlateAll
    split
    · next hx => simp [hm, State.view_of_eq hx]
    next hx =>
    split
    all_goals next hl => simp [hm, State.view_of_eq hl, State.view_of_eq hx, ih]

@[simp] theorem Dev.view_sysRefused (d : Dev) (dev p : Nat) : (d.sysRefused dev p).view κ = d.view κ := by
  simp [Dev.sysRefused]

/-- What a fault of a device transaction writes. -/
def iommuFaultFlds : List Fld := [F.COM_STAT_FAULT, F.IOMU_FQCSR_FQMF, F.IOMU_FQCSR_FQOF, F.IOMU_FQT_V, F.IOMU_IPSR_V]

theorem iommuFaultFlds_subset {l : List Fld} : iommuFaultFlds ⊆ l ↔ [F.COM_STAT_FAULT, F.IOMU_FQCSR_FQMF, F.IOMU_FQCSR_FQOF, F.IOMU_FQT_V, F.IOMU_IPSR_V] ⊆ l
    := by
  rw [iommuFaultFlds]

@[simp] theorem State.view_iommuFault (s : State) (dev iova cause : Nat) (wr : Bool) (h : iommuFaultFlds ⊆ κ.flds) (hm : κ.mem = true) :
    (s.iommuFault dev iova cause wr).view κ = s.view κ := by
  simp only [iommuFaultFlds_subset, List.cons_subset] at h
  simp +decide [State.iommuFault, h, hm]

@[simp] theorem State.view_devStore (s : State) (iova : Nat) (pages : List Nat) (k : Nat) (l : List Nat) (hm : κ.mem = true) :
    (s.devStore iova pages k l).view κ = s.view κ := by
  induction l generalizing s k with
  | nil => rfl
  | cons x t ih =>
    unfold State.devStore
    simp +decide [hm, ih]

@[simp] theorem State.view_devOpen (s : State) (dev iova n : Nat) (wr : Bool) (h : iommuFaultFlds ⊆ κ.flds) (hm : κ.mem = true) :
    (s.devOpen dev iova n wr).1.view κ = s.view κ := by
  unfold State.devOpen
  split
  · next he => simp [h, hm, State.view_of_eq he]
  next he => split <;> simp [hm, State.view_of_eq he]

@[simp] theorem State.view_devWrite (s : State) (dev iova : Nat) (l : List Nat) (h : iommuFaultFlds ⊆ κ.flds) (hm : κ.mem = true) :
    (s.devWrite dev iova l).1.view κ = s.view κ := by
  unfold State.devWrite
  split
  all_goals next he => simp [h, hm, State.view_of_eq he]

@[simp] theorem State.view_devRead (s : State) (dev iova n : Nat) (h : iommuFaultFlds ⊆ κ.flds) (hm : κ.mem = true) :
    (s.devRead dev iova n).1.view κ = s.view κ := by
  unfold State.devRead
  split
  all_goals next he => simp [h, hm, State.view_of_eq he]

end Sys2Proof.Machine
end

section
/-! ### BUS and FLT: CAN channels, message buffers, acceptance filters, transmission, the fixed messages, ISOBUS address claims and the partner table -/

namespace Sys2Proof.Machine

variable {κ : Scope}

@[simp] theorem Dev.view_canEvt (d : Dev) (c b : Nat) (h : F.BUS_CH_EVT_EVT ∈ κ.flds) : (d.canEvt c b).view κ = d.view κ := by
  simp [Dev.canEvt, h]

@[simp] theorem Dev.view_canFault (d : Dev) (h : F.COM_STAT_FAULT ∈ κ.flds) : d.canFault.view κ = d.view κ := by
  simp [Dev.canFault, h]

@[simp] theorem Dev.view_canCounters (d : Dev) (c : Nat) (tec rec_ : Int) (h : [F.BUS_CH_EVT_EVT, F.BUS_CH_STAT_REC, F.BUS_CH_STAT_STATE, F.BUS_CH_STAT_TEC] ⊆
      κ.flds) :
    (d.canCounters c tec rec_).view κ = d.view κ := by
  simp only [List.cons_subset] at h
  simp +decide [Dev.canCounters, h]

@[simp] theorem Dev.view_bufPut (d : Dev) (c b j : Nat) (l : List Nat) (h : F.BUS_MEM_WORD ∈ κ.flds) : (d.bufPut c b j l).view κ = d.view κ := by
  induction l generalizing d j with
  | nil => rfl
  | cons x t ih => simp [h, Dev.bufPut, ih]

@[simp] theorem Dev.view_setNdat (d : Dev) (c b : Nat) (v : Bool) (h : [F.BUF_CTRL_NDAT, F.BUS_CH_NDAT_NDAT] ⊆ κ.flds) :
    (d.setNdat c b v).view κ = d.view κ := by
  simp only [List.cons_subset] at h
  simp [Dev.setNdat, h]

@[simp] theorem Dev.view_ptChg (d : Dev) (sa : Nat) (h : F.BUS_PT_CHG_CHG ∈ κ.flds) : (d.ptChg sa).view κ = d.view κ := by
  simp [Dev.ptChg, h]

@[simp] theorem Dev.view_ptBump (d : Dev) (sa : Nat) : (d.ptBump sa).view κ = d.view κ := by
  simp +decide [Dev.ptBump]

@[simp] theorem Dev.view_ptGone (d : Dev) (sa : Nat) (h : F.BUS_PT_CHG_CHG ∈ κ.flds) : (d.ptGone sa).view κ = d.view κ := by
  simp +decide [Dev.ptGone, h]

@[simp] theorem Dev.view_ptDisown (d : Dev) (c sa : Nat) : (d.ptDisown c sa).view κ = d.view κ := by
  simp +decide [Dev.ptDisown]

@[simp] theorem Dev.view_ptTouch (d : Dev) (sa stamp : Nat) (name : Option Nat) (own : Bool) (h : F.BUS_PT_CHG_CHG ∈ κ.flds) :
    (d.ptTouch sa stamp name own).view κ = d.view κ := by
  unfold Dev.ptTouch
  repeat' split
  all_goals simp +decide [h]

@[simp] theorem Dev.view_canHoldIn (d : Dev) (f : CanFrame) (h : F.BUS_CH_STAT_HOLDOVR ∈ κ.flds) : (d.canHoldIn f).view κ = d.view κ := by
  simp [Dev.canHoldIn, h]

@[simp] theorem Dev.view_canRecOk (d : Dev) (c : Nat) (h : [F.BUS_CH_EVT_EVT, F.BUS_CH_STAT_REC, F.BUS_CH_STAT_STATE, F.BUS_CH_STAT_TEC] ⊆ κ.flds) :
    (d.canRecOk c).view κ = d.view κ := by
  simp only [List.cons_subset] at h
  simp [Dev.canRecOk, h]

@[simp] theorem Dev.view_canOff (d : Dev) (c : Nat) (h : [F.BUS_CH_STAT_STATE, F.COM_STAT_FAULT] ⊆ κ.flds) : (d.canOff c).view κ = d.view κ := by
  simp only [List.cons_subset] at h
  simp +decide [Dev.canOff, h]

@[simp] theorem Dev.view_canFrameEnd (d : Dev) (c : Nat) (h : [F.BUS_CH_STAT_STATE, F.COM_STAT_FAULT] ⊆ κ.flds) : (d.canFrameEnd c).view κ = d.view κ := by
  simp only [List.cons_subset] at h
  simp [Dev.canFrameEnd, h]

@[simp] theorem Dev.view_isoHear (d : Dev) (c skip id : Nat) (data : List Nat) : (d.isoHear c skip id data).view κ = d.view κ := by
  unfold Dev.isoHear
  split <;> simp +decide

@[simp] theorem Dev.view_canAccept (d : Dev) (skip : Nat) (f : CanFrame) (h : [F.BUS_CH_STAT_HOLDOVR, F.BUS_PT_CHG_CHG] ⊆ κ.flds) :
    (d.canAccept skip f).view κ = d.view κ := by
  simp only [List.cons_subset] at h
  simp [Dev.canAccept, h]

@[simp] theorem Dev.view_canReceived (d : Dev) (c : Nat) (f : CanIn) (dur : Nat) (h : [F.BUS_CH_CNT_PEXCNT, F.BUS_CH_EVT_EVT, F.BUS_CH_STAT_HOLDOVR,
      F.BUS_CH_STAT_REC, F.BUS_CH_STAT_STATE, F.BUS_CH_STAT_TEC, F.BUS_PT_CHG_CHG, F.COM_STAT_FAULT] ⊆ κ.flds) :
    (d.canReceived c f dur).view κ = d.view κ := by
  simp only [List.cons_subset] at h
  simp [Dev.canReceived, h]

@[simp] theorem Dev.view_bufStore (d : Dev) (b cap fidx : Nat) (f : CanFrame) (h : [F.BUF_AF_AF, F.BUF_CTRL_MSGLOST, F.BUF_CTRL_NDAT, F.BUF_FILT_FIDX,
      F.BUF_FILT_RXCNT, F.BUF_FMT_BRS, F.BUF_FMT_DLC, F.BUF_FMT_ESI, F.BUF_FMT_RTR, F.BUF_FMT_SDT, F.BUF_FMT_SEC, F.BUF_FMT_VCID, F.BUF_ID_FDF, F.BUF_ID_ID,
      F.BUF_ID_IDE, F.BUF_ID_XLF, F.BUF_SOF_SOF, F.BUS_CH_EVT_EVT, F.BUS_CH_NDAT_NDAT, F.BUS_MEM_WORD] ⊆ κ.flds) :
    (d.bufStore b cap fidx f).view κ = d.view κ := by
  simp only [List.cons_subset] at h
  simp +decide [Dev.bufStore, h]

@[simp] theorem Dev.view_fifoStore (d : Dev) (q fidx : Nat) (f : CanFrame) (h : [F.BUF_AF_AF, F.BUF_CTRL_MSGLOST, F.BUF_CTRL_NDAT, F.BUF_FILT_FIDX,
      F.BUF_FILT_RXCNT, F.BUF_FMT_BRS, F.BUF_FMT_DLC, F.BUF_FMT_ESI, F.BUF_FMT_RTR, F.BUF_FMT_SDT, F.BUF_FMT_SEC, F.BUF_FMT_VCID, F.BUF_ID_FDF, F.BUF_ID_ID,
      F.BUF_ID_IDE, F.BUF_ID_XLF, F.BUF_SOF_SOF, F.BUS_CH_EVT_EVT, F.BUS_CH_FIFO_IDX_LOST, F.BUS_CH_FIFO_IDX_WR, F.BUS_CH_NDAT_NDAT, F.BUS_MEM_WORD] ⊆ κ.flds)
      :
    (d.fifoStore q fidx f).view κ = d.view κ := by
  simp only [List.cons_subset] at h
  simp +decide [Dev.fifoStore, h]

@[simp] theorem Dev.view_canStored (d : Dev) (h : [F.BUF_AF_AF, F.BUF_CTRL_MSGLOST, F.BUF_CTRL_NDAT, F.BUF_FILT_FIDX, F.BUF_FILT_RXCNT, F.BUF_FMT_BRS,
      F.BUF_FMT_DLC, F.BUF_FMT_ESI, F.BUF_FMT_RTR, F.BUF_FMT_SDT, F.BUF_FMT_SEC, F.BUF_FMT_VCID, F.BUF_ID_FDF, F.BUF_ID_ID, F.BUF_ID_IDE, F.BUF_ID_XLF,
      F.BUF_SOF_SOF, F.BUS_CH_EVT_EVT, F.BUS_CH_FIFO_IDX_LOST, F.BUS_CH_FIFO_IDX_WR, F.BUS_CH_NDAT_NDAT, F.BUS_MEM_WORD, F.FLT_CNT_HIT, F.FLT_CNT_NOHIT] ⊆
      κ.flds) :
    d.canStored.view κ = d.view κ := by
  simp only [List.cons_subset] at h
  simp only [Dev.canStored]
  repeat' split
  all_goals simp [h]

@[simp] theorem kept_execNdatClear (a : Acc) (n : Fin 8) (v : BitVec 32) (s : State) (h : [F.BUF_CTRL_NDAT, F.BUS_CH_NDAT_NDAT] ⊆ κ.flds) :
    Kept κ s (execNdatClear a n v s) := by
  simp only [List.cons_subset] at h
  simp only [execNdatClear, kept_upd]
  refine Dev.view_wrCh _ _ _ _ _ _ fun c d => Dev.view_each _ _ _ fun b e => ?_
  simp [h]

@[simp] theorem Dev.view_privFail (d : Dev) (c b res : Nat) (h : [F.BUF_CTRL_RESULT, F.BUF_CTRL_TXREQ, F.BUS_CH_EVT_EVT, F.WHL_LP_CAN_CANFAIL] ⊆ κ.flds) :
    (d.privFail c b res).view κ = d.view κ := by
  simp only [List.cons_subset] at h
  simp [Dev.privFail, h]

@[simp] theorem Dev.view_txRequest (d : Dev) (c b : Nat) (h : [F.BUF_CTRL_ATT, F.BUF_CTRL_RESULT, F.BUF_CTRL_TXREQ, F.BUS_CH_EVT_EVT, F.WHL_LP_CAN_CANFAIL] ⊆
      κ.flds) :
    (d.txRequest c b).view κ = d.view κ := by
  simp only [List.cons_subset] at h
  simp +decide [Dev.txRequest, h]

@[simp] theorem kept_execTransmitRequest (a : Acc) (b : Fin 256) (s : State) (h : [F.BUF_CTRL_ATT, F.BUF_CTRL_RESULT, F.BUF_CTRL_TXREQ, F.BUS_CH_EVT_EVT,
      F.WHL_LP_CAN_CANFAIL] ⊆ κ.flds) :
    Kept κ s (execTransmitRequest a b s) := by
  simp only [List.cons_subset] at h
  simp [execTransmitRequest, h]

@[simp] theorem Dev.view_txDone (d : Dev) (c b sof : Nat) (h : [F.BUF_CTRL_ATT, F.BUF_CTRL_RESULT, F.BUF_CTRL_TXREQ, F.BUF_SOF_SOF, F.BUS_CH_EVT_EVT,
      F.BUS_CH_STAT_HOLDOVR, F.BUS_CH_TDC_TDCV, F.BUS_PT_CHG_CHG] ⊆ κ.flds) :
    (d.txDone c b sof).view κ = d.view κ := by
  simp only [List.cons_subset] at h
  simp +decide [Dev.txDone, h]

@[simp] theorem Dev.view_txFailed (d : Dev) (c b res : Nat) (h : [F.BUF_CTRL_ATT, F.BUF_CTRL_RESULT, F.BUF_CTRL_TXREQ, F.BUS_CH_EVT_EVT, F.WHL_LP_CAN_CANFAIL]
      ⊆ κ.flds) :
    (d.txFailed c b res).view κ = d.view κ := by
  simp only [List.cons_subset] at h
  simp [Dev.txFailed, h]

@[simp] theorem Dev.view_isoDone (d : Dev) (n sof : Nat) (h : [F.BUS_CH_STAT_HOLDOVR, F.BUS_PT_CHG_CHG] ⊆ κ.flds) : (d.isoDone n sof).view κ = d.view κ := by
  simp only [List.cons_subset] at h
  simp +decide [Dev.isoDone, h]

@[simp] theorem Dev.view_txEnd (d : Dev) (c k res dur : Nat) (h : [F.BUF_CTRL_ATT, F.BUF_CTRL_RESULT, F.BUF_CTRL_TXREQ, F.BUF_SOF_SOF, F.BUS_CH_EVT_EVT,
      F.BUS_CH_STAT_HOLDOVR, F.BUS_CH_STAT_REC, F.BUS_CH_STAT_STATE, F.BUS_CH_STAT_TEC, F.BUS_CH_TDC_TDCV, F.BUS_PT_CHG_CHG, F.COM_STAT_FAULT,
      F.WHL_LP_CAN_CANFAIL] ⊆ κ.flds) :
    (d.txEnd c k res dur).view κ = d.view κ := by
  simp only [List.cons_subset] at h
  simp [Dev.txEnd, h]

@[simp] theorem kept_execTransmitAbort (a : Acc) (b : Fin 256) (tx : Bool) (s : State) (h : [F.BUF_CTRL_RESULT, F.BUF_CTRL_TXREQ] ⊆ κ.flds) :
    Kept κ s (execTransmitAbort a b tx s) := by
  simp only [List.cons_subset] at h
  simp +decide [execTransmitAbort, h]

@[simp] theorem Dev.view_canDisable (d : Dev) (c frame dur : Nat) (h : [F.BUF_CTRL_RESULT, F.BUF_CTRL_TXREQ, F.BUS_CH_CFG_EN, F.BUS_CH_STAT_STATE,
      F.COM_STAT_FAULT] ⊆ κ.flds) :
    (d.canDisable c frame dur).view κ = d.view κ := by
  simp only [List.cons_subset] at h
  simp +decide [Dev.canDisable, h]

@[simp] theorem Dev.view_canEnable (d : Dev) (c : Nat) (h : [F.BUS_CH_CFG_EN, F.BUS_CH_EVT_EVT, F.BUS_CH_STAT_REC, F.BUS_CH_STAT_STATE, F.BUS_CH_STAT_TEC] ⊆
      κ.flds) :
    (d.canEnable c).view κ = d.view κ := by
  simp only [List.cons_subset] at h
  simp +decide [Dev.canEnable, h]

@[simp] theorem kept_execCanChannelEnable (a : Acc) (x : CanEn) (s : State) (h : [F.BUF_CTRL_RESULT, F.BUF_CTRL_TXREQ, F.BUS_CH_CFG_EN, F.BUS_CH_EVT_EVT,
      F.BUS_CH_STAT_REC, F.BUS_CH_STAT_STATE, F.BUS_CH_STAT_TEC, F.COM_STAT_FAULT] ⊆ κ.flds) :
    Kept κ s (execCanChannelEnable a x s) := by
  simp only [List.cons_subset] at h
  simp [execCanChannelEnable, h]

@[simp] theorem Dev.view_busRun (d : Dev) (run : Bool) (h : [F.BUS_CH_STAT_STATE, F.COM_STAT_FAULT] ⊆ κ.flds) : (d.busRun run).view κ = d.view κ := by
  simp only [List.cons_subset] at h
  simp +decide [Dev.busRun, h]

@[simp] theorem Dev.view_canIntegrated (d : Dev) (c : Nat) (h : F.BUS_CH_STAT_STATE ∈ κ.flds) : (d.canIntegrated c).view κ = d.view κ := by
  simp [Dev.canIntegrated, h]

@[simp] theorem kept_execCanBusError (c : Fin 8) (big : Bool) (s : State) (h : [F.BUS_CH_EVT_EVT, F.BUS_CH_STAT_REC, F.BUS_CH_STAT_STATE, F.BUS_CH_STAT_TEC,
      F.COM_STAT_FAULT] ⊆ κ.flds) :
    Kept κ s (execCanBusError c big s) := by
  simp only [List.cons_subset] at h
  simp [execCanBusError, h]

@[simp] theorem Dev.view_busOff (d : Dev) (c : Nat) (h : [F.BUF_CTRL_RESULT, F.BUF_CTRL_TXREQ, F.BUS_CH_CNT_BOCNT, F.BUS_CH_EVT_EVT, F.BUS_CH_STAT_STATE,
      F.COM_STAT_FAULT, F.WHL_LP_CAN_CANFAIL] ⊆ κ.flds) :
    (d.busOff c).view κ = d.view κ := by
  simp only [List.cons_subset] at h
  simp +decide [Dev.busOff, h]

@[simp] theorem Dev.view_busOffEnd (d : Dev) (c : Nat) (h : [F.BUS_CH_EVT_EVT, F.BUS_CH_STAT_REC, F.BUS_CH_STAT_STATE, F.BUS_CH_STAT_TEC, F.COM_STAT_FAULT] ⊆
      κ.flds) :
    (d.busOffEnd c).view κ = d.view κ := by
  simp only [List.cons_subset] at h
  simp [Dev.busOffEnd, h]

@[simp] theorem Dev.view_trxFault (d : Dev) (c : Nat) (f : Bool) (h : [F.BUS_CH_STAT_TRXFLT, F.COM_STAT_FAULT] ⊆ κ.flds) :
    (d.trxFault c f).view κ = d.view κ := by
  simp only [List.cons_subset] at h
  simp [Dev.trxFault, h]

@[simp] theorem Dev.view_fbMessageSend (d : Dev) (c : Nat) (h : [F.BUF_CTRL_ATT, F.BUF_CTRL_RESULT, F.BUF_CTRL_TXREQ, F.BUS_CH_EVT_EVT, F.BUS_MEM_WORD,
      F.WHL_LP_CAN_CANFAIL] ⊆ κ.flds) :
    (d.fbMessageSend c).view κ = d.view κ := by
  simp only [List.cons_subset] at h
  simp +decide [Dev.fbMessageSend, h]

@[simp] theorem Dev.view_canTimeRef (d : Dev) (c : Nat) (h : [F.BUF_CTRL_ATT, F.BUF_CTRL_RESULT, F.BUF_CTRL_TXREQ, F.BUS_CH_EVT_EVT, F.BUS_MEM_WORD,
      F.WHL_LP_CAN_CANFAIL] ⊆ κ.flds) :
    (d.canTimeRef c).view κ = d.view κ := by
  simp only [List.cons_subset] at h
  simp +decide [Dev.canTimeRef, h]

@[simp] theorem Dev.view_isoState (d : Dev) (n v : Nat) (h : F.BUS_ISO_STAT_STATE ∈ κ.flds) : (d.isoState n v).view κ = d.view κ := by
  simp [Dev.isoState, h]

@[simp] theorem Dev.view_isoSend (d : Dev) (n : Nat) (v : Int) : (d.isoSend n v).view κ = d.view κ := by
  simp +decide [Dev.isoSend]

@[simp] theorem Dev.view_isoLeave (d : Dev) (n : Nat) : (d.isoLeave n).view κ = d.view κ := by
  simp [Dev.isoLeave]

@[simp] theorem Dev.view_isoClaim (d : Dev) (n addr : Nat) (h : [F.BUS_ISO_STAT_ADDR, F.BUS_ISO_STAT_STATE] ⊆ κ.flds) :
    (d.isoClaim n addr).view κ = d.view κ := by
  simp only [List.cons_subset] at h
  simp +decide [Dev.isoClaim, h]

@[simp] theorem kept_execAddressClaim (a : Acc) (n : Fin 4) (s : State) (h : [F.BUS_ISO_STAT_ADDR, F.BUS_ISO_STAT_STATE] ⊆ κ.flds) :
    Kept κ s (execAddressClaim a n s) := by
  simp only [List.cons_subset] at h
  simp +decide [execAddressClaim, h]

@[simp] theorem Dev.view_claimSettled (d : Dev) (n : Nat) (h : [F.BUS_ISO_STAT_STATE, F.BUS_PT_CHG_CHG] ⊆ κ.flds) : (d.claimSettled n).view κ = d.view κ := by
  simp only [List.cons_subset] at h
  simp [Dev.claimSettled, h]

@[simp] theorem Dev.view_claimContention (d : Dev) (n : Nat) (h : [F.BUS_ISO_STAT_ADDR, F.BUS_ISO_STAT_STATE] ⊆ κ.flds) :
    (d.claimContention n).view κ = d.view κ := by
  simp only [List.cons_subset] at h
  simp only [Dev.claimContention]
  repeat' split
  all_goals simp +decide [h]

@[simp] theorem Dev.view_cannotClaim (d : Dev) (n : Nat) (h : F.BUS_ISO_STAT_STATE ∈ κ.flds) : (d.cannotClaim n).view κ = d.view κ := by
  simp +decide [Dev.cannotClaim, h]

@[simp] theorem Dev.view_claimRequest (d : Dev) (n : Nat) : (d.claimRequest n).view κ = d.view κ := by
  simp only [Dev.claimRequest]
  repeat' split
  all_goals simp +decide

@[simp] theorem Dev.view_partnerTimeout (d : Dev) (sa : Nat) (h : F.BUS_PT_CHG_CHG ∈ κ.flds) : (d.partnerTimeout sa).view κ = d.view κ := by
  simp [Dev.partnerTimeout, h]

end Sys2Proof.Machine
end

section
/-! ### EGO: the machine's own motion -/

namespace Sys2Proof.Machine

variable {κ : Scope}

@[simp] theorem Dev.view_egoFault (d : Dev) (h : F.COM_STAT_FAULT ∈ κ.flds) : d.egoFault.view κ = d.view κ := by
  simp [Dev.egoFault, h]

@[simp] theorem Dev.view_egoValid (d : Dev) (v : Bool) (h : [F.COM_STAT_FAULT, F.EGO_STAT_VALID] ⊆ κ.flds) : (d.egoValid v).view κ = d.view κ := by
  simp only [List.cons_subset] at h
  simp +decide [Dev.egoValid, h]

@[simp] theorem Dev.view_egoShow (d : Dev) (h : [F.EGO_SPEED_V, F.EGO_X_POS, F.EGO_YAWRATE_W, F.EGO_YAW_YAW, F.EGO_Y_POS] ⊆ κ.flds) :
    d.egoShow.view κ = d.view κ := by
  simp only [List.cons_subset] at h
  simp [Dev.egoShow, h]

@[simp] theorem Dev.view_egoMove (d : Dev) (h : F.EGO_DIST_DIST ∈ κ.flds) : d.egoMove.view κ = d.view κ := by
  simp +decide [Dev.egoMove, h]

@[simp] theorem Dev.view_egoTilt (d : Dev) (l : List EgoIn) (h : [F.EGO_ATT_PITCH, F.EGO_ATT_ROLL] ⊆ κ.flds) : (d.egoTilt l).view κ = d.view κ := by
  simp only [List.cons_subset] at h
  simp +decide [Dev.egoTilt, h]

@[simp] theorem Dev.view_egoPast (d : Dev) : d.egoPast.view κ = d.view κ := by
  simp [Dev.egoPast]

@[simp] theorem Dev.view_egoStep (d : Dev) (x : List EgoIn) (h : [F.COM_STAT_FAULT, F.EGO_ATT_PITCH, F.EGO_ATT_ROLL, F.EGO_DIST_DIST, F.EGO_SPEED_V,
      F.EGO_STAT_BRIDGE, F.EGO_STAT_IMUOK, F.EGO_STAT_STILL, F.EGO_STAT_VALID, F.EGO_STAT_WHLOK, F.EGO_STEPSEQ_SEQ, F.EGO_X_POS, F.EGO_YAWRATE_W,
      F.EGO_YAW_YAW, F.EGO_Y_POS] ⊆ κ.flds) :
    (d.egoStep x).view κ = d.view κ := by
  simp only [List.cons_subset] at h
  simp +decide [Dev.egoStep, h]

@[simp] theorem State.view_egoStep (s : State) (x : List EgoIn) (h : iommuFaultFlds ++ [F.EGO_ATT_PITCH, F.EGO_ATT_ROLL, F.EGO_DIST_DIST, F.EGO_RING_WR_IDX,
      F.EGO_SPEED_V, F.EGO_STAT_BRIDGE, F.EGO_STAT_IMUOK, F.EGO_STAT_STILL, F.EGO_STAT_VALID, F.EGO_STAT_WHLOK, F.EGO_STEPSEQ_SEQ, F.EGO_X_POS,
      F.EGO_YAWRATE_W, F.EGO_YAW_YAW, F.EGO_Y_POS] ⊆ κ.flds) (hm : κ.mem = true) :
    (s.egoStep x).view κ = s.view κ := by
  simp only [iommuFaultFlds_subset, List.append_subset, List.cons_subset] at h
  simp only [State.egoStep]
  split
  · rfl
  split
  · simp +decide [h, hm]
  split
  all_goals next he => simp +decide [h, hm, iommuFaultFlds_subset, State.view_of_eq he]

@[simp] theorem kept_execEgoStep (x : List EgoIn) (s : State) (h : [F.COM_STAT_FAULT, F.EGO_ATT_PITCH, F.EGO_ATT_ROLL, F.EGO_DIST_DIST, F.EGO_RING_WR_IDX,
      F.EGO_SPEED_V, F.EGO_STAT_BRIDGE, F.EGO_STAT_IMUOK, F.EGO_STAT_STILL, F.EGO_STAT_VALID, F.EGO_STAT_WHLOK, F.EGO_STEPSEQ_SEQ, F.EGO_X_POS,
      F.EGO_YAWRATE_W, F.EGO_YAW_YAW, F.EGO_Y_POS, F.IOMU_FQCSR_FQMF, F.IOMU_FQCSR_FQOF, F.IOMU_FQT_V, F.IOMU_IPSR_V] ⊆ κ.flds) (hm : κ.mem = true) :
    Kept κ s (execEgoStep x s) := by
  simp only [List.cons_subset] at h
  simp [execEgoStep, h, hm, iommuFaultFlds_subset]

@[simp] theorem Dev.view_egoInvalid (d : Dev) (h : [F.COM_STAT_FAULT, F.EGO_STAT_VALID] ⊆ κ.flds) : d.egoInvalid.view κ = d.view κ := by
  simp only [List.cons_subset] at h
  simp [Dev.egoInvalid, h]

@[simp] theorem Dev.view_egoStill (d : Dev) (h : [F.EGO_GBIAS_BIAS, F.EGO_STAT_STILL] ⊆ κ.flds) : d.egoStill.view κ = d.view κ := by
  simp only [List.cons_subset] at h
  simp [Dev.egoStill, h]

@[simp] theorem Dev.view_slipBits (d : Dev) (hold unk : Bool) (h : [F.EGO_STAT_SLIPHOLD, F.EGO_STAT_SLIPUNK] ⊆ κ.flds) :
    (d.slipBits hold unk).view κ = d.view κ := by
  simp only [List.cons_subset] at h
  simp [Dev.slipBits, h]

@[simp] theorem Dev.view_slipUpdate (d : Dev) (vg v : Int) (h : [F.EGO_SLIP_SLIP, F.EGO_STAT_SLIPHOLD, F.EGO_STAT_SLIPUNK] ⊆ κ.flds) :
    (d.slipUpdate vg v).view κ = d.view κ := by
  simp only [List.cons_subset] at h
  simp +decide [Dev.slipUpdate, h]

@[simp] theorem Dev.view_slipUnknown (d : Dev) (h : [F.EGO_SLIP_SLIP, F.EGO_STAT_SLIPHOLD, F.EGO_STAT_SLIPUNK] ⊆ κ.flds) :
    d.slipUnknown.view κ = d.view κ := by
  simp only [List.cons_subset] at h
  simp +decide [Dev.slipUnknown, h]

@[simp] theorem kept_execEgoReset (a : Acc) (s : State) (h : F.EGO_STAT_RSTCNT ∈ κ.flds) : Kept κ s (execEgoReset a s) := by
  simp +decide [execEgoReset, h]

end Sys2Proof.Machine
end

section
/-! ### CNPY and NPU: sensors, checks, the fused grid, hardware projection and network jobs -/

namespace Sys2Proof.Machine

variable {κ : Scope}

@[simp] theorem Dev.view_projGo (d : Dev) (h : F.CNPY_HP_STAT_ST ∈ κ.flds) : d.projGo.view κ = d.view κ := by
  simp [Dev.projGo, h]

/-- What a new state of a sensor writes. -/
def senStateFlds : List Fld := [F.CNPY_EXCL_MASK, F.CNPY_HP_STAT_ST, F.CNPY_SEN_STAT_CAUSE, F.CNPY_SEN_STAT_INSTEP, F.CNPY_SEN_STAT_OUTCNT,
  F.CNPY_SEN_STAT_STATE]

theorem senStateFlds_subset {l : List Fld} : senStateFlds ⊆ l ↔ [F.CNPY_EXCL_MASK, F.CNPY_HP_STAT_ST, F.CNPY_SEN_STAT_CAUSE, F.CNPY_SEN_STAT_INSTEP,
    F.CNPY_SEN_STAT_OUTCNT, F.CNPY_SEN_STAT_STATE] ⊆ l := by
  rw [senStateFlds]

@[simp] theorem Dev.view_senState (d : Dev) (i st cause : Nat) (h : senStateFlds ⊆ κ.flds) : (d.senState i st cause).view κ = d.view κ := by
  simp only [senStateFlds_subset, List.cons_subset] at h
  simp +decide [Dev.senState, h]

@[simp] theorem Dev.view_handPost (d : Dev) (i : Nat) (fr : Frame) (o : Nat × Nat × Nat × Nat) (h : F.CNPY_SEN_CNT_LATE ∈ κ.flds) :
    (d.handPost i fr o).view κ = d.view κ := by
  simp [Dev.handPost, h]

@[simp] theorem Dev.view_jobFrame (d : Dev) (cam : Nat) (fr : Frame) (h : [F.JOB_STAT_SKIP, F.JOB_STAT_STATE] ⊆ κ.flds) :
    (d.jobFrame cam fr).view κ = d.view κ := by
  simp only [List.cons_subset] at h
  refine Dev.view_each _ _ _ fun j a => ?_
  split <;> simp +decide [h]

@[simp] theorem Dev.view_framePost (d : Dev) (i buf stamp arr : Nat) (h : senStateFlds ++ [F.CNPY_SEN_BANK_ACT, F.CNPY_SEN_BANK_PEND, F.CNPY_SEN_CNT_BADOFF,
      F.CNPY_SEN_CNT_LATE, F.CNPY_SEN_OFFS_OFFS, F.JOB_STAT_SKIP, F.JOB_STAT_STATE] ⊆ κ.flds) :
    (d.framePost i buf stamp arr).view κ = d.view κ := by
  simp only [senStateFlds_subset, List.append_subset, List.cons_subset] at h
  unfold Dev.framePost
  split
  · rfl
  extract_lets d1 d2 dp d3 off ok d4 fr d5 st da db d6 st'
  have h1 : d1.view κ = d.view κ := by simp +decide [d1]
  have h2 : d2.view κ = d1.view κ := by simp +decide [h, senStateFlds_subset, d2]
  have hp : dp.view κ = d2.view κ := by simp +decide [h, dp]
  have h3 : d3.view κ = d2.view κ := by simp +decide [h, senStateFlds_subset, d3, hp]
  have h4 : d4.view κ = d3.view κ := by simp +decide [h, d4]
  have h5 : d5.view κ = d4.view κ := rfl
  have ha : da.view κ = d5.view κ := by simp +decide [h, da]
  have hb : db.view κ = d5.view κ := by simp +decide [h, db]
  have h6 : d6.view κ = d5.view κ := by simp +decide [h, senStateFlds_subset, d6, ha, hb]
  simp +decide [h, h1, h2, h3, h4, h5, h6]

@[simp] theorem State.view_lidarPost (s : State) (i buf : Nat) (h : senStateFlds ++ iommuFaultFlds ++ [F.CNPY_SEN_BANK_ACT, F.CNPY_SEN_BANK_PEND,
      F.CNPY_SEN_CNT_BADOFF, F.CNPY_SEN_CNT_LATE, F.CNPY_SEN_OFFS_OFFS, F.JOB_STAT_SKIP, F.JOB_STAT_STATE] ⊆ κ.flds) (hm : κ.mem = true) :
    (s.lidarPost i buf).view κ = s.view κ := by
  simp only [List.append_subset, List.cons_subset] at h
  simp only [State.lidarPost]
  repeat' split
  all_goals simp [h, hm]

@[simp] theorem State.view_asBank (s : State) (b : Nat) (k : State → State) (hk : ∀ e, (k e).view κ = e.view κ) : (s.asBank b k).view κ = s.view κ := by
  simp [State.asBank, hk]

@[simp] theorem State.view_wrCh (s : State) (slot off : Nat) (a : Acc) (k : Nat → State → State) (hk : ∀ i e, (k i e).view κ = e.view κ) :
    (s.wrCh slot off a k).view κ = s.view κ := by
  simp [State.wrCh, hk]

@[simp] theorem State.view_wr (s : State) (slot off : Nat) (a : Acc) (k : State → State) (hk : ∀ e, (k e).view κ = e.view κ) :
    (s.wr slot off a k).view κ = s.view κ := by
  simp [State.wr, hk]

@[simp] theorem kept_execLidarPost (a : Acc) (buf : BitVec 8) (s : State) (h : [F.CNPY_EXCL_MASK, F.CNPY_HP_STAT_ST, F.CNPY_SEN_BANK_ACT,
      F.CNPY_SEN_BANK_PEND, F.CNPY_SEN_CNT_BADOFF, F.CNPY_SEN_CNT_LATE, F.CNPY_SEN_OFFS_OFFS, F.CNPY_SEN_STAT_CAUSE, F.CNPY_SEN_STAT_INSTEP,
      F.CNPY_SEN_STAT_OUTCNT, F.CNPY_SEN_STAT_STATE, F.COM_STAT_FAULT, F.IOMU_FQCSR_FQMF, F.IOMU_FQCSR_FQOF, F.IOMU_FQT_V, F.IOMU_IPSR_V, F.JOB_STAT_SKIP,
      F.JOB_STAT_STATE] ⊆ κ.flds) (hm : κ.mem = true) :
    Kept κ s (execLidarPost a buf s) := by
  simp only [List.cons_subset] at h
  simp [execLidarPost, h, hm, senStateFlds_subset, iommuFaultFlds_subset]

@[simp] theorem Dev.view_senSilent (d : Dev) (i : Nat) (h : senStateFlds ⊆ κ.flds) : (d.senSilent i).view κ = d.view κ := by
  simp [Dev.senSilent, h]

@[simp] theorem kept_execSensorEnWrite (a : Acc) (en : Bool) (s : State) (h : [F.CNPY_EXCL_MASK, F.CNPY_HP_STAT_ST, F.CNPY_SEN_CFG_EN, F.CNPY_SEN_CNT_LATE,
      F.CNPY_SEN_STAT_CAUSE, F.CNPY_SEN_STAT_INSTEP, F.CNPY_SEN_STAT_OUTCNT, F.CNPY_SEN_STAT_STATE] ⊆ κ.flds) :
    Kept κ s (execSensorEnWrite a en s) := by
  simp only [List.cons_subset] at h
  simp [execSensorEnWrite, h, senStateFlds_subset]

@[simp] theorem kept_execSensorRecheck (a : Acc) (s : State) (h : [F.CNPY_EXCL_MASK, F.CNPY_HP_STAT_ST, F.CNPY_SEN_STAT_CAUSE, F.CNPY_SEN_STAT_INSTEP,
      F.CNPY_SEN_STAT_OUTCNT, F.CNPY_SEN_STAT_STATE] ⊆ κ.flds) :
    Kept κ s (execSensorRecheck a s) := by
  simp only [List.cons_subset] at h
  simp [execSensorRecheck, h, senStateFlds_subset]

@[simp] theorem State.view_senData (s : State) (i bank : Nat) (fr : Frame) (h : iommuFaultFlds ⊆ κ.flds) (hm : κ.mem = true) :
    (s.senData i bank fr).1.view κ = s.view κ := by
  unfold State.senData
  extract_lets a all
  have hall : ∀ (s : State) (n : Nat), (all s n).1.view κ = s.view κ := by
    intro s n
    simp only [all]
    split
    all_goals next he => simp [h, hm, State.view_of_eq he]
  clear_value all
  split
  · exact hall _ _
  · exact (hall _ _).trans (hall _ _)

@[simp] theorem State.view_project (s : State) (i : Nat) (bi : Nat) (fi : Frame) (k : Nat) (bk : Nat) (fk : Frame) (h : iommuFaultFlds ⊆ κ.flds) (hm : κ.mem =
      true) :
    (s.project i bi fi k bk fk).1.view κ = s.view κ := by
  simp [State.project, h, hm]

@[simp] theorem State.view_checkDone (s : State) (i : Nat) (h : senStateFlds ++ iommuFaultFlds ++ [F.CNPY_SEN_CHK_OVL, F.CNPY_SEN_CHK_SCORE] ⊆ κ.flds) (hm :
      κ.mem = true) :
    (s.checkDone i).view κ = s.view κ := by
  simp only [senStateFlds_subset, iommuFaultFlds_subset, List.append_subset, List.cons_subset] at h
  simp +decide [State.checkDone, h, hm, iommuFaultFlds_subset, senStateFlds_subset]

@[simp] theorem kept_execCalibrationCheckDone (i : Fin 8) (x1 x2 : Unit) (s : State) (h : [F.CAL_CX_V, F.CAL_CY_V, F.CAL_FX_V, F.CAL_FY_V, F.CAL_K1_V,
      F.CAL_K2_V, F.CAL_K3_V, F.CAL_P1_V, F.CAL_P2_V, F.CAL_TX_V, F.CAL_TY_V, F.CAL_TZ_V, F.CNPY_EXCL_MASK, F.CNPY_HP_STAT_ST, F.CNPY_SEN_CHK_OVL,
      F.CNPY_SEN_CHK_SCORE, F.CNPY_SEN_STAT_CAUSE, F.CNPY_SEN_STAT_INSTEP, F.CNPY_SEN_STAT_OUTCNT, F.CNPY_SEN_STAT_STATE, F.COM_STAT_FAULT, F.IOMU_FQCSR_FQMF,
      F.IOMU_FQCSR_FQOF, F.IOMU_FQT_V, F.IOMU_IPSR_V] ⊆ κ.flds) (hm : κ.mem = true) :
    Kept κ s (execCalibrationCheckDone i x1 x2 s) := by
  simp only [List.cons_subset] at h
  simp [execCalibrationCheckDone, h, hm, senStateFlds_subset, iommuFaultFlds_subset]

@[simp] theorem Dev.view_checkNoref (d : Dev) (i : Nat) (h : senStateFlds ⊆ κ.flds) : (d.checkNoref i).view κ = d.view κ := by
  simp [Dev.checkNoref, h]

@[simp] theorem kept_execBankSwapRequest (a : Acc) (mask : BitVec 8) (s : State) (h : F.CNPY_SEN_BANK_PEND ∈ κ.flds) :
    Kept κ s (execBankSwapRequest a mask s) := by
  simp only [execBankSwapRequest, kept_upd]
  exact Dev.view_wr _ _ _ _ _ _ fun d => Dev.view_each _ _ _ fun i a => Dev.view_set h a i 1

@[simp] theorem State.view_gridPut (s : State) (addr : Nat) (l : List Nat) (h : iommuFaultFlds ⊆ κ.flds) (hm : κ.mem = true) :
    (s.gridPut addr l).view κ = s.view κ := by
  simp only [iommuFaultFlds_subset, List.cons_subset] at h
  unfold State.gridPut
  split
  all_goals next he => simp +decide [h, hm, iommuFaultFlds_subset, State.view_of_eq he]

@[simp] theorem State.view_cellClear (s : State) (row col : Nat) (h : iommuFaultFlds ⊆ κ.flds) (hm : κ.mem = true) :
    (s.cellClear row col).view κ = s.view κ := by
  simp [State.cellClear, h, hm]

@[simp] theorem State.view_gridScroll (s : State) (h : iommuFaultFlds ⊆ κ.flds) (hm : κ.mem = true) : s.gridScroll.view κ = s.view κ := by
  simp only [State.gridScroll]
  split
  · refine (State.view_each _ _ _ fun r s => State.view_each _ _ _ fun c s => ?_).trans ?_
    · simp +decide [h, hm]
    · simp +decide [hm]
  · refine (State.view_each _ _ _ fun j s => State.view_each _ _ _ fun i s => ?_).trans ?_
    · simp +decide [h, hm]
    refine (State.view_each _ _ _ fun i s => State.view_each _ _ _ fun j s => ?_).trans ?_
    · simp +decide [h, hm]
    · simp +decide [hm]

@[simp] theorem State.view_rows (s : State) (base str len n : Nat) (h : iommuFaultFlds ⊆ κ.flds) (hm : κ.mem = true) :
    (s.rows base str len n).1.view κ = s.view κ := by
  induction n generalizing s base with
  | zero => rfl
  | succ k ih =>
    unfold State.rows
    split
    · next he => simp [h, hm, State.view_of_eq he]
    next he =>
    split
    all_goals next hr => simp [h, hm, State.view_of_eq hr, State.view_of_eq he, ih]

@[simp] theorem State.view_handObs (s : State) (x : Hand) (h : iommuFaultFlds ++ [F.CNPY_SEN_CNT_LATE] ⊆ κ.flds) (hm : κ.mem = true) :
    (s.handObs x).1.view κ = s.view κ := by
  simp only [List.append_subset, List.cons_subset] at h
  simp only [State.handObs]
  split
  · split <;> simp +decide [h, hm]
  split
  · next he => simp +decide [h, hm, State.view_of_eq he]
  next he =>
  split
  all_goals next hr => simp +decide [h, hm, State.view_of_eq hr, State.view_of_eq he]

@[simp] theorem State.view_binObs (s : State) (l : List Hand) (h : iommuFaultFlds ++ [F.CNPY_SEN_CNT_LATE] ⊆ κ.flds) (hm : κ.mem = true) :
    (s.binObs l).1.view κ = s.view κ := by
  simp only [List.append_subset, List.cons_subset] at h
  induction l generalizing s with
  | nil => rfl
  | cons a t ih =>
    unfold State.binObs
    split
    · next he => simp [h, hm, State.view_of_eq he, ih]
    next he =>
    split
    next hb => simp [h, hm, State.view_of_eq hb, State.view_of_eq he, ih]

@[simp] theorem State.view_fuseCell (s : State) (i j : Nat) (l : List CellObs) (h : iommuFaultFlds ⊆ κ.flds) (hm : κ.mem = true) :
    (s.fuseCell i j l).view κ = s.view κ := by
  simp [State.fuseCell, h, hm]

@[simp] theorem State.view_residualBin (s : State) (obs : List CellObs) (i : Nat) : (s.residualBin obs i).view κ = s.view κ := by
  simp +decide [State.residualBin]

@[simp] theorem State.view_gridFuse (s : State) (tk : Int) (h : iommuFaultFlds ++ [F.CNPY_SEN_CNT_LATE] ⊆ κ.flds) (hm : κ.mem = true) :
    (s.gridFuse tk).view κ = s.view κ := by
  simp only [List.append_subset, List.cons_subset] at h
  simp +decide [State.gridFuse, h, hm]

@[simp] theorem State.view_gridSweep (s : State) (h : iommuFaultFlds ⊆ κ.flds) (hm : κ.mem = true) : s.gridSweep.view κ = s.view κ := by
  have hc : ∀ (s : State) (g r c q : Nat), (let st := s.cellGet (25 * g + r) c 63
      if 512 ≤ (q + 1024 - st % 1024) % 1024 then
        (s.gridPut (s.dev.cellAt (25 * g + r) c) (List.replicate 112 0)).gridPut (s.dev.cellAt (25 * g + r) c + 126)
          (leBytes 2 (if tbit st 11 then st else st + 0x0800))
      else s).view κ = s.view κ := by
    intro s g r c q
    simp +decide [h, hm, -List.reduceReplicate]
  have hs : ∀ (s : State) (i : Nat) (v : Int), ({ s with dev := s.dev.setVar V.gridSweep i v } : State).view κ = s.view κ :=
    fun s i v => by simp +decide [hm]
  exact (hs _ _ _).trans (State.view_each s (List.range 25) _ fun r s => State.view_each s (List.range 400) _ fun c s => hc s _ r c _)

@[simp] theorem Dev.view_gridChecks (d : Dev) (tk : Int) : (d.gridChecks tk).view κ = d.view κ := by
  refine Dev.view_each _ _ _ fun i a => ?_
  simp only []
  split <;> simp +decide

@[simp] theorem Dev.view_handsLeft (d : Dev) (tk : Int) : (d.handsLeft tk).view κ = d.view κ := by
  simp [Dev.handsLeft]

@[simp] theorem Dev.view_handsOld (d : Dev) (tk : Int) (h : F.CNPY_SEN_CNT_LATE ∈ κ.flds) : (d.handsOld tk).view κ = d.view κ := by
  simp [Dev.handsOld, h]

@[simp] theorem State.view_gridUpdate (s : State) (h : iommuFaultFlds ++ [F.CNPY_GSEQ_SEQ, F.CNPY_SEN_CNT_LATE, F.CNPY_UPDSTAT_OVR] ⊆ κ.flds) (hm : κ.mem =
      true) :
    s.gridUpdate.view κ = s.view κ := by
  simp only [List.append_subset, List.cons_subset] at h
  have hs : ∀ (t : State) (tk : Int), ({ t with dev := t.dev.handsLeft tk } : State).view κ = t.view κ := fun t tk => by simp +decide [hm]
  unfold State.gridUpdate
  extract_lets tk d0 late dl dl' d1 d2 d3 d4 s1 s2
  have h0 : d0.view κ = s.dev.view κ := by simp +decide [d0]
  have hl : dl'.view κ = d0.view κ := by simp +decide [h, dl', dl]
  have h1 : d1.view κ = d0.view κ := by simp +decide [h, d1]
  have h2 : d2.view κ = d1.view κ := by simp +decide [d2]
  have h3 : d3.view κ = d2.view κ := by simp +decide [d3]
  have h4 : d4.view κ = d3.view κ := by simp +decide [d4]
  have h5 : s2.view κ = s.view κ := by simp +decide [h, hm, s2, s1, h4, h3, h2, h1, h0]
  split
  · rfl
  split
  · simp +decide [hm, h0]
  split
  · simp +decide [h, hm, hl, h0]
  · exact (hs s2 tk).trans h5

@[simp] theorem kept_execGridUpdate (x0 : Unit) (s : State) (h : [F.CAL_CX_V, F.CAL_CY_V, F.CAL_FX_V, F.CAL_FY_V, F.CAL_K1_V, F.CAL_K2_V, F.CAL_K3_V,
      F.CAL_P1_V, F.CAL_P2_V, F.CAL_TX_V, F.CAL_TY_V, F.CAL_TZ_V, F.CNPY_GSEQ_SEQ, F.CNPY_SEN_CNT_LATE, F.CNPY_UPDSTAT_OVR, F.COM_STAT_FAULT,
      F.IOMU_FQCSR_FQMF, F.IOMU_FQCSR_FQOF, F.IOMU_FQT_V, F.IOMU_IPSR_V] ⊆ κ.flds) (hm : κ.mem = true) :
    Kept κ s (execGridUpdate x0 s) := by
  simp only [List.cons_subset] at h
  simp [execGridUpdate, h, hm, iommuFaultFlds_subset]

@[simp] theorem State.view_gridDone (s : State) (h : iommuFaultFlds ++ [F.CNPY_GSEQ_SEQ, F.CNPY_ORG_ORGX, F.CNPY_ORG_ORGY, F.CNPY_UPDSTAT_DUR] ⊆ κ.flds) (hm :
      κ.mem = true) :
    s.gridDone.view κ = s.view κ := by
  simp only [iommuFaultFlds_subset, List.append_subset, List.cons_subset] at h
  simp +decide [State.gridDone, h, hm, iommuFaultFlds_subset]

@[simp] theorem kept_execGridUpdateDone (s : State) (h : [F.CNPY_GSEQ_SEQ, F.CNPY_ORG_ORGX, F.CNPY_ORG_ORGY, F.CNPY_UPDSTAT_DUR, F.COM_STAT_FAULT,
      F.IOMU_FQCSR_FQMF, F.IOMU_FQCSR_FQOF, F.IOMU_FQT_V, F.IOMU_IPSR_V] ⊆ κ.flds) (hm : κ.mem = true) :
    Kept κ s (execGridUpdateDone s) := by
  simp only [List.cons_subset] at h
  simp [execGridUpdateDone, h, hm, iommuFaultFlds_subset]

@[simp] theorem Dev.view_residual (d : Dev) (i : Nat) (h : [F.CRES_DPITCH_V, F.CRES_DROLL_V, F.CRES_DX_V, F.CRES_DYAW_V, F.CRES_DY_V, F.CRES_DZ_V,
      F.CRES_INFO_V, F.CRES_SEQ_V, F.CRES_TK_V] ⊆ κ.flds) :
    (d.residual i).view κ = d.view κ := by
  simp only [List.cons_subset] at h
  simp +decide [Dev.residual, h]

@[simp] theorem kept_execProjectionGo (a : Acc) (v : BitVec 32) (s : State) (h : [F.CNPY_HP_CTRL_BANK, F.CNPY_HP_CTRL_DBUF, F.CNPY_HP_CTRL_DST,
      F.CNPY_HP_CTRL_SBUF, F.CNPY_HP_CTRL_SRC, F.CNPY_HP_STAT_ST] ⊆ κ.flds) :
    Kept κ s (execProjectionGo a v s) := by
  simp only [List.cons_subset] at h
  simp [execProjectionGo, h]

@[simp] theorem State.view_projDone (s : State) (h : iommuFaultFlds ++ [F.CNPY_HP_STAT_OVL, F.CNPY_HP_STAT_SCORE, F.CNPY_HP_STAT_ST] ⊆ κ.flds) (hm : κ.mem =
      true) :
    s.projDone.view κ = s.view κ := by
  simp only [List.append_subset, List.cons_subset] at h
  simp [State.projDone, h, hm]

@[simp] theorem kept_execProjectionDone (x0 x1 x2 : Unit) (s : State) (h : [F.CAL_CX_V, F.CAL_CY_V, F.CAL_FX_V, F.CAL_FY_V, F.CAL_K1_V, F.CAL_K2_V,
      F.CAL_K3_V, F.CAL_P1_V, F.CAL_P2_V, F.CAL_TX_V, F.CAL_TY_V, F.CAL_TZ_V, F.CNPY_HP_STAT_OVL, F.CNPY_HP_STAT_SCORE, F.CNPY_HP_STAT_ST, F.COM_STAT_FAULT,
      F.IOMU_FQCSR_FQMF, F.IOMU_FQCSR_FQOF, F.IOMU_FQT_V, F.IOMU_IPSR_V] ⊆ κ.flds) (hm : κ.mem = true) :
    Kept κ s (execProjectionDone x0 x1 x2 s) := by
  simp only [List.cons_subset] at h
  simp [execProjectionDone, h, hm, iommuFaultFlds_subset]

@[simp] theorem kept_execGridClear (a : Acc) (s : State) : Kept κ s (execGridClear a s) := by
  simp +decide [execGridClear]

@[simp] theorem kept_execNpuJobGo (a : Acc) (j : Fin 64) (s : State) (h : F.JOB_STAT_STATE ∈ κ.flds) : Kept κ s (execNpuJobGo a j s) := by
  simp [execNpuJobGo, h]

@[simp] theorem kept_execNpuJobEnable (a : Acc) (j : Fin 64) (en : Bool) (s : State) (h : [F.JOB_CFG_EN, F.JOB_STAT_STATE] ⊆ κ.flds) :
    Kept κ s (execNpuJobEnable a j en s) := by
  simp only [List.cons_subset] at h
  simp [execNpuJobEnable, h]

@[simp] theorem Dev.view_jobEnd (d : Dev) (j st errc : Nat) (h : [F.JOB_STAT_ERRC, F.JOB_STAT_STATE, F.JOB_TEND_T, F.NPU_RUNJOB_RUNNING] ⊆ κ.flds) :
    (d.jobEnd j st errc).view κ = d.view κ := by
  simp only [List.cons_subset] at h
  simp +decide [Dev.jobEnd, h]

@[simp] theorem State.view_jobCheck (s : State) (j : Nat) (h : iommuFaultFlds ⊆ κ.flds) (hm : κ.mem = true) : (s.jobCheck j).1.view κ = s.view κ := by
  simp only [State.jobCheck]
  split
  · next he => simp [h, hm, State.view_of_eq he]
  next he =>
  split
  · simp [h, hm, State.view_of_eq he]
  split
  · simp [h, hm, State.view_of_eq he]
  split
  · simp [h, hm, State.view_of_eq he]
  split
  · next hp => simp [h, hm, State.view_of_eq hp, State.view_of_eq he]
  next hp =>
  split
  · simp [h, hm, State.view_of_eq hp, State.view_of_eq he]
  split
  · next ha => simp [h, hm, State.view_of_eq ha, State.view_of_eq hp, State.view_of_eq he]
  next ha => split <;> simp [h, hm, State.view_of_eq ha, State.view_of_eq hp, State.view_of_eq he]

@[simp] theorem State.view_tensorRead (s : State) (base str len n : Nat) (h : iommuFaultFlds ⊆ κ.flds) (hm : κ.mem = true) :
    (s.tensorRead base str len n).1.view κ = s.view κ := by
  induction n generalizing s base with
  | zero => rfl
  | succ k ih =>
    unfold State.tensorRead
    split
    all_goals next he => simp [h, hm, State.view_of_eq he, ih]

@[simp] theorem State.view_tensorWrite (s : State) (base str len n : Nat) (l : List Nat) (h : iommuFaultFlds ⊆ κ.flds) (hm : κ.mem = true) :
    (s.tensorWrite base str len n l).1.view κ = s.view κ := by
  induction n generalizing s base l with
  | zero => rfl
  | succ k ih =>
    unfold State.tensorWrite
    split
    all_goals next he => simp [h, hm, State.view_of_eq he, ih]

@[simp] theorem State.view_jobInputs (s : State) (j k n : Nat) (h : iommuFaultFlds ⊆ κ.flds) (hm : κ.mem = true) :
    (s.jobInputs j k n).1.view κ = s.view κ := by
  induction n generalizing s k with
  | zero => rfl
  | succ m ih =>
    simp only [State.jobInputs]
    split
    · next he => simp [h, hm, State.view_of_eq he]
    next he =>
    split
    all_goals next ht => simp [h, hm, State.view_of_eq ht, State.view_of_eq he, ih]

@[simp] theorem Dev.view_jobBegin (d : Dev) (j : Nat) (h : [F.JOB_STAMP_STAMP, F.JOB_STAT_ERRC, F.JOB_STAT_STATE, F.JOB_TSTART_T, F.NPU_RUNJOB_JOB,
      F.NPU_RUNJOB_RUNNING] ⊆ κ.flds) :
    (d.jobBegin j).view κ = d.view κ := by
  simp only [List.cons_subset] at h
  simp +decide [Dev.jobBegin, h]

@[simp] theorem State.view_jobStart (s : State) (h : iommuFaultFlds ++ [F.JOB_STAMP_STAMP, F.JOB_STAT_ERRC, F.JOB_STAT_STATE, F.JOB_TEND_T, F.JOB_TSTART_T,
      F.NPU_RUNJOB_JOB, F.NPU_RUNJOB_RUNNING] ⊆ κ.flds) (hm : κ.mem = true) :
    s.jobStart.view κ = s.view κ := by
  simp only [List.append_subset, List.cons_subset] at h
  unfold State.jobStart
  split
  · rfl
  split
  · rfl
  split
  · next hc =>
    split
    all_goals next hi => simp [h, hm, State.view_of_eq hi, State.view_of_eq hc]
  · next hc => simp [h, hm, State.view_of_eq hc]

@[simp] theorem kept_execNpuJobStart (s : State) (h : [F.COM_STAT_FAULT, F.IOMU_FQCSR_FQMF, F.IOMU_FQCSR_FQOF, F.IOMU_FQT_V, F.IOMU_IPSR_V, F.JOB_STAMP_STAMP,
      F.JOB_STAT_ERRC, F.JOB_STAT_STATE, F.JOB_TEND_T, F.JOB_TSTART_T, F.NPU_RUNJOB_JOB, F.NPU_RUNJOB_RUNNING] ⊆ κ.flds) (hm : κ.mem = true) :
    Kept κ s (execNpuJobStart s) := by
  simp only [List.cons_subset] at h
  simp [execNpuJobStart, h, hm, iommuFaultFlds_subset]

@[simp] theorem State.view_outDesc (s : State) (j k : Nat) (h : iommuFaultFlds ⊆ κ.flds) (hm : κ.mem = true) : (s.outDesc j k).1.view κ = s.view κ := by
  unfold State.outDesc
  split
  all_goals next he => simp [h, hm, State.view_of_eq he]

@[simp] theorem State.view_handOff (s : State) (j cam : Nat) (fr : Frame) (h : iommuFaultFlds ++ [F.CNPY_SEN_CNT_LATE] ⊆ κ.flds) (hm : κ.mem = true) :
    (s.handOff j cam fr).view κ = s.view κ := by
  simp only [List.append_subset, List.cons_subset] at h
  simp only [State.handOff]
  repeat' split
  all_goals simp [h, hm]

@[simp] theorem State.view_jobOutputs (s : State) (j k : Nat) (outs : List (List Byte)) (h : iommuFaultFlds ⊆ κ.flds) (hm : κ.mem = true) :
    (s.jobOutputs j k outs).1.view κ = s.view κ := by
  induction outs generalizing s k with
  | nil => rfl
  | cons o t ih =>
    unfold State.jobOutputs
    split
    · next he => simp [h, hm, State.view_of_eq he]
    next he =>
    split
    all_goals next ht => simp [h, hm, State.view_of_eq ht, State.view_of_eq he, ih]

@[simp] theorem State.view_jobDone (s : State) (outs : List (List Byte)) (h : iommuFaultFlds ++ [F.CNPY_SEN_CNT_LATE, F.JOB_RUNS_RUNS, F.JOB_STAT_ERRC,
      F.JOB_STAT_STATE, F.JOB_TEND_T, F.NPU_RUNJOB_RUNNING] ⊆ κ.flds) (hm : κ.mem = true) :
    (s.jobDone outs).view κ = s.view κ := by
  simp only [List.append_subset, List.cons_subset] at h
  simp only [State.jobDone]
  split
  · rfl
  split
  · next he => simp [h, hm, State.view_of_eq he]
  next he => split <;> simp [h, hm, State.view_of_eq he]

@[simp] theorem kept_execNpuJobDone (outs : List (List Byte)) (s : State) (h : [F.CNPY_SEN_CNT_LATE, F.COM_STAT_FAULT, F.IOMU_FQCSR_FQMF, F.IOMU_FQCSR_FQOF,
      F.IOMU_FQT_V, F.IOMU_IPSR_V, F.JOB_RUNS_RUNS, F.JOB_STAT_ERRC, F.JOB_STAT_STATE, F.JOB_TEND_T, F.NPU_RUNJOB_RUNNING] ⊆ κ.flds) (hm : κ.mem = true) :
    Kept κ s (execNpuJobDone outs s) := by
  simp only [List.cons_subset] at h
  simp [execNpuJobDone, h, hm, iommuFaultFlds_subset]

@[simp] theorem Dev.view_jobLimit (d : Dev) (h : [F.JOB_STAT_ERRC, F.JOB_STAT_STATE, F.JOB_TEND_T, F.NPU_RUNJOB_RUNNING] ⊆ κ.flds) :
    d.jobLimit.view κ = d.view κ := by
  simp only [List.cons_subset] at h
  simp [Dev.jobLimit, h]

@[simp] theorem kept_execNpuAbort (a : Acc) (s : State) (h : [F.JOB_STAT_ERRC, F.JOB_STAT_STATE, F.JOB_TEND_T, F.NPU_RUNJOB_RUNNING] ⊆ κ.flds) :
    Kept κ s (execNpuAbort a s) := by
  simp only [List.cons_subset] at h
  simp [execNpuAbort, h]

end Sys2Proof.Machine
end

section
/-! ### CLR: commits, buffer writes, slot timers -/

namespace Sys2Proof.Machine

variable {κ : Scope}

@[simp] theorem kept_execClrCommit (a : Acc) (v : BitVec 32) (s : State) (h : [F.CLR_HDR_GEN, F.CLR_HDR_LIVE, F.CLR_HDR_SEQ, F.CLR_HDR_STALE, F.CLR_HDR_WDRN,
      F.CLR_SLOT_STAT_AGE, F.CLR_VIOL_KIND, F.CLR_VIOL_PLANE, F.CLR_VIOL_SLOT, F.CLR_VIOL_VALID] ⊆ κ.flds) :
    Kept κ s (execClrCommit a v s) := by
  simp only [List.cons_subset] at h
  simp [execClrCommit, h, clrFlds_subset]

@[simp] theorem Dev.view_clrByte (d : Dev) (p off : Nat) (v : Nat) (h : clrViolFlds ⊆ κ.flds) : (d.clrByte p off v).view κ = d.view κ := by
  simp [Dev.clrByte, h]

@[simp] theorem Dev.view_clrBytes (d : Dev) (p off : Nat) (l : List Byte) (h : clrViolFlds ⊆ κ.flds) : (d.clrBytes p off l).view κ = d.view κ := by
  induction l generalizing d off with
  | nil => rfl
  | cons x t ih => simp [h, Dev.clrBytes, ih]

@[simp] theorem kept_execClrBufferWrite (a : Acc) (off : BitVec 16) (l : List Byte) (s : State) (h : [F.CLR_VIOL_KIND, F.CLR_VIOL_PLANE, F.CLR_VIOL_SLOT,
      F.CLR_VIOL_VALID] ⊆ κ.flds) :
    Kept κ s (execClrBufferWrite a off l s) := by
  simp only [List.cons_subset] at h
  simp [execClrBufferWrite, h, clrViolFlds_subset]

@[simp] theorem kept_execClrSlotCfgWrite (a : Acc) (v : BitVec 32) (s : State) (h : [F.CLR_SLOT_CFG_STALE_T, F.CLR_SLOT_CFG_WDR_T, F.CLR_VIOL_KIND,
      F.CLR_VIOL_PLANE, F.CLR_VIOL_SLOT, F.CLR_VIOL_VALID] ⊆ κ.flds) :
    Kept κ s (execClrSlotCfgWrite a v s) := by
  simp only [List.cons_subset] at h
  simp [execClrSlotCfgWrite, h, clrViolFlds_subset]

@[simp] theorem Dev.view_staleTimeout (d : Dev) (i : Nat) (h : [F.CLR_HDR_STALE, F.CLR_SLOT_STAT_STALECNT] ⊆ κ.flds) :
    (d.staleTimeout i).view κ = d.view κ := by
  simp only [List.cons_subset] at h
  simp [Dev.staleTimeout, h]

@[simp] theorem Dev.view_withdrawalTimeout (d : Dev) (i : Nat) (h : [F.CLR_HDR_WDRN, F.TIME_HOLDERR_ERRB, F.TIME_RATE_RATE, F.TIME_STATE_ST] ⊆ κ.flds) :
    (d.withdrawalTimeout i).view κ = d.view κ := by
  simp only [List.cons_subset] at h
  simp [Dev.withdrawalTimeout, h, holdoverFlds_subset]

end Sys2Proof.Machine
end

section
/-! ### CROP: the delay line, the time stage, the taps and the yield pairs -/

namespace Sys2Proof.Machine

variable {κ : Scope}

@[simp] theorem Dev.view_cellZero (d : Dev) (k : Nat) (h : [F.CELL_CONF, F.CELL_CONT, F.CELL_COVER, F.CELL_FROZEN, F.CELL_MASS, F.CELL_NOLA, F.CELL_VALID] ⊆
      κ.flds) :
    (d.cellZero k).view κ = d.view κ := by
  simp only [List.cons_subset] at h
  simp +decide [Dev.cellZero, h]

@[simp] theorem Dev.view_lineAdvance (d : Dev) (dist : Int) (h : [F.CELL_CONF, F.CELL_CONT, F.CELL_COVER, F.CELL_FROZEN, F.CELL_MASS, F.CELL_NOLA,
      F.CELL_VALID, F.CROP_LSEQ_SEQ, F.CROP_XMAX_IDX] ⊆ κ.flds) :
    (d.lineAdvance dist).view κ = d.view κ := by
  simp only [List.cons_subset] at h
  simp +decide [Dev.lineAdvance, h]

@[simp] theorem Dev.view_lineClear (d : Dev) (h : [F.CELL_CONF, F.CELL_CONT, F.CELL_COVER, F.CELL_FROZEN, F.CELL_MASS, F.CELL_NOLA, F.CELL_VALID,
      F.CROP_LSEQ_SEQ, F.CROP_XMAX_IDX] ⊆ κ.flds) :
    d.lineClear.view κ = d.view κ := by
  simp only [List.cons_subset] at h
  simp +decide [Dev.lineClear, h]

@[simp] theorem kept_execLineClear (a : Acc) (s : State) (h : [F.CELL_CONF, F.CELL_CONT, F.CELL_COVER, F.CELL_FROZEN, F.CELL_MASS, F.CELL_NOLA, F.CELL_VALID,
      F.CROP_LSEQ_SEQ, F.CROP_XMAX_IDX] ⊆ κ.flds) :
    Kept κ s (execLineClear a s) := by
  simp only [List.cons_subset] at h
  simp [execLineClear, h]

@[simp] theorem kept_execStageClear (a : Acc) (s : State) : Kept κ s (execStageClear a s) := by
  simp +decide [execStageClear]

@[simp] theorem Dev.view_flowRead (d : Dev) (h : F.CROP_STATE_FLOWOK ∈ κ.flds) : d.flowRead.view κ = d.view κ := by
  simp +decide [Dev.flowRead, h]

@[simp] theorem Dev.view_flowStale (d : Dev) (h : F.CROP_STATE_FLOWOK ∈ κ.flds) : d.flowStale.view κ = d.view κ := by
  simp +decide [Dev.flowStale, h]

@[simp] theorem Dev.view_stageAdvance (d : Dev) : d.stageAdvance.view κ = d.view κ := by
  simp [Dev.stageAdvance]

@[simp] theorem Dev.view_parcelIn (d : Dev) (p : Parcel) (h : F.CROP_STATE_QFULL ∈ κ.flds) : (d.parcelIn p).view κ = d.view κ := by
  simp [Dev.parcelIn, h]

@[simp] theorem Dev.view_cross (d : Dev) (h : [F.CELL_CONF, F.CELL_CONT, F.CELL_COVER, F.CELL_FROZEN, F.CELL_MASS, F.CELL_NOLA, F.CELL_VALID, F.CROP_LSEQ_SEQ,
      F.CROP_STATE_QFULL, F.CROP_XMAX_IDX] ⊆ κ.flds) :
    d.cross.view κ = d.view κ := by
  simp only [List.cons_subset] at h
  simp [Dev.cross, h]

@[simp] theorem Dev.view_cropHist (d : Dev) : d.cropHist.view κ = d.view κ := by
  simp [Dev.cropHist]

@[simp] theorem Dev.view_yieldGather (d : Dev) : d.yieldGather.view κ = d.view κ := by
  simp only [Dev.yieldGather]
  repeat' split
  all_goals simp

@[simp] theorem Dev.view_cropTickDo (d : Dev) (h : [F.CELL_CONF, F.CELL_CONT, F.CELL_COVER, F.CELL_FROZEN, F.CELL_MASS, F.CELL_NOLA, F.CELL_VALID,
      F.CROP_LSEQ_SEQ, F.CROP_STATE_EGOOK, F.CROP_STATE_FLOWOK, F.CROP_STATE_GRIDOK, F.CROP_STATE_NPAR, F.CROP_STATE_QFULL, F.CROP_XMAX_IDX] ⊆ κ.flds) :
    d.cropTickDo.view κ = d.view κ := by
  simp only [List.cons_subset] at h
  simp +decide [Dev.cropTickDo, h]

@[simp] theorem Dev.view_parcelArrival (d : Dev) (h : [F.CROP_STATE_NPAR, F.CROP_STATE_QFULL] ⊆ κ.flds) : d.parcelArrival.view κ = d.view κ := by
  simp only [List.cons_subset] at h
  unfold Dev.parcelArrival
  split <;> simp [h]

@[simp] theorem State.view_sampleCell (s : State) (n : Int) (h : [F.CELL_CONF, F.CELL_CONT, F.CELL_COVER, F.CELL_MASS, F.CELL_NOLA, F.CELL_VALID] ⊆ κ.flds) :
    (s.sampleCell n).view κ = s.view κ := by
  simp only [List.cons_subset] at h
  simp +decide [State.sampleCell, h]

@[simp] theorem State.view_samplingPass (s : State) (h : [F.CELL_CONF, F.CELL_CONT, F.CELL_COVER, F.CELL_FROZEN, F.CELL_MASS, F.CELL_NOLA, F.CELL_VALID,
      F.CROP_LSEQ_SEQ] ⊆ κ.flds) :
    s.samplingPass.view κ = s.view κ := by
  simp only [List.cons_subset] at h
  simp +decide [State.samplingPass, h]

@[simp] theorem kept_execSamplingPass (s : State) (h : [F.CELL_CONF, F.CELL_CONT, F.CELL_COVER, F.CELL_FROZEN, F.CELL_MASS, F.CELL_NOLA, F.CELL_VALID,
      F.CROP_LSEQ_SEQ] ⊆ κ.flds) :
    Kept κ s (execSamplingPass s) := by
  simp only [List.cons_subset] at h
  simp [execSamplingPass, h]

@[simp] theorem kept_execTapEnable (a : Acc) (t : Fin 16) (en : Bool) (s : State) (h : [F.TAP_CFG_EN, F.TAP_STAT_COMMITS] ⊆ κ.flds) :
    Kept κ s (execTapEnable a t en s) := by
  simp only [List.cons_subset] at h
  simp +decide [execTapEnable, h]

@[simp] theorem Dev.view_tapCommit (d : Dev) (t : Nat) (h : [F.CLR_HDR_GEN, F.CLR_HDR_LIVE, F.CLR_HDR_SEQ, F.CLR_HDR_STALE, F.CLR_HDR_WDRN,
      F.CLR_SLOT_STAT_AGE, F.CLR_VIOL_KIND, F.CLR_VIOL_PLANE, F.CLR_VIOL_SLOT, F.CLR_VIOL_VALID, F.TAP_OUT_VALUE, F.TAP_STAT_COMMITS, F.TAP_STAT_FLAGS] ⊆
      κ.flds) :
    (d.tapCommit t).view κ = d.view κ := by
  simp only [List.cons_subset] at h
  simp +decide [Dev.tapCommit, h, clrFlds_subset]

@[simp] theorem Dev.view_yieldOpen (d : Dev) (h : F.CROP_YSEQ_SEQ ∈ κ.flds) : d.yieldOpen.view κ = d.view κ := by
  simp [Dev.yieldOpen, h]

@[simp] theorem Dev.view_yieldNext (d : Dev) (tp : Int) : (d.yieldNext tp).view κ = d.view κ := by
  simp +decide [Dev.yieldNext]

@[simp] theorem State.view_yieldPair (s : State) (h : iommuFaultFlds ++ [F.CROP_YDROP_CNT, F.CROP_YRING_WR_IDX, F.CROP_YSEQ_SEQ] ⊆ κ.flds) (hm : κ.mem = true)
      :
    s.yieldPair.view κ = s.view κ := by
  simp only [iommuFaultFlds_subset, List.append_subset, List.cons_subset] at h
  simp only [State.yieldPair]
  split
  · rfl
  split
  · simp +decide [hm]
  split
  · simp +decide [h, hm]
  split
  · simp +decide [h, hm]
  split
  all_goals next he => simp +decide [h, hm, iommuFaultFlds_subset, State.view_of_eq he]

@[simp] theorem kept_execYieldPair (s : State) (h : [F.COM_STAT_FAULT, F.CROP_YDROP_CNT, F.CROP_YRING_WR_IDX, F.CROP_YSEQ_SEQ, F.IOMU_FQCSR_FQMF,
      F.IOMU_FQCSR_FQOF, F.IOMU_FQT_V, F.IOMU_IPSR_V] ⊆ κ.flds) (hm : κ.mem = true) :
    Kept κ s (execYieldPair s) := by
  simp only [List.cons_subset] at h
  simp [execYieldPair, h, hm, iommuFaultFlds_subset]

end Sys2Proof.Machine
end

section
/-! ### DMA channels: their commands, the end of a descriptor, faults and parking -/

namespace Sys2Proof.Machine

variable {κ : Scope}

@[simp] theorem Dev.view_setChan (d : Dev) (c : Nat) (x : DmaChan) : (d.setChan c x).view κ = d.view κ := by
  simp [Dev.setChan]

@[simp] theorem Dev.view_dmaFail (d : Dev) (c : Nat) (p : DmaPoint) : (d.dmaFail c p).view κ = d.view κ := by
  simp [Dev.dmaFail]

@[simp] theorem Dev.view_flyDown (d : Dev) (c n : Nat) (h : F.DMA_ENG_STAT_INFLT ∈ κ.flds) : (d.flyDown c n).view κ = d.view κ := by
  simp +decide [Dev.flyDown, h]

@[simp] theorem Dev.view_parkClear (d : Dev) (c : Nat) (h : [F.DMA_CH_DONE_DONE, F.DMA_CH_DSTN_DST_NEXT, F.DMA_CH_FADDR_FADDR, F.DMA_CH_FREC_CAUSE,
      F.DMA_CH_FREC_KIND, F.DMA_CH_FREC_MULTI, F.DMA_CH_FREC_WR, F.DMA_CH_FSEQ_FSEQ, F.DMA_CH_FTIME_FTIME, F.DMA_CH_HOLDN_HOLDN, F.DMA_CH_HOLD_W,
      F.DMA_CH_ROW_ROW, F.DMA_CH_SRCN_SRC_NEXT] ⊆ κ.flds) :
    (d.parkClear c).view κ = d.view κ := by
  simp only [List.cons_subset] at h
  have hz : ∀ (d : Dev) (c : Nat), (d.each (List.range 16) (fun k a => a.set F.DMA_CH_HOLD_W (16 * c + k) 0)).view κ = d.view κ :=
    fun d c => Dev.view_each _ _ _ fun k a => by simp [h]
  refine (Dev.view_mk _ ..).trans ?_
  simp [h, hz]

@[simp] theorem Dev.view_dmaFaults (d : Dev) (h : F.COM_STAT_FAULT ∈ κ.flds) : d.dmaFaults.view κ = d.view κ := by
  simp [Dev.dmaFaults, h]

@[simp] theorem Dev.view_lineDrop (d : Dev) (c : Nat) (h : F.STR_CNT_DROPF ∈ κ.flds) : (d.lineDrop c).view κ = d.view κ := by
  have hf : ∀ (l : List (Nat × Nat)) (d : Dev), (l.foldr (fun e a => ((a.incSat F.STR_CNT_DROPF e.1).irq 0x2A 3).setVar V.strBuf e.1 e.2) d).view κ = d.view κ := by
    intro l d
    induction l with
    | nil => rfl
    | cons e t ih => simp +decide [h, ih]
  refine (Dev.view_each _ _ _ fun k a => ?_).trans (hf _ _)
  simp +decide

@[simp] theorem Dev.view_dmaOwner (d : Dev) (c : Nat) (h : F.DMA_CH_CFG_OWNER ∈ κ.flds) : (d.dmaOwner c).view κ = d.view κ := by
  simp [Dev.dmaOwner, h]

@[simp] theorem Dev.view_dmaState (d : Dev) (c st : Nat) (h : [F.COM_STAT_FAULT, F.DMA_CH_DONE_DONE, F.DMA_CH_DSTN_DST_NEXT, F.DMA_CH_FADDR_FADDR,
      F.DMA_CH_FREC_CAUSE, F.DMA_CH_FREC_KIND, F.DMA_CH_FREC_MULTI, F.DMA_CH_FREC_WR, F.DMA_CH_FSEQ_FSEQ, F.DMA_CH_FTIME_FTIME, F.DMA_CH_HOLDN_HOLDN,
      F.DMA_CH_HOLD_W, F.DMA_CH_ROW_ROW, F.DMA_CH_SRCN_SRC_NEXT, F.DMA_CH_STAT_PREEMPTED, F.DMA_CH_STAT_STATE] ⊆ κ.flds) :
    (d.dmaState c st).view κ = d.view κ := by
  simp only [List.cons_subset] at h
  simp [Dev.dmaState, h]

@[simp] theorem Dev.view_lineNext (d : Dev) (c n : Nat) (h : senStateFlds ++ [F.CNPY_SEN_BANK_ACT, F.CNPY_SEN_BANK_PEND, F.CNPY_SEN_CNT_BADOFF,
      F.CNPY_SEN_CNT_LATE, F.CNPY_SEN_OFFS_OFFS, F.COM_STAT_FAULT, F.DMA_CH_DONE_DONE, F.DMA_CH_DSTN_DST_NEXT, F.DMA_CH_FADDR_FADDR, F.DMA_CH_FREC_CAUSE,
      F.DMA_CH_FREC_KIND, F.DMA_CH_FREC_MULTI, F.DMA_CH_FREC_WR, F.DMA_CH_FSEQ_FSEQ, F.DMA_CH_FTIME_FTIME, F.DMA_CH_HOLDN_HOLDN, F.DMA_CH_HOLD_W,
      F.DMA_CH_ROW_ROW, F.DMA_CH_SRCN_SRC_NEXT, F.DMA_CH_STAT_PREEMPTED, F.DMA_CH_STAT_STATE, F.JOB_STAT_SKIP, F.JOB_STAT_STATE, F.STR_CNT_FRAMES] ⊆ κ.flds) :
    (d.lineNext c n).view κ = d.view κ := by
  simp only [List.append_subset, List.cons_subset] at h
  induction n generalizing d with
  | zero => rfl
  | succ n ih =>
    simp only [Dev.lineNext]
    split
    · rfl
    split <;> simp +decide [h, ih]

/-- What a stream line that goes on to its channel writes. -/
def lineFlds : List Fld := [F.CNPY_EXCL_MASK, F.CNPY_HP_STAT_ST, F.CNPY_SEN_BANK_ACT, F.CNPY_SEN_BANK_PEND, F.CNPY_SEN_CNT_BADOFF, F.CNPY_SEN_CNT_LATE,
  F.CNPY_SEN_OFFS_OFFS, F.CNPY_SEN_STAT_CAUSE, F.CNPY_SEN_STAT_INSTEP, F.CNPY_SEN_STAT_OUTCNT, F.CNPY_SEN_STAT_STATE, F.COM_STAT_FAULT, F.DMA_CH_CFG_OWNER,
  F.DMA_CH_DONE_DONE, F.DMA_CH_DSTN_DST_NEXT, F.DMA_CH_FADDR_FADDR, F.DMA_CH_FREC_CAUSE, F.DMA_CH_FREC_KIND, F.DMA_CH_FREC_MULTI, F.DMA_CH_FREC_WR,
  F.DMA_CH_FSEQ_FSEQ, F.DMA_CH_FTIME_FTIME, F.DMA_CH_HOLDN_HOLDN, F.DMA_CH_HOLD_W, F.DMA_CH_ROW_ROW, F.DMA_CH_SRCN_SRC_NEXT, F.DMA_CH_STAT_PREEMPTED,
  F.DMA_CH_STAT_STATE, F.JOB_STAT_SKIP, F.JOB_STAT_STATE, F.STR_CNT_FRAMES]

theorem lineFlds_subset {l : List Fld} : lineFlds ⊆ l ↔ [F.CNPY_EXCL_MASK, F.CNPY_HP_STAT_ST, F.CNPY_SEN_BANK_ACT, F.CNPY_SEN_BANK_PEND,
    F.CNPY_SEN_CNT_BADOFF, F.CNPY_SEN_CNT_LATE, F.CNPY_SEN_OFFS_OFFS, F.CNPY_SEN_STAT_CAUSE, F.CNPY_SEN_STAT_INSTEP, F.CNPY_SEN_STAT_OUTCNT,
    F.CNPY_SEN_STAT_STATE, F.COM_STAT_FAULT, F.DMA_CH_CFG_OWNER, F.DMA_CH_DONE_DONE, F.DMA_CH_DSTN_DST_NEXT, F.DMA_CH_FADDR_FADDR, F.DMA_CH_FREC_CAUSE,
    F.DMA_CH_FREC_KIND, F.DMA_CH_FREC_MULTI, F.DMA_CH_FREC_WR, F.DMA_CH_FSEQ_FSEQ, F.DMA_CH_FTIME_FTIME, F.DMA_CH_HOLDN_HOLDN, F.DMA_CH_HOLD_W,
    F.DMA_CH_ROW_ROW, F.DMA_CH_SRCN_SRC_NEXT, F.DMA_CH_STAT_PREEMPTED, F.DMA_CH_STAT_STATE, F.JOB_STAT_SKIP, F.JOB_STAT_STATE, F.STR_CNT_FRAMES] ⊆ l := by
  rw [lineFlds]

@[simp] theorem Dev.view_lineGo (d : Dev) (c : Nat) (h : lineFlds ⊆ κ.flds) : (d.lineGo c).view κ = d.view κ := by
  simp only [lineFlds_subset, List.cons_subset] at h
  simp [Dev.lineGo, h, senStateFlds_subset]

@[simp] theorem Dev.view_dmaGo (d : Dev) (c : Nat) (h : [F.COM_STAT_FAULT, F.DMA_CH_CUR_CUR, F.DMA_CH_DONE_DONE, F.DMA_CH_DSTN_DST_NEXT, F.DMA_CH_FADDR_FADDR,
      F.DMA_CH_FREC_CAUSE, F.DMA_CH_FREC_KIND, F.DMA_CH_FREC_MULTI, F.DMA_CH_FREC_WR, F.DMA_CH_FSEQ_FSEQ, F.DMA_CH_FTIME_FTIME, F.DMA_CH_HOLDN_HOLDN,
      F.DMA_CH_HOLD_W, F.DMA_CH_ROW_ROW, F.DMA_CH_SRCN_SRC_NEXT, F.DMA_CH_STAT_NDESC, F.DMA_CH_STAT_PREEMPTED, F.DMA_CH_STAT_REFAULT, F.DMA_CH_STAT_STATE] ⊆
      κ.flds) :
    (d.dmaGo c).view κ = d.view κ := by
  simp only [List.cons_subset] at h
  simp +decide [Dev.dmaGo, h]

@[simp] theorem kept_execDmaGo (a : Acc) (s : State) (h : [F.COM_STAT_FAULT, F.DMA_CH_CUR_CUR, F.DMA_CH_DONE_DONE, F.DMA_CH_DSTN_DST_NEXT,
      F.DMA_CH_FADDR_FADDR, F.DMA_CH_FREC_CAUSE, F.DMA_CH_FREC_KIND, F.DMA_CH_FREC_MULTI, F.DMA_CH_FREC_WR, F.DMA_CH_FSEQ_FSEQ, F.DMA_CH_FTIME_FTIME,
      F.DMA_CH_HOLDN_HOLDN, F.DMA_CH_HOLD_W, F.DMA_CH_ROW_ROW, F.DMA_CH_SRCN_SRC_NEXT, F.DMA_CH_STAT_NDESC, F.DMA_CH_STAT_PREEMPTED, F.DMA_CH_STAT_REFAULT,
      F.DMA_CH_STAT_STATE] ⊆ κ.flds) :
    Kept κ s (execDmaGo a s) := by
  simp only [List.cons_subset] at h
  simp [execDmaGo, h]

@[simp] theorem Dev.view_dmaFault (d : Dev) (c : Nat) (later : Bool) (h : [F.COM_STAT_FAULT, F.DMA_CH_DONE_DONE, F.DMA_CH_DSTN_DST_NEXT, F.DMA_CH_FADDR_FADDR,
      F.DMA_CH_FREC_CAUSE, F.DMA_CH_FREC_KIND, F.DMA_CH_FREC_MULTI, F.DMA_CH_FREC_WR, F.DMA_CH_FSEQ_FSEQ, F.DMA_CH_FTIME_FTIME, F.DMA_CH_HOLDN_HOLDN,
      F.DMA_CH_HOLD_W, F.DMA_CH_ROW_ROW, F.DMA_CH_SRCN_SRC_NEXT, F.DMA_CH_STAT_PREEMPTED, F.DMA_CH_STAT_STATE, F.STR_CNT_DROPF] ⊆ κ.flds) :
    (d.dmaFault c later).view κ = d.view κ := by
  simp only [List.cons_subset] at h
  simp only [Dev.dmaFault]
  split <;> simp +decide [h]

@[simp] theorem Dev.view_dmaPark (d : Dev) (c : Nat) (p : DmaPoint) (h : [F.COM_STAT_FAULT, F.DMA_CH_DONE_DONE, F.DMA_CH_DSTN_DST_NEXT, F.DMA_CH_FADDR_FADDR,
      F.DMA_CH_FREC_CAUSE, F.DMA_CH_FREC_KIND, F.DMA_CH_FREC_MULTI, F.DMA_CH_FREC_WR, F.DMA_CH_FSEQ_FSEQ, F.DMA_CH_FTIME_FTIME, F.DMA_CH_HOLDN_HOLDN,
      F.DMA_CH_HOLD_W, F.DMA_CH_ROW_ROW, F.DMA_CH_SRCN_SRC_NEXT, F.DMA_CH_STAT_PREEMPTED, F.DMA_CH_STAT_REFAULT, F.DMA_CH_STAT_STATE, F.DMA_ENG_FSEQ_SEQ,
      F.DMA_ENG_STAT_INFLT] ⊆ κ.flds) :
    (d.dmaPark c p).view κ = d.view κ := by
  simp only [List.cons_subset] at h
  simp +decide [Dev.dmaPark, h]

@[simp] theorem Dev.view_dmaParked (d : Dev) (c : Nat) (h : [F.COM_STAT_FAULT, F.DMA_CH_DONE_DONE, F.DMA_CH_DSTN_DST_NEXT, F.DMA_CH_FADDR_FADDR,
      F.DMA_CH_FREC_CAUSE, F.DMA_CH_FREC_KIND, F.DMA_CH_FREC_MULTI, F.DMA_CH_FREC_WR, F.DMA_CH_FSEQ_FSEQ, F.DMA_CH_FTIME_FTIME, F.DMA_CH_HOLDN_HOLDN,
      F.DMA_CH_HOLD_W, F.DMA_CH_ROW_ROW, F.DMA_CH_SRCN_SRC_NEXT, F.DMA_CH_STAT_PREEMPTED, F.DMA_CH_STAT_REFAULT, F.DMA_CH_STAT_STATE, F.DMA_ENG_FSEQ_SEQ,
      F.DMA_ENG_STAT_INFLT] ⊆ κ.flds) :
    (d.dmaParked c).view κ = d.view κ := by
  simp only [List.cons_subset] at h
  unfold Dev.dmaParked
  split <;> simp [h]

@[simp] theorem Dev.view_dmaNext (d : Dev) (c : Nat) (h : lineFlds ++ [F.DMA_CH_CUR_CUR] ⊆ κ.flds) : (d.dmaNext c).view κ = d.view κ := by
  simp only [lineFlds_subset, List.append_subset, List.cons_subset] at h
  simp [Dev.dmaNext, h, lineFlds_subset]

/-- What the end of a descriptor writes. -/
def dmaEndFlds : List Fld := [F.CNPY_EXCL_MASK, F.CNPY_HP_STAT_ST, F.CNPY_SEN_BANK_ACT, F.CNPY_SEN_BANK_PEND, F.CNPY_SEN_CNT_BADOFF, F.CNPY_SEN_CNT_LATE,
  F.CNPY_SEN_OFFS_OFFS, F.CNPY_SEN_STAT_CAUSE, F.CNPY_SEN_STAT_INSTEP, F.CNPY_SEN_STAT_OUTCNT, F.CNPY_SEN_STAT_STATE, F.COM_STAT_FAULT, F.DMA_CH_CFG_OWNER,
  F.DMA_CH_CUR_CUR, F.DMA_CH_DONE_DONE, F.DMA_CH_DSTN_DST_NEXT, F.DMA_CH_FADDR_FADDR, F.DMA_CH_FREC_CAUSE, F.DMA_CH_FREC_KIND, F.DMA_CH_FREC_MULTI,
  F.DMA_CH_FREC_WR, F.DMA_CH_FSEQ_FSEQ, F.DMA_CH_FTIME_FTIME, F.DMA_CH_HOLDN_HOLDN, F.DMA_CH_HOLD_W, F.DMA_CH_ROW_ROW, F.DMA_CH_SRCN_SRC_NEXT,
  F.DMA_CH_STAT_NDESC, F.DMA_CH_STAT_PREEMPTED, F.DMA_CH_STAT_STATE, F.IOMU_FQCSR_FQMF, F.IOMU_FQCSR_FQOF, F.IOMU_FQT_V, F.IOMU_IPSR_V, F.JOB_STAT_SKIP,
  F.JOB_STAT_STATE, F.STR_CNT_FRAMES]

theorem dmaEndFlds_subset {l : List Fld} : dmaEndFlds ⊆ l ↔ [F.CNPY_EXCL_MASK, F.CNPY_HP_STAT_ST, F.CNPY_SEN_BANK_ACT, F.CNPY_SEN_BANK_PEND,
    F.CNPY_SEN_CNT_BADOFF, F.CNPY_SEN_CNT_LATE, F.CNPY_SEN_OFFS_OFFS, F.CNPY_SEN_STAT_CAUSE, F.CNPY_SEN_STAT_INSTEP, F.CNPY_SEN_STAT_OUTCNT,
    F.CNPY_SEN_STAT_STATE, F.COM_STAT_FAULT, F.DMA_CH_CFG_OWNER, F.DMA_CH_CUR_CUR, F.DMA_CH_DONE_DONE, F.DMA_CH_DSTN_DST_NEXT, F.DMA_CH_FADDR_FADDR,
    F.DMA_CH_FREC_CAUSE, F.DMA_CH_FREC_KIND, F.DMA_CH_FREC_MULTI, F.DMA_CH_FREC_WR, F.DMA_CH_FSEQ_FSEQ, F.DMA_CH_FTIME_FTIME, F.DMA_CH_HOLDN_HOLDN,
    F.DMA_CH_HOLD_W, F.DMA_CH_ROW_ROW, F.DMA_CH_SRCN_SRC_NEXT, F.DMA_CH_STAT_NDESC, F.DMA_CH_STAT_PREEMPTED, F.DMA_CH_STAT_STATE, F.IOMU_FQCSR_FQMF,
    F.IOMU_FQCSR_FQOF, F.IOMU_FQT_V, F.IOMU_IPSR_V, F.JOB_STAT_SKIP, F.JOB_STAT_STATE, F.STR_CNT_FRAMES] ⊆ l := by
  rw [dmaEndFlds]

@[simp] theorem State.view_dmaEnd (s : State) (c : Nat) (skipped : Bool) (h : dmaEndFlds ⊆ κ.flds) (hm : κ.mem = true) :
    (s.dmaEnd c skipped).view κ = s.view κ := by
  simp only [dmaEndFlds_subset, List.cons_subset] at h
  simp only [State.dmaEnd]
  split
  · split
    · next he => simp [h, hm, iommuFaultFlds_subset, State.view_of_eq he]
    next he => split <;> simp [h, hm, lineFlds_subset, iommuFaultFlds_subset, State.view_of_eq he]
  · simp [h, hm, lineFlds_subset]

@[simp] theorem State.view_dmaDone (s : State) (c : Nat) (h : dmaEndFlds ++ [F.DMA_ENG_STAT_INFLT] ⊆ κ.flds) (hm : κ.mem = true) :
    (s.dmaDone c).view κ = s.view κ := by
  simp only [List.append_subset, List.cons_subset] at h
  simp [State.dmaDone, h, hm]

@[simp] theorem kept_execDmaDescriptorDone (c : Fin 64) (s : State) (h : [F.CNPY_EXCL_MASK, F.CNPY_HP_STAT_ST, F.CNPY_SEN_BANK_ACT, F.CNPY_SEN_BANK_PEND,
      F.CNPY_SEN_CNT_BADOFF, F.CNPY_SEN_CNT_LATE, F.CNPY_SEN_OFFS_OFFS, F.CNPY_SEN_STAT_CAUSE, F.CNPY_SEN_STAT_INSTEP, F.CNPY_SEN_STAT_OUTCNT,
      F.CNPY_SEN_STAT_STATE, F.COM_STAT_FAULT, F.DMA_CH_CFG_OWNER, F.DMA_CH_CUR_CUR, F.DMA_CH_DONE_DONE, F.DMA_CH_DSTN_DST_NEXT, F.DMA_CH_FADDR_FADDR,
      F.DMA_CH_FREC_CAUSE, F.DMA_CH_FREC_KIND, F.DMA_CH_FREC_MULTI, F.DMA_CH_FREC_WR, F.DMA_CH_FSEQ_FSEQ, F.DMA_CH_FTIME_FTIME, F.DMA_CH_HOLDN_HOLDN,
      F.DMA_CH_HOLD_W, F.DMA_CH_ROW_ROW, F.DMA_CH_SRCN_SRC_NEXT, F.DMA_CH_STAT_NDESC, F.DMA_CH_STAT_PREEMPTED, F.DMA_CH_STAT_STATE, F.DMA_ENG_STAT_INFLT,
      F.IOMU_FQCSR_FQMF, F.IOMU_FQCSR_FQOF, F.IOMU_FQT_V, F.IOMU_IPSR_V, F.JOB_STAT_SKIP, F.JOB_STAT_STATE, F.STR_CNT_FRAMES] ⊆ κ.flds) (hm : κ.mem = true) :
    Kept κ s (execDmaDescriptorDone c s) := by
  simp only [List.cons_subset] at h
  simp [execDmaDescriptorDone, h, hm, dmaEndFlds_subset]

@[simp] theorem Dev.view_dmaUnfit (d : Dev) : d.dmaUnfit.view κ = d.view κ := by
  simp [Dev.dmaUnfit]

@[simp] theorem State.view_dmaSkip (s : State) (c : Nat) (h : dmaEndFlds ⊆ κ.flds) (hm : κ.mem = true) : (s.dmaSkip c).view κ = s.view κ := by
  simp only [dmaEndFlds_subset, List.cons_subset] at h
  simp [State.dmaSkip, h, hm, dmaEndFlds_subset]

@[simp] theorem kept_execDmaSkip (a : Acc) (s : State) (h : [F.CNPY_EXCL_MASK, F.CNPY_HP_STAT_ST, F.CNPY_SEN_BANK_ACT, F.CNPY_SEN_BANK_PEND,
      F.CNPY_SEN_CNT_BADOFF, F.CNPY_SEN_CNT_LATE, F.CNPY_SEN_OFFS_OFFS, F.CNPY_SEN_STAT_CAUSE, F.CNPY_SEN_STAT_INSTEP, F.CNPY_SEN_STAT_OUTCNT,
      F.CNPY_SEN_STAT_STATE, F.COM_STAT_FAULT, F.DMA_CH_CFG_OWNER, F.DMA_CH_CUR_CUR, F.DMA_CH_DONE_DONE, F.DMA_CH_DSTN_DST_NEXT, F.DMA_CH_FADDR_FADDR,
      F.DMA_CH_FREC_CAUSE, F.DMA_CH_FREC_KIND, F.DMA_CH_FREC_MULTI, F.DMA_CH_FREC_WR, F.DMA_CH_FSEQ_FSEQ, F.DMA_CH_FTIME_FTIME, F.DMA_CH_HOLDN_HOLDN,
      F.DMA_CH_HOLD_W, F.DMA_CH_ROW_ROW, F.DMA_CH_SRCN_SRC_NEXT, F.DMA_CH_STAT_NDESC, F.DMA_CH_STAT_PREEMPTED, F.DMA_CH_STAT_STATE, F.IOMU_FQCSR_FQMF,
      F.IOMU_FQCSR_FQOF, F.IOMU_FQT_V, F.IOMU_IPSR_V, F.JOB_STAT_SKIP, F.JOB_STAT_STATE, F.STR_CNT_FRAMES] ⊆ κ.flds) (hm : κ.mem = true) :
    Kept κ s (execDmaSkip a s) := by
  simp only [List.cons_subset] at h
  simp [execDmaSkip, h, hm, dmaEndFlds_subset]

@[simp] theorem State.view_dmaResume (s : State) (c : Nat) (h : dmaEndFlds ⊆ κ.flds) (hm : κ.mem = true) : (s.dmaResume c).view κ = s.view κ := by
  simp only [dmaEndFlds_subset, List.cons_subset] at h
  simp [State.dmaResume, h, hm, dmaEndFlds_subset]

@[simp] theorem kept_execDmaResume (a : Acc) (s : State) (h : [F.CNPY_EXCL_MASK, F.CNPY_HP_STAT_ST, F.CNPY_SEN_BANK_ACT, F.CNPY_SEN_BANK_PEND,
      F.CNPY_SEN_CNT_BADOFF, F.CNPY_SEN_CNT_LATE, F.CNPY_SEN_OFFS_OFFS, F.CNPY_SEN_STAT_CAUSE, F.CNPY_SEN_STAT_INSTEP, F.CNPY_SEN_STAT_OUTCNT,
      F.CNPY_SEN_STAT_STATE, F.COM_STAT_FAULT, F.DMA_CH_CFG_OWNER, F.DMA_CH_CUR_CUR, F.DMA_CH_DONE_DONE, F.DMA_CH_DSTN_DST_NEXT, F.DMA_CH_FADDR_FADDR,
      F.DMA_CH_FREC_CAUSE, F.DMA_CH_FREC_KIND, F.DMA_CH_FREC_MULTI, F.DMA_CH_FREC_WR, F.DMA_CH_FSEQ_FSEQ, F.DMA_CH_FTIME_FTIME, F.DMA_CH_HOLDN_HOLDN,
      F.DMA_CH_HOLD_W, F.DMA_CH_ROW_ROW, F.DMA_CH_SRCN_SRC_NEXT, F.DMA_CH_STAT_NDESC, F.DMA_CH_STAT_PREEMPTED, F.DMA_CH_STAT_STATE, F.IOMU_FQCSR_FQMF,
      F.IOMU_FQCSR_FQOF, F.IOMU_FQT_V, F.IOMU_IPSR_V, F.JOB_STAT_SKIP, F.JOB_STAT_STATE, F.STR_CNT_FRAMES] ⊆ κ.flds) (hm : κ.mem = true) :
    Kept κ s (execDmaResume a s) := by
  simp only [List.cons_subset] at h
  simp [execDmaResume, h, hm, dmaEndFlds_subset]

@[simp] theorem Dev.view_dmaAbort (d : Dev) (c : Nat) (h : lineFlds ++ [F.STR_CNT_DROPF] ⊆ κ.flds) : (d.dmaAbort c).view κ = d.view κ := by
  simp only [lineFlds_subset, List.append_subset, List.cons_subset] at h
  unfold Dev.dmaAbort
  split <;> simp [h, lineFlds_subset]

@[simp] theorem kept_execDmaAbort (a : Acc) (s : State) (h : [F.CNPY_EXCL_MASK, F.CNPY_HP_STAT_ST, F.CNPY_SEN_BANK_ACT, F.CNPY_SEN_BANK_PEND,
      F.CNPY_SEN_CNT_BADOFF, F.CNPY_SEN_CNT_LATE, F.CNPY_SEN_OFFS_OFFS, F.CNPY_SEN_STAT_CAUSE, F.CNPY_SEN_STAT_INSTEP, F.CNPY_SEN_STAT_OUTCNT,
      F.CNPY_SEN_STAT_STATE, F.COM_STAT_FAULT, F.DMA_CH_CFG_OWNER, F.DMA_CH_DONE_DONE, F.DMA_CH_DSTN_DST_NEXT, F.DMA_CH_FADDR_FADDR, F.DMA_CH_FREC_CAUSE,
      F.DMA_CH_FREC_KIND, F.DMA_CH_FREC_MULTI, F.DMA_CH_FREC_WR, F.DMA_CH_FSEQ_FSEQ, F.DMA_CH_FTIME_FTIME, F.DMA_CH_HOLDN_HOLDN, F.DMA_CH_HOLD_W,
      F.DMA_CH_ROW_ROW, F.DMA_CH_SRCN_SRC_NEXT, F.DMA_CH_STAT_PREEMPTED, F.DMA_CH_STAT_STATE, F.JOB_STAT_SKIP, F.JOB_STAT_STATE, F.STR_CNT_DROPF,
      F.STR_CNT_FRAMES] ⊆ κ.flds) :
    Kept κ s (execDmaAbort a s) := by
  simp only [List.cons_subset] at h
  simp [execDmaAbort, h, lineFlds_subset]

@[simp] theorem Dev.view_dmaAbortDone (d : Dev) (c : Nat) (h : [F.CNPY_EXCL_MASK, F.CNPY_HP_STAT_ST, F.CNPY_SEN_BANK_ACT, F.CNPY_SEN_BANK_PEND,
      F.CNPY_SEN_CNT_BADOFF, F.CNPY_SEN_CNT_LATE, F.CNPY_SEN_OFFS_OFFS, F.CNPY_SEN_STAT_CAUSE, F.CNPY_SEN_STAT_INSTEP, F.CNPY_SEN_STAT_OUTCNT,
      F.CNPY_SEN_STAT_STATE, F.COM_STAT_FAULT, F.DMA_CH_CFG_OWNER, F.DMA_CH_DONE_DONE, F.DMA_CH_DSTN_DST_NEXT, F.DMA_CH_FADDR_FADDR, F.DMA_CH_FREC_CAUSE,
      F.DMA_CH_FREC_KIND, F.DMA_CH_FREC_MULTI, F.DMA_CH_FREC_WR, F.DMA_CH_FSEQ_FSEQ, F.DMA_CH_FTIME_FTIME, F.DMA_CH_HOLDN_HOLDN, F.DMA_CH_HOLD_W,
      F.DMA_CH_ROW_ROW, F.DMA_CH_SRCN_SRC_NEXT, F.DMA_CH_STAT_PREEMPTED, F.DMA_CH_STAT_STATE, F.DMA_ENG_STAT_INFLT, F.JOB_STAT_SKIP, F.JOB_STAT_STATE,
      F.STR_CNT_FRAMES] ⊆ κ.flds) :
    (d.dmaAbortDone c).view κ = d.view κ := by
  simp only [List.cons_subset] at h
  simp [Dev.dmaAbortDone, h, lineFlds_subset]

@[simp] theorem kept_execDmaEngineClear (a : Acc) (e : Fin 4) (s : State) (h : F.DMA_ENG_STAT_MAXINF ∈ κ.flds) : Kept κ s (execDmaEngineClear a e s) := by
  simp [execDmaEngineClear, h]

@[simp] theorem Dev.view_lineGive (d : Dev) (k at_ : Nat) (l : List Nat) (h : lineFlds ⊆ κ.flds) : (d.lineGive k at_ l).view κ = d.view κ := by
  simp only [lineFlds_subset, List.cons_subset] at h
  simp +decide [Dev.lineGive, h, lineFlds_subset]

end Sys2Proof.Machine
end

section
/-! ### The supported GNSS signals, and what GNRF, GNAQ and GNTK share: when a path's samples turn invalid, channels coast and captures end -/

namespace Sys2Proof.Machine

variable {κ : Scope}

@[simp] theorem Dev.view_navLeave (d : Dev) (c : Nat) : (d.navLeave c).view κ = d.view κ := by
  simp +decide [Dev.navLeave]

@[simp] theorem Dev.view_trkCoast (d : Dev) (c : Nat) (h : [F.GNTK_CH_STAT_AMB, F.GNTK_CH_STAT_STATE] ⊆ κ.flds) : (d.trkCoast c).view κ = d.view κ := by
  simp only [List.cons_subset] at h
  simp +decide [Dev.trkCoast, h]

@[simp] theorem Dev.view_trkLost (d : Dev) (c cause : Nat) (h : [F.GNTK_CH_STAT_LCAUSE, F.GNTK_CH_STAT_STATE] ⊆ κ.flds) :
    (d.trkLost c cause).view κ = d.view κ := by
  simp only [List.cons_subset] at h
  simp [Dev.trkLost, h]

@[simp] theorem Dev.view_trkSlip (d : Dev) (c : Nat) (h : [F.GNTK_CH_SLIPS_CNT, F.GNTK_CH_STAT_AMB] ⊆ κ.flds) : (d.trkSlip c).view κ = d.view κ := by
  simp only [List.cons_subset] at h
  simp +decide [Dev.trkSlip, h]

@[simp] theorem Dev.view_acqSeek (d : Dev) (e i : Nat) (h : [F.GNAQ_ENG_STAT_ENTRY, F.GNAQ_ENG_STAT_STATE] ⊆ κ.flds) : (d.acqSeek e i).view κ = d.view κ := by
  simp only [List.cons_subset] at h
  simp only [Dev.acqSeek]
  split <;> simp +decide [h]

@[simp] theorem Dev.view_acqSat (d : Dev) (e : Nat) : (d.acqSat e).view κ = d.view κ := by
  simp +decide [Dev.acqSat]

/-- What the end of an acquisition writes. -/
def acqEndFlds : List Fld := [F.ENT_CPH_BIN, F.ENT_CPH_CPH, F.ENT_PEAK_PEAK, F.ENT_RES_FLAGS, F.ENT_RES_RATIO, F.ENT_RES_STATUS, F.ENT_T0_T0,
  F.GNAQ_ENG_DONE_CNT, F.GNAQ_ENG_STAT_ENTRY, F.GNAQ_ENG_STAT_STATE]

theorem acqEndFlds_subset {l : List Fld} : acqEndFlds ⊆ l ↔ [F.ENT_CPH_BIN, F.ENT_CPH_CPH, F.ENT_PEAK_PEAK, F.ENT_RES_FLAGS, F.ENT_RES_RATIO,
    F.ENT_RES_STATUS, F.ENT_T0_T0, F.GNAQ_ENG_DONE_CNT, F.GNAQ_ENG_STAT_ENTRY, F.GNAQ_ENG_STAT_STATE] ⊆ l := by
  rw [acqEndFlds]

@[simp] theorem Dev.view_acqEnd (d : Dev) (e status : Nat) (r : AcqRes) (t0 : Nat) (goOn : Bool) (h : acqEndFlds ⊆ κ.flds) :
    (d.acqEnd e status r t0 goOn).view κ = d.view κ := by
  simp only [acqEndFlds_subset, List.cons_subset] at h
  simp +decide [Dev.acqEnd, h]

@[simp] theorem Dev.view_acqEndFree (d : Dev) (e status : Nat) (goOn : Bool) (h : acqEndFlds ⊆ κ.flds) : (d.acqEndFree e status goOn).view κ = d.view κ := by
  simp [Dev.acqEndFree, h]

@[simp] theorem Dev.view_pathDown (d : Dev) (p : Nat) (h : acqEndFlds ++ [F.GNTK_CH_STAT_AMB, F.GNTK_CH_STAT_STATE] ⊆ κ.flds) :
    (d.pathDown p).view κ = d.view κ := by
  simp only [List.append_subset, List.cons_subset] at h
  simp +decide [Dev.pathDown, h]

@[simp] theorem Dev.view_notchChange (d : Dev) (p : Nat) : (d.notchChange p).view κ = d.view κ := by
  simp +decide [Dev.notchChange]

end Sys2Proof.Machine
end

section
/-! ### GNTK: the tracking channels -/

namespace Sys2Proof.Machine

variable {κ : Scope}

@[simp] theorem Dev.view_trkIdle (d : Dev) (c : Nat) (h : [F.GNTK_CH_STAT_AMB, F.GNTK_CH_STAT_CN0, F.GNTK_CH_STAT_PLI, F.GNTK_CH_STAT_STATE] ⊆ κ.flds) :
    (d.trkIdle c).view κ = d.view κ := by
  simp only [List.cons_subset] at h
  simp +decide [Dev.trkIdle, h]

@[simp] theorem Dev.view_trkPullin (d : Dev) (c : Nat) (h : F.GNTK_CH_STAT_STATE ∈ κ.flds) : (d.trkPullin c).view κ = d.view κ := by
  simp +decide [Dev.trkPullin, h]

@[simp] theorem Dev.view_trkStart (d : Dev) (c : Nat) (h : [F.GNTK_CH_CFG_EN, F.GNTK_CH_SLIPS_CNT, F.GNTK_CH_STAT_AMB, F.GNTK_CH_STAT_LCAUSE,
      F.GNTK_CH_STAT_STATE] ⊆ κ.flds) :
    (d.trkStart c).view κ = d.view κ := by
  simp only [List.cons_subset] at h
  simp only [Dev.trkStart]
  repeat' split
  all_goals simp +decide [h]

@[simp] theorem kept_execTrackStart (a : Acc) (s : State) (h : [F.GNTK_CH_CFG_EN, F.GNTK_CH_SLIPS_CNT, F.GNTK_CH_STAT_AMB, F.GNTK_CH_STAT_LCAUSE,
      F.GNTK_CH_STAT_STATE] ⊆ κ.flds) :
    Kept κ s (execTrackStart a s) := by
  simp only [List.cons_subset] at h
  simp [execTrackStart, h]

@[simp] theorem kept_execTrackStop (a : Acc) (s : State) (h : [F.GNTK_CH_CFG_EN, F.GNTK_CH_STAT_AMB, F.GNTK_CH_STAT_CN0, F.GNTK_CH_STAT_PLI,
      F.GNTK_CH_STAT_STATE] ⊆ κ.flds) :
    Kept κ s (execTrackStop a s) := by
  simp only [List.cons_subset] at h
  simp [execTrackStop, h]

@[simp] theorem Dev.view_run (d : Dev) (x : Vr) (i : Nat) (c : Bool) (hx : V.grove.id ≠ x.id) : (d.run x i c).view κ = d.view κ := by
  simp [Dev.run, hx]

@[simp] theorem Dev.view_trkCn0 (d : Dev) (c : Nat) (o : TrkIn) (h : F.GNTK_CH_STAT_CN0 ∈ κ.flds) : (d.trkCn0 c o).view κ = d.view κ := by
  simp +decide [Dev.trkCn0, h]

@[simp] theorem Dev.view_trkLoop (d : Dev) (loop order bw len : Nat) (num den : Int) (x : Vr) (c : Nat) (hx : V.grove.id ≠ x.id) :
    (d.trkLoop loop order bw len num den x c).2.view κ = d.view κ := by
  simp [Dev.trkLoop, hx]

@[simp] theorem Dev.view_trkDll (d : Dev) (c : Nat) (o : TrkIn) : (d.trkDll c o).2.view κ = d.view κ := by
  simp +decide [Dev.trkDll]

@[simp] theorem Dev.view_trkCarrier (d : Dev) (c : Nat) (o : TrkIn) : (d.trkCarrier c o).view κ = d.view κ := by
  simp +decide [Dev.trkCarrier]

@[simp] theorem Dev.view_trkMpm (d : Dev) (c : Nat) (o : TrkIn) : (d.trkMpm c o).view κ = d.view κ := by
  simp +decide [Dev.trkMpm]

@[simp] theorem Dev.view_trkSyms (d : Dev) (c : Nat) (last code : Int) (o : TrkIn) : (d.trkSyms c last code o).view κ = d.view κ := by
  simp [Dev.trkSyms]

@[simp] theorem Dev.view_trkSync (d : Dev) (c epoch : Nat) (h : F.GNTK_CH_STAT_AMB ∈ κ.flds) : (d.trkSync c epoch).view κ = d.view κ := by
  simp +decide [Dev.trkSync, h]

@[simp] theorem Dev.view_trkStep (d : Dev) (c : Nat) (o : TrkIn) (h : [F.GNTK_CH_SLIPS_CNT, F.GNTK_CH_STAT_AMB, F.GNTK_CH_STAT_CN0, F.GNTK_CH_STAT_PLI] ⊆
      κ.flds) :
    (d.trkStep c o).view κ = d.view κ := by
  simp only [List.cons_subset] at h
  simp +decide [Dev.trkStep, h]

@[simp] theorem Dev.view_pullinDone (d : Dev) (c : Nat) (cerr derr : Int) (h : F.GNTK_CH_STAT_STATE ∈ κ.flds) :
    (d.pullinDone c cerr derr).view κ = d.view κ := by
  simp +decide [Dev.pullinDone, h]

@[simp] theorem Dev.view_pullinTimeout (d : Dev) (c : Nat) (h : [F.GNTK_CH_STAT_LCAUSE, F.GNTK_CH_STAT_STATE] ⊆ κ.flds) :
    (d.pullinTimeout c).view κ = d.view κ := by
  simp only [List.cons_subset] at h
  simp [Dev.pullinTimeout, h]

@[simp] theorem Dev.view_phaseLock (d : Dev) (c : Nat) (h : F.GNTK_CH_STAT_STATE ∈ κ.flds) : (d.phaseLock c).view κ = d.view κ := by
  simp only [Dev.phaseLock]
  repeat' split
  all_goals simp +decide [h]

@[simp] theorem Dev.view_lockLoss (d : Dev) (c : Nat) (h : [F.GNTK_CH_SLIPS_CNT, F.GNTK_CH_STAT_AMB, F.GNTK_CH_STAT_STATE] ⊆ κ.flds) :
    (d.lockLoss c).view κ = d.view κ := by
  simp only [List.cons_subset] at h
  simp +decide [Dev.lockLoss, h]

@[simp] theorem Dev.view_coastEntry (d : Dev) (c : Nat) (h : [F.GNTK_CH_STAT_AMB, F.GNTK_CH_STAT_STATE] ⊆ κ.flds) : (d.coastEntry c).view κ = d.view κ := by
  simp only [List.cons_subset] at h
  simp [Dev.coastEntry, h]

@[simp] theorem Dev.view_coastRecover (d : Dev) (c : Nat) (h : F.GNTK_CH_STAT_STATE ∈ κ.flds) : (d.coastRecover c).view κ = d.view κ := by
  simp [Dev.coastRecover, h]

@[simp] theorem Dev.view_coastEnd (d : Dev) (c : Nat) (h : [F.GNTK_CH_STAT_LCAUSE, F.GNTK_CH_STAT_STATE] ⊆ κ.flds) : (d.coastEnd c).view κ = d.view κ := by
  simp only [List.cons_subset] at h
  simp [Dev.coastEnd, h]

@[simp] theorem kept_execHalfCycleResolve (a : Acc) (resolve inv : Bool) (s : State) : Kept κ s (execHalfCycleResolve a resolve inv s) := by
  simp +decide [execHalfCycleResolve]

@[simp] theorem kept_execTowWrite (a : Acc) (ms seq : BitVec 16) (s : State) : Kept κ s (execTowWrite a ms seq s) := by
  simp +decide [execTowWrite]

@[simp] theorem State.view_navRecord (s : State) (c : Nat) (h : iommuFaultFlds ++ [F.GNTK_NAVDROP_CNT, F.GNTK_NAV_WR_IDX] ⊆ κ.flds) (hm : κ.mem = true) :
    (s.navRecord c).view κ = s.view κ := by
  simp only [List.append_subset, List.cons_subset] at h
  simp only [State.navRecord]
  split
  · rfl
  split
  · simp +decide [h, hm]
  split
  all_goals next he => simp +decide [h, hm, State.view_of_eq he]

@[simp] theorem kept_execNavRecord (c : Fin 600) (x1 x2 x3 : Unit) (s : State) (h : [F.COM_STAT_FAULT, F.GNTK_NAVDROP_CNT, F.GNTK_NAV_WR_IDX,
      F.IOMU_FQCSR_FQMF, F.IOMU_FQCSR_FQOF, F.IOMU_FQT_V, F.IOMU_IPSR_V] ⊆ κ.flds) (hm : κ.mem = true) :
    Kept κ s (execNavRecord c x1 x2 x3 s) := by
  simp only [List.cons_subset] at h
  simp [execNavRecord, h, hm, iommuFaultFlds_subset]

end Sys2Proof.Machine
end

section
/-! ### GNTK's epochs and their checks, the jamming detector, the guard, and the time pulse of GNTP -/

namespace Sys2Proof.Machine

variable {κ : Scope}

@[simp] theorem Dev.view_guardShow (d : Dev) (sgv contra : Bool) (h : [F.GNTK_GUARD_STAT_CONTRA, F.GNTK_GUARD_STAT_SGV] ⊆ κ.flds) :
    (d.guardShow sgv contra).view κ = d.view κ := by
  simp only [List.cons_subset] at h
  simp +decide [Dev.guardShow, h]

@[simp] theorem Dev.view_guardEval (d : Dev) (h : [F.GNTK_GUARD_STAT_CONTRA, F.GNTK_GUARD_STAT_EGOOK, F.GNTK_GUARD_STAT_PVTOK, F.GNTK_GUARD_STAT_SGV] ⊆
      κ.flds) :
    d.guardEval.view κ = d.view κ := by
  simp only [List.cons_subset] at h
  simp [Dev.guardEval, h]

@[simp] theorem kept_execGuardRearm (a : Acc) (s : State) (h : [F.GNTK_GUARD_STAT_CONTRA, F.GNTK_GUARD_STAT_EGOOK, F.GNTK_GUARD_STAT_PVTOK,
      F.GNTK_GUARD_STAT_SGV] ⊆ κ.flds) :
    Kept κ s (execGuardRearm a s) := by
  simp only [List.cons_subset] at h
  simp +decide [execGuardRearm, h]

@[simp] theorem kept_execPvtSpeedWrite (a : Acc) (seq spd : BitVec 16) (s : State) : Kept κ s (execPvtSpeedWrite a seq spd s) := by
  simp +decide [execPvtSpeedWrite]

@[simp] theorem Dev.view_pvtJudge (d : Dev) (k : Nat) (rate : Int) (h : [F.EGO_SLIP_SLIP, F.EGO_STAT_SLIPHOLD, F.EGO_STAT_SLIPUNK, F.GNTK_GUARD_STAT_CONTRA,
      F.GNTK_GUARD_STAT_DSPD, F.GNTK_GUARD_STAT_SGV] ⊆ κ.flds) :
    (d.pvtJudge k rate).view κ = d.view κ := by
  simp only [List.cons_subset] at h
  simp +decide [Dev.pvtJudge, h]

@[simp] theorem kept_execPvtSubmit (a : Acc) (sg valid : Bool) (rate : BitVec 16) (s : State) (h : [F.EGO_SLIP_SLIP, F.EGO_STAT_SLIPHOLD, F.EGO_STAT_SLIPUNK,
      F.GNTK_GUARD_STAT_CONTRA, F.GNTK_GUARD_STAT_DSPD, F.GNTK_GUARD_STAT_EGOOK, F.GNTK_GUARD_STAT_PVTOK, F.GNTK_GUARD_STAT_SGV] ⊆ κ.flds) :
    Kept κ s (execPvtSubmit a sg valid rate s) := by
  simp only [List.cons_subset] at h
  simp only [execPvtSubmit, kept_upd]
  refine Dev.view_wr _ _ _ _ _ _ fun d => ?_
  split <;> simp +decide [h]

@[simp] theorem Dev.view_towApply (d : Dev) (c : Nat) (u : Int) (h : F.GNTK_CH_STAT_AMB ∈ κ.flds) : (d.towApply c u).view κ = d.view κ := by
  simp +decide [Dev.towApply, h]

@[simp] theorem Dev.view_latchCh (d : Dev) (c : Nat) (u : Int) (h : F.GNTK_CH_STAT_AMB ∈ κ.flds) : (d.latchCh c u).view κ = d.view κ := by
  simp +decide [Dev.latchCh, h]

@[simp] theorem Dev.view_latFlag (d : Dev) (c b : Nat) : (d.latFlag c b).view κ = d.view κ := by
  simp +decide [Dev.latFlag]

@[simp] theorem Dev.view_crossFreq (d : Dev) (u : Int) (x y : Nat) : (d.crossFreq u x y).view κ = d.view κ := by
  simp [Dev.crossFreq]

@[simp] theorem Dev.view_divergence (d : Dev) (u inst : Int) (c : Nat) : (d.divergence u inst c).view κ = d.view κ := by
  simp +decide [Dev.divergence]

@[simp] theorem Dev.view_jumpCheck (d : Dev) (inst : Int) (per : Int) (h : [F.GNTK_CLKRES_RES, F.GNTK_INTF_CJUMP] ⊆ κ.flds) :
    (d.jumpCheck inst per).view κ = d.view κ := by
  simp only [List.cons_subset] at h
  unfold Dev.jumpCheck
  extract_lets good d1 d2 res m cj d3 d4 d5
  have h1 : d1.view κ = d.view κ := by simp +decide [d1]
  have h2 : d2.view κ = d1.view κ := by simp +decide [d2]
  have h3 : d3.view κ = d2.view κ :=
    (Dev.view_setVar (by decide) _ _ _).trans ((Dev.view_set h.2.1 _ _ _).trans (Dev.view_setI h.1 _ _ _))
  have h4 : d4.view κ = d3.view κ := by simp +decide [d4]
  have h5 : d5.view κ = d4.view κ := by simp +decide [d5]
  simp +decide [h1, h2, h3, h4, h5]

@[simp] theorem Dev.view_flatCheck (d : Dev) (ant : Nat) (h : F.GNTK_INTF_CN0FLAT ∈ κ.flds) : (d.flatCheck ant).view κ = d.view κ := by
  simp [Dev.flatCheck, h]

@[simp] theorem Dev.view_egoLatch (d : Dev) : d.egoLatch.view κ = d.view κ := by
  simp +decide [Dev.egoLatch]

@[simp] theorem Dev.view_epochLatch (d : Dev) (h : [F.GNTK_CH_STAT_AMB, F.GNTK_CLKRES_RES, F.GNTK_EPSEQ_SEQ, F.GNTK_GUARD_STAT_CONTRA,
      F.GNTK_GUARD_STAT_EGOOK, F.GNTK_GUARD_STAT_PVTOK, F.GNTK_GUARD_STAT_SGV, F.GNTK_INTF_CJUMP, F.GNTK_INTF_CN0FLAT] ⊆ κ.flds) :
    d.epochLatch.view κ = d.view κ := by
  simp only [List.cons_subset] at h
  unfold Dev.epochLatch
  split
  · rfl
  extract_lets inst u eper d1 d2 d3 d4 n ce d5 d6 d7 d8 d9 d10 d11 d12 d13
  have h1 : d1.view κ = d.view κ := by simp +decide [h, d1]
  have h2 : d2.view κ = d1.view κ := by simp +decide [h, d2]
  have h3 : d3.view κ = d2.view κ := by simp +decide [d3]
  have h4 : d4.view κ = d3.view κ := by simp +decide [d4]
  have h5 : d5.view κ = d4.view κ := by simp +decide [h, d5]
  have h6 : d6.view κ = d5.view κ := by simp +decide [h, d6]
  have h7 : d7.view κ = d6.view κ := by simp +decide [d7]
  have h8 : d8.view κ = d7.view κ := by simp +decide [d8]
  have h9 : d9.view κ = d8.view κ := by simp +decide [d9]
  clear_value d9
  have h10 : d10.view κ = d9.view κ := by simp +decide [d10]
  clear_value d10 eper inst u
  have h11 : d11.view κ = d10.view κ := by simp +decide [d11]
  have h12 : d12.view κ = d11.view κ := by simp +decide [h, d12]
  have h13 : d13.view κ = d12.view κ := by simp +decide [d13]
  simp +decide [h1, h2, h3, h4, h5, h6, h7, h8, h9, h10, h11, h12, h13]

@[simp] theorem Dev.view_epochCopies (d : Dev) (h : clrFlds ⊆ κ.flds) : d.epochCopies.view κ = d.view κ := by
  simp [Dev.epochCopies, h]

@[simp] theorem Dev.view_epochDrop (d : Dev) (h : F.GNTK_EPDROP_CNT ∈ κ.flds) : d.epochDrop.view κ = d.view κ := by
  simp +decide [Dev.epochDrop, h]

@[simp] theorem State.view_epochRecorded (s : State) (h : clrFlds ++ iommuFaultFlds ++ [F.GNTK_EPDROP_CNT, F.GNTK_RING_WR_WR] ⊆ κ.flds) (hm : κ.mem = true) :
    s.epochRecorded.view κ = s.view κ := by
  simp only [clrFlds_subset, iommuFaultFlds_subset, List.append_subset, List.cons_subset] at h
  unfold State.epochRecorded
  split
  · rfl
  simp only [State.view_mk]
  split
  · simp +decide [h, hm, clrFlds_subset]
  split
  · simp +decide [h, hm, clrFlds_subset]
  split
  all_goals next he => simp +decide [h, hm, iommuFaultFlds_subset, clrFlds_subset, State.view_of_eq he]

@[simp] theorem kept_execEpochRecorded (s : State) (h : [F.CLR_HDR_GEN, F.CLR_HDR_LIVE, F.CLR_HDR_SEQ, F.CLR_HDR_STALE, F.CLR_HDR_WDRN, F.CLR_SLOT_STAT_AGE,
      F.CLR_VIOL_KIND, F.CLR_VIOL_PLANE, F.CLR_VIOL_SLOT, F.CLR_VIOL_VALID, F.COM_STAT_FAULT, F.GNTK_EPDROP_CNT, F.GNTK_RING_WR_WR, F.IOMU_FQCSR_FQMF,
      F.IOMU_FQCSR_FQOF, F.IOMU_FQT_V, F.IOMU_IPSR_V] ⊆ κ.flds) (hm : κ.mem = true) :
    Kept κ s (execEpochRecorded s) := by
  simp only [List.cons_subset] at h
  simp [execEpochRecorded, h, hm, clrFlds_subset, iommuFaultFlds_subset]

@[simp] theorem Dev.view_jamPath (d : Dev) (p : Nat) (h : F.GNTK_INTF_JAM ∈ κ.flds) : (d.jamPath p).view κ = d.view κ := by
  simp +decide [Dev.jamPath, h]

@[simp] theorem Dev.view_jamCheck (d : Dev) (h : F.GNTK_INTF_JAM ∈ κ.flds) : d.jamCheck.view κ = d.view κ := by
  simp +decide [Dev.jamCheck, h]

@[simp] theorem kept_execJamLearn (a : Acc) (s : State) : Kept κ s (execJamLearn a s) := by
  simp only [execJamLearn, kept_upd]
  refine Dev.view_wr _ _ _ _ _ _ fun d => (Dev.view_each _ _ _ fun p a => ?_).trans ?_
  · simp +decide
  · simp +decide

@[simp] theorem Dev.view_jamLearnDone (d : Dev) (h : [F.GNTK_JAM_REF_GREF, F.GNTK_JAM_REF_NFREF] ⊆ κ.flds) : d.jamLearnDone.view κ = d.view κ := by
  simp only [List.cons_subset] at h
  simp +decide [Dev.jamLearnDone, h]

@[simp] theorem Dev.view_pulseSeek (d : Dev) : d.pulseSeek.view κ = d.view κ := by
  simp +decide [Dev.pulseSeek]

@[simp] theorem Dev.view_timePulse (d : Dev) (h : [F.GNTP_LAST_INST, F.GNTP_PSTAT_GATED, F.GNTP_PSTAT_HOLD, F.GNTP_PSTAT_HOLDERR, F.GNTP_PSTAT_LOCK,
      F.GNTP_PSTAT_SLEW, F.GNTP_PSTAT_STEP, F.GNTP_PSTAT_UNSET] ⊆ κ.flds) :
    d.timePulse.view κ = d.view κ := by
  simp only [List.cons_subset] at h
  simp +decide [Dev.timePulse, h]

@[simp] theorem Dev.view_timePulseEnd (d : Dev) : d.timePulseEnd.view κ = d.view κ := by
  simp +decide [Dev.timePulseEnd]

end Sys2Proof.Machine
end

section
/-! ### ETH: ports, switching, stream filters, gate lists, gPTP, the host port, the 1722 listener and trigger messages -/

namespace Sys2Proof.Machine

variable {κ : Scope}

@[simp] theorem Dev.view_ethTx (d : Dev) (p : Nat) (n : Nat) (h : F.ETH_PORT_CNT_TXF ∈ κ.flds) : (d.ethTx p n).view κ = d.view κ := by
  simp [Dev.ethTx, h]

@[simp] theorem Dev.view_gptpAnnounce (d : Dev) (p : Nat) (h : F.ETH_PORT_CNT_TXF ∈ κ.flds) : (d.gptpAnnounce p).view κ = d.view κ := by
  simp [Dev.gptpAnnounce, h]

@[simp] theorem Dev.view_gptpSync (d : Dev) (p : Nat) (h : [F.ETH_PORT_CNT_TXF, F.GPTP_SYNCS_V] ⊆ κ.flds) : (d.gptpSync p).view κ = d.view κ := by
  simp only [List.cons_subset] at h
  simp +decide [Dev.gptpSync, h]

@[simp] theorem Dev.view_gptpPdelay (d : Dev) (p : Nat) (ok : Bool) (dly ratio : Nat) (h : [F.ETH_PORT_CNT_TXF, F.GPTP_ASCAP_ASCAP, F.GPTP_MEANDLY_V,
      F.GPTP_RATIO_V] ⊆ κ.flds) :
    (d.gptpPdelay p ok dly ratio).view κ = d.view κ := by
  simp only [List.cons_subset] at h
  simp +decide [Dev.gptpPdelay, h]

@[simp] theorem Dev.view_gptpForeign (d : Dev) (p : Nat) (h : [F.ETH_PORT_CNT_RXF, F.GPTP_FOREIGN_V] ⊆ κ.flds) : (d.gptpForeign p).view κ = d.view κ := by
  simp only [List.cons_subset] at h
  simp [Dev.gptpForeign, h]

@[simp] theorem Dev.view_ethSend (d : Dev) (p tc n : Nat) (h : F.ETH_PORT_CNT_TXF ∈ κ.flds) : (d.ethSend p tc n).view κ = d.view κ := by
  simp [Dev.ethSend, h]

@[simp] theorem Dev.view_gateClass (d : Dev) (p tc used : Nat) (h : F.ETH_PORT_CNT_TXF ∈ κ.flds) : (d.gateClass p tc used).1.view κ = d.view κ := by
  simp only [Dev.gateClass]
  split <;> simp [h]

@[simp] theorem Dev.view_gateEntry (d : Dev) (p : Nat) (h : F.ETH_PORT_CNT_TXF ∈ κ.flds) : (d.gateEntry p).view κ = d.view κ := by
  simp +decide [Dev.gateEntry, h]

@[simp] theorem Dev.view_trigMessage (d : Dev) (e : Nat) (h : [F.ETH_PORT_CNT_TXF, F.ETH_TRGSTAT_DROP, F.TRG_SEQ_SEQ] ⊆ κ.flds) :
    (d.trigMessage e).view κ = d.view κ := by
  simp only [List.cons_subset] at h
  simp +decide [Dev.trigMessage, h]

@[simp] theorem Dev.view_meter (d : Dev) (m n : Nat) (h : [F.MTR_DROP_V, F.MTR_PASS_V] ⊆ κ.flds) : (d.meter m n).1.view κ = d.view κ := by
  simp only [List.cons_subset] at h
  simp only [Dev.meter]
  repeat' split
  all_goals simp +decide [h]

@[simp] theorem Dev.view_streamFilter (d : Dev) (p da vid pcp n : Nat) (h : [F.MTR_DROP_V, F.MTR_PASS_V] ⊆ κ.flds) :
    (d.streamFilter p da vid pcp n).1.view κ = d.view κ := by
  simp only [List.cons_subset] at h
  unfold Dev.streamFilter
  repeat' split
  all_goals simp [h]

@[simp] theorem Dev.view_learn (d : Dev) (p sa vid : Nat) (h : [F.FDB_AGE_AGE, F.FDB_ENT_MAC, F.FDB_ENT_STATIC, F.FDB_ENT_VALID, F.FDB_ENT_VID,
      F.FDB_PORTS_PORTS] ⊆ κ.flds) :
    (d.learn p sa vid).view κ = d.view κ := by
  simp only [List.cons_subset] at h
  unfold Dev.learn
  repeat' split
  all_goals simp [h]

@[simp] theorem Dev.view_egress (d : Dev) (p da vid : Nat) : (d.egress p da vid).1.view κ = d.view κ := by
  unfold Dev.egress
  split <;> simp

@[simp] theorem Dev.view_hostQueue (d : Dev) (q p stamp : Nat) (l : List Nat) : (d.hostQueue q p stamp l).view κ = d.view κ := by
  simp +decide [Dev.hostQueue]

@[simp] theorem Dev.view_ethEnter (d : Dev) (p da sa vid pcp n : Nat) (h : [F.ETH_PORT_CNT_RXF, F.ETH_PORT_DROP_FULL, F.ETH_PORT_DROP_QCI, F.FDB_AGE_AGE,
      F.FDB_ENT_MAC, F.FDB_ENT_STATIC, F.FDB_ENT_VALID, F.FDB_ENT_VID, F.FDB_PORTS_PORTS, F.MTR_DROP_V, F.MTR_PASS_V] ⊆ κ.flds) :
    (d.ethEnter p da sa vid pcp n).1.view κ = d.view κ := by
  simp only [List.cons_subset] at h
  simp only [Dev.ethEnter]
  repeat' split
  all_goals simp [h]

/-- What the passing of an Ethernet frame writes. -/
def ethPassFlds : List Fld := [F.ETH_PORT_CNT_RXF, F.ETH_PORT_CNT_TXF, F.ETH_PORT_DROP_FULL, F.ETH_PORT_DROP_QCI, F.FDB_AGE_AGE, F.FDB_ENT_MAC,
  F.FDB_ENT_STATIC, F.FDB_ENT_VALID, F.FDB_ENT_VID, F.FDB_PORTS_PORTS, F.MTR_DROP_V, F.MTR_PASS_V]

theorem ethPassFlds_subset {l : List Fld} : ethPassFlds ⊆ l ↔ [F.ETH_PORT_CNT_RXF, F.ETH_PORT_CNT_TXF, F.ETH_PORT_DROP_FULL, F.ETH_PORT_DROP_QCI,
    F.FDB_AGE_AGE, F.FDB_ENT_MAC, F.FDB_ENT_STATIC, F.FDB_ENT_VALID, F.FDB_ENT_VID, F.FDB_PORTS_PORTS, F.MTR_DROP_V, F.MTR_PASS_V] ⊆ l := by
  rw [ethPassFlds]

@[simp] theorem Dev.view_ethPass (d : Dev) (x : EthIn) (host : Bool) (h : ethPassFlds ⊆ κ.flds) : (d.ethPass x host).1.view κ = d.view κ := by
  simp only [ethPassFlds_subset, List.cons_subset] at h
  simp only [Dev.ethPass]
  split
  · next he => simp [h, Dev.view_of_eq he]
  next he =>
  simp only [Dev.view_cone]
  refine (Dev.view_each _ _ _ fun q a => ?_).trans ?_
  · split <;> simp [h]
  · simp [h, Dev.view_of_eq he]

@[simp] theorem Dev.view_ethForward (d : Dev) (x : EthIn) (rxTx : Nat) (h : ethPassFlds ⊆ κ.flds) : (d.ethForward x rxTx).view κ = d.view κ := by
  simp +decide [Dev.ethForward, h]

@[simp] theorem Dev.view_fdbAgeing (d : Dev) (h : [F.FDB_AGE_AGE, F.FDB_ENT_VALID] ⊆ κ.flds) : d.fdbAgeing.view κ = d.view κ := by
  simp only [List.cons_subset] at h
  simp +decide [Dev.fdbAgeing, h]

@[simp] theorem Dev.view_lineFlush (d : Dev) (k : Nat) (h : lineFlds ⊆ κ.flds) : (d.lineFlush k).view κ = d.view κ := by
  simp [Dev.lineFlush, h]

@[simp] theorem Dev.view_lineJoin (d : Dev) (k at_ : Nat) (l : List Nat) (last : Bool) (h : lineFlds ⊆ κ.flds) :
    (d.lineJoin k at_ l last).view κ = d.view κ := by
  simp [Dev.lineJoin, h]

@[simp] theorem Dev.view_avtpData (d : Dev) (k : Nat) (x : AvtpIn) (h : lineFlds ⊆ κ.flds) : (d.avtpData k x).view κ = d.view κ := by
  simp +decide [Dev.avtpData, h]

@[simp] theorem Dev.view_avtpIn (d : Dev) (x : AvtpIn) (f : Nat → Dev → Dev) (h : ethPassFlds ⊆ κ.flds) (hk : ∀ i e, (f i e).view κ = e.view κ) :
    (d.avtpIn x f).view κ = d.view κ := by
  unfold Dev.avtpIn
  split
  · rfl
  split
  · simp [h]
  split
  all_goals next he => simp [h, hk, Dev.view_of_eq he]

@[simp] theorem Dev.view_avtpPacket (d : Dev) (x : AvtpIn) (h : [F.CNPY_EXCL_MASK, F.CNPY_HP_STAT_ST, F.CNPY_SEN_BANK_ACT, F.CNPY_SEN_BANK_PEND,
      F.CNPY_SEN_CNT_BADOFF, F.CNPY_SEN_CNT_LATE, F.CNPY_SEN_OFFS_OFFS, F.CNPY_SEN_STAT_CAUSE, F.CNPY_SEN_STAT_INSTEP, F.CNPY_SEN_STAT_OUTCNT,
      F.CNPY_SEN_STAT_STATE, F.COM_STAT_FAULT, F.DMA_CH_CFG_OWNER, F.DMA_CH_DONE_DONE, F.DMA_CH_DSTN_DST_NEXT, F.DMA_CH_FADDR_FADDR, F.DMA_CH_FREC_CAUSE,
      F.DMA_CH_FREC_KIND, F.DMA_CH_FREC_MULTI, F.DMA_CH_FREC_WR, F.DMA_CH_FSEQ_FSEQ, F.DMA_CH_FTIME_FTIME, F.DMA_CH_HOLDN_HOLDN, F.DMA_CH_HOLD_W,
      F.DMA_CH_ROW_ROW, F.DMA_CH_SRCN_SRC_NEXT, F.DMA_CH_STAT_PREEMPTED, F.DMA_CH_STAT_STATE, F.ETH_PORT_CNT_RXF, F.ETH_PORT_CNT_TXF, F.ETH_PORT_DROP_FULL,
      F.ETH_PORT_DROP_QCI, F.FDB_AGE_AGE, F.FDB_ENT_MAC, F.FDB_ENT_STATIC, F.FDB_ENT_VALID, F.FDB_ENT_VID, F.FDB_PORTS_PORTS, F.JOB_STAT_SKIP,
      F.JOB_STAT_STATE, F.MTR_DROP_V, F.MTR_PASS_V, F.STR_CNT_FRAMES] ⊆ κ.flds) :
    (d.avtpPacket x).view κ = d.view κ := by
  simp only [List.cons_subset] at h
  simp [Dev.avtpPacket, h, ethPassFlds_subset, lineFlds_subset]

@[simp] theorem Dev.view_avtpEnd (d : Dev) (k : Nat) (h : lineFlds ++ [F.STR_CNT_DROPF] ⊆ κ.flds) : (d.avtpEnd k).view κ = d.view κ := by
  simp only [lineFlds_subset, List.append_subset, List.cons_subset] at h
  simp +decide [Dev.avtpEnd, h, lineFlds_subset]

@[simp] theorem Dev.view_avtpFrameEnd (d : Dev) (x : AvtpIn) (h : [F.CNPY_EXCL_MASK, F.CNPY_HP_STAT_ST, F.CNPY_SEN_BANK_ACT, F.CNPY_SEN_BANK_PEND,
      F.CNPY_SEN_CNT_BADOFF, F.CNPY_SEN_CNT_LATE, F.CNPY_SEN_OFFS_OFFS, F.CNPY_SEN_STAT_CAUSE, F.CNPY_SEN_STAT_INSTEP, F.CNPY_SEN_STAT_OUTCNT,
      F.CNPY_SEN_STAT_STATE, F.COM_STAT_FAULT, F.DMA_CH_CFG_OWNER, F.DMA_CH_DONE_DONE, F.DMA_CH_DSTN_DST_NEXT, F.DMA_CH_FADDR_FADDR, F.DMA_CH_FREC_CAUSE,
      F.DMA_CH_FREC_KIND, F.DMA_CH_FREC_MULTI, F.DMA_CH_FREC_WR, F.DMA_CH_FSEQ_FSEQ, F.DMA_CH_FTIME_FTIME, F.DMA_CH_HOLDN_HOLDN, F.DMA_CH_HOLD_W,
      F.DMA_CH_ROW_ROW, F.DMA_CH_SRCN_SRC_NEXT, F.DMA_CH_STAT_PREEMPTED, F.DMA_CH_STAT_STATE, F.ETH_PORT_CNT_RXF, F.ETH_PORT_CNT_TXF, F.ETH_PORT_DROP_FULL,
      F.ETH_PORT_DROP_QCI, F.FDB_AGE_AGE, F.FDB_ENT_MAC, F.FDB_ENT_STATIC, F.FDB_ENT_VALID, F.FDB_ENT_VID, F.FDB_PORTS_PORTS, F.JOB_STAT_SKIP,
      F.JOB_STAT_STATE, F.MTR_DROP_V, F.MTR_PASS_V, F.STR_CNT_DROPF, F.STR_CNT_FRAMES] ⊆ κ.flds) :
    (d.avtpFrameEnd x).view κ = d.view κ := by
  simp only [List.cons_subset] at h
  simp +decide [Dev.avtpFrameEnd, h, ethPassFlds_subset, lineFlds_subset]

@[simp] theorem State.view_hostReceive (s : State) (q : Nat) (h : iommuFaultFlds ++ [F.ETH_PORT_CNT_TXF, F.ETH_PORT_DROP_FULL, F.HQ_RXWR_IDX] ⊆ κ.flds) (hm :
      κ.mem = true) :
    (s.hostReceive q).view κ = s.view κ := by
  simp only [List.append_subset, List.cons_subset] at h
  simp only [State.hostReceive]
  split
  · rfl
  split
  · simp +decide [h, hm]
  split
  · next he => simp +decide [h, hm, State.view_of_eq he]
  next he => split <;> simp +decide [h, hm, State.view_of_eq he]

@[simp] theorem kept_execHostReceive (q : Fin 8) (x1 x2 x3 : Unit) (s : State) (h : [F.COM_STAT_FAULT, F.ETH_PORT_CNT_TXF, F.ETH_PORT_DROP_FULL,
      F.HQ_RXWR_IDX, F.IOMU_FQCSR_FQMF, F.IOMU_FQCSR_FQOF, F.IOMU_FQT_V, F.IOMU_IPSR_V] ⊆ κ.flds) (hm : κ.mem = true) :
    Kept κ s (execHostReceive q x1 x2 x3 s) := by
  simp only [List.cons_subset] at h
  simp [execHostReceive, h, hm, iommuFaultFlds_subset]

@[simp] theorem State.view_hostTransmit (s : State) (q : Nat) (h : ethPassFlds ++ iommuFaultFlds ++ [F.HQ_TXRD_IDX] ⊆ κ.flds) (hm : κ.mem = true) :
    (s.hostTransmit q).view κ = s.view κ := by
  simp only [ethPassFlds_subset, iommuFaultFlds_subset, List.append_subset, List.cons_subset] at h
  simp only [State.hostTransmit]
  split
  · rfl
  split
  · next he => simp [h, hm, iommuFaultFlds_subset, State.view_of_eq he]
  next he =>
  split
  · simp [h, hm, iommuFaultFlds_subset, State.view_of_eq he]
  split
  · simp [h, hm, iommuFaultFlds_subset, State.view_of_eq he]
  simp only
  simp [h, hm, iommuFaultFlds_subset, State.view_of_eq he]

@[simp] theorem kept_execHostTransmit (q : Fin 8) (s : State) (h : [F.COM_STAT_FAULT, F.ETH_PORT_CNT_RXF, F.ETH_PORT_CNT_TXF, F.ETH_PORT_DROP_FULL,
      F.ETH_PORT_DROP_QCI, F.FDB_AGE_AGE, F.FDB_ENT_MAC, F.FDB_ENT_STATIC, F.FDB_ENT_VALID, F.FDB_ENT_VID, F.FDB_PORTS_PORTS, F.HQ_TXRD_IDX,
      F.IOMU_FQCSR_FQMF, F.IOMU_FQCSR_FQOF, F.IOMU_FQT_V, F.IOMU_IPSR_V, F.MTR_DROP_V, F.MTR_PASS_V] ⊆ κ.flds) (hm : κ.mem = true) :
    Kept κ s (execHostTransmit q s) := by
  simp only [List.cons_subset] at h
  simp [execHostTransmit, h, hm, ethPassFlds_subset, iommuFaultFlds_subset]

@[simp] theorem Dev.view_ethLink (d : Dev) (p : Nat) (up : Bool) (h : F.ETH_PORT_STAT_LINK ∈ κ.flds) : (d.ethLink p up).view κ = d.view κ := by
  simp [Dev.ethLink, h]

@[simp] theorem Dev.view_ethEnable (d : Dev) (p : Nat) (en : Bool) (h : [F.ETH_PORT_CFG_EN, F.ETH_PORT_STAT_LINK] ⊆ κ.flds) :
    (d.ethEnable p en).view κ = d.view κ := by
  simp only [List.cons_subset] at h
  simp [Dev.ethEnable, h]

@[simp] theorem kept_execEthPortEnable (a : Acc) (en : Bool) (s : State) (h : [F.ETH_PORT_CFG_EN, F.ETH_PORT_STAT_LINK] ⊆ κ.flds) :
    Kept κ s (execEthPortEnable a en s) := by
  simp only [List.cons_subset] at h
  simp [execEthPortEnable, h]

@[simp] theorem Dev.view_ethLinkChange (d : Dev) (p : Nat) (up : Bool) (sqi : Nat) (h : [F.ETH_PORT_STAT_LINK, F.ETH_PORT_STAT_SQI] ⊆ κ.flds) :
    (d.ethLinkChange p up sqi).view κ = d.view κ := by
  simp only [List.cons_subset] at h
  simp [Dev.ethLinkChange, h]

end Sys2Proof.Machine
end

section
/-! ### SEG: the segment panel, its lines, temperature bands, stress counters and journal -/

namespace Sys2Proof.Machine

variable {κ : Scope}

@[simp] theorem Dev.view_segShow (d : Dev) (h : [F.COM_STAT_FAULT, F.SEG_STATE_PEND, F.SEG_STATE_ST] ⊆ κ.flds) : d.segShow.view κ = d.view κ := by
  simp only [List.cons_subset] at h
  simp [Dev.segShow, h]

@[simp] theorem Dev.view_segCommit (d : Dev) (full : Bool) (h : [F.COM_STAT_FAULT, F.SEG_DSP_SEG, F.SEG_JSEQ_SEQ, F.SEG_LN_STAT_PEND, F.SEG_STATE_PEND,
      F.SEG_STATE_ST, F.SEG_TGT_SEG] ⊆ κ.flds) :
    (d.segCommit full).view κ = d.view κ := by
  simp only [List.cons_subset] at h
  have hc : ∀ (a : Dev) (c : Nat), (a.each (List.range 3) (fun w b => b.set F.SEG_TGT_SEG (3 * c + w) (b.get F.SEG_STG_SEG (3 * c + w)))).view κ = a.view κ :=
    fun a c => Dev.view_each _ _ _ fun w b => by simp [h]
  have hl : ∀ (d : Dev) (full : Bool), (d.each (List.range 8) (fun c a =>
      let a := a.each (List.range 3) (fun w b => b.set F.SEG_TGT_SEG (3 * c + w) (b.get F.SEG_STG_SEG (3 * c + w)))
      if a.var V.segPh 0 ≠ 0 ∧ a.get F.SEG_STATE_LINE 0 = c then a
      else a.set F.SEG_LN_STAT_PEND c (bit (full || !a.segSame F.SEG_TGT_SEG F.SEG_DSP_SEG c)))).view κ = d.view κ :=
    fun d full => Dev.view_each _ _ _ fun c a => by simp +decide [h, hc]
  simp +decide [h, Dev.segCommit, hl]

@[simp] theorem Dev.view_segFallenImage (d : Dev) (r : Nat) (h : F.SEG_STG_SEG ∈ κ.flds) : (d.segFallenImage r).view κ = d.view κ := by
  simp [Dev.segFallenImage, h]

@[simp] theorem Dev.view_segReplayEnd (d : Dev) (h : [F.COM_STAT_FAULT, F.SEG_DSP_SEG, F.SEG_JSEQ_SEQ, F.SEG_LN_STAT_PEND, F.SEG_STATE_PEND, F.SEG_STATE_ST,
      F.SEG_STG_SEG, F.SEG_TGT_SEG] ⊆ κ.flds) :
    d.segReplayEnd.view κ = d.view κ := by
  simp only [List.cons_subset] at h
  simp +decide [Dev.segReplayEnd, h]

@[simp] theorem Dev.view_segRise (d : Dev) (h : [F.COM_STAT_FAULT, F.SEG_DSP_SEG, F.SEG_JSEQ_SEQ, F.SEG_LN_STAT_PEND, F.SEG_STATE_PEND, F.SEG_STATE_ST,
      F.SEG_STG_SEG, F.SEG_TGT_SEG] ⊆ κ.flds) :
    d.segRise.view κ = d.view κ := by
  simp only [List.cons_subset] at h
  simp +decide [Dev.segRise, h]

@[simp] theorem kept_execPanelCommit (a : Acc) (full : Bool) (s : State) (h : [F.COM_STAT_FAULT, F.SEG_DSP_SEG, F.SEG_JSEQ_SEQ, F.SEG_LN_STAT_PEND,
      F.SEG_STATE_PEND, F.SEG_STATE_ST, F.SEG_TGT_SEG] ⊆ κ.flds) :
    Kept κ s (execPanelCommit a full s) := by
  simp only [List.cons_subset] at h
  simp +decide [execPanelCommit, h]

@[simp] theorem Dev.view_segAbort (d : Dev) (h : [F.COM_STAT_FAULT, F.SEG_LN_STAT_ST, F.SEG_STATE_PEND, F.SEG_STATE_ST] ⊆ κ.flds) :
    d.segAbort.view κ = d.view κ := by
  simp only [List.cons_subset] at h
  simp +decide [Dev.segAbort, h]

@[simp] theorem Dev.view_segLeave (d : Dev) (c : Nat) (h : F.SEG_LN_STAT_ST ∈ κ.flds) : (d.segLeave c).view κ = d.view κ := by
  simp +decide [Dev.segLeave, h]

@[simp] theorem Dev.view_segStart (d : Dev) (seenR seenS : Nat) (h : [F.COM_STAT_FAULT, F.SEG_GEN_VRNOW, F.SEG_GEN_VSNOW, F.SEG_LN_STAT_ST, F.SEG_STATE_LINE,
      F.SEG_STATE_PEND, F.SEG_STATE_ST] ⊆ κ.flds) :
    (d.segStart seenR seenS).view κ = d.view κ := by
  simp only [List.cons_subset] at h
  simp only [Dev.segStart]
  repeat' split
  all_goals simp +decide [h]

@[simp] theorem Dev.view_segSelect (d : Dev) : d.segSelect.view κ = d.view κ := by
  simp +decide [Dev.segSelect]

@[simp] theorem Dev.view_segEvolve (d : Dev) : d.segEvolve.view κ = d.view κ := by
  simp +decide [Dev.segEvolve]

@[simp] theorem Dev.view_segEnd (d : Dev) (ok : Bool) (h : [F.COM_STAT_FAULT, F.SEG_CTR_S, F.SEG_DSP_SEG, F.SEG_JSEQ_SEQ, F.SEG_LN_STAT_BAND,
      F.SEG_LN_STAT_PEND, F.SEG_LN_STAT_ST, F.SEG_LN_TLAST_T, F.SEG_STATE_PEND, F.SEG_STATE_ST, F.SEG_STG_SEG, F.SEG_TGT_SEG] ⊆ κ.flds) :
    (d.segEnd ok).view κ = d.view κ := by
  simp only [List.cons_subset] at h
  simp +decide [Dev.segEnd, h]

@[simp] theorem Dev.view_segTimeout (d : Dev) (h : [F.COM_STAT_FAULT, F.SEG_LN_STAT_ST, F.SEG_STATE_PEND, F.SEG_STATE_ST] ⊆ κ.flds) :
    d.segTimeout.view κ = d.view κ := by
  simp only [List.cons_subset] at h
  simp +decide [Dev.segTimeout, h]

@[simp] theorem Dev.view_segSetBand (d : Dev) (b : Nat) (h : F.SEG_STATE_BAND ∈ κ.flds) : (d.segSetBand b).view κ = d.view κ := by
  simp [Dev.segSetBand, h]

@[simp] theorem Dev.view_segTempTake (d : Dev) (t : Option Int) (h : [F.COM_STAT_FAULT, F.SEG_STATE_BAND, F.SEG_STATE_PEND, F.SEG_STATE_ST, F.SEG_TEMP_T,
      F.SEG_TEMP_TSFLT] ⊆ κ.flds) :
    (d.segTempTake t).view κ = d.view κ := by
  simp only [List.cons_subset] at h
  unfold Dev.segTempTake
  split <;> simp +decide [h]

@[simp] theorem Dev.view_segTemp (d : Dev) (t : Option Int) (h : [F.COM_STAT_FAULT, F.SEG_STATE_BAND, F.SEG_STATE_PEND, F.SEG_STATE_ST, F.SEG_TEMP_T,
      F.SEG_TEMP_TSFLT] ⊆ κ.flds) :
    (d.segTemp t).view κ = d.view κ := by
  simp only [List.cons_subset] at h
  simp +decide [Dev.segTemp, h]

@[simp] theorem kept_execStressClear (a : Acc) (s : State) (h : F.SEG_CTR_S ∈ κ.flds) : Kept κ s (execStressClear a s) := by
  simp only [execStressClear, kept_upd]
  refine Dev.view_wr _ _ _ _ _ _ fun d => ?_
  split
  · exact Dev.view_each _ _ _ fun k a => by simp [h]
  · simp

end Sys2Proof.Machine
end

section
/-! ### SOL: solenoid channels, start rules, the event queue, end of travel, faults and the boost converters -/

namespace Sys2Proof.Machine

variable {κ : Scope}

@[simp] theorem Dev.view_solStatFault (d : Dev) (h : F.COM_STAT_FAULT ∈ κ.flds) : d.solStatFault.view κ = d.view κ := by
  simp [Dev.solStatFault, h]

@[simp] theorem Dev.view_solFaultEval (d : Dev) (c : Nat) (h : [F.COM_STAT_FAULT, F.SOL_CH_STAT_FAULT] ⊆ κ.flds) : (d.solFaultEval c).view κ = d.view κ := by
  simp only [List.cons_subset] at h
  simp [Dev.solFaultEval, h]

@[simp] theorem Dev.view_solFlag (d : Dev) (c : Nat) (f : Fld) (hf : f ∈ κ.flds) : (d.solFlag c f).view κ = d.view κ := by
  simp +decide [Dev.solFlag, hf]

@[simp] theorem Dev.view_solFlagW (d : Dev) (c : Nat) (f : Fld) (hf : f ∈ κ.flds) : (d.solFlagW c f).view κ = d.view κ := by
  simp +decide [Dev.solFlagW, hf]

@[simp] theorem Dev.view_solBank (d : Dev) (c : Nat) (h : F.SOL_BANK_STAT_BANK ∈ κ.flds) : (d.solBank c).view κ = d.view κ := by
  simp [Dev.solBank, h]

/-- What a new phase of a solenoid channel writes. -/
def solPhaseFlds : List Fld := [F.COM_STAT_FAULT, F.SOL_BANK_STAT_BANK, F.SOL_CH_STAT_FAULT, F.SOL_CH_STAT_PHASE]

theorem solPhaseFlds_subset {l : List Fld} : solPhaseFlds ⊆ l ↔ [F.COM_STAT_FAULT, F.SOL_BANK_STAT_BANK, F.SOL_CH_STAT_FAULT, F.SOL_CH_STAT_PHASE] ⊆ l := by
  rw [solPhaseFlds]

@[simp] theorem Dev.view_solPhase (d : Dev) (c p : Nat) (h : solPhaseFlds ⊆ κ.flds) : (d.solPhase c p).view κ = d.view κ := by
  simp only [solPhaseFlds_subset, List.cons_subset] at h
  simp +decide [Dev.solPhase, h]

@[simp] theorem Dev.view_solRelease (d : Dev) (c : Nat) (h : F.SOL_BANK_STAT_BANK ∈ κ.flds) : (d.solRelease c).view κ = d.view κ := by
  simp +decide [Dev.solRelease, h]

@[simp] theorem Dev.view_solCount (d : Dev) (c : Nat) (h : F.SOL_Q_STAT_COUNT ∈ κ.flds) : (d.solCount c).view κ = d.view κ := by
  simp [Dev.solCount, h]

@[simp] theorem Dev.view_solPop (d : Dev) (c : Nat) (h : F.SOL_Q_STAT_COUNT ∈ κ.flds) : (d.solPop c).view κ = d.view κ := by
  simp [Dev.solPop, h]

@[simp] theorem Dev.view_bstMeasure (d : Dev) (b v : Nat) (h : F.SOL_BST_STAT_VNOW ∈ κ.flds) : (d.bstMeasure b v).view κ = d.view κ := by
  simp +decide [Dev.bstMeasure, h]

@[simp] theorem Dev.view_bstStop (d : Dev) : d.bstStop.view κ = d.view κ := by
  simp +decide [Dev.bstStop]

@[simp] theorem Dev.view_solMeas (d : Dev) (c : Nat) (i : Nat) (h : F.SOL_CH_IMEAS_IMEAS ∈ κ.flds) : (d.solMeas c i).view κ = d.view κ := by
  simp +decide [Dev.solMeas, h]

@[simp] theorem Dev.view_solDrop (d : Dev) (c : Nat) (f : Fld) (h : solPhaseFlds ++ [F.SOL_Q_STAT_COUNT] ⊆ κ.flds) (hf : f ∈ κ.flds) :
    (d.solDrop c f).view κ = d.view κ := by
  simp only [solPhaseFlds_subset, List.append_subset, List.cons_subset] at h
  simp +decide [Dev.solDrop, h, hf, solPhaseFlds_subset]

@[simp] theorem Dev.view_solLose (d : Dev) (c : Nat) (f : Fld) (h : solPhaseFlds ++ [F.SOL_Q_STAT_COUNT] ⊆ κ.flds) (hf : f ∈ κ.flds) :
    (d.solLose c f).view κ = d.view κ := by
  simp only [List.append_subset, List.cons_subset] at h
  simp [Dev.solLose, h, hf]

@[simp] theorem Dev.view_solStart (d : Dev) (c : Nat) (boost : Bool) (h : solPhaseFlds ++ [F.SOL_EV_TSTART_T, F.SOL_Q_STAT_COUNT] ⊆ κ.flds) :
    (d.solStart c boost).view κ = d.view κ := by
  simp only [List.append_subset, List.cons_subset] at h
  simp +decide [Dev.solStart, h]

@[simp] theorem Dev.view_solCheck3 (d : Dev) (c : Nat) (h : solPhaseFlds ++ [F.SOL_EV_TSTART_T, F.SOL_Q_STAT_COUNT] ⊆ κ.flds) :
    (d.solCheck3 c).view κ = d.view κ := by
  simp only [List.append_subset, List.cons_subset] at h
  simp +decide [Dev.solCheck3, h]

@[simp] theorem Dev.view_solTry (d : Dev) (c : Nat) (h : solPhaseFlds ++ [F.SOL_CH_FLAGS_DEFER, F.SOL_CH_FLAGS_UVDROP, F.SOL_EV_TSTART_T, F.SOL_Q_STAT_COUNT]
      ⊆ κ.flds) :
    (d.solTry c).view κ = d.view κ := by
  simp only [solPhaseFlds_subset, List.append_subset, List.cons_subset] at h
  simp +decide [Dev.solTry, h, solPhaseFlds_subset]

@[simp] theorem Dev.view_solNoKink (d : Dev) (c : Nat) (h : [F.SOL_CH_FLAGS_NOKINK, F.SOL_EV_FLAGS_FLAGS, F.SOL_EV_TIME_KINK] ⊆ κ.flds) :
    (d.solNoKink c).view κ = d.view κ := by
  simp only [List.cons_subset] at h
  simp +decide [Dev.solNoKink, h]

@[simp] theorem Dev.view_solRequest (d : Dev) (c : Nat) (q : Int) (late : Bool) (h : solPhaseFlds ++ [F.SOL_CH_FLAGS_DEFER, F.SOL_CH_FLAGS_NOKINK,
      F.SOL_CH_FLAGS_OFFDEF, F.SOL_CH_FLAGS_OFFREJ, F.SOL_CH_FLAGS_UVDROP, F.SOL_EV_FLAGS_FLAGS, F.SOL_EV_TIME_KINK, F.SOL_EV_TSTART_T, F.SOL_Q_STAT_COUNT] ⊆
      κ.flds) :
    (d.solRequest c q late).view κ = d.view κ := by
  simp only [List.append_subset, List.cons_subset] at h
  simp +decide [Dev.solRequest, h]

@[simp] theorem Dev.view_solDecay (d : Dev) (c : Nat) (ev : Bool) (h : solPhaseFlds ++ [F.SOL_EV_FLAGS_FLAGS, F.SOL_EV_SEQ_SEQ] ⊆ κ.flds) :
    (d.solDecay c ev).view κ = d.view κ := by
  simp only [solPhaseFlds_subset, List.append_subset, List.cons_subset] at h
  simp +decide [Dev.solDecay, h, solPhaseFlds_subset]

@[simp] theorem Dev.view_solStop (d : Dev) (c : Nat) (h : solPhaseFlds ++ [F.SOL_EV_FLAGS_FLAGS, F.SOL_EV_SEQ_SEQ] ⊆ κ.flds) :
    (d.solStop c).view κ = d.view κ := by
  simp only [List.append_subset, List.cons_subset] at h
  simp [Dev.solStop, h]

@[simp] theorem Dev.view_solWithdraw (d : Dev) (c : Nat) (h : solPhaseFlds ⊆ κ.flds) : (d.solWithdraw c).view κ = d.view κ := by
  simp only [solPhaseFlds_subset, List.cons_subset] at h
  simp only [Dev.solWithdraw]
  split <;> simp +decide [h, solPhaseFlds_subset]

@[simp] theorem Dev.view_solDithSync (d : Dev) (c : Nat) : (d.solDithSync c).view κ = d.view κ := by
  simp +decide [Dev.solDithSync]

/-- What a solenoid channel that follows its switch writes. -/
def solSyncFlds : List Fld := [F.COM_STAT_FAULT, F.SOL_BANK_STAT_BANK, F.SOL_CH_FLAGS_DEFER, F.SOL_CH_FLAGS_NOKINK, F.SOL_CH_FLAGS_OFFDEF,
  F.SOL_CH_FLAGS_OFFREJ, F.SOL_CH_FLAGS_UVDROP, F.SOL_CH_STAT_FAULT, F.SOL_CH_STAT_PHASE, F.SOL_EV_FLAGS_FLAGS, F.SOL_EV_SEQ_SEQ, F.SOL_EV_TIME_KINK,
  F.SOL_EV_TSTART_T, F.SOL_Q_STAT_COUNT]

theorem solSyncFlds_subset {l : List Fld} : solSyncFlds ⊆ l ↔ [F.COM_STAT_FAULT, F.SOL_BANK_STAT_BANK, F.SOL_CH_FLAGS_DEFER, F.SOL_CH_FLAGS_NOKINK,
    F.SOL_CH_FLAGS_OFFDEF, F.SOL_CH_FLAGS_OFFREJ, F.SOL_CH_FLAGS_UVDROP, F.SOL_CH_STAT_FAULT, F.SOL_CH_STAT_PHASE, F.SOL_EV_FLAGS_FLAGS, F.SOL_EV_SEQ_SEQ,
    F.SOL_EV_TIME_KINK, F.SOL_EV_TSTART_T, F.SOL_Q_STAT_COUNT] ⊆ l := by
  rw [solSyncFlds]

@[simp] theorem Dev.view_solSync (d : Dev) (c : Nat) (h : solSyncFlds ⊆ κ.flds) : (d.solSync c).view κ = d.view κ := by
  simp only [solSyncFlds_subset, List.cons_subset] at h
  simp +decide [Dev.solSync, h, solPhaseFlds_subset]

@[simp] theorem Dev.view_solSupply (d : Dev) (f : Fld) (v : Bool) (hf : f ∈ κ.flds) : (d.solSupply f v).view κ = d.view κ := by
  simp [Dev.solSupply, hf]

@[simp] theorem Dev.view_solAllOff (d : Dev) (h : solPhaseFlds ++ [F.SOL_CH_FLAGS_UVDROP, F.SOL_EV_FLAGS_FLAGS, F.SOL_EV_SEQ_SEQ, F.SOL_Q_STAT_COUNT] ⊆
      κ.flds) :
    d.solAllOff.view κ = d.view κ := by
  simp only [List.append_subset, List.cons_subset] at h
  simp [Dev.solAllOff, h]

@[simp] theorem Dev.view_solAllSync (d : Dev) (h : solSyncFlds ⊆ κ.flds) : d.solAllSync.view κ = d.view κ := by
  simp [Dev.solAllSync, h]

@[simp] theorem Dev.view_solRestart (d : Dev) (h : solSyncFlds ⊆ κ.flds) : d.solRestart.view κ = d.view κ := by
  simp +decide [Dev.solRestart, h]

@[simp] theorem Dev.view_solSetCut (d : Dev) (m : Nat) (h : solSyncFlds ++ [F.SOL_CH_FLAGS_FBCUT] ⊆ κ.flds) : (d.solSetCut m).view κ = d.view κ := by
  simp only [solSyncFlds_subset, List.append_subset, List.cons_subset] at h
  simp +decide [Dev.solSetCut, h, solPhaseFlds_subset, solSyncFlds_subset]

@[simp] theorem kept_execEventRequest (a : Acc) (on : Bool) (s : State) (h : [F.COM_STAT_FAULT, F.SOL_BANK_STAT_BANK, F.SOL_CH_CMD_ON, F.SOL_CH_FLAGS_DEFER,
      F.SOL_CH_FLAGS_NOKINK, F.SOL_CH_FLAGS_OFFDEF, F.SOL_CH_FLAGS_OFFREJ, F.SOL_CH_FLAGS_UVDROP, F.SOL_CH_STAT_FAULT, F.SOL_CH_STAT_PHASE,
      F.SOL_EV_FLAGS_FLAGS, F.SOL_EV_SEQ_SEQ, F.SOL_EV_TIME_KINK, F.SOL_EV_TSTART_T, F.SOL_Q_STAT_COUNT] ⊆ κ.flds) :
    Kept κ s (execEventRequest a on s) := by
  simp only [List.cons_subset] at h
  simp [execEventRequest, h, solSyncFlds_subset]

@[simp] theorem kept_execCurrentSetpoint (a : Acc) (v : BitVec 16) (s : State) (h : [F.COM_STAT_FAULT, F.SOL_BANK_STAT_BANK, F.SOL_CH_FLAGS_DEFER,
      F.SOL_CH_FLAGS_NOKINK, F.SOL_CH_FLAGS_OFFDEF, F.SOL_CH_FLAGS_OFFREJ, F.SOL_CH_FLAGS_UVDROP, F.SOL_CH_ISET_ISET, F.SOL_CH_STAT_FAULT,
      F.SOL_CH_STAT_PHASE, F.SOL_EV_FLAGS_FLAGS, F.SOL_EV_SEQ_SEQ, F.SOL_EV_TIME_KINK, F.SOL_EV_TSTART_T, F.SOL_Q_STAT_COUNT] ⊆ κ.flds) :
    Kept κ s (execCurrentSetpoint a v s) := by
  simp only [List.cons_subset] at h
  simp [execCurrentSetpoint, h, solSyncFlds_subset]

@[simp] theorem Dev.view_queuePush (d : Dev) (c : Nat) (h : [F.SOL_CH_FLAGS_LATE, F.SOL_Q_STAT_COUNT] ⊆ κ.flds) : (d.queuePush c).view κ = d.view κ := by
  simp only [List.cons_subset] at h
  simp [Dev.queuePush, h]

@[simp] theorem kept_execQueuePush (a : Acc) (s : State) (h : [F.SOL_CH_FLAGS_LATE, F.SOL_Q_STAT_COUNT] ⊆ κ.flds) : Kept κ s (execQueuePush a s) := by
  simp only [List.cons_subset] at h
  simp [execQueuePush, h]

@[simp] theorem kept_execQueueFlush (a : Acc) (s : State) (h : [F.COM_STAT_FAULT, F.SOL_BANK_STAT_BANK, F.SOL_CH_STAT_FAULT, F.SOL_CH_STAT_PHASE,
      F.SOL_Q_STAT_COUNT] ⊆ κ.flds) :
    Kept κ s (execQueueFlush a s) := by
  simp only [List.cons_subset] at h
  simp [execQueueFlush, h, solPhaseFlds_subset]

@[simp] theorem Dev.view_queueDue (d : Dev) (c : Nat) (h : [F.COM_STAT_FAULT, F.SOL_BANK_STAT_BANK, F.SOL_CH_FLAGS_DEFER, F.SOL_CH_FLAGS_LATE,
      F.SOL_CH_FLAGS_NOKINK, F.SOL_CH_FLAGS_OFFDEF, F.SOL_CH_FLAGS_OFFREJ, F.SOL_CH_FLAGS_UVDROP, F.SOL_CH_STAT_FAULT, F.SOL_CH_STAT_PHASE,
      F.SOL_EV_FLAGS_FLAGS, F.SOL_EV_TIME_KINK, F.SOL_EV_TSTART_T, F.SOL_Q_STAT_COUNT] ⊆ κ.flds) :
    (d.queueDue c).view κ = d.view κ := by
  simp only [List.cons_subset] at h
  unfold Dev.queueDue
  split <;> simp +decide [h, solPhaseFlds_subset]

@[simp] theorem kept_execEventStart (c : Fin 24) (rail : BitVec 8) (s : State) (h : [F.COM_STAT_FAULT, F.SOL_BANK_STAT_BANK, F.SOL_BST_STAT_VNOW,
      F.SOL_CH_FLAGS_DEFER, F.SOL_CH_FLAGS_UVDROP, F.SOL_CH_STAT_FAULT, F.SOL_CH_STAT_PHASE, F.SOL_EV_TSTART_T, F.SOL_Q_STAT_COUNT] ⊆ κ.flds) :
    Kept κ s (execEventStart c rail s) := by
  simp only [List.cons_subset] at h
  simp [execEventStart, h, solPhaseFlds_subset]

@[simp] theorem Dev.view_overlapDrop (d : Dev) (c : Nat) (h : [F.COM_STAT_FAULT, F.SOL_BANK_STAT_BANK, F.SOL_CH_FLAGS_OVLP, F.SOL_CH_STAT_FAULT,
      F.SOL_CH_STAT_PHASE, F.SOL_Q_STAT_COUNT] ⊆ κ.flds) :
    (d.overlapDrop c).view κ = d.view κ := by
  simp only [List.cons_subset] at h
  simp [Dev.overlapDrop, h, solPhaseFlds_subset]

@[simp] theorem Dev.view_boostWait (d : Dev) (c : Nat) (h : solPhaseFlds ++ [F.SOL_CH_FLAGS_BNRABT, F.SOL_CH_FLAGS_BSTNR, F.SOL_CH_FLAGS_UVDROP,
      F.SOL_EV_TSTART_T, F.SOL_Q_STAT_COUNT] ⊆ κ.flds) :
    (d.boostWait c).view κ = d.view κ := by
  simp only [List.append_subset, List.cons_subset] at h
  simp [Dev.boostWait, h]

@[simp] theorem kept_execBoostWaitExpiry (c : Fin 24) (rail : BitVec 8) (s : State) (h : [F.COM_STAT_FAULT, F.SOL_BANK_STAT_BANK, F.SOL_BST_STAT_VNOW,
      F.SOL_CH_FLAGS_BNRABT, F.SOL_CH_FLAGS_BSTNR, F.SOL_CH_FLAGS_UVDROP, F.SOL_CH_STAT_FAULT, F.SOL_CH_STAT_PHASE, F.SOL_EV_TSTART_T, F.SOL_Q_STAT_COUNT] ⊆
      κ.flds) :
    Kept κ s (execBoostWaitExpiry c rail s) := by
  simp only [List.cons_subset] at h
  simp [execBoostWaitExpiry, h, solPhaseFlds_subset]

@[simp] theorem Dev.view_solToPeak (d : Dev) (c : Nat) (h : solPhaseFlds ⊆ κ.flds) : (d.solToPeak c).view κ = d.view κ := by
  simp [Dev.solToPeak, h]

@[simp] theorem Dev.view_peakReached (d : Dev) (c i : Nat) (h : [F.COM_STAT_FAULT, F.SOL_BANK_STAT_BANK, F.SOL_CH_IMEAS_IMEAS, F.SOL_CH_STAT_FAULT,
      F.SOL_CH_STAT_PHASE, F.SOL_EV_TIME_TPK] ⊆ κ.flds) :
    (d.peakReached c i).view κ = d.view κ := by
  simp only [List.cons_subset] at h
  simp +decide [Dev.peakReached, h, solPhaseFlds_subset]

@[simp] theorem Dev.view_boostTimeout (d : Dev) (c : Nat) (h : [F.COM_STAT_FAULT, F.SOL_BANK_STAT_BANK, F.SOL_CH_FLAGS_NOPEAK, F.SOL_CH_STAT_FAULT,
      F.SOL_CH_STAT_PHASE, F.SOL_EV_TIME_TPK] ⊆ κ.flds) :
    (d.boostTimeout c).view κ = d.view κ := by
  simp only [List.cons_subset] at h
  simp +decide [Dev.boostTimeout, h, solPhaseFlds_subset]

@[simp] theorem Dev.view_peakEnd (d : Dev) (c : Nat) (h : solPhaseFlds ⊆ κ.flds) : (d.peakEnd c).view κ = d.view κ := by
  simp only [solPhaseFlds_subset, List.cons_subset] at h
  simp [Dev.peakEnd, h, solPhaseFlds_subset]

@[simp] theorem Dev.view_eventEnd (d : Dev) (c : Nat) (h : solSyncFlds ⊆ κ.flds) : (d.eventEnd c).view κ = d.view κ := by
  simp only [solSyncFlds_subset, List.cons_subset] at h
  simp [Dev.eventEnd, h, solPhaseFlds_subset, solSyncFlds_subset]

@[simp] theorem Dev.view_decayEnd (d : Dev) (c i : Nat) (h : [F.COM_STAT_FAULT, F.SOL_BANK_STAT_BANK, F.SOL_CH_FLAGS_DEFER, F.SOL_CH_FLAGS_NOKINK,
      F.SOL_CH_FLAGS_OFFDEF, F.SOL_CH_FLAGS_OFFREJ, F.SOL_CH_FLAGS_UVDROP, F.SOL_CH_IMEAS_IMEAS, F.SOL_CH_STAT_FAULT, F.SOL_CH_STAT_PHASE,
      F.SOL_EV_FLAGS_FLAGS, F.SOL_EV_SEQ_SEQ, F.SOL_EV_TIME_KINK, F.SOL_EV_TSTART_T, F.SOL_Q_STAT_COUNT] ⊆ κ.flds) :
    (d.decayEnd c i).view κ = d.view κ := by
  simp only [List.cons_subset] at h
  simp +decide [Dev.decayEnd, h, solPhaseFlds_subset, solSyncFlds_subset]

@[simp] theorem Dev.view_kinkDetect (d : Dev) (x : KinkIn) (h : F.SOL_EV_TIME_KINK ∈ κ.flds) : (d.kinkDetect x).view κ = d.view κ := by
  simp +decide [Dev.kinkDetect, h]

@[simp] theorem Dev.view_kinkEnd (d : Dev) (c : Nat) (h : [F.SOL_CH_FLAGS_NOKINK, F.SOL_EV_FLAGS_FLAGS, F.SOL_EV_TIME_KINK] ⊆ κ.flds) :
    (d.kinkEnd c).view κ = d.view κ := by
  simp only [List.cons_subset] at h
  simp [Dev.kinkEnd, h]

@[simp] theorem Dev.view_solTrip (d : Dev) (c : Nat) (f : Fld) (h : solPhaseFlds ⊆ κ.flds) (hf : f ∈ κ.flds) : (d.solTrip c f).view κ = d.view κ := by
  simp only [solPhaseFlds_subset, List.cons_subset] at h
  simp +decide [Dev.solTrip, h, hf, solPhaseFlds_subset]

@[simp] theorem kept_execSolShort (m : SolMeas) (s : State) (h : [F.COM_STAT_FAULT, F.SOL_BANK_STAT_BANK, F.SOL_CH_FLAGS_SHORT, F.SOL_CH_IMEAS_IMEAS,
      F.SOL_CH_STAT_FAULT, F.SOL_CH_STAT_PHASE] ⊆ κ.flds) :
    Kept κ s (execSolShort m s) := by
  simp only [List.cons_subset] at h
  simp [execSolShort, h, solPhaseFlds_subset]

@[simp] theorem kept_execHsShort (m : HsMeas) (s : State) (h : [F.COM_STAT_FAULT, F.SOL_BANK_STAT_BANK, F.SOL_CH_FLAGS_HSSHORT, F.SOL_CH_STAT_FAULT,
      F.SOL_CH_STAT_PHASE] ⊆ κ.flds) :
    Kept κ s (execHsShort m s) := by
  simp only [List.cons_subset] at h
  simp +decide [execHsShort, h, solPhaseFlds_subset]

@[simp] theorem kept_execSolOvertemp (m : SolMeas) (s : State) (h : [F.COM_STAT_FAULT, F.SOL_BANK_STAT_BANK, F.SOL_CH_FLAGS_OT, F.SOL_CH_STAT_FAULT,
      F.SOL_CH_STAT_PHASE] ⊆ κ.flds) :
    Kept κ s (execSolOvertemp m s) := by
  simp only [List.cons_subset] at h
  simp [execSolOvertemp, h, solPhaseFlds_subset]

@[simp] theorem Dev.view_solOpenLoad (d : Dev) (c i : Nat) (h : [F.COM_STAT_FAULT, F.SOL_CH_FLAGS_OPEN, F.SOL_CH_IMEAS_IMEAS, F.SOL_CH_STAT_FAULT] ⊆ κ.flds) :
    (d.solOpenLoad c i).view κ = d.view κ := by
  simp only [List.cons_subset] at h
  simp [Dev.solOpenLoad, h]

@[simp] theorem Dev.view_solClear (d : Dev) (c : Nat) (cause : Option (Fin 3)) (h : solSyncFlds ++ [F.SOL_CH_FLAGS_HSSHORT, F.SOL_CH_FLAGS_OPEN,
      F.SOL_CH_FLAGS_OT, F.SOL_CH_FLAGS_SHORT] ⊆ κ.flds) :
    (d.solClear c cause).view κ = d.view κ := by
  simp only [solSyncFlds_subset, List.append_subset, List.cons_subset] at h
  simp only [Dev.solClear]
  repeat' split
  all_goals simp +decide [h, solPhaseFlds_subset, solSyncFlds_subset]

@[simp] theorem kept_execSolClearFault (a : Acc) (cause : Option (Fin 3)) (s : State) (h : [F.COM_STAT_FAULT, F.SOL_BANK_STAT_BANK, F.SOL_CH_FLAGS_DEFER,
      F.SOL_CH_FLAGS_HSSHORT, F.SOL_CH_FLAGS_NOKINK, F.SOL_CH_FLAGS_OFFDEF, F.SOL_CH_FLAGS_OFFREJ, F.SOL_CH_FLAGS_OPEN, F.SOL_CH_FLAGS_OT,
      F.SOL_CH_FLAGS_SHORT, F.SOL_CH_FLAGS_UVDROP, F.SOL_CH_STAT_FAULT, F.SOL_CH_STAT_PHASE, F.SOL_EV_FLAGS_FLAGS, F.SOL_EV_SEQ_SEQ, F.SOL_EV_TIME_KINK,
      F.SOL_EV_TSTART_T, F.SOL_Q_STAT_COUNT] ⊆ κ.flds) :
    Kept κ s (execSolClearFault a cause s) := by
  simp only [List.cons_subset] at h
  simp [execSolClearFault, h, solSyncFlds_subset]

@[simp] theorem kept_execSolChannelEnable (a : Acc) (en : Bool) (s : State) (h : [F.COM_STAT_FAULT, F.SOL_BANK_STAT_BANK, F.SOL_CH_CFG_EN,
      F.SOL_CH_FLAGS_DEFER, F.SOL_CH_FLAGS_NOKINK, F.SOL_CH_FLAGS_OFFDEF, F.SOL_CH_FLAGS_OFFREJ, F.SOL_CH_FLAGS_UVDROP, F.SOL_CH_STAT_FAULT,
      F.SOL_CH_STAT_PHASE, F.SOL_EV_FLAGS_FLAGS, F.SOL_EV_SEQ_SEQ, F.SOL_EV_TIME_KINK, F.SOL_EV_TSTART_T, F.SOL_Q_STAT_COUNT] ⊆ κ.flds) :
    Kept κ s (execSolChannelEnable a en s) := by
  simp only [List.cons_subset] at h
  simp [execSolChannelEnable, h, solSyncFlds_subset]

@[simp] theorem kept_execBoostEnable (a : Acc) (b : Fin 2) (en : Bool) (s : State) (h : [F.COM_STAT_FAULT, F.SOL_BST_CFG_EN, F.SOL_BST_STAT_FLT] ⊆ κ.flds) :
    Kept κ s (execBoostEnable a b en s) := by
  simp only [List.cons_subset] at h
  simp +decide [execBoostEnable, h]

@[simp] theorem Dev.view_boostFault (d : Dev) (b v : Nat) (h : [F.COM_STAT_FAULT, F.SOL_BST_STAT_FLT, F.SOL_BST_STAT_VNOW] ⊆ κ.flds) :
    (d.boostFault b v).view κ = d.view κ := by
  simp only [List.cons_subset] at h
  simp [Dev.boostFault, h]

@[simp] theorem Dev.view_boostClear (d : Dev) (b v : Nat) (h : [F.COM_STAT_FAULT, F.SOL_BST_STAT_FLT, F.SOL_BST_STAT_VNOW] ⊆ κ.flds) :
    (d.boostClear b v).view κ = d.view κ := by
  simp only [List.cons_subset] at h
  simp [Dev.boostClear, h]

@[simp] theorem Dev.view_railReady (d : Dev) (b v : Nat) (h : [F.COM_STAT_FAULT, F.SOL_BANK_STAT_BANK, F.SOL_BST_STAT_VNOW, F.SOL_CH_FLAGS_DEFER,
      F.SOL_CH_FLAGS_UVDROP, F.SOL_CH_STAT_FAULT, F.SOL_CH_STAT_PHASE, F.SOL_EV_TSTART_T, F.SOL_Q_STAT_COUNT] ⊆ κ.flds) :
    (d.railReady b v).view κ = d.view κ := by
  simp only [List.cons_subset] at h
  simp [Dev.railReady, h, solPhaseFlds_subset]

end Sys2Proof.Machine
end

section
/-! ### LSW: load switches, stud budget, current sense, protection, supply holds and the PSC links -/

namespace Sys2Proof.Machine

variable {κ : Scope}

@[simp] theorem Dev.view_pwrFault (d : Dev) (h : F.COM_STAT_FAULT ∈ κ.flds) : d.pwrFault.view κ = d.view κ := by
  simp [Dev.pwrFault, h]

@[simp] theorem Dev.view_lswFault (d : Dev) (c : Nat) (h : [F.COM_STAT_FAULT, F.LSW_CH_STAT_FAULT] ⊆ κ.flds) : (d.lswFault c).view κ = d.view κ := by
  simp only [List.cons_subset] at h
  simp [Dev.lswFault, h]

@[simp] theorem Dev.view_isenseShow (d : Dev) : d.isenseShow.view κ = d.view κ := by
  simp +decide [Dev.isenseShow]

/-- What a new state of a load switch writes. -/
def lswStateFlds : List Fld := [F.COM_STAT_FAULT, F.LSW_CH_IMEAS_I, F.LSW_CH_STAT_CAUSE, F.LSW_CH_STAT_FAULT, F.LSW_CH_STAT_STATE]

theorem lswStateFlds_subset {l : List Fld} : lswStateFlds ⊆ l ↔ [F.COM_STAT_FAULT, F.LSW_CH_IMEAS_I, F.LSW_CH_STAT_CAUSE, F.LSW_CH_STAT_FAULT,
    F.LSW_CH_STAT_STATE] ⊆ l := by
  rw [lswStateFlds]

@[simp] theorem Dev.view_lswState (d : Dev) (c st cause : Nat) (h : lswStateFlds ⊆ κ.flds) : (d.lswState c st cause).view κ = d.view κ := by
  simp only [lswStateFlds_subset, List.cons_subset] at h
  simp +decide [Dev.lswState, h]

/-- What the switching on of a load switch writes. -/
def lswOnFlds : List Fld := [F.COM_STAT_FAULT, F.LSW_CH_FLAGS_CRANKBLK, F.LSW_CH_IMEAS_I, F.LSW_CH_STAT_CAUSE, F.LSW_CH_STAT_FAULT, F.LSW_CH_STAT_STATE]

theorem lswOnFlds_subset {l : List Fld} : lswOnFlds ⊆ l ↔ [F.COM_STAT_FAULT, F.LSW_CH_FLAGS_CRANKBLK, F.LSW_CH_IMEAS_I, F.LSW_CH_STAT_CAUSE,
    F.LSW_CH_STAT_FAULT, F.LSW_CH_STAT_STATE] ⊆ l := by
  rw [lswOnFlds]

@[simp] theorem Dev.view_lswTurnOn (d : Dev) (c : Nat) (h : lswOnFlds ⊆ κ.flds) : (d.lswTurnOn c).view κ = d.view κ := by
  simp only [lswOnFlds_subset, List.cons_subset] at h
  simp +decide [Dev.lswTurnOn, h, lswStateFlds_subset]

@[simp] theorem Dev.view_lswOff (d : Dev) (c cause : Nat) (h : lswStateFlds ⊆ κ.flds) : (d.lswOff c cause).view κ = d.view κ := by
  simp +decide [Dev.lswOff, h]

@[simp] theorem Dev.view_lswSync (d : Dev) (c : Nat) (h : lswOnFlds ⊆ κ.flds) : (d.lswSync c).view κ = d.view κ := by
  simp only [lswOnFlds_subset, List.cons_subset] at h
  simp +decide [Dev.lswSync, h, lswStateFlds_subset, lswOnFlds_subset]

@[simp] theorem Dev.view_lswHoldOn (d : Dev) (l : List Nat) (f : Fld) (h : lswOnFlds ⊆ κ.flds) (hf : f ∈ κ.flds) : (d.lswHoldOn l f).view κ = d.view κ := by
  simp [Dev.lswHoldOn, h, hf]

@[simp] theorem Dev.view_lswHoldOff (d : Dev) (l : List Nat) (h : lswOnFlds ⊆ κ.flds) : (d.lswHoldOff l).view κ = d.view κ := by
  simp +decide [Dev.lswHoldOff, h]

@[simp] theorem Dev.view_lswSupply (d : Dev) (f : Fld) (v : Bool) (hf : f ∈ κ.flds) : (d.lswSupply f v).view κ = d.view κ := by
  simp [Dev.lswSupply, hf]

@[simp] theorem Dev.view_lswSetCut (d : Dev) (m : Nat) (h : lswOnFlds ++ [F.LSW_CH_FLAGS_FBCUT] ⊆ κ.flds) : (d.lswSetCut m).view κ = d.view κ := by
  simp only [List.append_subset, List.cons_subset] at h
  simp +decide [Dev.lswSetCut, h]

@[simp] theorem Dev.view_lswTrip (d : Dev) (c : Nat) (f : Fld) (cause bcode : Nat) (latch : Bool) (h : lswStateFlds ++ [F.LSW_CH_TRIPS_TRIPS] ⊆ κ.flds) (hf :
      f ∈ κ.flds) :
    (d.lswTrip c f cause bcode latch).view κ = d.view κ := by
  simp only [List.append_subset, List.cons_subset] at h
  simp +decide [Dev.lswTrip, h, hf]

@[simp] theorem kept_execLswOnWrite (a : Acc) (on : Bool) (s : State) (h : [F.COM_STAT_FAULT, F.LSW_CH_CMD_ON, F.LSW_CH_FLAGS_CRANKBLK, F.LSW_CH_IMEAS_I,
      F.LSW_CH_STAT_CAUSE, F.LSW_CH_STAT_FAULT, F.LSW_CH_STAT_STATE] ⊆ κ.flds) :
    Kept κ s (execLswOnWrite a on s) := by
  simp only [List.cons_subset] at h
  simp [execLswOnWrite, h, lswOnFlds_subset]

@[simp] theorem kept_execLswChannelEnable (a : Acc) (en : Bool) (s : State) (h : [F.COM_STAT_FAULT, F.LSW_CH_CFG_EN, F.LSW_CH_FLAGS_CRANKBLK,
      F.LSW_CH_IMEAS_I, F.LSW_CH_STAT_CAUSE, F.LSW_CH_STAT_FAULT, F.LSW_CH_STAT_STATE] ⊆ κ.flds) :
    Kept κ s (execLswChannelEnable a en s) := by
  simp only [List.cons_subset] at h
  simp [execLswChannelEnable, h, lswOnFlds_subset]

@[simp] theorem Dev.view_studStep (d : Dev) (st : Nat) (h : [F.LSW_STUD_AVG, F.LSW_STUD_STUDOV] ⊆ κ.flds) : (d.studStep st).view κ = d.view κ := by
  simp only [List.cons_subset] at h
  simp +decide [Dev.studStep, h]

@[simp] theorem Dev.view_loadShed (d : Dev) (st : Nat) (h : [F.COM_STAT_FAULT, F.LSW_CH_FLAGS_SHED, F.LSW_CH_IMEAS_I, F.LSW_CH_STAT_CAUSE,
      F.LSW_CH_STAT_FAULT, F.LSW_CH_STAT_STATE] ⊆ κ.flds) :
    (d.loadShed st).view κ = d.view κ := by
  simp only [List.cons_subset] at h
  unfold Dev.loadShed
  repeat' split
  all_goals simp +decide [h, lswStateFlds_subset]

@[simp] theorem Dev.view_studOverload (d : Dev) (st : Nat) (h : F.LSW_STUD_STUDOV ∈ κ.flds) : (d.studOverload st).view κ = d.view κ := by
  simp [Dev.studOverload, h]

@[simp] theorem Dev.view_shedReturn (d : Dev) (st : Nat) (h : lswOnFlds ⊆ κ.flds) : (d.shedReturn st).view κ = d.view κ := by
  simp only [lswOnFlds_subset, List.cons_subset] at h
  unfold Dev.shedReturn
  repeat' split
  all_goals simp +decide [h, lswStateFlds_subset, lswOnFlds_subset]

@[simp] theorem Dev.view_senseConv (d : Dev) (slot cur : Nat) (h : [F.LSW_CH_IMEAS_I, F.LSW_SENSE_VAL_I] ⊆ κ.flds) :
    (d.senseConv slot cur).view κ = d.view κ := by
  simp only [List.cons_subset] at h
  simp +decide [Dev.senseConv, h]

@[simp] theorem Dev.view_shortTrip (d : Dev) (c cur : Nat) (h : [F.COM_STAT_FAULT, F.LSW_CH_FLAGS_SC, F.LSW_CH_IMEAS_I, F.LSW_CH_STAT_CAUSE,
      F.LSW_CH_STAT_FAULT, F.LSW_CH_STAT_STATE, F.LSW_CH_TRIPS_TRIPS] ⊆ κ.flds) :
    (d.shortTrip c cur).view κ = d.view κ := by
  simp only [List.cons_subset] at h
  simp [Dev.shortTrip, h, lswStateFlds_subset]

@[simp] theorem Dev.view_inrushEnd (d : Dev) (c : Nat) (h : lswStateFlds ⊆ κ.flds) : (d.inrushEnd c).view κ = d.view κ := by
  simp [Dev.inrushEnd, h]

@[simp] theorem Dev.view_wireStep (d : Dev) (c : Nat) (h : [F.COM_STAT_FAULT, F.LSW_CH_FLAGS_WIRE, F.LSW_CH_IMEAS_I, F.LSW_CH_STAT_CAUSE, F.LSW_CH_STAT_FAULT,
      F.LSW_CH_STAT_STATE, F.LSW_CH_TEMP_WRISE, F.LSW_CH_TRIPS_TRIPS] ⊆ κ.flds) :
    (d.wireStep c).view κ = d.view κ := by
  simp only [List.cons_subset] at h
  simp +decide [Dev.wireStep, h, lswStateFlds_subset]

@[simp] theorem Dev.view_lswClear (d : Dev) (c : Nat) (h : lswOnFlds ++ [F.LSW_CH_FLAGS_OT, F.LSW_CH_FLAGS_OTABS, F.LSW_CH_FLAGS_RETRYX, F.LSW_CH_FLAGS_SC,
      F.LSW_CH_FLAGS_WIRE] ⊆ κ.flds) :
    (d.lswClear c).view κ = d.view κ := by
  simp only [lswOnFlds_subset, List.append_subset, List.cons_subset] at h
  simp +decide [Dev.lswClear, h, lswOnFlds_subset, lswStateFlds_subset]

@[simp] theorem kept_execLswClearFault (a : Acc) (s : State) (h : [F.COM_STAT_FAULT, F.LSW_CH_FLAGS_CRANKBLK, F.LSW_CH_FLAGS_OT, F.LSW_CH_FLAGS_OTABS,
      F.LSW_CH_FLAGS_RETRYX, F.LSW_CH_FLAGS_SC, F.LSW_CH_FLAGS_WIRE, F.LSW_CH_IMEAS_I, F.LSW_CH_STAT_CAUSE, F.LSW_CH_STAT_FAULT, F.LSW_CH_STAT_STATE] ⊆
      κ.flds) :
    Kept κ s (execLswClearFault a s) := by
  simp only [List.cons_subset] at h
  simp [execLswClearFault, h, lswOnFlds_subset]

@[simp] theorem Dev.view_junction (d : Dev) (c tj : Nat) (h : [F.COM_STAT_FAULT, F.LSW_CH_FLAGS_OT, F.LSW_CH_FLAGS_OTABS, F.LSW_CH_IMEAS_I,
      F.LSW_CH_STAT_CAUSE, F.LSW_CH_STAT_FAULT, F.LSW_CH_STAT_STATE, F.LSW_CH_TEMP_TJ, F.LSW_CH_TRIPS_TRIPS] ⊆ κ.flds) :
    (d.junction c tj).view κ = d.view κ := by
  simp only [List.cons_subset] at h
  simp [Dev.junction, h, lswStateFlds_subset]

@[simp] theorem Dev.view_autoRestart (d : Dev) (c : Nat) (h : [F.COM_STAT_FAULT, F.LSW_CH_FLAGS_CRANKBLK, F.LSW_CH_FLAGS_RETRYX, F.LSW_CH_IMEAS_I,
      F.LSW_CH_STAT_CAUSE, F.LSW_CH_STAT_FAULT, F.LSW_CH_STAT_RTRN, F.LSW_CH_STAT_STATE, F.LSW_CH_TRIPS_RESTARTS] ⊆ κ.flds) :
    (d.autoRestart c).view κ = d.view κ := by
  simp only [List.cons_subset] at h
  simp [Dev.autoRestart, h, lswStateFlds_subset, lswOnFlds_subset]

@[simp] theorem Dev.view_retryWindow (d : Dev) (h : F.LSW_CH_STAT_RTRN ∈ κ.flds) : d.retryWindow.view κ = d.view κ := by
  simp +decide [Dev.retryWindow, h]

@[simp] theorem Dev.view_olFlag (d : Dev) (c : Nat) (f : Fld) (n : Int) (h : [F.COM_STAT_FAULT, F.LSW_CH_STAT_FAULT] ⊆ κ.flds) (hf : f ∈ κ.flds) :
    (d.olFlag c f n).view κ = d.view κ := by
  simp only [List.cons_subset] at h
  simp [Dev.olFlag, h, hf]

@[simp] theorem Dev.view_openLoad (d : Dev) (c v : Nat) (h : [F.COM_STAT_FAULT, F.LSW_CH_FLAGS_OPEN, F.LSW_CH_FLAGS_STB, F.LSW_CH_IMEAS_OLV,
      F.LSW_CH_STAT_FAULT] ⊆ κ.flds) :
    (d.openLoad c v).view κ = d.view κ := by
  simp only [List.cons_subset] at h
  simp +decide [Dev.openLoad, h]

@[simp] theorem Dev.view_supFollow (d : Dev) (k : Nat) (v : Bool) : (d.supFollow k v).view κ = d.view κ := by
  simp +decide [Dev.supFollow]

@[simp] theorem Dev.view_studMeasure (d : Dev) (st mv : Nat) (h : [F.LSW_STUD_VSTUD, F.PWR_SUPPLY_VSUP, F.SOL_SUPPLY_VSUP] ⊆ κ.flds) :
    (d.studMeasure st mv).view κ = d.view κ := by
  simp only [List.cons_subset] at h
  simp +decide [Dev.studMeasure, h]

@[simp] theorem Dev.view_solCrankEval (d : Dev) (h : solSyncFlds ++ [F.SOL_SUPPLY_CRANK] ⊆ κ.flds) : d.solCrankEval.view κ = d.view κ := by
  simp only [List.append_subset, List.cons_subset] at h
  simp [Dev.solCrankEval, h]

@[simp] theorem Dev.view_crankHold (d : Dev) (st mv : Nat) (h : [F.COM_STAT_FAULT, F.LSW_STUD_VSTUD, F.LSW_SUPPLY_CRANKA, F.LSW_SUPPLY_CRANKB,
      F.PWR_SUPPLY_VSUP, F.SOL_BANK_STAT_BANK, F.SOL_CH_FLAGS_DEFER, F.SOL_CH_FLAGS_NOKINK, F.SOL_CH_FLAGS_OFFDEF, F.SOL_CH_FLAGS_OFFREJ,
      F.SOL_CH_FLAGS_UVDROP, F.SOL_CH_STAT_FAULT, F.SOL_CH_STAT_PHASE, F.SOL_EV_FLAGS_FLAGS, F.SOL_EV_SEQ_SEQ, F.SOL_EV_TIME_KINK, F.SOL_EV_TSTART_T,
      F.SOL_Q_STAT_COUNT, F.SOL_SUPPLY_CRANK, F.SOL_SUPPLY_VSUP] ⊆ κ.flds) :
    (d.crankHold st mv).view κ = d.view κ := by
  simp only [List.cons_subset] at h
  unfold Dev.crankHold
  split <;> simp [h, solSyncFlds_subset]

@[simp] theorem Dev.view_crankEnd (d : Dev) (st mv : Nat) (h : [F.COM_STAT_FAULT, F.LSW_CH_FLAGS_CRANKBLK, F.LSW_CH_IMEAS_I, F.LSW_CH_STAT_CAUSE,
      F.LSW_CH_STAT_FAULT, F.LSW_CH_STAT_STATE, F.LSW_STUD_VSTUD, F.LSW_SUPPLY_CRANKA, F.LSW_SUPPLY_CRANKB, F.PWR_SUPPLY_VSUP, F.SOL_BANK_STAT_BANK,
      F.SOL_CH_FLAGS_DEFER, F.SOL_CH_FLAGS_NOKINK, F.SOL_CH_FLAGS_OFFDEF, F.SOL_CH_FLAGS_OFFREJ, F.SOL_CH_FLAGS_UVDROP, F.SOL_CH_STAT_FAULT,
      F.SOL_CH_STAT_PHASE, F.SOL_EV_FLAGS_FLAGS, F.SOL_EV_SEQ_SEQ, F.SOL_EV_TIME_KINK, F.SOL_EV_TSTART_T, F.SOL_Q_STAT_COUNT, F.SOL_SUPPLY_CRANK,
      F.SOL_SUPPLY_VSUP] ⊆ κ.flds) :
    (d.crankEnd st mv).view κ = d.view κ := by
  simp only [List.cons_subset] at h
  unfold Dev.crankEnd
  repeat' split
  all_goals simp [h, solSyncFlds_subset, lswOnFlds_subset]

@[simp] theorem Dev.view_brownOut (d : Dev) (st mv : Nat) (h : [F.COM_STAT_FAULT, F.LSW_CH_FLAGS_BROWN, F.LSW_CH_FLAGS_CRANKBLK, F.LSW_CH_IMEAS_I,
      F.LSW_CH_STAT_CAUSE, F.LSW_CH_STAT_FAULT, F.LSW_CH_STAT_STATE, F.LSW_STUD_VSTUD, F.LSW_SUPPLY_BROWNA, F.LSW_SUPPLY_BROWNB, F.PWR_SUPPLY_VSUP,
      F.SOL_BANK_STAT_BANK, F.SOL_CH_FLAGS_DEFER, F.SOL_CH_FLAGS_NOKINK, F.SOL_CH_FLAGS_OFFDEF, F.SOL_CH_FLAGS_OFFREJ, F.SOL_CH_FLAGS_UVDROP,
      F.SOL_CH_STAT_FAULT, F.SOL_CH_STAT_PHASE, F.SOL_EV_FLAGS_FLAGS, F.SOL_EV_SEQ_SEQ, F.SOL_EV_TIME_KINK, F.SOL_EV_TSTART_T, F.SOL_Q_STAT_COUNT,
      F.SOL_SUPPLY_CRANK, F.SOL_SUPPLY_VSUP] ⊆ κ.flds) :
    (d.brownOut st mv).view κ = d.view κ := by
  simp only [List.cons_subset] at h
  unfold Dev.brownOut
  repeat' split
  all_goals simp [h, solSyncFlds_subset, lswOnFlds_subset]

@[simp] theorem Dev.view_brownEnd (d : Dev) (st mv : Nat) (h : [F.COM_STAT_FAULT, F.LSW_CH_FLAGS_CRANKBLK, F.LSW_CH_IMEAS_I, F.LSW_CH_STAT_CAUSE,
      F.LSW_CH_STAT_FAULT, F.LSW_CH_STAT_STATE, F.LSW_STUD_VSTUD, F.LSW_SUPPLY_BROWNA, F.LSW_SUPPLY_BROWNB, F.PWR_SUPPLY_VSUP, F.SOL_BANK_STAT_BANK,
      F.SOL_CH_FLAGS_DEFER, F.SOL_CH_FLAGS_NOKINK, F.SOL_CH_FLAGS_OFFDEF, F.SOL_CH_FLAGS_OFFREJ, F.SOL_CH_FLAGS_UVDROP, F.SOL_CH_STAT_FAULT,
      F.SOL_CH_STAT_PHASE, F.SOL_EV_FLAGS_FLAGS, F.SOL_EV_SEQ_SEQ, F.SOL_EV_TIME_KINK, F.SOL_EV_TSTART_T, F.SOL_Q_STAT_COUNT, F.SOL_SUPPLY_CRANK,
      F.SOL_SUPPLY_VSUP] ⊆ κ.flds) :
    (d.brownEnd st mv).view κ = d.view κ := by
  simp only [List.cons_subset] at h
  unfold Dev.brownEnd
  split <;> simp [h, solSyncFlds_subset, lswOnFlds_subset]

@[simp] theorem Dev.view_undervolt (d : Dev) (h : [F.COM_STAT_FAULT, F.LSW_CH_FLAGS_CRANKBLK, F.LSW_CH_FLAGS_UV, F.LSW_CH_IMEAS_I, F.LSW_CH_STAT_CAUSE,
      F.LSW_CH_STAT_FAULT, F.LSW_CH_STAT_STATE, F.LSW_SUPPLY_UV, F.PWR_SUPPLY_UV, F.SOL_BANK_STAT_BANK, F.SOL_CH_FLAGS_UVDROP, F.SOL_CH_STAT_FAULT,
      F.SOL_CH_STAT_PHASE, F.SOL_EV_FLAGS_FLAGS, F.SOL_EV_SEQ_SEQ, F.SOL_Q_STAT_COUNT, F.SOL_SUPPLY_UV] ⊆ κ.flds) :
    d.undervolt.view κ = d.view κ := by
  simp only [List.cons_subset] at h
  simp [Dev.undervolt, h, solPhaseFlds_subset, lswOnFlds_subset]

@[simp] theorem Dev.view_undervoltEnd (d : Dev) (h : [F.COM_STAT_FAULT, F.LSW_CH_FLAGS_CRANKBLK, F.LSW_CH_IMEAS_I, F.LSW_CH_STAT_CAUSE, F.LSW_CH_STAT_FAULT,
      F.LSW_CH_STAT_STATE, F.LSW_SUPPLY_UV, F.PWR_SUPPLY_UV, F.SOL_BANK_STAT_BANK, F.SOL_CH_FLAGS_DEFER, F.SOL_CH_FLAGS_NOKINK, F.SOL_CH_FLAGS_OFFDEF,
      F.SOL_CH_FLAGS_OFFREJ, F.SOL_CH_FLAGS_UVDROP, F.SOL_CH_STAT_FAULT, F.SOL_CH_STAT_PHASE, F.SOL_EV_FLAGS_FLAGS, F.SOL_EV_SEQ_SEQ, F.SOL_EV_TIME_KINK,
      F.SOL_EV_TSTART_T, F.SOL_Q_STAT_COUNT, F.SOL_SUPPLY_UV] ⊆ κ.flds) :
    d.undervoltEnd.view κ = d.view κ := by
  simp only [List.cons_subset] at h
  simp [Dev.undervoltEnd, h, solSyncFlds_subset, lswOnFlds_subset]

@[simp] theorem Dev.view_staggered (d : Dev) (c : Nat) (h : lswOnFlds ⊆ κ.flds) : (d.staggered c).view κ = d.view κ := by
  simp +decide [Dev.staggered, h]

@[simp] theorem Dev.view_solFaultAll (d : Dev) (h : [F.COM_STAT_FAULT, F.SOL_CH_STAT_FAULT] ⊆ κ.flds) : d.solFaultAll.view κ = d.view κ := by
  simp only [List.cons_subset] at h
  simp [Dev.solFaultAll, h]

@[simp] theorem Dev.view_pscLoss (d : Dev) (p : Nat) (h : [F.COM_STAT_FAULT, F.LSW_PSC_LINK0, F.LSW_PSC_LINK1, F.SOL_CH_STAT_FAULT] ⊆ κ.flds) :
    (d.pscLoss p).view κ = d.view κ := by
  simp only [List.cons_subset] at h
  have hf : pscLink p ∈ κ.flds := by unfold pscLink; split <;> simp +decide [h]
  simp +decide [h, Dev.pscLoss, hf]

@[simp] theorem Dev.view_pscHoldEnd (d : Dev) (p : Nat) (h : [F.COM_STAT_FAULT, F.FBRK_GRP_CNT_CUTS, F.FBRK_GRP_STAT_CUTA, F.FBRK_GRP_STAT_CUTB,
      F.FBRK_GRP_STAT_RBOK, F.FBRK_GRP_STAT_STATE, F.FBRK_LATCH_GROUPS, F.FBRK_LATCH_LCAUSE, F.FBRK_REACT_LASTR, F.FBRK_REACT_MAXR, F.FBRK_RSTSTAT_WINDOW,
      F.LSW_CH_FLAGS_CRANKBLK, F.LSW_CH_FLAGS_LINK, F.LSW_CH_IMEAS_I, F.LSW_CH_STAT_CAUSE, F.LSW_CH_STAT_FAULT, F.LSW_CH_STAT_STATE, F.LSW_PSC_OFF0,
      F.LSW_PSC_OFF1, F.SEG_LN_STAT_ST, F.SEG_STATE_PEND, F.SEG_STATE_ST, F.SOL_BANK_STAT_BANK, F.SOL_CH_FLAGS_UVDROP, F.SOL_CH_STAT_FAULT,
      F.SOL_CH_STAT_PHASE, F.SOL_EV_FLAGS_FLAGS, F.SOL_EV_SEQ_SEQ, F.SOL_Q_STAT_COUNT] ⊆ κ.flds) :
    (d.pscHoldEnd p).view κ = d.view κ := by
  simp only [List.cons_subset] at h
  have hf : pscOff p ∈ κ.flds := by unfold pscOff; split <;> simp [h]
  unfold Dev.pscHoldEnd
  by_cases hp : p = 0
  · subst hp; simp [h, lswOnFlds_subset, hf]
  · simp [h, solPhaseFlds_subset, hf, hp]

@[simp] theorem Dev.view_pscRelock (d : Dev) (p : Nat) (h : [F.COM_STAT_FAULT, F.LSW_CH_FLAGS_CRANKBLK, F.LSW_CH_IMEAS_I, F.LSW_CH_STAT_CAUSE,
      F.LSW_CH_STAT_FAULT, F.LSW_CH_STAT_STATE, F.LSW_PSC_LINK0, F.LSW_PSC_LINK1, F.SOL_BANK_STAT_BANK, F.SOL_CH_FLAGS_DEFER, F.SOL_CH_FLAGS_NOKINK,
      F.SOL_CH_FLAGS_OFFDEF, F.SOL_CH_FLAGS_OFFREJ, F.SOL_CH_FLAGS_UVDROP, F.SOL_CH_STAT_FAULT, F.SOL_CH_STAT_PHASE, F.SOL_EV_FLAGS_FLAGS, F.SOL_EV_SEQ_SEQ,
      F.SOL_EV_TIME_KINK, F.SOL_EV_TSTART_T, F.SOL_Q_STAT_COUNT] ⊆ κ.flds) :
    (d.pscRelock p).view κ = d.view κ := by
  simp only [List.cons_subset] at h
  have hf : pscLink p ∈ κ.flds := by unfold pscLink; split <;> simp +decide [h]
  simp +decide [h, solSyncFlds_subset, lswOnFlds_subset, Dev.pscRelock, hf]

@[simp] theorem Dev.view_pscAck (d : Dev) (p : Nat) (h : solSyncFlds ++ lswOnFlds ++ [F.LSW_PSC_OFF0, F.LSW_PSC_OFF1] ⊆ κ.flds) :
    (d.pscAck p).view κ = d.view κ := by
  simp only [solSyncFlds_subset, lswOnFlds_subset, List.append_subset, List.cons_subset] at h
  have hf : pscOff p ∈ κ.flds := by unfold pscOff; split <;> simp [h]
  simp [h, lswOnFlds_subset, solSyncFlds_subset, Dev.pscAck, hf]

@[simp] theorem kept_execPscAck (a : Acc) (p : Fin 2) (s : State) (h : [F.COM_STAT_FAULT, F.LSW_CH_FLAGS_CRANKBLK, F.LSW_CH_IMEAS_I, F.LSW_CH_STAT_CAUSE,
      F.LSW_CH_STAT_FAULT, F.LSW_CH_STAT_STATE, F.LSW_PSC_OFF0, F.LSW_PSC_OFF1, F.SOL_BANK_STAT_BANK, F.SOL_CH_FLAGS_DEFER, F.SOL_CH_FLAGS_NOKINK,
      F.SOL_CH_FLAGS_OFFDEF, F.SOL_CH_FLAGS_OFFREJ, F.SOL_CH_FLAGS_UVDROP, F.SOL_CH_STAT_FAULT, F.SOL_CH_STAT_PHASE, F.SOL_EV_FLAGS_FLAGS, F.SOL_EV_SEQ_SEQ,
      F.SOL_EV_TIME_KINK, F.SOL_EV_TSTART_T, F.SOL_Q_STAT_COUNT] ⊆ κ.flds) :
    Kept κ s (execPscAck a p s) := by
  simp only [List.cons_subset] at h
  simp [execPscAck, h, solSyncFlds_subset, lswOnFlds_subset]

end Sys2Proof.Machine
end

section
/-! ### FBRK: safe inputs, groups, cuts, latches and the fault reset -/

namespace Sys2Proof.Machine

variable {κ : Scope}

/-- What a fault of a safe input pair writes. -/
def pairFaultFlds : List Fld := [F.FBRK_LATCH_GROUPS, F.FBRK_PR_CNT_FAULTS, F.FBRK_PR_STAT_FCODE, F.FBRK_PR_STAT_STATE, F.FBRK_RSTSTAT_WINDOW]

theorem pairFaultFlds_subset {l : List Fld} : pairFaultFlds ⊆ l ↔ [F.FBRK_LATCH_GROUPS, F.FBRK_PR_CNT_FAULTS, F.FBRK_PR_STAT_FCODE, F.FBRK_PR_STAT_STATE,
    F.FBRK_RSTSTAT_WINDOW] ⊆ l := by
  rw [pairFaultFlds]

@[simp] theorem Dev.view_pairFault (d : Dev) (p code : Nat) (h : pairFaultFlds ⊆ κ.flds) : (d.pairFault p code).view κ = d.view κ := by
  simp only [pairFaultFlds_subset, List.cons_subset] at h
  simp only [Dev.pairFault]
  repeat' split
  all_goals simp +decide [h]

@[simp] theorem Dev.view_fbDemand (d : Dev) (p : Nat) (h : [F.FBRK_PR_STAT_TESTDONE, F.FBRK_TEST_PEND] ⊆ κ.flds) : (d.fbDemand p).view κ = d.view κ := by
  simp only [List.cons_subset] at h
  simp +decide [Dev.fbDemand, h]

@[simp] theorem Dev.view_fbDemandAll (d : Dev) (h : [F.FBRK_PR_STAT_TESTDONE, F.FBRK_TEST_PEND] ⊆ κ.flds) : d.fbDemandAll.view κ = d.view κ := by
  simp only [List.cons_subset] at h
  simp [Dev.fbDemandAll, h]

@[simp] theorem Dev.view_pairReach (d : Dev) (p st : Nat) (h : [F.FBRK_PR_CNT_OPENS, F.FBRK_PR_STAT_STATE, F.FBRK_PR_STAT_TESTDONE, F.FBRK_TEST_PEND] ⊆
      κ.flds) :
    (d.pairReach p st).view κ = d.view κ := by
  simp only [List.cons_subset] at h
  simp only [Dev.pairReach]
  repeat' split
  all_goals simp +decide [h]

@[simp] theorem Dev.view_pairEval (d : Dev) (p : Nat) (h : pairFaultFlds ++ [F.FBRK_PR_CNT_OPENS, F.FBRK_PR_STAT_TESTDONE, F.FBRK_TEST_PEND] ⊆ κ.flds) :
    (d.pairEval p).view κ = d.view κ := by
  simp only [pairFaultFlds_subset, List.append_subset, List.cons_subset] at h
  simp [Dev.pairEval, h, pairFaultFlds_subset]

@[simp] theorem Dev.view_testPulse (d : Dev) (i : Nat) : (d.testPulse i).view κ = d.view κ := by
  simp +decide [Dev.testPulse]

@[simp] theorem Dev.view_fbSample (d : Dev) (i : Nat) (hi : Bool) (h : [F.FBRK_PR_STAT_INA, F.FBRK_PR_STAT_INB] ⊆ κ.flds) :
    (d.fbSample i hi).view κ = d.view κ := by
  simp only [List.cons_subset] at h
  have hf : fbIn i ∈ κ.flds := by unfold fbIn; split <;> simp +decide [h]
  simp +decide [Dev.fbSample, hf]

@[simp] theorem Dev.view_pulseJudge (d : Dev) (lv : Nat → Bool) (h : pairFaultFlds ⊆ κ.flds) : (d.pulseJudge lv).view κ = d.view κ := by
  simp +decide [Dev.pulseJudge, h]

@[simp] theorem Dev.view_safeSample (d : Dev) (x : List SafeIn) (h : [F.FBRK_LATCH_GROUPS, F.FBRK_PR_CNT_FAULTS, F.FBRK_PR_CNT_OPENS, F.FBRK_PR_STAT_FCODE,
      F.FBRK_PR_STAT_INA, F.FBRK_PR_STAT_INB, F.FBRK_PR_STAT_STATE, F.FBRK_PR_STAT_TESTDONE, F.FBRK_RSTSTAT_WINDOW, F.FBRK_TEST_PEND] ⊆ κ.flds) :
    (d.safeSample x).view κ = d.view κ := by
  simp only [List.cons_subset] at h
  simp +decide [Dev.safeSample, h, pairFaultFlds_subset]

@[simp] theorem Dev.view_testSource (d : Dev) (p : Nat) (h : pairFaultFlds ⊆ κ.flds) : (d.testSource p).view κ = d.view κ := by
  simp [Dev.testSource, h]

@[simp] theorem Dev.view_discTimeout (d : Dev) (p : Nat) (h : pairFaultFlds ⊆ κ.flds) : (d.discTimeout p).view κ = d.view κ := by
  simp [Dev.discTimeout, h]

@[simp] theorem Dev.view_fbCuts (d : Dev) (h : solSyncFlds ++ lswOnFlds ++ [F.LSW_CH_FLAGS_FBCUT, F.SOL_CH_FLAGS_FBCUT] ⊆ κ.flds) :
    d.fbCuts.view κ = d.view κ := by
  simp only [List.append_subset, List.cons_subset] at h
  simp +decide [Dev.fbCuts, h]

@[simp] theorem Dev.view_fbCycle (d : Dev) (x : LaneIn) (off : Nat) (h : [F.CLR_HDR_GEN, F.CLR_HDR_LIVE, F.CLR_HDR_SEQ, F.CLR_HDR_STALE, F.CLR_HDR_WDRN,
      F.CLR_SLOT_STAT_AGE, F.CLR_VIOL_KIND, F.CLR_VIOL_PLANE, F.CLR_VIOL_SLOT, F.CLR_VIOL_VALID, F.COM_STAT_FAULT, F.FBRK_GRP_CNT_CUTS, F.FBRK_GRP_STAT_CUTA,
      F.FBRK_GRP_STAT_CUTB, F.FBRK_GRP_STAT_RBOK, F.FBRK_GRP_STAT_STATE, F.FBRK_LATCH_GROUPS, F.FBRK_LATCH_LCAUSE, F.FBRK_PR_CNT_FAULTS, F.FBRK_PR_CNT_OPENS,
      F.FBRK_PR_STAT_FCODE, F.FBRK_PR_STAT_STATE, F.FBRK_PR_STAT_TESTDONE, F.FBRK_REACT_LASTR, F.FBRK_REACT_MAXR, F.FBRK_RSTSTAT_WINDOW, F.FBRK_TEST_PEND,
      F.LSW_CH_FLAGS_CRANKBLK, F.LSW_CH_FLAGS_FBCUT, F.LSW_CH_IMEAS_I, F.LSW_CH_STAT_CAUSE, F.LSW_CH_STAT_FAULT, F.LSW_CH_STAT_STATE, F.SOL_BANK_STAT_BANK,
      F.SOL_CH_FLAGS_DEFER, F.SOL_CH_FLAGS_FBCUT, F.SOL_CH_FLAGS_NOKINK, F.SOL_CH_FLAGS_OFFDEF, F.SOL_CH_FLAGS_OFFREJ, F.SOL_CH_FLAGS_UVDROP,
      F.SOL_CH_STAT_FAULT, F.SOL_CH_STAT_PHASE, F.SOL_EV_FLAGS_FLAGS, F.SOL_EV_SEQ_SEQ, F.SOL_EV_TIME_KINK, F.SOL_EV_TSTART_T, F.SOL_Q_STAT_COUNT] ⊆ κ.flds) :
    (d.fbCycle x off).view κ = d.view κ := by
  simp only [List.cons_subset] at h
  simp +decide [Dev.fbCycle, h, pairFaultFlds_subset, solSyncFlds_subset, lswOnFlds_subset, clrFlds_subset]

@[simp] theorem kept_execGroupRestart (a : Acc) (m : BitVec 8) (s : State) : Kept κ s (execGroupRestart a m s) := by
  simp only [execGroupRestart, kept_upd]
  exact Dev.view_wr _ _ _ _ _ _ fun d => Dev.view_each _ _ _ fun g e => by simp +decide

@[simp] theorem Dev.view_fbRise (d : Dev) (h : solSyncFlds ++ lswOnFlds ++ pairFaultFlds ++ [F.FBRK_PR_CNT_OPENS, F.FBRK_PR_STAT_TESTDONE, F.FBRK_TEST_PEND,
      F.LSW_CH_FLAGS_FBCUT, F.SOL_CH_FLAGS_FBCUT] ⊆ κ.flds) :
    d.fbRise.view κ = d.view κ := by
  simp only [List.append_subset, List.cons_subset] at h
  simp +decide [Dev.fbRise, h]

@[simp] theorem Dev.view_fbFall (d : Dev) (h : solSyncFlds ++ lswOnFlds ++ [F.FBRK_GRP_CNT_CUTS, F.FBRK_GRP_STAT_CUTA, F.FBRK_GRP_STAT_CUTB,
      F.FBRK_GRP_STAT_RBOK, F.FBRK_GRP_STAT_STATE, F.FBRK_PR_STAT_STATE, F.FBRK_REACT_LASTR, F.FBRK_REACT_MAXR, F.LSW_CH_FLAGS_FBCUT, F.SOL_CH_FLAGS_FBCUT] ⊆
      κ.flds) :
    d.fbFall.view κ = d.view κ := by
  simp only [solSyncFlds_subset, lswOnFlds_subset, List.append_subset, List.cons_subset] at h
  simp [Dev.fbFall, h, solSyncFlds_subset, lswOnFlds_subset]

@[simp] theorem Dev.view_fbEnable (d : Dev) (en : Bool) (h : [F.COM_CTRL_EN, F.FBRK_PR_STAT_TESTDONE, F.FBRK_TEST_PEND] ⊆ κ.flds) :
    (d.fbEnable en).view κ = d.view κ := by
  simp only [List.cons_subset] at h
  simp [Dev.fbEnable, h]

@[simp] theorem kept_execFbrkEnable (a : Acc) (en : Bool) (s : State) (h : [F.COM_CTRL_EN, F.FBRK_PR_STAT_TESTDONE, F.FBRK_TEST_PEND] ⊆ κ.flds) :
    Kept κ s (execFbrkEnable a en s) := by
  simp only [List.cons_subset] at h
  simp [execFbrkEnable, h]

@[simp] theorem kept_execReadbackFault (s : State) (h : [F.COM_STAT_FAULT, F.FBRK_GRP_CNT_CUTS, F.FBRK_GRP_STAT_CUTA, F.FBRK_GRP_STAT_CUTB,
      F.FBRK_GRP_STAT_RBOK, F.FBRK_GRP_STAT_STATE, F.FBRK_LATCH_GROUPS, F.FBRK_LATCH_LCAUSE, F.FBRK_REACT_LASTR, F.FBRK_REACT_MAXR, F.FBRK_RSTSTAT_WINDOW] ⊆
      κ.flds) :
    Kept κ s (execReadbackFault s) := by
  simp only [List.cons_subset] at h
  simp [execReadbackFault, h]

@[simp] theorem Dev.view_buttonRise (d : Dev) (h : F.FBRK_RSTSTAT_STUCK ∈ κ.flds) : d.buttonRise.view κ = d.view κ := by
  simp +decide [Dev.buttonRise, h]

@[simp] theorem Dev.view_buttonPulse (d : Dev) (err : Nat) (h : [F.FBRK_RSTSTAT_PULSE, F.FBRK_RSTSTAT_WINDOW] ⊆ κ.flds) :
    (d.buttonPulse err).view κ = d.view κ := by
  simp only [List.cons_subset] at h
  simp +decide [Dev.buttonPulse, h]

@[simp] theorem Dev.view_windowTimeout (d : Dev) (h : F.FBRK_RSTSTAT_WINDOW ∈ κ.flds) : d.windowTimeout.view κ = d.view κ := by
  simp [Dev.windowTimeout, h]

@[simp] theorem Dev.view_buttonStuck (d : Dev) (h : F.FBRK_RSTSTAT_STUCK ∈ κ.flds) : d.buttonStuck.view κ = d.view κ := by
  simp [Dev.buttonStuck, h]

@[simp] theorem Dev.view_faultReset (d : Dev) (src : Nat) (rb : Bool) (h : pairFaultFlds ++ [F.COM_STAT_FAULT, F.FBRK_GRP_CNT_CUTS, F.FBRK_GRP_STAT_CUTA,
      F.FBRK_GRP_STAT_CUTB, F.FBRK_GRP_STAT_RBOK, F.FBRK_GRP_STAT_STATE, F.FBRK_PR_CNT_OPENS, F.FBRK_PR_STAT_TESTDONE, F.FBRK_REACT_LASTR, F.FBRK_REACT_MAXR,
      F.FBRK_TEST_PEND] ⊆ κ.flds) :
    (d.faultReset src rb).view κ = d.view κ := by
  simp only [pairFaultFlds_subset, List.append_subset, List.cons_subset] at h
  simp +decide [Dev.faultReset, h, pairFaultFlds_subset]

@[simp] theorem Dev.view_keyRefused (d : Dev) (h : F.FBRK_RSTSTAT_REFUSED ∈ κ.flds) : d.keyRefused.view κ = d.view κ := by
  simp [Dev.keyRefused, h]

@[simp] theorem kept_execFaultResetKey (a : Acc) (key : BitVec 16) (src : BitVec 16) (rb : Bool) (s : State) (h : [F.COM_STAT_FAULT, F.FBRK_GRP_CNT_CUTS,
      F.FBRK_GRP_STAT_CUTA, F.FBRK_GRP_STAT_CUTB, F.FBRK_GRP_STAT_RBOK, F.FBRK_GRP_STAT_STATE, F.FBRK_LATCH_GROUPS, F.FBRK_PR_CNT_FAULTS, F.FBRK_PR_CNT_OPENS,
      F.FBRK_PR_STAT_FCODE, F.FBRK_PR_STAT_STATE, F.FBRK_PR_STAT_TESTDONE, F.FBRK_REACT_LASTR, F.FBRK_REACT_MAXR, F.FBRK_RSTSTAT_REFUSED,
      F.FBRK_RSTSTAT_WINDOW, F.FBRK_TEST_PEND] ⊆ κ.flds) :
    Kept κ s (execFaultResetKey a key src rb s) := by
  simp only [List.cons_subset] at h
  simp [execFaultResetKey, h, pairFaultFlds_subset]

@[simp] theorem kept_execReactClear (a : Acc) (s : State) (h : F.FBRK_REACT_MAXR ∈ κ.flds) : Kept κ s (execReactClear a s) := by
  simp [execReactClear, h]

end Sys2Proof.Machine
end

section
/-! ### UPD: image slots, staging, pushes, settings areas and the block window -/

namespace Sys2Proof.Machine

variable {κ : Scope}

@[simp] theorem Dev.view_slotState (d : Dev) (slot st reason : Nat) (h : [F.UPD_SL_STAT_REASON, F.UPD_SL_STAT_ST, F.UPD_STATE_TRIAL] ⊆ κ.flds) :
    (d.slotState slot st reason).view κ = d.view κ := by
  simp only [List.cons_subset] at h
  simp [Dev.slotState, h]

@[simp] theorem Dev.view_slotShow (d : Dev) (slot : Nat) (h : [F.UPD_SL_BLKS_DONE, F.UPD_SL_BLKS_TOTAL] ⊆ κ.flds) : (d.slotShow slot).view κ = d.view κ := by
  simp only [List.cons_subset] at h
  simp [Dev.slotShow, h]

@[simp] theorem Dev.view_slotOpen (d : Dev) (slot build len total : Nat) (h : [F.UPD_SL_BLKS_DONE, F.UPD_SL_BLKS_TOTAL, F.UPD_SL_BUILD_BUILD] ⊆ κ.flds) :
    (d.slotOpen slot build len total).view κ = d.view κ := by
  simp only [List.cons_subset] at h
  simp +decide [Dev.slotOpen, h]

@[simp] theorem Dev.view_slotBlock (d : Dev) (slot n : Nat) (l : List Nat) (h : [F.UPD_SL_BLKS_DONE, F.UPD_SL_BLKS_TOTAL, F.UPD_SL_BUILD_BUILD,
      F.UPD_SL_STAT_REASON, F.UPD_SL_STAT_SFMT, F.UPD_SL_STAT_ST, F.UPD_SL_STAT_SVN, F.UPD_STATE_TRIAL] ⊆ κ.flds) :
    (d.slotBlock slot n l).view κ = d.view κ := by
  simp only [List.cons_subset] at h
  simp +decide [Dev.slotBlock, h]

@[simp] theorem Dev.view_updReply (d : Dev) (ctl : Bool) (op tag st : Nat) (data : List Nat) (h : clrFlds ⊆ κ.flds) :
    (d.updReply ctl op tag st data).view κ = d.view κ := by
  simp [Dev.updReply, h]

@[simp] theorem Dev.view_updAnswer (d : Dev) (ctl : Bool) (st : Nat) (data : List Nat) (h : clrFlds ⊆ κ.flds) :
    (d.updAnswer ctl st data).view κ = d.view κ := by
  simp [Dev.updAnswer, h]

@[simp] theorem Dev.view_xferEnd (d : Dev) (h : [F.UPD_XFER_OP, F.UPD_XFER_ST] ⊆ κ.flds) : d.xferEnd.view κ = d.view κ := by
  simp only [List.cons_subset] at h
  simp [Dev.xferEnd, h]

@[simp] theorem State.view_updStage (s : State) (h : clrFlds ++ [F.UPD_SL_BLKS_DONE, F.UPD_SL_BLKS_TOTAL, F.UPD_SL_BUILD_BUILD, F.UPD_XFER_OP, F.UPD_XFER_ST]
      ⊆ κ.flds) :
    s.updStage.view κ = s.view κ := by
  simp only [List.append_subset, List.cons_subset] at h
  simp only [State.updStage]
  repeat' split
  all_goals simp +decide [h]

@[simp] theorem kept_execUpdStage (s : State) (h : [F.CLR_HDR_GEN, F.CLR_HDR_LIVE, F.CLR_HDR_SEQ, F.CLR_HDR_STALE, F.CLR_HDR_WDRN, F.CLR_SLOT_STAT_AGE,
      F.CLR_VIOL_KIND, F.CLR_VIOL_PLANE, F.CLR_VIOL_SLOT, F.CLR_VIOL_VALID, F.UPD_SL_BLKS_DONE, F.UPD_SL_BLKS_TOTAL, F.UPD_SL_BUILD_BUILD, F.UPD_XFER_OP,
      F.UPD_XFER_ST] ⊆ κ.flds) :
    Kept κ s (execUpdStage s) := by
  simp only [List.cons_subset] at h
  simp [execUpdStage, h, clrFlds_subset]

@[simp] theorem Dev.view_pushGo (d : Dev) (h : F.UPD_XFER_ST ∈ κ.flds) : d.pushGo.view κ = d.view κ := by
  simp +decide [Dev.pushGo, h]

@[simp] theorem Dev.view_rxAck (d : Dev) (n : Nat) : (d.rxAck n).view κ = d.view κ := by
  simp [Dev.rxAck]

/-- What the end of a push writes. -/
def pushFlds : List Fld := [F.CLR_HDR_GEN, F.CLR_HDR_LIVE, F.CLR_HDR_SEQ, F.CLR_HDR_STALE, F.CLR_HDR_WDRN, F.CLR_SLOT_STAT_AGE, F.CLR_VIOL_KIND,
  F.CLR_VIOL_PLANE, F.CLR_VIOL_SLOT, F.CLR_VIOL_VALID, F.UPD_XFER_OP, F.UPD_XFER_ST]

theorem pushFlds_subset {l : List Fld} : pushFlds ⊆ l ↔ [F.CLR_HDR_GEN, F.CLR_HDR_LIVE, F.CLR_HDR_SEQ, F.CLR_HDR_STALE, F.CLR_HDR_WDRN, F.CLR_SLOT_STAT_AGE,
    F.CLR_VIOL_KIND, F.CLR_VIOL_PLANE, F.CLR_VIOL_SLOT, F.CLR_VIOL_VALID, F.UPD_XFER_OP, F.UPD_XFER_ST] ⊆ l := by
  rw [pushFlds]

@[simp] theorem Dev.view_pushDone (d : Dev) (h : pushFlds ⊆ κ.flds) : d.pushDone.view κ = d.view κ := by
  simp only [pushFlds_subset, List.cons_subset] at h
  simp [Dev.pushDone, h, clrFlds_subset]

@[simp] theorem State.view_updPush (s : State) (h : pushFlds ⊆ κ.flds) : s.updPush.view κ = s.view κ := by
  simp only [pushFlds_subset, List.cons_subset] at h
  simp +decide [State.updPush, h, clrFlds_subset]

@[simp] theorem kept_execUpdPush (s : State) (h : [F.CLR_HDR_GEN, F.CLR_HDR_LIVE, F.CLR_HDR_SEQ, F.CLR_HDR_STALE, F.CLR_HDR_WDRN, F.CLR_SLOT_STAT_AGE,
      F.CLR_VIOL_KIND, F.CLR_VIOL_PLANE, F.CLR_VIOL_SLOT, F.CLR_VIOL_VALID, F.UPD_XFER_OP, F.UPD_XFER_ST] ⊆ κ.flds) :
    Kept κ s (execUpdPush s) := by
  simp only [List.cons_subset] at h
  simp [execUpdPush, h, pushFlds_subset]

@[simp] theorem Dev.view_updForward (d : Dev) (ctl : Bool) (h : clrFlds ⊆ κ.flds) : (d.updForward ctl).view κ = d.view κ := by
  simp [Dev.updForward, h]

@[simp] theorem Dev.view_updActivate (d : Dev) (ctl : Bool) (h : [F.CLR_HDR_GEN, F.CLR_HDR_LIVE, F.CLR_HDR_SEQ, F.CLR_HDR_STALE, F.CLR_HDR_WDRN,
      F.CLR_SLOT_STAT_AGE, F.CLR_VIOL_KIND, F.CLR_VIOL_PLANE, F.CLR_VIOL_SLOT, F.CLR_VIOL_VALID, F.UPD_SL_STAT_REASON, F.UPD_SL_STAT_ST, F.UPD_STATE_TRIAL] ⊆
      κ.flds) :
    (d.updActivate ctl).view κ = d.view κ := by
  simp only [List.cons_subset] at h
  simp [Dev.updActivate, h, clrFlds_subset]

@[simp] theorem Dev.view_eraseArea (d : Dev) (a : Nat) : (d.eraseArea a).view κ = d.view κ := by
  simp [Dev.eraseArea]

@[simp] theorem State.view_confirm (s : State) (h : [F.UPD_SL_STAT_REASON, F.UPD_SL_STAT_ST, F.UPD_STATE_TRIAL] ⊆ κ.flds) (ho : κ.otp = true) :
    s.confirm.view κ = s.view κ := by
  simp only [List.cons_subset] at h
  simp +decide [State.confirm, h, ho]

@[simp] theorem State.view_updConfirm (s : State) (ctl : Bool) (h : clrFlds ++ [F.UPD_SL_STAT_REASON, F.UPD_SL_STAT_ST, F.UPD_STATE_TRIAL] ⊆ κ.flds) (ho :
      κ.otp = true) :
    (s.updConfirm ctl).view κ = s.view κ := by
  simp only [List.append_subset, List.cons_subset] at h
  simp [State.updConfirm, h, ho]

@[simp] theorem kept_execUpdConfirm (ctl : Bool) (s : State) (h : [F.CLR_HDR_GEN, F.CLR_HDR_LIVE, F.CLR_HDR_SEQ, F.CLR_HDR_STALE, F.CLR_HDR_WDRN,
      F.CLR_SLOT_STAT_AGE, F.CLR_VIOL_KIND, F.CLR_VIOL_PLANE, F.CLR_VIOL_SLOT, F.CLR_VIOL_VALID, F.UPD_SL_STAT_REASON, F.UPD_SL_STAT_ST, F.UPD_STATE_TRIAL] ⊆
      κ.flds) (ho : κ.otp = true) :
    Kept κ s (execUpdConfirm ctl s) := by
  simp only [List.cons_subset] at h
  simp [execUpdConfirm, h, ho, clrFlds_subset]

@[simp] theorem kept_execUpdStatus (ctl : Bool) (s : State) (h : [F.CLR_HDR_GEN, F.CLR_HDR_LIVE, F.CLR_HDR_SEQ, F.CLR_HDR_STALE, F.CLR_HDR_WDRN,
      F.CLR_SLOT_STAT_AGE, F.CLR_VIOL_KIND, F.CLR_VIOL_PLANE, F.CLR_VIOL_SLOT, F.CLR_VIOL_VALID] ⊆ κ.flds) :
    Kept κ s (execUpdStatus ctl s) := by
  simp only [List.cons_subset] at h
  simp [execUpdStatus, h, clrFlds_subset]

@[simp] theorem Dev.view_updAbort (d : Dev) (ctl : Bool) (h : pushFlds ⊆ κ.flds) : (d.updAbort ctl).view κ = d.view κ := by
  simp only [pushFlds_subset, List.cons_subset] at h
  simp [Dev.updAbort, h, clrFlds_subset]

@[simp] theorem Dev.view_updReboot (d : Dev) (ctl : Bool) (h : clrFlds ⊆ κ.flds) : (d.updReboot ctl).view κ = d.view κ := by
  simp +decide [Dev.updReboot, h]

@[simp] theorem Dev.view_updSread (d : Dev) (ctl : Bool) (h : clrFlds ⊆ κ.flds) : (d.updSread ctl).view κ = d.view κ := by
  simp [Dev.updSread, h]

@[simp] theorem Dev.view_updSwrite (d : Dev) (ctl : Bool) (h : clrFlds ⊆ κ.flds) : (d.updSwrite ctl).view κ = d.view κ := by
  simp [Dev.updSwrite, h]

@[simp] theorem Dev.view_updBad (d : Dev) (ctl : Bool) (h : clrFlds ⊆ κ.flds) : (d.updBad ctl).view κ = d.view κ := by
  simp [Dev.updBad, h]

@[simp] theorem Dev.view_imageWhole (d : Dev) (slot : Nat) (h : [F.UPD_SL_STAT_REASON, F.UPD_SL_STAT_ST, F.UPD_STATE_TRIAL] ⊆ κ.flds) :
    (d.imageWhole slot).view κ = d.view κ := by
  simp only [List.cons_subset] at h
  simp +decide [Dev.imageWhole, h]

@[simp] theorem Dev.view_norFail (d : Dev) (h : pushFlds ++ monAnswerFlds ⊆ κ.flds) : d.norFail.view κ = d.view κ := by
  simp only [pushFlds_subset, monAnswerFlds_subset, List.append_subset, List.cons_subset] at h
  simp +decide [Dev.norFail, h, clrFlds_subset, monAnswerFlds_subset]

@[simp] theorem State.view_norWrite (s : State) (ok : Bool) (h : pushFlds ++ monAnswerFlds ++ [F.UPD_SL_BLKS_DONE, F.UPD_SL_BLKS_TOTAL, F.UPD_SL_BUILD_BUILD,
      F.UPD_SL_STAT_REASON, F.UPD_SL_STAT_SFMT, F.UPD_SL_STAT_ST, F.UPD_SL_STAT_SVN, F.UPD_STATE_TRIAL] ⊆ κ.flds) :
    (s.norWrite ok).view κ = s.view κ := by
  simp only [pushFlds_subset, monAnswerFlds_subset, List.append_subset, List.cons_subset] at h
  simp only [State.norWrite]
  repeat' split
  all_goals simp +decide [h, pushFlds_subset, monAnswerFlds_subset]

@[simp] theorem kept_execNorBlockWrite (ok : Bool) (s : State) (h : [F.CLR_HDR_GEN, F.CLR_HDR_LIVE, F.CLR_HDR_SEQ, F.CLR_HDR_STALE, F.CLR_HDR_WDRN,
      F.CLR_SLOT_STAT_AGE, F.CLR_VIOL_KIND, F.CLR_VIOL_PLANE, F.CLR_VIOL_SLOT, F.CLR_VIOL_VALID, F.MON_LAST_CMD, F.MON_LAST_CODE, F.MON_STAT_LINES,
      F.MON_TLAST_T, F.UPD_SL_BLKS_DONE, F.UPD_SL_BLKS_TOTAL, F.UPD_SL_BUILD_BUILD, F.UPD_SL_STAT_REASON, F.UPD_SL_STAT_SFMT, F.UPD_SL_STAT_ST,
      F.UPD_SL_STAT_SVN, F.UPD_STATE_TRIAL, F.UPD_XFER_OP, F.UPD_XFER_ST] ⊆ κ.flds) :
    Kept κ s (execNorBlockWrite ok s) := by
  simp only [List.cons_subset] at h
  simp [execNorBlockWrite, h, pushFlds_subset, monAnswerFlds_subset]

@[simp] theorem State.view_stageDone (s : State) (h : pushFlds ++ monAnswerFlds ++ [F.UPD_SL_STAT_REASON, F.UPD_SL_STAT_ST, F.UPD_STATE_TRIAL] ⊆ κ.flds) :
    s.stageDone.view κ = s.view κ := by
  simp only [pushFlds_subset, monAnswerFlds_subset, List.append_subset, List.cons_subset] at h
  simp [State.stageDone, h, clrFlds_subset, pushFlds_subset, monAnswerFlds_subset]

@[simp] theorem kept_execStageDone (s : State) (h : [F.CLR_HDR_GEN, F.CLR_HDR_LIVE, F.CLR_HDR_SEQ, F.CLR_HDR_STALE, F.CLR_HDR_WDRN, F.CLR_SLOT_STAT_AGE,
      F.CLR_VIOL_KIND, F.CLR_VIOL_PLANE, F.CLR_VIOL_SLOT, F.CLR_VIOL_VALID, F.MON_LAST_CMD, F.MON_LAST_CODE, F.MON_STAT_LINES, F.MON_TLAST_T,
      F.UPD_SL_STAT_REASON, F.UPD_SL_STAT_ST, F.UPD_STATE_TRIAL, F.UPD_XFER_OP, F.UPD_XFER_ST] ⊆ κ.flds) :
    Kept κ s (execStageDone s) := by
  simp only [List.cons_subset] at h
  simp [execStageDone, h, pushFlds_subset, monAnswerFlds_subset]

@[simp] theorem Dev.view_blockGo (d : Dev) (h : [F.UPD_SL_BLKS_DONE, F.UPD_SL_BLKS_TOTAL, F.UPD_SL_BUILD_BUILD] ⊆ κ.flds) : d.blockGo.view κ = d.view κ := by
  simp only [List.cons_subset] at h
  simp +decide [Dev.blockGo, h]

@[simp] theorem kept_execUpdBlockGo (a : Acc) (s : State) (h : [F.UPD_SL_BLKS_DONE, F.UPD_SL_BLKS_TOTAL, F.UPD_SL_BUILD_BUILD] ⊆ κ.flds) :
    Kept κ s (execUpdBlockGo a s) := by
  simp only [List.cons_subset] at h
  simp [execUpdBlockGo, h]

@[simp] theorem Dev.view_trialTimeout (d : Dev) : d.trialTimeout.view κ = d.view κ := by
  simp +decide [Dev.trialTimeout]

@[simp] theorem Dev.view_runProven (d : Dev) (h : F.UPD_RUNCNT_CNT ∈ κ.flds) : d.runProven.view κ = d.view κ := by
  simp [Dev.runProven, h]

@[simp] theorem Dev.view_rxDrop (d : Dev) (h : F.UPD_XFER_RXDROP ∈ κ.flds) : d.rxDrop.view κ = d.view κ := by
  simp [Dev.rxDrop, h]

@[simp] theorem Dev.view_rxStop (d : Dev) (h : [F.UPD_XFER_OP, F.UPD_XFER_ST] ⊆ κ.flds) : d.rxStop.view κ = d.view κ := by
  simp only [List.cons_subset] at h
  simp [Dev.rxStop, h]

@[simp] theorem Dev.view_bulkData (d : Dev) (x : BulkIn) (h : [F.UPD_SL_BLKS_DONE, F.UPD_SL_BLKS_TOTAL, F.UPD_SL_BUILD_BUILD, F.UPD_XFER_OP,
      F.UPD_XFER_RXDROP, F.UPD_XFER_ST] ⊆ κ.flds) :
    (d.bulkData x).view κ = d.view κ := by
  simp only [List.cons_subset] at h
  simp +decide [Dev.bulkData, h]

@[simp] theorem Dev.view_bulkAck (d : Dev) (n hi : Nat) (h : pushFlds ⊆ κ.flds) : (d.bulkAck n hi).view κ = d.view κ := by
  simp only [pushFlds_subset, List.cons_subset] at h
  simp +decide [Dev.bulkAck, h, pushFlds_subset]

@[simp] theorem Dev.view_pushResend (d : Dev) (h : F.UPD_XFER_ST ∈ κ.flds) : d.pushResend.view κ = d.view κ := by
  simp +decide [Dev.pushResend, h]

@[simp] theorem Dev.view_pushDetach (d : Dev) (n : Nat) (h : pushFlds ⊆ κ.flds) : (d.pushDetach n).view κ = d.view κ := by
  simp only [pushFlds_subset, List.cons_subset] at h
  simp +decide [Dev.pushDetach, h, pushFlds_subset]

end Sys2Proof.Machine
end

section
/-! ### RIDE: cycles, images, discovery, attach and detach, the ring and the taken ports -/

namespace Sys2Proof.Machine

variable {κ : Scope}

@[simp] theorem Dev.view_rideStat (d : Dev) (h : F.COM_STAT_FAULT ∈ κ.flds) : d.rideStat.view κ = d.view κ := by
  simp [Dev.rideStat, h]

@[simp] theorem Dev.view_ntSeq (d : Dev) (n : Nat) (h : F.NT_SEQ_SEQ ∈ κ.flds) : (d.ntSeq n).view κ = d.view κ := by
  simp [Dev.ntSeq, h]

@[simp] theorem Dev.view_ntState (d : Dev) (n st cause : Nat) (h : [F.NT_ID_STATE, F.RIDE_ND_STAT_CAUSE, F.RIDE_ND_STAT_STATE] ⊆ κ.flds) :
    (d.ntState n st cause).view κ = d.view κ := by
  simp only [List.cons_subset] at h
  simp [Dev.ntState, h]

@[simp] theorem Dev.view_ntPath (d : Dev) (n hport hop upnode upport : Nat) (h : [F.NT_PATH_HOP, F.NT_PATH_HPORT, F.NT_PATH_UPNODE, F.NT_PATH_UPPORT,
      F.RIDE_ND_STAT_HOP, F.RIDE_ND_STAT_HPORT] ⊆ κ.flds) :
    (d.ntPath n hport hop upnode upport).view κ = d.view κ := by
  simp only [List.cons_subset] at h
  simp [Dev.ntPath, h]

@[simp] theorem Dev.view_rideTopo (d : Dev) (h : [F.RIDE_RTT_CALC, F.RIDE_TOPO_HMAX, F.RIDE_TOPO_KIND, F.RIDE_TOPO_NNODE] ⊆ κ.flds) :
    d.rideTopo.view κ = d.view κ := by
  simp only [List.cons_subset] at h
  simp [Dev.rideTopo, h]

@[simp] theorem Dev.view_rideDrop (d : Dev) (n cause : Nat) (h : pushFlds ++ [F.NT_ID_STATE, F.NT_LAST_T, F.NT_SEQ_SEQ, F.RIDE_ND_STAT_CAUSE,
      F.RIDE_ND_STAT_STATE] ⊆ κ.flds) :
    (d.rideDrop n cause).view κ = d.view κ := by
  simp only [List.append_subset, List.cons_subset] at h
  simp +decide [Dev.rideDrop, h]

@[simp] theorem Dev.view_ringBreak (d : Dev) (h : F.RIDE_TOPO_RINGBRK ∈ κ.flds) : d.ringBreak.view κ = d.view κ := by
  simp [Dev.ringBreak, h]

@[simp] theorem Dev.view_rideTurn (d : Dev) (l : List Nat) (h : [F.NT_PATH_HOP, F.NT_PATH_HPORT, F.NT_PATH_UPNODE, F.NT_PATH_UPPORT, F.NT_SEQ_SEQ,
      F.RIDE_ND_STAT_HOP, F.RIDE_ND_STAT_HPORT] ⊆ κ.flds) :
    (d.rideTurn l).view κ = d.view κ := by
  simp only [List.cons_subset] at h
  unfold Dev.rideTurn
  split <;> simp [h]

@[simp] theorem Dev.view_rideFollow (d b : Dev) (l t : List Nat) (h : [F.NT_PATH_HOP, F.NT_PATH_HPORT, F.NT_PATH_UPNODE, F.NT_PATH_UPPORT, F.NT_SEQ_SEQ,
      F.RIDE_ND_STAT_HOP, F.RIDE_ND_STAT_HPORT] ⊆ κ.flds) :
    (d.rideFollow b l t).view κ = d.view κ := by
  simp only [List.cons_subset] at h
  simp [Dev.rideFollow, h]

/-- What the loss of a Ride node writes. -/
def rideLoseFlds : List Fld := [F.CLR_HDR_GEN, F.CLR_HDR_LIVE, F.CLR_HDR_SEQ, F.CLR_HDR_STALE, F.CLR_HDR_WDRN, F.CLR_SLOT_STAT_AGE, F.CLR_VIOL_KIND,
  F.CLR_VIOL_PLANE, F.CLR_VIOL_SLOT, F.CLR_VIOL_VALID, F.COM_STAT_FAULT, F.NT_ID_STATE, F.NT_LAST_T, F.NT_PATH_HOP, F.NT_PATH_HPORT, F.NT_PATH_UPNODE,
  F.NT_PATH_UPPORT, F.NT_SEQ_SEQ, F.RIDE_ND_STAT_CAUSE, F.RIDE_ND_STAT_HOP, F.RIDE_ND_STAT_HPORT, F.RIDE_ND_STAT_STATE, F.RIDE_RTT_CALC, F.RIDE_TOPO_HMAX,
  F.RIDE_TOPO_KIND, F.RIDE_TOPO_NNODE, F.RIDE_TOPO_RINGBRK, F.UPD_XFER_OP, F.UPD_XFER_ST]

theorem rideLoseFlds_subset {l : List Fld} : rideLoseFlds ⊆ l ↔ [F.CLR_HDR_GEN, F.CLR_HDR_LIVE, F.CLR_HDR_SEQ, F.CLR_HDR_STALE, F.CLR_HDR_WDRN,
    F.CLR_SLOT_STAT_AGE, F.CLR_VIOL_KIND, F.CLR_VIOL_PLANE, F.CLR_VIOL_SLOT, F.CLR_VIOL_VALID, F.COM_STAT_FAULT, F.NT_ID_STATE, F.NT_LAST_T, F.NT_PATH_HOP,
    F.NT_PATH_HPORT, F.NT_PATH_UPNODE, F.NT_PATH_UPPORT, F.NT_SEQ_SEQ, F.RIDE_ND_STAT_CAUSE, F.RIDE_ND_STAT_HOP, F.RIDE_ND_STAT_HPORT, F.RIDE_ND_STAT_STATE,
    F.RIDE_RTT_CALC, F.RIDE_TOPO_HMAX, F.RIDE_TOPO_KIND, F.RIDE_TOPO_NNODE, F.RIDE_TOPO_RINGBRK, F.UPD_XFER_OP, F.UPD_XFER_ST] ⊆ l := by
  rw [rideLoseFlds]

@[simp] theorem Dev.view_rideLose (d : Dev) (l : List Nat) (h : rideLoseFlds ⊆ κ.flds) : (d.rideLose l).view κ = d.view κ := by
  simp only [rideLoseFlds_subset, List.cons_subset] at h
  simp +decide [Dev.rideLose, h, pushFlds_subset]

@[simp] theorem Dev.view_rideDetach (d : Dev) (n cause : Nat) (h : rideLoseFlds ⊆ κ.flds) : (d.rideDetach n cause).view κ = d.view κ := by
  simp only [rideLoseFlds_subset, List.cons_subset] at h
  simp [Dev.rideDetach, h, rideLoseFlds_subset, pushFlds_subset]

@[simp] theorem Dev.view_rideDown (d : Dev) (up p : Nat) (h : rideLoseFlds ⊆ κ.flds) : (d.rideDown up p).view κ = d.view κ := by
  simp only [rideLoseFlds_subset, List.cons_subset] at h
  simp only [Dev.rideDown]
  repeat' split
  all_goals simp +decide [h, rideLoseFlds_subset]

@[simp] theorem Dev.view_rideTimeEx (d : Dev) (p : Nat) : (d.rideTimeEx p).view κ = d.view κ := by
  simp +decide [Dev.rideTimeEx]

@[simp] theorem Dev.view_recvHello (d : Dev) (up p : Nat) : (d.recvHello up p).view κ = d.view κ := by
  simp +decide [Dev.recvHello]

@[simp] theorem Dev.view_rideLinkUp (d : Dev) (up p : Nat) : (d.rideLinkUp up p).view κ = d.view κ := by
  simp +decide [Dev.rideLinkUp]

@[simp] theorem Dev.view_rideSecond (d : Dev) : d.rideSecond.view κ = d.view κ := by
  simp [Dev.rideSecond]

@[simp] theorem Dev.view_ntFill (d : Dev) (n : Nat) (x : HelloIn) (hop up port : Nat) (h : [F.NT_ID_MEMBER, F.NT_ID_STEP, F.NT_LEN_INLEN, F.NT_LEN_OUTLEN,
      F.NT_PATH_HOP, F.NT_PATH_HPORT, F.NT_PATH_UPNODE, F.NT_PATH_UPPORT, F.NT_SERIAL_SERIAL, F.RIDE_ND_STAT_HOP, F.RIDE_ND_STAT_HPORT] ⊆ κ.flds) :
    (d.ntFill n x hop up port).view κ = d.view κ := by
  simp only [List.cons_subset] at h
  simp [Dev.ntFill, h]

@[simp] theorem Dev.view_rideAttach (d : Dev) (n : Nat) (x : HelloIn) (hop up port : Nat) (h : [F.COM_STAT_FAULT, F.NT_ATT_ATTCNT, F.NT_FIRST_T,
      F.NT_ID_MEMBER, F.NT_ID_STATE, F.NT_ID_STEP, F.NT_LEN_INLEN, F.NT_LEN_OUTLEN, F.NT_PATH_HOP, F.NT_PATH_HPORT, F.NT_PATH_UPNODE, F.NT_PATH_UPPORT,
      F.NT_SEQ_SEQ, F.NT_SERIAL_SERIAL, F.RIDE_ND_MISS_CONS, F.RIDE_ND_STAT_CAUSE, F.RIDE_ND_STAT_HOP, F.RIDE_ND_STAT_HPORT, F.RIDE_ND_STAT_STATE,
      F.RIDE_RTT_CALC, F.RIDE_TOPO_HMAX, F.RIDE_TOPO_KIND, F.RIDE_TOPO_NNODE] ⊆ κ.flds) :
    (d.rideAttach n x hop up port).view κ = d.view κ := by
  simp only [List.cons_subset] at h
  simp +decide [Dev.rideAttach, h]

@[simp] theorem Dev.view_rideRefuse (d : Dev) (n cause : Nat) (x : HelloIn) (hop up port : Nat) (h : [F.NT_ID_MEMBER, F.NT_ID_STATE, F.NT_ID_STEP,
      F.NT_LEN_INLEN, F.NT_LEN_OUTLEN, F.NT_PATH_HOP, F.NT_PATH_HPORT, F.NT_PATH_UPNODE, F.NT_PATH_UPPORT, F.NT_SEQ_SEQ, F.NT_SERIAL_SERIAL,
      F.RIDE_ND_STAT_CAUSE, F.RIDE_ND_STAT_HOP, F.RIDE_ND_STAT_HPORT, F.RIDE_ND_STAT_STATE] ⊆ κ.flds) :
    (d.rideRefuse n cause x hop up port).view κ = d.view κ := by
  simp only [List.cons_subset] at h
  simp [Dev.rideRefuse, h]

@[simp] theorem Dev.view_rideHelloIn (d : Dev) (x : HelloIn) (h : [F.CLR_HDR_GEN, F.CLR_HDR_LIVE, F.CLR_HDR_SEQ, F.CLR_HDR_STALE, F.CLR_HDR_WDRN,
      F.CLR_SLOT_STAT_AGE, F.CLR_VIOL_KIND, F.CLR_VIOL_PLANE, F.CLR_VIOL_SLOT, F.CLR_VIOL_VALID, F.COM_STAT_FAULT, F.NT_ATT_ATTCNT, F.NT_FIRST_T,
      F.NT_ID_MEMBER, F.NT_ID_STATE, F.NT_ID_STEP, F.NT_LAST_T, F.NT_LEN_INLEN, F.NT_LEN_OUTLEN, F.NT_PATH_HOP, F.NT_PATH_HPORT, F.NT_PATH_UPNODE,
      F.NT_PATH_UPPORT, F.NT_SEQ_SEQ, F.NT_SERIAL_SERIAL, F.RIDE_ND_MISS_CONS, F.RIDE_ND_STAT_CAUSE, F.RIDE_ND_STAT_HOP, F.RIDE_ND_STAT_HPORT,
      F.RIDE_ND_STAT_STATE, F.RIDE_RTT_CALC, F.RIDE_TOPO_HMAX, F.RIDE_TOPO_KIND, F.RIDE_TOPO_NNODE, F.RIDE_TOPO_RINGBRK, F.UPD_XFER_OP, F.UPD_XFER_ST] ⊆
      κ.flds) :
    (d.rideHelloIn x).view κ = d.view κ := by
  simp only [List.cons_subset] at h
  simp only [Dev.rideHelloIn]
  repeat' split
  all_goals simp +decide [h, rideLoseFlds_subset]

@[simp] theorem Dev.view_rideEmpty (d : Dev) (n : Nat) (h : [F.NT_ATT_ATTCNT, F.NT_FIRST_T, F.NT_ID_MEMBER, F.NT_ID_STATE, F.NT_ID_STEP, F.NT_LAST_T,
      F.NT_LEN_INLEN, F.NT_LEN_OUTLEN, F.NT_PATH_HOP, F.NT_PATH_HPORT, F.NT_PATH_UPNODE, F.NT_PATH_UPPORT, F.NT_SEQ_SEQ, F.NT_SERIAL_SERIAL,
      F.RIDE_ND_ASTAMP_T, F.RIDE_ND_FB_FB, F.RIDE_ND_IN_W, F.RIDE_ND_ISEQ_SEQ, F.RIDE_ND_ISTAMP_T, F.RIDE_ND_MISS_CONS, F.RIDE_ND_MISS_TOTAL,
      F.RIDE_ND_STAT_CAUSE, F.RIDE_ND_STAT_HOP, F.RIDE_ND_STAT_HPORT, F.RIDE_ND_STAT_STALE, F.RIDE_ND_STAT_STATE] ⊆ κ.flds) :
    (d.rideEmpty n).view κ = d.view κ := by
  simp only [List.cons_subset] at h
  simp +decide [Dev.rideEmpty, h]

@[simp] theorem kept_execRideTableClear (a : Acc) (s : State) (h : [F.NT_ATT_ATTCNT, F.NT_FIRST_T, F.NT_ID_MEMBER, F.NT_ID_STATE, F.NT_ID_STEP, F.NT_LAST_T,
      F.NT_LEN_INLEN, F.NT_LEN_OUTLEN, F.NT_PATH_HOP, F.NT_PATH_HPORT, F.NT_PATH_UPNODE, F.NT_PATH_UPPORT, F.NT_SEQ_SEQ, F.NT_SERIAL_SERIAL,
      F.RIDE_ND_ASTAMP_T, F.RIDE_ND_FB_FB, F.RIDE_ND_IN_W, F.RIDE_ND_ISEQ_SEQ, F.RIDE_ND_ISTAMP_T, F.RIDE_ND_MISS_CONS, F.RIDE_ND_MISS_TOTAL,
      F.RIDE_ND_STAT_CAUSE, F.RIDE_ND_STAT_HOP, F.RIDE_ND_STAT_HPORT, F.RIDE_ND_STAT_STALE, F.RIDE_ND_STAT_STATE] ⊆ κ.flds) :
    Kept κ s (execRideTableClear a s) := by
  simp only [List.cons_subset] at h
  simp only [execRideTableClear, kept_upd]
  exact Dev.view_wr _ _ _ _ _ _ fun d => Dev.view_each _ _ _ fun n e => by simp [h]

@[simp] theorem Dev.view_rideMiss (d : Dev) (n : Nat) (h : rideLoseFlds ++ [F.RIDE_ND_MISS_CONS, F.RIDE_ND_MISS_TOTAL, F.RIDE_ND_STAT_STALE] ⊆ κ.flds) :
    (d.rideMiss n).view κ = d.view κ := by
  simp only [List.append_subset, List.cons_subset] at h
  simp [Dev.rideMiss, h]

@[simp] theorem Dev.view_rideCarry (d : Dev) (n : Nat) : (d.rideCarry n).view κ = d.view κ := by
  simp +decide [Dev.rideCarry]

@[simp] theorem Dev.view_rideCycle (d : Dev) (h : [F.CLR_HDR_GEN, F.CLR_HDR_LIVE, F.CLR_HDR_SEQ, F.CLR_HDR_STALE, F.CLR_HDR_WDRN, F.CLR_SLOT_STAT_AGE,
      F.CLR_VIOL_KIND, F.CLR_VIOL_PLANE, F.CLR_VIOL_SLOT, F.CLR_VIOL_VALID, F.COM_STAT_FAULT, F.NT_ID_STATE, F.NT_LAST_T, F.NT_PATH_HOP, F.NT_PATH_HPORT,
      F.NT_PATH_UPNODE, F.NT_PATH_UPPORT, F.NT_SEQ_SEQ, F.RIDE_CYCNT_CNT, F.RIDE_ND_MISS_CONS, F.RIDE_ND_MISS_TOTAL, F.RIDE_ND_STAT_CAUSE, F.RIDE_ND_STAT_HOP,
      F.RIDE_ND_STAT_HPORT, F.RIDE_ND_STAT_STALE, F.RIDE_ND_STAT_STATE, F.RIDE_RTT_CALC, F.RIDE_TOPO_HMAX, F.RIDE_TOPO_KIND, F.RIDE_TOPO_NNODE,
      F.RIDE_TOPO_RINGBRK, F.UPD_XFER_OP, F.UPD_XFER_ST] ⊆ κ.flds) :
    d.rideCycle.view κ = d.view κ := by
  simp only [List.cons_subset] at h
  simp +decide [Dev.rideCycle, h, rideLoseFlds_subset]

@[simp] theorem Dev.view_rideUpIn (d : Dev) (n tk : Nat) (img : List Nat) (fb astamp : Nat) (h : [F.COM_STAT_FAULT, F.RIDE_ND_ASTAMP_T, F.RIDE_ND_FB_FB,
      F.RIDE_ND_IN_W, F.RIDE_ND_ISEQ_SEQ, F.RIDE_ND_ISTAMP_T, F.RIDE_ND_MISS_CONS, F.RIDE_ND_STAT_STALE, F.RIDE_RTT_LAST] ⊆ κ.flds) :
    (d.rideUpIn n tk img fb astamp).view κ = d.view κ := by
  simp only [List.cons_subset] at h
  simp +decide [Dev.rideUpIn, h]

@[simp] theorem kept_execRideUpReceived (n : Fin 32) (tk : BitVec 64) (img : List Byte) (fb : BitVec 32) (astamp : BitVec 64) (x5 : Unit) (s : State) (h :
      [F.COM_STAT_FAULT, F.RIDE_ND_ASTAMP_T, F.RIDE_ND_FB_FB, F.RIDE_ND_IN_W, F.RIDE_ND_ISEQ_SEQ, F.RIDE_ND_ISTAMP_T, F.RIDE_ND_MISS_CONS,
      F.RIDE_ND_STAT_STALE, F.RIDE_RTT_LAST] ⊆ κ.flds) :
    Kept κ s (execRideUpReceived n tk img fb astamp x5 s) := by
  simp only [List.cons_subset] at h
  simp [execRideUpReceived, h]

@[simp] theorem Dev.view_rideCommit (d : Dev) (n : Nat) : (d.rideCommit n).view κ = d.view κ := by
  simp +decide [Dev.rideCommit]

@[simp] theorem kept_execRideOutputCommit (a : Acc) (s : State) : Kept κ s (execRideOutputCommit a s) := by
  simp [execRideOutputCommit]

@[simp] theorem Dev.view_ringReturn (d : Dev) (h : [F.RIDE_RTT_CALC, F.RIDE_TOPO_HMAX, F.RIDE_TOPO_KIND, F.RIDE_TOPO_NNODE, F.RIDE_TOPO_RINGBRK] ⊆ κ.flds) :
    d.ringReturn.view κ = d.view κ := by
  simp only [List.cons_subset] at h
  simp +decide [Dev.ringReturn, h]

@[simp] theorem Dev.view_ridePort (d : Dev) (p : Bool) (take_ : Bool) (bank : Nat) (h : [F.ETH_PORT_STAT_TAKEN, F.RIDE_CFG_PCEN, F.RIDE_CFG_PDEN] ⊆ κ.flds) :
    (d.ridePort p take_ bank).view κ = d.view κ := by
  simp only [List.cons_subset] at h
  unfold Dev.ridePort
  split <;> simp [h]

@[simp] theorem kept_execRidePortTake (a : Acc) (p take_ : Bool) (s : State) (h : [F.ETH_PORT_STAT_TAKEN, F.RIDE_CFG_PCEN, F.RIDE_CFG_PDEN] ⊆ κ.flds) :
    Kept κ s (execRidePortTake a p take_ s) := by
  simp only [List.cons_subset] at h
  simp [execRidePortTake, h]

@[simp] theorem Dev.view_rideRise (d : Dev) (h : F.RIDE_CYCNT_CNT ∈ κ.flds) : d.rideRise.view κ = d.view κ := by
  simp +decide [Dev.rideRise, h]

end Sys2Proof.Machine
end

section
/-! ### SHRD and SAGR: records, the log in MRAM, the intake, the queue of errors in service -/

namespace Sys2Proof.Machine

variable {κ : Scope}

@[simp] theorem Dev.view_sagrShow (d : Dev) (h : [F.COM_STAT_FAULT, F.SAGR_CUR_SEQ_SEQ, F.SAGR_QGEN_GEN, F.SAGR_STATE_BUSY, F.SAGR_STATE_CLS,
      F.SAGR_STATE_DEGR, F.SAGR_STATE_QLEN, F.SAGR_STATE_SAFE, F.SAGR_STATE_STOP] ⊆ κ.flds) :
    d.sagrShow.view κ = d.view κ := by
  simp only [List.cons_subset] at h
  simp [Dev.sagrShow, h]

@[simp] theorem Dev.view_sagrServe (d : Dev) (e : SagrEntry) : (d.sagrServe e).view κ = d.view κ := by
  simp +decide [Dev.sagrServe]

@[simp] theorem Dev.view_sagrMerge (d : Dev) (src code : Nat) : (d.sagrMerge src code).view κ = d.view κ := by
  simp [Dev.sagrMerge]

@[simp] theorem Dev.view_sagrLost (n : Nat) (d : Dev) (e : SagrEntry) (h : intakeFlds ++ [F.SAGR_CNT_C3, F.SAGR_ESCCNT_CNT] ⊆ κ.flds) :
    (Dev.sagrLost n d e).view κ = d.view κ := by
  simp only [List.append_subset, List.cons_subset] at h
  induction n generalizing d e with
  | zero => rfl
  | succ k ih =>
    unfold Dev.sagrLost
    extract_lets d0 merged d1 x d2
    have h0 : d0.view κ = d.view κ := by simp [h, d0]
    have h1 : d1.view κ = d0.view κ := by simp [h, d1]
    have h2 : d2.view κ = d1.view κ := by simp [d2]
    split
    · simp [h1, h0]
    split
    · simp [h1, h0]
    split
    · split <;> simp [h2, h1, h0, ih]
    split
    · simp [h1, h0]
    split <;> simp [h1, h0, ih]

@[simp] theorem Dev.view_sagrPlace (d : Dev) (e : SagrEntry) (h : intakeFlds ++ [F.SAGR_CNT_C3, F.SAGR_ESCCNT_CNT] ⊆ κ.flds) :
    (d.sagrPlace e).view κ = d.view κ := by
  simp only [List.append_subset, List.cons_subset] at h
  unfold Dev.sagrPlace
  split <;> simp [h]

/-- What a report to Saggar writes. -/
def sagrReportFlds : List Fld := [F.COM_STAT_FAULT, F.SAGR_CNT0_C0, F.SAGR_CNT_C1, F.SAGR_CNT_C2, F.SAGR_CNT_C3, F.SAGR_CUR_SEQ_SEQ, F.SAGR_ESCCNT_CNT,
  F.SAGR_QGEN_GEN, F.SAGR_STATE_BUSY, F.SAGR_STATE_CLS, F.SAGR_STATE_DEGR, F.SAGR_STATE_QLEN, F.SAGR_STATE_SAFE, F.SAGR_STATE_STOP, F.SHRD_FIFO_LVL,
  F.SHRD_FIFO_MAXLVL, F.SHRD_LOST_CNT]

theorem sagrReportFlds_subset {l : List Fld} : sagrReportFlds ⊆ l ↔ [F.COM_STAT_FAULT, F.SAGR_CNT0_C0, F.SAGR_CNT_C1, F.SAGR_CNT_C2, F.SAGR_CNT_C3,
    F.SAGR_CUR_SEQ_SEQ, F.SAGR_ESCCNT_CNT, F.SAGR_QGEN_GEN, F.SAGR_STATE_BUSY, F.SAGR_STATE_CLS, F.SAGR_STATE_DEGR, F.SAGR_STATE_QLEN, F.SAGR_STATE_SAFE,
    F.SAGR_STATE_STOP, F.SHRD_FIFO_LVL, F.SHRD_FIFO_MAXLVL, F.SHRD_LOST_CNT] ⊆ l := by
  rw [sagrReportFlds]

@[simp] theorem Dev.view_sagrReport (d : Dev) (time : Int) (src cls code errw : Nat) (pay : List Nat) (h : sagrReportFlds ⊆ κ.flds) :
    (d.sagrReport time src cls code errw pay).view κ = d.view κ := by
  simp only [sagrReportFlds_subset, List.cons_subset] at h
  unfold Dev.sagrReport
  repeat' split
  all_goals simp [h, intakeFlds_subset]

@[simp] theorem Dev.view_takeReport (d : Dev) (r : Report) (h : sagrReportFlds ⊆ κ.flds) : (d.takeReport r).view κ = d.view κ := by
  simp only [sagrReportFlds_subset, List.cons_subset] at h
  simp [Dev.takeReport, h, sagrReportFlds_subset, intakeFlds_subset]

@[simp] theorem Dev.view_errorReport (d : Dev) (h : sagrReportFlds ⊆ κ.flds) : d.errorReport.view κ = d.view κ := by
  unfold Dev.errorReport
  split <;> simp [h]

@[simp] theorem Dev.view_sagrAck (d : Dev) (seq : Nat) (h : [F.COM_STAT_FAULT, F.SAGR_CUR_SEQ_SEQ, F.SAGR_QGEN_GEN, F.SAGR_STATE_BUSY, F.SAGR_STATE_CLS,
      F.SAGR_STATE_DEGR, F.SAGR_STATE_QLEN, F.SAGR_STATE_SAFE, F.SAGR_STATE_STOP] ⊆ κ.flds) :
    (d.sagrAck seq).view κ = d.view κ := by
  simp only [List.cons_subset] at h
  simp only [Dev.sagrAck]
  repeat' split
  all_goals simp [h]

@[simp] theorem kept_execSagrAck (a : Acc) (seq : BitVec 32) (s : State) (h : [F.COM_STAT_FAULT, F.SAGR_CUR_SEQ_SEQ, F.SAGR_QGEN_GEN, F.SAGR_STATE_BUSY,
      F.SAGR_STATE_CLS, F.SAGR_STATE_DEGR, F.SAGR_STATE_QLEN, F.SAGR_STATE_SAFE, F.SAGR_STATE_STOP] ⊆ κ.flds) :
    Kept κ s (execSagrAck a seq s) := by
  simp only [List.cons_subset] at h
  simp [execSagrAck, h]

@[simp] theorem kept_execSagrRaise (a : Acc) (cls : Fin 4) (code : BitVec 16) (s : State) (h : [F.COM_STAT_FAULT, F.SAGR_CNT0_C0, F.SAGR_CNT_C1,
      F.SAGR_CNT_C2, F.SAGR_CNT_C3, F.SAGR_CUR_SEQ_SEQ, F.SAGR_ESCCNT_CNT, F.SAGR_QGEN_GEN, F.SAGR_STATE_BUSY, F.SAGR_STATE_CLS, F.SAGR_STATE_DEGR,
      F.SAGR_STATE_QLEN, F.SAGR_STATE_SAFE, F.SAGR_STATE_STOP, F.SHRD_FIFO_LVL, F.SHRD_FIFO_MAXLVL, F.SHRD_LOST_CNT] ⊆ κ.flds) :
    Kept κ s (execSagrRaise a cls code s) := by
  simp only [List.cons_subset] at h
  simp [execSagrRaise, h, sagrReportFlds_subset]

@[simp] theorem Dev.view_logNext (d : Dev) (rec_ : Bool) (seq : Nat) (h : [F.SHRD_HEAD_NEXT, F.SHRD_KEEPSEQ_SEQ, F.SHRD_KEEP_COUNT, F.SHRD_KEEP_FULL] ⊆
      κ.flds) :
    (d.logNext rec_ seq).view κ = d.view κ := by
  simp only [List.cons_subset] at h
  simp +decide [Dev.logNext, h]

@[simp] theorem State.view_recordWrite (s : State) (ok1 ok2 : Bool) (h : [F.COM_STAT_FAULT, F.SHRD_BAD_CNT, F.SHRD_FIFO_LVL, F.SHRD_HEADSEQ_SEQ,
      F.SHRD_HEAD_NEXT, F.SHRD_KEEPSEQ_SEQ, F.SHRD_KEEP_COUNT, F.SHRD_KEEP_FULL] ⊆ κ.flds) (hl : κ.log = true) :
    (s.recordWrite ok1 ok2).view κ = s.view κ := by
  simp only [List.cons_subset] at h
  unfold State.recordWrite
  split <;> simp +decide [h, hl]

@[simp] theorem kept_execRecordWrite (ok1 ok2 : Bool) (s : State) (h : [F.COM_STAT_FAULT, F.SHRD_BAD_CNT, F.SHRD_FIFO_LVL, F.SHRD_HEADSEQ_SEQ,
      F.SHRD_HEAD_NEXT, F.SHRD_KEEPSEQ_SEQ, F.SHRD_KEEP_COUNT, F.SHRD_KEEP_FULL] ⊆ κ.flds) (hl : κ.log = true) :
    Kept κ s (execRecordWrite ok1 ok2 s) := by
  simp only [List.cons_subset] at h
  simp [execRecordWrite, h, hl]

@[simp] theorem Dev.view_shrdReply (d : Dev) (ctl : Bool) (op tag st word : Nat) (rec_ : List Nat) (h : clrFlds ⊆ κ.flds) :
    (d.shrdReply ctl op tag st word rec_).view κ = d.view κ := by
  simp [Dev.shrdReply, h]

@[simp] theorem Dev.view_shrdLog (d : Dev) (ctl : Bool) (h : [F.CLR_HDR_GEN, F.CLR_HDR_LIVE, F.CLR_HDR_SEQ, F.CLR_HDR_STALE, F.CLR_HDR_WDRN,
      F.CLR_SLOT_STAT_AGE, F.CLR_VIOL_KIND, F.CLR_VIOL_PLANE, F.CLR_VIOL_SLOT, F.CLR_VIOL_VALID, F.COM_STAT_FAULT, F.SAGR_CNT0_C0, F.SAGR_CNT_C1,
      F.SAGR_CNT_C2, F.SAGR_CNT_C3, F.SAGR_CUR_SEQ_SEQ, F.SAGR_ESCCNT_CNT, F.SAGR_QGEN_GEN, F.SAGR_STATE_BUSY, F.SAGR_STATE_CLS, F.SAGR_STATE_DEGR,
      F.SAGR_STATE_QLEN, F.SAGR_STATE_SAFE, F.SAGR_STATE_STOP, F.SHRD_FIFO_LVL, F.SHRD_FIFO_MAXLVL, F.SHRD_LOST_CNT] ⊆ κ.flds) :
    (d.shrdLog ctl).view κ = d.view κ := by
  simp only [List.cons_subset] at h
  simp [Dev.shrdLog, h, clrFlds_subset, intakeFlds_subset, sagrReportFlds_subset]

@[simp] theorem State.view_shrdRead (s : State) (ctl : Bool) (h : clrFlds ⊆ κ.flds) : (s.shrdRead ctl).view κ = s.view κ := by
  simp [State.shrdRead, h]

@[simp] theorem kept_execShrdRead (ctl : Bool) (s : State) (h : [F.CLR_HDR_GEN, F.CLR_HDR_LIVE, F.CLR_HDR_SEQ, F.CLR_HDR_STALE, F.CLR_HDR_WDRN,
      F.CLR_SLOT_STAT_AGE, F.CLR_VIOL_KIND, F.CLR_VIOL_PLANE, F.CLR_VIOL_SLOT, F.CLR_VIOL_VALID] ⊆ κ.flds) :
    Kept κ s (execShrdRead ctl s) := by
  simp only [List.cons_subset] at h
  simp [execShrdRead, h, clrFlds_subset]

@[simp] theorem Dev.view_shrdBad (d : Dev) (ctl : Bool) (h : clrFlds ⊆ κ.flds) : (d.shrdBad ctl).view κ = d.view κ := by
  simp [Dev.shrdBad, h]

end Sys2Proof.Machine
end

section
/-! ### WHL: sample instants, the order gate, the control law, outputs and stamps -/

namespace Sys2Proof.Machine

variable {κ : Scope}

@[simp] theorem Dev.view_lpStart (d : Dev) (k : Nat) (h : F.WHL_LP_I_I ∈ κ.flds) : (d.lpStart k).view κ = d.view κ := by
  simp +decide [Dev.lpStart, h]

@[simp] theorem Dev.view_whlFault (d : Dev) (h : F.COM_STAT_FAULT ∈ κ.flds) : d.whlFault.view κ = d.view κ := by
  simp [Dev.whlFault, h]

@[simp] theorem Dev.view_lpStop (d : Dev) (k : Nat) (h : [F.COM_STAT_FAULT, F.WHL_LP_STAT_STATE] ⊆ κ.flds) : (d.lpStop k).view κ = d.view κ := by
  simp only [List.cons_subset] at h
  simp +decide [Dev.lpStop, h]

@[simp] theorem Dev.view_setOwn (d : Dev) (b : Nat) (v : Bool) (h : F.WHL_OWN_OWN ∈ κ.flds) : (d.setOwn b v).view κ = d.view κ := by
  simp [Dev.setOwn, h]

@[simp] theorem Dev.view_lpDrive (d : Dev) (k : Nat) (us : Int) (h : solSyncFlds ++ lswOnFlds ⊆ κ.flds) : (d.lpDrive k us).view κ = d.view κ := by
  simp only [List.append_subset] at h
  unfold Dev.lpDrive
  split <;> simp +decide [h]

@[simp] theorem Dev.view_lpMail (d : Dev) (k : Nat) (us : Int) (h : [F.BUF_CTRL_ATT, F.BUF_CTRL_RESULT, F.BUF_CTRL_TXREQ, F.BUS_CH_EVT_EVT, F.BUS_MEM_WORD,
      F.WHL_LP_CAN_CANFAIL, F.WHL_LP_CAN_CANSKIP] ⊆ κ.flds) :
    (d.lpMail k us).view κ = d.view κ := by
  simp only [List.cons_subset] at h
  simp [Dev.lpMail, h]

@[simp] theorem Dev.view_lpRelease (d : Dev) (k : Nat) (h : solSyncFlds ++ lswOnFlds ++ [F.WHL_OWN_OWN] ⊆ κ.flds) : (d.lpRelease k).view κ = d.view κ := by
  simp only [List.append_subset, List.cons_subset] at h
  unfold Dev.lpRelease
  split <;> simp +decide [h]

@[simp] theorem Dev.view_lpEnd (d : Dev) (k : Nat) (h : solSyncFlds ++ lswOnFlds ++ [F.BUF_CTRL_ATT, F.BUF_CTRL_RESULT, F.BUF_CTRL_TXREQ, F.BUS_CH_EVT_EVT,
      F.BUS_MEM_WORD, F.WHL_LP_CAN_CANFAIL, F.WHL_LP_CAN_CANSKIP, F.WHL_OWN_OWN] ⊆ κ.flds) :
    (d.lpEnd k).view κ = d.view κ := by
  simp only [List.append_subset, List.cons_subset] at h
  simp +decide [Dev.lpEnd, h]

@[simp] theorem Dev.view_lpTake (d : Dev) (k : Nat) (h : solSyncFlds ++ lswOnFlds ++ [F.BUF_CTRL_ATT, F.BUF_CTRL_RESULT, F.BUF_CTRL_TXREQ, F.BUS_CH_EVT_EVT,
      F.BUS_MEM_WORD, F.WHL_LP_CAN_CANFAIL, F.WHL_LP_CAN_CANSKIP, F.WHL_LP_STAT_STATE, F.WHL_OWN_OWN] ⊆ κ.flds) :
    (d.lpTake k).view κ = d.view κ := by
  simp only [solSyncFlds_subset, lswOnFlds_subset, List.append_subset, List.cons_subset] at h
  simp only [Dev.lpTake]
  repeat' split
  all_goals simp +decide [h, solSyncFlds_subset, lswOnFlds_subset]

@[simp] theorem Dev.view_lpLatchIn (d : Dev) (k j kind id : Nat) (x : Option (BitVec 32)) (h : F.SOL_CH_IMEAS_IMEAS ∈ κ.flds) :
    (d.lpLatchIn k j kind id x).view κ = d.view κ := by
  unfold Dev.lpLatchIn
  repeat' split
  all_goals simp +decide [h]

@[simp] theorem Dev.view_lpSample (d : Dev) (k : Nat) (x : LoopIn) (h : [F.BUF_CTRL_ATT, F.BUF_CTRL_RESULT, F.BUF_CTRL_TXREQ, F.BUS_CH_EVT_EVT,
      F.BUS_MEM_WORD, F.COM_STAT_FAULT, F.LSW_CH_FLAGS_CRANKBLK, F.LSW_CH_IMEAS_I, F.LSW_CH_STAT_CAUSE, F.LSW_CH_STAT_FAULT, F.LSW_CH_STAT_STATE,
      F.SOL_BANK_STAT_BANK, F.SOL_CH_FLAGS_DEFER, F.SOL_CH_FLAGS_NOKINK, F.SOL_CH_FLAGS_OFFDEF, F.SOL_CH_FLAGS_OFFREJ, F.SOL_CH_FLAGS_UVDROP,
      F.SOL_CH_IMEAS_IMEAS, F.SOL_CH_STAT_FAULT, F.SOL_CH_STAT_PHASE, F.SOL_EV_FLAGS_FLAGS, F.SOL_EV_SEQ_SEQ, F.SOL_EV_TIME_KINK, F.SOL_EV_TSTART_T,
      F.SOL_Q_STAT_COUNT, F.WHL_LP_CAN_CANFAIL, F.WHL_LP_CAN_CANSKIP, F.WHL_LP_STAT_STATE, F.WHL_OWN_OWN] ⊆ κ.flds) :
    (d.lpSample k x).view κ = d.view κ := by
  simp only [List.cons_subset] at h
  unfold Dev.lpSample
  extract_lets t at_ d1 d2 d3 d4 pk d5 d6 d7 d8 ix d9 d10 d11 l
  have h1 : d1.view κ = d.view κ := by simp +decide [h, solSyncFlds_subset, lswOnFlds_subset, d1]
  have h2 : d2.view κ = d1.view κ := by simp +decide [d2]
  have h3 : d3.view κ = d2.view κ := by simp +decide [h, solSyncFlds_subset, lswOnFlds_subset, d3]
  have h4 : d4.view κ = d3.view κ := by simp +decide [h, d4]
  have h5 : d8.view κ = d4.view κ := by simp +decide [h, d8, d7, d6, d5]
  have h6 : d10.view κ = d8.view κ := by simp +decide [h, d10, d9]
  have h7 : d11.view κ = d10.view κ := by simp +decide [d11]
  split
  · rfl
  split
  · simp +decide [h1]
  split
  · simp +decide [h1, h2, h3]
  · rw [Dev.view_setVar (by decide), h7, h6, h5, h4, h3, h2, h1]

@[simp] theorem Dev.view_canRead (d : Dev) (c b : Nat) (h : [F.BUF_CTRL_NDAT, F.BUS_CH_NDAT_NDAT] ⊆ κ.flds) : (d.canRead c b).view κ = d.view κ := by
  simp only [List.cons_subset] at h
  simp +decide [Dev.canRead, h]

@[simp] theorem Dev.view_canField (d : Dev) (c b byte : Nat) (w32 : Bool) (msgt : Nat) (h : [F.BUF_CTRL_NDAT, F.BUS_CH_NDAT_NDAT] ⊆ κ.flds) :
    (d.canField c b byte w32 msgt).1.view κ = d.view κ := by
  simp only [List.cons_subset] at h
  simp only [Dev.canField]
  split <;> simp [h]

@[simp] theorem Dev.view_portRaw (d : Dev) (k n : Nat) (h : [F.BUF_CTRL_NDAT, F.BUS_CH_NDAT_NDAT] ⊆ κ.flds) : (d.portRaw k n).1.view κ = d.view κ := by
  simp only [List.cons_subset] at h
  simp only [Dev.portRaw]
  repeat' split
  all_goals simp [h]

@[simp] theorem Dev.view_portEval (d : Dev) (k n : Nat) (h : [F.BUF_CTRL_NDAT, F.BUS_CH_NDAT_NDAT, F.PORT_STAT_GUARDED, F.PORT_STAT_HELD, F.PORT_STAT_LAPSED,
      F.PORT_STAT_PRES, F.PORT_STAT_WDRN, F.PORT_VAL_VAL] ⊆ κ.flds) :
    (d.portEval k n).1.view κ = d.view κ := by
  simp only [List.cons_subset] at h
  simp only [Dev.portEval]
  repeat' split
  all_goals simp [h]

@[simp] theorem Dev.view_feedback (d : Dev) (k : Nat) (h : [F.BUF_CTRL_NDAT, F.BUS_CH_NDAT_NDAT] ⊆ κ.flds) : (d.feedback k).1.view κ = d.view κ := by
  simp only [List.cons_subset] at h
  simp only [Dev.feedback]
  repeat' split
  all_goals simp [h]

@[simp] theorem Dev.view_conflict (d : Dev) (k : Nat) (w : Order) (l : List Order) (h : [F.WHL_LP_CONF_CNT, F.WHL_LP_CONF_SUPP] ⊆ κ.flds) :
    (d.conflict k w l).view κ = d.view κ := by
  simp only [List.cons_subset] at h
  simp only [Dev.conflict]
  split <;> simp +decide [h]

@[simp] theorem Dev.view_lpState (d : Dev) (k st : Nat) (h : [F.COM_STAT_FAULT, F.WHL_LP_STAT_STATE] ⊆ κ.flds) : (d.lpState k st).view κ = d.view κ := by
  simp only [List.cons_subset] at h
  unfold Dev.lpState
  repeat' split
  all_goals simp [h]

@[simp] theorem Dev.view_lpStamp (d : Dev) (k : Nat) (o : Int) (h : clrFlds ++ [F.WHL_LP_DLY_DLY, F.WHL_LP_DLY_DMAX, F.WHL_LP_LATCH_T, F.WHL_LP_OSTAMP_T] ⊆
      κ.flds) :
    (d.lpStamp k o).view κ = d.view κ := by
  simp only [List.append_subset, List.cons_subset] at h
  simp [Dev.lpStamp, h]

@[simp] theorem Dev.view_laneServe (d : Dev) (k cost : Nat) (h : [F.WHL_LANE_QMAX0, F.WHL_LANE_QMAX1] ⊆ κ.flds) :
    (d.laneServe k cost).1.view κ = d.view κ := by
  simp only [List.cons_subset] at h
  simp only [Dev.laneServe]
  split <;> simp +decide [h]

@[simp] theorem Dev.view_cmdKeep (d : Dev) (k : Nat) (w : Option Order) : (d.cmdKeep k w).view κ = d.view κ := by
  unfold Dev.cmdKeep
  split <;> simp +decide

@[simp] theorem Dev.view_lpEval (d : Dev) (k : Nat) (h : [F.BUF_CTRL_ATT, F.BUF_CTRL_NDAT, F.BUF_CTRL_RESULT, F.BUF_CTRL_TXREQ, F.BUS_CH_EVT_EVT,
      F.BUS_CH_NDAT_NDAT, F.BUS_MEM_WORD, F.CLR_HDR_GEN, F.CLR_HDR_LIVE, F.CLR_HDR_SEQ, F.CLR_HDR_STALE, F.CLR_HDR_WDRN, F.CLR_SLOT_STAT_AGE, F.CLR_VIOL_KIND,
      F.CLR_VIOL_PLANE, F.CLR_VIOL_SLOT, F.CLR_VIOL_VALID, F.COM_STAT_FAULT, F.PORT_STAT_GUARDED, F.PORT_STAT_HELD, F.PORT_STAT_LAPSED, F.PORT_STAT_PRES,
      F.PORT_STAT_WDRN, F.PORT_VAL_VAL, F.WHL_LANE_QMAX0, F.WHL_LANE_QMAX1, F.WHL_LP_CAN_CANFAIL, F.WHL_LP_CAN_CANSKIP, F.WHL_LP_CONF_CNT, F.WHL_LP_CONF_SUPP,
      F.WHL_LP_DLY_DLY, F.WHL_LP_DLY_DMAX, F.WHL_LP_I_I, F.WHL_LP_LATCH_T, F.WHL_LP_OSTAMP_T, F.WHL_LP_R_VAL, F.WHL_LP_STAT_ACT, F.WHL_LP_STAT_CONFLICT,
      F.WHL_LP_STAT_PEND, F.WHL_LP_STAT_SAT, F.WHL_LP_STAT_STATE, F.WHL_LP_STAT_WPORT, F.WHL_LP_STAT_WRANK, F.WHL_LP_STAT_XWDRN, F.WHL_LP_U_VAL,
      F.WHL_LP_X_VAL, F.WHL_LP_Y_VAL] ⊆ κ.flds) :
    (d.lpEval k).view κ = d.view κ := by
  simp only [List.cons_subset] at h
  unfold Dev.lpEval
  split
  · rfl
  extract_lets d1 prev
  have h1 : d1.view κ = d.view κ := by simp +decide [d1]
  split
  next d2 yo e2 =>
  have h2 : d2.view κ = d1.view κ := by simp +decide [h, Dev.view_of_eq e2]
  split
  next x xw _ =>
  split
  next d3 o0 e3 =>
  have h3 : d3.view κ = d2.view κ := by simp +decide [h, Dev.view_of_eq e3]
  split
  next d4 o1 e4 =>
  have h4 : d4.view κ = d3.view κ := by simp +decide [h, Dev.view_of_eq e4]
  split
  next d5 o2 e5 =>
  have h5 : d5.view κ = d4.view κ := by simp +decide [h, Dev.view_of_eq e5]
  split
  next d6 o3 e6 =>
  have h6 : d6.view κ = d5.view κ := by simp +decide [h, Dev.view_of_eq e6]
  clear e2 e3 e4 e5 e6
  extract_lets y safesp fb cands w st swap bOld d7 c direct idles runs bump
  have h7 : d7.view κ = d6.view κ := by simp +decide [h, d7]
  clear_value bump runs idles direct c d7 bOld swap st w cands fb safesp y
  split
  next d8 fin e8 =>
  have h8 : d8.view κ = d7.view κ := by simp +decide [h, Dev.view_of_eq e8]
  split
  next d9 u us e9 =>
  have h9 : d9.view κ = d8.view κ := by
    rw [Dev.view_of_eq e9]
    clear e9
    split
    · extract_lets v da restart first rl rl' r dr db
      have ha : da.view κ = d8.view κ := by simp +decide [da]
      clear_value dr r rl' rl first restart da
      have hb : db.view κ = da.view κ := by simp +decide [h, db]
      split <;> simp +decide [h, hb, ha]
    · simp +decide [h]
  clear e8 e9
  extract_lets d10 d11 conf d12 fl d13 d14 d15 d16 rel up late
  have h10 : d10.view κ = d9.view κ := by simp +decide [h, d10]
  have h11 : d11.view κ = d10.view κ := by unfold d11; split <;> simp +decide [h]
  clear_value d11 d10 conf
  have h12 : d12.view κ = d11.view κ := by simp +decide [h, d12]
  clear_value d12
  have h13 : d13.view κ = d12.view κ := by simp +decide [h, d13]
  clear_value d13
  have h14 : d14.view κ = d13.view κ := by simp +decide [h, d14]
  have h15 : d15.view κ = d14.view κ := by simp +decide [h, d15]
  have h16 : d16.view κ = d15.view κ := by simp +decide [h, d16]
  clear_value late up rel d16 d15
  have hv : d15.view κ = d.view κ := by rw [h15, h14, h13, h12, h11, h10, h9, h8, h7, h6, h5, h4, h3, h2, h1]
  split
  · simp +decide [h, clrFlds_subset, h16, hv]
  · simp +decide [hv]

@[simp] theorem Dev.view_lpApply (d : Dev) (k : Nat) (h : [F.CLR_HDR_GEN, F.CLR_HDR_LIVE, F.CLR_HDR_SEQ, F.CLR_HDR_STALE, F.CLR_HDR_WDRN, F.CLR_SLOT_STAT_AGE,
      F.CLR_VIOL_KIND, F.CLR_VIOL_PLANE, F.CLR_VIOL_SLOT, F.CLR_VIOL_VALID, F.COM_STAT_FAULT, F.LSW_CH_FLAGS_CRANKBLK, F.LSW_CH_IMEAS_I, F.LSW_CH_STAT_CAUSE,
      F.LSW_CH_STAT_FAULT, F.LSW_CH_STAT_STATE, F.SOL_BANK_STAT_BANK, F.SOL_CH_FLAGS_DEFER, F.SOL_CH_FLAGS_NOKINK, F.SOL_CH_FLAGS_OFFDEF,
      F.SOL_CH_FLAGS_OFFREJ, F.SOL_CH_FLAGS_UVDROP, F.SOL_CH_STAT_FAULT, F.SOL_CH_STAT_PHASE, F.SOL_EV_FLAGS_FLAGS, F.SOL_EV_SEQ_SEQ, F.SOL_EV_TIME_KINK,
      F.SOL_EV_TSTART_T, F.SOL_Q_STAT_COUNT, F.WHL_LP_DLY_DLY, F.WHL_LP_DLY_DMAX, F.WHL_LP_LATCH_T, F.WHL_LP_OSTAMP_T] ⊆ κ.flds) :
    (d.lpApply k).view κ = d.view κ := by
  simp only [List.cons_subset] at h
  simp +decide [Dev.lpApply, h, clrFlds_subset, solSyncFlds_subset, lswOnFlds_subset]

@[simp] theorem kept_execLoopEnable (a : Acc) (s : State) (h : [F.WHL_LP_CFG_EN, F.WHL_LP_I_I] ⊆ κ.flds) : Kept κ s (execLoopEnable a s) := by
  simp only [List.cons_subset] at h
  simp +decide [execLoopEnable, h]

@[simp] theorem kept_execLoopDisable (a : Acc) (s : State) (h : [F.COM_STAT_FAULT, F.WHL_LP_CFG_EN, F.WHL_LP_STAT_STATE] ⊆ κ.flds) :
    Kept κ s (execLoopDisable a s) := by
  simp only [List.cons_subset] at h
  simp [execLoopDisable, h]

@[simp] theorem kept_execCoeffSwap (a : Acc) (s : State) (h : F.WHL_LP_STAT_PEND ∈ κ.flds) : Kept κ s (execCoeffSwap a s) := by
  simp [execCoeffSwap, h]

@[simp] theorem kept_execSwapMaskWrite (a : Acc) (m : BitVec 64) (s : State) (h : F.WHL_LP_STAT_PEND ∈ κ.flds) : Kept κ s (execSwapMaskWrite a m s) := by
  simp only [execSwapMaskWrite, kept_upd]
  exact Dev.view_wr _ _ _ _ _ _ fun d => Dev.view_each _ _ _ fun k e => by simp [h]

@[simp] theorem kept_execLoopClearStats (a : Acc) (s : State) (h : [F.WHL_LP_CAN_CANFAIL, F.WHL_LP_CAN_CANSKIP, F.WHL_LP_CONF_CNT, F.WHL_LP_CONF_SUPP,
      F.WHL_LP_DLY_DMAX] ⊆ κ.flds) :
    Kept κ s (execLoopClearStats a s) := by
  simp only [List.cons_subset] at h
  simp [execLoopClearStats, h]

@[simp] theorem kept_execLaneClear (a : Acc) (s : State) (h : [F.WHL_LANE_QMAX0, F.WHL_LANE_QMAX1] ⊆ κ.flds) : Kept κ s (execLaneClear a s) := by
  simp only [List.cons_subset] at h
  simp [execLaneClear, h]

@[simp] theorem kept_execTableEntryWrite (a : Acc) (cog : Bool) (i : Fin 1024) (v : BitVec 32) (s : State) (h : [F.WHL_COG_VAL, F.WHL_FRI_VAL] ⊆ κ.flds) :
    Kept κ s (execTableEntryWrite a cog i v s) := by
  simp only [List.cons_subset] at h
  unfold execTableEntryWrite
  split <;> simp [h]

@[simp] theorem kept_execPortEnable (a : Acc) (n : Fin 4) (en : Bool) (s : State) (h : F.PORT_CFG_EN ∈ κ.flds) : Kept κ s (execPortEnable a n en s) := by
  simp [execPortEnable, h]

end Sys2Proof.Machine
end

section
/-! ### What a reset of a plane or of a block takes away and what it leaves -/

namespace Sys2Proof.Machine

variable {κ : Scope}

@[simp] theorem Dev.view_memShow (d : Dev) (h : [F.COM_STAT_FAULT, F.MEM_DRAM_SELFREF, F.MEM_DRAM_TRAINED] ⊆ κ.flds) : d.memShow.view κ = d.view κ := by
  simp only [List.cons_subset] at h
  simp [Dev.memShow, h]

@[simp] theorem Dev.view_dramLose (d : Dev) (h : [F.COM_STAT_FAULT, F.MEM_DRAM_SELFREF, F.MEM_DRAM_TRAINED] ⊆ κ.flds) : d.dramLose.view κ = d.view κ := by
  simp only [List.cons_subset] at h
  have hv : ({ d with vars := d.vars.filter (fun e => e.1.1 != V.poison.id) } : Dev).view κ = d.view κ :=
    Dev.view_filter d _ (fun v => by simp +decide) ..
  exact (Dev.view_memShow _ (by simp [-Dev.each_cons, h])).trans ((Dev.view_setVar (by decide) _ _ _).trans ((Dev.view_setVar (by decide) _ _ _).trans hv))

@[simp] theorem State.view_updMem (s : State) (f : Dev → Dev) (hm : κ.mem = true) (hk : ∀ e, (f e).view κ = e.view κ) : (s.updMem f).view κ = s.view κ := by
  simp +decide [State.updMem, hm, hk]

end Sys2Proof.Machine
end

section
/-! ### The power ladder, the modes and the course of Kiln requests, which hold each other -/

namespace Sys2Proof.Machine

variable {κ : Scope}

@[simp] theorem Dev.view_errDirect (d : Dev) (slot bcode cls : Nat) (h : intakeFlds ⊆ κ.flds) : (d.errDirect slot bcode cls).view κ = d.view κ := by
  simp [Dev.errDirect, h]

@[simp] theorem Dev.view_pwrReply (d : Dev) (ctl : Bool) (op tag st cause : Nat) (h : clrFlds ⊆ κ.flds) :
    (d.pwrReply ctl op tag st cause).view κ = d.view κ := by
  simp [Dev.pwrReply, h]

@[simp] theorem Dev.view_pwrNotice (d : Dev) (ctl : Bool) (st : Nat) (h : clrFlds ⊆ κ.flds) : (d.pwrNotice ctl st).view κ = d.view κ := by
  simp [Dev.pwrNotice, h]

@[simp] theorem Dev.view_deepEnter (d : Dev) (h : [F.PWR_WAKE_CFG_CANACT, F.PWR_WAKE_CFG_CANEN, F.PWR_WAKE_CFG_RIDEACT, F.PWR_WAKE_CFG_RIDEEN,
      F.PWR_WAKE_CFG_TMRACT, F.PWR_WAKE_CFG_TMREN, F.TIME_STATE_STEPPEND, F.TRIG_CFG_EN, F.TRIG_STAT_ARMED] ⊆ κ.flds) :
    d.deepEnter.view κ = d.view κ := by
  simp only [List.cons_subset] at h
  unfold Dev.deepEnter
  refine (Dev.view_each _ _ _ fun n a => ?_).trans ((Dev.view_each _ _ _ fun c a => Dev.view_each _ _ _ fun n b => ?_).trans ?_)
  · simp +decide
  · simp +decide
  · simp +decide [h]

@[simp] theorem Dev.view_deepLeave (d : Dev) (h : holdoverFlds ⊆ κ.flds) : d.deepLeave.view κ = d.view κ := by
  simp only [holdoverFlds_subset, List.cons_subset] at h
  simp +decide [Dev.deepLeave, h]

/-- What a step of the power ladder writes. -/
def ladderFlds : List Fld := [F.COM_STAT_FAULT, F.MEM_DRAM_SELFREF, F.MEM_DRAM_TRAINED, F.PWR_MODE_LADDER, F.PWR_WAKE_CFG_CANACT, F.PWR_WAKE_CFG_CANEN,
  F.PWR_WAKE_CFG_RIDEACT, F.PWR_WAKE_CFG_RIDEEN, F.PWR_WAKE_CFG_TMRACT, F.PWR_WAKE_CFG_TMREN, F.TIME_HOLDERR_ERRB, F.TIME_RATE_RATE, F.TIME_STATE_ST,
  F.TIME_STATE_STEPPEND, F.TRIG_CFG_EN, F.TRIG_STAT_ARMED]

theorem ladderFlds_subset {l : List Fld} : ladderFlds ⊆ l ↔ [F.COM_STAT_FAULT, F.MEM_DRAM_SELFREF, F.MEM_DRAM_TRAINED, F.PWR_MODE_LADDER,
    F.PWR_WAKE_CFG_CANACT, F.PWR_WAKE_CFG_CANEN, F.PWR_WAKE_CFG_RIDEACT, F.PWR_WAKE_CFG_RIDEEN, F.PWR_WAKE_CFG_TMRACT, F.PWR_WAKE_CFG_TMREN,
    F.TIME_HOLDERR_ERRB, F.TIME_RATE_RATE, F.TIME_STATE_ST, F.TIME_STATE_STEPPEND, F.TRIG_CFG_EN, F.TRIG_STAT_ARMED] ⊆ l := by
  rw [ladderFlds]

@[simp] theorem Dev.view_setLadder (d : Dev) (l : Nat) (h : ladderFlds ⊆ κ.flds) : (d.setLadder l).view κ = d.view κ := by
  simp only [ladderFlds_subset, List.cons_subset] at h
  simp +decide [Dev.setLadder, h, holdoverFlds_subset]

@[simp] theorem Dev.view_setMode (d : Dev) (m : Nat) (h : [F.FBRK_PR_STAT_TESTDONE, F.FBRK_TEST_PEND, F.PWR_MODE_MODE, F.PWR_MODE_PREV] ⊆ κ.flds) :
    (d.setMode m).view κ = d.view κ := by
  simp only [List.cons_subset] at h
  simp [Dev.setMode, h]

@[simp] theorem Dev.view_blockOff (d : Dev) (slot : Nat) (h : [F.COM_CTRL_EN, F.COM_STAT_CFGLOCK, F.COM_STAT_RUN] ⊆ κ.flds) :
    (d.blockOff slot).view κ = d.view κ := by
  simp only [List.cons_subset] at h
  simp [Dev.blockOff, h]

/-- What the quieting of the control plane writes. -/
def ctlQuietFlds : List Fld := [F.COM_CTRL_EN, F.COM_STAT_CFGLOCK, F.COM_STAT_FAULT, F.COM_STAT_RUN, F.FBRK_GRP_CNT_CUTS, F.FBRK_GRP_STAT_CUTA,
  F.FBRK_GRP_STAT_CUTB, F.FBRK_GRP_STAT_RBOK, F.FBRK_GRP_STAT_STATE, F.FBRK_PR_STAT_STATE, F.FBRK_REACT_LASTR, F.FBRK_REACT_MAXR, F.LSW_CH_FLAGS_CRANKBLK,
  F.LSW_CH_FLAGS_FBCUT, F.LSW_CH_IMEAS_I, F.LSW_CH_STAT_CAUSE, F.LSW_CH_STAT_FAULT, F.LSW_CH_STAT_STATE, F.SEG_STATE_PEND, F.SEG_STATE_ST,
  F.SOL_BANK_STAT_BANK, F.SOL_CH_FLAGS_DEFER, F.SOL_CH_FLAGS_FBCUT, F.SOL_CH_FLAGS_NOKINK, F.SOL_CH_FLAGS_OFFDEF, F.SOL_CH_FLAGS_OFFREJ,
  F.SOL_CH_FLAGS_UVDROP, F.SOL_CH_STAT_FAULT, F.SOL_CH_STAT_PHASE, F.SOL_EV_FLAGS_FLAGS, F.SOL_EV_SEQ_SEQ, F.SOL_EV_TIME_KINK, F.SOL_EV_TSTART_T,
  F.SOL_Q_STAT_COUNT, F.WHL_LP_STAT_STATE]

theorem ctlQuietFlds_subset {l : List Fld} : ctlQuietFlds ⊆ l ↔ [F.COM_CTRL_EN, F.COM_STAT_CFGLOCK, F.COM_STAT_FAULT, F.COM_STAT_RUN, F.FBRK_GRP_CNT_CUTS,
    F.FBRK_GRP_STAT_CUTA, F.FBRK_GRP_STAT_CUTB, F.FBRK_GRP_STAT_RBOK, F.FBRK_GRP_STAT_STATE, F.FBRK_PR_STAT_STATE, F.FBRK_REACT_LASTR, F.FBRK_REACT_MAXR,
    F.LSW_CH_FLAGS_CRANKBLK, F.LSW_CH_FLAGS_FBCUT, F.LSW_CH_IMEAS_I, F.LSW_CH_STAT_CAUSE, F.LSW_CH_STAT_FAULT, F.LSW_CH_STAT_STATE, F.SEG_STATE_PEND,
    F.SEG_STATE_ST, F.SOL_BANK_STAT_BANK, F.SOL_CH_FLAGS_DEFER, F.SOL_CH_FLAGS_FBCUT, F.SOL_CH_FLAGS_NOKINK, F.SOL_CH_FLAGS_OFFDEF, F.SOL_CH_FLAGS_OFFREJ,
    F.SOL_CH_FLAGS_UVDROP, F.SOL_CH_STAT_FAULT, F.SOL_CH_STAT_PHASE, F.SOL_EV_FLAGS_FLAGS, F.SOL_EV_SEQ_SEQ, F.SOL_EV_TIME_KINK, F.SOL_EV_TSTART_T,
    F.SOL_Q_STAT_COUNT, F.WHL_LP_STAT_STATE] ⊆ l := by
  rw [ctlQuietFlds]

@[simp] theorem Dev.view_ctlQuiet (d : Dev) (h : ctlQuietFlds ⊆ κ.flds) : d.ctlQuiet.view κ = d.view κ := by
  simp only [ctlQuietFlds_subset, List.cons_subset] at h
  simp [Dev.ctlQuiet, h, solPhaseFlds_subset, lswOnFlds_subset, solSyncFlds_subset]

@[simp] theorem Dev.view_pwrStop (d : Dev) (h : ctlQuietFlds ⊆ κ.flds) : d.pwrStop.view κ = d.view κ := by
  simp +decide [Dev.pwrStop, h]

end Sys2Proof.Machine
end

section
/-! ### GNRF and GNAQ: antenna bias, sample links, AGC, monitor and notches; acquisition engines -/

namespace Sys2Proof.Machine

variable {κ : Scope}

@[simp] theorem Dev.view_gnrfFault (d : Dev) (h : F.COM_STAT_FAULT ∈ κ.flds) : d.gnrfFault.view κ = d.view κ := by
  simp [Dev.gnrfFault, h]

@[simp] theorem Dev.view_antState (d : Dev) (i st : Nat) (h : [F.COM_STAT_FAULT, F.GNRF_ANT_STAT_STATE] ⊆ κ.flds) : (d.antState i st).view κ = d.view κ := by
  simp only [List.cons_subset] at h
  simp +decide [Dev.antState, h]

@[simp] theorem Dev.view_antShort (d : Dev) (i : Nat) (h : [F.COM_STAT_FAULT, F.GNRF_ANT_STAT_RETRYCNT, F.GNRF_ANT_STAT_STATE] ⊆ κ.flds) :
    (d.antShort i).view κ = d.view κ := by
  simp only [List.cons_subset] at h
  simp +decide [Dev.antShort, h]

@[simp] theorem Dev.view_antTo (d : Dev) (i st : Nat) (h : [F.COM_STAT_FAULT, F.GNRF_ANT_STAT_STATE] ⊆ κ.flds) : (d.antTo i st).view κ = d.view κ := by
  simp only [List.cons_subset] at h
  simp +decide [Dev.antTo, h]

@[simp] theorem Dev.view_antMeasure (d : Dev) (i ma : Nat) (limit volt : Bool) (h : [F.COM_STAT_FAULT, F.GNRF_ANT_STAT_IBIAS, F.GNRF_ANT_STAT_RETRYCNT,
      F.GNRF_ANT_STAT_STATE] ⊆ κ.flds) :
    (d.antMeasure i ma limit volt).view κ = d.view κ := by
  simp only [List.cons_subset] at h
  simp +decide [Dev.antMeasure, h]

@[simp] theorem Dev.view_antRetry (d : Dev) (i : Nat) : (d.antRetry i).view κ = d.view κ := by
  simp +decide [Dev.antRetry]

@[simp] theorem kept_execAntBiasWrite (a : Acc) (en : Bool) (s : State) (h : [F.COM_STAT_FAULT, F.GNRF_ANT_CFG_BIASEN, F.GNRF_ANT_STAT_STATE] ⊆ κ.flds) :
    Kept κ s (execAntBiasWrite a en s) := by
  simp only [List.cons_subset] at h
  simp only [execAntBiasWrite, kept_upd]
  refine Dev.view_wrCh _ _ _ _ _ _ fun i d => ?_
  split
  · rfl
  split
  · simp +decide [h]
  split <;> simp +decide [h]

@[simp] theorem Dev.view_rfLinkLoss (d : Dev) (c : Nat) (h : [F.COM_STAT_FAULT, F.ENT_CPH_BIN, F.ENT_CPH_CPH, F.ENT_PEAK_PEAK, F.ENT_RES_FLAGS,
      F.ENT_RES_RATIO, F.ENT_RES_STATUS, F.ENT_T0_T0, F.GNAQ_ENG_DONE_CNT, F.GNAQ_ENG_STAT_ENTRY, F.GNAQ_ENG_STAT_STATE, F.GNRF_ANT_STAT_STATE,
      F.GNRF_LINK_CALDONE, F.GNRF_LINK_LOCK, F.GNTK_CH_STAT_AMB, F.GNTK_CH_STAT_STATE] ⊆ κ.flds) :
    (d.rfLinkLoss c).view κ = d.view κ := by
  simp only [List.cons_subset] at h
  simp +decide [Dev.rfLinkLoss, h, acqEndFlds_subset]

@[simp] theorem Dev.view_rfLinkRelock (d : Dev) (c : Nat) (h : F.GNRF_LINK_LOCK ∈ κ.flds) : (d.rfLinkRelock c).view κ = d.view κ := by
  simp +decide [Dev.rfLinkRelock, h]

@[simp] theorem Dev.view_rfLinkCalibrated (d : Dev) (c : Nat) (h : [F.COM_STAT_FAULT, F.GNRF_ANT_STAT_STATE, F.GNRF_LINK_CALDONE] ⊆ κ.flds) :
    (d.rfLinkCalibrated c).view κ = d.view κ := by
  simp only [List.cons_subset] at h
  simp +decide [Dev.rfLinkCalibrated, h]

@[simp] theorem Dev.view_retuneEnd (d : Dev) (c : Nat) : (d.retuneEnd c).view κ = d.view κ := by
  simp only [Dev.retuneEnd]
  repeat' split
  all_goals simp +decide

@[simp] theorem Dev.view_agcUpdate (d : Dev) (m : List AgcIn) (errs : Nat) (h : [F.GNRF_AGC_STAT_GAIN, F.GNRF_AGC_STAT_RMS, F.GNRF_AGC_STAT_SATCNT,
      F.GNRF_LINKERR_CNT] ⊆ κ.flds) :
    (d.agcUpdate m errs).view κ = d.view κ := by
  simp only [List.cons_subset] at h
  simp +decide [Dev.agcUpdate, h]

@[simp] theorem Dev.view_notchTrack (d : Dev) (p n : Nat) (bins : List Int) (nf : Int) (h : F.GNRF_NOTCH_FNOW_FNOW ∈ κ.flds) :
    (d.notchTrack p n bins nf).view κ = d.view κ := by
  simp only [Dev.notchTrack]
  repeat' split
  all_goals simp +decide [h]

@[simp] theorem Dev.view_spectralScan (d : Dev) (p : Nat) (bins : List Int) (h : [F.GNRF_NOTCH_FNOW_FNOW, F.GNRF_SPEC_STAT_NF, F.GNRF_SPEC_STAT_PEAKDB] ⊆
      κ.flds) :
    (d.spectralScan p bins).view κ = d.view κ := by
  simp only [List.cons_subset] at h
  simp [Dev.spectralScan, h]

@[simp] theorem Dev.view_notchTake (d : Dev) (p n : Nat) (freq lvl : Int) (h : [F.GNRF_NOTCH_FNOW_FNOW, F.GNRF_NOTCH_STAT_ACTIVE, F.GNRF_NOTCH_STAT_ATTEN] ⊆
      κ.flds) :
    (d.notchTake p n freq lvl).view κ = d.view κ := by
  simp only [List.cons_subset] at h
  simp +decide [Dev.notchTake, h]

@[simp] theorem Dev.view_notchAssign (d : Dev) (p b : Nat) (h : [F.GNRF_NOTCH_FNOW_FNOW, F.GNRF_NOTCH_STAT_ACTIVE, F.GNRF_NOTCH_STAT_ATTEN] ⊆ κ.flds) :
    (d.notchAssign p b).view κ = d.view κ := by
  simp only [List.cons_subset] at h
  simp only [Dev.notchAssign]
  repeat' split
  all_goals simp [h]

@[simp] theorem Dev.view_notchRelease (d : Dev) (p n : Nat) (h : [F.GNRF_NOTCH_STAT_ACTIVE, F.GNRF_NOTCH_STAT_ATTEN] ⊆ κ.flds) :
    (d.notchRelease p n).view κ = d.view κ := by
  simp only [List.cons_subset] at h
  simp +decide [Dev.notchRelease, h]

@[simp] theorem kept_execPathDisable (a : Acc) (p : Fin 9) (s : State) (h : [F.ENT_CPH_BIN, F.ENT_CPH_CPH, F.ENT_PEAK_PEAK, F.ENT_RES_FLAGS, F.ENT_RES_RATIO,
      F.ENT_RES_STATUS, F.ENT_T0_T0, F.GNAQ_ENG_DONE_CNT, F.GNAQ_ENG_STAT_ENTRY, F.GNAQ_ENG_STAT_STATE, F.GNRF_PATH_CFG_EN, F.GNTK_CH_STAT_AMB,
      F.GNTK_CH_STAT_STATE] ⊆ κ.flds) :
    Kept κ s (execPathDisable a p s) := by
  simp only [List.cons_subset] at h
  simp +decide [execPathDisable, h, acqEndFlds_subset]

@[simp] theorem kept_execAcqGo (a : Acc) (s : State) (h : [F.GNAQ_ENG_DONE_CNT, F.GNAQ_ENG_STAT_ENTRY, F.GNAQ_ENG_STAT_STATE] ⊆ κ.flds) :
    Kept κ s (execAcqGo a s) := by
  simp only [List.cons_subset] at h
  simp +decide [execAcqGo, h]

@[simp] theorem kept_execAcqAbort (a : Acc) (s : State) (h : [F.ENT_CPH_BIN, F.ENT_CPH_CPH, F.ENT_PEAK_PEAK, F.ENT_RES_FLAGS, F.ENT_RES_RATIO,
      F.ENT_RES_STATUS, F.ENT_T0_T0, F.GNAQ_ENG_DONE_CNT, F.GNAQ_ENG_STAT_ENTRY, F.GNAQ_ENG_STAT_STATE] ⊆ κ.flds) :
    Kept κ s (execAcqAbort a s) := by
  simp only [List.cons_subset] at h
  simp +decide [execAcqAbort, h, acqEndFlds_subset]

@[simp] theorem Dev.view_acqEntryStart (d : Dev) (e : Nat) (h : [F.ENT_CPH_BIN, F.ENT_CPH_CPH, F.ENT_PEAK_PEAK, F.ENT_RES_FLAGS, F.ENT_RES_RATIO,
      F.ENT_RES_STATUS, F.ENT_T0_T0, F.GNAQ_ENG_DONE_CNT, F.GNAQ_ENG_STAT_BIN, F.GNAQ_ENG_STAT_ENTRY, F.GNAQ_ENG_STAT_STATE, F.GNAQ_ENG_STAT_WIN] ⊆ κ.flds) :
    (d.acqEntryStart e).view κ = d.view κ := by
  simp only [List.cons_subset] at h
  simp +decide [Dev.acqEntryStart, h, acqEndFlds_subset]

@[simp] theorem Dev.view_acqCaptureStart (d : Dev) (e : Nat) (h : acqEndFlds ⊆ κ.flds) : (d.acqCaptureStart e).view κ = d.view κ := by
  simp +decide [Dev.acqCaptureStart, h]

@[simp] theorem Dev.view_acqFault (d : Dev) (e : Nat) (h : acqEndFlds ⊆ κ.flds) : (d.acqFault e).view κ = d.view κ := by
  simp [Dev.acqFault, h]

@[simp] theorem State.view_acqCaptureEnd (s : State) (e : Nat) (l : List Byte) (h : acqEndFlds ++ iommuFaultFlds ⊆ κ.flds) (hm : κ.mem = true) :
    (s.acqCaptureEnd e l).view κ = s.view κ := by
  simp only [acqEndFlds_subset, iommuFaultFlds_subset, List.append_subset, List.cons_subset] at h
  simp only [State.acqCaptureEnd]
  split
  · rfl
  split
  all_goals next he => simp +decide [h, hm, iommuFaultFlds_subset, acqEndFlds_subset, State.view_of_eq he]

@[simp] theorem kept_execAcqCaptureEnd (e : Fin 3) (l : List Byte) (s : State) (h : [F.COM_STAT_FAULT, F.ENT_CPH_BIN, F.ENT_CPH_CPH, F.ENT_PEAK_PEAK,
      F.ENT_RES_FLAGS, F.ENT_RES_RATIO, F.ENT_RES_STATUS, F.ENT_T0_T0, F.GNAQ_ENG_DONE_CNT, F.GNAQ_ENG_STAT_ENTRY, F.GNAQ_ENG_STAT_STATE, F.IOMU_FQCSR_FQMF,
      F.IOMU_FQCSR_FQOF, F.IOMU_FQT_V, F.IOMU_IPSR_V] ⊆ κ.flds) (hm : κ.mem = true) :
    Kept κ s (execAcqCaptureEnd e l s) := by
  simp only [List.cons_subset] at h
  simp [execAcqCaptureEnd, h, hm, acqEndFlds_subset, iommuFaultFlds_subset]

@[simp] theorem Dev.view_acqDone (d : Dev) (e status : Nat) (h : acqEndFlds ⊆ κ.flds) : (d.acqDone e status).view κ = d.view κ := by
  simp [Dev.acqDone, h]

@[simp] theorem State.view_acqBinStep (s : State) (e : Nat) (h : acqEndFlds ++ iommuFaultFlds ++ [F.GNAQ_ENG_STAT_BIN, F.GNAQ_ENG_STAT_WIN] ⊆ κ.flds) (hm :
      κ.mem = true) :
    (s.acqBinStep e).view κ = s.view κ := by
  simp only [List.append_subset, List.cons_subset] at h
  unfold State.acqBinStep
  split
  · rfl
  split
  · next he => simp +decide [h, hm, State.view_of_eq he]
  next s' l he =>
  extract_lets k b w cells top d d'
  have hd : d.view κ = s'.dev.view κ := by simp +decide [d]
  have hd' : d'.view κ = d.view κ := by simp +decide [h, d']
  simp +decide [h, hm, hd', hd, State.view_of_eq he]

@[simp] theorem kept_execAcqBinStep (e : Fin 3) (x1 x2 : Unit) (s : State) (h : [F.COM_STAT_FAULT, F.ENT_CPH_BIN, F.ENT_CPH_CPH, F.ENT_PEAK_PEAK,
      F.ENT_RES_FLAGS, F.ENT_RES_RATIO, F.ENT_RES_STATUS, F.ENT_T0_T0, F.GNAQ_ENG_DONE_CNT, F.GNAQ_ENG_STAT_BIN, F.GNAQ_ENG_STAT_ENTRY, F.GNAQ_ENG_STAT_STATE,
      F.GNAQ_ENG_STAT_WIN, F.IOMU_FQCSR_FQMF, F.IOMU_FQCSR_FQOF, F.IOMU_FQT_V, F.IOMU_IPSR_V] ⊆ κ.flds) (hm : κ.mem = true) :
    Kept κ s (execAcqBinStep e x1 x2 s) := by
  simp only [List.cons_subset] at h
  simp [execAcqBinStep, h, hm, acqEndFlds_subset, iommuFaultFlds_subset]

@[simp] theorem Dev.view_acqEntryEnd (d : Dev) (e : Nat) (h : acqEndFlds ⊆ κ.flds) : (d.acqEntryEnd e).view κ = d.view κ := by
  simp [Dev.acqEntryEnd, h]

@[simp] theorem Dev.view_acqWord (d : Dev) (k w v : Nat) (h : [F.ENT_CFG0_ANT, F.ENT_CFG0_EN, F.ENT_CFG0_GLOK, F.ENT_CFG0_IRQ, F.ENT_CFG0_LAST,
      F.ENT_CFG0_PRN, F.ENT_CFG0_REUSE, F.ENT_CFG0_SIG, F.ENT_CFG1_NNC, F.ENT_CFG1_NWIN, F.ENT_CFG1_TCOH, F.ENT_CFG1_WBASE, F.ENT_DOP_NBIN, F.ENT_DOP_STEP,
      F.ENT_FDC_FDC] ⊆ κ.flds) :
    (d.acqWord k w v).view κ = d.view κ := by
  simp only [List.cons_subset] at h
  unfold Dev.acqWord
  split <;> simp [h]

@[simp] theorem kept_execAcqEntryWrite (a : Acc) (e : Fin 3) (i : Fin 128) (w : Fin 4) (v : BitVec 32) (s : State) (h : [F.ENT_CFG0_ANT, F.ENT_CFG0_EN,
      F.ENT_CFG0_GLOK, F.ENT_CFG0_IRQ, F.ENT_CFG0_LAST, F.ENT_CFG0_PRN, F.ENT_CFG0_REUSE, F.ENT_CFG0_SIG, F.ENT_CFG1_NNC, F.ENT_CFG1_NWIN, F.ENT_CFG1_TCOH,
      F.ENT_CFG1_WBASE, F.ENT_DOP_NBIN, F.ENT_DOP_STEP, F.ENT_FDC_FDC, F.ENT_RES_FLAGS, F.ENT_RES_STATUS] ⊆ κ.flds) :
    Kept κ s (execAcqEntryWrite a e i w v s) := by
  simp only [List.cons_subset] at h
  simp [execAcqEntryWrite, h]

end Sys2Proof.Machine
end

section
/-! ### The Kiln commands and the Cones sweep -/

namespace Sys2Proof.Machine

variable {κ : Scope}

@[simp] theorem kept_execKilnQuiesced (s : State) (h : F.KILN_STATE_ST ∈ κ.flds) : Kept κ s (execKilnQuiesced s) := by
  simp +decide [execKilnQuiesced, h]

@[simp] theorem Dev.view_ageHour (d : Dev) (r : Nat) (h : [F.KILN_RG_AGE_AGE, F.KILN_RG_STAT_DUE] ⊆ κ.flds) : (d.ageHour r).view κ = d.view κ := by
  simp only [List.cons_subset] at h
  simp [Dev.ageHour, h]

@[simp] theorem kept_execKilnAgeHour (s : State) (h : [F.KILN_RG_AGE_AGE, F.KILN_RG_STAT_DUE] ⊆ κ.flds) : Kept κ s (execKilnAgeHour s) := by
  simp only [List.cons_subset] at h
  simp [execKilnAgeHour, h]

@[simp] theorem Dev.view_coneRecord (d : Dev) (t0 i slot : Nat) : (d.coneRecord t0 i slot).view κ = d.view κ := by
  have hc : ∀ (d : Dev), (d.each (List.range 4) (fun n a => a.set F.COM_CONE_CNT_V (4 * slot + n) 0)).view κ = d.view κ :=
    fun d => Dev.view_each _ _ _ fun n a => Dev.view_set_event (by simp [frameEvents]) _ _ _
  simp [Dev.coneRecord, hc]

@[simp] theorem Dev.view_coneStart (d : Dev) (h : [F.CONE_SWEEP_SEQ_SEQ, F.CONE_SWEEP_T0_T0] ⊆ κ.flds) : d.coneStart.view κ = d.view κ := by
  simp only [List.cons_subset] at h
  simp +decide [Dev.coneStart, h]

@[simp] theorem kept_execConeSweepGo (a : Acc) (s : State) (h : [F.CONE_SWEEP_SEQ_SEQ, F.CONE_SWEEP_T0_T0] ⊆ κ.flds) : Kept κ s (execConeSweepGo a s) := by
  simp only [List.cons_subset] at h
  simp [execConeSweepGo, h]

@[simp] theorem Dev.view_conePeriodic (d : Dev) (h : [F.CONE_SWEEP_SEQ_SEQ, F.CONE_SWEEP_T0_T0] ⊆ κ.flds) : d.conePeriodic.view κ = d.view κ := by
  simp only [List.cons_subset] at h
  simp +decide [Dev.conePeriodic, h]

@[simp] theorem kept_execConeSweepDone (s : State) (h : F.CONE_SWEEP_SEQ_SEQ ∈ κ.flds) : Kept κ s (execConeSweepDone s) := by
  simp +decide [execConeSweepDone, h]

end Sys2Proof.Machine
end

section
/-! ### PWR: supply, deadman, idle, mode requests, LIMP, wake and shutdown -/

namespace Sys2Proof.Machine

variable {κ : Scope}

@[simp] theorem Dev.view_supplyReturn (d : Dev) (h : [F.COM_STAT_FAULT, F.PWR_SUPPLY_SUPLOSS, F.SOL_BANK_STAT_BANK, F.SOL_CH_FLAGS_DEFER,
      F.SOL_CH_FLAGS_NOKINK, F.SOL_CH_FLAGS_OFFDEF, F.SOL_CH_FLAGS_OFFREJ, F.SOL_CH_FLAGS_UVDROP, F.SOL_CH_STAT_FAULT, F.SOL_CH_STAT_PHASE,
      F.SOL_EV_FLAGS_FLAGS, F.SOL_EV_SEQ_SEQ, F.SOL_EV_TIME_KINK, F.SOL_EV_TSTART_T, F.SOL_Q_STAT_COUNT] ⊆ κ.flds) :
    d.supplyReturn.view κ = d.view κ := by
  simp only [List.cons_subset] at h
  simp +decide [Dev.supplyReturn, h, solSyncFlds_subset]

@[simp] theorem Dev.view_holdupExpiry (d : Dev) : d.holdupExpiry.view κ = d.view κ := by
  simp +decide [Dev.holdupExpiry]

@[simp] theorem Dev.view_heartbeat (d : Dev) (key : Nat) (h : F.PWR_HBLAST_T ∈ κ.flds) : (d.heartbeat key).view κ = d.view κ := by
  simp +decide [Dev.heartbeat, h]

@[simp] theorem kept_execHeartbeat (a : Acc) (key : BitVec 16) (s : State) (h : F.PWR_HBLAST_T ∈ κ.flds) : Kept κ s (execHeartbeat a key s) := by
  simp [execHeartbeat, h]

@[simp] theorem Dev.view_deadExpiry (d : Dev) (h : [F.CLR_HDR_STALE, F.CLR_PLANE_CTLUP, F.CLR_PLANE_DATAUP, F.CLR_PLANE_MGTUP, F.CLR_SLOT_STAT_STALECNT,
      F.COM_STAT_FAULT, F.FBRK_GRP_CNT_CUTS, F.FBRK_GRP_STAT_CUTA, F.FBRK_GRP_STAT_CUTB, F.FBRK_GRP_STAT_RBOK, F.FBRK_GRP_STAT_STATE, F.FBRK_LATCH_GROUPS,
      F.FBRK_LATCH_LCAUSE, F.FBRK_REACT_LASTR, F.FBRK_REACT_MAXR, F.FBRK_RSTSTAT_WINDOW, F.LSW_CH_FLAGS_CRANKBLK, F.LSW_CH_FLAGS_DEAD, F.LSW_CH_IMEAS_I,
      F.LSW_CH_STAT_CAUSE, F.LSW_CH_STAT_FAULT, F.LSW_CH_STAT_STATE, F.LSW_SUPPLY_DEAD, F.PWR_DEAD_EXPCNT, F.SEG_LN_STAT_ST, F.SEG_STATE_PEND, F.SEG_STATE_ST,
      F.SHRD_FIFO_LVL, F.SHRD_FIFO_MAXLVL, F.SHRD_LOST_CNT, F.SOL_BANK_STAT_BANK, F.SOL_CH_FLAGS_UVDROP, F.SOL_CH_STAT_FAULT, F.SOL_CH_STAT_PHASE,
      F.SOL_EV_FLAGS_FLAGS, F.SOL_EV_SEQ_SEQ, F.SOL_Q_STAT_COUNT, F.SOL_SUPPLY_DEAD] ⊆ κ.flds) :
    d.deadExpiry.view κ = d.view κ := by
  simp only [List.cons_subset] at h
  simp +decide [Dev.deadExpiry, h, intakeFlds_subset, lswOnFlds_subset, solPhaseFlds_subset]

@[simp] theorem Dev.view_idleEntry (d : Dev) (h : ladderFlds ⊆ κ.flds) : d.idleEntry.view κ = d.view κ := by
  simp [Dev.idleEntry, h]

@[simp] theorem Dev.view_idleExit (d : Dev) (h : ladderFlds ⊆ κ.flds) : d.idleExit.view κ = d.view κ := by
  simp [Dev.idleExit, h]

@[simp] theorem Dev.view_modeStatus (d : Dev) (ctl : Bool) (h : clrFlds ⊆ κ.flds) : (d.modeStatus ctl).view κ = d.view κ := by
  simp [Dev.modeStatus, h]

@[simp] theorem Dev.view_modeBad (d : Dev) (ctl : Bool) (h : clrFlds ⊆ κ.flds) : (d.modeBad ctl).view κ = d.view κ := by
  simp [Dev.modeBad, h]

@[simp] theorem Dev.view_shutAck (d : Dev) (ctl : Bool) (h : [F.CLR_HDR_GEN, F.CLR_HDR_LIVE, F.CLR_HDR_SEQ, F.CLR_HDR_STALE, F.CLR_HDR_WDRN,
      F.CLR_SLOT_STAT_AGE, F.CLR_VIOL_KIND, F.CLR_VIOL_PLANE, F.CLR_VIOL_SLOT, F.CLR_VIOL_VALID, F.COM_CTRL_EN, F.COM_STAT_CFGLOCK, F.COM_STAT_FAULT,
      F.COM_STAT_RUN, F.FBRK_GRP_CNT_CUTS, F.FBRK_GRP_STAT_CUTA, F.FBRK_GRP_STAT_CUTB, F.FBRK_GRP_STAT_RBOK, F.FBRK_GRP_STAT_STATE, F.FBRK_PR_STAT_STATE,
      F.FBRK_REACT_LASTR, F.FBRK_REACT_MAXR, F.LSW_CH_FLAGS_CRANKBLK, F.LSW_CH_FLAGS_FBCUT, F.LSW_CH_IMEAS_I, F.LSW_CH_STAT_CAUSE, F.LSW_CH_STAT_FAULT,
      F.LSW_CH_STAT_STATE, F.SEG_STATE_PEND, F.SEG_STATE_ST, F.SOL_BANK_STAT_BANK, F.SOL_CH_FLAGS_DEFER, F.SOL_CH_FLAGS_FBCUT, F.SOL_CH_FLAGS_NOKINK,
      F.SOL_CH_FLAGS_OFFDEF, F.SOL_CH_FLAGS_OFFREJ, F.SOL_CH_FLAGS_UVDROP, F.SOL_CH_STAT_FAULT, F.SOL_CH_STAT_PHASE, F.SOL_EV_FLAGS_FLAGS, F.SOL_EV_SEQ_SEQ,
      F.SOL_EV_TIME_KINK, F.SOL_EV_TSTART_T, F.SOL_Q_STAT_COUNT, F.WHL_LP_STAT_STATE] ⊆ κ.flds) :
    (d.shutAck ctl).view κ = d.view κ := by
  simp only [List.cons_subset] at h
  simp [Dev.shutAck, h, clrFlds_subset, ctlQuietFlds_subset]

@[simp] theorem Dev.view_limpEntry (d : Dev) (h : [F.COM_STAT_FAULT, F.FBRK_PR_STAT_TESTDONE, F.FBRK_TEST_PEND, F.MEM_DRAM_SELFREF, F.MEM_DRAM_TRAINED,
      F.PWR_MODE_LADDER, F.PWR_MODE_MODE, F.PWR_MODE_PREV, F.PWR_WAKE_CFG_CANACT, F.PWR_WAKE_CFG_CANEN, F.PWR_WAKE_CFG_RIDEACT, F.PWR_WAKE_CFG_RIDEEN,
      F.PWR_WAKE_CFG_TMRACT, F.PWR_WAKE_CFG_TMREN, F.TIME_HOLDERR_ERRB, F.TIME_RATE_RATE, F.TIME_STATE_ST, F.TIME_STATE_STEPPEND, F.TRIG_CFG_EN,
      F.TRIG_STAT_ARMED] ⊆ κ.flds) :
    d.limpEntry.view κ = d.view κ := by
  simp only [List.cons_subset] at h
  simp [Dev.limpEntry, h, ladderFlds_subset]

@[simp] theorem Dev.view_limpExit (d : Dev) (h : [F.FBRK_PR_STAT_TESTDONE, F.FBRK_TEST_PEND, F.PWR_MODE_MODE, F.PWR_MODE_PREV] ⊆ κ.flds) :
    d.limpExit.view κ = d.view κ := by
  simp only [List.cons_subset] at h
  simp [Dev.limpExit, h]

@[simp] theorem Dev.view_wakeLineFall (d : Dev) (h : F.PWR_SUPPLY_LINE ∈ κ.flds) : d.wakeLineFall.view κ = d.view κ := by
  simp +decide [Dev.wakeLineFall, h]

@[simp] theorem Dev.view_monitorWakeEnd (d : Dev) (h : ladderFlds ⊆ κ.flds) : d.monitorWakeEnd.view κ = d.view κ := by
  simp +decide [Dev.monitorWakeEnd, h]

@[simp] theorem kept_execMonitorWakeEnd (s : State) (h : [F.COM_STAT_FAULT, F.MEM_DRAM_SELFREF, F.MEM_DRAM_TRAINED, F.PWR_MODE_LADDER, F.PWR_WAKE_CFG_CANACT,
      F.PWR_WAKE_CFG_CANEN, F.PWR_WAKE_CFG_RIDEACT, F.PWR_WAKE_CFG_RIDEEN, F.PWR_WAKE_CFG_TMRACT, F.PWR_WAKE_CFG_TMREN, F.TIME_HOLDERR_ERRB, F.TIME_RATE_RATE,
      F.TIME_STATE_ST, F.TIME_STATE_STEPPEND, F.TRIG_CFG_EN, F.TRIG_STAT_ARMED] ⊆ κ.flds) (hm : κ.mem = true) :
    Kept κ s (execMonitorWakeEnd s) := by
  simp only [List.cons_subset] at h
  simp [execMonitorWakeEnd, h, hm, ladderFlds_subset]

@[simp] theorem Dev.view_shutNotice (d : Dev) (h : [F.CLR_HDR_GEN, F.CLR_HDR_LIVE, F.CLR_HDR_SEQ, F.CLR_HDR_STALE, F.CLR_HDR_WDRN, F.CLR_SLOT_STAT_AGE,
      F.CLR_VIOL_KIND, F.CLR_VIOL_PLANE, F.CLR_VIOL_SLOT, F.CLR_VIOL_VALID, F.PWR_MODE_NOTICE] ⊆ κ.flds) :
    d.shutNotice.view κ = d.view κ := by
  simp only [List.cons_subset] at h
  simp +decide [Dev.shutNotice, h, clrFlds_subset]

@[simp] theorem Dev.view_shutWithdraw (d : Dev) (h : [F.CLR_HDR_GEN, F.CLR_HDR_LIVE, F.CLR_HDR_SEQ, F.CLR_HDR_STALE, F.CLR_HDR_WDRN, F.CLR_SLOT_STAT_AGE,
      F.CLR_VIOL_KIND, F.CLR_VIOL_PLANE, F.CLR_VIOL_SLOT, F.CLR_VIOL_VALID, F.PWR_MODE_NOTICE] ⊆ κ.flds) :
    d.shutWithdraw.view κ = d.view κ := by
  simp only [List.cons_subset] at h
  simp [Dev.shutWithdraw, h, clrFlds_subset]

@[simp] theorem Dev.view_graceEnd (d : Dev) (h : ctlQuietFlds ⊆ κ.flds) : d.graceEnd.view κ = d.view κ := by
  simp [Dev.graceEnd, h]

@[simp] theorem Dev.view_descend (d : Dev) (h : ladderFlds ⊆ κ.flds) : d.descend.view κ = d.view κ := by
  simp [Dev.descend, h]

@[simp] theorem kept_execLadderDescend (s : State) (h : [F.COM_STAT_FAULT, F.MEM_DRAM_SELFREF, F.MEM_DRAM_TRAINED, F.PWR_MODE_LADDER, F.PWR_WAKE_CFG_CANACT,
      F.PWR_WAKE_CFG_CANEN, F.PWR_WAKE_CFG_RIDEACT, F.PWR_WAKE_CFG_RIDEEN, F.PWR_WAKE_CFG_TMRACT, F.PWR_WAKE_CFG_TMREN, F.TIME_HOLDERR_ERRB, F.TIME_RATE_RATE,
      F.TIME_STATE_ST, F.TIME_STATE_STEPPEND, F.TRIG_CFG_EN, F.TRIG_STAT_ARMED] ⊆ κ.flds) (hm : κ.mem = true) :
    Kept κ s (execLadderDescend s) := by
  simp only [List.cons_subset] at h
  simp [execLadderDescend, h, hm, ladderFlds_subset]

end Sys2Proof.Machine
end

section
/-! ### Module reset, the keeper's boot, resets and releases of the planes, lockstep and the life cycle -/

namespace Sys2Proof.Machine

variable {κ : Scope}

@[simp] theorem Dev.view_loadFail (d : Dev) (h : [F.COM_STAT_FAULT, F.UPD_SL_STAT_REASON, F.UPD_SL_STAT_ST, F.UPD_STATE_TRIAL] ⊆ κ.flds) :
    d.loadFail.view κ = d.view κ := by
  simp only [List.cons_subset] at h
  simp +decide [Dev.loadFail, h]

@[simp] theorem Dev.view_dataRelease (d : Dev) (ok : Bool) (h : ladderFlds ++ [F.CLR_HDR_STALE, F.CLR_PLANE_CTLUP, F.CLR_PLANE_DATAUP, F.CLR_PLANE_MGTUP,
      F.CLR_SLOT_STAT_STALECNT, F.SYS_BOOTT_MS, F.SYS_BOOT_DONE, F.SYS_REL_DP, F.UPD_SL_STAT_REASON, F.UPD_SL_STAT_ST, F.UPD_STATE_TRIAL] ⊆ κ.flds) :
    (d.dataRelease ok).view κ = d.view κ := by
  simp only [ladderFlds_subset, List.append_subset, List.cons_subset] at h
  simp +decide [Dev.dataRelease, h, ladderFlds_subset]

@[simp] theorem State.view_loadComp (s : State) (slot : Nat) (e : List Nat) (hm : κ.mem = true) : (s.loadComp slot e).view κ = s.view κ := by
  have hv : ∀ (d : Dev) (a n : Nat), ({ d with vars := d.vars.filter (fun x => !(x.1.1 == V.poison.id && decide (a ≤ 32 * x.1.2) && decide (32 * x.1.2 + 32 ≤ a + n))) } : Dev).view κ = d.view κ :=
    fun d a n => Dev.view_filter d _ (fun v => by simp +decide) ..
  simp only [State.loadComp, State.view_mk, hv, Scope.rest_mem hm, State.view_eta]

@[simp] theorem State.view_loaded (s : State) (f : Fld) (data : Bool) (t : State) (hm : κ.mem = true) : (s.loaded f data t).view κ = t.view κ := by
  unfold State.loaded
  split
  · simp [hm]
  · rfl

@[simp] theorem kept_execDataPlaneLoadDone (img : ImgCheck) (s : State) (h : [F.CLR_HDR_STALE, F.CLR_PLANE_CTLUP, F.CLR_PLANE_DATAUP, F.CLR_PLANE_MGTUP,
      F.CLR_SLOT_STAT_STALECNT, F.COM_STAT_FAULT, F.MEM_DRAM_SELFREF, F.MEM_DRAM_TRAINED, F.PWR_MODE_LADDER, F.PWR_WAKE_CFG_CANACT, F.PWR_WAKE_CFG_CANEN,
      F.PWR_WAKE_CFG_RIDEACT, F.PWR_WAKE_CFG_RIDEEN, F.PWR_WAKE_CFG_TMRACT, F.PWR_WAKE_CFG_TMREN, F.SYS_BOOTT_MS, F.SYS_BOOT_DONE, F.SYS_REL_DP,
      F.SYS_STEP1_RF0, F.SYS_STEP1_RF1, F.SYS_STEP1_RF2, F.TIME_HOLDERR_ERRB, F.TIME_RATE_RATE, F.TIME_STATE_ST, F.TIME_STATE_STEPPEND, F.TRIG_CFG_EN,
      F.TRIG_STAT_ARMED, F.UPD_SL_STAT_REASON, F.UPD_SL_STAT_ST, F.UPD_STATE_TRIAL] ⊆ κ.flds) (hm : κ.mem = true) :
    Kept κ s (execDataPlaneLoadDone img s) := by
  simp only [List.cons_subset] at h
  simp [execDataPlaneLoadDone, h, hm, ladderFlds_subset]

@[simp] theorem kept_execDataPlaneRelease (img : ImgCheck) (s : State) (h : [F.CLR_HDR_STALE, F.CLR_PLANE_CTLUP, F.CLR_PLANE_DATAUP, F.CLR_PLANE_MGTUP,
      F.CLR_SLOT_STAT_STALECNT, F.COM_STAT_FAULT, F.MEM_DRAM_SELFREF, F.MEM_DRAM_TRAINED, F.PWR_MODE_LADDER, F.PWR_WAKE_CFG_CANACT, F.PWR_WAKE_CFG_CANEN,
      F.PWR_WAKE_CFG_RIDEACT, F.PWR_WAKE_CFG_RIDEEN, F.PWR_WAKE_CFG_TMRACT, F.PWR_WAKE_CFG_TMREN, F.SYS_BOOTT_MS, F.SYS_BOOT_DONE, F.SYS_REL_DP,
      F.SYS_STEP1_RF0, F.SYS_STEP1_RF1, F.SYS_STEP1_RF2, F.TIME_HOLDERR_ERRB, F.TIME_RATE_RATE, F.TIME_STATE_ST, F.TIME_STATE_STEPPEND, F.TRIG_CFG_EN,
      F.TRIG_STAT_ARMED, F.UPD_SL_STAT_REASON, F.UPD_SL_STAT_ST, F.UPD_STATE_TRIAL] ⊆ κ.flds) (hm : κ.mem = true) :
    Kept κ s (execDataPlaneRelease img s) := by
  simp only [List.cons_subset] at h
  simp [execDataPlaneRelease, h, hm, ladderFlds_subset]

@[simp] theorem Dev.view_dramTrained (d : Dev) (h : [F.COM_STAT_FAULT, F.MEM_DRAM_SELFREF, F.MEM_DRAM_TEMP, F.MEM_DRAM_TRAINED] ⊆ κ.flds) :
    d.dramTrained.view κ = d.view κ := by
  simp only [List.cons_subset] at h
  simp +decide [Dev.dramTrained, h]

@[simp] theorem Dev.view_watchdog (d : Dev) (h : [F.CLR_HDR_STALE, F.CLR_PLANE_CTLUP, F.CLR_PLANE_DATAUP, F.CLR_PLANE_MGTUP, F.CLR_SLOT_STAT_STALECNT] ⊆
      κ.flds) :
    d.watchdog.view κ = d.view κ := by
  simp only [List.cons_subset] at h
  simp +decide [Dev.watchdog, h]

@[simp] theorem Dev.view_mismatch (d : Dev) (b : Bool) (out : Nat) (cause : Nat) (h : [F.SHRD_FIFO_LVL, F.SHRD_FIFO_MAXLVL, F.SHRD_LOST_CNT, F.SYS_LSTEP_CMPA,
      F.SYS_LSTEP_CMPB, F.SYS_REL_PA, F.SYS_REL_PB] ⊆ κ.flds) :
    (d.mismatch b out cause).view κ = d.view κ := by
  simp only [List.cons_subset] at h
  unfold Dev.mismatch
  split <;> simp +decide [h, intakeFlds_subset]

@[simp] theorem Dev.view_inject (d : Dev) (a b : Bool) (h : intakeFlds ++ [F.SYS_LSTEP_CMPA, F.SYS_LSTEP_CMPB, F.SYS_REL_PA, F.SYS_REL_PB] ⊆ κ.flds) :
    (d.inject a b).view κ = d.view κ := by
  simp only [intakeFlds_subset, List.append_subset, List.cons_subset] at h
  simp [Dev.inject, h]

@[simp] theorem kept_execLockstepInject (a : Acc) (pa pb : Bool) (s : State) (h : [F.SHRD_FIFO_LVL, F.SHRD_FIFO_MAXLVL, F.SHRD_LOST_CNT, F.SYS_LSTEP_CMPA,
      F.SYS_LSTEP_CMPB, F.SYS_REL_PA, F.SYS_REL_PB] ⊆ κ.flds) :
    Kept κ s (execLockstepInject a pa pb s) := by
  simp only [List.cons_subset] at h
  simp [execLockstepInject, h, intakeFlds_subset]

@[simp] theorem Dev.view_rstReq (d : Dev) (a : Acc) (x : Vr) (cause : Int) (hx : V.grove.id ≠ x.id) : (d.rstReq a x cause).view κ = d.view κ := by
  simp [Dev.rstReq, hx]

@[simp] theorem Dev.view_ownReq (d : Dev) (slot : Nat) (x : Vr) (cause : Int) (hx : V.grove.id ≠ x.id) : (d.ownReq slot x cause).view κ = d.view κ := by
  simp [Dev.ownReq, hx]

@[simp] theorem Dev.view_ctlReq (d : Dev) (x : ResetBy) : (d.ctlReq x).view κ = d.view κ := by
  unfold Dev.ctlReq
  split <;> simp +decide

@[simp] theorem Dev.view_dataReq (d : Dev) (x : ResetBy) : (d.dataReq x).view κ = d.view κ := by
  unfold Dev.dataReq
  split <;> simp +decide

@[simp] theorem Dev.view_challenge (d : Dev) (kind target key : Nat) (h : [F.LCS_CHAL_W, F.LCS_RSTAT_ST] ⊆ κ.flds) :
    (d.challenge kind target key).view κ = d.view κ := by
  simp only [List.cons_subset] at h
  simp +decide [Dev.challenge, h]

@[simp] theorem State.view_challengeReq (s : State) (a : Acc) (kind target key : Nat) (h : [F.LCS_CHAL_W, F.LCS_RSTAT_ST] ⊆ κ.flds) :
    (s.challengeReq a kind target key).view κ = s.view κ := by
  simp only [List.cons_subset] at h
  simp [State.challengeReq, h]

@[simp] theorem kept_execChallengeRequest (a : Acc) (kind : BitVec 2) (target : BitVec 3) (key : BitVec 2) (s : State) (h : [F.LCS_CHAL_W, F.LCS_RSTAT_ST] ⊆
      κ.flds) :
    Kept κ s (execChallengeRequest a kind target key s) := by
  simp only [List.cons_subset] at h
  simp [execChallengeRequest, h]

@[simp] theorem Dev.view_lcsRefuse (d : Dev) (h : [F.COM_STAT_FAULT, F.LCS_DBG_FAILS, F.LCS_RSTAT_OK, F.LCS_RSTAT_REFUSED] ⊆ κ.flds) :
    d.lcsRefuse.view κ = d.view κ := by
  simp only [List.cons_subset] at h
  simp [Dev.lcsRefuse, h]

@[simp] theorem Dev.view_lcsAccept (d : Dev) (kind target : Nat) (h : [F.LCS_DBG_LEVEL, F.LCS_RSTAT_OK, F.LCS_RSTAT_REFUSED, F.LCS_STATE_PEND,
      F.LCS_STATE_PENDV] ⊆ κ.flds) :
    (d.lcsAccept kind target).view κ = d.view κ := by
  simp only [List.cons_subset] at h
  simp [Dev.lcsAccept, h]

@[simp] theorem State.view_submit (s : State) (sig : Bool) (h : [F.COM_STAT_FAULT, F.LCS_DBG_FAILS, F.LCS_DBG_LEVEL, F.LCS_RSTAT_OK, F.LCS_RSTAT_REFUSED,
      F.LCS_RSTAT_ST, F.LCS_STATE_PEND, F.LCS_STATE_PENDV] ⊆ κ.flds) (ho : κ.otp = true) :
    (s.submit sig).view κ = s.view κ := by
  simp only [List.cons_subset] at h
  simp [State.submit, h, ho]

@[simp] theorem State.view_responseSubmit (s : State) (a : Acc) (sig : Bool) (h : [F.COM_STAT_FAULT, F.LCS_DBG_FAILS, F.LCS_DBG_LEVEL, F.LCS_RSTAT_OK,
      F.LCS_RSTAT_REFUSED, F.LCS_RSTAT_ST, F.LCS_STATE_PEND, F.LCS_STATE_PENDV] ⊆ κ.flds) (ho : κ.otp = true) :
    (s.responseSubmit a sig).view κ = s.view κ := by
  simp only [List.cons_subset] at h
  simp [State.responseSubmit, h, ho]

@[simp] theorem kept_execResponseSubmit (a : Acc) (sig : Bool) (s : State) (h : [F.COM_STAT_FAULT, F.LCS_DBG_FAILS, F.LCS_DBG_LEVEL, F.LCS_RSTAT_OK,
      F.LCS_RSTAT_REFUSED, F.LCS_RSTAT_ST, F.LCS_STATE_PEND, F.LCS_STATE_PENDV] ⊆ κ.flds) (ho : κ.otp = true) :
    Kept κ s (execResponseSubmit a sig s) := by
  simp only [List.cons_subset] at h
  simp [execResponseSubmit, h, ho]

@[simp] theorem kept_execChallengeExpiry (s : State) (h : F.LCS_RSTAT_ST ∈ κ.flds) : Kept κ s (execChallengeExpiry s) := by
  simp [execChallengeExpiry, h]

end Sys2Proof.Machine
end

section
/-! ### The configuration space: accesses, register writes, channel select, 64-bit pairs, enable and run, apply, and soft reset -/

namespace Sys2Proof.Machine

variable {κ : Scope}

@[simp] theorem Dev.view_unmapped (d : Dev) (a : Acc) (slot off : Nat) (wr : Bool) : (d.unmapped a slot off wr).view κ = d.view κ := by
  unfold Dev.unmapped
  repeat' split
  all_goals simp

@[simp] theorem kept_execChselWrite (a : Acc) (slot : BitVec 6) (ch : BitVec 16) (s : State) (h : F.COM_CHSEL_CH ∈ κ.flds) :
    Kept κ s (execChselWrite a slot ch s) := by
  simp [execChselWrite, h]

@[simp] theorem Dev.view_pairRead (d : Dev) (a : Acc) (slot off : Nat) (high : Bool) (k : Nat → Dev → Dev) (hk : ∀ i e, (k i e).view κ = e.view κ) :
    (d.pairRead a slot off high k).view κ = d.view κ := by
  unfold Dev.pairRead
  repeat' split
  all_goals simp [hk]

@[simp] theorem Dev.view_pairLowRead (d : Dev) (a : Acc) (slot off : Nat) : (d.pairLowRead a slot off).view κ = d.view κ := by
  simp +decide [Dev.pairLowRead]

@[simp] theorem Dev.view_pairHighRead (d : Dev) (a : Acc) (slot off : Nat) : (d.pairHighRead a slot off).view κ = d.view κ := by
  simp +decide [Dev.pairHighRead]

@[simp] theorem State.view_wordRead (s : State) (slot bank off : Nat) : (s.wordRead slot bank off).1.view κ = s.dev.view κ := by
  unfold State.wordRead
  extract_lets d ch
  have hd : d.view κ = s.dev.view κ := by simp [d]
  split
  · split <;> simp [hd]
  split
  · simp [hd]
  extract_lets d1 v d2
  have h1 : d1.view κ = d.view κ := by simp [d1]
  have h2 : d2.view κ = d1.view κ := by simp +decide [d2]
  split
  · exact h1.trans hd
  split
  · simp +decide [h2, h1, hd]
  · split <;> simp +decide [h1, hd]

@[simp] theorem State.view_confRead (s : State) (a : Acc) (slot off : Nat) : (s.confRead a slot off).1.view κ = s.dev.view κ := by
  unfold State.confRead
  split
  · simp
  split
  · simp
  split <;> simp

@[simp] theorem Dev.view_blockEn (d : Dev) (slot : Nat) (en : Bool) (h : [F.COM_CTRL_EN, F.COM_STAT_FAULT, F.EGO_STEPSEQ_SEQ, F.FBRK_PR_STAT_TESTDONE,
      F.FBRK_TEST_PEND] ⊆ κ.flds) :
    (d.blockEn slot en).view κ = d.view κ := by
  simp only [List.cons_subset] at h
  simp +decide [Dev.blockEn, h]

@[simp] theorem kept_execBlockEnWrite (a : Acc) (slot : BitVec 6) (en : Bool) (s : State) (h : [F.COM_CTRL_EN, F.COM_STAT_FAULT, F.EGO_STEPSEQ_SEQ,
      F.FBRK_PR_STAT_TESTDONE, F.FBRK_TEST_PEND] ⊆ κ.flds) :
    Kept κ s (execBlockEnWrite a slot en s) := by
  simp only [List.cons_subset] at h
  simp [execBlockEnWrite, h]

@[simp] theorem Dev.view_runRise (d : Dev) (slot : Nat) (h : solSyncFlds ++ lswOnFlds ++ pairFaultFlds ++ [F.BUS_CH_STAT_STATE, F.FBRK_PR_CNT_OPENS,
      F.FBRK_PR_STAT_TESTDONE, F.FBRK_TEST_PEND, F.LSW_CH_FLAGS_FBCUT, F.RIDE_CYCNT_CNT, F.SEG_DSP_SEG, F.SEG_JSEQ_SEQ, F.SEG_LN_STAT_PEND, F.SEG_STATE_PEND,
      F.SEG_STATE_ST, F.SEG_STG_SEG, F.SEG_TGT_SEG, F.SOL_CH_FLAGS_FBCUT, F.WHL_LP_I_I] ⊆ κ.flds) :
    (d.runRise slot).view κ = d.view κ := by
  simp only [solSyncFlds_subset, lswOnFlds_subset, pairFaultFlds_subset, List.append_subset, List.cons_subset] at h
  unfold Dev.runRise
  split <;> simp +decide [h, solSyncFlds_subset, lswOnFlds_subset, pairFaultFlds_subset]

@[simp] theorem Dev.view_runFall (d : Dev) (slot : Nat) (h : solSyncFlds ++ lswOnFlds ++ [F.BUS_CH_STAT_STATE, F.FBRK_GRP_CNT_CUTS, F.FBRK_GRP_STAT_CUTA,
      F.FBRK_GRP_STAT_CUTB, F.FBRK_GRP_STAT_RBOK, F.FBRK_GRP_STAT_STATE, F.FBRK_PR_STAT_STATE, F.FBRK_REACT_LASTR, F.FBRK_REACT_MAXR, F.LSW_CH_FLAGS_FBCUT,
      F.SOL_CH_FLAGS_FBCUT, F.WHL_LP_STAT_STATE] ⊆ κ.flds) :
    (d.runFall slot).view κ = d.view κ := by
  simp only [solSyncFlds_subset, lswOnFlds_subset, List.append_subset, List.cons_subset] at h
  unfold Dev.runFall
  split <;> simp [h, solSyncFlds_subset, lswOnFlds_subset]

@[simp] theorem Dev.view_runChange (d : Dev) (slot : Nat) (h : [F.BUS_CH_STAT_STATE, F.COM_STAT_CFGLOCK, F.COM_STAT_FAULT, F.COM_STAT_RUN,
      F.FBRK_GRP_CNT_CUTS, F.FBRK_GRP_STAT_CUTA, F.FBRK_GRP_STAT_CUTB, F.FBRK_GRP_STAT_RBOK, F.FBRK_GRP_STAT_STATE, F.FBRK_LATCH_GROUPS, F.FBRK_PR_CNT_FAULTS,
      F.FBRK_PR_CNT_OPENS, F.FBRK_PR_STAT_FCODE, F.FBRK_PR_STAT_STATE, F.FBRK_PR_STAT_TESTDONE, F.FBRK_REACT_LASTR, F.FBRK_REACT_MAXR, F.FBRK_RSTSTAT_WINDOW,
      F.FBRK_TEST_PEND, F.LSW_CH_FLAGS_CRANKBLK, F.LSW_CH_FLAGS_FBCUT, F.LSW_CH_IMEAS_I, F.LSW_CH_STAT_CAUSE, F.LSW_CH_STAT_FAULT, F.LSW_CH_STAT_STATE,
      F.RIDE_CYCNT_CNT, F.SEG_DSP_SEG, F.SEG_JSEQ_SEQ, F.SEG_LN_STAT_PEND, F.SEG_STATE_PEND, F.SEG_STATE_ST, F.SEG_STG_SEG, F.SEG_TGT_SEG,
      F.SOL_BANK_STAT_BANK, F.SOL_CH_FLAGS_DEFER, F.SOL_CH_FLAGS_FBCUT, F.SOL_CH_FLAGS_NOKINK, F.SOL_CH_FLAGS_OFFDEF, F.SOL_CH_FLAGS_OFFREJ,
      F.SOL_CH_FLAGS_UVDROP, F.SOL_CH_STAT_FAULT, F.SOL_CH_STAT_PHASE, F.SOL_EV_FLAGS_FLAGS, F.SOL_EV_SEQ_SEQ, F.SOL_EV_TIME_KINK, F.SOL_EV_TSTART_T,
      F.SOL_Q_STAT_COUNT, F.WHL_LP_I_I, F.WHL_LP_STAT_STATE] ⊆ κ.flds) :
    (d.runChange slot).view κ = d.view κ := by
  simp only [List.cons_subset] at h
  simp [Dev.runChange, h, solSyncFlds_subset, lswOnFlds_subset, pairFaultFlds_subset]

@[simp] theorem Dev.view_applyMark (d : Dev) (slot : Nat) : (d.applyMark slot).view κ = d.view κ := by
  have hv : ({ d with vars := d.vars.filter (fun e => !(e.1.1 == V.boundAt.id && e.1.2 / 1024 == slot)) } : Dev).view κ = d.view κ :=
    Dev.view_filter d _ (fun v => by simp +decide) ..
  exact (Dev.view_setVar (by decide) _ _ _).trans ((Dev.view_mark (by decide) _ _).trans hv)

@[simp] theorem Dev.view_applyGo (d : Dev) (slot bank : Nat) (chonly : Bool) (h : F.COM_APPLY_PEND ∈ κ.flds) :
    (d.applyGo slot bank chonly).view κ = d.view κ := by
  simp +decide [Dev.applyGo, h]

@[simp] theorem kept_execApplyGo (a : Acc) (slot : BitVec 6) (chonly : Bool) (s : State) (h : F.COM_APPLY_PEND ∈ κ.flds) :
    Kept κ s (execApplyGo a slot chonly s) := by
  simp [execApplyGo, h]

@[simp] theorem Dev.view_softDone (d : Dev) (slot : Nat) (h : [F.COM_STAT_BUSY, F.COM_STAT_CFGLOCK] ⊆ κ.flds) : (d.softDone slot).view κ = d.view κ := by
  simp only [List.cons_subset] at h
  simp +decide [Dev.softDone, h]

@[simp] theorem Dev.view_reenable (d : Dev) (slot : Nat) (h : F.COM_CTRL_EN ∈ κ.flds) : (d.reenable slot).view κ = d.view κ := by
  simp +decide [Dev.reenable, h]

end Sys2Proof.Machine
end

section
/-! ### MEM: DRAM errors and the patrol scrubber -/

namespace Sys2Proof.Machine

variable {κ : Scope}

@[simp] theorem Dev.view_eccCe (d : Dev) (h : F.MEM_ECC_CNT_CE ∈ κ.flds) : d.eccCe.view κ = d.view κ := by
  simp [Dev.eccCe, h]

@[simp] theorem Dev.view_eccUe (d : Dev) (blk src : Nat) (h : [F.MEM_ECC_ADDR_ADDR, F.MEM_ECC_CNT_UE, F.MEM_ECC_SRC_SRC] ⊆ κ.flds) :
    (d.eccUe blk src).view κ = d.view κ := by
  simp only [List.cons_subset] at h
  simp +decide [Dev.eccUe, h]

@[simp] theorem Dev.view_patrolScrub (d : Dev) (found : Nat) (h : [F.MEM_ECC_ADDR_ADDR, F.MEM_ECC_CNT_CE, F.MEM_ECC_CNT_UE, F.MEM_ECC_SRC_SRC] ⊆ κ.flds) :
    (d.patrolScrub found).view κ = d.view κ := by
  simp only [List.cons_subset] at h
  simp +decide [Dev.patrolScrub, h]

@[simp] theorem kept_execIommuFault (dev : BitVec 12) (iova : BitVec 64) (cause : BitVec 12) (wr : Bool) (s : State) (h : [F.COM_STAT_FAULT,
      F.IOMU_FQCSR_FQMF, F.IOMU_FQCSR_FQOF, F.IOMU_FQT_V, F.IOMU_IPSR_V] ⊆ κ.flds) (hm : κ.mem = true) :
    Kept κ s (execIommuFault dev iova cause wr s) := by
  simp only [List.cons_subset] at h
  simp [execIommuFault, h, hm, iommuFaultFlds_subset]

@[simp] theorem Dev.view_iommuCip (d : Dev) (h : F.IOMU_IPSR_V ∈ κ.flds) : d.iommuCip.view κ = d.view κ := by
  simp [Dev.iommuCip, h]

@[simp] theorem State.view_iommuDo (s : State) (k w0 w1 : Nat) (h : [F.IOMU_CQCSR_CQMF, F.IOMU_CQCSR_FENCE_W_IP, F.IOMU_IPSR_V] ⊆ κ.flds) (hm : κ.mem = true)
      :
    (s.iommuDo k w0 w1).view κ = s.view κ := by
  simp only [List.cons_subset] at h
  unfold State.iommuDo
  split <;> simp [h, hm]

@[simp] theorem State.view_iommuCmd (s : State) (k : Nat) (h : [F.IOMU_CQCSR_CMD_ILL, F.IOMU_CQCSR_CQMF, F.IOMU_CQCSR_FENCE_W_IP, F.IOMU_CQH_V, F.IOMU_IPSR_V]
      ⊆ κ.flds) (hm : κ.mem = true) :
    (s.iommuCmd k).view κ = s.view κ := by
  simp only [List.cons_subset] at h
  simp only [State.iommuCmd]
  repeat' split
  all_goals simp [h, hm]

@[simp] theorem kept_execIotinvalVma (s : State) (h : [F.IOMU_CQCSR_CMD_ILL, F.IOMU_CQCSR_CQMF, F.IOMU_CQCSR_FENCE_W_IP, F.IOMU_CQH_V, F.IOMU_IPSR_V] ⊆
      κ.flds) (hm : κ.mem = true) :
    Kept κ s (execIotinvalVma s) := by
  simp only [List.cons_subset] at h
  simp [execIotinvalVma, h, hm]

@[simp] theorem kept_execIotinvalGvma (s : State) (h : [F.IOMU_CQCSR_CMD_ILL, F.IOMU_CQCSR_CQMF, F.IOMU_CQCSR_FENCE_W_IP, F.IOMU_CQH_V, F.IOMU_IPSR_V] ⊆
      κ.flds) (hm : κ.mem = true) :
    Kept κ s (execIotinvalGvma s) := by
  simp only [List.cons_subset] at h
  simp [execIotinvalGvma, h, hm]

@[simp] theorem kept_execIodirInvalDdt (s : State) (h : [F.IOMU_CQCSR_CMD_ILL, F.IOMU_CQCSR_CQMF, F.IOMU_CQCSR_FENCE_W_IP, F.IOMU_CQH_V, F.IOMU_IPSR_V] ⊆
      κ.flds) (hm : κ.mem = true) :
    Kept κ s (execIodirInvalDdt s) := by
  simp only [List.cons_subset] at h
  simp [execIodirInvalDdt, h, hm]

@[simp] theorem kept_execIofenceC (s : State) (h : [F.IOMU_CQCSR_CMD_ILL, F.IOMU_CQCSR_CQMF, F.IOMU_CQCSR_FENCE_W_IP, F.IOMU_CQH_V, F.IOMU_IPSR_V] ⊆ κ.flds)
      (hm : κ.mem = true) :
    Kept κ s (execIofenceC s) := by
  simp only [List.cons_subset] at h
  simp [execIofenceC, h, hm]

end Sys2Proof.Machine
end

section
/-! ### The Glade monitor -/

namespace Sys2Proof.Machine

variable {κ : Scope}

/-- What a line of the Glade monitor writes. -/
def monLineFlds : List Fld := [F.MON_LAST_CMD, F.MON_LAST_CODE, F.MON_STAT_ERRS, F.MON_STAT_LINES, F.MON_TLAST_T]

theorem monLineFlds_subset {l : List Fld} : monLineFlds ⊆ l ↔ [F.MON_LAST_CMD, F.MON_LAST_CODE, F.MON_STAT_ERRS, F.MON_STAT_LINES, F.MON_TLAST_T] ⊆ l := by
  rw [monLineFlds]

@[simp] theorem State.view_monLine (s : State) (cmd : Nat) (lvl mgt : Bool) (k : State → State) (h : monLineFlds ⊆ κ.flds) (hk : ∀ e, (k e).view κ = e.view κ)
      :
    (s.monLine cmd lvl mgt k).view κ = s.view κ := by
  simp only [monLineFlds_subset, List.cons_subset] at h
  simp [State.monLine, h, hk, monAnswerFlds_subset]

@[simp] theorem Dev.view_monRecord (d : Dev) (word : List Nat) (a1 a2 : Nat) : (d.monRecord word a1 a2).view κ = d.view κ := by
  simp [Dev.monRecord]

@[simp] theorem State.view_monHello (s : State) (h : monLineFlds ⊆ κ.flds) : s.monHello.view κ = s.view κ := by
  simp only [monLineFlds_subset, List.cons_subset] at h
  simp [State.monHello, h, monLineFlds_subset, monAnswerFlds_subset]

@[simp] theorem kept_execMonHello (s : State) (h : [F.MON_LAST_CMD, F.MON_LAST_CODE, F.MON_STAT_ERRS, F.MON_STAT_LINES, F.MON_TLAST_T] ⊆ κ.flds) :
    Kept κ s (execMonHello s) := by
  simp only [List.cons_subset] at h
  simp [execMonHello, h, monLineFlds_subset]

@[simp] theorem State.view_monLog (s : State) (i n : Nat) (h : monLineFlds ⊆ κ.flds) : (s.monLog i n).view κ = s.view κ := by
  simp only [monLineFlds_subset, List.cons_subset] at h
  simp [State.monLog, h, monLineFlds_subset, monAnswerFlds_subset]

@[simp] theorem kept_execMonLog (idx : BitVec 32) (n : BitVec 8) (s : State) (h : [F.MON_LAST_CMD, F.MON_LAST_CODE, F.MON_STAT_ERRS, F.MON_STAT_LINES,
      F.MON_TLAST_T] ⊆ κ.flds) :
    Kept κ s (execMonLog idx n s) := by
  simp only [List.cons_subset] at h
  simp [execMonLog, h, monLineFlds_subset]

@[simp] theorem State.view_monRd (s : State) (a : Nat) (h : monLineFlds ⊆ κ.flds) : (s.monRd a).view κ = s.view κ := by
  simp only [monLineFlds_subset, List.cons_subset] at h
  have hr : ∀ (s : State) (slot off : Nat) (d : Dev) (x : Option Nat), s.confRead monAcc slot off = (d, x) → d.view κ = s.dev.view κ :=
    fun s slot off d x he => by rw [Dev.view_of_eq he, State.view_confRead]
  unfold State.monRd
  refine State.view_monLine _ _ _ _ _ (by simp [h, monLineFlds_subset, List.cons_subset]) fun s => ?_
  simp only []
  split
  · split
    all_goals next he => simp [h, monAnswerFlds_subset, hr _ _ _ _ _ he]
  · simp [h, monAnswerFlds_subset]

@[simp] theorem kept_execMonRd (addr : BitVec 40) (s : State) (h : [F.MON_LAST_CMD, F.MON_LAST_CODE, F.MON_STAT_ERRS, F.MON_STAT_LINES, F.MON_TLAST_T] ⊆
      κ.flds) :
    Kept κ s (execMonRd addr s) := by
  simp only [List.cons_subset] at h
  simp [execMonRd, h, monLineFlds_subset]

@[simp] theorem State.view_monChal (s : State) (kind target key : Nat) (h : monAnswerFlds ++ [F.LCS_CHAL_W, F.LCS_RSTAT_ST] ⊆ κ.flds) :
    (s.monChal kind target key).view κ = s.view κ := by
  simp only [List.append_subset, List.cons_subset] at h
  simp [State.monChal, h]

@[simp] theorem kept_execMonChal (kind : BitVec 2) (target : BitVec 3) (key : BitVec 2) (s : State) (h : [F.LCS_CHAL_W, F.LCS_RSTAT_ST, F.MON_LAST_CMD,
      F.MON_LAST_CODE, F.MON_STAT_ERRS, F.MON_STAT_LINES, F.MON_TLAST_T] ⊆ κ.flds) :
    Kept κ s (execMonChal kind target key s) := by
  simp only [List.cons_subset] at h
  simp [execMonChal, h, monLineFlds_subset, monAnswerFlds_subset]

@[simp] theorem State.view_monResp (s : State) (r t : Nat) (sig : Bool) (h : monAnswerFlds ++ [F.COM_STAT_FAULT, F.LCS_DBG_FAILS, F.LCS_DBG_LEVEL,
      F.LCS_RESP_W, F.LCS_RSTAT_OK, F.LCS_RSTAT_REFUSED, F.LCS_RSTAT_ST, F.LCS_STATE_PEND, F.LCS_STATE_PENDV] ⊆ κ.flds) (ho : κ.otp = true) :
    (s.monResp r t sig).view κ = s.view κ := by
  simp only [List.append_subset, List.cons_subset] at h
  simp [State.monResp, h, ho]

@[simp] theorem kept_execMonResp (r t : BitVec 384) (sig : Bool) (s : State) (h : [F.COM_STAT_FAULT, F.LCS_DBG_FAILS, F.LCS_DBG_LEVEL, F.LCS_RESP_W,
      F.LCS_RSTAT_OK, F.LCS_RSTAT_REFUSED, F.LCS_RSTAT_ST, F.LCS_STATE_PEND, F.LCS_STATE_PENDV, F.MON_LAST_CMD, F.MON_LAST_CODE, F.MON_STAT_ERRS,
      F.MON_STAT_LINES, F.MON_TLAST_T] ⊆ κ.flds) (ho : κ.otp = true) :
    Kept κ s (execMonResp r t sig s) := by
  simp only [List.cons_subset] at h
  simp [execMonResp, h, ho, monLineFlds_subset, monAnswerFlds_subset]

@[simp] theorem Dev.view_monBlk (d : Dev) (n total crc : Nat) (l : List Nat) (h : monAnswerFlds ++ [F.UPD_BLK_IDX0_BLOCK, F.UPD_BLK_IDX1_TOTAL,
      F.UPD_BLK_IDX2_CRC, F.UPD_BWIN_W, F.UPD_SL_BLKS_DONE, F.UPD_SL_BLKS_TOTAL, F.UPD_SL_BUILD_BUILD] ⊆ κ.flds) :
    (d.monBlk n total crc l).view κ = d.view κ := by
  simp only [List.append_subset, List.cons_subset] at h
  have hb : ∀ (d : Dev) (l : List Nat), (d.each (List.range 1024) (fun w a => a.set F.UPD_BWIN_W w (leAt l (4 * w) 4))).view κ = d.view κ :=
    fun d l => Dev.view_each _ _ _ fun w a => by simp [h]
  unfold Dev.monBlk
  split
  · simp +decide [h]
  extract_lets d1 d2 d3 d4 d5
  have h1 : d1.view κ = d.view κ := by simp +decide [d1]
  have h2 : d2.view κ = d1.view κ := by simp +decide [h, d2]
  have h3 : d3.view κ = d1.view κ := by simp +decide [d3, hb]
  have h4 : d4.view κ = d3.view κ := by simp +decide [h, d4]
  have h5 : d5.view κ = d4.view κ := by simp +decide [h, d5]
  split <;> simp +decide [h, h1, h2, h3, h4, h5]

@[simp] theorem kept_execMonBlk (n total crc : BitVec 32) (l : List Byte) (s : State) (h : [F.MON_LAST_CMD, F.MON_LAST_CODE, F.MON_STAT_ERRS,
      F.MON_STAT_LINES, F.MON_TLAST_T, F.UPD_BLK_IDX0_BLOCK, F.UPD_BLK_IDX1_TOTAL, F.UPD_BLK_IDX2_CRC, F.UPD_BWIN_W, F.UPD_SL_BLKS_DONE, F.UPD_SL_BLKS_TOTAL,
      F.UPD_SL_BUILD_BUILD] ⊆ κ.flds) :
    Kept κ s (execMonBlk n total crc l s) := by
  simp only [List.cons_subset] at h
  simp [execMonBlk, h, monLineFlds_subset, monAnswerFlds_subset]

@[simp] theorem Dev.view_monReset (d : Dev) (h : monAnswerFlds ⊆ κ.flds) : d.monReset.view κ = d.view κ := by
  simp +decide [Dev.monReset, h]

@[simp] theorem kept_execMonReset (s : State) (h : [F.MON_LAST_CMD, F.MON_LAST_CODE, F.MON_STAT_ERRS, F.MON_STAT_LINES, F.MON_TLAST_T] ⊆ κ.flds) :
    Kept κ s (execMonReset s) := by
  simp only [List.cons_subset] at h
  simp [execMonReset, h, monLineFlds_subset, monAnswerFlds_subset]

@[simp] theorem Dev.view_monCrc (d : Dev) (h : [F.MON_LAST_CMD, F.MON_LAST_CODE, F.MON_STAT_ERRS] ⊆ κ.flds) : d.monCrc.view κ = d.view κ := by
  simp only [List.cons_subset] at h
  simp [Dev.monCrc, h]

@[simp] theorem Dev.view_monSyntax (d : Dev) (h : monLineFlds ⊆ κ.flds) : d.monSyntax.view κ = d.view κ := by
  simp only [monLineFlds_subset, List.cons_subset] at h
  simp [Dev.monSyntax, h, monAnswerFlds_subset]

@[simp] theorem Dev.view_monTimeout (d : Dev) (h : [F.MON_LAST_CMD, F.MON_LAST_CODE, F.MON_STAT_ERRS] ⊆ κ.flds) : d.monTimeout.view κ = d.view κ := by
  simp only [List.cons_subset] at h
  simp [Dev.monTimeout, h]

@[simp] theorem kept_execMonBlockTimeout (s : State) (h : [F.MON_LAST_CMD, F.MON_LAST_CODE, F.MON_STAT_ERRS, F.MON_STAT_LINES, F.MON_TLAST_T] ⊆ κ.flds) :
    Kept κ s (execMonBlockTimeout s) := by
  simp only [List.cons_subset] at h
  simp [execMonBlockTimeout, h, monLineFlds_subset, monAnswerFlds_subset]

end Sys2Proof.Machine
end

section
/-! ## The frames that the statements name -/

namespace Sys2Proof.Machine

section
variable {i : Instr} {s t : State} {l : List Fld} {g m o p : Bool}

theorem fieldsKept_of_view (h : t.view ⟨l, g, m, o, p⟩ = s.view ⟨l, g, m, o, p⟩) : FieldsKept s t l :=
  fun f hf j => congrFun (congrFun (congrArg (fun v => v.1.1) h) ⟨f, hf⟩) j

theorem regFrame_of_view (h : t.view ⟨l, false, m, o, p⟩ = s.view ⟨l, false, m, o, p⟩) : RegFrame s t l :=
  ⟨fieldsKept_of_view h, Option.some.inj (congrArg (fun v => v.1.2) h)⟩

theorem mem_of_view (h : t.view ⟨l, g, false, o, p⟩ = s.view ⟨l, g, false, o, p⟩) : t.mem = s.mem :=
  Option.some.inj (congrArg (fun v => v.2.1) h)

theorem log_of_view (h : t.view ⟨l, g, m, false, p⟩ = s.view ⟨l, g, m, false, p⟩) : t.log = s.log :=
  Option.some.inj (congrArg (fun v => v.2.2.1) h)

theorem otp_of_view (h : t.view ⟨l, g, m, o, false⟩ = s.view ⟨l, g, m, o, false⟩) : t.otp = s.otp :=
  Option.some.inj (congrArg (fun v => v.2.2.2) h)

theorem answers_frame (h : Kept { flds := l } s (exec i s)) : Answers i s (fun t => RegFrame s t l ∧ OutsideKept s t) :=
  h.imp fun _ ⟨he, hv⟩ => ⟨he, regFrame_of_view hv, mem_of_view hv, log_of_view hv, otp_of_view hv⟩

/-- The frame of a command that moves Grove time. -/
theorem answers_frame_grove (h : Kept { flds := l, grove := true } s (exec i s)) :
    Answers i s (fun t => FieldsKept s t l ∧ OutsideKept s t) :=
  h.imp fun _ ⟨he, hv⟩ => ⟨he, fieldsKept_of_view hv, mem_of_view hv, log_of_view hv, otp_of_view hv⟩

/-- The frame of a command that may write memory. -/
theorem answers_frame_mem (h : Kept { flds := l, mem := true } s (exec i s)) :
    Answers i s (fun t => RegFrame s t l ∧ t.log = s.log ∧ t.otp = s.otp) :=
  h.imp fun _ ⟨he, hv⟩ => ⟨he, regFrame_of_view hv, log_of_view hv, otp_of_view hv⟩

/-- The frame of a command that may write the log. -/
theorem answers_frame_log (h : Kept { flds := l, log := true } s (exec i s)) :
    Answers i s (fun t => RegFrame s t l ∧ t.mem = s.mem ∧ t.otp = s.otp) :=
  h.imp fun _ ⟨he, hv⟩ => ⟨he, regFrame_of_view hv, mem_of_view hv, otp_of_view hv⟩

/-- The frame of a command that may write OTP. -/
theorem answers_frame_otp (h : Kept { flds := l, otp := true } s (exec i s)) :
    Answers i s (fun t => RegFrame s t l ∧ t.mem = s.mem ∧ t.log = s.log) :=
  h.imp fun _ ⟨he, hv⟩ => ⟨he, regFrame_of_view hv, mem_of_view hv, log_of_view hv⟩

/-- The frame of a command that is one operation of the device. -/
theorem answers_upd {k : Dev → Dev} (hi : exec i s = s.upd k) (hk : (k s.dev).view { flds := l } = s.dev.view { flds := l }) :
    Answers i s (fun t => RegFrame s t l ∧ OutsideKept s t) :=
  answers_frame (hi ▸ (kept_upd s k).mpr hk)

end

/-- Settles O55, one line per command in the statement's order: the footprint of the command's meaning is the list of its clause. -/
theorem registersClearingTimeAndLogFrames : Obligations.RegistersClearingTimeAndLogFrames :=
  ⟨fun _ => answers_upd (k := Dev.dramTrained) rfl (Dev.view_dramTrained _ (List.Subset.refl _)),
   fun _ _ => answers_frame_mem (kept_execDataPlaneLoadDone _ _ (List.Subset.refl _) rfl),
   fun _ _ => answers_frame_mem (kept_execDataPlaneRelease _ _ (List.Subset.refl _) rfl),
   fun _ slot => answers_upd (k := fun d => d.softDone slot.toNat) rfl (Dev.view_softDone _ _ (List.Subset.refl _)),
   fun _ upd => answers_upd (k := fun d => d.reenable (if upd then 0x30 else 0x05)) rfl (Dev.view_reenable _ _ List.mem_cons_self),
   fun _ _ _ => answers_frame (kept_execClrCommit _ _ _ (List.Subset.refl _)),
   fun _ _ _ _ => answers_frame (kept_execClrBufferWrite _ _ _ _ (List.Subset.refl _)),
   fun _ _ _ => answers_frame (kept_execClrSlotCfgWrite _ _ _ (List.Subset.refl _)),
   fun _ i => answers_upd (k := fun d => d.staleTimeout i) rfl (Dev.view_staleTimeout _ _ (List.Subset.refl _)),
   fun _ i => answers_upd (k := fun d => d.withdrawalTimeout i) rfl (Dev.view_withdrawalTimeout _ _ (List.Subset.refl _)),
   fun _ a slot off wr => answers_upd (k := fun d => d.unmapped a slot.toNat off.toNat wr) rfl (Dev.view_unmapped _ _ _ _ _),
   fun _ _ _ _ => answers_frame (kept_execChselWrite _ _ _ _ List.mem_cons_self),
   fun _ a slot off => answers_upd (k := fun d => d.pairLowRead a slot.toNat off.toNat) rfl (Dev.view_pairLowRead _ _ _ _),
   fun _ a slot off => answers_upd (k := fun d => d.pairHighRead a slot.toNat off.toNat) rfl (Dev.view_pairHighRead _ _ _ _),
   fun _ _ _ _ => answers_frame (kept_execBlockEnWrite _ _ _ _ (List.Subset.refl _)),
   fun _ slot => answers_upd (k := fun d => d.runChange slot.toNat) rfl (Dev.view_runChange _ _ (List.Subset.refl _)),
   fun _ _ _ _ => answers_frame (kept_execApplyGo _ _ _ _ List.mem_cons_self),
   fun _ => answers_frame_grove (kept_execMsTick _ (List.Subset.refl _) rfl),
   fun _ => answers_upd (k := Dev.steeringRecord) rfl (Dev.view_steeringRecord _ (List.Subset.refl _)),
   fun _ => answers_upd (k := Dev.holdoverTimeout) rfl (Dev.view_holdoverTimeout _ (List.Subset.refl _)),
   fun _ _ _ => answers_frame (kept_execSteerEnableWrite _ _ _ (List.Subset.refl _)),
   fun _ => answers_frame_grove (kept_execTimeStep _ (List.Subset.refl _) rfl),
   fun _ _ => answers_frame_grove (kept_execTimeSetgo _ _ (List.Subset.refl _) rfl),
   fun _ => answers_upd (k := Dev.holdoverBoundExceeded) rfl (Dev.view_holdoverBoundExceeded _),
   fun _ _ _ => answers_frame (kept_execTrigArm _ _ _ (List.Subset.refl _)),
   fun _ _ _ => answers_frame (kept_execTrigDisarm _ _ _ (List.Subset.refl _)),
   fun _ e => answers_upd (k := fun d => d.trigFire e) rfl (Dev.view_trigFire _ _ (List.Subset.refl _)),
   fun _ e => answers_upd (k := fun d => d.trigPulseEnd e) rfl (Dev.view_trigPulseEnd _ _),
   fun _ => answers_upd (k := Dev.eccCe) rfl (Dev.view_eccCe _ List.mem_cons_self),
   fun _ blk src => answers_upd (k := fun d => d.eccUe blk.toNat src.toNat) rfl (Dev.view_eccUe _ _ _ (List.Subset.refl _)),
   fun _ found => answers_upd (k := fun d => d.patrolScrub found) rfl (Dev.view_patrolScrub _ _ (List.Subset.refl _)),
   fun _ _ _ _ _ => answers_frame_mem (kept_execIommuFault _ _ _ _ _ (List.Subset.refl _) rfl),
   fun _ => answers_frame_mem (kept_execIotinvalVma _ (List.Subset.refl _) rfl),
   fun _ => answers_frame_mem (kept_execIotinvalGvma _ (List.Subset.refl _) rfl),
   fun _ => answers_frame_mem (kept_execIodirInvalDdt _ (List.Subset.refl _) rfl),
   fun _ => answers_frame_mem (kept_execIofenceC _ (List.Subset.refl _) rfl),
   fun _ b out => answers_upd (k := fun d => d.mismatch b out.toNat (if b then 2 else 1)) rfl (Dev.view_mismatch _ _ _ _ (List.Subset.refl _)),
   fun _ _ _ _ => answers_frame (kept_execLockstepInject _ _ _ _ (List.Subset.refl _)),
   fun _ => answers_upd (k := Dev.watchdog) rfl (Dev.view_watchdog _ (List.Subset.refl _)),
   fun _ x => answers_upd (k := fun d => d.ctlReq x) rfl (Dev.view_ctlReq _ _),
   fun _ x => answers_upd (k := fun d => d.dataReq x) rfl (Dev.view_dataReq _ _),
   fun _ a => answers_upd (k := fun d => d.rstReq a V.modReq 3) rfl (Dev.view_rstReq _ _ _ _ (by decide)),
   fun _ _ _ _ _ => answers_frame (kept_execChallengeRequest _ _ _ _ _ (List.Subset.refl _)),
   fun _ _ _ => answers_frame_otp (kept_execResponseSubmit _ _ _ (List.Subset.refl _) rfl),
   fun _ => answers_frame (kept_execChallengeExpiry _ List.mem_cons_self),
   fun _ => answers_upd (k := Dev.errorReport) rfl (Dev.view_errorReport _ (List.Subset.refl _)),
   fun _ _ _ => answers_frame_log (kept_execRecordWrite _ _ _ (List.Subset.refl _) rfl),
   fun _ ctl => answers_upd (k := fun d => d.shrdLog ctl) rfl (Dev.view_shrdLog _ _ (List.Subset.refl _)),
   fun _ _ => answers_frame (kept_execShrdRead _ _ (List.Subset.refl _)),
   fun _ ctl => answers_upd (k := fun d => d.shrdBad ctl) rfl (Dev.view_shrdBad _ _ (List.Subset.refl _)),
   fun _ _ _ => answers_frame (kept_execSagrAck _ _ _ (List.Subset.refl _)),
   fun _ _ _ _ => answers_frame (kept_execSagrRaise _ _ _ _ (List.Subset.refl _)),
   fun _ => answers_frame (kept_execKilnQuiesced _ List.mem_cons_self),
   fun _ => answers_frame (kept_execKilnAgeHour _ (List.Subset.refl _)),
   fun _ _ => answers_frame (kept_execConeSweepGo _ _ (List.Subset.refl _)),
   fun _ => answers_upd (k := Dev.conePeriodic) rfl (Dev.view_conePeriodic _ (List.Subset.refl _)),
   fun _ => answers_frame (kept_execConeSweepDone _ List.mem_cons_self)⟩

/-- Settles O56, one line per command of GNRF, GNAQ, GNTK and GNTP: the footprint of its meaning is the list of its clause. -/
theorem gnssFrames : Obligations.GnssFrames :=
  ⟨fun _ i ma limit volt => answers_upd (k := fun d => d.antMeasure i ma.toNat limit volt) rfl (Dev.view_antMeasure _ _ _ _ _ (List.Subset.refl _)),
   fun _ i => answers_upd (k := fun d => d.antRetry i) rfl (Dev.view_antRetry _ _),
   fun _ _ _ => answers_frame (kept_execAntBiasWrite _ _ _ (List.Subset.refl _)),
   fun _ c => answers_upd (k := fun d => d.rfLinkLoss c) rfl (Dev.view_rfLinkLoss _ _ (List.Subset.refl _)),
   fun _ c => answers_upd (k := fun d => d.rfLinkRelock c) rfl (Dev.view_rfLinkRelock _ _ List.mem_cons_self),
   fun _ c => answers_upd (k := fun d => d.rfLinkCalibrated c) rfl (Dev.view_rfLinkCalibrated _ _ (List.Subset.refl _)),
   fun _ c => answers_upd (k := fun d => d.retuneEnd c) rfl (Dev.view_retuneEnd _ _),
   fun _ m => answers_upd (k := fun d => d.agcUpdate m.paths m.errs.toNat) rfl (Dev.view_agcUpdate _ _ _ (List.Subset.refl _)),
   fun _ p bins _ => answers_upd (k := fun d => d.spectralScan p bins) rfl (Dev.view_spectralScan _ _ _ (List.Subset.refl _)),
   fun _ p b _ => answers_upd (k := fun d => d.notchAssign p b) rfl (Dev.view_notchAssign _ _ _ (List.Subset.refl _)),
   fun _ p n => answers_upd (k := fun d => d.notchRelease p n) rfl (Dev.view_notchRelease _ _ _ (List.Subset.refl _)),
   fun _ _ _ => answers_frame (kept_execPathDisable _ _ _ (List.Subset.refl _)),
   fun _ _ => answers_frame (kept_execAcqGo _ _ (List.Subset.refl _)),
   fun _ _ => answers_frame (kept_execAcqAbort _ _ (List.Subset.refl _)),
   fun _ e => answers_upd (k := fun d => d.acqEntryStart e) rfl (Dev.view_acqEntryStart _ _ (List.Subset.refl _)),
   fun _ e => answers_upd (k := fun d => d.acqCaptureStart e) rfl (Dev.view_acqCaptureStart _ _ (List.Subset.refl _)),
   fun _ _ _ => answers_frame_mem (kept_execAcqCaptureEnd _ _ _ (List.Subset.refl _) rfl),
   fun _ _ _ _ => answers_frame_mem (kept_execAcqBinStep _ () () _ (List.Subset.refl _) rfl),
   fun _ e _ => answers_upd (k := fun d => d.acqEntryEnd e) rfl (Dev.view_acqEntryEnd _ _ (List.Subset.refl _)),
   fun _ _ _ _ _ _ => answers_frame (kept_execAcqEntryWrite _ _ _ _ _ _ (List.Subset.refl _)),
   fun _ _ => answers_frame (kept_execTrackStart _ _ (List.Subset.refl _)),
   fun _ _ => answers_frame (kept_execTrackStop _ _ (List.Subset.refl _)),
   fun _ c o => answers_upd (k := fun d => d.trkStep c o) rfl (Dev.view_trkStep _ _ _ (List.Subset.refl _)),
   fun _ x => answers_upd (k := fun d => d.pullinDone x.ch x.code x.dop) rfl (Dev.view_pullinDone _ _ _ _ List.mem_cons_self),
   fun _ c => answers_upd (k := fun d => d.pullinTimeout c) rfl (Dev.view_pullinTimeout _ _ (List.Subset.refl _)),
   fun _ c => answers_upd (k := fun d => d.phaseLock c) rfl (Dev.view_phaseLock _ _ List.mem_cons_self),
   fun _ c => answers_upd (k := fun d => d.lockLoss c) rfl (Dev.view_lockLoss _ _ (List.Subset.refl _)),
   fun _ c => answers_upd (k := fun d => d.coastEntry c) rfl (Dev.view_coastEntry _ _ (List.Subset.refl _)),
   fun _ c => answers_upd (k := fun d => d.coastRecover c) rfl (Dev.view_coastRecover _ _ List.mem_cons_self),
   fun _ c => answers_upd (k := fun d => d.coastEnd c) rfl (Dev.view_coastEnd _ _ (List.Subset.refl _)),
   fun _ _ _ _ => answers_frame (kept_execHalfCycleResolve _ _ _ _),
   fun _ _ _ _ => answers_frame (kept_execTowWrite _ _ _ _),
   fun _ => answers_upd (k := Dev.epochLatch) rfl (Dev.view_epochLatch _ (List.Subset.refl _)),
   fun _ => answers_frame_mem (kept_execEpochRecorded _ (List.Subset.refl _) rfl),
   fun _ _ _ _ _ => answers_frame_mem (kept_execNavRecord _ () () () _ (List.Subset.refl _) rfl),
   fun _ => answers_upd (k := Dev.jamCheck) rfl (Dev.view_jamCheck _ List.mem_cons_self),
   fun _ _ => answers_frame (kept_execJamLearn _ _),
   fun _ => answers_upd (k := Dev.jamLearnDone) rfl (Dev.view_jamLearnDone _ (List.Subset.refl _)),
   fun _ _ _ _ => answers_frame (kept_execPvtSpeedWrite _ _ _ _),
   fun _ _ _ _ _ => answers_frame (kept_execPvtSubmit _ _ _ _ _ (List.Subset.refl _)),
   fun _ _ => answers_frame (kept_execGuardRearm _ _ (List.Subset.refl _)),
   fun _ => answers_upd (k := Dev.timePulse) rfl (Dev.view_timePulse _ (List.Subset.refl _)),
   fun _ => answers_upd (k := Dev.timePulseEnd) rfl (Dev.view_timePulseEnd _)⟩

/-- Settles O57, one line per command of CNPY, EGO, NPU, CROP, AIN and SEG: the footprint of its meaning is the list of its clause. -/
theorem canopyCropAcousticAndPanelFrames : Obligations.CanopyCropAcousticAndPanelFrames :=
  ⟨fun _ _ _ => answers_frame_mem (kept_execLidarPost _ _ _ (List.Subset.refl _) rfl),
   fun _ i => answers_upd (k := fun d => d.senSilent i) rfl (Dev.view_senSilent _ _ (List.Subset.refl _)),
   fun _ _ _ => answers_frame (kept_execSensorEnWrite _ _ _ (List.Subset.refl _)),
   fun _ _ => answers_frame (kept_execSensorRecheck _ _ (List.Subset.refl _)),
   fun _ _ _ _ => answers_frame_mem (kept_execCalibrationCheckDone _ () () _ (List.Subset.refl _) rfl),
   fun _ i => answers_upd (k := fun d => d.checkNoref i) rfl (Dev.view_checkNoref _ _ (List.Subset.refl _)),
   fun _ _ _ => answers_frame (kept_execBankSwapRequest _ _ _ List.mem_cons_self),
   fun _ _ => answers_frame_mem (kept_execGridUpdate () _ (List.Subset.refl _) rfl),
   fun _ => answers_frame_mem (kept_execGridUpdateDone _ (List.Subset.refl _) rfl),
   fun _ i _ => answers_upd (k := fun d => d.residual i) rfl (Dev.view_residual _ _ (List.Subset.refl _)),
   fun _ _ _ => answers_frame (kept_execProjectionGo _ _ _ (List.Subset.refl _)),
   fun _ _ _ _ => answers_frame_mem (kept_execProjectionDone () () () _ (List.Subset.refl _) rfl),
   fun _ _ => answers_frame (kept_execGridClear _ _),
   fun _ _ => answers_frame_mem (kept_execEgoStep _ _ (List.Subset.refl _) rfl),
   fun _ => answers_upd (k := Dev.egoInvalid) rfl (Dev.view_egoInvalid _ (List.Subset.refl _)),
   fun _ => answers_upd (k := Dev.egoStill) rfl (Dev.view_egoStill _ (List.Subset.refl _)),
   fun _ => answers_upd (k := Dev.slipUnknown) rfl (Dev.view_slipUnknown _ (List.Subset.refl _)),
   fun _ _ => answers_frame (kept_execEgoReset _ _ List.mem_cons_self),
   fun _ _ _ => answers_frame (kept_execNpuJobGo _ _ _ List.mem_cons_self),
   fun _ _ _ _ => answers_frame (kept_execNpuJobEnable _ _ _ _ (List.Subset.refl _)),
   fun _ => answers_frame_mem (kept_execNpuJobStart _ (List.Subset.refl _) rfl),
   fun _ _ => answers_frame_mem (kept_execNpuJobDone _ _ (List.Subset.refl _) rfl),
   fun _ => answers_upd (k := Dev.jobLimit) rfl (Dev.view_jobLimit _ (List.Subset.refl _)),
   fun _ _ => answers_frame (kept_execNpuAbort _ _ (List.Subset.refl _)),
   fun _ x => answers_upd (k := fun d => d.acuImpact x.ch x.x) rfl (Dev.view_acuImpact _ _ _),
   fun _ c x _ _ => answers_upd (k := fun d => d.acuClassify c x) rfl (Dev.view_acuClassify _ _ _),
   fun _ x => answers_upd (k := fun d => d.acuRearm x.ch x.x) rfl (Dev.view_acuRearm _ _ _),
   fun _ x => answers_upd (k := fun d => d.acuPile x.ch x.x) rfl (Dev.view_acuPile _ _ _),
   fun _ clip => answers_upd (k := fun d => d.acuWindow clip.toNat) rfl (Dev.view_acuWindow _ _ List.mem_cons_self),
   fun _ => answers_upd (k := Dev.acuPublish) rfl (Dev.view_acuPublish _ (List.Subset.refl _)),
   fun _ _ _ => answers_frame (kept_execAcousticSnapArm _ _ _ (List.Subset.refl _)),
   fun _ l => answers_upd (k := fun d => d.snapDone l) rfl (Dev.view_snapDone _ _ (List.Subset.refl _)),
   fun _ => answers_upd (k := Dev.cropTickDo) rfl (Dev.view_cropTickDo _ (List.Subset.refl _)),
   fun _ => answers_upd (k := Dev.flowStale) rfl (Dev.view_flowStale _ List.mem_cons_self),
   fun _ => answers_frame_mem (kept_execSamplingPass _ (List.Subset.refl _)),
   fun _ => answers_upd (k := Dev.parcelArrival) rfl (Dev.view_parcelArrival _ (List.Subset.refl _)),
   fun _ t => answers_upd (k := fun d => d.tapCommit t) rfl (Dev.view_tapCommit _ _ (List.Subset.refl _)),
   fun _ _ _ _ => answers_frame (kept_execTapEnable _ _ _ _ (List.Subset.refl _)),
   fun _ _ => answers_frame (kept_execLineClear _ _ (List.Subset.refl _)),
   fun _ _ => answers_frame (kept_execStageClear _ _),
   fun _ => answers_frame_mem (kept_execYieldPair _ (List.Subset.refl _) rfl),
   fun _ _ _ => answers_frame (kept_execPanelCommit _ _ _ (List.Subset.refl _)),
   fun _ vr vs => answers_upd (k := fun d => d.segStart vr.toNat vs.toNat) rfl (Dev.view_segStart _ _ _ (List.Subset.refl _)),
   fun _ => answers_upd (k := Dev.segSelect) rfl (Dev.view_segSelect _),
   fun _ => answers_upd (k := Dev.segEvolve) rfl (Dev.view_segEvolve _),
   fun _ ok => answers_upd (k := fun d => d.segEnd ok) rfl (Dev.view_segEnd _ _ (List.Subset.refl _)),
   fun _ => answers_upd (k := Dev.segTimeout) rfl (Dev.view_segTimeout _ (List.Subset.refl _)),
   fun _ t => answers_upd (k := fun d => d.segTemp (t.map (·.toInt))) rfl (Dev.view_segTemp _ _ (List.Subset.refl _)),
   fun _ _ => answers_frame (kept_execStressClear _ _ List.mem_cons_self)⟩

/-- Settles O58, one line per command of WHL, SOL and LSW: the footprint of its meaning is the list of its clause. -/
theorem wheelSolAndLoadSwitchFrames : Obligations.WheelSolAndLoadSwitchFrames :=
  ⟨fun _ k x => answers_upd (k := fun d => d.lpSample k x) rfl (Dev.view_lpSample _ _ _ (List.Subset.refl _)),
   fun _ k => answers_upd (k := fun d => d.lpEval k) rfl (Dev.view_lpEval _ _ (List.Subset.refl _)),
   fun _ k => answers_upd (k := fun d => d.lpApply k) rfl (Dev.view_lpApply _ _ (List.Subset.refl _)),
   fun _ _ => answers_frame (kept_execLoopEnable _ _ (List.Subset.refl _)),
   fun _ _ => answers_frame (kept_execLoopDisable _ _ (List.Subset.refl _)),
   fun _ _ => answers_frame (kept_execCoeffSwap _ _ List.mem_cons_self),
   fun _ _ _ => answers_frame (kept_execSwapMaskWrite _ _ _ List.mem_cons_self),
   fun _ _ => answers_frame (kept_execLoopClearStats _ _ (List.Subset.refl _)),
   fun _ _ => answers_frame (kept_execLaneClear _ _ (List.Subset.refl _)),
   fun _ _ _ _ _ => answers_frame (kept_execTableEntryWrite _ _ _ _ _ (List.Subset.refl _)),
   fun _ _ _ _ => answers_frame (kept_execPortEnable _ _ _ _ List.mem_cons_self),
   fun _ _ _ => answers_frame (kept_execEventRequest _ _ _ (List.Subset.refl _)),
   fun _ _ _ => answers_frame (kept_execCurrentSetpoint _ _ _ (List.Subset.refl _)),
   fun _ _ => answers_frame (kept_execQueuePush _ _ (List.Subset.refl _)),
   fun _ _ => answers_frame (kept_execQueueFlush _ _ (List.Subset.refl _)),
   fun _ c => answers_upd (k := fun d => d.queueDue c) rfl (Dev.view_queueDue _ _ (List.Subset.refl _)),
   fun _ _ _ => answers_frame (kept_execEventStart _ _ _ (List.Subset.refl _)),
   fun _ c => answers_upd (k := fun d => d.overlapDrop c) rfl (Dev.view_overlapDrop _ _ (List.Subset.refl _)),
   fun _ _ _ => answers_frame (kept_execBoostWaitExpiry _ _ _ (List.Subset.refl _)),
   fun _ m => answers_upd (k := fun d => d.peakReached m.ch m.val.toNat) rfl (Dev.view_peakReached _ _ _ (List.Subset.refl _)),
   fun _ c => answers_upd (k := fun d => d.boostTimeout c) rfl (Dev.view_boostTimeout _ _ (List.Subset.refl _)),
   fun _ c => answers_upd (k := fun d => d.peakEnd c) rfl (Dev.view_peakEnd _ _ (List.Subset.refl _)),
   fun _ c => answers_upd (k := fun d => d.eventEnd c) rfl (Dev.view_eventEnd _ _ (List.Subset.refl _)),
   fun _ m => answers_upd (k := fun d => d.decayEnd m.ch m.val.toNat) rfl (Dev.view_decayEnd _ _ _ (List.Subset.refl _)),
   fun _ x => answers_upd (k := fun d => d.kinkDetect x) rfl (Dev.view_kinkDetect _ _ List.mem_cons_self),
   fun _ c => answers_upd (k := fun d => d.kinkEnd c) rfl (Dev.view_kinkEnd _ _ (List.Subset.refl _)),
   fun _ _ => answers_frame (kept_execSolShort _ _ (List.Subset.refl _)),
   fun _ _ => answers_frame (kept_execHsShort _ _ (List.Subset.refl _)),
   fun _ _ => answers_frame (kept_execSolOvertemp _ _ (List.Subset.refl _)),
   fun _ m => answers_upd (k := fun d => d.solOpenLoad m.ch m.val.toNat) rfl (Dev.view_solOpenLoad _ _ _ (List.Subset.refl _)),
   fun _ _ _ => answers_frame (kept_execSolClearFault _ _ _ (List.Subset.refl _)),
   fun _ _ _ => answers_frame (kept_execSolChannelEnable _ _ _ (List.Subset.refl _)),
   fun _ _ _ _ => answers_frame (kept_execBoostEnable _ _ _ _ (List.Subset.refl _)),
   fun _ b rail => answers_upd (k := fun d => d.boostFault b rail.toNat) rfl (Dev.view_boostFault _ _ _ (List.Subset.refl _)),
   fun _ b rail => answers_upd (k := fun d => d.boostClear b rail.toNat) rfl (Dev.view_boostClear _ _ _ (List.Subset.refl _)),
   fun _ _ _ => answers_frame (kept_execLswOnWrite _ _ _ (List.Subset.refl _)),
   fun _ _ _ => answers_frame (kept_execLswChannelEnable _ _ _ (List.Subset.refl _)),
   fun _ st => answers_upd (k := fun d => d.studStep st) rfl (Dev.view_studStep _ _ (List.Subset.refl _)),
   fun _ st => answers_upd (k := fun d => d.loadShed st) rfl (Dev.view_loadShed _ _ (List.Subset.refl _)),
   fun _ st => answers_upd (k := fun d => d.studOverload st) rfl (Dev.view_studOverload _ _ List.mem_cons_self),
   fun _ st => answers_upd (k := fun d => d.shedReturn st) rfl (Dev.view_shedReturn _ _ (List.Subset.refl _)),
   fun _ slot cur => answers_upd (k := fun d => d.senseConv slot cur.toNat) rfl (Dev.view_senseConv _ _ _ (List.Subset.refl _)),
   fun _ c cur => answers_upd (k := fun d => d.shortTrip c cur.toNat) rfl (Dev.view_shortTrip _ _ _ (List.Subset.refl _)),
   fun _ c => answers_upd (k := fun d => d.inrushEnd c) rfl (Dev.view_inrushEnd _ _ (List.Subset.refl _)),
   fun _ c => answers_upd (k := fun d => d.wireStep c) rfl (Dev.view_wireStep _ _ (List.Subset.refl _)),
   fun _ _ => answers_frame (kept_execLswClearFault _ _ (List.Subset.refl _)),
   fun _ c tj => answers_upd (k := fun d => d.junction c tj.toNat) rfl (Dev.view_junction _ _ _ (List.Subset.refl _)),
   fun _ c => answers_upd (k := fun d => d.autoRestart c) rfl (Dev.view_autoRestart _ _ (List.Subset.refl _)),
   fun _ => answers_upd (k := Dev.retryWindow) rfl (Dev.view_retryWindow _ List.mem_cons_self),
   fun _ c volt => answers_upd (k := fun d => d.openLoad c volt.toNat) rfl (Dev.view_openLoad _ _ _ (List.Subset.refl _)),
   fun _ st mv => answers_upd (k := fun d => d.crankHold st mv.toNat) rfl (Dev.view_crankHold _ _ _ (List.Subset.refl _)),
   fun _ st mv => answers_upd (k := fun d => d.crankEnd st mv.toNat) rfl (Dev.view_crankEnd _ _ _ (List.Subset.refl _)),
   fun _ st mv => answers_upd (k := fun d => d.brownOut st mv.toNat) rfl (Dev.view_brownOut _ _ _ (List.Subset.refl _)),
   fun _ st mv => answers_upd (k := fun d => d.brownEnd st mv.toNat) rfl (Dev.view_brownEnd _ _ _ (List.Subset.refl _)),
   fun _ => answers_upd (k := Dev.undervolt) rfl (Dev.view_undervolt _ (List.Subset.refl _)),
   fun _ => answers_upd (k := Dev.undervoltEnd) rfl (Dev.view_undervoltEnd _ (List.Subset.refl _)),
   fun _ c => answers_upd (k := fun d => d.staggered c) rfl (Dev.view_staggered _ _ (List.Subset.refl _)),
   fun _ p => answers_upd (k := fun d => d.pscLoss p) rfl (Dev.view_pscLoss _ _ (List.Subset.refl _)),
   fun _ p => answers_upd (k := fun d => d.pscHoldEnd p) rfl (Dev.view_pscHoldEnd _ _ (List.Subset.refl _)),
   fun _ p => answers_upd (k := fun d => d.pscRelock p) rfl (Dev.view_pscRelock _ _ (List.Subset.refl _)),
   fun _ _ _ => answers_frame (kept_execPscAck _ _ _ (List.Subset.refl _)),
   fun _ b rail => answers_upd (k := fun d => d.railReady b rail.toNat) rfl (Dev.view_railReady _ _ _ (List.Subset.refl _))⟩

/-- Settles O59, one line per command of FBRK, BUS, FLT, ETH, RIDE and DMA: the footprint of its meaning is the list of its clause. -/
theorem firebreakBusAndLinkFrames : Obligations.FirebreakBusAndLinkFrames :=
  ⟨fun _ p => answers_upd (k := fun d => d.gptpAnnounce p) rfl (Dev.view_gptpAnnounce _ _ List.mem_cons_self),
   fun _ p => answers_upd (k := fun d => d.gptpSync p) rfl (Dev.view_gptpSync _ _ (List.Subset.refl _)),
   fun _ p ok dly ratio => answers_upd (k := fun d => d.gptpPdelay p ok dly.toNat ratio.toNat) rfl (Dev.view_gptpPdelay _ _ _ _ _ (List.Subset.refl _)),
   fun _ p => answers_upd (k := fun d => d.gptpForeign p) rfl (Dev.view_gptpForeign _ _ (List.Subset.refl _)),
   fun _ c => answers_upd (k := fun d => d.canTimeRef c) rfl (Dev.view_canTimeRef _ _ (List.Subset.refl _)),
   fun _ e => answers_upd (k := fun d => d.trigMessage e) rfl (Dev.view_trigMessage _ _ (List.Subset.refl _)),
   fun _ x => answers_upd (k := fun d => d.avtpPacket x) rfl (Dev.view_avtpPacket _ _ (List.Subset.refl _)),
   fun _ x => answers_upd (k := fun d => d.avtpFrameEnd x) rfl (Dev.view_avtpFrameEnd _ _ (List.Subset.refl _)),
   fun _ p b => answers_upd (k := fun d => d.testPulse (2 * p + bit b)) rfl (Dev.view_testPulse _ _),
   fun _ x => answers_upd (k := fun d => d.safeSample x) rfl (Dev.view_safeSample _ _ (List.Subset.refl _)),
   fun _ p => answers_upd (k := fun d => d.testSource p) rfl (Dev.view_testSource _ _ (List.Subset.refl _)),
   fun _ p => answers_upd (k := fun d => d.discTimeout p) rfl (Dev.view_discTimeout _ _ (List.Subset.refl _)),
   fun _ x off => answers_upd (k := fun d => d.fbCycle x off.toNat) rfl (Dev.view_fbCycle _ _ _ (List.Subset.refl _)),
   fun _ _ _ => answers_frame (kept_execGroupRestart _ _ _),
   fun _ _ _ => answers_frame (kept_execFbrkEnable _ _ _ (List.Subset.refl _)),
   fun _ => answers_frame (kept_execReadbackFault _ (List.Subset.refl _)),
   fun _ err => answers_upd (k := fun d => d.buttonPulse err) rfl (Dev.view_buttonPulse _ _ (List.Subset.refl _)),
   fun _ => answers_upd (k := Dev.windowTimeout) rfl (Dev.view_windowTimeout _ List.mem_cons_self),
   fun _ => answers_upd (k := Dev.buttonStuck) rfl (Dev.view_buttonStuck _ List.mem_cons_self),
   fun _ _ _ _ _ => answers_frame (kept_execFaultResetKey _ _ _ _ _ (List.Subset.refl _)),
   fun _ _ => answers_frame (kept_execReactClear _ _ List.mem_cons_self),
   fun _ c f dur => answers_upd (k := fun d => d.canReceived c f dur.toNat) rfl (Dev.view_canReceived _ _ _ _ (List.Subset.refl _)),
   fun _ => answers_upd (k := Dev.canStored) rfl (Dev.view_canStored _ (List.Subset.refl _)),
   fun _ _ _ => answers_frame (kept_execTransmitRequest _ _ _ (List.Subset.refl _)),
   fun _ c b res dur => answers_upd (k := fun d => d.txEnd c b res dur.toNat) rfl (Dev.view_txEnd _ _ _ _ _ (List.Subset.refl _)),
   fun _ _ _ _ => answers_frame (kept_execTransmitAbort _ _ _ _ (List.Subset.refl _)),
   fun _ c => answers_upd (k := fun d => d.busOff c) rfl (Dev.view_busOff _ _ (List.Subset.refl _)),
   fun _ c => answers_upd (k := fun d => d.busOffEnd c) rfl (Dev.view_busOffEnd _ _ (List.Subset.refl _)),
   fun _ _ _ _ => answers_frame (kept_execNdatClear _ _ _ _ (List.Subset.refl _)),
   fun _ c => answers_upd (k := fun d => d.fbMessageSend c) rfl (Dev.view_fbMessageSend _ _ (List.Subset.refl _)),
   fun _ _ _ => answers_frame (kept_execAddressClaim _ _ _ (List.Subset.refl _)),
   fun _ n => answers_upd (k := fun d => d.claimSettled n) rfl (Dev.view_claimSettled _ _ (List.Subset.refl _)),
   fun _ n _ => answers_upd (k := fun d => d.claimContention n) rfl (Dev.view_claimContention _ _ (List.Subset.refl _)),
   fun _ n => answers_upd (k := fun d => d.cannotClaim n) rfl (Dev.view_cannotClaim _ _ List.mem_cons_self),
   fun _ n => answers_upd (k := fun d => d.claimRequest n) rfl (Dev.view_claimRequest _ _),
   fun _ sa => answers_upd (k := fun d => d.partnerTimeout sa) rfl (Dev.view_partnerTimeout _ _ List.mem_cons_self),
   fun _ _ _ => answers_frame (kept_execCanChannelEnable _ _ _ (List.Subset.refl _)),
   fun _ x occ => answers_upd (k := fun d => d.ethForward x occ.toNat) rfl (Dev.view_ethForward _ _ _ (List.Subset.refl _)),
   fun _ => answers_upd (k := Dev.fdbAgeing) rfl (Dev.view_fdbAgeing _ (List.Subset.refl _)),
   fun _ p => answers_upd (k := fun d => d.gateEntry p) rfl (Dev.view_gateEntry _ _ List.mem_cons_self),
   fun _ _ _ _ _ => answers_frame_mem (kept_execHostReceive _ () () () _ (List.Subset.refl _) rfl),
   fun _ _ => answers_frame_mem (kept_execHostTransmit _ _ (List.Subset.refl _) rfl),
   fun _ _ _ => answers_frame (kept_execEthPortEnable _ _ _ (List.Subset.refl _)),
   fun _ p up sqi => answers_upd (k := fun d => d.ethLinkChange p up sqi.toNat) rfl (Dev.view_ethLinkChange _ _ _ _ (List.Subset.refl _)),
   fun _ => answers_upd (k := Dev.rideCycle) rfl (Dev.view_rideCycle _ (List.Subset.refl _)),
   fun _ _ _ _ _ _ _ => answers_frame (kept_execRideUpReceived _ _ _ _ _ () _ (List.Subset.refl _)),
   fun _ _ => answers_frame (kept_execRideOutputCommit _ _),
   fun _ => answers_upd (k := Dev.rideSecond) rfl (Dev.view_rideSecond _),
   fun _ up p => answers_upd (k := fun d => d.rideLinkUp (upNode up) p) rfl (Dev.view_rideLinkUp _ _ _),
   fun _ x => answers_upd (k := fun d => d.rideHelloIn x) rfl (Dev.view_rideHelloIn _ _ (List.Subset.refl _)),
   fun _ up p => answers_upd (k := fun d => d.rideDown (upNode up) p) rfl (Dev.view_rideDown _ _ _ (List.Subset.refl _)),
   fun _ _ => answers_frame (kept_execRideTableClear _ _ (List.Subset.refl _)),
   fun _ _ _ _ => answers_frame (kept_execRidePortTake _ _ _ _ (List.Subset.refl _)),
   fun _ _ => answers_frame (kept_execDmaGo _ _ (List.Subset.refl _)),
   fun _ _ => answers_frame_mem (kept_execDmaDescriptorDone _ _ (List.Subset.refl _) rfl),
   fun _ c later => answers_upd (k := fun d => d.dmaFault c later) rfl (Dev.view_dmaFault _ _ _ (List.Subset.refl _)),
   fun _ c => answers_upd (k := fun d => d.dmaParked c) rfl (Dev.view_dmaParked _ _ (List.Subset.refl _)),
   fun _ _ => answers_frame_mem (kept_execDmaResume _ _ (List.Subset.refl _) rfl),
   fun _ _ => answers_frame_mem (kept_execDmaSkip _ _ (List.Subset.refl _) rfl),
   fun _ _ => answers_frame (kept_execDmaAbort _ _ (List.Subset.refl _)),
   fun _ c => answers_upd (k := fun d => d.dmaAbortDone c) rfl (Dev.view_dmaAbortDone _ _ (List.Subset.refl _)),
   fun _ _ _ => answers_frame (kept_execDmaEngineClear _ _ _ List.mem_cons_self),
   fun _ c => answers_upd (k := fun d => d.canIntegrated c) rfl (Dev.view_canIntegrated _ _ List.mem_cons_self),
   fun _ _ _ => answers_frame (kept_execCanBusError _ _ _ (List.Subset.refl _)),
   fun _ c f => answers_upd (k := fun d => d.trxFault c f) rfl (Dev.view_trxFault _ _ _ (List.Subset.refl _)),
   fun _ => answers_upd (k := Dev.buttonRise) rfl (Dev.view_buttonRise _ List.mem_cons_self),
   fun _ => answers_upd (k := Dev.ringReturn) rfl (Dev.view_ringReturn _ (List.Subset.refl _))⟩

/-- Settles O60, one line per command of PWR, UPD and MON: the footprint of its meaning is the list of its clause. -/
theorem powerUpdateAndMonitorFrames : Obligations.PowerUpdateAndMonitorFrames :=
  ⟨fun _ => answers_frame (kept_execUpdStage _ (List.Subset.refl _)),
   fun _ => answers_frame (kept_execUpdPush _ (List.Subset.refl _)),
   fun _ ctl => answers_upd (k := fun d => d.updActivate ctl) rfl (Dev.view_updActivate _ _ (List.Subset.refl _)),
   fun _ _ => answers_frame_otp (kept_execUpdConfirm _ _ (List.Subset.refl _) rfl),
   fun _ _ => answers_frame (kept_execUpdStatus _ _ (List.Subset.refl _)),
   fun _ ctl => answers_upd (k := fun d => d.updAbort ctl) rfl (Dev.view_updAbort _ _ (List.Subset.refl _)),
   fun _ ctl => answers_upd (k := fun d => d.updReboot ctl) rfl (Dev.view_updReboot _ _ (List.Subset.refl _)),
   fun _ ctl => answers_upd (k := fun d => d.updSread ctl) rfl (Dev.view_updSread _ _ (List.Subset.refl _)),
   fun _ ctl => answers_upd (k := fun d => d.updSwrite ctl) rfl (Dev.view_updSwrite _ _ (List.Subset.refl _)),
   fun _ ctl => answers_upd (k := fun d => d.updBad ctl) rfl (Dev.view_updBad _ _ (List.Subset.refl _)),
   fun _ _ => answers_frame (kept_execNorBlockWrite _ _ (List.Subset.refl _)),
   fun _ => answers_frame (kept_execStageDone _ (List.Subset.refl _)),
   fun _ => answers_upd (k := Dev.trialTimeout) rfl (Dev.view_trialTimeout _),
   fun _ => answers_upd (k := Dev.runProven) rfl (Dev.view_runProven _ List.mem_cons_self),
   fun _ x => answers_upd (k := fun d => d.bulkData x) rfl (Dev.view_bulkData _ _ (List.Subset.refl _)),
   fun _ n hi => answers_upd (k := fun d => d.bulkAck n hi.toNat) rfl (Dev.view_bulkAck _ _ _ (List.Subset.refl _)),
   fun _ => answers_upd (k := Dev.pushResend) rfl (Dev.view_pushResend _ List.mem_cons_self),
   fun _ _ => answers_frame (kept_execUpdBlockGo _ _ (List.Subset.refl _)),
   fun _ => answers_upd (k := Dev.supplyReturn) rfl (Dev.view_supplyReturn _ (List.Subset.refl _)),
   fun _ => answers_upd (k := Dev.holdupExpiry) rfl (Dev.view_holdupExpiry _),
   fun _ _ _ => answers_frame (kept_execHeartbeat _ _ _ List.mem_cons_self),
   fun _ => answers_upd (k := Dev.deadExpiry) rfl (Dev.view_deadExpiry _ (List.Subset.refl _)),
   fun _ => answers_upd (k := Dev.idleEntry) rfl (Dev.view_idleEntry _ (List.Subset.refl _)),
   fun _ => answers_upd (k := Dev.idleExit) rfl (Dev.view_idleExit _ (List.Subset.refl _)),
   fun _ ctl => answers_upd (k := fun d => d.modeStatus ctl) rfl (Dev.view_modeStatus _ _ (List.Subset.refl _)),
   fun _ ctl => answers_upd (k := fun d => d.shutAck ctl) rfl (Dev.view_shutAck _ _ (List.Subset.refl _)),
   fun _ ctl => answers_upd (k := fun d => d.modeBad ctl) rfl (Dev.view_modeBad _ _ (List.Subset.refl _)),
   fun _ => answers_upd (k := Dev.limpEntry) rfl (Dev.view_limpEntry _ (List.Subset.refl _)),
   fun _ => answers_upd (k := Dev.limpExit) rfl (Dev.view_limpExit _ (List.Subset.refl _)),
   fun _ => answers_frame_mem (kept_execMonitorWakeEnd _ (List.Subset.refl _) rfl),
   fun _ => answers_upd (k := Dev.shutNotice) rfl (Dev.view_shutNotice _ (List.Subset.refl _)),
   fun _ => answers_upd (k := Dev.shutWithdraw) rfl (Dev.view_shutWithdraw _ (List.Subset.refl _)),
   fun _ => answers_upd (k := Dev.graceEnd) rfl (Dev.view_graceEnd _ (List.Subset.refl _)),
   fun _ => answers_frame_mem (kept_execLadderDescend _ (List.Subset.refl _) rfl),
   fun _ => answers_frame (kept_execMonHello _ (List.Subset.refl _)),
   fun _ _ _ => answers_frame (kept_execMonLog _ _ _ (List.Subset.refl _)),
   fun _ _ => answers_frame (kept_execMonRd _ _ (List.Subset.refl _)),
   fun _ _ _ _ => answers_frame (kept_execMonChal _ _ _ _ (List.Subset.refl _)),
   fun _ _ _ _ => answers_frame_otp (kept_execMonResp _ _ _ _ (List.Subset.refl _) rfl),
   fun _ _ _ _ _ => answers_frame (kept_execMonBlk _ _ _ _ _ (List.Subset.refl _)),
   fun _ => answers_frame (kept_execMonReset _ (List.Subset.refl _)),
   fun _ => answers_upd (k := Dev.monCrc) rfl (Dev.view_monCrc _ (List.Subset.refl _)),
   fun _ => answers_upd (k := Dev.monSyntax) rfl (Dev.view_monSyntax _ (List.Subset.refl _)),
   fun _ => answers_upd (k := Dev.monTimeout) rfl (Dev.view_monTimeout _ (List.Subset.refl _)),
   fun _ => answers_frame (kept_execMonBlockTimeout _ (List.Subset.refl _)),
   fun _ => answers_upd (k := Dev.wakeLineFall) rfl (Dev.view_wakeLineFall _ List.mem_cons_self)⟩

end Sys2Proof.Machine
end

section
/-! ## Two statements of the architecture that fail

Each holds where nothing else is under way, and its hypotheses leave in a state where something is: a Kiln run whose end lets a held shutdown go on, and a soft
reset of CLR, during which R67 has a commit ignored. -/

namespace Sys2Proof.Machine

/-- A unit of life-cycle state FACTORY in LIMP: a Kiln run of K0 is in progress and holds a request for PARKED (R595), and WHL is enabled. -/
def parkingHeldByKiln : State :=
  st [(F.PWR_MODE_MODE, 0, 5), (F.PWR_MODE_PENDV, 0, 1), (F.PWR_MODE_PEND, 0, 1), (F.KILN_STATE_ST, 0, 3), (F.COM_CTRL_EN, 0x20, 1)]
    [(V.lcSt, 0, 1), (V.booted, 0, 1), (V.keeperUp, 0, 1), (V.kilnOn, 0, 1), (V.pwrHeld, 0, 1)]

theorem parkingHeldByKiln_whl_enabled : parkingHeldByKiln.dev.get F.COM_CTRL_EN 0x20 = 1 := by decide +kernel

/-- The soft reset aborts the run, so that the held shutdown goes on, and its step 2 disables WHL (R595, R626). -/
theorem softReset_kiln_disables_whl :
    (match exec (.softReset ⟨10, true⟩ 0x05) parkingHeldByKiln with | .next t => t.dev.get F.COM_CTRL_EN 0x20 | _ => 1) = 0 := by
  decide +kernel

/-- Refutes O54: SOFT_RESET of KILN aborts a run that holds a shutdown, which then goes on and clears EN of WHL. -/
theorem not_commandsOfOneChannelLeaveTheOthers : ¬ Obligations.CommandsOfOneChannelLeaveTheOthers := by
  rintro ⟨-, -, -, -, -, -, -, -, -, -, -, -, -, -, -, -, -, hsoft, -, -⟩
  obtain ⟨t, ht, hen, -⟩ := hsoft parkingHeldByKiln ⟨10, true⟩ 0x05 0x20 (by decide)
  have h0 := softReset_kiln_disables_whl
  rw [ht] at h0
  exact absurd ((h0.symm.trans hen).trans parkingHeldByKiln_whl_enabled) (by decide)

/-- While a soft reset of CLR runs a commit has no effect on the slots: it sets LOCKWR (R67). -/
theorem clrCommit_locked_keeps {s t : State} {a : Acc} {v : BitVec 32} (ha : accCause 0x0B 0xE00 a true = none) (hs : s.dev.var V.softRst 0x0B ≠ 0)
    (ht : exec (.clrCommit a v) s = .next t) {g : Fld} (hg : g.own = true) (i : Nat) : t.dev.get g i = s.dev.get g i := by
  have he : exec (.clrCommit a v) s = .next { s with dev := s.dev.wr 0x0B 0xE00 a fun d => d.clrCommit (v.toNat % 512) (planeOfBank a.bank.val) (agentOf a) } := rfl
  rw [he, Dev.wr_locked _ _ ha (by simp) hs] at ht
  cases ht
  simp [Dev.errAcc_get _ _ _ _ _ _ _ hg, Dev.cone_get _ _ _ _ _ _ hg]

/-- CLR in soft reset with the control plane up. CLR ignores SRST (R73), so that no command leads here; the statement speaks of every state. -/
def clrInSoftReset : State := st [(F.CLR_PLANE_CTLUP, 0, 1)] [(V.softRst, 0x0B, 1)]

/-- Refutes O1: its commit clause lets a soft reset of CLR run, and then the commit is ignored and GEN does not invert. -/
theorem not_clearingCommitsAndTimers : ¬ Obligations.ClearingCommitsAndTimers := by
  rintro ⟨hcommit, -⟩
  obtain ⟨t, ht, hgen, -⟩ := hcommit clrInSoftReset ⟨8, true⟩ 64 rfl (by decide) (by decide) (by decide) (by decide +kernel)
  rw [clrCommit_locked_keeps (by decide) (by decide +kernel) ht (by decide)] at hgen
  exact absurd hgen (by decide +kernel)

end Sys2Proof.Machine
end

section
/-! ## What the keeper's state keeps

Reset, boot and release change a few fields and variables of SYS, PWR, UPD and CLR, and on the way they have many other blocks stop, show their state or lose
it. The core of a device is that state, with the counter of free values and the blocks of NOR. A lemma `core_f` says what the function `f` of the model makes
of the core, which for the other blocks' functions is nothing. -/

namespace Sys2Proof.Machine

/-- The core, or the part of it that a power-down and a change of mode keep as well. -/
inductive Watch where
  | core | keeper

/-- The fields of the core. -/
def Watch.flds : Watch → List Fld
  | .core => [F.SYS_REL_PA, F.SYS_REL_PB, F.SYS_REL_DP, F.SYS_BOOT_DONE, F.SYS_BOOT_STRAP, F.SYS_BOOT_SLOT, F.SYS_BOOT_SVN, F.SYS_STRAP_NOW, F.SYS_RSTC_CAUSE, F.SYS_CPRST_CAUSE, F.SYS_DPRST_CAUSE,
      F.SYS_DPWD_PERIOD, F.SYS_STEP0_SOC, F.SYS_STEP0_PSC0, F.SYS_STEP0_PSC1, F.SYS_STEP1_RF0, F.SYS_STEP1_RF1, F.SYS_STEP1_RF2, F.CLR_PLANE_CTLUP,
      F.CLR_PLANE_DATAUP, F.CLR_PLANE_MGTUP, F.PWR_MODE_MODE, F.PWR_MODE_LADDER, F.PWR_MODE_PENDV, F.PWR_DEAD_ARMED, F.PWR_DEAD_FIRST_T,
      F.UPD_STATE_FALLEN, F.UPD_STATE_REASON, F.UPD_STATE_BOOTED, F.UPD_SL_STAT_ST, F.UPD_SL_STAT_SVN, F.KILN_RG_STAT_FSTICK]
  | .keeper => [F.CLR_PLANE_MGTUP, F.SYS_BOOT_STRAP, F.SYS_STRAP_NOW, F.UPD_STATE_FALLEN, F.UPD_STATE_REASON]

/-- The variables of the core. -/
def Watch.vars : Watch → List Vr
  | .core => [V.keeperUp, V.booted, V.modReq, V.cpReq, V.dpReq, V.cpLoad, V.dpLoad, V.planesOff, V.wdPer, V.hbDue, V.uptime, V.lcSt, V.kilnOn, V.wakePend,
      V.line, V.dramGone, V.dramWait, V.kilnRep]
  | .keeper => [V.keeperUp, V.booted]

/-- The field is one of those watched. -/
def Watch.fld (w : Watch) (f : Fld) : Bool := w.flds.any fun g => g.kid == f.kid

/-- The variable is one of those watched. -/
def Watch.var (w : Watch) (x : Vr) : Bool := w.vars.any fun y => y.id == x.id

theorem Watch.fld_core {w : Watch} {f : Fld} (h : w.fld f = true) : Watch.core.fld f = true := by
  cases w with
  | core => exact h
  | keeper =>
    obtain ⟨g, hg, e⟩ := List.any_eq_true.mp h
    have hs : Watch.keeper.flds.all (fun g => Watch.core.fld g) = true := by decide
    have hgc := List.all_eq_true.mp hs g hg
    rwa [Watch.fld, ← beq_iff_eq.mp e]

theorem Watch.var_core {w : Watch} {x : Vr} (h : w.var x = true) : Watch.core.var x = true := by
  cases w with
  | core => exact h
  | keeper =>
    obtain ⟨y, hy, e⟩ := List.any_eq_true.mp h
    have hs : Watch.keeper.vars.all (fun y => Watch.core.var y) = true := by decide
    have hyc := List.all_eq_true.mp hs y hy
    rwa [Watch.var, ← beq_iff_eq.mp e]

/-- What a device shows of its core. -/
def Dev.core (w : Watch) (d : Dev) : ({f : Fld // w.fld f = true} → Nat → Nat) × ({x : Vr // w.var x = true} → Nat → Int) × Nat × (Nat → List Nat) :=
  (fun f i => d.get f i, fun x i => d.var x i, d.free, d.blob 1)

variable {w : Watch}

theorem Dev.core_eq {d e : Dev} (hf : ∀ f, w.fld f = true → ∀ i, d.get f i = e.get f i) (hx : ∀ x, w.var x = true → ∀ i, d.var x i = e.var x i)
    (hn : d.free = e.free) (hb : ∀ i, d.blob 1 i = e.blob 1 i) : d.core w = e.core w := by
  simp only [Dev.core, hn, Prod.mk.injEq, true_and]
  exact ⟨funext fun f => funext fun i => hf f f.2 i, funext fun x => funext fun i => hx x x.2 i, funext hb⟩

theorem Dev.get_of_core {d e : Dev} (h : d.core w = e.core w) {f : Fld} (hf : w.fld f = true) (i : Nat) : d.get f i = e.get f i :=
  congrFun (congrFun (congrArg (fun c => c.1) h) ⟨f, hf⟩) i

theorem Dev.var_of_core {d e : Dev} (h : d.core w = e.core w) {x : Vr} (hx : w.var x = true) (i : Nat) : d.var x i = e.var x i :=
  congrFun (congrFun (congrArg (fun c => c.2.1) h) ⟨x, hx⟩) i

theorem Dev.free_of_core {d e : Dev} (h : d.core w = e.core w) : d.free = e.free := congrArg (fun c => c.2.2.1) h

theorem Dev.nor_of_core {d e : Dev} (h : d.core w = e.core w) (i : Nat) : d.blob 1 i = e.blob 1 i := congrFun (congrArg (fun c => c.2.2.2) h) i

/-! ### The device's operations -/

theorem Dev.core_set_ne {f : Fld} (h : w.fld f = false) (d : Dev) (i v : Nat) : (d.set f i v).core w = d.core w :=
  Dev.core_eq (fun g hg j => d.get_set_kid i j v fun e => by rw [Watch.fld, e, ← Watch.fld, h] at hg; cases hg) (fun _ _ _ => rfl) rfl fun _ => rfl

theorem Dev.core_setVar_ne {x : Vr} (h : w.var x = false) (d : Dev) (i : Nat) (v : Int) : (d.setVar x i v).core w = d.core w :=
  Dev.core_eq (fun _ _ _ => rfl) (fun y hy j => d.var_setVar_id i j v fun e => by rw [Watch.var, e, ← Watch.var, h] at hy; cases hy) rfl fun _ => rfl

theorem Watch.fld_false {f : Fld} (h : Watch.core.fld f = false) : w.fld f = false := by
  cases e : w.fld f with
  | false => rfl
  | true => rw [Watch.fld_core e] at h; cases h

theorem Watch.var_false {x : Vr} (h : Watch.core.var x = false) : w.var x = false := by
  cases e : w.var x with
  | false => rfl
  | true => rw [Watch.var_core e] at h; cases h

@[simp] theorem Dev.core_set {f : Fld} (h : Watch.core.fld f = false) (d : Dev) (i v : Nat) : (d.set f i v).core w = d.core w :=
  d.core_set_ne (Watch.fld_false h) i v

@[simp] theorem Dev.core_setVar {x : Vr} (h : Watch.core.var x = false) (d : Dev) (i : Nat) (v : Int) : (d.setVar x i v).core w = d.core w :=
  d.core_setVar_ne (Watch.var_false h) i v

@[simp] theorem Dev.core_setI {f : Fld} (h : Watch.core.fld f = false) (d : Dev) (i : Nat) (v : Int) : (d.setI f i v).core w = d.core w :=
  d.core_set h i _

@[simp] theorem Dev.core_incSat {f : Fld} (h : Watch.core.fld f = false) (d : Dev) (i n : Nat) : (d.incSat f i n).core w = d.core w :=
  d.core_set h i _

@[simp] theorem Dev.core_incWrap {f : Fld} (h : Watch.core.fld f = false) (d : Dev) (i n : Nat) : (d.incWrap f i n).core w = d.core w :=
  d.core_set h i _

@[simp] theorem Dev.core_mark {x : Vr} (h : Watch.core.var x = false) (d : Dev) (i : Nat) : (d.mark x i).core w = d.core w :=
  d.core_setVar h i _

/-- An update that keeps the registers, the variables, the byte strings and the counter of free values keeps the core. -/
@[simp] theorem Dev.core_mk (d : Dev) (a b e f g h i j k l m n o p q r s t u) :
    Dev.core w ⟨d.regs, d.vars, a, b, e, f, g, h, i, j, k, l, m, d.bytes, n, o, p, q, r, d.free, s, t, u⟩ = d.core w :=
  Dev.core_eq (fun _ _ _ => rfl) (fun _ _ _ => rfl) rfl fun _ => rfl

@[simp] theorem Dev.core_setPast (d : Dev) (n i : Nat) (l) : (d.setPast n i l).core w = d.core w := Dev.core_mk d ..
@[simp] theorem Dev.core_report (d : Dev) (a b e f : Nat) (l) : (d.report a b e f l).core w = d.core w := Dev.core_mk d ..

@[simp] theorem Dev.core_setBlob {n : Nat} (h : n ≠ 1) (d : Dev) (i : Nat) (l) : (d.setBlob n i l).core w = d.core w :=
  Dev.core_eq (fun _ _ _ => rfl) (fun _ _ _ => rfl) rfl fun j => by
    simp only [Dev.blob, Dev.setBlob, Store.find_put_ne _ _ (show (1, j) ≠ (n, i) from fun e => h (Prod.mk.inj e).1.symm)]

@[simp] theorem Dev.core_ite (p : Prop) [Decidable p] (d e : Dev) : (if p then d else e).core w = if p then d.core w else e.core w :=
  apply_ite _ _ _ _

@[simp] theorem Dev.core_when (d : Dev) (b : Bool) (k : Dev → Dev) : (d.when b k).core w = if b then (k d).core w else d.core w := by
  cases b <;> rfl

@[simp] theorem Dev.core_each (d : Dev) (l : List Nat) (k : Nat → Dev → Dev) (h : ∀ i a, (k i a).core w = a.core w) :
    (d.each l k).core w = d.core w :=
  Dev.each_keeps (Dev.core w) k l d fun i _ a => h i a

@[simp] theorem Dev.core_foldl {α : Type} (d : Dev) (l : List α) (k : Dev → α → Dev) (h : ∀ a i, (k a i).core w = a.core w) :
    (l.foldl k d).core w = d.core w := by
  induction l generalizing d with
  | nil => rfl
  | cons x t ih => exact (ih (k d x)).trans (h d x)

/-! ### Events, errors and Clearing slots -/

@[simp] theorem Dev.core_coneAdd (d : Dev) (k n : Nat) : (d.coneAdd k n).core w = d.core w := by simp +decide [Dev.coneAdd]

@[simp] theorem Dev.core_cone (d : Dev) (slot ev n : Nat) : (d.cone slot ev n).core w = d.core w := by simp [Dev.cone]

@[simp] theorem Dev.core_irq (d : Dev) (slot b : Nat) : (d.irq slot b).core w = d.core w := by simp +decide [Dev.irq]

@[simp] theorem Dev.core_level (d : Dev) (slot b : Nat) (v : Bool) : (d.level slot b v).core w = d.core w := by simp +decide [Dev.level]

@[simp] theorem Dev.core_errCapture (d : Dev) (slot k woff bank bcode : Nat) : (d.errCapture slot k woff bank bcode).core w = d.core w := by
  simp +decide [Dev.errCapture]

@[simp] theorem Dev.core_errBlk (d : Dev) (slot bcode cls : Nat) (pay : List Nat) : (d.errBlk slot bcode cls pay).core w = d.core w := by
  simp [Dev.errBlk]

@[simp] theorem Dev.core_whlGuardStep (d : Dev) : d.whlGuardStep.core w = d.core w := by simp +decide [Dev.whlGuardStep]

@[simp] theorem Dev.core_clrStale (d : Dev) (i : Nat) : (d.clrStale i).core w = d.core w := by simp +decide [Dev.clrStale]

@[simp] theorem Dev.core_clrViol (d : Dev) (slot plane kind : Nat) : (d.clrViol slot plane kind).core w = d.core w := by simp +decide [Dev.clrViol]

@[simp] theorem Dev.core_clrFill (d : Dev) (i g b : Nat) (l : List Nat) : (d.clrFill i g b l).core w = d.core w := by
  induction l generalizing d b with
  | nil => rfl
  | cons x t ih => exact ih _ _

@[simp] theorem Dev.core_clrPublish (d : Dev) (i : Nat) (agent : Int) : (d.clrPublish i agent).core .keeper = d.core .keeper := by
  simp +decide [Dev.clrPublish, Dev.core_setVar_ne]

@[simp] theorem Dev.core_clrCommit (d : Dev) (i p : Nat) (agent : Int) : (d.clrCommit i p agent).core .keeper = d.core .keeper := by
  simp [Dev.clrCommit]

@[simp] theorem Dev.core_clrPost (d : Dev) (i agent : Nat) (l : List Nat) : (d.clrPost i agent l).core .keeper = d.core .keeper := by
  simp [Dev.clrPost]

@[simp] theorem Dev.core_shrdIntake (d : Dev) (time : Int) (src flags code : Nat) (pay : List Nat) (errw : Nat) :
    (d.shrdIntake time src flags code pay errw).core w = d.core w := by
  simp +decide [Dev.shrdIntake]

@[simp] theorem Dev.core_keeperRec (d : Dev) (cls code : Nat) (pay : List Nat) : (d.keeperRec cls code pay).core w = d.core w := by
  simp [Dev.keeperRec]

/-- The bit of CLR_PLANE that shows a plane. -/
def planeFld (p : Nat) : Fld := if p = 0 then F.CLR_PLANE_CTLUP else if p = 1 then F.CLR_PLANE_DATAUP else F.CLR_PLANE_MGTUP

/-- A write of the same field keeps equal cores equal. -/
theorem Dev.core_set_congr {d e : Dev} (h : d.core w = e.core w) (f : Fld) (i v : Nat) : (d.set f i v).core w = (e.set f i v).core w :=
  Dev.core_eq (fun g hg j => by simp only [Dev.get_set, Dev.get_of_core h hg]) (fun _ hx => Dev.var_of_core h hx) (Dev.free_of_core h :) (fun j => (Dev.nor_of_core h j :))

theorem Dev.core_setVar_congr {d e : Dev} (h : d.core w = e.core w) (x : Vr) (i : Nat) (v : Int) : (d.setVar x i v).core w = (e.setVar x i v).core w :=
  Dev.core_eq (fun _ hf => Dev.get_of_core h hf) (fun y hy j => by simp only [Dev.var_setVar, Dev.var_of_core h hy]) (Dev.free_of_core h :) (fun j => (Dev.nor_of_core h j :))

/-- Of the core a plane's rise or fall changes its bit alone (R33, R39). -/
theorem Dev.core_setPlane (d : Dev) (p : Nat) (v : Bool) : (d.setPlane p v).core w = (d.set (planeFld p) 0 (bit v)).core w := by
  have hset : ∀ e : Dev, e.core w = d.core w → (e.set (planeFld p) 0 (bit v)).core w = (d.set (planeFld p) 0 (bit v)).core w :=
    fun e he => Dev.core_set_congr he _ _ _
  have hbit : ∀ e : Dev, e = (if d.on (planeFld p) 0 == v then d else d.setVar V.planeAt p (d.var V.uptime 0)) → e.core w = d.core w := by
    rintro e rfl
    simp +decide
  unfold Dev.setPlane
  rw [← planeFld]
  simp only [Dev.core_ite, Dev.core_each _ _ _ fun i a => Dev.core_clrStale a i, ite_self]
  exact hset _ (hbit _ rfl)

/-! ### TIME and MEM -/

@[simp] theorem Dev.core_showRate (d : Dev) : d.showRate.core w = d.core w := by simp +decide [Dev.showRate]

@[simp] theorem Dev.core_timeState (d : Dev) (st : Nat) : (d.timeState st).core w = d.core w := by simp +decide [Dev.timeState]

@[simp] theorem Dev.core_deepEnter (d : Dev) : d.deepEnter.core w = d.core w := by
  unfold Dev.deepEnter
  refine (Dev.core_each _ _ _ fun n a => ?_).trans ((Dev.core_each _ _ _ fun c a => Dev.core_each _ _ _ fun n b => ?_).trans ?_)
  · simp +decide
  · simp +decide
  · simp +decide

@[simp] theorem Dev.core_deepLeave (d : Dev) : d.deepLeave.core w = d.core w := by simp +decide [Dev.deepLeave]

@[simp] theorem Dev.core_memShow (d : Dev) : d.memShow.core w = d.core w := by simp +decide [Dev.memShow]

/-! ### SOL -/

@[simp] theorem Dev.core_solStatFault (d : Dev) : d.solStatFault.core w = d.core w := by simp +decide [Dev.solStatFault]

@[simp] theorem Dev.core_solFaultEval (d : Dev) (c : Nat) : (d.solFaultEval c).core w = d.core w := by simp +decide [Dev.solFaultEval]

@[simp] theorem Dev.core_solBank (d : Dev) (c : Nat) : (d.solBank c).core w = d.core w := by simp +decide [Dev.solBank]

@[simp] theorem Dev.core_solPhase (d : Dev) (c p : Nat) : (d.solPhase c p).core w = d.core w := by simp +decide [Dev.solPhase]

@[simp] theorem Dev.core_solRelease (d : Dev) (c : Nat) : (d.solRelease c).core w = d.core w := by simp +decide [Dev.solRelease]

@[simp] theorem Dev.core_solCount (d : Dev) (c : Nat) : (d.solCount c).core w = d.core w := by simp +decide [Dev.solCount]

@[simp] theorem Dev.core_solPop (d : Dev) (c : Nat) : (d.solPop c).core w = d.core w := by simp [Dev.solPop]

@[simp] theorem Dev.core_solFlag (d : Dev) (c : Nat) {f : Fld} (hf : Watch.core.fld f = false) : (d.solFlag c f).core w = d.core w := by
  simp +decide [Dev.solFlag, hf]

@[simp] theorem Dev.core_solFlagW (d : Dev) (c : Nat) {f : Fld} (hf : Watch.core.fld f = false) : (d.solFlagW c f).core w = d.core w := by
  simp +decide [Dev.solFlagW, hf]

@[simp] theorem Dev.core_solDrop (d : Dev) (c : Nat) {f : Fld} (hf : Watch.core.fld f = false) : (d.solDrop c f).core w = d.core w := by
  simp +decide [Dev.solDrop, hf]

@[simp] theorem Dev.core_solLose (d : Dev) (c : Nat) {f : Fld} (hf : Watch.core.fld f = false) : (d.solLose c f).core w = d.core w := by
  simp [Dev.solLose, hf]

@[simp] theorem Dev.core_solNoKink (d : Dev) (c : Nat) : (d.solNoKink c).core w = d.core w := by simp +decide [Dev.solNoKink]

@[simp] theorem Dev.core_solDecay (d : Dev) (c : Nat) (ev : Bool) : (d.solDecay c ev).core w = d.core w := by simp +decide [Dev.solDecay]

@[simp] theorem Dev.core_solStop (d : Dev) (c : Nat) : (d.solStop c).core w = d.core w := by simp [Dev.solStop]

@[simp] theorem Dev.core_solWithdraw (d : Dev) (c : Nat) : (d.solWithdraw c).core w = d.core w := by
  simp only [Dev.solWithdraw]
  split <;> simp +decide

@[simp] theorem Dev.core_solStart (d : Dev) (c : Nat) (boost : Bool) : (d.solStart c boost).core w = d.core w := by simp +decide [Dev.solStart]

@[simp] theorem Dev.core_solCheck3 (d : Dev) (c : Nat) : (d.solCheck3 c).core w = d.core w := by simp +decide [Dev.solCheck3]

@[simp] theorem Dev.core_solTry (d : Dev) (c : Nat) : (d.solTry c).core w = d.core w := by simp +decide [Dev.solTry]

@[simp] theorem Dev.core_solRequest (d : Dev) (c : Nat) (q : Int) (late : Bool) : (d.solRequest c q late).core w = d.core w := by
  simp +decide [Dev.solRequest]

@[simp] theorem Dev.core_solDithSync (d : Dev) (c : Nat) : (d.solDithSync c).core w = d.core w := by simp +decide [Dev.solDithSync]

@[simp] theorem Dev.core_solSync (d : Dev) (c : Nat) : (d.solSync c).core w = d.core w := by simp +decide [Dev.solSync]

@[simp] theorem Dev.core_solSetCut (d : Dev) (m : Nat) : (d.solSetCut m).core w = d.core w := by simp +decide [Dev.solSetCut]

@[simp] theorem Dev.core_solAllOff (d : Dev) : d.solAllOff.core w = d.core w := by simp +decide [Dev.solAllOff]

@[simp] theorem Dev.core_bstStop (d : Dev) : d.bstStop.core w = d.core w := by simp +decide [Dev.bstStop]

@[simp] theorem Dev.core_solShow (d : Dev) : d.solShow.core w = d.core w := by simp +decide [Dev.solShow, -Dev.each_cons]

@[simp] theorem Dev.core_solSupply (d : Dev) {f : Fld} (hf : Watch.core.fld f = false) (v : Bool) : (d.solSupply f v).core w = d.core w := by
  simp [Dev.solSupply, hf]

/-! ### LSW -/

@[simp] theorem Dev.core_isenseShow (d : Dev) : d.isenseShow.core w = d.core w := by simp +decide [Dev.isenseShow]

@[simp] theorem Dev.core_lswFault (d : Dev) (c : Nat) : (d.lswFault c).core w = d.core w := by simp +decide [Dev.lswFault]

@[simp] theorem Dev.core_lswState (d : Dev) (c st cause : Nat) : (d.lswState c st cause).core w = d.core w := by simp +decide [Dev.lswState]

@[simp] theorem Dev.core_lswOff (d : Dev) (c cause : Nat) : (d.lswOff c cause).core w = d.core w := by simp +decide [Dev.lswOff]

@[simp] theorem Dev.core_lswTurnOn (d : Dev) (c : Nat) : (d.lswTurnOn c).core w = d.core w := by simp +decide [Dev.lswTurnOn]

@[simp] theorem Dev.core_lswSync (d : Dev) (c : Nat) : (d.lswSync c).core w = d.core w := by simp +decide [Dev.lswSync]

@[simp] theorem Dev.core_lswSetCut (d : Dev) (m : Nat) : (d.lswSetCut m).core w = d.core w := by simp +decide [Dev.lswSetCut]

@[simp] theorem Dev.core_lswSupply (d : Dev) {f : Fld} (hf : Watch.core.fld f = false) (v : Bool) : (d.lswSupply f v).core w = d.core w := by
  simp [Dev.lswSupply, hf]

@[simp] theorem Dev.core_studClear (d : Dev) : d.studClear.core w = d.core w := by simp +decide [Dev.studClear]

@[simp] theorem Dev.core_thetaStore (d : Dev) : d.thetaStore.core w = d.core w := by simp +decide [Dev.thetaStore]

@[simp] theorem Dev.core_thetaRestore (d : Dev) (kept : Bool) : (d.thetaRestore kept).core w = d.core w := by simp +decide [Dev.thetaRestore]

/-! ### FBRK, RIDE, SEG and ETH -/

@[simp] theorem Dev.core_fbStat (d : Dev) : d.fbStat.core w = d.core w := by simp +decide [Dev.fbStat]

@[simp] theorem Dev.core_groupTo (d : Dev) (g new : Nat) : (d.groupTo g new).core w = d.core w := by simp +decide [Dev.groupTo]

@[simp] theorem Dev.core_groupStep (d : Dev) (g : Nat) (wa wb off : Bool) : (d.groupStep g wa wb off).core w = d.core w := by
  simp +decide [Dev.groupStep]

@[simp] theorem Dev.core_rideFb (d : Dev) : d.rideFb.core w = d.core w := by simp +decide [Dev.rideFb]

@[simp] theorem Dev.core_rideFbSend (d : Dev) : d.rideFbSend.core w = d.core w := by simp +decide [Dev.rideFbSend]

@[simp] theorem Dev.core_groupsNow (d : Dev) : d.groupsNow.core w = d.core w := by simp [Dev.groupsNow]

@[simp] theorem Dev.core_fbCuts (d : Dev) : d.fbCuts.core w = d.core w := by simp +decide [Dev.fbCuts]

@[simp] theorem Dev.core_fbFall (d : Dev) : d.fbFall.core w = d.core w := by simp +decide [Dev.fbFall]

@[simp] theorem Dev.core_fbDemand (d : Dev) (p : Nat) : (d.fbDemand p).core w = d.core w := by simp +decide [Dev.fbDemand]

@[simp] theorem Dev.core_fbDemandAll (d : Dev) : d.fbDemandAll.core w = d.core w := by simp [Dev.fbDemandAll]

@[simp] theorem Dev.core_segShow (d : Dev) : d.segShow.core w = d.core w := by simp +decide [Dev.segShow]

@[simp] theorem Dev.core_segAbort (d : Dev) : d.segAbort.core w = d.core w := by simp +decide [Dev.segAbort]

@[simp] theorem Dev.core_untake (d : Dev) : d.untake.core w = d.core w := by simp +decide [Dev.untake]

/-! ### WHL and BUS -/

@[simp] theorem Dev.core_whlFault (d : Dev) : d.whlFault.core w = d.core w := by simp +decide [Dev.whlFault]

@[simp] theorem Dev.core_lpStop (d : Dev) (k : Nat) : (d.lpStop k).core w = d.core w := by simp +decide [Dev.lpStop]

@[simp] theorem Dev.core_setOwn (d : Dev) (b : Nat) (v : Bool) : (d.setOwn b v).core w = d.core w := by simp +decide [Dev.setOwn]

@[simp] theorem Dev.core_lpRelease (d : Dev) (k : Nat) : (d.lpRelease k).core w = d.core w := by
  unfold Dev.lpRelease
  split <;> simp +decide

@[simp] theorem Dev.core_lpDrive (d : Dev) (k : Nat) (us : Int) : (d.lpDrive k us).core w = d.core w := by
  unfold Dev.lpDrive
  split <;> simp +decide

@[simp] theorem Dev.core_canFault (d : Dev) : d.canFault.core w = d.core w := by simp +decide [Dev.canFault]

@[simp] theorem Dev.core_canEvt (d : Dev) (c b : Nat) : (d.canEvt c b).core w = d.core w := by simp +decide [Dev.canEvt]

@[simp] theorem Dev.core_bufPut (d : Dev) (c b j : Nat) (l : List Nat) : (d.bufPut c b j l).core w = d.core w := by
  induction l generalizing d j with
  | nil => rfl
  | cons x t ih => simp +decide [Dev.bufPut, ih]

@[simp] theorem Dev.core_privFail (d : Dev) (c b res : Nat) : (d.privFail c b res).core w = d.core w := by simp +decide [Dev.privFail]

@[simp] theorem Dev.core_txRequest (d : Dev) (c b : Nat) : (d.txRequest c b).core w = d.core w := by simp +decide [Dev.txRequest]

@[simp] theorem Dev.core_lpMail (d : Dev) (k : Nat) (us : Int) : (d.lpMail k us).core w = d.core w := by simp +decide [Dev.lpMail]

@[simp] theorem Dev.core_lpEnd (d : Dev) (k : Nat) : (d.lpEnd k).core w = d.core w := by simp +decide [Dev.lpEnd]

@[simp] theorem Dev.core_busRun (d : Dev) (run : Bool) : (d.busRun run).core w = d.core w := by simp +decide [Dev.busRun]

/-! ### Resets of blocks -/

/-- The blocks whose registers and variables the core holds: SYS, PWR, KILN, TIME, CLR and UPD. -/
def coreSlots : List Nat := [0x00, 0x01, 0x05, 0x07, 0x0B, 0x30]

theorem regSlot_mem_coreSlots {f : Fld} (h : w.fld f = true) (i : Nat) : regSlot (f.kid, i) ∈ coreSlots := by
  obtain ⟨g, hg, e⟩ := List.any_eq_true.mp (Watch.fld_core h)
  rw [← beq_iff_eq.mp e]
  have hall : ∀ g ∈ Watch.core.flds, regSlot (g.kid, i) ∈ coreSlots := by
    simp only [Watch.flds, List.forall_mem_cons]
    simp +decide [regSlot]
  exact hall g hg

theorem varSlot_mem_coreSlots {x : Vr} (h : w.var x = true) (i : Nat) : varSlot (x.id, i) ∈ coreSlots := by
  obtain ⟨y, hy, e⟩ := List.any_eq_true.mp (Watch.var_core h)
  rw [← beq_iff_eq.mp e]
  have hall : ∀ y ∈ Watch.core.vars, varSlot (y.id, i) ∈ coreSlots := by
    simp only [Watch.vars, List.forall_mem_cons]
    simp +decide [varSlot]
  exact hall y hy

/-- A reset of blocks that the core has nothing of keeps the core (R72). -/
theorem Dev.core_drop (d : Dev) (sel : Nat → Bool) (keepR keepV : Nat × Nat → Bool) (h : ∀ n ∈ coreSlots, sel n = false) :
    (d.drop sel keepR keepV).core w = d.core w :=
  Dev.core_eq
    (fun f hf i => by
      simp only [Dev.get, Dev.drop]
      rw [Store.find_filter _ _ _ fun v => by simp [h _ (regSlot_mem_coreSlots hf i)]])
    (fun x hx i => by
      simp only [Dev.var, Dev.drop]
      rw [Store.find_filter _ _ _ fun v => by simp [h _ (varSlot_mem_coreSlots hx i)]])
    rfl
    (fun i => by
      simp only [Dev.blob, Dev.drop]
      rw [Store.find_filter _ _ _ fun v => by simp])

@[simp] theorem Dev.core_xferEnd (d : Dev) : d.xferEnd.core w = d.core w := by simp +decide [Dev.xferEnd]

@[simp] theorem Dev.core_updPlaneReset (d : Dev) : d.updPlaneReset.core w = d.core w := by simp [Dev.updPlaneReset]

@[simp] theorem Dev.core_resetCtl (d : Dev) : d.resetCtl.core w = d.core w := by
  have hdrop := fun (e : Dev) (keepR keepV : Nat × Nat → Bool) => Dev.core_drop (w := w) e ctlReset keepR keepV (by decide)
  simp +decide [Dev.resetCtl, hdrop]

@[simp] theorem Dev.core_resetData (d : Dev) : d.resetData.core w = d.core w := by
  have hdrop := fun (e : Dev) (keepR keepV : Nat × Nat → Bool) => Dev.core_drop (w := w) e dataReset keepR keepV (by decide)
  simp +decide [Dev.resetData, hdrop]

/-- DRAM's contents are marked lost, and training comes next (R503). -/
theorem Dev.core_dramLose (d : Dev) :
    d.dramLose.core w = ((d.setVar V.dramGone 0 ((d.var V.dramGone 0).toNat ||| 1 : Nat)).setVar V.dramWait 0 1).core w := by
  have hf : ({ d with vars := d.vars.filter (fun e => e.1.1 != V.poison.id) } : Dev).core w = d.core w :=
    Dev.core_eq (fun _ _ _ => rfl) (fun x hx i => by
      have hne : x.id ≠ V.poison.id := fun e => by
        rw [Watch.var, e, ← Watch.var, Watch.var_false (by decide)] at hx
        cases hx
      simp only [Dev.var]
      rw [Store.find_filter _ _ _ fun v => by simp [hne]]) rfl fun _ => rfl
  simp only [Dev.dramLose, Dev.core_memShow]
  exact Dev.core_setVar_congr (Dev.core_setVar_congr hf _ _ _) _ _ _

theorem Dev.keeper_dramLose (d : Dev) : d.dramLose.core .keeper = d.core .keeper := by
  rw [Dev.core_dramLose, Dev.core_setVar_ne (by decide), Dev.core_setVar_ne (by decide)]

/-! ### The power ladder and the modes -/

/-- A field holds a value: it is written where it held another. -/
def Dev.hold (d : Dev) (f : Fld) (v : Nat) : Dev := if d.get f 0 = v then d else d.set f 0 v

theorem Dev.get_hold (d : Dev) {f : Fld} {v : Nat} (hv : v < 2 ^ f.width) : (d.hold f v).get f 0 = v := by
  unfold Dev.hold
  split
  · assumption
  · rw [Dev.get_set_same, Nat.mod_eq_of_lt hv]

theorem Dev.get_hold_ne (d : Dev) {f g : Fld} (v : Nat) (h : g.kid ≠ f.kid) (i : Nat) : (d.hold f v).get g i = d.get g i := by
  unfold Dev.hold
  split
  · rfl
  · exact d.get_set_kid _ _ _ h

@[simp] theorem Dev.var_hold (d : Dev) (f : Fld) (v : Nat) (x : Vr) (i : Nat) : (d.hold f v).var x i = d.var x i := by
  unfold Dev.hold
  split <;> rfl

@[simp] theorem Dev.free_hold (d : Dev) (f : Fld) (v : Nat) : (d.hold f v).free = d.free := by
  unfold Dev.hold
  split <;> rfl

@[simp] theorem Dev.blob_hold (d : Dev) (f : Fld) (v n i : Nat) : (d.hold f v).blob n i = d.blob n i := by
  unfold Dev.hold
  split <;> rfl

/-- Of the core a step of the ladder above L4 changes LADDER alone (R616, R618). -/
theorem Dev.core_setLadder (d : Dev) {l : Nat} (hl : l < 4) : (d.setLadder l).core .core = (d.hold F.PWR_MODE_LADDER l).core .core := by
  simp only [Dev.setLadder, Dev.hold, Dev.core_ite]
  simp +decide [show ¬ 4 ≤ l from by omega]

@[simp] theorem Dev.keeper_setLadder (d : Dev) (l : Nat) : (d.setLadder l).core .keeper = d.core .keeper := by
  simp +decide [Dev.setLadder, Dev.keeper_dramLose, Dev.core_set_ne]

@[simp] theorem Dev.keeper_setMode (d : Dev) (m : Nat) : (d.setMode m).core .keeper = d.core .keeper := by
  simp +decide [Dev.setMode, Dev.core_set_ne]

@[simp] theorem Dev.keeper_pwrClear (d : Dev) : d.pwrClear.core .keeper = d.core .keeper := by
  simp +decide [Dev.pwrClear, Dev.core_set_ne]

@[simp] theorem Dev.keeper_pwrPend (d : Dev) (t : Nat) : (d.pwrPend t).core .keeper = d.core .keeper := by
  simp +decide [Dev.pwrPend, Dev.core_set_ne]

@[simp] theorem Dev.keeper_setPlane (d : Dev) {p : Nat} (hp : p < 2) (v : Bool) : (d.setPlane p v).core .keeper = d.core .keeper := by
  have hf : Watch.keeper.fld (planeFld p) = false := by
    obtain rfl | rfl : p = 0 ∨ p = 1 := by omega
    · decide
    · decide
  rw [Dev.core_setPlane, Dev.core_set_ne hf]

@[simp] theorem Dev.keeper_planesUp (d : Dev) : d.planesUp.core .keeper = d.core .keeper := by
  simp +decide [Dev.planesUp, Dev.core_setVar_ne, -Dev.each_cons]

@[simp] theorem Dev.keeper_roadGo (d : Dev) : d.roadGo.core .keeper = d.core .keeper := by simp [Dev.roadGo]

@[simp] theorem Dev.core_kilnCuts (d : Dev) : d.kilnCuts.core w = d.core w := by simp [Dev.kilnCuts]

@[simp] theorem Dev.core_kilnRefuse (d : Dev) (cause : Nat) : (d.kilnRefuse cause).core w = d.core w := by simp +decide [Dev.kilnRefuse]

@[simp] theorem Dev.keeper_kilnBegin (d : Dev) (r : Nat) : (d.kilnBegin r).core .keeper = d.core .keeper := by
  simp +decide [Dev.kilnBegin]

@[simp] theorem Dev.keeper_kilnTry (d : Dev) (r : Nat) : (d.kilnTry r).core .keeper = d.core .keeper := by simp +decide [Dev.kilnTry]

@[simp] theorem Dev.keeper_kilnScan (d : Dev) : d.kilnScan.core .keeper = d.core .keeper := by simp [Dev.kilnScan]

@[simp] theorem Dev.keeper_kilnLaunch (d : Dev) (mask src tag : Nat) : (d.kilnLaunch mask src tag).core .keeper = d.core .keeper := by
  simp +decide [Dev.kilnLaunch, Dev.core_setVar_ne]

@[simp] theorem Dev.keeper_roadEnter (d : Dev) : d.roadEnter.core .keeper = d.core .keeper := by
  simp +decide [Dev.roadEnter, Dev.core_setVar_ne]

@[simp] theorem Dev.core_blockOff (d : Dev) (slot : Nat) : (d.blockOff slot).core w = d.core w := by simp +decide [Dev.blockOff]

@[simp] theorem Dev.core_ctlQuiet (d : Dev) : d.ctlQuiet.core w = d.core w := by simp [Dev.ctlQuiet]

@[simp] theorem Dev.core_busQuiet (d : Dev) : d.busQuiet.core w = d.core w := by
  refine (Dev.core_mk _ ..).trans ((Dev.core_busRun _ _).trans ((Dev.core_blockOff _ _).trans
    ((Dev.core_each _ _ _ fun c a => Dev.core_each _ _ _ fun b e => ?_).trans (Dev.core_each _ _ _ fun k a => Dev.core_lpEnd a k))))
  simp +decide

@[simp] theorem Dev.core_pwrStop (d : Dev) : d.pwrStop.core w = d.core w := by simp +decide [Dev.pwrStop]

@[simp] theorem Dev.keeper_pwrReply (d : Dev) (ctl : Bool) (op tag st cause : Nat) : (d.pwrReply ctl op tag st cause).core .keeper = d.core .keeper := by
  simp [Dev.pwrReply]

@[simp] theorem Dev.keeper_pwrNotice (d : Dev) (ctl : Bool) (st : Nat) : (d.pwrNotice ctl st).core .keeper = d.core .keeper := by
  simp [Dev.pwrNotice]

@[simp] theorem Dev.keeper_pwrShut (d : Dev) (t : Nat) : (d.pwrShut t).core .keeper = d.core .keeper := by simp +decide [Dev.pwrShut]

/-- A transition leaves the keeper and what it shows of the boot as they were, whichever mode it leads to. -/
@[simp] theorem Dev.keeper_pwrGo (d : Dev) (t : Nat) : (d.pwrGo t).core .keeper = d.core .keeper := by simp +decide [Dev.pwrGo]

@[simp] theorem Dev.keeper_pwrEntered (d : Dev) : d.pwrEntered.core .keeper = d.core .keeper := by simp [Dev.pwrEntered]

@[simp] theorem Dev.keeper_heldGo (d : Dev) (road : Bool) : (d.heldGo road).core .keeper = d.core .keeper := by simp +decide [Dev.heldGo]

@[simp] theorem Dev.keeper_pwrAuto (d : Dev) (t : Nat) : (d.pwrAuto t).core .keeper = d.core .keeper := by simp +decide [Dev.pwrAuto]

@[simp] theorem Dev.keeper_wakeGo (d : Dev) : d.wakeGo.core .keeper = d.core .keeper := by simp +decide [Dev.wakeGo, Dev.core_setVar_ne]

@[simp] theorem Dev.keeper_ctlDown (d : Dev) : d.ctlDown.core .keeper = d.core .keeper := by
  simp +decide [Dev.ctlDown, Dev.core_setVar_ne, Dev.core_set_ne]

@[simp] theorem Dev.keeper_dataDown (d : Dev) : d.dataDown.core .keeper = d.core .keeper := by
  simp +decide [Dev.dataDown, Dev.core_setVar_ne, Dev.core_set_ne]

@[simp] theorem Dev.keeper_pwrDown (d : Dev) (t : Nat) : (d.pwrDown t).core .keeper = d.core .keeper := by
  simp +decide [Dev.pwrDown, Dev.sramLose, Dev.core_setVar_ne]

/-! ### Losses of memory, and components loaded -/

@[simp] theorem State.updMem_get (s : State) (k : Dev → Dev) (f : Fld) (i : Nat) : (s.updMem k).dev.get f i = (k s.dev).get f i := by
  unfold State.updMem
  dsimp only
  split <;> rfl

theorem State.updMem_var (s : State) (k : Dev → Dev) {x : Vr} (h : x.id ≠ V.dramGone.id) (i : Nat) : (s.updMem k).dev.var x i = (k s.dev).var x i := by
  unfold State.updMem
  dsimp only
  split
  · rfl
  · exact Dev.var_setVar_id _ _ _ _ h

@[simp] theorem State.updMem_log (s : State) (k : Dev → Dev) : (s.updMem k).log = s.log := by
  unfold State.updMem
  dsimp only
  split <;> rfl

@[simp] theorem State.updMem_otp (s : State) (k : Dev → Dev) : (s.updMem k).otp = s.otp := by
  unfold State.updMem
  dsimp only
  split <;> rfl

@[simp] theorem State.updMem_reports (s : State) (k : Dev → Dev) : (s.updMem k).dev.reports = (k s.dev).reports := by
  unfold State.updMem
  dsimp only
  split <;> rfl

/-- Where a change marks contents as lost, they are lost. -/
theorem State.updMem_mem (s : State) (k : Dev → Dev) (h : (k s.dev).var V.dramGone 0 ≠ 0) :
    (s.updMem k).mem = lostMem ((k s.dev).var V.dramGone 0).toNat (k s.dev).free s.mem := by
  unfold State.updMem
  dsimp only
  rw [if_neg h]

/-- Poison is all that loading a component changes of the device (R474). -/
theorem State.loadComp_var (s : State) (slot : Nat) (e : List Nat) {x : Vr} (h : x.id ≠ V.poison.id) (i : Nat) : (s.loadComp slot e).dev.var x i = s.dev.var x i := by
  simp only [State.loadComp, Dev.var]
  rw [Store.find_filter _ _ _ fun v => by simp [h]]

theorem State.loadComps_get (l : List (List Nat)) (s : State) (slot : Nat) (f : Fld) (i : Nat) :
    (l.foldl (fun a e => a.loadComp slot e) s).dev.get f i = s.dev.get f i := by
  induction l generalizing s with
  | nil => rfl
  | cons e t ih => exact ih _

theorem State.loadComps_var (l : List (List Nat)) (s : State) (slot : Nat) {x : Vr} (h : x.id ≠ V.poison.id) (i : Nat) :
    (l.foldl (fun a e => a.loadComp slot e) s).dev.var x i = s.dev.var x i := by
  induction l generalizing s with
  | nil => rfl
  | cons e t ih => exact (ih _).trans (s.loadComp_var slot e h i)

@[simp] theorem State.loaded_get (s : State) (r : Fld) (data : Bool) (t : State) (f : Fld) (i : Nat) : (s.loaded r data t).dev.get f i = t.dev.get f i := by
  unfold State.loaded
  split
  · exact State.loadComps_get _ _ _ _ _
  · rfl

theorem State.loaded_var (s : State) (r : Fld) (data : Bool) (t : State) {x : Vr} (h : x.id ≠ V.poison.id) (i : Nat) :
    (s.loaded r data t).dev.var x i = t.dev.var x i := by
  unfold State.loaded
  split
  · exact State.loadComps_var _ _ _ h _
  · rfl

/-! ### The keeper's functions (R22, R514) -/

theorem Dev.core_keeperDown {d : Dev} (h : d.var V.keeperUp 0 = 1) :
    d.keeperDown.core .core = ((d.setVar V.keeperUp 0 0).set F.CLR_PLANE_MGTUP 0 0).core .core := by
  simp only [Dev.keeperDown, h, ne_eq, not_true_eq_false, if_false]
  exact (Dev.core_drop _ _ _ _ (by decide)).trans (Dev.core_setPlane _ 2 false)

/-- KEEPER_RESTART: the keeper is down, and its bit of CLR_PLANE with it. -/
theorem keeperRestart_answers (s : State) (h : s.dev.var V.keeperUp 0 = 1) :
    Answers .keeperRestart s (fun t => t.dev.var V.keeperUp 0 = 0 ∧ t.dev.get F.CLR_PLANE_MGTUP 0 = 0) := by
  have hc := Dev.core_keeperDown h
  refine ⟨_, rfl, ?_, ?_⟩
  · exact (Dev.var_of_core hc (by decide) 0).trans (by simp)
  · exact (Dev.get_of_core hc (by decide) 0).trans (by simp)

/-- What the keeper's return leaves of the keeper's part of the core, whatever transition or wake goes on (R22). -/
theorem Dev.keeper_keeperBack {d : Dev} (hk : d.var V.keeperUp 0 = 0) (hb : d.var V.booted 0 = 1) (hr : d.var V.kilnRep 0 = 0) :
    d.keeperBack.core .keeper = ((d.setVar V.keeperUp 0 1).set F.CLR_PLANE_MGTUP 0 1).core .keeper := by
  have hup : ((d.setVar V.keeperUp 0 1).setPlane 2 true).var V.kilnRep 0 = 0 :=
    (Dev.var_of_core (w := .core) (Dev.core_setPlane _ _ _) (by decide) 0).trans ((d.var_setVar_id _ _ _ (by decide)).trans hr)
  simp only [Dev.keeperBack, hk, hb, hup]
  simp only [zero_ne_one, ne_eq, not_true_eq_false, or_self, if_false, Dev.keeper_wakeGo, Dev.core_ite, Dev.keeper_heldGo, ite_self]
  exact Dev.core_setPlane _ 2 true

/-- KEEPER_RETURN: the keeper is back. -/
theorem keeperReturn_answers (s : State) (hk : s.dev.var V.keeperUp 0 = 0) (hb : s.dev.var V.booted 0 = 1) (hr : s.dev.var V.kilnRep 0 = 0) :
    Answers .keeperReturn s (fun t => t.dev.var V.keeperUp 0 = 1 ∧ t.dev.get F.CLR_PLANE_MGTUP 0 = 1) := by
  have hc := Dev.keeper_keeperBack hk hb hr
  refine ⟨_, rfl, ?_, ?_⟩
  · rw [State.updMem_var _ _ (by decide), Dev.var_of_core hc (by decide)]
    simp
  · rw [State.updMem_get, Dev.get_of_core hc (by decide), Dev.get_set_same]
    rfl

/-- DATA_PLANE_WATCHDOG: DATAUP falls and a reset of the data plane is due. -/
theorem dataPlaneWatchdog_answers (s : State) (hr : s.dev.get F.SYS_REL_DP 0 = 1) (hq : s.dev.var V.dpReq 0 = 0)
    (hp : s.dev.passed V.wdAt 0 (s.dev.var V.wdPer 0 * 1000000) = true) :
    Answers .dataPlaneWatchdog s (fun t => t.dev.var V.dpReq 0 = 1 ∧ t.dev.get F.CLR_PLANE_DATAUP 0 = 0) := by
  have hw : s.dev.watchdog = ((s.dev.setPlane 1 false).irq 0x00 4).setVar V.dpReq 0 1 := if_pos (by simp [Dev.on, hr, hq, hp])
  have hc : ((s.dev.setPlane 1 false).irq 0x00 4).core .core = (s.dev.set F.CLR_PLANE_DATAUP 0 0).core .core :=
    (Dev.core_irq _ _ _).trans (Dev.core_setPlane _ 1 false)
  refine ⟨_, rfl, ?_⟩
  show s.dev.watchdog.var _ _ = _ ∧ s.dev.watchdog.get _ _ = _
  rw [hw, Dev.var_setVar_same, Dev.get_setVar, Dev.get_of_core hc (by decide), Dev.get_set_same]
  exact ⟨rfl, rfl⟩

/-! ### Releases of the data plane (R510, R513, R514) -/

theorem Dev.core_hold_congr {d e : Dev} (h : d.core w = e.core w) {f : Fld} (hf : w.fld f = true) (v : Nat) : (d.hold f v).core w = (e.hold f v).core w := by
  unfold Dev.hold
  rw [Dev.get_of_core h hf]
  split
  · exact h
  · exact Dev.core_set_congr h _ _ _

/-- The data plane runs from here on: released, its bit of CLR_PLANE set, the watchdog armed with the period as it stands. -/
def Dev.dataUp (d : Dev) (period : Nat) : Dev :=
  (((d.set F.SYS_REL_DP 0 1).setVar V.dpLoad 0 0).set F.CLR_PLANE_DATAUP 0 1).setVar V.wdPer 0 (10 * max 100 period : Nat)

/-- The core after a release of the data plane, LADDER aside. -/
def Dev.dataReleased (d : Dev) : Dev := (d.dataUp (d.get F.SYS_DPWD_PERIOD 0)).hold F.SYS_BOOT_DONE 1

/-- The data plane may be released: the keeper may release planes, the load is due, DRAM is trained and the control plane runs (R510, R513). -/
def Dev.dataDue (d : Dev) : Bool := d.mayRelease && d.var V.dpLoad 0 == 1 && d.var V.dramWait 0 == 0 && d.on F.SYS_REL_PA 0

/-- DONE is set where it was not, with the time that the boot took. -/
theorem Dev.core_bootDone (d : Dev) (n : Nat) :
    (if d.on F.SYS_BOOT_DONE 0 then d else ((d.set F.SYS_BOOT_DONE 0 1).set F.SYS_BOOTT_MS 0 n).irq 0x00 3).core w = (d.hold F.SYS_BOOT_DONE 1).core w := by
  simp +decide [Dev.hold, Dev.on]

/-- A release of the data plane changes the core as `dataReleased` says, and LADDER with it but for LIMP (R510, R623). -/
theorem Dev.core_dataRelease {d : Dev} (h : d.dataDue = true) :
    (d.dataRelease true).core .core = d.dataReleased.core .core ∨
      (d.dataRelease true).core .core = (d.dataReleased.hold F.PWR_MODE_LADDER 0).core .core := by
  have hladder : ∀ e : Dev, e.core .core = d.dataReleased.core .core →
      (if e.get F.PWR_MODE_MODE 0 = 5 then e else e.setLadder 0).core .core = d.dataReleased.core .core ∨
        (if e.get F.PWR_MODE_MODE 0 = 5 then e else e.setLadder 0).core .core = (d.dataReleased.hold F.PWR_MODE_LADDER 0).core .core := by
    intro e he
    split
    · exact .inl he
    · exact .inr ((e.core_setLadder (by decide)).trans (Dev.core_hold_congr he (by decide) 0))
  have hup : ∀ n, ((((((d.set F.SYS_REL_DP 0 1).setVar V.dpLoad 0 0).mark V.relAt 1).setPlane 1 true).mark V.wdAt 0).setVar V.wdPer 0 (10 * max 100 n : Nat)).core .core =
      (d.dataUp n).core .core := fun n =>
    Dev.core_setVar_congr ((Dev.core_mark (x := V.wdAt) (by decide) _ _).trans ((Dev.core_setPlane _ 1 true).trans (Dev.core_set_congr (Dev.core_mark (x := V.relAt) (by decide) _ _) _ _ _))) _ _ _
  have hper : (((d.set F.SYS_REL_DP 0 1).setVar V.dpLoad 0 0).mark V.relAt 1).get F.SYS_DPWD_PERIOD 0 = d.get F.SYS_DPWD_PERIOD 0 :=
    d.get_set_kid _ _ _ (by decide)
  unfold Dev.dataRelease
  rw [← Dev.dataDue, h]
  refine hladder _ ((Dev.core_bootDone _ _).trans ?_)
  rw [Dev.dataReleased, ← hper]
  exact Dev.core_hold_congr (hup _) (by decide) 1

theorem Dev.get_dataRelease {d : Dev} (h : d.dataDue = true) {f : Fld} (hf : Watch.core.fld f = true) (hn : f.kid ≠ F.PWR_MODE_LADDER.kid) (i : Nat) :
    (d.dataRelease true).get f i = d.dataReleased.get f i := by
  obtain hc | hc := Dev.core_dataRelease h
  · exact Dev.get_of_core hc hf i
  · exact (Dev.get_of_core hc hf i).trans (Dev.get_hold_ne _ _ hn i)

theorem Dev.var_dataRelease {d : Dev} (h : d.dataDue = true) {x : Vr} (hx : Watch.core.var x = true) (i : Nat) :
    (d.dataRelease true).var x i = d.dataReleased.var x i := by
  obtain hc | hc := Dev.core_dataRelease h
  · exact Dev.var_of_core hc hx i
  · exact (Dev.var_of_core hc hx i).trans (Dev.var_hold ..)

theorem Dev.nor_dataRelease {d : Dev} (h : d.dataDue = true) (i : Nat) : (d.dataRelease true).blob 1 i = d.blob 1 i := by
  obtain hc | hc := Dev.core_dataRelease h
  · exact (Dev.nor_of_core hc i).trans (Dev.blob_hold ..)
  · exact (Dev.nor_of_core hc i).trans ((Dev.blob_hold ..).trans (Dev.blob_hold ..))

/-- What a release of the data plane shows. -/
theorem Dev.dataRelease_shows {d : Dev} (h : d.dataDue = true) :
    (d.dataRelease true).get F.SYS_REL_DP 0 = 1 ∧ (d.dataRelease true).get F.CLR_PLANE_DATAUP 0 = 1 ∧ (d.dataRelease true).get F.SYS_BOOT_DONE 0 = 1 ∧
      (d.dataRelease true).var V.dpLoad 0 = 0 ∧ (d.dataRelease true).var V.wdPer 0 = (10 * max 100 (d.get F.SYS_DPWD_PERIOD 0) : Nat) := by
  simp only [Dev.get_dataRelease h (f := F.SYS_REL_DP) (by decide) (by decide), Dev.get_dataRelease h (f := F.CLR_PLANE_DATAUP) (by decide) (by decide),
    Dev.get_dataRelease h (f := F.SYS_BOOT_DONE) (by decide) (by decide), Dev.var_dataRelease h (x := V.dpLoad) (by decide),
    Dev.var_dataRelease h (x := V.wdPer) (by decide), Dev.dataReleased, Dev.var_hold]
  refine ⟨?_, ?_, Dev.get_hold _ (by decide), ?_, ?_⟩
  · rw [Dev.get_hold_ne _ _ (by decide)]
    simp +decide [Dev.dataUp, Dev.get_set]
  · rw [Dev.get_hold_ne _ _ (by decide)]
    simp +decide [Dev.dataUp]
  · simp +decide [Dev.dataUp, Dev.var_setVar]
  · simp [Dev.dataUp]

variable {s : State} {img : ImgCheck}

theorem dataDue_of (hm : s.dev.mayRelease = true) (hl : s.dev.var V.dpLoad 0 = 1) (hw : s.dev.var V.dramWait 0 = 0) (hp : s.dev.get F.SYS_REL_PA 0 = 1) :
    s.dev.dataDue = true := by
  simp [Dev.dataDue, Dev.on, hm, hl, hw, hp]

theorem exec_dataPlaneLoadDone (hi : s.bootOk img = true) (hb : s.dev.get F.SYS_BOOT_DONE 0 = 0) :
    exec (.dataPlaneLoadDone img) s = .next (s.loaded F.SYS_REL_DP true { s with dev := s.dev.dataRelease true }) := by
  show execDataPlaneLoadDone img s = _
  simp [execDataPlaneLoadDone, Dev.on, hi, hb]

theorem exec_dataPlaneRelease (hi : s.bootOk img = true) (hb : s.dev.get F.SYS_BOOT_DONE 0 = 1) :
    exec (.dataPlaneRelease img) s = .next (s.loaded F.SYS_REL_DP true { s with dev := s.dev.dataRelease true }) := by
  show execDataPlaneRelease img s = _
  simp [execDataPlaneRelease, Dev.on, hi, hb]

/-- DATA_PLANE_LOAD_DONE: the first release. -/
theorem dataPlaneLoadDone_answers (hi : s.bootOk img = true) (hd : s.dev.dataDue = true) (hb : s.dev.get F.SYS_BOOT_DONE 0 = 0) :
    Answers (.dataPlaneLoadDone img) s (fun t => t.dev.get F.SYS_REL_DP 0 = 1 ∧ t.dev.get F.CLR_PLANE_DATAUP 0 = 1 ∧ t.dev.get F.SYS_BOOT_DONE 0 = 1 ∧
      t.dev.var V.dpLoad 0 = 0 ∧ t.dev.var V.wdPer 0 = (10 * max 100 (s.dev.get F.SYS_DPWD_PERIOD 0) : Nat)) := by
  refine ⟨_, exec_dataPlaneLoadDone hi hb, ?_⟩
  simp only [State.loaded_get, State.loaded_var _ _ _ _ (x := V.dpLoad) (by decide), State.loaded_var _ _ _ _ (x := V.wdPer) (by decide)]
  exact Dev.dataRelease_shows hd

/-- DATA_PLANE_RELEASE: a later release. -/
theorem dataPlaneRelease_answers (hi : s.bootOk img = true) (hd : s.dev.dataDue = true) (hb : s.dev.get F.SYS_BOOT_DONE 0 = 1) :
    Answers (.dataPlaneRelease img) s (fun t => t.dev.get F.SYS_REL_DP 0 = 1 ∧ t.dev.get F.CLR_PLANE_DATAUP 0 = 1 ∧ t.dev.var V.dpLoad 0 = 0) := by
  obtain ⟨hrel, hup, -, hload, -⟩ := Dev.dataRelease_shows hd
  refine ⟨_, exec_dataPlaneRelease hi hb, ?_⟩
  simp only [State.loaded_get, State.loaded_var _ _ _ _ (x := V.dpLoad) (by decide)]
  exact ⟨hrel, hup, hload⟩

/-- The components of a plane are read from NOR and the slot booted. -/
theorem Dev.planeComps_congr {d e : Dev} (hs : d.get F.SYS_BOOT_SLOT 0 = e.get F.SYS_BOOT_SLOT 0) (hb : ∀ i, d.blob 1 i = e.blob 1 i) (data : Bool) :
    d.planeComps data = e.planeComps data := by
  simp only [Dev.planeComps, Dev.manifest, hs, hb]

theorem Dev.imgBytes_congr {d e : Dev} (hb : ∀ i, d.blob 1 i = e.blob 1 i) (slot off n : Nat) : d.imgBytes slot off n = e.imgBytes slot off n := by
  simp only [Dev.imgBytes, hb]

/-- A plane with one component, just released, runs from a copy of it. -/
theorem State.loaded_one_mem {t : State} {r : Fld} {data : Bool} {e : List Nat} (h0 : s.dev.get r 0 = 0) (h1 : t.dev.get r 0 = 1)
    (hc : t.dev.planeComps data = [e]) : (s.loaded r data t).mem =
      memWrite t.mem (leAt e 8 8) (t.dev.imgBytes (t.dev.get F.SYS_BOOT_SLOT 0) (leAt e 20 4) (leAt e 16 4)) := by
  rw [State.loaded, if_pos (by simp [Dev.on, h0, h1]), hc]
  rfl

/-- DATA_PLANE_LOAD_DONE: the one component is copied to its address (R510, R526). -/
theorem dataPlaneLoadDone_copies {e : List Nat} (hi : s.bootOk img = true) (hd : s.dev.dataDue = true) (hb : s.dev.get F.SYS_BOOT_DONE 0 = 0)
    (hr : s.dev.get F.SYS_REL_DP 0 = 0) (he : s.dev.planeComps true = [e]) :
    Answers (.dataPlaneLoadDone img) s (fun t =>
      t.mem = memWrite s.mem (leAt e 8 8) (s.dev.imgBytes (t.dev.get F.SYS_BOOT_SLOT 0) (leAt e 20 4) (leAt e 16 4))) := by
  have hrel := (Dev.dataRelease_shows hd).1
  have hslot : (s.dev.dataRelease true).get F.SYS_BOOT_SLOT 0 = s.dev.get F.SYS_BOOT_SLOT 0 := by
    rw [Dev.get_dataRelease hd (by decide) (by decide), Dev.dataReleased, Dev.get_hold_ne _ _ (by decide)]
    simp +decide [Dev.dataUp, Dev.get_set]
  have hcomps := (Dev.planeComps_congr hslot (Dev.nor_dataRelease hd) true).trans he
  refine ⟨_, exec_dataPlaneLoadDone hi hb, ?_⟩
  beta_reduce
  rw [State.loaded_get, State.loaded_one_mem (t := { s with dev := s.dev.dataRelease true }) hr hrel hcomps, Dev.imgBytes_congr (Dev.nor_dataRelease hd)]

/-! ### Module reset (R72, R503, R525) -/

/-- Entries of a key may all leave a store: nothing is found under it. -/
theorem store_find_filter_none {α : Type} (s : Store α) (p : (Nat × Nat) × α → Bool) (k : Nat × Nat) (h : ∀ v, p (k, v) = false) :
    Store.find (s.filter p) k = none := by
  induction s with
  | nil => rfl
  | cons e t ih =>
    obtain ⟨k', v⟩ := e
    by_cases hk : k' = k
    · subst hk; simpa [h] using ih
    · cases hp : p (k', v) <;> simp [Store.find, hp, hk, ih]

/-- Every block loses its registers and variables but those that survive a module reset. -/
def Dev.cleared (d : Dev) : Dev := d.drop (fun _ => true) (fun _ => false) (fun _ => false)

theorem Dev.get_cleared (d : Dev) {f : Fld} {i : Nat} (h : nvmKid (regSlot (f.kid, i)) f.kid = false) : d.cleared.get f i = f.reset i := by
  simp only [Dev.get, Dev.cleared, Dev.drop]
  rw [store_find_filter_none _ _ _ fun v => by simp [h]]
  rfl

theorem Dev.var_cleared (d : Dev) {x : Vr} (h : keptVars.contains x.id = false) (i : Nat) : d.cleared.var x i = x.init := by
  simp only [Dev.var, Dev.cleared, Dev.drop]
  rw [store_find_filter_none _ _ _ fun v => by simp only [h]; rfl]
  rfl

theorem Dev.line_cleared (d : Dev) (i : Nat) : d.cleared.var V.line i = d.var V.line i := by
  simp only [Dev.var, Dev.cleared, Dev.drop]
  rw [Store.find_filter _ _ _ fun v => by simp +decide]

@[simp] theorem Dev.core_eraseArea {a : Nat} (h : a < 2) (d : Dev) : (d.eraseArea a).core w = d.core w :=
  Dev.core_eq (fun _ _ _ => rfl) (fun _ _ _ => rfl) rfl fun i => by
    simp only [Dev.blob, Dev.eraseArea]
    rw [Store.find_filter _ _ _ fun v => by simp; omega]

@[simp] theorem Dev.core_lifeEnter (d : Dev) (old new : Nat) : (d.lifeEnter old new).core w = d.core w := by simp +decide [Dev.lifeEnter]

/-- The core as a module reset leaves it with PWR_WAKE low. -/
def Dev.atReset (d : Dev) (cause st : Nat) : Dev :=
  ((((d.cleared.setVar V.lcSt 0 st).set F.SYS_RSTC_CAUSE 0 cause).setVar V.dramGone 0 1).setVar V.dramWait 0 1).setVar V.dramGone 0 3

/-- Contents of DRAM, SRAM and the TCMs are marked lost. -/
theorem Dev.core_allLost {d e : Dev} (hc : d.core .core = e.core .core) (hg : e.var V.dramGone 0 = 0) :
    d.dramLose.sramLose.core .core = (((e.setVar V.dramGone 0 1).setVar V.dramWait 0 1).setVar V.dramGone 0 3).core .core := by
  have hlost : d.dramLose.core .core = ((e.setVar V.dramGone 0 1).setVar V.dramWait 0 1).core .core := by
    rw [Dev.core_dramLose, Dev.var_of_core hc (by decide), hg]
    exact Dev.core_setVar_congr (Dev.core_setVar_congr hc _ _ _) _ _ _
  have hone : d.dramLose.var V.dramGone 0 = 1 := by
    rw [Dev.var_of_core hlost (by decide), Dev.var_setVar_id _ _ _ _ (by decide), Dev.var_setVar_same]
  rw [Dev.sramLose, hone]
  exact Dev.core_setVar_congr hlost _ _ _

/-- A module reset up to the loss of memory: the life cycle's state and the cause are set, and the reset is recorded. -/
def Dev.restarted (d : Dev) (cause st : Nat) : Dev :=
  let kept := d.cleared.when (cause != 1 && d.on F.COM_STAT_RUN 0x31) fun a => (a.set F.COM_STAT_RUN 0x31 1).set F.COM_STAT_CFGLOCK 0x31 1
  let entered := (({ kept with reports := [], clrBuf := [] } : Dev).setVar V.lcSt 0 st).lifeEnter (d.var V.lcSt 0).toNat st
  (((entered.set F.SYS_RSTC_CAUSE 0 cause).incSat F.SYS_RSTC_CNT 0).keeperRec 0 0x1006 [cause]).thetaRestore false

theorem Dev.moduleReset_eq (d : Dev) (cause st : Nat) : d.moduleReset cause st =
    let f := (d.restarted cause st).dramLose.sramLose.set F.PWR_SUPPLY_LINE 0 ((d.restarted cause st).var V.line 0).toNat
    if f.var V.line 0 = 1 then ((f.set F.PWR_WAKE_STAT_CAUSE 0 5).setVar V.pwrSrc 0 0).roadEnter else f := by
  unfold Dev.moduleReset Dev.restarted Dev.cleared
  rfl

theorem Dev.core_restarted (d : Dev) (cause st : Nat) :
    (d.restarted cause st).core .core = ((d.cleared.setVar V.lcSt 0 st).set F.SYS_RSTC_CAUSE 0 cause).core .core := by
  simp only [Dev.restarted, Dev.core_thetaRestore, Dev.core_keeperRec, Dev.core_incSat (f := F.SYS_RSTC_CNT) (by decide)]
  refine Dev.core_set_congr ((Dev.core_lifeEnter _ _ _).trans (Dev.core_setVar_congr ((Dev.core_mk _ ..).trans ?_) _ _ _)) _ _ _
  simp +decide

theorem Dev.reports_of_rest {d e : Dev} (h : d.rest = e.rest) : d.reports = e.reports := congrArg (fun a => a.reports) h

@[simp] theorem Dev.lifeEnter_reports (d : Dev) (old new : Nat) : (d.lifeEnter old new).reports = d.reports := by
  simp [Dev.lifeEnter, Dev.when, apply_ite Dev.reports, Dev.eraseArea]

@[simp] theorem Dev.keeperRec_reports (d : Dev) (cls code : Nat) (pay : List Nat) : (d.keeperRec cls code pay).reports = d.reports := by
  unfold Dev.keeperRec Dev.shrdIntake
  split
  · dsimp only
    split <;> rfl
  · refine (Dev.reports_of_rest ((Dev.cone_rest_eq _ _ _ _).trans (Dev.irq_rest _ _ _))).trans ?_
    rw [Dev.setVar_reports, Dev.incSat, Dev.set_reports]

@[simp] theorem Dev.thetaRestore_reports (d : Dev) (kept : Bool) : (d.thetaRestore kept).reports = d.reports := by
  unfold Dev.thetaRestore
  exact (Dev.setVar_reports _ _ _ _).trans (Dev.each_keeps Dev.reports _ _ d fun _ _ _ => Dev.setVar_reports _ _ _ _)

theorem Dev.restarted_reports (d : Dev) (cause st : Nat) : (d.restarted cause st).reports = [] := by
  simp [Dev.restarted, Dev.incSat]

theorem Dev.core_restarted_lost (d : Dev) (cause st : Nat) : (d.restarted cause st).dramLose.sramLose.core .core = (d.atReset cause st).core .core :=
  Dev.core_allLost (d.core_restarted cause st) ((d.cleared.var_setVar_id _ _ _ (by decide)).trans (d.var_cleared (by decide) 0))

theorem Dev.moduleReset_low {d : Dev} (cause st : Nat) (hl : d.var V.line 0 = 0) :
    d.moduleReset cause st = (d.restarted cause st).dramLose.sramLose.set F.PWR_SUPPLY_LINE 0 0 := by
  have hline : (d.restarted cause st).var V.line 0 = 0 := by
    rw [Dev.var_of_core (d.core_restarted cause st) (by decide), Dev.var_set, Dev.var_setVar_id _ _ _ _ (by decide), Dev.line_cleared, hl]
  have hlost : (d.restarted cause st).dramLose.sramLose.var V.line 0 = 0 := by
    rw [Dev.var_of_core (d.core_restarted_lost cause st) (by decide)]
    simpa +decide [Dev.atReset, Dev.var_setVar, Dev.line_cleared] using hl
  rw [Dev.moduleReset_eq]
  simp [hline, hlost]

theorem Dev.core_moduleReset {d : Dev} (cause st : Nat) (hl : d.var V.line 0 = 0) : (d.moduleReset cause st).core .core = (d.atReset cause st).core .core := by
  rw [Dev.moduleReset_low cause st hl, Dev.core_set_ne (by decide), Dev.core_restarted_lost]

theorem Dev.moduleReset_reports {d : Dev} (cause st : Nat) (hl : d.var V.line 0 = 0) : (d.moduleReset cause st).reports = [] := by
  simp only [Dev.moduleReset_low cause st hl, Dev.sramLose, Dev.dramLose, Dev.memShow, Dev.set_reports, Dev.setVar_reports, Dev.restarted_reports]

/-- A field of the core reads its reset value after a module reset, RSTC_CAUSE and the fields in MRAM aside. -/
theorem Dev.get_moduleReset {d : Dev} (cause st : Nat) (hl : d.var V.line 0 = 0) {f : Fld} (hf : Watch.core.fld f = true) (hc : f.kid ≠ F.SYS_RSTC_CAUSE.kid)
    {i : Nat} (hn : nvmKid (regSlot (f.kid, i)) f.kid = false) : (d.moduleReset cause st).get f i = f.reset i := by
  rw [Dev.get_of_core (Dev.core_moduleReset cause st hl) hf]
  exact (Dev.get_set_kid _ _ _ _ hc).trans (Dev.get_cleared d hn)

/-- MODULE_RESET with PWR_WAKE low. -/
theorem moduleReset_answers (s : State) (p : Bool) (hp : p = true ∨ s.dev.var V.modReq 0 ≠ 0) (hl : s.dev.var V.line 0 = 0) :
    Answers (.moduleReset p) s (fun t => t.dev.get F.SYS_RSTC_CAUSE 0 = (s.resetCause p) % 2 ^ F.SYS_RSTC_CAUSE.width ∧ t.dev.get F.PWR_MODE_MODE 0 = 1 ∧
      t.dev.get F.PWR_MODE_LADDER 0 = 1 ∧ t.dev.get F.SYS_REL_PA 0 = 0 ∧ t.dev.get F.SYS_REL_DP 0 = 0 ∧ t.dev.var V.keeperUp 0 = 0 ∧ t.dev.var V.modReq 0 = 0 ∧
      t.dev.reports = [] ∧ t.log = s.log ∧ t.otp = s.otp ∧ t.mem = lostMem 3 s.dev.free s.mem) := by
  have hc := Dev.core_moduleReset (s.resetCause p) s.otp.st hl
  have hrun : (if p || s.dev.var V.modReq 0 != 0 then s.updMem (fun d => d.moduleReset (s.resetCause p) s.otp.st) else s) =
      s.updMem (fun d => d.moduleReset (s.resetCause p) s.otp.st) := if_pos (by simpa using hp)
  have hgone : (s.dev.moduleReset (s.resetCause p) s.otp.st).var V.dramGone 0 = 3 :=
    (Dev.var_of_core hc (by decide) 0).trans (Dev.var_setVar_same _ _ _ _)
  have hvar : ∀ x : Vr, Watch.core.var x = true → keptVars.contains x.id = false → x.id ≠ V.lcSt.id → x.id ≠ V.dramGone.id → x.id ≠ V.dramWait.id →
      (s.dev.moduleReset (s.resetCause p) s.otp.st).var x 0 = x.init := fun x hx hk h1 h2 h3 => by
    rw [Dev.var_of_core hc hx]
    simp only [Dev.atReset, Dev.var_setVar, h1, h2, h3, false_and, if_false, Dev.var_set]
    exact Dev.var_cleared _ hk 0
  refine ⟨_, congrArg Host.Outcome.next hrun, ?_, ?_, ?_, ?_, ?_, ?_, ?_, ?_, by simp, by simp, ?_⟩
  · rw [State.updMem_get, Dev.get_of_core hc (by decide)]
    exact Dev.get_set_same _ _ _ _
  · rw [State.updMem_get, Dev.get_moduleReset _ _ hl (by decide) (by decide) (by decide +kernel)]
    rfl
  · rw [State.updMem_get, Dev.get_moduleReset _ _ hl (by decide) (by decide) (by decide +kernel)]
    rfl
  · rw [State.updMem_get, Dev.get_moduleReset _ _ hl (by decide) (by decide) (by decide +kernel)]
    rfl
  · rw [State.updMem_get, Dev.get_moduleReset _ _ hl (by decide) (by decide) (by decide +kernel)]
    rfl
  · rw [State.updMem_var _ _ (by decide)]
    exact hvar V.keeperUp (by decide) (by decide) (by decide) (by decide) (by decide)
  · rw [State.updMem_var _ _ (by decide)]
    exact hvar V.modReq (by decide) (by decide) (by decide) (by decide) (by decide)
  · rw [State.updMem_reports]
    exact Dev.moduleReset_reports _ _ hl
  · rw [State.updMem_mem _ _ (by rw [hgone]; decide), hgone, Dev.free_of_core hc]
    rfl

/-! ### Releases of the control plane (R510, R513, R613) -/

/-- The control plane runs from here on: both pairs released, its bit of CLR_PLANE set, the deadman armed with FIRST_T. -/
def Dev.ctlStarted (d : Dev) : Dev :=
  (((((d.set F.SYS_REL_PA 0 1).set F.SYS_REL_PB 0 1).setVar V.cpLoad 0 0).set F.CLR_PLANE_CTLUP 0 1).set F.PWR_DEAD_ARMED 0 1).setVar V.hbDue 0
    (d.var V.uptime 0 + (max 20 (d.get F.PWR_DEAD_FIRST_T 0) : Nat) * 1000000 * 65536)

/-- The start of the control plane up to the heartbeat's deadline. -/
def Dev.ctlArming (d : Dev) : Dev :=
  ((((((((d.set F.SYS_REL_PA 0 1).set F.SYS_REL_PB 0 1).setVar V.cpLoad 0 0).mark V.relAt 0).setPlane 0 true).set F.PWR_DEAD_ARMED 0 1).setVar V.hbLast 0 0).setVar
    V.deadOut 0 0)

theorem Dev.core_ctlArming (d : Dev) : d.ctlArming.core .core =
    (((((d.set F.SYS_REL_PA 0 1).set F.SYS_REL_PB 0 1).setVar V.cpLoad 0 0).set F.CLR_PLANE_CTLUP 0 1).set F.PWR_DEAD_ARMED 0 1).core .core := by
  simp only [Dev.ctlArming, Dev.core_setVar (x := V.hbLast) (by decide), Dev.core_setVar (x := V.deadOut) (by decide)]
  exact Dev.core_set_congr ((Dev.core_setPlane _ 0 true).trans (Dev.core_set_congr (Dev.core_mark (x := V.relAt) (by decide) _ _) _ _ _)) _ _ _

theorem Dev.core_ctlStart (d : Dev) : d.ctlStart.core .core = d.ctlStarted.core .core := by
  have hc := d.core_ctlArming
  have huptime : d.ctlArming.var V.uptime 0 = d.var V.uptime 0 := by
    rw [Dev.var_of_core hc (by decide)]
    exact d.var_setVar_id _ _ _ (by decide)
  have hfirst : d.ctlArming.get F.PWR_DEAD_FIRST_T 0 = d.get F.PWR_DEAD_FIRST_T 0 := by
    rw [Dev.get_of_core hc (by decide)]
    simp +decide [Dev.get_set]
  have hstart : d.ctlStart = (((d.ctlArming.setVar V.hbBlock 0 0).setVar V.hbDue 0
      (d.ctlArming.var V.uptime 0 + (max 20 (d.ctlArming.get F.PWR_DEAD_FIRST_T 0) : Nat) * 1000000 * 65536)).lswSupply F.LSW_SUPPLY_DEAD false).solSupply
        F.SOL_SUPPLY_DEAD false := rfl
  rw [hstart, Dev.core_solSupply _ (by decide), Dev.core_lswSupply _ (by decide), huptime, hfirst]
  exact Dev.core_setVar_congr ((Dev.core_setVar (x := V.hbBlock) (by decide) _ _ _).trans hc) _ _ _

/-- A release that is due and finds a good image and no failed region starts the plane. -/
theorem Dev.ctlRelease_starts {d : Dev} (hm : d.mayRelease = true) (hl : d.var V.cpLoad 0 = 1) (hr : d.failedRegions = 0) : d.ctlRelease true = d.ctlStart := by
  simp [Dev.ctlRelease, hm, hl, hr]

/-- What a start of the control plane shows. -/
theorem Dev.ctlStart_shows (d : Dev) :
    d.ctlStart.get F.SYS_REL_PA 0 = 1 ∧ d.ctlStart.get F.SYS_REL_PB 0 = 1 ∧ d.ctlStart.get F.CLR_PLANE_CTLUP 0 = 1 ∧ d.ctlStart.get F.PWR_DEAD_ARMED 0 = 1 ∧
      d.ctlStart.var V.cpLoad 0 = 0 ∧ d.ctlStart.var V.hbDue 0 = d.var V.uptime 0 + (max 20 (d.get F.PWR_DEAD_FIRST_T 0) : Nat) * 1000000 * 65536 := by
  have hc := d.core_ctlStart
  rw [Dev.get_of_core hc (by decide), Dev.get_of_core hc (by decide), Dev.get_of_core hc (by decide), Dev.get_of_core hc (by decide),
    Dev.var_of_core hc (by decide), Dev.var_of_core hc (by decide)]
  simp +decide [Dev.ctlStarted, Dev.get_set, Dev.var_setVar]

/-- CONTROL_PLANE_RELEASE of a good image. -/
theorem controlPlaneRelease_answers (hi : s.bootOk img = true) (hm : s.dev.mayRelease = true) (hl : s.dev.var V.cpLoad 0 = 1) (hr : s.dev.failedRegions = 0) :
    Answers (.controlPlaneRelease img) s (fun t => t.dev.get F.SYS_REL_PA 0 = 1 ∧ t.dev.get F.SYS_REL_PB 0 = 1 ∧ t.dev.get F.CLR_PLANE_CTLUP 0 = 1 ∧
      t.dev.get F.PWR_DEAD_ARMED 0 = 1 ∧ t.dev.var V.cpLoad 0 = 0 ∧
      t.dev.var V.hbDue 0 = s.dev.var V.uptime 0 + (max 20 (s.dev.get F.PWR_DEAD_FIRST_T 0) : Nat) * 1000000 * 65536) := by
  have hx : s.dev.ctlRelease (s.bootOk img) = s.dev.ctlStart := by rw [hi, Dev.ctlRelease_starts hm hl hr]
  refine ⟨_, rfl, ?_⟩
  simp only [State.loaded_get, State.loaded_var _ _ _ _ (x := V.cpLoad) (by decide), State.loaded_var _ _ _ _ (x := V.hbDue) (by decide), State.updMem_get,
    State.updMem_var _ _ (x := V.cpLoad) (by decide), State.updMem_var _ _ (x := V.hbDue) (by decide), hx]
  exact s.dev.ctlStart_shows

/-- A field outside a scope reads alike in devices that show the same outside it. -/
theorem Dev.get_of_view {κ : Scope} {d e : Dev} (h : d.view κ = e.view κ) {f : Fld} (hf : κ.Keeps f) (i : Nat) : d.get f i = e.get f i :=
  congrFun (congrFun (congrArg (fun v => v.1) h) ⟨f, hf⟩) i

/-- What a failed load leaves: SYS faulty, the booted slot FAILED, a module reset due (R510). -/
theorem Dev.loadFail_shows (d : Dev) :
    d.loadFail.get F.SYS_REL_PA 0 = d.get F.SYS_REL_PA 0 ∧ d.loadFail.get F.COM_STAT_FAULT 0x00 = 1 ∧ d.loadFail.var V.modReq 0 = 3 ∧
      d.loadFail.get F.UPD_SL_STAT_ST (d.get F.UPD_STATE_BOOTED 0) = 7 := by
  have hslot := Dev.view_slotState (κ := ⟨[F.UPD_SL_STAT_REASON, F.UPD_SL_STAT_ST, F.UPD_STATE_TRIAL], false, false, false, false⟩)
    (d.set F.COM_STAT_FAULT 0x00 1) (d.get F.UPD_STATE_BOOTED 0) 7 1 (List.Subset.refl _)
  refine ⟨?_, ?_, Dev.var_setVar_same _ _ _ _, ?_⟩
  · exact (Dev.get_of_view hslot (by unfold Scope.Keeps; decide) 0).trans (Dev.get_set_kid _ _ _ _ (by decide))
  · exact (Dev.get_of_view hslot (by unfold Scope.Keeps; decide) 0).trans (Dev.get_set_same _ _ _ _)
  · have hst : ((((d.set F.COM_STAT_FAULT 0x00 1).set F.UPD_SL_STAT_ST (d.get F.UPD_STATE_BOOTED 0) 7).set F.UPD_SL_STAT_REASON (d.get F.UPD_STATE_BOOTED 0) 1).irq 0x30 2).get
        F.UPD_SL_STAT_ST (d.get F.UPD_STATE_BOOTED 0) = 7 := by
      rw [Dev.get_of_core (w := .core) (Dev.core_irq _ _ _) (by decide), Dev.get_set_kid _ _ _ _ (by decide), Dev.get_set_same]
      rfl
    exact (Dev.get_set_kid _ _ _ _ (by decide)).trans hst

/-- CONTROL_PLANE_RELEASE of an image that fails its check. -/
theorem controlPlaneRelease_fails (hi : s.bootOk img = false) (hm : s.dev.mayRelease = true) (hl : s.dev.var V.cpLoad 0 = 1) :
    Answers (.controlPlaneRelease img) s (fun t => t.dev.get F.SYS_REL_PA 0 = s.dev.get F.SYS_REL_PA 0 ∧ t.dev.get F.COM_STAT_FAULT 0x00 = 1 ∧
      t.dev.var V.modReq 0 = 3 ∧ t.dev.get F.UPD_SL_STAT_ST (s.dev.get F.UPD_STATE_BOOTED 0) = 7) := by
  have hx : s.dev.ctlRelease (s.bootOk img) = s.dev.loadFail := by simp [Dev.ctlRelease, hi, hm, hl]
  refine ⟨_, rfl, ?_⟩
  simp only [State.loaded_get, State.loaded_var _ _ _ _ (x := V.modReq) (by decide), State.updMem_get, State.updMem_var _ _ (x := V.modReq) (by decide), hx]
  exact s.dev.loadFail_shows

/-! ### The keeper's boot (R510, R513, R529, R542, R627) -/

/-- The core with the keeper started. -/
def Dev.keeperStarted (d : Dev) (strap : Bool) : Dev :=
  (((d.setVar V.keeperUp 0 1).set F.CLR_PLANE_MGTUP 0 1).setVar V.booted 0 1).set F.SYS_STRAP_NOW 0 (bit strap)

theorem Dev.core_keeperStart (d : Dev) (strap : Bool) : (d.keeperStart strap).core w = (d.keeperStarted strap).core w := by
  simp only [Dev.keeperStart, Dev.core_keeperRec, Dev.core_set (f := F.SYS_STRAP_BOOT) (by decide)]
  exact Dev.core_set_congr ((Dev.core_setVar (x := V.strapNow) (by decide) _ _ _).trans (Dev.core_setVar_congr (Dev.core_setPlane _ 2 true) _ _ _)) _ _ _

theorem Dev.get_keeperStart (d : Dev) (strap : Bool) {f : Fld} (hf : Watch.core.fld f = true) (h1 : f.kid ≠ F.CLR_PLANE_MGTUP.kid) (h2 : f.kid ≠ F.SYS_STRAP_NOW.kid)
    (i : Nat) : (d.keeperStart strap).get f i = d.get f i := by
  rw [Dev.get_of_core (Dev.core_keeperStart _ _) hf]
  exact (Dev.get_set_kid _ _ _ _ h2).trans (Dev.get_set_kid _ _ _ _ h1)

theorem Dev.var_keeperStart (d : Dev) (strap : Bool) {x : Vr} (hx : Watch.core.var x = true) (h1 : x.id ≠ V.keeperUp.id) (h2 : x.id ≠ V.booted.id)
    (i : Nat) : (d.keeperStart strap).var x i = d.var x i := by
  rw [Dev.var_of_core (Dev.core_keeperStart _ _) hx]
  exact (Dev.var_setVar_id _ _ _ _ h2).trans (Dev.var_setVar_id _ _ _ _ h1)

/-- The keeper may boot: it has not yet, no Kiln run goes on, and VSUP has been above 16 V for 10 ms (R609). -/
def Dev.bootDue (d : Dev) : Prop := d.var V.booted 0 ≠ 1 ∧ d.var V.kilnOn 0 ≠ 1 ∧ d.var V.supOn 2 = 1 ∧ d.passed V.supOnAt 2 10000000 = true

variable {d : Dev} {o : Otp} {x y : ImgCheck}

theorem Dev.keeperBoot_strap (h : d.bootDue) : d.keeperBoot o true x y = ((d.keeperStart true).set F.SYS_BOOT_STRAP 0 1).bootEnd true := by
  obtain ⟨hb, hk, hs, hp⟩ := h
  simp [Dev.keeperBoot, hb, hk, hs, hp]

theorem Dev.keeperBoot_chooses (h : d.bootDue) (hl : d.var V.lcSt 0 ≠ 4) : d.keeperBoot o false x y =
    ((d.keeperStart false).chooseSlot fun i => (d.keeperStart false).imgOk o i (if i = 0 then x else y)).bootEnd true := by
  obtain ⟨hb, hk, hs, hp⟩ := h
  have hl : (d.keeperStart false).var V.lcSt 0 ≠ 4 := by rwa [Dev.var_keeperStart _ _ (by decide) (by decide) (by decide)]
  simp [Dev.keeperBoot, hb, hk, hs, hp, hl]

/-- With no wake latched a boot that stays in PARKED ends at rest. -/
theorem Dev.bootEnd_rests {ok : Bool} (hw : d.var V.wakePend 0 = 0) (hm : d.get F.PWR_MODE_MODE 0 < 2) (hp : d.get F.PWR_MODE_PENDV 0 = 0) :
    d.bootEnd ok = d.pwrDown 1 := by
  have hwake : d.wakeGo = d := if_pos (.inl (by rw [hw]; rfl))
  rw [Dev.bootEnd, hwake]
  exact if_pos ⟨hm, by simp [Dev.on, hp]⟩

theorem Dev.bootEnd_releases {ok : Bool} (hm : 2 ≤ d.get F.PWR_MODE_MODE 0) : d.bootEnd ok = d.ctlRelease ok := by
  have hwake : d.wakeGo = d := if_pos (.inr (.inr hm))
  rw [Dev.bootEnd, hwake]
  exact if_neg fun h => absurd h.1 (by omega)

theorem Dev.ladder_pwrDown (d : Dev) : (d.pwrDown 1).get F.PWR_MODE_LADDER 0 = 3 := by
  rw [Dev.pwrDown, Dev.get_of_core (Dev.core_setLadder _ (by decide)) (by decide)]
  exact Dev.get_hold _ (by decide)

/-- KEEPER_BOOT with the strap: no slot is booted, and a module in PARKED goes to rest. -/
theorem keeperBoot_strap_answers (h : s.dev.bootDue) (hw : s.dev.var V.wakePend 0 = 0) (hm : s.dev.get F.PWR_MODE_MODE 0 = 1) (hp : s.dev.get F.PWR_MODE_PENDV 0 = 0) :
    Answers (.keeperBoot true x y) s (fun t => t.dev.var V.keeperUp 0 = 1 ∧ t.dev.var V.booted 0 = 1 ∧ t.dev.get F.CLR_PLANE_MGTUP 0 = 1 ∧
      t.dev.get F.SYS_STRAP_NOW 0 = 1 ∧ t.dev.get F.SYS_BOOT_STRAP 0 = 1 ∧ t.dev.get F.PWR_MODE_LADDER 0 = 3) := by
  have hboot : s.dev.keeperBoot s.otp true x y = ((s.dev.keeperStart true).set F.SYS_BOOT_STRAP 0 1).pwrDown 1 := by
    rw [Dev.keeperBoot_strap h, Dev.bootEnd_rests]
    · rwa [Dev.var_set, Dev.var_keeperStart _ _ (by decide) (by decide) (by decide)]
    · rw [Dev.get_set_kid _ _ _ _ (by decide), Dev.get_keeperStart _ _ (by decide) (by decide) (by decide), hm]
      decide
    · rwa [Dev.get_set_kid _ _ _ _ (by decide), Dev.get_keeperStart _ _ (by decide) (by decide) (by decide)]
  have hc : (s.dev.keeperBoot s.otp true x y).core .keeper = ((s.dev.keeperStarted true).set F.SYS_BOOT_STRAP 0 1).core .keeper := by
    rw [hboot, Dev.keeper_pwrDown]
    exact Dev.core_set_congr (Dev.core_keeperStart _ _) _ _ _
  refine ⟨_, rfl, ?_⟩
  simp only [State.loaded_get, State.loaded_var _ _ _ _ (x := V.keeperUp) (by decide), State.loaded_var _ _ _ _ (x := V.booted) (by decide), State.updMem_get,
    State.updMem_var _ _ (x := V.keeperUp) (by decide), State.updMem_var _ _ (x := V.booted) (by decide)]
  rw [Dev.var_of_core hc (by decide), Dev.var_of_core hc (by decide), Dev.get_of_core hc (by decide), Dev.get_of_core hc (by decide), Dev.get_of_core hc (by decide), hboot]
  refine ⟨?_, ?_, ?_, ?_, Dev.get_set_same _ _ _ _, Dev.ladder_pwrDown _⟩
  · simp +decide [Dev.keeperStarted, Dev.var_setVar]
  · simp +decide [Dev.keeperStarted]
  · simp +decide [Dev.keeperStarted, Dev.get_set]
  · simp +decide [Dev.keeperStarted, Dev.get_set]

theorem Dev.trialEnds_other {i : Nat} (h : d.get F.UPD_SL_STAT_ST i ≠ 4) : d.trialEnds i = d := if_pos h

theorem Dev.trySlot_other {st i : Nat} {ok : Bool} (h : d.get F.UPD_SL_STAT_ST i ≠ st) : d.trySlot st i ok = d := if_pos (.inr h)

theorem Dev.trySlot_after {st i : Nat} {ok : Bool} (h : d.get F.SYS_BOOT_SLOT 0 ≠ 3) : d.trySlot st i ok = d := if_pos (.inl h)

/-- Two slots that hold no image to boot: the unit is Fallen with REASON NOSLOT. -/
theorem Dev.chooseSlot_none {ok : Nat → Bool} (hs : d.get F.SYS_BOOT_SLOT 0 = 3) (h0 : d.get F.UPD_SL_STAT_ST 0 < 3) (h1 : d.get F.UPD_SL_STAT_ST 1 < 3) :
    d.chooseSlot ok = d.fall 1 := by
  have hreason : d.fallReason = 1 := by simp [Dev.fallReason, show d.get F.UPD_SL_STAT_ST 0 ≠ 7 by omega, show d.get F.UPD_SL_STAT_ST 1 ≠ 7 by omega]
  simp only [Dev.chooseSlot, Dev.trialEnds_other (d := d) (i := 0) (by omega), Dev.trialEnds_other (d := d) (i := 1) (by omega),
    Dev.trySlot_other (d := d) (st := 3) (i := 0) (by omega), Dev.trySlot_other (d := d) (st := 3) (i := 1) (by omega),
    Dev.trySlot_other (d := d) (st := 5) (i := 0) (by omega), Dev.trySlot_other (d := d) (st := 5) (i := 1) (by omega), hs, if_true, hreason]

theorem Dev.core_fall (d : Dev) (r : Nat) : (d.fall r).core w = ((d.set F.UPD_STATE_FALLEN 0 1).set F.UPD_STATE_REASON 0 r).core w := by
  simp +decide [Dev.fall]

/-- KEEPER_BOOT with no slot to boot: Fallen with REASON NOSLOT. -/
theorem keeperBoot_falls (h : s.dev.bootDue) (hl : s.dev.var V.lcSt 0 ≠ 4) (hs : s.dev.get F.SYS_BOOT_SLOT 0 = 3) (h0 : s.dev.get F.UPD_SL_STAT_ST 0 < 3)
    (h1 : s.dev.get F.UPD_SL_STAT_ST 1 < 3) (hw : s.dev.var V.wakePend 0 = 0) (hm : s.dev.get F.PWR_MODE_MODE 0 = 1) (hp : s.dev.get F.PWR_MODE_PENDV 0 = 0) :
    Answers (.keeperBoot false x y) s (fun t => t.dev.get F.UPD_STATE_FALLEN 0 = 1 ∧ t.dev.get F.UPD_STATE_REASON 0 = 1 ∧ t.dev.var V.keeperUp 0 = 1) := by
  have hkeep : ∀ f : Fld, Watch.core.fld f = true → f.kid ≠ F.CLR_PLANE_MGTUP.kid → f.kid ≠ F.SYS_STRAP_NOW.kid → ∀ i, (s.dev.keeperStart false).get f i = s.dev.get f i :=
    fun f hf h1 h2 i => s.dev.get_keeperStart false hf h1 h2 i
  have hfall : ∀ f : Fld, Watch.core.fld f = true → f.kid ≠ F.UPD_STATE_FALLEN.kid → f.kid ≠ F.UPD_STATE_REASON.kid → f.kid ≠ F.CLR_PLANE_MGTUP.kid →
      f.kid ≠ F.SYS_STRAP_NOW.kid → ((s.dev.keeperStart false).fall 1).get f 0 = s.dev.get f 0 := fun f hf h1 h2 h3 h4 => by
    rw [Dev.get_of_core (Dev.core_fall _ _) hf, Dev.get_set_kid _ _ _ _ h2, Dev.get_set_kid _ _ _ _ h1, hkeep f hf h3 h4]
  have hboot : s.dev.keeperBoot s.otp false x y = ((s.dev.keeperStart false).fall 1).pwrDown 1 := by
    rw [Dev.keeperBoot_chooses h hl, Dev.chooseSlot_none, Dev.bootEnd_rests]
    · rw [Dev.var_of_core (w := .core) (Dev.core_fall _ _) (by decide)]
      exact (s.dev.var_keeperStart false (by decide) (by decide) (by decide) 0).trans hw
    · rw [hfall _ (by decide) (by decide) (by decide) (by decide) (by decide), hm]
      decide
    · rw [hfall _ (by decide) (by decide) (by decide) (by decide) (by decide), hp]
    · rwa [hkeep _ (by decide) (by decide) (by decide)]
    · rwa [hkeep _ (by decide) (by decide) (by decide)]
    · rwa [hkeep _ (by decide) (by decide) (by decide)]
  have hc : (s.dev.keeperBoot s.otp false x y).core .keeper =
      (((s.dev.keeperStarted false).set F.UPD_STATE_FALLEN 0 1).set F.UPD_STATE_REASON 0 1).core .keeper := by
    rw [hboot, Dev.keeper_pwrDown, Dev.core_fall]
    exact Dev.core_set_congr (Dev.core_set_congr (Dev.core_keeperStart _ _) _ _ _) _ _ _
  refine ⟨_, rfl, ?_⟩
  simp only [State.loaded_get, State.loaded_var _ _ _ _ (x := V.keeperUp) (by decide), State.updMem_get, State.updMem_var _ _ (x := V.keeperUp) (by decide)]
  rw [Dev.var_of_core hc (by decide), Dev.get_of_core hc (by decide), Dev.get_of_core hc (by decide)]
  refine ⟨?_, Dev.get_set_same _ _ _ _, ?_⟩
  · rw [Dev.get_set_kid _ _ _ _ (by decide), Dev.get_set_same]
    rfl
  · simp +decide [Dev.keeperStarted, Dev.var_setVar]

/-- Slot A is the one booted, and both planes' loads are due. -/
def Dev.bootsA (d : Dev) : Dev :=
  ((((d.set F.UPD_STATE_BOOTED 0 0).set F.SYS_BOOT_SLOT 0 0).set F.SYS_BOOT_SVN 0 (d.get F.UPD_SL_STAT_SVN 0)).setVar V.cpLoad 0 1).setVar V.dpLoad 0 1

theorem Dev.chooseSlot_confirmed {ok : Nat → Bool} (hs : d.get F.SYS_BOOT_SLOT 0 = 3) (h0 : d.get F.UPD_SL_STAT_ST 0 = 5) (h1 : d.get F.UPD_SL_STAT_ST 1 < 3)
    (hok : ok 0 = true) : d.chooseSlot ok = d.bootsA := by
  have hboots : d.trySlot 5 0 true = ((d.set F.UPD_STATE_BOOTED 0 0).set F.SYS_BOOT_SLOT 0 0).set F.SYS_BOOT_SVN 0 (d.get F.UPD_SL_STAT_SVN 0) := by
    simp [Dev.trySlot, hs, h0]
  have hslot : (((d.set F.UPD_STATE_BOOTED 0 0).set F.SYS_BOOT_SLOT 0 0).set F.SYS_BOOT_SVN 0 (d.get F.UPD_SL_STAT_SVN 0)).get F.SYS_BOOT_SLOT 0 = 0 := by
    rw [Dev.get_set_kid _ _ _ _ (by decide), Dev.get_set_same]
    rfl
  simp only [Dev.chooseSlot, Dev.trialEnds_other (d := d) (i := 0) (by omega), Dev.trialEnds_other (d := d) (i := 1) (by omega),
    Dev.trySlot_other (d := d) (st := 3) (i := 0) (by omega), Dev.trySlot_other (d := d) (st := 3) (i := 1) (by omega), hok, hboots,
    Dev.trySlot_after (i := 1) (st := 5) (by rw [hslot]; decide), hslot]
  rfl

/-- An image's check reads the life cycle's state, the steppings and NOR. -/
theorem Dev.imgOk_congr {d e : Dev} (hl : d.var V.lcSt 0 = e.var V.lcSt 0) (hf : ∀ f ∈ [F.SYS_STEP0_SOC, F.SYS_STEP0_PSC0, F.SYS_STEP0_PSC1, F.SYS_STEP1_RF0, F.SYS_STEP1_RF1,
    F.SYS_STEP1_RF2], d.get f 0 = e.get f 0) (hb : ∀ i, d.blob 1 i = e.blob 1 i) (o : Otp) (i : Nat) (c : ImgCheck) : d.imgOk o i c = e.imgOk o i c := by
  simp only [List.forall_mem_cons] at hf
  obtain ⟨h1, h2, h3, h4, h5, h6, -⟩ := hf
  have hkey : d.keyOk o c.key = e.keyOk o c.key := by
    unfold Dev.keyOk
    rw [hl]
  have hman : ∀ m n, manifestOk m n d = manifestOk m n e := fun m n => by
    simp only [manifestOk, h1, h2, h3, List.all_cons, List.all_nil, h4, h5, h6]
  simp only [Dev.imgOk, Dev.manifest, hb, hkey, hman]

theorem Dev.imgOk_keeperStart (d : Dev) (strap : Bool) (i : Nat) (c : ImgCheck) : (d.keeperStart strap).imgOk o i c = d.imgOk o i c := by
  refine Dev.imgOk_congr (d.var_keeperStart _ (by decide) (by decide) (by decide) 0) ?_ (fun j => Dev.nor_of_core (w := .core) (Dev.core_keeperStart _ _) j) o i c
  simp only [List.forall_mem_cons]
  simp +decide [Dev.get_keeperStart]

/-- Slot A has just been chosen, in a mode with planes and with nothing in the way: the control plane may be released. -/
theorem Dev.mayRelease_bootsA (hk : d.var V.keeperUp 0 = 1) (hf : d.get F.UPD_STATE_FALLEN 0 = 0) (hm : 2 ≤ d.get F.PWR_MODE_MODE 0) (hn : d.var V.kilnOn 0 = 0)
    (hq : d.var V.modReq 0 = 0) (ho : d.var V.planesOff 0 = 0) : d.bootsA.mayRelease = true := by
  simp +decide [Dev.mayRelease, Dev.bootsA, Dev.on, Dev.get_set, Dev.var_setVar, hk, hf, hm, hn, hq, ho]

theorem Dev.failedRegions_bootsA (d : Dev) : d.bootsA.failedRegions = d.failedRegions := by
  simp +decide [Dev.failedRegions, Dev.bootsA, Dev.on, Dev.get_set]

theorem Dev.failedRegions_keeperStart (d : Dev) (strap : Bool) : (d.keeperStart strap).failedRegions = d.failedRegions := by
  simp +decide [Dev.failedRegions, Dev.on, Dev.get_keeperStart]

/-- KEEPER_BOOT of a CONFIRMED slot A that passes its check: the control plane is released, and the data plane loads. -/
theorem keeperBoot_boots (h : s.dev.bootDue) (hl : s.dev.var V.lcSt 0 ≠ 4) (hs : s.dev.get F.SYS_BOOT_SLOT 0 = 3) (h0 : s.dev.get F.UPD_SL_STAT_ST 0 = 5)
    (h1 : s.dev.get F.UPD_SL_STAT_ST 1 < 3) (hi : s.dev.imgOk s.otp 0 x = true) (hf : s.dev.get F.UPD_STATE_FALLEN 0 = 0) (hm : 2 ≤ s.dev.get F.PWR_MODE_MODE 0)
    (hk : s.dev.var V.kilnOn 0 = 0) (hq : s.dev.var V.modReq 0 = 0) (ho : s.dev.var V.planesOff 0 = 0) (hr : s.dev.failedRegions = 0) :
    Answers (.keeperBoot false x y) s (fun t => t.dev.var V.keeperUp 0 = 1 ∧ t.dev.get F.SYS_BOOT_SLOT 0 = 0 ∧ t.dev.get F.UPD_STATE_BOOTED 0 = 0 ∧
      t.dev.get F.SYS_BOOT_SVN 0 = s.dev.get F.UPD_SL_STAT_SVN 0 % 2 ^ F.SYS_BOOT_SVN.width ∧ t.dev.get F.SYS_REL_PA 0 = 1 ∧ t.dev.get F.SYS_REL_PB 0 = 1 ∧
      t.dev.get F.CLR_PLANE_CTLUP 0 = 1 ∧ t.dev.get F.PWR_DEAD_ARMED 0 = 1 ∧ t.dev.var V.dpLoad 0 = 1) := by
  have hget : ∀ f : Fld, Watch.core.fld f = true → f.kid ≠ F.CLR_PLANE_MGTUP.kid → f.kid ≠ F.SYS_STRAP_NOW.kid → ∀ i, (s.dev.keeperStart false).get f i = s.dev.get f i :=
    fun f hf h1 h2 i => s.dev.get_keeperStart false hf h1 h2 i
  have hvar : ∀ z : Vr, Watch.core.var z = true → z.id ≠ V.keeperUp.id → z.id ≠ V.booted.id → (s.dev.keeperStart false).var z 0 = s.dev.var z 0 :=
    fun z hz h1 h2 => s.dev.var_keeperStart false hz h1 h2 0
  have hup : (s.dev.keeperStart false).var V.keeperUp 0 = 1 := by
    rw [Dev.var_of_core (w := .core) (Dev.core_keeperStart _ _) (by decide)]
    simp +decide [Dev.keeperStarted, Dev.var_setVar]
  have hboot : s.dev.keeperBoot s.otp false x y = (s.dev.keeperStart false).bootsA.ctlStart := by
    rw [Dev.keeperBoot_chooses h hl, Dev.chooseSlot_confirmed, Dev.bootEnd_releases, Dev.ctlRelease_starts]
    · apply Dev.mayRelease_bootsA hup
      · rwa [hget _ (by decide) (by decide) (by decide)]
      · rwa [hget _ (by decide) (by decide) (by decide)]
      · rwa [hvar _ (by decide) (by decide) (by decide)]
      · rwa [hvar _ (by decide) (by decide) (by decide)]
      · rwa [hvar _ (by decide) (by decide) (by decide)]
    · simp +decide [Dev.bootsA, Dev.var_setVar]
    · rwa [Dev.failedRegions_bootsA, Dev.failedRegions_keeperStart]
    · have hmode : (s.dev.keeperStart false).bootsA.get F.PWR_MODE_MODE 0 = s.dev.get F.PWR_MODE_MODE 0 := by
        rw [← hget F.PWR_MODE_MODE (by decide) (by decide) (by decide)]
        simp +decide [Dev.bootsA, Dev.get_set]
      rwa [hmode]
    · rwa [hget _ (by decide) (by decide) (by decide)]
    · rwa [hget _ (by decide) (by decide) (by decide)]
    · rwa [hget _ (by decide) (by decide) (by decide)]
    · rwa [if_pos rfl, Dev.imgOk_keeperStart]
  have hc : (s.dev.keeperBoot s.otp false x y).core .core = (s.dev.keeperStart false).bootsA.ctlStarted.core .core := by
    rw [hboot, Dev.core_ctlStart]
  refine ⟨_, rfl, ?_⟩
  simp only [State.loaded_get, State.loaded_var _ _ _ _ (x := V.keeperUp) (by decide), State.loaded_var _ _ _ _ (x := V.dpLoad) (by decide), State.updMem_get,
    State.updMem_var _ _ (x := V.keeperUp) (by decide), State.updMem_var _ _ (x := V.dpLoad) (by decide)]
  obtain ⟨hpa, hpb, hctl, hdead, -, -⟩ := (s.dev.keeperStart false).bootsA.ctlStart_shows
  rw [← hboot] at hpa hpb hctl hdead
  refine ⟨?_, ?_, ?_, ?_, hpa, hpb, hctl, hdead, ?_⟩
  · rw [Dev.var_of_core hc (by decide), ← hup]
    simp +decide [Dev.ctlStarted, Dev.bootsA, Dev.var_setVar]
  · rw [Dev.get_of_core hc (by decide)]
    simp +decide [Dev.ctlStarted, Dev.bootsA, Dev.get_set]
  · rw [Dev.get_of_core hc (by decide)]
    simp +decide [Dev.ctlStarted, Dev.bootsA, Dev.get_set]
  · rw [Dev.get_of_core hc (by decide), ← hget F.UPD_SL_STAT_SVN (by decide) (by decide) (by decide)]
    simp +decide [Dev.ctlStarted, Dev.bootsA, Dev.get_set]
  · rw [Dev.var_of_core hc (by decide)]
    simp +decide [Dev.ctlStarted, Dev.bootsA, Dev.var_setVar]

/-! ### Resets of the planes (R72, R503, R513, R623) -/

/-- The core with the control plane taken down. -/
def Dev.ctlStopped (d : Dev) : Dev :=
  ((((d.set F.SYS_REL_PA 0 0).set F.SYS_REL_PB 0 0).set F.PWR_DEAD_ARMED 0 0).set F.CLR_PLANE_CTLUP 0 0).setVar V.cpLoad 0 0

theorem Dev.core_ctlDown (d : Dev) : d.ctlDown.core .core = d.ctlStopped.core .core :=
  Dev.core_setVar_congr ((Dev.core_setPlane _ 0 false).trans (Dev.core_set_congr (Dev.core_set_congr (Dev.core_set_congr (Dev.core_set_congr
    (Dev.core_setVar (x := V.ctlSum) (by decide) _ _ _) _ _ _) _ _ _) _ _ _) _ _ _)) _ _ _

/-- The core with the data plane taken down. -/
def Dev.dataStopped (d : Dev) : Dev := ((d.set F.SYS_REL_DP 0 0).set F.CLR_PLANE_DATAUP 0 0).setVar V.dpLoad 0 0

theorem Dev.core_dataDown (d : Dev) : d.dataDown.core .core = d.dataStopped.core .core :=
  Dev.core_setVar_congr (Dev.core_setPlane _ 1 false) _ _ _

theorem Dev.fallenDown_up {d : Dev} (h : d.get F.UPD_STATE_FALLEN 0 = 0) : d.fallenDown = d := by simp [Dev.fallenDown, Dev.on, h]

/-- The fields in which a reset of the control plane shows what it leaves, beside those it clears. -/
def ctlShowFlds : List Fld := solSyncFlds ++ lswOnFlds ++ [F.LSW_CH_FLAGS_FBCUT, F.SOL_CH_FLAGS_FBCUT, F.COM_STAT_FAULT, F.LSW_CH_STAT_FAULT, F.SEG_STATE_PEND,
  F.SEG_STATE_ST, F.ETH_PORT_STAT_TAKEN, F.UPD_XFER_OP, F.UPD_XFER_ST, F.SYS_CPRST_CAUSE, F.SYS_CPRST_CNT]

theorem Dev.view_ctlShown {κ : Scope} (d : Dev) (h : ctlShowFlds ⊆ κ.flds) :
    (((((d.untake.lswFault 0).fbStat).fbCuts).segShow).solShow).view κ = d.view κ := by
  simp only [ctlShowFlds, solSyncFlds_subset, lswOnFlds_subset, List.append_subset, List.cons_subset] at h
  simp [Dev.untake, Dev.solShow, h, solSyncFlds_subset, lswOnFlds_subset, -Dev.each_cons]

/-- A reset of the control plane switches every LSW channel off. -/
theorem Dev.resetCtl_lswEn (d : Dev) (c : Nat) : d.resetCtl.get F.LSW_CH_CFG_EN c = 0 := by
  have hkeep : Scope.Keeps { flds := ctlShowFlds } F.LSW_CH_CFG_EN := by unfold Scope.Keeps; decide
  have hslot : regSlot (F.LSW_CH_CFG_EN.kid, c) = 0x22 := by simp +decide [regSlot]
  have hdrop : ∀ (e : Dev) (l : List Nat), (e.drop ctlReset (fun k => isFld ctlKeptFlds k || (isFld lswLatchFlds k && l.contains k.2))
      (fun k => ctlKeptVars.contains k.1)).get F.LSW_CH_CFG_EN c = 0 := fun e l => by
    have hkept : isFld ctlKeptFlds (F.LSW_CH_CFG_EN.kid, c) = false := by simp +decide [isFld]
    have hlatch : isFld lswLatchFlds (F.LSW_CH_CFG_EN.kid, c) = false := by simp +decide [isFld]
    have hnvm : nvmKid 0x22 F.LSW_CH_CFG_EN.kid = false := by decide +kernel
    simp only [Dev.get, Dev.drop]
    rw [store_find_filter_none _ _ _ fun v => by simp only [hslot, hkept, hlatch, hnvm]; rfl]
    rfl
  unfold Dev.resetCtl
  refine (Dev.get_of_view (Dev.view_ctlShown _ (List.Subset.refl _)) hkeep c).trans ?_
  split
  · exact hdrop _ _
  · exact hdrop _ _

/-- The control plane's reset up to the load of its image. -/
def Dev.ctlPlaneDown (d : Dev) (cause : Nat) : Dev :=
  ((((((d.ctlDown.resetCtl).updPlaneReset).setVar V.hbBlock 0 0).set F.SYS_CPRST_CAUSE 0 cause).incSat F.SYS_CPRST_CNT 0).irq 0x00 0).setVar V.cpReq 0 0

theorem Dev.core_ctlPlaneDown (d : Dev) (cause : Nat) :
    (d.ctlPlaneDown cause).core .core = ((d.ctlStopped.set F.SYS_CPRST_CAUSE 0 cause).setVar V.cpReq 0 0).core .core := by
  refine Dev.core_setVar_congr ((Dev.core_irq _ _ _).trans ((Dev.core_incSat (f := F.SYS_CPRST_CNT) (by decide) _ _ _).trans (Dev.core_set_congr ?_ _ _ _))) _ _ _
  rw [Dev.core_setVar (x := V.hbBlock) (by decide), Dev.core_updPlaneReset, Dev.core_resetCtl, Dev.core_ctlDown]

theorem Dev.view_ctlPlaneDown {κ : Scope} (d : Dev) (cause : Nat) (h : ctlShowFlds ⊆ κ.flds) : (d.ctlPlaneDown cause).view κ = d.ctlDown.resetCtl.view κ := by
  simp only [ctlShowFlds, solSyncFlds_subset, lswOnFlds_subset, List.append_subset, List.cons_subset] at h
  simp +decide [Dev.ctlPlaneDown, Dev.updPlaneReset, h]

theorem Dev.ctlPlaneDown_lswEn (d : Dev) (cause c : Nat) : (d.ctlPlaneDown cause).get F.LSW_CH_CFG_EN c = 0 := by
  have hkeep : Scope.Keeps { flds := ctlShowFlds } F.LSW_CH_CFG_EN := by unfold Scope.Keeps; decide
  exact (Dev.get_of_view (Dev.view_ctlPlaneDown d cause (List.Subset.refl _)) hkeep c).trans (Dev.resetCtl_lswEn _ c)

theorem Dev.ctlPlaneReset_eq {d : Dev} (hq : d.var V.cpReq 0 = 5) (ht : d.inTrial = false) (hk : d.var V.kilnOn 0 = 0) (hf : d.get F.UPD_STATE_FALLEN 0 = 0) :
    d.ctlPlaneReset = if (d.ctlPlaneDown 5).var V.planesOff 0 = 1 then d.ctlPlaneDown 5 else (d.ctlPlaneDown 5).setVar V.cpLoad 0 1 := by
  have hup : (d.ctlPlaneDown 5).get F.UPD_STATE_FALLEN 0 = 0 := by
    rw [Dev.get_of_core (d.core_ctlPlaneDown 5) (by decide)]
    simpa +decide [Dev.ctlStopped, Dev.get_set] using hf
  have habort : d.kilnAbort = d := if_pos (by rw [hk]; decide)
  have hfall : (if (d.ctlPlaneDown 5).var V.planesOff 0 = 1 then d.ctlPlaneDown 5 else (d.ctlPlaneDown 5).setVar V.cpLoad 0 1).fallenDown =
      if (d.ctlPlaneDown 5).var V.planesOff 0 = 1 then d.ctlPlaneDown 5 else (d.ctlPlaneDown 5).setVar V.cpLoad 0 1 := by
    split
    · exact Dev.fallenDown_up hup
    · exact Dev.fallenDown_up hup
  rw [← hfall]
  simp [Dev.ctlPlaneReset, Dev.ctlPlaneDown, hq, ht, habort] <;> rfl

/-- CONTROL_PLANE_RESET: the plane is down, its blocks reset, and the keeper loads it again. -/
theorem controlPlaneReset_answers (hq : s.dev.var V.cpReq 0 = 5) (ht : s.dev.inTrial = false) (hk : s.dev.var V.kilnOn 0 = 0)
    (hf : s.dev.get F.UPD_STATE_FALLEN 0 = 0) :
    Answers .controlPlaneReset s (fun t => t.dev.get F.SYS_CPRST_CAUSE 0 = 5 ∧ t.dev.get F.SYS_REL_PA 0 = 0 ∧ t.dev.get F.SYS_REL_PB 0 = 0 ∧
      t.dev.get F.CLR_PLANE_CTLUP 0 = 0 ∧ t.dev.var V.cpReq 0 = 0 ∧ (∀ c < 24, t.dev.get F.LSW_CH_CFG_EN c = 0) ∧
      t.dev.var V.cpLoad 0 = (if s.dev.var V.planesOff 0 = 1 then 0 else 1)) := by
  have hc := s.dev.core_ctlPlaneDown 5
  have hoff : (s.dev.ctlPlaneDown 5).var V.planesOff 0 = s.dev.var V.planesOff 0 := by
    rw [Dev.var_of_core hc (by decide)]
    simp +decide [Dev.ctlStopped, Dev.var_setVar]
  have hget : ∀ (f : Fld) (i : Nat), s.dev.ctlPlaneReset.get f i = (s.dev.ctlPlaneDown 5).get f i := fun f i => by
    rw [Dev.ctlPlaneReset_eq hq ht hk hf]
    split <;> rfl
  refine ⟨_, rfl, ?_⟩
  simp only [State.updMem_get, State.updMem_var _ _ (x := V.cpReq) (by decide), State.updMem_var _ _ (x := V.cpLoad) (by decide), hget]
  refine ⟨?_, ?_, ?_, ?_, ?_, fun c _ => Dev.ctlPlaneDown_lswEn _ _ c, ?_⟩
  · rw [Dev.get_of_core hc (by decide)]
    exact Dev.get_set_same _ _ _ _
  · rw [Dev.get_of_core hc (by decide)]
    simp +decide [Dev.ctlStopped, Dev.get_set]
  · rw [Dev.get_of_core hc (by decide)]
    simp +decide [Dev.ctlStopped, Dev.get_set]
  · rw [Dev.get_of_core hc (by decide)]
    simp +decide [Dev.ctlStopped, Dev.get_set]
  · have hreq : (s.dev.ctlPlaneDown 5).var V.cpReq 0 = 0 := Dev.var_setVar_same _ _ _ _
    rw [Dev.ctlPlaneReset_eq hq ht hk hf]
    split
    · exact hreq
    · rwa [Dev.var_setVar_id _ _ _ _ (by decide)]
  · rw [Dev.ctlPlaneReset_eq hq ht hk hf, hoff]
    split
    · rw [Dev.var_of_core hc (by decide)]
      simp +decide [Dev.ctlStopped, Dev.var_setVar]
    · exact Dev.var_setVar_same _ _ _ _

/-- The data plane's reset up to the ladder. -/
def Dev.dataPlaneDown (d : Dev) (cause : Nat) : Dev :=
  ((((d.dataDown.resetData).dramLose.set F.SYS_DPRST_CAUSE 0 cause).incSat F.SYS_DPRST_CNT 0).irq 0x00 1).setVar V.dpReq 0 0

theorem Dev.core_dataPlaneDown {d : Dev} (cause : Nat) (hg : d.var V.dramGone 0 = 0) : (d.dataPlaneDown cause).core .core =
    ((((d.dataStopped.setVar V.dramGone 0 1).setVar V.dramWait 0 1).set F.SYS_DPRST_CAUSE 0 cause).setVar V.dpReq 0 0).core .core := by
  have hdown : d.dataDown.resetData.core .core = d.dataStopped.core .core := (Dev.core_resetData _).trans d.core_dataDown
  have hgone : d.dataDown.resetData.var V.dramGone 0 = 0 := by
    rw [Dev.var_of_core hdown (by decide)]
    simpa +decide [Dev.dataStopped, Dev.var_setVar] using hg
  refine Dev.core_setVar_congr ((Dev.core_irq _ _ _).trans ((Dev.core_incSat (f := F.SYS_DPRST_CNT) (by decide) _ _ _).trans (Dev.core_set_congr ?_ _ _ _))) _ _ _
  rw [Dev.core_dramLose, hgone]
  exact Dev.core_setVar_congr (Dev.core_setVar_congr hdown _ _ _) _ _ _

/-- The ladder stands at L1 at least. -/
def Dev.ladderUp (d : Dev) : Dev := if d.get F.PWR_MODE_LADDER 0 = 0 then d.setLadder 1 else d

theorem Dev.core_ladderUp (d : Dev) : d.ladderUp.core .core = d.core .core ∨ d.ladderUp.core .core = (d.hold F.PWR_MODE_LADDER 1).core .core := by
  unfold Dev.ladderUp
  split
  · exact .inr (d.core_setLadder (by decide))
  · exact .inl rfl

theorem Dev.get_ladderUp (d : Dev) {f : Fld} (hf : Watch.core.fld f = true) (hn : f.kid ≠ F.PWR_MODE_LADDER.kid) (i : Nat) : d.ladderUp.get f i = d.get f i := by
  obtain hc | hc := d.core_ladderUp
  · exact Dev.get_of_core hc hf i
  · exact (Dev.get_of_core hc hf i).trans (Dev.get_hold_ne _ _ hn i)

theorem Dev.var_ladderUp (d : Dev) {x : Vr} (hx : Watch.core.var x = true) (i : Nat) : d.ladderUp.var x i = d.var x i := by
  obtain hc | hc := d.core_ladderUp
  · exact Dev.var_of_core hc hx i
  · exact (Dev.var_of_core hc hx i).trans (Dev.var_hold ..)

theorem Dev.free_ladderUp (d : Dev) : d.ladderUp.free = d.free := by
  obtain hc | hc := d.core_ladderUp
  · exact Dev.free_of_core hc
  · exact (Dev.free_of_core hc).trans (Dev.free_hold ..)

theorem Dev.dataPlaneReset_eq {d : Dev} (hq : d.var V.dpReq 0 = 2) (ht : d.inTrial = false) (hg : d.var V.dramGone 0 = 0) (hf : d.get F.UPD_STATE_FALLEN 0 = 0) :
    d.dataPlaneReset = if (d.dataPlaneDown 2).ladderUp.var V.planesOff 0 = 1 then (d.dataPlaneDown 2).ladderUp else (d.dataPlaneDown 2).ladderUp.setVar V.dpLoad 0 1 := by
  have hup : (d.dataPlaneDown 2).ladderUp.get F.UPD_STATE_FALLEN 0 = 0 := by
    rw [Dev.get_ladderUp _ (by decide) (by decide), Dev.get_of_core (Dev.core_dataPlaneDown 2 hg) (by decide)]
    simpa +decide [Dev.dataStopped, Dev.get_set] using hf
  have hfall : (if (d.dataPlaneDown 2).ladderUp.var V.planesOff 0 = 1 then (d.dataPlaneDown 2).ladderUp else
      (d.dataPlaneDown 2).ladderUp.setVar V.dpLoad 0 1).fallenDown =
      if (d.dataPlaneDown 2).ladderUp.var V.planesOff 0 = 1 then (d.dataPlaneDown 2).ladderUp else (d.dataPlaneDown 2).ladderUp.setVar V.dpLoad 0 1 := by
    split
    · exact Dev.fallenDown_up hup
    · exact Dev.fallenDown_up hup
  rw [← hfall]
  simp [Dev.dataPlaneReset, Dev.dataPlaneDown, Dev.ladderUp, hq, ht] <;> rfl

/-- DATA_PLANE_RESET: the plane is down, and DRAM, its contents free, must train. -/
theorem dataPlaneReset_answers (hq : s.dev.var V.dpReq 0 = 2) (ht : s.dev.inTrial = false) (hg : s.dev.var V.dramGone 0 = 0)
    (hf : s.dev.get F.UPD_STATE_FALLEN 0 = 0) :
    Answers .dataPlaneReset s (fun t => t.dev.get F.SYS_DPRST_CAUSE 0 = 2 ∧ t.dev.get F.SYS_REL_DP 0 = 0 ∧ t.dev.get F.CLR_PLANE_DATAUP 0 = 0 ∧
      t.dev.var V.dpReq 0 = 0 ∧ t.dev.var V.dramWait 0 = 1 ∧ t.mem = lostMem 1 s.dev.free s.mem) := by
  have hc := Dev.core_dataPlaneDown 2 hg
  have hget : ∀ f : Fld, Watch.core.fld f = true → f.kid ≠ F.PWR_MODE_LADDER.kid → s.dev.dataPlaneReset.get f 0 =
      ((((s.dev.dataStopped.setVar V.dramGone 0 1).setVar V.dramWait 0 1).set F.SYS_DPRST_CAUSE 0 2).setVar V.dpReq 0 0).get f 0 := fun f h1 h2 => by
    refine Eq.trans ?_ ((Dev.get_ladderUp _ h1 h2 0).trans (Dev.get_of_core hc h1 0))
    rw [Dev.dataPlaneReset_eq hq ht hg hf]
    split <;> rfl
  have hvar : ∀ x : Vr, Watch.core.var x = true → x.id ≠ V.dpLoad.id → s.dev.dataPlaneReset.var x 0 =
      ((((s.dev.dataStopped.setVar V.dramGone 0 1).setVar V.dramWait 0 1).set F.SYS_DPRST_CAUSE 0 2).setVar V.dpReq 0 0).var x 0 := fun x h1 h2 => by
    refine Eq.trans ?_ ((Dev.var_ladderUp _ h1 0).trans (Dev.var_of_core hc h1 0))
    rw [Dev.dataPlaneReset_eq hq ht hg hf]
    split
    · rfl
    · exact Dev.var_setVar_id _ _ _ _ h2
  have hfree : s.dev.dataPlaneReset.free = s.dev.free := by
    have hdown : (s.dev.dataPlaneDown 2).ladderUp.free = s.dev.free := (Dev.free_ladderUp _).trans (Dev.free_of_core hc :)
    rw [Dev.dataPlaneReset_eq hq ht hg hf]
    split
    · exact hdown
    · exact hdown
  have hgone : s.dev.dataPlaneReset.var V.dramGone 0 = 1 := by
    rw [hvar _ (by decide) (by decide)]
    simp +decide [Dev.var_setVar]
  refine ⟨_, rfl, ?_⟩
  beta_reduce
  rw [State.updMem_mem _ _ (by rw [hgone]; decide), hgone, hfree]
  simp only [State.updMem_get, State.updMem_var _ _ (x := V.dpReq) (by decide), State.updMem_var _ _ (x := V.dramWait) (by decide)]
  rw [hget _ (by decide) (by decide), hget _ (by decide) (by decide), hget _ (by decide) (by decide), hvar _ (by decide) (by decide), hvar _ (by decide) (by decide)]
  simp +decide [Dev.dataStopped, Dev.get_set, Dev.var_setVar]

end Sys2Proof.Machine
end

section
namespace Sys2Proof.Machine

/-- Settles O31: each clause is what its command answers, from what the functions of the model make of the core. -/
theorem moduleResetBootAndReleases : Obligations.ModuleResetBootAndReleases := by
  unfold Obligations.ModuleResetBootAndReleases
  refine ⟨?reset, ?strap, ?noSlot, ?confirmed, ?release, ?loadDone, ?dataRelease, ?loadFails, ?copies, ?ctlReset, ?dataReset, ?watchdog, ?restart, ?back⟩
  case reset => exact moduleReset_answers
  case strap =>
    intro s x y hb hk hs ht _ hm hw hp _
    exact keeperBoot_strap_answers ⟨hb, hk, hs, ht⟩ hw hm hp
  case noSlot =>
    intro s x y hb hk hs ht _ hl hslot h0 h1 hw hm hp _
    exact keeperBoot_falls ⟨hb, hk, hs, ht⟩ (by omega) hslot h0 h1 hw hm hp
  case confirmed =>
    intro s x y hb hk hs ht _ hl hslot h0 h1 hi hf hm hq ho hr
    exact keeperBoot_boots ⟨hb, by omega, hs, ht⟩ hl hslot h0 h1 hi hf hm hk hq ho hr
  case release =>
    intro s img hi hm hl hr _
    exact controlPlaneRelease_answers hi hm hl hr
  case loadDone =>
    intro s img hi hm hl hw hp hb
    exact dataPlaneLoadDone_answers hi (dataDue_of hm hl hw hp) hb
  case dataRelease =>
    intro s img hi hm hl hw hp hb
    exact dataPlaneRelease_answers hi (dataDue_of hm hl hw hp) hb
  case loadFails =>
    intro s img hi hm hl
    exact controlPlaneRelease_fails hi hm hl
  case copies =>
    intro s e img hi hm hl hw hp hr hb he
    exact dataPlaneLoadDone_copies hi (dataDue_of hm hl hw hp) hb hr he
  case ctlReset =>
    intro s hq ht hk _ _ hf
    exact controlPlaneReset_answers hq ht hk hf
  case dataReset =>
    intro s hq ht hg hf
    exact dataPlaneReset_answers hq ht hg hf
  case watchdog =>
    intro s hr hq hp
    exact dataPlaneWatchdog_answers s hr hq hp
  case restart => exact keeperRestart_answers
  case back =>
    intro s hk hb hr _ _
    exact keeperReturn_answers s hk hb hr

end Sys2Proof.Machine
end

section
/-! ## What an error of an access shows

An error of an access is captured where ERR holds none, and reported; else MORE alone sets (R53, R68). -/

namespace Sys2Proof.Machine

variable {d : Dev} {slot k off bank : Nat}

/-- The bit of ERR that shows a cause of an access's error (R53). -/
def errCause (c : Fin 7) : Fld :=
  match c with
  | 0 => F.COM_ERR_LOCKWR | 1 => F.COM_ERR_CHRANGE | 2 => F.COM_ERR_PRIV | 3 => F.COM_ERR_PLANE | 4 => F.COM_ERR_APPLYPEND | 5 => F.COM_ERR_UNMAP
  | 6 => F.COM_ERR_SIZE

theorem bit_mod_two (b : Bool) : bit b % 2 = bit b := by cases b <;> rfl

/-- A rise of a condition writes the interrupt bits and the counters alone. -/
theorem Dev.level_get_ne (d : Dev) (slot b : Nat) (v : Bool) {g : Fld} (j : Nat) (hraw : g.kid ≠ F.COM_IRQ_RAW_V.kid) (hstat : g.kid ≠ F.COM_IRQ_STAT_V.kid)
    (hcnt : g.kid ≠ F.COM_CONE_CNT_V.kid) (hwrap : g.kid ≠ F.COM_CONE_CNT_WRAP.kid) : (d.level slot b v).get g j = d.get g j := by
  unfold Dev.level Dev.irq
  dsimp only
  repeat' split
  all_goals simp only [Dev.cone_get_ne _ _ _ _ _ hcnt hwrap, Dev.get_set_kid _ _ _ _ hraw, Dev.get_set_kid _ _ _ _ hstat]

/-- The first error of an access captures its cause alone, its offset and its bank (R53). -/
theorem Dev.errCapture_captures (h : d.get F.COM_ERR_VALID slot = 0) (woff : Nat) :
    (∀ c : Fin 7, (d.errCapture slot k woff bank 0).get (errCause c) slot = bit (k == c)) ∧
    (d.errCapture slot k woff bank 0).get F.COM_ERR_WOFF slot = woff % 2 ^ F.COM_ERR_WOFF.width ∧
    (d.errCapture slot k woff bank 0).get F.COM_ERR_BANK slot = bank % 2 ^ F.COM_ERR_BANK.width := by
  have hv : d.on F.COM_ERR_VALID slot = false := by simp [Dev.on, h]
  unfold Dev.errCapture
  rw [hv, if_neg Bool.false_ne_true]
  dsimp only
  refine ⟨fun c => ?_, ?_, ?_⟩
  · match c with
    | 0 | 1 | 2 | 3 | 4 | 5 | 6 =>
      rw [Dev.cone_get_ne _ _ _ _ _ (by decide) (by decide), Dev.level_get_ne _ _ _ _ _ (by decide) (by decide) (by decide) (by decide)]
      simp +decide only [errCause, Dev.get_set, if_true, if_false, and_true]
      exact bit_mod_two _
  all_goals
    rw [Dev.cone_get_ne _ _ _ _ _ (by decide) (by decide), Dev.level_get_ne _ _ _ _ _ (by decide) (by decide) (by decide) (by decide)]
    simp +decide [Dev.get_set]

/-- After an error ERR holds one. -/
theorem Dev.errCapture_valid (d : Dev) (slot c woff bank bcode : Nat) : (d.errCapture slot c woff bank bcode).get F.COM_ERR_VALID slot = 1 := by
  unfold Dev.errCapture
  split
  case isTrue h =>
    have hv : d.get F.COM_ERR_VALID slot = 1 := beq_iff_eq.mp h
    split
    · exact hv
    · rw [Dev.cone_get_ne _ _ _ _ _ (by decide) (by decide), Dev.get_set_kid _ _ _ _ (by decide), hv]
  case isFalse =>
    dsimp only
    rw [Dev.cone_get_ne _ _ _ _ _ (by decide) (by decide), Dev.level_get_ne _ _ _ _ _ (by decide) (by decide) (by decide) (by decide)]
    simp +decide [Dev.get_set]

theorem Dev.errAcc_regs (d : Dev) (slot k off bank : Nat) : (d.errAcc slot k off bank).regs = (d.errCapture slot k (off / 4) bank 0).regs := by
  unfold Dev.errAcc; split <;> rfl

theorem Dev.get_of_regs {d e : Dev} (h : d.regs = e.regs) (f : Fld) (i : Nat) : d.get f i = e.get f i := by rw [Dev.get, Dev.get, h]

theorem Dev.errAcc_cause (h : d.get F.COM_ERR_VALID slot = 0) (c : Fin 7) : (d.errAcc slot k off bank).get (errCause c) slot = bit (k == c) :=
  (Dev.get_of_regs (d.errAcc_regs ..) _ _).trans ((Dev.errCapture_captures h _).1 c)

theorem Dev.errAcc_woff (h : d.get F.COM_ERR_VALID slot = 0) : (d.errAcc slot k off bank).get F.COM_ERR_WOFF slot = off / 4 % 2 ^ F.COM_ERR_WOFF.width :=
  (Dev.get_of_regs (d.errAcc_regs ..) _ _).trans (Dev.errCapture_captures h _).2.1

theorem Dev.errAcc_bank (h : d.get F.COM_ERR_VALID slot = 0) : (d.errAcc slot k off bank).get F.COM_ERR_BANK slot = bank % 2 ^ F.COM_ERR_BANK.width :=
  (Dev.get_of_regs (d.errAcc_regs ..) _ _).trans (Dev.errCapture_captures h _).2.2

@[simp] theorem Dev.errAcc_valid (d : Dev) (slot k off bank : Nat) : (d.errAcc slot k off bank).get F.COM_ERR_VALID slot = 1 :=
  (Dev.get_of_regs (d.errAcc_regs ..) _ _).trans (Dev.errCapture_valid ..)

/-- The first error of an access is reported as class C0 (R68). -/
theorem Dev.errAcc_reports (h : d.get F.COM_ERR_VALID slot = 0) :
    ∃ w, (d.errAcc slot k off bank).reports = d.reports ++ [⟨slot, 0, 0x0100 + k, w, [], d.var V.grove 0⟩] := by
  have hv : d.on F.COM_ERR_VALID slot = false := by simp [Dev.on, h]
  have hr : (d.errCapture slot k (off / 4) bank 0).reports = d.reports := congrArg (fun a => a.reports) (d.errCapture_rest slot k (off / 4) bank 0)
  have hg : (d.errCapture slot k (off / 4) bank 0).var V.grove 0 = d.var V.grove 0 := Dev.var_of_rest (by simp) _ _
  exact ⟨(d.errCapture slot k (off / 4) bank 0).errWord slot, by
    simp only [Dev.errAcc, hv, if_neg Bool.false_ne_true, Dev.report, hr, hg]⟩

/-- Counting an event leaves ERR as it is. -/
@[simp] theorem Dev.cone_valid (d : Dev) (s ev n slot : Nat) : (d.cone s ev n).get F.COM_ERR_VALID slot = d.get F.COM_ERR_VALID slot :=
  d.cone_get_ne _ _ _ _ (by decide) (by decide)

@[simp] theorem Dev.cone_reports (d : Dev) (s ev n : Nat) : (d.cone s ev n).reports = d.reports :=
  congrArg (fun a => a.reports) (d.cone_rest_eq s ev n)

end Sys2Proof.Machine
end

section
/-! ## Accesses that R56 turns away

A refused write is counted, captured and reported, and answers an error response. The commands that write one register are all one such access
(`refusedAt_wr`, `refusedAt_wrCh` and their like), so that each is refused for the same reason. -/

namespace Sys2Proof.Machine

/-- What a refused access leaves of a device. -/
def Dev.refused (d : Dev) (slot k off bank : Nat) : Dev := ((d.cone slot 3).errAcc slot k off bank).fail

@[simp] theorem Dev.refused_get (d : Dev) (slot k off bank : Nat) (f : Fld) (i : Nat) :
    (d.refused slot k off bank).get f i = ((d.cone slot 3).errAcc slot k off bank).get f i := by
  rw [Dev.refused, Dev.fail_get]

@[simp] theorem Dev.refused_var (d : Dev) (slot k off bank : Nat) (x : Vr) (i : Nat) : (d.refused slot k off bank).var x i = d.var x i := by
  simp [Dev.refused]

@[simp] theorem Dev.refused_resp (d : Dev) (slot k off bank : Nat) : (d.refused slot k off bank).resp = 2 :=
  Dev.fail_resp _

@[simp] theorem Dev.view_refused {κ : Scope} (d : Dev) (slot k off bank : Nat) : (d.refused slot k off bank).view κ = d.view κ := by
  simp [Dev.refused]

variable {c : Instr} {s : State} {slot off : Nat} {a : Acc}

/-- A command that turns an access away and does nothing else to the registers, Grove time, the log or OTP. -/
theorem refusedAt_of (h : ∀ k, accCause slot off a true = some k → Answers c s (fun t => t.dev.resp = 2 ∧
      (∀ f i, t.dev.get f i = (s.dev.refused slot k off a.bank.val).get f i) ∧ t.dev.var V.grove 0 = s.dev.var V.grove 0 ∧ t.log = s.log ∧ t.otp = s.otp)) :
    RefusedAt c s slot off a := by
  intro k hk
  obtain ⟨t, ht, hresp, hget, hgrove, hlog, hotp⟩ := h k hk
  have hvalid : t.dev.get F.COM_ERR_VALID slot = 1 := by rw [hget, Dev.refused_get, Dev.errAcc_valid]
  refine ⟨t, ht, hresp, hvalid, fun h0 => ?_, ⟨fun f hf i => ?_, hgrove⟩, hlog, hotp⟩
  · have h1 : (s.dev.cone slot 3).get F.COM_ERR_VALID slot = 0 := by rwa [Dev.cone_valid]
    simp only [hget, Dev.refused_get]
    exact ⟨Dev.errAcc_cause h1 2, Dev.errAcc_cause h1 3, Dev.errAcc_woff h1, (Dev.errAcc_bank h1).trans (Nat.mod_eq_of_lt a.bank.isLt)⟩
  · exact (hget f i).trans (Dev.get_of_view (κ := { flds := [] }) (Dev.view_refused ..) hf i)

/-- A command that turns an access away and does nothing else. -/
theorem refusedAt_of_dev (h : ∀ k, accCause slot off a true = some k → exec c s = .next { s with dev := s.dev.refused slot k off a.bank.val }) :
    RefusedAt c s slot off a :=
  refusedAt_of fun k hk => ⟨_, h k hk, rfl, fun _ _ => rfl, Dev.refused_var .., rfl, rfl⟩

theorem refusedAt_devWr {k : Dev → Dev} {act : Bool} (hc : exec c s = .next { s with dev := s.dev.wr slot off a k act }) : RefusedAt c s slot off a :=
  refusedAt_of_dev fun _ hk => by rw [hc, Dev.wr_refused _ _ hk, Dev.refused]

theorem refusedAt_wr {k : Dev → Dev → Dev} {act : Dev → Bool} (hc : exec c s = s.upd (fun d => d.wr slot off a (k d) (act d))) : RefusedAt c s slot off a :=
  refusedAt_devWr (hc.trans (State.upd_eq ..))

/-- The same for a register of a block that the command names, where R48 assigns its slot. -/
theorem refusedAt_slotWr {k : Dev → Dev → Dev} {act : Dev → Bool} {e : Dev → Dev} (hs : slots.contains slot = true)
    (hc : exec c s = s.upd (fun d => if !slots.contains slot then e d else d.wr slot off a (k d) (act d))) : RefusedAt c s slot off a :=
  refusedAt_of_dev fun _ hk => by rw [hc, State.upd_eq, hs, Bool.not_true, if_neg Bool.false_ne_true, Dev.wr_refused _ _ hk, Dev.refused]

/-- The same for a register of the channel window, whatever channel is selected. -/
theorem refusedAt_wrCh {k : Dev → Nat → Dev → Dev} {act : Dev → Nat → Dev → Bool} (hc : exec c s = s.upd (fun d => d.wrCh slot off a (k d) (act d))) :
    RefusedAt c s slot off a :=
  refusedAt_of_dev fun _ hk => by rw [hc, State.upd_eq, Dev.wrCh, Dev.wr_refused _ _ hk, Dev.refused]

/-- The same for the commands whose effect needs the whole state. -/
theorem refusedAt_stateWr {k : State → State} (hc : exec c s = .next (s.wr slot off a k)) : RefusedAt c s slot off a :=
  refusedAt_of_dev fun _ hk => by rw [hc, State.wr, if_neg (by simp [hk]), Dev.wr_refused _ _ hk, Dev.refused]

theorem refusedAt_stateWrCh {k : Nat → State → State} (hc : exec c s = .next (s.wrCh slot off a k)) : RefusedAt c s slot off a :=
  refusedAt_of_dev fun _ hk => by rw [hc, State.wrCh, if_neg (by simp [hk]), Dev.wrCh, Dev.wr_refused _ _ hk, Dev.refused]

@[simp] theorem State.updMem_resp (s : State) (k : Dev → Dev) : (s.updMem k).dev.resp = (k s.dev).resp := by
  unfold State.updMem; dsimp only; split <;> rfl

/-- The same for a command that may lose contents of memory. -/
theorem refusedAt_updMem {k : Dev → Dev → Dev} {act : Dev → Bool} (hc : exec c s = .next (s.updMem (fun d => d.wr slot off a (k d) (act d)))) :
    RefusedAt c s slot off a :=
  refusedAt_of fun j hk => by
    have hd : s.dev.wr slot off a (k s.dev) (act s.dev) = s.dev.refused slot j off a.bank.val := Dev.wr_refused _ _ hk
    refine ⟨_, hc, ?_, fun f i => ?_, ?_, State.updMem_log .., State.updMem_otp ..⟩
    · rw [State.updMem_resp, hd, Dev.refused_resp]
    · rw [State.updMem_get, hd]
    · rw [State.updMem_var _ _ (by decide), hd, Dev.refused_var]

/-- Settles O52, one line per command in the statement's order: each is one write access, and R56 turns it away before anything else. -/
theorem accessesThatAreNotAllowedAreRefused : Obligations.AccessesThatAreNotAllowedAreRefused :=
  ⟨fun _ _ _ h => refusedAt_slotWr h (.refl (execSoftReset _ _ _)),
   fun _ _ _ => refusedAt_wr (.refl (execClrCommit _ _ _)),
   fun _ _ _ => refusedAt_wrCh (.refl (execClrSlotCfgWrite _ _ _)),
   fun _ _ _ _ h => refusedAt_slotWr h (.refl (execChselWrite _ _ _ _)),
   fun _ _ _ _ h => refusedAt_slotWr h (.refl (execBlockEnWrite _ _ _ _)),
   fun _ _ _ _ h => refusedAt_slotWr h (.refl (execApplyGo _ _ _ _)),
   fun _ _ _ => refusedAt_wr (.refl (execSteerEnableWrite _ _ _)),
   fun _ _ => refusedAt_wr (.refl (execTimeSetgo _ _)),
   fun _ _ _ => refusedAt_wr (.refl (execTrigArm _ _ _)),
   fun _ _ _ => refusedAt_wr (.refl (execTrigDisarm _ _ _)),
   fun _ _ _ => refusedAt_wrCh (.refl (execAntBiasWrite _ _ _)),
   fun _ _ _ => refusedAt_wr (.refl (execPathDisable _ _ _)),
   fun _ _ => refusedAt_wrCh (.refl (execAcqGo _ _)),
   fun _ _ => refusedAt_wrCh (.refl (execAcqAbort _ _)),
   fun _ _ _ _ _ _ => refusedAt_wr (.refl (execAcqEntryWrite _ _ _ _ _ _)),
   fun _ _ => refusedAt_wrCh (.refl (execTrackStart _ _)),
   fun _ _ => refusedAt_wrCh (.refl (execTrackStop _ _)),
   fun _ _ _ _ => refusedAt_wrCh (.refl (execHalfCycleResolve _ _ _ _)),
   fun _ _ _ _ => refusedAt_wrCh (.refl (execTowWrite _ _ _ _)),
   fun _ _ => refusedAt_wr (.refl (execJamLearn _ _)),
   fun _ _ _ _ => refusedAt_wr (.refl (execPvtSpeedWrite _ _ _ _)),
   fun _ _ _ _ _ => refusedAt_wr (.refl (execPvtSubmit _ _ _ _ _)),
   fun _ _ => refusedAt_wr (.refl (execGuardRearm _ _)),
   fun _ _ _ => refusedAt_stateWrCh (.refl (execLidarPost _ _ _)),
   fun _ _ _ => refusedAt_wrCh (.refl (execSensorEnWrite _ _ _)),
   fun _ _ => refusedAt_wrCh (.refl (execSensorRecheck _ _)),
   fun _ _ _ => refusedAt_wr (.refl (execBankSwapRequest _ _ _)),
   fun _ _ _ => refusedAt_wr (.refl (execProjectionGo _ _ _)),
   fun _ _ => refusedAt_wr (.refl (execGridClear _ _)),
   fun _ _ => refusedAt_wr (.refl (execEgoReset _ _)),
   fun _ _ _ => refusedAt_wr (.refl (execNpuJobGo _ _ _)),
   fun _ _ _ _ => refusedAt_wr (.refl (execNpuJobEnable _ _ _ _)),
   fun _ _ => refusedAt_wr (.refl (execNpuAbort _ _)),
   fun _ _ _ => refusedAt_wr (.refl (execAcousticSnapArm _ _ _)),
   fun _ _ _ _ => refusedAt_wr (.refl (execTapEnable _ _ _ _)),
   fun _ _ => refusedAt_wr (.refl (execLineClear _ _)),
   fun _ _ => refusedAt_wr (.refl (execStageClear _ _)),
   fun _ _ => refusedAt_wrCh (.refl (execLoopEnable _ _)),
   fun _ _ => refusedAt_wrCh (.refl (execLoopDisable _ _)),
   fun _ _ => refusedAt_wrCh (.refl (execCoeffSwap _ _)),
   fun _ _ _ => refusedAt_wr (.refl (execSwapMaskWrite _ _ _)),
   fun _ _ => refusedAt_wrCh (.refl (execLoopClearStats _ _)),
   fun _ _ => refusedAt_wr (.refl (execLaneClear _ _)),
   fun _ _ _ _ _ => refusedAt_wrCh (.refl (execTableEntryWrite _ _ _ _ _)),
   fun _ _ _ _ => refusedAt_wrCh (.refl (execPortEnable _ _ _ _)),
   fun _ _ _ => refusedAt_wrCh (.refl (execEventRequest _ _ _)),
   fun _ _ _ => refusedAt_wrCh (.refl (execCurrentSetpoint _ _ _)),
   fun _ _ => refusedAt_wrCh (.refl (execQueuePush _ _)),
   fun _ _ => refusedAt_wrCh (.refl (execQueueFlush _ _)),
   fun _ _ _ => refusedAt_wrCh (.refl (execSolClearFault _ _ _)),
   fun _ _ _ => refusedAt_wrCh (.refl (execSolChannelEnable _ _ _)),
   fun _ _ _ _ => refusedAt_wr (.refl (execBoostEnable _ _ _ _)),
   fun _ _ _ => refusedAt_wrCh (.refl (execLswOnWrite _ _ _)),
   fun _ _ _ => refusedAt_wrCh (.refl (execLswChannelEnable _ _ _)),
   fun _ _ => refusedAt_wrCh (.refl (execLswClearFault _ _)),
   fun _ _ _ => refusedAt_wr (.refl (execPscAck _ _ _)),
   fun _ _ _ => refusedAt_wr (.refl (execGroupRestart _ _ _)),
   fun _ _ _ => refusedAt_wr (.refl (execFbrkEnable _ _ _)),
   fun _ _ _ _ _ => refusedAt_wr (.refl (execFaultResetKey _ _ _ _ _)),
   fun _ _ => refusedAt_wr (.refl (execReactClear _ _)),
   fun _ _ _ => refusedAt_wrCh (.refl (execTransmitRequest _ _ _)),
   fun _ _ _ _ => refusedAt_wrCh (.refl (execTransmitAbort _ _ _ _)),
   fun _ _ _ _ => refusedAt_wrCh (.refl (execNdatClear _ _ _ _)),
   fun _ _ _ => refusedAt_wr (.refl (execAddressClaim _ _ _)),
   fun _ _ _ => refusedAt_wrCh (.refl (execCanChannelEnable _ _ _)),
   fun _ _ _ => refusedAt_wrCh (.refl (execEthPortEnable _ _ _)),
   fun _ _ => refusedAt_wrCh (.refl (execRideOutputCommit _ _)),
   fun _ _ => refusedAt_wr (.refl (execRideTableClear _ _)),
   fun _ _ _ _ => refusedAt_wr (.refl (execRidePortTake _ _ _ _)),
   fun _ _ => refusedAt_wrCh (.refl (execDmaGo _ _)),
   fun _ _ => refusedAt_stateWrCh (.refl (execDmaResume _ _)),
   fun _ _ => refusedAt_stateWrCh (.refl (execDmaSkip _ _)),
   fun _ _ => refusedAt_wrCh (.refl (execDmaAbort _ _)),
   fun _ _ _ => refusedAt_wr (.refl (execDmaEngineClear _ _ _)),
   fun _ _ _ _ => refusedAt_wr (.refl (execLockstepInject _ _ _ _)),
   fun _ _ => refusedAt_wr (.refl (execResetRequestCtl _ _)),
   fun _ _ => refusedAt_wr (.refl (execResetRequestData _ _)),
   fun _ _ => refusedAt_wr (.refl (execResetRequestModule _ _)),
   fun _ _ _ _ _ => refusedAt_devWr (.refl (execChallengeRequest _ _ _ _ _)),
   fun _ _ _ => refusedAt_stateWr (.refl (execResponseSubmit _ _ _)),
   fun _ _ => refusedAt_wr (.refl (execUpdBlockGo _ _)),
   fun _ _ _ => refusedAt_wr (.refl (execPanelCommit _ _ _)),
   fun _ _ => refusedAt_wr (.refl (execStressClear _ _)),
   fun _ _ _ => refusedAt_wr (.refl (execSagrAck _ _ _)),
   fun _ _ _ _ => refusedAt_wr (.refl (execSagrRaise _ _ _ _)),
   fun _ _ _ => refusedAt_updMem (.refl (execKilnRunRequest _ _ _)),
   fun _ _ => refusedAt_wr (.refl (execConeSweepGo _ _))⟩

end Sys2Proof.Machine
end

section
/-! ## The state after reset -/

namespace Sys2Proof.Machine

/-- After reset nothing is listed, so that a field reads its reset value (R74). -/
theorem get_reset (f : Fld) (i : Nat) : State.reset.dev.get f i = f.reset i := rfl

/-- R74: the blocks whose EN resets to 1. -/
theorem ctrlEn_reset : ∀ n ∈ slots, F.COM_CTRL_EN.reset n = if n ∈ [0x00, 0x01, 0x02, 0x03, 0x04, 0x05, 0x07, 0x0B, 0x30, 0x31] then 1 else 0 := by decide

/-- Settles O43: the reset values are those of the field table, and memory and OTP are those of a sound state. -/
theorem resetLeavesTheSpecsValues : Obligations.ResetLeavesTheSpecsValues :=
  ⟨get_reset, ctrlEn_reset, rfl, rfl, rfl, rfl, rfl⟩

end Sys2Proof.Machine
end

section
/-! ## Accesses to the configuration space

What an accepted access of one word comes to: which register its offset names, and what the write of that register does (R46, R47, R56, R59, R61). -/

namespace Sys2Proof.Machine

variable {s : State} {d : Dev} {slot off bank v : Nat} {a : Acc} {r : RegAt}

theorem accCause_of_taken (h : Taken s slot a) (off : Nat) : accCause slot off a true = none :=
  accCause_none h.1.1 h.1.2.1 h.1.2.2

/-- An aligned word is an access that R47 allows on every page. -/
theorem sizeOk_word (h : off % 4 = 0) : sizeOk off 4 = true := by
  have hp : off % 0x1000 + 4 ≤ 0x1000 := by omega
  simp [sizeOk, h, hp]

@[simp] theorem Dev.rdata_get (d : Dev) (v : Nat) (f : Fld) (i : Nat) : ({ d with rdata := v } : Dev).get f i = d.get f i := rfl
@[simp] theorem Dev.rdata_resp (d : Dev) (v : Nat) : ({ d with rdata := v } : Dev).resp = d.resp := rfl

/-! ### An offset that no register or window has -/

/-- An accepted access to an unassigned offset: UNMAP, and a read returns 0 (R46). -/
theorem Dev.unmapped_assigned {w : Bool} (hs : slots.contains slot = true) (hm : offMapped slot off = false) (hz : off % 4 = 0)
    (ha : accCause slot off a w = none) :
    d.unmapped a slot off w = { ((d.cone slot (if w then 2 else 1)).errAcc slot 5 off a.bank.val).good with rdata := if w then d.rdata else 0 } := by
  unfold Dev.unmapped
  rw [hs, hm, hz, ha]
  rfl

/-- Settles O49: the access completes with UNMAP captured, and an error's capture is within every frame. -/
theorem unassignedOffsetsReadZero : Obligations.UnassignedOffsetsReadZero := by
  intro s a n off w hs hm hz ha
  have hd := Dev.unmapped_assigned (d := s.dev) hs hm hz ha
  have hframe : RegFrame s { s with dev := s.dev.unmapped a n.toNat off.toNat w } [] := regFrame_of_view (m := false) (o := false) (p := false) (by
    simp only [State.view, Dev.view_unmapped])
  refine ⟨{ s with dev := s.dev.unmapped a n.toNat off.toNat w }, rfl, ?_, fun hw => ?_, hframe, ⟨rfl, rfl, rfl⟩, ?_, fun h0 => ?_⟩
  · rw [hd, Dev.rdata_resp, Dev.good_resp]
  · rw [hd, hw]; rfl
  · rw [hd, Dev.rdata_get, Dev.good_get, Dev.errAcc_valid]
  · have h1 : (s.dev.cone n.toNat (if w then 2 else 1)).get F.COM_ERR_VALID n.toNat = 0 := by rwa [Dev.cone_valid]
    simp only [hd, Dev.rdata_get, Dev.good_get]
    exact ⟨Dev.errAcc_cause h1 5, (Dev.errAcc_woff h1).trans (Nat.mod_eq_of_lt (show off.toNat / 4 < 2 ^ 14 by omega))⟩

/-! ### Reads and writes of one word -/

/-- A field access through the channel window with no such channel (R59). -/
theorem Dev.wordWrite_beyond (hr : regAt slot off = some r) (hc : r.reg.chan = true) (hb : chCnt slot ≤ d.get F.COM_CHSEL_CH (slot * 16 + bank)) :
    d.wordWrite slot bank off v = (d.cone slot 7).errAcc slot 1 off bank := by
  simp [Dev.wordWrite, hr, hc, hb]

theorem State.wordRead_beyond (hr : regAt slot off = some r) (hc : r.reg.chan = true) (hb : chCnt slot ≤ s.dev.get F.COM_CHSEL_CH (slot * 16 + bank)) :
    s.wordRead slot bank off = (((s.dev.cone slot 1).cone slot 7).errAcc slot 1 off bank, 0) := by
  have hch : (s.dev.cone slot 1).get F.COM_CHSEL_CH (slot * 16 + bank) = s.dev.get F.COM_CHSEL_CH (slot * 16 + bank) :=
    Dev.cone_get_ne _ _ _ _ _ (by decide) (by decide)
  simp [State.wordRead, hr, hc, hch, hb]

/-- An accepted read of a word (R46, R56). -/
theorem State.confRead_accepted (hs : slots.contains slot = true) (hz : off % 4 = 0) (ha : s.dev.readCause slot off a = none) :
    s.confRead a slot off = (({ (s.wordRead slot a.bank.val off).1 with rdata := (s.wordRead slot a.bank.val off).2 } : Dev).good,
      some (s.wordRead slot a.bank.val off).2) := by
  unfold State.confRead
  rw [hs, hz, ha]
  rfl

/-- An accepted write access (R45 to R47, R56). OWNER, at 0x24, has a rule of its own. -/
theorem Dev.confWrite_accepted {m : Bool} {n : Nat} {l : List Nat} (hs : slots.contains slot = true) (hz : sizeOk off n = true) (ha : accCause slot off a true = none)
    (hk : ¬ (d.var V.underKiln slot = 1 ∧ (slot = 0x28 ∨ slot = 0x29))) (ho : off ≠ 0x24) :
    d.confWrite a m slot off n l = ((d.cone slot 2).asBank a.bank.val (fun e => e.wordsWrite slot a.bank.val off l)).good := by
  have hw : writeCause slot off a m = none := by simp [writeCause, ha, ho]
  unfold Dev.confWrite
  rw [hs, hz, hw]
  exact Dev.wrAny_taken d _ ha hk

/-- A register write that is no confirmation by the keeper (R531) and not the UFS host's (R477) is an access of the device. -/
theorem exec_registerWrite {x : RegIn} (hu : x.ufs = false) (hc : ¬ (x.slot.toNat = 0x30 ∧ x.off.toNat = 0x808 ∧ x.len.toNat = 4)) :
    exec (.registerWrite a x) s = .next { s with dev := s.dev.confWrite a x.m x.slot.toNat x.off.toNat x.len.toNat (accWords x.len.toNat x.data.toNat) } := by
  have h : s.registerWrite a x = { s with dev := s.dev.confWrite a x.m x.slot.toNat x.off.toNat x.len.toNat (accWords x.len.toNat x.data.toNat) } := by
    unfold State.registerWrite
    dsimp only
    rw [hu, if_neg Bool.false_ne_true, if_neg]
    rintro ⟨hslot, hoff, hlen, -⟩
    exact hc ⟨hslot, hoff, congrArg (fun n => n.toNat) hlen⟩
  exact congrArg _ h

/-- What an accepted write of one word answers: `wordWrite` at its offset. -/
theorem exec_registerWrite_word {x : RegIn} (hu : x.ufs = false) (hs : slots.contains x.slot.toNat = true) (ht : Taken s x.slot.toNat a) (hl : x.len.toNat = 4)
    (hz : x.off.toNat % 4 = 0) (ho : x.off.toNat ≠ 0x24) (hc : ¬ (x.slot.toNat = 0x30 ∧ x.off.toNat = 0x808)) : exec (.registerWrite a x) s =
    .next { s with dev := ((s.dev.cone x.slot.toNat 2).asBank a.bank.val (fun e =>
      e.wordWrite x.slot.toNat a.bank.val x.off.toNat (x.data.toNat % 2 ^ 32))).good } := by
  have hw : accWords 4 x.data.toNat = [x.data.toNat % 2 ^ 32] := by simp [accWords]
  rw [exec_registerWrite hu (fun h => hc ⟨h.1, h.2.1⟩), hl, hw, Dev.confWrite_accepted hs (sizeOk_word hz) (accCause_of_taken ht _) ht.2.2 ho]
  rfl

/-! ### Channels at and above CHCNT -/

/-- A channel register lies neither at OWNER nor at the keeper's confirmation. -/
theorem chan_offset_ne (hr : (regAt slot off).any (fun r => r.reg.chan) = true) : off ≠ 0x24 ∧ ¬ (slot = 0x30 ∧ off = 0x808) := by
  constructor
  · rintro rfl
    have hcom : (regFind regsCOM 0x24).any (fun r => r.reg.chan) = false := by decide
    exact absurd hr (by rw [regAt, if_pos (by decide), hcom]; decide)
  · rintro ⟨rfl, rfl⟩
    exact absurd hr (by decide)

/-- A read of a channel register under no such channel returns 0 and captures CHRANGE (R59). -/
theorem confRead_beyond (hs : slots.contains slot = true) (hz : off % 4 = 0) (ha : s.dev.readCause slot off a = none) (hr : regAt slot off = some r)
    (hc : r.reg.chan = true) (hb : chCnt slot ≤ s.dev.get F.COM_CHSEL_CH (slot * 16 + a.bank.val)) :
    (s.confRead a slot off).2 = some 0 ∧ (s.confRead a slot off).1.resp = 1 ∧ (s.confRead a slot off).1.get F.COM_ERR_VALID slot = 1 ∧
    (s.dev.get F.COM_ERR_VALID slot = 0 → (s.confRead a slot off).1.get F.COM_ERR_CHRANGE slot = 1) := by
  rw [State.confRead_accepted hs hz ha, State.wordRead_beyond hr hc hb]
  dsimp only
  refine ⟨rfl, Dev.good_resp _, ?_, fun h0 => ?_⟩
  · rw [Dev.good_get, Dev.rdata_get, Dev.errAcc_valid]
  · rw [Dev.good_get, Dev.rdata_get]
    have h1 : ((s.dev.cone slot 1).cone slot 7).get F.COM_ERR_VALID slot = 0 := by rwa [Dev.cone_valid, Dev.cone_valid]
    exact Dev.errAcc_cause h1 1

/-- A write there is ignored but for CHRANGE (R59). -/
theorem registerWrite_beyond {x : RegIn} (hu : x.ufs = false) (hs : slots.contains x.slot.toNat = true) (ht : Taken s x.slot.toNat a) (hl : x.len.toNat = 4)
    (hz : x.off.toNat % 4 = 0) (hr : (regAt x.slot.toNat x.off.toNat).any (fun r => r.reg.chan) = true)
    (hb : chCnt x.slot.toNat ≤ s.dev.get F.COM_CHSEL_CH (x.slot.toNat * 16 + a.bank.val)) :
    Answers (.registerWrite a x) s (fun t => t.dev.resp = 1 ∧ RegFrame s t [] ∧ OutsideKept s t ∧ t.dev.get F.COM_ERR_VALID x.slot.toNat = 1 ∧
      (s.dev.get F.COM_ERR_VALID x.slot.toNat = 0 → t.dev.get F.COM_ERR_CHRANGE x.slot.toNat = 1)) := by
  obtain ⟨ho, hcf⟩ := chan_offset_ne hr
  obtain ⟨r, hreg, hc⟩ := (Option.any_eq_true ..).mp hr
  have hch : ∀ b, chCnt x.slot.toNat ≤ ({ s.dev.cone x.slot.toNat 2 with acc := b } : Dev).get F.COM_CHSEL_CH (x.slot.toNat * 16 + a.bank.val) := fun b => by
    rwa [Dev.acc_get, Dev.cone_get_ne _ _ _ _ _ (by decide) (by decide)]
  refine ⟨_, exec_registerWrite_word hu hs ht hl hz ho hcf, Dev.good_resp _, ?_, ⟨rfl, rfl, rfl⟩, ?_, fun h0 => ?_⟩
  · exact regFrame_of_view (m := false) (o := false) (p := false) (by
      simp only [State.view, Dev.view_good, Dev.view_asBank, Dev.wordWrite_beyond hreg hc (hch _), Dev.view_errAcc, Dev.view_cone, Dev.view_mk])
  · rw [Dev.good_get, Dev.asBank_get, Dev.wordWrite_beyond hreg hc (hch _), Dev.errAcc_valid]
  · rw [Dev.good_get, Dev.asBank_get, Dev.wordWrite_beyond hreg hc (hch _)]
    exact Dev.errAcc_cause (by rwa [Dev.cone_valid, Dev.acc_get, Dev.cone_valid]) 1

/-- A write of CHSEL, of any value (R57): the writer's bank takes it, and nothing else changes but what every access counts. -/
theorem exec_chselWrite {n : BitVec 6} {ch : BitVec 16} (hs : slots.contains n.toNat = true) (ht : Taken s n.toNat a) : exec (.chselWrite a n ch) s =
    .next { s with dev := ((s.dev.cone n.toNat 2).asBank a.bank.val (fun d => d.set F.COM_CHSEL_CH (n.toNat * 16 + a.bank.val) ch.toNat)).good } := by
  have hx : exec (.chselWrite a n ch) s = execChselWrite a n ch s := rfl
  rw [hx, execChselWrite, State.upd_eq, hs, Bool.not_true, if_neg Bool.false_ne_true, Dev.wr_taken _ _ (accCause_of_taken ht _) ht.2.2 ht.2.1]

/-- Settles O50: in both windows the channel is looked at first, and CHSEL itself is no channel register. -/
theorem channelsBeyondTheBlockAreNotThere : Obligations.ChannelsBeyondTheBlockAreNotThere := by
  refine ⟨?read, ?write, ?chsel⟩
  case read =>
    intro s a n off hs hz ha hr hb
    obtain ⟨r, hreg, hc⟩ := (Option.any_eq_true ..).mp hr
    exact confRead_beyond hs hz ha hreg hc hb
  case write =>
    intro s a x hu hs ht hl hz hr hb
    exact registerWrite_beyond hu hs ht hl hz hr hb
  case chsel =>
    intro s a n ch hs ht _
    refine ⟨_, exec_chselWrite hs ht, Dev.good_resp _, ?_, ?_⟩
    · rw [Dev.good_get, Dev.asBank_get, Dev.get_set_same]
      exact Nat.mod_eq_of_lt ch.isLt
    · rw [Dev.good_get, Dev.asBank_get, Dev.get_set_kid _ _ _ _ (by decide), Dev.acc_get, Dev.cone_valid]

end Sys2Proof.Machine
end

section
/-! ## Two statements about soft resets that fail

A soft reset takes the block's own entries of the register store away. Each statement says more: the one that the reset of no block reaches another block's apply,
the other that the store holds no active value outside the blocks' own entries. -/

namespace Sys2Proof.Machine

/-- A module in PARKED with both planes off. A Kiln run of the entry to ROAD is in progress and holds it (R592); an apply of WHL was pending when the control
plane went down. -/
def roadHeldByKiln : State :=
  st [(F.PWR_MODE_MODE, 0, 1), (F.PWR_MODE_PENDV, 0, 1), (F.PWR_MODE_PEND, 0, 3), (F.KILN_STATE_ST, 0, 3), (F.COM_APPLY_PEND, 0x20, 1)]
    [(V.lcSt, 0, 2), (V.booted, 0, 1), (V.keeperUp, 0, 1), (V.kilnOn, 0, 1), (V.kilnSrc, 0, 2), (V.pwrHeld, 0, 1), (V.planesOff, 0, 1)]

theorem roadHeldByKiln_whl_pends : roadHeldByKiln.dev.get F.COM_APPLY_PEND 0x20 = 1 := by decide +kernel

/-- The soft reset aborts the run, the entry to ROAD goes on, and the planes come up with their blocks' registers reset (R513, R525, R595). -/
theorem softReset_kiln_ends_whl_apply :
    (match exec (.softReset ⟨10, true⟩ 0x05) roadHeldByKiln with | .next t => t.dev.get F.COM_APPLY_PEND 0x20 | _ => 1) = 0 := by
  decide +kernel

/-- Refutes O51: SOFT_RESET of KILN aborts a run that holds the entry to ROAD, which then brings the planes up and with it resets WHL, so that PEND of WHL falls. -/
theorem not_softResetDiscardsShadows : ¬ Obligations.SoftResetDiscardsShadows := by
  intro h
  obtain ⟨t, ht, -, -, hpend⟩ := h roadHeldByKiln ⟨10, true⟩ 0x05 0 (by decide) (by decide +kernel) (by decide) (by decide +kernel)
  have h0 := softReset_kiln_ends_whl_apply
  rw [ht] at h0
  exact absurd ((h0.symm.trans (hpend 0x20 (by decide) (by decide))).trans roadHeldByKiln_whl_pends) (by decide)

/-- A device that holds an active value for a word of CAN message memory. That field is no RWS field, so that no command writes one; the statement speaks of
every state. -/
def busWordActive : State := st [(F.BUS_MEM_WORD.act, 0, 1)] []

theorem softReset_bus_keeps_active :
    (match exec (.softReset ⟨8, true⟩ 0x28) busWordActive with | .next t => t.dev.get F.BUS_MEM_WORD.act 0 | _ => 0) = 1 := by
  decide +kernel

theorem busMem_mem_regs : ∃ r ∈ regsOf 0x28, F.BUS_MEM_WORD ∈ r.fields ∧ F.BUS_MEM_WORD.kind = .rw ∧ F.BUS_MEM_WORD.nvm = false :=
  ⟨_, List.getLast_mem (l := regsOf 0x28) (by decide), .head _, rfl, rfl⟩

/-- Refutes O40: its soft-reset clause has the active value of every writable field reset, and a soft reset of BUS leaves the one of a word of message memory,
whose entry of the store is none of a block (`regSlot`). -/
theorem not_enableRunApplyAndSoftReset : ¬ Obligations.EnableRunApplyAndSoftReset := by
  rintro ⟨-, -, -, -, -, -, hsoft, -⟩
  obtain ⟨t, ht, -, -, -, -, -, -, hreset⟩ := hsoft busWordActive ⟨8, true⟩ 0x28 0 (by decide) (by decide +kernel) (by decide) (by decide +kernel)
  obtain ⟨r, hr, hf, hkind, hnvm⟩ := busMem_mem_regs
  have h0 := softReset_bus_keeps_active
  rw [ht] at h0
  exact absurd (h0.symm.trans (hreset r hr _ hf (.inl hkind) hnvm).2) (by decide)

end Sys2Proof.Machine
end

section
/-! ## Counting an event and reading a register

Every access counts events of its block first (R599). What it reads is then what the registers showed before, counters of Cones apart. -/

namespace Sys2Proof.Machine

variable {slot off : Nat} {r : RegAt}

/-- The registers of a block's own map lie beyond the common page's first 256 bytes, and their fields are none of the common page's. -/
theorem regsOf_own : ∀ n ∈ slots, ∀ r ∈ regsOf n, 0x100 ≤ r.off ∧ ∀ f ∈ r.fields, f.own = true := by decide +kernel

theorem regFind_mem {l : List Reg} (h : regFind l off = some r) : r.reg ∈ l := by
  obtain ⟨q, hq, hf⟩ := List.exists_of_findSome?_eq_some h
  suffices r.reg = q from this ▸ hq
  split at hf
  · cases hf
  split at hf
  · cases hf; rfl
  split at hf
  · obtain ⟨_, -, rfl⟩ := Option.map_eq_some_iff.mp hf; rfl
  · cases hf

theorem regAt_mem (h : regAt slot off = some r) (ho : 0x100 ≤ off) : r.reg ∈ regsOf slot := by
  rw [regAt, if_neg (by omega)] at h
  exact regFind_mem h

section
variable (d : Dev) (s ev n : Nat)

theorem Dev.cone_blob (m i : Nat) : (d.cone s ev n).blob m i = d.blob m i := by
  have h : (d.cone s ev n).bytes = d.bytes := congrArg (fun a => a.bytes) (d.cone_rest_eq s ev n)
  rw [Dev.blob, Dev.blob, h]

theorem Dev.cone_past (m i : Nat) : (d.cone s ev n).past m i = d.past m i := by
  have h : (d.cone s ev n).hist = d.hist := congrArg (fun a => a.hist) (d.cone_rest_eq s ev n)
  rw [Dev.past, Dev.past, h]

theorem Dev.cone_now : (d.cone s ev n).now = d.now := by simp [Dev.now]

theorem Dev.cone_npuUtil : (d.cone s ev n).npuUtil = d.npuUtil := by simp [Dev.npuUtil, Dev.cone_past]

theorem Dev.cone_laneLoad (l : Nat) : (d.cone s ev n).laneLoad l = d.laneLoad l := by simp [Dev.laneLoad, Dev.cone_past]

theorem Dev.cone_kilnShown : (d.cone s ev n).kilnShown = d.kilnShown := by
  simp +decide [Dev.kilnShown, Dev.kilnSaveTime, Dev.kilnPats, Dev.kilnFree, Dev.cone_get] <;> rfl

theorem Dev.cone_bufSpan (c b : Nat) : (d.cone s ev n).bufSpan c b = d.bufSpan c b := by simp +decide [Dev.bufSpan, Dev.cone_get]

theorem Dev.cone_isHead (c b : Nat) : (d.cone s ev n).isHead c b = d.isHead c b := by
  have walk : ∀ (k b t : Nat), (d.cone s ev n).headWalk c b t k = d.headWalk c b t k := by
    intro k
    induction k with
    | zero => intro b t; rfl
    | succ k ih => intro b t; simp only [Dev.headWalk, Dev.cone_bufSpan, ih]
  exact walk 256 0 b

theorem Dev.cone_innerWord (q : Reg) (k : Nat) : (d.cone s ev n).innerWord q k = d.innerWord q k := by simp +decide [Dev.innerWord, Dev.cone_get]

theorem Dev.cone_passed (x : Vr) (i : Nat) (t : Int) : (d.cone s ev n).passed x i t = d.passed x i t := by
  rw [Dev.passed, Dev.passed, Dev.since, Dev.since, Dev.cone_var, Dev.cone_var]

theorem Dev.cone_solImeas (c : Nat) : (d.cone s ev n).solImeas c = d.solImeas c := by
  have hphase : (d.cone s ev n).get F.SOL_CH_STAT_PHASE c = d.get F.SOL_CH_STAT_PHASE c := d.cone_get _ _ _ _ _ (by decide)
  have hmeas : (d.cone s ev n).get F.SOL_CH_IMEAS_IMEAS c = d.get F.SOL_CH_IMEAS_IMEAS c := d.cone_get _ _ _ _ _ (by decide)
  simp only [Dev.solImeas, Dev.cone_passed, Dev.cone_var, hphase, hmeas]

theorem Dev.cone_bstRdy (b : Nat) : (d.cone s ev n).bstRdy b = d.bstRdy b := by
  simp +decide [Dev.bstRdy, Dev.bstHalted, Dev.bstAbove, Dev.bstVrdy, Dev.bstTarget, Dev.bstSet, Dev.since, Dev.on, Dev.cone_get]

/-- A register of a block's own map reads the same after an event is counted. -/
theorem Dev.cone_regValue (hs : slot ∈ slots) (hr : r.reg ∈ regsOf slot) (k : Nat) : (d.cone s ev n).regValue slot r k = d.regValue slot r k := by
  obtain ⟨hoff, hown⟩ := regsOf_own slot hs r.reg hr
  have hstat : r.reg.off ≠ 0x0C := by omega
  have hget : ∀ f ∈ r.reg.fields, (d.cone s ev n).get f k = d.get f k := fun f hf => d.cone_get _ _ _ _ _ (hown f hf)
  unfold Dev.regValue
  simp +decide only [hstat, and_false, if_false, Dev.cone_var, Dev.cone_now, Dev.cone_npuUtil, Dev.cone_laneLoad, Dev.cone_kilnShown, Dev.cone_isHead,
    Dev.cone_innerWord, Dev.cone_solImeas, Dev.cone_bstRdy, Dev.cone_blob, Dev.cone_get]
  rw [List.foldl_ext (fun m f => m + if f.kind == .wo then 0 else (d.cone s ev n).get f k * 2 ^ f.lsb) _ _ fun m f hf => by rw [hget f hf],
    List.foldl_ext (fun m f => m + if f.kid = F.FBRK_RSTSTAT_STUCK.kid ∧ d.var V.rbHigh 0 = 0 ∧ d.var V.rbLow 0 + 65536000000000 ≤ d.var V.uptime 0 then 0
      else (d.cone s ev n).get f k * 2 ^ f.lsb) _ _ fun m f hf => by rw [hget f hf]]

/-- The index that an offset names is the same after an event is counted. -/
theorem Dev.cone_fieldIndex (bank ch : Nat) : fieldIndex (d.cone s ev n) slot off bank ch r = fieldIndex d slot off bank ch r := by
  simp +decide only [fieldIndex, Dev.cone_get]

end

end Sys2Proof.Machine
end

section
/-! ## Register writes and pair accesses

Most registers that the statement of O39 names hold one field that no rule locks and whose write sets nothing else in motion (`Plain`): the field takes the value
(`Dev.regPut_plain`). A pair is written by halves (R61): the low half waits in the bank's holding register and the high half commits both. -/

namespace Sys2Proof.Machine

variable {s : State} {d : Dev} {slot off bank v : Nat} {a : Acc} {r : RegAt} {f : Fld} {part : Fld → Bool}

/-- A register of one writable field that no lock and no other rule guards (R660), and whose write sets nothing else in motion. -/
structure Plain (slot : Nat) (r : RegAt) (f : Fld) : Prop where
  fields : r.reg.fields = [f]
  writable : f.kind = .rw ∨ f.kind = .rws
  unlocked : ∀ (d : Dev) w new, d.lockOf slot f w new = .take
  unreserved : ∀ i, reservedAt f i = false
  shared : ¬ (slot = 0x0B ∧ f.kid = F.COM_IRQ_EN_V.kid) ∧ f.kid ≠ F.GNRF_PATH_CFG_EN.kid
  alone : 0x100 ≤ r.reg.off → ∀ (d b : Dev) k, d.afterWrite b slot r.reg.off k = d

/-- Where an access of `bank` at `off` writes `v`: the register's index, the channel and the value. -/
def Dev.writeAt (d : Dev) (slot off bank : Nat) (r : RegAt) (v : Nat) : WriteAt :=
  let ch := d.get F.COM_CHSEL_CH (slot * 16 + bank)
  ⟨r.reg.off, fieldIndex d slot off bank ch r, ch, v, dimProd r.reg.dims⟩

/-- A write that sets nothing else in motion: none on the common page does. -/
theorem afterWrite_alone {b e : Dev} {k : Nat} (halone : 0x100 ≤ r.reg.off → ∀ (d b : Dev) k, d.afterWrite b slot r.reg.off k = d) :
    (if r.reg.off < 0x100 then e else e.afterWrite b slot r.reg.off k) = e := by
  split
  · rfl
  · exact halone (by omega) _ _ _

section
variable (hf : r.reg.fields = [f]) (hp : part f = true) (halone : 0x100 ≤ r.reg.off → ∀ (d b : Dev) k, d.afterWrite b slot r.reg.off k = d)
include hf hp halone

/-- A write of a register of one field, which takes the value. -/
theorem Dev.regPut_take (ht : d.turnAny slot r.reg.chan (planeOfBank bank) f (d.writeAt slot off bank r v) (fieldOf f v) = .take) :
    d.regPut slot bank off r v part = d.fieldWrite slot (planeOfBank bank) f (d.writeAt slot off bank r v) (fieldOf f v) := by
  have hafter := fun e k => afterWrite_alone (b := d) (e := e) (k := k) halone
  rw [Dev.writeAt] at ht
  simp only [Dev.regPut, hf, List.filter_cons, hp, if_true, List.filter_nil, List.map_cons, List.map_nil, ht, List.foldl_cons, List.foldl_nil, hafter,
    Dev.writeAt]
  rfl

/-- A write of a register of one field, which a cause of ERR turns away. -/
theorem Dev.regPut_err {c : Nat} (ht : d.turnAny slot r.reg.chan (planeOfBank bank) f (d.writeAt slot off bank r v) (fieldOf f v) = .err c) :
    d.regPut slot bank off r v part = d.errAcc slot c off bank := by
  have hafter := fun e k => afterWrite_alone (b := d) (e := e) (k := k) halone
  rw [Dev.writeAt] at ht
  simp only [Dev.regPut, hf, List.filter_cons, hp, if_true, List.filter_nil, List.map_cons, List.map_nil, ht, List.foldl_cons, List.foldl_nil, hafter,
    reduceCtorEq, if_false]
  rfl

end

/-- With no soft reset and, for an RWS field, no apply, a plain field takes what is written to it (R62, R65, R67). -/
theorem Dev.regPut_plain (h : Plain slot r f) (hp : part f = true) (hs : d.var V.softRst slot = 0) (ha : f.kind = .rws → d.get F.COM_APPLY_PEND slot = 0) :
    d.regPut slot bank off r v part = d.set f (d.writeAt slot off bank r v).k (fieldOf f v) := by
  obtain ⟨hf, hk, hl, hres, ⟨hclr, hpath⟩, halone⟩ := h
  have hcov : ∀ w, (f.kind = .rws ∧ d.applyCovers slot r.reg.chan w = true) = False := fun w =>
    eq_false fun ⟨hrws, hc⟩ => by simp [Dev.applyCovers, Dev.on, ha hrws] at hc
  have hrwl : f.kind ≠ .rwl := by rcases hk with hk | hk <;> rw [hk] <;> decide
  have hturn : ∀ w new, d.turnAny slot r.reg.chan (planeOfBank bank) f w new = .take := fun w new => by
    have ht : d.turnOf slot r.reg.chan f w new = .take := by
      simp only [Dev.turnOf, hs, hcov, hrwl, hl, ne_eq, not_true_eq_false, false_and, or_self, if_false, ite_self]
    rw [Dev.turnAny, if_pos (hk.elim .inl fun h => .inr (.inr h)), ht]
  rw [Dev.regPut_take hf hp halone (hturn _ _), Dev.fieldWrite]
  rcases hk with hk | hk <;> rw [hk] <;> dsimp only <;> rw [if_neg hclr, if_neg hpath, hres, if_neg Bool.false_ne_true]

/-- A register of one field whose layout does not repeat. -/
def oneField (off : Nat) (pair : Bool) (f : Fld) (high : Bool) : RegAt := ⟨⟨off, [], false, pair, [f]⟩, 0, high⟩

theorem plain_ringNep : Plain 0x12 (oneField 0x810 false F.GNTK_RING_CFG_NEP false) F.GNTK_RING_CFG_NEP :=
  ⟨rfl, .inr rfl, by simp +decide [Dev.lockOf, Dev.lockTime], by simp +decide [reservedAt], by decide, by simp [Dev.afterWrite, oneField]⟩

theorem plain_irqEn (h : slot ≠ 0x0B) : Plain slot (oneField 0x18 false F.COM_IRQ_EN_V false) F.COM_IRQ_EN_V :=
  ⟨rfl, .inl rfl, by simp +decide [Dev.lockOf], by simp +decide [reservedAt], ⟨fun e => h e.1, by decide⟩, fun ho => absurd ho (by decide)⟩

theorem plain_ddtp : Plain 0x09 (oneField 0x1010 true F.IOMU_DDTP_V false) F.IOMU_DDTP_V :=
  ⟨rfl, .inl rfl, by simp +decide [Dev.lockOf], by simp +decide [reservedAt], by decide, by simp [Dev.afterWrite, oneField]⟩

theorem plain_alarm : Plain 0x01 (oneField 0x820 true F.PWR_ALARM_ALARM true) F.PWR_ALARM_ALARM :=
  ⟨rfl, .inl rfl, by simp +decide [Dev.lockOf], by simp +decide [reservedAt], by decide, by simp [Dev.afterWrite, oneField]⟩

/-- A field that holds while its block runs keeps its value, and the write is an error (R51, R660). -/
theorem Dev.regPut_runLocked (hf : r.reg.fields = [f]) (hp : part f = true) (halone : 0x100 ≤ r.reg.off → ∀ (d b : Dev) k, d.afterWrite b slot r.reg.off k = d)
    (hk : f.kind = .rwl) (hrun : d.on F.COM_STAT_RUN slot = true) (hres : ∀ i, reservedAt f i = false)
    (hne : d.get f (d.writeAt slot off bank r v).k ≠ fieldOf f v) : d.regPut slot bank off r v part = d.errAcc slot 0 off bank := by
  refine Dev.regPut_err hf hp halone ?_
  rw [Dev.turnAny, if_pos (.inr (.inl hk)), Dev.turnOf, if_neg (by simp [hne, hres]), if_pos (.inr ⟨hk, hrun⟩)]

/-- IRQ_STAT clears bit by bit (R52); CLR has a rule of its own (R71). -/
theorem Dev.regPut_irqStat (hs : d.var V.softRst slot = 0) (hc : slot ≠ 0x0B) :
    d.regPut slot bank 0x14 (oneField 0x14 false F.COM_IRQ_STAT_V false) v (fun _ => true) =
      d.set F.COM_IRQ_STAT_V slot (d.get F.COM_IRQ_STAT_V slot &&& (fieldOf F.COM_IRQ_STAT_V v ^^^ (2 ^ 32 - 1))) := by
  have hix : (d.writeAt slot 0x14 bank (oneField 0x14 false F.COM_IRQ_STAT_V false) v).k = slot := by simp [Dev.writeAt, fieldIndex, oneField, dimProd]
  have hturn : d.turnAny slot false (planeOfBank bank) F.COM_IRQ_STAT_V (d.writeAt slot 0x14 bank (oneField 0x14 false F.COM_IRQ_STAT_V false) v)
      (fieldOf F.COM_IRQ_STAT_V v) = .take := by
    rw [Dev.turnAny, if_neg (by decide), if_neg (by simp [hs]), if_neg]
    rw [show (F.COM_IRQ_STAT_V.kid == F.BUF_CTRL_MSGLOST.kid) = false by decide, Bool.and_false]
    decide
  rw [Dev.regPut_take rfl rfl (fun ho => absurd ho (by decide)) hturn]
  have hk : F.COM_IRQ_STAT_V.kind = .w1c := rfl
  have hlsw : lswKept F.COM_IRQ_STAT_V = false := by decide
  have hcnt : countClear F.COM_IRQ_STAT_V = false := by decide
  rw [Dev.fieldWrite, hix, hk]
  dsimp only
  rw [if_neg (by decide), if_neg (by decide), if_neg (fun h => hc h.1), hlsw, Bool.false_and, if_neg Bool.false_ne_true, w1cKeep, hcnt, if_neg Bool.false_ne_true]
  rfl

/-! ### One word -/

theorem Dev.wordWrite_one (hr : regAt slot off = some r) (hc : r.reg.chan = false) (hp : r.reg.pair = false) :
    d.wordWrite slot bank off v = d.regPut slot bank off r v (fun _ => true) := by
  simp [Dev.wordWrite, hr, hc, hp]

end Sys2Proof.Machine
end

section
/-! ### Register writes of one field -/

namespace Sys2Proof.Machine

variable {s : State} {d : Dev} {slot off bank v : Nat} {a : Acc} {r : RegAt} {f : Fld} {x : RegIn}

/-- An accepted write of a word at a register outside the channel window, no half of a pair, is the write of that register. -/
theorem exec_registerWrite_reg (hu : x.ufs = false) (hs : slots.contains x.slot.toNat = true) (ht : Taken s x.slot.toNat a) (hl : x.len.toNat = 4)
    (hz : x.off.toNat % 4 = 0) (ho : x.off.toNat ≠ 0x24 ∧ x.off.toNat ≠ 0x808) (hr : regAt x.slot.toNat x.off.toNat = some r) (hc : r.reg.chan = false)
    (hp : r.reg.pair = false) : exec (.registerWrite a x) s = .next { s with dev := ((s.dev.cone x.slot.toNat 2).asBank a.bank.val
      (fun e => e.regPut x.slot.toNat a.bank.val x.off.toNat r (x.data.toNat % 2 ^ 32) (fun _ => true))).good } := by
  rw [exec_registerWrite_word hu hs ht hl hz ho.1 (fun h => ho.2 h.2), Dev.asBank_congr
    (k' := fun e => e.regPut x.slot.toNat a.bank.val x.off.toNat r (x.data.toNat % 2 ^ 32) (fun _ => true)) _ _ (Dev.wordWrite_one hr hc hp)]

/-- The device on which an accepted write of `bank` acts: the access is counted. -/
def Dev.counted (d : Dev) (slot bank : Nat) : Dev := { d.cone slot 2 with acc := bank }

theorem Dev.counted_get_ne (d : Dev) (slot bank : Nat) {g : Fld} (j : Nat) (h : g.kid ≠ F.COM_CONE_CNT_V.kid) (h' : g.kid ≠ F.COM_CONE_CNT_WRAP.kid) :
    (d.counted slot bank).get g j = d.get g j := by
  rw [Dev.counted, Dev.acc_get, Dev.cone_get_ne _ _ _ _ _ h h']

theorem Dev.counted_get (d : Dev) (slot bank : Nat) {g : Fld} (j : Nat) (h : g.own = true) : (d.counted slot bank).get g j = d.get g j := by
  rw [Dev.counted, Dev.acc_get, Dev.cone_get _ _ _ _ _ _ h]

@[simp] theorem Dev.counted_var (d : Dev) (slot bank : Nat) (y : Vr) (j : Nat) : (d.counted slot bank).var y j = d.var y j := by
  rw [Dev.counted, Dev.acc_var, Dev.cone_var]

@[simp] theorem Dev.counted_valid (d : Dev) (slot bank n : Nat) : (d.counted slot bank).get F.COM_ERR_VALID n = d.get F.COM_ERR_VALID n := by
  rw [Dev.counted, Dev.acc_get, Dev.cone_valid]

@[simp] theorem Dev.counted_reports (d : Dev) (slot bank : Nat) : (d.counted slot bank).reports = d.reports := by
  rw [Dev.counted, ← Dev.cone_reports d slot 2 1]

/-- An accepted write of a word at a plain register: its field takes the value. -/
theorem exec_registerWrite_plain (hu : x.ufs = false) (hs : slots.contains x.slot.toNat = true) (ht : Taken s x.slot.toNat a) (hl : x.len.toNat = 4)
    (hz : x.off.toNat % 4 = 0) (ho : x.off.toNat ≠ 0x24 ∧ x.off.toNat ≠ 0x808) (hr : regAt x.slot.toNat x.off.toNat = some r) (hc : r.reg.chan = false)
    (hp : r.reg.pair = false) (h : Plain x.slot.toNat r f) (ha : f.kind = .rws → s.dev.get F.COM_APPLY_PEND x.slot.toNat = 0) :
    Answers (.registerWrite a x) s (fun t => t.dev.resp = 1 ∧ ∀ g j, t.dev.get g j = ((s.dev.counted x.slot.toNat a.bank.val).set f
      ((s.dev.counted x.slot.toNat a.bank.val).writeAt x.slot.toNat x.off.toNat a.bank.val r (x.data.toNat % 2 ^ 32)).k
      (fieldOf f (x.data.toNat % 2 ^ 32))).get g j) := by
  have hsoft : (s.dev.counted x.slot.toNat a.bank.val).var V.softRst x.slot.toNat = 0 := by rw [Dev.counted_var]; exact ht.2.1
  have hpend : f.kind = .rws → (s.dev.counted x.slot.toNat a.bank.val).get F.COM_APPLY_PEND x.slot.toNat = 0 := fun hk => by
    rw [Dev.counted_get_ne _ _ _ _ (by decide) (by decide)]; exact ha hk
  refine ⟨_, exec_registerWrite_reg hu hs ht hl hz ho hr hc hp, Dev.good_resp _, fun g j => ?_⟩
  rw [Dev.good_get, Dev.asBank_get]
  exact congrArg (fun e => e.get g j) (Dev.regPut_plain (d := s.dev.counted x.slot.toNat a.bank.val) (part := fun _ => true) h rfl hsoft hpend)

/-- A register of the common page that does not repeat holds one value for each slot. -/
theorem writeAt_index_common (d : Dev) (ho : off < 0x100) (hn : off ≠ 0x80) : (d.writeAt slot off bank (oneField off false f false) v).k = slot := by
  simp [Dev.writeAt, fieldIndex, oneField, dimProd, ho, hn]

theorem Dev.asBank_reports (d : Dev) (b : Nat) (k : Dev → Dev) : (d.asBank b k).good.reports = (k { d with acc := b }).reports := rfl

/-- The first error of an access has left the block as a report of class C0 (R68). -/
theorem reported_errAcc {t : State} {e : Dev} {c : Nat} (ht : t.dev.reports = (e.errAcc slot c off bank).reports) (he : e.reports = s.dev.reports)
    (h : e.get F.COM_ERR_VALID slot = 0) : Reported s t slot 0 (0x0100 + c) := by
  obtain ⟨w, hw⟩ := Dev.errAcc_reports (k := c) (off := off) (bank := bank) h
  rw [Reported, ht, hw, he, List.drop_left]
  exact ⟨_, List.mem_singleton.mpr rfl, rfl, rfl, rfl⟩

/-! ### The cases of REGISTER_WRITE -/

theorem registerWrite_ringNep (hu : x.ufs = false) (hs : x.slot.toNat = 0x12) (ht : Taken s 0x12 a) (ho : x.off.toNat = 0x810) (hl : x.len.toNat = 4)
    (hp : s.dev.get F.COM_APPLY_PEND 0x12 = 0) : Answers (.registerWrite a x) s (fun t => t.dev.get F.GNTK_RING_CFG_NEP 0 = x.data.toNat % 256 ∧
      t.dev.get F.GNTK_RING_CFG_NEP.act 0 = s.dev.get F.GNTK_RING_CFG_NEP.act 0 ∧ t.dev.resp = 1) := by
  have hr : regAt x.slot.toNat x.off.toNat = some (oneField 0x810 false F.GNTK_RING_CFG_NEP false) := by rw [hs, ho]; rfl
  obtain ⟨t, he, hresp, hget⟩ := exec_registerWrite_plain hu (by rw [hs]; decide) (by rwa [hs]) hl (by omega) (by omega) hr rfl rfl (by rw [hs]; exact plain_ringNep)
    (fun _ => by rwa [hs])
  refine ⟨t, he, ?_, ?_, hresp⟩
  · have hk : ((s.dev.counted x.slot.toNat a.bank.val).writeAt x.slot.toNat x.off.toNat a.bank.val (oneField 0x810 false F.GNTK_RING_CFG_NEP false)
        (x.data.toNat % 2 ^ 32)).k = 0 := by rw [hs, ho]; rfl
    rw [hget, hk, Dev.get_set_same]
    change x.data.toNat % 2 ^ 32 / 2 ^ 0 % 2 ^ 8 % 2 ^ 8 = _
    omega
  · rw [hget, Dev.get_set_kid _ _ _ _ (by decide), Dev.counted_get_ne _ _ _ _ (by decide) (by decide)]

theorem registerWrite_irqEn (i : Nat) (hu : x.ufs = false) (hs : slots.contains x.slot.toNat = true) (ht : Taken s x.slot.toNat a) (hc : x.slot.toNat ≠ 0x0B)
    (ho : x.off.toNat = 0x18) (hl : x.len.toNat = 4) : Answers (.registerWrite a x) s (fun t => t.dev.get F.COM_IRQ_EN_V x.slot.toNat = x.data.toNat % 2 ^ 32 ∧
      t.dev.resp = 1 ∧ (i ≠ x.slot.toNat → t.dev.get F.COM_IRQ_EN_V i = s.dev.get F.COM_IRQ_EN_V i)) := by
  have hr : regAt x.slot.toNat x.off.toNat = some (oneField 0x18 false F.COM_IRQ_EN_V false) := by rw [ho]; rfl
  obtain ⟨t, he, hresp, hget⟩ := exec_registerWrite_plain hu hs ht hl (by omega) (by omega) hr rfl rfl (plain_irqEn hc)
    (fun hk => absurd hk (by decide))
  have hk := writeAt_index_common (slot := x.slot.toNat) (bank := a.bank.val) (f := F.COM_IRQ_EN_V) (v := x.data.toNat % 2 ^ 32)
    (s.dev.counted x.slot.toNat a.bank.val) (off := 0x18) (by decide) (by decide)
  refine ⟨t, he, ?_, hresp, fun hi => ?_⟩
  · rw [hget, ho, hk, Dev.get_set_same]
    change x.data.toNat % 2 ^ 32 / 2 ^ 0 % 2 ^ 32 % 2 ^ 32 = _
    omega
  · rw [hget, ho, hk, Dev.get_set_ix _ _ hi, Dev.counted_get_ne _ _ _ _ (by decide) (by decide)]

theorem registerWrite_irqStat (hu : x.ufs = false) (hs : slots.contains x.slot.toNat = true) (ht : Taken s x.slot.toNat a) (hc : x.slot.toNat ≠ 0x0B)
    (ho : x.off.toNat = 0x14) (hl : x.len.toNat = 4) (hb : s.dev.get F.COM_IRQ_STAT_V x.slot.toNat < 2 ^ 32) : Answers (.registerWrite a x) s (fun t =>
      t.dev.get F.COM_IRQ_STAT_V x.slot.toNat = s.dev.get F.COM_IRQ_STAT_V x.slot.toNat &&& (x.data.toNat % 2 ^ 32 ^^^ (2 ^ 32 - 1)) ∧ t.dev.resp = 1) := by
  have hr : regAt x.slot.toNat x.off.toNat = some (oneField 0x14 false F.COM_IRQ_STAT_V false) := by rw [ho]; rfl
  have hsoft : (s.dev.counted x.slot.toNat a.bank.val).var V.softRst x.slot.toNat = 0 := by rw [Dev.counted_var]; exact ht.2.1
  have hold : (s.dev.counted x.slot.toNat a.bank.val).get F.COM_IRQ_STAT_V x.slot.toNat = s.dev.get F.COM_IRQ_STAT_V x.slot.toNat :=
    Dev.counted_get_ne _ _ _ _ (by decide) (by decide)
  have hv : fieldOf F.COM_IRQ_STAT_V (x.data.toNat % 2 ^ 32) = x.data.toNat % 2 ^ 32 := by
    change x.data.toNat % 2 ^ 32 / 2 ^ 0 % 2 ^ 32 = _
    omega
  refine ⟨_, exec_registerWrite_reg hu hs ht hl (by omega) (by omega) hr rfl rfl, ?_, Dev.good_resp _⟩
  rw [Dev.good_get, Dev.asBank_get, ho]
  refine (congrArg (fun e => e.get F.COM_IRQ_STAT_V x.slot.toNat)
    (Dev.regPut_irqStat (d := s.dev.counted x.slot.toNat a.bank.val) (bank := a.bank.val) (v := x.data.toNat % 2 ^ 32) hsoft hc)).trans ?_
  rw [Dev.get_set_same, hold, hv]
  exact Nat.mod_eq_of_lt (lt_of_le_of_lt Nat.and_le_left hb)

theorem registerWrite_runLocked (hu : x.ufs = false) (hs : x.slot.toNat = 0x2B) (ht : Taken s 0x2B a) (ho : x.off.toNat = 0x804) (hl : x.len.toNat = 4)
    (hrun : s.dev.running 0x2B = true) (hne : s.dev.get F.RIDE_CYC_RCYC 0 ≠ x.data.toNat % 2 ^ 14) : Answers (.registerWrite a x) s (fun t =>
      t.dev.get F.RIDE_CYC_RCYC 0 = s.dev.get F.RIDE_CYC_RCYC 0 ∧ t.dev.resp = 1 ∧ t.dev.get F.COM_ERR_VALID 0x2B = 1 ∧
      (s.dev.get F.COM_ERR_VALID 0x2B = 0 → t.dev.get F.COM_ERR_LOCKWR 0x2B = 1 ∧ Reported s t 0x2B 0 0x0100)) := by
  have hr : regAt x.slot.toNat x.off.toNat = some (oneField 0x804 false F.RIDE_CYC_RCYC false) := by rw [hs, ho]; rfl
  have hon : (s.dev.counted 0x2B a.bank.val).on F.COM_STAT_RUN 0x2B = true := by
    rw [Dev.on, Dev.counted_get_ne _ _ _ _ (by decide) (by decide)]
    exact (Bool.and_eq_true_iff.mp hrun).1
  have hdiff : (s.dev.counted 0x2B a.bank.val).get F.RIDE_CYC_RCYC ((s.dev.counted 0x2B a.bank.val).writeAt 0x2B 0x804 a.bank.val
      (oneField 0x804 false F.RIDE_CYC_RCYC false) (x.data.toNat % 2 ^ 32)).k ≠ fieldOf F.RIDE_CYC_RCYC (x.data.toNat % 2 ^ 32) := by
    rw [Dev.counted_get _ _ _ _ (by decide)]
    change s.dev.get F.RIDE_CYC_RCYC 0 ≠ x.data.toNat % 2 ^ 32 / 2 ^ 0 % 2 ^ 14
    omega
  have hput : (s.dev.counted 0x2B a.bank.val).regPut 0x2B a.bank.val 0x804 (oneField 0x804 false F.RIDE_CYC_RCYC false) (x.data.toNat % 2 ^ 32) (fun _ => true) =
      (s.dev.counted 0x2B a.bank.val).errAcc 0x2B 0 0x804 a.bank.val :=
    Dev.regPut_runLocked rfl rfl (by simp [Dev.afterWrite, oneField]) rfl hon (by simp +decide [reservedAt]) hdiff
  have he := exec_registerWrite_reg hu (by rw [hs]; decide) (by rwa [hs]) hl (by omega) (by omega) hr rfl rfl
  rw [hs, ho, Dev.asBank_congr (k' := fun e => e.errAcc 0x2B 0 0x804 a.bank.val) _ _ hput] at he
  refine ⟨_, he, ?_, Dev.good_resp _, ?_, fun h0 => ?_⟩
  · rw [Dev.good_get, Dev.asBank_get]
    exact Dev.get_of_view (κ := { flds := [] }) (by simp) (by unfold Scope.Keeps; decide) 0
  · rw [Dev.good_get, Dev.asBank_get, Dev.errAcc_valid]
  · have h1 : (s.dev.counted 0x2B a.bank.val).get F.COM_ERR_VALID 0x2B = 0 := by rwa [Dev.counted_valid]
    refine ⟨?_, reported_errAcc (c := 0) (off := 0x804) (bank := a.bank.val) (Dev.asBank_reports ..) (Dev.counted_reports ..) h1⟩
    rw [Dev.good_get, Dev.asBank_get]
    exact Dev.errAcc_cause h1 0

/-- The words of a pair that lies whole in an access commit at once (R61). -/
theorem Dev.wordsWrite_pair {lo hi : Nat} (hr : regAt slot off = some r) (hc : r.reg.chan = false) (hp : r.reg.pair = true) (hh : r.high = false) :
    d.wordsWrite slot bank off [lo, hi] = d.regPut slot bank off r (lo + hi * 2 ^ 32) (fun _ => true) := by
  simp [Dev.wordsWrite, hr, hc, hp, hh]

theorem registerWrite_ddtp (hu : x.ufs = false) (hs : x.slot.toNat = 0x09) (ht : Taken s 0x09 a) (ho : x.off.toNat = 0x1010) (hl : x.len.toNat = 8) :
    Answers (.registerWrite a x) s (fun t => t.dev.get F.IOMU_DDTP_V 0 = x.data.toNat % 2 ^ 64 ∧ t.dev.resp = 1) := by
  have hwords : accWords 8 x.data.toNat = [x.data.toNat % 2 ^ 32, x.data.toNat / 2 ^ 32 % 2 ^ 32] := by simp [accWords, List.range_succ]
  have hr : regAt 0x09 0x1010 = some (oneField 0x1010 true F.IOMU_DDTP_V false) := rfl
  have hsoft : (s.dev.counted 0x09 a.bank.val).var V.softRst 0x09 = 0 := by rw [Dev.counted_var]; exact ht.2.1
  have hput := Dev.regPut_plain (off := 0x1010) (bank := a.bank.val) (v := x.data.toNat % 2 ^ 32 + x.data.toNat / 2 ^ 32 % 2 ^ 32 * 2 ^ 32) (part := fun _ => true)
    plain_ddtp rfl hsoft (fun hk => absurd hk (by decide))
  have he := exec_registerWrite (s := s) (a := a) hu (by omega)
  rw [hs, ho, hl, hwords, Dev.confWrite_accepted (by decide) (by decide) (accCause_of_taken ht _) ht.2.2 (by decide)] at he
  refine ⟨_, he, ?_, Dev.good_resp _⟩
  rw [Dev.good_get, Dev.asBank_get, Dev.wordsWrite_pair hr rfl rfl rfl]
  refine (congrArg (fun e => e.get F.IOMU_DDTP_V 0) hput).trans ((Dev.get_set_same ..).trans ?_)
  change (x.data.toNat % 2 ^ 32 + x.data.toNat / 2 ^ 32 % 2 ^ 32 * 2 ^ 32) / 2 ^ 0 % 2 ^ 64 % 2 ^ 64 = _
  omega

/-- A size that R47 does not allow is refused before anything else of the access. -/
theorem exec_registerWrite_size (hu : x.ufs = false) (hs : slots.contains x.slot.toNat = true) (hz : sizeOk x.off.toNat x.len.toNat = false) :
    exec (.registerWrite a x) s = .next { s with dev := s.dev.refused x.slot.toNat 6 x.off.toNat a.bank.val } := by
  have hc : ¬ (x.slot.toNat = 0x30 ∧ x.off.toNat = 0x808 ∧ x.len.toNat = 4) := by
    rintro ⟨-, hoff, hlen⟩
    rw [hoff, hlen] at hz
    exact absurd hz (by decide)
  rw [exec_registerWrite hu hc, Dev.confWrite, hs, hz]
  rfl

theorem registerWrite_badSize (i : Nat) (hu : x.ufs = false) (hs : slots.contains x.slot.toNat = true) (hz : sizeOk x.off.toNat x.len.toNat = false) :
    Answers (.registerWrite a x) s (fun t => t.dev.resp = 2 ∧ t.dev.get F.COM_ERR_VALID x.slot.toNat = 1 ∧
      (s.dev.get F.COM_ERR_VALID x.slot.toNat = 0 → t.dev.get F.COM_ERR_SIZE x.slot.toNat = 1) ∧
      ∀ f ∈ [F.PWR_ALARM_ALARM, F.GNTK_EPOCH_CFG_EPER, F.IOMU_DDTP_V, F.COM_IRQ_EN_V], t.dev.get f i = s.dev.get f i) := by
  refine ⟨_, exec_registerWrite_size hu hs hz, rfl, ?_, fun h0 => ?_, fun f hf => ?_⟩
  · rw [Dev.refused_get, Dev.errAcc_valid]
  · have h1 : (s.dev.cone x.slot.toNat 3).get F.COM_ERR_VALID x.slot.toNat = 0 := by rwa [Dev.cone_valid]
    rw [Dev.refused_get]
    exact Dev.errAcc_cause h1 6
  · have hkeep : ∀ f ∈ [F.PWR_ALARM_ALARM, F.GNTK_EPOCH_CFG_EPER, F.IOMU_DDTP_V, F.COM_IRQ_EN_V], Scope.Keeps { flds := [] } f := by
      unfold Scope.Keeps; decide
    exact Dev.get_of_view (Dev.view_refused ..) (hkeep f hf) i

/-! ### Accesses to a slot that R48 does not assign -/

theorem configAccessUnmapped_slot {n : BitVec 6} {o : BitVec 16} {w : Bool} (hs : slots.contains n.toNat = false) :
    Answers (.configAccessUnmapped a n o w) s (fun t => t.dev.resp = 2 ∧ t.dev.get F.COM_ERR_VALID 0 = 1 ∧ (s.dev.get F.COM_ERR_VALID 0 = 0 →
      t.dev.get F.COM_ERR_UNMAP 0 = 1 ∧ t.dev.get F.COM_ERR_WOFF 0 = o.toNat / 4 ∧ t.dev.get F.COM_ERR_BANK 0 = a.bank.val ∧ Reported s t 0 0 0x0105)) := by
  have hd : s.dev.unmapped a n.toNat o.toNat w = (s.dev.errAcc 0 5 o.toNat a.bank.val).fail := by
    rw [Dev.unmapped, hs]; rfl
  refine ⟨{ s with dev := (s.dev.errAcc 0 5 o.toNat a.bank.val).fail }, hd ▸ .refl (execConfigAccessUnmapped a n o w s), rfl, ?_, fun h0 => ⟨?_, ?_, ?_, ?_⟩⟩
  · rw [Dev.fail_get, Dev.errAcc_valid]
  · rw [Dev.fail_get]
    exact Dev.errAcc_cause h0 5
  · rw [Dev.fail_get, Dev.errAcc_woff h0]
    exact Nat.mod_eq_of_lt (show o.toNat / 4 < 2 ^ 14 by omega)
  · rw [Dev.fail_get, Dev.errAcc_bank h0]
    exact Nat.mod_eq_of_lt a.bank.isLt
  · exact reported_errAcc (c := 5) (off := o.toNat) (bank := a.bank.val) rfl rfl h0

theorem chselWrite_own (i : Nat) {n : BitVec 6} {ch : BitVec 16} (hs : slots.contains n.toNat = true) (ht : Taken s n.toNat a) :
    Answers (.chselWrite a n ch) s (fun t => t.dev.get F.COM_CHSEL_CH (n.toNat * 16 + a.bank.val) = ch.toNat ∧
      (i ≠ n.toNat * 16 + a.bank.val → t.dev.get F.COM_CHSEL_CH i = s.dev.get F.COM_CHSEL_CH i)) := by
  refine ⟨_, exec_chselWrite hs ht, ?_, fun hi => ?_⟩
  · rw [Dev.good_get, Dev.asBank_get, Dev.get_set_same]
    exact Nat.mod_eq_of_lt ch.isLt
  · rw [Dev.good_get, Dev.asBank_get, Dev.get_set_ix _ _ hi, Dev.acc_get, Dev.cone_get_ne _ _ _ _ _ (by decide) (by decide)]

end Sys2Proof.Machine
end

section
/-! ### Pairs (R61) -/

namespace Sys2Proof.Machine

variable {s : State} {d : Dev} {slot off bank v : Nat} {a : Acc} {r : RegAt} {high : Bool}

theorem regAt_of_pairHalf (h : pairHalf slot off high = true) : ∃ r, regAt slot off = some r ∧ r.reg.pair = true ∧ r.high = high := by
  rw [pairHalf] at h
  split at h
  case h_1 r hr =>
    rw [Bool.and_eq_true, beq_iff_eq] at h
    exact ⟨r, hr, h⟩
  case h_2 => cases h

/-- The device that a read shows: the access is counted, and a register of the channel window counts once more (R599). -/
def Dev.readCounted (d : Dev) (slot : Nat) (chan : Bool) : Dev := if chan then (d.cone slot 1).cone slot 7 else d.cone slot 1

@[simp] theorem Dev.readCounted_var (d : Dev) (slot : Nat) (chan : Bool) (y : Vr) (j : Nat) : (d.readCounted slot chan).var y j = d.var y j := by
  cases chan <;> simp [Dev.readCounted]

theorem Dev.readCounted_chsel (d : Dev) (slot : Nat) (chan : Bool) (j : Nat) :
    (d.readCounted slot chan).get F.COM_CHSEL_CH j = d.get F.COM_CHSEL_CH j := by
  have hsel : ∀ (e : Dev) ev, (e.cone slot ev).get F.COM_CHSEL_CH j = e.get F.COM_CHSEL_CH j := fun e ev => e.cone_get_ne _ _ _ _ (by decide) (by decide)
  cases chan <;> simp [Dev.readCounted, hsel]

theorem Dev.readCounted_index (d : Dev) (chan : Bool) (ch : Nat) : fieldIndex (d.readCounted slot chan) slot off bank ch r = fieldIndex d slot off bank ch r := by
  cases chan <;> simp [Dev.readCounted, Dev.cone_fieldIndex]

theorem Dev.readCounted_value (d : Dev) (chan : Bool) (k : Nat) (hs : slot ∈ slots) (hr : r.reg ∈ regsOf slot) :
    (d.readCounted slot chan).regValue slot r k = d.regValue slot r k := by
  cases chan <;> simp [Dev.readCounted, Dev.cone_regValue _ _ _ _ hs hr]

/-- An accepted read of one half of a pair takes the pair's value as it stood before the access was counted. -/
theorem Dev.pairRead_accepted (k : Nat → Dev → Dev) (hs : slots.contains slot = true) (ho : 0x100 ≤ off) (hr : regAt slot off = some r)
    (hp : r.reg.pair = true) (hh : r.high = high) (ha : d.readCause slot off a = none)
    (hc : r.reg.chan = true → d.get F.COM_CHSEL_CH (slot * 16 + a.bank.val) < chCnt slot) : d.pairRead a slot off high k =
      (k (d.regValue slot r (fieldIndex d slot off a.bank.val (d.get F.COM_CHSEL_CH (slot * 16 + a.bank.val)) r)) (d.readCounted slot r.reg.chan)).good := by
  have hsel := d.readCounted_chsel slot r.reg.chan (slot * 16 + a.bank.val)
  have hval := d.readCounted_value r.reg.chan (fieldIndex d slot off a.bank.val (d.get F.COM_CHSEL_CH (slot * 16 + a.bank.val)) r) (by simpa using hs)
    (regAt_mem hr ho)
  have hno : ¬ (r.reg.chan && decide (chCnt slot ≤ d.get F.COM_CHSEL_CH (slot * 16 + a.bank.val))) = true := by
    rw [Bool.and_eq_true, decide_eq_true_eq, not_and, Nat.not_le]
    exact hc
  unfold Dev.pairRead
  rw [hs, hr, Bool.not_true, if_neg Bool.false_ne_true]
  dsimp only
  rw [hp, hh, bne_self_eq_false, Bool.not_true, Bool.false_or, if_neg Bool.false_ne_true, ha]
  dsimp only
  rw [← Dev.readCounted, hsel, if_neg hno, Dev.readCounted_index, hval]

section
variable {n : BitVec 6} {o : BitVec 16}
variable (hs : slots.contains n.toNat = true) (ho : 0x100 ≤ o.toNat) (ha : s.dev.readCause n.toNat o.toNat a = none)
  (hc : ∀ r ∈ (regAt n.toNat o.toNat).toList, r.reg.chan = true → s.dev.get F.COM_CHSEL_CH (n.toNat * 16 + a.bank.val) < chCnt n.toNat)
include hs ho ha hc

theorem pairLowRead_holds (hp : pairHalf n.toNat o.toNat false = true) : Answers (.pairLowRead a n o) s (fun t =>
    ∀ r ∈ (regAt n.toNat o.toNat).toList, t.dev.rdata = s.dev.regValue n.toNat r
      (fieldIndex s.dev n.toNat o.toNat a.bank.val (t.dev.get F.COM_CHSEL_CH (n.toNat * 16 + a.bank.val)) r) % 2 ^ 32 ∧
    t.dev.var V.rdTag (n.toNat * 16 + a.bank.val) = o.toNat + 1 ∧ t.dev.var V.rdHold (n.toNat * 16 + a.bank.val) = (s.dev.regValue n.toNat r
      (fieldIndex s.dev n.toNat o.toNat a.bank.val (t.dev.get F.COM_CHSEL_CH (n.toNat * 16 + a.bank.val)) r) / 2 ^ 32 : Nat)) := by
  obtain ⟨r, hr, hpair, hhigh⟩ := regAt_of_pairHalf hp
  have hread := fun k => Dev.pairRead_accepted k hs ho hr hpair hhigh ha (hc r (by simp [hr]))
  refine ⟨{ s with dev := s.dev.pairLowRead a n.toNat o.toNat }, .refl (execPairLowRead a n o s), fun q hq => ?_⟩
  obtain rfl : q = r := by simpa [hr] using hq
  have hch : (s.dev.pairLowRead a n.toNat o.toNat).get F.COM_CHSEL_CH (n.toNat * 16 + a.bank.val) = s.dev.get F.COM_CHSEL_CH (n.toNat * 16 + a.bank.val) := by
    rw [Dev.pairLowRead, hread, Dev.good_get, Dev.get_setVar, Dev.get_setVar, Dev.rdata_get]
    split <;> simp only [Dev.get_setVar, Dev.readCounted_chsel]
  dsimp only
  rw [hch, Dev.pairLowRead, hread]
  refine ⟨rfl, ?_, ?_⟩
  · rw [Dev.good_var, Dev.var_setVar_id _ _ _ _ (by decide)]
    exact Dev.var_setVar_same ..
  · rw [Dev.good_var]
    exact Dev.var_setVar_same ..

theorem pairHighRead_held (hp : pairHalf n.toNat o.toNat true = true) (htag : s.dev.var V.rdTag (n.toNat * 16 + a.bank.val) = (o.toNat - 4 + 1 : Nat)) :
    Answers (.pairHighRead a n o) s (fun t => t.dev.rdata = (s.dev.var V.rdHold (n.toNat * 16 + a.bank.val)).toNat ∧
      t.dev.var V.rdTag (n.toNat * 16 + a.bank.val) = 0) := by
  obtain ⟨r, hr, hpair, hhigh⟩ := regAt_of_pairHalf hp
  have hread := fun k => Dev.pairRead_accepted k hs ho hr hpair hhigh ha (hc r (by simp [hr]))
  refine ⟨{ s with dev := s.dev.pairHighRead a n.toNat o.toNat }, .refl (execPairHighRead a n o s), ?_⟩
  dsimp only
  rw [Dev.pairHighRead, hread]
  have htake : (s.dev.readCounted n.toNat r.reg.chan).var V.rdTag (holdIx n.toNat a.bank.val) = (o.toNat - 4 + 1 : Nat) :=
    (Dev.readCounted_var ..).trans htag
  dsimp only
  rw [if_pos htake, Dev.readCounted_var]
  refine ⟨rfl, ?_⟩
  rw [Dev.good_var]
  exact Dev.var_setVar_same ..

end

/-- The low half of a pair waits for its high half (R61). -/
theorem Dev.wordWrite_low (hr : regAt slot off = some r) (hp : r.reg.pair = true) (hh : r.high = false) (hs : d.var V.softRst slot = 0)
    (hc : r.reg.chan = true → d.get F.COM_CHSEL_CH (slot * 16 + bank) < chCnt slot) :
    d.wordWrite slot bank off v =
      ((if r.reg.chan then d.cone slot 7 else d).setVar V.wrTag (slot * 16 + bank) (off + 1)).setVar V.wrHold (slot * 16 + bank) v := by
  have hno : ¬ (r.reg.chan && decide (chCnt slot ≤ d.get F.COM_CHSEL_CH (slot * 16 + bank))) = true := by
    rw [Bool.and_eq_true, decide_eq_true_eq, not_and, Nat.not_le]
    exact hc
  have hsoft : (if r.reg.chan then d.cone slot 7 else d).var V.softRst slot = 0 := by split <;> simp [hs]
  simp only [Dev.wordWrite, hr, if_neg hno, hp, hh, hsoft, Bool.not_true, Bool.not_false, Bool.true_and, bne_self_eq_false, Bool.false_eq_true, if_false, if_true,
    holdIx]

/-- The high half commits with the low half that its bank holds (R61). -/
theorem Dev.wordWrite_high_held (hr : regAt slot off = some r) (hc : r.reg.chan = false) (hp : r.reg.pair = true) (hh : r.high = true)
    (ht : d.var V.wrTag (slot * 16 + bank) = ((off - 4 + 1 : Nat) : Int)) :
    d.wordWrite slot bank off v =
      (d.setVar V.wrTag (slot * 16 + bank) 0).regPut slot bank off r ((d.var V.wrHold (slot * 16 + bank)).toNat + v * 2 ^ 32) (fun _ => true) := by
  simp only [Dev.wordWrite, hr, hc, hp, hh, holdIx, ht, Bool.not_true, Bool.false_and, Bool.false_eq_true, if_false, if_true]

/-- Without it the high half commits alone (R61). -/
theorem Dev.wordWrite_high_alone (hr : regAt slot off = some r) (hc : r.reg.chan = false) (hp : r.reg.pair = true) (hh : r.high = true)
    (ht : d.var V.wrTag (slot * 16 + bank) ≠ ((off - 4 + 1 : Nat) : Int)) :
    d.wordWrite slot bank off v = d.regPut slot bank off r
      (d.regValue slot r (fieldIndex d slot off bank (d.get F.COM_CHSEL_CH (slot * 16 + bank)) r) % 2 ^ 32 + v * 2 ^ 32) (fun f => decide (32 < f.lsb + f.width)) := by
  simp only [Dev.wordWrite, hr, hc, hp, hh, holdIx, if_neg ht, Bool.not_true, Bool.false_and, Bool.false_eq_true, if_false]

theorem pairLowWrite_holds (i : Nat) {n : BitVec 6} {o : BitVec 16} {w : BitVec 32} (hs : slots.contains n.toNat = true) (ht : Taken s n.toNat a)
    (hp : pairHalf n.toNat o.toNat false = true)
    (hc : ∀ r ∈ (regAt n.toNat o.toNat).toList, r.reg.chan = true → s.dev.get F.COM_CHSEL_CH (n.toNat * 16 + a.bank.val) < chCnt n.toNat) :
    Answers (.pairLowWrite a n o w) s (fun t => t.dev.var V.wrTag (n.toNat * 16 + a.bank.val) = o.toNat + 1 ∧
      t.dev.var V.wrHold (n.toNat * 16 + a.bank.val) = w.toNat ∧ ∀ r ∈ regsOf n.toNat, ∀ f ∈ r.fields, t.dev.get f i = s.dev.get f i) := by
  obtain ⟨r, hr, hpair, hhigh⟩ := regAt_of_pairHalf hp
  have hsoft : (s.dev.counted n.toNat a.bank.val).var V.softRst n.toNat = 0 := by rw [Dev.counted_var]; exact ht.2.1
  have hlow := Dev.wordWrite_low (d := s.dev.counted n.toNat a.bank.val) (bank := a.bank.val) (v := w.toNat) hr hpair hhigh hsoft fun h => by
    rw [Dev.counted_get_ne _ _ _ _ (by decide) (by decide)]
    exact hc r (by simp [hr]) h
  have he : exec (.pairLowWrite a n o w) s = .next { s with dev := ((s.dev.cone n.toNat 2).asBank a.bank.val
      (fun e => e.wordWrite n.toNat a.bank.val o.toNat w.toNat)).good } := by
    have hx : exec (.pairLowWrite a n o w) s = execPairLowWrite a n o w s := rfl
    rw [hx, execPairLowWrite, State.upd_eq, hs, Bool.not_true, if_neg Bool.false_ne_true, if_pos hp, Dev.wrAny_taken _ _ (accCause_of_taken ht _) ht.2.2]
  rw [Dev.asBank_congr (k' := fun _ => (s.dev.counted n.toNat a.bank.val).wordWrite n.toNat a.bank.val o.toNat w.toNat) _ _ rfl, hlow] at he
  refine ⟨_, he, ?_, ?_, fun q hq f hf => ?_⟩
  · rw [Dev.good_var, Dev.asBank_var, Dev.var_setVar_id _ _ _ _ (by decide), Dev.var_setVar_same]
  · rw [Dev.good_var, Dev.asBank_var, Dev.var_setVar_same]
  · have hown : f.own = true := (regsOf_own n.toNat (by simpa using hs) q hq).2 f hf
    rw [Dev.good_get, Dev.asBank_get, Dev.get_setVar, Dev.get_setVar]
    split
    · rw [Dev.cone_get _ _ _ _ _ _ hown, Dev.counted_get _ _ _ _ hown]
    · exact Dev.counted_get _ _ _ _ hown

/-- What an accepted write of the high half answers. -/
theorem exec_pairHighWrite {n : BitVec 6} {o : BitVec 16} {w : BitVec 32} (hs : slots.contains n.toNat = true) (ht : Taken s n.toNat a)
    (hp : pairHalf n.toNat o.toNat true = true) : exec (.pairHighWrite a n o w) s = .next { s with dev := ((s.dev.cone n.toNat 2).asBank a.bank.val
      (fun _ => (s.dev.counted n.toNat a.bank.val).wordWrite n.toNat a.bank.val o.toNat w.toNat)).good } := by
  have hx : exec (.pairHighWrite a n o w) s = execPairHighWrite a n o w s := rfl
  rw [hx, execPairHighWrite, State.upd_eq, hs, Bool.not_true, if_neg Bool.false_ne_true, if_pos hp, Dev.wrAny_taken _ _ (accCause_of_taken ht _) ht.2.2,
    Dev.asBank_congr (k' := fun _ => (s.dev.counted n.toNat a.bank.val).wordWrite n.toNat a.bank.val o.toNat w.toNat) _ _ rfl]

section
variable {w : BitVec 32} (ht : Taken s 0x01 a)
include ht

/-- The alarm's pair is at 0x820 of PWR. -/
theorem exec_pairHighWrite_alarm : exec (.pairHighWrite a 0x01#6 0x824#16 w) s = .next { s with dev := ((s.dev.cone 0x01 2).asBank a.bank.val
    (fun _ => (s.dev.counted 0x01 a.bank.val).wordWrite 0x01 a.bank.val 0x824 w.toNat)).good } := by
  have hn : (0x01#6).toNat = 0x01 := rfl
  have ho : (0x824#16).toNat = 0x824 := rfl
  have he := exec_pairHighWrite (s := s) (a := a) (n := 0x01#6) (o := 0x824#16) (w := w) (by decide) (by rwa [hn]) (by decide)
  rwa [hn, ho] at he

theorem pairHighWrite_held (htag : s.dev.var V.wrTag (16 + a.bank.val) = 0x821) (h0 : 0 ≤ s.dev.var V.wrHold (16 + a.bank.val))
    (hb : s.dev.var V.wrHold (16 + a.bank.val) < 2 ^ 32) : Answers (.pairHighWrite a 0x01#6 0x824#16 w) s (fun t =>
      t.dev.get F.PWR_ALARM_ALARM 0 = (s.dev.var V.wrHold (16 + a.bank.val)).toNat + w.toNat * 2 ^ 32 ∧ t.dev.var V.wrTag (16 + a.bank.val) = 0) := by
  have hr : regAt 0x01 0x824 = some (oneField 0x820 true F.PWR_ALARM_ALARM true) := rfl
  have hsoft : ((s.dev.counted 0x01 a.bank.val).setVar V.wrTag (16 + a.bank.val) 0).var V.softRst 0x01 = 0 := by
    rw [Dev.var_setVar_id _ _ _ _ (by decide), Dev.counted_var]; exact ht.2.1
  have he := exec_pairHighWrite_alarm (w := w) ht
  rw [Dev.wordWrite_high_held hr rfl rfl rfl ((Dev.counted_var ..).trans htag), Dev.counted_var, Dev.regPut_plain plain_alarm rfl hsoft
    (fun hk => absurd hk (by decide))] at he
  refine ⟨_, he, ?_, ?_⟩
  · rw [Dev.good_get, Dev.asBank_get]
    refine (Dev.get_set_same ..).trans ?_
    change ((s.dev.var V.wrHold (16 + a.bank.val)).toNat + w.toNat * 2 ^ 32) / 2 ^ 0 % 2 ^ 64 % 2 ^ 64 = _
    omega
  · rw [Dev.good_var, Dev.asBank_var, Dev.var_set]
    exact Dev.var_setVar_same ..

theorem pairHighWrite_alone (htag : s.dev.var V.wrTag (16 + a.bank.val) ≠ 0x821) : Answers (.pairHighWrite a 0x01#6 0x824#16 w) s (fun t =>
    t.dev.get F.PWR_ALARM_ALARM 0 = s.dev.get F.PWR_ALARM_ALARM 0 % 2 ^ 32 + w.toNat * 2 ^ 32) := by
  have hr : regAt 0x01 0x824 = some (oneField 0x820 true F.PWR_ALARM_ALARM true) := rfl
  have hsoft : (s.dev.counted 0x01 a.bank.val).var V.softRst 0x01 = 0 := by rw [Dev.counted_var]; exact ht.2.1
  have hval : ∀ ch, (s.dev.counted 0x01 a.bank.val).regValue 0x01 (oneField 0x820 true F.PWR_ALARM_ALARM true)
      (fieldIndex (s.dev.counted 0x01 a.bank.val) 0x01 0x824 a.bank.val ch (oneField 0x820 true F.PWR_ALARM_ALARM true)) = s.dev.get F.PWR_ALARM_ALARM 0 := fun ch => by
    have hix : fieldIndex (s.dev.counted 0x01 a.bank.val) 0x01 0x824 a.bank.val ch (oneField 0x820 true F.PWR_ALARM_ALARM true) = 0 := rfl
    have hget : (s.dev.counted 0x01 a.bank.val).get F.PWR_ALARM_ALARM 0 = s.dev.get F.PWR_ALARM_ALARM 0 := Dev.counted_get _ _ _ _ (by decide)
    have hkind : F.PWR_ALARM_ALARM.kind = .rw := rfl
    have hlsb : F.PWR_ALARM_ALARM.lsb = 0 := rfl
    rw [hix]
    simp [Dev.regValue, oneField, hsoft, hkind, hlsb, hget]
  have he := exec_pairHighWrite_alarm (w := w) ht
  rw [Dev.wordWrite_high_alone hr rfl rfl rfl (fun h => htag ((Dev.counted_var ..).symm.trans h)), hval, Dev.regPut_plain plain_alarm rfl hsoft
    (fun hk => absurd hk (by decide))] at he
  refine ⟨_, he, ?_⟩
  dsimp only
  rw [Dev.good_get, Dev.asBank_get]
  refine (Dev.get_set_same ..).trans ?_
  change (s.dev.get F.PWR_ALARM_ALARM 0 % 2 ^ 32 + w.toNat * 2 ^ 32) / 2 ^ 0 % 2 ^ 64 % 2 ^ 64 = _
  omega

end

/-- Settles O39: the registers named are plain ones but IRQ_STAT and the one that locks, and pairs go through their holding registers. -/
theorem registerWritesAndReads : Obligations.RegisterWritesAndReads := by
  refine ⟨?ringNep, ?irqEn, ?irqStat, ?locked, ?ddtp, ?size, ?slot, ?chsel, ?lowRead, ?highRead, ?lowWrite, ?highHeld, ?highAlone⟩
  case ringNep => exact fun s a x hu hs ht ho hl hp _ => registerWrite_ringNep hu hs ht ho hl hp
  case irqEn => exact fun s a x i hu hs ht hc ho hl => registerWrite_irqEn i hu hs ht hc ho hl
  case irqStat => exact fun s a x hu hs ht hc ho hl hb => registerWrite_irqStat hu hs ht hc ho hl hb
  case locked => exact fun s a x hu hs ht ho hl hrun hne => registerWrite_runLocked hu hs ht ho hl hrun hne
  case ddtp => exact fun s a x hu hs ht ho hl => registerWrite_ddtp hu hs ht ho hl
  case size => exact fun s a x i hu hs hz => registerWrite_badSize i hu hs hz
  case slot => exact fun s a n o w hs => configAccessUnmapped_slot hs
  case chsel => exact fun s a n ch i hs ht => chselWrite_own i hs ht
  case lowRead => exact fun s a n o hs ho hp ha hc => pairLowRead_holds hs ho ha hc hp
  case highRead => exact fun s a n o hs ho hp ha hc htag => pairHighRead_held hs ho ha hc hp htag
  case lowWrite => exact fun s a n o w i hs ht hp hc => pairLowWrite_holds i hs ht hp hc
  case highHeld => exact fun s a w ht htag h0 hb => pairHighWrite_held ht htag h0 hb
  case highAlone => exact fun s a w ht htag => pairHighWrite_alone ht htag

end Sys2Proof.Machine
end

section
/-! ## Accesses that a block takes -/

namespace Sys2Proof.Machine

variable {s : State} {slot off : Nat} {a : Acc}

/-- The device when a taken write access has ended: the access is no longer under way, and it completes normally. -/
def Dev.ended (d : Dev) : Dev := ({ d with acc := 0 } : Dev).good

@[simp] theorem Dev.ended_get (d : Dev) (g : Fld) (j : Nat) : d.ended.get g j = d.get g j := rfl
@[simp] theorem Dev.ended_var (d : Dev) (x : Vr) (j : Nat) : d.ended.var x j = d.var x j := rfl

/-- What a command answers that is one write access which the block takes (R56, R67, R589). -/
theorem upd_wr_taken (ht : Taken s slot a) (off : Nat) (k : Dev → Dev) (act : Dev → Bool) :
    s.upd (fun d => d.wr slot off a k (act d)) = .next { s with dev := (k (s.dev.counted slot a.bank.val)).ended } := by
  rw [State.upd_eq, Dev.wr_taken _ _ (accCause_of_taken ht off) ht.2.2 ht.2.1]
  rfl

end Sys2Proof.Machine
end

section
/-! ## The trigger scheduler (R95 to R100) -/

namespace Sys2Proof.Machine

variable {s : State} {d : Dev} {a : Acc}

/-- An instant that leaves the lead R96 asks for is not late, and arming skips nothing. -/
theorem Dev.trigSkip_ahead {e : Nat} (hmin : d.var V.grove 0 + 2000 * 65536 ≤ (d.get F.TRIG_INST_INST e : Int) * 65536)
    (hlead : d.get F.TRIG_CFG_TGT e = 1 →
      d.var V.grove 0 + (d.get F.TRIG_CFG_LEAD e : Int) * 100000 * 65536 ≤ (d.get F.TRIG_INST_INST e : Int) * 65536) : d.trigSkip e = d := by
  have hlate : d.trigIsLate e = false := by
    simp only [Dev.trigIsLate, Bool.or_eq_false_iff, Bool.and_eq_false_imp, beq_iff_eq, decide_eq_false_iff_not]
    exact ⟨by omega, fun h => by have := hlead h; omega⟩
  rw [Dev.trigSkip, hlate, if_neg Bool.false_ne_true]

theorem trigArm_answers (e : Fin 16) (ht : Taken s 0x07 a) (hen : s.dev.get F.TRIG_CFG_EN e ≠ 1)
    (hmin : s.dev.var V.grove 0 + 2000 * 65536 ≤ (s.dev.get F.TRIG_INST_INST e : Int) * 65536)
    (hlead : s.dev.get F.TRIG_CFG_TGT e = 1 →
      s.dev.var V.grove 0 + (s.dev.get F.TRIG_CFG_LEAD e : Int) * 100000 * 65536 ≤ (s.dev.get F.TRIG_INST_INST e : Int) * 65536) :
    Answers (.trigArm a e) s (fun t => t.dev.get F.TRIG_CFG_EN e = 1 ∧ t.dev.get F.TRIG_STAT_ARMED e = 1 ∧ t.dev.get F.TRIG_STAT_FIRES e = 0 ∧
      t.dev.get F.TRIG_INST_INST e = s.dev.get F.TRIG_INST_INST e) := by
  have hoff : (s.dev.counted 0x07 a.bank.val).on F.TRIG_CFG_EN e = false := by
    simpa +decide [Dev.on, Dev.counted_get] using hen
  have hx : exec (.trigArm a e) s = execTrigArm a e s := rfl
  rw [execTrigArm, upd_wr_taken ht] at hx
  refine ⟨_, hx, ?_⟩
  rw [hoff, if_neg Bool.false_ne_true, Dev.trigSkip_ahead]
  · simp +decide [Dev.get_set, Dev.counted_get]
  · simpa +decide [Dev.get_set, Dev.var_setVar, Dev.counted_get] using hmin
  · simpa +decide [Dev.get_set, Dev.var_setVar, Dev.counted_get] using hlead

theorem trigDisarm_answers (e : Fin 16) (ht : Taken s 0x07 a) : Answers (.trigDisarm a e) s (fun t =>
    t.dev.get F.TRIG_CFG_EN e = 0 ∧ t.dev.get F.TRIG_STAT_ARMED e = 0 ∧ t.dev.var V.pulse e = s.dev.var V.pulse e) := by
  have hx : exec (.trigDisarm a e) s = execTrigDisarm a e s := rfl
  rw [execTrigDisarm, upd_wr_taken ht] at hx
  refine ⟨_, hx, ?_⟩
  simp +decide [Dev.get_set]

/-- The entry records its instant, counts the firing, and drives its target (R95, R98 to R101). -/
def Dev.trigDriven (d : Dev) (e : Nat) : Dev :=
  let fired := (d.set F.TRIG_LAST_LAST e (d.get F.TRIG_INST_INST e)).incWrap F.TRIG_STAT_FIRES e
  let told := fired.when (fired.on F.TRIG_CFG_IRQ e && decide (e < 14)) (fun a => a.irq 0x07 (16 + e))
  if d.get F.TRIG_CFG_TGT e = 0 ∧ told.get F.TRIG_CFG_IDX e < 4 then told.trigPulse e
  else if d.get F.TRIG_CFG_TGT e = 2 then told.trigStrobe e else told

/-- COUNT goes down where it limits the firings, and INST advances by PERIOD (R95). -/
def Dev.trigAdvanced (d : Dev) (e : Nat) : Dev :=
  let counted := d.when (d.get F.TRIG_COUNT_COUNT e != 0) (fun a => a.set F.TRIG_COUNT_COUNT e (d.get F.TRIG_COUNT_COUNT e - 1))
  counted.set F.TRIG_INST_INST e (counted.get F.TRIG_INST_INST e + counted.get F.TRIG_PERIOD_PERIOD e)

/-- At its instant an enabled entry fires, advances, and ends where the firing was its last. -/
theorem Dev.trigFire_due {e : Nat} (hen : d.get F.TRIG_CFG_EN e = 1) (hdue : (d.get F.TRIG_INST_INST e : Int) * 65536 ≤ d.var V.grove 0) :
    d.trigFire e = if (d.trigDriven e).get F.TRIG_COUNT_COUNT e = 1 ∨ ((d.trigDriven e).trigAdvanced e).get F.TRIG_PERIOD_PERIOD e = 0 then
      (((d.trigDriven e).trigAdvanced e).set F.TRIG_CFG_EN e 0).set F.TRIG_STAT_ARMED e 0 else (d.trigDriven e).trigAdvanced e := by
  have hdo : (d.on F.TRIG_CFG_EN e && decide ((d.get F.TRIG_INST_INST e : Int) * 65536 ≤ d.var V.grove 0)) = true := by
    simp [Dev.on, hen, hdue]
  rw [Dev.trigFire, hdo, if_pos rfl]
  rfl

/-- Pulses, strobes and interrupts are no registers of the scheduler. -/
theorem Dev.trigDriven_get (d : Dev) (e : Nat) {g : Fld} (hg : Scope.Keeps { flds := [] } g) :
    (d.trigDriven e).get g e = ((d.set F.TRIG_LAST_LAST e (d.get F.TRIG_INST_INST e)).incWrap F.TRIG_STAT_FIRES e).get g e := by
  refine Dev.get_of_view (κ := { flds := [] }) ?_ hg e
  simp [Dev.trigDriven]

theorem Dev.trigAdvanced_get (d : Dev) (e : Nat) {g : Fld} (hc : g.kid ≠ F.TRIG_COUNT_COUNT.kid) (hi : g.kid ≠ F.TRIG_INST_INST.kid) :
    (d.trigAdvanced e).get g e = d.get g e := by
  unfold Dev.trigAdvanced Dev.when
  dsimp only
  rw [Dev.get_set_kid _ _ _ _ hi]
  split
  · exact Dev.get_set_kid _ _ _ _ hc
  · rfl

theorem Dev.trigAdvanced_inst (d : Dev) (e : Nat) :
    (d.trigAdvanced e).get F.TRIG_INST_INST e = (d.get F.TRIG_INST_INST e + d.get F.TRIG_PERIOD_PERIOD e) % 2 ^ 64 := by
  unfold Dev.trigAdvanced Dev.when
  dsimp only
  rw [Dev.get_set_same]
  split
  · rw [Dev.get_set_kid _ _ _ _ (by decide), Dev.get_set_kid _ _ _ _ (by decide)]; rfl
  · rfl

theorem trigFire_answers (e : Fin 16) (hen : s.dev.get F.TRIG_CFG_EN e = 1)
    (hdue : (s.dev.get F.TRIG_INST_INST e : Int) * 65536 ≤ s.dev.var V.grove 0) : Answers (.trigFire e) s (fun t =>
      t.dev.get F.TRIG_LAST_LAST e = s.dev.get F.TRIG_INST_INST e % 2 ^ 64 ∧
      t.dev.get F.TRIG_STAT_FIRES e = (s.dev.get F.TRIG_STAT_FIRES e + 1) % 2 ^ F.TRIG_STAT_FIRES.width ∧
      t.dev.get F.TRIG_INST_INST e = (s.dev.get F.TRIG_INST_INST e + s.dev.get F.TRIG_PERIOD_PERIOD e) % 2 ^ 64 ∧
      (s.dev.get F.TRIG_COUNT_COUNT e = 1 ∨ s.dev.get F.TRIG_PERIOD_PERIOD e = 0 →
        t.dev.get F.TRIG_CFG_EN e = 0 ∧ t.dev.get F.TRIG_STAT_ARMED e = 0)) := by
  refine ⟨{ s with dev := s.dev.trigFire e }, rfl, ?_⟩
  have hlast := s.dev.trigDriven_get e (g := F.TRIG_LAST_LAST) (by unfold Scope.Keeps; decide)
  have hfires := s.dev.trigDriven_get e (g := F.TRIG_STAT_FIRES) (by unfold Scope.Keeps; decide)
  have hinst := s.dev.trigDriven_get e (g := F.TRIG_INST_INST) (by unfold Scope.Keeps; decide)
  have hperiod := s.dev.trigDriven_get e (g := F.TRIG_PERIOD_PERIOD) (by unfold Scope.Keeps; decide)
  have hcount := s.dev.trigDriven_get e (g := F.TRIG_COUNT_COUNT) (by unfold Scope.Keeps; decide)
  simp +decide only [Dev.incWrap, Dev.get_set, true_and, if_true, if_false, show F.TRIG_LAST_LAST.width = 64 from rfl] at hlast hfires hinst hperiod hcount
  have hinst' := (s.dev.trigDriven e).trigAdvanced_inst e
  have hkeep : ∀ g : Fld, g.kid ≠ F.TRIG_COUNT_COUNT.kid → g.kid ≠ F.TRIG_INST_INST.kid →
      ((s.dev.trigDriven e).trigAdvanced e).get g e = (s.dev.trigDriven e).get g e := fun _ hc hi => Dev.trigAdvanced_get _ _ hc hi
  rw [hinst, hperiod] at hinst'
  dsimp only
  rw [Dev.trigFire_due hen hdue, hcount, hkeep F.TRIG_PERIOD_PERIOD (by decide) (by decide), hperiod]
  split
  case isTrue => simp +decide [Dev.get_set, hinst', hkeep, hlast, hfires]
  case isFalse hgoes => simp +decide [hgoes, hinst', hkeep, hlast, hfires]

theorem trigPulseEnd_answers (e : Fin 16) (hp : s.dev.var V.pulse e = 1) (hend : s.dev.var V.pulseEnd e ≤ s.dev.var V.uptime 0) :
    Answers (.trigPulseEnd e) s (fun t => t.dev.var V.pulse e = 0) := by
  refine ⟨{ s with dev := s.dev.trigPulseEnd e }, rfl, ?_⟩
  have hdue : ∀ l, ((s.dev.setPast 26 e l).var V.pulse e == 1 &&
      decide ((s.dev.setPast 26 e l).var V.pulseEnd e ≤ (s.dev.setPast 26 e l).var V.uptime 0)) = true := fun l => by
    simpa using ⟨hp, hend⟩
  simp only [Dev.trigPulseEnd, hdue, if_true, Dev.var_setVar_same]

/-- Settles O2: an entry that is ahead of its lead skips nothing, and what a firing drives changes no register of the scheduler. -/
theorem triggerSchedulerFires : Obligations.TriggerSchedulerFires :=
  ⟨fun _ _ e ht hen hmin hlead => trigArm_answers e ht hen hmin hlead, fun _ _ e ht => trigDisarm_answers e ht,
    fun _ e hen hdue => trigFire_answers e hen hdue, fun _ e hp hend => trigPulseEnd_answers e hp hend⟩

end Sys2Proof.Machine
end

section
/-! ## Devices that agree but for a few fields and variables -/

namespace Sys2Proof.Machine

variable {d e a : Dev} {fl : List Fld} {vl : List Vr}

/-- The devices hold the same registers and variables but for those listed; what else they hold is left open. -/
structure Dev.Alike (fl : List Fld) (vl : List Vr) (d e : Dev) : Prop where
  get : ∀ g : Fld, (∀ f ∈ fl, g.kid ≠ f.kid) → ∀ j, d.get g j = e.get g j
  var : ∀ x : Vr, (∀ y ∈ vl, x.id ≠ y.id) → ∀ j, d.var x j = e.var x j

theorem Dev.Alike.refl (d : Dev) : Alike fl vl d d := ⟨fun _ _ _ => rfl, fun _ _ _ => rfl⟩

theorem Dev.Alike.set {f : Fld} (h : Alike fl vl d e) (hf : f ∈ fl) (i v : Nat) : Alike fl vl (d.set f i v) e :=
  ⟨fun g hg j => (d.get_set_kid i j v (hg f hf)).trans (h.get g hg j), h.var⟩

theorem Dev.Alike.setVar {x : Vr} (h : Alike fl vl d e) (hx : x ∈ vl) (i : Nat) (v : Int) : Alike fl vl (d.setVar x i v) e :=
  ⟨h.get, fun y hy j => (d.var_setVar_id i j v (hy x hx)).trans (h.var y hy j)⟩

theorem Dev.Alike.setBlob (h : Alike fl vl d e) (m i : Nat) (l : List Nat) : Alike fl vl (d.setBlob m i l) e := ⟨h.get, h.var⟩

/-- The same write of a field keeps devices alike. -/
theorem Dev.Alike.set_congr (h : Alike fl vl d e) (f : Fld) (i v : Nat) : Alike fl vl (d.set f i v) (e.set f i v) :=
  ⟨fun g hg j => by simp only [Dev.get_set, h.get g hg], h.var⟩

theorem Dev.Alike.setVar_congr (h : Alike fl vl d e) (x : Vr) (i : Nat) (v : Int) : Alike fl vl (d.setVar x i v) (e.setVar x i v) :=
  ⟨h.get, fun y hy j => by simp only [Dev.var_setVar, h.var y hy]⟩

theorem Dev.Alike.incWrap_congr {f : Fld} (h : Alike fl vl d e) (hf : ∀ g ∈ fl, f.kid ≠ g.kid) (i n : Nat) :
    Alike fl vl (d.incWrap f i n) (e.incWrap f i n) := by
  rw [Dev.incWrap, Dev.incWrap, h.get f hf]
  exact h.set_congr ..

end Sys2Proof.Machine
end

section
/-! ## Ports and gate lists (R427, R428, R431) -/

namespace Sys2Proof.Machine

variable {s : State} {d e : Dev} {fl : List Fld} {vl : List Vr} {p tc n : Nat}

theorem Dev.blob_setBlob (d : Dev) (m i k j : Nat) (l : List Nat) : (d.setBlob m i l).blob k j = if k = m ∧ j = i then l else d.blob k j := by
  by_cases h : k = m ∧ j = i <;> simp [Dev.blob, Dev.setBlob, Store.find_put, h]

/-- The fields that tell whether a port is up. -/
def upFlds : List Fld := [F.COM_STAT_RUN, F.ETH_PORT_CFG_EN, F.ETH_PORT_STAT_LINK, F.ETH_PORT_STAT_TAKEN]

theorem Dev.Alike.ethUp (h : Alike fl vl d e) (hf : ∀ g ∈ upFlds, ∀ f ∈ fl, g.kid ≠ f.kid) (hk : ∀ y ∈ vl, V.underKiln.id ≠ y.id) (p : Nat) :
    d.ethUp p = e.ethUp p := by
  simp only [upFlds, List.forall_mem_cons] at hf
  obtain ⟨hrun, hen, hlink, htaken, -⟩ := hf
  unfold Dev.ethUp Dev.running Dev.on
  rw [h.get _ hrun, h.get _ hen, h.get _ hlink, h.get _ htaken, h.var _ hk]

/-- The fields that tell the gates of a port. -/
def gateFlds : List Fld := [F.ETH_PORT_GCL_GEN.act, F.ETH_PORT_GCL_LEN.act, F.ETH_PORT_GCYC_CYCLE.act, F.ETH_PORT_GBASE_BASE.act, F.GCL_INTERVAL.act,
  F.GCL_GATES.act]

theorem Dev.Alike.gateFits (h : Alike fl vl d e) (hf : ∀ g ∈ gateFlds, ∀ f ∈ fl, g.kid ≠ f.kid) (hg : ∀ y ∈ vl, V.gates.id ≠ y.id)
    (ht : ∀ y ∈ vl, V.grove.id ≠ y.id) (p tc n : Nat) : d.gateFits p tc n = e.gateFits p tc n := by
  simp only [gateFlds, List.forall_mem_cons] at hf
  obtain ⟨hgen, hlen, hcyc, hbase, hint, hgates, -⟩ := hf
  unfold Dev.gateFits Dev.gateRun Dev.gateSpans Dev.on Dev.now
  rw [funext (h.get _ hgen), funext (h.get _ hlen), funext (h.get _ hcyc), funext (h.get _ hbase), funext (h.get _ hint), funext (h.get _ hgates),
    h.var _ hg, h.var _ ht]

/-- Frames that leave a port are counted, and nothing else of the registers and variables changes. -/
theorem Dev.alike_ethTx (d : Dev) (p n : Nat) : Alike [F.ETH_PORT_CNT_TXF] [] (d.ethTx p n) d := (Alike.refl d).set (.head _) ..

theorem Dev.alike_gateClass (d : Dev) (p tc used : Nat) : Alike [F.ETH_PORT_CNT_TXF] [] (d.gateClass p tc used).1 d := by
  unfold Dev.gateClass
  extract_lets l l' k
  split
  · exact Alike.refl d
  refine Alike.setBlob ?_ ..
  split
  · exact Alike.refl d
  · exact d.alike_ethTx p k

/-- The frames of another class go on waiting. -/
theorem Dev.gateClass_blob_ne {j : Nat} (d : Dev) (used : Nat) (h : j ≠ 8 * p + tc) : (d.gateClass p tc used).1.blob 9 j = d.blob 9 j := by
  unfold Dev.gateClass
  extract_lets l l' k
  split
  · rfl
  rw [Dev.blob_setBlob, if_neg (fun e => h e.2)]
  split <;> rfl

/-- With no gate list every gate is open, and all that waits in a class leaves (R431). -/
theorem Dev.gateClass_open (d : Dev) (used : Nat) (hopen : d.get F.ETH_PORT_GCL_GEN.act p = 0) :
    (d.gateClass p tc used).1.blob 9 (8 * p + tc) = [] := by
  have hfits : ∀ m, d.gateFits p tc m = true := fun m => by simp [Dev.gateFits, Dev.on, hopen]
  unfold Dev.gateClass
  extract_lets l l' k
  have hk : k = l'.length := by simp [k, hfits]
  split
  · assumption
  · rw [Dev.blob_setBlob, if_pos ⟨rfl, rfl⟩, hk, List.drop_length]

/-- The gates of a port take their present state, and its classes follow one after another. -/
theorem exec_gateListEntry (p : Fin 10) (hrun : s.dev.running 0x2A = true) : exec (.gateListEntry p) s = .next { s with dev :=
    ([7, 6, 5, 4, 3, 2, 1, 0].foldl (fun (a : Dev × Nat) tc => a.1.gateClass p tc a.2) (s.dev.setVar V.gates p (s.dev.gatesNow p : Nat), 0)).1 } := by
  have hx : exec (.gateListEntry p) s = execGateListEntry p s := rfl
  rw [hx, execGateListEntry, State.upd_eq, Dev.gateEntry, if_pos hrun]

theorem Dev.alike_gateClasses (cs : List Nat) (a : Dev × Nat) :
    Alike [F.ETH_PORT_CNT_TXF] [] (cs.foldl (fun (a : Dev × Nat) tc => a.1.gateClass p tc a.2) a).1 a.1 := by
  induction cs generalizing a with
  | nil => exact Alike.refl _
  | cons c cs ih =>
    have hc := a.1.alike_gateClass p c a.2
    exact ⟨fun g hg j => ((ih _).get g hg j).trans (hc.get g hg j), fun x hx j => ((ih _).var x hx j).trans (hc.var x hx j)⟩

/-- Among the classes that follow, the one named empties, and it stays empty. -/
theorem Dev.gateClasses_open (cs : List Nat) (a : Dev × Nat) (hopen : a.1.get F.ETH_PORT_GCL_GEN.act p = 0)
    (htc : tc ∈ cs ∨ a.1.blob 9 (8 * p + tc) = []) :
    (cs.foldl (fun (a : Dev × Nat) tc => a.1.gateClass p tc a.2) a).1.blob 9 (8 * p + tc) = [] := by
  induction cs generalizing a with
  | nil => exact htc.resolve_left (List.not_mem_nil)
  | cons c cs ih =>
    have hc := a.1.alike_gateClass p c a.2
    refine ih _ ((hc.get _ (by decide) p).trans hopen) ?_
    by_cases e : tc = c
    · exact .inr (e ▸ Dev.gateClass_open a.1 a.2 hopen)
    · rw [Dev.gateClass_blob_ne _ _ (by omega)]
      exact htc.imp_left fun h => (List.mem_cons.mp h).resolve_left e

theorem gateListEntry_applies (p : Fin 10) (hrun : s.dev.running 0x2A = true) :
    Answers (.gateListEntry p) s (fun t => t.dev.var V.gates p = ((s.dev.gatesNow p : Nat) : Int)) := by
  have hkeep := (Dev.alike_gateClasses (p := p) [7, 6, 5, 4, 3, 2, 1, 0] (s.dev.setVar V.gates p (s.dev.gatesNow p : Nat), 0)).var V.gates (by decide) p
  rw [Dev.var_setVar_same] at hkeep
  refine ⟨_, exec_gateListEntry p hrun, ?_⟩
  dsimp only
  exact hkeep

theorem gateListEntry_empties (p : Fin 10) (tc : Fin 8) (hup : s.dev.ethUp p = true) (hopen : s.dev.get F.ETH_PORT_GCL_GEN.act p = 0) :
    Answers (.gateListEntry p) s (fun t => t.dev.blob 9 (8 * p + tc) = []) := by
  have hrun : s.dev.running 0x2A = true := by
    simp only [Dev.ethUp, Bool.and_eq_true] at hup
    simp only [hup]
  have htc : tc.val ∈ [7, 6, 5, 4, 3, 2, 1, 0] := (by decide : ∀ c : Fin 8, c.val ∈ [7, 6, 5, 4, 3, 2, 1, 0]) tc
  have hempty := Dev.gateClasses_open (p := p) [7, 6, 5, 4, 3, 2, 1, 0] (s.dev.setVar V.gates p (s.dev.gatesNow p : Nat), 0) hopen (.inl htc)
  refine ⟨_, exec_gateListEntry p hrun, ?_⟩
  dsimp only
  exact hempty

end Sys2Proof.Machine
end

section
/-! ## The switch (R429, R430, R432)

A frame that enters is counted and finds the occupancy of the shared buffer. Neither is read by the stream filters and the forwarding table, so that the frame
fares as the device before it would have had it; and they in turn leave what its egress ports show. -/

namespace Sys2Proof.Machine

variable {d e : Dev} {p da sa vid pcp n : Nat}

/-- The tokens that a meter's bucket holds now: filled at CIR since the last frame, up to CBS (R432). -/
def Dev.mtrTokens (d : Dev) (m : Nat) : Int :=
  let cap : Int := d.get F.MTR_CBS_V m * (1000000000 * 65536)
  if d.var V.mtrTok m < 0 then cap else min cap (d.var V.mtrTok m + d.since V.mtrAt m * (d.get F.MTR_CIR_V m * 125))

theorem Dev.meter_eq (d : Dev) (m n : Nat) : d.meter m n =
    if n * (1000000000 * 65536) ≤ d.mtrTokens m then
      (((d.mark V.mtrAt m).setVar V.mtrTok m (d.mtrTokens m - n * (1000000000 * 65536))).incWrap F.MTR_PASS_V m, true)
    else (((d.mark V.mtrAt m).setVar V.mtrTok m (d.mtrTokens m)).incWrap F.MTR_DROP_V m, false) := rfl

/-! ### What the count of received frames and the occupancy do not change -/

section
variable (h : Dev.Alike [F.ETH_PORT_CNT_RXF] [V.ethBuf] d e)
include h

theorem Dev.Alike.meter (m : Nat) : (d.meter m n).2 = (e.meter m n).2 ∧ Alike [F.ETH_PORT_CNT_RXF] [V.ethBuf] (d.meter m n).1 (e.meter m n).1 := by
  have htok : d.mtrTokens m = e.mtrTokens m := by
    unfold Dev.mtrTokens Dev.since
    rw [h.get F.MTR_CBS_V (by decide), h.get F.MTR_CIR_V (by decide), h.var V.mtrTok (by decide), h.var V.mtrAt (by decide), h.var V.uptime (by decide)]
  have hmark : Alike [F.ETH_PORT_CNT_RXF] [V.ethBuf] (d.mark V.mtrAt m) (e.mark V.mtrAt m) := by
    rw [Dev.mark, Dev.mark, h.var V.uptime (by decide)]
    exact h.setVar_congr ..
  rw [Dev.meter_eq, Dev.meter_eq, htok]
  split
  · exact ⟨rfl, (hmark.setVar_congr ..).incWrap_congr (f := F.MTR_PASS_V) (by decide) ..⟩
  · exact ⟨rfl, (hmark.setVar_congr ..).incWrap_congr (f := F.MTR_DROP_V) (by decide) ..⟩

theorem Dev.Alike.filterOf : d.filterOf p da vid pcp = e.filterOf p da vid pcp := by
  unfold Dev.filterOf Dev.on
  rw [funext (h.get F.SFLT_DA_EN (by decide)), funext (h.get F.SFLT_DA_DA (by decide)), funext (h.get F.SFLT_DA_VID (by decide)),
    funext (h.get F.SFLT_MATCH_PORTS (by decide)), funext (h.get F.SFLT_MATCH_PCPANY (by decide)), funext (h.get F.SFLT_MATCH_PCP (by decide))]

theorem Dev.Alike.streamFilter : (d.streamFilter p da vid pcp n).2 = (e.streamFilter p da vid pcp n).2 ∧
    Alike [F.ETH_PORT_CNT_RXF] [V.ethBuf] (d.streamFilter p da vid pcp n).1 (e.streamFilter p da vid pcp n).1 := by
  unfold Dev.streamFilter Dev.on
  rw [h.filterOf]
  cases e.filterOf p da vid pcp with
  | none => exact ⟨rfl, h⟩
  | some f =>
    dsimp only
    rw [h.get F.SFLT_ACT_GATE (by decide), h.get F.SFLT_MATCH_MAXSDU (by decide), h.get F.SFLT_ACT_MEN (by decide), h.get F.SFLT_ACT_METER (by decide)]
    split
    · exact ⟨rfl, h⟩
    split
    · exact h.meter _
    · exact ⟨rfl, h⟩

theorem Dev.Alike.fdbOf (mac : Nat) : d.fdbOf mac vid = e.fdbOf mac vid := by
  unfold Dev.fdbOf Dev.on
  rw [funext (h.get F.FDB_ENT_VALID (by decide)), funext (h.get F.FDB_ENT_MAC (by decide)), funext (h.get F.FDB_ENT_VID (by decide))]

theorem Dev.Alike.learn : Alike [F.ETH_PORT_CNT_RXF] [V.ethBuf] (d.learn p sa vid) (e.learn p sa vid) := by
  unfold Dev.learn Dev.on
  rw [h.fdbOf, h.get F.ETH_PORT_CFG_LEARN (by decide), funext (h.get F.FDB_ENT_VALID (by decide))]
  split
  · exact h
  cases e.fdbOf sa vid with
  | some i =>
    dsimp only
    rw [h.get F.FDB_ENT_STATIC (by decide)]
    refine Alike.set_congr ?_ ..
    split
    · exact h
    · exact h.set_congr ..
  | none =>
    dsimp only
    split
    · exact h
    · exact ((((((h.set_congr ..).set_congr ..).set_congr ..).set_congr ..).set_congr ..).set_congr ..)

theorem Dev.Alike.egress (hfree : d.free = e.free) : (d.egress p da vid).2 = (e.egress p da vid).2 := by
  unfold Dev.egress
  rw [h.fdbOf, funext (h.ethUp (by decide) (by decide))]
  cases e.fdbOf da vid with
  | some i => dsimp only; rw [h.get F.FDB_PORTS_PORTS (by decide)]
  | none => dsimp only; rw [funext (h.get F.ETH_PORT_CFG_PVID (by decide)), Dev.freeVal, Dev.freeVal, hfree]

end

/-! ### What a frame on its way leaves -/

theorem Dev.streamFilter_apart (d : Dev) :
    (d.streamFilter p da vid pcp n).1.bytes = d.bytes ∧ (d.streamFilter p da vid pcp n).1.free = d.free := by
  unfold Dev.streamFilter
  split
  · exact ⟨rfl, rfl⟩
  split
  · exact ⟨rfl, rfl⟩
  split
  · rw [Dev.meter_eq]
    split <;> exact ⟨rfl, rfl⟩
  · exact ⟨rfl, rfl⟩

theorem Dev.learn_apart (d : Dev) : (d.learn p sa vid).bytes = d.bytes ∧ (d.learn p sa vid).free = d.free := by
  unfold Dev.learn
  repeat' split
  all_goals exact ⟨rfl, rfl⟩

theorem Dev.egress_bytes (d : Dev) : (d.egress p da vid).1.bytes = d.bytes := by
  unfold Dev.egress
  dsimp only
  split <;> rfl

/-- What the switch writes as a frame passes its filters and its table: the meters and the forwarding entries. -/
def switchFlds : List Fld := [F.MTR_PASS_V, F.MTR_DROP_V, F.FDB_ENT_MAC, F.FDB_ENT_VID, F.FDB_ENT_STATIC, F.FDB_ENT_VALID, F.FDB_PORTS_PORTS, F.FDB_AGE_AGE]

def switchVars : List Vr := [V.mtrTok, V.mtrAt]

section
variable (h : Dev.Alike switchFlds switchVars d e)
include h

theorem Dev.Alike.filtered : Alike switchFlds switchVars (d.streamFilter p da vid pcp n).1 e := by
  unfold Dev.streamFilter
  split
  · exact h
  split
  · exact h
  split
  · rw [Dev.meter_eq]
    split
    · exact ((h.setVar (by simp [switchVars]) ..).setVar (by simp [switchVars]) ..).set (by simp [switchFlds]) ..
    · exact ((h.setVar (by simp [switchVars]) ..).setVar (by simp [switchVars]) ..).set (by simp [switchFlds]) ..
  · exact h

theorem Dev.Alike.learned : Alike switchFlds switchVars (d.learn p sa vid) e := by
  have hw : ∀ f ∈ switchFlds, ∀ {a : Dev}, Alike switchFlds switchVars a e → ∀ i v, Alike switchFlds switchVars (a.set f i v) e :=
    fun f hf a ha => ha.set hf
  simp only [switchFlds, List.forall_mem_cons] at hw
  obtain ⟨-, -, hmac, hvid, hstatic, hvalid, hports, hage, -⟩ := hw
  unfold Dev.learn
  split
  · exact h
  split
  · refine hage ?_ ..
    split
    · exact h
    · exact hports h ..
  split
  · exact h
  · exact hage (hports (hvalid (hstatic (hvid (hmac h ..) ..) ..) ..) ..) ..

/-- The frame has passed the stream filter, its source address is learned, and its egress ports are known. -/
theorem Dev.Alike.routed : Alike switchFlds switchVars (d.egress p da vid).1 e := by
  unfold Dev.egress
  dsimp only
  split
  · exact h
  · exact ⟨h.get, h.var⟩

end

end Sys2Proof.Machine
end

section
/-! ## Frames that leave by their egress ports (R429, R431) -/

namespace Sys2Proof.Machine

variable {s : State} {d e : Dev} {x : EthIn} {q tc n : Nat}

/-- What a port shows of the frames of a class: how many frames it has sent, those that wait, and whether one of `n` bytes may pass the gate. -/
def Dev.atPort (q tc n : Nat) (d : Dev) : Nat × List Nat × Bool := (d.get F.ETH_PORT_CNT_TXF q, d.blob 9 (8 * q + tc), d.gateFits q tc n)

theorem Dev.of_atPort (h : d.atPort q tc n = e.atPort q tc n) : d.get F.ETH_PORT_CNT_TXF q = e.get F.ETH_PORT_CNT_TXF q ∧
    d.blob 9 (8 * q + tc) = e.blob 9 (8 * q + tc) ∧ d.mayStart q tc n = e.mayStart q tc n := by
  simp only [Dev.atPort, Prod.mk.injEq] at h
  obtain ⟨htxf, hblob, hfits⟩ := h
  exact ⟨htxf, hblob, by rw [Dev.mayStart, Dev.mayStart, hblob, hfits]⟩

theorem Dev.Alike.atPort {fl : List Fld} {vl : List Vr} (h : Alike fl vl d e) (hb : d.bytes = e.bytes)
    (hf : ∀ g ∈ F.ETH_PORT_CNT_TXF :: gateFlds, ∀ f ∈ fl, g.kid ≠ f.kid) (hv : ∀ z ∈ [V.gates, V.grove], ∀ y ∈ vl, z.id ≠ y.id) (q tc n : Nat) :
    d.atPort q tc n = e.atPort q tc n := by
  simp only [List.forall_mem_cons] at hv
  rw [List.forall_mem_cons] at hf
  rw [Dev.atPort, Dev.atPort, h.get _ hf.1, h.gateFits hf.2 hv.1 hv.2.1, Dev.blob, Dev.blob, hb]

/-- A frame leaves by one of its egress ports: it waits for the host at port 9, and elsewhere it is sent or waits behind the gate of its class. -/
def Dev.leaveBy (x : EthIn) (tc q : Nat) (d : Dev) : Dev :=
  if q = 9 then d.hostQueue tc x.port.val (d.now - x.dur.toNat).toNat (x.data.map (·.toNat)) else d.ethSend q tc x.data.length

/-- What a frame does at one port no other port shows. -/
theorem Dev.leaveBy_atPort_ne {r : Nat} (d : Dev) (hne : q ≠ r) : (d.leaveBy x tc r).atPort q tc n = d.atPort q tc n := by
  unfold Dev.leaveBy
  split
  case isTrue =>
    have hq' : Alike [] [V.hostBytes] (d.hostQueue tc x.port.val (d.now - x.dur.toNat).toNat (x.data.map (·.toNat))) d :=
      ((Alike.refl d).setBlob ..).setVar (.head _) ..
    refine Prod.ext rfl (Prod.ext ?_ (hq'.gateFits (by decide) (by decide) (by decide) q tc n))
    exact (Dev.blob_setBlob ..).trans (if_neg (by omega))
  case isFalse =>
    unfold Dev.ethSend
    split
    · refine Prod.ext (Dev.get_set_ix _ _ hne) (Prod.ext rfl ?_)
      exact (d.alike_ethTx r 1).gateFits (by decide) (by decide) (by decide) q tc n
    · refine Prod.ext rfl (Prod.ext ?_ rfl)
      exact (Dev.blob_setBlob ..).trans (if_neg (by omega))

/-- At a port that it leaves by, a frame is counted where it may start at once, and waits with those of its class where it may not. -/
theorem Dev.leaveBy_atPort (d : Dev) (hq : q < 9) :
    ((d.leaveBy x tc q).get F.ETH_PORT_CNT_TXF q =
      if d.mayStart q tc x.data.length = true then (d.get F.ETH_PORT_CNT_TXF q + 1) % 2 ^ F.ETH_PORT_CNT_TXF.width else d.get F.ETH_PORT_CNT_TXF q) ∧
    (d.leaveBy x tc q).blob 9 (8 * q + tc) =
      if d.mayStart q tc x.data.length = false then d.blob 9 (8 * q + tc) ++ [x.data.length] else d.blob 9 (8 * q + tc) := by
  rw [Dev.leaveBy, if_neg (by omega), Dev.ethSend]
  cases d.mayStart q tc x.data.length with
  | true => exact ⟨Dev.get_set_same .., rfl⟩
  | false => exact ⟨rfl, (Dev.blob_setBlob ..).trans (if_pos ⟨rfl, rfl⟩)⟩

theorem Dev.leaveBy_get (d : Dev) {g : Fld} (hg : g.kid ≠ F.ETH_PORT_CNT_TXF.kid) (j : Nat) : (d.leaveBy x tc q).get g j = d.get g j := by
  unfold Dev.leaveBy Dev.ethSend
  split
  · rfl
  split
  · exact Dev.get_set_kid _ _ _ _ hg
  · rfl

theorem Dev.leaveBy_each_atPort (d : Dev) (l : List Nat) (hl : q ∉ l) :
    (d.each l (fun r a => a.leaveBy x tc r)).atPort q tc n = d.atPort q tc n :=
  Dev.each_keeps (Dev.atPort q tc n) _ l d fun _ hr a => a.leaveBy_atPort_ne fun e => hl (e ▸ hr)

/-- A frame leaves by each egress port once: its effect at a port is the one it has there alone, on a device that shows there what the first one shows. -/
theorem Dev.leaveBy_each (l : List Nat) (hl : l.Nodup) (hq : q < 9) (hd : d.atPort q tc x.data.length = e.atPort q tc x.data.length) :
    ((d.each l (fun r a => a.leaveBy x tc r)).get F.ETH_PORT_CNT_TXF q =
      if q ∈ l ∧ e.mayStart q tc x.data.length = true then (e.get F.ETH_PORT_CNT_TXF q + 1) % 2 ^ F.ETH_PORT_CNT_TXF.width else e.get F.ETH_PORT_CNT_TXF q) ∧
    (d.each l (fun r a => a.leaveBy x tc r)).blob 9 (8 * q + tc) =
      if q ∈ l ∧ e.mayStart q tc x.data.length = false then e.blob 9 (8 * q + tc) ++ [x.data.length] else e.blob 9 (8 * q + tc) := by
  by_cases hm : q ∈ l
  · obtain ⟨before, after, rfl⟩ := List.append_of_mem hm
    have hnot : q ∉ before ∧ q ∉ after := by
      rw [List.nodup_middle, List.nodup_cons, List.mem_append, not_or] at hl
      exact hl.1
    have hsplit : d.each (before ++ q :: after) (fun r a => a.leaveBy x tc r) =
        ((d.each before (fun r a => a.leaveBy x tc r)).leaveBy x tc q).each after (fun r a => a.leaveBy x tc r) := by
      simp only [Dev.each, List.foldl_append, List.foldl_cons]
    obtain ⟨htxf, hblob, hmay⟩ := Dev.of_atPort ((d.leaveBy_each_atPort (x := x) before hnot.1).trans hd)
    obtain ⟨htxf', hblob', -⟩ := Dev.of_atPort
      (((d.each before (fun r a => a.leaveBy x tc r)).leaveBy x tc q).leaveBy_each_atPort (x := x) (tc := tc) (n := x.data.length) after hnot.2)
    obtain ⟨hsent, hwaits⟩ := (d.each before (fun r a => a.leaveBy x tc r)).leaveBy_atPort (x := x) (tc := tc) hq
    simp only [hsplit, hm, true_and, htxf', hblob', hsent, hwaits, htxf, hblob, hmay, and_self]
  · obtain ⟨htxf, hblob, -⟩ := Dev.of_atPort ((d.leaveBy_each_atPort (x := x) l hm).trans hd)
    simp only [hm, false_and, if_false, htxf, hblob, and_self]

/-! ### A frame at the switch -/

/-- The device on which a frame of a port acts: the occupancy of the shared buffer is known, and the frame is counted. -/
def Dev.entered (d : Dev) (p occ : Nat) : Dev := (d.setVar V.ethBuf 0 occ).incWrap F.ETH_PORT_CNT_RXF p

theorem Dev.alike_entered (d : Dev) (p occ : Nat) : Alike [F.ETH_PORT_CNT_RXF] [V.ethBuf] (d.entered p occ) d :=
  ((Alike.refl d).setVar (.head _) ..).set (.head _) ..

theorem Dev.entered_received (d : Dev) (p occ : Nat) : (d.entered p occ).get F.ETH_PORT_CNT_RXF p =
    (d.get F.ETH_PORT_CNT_RXF p + 1) % 2 ^ F.ETH_PORT_CNT_RXF.width := Dev.get_set_same ..

theorem exec_ethFrameForward (x : EthIn) (occ : BitVec 20) (hup : s.dev.ethUp x.port = true)
    (hturn : x.port.val = 8 → s.dev.plcaTurn x.node.toNat = true) : exec (.ethFrameForward x occ) s =
      .next { s with dev := ((s.dev.setVar V.ethBuf 0 occ.toNat).ethPass x true).1 } := by
  have hx : exec (.ethFrameForward x occ) s = execEthFrameForward x occ s := rfl
  have htakes : s.dev.ethTakes x = true := by
    simp only [Dev.ethTakes, hup, Bool.true_and, Bool.not_eq_true', Bool.and_eq_false_imp, beq_iff_eq, Bool.not_eq_false']
    exact hturn
  rw [hx, execEthFrameForward, State.upd_eq, Dev.ethForward, if_pos htakes]

/-- The room in the shared buffer as a frame finds it (R430). -/
theorem Dev.entered_waiting (d : Dev) (p occ : Nat) : (d.entered p occ).var V.ethBuf 0 = occ ∧ (d.entered p occ).ethWaiting = d.ethWaiting := by
  refine ⟨(Dev.var_set ..).trans (Dev.var_setVar_same ..), ?_⟩
  have hhost : ∀ q, (d.entered p occ).var V.hostBytes q = d.var V.hostBytes q := (d.alike_entered p occ).var _ (by decide)
  unfold Dev.ethWaiting
  rw [funext hhost]
  rfl

theorem Dev.ethPass_full (d : Dev) (x : EthIn) (occ : Nat) (h : 2048 < x.data.length ∨ 524288 < occ + d.ethWaiting + x.data.length) :
    ((d.setVar V.ethBuf 0 occ).ethPass x true).1 = (((d.entered x.port occ).incSat F.ETH_PORT_DROP_FULL x.port).irq 0x2A 6).cone 0x2A 0x101 := by
  obtain ⟨hocc, hwait⟩ := d.entered_waiting x.port occ
  unfold Dev.ethPass Dev.ethEnter
  dsimp only
  rw [← Dev.entered, hocc, hwait, Int.toNat_natCast, if_pos h]

theorem Dev.ethPass_filtered (d : Dev) (x : EthIn) (occ vid pcp : Nat) (h : ¬ (2048 < x.data.length ∨ 524288 < occ + d.ethWaiting + x.data.length))
    (hv : d.vidPcp x.port x.tag = (vid, pcp)) (hf : ((d.entered x.port occ).streamFilter x.port x.da.toNat vid pcp x.data.length).2 = false) :
    ((d.setVar V.ethBuf 0 occ).ethPass x true).1 =
      (((d.entered x.port occ).streamFilter x.port x.da.toNat vid pcp x.data.length).1.incSat F.ETH_PORT_DROP_QCI x.port).cone 0x2A 0x101 := by
  obtain ⟨hocc, hwait⟩ := d.entered_waiting x.port occ
  have hv' : (d.setVar V.ethBuf 0 occ).vidPcp x.port x.tag = (vid, pcp) := hv
  unfold Dev.ethPass Dev.ethEnter
  dsimp only
  rw [← Dev.entered, hocc, hwait, Int.toNat_natCast, if_neg h, hv', hf]
  simp only [Bool.not_false, if_true]

/-- The egress ports of a frame that enters by a port: those after its source address is learned (R429). -/
def Dev.outBy (d : Dev) (x : EthIn) (vid pcp : Nat) : Dev × List Nat :=
  (((d.streamFilter x.port x.da.toNat vid pcp x.data.length).1.learn x.port x.sa.toNat vid).egress x.port x.da.toNat vid)

theorem Dev.outBy_nodup (d : Dev) (x : EthIn) (vid pcp : Nat) : (d.outBy x vid pcp).2.Nodup := by
  unfold Dev.outBy Dev.egress
  dsimp only
  split
  · exact (List.nodup_range.filter _).filter _
  · exact (List.nodup_range.filter _).filter _

theorem Dev.outBy_bytes (d : Dev) (x : EthIn) (vid pcp : Nat) : (d.outBy x vid pcp).1.bytes = d.bytes := by
  rw [Dev.outBy, Dev.egress_bytes, (Dev.learn_apart _).1, (Dev.streamFilter_apart _).1]

theorem Dev.alike_outBy (d : Dev) (x : EthIn) (vid pcp : Nat) : Alike switchFlds switchVars (d.outBy x vid pcp).1 d :=
  (Alike.refl d).filtered.learned.routed

/-- Neither the count of received frames nor the occupancy of the buffer bears on the egress ports. -/
theorem Dev.outBy_entered (d : Dev) (x : EthIn) (p occ vid pcp : Nat) : ((d.entered p occ).outBy x vid pcp).2 = (d.outBy x vid pcp).2 := by
  refine ((d.alike_entered p occ).streamFilter.2.learn).egress ?_
  have hfree : ∀ a : Dev, ((a.streamFilter x.port x.da.toNat vid pcp x.data.length).1.learn x.port x.sa.toNat vid).free = a.free := fun a =>
    (Dev.learn_apart _).2.trans a.streamFilter_apart.2
  rw [hfree, hfree]
  rfl

theorem Dev.ethPass_passes (d : Dev) (x : EthIn) (occ vid pcp : Nat) (h : ¬ (2048 < x.data.length ∨ 524288 < occ + d.ethWaiting + x.data.length))
    (hv : d.vidPcp x.port x.tag = (vid, pcp)) (hf : ((d.entered x.port occ).streamFilter x.port x.da.toNat vid pcp x.data.length).2 = true) :
    ((d.setVar V.ethBuf 0 occ).ethPass x true).1 =
      (((d.entered x.port occ).outBy x vid pcp).1.each ((d.entered x.port occ).outBy x vid pcp).2 (fun q a => a.leaveBy x pcp q)).cone 0x2A 0x100 := by
  obtain ⟨hocc, hwait⟩ := d.entered_waiting x.port occ
  have hv' : (d.setVar V.ethBuf 0 occ).vidPcp x.port x.tag = (vid, pcp) := hv
  unfold Dev.ethPass Dev.ethEnter
  dsimp only
  rw [← Dev.entered, hocc, hwait, Int.toNat_natCast, if_neg h, hv', hf]
  simp only [Bool.not_true, Bool.false_eq_true, if_false, Bool.true_or, List.filter_true]
  rfl

theorem Dev.get_incSat_same (d : Dev) (f : Fld) (i k : Nat) : (d.incSat f i k).get f i = min (d.get f i + k) (2 ^ f.width - 1) :=
  (Dev.get_set_same ..).trans (Nat.mod_eq_of_lt (by have := Nat.two_pow_pos f.width; omega))

theorem ethFrameForward_full (x : EthIn) (occ : BitVec 20) (hup : s.dev.ethUp x.port = true)
    (hturn : x.port.val = 8 → s.dev.plcaTurn x.node.toNat = true)
    (hfull : 2048 < x.data.length ∨ 524288 < occ.toNat + s.dev.ethWaiting + x.data.length) : Answers (.ethFrameForward x occ) s (fun t =>
      t.dev.get F.ETH_PORT_DROP_FULL x.port = min (s.dev.get F.ETH_PORT_DROP_FULL x.port + 1) (2 ^ F.ETH_PORT_DROP_FULL.width - 1) ∧
      t.dev.get F.ETH_PORT_CNT_RXF x.port = (s.dev.get F.ETH_PORT_CNT_RXF x.port + 1) % 2 ^ F.ETH_PORT_CNT_RXF.width) := by
  have he := exec_ethFrameForward x occ hup hturn
  rw [Dev.ethPass_full _ _ _ hfull] at he
  refine ⟨_, he, ?_, ?_⟩
  · dsimp only
    rw [Dev.cone_get _ _ _ _ _ _ (by decide), Dev.irq_get _ _ _ _ _ (by decide), Dev.get_incSat_same, (s.dev.alike_entered ..).get _ (by decide)]
  · dsimp only
    rw [Dev.cone_get _ _ _ _ _ _ (by decide), Dev.irq_get _ _ _ _ _ (by decide), Dev.incSat, Dev.get_set_kid _ _ _ _ (by decide), Dev.entered_received]

section
variable {vid pcp : Nat} (x : EthIn) (occ : BitVec 20) (q : Fin 9) (hup : s.dev.ethUp x.port = true)
  (hturn : x.port.val = 8 → s.dev.plcaTurn x.node.toNat = true) (hroom : ¬ (2048 < x.data.length ∨ 524288 < occ.toNat + s.dev.ethWaiting + x.data.length))
  (hv : s.dev.vidPcp x.port x.tag = (vid, pcp))
include hup hturn hroom hv

/-- A frame that its stream filter does not let pass is counted as dropped and leaves by no port (R432). -/
theorem ethFrameForward_filtered (hpass : (s.dev.streamFilter x.port x.da.toNat vid pcp x.data.length).2 = false) : Answers (.ethFrameForward x occ) s (fun t =>
    t.dev.get F.ETH_PORT_CNT_RXF x.port = (s.dev.get F.ETH_PORT_CNT_RXF x.port + 1) % 2 ^ F.ETH_PORT_CNT_RXF.width ∧
    t.dev.get F.ETH_PORT_DROP_QCI x.port = min (s.dev.get F.ETH_PORT_DROP_QCI x.port + 1) (2 ^ F.ETH_PORT_DROP_QCI.width - 1) ∧
    t.dev.get F.ETH_PORT_CNT_TXF q = s.dev.get F.ETH_PORT_CNT_TXF q) := by
  have he := exec_ethFrameForward x occ hup hturn
  have hin := s.dev.alike_entered x.port occ.toNat
  have hleft := (Dev.Alike.refl (s.dev.entered x.port occ.toNat)).filtered (p := x.port) (da := x.da.toNat) (vid := vid) (pcp := pcp) (n := x.data.length)
  rw [Dev.ethPass_filtered _ _ _ _ _ hroom hv (hin.streamFilter.1.trans hpass)] at he
  refine ⟨_, he, ?_⟩
  dsimp only
  refine ⟨?_, ?_, ?_⟩
  · rw [Dev.cone_get _ _ _ _ _ _ (by decide), Dev.incSat, Dev.get_set_kid _ _ _ _ (by decide), hleft.get _ (by decide), Dev.entered_received]
  · rw [Dev.cone_get _ _ _ _ _ _ (by decide), Dev.get_incSat_same, hleft.get _ (by decide), hin.get _ (by decide)]
  · rw [Dev.cone_get _ _ _ _ _ _ (by decide), Dev.incSat, Dev.get_set_kid _ _ _ _ (by decide), hleft.get _ (by decide), hin.get _ (by decide)]

/-- Any other leaves by its egress ports, as the gates of its class stand there (R429, R431). -/
theorem ethFrameForward_leaves (hpass : (s.dev.streamFilter x.port x.da.toNat vid pcp x.data.length).2 = true) : Answers (.ethFrameForward x occ) s (fun t =>
    t.dev.get F.ETH_PORT_CNT_RXF x.port = (s.dev.get F.ETH_PORT_CNT_RXF x.port + 1) % 2 ^ F.ETH_PORT_CNT_RXF.width ∧
    t.dev.get F.ETH_PORT_CNT_TXF q = (if q.val ∈ (s.dev.outBy x vid pcp).2 ∧ s.dev.mayStart q pcp x.data.length = true then
      (s.dev.get F.ETH_PORT_CNT_TXF q + 1) % 2 ^ F.ETH_PORT_CNT_TXF.width else s.dev.get F.ETH_PORT_CNT_TXF q) ∧
    t.dev.blob 9 (8 * q + pcp) = (if q.val ∈ (s.dev.outBy x vid pcp).2 ∧ s.dev.mayStart q pcp x.data.length = false then
      s.dev.blob 9 (8 * q + pcp) ++ [x.data.length] else s.dev.blob 9 (8 * q + pcp))) := by
  have he := exec_ethFrameForward x occ hup hturn
  have hin := s.dev.alike_entered x.port occ.toNat
  have hout := (s.dev.entered x.port occ.toNat).alike_outBy x vid pcp
  have hport := (hout.atPort (Dev.outBy_bytes ..) (by decide) (by decide) q pcp x.data.length).trans
    (hin.atPort rfl (by decide) (by decide) q pcp x.data.length)
  have hrxf : ∀ l, (((s.dev.entered x.port occ.toNat).outBy x vid pcp).1.each l (fun q a => a.leaveBy x pcp q)).get F.ETH_PORT_CNT_RXF x.port =
      ((s.dev.entered x.port occ.toNat).outBy x vid pcp).1.get F.ETH_PORT_CNT_RXF x.port := fun l =>
    Dev.each_keeps (fun a => a.get F.ETH_PORT_CNT_RXF x.port) _ l _ fun _ _ a => a.leaveBy_get (by decide) _
  obtain ⟨htxf, hblob⟩ := Dev.leaveBy_each ((s.dev.entered x.port occ.toNat).outBy x vid pcp).2 (Dev.outBy_nodup ..) q.2 hport
  rw [Dev.outBy_entered] at htxf hblob
  rw [Dev.ethPass_passes _ _ _ _ _ hroom hv (hin.streamFilter.1.trans hpass), Dev.outBy_entered] at he
  refine ⟨_, he, ?_⟩
  dsimp only
  refine ⟨?_, ?_, ?_⟩
  · rw [Dev.cone_get _ _ _ _ _ _ (by decide), hrxf, hout.get _ (by decide), Dev.entered_received]
  · rw [Dev.cone_get _ _ _ _ _ _ (by decide), htxf]
  · rw [Dev.cone_blob, hblob]

end

end Sys2Proof.Machine
end

section
/-! ## Ports, ageing, gPTP and trigger messages (R91, R99, R428, R429, R433, R438, R462) -/

namespace Sys2Proof.Machine

variable {s : State} {d : Dev} {a : Acc} {slot off : Nat}

/-! ### Ports -/

/-- What a command answers that is one write through the channel window to a channel that exists (R57, R59). -/
theorem upd_wrCh_taken (ht : Taken s slot a) (hc : s.dev.chSel slot a < chCnt slot) (off : Nat) (k : Nat → Dev → Dev) (act : Nat → Dev → Bool) :
    s.upd (fun d => d.wrCh slot off a k act) =
      .next { s with dev := (k (s.dev.chSel slot a) ((s.dev.counted slot a.bank.val).cone slot 7)).ended } := by
  have hsel : (s.dev.counted slot a.bank.val).chSel slot a = s.dev.chSel slot a := Dev.counted_get_ne _ _ _ _ (by decide) (by decide)
  unfold Dev.wrCh
  rw [upd_wr_taken ht off _ (fun d => decide (chCnt slot ≤ d.chSel slot a) || act (d.chSel slot a) d)]
  simp only [hsel, if_pos hc]

/-- LINK takes the value, of a port whose LINK is a bit. -/
theorem Dev.ethLink_link (p : Nat) (up : Bool) (h : d.get F.ETH_PORT_STAT_LINK p ≤ 1) : (d.ethLink p up).get F.ETH_PORT_STAT_LINK p = bit up := by
  unfold Dev.ethLink
  split
  case isTrue hsame =>
    rw [← hsame, Dev.on]
    interval_cases d.get F.ETH_PORT_STAT_LINK p <;> rfl
  case isFalse =>
    rw [Dev.irq_get _ _ _ _ _ (by decide), Dev.get_set_same]
    cases up <;> rfl

theorem Dev.ethLink_get (p : Nat) (up : Bool) {g : Fld} (hg : g.own = true) (hne : g.kid ≠ F.ETH_PORT_STAT_LINK.kid) (j : Nat) :
    (d.ethLink p up).get g j = d.get g j := by
  unfold Dev.ethLink
  split
  · rfl
  · rw [Dev.irq_get _ _ _ _ _ hg, Dev.get_set_kid _ _ _ _ hne]

theorem ethPortEnable_answers (en : Bool) (ht : Taken s 0x2A a) (hc : s.dev.chSel 0x2A a < 10) (hfree : s.dev.get F.ETH_PORT_STAT_TAKEN (s.dev.chSel 0x2A a) = 0) :
    Answers (.ethPortEnable a en) s (fun t => t.dev.get F.ETH_PORT_CFG_EN (s.dev.chSel 0x2A a) = bit en ∧
      (en = false → s.dev.get F.ETH_PORT_STAT_LINK (s.dev.chSel 0x2A a) = 1 → t.dev.get F.ETH_PORT_STAT_LINK (s.dev.chSel 0x2A a) = 0)) := by
  have hx : exec (.ethPortEnable a en) s = execEthPortEnable a en s := rfl
  rw [execEthPortEnable, upd_wrCh_taken ht hc] at hx
  refine ⟨_, hx, ?_⟩
  generalize s.dev.chSel 0x2A a = p at hfree ⊢
  have hget : ∀ g : Fld, g.own = true → ((s.dev.counted 0x2A a.bank.val).cone 0x2A 7).get g p = s.dev.get g p := fun g hg => by
    rw [Dev.cone_get _ _ _ _ _ _ hg, Dev.counted_get _ _ _ _ hg]
  have hon : ((s.dev.counted 0x2A a.bank.val).cone 0x2A 7).on F.ETH_PORT_STAT_TAKEN p = false := by
    rw [Dev.on, hget F.ETH_PORT_STAT_TAKEN (by decide), hfree]; rfl
  simp only [Dev.ended_get, Dev.ethEnable, hon, Bool.false_eq_true, if_false]
  cases en with
  | true => exact ⟨Dev.get_set_same .., fun h => absurd h (by decide)⟩
  | false =>
    simp only [Bool.false_eq_true, if_false]
    refine ⟨?_, fun _ hlink => ?_⟩
    · rw [Dev.ethLink_get _ _ (by decide) (by decide), Dev.get_set_same]; rfl
    · refine Dev.ethLink_link p false ?_
      rw [Dev.get_set_kid _ _ _ _ (by decide), hget F.ETH_PORT_STAT_LINK (by decide), hlink]

theorem ethLinkChange_answers (p : Fin 10) (up : Bool) (sqi : BitVec 3) (hfree : s.dev.get F.ETH_PORT_STAT_TAKEN p = 0)
    (hup : up = false ∨ (s.dev.running 0x2A = true ∧ s.dev.get F.ETH_PORT_CFG_EN p = 1)) (hlink : s.dev.get F.ETH_PORT_STAT_LINK p ≤ 1) :
    Answers (.ethLinkChange p up sqi) s (fun t => t.dev.get F.ETH_PORT_STAT_LINK p = bit up ∧ t.dev.get F.ETH_PORT_STAT_SQI p = sqi.toNat) := by
  refine ⟨{ s with dev := s.dev.ethLinkChange p up sqi.toNat }, rfl, ?_⟩
  have hmay : (s.dev.on F.ETH_PORT_STAT_TAKEN p || (up && !(s.dev.running 0x2A && s.dev.on F.ETH_PORT_CFG_EN p))) = false := by
    rcases hup with rfl | ⟨hrun, hen⟩
    · simp [Dev.on, hfree]
    · simp [Dev.on, hfree, hrun, hen]
  dsimp only
  rw [Dev.ethLinkChange, hmay, if_neg Bool.false_ne_true]
  refine ⟨Dev.ethLink_link p up ?_, ?_⟩
  · rwa [Dev.get_set_kid _ _ _ _ (by decide)]
  · rw [Dev.ethLink_get _ _ (by decide) (by decide), Dev.get_set_same]
    exact Nat.mod_eq_of_lt sqi.isLt

/-! ### Ageing (R429) -/

/-- A second more of an entry's age, and its end where that is due. -/
def Dev.ageEntry (i : Nat) (d : Dev) : Dev :=
  let a := d.incSat F.FDB_AGE_AGE i
  if 300 ≤ a.get F.FDB_AGE_AGE i && !a.on F.FDB_ENT_STATIC i then a.set F.FDB_ENT_VALID i 0 else a

theorem Dev.ageEntry_age (d : Dev) (i : Nat) : (d.ageEntry i).get F.FDB_AGE_AGE i = min (d.get F.FDB_AGE_AGE i + 1) (2 ^ F.FDB_AGE_AGE.width - 1) := by
  unfold Dev.ageEntry
  dsimp only
  split
  · rw [Dev.get_set_kid _ _ _ _ (by decide), Dev.get_incSat_same]
  · rw [Dev.get_incSat_same]

theorem Dev.ageEntry_valid (d : Dev) (i : Nat) : (d.ageEntry i).get F.FDB_ENT_VALID i =
    if 300 ≤ min (d.get F.FDB_AGE_AGE i + 1) (2 ^ F.FDB_AGE_AGE.width - 1) ∧ d.get F.FDB_ENT_STATIC i ≠ 1 then 0 else d.get F.FDB_ENT_VALID i := by
  have hkeep : ∀ g : Fld, g.kid ≠ F.FDB_AGE_AGE.kid → (d.incSat F.FDB_AGE_AGE i).get g i = d.get g i := fun g hg => Dev.get_set_kid _ _ _ _ hg
  unfold Dev.ageEntry
  dsimp only
  rw [Dev.get_incSat_same, Dev.on, hkeep F.FDB_ENT_STATIC (by decide)]
  simp only [Bool.and_eq_true, decide_eq_true_eq, Bool.not_eq_true', beq_eq_false_iff_ne]
  split
  · exact Dev.get_set_same ..
  · exact hkeep F.FDB_ENT_VALID (by decide)

/-- What the table holds at an index. -/
def Dev.fdbEntry (i : Nat) (d : Dev) : Nat × Nat × Nat := (d.get F.FDB_AGE_AGE i, d.get F.FDB_ENT_VALID i, d.get F.FDB_ENT_STATIC i)

theorem Dev.ageEntry_ne (d : Dev) {i k : Nat} (h : i ≠ k) : (d.ageEntry k).fdbEntry i = d.fdbEntry i := by
  unfold Dev.ageEntry Dev.incSat
  dsimp only
  split <;> simp only [Dev.fdbEntry, Dev.get_set_ix _ _ h]

/-- Each valid entry ages once. -/
theorem Dev.ageEntries_at (l : List Nat) (hl : l.Nodup) {i : Nat} (hi : i ∈ l) :
    (d.each l Dev.ageEntry).get F.FDB_AGE_AGE i = (d.ageEntry i).get F.FDB_AGE_AGE i ∧
    (d.each l Dev.ageEntry).get F.FDB_ENT_VALID i = (d.ageEntry i).get F.FDB_ENT_VALID i := by
  obtain ⟨before, after, rfl⟩ := List.append_of_mem hi
  have hnot : i ∉ before ∧ i ∉ after := by
    rw [List.nodup_middle, List.nodup_cons, List.mem_append, not_or] at hl
    exact hl.1
  have hkeep : ∀ (l : List Nat) (a : Dev), i ∉ l → (a.each l Dev.ageEntry).fdbEntry i = a.fdbEntry i := fun l a hm =>
    Dev.each_keeps (Dev.fdbEntry i) _ l a fun k hk b => b.ageEntry_ne fun e => hm (e ▸ hk)
  have hb := hkeep before d hnot.1
  have ha := hkeep after ((d.each before Dev.ageEntry).ageEntry i) hnot.2
  have hsplit : d.each (before ++ i :: after) Dev.ageEntry = ((d.each before Dev.ageEntry).ageEntry i).each after Dev.ageEntry := by
    simp only [Dev.each, List.foldl_append, List.foldl_cons]
  simp only [Dev.fdbEntry, Prod.mk.injEq] at ha hb
  obtain ⟨hage, hvalid, hstatic⟩ := hb
  rw [hsplit, ha.1, ha.2.1, Dev.ageEntry_age, Dev.ageEntry_age, Dev.ageEntry_valid, Dev.ageEntry_valid, hage, hvalid, hstatic]
  exact ⟨rfl, rfl⟩

theorem fdbAgeing_answers (i : Fin 2048) (hrun : s.dev.running 0x2A = true) (hdue : s.dev.passed V.fdbAt 0 1000000000 = true)
    (hvalid : s.dev.get F.FDB_ENT_VALID i = 1) : Answers .fdbAgeing s (fun t =>
      t.dev.get F.FDB_AGE_AGE i = min (s.dev.get F.FDB_AGE_AGE i + 1) (2 ^ F.FDB_AGE_AGE.width - 1) ∧
      (300 ≤ s.dev.get F.FDB_AGE_AGE i → s.dev.get F.FDB_ENT_STATIC i = 0 → t.dev.get F.FDB_ENT_VALID i = 0) ∧
      (s.dev.get F.FDB_ENT_STATIC i = 1 → t.dev.get F.FDB_ENT_VALID i = 1)) := by
  have hmem : i.val ∈ (List.range 2048).filter (fun i => s.dev.on F.FDB_ENT_VALID i) :=
    List.mem_filter.mpr ⟨List.mem_range.mpr i.2, by simp [Dev.on, hvalid]⟩
  have heach : s.dev.fdbAgeing = (s.dev.mark V.fdbAt 0).each ((List.range 2048).filter (fun i => s.dev.on F.FDB_ENT_VALID i)) Dev.ageEntry := by
    rw [Dev.fdbAgeing, hrun, hdue]
    rfl
  obtain ⟨hage, hval⟩ := Dev.ageEntries_at (d := s.dev.mark V.fdbAt 0) _ (List.nodup_range.filter _) hmem
  refine ⟨{ s with dev := s.dev.fdbAgeing }, rfl, ?_⟩
  rw [Dev.ageEntry_age] at hage
  rw [Dev.ageEntry_valid] at hval
  simp only [heach, hage, hval, Dev.mark_get, hvalid]
  refine ⟨trivial, fun hold hdyn => if_pos ⟨?_, by omega⟩, fun hst => if_neg fun h => h.2 hst⟩
  have hw : 2 ^ F.FDB_AGE_AGE.width = 65536 := rfl
  omega

/-! ### gPTP (R91, R433) -/

theorem gptpAnnounce_answers (p : Fin 10) (hup : s.dev.gptpUp p = true) : Answers (.gptpAnnounce p) s (fun t =>
    t.dev.blob 3 p = s.dev.gptpQuality ∧ t.dev.get F.ETH_PORT_CNT_TXF p = (s.dev.get F.ETH_PORT_CNT_TXF p + 1) % 2 ^ F.ETH_PORT_CNT_TXF.width) := by
  refine ⟨{ s with dev := s.dev.gptpAnnounce p }, rfl, ?_⟩
  dsimp only
  rw [Dev.gptpAnnounce, if_pos hup]
  exact ⟨(Dev.blob_setBlob ..).trans (if_pos ⟨rfl, rfl⟩), Dev.get_set_same ..⟩

theorem gptpSync_answers (p : Fin 10) (hup : s.dev.gptpUp p = true)
    (hdue : s.dev.passed V.gpSync p (gptpPeriod (s.dev.get F.ETH_PORT_SYNC_SYNCI p)) = true) : Answers (.gptpSync p) s (fun t =>
      t.dev.blob 4 p = leBytes 8 s.dev.now.toNat ∧
      t.dev.get F.ETH_PORT_CNT_TXF p = (s.dev.get F.ETH_PORT_CNT_TXF p + 2) % 2 ^ F.ETH_PORT_CNT_TXF.width ∧
      t.dev.get F.GPTP_SYNCS_V p = (s.dev.get F.GPTP_SYNCS_V p + 1) % 2 ^ F.GPTP_SYNCS_V.width) := by
  refine ⟨{ s with dev := s.dev.gptpSync p }, rfl, ?_⟩
  dsimp only
  rw [Dev.gptpSync, hup, hdue, Bool.and_self, if_pos rfl, Dev.ethTx, Dev.incWrap, Dev.incWrap]
  refine ⟨?_, ?_, ?_⟩
  · exact (Dev.blob_setBlob ..).trans (if_pos ⟨rfl, rfl⟩)
  · rw [Dev.get_set_same, Dev.get_set_kid _ _ _ _ (by decide)]; rfl
  · rw [Dev.get_set_kid _ _ _ _ (by decide), Dev.get_set_same]; rfl

theorem gptpPdelayReq_answers (p : Fin 10) (dly ratio : BitVec 32) (hup : s.dev.gptpUp p = true)
    (hdue : s.dev.passed V.gpPdly p (gptpPeriod (s.dev.get F.ETH_PORT_SYNC_PDLYI p)) = true) : Answers (.gptpPdelayReq p true dly ratio) s (fun t =>
      t.dev.get F.GPTP_ASCAP_ASCAP p = 1 ∧ t.dev.get F.GPTP_MEANDLY_V p = dly.toNat ∧ t.dev.get F.GPTP_RATIO_V p = ratio.toNat) := by
  refine ⟨{ s with dev := s.dev.gptpPdelay p true dly.toNat ratio.toNat }, rfl, ?_⟩
  dsimp only
  rw [Dev.gptpPdelay, hup, hdue, Bool.and_self, if_pos rfl, if_pos rfl]
  refine ⟨?_, ?_, ?_⟩
  · rw [Dev.get_set_kid _ _ _ _ (by decide), Dev.get_set_kid _ _ _ _ (by decide), Dev.get_set_same]; rfl
  · rw [Dev.get_set_kid _ _ _ _ (by decide), Dev.get_set_same]
    exact Nat.mod_eq_of_lt dly.isLt
  · rw [Dev.get_set_same]
    exact Nat.mod_eq_of_lt ratio.isLt

theorem gptpForeign_answers (p : Fin 10) (hup : s.dev.gptpUp p = true) : Answers (.gptpForeign p) s (fun t =>
    t.dev.get F.GPTP_FOREIGN_V p = (s.dev.get F.GPTP_FOREIGN_V p + 1) % 2 ^ F.GPTP_FOREIGN_V.width ∧ t.dev.now = s.dev.now) := by
  refine ⟨{ s with dev := s.dev.gptpForeign p }, rfl, ?_⟩
  dsimp only
  rw [Dev.gptpForeign, if_pos hup]
  refine ⟨?_, ?_⟩
  · rw [Dev.irq_get _ _ _ _ _ (by decide), Dev.incWrap, Dev.get_set_same, Dev.incWrap, Dev.get_set_kid _ _ _ _ (by decide)]
  · rw [Dev.now, Dev.irq_var]; rfl

/-! ### Trigger messages (R99, R438) -/

/-- Sending a frame leaves the other byte strings and every field but the count of frames sent. -/
theorem Dev.ethSend_keeps (d : Dev) (p tc n : Nat) :
    (∀ g : Fld, g.kid ≠ F.ETH_PORT_CNT_TXF.kid → ∀ j, (d.ethSend p tc n).get g j = d.get g j) ∧
    (∀ m, m ≠ 9 → ∀ j, (d.ethSend p tc n).blob m j = d.blob m j) ∧ ∀ x j, (d.ethSend p tc n).var x j = d.var x j := by
  unfold Dev.ethSend
  split
  · exact ⟨fun g hg j => Dev.get_set_kid _ _ _ _ hg, fun _ _ _ => rfl, fun _ _ => rfl⟩
  · exact ⟨fun _ _ _ => rfl, fun m hm j => (Dev.blob_setBlob ..).trans (if_neg fun e => hm e.1), fun _ _ => rfl⟩

theorem trigMessageSend_answers (e : Fin 16) (t : Nat) (hidx : s.dev.get F.TRIG_CFG_IDX e = t) (hen : s.dev.get F.TRIG_CFG_EN e = 1)
    (htgt : s.dev.get F.TRIG_CFG_TGT e = 1) (hrun : s.dev.running 0x2A = true) (hnew : s.dev.var V.trgSent e ≠ s.dev.get F.TRIG_INST_INST e)
    (hdue : (s.dev.get F.TRIG_INST_INST e : Int) - s.dev.get F.TRIG_CFG_LEAD e * 100000 ≤ s.dev.now) (hten : s.dev.get F.TRG_CFG_EN t = 1)
    (hport : s.dev.get F.TRG_CFG_PORT t < 10) (hup : s.dev.ethUp (s.dev.get F.TRG_CFG_PORT t) = true) : Answers (.trigMessageSend e) s (fun u =>
      u.dev.get F.TRG_SEQ_SEQ t = (s.dev.get F.TRG_SEQ_SEQ t + 1) % 65536 ∧
      u.dev.blob 2 t = s.dev.trigBytes e t ((s.dev.get F.TRG_SEQ_SEQ t + 1) % 65536) ∧ u.dev.var V.trgSent e = s.dev.get F.TRIG_INST_INST e) := by
  refine ⟨{ s with dev := s.dev.trigMessage e }, rfl, ?_⟩
  have hgo : (s.dev.on F.TRIG_CFG_EN e && s.dev.get F.TRIG_CFG_TGT e == 1 && s.dev.running 0x2A && s.dev.var V.trgSent e != s.dev.get F.TRIG_INST_INST e &&
      decide ((s.dev.get F.TRIG_INST_INST e : Int) - s.dev.get F.TRIG_CFG_LEAD e * 100000 ≤ s.dev.now)) = true := by
    simp [Dev.on, hen, htgt, hrun, hnew, hdue]
  obtain ⟨d, hd⟩ : ∃ d, d = s.dev.setVar V.trgSent e (s.dev.get F.TRIG_INST_INST e) := ⟨_, rfl⟩
  have hget : ∀ g j, d.get g j = s.dev.get g j := fun _ _ => hd ▸ rfl
  have hbytes : ∀ seq, d.trigBytes e t seq = s.dev.trigBytes e t seq := fun _ => hd ▸ rfl
  have hdup : d.ethUp (s.dev.get F.TRG_CFG_PORT t) = true :=
    hd ▸ (((Dev.Alike.refl (fl := []) (vl := [V.trgSent]) s.dev).setVar (.head _) ..).ethUp (by decide) (by decide) _).trans hup
  have hsend : (d.on F.TRG_CFG_EN t && decide (s.dev.get F.TRG_CFG_PORT t < 10) && d.ethUp (s.dev.get F.TRG_CFG_PORT t)) = true := by
    simp [Dev.on, hget, hten, hport, hdup]
  dsimp only
  unfold Dev.trigMessage
  dsimp only
  rw [hgo, if_pos rfl, ← hd]
  simp only [hget, hidx, hbytes, hsend, if_true]
  obtain ⟨hf, hb, hv⟩ := Dev.ethSend_keeps ((d.setBlob 2 t (s.dev.trigBytes e t ((s.dev.get F.TRG_SEQ_SEQ t + 1) % 65536))).set F.TRG_SEQ_SEQ t
    ((s.dev.get F.TRG_SEQ_SEQ t + 1) % 65536)) (s.dev.get F.TRG_CFG_PORT t) (d.get F.TRG_CFG_TC t)
    (s.dev.trigBytes e t ((s.dev.get F.TRG_SEQ_SEQ t + 1) % 65536)).length
  rw [hget] at hf hb hv
  refine ⟨?_, ?_, ?_⟩
  · rw [hf _ (by decide), Dev.get_set_same]
    exact Nat.mod_eq_of_lt (Nat.mod_lt _ (by decide))
  · rw [hb 2 (by decide)]
    exact (Dev.blob_setBlob ..).trans (if_pos ⟨rfl, rfl⟩)
  · rw [hv, hd]
    exact Dev.var_setVar_same ..

/-- Settles O24: each clause is what its command answers; of a frame that enters, the switch asks only what its count and the buffer's occupancy leave as it was. -/
theorem ethernetPortsTimeAndTriggers : Obligations.EthernetPortsTimeAndTriggers := by
  refine ⟨?enable, ?link, ?full, ?passes, ?ageing, ?gates, ?waiting, ?announce, ?sync, ?pdelay, ?foreign, ?message⟩
  case enable => exact fun s a en ht hc hfree => ethPortEnable_answers en ht hc hfree
  case link => exact fun s p up sqi hfree hup hlink => ethLinkChange_answers p up sqi hfree hup hlink
  case full => exact fun s x occ hup hturn hfull => ethFrameForward_full x occ hup hturn hfull
  case passes =>
    intro s x occ vid pcp q l hup hturn hlen hroom hv _ hl
    have hvid : s.dev.vidPcp x.port x.tag = (vid, pcp) := hv.symm
    have hfits : ¬ (2048 < x.data.length ∨ 524288 < occ.toNat + s.dev.ethWaiting + x.data.length) := by omega
    cases hpass : (s.dev.streamFilter x.port x.da.toNat vid pcp x.data.length).2 with
    | false => exact ethFrameForward_filtered x occ q hup hturn hfits hvid hpass
    | true => exact hl ▸ ethFrameForward_leaves x occ q hup hturn hfits hvid hpass
  case ageing => exact fun s i hrun hdue hvalid => fdbAgeing_answers i hrun hdue hvalid
  case gates => exact fun s p hrun => gateListEntry_applies p hrun
  case waiting => exact fun s p tc hup hopen => gateListEntry_empties p tc hup hopen
  case announce => exact fun s p hup => gptpAnnounce_answers p hup
  case sync => exact fun s p hup hdue => gptpSync_answers p hup hdue
  case pdelay => exact fun s p dly ratio hup hdue => gptpPdelayReq_answers p dly ratio hup hdue
  case foreign => exact fun s p hup => gptpForeign_answers p hup
  case message => exact fun s e hen htgt hrun hnew hdue hten hport hup => trigMessageSend_answers e _ rfl hen htgt hrun hnew hdue hten hport hup

end Sys2Proof.Machine
end

section
/-! ## Two statements that take a bit for 0 where it is not 1

Each says what a command does where a one-bit field is 0, and the model asks whether it is 1. A write cuts its value to the field's width, so that no command leads
where the two differ; the statements speak of every state, and so of one whose store lists 2 for the field. -/

namespace Sys2Proof.Machine

/-- A device whose store lists 2 for SEN. -/
def senTwo : State := { State.reset with dev.regs := [((F.TIME_STEER_CFG_SEN.kid, 0), 2)] }

/-- SEN is not 1, so that a write of 0 finds nothing to change (R103). -/
theorem steerEnableWrite_senTwo :
    (match exec (.steerEnableWrite ⟨8, true⟩ false) senTwo with | .next t => t.dev.get F.TIME_STEER_CFG_SEN 0 | _ => 0) = 2 := by
  decide +kernel

/-- Refutes O3: a write of 0 to SEN leaves a 2 that the store lists there. -/
theorem not_timeTicksSteeringAndSteps : ¬ Obligations.TimeTicksSteeringAndSteps := by
  rintro ⟨-, -, -, hsteer, -⟩
  obtain ⟨t, ht, hsen, -⟩ := hsteer senTwo ⟨8, true⟩ false (by decide +kernel)
  have htwo := steerEnableWrite_senTwo
  rw [ht] at htwo
  exact absurd (htwo.symm.trans hsen) (by decide)

/-- BUS runs with a Firebreak message due on channel 1, and the store lists 2 for the EN of that channel. -/
def canEnTwo : State :=
  { State.reset with
    dev.regs := [((F.COM_STAT_RUN.kid, 0x28), 1), ((F.BUS_CH_FBMSG_EN.kid, 1), 1), ((F.BUS_CH_CFG_EN.kid, 1), 2)]
    dev.vars := [((V.uptime.id, 0), 655360000000000000)] }

/-- EN is not 1, so that the request is refused, and nothing waits to be sent (R405). -/
theorem firebreakMessage_canEnTwo :
    (match exec (.firebreakMessage 1) canEnTwo with | .next t => t.dev.get F.BUF_CTRL_TXREQ (bufIx 1 1) | _ => 1) = 0 := by
  decide +kernel

/-- Refutes O23: on a channel whose EN is neither 0 nor 1 the request for the Firebreak message is refused, where the statement has it wait in buffer 1. -/
theorem not_canMessagesClaimsAndPartners : ¬ Obligations.CanMessagesClaimsAndPartners := by
  rintro ⟨hmessage, -⟩
  obtain ⟨t, ht, -, hreq⟩ := hmessage canEnTwo 1 (by decide +kernel) (by decide +kernel) (by decide +kernel)
  rw [if_neg (by decide +kernel), if_neg (by decide +kernel)] at hreq
  have hzero := firebreakMessage_canEnTwo
  rw [ht] at hzero
  exact absurd (hzero.symm.trans hreq.1) (by decide)

end Sys2Proof.Machine
end

section
/-! ## Variables and reports through the operations of GNRF and GNAQ

`Dev.view` follows registers through a command; what else these statements read, variables and reports, is followed here in the same way. -/

namespace Sys2Proof.Machine

variable {d e : Dev} {vl : List Vr}

/-- What a device holds beside its registers, as far as GNRF and GNAQ use it: the variables but for those listed, and the reports. -/
def Dev.besides (vl : List Vr) (d : Dev) : ({x : Vr // ∀ y ∈ vl, x.id ≠ y.id} → Nat → Int) × List Report := (fun x i => d.var x i, d.reports)

theorem Dev.var_of_besides (h : d.besides vl = e.besides vl) {x : Vr} (hx : ∀ y ∈ vl, x.id ≠ y.id) (i : Nat) : d.var x i = e.var x i :=
  congrFun (congrFun (congrArg Prod.fst h) ⟨x, hx⟩) i

theorem Dev.reports_of_besides (h : d.besides vl = e.besides vl) : d.reports = e.reports := congrArg Prod.snd h

theorem Dev.besides_of_rest (h : d.rest = e.rest) : d.besides vl = e.besides vl :=
  Prod.ext (funext fun x => funext fun i => Dev.var_of_rest h x i) (Dev.reports_of_rest h)

/-! ### The device's operations -/

@[simp] theorem Dev.besides_set (d : Dev) (f : Fld) (i v : Nat) : (d.set f i v).besides vl = d.besides vl := rfl
@[simp] theorem Dev.besides_incSat (d : Dev) (f : Fld) (i n : Nat) : (d.incSat f i n).besides vl = d.besides vl := rfl
@[simp] theorem Dev.besides_incWrap (d : Dev) (f : Fld) (i n : Nat) : (d.incWrap f i n).besides vl = d.besides vl := rfl
@[simp] theorem Dev.besides_cone (d : Dev) (slot ev n : Nat) : (d.cone slot ev n).besides vl = d.besides vl := Dev.besides_of_rest (by simp)
@[simp] theorem Dev.besides_irq (d : Dev) (slot b : Nat) : (d.irq slot b).besides vl = d.besides vl := Dev.besides_of_rest (by simp)

@[simp] theorem Dev.besides_setVar {x : Vr} (h : x ∈ vl) (d : Dev) (i : Nat) (v : Int) : (d.setVar x i v).besides vl = d.besides vl :=
  Prod.ext (funext fun y => funext fun j => Dev.var_setVar_id d i j v (y.2 x h)) rfl

@[simp] theorem Dev.besides_mark {x : Vr} (h : x ∈ vl) (d : Dev) (i : Nat) : (d.mark x i).besides vl = d.besides vl := Dev.besides_setVar h d i _

@[simp] theorem Dev.besides_ite (p : Prop) [Decidable p] (d e : Dev) : (if p then d else e).besides vl = if p then d.besides vl else e.besides vl :=
  apply_ite _ _ _ _

@[simp] theorem Dev.besides_when (d : Dev) (b : Bool) (k : Dev → Dev) : (d.when b k).besides vl = if b then (k d).besides vl else d.besides vl := by
  cases b <;> rfl

@[simp] theorem Dev.besides_each (d : Dev) (l : List Nat) (k : Nat → Dev → Dev) (h : ∀ i a, (k i a).besides vl = a.besides vl) :
    (d.each l k).besides vl = d.besides vl :=
  Dev.each_keeps (Dev.besides vl) k l d fun i _ a => h i a

/-! ### Antennas, tracking channels and entries -/

@[simp] theorem Dev.besides_antState (d : Dev) (i st : Nat) (h : V.pfAnt ∈ vl) : (d.antState i st).besides vl = d.besides vl := by
  simp [Dev.antState, Dev.gnrfFault, h]

@[simp] theorem Dev.besides_trkCoast (d : Dev) (c : Nat) (h : [V.navDue, V.cnHi, V.coastAt] ⊆ vl) : (d.trkCoast c).besides vl = d.besides vl := by
  simp only [List.cons_subset] at h
  simp [Dev.trkCoast, Dev.navLeave, h]

/-- The variables that the end of an entry writes. -/
def acqEndVars : List Vr := [V.acqPhase, V.acqFlags, V.acqClip]

@[simp] theorem Dev.besides_acqSeek (d : Dev) (e i : Nat) (h : acqEndVars ⊆ vl) : (d.acqSeek e i).besides vl = d.besides vl := by
  simp only [acqEndVars, List.cons_subset] at h
  simp only [Dev.acqSeek]
  split <;> simp [h]

@[simp] theorem Dev.besides_acqSat (d : Dev) (e : Nat) (h : V.acqFlags ∈ vl) : (d.acqSat e).besides vl = d.besides vl := by
  simp [Dev.acqSat, h]

@[simp] theorem Dev.besides_acqEnd (d : Dev) (e status : Nat) (r : AcqRes) (t0 : Nat) (goOn : Bool) (h : acqEndVars ⊆ vl) :
    (d.acqEnd e status r t0 goOn).besides vl = d.besides vl := by
  have h' := h
  simp only [acqEndVars, List.cons_subset] at h'
  simp [Dev.acqEnd, h, h']

/-- The variables that the loss of a path's samples writes, beside the path's own. -/
def pathLostVars : List Vr := acqEndVars ++ [V.navDue, V.cnHi, V.coastAt, V.pfInv, V.heldOk]

/-- Of the variables apart from those, the loss of a path's samples writes the path's own. -/
theorem Dev.besides_pathDown (d : Dev) (p : Nat) : (d.pathDown p).besides pathLostVars = (d.setVar V.pathValid p 0).besides pathLostVars := by
  simp [Dev.pathDown, pathLostVars]

theorem Dev.pathDown_pathValid (d : Dev) (p j : Nat) : (d.pathDown p).var V.pathValid j = if j = p then 0 else d.var V.pathValid j := by
  rw [Dev.var_of_besides (d.besides_pathDown p) (by decide), Dev.var_setVar]
  simp

theorem Dev.pathDown_reports (d : Dev) (p : Nat) : (d.pathDown p).reports = d.reports :=
  (Dev.reports_of_besides (d.besides_pathDown p)).trans rfl

@[simp] theorem Dev.besides_notchChange (d : Dev) (p : Nat) (h : [V.pfNotch, V.acqFlags] ⊆ vl) : (d.notchChange p).besides vl = d.besides vl := by
  simp only [List.cons_subset] at h
  simp [Dev.notchChange, h]

end Sys2Proof.Machine
end

section
/-! ## Antenna bias and sample links (R108 to R114, R137) -/

namespace Sys2Proof.Machine

variable {s : State} {d : Dev} {a : Acc}

/-! ### The state of an antenna -/

theorem Dev.antState_shows (d : Dev) (i : Nat) {st : Nat} (h : st < 8) : (d.antState i st).get F.GNRF_ANT_STAT_STATE i = st := by
  unfold Dev.antState
  split
  case isTrue hsame => exact hsame
  case isFalse =>
    rw [Dev.gnrfFault, Dev.get_set_kid _ _ _ _ (by decide), Dev.irq_get _ _ _ _ _ (by decide), Dev.get_set_same]
    exact Nat.mod_eq_of_lt h

theorem Dev.antState_get (d : Dev) (i st : Nat) {g : Fld} (hg : Scope.Keeps { flds := [F.COM_STAT_FAULT, F.GNRF_ANT_STAT_STATE] } g) (j : Nat) :
    (d.antState i st).get g j = d.get g j :=
  Dev.get_of_view (Dev.view_antState d i st (List.Subset.refl _)) hg j

theorem Dev.antState_var (d : Dev) (i st : Nat) {x : Vr} (hx : x.id ≠ V.pfAnt.id) (j : Nat) : (d.antState i st).var x j = d.var x j :=
  Dev.var_of_besides (vl := [V.pfAnt]) (d.besides_antState i st (.head _)) (by simpa using hx) j

/-- Captures on an antenna in a bad state note it in their flags (R132). -/
def Dev.antNoted (d : Dev) (i : Nat) : Dev :=
  if !antBad (d.get F.GNRF_ANT_STAT_STATE i) then d
  else d.each [0, 1, 2] (fun e a =>
    if a.var V.acqPhase e = 3 ∧ a.get F.ENT_CFG0_ANT (a.acqEnt e) = i ∧ tbit (a.var V.acqFlags e).toNat 3 = false
    then a.setVar V.acqFlags e (a.var V.acqFlags e + 8) else a)

@[simp] theorem Dev.antNoted_get (d : Dev) (i : Nat) (g : Fld) (j : Nat) : (d.antNoted i).get g j = d.get g j := by
  unfold Dev.antNoted
  split
  · rfl
  · exact Dev.each_keeps (fun b => b.get g j) _ _ d fun e _ b => by split <;> rfl

theorem Dev.antNoted_var (d : Dev) (i : Nat) {x : Vr} (hx : x.id ≠ V.acqFlags.id) (j : Nat) : (d.antNoted i).var x j = d.var x j := by
  refine Dev.var_of_besides (vl := [V.acqFlags]) ?_ (by simpa using hx) j
  simp [Dev.antNoted]

/-! ### Measurements (R108 to R110) -/

/-- The counts of an antenna after a measurement from the open threshold up to the limit. -/
def Dev.antCounted (d : Dev) (i : Nat) : Dev :=
  let d := d.setVar V.antBelow i (d.var V.antBelow i + 1)
  let d := d.when (decide (10 ≤ d.var V.antBelow i)) (fun a => a.setVar V.antTry i 0)
  (d.setVar V.antOk i (d.var V.antOk i + 1)).setVar V.antOpen i 0

theorem Dev.antCounted_get (d : Dev) (i : Nat) (g : Fld) (j : Nat) : (d.antCounted i).get g j = d.get g j := by
  unfold Dev.antCounted Dev.when
  dsimp only
  split <;> rfl

theorem Dev.antCounted_ok (d : Dev) (i : Nat) : (d.antCounted i).var V.antOk i = d.var V.antOk i + 1 := by
  unfold Dev.antCounted Dev.when
  dsimp only
  split <;> simp +decide [Dev.var_setVar]

/-- What a measurement makes of an antenna, its current shown (R108 to R110). -/
def Dev.antJudged (d : Dev) (i ma : Nat) (limit volt : Bool) : Dev :=
  let st := d.get F.GNRF_ANT_STAT_STATE i
  if st = 7 ∧ tbit (d.get F.GNRF_LINK_LOCK 0) i = false then d
  else if !d.on F.GNRF_ANT_CFG_BIASEN i then d.antTo i (if volt then 5 else 0)
  else if d.var V.antBias i = 0 then d
  else if limit then (if st = 7 then ((d.setVar V.antOk i 0).setVar V.antOpen i 0).setVar V.antBelow i 0 else d.antShort i)
  else
    let low := decide (ma < openTh (d.get F.GNRF_ANT_CFG_OPEN_TH i))
    let d := d.setVar V.antBelow i (d.var V.antBelow i + 1)
    let d := d.when (decide (10 ≤ d.var V.antBelow i)) (fun a => a.setVar V.antTry i 0)
    let d := (d.setVar V.antOk i (if low then 0 else d.var V.antOk i + 1)).setVar V.antOpen i (if low then d.var V.antOpen i + 1 else 0)
    if 10 ≤ d.var V.antOk i then (d.set F.GNRF_ANT_STAT_RETRYCNT i 0).antTo i 1
    else if 10 ≤ d.var V.antOpen i then d.antTo i 2
    else d

theorem Dev.antMeasure_running (hrun : d.running 0x10 = true) (i ma : Nat) (limit volt : Bool) :
    d.antMeasure i ma limit volt = ((d.set F.GNRF_ANT_STAT_IBIAS i (min ma 255)).antJudged i ma limit volt).antNoted i := by
  rw [Dev.antMeasure, hrun, Bool.not_true, if_neg Bool.false_ne_true]
  rfl

section
variable {i ma : Nat} (hen : d.get F.GNRF_ANT_CFG_BIASEN i = 1) (hbias : d.var V.antBias i ≠ 0) (hst : d.get F.GNRF_ANT_STAT_STATE i ≠ 7)
include hen hbias hst

/-- The tenth current in a row from the open threshold up to the limit makes the antenna OK. -/
theorem Dev.antJudged_ok (volt : Bool) (hth : openTh (d.get F.GNRF_ANT_CFG_OPEN_TH i) ≤ ma) (hok : 9 ≤ d.var V.antOk i) :
    d.antJudged i ma false volt = ((d.antCounted i).set F.GNRF_ANT_STAT_RETRYCNT i 0).antState i 1 := by
  have hten : 10 ≤ (d.antCounted i).var V.antOk i := by rw [Dev.antCounted_ok]; omega
  have hto : ((d.antCounted i).set F.GNRF_ANT_STAT_RETRYCNT i 0).antTo i 1 = ((d.antCounted i).set F.GNRF_ANT_STAT_RETRYCNT i 0).antState i 1 := by
    rw [Dev.antTo, Dev.get_set_kid _ _ _ _ (by decide), Dev.antCounted_get, if_neg hst]
  rw [← hto]
  simp only [Dev.antJudged, hst, false_and, Dev.on, hen, hbias, Nat.not_lt.mpr hth, BEq.rfl, Bool.not_true, Bool.false_eq_true, if_false, decide_false]
  exact if_pos hten

/-- The limit active for 1 ms trips the antenna. -/
theorem Dev.antJudged_limit (volt : Bool) : d.antJudged i ma true volt = d.antShort i := by
  simp only [Dev.antJudged, hst, false_and, Dev.on, hen, hbias, BEq.rfl, Bool.not_true, Bool.false_eq_true, if_false, if_true]

end

/-- With RETRY 0 a trip latches. -/
theorem Dev.antShort_latches {i : Nat} (hretry : d.get F.GNRF_ANT_CFG_RETRY i ≠ 1) :
    (d.antShort i).get F.GNRF_ANT_STAT_STATE i = 4 ∧ (d.antShort i).var V.antBias i = 0 := by
  have hoff : ∀ n : Dev, n.get F.GNRF_ANT_CFG_RETRY i = d.get F.GNRF_ANT_CFG_RETRY i → (!n.on F.GNRF_ANT_CFG_RETRY i) = true := fun n hn => by
    simp [Dev.on, hn, hretry]
  unfold Dev.antShort
  extract_lets again d₁ d₂
  have hgo : (!d₂.on F.GNRF_ANT_CFG_RETRY i || (again && decide (8 ≤ d₂.get F.GNRF_ANT_STAT_RETRYCNT i))) = true := by
    rw [hoff d₂, Bool.true_or]
    show d₁.get _ _ = _
    simp only [d₁]
    split
    · exact Dev.get_set_kid _ _ _ _ (by decide)
    · rfl
  rw [if_pos hgo]
  exact ⟨Dev.antState_shows _ _ (by decide), by rw [Dev.antState_var _ _ _ (by decide)]; simp +decide [d₂, Dev.var_setVar]⟩

section
variable (i : Fin 3) (ma : BitVec 16) (volt : Bool) (hrun : s.dev.running 0x10 = true) (hen : s.dev.get F.GNRF_ANT_CFG_BIASEN i = 1)
  (hbias : s.dev.var V.antBias i ≠ 0) (hst : s.dev.get F.GNRF_ANT_STAT_STATE i ≠ 7)
include hrun hen hbias hst

theorem antMeasure_ok_answers (hth : openTh (s.dev.get F.GNRF_ANT_CFG_OPEN_TH i) ≤ ma.toNat) (hok : 9 ≤ s.dev.var V.antOk i) :
    Answers (.antMeasure i ma false volt) s (fun t =>
      t.dev.get F.GNRF_ANT_STAT_STATE i = 1 ∧ t.dev.get F.GNRF_ANT_STAT_IBIAS i = min ma.toNat 255 ∧ t.dev.get F.GNRF_ANT_STAT_RETRYCNT i = 0) := by
  refine ⟨{ s with dev := s.dev.antMeasure i ma.toNat false volt }, rfl, ?_⟩
  dsimp only
  rw [Dev.antMeasure_running hrun, Dev.antJudged_ok (d := s.dev.set F.GNRF_ANT_STAT_IBIAS i (min ma.toNat 255)) _ hbias _ volt _ hok]
  · simp only [Dev.antNoted_get]
    refine ⟨Dev.antState_shows _ _ (by decide), ?_, ?_⟩
    · rw [Dev.antState_get _ _ _ (by unfold Scope.Keeps; decide), Dev.get_set_kid _ _ _ _ (by decide), Dev.antCounted_get, Dev.get_set_same]
      exact Nat.mod_eq_of_lt (Nat.lt_succ_of_le (Nat.min_le_right ..))
    · rw [Dev.antState_get _ _ _ (by unfold Scope.Keeps; decide), Dev.get_set_same]
      rfl
  all_goals rwa [Dev.get_set_kid _ _ _ _ (by decide)]

theorem antMeasure_limit_answers (hretry : s.dev.get F.GNRF_ANT_CFG_RETRY i ≠ 1) :
    Answers (.antMeasure i ma true volt) s (fun t => t.dev.get F.GNRF_ANT_STAT_STATE i = 4 ∧ t.dev.var V.antBias i = 0) := by
  refine ⟨{ s with dev := s.dev.antMeasure i ma.toNat true volt }, rfl, ?_⟩
  dsimp only
  rw [Dev.antMeasure_running hrun, Dev.antJudged_limit (d := s.dev.set F.GNRF_ANT_STAT_IBIAS i (min ma.toNat 255)) _ hbias]
  · rw [Dev.antNoted_get, Dev.antNoted_var _ _ (by decide)]
    exact Dev.antShort_latches (by rwa [Dev.get_set_kid _ _ _ _ (by decide)])
  all_goals rwa [Dev.get_set_kid _ _ _ _ (by decide)]

end

theorem antRetry_answers (i : Fin 3) (hst : s.dev.get F.GNRF_ANT_STAT_STATE i = 3) (hretry : s.dev.get F.GNRF_ANT_CFG_RETRY i = 1)
    (hbias : s.dev.var V.antBias i = 0) (hdue : s.dev.passed V.antTripAt i 1000000000 = true) :
    Answers (.antRetry i) s (fun t => t.dev.var V.antBias i = 1 ∧ t.dev.var V.antTry i = 1) := by
  refine ⟨{ s with dev := s.dev.antRetry i }, rfl, ?_⟩
  have hgo : (s.dev.get F.GNRF_ANT_STAT_STATE i == 3 && s.dev.on F.GNRF_ANT_CFG_RETRY i && s.dev.var V.antBias i == 0 &&
      s.dev.passed V.antTripAt i 1000000000) = true := by
    simp [Dev.on, hst, hretry, hbias, hdue]
  dsimp only
  rw [Dev.antRetry, if_pos hgo]
  simp +decide [Dev.var_setVar]

/-- BIASEN takes another value: the bias follows it, and the counts of measurements restart (R109). -/
def Dev.antBiasSet (d : Dev) (i : Nat) (en : Bool) : Dev :=
  let d := ((d.set F.GNRF_ANT_CFG_BIASEN i (bit en)).setVar V.antBias i (bit en)).setVar V.antTry i 0
  let d := ((d.setVar V.antOk i 0).setVar V.antOpen i 0).setVar V.antBelow i 0
  if en then d else if d.get F.GNRF_ANT_STAT_STATE i = 7 then d.setVar V.antPrev i 0 else d.antState i 0

theorem Dev.antBiasSet_shows (d : Dev) (i : Nat) (en : Bool) :
    (d.antBiasSet i en).get F.GNRF_ANT_CFG_BIASEN i = bit en ∧ (d.antBiasSet i en).var V.antBias i = bit en := by
  cases en with
  | true => simp +decide [Dev.antBiasSet, Dev.var_setVar]
  | false =>
    simp only [Dev.antBiasSet, Bool.false_eq_true, if_false]
    split
    case isTrue => simp +decide [Dev.var_setVar]
    case isFalse =>
      rw [Dev.antState_get _ _ _ (by unfold Scope.Keeps; decide), Dev.antState_var _ _ _ (by decide)]
      simp +decide [Dev.var_setVar]

theorem antBiasWrite_answers (en : Bool) (ht : Taken s 0x10 a) (hc : s.dev.chSel 0x10 a < 3) : Answers (.antBiasWrite a en) s (fun t =>
    t.dev.on F.GNRF_ANT_CFG_BIASEN (s.dev.chSel 0x10 a) = en ∧
    (s.dev.on F.GNRF_ANT_CFG_BIASEN (s.dev.chSel 0x10 a) = false → en = true → t.dev.var V.antBias (s.dev.chSel 0x10 a) = 1) ∧
    (s.dev.on F.GNRF_ANT_CFG_BIASEN (s.dev.chSel 0x10 a) = true → en = false → t.dev.var V.antBias (s.dev.chSel 0x10 a) = 0)) := by
  have hx : exec (.antBiasWrite a en) s = execAntBiasWrite a en s := rfl
  rw [execAntBiasWrite, upd_wrCh_taken ht hc] at hx
  refine ⟨_, hx, ?_⟩
  obtain ⟨e, he⟩ : ∃ e, e = (s.dev.counted 0x10 a.bank.val).cone 0x10 7 := ⟨_, rfl⟩
  generalize s.dev.chSel 0x10 a = i
  have hon : e.on F.GNRF_ANT_CFG_BIASEN i = s.dev.on F.GNRF_ANT_CFG_BIASEN i := by
    rw [he, Dev.on, Dev.cone_get _ _ _ _ _ _ (by decide), Dev.counted_get _ _ _ _ (by decide)]; rfl
  obtain ⟨hbit, hbias⟩ := e.antBiasSet_shows i en
  rw [← he]
  by_cases hsame : e.on F.GNRF_ANT_CFG_BIASEN i = en
  · rw [if_pos (beq_iff_eq.mpr hsame)]
    rw [hon] at hsame
    rw [hsame]
    exact ⟨hon.trans hsame, fun h h' => absurd (h.symm.trans h') (by decide), fun h h' => absurd (h.symm.trans h') (by decide)⟩
  · rw [if_neg (mt beq_iff_eq.mp hsame)]
    refine ⟨?_, fun _ h => ?_, fun _ h => ?_⟩
    · show ((e.antBiasSet i en).get F.GNRF_ANT_CFG_BIASEN i == 1) = en
      rw [hbit]
      cases en <;> rfl
    · exact hbias.trans (by rw [h]; rfl)
    · exact hbias.trans (by rw [h]; rfl)

/-! ### Sample links (R109, R112 to R114) -/

/-- A bit of a three-bit field that is set clears by a subtraction. -/
theorem tbit_sub_pow (n : Nat) (c : Fin 3) (h : tbit n c = true) : tbit ((n - 2 ^ c.val) % 2 ^ 3) c = false := by
  fin_cases c <;> simp [tbit] at h ⊢ <;> omega

/-- A bit of a three-bit field that is clear sets by an addition. -/
theorem tbit_add_pow (n : Nat) (c : Fin 3) (h : tbit n c = false) : tbit ((n + 2 ^ c.val) % 2 ^ 3) c = true := by
  fin_cases c <;> simp [tbit] at h ⊢ <;> omega

/-- The fields that the loss of a path's samples writes. -/
def pathLostFlds : List Fld := acqEndFlds ++ [F.GNTK_CH_STAT_AMB, F.GNTK_CH_STAT_STATE]

theorem Dev.pathDown_get (d : Dev) (p : Nat) {g : Fld} (hg : Scope.Keeps { flds := pathLostFlds } g) (j : Nat) : (d.pathDown p).get g j = d.get g j :=
  Dev.get_of_view (Dev.view_pathDown d p (List.Subset.refl _)) hg j

/-- The link of a chip no longer locks, nor is it calibrated (R114). -/
def Dev.linkDown (d : Dev) (c : Nat) : Dev :=
  let d := d.set F.GNRF_LINK_LOCK 0 (d.get F.GNRF_LINK_LOCK 0 - 2 ^ c)
  if tbit (d.get F.GNRF_LINK_CALDONE 0) c then d.set F.GNRF_LINK_CALDONE 0 (d.get F.GNRF_LINK_CALDONE 0 - 2 ^ c) else d

theorem Dev.linkDown_lock (d : Dev) (c : Nat) : (d.linkDown c).get F.GNRF_LINK_LOCK 0 = (d.get F.GNRF_LINK_LOCK 0 - 2 ^ c) % 2 ^ 3 := by
  unfold Dev.linkDown
  dsimp only
  split
  · rw [Dev.get_set_kid _ _ _ _ (by decide), Dev.get_set_same]; rfl
  · rw [Dev.get_set_same]; rfl

theorem Dev.linkDown_besides (d : Dev) (c : Nat) (vl : List Vr) : (d.linkDown c).besides vl = d.besides vl := by
  simp [Dev.linkDown]

/-- LINKDOWN overrides the antenna's state (R109). -/
def Dev.antDown (d : Dev) (c : Nat) : Dev := ((d.setVar V.antPrev c (d.get F.GNRF_ANT_STAT_STATE c)).antState c 7).irq 0x10 (16 + c)

/-- The three paths of a chip turn invalid. -/
def Dev.pathsDown (d : Dev) (c : Nat) : Dev := ((d.pathDown (3 * c)).pathDown (3 * c + 1)).pathDown (3 * c + 2)

theorem Dev.pathsDown_get (d : Dev) (c : Nat) {g : Fld} (hg : Scope.Keeps { flds := pathLostFlds } g) (j : Nat) : (d.pathsDown c).get g j = d.get g j := by
  rw [Dev.pathsDown, Dev.pathDown_get _ _ hg, Dev.pathDown_get _ _ hg, Dev.pathDown_get _ _ hg]

theorem Dev.rfLinkLoss_locked {c : Nat} (h : tbit (d.get F.GNRF_LINK_LOCK 0) c = true) :
    d.rfLinkLoss c = (((d.linkDown c).antDown c).pathsDown c).errBlk 0x10 1 1 := by
  rw [Dev.rfLinkLoss, h, Bool.not_true, if_neg Bool.false_ne_true]
  rfl

theorem Dev.antDown_state (d : Dev) (c : Nat) : (d.antDown c).get F.GNRF_ANT_STAT_STATE c = 7 := by
  rw [Dev.antDown, Dev.irq_get _ _ _ _ _ (by decide), Dev.antState_shows _ _ (by decide)]

theorem Dev.antDown_lock (d : Dev) (c : Nat) : (d.antDown c).get F.GNRF_LINK_LOCK 0 = d.get F.GNRF_LINK_LOCK 0 := by
  rw [Dev.antDown, Dev.irq_get _ _ _ _ _ (by decide), Dev.antState_get _ _ _ (by unfold Scope.Keeps; decide)]; rfl

theorem Dev.antDown_reports (d : Dev) (c : Nat) : (d.antDown c).reports = d.reports :=
  Dev.reports_of_besides (vl := [V.pfAnt, V.antPrev]) (by simp [Dev.antDown])

theorem rfLinkLoss_answers (c : Fin 3) (h : tbit (s.dev.get F.GNRF_LINK_LOCK 0) c = true) : Answers (.rfLinkLoss c) s (fun t =>
    tbit (t.dev.get F.GNRF_LINK_LOCK 0) c = false ∧ t.dev.get F.GNRF_ANT_STAT_STATE c = 7 ∧ t.dev.var V.pathValid (3 * c.val) = 0 ∧
    t.dev.var V.pathValid (3 * c.val + 1) = 0 ∧ t.dev.var V.pathValid (3 * c.val + 2) = 0 ∧ Reported s t 0x10 1 0x0201) := by
  refine ⟨{ s with dev := s.dev.rfLinkLoss c }, rfl, ?_⟩
  rw [Dev.rfLinkLoss_locked h]
  refine ⟨?_, ?_, ?_, ?_, ?_, ?_⟩
  · rw [Dev.errBlk_get _ _ _ _ _ _ _ (by decide), Dev.pathsDown_get _ _ (by unfold Scope.Keeps; decide), Dev.antDown_lock, Dev.linkDown_lock]
    exact tbit_sub_pow _ c h
  · rw [Dev.errBlk_get _ _ _ _ _ _ _ (by decide), Dev.pathsDown_get _ _ (by unfold Scope.Keeps; decide), Dev.antDown_state]
  · simp [Dev.pathsDown, Dev.pathDown_pathValid]
  · simp [Dev.pathsDown, Dev.pathDown_pathValid]
  · simp [Dev.pathsDown, Dev.pathDown_pathValid]
  · obtain ⟨w, hw⟩ := (((s.dev.linkDown c).antDown c).pathsDown c).errBlk_reports 0x10 1 1 []
    rw [Dev.pathsDown, Dev.pathDown_reports, Dev.pathDown_reports, Dev.pathDown_reports, Dev.antDown_reports,
      Dev.reports_of_besides (Dev.linkDown_besides s.dev c []), ← Dev.pathsDown] at hw
    rw [Reported, hw, List.drop_left]
    exact ⟨_, .head _, rfl, rfl, rfl⟩

theorem rfLinkRelock_answers (c : Fin 3) (hrun : s.dev.running 0x10 = true) (h : tbit (s.dev.get F.GNRF_LINK_LOCK 0) c = false) :
    Answers (.rfLinkRelock c) s (fun t => tbit (t.dev.get F.GNRF_LINK_LOCK 0) c = true) := by
  refine ⟨{ s with dev := s.dev.rfLinkRelock c }, rfl, ?_⟩
  dsimp only
  rw [Dev.rfLinkRelock, hrun, h, Bool.not_false, Bool.and_self, if_pos rfl]
  simp only [Dev.get_setVar, Dev.get_set_same]
  exact tbit_add_pow _ c h

theorem rfLinkCalibrated_answers (c : Fin 3) (hlock : tbit (s.dev.get F.GNRF_LINK_LOCK 0) c = true)
    (hcal : tbit (s.dev.get F.GNRF_LINK_CALDONE 0) c = false) : Answers (.rfLinkCalibrated c) s (fun t =>
      tbit (t.dev.get F.GNRF_LINK_CALDONE 0) c = true ∧ t.dev.var V.pathValid (3 * c.val) = 1 ∧
      (s.dev.var V.retuneOn c ≠ 1 → t.dev.var V.pathValid (3 * c.val + 1) = 1 ∧ t.dev.var V.pathValid (3 * c.val + 2) = 1)) := by
  refine ⟨{ s with dev := s.dev.rfLinkCalibrated c }, rfl, ?_⟩
  dsimp only
  rw [Dev.rfLinkCalibrated, hlock, hcal, Bool.not_false, Bool.and_self, if_pos rfl]
  extract_lets d₁ d₂
  have hend : ∀ P : Dev → Prop, P d₂ → P (d₂.antState c (d₂.var V.antPrev c).toNat) →
      P (if d₂.get F.GNRF_ANT_STAT_STATE c = 7 then d₂.antState c (d₂.var V.antPrev c).toNat else d₂) := fun P h h' => by split <;> assumption
  have hvar : ∀ j, (if d₂.get F.GNRF_ANT_STAT_STATE c = 7 then d₂.antState c (d₂.var V.antPrev c).toNat else d₂).var V.pathValid j = d₂.var V.pathValid j :=
    fun j => hend (fun e => e.var V.pathValid j = d₂.var V.pathValid j) rfl (Dev.antState_var _ _ _ (by decide) j)
  have hget := hend (fun e => e.get F.GNRF_LINK_CALDONE 0 = d₂.get F.GNRF_LINK_CALDONE 0) rfl (Dev.antState_get _ _ _ (by unfold Scope.Keeps; decide) 0)
  have hd₂ : d₂.get F.GNRF_LINK_CALDONE 0 = d₁.get F.GNRF_LINK_CALDONE 0 := by simp only [d₂]; split <;> rfl
  have hretune : d₁.var V.retuneOn c = s.dev.var V.retuneOn c := Dev.var_setVar_id _ _ _ _ (by decide)
  rw [hvar, hvar, hvar, hget, hd₂]
  refine ⟨?_, ?_, fun hno => ?_⟩
  · rw [Dev.get_setVar, Dev.get_set_same]
    exact tbit_add_pow _ c hcal
  · simp only [d₂, hretune]
    split <;> simp +decide [d₁, Dev.var_setVar]
  · simp only [d₂, hretune, if_neg hno]
    simp [Dev.var_setVar]

theorem bmodeRetuneEnd_answers (c : Fin 3) (hon : s.dev.var V.retuneOn c = 1) (hdue : s.dev.passed V.retuneAt c 200000 = true)
    (hcal : tbit (s.dev.get F.GNRF_LINK_CALDONE 0) c = true) : Answers (.bmodeRetuneEnd c) s (fun t =>
      t.dev.var V.retuneOn c = 0 ∧ t.dev.var V.pathValid (3 * c.val + 1) = 1 ∧ t.dev.var V.pathValid (3 * c.val + 2) = 1) := by
  refine ⟨{ s with dev := s.dev.retuneEnd c }, rfl, ?_⟩
  have hgo : (s.dev.var V.retuneOn c == 1 && s.dev.passed V.retuneAt c 200000) = true := by simp [hon, hdue]
  dsimp only
  rw [Dev.retuneEnd, hgo, if_pos rfl]
  simp +decide [hcal, Dev.var_setVar]

/-- Settles O4: each clause is what its command answers; what a lost path ends, channels and captures, touches neither the links nor the antennas. -/
theorem antennaBiasAndSampleLinks : Obligations.AntennaBiasAndSampleLinks :=
  ⟨fun _ i ma volt hrun hen hbias hst hth hok => antMeasure_ok_answers i ma volt hrun hen hbias hst hth hok,
    fun _ i ma volt hrun hen hbias hst hretry => antMeasure_limit_answers i ma volt hrun hen hbias hst hretry,
    fun _ i hst hretry hbias hdue => antRetry_answers i hst hretry hbias hdue, fun _ _ en ht hc => antBiasWrite_answers en ht hc,
    fun _ c h => rfLinkLoss_answers c h, fun _ c hrun h => rfLinkRelock_answers c hrun h, fun _ c hlock hcal => rfLinkCalibrated_answers c hlock hcal,
    fun _ c hon hdue hcal => bmodeRetuneEnd_answers c hon hdue hcal⟩

end Sys2Proof.Machine
end

section
/-! ## A pass over the indices of a list -/

namespace Sys2Proof.Machine

/-- What a pass does to one of its indices, which the other steps neither read nor change: what the step at that index does. -/
theorem Dev.each_at {α : Type} (view : Dev → α) (k : Nat → Dev → Dev) {l : List Nat} (hl : l.Nodup) {i : Nat} (hi : i ∈ l)
    (hother : ∀ j ∈ l, j ≠ i → ∀ a, view (k j a) = view a) (hown : ∀ a b, view a = view b → view (k i a) = view (k i b)) (d : Dev) :
    view (d.each l k) = view (k i d) := by
  obtain ⟨before, after, rfl⟩ := List.append_of_mem hi
  have hnot : i ∉ before ∧ i ∉ after := by
    rw [List.nodup_middle, List.nodup_cons, List.mem_append, not_or] at hl
    exact hl.1
  have hkeep : ∀ m, (∀ j ∈ m, j ∈ before ++ i :: after) → i ∉ m → ∀ a : Dev, view (a.each m k) = view a := fun m hsub him a =>
    Dev.each_keeps view k m a fun j hj b => hother j (hsub j hj) (fun e => him (e ▸ hj)) b
  have hsplit : d.each (before ++ i :: after) k = (k i (d.each before k)).each after k := by
    simp only [Dev.each, List.foldl_append, List.foldl_cons]
  rw [hsplit, hkeep after (fun j hj => by simp [hj]) hnot.2]
  exact hown _ _ (hkeep before (fun j hj => by simp [hj]) hnot.1 d)

end Sys2Proof.Machine
end

section
/-! ## Signed fields -/

namespace Sys2Proof

/-- An integer in the range of two's complement is read back from its bits. -/
theorem ofBits_toBits {w : Nat} {v : Int} (hw : 0 < w) (hlo : -(2 ^ (w - 1) : Nat) ≤ v) (hhi : v < (2 ^ (w - 1) : Nat)) :
    ofBits w (toBits w v % 2 ^ w) = v := by
  have hdouble : 2 ^ w = 2 * 2 ^ (w - 1) := (mul_pow_sub_one hw.ne' 2).symm
  obtain ⟨m, hm⟩ : ∃ m, m = 2 ^ (w - 1) := ⟨_, rfl⟩
  rw [← hm] at hlo hhi hdouble
  have hbits : ((toBits w v : Nat) : Int) = if 0 ≤ v then v else v + 2 * m := by
    have hpos : (0 : Int) < (2 * m : Nat) := by omega
    rw [toBits, hdouble, Int.toNat_of_nonneg (Int.emod_nonneg _ hpos.ne')]
    split
    · exact Int.emod_eq_of_lt (by omega) (by omega)
    · rw [← Int.add_emod_right, Int.emod_eq_of_lt (by omega) (by omega)]
      push_cast
      rfl
  rw [Nat.mod_eq_of_lt (by split at hbits <;> omega), ofBits, ← hm, hdouble]
  split at hbits <;> split <;> omega

theorem clamp_mem {lo hi : Int} (h : lo ≤ hi) (v : Int) : lo ≤ clamp lo hi v ∧ clamp lo hi v ≤ hi := by
  unfold clamp
  split
  · omega
  · split <;> omega

end Sys2Proof

namespace Sys2Proof.Machine

theorem Dev.getI_setI_same (d : Dev) (f : Fld) (i : Nat) {v : Int} (hw : 0 < f.width) (hlo : -(2 ^ (f.width - 1) : Nat) ≤ v)
    (hhi : v < (2 ^ (f.width - 1) : Nat)) : (d.setI f i v).getI f i = v := by
  rw [Dev.getI, Dev.setI, Dev.get_set_same, ofBits_toBits hw hlo hhi]

theorem Dev.getI_of_get {d e : Dev} {f : Fld} {i : Nat} (h : d.get f i = e.get f i) : d.getI f i = e.getI f i := by
  rw [Dev.getI, Dev.getI, h]

end Sys2Proof.Machine
end

section
/-! ## AGC, spectrum and notches (R115 to R117, R138, R139) -/

namespace Sys2Proof.Machine

variable {s : State} {d : Dev} {a : Acc}

/-! ### AGC_UPDATE -/

/-- One path's AGC over a millisecond (R115, R139), and the clipped samples of captures on the path (R132). -/
def Dev.agcPath (m : List AgcIn) (p : Nat) (d : Dev) : Dev :=
  let x := m.getD p ⟨0, 0⟩
  let d := ((d.set F.GNRF_AGC_STAT_RMS p (min x.rms 4095)).set F.GNRF_AGC_STAT_SATCNT p (min (x.sat / 1024) 255)).set
    F.GNRF_AGC_STAT_GAIN p (agcGain (d.get F.GNRF_PATH_CFG_AGCMODE.act p) (d.get F.GNRF_AGC_CFG_MANGAIN.act p)
      (d.get F.GNRF_AGC_STAT_GAIN p) (d.get F.GNRF_AGC_CFG_TARGET.act p) (min x.rms 4095))
  let d := d.setVar V.pfSat p (d.var V.pfSat p + x.sat)
  d.each [0, 1, 2] (fun e b =>
    if b.var V.acqPhase e = 3 ∧ b.acqPath (b.acqEnt e) = p ∧ 0 < b.since V.acqCapAt e then b.setVar V.acqClip e (b.var V.acqClip e + x.sat) else b)

theorem Dev.agcPath_get (m : List AgcIn) (p : Nat) (d : Dev) (g : Fld) (j : Nat) : (d.agcPath m p).get g j =
    (((d.set F.GNRF_AGC_STAT_RMS p (min (m.getD p ⟨0, 0⟩).rms 4095)).set F.GNRF_AGC_STAT_SATCNT p (min ((m.getD p ⟨0, 0⟩).sat / 1024) 255)).set
      F.GNRF_AGC_STAT_GAIN p (agcGain (d.get F.GNRF_PATH_CFG_AGCMODE.act p) (d.get F.GNRF_AGC_CFG_MANGAIN.act p)
        (d.get F.GNRF_AGC_STAT_GAIN p) (d.get F.GNRF_AGC_CFG_TARGET.act p) (min (m.getD p ⟨0, 0⟩).rms 4095))).get g j :=
  Dev.each_keeps (fun b => b.get g j) _ _ _ fun e _ b => by split <;> rfl

/-- The device with the errors of the links counted, at the boundary of GNRF's fields (R136, R139). -/
def Dev.agcBegun (d : Dev) (errs : Nat) : Dev := ((d.setVar V.pfMs 0 (d.var V.pfMs 0 + 1)).incSat F.GNRF_LINKERR_CNT 0 errs).boundary 0x10 wideUnit

theorem Dev.agcUpdate_tick (hrun : d.running 0x10 = true) (htick : d.var V.uptime 0 = d.var V.lastTick 0) (m : List AgcIn) (errs : Nat) :
    d.agcUpdate m errs = (d.agcBegun errs).each (List.range 9) (Dev.agcPath m) := by
  have hgo : (!d.running 0x10 || !d.atTick) = false := by simp [Dev.atTick, hrun, htick]
  rw [Dev.agcUpdate, hgo, if_neg Bool.false_ne_true]
  rfl

/-- What AGC shows of a path, and the settings it reads. -/
def Dev.agcShown (p : Nat) (d : Dev) : Nat × Nat × Nat × Nat × Nat × Nat :=
  (d.get F.GNRF_AGC_STAT_RMS p, d.get F.GNRF_AGC_STAT_SATCNT p, d.get F.GNRF_AGC_STAT_GAIN p,
    d.get F.GNRF_PATH_CFG_AGCMODE.act p, d.get F.GNRF_AGC_CFG_MANGAIN.act p, d.get F.GNRF_AGC_CFG_TARGET.act p)

theorem Dev.agcPath_ne {p q : Nat} (h : q ≠ p) (m : List AgcIn) (d : Dev) : (d.agcPath m q).agcShown p = d.agcShown p := by
  simp only [Dev.agcShown, Dev.agcPath_get, Dev.get_set_ix _ _ h.symm]

theorem Dev.agcPath_congr {e : Dev} {p : Nat} (m : List AgcIn) (h : d.agcShown p = e.agcShown p) : (d.agcPath m p).agcShown p = (e.agcPath m p).agcShown p := by
  simp only [Dev.agcShown, Prod.mk.injEq] at h
  obtain ⟨-, -, hgain, hmode, hman, htarget⟩ := h
  simp +decide only [Dev.agcShown, Dev.agcPath_get, Dev.get_set, hgain, hmode, hman, htarget, and_true, if_true, if_false]

theorem agcUpdate_answers (m : List AgcIn) (errs : BitVec 32) (p : Fin 9) (hrun : s.dev.running 0x10 = true)
    (htick : s.dev.var V.uptime 0 = s.dev.var V.lastTick 0) : Answers (.agcUpdate ⟨m, errs⟩) s (fun t =>
      t.dev.get F.GNRF_AGC_STAT_RMS p = min (m.getD p ⟨0, 0⟩).rms 4095 ∧
      t.dev.get F.GNRF_AGC_STAT_SATCNT p = min ((m.getD p ⟨0, 0⟩).sat / 1024) 255 ∧
      t.dev.get F.GNRF_AGC_STAT_GAIN p = agcGain (s.dev.get F.GNRF_PATH_CFG_AGCMODE.act p) (s.dev.get F.GNRF_AGC_CFG_MANGAIN.act p)
        (s.dev.get F.GNRF_AGC_STAT_GAIN p) (s.dev.get F.GNRF_AGC_CFG_TARGET.act p) (min (m.getD p ⟨0, 0⟩).rms 4095) % 2 ^ F.GNRF_AGC_STAT_GAIN.width ∧
      t.dev.get F.GNRF_LINKERR_CNT 0 = min (s.dev.get F.GNRF_LINKERR_CNT 0 + errs.toNat) (2 ^ F.GNRF_LINKERR_CNT.width - 1)) := by
  refine ⟨{ s with dev := s.dev.agcUpdate m errs.toNat }, rfl, ?_⟩
  have hpath := Dev.each_at (Dev.agcShown p) (Dev.agcPath m) List.nodup_range (List.mem_range.mpr p.isLt) (fun _ _ hq b => Dev.agcPath_ne hq m b)
    (fun _ _ h => Dev.agcPath_congr m h) (s.dev.agcBegun errs.toNat)
  have herrs : ((s.dev.agcBegun errs.toNat).each (List.range 9) (Dev.agcPath m)).get F.GNRF_LINKERR_CNT 0 =
      (s.dev.agcBegun errs.toNat).get F.GNRF_LINKERR_CNT 0 :=
    Dev.each_keeps (fun b => b.get F.GNRF_LINKERR_CNT 0) _ _ _ fun q _ b => by
      rw [Dev.agcPath_get, Dev.get_set_kid _ _ _ _ (by decide), Dev.get_set_kid _ _ _ _ (by decide), Dev.get_set_kid _ _ _ _ (by decide)]
  have hbegun : ∀ g : Fld, g.kid ≠ F.GNRF_LINKERR_CNT.kid → ∀ j, (s.dev.agcBegun errs.toNat).get g j = s.dev.get g j := fun g hg j =>
    Dev.get_set_kid _ _ _ _ hg
  simp +decide only [Dev.agcShown, Dev.agcPath_get, Dev.get_set, and_true, if_true, if_false, Prod.mk.injEq] at hpath
  obtain ⟨hrms, hsat, hgain, -⟩ := hpath
  dsimp only
  rw [Dev.agcUpdate_tick hrun htick, hrms, hsat, hgain, herrs]
  refine ⟨?_, ?_, ?_, ?_⟩
  · exact Nat.mod_eq_of_lt (Nat.lt_succ_of_le (Nat.min_le_right ..))
  · exact Nat.mod_eq_of_lt (Nat.lt_succ_of_le (Nat.min_le_right ..))
  · rw [hbegun F.GNRF_PATH_CFG_AGCMODE.act (by decide), hbegun F.GNRF_AGC_CFG_MANGAIN.act (by decide), hbegun F.GNRF_AGC_STAT_GAIN (by decide),
      hbegun F.GNRF_AGC_CFG_TARGET.act (by decide)]
  · exact Dev.get_incSat_same ..

/-! ### SPECTRAL_SCAN -/

/-- The monitor's bins lie within 102.3 MHz of the centre. -/
theorem binHz_mem {k : Nat} (h : k < 4096) : -(2 ^ 31 : Nat) ≤ binHz k ∧ binHz k < (2 ^ 31 : Nat) := by
  unfold binHz
  omega

theorem lineNear_lt {bins : List Int} {f : Int} {x : Nat × Int} (h : lineNear bins f = some x) : x.1 < 4096 := by
  unfold lineNear at h
  generalize hr : List.range 4096 = l at h
  refine List.foldlRecOn (motive := fun b : Option (Nat × Int) => ∀ x, b = some x → x.1 < 4096) l _ (by simp) ?_ x h
  intro b hb k hk x hx
  have hlt : k < 4096 := List.mem_range.mp (hr ▸ hk)
  split at hx
  case isFalse => exact hb x hx
  case isTrue =>
    split at hx
    case h_2 => obtain rfl := Option.some.inj hx; exact hlt
    case h_1 y =>
      split at hx
      · obtain rfl := Option.some.inj hx; exact hlt
      · exact hb x hx

/-- What the tracking of a notch reads and writes of its registers. -/
def Dev.notchShown (k : Nat) (d : Dev) : Nat × Nat × Nat :=
  (d.get F.GNRF_NOTCH_CFG_MODE.act k, d.get F.GNRF_NOTCH_STAT_ACTIVE k, d.get F.GNRF_NOTCH_FNOW_FNOW k)

/-- A held ADAPT notch goes to the strongest bin near it (R117); any other stays where it is. -/
theorem Dev.notchTrack_get (d : Dev) (p n : Nat) (bins : List Int) (nf : Int) (g : Fld) (j : Nat) : (d.notchTrack p n bins nf).get g j =
    if d.get F.GNRF_NOTCH_CFG_MODE.act (4 * p + n) ≠ 2 ∨ d.get F.GNRF_NOTCH_STAT_ACTIVE (4 * p + n) ≠ 1 then d.get g j
    else match lineNear bins (d.getI F.GNRF_NOTCH_FNOW_FNOW (4 * p + n)) with
      | none => d.get g j
      | some x => (d.setI F.GNRF_NOTCH_FNOW_FNOW (4 * p + n) (binHz x.1)).get g j := by
  by_cases hheld : d.get F.GNRF_NOTCH_CFG_MODE.act (4 * p + n) ≠ 2 ∨ d.get F.GNRF_NOTCH_STAT_ACTIVE (4 * p + n) ≠ 1
  · have hoff : (d.get F.GNRF_NOTCH_CFG_MODE.act (4 * p + n) != 2 || !d.on F.GNRF_NOTCH_STAT_ACTIVE (4 * p + n)) = true := by
      simpa [Dev.on] using hheld
    rw [if_pos hheld, Dev.notchTrack, if_pos hoff]
  · have hon : (d.get F.GNRF_NOTCH_CFG_MODE.act (4 * p + n) != 2 || !d.on F.GNRF_NOTCH_STAT_ACTIVE (4 * p + n)) = false := by
      simpa [Dev.on] using hheld
    rw [if_neg hheld, Dev.notchTrack, hon, if_neg Bool.false_ne_true]
    generalize lineNear bins (d.getI F.GNRF_NOTCH_FNOW_FNOW (4 * p + n)) = line
    cases line with
    | none => rfl
    | some x =>
      dsimp only
      repeat' split
      all_goals rfl

theorem Dev.notchTrack_ne {p n k : Nat} (h : k ≠ 4 * p + n) (bins : List Int) (nf : Int) (d : Dev) :
    (d.notchTrack p n bins nf).notchShown k = d.notchShown k := by
  have hget : ∀ g, (d.notchTrack p n bins nf).get g k = d.get g k := fun g => by
    rw [Dev.notchTrack_get]
    split
    · rfl
    · split
      · rfl
      · exact Dev.get_set_ix _ _ h
  simp only [Dev.notchShown, hget]

theorem Dev.notchTrack_congr {e : Dev} {p n : Nat} (bins : List Int) (nf : Int) (h : d.notchShown (4 * p + n) = e.notchShown (4 * p + n)) :
    (d.notchTrack p n bins nf).notchShown (4 * p + n) = (e.notchTrack p n bins nf).notchShown (4 * p + n) := by
  simp only [Dev.notchShown, Prod.mk.injEq] at h
  obtain ⟨hmode, hactive, hfnow⟩ := h
  have hget : ∀ g, d.get g (4 * p + n) = e.get g (4 * p + n) → (d.notchTrack p n bins nf).get g (4 * p + n) = (e.notchTrack p n bins nf).get g (4 * p + n) :=
    fun g hg => by simp only [Dev.notchTrack_get, hmode, hactive, Dev.getI_of_get hfnow, Dev.setI, Dev.get_set, hg]
  simp only [Dev.notchShown, hget _ hmode, hget _ hactive, hget _ hfnow]

/-- The floor and the strongest bin above it are shown, and the bins are kept (R116). -/
def Dev.scanned (d : Dev) (p : Nat) (bins : List Int) : Dev :=
  ((d.setI F.GNRF_SPEC_STAT_NF p (clamp (-32768) 32767 (median bins))).set F.GNRF_SPEC_STAT_PEAKDB p
    (min (bins.foldl max (median bins) - median bins).toNat 0xFFFF)).setPast 10 p (bins.map (fun x => (median bins, x)))

theorem Dev.spectralScan_running (hrun : d.running 0x10 = true) (p : Nat) (bins : List Int) :
    d.spectralScan p bins = (d.scanned p bins).each (List.range 4) (fun n a => a.notchTrack p n bins (median bins)) := by
  rw [Dev.spectralScan, hrun, Bool.not_true, if_neg Bool.false_ne_true]
  rfl

theorem Dev.scanned_get (d : Dev) (p : Nat) (bins : List Int) {g : Fld} (hn : g.kid ≠ F.GNRF_SPEC_STAT_NF.kid) (hp : g.kid ≠ F.GNRF_SPEC_STAT_PEAKDB.kid)
    (j : Nat) : (d.scanned p bins).get g j = d.get g j :=
  (Dev.get_set_kid _ _ _ _ hp).trans (Dev.get_set_kid _ _ _ _ hn)

theorem Dev.scanned_nf (d : Dev) (p : Nat) (bins : List Int) : (d.scanned p bins).get F.GNRF_SPEC_STAT_NF p =
    (d.setI F.GNRF_SPEC_STAT_NF p (clamp (-32768) 32767 (median bins))).get F.GNRF_SPEC_STAT_NF p :=
  Dev.get_set_kid _ _ _ _ (by decide)

theorem spectralScan_answers (p : Fin 9) (n : Fin 4) (bins : List Int) (hrun : s.dev.running 0x10 = true) : Answers (.spectralScan p bins ()) s (fun t =>
    t.dev.getI F.GNRF_SPEC_STAT_NF p = clamp (-32768) 32767 (median bins) ∧
    t.dev.get F.GNRF_SPEC_STAT_PEAKDB p = min (bins.foldl max (median bins) - median bins).toNat 65535 ∧
    (s.dev.get F.GNRF_NOTCH_CFG_MODE.act (4 * p.val + n.val) = 2 → s.dev.get F.GNRF_NOTCH_STAT_ACTIVE (4 * p.val + n.val) = 1 →
      (lineNear bins (s.dev.getI F.GNRF_NOTCH_FNOW_FNOW (4 * p.val + n.val))).all
        (fun x => t.dev.getI F.GNRF_NOTCH_FNOW_FNOW (4 * p.val + n.val) == binHz x.1) = true)) := by
  refine ⟨{ s with dev := s.dev.spectralScan p bins }, rfl, ?_⟩
  have hview : ((s.dev.scanned p bins).each (List.range 4) (fun n a => a.notchTrack p n bins (median bins))).view { flds := [F.GNRF_NOTCH_FNOW_FNOW] } =
      (s.dev.scanned p bins).view { flds := [F.GNRF_NOTCH_FNOW_FNOW] } := by simp
  have hown := Dev.each_at (Dev.notchShown (4 * p + n)) (fun n a => a.notchTrack p n bins (median bins)) List.nodup_range (List.mem_range.mpr n.isLt)
    (fun q _ hq b => Dev.notchTrack_ne (by omega) bins (median bins) b) (fun _ _ h => Dev.notchTrack_congr bins (median bins) h) (s.dev.scanned p bins)
  dsimp only
  rw [Dev.spectralScan_running hrun]
  refine ⟨?_, ?_, fun hmode hactive => ?_⟩
  · obtain ⟨hlo, hhi⟩ := clamp_mem (lo := -32768) (hi := 32767) (by decide) (median bins)
    rw [Dev.getI_of_get (Dev.get_of_view hview (by unfold Scope.Keeps; decide) p),
      Dev.getI_of_get (s.dev.scanned_nf p bins)]
    exact Dev.getI_setI_same _ _ _ (by decide) hlo (by show _ < ((32768 : Nat) : Int); omega)
  · rw [Dev.get_of_view hview (by unfold Scope.Keeps; decide)]
    exact (Dev.get_set_same ..).trans (Nat.mod_eq_of_lt (Nat.lt_succ_of_le (Nat.min_le_right ..)))
  · simp only [Dev.notchShown, Prod.mk.injEq] at hown
    obtain ⟨-, -, hfnow⟩ := hown
    rw [Option.all_eq_true]
    intro x hx
    have hkeep : ∀ g : Fld, g.kid ≠ F.GNRF_SPEC_STAT_NF.kid → g.kid ≠ F.GNRF_SPEC_STAT_PEAKDB.kid → ∀ j, (s.dev.scanned p bins).get g j = s.dev.get g j :=
      fun g hn hp j => Dev.scanned_get _ _ _ hn hp j
    have hline : lineNear bins ((s.dev.scanned p bins).getI F.GNRF_NOTCH_FNOW_FNOW (4 * p.val + n.val)) = some x := by
      rw [Dev.getI_of_get (hkeep _ (by decide) (by decide) _)]; exact hx
    obtain ⟨hlo, hhi⟩ := binHz_mem (lineNear_lt hx)
    rw [Dev.notchTrack_get, hkeep _ (by decide) (by decide), hkeep _ (by decide) (by decide), hmode, hactive, if_neg (by simp), hline] at hfnow
    rw [Dev.getI_of_get hfnow, Dev.getI_setI_same _ _ _ (by decide) hlo hhi]
    exact BEq.rfl

/-! ### NOTCH_ASSIGN and NOTCH_RELEASE -/

theorem Dev.notchChange_get (d : Dev) (p : Nat) {g : Fld} (hg : Scope.Keeps { flds := [] } g) (j : Nat) : (d.notchChange p).get g j = d.get g j :=
  Dev.get_of_view (Dev.view_notchChange d p) hg j

theorem Dev.notchTake_shows (d : Dev) (p n : Nat) {freq : Int} (lvl : Int) (hlo : -(2 ^ 31 : Nat) ≤ freq) (hhi : freq < (2 ^ 31 : Nat)) :
    (d.notchTake p n freq lvl).get F.GNRF_NOTCH_STAT_ACTIVE (4 * p + n) = 1 ∧
    (d.notchTake p n freq lvl).getI F.GNRF_NOTCH_FNOW_FNOW (4 * p + n) = freq ∧
    80 ≤ (d.notchTake p n freq lvl).get F.GNRF_NOTCH_STAT_ATTEN (4 * p + n) ∧
    (d.notchTake p n freq lvl).var V.notchLvl (4 * p + n) = lvl := by
  unfold Dev.notchTake
  refine ⟨?_, ?_, ?_, ?_⟩
  · rw [Dev.notchChange_get _ _ (by unfold Scope.Keeps; decide)]
    simp +decide [Dev.setI, Dev.get_set]
  · rw [Dev.getI_of_get (Dev.notchChange_get _ _ (by unfold Scope.Keeps; decide) _)]
    exact Dev.getI_setI_same _ _ _ (by decide) hlo hhi
  · rw [Dev.notchChange_get _ _ (by unfold Scope.Keeps; decide)]
    simp +decide only [Dev.setI, Dev.get_setVar, Dev.useFree_get, Dev.get_set, and_true, if_true, if_false]
    rw [show 2 ^ F.GNRF_NOTCH_STAT_ATTEN.width = 256 from rfl]
    omega
  · rw [Dev.var_of_besides (vl := [V.pfNotch, V.acqFlags]) (Dev.besides_notchChange _ _ (List.Subset.refl _)) (by decide)]
    simp +decide [Dev.var_setVar]

section
variable {p : Fin 9} {b : Fin 4096} {nf lv : Int} (hrun : s.dev.running 0x10 = true) (hbin : (s.dev.past 10 p)[b.val]? = some (nf, lv))
  (htick : s.dev.var V.uptime 0 = s.dev.var V.lastTick 0) (hfree : s.dev.notchOwned p b = false) (htop : s.dev.notchTop p lv = true)

include hrun htick hfree htop in
theorem Dev.notchAssign_due : (!s.dev.running 0x10 || !s.dev.atTick || s.dev.notchOwned p b || !s.dev.notchTop p lv) = false := by
  simp [Dev.atTick, hrun, htick, hfree, htop]

include hrun hbin htick hfree htop

/-- The strongest line that no notch holds goes to the first free notch. -/
theorem Dev.notchAssign_found {n : Nat} (hfind : (List.range 4).find? (s.dev.notchFree p (lv - nf)) = some n) :
    s.dev.notchAssign p b = s.dev.notchTake p n (binHz b) (lv - nf) := by
  rw [Dev.notchAssign, hbin]
  dsimp only
  rw [Dev.notchAssign_due hrun htick hfree htop, if_neg Bool.false_ne_true, hfind]

/-- With none free it takes the notch of the weakest line held, where it is strong enough. -/
theorem Dev.notchAssign_none {n : Nat} (hfind : (List.range 4).find? (s.dev.notchFree p (lv - nf)) = none) (hweak : s.dev.notchWeakest p = some n)
    (hth : 5 * (s.dev.get F.GNRF_NOTCH_CFG_DETTH.act (4 * p + n) : Int) < lv - nf) (hlvl : s.dev.var V.notchLvl (4 * p + n) + 30 ≤ lv - nf) :
    s.dev.notchAssign p b = s.dev.notchTake p n (binHz b) (lv - nf) := by
  rw [Dev.notchAssign, hbin]
  dsimp only
  rw [Dev.notchAssign_due hrun htick hfree htop, if_neg Bool.false_ne_true, hfind, hweak]
  exact if_pos ⟨hth, hlvl⟩

theorem notchAssign_free (n : Fin 4) (hn : s.dev.notchFree p (lv - nf) n = true) (hfirst : ∀ m < n.val, s.dev.notchFree p (lv - nf) m = false) :
    Answers (.notchAssign p b ()) s (fun t => t.dev.get F.GNRF_NOTCH_STAT_ACTIVE (4 * p.val + n.val) = 1 ∧
      t.dev.getI F.GNRF_NOTCH_FNOW_FNOW (4 * p.val + n.val) = binHz b.val ∧ 80 ≤ t.dev.get F.GNRF_NOTCH_STAT_ATTEN (4 * p.val + n.val)) := by
  refine ⟨{ s with dev := s.dev.notchAssign p b }, rfl, ?_⟩
  have hfind : (List.range 4).find? (s.dev.notchFree p (lv - nf)) = some n.val := by
    rw [List.find?_range_eq_some]
    exact ⟨hn, List.mem_range.mpr n.isLt, fun m hm => by rw [hfirst m hm]; rfl⟩
  obtain ⟨hlo, hhi⟩ := binHz_mem b.isLt
  obtain ⟨hactive, hfnow, hatten, -⟩ := s.dev.notchTake_shows p n (lv - nf) hlo hhi
  dsimp only
  rw [Dev.notchAssign_found hrun hbin htick hfree htop hfind]
  exact ⟨hactive, hfnow, hatten⟩

theorem notchAssign_takes (n : Fin 4) (hnone : ∀ m < 4, s.dev.notchFree p (lv - nf) m = false) (hweak : s.dev.notchWeakest p = some n.val)
    (hth : 5 * (s.dev.get F.GNRF_NOTCH_CFG_DETTH.act (4 * p.val + n.val) : Int) < lv - nf)
    (hlvl : s.dev.var V.notchLvl (4 * p.val + n.val) + 30 ≤ lv - nf) :
    Answers (.notchAssign p b ()) s (fun t => t.dev.get F.GNRF_NOTCH_STAT_ACTIVE (4 * p.val + n.val) = 1 ∧
      t.dev.getI F.GNRF_NOTCH_FNOW_FNOW (4 * p.val + n.val) = binHz b.val ∧ t.dev.var V.notchLvl (4 * p.val + n.val) = lv - nf) := by
  refine ⟨{ s with dev := s.dev.notchAssign p b }, rfl, ?_⟩
  have hfind : (List.range 4).find? (s.dev.notchFree p (lv - nf)) = none := by
    rw [List.find?_eq_none]
    exact fun m hm => by simp [hnone m (List.mem_range.mp hm)]
  obtain ⟨hlo, hhi⟩ := binHz_mem b.isLt
  obtain ⟨hactive, hfnow, -, hkept⟩ := s.dev.notchTake_shows p n (lv - nf) hlo hhi
  dsimp only
  rw [Dev.notchAssign_none hrun hbin htick hfree htop hfind hweak hth hlvl]
  exact ⟨hactive, hfnow, hkept⟩

end

theorem notchRelease_answers (p : Fin 9) (n : Fin 4) (hmode : s.dev.get F.GNRF_NOTCH_CFG_MODE.act (4 * p.val + n.val) = 2)
    (hactive : s.dev.get F.GNRF_NOTCH_STAT_ACTIVE (4 * p.val + n.val) = 1) (hlow : s.dev.var V.notchLow (4 * p.val + n.val) = 1)
    (hdue : s.dev.passed V.notchLowAt (4 * p.val + n.val) 100000000 = true) : Answers (.notchRelease p n) s (fun t =>
      t.dev.get F.GNRF_NOTCH_STAT_ACTIVE (4 * p.val + n.val) = 0 ∧ t.dev.get F.GNRF_NOTCH_STAT_ATTEN (4 * p.val + n.val) = 0) := by
  refine ⟨{ s with dev := s.dev.notchRelease p n }, rfl, ?_⟩
  have hgo : (s.dev.get F.GNRF_NOTCH_CFG_MODE.act (4 * p.val + n.val) == 2 && s.dev.on F.GNRF_NOTCH_STAT_ACTIVE (4 * p.val + n.val) &&
      s.dev.var V.notchLow (4 * p.val + n.val) == 1 && s.dev.passed V.notchLowAt (4 * p.val + n.val) 100000000) = true := by
    simp [Dev.on, hmode, hactive, hlow, hdue]
  dsimp only
  rw [Dev.notchRelease, if_pos hgo, Dev.notchChange_get _ _ (by unfold Scope.Keeps; decide), Dev.notchChange_get _ _ (by unfold Scope.Keeps; decide)]
  simp +decide [Dev.get_set]

/-! ### PATH_DISABLE -/

theorem pathDisable_answers (p : Fin 9) (ht : Taken s 0x10 a) :
    Answers (.pathDisable a p) s (fun t => t.dev.get F.GNRF_PATH_CFG_EN p = 0 ∧ t.dev.pathOk p = false) := by
  have hx : exec (.pathDisable a p) s = execPathDisable a p s := rfl
  rw [execPathDisable, upd_wr_taken ht] at hx
  refine ⟨_, hx, ?_⟩
  have hoff : ∀ v, ((((s.dev.counted 0x10 a.bank.val).set F.GNRF_PATH_CFG_EN p 0).pathDown p).setVar V.pathValid p v).ended.get F.GNRF_PATH_CFG_EN p = 0 :=
    fun v => by rw [Dev.ended_get, Dev.get_setVar, Dev.pathDown_get _ _ (by unfold Scope.Keeps; decide), Dev.get_set_same]; rfl
  refine ⟨hoff _, ?_⟩
  rw [Dev.pathOk, Dev.on, hoff]
  rfl

/-- Settles O5: AGC and monitor go through the paths and notches one by one, each apart from the others, and a line goes to one notch. -/
theorem agcSpectrumAndNotches : Obligations.AgcSpectrumAndNotches :=
  ⟨fun _ m errs p hrun htick => agcUpdate_answers m errs p hrun htick, fun _ p n bins hrun => spectralScan_answers p n bins hrun,
    fun _ _ n _ _ _ hrun hbin htick hfree htop hn hfirst => notchAssign_free hrun hbin htick hfree htop n hn hfirst,
    fun _ _ n _ _ _ hrun hbin htick hfree htop hnone hweak hth hlvl => notchAssign_takes hrun hbin htick hfree htop n hnone hweak hth hlvl,
    fun _ p n hmode hactive hlow hdue => notchRelease_answers p n hmode hactive hlow hdue, fun _ _ p ht => pathDisable_answers p ht⟩

end Sys2Proof.Machine
end

section
/-! ## Histories through a device's read

A device's read may walk page tables, enter a fault, or be captured as an error; no history of a block is part of any of these. -/

namespace Sys2Proof.Machine

/-- A device, or a state, that comes with a result. -/
theorem State.dev_of_eq {α : Type} {p : State × α} {t : State} {x : α} (h : p = (t, x)) : t.dev = p.1.dev := by rw [h]

theorem Dev.hist_of_rest {d e : Dev} (h : d.rest = e.rest) : d.hist = e.hist := congrArg (fun a => a.hist) h

@[simp] theorem Dev.cone_hist (d : Dev) (slot ev n : Nat) : (d.cone slot ev n).hist = d.hist := Dev.hist_of_rest (by simp)
@[simp] theorem Dev.level_hist (d : Dev) (slot b : Nat) (v : Bool) : (d.level slot b v).hist = d.hist := Dev.hist_of_rest (by simp)

theorem Dev.errCapture_hist (d : Dev) (slot c woff bank bcode : Nat) : (d.errCapture slot c woff bank bcode).hist = d.hist := Dev.hist_of_rest (by simp)

@[simp] theorem Dev.errBlk_hist (d : Dev) (slot bcode cls : Nat) (pay : List Nat) : (d.errBlk slot bcode cls pay).hist = d.hist :=
  d.errCapture_hist ..

@[simp] theorem Dev.errAcc_hist (d : Dev) (slot c off bank : Nat) : (d.errAcc slot c off bank).hist = d.hist := by
  unfold Dev.errAcc
  split <;> exact d.errCapture_hist ..

/-! ### A walk of the page tables changes memory alone -/

@[simp] theorem State.leaf_dev (s : State) (at_ e l v pf : Nat) (wr upd : Bool) : (s.leaf at_ e l v pf wr upd).1.dev = s.dev := by
  unfold State.leaf
  repeat' split
  all_goals rfl

@[simp] theorem State.walkG_dev (s : State) (l tbl page : Nat) (root wr upd : Bool) : (s.walkG l tbl page root wr upd).1.dev = s.dev := by
  induction l generalizing tbl root
  all_goals
    unfold State.walkG
    extract_lets gpf at_
    split
    · rfl
    split
    · rfl
    split <;> simp [*]

@[simp] theorem State.stage2_dev (s : State) (g page : Nat) (wr upd : Bool) : (s.stage2 g page wr upd).1.dev = s.dev := by
  simp only [State.stage2]
  repeat' split
  all_goals simp

@[simp] theorem State.walkS_dev (s : State) (l tbl page g : Nat) (wr upd updG : Bool) : (s.walkS l tbl page g wr upd updG).1.dev = s.dev := by
  induction l generalizing s tbl with
  | zero =>
    unfold State.walkS
    extract_lets pf
    split
    · next he => simp [State.dev_of_eq he]
    next he =>
    extract_lets at_
    split
    · simp [State.dev_of_eq he]
    split
    · simp [State.dev_of_eq he]
    split <;> simp [State.dev_of_eq he]
  | succ k ih =>
    unfold State.walkS
    extract_lets pf
    split
    · next he => simp [State.dev_of_eq he]
    next he =>
    extract_lets at_
    split
    · simp [State.dev_of_eq he]
    split
    · simp [State.dev_of_eq he]
    split <;> simp [State.dev_of_eq he, ih]

/-! ### Translations, faults and the read -/

@[simp] theorem State.devCtx_hist (s : State) (dev : Nat) : (s.devCtx dev).1.dev.hist = s.dev.hist := by
  simp only [State.devCtx]
  repeat' split
  all_goals rfl

@[simp] theorem State.xlate_hist (s : State) (dev page : Nat) (wr : Bool) : (s.xlate dev page wr).1.dev.hist = s.dev.hist := by
  simp only [State.xlate]
  split
  · rfl
  split
  · rfl
  split
  · next he => exact (congrArg Dev.hist (State.dev_of_eq he)).trans (State.devCtx_hist ..)
  next he =>
  have hctx := (congrArg Dev.hist (State.dev_of_eq he)).trans (State.devCtx_hist ..)
  split
  · exact hctx
  split
  · simp [hctx]
  split
  · simp [hctx]
  split
  · next hw => rw [State.dev_of_eq hw]; split <;> simp [hctx]
  next t gp w1 hw =>
  have ht : t.dev.hist = s.dev.hist := by rw [State.dev_of_eq hw]; split <;> simp [hctx]
  split
  all_goals next hg => simp [State.dev_of_eq hg, ht]

@[simp] theorem State.xlateAll_hist (s : State) (dev page n : Nat) (wr : Bool) : (s.xlateAll dev page n wr).1.dev.hist = s.dev.hist := by
  induction n generalizing s page with
  | zero => rfl
  | succ k ih =>
    unfold State.xlateAll
    split
    · next hx => rw [State.dev_of_eq hx, State.xlate_hist]
    next hx =>
    split
    all_goals next hl => rw [State.dev_of_eq hl, ih, State.dev_of_eq hx, State.xlate_hist]

@[simp] theorem Dev.sysRefused_hist (d : Dev) (dev p : Nat) : (d.sysRefused dev p).hist = d.hist := by
  unfold Dev.sysRefused
  dsimp only
  split
  · exact Dev.errAcc_hist ..
  · exact Dev.errAcc_hist ..

@[simp] theorem State.iommuFault_hist (s : State) (dev iova cause : Nat) (wr : Bool) : (s.iommuFault dev iova cause wr).dev.hist = s.dev.hist := by
  unfold State.iommuFault Dev.when
  dsimp only
  repeat' split
  all_goals simp [Dev.useFree]

@[simp] theorem State.devOpen_hist (s : State) (dev iova n : Nat) (wr : Bool) : (s.devOpen dev iova n wr).1.dev.hist = s.dev.hist := by
  unfold State.devOpen
  split
  · next he => rw [State.iommuFault_hist, State.dev_of_eq he, State.xlateAll_hist]
  next he => split <;> simp [State.dev_of_eq he]

/-- A device's read leaves every history. -/
theorem State.devRead_hist (s : State) (dev iova n : Nat) : (s.devRead dev iova n).1.dev.hist = s.dev.hist := by
  unfold State.devRead
  split
  all_goals next he => simp [State.dev_of_eq he]

end Sys2Proof.Machine
end

section
/-! ## Acquisition: lists, captures, searches and entries (R121 to R135) -/

namespace Sys2Proof.Machine

variable {s : State} {d : Dev} {a : Acc}

/-! ### The end of an entry (R127, R128, R133) -/

/-- The device with the results of the entry in service written. -/
def Dev.acqRecorded (d : Dev) (e status : Nat) (r : AcqRes) (t0 : Nat) : Dev :=
  let k := d.acqEnt e
  let d := d.acqSat e
  let d := ((((d.set F.ENT_RES_STATUS k status).set F.ENT_RES_FLAGS k (d.var V.acqFlags e).toNat).set F.ENT_PEAK_PEAK k r.peak).set
    F.ENT_RES_RATIO k r.ratio).set F.ENT_CPH_CPH k r.cph
  (d.set F.ENT_CPH_BIN k r.bin).set F.ENT_T0_T0 k t0

/-- What counts the entry and goes on in the list writes no results. -/
theorem Dev.acqEnd_get (d : Dev) (e status : Nat) (r : AcqRes) (t0 : Nat) (goOn : Bool) {g : Fld}
    (hg : Scope.Keeps { flds := [F.GNAQ_ENG_DONE_CNT, F.GNAQ_ENG_STAT_ENTRY, F.GNAQ_ENG_STAT_STATE] } g) (j : Nat) :
    (d.acqEnd e status r t0 goOn).get g j = (d.acqRecorded e status r t0).get g j := by
  refine Dev.get_of_view ?_ hg j
  simp +decide [Dev.acqEnd, Dev.acqRecorded]

theorem Dev.acqEnd_status (d : Dev) (e status : Nat) (r : AcqRes) (t0 : Nat) (goOn : Bool) :
    (d.acqEnd e status r t0 goOn).get F.ENT_RES_STATUS (d.acqEnt e) = status % 16 := by
  rw [Dev.acqEnd_get _ _ _ _ _ _ (by unfold Scope.Keeps; decide)]
  simp +decide only [Dev.acqRecorded, Dev.get_set, true_and, if_true, if_false]
  rfl

theorem Dev.acqEnd_results (d : Dev) (e status : Nat) (r : AcqRes) (t0 : Nat) (goOn : Bool) :
    (d.acqEnd e status r t0 goOn).get F.ENT_PEAK_PEAK (d.acqEnt e) = r.peak % 2 ^ F.ENT_PEAK_PEAK.width ∧
    (d.acqEnd e status r t0 goOn).get F.ENT_RES_RATIO (d.acqEnt e) = r.ratio % 2 ^ F.ENT_RES_RATIO.width ∧
    (d.acqEnd e status r t0 goOn).get F.ENT_CPH_CPH (d.acqEnt e) = r.cph % 2 ^ F.ENT_CPH_CPH.width ∧
    (d.acqEnd e status r t0 goOn).get F.ENT_CPH_BIN (d.acqEnt e) = r.bin % 2 ^ F.ENT_CPH_BIN.width := by
  refine ⟨?_, ?_, ?_, ?_⟩
  all_goals
    rw [Dev.acqEnd_get _ _ _ _ _ _ (by unfold Scope.Keeps; decide)]
    simp +decide only [Dev.acqRecorded, Dev.get_set, true_and, if_true, if_false]

/-- An entry that an abort ends leaves the engine IDLE. -/
theorem Dev.acqEnd_idle (d : Dev) (e status : Nat) (r : AcqRes) (t0 : Nat) :
    (d.acqEnd e status r t0 false).get F.GNAQ_ENG_STAT_STATE e = 0 := by
  simp [Dev.acqEnd]

theorem Dev.acqEnd_var (d : Dev) (e status : Nat) (r : AcqRes) (t0 : Nat) (goOn : Bool) {x : Vr} (hx : ∀ y ∈ acqEndVars, x.id ≠ y.id) (j : Nat) :
    (d.acqEnd e status r t0 goOn).var x j = d.var x j :=
  Dev.var_of_besides (d.besides_acqEnd e status r t0 goOn (List.Subset.refl _)) hx j

theorem Dev.acqDone_status (d : Dev) (e status : Nat) : (d.acqDone e status).get F.ENT_RES_STATUS (d.acqEnt e) = status % 16 :=
  Dev.acqEnd_status { d with free := d.free + 2 } ..

theorem Dev.acqEndFree_status (d : Dev) (e status : Nat) (goOn : Bool) : (d.acqEndFree e status goOn).get F.ENT_RES_STATUS (d.acqEnt e) = status % 16 :=
  Dev.acqEnd_status { d with free := d.free + 5 } ..

theorem Dev.acqEndFree_var (d : Dev) (e status : Nat) (goOn : Bool) {x : Vr} (hx : ∀ y ∈ acqEndVars, x.id ≠ y.id) (j : Nat) :
    (d.acqEndFree e status goOn).var x j = d.var x j :=
  Dev.acqEnd_var { d with free := d.free + 5 } _ _ _ _ _ hx j

/-- The entry in service is the one that STAT names. -/
theorem Dev.acqEnt_of_get {d e : Dev} {i : Nat} (h : d.get F.GNAQ_ENG_STAT_ENTRY i = e.get F.GNAQ_ENG_STAT_ENTRY i) : d.acqEnt i = e.acqEnt i := by
  rw [Dev.acqEnt, Dev.acqEnt, h]

/-! ### ACQ_GO and ACQ_ABORT (R133, R134) -/

/-- The list goes to the first enabled entry from `i` on. -/
theorem Dev.acqSeek_found (d : Dev) {e i j : Nat} (hj : j < 128) (hij : i ≤ j) (hen : d.get F.ENT_CFG0_EN (e * 128 + j) = 1)
    (hfirst : ∀ k < j, i ≤ k → d.get F.ENT_CFG0_EN (e * 128 + k) ≠ 1) :
    (d.acqSeek e i).get F.GNAQ_ENG_STAT_ENTRY e = j ∧ (d.acqSeek e i).get F.GNAQ_ENG_STAT_STATE e = 1 := by
  have hfind : (List.range 128).find? (fun j => decide (i ≤ j) && d.on F.ENT_CFG0_EN (e * 128 + j)) = some j := by
    rw [List.find?_range_eq_some]
    refine ⟨by simp [Dev.on, hij, hen], List.mem_range.mpr hj, fun k hk => ?_⟩
    by_cases hik : i ≤ k
    · simp [Dev.on, hfirst k hk hik]
    · simp [hik]
  simp only [Dev.acqSeek, hfind]
  refine ⟨?_, ?_⟩
  · simp +decide only [Dev.get_setVar, Dev.get_set, true_and, if_true, if_false]
    exact Nat.mod_eq_of_lt hj
  · simp +decide only [Dev.get_setVar, Dev.get_set, true_and, if_true]

/-- The device on which a write access to a channel of GNAQ acts reads as before (R56, R57). -/
theorem Dev.counted_cone_get (d : Dev) (slot bank : Nat) {g : Fld} (h : g.kid ≠ F.COM_CONE_CNT_V.kid) (h' : g.kid ≠ F.COM_CONE_CNT_WRAP.kid) (j : Nat) :
    ((d.counted slot bank).cone slot 7).get g j = d.get g j := by
  rw [Dev.cone_get_ne _ _ _ _ _ h h', Dev.counted_get_ne _ _ _ _ h h']

theorem acqGo_answers (j : Fin 128) (ht : Taken s 0x11 a) (hc : s.dev.chSel 0x11 a < 3) (hrun : s.dev.running 0x11 = true)
    (hidle : s.dev.get F.GNAQ_ENG_STAT_STATE (s.dev.chSel 0x11 a) = 0) (hfrom : s.dev.get F.GNAQ_ENG_CTRL_START (s.dev.chSel 0x11 a) ≤ j.val)
    (hen : s.dev.get F.ENT_CFG0_EN (s.dev.chSel 0x11 a * 128 + j.val) = 1)
    (hfirst : ∀ i < j.val, s.dev.get F.GNAQ_ENG_CTRL_START (s.dev.chSel 0x11 a) ≤ i → s.dev.get F.ENT_CFG0_EN (s.dev.chSel 0x11 a * 128 + i) ≠ 1) :
    Answers (.acqGo a) s (fun t => t.dev.get F.GNAQ_ENG_STAT_ENTRY (s.dev.chSel 0x11 a) = j.val ∧
      t.dev.get F.GNAQ_ENG_STAT_STATE (s.dev.chSel 0x11 a) = 1 ∧ t.dev.get F.GNAQ_ENG_DONE_CNT (s.dev.chSel 0x11 a) = 0) := by
  have hx : exec (.acqGo a) s = execAcqGo a s := rfl
  rw [execAcqGo, upd_wrCh_taken ht hc] at hx
  refine ⟨_, hx, ?_⟩
  generalize s.dev.chSel 0x11 a = e at hidle hfrom hen hfirst ⊢
  obtain ⟨b, hb⟩ : ∃ b, b = (s.dev.counted 0x11 a.bank.val).cone 0x11 7 := ⟨_, rfl⟩
  have hget : ∀ g : Fld, g.kid ≠ F.COM_CONE_CNT_V.kid → g.kid ≠ F.COM_CONE_CNT_WRAP.kid → ∀ j, b.get g j = s.dev.get g j := fun g h h' j => by
    rw [hb, Dev.counted_cone_get _ _ _ h h']
  have hbrun : b.running 0x11 = true := by
    rw [← hrun, Dev.running, Dev.on, hget _ (by decide) (by decide), hb, Dev.cone_var, Dev.counted_var]; rfl
  rw [← hb, hget _ (by decide) (by decide), hidle, if_pos rfl, hbrun, if_pos rfl, hget F.GNAQ_ENG_CTRL_START (by decide) (by decide)]
  simp only [Dev.ended_get]
  obtain ⟨d, hd⟩ : ∃ d, d = (b.set F.GNAQ_ENG_DONE_CNT e 0).setVar V.acqStart e (s.dev.get F.GNAQ_ENG_CTRL_START e) := ⟨_, rfl⟩
  have hents : ∀ i, d.get F.ENT_CFG0_EN i = s.dev.get F.ENT_CFG0_EN i := fun i => by
    rw [hd, Dev.get_setVar, Dev.get_set_kid _ _ _ _ (by decide), hget _ (by decide) (by decide)]
  obtain ⟨hentry, hstate⟩ := d.acqSeek_found (e := e) j.isLt hfrom ((hents _).trans hen) fun k hk hik => hents _ ▸ hfirst k hk hik
  rw [← hd]
  refine ⟨hentry, hstate, ?_⟩
  have hseek := Dev.view_acqSeek (κ := { flds := [F.GNAQ_ENG_STAT_ENTRY, F.GNAQ_ENG_STAT_STATE] }) d e (s.dev.get F.GNAQ_ENG_CTRL_START e)
    (List.Subset.refl _)
  rw [Dev.get_of_view hseek (by unfold Scope.Keeps; decide), hd, Dev.get_setVar, Dev.get_set_same]
  rfl

theorem acqAbort_answers (ht : Taken s 0x11 a) (hc : s.dev.chSel 0x11 a < 3) (hbusy : s.dev.get F.GNAQ_ENG_STAT_STATE (s.dev.chSel 0x11 a) ≠ 0) :
    Answers (.acqAbort a) s (fun t => t.dev.get F.GNAQ_ENG_STAT_STATE (s.dev.chSel 0x11 a) = 0 ∧
      t.dev.get F.ENT_RES_STATUS (s.dev.acqEnt (s.dev.chSel 0x11 a)) = 3 ∧ t.dev.var V.heldOk (s.dev.chSel 0x11 a) = 0) := by
  have hx : exec (.acqAbort a) s = execAcqAbort a s := rfl
  rw [execAcqAbort, upd_wrCh_taken ht hc] at hx
  refine ⟨_, hx, ?_⟩
  generalize s.dev.chSel 0x11 a = e at hbusy ⊢
  have hget : ∀ g : Fld, g.kid ≠ F.COM_CONE_CNT_V.kid → g.kid ≠ F.COM_CONE_CNT_WRAP.kid → ∀ j,
      ((s.dev.counted 0x11 a.bank.val).cone 0x11 7).get g j = s.dev.get g j := fun g h h' j => Dev.counted_cone_get _ _ _ h h' j
  have hent : (((s.dev.counted 0x11 a.bank.val).cone 0x11 7).setVar V.heldOk e 0).acqEnt e = s.dev.acqEnt e :=
    Dev.acqEnt_of_get (by rw [Dev.get_setVar, hget _ (by decide) (by decide)])
  rw [if_neg (by rwa [hget _ (by decide) (by decide)])]
  simp only [Dev.ended_get, Dev.ended_var]
  refine ⟨Dev.acqEnd_idle .., ?_, ?_⟩
  · rw [← hent]
    exact Dev.acqEndFree_status ..
  · rw [Dev.acqEndFree_var _ _ _ _ (by decide), Dev.var_setVar_same]

/-! ### ACQ_ENTRY_START (R129, R130) -/

/-- The flags and the count of clipped samples restart with an entry. -/
def Dev.acqFresh (d : Dev) (e : Nat) : Dev := (d.setVar V.acqFlags e 0).setVar V.acqClip e 0

/-- The entry in service shows BUSY, at its first bin and window. -/
def Dev.acqBusy (d : Dev) (e : Nat) : Dev :=
  (((d.acqFresh e).set F.ENT_RES_STATUS (d.acqEnt e) 7).set F.GNAQ_ENG_STAT_BIN e 0).set F.GNAQ_ENG_STAT_WIN e 0

theorem Dev.acqEntryStart_invalid {e : Nat} (hdue : d.var V.acqPhase e = 1) (hbad : d.acqInvalid e (d.acqEnt e) = true) :
    d.acqEntryStart e = (d.acqFresh e).acqEndFree e 6 true := by
  rw [Dev.acqEntryStart, if_neg (not_not.mpr hdue)]
  exact if_pos hbad

/-- What the choice between a held snapshot and a capture reads is none of what shows the entry BUSY. -/
theorem Dev.acqBusy_reads (d : Dev) (e k : Nat) : (d.acqBusy e).on F.ENT_CFG0_REUSE k = d.on F.ENT_CFG0_REUSE k ∧ (d.acqBusy e).acqReuse e k = d.acqReuse e k := by
  have hget : ∀ g : Fld, g.kid ≠ F.ENT_RES_STATUS.kid → g.kid ≠ F.GNAQ_ENG_STAT_BIN.kid → g.kid ≠ F.GNAQ_ENG_STAT_WIN.kid → ∀ j,
      (d.acqBusy e).get g j = d.get g j := fun g hs hb hw j =>
    ((Dev.get_set_kid _ _ _ _ hw).trans (Dev.get_set_kid _ _ _ _ hb)).trans (Dev.get_set_kid _ _ _ _ hs)
  have hvar : ∀ x : Vr, x.id ≠ V.acqFlags.id → x.id ≠ V.acqClip.id → ∀ j, (d.acqBusy e).var x j = d.var x j := fun x hf hc j =>
    (Dev.var_setVar_id _ _ _ _ hc).trans (Dev.var_setVar_id _ _ _ _ hf)
  refine ⟨by rw [Dev.on, hget _ (by decide) (by decide) (by decide)]; rfl, ?_⟩
  simp +decide only [Dev.acqReuse, Dev.acqPath, Dev.acqMs, hget, hvar, ne_eq]
  rfl

theorem Dev.acqEntryStart_valid {e : Nat} (hdue : d.var V.acqPhase e = 1) (hok : d.acqInvalid e (d.acqEnt e) = false) :
    d.acqEntryStart e =
      if d.on F.ENT_CFG0_REUSE (d.acqEnt e) && d.acqReuse e (d.acqEnt e) then
        (((d.acqBusy e).set F.GNAQ_ENG_STAT_STATE e 2).setVar V.acqPhase e 4).mark V.acqStepAt e
      else
        (((d.acqBusy e).setVar V.acqFlags e (if d.on F.ENT_CFG0_REUSE (d.acqEnt e) then 16 else 0)).set F.GNAQ_ENG_STAT_STATE e 1).setVar V.acqPhase e 2 := by
  obtain ⟨hreuse, hheld⟩ := d.acqBusy_reads e (d.acqEnt e)
  have hok' : (d.acqFresh e).acqInvalid e (d.acqEnt e) = false := hok
  rw [← hheld, ← hreuse, Dev.acqEntryStart, if_neg (not_not.mpr hdue)]
  refine (if_neg ?_).trans rfl
  exact Bool.eq_false_iff.mp hok'

theorem Dev.acqBusy_status (d : Dev) (e : Nat) : (d.acqBusy e).get F.ENT_RES_STATUS (d.acqEnt e) = 7 := by
  simp +decide [Dev.acqBusy, Dev.get_set]

theorem acqEntryStart_invalid_answers (e : Fin 3) (hdue : s.dev.var V.acqPhase e = 1) (hbad : s.dev.acqInvalid e (s.dev.acqEnt e) = true) :
    Answers (.acqEntryStart e) s (fun t => t.dev.get F.ENT_RES_STATUS (s.dev.acqEnt e) = 6) := by
  refine ⟨{ s with dev := s.dev.acqEntryStart e }, rfl, ?_⟩
  dsimp only
  rw [Dev.acqEntryStart_invalid hdue hbad]
  exact (s.dev.acqFresh e).acqEndFree_status ..

section
variable (e : Fin 3) (hdue : s.dev.var V.acqPhase e = 1) (hok : s.dev.acqInvalid e (s.dev.acqEnt e) = false)
include hdue hok

theorem acqEntryStart_captures (hno : s.dev.get F.ENT_CFG0_REUSE (s.dev.acqEnt e) = 0 ∨ s.dev.acqReuse e (s.dev.acqEnt e) = false) :
    Answers (.acqEntryStart e) s (fun t => t.dev.get F.ENT_RES_STATUS (s.dev.acqEnt e) = 7 ∧ t.dev.get F.GNAQ_ENG_STAT_STATE e = 1 ∧
      t.dev.var V.acqPhase e = 2) := by
  refine ⟨{ s with dev := s.dev.acqEntryStart e }, rfl, ?_⟩
  have hnot : (s.dev.on F.ENT_CFG0_REUSE (s.dev.acqEnt e) && s.dev.acqReuse e (s.dev.acqEnt e)) = false := by
    rcases hno with h | h <;> simp [Dev.on, h]
  dsimp only
  rw [Dev.acqEntryStart_valid hdue hok, hnot, if_neg Bool.false_ne_true]
  refine ⟨?_, ?_, Dev.var_setVar_same ..⟩
  · rw [Dev.get_setVar, Dev.get_set_kid _ _ _ _ (by decide), Dev.get_setVar, Dev.acqBusy_status]
  · rw [Dev.get_setVar, Dev.get_set_same]; rfl

theorem acqEntryStart_searches (hreuse : s.dev.get F.ENT_CFG0_REUSE (s.dev.acqEnt e) = 1) (hheld : s.dev.acqReuse e (s.dev.acqEnt e) = true) :
    Answers (.acqEntryStart e) s (fun t => t.dev.get F.ENT_RES_STATUS (s.dev.acqEnt e) = 7 ∧ t.dev.get F.GNAQ_ENG_STAT_STATE e = 2 ∧
      t.dev.var V.acqPhase e = 4) := by
  refine ⟨{ s with dev := s.dev.acqEntryStart e }, rfl, ?_⟩
  have hgo : (s.dev.on F.ENT_CFG0_REUSE (s.dev.acqEnt e) && s.dev.acqReuse e (s.dev.acqEnt e)) = true := by simp [Dev.on, hreuse, hheld]
  dsimp only
  rw [Dev.acqEntryStart_valid hdue hok, hgo, if_pos rfl]
  refine ⟨?_, ?_, ?_⟩
  · rw [Dev.mark_get, Dev.get_setVar, Dev.get_set_kid _ _ _ _ (by decide), Dev.acqBusy_status]
  · rw [Dev.mark_get, Dev.get_setVar, Dev.get_set_same]; rfl
  · exact (Dev.var_setVar_id _ _ _ _ (by decide)).trans (Dev.var_setVar_same ..)

end

/-! ### ACQ_CAPTURE_START and ACQ_CAPTURE_END (R121, R128, R130) -/

section
variable (e : Fin 3) (hwait : s.dev.var V.acqPhase e = 2) (htick : s.dev.var V.uptime 0 = s.dev.var V.lastTick 0)
include hwait htick

/-- At the tick the capture begins where the path's samples are valid. -/
theorem Dev.acqCaptureStart_tick : s.dev.acqCaptureStart e =
    if s.dev.pathOk (s.dev.acqPath (s.dev.acqEnt e)) then
      ((((s.dev.setVar V.heldOk e 0).setVar V.acqT0 e (s.dev.now / 1000000)).setVar V.acqPhase e 3).mark V.acqCapAt e)
    else ((s.dev.setVar V.heldOk e 0).setVar V.acqT0 e (s.dev.now / 1000000)).acqEnd e 4 ⟨0, 0, 0, 0⟩ 0 true := by
  have hgo : ¬ (s.dev.var V.acqPhase e ≠ 2 ∨ s.dev.atTick = false) := by simp [Dev.atTick, hwait, htick]
  have hpath : ((s.dev.setVar V.heldOk e 0).setVar V.acqT0 e (s.dev.now / 1000000)).pathOk (s.dev.acqPath (s.dev.acqEnt e)) =
      s.dev.pathOk (s.dev.acqPath (s.dev.acqEnt e)) := by
    rw [Dev.pathOk, Dev.var_setVar_id _ _ _ _ (by decide), Dev.var_setVar_id _ _ _ _ (by decide)]; rfl
  rw [← hpath, Dev.acqCaptureStart, if_neg hgo]
  rfl

theorem acqCaptureStart_begins (hpath : s.dev.pathOk (s.dev.acqPath (s.dev.acqEnt e)) = true) : Answers (.acqCaptureStart e) s (fun t =>
    t.dev.var V.acqPhase e = 3 ∧ t.dev.var V.heldOk e = 0 ∧ t.dev.var V.acqT0 e = s.dev.now / 1000000) := by
  refine ⟨{ s with dev := s.dev.acqCaptureStart e }, rfl, ?_⟩
  dsimp only
  rw [Dev.acqCaptureStart_tick e hwait htick, if_pos hpath]
  simp +decide [Dev.mark, Dev.var_setVar]

theorem acqCaptureStart_fails (hpath : s.dev.pathOk (s.dev.acqPath (s.dev.acqEnt e)) = false) : Answers (.acqCaptureStart e) s (fun t =>
    t.dev.get F.ENT_RES_STATUS (s.dev.acqEnt e) = 4 ∧ t.dev.var V.heldOk e = 0) := by
  refine ⟨{ s with dev := s.dev.acqCaptureStart e }, rfl, ?_⟩
  dsimp only
  rw [Dev.acqCaptureStart_tick e hwait htick, hpath, if_neg Bool.false_ne_true]
  refine ⟨Dev.acqEnd_status .., ?_⟩
  rw [Dev.acqEnd_var _ _ _ _ _ _ (by decide)]
  simp +decide [Dev.var_setVar]

end

theorem acqCaptureEnd_answers (e : Fin 3) (l : List Byte) (hcap : s.dev.var V.acqPhase e = 3)
    (hdue : s.dev.passed V.acqCapAt e (s.dev.acqMs (s.dev.acqEnt e) * 1000000) = true)
    (hok : (State.devWrite { s with dev := s.dev.acqSat e } (0x0110 + e.val) (s.dev.get F.GNAQ_ENG_SNAP_BASE.act e / 4096 * 4096)
      (padTo (s.dev.acqBytes e) (l.map (·.toNat)))).2 = none) : Answers (.acqCaptureEnd e l) s (fun t =>
      t.dev.get F.GNAQ_ENG_STAT_STATE e = 2 ∧ t.dev.var V.acqPhase e = 4 ∧ t.dev.var V.heldOk e = 1 ∧
      t.mem = (State.devWrite { s with dev := s.dev.acqSat e } (0x0110 + e.val) (s.dev.get F.GNAQ_ENG_SNAP_BASE.act e / 4096 * 4096)
        (padTo (s.dev.acqBytes e) (l.map (·.toNat)))).1.mem) := by
  refine ⟨s.acqCaptureEnd e l, rfl, ?_⟩
  have hgo : ¬ (s.dev.var V.acqPhase e ≠ 3 ∨ ¬ s.dev.passed V.acqCapAt e (s.dev.acqMs (s.dev.acqEnt e) * 1000000)) := by simp [hcap, hdue]
  simp only [State.acqCaptureEnd, if_neg hgo]
  generalize State.devWrite _ _ _ _ = w at hok ⊢
  obtain ⟨t, f⟩ := w
  obtain rfl : f = none := hok
  simp +decide [Dev.mark, Dev.var_setVar]

/-! ### ACQ_BIN_STEP (R124 to R126, R128, R131) -/

/-- Whether a step of the search ends its entry, or which bin and window come next (R126). -/
def Dev.acqNext (d : Dev) (e : Nat) : Dev :=
  if d.get F.GNAQ_ENG_STAT_BIN e + 1 < d.get F.ENT_DOP_NBIN (d.acqEnt e) then d.set F.GNAQ_ENG_STAT_BIN e (d.get F.GNAQ_ENG_STAT_BIN e + 1)
  else if d.get F.GNAQ_ENG_STAT_WIN e + 1 < d.acqWins e then
    (d.set F.GNAQ_ENG_STAT_BIN e 0).set F.GNAQ_ENG_STAT_WIN e (d.get F.GNAQ_ENG_STAT_WIN e + 1)
  else d.setVar V.acqPhase e 5

/-- The bin and the window that follow a step, or the end of the search, from the device before it to the one after (R126). -/
def Dev.AcqFollows (d u : Dev) (e : Nat) : Prop :=
  if d.get F.GNAQ_ENG_STAT_BIN e + 1 < d.get F.ENT_DOP_NBIN (d.acqEnt e) then
    u.get F.GNAQ_ENG_STAT_BIN e = (d.get F.GNAQ_ENG_STAT_BIN e + 1) % 2 ^ F.GNAQ_ENG_STAT_BIN.width ∧
    u.get F.GNAQ_ENG_STAT_WIN e = d.get F.GNAQ_ENG_STAT_WIN e
  else if d.get F.GNAQ_ENG_STAT_WIN e + 1 < d.acqWins e then
    u.get F.GNAQ_ENG_STAT_BIN e = 0 ∧ u.get F.GNAQ_ENG_STAT_WIN e = (d.get F.GNAQ_ENG_STAT_WIN e + 1) % 2 ^ F.GNAQ_ENG_STAT_WIN.width
  else u.var V.acqPhase e = 5

theorem Dev.acqFollows_acqNext (d : Dev) (e : Nat) : d.AcqFollows (d.acqNext e).useFree e := by
  simp only [Dev.AcqFollows, Dev.useFree_get, Dev.useFree_var]
  unfold Dev.acqNext
  split
  · exact ⟨Dev.get_set_same .., Dev.get_set_kid _ _ _ _ (by decide)⟩
  split
  · exact ⟨(Dev.get_set_kid _ _ _ _ (by decide)).trans (Dev.get_set_same ..), Dev.get_set_same ..⟩
  · exact Dev.var_setVar_same ..

theorem Dev.acqNext_past (d : Dev) (e n j : Nat) : (d.acqNext e).useFree.past n j = d.past n j := by
  unfold Dev.acqNext
  split
  · rfl
  split <;> rfl

/-- PEAK of a step's cells, a free value where it has none (R127). -/
def Dev.acqTop (d : Dev) (e : Nat) (l : List Nat) : Nat :=
  (match d.acqSig e with | some g => g.peak (bestCell (d.acqCells e l)) (d.acqCells e l) | none => none).getD d.freeVal

theorem Dev.acqTop_eq (d : Dev) (e : Nat) (l : List Nat) :
    d.acqTop e l = ((d.acqSig e).bind (fun g => g.peak (bestCell (d.acqCells e l)) (d.acqCells e l))).getD d.freeVal := by
  rw [Dev.acqTop]
  cases d.acqSig e <;> rfl

/-- A step's best cell ends the entry (R131). -/
def Dev.acqHit (d : Dev) (e : Nat) (l : List Nat) : Bool :=
  d.on F.GNAQ_ENG_CFG_EARLY.act e && decide (d.get F.GNAQ_ENG_CFG_DETTH.act e ≤ d.acqTop e l)

/-- The cells of a step are kept, and its instant. -/
def Dev.acqStepped (d : Dev) (e : Nat) (l : List Nat) : Dev :=
  ((d.setPast 8 e ((if d.get F.GNAQ_ENG_STAT_BIN e = 0 ∧ d.get F.GNAQ_ENG_STAT_WIN e = 0 then [] else d.past 8 e) ++ d.acqCells e l)).boundary 0x11 e).mark
    V.acqStepAt e

theorem Dev.acqStepped_past (d : Dev) (e : Nat) (l : List Nat) : (d.acqStepped e l).past 8 e =
    (if d.get F.GNAQ_ENG_STAT_BIN e = 0 ∧ d.get F.GNAQ_ENG_STAT_WIN e = 0 then [] else d.past 8 e) ++ d.acqCells e l := by
  simp [Dev.acqStepped, Dev.past, Dev.setPast, Dev.boundary, Dev.mark, Dev.setVar, Store.find_put]

/-- What follows a step depends on none of what keeps its cells. -/
theorem Dev.acqStepped_acqFollows (d : Dev) (e : Nat) (l : List Nat) (u : Dev) : (d.acqStepped e l).AcqFollows u e = d.AcqFollows u e := rfl

/-- The read of the snapshot with which a step of the search begins (R124, R128). -/
def State.acqSnap (s : State) (e : Nat) : State × Except AccessFail (List Nat) :=
  s.devRead (0x0110 + e) (s.dev.get F.GNAQ_ENG_SNAP_BASE.act e / 4096 * 4096) (s.dev.acqBytes e)

/-- The field is none of those that a device's read can write: those of a fault of the IOMMU, and of the events it counts. -/
def readLeaves (g : Fld) : Bool := (frameEvents ++ iommuFaultFlds).all (fun f => g.kid != f.kid && g.kid != f.act.kid)

theorem State.acqSnap_get (s : State) (e : Nat) {g : Fld} (hg : readLeaves g = true) (j : Nat) :
    (s.acqSnap e).1.dev.get g j = s.dev.get g j := by
  have hkeep : Scope.Keeps { flds := iommuFaultFlds, mem := true } g := fun f hf => by simpa using List.all_eq_true.mp hg f hf
  exact Dev.get_of_view (congrArg Prod.fst (State.view_devRead s _ _ _ (List.Subset.refl _) rfl)) hkeep j

theorem State.acqSnap_acqEnt (s : State) (e : Nat) : (s.acqSnap e).1.dev.acqEnt e = s.dev.acqEnt e :=
  Dev.acqEnt_of_get (State.acqSnap_get _ _ (by decide) _)

theorem State.acqSnap_acqSig (s : State) (e : Nat) : (s.acqSnap e).1.dev.acqSig e = s.dev.acqSig e := by
  rw [Dev.acqSig, State.acqSnap_acqEnt, State.acqSnap_get _ _ (by decide), Dev.acqSig]

theorem State.acqSnap_acqWins (s : State) (e : Nat) : (s.acqSnap e).1.dev.acqWins e = s.dev.acqWins e := by
  simp +decide only [Dev.acqWins, State.acqSnap_acqSig, State.acqSnap_acqEnt, State.acqSnap_get]

theorem State.acqSnap_acqCells (s : State) (e : Nat) (l : List Nat) : (s.acqSnap e).1.dev.acqCells e l = s.dev.acqCells e l := by
  simp +decide only [Dev.acqCells, Dev.binDop, Dev.getI, State.acqSnap_acqSig, State.acqSnap_acqEnt, State.acqSnap_get]

theorem State.acqSnap_past (s : State) (e k j : Nat) : (s.acqSnap e).1.dev.past k j = s.dev.past k j := by
  rw [Dev.past, State.acqSnap, State.devRead_hist, Dev.past]

theorem State.acqSnap_acqFollows (s : State) (u : Dev) (e : Nat) : (s.acqSnap e).1.dev.AcqFollows u e = s.dev.AcqFollows u e := by
  simp +decide only [Dev.AcqFollows, State.acqSnap_acqWins, State.acqSnap_acqEnt, State.acqSnap_get]

section
variable (e : Fin 3) (hsearch : s.dev.var V.acqPhase e = 4) (hdue : s.dev.passed V.acqStepAt e (s.dev.acqStepNs e) = true)
include hsearch hdue

theorem acqBinStep_due : ¬ (s.dev.var V.acqPhase e ≠ 4 ∨ ¬ s.dev.passed V.acqStepAt e (s.dev.acqStepNs e)) := by simp [hsearch, hdue]

theorem State.acqBinStep_fault {f : AccessFail} {t : State} (hread : s.acqSnap e = (t, .error f)) :
    s.acqBinStep e = { t with dev := t.dev.acqFault e } := by
  rw [State.acqBinStep, if_neg (acqBinStep_due e hsearch hdue), ← State.acqSnap, hread]

theorem State.acqBinStep_cells {l : List Nat} {t : State} (hread : s.acqSnap e = (t, .ok l)) :
    s.acqBinStep e = { t with dev := (if t.dev.acqHit e l then ((t.dev.acqStepped e l).irq 0x11 (8 + e.val)).acqDone e 2 else
      (t.dev.acqStepped e l).acqNext e).useFree } := by
  rw [State.acqBinStep, if_neg (acqBinStep_due e hsearch hdue), ← State.acqSnap, hread]
  rfl

theorem acqBinStep_fault_answers (hread : (s.acqSnap e).2.toOption = none) :
    Answers (.acqBinStep e () ()) s (fun t => t.dev.get F.ENT_RES_STATUS (s.dev.acqEnt e) = 5) := by
  refine ⟨s.acqBinStep e, rfl, ?_⟩
  have hent := s.acqSnap_acqEnt e
  rcases hr : s.acqSnap e with ⟨t, f | l⟩
  · rw [hr] at hent
    have hirq : (t.dev.irq 0x11 (12 + e.val)).acqEnt e = s.dev.acqEnt e := (Dev.acqEnt_of_get (Dev.irq_get _ _ _ _ _ (by decide))).trans hent
    rw [State.acqBinStep_fault e hsearch hdue hr, ← hirq]
    dsimp only
    rw [Dev.acqFault]
    exact Dev.acqEnd_status _ _ 5 _ _ _
  · rw [hr] at hread
    exact absurd hread (Option.some_ne_none l)

section
variable {l : List Nat} (hread : (s.acqSnap e).2.toOption = some l)
include hread

/-- The device after a step whose snapshot was read, from the device that read it. -/
theorem State.acqBinStep_dev {u : Dev} (hu : u = (s.acqSnap e).1.dev) :
    (s.acqBinStep e).dev = (if u.acqHit e l then ((u.acqStepped e l).irq 0x11 (8 + e.val)).acqDone e 2 else (u.acqStepped e l).acqNext e).useFree := by
  rcases hr : s.acqSnap e with ⟨t, f | k⟩
  · rw [hr] at hread
    exact absurd hread.symm (Option.some_ne_none l)
  · rw [hr] at hread hu
    obtain rfl : k = l := Option.some.inj hread
    rw [State.acqBinStep_cells e hsearch hdue hr, hu]

/-- A step that does not end its entry keeps its cells and goes on (R126). -/
theorem acqBinStep_goesOn (hmiss : (s.acqSnap e).1.dev.acqHit e l = false) :
    (s.acqBinStep e).dev.past 8 e =
      (if s.dev.get F.GNAQ_ENG_STAT_BIN e = 0 ∧ s.dev.get F.GNAQ_ENG_STAT_WIN e = 0 then [] else s.dev.past 8 e) ++ s.dev.acqCells e l ∧
    s.dev.AcqFollows (s.acqBinStep e).dev e := by
  rw [State.acqBinStep_dev e hsearch hdue hread rfl, hmiss, if_neg Bool.false_ne_true]
  constructor
  · rw [Dev.acqNext_past, Dev.acqStepped_past, State.acqSnap_acqCells, State.acqSnap_past, State.acqSnap_get _ _ (by decide), State.acqSnap_get _ _ (by decide)]
  · rw [← State.acqSnap_acqFollows, ← Dev.acqStepped_acqFollows _ _ l]
    exact Dev.acqFollows_acqNext ..

theorem acqBinStep_cells_answers (hoff : s.dev.get F.GNAQ_ENG_CFG_EARLY.act e ≠ 1) : Answers (.acqBinStep e () ()) s (fun t =>
    t.dev.past 8 e = (if s.dev.get F.GNAQ_ENG_STAT_BIN e = 0 ∧ s.dev.get F.GNAQ_ENG_STAT_WIN e = 0 then [] else s.dev.past 8 e) ++ s.dev.acqCells e l ∧
    s.dev.AcqFollows t.dev e) := by
  refine ⟨s.acqBinStep e, rfl, acqBinStep_goesOn e hsearch hdue hread ?_⟩
  rw [Dev.acqHit, Dev.on, State.acqSnap_get _ _ (by decide)]
  simp [hoff]

theorem acqBinStep_early_answers (hon : s.dev.get F.GNAQ_ENG_CFG_EARLY.act e = 1) : Answers (.acqBinStep e () ()) s (fun t =>
    if s.dev.get F.GNAQ_ENG_CFG_DETTH.act e ≤
        ((s.dev.acqSig e).bind (fun g => g.peak (bestCell (s.dev.acqCells e l)) (s.dev.acqCells e l))).getD (s.acqSnap e).1.dev.freeVal then
      t.dev.get F.ENT_RES_STATUS (s.dev.acqEnt e) = 2
    else s.dev.AcqFollows t.dev e) := by
  refine ⟨s.acqBinStep e, rfl, ?_⟩
  obtain ⟨u, hu⟩ : ∃ u, u = (s.acqSnap e).1.dev := ⟨_, rfl⟩
  have hhit : u.acqHit e l = decide (s.dev.get F.GNAQ_ENG_CFG_DETTH.act e ≤
      ((s.dev.acqSig e).bind (fun g => g.peak (bestCell (s.dev.acqCells e l)) (s.dev.acqCells e l))).getD u.freeVal) := by
    rw [Dev.acqHit, Dev.on, Dev.acqTop_eq, hu, State.acqSnap_get _ _ (by decide), State.acqSnap_get _ _ (by decide), State.acqSnap_acqSig,
      State.acqSnap_acqCells, hon]
    rfl
  rw [← hu]
  split
  · next hle =>
    rw [State.acqBinStep_dev e hsearch hdue hread hu, hhit, decide_eq_true hle, if_pos rfl]
    have hent : ((u.acqStepped e l).irq 0x11 (8 + e.val)).acqEnt e = s.dev.acqEnt e :=
      (Dev.acqEnt_of_get (Dev.irq_get _ _ _ _ _ (by decide))).trans (hu ▸ State.acqSnap_acqEnt ..)
    rw [Dev.useFree_get, ← hent]
    exact Dev.acqDone_status ..
  · next hgt => exact (acqBinStep_goesOn e hsearch hdue hread (hu ▸ hhit.trans (decide_eq_false hgt))).2

end
end

/-! ### ACQ_ENTRY_END and ACQ_ENTRY_WRITE (R127, R135) -/

theorem acqEntryEnd_answers (e : Fin 3) (hdone : s.dev.var V.acqPhase e = 5) : Answers (.acqEntryEnd e ()) s (fun t =>
    t.dev.get F.ENT_RES_STATUS (s.dev.acqEnt e) = 1 ∧
    t.dev.get F.ENT_PEAK_PEAK (s.dev.acqEnt e) = (s.dev.acqResult e).peak % 2 ^ F.ENT_PEAK_PEAK.width ∧
    t.dev.get F.ENT_RES_RATIO (s.dev.acqEnt e) = (s.dev.acqResult e).ratio % 2 ^ F.ENT_RES_RATIO.width ∧
    t.dev.get F.ENT_CPH_CPH (s.dev.acqEnt e) = (s.dev.acqResult e).cph % 2 ^ F.ENT_CPH_CPH.width ∧
    t.dev.get F.ENT_CPH_BIN (s.dev.acqEnt e) = (s.dev.acqResult e).bin % 2 ^ F.ENT_CPH_BIN.width) := by
  refine ⟨{ s with dev := s.dev.acqEntryEnd e }, rfl, ?_⟩
  dsimp only
  rw [Dev.acqEntryEnd, if_neg (not_not.mpr hdone)]
  exact ⟨Dev.acqDone_status .., Dev.acqEnd_results { s.dev with free := s.dev.free + 2 } ..⟩

/-- A configuration word 0 written, with STATUS and FLAGS cleared (R135). -/
theorem Dev.acqWord_cfg0 (d : Dev) (k : Nat) {v : Nat} (hv : v < 2 ^ 32) :
    (((d.acqWord k 0 v).set F.ENT_RES_STATUS k 0).set F.ENT_RES_FLAGS k 0).get F.ENT_CFG0_EN k = v / 2 ^ 31 ∧
    (((d.acqWord k 0 v).set F.ENT_RES_STATUS k 0).set F.ENT_RES_FLAGS k 0).get F.ENT_CFG0_SIG k = v % 256 ∧
    (((d.acqWord k 0 v).set F.ENT_RES_STATUS k 0).set F.ENT_RES_FLAGS k 0).get F.ENT_RES_STATUS k = 0 ∧
    (((d.acqWord k 0 v).set F.ENT_RES_STATUS k 0).set F.ENT_RES_FLAGS k 0).get F.ENT_RES_FLAGS k = 0 := by
  have hbit : v / 2 ^ 31 % 2 ^ F.ENT_CFG0_EN.width = v / 2 ^ 31 := Nat.mod_eq_of_lt (Nat.div_lt_of_lt_mul hv)
  simp +decide only [Dev.acqWord, Dev.get_set, if_true, if_false, true_and]
  exact ⟨hbit, rfl, trivial⟩

theorem acqEntryWrite_answers (e : Fin 3) (ix : Fin 128) (v : BitVec 32) (ht : Taken s 0x11 a)
    (hidle : s.dev.get F.GNAQ_ENG_STAT_STATE e = 0 ∨ s.dev.get F.GNAQ_ENG_STAT_ENTRY e ≠ ix.val) : Answers (.acqEntryWrite a e ix 0 v) s (fun t =>
      t.dev.get F.ENT_CFG0_EN (e.val * 128 + ix.val) = v.toNat / 2 ^ 31 ∧ t.dev.get F.ENT_CFG0_SIG (e.val * 128 + ix.val) = v.toNat % 256 ∧
      t.dev.get F.ENT_RES_STATUS (e.val * 128 + ix.val) = 0 ∧ t.dev.get F.ENT_RES_FLAGS (e.val * 128 + ix.val) = 0) := by
  have hx : exec (.acqEntryWrite a e ix 0 v) s = execAcqEntryWrite a e ix 0 v s := rfl
  rw [execAcqEntryWrite, upd_wr_taken ht _ _ (fun d => d.acqDiffers (e.val * 128 + ix.val) _ v.toNat)] at hx
  refine ⟨_, hx, ?_⟩
  have hfree : ¬ ((s.dev.counted 0x11 a.bank.val).get F.GNAQ_ENG_STAT_STATE e ≠ 0 ∧ (s.dev.counted 0x11 a.bank.val).get F.GNAQ_ENG_STAT_ENTRY e = ix.val) := by
    rw [Dev.counted_get_ne _ _ _ _ (by decide) (by decide), Dev.counted_get_ne _ _ _ _ (by decide) (by decide)]
    exact fun h => hidle.elim h.1 (absurd h.2)
  simp only [if_neg hfree, Dev.ended_get]
  exact Dev.acqWord_cfg0 _ _ v.isLt

/-- Settles O6: each command of GNAQ acts by one case of its rule; a search reads nothing that the read of its snapshot can change. -/
theorem acquisitionListsAndEntries : Obligations.AcquisitionListsAndEntries :=
  ⟨fun _ _ j ht hc hrun hidle hfrom hen hfirst => acqGo_answers j ht hc hrun hidle hfrom hen hfirst,
    fun _ _ ht hc hbusy => acqAbort_answers ht hc hbusy,
    fun _ e hdue hbad => acqEntryStart_invalid_answers e hdue hbad,
    fun _ e hdue hok hno => acqEntryStart_captures e hdue hok hno,
    fun _ e hdue hok hreuse hheld => acqEntryStart_searches e hdue hok hreuse hheld,
    fun _ e hwait htick hpath => acqCaptureStart_begins e hwait htick hpath,
    fun _ e hwait htick hpath => acqCaptureStart_fails e hwait htick hpath,
    fun _ e l hcap hdue hok => acqCaptureEnd_answers e l hcap hdue hok,
    fun _ e hsearch hdue hread => acqBinStep_fault_answers e hsearch hdue hread,
    fun _ e _ hsearch hdue hread hoff => acqBinStep_cells_answers e hsearch hdue hread hoff,
    fun _ e _ hsearch hdue hread hon => acqBinStep_early_answers e hsearch hdue hread hon,
    fun _ e hdone => acqEntryEnd_answers e hdone,
    fun _ _ e ix v ht hidle => acqEntryWrite_answers e ix v ht hidle⟩

end Sys2Proof.Machine
end

section
/-! ## A third statement that takes a bit for 0 where it is not 1

TRACK_STOP asks whether EN is 1 and else leaves it; the statement has it 0 afterwards in every state, and so in one whose store lists 2 for EN. A write cuts its
value to the field's width, so that no command leads there. -/

namespace Sys2Proof.Machine

/-- A device whose store lists 2 for the EN of tracking channel 0. -/
def trackEnTwo : State := { State.reset with dev.regs := [((F.GNTK_CH_CFG_EN.kid, 0), 2)] }

/-- EN is not 1, so that TRACK_STOP finds no channel to stop (R151, R187). -/
theorem trackStop_trackEnTwo :
    (match exec (.trackStop ⟨0, true⟩) trackEnTwo with | .next t => t.dev.get F.GNTK_CH_CFG_EN 0 | _ => 0) = 2 := by
  decide +kernel

/-- Refutes O7: on a channel whose store lists 2 for EN, TRACK_STOP leaves the 2, where the statement has EN 0. -/
theorem not_trackingChannelStates : ¬ Obligations.TrackingChannelStates := by
  rintro ⟨-, -, -, hstop, -⟩
  obtain ⟨t, ht, hen, -⟩ := hstop trackEnTwo ⟨0, true⟩ (by decide +kernel) (by decide +kernel)
  have hzero : trackEnTwo.dev.chSel 0x12 ⟨0, true⟩ = 0 := by decide +kernel
  have htwo := trackStop_trackEnTwo
  rw [hzero] at hen
  rw [ht] at htwo
  exact absurd (htwo.symm.trans hen) (by decide)

end Sys2Proof.Machine
end

section
/-! ## Variables and histories through the operations that GNTK uses

What `Dev.view` does for registers and `Dev.besides` for variables with reports, `Dev.held` does for variables with histories: an access of a device to DRAM, a
publication in a Clearing slot and the guard each write a few variables of their own, and no history. -/

namespace Sys2Proof.Machine

variable {d e : Dev} {vl : List Vr}

/-- What a device holds in its variables but for those listed, and in its histories. -/
def Dev.held (vl : List Vr) (d : Dev) : ({x : Vr // ∀ y ∈ vl, x.id ≠ y.id} → Nat → Int) × Store (List (Int × Int)) := (fun x i => d.var x i, d.hist)

theorem Dev.var_of_held (h : d.held vl = e.held vl) {x : Vr} (hx : ∀ y ∈ vl, x.id ≠ y.id) (i : Nat) : d.var x i = e.var x i :=
  congrFun (congrFun (congrArg Prod.fst h) ⟨x, hx⟩) i

theorem Dev.past_of_held (h : d.held vl = e.held vl) (n i : Nat) : d.past n i = e.past n i := by
  rw [Dev.past, Dev.past, show d.hist = e.hist from congrArg Prod.snd h]

theorem Dev.held_of_rest (h : d.rest = e.rest) : d.held vl = e.held vl :=
  Prod.ext (funext fun x => funext fun i => Dev.var_of_rest h x i) (Dev.hist_of_rest h)

/-- A device, or a state, that comes with a result holds what the pair's holds. -/
theorem State.held_of_eq {α : Type} {p : State × α} {t : State} {x : α} (h : p = (t, x)) : t.dev.held vl = p.1.dev.held vl := by rw [h]

/-! ### The device's operations -/

@[simp] theorem Dev.held_set (d : Dev) (f : Fld) (i v : Nat) : (d.set f i v).held vl = d.held vl := rfl
@[simp] theorem Dev.held_setI (d : Dev) (f : Fld) (i : Nat) (v : Int) : (d.setI f i v).held vl = d.held vl := rfl
@[simp] theorem Dev.held_incWrap (d : Dev) (f : Fld) (i n : Nat) : (d.incWrap f i n).held vl = d.held vl := rfl
@[simp] theorem Dev.held_useFree (d : Dev) : d.useFree.held vl = d.held vl := rfl
@[simp] theorem Dev.held_setBlob (d : Dev) (n i : Nat) (l : List Nat) : (d.setBlob n i l).held vl = d.held vl := rfl
@[simp] theorem Dev.held_tlb (d : Dev) (l : List TlbEntry) : ({ d with tlb := l } : Dev).held vl = d.held vl := rfl
@[simp] theorem Dev.held_cone (d : Dev) (slot ev n : Nat) : (d.cone slot ev n).held vl = d.held vl := Dev.held_of_rest (by simp)
@[simp] theorem Dev.held_irq (d : Dev) (slot b : Nat) : (d.irq slot b).held vl = d.held vl := Dev.held_of_rest (by simp)
@[simp] theorem Dev.held_level (d : Dev) (slot b : Nat) (v : Bool) : (d.level slot b v).held vl = d.held vl := Dev.held_of_rest (by simp)

@[simp] theorem Dev.held_errBlk (d : Dev) (slot bcode cls : Nat) (pay : List Nat) : (d.errBlk slot bcode cls pay).held vl = d.held vl :=
  Prod.ext (funext fun _ => funext fun _ => Dev.errBlk_var ..) (Dev.errBlk_hist _ _ _ cls pay)

@[simp] theorem Dev.held_errAcc (d : Dev) (slot c off bank : Nat) : (d.errAcc slot c off bank).held vl = d.held vl :=
  Prod.ext (funext fun _ => funext fun _ => Dev.errAcc_var ..) (Dev.errAcc_hist ..)

@[simp] theorem Dev.held_setVar {x : Vr} (h : x ∈ vl) (d : Dev) (i : Nat) (v : Int) : (d.setVar x i v).held vl = d.held vl :=
  Prod.ext (funext fun y => funext fun j => Dev.var_setVar_id d i j v (y.2 x h)) rfl

@[simp] theorem Dev.held_mark {x : Vr} (h : x ∈ vl) (d : Dev) (i : Nat) : (d.mark x i).held vl = d.held vl := Dev.held_setVar h d i _

@[simp] theorem Dev.held_ite (p : Prop) [Decidable p] (d e : Dev) : (if p then d else e).held vl = if p then d.held vl else e.held vl :=
  apply_ite _ _ _ _

@[simp] theorem Dev.held_when (d : Dev) (b : Bool) (k : Dev → Dev) : (d.when b k).held vl = if b then (k d).held vl else d.held vl := by
  cases b <;> rfl

@[simp] theorem Dev.held_each (d : Dev) (l : List Nat) (k : Nat → Dev → Dev) (h : ∀ i a, (k i a).held vl = a.held vl) :
    (d.each l k).held vl = d.held vl :=
  Dev.each_keeps (Dev.held vl) k l d fun i _ a => h i a

/-! ### An access of a device through the IOMMU (R474, R478) -/

@[simp] theorem State.held_devCtx (s : State) (dev : Nat) : (s.devCtx dev).1.dev.held vl = s.dev.held vl := by
  simp only [State.devCtx]
  repeat' split
  all_goals rfl

@[simp] theorem State.held_xlate (s : State) (dev page : Nat) (wr : Bool) (h : [V.tlbHit, V.tlbMiss] ⊆ vl) :
    (s.xlate dev page wr).1.dev.held vl = s.dev.held vl := by
  simp only [List.cons_subset] at h
  simp only [State.xlate]
  split
  · rfl
  split
  · rfl
  split
  · next he => rw [State.held_of_eq he, State.held_devCtx]
  next t w he =>
  have hctx : t.dev.held vl = s.dev.held vl := by rw [State.held_of_eq he, State.held_devCtx]
  split
  · exact hctx
  split
  · simp [h, hctx]
  split
  · simp [h, hctx]
  split
  · next hw => rw [State.dev_of_eq hw]; split <;> simp [h, hctx]
  next t gp w1 hw =>
  have ht : t.dev.held vl = s.dev.held vl := by rw [State.dev_of_eq hw]; split <;> simp [h, hctx]
  split
  all_goals next hg => simp [State.dev_of_eq hg, ht]

@[simp] theorem State.held_xlateAll (s : State) (dev page n : Nat) (wr : Bool) (h : [V.tlbHit, V.tlbMiss] ⊆ vl) :
    (s.xlateAll dev page n wr).1.dev.held vl = s.dev.held vl := by
  induction n generalizing s page with
  | zero => rfl
  | succ k ih =>
    unfold State.xlateAll
    split
    · next hx => rw [State.held_of_eq hx, State.held_xlate _ _ _ _ h]
    next hx =>
    split
    all_goals next hl => rw [State.held_of_eq hl, ih, State.held_of_eq hx, State.held_xlate _ _ _ _ h]

@[simp] theorem Dev.held_sysRefused (d : Dev) (dev p : Nat) : (d.sysRefused dev p).held vl = d.held vl := by
  simp [Dev.sysRefused]

@[simp] theorem State.held_iommuFault (s : State) (dev iova cause : Nat) (wr : Bool) (h : V.poison ∈ vl) :
    (s.iommuFault dev iova cause wr).dev.held vl = s.dev.held vl := by
  simp only [State.iommuFault]
  repeat' split
  all_goals simp [h]

@[simp] theorem State.held_devOpen (s : State) (dev iova n : Nat) (wr : Bool) (h : [V.tlbHit, V.tlbMiss, V.poison] ⊆ vl) :
    (s.devOpen dev iova n wr).1.dev.held vl = s.dev.held vl := by
  have h' := h
  simp only [List.cons_subset] at h
  unfold State.devOpen
  split
  · next he => rw [State.held_iommuFault _ _ _ _ _ h.2.2.1, State.held_of_eq he, State.held_xlateAll _ _ _ _ _ (by simp [h])]
  next he => split <;> simp [State.held_of_eq he, h]

@[simp] theorem State.held_devStore (s : State) (iova : Nat) (pages : List Nat) (k : Nat) (l : List Nat) (h : V.poison ∈ vl) :
    (s.devStore iova pages k l).dev.held vl = s.dev.held vl := by
  induction l generalizing s k with
  | nil => rfl
  | cons x t ih =>
    unfold State.devStore
    simp [h, ih]

@[simp] theorem State.held_devWrite (s : State) (dev iova : Nat) (l : List Nat) (h : [V.tlbHit, V.tlbMiss, V.poison] ⊆ vl) :
    (s.devWrite dev iova l).1.dev.held vl = s.dev.held vl := by
  have hp : V.poison ∈ vl := h (by simp)
  unfold State.devWrite
  split
  all_goals next he => simp [h, hp, State.held_of_eq he]

/-! ### A publication in a Clearing slot (R28, R41) -/

/-- The variables that a publication in a Clearing slot writes. -/
def clrVars : List Vr := [V.clrAgent, V.clrTicks, V.wdAt, V.wdPer, V.whlGuard]

theorem clrVars_subset {l : List Vr} : clrVars ⊆ l ↔ [V.clrAgent, V.clrTicks, V.wdAt, V.wdPer, V.whlGuard] ⊆ l := by rw [clrVars]

@[simp] theorem Dev.held_clrViol (d : Dev) (slot plane kind : Nat) : (d.clrViol slot plane kind).held vl = d.held vl := by
  simp [Dev.clrViol]

@[simp] theorem Dev.held_whlGuardStep (d : Dev) (h : V.whlGuard ∈ vl) : d.whlGuardStep.held vl = d.held vl := by
  simp [Dev.whlGuardStep, h]

@[simp] theorem Dev.held_clrFill (d : Dev) (i g b : Nat) (l : List Nat) : (d.clrFill i g b l).held vl = d.held vl := by
  induction l generalizing d b with
  | nil => rfl
  | cons x t ih => exact ih _ _

@[simp] theorem Dev.held_clrPublish (d : Dev) (i : Nat) (agent : Int) (h : clrVars ⊆ vl) : (d.clrPublish i agent).held vl = d.held vl := by
  simp only [clrVars_subset, List.cons_subset] at h
  simp [Dev.clrPublish, h]

@[simp] theorem Dev.held_clrPost (d : Dev) (i agent : Nat) (l : List Nat) (h : clrVars ⊆ vl) : (d.clrPost i agent l).held vl = d.held vl := by
  simp [Dev.clrPost, Dev.clrCommit, h]

@[simp] theorem Dev.held_epochCopies (d : Dev) (h : clrVars ⊆ vl) : d.epochCopies.held vl = d.held vl := by
  simp [Dev.epochCopies, h]

/-! ### The guard and a path's jamming state (R172, R175 to R177, R205) -/

@[simp] theorem Dev.held_guardShow (d : Dev) (sgv contra : Bool) (h : V.rearmed ∈ vl) : (d.guardShow sgv contra).held vl = d.held vl := by
  simp [Dev.guardShow, h]

@[simp] theorem Dev.held_guardEval (d : Dev) (h : V.rearmed ∈ vl) : d.guardEval.held vl = d.held vl := by
  simp [Dev.guardEval, h]

@[simp] theorem Dev.held_slipBits (d : Dev) (hold unk : Bool) : (d.slipBits hold unk).held vl = d.held vl := by
  simp [Dev.slipBits]

@[simp] theorem Dev.held_slipUpdate (d : Dev) (vg v : Int) (h : V.slipA ∈ vl) : (d.slipUpdate vg v).held vl = d.held vl := by
  simp [Dev.slipUpdate, h]

/-- The variables that the judgement of a pair writes. -/
def judgeVars : List Vr := [V.dYaw, V.pvtBad, V.pvtGood, V.rearmed, V.contraAt, V.slipA]

theorem judgeVars_subset {l : List Vr} : judgeVars ⊆ l ↔ [V.dYaw, V.pvtBad, V.pvtGood, V.rearmed, V.contraAt, V.slipA] ⊆ l := by rw [judgeVars]

@[simp] theorem Dev.held_pvtJudge (d : Dev) (k : Nat) (rate : Int) (h : judgeVars ⊆ vl) : (d.pvtJudge k rate).held vl = d.held vl := by
  simp only [judgeVars_subset, List.cons_subset] at h
  simp [Dev.pvtJudge, h]

end Sys2Proof.Machine
end

section
/-! ## Epochs, records, symbols and TOW (R155 to R167) -/

namespace Sys2Proof.Machine

variable {s : State} {d : Dev} {a : Acc}

/-! ### HALF_CYCLE_RESOLVE and TOW_WRITE (R155, R156) -/

theorem Dev.trkData_of_get {d e : Dev} {c : Nat} (h : d.get F.GNTK_CH_CFG_SIG c = e.get F.GNTK_CH_CFG_SIG c) : d.trkData c = e.trkData c := by
  rw [Dev.trkData, h, Dev.trkData]

theorem halfCycleResolve_answers (inv : Bool) (ht : Taken s 0x12 a) (hc : s.dev.chSel 0x12 a < 600) (hdata : s.dev.trkData (s.dev.chSel 0x12 a) = true) :
    Answers (.halfCycleResolve a true inv) s (fun t => t.dev.var V.hca (s.dev.chSel 0x12 a) = 0 ∧
      t.dev.var V.halfAdd (s.dev.chSel 0x12 a) = s.dev.var V.halfAdd (s.dev.chSel 0x12 a) + ((bit inv : Nat) : Int)) := by
  have hx : exec (.halfCycleResolve a true inv) s = execHalfCycleResolve a true inv s := rfl
  rw [execHalfCycleResolve, upd_wrCh_taken ht hc] at hx
  refine ⟨_, hx, ?_⟩
  generalize s.dev.chSel 0x12 a = c at hdata ⊢
  have hb : ((s.dev.counted 0x12 a.bank.val).cone 0x12 7).trkData c = true :=
    (Dev.trkData_of_get (Dev.counted_cone_get _ _ _ (by decide) (by decide) _)).trans hdata
  cases inv <;> simp +decide [hb, Dev.var_setVar, bit]

theorem Dev.epochAge_of_get {d e : Dev} (h : d.get F.GNTK_EPSEQ_SEQ 0 = e.get F.GNTK_EPSEQ_SEQ 0) (n : Nat) : d.epochAge n = e.epochAge n := by
  rw [Dev.epochAge, h, Dev.epochAge]

theorem towWrite_answers (ms seq : BitVec 16) (ht : Taken s 0x12 a) (hc : s.dev.chSel 0x12 a < 600) (hage : s.dev.epochAge seq.toNat ≤ 16) :
    Answers (.towWrite a ms seq) s (fun t => t.dev.var V.towMs (s.dev.chSel 0x12 a) = ms.toNat ∧ t.dev.var V.towSeq (s.dev.chSel 0x12 a) = seq.toNat) := by
  have hx : exec (.towWrite a ms seq) s = execTowWrite a ms seq s := rfl
  rw [execTowWrite, upd_wrCh_taken ht hc] at hx
  refine ⟨_, hx, ?_⟩
  have hb : ¬ 16 < ((s.dev.counted 0x12 a.bank.val).cone 0x12 7).epochAge seq.toNat := by
    rw [Dev.epochAge_of_get (Dev.counted_cone_get _ _ _ (by decide) (by decide) _)]
    exact not_lt.mpr hage
  simp +decide [hb, Dev.var_setVar]

/-! ### EPOCH_LATCH (R157 to R159) -/

/-- The channels latch, and the checks run (R158, R163, R164, R168 to R171). -/
def Dev.epochChecked (d : Dev) (inst u : Int) (eper : Nat) : Dev :=
  let d := d.each (List.range 600) (fun c a => (a.latchCh c u).setVar V.latFlags c (a.plainFlags c))
  let d := (pairsOf d.trkGood).foldl (fun a e => a.crossFreq u e.1 e.2) d
  let d := d.each ((List.range 600).filter (fun c => d.get F.GNTK_CH_STAT_STATE c != 0)) (fun c a => a.divergence u inst c)
  let n := d.var V.chkCount 0 + 1
  let ce := checkEvery eper
  let d := if (ce : Int) ≤ n then (d.setVar V.chkCount 0 0).jumpCheck inst (ce * eper)
    else ((d.setVar V.chkCount 0 n).setVar V.cjump 0 0).set F.GNTK_INTF_CJUMP 0 0
  d.each [0, 1, 2] (fun i a => a.flatCheck i)

/-- What the header takes of the paths and channels since the last epoch starts anew (R162, R164). -/
def Dev.epochRestarted (d : Dev) : Dev :=
  let d := d.each (List.range 9) (fun p a => (((a.setVar V.latPath p (a.pathByte p)).setVar V.pfNotch p 0).setVar V.pfSat p 0).setVar V.pfInv p
    (bit (!a.pathOk p)))
  let d := d.each [0, 1, 2] (fun i a => a.setVar V.pfAnt i 0)
  d.each (List.range 600) (fun c a => a.setVar V.slipF c 0)

/-- The epoch waits to be recorded, and the next one is set (R157, R161). -/
def Dev.epochClosed (d : Dev) (inst u : Int) (eper : Nat) : Dev :=
  let d := (d.setVar V.pfMs 0 0).setVar V.epochSt 0 (d.get F.TIME_STATE_ST 0 + 8 * d.get F.TIME_STATE_STEPPEND 0 + 16 * d.var V.epochStep 0)
  let d := (((d.setVar V.epochStep 0 0).setVar V.epochInst 0 inst).setVar V.lastEpoch 0 u).setVar V.nextEpoch 0 (inst + eper * 1000000)
  let d := ((d.setVar V.egoReqE 0 (d.get F.GNTK_GUARD_CFG_EGOREQ 0)).setVar V.epochPend 0 1).guardEval
  let d := (d.setBlob 50 0 d.epochHeader).setBlob 51 0 ((List.range 600).flatMap (fun c => d.chRecord c))
  d.boundary 0x12 wideUnit

/-- At the instant of the next epoch EPSEQ counts, the channels latch and the epoch after is set. -/
theorem Dev.epochLatch_due (hrun : d.running 0x12 = true) (hset : 0 ≤ d.var V.nextEpoch 0) (hdue : d.var V.nextEpoch 0 * 65536 ≤ d.var V.grove 0) :
    ∃ u, d.epochLatch = ((((d.incWrap F.GNTK_EPSEQ_SEQ 0).egoLatch.epochChecked (d.var V.nextEpoch 0) u
      (max 1 (d.get F.GNTK_EPOCH_CFG_EPER.act 0))).epochRestarted).epochClosed (d.var V.nextEpoch 0) u (max 1 (d.get F.GNTK_EPOCH_CFG_EPER.act 0))) := by
  have hgo : (!d.running 0x12 || decide (d.var V.nextEpoch 0 < 0) || decide (d.var V.grove 0 < d.var V.nextEpoch 0 * 65536)) = false := by
    simp [hrun, hset, hdue]
  refine ⟨d.var V.uptime 0 - (d.var V.grove 0 - d.var V.nextEpoch 0 * 65536), ?_⟩
  rw [Dev.epochLatch, hgo, if_neg Bool.false_ne_true]
  rfl

/-- What the latch of an epoch may write beside EPSEQ. -/
def latchFlds : List Fld := [F.GNTK_CH_STAT_AMB, F.GNTK_CLKRES_RES, F.GNTK_GUARD_STAT_CONTRA, F.GNTK_GUARD_STAT_EGOOK, F.GNTK_GUARD_STAT_PVTOK,
  F.GNTK_GUARD_STAT_SGV, F.GNTK_INTF_CJUMP, F.GNTK_INTF_CN0FLAT]

theorem latchFlds_subset {l : List Fld} : latchFlds ⊆ l ↔ [F.GNTK_CH_STAT_AMB, F.GNTK_CLKRES_RES, F.GNTK_GUARD_STAT_CONTRA, F.GNTK_GUARD_STAT_EGOOK,
    F.GNTK_GUARD_STAT_PVTOK, F.GNTK_GUARD_STAT_SGV, F.GNTK_INTF_CJUMP, F.GNTK_INTF_CN0FLAT] ⊆ l := by rw [latchFlds]

theorem Dev.view_epochRestarted (d : Dev) {κ : Scope} : d.epochRestarted.view κ = d.view κ := by
  simp +decide [Dev.epochRestarted]

section
variable {κ : Scope} (hκ : latchFlds ⊆ κ.flds) (inst u : Int) (eper : Nat)
include hκ

theorem Dev.view_epochChecked (d : Dev) : (d.epochChecked inst u eper).view κ = d.view κ := by
  simp only [latchFlds_subset, List.cons_subset] at hκ
  simp +decide [Dev.epochChecked, hκ]

theorem Dev.view_epochClosed (d : Dev) : (d.epochClosed inst u eper).view κ = d.view κ := by
  simp only [latchFlds_subset, List.cons_subset] at hκ
  simp +decide [Dev.epochClosed, Dev.boundary, hκ]

end

theorem Dev.guardEval_var (d : Dev) {x : Vr} (hx : x.id ≠ V.rearmed.id) (j : Nat) : d.guardEval.var x j = d.var x j :=
  Dev.var_of_held (d.held_guardEval (vl := [V.rearmed]) (by simp)) (by simpa using hx) j

theorem Dev.epochClosed_vars (d : Dev) (inst u : Int) (eper : Nat) : (d.epochClosed inst u eper).var V.epochPend 0 = 1 ∧
    (d.epochClosed inst u eper).var V.epochInst 0 = inst ∧ (d.epochClosed inst u eper).var V.nextEpoch 0 = inst + eper * 1000000 := by
  have hblob : ∀ (e : Dev) n i l x j, (e.setBlob n i l).var x j = e.var x j := fun _ _ _ _ _ _ => rfl
  simp +decide [Dev.epochClosed, Dev.boundary, Dev.mark, hblob, Dev.guardEval_var, Dev.var_setVar]

theorem epochLatch_answers (hrun : s.dev.running 0x12 = true) (hset : 0 ≤ s.dev.var V.nextEpoch 0)
    (hdue : s.dev.var V.nextEpoch 0 * 65536 ≤ s.dev.var V.grove 0) : Answers .epochLatch s (fun t =>
      t.dev.get F.GNTK_EPSEQ_SEQ 0 = (s.dev.get F.GNTK_EPSEQ_SEQ 0 + 1) % 2 ^ F.GNTK_EPSEQ_SEQ.width ∧ t.dev.var V.epochPend 0 = 1 ∧
      t.dev.var V.epochInst 0 = s.dev.var V.nextEpoch 0 ∧
      t.dev.var V.nextEpoch 0 = s.dev.var V.nextEpoch 0 + (max 1 (s.dev.get F.GNTK_EPOCH_CFG_EPER.act 0) : Nat) * 1000000) := by
  refine ⟨{ s with dev := s.dev.epochLatch }, rfl, ?_⟩
  obtain ⟨u, hlatch⟩ := Dev.epochLatch_due hrun hset hdue
  dsimp only
  rw [hlatch]
  refine ⟨?_, Dev.epochClosed_vars ..⟩
  rw [Dev.get_of_view ((Dev.view_epochClosed (κ := { flds := latchFlds }) (List.Subset.refl _) ..).trans
    ((Dev.view_epochRestarted _).trans (Dev.view_epochChecked (List.Subset.refl _) ..))) (by unfold Scope.Keeps; decide)]
  exact Dev.get_set_same ..

/-! ### EPOCH_RECORDED (R160, R161, R167, R177) -/

/-- The device once the ring holds the epoch: WR advances to `w`, and the event is told (R161, R189). -/
def Dev.epochWritten (d : Dev) (w : Nat) : Dev :=
  ((((d.set F.GNTK_RING_WR_WR 0 w).irq 0x12 0).set F.COM_STAT_FAULT 0x12 0).setVar V.epochDropped 0 0).cone 0x12 0x100

/-- The copies of an epoch write no register of GNTK. -/
theorem Dev.epochWritten_wr (d : Dev) (w : Nat) : (d.epochWritten w).epochCopies.get F.GNTK_RING_WR_WR 0 = w % 2 ^ F.GNTK_RING_WR_WR.width := by
  have hview : (d.epochWritten w).epochCopies.view { flds := F.COM_STAT_FAULT :: clrFlds } = (d.set F.GNTK_RING_WR_WR 0 w).view { flds := F.COM_STAT_FAULT :: clrFlds } := by
    simp +decide [Dev.epochWritten]
  rw [Dev.get_of_view hview (by unfold Scope.Keeps; decide), Dev.get_set_same]

theorem Dev.epochWritten_var (d : Dev) (w : Nat) {x : Vr} (hx : ∀ y ∈ V.epochDropped :: clrVars, x.id ≠ y.id) (j : Nat) :
    (d.epochWritten w).epochCopies.var x j = d.var x j :=
  Dev.var_of_held (by simp [Dev.epochWritten]) hx j

theorem epochRecorded_answers (hpend : s.dev.var V.epochPend 0 ≠ 0) (hnep : 2 ≤ s.dev.get F.GNTK_RING_CFG_NEP.act 0)
    (hroom : (s.dev.get F.GNTK_RING_WR_WR 0 + 1) % s.dev.get F.GNTK_RING_CFG_NEP.act 0 ≠ s.dev.get F.GNTK_RING_RD_RD 0)
    (hok : (State.devWrite { s with dev := s.dev.setVar V.epochPend 0 0 } 0x0120
      (s.dev.get F.GNTK_RING_BASE.act 0 / 4096 * 4096 + 20480 * s.dev.get F.GNTK_RING_WR_WR 0) (s.dev.blob 50 0 ++ s.dev.blob 51 0)).2 = none) :
    Answers .epochRecorded s (fun t =>
      t.dev.get F.GNTK_RING_WR_WR 0 = (s.dev.get F.GNTK_RING_WR_WR 0 + 1) % s.dev.get F.GNTK_RING_CFG_NEP.act 0 % 2 ^ F.GNTK_RING_WR_WR.width ∧
      t.dev.var V.epochPend 0 = 0 ∧
      t.mem = (State.devWrite { s with dev := s.dev.setVar V.epochPend 0 0 } 0x0120
        (s.dev.get F.GNTK_RING_BASE.act 0 / 4096 * 4096 + 20480 * s.dev.get F.GNTK_RING_WR_WR 0) (s.dev.blob 50 0 ++ s.dev.blob 51 0)).1.mem) := by
  refine ⟨s.epochRecorded, rfl, ?_⟩
  have hblob : ∀ n, (s.dev.setVar V.epochPend 0 0).blob n 0 = s.dev.blob n 0 := fun _ => rfl
  simp only [State.epochRecorded, if_neg hpend, Dev.get_setVar, if_neg (not_lt.mpr hnep), if_neg hroom, hblob]
  have hheld := State.held_devWrite (vl := [V.tlbHit, V.tlbMiss, V.poison]) { s with dev := s.dev.setVar V.epochPend 0 0 } 0x0120
    (s.dev.get F.GNTK_RING_BASE.act 0 / 4096 * 4096 + 20480 * s.dev.get F.GNTK_RING_WR_WR 0) (s.dev.blob 50 0 ++ s.dev.blob 51 0) (List.Subset.refl _)
  generalize State.devWrite _ _ _ _ = w at hok hheld ⊢
  obtain ⟨t, f⟩ := w
  obtain rfl : f = none := hok
  dsimp only
  rw [← Dev.epochWritten, Dev.epochWritten_wr]
  exact ⟨rfl, (Dev.epochWritten_var _ _ (by decide) _).trans ((Dev.var_of_held hheld (by decide) _).trans (Dev.var_setVar_same ..)), rfl⟩

/-! ### NAV_RECORD (R166) -/

/-- The device of a channel whose record leaves it: its symbols are those that the record does not take. -/
def Dev.navTaken (d : Dev) (c n : Nat) : Dev :=
  ((d.setVar V.slipNav c 0).setPast 9 c ((d.past 9 c).drop n)).when ((d.past 9 c).drop n).isEmpty (fun a => a.setVar V.navDue c 0)

theorem Dev.navTaken_shows (d : Dev) (c n : Nat) : (d.navTaken c n).var V.slipNav c = 0 ∧ (d.navTaken c n).past 9 c = (d.past 9 c).drop n := by
  have hpast : ∀ (e : Dev) x i v, (e.setVar x i v).past 9 c = e.past 9 c := fun _ _ _ _ => rfl
  have hput : ∀ (e : Dev) l, (e.setPast 9 c l).past 9 c = l ∧ ∀ x i, (e.setPast 9 c l).var x i = e.var x i := fun e l => by
    simp [Dev.past, Dev.setPast, Store.find_put, Dev.var]
  unfold Dev.navTaken Dev.when
  split <;> simp +decide [hpast, hput, Dev.var_setVar]

theorem navRecord_answers (c : Fin 600) (l : List (Int × Int)) {size w : Nat} (hsize : size = 256 * 2 ^ min (s.dev.get F.GNTK_NAV_CFG_SIZE.act 0) 8)
    (hw : w = s.dev.get F.GNTK_NAV_WR_IDX 0 % size) (hready : s.dev.navReady c = some l) (hroom : (w + 1) % size ≠ s.dev.get F.GNTK_NAV_RD_IDX 0 % size)
    (hok : (State.devWrite { s with dev := s.dev.navTaken c l.length } 0x0120 (s.dev.get F.GNTK_NAV_BASE.act 0 / 4096 * 4096 + 16 * w)
      (s.dev.navBytes c l)).2 = none) : Answers (.navRecord c () () ()) s (fun t =>
      t.dev.get F.GNTK_NAV_WR_IDX 0 = (w + 1) % size % 2 ^ F.GNTK_NAV_WR_IDX.width ∧ t.dev.var V.slipNav c = 0 ∧
      t.dev.past 9 c = (s.dev.past 9 c).drop l.length ∧
      t.mem = (State.devWrite { s with dev := s.dev.navTaken c l.length } 0x0120 (s.dev.get F.GNTK_NAV_BASE.act 0 / 4096 * 4096 + 16 * w)
        (s.dev.navBytes c l)).1.mem) := by
  refine ⟨s.navRecord c, rfl, ?_⟩
  subst hsize hw
  simp only [State.navRecord, hready, if_neg hroom]
  rw [← Dev.navTaken]
  have hheld := State.held_devWrite (vl := [V.tlbHit, V.tlbMiss, V.poison]) { s with dev := s.dev.navTaken c l.length } 0x0120
    (s.dev.get F.GNTK_NAV_BASE.act 0 / 4096 * 4096 + 16 * (s.dev.get F.GNTK_NAV_WR_IDX 0 % (256 * 2 ^ min (s.dev.get F.GNTK_NAV_CFG_SIZE.act 0) 8)))
    (s.dev.navBytes c l) (List.Subset.refl _)
  generalize State.devWrite _ _ _ _ = w at hok hheld ⊢
  obtain ⟨t, f⟩ := w
  obtain rfl : f = none := hok
  obtain ⟨hslip, hpast⟩ := s.dev.navTaken_shows c l.length
  exact ⟨Dev.get_set_same .., (Dev.var_of_held hheld (by decide) _).trans hslip, (Dev.past_of_held hheld _ _).trans hpast, rfl⟩

/-- Settles O8: each clause is what its command answers; the checks of an epoch leave EPSEQ, and a write to DRAM leaves what GNTK holds. -/
theorem trackingEpochsAndRecords : Obligations.TrackingEpochsAndRecords :=
  ⟨fun _ _ inv ht hc hdata => halfCycleResolve_answers inv ht hc hdata,
    fun _ _ ms seq ht hc hage => towWrite_answers ms seq ht hc hage,
    fun _ hrun hset hdue => epochLatch_answers hrun hset hdue,
    fun _ hpend hnep hroom hok => epochRecorded_answers hpend hnep hroom hok,
    fun _ c l hready hroom hok => navRecord_answers c l rfl rfl hready hroom hok⟩

end Sys2Proof.Machine
end

section
/-! ## Jamming, the guard and the time pulse (R172 to R185) -/

namespace Sys2Proof.Machine

variable {s : State} {d : Dev} {a : Acc}

/-! ### JAM_CHECK, JAM_LEARN and JAM_LEARN_DONE (R172) -/

/-- The path's floor or gain differs from its reference by more than its threshold. -/
def Dev.jamOver (d : Dev) (p : Nat) : Bool :=
  decide ((5 * d.get F.GNTK_JAM_CFG_JAM_NF 0 : Int) < ofBits 16 (d.get F.GNRF_SPEC_STAT_NF p) - ofBits 16 (d.get F.GNTK_JAM_REF_NFREF p)) ||
    decide ((d.get F.GNTK_JAM_CFG_JAM_G 0 : Int) < (d.get F.GNTK_JAM_REF_GREF p : Int) - d.get F.GNRF_AGC_STAT_GAIN p)

theorem Dev.jamPath_get (d : Dev) (q : Nat) {g : Fld} (hg : Scope.Keeps { flds := [F.GNTK_INTF_JAM] } g) (j : Nat) : (d.jamPath q).get g j = d.get g j :=
  Dev.get_of_view (d.view_jamPath q (by simp)) hg j

theorem Dev.jamPath_jamOver (d : Dev) (q p : Nat) : (d.jamPath q).jamOver p = d.jamOver p := by
  have hget : ∀ g ∈ [F.GNTK_JAM_CFG_JAM_NF, F.GNRF_SPEC_STAT_NF, F.GNTK_JAM_REF_NFREF, F.GNTK_JAM_CFG_JAM_G, F.GNTK_JAM_REF_GREF, F.GNRF_AGC_STAT_GAIN],
      ∀ j, (d.jamPath q).get g j = d.get g j := fun g hg j => Dev.jamPath_get d q (by revert g; unfold Scope.Keeps; decide) j
  simp [Dev.jamOver, hget]

/-- A millisecond of a path counts towards jamming, or towards its end. -/
theorem Dev.jamPath_counts (d : Dev) (p : Nat) (j : Nat) :
    (d.jamPath p).var V.jamOne j = (if j = p then if d.jamOver p then d.var V.jamOne p + 1 else 0 else d.var V.jamOne j) ∧
    (d.jamPath p).var V.jamNone j = (if j = p then if d.jamOver p then 0 else d.var V.jamNone p + 1 else d.var V.jamNone j) := by
  have hlast : ∀ (c : Prop) [Decidable c] (e : Dev) v x, (if c then e else (e.set F.GNTK_INTF_JAM 0 v).irq 0x12 3).var x j = e.var x j := fun c _ e v x => by
    split <;> simp
  simp +decide [Dev.jamPath, Dev.jamOver, hlast, Dev.var_setVar]

/-- What a path's comparison counts, and its outcome. -/
def Dev.jamShown (p : Nat) (d : Dev) : Int × Int × Bool := (d.var V.jamOne p, d.var V.jamNone p, d.jamOver p)

theorem Dev.jamPath_shown (d : Dev) (q p : Nat) : (d.jamPath q).jamShown p =
    if p = q then (if d.jamOver q then (d.var V.jamOne q + 1, 0, true) else (0, d.var V.jamNone q + 1, false)) else d.jamShown p := by
  simp only [Dev.jamShown, Dev.jamPath_jamOver, Dev.jamPath_counts]
  by_cases hp : p = q
  · subst hp
    cases d.jamOver p <;> simp
  · simp [hp]

/-- An averaging of the references takes part in none of the comparisons. -/
theorem Dev.held_jamCheck (hrun : d.running 0x12 = true) :
    d.jamCheck.held [V.learnNf, V.learnG, V.learnN] = (d.each (List.range 9) (fun p a => a.jamPath p)).held [V.learnNf, V.learnG, V.learnN] := by
  simp [Dev.jamCheck, hrun]

theorem jamCheck_answers (p : Fin 9) (hrun : s.dev.running 0x12 = true) (hover : (5 * s.dev.get F.GNTK_JAM_CFG_JAM_NF 0 : Int) <
      ofBits 16 (s.dev.get F.GNRF_SPEC_STAT_NF p) - ofBits 16 (s.dev.get F.GNTK_JAM_REF_NFREF p)) :
    Answers .jamCheck s (fun t => t.dev.var V.jamOne p = s.dev.var V.jamOne p + 1 ∧ t.dev.var V.jamNone p = 0) := by
  refine ⟨{ s with dev := s.dev.jamCheck }, rfl, ?_⟩
  have hpath := Dev.each_at (Dev.jamShown p) (fun q a => a.jamPath q) List.nodup_range (List.mem_range.mpr p.isLt)
    (fun q _ hq b => by rw [Dev.jamPath_shown, if_neg hq.symm])
    (fun b c h => by
      simp only [Dev.jamShown, Prod.mk.injEq] at h
      simp only [Dev.jamPath_shown, h, if_true]) s.dev
  have hp : s.dev.jamOver p = true := by simp [Dev.jamOver, hover]
  rw [Dev.jamPath_shown, if_pos rfl, hp, if_pos rfl] at hpath
  simp only [Dev.jamShown, Prod.mk.injEq] at hpath
  obtain ⟨hone, hnone, -⟩ := hpath
  exact ⟨(Dev.var_of_held (Dev.held_jamCheck hrun) (by decide) _).trans hone, (Dev.var_of_held (Dev.held_jamCheck hrun) (by decide) _).trans hnone⟩

theorem jamLearn_answers (ht : Taken s 0x12 a) : Answers (.jamLearn a) s (fun t =>
    t.dev.var V.learnOn 0 = 1 ∧ t.dev.var V.learnN 0 = 0 ∧ t.dev.var V.learnAt 0 = s.dev.var V.uptime 0) := by
  have hx : exec (.jamLearn a) s = execJamLearn a s := rfl
  rw [execJamLearn, upd_wr_taken ht] at hx
  refine ⟨_, hx, ?_⟩
  have hsums : ∀ (e : Dev) (x : Vr), (∀ y ∈ [V.learnNf, V.learnG], x.id ≠ y.id) →
      (e.each (List.range 9) (fun p a => (a.setVar V.learnNf p 0).setVar V.learnG p 0)).var x 0 = e.var x 0 := fun e x hx =>
    Dev.var_of_held (by simp) hx 0
  simp +decide [hsums, Dev.mark, Dev.var_setVar]

/-- The averages of a path become its references. -/
def Dev.learnLoad (p : Nat) (d : Dev) : Dev :=
  (d.setI F.GNTK_JAM_REF_NFREF p (roundAway (d.var V.learnNf p) (d.var V.learnN 0).toNat)).setI F.GNTK_JAM_REF_GREF p
    (roundAway (d.var V.learnG p) (d.var V.learnN 0).toNat)

theorem Dev.learnLoad_var (d : Dev) (p : Nat) (x : Vr) (j : Nat) : (d.learnLoad p).var x j = d.var x j := rfl

theorem Dev.learnLoad_nfref (d : Dev) (q p : Nat) : (d.learnLoad q).get F.GNTK_JAM_REF_NFREF p =
    if p = q then toBits 16 (roundAway (d.var V.learnNf q) (d.var V.learnN 0).toNat) else d.get F.GNTK_JAM_REF_NFREF p := by
  have hbits : ∀ v, toBits 16 v % 2 ^ 16 = toBits 16 v := fun v => Nat.mod_eq_of_lt (by unfold toBits; omega)
  rw [Dev.learnLoad, Dev.setI, Dev.get_set_kid _ _ _ _ (by decide), Dev.setI, Dev.get_set]
  simp only [true_and, show F.GNTK_JAM_REF_NFREF.width = 16 from rfl, hbits]

theorem Dev.jamLearnDone_due (hon : d.var V.learnOn 0 = 1) (hdue : d.passed V.learnAt 0 10000000000 = true) (hsome : 0 < d.var V.learnN 0) :
    d.jamLearnDone = (d.setVar V.learnOn 0 0).each (List.range 9) Dev.learnLoad := by
  have hgo : (d.var V.learnOn 0 == 1 && d.passed V.learnAt 0 10000000000 && decide (0 < d.var V.learnN 0)) = true := by simp [hon, hdue, hsome]
  rw [Dev.jamLearnDone, hgo, if_pos rfl]
  rfl

/-- The reference of a path's floor, and the sum and count of its samples. -/
def Dev.learnShown (p : Nat) (d : Dev) : Nat × Int × Int := (d.get F.GNTK_JAM_REF_NFREF p, d.var V.learnNf p, d.var V.learnN 0)

theorem jamLearnDone_answers (p : Fin 9) (hon : s.dev.var V.learnOn 0 = 1) (hdue : s.dev.passed V.learnAt 0 10000000000 = true)
    (hsome : 0 < s.dev.var V.learnN 0) : Answers .jamLearnDone s (fun t => t.dev.var V.learnOn 0 = 0 ∧
      t.dev.get F.GNTK_JAM_REF_NFREF p = toBits 16 (roundAway (s.dev.var V.learnNf p) (s.dev.var V.learnN 0).toNat)) := by
  refine ⟨{ s with dev := s.dev.jamLearnDone }, rfl, ?_⟩
  have hpath := Dev.each_at (Dev.learnShown p) Dev.learnLoad List.nodup_range (List.mem_range.mpr p.isLt)
    (fun q _ hq b => by simp [Dev.learnShown, Dev.learnLoad_var, Dev.learnLoad_nfref, hq.symm])
    (fun b c h => by
      simp only [Dev.learnShown, Prod.mk.injEq] at h
      simp [Dev.learnShown, Dev.learnLoad_var, Dev.learnLoad_nfref, h]) (s.dev.setVar V.learnOn 0 0)
  have hnf := congrArg Prod.fst hpath
  simp +decide only [Dev.learnShown, Dev.learnLoad_nfref, if_true, Dev.var_setVar, if_false, false_and] at hnf
  dsimp only
  rw [Dev.jamLearnDone_due hon hdue hsome]
  exact ⟨(Dev.each_keeps (fun a => a.var V.learnOn 0) _ _ _ fun q _ a => a.learnLoad_var q _ _).trans (Dev.var_setVar_same ..), hnf⟩

/-! ### PVT_SPEED_WRITE and PVT_SUBMIT (R174, R175) -/

theorem pvtSpeedWrite_answers (seq spd : BitVec 16) (ht : Taken s 0x12 a) : Answers (.pvtSpeedWrite a seq spd) s (fun t =>
    t.dev.var V.pvtSpd 0 = spd.toNat ∧ t.dev.var V.pvtSeq 0 = seq.toNat) := by
  have hx : exec (.pvtSpeedWrite a seq spd) s = execPvtSpeedWrite a seq spd s := rfl
  rw [execPvtSpeedWrite, upd_wr_taken ht] at hx
  refine ⟨_, hx, ?_⟩
  simp +decide [Dev.var_setVar]

/-- The epoch that a pair names, among those that EGO was latched at. -/
theorem Dev.pvtEpoch_found {q : Int} {k : Fin 8} (h0 : 0 ≤ q) (hk : 0 ≤ d.var V.egoSeq k) (hq : d.var V.egoSeq k % 65536 = q)
    (hfirst : ∀ i < k.val, d.var V.egoSeq i < 0 ∨ d.var V.egoSeq i % 65536 ≠ q) :
    (List.range 8).find? (fun k => decide (0 ≤ q) && decide (0 ≤ d.var V.egoSeq k) && d.var V.egoSeq k % 65536 == q) = some k.val := by
  rw [List.find?_range_eq_some]
  refine ⟨by simp [h0, hk, hq], List.mem_range.mpr k.isLt, fun i hi => ?_⟩
  rcases hfirst i hi with hneg | hne
  · simp [hneg]
  · simp [hne]

/-- The judgement of a pair, and of the guard after it, writes variables of their own. -/
theorem Dev.pvtClosed_var (d : Dev) (k : Nat) (rate : Int) (valid : Bool) {x : Vr} (hx : ∀ y ∈ judgeVars, x.id ≠ y.id) (j : Nat) :
    (if valid then d.pvtJudge k rate else d).guardEval.var x j = d.var x j := by
  refine Dev.var_of_held (vl := judgeVars) ?_ hx j
  rw [Dev.held_guardEval _ (by simp [judgeVars])]
  cases valid <;> simp

theorem pvtSubmit_answers (sg valid : Bool) (rate : BitVec 16) (k : Fin 8) (ht : Taken s 0x12 a) (h0 : 0 ≤ s.dev.var V.pvtSeq 0)
    (hk : 0 ≤ s.dev.var V.egoSeq k) (hq : s.dev.var V.egoSeq k % 65536 = s.dev.var V.pvtSeq 0)
    (hfirst : ∀ i < k.val, s.dev.var V.egoSeq i < 0 ∨ s.dev.var V.egoSeq i % 65536 ≠ s.dev.var V.pvtSeq 0) :
    Answers (.pvtSubmit a sg valid rate) s (fun t => t.dev.var V.pvtLast 0 = s.dev.var V.egoSeq k ∧ t.dev.var V.pvtSeq 0 = -1 ∧
      (valid = true → t.dev.var V.pvtOkLast 0 = max (s.dev.var V.pvtOkLast 0) (s.dev.var V.egoSeq k)) ∧ t.dev.var V.pvtOkSg 0 = bit (valid && sg)) := by
  have hx : exec (.pvtSubmit a sg valid rate) s = execPvtSubmit a sg valid rate s := rfl
  rw [execPvtSubmit, upd_wr_taken ht] at hx
  refine ⟨_, hx, ?_⟩
  have hego : ∀ i, ((s.dev.counted 0x12 a.bank.val).setVar V.pvtSeq 0 (-1)).var V.egoSeq i = s.dev.var V.egoSeq i := fun i => by
    rw [Dev.var_setVar_id _ _ _ _ (by decide), Dev.counted_var]
  simp only [Dev.counted_var, hego, Dev.pvtEpoch_found h0 hk hq hfirst, Dev.ended_var, Dev.pvtClosed_var (x := V.pvtLast) _ _ _ _ (by decide),
    Dev.pvtClosed_var (x := V.pvtSeq) _ _ _ _ (by decide), Dev.pvtClosed_var (x := V.pvtOkLast) _ _ _ _ (by decide),
    Dev.pvtClosed_var (x := V.pvtOkSg) _ _ _ _ (by decide)]
  cases valid <;> simp +decide only [Dev.when_true, Dev.when_false, Dev.var_setVar, Dev.counted_var, hego, if_true, if_false, false_and, and_true,
    false_implies, forall_const, Bool.true_and, Bool.false_and]

/-! ### GUARD_REARM (R176) -/

theorem Dev.guardOk_congr {e : Dev} (hget : ∀ g ∈ [F.GNTK_GUARD_CFG_EN, F.GNTK_GUARD_STAT_CONTRA, F.GNTK_EPSEQ_SEQ], d.get g 0 = e.get g 0)
    (hvar : ∀ x ∈ [V.pvtOkSg, V.pvtLast, V.cntBadV, V.egoReqE, V.pvtEgo], d.var x 0 = e.var x 0) : d.guardOk = e.guardOk := by
  simp only [List.forall_mem_cons] at hget hvar
  simp only [Dev.guardOk, Dev.pvtFresh, Dev.on, hget, hvar]

theorem Dev.guardShow_sgv (d : Dev) (contra : Bool) :
    (d.guardShow true contra).var V.rearmed 0 = d.var V.rearmed 0 ∧ (d.guardShow true contra).get F.GNTK_GUARD_STAT_SGV 0 = 1 := by
  have hirq : ∀ (c : Prop) [Decidable c] (e : Dev), (if c then e.irq 0x12 5 else e).var V.rearmed 0 = e.var V.rearmed 0 ∧
      (if c then e.irq 0x12 5 else e).get F.GNTK_GUARD_STAT_SGV 0 = e.get F.GNTK_GUARD_STAT_SGV 0 := fun c _ e => by
    split <;> simp +decide [Dev.irq_get]
  simp +decide [Dev.guardShow, hirq, Dev.get_set, bit]

/-- With the other conditions and the REARM given, the guard shows SGV. -/
theorem Dev.guardEval_armed (hok : d.guardOk = true) (harm : d.var V.rearmed 0 = 1) :
    d.guardEval.var V.rearmed 0 = 1 ∧ d.guardEval.get F.GNTK_GUARD_STAT_SGV 0 = 1 := by
  have hshown : ∀ m n, (((d.set F.GNTK_GUARD_STAT_PVTOK 0 m).set F.GNTK_GUARD_STAT_EGOOK 0 n).guardOk &&
      ((d.set F.GNTK_GUARD_STAT_PVTOK 0 m).set F.GNTK_GUARD_STAT_EGOOK 0 n).var V.rearmed 0 == 1) = true := fun m n => by
    have hsame : ((d.set F.GNTK_GUARD_STAT_PVTOK 0 m).set F.GNTK_GUARD_STAT_EGOOK 0 n).guardOk = d.guardOk :=
      Dev.guardOk_congr (by simp +decide [Dev.get_set]) (fun _ _ => Dev.var_set ..)
    simp [hsame, hok, harm]
  simp only [Dev.guardEval, hshown]
  exact ⟨(Dev.guardShow_sgv ..).1.trans harm, (Dev.guardShow_sgv ..).2⟩

theorem guardRearm_answers (ht : Taken s 0x12 a) (hok : s.dev.guardOk = true) : Answers (.guardRearm a) s (fun t =>
    t.dev.var V.rearmed 0 = 1 ∧ t.dev.get F.GNTK_GUARD_STAT_SGV 0 = 1) := by
  have hx : exec (.guardRearm a) s = execGuardRearm a s := rfl
  rw [execGuardRearm, upd_wr_taken ht] at hx
  refine ⟨_, hx, ?_⟩
  have hb : (s.dev.counted 0x12 a.bank.val).guardOk = true :=
    (Dev.guardOk_congr (by simp +decide [Dev.counted_get]) (by simp)).trans hok
  have harm : ((s.dev.counted 0x12 a.bank.val).setVar V.rearmed 0 1).guardOk = true :=
    (Dev.guardOk_congr (fun _ _ => Dev.get_setVar ..) (by simp +decide [Dev.var_setVar])).trans hb
  simp only [hb, if_true, Dev.ended_var, Dev.ended_get]
  exact Dev.guardEval_armed harm (Dev.var_setVar_same ..)

/-! ### TIME_PULSE and TIME_PULSE_END (R180 to R185) -/

/-- LAST and PSTAT take the pulse for instant `t` (R183, R185). -/
def Dev.pulseShown (d : Dev) (t : Int) (gated stp : Bool) : Dev :=
  let st := d.get F.TIME_STATE_ST 0
  let d := (((d.set F.GNTP_LAST_INST 0 t.toNat).set F.GNTP_PSTAT_LOCK 0 (bit (st == 3))).set F.GNTP_PSTAT_SLEW 0 (bit (st == 2))).set
    F.GNTP_PSTAT_HOLD 0 (bit (st == 4))
  (((d.set F.GNTP_PSTAT_UNSET 0 (bit (st == 0 || st == 1))).set F.GNTP_PSTAT_STEP 0 (bit stp)).set F.GNTP_PSTAT_GATED 0 (bit gated)).set
    F.GNTP_PSTAT_HOLDERR 0 (d.get F.TIME_HOLDERR_ERRB 0)

/-- The pulse is recorded, and the next one is set `p` later (R180, R190). -/
def Dev.pulseRecorded (d : Dev) (t p : Int) (gated stp : Bool) : Dev :=
  ((((((d.pulseShown t gated stp).irq 0x13 0).when (d.on F.GNTP_PSTAT_GATED 0 != gated) (fun a => a.irq 0x13 2)).setVar V.nextPulse 0 (t + p)).setVar
    V.pulseT 0 t).boundary 0x13 wideUnit)

/-- The pin turns active for WIDTH (R180). -/
def Dev.pulseDriven (d : Dev) (stp : Bool) : Dev :=
  (((d.setVar V.tpulse 0 1).setVar V.tpulseEnd 0 (d.var V.uptime 0 + d.get F.GNTP_WIDTH_WIDTH.act 0 * 65536)).mark V.lastPulse 0).when stp
    (fun a => a.irq 0x13 1)

/-- The pulse is the last one before an announced step, with the next one `p` later (R183). -/
def Dev.pulseStep (d : Dev) (p : Int) : Bool :=
  d.on F.TIME_STATE_STEPPEND 0 && decide (d.var V.nextPulse 0 * 65536 - d.pulseAdv < d.var V.stepAt 0 * 65536) &&
    decide (d.var V.stepAt 0 * 65536 ≤ (d.var V.nextPulse 0 + p) * 65536 - d.pulseAdv)

/-- At the advanced instant the pulse is recorded and, unless gated, driven. -/
theorem Dev.timePulse_due (hrun : d.running 0x13 = true) (hset : 0 ≤ d.var V.nextPulse 0) (hdue : d.var V.nextPulse 0 * 65536 - d.pulseAdv ≤ d.var V.grove 0)
    {p : Int} (hp : p = (max 1 (d.get F.GNTP_PERIOD_PERIOD.act 0) : Nat)) :
    d.timePulse = if d.pulseGated then d.pulseRecorded (d.var V.nextPulse 0) p d.pulseGated (d.pulseStep p)
      else (d.pulseRecorded (d.var V.nextPulse 0) p d.pulseGated (d.pulseStep p)).pulseDriven (d.pulseStep p) := by
  have hgo : (!d.running 0x13 || decide (d.var V.nextPulse 0 < 0) || decide (d.var V.grove 0 < d.var V.nextPulse 0 * 65536 - d.pulseAdv)) = false := by
    simp [hrun, hset, hdue]
  rw [Nat.cast_max, Nat.cast_one] at hp
  rw [Dev.timePulse, hgo, if_neg Bool.false_ne_true, hp]
  rfl

/-- The events of a pulse leave the registers of GNTP. -/
theorem Dev.pulseRecorded_get (d : Dev) (t p : Int) (gated stp : Bool) {g : Fld} (hg : g.own = true) :
    (d.pulseRecorded t p gated stp).get g 0 = (d.pulseShown t gated stp).get g 0 := by
  simp only [Dev.pulseRecorded, Dev.boundary, Dev.mark_get, Dev.get_setVar]
  cases d.on F.GNTP_PSTAT_GATED 0 != gated <;> simp [Dev.irq_get, hg]

theorem Dev.pulseRecorded_shows (d : Dev) (t p : Int) (gated stp : Bool) : (d.pulseRecorded t p gated stp).get F.GNTP_LAST_INST 0 = t.toNat % 2 ^ 64 ∧
    (d.pulseRecorded t p gated stp).var V.nextPulse 0 = t + p ∧ (d.pulseRecorded t p gated stp).get F.GNTP_PSTAT_GATED 0 = bit gated := by
  have hbit : bit gated % 2 ^ 1 = bit gated := by cases gated <;> rfl
  rw [Dev.pulseRecorded_get _ _ _ _ _ (by decide), Dev.pulseRecorded_get _ _ _ _ _ (by decide)]
  refine ⟨?_, ?_, ?_⟩
  · simp +decide only [Dev.pulseShown, Dev.get_set, if_true, if_false, show F.GNTP_LAST_INST.width = 64 from rfl]
  · simp +decide [Dev.pulseRecorded, Dev.boundary, Dev.mark, Dev.var_setVar]
  · simp +decide only [Dev.pulseShown, Dev.get_set, if_true, if_false, show F.GNTP_PSTAT_GATED.width = 1 from rfl, hbit]

theorem Dev.pulseDriven_shows (d : Dev) (stp : Bool) : (d.pulseDriven stp).get F.GNTP_LAST_INST 0 = d.get F.GNTP_LAST_INST 0 ∧
    (d.pulseDriven stp).var V.nextPulse 0 = d.var V.nextPulse 0 ∧ (d.pulseDriven stp).get F.GNTP_PSTAT_GATED 0 = d.get F.GNTP_PSTAT_GATED 0 ∧
    (d.pulseDriven stp).var V.tpulse 0 = 1 := by
  cases stp <;> simp +decide [Dev.pulseDriven, Dev.mark, Dev.irq_get, Dev.var_setVar]

theorem timePulse_answers (hrun : s.dev.running 0x13 = true) (hset : 0 ≤ s.dev.var V.nextPulse 0)
    (hdue : s.dev.var V.nextPulse 0 * 65536 - s.dev.pulseAdv ≤ s.dev.var V.grove 0) : Answers .timePulse s (fun t =>
      t.dev.get F.GNTP_LAST_INST 0 = (s.dev.var V.nextPulse 0).toNat % 2 ^ 64 ∧
      t.dev.var V.nextPulse 0 = s.dev.var V.nextPulse 0 + (max 1 (s.dev.get F.GNTP_PERIOD_PERIOD.act 0) : Nat) ∧
      t.dev.get F.GNTP_PSTAT_GATED 0 = bit s.dev.pulseGated ∧ (s.dev.pulseGated = false → t.dev.var V.tpulse 0 = 1)) := by
  refine ⟨{ s with dev := s.dev.timePulse }, rfl, ?_⟩
  generalize hp : ((max 1 (s.dev.get F.GNTP_PERIOD_PERIOD.act 0) : Nat) : Int) = p
  dsimp only
  rw [Dev.timePulse_due hrun hset hdue hp.symm]
  obtain ⟨hlast, hnext, hgated⟩ := s.dev.pulseRecorded_shows (s.dev.var V.nextPulse 0) p s.dev.pulseGated (s.dev.pulseStep p)
  split
  case isTrue hoff => exact ⟨hlast, hnext, hgated, fun hon => absurd (hoff.symm.trans hon) (by decide)⟩
  case isFalse =>
    obtain ⟨hlast', hnext', hgated', hpin⟩ :=
      (s.dev.pulseRecorded (s.dev.var V.nextPulse 0) p s.dev.pulseGated (s.dev.pulseStep p)).pulseDriven_shows (s.dev.pulseStep p)
    exact ⟨hlast'.trans hlast, hnext'.trans hnext, hgated'.trans hgated, fun _ => hpin⟩

theorem timePulseEnd_answers (hon : s.dev.var V.tpulse 0 = 1) (hend : s.dev.var V.tpulseEnd 0 ≤ s.dev.var V.uptime 0) :
    Answers .timePulseEnd s (fun t => t.dev.var V.tpulse 0 = 0) := by
  refine ⟨{ s with dev := s.dev.timePulseEnd }, rfl, ?_⟩
  have hdue : (s.dev.var V.tpulse 0 == 1 && decide (s.dev.var V.tpulseEnd 0 ≤ s.dev.var V.uptime 0)) = true := by simp [hon, hend]
  simp only [Dev.timePulseEnd, hdue, if_true, Dev.var_setVar_same]

/-- Settles O9: each clause is what its command answers; a path's comparison reads and writes nothing of another path, and the judgement of a pair writes variables
of its own. -/
theorem jammingGuardAndTimePulse : Obligations.JammingGuardAndTimePulse :=
  ⟨fun _ p hrun hover => jamCheck_answers p hrun hover,
    fun _ _ ht => jamLearn_answers ht,
    fun _ p hon hdue hsome => jamLearnDone_answers p hon hdue hsome,
    fun _ _ seq spd ht => pvtSpeedWrite_answers seq spd ht,
    fun _ _ sg valid rate k ht h0 hk hq hfirst => pvtSubmit_answers sg valid rate k ht h0 hk hq hfirst,
    fun _ _ ht hok => guardRearm_answers ht hok,
    fun _ hrun hset hdue => timePulse_answers hrun hset hdue,
    fun _ hon hend => timePulseEnd_answers hon hend⟩

end Sys2Proof.Machine
end

section
/-! ## Variables through the operations of CNPY, EGO and the NPU

`Dev.held` follows variables together with histories. The residual estimator, bank swaps and past poses are histories themselves, so here the variables are
followed alone: a lemma `others_f` says which variables the function `f` of the model may write. -/

namespace Sys2Proof.Machine

variable {d e : Dev} {vl : List Vr}

/-- The variables of a device but for those listed. -/
def Dev.others (vl : List Vr) (d : Dev) : {x : Vr // ∀ y ∈ vl, x.id ≠ y.id} → Nat → Int := fun x i => d.var x i

theorem Dev.var_of_others (h : d.others vl = e.others vl) {x : Vr} (hx : ∀ y ∈ vl, x.id ≠ y.id) (i : Nat) : d.var x i = e.var x i :=
  congrFun (congrFun h ⟨x, hx⟩) i

theorem Dev.others_of_held (h : d.held vl = e.held vl) : d.others vl = e.others vl := congrArg Prod.fst h

/-- A state that comes with a result. -/
theorem State.others_of_eq {α : Type} {p : State × α} {t : State} {x : α} (h : p = (t, x)) : t.dev.others vl = p.1.dev.others vl := by rw [h]

/-! ### The device's operations -/

/-- An update that keeps the variables. -/
@[simp] theorem Dev.others_mk (d : Dev) (a b c f g h i j k l m n o p q r s t u v w x) :
    Dev.others vl ⟨a, d.vars, b, c, f, g, h, i, j, k, l, m, n, o, p, q, r, s, t, u, v, w, x⟩ = d.others vl := rfl

@[simp] theorem Dev.others_set (d : Dev) (f : Fld) (i v : Nat) : (d.set f i v).others vl = d.others vl := rfl
@[simp] theorem Dev.others_setI (d : Dev) (f : Fld) (i : Nat) (v : Int) : (d.setI f i v).others vl = d.others vl := rfl
@[simp] theorem Dev.others_incSat (d : Dev) (f : Fld) (i n : Nat) : (d.incSat f i n).others vl = d.others vl := rfl
@[simp] theorem Dev.others_incWrap (d : Dev) (f : Fld) (i n : Nat) : (d.incWrap f i n).others vl = d.others vl := rfl
@[simp] theorem Dev.others_setPast (d : Dev) (n i : Nat) (l : List (Int × Int)) : (d.setPast n i l).others vl = d.others vl := rfl
@[simp] theorem Dev.others_cone (d : Dev) (slot ev n : Nat) : (d.cone slot ev n).others vl = d.others vl := Dev.others_of_held (by simp)
@[simp] theorem Dev.others_irq (d : Dev) (slot b : Nat) : (d.irq slot b).others vl = d.others vl := Dev.others_of_held (by simp)

@[simp] theorem Dev.others_errBlk (d : Dev) (slot bcode cls : Nat) (pay : List Nat) : (d.errBlk slot bcode cls pay).others vl = d.others vl :=
  Dev.others_of_held (by simp)

@[simp] theorem Dev.others_setVar {x : Vr} (h : x ∈ vl) (d : Dev) (i : Nat) (v : Int) : (d.setVar x i v).others vl = d.others vl :=
  Dev.others_of_held (by simp [h])

@[simp] theorem Dev.others_mark {x : Vr} (h : x ∈ vl) (d : Dev) (i : Nat) : (d.mark x i).others vl = d.others vl := Dev.others_setVar h d i _

/-- The same write of a variable. -/
theorem Dev.others_setVar_congr (h : d.others vl = e.others vl) (x : Vr) (i : Nat) (v : Int) : (d.setVar x i v).others vl = (e.setVar x i v).others vl :=
  funext fun y => funext fun j => by
    show (d.setVar x i v).var y j = (e.setVar x i v).var y j
    rw [Dev.var_setVar, Dev.var_setVar, Dev.var_of_others h y.2]

@[simp] theorem Dev.others_ite (p : Prop) [Decidable p] (d e : Dev) : (if p then d else e).others vl = if p then d.others vl else e.others vl :=
  apply_ite _ _ _ _

@[simp] theorem Dev.others_when (d : Dev) (b : Bool) (k : Dev → Dev) : (d.when b k).others vl = if b then (k d).others vl else d.others vl := by
  cases b <;> rfl

@[simp] theorem Dev.others_each (d : Dev) (l : List Nat) (k : Nat → Dev → Dev) (h : ∀ i a, (k i a).others vl = a.others vl) :
    (d.each l k).others vl = d.others vl :=
  Dev.each_keeps (Dev.others vl) k l d fun i _ a => h i a

/-- A fold of updates keeps what every one of them keeps. -/
theorem Dev.foldl_keeps {α β : Type} (p : Dev → β) (k : Dev → α → Dev) (l : List α) (d : Dev) (h : ∀ x ∈ l, ∀ a, p (k a x) = p a) :
    p (l.foldl k d) = p d := by
  induction l generalizing d with
  | nil => rfl
  | cons x t ih => exact (ih (k d x) fun y hy => h y (List.mem_cons_of_mem _ hy)).trans (h x List.mem_cons_self d)

@[simp] theorem Dev.others_foldl {α : Type} (d : Dev) (l : List α) (k : Dev → α → Dev) (h : ∀ a i, (k a i).others vl = a.others vl) :
    (l.foldl k d).others vl = d.others vl := Dev.foldl_keeps (Dev.others vl) k l d fun x _ a => h a x

@[simp] theorem State.others_ite (p : Prop) [Decidable p] (s t : State) :
    (if p then s else t).dev.others vl = if p then s.dev.others vl else t.dev.others vl := apply_ite (fun a : State => a.dev.others vl) _ _ _

@[simp] theorem State.others_each {α : Type} (s : State) (l : List α) (k : α → State → State) (h : ∀ i a, (k i a).dev.others vl = a.dev.others vl) :
    (s.each l k).dev.others vl = s.dev.others vl := by
  induction l generalizing s with
  | nil => rfl
  | cons x t ih => exact (ih (k x s)).trans (h x s)

/-- The same write of a field keeps what devices show outside a scope alike. -/
theorem Dev.view_set_congr {κ : Scope} (h : d.view κ = e.view κ) (f : Fld) (i v : Nat) : (d.set f i v).view κ = (e.set f i v).view κ :=
  Prod.ext (funext fun g => funext fun j => by
    show (d.set f i v).get g j = (e.set f i v).get g j
    rw [Dev.get_set, Dev.get_set, Dev.get_of_view h g.2]) (show (d.view κ).2 = (e.view κ).2 from congrArg Prod.snd h)

/-- A field outside a scope reads alike in states that show the same outside it. -/
theorem State.get_of_view {κ : Scope} {s t : State} (h : t.view κ = s.view κ) {f : Fld} (hf : κ.Keeps f) (i : Nat) : t.dev.get f i = s.dev.get f i :=
  Dev.get_of_view (congrArg Prod.fst h) hf i

theorem Dev.past_setPast (d : Dev) (n m i j : Nat) (l : List (Int × Int)) :
    (d.setPast n i l).past m j = if m = n ∧ j = i then l else d.past m j := by
  by_cases h : m = n ∧ j = i <;> simp [Dev.past, Dev.setPast, Store.find_put, h]

/-! ### Accesses of a device to DRAM (R474, R478) -/

/-- The variables that an access of a device to DRAM writes. -/
def accessVars : List Vr := [V.tlbHit, V.tlbMiss, V.poison]

theorem State.others_devWrite (s : State) (dev iova : Nat) (l : List Nat) (h : accessVars ⊆ vl) : (s.devWrite dev iova l).1.dev.others vl = s.dev.others vl :=
  Dev.others_of_held (State.held_devWrite s dev iova l h)

@[simp] theorem State.others_devRead (s : State) (dev iova n : Nat) (h : accessVars ⊆ vl) : (s.devRead dev iova n).1.dev.others vl = s.dev.others vl := by
  have hopen : (s.devOpen dev iova n false).1.dev.others vl = s.dev.others vl := Dev.others_of_held (State.held_devOpen s dev iova n false h)
  unfold State.devRead
  split
  all_goals next he => simp [← hopen, he]

/-- In Bare mode a read of bytes that lie in DRAM, none in a poisoned block, gives them and is counted. -/
theorem State.devRead_bare (s : State) (dev iova n : Nat) (h : s.dev.get F.IOMU_DDTP_V 0 % 16 = 1)
    (hok : ∀ k < n, inDram (iova + k) = true ∧ s.dev.poisoned (iova + k) = false) :
    s.devRead dev iova n = ({ s with dev := s.dev.cone 0x08 0x100 (blocksOf iova n) }, .ok (memRead s.mem iova n)) := by
  simp only [State.devRead, State.devOpen_bare s dev iova n false h (s.dev.accessBad_none iova n false hok), memRead]
  exact congrArg (fun l => (_, Except.ok l)) (List.map_congr_left fun k hk => by rw [physOf_bare iova n k (List.mem_range.mp hk)])

/-- A field of the bytes read is what its own bytes hold. -/
theorem leAt_memRead (m : List Host.Cell) (a : Nat) {len off n : Nat} (h : off + n ≤ len) : leAt (memRead m a len) off n = ofLe (memRead m (a + off) n) := by
  have hbytes : ((memRead m a len).drop off).take n = memRead m (a + off) n :=
    List.ext_getElem (by simp [memRead]; omega) fun k _ _ => by simp [memRead, Nat.add_assoc]
  rw [leAt, hbytes]

end Sys2Proof.Machine
end

section
/-! ## EGO: steps, validity, standstill, slip and reset (R202 to R206, R229, R230) -/

namespace Sys2Proof.Machine

variable {s : State} {d : Dev} {a : Acc}

/-! ### EGO_STEP (R202, R203, R206, R230) -/

/-- A reset that is asked for is done: pose and DIST become 0, and the next grid update clears (R206). -/
def Dev.egoZeroed (d : Dev) : Dev :=
  if d.var V.egoRst 0 = 1 then
    (((((d.setVar V.egoRst 0 0).setVar V.egoXa 0 0).setVar V.egoYa 0 0).setVar V.egoPsi 0 0).set F.EGO_DIST_DIST 0 0).setVar V.gridClr 0 1
  else d

/-- The strobes of the millisecond are used up, and the last ten samples take in whether one came (R202, R203). -/
def Dev.egoSampled (d : Dev) (got : Bool) : Dev := (d.setPast 18 0 []).setVar V.imuHist 0 ((d.var V.imuHist 0 * 2 + bit got) % 1024)

/-- Whether the data are usable, and the speeds, pose, tilt and standstill that the samples give (R202, R203). -/
def Dev.egoJudged (d : Dev) (l : List EgoIn) : Dev :=
  let got := !l.isEmpty
  let d := d.when (!got) (fun a => a.irq 0x19 1)
  let imuOk := decide (8 ≤ bitsSet 10 (d.var V.imuHist 0).toNat)
  let w := match d.wheelRecord with | some b => d.wheelSum b | none => (0, 0)
  let whlOk := decide (1 ≤ w.1)
  let d := (((d.set F.EGO_STAT_IMUOK 0 (bit imuOk)).set F.EGO_STAT_WHLOK 0 (bit whlOk)).set F.EGO_STAT_BRIDGE 0 (bit !(imuOk && whlOk))).setVar
    V.imuBad 0 (if imuOk then 0 else d.var V.imuBad 0 + 1)
  let d := d.setVar V.whlBad 0 (if whlOk then 0 else d.var V.whlBad 0 + 1)
  let d := if imuOk && whlOk then
      let d := d.setVar V.egoVl 0 (w.2 * d.get F.EGO_WSCALE_SCALE.act 0 / (32768 * (max w.1 1 : Nat)))
      if got then d.setVar V.egoWl 0 (imuMean l (·.gz) - d.getI F.EGO_GBIAS_BIAS 0) else d
    else d
  let d := d.when (imuOk && whlOk) (fun a => a.egoValid true)
  let d := if d.on F.EGO_STAT_VALID 0 then d.egoMove else d
  let d := d.egoTilt l
  let still := decide (|d.var V.egoVl 0| < 50) && decide (|d.var V.egoWl 0| < 500)
  if still then d.setVar V.stillRun 0 (d.var V.stillRun 0 + 1) else (d.setVar V.stillRun 0 0).set F.EGO_STAT_STILL 0 0

/-- The step is counted, and the registers and the past poses show the pose (R202, R212). -/
def Dev.egoShown (d : Dev) : Dev := ((d.incWrap F.EGO_STEPSEQ_SEQ 0).egoShow.egoPast).boundary 0x19 wideUnit

theorem Dev.egoStep_eq (d : Dev) (x : List EgoIn) :
    d.egoStep x = ((d.egoZeroed.egoSampled !(d.egoZeroed.imuTaken x).isEmpty).egoJudged (d.egoZeroed.imuTaken x)).egoShown := rfl

theorem Dev.egoZeroed_get (d : Dev) {g : Fld} (hg : g.kid ≠ F.EGO_DIST_DIST.kid) (j : Nat) : d.egoZeroed.get g j = d.get g j := by
  unfold Dev.egoZeroed
  split
  · exact Dev.get_set_kid _ _ _ _ hg
  · rfl

@[simp] theorem Dev.egoZeroed_past (d : Dev) (n i : Nat) : d.egoZeroed.past n i = d.past n i := by
  unfold Dev.egoZeroed
  split <;> rfl

theorem Dev.egoZeroed_var (d : Dev) {x : Vr} (hx : ∀ y ∈ [V.egoRst, V.egoXa, V.egoYa, V.egoPsi, V.gridClr], x.id ≠ y.id) (j : Nat) :
    d.egoZeroed.var x j = d.var x j :=
  Dev.var_of_others (by simp [Dev.egoZeroed]) hx j

theorem Dev.egoZeroed_egoRst (d : Dev) : d.egoZeroed.var V.egoRst 0 = if d.var V.egoRst 0 = 1 then 0 else d.var V.egoRst 0 := by
  unfold Dev.egoZeroed
  split
  · simp +decide [Dev.var_setVar]
  · rfl

/-- A reset of the pose takes no strobe away. -/
theorem Dev.egoZeroed_imuTaken (d : Dev) (x : List EgoIn) : (d.egoZeroed.imuTaken x).isEmpty = (d.imuTaken x).isEmpty := by
  have hnow : d.egoZeroed.now = d.now := by rw [Dev.now, Dev.now, Dev.egoZeroed_var _ (by decide)]
  simp only [Dev.imuTaken, List.isEmpty_map, hnow, Dev.egoZeroed_past]

/-- The variables that the judgement of a step's data writes. -/
def egoVars : List Vr := [V.imuBad, V.whlBad, V.egoVl, V.egoWl, V.gridClr, V.egoPsi, V.egoXa, V.egoYa, V.pitchA, V.rollA, V.stillRun]

theorem Dev.held_egoJudged (d : Dev) (l : List EgoIn) : (d.egoJudged l).held egoVars = d.held egoVars := by
  simp [Dev.egoJudged, Dev.egoValid, Dev.egoFault, Dev.egoMove, Dev.egoTilt, egoVars]

theorem Dev.egoJudged_seq (d : Dev) (l : List EgoIn) : (d.egoJudged l).get F.EGO_STEPSEQ_SEQ 0 = d.get F.EGO_STEPSEQ_SEQ 0 := by
  refine Dev.get_of_view (κ := { flds := [F.COM_STAT_FAULT, F.EGO_ATT_PITCH, F.EGO_ATT_ROLL, F.EGO_DIST_DIST, F.EGO_STAT_BRIDGE, F.EGO_STAT_IMUOK,
    F.EGO_STAT_STILL, F.EGO_STAT_VALID, F.EGO_STAT_WHLOK] }) ?_ (by unfold Scope.Keeps; decide) 0
  simp +decide [Dev.egoJudged]

theorem Dev.egoShown_seq (d : Dev) : d.egoShown.get F.EGO_STEPSEQ_SEQ 0 = (d.get F.EGO_STEPSEQ_SEQ 0 + 1) % 2 ^ F.EGO_STEPSEQ_SEQ.width := by
  have hview : d.egoShown.view { flds := [F.EGO_SPEED_V, F.EGO_X_POS, F.EGO_YAWRATE_W, F.EGO_YAW_YAW, F.EGO_Y_POS] } =
      (d.incWrap F.EGO_STEPSEQ_SEQ 0).view { flds := [F.EGO_SPEED_V, F.EGO_X_POS, F.EGO_YAWRATE_W, F.EGO_YAW_YAW, F.EGO_Y_POS] } := by
    rw [Dev.egoShown, Dev.view_boundary, Dev.view_egoPast, Dev.view_egoShow _ (List.Subset.refl _)]
  exact (Dev.get_of_view hview (by unfold Scope.Keeps; decide) 0).trans (Dev.get_set_same ..)

theorem Dev.egoPast_others (d : Dev) (vl : List Vr) : d.egoPast.others vl = d.others vl :=
  Dev.others_foldl _ _ _ fun _ _ => rfl

theorem Dev.egoShown_var (d : Dev) {y : Vr} (hy : y.id ≠ V.boundAt.id) (j : Nat) : d.egoShown.var y j = d.var y j := by
  refine Dev.var_of_others (vl := [V.boundAt]) ?_ (by simpa using hy) j
  rw [Dev.egoShown, Dev.boundary, Dev.others_mark List.mem_cons_self, Dev.egoPast_others]
  rfl

/-- The poses of the last second are histories 13 to 17; the strobes are history 18. -/
theorem Dev.egoPast_strobes (d : Dev) : d.egoPast.past 18 0 = d.past 18 0 := by
  refine Dev.foldl_keeps (fun a => a.past 18 0) _ _ _ fun e he a => ?_
  have hne : (18 : Nat) ≠ e.1 := (by decide : ∀ n ∈ [13, 14, 15, 16, 17], 18 ≠ n) e.1 (List.mem_map_of_mem (f := Prod.fst) he)
  exact (Dev.past_setPast ..).trans (if_neg fun h => hne h.1)

theorem Dev.egoShown_strobes (d : Dev) : d.egoShown.past 18 0 = d.past 18 0 := by
  have hmark : ∀ (e : Dev) slot u, (e.boundary slot u).past 18 0 = e.past 18 0 := fun _ _ _ => rfl
  have hshow : ∀ e : Dev, e.egoShow.past 18 0 = e.past 18 0 := fun _ => rfl
  have hcount : ∀ (e : Dev) f, (e.incWrap f 0).past 18 0 = e.past 18 0 := fun _ _ => rfl
  rw [Dev.egoShown, hmark, Dev.egoPast_strobes, hshow, hcount]

theorem Dev.egoStep_seq (d : Dev) (x : List EgoIn) :
    (d.egoStep x).get F.EGO_STEPSEQ_SEQ 0 = (d.get F.EGO_STEPSEQ_SEQ 0 + 1) % 2 ^ F.EGO_STEPSEQ_SEQ.width := by
  have hzero : (d.egoZeroed.egoSampled !(d.egoZeroed.imuTaken x).isEmpty).get F.EGO_STEPSEQ_SEQ 0 = d.get F.EGO_STEPSEQ_SEQ 0 := d.egoZeroed_get (by decide) 0
  rw [Dev.egoStep_eq, Dev.egoShown_seq, Dev.egoJudged_seq, hzero]

/-- Of the variables apart from `egoVars`, a step writes what its reset and its sampling write. -/
theorem Dev.egoStep_var (d : Dev) (x : List EgoIn) {y : Vr} (hy : ∀ z ∈ V.boundAt :: egoVars, y.id ≠ z.id) (j : Nat) :
    (d.egoStep x).var y j = (d.egoZeroed.egoSampled !(d.imuTaken x).isEmpty).var y j := by
  rw [Dev.egoStep_eq, Dev.egoShown_var _ (hy _ List.mem_cons_self), Dev.var_of_held (Dev.held_egoJudged ..) (fun z hz => hy z (List.mem_cons_of_mem _ hz)),
    Dev.egoZeroed_imuTaken]

theorem Dev.egoStep_strobes (d : Dev) (x : List EgoIn) : (d.egoStep x).past 18 0 = [] := by
  rw [Dev.egoStep_eq, Dev.egoShown_strobes, Dev.past_of_held (Dev.held_egoJudged ..)]
  exact (Dev.past_setPast ..).trans (if_pos ⟨rfl, rfl⟩)

/-- The ring once the pose record is written: WR advances to `w`, or a fault stops the ring (R230). -/
def poseStored (w : Nat) : State × Option AccessFail → State
  | (s, none) => { s with dev := s.dev.set F.EGO_RING_WR_IDX 0 w }
  | (s, some _) => { s with dev := ((s.dev.setVar V.egoRingStop 0 1).irq 0x19 3).errBlk 0x19 1 0 }

/-- The pose record of a step goes to the ring, where there is one that no fault has stopped. -/
def State.poseWritten (s : State) : State :=
  let base := s.dev.get F.EGO_RING_BASE.act 0
  if base = 0 ∨ s.dev.var V.egoRingStop 0 = 1 ∨ ¬ s.dev.on F.EGO_STAT_VALID 0 then s
  else
    let size := 256 * 2 ^ min (s.dev.get F.EGO_RING_CFG_SIZE.act 0) 6
    let k := s.dev.get F.EGO_RING_WR_IDX 0 % size
    poseStored ((k + 1) % size) (s.devWrite 0x0190 (base + 32 * k) s.dev.poseRecord)

theorem State.egoStep_running (hrun : s.dev.running 0x19 = true) (x : List EgoIn) :
    s.egoStep x = State.poseWritten { s with dev := s.dev.egoStep x } := by
  simp only [State.egoStep, State.poseWritten, hrun, Bool.not_true, Bool.false_eq_true, if_false]
  split
  · rfl
  · generalize State.devWrite _ _ _ _ = w
    obtain ⟨t, f⟩ := w
    cases f <;> rfl

theorem view_poseStored {κ : Scope} (h : F.EGO_RING_WR_IDX ∈ κ.flds) (w : Nat) (r : State × Option AccessFail) :
    (poseStored w r).view κ = r.1.view κ := by
  obtain ⟨t, f⟩ := r
  cases f <;> simp +decide [poseStored, h]

theorem held_poseStored {vl : List Vr} (h : V.egoRingStop ∈ vl) (w : Nat) (r : State × Option AccessFail) :
    (poseStored w r).dev.held vl = r.1.dev.held vl := by
  obtain ⟨t, f⟩ := r
  cases f <;> simp [poseStored, h]

theorem State.poseWritten_seq (s : State) : s.poseWritten.dev.get F.EGO_STEPSEQ_SEQ 0 = s.dev.get F.EGO_STEPSEQ_SEQ 0 := by
  refine State.get_of_view (κ := { flds := F.EGO_RING_WR_IDX :: iommuFaultFlds, mem := true }) ?_ (by unfold Scope.Keeps; decide) 0
  unfold State.poseWritten
  extract_lets base size k
  split
  · rfl
  · rw [view_poseStored List.mem_cons_self, State.view_devWrite _ _ _ _ (List.subset_cons_self _ _) rfl]

theorem State.held_poseWritten (s : State) : s.poseWritten.dev.held (V.egoRingStop :: accessVars) = s.dev.held (V.egoRingStop :: accessVars) := by
  unfold State.poseWritten
  extract_lets base size k
  split
  · rfl
  · rw [held_poseStored List.mem_cons_self, State.held_devWrite _ _ _ _ (List.subset_cons_self _ accessVars)]

theorem egoStep_answers (x : List EgoIn) (hrun : s.dev.running 0x19 = true) : Answers (.egoStep x) s (fun t =>
    t.dev.get F.EGO_STEPSEQ_SEQ 0 = (s.dev.get F.EGO_STEPSEQ_SEQ 0 + 1) % 2 ^ F.EGO_STEPSEQ_SEQ.width ∧
    t.dev.var V.egoRst 0 = (if s.dev.var V.egoRst 0 = 1 then 0 else s.dev.var V.egoRst 0) ∧ t.dev.past 18 0 = [] ∧
    t.dev.var V.imuHist 0 = (s.dev.var V.imuHist 0 * 2 + bit !(s.dev.imuTaken x).isEmpty) % 1024) := by
  refine ⟨s.egoStep x, rfl, ?_⟩
  rw [State.egoStep_running hrun]
  have hheld := State.held_poseWritten { s with dev := s.dev.egoStep x }
  refine ⟨(State.poseWritten_seq _).trans (s.dev.egoStep_seq x), ?_, (Dev.past_of_held hheld 18 0).trans (s.dev.egoStep_strobes x), ?_⟩
  · rw [Dev.var_of_held hheld (by decide), Dev.egoStep_var _ _ (by decide), ← s.dev.egoZeroed_egoRst]
    exact Dev.var_setVar_id _ _ _ _ (by decide)
  · rw [Dev.var_of_held hheld (by decide), Dev.egoStep_var _ _ (by decide), Dev.egoSampled, Dev.var_setVar_same, Dev.egoZeroed_var _ (by decide)]

/-! ### EGO_INVALID, EGO_STILL, EGO_SLIP_UNKNOWN and EGO_RESET (R202, R203, R205, R206) -/

/-- VALID takes the value, and FAULT follows NOT VALID while EN is 1. -/
theorem Dev.egoValid_shows (d : Dev) (v : Bool) : (d.egoValid v).get F.EGO_STAT_VALID 0 = bit v ∧
    (d.egoValid v).get F.COM_STAT_FAULT 0x19 = bit (d.on F.COM_CTRL_EN 0x19 && !v) := by
  have hview : (d.egoValid v).view { flds := [] } = (d.set F.EGO_STAT_VALID 0 (bit v)).egoFault.view { flds := [] } := by
    simp +decide [Dev.egoValid]
  have hbit : ∀ b : Bool, bit b % 2 = bit b := by decide
  have hon : ∀ b : Bool, (bit b == 1) = b := by decide
  rw [Dev.get_of_view hview (by unfold Scope.Keeps; decide), Dev.get_of_view hview (by unfold Scope.Keeps; decide)]
  simp +decide [Dev.egoFault, Dev.on, Dev.get_set, hbit, hon, show F.EGO_STAT_VALID.width = 1 from rfl, show F.COM_STAT_FAULT.width = 1 from rfl]

theorem egoInvalid_answers (hrun : s.dev.running 0x19 = true) (hen : s.dev.get F.COM_CTRL_EN 0x19 = 1)
    (hbad : 100 < s.dev.var V.imuBad 0 ∨ 100 < s.dev.var V.whlBad 0) :
    Answers .egoInvalid s (fun t => t.dev.get F.EGO_STAT_VALID 0 = 0 ∧ t.dev.get F.COM_STAT_FAULT 0x19 = 1) := by
  refine ⟨{ s with dev := s.dev.egoInvalid }, rfl, ?_⟩
  have hdue : (s.dev.running 0x19 && (decide (100 < s.dev.var V.imuBad 0) || decide (100 < s.dev.var V.whlBad 0))) = true := by
    simpa [hrun] using hbad
  have hon : s.dev.on F.COM_CTRL_EN 0x19 = true := by rw [Dev.on, hen]; rfl
  obtain ⟨hvalid, hfault⟩ := s.dev.egoValid_shows false
  rw [hon] at hfault
  simp only [Dev.egoInvalid, hdue, if_true]
  exact ⟨hvalid, hfault⟩

theorem egoStill_answers (hrun : s.dev.running 0x19 = true) (hlong : 2000 ≤ s.dev.var V.stillRun 0) (hstill : s.dev.get F.EGO_STAT_STILL 0 ≠ 1) :
    Answers .egoStill s (fun t => t.dev.get F.EGO_STAT_STILL 0 = 1) := by
  refine ⟨{ s with dev := s.dev.egoStill }, rfl, ?_⟩
  have hdue : (s.dev.running 0x19 && decide (2000 ≤ s.dev.var V.stillRun 0) && !s.dev.on F.EGO_STAT_STILL 0) = true := by
    simp [hrun, hlong, Dev.on, hstill]
  simp only [Dev.egoStill, hdue, if_true, Dev.useFree_get]
  rw [Dev.get_set_kid _ _ _ _ (by decide), Dev.get_set_same]
  rfl

/-- SLIPUNK takes the value, and SLIP stays. -/
theorem Dev.slipBits_shows (d : Dev) (hold unk : Bool) : (d.slipBits hold unk).get F.EGO_STAT_SLIPUNK 0 = bit unk ∧
    (d.slipBits hold unk).get F.EGO_SLIP_SLIP 0 = d.get F.EGO_SLIP_SLIP 0 := by
  have hview : (d.slipBits hold unk).view { flds := [F.EGO_STAT_SLIPHOLD] } =
      (d.set F.EGO_STAT_SLIPUNK 0 (bit unk)).view { flds := [F.EGO_STAT_SLIPHOLD] } := by
    have hset := Dev.view_set_congr (Dev.view_set (κ := { flds := [F.EGO_STAT_SLIPHOLD] }) List.mem_cons_self d 0 (bit hold)) F.EGO_STAT_SLIPUNK 0 (bit unk)
    simp [Dev.slipBits, hset]
  refine ⟨?_, ?_⟩
  · rw [Dev.get_of_view hview (by unfold Scope.Keeps; decide), Dev.get_set_same]
    cases unk <;> rfl
  · rw [Dev.get_of_view hview (by unfold Scope.Keeps; decide), Dev.get_set_kid _ _ _ _ (by decide)]

theorem egoSlipUnknown_answers (hcontra : s.dev.get F.GNTK_GUARD_STAT_CONTRA 0 = 1)
    (hdue : s.dev.passed V.contraAt 0 (s.dev.var V.holdTV 0 * 1000000000) = true) : Answers .egoSlipUnknown s (fun t =>
      t.dev.get F.EGO_SLIP_SLIP 0 = 0 ∧ t.dev.get F.EGO_STAT_SLIPUNK 0 = 1 ∧ t.dev.var V.slipA 0 = 0) := by
  refine ⟨{ s with dev := s.dev.slipUnknown }, rfl, ?_⟩
  have hgo : (s.dev.on F.GNTK_GUARD_STAT_CONTRA 0 && s.dev.passed V.contraAt 0 (s.dev.var V.holdTV 0 * 1000000000)) = true := by
    simp [Dev.on, hcontra, hdue]
  simp only [Dev.slipUnknown, hgo, if_true]
  obtain ⟨hunk, hslip⟩ := ((s.dev.setVar V.slipA 0 0).set F.EGO_SLIP_SLIP 0 0).slipBits_shows (s.dev.on F.EGO_STAT_SLIPHOLD 0) true
  refine ⟨hslip.trans (Dev.get_set_same ..), hunk, ?_⟩
  exact (Dev.var_of_held (Dev.held_slipBits (vl := []) ..) (by decide) 0).trans (Dev.var_setVar_same ..)

theorem egoReset_answers (ht : Taken s 0x19 a) : Answers (.egoReset a) s (fun t => t.dev.var V.egoRst 0 = 1 ∧
    t.dev.get F.EGO_STAT_RSTCNT 0 = (s.dev.get F.EGO_STAT_RSTCNT 0 + 1) % 2 ^ F.EGO_STAT_RSTCNT.width) := by
  have hx : exec (.egoReset a) s = execEgoReset a s := rfl
  rw [execEgoReset, upd_wr_taken ht] at hx
  refine ⟨_, hx, ?_, ?_⟩
  · rw [Dev.ended_var, Dev.incWrap, Dev.var_set, Dev.var_setVar_same]
  · rw [Dev.ended_get, Dev.incWrap, Dev.get_set_same, Dev.get_setVar, Dev.counted_get _ _ _ _ (by decide)]

/-- Settles O13: each clause is what its command answers; what a step makes of its data leaves STEPSEQ and the strobes, and so does its record in the ring. -/
theorem egoMotionSteps : Obligations.EgoMotionSteps :=
  ⟨fun _ x hrun => egoStep_answers x hrun,
    fun _ hrun hen hbad => egoInvalid_answers hrun hen hbad,
    fun _ hrun hlong hstill => egoStill_answers hrun hlong hstill,
    fun _ hcontra hdue => egoSlipUnknown_answers hcontra hdue,
    fun _ _ ht => egoReset_answers ht⟩

end Sys2Proof.Machine
end

section
/-! ## The NPU: jobs that are queued, run and end (R222 to R224, R231) -/

namespace Sys2Proof.Machine

variable {s : State} {d : Dev} {a : Acc} {vl : List Vr} {j : Nat}

/-! ### Variables through the accesses of a job -/

@[simp] theorem State.others_jobCheck (s : State) (j : Nat) (h : accessVars ⊆ vl) : (s.jobCheck j).1.dev.others vl = s.dev.others vl := by
  simp only [State.jobCheck]
  split
  · next he => simp [h, State.others_of_eq he]
  next he =>
  split
  · simp [h, State.others_of_eq he]
  split
  · simp [h, State.others_of_eq he]
  split
  · simp [h, State.others_of_eq he]
  split
  · next hp => simp [h, State.others_of_eq hp, State.others_of_eq he]
  next hp =>
  split
  · simp [h, State.others_of_eq hp, State.others_of_eq he]
  split
  · next ha => simp [h, State.others_of_eq ha, State.others_of_eq hp, State.others_of_eq he]
  next ha => split <;> simp [h, State.others_of_eq ha, State.others_of_eq hp, State.others_of_eq he]

@[simp] theorem State.others_tensorRead (s : State) (base str len n : Nat) (h : accessVars ⊆ vl) :
    (s.tensorRead base str len n).1.dev.others vl = s.dev.others vl := by
  induction n generalizing s base with
  | zero => rfl
  | succ k ih =>
    unfold State.tensorRead
    split
    all_goals next he => simp [h, State.others_of_eq he, ih]

@[simp] theorem State.others_tensorWrite (s : State) (base str len n : Nat) (l : List Nat) (h : accessVars ⊆ vl) :
    (s.tensorWrite base str len n l).1.dev.others vl = s.dev.others vl := by
  induction n generalizing s base l with
  | zero => rfl
  | succ k ih =>
    unfold State.tensorWrite
    split
    all_goals next he => simp [h, State.others_devWrite, State.others_of_eq he, ih]

@[simp] theorem State.others_jobInputs (s : State) (j k n : Nat) (h : accessVars ⊆ vl) : (s.jobInputs j k n).1.dev.others vl = s.dev.others vl := by
  induction n generalizing s k with
  | zero => rfl
  | succ m ih =>
    simp only [State.jobInputs]
    split
    · next he => simp [h, State.others_of_eq he]
    next he =>
    split
    all_goals next ht => simp [h, State.others_of_eq ht, State.others_of_eq he, ih]

@[simp] theorem State.others_outDesc (s : State) (j k : Nat) (h : accessVars ⊆ vl) : (s.outDesc j k).1.dev.others vl = s.dev.others vl := by
  unfold State.outDesc
  split
  all_goals next he => simp [h, State.others_of_eq he]

@[simp] theorem State.others_jobOutputs (s : State) (j k : Nat) (outs : List (List Byte)) (h : accessVars ⊆ vl) :
    (s.jobOutputs j k outs).1.dev.others vl = s.dev.others vl := by
  induction outs generalizing s k with
  | nil => rfl
  | cons o t ih =>
    unfold State.jobOutputs
    split
    · next he => simp [h, State.others_of_eq he]
    next he =>
    split
    all_goals next ht => simp [h, State.others_of_eq ht, State.others_of_eq he, ih]

@[simp] theorem Dev.others_senLate (d : Dev) (i n : Nat) : (d.senLate i n).others vl = d.others vl := by
  simp [Dev.senLate]

@[simp] theorem Dev.others_handPost (d : Dev) (i : Nat) (fr : Frame) (o : Nat × Nat × Nat × Nat) : (d.handPost i fr o).others vl = d.others vl := by
  simp [Dev.handPost]

@[simp] theorem State.others_handOff (s : State) (j cam : Nat) (fr : Frame) (h : accessVars ⊆ vl) : (s.handOff j cam fr).dev.others vl = s.dev.others vl := by
  simp only [State.handOff]
  repeat' split
  all_goals simp [h]

/-! ### The end of a job (R223, R231) -/

/-- The device with the running job ended, before a frame that waits queues it again. -/
def Dev.jobClosed (d : Dev) (j st errc : Nat) : Dev :=
  let d := (((d.set F.JOB_STAT_STATE j st).set F.JOB_STAT_ERRC j errc).set F.JOB_TEND_T j d.now.toNat).setVar V.npuJob 0 (-1)
  let d := (d.set F.NPU_RUNJOB_RUNNING 0 0).setPast 4 0 ((d.var V.npuAt 0, d.var V.uptime 0) :: d.past 4 0)
  let t0 := d.var V.uptime 0 - 65536000000000
  (d.setPast 4 0 ((d.past 4 0).filter (fun e => decide (t0 < e.2)))).when (st != 4) (fun a => a.irq 0x1A 1)

/-- The job is queued again with the frame that came meanwhile. -/
def Dev.jobRequeued (d : Dev) (j : Nat) : Dev :=
  ({ d with frames := d.frames.put (1, j) ((d.frames.find (2, j)).getD ⟨0, 0, 0, 0, false, false⟩) }.setVar V.jobNextOk j 0).set F.JOB_STAT_STATE j 2

theorem Dev.jobEnd_eq (d : Dev) (j st errc : Nat) : d.jobEnd j st errc =
    if (d.jobClosed j st errc).var V.jobNextOk j = 1 ∧ (d.jobClosed j st errc).on F.JOB_CFG_EN j then (d.jobClosed j st errc).jobRequeued j
    else (d.jobClosed j st errc).setVar V.jobNextOk j 0 := rfl

/-- Beside TEND and RUNNING, a job's end writes its STATE and ERRC. -/
theorem Dev.jobClosed_get (d : Dev) (j st errc : Nat) {g : Fld} (hg : Scope.Keeps { flds := [F.JOB_TEND_T, F.NPU_RUNJOB_RUNNING] } g) (i : Nat) :
    (d.jobClosed j st errc).get g i = ((d.set F.JOB_STAT_STATE j st).set F.JOB_STAT_ERRC j errc).get g i := by
  refine Dev.get_of_view ?_ hg i
  simp +decide [Dev.jobClosed]

theorem Dev.jobClosed_var (d : Dev) (j st errc : Nat) (x : Vr) (i : Nat) : (d.jobClosed j st errc).var x i = (d.setVar V.npuJob 0 (-1)).var x i :=
  Dev.var_of_others (vl := []) (by
    simp only [Dev.jobClosed, Dev.others_when, Dev.others_irq, Dev.others_setPast, Dev.others_set, ite_self]
    exact Dev.others_setVar_congr rfl ..) (by simp) i

/-- A job ends with its state and cause, or is queued again where its next frame waits; the NPU is idle then. -/
theorem Dev.jobEnd_shows (d : Dev) (j : Nat) {st : Nat} (hst : st < 8) (errc : Nat) :
    (d.jobEnd j st errc).get F.JOB_STAT_STATE j = (if d.var V.jobNextOk j = 1 ∧ d.get F.JOB_CFG_EN j = 1 then 2 else st) ∧
    (d.jobEnd j st errc).get F.JOB_STAT_ERRC j = errc % 16 ∧ (d.jobEnd j st errc).var V.npuJob 0 = -1 := by
  have hstate : (d.jobClosed j st errc).get F.JOB_STAT_STATE j = st := by
    rw [Dev.jobClosed_get _ _ _ _ (by unfold Scope.Keeps; decide), Dev.get_set_kid _ _ _ _ (by decide), Dev.get_set_same]
    exact Nat.mod_eq_of_lt hst
  have herrc : (d.jobClosed j st errc).get F.JOB_STAT_ERRC j = errc % 16 := by
    rw [Dev.jobClosed_get _ _ _ _ (by unfold Scope.Keeps; decide), Dev.get_set_same]
    rfl
  have hidle : (d.jobClosed j st errc).var V.npuJob 0 = -1 := by rw [Dev.jobClosed_var, Dev.var_setVar_same]
  have hgo : ((d.jobClosed j st errc).var V.jobNextOk j = 1 ∧ (d.jobClosed j st errc).on F.JOB_CFG_EN j = true) ↔
      (d.var V.jobNextOk j = 1 ∧ d.get F.JOB_CFG_EN j = 1) := by
    rw [Dev.jobClosed_var, Dev.var_setVar_id _ _ _ _ (by decide), Dev.on, beq_iff_eq, Dev.jobClosed_get _ _ _ _ (by unfold Scope.Keeps; decide),
      Dev.get_set_kid _ _ _ _ (by decide), Dev.get_set_kid _ _ _ _ (by decide)]
  rw [Dev.jobEnd_eq]
  by_cases hagain : d.var V.jobNextOk j = 1 ∧ d.get F.JOB_CFG_EN j = 1
  · rw [if_pos (hgo.mpr hagain), if_pos hagain]
    exact ⟨Dev.get_set_same .., (Dev.get_set_kid _ _ _ _ (by decide)).trans herrc, (Dev.var_setVar_id _ _ _ _ (by decide)).trans hidle⟩
  · rw [if_neg fun h => hagain (hgo.mp h), if_neg hagain]
    exact ⟨hstate, herrc, (Dev.var_setVar_id _ _ _ _ (by decide)).trans hidle⟩

theorem Dev.jobEnd_get (d : Dev) (j st errc : Nat) {g : Fld}
    (hg : Scope.Keeps { flds := [F.JOB_STAT_ERRC, F.JOB_STAT_STATE, F.JOB_TEND_T, F.NPU_RUNJOB_RUNNING] } g) (i : Nat) :
    (d.jobEnd j st errc).get g i = d.get g i :=
  Dev.get_of_view (Dev.view_jobEnd _ _ _ _ (List.Subset.refl _)) hg i

/-! ### NPU_JOB_GO and NPU_JOB_ENABLE (R223, R231) -/

theorem npuJobGo_answers (j : Fin 64) (ht : Taken s 0x1A a) (htrig : s.dev.get F.JOB_CFG_TRIG j = 0 ∨ s.dev.get F.JOB_CFG_TRIG j = 7)
    (hst : s.dev.get F.JOB_STAT_STATE j = 0 ∨ s.dev.get F.JOB_STAT_STATE j = 4) : Answers (.npuJobGo a j) s (fun t => t.dev.get F.JOB_STAT_STATE j = 2) := by
  have hx : exec (.npuJobGo a j) s = execNpuJobGo a j s := rfl
  have hbusy : ¬ (s.dev.get F.JOB_STAT_STATE j = 2 ∨ s.dev.get F.JOB_STAT_STATE j = 3) := by omega
  have hstate : (s.dev.counted 0x1A a.bank.val).get F.JOB_STAT_STATE j = s.dev.get F.JOB_STAT_STATE j := Dev.counted_get _ _ _ _ (by decide)
  have htrig' : (s.dev.counted 0x1A a.bank.val).get F.JOB_CFG_TRIG j = s.dev.get F.JOB_CFG_TRIG j := Dev.counted_get _ _ _ _ (by decide)
  rw [execNpuJobGo, upd_wr_taken ht _ _ (fun _ => true)] at hx
  refine ⟨_, hx, ?_⟩
  simp only [Dev.ended_get, hstate, htrig', if_neg hbusy, if_pos (And.intro htrig hst), Dev.get_set_same]
  rfl

theorem npuJobEnable_answers (j : Fin 64) (en : Bool) (ht : Taken s 0x1A a) : Answers (.npuJobEnable a j en) s (fun t =>
    t.dev.get F.JOB_CFG_EN j = bit en ∧
    (en = true → 1 ≤ s.dev.get F.JOB_CFG_TRIG j → s.dev.get F.JOB_CFG_TRIG j ≤ 6 → s.dev.get F.JOB_STAT_STATE j ≠ 2 →
      s.dev.get F.JOB_STAT_STATE j ≠ 3 → t.dev.get F.JOB_STAT_STATE j = 1) ∧
    (en = false → s.dev.get F.JOB_STAT_STATE j = 1 ∨ s.dev.get F.JOB_STAT_STATE j = 2 → t.dev.get F.JOB_STAT_STATE j = 0)) := by
  have hx : exec (.npuJobEnable a j en) s = execNpuJobEnable a j en s := rfl
  rw [execNpuJobEnable, upd_wr_taken ht _ _ (fun d => d.changes F.JOB_CFG_EN j (bit en))] at hx
  refine ⟨_, hx, ?_⟩
  have hstate : ((s.dev.counted 0x1A a.bank.val).set F.JOB_CFG_EN j (bit en)).get F.JOB_STAT_STATE j = s.dev.get F.JOB_STAT_STATE j := by
    rw [Dev.get_set_kid _ _ _ _ (by decide), Dev.counted_get _ _ _ _ (by decide)]
  have htrig : ((s.dev.counted 0x1A a.bank.val).set F.JOB_CFG_EN j (bit en)).get F.JOB_CFG_TRIG j = s.dev.get F.JOB_CFG_TRIG j := by
    rw [Dev.get_set_kid _ _ _ _ (by decide), Dev.counted_get _ _ _ _ (by decide)]
  have hen : ((s.dev.counted 0x1A a.bank.val).set F.JOB_CFG_EN j (bit en)).get F.JOB_CFG_EN j = bit en := by
    rw [Dev.get_set_same]
    cases en <;> rfl
  have hthen : ∀ (c : Prop) [Decidable c] (e : Dev) v, (if c then e.set F.JOB_STAT_STATE j v else e).get F.JOB_CFG_EN j = e.get F.JOB_CFG_EN j := by
    intro c _ e v
    split
    · exact Dev.get_set_kid _ _ _ _ (by decide)
    · rfl
  simp only [Dev.ended_get, hstate, htrig]
  cases en with
  | true =>
    simp only [if_true]
    exact ⟨(hthen ..).trans hen, fun _ h1 h6 h2 h3 => by rw [if_pos ⟨h1, h6, h2, h3⟩, Dev.get_set_same]; rfl, fun h => absurd h (by decide)⟩
  | false =>
    simp only [Bool.false_eq_true, if_false]
    exact ⟨(hthen ..).trans hen, fun h => absurd h (by decide), fun _ h => by rw [if_pos h, Dev.get_set_same]; rfl⟩

/-! ### NPU_JOB_START (R222, R223) -/

/-- A job that begins runs, and the NPU shows it. -/
theorem Dev.jobBegin_shows (d : Dev) (hj : j < 64) : (d.jobBegin j).get F.JOB_STAT_STATE j = 3 ∧ (d.jobBegin j).get F.NPU_RUNJOB_RUNNING 0 = 1 ∧
    (d.jobBegin j).get F.NPU_RUNJOB_JOB 0 = j ∧ (d.jobBegin j).var V.npuJob 0 = j := by
  unfold Dev.jobBegin
  extract_lets fr t e₀ e
  have he : e.get F.JOB_STAT_STATE j = 3 ∧ e.get F.NPU_RUNJOB_RUNNING 0 = 1 ∧ e.get F.NPU_RUNJOB_JOB 0 = j ∧ e.var V.npuJob 0 = j := by
    simp +decide [e, e₀, Dev.get_set, Dev.mark, Dev.var_setVar, show F.NPU_RUNJOB_JOB.width = 6 from rfl, show F.NPU_RUNJOB_RUNNING.width = 1 from rfl,
      show F.JOB_STAT_STATE.width = 3 from rfl, hj]
  obtain ⟨hstate, hrun, hjob, hvar⟩ := he
  split
  · exact ⟨(Dev.get_set_kid _ _ _ _ (by decide)).trans hstate, (Dev.get_set_kid _ _ _ _ (by decide)).trans hrun,
      (Dev.get_set_kid _ _ _ _ (by decide)).trans hjob, hvar⟩
  · exact ⟨hstate, hrun, hjob, hvar⟩

theorem Dev.jobBegin_var (d : Dev) (j : Nat) {x : Vr} (hx : ∀ y ∈ [V.npuJob, V.npuAt], x.id ≠ y.id) (i : Nat) : (d.jobBegin j).var x i = d.var x i :=
  Dev.var_of_others (by simp [Dev.jobBegin]) hx i

/-- The state once the job has begun and its image and arguments are checked, and what is wrong with them. -/
def State.jobChecked (s : State) (j : Nat) : State × Option Nat := State.jobCheck { s with dev := s.dev.jobBegin j } j

/-- The state once its inputs are read, and whether they could be. -/
def State.jobRead (s : State) (j : Nat) : State × Bool :=
  (s.jobChecked j).1.jobInputs j 0 (leAt ((s.jobChecked j).1.devPeek 0x01A0 ((s.jobChecked j).1.dev.get F.JOB_ARGS_ARGS j) 8) 0 1)

theorem State.jobChecked_get (s : State) (j : Nat) {g : Fld} (hg : Scope.Keeps { flds := iommuFaultFlds, mem := true } g) (i : Nat) :
    (s.jobChecked j).1.dev.get g i = (s.dev.jobBegin j).get g i := by
  rw [State.jobChecked, State.get_of_view (State.view_jobCheck _ j (List.Subset.refl _) rfl) hg]

theorem State.jobChecked_var (s : State) (j : Nat) {x : Vr} (hx : ∀ y ∈ accessVars, x.id ≠ y.id) (i : Nat) :
    (s.jobChecked j).1.dev.var x i = (s.dev.jobBegin j).var x i := by
  rw [State.jobChecked, Dev.var_of_others (State.others_jobCheck _ j (List.Subset.refl _)) hx]

theorem State.jobRead_get (s : State) (j : Nat) {g : Fld} (hg : Scope.Keeps { flds := iommuFaultFlds, mem := true } g) (i : Nat) :
    (s.jobRead j).1.dev.get g i = (s.dev.jobBegin j).get g i := by
  rw [State.jobRead, State.get_of_view (State.view_jobInputs _ j 0 _ (List.Subset.refl _) rfl) hg, State.jobChecked_get _ _ hg]

theorem State.jobRead_var (s : State) (j : Nat) {x : Vr} (hx : ∀ y ∈ accessVars, x.id ≠ y.id) (i : Nat) :
    (s.jobRead j).1.dev.var x i = (s.dev.jobBegin j).var x i := by
  rw [State.jobRead, Dev.var_of_others (State.others_jobInputs _ j 0 _ (List.Subset.refl _)) hx, State.jobChecked_var _ _ hx]

section
variable (hrun : s.dev.running 0x1A = true) (hidle : s.dev.var V.npuJob 0 < 0) (hnext : s.dev.jobNext = some j)
include hrun hidle hnext

theorem State.jobStart_runs (hcheck : (s.jobChecked j).2 = none) (hin : (s.jobRead j).2 = true) : s.jobStart = (s.jobRead j).1 := by
  have hgo : (!s.dev.running 0x1A || decide (0 ≤ s.dev.var V.npuJob 0)) = false := by simp [hrun, hidle]
  rw [State.jobStart, hgo, if_neg Bool.false_ne_true]
  simp only [hnext]
  rw [← State.jobChecked]
  unfold State.jobRead at hin ⊢
  generalize s.jobChecked j = c at hcheck hin ⊢
  obtain ⟨t, r⟩ := c
  obtain rfl : r = none := hcheck
  dsimp only at hin ⊢
  generalize t.jobInputs j 0 _ = c at hin ⊢
  obtain ⟨u, ok⟩ := c
  obtain rfl : ok = true := hin
  rfl

theorem State.jobStart_faults {e : Nat} (hcheck : (s.jobChecked j).2 = some e) :
    s.jobStart = { (s.jobChecked j).1 with dev := (s.jobChecked j).1.dev.jobEnd j 5 e } := by
  have hgo : (!s.dev.running 0x1A || decide (0 ≤ s.dev.var V.npuJob 0)) = false := by simp [hrun, hidle]
  rw [State.jobStart, hgo, if_neg Bool.false_ne_true]
  simp only [hnext]
  rw [← State.jobChecked]
  generalize s.jobChecked j = c at hcheck ⊢
  obtain ⟨t, r⟩ := c
  obtain rfl : r = some e := hcheck
  rfl

theorem npuJobStart_runs_answers (hj : j < 64) (hcheck : (s.jobChecked j).2 = none) (hin : (s.jobRead j).2 = true) :
    Answers .npuJobStart s (fun t => t.dev.get F.JOB_STAT_STATE j = 3 ∧ t.dev.get F.NPU_RUNJOB_RUNNING 0 = 1 ∧ t.dev.get F.NPU_RUNJOB_JOB 0 = j ∧
      t.dev.var V.npuJob 0 = (j : Int)) := by
  refine ⟨s.jobStart, rfl, ?_⟩
  dsimp only
  rw [State.jobStart_runs hrun hidle hnext hcheck hin, State.jobRead_get _ _ (by unfold Scope.Keeps; decide),
    State.jobRead_get _ _ (by unfold Scope.Keeps; decide), State.jobRead_get _ _ (by unfold Scope.Keeps; decide), State.jobRead_var _ _ (by decide)]
  exact s.dev.jobBegin_shows hj

theorem npuJobStart_faults_answers (hbad : (s.jobChecked j).2.isSome = true) : Answers .npuJobStart s (fun t =>
    t.dev.get F.JOB_STAT_STATE j = (if s.dev.var V.jobNextOk j = 1 ∧ s.dev.get F.JOB_CFG_EN j = 1 then 2 else 5) ∧ t.dev.var V.npuJob 0 = -1) := by
  refine ⟨s.jobStart, rfl, ?_⟩
  obtain ⟨e, hcheck⟩ := Option.isSome_iff_exists.mp hbad
  have hen : (s.jobChecked j).1.dev.get F.JOB_CFG_EN j = s.dev.get F.JOB_CFG_EN j :=
    (s.jobChecked_get j (by unfold Scope.Keeps; decide) j).trans
      (Dev.get_of_view (Dev.view_jobBegin (κ := { flds := [F.JOB_STAMP_STAMP, F.JOB_STAT_ERRC, F.JOB_STAT_STATE, F.JOB_TSTART_T, F.NPU_RUNJOB_JOB,
        F.NPU_RUNJOB_RUNNING] }) _ _ (List.Subset.refl _)) (by unfold Scope.Keeps; decide) j)
  have hwaits : (s.jobChecked j).1.dev.var V.jobNextOk j = s.dev.var V.jobNextOk j :=
    (s.jobChecked_var j (by decide) j).trans (s.dev.jobBegin_var j (by decide) j)
  obtain ⟨hstate, -, hfree⟩ := (s.jobChecked j).1.dev.jobEnd_shows j (show 5 < 8 by decide) e
  rw [hen, hwaits] at hstate
  rw [State.jobStart_faults hrun hidle hnext hcheck]
  exact ⟨hstate, hfree⟩

end

/-! ### NPU_JOB_DONE, NPU_JOB_LIMIT and NPU_ABORT (R223, R224, R231) -/

/-- The run of a job is counted and, where the job asks for it, told. -/
def Dev.jobCounted (d : Dev) (j : Nat) : Dev := ((d.incWrap F.JOB_RUNS_RUNS j).cone 0x1A 0x100).when (d.on F.JOB_CFG_IRQ j) (fun a => a.irq 0x1A 0)

theorem Dev.jobCounted_get (d : Dev) (j : Nat) {g : Fld} (hg : Scope.Keeps { flds := [] } g) (i : Nat) :
    (d.jobCounted j).get g i = (d.incWrap F.JOB_RUNS_RUNS j).get g i :=
  Dev.get_of_view (by simp [Dev.jobCounted]) hg i

theorem Dev.jobCounted_var (d : Dev) (j : Nat) (x : Vr) (i : Nat) : (d.jobCounted j).var x i = d.var x i :=
  Dev.var_of_others (vl := []) (by simp [Dev.jobCounted]) (by simp) i

/-- A job that completes shows DONE, or is queued again, without a cause, and its run is counted. -/
theorem Dev.jobCounted_end_shows (d : Dev) (j : Nat) :
    ((d.jobCounted j).jobEnd j 4 0).get F.JOB_STAT_STATE j = (if d.var V.jobNextOk j = 1 ∧ d.get F.JOB_CFG_EN j = 1 then 2 else 4) ∧
    ((d.jobCounted j).jobEnd j 4 0).get F.JOB_STAT_ERRC j = 0 ∧ ((d.jobCounted j).jobEnd j 4 0).var V.npuJob 0 = -1 ∧
    ((d.jobCounted j).jobEnd j 4 0).get F.JOB_RUNS_RUNS j = (d.get F.JOB_RUNS_RUNS j + 1) % 2 ^ F.JOB_RUNS_RUNS.width := by
  have hen : (d.jobCounted j).get F.JOB_CFG_EN j = d.get F.JOB_CFG_EN j := by
    rw [Dev.jobCounted_get _ _ (by unfold Scope.Keeps; decide), Dev.incWrap, Dev.get_set_kid _ _ _ _ (by decide)]
  obtain ⟨hstate, herrc, hfree⟩ := (d.jobCounted j).jobEnd_shows j (show 4 < 8 by decide) 0
  rw [hen, Dev.jobCounted_var] at hstate
  refine ⟨hstate, herrc, hfree, ?_⟩
  rw [Dev.jobEnd_get _ _ _ _ (by unfold Scope.Keeps; decide), Dev.jobCounted_get _ _ (by unfold Scope.Keeps; decide), Dev.incWrap, Dev.get_set_same]

/-- The hand-off to CNPY leaves the job, and so does what it reads of the argument block. -/
theorem State.handOff_get (s : State) (j cam : Nat) (fr : Frame) {g : Fld} (hg : Scope.Keeps { flds := F.CNPY_SEN_CNT_LATE :: iommuFaultFlds, mem := true } g)
    (i : Nat) : (s.handOff j cam fr).dev.get g i = s.dev.get g i :=
  State.get_of_view (State.view_handOff s j cam fr (by simp [iommuFaultFlds]) rfl) hg i

theorem State.jobOutputs_get (s : State) (j k : Nat) (outs : List (List Byte)) {g : Fld} (hg : Scope.Keeps { flds := iommuFaultFlds, mem := true } g)
    (i : Nat) : (s.jobOutputs j k outs).1.dev.get g i = s.dev.get g i :=
  State.get_of_view (State.view_jobOutputs s j k outs (List.Subset.refl _) rfl) hg i

/-- The running job whose outputs are written ends, and a triggered job with HAND hands them off. -/
theorem State.jobDone_written {outs : List (List Byte)} (hj : j = (s.dev.var V.npuJob 0).toNat) (hbusy : 0 ≤ s.dev.var V.npuJob 0)
    (hout : (s.jobOutputs j 0 outs).2 = true) : ∃ cam fr, s.jobDone outs =
      let d := (s.jobOutputs j 0 outs).1.dev.jobCounted j
      if d.on F.JOB_CFG_HAND j ∧ 1 ≤ s.dev.get F.JOB_CFG_TRIG j ∧ s.dev.get F.JOB_CFG_TRIG j ≤ 6 then
        State.handOff { (s.jobOutputs j 0 outs).1 with dev := d.jobEnd j 4 0 } j cam fr
      else { (s.jobOutputs j 0 outs).1 with dev := d.jobEnd j 4 0 } := by
  subst hj
  refine ⟨s.dev.get F.JOB_CFG_TRIG (s.dev.var V.npuJob 0).toNat - 1,
    (s.dev.frames.find (1, (s.dev.var V.npuJob 0).toNat)).getD ⟨0, 0, 0, 0, false, false⟩, ?_⟩
  simp only [State.jobDone, if_neg (not_lt.mpr hbusy)]
  generalize s.jobOutputs (s.dev.var V.npuJob 0).toNat 0 outs = w at hout ⊢
  obtain ⟨t, ok⟩ := w
  obtain rfl : ok = true := hout
  rfl

theorem npuJobDone_answers (outs : List (List Byte)) (hj : j = (s.dev.var V.npuJob 0).toNat) (hbusy : 0 ≤ s.dev.var V.npuJob 0)
    (hout : (s.jobOutputs j 0 outs).2 = true) : Answers (.npuJobDone outs) s (fun t =>
      t.dev.get F.JOB_STAT_STATE j = (if s.dev.var V.jobNextOk j = 1 ∧ s.dev.get F.JOB_CFG_EN j = 1 then 2 else 4) ∧ t.dev.get F.JOB_STAT_ERRC j = 0 ∧
      t.dev.var V.npuJob 0 = -1 ∧ t.dev.get F.JOB_RUNS_RUNS j = (s.dev.get F.JOB_RUNS_RUNS j + 1) % 2 ^ F.JOB_RUNS_RUNS.width ∧
      (s.dev.get F.JOB_CFG_HAND j ≠ 1 → t.mem = (s.jobOutputs j 0 outs).1.mem)) := by
  refine ⟨s.jobDone outs, rfl, ?_⟩
  obtain ⟨cam, fr, hdone⟩ := State.jobDone_written hj hbusy hout
  obtain ⟨w, hw⟩ : ∃ w, w = (s.jobOutputs j 0 outs).1 := ⟨_, rfl⟩
  have hget : ∀ g : Fld, Scope.Keeps { flds := iommuFaultFlds, mem := true } g → w.dev.get g j = s.dev.get g j := fun g hg =>
    hw ▸ s.jobOutputs_get j 0 outs hg j
  have hwaits : w.dev.var V.jobNextOk j = s.dev.var V.jobNextOk j :=
    hw ▸ Dev.var_of_others (State.others_jobOutputs s j 0 outs (List.Subset.refl _)) (by decide) j
  have hhand : (w.dev.jobCounted j).get F.JOB_CFG_HAND j = s.dev.get F.JOB_CFG_HAND j := by
    rw [Dev.jobCounted_get _ _ (by unfold Scope.Keeps; decide), Dev.incWrap, Dev.get_set_kid _ _ _ _ (by decide), hget _ (by unfold Scope.Keeps; decide)]
  have hshows := w.dev.jobCounted_end_shows j
  rw [hwaits, hget F.JOB_CFG_EN (by unfold Scope.Keeps; decide), hget F.JOB_RUNS_RUNS (by unfold Scope.Keeps; decide)] at hshows
  obtain ⟨hstate, herrc, hfree, hruns⟩ := hshows
  rw [← hw] at hdone ⊢
  rw [hdone]
  dsimp only
  split
  case isTrue hto =>
    refine ⟨?_, ?_, ?_, ?_, fun hno => absurd (hhand.symm.trans (beq_iff_eq.mp hto.1)) hno⟩
    · rw [State.handOff_get _ _ _ _ (by unfold Scope.Keeps; decide), hstate]
    · rw [State.handOff_get _ _ _ _ (by unfold Scope.Keeps; decide), herrc]
    · rw [Dev.var_of_others (State.others_handOff _ j cam fr (List.Subset.refl _)) (by decide), hfree]
    · rw [State.handOff_get _ _ _ _ (by unfold Scope.Keeps; decide), hruns]
  case isFalse => exact ⟨hstate, herrc, hfree, hruns, fun _ => rfl⟩

theorem npuJobLimit_answers (hj : j = (s.dev.var V.npuJob 0).toNat) (hbusy : 0 ≤ s.dev.var V.npuJob 0) (hset : s.dev.get F.JOB_CFG_LIMIT j ≠ 0)
    (hover : (s.dev.get F.JOB_CFG_LIMIT j : Int) * 100000 * 65536 < s.dev.since V.npuAt 0) : Answers .npuJobLimit s (fun t =>
      t.dev.get F.JOB_STAT_STATE j = (if s.dev.var V.jobNextOk j = 1 ∧ s.dev.get F.JOB_CFG_EN j = 1 then 2 else 6) ∧ t.dev.get F.JOB_STAT_ERRC j = 7 ∧
      t.dev.var V.npuJob 0 = -1) := by
  refine ⟨{ s with dev := s.dev.jobLimit }, rfl, ?_⟩
  have hdue : (decide (0 ≤ s.dev.var V.npuJob 0) && s.dev.get F.JOB_CFG_LIMIT j != 0 &&
      decide ((s.dev.get F.JOB_CFG_LIMIT j : Int) * 100000 * 65536 < s.dev.since V.npuAt 0)) = true := by
    simp [hbusy, hset, hover]
  subst hj
  dsimp only
  rw [Dev.jobLimit, if_pos hdue]
  exact Dev.jobEnd_shows _ _ (by decide) 7

theorem npuAbort_answers (ht : Taken s 0x1A a) (hj : j = (s.dev.var V.npuJob 0).toNat) (hbusy : 0 ≤ s.dev.var V.npuJob 0) :
    Answers (.npuAbort a) s (fun t =>
      t.dev.get F.JOB_STAT_STATE j = (if s.dev.var V.jobNextOk j = 1 ∧ s.dev.get F.JOB_CFG_EN j = 1 then 2 else 6) ∧ t.dev.get F.JOB_STAT_ERRC j = 7 ∧
      t.dev.var V.npuJob 0 = -1) := by
  have hx : exec (.npuAbort a) s = execNpuAbort a s := rfl
  rw [execNpuAbort, upd_wr_taken ht _ _ (fun _ => true)] at hx
  refine ⟨_, hx, ?_⟩
  have hshows := (s.dev.counted 0x1A a.bank.val).jobEnd_shows j (show 6 < 8 by decide) 7
  rw [Dev.counted_var, Dev.counted_get _ _ _ _ (by decide)] at hshows
  simpa only [Dev.ended_get, Dev.ended_var, Dev.counted_var, if_pos hbusy, ← hj] using hshows

/-- Settles O12: each clause is what its command answers; a job's accesses to DRAM leave its registers, and what waits for the job decides whether it ends or is
queued again. -/
theorem networkJobsQueueRunAndEnd : Obligations.NetworkJobsQueueRunAndEnd :=
  ⟨fun _ _ j ht htrig hst => npuJobGo_answers j ht htrig hst,
    fun _ _ j en ht => npuJobEnable_answers j en ht,
    fun _ j hrun hidle hnext hcheck hin => npuJobStart_runs_answers hrun hidle hnext j.isLt hcheck hin,
    fun _ _ hrun hidle hnext hbad => npuJobStart_faults_answers hrun hidle hnext hbad,
    fun _ outs hbusy hout => npuJobDone_answers outs rfl hbusy hout,
    fun _ hbusy hset hover => npuJobLimit_answers rfl hbusy hset hover,
    fun _ _ ht hbusy => npuAbort_answers ht rfl hbusy⟩

end Sys2Proof.Machine
end

section
/-! ## CNPY: sensors, their checks and bank swaps (R196 to R199, R218, R226) -/

namespace Sys2Proof.Machine

variable {s : State} {d : Dev} {a : Acc} {vl : List Vr}

/-! ### The state of a sensor (R198) -/

@[simp] theorem Dev.others_projGo (d : Dev) : d.projGo.others vl = d.others vl := by
  simp [Dev.projGo]

/-- The variables that a new state of a sensor writes. -/
def senVars : List Vr := [V.chkBins, V.chkOn, V.senBad]

theorem senVars_subset {l : List Vr} : senVars ⊆ l ↔ [V.chkBins, V.chkOn, V.senBad] ⊆ l := by rw [senVars]

@[simp] theorem Dev.others_senState (d : Dev) (i st cause : Nat) (h : senVars ⊆ vl) : (d.senState i st cause).others vl = d.others vl := by
  simp only [senVars_subset, List.cons_subset] at h
  simp [Dev.senState, h]

theorem Dev.senState_get (d : Dev) (i st cause : Nat) {g : Fld} (hg : Scope.Keeps { flds := senStateFlds } g) (j : Nat) :
    (d.senState i st cause).get g j = d.get g j :=
  Dev.get_of_view (Dev.view_senState d i st cause (List.Subset.refl _)) hg j

/-- What a new state of a sensor writes beside STATE and CAUSE. -/
def senMarks : List Fld := [F.CNPY_EXCL_MASK, F.CNPY_HP_STAT_ST, F.CNPY_SEN_STAT_INSTEP, F.CNPY_SEN_STAT_OUTCNT]

theorem Dev.view_senState_state {i st : Nat} (h : d.get F.CNPY_SEN_STAT_STATE i ≠ st) (cause : Nat) :
    (d.senState i st cause).view { flds := F.CNPY_SEN_STAT_CAUSE :: senMarks } =
      (d.set F.CNPY_SEN_STAT_STATE i st).view { flds := F.CNPY_SEN_STAT_CAUSE :: senMarks } := by
  simp +decide [Dev.senState, h, senMarks]

theorem Dev.view_senState_cause {i st : Nat} (h : d.get F.CNPY_SEN_STAT_STATE i ≠ st) (hst : st = 4 ∨ st = 5) (cause : Nat) :
    (d.senState i st cause).view { flds := F.CNPY_SEN_STAT_STATE :: senMarks } =
      (d.set F.CNPY_SEN_STAT_CAUSE i cause).view { flds := F.CNPY_SEN_STAT_STATE :: senMarks } := by
  have hset : ∀ e : Dev, e.view { flds := F.CNPY_SEN_STAT_STATE :: senMarks } = d.view { flds := F.CNPY_SEN_STAT_STATE :: senMarks } →
      (e.set F.CNPY_SEN_STAT_CAUSE i cause).view { flds := F.CNPY_SEN_STAT_STATE :: senMarks } =
        (d.set F.CNPY_SEN_STAT_CAUSE i cause).view { flds := F.CNPY_SEN_STAT_STATE :: senMarks } := fun _ he => Dev.view_set_congr he ..
  simp only [senMarks] at hset ⊢
  rcases hst with rfl | rfl <;> simp +decide [Dev.senState, h, hset]

theorem Dev.senState_state (d : Dev) (i : Nat) {st : Nat} (hst : st < 8) (cause : Nat) : (d.senState i st cause).get F.CNPY_SEN_STAT_STATE i = st := by
  by_cases h : d.get F.CNPY_SEN_STAT_STATE i = st
  · rw [Dev.senState, if_pos h, h]
  · rw [Dev.get_of_view (Dev.view_senState_state h cause) (by unfold Scope.Keeps; decide), Dev.get_set_same]
    exact Nat.mod_eq_of_lt hst

/-- A sensor that goes to OUT or CALFAIL shows why. -/
theorem Dev.senState_cause {i st cause : Nat} (h : d.get F.CNPY_SEN_STAT_STATE i ≠ st) (hst : st = 4 ∨ st = 5) (hc : cause < 8) :
    (d.senState i st cause).get F.CNPY_SEN_STAT_CAUSE i = cause := by
  rw [Dev.get_of_view (Dev.view_senState_cause h hst cause) (by unfold Scope.Keeps; decide), Dev.get_set_same]
  exact Nat.mod_eq_of_lt hc

/-- A sensor that goes to OUT, before it reports. -/
def Dev.senOut (d : Dev) (i cause : Nat) : Dev :=
  let d := ((d.set F.CNPY_SEN_STAT_STATE i 4).irq 0x18 1).setVar V.chkBins i 0
  let d := (d.setVar V.chkOn i 0).projGo
  let old := d.get F.CNPY_EXCL_MASK 0
  let d := d.set F.CNPY_EXCL_MASK 0 (old - bit (tbit old i) * 2 ^ i + bit (decide (4 ≤ 4)) * 2 ^ i)
  ((((d.set F.CNPY_SEN_STAT_CAUSE i cause).incSat F.CNPY_SEN_STAT_OUTCNT i).set F.CNPY_SEN_STAT_INSTEP i 0).setVar V.senBad i 0).irq 0x18 2

theorem Dev.senState_out {i : Nat} (h : d.get F.CNPY_SEN_STAT_STATE i ≠ 4) (cause : Nat) :
    d.senState i 4 cause = (d.senOut i cause).errBlk 0x18 5 1 := by
  rw [Dev.senState, if_neg h]
  rfl

theorem Dev.senOut_reports (d : Dev) (i cause : Nat) : (d.senOut i cause).reports = d.reports :=
  Dev.reports_of_besides (vl := senVars) (by simp [Dev.senOut, Dev.projGo, senVars])

/-! ### The frames that stand posted (R197) -/

theorem Dev.frames_of_rest {d e : Dev} (h : d.rest = e.rest) : d.frames = e.frames := congrArg (fun a => a.frames) h

@[simp] theorem Dev.setVar_frames (d : Dev) (x : Vr) (i : Nat) (v : Int) : (d.setVar x i v).frames = d.frames := rfl
@[simp] theorem Dev.incSat_frames (d : Dev) (f : Fld) (i n : Nat) : (d.incSat f i n).frames = d.frames := rfl
@[simp] theorem Dev.irq_frames (d : Dev) (slot b : Nat) : (d.irq slot b).frames = d.frames := Dev.frames_of_rest (by simp)

@[simp] theorem Dev.errBlk_frames (d : Dev) (slot bcode cls : Nat) (pay : List Nat) : (d.errBlk slot bcode cls pay).frames = d.frames :=
  show (d.errCapture slot 7 0 d.acc bcode).frames = d.frames from Dev.frames_of_rest (by simp)

@[simp] theorem Dev.ite_frames (p : Prop) [Decidable p] (d e : Dev) : (if p then d else e).frames = if p then d.frames else e.frames :=
  apply_ite _ _ _ _

@[simp] theorem Dev.senState_frames (d : Dev) (i st cause : Nat) : (d.senState i st cause).frames = d.frames := by
  simp [Dev.senState, Dev.projGo]

@[simp] theorem Dev.senLate_frames (d : Dev) (i n : Nat) : (d.senLate i n).frames = d.frames := by
  simp [Dev.senLate]

@[simp] theorem Dev.handPost_frames (d : Dev) (i : Nat) (fr : Frame) (o : Nat × Nat × Nat × Nat) : (d.handPost i fr o).frames = d.frames := by
  simp [Dev.handPost]

theorem Dev.senLate_hands (d : Dev) (i n : Nat) : (d.senLate i n).hands = d.hands := by
  unfold Dev.senLate
  split
  · rfl
  · exact congrArg (fun a => a.hands) (Dev.irq_rest (d.incSat F.CNPY_SEN_CNT_LATE i n) 0x18 7)

/-! ### LIDAR_POST (R196, R197) -/

theorem Dev.running_congr {e : Dev} {slot : Nat} (hrun : e.get F.COM_STAT_RUN slot = d.get F.COM_STAT_RUN slot)
    (hkiln : e.var V.underKiln slot = d.var V.underKiln slot) : e.running slot = d.running slot := by
  rw [Dev.running, Dev.running, Dev.on, Dev.on, hrun, hkiln]

/-- The sensor is enabled and has its ring, and CNPY runs: its frames are posted (R197, R226). -/
def Dev.posts (d : Dev) (i : Nat) : Prop := d.running 0x18 = true ∧ d.get F.CNPY_SEN_CFG_EN i = 1 ∧ 2 ≤ d.get F.CNPY_SEN_RING_NBUF.act i

theorem Dev.posts_iff (d : Dev) (i : Nat) :
    d.posts i ↔ (d.running 0x18 && d.on F.CNPY_SEN_CFG_EN i && decide (2 ≤ d.get F.CNPY_SEN_RING_NBUF.act i)) = true := by
  simp [Dev.posts, Dev.on, and_assoc]

/-- What counts events alone leaves it. -/
theorem Dev.posts_congr {e : Dev} {i : Nat}
    (hget : ∀ g : Fld, g.kid ≠ F.COM_CONE_CNT_V.kid → g.kid ≠ F.COM_CONE_CNT_WRAP.kid → ∀ j, e.get g j = d.get g j)
    (hkiln : e.var V.underKiln 0x18 = d.var V.underKiln 0x18) : e.posts i ↔ d.posts i := by
  rw [Dev.posts, Dev.posts, Dev.running_congr (hget _ (by decide) (by decide) _) hkiln, hget F.CNPY_SEN_CFG_EN (by decide) (by decide),
    hget F.CNPY_SEN_RING_NBUF.act (by decide) (by decide)]

/-- A lidar's record is posted now, with its STAMP, whatever it makes of the sensor's state. -/
theorem Dev.framePost_lidar {i : Nat} (hlidar : 6 ≤ i) (hgo : d.posts i) (buf stamp arr : Nat) :
    (d.framePost i buf stamp arr).var V.senPost i = d.var V.uptime 0 ∧
      ((d.framePost i buf stamp arr).frames.find (0, 256 * i + buf)).map (·.stamp) = some stamp := by
  unfold Dev.framePost
  rw [(d.posts_iff i).mp hgo, Bool.not_true, if_neg Bool.false_ne_true]
  extract_lets d1 d2 dp d3 off ok d4 fr d5 st da db d6 st'
  rw [if_pos hlidar]
  have h2 : d2.others senVars = d1.others senVars := by simp [d2]
  have h3 : d3.others senVars = d2.others senVars := by simp [d3, dp]
  have h5 : d5.others senVars = d3.others senVars := rfl
  have ha : da.others senVars = d5.others senVars := by simp [da, senVars]
  have hb : db.others senVars = d5.others senVars := by simp [db, senVars]
  have h6 : d6.others senVars = d5.others senVars := by simp [d6, ha, hb]
  have hpost : d1.var V.senPost i = d.var V.uptime 0 := Dev.var_setVar_same ..
  have hfa : da.frames = d5.frames := rfl
  have hfb : db.frames = d5.frames := rfl
  have hf6 : d6.frames = d5.frames := by simp [d6, hfa, hfb]
  have hframes : d6.frames = d4.frames.put (0, 256 * i + buf) fr := hf6.trans rfl
  refine ⟨?_, ?_⟩
  · rw [Dev.var_of_others (vl := senVars) ((Dev.others_handPost ..).trans (h6.trans (h5.trans (h3.trans h2)))) (by decide), hpost]
  · rw [Dev.handPost_frames, hframes, Store.find_put_same]
    rfl

/-- In Bare mode a record that can be read and fits its buffer is posted. -/
theorem State.lidarPost_bare {i buf : Nat} (hlidar : 6 ≤ i) (hgo : s.dev.posts i) (hbare : s.dev.get F.IOMU_DDTP_V 0 % 16 = 1)
    (hok : ∀ k < 32, inDram (s.dev.bufAt i buf + k) = true ∧ s.dev.poisoned (s.dev.bufAt i buf + k) = false)
    (hmany : ofLe (memRead s.mem (s.dev.bufAt i buf + 16) 4) ≤ 300000)
    (hfit : 32 + 16 * ofLe (memRead s.mem (s.dev.bufAt i buf + 16) 4) ≤ s.dev.get F.CNPY_SEN_RING_BUFSZ.act i * 65536) :
    (s.lidarPost i buf).dev.var V.senPost i = s.dev.var V.uptime 0 ∧
      ((s.lidarPost i buf).dev.frames.find (0, 256 * i + buf)).map (·.stamp) = some (ofLe (memRead s.mem (s.dev.bufAt i buf) 8)) := by
  have hn : leAt (memRead s.mem (s.dev.bufAt i buf) 32) 16 4 = ofLe (memRead s.mem (s.dev.bufAt i buf + 16) 4) := leAt_memRead _ _ (by decide)
  have hstamp : leAt (memRead s.mem (s.dev.bufAt i buf) 32) 0 8 = ofLe (memRead s.mem (s.dev.bufAt i buf) 8) := by
    rw [leAt_memRead _ _ (by decide), Nat.add_zero]
  have hin : ¬ (i < 6 ∨ (!(s.dev.running 0x18 && s.dev.on F.CNPY_SEN_CFG_EN i && decide (2 ≤ s.dev.get F.CNPY_SEN_RING_NBUF.act i))) = true) := by
    rw [(s.dev.posts_iff i).mp hgo]
    simpa using hlidar
  have hused : ¬ (300000 < ofLe (memRead s.mem (s.dev.bufAt i buf + 16) 4) ∨
      s.dev.get F.CNPY_SEN_RING_BUFSZ.act i * 65536 < 32 + 16 * ofLe (memRead s.mem (s.dev.bufAt i buf + 16) 4)) := by omega
  have hread : ∀ n g, g.kid ≠ F.COM_CONE_CNT_V.kid → g.kid ≠ F.COM_CONE_CNT_WRAP.kid → ∀ j, (s.dev.cone 0x08 0x100 n).get g j = s.dev.get g j :=
    fun _ _ h h' _ => Dev.cone_get_ne _ _ _ _ _ h h'
  rw [State.lidarPost, if_neg hin, State.devRead_bare s 0x0180 _ 32 hbare hok]
  simp only [hn, hstamp, hread _ F.CNPY_SEN_RING_BUFSZ.act (by decide) (by decide), if_neg hused]
  rw [← Dev.cone_var s.dev 0x08 0x100 (blocksOf (s.dev.bufAt i buf) 32) V.uptime 0]
  exact Dev.framePost_lidar hlidar ((Dev.posts_congr (hread _) (Dev.cone_var ..)).mpr hgo) ..

/-- The device on which a write access to a channel acts. -/
def Dev.atChannel (d : Dev) (slot bank : Nat) : Dev := { ((d.counted slot bank).cone slot 7).ended with acc := bank }

theorem Dev.atChannel_get (d : Dev) (slot bank : Nat) {g : Fld} (h : g.kid ≠ F.COM_CONE_CNT_V.kid) (h' : g.kid ≠ F.COM_CONE_CNT_WRAP.kid) (j : Nat) :
    (d.atChannel slot bank).get g j = d.get g j := by
  rw [Dev.atChannel, Dev.acc_get, Dev.ended_get, Dev.counted_cone_get _ _ _ h h']

@[simp] theorem Dev.atChannel_var (d : Dev) (slot bank : Nat) (x : Vr) (j : Nat) : (d.atChannel slot bank).var x j = d.var x j := by
  rw [Dev.atChannel, Dev.acc_var, Dev.ended_var, Dev.cone_var, Dev.counted_var]

/-- A state after a write access. -/
def State.unbanked (t : State) : State := { t with dev := { t.dev with acc := 0 } }

@[simp] theorem State.unbanked_var (t : State) (x : Vr) (j : Nat) : t.unbanked.dev.var x j = t.dev.var x j := rfl
@[simp] theorem State.unbanked_frames (t : State) : t.unbanked.dev.frames = t.dev.frames := rfl

/-- A command whose effect needs memory, on a channel that exists. -/
theorem State.wrCh_taken {slot : Nat} (ht : Taken s slot a) (hc : s.dev.chSel slot a < chCnt slot) (off : Nat) (k : Nat → State → State) :
    s.wrCh slot off a k = (k (s.dev.chSel slot a) { s with dev := s.dev.atChannel slot a.bank.val }).unbanked := by
  have hdev : s.dev.wrCh slot off a (fun _ d => d) = ((s.dev.counted slot a.bank.val).cone slot 7).ended :=
    congrArg State.dev (Host.Outcome.next.inj (upd_wrCh_taken ht hc off (fun _ d => d) fun _ _ => true))
  rw [State.wrCh, if_pos ⟨accCause_of_taken ht off, ht.2.1, hc⟩, hdev, State.asBank, State.unbanked, Dev.atChannel]

theorem lidarPost_answers (buf : BitVec 8) {i : Nat} (hi : i = s.dev.chSel 0x18 a) (ht : Taken s 0x18 a) (hlidar : i = 6 ∨ i = 7)
    (hrun : s.dev.running 0x18 = true) (hen : s.dev.get F.CNPY_SEN_CFG_EN i = 1) (hring : 2 ≤ s.dev.get F.CNPY_SEN_RING_NBUF.act i)
    (hbare : s.dev.get F.IOMU_DDTP_V 0 % 16 = 1)
    (hok : ∀ k < 32, inDram (s.dev.bufAt i buf.toNat + k) = true ∧ s.dev.poisoned (s.dev.bufAt i buf.toNat + k) = false)
    (hmany : ofLe (memRead s.mem (s.dev.bufAt i buf.toNat + 16) 4) ≤ 300000)
    (hfit : 32 + 16 * ofLe (memRead s.mem (s.dev.bufAt i buf.toNat + 16) 4) ≤ s.dev.get F.CNPY_SEN_RING_BUFSZ.act i * 65536) :
    Answers (.lidarPost a buf) s (fun t => t.dev.var V.senPost i = s.dev.var V.uptime 0 ∧
      (t.dev.frames.find (0, 256 * i + buf.toNat)).map (·.stamp) = some (ofLe (memRead s.mem (s.dev.bufAt i buf.toNat) 8))) := by
  refine ⟨s.wrCh 0x18 0x134 a (fun i s => s.lidarPost i buf.toNat), rfl, ?_⟩
  rw [State.wrCh_taken ht (by rw [← hi]; rcases hlidar with rfl | rfl <;> decide), ← hi]
  beta_reduce
  rw [State.unbanked_var, State.unbanked_frames]
  have hget : ∀ g : Fld, g.kid ≠ F.COM_CONE_CNT_V.kid → g.kid ≠ F.COM_CONE_CNT_WRAP.kid → ∀ j,
      (s.dev.atChannel 0x18 a.bank.val).get g j = s.dev.get g j :=
    fun g h h' j => Dev.atChannel_get _ _ _ h h' j
  have hvar : ∀ x j, (s.dev.atChannel 0x18 a.bank.val).var x j = s.dev.var x j := fun x j => Dev.atChannel_var ..
  generalize s.dev.atChannel 0x18 a.bank.val = e at hget hvar ⊢
  have hbuf : e.bufAt i buf.toNat = s.dev.bufAt i buf.toNat := by
    rw [Dev.bufAt, Dev.bufAt, hget _ (by decide) (by decide), hget _ (by decide) (by decide)]
  have hpoison : ∀ n, e.poisoned n = s.dev.poisoned n := fun n => by rw [Dev.poisoned, Dev.poisoned, hvar]
  rw [← hvar V.uptime 0, ← hbuf]
  exact State.lidarPost_bare (s := { s with dev := e }) (by omega)
    ((Dev.posts_congr hget (hvar ..)).mpr ⟨hrun, hen, hring⟩) ((hget F.IOMU_DDTP_V (by decide) (by decide) 0).symm ▸ hbare)
    (by simpa only [hbuf, hpoison] using hok) (by simpa only [hbuf] using hmany)
    (by simpa only [hbuf, hget F.CNPY_SEN_RING_BUFSZ.act (by decide) (by decide)] using hfit)

/-! ### SENSOR_SILENT, SENSOR_EN_WRITE and SENSOR_RECHECK (R198, R226) -/

theorem sensorSilent_answers {i : Fin 8} (hrun : s.dev.running 0x18 = true) (hfrom : 1 ≤ s.dev.get F.CNPY_SEN_STAT_STATE i)
    (hto : s.dev.get F.CNPY_SEN_STAT_STATE i ≤ 3) (hdue : s.dev.passed V.senPost i (3 * s.dev.senPer i) = true) :
    Answers (.sensorSilent i) s (fun t => t.dev.get F.CNPY_SEN_STAT_STATE i = 4 ∧ t.dev.get F.CNPY_SEN_STAT_CAUSE i = 2 ∧ Reported s t 0x18 1 0x0205) := by
  refine ⟨{ s with dev := s.dev.senState i 4 2 }, ?_, Dev.senState_state _ _ (by decide) _, Dev.senState_cause (by omega) (.inl rfl) (by decide), ?_⟩
  · have hgo : (s.dev.running 0x18 && (s.dev.get F.CNPY_SEN_STAT_STATE i == 1 || s.dev.get F.CNPY_SEN_STAT_STATE i == 2 ||
        s.dev.get F.CNPY_SEN_STAT_STATE i == 3) && s.dev.passed V.senPost i (3 * s.dev.senPer i)) = true := by
      simp [hrun, hdue]
      omega
    show s.upd (fun d => d.senSilent i) = _
    rw [State.upd_eq, Dev.senSilent, if_pos hgo]
  · obtain ⟨w, hw⟩ := (s.dev.senOut i 2).errBlk_reports 0x18 5 1 []
    rw [Dev.senOut_reports] at hw
    rw [Reported, Dev.senState_out (by omega), hw, List.drop_left]
    exact ⟨_, List.mem_singleton_self _, rfl, rfl, rfl⟩

/-- A sensor that is switched off, and its queued hand-offs dropped. -/
def Dev.senOff (d : Dev) (i : Nat) : Dev :=
  Dev.senLate { d.senState i 0 0 with hands := d.hands.filter (fun h => h.sen != i), frames := d.frames.filter (fun e => !(e.1.1 == 0 && e.1.2 / 256 == i)) }
    i (d.hands.countP (fun h => h.sen == i))

theorem Dev.senOff_get (d : Dev) (i : Nat) {g : Fld} (hg : Scope.Keeps { flds := [F.CNPY_SEN_CNT_LATE] } g) (j : Nat) :
    (d.senOff i).get g j = (d.senState i 0 0).get g j :=
  (Dev.get_of_view (Dev.view_senLate _ _ _ List.mem_cons_self) hg j).trans rfl

theorem Dev.senOff_hands (d : Dev) (i : Nat) : ∀ h ∈ (d.senOff i).hands, h.sen ≠ i := by
  intro h hh
  rw [Dev.senOff, Dev.senLate_hands] at hh
  simpa using (List.mem_filter.mp hh).2

theorem sensorEnWrite_answers (en : Bool) {i : Nat} (hi : i = s.dev.chSel 0x18 a) (ht : Taken s 0x18 a) (hc : i < 8) :
    Answers (.sensorEnWrite a en) s (fun t => t.dev.get F.CNPY_SEN_CFG_EN i = bit en ∧
      (en = false → t.dev.get F.CNPY_SEN_STAT_STATE i = 0 ∧ ∀ h ∈ t.dev.hands, h.sen ≠ i)) := by
  have hx : exec (.sensorEnWrite a en) s = execSensorEnWrite a en s := rfl
  rw [execSensorEnWrite, upd_wrCh_taken ht (by rw [← hi]; exact hc), ← hi] at hx
  refine ⟨_, hx, ?_⟩
  generalize (s.dev.counted 0x18 a.bank.val).cone 0x18 7 = d
  have hset : (d.set F.CNPY_SEN_CFG_EN i (bit en)).get F.CNPY_SEN_CFG_EN i = bit en := by
    rw [Dev.get_set_same]
    cases en <;> rfl
  cases en with
  | true => exact ⟨hset, Bool.noConfusion⟩
  | false =>
    have hen := ((d.set F.CNPY_SEN_CFG_EN i 0).senOff_get i (by unfold Scope.Keeps; decide) i).trans
      ((Dev.senState_get _ i 0 0 (by unfold Scope.Keeps; decide) i).trans hset)
    have hst := ((d.set F.CNPY_SEN_CFG_EN i 0).senOff_get i (by unfold Scope.Keeps; decide) i).trans (Dev.senState_state _ i (by decide) 0)
    exact ⟨hen, fun _ => ⟨hst, Dev.senOff_hands _ i⟩⟩

theorem sensorRecheck_answers {i : Nat} (hi : i = s.dev.chSel 0x18 a) (ht : Taken s 0x18 a) (hc : i < 8) (hfail : s.dev.get F.CNPY_SEN_STAT_STATE i = 5) :
    Answers (.sensorRecheck a) s (fun t => t.dev.get F.CNPY_SEN_STAT_STATE i = 2) := by
  have hx : exec (.sensorRecheck a) s = execSensorRecheck a s := rfl
  rw [execSensorRecheck, upd_wrCh_taken ht (by rw [← hi]; exact hc), ← hi] at hx
  refine ⟨_, hx, ?_⟩
  dsimp only
  rw [Dev.ended_get, Dev.counted_cone_get _ _ _ (by decide) (by decide), if_pos hfail]
  exact Dev.senState_state _ _ (by decide) _

/-! ### CALIBRATION_CHECK_DONE and CHECK_NOREF (R199, R220) -/

@[simp] theorem State.others_senData (s : State) (i bank : Nat) (fr : Frame) (h : accessVars ⊆ vl) :
    (s.senData i bank fr).1.dev.others vl = s.dev.others vl := by
  unfold State.senData
  extract_lets a all
  have hall : ∀ (t : State) (n : Nat), (all t n).1.dev.others vl = t.dev.others vl := by
    intro t n
    simp only [all]
    split
    all_goals next he => simp [h, State.others_of_eq he]
  clear_value all
  split
  · exact hall ..
  · exact (hall ..).trans (hall ..)

@[simp] theorem State.others_project (s : State) (i bi : Nat) (fi : Frame) (k bk : Nat) (fk : Frame) (h : accessVars ⊆ vl) :
    (s.project i bi fi k bk fk).1.dev.others vl = s.dev.others vl := by
  simp [State.project, h]

theorem Dev.projOvl_lt (d : Dev) (l : Option (List Match)) : d.projOvl l < 65536 := by
  unfold Dev.projOvl
  split <;> omega

/-- A sensor whose check showed this score and overlap, before it leaves CHECK. -/
def Dev.checked (d : Dev) (i : Nat) (score : Int) (ovl : Nat) : Dev :=
  (((({ d with free := d.free + 2 } : Dev).setI F.CNPY_SEN_CHK_SCORE i score).set F.CNPY_SEN_CHK_OVL i ovl).irq 0x18 4).setVar V.chkOn i 0

theorem Dev.checked_get (d : Dev) (i : Nat) (score : Int) (ovl : Nat) {g : Fld} (hg : Scope.Keeps { flds := [F.CNPY_SEN_CHK_SCORE] } g) (j : Nat) :
    (d.checked i score ovl).get g j = (d.set F.CNPY_SEN_CHK_OVL i ovl).get g j := by
  have hset := Dev.view_set_congr (show (Dev.setI { d with free := d.free + 2 } F.CNPY_SEN_CHK_SCORE i score).view { flds := [F.CNPY_SEN_CHK_SCORE] } =
    d.view { flds := [F.CNPY_SEN_CHK_SCORE] } by simp) F.CNPY_SEN_CHK_OVL i ovl
  refine Dev.get_of_view (Eq.trans ?_ hset) hg j
  simp +decide [Dev.checked]

theorem Dev.checked_var (d : Dev) (i : Nat) (score : Int) (ovl : Nat) {x : Vr} (hx : x.id ≠ V.chkOn.id) (j : Nat) :
    (d.checked i score ovl).var x j = d.var x j :=
  Dev.var_of_others (vl := [V.chkOn]) (by simp [Dev.checked]) (by simpa using hx) j

/-- The sensor leaves CHECK: for IN, or for CALFAIL with its cause. -/
def Dev.checkEnd (d : Dev) (i : Nat) (score : Int) (ovl : Nat) : Dev :=
  (if ovl < 10000 then d.senState i 5 4 else if score < d.var V.chkThV i then d.senState i 5 3 else d.senState i 3 0).projGo

theorem Dev.projGo_get (d : Dev) {g : Fld} (hg : Scope.Keeps { flds := [F.CNPY_HP_STAT_ST] } g) (j : Nat) : d.projGo.get g j = d.get g j :=
  Dev.get_of_view (Dev.view_projGo d List.mem_cons_self) hg j

theorem Dev.checkEnd_ovl (d : Dev) (i : Nat) (score : Int) (ovl : Nat) : (d.checkEnd i score ovl).get F.CNPY_SEN_CHK_OVL i = d.get F.CNPY_SEN_CHK_OVL i := by
  rw [Dev.checkEnd, Dev.projGo_get _ (by unfold Scope.Keeps; decide)]
  have hkeep : ∀ st cause, (d.senState i st cause).get F.CNPY_SEN_CHK_OVL i = d.get F.CNPY_SEN_CHK_OVL i := fun st cause =>
    Dev.senState_get d i st cause (by unfold Scope.Keeps; decide) i
  split
  · exact hkeep ..
  · split
    · exact hkeep ..
    · exact hkeep ..

theorem Dev.checkEnd_state (d : Dev) (i : Nat) (score : Int) (ovl : Nat) : (d.checkEnd i score ovl).get F.CNPY_SEN_STAT_STATE i =
    if ovl < 10000 then 5 else if score < d.var V.chkThV i then 5 else 3 := by
  rw [Dev.checkEnd, Dev.projGo_get _ (by unfold Scope.Keeps; decide)]
  split
  · exact Dev.senState_state d i (by decide) 4
  · split
    · exact Dev.senState_state d i (by decide) 3
    · exact Dev.senState_state d i (by decide) 0

theorem Dev.checkEnd_cause {i : Nat} (hst : d.get F.CNPY_SEN_STAT_STATE i ≠ 5) (score : Int) (ovl : Nat) :
    (ovl < 10000 → (d.checkEnd i score ovl).get F.CNPY_SEN_STAT_CAUSE i = 4) ∧
      (10000 ≤ ovl → score < d.var V.chkThV i → (d.checkEnd i score ovl).get F.CNPY_SEN_STAT_CAUSE i = 3) := by
  rw [Dev.checkEnd, Dev.projGo_get _ (by unfold Scope.Keeps; decide)]
  refine ⟨fun hfew => ?_, fun hmany hlow => ?_⟩
  · rw [if_pos hfew]
    exact Dev.senState_cause hst (.inr rfl) (by decide)
  · rw [if_neg (by omega), if_pos hlow]
    exact Dev.senState_cause hst (.inr rfl) (by decide)

/-- The check of a sensor once its projection is computed. -/
def State.checkEnd (s : State) (i : Nat) (l : Option (List Match)) : State :=
  { s with dev := (s.dev.checked i (s.dev.projScore l) (s.dev.projOvl l)).checkEnd i (s.dev.projScore l) (s.dev.projOvl l) }

theorem State.checkDone_checks {i : Nat} (hst : s.dev.get F.CNPY_SEN_STAT_STATE i = 2) (hon : s.dev.var V.chkOn i = 1) :
    s.checkDone i = (checkOf s i).1.checkEnd i (checkOf s i).2 := by
  rw [State.checkDone, if_neg (by simp [hst, hon])]
  rfl

/-- The projection of a check leaves the registers but for those that a fault of the IOMMU writes. -/
theorem checkOf_get (s : State) (i : Nat) {g : Fld} (hg : Scope.Keeps { flds := iommuFaultFlds, mem := true } g) (j : Nat) :
    (checkOf s i).1.dev.get g j = s.dev.get g j := by
  unfold checkOf
  rw [State.get_of_view (State.view_project _ _ _ _ _ _ _ (List.Subset.refl _) rfl) hg]

theorem checkOf_var (s : State) (i : Nat) {x : Vr} (hx : ∀ y ∈ accessVars, x.id ≠ y.id) (j : Nat) : (checkOf s i).1.dev.var x j = s.dev.var x j := by
  unfold checkOf
  rw [Dev.var_of_others (State.others_project _ _ _ _ _ _ _ (List.Subset.refl _)) hx]

theorem calibrationCheckDone_answers {i : Fin 8} (hst : s.dev.get F.CNPY_SEN_STAT_STATE i = 2) (hon : s.dev.var V.chkOn i = 1) {score : Int} {ovl : Nat}
    (hs : score = (checkOf s i).1.dev.projScore (checkOf s i).2) (ho : ovl = (checkOf s i).1.dev.projOvl (checkOf s i).2) :
    Answers (.calibrationCheckDone i () ()) s (fun t => t.dev.get F.CNPY_SEN_CHK_OVL i = ovl ∧
      t.dev.get F.CNPY_SEN_STAT_STATE i = (if ovl < 10000 then 5 else if score < s.dev.var V.chkThV i then 5 else 3) ∧
      (ovl < 10000 → t.dev.get F.CNPY_SEN_STAT_CAUSE i = 4) ∧
      (10000 ≤ ovl → score < s.dev.var V.chkThV i → t.dev.get F.CNPY_SEN_STAT_CAUSE i = 3)) := by
  refine ⟨s.checkDone i, rfl, ?_⟩
  rw [State.checkDone_checks hst hon, State.checkEnd, ← hs, ← ho]
  obtain ⟨e, he⟩ : ∃ e, e = (checkOf s i).1.dev.checked i score ovl := ⟨_, rfl⟩
  have hovl : e.get F.CNPY_SEN_CHK_OVL i = ovl := by
    rw [he, Dev.checked_get _ _ _ _ (by unfold Scope.Keeps; decide), Dev.get_set_same]
    exact Nat.mod_eq_of_lt (ho ▸ Dev.projOvl_lt _ _)
  have hkeep : e.get F.CNPY_SEN_STAT_STATE i = 2 := by
    rw [he, Dev.checked_get _ _ _ _ (by unfold Scope.Keeps; decide), Dev.get_set_kid _ _ _ _ (by decide), checkOf_get _ _ (by unfold Scope.Keeps; decide), hst]
  have hth : e.var V.chkThV i = s.dev.var V.chkThV i := by
    rw [he, Dev.checked_var _ _ _ _ (by decide), checkOf_var _ _ (by decide)]
  have hcause := Dev.checkEnd_cause (show e.get F.CNPY_SEN_STAT_STATE i ≠ 5 by rw [hkeep]; decide) score ovl
  dsimp only
  rw [← he, ← hth, Dev.checkEnd_ovl, Dev.checkEnd_state]
  exact ⟨hovl, rfl, hcause⟩

theorem checkNoref_answers {i : Fin 8} (hst : s.dev.get F.CNPY_SEN_STAT_STATE i = 2) (hon : s.dev.var V.chkOn i ≠ 1) (hbins : 100 ≤ s.dev.var V.chkBins i) :
    Answers (.checkNoref i) s (fun t => t.dev.get F.CNPY_SEN_STAT_STATE i = 5 ∧ t.dev.get F.CNPY_SEN_STAT_CAUSE i = 5) := by
  refine ⟨{ s with dev := s.dev.senState i 5 5 }, ?_, Dev.senState_state _ _ (by decide) _, Dev.senState_cause (by omega) (.inr rfl) (by decide)⟩
  have hgo : (s.dev.get F.CNPY_SEN_STAT_STATE i == 2 && s.dev.var V.chkOn i != 1 && decide (100 ≤ s.dev.var V.chkBins i)) = true := by
    simp [hst, hon, hbins]
  show s.upd (fun d => d.checkNoref i) = _
  rw [State.upd_eq, Dev.checkNoref, if_pos hgo]

/-! ### BANK_SWAP_REQUEST (R218) -/

theorem Dev.pend_each (d : Dev) {l : List Nat} (hl : l.Nodup) (i : Nat) : (d.each l (fun j a => a.set F.CNPY_SEN_BANK_PEND j 1)).get F.CNPY_SEN_BANK_PEND i =
    if i ∈ l then 1 else d.get F.CNPY_SEN_BANK_PEND i := by
  split
  case isTrue hi =>
    rw [Dev.each_at (fun a => a.get F.CNPY_SEN_BANK_PEND i) _ hl hi (fun j _ hj a => Dev.get_set_ix _ _ (Ne.symm hj) ..)
      (fun a b _ => by rw [Dev.get_set_same, Dev.get_set_same]), Dev.get_set_same]
    rfl
  case isFalse hi =>
    exact Dev.each_keeps (fun a => a.get F.CNPY_SEN_BANK_PEND i) _ l d fun j hj a => Dev.get_set_ix _ _ (fun h => hi (h ▸ hj)) ..

theorem bankSwapRequest_answers (mask : BitVec 8) (i : Fin 8) (ht : Taken s 0x18 a) : Answers (.bankSwapRequest a mask) s (fun t =>
    (tbit mask.toNat i = true → t.dev.get F.CNPY_SEN_BANK_PEND i = 1) ∧
      (tbit mask.toNat i = false → t.dev.get F.CNPY_SEN_BANK_PEND i = s.dev.get F.CNPY_SEN_BANK_PEND i)) := by
  have hx : exec (.bankSwapRequest a mask) s = execBankSwapRequest a mask s := rfl
  rw [execBankSwapRequest, upd_wr_taken ht _ _ (fun _ => true)] at hx
  refine ⟨_, hx, ?_⟩
  dsimp only
  rw [Dev.ended_get, Dev.pend_each _ (List.nodup_range.filter _), Dev.counted_get _ _ _ _ (by decide)]
  refine ⟨fun h => if_pos ?_, fun h => if_neg ?_⟩
  · exact List.mem_filter.mpr ⟨List.mem_range.mpr i.isLt, h⟩
  · exact fun hi => by simp [h] at hi

/-- Settles O10: each clause is what its command answers; a frame is posted whatever it makes of the sensor's state, and a sensor leaves CHECK by what its
projection showed. -/
theorem sensorsChecksAndBanks : Obligations.SensorsChecksAndBanks :=
  ⟨fun _ _ buf ht hlidar hrun hen hring hbare hok hmany hfit => lidarPost_answers buf rfl ht hlidar hrun hen hring hbare hok hmany hfit,
    fun _ _ hrun hfrom hto hdue => sensorSilent_answers hrun hfrom hto hdue,
    fun _ _ en ht hc => sensorEnWrite_answers en rfl ht hc,
    fun _ _ ht hc hfail => sensorRecheck_answers rfl ht hc hfail,
    fun _ _ hst hon => calibrationCheckDone_answers hst hon rfl rfl,
    fun _ _ hst hon hbins => checkNoref_answers hst hon hbins,
    fun _ _ mask i ht => bankSwapRequest_answers mask i ht⟩

end Sys2Proof.Machine
end

section
/-! ## CNPY: the grid, the residual estimator and projections (R209, R214, R216, R219 to R221) -/

namespace Sys2Proof.Machine

variable {s : State} {d : Dev} {a : Acc} {vl : List Vr}

/-! ### What an update of the grid writes (R209) -/

/-- The variables of CNPY that an update writes beside nextTk, gridTk and gridNew. -/
def fillVars : List Vr := [V.boundAt, V.chkBins, V.chkOn, V.chkRef, V.chkThV, V.gridAt, V.gridCleared, V.gridClr, V.gridDist, V.gridExcl, V.gridFlt,
  V.gridFused, V.gridInv, V.gridOx, V.gridOy, V.gridPsi, V.gridPx, V.gridPy, V.gridSweep, V.gridSx, V.gridSy, V.gridV, V.gridW, V.gridXA, V.gridYA,
  V.hdrStop, V.resBins, V.resCells, V.resLast]

/-- The same with those of its accesses to DRAM. -/
def gridVars : List Vr := accessVars ++ fillVars

@[simp] theorem access_gridVars : accessVars ⊆ gridVars := List.subset_append_left ..

theorem mem_gridVars {x : Vr} : x ∈ gridVars ↔ x ∈ accessVars ∨ x ∈ fillVars := List.mem_append

@[simp] theorem Dev.others_handsLeft (d : Dev) (tk : Int) : (d.handsLeft tk).others vl = d.others vl := by
  simp [Dev.handsLeft]

@[simp] theorem Dev.others_handsOld (d : Dev) (tk : Int) : (d.handsOld tk).others vl = d.others vl := by
  simp [Dev.handsOld]

@[simp] theorem Dev.others_gridChecks (d : Dev) (tk : Int) : (d.gridChecks tk).others gridVars = d.others gridVars := by
  refine Dev.others_each _ _ _ fun i a => ?_
  simp only []
  split <;> simp [mem_gridVars, fillVars]

@[simp] theorem Dev.others_boundary (d : Dev) (slot u : Nat) : (d.boundary slot u).others gridVars = d.others gridVars :=
  Dev.others_mark (by simp [mem_gridVars, fillVars]) ..

/-- The variables of a state but for those of an update: of the whole state, so that no proof has to run the loops over the grid to compare devices. -/
def State.besideGrid (s : State) : {x : Vr // ∀ y ∈ gridVars, x.id ≠ y.id} → Nat → Int := s.dev.others gridVars

theorem State.besideGrid_dev (s : State) (e : Dev) : State.besideGrid { s with dev := e } = e.others gridVars := rfl

theorem State.besideGrid_each {α : Type} (s : State) (l : List α) (k : α → State → State) (h : ∀ i a, (k i a).besideGrid = a.besideGrid) :
    (s.each l k).besideGrid = s.besideGrid :=
  State.others_each s l k h

theorem State.besideGrid_gridPut (s : State) (addr : Nat) (l : List Nat) : (s.gridPut addr l).besideGrid = s.besideGrid := by
  unfold State.besideGrid State.gridPut
  split
  all_goals next he => simp [State.others_of_eq he, State.others_devWrite, mem_gridVars, fillVars]

theorem State.besideGrid_cellClear (s : State) (row col : Nat) : (s.cellClear row col).besideGrid = s.besideGrid := s.besideGrid_gridPut ..

theorem State.besideGrid_gridScroll (s : State) : s.gridScroll.besideGrid = s.besideGrid := by
  unfold State.gridScroll
  extract_lets d x y sx sy all d1 d2 d3 t cols rows u
  have h1 : d1.others gridVars = d.others gridVars := by simp [d1, mem_gridVars, fillVars]
  have h2 : d2.others gridVars = d1.others gridVars := by simp [d2, mem_gridVars, fillVars]
  have h3 : d3.others gridVars = d2.others gridVars := by simp [d3, mem_gridVars, fillVars]
  have ht : t.besideGrid = s.besideGrid := (s.besideGrid_dev d3).trans (h3.trans (h2.trans h1))
  have hu : u.besideGrid = t.besideGrid := State.besideGrid_each t cols _ fun i v => State.besideGrid_each v _ _ fun j w => w.besideGrid_cellClear ..
  split
  · exact (State.besideGrid_each t _ _ fun r v => State.besideGrid_each v _ _ fun c w => w.besideGrid_cellClear ..).trans ht
  · exact (State.besideGrid_each u rows _ fun j v => State.besideGrid_each v _ _ fun i w => w.besideGrid_cellClear ..).trans (hu.trans ht)

@[simp] theorem State.others_rows (s : State) (base str len n : Nat) (h : accessVars ⊆ vl) : (s.rows base str len n).1.dev.others vl = s.dev.others vl := by
  induction n generalizing s base with
  | zero => rfl
  | succ k ih =>
    unfold State.rows
    split
    · next he => simp [h, State.others_of_eq he]
    next he =>
    split
    all_goals next hr => simp [h, State.others_of_eq hr, State.others_of_eq he, ih]

@[simp] theorem State.others_handObs (s : State) (x : Hand) (h : accessVars ⊆ vl) : (s.handObs x).1.dev.others vl = s.dev.others vl := by
  simp only [State.handObs]
  split
  · split <;> simp [h]
  split
  · next he => simp [h, State.others_of_eq he]
  next he =>
  split
  all_goals next hr => simp [h, State.others_of_eq hr, State.others_of_eq he]

@[simp] theorem State.others_binObs (s : State) (l : List Hand) (h : accessVars ⊆ vl) : (s.binObs l).1.dev.others vl = s.dev.others vl := by
  induction l generalizing s with
  | nil => rfl
  | cons x t ih =>
    unfold State.binObs
    split
    · next he => simp [h, State.others_of_eq he, ih]
    next he =>
    split
    next hb => simp [h, State.others_of_eq hb, State.others_of_eq he, ih]

theorem State.besideGrid_fuseCell (s : State) (i j : Nat) (l : List CellObs) : (s.fuseCell i j l).besideGrid = s.besideGrid := by
  unfold State.fuseCell
  extract_lets r c st src t k sens conf u
  have ht : t.besideGrid = s.besideGrid := State.besideGrid_each s _ _ fun ch v => by
    split
    · exact v.besideGrid_gridPut ..
    · rfl
  exact (u.besideGrid_gridPut ..).trans ((t.besideGrid_gridPut ..).trans ht)

theorem State.besideGrid_residualBin (s : State) (obs : List CellObs) (i : Nat) : (s.residualBin obs i).besideGrid = s.besideGrid := by
  simp [State.besideGrid, State.residualBin, mem_gridVars, fillVars]

theorem State.besideGrid_gridFuse (s : State) (tk : Int) : (s.gridFuse tk).besideGrid = s.besideGrid := by
  unfold State.gridFuse
  extract_lets fs hs
  split
  next t ok obs he =>
  extract_lets fs' obs' u v
  have ht : t.besideGrid = s.besideGrid := (State.others_of_eq he).trans (State.others_binObs s hs access_gridVars)
  have hu : u.besideGrid = t.besideGrid := Dev.others_each _ _ _ fun i e => Dev.others_setVar (by simp [mem_gridVars, fillVars]) ..
  have hv : v.besideGrid = u.besideGrid := State.besideGrid_each u _ _ fun i w => w.besideGrid_residualBin ..
  exact (State.besideGrid_each v _ _ fun x w => w.besideGrid_fuseCell ..).trans (hv.trans (hu.trans ht))

theorem State.besideGrid_gridSweep (s : State) : s.gridSweep.besideGrid = s.besideGrid := by
  unfold State.gridSweep
  extract_lets g q u
  have hu : u.besideGrid = s.besideGrid := State.besideGrid_each s _ _ fun r v => State.besideGrid_each v _ _ fun c w => by
    extract_lets st
    split
    · exact (State.besideGrid_gridPut ..).trans (State.besideGrid_gridPut ..)
    · rfl
  exact (u.besideGrid_dev _).trans ((Dev.others_setVar (by simp [mem_gridVars, fillVars]) ..).trans hu)

/-! ### GRID_UPDATE (R209, R216, R221) -/

/-- The device at Tk once the next update is set and the checks of the bin have begun. -/
def Dev.gridBin (d : Dev) : Dev :=
  (((d.setVar V.nextTk 0 (d.var V.nextTk 0 + d.gper)).setVar V.gridNew 0 0).gridChecks (d.var V.nextTk 0)).boundary 0x18 wideUnit

@[simp] theorem Dev.view_gridBin (d : Dev) (κ : Scope) : d.gridBin.view κ = d.view κ := by
  simp +decide [Dev.gridBin]

theorem Dev.gridBin_get (d : Dev) {g : Fld} (hg : Scope.Keeps { flds := [] } g) (i : Nat) : d.gridBin.get g i = d.get g i :=
  Dev.get_of_view (d.view_gridBin _) hg i

theorem Dev.gridBin_nextTk (d : Dev) : d.gridBin.var V.nextTk 0 = d.var V.nextTk 0 + d.gper := by
  rw [Dev.gridBin, Dev.var_of_others (Dev.others_boundary ..) (by decide), Dev.var_of_others (Dev.others_gridChecks ..) (by decide),
    Dev.var_setVar_id _ _ _ _ (by decide), Dev.var_setVar_same]

theorem Dev.gridBin_gridNew (d : Dev) : d.gridBin.var V.gridNew 0 = 0 := by
  rw [Dev.gridBin, Dev.var_of_others (Dev.others_boundary ..) (by decide), Dev.var_of_others (Dev.others_gridChecks ..) (by decide), Dev.var_setVar_same]

/-- The hand-offs of a bin whose update is skipped count as LATE. -/
def Dev.gridLate (d : Dev) (tk : Int) : Dev := (d.hands.filter (fun h => d.inBin tk h.fr.stamp)).foldl (fun a h => a.senLate h.sen) (d.handsLeft tk)

/-- The device once an update has begun, before the scroll. -/
def Dev.gridStarted (d : Dev) (tk : Int) : Dev :=
  let d := ((((d.handsOld tk).setVar V.gridTk 0 tk).incWrap F.CNPY_GSEQ_SEQ 0).mark V.gridAt 0).setVar V.resLast 0 (d.binAt tk)
  let d := (((d.setVar V.gridFused 0 0).setVar V.gridFlt 0 0).setVar V.gridCleared 0 0).setVar V.gridExcl 0 (d.get F.CNPY_EXCL_MASK 0)
  let d := ((d.setVar V.gridDist 0 (d.getI F.EGO_DIST_DIST 0)).setVar V.gridV 0 (d.getI F.EGO_SPEED_V 0)).setVar V.gridW 0 (d.getI F.EGO_YAWRATE_W 0)
  ((d.setVar V.gridPx 0 (d.getI F.EGO_X_POS 0)).setVar V.gridPy 0 (d.getI F.EGO_Y_POS 0)).setVar V.gridPsi 0 (d.get F.EGO_YAW_YAW 0)

theorem Dev.gridStarted_seq (d : Dev) (tk : Int) :
    (d.gridStarted tk).get F.CNPY_GSEQ_SEQ 0 = (d.get F.CNPY_GSEQ_SEQ 0 + 1) % 2 ^ F.CNPY_GSEQ_SEQ.width := by
  have hold : (d.handsOld tk).get F.CNPY_GSEQ_SEQ 0 = d.get F.CNPY_GSEQ_SEQ 0 :=
    Dev.get_of_view (Dev.view_handsOld (κ := { flds := [F.CNPY_SEN_CNT_LATE] }) d tk List.mem_cons_self) (by unfold Scope.Keeps; decide) 0
  simp only [Dev.gridStarted, Dev.get_setVar, Dev.mark_get, Dev.incWrap, Dev.get_set_same, hold]

theorem Dev.others_gridStarted (d : Dev) (tk : Int) : (d.gridStarted tk).others gridVars = (d.setVar V.gridTk 0 tk).others gridVars := by
  have hset := Dev.others_setVar_congr (vl := gridVars) (d.others_handsOld tk) V.gridTk 0 tk
  simp [Dev.gridStarted, mem_gridVars, fillVars, hset]

/-- Steps 1 to 4 of an update: the scroll and the bin's observations where the pose is valid, then the sweep. -/
def State.gridFilled (s : State) (tk : Int) : State :=
  (if s.dev.on F.EGO_STAT_VALID 0 then s.gridScroll.gridFuse tk
    else { s with dev := ((s.dev.setVar V.gridInv 0 1).setVar V.gridSx 0 0).setVar V.gridSy 0 0 }).gridSweep

theorem State.besideGrid_gridFilled (s : State) (tk : Int) : (s.gridFilled tk).besideGrid = s.besideGrid := by
  refine (State.besideGrid_gridSweep _).trans ?_
  split
  · exact (State.besideGrid_gridFuse ..).trans s.besideGrid_gridScroll
  · refine (s.besideGrid_dev _).trans ?_
    simp [State.besideGrid, mem_gridVars, fillVars]

theorem State.gridFilled_get (s : State) (tk : Int) {g : Fld} (hg : Scope.Keeps { flds := iommuFaultFlds ++ [F.CNPY_SEN_CNT_LATE], mem := true } g) (i : Nat) :
    (s.gridFilled tk).dev.get g i = s.dev.get g i := by
  refine State.get_of_view ((State.view_gridSweep _ (List.subset_append_left ..) rfl).trans ?_) hg i
  split
  · exact (State.view_gridFuse _ _ (List.Subset.refl _) rfl).trans (State.view_gridScroll _ (List.subset_append_left ..) rfl)
  · simp +decide

/-- Tk has come. -/
def Dev.gridDue (d : Dev) : Prop := d.running 0x18 = true ∧ 0 ≤ d.var V.nextTk 0 ∧ d.var V.nextTk 0 * 65536 ≤ d.var V.grove 0

theorem Dev.gridDue_iff (d : Dev) : d.gridDue ↔
    ¬ (!d.running 0x18 || decide (d.var V.nextTk 0 < 0) || decide (d.var V.grove 0 < d.var V.nextTk 0 * 65536)) = true := by
  simp [Dev.gridDue, and_assoc]

/-- At Tk the checks alone run, or the update is skipped, or it starts and fills the grid. -/
theorem State.gridUpdate_due (hdue : s.dev.gridDue) {tk : Int} (htk : tk = s.dev.var V.nextTk 0) {t : State}
    (ht : t = State.gridFilled { s with dev := s.dev.gridBin.gridStarted tk } tk) : s.gridUpdate =
      if s.dev.get F.COM_CTRL_MODE 0x18 = 1 then { s with dev := (s.dev.gridBin.setVar V.gridTk 0 tk).handsLeft tk }
      else if s.dev.get F.CNPY_GSEQ_SEQ 0 % 2 = 1 then
        { s with dev := (((s.dev.gridBin.gridLate tk).incSat F.CNPY_UPDSTAT_OVR 0).irq 0x18 8).errBlk 0x18 4 1 }
      else { t with dev := t.dev.handsLeft tk } := by
  subst htk
  rw [← s.dev.gridBin_get (g := F.COM_CTRL_MODE) (by unfold Scope.Keeps; decide),
    ← s.dev.gridBin_get (g := F.CNPY_GSEQ_SEQ) (by unfold Scope.Keeps; decide)]
  unfold State.gridUpdate
  extract_lets tk d0 late dl dl' d1 d2 d3 d4 s1 s2
  have hs : s2 = t := Eq.trans rfl ht.symm
  rw [if_neg (s.dev.gridDue_iff.mp hdue), hs]
  rfl

theorem gridUpdate_starts_answers (hdue : s.dev.gridDue) (hmode : s.dev.get F.COM_CTRL_MODE 0x18 ≠ 1) (heven : s.dev.get F.CNPY_GSEQ_SEQ 0 % 2 = 0) :
    Answers (.gridUpdate ()) s (fun t => t.dev.get F.CNPY_GSEQ_SEQ 0 = (s.dev.get F.CNPY_GSEQ_SEQ 0 + 1) % 2 ^ F.CNPY_GSEQ_SEQ.width ∧
      t.dev.var V.gridTk 0 = s.dev.var V.nextTk 0 ∧ t.dev.var V.nextTk 0 = s.dev.var V.nextTk 0 + s.dev.gper ∧ t.dev.var V.gridNew 0 = 0) := by
  refine ⟨s.gridUpdate, rfl, ?_⟩
  obtain ⟨t, ht⟩ : ∃ t, t = State.gridFilled { s with dev := s.dev.gridBin.gridStarted (s.dev.var V.nextTk 0) } (s.dev.var V.nextTk 0) := ⟨_, rfl⟩
  have hvars : (t.dev.handsLeft (s.dev.var V.nextTk 0)).others gridVars = (s.dev.gridBin.setVar V.gridTk 0 (s.dev.var V.nextTk 0)).others gridVars :=
    (Dev.others_handsLeft ..).trans (ht ▸ (State.besideGrid_gridFilled ..).trans ((s.besideGrid_dev _).trans (Dev.others_gridStarted ..)))
  rw [State.gridUpdate_due hdue rfl ht, if_neg hmode, if_neg (by rw [heven]; decide)]
  refine ⟨?_, ?_, ?_, ?_⟩
  · rw [Dev.get_of_view (Dev.view_handsLeft (κ := { flds := [] }) ..) (by unfold Scope.Keeps; decide), ht,
      State.gridFilled_get _ _ (by unfold Scope.Keeps; decide), Dev.gridStarted_seq, Dev.gridBin_get _ (by unfold Scope.Keeps; decide)]
  · rw [Dev.var_of_others hvars (by decide), Dev.var_setVar_same]
  · rw [Dev.var_of_others hvars (by decide), Dev.var_setVar_id _ _ _ _ (by decide), Dev.gridBin_nextTk]
  · rw [Dev.var_of_others hvars (by decide), Dev.var_setVar_id _ _ _ _ (by decide), Dev.gridBin_gridNew]

theorem gridUpdate_skips_answers (hdue : s.dev.gridDue) (hmode : s.dev.get F.COM_CTRL_MODE 0x18 ≠ 1) (hodd : s.dev.get F.CNPY_GSEQ_SEQ 0 % 2 = 1) :
    Answers (.gridUpdate ()) s (fun t => t.dev.get F.CNPY_GSEQ_SEQ 0 = s.dev.get F.CNPY_GSEQ_SEQ 0 ∧
      t.dev.var V.nextTk 0 = s.dev.var V.nextTk 0 + s.dev.gper ∧
      t.dev.get F.CNPY_UPDSTAT_OVR 0 = min (s.dev.get F.CNPY_UPDSTAT_OVR 0 + 1) (2 ^ F.CNPY_UPDSTAT_OVR.width - 1)) := by
  refine ⟨s.gridUpdate, rfl, ?_⟩
  obtain ⟨d, hd⟩ : ∃ d, d = s.dev.gridBin.gridLate (s.dev.var V.nextTk 0) := ⟨_, rfl⟩
  have hview : d.view { flds := [F.CNPY_SEN_CNT_LATE] } = s.dev.view { flds := [F.CNPY_SEN_CNT_LATE] } := by
    rw [hd, Dev.gridLate]
    simp
  have hvars : d.others [] = s.dev.gridBin.others [] := by
    rw [hd, Dev.gridLate]
    simp
  rw [State.gridUpdate_due hdue rfl rfl, if_neg hmode, if_pos hodd, ← hd]
  refine ⟨?_, ?_, ?_⟩
  · rw [Dev.errBlk_get _ _ _ _ _ _ _ (by decide), Dev.irq_get _ _ _ _ _ (by decide), Dev.incSat, Dev.get_set_kid _ _ _ _ (by decide),
      Dev.get_of_view hview (by unfold Scope.Keeps; decide)]
  · rw [Dev.errBlk_var, Dev.irq_var, Dev.incSat, Dev.var_set, Dev.var_of_others hvars (by simp), Dev.gridBin_nextTk]
  · rw [Dev.errBlk_get _ _ _ _ _ _ _ (by decide), Dev.irq_get _ _ _ _ _ (by decide), Dev.get_incSat_same,
      Dev.get_of_view hview (by unfold Scope.Keeps; decide)]

theorem gridUpdate_checkOnly_answers (hdue : s.dev.gridDue) (hmode : s.dev.get F.COM_CTRL_MODE 0x18 = 1) :
    Answers (.gridUpdate ()) s (fun t => t.dev.get F.CNPY_GSEQ_SEQ 0 = s.dev.get F.CNPY_GSEQ_SEQ 0 ∧
      t.dev.var V.nextTk 0 = s.dev.var V.nextTk 0 + s.dev.gper ∧ t.mem = s.mem) := by
  refine ⟨s.gridUpdate, rfl, ?_⟩
  rw [State.gridUpdate_due hdue rfl rfl, if_pos hmode]
  refine ⟨?_, ?_, rfl⟩
  · rw [Dev.get_of_view (Dev.view_handsLeft (κ := { flds := [] }) ..) (by unfold Scope.Keeps; decide), Dev.get_setVar,
      Dev.gridBin_get _ (by unfold Scope.Keeps; decide)]
  · rw [Dev.var_of_others (Dev.others_handsLeft (vl := []) ..) (by simp), Dev.var_setVar_id _ _ _ _ (by decide), Dev.gridBin_nextTk]

/-! ### GRID_UPDATE_DONE and GRID_CLEAR (R209, R214, R227) -/

/-- How long the update has taken, in microseconds. -/
def State.gridDur (s : State) : Nat := (s.dev.since V.gridAt 0 / 65536000).toNat

/-- The header of an update: its origin is shown and its record written, unless a fault has stopped the ring. -/
def State.gridHeaded (s : State) : State :=
  let dur := s.gridDur
  let n := max 2 (s.dev.get F.CNPY_HDR_CFG_NHDR.act 0)
  let k := (s.dev.var V.hdrWr 0).toNat % n
  if s.dev.var V.hdrStop 0 = 1 then s
  else
    let d := s.dev
    let s : State := { s with dev := (d.set F.CNPY_ORG_ORGX 0 (d.var V.gridOx 0).toNat).set F.CNPY_ORG_ORGY 0 (d.var V.gridOy 0).toNat }
    let s := s.gridPut (s.dev.get F.CNPY_HDR_BASE.act 0 / 4096 * 4096 + 64 * k) (s.gridHeader dur)
    { s with dev := s.dev.setVar V.hdrWr 0 (((k + 1) % n : Nat) : Int) }

/-- The end of an update. -/
def Dev.gridEnded (d : Dev) (dur : Nat) : Dev :=
  let d := (((d.incWrap F.CNPY_GSEQ_SEQ 0).set F.CNPY_UPDSTAT_DUR 0 (min dur 65535)).setPast 19 0
    ((d.past 19 0).filter (fun e => decide (2 * d.binAt (d.var V.gridTk 0) + d.gper ≤ 2 * e.1)))).irq 0x18 0
  let d := (d.setVar V.gridNew 0 1).mark V.gridDoneAt 0
  if d.var V.gridFlt 0 = 1 then d else d.set F.COM_STAT_FAULT 0x18 0

theorem State.gridDone_ends (hodd : s.dev.get F.CNPY_GSEQ_SEQ 0 % 2 = 1) :
    s.gridDone = { s.gridHeaded with dev := s.gridHeaded.dev.gridEnded s.gridDur } := by
  rw [State.gridDone, if_neg (by omega)]
  rfl

/-- The fields that the writes of an update to memory leave. -/
theorem State.gridPut_get (s : State) (addr : Nat) (l : List Nat) {g : Fld} (hg : Scope.Keeps { flds := iommuFaultFlds, mem := true } g) (i : Nat) :
    (s.gridPut addr l).dev.get g i = s.dev.get g i :=
  State.get_of_view (State.view_gridPut s addr l (List.Subset.refl _) rfl) hg i

theorem State.gridHeaded_seq (s : State) : s.gridHeaded.dev.get F.CNPY_GSEQ_SEQ 0 = s.dev.get F.CNPY_GSEQ_SEQ 0 := by
  unfold State.gridHeaded
  extract_lets dur n k d t u
  split
  · rfl
  · rw [Dev.get_setVar, State.gridPut_get _ _ _ (by unfold Scope.Keeps; decide), Dev.get_set_kid _ _ _ _ (by decide), Dev.get_set_kid _ _ _ _ (by decide)]

theorem State.gridHeaded_org (h : s.dev.var V.hdrStop 0 ≠ 1) :
    s.gridHeaded.dev.get F.CNPY_ORG_ORGX 0 = (s.dev.var V.gridOx 0).toNat % 2 ^ F.CNPY_ORG_ORGX.width := by
  unfold State.gridHeaded
  extract_lets dur n k d t u
  rw [if_neg h, Dev.get_setVar, State.gridPut_get _ _ _ (by unfold Scope.Keeps; decide), Dev.get_set_kid _ _ _ _ (by decide), Dev.get_set_same]

theorem Dev.gridEnded_get (d : Dev) (dur : Nat) {g : Fld} (hg : Scope.Keeps { flds := [F.CNPY_UPDSTAT_DUR, F.COM_STAT_FAULT] } g) (i : Nat) :
    (d.gridEnded dur).get g i = (d.incWrap F.CNPY_GSEQ_SEQ 0).get g i :=
  Dev.get_of_view (by simp +decide [Dev.gridEnded]) hg i

theorem Dev.gridEnded_gridNew (d : Dev) (dur : Nat) : (d.gridEnded dur).var V.gridNew 0 = 1 := by
  have hnew : ∀ e : Dev, ((e.setVar V.gridNew 0 1).mark V.gridDoneAt 0).var V.gridNew 0 = 1 := fun e =>
    (Dev.var_setVar_id _ _ _ _ (by decide)).trans (Dev.var_setVar_same ..)
  unfold Dev.gridEnded
  extract_lets d1 d2
  split
  · exact hnew d1
  · exact hnew d1

theorem gridUpdateDone_answers (hodd : s.dev.get F.CNPY_GSEQ_SEQ 0 % 2 = 1) : Answers .gridUpdateDone s (fun t =>
    t.dev.get F.CNPY_GSEQ_SEQ 0 = (s.dev.get F.CNPY_GSEQ_SEQ 0 + 1) % 2 ^ F.CNPY_GSEQ_SEQ.width ∧ t.dev.var V.gridNew 0 = 1 ∧
    (s.dev.var V.hdrStop 0 ≠ 1 → t.dev.get F.CNPY_ORG_ORGX 0 = (s.dev.var V.gridOx 0).toNat % 2 ^ F.CNPY_ORG_ORGX.width)) := by
  refine ⟨s.gridDone, rfl, ?_⟩
  rw [State.gridDone_ends hodd]
  refine ⟨?_, Dev.gridEnded_gridNew .., fun hgo => ?_⟩
  · rw [Dev.gridEnded_get _ _ (by unfold Scope.Keeps; decide), Dev.incWrap, Dev.get_set_same, State.gridHeaded_seq]
  · rw [Dev.gridEnded_get _ _ (by unfold Scope.Keeps; decide), Dev.incWrap, Dev.get_set_kid _ _ _ _ (by decide), State.gridHeaded_org hgo]

theorem gridClear_answers (ht : Taken s 0x18 a) : Answers (.gridClear a) s (fun t => t.dev.var V.gridClr 0 = 1 ∧ t.dev.var V.hdrStop 0 = 0) := by
  have hx : exec (.gridClear a) s = execGridClear a s := rfl
  rw [execGridClear, upd_wr_taken ht _ _ (fun _ => true)] at hx
  refine ⟨_, hx, ?_, ?_⟩
  · rw [Dev.ended_var, Dev.var_setVar_id _ _ _ _ (by decide), Dev.var_setVar_same]
  · rw [Dev.ended_var, Dev.var_setVar_same]

/-! ### RESIDUAL_RECORD (R219) -/

theorem toBits_mod (w : Nat) (v : Int) : toBits w v % 2 ^ w = toBits w v := by
  have hpos : (0 : Int) < (2 ^ w : Nat) := by positivity
  have hlt := Int.emod_lt_of_pos v hpos
  exact Nat.mod_eq_of_lt (by rw [toBits]; omega)

theorem Dev.get_setI_same (d : Dev) (f : Fld) (i : Nat) (v : Int) : (d.setI f i v).get f i = toBits f.width v := by
  rw [Dev.setI, Dev.get_set_same, toBits_mod]

theorem Dev.get_setI_kid (d : Dev) {f g : Fld} (i j : Nat) (v : Int) (h : g.kid ≠ f.kid) : (d.setI f i v).get g j = d.get g j := Dev.get_set_kid _ _ _ _ h

/-- A sensor's record with the corrections found, and its bins begun anew. -/
def Dev.residualOut (d : Dev) (i : Nat) : Dev :=
  let b := (d.var V.resBins i).toNat
  let r := Config.residual (d.past 20 i)
  let d := (d.incWrap F.CRES_SEQ_V i).set F.CRES_INFO_V i (bit (decide ((2000 : Int) * b ≤ d.var V.resCells i)) + min b 255 * 256 +
    min (r 6).toNat 65535 * 65536)
  let d := (((d.setI F.CRES_DROLL_V i (r 0)).setI F.CRES_DPITCH_V i (r 1)).setI F.CRES_DYAW_V i (r 2)).setI F.CRES_DX_V i (r 3)
  let d := ((d.setI F.CRES_DY_V i (r 4)).setI F.CRES_DZ_V i (r 5)).setI F.CRES_TK_V i (d.var V.resLast 0 / 1000000)
  (((d.setVar V.resBins i 0).setVar V.resCells i 0).setPast 20 i []).irq 0x18 6

theorem Dev.residual_full {i : Nat} (hrun : d.running 0x18 = true) (hen : d.get F.CNPY_RES_CFG_EN.act 0 = 1)
    (hbins : ((max 1 (d.get F.CNPY_RES_CFG_NACC.act 0) : Nat) : Int) ≤ d.var V.resBins i) : d.residual i = d.residualOut i := by
  have hgo : ¬ (!(d.running 0x18 && d.on F.CNPY_RES_CFG_EN.act 0) || decide ((d.var V.resBins i).toNat < max 1 (d.get F.CNPY_RES_CFG_NACC.act 0))) = true := by
    simp only [hrun, Dev.on, hen, Bool.true_and, beq_self_eq_true, Bool.not_true, Bool.false_or, decide_eq_true_eq]
    omega
  unfold Dev.residual
  extract_lets n b r d1 d2 d3
  rw [if_neg hgo]
  rfl

theorem Dev.residualOut_shows (d : Dev) (i : Nat) :
    (d.residualOut i).get F.CRES_SEQ_V i = (d.get F.CRES_SEQ_V i + 1) % 2 ^ F.CRES_SEQ_V.width ∧ (d.residualOut i).var V.resBins i = 0 ∧
    (d.residualOut i).get F.CRES_DX_V i = toBits 32 (Config.residual (d.past 20 i) 3) ∧
    (d.residualOut i).get F.CRES_DYAW_V i = toBits 32 (Config.residual (d.past 20 i) 2) := by
  unfold Dev.residualOut
  extract_lets b r d1 d2 d3
  have hget : ∀ g : Fld, g.own = true → ((((d3.setVar V.resBins i 0).setVar V.resCells i 0).setPast 20 i []).irq 0x18 6).get g i = d3.get g i := fun g hg =>
    (Dev.irq_get _ _ _ _ _ hg).trans rfl
  refine ⟨?_, ?_, ?_, ?_⟩
  · rw [hget _ (by decide)]
    simp +decide [d3, d2, d1, Dev.get_setI_kid, Dev.get_set_kid, Dev.incWrap]
  · rw [Dev.irq_var]
    exact (Dev.var_setVar_id _ _ _ _ (by decide)).trans (Dev.var_setVar_same ..)
  · have hdx : d3.get F.CRES_DX_V i = d2.get F.CRES_DX_V i := by simp +decide [d3, Dev.get_setI_kid]
    rw [hget _ (by decide), hdx]
    exact Dev.get_setI_same ..
  · have hdyaw : d3.get F.CRES_DYAW_V i = toBits F.CRES_DYAW_V.width (r 2) := by simp +decide [d3, d2, Dev.get_setI_kid, Dev.get_setI_same]
    rw [hget _ (by decide), hdyaw]
    rfl

theorem residualRecord_answers {i : Fin 8} (hrun : s.dev.running 0x18 = true) (hen : s.dev.get F.CNPY_RES_CFG_EN.act 0 = 1)
    (hbins : ((max 1 (s.dev.get F.CNPY_RES_CFG_NACC.act 0) : Nat) : Int) ≤ s.dev.var V.resBins i) : Answers (.residualRecord i ()) s (fun t =>
      t.dev.get F.CRES_SEQ_V i = (s.dev.get F.CRES_SEQ_V i + 1) % 2 ^ F.CRES_SEQ_V.width ∧ t.dev.var V.resBins i = 0 ∧
      t.dev.get F.CRES_DX_V i = toBits 32 (Config.residual (s.dev.past 20 i) 3) ∧
      t.dev.get F.CRES_DYAW_V i = toBits 32 (Config.residual (s.dev.past 20 i) 2)) := by
  refine ⟨{ s with dev := s.dev.residual i }, rfl, ?_⟩
  rw [Dev.residual_full hrun hen hbins]
  exact s.dev.residualOut_shows i

/-! ### PROJECTION_GO and PROJECTION_DONE (R220, R221) -/

/-- A software job with its operands waits. -/
def Dev.projQueued (d : Dev) (v : Nat) : Dev :=
  let d := (((d.set F.CNPY_HP_CTRL_SBUF 0 (v / 2 ^ 24)).set F.CNPY_HP_CTRL_DBUF 0 (v / 2 ^ 16)).set F.CNPY_HP_CTRL_SRC 0 (v / 2 ^ 8)).set
    F.CNPY_HP_CTRL_DST 0 (v / 16)
  (d.set F.CNPY_HP_CTRL_BANK 0 (v / 2)).set F.CNPY_HP_STAT_ST 0 1

/-- A waiting job runs unless a check does. -/
theorem Dev.projGo_state (h : d.get F.CNPY_HP_STAT_ST 0 = 1) :
    d.projGo.get F.CNPY_HP_STAT_ST 0 = if (List.range 8).any (fun i => d.var V.chkOn i == 1) = true then 1 else 2 := by
  unfold Dev.projGo
  split
  case isTrue hgo => rw [if_neg hgo.2, Dev.get_set_same]; rfl
  case isFalse hwait => rw [if_pos (by_contra fun hno => hwait ⟨h, hno⟩), h]

theorem projectionGo_answers (v : BitVec 32) (ht : Taken s 0x18 a) (hone : s.dev.get F.CNPY_HP_STAT_ST 0 ≠ 1) (htwo : s.dev.get F.CNPY_HP_STAT_ST 0 ≠ 2) :
    Answers (.projectionGo a v) s (fun t =>
      t.dev.get F.CNPY_HP_STAT_ST 0 = (if (List.range 8).any (fun i => s.dev.var V.chkOn i == 1) = true then 1 else 2) ∧
      t.dev.get F.CNPY_HP_CTRL_SBUF 0 = v.toNat / 2 ^ 24) := by
  have hx : exec (.projectionGo a v) s = execProjectionGo a v s := rfl
  rw [execProjectionGo, upd_wr_taken ht _ _ (fun _ => true)] at hx
  refine ⟨_, hx, ?_⟩
  have hidle : ¬ ((s.dev.counted 0x18 a.bank.val).get F.CNPY_HP_STAT_ST 0 = 1 ∨ (s.dev.counted 0x18 a.bank.val).get F.CNPY_HP_STAT_ST 0 = 2) := by
    rw [Dev.counted_get _ _ _ _ (by decide)]
    exact not_or.mpr ⟨hone, htwo⟩
  obtain ⟨e, he⟩ : ∃ e, e = (s.dev.counted 0x18 a.bank.val).projQueued v.toNat := ⟨_, rfl⟩
  have hchk : ∀ i, e.var V.chkOn i = s.dev.var V.chkOn i := fun i => by
    rw [he, Dev.projQueued]
    simp only [Dev.var_set, Dev.counted_var]
  have hst : e.get F.CNPY_HP_STAT_ST 0 = 1 := by rw [he, Dev.projQueued, Dev.get_set_same]; rfl
  have hsbuf : e.get F.CNPY_HP_CTRL_SBUF 0 = v.toNat / 2 ^ 24 := by
    have hlt := v.isLt
    simp +decide [he, Dev.projQueued, Dev.get_set, show F.CNPY_HP_CTRL_SBUF.width = 8 from rfl]
    omega
  dsimp only
  rw [if_neg hidle, ← Dev.projQueued, ← he, Dev.ended_get, Dev.ended_get, Dev.projGo_state hst, Dev.projGo_get _ (by unfold Scope.Keeps; decide)]
  simp only [hchk]
  exact ⟨trivial, hsbuf⟩

/-- The places of a projection onto a target in a bank, as the device's registers give the camera. -/
def Dev.projSize (d : Dev) (bank dst : Nat) : Nat := if 6 ≤ dst then 160000 else (d.cam bank dst).w * (d.cam bank dst).h

/-- A job's image, where one is asked for. -/
def State.projWrite (s : State) (src dst n : Nat) (l : Option (List Match)) : State :=
  if s.dev.get F.CNPY_HP_OUT_BASE 0 = 0 then s
  else (s.devWrite 0x0180 (s.dev.get F.CNPY_HP_OUT_BASE 0) (s.dev.projImage src dst n (l.getD []))).1

/-- A job shows DONE with its score and overlap. -/
def Dev.projShown (d : Dev) (n : Nat) (score : Int) (ovl : Nat) : Dev :=
  (((({ d with free := d.free + 2 + n } : Dev).set F.CNPY_HP_STAT_ST 0 3).setI F.CNPY_HP_STAT_SCORE 0 score).set F.CNPY_HP_STAT_OVL 0 ovl).irq 0x18 5

theorem Dev.projShown_shows (d : Dev) (n : Nat) (score : Int) {ovl : Nat} (h : ovl < 65536) : (d.projShown n score ovl).get F.CNPY_HP_STAT_ST 0 = 3 ∧
    (d.projShown n score ovl).get F.CNPY_HP_STAT_OVL 0 = ovl ∧
    (d.projShown n score ovl).get F.CNPY_HP_STAT_SCORE 0 = toBits F.CNPY_HP_STAT_SCORE.width score := by
  unfold Dev.projShown
  refine ⟨?_, ?_, ?_⟩
  · rw [Dev.irq_get _ _ _ _ _ (by decide), Dev.get_set_kid _ _ _ _ (by decide), Dev.get_setI_kid _ _ _ _ (by decide), Dev.get_set_same]
    rfl
  · rw [Dev.irq_get _ _ _ _ _ (by decide), Dev.get_set_same]
    exact Nat.mod_eq_of_lt h
  · rw [Dev.irq_get _ _ _ _ _ (by decide), Dev.get_set_kid _ _ _ _ (by decide), Dev.get_setI_same]

/-- The end of a job whose frames are projected. -/
def State.projEnd (s : State) (src dst n : Nat) (l : Option (List Match)) : State :=
  { s.projWrite src dst n l with dev := (s.projWrite src dst n l).dev.projShown n (s.dev.projScore l) (s.dev.projOvl l) }

theorem State.projDone_ends (hst : s.dev.get F.CNPY_HP_STAT_ST 0 = 2) : s.projDone = (projOf s).1.projEnd (s.dev.get F.CNPY_HP_CTRL_SRC 0)
    (s.dev.get F.CNPY_HP_CTRL_DST 0) ((projOf s).1.dev.projSize (s.dev.get F.CNPY_HP_CTRL_BANK 0) (s.dev.get F.CNPY_HP_CTRL_DST 0)) (projOf s).2 := by
  rw [State.projDone, if_neg (not_not.mpr hst)]
  extract_lets src dst bank fr
  have hp : s.project src bank (fr src (s.dev.get F.CNPY_HP_CTRL_SBUF 0)) dst bank (fr dst (s.dev.get F.CNPY_HP_CTRL_DBUF 0)) = projOf s := rfl
  rw [hp]
  generalize projOf s = p
  obtain ⟨u, l⟩ := p
  rfl

/-- The projection of a job leaves the registers but for those that a fault of the IOMMU writes. -/
theorem projOf_get (s : State) {g : Fld} (hg : Scope.Keeps { flds := iommuFaultFlds, mem := true } g) (i : Nat) : (projOf s).1.dev.get g i = s.dev.get g i := by
  unfold projOf
  rw [State.get_of_view (State.view_project _ _ _ _ _ _ _ (List.Subset.refl _) rfl) hg]

theorem projSize_projOf (s : State) : (projOf s).1.dev.projSize (s.dev.get F.CNPY_HP_CTRL_BANK 0) (s.dev.get F.CNPY_HP_CTRL_DST 0) = projPlaces s := by
  have hw : ∀ bank i, ((projOf s).1.dev.cam bank i).w = (s.dev.cam bank i).w := fun bank i =>
    projOf_get s (g := F.CAL_SIZE_W) (by unfold Scope.Keeps; decide) _
  have hh : ∀ bank i, ((projOf s).1.dev.cam bank i).h = (s.dev.cam bank i).h := fun bank i =>
    projOf_get s (g := F.CAL_SIZE_H) (by unfold Scope.Keeps; decide) _
  rw [Dev.projSize, projPlaces, hw, hh]

theorem projectionDone_answers (hst : s.dev.get F.CNPY_HP_STAT_ST 0 = 2) : Answers (.projectionDone () () ()) s (fun t =>
    t.dev.get F.CNPY_HP_STAT_ST 0 = 3 ∧ t.dev.get F.CNPY_HP_STAT_OVL 0 = (projOf s).1.dev.projOvl (projOf s).2 ∧
    t.dev.get F.CNPY_HP_STAT_SCORE 0 = toBits F.CNPY_HP_STAT_SCORE.width ((projOf s).1.dev.projScore (projOf s).2) ∧
    (s.dev.get F.CNPY_HP_OUT_BASE 0 ≠ 0 → t.mem = ((projOf s).1.devWrite 0x0180 (s.dev.get F.CNPY_HP_OUT_BASE 0)
      ((projOf s).1.dev.projImage (s.dev.get F.CNPY_HP_CTRL_SRC 0) (s.dev.get F.CNPY_HP_CTRL_DST 0) (projPlaces s) ((projOf s).2.getD []))).1.mem) ∧
    (s.dev.get F.CNPY_HP_OUT_BASE 0 = 0 → t.mem = (projOf s).1.mem)) := by
  refine ⟨s.projDone, rfl, ?_⟩
  have hbase : (projOf s).1.dev.get F.CNPY_HP_OUT_BASE 0 = s.dev.get F.CNPY_HP_OUT_BASE 0 := projOf_get s (by unfold Scope.Keeps; decide) 0
  rw [State.projDone_ends hst, projSize_projOf, State.projEnd]
  generalize (projOf s).2 = l
  generalize (projOf s).1 = u at hbase ⊢
  dsimp only
  obtain ⟨w, hw⟩ : ∃ w, w = u.projWrite (s.dev.get F.CNPY_HP_CTRL_SRC 0) (s.dev.get F.CNPY_HP_CTRL_DST 0) (projPlaces s) l := ⟨_, rfl⟩
  obtain ⟨hdone, hovl, hscore⟩ := w.dev.projShown_shows (projPlaces s) (u.dev.projScore l) (u.dev.projOvl_lt l)
  rw [← hw]
  refine ⟨hdone, hovl, hscore, fun hout => ?_, fun hnone => ?_⟩
  · rw [hw, State.projWrite, hbase, if_neg hout]
  · rw [hw, State.projWrite, hbase, if_pos hnone]

/-- Settles O11: each clause is what its command answers; the loops of an update over the grid leave its instants, GSEQ and the time to sample, and a projection
leaves the registers that name the job. -/
theorem fusedGridAndProjection : Obligations.FusedGridAndProjection :=
  ⟨fun _ hrun hset htime hmode heven => gridUpdate_starts_answers ⟨hrun, hset, htime⟩ hmode heven,
    fun _ hrun hset htime hmode hodd => gridUpdate_skips_answers ⟨hrun, hset, htime⟩ hmode hodd,
    fun _ hrun hset htime hmode => gridUpdate_checkOnly_answers ⟨hrun, hset, htime⟩ hmode,
    fun _ hodd => gridUpdateDone_answers hodd,
    fun _ _ hrun hen hbins => residualRecord_answers hrun hen hbins,
    fun _ _ v ht hone htwo => projectionGo_answers v ht hone htwo,
    fun _ hst => projectionDone_answers hst,
    fun _ _ ht => gridClear_answers ht⟩

end Sys2Proof.Machine
end
